-- ==== Sys2Proof/Word.lean ====
section
/-! DEFINITION. The words and bytes of the device and their plainest arithmetic. -/

namespace Sys2Proof

/-- A register word: 32 bits (R11). -/
abbrev Word := BitVec 32

/-- A byte. -/
abbrev Byte := BitVec 8

namespace Machine

/-- A register field: the address of its word and its first and last bit. -/
structure Fld where
  addr : Nat
  hi : Nat
  lo : Nat
  deriving DecidableEq, Repr

end Machine

end Sys2Proof
end

