-- ==== Sys2Proof/Syntax/Payload.lean ====
section
/-! DEFINITION. What a host command carries: authorities, transports, times, changes, commissioning data, and the
commands of R516 with their payloads. -/

namespace Sys2Proof

/-- R42: the two command authorities. -/
inductive Auth where
  | general | gauntlet
  deriving DecidableEq, Repr

/-- R508, R509, R518: how a command reached the device. A command UDP packet names the network port, the source
address and UDP port of segment 0, and the XID the host chose. -/
inductive Transport where
  | hspi
  | udp (port ip udpPort xid : Nat)
  | chain (src seq : Nat)
  deriving DecidableEq, Repr

/-- A time field of R516: 6 bytes of seconds, 4 of nanoseconds and 2 of FRAC. -/
structure TimeField where
  sec : Nat
  ns : Nat
  frac : Nat
  deriving DecidableEq, Repr

/-- What the header and the trailer of an accepted command packet give (R505, R513): authority, sequence number,
the CRC of the trailer, the RETRY flag and the transport. -/
structure Hdr where
  auth : Auth
  seq : Nat
  crc : Word
  retry : Bool
  via : Transport
  deriving DecidableEq, Repr

/-- R54: the body of a CHANGE record, with the change index of R515. -/
structure Change where
  index : Nat
  addr : Nat
  target : Nat
  scope : Nat
  words : List Word
  deriving DecidableEq, Repr

/-- R522: one entry of the allow list. -/
structure AllowEntry where
  ip : Nat
  prefixLen : Nat
  deriving DecidableEq, Repr

/-- R522: the plaintext of the commissioning section. -/
structure Commission where
  keyGen : List Byte
  keyGnt : List Byte
  tagLen : Nat
  transports : Nat
  allowN : Nat
  commGen : Nat
  allow : List AllowEntry
  deriving DecidableEq, Repr

/-- R516: the commands of the opcode table, with their payloads. -/
inductive HostCmd where
  | identify
  | status
  | regRead (addr count : Nat)
  | logRead (log first count : Nat)
  | querySeq (series seq : Nat)
  | countersRead (port : Nat)
  | countersClear (port : Nat)
  | ptpMetadata (dom : Nat)
  | beginTxn
  | write (c : Change)
  | commit
  | rollback
  | commitAll
  | memWrite (space addr : Nat) (data : List Byte)
  | memRead (space addr bytes : Nat)
  | fenceSignal (fence : Nat) (value : Word)
  | hatband (t : TimeField) (kind id portMask : Nat)
  | snapshot (t : TimeField) (id content : Nat)
  | barrier (id : Nat)
  | wallReset (t : TimeField) (level id : Nat)
  | restep
  | swap
  | snapshotRead (id part offset bytes : Nat)
  | stageBegin (total : Nat)
  | stageWrite (offset : Nat) (data : List Byte)
  | stageEnd
  | activate (t : TimeField) (id : Nat)
  | saveSettings
  | reset (kind flags : Nat)
  | commission (c : Commission)
  | tileCmd (target chainMask tmoMs : Nat) (inner : List Byte)
  | factory (op : Nat) (payload : List Byte)
  deriving DecidableEq, Repr

/-- R513: the three kinds of command. -/
inductive CmdKind where
  | query | transaction | action
  deriving DecidableEq, Repr

/-- R521: the status codes. -/
inductive Status where
  | ok | errLen | errOpcode | errAuth | errSeq | errState | errAddr | errAccess | errRange | errCap
  | errConflict | errLate | errLinebuf | errMem | errImage | errBusy | errTimeout
  deriving DecidableEq, Repr

/-- R521: the value of a status code. -/
def Status.code : Status → Nat
  | .ok => 0x0000 | .errLen => 0x0001 | .errOpcode => 0x0002 | .errAuth => 0x0003 | .errSeq => 0x0004
  | .errState => 0x0005 | .errAddr => 0x0006 | .errAccess => 0x0007 | .errRange => 0x0008 | .errCap => 0x0009
  | .errConflict => 0x000A | .errLate => 0x000B | .errLinebuf => 0x000C | .errMem => 0x000D
  | .errImage => 0x000E | .errBusy => 0x000F | .errTimeout => 0x0010

/-- R521: the status code of a value, where one is defined. -/
def Status.ofCode (n : Nat) : Option Status :=
  [Status.ok, .errLen, .errOpcode, .errAuth, .errSeq, .errState, .errAddr, .errAccess, .errRange, .errCap,
   .errConflict, .errLate, .errLinebuf, .errMem, .errImage, .errBusy, .errTimeout][n]?

/-- R507: the RFLAGS of a response. -/
structure RFlags where
  replay : Bool
  late : Bool
  immediate : Bool
  already : Bool
  pending : Bool
  part : Bool
  deriving DecidableEq, Repr

/-- R507: no flag set. -/
def RFlags.none : RFlags := ⟨false, false, false, false, false, false⟩

/-- R507: the RFLAGS word. -/
def RFlags.code (f : RFlags) : Nat :=
  f.replay.toNat + 2 * f.late.toNat + 4 * f.immediate.toNat + 8 * f.already.toNat + 16 * f.pending.toNat +
    32 * f.part.toNat

/-- A response: its status, flags and body (R507). -/
structure Reply where
  status : Status
  flags : RFlags
  body : List Byte
  deriving DecidableEq, Repr

end Sys2Proof
end

