-- ==== Sys2Proof/Syntax/Link.lean ====
section
/-! DEFINITION. What Moltin Link carries: the unit headers, the payloads of the messages of R229, and pixel bursts. -/

namespace Sys2Proof

/-- R33: a claim to be the active sender, its epoch and its rank. -/
structure Claim where
  epoch : Nat
  rank : Nat
  deriving DecidableEq, Repr

/-- R226, R227: the header of a message as a receiver holds it. `port` is the port it arrived on, `checkOk` says
that its CHECK matched, and `claimTag` holds the rank and the low 15 bits of the epoch (R222). -/
structure MsgHdr where
  port : Nat
  dst : Nat
  src : Nat
  seq : Nat
  retry : Bool
  ackReq : Bool
  more : Bool
  claimTag : Nat
  checkOk : Bool
  deriving DecidableEq, Repr

/-- R231: HELLO. -/
structure Hello where
  part : Nat
  stepping : Nat
  kind : Nat
  versions : Nat
  port : Nat
  rate : Nat
  lanes : Nat
  mode : Nat
  addr : Nat
  maxLen : Nat
  fwVer : Nat
  caps : Nat
  epoch : Nat
  rank : Nat
  deriving DecidableEq, Repr

/-- R237: TILE_INFO. -/
structure TileInfo where
  addr : Nat
  w : Nat
  h : Nat
  lamps : Nat
  viewsHeld : Nat
  fwVer : Nat
  caps : Nat
  mode : Nat
  vmax : Nat
  drivers : Nat
  restarts : Nat
  deriving DecidableEq, Repr

/-- R239: FLIP. -/
structure FlipMsg where
  num : Nat
  time : TimeField
  epoch : Nat
  rank : Nat
  view : Nat
  sent : Bool
  guardBits : Nat
  alive : Nat
  gen : Nat
  rcheck : List Word
  deriving DecidableEq, Repr

/-- R240: FRAME_END. -/
structure FrameEnd where
  flipLo : Nat
  view : Nat
  bursts : Nat
  pixels : Nat
  frameCheck : Word
  gntMask : Nat
  gntCheck : List Word
  deriving DecidableEq, Repr

/-- R243: one entry of a module table. -/
structure ModuleEntry where
  module : Nat
  orient : Nat
  u0 : Nat
  v0 : Nat
  mw : Nat
  mh : Nat
  gain : Nat
  top : Nat
  bottom : Nat
  left : Nat
  right : Nat
  deriving DecidableEq, Repr

/-- R244: SET. -/
structure SetMsg where
  auth : Auth
  immediate : Bool
  index : Nat
  txnSeq : Nat
  dueFlip : Nat
  addr : Nat
  first : Nat
  words : List Word
  deriving DecidableEq, Repr

/-- R252: HEARTBEAT. -/
structure Heartbeat where
  epoch : Nat
  rank : Nat
  mode : Nat
  domain : Nat
  claim : Bool
  hbSeq : Nat
  sec : Nat
  ns : Nat
  genSeq : Nat
  gntSeq : Nat
  chain : Nat
  timeLocked : Bool
  swapWarm : Bool
  restarts : Nat
  deriving DecidableEq, Repr

/-- R254: TILE_STATUS. -/
structure TileStatus where
  addr : Nat
  mode : Nat
  timeLocked : Bool
  lit : Bool
  throttled : Bool
  faultPending : Bool
  lastFlipLo : Nat
  lastView : Nat
  temp : Nat
  faultsPending : Nat
  claimEpoch : Nat
  offsetPs : Int
  restarts : Nat
  disc : Nat
  deriving DecidableEq, Repr

/-- R255: a fault record. DETAIL is held as its 14 bytes. -/
structure FaultRec where
  addr : Nat
  record : Nat
  cls : Nat
  code : Nat
  count : Nat
  sec : Nat
  ns : Nat
  detail : List Byte
  deriving DecidableEq, Repr

/-- R229: the messages with their payloads. `more` says that another segment follows (R246). -/
inductive LinkMsg where
  | hello (h : Hello)
  | helloAck (version : Nat)
  | enumerate (domain chain value step : Nat)
  | tileInfo (i : TileInfo)
  | flip (f : FlipMsg)
  | frameEnd (f : FrameEnd)
  | moduleTable (gen total first : Nat) (entries : List ModuleEntry)
  | mapGen (gen dueFlip : Nat)
  | set (m : SetMsg)
  | cmd (segment : List Byte) (more : Bool)
  | rsp (segment : List Byte) (more : Bool)
  | ack (seq status : Nat)
  | hatband (t : TimeField) (kind id portMask : Nat)
  | timeInfo (tseq : Nat) (t1 t4 : Nat) (locked : Bool)
  | barrier (id : Nat)
  | barrierDone (id addr : Nat)
  | snapshot (t : TimeField) (id content : Nat)
  | snapshotDone (id addr status : Nat)
  | reset (t : TimeField) (level cause id : Nat)
  | heartbeat (h : Heartbeat)
  | tileStatus (t : TileStatus)
  | fault (f : FaultRec)
  | faultAck (record : Nat)
  deriving DecidableEq, Repr

/-- R223: the span of a Gauntlet slot in a burst. -/
structure Span where
  valid : Bool
  start : Nat
  len : Nat
  deriving DecidableEq, Repr

/-- R221 to R224: a pixel burst. Each pixel is its value P of 36 bits (R224). -/
structure Burst where
  view : Nat
  count : Nat
  row : Nat
  module : Nat
  tile : Nat
  flipLo : Nat
  gen : Nat
  claimTag : Nat
  spans : Option (List Span)
  pixels : List Nat
  deriving DecidableEq, Repr

/-- A unit on the link (R218), as a device sends or relays it. -/
inductive LinkUnit where
  | msg (dst : Nat) (ackReq retry : Bool) (m : LinkMsg)
  | burst (b : Burst)
  | time (tseq dir : Nat)
  | abort
  | knuckle (txSet rxOk wmin : Nat)
  deriving DecidableEq, Repr

end Sys2Proof
end

