-- ==== Sys2Proof/Syntax/Device.lean ====
section
/-! DEFINITION. What the device's pins, memories and sensors bring to a command. -/

namespace Sys2Proof

/-- R463, R476: a request to external memory within one burst of 64 bytes: its requester (the codes of R476 for
readers), its address, the bytes it writes or the count of bytes it reads, and the words of the burst that the devices
return with one wrong bit (`bad1`) or with more (`bad2`), as masks of eight bits. -/
structure DramReq where
  requester : Nat
  write : Bool
  addr : Nat
  data : List Byte
  bytes : Nat
  bad1 : Nat
  bad2 : Nat
  deriving DecidableEq, Repr

/-- R358, R359: a pin of a Lamp Bus port that reads back wrong in a visit: the pin as byte 23 of R360 names it, the cycle
within the visit, and, where the bit belongs to a word that the Visor checks, which word of the line's transfer or upload
it is and which of its bits read back wrong. -/
structure VisorMiss where
  port : Nat
  pin : Nat
  cycle : Nat
  word : Nat
  mask : Nat
  deriving DecidableEq, Repr

end Sys2Proof
end

