-- ==== Sys2Proof/Syntax/Net.lean ====
section
/-! DEFINITION. What the network ports carry: Ethernet frames, segmented sends, and PTP messages. -/

namespace Sys2Proof

/-- R121, R124: the content of an Ethernet frame. ARP gives its operation, the addresses of its sender and the address asked
for; ICMP the addresses and the message. `other` is everything that the device drops as PROTO_DISC. -/
inductive EthContent where
  | pause
  | arp (op senderMac senderIp targetIp : Nat)
  | icmp (srcMac srcIp dstIp : Nat) (message : List Byte)
  | igmp
  | udp (srcIp dstIp srcPort dstPort : Nat) (payload : List Byte)
  | other
  deriving DecidableEq, Repr

/-- R122, R123: a received frame: its sub-port and length, whether its FEC codewords and PCS were good, whether a
codeword was corrected, whether its FCS is correct, its destination address, the VLAN ID of its tag, its content, and
whether the receive staging has room for it. -/
structure EthFrame where
  sub : Nat
  len : Nat
  codeOk : Bool
  corrected : Bool
  fcsOk : Bool
  dst : Nat
  vid : Option Nat
  content : EthContent
  room : Bool
  deriving DecidableEq, Repr

/-- R128: a segmented send: the header template with the lengths of its parts, the payload, the segment size, and the
offset of the counter in the application header. -/
structure SegSend where
  template : List Byte
  tagged : Bool
  payload : List Byte
  size : Nat
  counter : Option Nat
  deriving DecidableEq, Repr

/-- The header of a PTP message: domain, source port identity, sequenceId, correctionField in units of 2^-16 ns,
logMessageInterval and the two-step flag. -/
structure PtpHdr where
  domain : Nat
  source : Nat
  seq : Nat
  correction : Int
  interval : Int
  twoStep : Bool
  deriving DecidableEq, Repr

/-- R396, R397, R415: what an Announce carries. -/
structure AnnounceMsg where
  priority1 : Nat
  cls : Nat
  accuracy : Nat
  variance : Nat
  priority2 : Nat
  gm : Nat
  steps : Nat
  utcOffset : Nat
  utcValid : Bool
  leap61 : Bool
  leap59 : Bool
  metadata : Option (List Byte)
  deriving DecidableEq, Repr

end Sys2Proof
end

