-- ==== Sys2Proof/Syntax/Repl.lean ====
section
/-! DEFINITION. What two senders send each other: journal records, replication items, and the datagrams of R426. -/

namespace Sys2Proof

/-- R53, R54: a journal record. -/
inductive JournalRec where
  | opened (auth : Auth) (seq : Nat) (shadow : Bool) (sec ns : Nat)
  | change (auth : Auth) (seq : Nat) (shadow : Bool) (c : Change)
  | commit (auth : Auth) (seq : Nat) (shadow : Bool) (sec ns changes : Nat) (late immediate : Bool)
  | rollback (auth : Auth) (seq : Nat) (shadow : Bool) (status : Status) (failIndex : Nat)
  | retime (auth : Auth) (seq : Nat) (shadow : Bool) (sec ns changes : Nat) (late immediate : Bool)
  deriving DecidableEq, Repr

/-- What the sender chose for a scheduled command whose packet does not say it: the step Δ, in units of 2^-16 ns, and its
flip for RESTEP; the flip S for SWAP. -/
structure Chosen where
  delta : Int
  flip : Nat
  deriving DecidableEq, Repr

/-- R425: an item of the replication stream. -/
inductive ReplItem where
  | journal (r : JournalRec)
  | memw (addr : Nat) (data : List Byte)
  | fence (n : Nat) (v : Word)
  | sched (h : Hdr) (c : HostCmd) (chosen : Option Chosen)
  | fault (f : FaultRec)
  | mapw (entry : Nat) (words : List Word)
  | session (n : Nat) (isOpen : Bool) (info : TileInfo)
  deriving DecidableEq, Repr

/-- R443: what a view-frame's VFCHECK says: the flip, the view, the chain ports in use, ALIVE, the render checks, the
chain checks, and the completion time of each source read, as seconds bits 31:0 and nanoseconds (0 for a source not
read). -/
structure VfBody where
  flip : Nat
  view : Nat
  chains : Nat
  alive : Nat
  rcheck : List Word
  chainCheck : List Word
  srcs : List (Nat × Nat)
  deriving DecidableEq, Repr

/-- R426: the header of an inter-sender datagram as a receiver holds it; `good` says that its trailer is valid. -/
structure Dgram where
  rank : Nat
  domain : Nat
  epoch : Nat
  good : Bool
  deriving DecidableEq, Repr

/-- R426: the datagrams that the senders exchange, by TYPE, with the fields of the header that a TYPE uses. -/
inductive PartnerMsg where
  | heartbeat (h : Heartbeat)
  | repl (pos : Nat) (items : List ReplItem)
  | replAck (pos : Nat) (eligible : Bool)
  | snap (slot offset : Nat) (data : List Byte)
  | snapAck (slot offset : Nat)
  | vfcheck (b : VfBody)
  | swap (op s reason : Nat)
  deriving DecidableEq, Repr

end Sys2Proof
end

