-- ==== Sys2Proof/Syntax/Video.lean ====
section
/-! DEFINITION. What the video inputs bring: the format of an SDI signal as measured, and ST 2110-20 packets. -/

namespace Sys2Proof

/-- R91 to R93, R109, R110: the format of a signal as the device measures it: its raster, its scan (0 progressive,
1 interlaced, 2 PsF), sampling, depth, range and colour in the codes of R117, its frame rate in thousandths of a hertz,
its link (0 single link or level A, 1 level B-DL, 2 a flow, 3 level B-DS or another), whether an ST 352 identifier is
present, and the transfer function that it signals, in the codes of TF. -/
structure Measured where
  w : Nat
  h : Nat
  scan : Nat
  sampling : Nat
  depth : Nat
  range : Nat
  colour : Nat
  mhz : Nat
  link : Nat
  pid : Bool
  tf : Option Nat
  deriving DecidableEq, Repr

/-- R97: a sample row data segment: its field bit, line and first pixel, and its codes, pixel by pixel: two a pixel
(Y and the chroma of that pixel) in 4:2:2, three in 4:4:4. -/
structure RowSegment where
  field : Nat
  line : Nat
  x : Nat
  codes : List Nat
  deriving DecidableEq, Repr

/-- R95, R98: a UDP packet of a flow. -/
structure FlowPacket where
  src : Nat
  dst : Nat
  udpPort : Nat
  version : Nat
  payloadType : Nat
  timestamp : Nat
  rows : List RowSegment
  deriving DecidableEq, Repr

end Sys2Proof
end

