-- ==== Sys2Proof/Syntax.lean ====
section
/-! DEFINITION. The commands of the block: one constructor for each row of spec/opcode_table.json. -/

namespace Sys2Proof

/-- The commands the block takes: host commands, arrivals on its ports, and the events of its clocks and pins. -/
inductive Instr where
  /-- IDENTIFY, R516. Query that returns the device ID, firmware version, UID, mode, role, Mitten reason and own address. -/
  | identify (h : Hdr)
  /-- STATUS, R516. Query that returns the mode, boot, slot, PTP, IRQ summary and alarm registers. -/
  | statusCmd (h : Hdr)
  /-- REG_READ, R516. Query that returns COUNT consecutive register words, as whole aligned words under R11. -/
  | regRead (h : Hdr) (addr count : Nat)
  /-- LOG_READ, R516. Query that returns fault-log or persistent-log records from FIRST, or from the oldest record held. -/
  | logRead (h : Hdr) (log first count : Nat)
  /-- QUERY_SEQ, R514. Query that returns the recorded outcome of a transaction or action sequence number, with REPLAY or PENDING. -/
  | querySeq (h : Hdr) (series seq : Nat)
  /-- COUNTERS_READ, R516. Query that returns the 16 firmware event counters of a network port. -/
  | countersRead (h : Hdr) (port : Nat)
  /-- COUNTERS_CLEAR, R133. Action that clears the firmware event counters of a network port. -/
  | countersClear (h : Hdr) (port : Nat)
  /-- PTP_METADATA, R396. Query that returns the last ST 2059-2 synchronisation metadata TLV of a PTP domain. -/
  | ptpMetadata (h : Hdr) (dom : Nat)
  /-- BEGIN, R45. Opens a transaction for the signing authority, after the sequence and shadow-set checks. -/
  | beginTxn (h : Hdr)
  /-- WRITE, R515. Adds one change to the open transaction under the checks of R49, or acts as a direct write when no transaction is open. -/
  | writeCmd (h : Hdr) (c : Change)
  /-- COMMIT, R57. Validates the transaction in order, writes the COMMIT or ROLLBACK record, and waits for the standby's journal acknowledgement. -/
  | commitCmd (h : Hdr)
  /-- ROLLBACK, R51. Discards the open transaction and writes a ROLLBACK record. -/
  | rollback (h : Hdr)
  /-- COMMIT_ALL, R75. Publishes the whole shadow set as a journalled transaction, without validation. -/
  | commitAll (h : Hdr)
  /-- MEM_WRITE, R517. Writes bytes to a tile window or to sender external memory, and returns OK once the write is replicated. -/
  | memWrite (h : Hdr) (space addr : Nat) (data : List Byte)
  /-- MEM_READ, R517. Query that reads bytes from a tile window or from sender external memory. -/
  | memRead (h : Hdr) (space addr bytes : Nat)
  /-- FENCE_SIGNAL, R69. Sets a fence to a new value when that value is later as a serial number. -/
  | fenceSignal (h : Hdr) (fence : Nat) (value : Word)
  /-- HATBAND, R247. Schedules a wall-wide Lamp Bus latch and sends it to the tiles as a HATBAND message. -/
  | hatbandCmd (h : Hdr) (t : TimeField) (kind id portMask : Nat)
  /-- SNAPSHOT, R265. Schedules a wall-wide snapshot at time T and sends it to the tiles. -/
  | snapshotCmd (h : Hdr) (t : TimeField) (id content : Nat)
  /-- BARRIER, R517. Sends a BARRIER to every tile and answers once every BARRIER_DONE has arrived or the resends are spent. -/
  | barrierCmd (h : Hdr) (id : Nat)
  /-- WALL_RESET, R539. Schedules a wall-wide L1 or L2 reset at a due time and sends it to the tiles. -/
  | wallReset (h : Hdr) (t : TimeField) (level id : Nat)
  /-- RESTEP, R400. On a sender, schedules a wall-time step at flip T; on a tile, steps at once by its own offset. -/
  | restep (h : Hdr)
  /-- SWAP, R442. Starts a role swap by sending SWAP REQUEST to the standby. -/
  | swapCmd (h : Hdr)
  /-- SNAPSHOT_READ, R517. Query that reads one part of a snapshot held by a tile. -/
  | snapshotRead (h : Hdr) (id part offset bytes : Nat)
  /-- STAGE_BEGIN, R517. Starts staging an image of TOTAL bytes into the staging area. -/
  | stageBegin (h : Hdr) (total : Nat)
  /-- STAGE_WRITE, R517. Writes bytes of the image being staged at OFFSET. -/
  | stageWrite (h : Hdr) (offset : Nat) (data : List Byte)
  /-- STAGE_END, R495. Checks the staged image, writes it into the target slot, reads it back and marks the slot STAGED. -/
  | stageEnd (h : Hdr)
  /-- ACTIVATE, R496. Schedules a firmware activation at due time T on the senders and their tiles. -/
  | activate (h : Hdr) (t : TimeField) (id : Nat)
  /-- SAVE_SETTINGS, R492. Writes the present settings into the other settings-record copy with SET_GEN one higher. -/
  | saveSettings (h : Hdr)
  /-- RESET, R517. Answers, then makes a software-full or software-warm reset, with the Mitten and activation flags. -/
  | resetCmd (h : Hdr) (kind flags : Nat)
  /-- COMMISSION, R522. Stores the encrypted commissioning section with new keys, transports and allow list, and clears the sequence records. -/
  | commission (h : Hdr) (c : Commission)
  /-- TILE_CMD, R518. Relays an inner command packet to one tile, or to every tile of the chains named, and gathers the responses. -/
  | tileCmd (h : Hdr) (target chainMask tmoMs : Nat) (inner : List Byte)
  /-- FACTORY_COMMAND, R517. A factory calibration or trim command, answered in FACTORY only. -/
  | factoryCommand (h : Hdr) (op : Nat) (payload : List Byte)
  /-- PKT_WRITE, R508. Host SPI instruction that delivers one whole command packet to the device. -/
  | pktWrite (bytes : List Byte)
  /-- STAT_READ, R508. Host SPI instruction that returns the port status byte and clears FRAME_ERR. -/
  | statRead
  /-- RSP_READ, R508. Host SPI instruction that reads the held response and frees it when the whole response has been read. -/
  | rspRead (bytes : Nat)
  /-- HSPI_BAD_INSTRUCTION, R508. An undefined host SPI instruction is ignored and sets FRAME_ERR. -/
  | hspiBadInstruction
  /-- UDP_SEGMENT, R509. A command UDP datagram is checked and assembled into a packet keyed by source address and XID. -/
  | udpSegment (port ip udpPort : Nat) (payload : List Byte)
  /-- UDP_ASSEMBLY_TIMEOUT, R509. A partial command packet is discarded 10 ms after its last segment. -/
  | udpAssemblyTimeout (port ip xid : Nat)
  /-- COMMAND_DEQUEUE, R511. The next queued command of an authority runs once the previous one has finished. -/
  | commandDequeue (auth : Auth)
  /-- STANDBY_FORWARD_TIMEOUT, R512. A standby returns ERR_TIMEOUT when the active has not answered a forwarded command within 2 s. -/
  | standbyForwardTimeout (auth : Auth) (seq : Nat)
  /-- FORWARD_RESPONSE, R512. The active sender's response to a forwarded command arrives and is returned unchanged. -/
  | forwardResponse (auth : Auth) (seq : Nat) (r : Reply)
  /-- TILE_CMD_TIMEOUT, R520. A tile's response to a TILE_CMD has not arrived within TMO_MS and is reported as ERR_TIMEOUT. -/
  | tileCmdTimeout (auth : Auth)
  /-- REGISTER_WRITE, R12. A write to a register field that has no row of its own acts as its access type gives, W1C clears included. -/
  | registerWrite (auth : Auth) (addr : Nat) (value : Word)
  /-- PTP_CAPTURE, R392. A write of CAPTURE copies wall time into the PTP_CAP registers 8 ns later. -/
  | ptpCapture
  /-- TX_START_WRITE, R129. A write of NET_CTL.TX_START sets the start threshold and loads CUR_THRESH. -/
  | txStartWrite (port value : Nat)
  /-- UE_LOG_CLEAR, R462. A write of DRC_UE_LOG_CLR.CLEAR frees every entry of the uncorrectable-error log. -/
  | ueLogClear
  /-- BLOCK_RESET_REQUEST, R545. A write of RST_BLK_REQ puts an idle block into reset, or sets BLK_NOT_IDLE. -/
  | blockResetRequest (mask : Nat)
  /-- SHADOW_EN_CLEAR, R73. A write of 0 to SYS_COMPAT.SHADOW_EN discards the shadow set. -/
  | shadowEnClear
  /-- PRBS_EN_WRITE, R295. Setting PRBS_EN starts a PRBS test on a lane, dropping the lane or taking its port out of service; clearing it returns the lane to TRAIN. -/
  | prbsEnWrite (lane : Nat) (on : Bool)
  /-- FORCE_OUT_WRITE, R295. Setting FORCE_OUT holds a lane outside the transmit set, as a loss; clearing it returns the lane to TRAIN. -/
  | forceOutWrite (lane : Nat) (on : Bool)
  /-- CHK_START, R533. An OP write of START latches a general check unit's parameters and loads its accumulator. -/
  | chkStart (unit : Nat)
  /-- CHK_DATA, R533. A DATA write feeds BYTES_M1 + 1 bytes into an open general check unit. -/
  | chkData (unit : Nat) (value : Word)
  /-- CHK_FINISH, R534. An OP write of FINISH forms the result, compares it with EXPECT, judges the alive count and closes the unit. -/
  | chkFinish (unit alive : Nat)
  /-- CHK_RESYNC, R535. An OP write of RESYNC makes the next FINISH of the unit report FIRST. -/
  | chkResync (unit : Nat)
  /-- MAP_WINDOW_WRITE, R193. A direct write to the Module Map staging bank, refused while PENDING or COPY_BUSY is 1. -/
  | mapWindowWrite (h : Hdr) (addr : Nat) (words : List Word)
  /-- LINING_WINDOW_WRITE, R319. A write to the Lining staging bank, which starts the recomputation of STAGE_CHECK. -/
  | liningWindowWrite (h : Hdr) (addr : Nat) (data : List Byte)
  /-- GUARD_IMAGE_WRITE, R321. A Gauntlet write to a Guard Image that is not VALID. -/
  | guardImageWrite (h : Hdr) (addr : Nat) (data : List Byte)
  /-- FAULT_MAP_WRITE, R382. A host write to the lamp fault map sets a lamp GOOD or MASKED and clears its counts. -/
  | faultMapWrite (h : Hdr) (addr : Nat) (data : List Byte)
  /-- TXN_IDLE_TIMEOUT, R51. A transaction idle for 10 s is rolled back with ERR_TIMEOUT, and TXN_IDLE is set. -/
  | txnIdleTimeout (auth : Auth)
  /-- REPL_TIMEOUT, R61. A replicated item without a standby acknowledgement for 2 ms completes on the active alone and sets REPL_TMO. -/
  | replTimeout
  /-- FENCE_TIMEOUT, R71. An open fence wait reaches T0 plus SYS_FENCE_TMO, and its pending buffer change is discarded. -/
  | fenceTimeout (view slot : Nat)
  /-- CUFF_OPEN, R64. The Cuff of a flip opens at F − C; commits that complete after this take effect at the next flip. -/
  | cuffOpen
  /-- FLIP, R65. Wall time reaches a flip: commits take effect, tiles show the view-frame, and the sender latches. -/
  | flip (misses : List VisorMiss)
  /-- FLIP_SEND, R239. Once the Gauntlet pass has ended, the active sends the first copy of FLIP on every chain port. -/
  | flipSend
  /-- FLIP_REPEAT, R239. The second copy of FLIP goes 1 µs after the first, and the bursts follow it. -/
  | flipRepeat
  /-- SCAN_OUT_BURST, R200. The sender renders the next run in the order of R200 and sends it as one pixel burst once the port's output store has room. -/
  | scanOutBurst (stalls : Nat)
  /-- BUILD_DONE, R313. A build ends, and the uploads to buffered drivers begin. -/
  | buildDone
  /-- UPLOAD_DEADLINE, R345. A port whose upload is unfinished 2 cycles before E_0 gets FRAME_DARK and UPLOAD_LATE. -/
  | uploadDeadline
  /-- SDI_FRAME_START, R100. The input writer takes a buffer for a new frame, or drops the frame with DROP. -/
  | sdiFrameStart (input : Nat) (m : Measured)
  /-- SDI_LINE, R92. An SDI line is stored as received and its CRC is checked. -/
  | sdiLine (input field line : Nat) (crcOk : Bool) (codes : List Nat)
  /-- SDI_LOCK, R116. An SDI input locks and detects its line rate. -/
  | sdiLock (input rate : Nat)
  /-- SDI_LOCK_LOSS, R110. An SDI input loses lock, and its source enters LOST. -/
  | sdiLockLoss (input : Nat)
  /-- ST2110_PACKET, R98. An ST 2110-20 flow packet is placed into the input buffer, or ends the frame in progress. -/
  | st2110Packet (port : Nat) (p : FlowPacket)
  /-- FRAME_COMPLETE, R101. A source frame becomes complete 6 ns after its last write is acknowledged. -/
  | frameComplete (src : Nat) (m : Measured)
  /-- SOURCE_LOSS_TIMEOUT, R110. An ACTIVE source has no complete frame for LOSS_MS and enters LOST. -/
  | sourceLossTimeout (src : Nat)
  /-- HOLD_EXPIRY, R111. HOLD_MS after a source leaves ACTIVE, its layers follow LOSS_ACT. -/
  | holdExpiry (src : Nat)
  /-- ETH_FRAME_RX, R123. A received Ethernet frame is checked in order and dispatched by its content. -/
  | ethFrameRx (port : Nat) (e : EthFrame)
  /-- TX_FRAME_START, R129. A port starts sending a frame once it is wholly stored or CUR_THRESH × 512 bytes are stored. -/
  | txFrameStart (port stored : Nat)
  /-- TX_UNDERRUN, R129. The transmit store runs empty mid-frame: the frame ends with a bad FCS and CUR_THRESH rises. -/
  | txUnderrun (port : Nat)
  /-- SEGMENTED_SEND, R128. A header template and payload are cut into UDP segments and sent in order. -/
  | segmentedSend (port : Nat) (t : SegSend)
  /-- LINK_DOWN, R141. A network sub-port loses link; frames queued for it are discarded. -/
  | linkDown (port sub : Nat)
  /-- LINK_UP, R138. A network sub-port comes up. -/
  | linkUp (port sub : Nat)
  /-- FW_EVENT_SERVICE, R133. Firmware services its copy of the NET event bits and counts the bits set. -/
  | fwEventService (port : Nat)
  /-- MONITOR_PACKET, R134. A monitoring packetiser sends the next ST 2110-20 packet of its flow. -/
  | monitorPacket (port flow : Nat)
  /-- HELLO, R233. A received HELLO is judged valid or not, and answered with HELLO_ACK or sends the segment to HELLO_FAIL. -/
  | hello (m : MsgHdr) (b : Hello)
  /-- HELLO_ACK, R233. A HELLO_ACK for the device's own HELLO brings the segment UP once a valid HELLO has been received. -/
  | helloAck (m : MsgHdr) (version : Nat)
  /-- HELLO_SEND, R233. In HELLO a device sends HELLO every 100 µs. -/
  | helloSend (port : Nat)
  /-- HELLO_TIMEOUT, R233. 10 ms with no HELLO returns the segment to DOWN, and the lanes retrain. -/
  | helloTimeout (port : Nat)
  /-- HELLO_FAIL_EXPIRY, R233. After 100 ms in HELLO_FAIL the segment returns to HELLO. -/
  | helloFailExpiry (port : Nat)
  /-- SEGMENT_SILENCE, R233. 1 ms with no valid block takes an UP segment DOWN. -/
  | segmentSilence (port : Nat)
  /-- ENUMERATE, R236. A tile takes or checks its address and relays ENUMERATE; the far sender returns it. -/
  | enumerate (m : MsgHdr) (domain chain value step : Nat)
  /-- TILE_INFO, R238. A sender opens a tile session, checks the tile's map entries and may push firmware. -/
  | tileInfo (m : MsgHdr) (i : TileInfo)
  /-- FLIP_MESSAGE, R306. A tile takes a checked FLIP: it assigns a view area, opens a FILL buffer and notes the claim. -/
  | flipMessage (m : MsgHdr) (f : FlipMsg)
  /-- BURST, R225. A tile consumes, counts and places a pixel burst addressed to it, or relays it. -/
  | burstUnit (port : Nat) (room : Bool) (b : Burst)
  /-- FRAME_END, R241. A tile checks BURSTS, PIXELS and FRAME_CHECK, and accepts the view-frame or rejects it. -/
  | frameEnd (m : MsgHdr) (f : FrameEnd)
  /-- MODULE_TABLE, R243. A tile stores module-table entries of a generation until its table is complete. -/
  | moduleTable (m : MsgHdr) (gen total first : Nat) (entries : List ModuleEntry)
  /-- MAP_GEN, R243. A tile notes the new map generation and the flip from which it applies. -/
  | mapGen (m : MsgHdr) (gen dueFlip : Nat)
  /-- SET, R245. A tile holds a settings change for its due flip, or applies a late one at the next flip with ERR_LATE. -/
  | setMsg (m : MsgHdr) (b : SetMsg)
  /-- CMD, R246. A tile gathers command segments and runs the packet when all are held. -/
  | cmdMsg (m : MsgHdr) (segment : List Byte)
  /-- CMD_PARTIAL_TIMEOUT, R246. A partial command packet is discarded 10 ms after its last segment. -/
  | cmdPartialTimeout (src : Nat)
  /-- RSP, R246. The sender receives the response segments of a tile. -/
  | rspMsg (m : MsgHdr) (segment : List Byte)
  /-- ACK, R261. An acknowledgement with a status stops the resends of a message. -/
  | ackMsg (m : MsgHdr) (seq status : Nat)
  /-- MESSAGE_RESEND, R261. An unacknowledged message is resent after 20 µs + 0.8 µs × H, up to 3 times, then NOACK and resynchronisation are set. -/
  | messageResend (port seq : Nat)
  /-- HATBAND_MESSAGE, R356. A tile schedules a Hatband latch, or refuses a FRAME Hatband that is not at a flip. -/
  | hatbandMessage (m : MsgHdr) (t : TimeField) (kind id portMask : Nat)
  /-- TIME_INFO, R250. A slave completes a time exchange and steers on the median offset. -/
  | timeInfo (m : MsgHdr) (tseq : Nat) (t1 t4 : Nat) (locked : Bool)
  /-- TIME_BLOCK, R248. A TIME control block is stamped at lane 0, and a slave replies to a request. -/
  | timeBlock (port tseq dir stamp : Nat)
  /-- TIME_REQUEST, R249. The time master sends a TIME request every 250 µs. -/
  | timeRequest (port : Nat)
  /-- BARRIER_MESSAGE, R265. A tile answers BARRIER_DONE once every earlier message has been applied or scheduled. -/
  | barrierMessage (m : MsgHdr) (id : Nat)
  /-- BARRIER_DONE, R265. The sender counts a tile as done for the barrier. -/
  | barrierDone (m : MsgHdr) (id addr : Nat)
  /-- SNAPSHOT_MESSAGE, R265. A tile schedules a snapshot capture at time T. -/
  | snapshotMessage (m : MsgHdr) (t : TimeField) (id content : Nat)
  /-- SNAPSHOT_DONE, R265. The sender notes a tile's completed snapshot. -/
  | snapshotDone (m : MsgHdr) (id addr status : Nat)
  /-- RESET_MESSAGE, R265. A tile schedules a wall-wide reset or firmware activation at its due time. -/
  | resetMessage (m : MsgHdr) (t : TimeField) (level cause id : Nat)
  /-- HEARTBEAT, R253. A received or relayed HEARTBEAT counts for the partner and may be a claim that outranks the highest seen. -/
  | heartbeat (m : MsgHdr) (b : Heartbeat)
  /-- HEARTBEAT_SEND, R421. A sender sends a heartbeat every 1 ms on the chain path and the network path. -/
  | heartbeatSend
  /-- TILE_STATUS, R238. A sender refreshes a session from a tile's status and notes its claim epoch. -/
  | tileStatus (m : MsgHdr) (b : TileStatus)
  /-- TILE_STATUS_SEND, R254. A tile sends TILE_STATUS every TSTAT_MS. -/
  | tileStatusSend
  /-- SESSION_TIMEOUT, R238. A session with no TILE_STATUS for SESS_TMO_MS closes, and the scan-out queues are rebuilt. -/
  | sessionTimeout (session : Nat)
  /-- FAULT, R255. The active records a tile's fault record and sends FAULT_ACK once it is replicated. -/
  | faultMsg (m : MsgHdr) (f : FaultRec)
  /-- FAULT_ACK, R255. A tile frees the acknowledged fault record. -/
  | faultAck (m : MsgHdr) (record : Nat)
  /-- FAULT_RESEND, R255. A tile resends each unacknowledged fault record every 10 ms. -/
  | faultResend (record : Nat)
  /-- OWN_UNIT_SEND, R258. A tile starts a unit of its own in a gap, or after 100 µs of waiting. -/
  | ownUnitSend (port : Nat)
  /-- ABORT, R260. An ABORT ends the unit in progress as failed. -/
  | abortBlock (port : Nat) (relayed : Bool)
  /-- BLOCK_ERROR, R260. A block error abandons the unit in progress, and a relaying tile sends ABORT. -/
  | blockError (port : Nat) (relayed : Bool)
  /-- KNUCKLE, R283. A KNUCKLE block aligns lanes and applies TX_SET, RX_OK and WMIN changes. -/
  | knuckle (port txSet rxOk wmin : Nat) (skew bip : List Nat)
  /-- LANE_LOST, R282. A receiver counts a lane as lost and clears it from RX_OK. -/
  | laneLost (lane : Nat) (hiBer skewed relayed : Bool)
  /-- LANE_TRAINED, R280. A lane passes its PRBS31 period and reaches READY. -/
  | laneTrained (lane skew : Nat)
  /-- TX_SET_FORM, R281. 20 ms after the first lane is READY, or when all are, the transmitter forms its transmit set. -/
  | txSetForm (port : Nat)
  /-- ADAPT_FREEZE, R289. At the end of each 65,536-UI window, adaptation freezes or resumes by transition count. -/
  | adaptFreeze (lane transitions : Nat) (codes : Word)
  /-- RECAL_TRIGGER, R290. A temperature change, or the end of training, starts a receiver recalibration run. -/
  | recalTrigger (training : Bool)
  /-- RECAL_APPLY, R291. An agreed recalibration setting takes effect in the lane's next natural gap. -/
  | recalApply (lane : Nat) (offset : Int)
  /-- EYE_SCAN, R292. The monitor sampler scans each receiving lane's eye at least once per second. -/
  | eyeScan (lane w h : Nat)
  /-- LINING_STAGE_CHECK_DONE, R319. The recomputed STAGE_CHECK of the Lining is ready, and STAGE_BUSY clears. -/
  | liningStageCheckDone
  /-- LINING_COPY_DONE, R320. The Lining bank copy ends, PENDING and COPY_BUSY clear, and LINING_SWAP is set. -/
  | liningCopyDone
  /-- MAP_COPY_DONE, R196. The Module Map bank copy ends, PENDING and COPY_BUSY clear, and MAP_SWAP is set. -/
  | mapCopyDone
  /-- VISIT_START, R341. A Lamp Bus visit begins at E_k, with its LINE latch, grey transfer and housekeeping slot. -/
  | visitStart (misses : List VisorMiss)
  /-- RETURN_FRAME, R351. A driver return frame is received on LB_RTN and its CRC-8, header and echo check are judged. -/
  | returnFrame (port header : Nat) (words : List Nat) (crc : Nat)
  /-- RETURN_TIMEOUT, R352. No start bit within 24 cycles of its expected start counts as NO_ECHO. -/
  | returnTimeout (port : Nat)
  /-- ABSENT_POLL, R353. An ABSENT context is polled once every 100 ms. -/
  | absentPoll (ctx : Nat)
  /-- BANK_SUPPLY_CHANGE, R333. A bank's sensed supply changes and is judged against its VOLT. -/
  | bankSupplyChange (bank sensed : Nat)
  /-- ROUND_START, R375. A diagnostic round starts ROUND_MS after the last one, carrying the probe pass when due. -/
  | roundStart
  /-- PROBE_PERIOD_END, R375. A probe period ends at a whole multiple of PROBE_MS of wall time. -/
  | probePeriodEnd
  /-- SYNC, R396. A PTP Sync from the selected master is taken with its receive stamp. -/
  | sync (port : Nat) (h : PtpHdr) (origin : TimeField)
  /-- FOLLOW_UP, R396. A PTP Follow_Up supplies preciseOriginTimestamp for a two-step Sync. -/
  | followUp (port : Nat) (h : PtpHdr) (origin : TimeField)
  /-- DELAY_REQ_SEND, R396. The sender sends Delay_Req at the master's interval and stamps it. -/
  | delayReqSend (dom : Nat)
  /-- DELAY_RESP, R396. A Delay_Resp completes an exchange, giving an offset sample. -/
  | delayResp (port : Nat) (h : PtpHdr) (receive : TimeField) (mine : Bool)
  /-- ANNOUNCE, R397. An Announce enters the best-master comparison of its domain. -/
  | announce (port : Nat) (h : PtpHdr) (a : AnnounceMsg)
  /-- ANNOUNCE_TIMEOUT, R398. A domain's Announce times out, and it stops being usable. -/
  | announceTimeout (dom : Nat)
  /-- REVERT_TIMER, R398. After REVERT_S of usability, the device returns to the preferred domain. -/
  | revertTimer
  /-- REF1PPS_EDGE, R412. A REF1PPS rising edge steps wall time at the first edge, or serves as a servo sample. -/
  | ref1ppsEdge
  /-- REF_LOSS, R393. No REF1PPS edge for 1.5 s loses the source and enters HOLDOVER. -/
  | refLoss
  /-- CHAIN_TIME_LOSS, R393. A tile with no valid time exchange for 10 ms enters HOLDOVER. -/
  | chainTimeLoss
  /-- SCHEDULED_ACTION_DUE, R404. Timed actions run at their due wall time, in the order of R404. -/
  | scheduledActionDue
  /-- EVT_PULSE_START, R408. An event output begins a ONCE, PERIODIC, PPS or SHUTTER pulse. -/
  | evtPulseStart (out : Nat)
  /-- EVT_PULSE_END, R408. An event output pulse ends after WIDTH_NS or at the close of its shutter window. -/
  | evtPulseEnd (out : Nat)
  /-- HEARTBEAT_DATAGRAM, R421. A heartbeat from the partner on the network path is counted. -/
  | heartbeatDatagram (d : Dgram) (b : Heartbeat)
  /-- PATH_SILENT, R422. A heartbeat path silent for ALARM_MS clears its ALIVE bit and records a fault. -/
  | pathSilent (path : Nat)
  /-- PARTNER_LOST, R423. Both paths silent for TAKEOVER_MS; an eligible standby takes over. -/
  | partnerLost
  /-- PREFERRED_CLAIM, R32. A preferred sender that hears no claim for 3 ms in STANDBY enters SENDER. -/
  | preferredClaim
  /-- REPL, R427. The standby keeps replication stream bytes in order, acts on items and answers REPL_ACK. -/
  | repl (d : Dgram) (pos : Nat) (items : List ReplItem)
  /-- REPL_ACK, R428. The active advances its acknowledged position and completes items waiting for it. -/
  | replAck (d : Dgram) (pos : Nat) (eligible : Bool)
  /-- REPL_RESEND, R427. The active resends from the acknowledged position when REPL_ACK has not advanced for 200 µs. -/
  | replResend
  /-- SNAP, R434. The standby writes snapshot data into a slot and completes it when both checks match. -/
  | snapData (d : Dgram) (slot offset : Nat) (data : List Byte)
  /-- SNAP_ACK, R426. The active learns the contiguous snapshot offset that the standby holds. -/
  | snapAck (d : Dgram) (slot offset : Nat)
  /-- VFCHECK, R444. The standby compares a view-frame's checks during a swap warm-up or while the ring is down. -/
  | vfcheck (d : Dgram) (b : VfBody)
  /-- SWAP_DATAGRAM, R445. A SWAP REQUEST, READY, COMMIT or ABORT advances or ends a role swap. -/
  | swapDatagram (d : Dgram) (op flip reason : Nat)
  /-- SWAP_COMMIT_TIMEOUT, R445. No COMMIT by t(S) − 1 ms abandons the swap with result 4. -/
  | swapCommitTimeout
  /-- SWAP_PERIOD, R442. PERIOD_H hours after the last swap or takeover, the active starts a role swap. -/
  | swapPeriod
  /-- RESTORE_DONE, R439. A restore completes; the new active latches its first view-frame and resynchronises its tiles. -/
  | restoreDone
  /-- DRAM_REQUEST, R463. A memory request is queued to its bank and served under the ordering rules, with ECC on read. -/
  | dramRequest (rs : List DramReq)
  /-- ECC_WRITE_BACK, R459. A corrected burst is written back when its channel is next in channel blanking. -/
  | eccWriteBack (channel : Nat)
  /-- REFRESH_DUE, R466. A per-bank refresh falls due and is issued, postponed, or forced at debt 8. -/
  | refreshDue (channel : Nat) (blanking : Bool)
  /-- NEIGHBOUR_REFRESH, R467. A queued neighbour refresh is issued in channel blanking, or at once when the queue is full. -/
  | neighbourRefresh (channel : Nat)
  /-- MR4_READ, R465. The controller reads each device's MR4 every 4 ms to set the refresh interval. -/
  | mr4Read (channel rate : Nat)
  /-- DRIFT_MEASURE, R470. WCK-to-DQ drift is measured every 4 ms and corrected when two measurements agree. -/
  | driftMeasure (channel : Nat) (drift : Int) (step : Nat)
  /-- RETRAIN, R471. A temperature-triggered DQ retraining of one channel runs in frame blanking. -/
  | retrain (channel : Nat)
  /-- RETRAIN_LATE, R471. A channel that has waited 1 s for frame blanking sets RETRAIN_LATE and records a fault. -/
  | retrainLate (channel : Nat)
  /-- SELF_REFRESH_ENTRY, R468. A channel idle for SR_IDLE_US enters self-refresh. -/
  | selfRefreshEntry (channel : Nat)
  /-- DRAM_TRAINING_DONE, R469. Full training of the populated channels completes or fails at start. -/
  | dramTrainingDone (failed : Nat) (results : List (Nat × Nat × Nat))
  /-- POWER_ON, R543. Power-on reset is held until the core rails have settled, then ends as an L0 reset. -/
  | powerOn
  /-- RESET_N, R543. RESET_N low for at least 1 µs resets the device at its mapped level. -/
  | resetN (lowNs role : Nat) (factoryEn : Bool)
  /-- SUPPLY_FAULT, R543. A core rail out of range for 2 µs, or loss of the control or time PLL, is the supply-fault reset source. -/
  | supplyFault (goodNs : Nat)
  /-- WATCHDOG_EXPIRY, R544. A processor watchdog expires, causing a reset and, before proving, a counted failed start. -/
  | watchdogExpiry (proc : Nat)
  /-- TEST_MODE, R576. TEST_MODE high holds the device in reset with RSTOUT_N low. -/
  | testMode (high : Bool)
  /-- RESET_RELEASE, R542. A held reset ends at least 1 ms after its source, and RSTOUT_N rises. -/
  | resetRelease (role : Nat) (factoryEn : Bool)
  /-- FUSE_PASS_DONE, R480. A fuse-array pass ends; matching passes load the fuses, and a third mismatch holds the device in reset. -/
  | fusePassDone (same : Bool)
  /-- START_CLOCKS_STABLE, R478. The clocks are stable and the MCP starts from ROM; the strap check and self-test follow. -/
  | startClocksStable (bad : Nat)
  /-- SLOT_SELECTION, R489. The ROM selects a slot, verifies it and loads the processors, or enters MITTEN. -/
  | slotSelection
  /-- PROCESSOR_READY_TIMEOUT, R490. A processor not ready 100 ms after loading is counted failure 0x30. -/
  | processorReadyTimeout
  /-- MODE_ENTRY, R478. The start completes, and the device enters TILE, STANDBY, MITTEN or FACTORY. -/
  | modeEntry
  /-- START_PROVEN, R491. After 10 s in mode, the start is proven: a trial slot becomes PROVEN and rollback may advance. -/
  | startProven
  /-- WARM_RESTART_DONE, R497. An L2 warm restart ends, and the device re-enters its mode and runs late actions. -/
  | warmRestartDone
  /-- BLOCK_RELEASE, R547. A block in reset is released once its clocks have been locked for 10 µs. -/
  | blockRelease (block : Nat)
  /-- PLL_UNLOCK, R550. A PLL loses lock, and the blocks gated on it are held in reset. -/
  | pllUnlock (pll : Nat)
  /-- PLL_RELOCK, R550. A PLL relocks, starting the release timing of its blocks. -/
  | pllRelock (pll : Nat)
  /-- REF_LOST, R550. A reference clock stops, and its CLK_STAT bit clears. -/
  | refLost (ref : Nat)
  /-- DIE_CONVERSION, R551. The die sensors convert every 100 µs, and threshold crossings are judged. -/
  | dieConversion (temps : List Int)
  /-- THROTTLE_STEP, R553. Every STEP_MS, the throttle level rises or falls by one stage. -/
  | throttleStep
  /-- REMOTE_TEMP_CONVERSION, R555. Each enabled remote temperature input is converted every 10 ms and judged for failure. -/
  | remoteTempConversion (input v1 v2 ohms : Nat)
  /-- SUPV_BLOCK, R557. A supply-watch input completes a 16-sample block average, judged against MAX_MV. -/
  | supvBlock (input : Nat) (codes : List Nat)
  /-- AC_FAIL, R559. AC_FAIL_N asserts after its debounce, and AC_GAIN enters the brightness target. -/
  | acFail
  /-- AC_DARK, R559. DARK_MS after AC_FAIL, every Lamp Bus port is held dark. -/
  | acDark
  /-- AC_CLEAR, R559. AC_FAIL_N clears after CLEAR_10MS, and a darkened bus is initialised again. -/
  | acClear
  /-- VALID_EXCHANGE_LAPSE, R398. A PTP domain that has had no valid exchange within the last 16 Sync intervals of its master stops being usable, and the device may switch domain or enter HOLDOVER. -/
  | validExchangeLapse (dom : Nat)
  /-- SNAP_SEND, R432. The active sends the next SNAP datagram of a snapshot in progress, paced at no more than SNAP_CTL.RATE. -/
  | snapSend
  /-- RETRAIN_DONE, R471. A DQ retraining of one channel ends within 40 µs, and its result is accepted and takes effect or is discarded against the repeat measurement. -/
  | retrainDone (channel : Nat) (delays : List Int) (eyeW eyeH skew : Nat)
  /-- REFERENCE_RETURN, R550. A reference clock or reference input that had stopped (REFCLK_SD, REF10M, REF1PPS) runs again, and its CLK_STAT OK bit is set. -/
  | referenceReturn (ref : Nat)
  deriving DecidableEq, Repr

end Sys2Proof
end

