-- ==== Sys2Proof/Machine/Crc.lean ====
section
/-! DEFINITION. The cyclic redundancy checks of the spec (R163, R528, R529) and byte order. -/

namespace Sys2Proof.Machine

/-- The low `n` bits of a number in reverse order. -/
def reflectBits : Nat → Nat → Nat
  | 0, _ => 0
  | n + 1, v => (v % 2) * 2 ^ n + reflectBits n (v / 2)

/-- Shifting one bit into a CRC register of width `w`, most significant bit first. -/
def crcBit (w poly acc bit : Nat) : Nat :=
  let top := acc / 2 ^ (w - 1) % 2
  let shifted := acc * 2 % 2 ^ w
  if top = bit % 2 then shifted else shifted ^^^ (poly % 2 ^ w)

/-- Shifting the low `k` bits of `v` into a CRC register, most significant first. -/
def crcBits (w poly : Nat) : Nat → Nat → Nat → Nat
  | 0, acc, _ => acc
  | k + 1, acc, v => crcBits w poly k (crcBit w poly acc (v / 2 ^ k % 2)) v

/-- One byte into a CRC register; `refin` takes its least significant bit first. -/
def crcByte (w poly : Nat) (refin : Bool) (acc : Nat) (b : Byte) : Nat :=
  crcBits w poly 8 acc (if refin then reflectBits 8 b.toNat else b.toNat)

/-- Bytes into a CRC register. -/
def crcBytes (w poly : Nat) (refin : Bool) (acc : Nat) (bs : List Byte) : Nat :=
  bs.foldl (crcByte w poly refin) acc

/-- The result of a CRC register (R528): reflected, then inverted, where the parameters say so. -/
def crcResult (w : Nat) (refout invert : Bool) (acc : Nat) : Nat :=
  let r := if refout then reflectBits w acc else acc
  if invert then 2 ^ w - 1 - r % 2 ^ w else r

/-- R163: a CRC-32C register before any byte. -/
def crc32cInit : Nat := 0xFFFFFFFF

/-- R163: CRC-32C over more bytes. -/
def crc32cMore (acc : Nat) (bs : List Byte) : Nat := crcBytes 32 0x1EDC6F41 true acc bs

/-- R163: the result of a CRC-32C register. -/
def crc32cDone (acc : Nat) : Word := BitVec.ofNat 32 (crcResult 32 true true acc)

/-- R163: CRC-32C of bytes. -/
def crc32c (bs : List Byte) : Word := crc32cDone (crc32cMore crc32cInit bs)

/-- `n` bytes of a number, least significant first. -/
def leBytes : Nat → Nat → List Byte
  | 0, _ => []
  | n + 1, v => BitVec.ofNat 8 v :: leBytes n (v / 256)

/-- The number that bytes hold, least significant first. -/
def leNat : List Byte → Nat
  | [] => 0
  | b :: bs => b.toNat + 256 * leNat bs

/-- `n` bytes from position `i` of a list, as a number, least significant first. -/
def leAt (bs : List Byte) (i n : Nat) : Nat := leNat ((bs.drop i).take n)

/-- The bytes of words, each least significant byte first. -/
def wordBytes (ws : List Word) : List Byte := ws.flatMap (fun w => leBytes 4 w.toNat)

/-- The words that bytes hold, four bytes each, least significant byte first. -/
def bytesWords (bs : List Byte) : Nat → List Word
  | 0 => []
  | n + 1 => BitVec.ofNat 32 (leNat (bs.take 4)) :: bytesWords (bs.drop 4) n

end Sys2Proof.Machine
end

