-- ==== Sys2Proof/Config.lean ====
section
/-! DEFINITION. What the spec leaves open: uninterpreted constants, so that no proof can see a value of one. Each is named
in a row of the assumption log. -/

namespace Sys2Proof.Config

/-- A value that the spec leaves open, drawn by a counter of the state (notes/assumptions/2.md). -/
opaque freeWord : Nat → Word

/-- HMAC-SHA-256 of a key and a message, as a function the spec names and does not define (R506). -/
opaque hmacSha256 : List Byte → List Byte → BitVec 256

/-- SHA-384 of a message (R484). -/
opaque sha384 : List Byte → BitVec 384

/-- ECDSA on P-384 over a SHA-384 digest: whether a signature verifies under a public key (R484). -/
opaque ecdsaP384Verify : Nat → BitVec 384 → List Byte → Bool

/-- R486, check 5: whether the GCM tag of a body verifies: the key, the initial value, the additional data, the body and
the tag, in that order. -/
opaque gcmVerify : List (List Byte) → Bool

/-- R106: the transfer-function tables of PQ and HLG (ST 2084 and BT.2100), as functions of TF, PEAK_NITS and the
12-bit code; the curves stand outside the spec. -/
opaque transferEntry : Nat → Nat → Nat → Nat

/-- R107: the HLG system-gamma gain, as a function of PEAK_NITS and Ys >> 4. -/
opaque hlgGain : Nat → Nat → Nat

/-- R204: the stored word of a monitoring tap pixel, as a function of TF, PEAK_NITS, SDR_WHITE_NITS, the working primaries, the
sampling, the parity of the column, and the chain codes of the pixel and of the even column before it, in that order. -/
opaque tapCode : List Nat → Nat

/-- R555: the temperature in units of 1/16 °C, before OFFSET, that a remote input computes: of a diode from IDEALITY and the
pin voltages in µV at 10 and 100 µA; of a thermistor from BETA, NTC_NOM and its resistance. The rounding is not stated. -/
opaque remoteTemp : List Nat → Int

/-- R134: the RTP sequence number with which a monitoring flow begins, by its tap. -/
opaque rtpSeq : Nat → Nat

end Sys2Proof.Config
end

