-- ==== Sys2Proof/Machine/LaneTypes.lean ====
section
/-! DEFINITION. The records of the serial lanes. -/

namespace Sys2Proof.Machine

/-- R280 to R291: the cycle in which the training of each lane began, the partner's last RX_OK on each chain port with
the cycle in which it first named a lane, the lanes that have been lost since they were last in the set, and the lanes of a
recalibration run that have no accepted setting yet, with the first measurement of a pair. -/
structure LaneState where
  since : List (Nat × Nat)
  rxOk : List (Nat × Nat × Nat)
  lost : List Nat
  recal : List (Nat × Option Int)
  deriving DecidableEq, Repr

end Sys2Proof.Machine
end

