-- ==== Sys2Proof/Machine/RedTypes.lean ====
section
/-! DEFINITION. The records of redundancy: heartbeats, snapshot slots, restores and role swaps. -/

namespace Sys2Proof.Machine

/-- R433, R434: a snapshot slot: its header's SNAP_GEN, FLIP_NUM, STREAM_POS, BODY_LEN and BODY_CHECK once it is
complete, and the bytes held of it, header included, from its start. -/
structure Slot where
  gen : Nat
  flip : Nat
  pos : Nat
  complete : Bool
  bytes : List Byte
  deriving DecidableEq, Repr

/-- R432: a snapshot being sent: its slot, its bytes, the offset to be sent next, the offset acknowledged, and the cycle of
the last datagram. -/
structure SnapOut where
  slot : Nat
  bytes : List Byte
  at_ : Nat
  acked : Nat
  last : Nat
  deriving DecidableEq, Repr

/-- R435: a restore in progress: its start, whether it belongs to a takeover (otherwise to a swap), and the KiB of stream
replayed. -/
structure Restore where
  since : Nat
  takeover : Bool
  kib : Nat
  deriving DecidableEq, Repr

/-- R442 to R445: a role swap: its STATE as RED_SWAP_STAT gives it, the flip S, the view-frames rendered in step, those
judged or passed over, and the view-frames of this sender and of the partner that wait for each other. -/
structure SwapRun where
  s : Nat
  warm : Nat
  seen : Nat
  mine : List VfBody
  theirs : List VfBody
  deriving DecidableEq, Repr

/-- R421 to R445: the cycles of the last counted heartbeat on each path; the partner's last
heartbeat; the datagram and heartbeat counts; the cycle in which STANDBY was entered, while no claim has been heard;
the consecutive view-frames whose render checks differ; the slots; the snapshot being sent, the cycle of the last one and
its number and STREAM_POS; whether one is wanted at the next flip; the cycle of the last swap or takeover; the restore; the
swap; the cycle from which paths never heard count as silent, the paths reported silent, and whether the partner is lost; on a standby, where the stream it holds begins and whether that has a gap; the cycle of
the last resend; the first flip that this active claims; and the highest epoch seen. -/
structure RedState where
  chainAt : Option Nat
  netAt : Option Nat
  partner : Option Heartbeat
  dseq : Nat
  hbSeq : Nat
  hbSent : Nat
  standbyAt : Option Nat
  gntRun : Nat
  slot0 : Slot
  slot1 : Slot
  snapOut : Option SnapOut
  snapAt : Nat
  snapGen : Nat
  snapWanted : Bool
  swapAt : Nat
  restore : Option Restore
  swap : Option SwapRun
  hbBase : Nat
  silent : List Nat
  lost : Bool
  heldFrom : Nat
  gap : Bool
  resentAt : Nat
  f1 : Option Nat
  snapPos : Nat
  seenEpoch : Nat
  deriving DecidableEq, Repr

end Sys2Proof.Machine
end

