-- ==== Sys2Proof/Machine/Fields.lean ====
section
/-! DEFINITION. The names of the register fields of the spec (register tables of R8 to R566), each as the address of its word and its bits. Generated once from the tables of spec/ by a script that reads spec/ alone; a register that a table repeats takes its index or indices as arguments. -/

namespace Sys2Proof.Machine.F

-- SYS_DEVICE_ID, R8
abbrev SYS_DEVICE_ID_ID : Fld := ⟨0x0, 31, 0⟩
-- SYS_STRAP, R26
abbrev SYS_STRAP_FACTORY_DENIED : Fld := ⟨0x4, 7, 7⟩
abbrev SYS_STRAP_FACTORY_EN : Fld := ⟨0x4, 3, 3⟩
abbrev SYS_STRAP_FACTORY_FUSE : Fld := ⟨0x4, 2, 2⟩
abbrev SYS_STRAP_ROLE : Fld := ⟨0x4, 1, 0⟩
-- SYS_MODE, R35
abbrev SYS_MODE_MITTEN_REASON : Fld := ⟨0x8, 31, 24⟩
abbrev SYS_MODE_MODE_CHANGES : Fld := ⟨0x8, 23, 16⟩
abbrev SYS_MODE_PREV_MODE : Fld := ⟨0x8, 10, 8⟩
abbrev SYS_MODE_MODE : Fld := ⟨0x8, 2, 0⟩
-- SYS_BOOT_STAT, R502
abbrev SYS_BOOT_STAT_LAST_FAIL : Fld := ⟨0x100, 31, 24⟩
abbrev SYS_BOOT_STAT_FAIL_COUNT : Fld := ⟨0x100, 23, 22⟩
abbrev SYS_BOOT_STAT_FALLBACK : Fld := ⟨0x100, 21, 21⟩
abbrev SYS_BOOT_STAT_SLOT : Fld := ⟨0x100, 20, 20⟩
abbrev SYS_BOOT_STAT_TRIAL : Fld := ⟨0x100, 19, 19⟩
abbrev SYS_BOOT_STAT_KEYLESS : Fld := ⟨0x100, 18, 18⟩
abbrev SYS_BOOT_STAT_SETTINGS_DEFAULT : Fld := ⟨0x100, 17, 17⟩
abbrev SYS_BOOT_STAT_SET_COPY : Fld := ⟨0x100, 16, 15⟩
abbrev SYS_BOOT_STAT_LAST_LEVEL : Fld := ⟨0x100, 9, 8⟩
abbrev SYS_BOOT_STAT_STARTS : Fld := ⟨0x100, 7, 0⟩
-- SYS_FW_VER, R502
abbrev SYS_FW_VER_FW_VER : Fld := ⟨0x104, 31, 0⟩
-- SYS_FW_STAGED, R502
abbrev SYS_FW_STAGED_FW_VER : Fld := ⟨0x108, 31, 0⟩
-- SYS_SLOT_STAT, R502
abbrev SYS_SLOT_STAT_STATE_B : Fld := ⟨0x10C, 7, 4⟩
abbrev SYS_SLOT_STAT_STATE_A : Fld := ⟨0x10C, 3, 0⟩
-- SYS_SCHEMA, R502
abbrev SYS_SCHEMA_LIVE : Fld := ⟨0x110, 31, 16⟩
abbrev SYS_SCHEMA_RECORD : Fld := ⟨0x110, 15, 0⟩
-- SYS_FW_PUSH, R502
abbrev SYS_FW_PUSH_EN : Fld := ⟨0x114, 31, 31⟩
abbrev SYS_FW_PUSH_BUSY : Fld := ⟨0x114, 23, 16⟩
abbrev SYS_FW_PUSH_RATE_MBPS : Fld := ⟨0x114, 15, 0⟩
-- SYS_BOOT_EVT, R502
abbrev SYS_BOOT_EVT_SETTINGS_COPY : Fld := ⟨0x118, 6, 6⟩
abbrev SYS_BOOT_EVT_PUSH_DONE : Fld := ⟨0x118, 5, 5⟩
abbrev SYS_BOOT_EVT_PUSH_FAIL : Fld := ⟨0x118, 4, 4⟩
abbrev SYS_BOOT_EVT_STAGE_REJ : Fld := ⟨0x118, 3, 3⟩
abbrev SYS_BOOT_EVT_STAGE_DONE : Fld := ⟨0x118, 2, 2⟩
abbrev SYS_BOOT_EVT_FALLBACK_EVT : Fld := ⟨0x118, 1, 1⟩
abbrev SYS_BOOT_EVT_PROVEN_EVT : Fld := ⟨0x118, 0, 0⟩
-- SYS_BOOT_IRQ_EN, R502
abbrev SYS_BOOT_IRQ_EN_SETTINGS_COPY : Fld := ⟨0x11C, 6, 6⟩
abbrev SYS_BOOT_IRQ_EN_PUSH_DONE : Fld := ⟨0x11C, 5, 5⟩
abbrev SYS_BOOT_IRQ_EN_PUSH_FAIL : Fld := ⟨0x11C, 4, 4⟩
abbrev SYS_BOOT_IRQ_EN_STAGE_REJ : Fld := ⟨0x11C, 3, 3⟩
abbrev SYS_BOOT_IRQ_EN_STAGE_DONE : Fld := ⟨0x11C, 2, 2⟩
abbrev SYS_BOOT_IRQ_EN_FALLBACK_EVT : Fld := ⟨0x11C, 1, 1⟩
abbrev SYS_BOOT_IRQ_EN_PROVEN_EVT : Fld := ⟨0x11C, 0, 0⟩
-- SYS_CUFF, R78
abbrev SYS_CUFF_CUFF_US : Fld := ⟨0x200, 10, 0⟩
-- SYS_FLIP_EVT, R79
abbrev SYS_FLIP_EVT_CUFF_CLAMP : Fld := ⟨0x204, 7, 7⟩
abbrev SYS_FLIP_EVT_SHADOW_LATE : Fld := ⟨0x204, 6, 6⟩
abbrev SYS_FLIP_EVT_FENCE_TMO : Fld := ⟨0x204, 5, 5⟩
abbrev SYS_FLIP_EVT_TXN_IDLE : Fld := ⟨0x204, 4, 4⟩
abbrev SYS_FLIP_EVT_REPL_TMO : Fld := ⟨0x204, 3, 3⟩
abbrev SYS_FLIP_EVT_LATE_GNT : Fld := ⟨0x204, 2, 2⟩
abbrev SYS_FLIP_EVT_LATE_GEN : Fld := ⟨0x204, 1, 1⟩
abbrev SYS_FLIP_EVT_COMMIT_FAIL : Fld := ⟨0x204, 0, 0⟩
-- SYS_FLIP_IRQ_EN, R79
abbrev SYS_FLIP_IRQ_EN_CUFF_CLAMP : Fld := ⟨0x208, 7, 7⟩
abbrev SYS_FLIP_IRQ_EN_SHADOW_LATE : Fld := ⟨0x208, 6, 6⟩
abbrev SYS_FLIP_IRQ_EN_FENCE_TMO : Fld := ⟨0x208, 5, 5⟩
abbrev SYS_FLIP_IRQ_EN_TXN_IDLE : Fld := ⟨0x208, 4, 4⟩
abbrev SYS_FLIP_IRQ_EN_REPL_TMO : Fld := ⟨0x208, 3, 3⟩
abbrev SYS_FLIP_IRQ_EN_LATE_GNT : Fld := ⟨0x208, 2, 2⟩
abbrev SYS_FLIP_IRQ_EN_LATE_GEN : Fld := ⟨0x208, 1, 1⟩
abbrev SYS_FLIP_IRQ_EN_COMMIT_FAIL : Fld := ⟨0x208, 0, 0⟩
-- SYS_FLIP_CNT, R80
abbrev SYS_FLIP_CNT_LATE_COUNT : Fld := ⟨0x20C, 31, 16⟩
abbrev SYS_FLIP_CNT_FENCE_TMO_COUNT : Fld := ⟨0x20C, 15, 0⟩
-- SYS_COMPAT, R81
abbrev SYS_COMPAT_SHADOW_EN : Fld := ⟨0x210, 0, 0⟩
-- SYS_FENCE_TMO, R82
abbrev SYS_FENCE_TMO_TMO_US : Fld := ⟨0x214, 19, 0⟩
-- SYS_TXN_STAT, R83
abbrev SYS_TXN_STAT_OPEN (i : Nat) : Fld := ⟨0x220 + 0x10 * i, 31, 31⟩
abbrev SYS_TXN_STAT_SHADOW_PENDING (i : Nat) : Fld := ⟨0x220 + 0x10 * i, 30, 30⟩
abbrev SYS_TXN_STAT_CHANGES (i : Nat) : Fld := ⟨0x220 + 0x10 * i, 28, 16⟩
abbrev SYS_TXN_STAT_JOURNAL_16B (i : Nat) : Fld := ⟨0x220 + 0x10 * i, 14, 0⟩
-- SYS_TXN_OPEN_SEQ, R83
abbrev SYS_TXN_OPEN_SEQ_SEQ (i : Nat) : Fld := ⟨0x224 + 0x10 * i, 31, 0⟩
-- SYS_TXN_LAST_SEQ, R83
abbrev SYS_TXN_LAST_SEQ_SEQ (i : Nat) : Fld := ⟨0x228 + 0x10 * i, 31, 0⟩
-- SYS_TXN_LAST_RES, R83
abbrev SYS_TXN_LAST_RES_STATUS (i : Nat) : Fld := ⟨0x22C + 0x10 * i, 31, 16⟩
abbrev SYS_TXN_LAST_RES_LATE (i : Nat) : Fld := ⟨0x22C + 0x10 * i, 15, 15⟩
abbrev SYS_TXN_LAST_RES_REPLICATED (i : Nat) : Fld := ⟨0x22C + 0x10 * i, 14, 14⟩
abbrev SYS_TXN_LAST_RES_FAIL_INDEX (i : Nat) : Fld := ⟨0x22C + 0x10 * i, 12, 0⟩
-- SYS_FENCE_WAIT, R84
abbrev SYS_FENCE_WAIT_WAIT (i : Nat) : Fld := ⟨0x240 + 0x4 * i, 31, 0⟩
-- SYS_CMD_STAT, R526
abbrev SYS_CMD_STAT_COMMISSIONED : Fld := ⟨0x300, 31, 31⟩
abbrev SYS_CMD_STAT_TAG32 : Fld := ⟨0x300, 30, 30⟩
abbrev SYS_CMD_STAT_TRANSPORTS : Fld := ⟨0x300, 29, 26⟩
abbrev SYS_CMD_STAT_QUEUE_GEN : Fld := ⟨0x300, 25, 21⟩
abbrev SYS_CMD_STAT_QUEUE_GNT : Fld := ⟨0x300, 20, 16⟩
-- SYS_CMD_EVT, R526
abbrev SYS_CMD_EVT_RSP_READY : Fld := ⟨0x304, 5, 5⟩
abbrev SYS_CMD_EVT_UDP_DROP : Fld := ⟨0x304, 4, 4⟩
abbrev SYS_CMD_EVT_BUSY : Fld := ⟨0x304, 3, 3⟩
abbrev SYS_CMD_EVT_SEQ_ERR : Fld := ⟨0x304, 2, 2⟩
abbrev SYS_CMD_EVT_AUTH_FAIL : Fld := ⟨0x304, 1, 1⟩
abbrev SYS_CMD_EVT_FRAME_ERR : Fld := ⟨0x304, 0, 0⟩
-- SYS_CMD_IRQ_EN, R526
abbrev SYS_CMD_IRQ_EN_RSP_READY : Fld := ⟨0x308, 5, 5⟩
abbrev SYS_CMD_IRQ_EN_UDP_DROP : Fld := ⟨0x308, 4, 4⟩
abbrev SYS_CMD_IRQ_EN_BUSY : Fld := ⟨0x308, 3, 3⟩
abbrev SYS_CMD_IRQ_EN_SEQ_ERR : Fld := ⟨0x308, 2, 2⟩
abbrev SYS_CMD_IRQ_EN_AUTH_FAIL : Fld := ⟨0x308, 1, 1⟩
abbrev SYS_CMD_IRQ_EN_FRAME_ERR : Fld := ⟨0x308, 0, 0⟩
-- SYS_CMD_CNT0, R526
abbrev SYS_CMD_CNT0_AUTH_FAIL_COUNT : Fld := ⟨0x30C, 31, 16⟩
abbrev SYS_CMD_CNT0_FRAME_ERR_COUNT : Fld := ⟨0x30C, 15, 0⟩
-- SYS_CMD_CNT1, R526
abbrev SYS_CMD_CNT1_UDP_DROP_COUNT : Fld := ⟨0x310, 31, 16⟩
abbrev SYS_CMD_CNT1_BUSY_COUNT : Fld := ⟨0x310, 15, 0⟩
-- SYS_ACT_SEQ_GEN, R526
abbrev SYS_ACT_SEQ_GEN_SEQ : Fld := ⟨0x314, 31, 0⟩
-- SYS_ACT_SEQ_GNT, R526
abbrev SYS_ACT_SEQ_GNT_SEQ : Fld := ⟨0x318, 31, 0⟩
-- SYS_COMM_GEN, R526
abbrev SYS_COMM_GEN_COMM_GEN : Fld := ⟨0x31C, 31, 0⟩
-- SYS_IRQ_SUM, R526
abbrev SYS_IRQ_SUM_CLK : Fld := ⟨0x320, 19, 19⟩
abbrev SYS_IRQ_SUM_RED : Fld := ⟨0x320, 18, 18⟩
abbrev SYS_IRQ_SUM_DRC : Fld := ⟨0x320, 17, 17⟩
abbrev SYS_IRQ_SUM_LMB_DIAG : Fld := ⟨0x320, 16, 16⟩
abbrev SYS_IRQ_SUM_LMB : Fld := ⟨0x320, 15, 15⟩
abbrev SYS_IRQ_SUM_TIL : Fld := ⟨0x320, 14, 14⟩
abbrev SYS_IRQ_SUM_SER : Fld := ⟨0x320, 13, 13⟩
abbrev SYS_IRQ_SUM_MLK : Fld := ⟨0x320, 12, 12⟩
abbrev SYS_IRQ_SUM_CMP_SCAN : Fld := ⟨0x320, 11, 11⟩
abbrev SYS_IRQ_SUM_CMP : Fld := ⟨0x320, 10, 10⟩
abbrev SYS_IRQ_SUM_PTP : Fld := ⟨0x320, 9, 9⟩
abbrev SYS_IRQ_SUM_NET1 : Fld := ⟨0x320, 8, 8⟩
abbrev SYS_IRQ_SUM_NET0 : Fld := ⟨0x320, 7, 7⟩
abbrev SYS_IRQ_SUM_SDI : Fld := ⟨0x320, 6, 6⟩
abbrev SYS_IRQ_SUM_CHK : Fld := ⟨0x320, 5, 5⟩
abbrev SYS_IRQ_SUM_THM : Fld := ⟨0x320, 4, 4⟩
abbrev SYS_IRQ_SUM_RST : Fld := ⟨0x320, 3, 3⟩
abbrev SYS_IRQ_SUM_SYS_CMD : Fld := ⟨0x320, 2, 2⟩
abbrev SYS_IRQ_SUM_SYS_BOOT : Fld := ⟨0x320, 1, 1⟩
abbrev SYS_IRQ_SUM_SYS_FLIP : Fld := ⟨0x320, 0, 0⟩
-- SYS_ALARM_EN, R526
abbrev SYS_ALARM_EN_THERMAL : Fld := ⟨0x324, 31, 31⟩
abbrev SYS_ALARM_EN_REDUNDANCY : Fld := ⟨0x324, 30, 30⟩
abbrev SYS_ALARM_EN_SUM : Fld := ⟨0x324, 19, 0⟩
-- SYS_ALARM_STAT, R526
abbrev SYS_ALARM_STAT_SHOWN : Fld := ⟨0x328, 2, 0⟩
-- SYS_FENCE_VAL, R84
abbrev SYS_FENCE_VAL_VALUE (i : Nat) : Fld := ⟨0x400 + 0x4 * i, 31, 0⟩
-- RST_CTL, R562
abbrev RST_CTL_OUT_L3 : Fld := ⟨0x10000, 1, 1⟩
abbrev RST_CTL_OUT_L2 : Fld := ⟨0x10000, 0, 0⟩
-- RST_STAT, R562
abbrev RST_STAT_LAST_LEVEL : Fld := ⟨0x10004, 17, 16⟩
abbrev RST_STAT_LAST_SRC : Fld := ⟨0x10004, 4, 0⟩
-- RST_CAUSE, R562
abbrev RST_CAUSE_SRC : Fld := ⟨0x10008, 13, 0⟩
-- RST_MAP, R562
abbrev RST_MAP_LEVEL : Fld := ⟨0x1000C, 27, 0⟩
-- RST_EVT, R562
abbrev RST_EVT_BLK_DONE : Fld := ⟨0x10010, 2, 2⟩
abbrev RST_EVT_RELEASE_HELD : Fld := ⟨0x10010, 1, 1⟩
abbrev RST_EVT_BLK_NOT_IDLE : Fld := ⟨0x10010, 0, 0⟩
-- RST_IRQ_EN, R562
abbrev RST_IRQ_EN_BLK_DONE : Fld := ⟨0x10014, 2, 2⟩
abbrev RST_IRQ_EN_RELEASE_HELD : Fld := ⟨0x10014, 1, 1⟩
abbrev RST_IRQ_EN_BLK_NOT_IDLE : Fld := ⟨0x10014, 0, 0⟩
-- RST_BLK_REQ, R562
abbrev RST_BLK_REQ_REQ : Fld := ⟨0x10018, 7, 0⟩
-- RST_BLK_STAT, R562
abbrev RST_BLK_STAT_HELD : Fld := ⟨0x1001C, 23, 16⟩
abbrev RST_BLK_STAT_IN_RESET : Fld := ⟨0x1001C, 15, 8⟩
abbrev RST_BLK_STAT_IDLE : Fld := ⟨0x1001C, 7, 0⟩
-- RST_CNT, R562
abbrev RST_CNT_WDT_COUNT : Fld := ⟨0x10020, 31, 16⟩
abbrev RST_CNT_BLK_COUNT : Fld := ⟨0x10020, 15, 0⟩
-- CLK_STAT, R563
abbrev CLK_STAT_REF1PPS_OK : Fld := ⟨0x20000, 8, 8⟩
abbrev CLK_STAT_REF10M_OK : Fld := ⟨0x20000, 7, 7⟩
abbrev CLK_STAT_REFCLK_SD_OK : Fld := ⟨0x20000, 6, 6⟩
abbrev CLK_STAT_REFCLK_SYS_OK : Fld := ⟨0x20000, 5, 5⟩
abbrev CLK_STAT_LB_LOCK : Fld := ⟨0x20000, 4, 4⟩
abbrev CLK_STAT_DRAM_LOCK : Fld := ⟨0x20000, 3, 3⟩
abbrev CLK_STAT_TIME_LOCK : Fld := ⟨0x20000, 2, 2⟩
abbrev CLK_STAT_CTL_LOCK : Fld := ⟨0x20000, 1, 1⟩
abbrev CLK_STAT_CORE_LOCK : Fld := ⟨0x20000, 0, 0⟩
-- CLK_EVT, R563
abbrev CLK_EVT_REF_LOST : Fld := ⟨0x20004, 5, 5⟩
abbrev CLK_EVT_LB_UNLOCK : Fld := ⟨0x20004, 4, 4⟩
abbrev CLK_EVT_DRAM_UNLOCK : Fld := ⟨0x20004, 3, 3⟩
abbrev CLK_EVT_TIME_UNLOCK : Fld := ⟨0x20004, 2, 2⟩
abbrev CLK_EVT_CTL_UNLOCK : Fld := ⟨0x20004, 1, 1⟩
abbrev CLK_EVT_CORE_UNLOCK : Fld := ⟨0x20004, 0, 0⟩
-- CLK_IRQ_EN, R563
abbrev CLK_IRQ_EN_REF_LOST : Fld := ⟨0x20008, 5, 5⟩
abbrev CLK_IRQ_EN_LB_UNLOCK : Fld := ⟨0x20008, 4, 4⟩
abbrev CLK_IRQ_EN_DRAM_UNLOCK : Fld := ⟨0x20008, 3, 3⟩
abbrev CLK_IRQ_EN_TIME_UNLOCK : Fld := ⟨0x20008, 2, 2⟩
abbrev CLK_IRQ_EN_CTL_UNLOCK : Fld := ⟨0x20008, 1, 1⟩
abbrev CLK_IRQ_EN_CORE_UNLOCK : Fld := ⟨0x20008, 0, 0⟩
-- CLK_THROTTLE, R563
abbrev CLK_THROTTLE_CTL_SKIP : Fld := ⟨0x2000C, 5, 4⟩
abbrev CLK_THROTTLE_CORE_DIV : Fld := ⟨0x2000C, 1, 0⟩
-- THM_THRESH, R564
abbrev THM_THRESH_SHUT_C : Fld := ⟨0x30000, 31, 24⟩
abbrev THM_THRESH_THROTTLE_C : Fld := ⟨0x30000, 23, 16⟩
abbrev THM_THRESH_WARN_C : Fld := ⟨0x30000, 15, 8⟩
abbrev THM_THRESH_HYST_C : Fld := ⟨0x30000, 3, 0⟩
-- THM_STAT, R564
abbrev THM_STAT_HOTTEST : Fld := ⟨0x30004, 31, 24⟩
abbrev THM_STAT_HOT_SENSOR : Fld := ⟨0x30004, 23, 20⟩
abbrev THM_STAT_LEVEL : Fld := ⟨0x30004, 19, 16⟩
abbrev THM_STAT_AC_DARK : Fld := ⟨0x30004, 3, 3⟩
abbrev THM_STAT_AC_FAIL : Fld := ⟨0x30004, 2, 2⟩
abbrev THM_STAT_THROTTLE : Fld := ⟨0x30004, 1, 1⟩
abbrev THM_STAT_WARN : Fld := ⟨0x30004, 0, 0⟩
-- THM_EVT, R564
abbrev THM_EVT_AC_CLEAR : Fld := ⟨0x30008, 9, 9⟩
abbrev THM_EVT_AC_FAIL : Fld := ⟨0x30008, 8, 8⟩
abbrev THM_EVT_RAIL_OVER : Fld := ⟨0x30008, 7, 7⟩
abbrev THM_EVT_RAIL_LOW : Fld := ⟨0x30008, 6, 6⟩
abbrev THM_EVT_RAIL_SAG : Fld := ⟨0x30008, 5, 5⟩
abbrev THM_EVT_TEMP_FAIL : Fld := ⟨0x30008, 4, 4⟩
abbrev THM_EVT_LEVEL_DOWN : Fld := ⟨0x30008, 3, 3⟩
abbrev THM_EVT_LEVEL_UP : Fld := ⟨0x30008, 2, 2⟩
abbrev THM_EVT_THROTTLE : Fld := ⟨0x30008, 1, 1⟩
abbrev THM_EVT_WARN : Fld := ⟨0x30008, 0, 0⟩
-- THM_IRQ_EN, R564
abbrev THM_IRQ_EN_AC_CLEAR : Fld := ⟨0x3000C, 9, 9⟩
abbrev THM_IRQ_EN_AC_FAIL : Fld := ⟨0x3000C, 8, 8⟩
abbrev THM_IRQ_EN_RAIL_OVER : Fld := ⟨0x3000C, 7, 7⟩
abbrev THM_IRQ_EN_RAIL_LOW : Fld := ⟨0x3000C, 6, 6⟩
abbrev THM_IRQ_EN_RAIL_SAG : Fld := ⟨0x3000C, 5, 5⟩
abbrev THM_IRQ_EN_TEMP_FAIL : Fld := ⟨0x3000C, 4, 4⟩
abbrev THM_IRQ_EN_LEVEL_DOWN : Fld := ⟨0x3000C, 3, 3⟩
abbrev THM_IRQ_EN_LEVEL_UP : Fld := ⟨0x3000C, 2, 2⟩
abbrev THM_IRQ_EN_THROTTLE : Fld := ⟨0x3000C, 1, 1⟩
abbrev THM_IRQ_EN_WARN : Fld := ⟨0x3000C, 0, 0⟩
-- THM_THROTTLE_CTL, R564
abbrev THM_THROTTLE_CTL_STEP_MS : Fld := ⟨0x30010, 31, 16⟩
abbrev THM_THROTTLE_CTL_DIV_EN : Fld := ⟨0x30010, 2, 2⟩
abbrev THM_THROTTLE_CTL_SHED_EN : Fld := ⟨0x30010, 1, 1⟩
abbrev THM_THROTTLE_CTL_SKIP_EN : Fld := ⟨0x30010, 0, 0⟩
-- THM_AC_CTL, R564
abbrev THM_AC_CTL_DEB_10US : Fld := ⟨0x30014, 31, 24⟩
abbrev THM_AC_CTL_DARK_MS : Fld := ⟨0x30014, 23, 16⟩
abbrev THM_AC_CTL_CLEAR_10MS : Fld := ⟨0x30014, 15, 8⟩
-- THM_AC_GAIN, R564
abbrev THM_AC_GAIN_AC_GAIN : Fld := ⟨0x30018, 15, 0⟩
-- THM_SUPV_CTL, R564
abbrev THM_SUPV_CTL_RISE : Fld := ⟨0x3001C, 31, 16⟩
abbrev THM_SUPV_CTL_LIMIT : Fld := ⟨0x3001C, 15, 0⟩
-- THM_DIE, R565
abbrev THM_DIE_VALID (i : Nat) : Fld := ⟨0x30100 + 0x4 * i, 16, 16⟩
abbrev THM_DIE_TEMP (i : Nat) : Fld := ⟨0x30100 + 0x4 * i, 15, 0⟩
-- THM_TEMP_CFG, R565
abbrev THM_TEMP_CFG_EN (i : Nat) : Fld := ⟨0x30200 + 0x10 * i, 31, 31⟩
abbrev THM_TEMP_CFG_KIND (i : Nat) : Fld := ⟨0x30200 + 0x10 * i, 30, 30⟩
abbrev THM_TEMP_CFG_BETA (i : Nat) : Fld := ⟨0x30200 + 0x10 * i, 29, 16⟩
abbrev THM_TEMP_CFG_NTC_NOM (i : Nat) : Fld := ⟨0x30200 + 0x10 * i, 15, 0⟩
-- THM_TEMP_DIODE, R565
abbrev THM_TEMP_DIODE_IDEALITY (i : Nat) : Fld := ⟨0x30204 + 0x10 * i, 31, 16⟩
abbrev THM_TEMP_DIODE_OFFSET (i : Nat) : Fld := ⟨0x30204 + 0x10 * i, 15, 0⟩
-- THM_TEMP_STAT, R565
abbrev THM_TEMP_STAT_FAILED (i : Nat) : Fld := ⟨0x30208 + 0x10 * i, 17, 17⟩
abbrev THM_TEMP_STAT_VALID (i : Nat) : Fld := ⟨0x30208 + 0x10 * i, 16, 16⟩
abbrev THM_TEMP_STAT_TEMP (i : Nat) : Fld := ⟨0x30208 + 0x10 * i, 15, 0⟩
-- THM_SUPV_CFG, R566
abbrev THM_SUPV_CFG_EN (i : Nat) : Fld := ⟨0x30400 + 0x10 * i, 31, 31⟩
abbrev THM_SUPV_CFG_SCALE (i : Nat) : Fld := ⟨0x30400 + 0x10 * i, 15, 0⟩
-- THM_SUPV_LEVELS, R566
abbrev THM_SUPV_LEVELS_WARN_MV (i : Nat) : Fld := ⟨0x30404 + 0x10 * i, 31, 16⟩
abbrev THM_SUPV_LEVELS_MIN_MV (i : Nat) : Fld := ⟨0x30404 + 0x10 * i, 15, 0⟩
-- THM_SUPV_MAX, R566
abbrev THM_SUPV_MAX_MAX_MV (i : Nat) : Fld := ⟨0x30408 + 0x10 * i, 31, 16⟩
abbrev THM_SUPV_MAX_LOW_MV (i : Nat) : Fld := ⟨0x30408 + 0x10 * i, 15, 0⟩
-- THM_SUPV_STAT, R566
abbrev THM_SUPV_STAT_RAIL_MV (i : Nat) : Fld := ⟨0x3040C + 0x10 * i, 31, 16⟩
abbrev THM_SUPV_STAT_LIMIT (i : Nat) : Fld := ⟨0x3040C + 0x10 * i, 15, 0⟩
-- FUS_STAT, R503
abbrev FUS_STAT_LOAD_COUNT : Fld := ⟨0x40000, 15, 8⟩
abbrev FUS_STAT_MISMATCH : Fld := ⟨0x40000, 1, 0⟩
-- FUS_PERM, R503
abbrev FUS_PERM_FACTORY_PERM : Fld := ⟨0x40004, 2, 2⟩
abbrev FUS_PERM_KEY_REVOKED : Fld := ⟨0x40004, 1, 0⟩
-- FUS_ROLLBACK, R503
abbrev FUS_ROLLBACK_MIN : Fld := ⟨0x40008, 6, 0⟩
-- FUS_UID_LO, R503
abbrev FUS_UID_LO_UID : Fld := ⟨0x40010, 31, 0⟩
-- FUS_UID_HI, R503
abbrev FUS_UID_HI_UID : Fld := ⟨0x40014, 31, 0⟩
-- FUS_MAC_LO, R503
abbrev FUS_MAC_LO_MAC : Fld := ⟨0x40018, 31, 0⟩
-- FUS_MAC_HI, R503
abbrev FUS_MAC_HI_MAC : Fld := ⟨0x4001C, 15, 0⟩
-- CHK_EVT, R537
abbrev CHK_EVT_SELFTEST_FAIL : Fld := ⟨0x80000, 8, 8⟩
abbrev CHK_EVT_UNIT : Fld := ⟨0x80000, 7, 0⟩
-- CHK_IRQ_EN, R537
abbrev CHK_IRQ_EN_SELFTEST_FAIL : Fld := ⟨0x80004, 8, 8⟩
-- CHK_DED_STAT, R537
abbrev CHK_DED_STAT_VISOR_FAIL : Fld := ⟨0x80008, 3, 3⟩
abbrev CHK_DED_STAT_GNT_FAIL : Fld := ⟨0x80008, 2, 2⟩
abbrev CHK_DED_STAT_FRAME_FAIL : Fld := ⟨0x80008, 1, 1⟩
abbrev CHK_DED_STAT_DONE : Fld := ⟨0x80008, 0, 0⟩
-- CHK_U_CFG, R538
abbrev CHK_U_CFG_CMP_EN (i : Nat) : Fld := ⟨0x80100 + 0x40 * i, 31, 31⟩
abbrev CHK_U_CFG_REFIN (i : Nat) : Fld := ⟨0x80100 + 0x40 * i, 30, 30⟩
abbrev CHK_U_CFG_REFOUT (i : Nat) : Fld := ⟨0x80100 + 0x40 * i, 29, 29⟩
abbrev CHK_U_CFG_INVERT (i : Nat) : Fld := ⟨0x80100 + 0x40 * i, 28, 28⟩
abbrev CHK_U_CFG_BYTES_M1 (i : Nat) : Fld := ⟨0x80100 + 0x40 * i, 27, 26⟩
abbrev CHK_U_CFG_PRESET (i : Nat) : Fld := ⟨0x80100 + 0x40 * i, 25, 24⟩
abbrev CHK_U_CFG_ALIVE_W (i : Nat) : Fld := ⟨0x80100 + 0x40 * i, 16, 12⟩
abbrev CHK_U_CFG_WIDTH (i : Nat) : Fld := ⟨0x80100 + 0x40 * i, 6, 0⟩
-- CHK_U_POLY_LO, R538
abbrev CHK_U_POLY_LO_POLY (i : Nat) : Fld := ⟨0x80104 + 0x40 * i, 31, 0⟩
-- CHK_U_POLY_HI, R538
abbrev CHK_U_POLY_HI_POLY (i : Nat) : Fld := ⟨0x80108 + 0x40 * i, 31, 0⟩
-- CHK_U_INIT_LO, R538
abbrev CHK_U_INIT_LO_INIT (i : Nat) : Fld := ⟨0x8010C + 0x40 * i, 31, 0⟩
-- CHK_U_INIT_HI, R538
abbrev CHK_U_INIT_HI_INIT (i : Nat) : Fld := ⟨0x80110 + 0x40 * i, 31, 0⟩
-- CHK_U_EXP_LO, R538
abbrev CHK_U_EXP_LO_EXPECT (i : Nat) : Fld := ⟨0x80114 + 0x40 * i, 31, 0⟩
-- CHK_U_EXP_HI, R538
abbrev CHK_U_EXP_HI_EXPECT (i : Nat) : Fld := ⟨0x80118 + 0x40 * i, 31, 0⟩
-- CHK_U_DATA, R538
abbrev CHK_U_DATA_DATA (i : Nat) : Fld := ⟨0x8011C + 0x40 * i, 31, 0⟩
-- CHK_U_OP, R538
abbrev CHK_U_OP_OP (i : Nat) : Fld := ⟨0x80120 + 0x40 * i, 31, 28⟩
abbrev CHK_U_OP_ALIVE (i : Nat) : Fld := ⟨0x80120 + 0x40 * i, 15, 0⟩
-- CHK_U_RES_LO, R538
abbrev CHK_U_RES_LO_RESULT (i : Nat) : Fld := ⟨0x80124 + 0x40 * i, 31, 0⟩
-- CHK_U_RES_HI, R538
abbrev CHK_U_RES_HI_RESULT (i : Nat) : Fld := ⟨0x80128 + 0x40 * i, 31, 0⟩
-- CHK_U_STAT, R538
abbrev CHK_U_STAT_OPEN (i : Nat) : Fld := ⟨0x8012C + 0x40 * i, 31, 31⟩
abbrev CHK_U_STAT_MATCH (i : Nat) : Fld := ⟨0x8012C + 0x40 * i, 30, 30⟩
abbrev CHK_U_STAT_ALIVE_RES (i : Nat) : Fld := ⟨0x8012C + 0x40 * i, 29, 27⟩
abbrev CHK_U_STAT_LAST_ALIVE (i : Nat) : Fld := ⟨0x8012C + 0x40 * i, 15, 0⟩
-- CHK_U_EVT, R538
abbrev CHK_U_EVT_NOT_STARTED (i : Nat) : Fld := ⟨0x80130 + 0x40 * i, 5, 5⟩
abbrev CHK_U_EVT_CFG_ERR (i : Nat) : Fld := ⟨0x80130 + 0x40 * i, 4, 4⟩
abbrev CHK_U_EVT_STALE (i : Nat) : Fld := ⟨0x80130 + 0x40 * i, 3, 3⟩
abbrev CHK_U_EVT_SKIP (i : Nat) : Fld := ⟨0x80130 + 0x40 * i, 2, 2⟩
abbrev CHK_U_EVT_REPEAT (i : Nat) : Fld := ⟨0x80130 + 0x40 * i, 1, 1⟩
abbrev CHK_U_EVT_MISMATCH (i : Nat) : Fld := ⟨0x80130 + 0x40 * i, 0, 0⟩
-- CHK_U_IRQ_EN, R538
abbrev CHK_U_IRQ_EN_NOT_STARTED (i : Nat) : Fld := ⟨0x80134 + 0x40 * i, 5, 5⟩
abbrev CHK_U_IRQ_EN_CFG_ERR (i : Nat) : Fld := ⟨0x80134 + 0x40 * i, 4, 4⟩
abbrev CHK_U_IRQ_EN_STALE (i : Nat) : Fld := ⟨0x80134 + 0x40 * i, 3, 3⟩
abbrev CHK_U_IRQ_EN_SKIP (i : Nat) : Fld := ⟨0x80134 + 0x40 * i, 2, 2⟩
abbrev CHK_U_IRQ_EN_REPEAT (i : Nat) : Fld := ⟨0x80134 + 0x40 * i, 1, 1⟩
abbrev CHK_U_IRQ_EN_MISMATCH (i : Nat) : Fld := ⟨0x80134 + 0x40 * i, 0, 0⟩
-- CHK_U_CNT, R538
abbrev CHK_U_CNT_MISMATCH_COUNT (i : Nat) : Fld := ⟨0x80138 + 0x40 * i, 31, 16⟩
abbrev CHK_U_CNT_ALIVE_ERR_COUNT (i : Nat) : Fld := ⟨0x80138 + 0x40 * i, 15, 0⟩
-- SDI_WORKSPACE, R115
abbrev SDI_WORKSPACE_WORK_PRIM : Fld := ⟨0x100000, 24, 24⟩
abbrev SDI_WORKSPACE_SDR_WHITE_NITS : Fld := ⟨0x100000, 23, 14⟩
abbrev SDI_WORKSPACE_PEAK_NITS : Fld := ⟨0x100000, 13, 0⟩
-- SDI_BUDGET, R115
abbrev SDI_BUDGET_USED_MBPS : Fld := ⟨0x100004, 15, 0⟩
-- SDI_RX_DISC, R115
abbrev SDI_RX_DISC_UNMATCHED : Fld := ⟨0x100008, 31, 16⟩
abbrev SDI_RX_DISC_BAD_HDR : Fld := ⟨0x100008, 15, 0⟩
-- SDI_PHY_STAT, R116
abbrev SDI_PHY_STAT_LOCK_LOST (i : Nat) : Fld := ⟨0x100010 + 0x4 * i, 11, 11⟩
abbrev SDI_PHY_STAT_LINE_CRC (i : Nat) : Fld := ⟨0x100010 + 0x4 * i, 10, 10⟩
abbrev SDI_PHY_STAT_PID_SEEN (i : Nat) : Fld := ⟨0x100010 + 0x4 * i, 9, 9⟩
abbrev SDI_PHY_STAT_LOCK (i : Nat) : Fld := ⟨0x100010 + 0x4 * i, 8, 8⟩
abbrev SDI_PHY_STAT_RATE (i : Nat) : Fld := ⟨0x100010 + 0x4 * i, 3, 0⟩
-- SDI_SRC_CTL, R117
abbrev SDI_SRC_CTL_EN (i : Nat) : Fld := ⟨0x100100 + 0x40 * i, 31, 31⟩
abbrev SDI_SRC_CTL_KIND (i : Nat) : Fld := ⟨0x100100 + 0x40 * i, 30, 30⟩
abbrev SDI_SRC_CTL_INPUT (i : Nat) : Fld := ⟨0x100100 + 0x40 * i, 26, 24⟩
abbrev SDI_SRC_CTL_NBUF (i : Nat) : Fld := ⟨0x100100 + 0x40 * i, 23, 21⟩
abbrev SDI_SRC_CTL_LOSS_ACT (i : Nat) : Fld := ⟨0x100100 + 0x40 * i, 20, 19⟩
abbrev SDI_SRC_CTL_TF_FROM_STREAM (i : Nat) : Fld := ⟨0x100100 + 0x40 * i, 18, 18⟩
abbrev SDI_SRC_CTL_HOLD_MS (i : Nat) : Fld := ⟨0x100100 + 0x40 * i, 15, 0⟩
-- SDI_SRC_RASTER, R117
abbrev SDI_SRC_RASTER_WIDTH (i : Nat) : Fld := ⟨0x100104 + 0x40 * i, 28, 16⟩
abbrev SDI_SRC_RASTER_HEIGHT (i : Nat) : Fld := ⟨0x100104 + 0x40 * i, 12, 0⟩
-- SDI_SRC_CODING, R117
abbrev SDI_SRC_CODING_RATE_HZ (i : Nat) : Fld := ⟨0x100108 + 0x40 * i, 31, 24⟩
abbrev SDI_SRC_CODING_SCAN (i : Nat) : Fld := ⟨0x100108 + 0x40 * i, 20, 20⟩
abbrev SDI_SRC_CODING_SAMPLING (i : Nat) : Fld := ⟨0x100108 + 0x40 * i, 19, 18⟩
abbrev SDI_SRC_CODING_DEPTH (i : Nat) : Fld := ⟨0x100108 + 0x40 * i, 17, 16⟩
abbrev SDI_SRC_CODING_RANGE (i : Nat) : Fld := ⟨0x100108 + 0x40 * i, 15, 15⟩
abbrev SDI_SRC_CODING_TF (i : Nat) : Fld := ⟨0x100108 + 0x40 * i, 11, 8⟩
abbrev SDI_SRC_CODING_COLOUR (i : Nat) : Fld := ⟨0x100108 + 0x40 * i, 4, 4⟩
abbrev SDI_SRC_CODING_LINK (i : Nat) : Fld := ⟨0x100108 + 0x40 * i, 1, 0⟩
-- SDI_SRC_LOSS, R117
abbrev SDI_SRC_LOSS_LOSS_MS (i : Nat) : Fld := ⟨0x10010C + 0x40 * i, 9, 0⟩
-- SDI_SRC_BASE_LO, R117
abbrev SDI_SRC_BASE_LO_ADDR_LO (i : Nat) : Fld := ⟨0x100110 + 0x40 * i, 31, 12⟩
-- SDI_SRC_BASE_HI, R117
abbrev SDI_SRC_BASE_HI_ADDR_HI (i : Nat) : Fld := ⟨0x100114 + 0x40 * i, 3, 0⟩
-- SDI_SRC_PITCH, R117
abbrev SDI_SRC_PITCH_PITCH_64B (i : Nat) : Fld := ⟨0x100118 + 0x40 * i, 10, 0⟩
-- SDI_SRC_FLOW_DST, R117
abbrev SDI_SRC_FLOW_DST_IPV4_DST (i : Nat) : Fld := ⟨0x10011C + 0x40 * i, 31, 0⟩
-- SDI_SRC_FLOW_PORT, R117
abbrev SDI_SRC_FLOW_PORT_NET (i : Nat) : Fld := ⟨0x100120 + 0x40 * i, 31, 31⟩
abbrev SDI_SRC_FLOW_PORT_SSM_EN (i : Nat) : Fld := ⟨0x100120 + 0x40 * i, 30, 30⟩
abbrev SDI_SRC_FLOW_PORT_PT (i : Nat) : Fld := ⟨0x100120 + 0x40 * i, 29, 23⟩
abbrev SDI_SRC_FLOW_PORT_UDP_DST (i : Nat) : Fld := ⟨0x100120 + 0x40 * i, 15, 0⟩
-- SDI_SRC_FLOW_SRC, R117
abbrev SDI_SRC_FLOW_SRC_IPV4_SRC (i : Nat) : Fld := ⟨0x100124 + 0x40 * i, 31, 0⟩
-- SDI_SRC_CNT, R117
abbrev SDI_SRC_CNT_INCOMPLETE_COUNT (i : Nat) : Fld := ⟨0x100128 + 0x40 * i, 31, 16⟩
abbrev SDI_SRC_CNT_DROP_COUNT (i : Nat) : Fld := ⟨0x100128 + 0x40 * i, 15, 0⟩
-- SDI_SRC_IRQ_EN, R117
abbrev SDI_SRC_IRQ_EN_CFG_REJ (i : Nat) : Fld := ⟨0x10012C + 0x40 * i, 7, 7⟩
abbrev SDI_SRC_IRQ_EN_DROP (i : Nat) : Fld := ⟨0x10012C + 0x40 * i, 6, 6⟩
abbrev SDI_SRC_IRQ_EN_INCOMPLETE (i : Nat) : Fld := ⟨0x10012C + 0x40 * i, 5, 5⟩
abbrev SDI_SRC_IRQ_EN_RATE_HIGH (i : Nat) : Fld := ⟨0x10012C + 0x40 * i, 4, 4⟩
abbrev SDI_SRC_IRQ_EN_FMT_CHANGE (i : Nat) : Fld := ⟨0x10012C + 0x40 * i, 3, 3⟩
abbrev SDI_SRC_IRQ_EN_TF_CHANGE (i : Nat) : Fld := ⟨0x10012C + 0x40 * i, 2, 2⟩
abbrev SDI_SRC_IRQ_EN_RECOVERED (i : Nat) : Fld := ⟨0x10012C + 0x40 * i, 1, 1⟩
abbrev SDI_SRC_IRQ_EN_LOST (i : Nat) : Fld := ⟨0x10012C + 0x40 * i, 0, 0⟩
-- SDI_SRC_STAT, R117
abbrev SDI_SRC_STAT_STATE (i : Nat) : Fld := ⟨0x100130 + 0x40 * i, 10, 8⟩
abbrev SDI_SRC_STAT_HAS_FRAME (i : Nat) : Fld := ⟨0x100130 + 0x40 * i, 7, 7⟩
abbrev SDI_SRC_STAT_WRITING (i : Nat) : Fld := ⟨0x100130 + 0x40 * i, 5, 4⟩
abbrev SDI_SRC_STAT_NEWEST (i : Nat) : Fld := ⟨0x100130 + 0x40 * i, 1, 0⟩
-- SDI_SRC_DET_RASTER, R117
abbrev SDI_SRC_DET_RASTER_WIDTH (i : Nat) : Fld := ⟨0x100134 + 0x40 * i, 28, 16⟩
abbrev SDI_SRC_DET_RASTER_HEIGHT (i : Nat) : Fld := ⟨0x100134 + 0x40 * i, 12, 0⟩
-- SDI_SRC_DET_CODING, R117
abbrev SDI_SRC_DET_CODING_RATE_HZ (i : Nat) : Fld := ⟨0x100138 + 0x40 * i, 31, 24⟩
abbrev SDI_SRC_DET_CODING_SCAN (i : Nat) : Fld := ⟨0x100138 + 0x40 * i, 20, 20⟩
abbrev SDI_SRC_DET_CODING_SAMPLING (i : Nat) : Fld := ⟨0x100138 + 0x40 * i, 19, 18⟩
abbrev SDI_SRC_DET_CODING_DEPTH (i : Nat) : Fld := ⟨0x100138 + 0x40 * i, 17, 16⟩
abbrev SDI_SRC_DET_CODING_RANGE (i : Nat) : Fld := ⟨0x100138 + 0x40 * i, 15, 15⟩
abbrev SDI_SRC_DET_CODING_TF (i : Nat) : Fld := ⟨0x100138 + 0x40 * i, 11, 8⟩
abbrev SDI_SRC_DET_CODING_COLOUR (i : Nat) : Fld := ⟨0x100138 + 0x40 * i, 4, 4⟩
abbrev SDI_SRC_DET_CODING_LINK (i : Nat) : Fld := ⟨0x100138 + 0x40 * i, 1, 0⟩
-- SDI_SRC_EVT, R117
abbrev SDI_SRC_EVT_CFG_REJ (i : Nat) : Fld := ⟨0x10013C + 0x40 * i, 7, 7⟩
abbrev SDI_SRC_EVT_DROP (i : Nat) : Fld := ⟨0x10013C + 0x40 * i, 6, 6⟩
abbrev SDI_SRC_EVT_INCOMPLETE (i : Nat) : Fld := ⟨0x10013C + 0x40 * i, 5, 5⟩
abbrev SDI_SRC_EVT_RATE_HIGH (i : Nat) : Fld := ⟨0x10013C + 0x40 * i, 4, 4⟩
abbrev SDI_SRC_EVT_FMT_CHANGE (i : Nat) : Fld := ⟨0x10013C + 0x40 * i, 3, 3⟩
abbrev SDI_SRC_EVT_TF_CHANGE (i : Nat) : Fld := ⟨0x10013C + 0x40 * i, 2, 2⟩
abbrev SDI_SRC_EVT_RECOVERED (i : Nat) : Fld := ⟨0x10013C + 0x40 * i, 1, 1⟩
abbrev SDI_SRC_EVT_LOST (i : Nat) : Fld := ⟨0x10013C + 0x40 * i, 0, 0⟩
-- SDI_LUT, R114
abbrev SDI_LUT_ODD (i j : Nat) : Fld := ⟨0x108000 + 0x2000 * i + 0x4 * j, 31, 16⟩
abbrev SDI_LUT_EVEN (i j : Nat) : Fld := ⟨0x108000 + 0x2000 * i + 0x4 * j, 15, 0⟩
-- NET_CTL, R137
abbrev NET_CTL_EN (i : Nat) : Fld := ⟨0x110000 + 0x10000 * i, 31, 31⟩
abbrev NET_CTL_MODE (i : Nat) : Fld := ⟨0x110000 + 0x10000 * i, 30, 30⟩
abbrev NET_CTL_FEC25 (i : Nat) : Fld := ⟨0x110000 + 0x10000 * i, 27, 24⟩
abbrev NET_CTL_VLAN_EN (i : Nat) : Fld := ⟨0x110000 + 0x10000 * i, 17, 17⟩
abbrev NET_CTL_BCAST_EN (i : Nat) : Fld := ⟨0x110000 + 0x10000 * i, 16, 16⟩
abbrev NET_CTL_TX_START (i : Nat) : Fld := ⟨0x110000 + 0x10000 * i, 4, 0⟩
-- NET_STAT, R138
abbrev NET_STAT_CUR_THRESH (i : Nat) : Fld := ⟨0x110004 + 0x10000 * i, 20, 16⟩
abbrev NET_STAT_FEC_LOCK (i : Nat) : Fld := ⟨0x110004 + 0x10000 * i, 11, 8⟩
abbrev NET_STAT_HI_BER (i : Nat) : Fld := ⟨0x110004 + 0x10000 * i, 7, 4⟩
abbrev NET_STAT_LINK (i : Nat) : Fld := ⟨0x110004 + 0x10000 * i, 3, 0⟩
-- NET_EVT, R138
abbrev NET_EVT_LINK_DOWN (i : Nat) : Fld := ⟨0x110008 + 0x10000 * i, 15, 15⟩
abbrev NET_EVT_LINK_UP (i : Nat) : Fld := ⟨0x110008 + 0x10000 * i, 14, 14⟩
abbrev NET_EVT_HI_BER_EVT (i : Nat) : Fld := ⟨0x110008 + 0x10000 * i, 13, 13⟩
abbrev NET_EVT_REMOTE_FAULT (i : Nat) : Fld := ⟨0x110008 + 0x10000 * i, 12, 12⟩
abbrev NET_EVT_FEC_UNCORR (i : Nat) : Fld := ⟨0x110008 + 0x10000 * i, 11, 11⟩
abbrev NET_EVT_FEC_CORR (i : Nat) : Fld := ⟨0x110008 + 0x10000 * i, 10, 10⟩
abbrev NET_EVT_FCS_ERR (i : Nat) : Fld := ⟨0x110008 + 0x10000 * i, 9, 9⟩
abbrev NET_EVT_RUNT (i : Nat) : Fld := ⟨0x110008 + 0x10000 * i, 8, 8⟩
abbrev NET_EVT_OVERSIZE (i : Nat) : Fld := ⟨0x110008 + 0x10000 * i, 7, 7⟩
abbrev NET_EVT_PAUSE_DISC (i : Nat) : Fld := ⟨0x110008 + 0x10000 * i, 6, 6⟩
abbrev NET_EVT_FILTER_MISS (i : Nat) : Fld := ⟨0x110008 + 0x10000 * i, 5, 5⟩
abbrev NET_EVT_PROTO_DISC (i : Nat) : Fld := ⟨0x110008 + 0x10000 * i, 4, 4⟩
abbrev NET_EVT_RX_OVF (i : Nat) : Fld := ⟨0x110008 + 0x10000 * i, 3, 3⟩
abbrev NET_EVT_TS_OVF (i : Nat) : Fld := ⟨0x110008 + 0x10000 * i, 2, 2⟩
abbrev NET_EVT_TX_UNDERRUN (i : Nat) : Fld := ⟨0x110008 + 0x10000 * i, 1, 1⟩
abbrev NET_EVT_TSO_ERR (i : Nat) : Fld := ⟨0x110008 + 0x10000 * i, 0, 0⟩
-- NET_IRQ_EN, R138
abbrev NET_IRQ_EN_LINK_DOWN (i : Nat) : Fld := ⟨0x11000C + 0x10000 * i, 15, 15⟩
abbrev NET_IRQ_EN_LINK_UP (i : Nat) : Fld := ⟨0x11000C + 0x10000 * i, 14, 14⟩
abbrev NET_IRQ_EN_HI_BER_EVT (i : Nat) : Fld := ⟨0x11000C + 0x10000 * i, 13, 13⟩
abbrev NET_IRQ_EN_REMOTE_FAULT (i : Nat) : Fld := ⟨0x11000C + 0x10000 * i, 12, 12⟩
abbrev NET_IRQ_EN_FEC_UNCORR (i : Nat) : Fld := ⟨0x11000C + 0x10000 * i, 11, 11⟩
abbrev NET_IRQ_EN_FEC_CORR (i : Nat) : Fld := ⟨0x11000C + 0x10000 * i, 10, 10⟩
abbrev NET_IRQ_EN_FCS_ERR (i : Nat) : Fld := ⟨0x11000C + 0x10000 * i, 9, 9⟩
abbrev NET_IRQ_EN_RUNT (i : Nat) : Fld := ⟨0x11000C + 0x10000 * i, 8, 8⟩
abbrev NET_IRQ_EN_OVERSIZE (i : Nat) : Fld := ⟨0x11000C + 0x10000 * i, 7, 7⟩
abbrev NET_IRQ_EN_PAUSE_DISC (i : Nat) : Fld := ⟨0x11000C + 0x10000 * i, 6, 6⟩
abbrev NET_IRQ_EN_FILTER_MISS (i : Nat) : Fld := ⟨0x11000C + 0x10000 * i, 5, 5⟩
abbrev NET_IRQ_EN_PROTO_DISC (i : Nat) : Fld := ⟨0x11000C + 0x10000 * i, 4, 4⟩
abbrev NET_IRQ_EN_RX_OVF (i : Nat) : Fld := ⟨0x11000C + 0x10000 * i, 3, 3⟩
abbrev NET_IRQ_EN_TS_OVF (i : Nat) : Fld := ⟨0x11000C + 0x10000 * i, 2, 2⟩
abbrev NET_IRQ_EN_TX_UNDERRUN (i : Nat) : Fld := ⟨0x11000C + 0x10000 * i, 1, 1⟩
abbrev NET_IRQ_EN_TSO_ERR (i : Nat) : Fld := ⟨0x11000C + 0x10000 * i, 0, 0⟩
-- NET_MAC_LO, R139
abbrev NET_MAC_LO_ADDR_LO (i : Nat) : Fld := ⟨0x110010 + 0x10000 * i, 31, 0⟩
-- NET_MAC_HI, R139
abbrev NET_MAC_HI_ADDR_HI (i : Nat) : Fld := ⟨0x110014 + 0x10000 * i, 15, 0⟩
-- NET_IPV4_ADDR, R139
abbrev NET_IPV4_ADDR_ADDR (i : Nat) : Fld := ⟨0x110018 + 0x10000 * i, 31, 0⟩
-- NET_IPV4_PREFIX, R139
abbrev NET_IPV4_PREFIX_LEN (i : Nat) : Fld := ⟨0x11001C + 0x10000 * i, 5, 0⟩
-- NET_IPV4_GW, R139
abbrev NET_IPV4_GW_GW (i : Nat) : Fld := ⟨0x110020 + 0x10000 * i, 31, 0⟩
-- NET_VLAN, R139
abbrev NET_VLAN_PCP (i : Nat) : Fld := ⟨0x110024 + 0x10000 * i, 15, 13⟩
abbrev NET_VLAN_VID (i : Nat) : Fld := ⟨0x110024 + 0x10000 * i, 11, 0⟩
-- NET_UDP, R139
abbrev NET_UDP_CMD_PORT (i : Nat) : Fld := ⟨0x110028 + 0x10000 * i, 31, 16⟩
abbrev NET_UDP_HB_PORT (i : Nat) : Fld := ⟨0x110028 + 0x10000 * i, 15, 0⟩
-- NET_TS_STAT, R139
abbrev NET_TS_STAT_DROP_COUNT (i : Nat) : Fld := ⟨0x11002C + 0x10000 * i, 31, 16⟩
abbrev NET_TS_STAT_LEVEL (i : Nat) : Fld := ⟨0x11002C + 0x10000 * i, 6, 0⟩
-- NET_TS_ADJ, R139
abbrev NET_TS_ADJ_RX_ADJ (i : Nat) : Fld := ⟨0x110030 + 0x10000 * i, 31, 16⟩
abbrev NET_TS_ADJ_TX_ADJ (i : Nat) : Fld := ⟨0x110030 + 0x10000 * i, 15, 0⟩
-- NET_FLT_LO, R139
abbrev NET_FLT_LO_ADDR_LO (i j : Nat) : Fld := ⟨0x110100 + 0x10000 * i + 0x8 * j, 31, 0⟩
-- NET_FLT_HI, R139
abbrev NET_FLT_HI_EN (i j : Nat) : Fld := ⟨0x110104 + 0x10000 * i + 0x8 * j, 31, 31⟩
abbrev NET_FLT_HI_ADDR_HI (i j : Nat) : Fld := ⟨0x110104 + 0x10000 * i + 0x8 * j, 15, 0⟩
-- NET_MON_CTL, R140
abbrev NET_MON_CTL_EN (i j : Nat) : Fld := ⟨0x110200 + 0x10000 * i + 0x20 * j, 31, 31⟩
abbrev NET_MON_CTL_PT (i j : Nat) : Fld := ⟨0x110200 + 0x10000 * i + 0x20 * j, 30, 24⟩
abbrev NET_MON_CTL_DSCP (i j : Nat) : Fld := ⟨0x110200 + 0x10000 * i + 0x20 * j, 23, 18⟩
abbrev NET_MON_CTL_TTL (i j : Nat) : Fld := ⟨0x110200 + 0x10000 * i + 0x20 * j, 15, 8⟩
-- NET_MON_DST, R140
abbrev NET_MON_DST_IPV4_DST (i j : Nat) : Fld := ⟨0x110204 + 0x10000 * i + 0x20 * j, 31, 0⟩
-- NET_MON_PORTS, R140
abbrev NET_MON_PORTS_UDP_SRC (i j : Nat) : Fld := ⟨0x110208 + 0x10000 * i + 0x20 * j, 31, 16⟩
abbrev NET_MON_PORTS_UDP_DST (i j : Nat) : Fld := ⟨0x110208 + 0x10000 * i + 0x20 * j, 15, 0⟩
-- NET_MON_SSRC, R140
abbrev NET_MON_SSRC_SSRC (i j : Nat) : Fld := ⟨0x11020C + 0x10000 * i + 0x20 * j, 31, 0⟩
-- NET_MON_PKT, R140
abbrev NET_MON_PKT_PKT_BYTES (i j : Nat) : Fld := ⟨0x110210 + 0x10000 * i + 0x20 * j, 13, 0⟩
-- NET_MON_CNT, R140
abbrev NET_MON_CNT_PKT_COUNT (i j : Nat) : Fld := ⟨0x110214 + 0x10000 * i + 0x20 * j, 31, 0⟩
-- PTP_CTL, R414
abbrev PTP_CTL_SOURCE : Fld := ⟨0x140000, 31, 30⟩
abbrev PTP_CTL_SELECT : Fld := ⟨0x140000, 29, 28⟩
abbrev PTP_CTL_REVERT_S : Fld := ⟨0x140000, 23, 16⟩
abbrev PTP_CTL_REF10M_EN : Fld := ⟨0x140000, 15, 15⟩
-- PTP_STAT, R414
abbrev PTP_STAT_STEPPED : Fld := ⟨0x140004, 28, 28⟩
abbrev PTP_STAT_RESTEP_NEEDED : Fld := ⟨0x140004, 27, 27⟩
abbrev PTP_STAT_RESTEP_PENDING : Fld := ⟨0x140004, 26, 26⟩
abbrev PTP_STAT_IN_USE : Fld := ⟨0x140004, 25, 24⟩
abbrev PTP_STAT_STATE : Fld := ⟨0x140004, 18, 16⟩
abbrev PTP_STAT_STEPS : Fld := ⟨0x140004, 7, 0⟩
-- PTP_EVT, R414
abbrev PTP_EVT_LATE_RUN : Fld := ⟨0x140008, 9, 9⟩
abbrev PTP_EVT_RESTEP_DONE : Fld := ⟨0x140008, 8, 8⟩
abbrev PTP_EVT_DOM_FAR : Fld := ⟨0x140008, 7, 7⟩
abbrev PTP_EVT_DOM_SWITCH : Fld := ⟨0x140008, 6, 6⟩
abbrev PTP_EVT_HOLDOVER : Fld := ⟨0x140008, 5, 5⟩
abbrev PTP_EVT_LOCKED : Fld := ⟨0x140008, 4, 4⟩
abbrev PTP_EVT_STEP : Fld := ⟨0x140008, 3, 3⟩
abbrev PTP_EVT_TS_LOST : Fld := ⟨0x140008, 2, 2⟩
abbrev PTP_EVT_EVT_MISSED : Fld := ⟨0x140008, 1, 1⟩
abbrev PTP_EVT_REF_LOSS : Fld := ⟨0x140008, 0, 0⟩
-- PTP_IRQ_EN, R414
abbrev PTP_IRQ_EN_LATE_RUN : Fld := ⟨0x14000C, 9, 9⟩
abbrev PTP_IRQ_EN_RESTEP_DONE : Fld := ⟨0x14000C, 8, 8⟩
abbrev PTP_IRQ_EN_DOM_FAR : Fld := ⟨0x14000C, 7, 7⟩
abbrev PTP_IRQ_EN_DOM_SWITCH : Fld := ⟨0x14000C, 6, 6⟩
abbrev PTP_IRQ_EN_HOLDOVER : Fld := ⟨0x14000C, 5, 5⟩
abbrev PTP_IRQ_EN_LOCKED : Fld := ⟨0x14000C, 4, 4⟩
abbrev PTP_IRQ_EN_STEP : Fld := ⟨0x14000C, 3, 3⟩
abbrev PTP_IRQ_EN_TS_LOST : Fld := ⟨0x14000C, 2, 2⟩
abbrev PTP_IRQ_EN_EVT_MISSED : Fld := ⟨0x14000C, 1, 1⟩
abbrev PTP_IRQ_EN_REF_LOSS : Fld := ⟨0x14000C, 0, 0⟩
-- PTP_SERVO, R414
abbrev PTP_SERVO_SLEW_PPB : Fld := ⟨0x140010, 31, 16⟩
abbrev PTP_SERVO_LOCK_NS : Fld := ⟨0x140010, 15, 8⟩
-- PTP_RATE, R414
abbrev PTP_RATE_RATE : Fld := ⟨0x140014, 31, 0⟩
-- PTP_CAP, R414
abbrev PTP_CAP_CAPTURE : Fld := ⟨0x140018, 0, 0⟩
-- PTP_CAP_SEC_HI, R414
abbrev PTP_CAP_SEC_HI_SEC : Fld := ⟨0x14001C, 31, 0⟩
-- PTP_CAP_SEC_LO, R414
abbrev PTP_CAP_SEC_LO_SEC : Fld := ⟨0x140020, 31, 0⟩
-- PTP_CAP_NS, R414
abbrev PTP_CAP_NS_NS : Fld := ⟨0x140024, 29, 0⟩
-- PTP_CAP_FRAC, R414
abbrev PTP_CAP_FRAC_FRAC : Fld := ⟨0x140028, 15, 0⟩
-- PTP_SCHED, R414
abbrev PTP_SCHED_LATE_RUN_COUNT : Fld := ⟨0x14002C, 31, 16⟩
abbrev PTP_SCHED_LEVEL : Fld := ⟨0x14002C, 9, 0⟩
-- PTP_REF_SEC_HI, R414
abbrev PTP_REF_SEC_HI_SEC_HI : Fld := ⟨0x140030, 15, 0⟩
-- PTP_REF_SEC_LO, R414
abbrev PTP_REF_SEC_LO_SEC_LO : Fld := ⟨0x140034, 31, 0⟩
-- PTP_DOM_CFG, R415
abbrev PTP_DOM_CFG_EN (i : Nat) : Fld := ⟨0x140100 + 0x40 * i, 31, 31⟩
abbrev PTP_DOM_CFG_HYBRID (i : Nat) : Fld := ⟨0x140100 + 0x40 * i, 30, 30⟩
abbrev PTP_DOM_CFG_ANN_TMO (i : Nat) : Fld := ⟨0x140100 + 0x40 * i, 27, 24⟩
abbrev PTP_DOM_CFG_CLASS_MAX (i : Nat) : Fld := ⟨0x140100 + 0x40 * i, 23, 16⟩
abbrev PTP_DOM_CFG_DOMAIN (i : Nat) : Fld := ⟨0x140100 + 0x40 * i, 7, 0⟩
-- PTP_DOM_STAT, R415
abbrev PTP_DOM_STAT_USABLE (i : Nat) : Fld := ⟨0x140104 + 0x40 * i, 31, 31⟩
abbrev PTP_DOM_STAT_MASTER (i : Nat) : Fld := ⟨0x140104 + 0x40 * i, 30, 30⟩
abbrev PTP_DOM_STAT_FAR (i : Nat) : Fld := ⟨0x140104 + 0x40 * i, 29, 29⟩
abbrev PTP_DOM_STAT_PORT (i : Nat) : Fld := ⟨0x140104 + 0x40 * i, 28, 28⟩
abbrev PTP_DOM_STAT_VALID (i : Nat) : Fld := ⟨0x140104 + 0x40 * i, 23, 16⟩
-- PTP_DOM_OFFSET, R415
abbrev PTP_DOM_OFFSET_OFFSET_PS (i : Nat) : Fld := ⟨0x140108 + 0x40 * i, 31, 0⟩
-- PTP_DOM_DELAY, R415
abbrev PTP_DOM_DELAY_DELAY_PS (i : Nat) : Fld := ⟨0x14010C + 0x40 * i, 31, 0⟩
-- PTP_DOM_GM_HI, R415
abbrev PTP_DOM_GM_HI_ID (i : Nat) : Fld := ⟨0x140110 + 0x40 * i, 31, 0⟩
-- PTP_DOM_GM_LO, R415
abbrev PTP_DOM_GM_LO_ID (i : Nat) : Fld := ⟨0x140114 + 0x40 * i, 31, 0⟩
-- PTP_DOM_GM_Q, R415
abbrev PTP_DOM_GM_Q_CLASS (i : Nat) : Fld := ⟨0x140118 + 0x40 * i, 31, 24⟩
abbrev PTP_DOM_GM_Q_ACCURACY (i : Nat) : Fld := ⟨0x140118 + 0x40 * i, 23, 16⟩
abbrev PTP_DOM_GM_Q_STEPS_REMOVED (i : Nat) : Fld := ⟨0x140118 + 0x40 * i, 15, 0⟩
-- PTP_DOM_UTC, R415
abbrev PTP_DOM_UTC_UTC_VALID (i : Nat) : Fld := ⟨0x14011C + 0x40 * i, 31, 31⟩
abbrev PTP_DOM_UTC_LEAP61 (i : Nat) : Fld := ⟨0x14011C + 0x40 * i, 30, 30⟩
abbrev PTP_DOM_UTC_LEAP59 (i : Nat) : Fld := ⟨0x14011C + 0x40 * i, 29, 29⟩
abbrev PTP_DOM_UTC_UTC_OFFSET (i : Nat) : Fld := ⟨0x14011C + 0x40 * i, 15, 0⟩
-- PTP_DOM_CNT, R415
abbrev PTP_DOM_CNT_EXCH_COUNT (i : Nat) : Fld := ⟨0x140120 + 0x40 * i, 31, 16⟩
abbrev PTP_DOM_CNT_DISC_COUNT (i : Nat) : Fld := ⟨0x140120 + 0x40 * i, 15, 0⟩
-- PTP_EVT_CTL, R416
abbrev PTP_EVT_CTL_EN (i : Nat) : Fld := ⟨0x140200 + 0x20 * i, 31, 31⟩
abbrev PTP_EVT_CTL_MODE (i : Nat) : Fld := ⟨0x140200 + 0x20 * i, 30, 28⟩
abbrev PTP_EVT_CTL_POL (i : Nat) : Fld := ⟨0x140200 + 0x20 * i, 27, 27⟩
abbrev PTP_EVT_CTL_LOCK_ONLY (i : Nat) : Fld := ⟨0x140200 + 0x20 * i, 26, 26⟩
abbrev PTP_EVT_CTL_VIEW (i : Nat) : Fld := ⟨0x140200 + 0x20 * i, 25, 23⟩
-- PTP_EVT_START_SEC_HI, R416
abbrev PTP_EVT_START_SEC_HI_SEC_HI (i : Nat) : Fld := ⟨0x140204 + 0x20 * i, 15, 0⟩
-- PTP_EVT_START_SEC_LO, R416
abbrev PTP_EVT_START_SEC_LO_SEC_LO (i : Nat) : Fld := ⟨0x140208 + 0x20 * i, 31, 0⟩
-- PTP_EVT_START_NS, R416
abbrev PTP_EVT_START_NS_NS (i : Nat) : Fld := ⟨0x14020C + 0x20 * i, 29, 0⟩
-- PTP_EVT_WIDTH, R416
abbrev PTP_EVT_WIDTH_WIDTH_NS (i : Nat) : Fld := ⟨0x140210 + 0x20 * i, 31, 0⟩
-- PTP_EVT_RATE, R416
abbrev PTP_EVT_RATE_NUM (i : Nat) : Fld := ⟨0x140214 + 0x20 * i, 31, 12⟩
abbrev PTP_EVT_RATE_DEN (i : Nat) : Fld := ⟨0x140214 + 0x20 * i, 11, 0⟩
-- PTP_EVT_ADJ, R416
abbrev PTP_EVT_ADJ_ADJ_NS (i : Nat) : Fld := ⟨0x140218 + 0x20 * i, 15, 0⟩
-- PTP_EVT_CNT, R416
abbrev PTP_EVT_CNT_PULSES (i : Nat) : Fld := ⟨0x14021C + 0x20 * i, 31, 0⟩
-- CMP_STAT, R174
abbrev CMP_STAT_BUSY : Fld := ⟨0x180000, 16, 16⟩
abbrev CMP_STAT_VIEW : Fld := ⟨0x180000, 10, 8⟩
-- CMP_EVT, R174
abbrev CMP_EVT_LAYER_DIS : Fld := ⟨0x180004, 6, 6⟩
abbrev CMP_EVT_CROP_CLAMP : Fld := ⟨0x180004, 5, 5⟩
abbrev CMP_EVT_COEF_UNNORM : Fld := ⟨0x180004, 4, 4⟩
abbrev CMP_EVT_LINEBUF_CLAMP : Fld := ⟨0x180004, 3, 3⟩
abbrev CMP_EVT_GNT_GUARD : Fld := ⟨0x180004, 2, 2⟩
abbrev CMP_EVT_GNT_MISMATCH : Fld := ⟨0x180004, 1, 1⟩
abbrev CMP_EVT_ERR_FILL : Fld := ⟨0x180004, 0, 0⟩
-- CMP_IRQ_EN, R174
abbrev CMP_IRQ_EN_LAYER_DIS : Fld := ⟨0x180008, 6, 6⟩
abbrev CMP_IRQ_EN_CROP_CLAMP : Fld := ⟨0x180008, 5, 5⟩
abbrev CMP_IRQ_EN_COEF_UNNORM : Fld := ⟨0x180008, 4, 4⟩
abbrev CMP_IRQ_EN_LINEBUF_CLAMP : Fld := ⟨0x180008, 3, 3⟩
abbrev CMP_IRQ_EN_GNT_GUARD : Fld := ⟨0x180008, 2, 2⟩
abbrev CMP_IRQ_EN_GNT_MISMATCH : Fld := ⟨0x180008, 1, 1⟩
abbrev CMP_IRQ_EN_ERR_FILL : Fld := ⟨0x180008, 0, 0⟩
-- CMP_BUDGET, R174
abbrev CMP_BUDGET_READ_MBPS : Fld := ⟨0x18000C, 17, 0⟩
-- CMP_STALL_CNT, R174
abbrev CMP_STALL_CNT_CYCLES : Fld := ⟨0x180010, 31, 0⟩
-- CMP_FILL_CNT, R174
abbrev CMP_FILL_CNT_EVENTS : Fld := ⟨0x180014, 31, 16⟩
-- CMP_LINEBUF_EVT, R174
abbrev CMP_LINEBUF_EVT_SCALER : Fld := ⟨0x180018, 15, 0⟩
-- CMP_RENDER, R174
abbrev CMP_RENDER_CYCLES : Fld := ⟨0x18001C, 31, 0⟩
-- CMP_CANVAS, R211
abbrev CMP_CANVAS_W : Fld := ⟨0x180020, 31, 16⟩
abbrev CMP_CANVAS_H : Fld := ⟨0x180020, 15, 0⟩
-- CMP_FLIP_RATE, R211
abbrev CMP_FLIP_RATE_NUM : Fld := ⟨0x180024, 31, 12⟩
abbrev CMP_FLIP_RATE_DEN : Fld := ⟨0x180024, 11, 0⟩
-- CMP_FLIP_OFFSET, R211
abbrev CMP_FLIP_OFFSET_OFFSET_NS : Fld := ⟨0x180028, 31, 0⟩
-- CMP_FLIP_SEQ_CTL, R211
abbrev CMP_FLIP_SEQ_CTL_SEQ_LEN : Fld := ⟨0x18002C, 4, 0⟩
-- CMP_FLIP_SEQ0, R211
abbrev CMP_FLIP_SEQ0_ENTRY : Fld := ⟨0x180030, 31, 0⟩
-- CMP_FLIP_SEQ1, R211
abbrev CMP_FLIP_SEQ1_ENTRY : Fld := ⟨0x180034, 31, 0⟩
-- CMP_SCAN_MARGIN, R211
abbrev CMP_SCAN_MARGIN_MARGIN_US : Fld := ⟨0x180038, 15, 0⟩
-- CMP_SHED, R211
abbrev CMP_SHED_SHED : Fld := ⟨0x18003C, 31, 24⟩
abbrev CMP_SHED_BY_LANE : Fld := ⟨0x18003C, 23, 16⟩
abbrev CMP_SHED_BY_THERM : Fld := ⟨0x18003C, 15, 8⟩
abbrev CMP_SHED_BY_HOST : Fld := ⟨0x18003C, 7, 0⟩
-- CMP_FLIP_NUM_LO, R211
abbrev CMP_FLIP_NUM_LO_N : Fld := ⟨0x180040, 31, 0⟩
-- CMP_FLIP_NUM_HI, R211
abbrev CMP_FLIP_NUM_HI_N : Fld := ⟨0x180044, 31, 0⟩
-- CMP_MAP_CTL, R211
abbrev CMP_MAP_CTL_GEN : Fld := ⟨0x180048, 15, 0⟩
-- CMP_MAP_CHECK, R211
abbrev CMP_MAP_CHECK_CHECK : Fld := ⟨0x18004C, 31, 0⟩
-- CMP_MAP_STAT, R211
abbrev CMP_MAP_STAT_ACTIVE_GEN : Fld := ⟨0x180050, 31, 16⟩
abbrev CMP_MAP_STAT_COPY_BUSY : Fld := ⟨0x180050, 15, 15⟩
abbrev CMP_MAP_STAT_PENDING : Fld := ⟨0x180050, 14, 14⟩
-- CMP_SCAN_EVT, R211
abbrev CMP_SCAN_EVT_MAP_SKIP : Fld := ⟨0x180054, 5, 5⟩
abbrev CMP_SCAN_EVT_MAP_REJ : Fld := ⟨0x180054, 4, 4⟩
abbrev CMP_SCAN_EVT_MAP_SWAP : Fld := ⟨0x180054, 3, 3⟩
abbrev CMP_SCAN_EVT_SHED_CHANGE : Fld := ⟨0x180054, 2, 2⟩
abbrev CMP_SCAN_EVT_MON_REPEAT : Fld := ⟨0x180054, 1, 1⟩
abbrev CMP_SCAN_EVT_SCAN_LATE : Fld := ⟨0x180054, 0, 0⟩
-- CMP_SCAN_IRQ_EN, R211
abbrev CMP_SCAN_IRQ_EN_MAP_SKIP : Fld := ⟨0x180058, 5, 5⟩
abbrev CMP_SCAN_IRQ_EN_MAP_REJ : Fld := ⟨0x180058, 4, 4⟩
abbrev CMP_SCAN_IRQ_EN_MAP_SWAP : Fld := ⟨0x180058, 3, 3⟩
abbrev CMP_SCAN_IRQ_EN_SHED_CHANGE : Fld := ⟨0x180058, 2, 2⟩
abbrev CMP_SCAN_IRQ_EN_MON_REPEAT : Fld := ⟨0x180058, 1, 1⟩
abbrev CMP_SCAN_IRQ_EN_SCAN_LATE : Fld := ⟨0x180058, 0, 0⟩
-- CMP_MAP_FAIL, R211
abbrev CMP_MAP_FAIL_VALID : Fld := ⟨0x18005C, 31, 31⟩
abbrev CMP_MAP_FAIL_ENTRY : Fld := ⟨0x18005C, 15, 0⟩
-- CMP_MAP_STAGE_CHECK, R211
abbrev CMP_MAP_STAGE_CHECK_CHECK : Fld := ⟨0x180060, 31, 0⟩
-- CMP_FLIP_BASE_LO, R211
abbrev CMP_FLIP_BASE_LO_BASE : Fld := ⟨0x180064, 31, 0⟩
-- CMP_FLIP_BASE_HI, R211
abbrev CMP_FLIP_BASE_HI_BASE : Fld := ⟨0x180068, 31, 0⟩
-- CMP_VIEW_BG_RG, R175
abbrev CMP_VIEW_BG_RG_BG_R (i : Nat) : Fld := ⟨0x180100 + 0x20 * i, 31, 16⟩
abbrev CMP_VIEW_BG_RG_BG_G (i : Nat) : Fld := ⟨0x180100 + 0x20 * i, 15, 0⟩
-- CMP_VIEW_BG_B, R175
abbrev CMP_VIEW_BG_B_BG_B (i : Nat) : Fld := ⟨0x180104 + 0x20 * i, 15, 0⟩
-- CMP_VIEW_ALIVE, R175
abbrev CMP_VIEW_ALIVE_ALIVE (i : Nat) : Fld := ⟨0x180108 + 0x20 * i, 15, 0⟩
-- CMP_VIEW_FILL, R175
abbrev CMP_VIEW_FILL_PIXELS (i : Nat) : Fld := ⟨0x18010C + 0x20 * i, 31, 0⟩
-- CMP_VIEW_CTL, R212
abbrev CMP_VIEW_CTL_EN (i : Nat) : Fld := ⟨0x180110 + 0x20 * i, 31, 31⟩
abbrev CMP_VIEW_CTL_PRIORITY (i : Nat) : Fld := ⟨0x180110 + 0x20 * i, 26, 24⟩
-- CMP_VIEW_SHUTTER, R212
abbrev CMP_VIEW_SHUTTER_OPEN_US (i : Nat) : Fld := ⟨0x180114 + 0x20 * i, 31, 16⟩
abbrev CMP_VIEW_SHUTTER_WIDTH_US (i : Nat) : Fld := ⟨0x180114 + 0x20 * i, 15, 0⟩
-- CMP_VIEW_STAT, R212
abbrev CMP_VIEW_STAT_LATE_COUNT (i : Nat) : Fld := ⟨0x180118 + 0x20 * i, 31, 16⟩
abbrev CMP_VIEW_STAT_SHED (i : Nat) : Fld := ⟨0x180118 + 0x20 * i, 2, 2⟩
abbrev CMP_VIEW_STAT_LATE (i : Nat) : Fld := ⟨0x180118 + 0x20 * i, 1, 1⟩
abbrev CMP_VIEW_STAT_SENT (i : Nat) : Fld := ⟨0x180118 + 0x20 * i, 0, 0⟩
-- CMP_VIEW_SCAN, R212
abbrev CMP_VIEW_SCAN_SCAN_US (i : Nat) : Fld := ⟨0x18011C + 0x20 * i, 15, 0⟩
-- CMP_GNT_CTL, R176
abbrev CMP_GNT_CTL_GUARD_ON_MISMATCH (i j : Nat) : Fld := ⟨0x180400 + 0x40 * i + 0x10 * j, 1, 1⟩
abbrev CMP_GNT_CTL_EXP_EN (i j : Nat) : Fld := ⟨0x180400 + 0x40 * i + 0x10 * j, 0, 0⟩
-- CMP_GNT_EXPECTED, R176
abbrev CMP_GNT_EXPECTED_EXPECTED (i j : Nat) : Fld := ⟨0x180404 + 0x40 * i + 0x10 * j, 31, 0⟩
-- CMP_GNT_LAST_CHECK, R176
abbrev CMP_GNT_LAST_CHECK_CHECK (i j : Nat) : Fld := ⟨0x180408 + 0x40 * i + 0x10 * j, 31, 0⟩
-- CMP_GNT_STAT, R176
abbrev CMP_GNT_STAT_MISMATCH_COUNT (i j : Nat) : Fld := ⟨0x18040C + 0x40 * i + 0x10 * j, 31, 16⟩
abbrev CMP_GNT_STAT_GUARD (i j : Nat) : Fld := ⟨0x18040C + 0x40 * i + 0x10 * j, 1, 1⟩
abbrev CMP_GNT_STAT_MISMATCH (i j : Nat) : Fld := ⟨0x18040C + 0x40 * i + 0x10 * j, 0, 0⟩
-- CMP_MON_CTL, R213
abbrev CMP_MON_CTL_EN (i : Nat) : Fld := ⟨0x180600 + 0x20 * i, 31, 31⟩
abbrev CMP_MON_CTL_VIEW (i : Nat) : Fld := ⟨0x180600 + 0x20 * i, 30, 28⟩
abbrev CMP_MON_CTL_DIV (i : Nat) : Fld := ⟨0x180600 + 0x20 * i, 27, 26⟩
abbrev CMP_MON_CTL_TF (i : Nat) : Fld := ⟨0x180600 + 0x20 * i, 23, 22⟩
abbrev CMP_MON_CTL_SAMPLING (i : Nat) : Fld := ⟨0x180600 + 0x20 * i, 20, 20⟩
abbrev CMP_MON_CTL_SDI_FMT (i : Nat) : Fld := ⟨0x180600 + 0x20 * i, 19, 18⟩
-- CMP_MON_SRC_POS, R213
abbrev CMP_MON_SRC_POS_SX (i : Nat) : Fld := ⟨0x180604 + 0x20 * i, 31, 16⟩
abbrev CMP_MON_SRC_POS_SY (i : Nat) : Fld := ⟨0x180604 + 0x20 * i, 15, 0⟩
-- CMP_MON_SRC_SIZE, R213
abbrev CMP_MON_SRC_SIZE_SW (i : Nat) : Fld := ⟨0x180608 + 0x20 * i, 31, 16⟩
abbrev CMP_MON_SRC_SIZE_SH (i : Nat) : Fld := ⟨0x180608 + 0x20 * i, 15, 0⟩
-- CMP_MON_RASTER, R213
abbrev CMP_MON_RASTER_OW (i : Nat) : Fld := ⟨0x18060C + 0x20 * i, 31, 16⟩
abbrev CMP_MON_RASTER_OH (i : Nat) : Fld := ⟨0x18060C + 0x20 * i, 15, 0⟩
-- CMP_MON_DST_POS, R213
abbrev CMP_MON_DST_POS_DX (i : Nat) : Fld := ⟨0x180610 + 0x20 * i, 31, 16⟩
abbrev CMP_MON_DST_POS_DY (i : Nat) : Fld := ⟨0x180610 + 0x20 * i, 15, 0⟩
-- CMP_MON_DST_SIZE, R213
abbrev CMP_MON_DST_SIZE_DW (i : Nat) : Fld := ⟨0x180614 + 0x20 * i, 31, 16⟩
abbrev CMP_MON_DST_SIZE_DH (i : Nat) : Fld := ⟨0x180614 + 0x20 * i, 15, 0⟩
-- CMP_MON_BASE, R213
abbrev CMP_MON_BASE_ADDR (i : Nat) : Fld := ⟨0x180618 + 0x20 * i, 23, 0⟩
-- CMP_MON_STAT, R213
abbrev CMP_MON_STAT_REPEAT_COUNT (i : Nat) : Fld := ⟨0x18061C + 0x20 * i, 31, 16⟩
abbrev CMP_MON_STAT_FRAME_COUNT (i : Nat) : Fld := ⟨0x18061C + 0x20 * i, 15, 0⟩
-- CMP_LAYER_CTL, R177
abbrev CMP_LAYER_CTL_EN (i j : Nat) : Fld := ⟨0x188000 + 0x1000 * i + 0x40 * j, 31, 31⟩
abbrev CMP_LAYER_CTL_KIND (i j : Nat) : Fld := ⟨0x188000 + 0x1000 * i + 0x40 * j, 30, 29⟩
abbrev CMP_LAYER_CTL_SCALE_EN (i j : Nat) : Fld := ⟨0x188000 + 0x1000 * i + 0x40 * j, 28, 28⟩
abbrev CMP_LAYER_CTL_SCALER (i j : Nat) : Fld := ⟨0x188000 + 0x1000 * i + 0x40 * j, 27, 24⟩
abbrev CMP_LAYER_CTL_BLEND (i j : Nat) : Fld := ⟨0x188000 + 0x1000 * i + 0x40 * j, 23, 22⟩
abbrev CMP_LAYER_CTL_SRC (i j : Nat) : Fld := ⟨0x188000 + 0x1000 * i + 0x40 * j, 19, 16⟩
abbrev CMP_LAYER_CTL_FENCE_EN (i j : Nat) : Fld := ⟨0x188000 + 0x1000 * i + 0x40 * j, 15, 15⟩
abbrev CMP_LAYER_CTL_FENCE (i j : Nat) : Fld := ⟨0x188000 + 0x1000 * i + 0x40 * j, 14, 8⟩
-- CMP_LAYER_DST_X, R177
abbrev CMP_LAYER_DST_X_X (i j : Nat) : Fld := ⟨0x188004 + 0x1000 * i + 0x40 * j, 17, 0⟩
-- CMP_LAYER_DST_Y, R177
abbrev CMP_LAYER_DST_Y_Y (i j : Nat) : Fld := ⟨0x188008 + 0x1000 * i + 0x40 * j, 17, 0⟩
-- CMP_LAYER_DST_SIZE, R177
abbrev CMP_LAYER_DST_SIZE_DST_W (i j : Nat) : Fld := ⟨0x18800C + 0x1000 * i + 0x40 * j, 31, 16⟩
abbrev CMP_LAYER_DST_SIZE_DST_H (i j : Nat) : Fld := ⟨0x18800C + 0x1000 * i + 0x40 * j, 15, 0⟩
-- CMP_LAYER_CROP_POS, R177
abbrev CMP_LAYER_CROP_POS_SRC_X (i j : Nat) : Fld := ⟨0x188010 + 0x1000 * i + 0x40 * j, 31, 16⟩
abbrev CMP_LAYER_CROP_POS_SRC_Y (i j : Nat) : Fld := ⟨0x188010 + 0x1000 * i + 0x40 * j, 15, 0⟩
-- CMP_LAYER_CROP_SIZE, R177
abbrev CMP_LAYER_CROP_SIZE_SRC_W (i j : Nat) : Fld := ⟨0x188014 + 0x1000 * i + 0x40 * j, 31, 16⟩
abbrev CMP_LAYER_CROP_SIZE_SRC_H (i j : Nat) : Fld := ⟨0x188014 + 0x1000 * i + 0x40 * j, 15, 0⟩
-- CMP_LAYER_ALPHA, R177
abbrev CMP_LAYER_ALPHA_GLOBAL_ALPHA (i j : Nat) : Fld := ⟨0x188018 + 0x1000 * i + 0x40 * j, 31, 16⟩
abbrev CMP_LAYER_ALPHA_COEF_H (i j : Nat) : Fld := ⟨0x188018 + 0x1000 * i + 0x40 * j, 12, 8⟩
abbrev CMP_LAYER_ALPHA_COEF_V (i j : Nat) : Fld := ⟨0x188018 + 0x1000 * i + 0x40 * j, 4, 0⟩
-- CMP_LAYER_SOLID_RG, R177
abbrev CMP_LAYER_SOLID_RG_SOLID_R (i j : Nat) : Fld := ⟨0x18801C + 0x1000 * i + 0x40 * j, 31, 16⟩
abbrev CMP_LAYER_SOLID_RG_SOLID_G (i j : Nat) : Fld := ⟨0x18801C + 0x1000 * i + 0x40 * j, 15, 0⟩
-- CMP_LAYER_SOLID_B, R177
abbrev CMP_LAYER_SOLID_B_SOLID_B (i j : Nat) : Fld := ⟨0x188020 + 0x1000 * i + 0x40 * j, 15, 0⟩
-- CMP_LAYER_BUF_LO, R177
abbrev CMP_LAYER_BUF_LO_ADDR_LO (i j : Nat) : Fld := ⟨0x188024 + 0x1000 * i + 0x40 * j, 31, 12⟩
-- CMP_LAYER_BUF_HI, R177
abbrev CMP_LAYER_BUF_HI_ADDR_HI (i j : Nat) : Fld := ⟨0x188028 + 0x1000 * i + 0x40 * j, 3, 0⟩
-- CMP_LAYER_BUF_FMT, R177
abbrev CMP_LAYER_BUF_FMT_FMT (i j : Nat) : Fld := ⟨0x18802C + 0x1000 * i + 0x40 * j, 31, 30⟩
abbrev CMP_LAYER_BUF_FMT_TF (i j : Nat) : Fld := ⟨0x18802C + 0x1000 * i + 0x40 * j, 23, 20⟩
abbrev CMP_LAYER_BUF_FMT_COLOUR (i j : Nat) : Fld := ⟨0x18802C + 0x1000 * i + 0x40 * j, 19, 19⟩
abbrev CMP_LAYER_BUF_FMT_RANGE (i j : Nat) : Fld := ⟨0x18802C + 0x1000 * i + 0x40 * j, 18, 18⟩
abbrev CMP_LAYER_BUF_FMT_PITCH_64B (i j : Nat) : Fld := ⟨0x18802C + 0x1000 * i + 0x40 * j, 11, 0⟩
-- CMP_LAYER_BUF_SIZE, R177
abbrev CMP_LAYER_BUF_SIZE_BUF_W (i j : Nat) : Fld := ⟨0x188030 + 0x1000 * i + 0x40 * j, 31, 16⟩
abbrev CMP_LAYER_BUF_SIZE_BUF_H (i j : Nat) : Fld := ⟨0x188030 + 0x1000 * i + 0x40 * j, 15, 0⟩
-- CMP_LAYER_FENCE_TARGET, R177
abbrev CMP_LAYER_FENCE_TARGET_TARGET (i j : Nat) : Fld := ⟨0x188034 + 0x1000 * i + 0x40 * j, 31, 0⟩
-- CMP_LAYER_STEP_X, R177
abbrev CMP_LAYER_STEP_X_STEP (i j : Nat) : Fld := ⟨0x188038 + 0x1000 * i + 0x40 * j, 19, 0⟩
-- CMP_LAYER_STEP_Y, R177
abbrev CMP_LAYER_STEP_Y_STEP (i j : Nat) : Fld := ⟨0x18803C + 0x1000 * i + 0x40 * j, 19, 0⟩
-- CMP_COEF_H, R157
abbrev CMP_COEF_H_K1 (i j : Nat) : Fld := ⟨0x190000 + 0x800 * i + 0x4 * j, 27, 16⟩
abbrev CMP_COEF_H_K0 (i j : Nat) : Fld := ⟨0x190000 + 0x800 * i + 0x4 * j, 11, 0⟩
-- CMP_COEF_V, R157
abbrev CMP_COEF_V_K1 (i j : Nat) : Fld := ⟨0x190400 + 0x800 * i + 0x4 * j, 27, 16⟩
abbrev CMP_COEF_V_K0 (i j : Nat) : Fld := ⟨0x190400 + 0x800 * i + 0x4 * j, 11, 0⟩
-- CMP_WARP, R214
abbrev CMP_WARP_D3 (i j : Nat) : Fld := ⟨0x1A0000 + 0x1000 * i + 0x4 * j, 31, 24⟩
abbrev CMP_WARP_D2 (i j : Nat) : Fld := ⟨0x1A0000 + 0x1000 * i + 0x4 * j, 23, 16⟩
abbrev CMP_WARP_D1 (i j : Nat) : Fld := ⟨0x1A0000 + 0x1000 * i + 0x4 * j, 15, 8⟩
abbrev CMP_WARP_D0 (i j : Nat) : Fld := ⟨0x1A0000 + 0x1000 * i + 0x4 * j, 7, 0⟩
-- MLK_CTL, R268
abbrev MLK_CTL_DOMAIN : Fld := ⟨0x200000, 21, 16⟩
abbrev MLK_CTL_VMAX : Fld := ⟨0x200000, 1, 0⟩
-- MLK_STAT, R268
abbrev MLK_STAT_TIME_LOCKED : Fld := ⟨0x200004, 26, 26⟩
abbrev MLK_STAT_ACTIVE_PORT : Fld := ⟨0x200004, 25, 25⟩
abbrev MLK_STAT_ADDR_VALID : Fld := ⟨0x200004, 24, 24⟩
abbrev MLK_STAT_ADDR : Fld := ⟨0x200004, 15, 0⟩
-- MLK_EVT, R268
abbrev MLK_EVT_FAULT_OVF : Fld := ⟨0x200008, 13, 13⟩
abbrev MLK_EVT_CLAIM_NEW : Fld := ⟨0x200008, 12, 12⟩
abbrev MLK_EVT_HELLO_FAIL : Fld := ⟨0x200008, 11, 11⟩
abbrev MLK_EVT_SESSION_DOWN : Fld := ⟨0x200008, 10, 10⟩
abbrev MLK_EVT_SESSION_UP : Fld := ⟨0x200008, 9, 9⟩
abbrev MLK_EVT_CHAIN_LEN : Fld := ⟨0x200008, 8, 8⟩
abbrev MLK_EVT_RING_MISCABLE : Fld := ⟨0x200008, 7, 7⟩
abbrev MLK_EVT_SLOT_MISMATCH : Fld := ⟨0x200008, 6, 6⟩
abbrev MLK_EVT_LATE_SET : Fld := ⟨0x200008, 5, 5⟩
abbrev MLK_EVT_NOACK : Fld := ⟨0x200008, 4, 4⟩
abbrev MLK_EVT_CLAIM_DISC : Fld := ⟨0x200008, 3, 3⟩
abbrev MLK_EVT_ABORT_RX : Fld := ⟨0x200008, 2, 2⟩
abbrev MLK_EVT_CRC_ERR : Fld := ⟨0x200008, 1, 1⟩
abbrev MLK_EVT_BLK_ERR : Fld := ⟨0x200008, 0, 0⟩
-- MLK_IRQ_EN, R268
abbrev MLK_IRQ_EN_FAULT_OVF : Fld := ⟨0x20000C, 13, 13⟩
abbrev MLK_IRQ_EN_CLAIM_NEW : Fld := ⟨0x20000C, 12, 12⟩
abbrev MLK_IRQ_EN_HELLO_FAIL : Fld := ⟨0x20000C, 11, 11⟩
abbrev MLK_IRQ_EN_SESSION_DOWN : Fld := ⟨0x20000C, 10, 10⟩
abbrev MLK_IRQ_EN_SESSION_UP : Fld := ⟨0x20000C, 9, 9⟩
abbrev MLK_IRQ_EN_CHAIN_LEN : Fld := ⟨0x20000C, 8, 8⟩
abbrev MLK_IRQ_EN_RING_MISCABLE : Fld := ⟨0x20000C, 7, 7⟩
abbrev MLK_IRQ_EN_SLOT_MISMATCH : Fld := ⟨0x20000C, 6, 6⟩
abbrev MLK_IRQ_EN_LATE_SET : Fld := ⟨0x20000C, 5, 5⟩
abbrev MLK_IRQ_EN_NOACK : Fld := ⟨0x20000C, 4, 4⟩
abbrev MLK_IRQ_EN_CLAIM_DISC : Fld := ⟨0x20000C, 3, 3⟩
abbrev MLK_IRQ_EN_ABORT_RX : Fld := ⟨0x20000C, 2, 2⟩
abbrev MLK_IRQ_EN_CRC_ERR : Fld := ⟨0x20000C, 1, 1⟩
abbrev MLK_IRQ_EN_BLK_ERR : Fld := ⟨0x20000C, 0, 0⟩
-- MLK_CLAIM_EPOCH, R268
abbrev MLK_CLAIM_EPOCH_EPOCH : Fld := ⟨0x200010, 31, 0⟩
-- MLK_CLAIM, R268
abbrev MLK_CLAIM_SEEN : Fld := ⟨0x200014, 31, 31⟩
abbrev MLK_CLAIM_RANK : Fld := ⟨0x200014, 0, 0⟩
-- MLK_LEAD, R268
abbrev MLK_LEAD_HOPS : Fld := ⟨0x200018, 22, 16⟩
abbrev MLK_LEAD_LEAD_100NS : Fld := ⟨0x200018, 15, 0⟩
-- MLK_DISC_CNT, R268
abbrev MLK_DISC_CNT_CLAIM_DISC_COUNT : Fld := ⟨0x20001C, 31, 16⟩
abbrev MLK_DISC_CNT_CRC_ERR_COUNT : Fld := ⟨0x20001C, 15, 0⟩
-- MLK_TMO, R268
abbrev MLK_TMO_SESS_TMO_MS : Fld := ⟨0x200020, 31, 16⟩
abbrev MLK_TMO_TSTAT_MS : Fld := ⟨0x200020, 15, 8⟩
-- MLK_PORT_CTL, R269
abbrev MLK_PORT_CTL_EN (i : Nat) : Fld := ⟨0x200100 + 0x20 * i, 31, 31⟩
abbrev MLK_PORT_CTL_RATE (i : Nat) : Fld := ⟨0x200100 + 0x20 * i, 30, 30⟩
abbrev MLK_PORT_CTL_LANES (i : Nat) : Fld := ⟨0x200100 + 0x20 * i, 26, 24⟩
-- MLK_PORT_STAT, R269
abbrev MLK_PORT_STAT_TILES (i : Nat) : Fld := ⟨0x200104 + 0x20 * i, 30, 24⟩
abbrev MLK_PORT_STAT_RING (i : Nat) : Fld := ⟨0x200104 + 0x20 * i, 23, 23⟩
abbrev MLK_PORT_STAT_VERSION (i : Nat) : Fld := ⟨0x200104 + 0x20 * i, 19, 16⟩
abbrev MLK_PORT_STAT_PARTNER (i : Nat) : Fld := ⟨0x200104 + 0x20 * i, 15, 12⟩
abbrev MLK_PORT_STAT_LANES_UP (i : Nat) : Fld := ⟨0x200104 + 0x20 * i, 11, 8⟩
abbrev MLK_PORT_STAT_STATE (i : Nat) : Fld := ⟨0x200104 + 0x20 * i, 2, 0⟩
-- MLK_PORT_DELAY, R269
abbrev MLK_PORT_DELAY_DELAY_PS (i : Nat) : Fld := ⟨0x200108 + 0x20 * i, 31, 0⟩
-- MLK_PORT_OFFSET, R269
abbrev MLK_PORT_OFFSET_OFFSET_PS (i : Nat) : Fld := ⟨0x20010C + 0x20 * i, 31, 0⟩
-- MLK_PORT_BLK_CNT, R269
abbrev MLK_PORT_BLK_CNT_BLK_ERR_COUNT (i : Nat) : Fld := ⟨0x200110 + 0x20 * i, 31, 16⟩
abbrev MLK_PORT_BLK_CNT_ABORT_COUNT (i : Nat) : Fld := ⟨0x200110 + 0x20 * i, 15, 0⟩
-- MLK_PORT_PARTNER_ID, R269
abbrev MLK_PORT_PARTNER_ID_PART (i : Nat) : Fld := ⟨0x200114 + 0x20 * i, 31, 16⟩
abbrev MLK_PORT_PARTNER_ID_ADDR (i : Nat) : Fld := ⟨0x200114 + 0x20 * i, 15, 0⟩
-- MLK_SESS_STAT, R270
abbrev MLK_SESS_STAT_OPEN (i : Nat) : Fld := ⟨0x208000 + 0x20 * i, 31, 31⟩
abbrev MLK_SESS_STAT_MODE (i : Nat) : Fld := ⟨0x208000 + 0x20 * i, 30, 28⟩
abbrev MLK_SESS_STAT_VERSION (i : Nat) : Fld := ⟨0x208000 + 0x20 * i, 27, 24⟩
abbrev MLK_SESS_STAT_VIEWS_HELD (i : Nat) : Fld := ⟨0x208000 + 0x20 * i, 23, 20⟩
abbrev MLK_SESS_STAT_RESYNC (i : Nat) : Fld := ⟨0x208000 + 0x20 * i, 7, 7⟩
abbrev MLK_SESS_STAT_TIME_LOCKED (i : Nat) : Fld := ⟨0x208000 + 0x20 * i, 6, 6⟩
-- MLK_SESS_GEOM, R270
abbrev MLK_SESS_GEOM_W (i : Nat) : Fld := ⟨0x208004 + 0x20 * i, 31, 16⟩
abbrev MLK_SESS_GEOM_H (i : Nat) : Fld := ⟨0x208004 + 0x20 * i, 15, 0⟩
-- MLK_SESS_INFO, R270
abbrev MLK_SESS_INFO_LAMPS (i : Nat) : Fld := ⟨0x208008 + 0x20 * i, 31, 24⟩
abbrev MLK_SESS_INFO_DRIVERS (i : Nat) : Fld := ⟨0x208008 + 0x20 * i, 15, 0⟩
-- MLK_SESS_FW_VER, R270
abbrev MLK_SESS_FW_VER_FW_VER (i : Nat) : Fld := ⟨0x20800C + 0x20 * i, 31, 0⟩
-- MLK_SESS_CAPS, R270
abbrev MLK_SESS_CAPS_CAPS (i : Nat) : Fld := ⟨0x208010 + 0x20 * i, 31, 0⟩
-- MLK_SESS_LAST_FLIP, R270
abbrev MLK_SESS_LAST_FLIP_FLIP_LO (i : Nat) : Fld := ⟨0x208014 + 0x20 * i, 31, 0⟩
-- MLK_SESS_AGE, R270
abbrev MLK_SESS_AGE_STATUS_AGE_MS (i : Nat) : Fld := ⟨0x208018 + 0x20 * i, 31, 16⟩
abbrev MLK_SESS_AGE_FAULTS_PENDING (i : Nat) : Fld := ⟨0x208018 + 0x20 * i, 15, 0⟩
-- SER_CTL, R297
abbrev SER_CTL_RECAL_DT_C : Fld := ⟨0x240000, 31, 24⟩
abbrev SER_CTL_REJOIN_10MS : Fld := ⟨0x240000, 23, 16⟩
abbrev SER_CTL_ADAPT_MIN : Fld := ⟨0x240000, 15, 8⟩
abbrev SER_CTL_RECAL_EN : Fld := ⟨0x240000, 0, 0⟩
-- SER_STAT, R297
abbrev SER_STAT_RECAL_TEMP : Fld := ⟨0x240004, 23, 16⟩
abbrev SER_STAT_RECAL_COUNT : Fld := ⟨0x240004, 15, 0⟩
-- SER_EVT, R297
abbrev SER_EVT_RELAY_OVF : Fld := ⟨0x240008, 8, 8⟩
abbrev SER_EVT_DESKEW_ERR : Fld := ⟨0x240008, 7, 7⟩
abbrev SER_EVT_PRBS_ERR : Fld := ⟨0x240008, 6, 6⟩
abbrev SER_EVT_EYE_LOW : Fld := ⟨0x240008, 5, 5⟩
abbrev SER_EVT_RECAL_REJ : Fld := ⟨0x240008, 4, 4⟩
abbrev SER_EVT_ADAPT_FREEZE : Fld := ⟨0x240008, 3, 3⟩
abbrev SER_EVT_RESTRIPE : Fld := ⟨0x240008, 2, 2⟩
abbrev SER_EVT_LANE_REJOIN : Fld := ⟨0x240008, 1, 1⟩
abbrev SER_EVT_LANE_LOST : Fld := ⟨0x240008, 0, 0⟩
-- SER_IRQ_EN, R297
abbrev SER_IRQ_EN_RELAY_OVF : Fld := ⟨0x24000C, 8, 8⟩
abbrev SER_IRQ_EN_DESKEW_ERR : Fld := ⟨0x24000C, 7, 7⟩
abbrev SER_IRQ_EN_PRBS_ERR : Fld := ⟨0x24000C, 6, 6⟩
abbrev SER_IRQ_EN_EYE_LOW : Fld := ⟨0x24000C, 5, 5⟩
abbrev SER_IRQ_EN_RECAL_REJ : Fld := ⟨0x24000C, 4, 4⟩
abbrev SER_IRQ_EN_ADAPT_FREEZE : Fld := ⟨0x24000C, 3, 3⟩
abbrev SER_IRQ_EN_RESTRIPE : Fld := ⟨0x24000C, 2, 2⟩
abbrev SER_IRQ_EN_LANE_REJOIN : Fld := ⟨0x24000C, 1, 1⟩
abbrev SER_IRQ_EN_LANE_LOST : Fld := ⟨0x24000C, 0, 0⟩
-- SER_QUAD_STAT, R298
abbrev SER_QUAD_STAT_FUNC (i : Nat) : Fld := ⟨0x240100 + 0x4 * i, 7, 4⟩
abbrev SER_QUAD_STAT_PLL_LOCK (i : Nat) : Fld := ⟨0x240100 + 0x4 * i, 1, 1⟩
abbrev SER_QUAD_STAT_POWERED (i : Nat) : Fld := ⟨0x240100 + 0x4 * i, 0, 0⟩
-- SER_PORT_STAT, R298
abbrev SER_PORT_STAT_TX_SET (i : Nat) : Fld := ⟨0x240200 + 0x10 * i, 31, 28⟩
abbrev SER_PORT_STAT_RX_SET (i : Nat) : Fld := ⟨0x240200 + 0x10 * i, 27, 24⟩
abbrev SER_PORT_STAT_WMIN_RX (i : Nat) : Fld := ⟨0x240200 + 0x10 * i, 23, 20⟩
abbrev SER_PORT_STAT_PRESENT (i : Nat) : Fld := ⟨0x240200 + 0x10 * i, 19, 16⟩
-- SER_PORT_CNT, R298
abbrev SER_PORT_CNT_RESTRIPE_COUNT (i : Nat) : Fld := ⟨0x240204 + 0x10 * i, 31, 16⟩
abbrev SER_PORT_CNT_RELAY_OVF_COUNT (i : Nat) : Fld := ⟨0x240204 + 0x10 * i, 15, 0⟩
-- SER_PORT_SKEW, R298
abbrev SER_PORT_SKEW_SKEW (i : Nat) : Fld := ⟨0x240208 + 0x10 * i, 31, 0⟩
-- SER_LANE_CTL, R299
abbrev SER_LANE_CTL_PRBS_EN (i : Nat) : Fld := ⟨0x241000 + 0x40 * i, 31, 31⟩
abbrev SER_LANE_CTL_PRBS_PAT (i : Nat) : Fld := ⟨0x241000 + 0x40 * i, 30, 28⟩
abbrev SER_LANE_CTL_PRBS_DIR (i : Nat) : Fld := ⟨0x241000 + 0x40 * i, 27, 26⟩
abbrev SER_LANE_CTL_PRBS_INV (i : Nat) : Fld := ⟨0x241000 + 0x40 * i, 25, 25⟩
abbrev SER_LANE_CTL_TEST_28G (i : Nat) : Fld := ⟨0x241000 + 0x40 * i, 24, 24⟩
abbrev SER_LANE_CTL_FORCE_OUT (i : Nat) : Fld := ⟨0x241000 + 0x40 * i, 0, 0⟩
-- SER_LANE_STAT, R299
abbrev SER_LANE_STAT_CDR_LOCK (i : Nat) : Fld := ⟨0x241004 + 0x40 * i, 23, 23⟩
abbrev SER_LANE_STAT_BLOCK_LOCK (i : Nat) : Fld := ⟨0x241004 + 0x40 * i, 22, 22⟩
abbrev SER_LANE_STAT_PRBS_LOCK (i : Nat) : Fld := ⟨0x241004 + 0x40 * i, 21, 21⟩
abbrev SER_LANE_STAT_ADAPT_FROZEN (i : Nat) : Fld := ⟨0x241004 + 0x40 * i, 20, 20⟩
abbrev SER_LANE_STAT_STATE (i : Nat) : Fld := ⟨0x241004 + 0x40 * i, 18, 16⟩
-- SER_LANE_EVT, R299
abbrev SER_LANE_EVT_DESKEW_ERR (i : Nat) : Fld := ⟨0x241008 + 0x40 * i, 7, 7⟩
abbrev SER_LANE_EVT_HI_BER (i : Nat) : Fld := ⟨0x241008 + 0x40 * i, 6, 6⟩
abbrev SER_LANE_EVT_PRBS_ERR (i : Nat) : Fld := ⟨0x241008 + 0x40 * i, 5, 5⟩
abbrev SER_LANE_EVT_EYE_LOW (i : Nat) : Fld := ⟨0x241008 + 0x40 * i, 4, 4⟩
abbrev SER_LANE_EVT_RECAL_REJ (i : Nat) : Fld := ⟨0x241008 + 0x40 * i, 3, 3⟩
abbrev SER_LANE_EVT_ADAPT_FREEZE (i : Nat) : Fld := ⟨0x241008 + 0x40 * i, 2, 2⟩
abbrev SER_LANE_EVT_REJOIN (i : Nat) : Fld := ⟨0x241008 + 0x40 * i, 1, 1⟩
abbrev SER_LANE_EVT_LOST (i : Nat) : Fld := ⟨0x241008 + 0x40 * i, 0, 0⟩
-- SER_LANE_IRQ_EN, R299
abbrev SER_LANE_IRQ_EN_DESKEW_ERR (i : Nat) : Fld := ⟨0x24100C + 0x40 * i, 7, 7⟩
abbrev SER_LANE_IRQ_EN_HI_BER (i : Nat) : Fld := ⟨0x24100C + 0x40 * i, 6, 6⟩
abbrev SER_LANE_IRQ_EN_PRBS_ERR (i : Nat) : Fld := ⟨0x24100C + 0x40 * i, 5, 5⟩
abbrev SER_LANE_IRQ_EN_EYE_LOW (i : Nat) : Fld := ⟨0x24100C + 0x40 * i, 4, 4⟩
abbrev SER_LANE_IRQ_EN_RECAL_REJ (i : Nat) : Fld := ⟨0x24100C + 0x40 * i, 3, 3⟩
abbrev SER_LANE_IRQ_EN_ADAPT_FREEZE (i : Nat) : Fld := ⟨0x24100C + 0x40 * i, 2, 2⟩
abbrev SER_LANE_IRQ_EN_REJOIN (i : Nat) : Fld := ⟨0x24100C + 0x40 * i, 1, 1⟩
abbrev SER_LANE_IRQ_EN_LOST (i : Nat) : Fld := ⟨0x24100C + 0x40 * i, 0, 0⟩
-- SER_LANE_EYE, R299
abbrev SER_LANE_EYE_EYE_W_MUI (i : Nat) : Fld := ⟨0x241010 + 0x40 * i, 31, 16⟩
abbrev SER_LANE_EYE_EYE_H_MV (i : Nat) : Fld := ⟨0x241010 + 0x40 * i, 15, 0⟩
-- SER_LANE_EYE_MIN, R299
abbrev SER_LANE_EYE_MIN_W_MIN_MUI (i : Nat) : Fld := ⟨0x241014 + 0x40 * i, 31, 16⟩
abbrev SER_LANE_EYE_MIN_H_MIN_MV (i : Nat) : Fld := ⟨0x241014 + 0x40 * i, 15, 0⟩
-- SER_LANE_PRBS_ERR, R299
abbrev SER_LANE_PRBS_ERR_ERR_BITS (i : Nat) : Fld := ⟨0x241018 + 0x40 * i, 31, 0⟩
-- SER_LANE_PRBS_BITS, R299
abbrev SER_LANE_PRBS_BITS_BITS_2E20 (i : Nat) : Fld := ⟨0x24101C + 0x40 * i, 31, 0⟩
-- SER_LANE_CNT, R299
abbrev SER_LANE_CNT_BIP_ERR_COUNT (i : Nat) : Fld := ⟨0x241020 + 0x40 * i, 31, 16⟩
abbrev SER_LANE_CNT_FREEZE_COUNT (i : Nat) : Fld := ⟨0x241020 + 0x40 * i, 15, 0⟩
-- SER_LANE_ADAPT, R299
abbrev SER_LANE_ADAPT_CTLE (i : Nat) : Fld := ⟨0x241024 + 0x40 * i, 31, 24⟩
abbrev SER_LANE_ADAPT_DFE1 (i : Nat) : Fld := ⟨0x241024 + 0x40 * i, 23, 16⟩
abbrev SER_LANE_ADAPT_VGA (i : Nat) : Fld := ⟨0x241024 + 0x40 * i, 15, 8⟩
abbrev SER_LANE_ADAPT_OFFSET (i : Nat) : Fld := ⟨0x241024 + 0x40 * i, 7, 0⟩
-- SER_LANE_RECAL, R299
abbrev SER_LANE_RECAL_RECAL_REJ_COUNT (i : Nat) : Fld := ⟨0x241028 + 0x40 * i, 31, 16⟩
abbrev SER_LANE_RECAL_LAST_TEMP (i : Nat) : Fld := ⟨0x241028 + 0x40 * i, 15, 8⟩
-- TIL_GEOM, R328
abbrev TIL_GEOM_LAMPS4 : Fld := ⟨0x280000, 28, 28⟩
abbrev TIL_GEOM_W : Fld := ⟨0x280000, 27, 16⟩
abbrev TIL_GEOM_H : Fld := ⟨0x280000, 11, 0⟩
-- TIL_STAT, R328
abbrev TIL_STAT_AREAS : Fld := ⟨0x280004, 23, 20⟩
abbrev TIL_STAT_BUILD_BUSY : Fld := ⟨0x280004, 16, 16⟩
abbrev TIL_STAT_VIEW : Fld := ⟨0x280004, 10, 8⟩
-- TIL_EVT, R328
abbrev TIL_EVT_AREA_RECLAIM : Fld := ⟨0x280008, 11, 11⟩
abbrev TIL_EVT_LINING_REJ : Fld := ⟨0x280008, 10, 10⟩
abbrev TIL_EVT_LINING_SWAP : Fld := ⟨0x280008, 9, 9⟩
abbrev TIL_EVT_GEOM_RESET : Fld := ⟨0x280008, 8, 8⟩
abbrev TIL_EVT_TEMP_FALLBACK : Fld := ⟨0x280008, 7, 7⟩
abbrev TIL_EVT_UNDERRUN : Fld := ⟨0x280008, 6, 6⟩
abbrev TIL_EVT_NO_FLIP : Fld := ⟨0x280008, 5, 5⟩
abbrev TIL_EVT_ALIVE_ERR : Fld := ⟨0x280008, 4, 4⟩
abbrev TIL_EVT_GNT_MISMATCH : Fld := ⟨0x280008, 3, 3⟩
abbrev TIL_EVT_GUARD : Fld := ⟨0x280008, 2, 2⟩
abbrev TIL_EVT_FRAME_LATE : Fld := ⟨0x280008, 1, 1⟩
abbrev TIL_EVT_FRAME_REJ : Fld := ⟨0x280008, 0, 0⟩
-- TIL_IRQ_EN, R328
abbrev TIL_IRQ_EN_AREA_RECLAIM : Fld := ⟨0x28000C, 11, 11⟩
abbrev TIL_IRQ_EN_LINING_REJ : Fld := ⟨0x28000C, 10, 10⟩
abbrev TIL_IRQ_EN_LINING_SWAP : Fld := ⟨0x28000C, 9, 9⟩
abbrev TIL_IRQ_EN_GEOM_RESET : Fld := ⟨0x28000C, 8, 8⟩
abbrev TIL_IRQ_EN_TEMP_FALLBACK : Fld := ⟨0x28000C, 7, 7⟩
abbrev TIL_IRQ_EN_UNDERRUN : Fld := ⟨0x28000C, 6, 6⟩
abbrev TIL_IRQ_EN_NO_FLIP : Fld := ⟨0x28000C, 5, 5⟩
abbrev TIL_IRQ_EN_ALIVE_ERR : Fld := ⟨0x28000C, 4, 4⟩
abbrev TIL_IRQ_EN_GNT_MISMATCH : Fld := ⟨0x28000C, 3, 3⟩
abbrev TIL_IRQ_EN_GUARD : Fld := ⟨0x28000C, 2, 2⟩
abbrev TIL_IRQ_EN_FRAME_LATE : Fld := ⟨0x28000C, 1, 1⟩
abbrev TIL_IRQ_EN_FRAME_REJ : Fld := ⟨0x28000C, 0, 0⟩
-- TIL_CNT0, R328
abbrev TIL_CNT0_REJ_COUNT : Fld := ⟨0x280010, 31, 16⟩
abbrev TIL_CNT0_HELD_COUNT : Fld := ⟨0x280010, 15, 0⟩
-- TIL_CNT1, R328
abbrev TIL_CNT1_GUARD_COUNT : Fld := ⟨0x280014, 31, 16⟩
abbrev TIL_CNT1_UNDERRUN_COUNT : Fld := ⟨0x280014, 15, 0⟩
-- TIL_CNT2, R328
abbrev TIL_CNT2_STALE_COUNT : Fld := ⟨0x280018, 31, 16⟩
abbrev TIL_CNT2_NO_FLIP_COUNT : Fld := ⟨0x280018, 15, 0⟩
-- TIL_BUILD, R328
abbrev TIL_BUILD_MAX_100NS : Fld := ⟨0x28001C, 31, 16⟩
abbrev TIL_BUILD_LAST_100NS : Fld := ⟨0x28001C, 15, 0⟩
-- TIL_DITHER, R328
abbrev TIL_DITHER_MODE : Fld := ⟨0x280020, 1, 0⟩
-- TIL_BRIGHT, R328
abbrev TIL_BRIGHT_HOST_GAIN : Fld := ⟨0x280024, 31, 16⟩
abbrev TIL_BRIGHT_USED : Fld := ⟨0x280024, 15, 0⟩
-- TIL_BG_RG, R328
abbrev TIL_BG_RG_BG_R : Fld := ⟨0x280028, 31, 16⟩
abbrev TIL_BG_RG_BG_G : Fld := ⟨0x280028, 15, 0⟩
-- TIL_BG_BW, R328
abbrev TIL_BG_BW_BG_B : Fld := ⟨0x28002C, 31, 16⟩
abbrev TIL_BG_BW_BG_4 : Fld := ⟨0x28002C, 15, 0⟩
-- TIL_LAMP4_CTL, R328
abbrev TIL_LAMP4_CTL_W_GAIN : Fld := ⟨0x280030, 31, 16⟩
abbrev TIL_LAMP4_CTL_COLOUR : Fld := ⟨0x280030, 1, 0⟩
-- TIL_LAMP4_SUB_RG, R328
abbrev TIL_LAMP4_SUB_RG_SUB_R : Fld := ⟨0x280034, 31, 16⟩
abbrev TIL_LAMP4_SUB_RG_SUB_G : Fld := ⟨0x280034, 15, 0⟩
-- TIL_LAMP4_SUB_B, R328
abbrev TIL_LAMP4_SUB_B_SUB_B : Fld := ⟨0x280038, 15, 0⟩
-- TIL_TCOMP_CTL, R328
abbrev TIL_TCOMP_CTL_FALLBACK_C : Fld := ⟨0x28003C, 31, 16⟩
abbrev TIL_TCOMP_CTL_SLEW : Fld := ⟨0x28003C, 15, 0⟩
-- TIL_LINING_CTL, R328
abbrev TIL_LINING_CTL_GEN : Fld := ⟨0x280040, 15, 0⟩
-- TIL_LINING_CHECK, R328
abbrev TIL_LINING_CHECK_CHECK : Fld := ⟨0x280044, 31, 0⟩
-- TIL_LINING_STAT, R328
abbrev TIL_LINING_STAT_ACTIVE_GEN : Fld := ⟨0x280048, 31, 16⟩
abbrev TIL_LINING_STAT_COPY_BUSY : Fld := ⟨0x280048, 15, 15⟩
abbrev TIL_LINING_STAT_PENDING : Fld := ⟨0x280048, 14, 14⟩
abbrev TIL_LINING_STAT_STAGE_BUSY : Fld := ⟨0x280048, 13, 13⟩
-- TIL_LINING_STAGE_CHECK, R328
abbrev TIL_LINING_STAGE_CHECK_CHECK : Fld := ⟨0x28004C, 31, 0⟩
-- TIL_GUARD_CTL, R328
abbrev TIL_GUARD_CTL_VALID : Fld := ⟨0x280050, 3, 0⟩
-- TIL_AREA_STAT, R329
abbrev TIL_AREA_STAT_ASSIGNED (i : Nat) : Fld := ⟨0x280100 + 0x10 * i, 31, 31⟩
abbrev TIL_AREA_STAT_VIEW (i : Nat) : Fld := ⟨0x280100 + 0x10 * i, 30, 28⟩
abbrev TIL_AREA_STAT_HAS_SHOWN (i : Nat) : Fld := ⟨0x280100 + 0x10 * i, 27, 27⟩
abbrev TIL_AREA_STAT_HAS_READY (i : Nat) : Fld := ⟨0x280100 + 0x10 * i, 26, 26⟩
abbrev TIL_AREA_STAT_FILLING (i : Nat) : Fld := ⟨0x280100 + 0x10 * i, 25, 25⟩
abbrev TIL_AREA_STAT_GUARDED (i : Nat) : Fld := ⟨0x280100 + 0x10 * i, 19, 16⟩
abbrev TIL_AREA_STAT_ALIVE (i : Nat) : Fld := ⟨0x280100 + 0x10 * i, 15, 0⟩
-- TIL_AREA_SHOWN_FLIP, R329
abbrev TIL_AREA_SHOWN_FLIP_FLIP_LO (i : Nat) : Fld := ⟨0x280104 + 0x10 * i, 31, 0⟩
-- TIL_AREA_READY_FLIP, R329
abbrev TIL_AREA_READY_FLIP_FLIP_LO (i : Nat) : Fld := ⟨0x280108 + 0x10 * i, 31, 0⟩
-- TIL_AREA_FILL_PIXELS, R329
abbrev TIL_AREA_FILL_PIXELS_PIXELS (i : Nat) : Fld := ⟨0x28010C + 0x10 * i, 31, 0⟩
-- TIL_ZONE_TEMP, R329
abbrev TIL_ZONE_TEMP_FALLBACK (i : Nat) : Fld := ⟨0x280200 + 0x4 * i, 16, 16⟩
abbrev TIL_ZONE_TEMP_TEMP (i : Nat) : Fld := ⟨0x280200 + 0x4 * i, 15, 0⟩
-- TIL_ZONE_GAIN0, R329
abbrev TIL_ZONE_GAIN0_G (i : Nat) : Fld := ⟨0x280240 + 0x8 * i, 31, 16⟩
abbrev TIL_ZONE_GAIN0_R (i : Nat) : Fld := ⟨0x280240 + 0x8 * i, 15, 0⟩
-- TIL_ZONE_GAIN1, R329
abbrev TIL_ZONE_GAIN1_L4 (i : Nat) : Fld := ⟨0x280244 + 0x8 * i, 31, 16⟩
abbrev TIL_ZONE_GAIN1_B (i : Nat) : Fld := ⟨0x280244 + 0x8 * i, 15, 0⟩
-- TIL_MODZONE, R329
abbrev TIL_MODZONE_ZONE (i : Nat) : Fld := ⟨0x280300 + 0x4 * i, 31, 0⟩
-- TIL_TCOMP, R323
abbrev TIL_TCOMP_TEMP (i j k : Nat) : Fld := ⟨0x282000 + 0x80 * i + 0x20 * j + 0x4 * k, 31, 16⟩
abbrev TIL_TCOMP_GAIN (i j k : Nat) : Fld := ⟨0x282000 + 0x80 * i + 0x20 * j + 0x4 * k, 15, 0⟩
-- LMB_CTL, R367
abbrev LMB_CTL_EN : Fld := ⟨0x2C0000, 31, 31⟩
abbrev LMB_CTL_VISOR_ACT : Fld := ⟨0x2C0000, 30, 30⟩
-- LMB_STAT, R367
abbrev LMB_STAT_LOCKED : Fld := ⟨0x2C0004, 29, 29⟩
abbrev LMB_STAT_RUNNING : Fld := ⟨0x2C0004, 28, 28⟩
abbrev LMB_STAT_VISIT : Fld := ⟨0x2C0004, 27, 16⟩
abbrev LMB_STAT_SLOTS_FREE : Fld := ⟨0x2C0004, 9, 0⟩
-- LMB_EVT, R367
abbrev LMB_EVT_HATBAND_REJ : Fld := ⟨0x2C0008, 8, 8⟩
abbrev LMB_EVT_BANK_FAULT : Fld := ⟨0x2C0008, 7, 7⟩
abbrev LMB_EVT_SCAN_SLIP : Fld := ⟨0x2C0008, 6, 6⟩
abbrev LMB_EVT_UPLOAD_LATE : Fld := ⟨0x2C0008, 5, 5⟩
abbrev LMB_EVT_DRV_FLAG : Fld := ⟨0x2C0008, 4, 4⟩
abbrev LMB_EVT_ABSENT : Fld := ⟨0x2C0008, 3, 3⟩
abbrev LMB_EVT_NO_ECHO : Fld := ⟨0x2C0008, 2, 2⟩
abbrev LMB_EVT_ECHO_MISMATCH : Fld := ⟨0x2C0008, 1, 1⟩
abbrev LMB_EVT_VISOR_MISMATCH : Fld := ⟨0x2C0008, 0, 0⟩
-- LMB_IRQ_EN, R367
abbrev LMB_IRQ_EN_HATBAND_REJ : Fld := ⟨0x2C000C, 8, 8⟩
abbrev LMB_IRQ_EN_BANK_FAULT : Fld := ⟨0x2C000C, 7, 7⟩
abbrev LMB_IRQ_EN_SCAN_SLIP : Fld := ⟨0x2C000C, 6, 6⟩
abbrev LMB_IRQ_EN_UPLOAD_LATE : Fld := ⟨0x2C000C, 5, 5⟩
abbrev LMB_IRQ_EN_DRV_FLAG : Fld := ⟨0x2C000C, 4, 4⟩
abbrev LMB_IRQ_EN_ABSENT : Fld := ⟨0x2C000C, 3, 3⟩
abbrev LMB_IRQ_EN_NO_ECHO : Fld := ⟨0x2C000C, 2, 2⟩
abbrev LMB_IRQ_EN_ECHO_MISMATCH : Fld := ⟨0x2C000C, 1, 1⟩
abbrev LMB_IRQ_EN_VISOR_MISMATCH : Fld := ⟨0x2C000C, 0, 0⟩
-- LMB_SCAN, R367
abbrev LMB_SCAN_SCAN_M1 : Fld := ⟨0x2C0010, 28, 24⟩
abbrev LMB_SCAN_REFRESH : Fld := ⟨0x2C0010, 23, 16⟩
abbrev LMB_SCAN_DEAD : Fld := ⟨0x2C0010, 15, 8⟩
-- LMB_SCAN_RATE, R367
abbrev LMB_SCAN_RATE_NUM : Fld := ⟨0x2C0014, 31, 12⟩
abbrev LMB_SCAN_RATE_DEN : Fld := ⟨0x2C0014, 11, 0⟩
-- LMB_BUDGET, R367
abbrev LMB_BUDGET_VMIN : Fld := ⟨0x2C0018, 31, 16⟩
abbrev LMB_BUDGET_SPARE_MIN : Fld := ⟨0x2C0018, 15, 0⟩
-- LMB_CNT, R367
abbrev LMB_CNT_UPLOAD_LATE_COUNT : Fld := ⟨0x2C001C, 31, 16⟩
abbrev LMB_CNT_SLIP_COUNT : Fld := ⟨0x2C001C, 15, 0⟩
-- LMB_VISOR_FLIP, R367
abbrev LMB_VISOR_FLIP_FLIP_LO : Fld := ⟨0x2C0020, 31, 0⟩
-- LMB_VISOR_CHECK, R367
abbrev LMB_VISOR_CHECK_CHECK : Fld := ⟨0x2C0024, 31, 0⟩
-- LMB_VISOR_EXPECT, R367
abbrev LMB_VISOR_EXPECT_CHECK : Fld := ⟨0x2C0028, 31, 0⟩
-- LMB_BANK, R367
abbrev LMB_BANK_VOLT (i : Nat) : Fld := ⟨0x2C0040 + 0x4 * i, 7, 7⟩
abbrev LMB_BANK_DRIVE (i : Nat) : Fld := ⟨0x2C0040 + 0x4 * i, 6, 5⟩
abbrev LMB_BANK_SENSED (i : Nat) : Fld := ⟨0x2C0040 + 0x4 * i, 4, 3⟩
abbrev LMB_BANK_FAULT (i : Nat) : Fld := ⟨0x2C0040 + 0x4 * i, 2, 2⟩
-- LMB_DIAG_CTL, R388
abbrev LMB_DIAG_CTL_EN : Fld := ⟨0x2C0060, 31, 31⟩
abbrev LMB_DIAG_CTL_CONCEAL : Fld := ⟨0x2C0060, 30, 29⟩
abbrev LMB_DIAG_CTL_CONFIRM : Fld := ⟨0x2C0060, 27, 24⟩
abbrev LMB_DIAG_CTL_RECOVER : Fld := ⟨0x2C0060, 23, 16⟩
abbrev LMB_DIAG_CTL_MIN_WIDTH : Fld := ⟨0x2C0060, 10, 0⟩
-- LMB_DIAG_TIME, R388
abbrev LMB_DIAG_TIME_PROBE_MS : Fld := ⟨0x2C0064, 31, 16⟩
abbrev LMB_DIAG_TIME_ROUND_MS : Fld := ⟨0x2C0064, 15, 0⟩
-- LMB_DIAG_PARAM, R388
abbrev LMB_DIAG_PARAM_ROW_SETTLE : Fld := ⟨0x2C0068, 23, 16⟩
abbrev LMB_DIAG_PARAM_SPREAD : Fld := ⟨0x2C0068, 15, 0⟩
-- LMB_DIAG_OPEN, R388
abbrev LMB_DIAG_OPEN_LAMPS : Fld := ⟨0x2C006C, 19, 0⟩
-- LMB_DIAG_SHORT, R388
abbrev LMB_DIAG_SHORT_LAMPS : Fld := ⟨0x2C0070, 19, 0⟩
-- LMB_DIAG_MASKED, R388
abbrev LMB_DIAG_MASKED_LAMPS : Fld := ⟨0x2C0074, 19, 0⟩
-- LMB_DIAG_STAT, R388
abbrev LMB_DIAG_STAT_ROUND_BUSY : Fld := ⟨0x2C0078, 31, 31⟩
abbrev LMB_DIAG_STAT_PROBE_PASS : Fld := ⟨0x2C0078, 30, 30⟩
abbrev LMB_DIAG_STAT_ROUNDS : Fld := ⟨0x2C0078, 15, 0⟩
-- LMB_DIAG_SNAP_ID, R388
abbrev LMB_DIAG_SNAP_ID_ID : Fld := ⟨0x2C007C, 31, 0⟩
-- LMB_DIAG_SNAP_STAT, R388
abbrev LMB_DIAG_SNAP_STAT_DONE : Fld := ⟨0x2C0080, 31, 31⟩
abbrev LMB_DIAG_SNAP_STAT_REUSED : Fld := ⟨0x2C0080, 12, 0⟩
-- LMB_DIAG_EVT, R388
abbrev LMB_DIAG_EVT_CFG_REJ : Fld := ⟨0x2C0084, 6, 6⟩
abbrev LMB_DIAG_EVT_SNAP_DONE : Fld := ⟨0x2C0084, 5, 5⟩
abbrev LMB_DIAG_EVT_DIAG_LOST : Fld := ⟨0x2C0084, 4, 4⟩
abbrev LMB_DIAG_EVT_ROUND_SLIP : Fld := ⟨0x2C0084, 3, 3⟩
abbrev LMB_DIAG_EVT_LAMP_RECOVERED : Fld := ⟨0x2C0084, 2, 2⟩
abbrev LMB_DIAG_EVT_LAMP_SHORT : Fld := ⟨0x2C0084, 1, 1⟩
abbrev LMB_DIAG_EVT_LAMP_OPEN : Fld := ⟨0x2C0084, 0, 0⟩
-- LMB_DIAG_IRQ_EN, R388
abbrev LMB_DIAG_IRQ_EN_CFG_REJ : Fld := ⟨0x2C0088, 6, 6⟩
abbrev LMB_DIAG_IRQ_EN_SNAP_DONE : Fld := ⟨0x2C0088, 5, 5⟩
abbrev LMB_DIAG_IRQ_EN_DIAG_LOST : Fld := ⟨0x2C0088, 4, 4⟩
abbrev LMB_DIAG_IRQ_EN_ROUND_SLIP : Fld := ⟨0x2C0088, 3, 3⟩
abbrev LMB_DIAG_IRQ_EN_LAMP_RECOVERED : Fld := ⟨0x2C0088, 2, 2⟩
abbrev LMB_DIAG_IRQ_EN_LAMP_SHORT : Fld := ⟨0x2C0088, 1, 1⟩
abbrev LMB_DIAG_IRQ_EN_LAMP_OPEN : Fld := ⟨0x2C0088, 0, 0⟩
-- LMB_PORT_CTL, R368
abbrev LMB_PORT_CTL_EN (i : Nat) : Fld := ⟨0x2C0100 + 0x10 * i, 31, 31⟩
abbrev LMB_PORT_CTL_LINES (i : Nat) : Fld := ⟨0x2C0100 + 0x10 * i, 7, 0⟩
-- LMB_PORT_STAT, R368
abbrev LMB_PORT_STAT_VISOR (i : Nat) : Fld := ⟨0x2C0104 + 0x10 * i, 25, 16⟩
abbrev LMB_PORT_STAT_RTN_BUSY (i : Nat) : Fld := ⟨0x2C0104 + 0x10 * i, 2, 2⟩
abbrev LMB_PORT_STAT_UPLOAD_LATE (i : Nat) : Fld := ⟨0x2C0104 + 0x10 * i, 1, 1⟩
abbrev LMB_PORT_STAT_DARK (i : Nat) : Fld := ⟨0x2C0104 + 0x10 * i, 0, 0⟩
-- LMB_PORT_VISOR_CNT, R368
abbrev LMB_PORT_VISOR_CNT_MISMATCH_COUNT (i : Nat) : Fld := ⟨0x2C0108 + 0x10 * i, 31, 16⟩
abbrev LMB_PORT_VISOR_CNT_FIRST_VISIT (i : Nat) : Fld := ⟨0x2C0108 + 0x10 * i, 15, 0⟩
-- LMB_PORT_VISOR_FIRST, R368
abbrev LMB_PORT_VISOR_FIRST_PIN (i : Nat) : Fld := ⟨0x2C010C + 0x10 * i, 19, 16⟩
abbrev LMB_PORT_VISOR_FIRST_CYCLE (i : Nat) : Fld := ⟨0x2C010C + 0x10 * i, 15, 0⟩
-- LMB_CTX_CTL, R365
abbrev LMB_CTX_CTL_EN (i : Nat) : Fld := ⟨0x2D0000 + 0x20 * i, 31, 31⟩
abbrev LMB_CTX_CTL_CLASS (i : Nat) : Fld := ⟨0x2D0000 + 0x20 * i, 30, 29⟩
abbrev LMB_CTX_CTL_CH_M1 (i : Nat) : Fld := ⟨0x2D0000 + 0x20 * i, 28, 23⟩
abbrev LMB_CTX_CTL_BLK_M1 (i : Nat) : Fld := ⟨0x2D0000 + 0x20 * i, 22, 21⟩
abbrev LMB_CTX_CTL_ORDER (i : Nat) : Fld := ⟨0x2D0000 + 0x20 * i, 20, 20⟩
abbrev LMB_CTX_CTL_DIR_U (i : Nat) : Fld := ⟨0x2D0000 + 0x20 * i, 19, 19⟩
abbrev LMB_CTX_CTL_DIR_V (i : Nat) : Fld := ⟨0x2D0000 + 0x20 * i, 18, 18⟩
abbrev LMB_CTX_CTL_PX_M1 (i : Nat) : Fld := ⟨0x2D0000 + 0x20 * i, 17, 12⟩
-- LMB_CTX_ORIGIN, R365
abbrev LMB_CTX_ORIGIN_U0 (i : Nat) : Fld := ⟨0x2D0004 + 0x20 * i, 26, 16⟩
abbrev LMB_CTX_ORIGIN_V0 (i : Nat) : Fld := ⟨0x2D0004 + 0x20 * i, 10, 0⟩
-- LMB_CTX_GAIN, R365
abbrev LMB_CTX_GAIN_GAIN0 (i : Nat) : Fld := ⟨0x2D0008 + 0x20 * i, 31, 24⟩
abbrev LMB_CTX_GAIN_GAIN1 (i : Nat) : Fld := ⟨0x2D0008 + 0x20 * i, 23, 16⟩
abbrev LMB_CTX_GAIN_GAIN2 (i : Nat) : Fld := ⟨0x2D0008 + 0x20 * i, 15, 8⟩
abbrev LMB_CTX_GAIN_GAIN3 (i : Nat) : Fld := ⟨0x2D0008 + 0x20 * i, 7, 0⟩
-- LMB_CTX_STAT, R365
abbrev LMB_CTX_STAT_PRESENT (i : Nat) : Fld := ⟨0x2D0010 + 0x20 * i, 31, 31⟩
abbrev LMB_CTX_STAT_ABSENT (i : Nat) : Fld := ⟨0x2D0010 + 0x20 * i, 30, 30⟩
abbrev LMB_CTX_STAT_INIT_PENDING (i : Nat) : Fld := ⟨0x2D0010 + 0x20 * i, 29, 29⟩
abbrev LMB_CTX_STAT_STATUS (i : Nat) : Fld := ⟨0x2D0010 + 0x20 * i, 15, 0⟩
-- LMB_CTX_ECHO, R365
abbrev LMB_CTX_ECHO_EXPECT (i : Nat) : Fld := ⟨0x2D0014 + 0x20 * i, 31, 16⟩
abbrev LMB_CTX_ECHO_CHECK (i : Nat) : Fld := ⟨0x2D0014 + 0x20 * i, 15, 0⟩
-- LMB_CTX_CNT, R365
abbrev LMB_CTX_CNT_ECHO_ERR_COUNT (i : Nat) : Fld := ⟨0x2D0018 + 0x20 * i, 31, 16⟩
abbrev LMB_CTX_CNT_NO_ECHO_COUNT (i : Nat) : Fld := ⟨0x2D0018 + 0x20 * i, 15, 0⟩
-- DRC_CFG, R474
abbrev DRC_CFG_CH_MASK : Fld := ⟨0x300000, 31, 16⟩
abbrev DRC_CFG_DENSITY : Fld := ⟨0x300000, 15, 12⟩
abbrev DRC_CFG_RATE : Fld := ⟨0x300000, 11, 8⟩
abbrev DRC_CFG_MAP_ORDER : Fld := ⟨0x300000, 7, 6⟩
-- DRC_TOP, R474
abbrev DRC_TOP_TOP_MIB : Fld := ⟨0x300004, 15, 0⟩
-- DRC_CTL, R474
abbrev DRC_CTL_SR_EN : Fld := ⟨0x300008, 31, 31⟩
abbrev DRC_CTL_NR_K : Fld := ⟨0x300008, 27, 24⟩
abbrev DRC_CTL_RECAL_DT_C : Fld := ⟨0x300008, 23, 16⟩
abbrev DRC_CTL_SR_IDLE_US : Fld := ⟨0x300008, 15, 0⟩
-- DRC_STAT, R474
abbrev DRC_STAT_TRAINED : Fld := ⟨0x30000C, 31, 16⟩
abbrev DRC_STAT_IN_SR : Fld := ⟨0x30000C, 15, 0⟩
-- DRC_EVT, R474
abbrev DRC_EVT_RETRAIN_LATE : Fld := ⟨0x300010, 7, 7⟩
abbrev DRC_EVT_RECAL_REJ : Fld := ⟨0x300010, 6, 6⟩
abbrev DRC_EVT_TRAIN_FAIL : Fld := ⟨0x300010, 5, 5⟩
abbrev DRC_EVT_REF_FORCED : Fld := ⟨0x300010, 4, 4⟩
abbrev DRC_EVT_NR_URGENT : Fld := ⟨0x300010, 3, 3⟩
abbrev DRC_EVT_UE_LOST : Fld := ⟨0x300010, 2, 2⟩
abbrev DRC_EVT_UE : Fld := ⟨0x300010, 1, 1⟩
abbrev DRC_EVT_CE : Fld := ⟨0x300010, 0, 0⟩
-- DRC_IRQ_EN, R474
abbrev DRC_IRQ_EN_RETRAIN_LATE : Fld := ⟨0x300014, 7, 7⟩
abbrev DRC_IRQ_EN_RECAL_REJ : Fld := ⟨0x300014, 6, 6⟩
abbrev DRC_IRQ_EN_TRAIN_FAIL : Fld := ⟨0x300014, 5, 5⟩
abbrev DRC_IRQ_EN_REF_FORCED : Fld := ⟨0x300014, 4, 4⟩
abbrev DRC_IRQ_EN_NR_URGENT : Fld := ⟨0x300014, 3, 3⟩
abbrev DRC_IRQ_EN_UE_LOST : Fld := ⟨0x300014, 2, 2⟩
abbrev DRC_IRQ_EN_UE : Fld := ⟨0x300014, 1, 1⟩
abbrev DRC_IRQ_EN_CE : Fld := ⟨0x300014, 0, 0⟩
-- DRC_ECC_CNT, R474
abbrev DRC_ECC_CNT_CE_COUNT : Fld := ⟨0x300018, 31, 16⟩
abbrev DRC_ECC_CNT_UE_COUNT : Fld := ⟨0x300018, 15, 0⟩
-- DRC_UE_LOG_STAT, R474
abbrev DRC_UE_LOG_STAT_UE_LOST_COUNT : Fld := ⟨0x30001C, 31, 16⟩
abbrev DRC_UE_LOG_STAT_LEVEL : Fld := ⟨0x30001C, 6, 0⟩
-- DRC_UE_LOG_CLR, R474
abbrev DRC_UE_LOG_CLR_CLEAR : Fld := ⟨0x300020, 0, 0⟩
-- DRC_CH_STAT, R475
abbrev DRC_CH_STAT_STATE (i : Nat) : Fld := ⟨0x300100 + 0x20 * i, 31, 29⟩
abbrev DRC_CH_STAT_DEBT (i : Nat) : Fld := ⟨0x300100 + 0x20 * i, 28, 25⟩
abbrev DRC_CH_STAT_LAST_TEMP (i : Nat) : Fld := ⟨0x300100 + 0x20 * i, 15, 8⟩
-- DRC_CH_REF_CNT, R475
abbrev DRC_CH_REF_CNT_POSTPONED_COUNT (i : Nat) : Fld := ⟨0x300104 + 0x20 * i, 31, 16⟩
abbrev DRC_CH_REF_CNT_FORCED_COUNT (i : Nat) : Fld := ⟨0x300104 + 0x20 * i, 15, 0⟩
-- DRC_CH_NR_CNT, R475
abbrev DRC_CH_NR_CNT_NR_COUNT (i : Nat) : Fld := ⟨0x300108 + 0x20 * i, 31, 16⟩
abbrev DRC_CH_NR_CNT_NR_URGENT_COUNT (i : Nat) : Fld := ⟨0x300108 + 0x20 * i, 15, 0⟩
-- DRC_CH_EYE, R475
abbrev DRC_CH_EYE_EYE_W_MUI (i : Nat) : Fld := ⟨0x30010C + 0x20 * i, 31, 16⟩
abbrev DRC_CH_EYE_EYE_H_MV (i : Nat) : Fld := ⟨0x30010C + 0x20 * i, 15, 0⟩
-- DRC_CH_SKEW, R475
abbrev DRC_CH_SKEW_DQ_SKEW_PS (i : Nat) : Fld := ⟨0x300110 + 0x20 * i, 15, 0⟩
-- DRC_CH_TRAIN, R475
abbrev DRC_CH_TRAIN_RETRAIN_COUNT (i : Nat) : Fld := ⟨0x300114 + 0x20 * i, 31, 16⟩
abbrev DRC_CH_TRAIN_RECAL_REJ_COUNT (i : Nat) : Fld := ⟨0x300114 + 0x20 * i, 15, 0⟩
-- DRC_UE_LOG_W0, R476
abbrev DRC_UE_LOG_W0_ADDR_LO (i : Nat) : Fld := ⟨0x301000 + 0x10 * i, 31, 6⟩
abbrev DRC_UE_LOG_W0_ADDR_HI (i : Nat) : Fld := ⟨0x301000 + 0x10 * i, 3, 0⟩
-- DRC_UE_LOG_W1, R476
abbrev DRC_UE_LOG_W1_CHANNEL (i : Nat) : Fld := ⟨0x301004 + 0x10 * i, 31, 28⟩
abbrev DRC_UE_LOG_W1_BANK (i : Nat) : Fld := ⟨0x301004 + 0x10 * i, 27, 24⟩
abbrev DRC_UE_LOG_W1_ROW (i : Nat) : Fld := ⟨0x301004 + 0x10 * i, 23, 7⟩
abbrev DRC_UE_LOG_W1_COLUMN (i : Nat) : Fld := ⟨0x301004 + 0x10 * i, 6, 2⟩
-- DRC_UE_LOG_W2, R476
abbrev DRC_UE_LOG_W2_REQUESTER (i : Nat) : Fld := ⟨0x301008 + 0x10 * i, 31, 24⟩
abbrev DRC_UE_LOG_W2_WORDS (i : Nat) : Fld := ⟨0x301008 + 0x10 * i, 23, 16⟩
abbrev DRC_UE_LOG_W2_SEC (i : Nat) : Fld := ⟨0x301008 + 0x10 * i, 15, 0⟩
-- DRC_UE_LOG_W3, R476
abbrev DRC_UE_LOG_W3_NS (i : Nat) : Fld := ⟨0x30100C + 0x10 * i, 31, 0⟩
-- RED_CTL, R449
abbrev RED_CTL_PARTNER_EN : Fld := ⟨0x340000, 31, 31⟩
abbrev RED_CTL_PREFERRED : Fld := ⟨0x340000, 30, 30⟩
abbrev RED_CTL_NET_PATH : Fld := ⟨0x340000, 29, 28⟩
-- RED_PEER, R449
abbrev RED_PEER_IPV4 : Fld := ⟨0x340004, 31, 0⟩
-- RED_TMO, R449
abbrev RED_TMO_TAKEOVER_MS : Fld := ⟨0x340008, 31, 24⟩
abbrev RED_TMO_ALARM_MS : Fld := ⟨0x340008, 23, 16⟩
abbrev RED_TMO_GNT_DIFF_LIMIT : Fld := ⟨0x340008, 15, 8⟩
-- RED_STAT, R449
abbrev RED_STAT_ELIGIBLE : Fld := ⟨0x34000C, 31, 31⟩
abbrev RED_STAT_CHAIN_ALIVE : Fld := ⟨0x34000C, 30, 30⟩
abbrev RED_STAT_NET_ALIVE : Fld := ⟨0x34000C, 29, 29⟩
abbrev RED_STAT_PARTNER_PRESENT : Fld := ⟨0x34000C, 28, 28⟩
abbrev RED_STAT_WARM : Fld := ⟨0x34000C, 27, 27⟩
abbrev RED_STAT_RESTORING : Fld := ⟨0x34000C, 26, 26⟩
abbrev RED_STAT_STANDBY_FAULT : Fld := ⟨0x34000C, 25, 25⟩
abbrev RED_STAT_RANK : Fld := ⟨0x34000C, 0, 0⟩
-- RED_EVT, R449
abbrev RED_EVT_RESTORE_DONE : Fld := ⟨0x340010, 12, 12⟩
abbrev RED_EVT_GNT_DIFF : Fld := ⟨0x340010, 11, 11⟩
abbrev RED_EVT_STANDBY_FAULT_EVT : Fld := ⟨0x340010, 10, 10⟩
abbrev RED_EVT_SWAP_ABANDON : Fld := ⟨0x340010, 9, 9⟩
abbrev RED_EVT_SWAP_DONE : Fld := ⟨0x340010, 8, 8⟩
abbrev RED_EVT_SNAP_DONE : Fld := ⟨0x340010, 7, 7⟩
abbrev RED_EVT_REPL_RESYNC : Fld := ⟨0x340010, 6, 6⟩
abbrev RED_EVT_NO_TAKEOVER : Fld := ⟨0x340010, 5, 5⟩
abbrev RED_EVT_PARTNER_LOST : Fld := ⟨0x340010, 4, 4⟩
abbrev RED_EVT_NET_SILENT : Fld := ⟨0x340010, 3, 3⟩
abbrev RED_EVT_CHAIN_SILENT : Fld := ⟨0x340010, 2, 2⟩
abbrev RED_EVT_HANDOVER : Fld := ⟨0x340010, 1, 1⟩
abbrev RED_EVT_TAKEOVER : Fld := ⟨0x340010, 0, 0⟩
-- RED_IRQ_EN, R449
abbrev RED_IRQ_EN_RESTORE_DONE : Fld := ⟨0x340014, 12, 12⟩
abbrev RED_IRQ_EN_GNT_DIFF : Fld := ⟨0x340014, 11, 11⟩
abbrev RED_IRQ_EN_STANDBY_FAULT_EVT : Fld := ⟨0x340014, 10, 10⟩
abbrev RED_IRQ_EN_SWAP_ABANDON : Fld := ⟨0x340014, 9, 9⟩
abbrev RED_IRQ_EN_SWAP_DONE : Fld := ⟨0x340014, 8, 8⟩
abbrev RED_IRQ_EN_SNAP_DONE : Fld := ⟨0x340014, 7, 7⟩
abbrev RED_IRQ_EN_REPL_RESYNC : Fld := ⟨0x340014, 6, 6⟩
abbrev RED_IRQ_EN_NO_TAKEOVER : Fld := ⟨0x340014, 5, 5⟩
abbrev RED_IRQ_EN_PARTNER_LOST : Fld := ⟨0x340014, 4, 4⟩
abbrev RED_IRQ_EN_NET_SILENT : Fld := ⟨0x340014, 3, 3⟩
abbrev RED_IRQ_EN_CHAIN_SILENT : Fld := ⟨0x340014, 2, 2⟩
abbrev RED_IRQ_EN_HANDOVER : Fld := ⟨0x340014, 1, 1⟩
abbrev RED_IRQ_EN_TAKEOVER : Fld := ⟨0x340014, 0, 0⟩
-- RED_EPOCH, R449
abbrev RED_EPOCH_EPOCH : Fld := ⟨0x340018, 31, 0⟩
-- RED_HB_AGE, R449
abbrev RED_HB_AGE_CHAIN_100US : Fld := ⟨0x34001C, 31, 16⟩
abbrev RED_HB_AGE_NET_100US : Fld := ⟨0x34001C, 15, 0⟩
-- RED_POS_LO, R449
abbrev RED_POS_LO_POS : Fld := ⟨0x340020, 31, 0⟩
-- RED_POS_HI, R449
abbrev RED_POS_HI_POS : Fld := ⟨0x340024, 31, 0⟩
-- RED_ACK_LO, R449
abbrev RED_ACK_LO_POS : Fld := ⟨0x340028, 31, 0⟩
-- RED_ACK_HI, R449
abbrev RED_ACK_HI_POS : Fld := ⟨0x34002C, 31, 0⟩
-- RED_SNAP_CTL, R450
abbrev RED_SNAP_CTL_PERIOD_S : Fld := ⟨0x340030, 31, 16⟩
abbrev RED_SNAP_CTL_JOURNAL_MIB : Fld := ⟨0x340030, 15, 8⟩
abbrev RED_SNAP_CTL_RATE : Fld := ⟨0x340030, 7, 0⟩
-- RED_SNAP_STAT, R450
abbrev RED_SNAP_STAT_NEWEST_GEN : Fld := ⟨0x340034, 31, 16⟩
abbrev RED_SNAP_STAT_COPYING : Fld := ⟨0x340034, 3, 3⟩
abbrev RED_SNAP_STAT_NEWEST : Fld := ⟨0x340034, 2, 2⟩
abbrev RED_SNAP_STAT_COMPLETE : Fld := ⟨0x340034, 1, 0⟩
-- RED_SWAP_CTL, R450
abbrev RED_SWAP_CTL_PERIOD_H : Fld := ⟨0x340038, 31, 24⟩
abbrev RED_SWAP_CTL_WARM_FRAMES : Fld := ⟨0x340038, 23, 16⟩
-- RED_SWAP_STAT, R450
abbrev RED_SWAP_STAT_STATE : Fld := ⟨0x34003C, 31, 28⟩
abbrev RED_SWAP_STAT_RESULT : Fld := ⟨0x34003C, 27, 24⟩
abbrev RED_SWAP_STAT_AGREED : Fld := ⟨0x34003C, 23, 16⟩
abbrev RED_SWAP_STAT_MISMATCH_CHAINS : Fld := ⟨0x34003C, 15, 8⟩
-- RED_CNT0, R450
abbrev RED_CNT0_TAKEOVERS : Fld := ⟨0x340040, 31, 16⟩
abbrev RED_CNT0_SWAPS : Fld := ⟨0x340040, 15, 0⟩
-- RED_CNT1, R450
abbrev RED_CNT1_SWAP_FAIL_COUNT : Fld := ⟨0x340044, 31, 16⟩
abbrev RED_CNT1_GNT_DIFF_COUNT : Fld := ⟨0x340044, 15, 0⟩
-- RED_RESTORE, R450
abbrev RED_RESTORE_LAST_MS : Fld := ⟨0x340048, 31, 16⟩
abbrev RED_RESTORE_REPLAY_KIB : Fld := ⟨0x340048, 15, 0⟩

end Sys2Proof.Machine.F
end

