-- ==== Sys2Proof/Machine/RegMap.lean ====
section
/-! DEFINITION. The register map of the spec: every register, its copies, and every field with its access type, reset value and range. Generated once from the register tables of spec/ by a script that reads spec/ alone; a range is the one its Description column gives. -/

namespace Sys2Proof.Machine

/-- R12: the access type of a field. -/
inductive Access where
  | ro | rw | w1c | wo | rws
  deriving DecidableEq, Repr

/-- One field of a register: its bits, access type, reset value and the values it may hold
(R57, check 2: `min` to `max` less the values of `bad`). -/
structure FieldDef where
  hi : Nat
  lo : Nat
  acc : Access
  reset : Nat
  min : Nat
  max : Nat
  bad : List Nat
  deriving DecidableEq, Repr

/-- One register of a table: the address of its first copy, the counts and strides of its copies (the
widest stride first), the enable of the descriptor it belongs to (the address of the enable's first copy
and its bit), and its fields. -/
structure RegDef where
  base : Nat
  dims : List (Nat × Nat)
  enable : Option (Nat × Nat)
  fields : List FieldDef
  deriving DecidableEq, Repr

namespace Row
/-- A field that software only reads. -/
def ro (h l r : Nat) : FieldDef := ⟨h, l, .ro, r, 0, 2 ^ (h - l + 1) - 1, []⟩
/-- A field of type RW that may hold any value. -/
def rw (h l r : Nat) : FieldDef := ⟨h, l, .rw, r, 0, 2 ^ (h - l + 1) - 1, []⟩
/-- A field of type RWS that may hold any value. -/
def rws (h l r : Nat) : FieldDef := ⟨h, l, .rws, r, 0, 2 ^ (h - l + 1) - 1, []⟩
/-- A field that a written 1 clears. -/
def w1c (h l r : Nat) : FieldDef := ⟨h, l, .w1c, r, 0, 2 ^ (h - l + 1) - 1, []⟩
/-- A field that software only writes. -/
def wo (h l r : Nat) : FieldDef := ⟨h, l, .wo, r, 0, 2 ^ (h - l + 1) - 1, []⟩
/-- A field of type RW with a range. -/
def rwR (h l r a b : Nat) (x : List Nat) : FieldDef := ⟨h, l, .rw, r, a, b, x⟩
/-- A field of type RWS with a range. -/
def rwsR (h l r a b : Nat) (x : List Nat) : FieldDef := ⟨h, l, .rws, r, a, b, x⟩
end Row

open Row

/-- Registers of the SYS block, part 1. -/
def sysRegs0 : List RegDef :=
  [
   -- SYS_DEVICE_ID, R8
   ⟨0x0, [], none, [ro 31 0 2535456945]⟩,
   -- SYS_STRAP, R26
   ⟨0x4, [], none, [ro 7 7 0, ro 3 3 0, ro 2 2 0, ro 1 0 0]⟩,
   -- SYS_MODE, R35
   ⟨0x8, [], none, [ro 31 24 0, ro 23 16 0, ro 10 8 0, ro 2 0 0]⟩,
   -- SYS_BOOT_STAT, R502
   ⟨0x100, [], none, [ro 31 24 0, ro 23 22 0, ro 21 21 0, ro 20 20 0, ro 19 19 0, ro 18 18 0, ro 17 17 0, ro 16 15 3, ro 9 8 0, ro 7 0 0]⟩,
   -- SYS_FW_VER, R502
   ⟨0x104, [], none, [ro 31 0 0]⟩,
   -- SYS_FW_STAGED, R502
   ⟨0x108, [], none, [ro 31 0 0]⟩,
   -- SYS_SLOT_STAT, R502
   ⟨0x10C, [], none, [ro 7 4 0, ro 3 0 0]⟩,
   -- SYS_SCHEMA, R502
   ⟨0x110, [], none, [ro 31 16 0, ro 15 0 0]⟩,
   -- SYS_FW_PUSH, R502
   ⟨0x114, [], none, [rw 31 31 1, ro 23 16 0, rwR 15 0 1000 10 10000 []]⟩,
   -- SYS_BOOT_EVT, R502
   ⟨0x118, [], none, [w1c 6 6 0, w1c 5 5 0, w1c 4 4 0, w1c 3 3 0, w1c 2 2 0, w1c 1 1 0, w1c 0 0 0]⟩,
   -- SYS_BOOT_IRQ_EN, R502
   ⟨0x11C, [], none, [rw 6 6 0, rw 5 5 0, rw 4 4 0, rw 3 3 0, rw 2 2 0, rw 1 1 0, rw 0 0 0]⟩,
   -- SYS_CUFF, R78
   ⟨0x200, [], none, [rwsR 10 0 500 100 2000 []]⟩,
   -- SYS_FLIP_EVT, R79
   ⟨0x204, [], none, [w1c 7 7 0, w1c 6 6 0, w1c 5 5 0, w1c 4 4 0, w1c 3 3 0, w1c 2 2 0, w1c 1 1 0, w1c 0 0 0]⟩,
   -- SYS_FLIP_IRQ_EN, R79
   ⟨0x208, [], none, [rw 7 7 0, rw 6 6 0, rw 5 5 0, rw 4 4 0, rw 3 3 0, rw 2 2 0, rw 1 1 0, rw 0 0 0]⟩,
   -- SYS_FLIP_CNT, R80
   ⟨0x20C, [], none, [ro 31 16 0, ro 15 0 0]⟩,
   -- SYS_COMPAT, R81
   ⟨0x210, [], none, [rw 0 0 0]⟩,
   -- SYS_FENCE_TMO, R82
   ⟨0x214, [], none, [rws 19 0 50000]⟩,
   -- SYS_TXN_STAT, R83
   ⟨0x220, [(2, 0x10)], none, [ro 31 31 0, ro 30 30 0, ro 28 16 0, ro 14 0 0]⟩,
   -- SYS_TXN_OPEN_SEQ, R83
   ⟨0x224, [(2, 0x10)], none, [ro 31 0 0]⟩,
   -- SYS_TXN_LAST_SEQ, R83
   ⟨0x228, [(2, 0x10)], none, [ro 31 0 0]⟩]

/-- Registers of the SYS block, part 2. -/
def sysRegs1 : List RegDef :=
  [
   -- SYS_TXN_LAST_RES, R83
   ⟨0x22C, [(2, 0x10)], none, [ro 31 16 0, ro 15 15 0, ro 14 14 0, ro 12 0 0]⟩,
   -- SYS_FENCE_WAIT, R84
   ⟨0x240, [(4, 0x4)], none, [ro 31 0 0]⟩,
   -- SYS_CMD_STAT, R526
   ⟨0x300, [], none, [ro 31 31 0, ro 30 30 0, ro 29 26 9, ro 25 21 0, ro 20 16 0]⟩,
   -- SYS_CMD_EVT, R526
   ⟨0x304, [], none, [w1c 5 5 0, w1c 4 4 0, w1c 3 3 0, w1c 2 2 0, w1c 1 1 0, w1c 0 0 0]⟩,
   -- SYS_CMD_IRQ_EN, R526
   ⟨0x308, [], none, [rw 5 5 0, rw 4 4 0, rw 3 3 0, rw 2 2 0, rw 1 1 0, rw 0 0 0]⟩,
   -- SYS_CMD_CNT0, R526
   ⟨0x30C, [], none, [ro 31 16 0, ro 15 0 0]⟩,
   -- SYS_CMD_CNT1, R526
   ⟨0x310, [], none, [ro 31 16 0, ro 15 0 0]⟩,
   -- SYS_ACT_SEQ_GEN, R526
   ⟨0x314, [], none, [ro 31 0 0]⟩,
   -- SYS_ACT_SEQ_GNT, R526
   ⟨0x318, [], none, [ro 31 0 0]⟩,
   -- SYS_COMM_GEN, R526
   ⟨0x31C, [], none, [ro 31 0 0]⟩,
   -- SYS_IRQ_SUM, R526
   ⟨0x320, [], none, [ro 19 19 0, ro 18 18 0, ro 17 17 0, ro 16 16 0, ro 15 15 0, ro 14 14 0, ro 13 13 0, ro 12 12 0, ro 11 11 0, ro 10 10 0, ro 9 9 0, ro 8 8 0, ro 7 7 0, ro 6 6 0, ro 5 5 0, ro 4 4 0, ro 3 3 0, ro 2 2 0, ro 1 1 0, ro 0 0 0]⟩,
   -- SYS_ALARM_EN, R526
   ⟨0x324, [], none, [rw 31 31 1, rw 30 30 1, rw 19 0 0]⟩,
   -- SYS_ALARM_STAT, R526
   ⟨0x328, [], none, [ro 2 0 0]⟩,
   -- SYS_FENCE_VAL, R84
   ⟨0x400, [(128, 0x4)], none, [ro 31 0 0]⟩]

/-- Registers of the RST block. -/
def rstRegs : List RegDef :=
  [
   -- RST_CTL, R562
   ⟨0x10000, [], none, [rw 1 1 1, rw 0 0 1]⟩,
   -- RST_STAT, R562
   ⟨0x10004, [], none, [ro 17 16 0, ro 4 0 0]⟩,
   -- RST_CAUSE, R562
   ⟨0x10008, [], none, [w1c 13 0 1]⟩,
   -- RST_MAP, R562
   ⟨0x1000C, [], none, [ro 27 0 0]⟩,
   -- RST_EVT, R562
   ⟨0x10010, [], none, [w1c 2 2 0, w1c 1 1 0, w1c 0 0 0]⟩,
   -- RST_IRQ_EN, R562
   ⟨0x10014, [], none, [rw 2 2 0, rw 1 1 0, rw 0 0 0]⟩,
   -- RST_BLK_REQ, R562
   ⟨0x10018, [], none, [wo 7 0 0]⟩,
   -- RST_BLK_STAT, R562
   ⟨0x1001C, [], none, [ro 23 16 0, ro 15 8 0, ro 7 0 0]⟩,
   -- RST_CNT, R562
   ⟨0x10020, [], none, [ro 31 16 0, ro 15 0 0]⟩]

/-- Registers of the CLK block. -/
def clkRegs : List RegDef :=
  [
   -- CLK_STAT, R563
   ⟨0x20000, [], none, [ro 8 8 0, ro 7 7 0, ro 6 6 0, ro 5 5 0, ro 4 4 0, ro 3 3 0, ro 2 2 0, ro 1 1 0, ro 0 0 0]⟩,
   -- CLK_EVT, R563
   ⟨0x20004, [], none, [w1c 5 5 0, w1c 4 4 0, w1c 3 3 0, w1c 2 2 0, w1c 1 1 0, w1c 0 0 0]⟩,
   -- CLK_IRQ_EN, R563
   ⟨0x20008, [], none, [rw 5 5 0, rw 4 4 0, rw 3 3 0, rw 2 2 0, rw 1 1 0, rw 0 0 0]⟩,
   -- CLK_THROTTLE, R563
   ⟨0x2000C, [], none, [ro 5 4 0, ro 1 0 0]⟩]

/-- Registers of the THM block. -/
def thmRegs : List RegDef :=
  [
   -- THM_THRESH, R564
   ⟨0x30000, [], none, [rwsR 31 24 120 100 125 [], rwsR 23 16 105 70 115 [], rwsR 15 8 95 60 110 [], rwsR 3 0 5 1 15 []]⟩,
   -- THM_STAT, R564
   ⟨0x30004, [], none, [ro 31 24 0, ro 23 20 0, ro 19 16 0, ro 3 3 0, ro 2 2 0, ro 1 1 0, ro 0 0 0]⟩,
   -- THM_EVT, R564
   ⟨0x30008, [], none, [w1c 9 9 0, w1c 8 8 0, w1c 7 7 0, w1c 6 6 0, w1c 5 5 0, w1c 4 4 0, w1c 3 3 0, w1c 2 2 0, w1c 1 1 0, w1c 0 0 0]⟩,
   -- THM_IRQ_EN, R564
   ⟨0x3000C, [], none, [rw 9 9 0, rw 8 8 0, rw 7 7 0, rw 6 6 0, rw 5 5 0, rw 4 4 0, rw 3 3 0, rw 2 2 0, rw 1 1 0, rw 0 0 0]⟩,
   -- THM_THROTTLE_CTL, R564
   ⟨0x30010, [], none, [rwsR 31 16 100 10 10000 [], rws 2 2 1, rws 1 1 1, rws 0 0 1]⟩,
   -- THM_AC_CTL, R564
   ⟨0x30014, [], none, [rwsR 31 24 5 1 255 [], rws 23 16 20, rwsR 15 8 10 1 255 []]⟩,
   -- THM_AC_GAIN, R564
   ⟨0x30018, [], none, [rwsR 15 0 8192 0 32768 []]⟩,
   -- THM_SUPV_CTL, R564
   ⟨0x3001C, [], none, [rws 31 16 512, ro 15 0 32768]⟩,
   -- THM_DIE, R565
   ⟨0x30100, [(12, 0x4)], none, [ro 16 16 0, ro 15 0 0]⟩,
   -- THM_TEMP_CFG, R565
   ⟨0x30200, [(16, 0x10)], some (0x30200, 31), [rws 31 31 0, rws 30 30 0, rwsR 29 16 3950 1000 16383 [], rws 15 0 1000]⟩,
   -- THM_TEMP_DIODE, R565
   ⟨0x30204, [(16, 0x10)], some (0x30200, 31), [rws 31 16 16452, rws 15 0 0]⟩,
   -- THM_TEMP_STAT, R565
   ⟨0x30208, [(16, 0x10)], some (0x30200, 31), [ro 17 17 1, ro 16 16 0, ro 15 0 0]⟩,
   -- THM_SUPV_CFG, R566
   ⟨0x30400, [(8, 0x10)], some (0x30400, 31), [rws 31 31 0, rws 15 0 256]⟩,
   -- THM_SUPV_LEVELS, R566
   ⟨0x30404, [(8, 0x10)], some (0x30400, 31), [rws 31 16 4000, rws 15 0 3600]⟩,
   -- THM_SUPV_MAX, R566
   ⟨0x30408, [(8, 0x10)], some (0x30400, 31), [rws 31 16 5000, ro 15 0 0]⟩,
   -- THM_SUPV_STAT, R566
   ⟨0x3040C, [(8, 0x10)], none, [ro 31 16 0, ro 15 0 32768]⟩]

/-- Registers of the FUS block. -/
def fusRegs : List RegDef :=
  [
   -- FUS_STAT, R503
   ⟨0x40000, [], none, [ro 15 8 0, ro 1 0 0]⟩,
   -- FUS_PERM, R503
   ⟨0x40004, [], none, [ro 2 2 0, ro 1 0 0]⟩,
   -- FUS_ROLLBACK, R503
   ⟨0x40008, [], none, [ro 6 0 0]⟩,
   -- FUS_UID_LO, R503
   ⟨0x40010, [], none, [ro 31 0 0]⟩,
   -- FUS_UID_HI, R503
   ⟨0x40014, [], none, [ro 31 0 0]⟩,
   -- FUS_MAC_LO, R503
   ⟨0x40018, [], none, [ro 31 0 0]⟩,
   -- FUS_MAC_HI, R503
   ⟨0x4001C, [], none, [ro 15 0 0]⟩]

/-- Registers of the CHK block. -/
def chkRegs : List RegDef :=
  [
   -- CHK_EVT, R537
   ⟨0x80000, [], none, [w1c 8 8 0, ro 7 0 0]⟩,
   -- CHK_IRQ_EN, R537
   ⟨0x80004, [], none, [rw 8 8 0]⟩,
   -- CHK_DED_STAT, R537
   ⟨0x80008, [], none, [ro 3 3 0, ro 2 2 0, ro 1 1 0, ro 0 0 0]⟩,
   -- CHK_U_CFG, R538
   ⟨0x80100, [(8, 0x40)], none, [rw 31 31 0, rw 30 30 0, rw 29 29 0, rw 28 28 0, rw 27 26 3, rw 25 24 0, rwR 16 12 0 0 16 [1, 2, 3], rwR 6 0 32 8 64 []]⟩,
   -- CHK_U_POLY_LO, R538
   ⟨0x80104, [(8, 0x40)], none, [rw 31 0 517762881]⟩,
   -- CHK_U_POLY_HI, R538
   ⟨0x80108, [(8, 0x40)], none, [rw 31 0 0]⟩,
   -- CHK_U_INIT_LO, R538
   ⟨0x8010C, [(8, 0x40)], none, [rw 31 0 4294967295]⟩,
   -- CHK_U_INIT_HI, R538
   ⟨0x80110, [(8, 0x40)], none, [rw 31 0 0]⟩,
   -- CHK_U_EXP_LO, R538
   ⟨0x80114, [(8, 0x40)], none, [rw 31 0 0]⟩,
   -- CHK_U_EXP_HI, R538
   ⟨0x80118, [(8, 0x40)], none, [rw 31 0 0]⟩,
   -- CHK_U_DATA, R538
   ⟨0x8011C, [(8, 0x40)], none, [wo 31 0 0]⟩,
   -- CHK_U_OP, R538
   ⟨0x80120, [(8, 0x40)], none, [wo 31 28 0, wo 15 0 0]⟩,
   -- CHK_U_RES_LO, R538
   ⟨0x80124, [(8, 0x40)], none, [ro 31 0 0]⟩,
   -- CHK_U_RES_HI, R538
   ⟨0x80128, [(8, 0x40)], none, [ro 31 0 0]⟩,
   -- CHK_U_STAT, R538
   ⟨0x8012C, [(8, 0x40)], none, [ro 31 31 0, ro 30 30 0, ro 29 27 0, ro 15 0 0]⟩,
   -- CHK_U_EVT, R538
   ⟨0x80130, [(8, 0x40)], none, [w1c 5 5 0, w1c 4 4 0, w1c 3 3 0, w1c 2 2 0, w1c 1 1 0, w1c 0 0 0]⟩,
   -- CHK_U_IRQ_EN, R538
   ⟨0x80134, [(8, 0x40)], none, [rw 5 5 0, rw 4 4 0, rw 3 3 0, rw 2 2 0, rw 1 1 0, rw 0 0 0]⟩,
   -- CHK_U_CNT, R538
   ⟨0x80138, [(8, 0x40)], none, [ro 31 16 0, ro 15 0 0]⟩]

/-- Registers of the SDI block, part 1. -/
def sdiRegs0 : List RegDef :=
  [
   -- SDI_WORKSPACE, R115
   ⟨0x100000, [], none, [rws 24 24 1, rwsR 23 14 203 48 1000 [], rwsR 13 0 1000 100 10000 []]⟩,
   -- SDI_BUDGET, R115
   ⟨0x100004, [], none, [ro 15 0 0]⟩,
   -- SDI_RX_DISC, R115
   ⟨0x100008, [], none, [ro 31 16 0, ro 15 0 0]⟩,
   -- SDI_PHY_STAT, R116
   ⟨0x100010, [(8, 0x4)], none, [w1c 11 11 0, w1c 10 10 0, ro 9 9 0, ro 8 8 0, ro 3 0 0]⟩,
   -- SDI_SRC_CTL, R117
   ⟨0x100100, [(16, 0x40)], some (0x100100, 31), [rws 31 31 0, rws 30 30 0, rws 26 24 0, rwsR 23 21 3 2 4 [], rwsR 20 19 0 0 2 [], rws 18 18 0, rws 15 0 1000]⟩,
   -- SDI_SRC_RASTER, R117
   ⟨0x100104, [(16, 0x40)], some (0x100100, 31), [rwsR 28 16 1920 16 4096 [], rwsR 12 0 1080 16 2160 []]⟩,
   -- SDI_SRC_CODING, R117
   ⟨0x100108, [(16, 0x40)], some (0x100100, 31), [rwsR 31 24 60 1 60 [], rws 20 20 0, rwsR 19 18 0 0 2 [], rwsR 17 16 1 0 2 [], rws 15 15 0, rwsR 11 8 0 0 7 [3], rws 4 4 0, ro 1 0 0]⟩,
   -- SDI_SRC_LOSS, R117
   ⟨0x10010C, [(16, 0x40)], some (0x100100, 31), [rwsR 9 0 100 10 1000 []]⟩,
   -- SDI_SRC_BASE_LO, R117
   ⟨0x100110, [(16, 0x40)], some (0x100100, 31), [rws 31 12 0]⟩,
   -- SDI_SRC_BASE_HI, R117
   ⟨0x100114, [(16, 0x40)], some (0x100100, 31), [rws 3 0 0]⟩,
   -- SDI_SRC_PITCH, R117
   ⟨0x100118, [(16, 0x40)], some (0x100100, 31), [rwsR 10 0 120 1 1024 []]⟩,
   -- SDI_SRC_FLOW_DST, R117
   ⟨0x10011C, [(16, 0x40)], some (0x100100, 31), [rws 31 0 0]⟩,
   -- SDI_SRC_FLOW_PORT, R117
   ⟨0x100120, [(16, 0x40)], some (0x100100, 31), [rws 31 31 0, rws 30 30 0, rwsR 29 23 96 96 127 [], rws 15 0 0]⟩,
   -- SDI_SRC_FLOW_SRC, R117
   ⟨0x100124, [(16, 0x40)], some (0x100100, 31), [rws 31 0 0]⟩,
   -- SDI_SRC_CNT, R117
   ⟨0x100128, [(16, 0x40)], some (0x100100, 31), [ro 31 16 0, ro 15 0 0]⟩,
   -- SDI_SRC_IRQ_EN, R117
   ⟨0x10012C, [(16, 0x40)], some (0x100100, 31), [rw 7 7 0, rw 6 6 0, rw 5 5 0, rw 4 4 0, rw 3 3 0, rw 2 2 0, rw 1 1 0, rw 0 0 0]⟩,
   -- SDI_SRC_STAT, R117
   ⟨0x100130, [(16, 0x40)], some (0x100100, 31), [ro 10 8 0, ro 7 7 0, ro 5 4 0, ro 1 0 0]⟩,
   -- SDI_SRC_DET_RASTER, R117
   ⟨0x100134, [(16, 0x40)], some (0x100100, 31), [ro 28 16 0, ro 12 0 0]⟩,
   -- SDI_SRC_DET_CODING, R117
   ⟨0x100138, [(16, 0x40)], some (0x100100, 31), [ro 31 24 0, ro 20 20 0, ro 19 18 0, ro 17 16 0, ro 15 15 0, ro 11 8 0, ro 4 4 0, ro 1 0 0]⟩,
   -- SDI_SRC_EVT, R117
   ⟨0x10013C, [(16, 0x40)], some (0x100100, 31), [w1c 7 7 0, w1c 6 6 0, w1c 5 5 0, w1c 4 4 0, w1c 3 3 0, w1c 2 2 0, w1c 1 1 0, w1c 0 0 0]⟩]

/-- Registers of the SDI block, part 2. -/
def sdiRegs1 : List RegDef :=
  [
   -- SDI_LUT, R114
   ⟨0x108000, [(4, 0x2000), (2048, 0x4)], none, [rws 31 16 0, rws 15 0 0]⟩]

/-- Registers of the NET block, part 1. -/
def netRegs0 : List RegDef :=
  [
   -- NET_CTL, R137
   ⟨0x110000, [(2, 0x10000)], none, [rws 31 31 0, rws 30 30 0, rws 27 24 15, rws 17 17 0, rws 16 16 1, rw 4 0 4]⟩,
   -- NET_STAT, R138
   ⟨0x110004, [(2, 0x10000)], none, [ro 20 16 4, ro 11 8 0, ro 7 4 0, ro 3 0 0]⟩,
   -- NET_EVT, R138
   ⟨0x110008, [(2, 0x10000)], none, [w1c 15 15 0, w1c 14 14 0, w1c 13 13 0, w1c 12 12 0, w1c 11 11 0, w1c 10 10 0, w1c 9 9 0, w1c 8 8 0, w1c 7 7 0, w1c 6 6 0, w1c 5 5 0, w1c 4 4 0, w1c 3 3 0, w1c 2 2 0, w1c 1 1 0, w1c 0 0 0]⟩,
   -- NET_IRQ_EN, R138
   ⟨0x11000C, [(2, 0x10000)], none, [rw 15 15 0, rw 14 14 0, rw 13 13 0, rw 12 12 0, rw 11 11 0, rw 10 10 0, rw 9 9 0, rw 8 8 0, rw 7 7 0, rw 6 6 0, rw 5 5 0, rw 4 4 0, rw 3 3 0, rw 2 2 0, rw 1 1 0, rw 0 0 0]⟩,
   -- NET_MAC_LO, R139
   ⟨0x110010, [(2, 0x10000)], none, [rws 31 0 0]⟩,
   -- NET_MAC_HI, R139
   ⟨0x110014, [(2, 0x10000)], none, [rws 15 0 0]⟩,
   -- NET_IPV4_ADDR, R139
   ⟨0x110018, [(2, 0x10000)], none, [rws 31 0 0]⟩,
   -- NET_IPV4_PREFIX, R139
   ⟨0x11001C, [(2, 0x10000)], none, [rwsR 5 0 24 0 32 []]⟩,
   -- NET_IPV4_GW, R139
   ⟨0x110020, [(2, 0x10000)], none, [rws 31 0 0]⟩,
   -- NET_VLAN, R139
   ⟨0x110024, [(2, 0x10000)], none, [rws 15 13 0, rwsR 11 0 1 1 4094 []]⟩,
   -- NET_UDP, R139
   ⟨0x110028, [(2, 0x10000)], none, [rwsR 31 16 48720 1 65535 [], rwsR 15 0 48721 1 65535 [319, 320]]⟩,
   -- NET_TS_STAT, R139
   ⟨0x11002C, [(2, 0x10000)], none, [ro 31 16 0, ro 6 0 0]⟩,
   -- NET_TS_ADJ, R139
   ⟨0x110030, [(2, 0x10000)], none, [rws 31 16 0, rws 15 0 0]⟩,
   -- NET_FLT_LO, R139
   ⟨0x110100, [(2, 0x10000), (32, 0x8)], none, [ro 31 0 0]⟩,
   -- NET_FLT_HI, R139
   ⟨0x110104, [(2, 0x10000), (32, 0x8)], none, [ro 31 31 0, ro 15 0 0]⟩,
   -- NET_MON_CTL, R140
   ⟨0x110200, [(2, 0x10000), (2, 0x20)], some (0x110200, 31), [rws 31 31 0, rwsR 30 24 96 96 127 [], rws 23 18 34, rwsR 15 8 64 1 255 []]⟩,
   -- NET_MON_DST, R140
   ⟨0x110204, [(2, 0x10000), (2, 0x20)], some (0x110200, 31), [rws 31 0 0]⟩,
   -- NET_MON_PORTS, R140
   ⟨0x110208, [(2, 0x10000), (2, 0x20)], some (0x110200, 31), [rws 31 16 0, rws 15 0 0]⟩,
   -- NET_MON_SSRC, R140
   ⟨0x11020C, [(2, 0x10000), (2, 0x20)], some (0x110200, 31), [rws 31 0 0]⟩,
   -- NET_MON_PKT, R140
   ⟨0x110210, [(2, 0x10000), (2, 0x20)], some (0x110200, 31), [rwsR 13 0 1200 200 8960 []]⟩]

/-- Registers of the NET block, part 2. -/
def netRegs1 : List RegDef :=
  [
   -- NET_MON_CNT, R140
   ⟨0x110214, [(2, 0x10000), (2, 0x20)], some (0x110200, 31), [ro 31 0 0]⟩]

/-- Registers of the PTP block, part 1. -/
def ptpRegs0 : List RegDef :=
  [
   -- PTP_CTL, R414
   ⟨0x140000, [], none, [rwsR 31 30 0 0 2 [], rws 29 28 0, rws 23 16 60, rws 15 15 0]⟩,
   -- PTP_STAT, R414
   ⟨0x140004, [], none, [ro 28 28 0, ro 27 27 0, ro 26 26 0, ro 25 24 3, ro 18 16 0, ro 7 0 0]⟩,
   -- PTP_EVT, R414
   ⟨0x140008, [], none, [w1c 9 9 0, w1c 8 8 0, w1c 7 7 0, w1c 6 6 0, w1c 5 5 0, w1c 4 4 0, w1c 3 3 0, w1c 2 2 0, w1c 1 1 0, w1c 0 0 0]⟩,
   -- PTP_IRQ_EN, R414
   ⟨0x14000C, [], none, [rw 9 9 0, rw 8 8 0, rw 7 7 0, rw 6 6 0, rw 5 5 0, rw 4 4 0, rw 3 3 0, rw 2 2 0, rw 1 1 0, rw 0 0 0]⟩,
   -- PTP_SERVO, R414
   ⟨0x140010, [], none, [rwsR 31 16 1000 10 10000 [], rwsR 15 8 20 1 255 []]⟩,
   -- PTP_RATE, R414
   ⟨0x140014, [], none, [ro 31 0 0]⟩,
   -- PTP_CAP, R414
   ⟨0x140018, [], none, [wo 0 0 0]⟩,
   -- PTP_CAP_SEC_HI, R414
   ⟨0x14001C, [], none, [ro 31 0 0]⟩,
   -- PTP_CAP_SEC_LO, R414
   ⟨0x140020, [], none, [ro 31 0 0]⟩,
   -- PTP_CAP_NS, R414
   ⟨0x140024, [], none, [ro 29 0 0]⟩,
   -- PTP_CAP_FRAC, R414
   ⟨0x140028, [], none, [ro 15 0 0]⟩,
   -- PTP_SCHED, R414
   ⟨0x14002C, [], none, [ro 31 16 0, ro 9 0 0]⟩,
   -- PTP_REF_SEC_HI, R414
   ⟨0x140030, [], none, [rws 15 0 0]⟩,
   -- PTP_REF_SEC_LO, R414
   ⟨0x140034, [], none, [rws 31 0 0]⟩,
   -- PTP_DOM_CFG, R415
   ⟨0x140100, [(2, 0x40)], none, [rws 31 31 0, rws 30 30 0, rwsR 27 24 3 2 10 [], rws 23 16 7, rwsR 7 0 0 0 127 []]⟩,
   -- PTP_DOM_STAT, R415
   ⟨0x140104, [(2, 0x40)], none, [ro 31 31 0, ro 30 30 0, ro 29 29 0, ro 28 28 0, ro 23 16 0]⟩,
   -- PTP_DOM_OFFSET, R415
   ⟨0x140108, [(2, 0x40)], none, [ro 31 0 0]⟩,
   -- PTP_DOM_DELAY, R415
   ⟨0x14010C, [(2, 0x40)], none, [ro 31 0 0]⟩,
   -- PTP_DOM_GM_HI, R415
   ⟨0x140110, [(2, 0x40)], none, [ro 31 0 0]⟩,
   -- PTP_DOM_GM_LO, R415
   ⟨0x140114, [(2, 0x40)], none, [ro 31 0 0]⟩]

/-- Registers of the PTP block, part 2. -/
def ptpRegs1 : List RegDef :=
  [
   -- PTP_DOM_GM_Q, R415
   ⟨0x140118, [(2, 0x40)], none, [ro 31 24 0, ro 23 16 0, ro 15 0 0]⟩,
   -- PTP_DOM_UTC, R415
   ⟨0x14011C, [(2, 0x40)], none, [ro 31 31 0, ro 30 30 0, ro 29 29 0, ro 15 0 0]⟩,
   -- PTP_DOM_CNT, R415
   ⟨0x140120, [(2, 0x40)], none, [ro 31 16 0, ro 15 0 0]⟩,
   -- PTP_EVT_CTL, R416
   ⟨0x140200, [(8, 0x20)], some (0x140200, 31), [rws 31 31 0, rws 30 28 0, rws 27 27 0, rws 26 26 0, rws 25 23 0]⟩,
   -- PTP_EVT_START_SEC_HI, R416
   ⟨0x140204, [(8, 0x20)], some (0x140200, 31), [rws 15 0 0]⟩,
   -- PTP_EVT_START_SEC_LO, R416
   ⟨0x140208, [(8, 0x20)], some (0x140200, 31), [rws 31 0 0]⟩,
   -- PTP_EVT_START_NS, R416
   ⟨0x14020C, [(8, 0x20)], some (0x140200, 31), [rwsR 29 0 0 0 999999999 []]⟩,
   -- PTP_EVT_WIDTH, R416
   ⟨0x140210, [(8, 0x20)], some (0x140200, 31), [rws 31 0 1000]⟩,
   -- PTP_EVT_RATE, R416
   ⟨0x140214, [(8, 0x20)], some (0x140200, 31), [rws 31 12 60, rws 11 0 1]⟩,
   -- PTP_EVT_ADJ, R416
   ⟨0x140218, [(8, 0x20)], some (0x140200, 31), [rws 15 0 0]⟩,
   -- PTP_EVT_CNT, R416
   ⟨0x14021C, [(8, 0x20)], some (0x140200, 31), [ro 31 0 0]⟩]

/-- Registers of the CMP block, part 1. -/
def cmpRegs0 : List RegDef :=
  [
   -- CMP_STAT, R174
   ⟨0x180000, [], none, [ro 16 16 0, ro 10 8 0]⟩,
   -- CMP_EVT, R174
   ⟨0x180004, [], none, [w1c 6 6 0, w1c 5 5 0, w1c 4 4 0, w1c 3 3 0, w1c 2 2 0, w1c 1 1 0, w1c 0 0 0]⟩,
   -- CMP_IRQ_EN, R174
   ⟨0x180008, [], none, [rw 6 6 0, rw 5 5 0, rw 4 4 0, rw 3 3 0, rw 2 2 0, rw 1 1 0, rw 0 0 0]⟩,
   -- CMP_BUDGET, R174
   ⟨0x18000C, [], none, [ro 17 0 0]⟩,
   -- CMP_STALL_CNT, R174
   ⟨0x180010, [], none, [ro 31 0 0]⟩,
   -- CMP_FILL_CNT, R174
   ⟨0x180014, [], none, [ro 31 16 0]⟩,
   -- CMP_LINEBUF_EVT, R174
   ⟨0x180018, [], none, [w1c 15 0 0]⟩,
   -- CMP_RENDER, R174
   ⟨0x18001C, [], none, [ro 31 0 0]⟩,
   -- CMP_CANVAS, R211
   ⟨0x180020, [], none, [rwsR 31 16 1920 16 65535 [], rwsR 15 0 1080 16 65535 []]⟩,
   -- CMP_FLIP_RATE, R211
   ⟨0x180024, [], none, [rwsR 31 12 60 1 1048575 [], rwsR 11 0 1 1 4095 []]⟩,
   -- CMP_FLIP_OFFSET, R211
   ⟨0x180028, [], none, [rws 31 0 0]⟩,
   -- CMP_FLIP_SEQ_CTL, R211
   ⟨0x18002C, [], none, [rwsR 4 0 1 1 16 []]⟩,
   -- CMP_FLIP_SEQ0, R211
   ⟨0x180030, [], none, [rws 31 0 0]⟩,
   -- CMP_FLIP_SEQ1, R211
   ⟨0x180034, [], none, [rws 31 0 0]⟩,
   -- CMP_SCAN_MARGIN, R211
   ⟨0x180038, [], none, [rws 15 0 200]⟩,
   -- CMP_SHED, R211
   ⟨0x18003C, [], none, [ro 31 24 0, ro 23 16 0, ro 15 8 0, rws 7 0 0]⟩,
   -- CMP_FLIP_NUM_LO, R211
   ⟨0x180040, [], none, [ro 31 0 0]⟩,
   -- CMP_FLIP_NUM_HI, R211
   ⟨0x180044, [], none, [ro 31 0 0]⟩,
   -- CMP_MAP_CTL, R211
   ⟨0x180048, [], none, [rws 15 0 0]⟩,
   -- CMP_MAP_CHECK, R211
   ⟨0x18004C, [], none, [rws 31 0 0]⟩]

/-- Registers of the CMP block, part 2. -/
def cmpRegs1 : List RegDef :=
  [
   -- CMP_MAP_STAT, R211
   ⟨0x180050, [], none, [ro 31 16 0, ro 15 15 0, ro 14 14 0]⟩,
   -- CMP_SCAN_EVT, R211
   ⟨0x180054, [], none, [w1c 5 5 0, w1c 4 4 0, w1c 3 3 0, w1c 2 2 0, w1c 1 1 0, w1c 0 0 0]⟩,
   -- CMP_SCAN_IRQ_EN, R211
   ⟨0x180058, [], none, [rw 5 5 0, rw 4 4 0, rw 3 3 0, rw 2 2 0, rw 1 1 0, rw 0 0 0]⟩,
   -- CMP_MAP_FAIL, R211
   ⟨0x18005C, [], none, [ro 31 31 0, ro 15 0 0]⟩,
   -- CMP_MAP_STAGE_CHECK, R211
   ⟨0x180060, [], none, [ro 31 0 0]⟩,
   -- CMP_FLIP_BASE_LO, R211
   ⟨0x180064, [], none, [ro 31 0 0]⟩,
   -- CMP_FLIP_BASE_HI, R211
   ⟨0x180068, [], none, [ro 31 0 0]⟩,
   -- CMP_VIEW_BG_RG, R175
   ⟨0x180100, [(8, 0x20)], some (0x180110, 31), [rws 31 16 0, rws 15 0 0]⟩,
   -- CMP_VIEW_BG_B, R175
   ⟨0x180104, [(8, 0x20)], some (0x180110, 31), [rws 15 0 0]⟩,
   -- CMP_VIEW_ALIVE, R175
   ⟨0x180108, [(8, 0x20)], some (0x180110, 31), [ro 15 0 0]⟩,
   -- CMP_VIEW_FILL, R175
   ⟨0x18010C, [(8, 0x20)], some (0x180110, 31), [ro 31 0 0]⟩,
   -- CMP_VIEW_CTL, R212
   ⟨0x180110, [(8, 0x20)], some (0x180110, 31), [rws 31 31 0, rws 26 24 0]⟩,
   -- CMP_VIEW_SHUTTER, R212
   ⟨0x180114, [(8, 0x20)], some (0x180110, 31), [rws 31 16 0, rws 15 0 0]⟩,
   -- CMP_VIEW_STAT, R212
   ⟨0x180118, [(8, 0x20)], some (0x180110, 31), [ro 31 16 0, ro 2 2 0, ro 1 1 0, ro 0 0 0]⟩,
   -- CMP_VIEW_SCAN, R212
   ⟨0x18011C, [(8, 0x20)], some (0x180110, 31), [ro 15 0 0]⟩,
   -- CMP_GNT_CTL, R176
   ⟨0x180400, [(8, 0x40), (4, 0x10)], none, [rws 1 1 0, rws 0 0 0]⟩,
   -- CMP_GNT_EXPECTED, R176
   ⟨0x180404, [(8, 0x40), (4, 0x10)], none, [rws 31 0 0]⟩,
   -- CMP_GNT_LAST_CHECK, R176
   ⟨0x180408, [(8, 0x40), (4, 0x10)], none, [ro 31 0 0]⟩,
   -- CMP_GNT_STAT, R176
   ⟨0x18040C, [(8, 0x40), (4, 0x10)], none, [ro 31 16 0, ro 1 1 0, ro 0 0 0]⟩,
   -- CMP_MON_CTL, R213
   ⟨0x180600, [(6, 0x20)], some (0x180600, 31), [rws 31 31 0, rws 30 28 0, rwsR 27 26 0 0 2 [], rwsR 23 22 0 0 2 [], rws 20 20 0, rws 19 18 0]⟩]

/-- Registers of the CMP block, part 3. -/
def cmpRegs2 : List RegDef :=
  [
   -- CMP_MON_SRC_POS, R213
   ⟨0x180604, [(6, 0x20)], some (0x180600, 31), [rws 31 16 0, rws 15 0 0]⟩,
   -- CMP_MON_SRC_SIZE, R213
   ⟨0x180608, [(6, 0x20)], some (0x180600, 31), [rwsR 31 16 1920 1 65535 [], rwsR 15 0 1080 1 65535 []]⟩,
   -- CMP_MON_RASTER, R213
   ⟨0x18060C, [(6, 0x20)], some (0x180600, 31), [rws 31 16 1920, rws 15 0 1080]⟩,
   -- CMP_MON_DST_POS, R213
   ⟨0x180610, [(6, 0x20)], some (0x180600, 31), [rws 31 16 0, rws 15 0 0]⟩,
   -- CMP_MON_DST_SIZE, R213
   ⟨0x180614, [(6, 0x20)], some (0x180600, 31), [rws 31 16 1920, rws 15 0 1080]⟩,
   -- CMP_MON_BASE, R213
   ⟨0x180618, [(6, 0x20)], some (0x180600, 31), [rws 23 0 0]⟩,
   -- CMP_MON_STAT, R213
   ⟨0x18061C, [(6, 0x20)], some (0x180600, 31), [ro 31 16 0, ro 15 0 0]⟩,
   -- CMP_LAYER_CTL, R177
   ⟨0x188000, [(8, 0x1000), (64, 0x40)], some (0x188000, 31), [rws 31 31 0, rws 30 29 0, rws 28 28 0, rws 27 24 0, rwsR 23 22 0 0 2 [], rws 19 16 0, rws 15 15 0, rws 14 8 0]⟩,
   -- CMP_LAYER_DST_X, R177
   ⟨0x188004, [(8, 0x1000), (64, 0x40)], some (0x188000, 31), [rws 17 0 0]⟩,
   -- CMP_LAYER_DST_Y, R177
   ⟨0x188008, [(8, 0x1000), (64, 0x40)], some (0x188000, 31), [rws 17 0 0]⟩,
   -- CMP_LAYER_DST_SIZE, R177
   ⟨0x18800C, [(8, 0x1000), (64, 0x40)], some (0x188000, 31), [rwsR 31 16 1920 1 65535 [], rwsR 15 0 1080 1 65535 []]⟩,
   -- CMP_LAYER_CROP_POS, R177
   ⟨0x188010, [(8, 0x1000), (64, 0x40)], some (0x188000, 31), [rwsR 31 16 0 0 16383 [], rwsR 15 0 0 0 16383 []]⟩,
   -- CMP_LAYER_CROP_SIZE, R177
   ⟨0x188014, [(8, 0x1000), (64, 0x40)], some (0x188000, 31), [rwsR 31 16 1920 1 16384 [], rwsR 15 0 1080 1 16384 []]⟩,
   -- CMP_LAYER_ALPHA, R177
   ⟨0x188018, [(8, 0x1000), (64, 0x40)], some (0x188000, 31), [rws 31 16 65535, rws 12 8 0, rws 4 0 0]⟩,
   -- CMP_LAYER_SOLID_RG, R177
   ⟨0x18801C, [(8, 0x1000), (64, 0x40)], some (0x188000, 31), [rws 31 16 0, rws 15 0 0]⟩,
   -- CMP_LAYER_SOLID_B, R177
   ⟨0x188020, [(8, 0x1000), (64, 0x40)], some (0x188000, 31), [rws 15 0 0]⟩,
   -- CMP_LAYER_BUF_LO, R177
   ⟨0x188024, [(8, 0x1000), (64, 0x40)], some (0x188000, 31), [rws 31 12 0]⟩,
   -- CMP_LAYER_BUF_HI, R177
   ⟨0x188028, [(8, 0x1000), (64, 0x40)], some (0x188000, 31), [rws 3 0 0]⟩,
   -- CMP_LAYER_BUF_FMT, R177
   ⟨0x18802C, [(8, 0x1000), (64, 0x40)], some (0x188000, 31), [rws 31 30 0, rws 23 20 0, rws 19 19 0, rws 18 18 1, rwsR 11 0 120 1 2048 []]⟩,
   -- CMP_LAYER_BUF_SIZE, R177
   ⟨0x188030, [(8, 0x1000), (64, 0x40)], some (0x188000, 31), [rwsR 31 16 1920 1 16384 [], rwsR 15 0 1080 1 16384 []]⟩]

/-- Registers of the CMP block, part 4. -/
def cmpRegs3 : List RegDef :=
  [
   -- CMP_LAYER_FENCE_TARGET, R177
   ⟨0x188034, [(8, 0x1000), (64, 0x40)], some (0x188000, 31), [rws 31 0 0]⟩,
   -- CMP_LAYER_STEP_X, R177
   ⟨0x188038, [(8, 0x1000), (64, 0x40)], some (0x188000, 31), [ro 19 0 65536]⟩,
   -- CMP_LAYER_STEP_Y, R177
   ⟨0x18803C, [(8, 0x1000), (64, 0x40)], some (0x188000, 31), [ro 19 0 65536]⟩,
   -- CMP_COEF_H, R157
   ⟨0x190000, [(32, 0x800), (256, 0x4)], none, [rws 27 16 0, rws 11 0 0]⟩,
   -- CMP_COEF_V, R157
   ⟨0x190400, [(32, 0x800), (192, 0x4)], none, [rws 27 16 0, rws 11 0 0]⟩,
   -- CMP_WARP, R214
   ⟨0x1A0000, [(64, 0x1000), (1024, 0x4)], none, [rws 31 24 0, rws 23 16 0, rws 15 8 0, rws 7 0 0]⟩]

/-- Registers of the MLK block, part 1. -/
def mlkRegs0 : List RegDef :=
  [
   -- MLK_CTL, R268
   ⟨0x200000, [], none, [rws 21 16 0, rwsR 1 0 2 1 2 []]⟩,
   -- MLK_STAT, R268
   ⟨0x200004, [], none, [ro 26 26 0, ro 25 25 0, ro 24 24 0, ro 15 0 65534]⟩,
   -- MLK_EVT, R268
   ⟨0x200008, [], none, [w1c 13 13 0, w1c 12 12 0, w1c 11 11 0, w1c 10 10 0, w1c 9 9 0, w1c 8 8 0, w1c 7 7 0, w1c 6 6 0, w1c 5 5 0, w1c 4 4 0, w1c 3 3 0, w1c 2 2 0, w1c 1 1 0, w1c 0 0 0]⟩,
   -- MLK_IRQ_EN, R268
   ⟨0x20000C, [], none, [rw 13 13 0, rw 12 12 0, rw 11 11 0, rw 10 10 0, rw 9 9 0, rw 8 8 0, rw 7 7 0, rw 6 6 0, rw 5 5 0, rw 4 4 0, rw 3 3 0, rw 2 2 0, rw 1 1 0, rw 0 0 0]⟩,
   -- MLK_CLAIM_EPOCH, R268
   ⟨0x200010, [], none, [ro 31 0 0]⟩,
   -- MLK_CLAIM, R268
   ⟨0x200014, [], none, [ro 31 31 0, ro 0 0 0]⟩,
   -- MLK_LEAD, R268
   ⟨0x200018, [], none, [ro 22 16 0, ro 15 0 500]⟩,
   -- MLK_DISC_CNT, R268
   ⟨0x20001C, [], none, [ro 31 16 0, ro 15 0 0]⟩,
   -- MLK_TMO, R268
   ⟨0x200020, [], none, [rwsR 31 16 50 10 1000 [], rwsR 15 8 10 1 100 []]⟩,
   -- MLK_PORT_CTL, R269
   ⟨0x200100, [(8, 0x20)], none, [rws 31 31 0, rws 30 30 1, rwsR 26 24 4 1 4 []]⟩,
   -- MLK_PORT_STAT, R269
   ⟨0x200104, [(8, 0x20)], none, [ro 30 24 0, ro 23 23 0, ro 19 16 0, ro 15 12 0, ro 11 8 0, ro 2 0 0]⟩,
   -- MLK_PORT_DELAY, R269
   ⟨0x200108, [(8, 0x20)], none, [ro 31 0 0]⟩,
   -- MLK_PORT_OFFSET, R269
   ⟨0x20010C, [(8, 0x20)], none, [ro 31 0 0]⟩,
   -- MLK_PORT_BLK_CNT, R269
   ⟨0x200110, [(8, 0x20)], none, [ro 31 16 0, ro 15 0 0]⟩,
   -- MLK_PORT_PARTNER_ID, R269
   ⟨0x200114, [(8, 0x20)], none, [ro 31 16 0, ro 15 0 0]⟩,
   -- MLK_SESS_STAT, R270
   ⟨0x208000, [(512, 0x20)], none, [ro 31 31 0, ro 30 28 0, ro 27 24 0, ro 23 20 0, ro 7 7 0, ro 6 6 0]⟩,
   -- MLK_SESS_GEOM, R270
   ⟨0x208004, [(512, 0x20)], none, [ro 31 16 0, ro 15 0 0]⟩,
   -- MLK_SESS_INFO, R270
   ⟨0x208008, [(512, 0x20)], none, [ro 31 24 0, ro 15 0 0]⟩,
   -- MLK_SESS_FW_VER, R270
   ⟨0x20800C, [(512, 0x20)], none, [ro 31 0 0]⟩,
   -- MLK_SESS_CAPS, R270
   ⟨0x208010, [(512, 0x20)], none, [ro 31 0 0]⟩]

/-- Registers of the MLK block, part 2. -/
def mlkRegs1 : List RegDef :=
  [
   -- MLK_SESS_LAST_FLIP, R270
   ⟨0x208014, [(512, 0x20)], none, [ro 31 0 0]⟩,
   -- MLK_SESS_AGE, R270
   ⟨0x208018, [(512, 0x20)], none, [ro 31 16 0, ro 15 0 0]⟩]

/-- Registers of the SER block. -/
def serRegs : List RegDef :=
  [
   -- SER_CTL, R297
   ⟨0x240000, [], none, [rwsR 31 24 8 1 40 [], rwsR 23 16 10 1 255 [], rwsR 15 8 16 1 128 [], rws 0 0 1]⟩,
   -- SER_STAT, R297
   ⟨0x240004, [], none, [ro 23 16 0, ro 15 0 0]⟩,
   -- SER_EVT, R297
   ⟨0x240008, [], none, [w1c 8 8 0, w1c 7 7 0, w1c 6 6 0, w1c 5 5 0, w1c 4 4 0, w1c 3 3 0, w1c 2 2 0, w1c 1 1 0, w1c 0 0 0]⟩,
   -- SER_IRQ_EN, R297
   ⟨0x24000C, [], none, [rw 8 8 0, rw 7 7 0, rw 6 6 0, rw 5 5 0, rw 4 4 0, rw 3 3 0, rw 2 2 0, rw 1 1 0, rw 0 0 0]⟩,
   -- SER_QUAD_STAT, R298
   ⟨0x240100, [(13, 0x4)], none, [ro 7 4 0, ro 1 1 0, ro 0 0 0]⟩,
   -- SER_PORT_STAT, R298
   ⟨0x240200, [(8, 0x10)], none, [ro 31 28 0, ro 27 24 0, ro 23 20 0, ro 19 16 0]⟩,
   -- SER_PORT_CNT, R298
   ⟨0x240204, [(8, 0x10)], none, [ro 31 16 0, ro 15 0 0]⟩,
   -- SER_PORT_SKEW, R298
   ⟨0x240208, [(8, 0x10)], none, [ro 31 0 0]⟩,
   -- SER_LANE_CTL, R299
   ⟨0x241000, [(52, 0x40)], none, [rw 31 31 0, rwR 30 28 4 0 4 [], rwR 27 26 0 0 2 [], rw 25 25 0, rw 24 24 0, rw 0 0 0]⟩,
   -- SER_LANE_STAT, R299
   ⟨0x241004, [(52, 0x40)], none, [ro 23 23 0, ro 22 22 0, ro 21 21 0, ro 20 20 0, ro 18 16 0]⟩,
   -- SER_LANE_EVT, R299
   ⟨0x241008, [(52, 0x40)], none, [w1c 7 7 0, w1c 6 6 0, w1c 5 5 0, w1c 4 4 0, w1c 3 3 0, w1c 2 2 0, w1c 1 1 0, w1c 0 0 0]⟩,
   -- SER_LANE_IRQ_EN, R299
   ⟨0x24100C, [(52, 0x40)], none, [rw 7 7 0, rw 6 6 0, rw 5 5 0, rw 4 4 0, rw 3 3 0, rw 2 2 0, rw 1 1 0, rw 0 0 0]⟩,
   -- SER_LANE_EYE, R299
   ⟨0x241010, [(52, 0x40)], none, [ro 31 16 0, ro 15 0 0]⟩,
   -- SER_LANE_EYE_MIN, R299
   ⟨0x241014, [(52, 0x40)], none, [rws 31 16 300, rws 15 0 30]⟩,
   -- SER_LANE_PRBS_ERR, R299
   ⟨0x241018, [(52, 0x40)], none, [ro 31 0 0]⟩,
   -- SER_LANE_PRBS_BITS, R299
   ⟨0x24101C, [(52, 0x40)], none, [ro 31 0 0]⟩,
   -- SER_LANE_CNT, R299
   ⟨0x241020, [(52, 0x40)], none, [ro 31 16 0, ro 15 0 0]⟩,
   -- SER_LANE_ADAPT, R299
   ⟨0x241024, [(52, 0x40)], none, [ro 31 24 0, ro 23 16 0, ro 15 8 0, ro 7 0 0]⟩,
   -- SER_LANE_RECAL, R299
   ⟨0x241028, [(52, 0x40)], none, [ro 31 16 0, ro 15 8 0]⟩]

/-- Registers of the TIL block, part 1. -/
def tilRegs0 : List RegDef :=
  [
   -- TIL_GEOM, R328
   ⟨0x280000, [], none, [rws 28 28 0, rwsR 27 16 1 1 2048 [], rwsR 11 0 1 1 2048 []]⟩,
   -- TIL_STAT, R328
   ⟨0x280004, [], none, [ro 23 20 8, ro 16 16 0, ro 10 8 0]⟩,
   -- TIL_EVT, R328
   ⟨0x280008, [], none, [w1c 11 11 0, w1c 10 10 0, w1c 9 9 0, w1c 8 8 0, w1c 7 7 0, w1c 6 6 0, w1c 5 5 0, w1c 4 4 0, w1c 3 3 0, w1c 2 2 0, w1c 1 1 0, w1c 0 0 0]⟩,
   -- TIL_IRQ_EN, R328
   ⟨0x28000C, [], none, [rw 11 11 0, rw 10 10 0, rw 9 9 0, rw 8 8 0, rw 7 7 0, rw 6 6 0, rw 5 5 0, rw 4 4 0, rw 3 3 0, rw 2 2 0, rw 1 1 0, rw 0 0 0]⟩,
   -- TIL_CNT0, R328
   ⟨0x280010, [], none, [ro 31 16 0, ro 15 0 0]⟩,
   -- TIL_CNT1, R328
   ⟨0x280014, [], none, [ro 31 16 0, ro 15 0 0]⟩,
   -- TIL_CNT2, R328
   ⟨0x280018, [], none, [ro 31 16 0, ro 15 0 0]⟩,
   -- TIL_BUILD, R328
   ⟨0x28001C, [], none, [ro 31 16 0, ro 15 0 0]⟩,
   -- TIL_DITHER, R328
   ⟨0x280020, [], none, [rws 1 0 2]⟩,
   -- TIL_BRIGHT, R328
   ⟨0x280024, [], none, [rwsR 31 16 32768 0 32768 [], ro 15 0 32768]⟩,
   -- TIL_BG_RG, R328
   ⟨0x280028, [], none, [rws 31 16 0, rws 15 0 0]⟩,
   -- TIL_BG_BW, R328
   ⟨0x28002C, [], none, [rws 31 16 0, rws 15 0 0]⟩,
   -- TIL_LAMP4_CTL, R328
   ⟨0x280030, [], none, [rws 31 16 32768, rws 1 0 0]⟩,
   -- TIL_LAMP4_SUB_RG, R328
   ⟨0x280034, [], none, [rws 31 16 32768, rws 15 0 32768]⟩,
   -- TIL_LAMP4_SUB_B, R328
   ⟨0x280038, [], none, [rws 15 0 32768]⟩,
   -- TIL_TCOMP_CTL, R328
   ⟨0x28003C, [], none, [rws 31 16 400, rws 15 0 16]⟩,
   -- TIL_LINING_CTL, R328
   ⟨0x280040, [], none, [rws 15 0 0]⟩,
   -- TIL_LINING_CHECK, R328
   ⟨0x280044, [], none, [rws 31 0 0]⟩,
   -- TIL_LINING_STAT, R328
   ⟨0x280048, [], none, [ro 31 16 0, ro 15 15 0, ro 14 14 0, ro 13 13 0]⟩,
   -- TIL_LINING_STAGE_CHECK, R328
   ⟨0x28004C, [], none, [ro 31 0 0]⟩]

/-- Registers of the TIL block, part 2. -/
def tilRegs1 : List RegDef :=
  [
   -- TIL_GUARD_CTL, R328
   ⟨0x280050, [], none, [rws 3 0 0]⟩,
   -- TIL_AREA_STAT, R329
   ⟨0x280100, [(8, 0x10)], none, [ro 31 31 0, ro 30 28 0, ro 27 27 0, ro 26 26 0, ro 25 25 0, ro 19 16 0, ro 15 0 0]⟩,
   -- TIL_AREA_SHOWN_FLIP, R329
   ⟨0x280104, [(8, 0x10)], none, [ro 31 0 0]⟩,
   -- TIL_AREA_READY_FLIP, R329
   ⟨0x280108, [(8, 0x10)], none, [ro 31 0 0]⟩,
   -- TIL_AREA_FILL_PIXELS, R329
   ⟨0x28010C, [(8, 0x10)], none, [ro 31 0 0]⟩,
   -- TIL_ZONE_TEMP, R329
   ⟨0x280200, [(16, 0x4)], none, [ro 16 16 0, ro 15 0 0]⟩,
   -- TIL_ZONE_GAIN0, R329
   ⟨0x280240, [(16, 0x8)], none, [ro 31 16 32768, ro 15 0 32768]⟩,
   -- TIL_ZONE_GAIN1, R329
   ⟨0x280244, [(16, 0x8)], none, [ro 31 16 32768, ro 15 0 32768]⟩,
   -- TIL_MODZONE, R329
   ⟨0x280300, [(32, 0x4)], none, [rws 31 0 0]⟩,
   -- TIL_TCOMP, R323
   ⟨0x282000, [(16, 0x80), (4, 0x20), (8, 0x4)], none, [rws 31 16 0, rws 15 0 0]⟩]

/-- Registers of the LMB block, part 1. -/
def lmbRegs0 : List RegDef :=
  [
   -- LMB_CTL, R367
   ⟨0x2C0000, [], none, [rws 31 31 0, rws 30 30 0]⟩,
   -- LMB_STAT, R367
   ⟨0x2C0004, [], none, [ro 29 29 0, ro 28 28 0, ro 27 16 0, ro 9 0 0]⟩,
   -- LMB_EVT, R367
   ⟨0x2C0008, [], none, [w1c 8 8 0, w1c 7 7 0, w1c 6 6 0, w1c 5 5 0, w1c 4 4 0, w1c 3 3 0, w1c 2 2 0, w1c 1 1 0, w1c 0 0 0]⟩,
   -- LMB_IRQ_EN, R367
   ⟨0x2C000C, [], none, [rw 8 8 0, rw 7 7 0, rw 6 6 0, rw 5 5 0, rw 4 4 0, rw 3 3 0, rw 2 2 0, rw 1 1 0, rw 0 0 0]⟩,
   -- LMB_SCAN, R367
   ⟨0x2C0010, [], none, [rws 28 24 15, rwsR 23 16 40 1 255 [], rws 15 8 30]⟩,
   -- LMB_SCAN_RATE, R367
   ⟨0x2C0014, [], none, [rws 31 12 60, rws 11 0 1]⟩,
   -- LMB_BUDGET, R367
   ⟨0x2C0018, [], none, [ro 31 16 0, ro 15 0 0]⟩,
   -- LMB_CNT, R367
   ⟨0x2C001C, [], none, [ro 31 16 0, ro 15 0 0]⟩,
   -- LMB_VISOR_FLIP, R367
   ⟨0x2C0020, [], none, [ro 31 0 0]⟩,
   -- LMB_VISOR_CHECK, R367
   ⟨0x2C0024, [], none, [ro 31 0 0]⟩,
   -- LMB_VISOR_EXPECT, R367
   ⟨0x2C0028, [], none, [ro 31 0 0]⟩,
   -- LMB_BANK, R367
   ⟨0x2C0040, [(8, 0x4)], none, [rws 7 7 0, rws 6 5 1, ro 4 3 0, ro 2 2 0]⟩,
   -- LMB_DIAG_CTL, R388
   ⟨0x2C0060, [], none, [rws 31 31 0, rws 30 29 1, rwsR 27 24 2 1 15 [], rwsR 23 16 8 1 255 [], rwsR 10 0 20 1 2047 []]⟩,
   -- LMB_DIAG_TIME, R388
   ⟨0x2C0064, [], none, [rwsR 31 16 1000 100 60000 [], rws 15 0 100]⟩,
   -- LMB_DIAG_PARAM, R388
   ⟨0x2C0068, [], none, [rws 23 16 16, rws 15 0 32768]⟩,
   -- LMB_DIAG_OPEN, R388
   ⟨0x2C006C, [], none, [ro 19 0 0]⟩,
   -- LMB_DIAG_SHORT, R388
   ⟨0x2C0070, [], none, [ro 19 0 0]⟩,
   -- LMB_DIAG_MASKED, R388
   ⟨0x2C0074, [], none, [ro 19 0 0]⟩,
   -- LMB_DIAG_STAT, R388
   ⟨0x2C0078, [], none, [ro 31 31 0, ro 30 30 0, ro 15 0 0]⟩,
   -- LMB_DIAG_SNAP_ID, R388
   ⟨0x2C007C, [], none, [ro 31 0 0]⟩]

/-- Registers of the LMB block, part 2. -/
def lmbRegs1 : List RegDef :=
  [
   -- LMB_DIAG_SNAP_STAT, R388
   ⟨0x2C0080, [], none, [ro 31 31 0, ro 12 0 0]⟩,
   -- LMB_DIAG_EVT, R388
   ⟨0x2C0084, [], none, [w1c 6 6 0, w1c 5 5 0, w1c 4 4 0, w1c 3 3 0, w1c 2 2 0, w1c 1 1 0, w1c 0 0 0]⟩,
   -- LMB_DIAG_IRQ_EN, R388
   ⟨0x2C0088, [], none, [rw 6 6 0, rw 5 5 0, rw 4 4 0, rw 3 3 0, rw 2 2 0, rw 1 1 0, rw 0 0 0]⟩,
   -- LMB_PORT_CTL, R368
   ⟨0x2C0100, [(64, 0x10)], none, [rws 31 31 0, rws 7 0 0]⟩,
   -- LMB_PORT_STAT, R368
   ⟨0x2C0104, [(64, 0x10)], none, [w1c 25 16 0, ro 2 2 0, ro 1 1 0, ro 0 0 0]⟩,
   -- LMB_PORT_VISOR_CNT, R368
   ⟨0x2C0108, [(64, 0x10)], none, [ro 31 16 0, ro 15 0 0]⟩,
   -- LMB_PORT_VISOR_FIRST, R368
   ⟨0x2C010C, [(64, 0x10)], none, [ro 19 16 0, ro 15 0 0]⟩,
   -- LMB_CTX_CTL, R365
   ⟨0x2D0000, [(4096, 0x20)], some (0x2D0000, 31), [rws 31 31 0, rwsR 30 29 0 0 2 [], rws 28 23 47, rws 22 21 0, rws 20 20 0, rws 19 19 0, rws 18 18 0, rws 17 12 15]⟩,
   -- LMB_CTX_ORIGIN, R365
   ⟨0x2D0004, [(4096, 0x20)], some (0x2D0000, 31), [rws 26 16 0, rws 10 0 0]⟩,
   -- LMB_CTX_GAIN, R365
   ⟨0x2D0008, [(4096, 0x20)], some (0x2D0000, 31), [rws 31 24 128, rws 23 16 128, rws 15 8 128, rws 7 0 128]⟩,
   -- LMB_CTX_STAT, R365
   ⟨0x2D0010, [(4096, 0x20)], some (0x2D0000, 31), [ro 31 31 0, ro 30 30 0, ro 29 29 0, ro 15 0 0]⟩,
   -- LMB_CTX_ECHO, R365
   ⟨0x2D0014, [(4096, 0x20)], some (0x2D0000, 31), [ro 31 16 0, ro 15 0 0]⟩,
   -- LMB_CTX_CNT, R365
   ⟨0x2D0018, [(4096, 0x20)], some (0x2D0000, 31), [ro 31 16 0, ro 15 0 0]⟩]

/-- Registers of the DRC block. -/
def drcRegs : List RegDef :=
  [
   -- DRC_CFG, R474
   ⟨0x300000, [], none, [ro 31 16 0, ro 15 12 0, ro 11 8 0, ro 7 6 0]⟩,
   -- DRC_TOP, R474
   ⟨0x300004, [], none, [ro 15 0 0]⟩,
   -- DRC_CTL, R474
   ⟨0x300008, [], none, [rws 31 31 0, rwsR 27 24 11 8 14 [], rwsR 23 16 8 1 40 [], rwsR 15 0 100 1 65535 []]⟩,
   -- DRC_STAT, R474
   ⟨0x30000C, [], none, [ro 31 16 0, ro 15 0 0]⟩,
   -- DRC_EVT, R474
   ⟨0x300010, [], none, [w1c 7 7 0, w1c 6 6 0, w1c 5 5 0, w1c 4 4 0, w1c 3 3 0, w1c 2 2 0, w1c 1 1 0, w1c 0 0 0]⟩,
   -- DRC_IRQ_EN, R474
   ⟨0x300014, [], none, [rw 7 7 0, rw 6 6 0, rw 5 5 0, rw 4 4 0, rw 3 3 0, rw 2 2 0, rw 1 1 0, rw 0 0 0]⟩,
   -- DRC_ECC_CNT, R474
   ⟨0x300018, [], none, [ro 31 16 0, ro 15 0 0]⟩,
   -- DRC_UE_LOG_STAT, R474
   ⟨0x30001C, [], none, [ro 31 16 0, ro 6 0 0]⟩,
   -- DRC_UE_LOG_CLR, R474
   ⟨0x300020, [], none, [wo 0 0 0]⟩,
   -- DRC_CH_STAT, R475
   ⟨0x300100, [(16, 0x20)], none, [ro 31 29 0, ro 28 25 0, ro 15 8 0]⟩,
   -- DRC_CH_REF_CNT, R475
   ⟨0x300104, [(16, 0x20)], none, [ro 31 16 0, ro 15 0 0]⟩,
   -- DRC_CH_NR_CNT, R475
   ⟨0x300108, [(16, 0x20)], none, [ro 31 16 0, ro 15 0 0]⟩,
   -- DRC_CH_EYE, R475
   ⟨0x30010C, [(16, 0x20)], none, [ro 31 16 0, ro 15 0 0]⟩,
   -- DRC_CH_SKEW, R475
   ⟨0x300110, [(16, 0x20)], none, [ro 15 0 0]⟩,
   -- DRC_CH_TRAIN, R475
   ⟨0x300114, [(16, 0x20)], none, [ro 31 16 0, ro 15 0 0]⟩,
   -- DRC_UE_LOG_W0, R476
   ⟨0x301000, [(64, 0x10)], none, [ro 31 6 0, ro 3 0 0]⟩,
   -- DRC_UE_LOG_W1, R476
   ⟨0x301004, [(64, 0x10)], none, [ro 31 28 0, ro 27 24 0, ro 23 7 0, ro 6 2 0]⟩,
   -- DRC_UE_LOG_W2, R476
   ⟨0x301008, [(64, 0x10)], none, [ro 31 24 0, ro 23 16 0, ro 15 0 0]⟩,
   -- DRC_UE_LOG_W3, R476
   ⟨0x30100C, [(64, 0x10)], none, [ro 31 0 0]⟩]

/-- Registers of the RED block. -/
def redRegs : List RegDef :=
  [
   -- RED_CTL, R449
   ⟨0x340000, [], none, [ro 31 31 0, ro 30 30 0, rw 29 28 3]⟩,
   -- RED_PEER, R449
   ⟨0x340004, [], none, [rw 31 0 0]⟩,
   -- RED_TMO, R449
   ⟨0x340008, [], none, [rwR 31 24 3 2 50 [], rwR 23 16 3 1 50 [], rwR 15 8 3 1 255 []]⟩,
   -- RED_STAT, R449
   ⟨0x34000C, [], none, [ro 31 31 0, ro 30 30 0, ro 29 29 0, ro 28 28 0, ro 27 27 0, ro 26 26 0, w1c 25 25 0, ro 0 0 0]⟩,
   -- RED_EVT, R449
   ⟨0x340010, [], none, [w1c 12 12 0, w1c 11 11 0, w1c 10 10 0, w1c 9 9 0, w1c 8 8 0, w1c 7 7 0, w1c 6 6 0, w1c 5 5 0, w1c 4 4 0, w1c 3 3 0, w1c 2 2 0, w1c 1 1 0, w1c 0 0 0]⟩,
   -- RED_IRQ_EN, R449
   ⟨0x340014, [], none, [rw 12 12 0, rw 11 11 0, rw 10 10 0, rw 9 9 0, rw 8 8 0, rw 7 7 0, rw 6 6 0, rw 5 5 0, rw 4 4 0, rw 3 3 0, rw 2 2 0, rw 1 1 0, rw 0 0 0]⟩,
   -- RED_EPOCH, R449
   ⟨0x340018, [], none, [ro 31 0 0]⟩,
   -- RED_HB_AGE, R449
   ⟨0x34001C, [], none, [ro 31 16 65535, ro 15 0 65535]⟩,
   -- RED_POS_LO, R449
   ⟨0x340020, [], none, [ro 31 0 0]⟩,
   -- RED_POS_HI, R449
   ⟨0x340024, [], none, [ro 31 0 0]⟩,
   -- RED_ACK_LO, R449
   ⟨0x340028, [], none, [ro 31 0 0]⟩,
   -- RED_ACK_HI, R449
   ⟨0x34002C, [], none, [ro 31 0 0]⟩,
   -- RED_SNAP_CTL, R450
   ⟨0x340030, [], none, [rwR 31 16 10 1 3600 [], rwR 15 8 8 1 48 [], rwR 7 0 20 1 200 []]⟩,
   -- RED_SNAP_STAT, R450
   ⟨0x340034, [], none, [ro 31 16 0, ro 3 3 0, ro 2 2 0, ro 1 0 0]⟩,
   -- RED_SWAP_CTL, R450
   ⟨0x340038, [], none, [rwR 31 24 24 0 168 [], rwR 23 16 8 8 255 []]⟩,
   -- RED_SWAP_STAT, R450
   ⟨0x34003C, [], none, [ro 31 28 0, ro 27 24 0, ro 23 16 0, ro 15 8 0]⟩,
   -- RED_CNT0, R450
   ⟨0x340040, [], none, [ro 31 16 0, ro 15 0 0]⟩,
   -- RED_CNT1, R450
   ⟨0x340044, [], none, [ro 31 16 0, ro 15 0 0]⟩,
   -- RED_RESTORE, R450
   ⟨0x340048, [], none, [ro 31 16 0, ro 15 0 0]⟩]

/-- R10: the register blocks, each with its first address, the address after its last and its registers. -/
def regBlocks : List (Nat × Nat × List RegDef) :=
  [(0x0, 0x10000, sysRegs0 ++ sysRegs1),
   (0x10000, 0x20000, rstRegs),
   (0x20000, 0x30000, clkRegs),
   (0x30000, 0x40000, thmRegs),
   (0x40000, 0x80000, fusRegs),
   (0x80000, 0x100000, chkRegs),
   (0x100000, 0x110000, sdiRegs0 ++ sdiRegs1),
   (0x110000, 0x140000, netRegs0 ++ netRegs1),
   (0x140000, 0x180000, ptpRegs0 ++ ptpRegs1),
   (0x180000, 0x200000, cmpRegs0 ++ cmpRegs1 ++ cmpRegs2 ++ cmpRegs3),
   (0x200000, 0x240000, mlkRegs0 ++ mlkRegs1),
   (0x240000, 0x280000, serRegs),
   (0x280000, 0x2C0000, tilRegs0 ++ tilRegs1),
   (0x2C0000, 0x300000, lmbRegs0 ++ lmbRegs1),
   (0x300000, 0x340000, drcRegs),
   (0x340000, 0x400000, redRegs)]

/-- The indices of a copy at `off` above the first copy, widest stride first; `none` where no copy stands. -/
def copyIndex : List (Nat × Nat) → Nat → Option (List Nat)
  | [], off => if off = 0 then some [] else none
  | (n, st) :: rest, off =>
    if off / st < n then (copyIndex rest (off % st)).map (off / st :: ·) else none

/-- The register of a list that stands at address `a`, with its copy's indices. -/
def findIn (a : Nat) : List RegDef → Option (RegDef × List Nat)
  | [] => none
  | r :: rs =>
    if r.base ≤ a then
      match copyIndex r.dims (a - r.base) with
      | some ix => some (r, ix)
      | none => findIn a rs
    else findIn a rs

/-- The block that holds address `a`: its first address, the address after its last, its registers. -/
def blockOf (a : Nat) : Option (Nat × Nat × List RegDef) :=
  regBlocks.find? (fun b => decide (b.1 ≤ a ∧ a < b.2.1))

/-- The register at address `a`, with its copy's indices. -/
def findReg (a : Nat) : Option (RegDef × List Nat) :=
  match blockOf a with
  | some b => findIn a b.2.2
  | none => none

/-- The address of the enable of the descriptor that copy `ix` of register `r` belongs to, with its bit. -/
def RegDef.enableAt (r : RegDef) (ix : List Nat) : Option (Nat × Nat) :=
  r.enable.map (fun e => (e.1 + ((r.dims.zip ix).map (fun d => d.1.2 * d.2)).sum, e.2))

/-- The reset word that the fields of a register give. -/
def RegDef.resetWord (r : RegDef) : Nat :=
  (r.fields.map (fun f => f.reset * 2 ^ f.lo)).sum

/-- The bits of a register whose fields have one of the access types chosen. -/
def RegDef.mask (r : RegDef) (p : Access → Bool) : Nat :=
  ((r.fields.filter (fun f => p f.acc)).map (fun f => (2 ^ (f.hi - f.lo + 1) - 1) * 2 ^ f.lo)).sum

/-- R57, check 2: a value is one that the register map lets the field hold. -/
def FieldDef.ok (f : FieldDef) (v : Nat) : Bool :=
  decide (f.min ≤ v ∧ v ≤ f.max) && !(f.bad.contains v)

end Sys2Proof.Machine
end

