-- ==== Sys2Proof/Machine/ScanTypes.lean ====
section
/-! DEFINITION. The records of the compositor and the scan-out: pixels, Gauntlet regions, the view-frame being sent,
and the monitoring taps. -/

namespace Sys2Proof.Machine

/-- R103, R153, R169: a pixel in the working space, premultiplied, with its alpha and its poison mark. -/
structure Pix where
  r : Nat
  g : Nat
  b : Nat
  a : Nat
  bad : Bool
  deriving DecidableEq, Repr

/-- R162: a region of the Gauntlet store: its slot, its place on the canvas, and its codes in raster order, each as the
value P of R224. -/
structure GntRegion where
  slot : Nat
  x : Nat
  y : Nat
  w : Nat
  h : Nat
  codes : List Nat
  deriving DecidableEq, Repr

/-- R240 to R242: what has been sent to a tile in a view-frame: bursts, pixels, the accumulator of FRAME_CHECK, and for
each Gauntlet slot whether a pixel belonged to it and the accumulator of its check. -/
structure TileTally where
  tile : Nat
  bursts : Nat
  pixels : Nat
  acc : Nat
  gnt : List (Bool × Nat)
  deriving DecidableEq, Repr

/-- R167, R239: what a view keeps of its last sent view-frame since it was enabled. -/
structure ViewSeq where
  alive : Nat
  guardBits : Nat
  rcheck : List Word
  deriving DecidableEq, Repr

/-- R200: a chain's queue of Module Map entries, with the pixels of the whole queue and those done. -/
structure ChainQueue where
  chain : Nat
  entries : List Nat
  total : Nat
  done : Nat
  deriving DecidableEq, Repr

/-- R183, R200: a latched view-frame and how far it has been sent. `pass` is the cycle in which the Gauntlet pass ends,
`copies` counts the copies of FLIP sent, `copyAt` is the cycle of the first, and `cur` is the module being sent, with
the chain and the next footprint row; `chainAcc` and `srcTimes` are what VFCHECK reports (R443). -/
structure ScanFrame where
  view : Nat
  flip : Nat
  gen : Nat
  alive : Nat
  latchAt : Nat
  latchWall : Nat
  pass : Nat
  copies : Nat
  copyAt : Nat
  lastBurst : Nat
  guardBits : Nat
  rcheck : List Word
  regions : List GntRegion
  queues : List ChainQueue
  cur : Option (Nat × Nat × Nat)
  tallies : List TileTally
  chainAcc : List (Nat × Nat)
  srcTimes : List (Nat × Nat)
  cycles : Nat
  fill : Nat
  whole : Bool
  late : Bool
  deriving DecidableEq, Repr

/-- R205: a monitoring tap: the chain codes taken of the view-frame being sent (by y × 65,536 + x), which buffer is
the front one, whether the back one holds a whole frame, whether a frame has been sent, and its alive count; of a tap that
feeds a network flow, the line and pixel of its next packet, and the RTP time stamp (R134). -/
structure TapState where
  codes : List (Nat × Nat)
  front : Nat
  ready : Option Nat
  shown : Option Nat
  packet : Option (Nat × Nat × Nat)
  deriving DecidableEq, Repr

/-- R142 to R209: the view-frame being sent, or sent last; what the views keep; the views shed, and whether a chain port
has changed width since the last latch; the taps; the generations and skips of the active map. -/
structure ScanState where
  frame : Option ScanFrame
  views : List (Nat × ViewSeq)
  widthChanged : Bool
  taps : List (Nat × TapState)
  rejected : List Nat
  copyFrom : Option Nat
  deriving DecidableEq, Repr

end Sys2Proof.Machine
end

