-- ==== Sys2Proof/Machine/Sparse.lean ====
section
/-! DEFINITION. Sparse tables: a list of (key, value) pairs with strictly rising keys, in which no entry equals what an
unlisted key reads as. Registers, memories, map banks and buffers are held in this one form. -/

namespace Sys2Proof.Machine.Sparse

variable {α : Type}

/-- The value listed for a key. -/
def find (m : List (Nat × α)) (k : Nat) : Option α :=
  match m with
  | [] => none
  | (a, v) :: rest => if a = k then some v else find rest k

/-- The value of a key; an unlisted key reads as `d` gives. -/
def get (d : Nat → α) (m : List (Nat × α)) (k : Nat) : α :=
  (find m k).getD (d k)

/-- The table without a key. -/
def erase (m : List (Nat × α)) (k : Nat) : List (Nat × α) :=
  m.filter (fun p => p.1 != k)

/-- The table with an entry put before the first larger key. -/
def insert (m : List (Nat × α)) (k : Nat) (v : α) : List (Nat × α) :=
  match m with
  | [] => [(k, v)]
  | (a, w) :: rest => if k < a then (k, v) :: (a, w) :: rest else (a, w) :: insert rest k v

/-- Writing a key. Writing what the unlisted key reads as removes the entry. -/
def put [DecidableEq α] (d : Nat → α) (m : List (Nat × α)) (k : Nat) (v : α) : List (Nat × α) :=
  if v = d k then erase m k else insert (erase m k) k v

/-- Writing consecutive keys. -/
def putRun [DecidableEq α] (d : Nat → α) (m : List (Nat × α)) (k : Nat) : List α → List (Nat × α)
  | [] => m
  | v :: vs => putRun d (put d m k v) (k + 1) vs

/-- Reading consecutive keys. -/
def getRun (d : Nat → α) (m : List (Nat × α)) (k : Nat) : Nat → List α
  | 0 => []
  | n + 1 => get d m k :: getRun d m (k + 1) n

/-- The table without the keys from `lo` up to but not including `hi`. -/
def eraseRange (m : List (Nat × α)) (lo hi : Nat) : List (Nat × α) :=
  m.filter (fun p => !(decide (lo ≤ p.1 ∧ p.1 < hi)))

/-- The canonical form: keys strictly rising, and no entry equal to what the unlisted key reads as. -/
def wf [DecidableEq α] (d : Nat → α) : List (Nat × α) → Bool
  | [] => true
  | [(a, v)] => decide (v ≠ d a)
  | (a, v) :: (b, w) :: rest => decide (v ≠ d a) && decide (a < b) && wf d ((b, w) :: rest)

end Sys2Proof.Machine.Sparse
end

