-- ==== Sys2Proof/Machine/TileTypes.lean ====
section
/-! DEFINITION. The records of a tile: view areas and builds, the Lamp Bus, lamp diagnostics, and snapshots. -/

namespace Sys2Proof.Machine

/-! The tile pipeline (R301 to R325) -/

/-- R306: the FILL buffer of an area: its buffer 0 to 2, the FLIP it was opened for, what has been counted into it, and
whether R225 has made it incomplete. -/
structure FillBuf where
  buf : Nat
  flip : FlipMsg
  tally : TileTally
  bad : Bool
  deriving DecidableEq, Repr

/-- R306 to R309: a READY or SHOWN buffer: its buffer 0 to 2, its flip, its generation, its ALIVE, its guard set, and
its FRAME_CHECK and GNT_CHECKs. -/
structure HeldFrame where
  buf : Nat
  flip : Nat
  gen : Nat
  alive : Nat
  guard : Nat
  check : Word
  gnt : List Word
  deriving DecidableEq, Repr

/-- R305 to R307: a view area: its view, its buffers, and the flip and ALIVE of its last accepted frame. -/
structure Area where
  view : Nat
  fill : Option FillBuf
  ready : Option HeldFrame
  shown : Option HeldFrame
  last : Option (Nat × Nat)
  deriving DecidableEq, Repr

/-- R311 to R316: a build: its FLIP, the cycle of its start, the CLK_TIME cycles it takes with the divisor it started with, the
lamps as R316 gives them and as underrun fill gives them, the lamps concealed, and CONCEAL and SPREAD as they stood. -/
structure Build where
  flip : FlipMsg
  since : Nat
  takes : Nat
  div : Nat
  lamps : List Nat
  fill : List Nat
  conceal : Nat
  spread : Nat
  hidden : List Nat
  modules : List Bool
  deriving DecidableEq, Repr

/-- R245, R440: what a tile keeps of each authority: the highest TXN_SEQ it has applied, and the (INDEX, FIRST) pairs
applied under it. -/
structure AppliedSets where
  auth : Nat
  seq : Nat
  pairs : List (Nat × Nat)
  deriving DecidableEq, Repr

/-- R304 to R321: the tile pipeline. The areas stand with the one whose latest checked FLIP is oldest first; `store` is
the pixel store of R310 by halfwords; `bank` is the active bank of the Lining, `swap` the generation that waits for a
build, `check` the last STAGE_CHECK (none: of the reset contents); `front` is the grey buffer on the lamps, `next` the
flip whose grey stands in the other one; `built` says that a build has been made since the last L0 or L1 reset; `slewed`
that one has been since any reset; `fallen` are the zones whose failed input was noted; `last` is the latest accepted
view-frame, as flip and view; `gens` are
the last two map generations announced, newest last, each with the flip from which it applies (R243). -/
structure TileState where
  areas : List (Nat × Area)
  store : List (Nat × BitVec 16)
  bank : Nat
  swap : Option Nat
  check : Option Word
  build : Option Build
  front : Nat
  next : Option Nat
  built : Bool
  slewed : Bool
  fallen : List Nat
  last : Nat × Nat
  applied : List AppliedSets
  gens : List (Nat × Nat)
  deriving DecidableEq, Repr

/-! The Lamp Bus (R331 to R361) -/

/-- R351, R352: a return frame that a port awaits: its context, its TYPE, the check expected, and the line and context. -/
structure Await where
  port : Nat
  ctx : Nat
  kind : Nat
  expect : Nat
  deriving DecidableEq, Repr

/-- R353: what the tile keeps of a context: the expected echo check so far, the consecutive mismatches or NO_ECHOs, the
consecutive NO_ECHOs, and the cycle of its last poll. -/
structure CtxRun where
  ctx : Nat
  crc : Nat
  bad : Nat
  silent : Nat
  polled : Nat
  deriving DecidableEq, Repr

/-- R359: the Visor's check of one refresh: the flip, the accumulators of the words
read back and of the words meant, and the words of the upload, read back and meant. -/
structure VisorRun where
  flip : Nat
  got : Nat
  want : Nat
  upGot : List Nat
  upWant : List Nat
  deriving DecidableEq, Repr

/-- R332 to R361: the Lamp Bus: the wall time of E_0 of the present interval; the
housekeeping words that wait, as data line and word (a context's RESET_DRV and CFG_WRITEs), and the ports whose writes wait for a CONFIG latch; the frames
awaited; the contexts; the context polled last and whether the last return was a DIAG_READ, by port; the ports that the
Visor holds dark; the ports whose housekeeping slot is dropped; the wall time from which the flip's uploads run; the
ports cut off by FRAME_DARK; and the Visor's check. -/
structure LampState where
  e0 : Option Nat
  cfg : List (Nat × Word)
  latch : List Nat
  awaits : List Await
  runs : List CtxRun
  polls : List (Nat × Nat)
  diagTurn : List Nat
  visorDark : List Nat
  dropped : List Nat
  upload : Option Nat
  cut : List Nat
  upMiss : List (Nat × Nat × Nat)
  visor : Option VisorRun
  started : Bool
  deriving DecidableEq, Repr

/-! Lamp diagnostics (R370 to R386) -/

/-- R375: where the tests of a pair stand: still to be sent (short first), both sent, running in a visit,
run, or asked for. -/
inductive DiagPhase where
  | short | test | sent | ran | ready | asked
  deriving DecidableEq, Repr

/-- R375, R377: the pair of a context that is under test: the scan line, the KIND of its open test, its phase, the channels
whose on-time in the tested visit was at least MIN_WIDTH, and whether it belongs to a snapshot's pass. -/
structure DiagPair where
  ctx : Nat
  line : Nat
  kind : Nat
  phase : DiagPhase
  valid : List Nat
  snap : Bool
  deriving DecidableEq, Repr

/-- R375: a round: whether it carries the probe pass, and the pairs still to be tested. -/
structure DiagRound where
  probe : Bool
  left : List (Nat × Nat)
  deriving DecidableEq, Repr

/-- R386: the probe pass of a snapshot: the snapshot's ID, and the pairs still to be tested and read. -/
structure SnapPass where
  id : Nat
  left : List (Nat × Nat)
  deriving DecidableEq, Repr

/-- R375 to R386: the rounds: the cycle in which the last one started, whether a probe period has ended since a round
carried the pass, the round in progress, the pairs under test, the lamps with a valid open sample in the present period
and in the one before, the wall time and the result (OPEN and SHORT maps) of the last probe of each pair, the failing
short samples, failing open samples and passes in a row of lamps, and the snapshot pass. -/
structure DiagState where
  lastRound : Nat
  due : Bool
  round : Option DiagRound
  pairs : List DiagPair
  sampled : List Nat
  before : List Nat
  probes : List ((Nat × Nat) × Nat × Nat × Nat)
  counts : List (Nat × Nat × Nat × Nat)
  snap : Option SnapPass
  deriving DecidableEq, Repr

/-! Snapshots (R265, R386, R517) -/

/-- R265, R517: a snapshot held by a tile: its ID and the parts captured, each with its number. -/
structure Snapshot where
  id : Nat
  parts : List (Nat × List Byte)
  deriving DecidableEq, Repr

end Sys2Proof.Machine
end

