-- ==== Sys2Proof/Machine/Types.lean ====
section
/-! DEFINITION. The records that State holds: transactions, commits, the command engine, time, the link and its sessions. -/

namespace Sys2Proof.Machine

/-! Transactions (R42 to R76) -/

/-- R45 to R48: an open transaction. `bytes` counts its journal with the OPEN record and the reserve of R48;
`lastCmd` is the cycle of its last command (R51). -/
structure OpenTxn where
  seq : Nat
  sec : Nat
  ns : Nat
  lastCmd : Nat
  changes : List Change
  bytes : Nat
  deriving DecidableEq, Repr

/-- R73, R74: the shadow set, in the order of its writes. -/
structure ShadowSet where
  changes : List Change
  bytes : Nat
  deriving DecidableEq, Repr

/-- R52: the outcome of a completed sequence number. -/
structure TxnOutcome where
  seq : Nat
  status : Status
  rolledBack : Bool
  sec : Nat
  ns : Nat
  failIndex : Nat
  late : Bool
  immediate : Bool
  deriving DecidableEq, Repr

/-- R60, R64, R66: where a commit takes effect. `flip` is the number of its effective flip; with IMMEDIATE there is
none, and `sec` and `ns` are the wall time of taking effect. -/
structure Effect where
  flip : Option Nat
  sec : Nat
  ns : Nat
  late : Bool
  immediate : Bool
  deriving DecidableEq, Repr

/-- R60: a commit whose COMMIT record is written and which has not completed. -/
structure CommitInfo where
  auth : Auth
  seq : Nat
  shadow : Bool
  changes : List Change
  hdr : Hdr
  written : Effect
  deriving DecidableEq, Repr

/-- R44, R64: a completed commit, or a local write, that waits for its flip. -/
structure Accepted where
  auth : Auth
  seq : Nat
  isLocal : Bool
  flip : Nat
  changes : List Change
  deriving DecidableEq, Repr

/-- R70 to R72: an open fence wait of a layer: the layer (view and slot), the fence and its target, the pending
descriptor words, and T0 once the first latch has come. -/
structure FenceWait where
  view : Nat
  slot : Nat
  fence : Nat
  target : Word
  words : List (Nat × Word)
  t0 : Option Nat
  deriving DecidableEq, Repr

/-! Replication and completion (R425 to R428) -/

/-- R428: what completes when the standby's acknowledgement covers an item, or after 2 ms without it. -/
inductive Completion where
  | commit (c : CommitInfo)
  | retimed (c : CommitInfo) (e : Effect)
  | reply (h : Hdr) (op : Nat) (r : Reply)
  | faultAck (port tile record : Nat)
  | ownFault (record : Nat)
  | quiet
  deriving DecidableEq, Repr

/-- R428: an item that waits: the stream position that must be acknowledged, the cycle of its writing, and what
completes. -/
structure Waiting where
  pos : Nat
  since : Nat
  what : Completion
  deriving DecidableEq, Repr

/-! The command engine (R505 to R523) -/

/-- R513: one entry of the action record. -/
structure ActionRec where
  seq : Nat
  crc : Word
  op : Nat
  reply : Option Reply
  deriving DecidableEq, Repr

/-- One authority's side of the command engine and of the transactions (R45 to R52, R511, R513). -/
structure AuthState where
  opened : Option OpenTxn
  lastSeq : Nat
  outcomes : List TxnOutcome
  queue : List (Hdr × HostCmd)
  actions : List ActionRec
  maxAction : Nat
  deriving DecidableEq, Repr

/-- R509: a command packet being assembled from UDP segments. -/
structure UdpAssembly where
  port : Nat
  ip : Nat
  udpPort : Nat
  xid : Nat
  segs : Nat
  parts : List (Nat × List Byte)
  last : Nat
  deriving DecidableEq, Repr

/-- R512: a command that a standby has forwarded to the active. -/
structure Forwarded where
  hdr : Hdr
  op : Nat
  since : Nat
  deriving DecidableEq, Repr

/-- R519, R520: a TILE_CMD whose tiles have not all answered, with the opcode and the SEQ of its inner packet. -/
structure TileCmdWait where
  hdr : Hdr
  op : Nat
  seq : Nat
  single : Bool
  tiles : List Nat
  done : List (Nat × Nat)
  due : Nat
  deriving DecidableEq, Repr

/-- R265, R517: a BARRIER whose tiles have not all answered. -/
structure BarrierWait where
  hdr : Hdr
  id : Nat
  waiting : List Nat
  deriving DecidableEq, Repr

/-- R498: the running image being pushed along a chain: its FW_VER, the SEQ of its STAGE_END, the tiles that have not
answered, each with whether it is in MITTEN, those that have staged it, and those that wait for the next push. -/
structure Push where
  chain : Nat
  fwVer : Nat
  seq : Nat
  waiting : List (Nat × Bool)
  staged : List (Nat × Bool)
  later : List (Nat × Bool)
  deriving DecidableEq, Repr

/-! Time and the schedule (R390 to R405) -/

/-- R403: what a scheduled action does. -/
inductive SchedAct where
  | hatband (kind id portMask : Nat)
  | snapshot (id content : Nat)
  | reset (level cause id : Nat)
  | step (delta : Int)
  | swapAt (epoch flip : Nat)
  deriving DecidableEq, Repr

/-- R403: a scheduled action, due at a wall time in units of 2^-40 ns. `late` marks one that a step or a warm restart
has passed over (R402, R405). -/
structure SchedEntry where
  due : Nat
  seq : Nat
  act : SchedAct
  late : Bool
  deriving DecidableEq, Repr

/-! The link (R216 to R271) -/

/-- R261: a message with ACK_REQ that has not been acknowledged. `tiles` are the tiles that still owe an ACK. -/
structure Unacked where
  port : Nat
  seq : Nat
  dst : Nat
  msg : LinkMsg
  tiles : List Nat
  sentAt : Nat
  tries : Nat
  deriving DecidableEq, Repr

/-- R258: a unit of a tile's own that waits for a gap. -/
structure OwnUnit where
  port : Nat
  dst : Nat
  msg : LinkMsg
  tiles : List Nat
  deriving DecidableEq, Repr

/-- R228: the last sequence values a receiver keeps of one source, newest first. -/
structure SeenSeqs where
  src : Nat
  seqs : List Nat
  deriving DecidableEq, Repr

/-- R246: the segments held of a source's command or response packets: SEQ, MORE and bytes of each, and the cycle of the
last. -/
structure Gather where
  src : Nat
  parts : List (Nat × Bool × List Byte)
  last : Nat
  deriving DecidableEq, Repr

/-- One link segment of the device (R233, R236): since when it is in its state, the cycles of the last HELLO received and
sent and of the last valid block, whether a valid HELLO and a HELLO_ACK have come, the next message number, whether this
sender is at the far end of the ring, and the time exchange that the port has open: its number, and the request's
departure on a master. -/
structure PortState where
  since : Nat
  lastHello : Nat
  sentHello : Nat
  lastBlock : Nat
  helloOk : Bool
  ackOk : Bool
  nextSeq : Nat
  far : Bool
  tseq : Nat
  reqAt : Nat
  sentT1 : Nat
  deriving DecidableEq, Repr

/-- R245: a SET held for its due flip, with the sequence number and source of its message. -/
structure HeldSet where
  seq : Nat
  port : Nat
  src : Nat
  msg : SetMsg
  deriving DecidableEq, Repr

/-- R243: a module table of one generation, with its entries by their index. `kept` says that it is the table of the
generation before, kept under the new number. -/
structure ModuleTable where
  gen : Nat
  total : Nat
  entries : List (Nat × ModuleEntry)
  kept : Bool
  deriving DecidableEq, Repr

/-! Faults (R255, R360, R501) -/

/-- R255, R360: the fault log: its records, oldest first, how many have been written, the last record number given,
and the device's own records that are not acknowledged. -/
structure FaultLog where
  recs : List FaultRec
  total : Nat
  lastRec : Nat
  unacked : List Nat
  deriving DecidableEq, Repr

/-- R501, R531, R543, R554: a fault that is recorded after the next start, as class, code and DETAIL. -/
structure PendingFault where
  cls : Nat
  code : Nat
  detail : List Byte
  deriving DecidableEq, Repr

/-! Reset, clocks, temperature and supply (R539 to R567) -/

/-- R541, R542: a reset that is held: its level and source, the cycles of its assertion and of the end of its hold,
the straps sampled at a RESET_N edge, and whether it also waits for the die to cool (R554). -/
structure HeldReset where
  level : Nat
  src : Nat
  since : Nat
  until_ : Nat
  straps : Option (Nat × Bool)
  hot : Bool
  deriving DecidableEq, Repr

/-- R545, R547: a block in reset, since a cycle. -/
structure BlockReset where
  block : Nat
  since : Nat
  deriving DecidableEq, Repr

/-- R539 to R550: the reset controller. `restarts` counts resets of any level since the last L0 reset (R237); `pllSince` gives the cycle in which each PLL last locked. -/
structure RstState where
  held : Option HeldReset
  testMode : Bool
  fuseFault : Bool
  blocks : List BlockReset
  pllSince : List (Nat × Nat)
  restarts : Nat
  deriving DecidableEq, Repr

/-- R555, R556: a remote temperature input: its last good results, newest first, and its runs of failing and good
conversions. -/
structure RemoteIn where
  last : List Int
  bad : Nat
  good : Nat
  deriving DecidableEq, Repr

/-- R551 to R560: the thermal monitor and the supply watch. `shut` counts conversions at or above SHUT_C, `peak` is the
hottest since then, `shedLevels` is the fixed number of shed levels and `shedViews` the views shed, in order; `wantDiv` is the value of CORE_DIV that the level asks for; `rails`
are the supply inputs with a block average; `acSince` is the wall time at which AC_FAIL_N asserted. -/
structure ThmState where
  hottest : Int
  shut : Nat
  peak : Option (Int × Nat)
  shedLevels : Option Nat
  shedViews : List Nat
  wantDiv : Nat
  remote : List (Nat × RemoteIn)
  rails : List Nat
  acSince : Option Nat
  deriving DecidableEq, Repr

/-! Start and firmware (R478 to R504) -/

/-- R481: the fuses. `levels` holds the reset-level fields of R539. -/
structure Fuses where
  levels : Nat
  factoryPerm : Bool
  fwKey0 : List Byte
  fwKey1 : List Byte
  pkHash0 : Nat
  pkHash1 : Nat
  revoked : Nat
  rollback : Nat
  devKey : List Byte
  uid : Nat
  macBase : Nat
  deriving DecidableEq, Repr

/-- R483: the NVM, region by region, as bytes; an erased region holds none. -/
structure Nvm where
  present : Bool
  hdr0 : List Byte
  hdr1 : List Byte
  slotA : List Byte
  slotB : List Byte
  set0 : List Byte
  set1 : List Byte
  log : List FaultRec
  logTotal : Nat
  deriving DecidableEq, Repr

/-- R478: where a start stands. -/
inductive Phase where
  | reset | fuses | clocks | nvm | processors | entry | warm | done
  deriving DecidableEq, Repr

/-- R478 to R500: the start. `entered` is the cycle of mode entry while the start is not proven; `dram` says that the
DRAM training has ended well. -/
structure BootState where
  phase : Phase
  since : Nat
  mitten : Bool
  hdr : List Byte
  dram : Option Bool
  entered : Option Nat
  faults : List PendingFault
  deriving DecidableEq, Repr

/-! External memory (R452 to R477) -/

/-- R470, R471: what the controller keeps of one channel: the cycle of its last request, the drift it last measured,
whether an accepted correction waits for the next refresh, since when it waits for a retraining, and the DQ delays of
the run that the next one must repeat. -/
structure DramChannel where
  lastReq : Nat
  drift : Option Int
  correct : Bool
  waits : Option Nat
  late : Bool
  delays : List Int
  deriving DecidableEq, Repr

/-- R455 to R471: external memory, by bursts of 64 bytes (none: the burst has not been written since the reset, R594);
the latent uncorrectable words of bursts; the open row of each bank; the corrected bursts that wait for their
write-back; the neighbour refreshes that wait (channel, bank, row); and the channels. -/
structure DramState where
  mem : List (Nat × List Byte)
  bad : List (Nat × Nat)
  rows : List (Nat × Nat)
  writeBacks : List Nat
  neighbours : List (Nat × Nat × Nat)
  intervals : List (Nat × Nat)
  chans : List (Nat × DramChannel)
  deriving DecidableEq, Repr

/-! Check units (R528 to R538) -/

/-- R528: the parameters of a check value. -/
structure CrcParams where
  width : Nat
  poly : Nat
  init : Nat
  refin : Bool
  refout : Bool
  invert : Bool
  deriving DecidableEq, Repr

/-- R533 to R535: what a general unit latched at START, its accumulator, and whether its next FINISH reports FIRST. -/
structure ChkUnit where
  params : CrcParams
  compare : Bool
  aliveW : Nat
  acc : Nat
  first : Bool
  deriving DecidableEq, Repr

/-! Network ports (R118 to R141) -/

/-- R130: a time stamp: its direction, the wall time in units of 2^-16 ns, and the PTP message it belongs to. -/
structure Stamp where
  tx : Bool
  time : Nat
  domain : Nat
  kind : Nat
  seq : Nat
  deriving DecidableEq, Repr

/-- R127, R128: a frame to be sent: its bytes up to its FCS. -/
structure TxFrame where
  bytes : List Byte
  deriving DecidableEq, Repr

/-- R127 to R133: a network port: firmware's copy of the event bits and its counters, the time stamps queued, the two
sources of frames, whether the packetisers were served last, and the frame that is leaving with the bytes of it that
the transmit store held. -/
structure NetPort where
  fwEvents : Nat
  counters : List Nat
  stamps : List Stamp
  sendQ : List TxFrame
  monQ : List TxFrame
  monLast : Bool
  leaving : Option (TxFrame × Nat)
  deriving DecidableEq, Repr

/-! Wall time (R390 to R417) -/

/-- R397: a master that a domain has heard: its port, its identity, its Announce, the interval of its Announce, the cycle
of its last one, and the logSyncInterval of its last Sync. -/
structure Master where
  port : Nat
  source : Nat
  msg : AnnounceMsg
  interval : Int
  heard : Nat
  sync : Int
  deriving DecidableEq, Repr

/-- R396: the Sync that an exchange uses: its source and port, its number, its correction, t1 once known, and t2. -/
structure SyncHeld where
  port : Nat
  source : Nat
  seq : Nat
  corr : Int
  t1 : Option Int
  t2 : Option Int
  deriving DecidableEq, Repr

/-- R396 to R398: a PTP domain. `offsets` and `delays` hold the last 8 valid exchanges, newest first, in units of
2^-16 ns; `valids` the cycles of the valid exchanges. -/
structure PtpDomain where
  masters : List Master
  best : Option (Nat × Nat)
  sync : Option SyncHeld
  reqSeq : Nat
  reqAt : Nat
  reqInterval : Option Int
  offsets : List Int
  delays : List Int
  valids : List Nat
  usableSince : Option Nat
  metadata : Option (TimeField × List Byte)
  deriving DecidableEq, Repr

/-- R408, R410: an event output: whether it drives its active level and until when, the number of its next periodic
pulse, the wall time after which pulses start, and whether a ONCE has fired. -/
structure EvtOut where
  on : Bool
  until_ : Nat
  k : Nat
  since : Nat
  fired : Bool
  deriving DecidableEq, Repr

/-- R249: an exchange of the slave of a segment: its port and number, and t2 and t3 in units of 2^-16 ns. -/
structure TimeExch where
  port : Nat
  tseq : Nat
  t2 : Int
  t3 : Int
  deriving DecidableEq, Repr

/-- R393 to R412: the servo: the last 8 valid offsets of the source in use, newest first, in units of 2^-16 ns; the run of
samples within LOCK_NS and the run beyond four times it; the two domains; the cycles of the last REF1PPS edge and of the
last chain exchange; and the event outputs. -/
structure TimeState where
  samples : List Int
  near : Nat
  far : Nat
  domA : PtpDomain
  domB : PtpDomain
  refEdge : Option Nat
  chainAt : Option Nat
  exch : List TimeExch
  outs : List (Nat × EvtOut)
  deriving DecidableEq, Repr

/-! Outputs -/

/-- What the device sends or drives, in the order in which it does so. Nothing in the model reads it back. -/
inductive Output where
  | reply (h : Hdr) (op : Nat) (r : Reply)
  | link (port : Nat) (u : LinkUnit)
  | relay (port : Nat) (u : LinkUnit)
  | udp (port ip udpPort : Nat) (payload : List Byte)
  | spi (bytes : List Byte)
  | forward (peer : Nat) (h : Hdr) (c : HostCmd)
  | frame (port : Nat) (f : TxFrame) (good : Bool)
  | toReceiver (port : Nat) (e : EthContent)
  | delayReq (port domain seq : Nat) (unicast : Option Nat)
  | tapFrame (tap : Nat) (alive : Option Nat) (again : Bool)
  | partner (port dseq : Nat) (m : PartnerMsg)
  | dramData (requester addr : Nat) (data : Option (List Byte))
  deriving DecidableEq, Repr

end Sys2Proof.Machine
end

