-- ==== Sys2Proof/Machine/VideoTypes.lean ====
section
/-! DEFINITION. The records of the video inputs: what a source descriptor holds. -/

namespace Sys2Proof.Machine

/-- R102: where a buffer starts and the storage layout it was written with; `tf` is the transfer function signalled with
its frame, and `doneAt` the wall time at which its frame became complete. -/
structure Layout where
  addr : Nat
  w : Nat
  h : Nat
  pitch : Nat
  sampling : Nat
  depth : Nat
  range : Nat
  tf : Option Nat
  doneAt : Nat
  deriving DecidableEq, Repr

/-- R98, R100: a frame being received: its buffer (none where it is not stored), its layout, the format measured, its
RTP time stamps, the stretches received (row, first pixel, pixels), the cycle in which its last write was
acknowledged, and whether it has become complete. -/
structure FrameIn where
  buf : Option Nat
  lay : Layout
  m : Measured
  ts : Nat
  ts2 : Option Nat
  got : List (Nat × Nat × Nat)
  ackAt : Option Nat
  done : Bool
  deriving DecidableEq, Repr

/-- R99 to R112: a source: its buffers with the oldest first, the newest complete buffer, the frame in progress, a whole
frame behind it whose completion is due, the cycle of its last complete frame, the cycle in which it last left ACTIVE,
whether HOLD_MS has passed since, and the transfer function of its last frame. -/
structure SrcState where
  order : List Nat
  newest : Option (Nat × Layout)
  writing : Option FrameIn
  closing : Option FrameIn
  lastFrame : Nat
  leftAt : Option Nat
  expired : Bool
  lastTf : Option (Option Nat)
  deriving DecidableEq, Repr

/-- R86 to R113: the sources, and the buffer that the scan-out in progress holds of each (R101). -/
structure VideoState where
  srcs : List (Nat × SrcState)
  held : List (Nat × Layout)
  deriving DecidableEq, Repr

end Sys2Proof.Machine
end

