-- ==== Sys2Proof/Machine/State.lean ====
section
/-! DEFINITION. The state of the block: every register, store, queue and record the spec gives it, as plain data, and
the state after reset. -/

namespace Sys2Proof.Machine

/-- Why the block stops with a fault. No command of the spec does so; the one reason is raised by no meaning and
stands so that the type is not empty (safe: an unreachable stop). -/
inductive Fault where
  /-- Raised by no command (safe). -/
  | none
  deriving DecidableEq, Repr

/-- Why a command has no meaning here. -/
inductive Refusal where
  /-- Raised by exec for a command whose meaning is not written (safe: the run stops). -/
  | notModelled (mnemonic : String)
  deriving DecidableEq, Repr

/-- The transactions and flips that both authorities share (R44, R64 to R76). -/
structure TxnState where
  shadow : ShadowSet
  accepted : List Accepted
  journal : List JournalRec
  tileSettings : List (Auth × Nat × Change)
  fences : List (Nat × Word)
  waits : List FenceWait
  deriving DecidableEq, Repr

/-- The command engine (R505 to R523). `staging` is TOTAL of the image being staged (R517). -/
structure CmdState where
  comm : Option Commission
  held : Option (List Byte)
  frameErr : Bool
  assemblies : List UdpAssembly
  forwards : List Forwarded
  tileCmds : List TileCmdWait
  barriers : List BarrierWait
  staging : Option Nat
  pushes : List Push
  deriving DecidableEq, Repr

/-- The flip sequence (R180 to R185, R64): the last flip and its wall time, the next one where a sequence runs, the Cuff length in
force and the one that follows a flip, what a tile knows of coming flips (R239), and the flip whose Cuff was the last
to open. -/
structure FlipState where
  last : Option Nat
  lastAt : Nat
  next : Option Nat
  cuffUs : Nat
  cuffNext : Option (Nat × Nat)
  known : List FlipMsg
  cuffed : Option Nat
  deriving DecidableEq, Repr

/-- The link (R216 to R271). `status` holds the cycle of each session's last TILE_STATUS, `hbPort` the port on which each
sender's HEARTBEAT last arrived (R259), `tstatAt` and `discSince` the cycle of the tile's last TILE_STATUS and its discards
since (R254), `sessSeen` the RESTARTS last seen of each source
(R228), and `snapDone` the tiles that have reported a snapshot done: its ID, the tile and the status (R265). -/
structure LinkState where
  ports : List (Nat × PortState)
  status : List (Nat × Nat)
  hbPort : List (Nat × Nat)
  tstatAt : Nat
  discSince : Nat
  unacked : List Unacked
  seen : List SeenSeqs
  gathers : List Gather
  rspGathers : List Gather
  heldSets : List HeldSet
  tables : List ModuleTable
  sessSeen : List (Nat × Nat)
  own : List OwnUnit
  snapDone : List (Nat × Nat × Nat)
  deriving DecidableEq, Repr

/-- The Module Map (R189): the active and the staging bank, as words by their index in the bank. -/
structure MapState where
  active : List (Nat × Word)
  staging : List (Nat × Word)
  deriving DecidableEq, Repr

/-- Replication (R425 to R432): the end of the stream, the position acknowledged, the items from their positions, and
what waits for an acknowledgement; on a standby, the end of the contiguous stream held and its items. -/
structure ReplState where
  pos : Nat
  acked : Nat
  items : List (Nat × ReplItem)
  waiting : List Waiting
  advanced : Nat
  held : Nat
  heldItems : List (Nat × ReplItem)
  deriving DecidableEq, Repr

/-- The state of the block. -/
structure State where
  pending : List Instr
  regs : List (Nat × Word)
  fresh : Nat
  cycles : Nat
  wall : Nat
  sent : List Output
  gen : AuthState
  gnt : AuthState
  txn : TxnState
  cmd : CmdState
  flip : FlipState
  sched : List SchedEntry
  link : LinkState
  map : MapState
  repl : ReplState
  faults : FaultLog
  rst : RstState
  thm : ThmState
  fuses : Fuses
  nvm : Nvm
  boot : BootState
  dram : DramState
  chk : List (Nat × ChkUnit)
  net0 : NetPort
  net1 : NetPort
  time : TimeState
  video : VideoState
  scan : ScanState
  lanes : LaneState
  tile : TileState
  lamp : LampState
  diag : DiagState
  snaps : List Snapshot
  red : RedState
  deriving DecidableEq, Repr

/-- An authority that has sent nothing. -/
def AuthState.fresh : AuthState := ⟨none, 0, [], [], [], 0⟩

/-- A network port after reset: counters at 0, and nothing queued (R133). -/
def NetPort.fresh : NetPort := ⟨0, List.replicate 16 0, [], [], [], false, none⟩

/-- A PTP domain that has heard nothing (R396, R397). -/
def PtpDomain.fresh : PtpDomain := ⟨[], none, none, 0, 0, none, [], [], [], none, none⟩

/-- A snapshot slot that holds nothing (R434). -/
def Slot.fresh : Slot := ⟨0, 0, 0, false, []⟩

/-- R539: the default level of each reset source, two bits for each code from 0x00 up (notes/assumptions/46.md). -/
def defaultLevels : Nat := (List.zipWith (fun i l => l * 4 ^ i) (List.range 14) [0, 0, 1, 1, 1, 1, 1, 0, 1, 2, 2, 1, 2, 3]).sum

/-- Fuses of which none is burned, with the default reset levels (notes/assumptions/46.md). -/
def Fuses.fresh : Fuses := ⟨defaultLevels, false, [], [], 0, 0, 0, 0, [], 0, 0⟩

/-- An NVM in which nothing has been written (notes/assumptions/46.md). -/
def Nvm.fresh : Nvm := ⟨true, [], [], [], [], [], [], [], 0⟩

/-- The block as its power-on reset ends (R31, R478, R540, R543): in BOOT, at the beginning of phase 1, with every register
at its reset value, wall time 0, and nothing stored or waiting. Its straps read as the tile role, its fuses and its NVM are
blank (notes/assumptions/46.md). -/
def State.reset : State where
  pending := []
  regs := []
  fresh := 0
  cycles := 0
  wall := 0
  sent := []
  gen := .fresh
  gnt := .fresh
  txn := ⟨⟨[], 0⟩, [], [], [], [], []⟩
  cmd := ⟨none, none, false, [], [], [], [], none, []⟩
  flip := ⟨none, 0, none, 500, none, [], none⟩
  sched := []
  link := ⟨[], [], [], 0, 0, [], [], [], [], [], [], [], [], []⟩
  map := ⟨[], []⟩
  repl := ⟨0, 0, [], [], 0, 0, []⟩
  faults := ⟨[], 0, 0, []⟩
  rst := ⟨none, false, false, [], [], 0⟩
  thm := ⟨0, 0, none, none, [], 0, [], [], none⟩
  fuses := .fresh
  nvm := .fresh
  boot := ⟨.fuses, 0, false, [], none, none, []⟩
  dram := ⟨[], [], [], [], [], [], []⟩
  chk := []
  net0 := .fresh
  net1 := .fresh
  time := ⟨[], 0, 0, .fresh, .fresh, none, none, [], []⟩
  video := ⟨[], []⟩
  scan := ⟨none, [], false, [], [], none⟩
  lanes := ⟨[], [], [], []⟩
  tile := ⟨[], [], 0, none, none, none, 0, none, false, false, [], (0, 0), [], []⟩
  lamp := ⟨none, [], [], [], [], [], [], [], [], none, [], [], none, false⟩
  diag := ⟨0, false, none, [], [], [], [], [], none⟩
  snaps := []
  red := ⟨none, none, none, 0, 0, 0, none, 0, .fresh, .fresh, none, 0, 0, false, 0, none, none, 0, [], false, 0, false, 0,
    none, 0, 0⟩

end Sys2Proof.Machine
end

