-- ==== Sys2Proof/Machine/Ops.lean ====
section
/-! DEFINITION. The named operations on the state: registers and their fields, events and counts, open values, the
clocks and wall time, and what the device sends. -/

namespace Sys2Proof.Machine

/-! Registers -/

/-- R157: the reset word of a coefficient word at byte offset `off` of its set. -/
def coefReset (off : Nat) : Nat :=
  let coef (i : Nat) : Nat :=
    if off / 4 < 256 then
      if i / 8 < 32 then (if i % 8 = 3 then 1024 else 0) else (if i % 8 = 4 then 1024 else 0)
    else
      if i / 6 < 32 then (if i % 6 = 2 then 1024 else 0) else (if i % 6 = 3 then 1024 else 0)
  let w := if off / 4 < 256 then off / 4 else off / 4 - 256
  coef (2 * w + 1) * 65536 + coef (2 * w)

/-- The word a register holds while nothing has been stored in it: its reset value (R157 and R323 for the tables,
R415 for domain A, the register tables elsewhere). -/
def regReset (a : Nat) : Word :=
  if 0x190000 ≤ a ∧ a < 0x1A0000 then BitVec.ofNat 32 (coefReset ((a - 0x190000) % 0x800))
  else if 0x282000 ≤ a ∧ a < 0x284000 then (if (a - 0x282000) / 4 % 8 = 0 then 0x00008000 else 0x80000000)
  else if a = 0x140100 then 0x8307007F
  else
    match findReg a with
    | some (r, _) => BitVec.ofNat 32 r.resetWord
    | none => 0

/-- The bits of a word that a field holds. -/
def Fld.of (f : Fld) (w : Word) : Nat := w.toNat / 2 ^ f.lo % 2 ^ (f.hi - f.lo + 1)

/-- A word with a field replaced. -/
def Fld.into (f : Fld) (v : Nat) (w : Word) : Word :=
  BitVec.ofNat 32 (w.toNat - f.of w * 2 ^ f.lo + v % 2 ^ (f.hi - f.lo + 1) * 2 ^ f.lo)

/-- The word a register holds. -/
def State.reg (s : State) (a : Nat) : Word := Sparse.get regReset s.regs a

/-- The state with a register's word replaced. -/
def State.setReg (s : State) (a : Nat) (w : Word) : State := { s with regs := Sparse.put regReset s.regs a w }

/-- The value of a register field. -/
def State.fld (s : State) (f : Fld) : Nat := f.of (s.reg f.addr)

/-- The state with a register field replaced; a value is taken modulo the field's width. -/
def State.setFld (s : State) (f : Fld) (v : Nat) : State := s.setReg f.addr (f.into v (s.reg f.addr))

/-- Whether a one-bit field is 1. -/
def State.flag (s : State) (f : Fld) : Bool := s.fld f == 1

/-- The state with a one-bit field set as a Boolean says. -/
def State.setFlag (s : State) (f : Fld) (b : Bool) : State := s.setFld f b.toNat

/-- A sticky event: its W1C bit becomes 1. -/
def State.event (s : State) (f : Fld) : State := s.setFld f 1

/-- A count that stops at its highest value. -/
def State.bump (s : State) (f : Fld) : State :=
  if s.fld f + 1 < 2 ^ (f.hi - f.lo + 1) then s.setFld f (s.fld f + 1) else s

/-- A count that stops at its highest value, raised by more than one. -/
def State.bumpBy (s : State) (f : Fld) (n : Nat) : State :=
  s.setFld f (min (s.fld f + n) (2 ^ (f.hi - f.lo + 1) - 1))

/-- A count that wraps. -/
def State.wrapInc (s : State) (f : Fld) : State := s.setFld f (s.fld f + 1)

/-- The event with its count. -/
def State.eventCount (s : State) (e c : Fld) : State := (s.event e).bump c

/-- Registers from `lo` up to but not including `hi` back at their reset words. -/
def State.clearRegs (s : State) (lo hi : Nat) : State := { s with regs := Sparse.eraseRange s.regs lo hi }

/-- A bit of a field, set as a Boolean says. -/
def State.setBit (s : State) (f : Fld) (i : Nat) (b : Bool) : State :=
  let v := s.fld f
  let rest := v - v / 2 ^ i % 2 * 2 ^ i
  s.setFld f (rest + b.toNat * 2 ^ i)

/-- A bit of a field. -/
def State.bit (s : State) (f : Fld) (i : Nat) : Bool := s.fld f / 2 ^ i % 2 == 1

/-- A signed field of `n` bits. -/
def signed (n v : Nat) : Int := if v % 2 ^ n < 2 ^ (n - 1) then (v % 2 ^ n : Nat) else ((v % 2 ^ n : Nat) : Int) - 2 ^ n

/-- A signed value in a field of `n` bits. -/
def unsigned (n : Nat) (v : Int) : Nat := (v % (2 ^ n : Nat)).toNat

/-! Roles and modes -/

/-- R31, R35: the six modes. -/
inductive Mode where
  | boot | mitten | sender | standby | tile | factory
  deriving DecidableEq, Repr

/-- R35: the value of a mode in SYS_MODE. -/
def Mode.code : Mode → Nat
  | .boot => 0 | .mitten => 1 | .sender => 2 | .standby => 3 | .tile => 4 | .factory => 5

/-- R35: the mode that a value of SYS_MODE.MODE names; 6 and 7 are not used. -/
def Mode.ofCode : Nat → Mode
  | 1 => .mitten | 2 => .sender | 3 => .standby | 4 => .tile | 5 => .factory | _ => .boot

/-- The mode the device is in (R31). -/
def State.mode (s : State) : Mode := Mode.ofCode (s.fld F.SYS_MODE_MODE)

/-- R34, R35: a move to a mode. MODE_CHANGES counts it and PREV_MODE keeps the mode left. -/
def State.setMode (s : State) (m : Mode) : State :=
  let prev := s.fld F.SYS_MODE_MODE
  ((s.setFld F.SYS_MODE_PREV_MODE prev).setFld F.SYS_MODE_MODE m.code).wrapInc F.SYS_MODE_MODE_CHANGES

/-- R24: the device has the tile role. -/
def State.tileRole (s : State) : Bool := s.fld F.SYS_STRAP_ROLE == 0

/-- R24: the device has the sender role. -/
def State.senderRole (s : State) : Bool := s.fld F.SYS_STRAP_ROLE == 1

/-- R449: the sender is configured with a partner. -/
def State.partnered (s : State) : Bool := s.flag F.RED_CTL_PARTNER_EN

/-- R425, R428: whether an item must wait for a standby: the active has one that counts. -/
def State.hasStandby (s : State) : Bool :=
  s.partnered && s.mode == .sender && s.flag F.RED_STAT_PARTNER_PRESENT

/-- R547: a block is held in reset. -/
def State.blockHeld (s : State) (b : Nat) : Bool := s.rst.blocks.any (fun x => x.block == b)

/-! Open values -/

/-- The next open value. Each call reads another one (notes/assumptions/2.md). -/
def State.freeValue (s : State) : Word := Config.freeWord s.fresh

/-- The state after an open value has been taken. -/
def State.drawn (s : State) : State := { s with fresh := s.fresh + 1 }

/-- `n` open bytes from a place in the sequence of open values. -/
def freeBytes (at_ : Nat) : Nat → List Byte
  | 0 => []
  | n + 1 => (Config.freeWord at_).setWidth 8 :: freeBytes (at_ + 1) n

/-! Clocks and wall time (R390, R391): wall time is held in units of 2^-40 ns, the unit of RATE. -/

/-- One nanosecond of wall time. -/
def nsUnit : Nat := 2 ^ 40

/-- Nanoseconds as wall time. -/
def ofNs (n : Nat) : Nat := n * nsUnit

/-- Microseconds as wall time. -/
def ofUs (n : Nat) : Nat := n * 1000 * nsUnit

/-- Milliseconds as wall time. -/
def ofMs (n : Nat) : Nat := n * 1000000 * nsUnit

/-- CLK_TIME cycles in a microsecond (R548). -/
def usCycles (n : Nat) : Nat := 500 * n

/-- CLK_TIME cycles in a millisecond. -/
def msCycles (n : Nat) : Nat := 500000 * n

/-- R391: what one CLK_TIME cycle adds to wall time. -/
def State.tickStep (s : State) : Nat := (2 ^ 41 + signed 32 (s.fld F.PTP_RATE_RATE)).toNat

/-- `n` CLK_TIME cycles pass. -/
def State.ticks (s : State) (n : Nat) : State :=
  { s with cycles := s.cycles + n, wall := s.wall + n * s.tickStep }

/-- R404: time passes up to the first CLK_TIME cycle whose wall time is at or after a wall time. -/
def State.untilWall (s : State) (due : Nat) : State :=
  s.ticks ((due - s.wall + s.tickStep - 1) / s.tickStep)

/-- Time passes up to a CLK_TIME cycle. -/
def State.untilCycle (s : State) (due : Nat) : State := s.ticks (due - s.cycles)

/-- R390: whole seconds of wall time. -/
def secOf (w : Nat) : Nat := w / (10 ^ 9 * nsUnit)

/-- R390: nanoseconds of wall time within its second. -/
def nsOf (w : Nat) : Nat := w / nsUnit % 10 ^ 9

/-- R390: FRAC of wall time, in units of 1/65,536 ns. -/
def fracOf (w : Nat) : Nat := w / 2 ^ 24 % 65536

/-- R516: a time field as wall time. -/
def timeWall (t : TimeField) : Nat := (t.sec * 10 ^ 9 + t.ns) * nsUnit + t.frac * 2 ^ 24

/-- Wall time as a time field. -/
def timeField (w : Nat) : TimeField := ⟨secOf w, nsOf w, fracOf w⟩

/-- R516: the 12 bytes of a time field. -/
def timeBytes (t : TimeField) : List Byte := leBytes 6 t.sec ++ leBytes 4 t.ns ++ leBytes 2 t.frac

/-- R390: a host time field whose nanoseconds exceed 999,999,999, or whose seconds do not fit, is out of range. -/
def timeOk (t : TimeField) : Bool := decide (t.ns ≤ 999999999) && decide (t.sec < 2 ^ 48)

/-! Flips (R180 to R185) -/

/-- R180: grid point m of a cadence, in units of 2^-16 ns, before the offset. -/
def gridTime (num den m : Nat) : Nat := m * den * 10 ^ 9 * 65536 / num

/-- R180: the time of grid point m as wall time, offset included. -/
def gridWall (num den : Nat) (offset : Int) (m : Nat) : Nat :=
  ((gridTime num den m : Int) + offset * 65536).toNat * 2 ^ 24

/-- R180: the least grid point at or after a wall time. -/
def gridFrom (num den : Nat) (offset : Int) (w : Nat) : Nat :=
  let x := (((w + 2 ^ 24 - 1) / 2 ^ 24 : Nat) : Int) - offset * 65536
  (x.toNat * num + den * 10 ^ 9 * 65536 - 1) / (den * 10 ^ 9 * 65536)

/-- R180: NUM of the cadence in force. -/
def State.flipNum (s : State) : Nat := s.fld F.CMP_FLIP_RATE_NUM
/-- R180: DEN of the cadence in force. -/
def State.flipDen (s : State) : Nat := s.fld F.CMP_FLIP_RATE_DEN
/-- R180: FLIP_OFFSET in ns. -/
def State.flipOffset (s : State) : Int := signed 32 (s.fld F.CMP_FLIP_OFFSET_OFFSET_NS)
/-- R180: BASE. -/
def State.flipBase (s : State) : Nat := s.fld F.CMP_FLIP_BASE_LO_BASE + 2 ^ 32 * s.fld F.CMP_FLIP_BASE_HI_BASE

/-- R180: t(n), the time of flip n as the sender computes it. -/
def State.senderFlipTime (s : State) (n : Nat) : Nat :=
  gridWall s.flipNum s.flipDen s.flipOffset ((n + 2 ^ 64 - s.flipBase) % 2 ^ 64)

/-- R239: the FLIP that a tile holds for a flip number. -/
def State.knownFlip (s : State) (n : Nat) : Option FlipMsg := s.flip.known.find? (fun f => f.num == n)

/-- R341: the flip period that LMB_SCAN_RATE gives, as wall time. -/
def State.lampPeriod (s : State) : Nat := gridTime (max 1 (s.fld F.LMB_SCAN_RATE_NUM)) (s.fld F.LMB_SCAN_RATE_DEN) 1 * 2 ^ 24

/-- t(n): on a sender by R180, on a tile by the FLIP it holds; a tile without it expects the flip one period of
LMB_SCAN_RATE after the last (notes/assumptions/11.md). -/
def State.flipTime (s : State) (n : Nat) : Nat :=
  if s.tileRole then
    (s.knownFlip n).elim (s.flip.lastAt + (n - s.flip.last.getD 0) * s.lampPeriod) (fun f => timeWall f.time)
  else s.senderFlipTime n

/-- R180: the flip period of the cadence in force, rounded down, as wall time. -/
def State.flipPeriod (s : State) : Nat := gridTime s.flipNum s.flipDen 1 * 2 ^ 24

/-- R181: the view of flip n. -/
def State.viewOfFlip (s : State) (n : Nat) : Nat :=
  let k := n % (max 1 (s.fld F.CMP_FLIP_SEQ_CTL_SEQ_LEN))
  if k < 8 then s.fld F.CMP_FLIP_SEQ0_ENTRY / 16 ^ k % 8 else s.fld F.CMP_FLIP_SEQ1_ENTRY / 16 ^ (k - 8) % 8

/-- R182: the enabled views. -/
def State.enabledViews (s : State) : List Nat := (List.range 8).filter (fun v => s.flag (F.CMP_VIEW_CTL_EN v))

/-- R395, R66: a sender runs its flip sequence while STEPPED is 1 or SOURCE is FREE, and a view is enabled; a tile has
one while STEPPED is 1 and it holds a FLIP for a flip to come (notes/assumptions/11.md). -/
def State.sequenceRuns (s : State) : Bool :=
  if s.tileRole then s.flag F.PTP_STAT_STEPPED && s.flip.next.isSome
  else (s.flag F.PTP_STAT_STEPPED || s.fld F.PTP_CTL_SOURCE == 2) && !s.enabledViews.isEmpty

/-- The number of the next flip: the one held, or the first whose time has not come. -/
def State.nextFlip (s : State) : Nat :=
  s.flip.next.getD
    ((gridFrom s.flipNum s.flipDen s.flipOffset s.wall + s.flipBase) % 2 ^ 64)

/-- R64, R67: the Cuff length that applies to flip n, as wall time. -/
def State.cuffOf (s : State) (n : Nat) : Nat :=
  match s.flip.cuffNext with
  | some (f, c) => if f < n then ofUs c else ofUs s.flip.cuffUs
  | none => ofUs s.flip.cuffUs

/-- R64: the wall time at which the Cuff of flip n opens. -/
def State.cuffOpens (s : State) (n : Nat) : Nat := s.flipTime n - s.cuffOf n

/-- R64, R68: the Cuff of flip n opened in an earlier cycle than the present one. An arrival in the cycle of the
opening is before the Cuff. -/
def State.cuffIsOpen (s : State) (n : Nat) : Bool := decide (s.cuffOpens n + s.tickStep ≤ s.wall)

/-- R592: value a is later than value b as a 32-bit serial number. -/
def laterSerial (a b : Nat) : Bool :=
  let d := (a % 2 ^ 32 + 2 ^ 32 - b % 2 ^ 32) % 2 ^ 32
  decide (1 ≤ d ∧ d ≤ 2147483647)

/-- R553: the divisor of CLK_CORE that the throttle level asks for takes effect: on a sender at a latch, on a tile at the
start of a build. -/
def State.latchDiv (s : State) : State := s.setFld F.CLK_THROTTLE_CORE_DIV s.thm.wantDiv

/-! Lead time (R264) -/

/-- R264: H, the tiles of the longest chain. -/
def State.hops (s : State) : Nat := s.fld F.MLK_LEAD_HOPS

/-- R264: L(H) as wall time. -/
def State.leadTime (s : State) : Nat := ofNs (50000 + 400 * s.hops)

/-! Authorities -/

/-- One authority's state. -/
def State.auth (s : State) : Auth → AuthState
  | .general => s.gen
  | .gauntlet => s.gnt

/-- The state with one authority's state replaced. -/
def State.setAuth (s : State) (a : Auth) (x : AuthState) : State :=
  match a with
  | .general => { s with gen := x }
  | .gauntlet => { s with gnt := x }

/-- R42: the authority byte. -/
def authCode : Auth → Nat
  | .general => 1
  | .gauntlet => 2

/-- The index of an authority's registers (R83). -/
def authIdx : Auth → Nat
  | .general => 0
  | .gauntlet => 1

/-! Sending -/

/-- The device sends or drives something. -/
def State.send (s : State) (o : Output) : State := { s with sent := s.sent ++ [o] }

/-- A response with a status and no body (R507). -/
def bareReply (x : Status) : Reply := ⟨x, .none, []⟩

/-- A response OK with a body (R507). -/
def okReply (b : List Byte) : Reply := ⟨.ok, .none, b⟩

end Sys2Proof.Machine
end

