-- ==== Sys2Proof/Machine/LinkOps.lean ====
section
/-! DEFINITION. Sending on Moltin Link: ports, message numbers, the record of unacknowledged messages, and fault records
(R220 to R262). -/

namespace Sys2Proof.Machine

/-- R233: the state value of a port: 0 DOWN, 1 HELLO, 2 UP, 3 HELLO_FAIL. -/
def State.portUp (s : State) (p : Nat) : Bool := s.fld (F.MLK_PORT_STAT_STATE p) == 2

/-- The ports of the device: 8 chain ports on a sender, 2 on a tile (R216). -/
def State.portList (s : State) : List Nat := if s.tileRole then [0, 1] else List.range 8

/-- The record of a port. -/
def State.port (s : State) (p : Nat) : PortState :=
  ((s.link.ports.find? (fun x => x.1 == p)).map (·.2)).getD ⟨0, 0, 0, 0, false, false, 1, false, 0, 0, 0⟩

/-- The state with a port's record replaced. -/
def State.setPort (s : State) (p : Nat) (x : PortState) : State :=
  { s with link := { s.link with ports := (s.link.ports.filter (fun y => y.1 != p)) ++ [(p, x)] } }

/-- R228: the message number after a number. -/
def nextMsgSeq (n : Nat) : Nat := if n % 2 ^ 32 = 0xFFFFFFFF then 1 else n + 1

/-- R222: the claim tag of a claim. -/
def claimTag (c : Claim) : Nat := c.rank % 2 * 2 ^ 15 + c.epoch % 2 ^ 15

/-- The highest claim seen (R33). -/
def State.claim (s : State) : Claim := ⟨s.fld F.MLK_CLAIM_EPOCH_EPOCH, s.fld F.MLK_CLAIM_RANK⟩

/-- R33: one claim outranks another. -/
def outranks (a b : Claim) : Bool := decide (a.epoch > b.epoch ∨ (a.epoch = b.epoch ∧ a.rank < b.rank))

/-- A tile's own address (R220). -/
def State.ownAddr (s : State) : Nat :=
  if s.senderRole then (if s.fld F.RED_STAT_RANK = 0 then 0x8000 else 0x8001) else s.fld F.MLK_STAT_ADDR

/-- The tile's active port (R253). -/
def State.activePort (s : State) : Nat := s.fld F.MLK_STAT_ACTIVE_PORT

/-- R229: whether a message asks for an acknowledgement. -/
def asksAck : LinkMsg → Bool
  | .moduleTable .. | .mapGen .. | .set .. | .cmd .. | .rsp .. | .hatband .. | .snapshot .. | .reset .. => true
  | _ => false

/-- R228, R261: a message leaves a port with the next number of the port's series; one with ACK_REQ is kept until
every destination has acknowledged it. -/
def State.emitMsg (s : State) (p dst : Nat) (m : LinkMsg) (tiles : List Nat) : State :=
  let x := s.port p
  let s1 := (s.setPort p { x with nextSeq := nextMsgSeq x.nextSeq }).send (.link p (.msg dst (asksAck m) false m))
  if asksAck m then
    { s1 with link := { s1.link with unacked := s1.link.unacked ++ [⟨p, x.nextSeq, dst, m, tiles, s1.cycles, 0⟩] } }
  else s1

/-- A sender's message leaves at once; a tile's own unit waits for its turn (R258). -/
def State.sendMsg (s : State) (p dst : Nat) (m : LinkMsg) (tiles : List Nat) : State :=
  if s.tileRole then { s with link := { s.link with own := s.link.own ++ [⟨p, dst, m, tiles⟩] } }
  else s.emitMsg p dst m tiles

/-- The chain port of a tile address (R15). -/
def chainOf (tile : Nat) : Nat := tile / 64 % 8

/-- The open sessions of a chain, as tile addresses. -/
def State.chainTiles (s : State) (c : Nat) : List Nat :=
  (((List.range 64).map (fun k => 64 * c + k)).filter (fun n => s.flag (F.MLK_SESS_STAT_OPEN n))).map
    (fun n => s.fld F.MLK_CTL_DOMAIN * 512 + n)

/-- A sender's message to one tile goes on that tile's chain port. -/
def State.sendTile (s : State) (tile : Nat) (m : LinkMsg) : State := s.sendMsg (chainOf tile) tile m [tile]

/-- A sender's message to every tile goes on every chain port whose segment is UP. -/
def State.sendAll (s : State) (m : LinkMsg) : State :=
  ((List.range 8).filter s.portUp).foldl (fun t p => t.sendMsg p 0xFFFF m (t.chainTiles p)) s

/-- R259: a tile's message to the active sender goes on its active port. -/
def State.sendActive (s : State) (m : LinkMsg) : State := s.sendMsg s.activePort 0x8002 m [0x8002]

/-- R259: a tile's message to both senders goes on both ports. -/
def State.sendBoth (s : State) (m : LinkMsg) : State := (s.sendMsg 0 0x8003 m []).sendMsg 1 0x8003 m []

/-- Bytes in pieces of at most `n`. -/
def pieces (n : Nat) : Nat → List Byte → List (List Byte)
  | 0, _ => []
  | _ + 1, [] => []
  | k + 1, bs => bs.take n :: pieces n k (bs.drop n)

/-- R246: a packet in segments. -/
def segments (n : Nat) (bs : List Byte) : List (List Byte) :=
  if bs.isEmpty then [[]] else pieces n (bs.length / n + 1) bs

/-- R246: the segments of a packet, each with MORE. -/
def withMore (n : Nat) (bs : List Byte) : List (List Byte × Bool) :=
  (segments n bs).zipIdx.map (fun (x : List Byte × Nat) => (x.1, decide (x.2 + 1 < (segments n bs).length)))

end Sys2Proof.Machine
end

