-- ==== Sys2Proof/Machine/Packet.lean ====
section
/-! DEFINITION. Command and response packets (R505 to R507, R515, R516): opcodes, payloads as bytes, and responses. -/

namespace Sys2Proof.Machine

/-- R516: the opcode of a command. -/
def opcodeOf : HostCmd → Nat
  | .identify => 0x0001 | .status => 0x0002 | .regRead .. => 0x0003 | .logRead .. => 0x0004 | .querySeq .. => 0x0005
  | .countersRead .. => 0x0006 | .countersClear .. => 0x0007 | .ptpMetadata .. => 0x0008
  | .beginTxn => 0x0010 | .write .. => 0x0011 | .commit => 0x0012 | .rollback => 0x0013 | .commitAll => 0x0014
  | .memWrite .. => 0x0020 | .memRead .. => 0x0021 | .fenceSignal .. => 0x0022
  | .hatband .. => 0x0030 | .snapshot .. => 0x0031 | .barrier .. => 0x0032 | .wallReset .. => 0x0033
  | .restep => 0x0034 | .swap => 0x0035 | .snapshotRead .. => 0x0036
  | .stageBegin .. => 0x0040 | .stageWrite .. => 0x0041 | .stageEnd => 0x0042 | .activate .. => 0x0043
  | .saveSettings => 0x0044 | .reset .. => 0x0045 | .commission .. => 0x0050 | .tileCmd .. => 0x0060
  | .factory op _ => 0x0070 + op % 16

/-- R513, R515, R516: the kind of a command; a WRITE is an action where its authority has no open transaction. -/
def kindOf (opened : Bool) : HostCmd → CmdKind
  | .identify | .status | .regRead .. | .logRead .. | .querySeq .. | .countersRead .. | .ptpMetadata ..
  | .memRead .. | .snapshotRead .. => .query
  | .beginTxn | .commit | .rollback | .commitAll => .transaction
  | .write .. => if opened then .transaction else .action
  | _ => .action

/-- R516: whether a command is General's alone. -/
def generalOnly : HostCmd → Bool
  | .countersClear .. | .commitAll | .hatband .. | .snapshot .. | .barrier .. | .wallReset .. | .restep | .swap
  | .stageBegin .. | .stageWrite .. | .stageEnd | .activate .. | .saveSettings | .reset .. | .commission ..
  | .factory .. => true
  | _ => false

/-- R516: whether the opcode is defined for the sender role. -/
def senderHas : HostCmd → Bool
  | .snapshotRead .. => false
  | _ => true

/-- R516: whether the opcode is defined for the tile role. -/
def tileHas : HostCmd → Bool
  | .countersRead .. | .countersClear .. | .ptpMetadata .. | .fenceSignal .. | .hatband .. | .snapshot .. | .barrier ..
  | .wallReset .. | .swap | .tileCmd .. => false
  | _ => true

/-- R516: whether a mode answers the command (R31, R499). -/
def answeredIn (m : Mode) : HostCmd → Bool
  | .identify | .status | .logRead .. | .reset .. => m != .boot
  | .regRead .. => m == .sender || m == .standby || m == .tile || m == .factory
  | .stageBegin .. | .stageWrite .. | .stageEnd => m == .sender || m == .standby || m == .tile || m == .mitten
  | .factory .. => m == .factory
  | _ => m == .sender || m == .standby || m == .tile

/-- R506: the tag length in force, 16 before the first commissioning. -/
def State.tagLen (s : State) : Nat := s.cmd.comm.elim 16 (·.tagLen)

/-- R506: the key of an authority. -/
def State.keyOf (s : State) (a : Auth) : List Byte :=
  match a with
  | .general => s.cmd.comm.elim [] (·.keyGen)
  | .gauntlet => s.cmd.comm.elim [] (·.keyGnt)

/-- R506: a tag: the first TAG_LEN bytes of the HMAC of a message. -/
def tagOf (key msg : List Byte) (n : Nat) : List Byte :=
  (leBytes 32 (Config.hmacSha256 key msg).toNat).take n

/-- R505: the 16 bytes of a header. -/
def headerBytes (op flags auth seq len : Nat) : List Byte :=
  [0xA9, 0x01] ++ leBytes 2 op ++ leBytes 1 flags ++ leBytes 1 auth ++ leBytes 4 seq ++ leBytes 3 len ++ [0, 0, 0]

/-- R505 to R507: the response packet. `plain` gives the zero tag of R507. -/
def State.responseBytes (s : State) (h : Hdr) (op : Nat) (r : Reply) (plain : Bool) : List Byte :=
  let body := leBytes 2 r.status.code ++ leBytes 2 r.flags.code ++ r.body
  let m := headerBytes (op % 0x8000 + 0x8000) 1 (authCode h.auth) h.seq body.length ++ body
  let c := m ++ leBytes 4 (crc32c m).toNat
  c ++ (if plain || s.cmd.comm.isNone then List.replicate s.tagLen 0 else tagOf (s.keyOf h.auth) c s.tagLen)

/-- R509: the UDP segments of a packet, each with its segment header. -/
def udpSegments (xid : Nat) (bs : List Byte) : List (List Byte) :=
  let ps := segments 8192 bs
  ps.mapIdx (fun i p => leBytes 4 xid ++ leBytes 1 i ++ leBytes 1 ps.length ++ [0, 0] ++ p)

/-- R508, R509, R246: a response packet leaves on the transport of its command. -/
def State.deliver (s : State) (via : Transport) (bs : List Byte) : State :=
  match via with
  | .hspi => ({ s with cmd := { s.cmd with held := some bs } }).event F.SYS_CMD_EVT_RSP_READY
  | .udp p ip up xid => (udpSegments xid bs).foldl (fun t seg => t.send (.udp p ip up seg)) s
  | .chain _ _ => (withMore 256 bs).foldl (fun t g => t.sendActive (.rsp g.1 g.2)) s

/-- R513: a recorded action keeps its response. -/
def recordReply (h : Hdr) (op : Nat) (r : Reply) (l : List ActionRec) : List ActionRec :=
  l.map (fun a => if a.seq = h.seq ∧ a.crc = h.crc ∧ a.op = op ∧ a.reply.isNone then { a with reply := some r } else a)

/-- A response leaves, signed under the key of its authority (R507). One of ERR_SEQ sets SYS_CMD_EVT.SEQ_ERR (R526). -/
def State.answer (s : State) (h : Hdr) (op : Nat) (r : Reply) : State :=
  let s1 := if r.status = .errSeq then s.event F.SYS_CMD_EVT_SEQ_ERR else s
  (s1.send (.reply h op r)).deliver h.via (s1.responseBytes h op r false)

/-- A recorded response, marked as such (R507). -/
def replayed (r : Reply) : Reply := { r with flags := { r.flags with replay := true } }

/-- The response of a command: recorded where the command is an action that has started, and delivered (R507, R513). -/
def State.respond (s : State) (h : Hdr) (op : Nat) (r : Reply) : State :=
  let a := s.auth h.auth
  (s.setAuth h.auth { a with actions := recordReply h op r a.actions }).answer h op r

/-- A response to a failure at check 3 or 4 of R510, with the zero tag. -/
def State.respondPlain (s : State) (h : Hdr) (op : Nat) (r : Reply) : State :=
  (s.send (.reply h op r)).deliver h.via (s.responseBytes h op r true)

/-- A response with a status and no body. -/
def State.refuse (s : State) (h : Hdr) (op : Nat) (x : Status) : State := s.respond h op (bareReply x)

end Sys2Proof.Machine
end

