-- ==== Sys2Proof/Machine/Journal.lean ====
section
/-! DEFINITION. Journal records as bytes (R53, R54), and the replication stream (R425 to R428). -/

namespace Sys2Proof.Machine

/-- R515: the CHANGE body of R54. -/
def changeBody (c : Change) : List Byte :=
  leBytes 4 c.addr ++ leBytes 2 c.target ++ leBytes 1 c.scope ++ [0] ++ leBytes 2 c.words.length ++ [0, 0] ++
    wordBytes c.words

/-- R54: the body of a COMMIT or RETIME record. -/
def commitBody (sec ns changes : Nat) (late immediate : Bool) : List Byte :=
  leBytes 8 sec ++ leBytes 4 ns ++ leBytes 2 changes ++ leBytes 1 (late.toNat + 2 * immediate.toNat) ++ [0]

/-- R54: type, authority, index, sequence number, SHADOW flag and body of a record. -/
def recParts : JournalRec → Nat × Auth × Nat × Nat × Bool × List Byte
  | .opened a q sh sec ns => (1, a, 0xFFFF, q, sh, leBytes 8 sec ++ leBytes 4 ns)
  | .change a q sh c => (2, a, c.index, q, sh, changeBody c)
  | .commit a q sh sec ns n l i => (3, a, 0xFFFF, q, sh, commitBody sec ns n l i)
  | .rollback a q sh st fi => (4, a, 0xFFFF, q, sh, leBytes 2 st.code ++ leBytes 2 fi)
  | .retime a q sh sec ns n l i => (5, a, 0xFFFF, q, sh, commitBody sec ns n l i)

/-- Bytes padded with zeros to a multiple of 4. -/
def pad4 (bs : List Byte) : List Byte := bs ++ List.replicate ((4 - bs.length % 4) % 4) 0

/-- R53: a journal record as bytes. -/
def recBytes (r : JournalRec) : List Byte :=
  let (ty, a, ix, q, sh, body) := recParts r
  let m := leBytes 1 ty ++ leBytes 1 (authCode a) ++ leBytes 2 ix ++ leBytes 4 q ++ leBytes 3 body.length ++
    leBytes 1 sh.toNat ++ pad4 body
  m ++ leBytes 4 (crc32c m).toNat

/-- R516: the payload length of a command that schedules an action. -/
def schedLen : HostCmd → Nat
  | .hatband .. => 24
  | .snapshot .. => 20
  | .wallReset .. => 20
  | .activate .. => 16
  | _ => 0

/-- R425: the body length of a stream item, with the tag length in force. -/
def itemBody (tag : Nat) : ReplItem → Nat
  | .journal r => 16 + (pad4 (recParts r).2.2.2.2.2).length
  | .memw _ d => 8 + d.length
  | .fence _ _ => 8
  | .sched _ c _ => 20 + tag + schedLen c
  | .fault _ => 32
  | .mapw _ ws => 4 + 4 * ws.length
  | .session _ _ _ => 28

/-- R425: the length of a stream item: its header and its body padded to a multiple of 4. -/
def itemLen (tag : Nat) (i : ReplItem) : Nat := 4 + (itemBody tag i + 3) / 4 * 4

/-- R426: the network port on which this sender speaks to its partner: the first port of NET_PATH whose link is up. -/
def State.pathPort (s : State) : Option Nat :=
  [0, 1].find? (fun p => s.fld F.RED_CTL_NET_PATH / 2 ^ p % 2 == 1 && s.fld (F.NET_STAT_LINK p) != 0)

/-- R426: a datagram to the partner leaves a network port with the next DSEQ. -/
def State.sendOn (s : State) (p : Nat) (m : PartnerMsg) : State :=
  { s with red := { s.red with dseq := (s.red.dseq + 1) % 2 ^ 32 } }.send (.partner p s.red.dseq m)

/-- R426: a datagram to the partner. -/
def State.sendPartner (s : State) (m : PartnerMsg) : State := s.pathPort.elim s (fun p => s.sendOn p m)

/-- R425, R426: the active writes an item to its replication stream, and sends it. A sender without a partner writes
none. -/
def State.append (s : State) (i : ReplItem) : State :=
  if s.partnered && s.mode == .sender then
    { s with repl := { s.repl with items := s.repl.items ++ [(s.repl.pos, i)], pos := s.repl.pos + itemLen s.tagLen i } }.sendPartner
      (.repl s.repl.pos [i])
  else s

/-- R53: a journal record is written, and goes into the stream of an active with a partner. -/
def State.record (s : State) (r : JournalRec) : State :=
  { s with txn := { s.txn with journal := s.txn.journal ++ [r] } }.append (.journal r)

/-- R428: something that completes when the standby has acknowledged the stream as it stands. -/
def State.await (s : State) (w : Completion) : State :=
  { s with repl := { s.repl with waiting := s.repl.waiting ++ [⟨s.repl.pos, s.cycles, w⟩] } }

end Sys2Proof.Machine
end

