-- ==== Sys2Proof/Machine/Faults.lean ====
section
/-! DEFINITION. Fault records: the fault log, folding, and the FAULT message of a tile (R255, R360, R501). -/

namespace Sys2Proof.Machine

/-- R255: the record number after a number. -/
def nextRec (n : Nat) : Nat := if n = 65535 then 1 else n + 1

/-- R255: DETAIL, as exactly 14 bytes. -/
def detail14 (bs : List Byte) : List Byte := (bs ++ List.replicate 14 0).take 14

/-- R360: one more occurrence of the unacknowledged record of a class and code. -/
def foldFault (own : List Nat) (cls code : Nat) (l : List FaultRec) : List FaultRec :=
  l.map (fun f => if f.cls = cls ∧ f.code = code ∧ own.contains f.record = true then
    { f with count := min (f.count + 1) 0xFFFF } else f)

/-- Whether the device holds an unacknowledged record of a class and code (R360). -/
def State.foldsFault (s : State) (cls code : Nat) : Bool :=
  s.faults.recs.any (fun f => f.addr == s.ownAddr && f.cls == cls && f.code == code && s.faults.unacked.contains f.record)

/-- R483, R501: a record goes into the persistent log. -/
def State.persist (s : State) (f : FaultRec) : State :=
  { s with nvm := { s.nvm with log := s.nvm.log ++ [f], logTotal := s.nvm.logTotal + 1 } }

/-- R37, R255: a record enters the fault log. -/
def State.logFault (s : State) (f : FaultRec) : State :=
  { s with faults := { s.faults with recs := s.faults.recs ++ [f], total := s.faults.total + 1 } }

/-- R255, R360, R501: a new record of the device. A tile sends its record to both senders; an active with a standby
replicates it (R425). -/
def State.newFault (s : State) (cls code : Nat) (detail : List Byte) : State :=
  let n := nextRec s.faults.lastRec
  let f : FaultRec := ⟨s.ownAddr, n, cls, code, 1, secOf s.wall, nsOf s.wall, detail14 detail⟩
  let s1 := s.logFault f
  let s2 := { s1 with faults := { s1.faults with lastRec := n } }
  let s3 := if cls = 6 then s2.persist f else s2
  if s3.tileRole then
    { s3 with faults := { s3.faults with unacked := s3.faults.unacked ++ [n] } }.sendBoth (.fault f)
  else
    let s4 := s3.append (.fault f)
    if s4.hasStandby then
      { s4 with faults := { s4.faults with unacked := s4.faults.unacked ++ [n] } }.await (.ownFault n)
    else s4

/-- One more occurrence in the unacknowledged record of a class and code (R360). -/
def State.foldInto (s : State) (cls code : Nat) : State :=
  { s with faults := { s.faults with recs := foldFault s.faults.unacked cls code s.faults.recs } }

/-- R255, R256, R360, R501: the device records a fault of its own. While a record of the code is unacknowledged, the
fault is folded into its count. A tile that holds 63 unacknowledged records folds any other into a QUEUE_OVF record. -/
def State.fault (s : State) (cls code : Nat) (detail : List Byte) : State :=
  if s.foldsFault cls code then s.foldInto cls code
  else if s.tileRole ∧ 63 ≤ s.faults.unacked.length then
    if s.foldsFault 1 4 then (s.foldInto 1 4).event F.MLK_EVT_FAULT_OVF
    else (s.newFault 1 4 []).event F.MLK_EVT_FAULT_OVF
  else s.newFault cls code detail

/-- A fault to be recorded once the device can log again (R501, R531, R543, R554). -/
def State.faultLater (s : State) (cls code : Nat) (detail : List Byte) : State :=
  { s with boot := { s.boot with faults := s.boot.faults ++ [⟨cls, code, detail⟩] } }

/-- The faults that waited are recorded. -/
def State.flushFaults (s : State) : State :=
  s.boot.faults.foldl (fun t f => t.fault f.cls f.code f.detail) { s with boot := { s.boot with faults := [] } }

end Sys2Proof.Machine
end

