-- ==== Sys2Proof/Machine/Check.lean ====
section
/-! DEFINITION. The check-value units (R528 to R538). -/

namespace Sys2Proof.Machine

/-- R528: the accumulator at the start. -/
def crcStart (p : CrcParams) : Nat := p.init % 2 ^ p.width

/-- R528: bytes taken in order. -/
def crcFeed (p : CrcParams) (acc : Nat) (bs : List Byte) : Nat := crcBytes p.width p.poly p.refin acc bs

/-- R528: the result. -/
def crcFinish (p : CrcParams) (acc : Nat) : Nat := crcResult p.width p.refout p.invert acc

/-- R529: CRC-32C. -/
def paramsCrc32c : CrcParams := ⟨32, 0x1EDC6F41, 0xFFFFFFFF, true, true, true⟩

/-- R529: the echo CRC-16. -/
def paramsEcho : CrcParams := ⟨16, 0x1021, 0xFFFF, false, false, false⟩

/-- R529: the return CRC-8. -/
def paramsReturn : CrcParams := ⟨8, 0x07, 0x00, false, false, false⟩

/-- The record of a general unit. -/
def State.chkUnit (s : State) (n : Nat) : ChkUnit :=
  ((s.chk.find? (fun x => x.1 == n)).map (·.2)).getD ⟨paramsCrc32c, false, 0, 0, true⟩

/-- The state with a unit's record replaced. -/
def State.setChkUnit (s : State) (n : Nat) (u : ChkUnit) : State :=
  { s with chk := s.chk.filter (fun x => x.1 != n) ++ [(n, u)] }

/-- R533: the parameters that START latches: those of PRESET, or those of the registers. -/
def State.chkParams (s : State) (n : Nat) : CrcParams :=
  match s.fld (F.CHK_U_CFG_PRESET n) with
  | 1 => paramsCrc32c
  | 2 => paramsEcho
  | 3 => paramsReturn
  | _ =>
    ⟨s.fld (F.CHK_U_CFG_WIDTH n),
     s.fld (F.CHK_U_POLY_LO_POLY n) + 2 ^ 32 * s.fld (F.CHK_U_POLY_HI_POLY n),
     s.fld (F.CHK_U_INIT_LO_INIT n) + 2 ^ 32 * s.fld (F.CHK_U_INIT_HI_INIT n),
     s.flag (F.CHK_U_CFG_REFIN n), s.flag (F.CHK_U_CFG_REFOUT n), s.flag (F.CHK_U_CFG_INVERT n)⟩

/-- R536: the configuration that START refuses: with PRESET 0, a WIDTH outside 8 to 64 or an ALIVE_W that is neither 0
nor 4 to 16. -/
def State.chkCfgFails (s : State) (n : Nat) : Bool :=
  let w := s.fld (F.CHK_U_CFG_WIDTH n)
  let a := s.fld (F.CHK_U_CFG_ALIVE_W n)
  s.fld (F.CHK_U_CFG_PRESET n) == 0 && (decide (w < 8 ∨ 64 < w) || decide (a ≠ 0 ∧ (a < 4 ∨ 16 < a)))

/-- R533, R536: START. An open check is discarded. -/
def State.chkStart (s : State) (n : Nat) : State :=
  if s.chkCfgFails n then (s.setFlag (F.CHK_U_STAT_OPEN n) false).event (F.CHK_U_EVT_CFG_ERR n)
  else
    let p := s.chkParams n
    let a := s.fld (F.CHK_U_CFG_ALIVE_W n)
    let u := s.chkUnit n
    (s.setFlag (F.CHK_U_STAT_OPEN n) true).setChkUnit n
      ⟨p, s.flag (F.CHK_U_CFG_CMP_EN n), a, crcStart p, u.first || u.aliveW != a⟩

/-- R533, R536: a DATA write feeds BYTES_M1 + 1 bytes, least significant first, into an open unit. -/
def State.chkData (s : State) (n : Nat) (v : Word) : State :=
  if s.flag (F.CHK_U_STAT_OPEN n) then
    let u := s.chkUnit n
    s.setChkUnit n { u with acc := crcFeed u.params u.acc (leBytes (s.fld (F.CHK_U_CFG_BYTES_M1 n) + 1) v.toNat) }
  else s.event (F.CHK_U_EVT_NOT_STARTED n)

/-- R535: the outcomes of the alive check. -/
inductive Alive where
  | none | first | ok | again | skip | stale
  deriving DecidableEq, Repr

/-- R535: the value of ALIVE_RES. -/
def Alive.code : Alive → Nat
  | .none => 0 | .first => 1 | .ok => 2 | .again => 3 | .skip => 4 | .stale => 5

/-- R535: the outcome of a FINISH with ALIVE_W `a`. -/
def judgeAlive (a : Nat) (first : Bool) (alive last : Nat) : Alive :=
  if a = 0 then .none
  else if first then .first
  else
    let d := (alive % 2 ^ a + 2 ^ a - last % 2 ^ a) % 2 ^ a
    if d = 1 then .ok
    else if d = 0 then .again
    else if d < 2 ^ (a - 1) then .skip
    else .stale

/-- R535: what the alive check leaves. -/
def State.chkAlive (s : State) (n : Nat) (x : Alive) (alive : Nat) : State :=
  let s1 := s.setFld (F.CHK_U_STAT_ALIVE_RES n) x.code
  match x with
  | .none => s1
  | .first | .ok => s1.setFld (F.CHK_U_STAT_LAST_ALIVE n) alive
  | .again => (s1.event (F.CHK_U_EVT_REPEAT n)).bump (F.CHK_U_CNT_ALIVE_ERR_COUNT n)
  | .skip => (s1.event (F.CHK_U_EVT_SKIP n)).setFld (F.CHK_U_STAT_LAST_ALIVE n) alive
  | .stale => (s1.event (F.CHK_U_EVT_STALE n)).bump (F.CHK_U_CNT_ALIVE_ERR_COUNT n)

/-- R534: the comparison of a result with EXPECT in w bits. -/
def State.chkCompare (s : State) (n : Nat) (u : ChkUnit) (r : Nat) : State :=
  if u.compare then
    let e := s.fld (F.CHK_U_EXP_LO_EXPECT n) + 2 ^ 32 * s.fld (F.CHK_U_EXP_HI_EXPECT n)
    if r = e % 2 ^ u.params.width then s.setFlag (F.CHK_U_STAT_MATCH n) true
    else ((s.setFlag (F.CHK_U_STAT_MATCH n) false).event (F.CHK_U_EVT_MISMATCH n)).bump (F.CHK_U_CNT_MISMATCH_COUNT n)
  else s

/-- R533 to R536: FINISH forms and compares the result, judges the alive count, and closes the unit. -/
def State.chkFinish (s : State) (n alive : Nat) : State :=
  if s.flag (F.CHK_U_STAT_OPEN n) then
    let u := s.chkUnit n
    let r := crcFinish u.params u.acc
    let s1 := (s.setFld (F.CHK_U_RES_LO_RESULT n) r).setFld (F.CHK_U_RES_HI_RESULT n) (r / 2 ^ 32)
    let s2 := s1.chkCompare n u r
    let x := judgeAlive u.aliveW u.first alive (s2.fld (F.CHK_U_STAT_LAST_ALIVE n))
    ((s2.chkAlive n x (alive % 2 ^ u.aliveW)).setFlag (F.CHK_U_STAT_OPEN n) false).setChkUnit n { u with first := u.first && u.aliveW == 0 }
  else s.event (F.CHK_U_EVT_NOT_STARTED n)

/-- R535: RESYNC: the next FINISH reports FIRST. -/
def State.chkResync (s : State) (n : Nat) : State := s.setChkUnit n { s.chkUnit n with first := true }

/-- R538: a write of OP. -/
def State.chkOp (s : State) (n : Nat) (v : Word) : State :=
  match v.toNat / 2 ^ 28 with
  | 1 => s.chkStart n
  | 2 => s.chkFinish n (v.toNat % 65536)
  | 3 => s.chkResync n
  | _ => s

/-- R530: there are eight general units. -/
def execChkStart (unit : Nat) (s : State) : Host.Outcome State Fault Refusal :=
  .next (if unit < 8 then s.chkStart unit else s)

def execChkData (unit : Nat) (value : Word) (s : State) : Host.Outcome State Fault Refusal :=
  .next (if unit < 8 then s.chkData unit value else s)

def execChkFinish (unit alive : Nat) (s : State) : Host.Outcome State Fault Refusal :=
  .next (if unit < 8 then s.chkFinish unit alive else s)

def execChkResync (unit : Nat) (s : State) : Host.Outcome State Fault Refusal :=
  .next (if unit < 8 then s.chkResync unit else s)

/-- R531: the self-test of the dedicated units: every accumulator computes the check of "123456789". `bad` holds the
units whose hardware fails, in the bits of CHK_DED_STAT. -/
def State.selfTest (s : State) (bad : Nat) : State :=
  let good := crc32c ("123456789".toList.map (fun c => BitVec.ofNat 8 c.toNat)) == 0xE3069283
  let fails := if good then bad % 16 / 2 * 2 else 14
  let s1 := s.setReg 0x080008 (BitVec.ofNat 32 (fails + 1))
  if fails = 0 then s1
  else (s1.event F.CHK_EVT_SELFTEST_FAIL).faultLater 9 1 ([0, 0, 0, 0] ++ leBytes 1 fails)

end Sys2Proof.Machine
end

