-- ==== Sys2Proof/Machine/Validate.lean ====
section
/-! DEFINITION. The checks of COMMIT (R57): the state validated, the rules of each chapter at their positions, and the
write budgets and scan-out times that they count. -/

namespace Sys2Proof.Machine

/-! The state validated -/

/-- R49, R65: a word with the RW and RWS bits of a register replaced. -/
def mergeWritable (a : Nat) (old new : Word) : Word :=
  match findReg a with
  | some (r, _) =>
    let m := BitVec.ofNat 32 (r.mask (fun x => x == .rw || x == .rws))
    (old &&& ~~~m) ||| (new &&& m)
  | none => old

/-- Whether a change writes a word from `lo` up to but not including `hi`. -/
def touches (lo hi : Nat) (c : Change) : Bool := decide (c.addr < hi ∧ lo < c.addr + 4 * c.words.length)

/-- The word of a change at an address, where the change writes it. -/
def wordAt (c : Change) (a : Nat) : Option Word :=
  if c.addr ≤ a ∧ (a - c.addr) % 4 = 0 then c.words[(a - c.addr) / 4]? else none

/-- A register word after changes are applied in their order (R57, R62). -/
def overlay (base : Nat → Word) (chs : List Change) (a : Nat) : Word :=
  chs.foldl (fun w c => (wordAt c a).elim w (mergeWritable a w)) (base a)

/-- The changes a device applies itself: those of SCOPE 0x00. -/
def ownChanges (chs : List Change) : List Change := chs.filter (fun c => c.scope == 0)

/-- R57: the register words that the domain would hold: those in force, every accepted commit still waiting for its
flip, and the changes of the transaction. -/
def State.validated (s : State) (chs : List Change) : Nat → Word :=
  overlay s.reg ((s.txn.accepted.flatMap (fun x => ownChanges x.changes)) ++ ownChanges chs)

/-- A field of the state validated. -/
def vf (v : Nat → Word) (f : Fld) : Nat := f.of (v f.addr)

/-- A one-bit field of the state validated. -/
def vb (v : Nat → Word) (f : Fld) : Bool := vf v f == 1

/-- R57: a rule over the words of some address ranges. It is judged where the transaction writes one of them; a
failure carries the lowest change index that does. -/
def rule (chs : List Change) (regions : List (Nat × Nat)) (fails : Bool) : List Nat :=
  match chs.find? (fun c => regions.any (fun r => touches r.1 r.2 c)) with
  | none => []
  | some c => if fails then [c.index] else []

/-! Memory and rates -/

/-- R455, R456: the end of the memory that buffers may use, in bytes: TOP less the reserved 512 MiB. -/
def State.bufferTop (s : State) : Nat := (s.fld F.DRC_TOP_TOP_MIB - 512) * 2 ^ 20

/-- R99: bytes per stored pixel of source s. -/
def srcBpp (v : Nat → Word) (i : Nat) : Nat :=
  if vf v (F.SDI_SRC_CODING_SAMPLING i) != 0 && vf v (F.SDI_SRC_CODING_DEPTH i) == 2 then 6 else 4

/-- The line pitch of source s in bytes. -/
def srcPitch (v : Nat → Word) (i : Nat) : Nat := 64 * vf v (F.SDI_SRC_PITCH_PITCH_64B i)

/-- R99: the buffer base of source s. -/
def srcBase (v : Nat → Word) (i : Nat) : Nat :=
  2 ^ 32 * vf v (F.SDI_SRC_BASE_HI_ADDR_HI i) + 4096 * vf v (F.SDI_SRC_BASE_LO_ADDR_LO i)

/-- A size rounded up to 4 KiB. -/
def up4k (n : Nat) : Nat := (n + 4095) / 4096 * 4096

/-- R99: the buffer stride of source s. -/
def srcStride (v : Nat → Word) (i : Nat) : Nat := up4k (srcPitch v i * vf v (F.SDI_SRC_RASTER_HEIGHT i))

/-- R99: the end of the buffer region of source s. -/
def srcEnd (v : Nat → Word) (i : Nat) : Nat := srcBase v i + vf v (F.SDI_SRC_CTL_NBUF i) * srcStride v i

/-- R88: the write rate of source s in bytes per second. -/
def srcRate (v : Nat → Word) (i : Nat) : Nat :=
  srcPitch v i * vf v (F.SDI_SRC_RASTER_HEIGHT i) * vf v (F.SDI_SRC_CODING_RATE_HZ i)

/-- The enabled source descriptors. -/
def enabledSrcs (v : Nat → Word) : List Nat := (List.range 16).filter (fun i => vb v (F.SDI_SRC_CTL_EN i))

/-- R88: the sum of the write rates. -/
def writeRate (v : Nat → Word) : Nat := ((enabledSrcs v).map (srcRate v)).sum

/-- R88: the write budget in bytes per second. -/
def writeBudget : Nat := 31850496000

/-- The address range of source descriptor s. -/
def srcRegion (i : Nat) : Nat × Nat := (0x100100 + 0x40 * i, 0x100140 + 0x40 * i)

/-- R87: source s breaks a rule that answers ERR_RANGE, field ranges apart. -/
def srcFails (top : Nat) (v : Nat → Word) (i : Nat) : Bool :=
  let others := (enabledSrcs v).filter (· != i)
  decide (srcEnd v i > top) ||
  decide (srcPitch v i < vf v (F.SDI_SRC_RASTER_WIDTH i) * srcBpp v i) ||
  others.any (fun j => decide (srcBase v i < srcEnd v j ∧ srcBase v j < srcEnd v i)) ||
  others.any (fun j =>
    if vb v (F.SDI_SRC_CTL_KIND i) then
      vb v (F.SDI_SRC_CTL_KIND j) &&
      vf v (F.SDI_SRC_FLOW_PORT_NET i) == vf v (F.SDI_SRC_FLOW_PORT_NET j) &&
      vf v (F.SDI_SRC_FLOW_DST_IPV4_DST i) == vf v (F.SDI_SRC_FLOW_DST_IPV4_DST j) &&
      vf v (F.SDI_SRC_FLOW_PORT_UDP_DST i) == vf v (F.SDI_SRC_FLOW_PORT_UDP_DST j)
    else !vb v (F.SDI_SRC_CTL_KIND j) && vf v (F.SDI_SRC_CTL_INPUT i) == vf v (F.SDI_SRC_CTL_INPUT j))

/-! Views and layers -/

/-- The enabled views of the state validated. -/
def viewsOf (v : Nat → Word) : List Nat := (List.range 8).filter (fun w => vb v (F.CMP_VIEW_CTL_EN w))

/-- SEQ_LEN, at least 1. -/
def seqLen (v : Nat → Word) : Nat := max 1 (vf v F.CMP_FLIP_SEQ_CTL_SEQ_LEN)

/-- R181: entry k of the flip sequence. -/
def seqEntry (v : Nat → Word) (k : Nat) : Nat :=
  if k < 8 then vf v F.CMP_FLIP_SEQ0_ENTRY / 16 ^ k % 8 else vf v F.CMP_FLIP_SEQ1_ENTRY / 16 ^ (k - 8) % 8

/-- The entries of the flip sequence within SEQ_LEN. -/
def seqEntries (v : Nat → Word) : List Nat := (List.range (seqLen v)).map (seqEntry v)

/-- R181: the entries of a view in one pass. -/
def entriesOf (v : Nat → Word) (w : Nat) : Nat := (seqEntries v).count w

/-- The address range of layer slot k of view w. -/
def layerRegion (w k : Nat) : Nat × Nat := (0x188000 + 0x1000 * w + 0x40 * k, 0x188040 + 0x1000 * w + 0x40 * k)

/-- The enabled layers of a view. -/
def layersOf (v : Nat → Word) (w : Nat) : List Nat :=
  (List.range 64).filter (fun k => vb v (F.CMP_LAYER_CTL_EN w k))

/-- R152, R99: bytes per pixel that a layer reads; none where it reads nothing. -/
def layerBpp (v : Nat → Word) (w k : Nat) : Nat :=
  match vf v (F.CMP_LAYER_CTL_KIND w k) with
  | 0 =>
    let i := vf v (F.CMP_LAYER_CTL_SRC w k)
    if vb v (F.SDI_SRC_CTL_EN i) then srcBpp v i else 0
  | 1 => if vf v (F.CMP_LAYER_BUF_FMT_FMT w k) == 2 then 8 else 4
  | _ => 0

/-- R148: the width of a layer on the canvas. -/
def layerW (v : Nat → Word) (w k : Nat) : Nat :=
  if vb v (F.CMP_LAYER_CTL_SCALE_EN w k) then vf v (F.CMP_LAYER_DST_SIZE_DST_W w k)
  else vf v (F.CMP_LAYER_CROP_SIZE_SRC_W w k)

/-- R148: the height of a layer on the canvas. -/
def layerH (v : Nat → Word) (w k : Nat) : Nat :=
  if vb v (F.CMP_LAYER_CTL_SCALE_EN w k) then vf v (F.CMP_LAYER_DST_SIZE_DST_H w k)
  else vf v (F.CMP_LAYER_CROP_SIZE_SRC_H w k)

/-- The part of an interval that starts at `x` with length `n` within 0 to `limit - 1`. -/
def clipLen (x : Int) (n limit : Nat) : Nat :=
  (min (x + n) (limit : Int) - max x 0).toNat

/-- R148: the area of a layer's rectangle clipped to the canvas. -/
def layerArea (v : Nat → Word) (w k : Nat) : Nat :=
  clipLen (signed 18 (vf v (F.CMP_LAYER_DST_X_X w k))) (layerW v w k) (vf v F.CMP_CANVAS_W) *
  clipLen (signed 18 (vf v (F.CMP_LAYER_DST_Y_Y w k))) (layerH v w k) (vf v F.CMP_CANVAS_H)

/-- R171: the bytes a layer reads in one view-frame. -/
def layerRead (v : Nat → Word) (w k : Nat) : Nat :=
  (if vb v (F.CMP_LAYER_CTL_SCALE_EN w k) then
    vf v (F.CMP_LAYER_CROP_SIZE_SRC_W w k) * vf v (F.CMP_LAYER_CROP_SIZE_SRC_H w k)
   else layerArea v w k) * layerBpp v w k

/-- The raster of a monitoring tap (R206, R213). -/
def tapRaster (v : Nat → Word) (t : Nat) : Nat × Nat :=
  if t < 2 then (if vf v (F.CMP_MON_CTL_SDI_FMT t) == 1 then (3840, 2160) else (1920, 1080))
  else (vf v (F.CMP_MON_RASTER_OW t), vf v (F.CMP_MON_RASTER_OH t))

/-- R205: the divisor of a monitoring tap. -/
def tapDiv (v : Nat → Word) (t : Nat) : Nat := 2 ^ vf v (F.CMP_MON_CTL_DIV t)

/-- R171, R205: what the layers and the taps read and write, in bytes per second times DEN × SEQ_LEN × 4. -/
def readRateScaled (v : Nat → Word) : Nat :=
  let perView := (viewsOf v).map (fun w => ((layersOf v w).map (layerRead v w)).sum * entriesOf v w)
  let taps := ((List.range 6).filter (fun t => vb v (F.CMP_MON_CTL_EN t))).map (fun t =>
    8 * (tapRaster v t).1 * (tapRaster v t).2 * entriesOf v (vf v (F.CMP_MON_CTL_VIEW t)) * 4 / tapDiv v t)
  (perView.sum * 4 + taps.sum) * vf v F.CMP_FLIP_RATE_NUM

/-- R171: the committed write and read rates are above 200,000,000,000 bytes/s. -/
def ratesFail (v : Nat → Word) : Bool :=
  let unit := vf v F.CMP_FLIP_RATE_DEN * seqLen v * 4
  decide (readRateScaled v + writeRate v * unit > 200000000000 * unit)

/-- R171: a buffer of a KIND 1 layer, as its first byte and the byte after its last. -/
def layerBuf (v : Nat → Word) (w k : Nat) : Nat × Nat :=
  let base := 2 ^ 32 * vf v (F.CMP_LAYER_BUF_HI_ADDR_HI w k) + 4096 * vf v (F.CMP_LAYER_BUF_LO_ADDR_LO w k)
  (base, base + 64 * vf v (F.CMP_LAYER_BUF_FMT_PITCH_64B w k) * vf v (F.CMP_LAYER_BUF_SIZE_BUF_H w k))

/-- R171: a KIND 1 layer's buffer that is not allowed. -/
def layerBufFails (top : Nat) (v : Nat → Word) (w k : Nat) : Bool :=
  let b := layerBuf v w k
  decide (b.2 > top) ||
  (enabledSrcs v).any (fun i => decide (b.1 < srcEnd v i ∧ srcBase v i < b.2)) ||
  decide (64 * vf v (F.CMP_LAYER_BUF_FMT_PITCH_64B w k) < vf v (F.CMP_LAYER_BUF_SIZE_BUF_W w k) * layerBpp v w k)

/-- R171: the width and height that the crop of a layer must fit. -/
def layerBounds (v : Nat → Word) (w k : Nat) : Nat × Nat :=
  match vf v (F.CMP_LAYER_CTL_KIND w k) with
  | 0 =>
    let i := vf v (F.CMP_LAYER_CTL_SRC w k)
    (vf v (F.SDI_SRC_RASTER_WIDTH i), vf v (F.SDI_SRC_RASTER_HEIGHT i))
  | _ => (vf v (F.CMP_LAYER_BUF_SIZE_BUF_W w k), vf v (F.CMP_LAYER_BUF_SIZE_BUF_H w k))

/-- R171: the crop of a layer lies outside its source or buffer. -/
def layerCropFails (v : Nat → Word) (w k : Nat) : Bool :=
  vf v (F.CMP_LAYER_CTL_KIND w k) != 2 &&
  (decide (vf v (F.CMP_LAYER_CROP_POS_SRC_X w k) + vf v (F.CMP_LAYER_CROP_SIZE_SRC_W w k) > (layerBounds v w k).1) ||
   decide (vf v (F.CMP_LAYER_CROP_POS_SRC_Y w k) + vf v (F.CMP_LAYER_CROP_SIZE_SRC_H w k) > (layerBounds v w k).2))

/-- R154: a scaled layer's ratio on one axis lies outside 1/8 to 16. -/
def ratioFails (src dst : Nat) : Bool := decide (dst * 8 < src ∨ dst > 16 * src)

/-- R171: a layer's KIND, FMT or TF is one that is not used. -/
def layerKindFails (v : Nat → Word) (w k : Nat) : Bool :=
  let kind := vf v (F.CMP_LAYER_CTL_KIND w k)
  let fmt := vf v (F.CMP_LAYER_BUF_FMT_FMT w k)
  let tf := vf v (F.CMP_LAYER_BUF_FMT_TF w k)
  kind == 3 || (kind == 1 && (fmt == 3 || (decide (fmt < 2) && (tf == 3 || decide (tf ≥ 8)))))

/-- R157: coefficient `i` of set `c`; vertical coefficients follow the 512 horizontal ones. -/
def coefOf (v : Nat → Word) (c i : Nat) : Int :=
  let w := (v (0x190000 + 0x800 * c + 4 * (i / 2))).toNat
  signed 12 (if i % 2 = 0 then w % 4096 else w / 65536 % 4096)

/-- R171: the sums of the horizontal phases of a set are not all 1,024. -/
def coefHFails (v : Nat → Word) (c : Nat) : Bool :=
  (List.range 64).any (fun p => ((List.range 8).map (fun t => coefOf v c (p * 8 + t))).sum != 1024)

/-- R171: the sums of the vertical phases of a set are not all 1,024. -/
def coefVFails (v : Nat → Word) (c : Nat) : Bool :=
  (List.range 64).any (fun p => ((List.range 6).map (fun t => coefOf v c (512 + p * 6 + t))).sum != 1024)

/-- R161: a Gauntlet layer breaks its conditions (the fence apart). -/
def gauntletFails (v : Nat → Word) (w k : Nat) : Bool :=
  let kind := vf v (F.CMP_LAYER_CTL_KIND w k)
  (kind != 1 && kind != 2) || vf v (F.CMP_LAYER_CTL_BLEND w k) != 2 ||
  vf v (F.CMP_LAYER_ALPHA_GLOBAL_ALPHA w k) != 0xFFFF ||
  (vb v (F.CMP_LAYER_CTL_SCALE_EN w k) &&
    (decide (vf v (F.CMP_LAYER_ALPHA_COEF_H w k) < 28) || decide (vf v (F.CMP_LAYER_ALPHA_COEF_V w k) < 28))) ||
  decide (vf v (F.CMP_LAYER_CROP_SIZE_SRC_W w k) > 4096) || decide (vf v (F.CMP_LAYER_CROP_SIZE_SRC_H w k) > 4096)

/-- R171: an enabled layer breaks a rule that answers ERR_RANGE, its coefficient sums apart. -/
def layerFails (top : Nat) (v : Nat → Word) (w k : Nat) : Bool :=
  layerKindFails v w k || layerCropFails v w k ||
  vf v (F.CMP_LAYER_CROP_SIZE_SRC_W w k) == 0 || vf v (F.CMP_LAYER_CROP_SIZE_SRC_H w k) == 0 ||
  (vf v (F.CMP_LAYER_CTL_KIND w k) == 1 && layerBufFails top v w k) ||
  (vb v (F.CMP_LAYER_CTL_FENCE_EN w k) && vf v (F.CMP_LAYER_CTL_KIND w k) != 1) ||
  (vb v (F.CMP_LAYER_CTL_SCALE_EN w k) &&
    (ratioFails (vf v (F.CMP_LAYER_CROP_SIZE_SRC_W w k)) (vf v (F.CMP_LAYER_DST_SIZE_DST_W w k)) ||
     ratioFails (vf v (F.CMP_LAYER_CROP_SIZE_SRC_H w k)) (vf v (F.CMP_LAYER_DST_SIZE_DST_H w k)))) ||
  (decide (60 ≤ k) && gauntletFails v w k)

/-- R57, check 1: a fence that a layer names belongs to the other authority. -/
def layerFenceFails (v : Nat → Word) (w k : Nat) : Bool :=
  vb v (F.CMP_LAYER_CTL_FENCE_EN w k) &&
  (if 60 ≤ k then decide (vf v (F.CMP_LAYER_CTL_FENCE w k) < 120) else decide (vf v (F.CMP_LAYER_CTL_FENCE w k) ≥ 120))

/-- R58: a scaled layer is wider than the line buffer. -/
def layerLineFails (v : Nat → Word) (w k : Nat) : Bool :=
  vb v (F.CMP_LAYER_CTL_SCALE_EN w k) && decide (vf v (F.CMP_LAYER_CROP_SIZE_SRC_W w k) > 8192)

/-- R154: two enabled layers of a view name one scaler. -/
def scalersFail (v : Nat → Word) (w : Nat) : Bool :=
  let used := ((layersOf v w).filter (fun k => vb v (F.CMP_LAYER_CTL_SCALE_EN w k))).map
    (fun k => vf v (F.CMP_LAYER_CTL_SCALER w k))
  !decide used.Nodup

/-- R162: the Gauntlet region areas of a view. -/
def gauntletArea (v : Nat → Word) (w : Nat) : Nat :=
  (((layersOf v w).filter (fun k => decide (60 ≤ k))).map (layerArea v w)).sum

/-! The Module Map -/

/-- R189: the reset word of word `i` of a map bank. -/
def mapReset (i : Nat) : Word :=
  match i % 8 with
  | 4 => 0x00010001
  | 5 => 0x00008000
  | 6 => 0x80808080
  | _ => 0

/-- A field of entry e of a map bank: word `w`, bits `hi` to `lo`. -/
def mapFld (bank : List (Nat × Word)) (e w hi lo : Nat) : Nat :=
  (Sparse.get mapReset bank (8 * e + w)).toNat / 2 ^ lo % 2 ^ (hi - lo + 1)

/-- The enabled entries of a map bank, in ascending order. -/
def mapEntries (bank : List (Nat × Word)) : List Nat :=
  (bank.filter (fun p => p.1 % 8 == 0 && decide (2 ^ 31 ≤ p.2.toNat))).map (fun p => p.1 / 8)

/-- R190: the footprint width and height of an entry. -/
def footprint (bank : List (Nat × Word)) (e : Nat) : Nat × Nat :=
  let w := mapFld bank e 4 31 16
  let h := mapFld bank e 4 15 0
  if mapFld bank e 0 30 28 / 4 = 1 then (h, w) else (w, h)

/-- R214: an offset of a warp profile: column offsets at `base` 0, row offsets at 512. -/
def warpOff (v : Nat → Word) (p base i : Nat) : Int :=
  if p = 0 then 0
  else signed 8 ((v (0x1A0000 + 0x1000 * p + 4 * (base + i / 4))).toNat / 2 ^ (8 * (i % 4)) % 256)

/-- R191: the canvas columns and rows of an entry's footprint. -/
def warpAt (v : Nat → Word) (bank : List (Nat × Word)) (e base i : Nat) : Int :=
  (i : Int) + warpOff v (mapFld bank e 0 27 22) base i

/-- R191, R195: the warp profile of an entry breaks its order over the footprint. -/
def warpFails (v : Nat → Word) (bank : List (Nat × Word)) (e : Nat) : Bool :=
  let f := footprint bank e
  (List.range (f.1 - 1)).any (fun i => decide (warpAt v bank e 0 (i + 1) < warpAt v bank e 0 i)) ||
  (List.range (f.2 - 1)).any (fun i => decide (warpAt v bank e 512 (i + 1) ≤ warpAt v bank e 512 i))

/-- R195: the footprint of an entry leaves the canvas after its warp. -/
def canvasFails (v : Nat → Word) (bank : List (Nat × Word)) (e : Nat) : Bool :=
  let f := footprint bank e
  let x0 := (mapFld bank e 2 31 16 : Int)
  let y0 := (mapFld bank e 2 15 0 : Int)
  (List.range f.1).any (fun i => decide (x0 + warpAt v bank e 0 i < 0 ∨ x0 + warpAt v bank e 0 i ≥ vf v F.CMP_CANVAS_W)) ||
  (List.range f.2).any (fun i => decide (y0 + warpAt v bank e 512 i < 0 ∨ y0 + warpAt v bank e 512 i ≥ vf v F.CMP_CANVAS_H))

/-- The session number of a tile address (R238): CHAIN × 64 + SLOT. -/
def sessionOf (tile : Nat) : Nat := tile % 512

/-- Two intervals overlap. -/
def meets (a n b m : Nat) : Bool := decide (a < b + m ∧ b < a + n)

/-- R195: entry e fails a rule that answers ERR_RANGE. -/
def entryFails (s : State) (v : Nat → Word) (bank : List (Nat × Word)) (e : Nat) : Bool :=
  let tile := mapFld bank e 0 15 0
  let others := (mapEntries bank).filter (fun o => o != e && mapFld bank o 0 15 0 == tile)
  let u := mapFld bank e 3 31 16
  let w := mapFld bank e 3 15 0
  let mw := mapFld bank e 4 31 16
  let mh := mapFld bank e 4 15 0
  decide (tile ≥ 0x8000) || tile / 512 % 64 != vf v F.MLK_CTL_DOMAIN ||
  canvasFails v bank e || warpFails v bank e ||
  others.any (fun o => mapFld bank o 1 31 24 == mapFld bank e 1 31 24) ||
  others.any (fun o => meets u mw (mapFld bank o 3 31 16) (mapFld bank o 4 31 16) &&
    meets w mh (mapFld bank o 3 15 0) (mapFld bank o 4 15 0)) ||
  (s.flag (F.MLK_SESS_STAT_OPEN (sessionOf tile)) &&
    (decide (u + mw > s.fld (F.MLK_SESS_GEOM_W (sessionOf tile))) ||
     decide (w + mh > s.fld (F.MLK_SESS_GEOM_H (sessionOf tile))))) ||
  decide (u > 2047) || decide (w > 2047) || mw == 0 || mh == 0 || decide (mw > 2048) || decide (mh > 2048)

/-- R194: a transaction publishes the staging bank when it writes CMP_MAP_CTL.GEN. -/
def publishesMap (chs : List Change) : Bool := (ownChanges chs).any (touches 0x180048 0x18004C)

/-- R186: the map bank that is active at the commit's effective flip. -/
def State.mapAtEffect (s : State) (chs : List Change) : List (Nat × Word) :=
  if publishesMap chs || (s.flag F.CMP_MAP_STAT_PENDING && !s.flag F.CMP_MAP_STAT_COPY_BUSY) then s.map.staging
  else s.map.active

/-! The scan-out window (R186) -/

/-- R144: the render time of a view-frame without stalls, in CLK_CORE cycles. -/
def renderCycles (v : Nat → Word) (bank : List (Nat × Word)) (w : Nat) : Nat :=
  (gauntletArea v w + 15) / 16 +
  ((mapEntries bank).map (fun e => (footprint bank e).2 * (((footprint bank e).1 + 15) / 16))).sum

/-- R186: B_c, the bits that chain c carries for one view-frame. -/
def chainBits (bank : List (Nat × Word)) (c : Nat) : Nat :=
  (((mapEntries bank).filter (fun e => mapFld bank e 0 8 6 == c)).map
    (fun e => 36 * mapFld bank e 4 31 16 * mapFld bank e 4 15 0)).sum

/-- R186: P_c in bits per microsecond, for a port of `lanes` lanes. -/
def payloadRate (rate lanes : Nat) : Nat := (if rate = 1 then 24375 else 9750) * lanes

/-- R186: a duration of `num / den` microseconds, with `fixedNs` more nanoseconds, does not fit `d` flip periods less a
Cuff of `cuffUs`. -/
def windowFails (num den fixedNs cuffUs d fnum fden : Nat) : Bool :=
  decide ((num * 1000 + fixedNs * den) * fnum + cuffUs * 1000 * fnum * den > d * fden * 10 ^ 9 * den)

/-- R183: the sent flip before entry k of the sequence, as a count of flips, among views that are sent. -/
def backToLatch (v : Nat → Word) (sent : List Nat) (k : Nat) : Nat :=
  ((List.range (seqLen v)).find? (fun d =>
    sent.contains (seqEntry v ((k + 2 * seqLen v - (d + 1)) % seqLen v)))).getD 0 + 1

/-- R186: the scan-out check fails for the views sent, with the widths of the chain ports given. -/
def scanFails (v : Nat → Word) (bank : List (Nat × Word)) (hops : Nat) (sent : List Nat) (lanes : Nat → Nat) : Bool :=
  let fixedNs := 1000 * vf v F.CMP_SCAN_MARGIN_MARGIN_US + 400 * hops
  let fnum := vf v F.CMP_FLIP_RATE_NUM
  let fden := vf v F.CMP_FLIP_RATE_DEN
  let cuff := vf v F.SYS_CUFF_CUFF_US
  (List.range (seqLen v)).any (fun k =>
    sent.contains (seqEntry v k) &&
    (let d := backToLatch v sent k
     windowFails (renderCycles v bank (seqEntry v k)) 1200 fixedNs cuff d fnum fden ||
     (List.range 8).any (fun c =>
       let r := payloadRate (vf v (F.MLK_PORT_CTL_RATE c)) (lanes c)
       decide (chainBits bank c > 0) && (r == 0 || windowFails (chainBits bank c) r fixedNs cuff d fnum fden))))

/-! Field ranges (R57, check 2) -/

/-- The registers of the same descriptor as a register with an enable. -/
def descriptorRegs (a : Nat) (r : RegDef) : List RegDef :=
  match blockOf a with
  | some b => b.2.2.filter (fun x => x.enable == r.enable && x.dims == r.dims)
  | none => []

/-- The address of the copy `ix` of a register. -/
def copyAddr (r : RegDef) (ix : List Nat) : Nat := r.base + ((r.dims.zip ix).map (fun d => d.1.2 * d.2)).sum

/-- A writable field of a register holds a value out of its range. -/
def wordFails (r : RegDef) (w : Word) (only : Option Nat) : Bool :=
  r.fields.any (fun f => (f.acc == .rw || f.acc == .rws) && (only.isNone || only == some f.lo) &&
    !f.ok (w.toNat / 2 ^ f.lo % 2 ^ (f.hi - f.lo + 1)))

/-- R57, check 2, for one word that a transaction writes: the fields of its register, judged while their descriptor is
enabled; and every field of the descriptor where the word holds its enable. -/
def rangeFails (v : Nat → Word) (a : Nat) : Bool :=
  match findReg a with
  | none => false
  | some (r, ix) =>
    match r.enableAt ix with
    | none => wordFails r (v a) none
    | some (ea, bit) =>
      if (v ea).toNat / 2 ^ bit % 2 = 1 then
        if a = ea then (descriptorRegs a r).any (fun x => wordFails x (v (copyAddr x ix)) none)
        else wordFails r (v a) none
      else a == ea && wordFails r (v a) (some bit)

/-- R57, check 2: the change indices whose words break a field's range. -/
def rangeRule (v : Nat → Word) (chs : List Change) : List Nat :=
  (chs.filter (fun c => (List.range c.words.length).any (fun i => rangeFails v (c.addr + 4 * i)))).map (·.index)

end Sys2Proof.Machine
end

