-- ==== Sys2Proof/Machine/Access.lean ====
section
/-! DEFINITION. Who may write where: ownership, windows, writable bits, and the checks of a change on its own (R43, R49); a
change as words and as SET messages, and module tables as messages (R65, R243, R244). -/

namespace Sys2Proof.Machine

/-! Ownership and windows -/

/-- R43, R157, R177, R532: registers whose writable fields belong to the Gauntlet authority. -/
def gauntletOwned (a : Nat) : Bool :=
  (decide (0x188000 ≤ a ∧ a < 0x190000) && decide (60 ≤ (a - 0x188000) % 0x1000 / 0x40)) ||
  decide (0x180400 ≤ a ∧ a < 0x180600) || decide (0x19E000 ≤ a ∧ a < 0x1A0000) ||
  decide (0x080280 ≤ a ∧ a < 0x080300) || decide (0x280050 ≤ a ∧ a < 0x280054) || decide (0xC00000 ≤ a ∧ a < 0xF00000)

/-- R43: an authority may not write a register of the other. -/
def notOwner (x : Auth) (a : Nat) : Bool :=
  match x with
  | .general => gauntletOwned a
  | .gauntlet => !gauntletOwned a

/-- The tables that stand inside register blocks (R114, R157, R214, R323, R365). -/
def tables : List (Nat × Nat) :=
  [(0x108000, 0x110000), (0x190000, 0x1A0000), (0x1A0000, 0x1E0000), (0x282000, 0x284000), (0x2D0000, 0x2F0000)]

/-- R10, R327, R382: the windows that are not journalled: the Module Map on a sender; the Lining, the Guard Images and
the fault map on a tile. -/
def windows (tile : Bool) : List (Nat × Nat) :=
  if tile then [(0x800000, 0xB00000), (0xC00000, 0xF00000), (0xF00000, 0xF20000)] else [(0x400000, 0x600000)]

/-- R49: the window, table or register block that holds an address. -/
def regionOf (tile : Bool) (a : Nat) : Option (Nat × Nat) :=
  match ((windows tile ++ tables).find? (fun r => decide (r.1 ≤ a ∧ a < r.2))) with
  | some r => some r
  | none => (blockOf a).map (fun b => (b.1, b.2.1))

/-- The addresses of a run of words. -/
def runAddrs (a n : Nat) : List Nat := (List.range n).map (fun i => a + 4 * i)

/-- R49, check 7: the run leaves its region, or starts in none. -/
def leavesRegion (tile : Bool) (c : Change) : Bool :=
  match regionOf tile c.addr with
  | none => true
  | some r => (runAddrs c.addr c.words.length).any (fun a => regionOf tile a != some r)

/-- R49, check 8: the run lies in a window that is not journalled. -/
def inWindow (tile : Bool) (c : Change) : Bool := (windows tile).any (fun r => touches r.1 r.2 c)

/-- The bits of a register that software may write with the role given: RW and RWS fields, less those that the spec
makes RO (R213, R214, R268, R269). -/
def writeMask (tile : Bool) (a : Nat) : Word :=
  if 0x1A0000 ≤ a ∧ a < 0x1A1000 then 0
  else if a = 0x18060C ∨ a = 0x18062C then 0
  else if tile && a == 0x200000 then 0x3
  else
    match findReg a with
    | some (r, _) =>
      let m := BitVec.ofNat 32 (r.mask (fun x => x == .rw || x == .rws))
      if tile && decide (0x200100 ≤ a ∧ a < 0x200200) && (a % 0x20 == 0) then m &&& 0x7FFFFFFF else m
    | none => 0

/-- R49, check 9: a word that has no writable field, or that writes a value other than 0 into any other bit. -/
def accessFails (tile : Bool) (a : Nat) (w : Word) : Bool :=
  writeMask tile a == 0 || (w &&& ~~~(writeMask tile a)) != 0

/-- A change checked word by word. -/
def anyWord (c : Change) (p : Nat → Word → Bool) : Bool :=
  (List.range c.words.length).any (fun i => p (c.addr + 4 * i) (c.words.getD i 0))

/-- R54: the bytes that a change takes in the journal. -/
def changeBytes (c : Change) : Nat := 28 + 4 * c.words.length

/-- R49, check 6: the device a change names is not there. -/
def State.targetFails (s : State) (c : Change) : Bool :=
  (c.scope != 0 && s.tileRole) ||
  (c.scope == 1 &&
    (decide (c.target ≥ 0x8000) || c.target / 512 % 64 != s.fld F.MLK_CTL_DOMAIN ||
     decide (c.target % 64 ≥ s.fld (F.MLK_PORT_STAT_TILES (chainOf c.target)))))

/-- R49: checks 5 to 10 of a change, with the status of the first that fails. -/
def State.changeFails (s : State) (auth : Auth) (c : Change) : Option Status :=
  let tile := s.tileRole || c.scope != 0
  if c.scope > 2 then some .errRange
  else if s.targetFails c then some .errAddr
  else if c.addr % 4 ≠ 0 ∨ leavesRegion tile c = true then some .errAddr
  else if inWindow tile c then some .errAccess
  else if anyWord c (accessFails tile) then some .errAccess
  else if anyWord c (fun a _ => notOwner auth a) then some .errAuth
  else none

/-- R48: the limits of a transaction or of the shadow set. -/
def limitFails (count bytes : Nat) (c : Change) : Bool :=
  decide (count + 1 > 4096) || decide (bytes + changeBytes c > 262144)

/-- R65: words of a change written at their effective flip. -/
def State.applyChange (s : State) (c : Change) : State :=
  (List.range c.words.length).foldl (fun t i =>
    let a := c.addr + 4 * i
    t.setReg a (mergeWritable a (t.reg a) (c.words.getD i 0))) s

/-! Changes and tables as messages -/

/-- R244: the SET messages of one change: at most 1,018 words each. -/
def setMsgs (auth : Auth) (imm : Bool) (seq due : Nat) (c : Change) : List SetMsg :=
  (List.range ((c.words.length + 1017) / 1018)).map (fun i =>
    ⟨auth, imm, c.index, seq, due, c.addr + 4 * (1018 * i), 1018 * i, (c.words.drop (1018 * i)).take 1018⟩)

/-- R189, R192: an entry of the Module Map as a module-table entry. -/
def tableEntry (bank : List (Nat × Word)) (e : Nat) : ModuleEntry :=
  ⟨mapFld bank e 1 31 24, mapFld bank e 0 30 28, mapFld bank e 3 31 16, mapFld bank e 3 15 0, mapFld bank e 4 31 16,
   mapFld bank e 4 15 0, mapFld bank e 5 15 0, mapFld bank e 6 31 24, mapFld bank e 6 23 16, mapFld bank e 6 15 8,
   mapFld bank e 6 7 0⟩

/-- The module table of a tile in a map bank. -/
def tileTable (bank : List (Nat × Word)) (tile : Nat) : List ModuleEntry :=
  ((mapEntries bank).filter (fun e => mapFld bank e 0 15 0 == tile)).map (tableEntry bank)

/-- R243: a module table in messages: at most 255 entries each. -/
def tableMsgs (gen : Nat) (es : List ModuleEntry) : List LinkMsg :=
  (List.range (max 1 ((es.length + 254) / 255))).map (fun i =>
    .moduleTable gen es.length (255 * i) ((es.drop (255 * i)).take 255))

end Sys2Proof.Machine
end

