-- ==== Sys2Proof/Machine/Dram.lean ====
section
/-! DEFINITION. External memory: the address map, inline ECC, the bank queues, refresh, self-refresh and training
(R452 to R477, R594). -/

namespace Sys2Proof.Machine

/-! Addresses (R455, R457) -/

/-- R453: the channels that a device can use: 16 on a sender, 2 on a tile. -/
def State.dramChannels (s : State) : Nat := if s.tileRole then 2 else 16

/-- R455: the end of populated memory in bytes. -/
def State.dramTop (s : State) : Nat := s.fld F.DRC_TOP_TOP_MIB * 2 ^ 20

/-- Where a burst lies (R457): channel, bank, row and column. -/
structure DramPlace where
  channel : Nat
  bank : Nat
  row : Nat
  column : Nat
  deriving DecidableEq, Repr

/-- R457: the place of a burst, by its index, under a mapping order; `c` is the count of channels, 2 or 16. -/
def placeOf (order c burst : Nat) : DramPlace :=
  match order with
  | 0 => ⟨burst % c, burst / c / 32 % 16, burst / c / 512, burst / c % 32⟩
  | 1 => ⟨burst % c, burst / c % 16, burst / c / 512, burst / c / 16 % 32⟩
  | 2 => ⟨burst / 32 % c, burst / 32 / c % 16, burst / 32 / c / 16, burst % 32⟩
  | _ => ⟨burst / 512 % c, burst / 32 % 16, burst / 512 / c, burst % 32⟩

/-- The place of a burst of this device. -/
def State.place (s : State) (burst : Nat) : DramPlace := placeOf (s.fld F.DRC_CFG_MAP_ORDER) s.dramChannels burst

/-- The record of a channel. -/
def State.chan (s : State) (c : Nat) : DramChannel :=
  ((s.dram.chans.find? (fun x => x.1 == c)).map (·.2)).getD ⟨0, none, false, none, false, []⟩

/-- The state with a channel's record replaced. -/
def State.setChan (s : State) (c : Nat) (x : DramChannel) : State :=
  { s with dram := { s.dram with chans := s.dram.chans.filter (fun y => y.1 != c) ++ [(c, x)] } }

/-! Errors (R459 to R462) -/

/-- R459: a corrected error: it is counted, and the burst waits for its write-back. -/
def State.correctedError (s : State) (burst : Nat) : State :=
  let s1 := s.eventCount F.DRC_EVT_CE F.DRC_ECC_CNT_CE_COUNT
  if s1.dram.writeBacks.contains burst then s1
  else { s1 with dram := { s1.dram with writeBacks := s1.dram.writeBacks ++ [burst] } }

/-- R476: words 0 to 3 of a log entry. -/
def State.logWords (s : State) (requester burst words : Nat) : List Nat :=
  let p := s.place burst
  [(burst % 2 ^ 26) * 64 + burst / 2 ^ 26 % 16,
   p.channel * 2 ^ 28 + p.bank * 2 ^ 24 + p.row % 2 ^ 17 * 2 ^ 7 + p.column * 4,
   requester * 2 ^ 24 + words * 2 ^ 16 + secOf s.wall % 65536,
   nsOf s.wall]

/-- R460, R462: an uncorrectable error: counted, logged where the log has room, and recorded as a memory fault. -/
def State.uncorrectable (s : State) (requester burst words : Nat) : State :=
  let s1 := s.eventCount F.DRC_EVT_UE F.DRC_ECC_CNT_UE_COUNT
  let n := s1.fld F.DRC_UE_LOG_STAT_LEVEL
  let ws := s1.logWords requester burst words
  let s2 :=
    if n < 64 then
      ((List.range 4).foldl (fun t i => t.setReg (0x301000 + 0x10 * n + 4 * i) (BitVec.ofNat 32 (ws.getD i 0))) s1).setFld
        F.DRC_UE_LOG_STAT_LEVEL (n + 1)
    else s1.eventCount F.DRC_EVT_UE_LOST F.DRC_UE_LOG_STAT_UE_LOST_COUNT
  s2.fault 8 1 ((ws.take 3).flatMap (leBytes 4))

/-! Reading and writing bursts (R458 to R461, R594) -/

/-- The latent uncorrectable words of a burst. -/
def State.badWords (s : State) (burst : Nat) : Nat := ((s.dram.bad.find? (fun x => x.1 == burst)).map (·.2)).getD 0

/-- The bytes stored in a burst; none where it has not been written. -/
def State.burstBytes (s : State) (burst : Nat) : List Byte := Sparse.get (fun _ => []) s.dram.mem burst

/-- A burst written whole. A write cancels a write-back that waits (R459). -/
def State.putBurst (s : State) (burst : Nat) (bs : List Byte) : State :=
  { s with dram := { s.dram with
      mem := Sparse.put (fun _ => []) s.dram.mem burst bs
      bad := s.dram.bad.filter (fun x => x.1 != burst)
      writeBacks := s.dram.writeBacks.filter (fun x => x != burst) } }

/-- R459, R460, R594: a burst is read. An unwritten burst gives one of three outcomes: undefined data, the same with a
corrected error, or an uncorrectable error. -/
def State.readBurst (s : State) (requester burst : Nat) : State × Option (List Byte) :=
  if s.badWords burst ≠ 0 then (s.uncorrectable requester burst (s.badWords burst), none)
  else
    match s.burstBytes burst with
    | [] =>
      let data := freeBytes (s.fresh + 1) 64
      let s1 := { s with fresh := s.fresh + 66 }
      match s.freeValue.toNat % 3 with
      | 0 => (s1, some data)
      | 1 => (s1.correctedError burst, some data)
      | _ => (s1.uncorrectable requester burst ((Config.freeWord (s.fresh + 65)).toNat % 255 + 1), none)
    | bs => (s, some bs)

/-- Bytes of a list replaced from a position. -/
def patch (old : List Byte) (i : Nat) (bs : List Byte) : List Byte := old.take i ++ bs ++ old.drop (i + bs.length)

/-- R461: bytes written within one burst: a whole burst at once, anything less as a read-modify-write, which an
uncorrectable error ends. -/
def State.writeIn (s : State) (burst off : Nat) (bs : List Byte) : State × Bool :=
  if off = 0 ∧ bs.length = 64 then (s.putBurst burst bs, true)
  else
    match s.readBurst 3 burst with
    | (s1, some old) => (s1.putBurst burst (patch old off bs), true)
    | (s1, none) => (s1, false)

/-- The parts of a run of bytes by bursts: the burst, the offset in it and the count of bytes. -/
def burstParts : Nat → Nat → Nat → List (Nat × Nat × Nat)
  | 0, _, _ => []
  | fuel + 1, addr, n =>
    if n = 0 then []
    else
      let k := min n (64 - addr % 64)
      (addr / 64, addr % 64, k) :: burstParts fuel (addr + k) (n - k)

/-- Bytes of external memory read by a requester; none where a burst has an uncorrectable error. -/
def State.readMem (s : State) (requester addr n : Nat) : State × Option (List Byte) :=
  (burstParts (n / 64 + 2) addr n).foldl (fun x p =>
    match x.2 with
    | none => x
    | some acc =>
      match x.1.readBurst requester p.1 with
      | (t, some bs) => (t, some (acc ++ (bs.drop p.2.1).take p.2.2))
      | (t, none) => (t, none)) (s, some [])

/-- Bytes written to external memory; false where an uncorrectable error ended a partial write. -/
def State.writeMem (s : State) (addr : Nat) (bs : List Byte) : State × Bool :=
  let x := (burstParts (bs.length / 64 + 2) addr bs.length).foldl
    (fun (x : State × Bool × List Byte) p =>
      if x.2.1 then
        let r := x.1.writeIn p.1 p.2.1 (x.2.2.take p.2.2)
        (r.1, r.2, x.2.2.drop p.2.2)
      else x) (s, true, bs)
  (x.1, x.2.1)

/-- R461: input writers and taps write whole bursts: what they do not yet have of a burst keeps what it held, or is
undefined where the burst has not been written. -/
def State.pourMem (s : State) (addr : Nat) (bs : List Byte) : State :=
  ((burstParts (bs.length / 64 + 2) addr bs.length).foldl (fun (x : State × List Byte) p =>
    let old := if x.1.badWords p.1 = 0 ∧ x.1.burstBytes p.1 ≠ [] then x.1.burstBytes p.1 else freeBytes x.1.fresh 64
    (({ x.1 with fresh := x.1.fresh + 64 }).putBurst p.1 (patch old p.2.1 (x.2.take p.2.2)), x.2.drop p.2.2)) (s, bs)).1

/-! The bank queues (R463, R464, R467, R468) -/

/-- A request as its bank queue holds it. -/
structure Queued where
  req : DramReq
  place : DramPlace
  deriving DecidableEq, Repr

/-- R463: requests that arrive in one cycle: writes count as first. -/
def arrivalOrder (s : State) (rs : List DramReq) : List Queued :=
  ((rs.filter (·.write)) ++ rs.filter (fun r => !r.write)).map (fun r => ⟨r, s.place (r.addr / 64)⟩)

/-- The open row of a bank. -/
def State.openRow (s : State) (p : DramPlace) : Option Nat :=
  (s.dram.rows.find? (fun x => x.1 == p.channel * 16 + p.bank)).map (·.2)

/-- Two requests share a bank queue. -/
def sameBank (a b : DramPlace) : Bool := a.channel == b.channel && a.bank == b.bank

/-- R463: a bank queue is served in arrival order while it holds a write and, after it, a read of the same row. -/
def inOrder : List Queued → Bool
  | [] => false
  | q :: rest => (q.req.write && rest.any (fun r => !r.req.write && r.place.row == q.place.row)) || inOrder rest

/-- R463: the request of a bank queue that is served next. -/
def State.pick (s : State) (q : List Queued) : Option Queued :=
  if inOrder q then q.head?
  else
    let opened := q.filter (fun x => s.openRow x.place == some x.place.row)
    let pool := if opened.isEmpty then q else opened
    match pool.find? (fun x => !x.req.write) with
    | some x => some x
    | none => pool.head?

/-- R467: a neighbour refresh that finds 8 pending issues the oldest at once. -/
def State.queueNeighbour (s : State) (p : DramPlace) : State :=
  let mine := s.dram.neighbours.filter (fun n => n.1 == p.channel)
  let s1 :=
    if 8 ≤ mine.length then
      let old := mine.headD (0, 0, 0)
      ((({ s with dram := { s.dram with neighbours := s.dram.neighbours.erase old } }.event F.DRC_EVT_NR_URGENT).bump
        (F.DRC_CH_NR_CNT_NR_URGENT_COUNT p.channel))).wrapInc (F.DRC_CH_NR_CNT_NR_COUNT p.channel)
    else s
  { s1 with dram := { s1.dram with neighbours := s1.dram.neighbours ++ [(p.channel, p.bank, p.row)] } }

/-- R467: an activate opens a row, and draws with probability 1/2^k for a neighbour refresh; the draw is an open
value. -/
def State.activate (s : State) (p : DramPlace) : State :=
  if s.openRow p = some p.row then s
  else
    let k := p.channel * 16 + p.bank
    let s1 := { s with dram := { s.dram with rows := s.dram.rows.filter (fun (x : Nat × Nat) => x.1 != k) ++ [(k, p.row)] } }
    let hit := s1.freeValue.toNat % 2 ^ s1.fld F.DRC_CTL_NR_K == 0
    if hit then s1.drawn.queueNeighbour p else s1.drawn

/-- R468: a request wakes its channel and restarts its idle time. -/
def State.wakeChannel (s : State) (c : Nat) : State :=
  let s1 := s.setChan c { s.chan c with lastReq := s.cycles }
  if s1.fld (F.DRC_CH_STAT_STATE c) = 3 then
    (s1.setFld (F.DRC_CH_STAT_STATE c) 2).setBit F.DRC_STAT_IN_SR c false
  else s1

/-- R455, R458 to R464: one request is served. -/
def State.serve (s : State) (q : Queued) : State :=
  let r := q.req
  let b := r.addr / 64
  let s1 := (s.wakeChannel q.place.channel).activate q.place
  let s2 := if r.bad2 % 256 = 0 then s1 else { s1 with dram := { s1.dram with bad := s1.dram.bad.filter (fun x => x.1 != b) ++ [(b, r.bad2 % 256)] } }
  if r.write then
    let x := s2.writeIn b (r.addr % 64) (r.data.take (64 - r.addr % 64))
    x.1.send (.dramData r.requester r.addr (if x.2 then some [] else none))
  else
    let s3 := if r.bad1 % 256 ≠ 0 ∧ s2.badWords b = 0 ∧ s2.burstBytes b ≠ [] then s2.correctedError b else s2
    let x := s3.readBurst r.requester b
    x.1.send (.dramData r.requester r.addr (x.2.map (fun bs => (bs.drop (r.addr % 64)).take r.bytes)))

/-- R463: the bank queue of the first request is served until nothing waits. -/
def State.serveAll : Nat → List Queued → State → State
  | 0, _, s => s
  | fuel + 1, q, s =>
    match q with
    | [] => s
    | x :: _ =>
      match s.pick (q.filter (fun y => sameBank x.place y.place)) with
      | some y => State.serveAll fuel (q.erase y) (s.serve y)
      | none => s

/-- R463: DRAM_REQUEST: requests that arrive in one cycle. One above TOP, or to a channel that is not in service, gets
an error response. -/
def State.dramRequests (s : State) (rs : List DramReq) : State :=
  let ok (r : DramReq) : Bool := decide (r.addr < s.dramTop) && s.bit F.DRC_STAT_TRAINED (s.place (r.addr / 64)).channel
  let s1 := (rs.filter (fun r => !ok r)).foldl (fun t r => t.send (.dramData r.requester r.addr none)) s
  let good := rs.filter ok
  State.serveAll good.length (arrivalOrder s1 good) s1

def execDramRequest (rs : List DramReq) (s : State) : Host.Outcome State Fault Refusal := .next (s.dramRequests rs)

/-- R459: in channel blanking, the channel's corrected bursts are written back. -/
def State.writeBack (s : State) (channel : Nat) : State :=
  { s with dram := { s.dram with writeBacks := s.dram.writeBacks.filter (fun b => (s.place b).channel != channel) } }

def execEccWriteBack (channel : Nat) (s : State) : Host.Outcome State Fault Refusal := .next (s.writeBack channel)

/-! Refresh (R465 to R468) -/

/-- R475: whether a channel is active or retraining, and so owes refreshes. -/
def State.channelOn (s : State) (c : Nat) : Bool := s.fld (F.DRC_CH_STAT_STATE c) == 2 || s.fld (F.DRC_CH_STAT_STATE c) == 4

/-- R466, R470: a refresh falls due. In channel blanking it is issued, an accepted drift correction takes effect, and one
interval of debt is repaid; otherwise it is postponed, or at debt 8 forced. -/
def State.refreshDue (s : State) (c : Nat) (blanking : Bool) : State :=
  let debt := s.fld (F.DRC_CH_STAT_DEBT c)
  if !s.channelOn c then s
  else if blanking then
    (s.setFld (F.DRC_CH_STAT_DEBT c) (debt - 1)).setChan c { s.chan c with correct := false }
  else if debt < 8 then (s.setFld (F.DRC_CH_STAT_DEBT c) (debt + 1)).bump (F.DRC_CH_REF_CNT_POSTPONED_COUNT c)
  else ((s.event F.DRC_EVT_REF_FORCED).bump (F.DRC_CH_REF_CNT_FORCED_COUNT c)).setChan c { s.chan c with correct := false }

def execRefreshDue (channel : Nat) (blanking : Bool) (s : State) : Host.Outcome State Fault Refusal :=
  .next (if channel < s.dramChannels then s.refreshDue channel blanking else s)

/-- R467: in channel blanking, the channel's oldest neighbour refresh is issued. -/
def State.issueNeighbour (s : State) (c : Nat) : State :=
  match s.dram.neighbours.find? (fun n => n.1 == c) with
  | some n => { s with dram := { s.dram with neighbours := s.dram.neighbours.erase n } }.wrapInc (F.DRC_CH_NR_CNT_NR_COUNT c)
  | none => s

def execNeighbourRefresh (channel : Nat) (s : State) : Host.Outcome State Fault Refusal :=
  .next (s.issueNeighbour channel)

/-- R465: MR4 of a channel calls for an interval: 0 normal, 1 a half, 2 a quarter. -/
def State.readMr4 (s : State) (c rate : Nat) : State :=
  if c < s.dramChannels ∧ rate ≤ 2 then
    { s with dram := { s.dram with intervals := s.dram.intervals.filter (fun x => x.1 != c) ++ [(c, rate)] } }
  else s

def execMr4Read (channel rate : Nat) (s : State) : Host.Outcome State Fault Refusal := .next (s.readMr4 channel rate)

/-- R468: a channel with no request for SR_IDLE_US enters self-refresh, and owes no debt. -/
def State.enterSelfRefresh (s : State) (c : Nat) : State :=
  let s1 := s.untilCycle ((s.chan c).lastReq + usCycles (s.fld F.DRC_CTL_SR_IDLE_US))
  if s1.flag F.DRC_CTL_SR_EN ∧ s1.fld (F.DRC_CH_STAT_STATE c) = 2 then
    ((s1.setFld (F.DRC_CH_STAT_STATE c) 3).setFld (F.DRC_CH_STAT_DEBT c) 0).setBit F.DRC_STAT_IN_SR c true
  else s1

def execSelfRefreshEntry (channel : Nat) (s : State) : Host.Outcome State Fault Refusal :=
  .next (if channel < s.dramChannels then s.enterSelfRefresh channel else s)

/-! Drift and retraining (R470 to R472) -/

/-- R470: a drift measurement of a channel, in thousandths of a UI, with the delay step in the same unit. A drift above
1/32 UI is corrected when two successive measurements agree within one step; one that does not agree is rejected. -/
def State.driftMeasured (s : State) (c : Nat) (drift : Int) (step : Nat) : State :=
  let x := s.chan c
  if drift.natAbs * 32 ≤ 1000 then s.setChan c { x with drift := none }
  else
    match x.drift with
    | none => s.setChan c { x with drift := some drift }
    | some d =>
      if (drift - d).natAbs ≤ step then s.setChan c { x with drift := none, correct := true }
      else ((s.setChan c { x with drift := some drift }).event F.DRC_EVT_RECAL_REJ).bump (F.DRC_CH_TRAIN_RECAL_REJ_COUNT c)

def execDriftMeasure (channel : Nat) (drift : Int) (step : Nat) (s : State) : Host.Outcome State Fault Refusal :=
  .next (if channel < s.dramChannels ∧ s.channelOn channel = true then s.driftMeasured channel drift step else s)

/-- R470, R471: a channel whose highest die temperature has moved by more than RECAL_DT_C since its last run waits for
a retraining. -/
def State.retrainTriggers (s : State) : State :=
  (List.range s.dramChannels).foldl (fun t c =>
    let now := t.fld F.THM_STAT_HOTTEST
    let last := t.fld (F.DRC_CH_STAT_LAST_TEMP c)
    let moved := if now ≤ last then last - now else now - last
    if t.channelOn c ∧ (t.chan c).waits = none ∧ moved > t.fld F.DRC_CTL_RECAL_DT_C then
      t.setChan c { t.chan c with waits := some t.cycles, late := false, delays := [] }
    else t) s

/-- R471: a retraining starts: the channel is held. -/
def State.startRetrain (s : State) (c : Nat) : State :=
  if s.fld (F.DRC_CH_STAT_STATE c) = 2 ∧ (s.chan c).waits.isSome = true ∧
      (List.range s.dramChannels).all (fun d => s.fld (F.DRC_CH_STAT_STATE d) != 4) = true then
    s.setFld (F.DRC_CH_STAT_STATE c) 4
  else s

/-- R472: the read eye and the residual skew that a run reports. -/
def State.reportEye (s : State) (c eyeW eyeH skew : Nat) : State :=
  ((s.setFld (F.DRC_CH_EYE_EYE_W_MUI c) eyeW).setFld (F.DRC_CH_EYE_EYE_H_MV c) eyeH).setFld (F.DRC_CH_SKEW_DQ_SKEW_PS c) skew

/-- R471: a run agrees with the one before it within 2 ps on every DQ. -/
def delaysAgree (a b : List Int) : Bool := a.length == b.length && (a.zip b).all (fun p => decide ((p.1 - p.2).natAbs ≤ 2))

/-- R471, R472: a retraining ends. The first run of a pair waits for its repeat; a repeat that agrees is accepted, one
that does not discards the result. -/
def State.endRetrain (s : State) (c : Nat) (delays : List Int) (eyeW eyeH skew : Nat) : State :=
  if s.fld (F.DRC_CH_STAT_STATE c) ≠ 4 then s
  else
    let x := s.chan c
    let s1 := ((s.setFld (F.DRC_CH_STAT_STATE c) 2).bump (F.DRC_CH_TRAIN_RETRAIN_COUNT c)).reportEye c eyeW eyeH skew
    if x.delays.isEmpty then s1.setChan c { x with delays := delays }
    else if delaysAgree x.delays delays then
      (s1.setFld (F.DRC_CH_STAT_LAST_TEMP c) (s1.fld F.THM_STAT_HOTTEST)).setChan c
        { x with delays := [], waits := none, late := false }
    else ((s1.setChan c { x with delays := [] }).event F.DRC_EVT_RECAL_REJ).bump (F.DRC_CH_TRAIN_RECAL_REJ_COUNT c)

def execRetrainDone (channel : Nat) (delays : List Int) (eyeW eyeH skew : Nat) (s : State) :
    Host.Outcome State Fault Refusal :=
  .next (if channel < s.dramChannels then s.endRetrain channel delays eyeW eyeH skew else s)

/-- R471: a channel that has waited 1 s for frame blanking. -/
def State.retrainLate (s : State) (c : Nat) : State :=
  match (s.chan c).waits with
  | some t =>
    let s1 := s.untilCycle (t + msCycles 1000)
    if (s1.chan c).late then s1
    else (((s1.setChan c { s1.chan c with late := true }).event F.DRC_EVT_RETRAIN_LATE).fault 8 2 (leBytes 1 c))
  | none => s

def execRetrainLate (channel : Nat) (s : State) : Host.Outcome State Fault Refusal := .next (s.retrainLate channel)

/-- R462: every entry of the log is freed. -/
def State.clearUeLog (s : State) : State :=
  (s.clearRegs 0x301000 0x301400).setFld F.DRC_UE_LOG_STAT_LEVEL 0

def execUeLogClear (s : State) : Host.Outcome State Fault Refusal := .next s.clearUeLog

end Sys2Proof.Machine
end

