-- ==== Sys2Proof/Machine/Net.lean ====
section
/-! DEFINITION. The network ports: reception, time stamps, transmission, and event counters (R118 to R141). -/

namespace Sys2Proof.Machine

/-- The record of a network port. -/
def State.net (s : State) (p : Nat) : NetPort := if p = 0 then s.net0 else s.net1

/-- The state with a network port's record replaced. -/
def State.setNet (s : State) (p : Nat) (x : NetPort) : State :=
  if p = 0 then { s with net0 := x } else { s with net1 := x }

/-- R132: the MAC sets an event bit in both copies. -/
def State.netEvent (s : State) (p : Nat) (f : Fld) : State :=
  let x := s.net p
  let old := x.fwEvents
  (s.setNet p { x with fwEvents := if old / 2 ^ f.lo % 2 = 1 then old else old + 2 ^ f.lo }).event f

/-- R118: a port runs on a sender whose EN is 1. -/
def State.netOn (s : State) (p : Nat) : Bool :=
  s.senderRole && s.flag (F.NET_CTL_EN p) && decide (p < 2) && !s.blockHeld (2 + p)

/-! Time stamps (R130, R131) -/

/-- R130: wall time at a stamp in units of 2^-16 ns, to 2 ns, with a board delay in ns. -/
def stampTime (wall : Nat) (adj : Int) : Nat := (((wall / 2 ^ 41 * 2 : Nat) : Int) + adj).toNat * 65536

/-- R131: a stamp enters the queue of 64, or is dropped and counted. -/
def State.addStamp (s : State) (p : Nat) (t : Stamp) : State :=
  let x := s.net p
  if x.stamps.length < 64 then
    (s.setNet p { x with stamps := x.stamps ++ [t] }).setFld (F.NET_TS_STAT_LEVEL p) (x.stamps.length + 1)
  else (s.netEvent p (F.NET_EVT_TS_OVF p)).bump (F.NET_TS_STAT_DROP_COUNT p)

/-- R131: firmware takes a stamp of a message from the queue. -/
def State.takeStamp (s : State) (p : Nat) (tx : Bool) (domain kind seq : Nat) : State × Option Nat :=
  let x := s.net p
  match x.stamps.find? (fun t => t.tx == tx && t.domain == domain && t.kind == kind && t.seq == seq) with
  | some t =>
    ((s.setNet p { x with stamps := x.stamps.erase t }).setFld (F.NET_TS_STAT_LEVEL p) (x.stamps.length - 1), some t.time)
  | none => (s, none)

/-! Reception (R120 to R125) -/

/-- The filter entries of a port, as the group addresses of those in use (R125). -/
def State.netFilters (s : State) (p : Nat) : List Nat :=
  ((List.range 32).filter (fun f => s.flag (F.NET_FLT_HI_EN p f))).map
    (fun f => s.fld (F.NET_FLT_LO_ADDR_LO p f) + 2 ^ 32 * s.fld (F.NET_FLT_HI_ADDR_HI p f))

/-- R121: the MAC address of a port. -/
def State.netMac (s : State) (p : Nat) : Nat := s.fld (F.NET_MAC_LO_ADDR_LO p) + 2 ^ 32 * s.fld (F.NET_MAC_HI_ADDR_HI p)

/-- R123, check 7. -/
def State.netAddressed (s : State) (p dst : Nat) : Bool :=
  dst == s.netMac p || (dst == 2 ^ 48 - 1 && s.flag (F.NET_CTL_BCAST_EN p)) || (s.netFilters p).contains dst

/-- R123: the event of the first check that a frame fails. -/
def State.netCheck (s : State) (p : Nat) (e : EthFrame) : Option Fld :=
  if !e.codeOk then some (F.NET_EVT_FEC_UNCORR p)
  else if e.len < 64 then some (F.NET_EVT_RUNT p)
  else if 9600 < e.len then some (F.NET_EVT_OVERSIZE p)
  else if !e.fcsOk then some (F.NET_EVT_FCS_ERR p)
  else if e.content = .pause then some (F.NET_EVT_PAUSE_DISC p)
  else if e.vid ≠ (if s.flag (F.NET_CTL_VLAN_EN p) then some (s.fld (F.NET_VLAN_VID p)) else none) then
    some (F.NET_EVT_FILTER_MISS p)
  else if !s.netAddressed p e.dst then some (F.NET_EVT_FILTER_MISS p)
  else if !e.room then some (F.NET_EVT_RX_OVF p)
  else none

/-- R95: the source descriptor whose flow a UDP packet on a port matches. -/
def State.srcOfFlow (s : State) (port src dst udpPort : Nat) : Option Nat :=
  (List.range 16).find? (fun i =>
    !s.blockHeld 1 && s.flag (F.SDI_SRC_CTL_EN i) && s.flag (F.SDI_SRC_CTL_KIND i) && s.fld (F.SDI_SRC_FLOW_PORT_NET i) == port &&
    s.fld (F.SDI_SRC_FLOW_DST_IPV4_DST i) == dst && s.fld (F.SDI_SRC_FLOW_PORT_UDP_DST i) == udpPort &&
    (!s.flag (F.SDI_SRC_FLOW_PORT_SSM_EN i) || s.fld (F.SDI_SRC_FLOW_SRC_IPV4_SRC i) == src))

/-- R120, R124: where the content of a frame goes. -/
inductive NetDest where
  | firmware | ptpEvent | command | heartbeat | flow (src : Nat) | unmatched | drop
  deriving DecidableEq, Repr

/-- R120, R124: the destination of a frame that has passed its checks. -/
def State.netDest (s : State) (p : Nat) (e : EthFrame) : NetDest :=
  match e.content with
  | .udp srcIp dstIp _ dstPort _ =>
    let flow := match s.srcOfFlow p srcIp dstIp dstPort with
      | some i => NetDest.flow i
      | none => .unmatched
    if s.flag (F.NET_CTL_MODE p) && e.sub != 0 then (match flow with | .flow i => .flow i | _ => .drop)
    else if dstPort = 319 then .ptpEvent
    else if dstPort = 320 then .firmware
    else if dstPort = s.fld (F.NET_UDP_CMD_PORT p) then .command
    else if dstPort = s.fld (F.NET_UDP_HB_PORT p) then .heartbeat
    else flow
  | .arp .. | .icmp .. | .igmp => if s.flag (F.NET_CTL_MODE p) && e.sub != 0 then .drop else .firmware
  | _ => .drop

/-- The domainNumber, messageType and sequenceId of a PTP message. -/
def ptpId (bs : List Byte) : Nat × Nat × Nat :=
  (leAt bs 4 1, leAt bs 0 1 % 16, leAt bs 30 1 * 256 + leAt bs 31 1)

/-- R130: a received frame to port 319 is stamped. -/
def State.stampRx (s : State) (p : Nat) (e : EthFrame) : State :=
  match e.content with
  | .udp _ _ _ _ bs =>
    let i := ptpId bs
    s.addStamp p ⟨false, stampTime s.wall (signed 16 (s.fld (F.NET_TS_ADJ_RX_ADJ p))), i.1, i.2.1, i.2.2⟩
  | _ => s

/-- R129: TX_START as taken, 1 to 19. -/
def clampStart (v : Nat) : Nat := if v = 0 then 1 else if 19 < v then 19 else v

/-- R129, R137: a write of TX_START loads CUR_THRESH too. -/
def State.txStart (s : State) (p v : Nat) : State :=
  (s.setFld (F.NET_CTL_TX_START p) (clampStart (v % 32))).setFld (F.NET_STAT_CUR_THRESH p) (clampStart (v % 32))

def execTxStartWrite (port value : Nat) (s : State) : Host.Outcome State Fault Refusal :=
  .next (if s.senderRole ∧ port < 2 then s.txStart port value else s)

/-! Transmission (R127 to R129) -/

/-- The word at a position, most significant byte first. -/
def beAt (bs : List Byte) (i n : Nat) : Nat := leNat ((bs.drop i).take n).reverse

/-- `n` bytes of a number, most significant first. -/
def beBytes (n v : Nat) : List Byte := (leBytes n v).reverse

/-- Bytes of a frame replaced from a position. -/
def putAt (bs : List Byte) (i : Nat) (x : List Byte) : List Byte := bs.take i ++ x ++ bs.drop (i + x.length)

/-- The sum of 16-bit words, most significant byte first; a last odd byte is padded with 0. -/
def sum16 : List Byte → Nat
  | [] => 0
  | [a] => a.toNat * 256
  | a :: b :: rest => a.toNat * 256 + b.toNat + sum16 rest

/-- The internet checksum of bytes: the inverse of the ones' complement sum. -/
def inetSum (n : Nat) : Nat := if n = 0 then 65535 else 65535 - (1 + (n - 1) % 65535)

/-- R128: the frame of segment k. -/
def segmentFrame (t : SegSend) (k : Nat) (seg : List Byte) : List Byte :=
  let ip := if t.tagged then 18 else 14
  let udp := ip + 20
  let app := udp + 8
  let b0 := t.template
  let b1 := match t.counter with
    | some o => putAt b0 (app + o) (beBytes 4 (beAt b0 (app + o) 4 + k))
    | none => b0
  let total := b0.length - ip + seg.length
  let b2 := putAt b1 (ip + 2) (beBytes 2 total)
  let b3 := putAt b2 (ip + 4) (beBytes 2 (beAt b0 (ip + 4) 2 + k))
  let b4 := putAt b3 (udp + 4) (beBytes 2 (total - 20))
  let b5 := putAt b4 (ip + 10) [0, 0]
  let b6 := putAt b5 (ip + 10) (beBytes 2 (inetSum (sum16 ((b5.drop ip).take 20))))
  let b7 :=
    if beAt b0 (udp + 6) 2 = 0 then b6
    else
      let z := putAt b6 (udp + 6) [0, 0]
      let c := inetSum (sum16 ((z.drop (ip + 12)).take 8) + 17 + (total - 20) + sum16 (z.drop udp ++ seg))
      putAt z (udp + 6) (beBytes 2 (if c = 0 then 65535 else c))
  let bs := b7 ++ seg
  bs ++ List.replicate (60 - bs.length) 0

/-- R126, R128: a segmented send that the port rejects. -/
def sendFails (t : SegSend) : Bool :=
  let h := t.template.length
  let base := if t.tagged then 46 else 42
  decide (h < base ∨ base + 80 < h) || decide (t.payload.length = 0 ∨ 262144 < t.payload.length) ||
  decide (t.size = 0 ∨ 9600 - 4 - h < t.size) ||
  t.counter.any (fun o => decide (h < base + o + 4))

/-- R127, R141: frames enter the firmware send queue; without a link they are discarded. -/
def State.queueFrames (s : State) (p : Nat) (fs : List TxFrame) : State :=
  if s.bit (F.NET_STAT_LINK p) 0 then s.setNet p { s.net p with sendQ := (s.net p).sendQ ++ fs } else s

/-- R128: a segmented send enters the firmware send queue as its frames, or is rejected with TSO_ERR. -/
def State.segmentedSend (s : State) (p : Nat) (t : SegSend) : State :=
  if sendFails t then s.netEvent p (F.NET_EVT_TSO_ERR p)
  else
    s.queueFrames p ((pieces t.size (t.payload.length / t.size + 1) t.payload).mapIdx
      (fun k seg => (⟨segmentFrame t k seg⟩ : TxFrame)))

def execSegmentedSend (port : Nat) (t : SegSend) (s : State) : Host.Outcome State Fault Refusal :=
  .next (if s.netOn port then s.segmentedSend port t else s)

/-- R127: the next frame to leave: the two sources take turns. -/
def nextFrame (x : NetPort) : Option (TxFrame × NetPort) :=
  match x.sendQ, x.monQ with
  | [], [] => none
  | f :: q, [] => some (f, { x with sendQ := q, monLast := false })
  | [], m :: q => some (m, { x with monQ := q, monLast := true })
  | f :: q, m :: r =>
    if x.monLast then some (f, { x with sendQ := q, monLast := false }) else some (m, { x with monQ := r, monLast := true })

/-- R129: a port starts the next frame when it is wholly stored, or CUR_THRESH × 512 bytes of it are. The length of a
frame counts its FCS. -/
def State.startFrame (s : State) (p stored : Nat) : State :=
  match nextFrame (s.net p) with
  | none => s
  | some (f, x) =>
    let len := f.bytes.length + 4
    if stored < len ∧ stored < s.fld (F.NET_STAT_CUR_THRESH p) * 512 then s
    else (s.setNet p { x with leaving := some (f, min stored len) }).send (.frame p f true)

def execTxFrameStart (port stored : Nat) (s : State) : Host.Outcome State Fault Refusal :=
  .next (if s.netOn port && s.bit (F.NET_STAT_LINK port) 0 then s.startFrame port stored else s)

/-- R129: the transmit store runs empty in the frame that is leaving: it ends with an inverted FCS, and the threshold
rises, up to 19. A frame that was wholly stored cannot underrun. -/
def State.underrun (s : State) (p : Nat) : State :=
  match (s.net p).leaving with
  | some (f, stored) =>
    if stored = f.bytes.length + 4 then s
    else
      let s1 := (s.setNet p { s.net p with leaving := none }).send (.frame p f false)
      (s1.netEvent p (F.NET_EVT_TX_UNDERRUN p)).setFld (F.NET_STAT_CUR_THRESH p) (min 19 (s1.fld (F.NET_STAT_CUR_THRESH p) + 1))
  | none => s

def execTxUnderrun (port : Nat) (s : State) : Host.Outcome State Fault Refusal :=
  .next (if s.netOn port then s.underrun port else s)

/-! Links and events (R132, R133, R138, R141) -/

/-- R138: a sub-port comes up; its FEC is aligned where it runs one (R119). -/
def State.netUp (s : State) (p q : Nat) : State :=
  let fec := !s.flag (F.NET_CTL_MODE p) || s.fld (F.NET_CTL_FEC25 p) / 2 ^ q % 2 == 1
  (((s.setBit (F.NET_STAT_LINK p) q true).setBit (F.NET_STAT_FEC_LOCK p) q fec)).netEvent p (F.NET_EVT_LINK_UP p)

/-- R138, R141: a sub-port loses its link. What is leaving on sub-port 0 is abandoned, and what is queued for it is
discarded. -/
def State.netDown (s : State) (p q : Nat) : State :=
  let s1 := ((s.setBit (F.NET_STAT_LINK p) q false).setBit (F.NET_STAT_FEC_LOCK p) q false).netEvent p (F.NET_EVT_LINK_DOWN p)
  if q = 0 then s1.setNet p { s1.net p with leaving := none, sendQ := [], monQ := [] } else s1

/-- R119: a port in MODE 0 has sub-port 0 alone. -/
def State.subPortOk (s : State) (p q : Nat) : Bool := q == 0 || (s.flag (F.NET_CTL_MODE p) && decide (q < 4))

def execLinkUp (port sub : Nat) (s : State) : Host.Outcome State Fault Refusal :=
  .next (if s.netOn port && s.subPortOk port sub then s.netUp port sub else s)

def execLinkDown (port sub : Nat) (s : State) : Host.Outcome State Fault Refusal :=
  .next (if s.netOn port && s.subPortOk port sub then s.netDown port sub else s)

/-- R133: firmware services its copy: each counter whose bit is set rises, and the copy is cleared. -/
def State.serviceEvents (s : State) (p : Nat) : State :=
  let x := s.net p
  s.setNet p { x with
    fwEvents := 0
    counters := (List.range 16).map (fun i =>
      let c := x.counters.getD i 0
      if x.fwEvents / 2 ^ i % 2 = 1 then min (c + 1) 0xFFFFFFFF else c) }

def execFwEventService (port : Nat) (s : State) : Host.Outcome State Fault Refusal :=
  .next (if s.netOn port then s.serviceEvents port else s)

/-! Destination filters (R125) -/

/-- The group address of an IPv4 multicast address. -/
def groupMac (ip : Nat) : Nat := 0x01005E000000 + ip % 2 ^ 23

/-- R125: the group addresses that a port needs. -/
def State.neededGroups (s : State) (p : Nat) : List Nat :=
  let flows := (List.range 16).filter (fun i =>
    s.flag (F.SDI_SRC_CTL_EN i) && s.flag (F.SDI_SRC_CTL_KIND i) && s.fld (F.SDI_SRC_FLOW_PORT_NET i) == p &&
    s.fld (F.SDI_SRC_FLOW_DST_IPV4_DST i) / 2 ^ 28 == 14)
  [0x01005E000181, 0x01005E000001] ++ (flows.map (fun i => groupMac (s.fld (F.SDI_SRC_FLOW_DST_IPV4_DST i)))).dedup

/-- R125: firmware writes the filter entries of a port. -/
def State.writeFilters (s : State) (p : Nat) : State :=
  let gs := if s.flag (F.NET_CTL_EN p) then s.neededGroups p else []
  (List.range 32).foldl (fun t f =>
    match gs[f]? with
    | some g => ((t.setFld (F.NET_FLT_LO_ADDR_LO p f) g).setFld (F.NET_FLT_HI_ADDR_HI p f) (g / 2 ^ 32)).setFlag (F.NET_FLT_HI_EN p f) true
    | none => ((t.setFld (F.NET_FLT_LO_ADDR_LO p f) 0).setFld (F.NET_FLT_HI_ADDR_HI p f) 0).setFlag (F.NET_FLT_HI_EN p f) false) s

end Sys2Proof.Machine
end

