-- ==== Sys2Proof/Machine/Time.lean ====
section
/-! DEFINITION. Wall time: the servo and its states, PTP, REF, steps, and the event outputs (R390 to R417). Offsets are
held in units of 2^-16 ns. -/

namespace Sys2Proof.Machine

/-! Medians -/

/-- A value put into a rising list. -/
def insertInt (x : Int) : List Int → List Int
  | [] => [x]
  | y :: ys => if x ≤ y then x :: y :: ys else y :: insertInt x ys

/-- A list in rising order. -/
def sortInt (l : List Int) : List Int := l.foldr insertInt []

/-- A quotient by two; `bit` rounds an odd number up or down. -/
def half (x : Int) (bit : Nat) : Int := x / 2 + (if x % 2 = 0 then 0 else (bit : Int))

/-- The median; of an even count, the mean of the middle two. -/
def medianOf (l : List Int) (bit : Nat) : Int :=
  let v := sortInt l
  let n := v.length
  if n = 0 then 0
  else if n % 2 = 1 then v.getD (n / 2) 0
  else half (v.getD (n / 2 - 1) 0 + v.getD (n / 2) 0) bit

/-- An open bit. -/
def State.openBit (s : State) : Nat := s.freeValue.toNat % 2

/-- An offset in ps, in a signed field of 32 bits that saturates; `bit` rounds a fraction. -/
def psField (x : Int) (bit : Nat) : Nat :=
  let p := x * 1000 / 65536 + (if x * 1000 % 65536 = 0 then 0 else (bit : Int))
  unsigned 32 (max (-2147483648) (min 2147483647 p))

/-- One nanosecond in units of 2^-16 ns. -/
def ns16 : Int := 65536

/-- Wall time in units of 2^-16 ns. -/
def State.wall16 (s : State) : Int := ((s.wall / 2 ^ 24 : Nat) : Int)

/-- A time field in units of 2^-16 ns. -/
def time16 (t : TimeField) : Int := (((t.sec * 10 ^ 9 + t.ns) * 65536 + t.frac : Nat) : Int)

/-! States (R394) -/

/-- R394: the four states by their values in PTP_STAT. -/
inductive TimeMode where
  | freerun | acquire | locked | holdover
  deriving DecidableEq, Repr

/-- R414: the value of a time state. -/
def TimeMode.code : TimeMode → Nat
  | .freerun => 0 | .acquire => 1 | .locked => 2 | .holdover => 3

/-- The time state. -/
def State.timeMode (s : State) : TimeMode :=
  match s.fld F.PTP_STAT_STATE with
  | 1 => .acquire | 2 => .locked | 3 => .holdover | _ => .freerun

/-- R394: a move to a time state, with its event and the link's flag (R395). -/
def State.setTimeMode (s : State) (m : TimeMode) : State :=
  let s1 := { s with time := { s.time with near := 0, far := 0 } }
  let s2 := (s1.setFld F.PTP_STAT_STATE m.code).setFlag F.MLK_STAT_TIME_LOCKED (m == .locked && s1.tileRole)
  match m with
  | .locked => s2.event F.PTP_EVT_LOCKED
  | .holdover => s2.event F.PTP_EVT_HOLDOVER
  | _ => s2

/-- R393, R394: the source is lost. -/
def State.sourceLost (s : State) : State :=
  let s1 := { s with time := { s.time with samples := [] } }
  match s.timeMode with
  | .acquire | .locked => s1.setTimeMode .holdover
  | _ => s1

/-! Steps (R394, R402) -/

/-- R402: the next flip after a step to wall time `w`. -/
def State.flipAfterStep (s : State) (delta : Int) (w : Nat) : Option Nat :=
  match s.flip.next with
  | none => none
  | some n =>
    if delta < 0 ∨ s.tileRole = true then some n
    else
      let m := (gridFrom s.flipNum s.flipDen s.flipOffset (w + s.flipPeriod) + s.flipBase) % 2 ^ 64
      some (max n m)

/-- R402: wall time is stepped by Δ. Actions that a forward step passes are marked LATE_RUN; pulses in a skipped interval
are not made. -/
def State.applyStep (s : State) (delta : Int) (again : Bool) : State :=
  let w := ((s.wall : Int) + delta * 2 ^ 24).toNat
  let s1 := { s with
    wall := w
    flip := { s.flip with next := s.flipAfterStep delta w }
    sched := s.sched.map (fun (e : SchedEntry) => if s.wall < e.due ∧ e.due ≤ w then { e with late := true } else e)
    time := { s.time with
      samples := s.time.samples.map (· - delta)
      outs := s.time.outs.map (fun (o : Nat × EvtOut) => (o.1, { o.2 with since := max o.2.since w })) } }
  let s2 := (s1.bump F.PTP_STAT_STEPS).setFlag F.PTP_STAT_STEPPED true
  let s3 := if s2.tileRole then s2 else s2.event F.PTP_EVT_STEP
  if again && !s3.tileRole then (s3.setFlag F.PTP_STAT_RESTEP_PENDING false).event F.PTP_EVT_RESTEP_DONE else s3

/-- R394: ACQUIRE is entered; a device that has not stepped does so in the next cycle, by the median offset. -/
def State.enterAcquire (s : State) (m : Int) : State :=
  let s1 := s.setTimeMode .acquire
  if s1.flag F.PTP_STAT_STEPPED then s1 else (s1.ticks 1).applyStep m false

/-- R394: the rate that the servo adds is not stated, within ±SLEW_PPB of a base rate that is not stated either: RATE takes
an open value. -/
def State.steer (s : State) : State := (s.setReg 0x140014 s.freeValue).drawn

/-- R393: the source is REF. -/
def State.sourceIsRef (s : State) : Bool := !s.tileRole && s.fld F.PTP_CTL_SOURCE == 1

/-- R394: a valid sample, the source's time minus wall time. -/
def State.servoSample (s : State) (off : Int) : State :=
  let xs := (off :: s.time.samples).take 8
  let m := medianOf xs s.openBit
  let s1 := { s with time := { s.time with samples := xs } }.drawn
  let lock := ((s1.fld F.PTP_SERVO_LOCK_NS : Nat) : Int) * ns16
  match s1.timeMode with
  | .freerun | .holdover =>
    if xs.length = 8 ∧ xs.all (fun x => decide ((x - m).natAbs ≤ 1000 * 65536)) = true ∧
        (s1.timeMode = .holdover ∨ s1.sourceIsRef = false) then s1.enterAcquire m
    else s1
  | .acquire =>
    let n := if (m.natAbs : Int) ≤ lock then s1.time.near + 1 else 0
    let s2 := { s1 with time := { s1.time with near := n } }.steer
    if 16 ≤ n then s2.setTimeMode .locked else s2
  | .locked =>
    let n := if (m.natAbs : Int) > 4 * lock then s1.time.far + 1 else 0
    let s2 := { s1 with time := { s1.time with far := n } }.steer
    if 16 ≤ n then s2.setTimeMode .acquire else s2

/-! PTP domains (R396 to R399) -/

/-- A PTP domain: 0 for A, 1 for B. -/
def State.dom (s : State) (d : Nat) : PtpDomain := if d = 0 then s.time.domA else s.time.domB

/-- The state with a PTP domain replaced. -/
def State.setDom (s : State) (d : Nat) (x : PtpDomain) : State :=
  if d = 0 then { s with time := { s.time with domA := x } } else { s with time := { s.time with domB := x } }

/-- An interval of 2^i seconds in CLK_TIME cycles. -/
def logCycles (i : Int) : Nat := if 0 ≤ i then 500000000 * 2 ^ i.toNat else 500000000 / 2 ^ (-i).toNat

/-- R397: the 1588-2019 comparison: the first of two masters is the better one. -/
def betterMaster (a b : Master) : Bool :=
  let key (m : Master) : List Nat :=
    [m.msg.priority1, m.msg.cls, m.msg.accuracy, m.msg.variance, m.msg.priority2, m.msg.gm]
  if a.msg.gm = b.msg.gm then
    decide ([a.msg.steps, a.source, a.port] < [b.msg.steps, b.source, b.port])
  else decide (key a < key b)

/-- R398: Announce of a master has timed out. -/
def State.announceLate (s : State) (d : Nat) (m : Master) : Bool :=
  decide (m.heard + s.fld (F.PTP_DOM_CFG_ANN_TMO d) * logCycles m.interval ≤ s.cycles)

/-- R397: the best of the masters that a domain hears. -/
def State.bestMaster (s : State) (d : Nat) : Option Master :=
  ((s.dom d).masters.filter (fun m => decide (m.msg.steps < 255) && !s.announceLate d m)).foldl
    (fun acc m => match acc with
      | none => some m
      | some b => some (if betterMaster m b then m else b)) none

/-- The master of a domain. -/
def State.masterOf (s : State) (d : Nat) : Option Master :=
  match (s.dom d).best with
  | some (p, src) => (s.dom d).masters.find? (fun m => m.port == p && m.source == src)
  | none => none

/-- R394, R400: the offset of a domain as the source's time minus wall time. -/
def State.domOffset (s : State) (d : Nat) : Int := -(medianOf (s.dom d).offsets s.openBit)

/-- R398: a domain is FAR. -/
def State.domFar (s : State) (d : Nat) : Bool :=
  s.flag F.PTP_STAT_STEPPED && !(s.dom d).offsets.isEmpty && decide ((s.domOffset d).natAbs > 1000000 * 65536)

/-- R398: a domain is usable. -/
def State.domUsable (s : State) (d : Nat) : Bool :=
  s.flag (F.PTP_DOM_CFG_EN d) &&
  (match s.masterOf d with
   | none => false
   | some m =>
     !s.announceLate d m && decide (m.msg.cls ≤ s.fld (F.PTP_DOM_CFG_CLASS_MAX d)) &&
     (s.dom d).valids.any (fun t => decide (s.cycles < t + 16 * logCycles m.sync))) &&
  !s.domFar d

/-- R414: valid exchanges in the last 2 s, up to 255. -/
def State.validCount (s : State) (d : Nat) : Nat :=
  min 255 ((s.dom d).valids.filter (fun t => decide (s.cycles < t + msCycles 2000))).length

/-- R398: the preferred domain under SELECT. -/
def State.preferredDom (s : State) : Nat := s.fld F.PTP_CTL_SELECT % 2

/-- R398: SELECT allows both domains. -/
def State.bothDoms (s : State) : Bool := decide (s.fld F.PTP_CTL_SELECT < 2)

/-- R400: the offset of the preferred source, where there is one. -/
def State.preferredOffset (s : State) : Option Int :=
  if s.fld F.PTP_CTL_SOURCE = 1 then
    if s.time.samples.isEmpty then none else some (medianOf s.time.samples s.openBit)
  else if s.fld F.PTP_CTL_SOURCE = 0 then
    let p := s.preferredDom
    let d := if (s.masterOf p).isSome && decide (8 ≤ s.validCount p) then p else 1 - p
    if (s.dom d).offsets.isEmpty then none else some (s.domOffset d)
  else none

/-- R414: RESTEP_NEEDED. -/
def State.noteRestep (s : State) : State :=
  s.setFlag F.PTP_STAT_RESTEP_NEEDED (s.preferredOffset.any (fun o => decide (o.natAbs > 1000000 * 65536)) && s.flag F.PTP_STAT_STEPPED)

/-- R399: the domain in use changes; the counter is not stepped. -/
def State.useDom (s : State) (d : Nat) : State :=
  let was := s.fld F.PTP_STAT_IN_USE
  let s1 := (s.setFld F.PTP_STAT_IN_USE d)
  let s2 := { s1 with time := { s1.time with samples := (s1.dom d).offsets.map (fun x => -x) } }
  if was < 2 ∧ was ≠ d then s2.event F.PTP_EVT_DOM_SWITCH else s2

/-- R398: the domain in use is chosen again. -/
def State.chooseDom (s : State) : State :=
  if s.tileRole || s.fld F.PTP_CTL_SOURCE != 0 then s
  else
    let now := s.fld F.PTP_STAT_IN_USE
    let p := s.preferredDom
    let allowed (d : Nat) : Bool := d == p || s.bothDoms
    if decide (now < 2) && allowed now && s.domUsable now then s
    else if s.domUsable p then s.useDom p
    else if s.bothDoms && s.domUsable (1 - p) then s.useDom (1 - p)
    else if now < 2 then (s.setFld F.PTP_STAT_IN_USE 3).sourceLost
    else s

/-- R397, R398, R415: a domain's master, its registers, whether it is usable, and the choice of the domain. -/
def State.updateDom (s : State) (d : Nat) : State :=
  let best := s.bestMaster d
  let x := s.dom d
  let s1 := s.setDom d { x with best := best.map (fun m => (m.port, m.source)) }
  let s2 := s1.setFlag (F.PTP_DOM_STAT_MASTER d) best.isSome
  let s3 := match best with
    | none => s2
    | some m =>
      ((((((((s2.setFld (F.PTP_DOM_STAT_PORT d) m.port).setFld (F.PTP_DOM_GM_HI_ID d) (m.msg.gm / 2 ^ 32)).setFld
        (F.PTP_DOM_GM_LO_ID d) m.msg.gm).setFld (F.PTP_DOM_GM_Q_CLASS d) m.msg.cls).setFld
        (F.PTP_DOM_GM_Q_ACCURACY d) m.msg.accuracy).setFld (F.PTP_DOM_GM_Q_STEPS_REMOVED d) m.msg.steps).setFlag
        (F.PTP_DOM_UTC_UTC_VALID d) m.msg.utcValid).setFlag (F.PTP_DOM_UTC_LEAP61 d) m.msg.leap61).setFlag
        (F.PTP_DOM_UTC_LEAP59 d) m.msg.leap59 |>.setFld (F.PTP_DOM_UTC_UTC_OFFSET d) m.msg.utcOffset
  let far := s3.domFar d
  let s4 := if far && !s3.flag (F.PTP_DOM_STAT_FAR d) then s3.event F.PTP_EVT_DOM_FAR else s3
  let s5 := s4.setFlag (F.PTP_DOM_STAT_FAR d) far
  let ok := s5.domUsable d
  let y := s5.dom d
  let s6 := (s5.setFlag (F.PTP_DOM_STAT_USABLE d) ok).setDom d
    { y with usableSince := if ok then some (y.usableSince.getD s5.cycles) else none }
  s6.chooseDom.noteRestep

/-- The domain, 0 or 1, that is enabled with a domainNumber. -/
def State.domOfNumber (s : State) (n : Nat) : Option Nat :=
  [0, 1].find? (fun d => s.flag (F.PTP_DOM_CFG_EN d) && s.fld (F.PTP_DOM_CFG_DOMAIN d) == n)

/-- R397, R415: an Announce enters the comparison of its domain. -/
def State.announce (s : State) (p : Nat) (h : PtpHdr) (a : AnnounceMsg) : State :=
  match s.domOfNumber h.domain with
  | none => s
  | some d =>
    let x := s.dom d
    let old := x.masters.find? (fun m => m.port == p && m.source == h.source)
    let m : Master := ⟨p, h.source, a, h.interval, s.cycles, (old.map (·.sync)).getD 0⟩
    let meta_ := match a.metadata with
      | some bs => some (timeField s.wall, bs.take 256)
      | none => x.metadata
    (s.setDom d { x with
      masters := x.masters.filter (fun m => !(m.port == p && m.source == h.source)) ++ [m]
      metadata := meta_ }).updateDom d

def execAnnounce (port : Nat) (h : PtpHdr) (a : AnnounceMsg) (s : State) : Host.Outcome State Fault Refusal :=
  .next (if s.netOn port then s.announce port h a else s)

/-- R396: an exchange is discarded. -/
def State.discardExchange (s : State) (d : Nat) (lost : Bool) : State :=
  let s1 := (s.setDom d { s.dom d with sync := none }).bump (F.PTP_DOM_CNT_DISC_COUNT d)
  if lost then s1.event F.PTP_EVT_TS_LOST else s1

/-- R396: whether a message comes from a domain's master. -/
def State.fromMaster (s : State) (d p : Nat) (h : PtpHdr) : Bool := (s.dom d).best == some (p, h.source)

/-- R396: a Sync from the domain's master is taken with its receive stamp. -/
def State.sync (s : State) (p : Nat) (h : PtpHdr) (origin : TimeField) : State :=
  let (s1, stamp) := s.takeStamp p false h.domain 0 h.seq
  match s1.domOfNumber h.domain with
  | none => s1
  | some d =>
    if !s1.fromMaster d p h then s1
    else
      let x := s1.dom d
      let s2 := s1.setDom d { x with masters := x.masters.map (fun m =>
        if m.port = p ∧ m.source = h.source then { m with sync := h.interval } else m) }
      match stamp with
      | none => s2.discardExchange d true
      | some t =>
        let t1 := if h.twoStep then none else some (time16 origin + h.correction)
        s2.setDom d { s2.dom d with sync := some ⟨p, h.source, h.seq, h.correction, t1, some (t : Int)⟩ }

def execSync (port : Nat) (h : PtpHdr) (origin : TimeField) (s : State) : Host.Outcome State Fault Refusal :=
  .next (if s.netOn port then s.sync port h origin else s)

/-- R396: a Follow_Up gives t1 of a two-step Sync. -/
def State.followUp (s : State) (p : Nat) (h : PtpHdr) (origin : TimeField) : State :=
  match s.domOfNumber h.domain with
  | none => s
  | some d =>
    match (s.dom d).sync with
    | some y =>
      if y.port = p ∧ y.source = h.source ∧ y.seq = h.seq ∧ y.t1 = none then
        s.setDom d { s.dom d with sync := some { y with t1 := some (time16 origin + h.correction + y.corr) } }
      else s
    | none => s

def execFollowUp (port : Nat) (h : PtpHdr) (origin : TimeField) (s : State) : Host.Outcome State Fault Refusal :=
  .next (if s.netOn port then s.followUp port h origin else s)

/-- R396: Delay_Req goes to the domain's master at its interval, and is stamped. -/
def State.delayReqSend (s : State) (d : Nat) : State :=
  match s.masterOf d with
  | none => s
  | some m =>
    let x := s.dom d
    let s1 := match x.reqInterval with
      | some i => s.untilCycle (x.reqAt + logCycles i)
      | none => s
    let n := (x.reqSeq + 1) % 65536
    let number := s1.fld (F.PTP_DOM_CFG_DOMAIN d)
    let s2 := s1.setDom d { s1.dom d with reqSeq := n, reqAt := s1.cycles }
    (s2.addStamp m.port ⟨true, stampTime s2.wall (signed 16 (s2.fld (F.NET_TS_ADJ_TX_ADJ m.port))), number, 1, n⟩).send
      (.delayReq m.port number n (if s2.flag (F.PTP_DOM_CFG_HYBRID d) then some m.source else none))

def execDelayReqSend (dom : Nat) (s : State) : Host.Outcome State Fault Refusal :=
  .next (if dom < 2 ∧ s.senderRole = true then s.delayReqSend dom else s)

/-- R396: a valid exchange of a domain: its offset (t2 − t1) − d and its delay d. -/
def State.exchange (s : State) (d : Nat) (offset delay : Int) : State :=
  let x := s.dom d
  let s1 := (s.setDom d { x with
    offsets := (offset :: x.offsets).take 8
    delays := (delay :: x.delays).take 8
    valids := s.cycles :: (x.valids.filter (fun t => decide (s.cycles < t + msCycles 64000)))
    sync := none }).wrapInc (F.PTP_DOM_CNT_EXCH_COUNT d)
  let bit := s1.openBit
  let s2 := s1.drawn
  let s3 := (s2.setFld (F.PTP_DOM_OFFSET_OFFSET_PS d) (psField (medianOf (s2.dom d).offsets bit) bit)).setFld
    (F.PTP_DOM_DELAY_DELAY_PS d) (psField (medianOf (s2.dom d).delays bit) bit)
  let was := s3.fld F.PTP_STAT_IN_USE
  let s4 := s3.updateDom d
  if s4.fld F.PTP_STAT_IN_USE = d ∧ s4.fld F.PTP_CTL_SOURCE = 0 then
    (if was = d then s4.servoSample (-offset)
     else { s4 with time := { s4.time with samples := s4.time.samples.drop 1 } }.servoSample (-offset)).noteRestep
  else s4

/-- R396: a Delay_Resp completes the exchange of its request. -/
def State.delayResp (s : State) (p : Nat) (h : PtpHdr) (receive : TimeField) : State :=
  match s.domOfNumber h.domain with
  | none => s
  | some d =>
    if !s.fromMaster d p h || (s.dom d).reqSeq != h.seq then s
    else
      let (s1, t3) := s.takeStamp p true h.domain 1 h.seq
      let s2 := s1.setDom d { s1.dom d with reqInterval := some h.interval }
      match (s2.dom d).sync, t3 with
      | some y, some t3 =>
        match y.t1, y.t2 with
        | some t1, some t2 =>
          let a := t2 - t1
          let b := time16 receive - h.correction - (t3 : Int)
          let bit := s2.openBit
          let s3 := s2.drawn
          if a + b < 0 then s3.discardExchange d false
          else s3.exchange d (half (a - b) bit) (half (a + b) bit)
        | _, _ => s2
      | some _, none => s2.discardExchange d true
      | none, _ => s2

def execDelayResp (port : Nat) (h : PtpHdr) (receive : TimeField) (mine : Bool) (s : State) :
    Host.Outcome State Fault Refusal :=
  .next (if s.netOn port && mine then s.delayResp port h receive else s)

/-- R398: Announce of a domain's master times out. -/
def State.announceTimeout (s : State) (d : Nat) : State :=
  match s.masterOf d with
  | none => s
  | some m =>
    let s1 := s.untilCycle (m.heard + s.fld (F.PTP_DOM_CFG_ANN_TMO d) * logCycles m.interval)
    (s1.setDom d { s1.dom d with masters := (s1.dom d).masters.filter (fun x => !s1.announceLate d x) }).updateDom d

def execAnnounceTimeout (dom : Nat) (s : State) : Host.Outcome State Fault Refusal :=
  .next (if dom < 2 ∧ s.senderRole = true then s.announceTimeout dom else s)

/-- R398: a domain has had no valid exchange within 16 Sync intervals of its master. -/
def State.exchangeLapse (s : State) (d : Nat) : State :=
  match s.masterOf d, (s.dom d).valids with
  | some m, t :: _ => (s.untilCycle (t + 16 * logCycles m.sync)).updateDom d
  | _, _ => s.updateDom d

def execValidExchangeLapse (dom : Nat) (s : State) : Host.Outcome State Fault Refusal :=
  .next (if dom < 2 ∧ s.senderRole = true then s.exchangeLapse dom else s)

/-- R398: the preferred domain has been usable for REVERT_S, and is used again. -/
def State.revert (s : State) : State :=
  let p := s.preferredDom
  let r := s.fld F.PTP_CTL_REVERT_S
  match (s.dom p).usableSince with
  | some t =>
    if s.fld F.PTP_STAT_IN_USE = 1 - p ∧ s.bothDoms = true ∧ r ≠ 0 ∧ s.fld F.PTP_CTL_SOURCE = 0 then
      let s1 := s.untilCycle (t + msCycles (1000 * r))
      if s1.domUsable p then s1.useDom p else s1
    else s
  | none => s

def execRevertTimer (s : State) : Host.Outcome State Fault Refusal :=
  .next (if s.senderRole then s.revert else s)

/-! REF and the chain (R393, R412) -/

/-- R412: the offset of an edge: to the nearest whole second of wall time. -/
def State.edgeOffset (s : State) : Int :=
  let sec : Int := 10 ^ 9 * 65536
  let r := s.wall16 % sec
  if 2 * r ≤ sec then -r else sec - r

/-- R412: PTP_REF_SEC as wall time in units of 2^-16 ns. -/
def State.refSec (s : State) : Int :=
  ((s.fld F.PTP_REF_SEC_HI_SEC_HI * 2 ^ 32 + s.fld F.PTP_REF_SEC_LO_SEC_LO : Nat) : Int) * (10 ^ 9 * 65536)

/-- R412: the first edge steps a device that has not stepped, and brings it to ACQUIRE; every other edge is a sample. -/
def State.refEdge (s : State) : State :=
  let s1 := { s with time := { s.time with refEdge := some s.cycles } }
  if !s1.sourceIsRef then s1
  else if s1.timeMode = .freerun ∧ s1.flag F.PTP_STAT_STEPPED = false then
    let s2 := (s1.setFld F.PTP_STAT_IN_USE 2).setTimeMode .acquire
    let s3 := s2.applyStep (s2.refSec - s2.wall16) false
    { s3 with wall := s3.refSec.toNat * 2 ^ 24, time := { s3.time with samples := [] } }
  else ((s1.setFld F.PTP_STAT_IN_USE 2).servoSample s1.edgeOffset).noteRestep

def execRef1ppsEdge (s : State) : Host.Outcome State Fault Refusal :=
  .next (if s.senderRole then s.refEdge else s)

/-- R393: no edge for 1.5 s loses the source. -/
def State.refLoss (s : State) : State :=
  match s.time.refEdge with
  | some t =>
    if s.sourceIsRef then
      let s1 := s.untilCycle (t + msCycles 1500 + 1)
      ((s1.event F.PTP_EVT_REF_LOSS).sourceLost)
    else s
  | none => s

def execRefLoss (s : State) : Host.Outcome State Fault Refusal :=
  .next (if s.senderRole then s.refLoss else s)

/-- R393: a tile with no valid exchange for 10 ms loses its source. -/
def State.chainLoss (s : State) : State :=
  match s.time.chainAt with
  | some t => (s.untilCycle (t + msCycles 10 + 1)).sourceLost
  | none => s

def execChainTimeLoss (s : State) : Host.Outcome State Fault Refusal :=
  .next (if s.tileRole then s.chainLoss else s)

/-- R392: wall time is captured 4 CLK_TIME cycles after the write. -/
def State.capture (s : State) : State :=
  let s1 := s.ticks 4
  (((s1.setFld F.PTP_CAP_SEC_HI_SEC (secOf s1.wall / 2 ^ 32)).setFld F.PTP_CAP_SEC_LO_SEC (secOf s1.wall)).setFld
    F.PTP_CAP_NS_NS (nsOf s1.wall)).setFld F.PTP_CAP_FRAC_FRAC (fracOf s1.wall)

def execPtpCapture (s : State) : Host.Outcome State Fault Refusal := .next s.capture

/-! Event outputs (R407 to R410) -/

/-- The record of an event output. -/
def State.evtOut (s : State) (n : Nat) : EvtOut :=
  ((s.time.outs.find? (fun x => x.1 == n)).map (·.2)).getD ⟨false, 0, 0, 0, false⟩

/-- The state with an event output's record replaced. -/
def State.setEvtOut (s : State) (n : Nat) (o : EvtOut) : State :=
  { s with time := { s.time with outs := s.time.outs.filter (fun x => x.1 != n) ++ [(n, o)] } }

/-- R408: START of an output as wall time. -/
def State.evtStart (s : State) (n : Nat) : Nat :=
  ((s.fld (F.PTP_EVT_START_SEC_HI_SEC_HI n) * 2 ^ 32 + s.fld (F.PTP_EVT_START_SEC_LO_SEC_LO n)) * 10 ^ 9 +
    s.fld (F.PTP_EVT_START_NS_NS n)) * nsUnit

/-- R408: the start of periodic pulse k. -/
def State.periodStart (s : State) (n k : Nat) : Nat :=
  s.evtStart n + k * s.fld (F.PTP_EVT_RATE_DEN n) * 10 ^ 9 * 65536 / max 1 (s.fld (F.PTP_EVT_RATE_NUM n)) * 2 ^ 24

/-- R408, R410: the first periodic pulse at or after number k0 whose start lies after a wall time. -/
def State.firstPulse (s : State) (n k0 since : Nat) : Nat :=
  let den := s.fld (F.PTP_EVT_RATE_DEN n) * 10 ^ 9 * 65536
  let start := s.evtStart n
  let x := if since < start then 0 else ((since - start) / 2 ^ 24 + 1) * s.fld (F.PTP_EVT_RATE_NUM n) / max 1 den
  let c := (List.range 3).map (fun i => max k0 (x - 1 + i))
  (c.find? (fun k => decide (since < s.periodStart n k))).getD (max k0 (x + 2))

/-- R188, R408: the next window of a view: the flip that opens it, and the wall times of its opening and closing. -/
def State.nextWindow (s : State) (v since : Nat) : Option (Nat × Nat) :=
  let opens (f : Nat) : Nat := s.flipTime f + ofUs (s.fld (F.CMP_VIEW_SHUTTER_OPEN_US v))
  let base := s.flip.last.getD s.nextFlip
  (((List.range 34).map (fun i => base + i)).find? (fun f => s.viewOfFlip f == v && decide (since < opens f))).map
    (fun f => (opens f, opens f + ofUs (s.fld (F.CMP_VIEW_SHUTTER_WIDTH_US v))))

/-- R408: the next pulse of an output: its start, its end, and the number after it. -/
def State.nextPulse (s : State) (n : Nat) : Option (Nat × Nat × Nat) :=
  let o := s.evtOut n
  let width := ofNs (s.fld (F.PTP_EVT_WIDTH_WIDTH_NS n))
  match s.fld (F.PTP_EVT_CTL_MODE n) with
  | 0 => if o.fired then none else some (s.evtStart n, s.evtStart n + width, o.k)
  | 1 =>
    let k := s.firstPulse n o.k o.since
    some (s.periodStart n k, s.periodStart n k + width, k + 1)
  | 2 =>
    let sec := 10 ^ 9 * nsUnit
    let t := (o.since / sec + 1) * sec
    some (t, t + width, o.k)
  | 3 =>
    let v := s.fld (F.PTP_EVT_CTL_VIEW n)
    if s.flag (F.CMP_VIEW_CTL_EN v) ∧ s.fld (F.CMP_VIEW_SHUTTER_WIDTH_US v) ≠ 0 then
      (s.nextWindow v o.since).map (fun p => (p.1, p.2, o.k))
    else none
  | _ => none

/-- R409: the instant at which an edge is made: its wall time less ADJ_NS. -/
def State.edgeAt (s : State) (n t : Nat) : Nat :=
  ((t : Int) - signed 16 (s.fld (F.PTP_EVT_ADJ_ADJ_NS n)) * ((nsUnit : Nat) : Int)).toNat

/-- R408, R410: a pulse of an output starts. Under LOCK_ONLY it starts only in LOCKED or HOLDOVER. -/
def State.pulseStart (s : State) (n : Nat) : State :=
  if !s.senderRole || !s.flag (F.PTP_EVT_CTL_EN n) then s
  else
    match s.nextPulse n with
    | none => s
    | some (t, e, k) =>
      let s1 := s.untilWall (s.edgeAt n t)
      let o := s1.evtOut n
      let allowed := !s1.flag (F.PTP_EVT_CTL_LOCK_ONLY n) || s1.timeMode == .locked || s1.timeMode == .holdover
      if allowed then
        (s1.setEvtOut n { o with on := true, until_ := e, k := k, since := t, fired := true }).wrapInc (F.PTP_EVT_CNT_PULSES n)
      else s1.setEvtOut n { o with k := k, since := t, fired := true }

def execEvtPulseStart (out : Nat) (s : State) : Host.Outcome State Fault Refusal :=
  .next (if out < 8 then s.pulseStart out else s)

/-- R408: a pulse ends. -/
def State.pulseEnd (s : State) (n : Nat) : State :=
  let o := s.evtOut n
  if o.on then (s.untilWall (s.edgeAt n o.until_)).setEvtOut n { o with on := false } else s

def execEvtPulseEnd (out : Nat) (s : State) : Host.Outcome State Fault Refusal :=
  .next (if out < 8 then s.pulseEnd out else s)

/-- R407, R408: the level of an event output. -/
def State.evtLevel (s : State) (n : Nat) : Bool :=
  s.senderRole && (if s.flag (F.PTP_EVT_CTL_POL n) then !(s.evtOut n).on else (s.evtOut n).on)

/-- R410: a change to an output has taken effect: its pulses are those whose start lies after now. -/
def State.evtChanged (s : State) (n : Nat) : State :=
  let o := s.evtOut n
  let once := s.flag (F.PTP_EVT_CTL_EN n) && s.fld (F.PTP_EVT_CTL_MODE n) == 0
  let missed := once && decide (s.evtStart n ≤ s.wall)
  let s1 := s.setEvtOut n { o with since := s.wall, k := 0, fired := missed }
  if missed then s1.event F.PTP_EVT_EVT_MISSED else s1

/-- R393, R412: SOURCE or SELECT has changed. -/
def State.sourceChanged (s : State) : State :=
  let s1 := { s with time := { s.time with samples := [], refEdge := none } }
  match s1.fld F.PTP_CTL_SOURCE with
  | 0 => (if s1.fld F.PTP_STAT_IN_USE < 2 then s1 else s1.setFld F.PTP_STAT_IN_USE 3).chooseDom
  | 1 => s1.setFld F.PTP_STAT_IN_USE 2
  | _ => s1.setFld F.PTP_STAT_IN_USE 3

end Sys2Proof.Machine
end

