-- ==== Sys2Proof/Machine/Video.lean ====
section
/-! DEFINITION. Video inputs: SDI signals and ST 2110-20 flows, input buffers, and the states of the sources
(R86 to R102, R109 to R113). -/

namespace Sys2Proof.Machine

/-! Sources -/

/-- The record of a source. -/
def State.src (s : State) (i : Nat) : SrcState :=
  ((s.video.srcs.find? (fun x => x.1 == i)).map (·.2)).getD ⟨[0, 1, 2, 3], none, none, none, 0, none, true, none⟩

/-- The state with a source's record replaced. -/
def State.setSrc (s : State) (i : Nat) (x : SrcState) : State :=
  { s with video := { s.video with srcs := s.video.srcs.filter (fun y => y.1 != i) ++ [(i, x)] } }

/-- R110: the states of a source, in the codes of STAT.STATE. -/
inductive SrcMode where
  | off | seek | active | lost | mismatch
  deriving DecidableEq, Repr

/-- R117: the code of a source state. -/
def SrcMode.code : SrcMode → Nat
  | .off => 0 | .seek => 1 | .active => 2 | .lost => 3 | .mismatch => 4

/-- R110: the state a source is in. -/
def State.srcMode (s : State) (i : Nat) : SrcMode :=
  match s.fld (F.SDI_SRC_STAT_STATE i) with
  | 1 => .seek | 2 => .active | 3 => .lost | 4 => .mismatch | _ => .off

/-- R110, R111: a move of a source. Leaving ACTIVE starts HOLD_MS. -/
def State.setSrcMode (s : State) (i : Nat) (m : SrcMode) : State :=
  let s1 :=
    if s.srcMode i = .active ∧ m ≠ .active then
      s.setSrc i { s.src i with leftAt := some s.cycles, expired := false }
    else s
  s1.setFld (F.SDI_SRC_STAT_STATE i) m.code

/-- The source descriptor bound to an SDI input (R87 allows one). -/
def State.srcOfInput (s : State) (n : Nat) : Option Nat :=
  (List.range 16).find? (fun i =>
    !s.blockHeld 1 && s.flag (F.SDI_SRC_CTL_EN i) && !s.flag (F.SDI_SRC_CTL_KIND i) && s.fld (F.SDI_SRC_CTL_INPUT i) == n)

/-! Storage (R99) -/

/-- A code of 8 or 10 bits left-justified to 12 bits. -/
def justify (depth code : Nat) : Nat :=
  match depth with
  | 0 => code % 256 * 16
  | 1 => code % 1024 * 4
  | _ => code % 4096

/-- R99: bytes per stored pixel of a layout. -/
def Layout.bpp (l : Layout) : Nat := if l.sampling ≠ 0 ∧ l.depth = 2 then 6 else 4

/-- R99: one pixel as stored, from its codes. -/
def pixelBytes (sampling depth : Nat) (cs : List Nat) : List Byte :=
  let c (i : Nat) : Nat := justify depth (cs.getD i 0)
  if sampling = 0 then leBytes 4 (c 0 * 2 ^ 20 + c 1 * 2 ^ 8)
  else if depth = 2 then leBytes 2 (c 0 * 16) ++ leBytes 2 (c 1 * 16) ++ leBytes 2 (c 2 * 16)
  else leBytes 4 (c 0 / 4 * 2 ^ 20 + c 1 / 4 * 2 ^ 10 + c 2 / 4)

/-- The codes of a line grouped by pixel. -/
def groupCodes (k : Nat) : Nat → List Nat → List (List Nat)
  | 0, _ => []
  | n + 1, cs => cs.take k :: groupCodes k n (cs.drop k)

/-- The codes that one pixel takes. -/
def codesPerPixel (sampling : Nat) : Nat := if sampling = 0 then 2 else 3

/-- The pixels of a run of codes. -/
def pixelCount (sampling : Nat) (cs : List Nat) : Nat := cs.length / codesPerPixel sampling

/-- R99: a run of pixels as stored. -/
def runBytes (sampling depth : Nat) (cs : List Nat) : List Byte :=
  (groupCodes (codesPerPixel sampling) (pixelCount sampling cs) cs).flatMap (pixelBytes sampling depth)

/-- R98: every row of a frame has received its full byte count. -/
def rowsFull (l : Layout) (got : List (Nat × Nat × Nat)) : Bool :=
  (List.range l.h).all (fun y =>
    let segs := got.filter (fun g => g.1 == y)
    (List.range l.w).all (fun x => segs.any (fun g => decide (g.2.1 ≤ x ∧ x < g.2.1 + g.2.2))))

/-- R97, R99: a run of pixels placed in the frame in progress. -/
def State.placeRun (s : State) (i row x : Nat) (cs : List Nat) : State :=
  match (s.src i).writing with
  | none => s
  | some f =>
    match f.buf with
    | none => s
    | some _ =>
      let s1 := s.pourMem (f.lay.addr + row * f.lay.pitch + x * f.lay.bpp) (runBytes f.lay.sampling f.lay.depth cs)
      let g := (row, x, pixelCount f.lay.sampling cs)
      let got := if f.got.contains g then f.got else f.got ++ [g]
      let f1 := { f with got := got }
      let f2 := if f1.ackAt.isNone && rowsFull f1.lay f1.got then { f1 with ackAt := some s1.cycles } else f1
      s1.setSrc i { s1.src i with writing := some f2 }

/-! Formats (R91 to R93, R109, R110) -/

/-- A rate within bounds, in thousandths of a hertz. -/
def rateIn (m : Measured) (lo hi : Nat) : Bool := decide (lo ≤ m.mhz ∧ m.mhz ≤ hi)

/-- R91: YCbCr 4:2:2 of 10 bits. -/
def is422 (m : Measured) : Bool := m.sampling == 0 && m.depth == 1

/-- R91: 4:4:4 of 10 or 12 bits. -/
def is444 (m : Measured) : Bool := (m.sampling == 1 || m.sampling == 2) && (m.depth == 1 || m.depth == 2)

/-- R91: the interlaced formats: fields at 50 and 59.94 a second, at the integer rates and at the /1.001 rates. -/
def interlacedRate (m : Measured) : Bool := [24975, 25000, 29970, 30000].contains m.mhz

/-- R91: whether the device receives a format on a link whose rate SDI_PHYn_STAT gives. -/
def receives (rate : Nat) (m : Measured) : Bool :=
  let hd := (m.w == 1920 || m.w == 2048) && m.h == 1080
  let uhd := (m.w == 3840 || m.w == 4096) && m.h == 2160
  let full := m.w == 1920 && m.h == 1080
  let p := m.scan == 0
  if rate = 1 ∨ rate = 2 then
    (m.link == 0 && hd && is422 m &&
      ((p && rateIn m 23976 60000) || (m.scan == 1 && interlacedRate m) || (m.scan == 2 && rateIn m 23976 30000))) ||
    (m.link == 0 && hd && is444 m && m.scan != 1 && rateIn m 23976 30000) ||
    (m.link == 1 && full && is422 m && p && rateIn m 49950 60000)
  else if rate = 3 ∨ rate = 4 then
    m.link == 0 && p &&
      ((uhd && is422 m && rateIn m 23976 30000) || (full && is444 m && rateIn m 49950 60000))
  else if rate = 5 ∨ rate = 6 then
    m.link == 0 && p && uhd && ((is422 m && rateIn m 49950 60000) || (is444 m && rateIn m 23976 30000))
  else false

/-- R110: the raster, scan, sampling or depth measured differs from the descriptor. A flow gives a raster only (R98). -/
def State.formatDiffers (s : State) (i : Nat) (m : Measured) : Bool :=
  m.w != s.fld (F.SDI_SRC_RASTER_WIDTH i) || m.h != s.fld (F.SDI_SRC_RASTER_HEIGHT i) ||
  (!s.flag (F.SDI_SRC_CTL_KIND i) &&
    (!receives (s.fld (F.SDI_PHY_STAT_RATE (s.fld (F.SDI_SRC_CTL_INPUT i)))) m ||
     (m.scan != 0) != s.flag (F.SDI_SRC_CODING_SCAN i) || m.sampling != s.fld (F.SDI_SRC_CODING_SAMPLING i) ||
     m.depth != s.fld (F.SDI_SRC_CODING_DEPTH i)))

/-- R110: the rate measured is above RATE_HZ × 1.01. -/
def State.rateHigh (s : State) (i : Nat) (m : Measured) : Bool :=
  decide (m.mhz * 100 > s.fld (F.SDI_SRC_CODING_RATE_HZ i) * 1000 * 101)

/-- R110: a measurement that does not match the descriptor. SEEK, ACTIVE and LOST enter MISMATCH. -/
def State.enterMismatch (s : State) (i : Nat) (fmt rate : Bool) : State :=
  match s.srcMode i with
  | .seek | .active | .lost =>
    let s1 := if fmt then s.event (F.SDI_SRC_EVT_FMT_CHANGE i) else s
    let s2 := if rate then s1.event (F.SDI_SRC_EVT_RATE_HIGH i) else s1
    s2.setSrcMode i .mismatch
  | _ => s

/-- R117: the DET registers after a measurement. For a flow they report the descriptor's sampling, depth and colour. -/
def State.noteMeasured (s : State) (i : Nat) (m : Measured) : State :=
  let flow := s.flag (F.SDI_SRC_CTL_KIND i)
  let pick (a : Nat) (f : Fld) : Nat := if flow then s.fld f else a
  let odd : Nat := if m.mhz % 1000 = 500 then s.openBit else (if m.mhz % 1000 > 500 then 1 else 0)
  let s0 := if m.mhz % 1000 = 500 then s.drawn else s
  let s1 := (s0.setFld (F.SDI_SRC_DET_RASTER_WIDTH i) m.w).setFld (F.SDI_SRC_DET_RASTER_HEIGHT i) m.h
  let s2 := (s1.setFld (F.SDI_SRC_DET_CODING_RATE_HZ i) (m.mhz / 1000 + odd)).setFld (F.SDI_SRC_DET_CODING_SCAN i)
    (pick (if m.scan = 0 then 0 else 1) (F.SDI_SRC_CODING_SCAN i))
  let s3 := (s2.setFld (F.SDI_SRC_DET_CODING_SAMPLING i) (pick m.sampling (F.SDI_SRC_CODING_SAMPLING i))).setFld
    (F.SDI_SRC_DET_CODING_DEPTH i) (pick m.depth (F.SDI_SRC_CODING_DEPTH i))
  let s4 := (s3.setFld (F.SDI_SRC_DET_CODING_RANGE i) (pick m.range (F.SDI_SRC_CODING_RANGE i))).setFld
    (F.SDI_SRC_DET_CODING_TF i) (m.tf.getD 0xF)
  (s4.setFld (F.SDI_SRC_DET_CODING_COLOUR i) (pick m.colour (F.SDI_SRC_CODING_COLOUR i))).setFld
    (F.SDI_SRC_DET_CODING_LINK i) (if flow then 2 else m.link)

/-! Frames (R98 to R101) -/

/-- R99, R102: the layout of buffer b of a source under its descriptor in force. -/
def State.layoutOf (s : State) (i b : Nat) (tf : Option Nat) : Layout :=
  ⟨srcBase s.reg i + b * srcStride s.reg i, s.fld (F.SDI_SRC_RASTER_WIDTH i), s.fld (F.SDI_SRC_RASTER_HEIGHT i),
    srcPitch s.reg i, s.fld (F.SDI_SRC_CODING_SAMPLING i), s.fld (F.SDI_SRC_CODING_DEPTH i),
    s.fld (F.SDI_SRC_CODING_RANGE i), tf, 0⟩

/-- R100: the oldest buffer that is neither the newest complete one nor held by the scan-out in progress, nor that of a
frame about to complete. -/
def State.takeBuffer (s : State) (i : Nat) : Option Nat :=
  let x := s.src i
  x.order.find? (fun b =>
    let a := (s.layoutOf i b none).addr
    decide (b < s.fld (F.SDI_SRC_CTL_NBUF i)) && x.newest.elim true (fun n => n.2.addr != a) &&
    !s.video.held.any (fun h => h.1 == i && h.2.addr == a) && x.closing.elim true (fun f => f.buf != some b))

/-- R98, R101: the frame in progress ends: a whole one is completing or complete, any other is discarded. -/
def State.endFrame (s : State) (i : Nat) (count : Bool) : State :=
  match (s.src i).writing with
  | none => s
  | some f =>
    let s1 := s.setSrc i { s.src i with writing := none }
    if f.ackAt.isSome then
      if f.done then s1 else s1.setSrc i { s1.src i with closing := some f }
    else if count then
      s1.eventCount (F.SDI_SRC_EVT_INCOMPLETE i) (F.SDI_SRC_CNT_INCOMPLETE_COUNT i)
    else s1

/-- R100: a new frame takes a buffer, or is not stored. -/
def State.beginFrame (s : State) (i ts : Nat) (m : Measured) (tf : Option Nat) : State :=
  match s.takeBuffer i with
  | some b =>
    (s.setSrc i { s.src i with writing := some ⟨some b, s.layoutOf i b tf, m, ts, none, [], none, false⟩ }).setFld
      (F.SDI_SRC_STAT_WRITING i) b
  | none =>
    (s.setSrc i { s.src i with writing := some ⟨none, s.layoutOf i 0 tf, m, ts, none, [], none, false⟩ }).eventCount
      (F.SDI_SRC_EVT_DROP i) (F.SDI_SRC_CNT_DROP_COUNT i)

/-- R101, R110: a matching frame is the newest, and the source is ACTIVE. -/
def State.keepFrame (s : State) (i : Nat) (f : FrameIn) : State :=
  let b := f.buf.getD 0
  let x := s.src i
  let s1 := s.setSrc i { x with newest := some (b, { f.lay with doneAt := s.wall }), lastFrame := s.cycles,
                                order := x.order.filter (· != b) ++ [b] }
  let s2 := (s1.setFlag (F.SDI_SRC_STAT_HAS_FRAME i) true).setFld (F.SDI_SRC_STAT_NEWEST i) b
  match s2.srcMode i with
  | .lost | .mismatch => (s2.setSrcMode i .active).event (F.SDI_SRC_EVT_RECOVERED i)
  | .seek => s2.setSrcMode i .active
  | _ => s2

/-- R101, R110: a frame becomes complete. One that does not match the descriptor is discarded and the source enters
MISMATCH; a matching one is kept. -/
def State.completeFrame (s : State) (i : Nat) (f : FrameIn) (m : Measured) : State :=
  let s0 := s.noteMeasured i m
  if s0.formatDiffers i m || s0.rateHigh i m then s0.enterMismatch i (s0.formatDiffers i m) (s0.rateHigh i m)
  else s0.keepFrame i f

/-- R101: a whole frame whose completion is due: the one behind the frame in progress, or that one. -/
def State.frameDue (s : State) (i : Nat) : Option FrameIn :=
  match (s.src i).closing with
  | some f => some f
  | none => (s.src i).writing.bind (fun f => if f.ackAt.isSome && !f.done then some f else none)

/-- R101: the frame that is due has become complete. -/
def State.frameDone (s : State) (i : Nat) (m : Measured) : State :=
  match s.frameDue i with
  | none => s
  | some f =>
    let s1 := s.untilCycle (f.ackAt.getD 0 + 3)
    let x := s1.src i
    let s2 :=
      if x.closing.isSome then s1.setSrc i { x with closing := none }
      else s1.setSrc i { x with writing := some { f with done := true } }
    s2.completeFrame i f (if s2.flag (F.SDI_SRC_CTL_KIND i) then m else f.m)

/-- FRAME_COMPLETE (R101). `m` is what the device has measured of a flow; an SDI frame carries its own measurement. -/
def execFrameComplete (src : Nat) (m : Measured) (s : State) : Host.Outcome State Fault Refusal :=
  .next (s.frameDone (src % 16) m)

/-! SDI (R90 to R94, R109, R116) -/

/-- SDI_LOCK: an input locks at the rate it detects (R90, R116). An unsupported signal puts its source into MISMATCH
(R93). -/
def execSdiLock (input rate : Nat) (s : State) : Host.Outcome State Fault Refusal :=
  let n := input % 8
  let s1 := (s.setFlag (F.SDI_PHY_STAT_LOCK n) true).setFld (F.SDI_PHY_STAT_RATE n) rate
  .next (if rate = 0xF then (s1.srcOfInput n).elim s1 (fun i => s1.enterMismatch i true false) else s1)

/-- R110, R113, R116: an input loses lock. A frame that becomes complete in the same cycle counts; the source then
enters LOST. -/
def State.lockLost (s : State) (n : Nat) : State :=
  let s1 := ((s.setFlag (F.SDI_PHY_STAT_LOCK n) false).setFld (F.SDI_PHY_STAT_RATE n) 0).event (F.SDI_PHY_STAT_LOCK_LOST n)
  let s2 := s1.setFlag (F.SDI_PHY_STAT_PID_SEEN n) false
  match s2.srcOfInput n with
  | none => s2
  | some i =>
    let s3 := match s2.frameDue i with
      | some f => if f.ackAt.getD 0 + 3 ≤ s2.cycles then s2.frameDone i f.m else s2
      | none => s2
    let s4 := s3.setSrc i { s3.src i with writing := none }
    if s4.srcMode i = .active then (s4.setSrcMode i .lost).event (F.SDI_SRC_EVT_LOST i) else s4

/-- SDI_LOCK_LOSS (R110). -/
def execSdiLockLoss (input : Nat) (s : State) : Host.Outcome State Fault Refusal := .next (s.lockLost (input % 8))

/-- R109: the transfer function of an SDI frame, and TF_CHANGE where it differs from the last frame's. -/
def State.frameTf (s : State) (i : Nat) (m : Measured) : State × Option Nat :=
  if s.flag (F.SDI_SRC_CTL_TF_FROM_STREAM i) then
    let x := s.src i
    let s1 := s.setSrc i { x with lastTf := some m.tf }
    (if x.lastTf.elim false (fun t => t != m.tf) then s1.event (F.SDI_SRC_EVT_TF_CHANGE i) else s1, m.tf)
  else (s, none)

/-- R100, R110: a frame whose measurement differs from the descriptor is not stored; any other takes a buffer. -/
def State.sdiTake (s : State) (i : Nat) (m : Measured) : State :=
  if s.formatDiffers i m || s.rateHigh i m then s.enterMismatch i (s.formatDiffers i m) (s.rateHigh i m)
  else (s.frameTf i m).1.beginFrame i 0 m (s.frameTf i m).2

/-- R92, R100: an SDI frame starts. What is measured of it decides; a frame that does not match the descriptor is not
stored. -/
def State.sdiStart (s : State) (n : Nat) (m : Measured) : State :=
  if s.flag (F.SDI_PHY_STAT_LOCK n) then
    let s1 := s.setFlag (F.SDI_PHY_STAT_PID_SEEN n) m.pid
    match s1.srcOfInput n with
    | none => s1
    | some i =>
      ((s1.endFrame i false).noteMeasured i m).sdiTake i m
  else s

/-- SDI_FRAME_START (R100). -/
def execSdiFrameStart (input : Nat) (m : Measured) (s : State) : Host.Outcome State Fault Refusal :=
  .next (s.sdiStart (input % 8) m)

/-- R92, R94, R113: a line of an SDI frame. It is stored as received, whatever its CRC. A line whose length differs from
the raster ends the frame in MISMATCH. -/
def State.sdiLine (s : State) (n field line : Nat) (crcOk : Bool) (codes : List Nat) : State :=
  let s1 := if crcOk then s else s.event (F.SDI_PHY_STAT_LINE_CRC n)
  match s1.srcOfInput n with
  | none => s1
  | some i =>
    match (s1.src i).writing with
    | none => s1
    | some f =>
      let row := if f.m.scan = 0 then line else 2 * line + field % 2
      if pixelCount f.lay.sampling codes ≠ f.lay.w ∨ row ≥ f.lay.h then
        (s1.setSrc i { s1.src i with writing := none }).enterMismatch i true false
      else s1.placeRun i row 0 codes

/-- SDI_LINE (R92). -/
def execSdiLine (input field line : Nat) (crcOk : Bool) (codes : List Nat) (s : State) :
    Host.Outcome State Fault Refusal :=
  .next (s.sdiLine (input % 8) field line crcOk codes)

/-! Flows (R95 to R98) -/

/-- R95: a segment outside the raster of a flow. -/
def State.outside (s : State) (i : Nat) (g : RowSegment) : Bool :=
  let row := if s.flag (F.SDI_SRC_CODING_SCAN i) then 2 * g.line + g.field % 2 else g.line
  decide (row ≥ s.fld (F.SDI_SRC_RASTER_HEIGHT i)) ||
  decide (g.x + pixelCount (s.fld (F.SDI_SRC_CODING_SAMPLING i)) g.codes > s.fld (F.SDI_SRC_RASTER_WIDTH i))

/-- R98: whether a packet of a flow begins a new frame, and the time stamps of the frame that it continues. -/
inductive FlowStep where
  | fresh
  | older
  | continues (ts2 : Option Nat)
  deriving DecidableEq, Repr

/-- R98: what a packet's time stamp and field bit make of it. -/
def flowStep (interlaced : Bool) (f : Option FrameIn) (ts field : Nat) : FlowStep :=
  match f with
  | none => .fresh
  | some f =>
    if laterSerial f.ts ts then .older
    else if interlaced then
      if field % 2 = 0 then (if ts = f.ts then .continues f.ts2 else .fresh)
      else
        match f.ts2 with
        | none => .continues (some ts)
        | some t => if t = ts then .continues (some t) else .fresh
    else if ts = f.ts then .continues none else .fresh

/-- What is known of a flow's format before its frame is whole: the descriptor's own (R98). -/
def State.flowFormat (s : State) (i : Nat) : Measured :=
  ⟨s.fld (F.SDI_SRC_RASTER_WIDTH i), s.fld (F.SDI_SRC_RASTER_HEIGHT i), s.fld (F.SDI_SRC_CODING_SCAN i),
    s.fld (F.SDI_SRC_CODING_SAMPLING i), s.fld (F.SDI_SRC_CODING_DEPTH i), s.fld (F.SDI_SRC_CODING_RANGE i),
    s.fld (F.SDI_SRC_CODING_COLOUR i), 1000 * s.fld (F.SDI_SRC_CODING_RATE_HZ i), 2, false, none⟩

/-- R95 to R98: a packet of a flow. -/
def State.flowPacket (s : State) (port : Nat) (p : FlowPacket) : State :=
  match s.srcOfFlow port p.src p.dst p.udpPort with
  | none => s.bump F.SDI_RX_DISC_UNMATCHED
  | some i =>
    if p.payloadType ≠ s.fld (F.SDI_SRC_FLOW_PORT_PT i) ∨ p.version ≠ 2 ∨ p.rows.any (s.outside i) = true then
      s.bump F.SDI_RX_DISC_BAD_HDR
    else
      let il := s.flag (F.SDI_SRC_CODING_SCAN i)
      let field := (p.rows.head?.map (·.field)).getD 0
      let place (t : State) : State := p.rows.foldl (fun u g =>
        u.placeRun i (if il then 2 * g.line + g.field % 2 else g.line) g.x g.codes) t
      match flowStep il (s.src i).writing p.timestamp field with
      | .older => s.bump F.SDI_RX_DISC_BAD_HDR
      | .fresh =>
        let s1 := (s.endFrame i true).beginFrame i p.timestamp (s.flowFormat i) none
        let s2 := if il && field % 2 == 1 then
            s1.setSrc i { s1.src i with writing := (s1.src i).writing.map (fun f => { f with ts2 := some p.timestamp }) }
          else s1
        place s2
      | .continues t2 =>
        place (s.setSrc i { s.src i with writing := (s.src i).writing.map (fun f => { f with ts2 := t2 }) })

/-- ST2110_PACKET (R98). -/
def execSt2110Packet (port : Nat) (p : FlowPacket) (s : State) : Host.Outcome State Fault Refusal :=
  .next (s.flowPacket (port % 2) p)

/-! Loss (R110, R111) -/

/-- R110, R113: an ACTIVE source has had no complete frame for LOSS_MS. A frame that becomes complete by then counts. -/
def State.sourceTimeout (s : State) (i : Nat) : State :=
  let due := (s.src i).lastFrame + msCycles (s.fld (F.SDI_SRC_LOSS_LOSS_MS i))
  if s.srcMode i = .active ∧ ((s.frameDue i).elim true (fun f => decide (due < f.ackAt.getD 0 + 3))) = true then
    ((s.untilCycle due).setSrcMode i .lost).event (F.SDI_SRC_EVT_LOST i)
  else s

/-- SOURCE_LOSS_TIMEOUT (R110). -/
def execSourceLossTimeout (src : Nat) (s : State) : Host.Outcome State Fault Refusal := .next (s.sourceTimeout (src % 16))

/-- R111: HOLD_MS has passed since a source left ACTIVE. -/
def State.holdEnds (s : State) (i : Nat) : State :=
  match (s.src i).leftAt with
  | none => s
  | some t =>
    if (s.srcMode i = .lost ∨ s.srcMode i = .mismatch) ∧ (s.src i).expired = false then
      let s1 := s.untilCycle (t + msCycles (s.fld (F.SDI_SRC_CTL_HOLD_MS i)))
      s1.setSrc i { s1.src i with expired := true }
    else s

/-- HOLD_EXPIRY (R111). -/
def execHoldExpiry (src : Nat) (s : State) : Host.Outcome State Fault Refusal := .next (s.holdEnds (src % 16))

/-! Settings (R110, R112) -/

/-- R112: the words of a descriptor whose change reconfigures the source, with the fields that count masked. -/
def sourceConfig (v : Nat → Word) (i : Nat) : List Nat :=
  [vf v (F.SDI_SRC_CTL_INPUT i), vf v (F.SDI_SRC_CTL_KIND i), vf v (F.SDI_SRC_CTL_NBUF i),
   vf v (F.SDI_SRC_RASTER_WIDTH i), vf v (F.SDI_SRC_RASTER_HEIGHT i), vf v (F.SDI_SRC_CODING_SCAN i),
   vf v (F.SDI_SRC_CODING_SAMPLING i), vf v (F.SDI_SRC_CODING_DEPTH i), vf v (F.SDI_SRC_CODING_RANGE i),
   srcBase v i, srcPitch v i, vf v (F.SDI_SRC_FLOW_DST_IPV4_DST i), vf v (F.SDI_SRC_FLOW_PORT_NET i),
   vf v (F.SDI_SRC_FLOW_PORT_SSM_EN i), vf v (F.SDI_SRC_FLOW_PORT_UDP_DST i), vf v (F.SDI_SRC_FLOW_SRC_IPV4_SRC i)]

/-- R112: a buffer lies in the buffer region that a descriptor gives. -/
def inRegion (v : Nat → Word) (i : Nat) (l : Layout) : Bool :=
  decide (l.addr < srcEnd v i ∧ srcBase v i < l.addr + l.pitch * l.h)

/-- R110: a source turned off holds nothing. -/
def State.srcOff (s : State) (i : Nat) : State :=
  let s1 := s.setSrc i ⟨[0, 1, 2, 3], none, none, none, 0, none, true, none⟩
  ((s1.setFld (F.SDI_SRC_STAT_STATE i) 0).setFlag (F.SDI_SRC_STAT_HAS_FRAME i) false)

/-- R112: a reconfigured source: the frame being written is discarded, and the newest complete buffer is released where
it lies inside the new region. -/
def State.srcReconfig (s : State) (i : Nat) : State :=
  let s1 := s.setSrcMode i .seek
  let x := s1.src i
  let keep := x.newest.elim false (fun n => !inRegion s1.reg i n.2)
  let s2 := s1.setSrc i { x with writing := none, closing := none, newest := if keep then x.newest else none,
                                 order := [0, 1, 2, 3] }
  s2.setFlag (F.SDI_SRC_STAT_HAS_FRAME i) keep

/-- R110, R112: what a change of settings does to source i. -/
def State.reactSource (before s : State) (i : Nat) : State :=
  match before.flag (F.SDI_SRC_CTL_EN i), s.flag (F.SDI_SRC_CTL_EN i) with
  | _, false => if before.flag (F.SDI_SRC_CTL_EN i) then s.srcOff i else s
  | false, true => s.setSrcMode i .seek
  | true, true => if sourceConfig before.reg i = sourceConfig s.reg i then s else s.srcReconfig i

/-- R88, R110, R112: the sources and the budget after a change of settings. -/
def State.reactSources (before s : State) : State :=
  let s1 := (List.range 16).foldl (fun t i => State.reactSource before t i) s
  s1.setFld F.SDI_BUDGET_USED_MBPS ((writeRate s1.reg + 999999) / 1000000)

end Sys2Proof.Machine
end

