-- ==== Sys2Proof/Machine/Convert.lean ====
section
/-! DEFINITION. From stored codes to the working space (R103 to R108), and from the working space to chain codes
(R160). -/

namespace Sys2Proof.Machine

/-- A value held within bounds. -/
def clipInt (lo hi : Nat) (x : Int) : Nat := if x < lo then lo else if x > hi then hi else x.toNat

/-- The greatest n below 2^bits that a downward closed property accepts, tried from the highest bit. -/
def greatest (p : Nat → Bool) : Nat → Nat → Nat
  | 0, acc => acc
  | b + 1, acc => if p (acc + 2 ^ b) then greatest p b (acc + 2 ^ b) else greatest p b acc

/-- R160: the chain code of a working-space value, ⌊√(256 × v)⌋. -/
def chainCode (v : Nat) : Nat := greatest (fun n => decide (n * n ≤ 256 * v)) 12 0

/-- R106: an entry of the BT.709 table: the BT.1886 EOTF with zero black, rounded half up. With e = i / 4,095 the entry
n is the greatest with 2n - 1 ≤ 2 × 65,535 × min(SDR_WHITE × e^2.4, P) / P, compared in fifth powers. -/
def sdrEntry (peak white i : Nat) : Nat :=
  greatest (fun n =>
    decide ((2 * n - 1) * peak ≤ 2 * 65535 * peak) &&
    decide (((2 * n - 1) * peak) ^ 5 * 4095 ^ 12 ≤ (2 * 65535 * white) ^ 5 * i ^ 12)) 16 0

/-- R106: entry i of the table of a transfer function. -/
def State.tfEntry (s : State) (tf i : Nat) : Nat :=
  let peak := s.fld F.SDI_WORKSPACE_PEAK_NITS
  if tf = 0 then sdrEntry peak (s.fld F.SDI_WORKSPACE_SDR_WHITE_NITS) i
  else if 4 ≤ tf ∧ tf ≤ 7 then
    (if i % 2 = 0 then s.fld (F.SDI_LUT_EVEN (tf - 4) (i / 2)) else s.fld (F.SDI_LUT_ODD (tf - 4) (i / 2)))
  else min (Config.transferEntry tf peak i) 65535

/-- A quotient of integers rounded to nearest. -/
def roundDiv (n d : Int) : Int := (2 * n + d) / (2 * d)

/-- The luma coefficients of BT.709 and BT.2020 in units of 1/10,000: R, G and B. -/
def lumaCoef (colour : Nat) : Nat × Nat × Nat := if colour = 0 then (2126, 7152, 722) else (2627, 6780, 593)

/-- R105: the coefficients of the YCbCr equations as fractions: for each of R, G and B those of Y, Cb and Cr. -/
def ycbcrCoef (colour : Nat) : List (List (Int × Int)) :=
  let (kr, kg, kb) := lumaCoef colour
  [[(1, 1), (0, 1), (2 * (10000 - kr : Int), 10000)],
   [(1, 1), (-(2 * kb * (10000 - kb) : Int), 10000 * (kg : Int)), (-(2 * kr * (10000 - kr) : Int), 10000 * (kg : Int))],
   [(1, 1), (2 * (10000 - kb : Int), 10000), (0, 1)]]

/-- R105: the coefficients of RGB: the diagonal. -/
def rgbCoef : List (List (Int × Int)) :=
  [[(1, 1), (0, 1), (0, 1)], [(0, 1), (1, 1), (0, 1)], [(0, 1), (0, 1), (1, 1)]]

/-- R105: range expansion and the matrix on 12-bit codes. -/
def expand (ycc : Bool) (range colour : Nat) (codes : List Nat) : List Nat :=
  let chroma (k : Nat) : Bool := ycc && k != 0
  let offset (k : Nat) : Int := if chroma k then 2048 else (if range = 0 then 256 else 0)
  let span (k : Nat) : Int :=
    if chroma k then (if range = 0 then 3584 else 4094) else (if range = 0 then 3504 else 4095)
  (if ycc then ycbcrCoef colour else rgbCoef).map (fun row =>
    let terms := (List.range 3).map (fun k =>
      let c := row.getD k (0, 1)
      roundDiv (16384 * 4095 * c.1) (c.2 * span k) * (((codes.getD k 0 : Nat) : Int) - offset k))
    clipInt 0 4095 ((terms.sum + 8192) / 16384))

/-- R108: the primaries matrices in Q3.14: BT.709 to BT.2020 and back, from the two standards' primaries at D65. -/
def primaries (colour prim : Nat) : List (List Int) :=
  if colour = prim then [[16384, 0, 0], [0, 16384, 0], [0, 0, 16384]]
  else if colour = 0 then [[10279, 5395, 710], [1132, 15066, 186], [269, 1442, 14673]]
  else [[27205, -9628, -1194], [-2041, 18561, -137], [-297, -1648, 18329]]

/-- R108: the primaries step. -/
def toPrimaries (colour prim : Nat) (ch : List Nat) : List Nat :=
  (primaries colour prim).map (fun row =>
    clipInt 0 65535 ((((List.range 3).map (fun k => row.getD k 0 * ((ch.getD k 0 : Nat) : Int))).sum + 8192) / 16384))

/-- R107: the HLG system gamma. -/
def hlgGamma (peak colour : Nat) (ch : List Nat) : List Nat :=
  let (kr, kg, kb) := lumaCoef colour
  let k (x : Nat) : Nat := (roundDiv (65536 * (x : Int)) 10000).toNat
  let ys := (k kr * ch.getD 0 0 + k kg * ch.getD 1 0 + k kb * ch.getD 2 0) / 65536
  let gain := Config.hlgGain peak (ys / 16)
  ch.map (fun c => (c * gain + 32768) / 65536)

/-- R103: steps 2 to 5 on 12-bit codes. -/
def State.toWorking (s : State) (ycc : Bool) (range colour tf : Nat) (codes : List Nat) : List Nat :=
  let lin := (expand ycc range colour codes).map (s.tfEntry tf)
  let graded := if tf = 2 then hlgGamma (s.fld F.SDI_WORKSPACE_PEAK_NITS) colour lin else lin
  toPrimaries colour (s.fld F.SDI_WORKSPACE_WORK_PRIM) graded

end Sys2Proof.Machine
end

