-- ==== Sys2Proof/Machine/Compose.lean ====
section
/-! DEFINITION. The compositor: fetching a layer's pixels, scaling, blending, and the Gauntlet pass (R142 to R170,
R178). -/

namespace Sys2Proof.Machine

/-! Fetching -/

/-- A fetch in progress: the state, and the bursts of external memory read so far with what they gave. One burst is
read once while a run or a region is rendered (notes/assumptions/2.md). -/
structure Fetch where
  s : State
  cache : List (Nat × Option (List Byte))

/-- R142, R169: a burst of external memory, read by the compositor. An error response counts as a poisoned read. -/
def Fetch.burst (f : Fetch) (b : Nat) : Fetch × Option (List Byte) :=
  match f.cache.find? (fun x => x.1 == b) with
  | some x => (f, x.2)
  | none =>
    let (s1, r) := f.s.readBurst 1 b
    let s2 := if r.isNone then (s1.bump F.CMP_FILL_CNT_EVENTS).event F.CMP_EVT_ERR_FILL else s1
    (⟨s2, (b, r) :: f.cache⟩, r)

/-- Bytes of external memory, read by the compositor. -/
def Fetch.bytes (f : Fetch) (addr n : Nat) : Fetch × Option (List Byte) :=
  (burstParts (n / 64 + 2) addr n).foldl (fun (x : Fetch × Option (List Byte)) p =>
    let (g, r) := x.1.burst p.1
    (g, x.2.bind (fun acc => r.map (fun bs => acc ++ (bs.drop p.2.1).take p.2.2)))) (f, some [])

/-- A stored word as a number; none where the read is poisoned. -/
def Fetch.num (f : Fetch) (addr n : Nat) : Fetch × Option Nat :=
  let (g, r) := f.bytes addr n
  (g, r.map leNat)

/-- The poisoned pixel. -/
def badPix (a : Nat) : Pix := ⟨0, 0, 0, a, true⟩

/-- A pixel from its three channels. -/
def pixOf (ch : List Nat) (a : Nat) (bad : Bool) : Pix := ⟨ch.getD 0 0, ch.getD 1 0, ch.getD 2 0, a, bad⟩

/-- R104: the chroma code that the pair at even column x holds: Cb at x, Cr at x + 1. Where the line ends between them,
the spec states no value. -/
def Fetch.chroma (f : Fetch) (l : Layout) (x y : Nat) (cr : Bool) : Fetch × Option Nat :=
  let c := if cr then x + 1 else x
  if c ≥ l.w then (⟨f.s.drawn, f.cache⟩, some (f.s.freeValue.toNat % 4096))
  else
    let (g, r) := f.num (l.addr + y * l.pitch + 4 * c) 4
    (g, r.map (fun w => w / 256 % 4096))

/-- R104: a chroma code at column x. -/
def Fetch.chromaAt (f : Fetch) (l : Layout) (x y : Nat) (cr : Bool) : Fetch × Option Nat :=
  if x % 2 = 0 then f.chroma l x y cr
  else
    let (g, a) := f.chroma l (x - 1) y cr
    if x + 1 ≥ l.w then (g, a)
    else
      let (h, b) := g.chroma l (x + 1) y cr
      (h, a.bind (fun a => b.map (fun b => (a + b + 1) / 2)))

/-- R99, R104: the three 12-bit codes of a stored pixel. -/
def Fetch.codes (f : Fetch) (l : Layout) (x y : Nat) : Fetch × Option (List Nat) :=
  if l.sampling = 0 then
    let (f1, w) := f.num (l.addr + y * l.pitch + 4 * x) 4
    let (f2, cb) := f1.chromaAt l x y false
    let (f3, cr) := f2.chromaAt l x y true
    (f3, w.bind (fun w => cb.bind (fun cb => cr.map (fun cr => [w / 2 ^ 20 % 4096, cb, cr]))))
  else if l.depth = 2 then
    let (f1, w) := f.num (l.addr + y * l.pitch + 6 * x) 6
    (f1, w.map (fun w => [w / 16 % 4096, w / 2 ^ 20 % 4096, w / 2 ^ 36 % 4096]))
  else
    let (f1, w) := f.num (l.addr + y * l.pitch + 4 * x) 4
    (f1, w.map (fun w => [w / 2 ^ 20 % 1024 * 4, w / 2 ^ 10 % 1024 * 4, w % 1024 * 4]))

/-- R149: a position moved to the nearest of 0 to n - 1. -/
def nearest (x : Int) (n : Nat) : Nat := clipInt 0 (n - 1) x

/-- R147, R111: what a live source gives its layers: a buffer, transparency, or black. -/
inductive LiveRead where
  | buffer (l : Layout)
  | clear
  | black
  deriving DecidableEq, Repr

/-- R101, R111, R113: what layers read of source i. -/
def State.liveRead (s : State) (i : Nat) : LiveRead :=
  let act := s.fld (F.SDI_SRC_CTL_LOSS_ACT i)
  let empty : LiveRead := if act = 2 then .black else .clear
  if s.flag (F.SDI_SRC_CTL_EN i) then
    let gone := (s.srcMode i = .lost ∨ s.srcMode i = .mismatch) ∧ (s.src i).expired = true
    match s.video.held.find? (fun h => h.1 == i) with
    | some h => if gone ∧ act ≠ 0 then empty else .buffer h.2
    | none => empty
  else empty

/-- R102, R103: a pixel of a live source at a position of its buffer. -/
def Fetch.live (f : Fetch) (i : Nat) (l : Layout) (x y : Int) : Fetch × Pix :=
  let (g, r) := f.codes l (nearest x l.w) (nearest y l.h)
  match r with
  | none => (g, badPix 65535)
  | some cs =>
    let tf := l.tf.getD (g.s.fld (F.SDI_SRC_CODING_TF i))
    (g, pixOf (g.s.toWorking (l.sampling != 2) l.range (g.s.fld (F.SDI_SRC_CODING_COLOUR i)) tf cs) 65535 false)

/-- R153: the alpha product. -/
def alphaMul (c a : Nat) : Nat := (c * (a + a / 32768) + 32768) / 65536

/-- R152, R153, R161: a pixel of a memory buffer; a Gauntlet layer takes every alpha as 65,535. -/
def Fetch.mem (f : Fetch) (w k : Nat) (x y : Int) : Fetch × Pix :=
  let s := f.s
  let gnt := decide (60 ≤ k)
  let base := (layerBuf s.reg w k).1
  let pitch := 64 * s.fld (F.CMP_LAYER_BUF_FMT_PITCH_64B w k)
  let px := nearest x (s.fld (F.CMP_LAYER_BUF_SIZE_BUF_W w k))
  let py := nearest y (s.fld (F.CMP_LAYER_BUF_SIZE_BUF_H w k))
  let fmt := s.fld (F.CMP_LAYER_BUF_FMT_FMT w k)
  let conv (t : State) (cs : List Nat) : List Nat :=
    t.toWorking false (t.fld (F.CMP_LAYER_BUF_FMT_RANGE w k)) (t.fld (F.CMP_LAYER_BUF_FMT_COLOUR w k))
      (t.fld (F.CMP_LAYER_BUF_FMT_TF w k)) cs
  if fmt = 2 then
    let (g, r) := f.num (base + py * pitch + 8 * px) 8
    match r with
    | none => (g, badPix 65535)
    | some v =>
      let a := if gnt then 65535 else v / 2 ^ 48 % 65536
      (g, ⟨min (v % 65536) a, min (v / 2 ^ 16 % 65536) a, min (v / 2 ^ 32 % 65536) a, a, false⟩)
  else
    let (g, r) := f.num (base + py * pitch + 4 * px) 4
    match r with
    | none => (g, badPix 65535)
    | some v =>
      if fmt = 1 then
        (g, pixOf (conv g.s [v / 2 ^ 20 % 1024 * 4, v / 2 ^ 10 % 1024 * 4, v % 1024 * 4]) 65535 false)
      else
        let a := if gnt then 65535 else v / 2 ^ 24 * 257
        let ch := conv g.s [v / 2 ^ 16 % 256 * 16, v / 2 ^ 8 % 256 * 16, v % 256 * 16]
        (g, pixOf (ch.map (fun c => alphaMul c a)) a false)

/-- R147: a source pixel of a layer at an absolute position; none where the layer shows nothing there. -/
def Fetch.source (f : Fetch) (w k : Nat) (x y : Int) : Fetch × Option Pix :=
  let s := f.s
  match s.fld (F.CMP_LAYER_CTL_KIND w k) with
  | 0 =>
    let i := s.fld (F.CMP_LAYER_CTL_SRC w k)
    match s.liveRead i with
    | .buffer l => let (g, p) := f.live i l x y; (g, some p)
    | .black => (f, some ⟨0, 0, 0, 65535, false⟩)
    | .clear => (f, none)
  | 1 => let (g, p) := f.mem w k x y; (g, some p)
  | _ => (f, some ⟨s.fld (F.CMP_LAYER_SOLID_RG_SOLID_R w k), s.fld (F.CMP_LAYER_SOLID_RG_SOLID_G w k),
                   s.fld (F.CMP_LAYER_SOLID_B_SOLID_B w k), 65535, false⟩)

/-! Scaling (R154 to R158) -/

/-- R155: the step of an axis. -/
def stepOf (src dst : Nat) : Nat := (65536 * src + dst / 2) / dst

/-- R155: the source position of an output pixel, in units of 1/65,536 of a source pixel. -/
def scalePos (step i : Nat) : Int := ((i * step : Nat) : Int) + ((step : Int) - 65536) / 2

/-- R156, R158: a crop column or row as a tap reads it. -/
def tapAt (limit n : Nat) (x : Int) : Nat := min (nearest x n) (limit - 1)

/-- R156: a weighted sum of channel values. -/
def weigh (cs : List Int) (vs : List Nat) : Nat :=
  clipInt 0 65535 ((((cs.zip vs).map (fun p => p.1 * ((p.2 : Nat) : Int))).sum + 512) / 1024)

/-- A channel-wise weighted sum of pixels. -/
def weighPix (cs : List Int) (ps : List Pix) : Pix :=
  ⟨weigh cs (ps.map (·.r)), weigh cs (ps.map (·.g)), weigh cs (ps.map (·.b)), weigh cs (ps.map (·.a)),
    ps.any (·.bad)⟩

/-- The transparent pixel. -/
def clearPix : Pix := ⟨0, 0, 0, 0, false⟩

/-- Source pixels fetched one after another; a layer that shows nothing gives transparent pixels. -/
def Fetch.many (f : Fetch) (w k : Nat) (ps : List (Int × Int)) : Fetch × List Pix :=
  ps.foldl (fun (x : Fetch × List Pix) p =>
    let (g, r) := x.1.source w k p.1 p.2
    (g, x.2 ++ [r.getD clearPix])) (f, [])

/-- R156, R158: a pixel of a scaled layer: six rows for each of eight columns, then across. -/
def Fetch.scaled (f : Fetch) (w k i j : Nat) : Fetch × Pix :=
  let s := f.s
  let sw := s.fld (F.CMP_LAYER_CROP_SIZE_SRC_W w k)
  let sh := s.fld (F.CMP_LAYER_CROP_SIZE_SRC_H w k)
  let x0 := scalePos (stepOf sw (s.fld (F.CMP_LAYER_DST_SIZE_DST_W w k))) i
  let y0 := scalePos (stepOf sh (s.fld (F.CMP_LAYER_DST_SIZE_DST_H w k))) j
  let px := (x0 / 1024 % 64).toNat
  let py := (y0 / 1024 % 64).toNat
  let ch := s.fld (F.CMP_LAYER_ALPHA_COEF_H w k)
  let cv := s.fld (F.CMP_LAYER_ALPHA_COEF_V w k)
  let hs := (List.range 8).map (fun t => coefOf s.reg ch (px * 8 + t))
  let vs := (List.range 6).map (fun t => coefOf s.reg cv (512 + py * 6 + t))
  let sx := s.fld (F.CMP_LAYER_CROP_POS_SRC_X w k)
  let sy := s.fld (F.CMP_LAYER_CROP_POS_SRC_Y w k)
  let (g, cols) := (List.range 8).foldl (fun (acc : Fetch × List Pix) t =>
    let c := tapAt 8192 sw (x0 / 65536 + (t : Int) - 3)
    let (g, ps) := acc.1.many w k ((List.range 6).map (fun u =>
      (((sx + c : Nat) : Int), ((sy + nearest (y0 / 65536 + (u : Int) - 2) sh : Nat) : Int))))
    (g, acc.2 ++ [weighPix vs ps])) (f, [])
  let o := weighPix hs cols
  let g2 : Fetch :=
    if sw > 8192 then
      ⟨(g.s.event F.CMP_EVT_LINEBUF_CLAMP).setBit F.CMP_LINEBUF_EVT_SCALER (s.fld (F.CMP_LAYER_CTL_SCALER w k)) true,
        g.cache⟩
    else g
  (g2, ⟨min o.r o.a, min o.g o.a, min o.b o.a, o.a, o.bad⟩)

/-- R148: the layer coordinates of a canvas pixel, where the layer covers it. -/
def State.layerCoord (s : State) (w k x y : Nat) : Option (Nat × Nat) :=
  let i := (x : Int) - signed 18 (s.fld (F.CMP_LAYER_DST_X_X w k))
  let j := (y : Int) - signed 18 (s.fld (F.CMP_LAYER_DST_Y_Y w k))
  if 0 ≤ i ∧ i < layerW s.reg w k ∧ 0 ≤ j ∧ j < layerH s.reg w k then some (i.toNat, j.toNat) else none

/-- R148, R156: the premultiplied pixel of a layer at a layer coordinate; none where the layer leaves it out. -/
def Fetch.layer (f : Fetch) (w k i j : Nat) : Fetch × Option Pix :=
  let s := f.s
  let clear := s.fld (F.CMP_LAYER_CTL_KIND w k) = 0 ∧ s.liveRead (s.fld (F.CMP_LAYER_CTL_SRC w k)) = .clear
  if clear then (f, none)
  else if s.flag (F.CMP_LAYER_CTL_SCALE_EN w k) then let (g, p) := f.scaled w k i j; (g, some p)
  else f.source w k ((s.fld (F.CMP_LAYER_CROP_POS_SRC_X w k) + i : Nat) : Int)
    ((s.fld (F.CMP_LAYER_CROP_POS_SRC_Y w k) + j : Nat) : Int)

/-! Blending (R159, R168, R169) -/

/-- R168: the background colour of a view. -/
def State.background (s : State) (w : Nat) : Pix :=
  ⟨s.fld (F.CMP_VIEW_BG_RG_BG_R w), s.fld (F.CMP_VIEW_BG_RG_BG_G w), s.fld (F.CMP_VIEW_BG_B_BG_B w), 65535, false⟩

/-- R224: three chain codes as the value P. -/
def packCodes (r g b : Nat) : Nat := r + 4096 * g + 16777216 * b

/-- R160: the chain codes of a pixel, as the value P. -/
def Pix.codes (p : Pix) : Nat := packCodes (chainCode p.r) (chainCode p.g) (chainCode p.b)

/-- R159: one layer blended over a value. A transparent layer leaves the value under over and add; under replace it
gives its colour. -/
def blend (mode ga : Nat) (out : Pix) (p : Option Pix) : Pix :=
  match p with
  | none => if mode = 2 then { out with r := 0, g := 0, b := 0 } else out
  | some p =>
    let c (x : Nat) : Nat := alphaMul x ga
    let a := alphaMul p.a ga
    let bad := out.bad || p.bad
    let f (o x : Nat) : Nat :=
      match mode with
      | 0 => min (c x + alphaMul o (65535 - a)) 65535
      | 1 => min (o + c x) 65535
      | _ => c x
    ⟨f out.r p.r, f out.g p.g, f out.b p.b, out.a, bad⟩

/-- R162: the region of the Gauntlet store that a canvas pixel lies in: the highest slot's. -/
def regionAt (rs : List GntRegion) (x y : Nat) : Option GntRegion :=
  rs.foldl (fun acc r =>
    if r.x ≤ x ∧ x < r.x + r.w ∧ r.y ≤ y ∧ y < r.y + r.h ∧ acc.elim true (fun q => decide (q.slot ≤ r.slot)) = true then some r
    else acc) none

/-- R162: the codes that a region holds for a canvas pixel. -/
def GntRegion.at (r : GntRegion) (x y : Nat) : Nat := r.codes.getD ((y - r.y) * r.w + (x - r.x)) 0

/-- R159, R169: one canvas pixel of a view: its codes, and whether it was filled. General layers are blended and read
under a Gauntlet region too. -/
def Fetch.pixel (f : Fetch) (w : Nat) (rs : List GntRegion) (x y : Nat) : Fetch × Nat × Bool :=
  let (g, out) := (List.range 60).foldl (fun (acc : Fetch × Pix) k =>
    let s := acc.1.s
    if s.flag (F.CMP_LAYER_CTL_EN w k) then
      match s.layerCoord w k x y with
      | none => acc
      | some (i, j) =>
        let (g, p) := acc.1.layer w k i j
        (g, blend (s.fld (F.CMP_LAYER_CTL_BLEND w k)) (s.fld (F.CMP_LAYER_ALPHA_GLOBAL_ALPHA w k)) acc.2 p)
    else acc) (f, f.s.background w)
  let codes := if out.bad then (g.s.background w).codes else out.codes
  match regionAt rs x y with
  | some r => (g, r.at x y, out.bad)
  | none => (g, codes, out.bad)

/-! The Gauntlet pass (R162 to R165, R170) -/

/-- R163: the bytes that a pixel of codes P gives a check. -/
def codeBytes (p : Nat) : List Byte :=
  leBytes 2 (p % 4096) ++ leBytes 2 (p / 4096 % 4096) ++ leBytes 2 (p / 16777216 % 4096)

/-- R163: a check over chain codes; none gives 0. -/
def codesCheck (ps : List Nat) : Word := if ps.isEmpty then 0 else crc32c (ps.flatMap codeBytes)

/-- R162: the rectangle of a layer clipped to the canvas: x, y, width and height. -/
def State.clippedRect (s : State) (w k : Nat) : Nat × Nat × Nat × Nat :=
  let x := signed 18 (s.fld (F.CMP_LAYER_DST_X_X w k))
  let y := signed 18 (s.fld (F.CMP_LAYER_DST_Y_Y w k))
  (x.toNat, y.toNat, clipLen x (layerW s.reg w k) (s.fld F.CMP_CANVAS_W), clipLen y (layerH s.reg w k) (s.fld F.CMP_CANVAS_H))

/-- R162, R170: a Gauntlet region rendered in raster order, with the count of its filled pixels. -/
def Fetch.region (f : Fetch) (w k : Nat) : Fetch × GntRegion × Nat :=
  let (x0, y0, rw, rh) := f.s.clippedRect w k
  let (g, codes, fill) := (List.range (rw * rh)).foldl (fun (acc : Fetch × List Nat × Nat) n =>
    match acc.1.s.layerCoord w k (x0 + n % rw) (y0 + n / rw) with
    | none => acc
    | some (i, j) =>
      let (g, p) := acc.1.layer w k i j
      let q := p.getD clearPix
      (g, acc.2.1 ++ [if q.bad then (g.s.background w).codes else q.codes], acc.2.2 + q.bad.toNat)) (f, [], 0)
  (g, ⟨k, x0, y0, rw, rh, codes⟩, fill)

/-- R163, R164: the render check of slot 60 + k after the pass, its comparison with EXPECTED, and the guard flag. -/
def State.judgeRegion (s : State) (w k : Nat) (check : Word) (filled : Bool) : State × Bool :=
  let s1 := s.setReg (F.CMP_GNT_LAST_CHECK_CHECK w k).addr check
  let compare := s1.flag (F.CMP_GNT_CTL_EXP_EN w k)
  let differs := compare && s1.fld (F.CMP_GNT_EXPECTED_EXPECTED w k) != check.toNat
  let s2 := if differs then (s1.bump (F.CMP_GNT_STAT_MISMATCH_COUNT w k)).event F.CMP_EVT_GNT_MISMATCH else s1
  let s3 := if compare then s2.setFlag (F.CMP_GNT_STAT_MISMATCH w k) differs else s2
  let guard := filled || (differs && s3.flag (F.CMP_GNT_CTL_GUARD_ON_MISMATCH w k))
  let s4 := s3.setFlag (F.CMP_GNT_STAT_GUARD w k) guard
  (if guard then s4.event F.CMP_EVT_GNT_GUARD else s4, guard)

/-- What a Gauntlet pass gives: the regions, the guard flags as bits, the render checks, the pixels filled, and the area
rendered. -/
structure PassResult where
  regions : List GntRegion
  guardBits : Nat
  rcheck : List Word
  fill : Nat
  area : Nat

/-- R162 to R165: the Gauntlet pass of a view. -/
def State.gauntletPass (s : State) (w : Nat) : State × PassResult :=
  (List.range 4).foldl (fun (acc : State × PassResult) k =>
    let (t, r) := acc
    if t.flag (F.CMP_LAYER_CTL_EN w (60 + k)) then
      let (f, reg, fill) := (Fetch.mk t []).region w (60 + k)
      let check := codesCheck reg.codes
      let (u, guard) := f.s.judgeRegion w k check (fill != 0)
      (u, ⟨r.regions ++ [reg], r.guardBits + guard.toNat * 2 ^ k, r.rcheck ++ [check], r.fill + fill,
        r.area + reg.w * reg.h⟩)
    else (t, { r with rcheck := r.rcheck ++ [0] })) (s, ⟨[], 0, [], 0, 0⟩)

end Sys2Proof.Machine
end

