-- ==== Sys2Proof/Machine/Fences.lean ====
section
/-! DEFINITION. Fences (R69 to R72, R166). -/

namespace Sys2Proof.Machine

/-- R69: the value of a fence. -/
def State.fence (s : State) (n : Nat) : Word := Sparse.get (fun _ => 0) s.txn.fences n

/-- R69: a signal moves a fence to a later value. -/
def State.signalFence (s : State) (n : Nat) (v : Word) : State :=
  if laterSerial v.toNat (s.fence n).toNat then
    { s with txn := { s.txn with fences := Sparse.put (fun _ => 0) s.txn.fences n v } }
  else s

/-- R70: a fence satisfies a target. -/
def State.fenceMet (s : State) (n : Nat) (target : Word) : Bool :=
  s.fence n == target || laterSerial (s.fence n).toNat target.toNat

/-- R150: the words of a layer's source buffer. -/
def bufWords (w k : Nat) : List Nat := (List.range 4).map (fun i => 0x188024 + 0x1000 * w + 0x40 * k + 4 * i)

/-- R166: with a Gauntlet layer's buffer waits its EXPECTED. -/
def heldWords (w k : Nat) : List Nat :=
  bufWords w k ++ (if 60 ≤ k then [0x180404 + 0x40 * w + 0x10 * (k - 60)] else [])

/-- R70, R172: a layer whose buffer changes wait on a fence. -/
def State.layerFenced (s : State) (w k : Nat) : Bool :=
  s.flag (F.CMP_LAYER_CTL_FENCE_EN w k) && s.fld (F.CMP_LAYER_CTL_KIND w k) == 1 &&
  (decide (60 ≤ k) || decide (s.fld (F.CMP_LAYER_CTL_FENCE w k) < 120))

/-- R70, R72, R150, R166: a fenced layer whose buffer a commit has changed keeps its old buffer, and its change waits. A
new wait discards an earlier one of the layer. -/
def State.armFence (before s : State) (w k : Nat) : State :=
  if s.layerFenced w k && (bufWords w k).any (fun a => before.reg a != s.reg a) then
    let ws := (heldWords w k).map (fun a => (a, s.reg a))
    let s1 := (heldWords w k).foldl (fun t a => t.setReg a (before.reg a)) s
    let wait : FenceWait := ⟨w, k, s.fld (F.CMP_LAYER_CTL_FENCE w k), s.reg (F.CMP_LAYER_FENCE_TARGET_TARGET w k).addr, ws, none⟩
    { s1 with txn := { s1.txn with
        waits := s1.txn.waits.filter (fun x => !(x.view == w && x.slot == k)) ++ [wait] } }
  else s

/-- R70: the fences that a commit's changes arm. -/
def State.reactFences (before s : State) : State :=
  (List.range 512).foldl (fun t i => State.armFence before t (i / 64) (i % 64)) s

/-- The state without a wait. -/
def State.dropWait (s : State) (x : FenceWait) : State :=
  { s with txn := { s.txn with waits := s.txn.waits.filter (fun y => !(y.view == x.view && y.slot == x.slot)) } }

/-- R71: a wait ends without its change. -/
def State.fenceTimeout (s : State) (x : FenceWait) : State :=
  (s.dropWait x).eventCount F.SYS_FLIP_EVT_FENCE_TMO F.SYS_FLIP_CNT_FENCE_TMO_COUNT

/-- R70, R71: a wait at a sender latch of its view: the first is its T0; a satisfied fence switches the buffer. -/
def State.fenceAtLatch (s : State) (x : FenceWait) : State :=
  if s.fenceMet x.fence x.target then (x.words.foldl (fun t p => t.setReg p.1 p.2) s).dropWait x
  else
    match x.t0 with
    | some _ => s
    | none =>
      if s.fld F.SYS_FENCE_TMO_TMO_US = 0 then s.fenceTimeout x
      else
        { s with txn := { s.txn with waits := s.txn.waits.map (fun y =>
            if y.view = x.view ∧ y.slot = x.slot then { y with t0 := some s.wall } else y) } }

/-- R70: the waits of a view at its latch. -/
def State.latchFences (s : State) (w : Nat) : State :=
  (s.txn.waits.filter (fun x => x.view == w)).foldl State.fenceAtLatch s

/-- FENCE_TIMEOUT (R71): a wait is still open at T0 plus the timeout. -/
def execFenceTimeout (view slot : Nat) (s : State) : Host.Outcome State Fault Refusal :=
  .next (match s.txn.waits.find? (fun x => x.view == view && x.slot == slot) with
    | none => s
    | some x =>
      match x.t0 with
      | none => s
      | some t => (s.untilWall (t + ofUs (s.fld F.SYS_FENCE_TMO_TMO_US))).fenceTimeout x)

end Sys2Proof.Machine
end

