-- ==== Sys2Proof/Machine/Validate2.lean ====
section
/-! DEFINITION. The checks of COMMIT, continued: the tile's settings (R325, R363, R374), time, network, temperature and
views, and the order of the checks (R57). -/

namespace Sys2Proof.Machine

/-! Settings of a tile. A rule that involves a word the judge does not hold is not judged (R325), so these rules read
words that may be absent. -/

/-- A field of words that may be absent. -/
def of_ (v : Nat → Option Word) (f : Fld) : Option Nat := (v f.addr).map f.of

/-- A rule over optional values: it fails only where every value it involves is held. -/
def judged (b : Option Bool) : Bool := b.getD false

/-- R325: W × H is above 131,072. The ranges of W and H are those of the register map. -/
def geomFails (v : Nat → Option Word) : Bool :=
  judged do
    let w ← of_ v F.TIL_GEOM_W
    let h ← of_ v F.TIL_GEOM_H
    return decide (w * h > 131072)

/-- R323, R325: the breakpoints of a curve: unused ones hold 0x8000. -/
def curveFails (v : Nat → Option Word) (z k : Nat) : Bool :=
  judged do
    let ts ← (List.range 8).mapM (fun b => of_ v (F.TIL_TCOMP_TEMP z k b))
    let used := ts.takeWhile (· != 0x8000)
    return used.isEmpty || !decide (List.IsChain (· < ·) (used.map (signed 16)))

/-- Whether context x is enabled, where that is known. -/
def ctxOn (v : Nat → Option Word) (x : Nat) : Bool := (of_ v (F.LMB_CTX_CTL_EN x)).getD 0 == 1

/-- R364: PX of a context. -/
def ctxPx (v : Nat → Option Word) (x : Nat) : Option Nat := (of_ v (F.LMB_CTX_CTL_PX_M1 x)).map (· + 1)
/-- R364: BLK of a context. -/
def ctxBlk (v : Nat → Option Word) (x : Nat) : Option Nat := (of_ v (F.LMB_CTX_CTL_BLK_M1 x)).map (· + 1)
/-- R365: CH of a context. -/
def ctxCh (v : Nat → Option Word) (x : Nat) : Option Nat := (of_ v (F.LMB_CTX_CTL_CH_M1 x)).map (· + 1)

/-- R363: CLASS 3, or CH below PX × n × BLK for a data class. -/
def ctxShapeFails (v : Nat → Option Word) (x : Nat) : Bool :=
  judged do
    let cls ← of_ v (F.LMB_CTX_CTL_CLASS x)
    let ch ← ctxCh v x
    let px ← ctxPx v x
    let blk ← ctxBlk v x
    let n4 ← of_ v F.TIL_GEOM_LAMPS4
    return cls == 3 || (decide (cls < 2) && decide (ch < px * (3 + n4) * blk))

/-- R364: the lamp that channel c of a context drives in scan line s; none where the channel has grey 0. -/
def ctxLamp (px blk u0 v0 order dirU dirV scan n w h c s : Nat) : Option Nat :=
  let bw := px * n
  if bw * blk ≤ c then none
  else
    let b := c / bw
    let c' := c % bw
    let i := if order = 0 then c' / n else c' % px
    let k := if order = 0 then c' % n else c' / px
    let u := if dirU = 1 then u0 + px - 1 - i else u0 + i
    let r := b * scan + s
    let y := if dirV = 1 then v0 + blk * scan - 1 - r else v0 + r
    if u < w ∧ y < h then some ((y * w + u) * n + k) else none

/-- R364: the lamps of context x, where every word involved is known. -/
def ctxLamps (v : Nat → Option Word) (x : Nat) : Option (List Nat) := do
  let cls ← of_ v (F.LMB_CTX_CTL_CLASS x)
  let px ← ctxPx v x
  let blk ← ctxBlk v x
  let ch ← ctxCh v x
  let u0 ← of_ v (F.LMB_CTX_ORIGIN_U0 x)
  let v0 ← of_ v (F.LMB_CTX_ORIGIN_V0 x)
  let order ← of_ v (F.LMB_CTX_CTL_ORDER x)
  let du ← of_ v (F.LMB_CTX_CTL_DIR_U x)
  let dv ← of_ v (F.LMB_CTX_CTL_DIR_V x)
  let scan ← (of_ v F.LMB_SCAN_SCAN_M1).map (· + 1)
  let n4 ← of_ v F.TIL_GEOM_LAMPS4
  let w ← of_ v F.TIL_GEOM_W
  let h ← of_ v F.TIL_GEOM_H
  return (if cls < 2 then
    (List.range scan).flatMap (fun s => (List.range ch).filterMap
      (fun c => ctxLamp px blk u0 v0 order du dv scan (3 + n4) w h c s)) else [])

/-- The enabled contexts. -/
def ctxsOn (v : Nat → Option Word) : List Nat := (List.range 4096).filter (ctxOn v)

/-- R363: context x maps a lamp that another enabled context maps. -/
def ctxOverlapFails (v : Nat → Option Word) (x : Nat) : Bool :=
  judged do
    let mine ← ctxLamps v x
    return (ctxsOn v).any (fun y => y != x && judged ((ctxLamps v y).map (fun o => mine.any o.contains)))

/-- The contexts of the line that context x stands on: port 64 × p, line 8 × l (R364). -/
def lineOf (v : Nat → Option Word) (x : Nat) : List Nat :=
  ((List.range 8).map (fun i => x / 8 * 8 + i)).filter (ctxOn v)

/-- The enabled contexts of a line that have a class. -/
def ofClass (v : Nat → Option Word) (cls : Nat) (xs : List Nat) : List Nat :=
  xs.filter (fun x => of_ v (F.LMB_CTX_CTL_CLASS x) == some cls)

/-- R347, R363: a line's streamed addresses are not 0 to D − 1, or its streamed CH differ, or it holds both data
classes. -/
def lineFails (v : Nat → Option Word) (x : Nat) : Bool :=
  let line := lineOf v x
  let st := ofClass v 0 line
  let bu := ofClass v 1 line
  (!st.isEmpty && !bu.isEmpty) ||
  (st.map (· % 8)) != List.range st.length ||
  (match st with
   | [] => false
   | y :: ys => ys.any (fun z => ctxCh v z != ctxCh v y))

/-- R341: V_min in LB_CLK cycles. -/
def vMin (num den refresh scan : Nat) : Nat :=
  if num = 0 ∨ refresh = 0 then 0 else gridTime num den 1 / (65536 * refresh * scan * 10)

/-- R343: N, the PWM length. -/
def pwmLen (vm dead : Nat) : Nat := min (8 * (vm - dead)) 65535

/-- R349: whether a port has a line with enabled buffered contexts. -/
def portBuffered (v : Nat → Option Word) (p : Nat) : Bool :=
  !(ofClass v 1 (((List.range 64).map (fun i => 64 * p + i)).filter (ctxOn v))).isEmpty

/-- R349: the cycles a streamed line needs in a visit. -/
def streamedNeed (v : Nat → Option Word) (x : Nat) : Nat :=
  16 * (((ofClass v 0 (lineOf v x)).filterMap (ctxCh v)).sum) + 37 + (if portBuffered v (x / 64) then 10 else 8)

/-- R313: T_build at DIV 1 in nanoseconds, rounded up. -/
def buildNs (w h : Nat) : Nat := 2000 + ((w * h + 3) / 4 * 5 + 5) / 6

/-- R349: the line budget of context x's line fails. -/
def budgetFails (v : Nat → Option Word) (x : Nat) : Bool :=
  judged do
    let num ← of_ v F.LMB_SCAN_RATE_NUM
    let den ← of_ v F.LMB_SCAN_RATE_DEN
    let refresh ← of_ v F.LMB_SCAN_REFRESH
    let scan ← (of_ v F.LMB_SCAN_SCAN_M1).map (· + 1)
    let w ← of_ v F.TIL_GEOM_W
    let h ← of_ v F.TIL_GEOM_H
    let cuff ← of_ v F.SYS_CUFF_CUFF_US
    let vm := vMin num den refresh scan
    let bu := ofClass v 1 (lineOf v x)
    let u := (bu.filterMap (fun y => (ctxCh v y).map (fun ch => 33 + 16 * ch * scan))).sum
    let win := (cuff * 1000 - buildNs w h - 1000) / 10
    return (!(ofClass v 0 (lineOf v x)).isEmpty && decide (streamedNeed v x > vm)) ||
      (!bu.isEmpty && decide (vm < 11 ∨ u > win * (vm - 11) / vm))

/-- R374: the two conditions on MIN_WIDTH. -/
def diagFails (v : Nat → Option Word) : Bool :=
  judged do
    let settle ← of_ v F.LMB_DIAG_PARAM_ROW_SETTLE
    let mw ← of_ v F.LMB_DIAG_CTL_MIN_WIDTH
    let dead ← of_ v F.LMB_SCAN_DEAD
    let num ← of_ v F.LMB_SCAN_RATE_NUM
    let den ← of_ v F.LMB_SCAN_RATE_DEN
    let refresh ← of_ v F.LMB_SCAN_REFRESH
    let scan ← (of_ v F.LMB_SCAN_SCAN_M1).map (· + 1)
    let probe ← of_ v F.LMB_DIAG_TIME_PROBE_MS
    let n := pwmLen (vMin num den refresh scan) dead
    return decide (settle + (mw + 7) / 8 + 2 > dead) ||
      decide (2000000 * mw * den * 1000 ≥ n * refresh * num * probe)

/-- R388: ROUND_MS lies outside 10 ms to PROBE_MS / 2. -/
def roundFails (v : Nat → Option Word) : Bool :=
  judged do
    let r ← of_ v F.LMB_DIAG_TIME_ROUND_MS
    let p ← of_ v F.LMB_DIAG_TIME_PROBE_MS
    return decide (r < 10 ∨ r > p / 2)

/-- R333, R363: the VOLT of a bank with an enabled port differs from its sensed supply. -/
def bankFails (s : State) (v : Nat → Option Word) (b : Nat) : Bool :=
  (List.range 8).any (fun i => (of_ v (F.LMB_PORT_CTL_EN (8 * b + i))).getD 0 == 1) &&
  judged ((of_ v (F.LMB_BANK_VOLT b)).map (fun x => s.fld (F.LMB_BANK_SENSED b) != x + 1))

/-- The words of the Lamp Bus and tile settings that a line or diagnostic rule involves, contexts apart. -/
def lmbShared : List (Nat × Nat) := [(0x2C0010, 0x2C0018), (0x280000, 0x280004)]

/-- The words of context x. -/
def ctxRegion (x : Nat) : Nat × Nat := (0x2D0000 + 0x20 * x, 0x2D0020 + 0x20 * x)

/-- The words of the contexts of a line. -/
def lineRegion (x : Nat) : Nat × Nat := (0x2D0000 + 0x20 * (x / 8 * 8), 0x2D0000 + 0x20 * (x / 8 * 8 + 8))

/-- R325, R363, R374, at check 2: rules over the settings of one tile. -/
def tileRangeRules (v : Nat → Option Word) (chs : List Change) : List Nat :=
  if chs.any (touches 0x280000 0x2F0000) then
    rule chs [(0x280000, 0x280004)] (geomFails v) ++
    ((List.range 16).flatMap (fun z => (List.range 4).flatMap (fun k =>
      rule chs [(0x282000 + 128 * z + 32 * k, 0x282020 + 128 * z + 32 * k)] (curveFails v z k)))) ++
    (ctxsOn v).flatMap (fun x =>
      rule chs [ctxRegion x, (0x280000, 0x280004)] (ctxShapeFails v x) ++
      rule chs (ctxRegion x :: lmbShared) (ctxOverlapFails v x) ++
      rule chs [lineRegion x] (lineFails v x)) ++
    rule chs ([(0x2C0060, 0x2C006C)] ++ lmbShared) (diagFails v) ++
    rule chs [(0x2C0064, 0x2C0068)] (roundFails v)
  else []

/-- R349, at check 4: the line budgets of one tile. -/
def tileCapFails (v : Nat → Option Word) (chs : List Change) : Bool :=
  chs.any (touches 0x2C0010 0x2F0000) && (ctxsOn v).any (budgetFails v)

/-! What a sender knows of a tile (R325) -/

/-- R15, R244: whether a change is addressed to a tile of the chains. -/
def forTile (tile : Nat) (c : Change) : Bool := c.scope == 2 || (c.scope == 1 && c.target == tile)

/-- R325: the word of a tile as far as its sender knows it: the last value sent, with the tile's geometry from its
session. -/
def State.tileWord (s : State) (chs : List Change) (tile a : Nat) : Option Word :=
  let sent := (s.txn.tileSettings.map (fun (x : Auth × Nat × Change) => x.2.2) ++ s.txn.accepted.flatMap (·.changes) ++ chs).filter (forTile tile)
  let base : Option Word :=
    if a = 0x280000 then
      some (BitVec.ofNat 32 (s.fld (F.MLK_SESS_GEOM_H (sessionOf tile)) + 65536 * s.fld (F.MLK_SESS_GEOM_W (sessionOf tile)) +
        (if s.fld (F.MLK_SESS_INFO_LAMPS (sessionOf tile)) = 4 then 2 ^ 28 else 0)))
    else none
  sent.foldl (fun w c => (wordAt c a).elim w some) base

/-- The tiles with an open session, as tile addresses of the sender's domain. -/
def State.openTiles (s : State) : List Nat :=
  ((List.range 512).filter (fun n => s.flag (F.MLK_SESS_STAT_OPEN n))).map (fun n => s.fld F.MLK_CTL_DOMAIN * 512 + n)

/-- R325: the tiles with a session to which a transaction addresses changes. -/
def State.addressedTiles (s : State) (chs : List Change) : List Nat :=
  if chs.any (fun c => c.scope != 0) then s.openTiles.filter (fun t => chs.any (forTile t)) else []

/-- R57, check 2, for words addressed to a tile: the fields' ranges, as far as they are known. -/
def tileWordRule (v : Nat → Option Word) (chs : List Change) : List Nat :=
  (chs.filter (fun c => (List.range c.words.length).any (fun i =>
    rangeFails (fun a => (v a).getD (regReset a)) (c.addr + 4 * i)))).map (·.index)

/-! Time, network, temperature, views -/

/-- R411: settings of PTP that answer ERR_RANGE, as rules with the words they involve. -/
def ptpRules (s : State) (v : Nat → Word) (chs : List Change) : List Nat :=
  if chs.any (touches 0x140000 0x140300) then
    rule chs [(0x140100, 0x140104), (0x140140, 0x140144)]
      (vb v (F.PTP_DOM_CFG_EN 0) && vb v (F.PTP_DOM_CFG_EN 1) && vf v (F.PTP_DOM_CFG_DOMAIN 0) == vf v (F.PTP_DOM_CFG_DOMAIN 1)) ++
    rule chs [(0x140000, 0x140004), (0x140100, 0x140104), (0x140140, 0x140144)]
      ((vf v F.PTP_CTL_SELECT == 2 && !vb v (F.PTP_DOM_CFG_EN 0)) || (vf v F.PTP_CTL_SELECT == 3 && !vb v (F.PTP_DOM_CFG_EN 1))) ++
    rule chs [(0x140000, 0x140004)] (vf v F.PTP_CTL_SOURCE == 2 && s.partnered) ++
    (List.range 8).flatMap (fun n =>
      let width := vf v (F.PTP_EVT_WIDTH_WIDTH_NS n)
      let num := vf v (F.PTP_EVT_RATE_NUM n)
      let den := vf v (F.PTP_EVT_RATE_DEN n)
      rule chs [(0x140200 + 0x20 * n, 0x140220 + 0x20 * n)]
        (vb v (F.PTP_EVT_CTL_EN n) &&
          (decide (vf v (F.PTP_EVT_CTL_MODE n) ≥ 4) || decide (width < 10) ||
           (vf v (F.PTP_EVT_CTL_MODE n) == 1 && decide (width * num ≥ den * 10 ^ 9)) ||
           (vf v (F.PTP_EVT_CTL_MODE n) == 2 && decide (width ≥ 10 ^ 9)) ||
           decide (num > 1000000 * den))))
  else []

/-- R139: HB_PORT equals CMD_PORT. -/
def netRules (v : Nat → Word) (chs : List Change) : List Nat :=
  (List.range 2).flatMap (fun p => rule chs [(0x110028 + 0x10000 * p, 0x11002C + 0x10000 * p)]
    (vf v (F.NET_UDP_CMD_PORT p) == vf v (F.NET_UDP_HB_PORT p)))

/-- R552, R557: the orders of the temperature and rail thresholds. -/
def thmRules (v : Nat → Word) (chs : List Change) : List Nat :=
  rule chs [(0x030000, 0x030004)]
    (!(decide (vf v F.THM_THRESH_WARN_C < vf v F.THM_THRESH_THROTTLE_C) && decide (vf v F.THM_THRESH_THROTTLE_C < vf v F.THM_THRESH_SHUT_C))) ++
  (List.range 8).flatMap (fun n => rule chs [(0x030400 + 16 * n, 0x030410 + 16 * n)]
    (vb v (F.THM_SUPV_CFG_EN n) &&
      !(decide (vf v (F.THM_SUPV_LEVELS_MIN_MV n) < vf v (F.THM_SUPV_LEVELS_WARN_MV n)) &&
        decide (vf v (F.THM_SUPV_LEVELS_WARN_MV n) < vf v (F.THM_SUPV_MAX_MAX_MV n)))))

/-- R180: the cadence lies outside 1 to 480 Hz, or the offset is a flip period or more. -/
def cadenceFails (v : Nat → Word) : Bool :=
  let num := vf v F.CMP_FLIP_RATE_NUM
  let den := vf v F.CMP_FLIP_RATE_DEN
  decide (num < den) || decide (num > 480 * den) ||
  decide ((signed 32 (vf v F.CMP_FLIP_OFFSET_OFFSET_NS)).natAbs * num ≥ den * 10 ^ 9)

/-- R182: an entry names a view that is not enabled, or an enabled view has no entry. -/
def sequenceFails (v : Nat → Word) : Bool :=
  !(viewsOf v).isEmpty &&
  ((seqEntries v).any (fun w => !(viewsOf v).contains w) || (viewsOf v).any (fun w => entriesOf v w == 0))

/-- R188: the shutter window of a view goes past the next flip of the domain. -/
def shutterFails (v : Nat → Word) (w : Nat) : Bool :=
  vb v (F.CMP_VIEW_CTL_EN w) &&
  decide ((vf v (F.CMP_VIEW_SHUTTER_OPEN_US w) + vf v (F.CMP_VIEW_SHUTTER_WIDTH_US w)) * 1000 * vf v F.CMP_FLIP_RATE_NUM >
    vf v F.CMP_FLIP_RATE_DEN * 10 ^ 9)

/-- R206: the SDI output rates, as numerator and denominator. -/
def sdiRates : List (Nat × Nat) :=
  [(24000, 1001), (24, 1), (25, 1), (30000, 1001), (30, 1), (50, 1), (60000, 1001), (60, 1)]

/-- R206: tap t breaks a rule. -/
def tapFails (top : Nat) (v : Nat → Word) (t : Nat) : Bool :=
  let num := vf v F.CMP_FLIP_RATE_NUM * entriesOf v (vf v (F.CMP_MON_CTL_VIEW t))
  let den := vf v F.CMP_FLIP_RATE_DEN * seqLen v * tapDiv v t
  let r := tapRaster v t
  let base := 4096 * vf v (F.CMP_MON_BASE_ADDR t)
  let stop := base + 2 * up4k (r.1 * r.2 * 4)
  vb v (F.CMP_MON_CTL_EN t) &&
  ((if t < 2 then !(sdiRates.any (fun x => num * x.2 == den * x.1)) || vb v (F.CMP_MON_CTL_SAMPLING t) ||
      decide (vf v (F.CMP_MON_CTL_SDI_FMT t) ≥ 2)
    else decide (num > 60 * den) || decide (r.1 < 16 ∨ r.1 > 4096 ∨ r.2 < 16 ∨ r.2 > 2160)) ||
   decide (vf v (F.CMP_MON_SRC_POS_SX t) + vf v (F.CMP_MON_SRC_SIZE_SW t) > vf v F.CMP_CANVAS_W) ||
   decide (vf v (F.CMP_MON_SRC_POS_SY t) + vf v (F.CMP_MON_SRC_SIZE_SH t) > vf v F.CMP_CANVAS_H) ||
   decide (vf v (F.CMP_MON_DST_POS_DX t) + vf v (F.CMP_MON_DST_SIZE_DW t) > r.1) ||
   decide (vf v (F.CMP_MON_DST_POS_DY t) + vf v (F.CMP_MON_DST_SIZE_DH t) > r.2) ||
   vf v (F.CMP_MON_DST_SIZE_DW t) == 0 || vf v (F.CMP_MON_DST_SIZE_DH t) == 0 ||
   decide (stop > top) ||
   (enabledSrcs v).any (fun i => decide (base < srcEnd v i ∧ srcBase v i < stop)))

/-- R134: the bytes of samples in a line of a tap's flow. -/
def lineBytes (v : Nat → Word) (t : Nat) : Nat :=
  if vb v (F.CMP_MON_CTL_SAMPLING t) then ((tapRaster v t).1 + 3) / 4 * 15 else ((tapRaster v t).1 + 1) / 2 * 5

/-- R134: the largest payload of whole pgroups. -/
def payloadMax (v : Nat → Word) (t : Nat) : Nat :=
  let pg := if vb v (F.CMP_MON_CTL_SAMPLING t) then 15 else 5
  vf v (F.NET_MON_PKT_PKT_BYTES ((t - 2) / 2) ((t - 2) % 2)) / pg * pg

/-- R135: the line bytes of one packet of a flow: frame, preamble, SFD and gap. -/
def packetLine (tagged : Bool) (payload : Nat) : Nat :=
  max 64 (14 + (if tagged then 4 else 0) + 20 + 8 + 12 + 2 + 6 + payload + 4) + 20

/-- R135: the line rate of tap t's flow in bytes per second, times DEN × SEQ_LEN × 4. -/
def flowRate (v : Nat → Word) (t : Nat) : Nat :=
  let tagged := vb v (F.NET_CTL_VLAN_EN ((t - 2) / 2))
  let pm := payloadMax v t
  let full := lineBytes v t / max 1 pm
  let rest := lineBytes v t % max 1 pm
  (full * packetLine tagged pm + (if rest = 0 then 0 else packetLine tagged rest)) * (tapRaster v t).2 *
    vf v F.CMP_FLIP_RATE_NUM * entriesOf v (vf v (F.CMP_MON_CTL_VIEW t)) * 4 / tapDiv v t

/-- R135: the flows of port p exceed 90 % of the sub-port's rate. -/
def flowsFail (v : Nat → Word) (p : Nat) : Bool :=
  let on := [2 + 2 * p, 3 + 2 * p].filter (fun t => vb v (F.NET_MON_CTL_EN p (t % 2)) && vb v (F.CMP_MON_CTL_EN t))
  let gbit := if vb v (F.NET_CTL_MODE p) then 25 else 100
  decide ((on.map (flowRate v)).sum * 8 * 10 > 9 * gbit * 10 ^ 9 * (vf v F.CMP_FLIP_RATE_DEN * seqLen v * 4))

/-- R195: the change that answers for a failing map entry: the one that writes CMP_MAP_CTL.GEN where the commit
publishes, otherwise the first of the canvas, the domain or the entry's warp profile. -/
def mapRules (s : State) (v : Nat → Word) (chs : List Change) : List (Nat × Nat) :=
  let bank := s.mapAtEffect chs
  if publishesMap chs then
    (mapEntries bank).flatMap (fun e => (rule chs [(0x180048, 0x18004C)] (entryFails s v bank e)).map (fun i => (e, i)))
  else if chs.any (fun c => touches 0x180020 0x180024 c || touches 0x200000 0x200004 c || touches 0x1A0000 0x1E0000 c) then
    (mapEntries bank).flatMap (fun e =>
      let p := mapFld bank e 0 27 22
      (rule chs ([(0x180020, 0x180024), (0x200000, 0x200004)] ++
        (if p = 0 then [] else [(0x1A0000 + 0x1000 * p, 0x1A1000 + 0x1000 * p)])) (entryFails s v bank e)).map (fun i => (e, i)))
  else []

/-- R215: a commit that publishes GEN equal to ACTIVE_GEN. -/
def genRule (s : State) (v : Nat → Word) (chs : List Change) : List Nat :=
  rule chs [(0x180048, 0x18004C)] (vf v F.CMP_MAP_CTL_GEN == s.fld F.CMP_MAP_STAT_ACTIVE_GEN)

/-! The order of the checks (R57) -/

/-- The views and slots of the enabled layers. -/
def allLayers (v : Nat → Word) : List (Nat × Nat) :=
  (List.range 8).flatMap (fun w => (layersOf v w).map (fun k => (w, k)))

/-- The words that a layer's rules involve: its own, and those of the source it names. -/
def layerRegions (v : Nat → Word) (w k : Nat) : List (Nat × Nat) :=
  [layerRegion w k] ++ (if vf v (F.CMP_LAYER_CTL_KIND w k) = 0 then [srcRegion (vf v (F.CMP_LAYER_CTL_SRC w k))] else [])

/-- R57, check 1. -/
def check1 (v : Nat → Word) (chs : List Change) : List Nat :=
  if chs.any (touches 0x188000 0x190000) then
    (allLayers v).flatMap (fun x => rule chs [layerRegion x.1 x.2] (layerFenceFails v x.1 x.2))
  else []

/-- R57, check 2, for the sender's own settings beyond the field ranges. -/
def senderRules (s : State) (v : Nat → Word) (chs : List Change) : List Nat :=
  (if chs.any (touches 0x100100 0x100500) then
    (enabledSrcs v).flatMap (fun i => rule chs [(0x100100, 0x100500)] (srcFails s.bufferTop v i)) else []) ++
  (if chs.any (fun c => touches 0x188000 0x1A0000 c || touches 0x100100 0x100500 c) then
    (allLayers v).flatMap (fun x =>
      rule chs (layerRegions v x.1 x.2) (layerFails s.bufferTop v x.1 x.2) ++
      (if vb v (F.CMP_LAYER_CTL_SCALE_EN x.1 x.2) then
        let h := vf v (F.CMP_LAYER_ALPHA_COEF_H x.1 x.2)
        let w := vf v (F.CMP_LAYER_ALPHA_COEF_V x.1 x.2)
        rule chs [layerRegion x.1 x.2, (0x190000 + 0x800 * h, 0x190400 + 0x800 * h)] (coefHFails v h) ++
        rule chs [layerRegion x.1 x.2, (0x190400 + 0x800 * w, 0x190700 + 0x800 * w)] (coefVFails v w)
      else [])) else []) ++
  rule chs [(0x180024, 0x18002C)] (cadenceFails v) ++
  rule chs [(0x18002C, 0x180038), (0x180100, 0x180200)] (sequenceFails v) ++
  ((List.range 8).flatMap (fun w => rule chs [(0x180110 + 0x20 * w, 0x180118 + 0x20 * w), (0x180024, 0x180028)] (shutterFails v w))) ++
  ((List.range 6).flatMap (fun t => rule chs [(0x180600 + 0x20 * t, 0x180620 + 0x20 * t), (0x180020, 0x180038), (0x100100, 0x100500)]
    (tapFails s.bufferTop v t))) ++
  ptpRules s v chs ++ netRules v chs ++ genRule s v chs ++ (mapRules s v chs).map (·.2)

/-- R57, check 2: every change index that fails it. -/
def check2 (s : State) (v : Nat → Word) (chs : List Change) : List Nat :=
  let own := ownChanges chs
  rangeRule v own ++ thmRules v own ++
  (if s.tileRole then
    tileRangeRules (fun a => some (v a)) own ++
    (List.range 8).flatMap (fun b => rule own [(0x2C0040 + 4 * b, 0x2C0044 + 4 * b), (0x2C0100 + 128 * b, 0x2C0180 + 128 * b)]
      (bankFails s (fun a => some (v a)) b))
   else
    senderRules s v own ++
    (s.addressedTiles chs).flatMap (fun t =>
      tileWordRule (s.tileWord chs t) (chs.filter (forTile t)) ++
      tileRangeRules (s.tileWord chs t) (chs.filter (forTile t))))

/-- R57, check 3. -/
def check3 (v : Nat → Word) (chs : List Change) : List Nat :=
  if chs.any (touches 0x188000 0x190000) then
    (allLayers v).flatMap (fun x => rule chs [layerRegion x.1 x.2] (layerLineFails v x.1 x.2))
  else []

/-- R67, R186: the words on which the scan-out check rests. -/
def scanTouched (chs : List Change) : Bool :=
  chs.any (fun c => touches 0x000200 0x000204 c || touches 0x180020 0x18004C c || touches 0x180100 0x180200 c ||
    touches 0x188000 0x190000 c || touches 0x200100 0x200200 c)

/-- R184: the enabled views exceed the VIEWS_HELD of a v2 session. -/
def viewsHeldFail (s : State) (v : Nat → Word) : Bool :=
  (List.range 512).any (fun n => s.flag (F.MLK_SESS_STAT_OPEN n) && s.fld (F.MLK_SESS_STAT_VERSION n) == 2 &&
    decide ((viewsOf v).length > s.fld (F.MLK_SESS_STAT_VIEWS_HELD n)))

/-- R325: the geometry that the commit gives a tile holds fewer views than are enabled (R184). -/
def tileViewsFail (s : State) (v : Nat → Word) (chs : List Change) (t : Nat) : Bool :=
  judged do
    let w ← of_ (s.tileWord chs t) F.TIL_GEOM_W
    let h ← of_ (s.tileWord chs t) F.TIL_GEOM_H
    return decide ((viewsOf v).length > min 8 (524288 / max 1 (w * h)))

/-- R57, check 4, on a tile: settings of blocks that the tile role does not run (R86, R118, R407, R411), and the line
budgets. -/
def tileCheck4 (v : Nat → Word) (chs : List Change) : Bool :=
  (chs.any (touches 0x100100 0x100500) && !(enabledSrcs v).isEmpty) ||
  (chs.any (touches 0x110000 0x130000) && (vb v (F.NET_CTL_EN 0) || vb v (F.NET_CTL_EN 1))) ||
  chs.any (fun c => touches 0x140000 0x140004 c || touches 0x140030 0x140038 c || touches 0x140100 0x140300 c) ||
  tileCapFails (fun a => some (v a)) chs

/-- R57, check 4, on a sender. -/
def senderCheck4 (s : State) (v : Nat → Word) (chs : List Change) : Bool :=
  let own := ownChanges chs
  (own.any (touches 0x100100 0x100500) && decide (writeRate v > writeBudget)) ||
  (own.any (fun c => touches 0x110000 0x130000 c || touches 0x180024 0x180038 c || touches 0x180600 0x1806C0 c) &&
    (flowsFail v 0 || flowsFail v 1)) ||
  (own.any (fun c => touches 0x188000 0x190000 c || touches 0x180020 0x180038 c || touches 0x100100 0x100500 c || touches 0x180600 0x1806C0 c) &&
    ((viewsOf v).any (fun w => scalersFail v w || decide (gauntletArea v w > 2097152)) || ratesFail v)) ||
  (own.any (touches 0x180100 0x180200) && viewsHeldFail s v) ||
  (scanTouched own &&
    scanFails v (s.mapAtEffect chs) s.hops ((viewsOf v).filter (fun w => vf v F.CMP_SHED_BY_HOST / 2 ^ w % 2 == 0))
      (fun c => vf v (F.MLK_PORT_CTL_LANES c))) ||
  (s.addressedTiles chs).any (fun t =>
    tileCapFails (s.tileWord chs t) (chs.filter (forTile t)) ||
    (chs.any (fun c => forTile t c && touches 0x280000 0x280004 c) && tileViewsFail s v chs t))

/-- The least of a list of change indices. -/
def least (l : List Nat) : Option Nat := l.min?

/-- R57: the status and FAIL_INDEX of the first check that fails; none where the commit passes. -/
def State.validate (s : State) (chs : List Change) : Option (Status × Nat) :=
  let v := s.validated chs
  match least (check1 v (ownChanges chs)) with
  | some i => some (.errAuth, i)
  | none =>
    match least (check2 s v chs) with
    | some i => some (.errRange, i)
    | none =>
      match least (check3 v (ownChanges chs)) with
      | some i => some (.errLinebuf, i)
      | none =>
        if (if s.tileRole then tileCheck4 v (ownChanges chs) else senderCheck4 s v chs) then some (.errCap, 0xFFFF)
        else none

end Sys2Proof.Machine
end

