-- ==== Sys2Proof/Machine/Vf.lean ====
section
/-! DEFINITION. What two senders compare: render checks and VFCHECK, and how a role swap ends short (R431, R443 to R446). -/

namespace Sys2Proof.Machine

/-- R446: a redundancy fault. -/
def State.redFault (s : State) (code : Nat) : State :=
  s.fault 7 code (leBytes 4 (s.fld F.RED_EPOCH_EPOCH) ++ leBytes 1 (s.fld F.RED_SWAP_STAT_RESULT) ++
    leBytes 1 (s.fld F.RED_SWAP_STAT_MISMATCH_CHAINS))

/-- R431, R444: the standby is found faulty. -/
def State.standbyFault (s : State) : State :=
  ((s.setFlag F.RED_STAT_STANDBY_FAULT true).event F.RED_EVT_STANDBY_FAULT_EVT).redFault 2

/-- R442 to R446: a swap that runs here ends short with a result; `tell` says that the partner is told. -/
def State.abandonSwap (s : State) (result : Nat) (tell : Bool) : State :=
  if s.fld F.RED_SWAP_STAT_STATE = 0 then s
  else
    let restore := s.red.restore.filter (·.takeover)
    let s1 : State := { s with
      red := { s.red with swap := none, restore := restore }
      scan := if s.mode = .standby then { s.scan with frame := none } else s.scan
      sched := s.sched.filter (fun e => match e.act with | .swapAt _ _ => false | _ => true) }
    let s2 := ((s1.setFld F.RED_SWAP_STAT_STATE 0).setFld F.RED_SWAP_STAT_RESULT result).setFlag F.RED_STAT_WARM false
    let s3 := (((s2.setFlag F.RED_STAT_RESTORING restore.isSome).event F.RED_EVT_SWAP_ABANDON).bump
      F.RED_CNT1_SWAP_FAIL_COUNT).redFault 3
    if tell then s3.sendPartner (.swap 4 0 result) else s3

/-- R431: the standby compares the render checks of a view-frame with its own. -/
def State.gntCompare (s : State) (view : Nat) (rcheck : List Word) : State :=
  match s.scan.views.find? (fun x => x.1 == view) with
  | none => s
  | some v =>
    if v.2.rcheck = rcheck then { s with red := { s.red with gntRun := 0 } }
    else
      let s1 := ({ s with red := { s.red with gntRun := s.red.gntRun + 1 } } : State).eventCount F.RED_EVT_GNT_DIFF
        F.RED_CNT1_GNT_DIFF_COUNT
      if s1.red.gntRun = s1.fld F.RED_TMO_GNT_DIFF_LIMIT then s1.standbyFault else s1

/-- R443: what VFCHECK says of a view-frame. -/
def vfBody (f : ScanFrame) : VfBody :=
  let accOf (c : Nat) : Option Nat := (f.chainAcc.find? (fun x => x.1 == c)).map (·.2)
  ⟨f.flip, f.view, ((f.chainAcc.map (fun x => 2 ^ x.1)).sum), f.alive, f.rcheck,
    (List.range 8).map (fun c => (accOf c).elim 0 crc32cDone),
    (List.range 16).map (fun i => ((f.srcTimes.find? (fun x => x.1 == i)).map
      (fun x => (secOf x.2 % 2 ^ 32, nsOf x.2))).getD (0, 0))⟩

/-- R444: for every source read, the two completion times lie less than half the source's frame period apart. -/
def State.comparable (s : State) (a b : VfBody) : Bool :=
  (List.range 16).all (fun i =>
    let x := a.srcs.getD i (0, 0)
    let y := b.srcs.getD i (0, 0)
    let d := ((x.1 * 10 ^ 9 + x.2 : Nat) : Int) - ((y.1 * 10 ^ 9 + y.2 : Nat) : Int)
    (x == (0, 0) && y == (0, 0)) || decide (2 * d.natAbs * s.fld (F.SDI_SRC_CODING_RATE_HZ i) < 10 ^ 9))

/-- R445: the standby is ready: it names S, the first flip at least 2 ms later. -/
def State.swapReady (s : State) (r : SwapRun) : State :=
  let n := (gridFrom s.flipNum s.flipDen s.flipOffset (s.wall + ofMs 2) + s.flipBase) % 2 ^ 64
  (({ s with red := { s.red with swap := some { r with s := n } } } : State).setFld F.RED_SWAP_STAT_STATE 2).sendPartner
    (.swap 2 n 0)

/-- R444: the standby judges a view-frame that both senders have rendered. -/
def State.judgeVf (s : State) (r : SwapRun) (a b : VfBody) : State :=
  let left : SwapRun := { r with
    seen := r.seen + 1
    mine := r.mine.filter (fun x => decide (a.flip < x.flip))
    theirs := r.theirs.filter (fun x => decide (a.flip < x.flip)) }
  let s1 : State := { s with red := { s.red with swap := some left } }
  let differ := ((List.range 8).filter (fun c => a.chainCheck.getD c 0 != b.chainCheck.getD c 0)).map (2 ^ ·)
  if s.comparable a b then
    if differ.isEmpty then
      let s2 := s1.bump F.RED_SWAP_STAT_AGREED
      if s2.fld F.RED_SWAP_STAT_AGREED = s2.fld F.RED_SWAP_CTL_WARM_FRAMES then s2.swapReady left
      else if left.seen = 256 then s2.abandonSwap 5 true else s2
    else
      ((s1.setFld F.RED_SWAP_STAT_MISMATCH_CHAINS differ.sum).standbyFault).abandonSwap 2 true
  else if left.seen = 256 then s1.abandonSwap 5 true
  else s1

/-- R444: the view-frames that both senders have rendered are judged, once WARM_FRAMES have been rendered in step. -/
def State.pairVf (s : State) : State :=
  match s.red.swap with
  | none => s
  | some r =>
    if s.fld F.RED_SWAP_STAT_STATE ≠ 1 ∨ r.warm ≤ s.fld F.RED_SWAP_CTL_WARM_FRAMES then s
    else
      match r.mine.findSome? (fun a => (r.theirs.find? (fun b => b.flip == a.flip)).map (fun b => (a, b))) with
      | some (a, b) => s.judgeVf r a b
      | none => s

/-- R431, R443: a view-frame has been rendered whole: the active reports it while the standby is warm or the ring is down,
and a warm standby keeps it for comparison. -/
def State.vfEnds (s : State) (f : ScanFrame) : State :=
  if s.mode = .sender then
    if s.partnered && (s.red.partner.any (·.swapWarm) || !s.flag F.RED_STAT_CHAIN_ALIVE) then s.sendPartner (.vfcheck (vfBody f))
    else s
  else
    match s.red.swap with
    | some r => ({ s with red := { s.red with swap := some { r with warm := r.warm + 1, mine := r.mine ++ [vfBody f] } } } : State).pairVf
    | none => s

end Sys2Proof.Machine
end

