-- ==== Sys2Proof/Machine/Scan.lean ====
section
/-! DEFINITION. Views and scan-out on a sender: the shed set, the latch, FLIP, pixel bursts and FRAME_END, monitoring
taps, and the Module Map (R180 to R209, R239 to R242). -/

namespace Sys2Proof.Machine

/-! Bursts as bytes (R221 to R224, R241) -/

/-- R223: the word of a span. -/
def spanWord (x : Span) : Nat := if x.valid then 2 ^ 31 + x.start % 2048 * 2 ^ 12 + x.len % 4096 else 0

/-- R224: pixels in pairs of 9 bytes. -/
def pixelPairs : List Nat → List Byte
  | [] => []
  | [p] => leBytes 9 p
  | p :: q :: rest => leBytes 9 (p + 2 ^ 36 * q) ++ pixelPairs rest

/-- R241: the bytes of a burst that FRAME_CHECK covers. -/
def burstBytes (b : Burst) : List Byte :=
  leBytes 7 (b.spans.isSome.toNat * 2 ^ 50 + b.view % 8 * 2 ^ 47 + b.count % 4096 * 2 ^ 35 + b.row % 2048 * 2 ^ 24 +
    b.module % 256 * 2 ^ 16 + b.tile % 65536) ++
  leBytes 4 b.flipLo ++ leBytes 2 b.gen ++ leBytes 2 b.claimTag ++
  (b.spans.elim [] (fun l => l.flatMap (fun x => leBytes 4 (spanWord x)))) ++ pixelPairs b.pixels

/-- R223: the slot, 0 to 3, that pixel i of a burst belongs to: the highest whose span covers it. -/
def spanOf (spans : List Span) (i : Nat) : Option Nat :=
  (List.range 4).foldl (fun acc k =>
    match spans[k]? with
    | some x => if x.valid = true ∧ x.start ≤ i ∧ i < x.start + x.len then some k else acc
    | none => acc) none

/-- An empty tally of a tile (R240). -/
def emptyTally (tile : Nat) : TileTally := ⟨tile, 0, 0, crc32cInit, List.replicate 4 (false, crc32cInit)⟩

/-- R240 to R242: a burst counted. -/
def TileTally.add (t : TileTally) (b : Burst) : TileTally :=
  { t with
    bursts := t.bursts + 1
    pixels := t.pixels + b.count
    acc := crc32cMore t.acc (burstBytes b)
    gnt := match b.spans with
      | none => t.gnt
      | some sp => (b.pixels.zipIdx).foldl (fun g (p : Nat × Nat) =>
          match spanOf sp p.2 with
          | some k => g.modify k (fun x => (true, crc32cMore x.2 (codeBytes p.1)))
          | none => g) t.gnt }

/-- R242: the mask and the checks of a tally. -/
def TileTally.gntMask (t : TileTally) : Nat := ((List.range 4).map (fun k => (t.gnt.getD k (false, 0)).1.toNat * 2 ^ k)).sum

/-- R242: GNT_CHECK0 to 3. -/
def TileTally.gntChecks (t : TileTally) : List Word := t.gnt.map (fun x => if x.1 then crc32cDone x.2 else 0)

/-- R240: FRAME_END from a tally. -/
def TileTally.frameEnd (t : TileTally) (flip view : Nat) : FrameEnd :=
  ⟨flip % 2 ^ 32, view, t.bursts % 65536, t.pixels % 2 ^ 32, crc32cDone t.acc, t.gntMask, t.gntChecks⟩

/-! Shedding (R183, R207 to R209) -/

/-- R208: of two views, the one shed later: the higher PRIORITY, and of equal ones the lower number. -/
def State.keepsOver (s : State) (a b : Nat) : Bool :=
  let p (v : Nat) : Nat := s.fld (F.CMP_VIEW_CTL_PRIORITY v)
  decide (p a > p b ∨ (p a = p b ∧ a < b))

/-- R207: the view that is kept when every enabled view would be shed. -/
def State.lastKept (s : State) : Option Nat :=
  s.enabledViews.foldl (fun acc v => match acc with
    | none => some v
    | some u => if s.keepsOver v u then some v else some u) none

/-- R207: a union of causes, less the one view that is kept. -/
def State.keepOne (s : State) (mask : Nat) : Nat :=
  if s.enabledViews.all (fun v => mask / 2 ^ v % 2 == 1) then
    s.lastKept.elim mask (fun v => mask - mask / 2 ^ v % 2 * 2 ^ v)
  else mask

/-- The union of two masks of eight bits. -/
def mask8 (a b : Nat) : Nat := ((List.range 8).map (fun i => max (a / 2 ^ i % 2) (b / 2 ^ i % 2) * 2 ^ i)).sum

/-- Whether view v is shed. -/
def State.shed (s : State) (v : Nat) : Bool := s.keepOne (s.fld F.CMP_SHED_SHED) / 2 ^ v % 2 == 1

/-- R208: views shed for lanes, starting from those that are sent. -/
def State.shedLanes (s : State) : Nat → List Nat → Nat → Nat
  | 0, _, acc => acc
  | fuel + 1, sent, acc =>
    if sent.length > 1 ∧ scanFails s.reg s.map.active s.hops sent (fun c => s.fld (F.SER_PORT_STAT_PRESENT c)) = true then
      match sent.foldl (fun (a : Option Nat) v => match a with
        | none => some v
        | some u => if s.keepsOver u v then some v else some u) none with
      | some v => s.shedLanes fuel (sent.filter (· != v)) (acc + 2 ^ v)
      | none => acc
    else acc

/-- R207 to R209: the shed set as a latch leaves it. -/
def State.latchShed (s : State) : State :=
  let s1 := s.setFld F.CMP_SHED_BY_THERM ((s.thm.shedViews.map (fun v => 2 ^ v)).sum)
  let other := mask8 (s1.fld F.CMP_SHED_BY_THERM) (s1.fld F.CMP_SHED_BY_HOST)
  let s2 :=
    if s1.scan.widthChanged then
      ({ s1 with scan := { s1.scan with widthChanged := false } }).setFld F.CMP_SHED_BY_LANE
        (s1.shedLanes 8 (s1.enabledViews.filter (fun v => other / 2 ^ v % 2 == 0)) 0)
    else s1
  let new := s2.keepOne (mask8 other (s2.fld F.CMP_SHED_BY_LANE))
  let s3 := if new = s2.fld F.CMP_SHED_SHED then s2 else (s2.setFld F.CMP_SHED_SHED new).event F.CMP_SCAN_EVT_SHED_CHANGE
  (List.range 8).foldl (fun t v => t.setFld (F.CMP_VIEW_STAT_SHED v) (new / 2 ^ v % 2)) s3

/-- R183: the next flip after flip n whose view is sent. -/
def State.nextSent (s : State) (n : Nat) : Option Nat :=
  ((List.range 16).map (fun d => n + d + 1)).find? (fun m =>
    !s.shed (s.viewOfFlip m) && s.flag (F.CMP_VIEW_CTL_EN (s.viewOfFlip m)))

/-! FLIP (R239) -/

/-- R196: the generation of the map active at flip n. -/
def State.genAt (s : State) (n : Nat) : Nat :=
  match s.txn.accepted.find? (fun x => decide (x.flip ≤ n) && publishesMap x.changes) with
  | some x => vf (overlay s.reg (ownChanges x.changes)) F.CMP_MAP_CTL_GEN
  | none => s.fld F.CMP_MAP_STAT_ACTIVE_GEN

/-- A second copy of a message on every chain port, with the number of the first (R239). -/
def State.repeatAll (s : State) (m : LinkMsg) : State :=
  ((List.range 8).filter s.portUp).foldl (fun t p => t.send (.link p (.msg 0xFFFF false false m))) s

/-- What a view keeps of its last sent view-frame. -/
def State.viewSeq (s : State) (v : Nat) : Option ViewSeq := (s.scan.views.find? (fun x => x.1 == v)).map (·.2)

/-- R239: FLIP for a flip whose view is shed. -/
def State.shedFlip (s : State) (n : Nat) : FlipMsg :=
  let v := s.viewOfFlip n
  let q := (s.viewSeq v).getD ⟨0, 0, [0, 0, 0, 0]⟩
  ⟨n, timeField (s.senderFlipTime n), s.claim.epoch, s.claim.rank, v, false, q.guardBits, q.alive, s.genAt n, q.rcheck⟩

/-- R239: FLIP for a view-frame that is sent. -/
def State.frameFlip (s : State) (f : ScanFrame) : FlipMsg :=
  ⟨f.flip, timeField (s.senderFlipTime f.flip), s.claim.epoch, s.claim.rank, f.view, true, f.guardBits, f.alive, f.gen,
    f.rcheck⟩

/-- R239: both copies of FLIP for a shed view go at the flip before. -/
def State.sendShedFlip (s : State) (n : Nat) : State :=
  if s.mode = .sender ∧ s.shed (s.viewOfFlip n) = true then
    (s.sendAll (.flip (s.shedFlip n))).repeatAll (.flip (s.shedFlip n))
  else s

/-- The state with the view-frame being sent replaced. -/
def State.setFrame (s : State) (f : Option ScanFrame) : State := { s with scan := { s.scan with frame := f } }

/-- FLIP_SEND (R239): the first copy of FLIP, once the Gauntlet pass has ended. -/
def execFlipSend (s : State) : Host.Outcome State Fault Refusal :=
  .next (match s.scan.frame with
    | none => s
    | some f =>
      if f.copies = 0 ∧ f.late = false ∧ s.mode = .sender then
        let s1 := s.untilCycle f.pass
        (s1.sendAll (.flip (s1.frameFlip f))).setFrame (some { f with copies := 1, copyAt := s1.cycles })
      else s)

/-! Scan-out (R198 to R201, R240) -/

/-- A tile session of v1 (R234). -/
def State.v1Tile (s : State) (tile : Nat) : Bool := s.fld (F.MLK_SESS_STAT_VERSION (sessionOf tile)) == 1

/-- R198, R199, R215: a Module Map entry that the sender scans out in a view. -/
def State.scanned (s : State) (view e : Nat) : Bool :=
  let b := s.map.active
  let tile := mapFld b e 0 15 0
  let n := sessionOf tile
  s.flag (F.MLK_SESS_STAT_OPEN n) && !s.scan.rejected.contains e &&
  decide (mapFld b e 3 31 16 + mapFld b e 4 31 16 ≤ s.fld (F.MLK_SESS_GEOM_W n)) &&
  decide (mapFld b e 3 15 0 + mapFld b e 4 15 0 ≤ s.fld (F.MLK_SESS_GEOM_H n)) &&
  (!s.v1Tile tile || s.lastKept == some view)

/-- An entry before another in a chain's queue: slot descending, or ascending where the sender is at the far end of the
ring, then module number ascending (R200, R259). -/
def State.queueBefore (s : State) (far : Bool) (a b : Nat) : Bool :=
  let m := s.map.active
  let slot (e : Nat) : Nat := mapFld m e 0 5 0
  decide ((if far then slot a < slot b else slot a > slot b) ∨ (slot a = slot b ∧ mapFld m a 1 31 24 ≤ mapFld m b 1 31 24))

/-- The pixels of an entry. -/
def State.entryPixels (s : State) (e : Nat) : Nat := mapFld s.map.active e 4 31 16 * mapFld s.map.active e 4 15 0

/-- R200, R201: the queue of a chain; a chain port without a trained lane has none. -/
def State.chainQueue (s : State) (view c : Nat) : ChainQueue :=
  let es := ((mapEntries s.map.active).filter (fun e => mapFld s.map.active e 0 8 6 == c && s.scanned view e)).mergeSort
    (s.queueBefore (s.port c).far)
  let es := if s.fld (F.MLK_PORT_STAT_LANES_UP c) = 0 then [] else es
  ⟨c, es, (es.map s.entryPixels).sum, 0⟩

/-- R200: the chain picked next: the least done / total, of equal ones the lower. -/
def pickChain (qs : List ChainQueue) : Option ChainQueue :=
  (qs.filter (fun q => q.entries != [])).foldl (fun acc q => match acc with
    | none => some q
    | some r => if q.done * r.total < r.done * q.total then some q else some r) none

/-- The tally of a tile. -/
def ScanFrame.tally (f : ScanFrame) (tile : Nat) : TileTally :=
  (f.tallies.find? (fun t => t.tile == tile)).getD (emptyTally tile)

/-- The view-frame with a burst counted. -/
def ScanFrame.count (f : ScanFrame) (c : Nat) (b : Burst) : ScanFrame :=
  let acc := ((f.chainAcc.find? (fun x => x.1 == c)).map (·.2)).getD crc32cInit
  { f with
    tallies := f.tallies.filter (fun t => t.tile != b.tile) ++ [(f.tally b.tile).add b]
    chainAcc := f.chainAcc.filter (fun x => x.1 != c) ++ [(c, crc32cMore acc (burstBytes b))] }

/-- A unit that an active sends on a chain port; a standby that renders in step sends nothing (R443). -/
def State.sendIfActive (s : State) (p : Nat) (u : LinkUnit) : State := if s.mode = .sender then s.send (.link p u) else s

/-- R240: FRAME_END to a tile. -/
def State.endTile (s : State) (f : ScanFrame) (tile : Nat) : State :=
  if s.mode = .sender then s.sendMsg (chainOf tile) tile (.frameEnd ((f.tally tile).frameEnd f.flip f.view)) [] else s

/-- R240: the tiles of a chain with a session and no entries in the view-frame. -/
def State.idleTiles (s : State) (f : ScanFrame) (c : Nat) : List Nat :=
  (s.chainTiles c).filter (fun t => !f.tallies.any (fun x => x.tile == t) && (!s.v1Tile t || s.lastKept == some f.view))

/-- R240: what follows the last burst of a chain. -/
def State.endChain (s : State) (f : ScanFrame) (c : Nat) : State :=
  (s.idleTiles f c).foldl (fun t tile => t.endTile f tile) s

/-- The record of a tap. -/
def State.tap (s : State) (t : Nat) : TapState :=
  ((s.scan.taps.find? (fun x => x.1 == t)).map (·.2)).getD ⟨[], 0, none, none, none⟩

/-- The state with a tap's record replaced. -/
def State.setTap (s : State) (t : Nat) (x : TapState) : State :=
  { s with scan := { s.scan with taps := s.scan.taps.filter (fun y => y.1 != t) ++ [(t, x)] } }

/-- R202: the enabled taps of a view. -/
def State.tapsOf (s : State) (view : Nat) : List Nat :=
  (List.range 6).filter (fun t => s.flag (F.CMP_MON_CTL_EN t) && s.fld (F.CMP_MON_CTL_VIEW t) == view)

/-- R202, R203: the codes that a tap takes for a canvas pixel. -/
def State.tapPixel (s : State) (t : Nat) (bg cx cy : Nat) : Nat :=
  (((s.tap t).codes.find? (fun p => p.1 == cy * 65536 + cx)).map (·.2)).getD bg

/-- R203: the canvas pixel of an output pixel inside the destination rectangle. -/
def State.tapSource (s : State) (t x y : Nat) : Option (Nat × Nat) :=
  let dx := s.fld (F.CMP_MON_DST_POS_DX t)
  let dy := s.fld (F.CMP_MON_DST_POS_DY t)
  let dw := s.fld (F.CMP_MON_DST_SIZE_DW t)
  let dh := s.fld (F.CMP_MON_DST_SIZE_DH t)
  if dx ≤ x ∧ x < dx + dw ∧ dy ≤ y ∧ y < dy + dh then
    some (s.fld (F.CMP_MON_SRC_POS_SX t) + (2 * (x - dx) + 1) * s.fld (F.CMP_MON_SRC_SIZE_SW t) / (2 * dw),
      s.fld (F.CMP_MON_SRC_POS_SY t) + (2 * (y - dy) + 1) * s.fld (F.CMP_MON_SRC_SIZE_SH t) / (2 * dh))
  else none

/-- R204: an output pixel of a tap as stored. -/
def State.tapWord (s : State) (t bg x y : Nat) : List Byte :=
  let at_ (x : Nat) : Nat := match s.tapSource t x y with
    | some (cx, cy) => s.tapPixel t bg cx cy
    | none => 0
  leBytes 4 (Config.tapCode [s.fld (F.CMP_MON_CTL_TF t), s.fld F.SDI_WORKSPACE_PEAK_NITS,
    s.fld F.SDI_WORKSPACE_SDR_WHITE_NITS, s.fld F.SDI_WORKSPACE_WORK_PRIM, s.fld (F.CMP_MON_CTL_SAMPLING t), x % 2,
    at_ x, at_ (x - x % 2)])

/-- R205: the base of a tap's buffer. -/
def State.tapBuffer (s : State) (t b : Nat) : Nat :=
  let r := tapRaster s.reg t
  4096 * s.fld (F.CMP_MON_BASE_ADDR t) + b * up4k (r.1 * r.2 * 4)

/-- R205: a tap takes a whole view-frame into its back buffer, where DIV selects it. -/
def State.tapStore (s : State) (f : ScanFrame) (t : Nat) : State :=
  let x := s.tap t
  if f.alive % tapDiv s.reg t = 0 then
    let r := tapRaster s.reg t
    let bg := (s.background f.view).codes
    let s1 := (List.range r.2).foldl (fun u y =>
      u.pourMem (s.tapBuffer t (1 - x.front) + y * r.1 * 4)
        ((List.range r.1).flatMap (fun px => s.tapWord t bg px y))) s
    s1.setTap t { x with codes := [], ready := some f.alive }
  else s.setTap t { x with codes := [] }

/-- R144, R187, R212: a view-frame has been sent whole. -/
def State.scanEnds (s : State) (f : ScanFrame) : State :=
  let us := (s.cycles - f.latchAt) / 500
  let s1 := (s.setFlag (F.CMP_VIEW_STAT_SENT f.view) true).setFlag (F.CMP_VIEW_STAT_LATE f.view) false
  let s2 := (s1.setFld (F.CMP_VIEW_SCAN_SCAN_US f.view) (min us 0xFFFF)).setFld F.CMP_RENDER_CYCLES f.cycles
  let s3 := (s2.setFlag F.CMP_STAT_BUSY false).setFrame (some { f with whole := true })
  let s4 := (s3.tapsOf f.view).foldl (fun t k => t.tapStore f k) s3
  ({ s4 with video := { s4.video with held := [] } } : State).vfEnds f

/-- R200: when nothing is left to send, the view-frame is whole. -/
def State.checkEnd (s : State) (f : ScanFrame) : State :=
  if f.cur.isNone && (pickChain f.queues).isNone then s.scanEnds f else s.setFrame (some f)

/-- FLIP_REPEAT (R239): the second copy of FLIP, 1 µs after the first. The tiles of chains with nothing to send get
their FRAME_END. -/
def execFlipRepeat (s : State) : Host.Outcome State Fault Refusal :=
  .next (match s.scan.frame with
    | none => s
    | some f =>
      if f.copies = 1 ∧ f.late = false ∧ s.mode = .sender then
        let s1 := s.untilCycle (f.copyAt + usCycles 1)
        let s2 := s1.repeatAll (.flip (s1.frameFlip f))
        let s3 := (f.queues.filter (fun q => q.entries == [])).foldl (fun t q => t.endChain f q.chain) s2
        s3.checkEnd { f with copies := 2 }
      else s)

/-- R191, R221: the canvas pixels of a footprint row. -/
def State.rowPixels (s : State) (e row : Nat) : List (Nat × Nat) :=
  let b := s.map.active
  let y := ((mapFld b e 2 15 0 : Nat) : Int) + warpAt s.reg b e 512 row
  (List.range (footprint b e).1).map (fun x =>
    ((((mapFld b e 2 31 16 : Nat) : Int) + warpAt s.reg b e 0 x).toNat, y.toNat))

/-- R223: the span of a region in a run. -/
def spanIn (r : GntRegion) (ps : List (Nat × Nat)) : Span :=
  let hit := (ps.zipIdx).filter (fun p => decide (r.x ≤ p.1.1 ∧ p.1.1 < r.x + r.w ∧ r.y ≤ p.1.2 ∧ p.1.2 < r.y + r.h))
  match hit with
  | [] => ⟨false, 0, 0⟩
  | p :: _ => ⟨true, p.2, hit.length⟩

/-- R223: the spans of a run; none where it meets no enabled region. -/
def spansOf (rs : List GntRegion) (ps : List (Nat × Nat)) : Option (List Span) :=
  let l := (List.range 4).map (fun k =>
    match rs.find? (fun r => r.slot == 60 + k) with
    | some r => spanIn r ps
    | none => ⟨false, 0, 0⟩)
  if l.any (·.valid) then some l else none

/-- R142, R159: the pixels of a run rendered left to right, with the count of those filled. -/
def State.renderRun (s : State) (view : Nat) (rs : List GntRegion) (ps : List (Nat × Nat)) : State × List Nat × Nat :=
  let (f, codes, fill) := ps.foldl (fun (acc : Fetch × List Nat × Nat) p =>
    let (g, c, bad) := acc.1.pixel view rs p.1 p.2
    (g, acc.2.1 ++ [c], acc.2.2 + bad.toNat)) (Fetch.mk s [], [], 0)
  (f.s, codes, fill)

/-- R202: the taps of a view take the pixels of a run. -/
def State.tapRun (s : State) (view : Nat) (ps : List (Nat × Nat)) (codes : List Nat) : State :=
  (s.tapsOf view).foldl (fun t k =>
    let x := t.tap k
    t.setTap k { x with codes := (ps.zip codes).foldl (fun l p =>
      Sparse.insert (Sparse.erase l (p.1.2 * 65536 + p.1.1)) (p.1.2 * 65536 + p.1.1) p.2) x.codes }) s

/-- R200: the module whose turn it is, with its chain and next row; the view-frame with it taken from its queue. -/
def ScanFrame.turn (f : ScanFrame) : Option (Nat × Nat × Nat × ScanFrame) :=
  match f.cur with
  | some (c, e, row) => some (c, e, row, f)
  | none =>
    match pickChain f.queues with
    | none => none
    | some q =>
      match q.entries with
      | [] => none
      | e :: rest => some (q.chain, e, 0, { f with queues := f.queues.map (fun r =>
          if r.chain = q.chain then { r with entries := rest } else r) })

/-- R200, R240: a module has been sent: its pixels are done, and FRAME_END follows a tile's last burst. -/
def State.moduleSent (s : State) (f : ScanFrame) (c e : Nat) : State :=
  let tile := mapFld s.map.active e 0 15 0
  let f1 := { f with cur := none, queues := f.queues.map (fun q =>
    if q.chain = c then { q with done := q.done + s.entryPixels e } else q) }
  let rest := (f1.queues.filter (fun q => q.chain == c)).flatMap (·.entries)
  let s1 := if rest.any (fun o => mapFld s.map.active o 0 15 0 == tile) then s else s.endTile f1 tile
  let s2 := if rest.isEmpty then s1.endChain f1 c else s1
  s2.checkEnd f1

/-- R145, R200, R221: the next run is rendered and sent as one pixel burst; `stalls` are the stall cycles it met. -/
def State.scanBurst (s : State) (f : ScanFrame) (stalls : Nat) : State :=
  match f.turn with
  | none => s
  | some (c, e, row, f0) =>
    let b := s.map.active
    let ps := s.rowPixels e row
    let (s1, codes, fill) := s.renderRun f.view f.regions ps
    let spans := if s.v1Tile (mapFld b e 0 15 0) then none else spansOf f.regions ps
    let u : Burst := ⟨f.view, ps.length, row, mapFld b e 1 31 24, mapFld b e 0 15 0, f.flip % 2 ^ 32, f.gen,
      claimTag s.claim, spans, codes⟩
    let s2 := ((s1.sendIfActive c (.burst u)).tapRun f.view ps codes).bumpBy F.CMP_STALL_CNT_CYCLES stalls
    let s3 := s2.setFld (F.CMP_VIEW_FILL_PIXELS f.view) (f0.fill + fill)
    let f1 := { (f0.count c u) with
      cur := some (c, e, row + 1), cycles := f0.cycles + (ps.length + 15) / 16 + stalls, fill := f0.fill + fill,
      lastBurst := s3.cycles }
    if row + 1 < (footprint b e).2 then s3.setFrame (some f1) else s3.moduleSent f1 c e

/-- SCAN_OUT_BURST (R200). A standby renders in step while WARM (R443). -/
def execScanOutBurst (stalls : Nat) (s : State) : Host.Outcome State Fault Refusal :=
  .next (match s.scan.frame with
    | none => s
    | some f =>
      if f.whole || f.late || s.cuffIsOpen f.flip then s
      else if s.mode = .sender ∧ f.copies = 2 then s.scanBurst f stalls
      else if s.mode = .standby ∧ s.flag F.RED_STAT_WARM = true then s.scanBurst f stalls
      else s)

/-- R187: the Cuff of a flip opens before the last burst of its view-frame has been sent. -/
def State.scanLate (s : State) (n : Nat) : State :=
  match s.scan.frame with
  | none => s
  | some f =>
    if f.flip = n ∧ f.whole = false ∧ f.late = false ∧ s.mode = .sender then
      let s1 := ((s.setFrame (some { f with late := true })).bump (F.CMP_VIEW_STAT_LATE_COUNT f.view)).event
        F.CMP_SCAN_EVT_SCAN_LATE
      let s2 := (s1.setFlag (F.CMP_VIEW_STAT_LATE f.view) true).setFlag (F.CMP_VIEW_STAT_SENT f.view) false
      let s3 := (s2.setFlag F.CMP_STAT_BUSY false).setFld F.CMP_RENDER_CYCLES f.cycles
      { s3 with video := { s3.video with held := [] } }
    else s

/-! The latch (R101, R162, R167, R183) -/

/-- R101: every source's newest complete buffer is held for the scan-out. -/
def State.holdSources (s : State) : State :=
  { s with video := { s.video with held := (List.range 16).filterMap (fun i => (s.src i).newest.map (fun n => (i, n.2))) } }

/-- R443: the sources that a view reads, with the wall times at which their buffers became complete. -/
def State.readTimes (s : State) (view : Nat) : List (Nat × Nat) :=
  let used := ((layersOf s.reg view).filter (fun k => s.fld (F.CMP_LAYER_CTL_KIND view k) == 0)).map
    (fun k => s.fld (F.CMP_LAYER_CTL_SRC view k))
  (s.video.held.filter (fun h => used.contains h.1)).map (fun h => (h.1, h.2.doneAt))

/-- CLK_CORE cycles at 1.2 GHz as CLK_TIME cycles, rounded up. -/
def coreCycles (n : Nat) : Nat := (n * 5 + 11) / 12

/-- R167: the alive count of the next view-frame of a view. -/
def State.nextAlive (s : State) (v : Nat) : Nat := (s.viewSeq v).elim 0 (fun q => (q.alive + 1) % 65536)

/-- R167, R183: the sender latches the view-frame due at flip m. -/
def State.latchFrame (s : State) (m : Nat) : State :=
  let v := s.viewOfFlip m
  let s1 := (s.latchFences v).holdSources
  let (s2, pass) := s1.gauntletPass v
  let alive := s2.nextAlive v
  let g := (pass.area + 15) / 16
  let q : ViewSeq := ⟨alive, pass.guardBits, pass.rcheck⟩
  let s3 := { s2 with scan := { s2.scan with views := s2.scan.views.filter (fun (x : Nat × ViewSeq) => x.1 != v) ++ [(v, q)] } }
  let s4 := ((s3.setFld (F.CMP_VIEW_ALIVE_ALIVE v) alive).setFld (F.CMP_VIEW_FILL_PIXELS v) pass.fill).setFld F.CMP_STAT_VIEW v
  (s4.setFlag F.CMP_STAT_BUSY true).setFrame (some
    ⟨v, m, s4.fld F.CMP_MAP_STAT_ACTIVE_GEN, alive, s4.cycles, s4.wall, s4.cycles + coreCycles g, 0, 0, s4.cycles,
      pass.guardBits, pass.rcheck, pass.regions, (List.range 8).map (s4.chainQueue v), none, [], [], s4.readTimes v, g,
      pass.fill, false, false⟩)

/-- R183, R207, R239: what the sender does at flip n once settings are in force: at a latch the shed set is recomputed and
the next sent view-frame latched; FLIP for a shed view goes at the flip before it. -/
def State.senderLatch (s : State) (n : Nat) : State :=
  let v := s.viewOfFlip n
  let s1 :=
    if s.shed v || !s.flag (F.CMP_VIEW_CTL_EN v) then s
    else
      let t := s.latchDiv.latchShed
      match t.nextSent n with
      | some m => t.latchFrame m
      | none => t
  s1.sendShedFlip (n + 1)

/-! Monitoring outputs at a flip (R205) -/

/-- R205: a tap at a flip of its view: a new frame, or the previous one again. -/
def State.tapFlip (s : State) (n t : Nat) : State :=
  let x := s.tap t
  let v := s.viewOfFlip n
  match s.scan.frame with
  | some f =>
    if f.flip = n ∧ f.whole = true ∧ f.alive % tapDiv s.reg t = 0 then
      ((s.setTap t { x with front := 1 - x.front, ready := none, shown := some f.alive }).wrapInc
        (F.CMP_MON_STAT_FRAME_COUNT t)).send (.tapFrame t (some f.alive) false)
    else
      let due := if f.flip = n then f.late && f.alive % tapDiv s.reg t == 0
        else s.shed v && s.nextAlive v % tapDiv s.reg t == 0
      if due then
        (((s.wrapInc (F.CMP_MON_STAT_FRAME_COUNT t)).bump (F.CMP_MON_STAT_REPEAT_COUNT t)).event
          F.CMP_SCAN_EVT_MON_REPEAT).send (.tapFrame t x.shown true)
      else s
  | none => s

/-- R134: the RTP time stamp of a wall time. -/
def rtpTime (w : Nat) : Nat := w / nsUnit * 90000 / 10 ^ 9 % 2 ^ 32

/-- R134, R205: a tap that feeds a network flow begins to send its frame. -/
def State.startFlow (s : State) (n t : Nat) : State :=
  if 2 ≤ t ∧ s.flag (F.NET_MON_CTL_EN ((t - 2) / 2) (t % 2)) = true then
    s.setTap t { s.tap t with packet := some (0, 0, rtpTime (s.senderFlipTime n)) }
  else s

/-- R205: the taps at flip n. -/
def State.tapFlips (s : State) (n : Nat) : State :=
  if s.mode = .sender then
    (s.tapsOf (s.viewOfFlip n)).foldl (fun t k =>
      let u := t.tapFlip n k
      if u.fld (F.CMP_MON_STAT_FRAME_COUNT k) = t.fld (F.CMP_MON_STAT_FRAME_COUNT k) then u else u.startFlow n k) s
  else s

/-! The Module Map (R196, R199) -/

/-- R195, R199: the entries of the staging bank that break a rule, sessions apart (those R198 skips). -/
def State.badEntries (s : State) : List Nat :=
  (mapEntries s.map.staging).filter (entryFails { s with regs := [] } s.reg s.map.staging)

/-- R196, R199: the staging bank becomes active, and the copy begins. Entries that break a rule, which only a COMMIT_ALL
can publish, are skipped. -/
def State.swapMap (s : State) : State :=
  let bad := s.badEntries
  let s0 := if bad.isEmpty then s else s.event F.CMP_SCAN_EVT_MAP_REJ
  let s1 := { s0 with map := { active := s0.map.staging, staging := s0.map.active },
                      scan := { s0.scan with rejected := bad, copyFrom := some s0.cycles } }
  (s1.setFld F.CMP_MAP_STAT_ACTIVE_GEN (s1.fld F.CMP_MAP_CTL_GEN)).setFlag F.CMP_MAP_STAT_COPY_BUSY true

/-- MAP_COPY_DONE (R196). -/
def execMapCopyDone (s : State) : Host.Outcome State Fault Refusal :=
  .next (if s.flag F.CMP_MAP_STAT_COPY_BUSY then
    let s1 := { s with map := { s.map with staging := s.map.active }, scan := { s.scan with copyFrom := none } }
    ((s1.setFlag F.CMP_MAP_STAT_COPY_BUSY false).setFlag F.CMP_MAP_STAT_PENDING false).event F.CMP_SCAN_EVT_MAP_SWAP
  else s)

/-! Settings -/

/-- R167: a disabled view starts its alive count again when it is enabled. -/
def State.reactViews (s : State) : State :=
  { s with scan := { s.scan with views := s.scan.views.filter (fun (x : Nat × ViewSeq) => s.flag (F.CMP_VIEW_CTL_EN x.1)) } }

/-- R171: CMP_BUDGET after a change of settings. -/
def State.reactReads (s : State) : State :=
  let unit := s.flipDen * seqLen s.reg * 4 * 1000000
  s.setFld F.CMP_BUDGET_READ_MBPS ((readRateScaled s.reg + unit - 1) / unit)

/-- What the compositor follows after a change of settings (R70, R167, R171, R196). -/
def State.reactCompositor (before s : State) (chs : List Change) : State :=
  if s.tileRole then s
  else
    let s1 := State.reactFences before s
    let s2 := s1.reactViews.reactReads
    if publishesMap chs ∧ s2.fld F.CMP_MAP_CTL_GEN ≠ s2.fld F.CMP_MAP_STAT_ACTIVE_GEN then s2.swapMap else s2

/-! Memory retraining (R471) -/

/-- RETRAIN (R471): on a sender, a channel is retrained between the last burst of a view-frame and the next latch, where
50 µs or more lie between them. -/
def execRetrain (channel : Nat) (s : State) : Host.Outcome State Fault Refusal :=
  let free := s.tileRole || s.scan.frame.elim true (fun f =>
    (f.whole || f.late) && decide (s.wall + ofUs 50 ≤ s.flipTime s.nextFlip))
  .next (if free then s.startRetrain channel else s)

end Sys2Proof.Machine
end

