-- ==== Sys2Proof/Machine/Link.lean ====
section
/-! DEFINITION. Moltin Link: receiving, segment bring-up, enumeration, tile sessions, acknowledgements, time transfer,
status and fault messages, and errors (R216 to R271). -/

namespace Sys2Proof.Machine

/-! Receiving (R220, R227, R228, R253, R257) -/

/-- The other port of a tile. -/
def otherPort (p : Nat) : Nat := 1 - p

/-- A message that a tile relays from a port, where the other segment is UP (R257). -/
def State.relayMsg (s : State) (m : MsgHdr) (b : LinkMsg) : State :=
  if s.portUp (otherPort m.port) then s.send (.relay (otherPort m.port) (.msg m.dst m.ackReq m.retry b)) else s

/-- R220: whether a message is for this device. -/
def State.isForMe (s : State) (dst : Nat) : Bool :=
  if s.tileRole then dst == s.ownAddr || dst == 0xFFFF
  else
    dst == 0x8000 + s.fld F.RED_STAT_RANK || dst == 0x8003 || (dst == 0x8002 && s.mode == .sender)

/-- R257: whether a tile relays a message to an address. -/
def State.relays (s : State) (dst : Nat) : Bool := s.tileRole && dst != s.ownAddr

/-- R253: a unit that a tile discards because its claim tag is not that of the highest claim. -/
def State.wrongClaim (s : State) (src tag : Nat) : Bool :=
  s.tileRole && (src == 0x8000 || src == 0x8001) && (!s.flag F.MLK_CLAIM_SEEN || tag != claimTag s.claim)

/-- R253: a discarded unit is counted. -/
def State.claimDiscard (s : State) : State :=
  let s1 := s.eventCount F.MLK_EVT_CLAIM_DISC F.MLK_DISC_CNT_CLAIM_DISC_COUNT
  { s1 with link := { s1.link with discSince := s1.link.discSince + 1 } }

/-- R228: a message number of a source has been seen. -/
def State.seenSeq (s : State) (src n : Nat) : Bool :=
  s.link.seen.any (fun x => x.src == src && x.seqs.contains n)

/-- R228: a message number is kept among the last 64 of its source. -/
def State.keepSeq (s : State) (src n : Nat) : State :=
  let old := ((s.link.seen.find? (fun x => x.src == src)).map (·.seqs)).getD []
  { s with link := { s.link with seen := s.link.seen.filter (fun x => x.src != src) ++ [⟨src, (n :: old).take 64⟩] } }

/-- R228: a source's RESTARTS; a change clears its record. -/
def State.noteRestarts (s : State) (src n : Nat) : State :=
  if s.link.sessSeen.contains (src, n) then s
  else
    let old := s.link.sessSeen.any (fun x => x.1 == src)
    { s with link := { s.link with
        sessSeen := s.link.sessSeen.filter (fun x => x.1 != src) ++ [(src, n)]
        seen := if old then s.link.seen.filter (fun x => x.src != src) else s.link.seen } }

/-- R228: a sender reads RESTARTS of a tile's TILE_INFO or TILE_STATUS before it looks the message up in the tile's record. -/
def State.tileRestarts (s : State) (m : MsgHdr) (tile n : Nat) : State :=
  if s.senderRole && s.portUp m.port && m.checkOk && decide (tile < 0x8000) then s.noteRestarts tile n else s

/-- R230: an acknowledgement goes back where the message came from. -/
def State.ackMsg (s : State) (m : MsgHdr) (x : Status) : State :=
  if m.ackReq then s.sendMsg m.port m.src (.ack m.seq x.code) [] else s

/-- A valid block has arrived on a port (R233). -/
def State.blockSeen (s : State) (p : Nat) : State := s.setPort p { s.port p with lastBlock := s.cycles }

/-- R227, R228, R253, R257: a message arrives. `exempt` marks the types that no claim check touches; `act` is what the device
does with a message for it, and gives the status of its acknowledgement. -/
def State.receive (s : State) (m : MsgHdr) (b : LinkMsg) (exempt : Bool) (act : State → State × Status) : State :=
  if !s.portUp m.port then s
  else
    let s0 := s.blockSeen m.port
    if !m.checkOk then s0.eventCount F.MLK_EVT_CRC_ERR F.MLK_DISC_CNT_CRC_ERR_COUNT
    else
      let s1 := if s0.relays m.dst then s0.relayMsg m b else s0
      if !s1.isForMe m.dst then s1
      else if !exempt && s1.wrongClaim m.src m.claimTag then s1.claimDiscard
      else if s1.seenSeq m.src m.seq then s1.ackMsg m .ok
      else
        let (s2, x) := act (s1.keepSeq m.src m.seq)
        s2.ackMsg m x

/-- A message whose effect has no status of its own. -/
def State.receiveOk (s : State) (m : MsgHdr) (b : LinkMsg) (exempt : Bool) (act : State → State) : State :=
  s.receive m b exempt (fun t => (act t, .ok))

/-! TILE_INFO, claims (R237, R253) -/

/-- R304: the views that a tile holds. -/
def viewsHeldOf (pixels : Nat) : Nat := if pixels = 0 then 8 else min 8 (524288 / pixels)

/-- R231: CAPS: the views held less 1, GNT, BARRIER and SNAPSHOT. -/
def capsOf (held : Nat) : Nat := (held - 1) % 8 + 8 + 16 + 32

/-- R231: the firmware version that a device reports. -/
def State.reportedFw (s : State) : Nat :=
  match s.mode with
  | .boot | .mitten | .factory => 0
  | _ => s.fld F.SYS_FW_VER_FW_VER

/-- R22, R304: what a tile says of itself. -/
def State.tileInfo (s : State) : TileInfo :=
  let w := s.fld F.TIL_GEOM_W
  let h := s.fld F.TIL_GEOM_H
  let held := viewsHeldOf (w * h)
  ⟨s.ownAddr, w, h, if s.flag F.TIL_GEOM_LAMPS4 then 4 else 3, held, s.reportedFw, capsOf held, s.mode.code, s.fld F.MLK_CTL_VMAX,
    (ctxsOn (fun a => some (s.reg a))).length, s.rst.restarts⟩

/-- R237: a tile sends TILE_INFO. -/
def State.sendTileInfo (s : State) : State := if s.tileRole then s.sendBoth (.tileInfo s.tileInfo) else s

/-- R33, R253: a tile sees a claim. One that outranks the highest becomes the highest, and its port the active port; where
the active port's segment is not UP, the highest claim itself makes the port on which it arrives the active one. -/
def State.tileClaim (s : State) (c : Claim) (port : Nat) : State :=
  let new := !s.flag F.MLK_CLAIM_SEEN || outranks c s.claim
  let moved := c == s.claim && port != s.activePort && !s.portUp s.activePort
  if new then
    let s1 := ((s.setFld F.MLK_CLAIM_EPOCH_EPOCH c.epoch).setFld F.MLK_CLAIM_RANK c.rank).setFlag F.MLK_CLAIM_SEEN true
    let s2 := (s1.event F.MLK_EVT_CLAIM_NEW).setFld F.MLK_STAT_ACTIVE_PORT port
    if s.activePort = port then s2 else s2.sendTileInfo
  else if moved then (s.setFld F.MLK_STAT_ACTIVE_PORT port).sendTileInfo
  else s

/-! Bring-up (R231 to R233) -/

/-- The versions that the device offers. -/
def State.versions (s : State) : Nat := if s.fld F.MLK_CTL_VMAX = 2 then 3 else 1

/-- R232: the highest version that two offers share; 0 where there is none. -/
def commonVersion (a b : Nat) : Nat :=
  if a / 2 % 2 = 1 ∧ b / 2 % 2 = 1 then 2 else if a % 2 = 1 ∧ b % 2 = 1 then 1 else 0

/-- R232: the pairings that are allowed. -/
def State.pairingOk (s : State) (port : Nat) (h : Hello) : Bool :=
  if s.tileRole then h.kind == 1 || h.port == 1 - port else h.kind == 0 && decide (h.port < 2)

/-- R232: a HELLO is valid. -/
def State.helloValid (s : State) (p : Nat) (h : Hello) : Bool :=
  commonVersion s.versions h.versions != 0 && h.rate == s.fld (F.MLK_PORT_CTL_RATE p) &&
  h.lanes == s.fld (F.MLK_PORT_STAT_LANES_UP p) && s.pairingOk p h

/-- R233: the state of a port changes. -/
def State.setPortMode (s : State) (p v : Nat) : State :=
  (s.setFld (F.MLK_PORT_STAT_STATE p) v).setPort p { s.port p with since := s.cycles, lastHello := s.cycles, helloOk := false, ackOk := false }

/-- R235: the sender numbers a chain. -/
def State.numberChain (s : State) (p : Nat) : State :=
  let s1 := (s.setFld (F.MLK_PORT_STAT_TILES p) 0).setPort p { s.port p with far := false }
  s1.sendMsg p 0xFFFF (.enumerate (s1.fld F.MLK_CTL_DOMAIN) p 0 1) []

/-- R233, R235, R236: a segment is UP. An active at the far end of a ring that its partner has numbered sends the returning
pass. -/
def State.portComesUp (s : State) (p : Nat) : State :=
  let s1 := (s.setFld (F.MLK_PORT_STAT_STATE p) 2).setPort p { s.port p with since := s.cycles, lastBlock := s.cycles }
  if s1.mode == .sender then
    if (s1.port p).far then
      s1.sendMsg p 0xFFFF (.enumerate (s1.fld F.MLK_CTL_DOMAIN) p ((s1.fld (F.MLK_PORT_STAT_TILES p) + 255) % 256) 0xFF) []
    else s1.numberChain p
  else s1

/-- R233: a segment goes DOWN. -/
def State.portDown (s : State) (p : Nat) : State := s.setPortMode p 0

/-- R233: a segment in HELLO with both a valid HELLO and a HELLO_ACK is UP. -/
def State.checkHello (s : State) (p : Nat) : State :=
  if s.fld (F.MLK_PORT_STAT_STATE p) = 1 ∧ (s.port p).helloOk = true ∧ (s.port p).ackOk = true then s.portComesUp p else s

/-- R269: what a partner is. -/
def partnerCode (h : Hello) : Nat := if h.part = 0x6400 then 3 else if h.kind = 1 then 2 else 1

/-- R232, R233: a HELLO in HELLO. -/
def State.takeHello (s : State) (p : Nat) (h : Hello) : State :=
  if s.helloValid p h then
    let v := commonVersion s.versions h.versions
    let s1 := s.setPort p { s.port p with helloOk := true, lastHello := s.cycles }
    let s2 := ((s1.setFld (F.MLK_PORT_STAT_VERSION p) v).setFld (F.MLK_PORT_STAT_PARTNER p) (partnerCode h)).setFld
      (F.MLK_PORT_PARTNER_ID_PART p) h.part
    let s3 := (s2.setFld (F.MLK_PORT_PARTNER_ID_ADDR p) h.addr).send (.link p (.msg h.addr false false (.helloAck v)))
    s3.checkHello p
  else
    let s1 := (s.setPortMode p 3).event F.MLK_EVT_HELLO_FAIL
    if s1.tileRole then s1.fault 1 3 [] else s1

/-- R233: a HELLO arrives. In UP the partner has restarted. -/
def State.hello (s : State) (m : MsgHdr) (h : Hello) : State :=
  let p := m.port
  if m.checkOk then
    match s.fld (F.MLK_PORT_STAT_STATE p) with
    | 1 => (s.blockSeen p).takeHello p h
    | 2 => (s.setPortMode p 1).takeHello p h
    | _ => s
  else s.eventCount F.MLK_EVT_CRC_ERR F.MLK_DISC_CNT_CRC_ERR_COUNT

/-- HELLO (R231). -/
def execHello (m : MsgHdr) (b : Hello) (s : State) : Host.Outcome State Fault Refusal :=
  .next (if s.portList.contains m.port then s.hello m b else s)

/-- HELLO_ACK (R233). -/
def execHelloAck (m : MsgHdr) (version : Nat) (s : State) : Host.Outcome State Fault Refusal :=
  .next (if s.portList.contains m.port then
    if m.checkOk then
      if s.fld (F.MLK_PORT_STAT_STATE m.port) = 1 ∧ 1 ≤ version ∧ version ≤ 2 then
        ((s.blockSeen m.port).setPort m.port { s.port m.port with ackOk := true }).checkHello m.port
      else s
    else s.eventCount F.MLK_EVT_CRC_ERR F.MLK_DISC_CNT_CRC_ERR_COUNT
  else s)

/-- R231: the HELLO that a device sends on a port. -/
def State.ownHello (s : State) (p : Nat) : Hello :=
  ⟨0x9720, 0xB1, s.senderRole.toNat, s.versions, p, s.fld (F.MLK_PORT_CTL_RATE p), s.fld (F.MLK_PORT_STAT_LANES_UP p),
    s.mode.code, s.ownAddr, 4096, s.reportedFw, if s.tileRole then s.tileInfo.caps else capsOf 8,
    if s.senderRole then s.fld F.RED_EPOCH_EPOCH else 0, if s.senderRole then s.fld F.RED_STAT_RANK else 0⟩

/-- HELLO_SEND (R233): a port in HELLO sends HELLO every 100 µs. -/
def execHelloSend (port : Nat) (s : State) : Host.Outcome State Fault Refusal :=
  .next (if s.portList.contains port ∧ s.fld (F.MLK_PORT_STAT_STATE port) = 1 then
    let x := s.port port
    let s1 := s.untilCycle (if x.sentHello < x.since then x.since else x.sentHello + usCycles 100)
    (s1.setPort port { s1.port port with sentHello := s1.cycles }).send
      (.link port (.msg 0xFFFE false false (.hello (s1.ownHello port))))
  else s)

/-- HELLO_FAIL_EXPIRY (R233): after 100 ms a port tries again. -/
def execHelloFailExpiry (port : Nat) (s : State) : Host.Outcome State Fault Refusal :=
  .next (if s.portList.contains port ∧ s.fld (F.MLK_PORT_STAT_STATE port) = 3 then
    (s.untilCycle ((s.port port).since + msCycles 100)).setPortMode port 1
  else s)

/-- SEGMENT_SILENCE (R233): 1 ms with no valid block. -/
def execSegmentSilence (port : Nat) (s : State) : Host.Outcome State Fault Refusal :=
  .next (if s.portList.contains port ∧ s.portUp port = true then
    (s.untilCycle ((s.port port).lastBlock + msCycles 1)).portDown port
  else s)

/-! Enumeration (R235, R236) -/

/-- R264: H and the lead time after a chain's count. -/
def State.updateLead (s : State) : State :=
  let h := ((List.range 8).map (fun c => s.fld (F.MLK_PORT_STAT_TILES c))).foldl max 0
  (s.setFld F.MLK_LEAD_HOPS h).setFld F.MLK_LEAD_LEAD_100NS (500 + 4 * h)

/-- R236: a tile acts on ENUMERATE. -/
def State.tileEnumerate (s : State) (domain chain value : Nat) : State :=
  let addr := domain % 64 * 512 + chain % 8 * 64 + value
  if s.flag F.MLK_STAT_ADDR_VALID then
    if value < 64 ∧ s.fld F.MLK_STAT_ADDR = addr then s
    else (s.event F.MLK_EVT_SLOT_MISMATCH).fault 1 1 []
  else if value < 64 then
    ((s.setFld F.MLK_STAT_ADDR addr).setFlag F.MLK_STAT_ADDR_VALID true).setFld F.MLK_CTL_DOMAIN domain
  else s

/-- R236: a sender receives a numbering pass: from the other end with STEP 0x01, or its own return with STEP 0xFF. -/
def State.senderEnumerate (s : State) (p chain value step : Nat) : State :=
  let s0 := s.setFlag (F.MLK_PORT_STAT_RING p) true
  if step = 1 then
    let s1 := if chain = p then s0 else s0.event F.MLK_EVT_RING_MISCABLE
    let s2 := if value > 64 then s1.event F.MLK_EVT_CHAIN_LEN else s1
    let s3 := ((s2.setFld (F.MLK_PORT_STAT_TILES p) (min value 64)).setPort p { s2.port p with far := true }).updateLead
    s3.sendMsg p 0xFFFF (.enumerate (s3.fld F.MLK_CTL_DOMAIN) chain ((value + 255) % 256) 0xFF) []
  else s0

/-- R235, R236: ENUMERATE arrives. A tile holds it whole and relays it with VALUE + STEP. -/
def State.enumerateMsg (s : State) (m : MsgHdr) (domain chain value step : Nat) : State :=
  if !s.portUp m.port then s
  else if !m.checkOk then s.eventCount F.MLK_EVT_CRC_ERR F.MLK_DISC_CNT_CRC_ERR_COUNT
  else if s.seenSeq m.src m.seq then s.blockSeen m.port
  else
    let s1 := (s.blockSeen m.port).keepSeq m.src m.seq
    if s1.tileRole then
      let s2 := (s1.tileEnumerate domain chain value).relayMsg m (.enumerate domain chain ((value + step) % 256) step)
      s2.sendTileInfo
    else s1.senderEnumerate m.port chain value step

/-- ENUMERATE (R236). -/
def execEnumerate (m : MsgHdr) (domain chain value step : Nat) (s : State) : Host.Outcome State Fault Refusal :=
  .next (if s.portList.contains m.port then s.enumerateMsg m domain chain value step else s)

/-! Tile sessions (R238, R261, R262, R270) -/

/-- R262: what a tile that opens its session gets: its module table, and every setting addressed to it with IMMEDIATE in
journal order. -/
def State.resync (s : State) (tile : Nat) : State :=
  let s1 := (tableMsgs (s.fld F.CMP_MAP_STAT_ACTIVE_GEN) (tileTable s.map.active tile)).foldl (fun t m => t.sendTile tile m) s
  let s2 := (s1.txn.tileSettings.filter (fun x => forTile tile x.2.2)).foldl (fun t x =>
    (setMsgs x.1 true x.2.1 0 x.2.2).foldl (fun u m => u.sendTile tile (.set m)) t) s1
  s2.setFlag (F.MLK_SESS_STAT_RESYNC (sessionOf tile)) false

/-- R198: a tile's entries that do not fit it are skipped. -/
def State.noteSkips (s : State) (tile : Nat) : State :=
  let n := sessionOf tile
  let b := s.map.active
  if (mapEntries b).any (fun e => mapFld b e 0 15 0 == tile &&
      (decide (mapFld b e 3 31 16 + mapFld b e 4 31 16 > s.fld (F.MLK_SESS_GEOM_W n)) ||
       decide (mapFld b e 3 15 0 + mapFld b e 4 15 0 > s.fld (F.MLK_SESS_GEOM_H n)))) then
    s.event F.CMP_SCAN_EVT_MAP_SKIP
  else s

/-- R270: the session registers from TILE_INFO. -/
def State.sessionRegs (s : State) (n : Nat) (i : TileInfo) : State :=
  let s1 := ((s.setFld (F.MLK_SESS_STAT_MODE n) i.mode).setFld (F.MLK_SESS_STAT_VERSION n)
    (min i.vmax (s.fld F.MLK_CTL_VMAX))).setFld (F.MLK_SESS_STAT_VIEWS_HELD n) i.viewsHeld
  let s2 := (((s1.setFld (F.MLK_SESS_GEOM_W n) i.w).setFld (F.MLK_SESS_GEOM_H n) i.h).setFld (F.MLK_SESS_INFO_LAMPS n)
    i.lamps).setFld (F.MLK_SESS_INFO_DRIVERS n) i.drivers
  (s2.setFld (F.MLK_SESS_FW_VER_FW_VER n) i.fwVer).setFld (F.MLK_SESS_CAPS_CAPS n) i.caps

/-- The cycle of a session's last TILE_STATUS is now. -/
def State.statusNow (s : State) (n : Nat) : State :=
  { s with link := { s.link with status := s.link.status.filter (fun x => x.1 != n) ++ [(n, s.cycles)] } }

/-- R238: TILE_INFO from a numbered tile of the sender's domain opens its session. -/
def State.openSession (s : State) (p : Nat) (i : TileInfo) : State :=
  let n := sessionOf i.addr
  let was := s.flag (F.MLK_SESS_STAT_OPEN n)
  let s1 := (s.sessionRegs n i).setFlag (F.MLK_SESS_STAT_OPEN n) true
  let s2 := (s1.setFld (F.MLK_PORT_STAT_TILES p) (max (s1.fld (F.MLK_PORT_STAT_TILES p)) (i.addr % 64 + 1))).updateLead
  let ready := s.mode == .sender && s.red.restore.isNone
  if was then
    if ready && s2.flag (F.MLK_SESS_STAT_RESYNC n) then s2.resync i.addr else s2
  else
    let s3 := ((s2.event F.MLK_EVT_SESSION_UP).statusNow n).noteSkips i.addr
    let s4 := s3.append (.session n true i)
    if ready then s4.resync i.addr else s4

/-- R30, R236, R238: TILE_INFO at a sender. One without a slot is beyond the 64th. -/
def State.tileInfoMsg (s : State) (p : Nat) (i : TileInfo) : State :=
  if i.addr < 0x8000 then
    if i.addr / 512 = s.fld F.MLK_CTL_DOMAIN then s.openSession p i else s
  else if i.addr = 0xFFFE ∧ s.fld (F.MLK_PORT_STAT_TILES p) = 64 then s.event F.MLK_EVT_CHAIN_LEN
  else s

/-- R238: a session closes. -/
def State.closeSession (s : State) (n : Nat) : State :=
  let s1 := (s.setFlag (F.MLK_SESS_STAT_OPEN n) false).event F.MLK_EVT_SESSION_DOWN
  s1.append (.session n false ⟨n, 0, 0, 0, 0, 0, 0, 0, 0, 0, 0⟩)

/-! Acknowledgements (R228, R230, R261) -/

/-- R261: a source acknowledges a message of a port. -/
def State.takeAck (s : State) (p src n : Nat) : State :=
  let us := s.link.unacked.map (fun u => if u.port = p ∧ u.seq = n then { u with tiles := u.tiles.filter (· != src) } else u)
  { s with link := { s.link with unacked := us.filter (fun u => u.tiles != []) } }

/-- ACK (R230). The ACK of the active sender comes from its own address. -/
def execAckMsg (m : MsgHdr) (seq status : Nat) (s : State) : Host.Outcome State Fault Refusal :=
  .next (s.receiveOk m (.ack seq status) false (fun t =>
    if t.tileRole then (t.takeAck m.port m.src seq).takeAck m.port 0x8002 seq else t.takeAck m.port m.src seq))

/-- R261: the wait for an acknowledgement, in CLK_TIME cycles: 20 µs + 0.8 µs × H. -/
def State.ackWait (s : State) : Nat := usCycles 20 + 400 * s.hops

/-- R517: a BARRIER answers once no tile is waited for: every BARRIER_DONE has come, or the resends are spent. -/
def State.barrierEnds (s : State) (id : Nat) : State :=
  match s.cmd.barriers.find? (fun b => b.id == id) with
  | none => s
  | some b =>
    if s.link.unacked.any (fun u => u.msg == .barrier id) then s
    else
      ({ s with cmd := { s.cmd with barriers := s.cmd.barriers.filter (fun c => c.id != id) } } : State).respond b.hdr 0x0032
        (okReply (leBytes 2 b.waiting.length ++ [0, 0]))

/-- R265: a tile is done for a barrier. -/
def State.barrierDone (s : State) (id tile : Nat) : State :=
  let us := s.link.unacked.map (fun u => if u.msg = .barrier id then { u with tiles := u.tiles.filter (· != tile) } else u)
  let s1 : State := { s with
    link := { s.link with unacked := us.filter (fun u => u.tiles != []) }
    cmd := { s.cmd with barriers := s.cmd.barriers.map (fun b =>
      if b.id = id then { b with waiting := b.waiting.filter (· != tile) } else b) } }
  s1.barrierEnds id

/-- R265, R517: BARRIER goes to every tile with a session. It carries no ACK_REQ; BARRIER_DONE answers it, and it is resent
as a message with ACK_REQ is. -/
def State.sendBarrier (s : State) (h : Hdr) (id : Nat) : State :=
  let ports := ((List.range 8).filter s.portUp).filter (fun p => s.chainTiles p != [])
  let s1 : State := { s with cmd := { s.cmd with barriers := s.cmd.barriers ++ [⟨h, id, ports.flatMap s.chainTiles⟩] } }
  let s2 := ports.foldl (fun t p =>
    let n := (t.port p).nextSeq
    let u := t.emitMsg p 0xFFFF (.barrier id) []
    { u with link := { u.link with unacked := u.link.unacked ++ [⟨p, n, 0xFFFF, .barrier id, t.chainTiles p, u.cycles, 0⟩] } }) s1
  s2.barrierEnds id

/-- R261: a message whose wait has passed goes again with RETRY, up to 3 times; then NOACK, and the tiles that did not
answer are marked. -/
def State.resendMsg (s : State) (u : Unacked) : State :=
  let s1 := s.untilCycle (u.sentAt + s.ackWait)
  if u.tries < 3 then
    { s1 with link := { s1.link with unacked := s1.link.unacked.map (fun v =>
        if v = u then { v with tries := v.tries + 1, sentAt := s1.cycles } else v) } }.send
      (.link u.port (.msg u.dst (asksAck u.msg) true u.msg))
  else
    let s2 := { s1 with link := { s1.link with unacked := s1.link.unacked.filter (fun v => v != u) } }
    let s3 := if s2.senderRole then
        u.tiles.foldl (fun t n => t.setFlag (F.MLK_SESS_STAT_RESYNC (sessionOf n)) true) (s2.event F.MLK_EVT_NOACK)
      else s2
    match u.msg with
    | .barrier id => s3.barrierEnds id
    | _ => s3

/-- MESSAGE_RESEND (R261). -/
def execMessageResend (port seq : Nat) (s : State) : Host.Outcome State Fault Refusal :=
  .next (match s.link.unacked.find? (fun u => u.port == port && u.seq == seq) with
    | some u => s.resendMsg u
    | none => s)

/-! Status (R254) -/

/-- TILE_STATUS (R254, R238, R270). -/
def State.tileStatusMsg (s : State) (b : TileStatus) : State :=
  let n := sessionOf b.addr
  if b.addr < 0x8000 ∧ b.addr / 512 = s.fld F.MLK_CTL_DOMAIN ∧ s.flag (F.MLK_SESS_STAT_OPEN n) = true then
    let s1 := ((s.setFld (F.MLK_SESS_STAT_MODE n) b.mode).setFlag (F.MLK_SESS_STAT_TIME_LOCKED n) b.timeLocked).setFld
      (F.MLK_SESS_LAST_FLIP_FLIP_LO n) b.lastFlipLo
    (s1.setFld (F.MLK_SESS_AGE_FAULTS_PENDING n) b.faultsPending).statusNow n
  else s

/-- TILE_STATUS (R254). A sender reads the claim of each one that reaches its chain ports, in either mode (R437). -/
def execTileStatus (m : MsgHdr) (b : TileStatus) (s : State) : Host.Outcome State Fault Refusal :=
  .next (
    let s1 : State := if s.senderRole && s.portUp m.port && m.checkOk then
      { s with red := { s.red with seenEpoch := max s.red.seenEpoch b.claimEpoch } } else s
    (s1.tileRestarts m b.addr b.restarts).receiveOk m (.tileStatus b) false (fun t => if t.senderRole then t.tileStatusMsg b else t))

/-! Faults (R255, R256) -/

/-- FAULT_ACK (R255): the tile's record is acknowledged. -/
def execFaultAck (m : MsgHdr) (record : Nat) (s : State) : Host.Outcome State Fault Refusal :=
  .next (s.receiveOk m (.faultAck record) false (fun t =>
    if t.tileRole then { t with faults := { t.faults with unacked := t.faults.unacked.filter (· != record) } } else t))

/-- FAULT_RESEND (R255): every 10 ms a tile resends an unacknowledged record. -/
def execFaultResend (record : Nat) (s : State) : Host.Outcome State Fault Refusal :=
  .next (if s.tileRole ∧ s.faults.unacked.contains record = true then
    match s.faults.recs.find? (fun f => f.addr == s.ownAddr && f.record == record) with
    | some f => s.sendBoth (.fault f)
    | none => s
  else s)

/-! Own units and errors (R258, R260) -/

/-- OWN_UNIT_SEND (R258): the first of a tile's own units that waits for a port leaves. -/
def execOwnUnitSend (port : Nat) (s : State) : Host.Outcome State Fault Refusal :=
  .next (match s.link.own.find? (fun u => u.port == port) with
    | some u =>
      if s.portUp port then
        ({ s with link := { s.link with own := s.link.own.erase u } }).emitMsg u.port u.dst u.msg u.tiles
      else s
    | none => s)

/-- R257, R260: a relaying tile sends ABORT on its other port. -/
def State.relayAbort (s : State) (p : Nat) : State :=
  if s.tileRole && s.portUp (otherPort p) then s.send (.relay (otherPort p) .abort) else s

/-- ABORT (R260): the unit in progress has failed; `relayed` says that it was being relayed. -/
def execAbortBlock (port : Nat) (relayed : Bool) (s : State) : Host.Outcome State Fault Refusal :=
  .next (if s.portList.contains port then
    let s1 := ((s.blockSeen port).event F.MLK_EVT_ABORT_RX).bump (F.MLK_PORT_BLK_CNT_ABORT_COUNT port)
    if relayed then s1.relayAbort port else s1
  else s)

/-- R260: a block error abandons the unit in progress. -/
def State.blockError (s : State) (p : Nat) (relayed : Bool) : State :=
  let s1 := (s.event F.MLK_EVT_BLK_ERR).bump (F.MLK_PORT_BLK_CNT_BLK_ERR_COUNT p)
  if relayed then s1.relayAbort p else s1

/-- BLOCK_ERROR (R260). -/
def execBlockError (port : Nat) (relayed : Bool) (s : State) : Host.Outcome State Fault Refusal :=
  .next (if s.portList.contains port then s.blockError port relayed else s)

/-! Time transfer (R248 to R250) -/

/-- R249: the port is the time master of its segment. -/
def State.timeMaster (s : State) (p : Nat) : Bool :=
  if s.tileRole then p != s.activePort else s.mode == .sender

/-- R248: an instant as a stamp, in units of 2^-16 ns, to a resolution of 62.5 ps. -/
def stampOf (w : Nat) : Nat := w / 2 ^ 24 / 4096 * 4096

/-- TIME_REQUEST (R249): every 250 µs the master sends a request and stamps its departure. -/
def execTimeRequest (port : Nat) (s : State) : Host.Outcome State Fault Refusal :=
  .next (if s.portList.contains port ∧ s.portUp port = true ∧ s.timeMaster port = true then
    let x := s.port port
    let s1 := if x.reqAt = 0 then s else s.untilCycle (x.reqAt + usCycles 250)
    let n := (x.tseq + 1) % 65536
    (s1.setPort port { s1.port port with tseq := n, reqAt := s1.cycles, sentT1 := stampOf s1.wall }).send
      (.link port (.time n 0))
  else s)

/-- R395: TIME_INFO's LOCKED. -/
def State.holdsTime (s : State) : Bool :=
  match s.timeMode with
  | .locked | .holdover => true
  | _ => false

/-- R249: a TIME block arrives, stamped in units of 2^-16 ns: a request at the slave, or a reply at the master. -/
def State.timeBlock (s : State) (p tseq dir stamp : Nat) : State :=
  let s0 := s.blockSeen p
  if dir = 0 then
    if s0.timeMaster p then s0
    else
      let e : TimeExch := ⟨p, tseq, (stamp : Int), ((stampOf s0.wall : Nat) : Int)⟩
      ({ s0 with time := { s0.time with exch := s0.time.exch.filter (fun (x : TimeExch) => x.port != p) ++ [e] } }).send (.link p (.time tseq 1))
  else if s0.timeMaster p ∧ (s0.port p).tseq = tseq then
    s0.send (.link p (.msg 0xFFFE false false (.timeInfo tseq (s0.port p).sentT1 stamp s0.holdsTime)))
  else s0

/-- TIME_BLOCK (R249). -/
def execTimeBlock (port tseq dir stamp : Nat) (s : State) : Host.Outcome State Fault Refusal :=
  .next (if s.portList.contains port ∧ s.portUp port = true then s.timeBlock port tseq dir stamp else s)

/-- R250: the slave's exchange is complete. One whose master does not hold wall time is no valid sample (R393). -/
def State.timeInfo (s : State) (p tseq : Nat) (t1 t4 : Int) (locked : Bool) : State :=
  match s.time.exch.find? (fun x => x.port == p && x.tseq == tseq) with
  | none => s
  | some e =>
    let s0 := { s with time := { s.time with exch := s.time.exch.filter (fun (x : TimeExch) => x != e) } }
    if locked then
      let bit := s0.openBit
      let d := half ((t4 - t1) - (e.t3 - e.t2)) bit
      let o := (e.t2 - t1) - d
      let s1 := { s0.drawn with time := { s0.time with chainAt := some s0.cycles } }
      let s2 := s1.servoSample (-o)
      let m := -(medianOf s2.time.samples s2.openBit)
      (s2.setFld (F.MLK_PORT_DELAY_DELAY_PS p) (psField d s2.openBit)).setFld (F.MLK_PORT_OFFSET_OFFSET_PS p)
        (psField m s2.openBit)
    else s0

/-- TIME_INFO (R250). -/
def execTimeInfo (m : MsgHdr) (tseq t1 t4 : Nat) (locked : Bool) (s : State) : Host.Outcome State Fault Refusal :=
  .next (if s.portList.contains m.port ∧ s.portUp m.port = true then
    if m.checkOk then
      let s1 := s.blockSeen m.port
      if s1.tileRole ∧ s1.timeMaster m.port = false then s1.timeInfo m.port tseq (t1 : Int) (t4 : Int) locked else s1
    else s.eventCount F.MLK_EVT_CRC_ERR F.MLK_DISC_CNT_CRC_ERR_COUNT
  else s)

end Sys2Proof.Machine
end

