-- ==== Sys2Proof/Machine/Supply.lean ====
section
/-! DEFINITION. Remote temperature inputs and the supply watch (R555 to R558). -/

namespace Sys2Proof.Machine

/-! Remote temperature inputs (R555, R556) -/

/-- The record of a remote input. -/
def State.remoteIn (s : State) (n : Nat) : RemoteIn :=
  ((s.thm.remote.find? (fun x => x.1 == n)).map (·.2)).getD ⟨[], 0, 0⟩

/-- The state with the record of a remote input replaced. -/
def State.setRemote (s : State) (n : Nat) (x : RemoteIn) : State :=
  { s with thm := { s.thm with remote := s.thm.remote.filter (fun (y : Nat × RemoteIn) => y.1 != n) ++ [(n, x)] } }

/-- R555: what an input computes from its pin, in units of 1/16 °C. -/
def State.remoteResult (s : State) (n v1 v2 ohms : Nat) : Int :=
  if s.flag (F.THM_TEMP_CFG_KIND n) then
    Config.remoteTemp [1, s.fld (F.THM_TEMP_CFG_BETA n), s.fld (F.THM_TEMP_CFG_NTC_NOM n), ohms]
  else Config.remoteTemp [0, s.fld (F.THM_TEMP_DIODE_IDEALITY n), v1, v2] + signed 16 (s.fld (F.THM_TEMP_DIODE_OFFSET n))

/-- R556: a conversion that fails; voltages in µV. -/
def State.remoteBad (s : State) (n v1 v2 ohms : Nat) (r : Int) : Bool :=
  let ntc := s.flag (F.THM_TEMP_CFG_KIND n)
  decide (1000000 < v1 ∨ 1000000 < v2) || (!ntc && decide (v1 < 100000)) ||
  (ntc && decide (ohms < 20 ∨ 2000000 < ohms)) || decide (r < -640 ∨ 2400 < r)

/-- The middle of three values. -/
def median3 (l : List Int) : Int := (l.mergeSort (fun a b => decide (a ≤ b))).getD 1 0

/-- R556: a failing conversion. -/
def State.remoteFails (s : State) (n : Nat) : State :=
  let x := s.remoteIn n
  let s1 := s.setRemote n { x with bad := x.bad + 1, good := 0 }
  if x.bad + 1 = 3 then
    ((s1.setFlag (F.THM_TEMP_STAT_FAILED n) true).event F.THM_EVT_TEMP_FAIL).fault 4 4
      ([0, 0] ++ leBytes 1 n ++ leBytes 1 (s1.fld (F.THM_TEMP_CFG_KIND n)))
  else s1

/-- R555, R556: a good conversion. -/
def State.remoteGood (s : State) (n : Nat) (r : Int) : State :=
  let x := s.remoteIn n
  let l := (r :: x.last).take 3
  let s1 := s.setRemote n ⟨l, 0, min (x.good + 1) 3⟩
  let s2 := if 2 ≤ x.good then s1.setFlag (F.THM_TEMP_STAT_FAILED n) false else s1
  if l.length = 3 then
    (s2.setFld (F.THM_TEMP_STAT_TEMP n) (unsigned 16 (median3 l))).setFlag (F.THM_TEMP_STAT_VALID n) true
  else s2

/-- REMOTE_TEMP_CONVERSION (R555, R556): an enabled input is converted; the pin voltages in µV at the lower and the higher
current, and the resistance in ohms. -/
def execRemoteTempConversion (input v1 v2 ohms : Nat) (s : State) : Host.Outcome State Fault Refusal :=
  .next (if input < 16 ∧ s.flag (F.THM_TEMP_CFG_EN input) = true then
    let r := s.remoteResult input v1 v2 ohms
    if s.remoteBad input v1 v2 ohms r then s.remoteFails input else s.remoteGood input r
  else s)

/-- R556: a disabled input reads as FAILED. -/
def State.reactThermal (before s : State) : State :=
  (List.range 16).foldl (fun t n =>
    if before.flag (F.THM_TEMP_CFG_EN n) && !t.flag (F.THM_TEMP_CFG_EN n) then
      (t.setRemote n ⟨[], 0, 0⟩).setFlag (F.THM_TEMP_STAT_FAILED n) true
    else t) s

/-! The supply watch (R557, R558) -/

/-- R557: the rail voltage of one sample, in mV. -/
def State.railMv (s : State) (n code : Nat) : Nat := (code * 1200 * s.fld (F.THM_SUPV_CFG_SCALE n) + 524288) / 1048576

/-- SUPV_BLOCK (R557, R558): 16 samples of a watched rail. -/
def execSupvBlock (input : Nat) (codes : List Nat) (s : State) : Host.Outcome State Fault Refusal :=
  .next (if input < 8 ∧ s.flag (F.THM_SUPV_CFG_EN input) = true ∧ codes.length = 16 then
    let sum := (codes.map (s.railMv input)).sum
    let mv := sum / 16 + (if sum % 16 = 0 then 0 else s.openBit)
    let s1 := (if sum % 16 = 0 then s else s.drawn).setFld (F.THM_SUPV_STAT_RAIL_MV input) mv
    let low := if s1.thm.rails.contains input then min mv (s1.fld (F.THM_SUPV_MAX_LOW_MV input)) else mv
    let s2 := s1.setFld (F.THM_SUPV_MAX_LOW_MV input) low
    let s3 : State := { s2 with thm := { s2.thm with rails := s2.thm.rails.filter (· != input) ++ [input] } }
    if s3.fld (F.THM_SUPV_MAX_MAX_MV input) < mv then
      (s3.event F.THM_EVT_RAIL_OVER).fault 5 3 (leBytes 2 mv ++ leBytes 1 input)
    else s3
  else s)

/-- R558: the target of a rail, from LOW_MV. -/
def railTarget (low warn least : Nat) : Nat :=
  if warn ≤ low then 32768 else if least ≤ low then 32768 * (low - least) / (warn - least) else 0

/-- R558: a rail is judged at the start of a build. -/
def State.judgeRail (s : State) (n : Nat) : State :=
  let low := s.fld (F.THM_SUPV_MAX_LOW_MV n)
  let warn := s.fld (F.THM_SUPV_LEVELS_WARN_MV n)
  let t := railTarget low warn (s.fld (F.THM_SUPV_LEVELS_MIN_MV n))
  let s1 := s.setFld (F.THM_SUPV_STAT_LIMIT n) t
  if warn ≤ low then s1
  else if s.fld (F.THM_SUPV_LEVELS_MIN_MV n) ≤ low then
    (s1.event F.THM_EVT_RAIL_SAG).fault 5 1 (leBytes 2 low ++ leBytes 1 n ++ [0] ++ leBytes 2 t)
  else (s1.event F.THM_EVT_RAIL_LOW).fault 5 2 (leBytes 2 low ++ leBytes 1 n)

/-- R558: at the start of each build a tile computes the supply target, and LIMIT moves towards it. LOW_MV begins again. -/
def State.supplyTarget (s : State) : State :=
  let rails := (List.range 8).filter (fun n => s.flag (F.THM_SUPV_CFG_EN n))
  let s1 := rails.foldl State.judgeRail s
  let ac := if s1.flag F.THM_STAT_AC_FAIL then s1.fld F.THM_AC_GAIN_AC_GAIN else 32768
  let target := (rails.map (fun n => s1.fld (F.THM_SUPV_STAT_LIMIT n))).foldl min ac
  let old := s1.fld F.THM_SUPV_CTL_LIMIT
  let new := if target ≤ old then target else min target (old + s1.fld F.THM_SUPV_CTL_RISE)
  let s2 := s1.setFld F.THM_SUPV_CTL_LIMIT new
  { s2 with thm := { s2.thm with rails := [] } }

end Sys2Proof.Machine
end

