-- ==== Sys2Proof/Machine/Tile.lean ====
section
/-! DEFINITION. The tile pipeline: the pixel store, view areas, placing bursts, accepting view-frames, module tables, and
builds (R225, R241 to R243, R301 to R324, R383). -/

namespace Sys2Proof.Machine

/-! The pixel store (R310, R318, R321, R362) -/

/-- R310: the halfword of the pixel store that holds a byte offset. -/
def storeAt (byte : Nat) : Nat := byte / 2

/-- R318: what a halfword of the pixel store reads as while nothing has been written to it: a unit matrix in the Lining
banks, and 0 elsewhere. -/
def storeReset (h : Nat) : BitVec 16 :=
  let d := (h - storeAt 0x900000) % storeAt 0x300000
  if storeAt 0x900000 ≤ h ∧ h < storeAt 0xF00000 ∧ d < storeAt 0x240000 ∧ (d % 9) % 4 = 0 then 16384 else 0

/-- A halfword of the pixel store. -/
def State.half (s : State) (h : Nat) : Nat := (Sparse.get storeReset s.tile.store h).toNat

/-- The state with a halfword of the pixel store replaced. -/
def State.setHalf (s : State) (h v : Nat) : State :=
  { s with tile := { s.tile with store := Sparse.put storeReset s.tile.store h (BitVec.ofNat 16 v) } }

/-- The state with consecutive halfwords of the pixel store replaced. -/
def State.setHalves (s : State) (h : Nat) (vs : List Nat) : State :=
  { s with tile := { s.tile with store := Sparse.putRun storeReset s.tile.store h (vs.map (BitVec.ofNat 16)) } }

/-- The state without what a stretch of the pixel store held, from byte `lo` up to but not including byte `hi`. -/
def State.clearStore (s : State) (lo hi : Nat) : State :=
  { s with tile := { s.tile with store := Sparse.eraseRange s.tile.store (storeAt lo) (storeAt hi) } }

/-- Bytes of the pixel store. -/
def State.storeBytes (s : State) (byte n : Nat) : List Byte :=
  (List.range n).map (fun i => BitVec.ofNat 8 (s.half (storeAt (byte + i)) / 2 ^ (8 * ((byte + i) % 2))))

/-- A byte of the pixel store replaced. -/
def State.setStoreByte (s : State) (byte : Nat) (b : Byte) : State :=
  let old := s.half (storeAt byte)
  s.setHalf (storeAt byte) (if byte % 2 = 0 then old / 256 * 256 + b.toNat else old % 256 + 256 * b.toNat)

/-- Bytes of the pixel store replaced. -/
def State.setStoreBytes (s : State) (byte : Nat) (bs : List Byte) : State :=
  (bs.zipIdx).foldl (fun t (p : Byte × Nat) => t.setStoreByte (byte + p.2) p.1) s

/-- The tile's width. -/
def State.tileW (s : State) : Nat := s.fld F.TIL_GEOM_W
/-- The tile's height. -/
def State.tileH (s : State) : Nat := s.fld F.TIL_GEOM_H
/-- The lamps of a pixel. -/
def State.lampsPer (s : State) : Nat := 3 + s.fld F.TIL_GEOM_LAMPS4

/-- R304: A, the number of view areas. -/
def State.areaCount (s : State) : Nat := viewsHeldOf (s.tileW * s.tileH)

/-- R302, R304: the first halfword of a pixel in buffer b of area a. -/
def State.framePixel (s : State) (a b p : Nat) : Nat := storeAt ((3 * a + b) * (6 * s.tileW * s.tileH) + 6 * p)

/-- R318: where a bank of the Lining begins. -/
def liningBase (bank : Nat) : Nat := 0x900000 + 0x300000 * bank

/-- R321: where Guard Image k begins. -/
def guardBase (k : Nat) : Nat := 0xF00000 + 0xC0000 * k

/-- R310: where a buffer of the grey store begins. -/
def greyBase (b : Nat) : Nat := 0x1200000 + 0x100000 * b

/-- R362, R380: where the lamp fault map begins. -/
def faultMapBase : Nat := 0x1880000

/-- R380: a lamp's state in the fault map: 0 good, 1 open, 2 short, 3 masked. -/
def State.lampState (s : State) (l : Nat) : Nat := s.half (storeAt faultMapBase + l / 8) / 4 ^ (l % 8) % 4

/-- The grey of a lamp as it stands on the lamps. -/
def State.lampGrey (s : State) (l : Nat) : Nat := s.half (storeAt (greyBase s.tile.front) + l)

/-! Areas (R304 to R306) -/

/-- The area of a view. -/
def State.areaOf (s : State) (view : Nat) : Option (Nat × Area) := s.tile.areas.find? (fun x => x.2.view == view)

/-- The state with an area's record replaced where it stands. -/
def State.setArea (s : State) (a : Nat) (x : Area) : State :=
  { s with tile := { s.tile with areas := s.tile.areas.map (fun (y : Nat × Area) => if y.1 = a then (a, x) else y) } }

/-- R305: an area's latest checked FLIP is the newest of all. -/
def State.touchArea (s : State) (a : Nat) (x : Area) : State :=
  { s with tile := { s.tile with areas := s.tile.areas.filter (fun (y : Nat × Area) => y.1 != a) ++ [(a, x)] } }

/-- R306: an area with nothing in it. -/
def emptyArea (view : Nat) : Area := ⟨view, none, none, none, none⟩

/-- R305: the area for a view at its FLIP: its own, the lowest free one, or the one whose FLIP is oldest. -/
def State.areaFor (s : State) (view : Nat) : State × Nat × Area :=
  match s.areaOf view with
  | some (a, x) => (s, a, x)
  | none =>
    match (List.range s.areaCount).find? (fun a => !s.tile.areas.any (fun x => x.1 == a)) with
    | some a => (s, a, emptyArea view)
    | none =>
      match s.tile.areas with
      | [] => (s, 0, emptyArea view)
      | x :: _ => (s.event F.TIL_EVT_AREA_RECLAIM, x.1, emptyArea view)

/-- R325: every area is freed. -/
def State.freeAreas (s : State) : State := { s with tile := { s.tile with areas := [] } }

/-- R306: a frame that is not accepted is counted. -/
def State.frameLost (s : State) : State := s.bump F.TIL_CNT0_REJ_COUNT

/-- R306: a buffer of an area that is neither READY nor SHOWN. -/
def Area.spare (x : Area) : Nat :=
  ((List.range 3).find? (fun b => !(x.ready.map (·.buf)).toList.contains b && !(x.shown.map (·.buf)).toList.contains b)).getD 0

/-- R306: FLIP with SENT 1, later than the area's last accepted flip, opens a FILL buffer. -/
def State.openFill (s : State) (a : Nat) (x : Area) (f : FlipMsg) : State :=
  let later := match x.last with
    | none => true
    | some l => decide (l.1 < f.num)
  let newer := match x.fill with
    | none => true
    | some g => decide (g.flip.num < f.num)
  if f.sent && later && newer then
    let s1 := if x.fill.isSome then s.frameLost else s
    s1.touchArea a { x with fill := some ⟨x.spare, f, emptyTally s.ownAddr, false⟩ }
  else s.touchArea a x

/-- R31, R330: the pipeline takes frames: in TILE, and through a warm restart. -/
def State.tileRuns (s : State) : Bool :=
  s.tileRole && !s.blockHeld 5 && (s.mode == .tile || (s.mode == .boot && s.boot.phase == .warm))

/-- R239, R305, R306: a tile takes a FLIP: it knows the flip, and the view's area follows. FLIPs of flips long past are
forgotten. -/
def State.takeFlip (s : State) (f : FlipMsg) : State :=
  let known := s.flip.known.filter (fun g => g.num != f.num && decide (s.flip.last.getD 0 ≤ g.num + 16)) ++ [f]
  let late := match s.flip.last with
    | some n => decide (f.num ≤ n)
    | none => false
  let next := match s.flip.next with
    | some n => some n
    | none => if late then none else some f.num
  let s1 : State := { s with flip := { s.flip with known := known, next := next } }
  if s1.tileRuns then
    let (s2, a, x) := s1.areaFor f.view
    s2.openFill a x f
  else s1

/-! Module tables (R225, R243, R309) -/

/-- The module table of a generation, where it is complete. -/
def State.tableOf (s : State) (gen : Nat) : Option ModuleTable :=
  s.link.tables.find? (fun t => t.gen == gen && t.entries.length == t.total)

/-- R243, R309: the generations whose tables a tile keeps: those announced last, and those of the frames held. -/
def State.keptGens (s : State) : List Nat :=
  s.tile.gens.map (·.1) ++ s.tile.areas.flatMap (fun x => ([x.2.ready, x.2.shown].filterMap id).map (·.gen))

/-- The tables that are no longer kept are dropped. -/
def State.pruneTables (s : State) : State :=
  { s with link := { s.link with tables := s.link.tables.filter (fun (t : ModuleTable) => s.keptGens.contains t.gen) } }

/-- R243: a generation is announced; two stand. -/
def State.noteGen (s : State) (gen due : Nat) : State :=
  let gs := s.tile.gens.filter (fun (g : Nat × Nat) => g.1 != gen) ++ [(gen, due)]
  { s with tile := { s.tile with gens := gs.drop (gs.length - 2) } }

/-- R243: MAP_GEN. The table of the generation before stands under the new number until a table of its own comes. -/
def State.takeMapGen (s : State) (gen due : Nat) : State :=
  let old := (s.tile.gens.getLast?).bind (fun g => s.tableOf g.1)
  let s1 := s.noteGen gen due
  let s2 : State := match old with
    | some t =>
      if s1.link.tables.any (fun u => u.gen == gen) then s1
      else { s1 with link := { s1.link with tables := s1.link.tables ++ [(⟨gen, t.total, t.entries, true⟩ : ModuleTable)] } }
    | none => s1
  s2.pruneTables

/-- R243: entries of a module table. -/
def State.takeTable (s : State) (gen total first : Nat) (es : List ModuleEntry) : State :=
  let s1 := if s.tile.gens.any (fun g => g.1 == gen) then s else s.noteGen gen 0
  let old := (s1.link.tables.find? (fun t => t.gen == gen && !t.kept && t.total == total)).elim [] (·.entries)
  let es' := es.zipIdx.map (fun (p : ModuleEntry × Nat) => (first + p.2, p.1))
  let new := old.filter (fun (p : Nat × ModuleEntry) => !es'.any (fun q => q.1 == p.1)) ++ es'
  { s1 with link := { s1.link with
      tables := s1.link.tables.filter (fun (t : ModuleTable) => t.gen != gen) ++ [(⟨gen, total, new, false⟩ : ModuleTable)] } }.pruneTables

/-- R225: the entry of a module in a table. -/
def ModuleTable.entry (t : ModuleTable) (m : Nat) : Option ModuleEntry :=
  (t.entries.find? (fun p => p.2.module == m)).map (·.2)

/-- R190: the footprint of a module. -/
def entryFoot (e : ModuleEntry) : Nat × Nat := if e.orient / 4 % 2 = 1 then (e.mh, e.mw) else (e.mw, e.mh)

/-- R301: the tile pixel of burst pixel X in footprint row `row`. -/
def entryPlace (e : ModuleEntry) (x row : Nat) : Nat × Nat :=
  let a := if e.orient / 2 % 2 = 1 then (entryFoot e).1 - 1 - x else x
  let b := if e.orient % 2 = 1 then (entryFoot e).2 - 1 - row else row
  if e.orient / 4 % 2 = 1 then (e.u0 + b, e.v0 + a) else (e.u0 + a, e.v0 + b)

/-- R316: the entry of a table that a tile pixel lies in. -/
def ModuleTable.at (t : ModuleTable) (u v : Nat) : Option ModuleEntry :=
  (t.entries.find? (fun p => decide (p.2.u0 ≤ u ∧ u < p.2.u0 + p.2.mw ∧ p.2.v0 ≤ v ∧ v < p.2.v0 + p.2.mh))).map (·.2)

/-- R192: the seam gain of a module pixel. -/
def entrySeam (e : ModuleEntry) (i j : Nat) : Nat :=
  let ev := if e.mh = 1 then (e.top * e.bottom + 64) / 128 else if j = 0 then e.top else if j = e.mh - 1 then e.bottom else 0x80
  let eh := if e.mw = 1 then (e.left * e.right + 64) / 128 else if i = 0 then e.left else if i = e.mw - 1 then e.right else 0x80
  min ((e.gain * ev * eh + 8192) / 16384) 65535

/-! Bursts (R225, R263, R301 to R303) -/

/-- R263: a burst whose COUNT cannot be. -/
def burstMalformed (b : Burst) : Bool := decide (b.count = 0 ∨ 2048 < b.count ∨ b.pixels.length ≠ b.count)

/-- R263: the spans of a burst lie within it. -/
def burstSpansOk (b : Burst) : Bool :=
  b.spans.elim true (fun l => l.all (fun x => !x.valid || decide (1 ≤ x.len ∧ x.start + x.len ≤ b.count)))

/-- R302: the halfwords of a burst pixel. -/
def frameWords (spans : Option (List Span)) (i p : Nat) : List Nat :=
  let g := match spans with
    | none => 0
    | some l => (spanOf l i).elim 0 (fun k => 0x8000 + k * 0x1000)
  [p % 4096, p / 4096 % 4096, g + p / 16777216 % 4096]

/-- R301, R302: the pixels of a burst go into buffer b of area a. -/
def State.placeBurst (s : State) (a b : Nat) (e : ModuleEntry) (u : Burst) : State :=
  (u.pixels.zipIdx).foldl (fun t (p : Nat × Nat) =>
    let (x, y) := entryPlace e p.2 u.row
    if x < t.tileW ∧ y < t.tileH then t.setHalves (t.framePixel a b (y * t.tileW + x)) (frameWords u.spans p.2 p.1)
    else t) s

/-- R225: the entry that a burst names, where the burst counts towards its view-frame. -/
def State.burstEntry (s : State) (u : Burst) : Option ModuleEntry :=
  if s.flip.known.any (fun f => f.num % 2 ^ 32 == u.flipLo && f.view == u.view && claimTag ⟨f.epoch, f.rank⟩ == u.claimTag) then
    match (s.tableOf u.gen).bind (fun t => t.entry u.module) with
    | some e => if u.row < (entryFoot e).2 ∧ u.count = (entryFoot e).1 then some e else none
    | none => none
  else none

/-- R225, R303: a burst for this tile under the highest claim. -/
def State.takeBurst (s : State) (u : Burst) : State :=
  match s.areaOf u.view with
  | none => s
  | some (a, x) =>
    match s.burstEntry u with
    | some e =>
      match x.fill with
      | some f =>
        if f.flip.num % 2 ^ 32 = u.flipLo then
          (s.placeBurst a f.buf e u).setArea a
            { x with fill := some { f with tally := f.tally.add u, bad := f.bad || !burstSpansOk u } }
        else s.bump F.TIL_CNT2_STALE_COUNT
      | none => s.bump F.TIL_CNT2_STALE_COUNT
    | none =>
      match x.fill with
      | some f => if f.flip.num % 2 ^ 32 = u.flipLo then s.setArea a { x with fill := some { f with bad := true } } else s
      | none => s

/-- R257, R286: a burst for another tile is relayed; one that finds no room in the relay store is abandoned with ABORT. -/
def State.relayBurst (s : State) (p : Nat) (room : Bool) (u : Burst) : State :=
  if s.portUp (otherPort p) then
    if room then s.send (.relay (otherPort p) (.burst u))
    else
      ((s.event F.SER_EVT_RELAY_OVF).bump (F.SER_PORT_CNT_RELAY_OVF_COUNT (otherPort p))).send (.relay (otherPort p) .abort)
  else s

/-- BURST (R225, R253, R257): `room` says whether the relay store has room for it. -/
def execBurstUnit (port : Nat) (room : Bool) (b : Burst) (s : State) : Host.Outcome State Fault Refusal :=
  .next (if s.tileRole ∧ port < 2 ∧ s.portUp port = true then
    let s1 := s.blockSeen port
    if burstMalformed b then s1.blockError port true
    else if b.tile ≠ s1.ownAddr then s1.relayBurst port room b
    else if !s1.flag F.MLK_CLAIM_SEEN || b.claimTag != claimTag s1.claim then s1.claimDiscard
    else if s1.tileRuns then s1.takeBurst b
    else s1
  else s)

/-! FRAME_END (R241, R242, R306 to R308) -/

/-- R308: the alive check of a frame against the area's previous accepted one. -/
def aliveFails (last : Option (Nat × Nat)) (alive : Nat) : Bool :=
  match last with
  | none => false
  | some l =>
    let d := (alive + 65536 - l.2 % 65536) % 65536
    alive != 0 && decide (d = 0 ∨ 32768 ≤ d)

/-- R308: the slots whose GNT_CHECK differs from FRAME_END's, as bits. -/
def gntDiffers (t : TileTally) (e : FrameEnd) : Nat :=
  ((List.range 4).map (fun k => (t.gntChecks.getD k 0 != e.gntCheck.getD k 0).toNat * 2 ^ k)).sum

/-- R307, R308: the FILL frame of an area is accepted. -/
def State.acceptFrame (s : State) (a : Nat) (x : Area) (f : FillBuf) (e : FrameEnd) : State :=
  let diff := gntDiffers f.tally e
  let dead := aliveFails x.last f.flip.alive
  let lo := f.flip.num % 2 ^ 32
  let s1 := if diff = 0 then s else (s.event F.TIL_EVT_GNT_MISMATCH).fault 3 2
    (leBytes 4 lo ++ leBytes 1 f.flip.view ++ leBytes 1 diff)
  let s2 := if dead then (s1.event F.TIL_EVT_ALIVE_ERR).fault 3 3
    (leBytes 4 lo ++ leBytes 1 f.flip.view ++ [0] ++ leBytes 2 f.flip.alive) else s1
  let guard := if dead then 15 else mask8 (f.flip.guardBits % 16) diff
  let s3 := s2.setArea a { x with
    fill := none
    ready := some ⟨f.buf, f.flip.num, f.flip.gen, f.flip.alive, guard, e.frameCheck, e.gntCheck⟩
    last := some (f.flip.num, f.flip.alive) }
  { s3 with tile := { s3.tile with last := (f.flip.num, f.flip.view) } }

/-- R241, R307: the counts and the check of a view-frame match. -/
def frameMatches (f : FillBuf) (e : FrameEnd) : Bool :=
  !f.bad && f.tally.bursts % 65536 == e.bursts && f.tally.pixels % 2 ^ 32 == e.pixels && crc32cDone f.tally.acc == e.frameCheck

/-- R306: the FILL buffer of an area becomes FREE. -/
def State.dropFill (s : State) (a : Nat) (x : Area) : State := (s.setArea a { x with fill := none }).frameLost

/-- R241, R306, R307: FRAME_END at the tile. -/
def State.takeFrameEnd (s : State) (e : FrameEnd) : State :=
  match s.areaOf e.view with
  | none => s
  | some (a, x) =>
    match x.fill with
    | none => s
    | some f =>
      if f.flip.num % 2 ^ 32 ≠ e.flipLo then s
      else if s.cuffIsOpen f.flip.num then (s.dropFill a x).event F.TIL_EVT_FRAME_LATE
      else if frameMatches f e && claimTag ⟨f.flip.epoch, f.flip.rank⟩ == claimTag s.claim then s.acceptFrame a x f e
      else (s.dropFill a x).event F.TIL_EVT_FRAME_REJ

/-- FRAME_END (R241). -/
def execFrameEnd (m : MsgHdr) (f : FrameEnd) (s : State) : Host.Outcome State Fault Refusal :=
  .next (s.receiveOk m (.frameEnd f) false (fun t => if t.tileRuns then t.takeFrameEnd f else t))

/-- MODULE_TABLE (R243, R263). -/
def execModuleTable (m : MsgHdr) (gen total first : Nat) (entries : List ModuleEntry) (s : State) :
    Host.Outcome State Fault Refusal :=
  .next (s.receive m (.moduleTable gen total first entries) false (fun t =>
    if !t.tileRole then (t, .ok)
    else if 255 < entries.length ∨ 256 < total then (t, .errLen)
    else (t.takeTable gen total first entries, .ok)))

/-- MAP_GEN (R243). -/
def execMapGen (m : MsgHdr) (gen dueFlip : Nat) (s : State) : Host.Outcome State Fault Refusal :=
  .next (s.receiveOk m (.mapGen gen dueFlip) false (fun t => if t.tileRole then t.takeMapGen gen dueFlip else t))

/-! Zones (R322 to R324) -/

/-- R322: the zone of a module. -/
def State.zoneOf (s : State) (m : Nat) : Nat := s.fld (F.TIL_MODZONE_ZONE (m / 8)) / 16 ^ (m % 8) % 16

/-- R325: the points of a curve up to the first that is unused or does not rise. -/
def risingFrom (t : Int) : List (Int × Nat) → List (Int × Nat)
  | [] => []
  | q :: rest => if q.1 ≠ -32768 ∧ t < q.1 then q :: risingFrom q.1 rest else []

/-- R323, R325: the used breakpoints of a curve, as temperature and gain. -/
def State.curve (s : State) (z k : Nat) : List (Int × Nat) :=
  risingFrom (-32768) ((List.range 8).map (fun b =>
    (signed 16 (s.fld (F.TIL_TCOMP_TEMP z k b)), s.fld (F.TIL_TCOMP_GAIN z k b))))

/-- R324: the gain between two breakpoints, or from there on. -/
def curveBetween : List (Int × Nat) → Int → Int
  | [], _ => 32768
  | [p], _ => (p.2 : Int)
  | p :: q :: rest, t =>
    if q.1 ≤ t then curveBetween (q :: rest) t
    else
      let dt := q.1 - p.1
      (p.2 : Int) + (2 * ((q.2 : Int) - (p.2 : Int)) * (t - p.1) + dt) / (2 * dt)

/-- R324: the target gain of a curve at a temperature. -/
def curveAt (c : List (Int × Nat)) (t : Int) : Int :=
  match c with
  | [] => 32768
  | p :: _ => if t ≤ p.1 then (p.2 : Int) else curveBetween c t

/-- R329: the gain used of zone z and colour k. -/
def zoneGain (z k : Nat) : Fld :=
  match k with
  | 0 => F.TIL_ZONE_GAIN0_R z
  | 1 => F.TIL_ZONE_GAIN0_G z
  | 2 => F.TIL_ZONE_GAIN1_B z
  | _ => F.TIL_ZONE_GAIN1_L4 z

/-- R324: a gain moves from its last value towards its target by at most SLEW. -/
def slewTo (old target slew : Int) : Int := if old ≤ target then min target (old + slew) else max target (old - slew)

/-- R322: a zone takes its temperature at the start of a build. `used` are the zones of the build's table. -/
def State.zoneTemp (s : State) (used : List Nat) (z : Nat) : State :=
  let failed := s.flag (F.THM_TEMP_STAT_FAILED z)
  let t := if failed then s.fld F.TIL_TCOMP_CTL_FALLBACK_C else s.fld (F.THM_TEMP_STAT_TEMP z)
  let s1 := (s.setFld (F.TIL_ZONE_TEMP_TEMP z) t).setFlag (F.TIL_ZONE_TEMP_FALLBACK z) failed
  if failed && s1.flag (F.THM_TEMP_CFG_EN z) then
    if s1.tile.fallen.contains z || !used.contains z then s1
    else { s1.event F.TIL_EVT_TEMP_FALLBACK with tile := { s1.tile with fallen := s1.tile.fallen ++ [z] } }
  else { s1 with tile := { s1.tile with fallen := s1.tile.fallen.filter (· != z) } }

/-- R324: a zone's gains move. -/
def State.zoneGains (s : State) (z : Nat) : State :=
  let t := signed 16 (s.fld (F.TIL_ZONE_TEMP_TEMP z))
  (List.range 4).foldl (fun u k =>
    let target := curveAt (u.curve z k) t
    let g := if u.tile.slewed then slewTo (u.fld (zoneGain z k)) target (u.fld F.TIL_TCOMP_CTL_SLEW) else target
    u.setFld (zoneGain z k) (unsigned 16 g)) s

/-- R322, R324: the zones at the start of a build. -/
def State.buildZones (s : State) (t : Option ModuleTable) : State :=
  let used := t.elim [] (fun t => t.entries.map (fun p => s.zoneOf p.2.module))
  let s1 := (List.range 16).foldl (fun u z => (u.zoneTemp used z).zoneGains z) s
  { s1 with tile := { s1.tile with slewed := true } }

/-! Builds (R311 to R317, R383) -/

/-- R316: a value limited to the largest lamp value. -/
def lampLimit (x : Int) : Nat := clipInt 0 1048575 x

/-- R318: an element of the active Lining's matrix of a pixel. -/
def State.liningM (s : State) (p r c : Nat) : Int :=
  signed 16 (s.half (storeAt (liningBase s.tile.bank) + 9 * p + 3 * r + c))

/-- R318: the black offset of a lamp in the active Lining. -/
def State.liningOff (s : State) (l : Nat) : Int :=
  let at_ := storeAt (liningBase s.tile.bank + 0x240000) + 6 * (l / 8)
  let v := ((List.range 6).map (fun i => s.half (at_ + i) * 65536 ^ i)).sum
  signed 12 (v / 2 ^ (12 * (l % 8)))

/-- R317: the ordered matrix. -/
def ditherMatrix : List Nat := [0, 8, 2, 10, 12, 4, 14, 6, 3, 11, 1, 9, 15, 7, 13, 5]

/-- R317: the dither value. -/
def ditherAt (mode alive u v k : Nat) : Nat :=
  let f := alive % 16
  let b (y x : Nat) : Nat := ditherMatrix.getD (y % 4 * 4 + x % 4) 0
  match mode with
  | 0 => 8
  | 1 => (b v u + 5 * k) % 16
  | _ => (b (v + f / 4) (u + f) + 5 * k) % 16

/-- R311, R316: what a build reads of its source: the area and buffer, the table, and the slots guarded. -/
structure BuildSrc where
  area : Nat
  buf : Nat
  table : ModuleTable
  guard : Nat

/-- R302, R308, R316: the codes of a pixel, and whether a guarded slot took its place. -/
def State.buildCodes (s : State) (b : BuildSrc) (p : Nat) : List Nat × Bool :=
  let w := (List.range 3).map (fun i => s.half (s.framePixel b.area b.buf p + i))
  let g := w.getD 2 0
  let k := g / 4096 % 4
  if g / 32768 = 1 ∧ b.guard / 2 ^ k % 2 = 1 then
    (if s.bit F.TIL_GUARD_CTL_VALID k then (List.range 3).map (fun i => s.half (storeAt (guardBase k) + 3 * p + i) % 4096)
      else [0, 0, 0], true)
  else (w.map (· % 4096), false)

/-- R316: the linear values of a pixel under its seam gain. -/
def linearise (codes : List Nat) (g : Nat) : List Nat :=
  codes.map (fun c => min (((c * c + 8) / 16 * g + 16384) / 32768) 1048575)

/-- R316: the Lining matrix of a pixel. -/
def State.applyLining (s : State) (p : Nat) (x : List Nat) : List Nat :=
  (List.range 3).map (fun r =>
    lampLimit (((((List.range 3).map (fun c => s.liningM p r c * (x.getD c 0 : Nat))).sum) + 8192) / 16384))

/-- R316: the fourth lamp. -/
def State.fourthLamp (s : State) (y : List Nat) : List Nat :=
  let w := min ((min (min (y.getD 0 0) (y.getD 1 0)) (y.getD 2 0) * s.fld F.TIL_LAMP4_CTL_W_GAIN + 16384) / 32768) 1048575
  let sub := [s.fld F.TIL_LAMP4_SUB_RG_SUB_R, s.fld F.TIL_LAMP4_SUB_RG_SUB_G, s.fld F.TIL_LAMP4_SUB_B_SUB_B]
  (List.range 3).map (fun r => y.getD r 0 - (w * sub.getD r 0 + 16384) / 32768) ++ [w]

/-- R316: temperature, brightness, black offset and dither of lamp k of a pixel. -/
def State.finishLamp (s : State) (z br alive u v p k y : Nat) : Nat :=
  let y1 := min ((y * s.fld (zoneGain z k) + 16384) / 32768) 1048575
  let y2 := min ((y1 * br + 16384) / 32768) 1048575
  let y3 := if 0 < y2 then lampLimit ((y2 : Int) + 16 * s.liningOff (p * s.lampsPer + k)) else 0
  min ((y3 + ditherAt (s.fld F.TIL_DITHER_MODE) alive u v k) / 16) 65535

/-- R316: the lamps of a pixel, and whether a guarded slot took its place. -/
def State.buildPixel (s : State) (b : BuildSrc) (alive p : Nat) : List Nat × Bool :=
  let u := p % s.tileW
  let v := p / s.tileW
  match b.table.at u v with
  | none => (List.replicate s.lampsPer 0, false)
  | some e =>
    let (c, guarded) := s.buildCodes b p
    let y := s.applyLining p (linearise c (entrySeam e (u - e.u0) (v - e.v0)))
    let y' := if s.lampsPer = 4 then s.fourthLamp y else y
    let z := s.zoneOf e.module
    (y'.zipIdx.map (fun (x : Nat × Nat) => s.finishLamp z (s.fld F.TIL_BRIGHT_USED) alive u v p x.2 x.1), guarded)

/-- R315: the background grey of the colours. -/
def State.bgGrey (s : State) : List Nat :=
  [s.fld F.TIL_BG_RG_BG_R, s.fld F.TIL_BG_RG_BG_G, s.fld F.TIL_BG_BW_BG_B, s.fld F.TIL_BG_BW_BG_4].take s.lampsPer

/-- R383: concealment of a built grey, lamp by lamp. -/
def conceal (mode spread n w : Nat) (hidden : List Nat) (inModule : List Bool) (g : List Nat) : List Nat :=
  if mode = 0 then g
  else
    let gain (l : Nat) : Nat := if hidden.contains l then (g.getD l 0 * spread + 32768) / 65536 else 0
    (g.zipIdx).map (fun (x : Nat × Nat) =>
      if hidden.contains x.2 then 0
      else if mode = 2 ∧ inModule.getD (x.2 / n) false = true then
        let u := x.2 / n % w
        min (x.1 + (if 0 < u then gain (x.2 - n) else 0) + (if u + 1 < w then gain (x.2 + n) else 0)) 65535
      else x.1)

/-- R311: the source of a build for a FLIP: the READY buffer with its frame, else the held frame; and whether it is held. -/
def State.buildSource (s : State) (f : FlipMsg) : Option (BuildSrc × Bool) :=
  match s.areaOf f.view with
  | none => none
  | some (a, x) =>
    let pick (h : HeldFrame) (held : Bool) : Option (BuildSrc × Bool) :=
      (s.tableOf h.gen).map (fun t => (⟨a, h.buf, t, if held then mask8 h.guard (f.guardBits % 16) else h.guard⟩, held))
    match x.ready with
    | some h => if h.flip = f.num then pick h false else x.shown.bind (fun g => pick g true)
    | none => x.shown.bind (fun g => pick g true)

/-- R313, R553: DIV as it stands. -/
def State.coreDiv (s : State) : Nat := 2 ^ s.fld F.CLK_THROTTLE_CORE_DIV

/-- R313: CLK_TIME cycles that a build takes: 2 µs and a quarter of the pixels at 1.2 GHz / DIV, in cycles of 2 ns rounded
up. -/
def buildCycles (pixels div : Nat) : Nat := (12000 + 5 * ((pixels + 3) / 4) * div + 11) / 12

/-- R320: a Lining that waits is swapped in at the start of a build. -/
def State.liningSwap (s : State) : State :=
  match s.tile.swap with
  | none => s
  | some g =>
    let s1 : State := { s with tile := { s.tile with bank := 1 - s.tile.bank, swap := none } }
    (s1.setFld F.TIL_LINING_STAT_ACTIVE_GEN g).setFlag F.TIL_LINING_STAT_COPY_BUSY true

/-- R311, R314, R316, R383: a build starts. It reads every setting, gain and table now. -/
def State.buildStart (s : State) (f : FlipMsg) : State :=
  let s1 := s.latchDiv.liningSwap.supplyTarget
  let s2 := s1.setFld F.TIL_BRIGHT_USED (min (s1.fld F.TIL_BRIGHT_HOST_GAIN) (s1.fld F.THM_SUPV_CTL_LIMIT))
  let src := s2.buildSource f
  let s3 := s2.buildZones (src.map (fun x => x.1.table))
  let px := s3.tileW * s3.tileH
  let n := s3.lampsPer
  let rows : List (List Nat × Bool) := match src with
    | none => List.replicate px (List.replicate n 0, false)
    | some (b, _) => (List.range px).map (s3.buildPixel b f.alive)
  let inM (p : Nat) : Bool := match src with
    | none => false
    | some (b, _) => (b.table.at (p % s3.tileW) (p / s3.tileW)).isSome
  let fill := (List.range px).flatMap (fun p => if inM p then s3.bgGrey else List.replicate n 0)
  let guarded := rows.any (·.2)
  let s4 := if src.any (·.2) then s3.bump F.TIL_CNT0_HELD_COUNT else s3
  let s5 := if guarded then (s4.event F.TIL_EVT_GUARD).bump F.TIL_CNT1_GUARD_COUNT else s4
  let hidden := (List.range (px * n)).filter (fun l => s5.lampState l != 0)
  let b : Build := ⟨f, s5.cycles, buildCycles px s5.coreDiv, s5.coreDiv, rows.flatMap (·.1), fill,
    s5.fld F.LMB_DIAG_CTL_CONCEAL, s5.fld F.LMB_DIAG_PARAM_SPREAD, hidden, (List.range px).map inM⟩
  let s6 : State := { s5 with tile := { s5.tile with build := some b } }
  (s6.setFlag F.TIL_STAT_BUILD_BUSY true).setFld F.TIL_STAT_VIEW f.view

/-- R310, R313: a build ends with its grey in the buffer that is not on the lamps. -/
def State.buildEnds (s : State) (b : Build) (greys : List Nat) (took : Nat) : State :=
  let g := conceal b.conceal b.spread s.lampsPer s.tileW b.hidden b.modules greys
  let s1 := s.setHalves (storeAt (greyBase (1 - s.tile.front))) g
  let s2 : State := { s1 with tile := { s1.tile with build := none, next := some b.flip.num, built := true } }
  let t := min took 0xFFFF
  ((s2.setFlag F.TIL_STAT_BUILD_BUSY false).setFld F.TIL_BUILD_LAST_100NS t).setFld F.TIL_BUILD_MAX_100NS
    (max t (s2.fld F.TIL_BUILD_MAX_100NS))

/-- R315: a build that has not finished at t(F) is stopped. -/
def State.buildStop (s : State) (b : Build) : State :=
  let done := min (4 * ((s.cycles - b.since - 1000) * 12 / (5 * b.div))) (s.tileW * s.tileH)
  let k := done * s.lampsPer
  let s1 := s.buildEnds b (b.lamps.take k ++ b.fill.drop k) ((s.cycles - b.since) / 50)
  ((s1.event F.TIL_EVT_UNDERRUN).bump F.TIL_CNT1_UNDERRUN_COUNT).fault 3 1
    (leBytes 4 (b.flip.num % 2 ^ 32) ++ leBytes 1 b.flip.view ++ [0] ++ leBytes 2 (done / s1.tileW))

/-- R306: FILL frames whose Cuff has opened are freed. -/
def State.lateFrames (s : State) (n : Nat) : State :=
  s.tile.areas.foldl (fun t x =>
    match x.2.fill with
    | some f => if f.flip.num ≤ n then (t.dropFill x.1 x.2).event F.TIL_EVT_FRAME_LATE else t
    | none => t) s

/-- R306, R311, R312: the Cuff of flip n opens at a tile. -/
def State.tileCuff (s : State) (n : Nat) : State :=
  let s1 := s.lateFrames n
  if s1.mode = .tile then
    match s1.knownFlip n with
    | some f => s1.buildStart f
    | none => ((s1.event F.TIL_EVT_NO_FLIP).bump F.TIL_CNT2_NO_FLIP_COUNT).fault 3 5 (leBytes 4 (n % 2 ^ 32))
  else s1

/-- R306: at t(F) the READY frame of F is shown. -/
def State.showFrames (s : State) (n : Nat) : State :=
  { s with tile := { s.tile with areas := s.tile.areas.map (fun (x : Nat × Area) =>
      match x.2.ready with
      | some h => if h.flip = n then (x.1, { x.2 with shown := some h, ready := none }) else x
      | none => x) } }

/-- R311: at t(F) the built grey goes to the lamps. -/
def State.swapGrey (s : State) (n : Nat) : State :=
  if s.tile.next = some n then { s with tile := { s.tile with front := 1 - s.tile.front, next := none } } else s

/-- R325: what a change of W, H or LAMPS4 does. -/
def State.geomReset (s : State) : State :=
  let s1 := ((s.freeAreas.event F.TIL_EVT_GEOM_RESET).clearStore (greyBase 0) (greyBase 2)).pruneTables
  let s2 : State := { s1 with tile := { s1.tile with build := none, next := none } }
  (s2.setFlag F.TIL_STAT_BUILD_BUSY false).sendTileInfo

/-! The Lining and the Guard Images (R319 to R321) -/

/-- R319: CRC-32C over the staging bank. -/
def State.stagingCheck (s : State) : Word := crc32c (s.storeBytes (liningBase (1 - s.tile.bank)) 0x300000)

/-- R319: STAGE_CHECK as it stands. -/
def State.stageCheckNow (s : State) : Word := s.tile.check.getD s.stagingCheck

/-- R320: a publication at t(G). -/
def State.publishLining (s : State) : State × Status :=
  let g := s.fld F.TIL_LINING_CTL_GEN
  if s.flag F.TIL_LINING_STAT_STAGE_BUSY = false ∧ s.stageCheckNow.toNat = s.fld F.TIL_LINING_CHECK_CHECK then
    (({ s with tile := { s.tile with swap := some g } } : State).setFlag F.TIL_LINING_STAT_PENDING true, .ok)
  else ((s.event F.TIL_EVT_LINING_REJ).fault 3 4 ([0, 0, 0, 0, 0, 0] ++ leBytes 2 g), .errConflict)

/-- LINING_STAGE_CHECK_DONE (R319). -/
def execLiningStageCheckDone (s : State) : Host.Outcome State Fault Refusal :=
  .next (if s.tileRole ∧ s.flag F.TIL_LINING_STAT_STAGE_BUSY = true then
    ({ s with tile := { s.tile with check := some s.stagingCheck } } : State).setFlag F.TIL_LINING_STAT_STAGE_BUSY false
  else s)

/-- LINING_COPY_DONE (R320): the new active bank has been copied into the other one. -/
def execLiningCopyDone (s : State) : Host.Outcome State Fault Refusal :=
  .next (if s.tileRole ∧ s.flag F.TIL_LINING_STAT_COPY_BUSY = true then
    let from_ := storeAt (liningBase s.tile.bank)
    let dest := storeAt (liningBase (1 - s.tile.bank))
    let cleared := Sparse.eraseRange s.tile.store dest (dest + storeAt 0x300000)
    let moved := (s.tile.store.filter (fun (p : Nat × BitVec 16) => decide (from_ ≤ p.1 ∧ p.1 < from_ + storeAt 0x300000))).foldl
      (fun l (p : Nat × BitVec 16) => Sparse.put storeReset l (p.1 - from_ + dest) p.2) cleared
    let s1 : State := { s with tile := { s.tile with store := moved } }
    ((s1.setFlag F.TIL_LINING_STAT_COPY_BUSY false).setFlag F.TIL_LINING_STAT_PENDING s.tile.swap.isSome).event F.TIL_EVT_LINING_SWAP
  else s)

/-- BUILD_DONE (R313): a build has run its time before t(F). Uploads to buffered drivers begin at the first CLK_LB edge
after it. -/
def execBuildDone (s : State) : Host.Outcome State Fault Refusal :=
  .next (match s.tile.build with
    | none => s
    | some b =>
      let s1 := s.untilCycle (b.since + b.takes)
      if s1.flipTime b.flip.num < s1.wall then s
      else
        let s2 := s1.buildEnds b b.lamps (b.takes / 50)
        { s2 with lamp := { s2.lamp with upload := some ((s2.wall / ofNs 10 + 1) * ofNs 10) } })

end Sys2Proof.Machine
end

