-- ==== Sys2Proof/Machine/LampBase.lean ====
section
/-! DEFINITION. The Lamp Bus: contexts and channels, dark ports, bank supplies, the words sent to drivers with their echo
checks, and driver configuration (R331 to R354, R364). -/

namespace Sys2Proof.Machine

/-! Contexts and channels (R331, R341, R364) -/

/-- R341: S, the scan lines. -/
def State.scanLines (s : State) : Nat := s.fld F.LMB_SCAN_SCAN_M1 + 1

/-- R341: V_min. -/
def State.vMin (s : State) : Nat :=
  Machine.vMin (s.fld F.LMB_SCAN_RATE_NUM) (s.fld F.LMB_SCAN_RATE_DEN) (s.fld F.LMB_SCAN_REFRESH) s.scanLines

/-- R343: N, the PWM length. -/
def State.pwm (s : State) : Nat := pwmLen s.vMin (s.fld F.LMB_SCAN_DEAD)

/-- R341: the first cycle of visit k after E_0. -/
def State.visitCycle (s : State) (k : Nat) : Nat :=
  k * s.fld F.LMB_SCAN_RATE_DEN * 10 ^ 8 / (max 1 (s.fld F.LMB_SCAN_RATE_NUM * s.fld F.LMB_SCAN_REFRESH * s.scanLines))

/-- R341: the visits of a flip period. -/
def State.visitCount (s : State) : Nat := s.fld F.LMB_SCAN_REFRESH * s.scanLines

/-- The enabled contexts of a port, in ascending order. -/
def State.portCtxs (s : State) (p : Nat) : List Nat :=
  ((List.range 64).map (fun i => 64 * p + i)).filter (fun x => s.flag (F.LMB_CTX_CTL_EN x))

/-- The enabled contexts of a class on a data line (8 × port + line). -/
def State.lineCtxs (s : State) (line cls : Nat) : List Nat :=
  ((List.range 8).map (fun i => 8 * line + i)).filter (fun x => s.flag (F.LMB_CTX_CTL_EN x) && s.fld (F.LMB_CTX_CTL_CLASS x) == cls)

/-- R365: the channels of a context. -/
def State.chans (s : State) (x : Nat) : Nat := s.fld (F.LMB_CTX_CTL_CH_M1 x) + 1

/-- R364: the lamp that channel c of context x drives in scan line `line`. -/
def State.lampOf (s : State) (x c line : Nat) : Option Nat :=
  ctxLamp (s.fld (F.LMB_CTX_CTL_PX_M1 x) + 1) (s.fld (F.LMB_CTX_CTL_BLK_M1 x) + 1) (s.fld (F.LMB_CTX_ORIGIN_U0 x))
    (s.fld (F.LMB_CTX_ORIGIN_V0 x)) (s.fld (F.LMB_CTX_CTL_ORDER x)) (s.fld (F.LMB_CTX_CTL_DIR_U x))
    (s.fld (F.LMB_CTX_CTL_DIR_V x)) s.scanLines s.lampsPer s.tileW s.tileH c line

/-- R364: the grey of a channel in a scan line, from a grey buffer. -/
def State.chanGrey (s : State) (front x c line : Nat) : Nat :=
  (s.lampOf x c line).elim 0 (fun l => s.half (storeAt (greyBase front) + l))

/-- R337: the words of a context in a grey transfer for a scan line. -/
def State.greyWords (s : State) (x line : Nat) : List Nat :=
  (List.range (s.chans x)).map (fun c => s.chanGrey s.tile.front x c line)

/-- R344, R345: the words of a buffered context's bank, from the grey buffer that is not on the lamps. -/
def State.bankWords (s : State) (x : Nat) : List Nat :=
  (List.range s.scanLines).flatMap (fun line => (List.range (s.chans x)).map (fun c => s.chanGrey (1 - s.tile.front) x c line))

/-! Dark ports (R333, R334) -/

/-- R361: a warm restart runs. -/
def State.warmRestart (s : State) : Bool := s.mode == .boot && s.boot.phase == .warm

/-- R334: a port is dark. -/
def State.portDark (s : State) (p : Nat) : Bool :=
  !s.tileRole || !s.flag (F.LMB_PORT_CTL_EN p) || !(s.mode == .tile || s.warmRestart) || s.flag (F.LMB_BANK_FAULT (p / 8)) ||
  !s.flag F.LMB_CTL_EN || !s.tile.built || s.flag F.THM_STAT_AC_DARK || s.lamp.visorDark.contains p || s.blockHeld 6 ||
  s.rst.held.any (fun h => h.level < 2)

/-- R333: whether a bank's supply is wrong: it has an enabled port, and the sensed voltage is not VOLT's. -/
def State.bankWrong (s : State) (b : Nat) : Bool :=
  (List.range 8).any (fun i => s.flag (F.LMB_PORT_CTL_EN (8 * b + i))) &&
  s.fld (F.LMB_BANK_SENSED b) != s.fld (F.LMB_BANK_VOLT b) + 1

/-- R333: a bank is judged. -/
def State.judgeBank (s : State) (b : Nat) : State :=
  let s1 := s.setFlag (F.LMB_BANK_FAULT b) (s.bankWrong b)
  if s1.flag (F.LMB_BANK_FAULT b) && !s.flag (F.LMB_BANK_FAULT b) then
    (s1.event F.LMB_EVT_BANK_FAULT).fault 2 4 ([0, 0, 0, 0] ++ leBytes 1 b ++ leBytes 1 (s1.fld (F.LMB_BANK_SENSED b)))
  else s1

/-- BANK_SUPPLY_CHANGE (R333). -/
def execBankSupplyChange (bank sensed : Nat) (s : State) : Host.Outcome State Fault Refusal :=
  .next (if s.tileRole ∧ bank < 8 ∧ sensed < 4 then (s.setFld (F.LMB_BANK_SENSED bank) sensed).judgeBank bank else s)

/-! Words to drivers and their echo checks (R338, R339, R350) -/

/-- R338: a housekeeping command word. -/
def hkWord (op addr : Nat) (all : Bool) (arg : Nat) : Word :=
  BitVec.ofNat 32 (op * 2 ^ 28 + addr % 8 * 2 ^ 25 + all.toNat * 2 ^ 24 + arg % 2 ^ 24)

/-- The record of a context. -/
def State.ctxRun (s : State) (x : Nat) : CtxRun := (s.lamp.runs.find? (fun r => r.ctx == x)).getD ⟨x, 0xFFFF, 0, 0, 0⟩

/-- The state with the record of a context replaced. -/
def State.setCtxRun (s : State) (r : CtxRun) : State :=
  { s with lamp := { s.lamp with runs := s.lamp.runs.filter (fun (q : CtxRun) => q.ctx != r.ctx) ++ [r] } }

/-- R350: 16-bit words into an echo check, each most significant bit first. -/
def echoCrc (acc : Nat) (ws : List Nat) : Nat := ws.foldl (fun a w => crcBits 16 0x1021 16 a w) acc

/-- R350: a driver takes words that its echo check covers. -/
def State.coverWords (s : State) (x : Nat) (ws : List Nat) : State :=
  let r := s.ctxRun x
  s.setCtxRun { r with crc := echoCrc r.crc ws }

/-- R350: the two halves of a command word, high half first. -/
def halves (w : Word) : List Nat := [w.toNat / 65536, w.toNat % 65536]

/-- R338, R350: a housekeeping word goes out on a data line: what it does to the expected checks. -/
def State.sendHk (s : State) (line : Nat) (w : Word) : State :=
  let op := w.toNat / 2 ^ 28
  let all := w.toNat / 2 ^ 24 % 2 = 1
  let xs := if all then ((List.range 8).map (fun i => 8 * line + i)).filter (fun x => s.flag (F.LMB_CTX_CTL_EN x))
    else [8 * line + w.toNat / 2 ^ 25 % 8]
  xs.foldl (fun t x =>
    if op = 7 then t.setCtxRun { t.ctxRun x with crc := 0xFFFF }
    else if op = 0 ∨ op = 1 then t
    else t.coverWords x (halves w)) s

/-! Configuration (R340, R354) -/

/-- R340, R354: the CFG_WRITEs of every staged register of a context. -/
def State.cfgWords (s : State) (x : Nat) : List Word :=
  let w (reg v : Nat) : Word := hkWord 2 (x % 8) false (reg * 65536 + v % 65536)
  [w 2 (s.scanLines - 1), w 3 s.pwm, w 4 (s.fld F.LMB_SCAN_DEAD), w 5 (s.fld (F.LMB_CTX_GAIN_GAIN0 x)),
   w 6 (s.fld (F.LMB_CTX_GAIN_GAIN1 x)), w 7 (s.fld (F.LMB_CTX_GAIN_GAIN2 x)), w 8 (s.fld (F.LMB_CTX_GAIN_GAIN3 x)), w 9 0]

/-- Housekeeping words wait for slots of a data line, and the port for a CONFIG latch. -/
def State.queueCfg (s : State) (line : Nat) (ws : List Word) : State :=
  { s with lamp := { s.lamp with
      cfg := s.lamp.cfg ++ ws.map (fun (w : Word) => (line, w))
      latch := s.lamp.latch.filter (· != line / 8) ++ [line / 8] } }

/-- R354: the staged registers of a context are sent again. -/
def State.configure (s : State) (x : Nat) : State :=
  (s.queueCfg (x / 8) (s.cfgWords x)).setFlag (F.LMB_CTX_STAT_INIT_PENDING x) true

/-- R354: one driver is initialised. -/
def State.initCtx (s : State) (x : Nat) : State :=
  ((s.queueCfg (x / 8) [hkWord 7 (x % 8) false 0]).configure x).setFlag (F.LMB_CTX_STAT_PRESENT x) false

/-- R354: every driver of a port is initialised. -/
def State.initPort (s : State) (p : Nat) : State :=
  let lines := (List.range 8).filter (fun l => s.fld (F.LMB_PORT_CTL_LINES p) / 2 ^ l % 2 == 1)
  let s1 := lines.foldl (fun t l => t.queueCfg (8 * p + l) [hkWord 7 0 true 0]) s
  (s1.portCtxs p).foldl (fun t x => (t.configure x).setFlag (F.LMB_CTX_STAT_PRESENT x) false) s1

/-- R354: every enabled port is initialised. -/
def State.initBus (s : State) : State :=
  ((List.range 64).filter (fun p => s.flag (F.LMB_PORT_CTL_EN p))).foldl State.initPort s

/-- R335, R355: a CONFIG latch on a port: writes that have all been sent take effect. -/
def State.configLatch (s : State) (p : Nat) : State :=
  if s.lamp.latch.contains p && !s.lamp.cfg.any (fun x => x.1 / 8 == p) then
    (s.portCtxs p).foldl (fun t x => t.setFlag (F.LMB_CTX_STAT_INIT_PENDING x) false)
      { s with lamp := { s.lamp with latch := s.lamp.latch.filter (· != p) } }
  else s

/-- R335, R355: the CONFIG latch of a Hatband: on every port in the mask that is not dark; a run inside a visit drops that
visit's housekeeping slot. -/
def State.hatbandLatch (s : State) (mask : Nat) : State :=
  ((List.range 64).filter (fun p => mask / 2 ^ p % 2 == 1 && !s.portDark p)).foldl (fun t p =>
    let u := t.configLatch p
    { u with lamp := { u.lamp with dropped := u.lamp.dropped.filter (· != p) ++ [p] } }) s

/-- What follows changes of Lamp Bus settings that have taken effect: ports and banks (R333, R354), contexts and scan. -/
def State.reactLamp (before s : State) : State :=
  if s.tileRole then
    let s1 := (List.range 8).foldl State.judgeBank s
    let on := (List.range 64).filter (fun p => !before.flag (F.LMB_PORT_CTL_EN p) && s1.flag (F.LMB_PORT_CTL_EN p))
    let s2 := if s1.lamp.started then on.foldl State.initPort s1 else s1
    let scan := before.reg 0x2C0010 != s2.reg 0x2C0010 || before.reg 0x2C0014 != s2.reg 0x2C0014
    let xs := ((List.range 4096).filter (fun x => s2.flag (F.LMB_CTX_CTL_EN x) && !on.contains (x / 64) &&
      s2.flag (F.LMB_PORT_CTL_EN (x / 64)) &&
      (scan || before.reg (0x2D0000 + 0x20 * x) != s2.reg (0x2D0000 + 0x20 * x) ||
        before.reg (0x2D0008 + 0x20 * x) != s2.reg (0x2D0008 + 0x20 * x))))
    if s2.lamp.started then
      xs.foldl (fun t x => if before.flag (F.LMB_CTX_CTL_EN x) then t.configure x else t.initCtx x) s2
    else s2
  else s

end Sys2Proof.Machine
end

