-- ==== Sys2Proof/Machine/Diag.lean ====
section
/-! DEFINITION. Lamp diagnostics: rounds, the tests of pairs, their results and the fault map (R370 to R386). -/

namespace Sys2Proof.Machine

/-! The fault map (R380 to R382) -/

/-- R388: the count of the lamps in a state. -/
def lampCount (st : Nat) : Fld :=
  match st with
  | 1 => F.LMB_DIAG_OPEN_LAMPS
  | 2 => F.LMB_DIAG_SHORT_LAMPS
  | _ => F.LMB_DIAG_MASKED_LAMPS

/-- R381: a lamp's counts are cleared. -/
def State.clearLampCounts (s : State) (l : Nat) : State :=
  { s with diag := { s.diag with counts := s.diag.counts.filter (fun (x : Nat × Nat × Nat × Nat) => x.1 != l) } }

/-- R380, R381: a lamp's state changes, with its counts and the counts of lamps. -/
def State.setLampState (s : State) (l st : Nat) : State :=
  let old := s.lampState l
  let h := storeAt faultMapBase + l / 8
  let s1 := (s.setHalf h (s.half h - old * 4 ^ (l % 8) + st * 4 ^ (l % 8))).clearLampCounts l
  let s2 := if old = 0 then s1 else s1.setFld (lampCount old) (s1.fld (lampCount old) - 1)
  if st = 0 then s2 else s2.setFld (lampCount st) (s2.fld (lampCount st) + 1)

/-- R382: a host write of one lamp's field. -/
def State.hostLamp (s : State) (l v : Nat) : State :=
  if l < 524288 then
    if (v = 0 ∨ v = 3) ∧ s.lampState l ≠ v then s.setLampState l v else s.clearLampCounts l
  else s

/-- R382: bytes written to the fault map window at a byte offset. -/
def State.hostFaultMap (s : State) (off : Nat) (bs : List Byte) : State :=
  (bs.zipIdx).foldl (fun t (p : Byte × Nat) =>
    (List.range 4).foldl (fun u i => u.hostLamp (4 * (off + p.2) + i) (p.1.toNat / 4 ^ i % 4)) t) s

/-! Samples (R377, R381, R384) -/

/-- A lamp's failing short samples, failing open samples and passes in a row. -/
def State.lampCounts (s : State) (l : Nat) : Nat × Nat × Nat :=
  ((s.diag.counts.find? (fun x => x.1 == l)).map (·.2)).getD (0, 0, 0)

/-- The state with a lamp's counts replaced. -/
def State.setLampCounts (s : State) (l : Nat) (c : Nat × Nat × Nat) : State :=
  { s with diag := { s.diag with counts := s.diag.counts.filter (fun (x : Nat × Nat × Nat × Nat) => x.1 != l) ++ [(l, c.1, c.2.1, c.2.2)] } }

/-- R384: DETAIL of a lamp's record. -/
def lampDetail (l x line c : Nat) (rest : List Byte) : List Byte :=
  leBytes 4 l ++ leBytes 1 (x / 64) ++ leBytes 1 line ++ leBytes 2 x ++ leBytes 1 c ++ rest

/-- R381: a lamp is confirmed OPEN (1) or SHORT (2). -/
def State.lampFails (s : State) (st l x line c : Nat) : State :=
  let s1 := (s.setLampState l st).event (if st = 1 then F.LMB_DIAG_EVT_LAMP_OPEN else F.LMB_DIAG_EVT_LAMP_SHORT)
  s1.fault 2 (0x0F + st) (lampDetail l x line c (leBytes 3 (s1.fld (lampCount st))))

/-- R381: a lamp recovers. -/
def State.lampRecovers (s : State) (l x line c : Nat) : State :=
  let old := s.lampState l
  ((s.setLampState l 0).event F.LMB_DIAG_EVT_LAMP_RECOVERED).fault 2 0x12 (lampDetail l x line c (leBytes 1 old))

/-- R381: a short sample of a lamp. -/
def State.shortSample (s : State) (l x line c : Nat) (fails : Bool) : State :=
  let (sf, of, ps) := s.lampCounts l
  let confirm := s.fld F.LMB_DIAG_CTL_CONFIRM
  match s.lampState l with
  | 3 => s
  | 2 =>
    if fails then s.setLampCounts l (0, 0, 0)
    else if s.fld F.LMB_DIAG_CTL_RECOVER ≤ ps + 1 then s.lampRecovers l x line c
    else s.setLampCounts l (0, 0, ps + 1)
  | _ =>
    if fails then
      if confirm ≤ sf + 1 then s.lampFails 2 l x line c else s.setLampCounts l (sf + 1, of, ps)
    else s.setLampCounts l (0, of, ps)

/-- R381: an open sample of a lamp. -/
def State.openSample (s : State) (l x line c : Nat) (fails : Bool) : State :=
  let (sf, of, ps) := s.lampCounts l
  match s.lampState l with
  | 0 =>
    if fails then
      if s.fld F.LMB_DIAG_CTL_CONFIRM ≤ of + 1 then s.lampFails 1 l x line c else s.setLampCounts l (sf, of + 1, ps)
    else s.setLampCounts l (sf, 0, ps)
  | 1 =>
    if fails then s.setLampCounts l (sf, of, 0)
    else if s.fld F.LMB_DIAG_CTL_RECOVER ≤ ps + 1 then s.lampRecovers l x line c
    else s.setLampCounts l (sf, of, ps + 1)
  | _ => s

/-- R377: a lamp has had a valid open sample in the present probe period. -/
def State.noteSampled (s : State) (l : Nat) : State :=
  { s with diag := { s.diag with sampled := s.diag.sampled.filter (· != l) ++ [l] } }

/-- R377, R381: the results of one channel of a pair: the short sample first. -/
def State.chanResult (s : State) (d : DiagPair) (opens shorts c : Nat) : State :=
  match s.lampOf d.ctx c d.line with
  | none => s
  | some l =>
    let s1 := s.shortSample l d.ctx d.line c (shorts / 2 ^ c % 2 == 1)
    let isOpen := opens / 2 ^ c % 2 == 1
    if s1.lampState l ≠ 3 ∧ (isOpen = true ∨ d.kind = 2 ∨ d.valid.contains c = true) then
      (s1.noteSampled l).openSample l d.ctx d.line c isOpen
    else s1

/-! Snapshot maps (R386) -/

/-- R386: the results of a snapshot's pass go into its probe map, OPEN in the lower bit and SHORT in the upper. -/
def State.mapProbe (s : State) (id x line opens shorts : Nat) : State :=
  (List.range (s.chans x)).foldl (fun t c =>
    match t.lampOf x c line with
    | none => t
    | some l =>
      let v := opens / 2 ^ c % 2 + 2 * (shorts / 2 ^ c % 2)
      { t with snaps := t.snaps.map (fun (sn : Snapshot) =>
          if sn.id = id then
            { sn with parts := sn.parts.map (fun (p : Nat × List Byte) =>
                if p.1 = 3 then
                  (3, p.2.modify (l / 4) (fun b => BitVec.ofNat 8 (b.toNat - b.toNat / 4 ^ (l % 4) % 4 * 4 ^ (l % 4) + v * 4 ^ (l % 4))))
                else p) }
          else sn) }) s

/-- R386: the pass of a snapshot is over once every pair has been read. -/
def State.snapPassEnds (s : State) : State :=
  match s.diag.snap with
  | none => s
  | some p =>
    if p.left = [] ∧ !s.diag.pairs.any (·.snap) then
      (({ s with diag := { s.diag with snap := none } } : State).setFlag F.LMB_DIAG_SNAP_STAT_DONE true).event F.LMB_DIAG_EVT_SNAP_DONE
    else s

/-! Pairs and rounds (R375 to R378) -/

/-- R375: the lamps of a pair. -/
def State.pairLamps (s : State) (x line : Nat) : List Nat := (List.range (s.chans x)).filterMap (fun c => s.lampOf x c line)

/-- R375, R386: a pair whose lamps are all MASKED. -/
def State.pairMasked (s : State) (x line : Nat) : Bool := (s.pairLamps x line).all (fun l => s.lampState l == 3)

/-- The last probe of a pair: its wall time and its maps. -/
def State.lastProbe (s : State) (x line : Nat) : Option (Nat × Nat × Nat) :=
  (s.diag.probes.find? (fun p => p.1 == (x, line))).map (·.2)

/-- R378: a pair was last probed more than PROBE_MS / 2 ago. -/
def State.probeFree (s : State) (x line : Nat) : Bool :=
  match s.lastProbe x line with
  | none => true
  | some p => decide (2 * p.1 + ofMs (s.fld F.LMB_DIAG_TIME_PROBE_MS) < 2 * s.wall)

/-- R375: the KIND of a pair's open test. -/
def State.pairKind (s : State) (probe : Bool) (x line : Nat) : Nat :=
  if probe && (s.pairLamps x line).any (fun l => s.lampState l != 3 && !s.diag.before.contains l) && s.probeFree x line then 2
  else 0

/-- R375: the pairs of every enabled context of class streamed or buffered on an enabled port. -/
def State.allPairs (s : State) : List (Nat × Nat) :=
  ((List.range 4096).filter (fun x => s.flag (F.LMB_CTX_CTL_EN x) && s.flag (F.LMB_PORT_CTL_EN (x / 64)) &&
    decide (s.fld (F.LMB_CTX_CTL_CLASS x) < 2))).flatMap (fun x => (List.range s.scanLines).map (fun line => (x, line)))

/-- The next pair of a context in a list; those wholly MASKED are passed over. -/
def State.nextPair (s : State) (x : Nat) (l : List (Nat × Nat)) : Option (Nat × Nat) :=
  l.find? (fun p => p.1 == x && !s.pairMasked p.1 p.2)

/-- R375, R386: contexts with no pair under test take their next one, a snapshot's pass before a round. -/
def State.startPairs (s : State) : State :=
  let xs := (((s.diag.snap.elim [] (·.left)) ++ (s.diag.round.elim [] (·.left))).map (·.1)).dedup
  xs.foldl (fun t x =>
    if t.diag.pairs.any (fun d => d.ctx == x) || t.portDark (x / 64) then t
    else
      match t.diag.snap with
      | some sp =>
        match t.nextPair x sp.left with
        | some p =>
          { t with diag := { t.diag with
              snap := some { sp with left := sp.left.filter (· != p) }
              pairs := t.diag.pairs ++ [⟨x, p.2, 2, .short, [], true⟩] } }
        | none => t
      | none =>
        match t.diag.round with
        | none => t
        | some r =>
          match t.nextPair x r.left with
          | some p =>
            { t with diag := { t.diag with
                round := some { r with left := r.left.filter (fun q => q.1 != x || decide (p.2 < q.2)) }
                pairs := t.diag.pairs ++ [⟨x, p.2, t.pairKind r.probe x p.2, .short, [], false⟩] } }
          | none => { t with diag := { t.diag with round := some { r with left := r.left.filter (fun q => q.1 != x) } } }) s

/-- The pair of a context replaced. -/
def State.setPair (s : State) (d : DiagPair) : State :=
  { s with diag := { s.diag with pairs := s.diag.pairs.map (fun (e : DiagPair) => if e.ctx = d.ctx then d else e) } }

/-- The pair of a context is over. -/
def State.dropPair (s : State) (x : Nat) : State :=
  { s with diag := { s.diag with pairs := s.diag.pairs.filter (fun (e : DiagPair) => e.ctx != x) } }

/-- R375: a round ends when no pair is left. -/
def State.roundEnds (s : State) : State :=
  match s.diag.round with
  | none => s
  | some r =>
    if r.left = [] ∧ !s.diag.pairs.any (fun d => !d.snap) then
      (({ s with diag := { s.diag with round := none } } : State).setFlag F.LMB_DIAG_STAT_ROUND_BUSY false).setFlag
        F.LMB_DIAG_STAT_PROBE_PASS false
    else s

/-- R343, R377: the on-time of a channel of the tested visit, in GCLK steps. -/
def onTime (g n r : Nat) : Nat := (g * n + 4096 * r) / 65536

/-- R343: the four bits of a refresh count, reversed. -/
def refreshCode (count : Nat) : Nat := reflectBits 4 (count % 16)

/-- R375, R377: a visit begins: pairs whose visit has ended are ready to be read; a pair whose tests have been sent runs in a
visit of its line. -/
def State.pairsAtVisit (s : State) (k : Nat) : State :=
  let line := k % s.scanLines
  let r := refreshCode (k / s.scanLines)
  s.diag.pairs.foldl (fun t d =>
    match d.phase with
    | .ran => t.setPair { d with phase := .ready }
    | .sent =>
      if d.line = line then
        let dark := t.flag (F.LMB_PORT_STAT_UPLOAD_LATE (d.ctx / 64)) && t.fld (F.LMB_CTX_CTL_CLASS d.ctx) == 1
        let valid := if dark then [] else (List.range (t.chans d.ctx)).filter (fun c =>
          decide (t.fld F.LMB_DIAG_CTL_MIN_WIDTH ≤ onTime (t.chanGrey t.tile.front d.ctx c line) t.pwm r))
        let u := t.setPair { d with phase := .ran, valid := valid }
        if d.kind = 2 then
          { u with diag := { u.diag with probes := u.diag.probes.filter (fun (p : (Nat × Nat) × Nat × Nat × Nat) => p.1 != (d.ctx, line)) ++
              [((d.ctx, line), u.wall, 0, 0)] } }
        else u
      else t
    | _ => t) s

/-- R375: the DIAG word of a pair's next test on a data line, and the state after it is sent. -/
def State.sendDiag (s : State) (line : Nat) : Option State :=
  match s.diag.pairs.find? (fun d => d.ctx / 8 == line && (d.phase == .short || d.phase == .test)) with
  | none => none
  | some d =>
    let kind := if d.phase = .short then 1 else d.kind
    let w := hkWord 5 (d.ctx % 8) false (kind * 2 ^ 22 + d.line * 2 ^ 17 + 0x3F * 2 ^ 11 + s.fld F.LMB_DIAG_CTL_MIN_WIDTH)
    some ((s.sendHk line w).setPair { d with phase := if d.phase = .short then .test else .sent })

/-- R377, R381, R386: a DIAG return frame for a pair. -/
def State.diagResult (s : State) (x opens shorts : Nat) : State :=
  match s.diag.pairs.find? (fun d => d.ctx == x && d.phase == .asked) with
  | none => s
  | some d =>
    let s1 := (List.range (s.chans x)).foldl (fun t c => t.chanResult d opens shorts c) s
    let s2 : State := if d.kind = 2 then
      { s1 with diag := { s1.diag with probes := s1.diag.probes.map (fun (p : (Nat × Nat) × Nat × Nat × Nat) =>
          if p.1 = (x, d.line) then (p.1, p.2.1, opens, shorts) else p) } } else s1
    let s3 := if d.snap then s2.mapProbe (s2.diag.snap.elim 0 (·.id)) x d.line opens shorts else s2
    ((s3.dropPair x).roundEnds).snapPassEnds

/-- R376: a DIAG_READ that ends in NO_ECHO. -/
def State.diagLost (s : State) (x : Nat) : State :=
  ((((s.event F.LMB_DIAG_EVT_DIAG_LOST).dropPair x).roundEnds).snapPassEnds)

/-- R375: a round starts, late or in time. -/
def State.startRound (s : State) (slip : Bool) : State :=
  let s1 := if slip then s.event F.LMB_DIAG_EVT_ROUND_SLIP else s
  let s2 : State := { s1 with diag := { s1.diag with
    lastRound := s1.cycles
    due := false
    round := some ⟨s1.diag.due, s1.allPairs.filter (fun p => !s1.portDark (p.1 / 64))⟩ } }
  ((((s2.setFlag F.LMB_DIAG_STAT_ROUND_BUSY true).setFlag F.LMB_DIAG_STAT_PROBE_PASS s1.diag.due).wrapInc
    F.LMB_DIAG_STAT_ROUNDS).startPairs).roundEnds

/-- ROUND_START (R375): ROUND_MS after the start of the previous round, or at its end if that is later. -/
def execRoundStart (s : State) : Host.Outcome State Fault Refusal :=
  .next (if s.mode = .tile ∧ s.flag F.LMB_DIAG_CTL_EN = true ∧ s.diag.round = none then
    let at_ := s.diag.lastRound + msCycles (s.fld F.LMB_DIAG_TIME_ROUND_MS)
    (s.untilCycle at_).startRound (decide (at_ < s.cycles ∧ 0 < s.fld F.LMB_DIAG_STAT_ROUNDS))
  else s)

/-- PROBE_PERIOD_END (R375): a whole multiple of PROBE_MS of wall time. The first round that starts from then on carries the
probe pass. -/
def execProbePeriodEnd (s : State) : Host.Outcome State Fault Refusal :=
  .next (if s.tileRole then
    let p := ofMs (max 1 (s.fld F.LMB_DIAG_TIME_PROBE_MS))
    let s1 := s.untilWall ((s.wall / p + 1) * p)
    { s1 with diag := { s1.diag with due := true, before := s1.diag.sampled, sampled := [] } }
  else s)

/-- R386: a snapshot with CONTENT bit 3 starts its probe pass; pairs probed a short while ago give their last result. -/
def State.startSnapPass (s : State) (id : Nat) : State :=
  let ps := s.allPairs.filter (fun p => !s.pairMasked p.1 p.2)
  let again := ps.filter (fun p => s.probeFree p.1 p.2)
  let reused := ps.filter (fun p => !s.probeFree p.1 p.2)
  let s1 := ((s.setFld F.LMB_DIAG_SNAP_ID_ID id).setFlag F.LMB_DIAG_SNAP_STAT_DONE false).setFld F.LMB_DIAG_SNAP_STAT_REUSED
    reused.length
  let s2 := reused.foldl (fun t p =>
    match t.lastProbe p.1 p.2 with
    | some q => t.mapProbe id p.1 p.2 q.2.1 q.2.2
    | none => t) s1
  ({ s2 with diag := { s2.diag with snap := some ⟨id, again⟩ } } : State).snapPassEnds

/-- FAULT_MAP window bytes (R382) as host software reads them. -/
def State.faultMapBytes (s : State) (off n : Nat) : List Byte := s.storeBytes (faultMapBase + off) n

end Sys2Proof.Machine
end

