-- ==== Sys2Proof/Machine/Lamp.lean ====
section
/-! DEFINITION. The Lamp Bus in time: visits, housekeeping slots, return frames, uploads, the Visor, and the latch at a flip
(R332 to R361). -/

namespace Sys2Proof.Machine

/-! Return frames (R351 to R353) -/

/-- R352: the frame that a port awaits. -/
def State.awaited (s : State) (p : Nat) : Option Await := s.lamp.awaits.find? (fun a => a.port == p)

/-- The port awaits nothing. -/
def State.endAwait (s : State) (p : Nat) : State :=
  ({ s with lamp := { s.lamp with awaits := s.lamp.awaits.filter (fun (a : Await) => a.port != p) } } : State).setFlag
    (F.LMB_PORT_STAT_RTN_BUSY p) false

/-- A port awaits a frame. -/
def State.startAwait (s : State) (a : Await) : State :=
  ({ s with lamp := { s.lamp with awaits := s.lamp.awaits ++ [a] } } : State).setFlag (F.LMB_PORT_STAT_RTN_BUSY a.port) true

/-- R350, R353: an ECHO goes to a context. -/
def State.sendEcho (s : State) (x : Nat) : State :=
  let r := s.ctxRun x
  let s1 := (s.sendHk (x / 8) (hkWord 1 (x % 8) false 0)).setCtxRun { r with crc := 0xFFFF, polled := s.cycles }
  let s2 : State := { s1 with lamp := { s1.lamp with polls := s1.lamp.polls.filter (fun (q : Nat × Nat) => q.1 != x / 64) ++ [(x / 64, x)]
                                                     diagTurn := s1.lamp.diagTurn.filter (· != x / 64) } }
  s2.startAwait ⟨x / 64, x, 0, r.crc⟩

/-- R353: after three in a row on one context its driver is initialised again. -/
def State.noteBad (s : State) (r : CtxRun) : State :=
  if r.bad = 3 then (s.setCtxRun { r with bad := 0 }).initCtx r.ctx else s.setCtxRun r

/-- R352, R353: NO_ECHO on a context. -/
def State.noEcho (s : State) (x : Nat) : State :=
  let r := s.ctxRun x
  let s1 := (s.eventCount F.LMB_EVT_NO_ECHO (F.LMB_CTX_CNT_NO_ECHO_COUNT x)).noteBad
    { r with bad := r.bad + 1, silent := r.silent + 1 }
  if r.silent + 1 = 3 then
    ((s1.setFlag (F.LMB_CTX_STAT_ABSENT x) true).event F.LMB_EVT_ABSENT).fault 2 3 (leBytes 2 x)
  else s1

/-- R350, R353: the flags of a status word that are reported. -/
def statusFlags (w : Nat) : Bool := w / 4096 % 16 != 0 || w / 1024 % 2 == 1

/-- R353: an ECHO return from a context. -/
def State.echoReturn (s : State) (a : Await) (status check : Nat) : State :=
  let x := a.ctx
  let r := s.ctxRun x
  let s1 := ((s.setFld (F.LMB_CTX_STAT_STATUS x) status).setFlag (F.LMB_CTX_STAT_PRESENT x) true).setFlag
    (F.LMB_CTX_STAT_ABSENT x) false
  let s2 := (s1.setFld (F.LMB_CTX_ECHO_EXPECT x) a.expect).setFld (F.LMB_CTX_ECHO_CHECK x) check
  let s3 := if statusFlags status then (s2.event F.LMB_EVT_DRV_FLAG).fault 2 7 (leBytes 2 x ++ [0, 0, 0, 0] ++ leBytes 2 status)
    else s2
  if check = a.expect then s3.setCtxRun { r with bad := 0, silent := 0 }
  else
    ((s3.eventCount F.LMB_EVT_ECHO_MISMATCH (F.LMB_CTX_CNT_ECHO_ERR_COUNT x)).fault 2 2
      (leBytes 2 x ++ leBytes 2 a.expect ++ [0, 0] ++ leBytes 2 check ++ leBytes 2 status)).noteBad
        { r with bad := r.bad + 1, silent := 0 }

/-- R351: the CRC-8 of a return frame. -/
def returnCrc (header : Nat) (words : List Nat) : Nat :=
  words.foldl (fun a w => crcBits 8 0x07 16 a w) (crcBits 8 0x07 8 0 header)

/-- R351: the payload words of a TYPE. -/
def returnLen (kind : Nat) : Nat := match kind with | 0 => 2 | 1 => 1 | _ => 8

/-- R351, R352: whether a frame is the one awaited, and good. -/
def frameGood (a : Await) (header : Nat) (words : List Nat) (crc : Nat) : Bool :=
  header == a.ctx % 8 * 32 + a.ctx / 8 % 8 * 4 + a.kind && words.length == returnLen a.kind && returnCrc header words == crc

/-- R351: four 16-bit words, the highest first, as a map of 64 channels. -/
def mapOf (ws : List Nat) : Nat := ws.foldl (fun a w => a * 65536 + w % 65536) 0

/-- R352, R376: the frame awaited is lost. -/
def State.returnLost (s : State) (a : Await) : State :=
  let s1 := (s.endAwait a.port).noEcho a.ctx
  if a.kind = 2 then s1.diagLost a.ctx else s1

/-- RETURN_FRAME (R351 to R353, R377, R381). -/
def execReturnFrame (port header : Nat) (words : List Nat) (crc : Nat) (s : State) : Host.Outcome State Fault Refusal :=
  .next (match s.awaited port with
    | none => s
    | some a =>
      if frameGood a header words crc then
        let s1 := s.endAwait port
        match a.kind with
        | 0 => s1.echoReturn a (words.getD 0 0) (words.getD 1 0)
        | 2 => (s1.setCtxRun { s1.ctxRun a.ctx with silent := 0 }).diagResult a.ctx (mapOf (words.take 4)) (mapOf (words.drop 4))
        | _ => s1
      else s.returnLost a)

/-- RETURN_TIMEOUT (R352): no start bit within 24 cycles of its expected start. -/
def execReturnTimeout (port : Nat) (s : State) : Host.Outcome State Fault Refusal :=
  .next (match s.awaited port with
    | none => s
    | some a => s.returnLost a)

/-- ABSENT_POLL (R353): an ABSENT context is polled once every 100 ms. -/
def execAbsentPoll (ctx : Nat) (s : State) : Host.Outcome State Fault Refusal :=
  .next (if s.flag (F.LMB_CTX_STAT_ABSENT ctx) ∧ s.flag (F.LMB_CTX_CTL_EN ctx) ∧ s.portDark (ctx / 64) = false ∧
      s.awaited (ctx / 64) = none then
    (s.untilCycle ((s.ctxRun ctx).polled + msCycles 100)).sendEcho ctx
  else s)

/-! Housekeeping slots (R348, R353, R376) -/

/-- R353: the next context of a port to be polled, round robin; ABSENT ones are left to their own poll. -/
def State.nextEcho (s : State) (p : Nat) : Option Nat :=
  let xs := (s.portCtxs p).filter (fun x => !s.flag (F.LMB_CTX_STAT_ABSENT x))
  let last := ((s.lamp.polls.find? (fun q => q.1 == p)).map (·.2)).getD (64 * p + 63)
  match xs.find? (fun x => decide (last < x)) with
  | some x => some x
  | none => xs.head?

/-- R375, R376: a pair of a port whose DIAG_READ is due. -/
def State.dueRead (s : State) (p : Nat) : Option DiagPair := s.diag.pairs.find? (fun d => d.ctx / 64 == p && d.phase == .ready)

/-- R375: DIAG_READ goes to a context. -/
def State.sendRead (s : State) (d : DiagPair) : State :=
  let p := d.ctx / 64
  let s1 := (s.sendHk (d.ctx / 8) (hkWord 6 (d.ctx % 8) false 0)).setPair { d with phase := .asked }
  let s2 : State := { s1 with lamp := { s1.lamp with diagTurn := s1.lamp.diagTurn.filter (· != p) ++ [p] } }
  s2.startAwait ⟨p, d.ctx, 2, 0⟩

/-- R352, R376: the command that asks for a return frame on a port, where one may go: the data line whose slot it takes. -/
def State.askReturn (s : State) (p : Nat) : State × Option Nat :=
  if (s.awaited p).isSome then (s, none)
  else
    match s.dueRead p, s.nextEcho p with
    | some d, some x =>
      if s.lamp.diagTurn.contains p then (s.sendEcho x, some (x / 8)) else (s.sendRead d, some (d.ctx / 8))
    | some d, none => (s.sendRead d, some (d.ctx / 8))
    | none, some x => (s.sendEcho x, some (x / 8))
    | none, none => (s, none)

/-- R345, R348: from the end of a build to its flip, uploads hold the slots of a buffered line. -/
def State.uploadHolds (s : State) (line : Nat) : Bool := s.lamp.upload.isSome && !(s.lineCtxs line 1).isEmpty

/-- R348: a slot of a data line that no return-asking command takes: driver configuration, then DIAG. True: it is used. -/
def State.useSlot (s : State) (line : Nat) : State × Bool :=
  match s.lamp.cfg.find? (fun c => c.1 == line) with
  | some c => (({ s with lamp := { s.lamp with cfg := s.lamp.cfg.erase c } } : State).sendHk line c.2, true)
  | none =>
    match s.sendDiag line with
    | some t => (t, true)
    | none => (s, false)

/-- R348: the slots of a port at the end of a visit; the count of those left unused. -/
def State.portSlots (s : State) (p : Nat) : State × Nat :=
  let lines := (List.range 8).filter (fun l => s.fld (F.LMB_PORT_CTL_LINES p) / 2 ^ l % 2 == 1)
  let (s1, took) := s.askReturn p
  lines.foldl (fun (acc : State × Nat) l =>
    let line := 8 * p + l
    if took = some line ∨ acc.1.uploadHolds line = true then acc
    else
      let (t, used) := acc.1.useSlot line
      (t, acc.2 + (!used).toNat)) (s1, 0)

/-- R348, R361: the housekeeping slots of the visit that ends. A port with a Hatband in the visit has none. -/
def State.housekeeping (s : State) : State :=
  if s.mode = .tile then
    let s0 := s.startPairs
    let ps := (List.range 64).filter (fun p => !s0.portDark p && !s0.lamp.dropped.contains p)
    let (s1, free) := ps.foldl (fun (acc : State × Nat) p =>
      let (t, n) := acc.1.portSlots p
      (t, acc.2 + n)) (s0, 0)
    ({ s1 with lamp := { s1.lamp with dropped := [] } } : State).setFld F.LMB_STAT_SLOTS_FREE free
  else { s with lamp := { s.lamp with dropped := [] } }

/-! The Visor (R358, R359) -/

/-- R358: a pin reads back wrong. -/
def State.visorMiss (s : State) (m : VisorMiss) : State :=
  let was := s.bit (F.LMB_PORT_STAT_VISOR m.port) m.pin
  let visit := s.fld F.LMB_STAT_VISIT
  let s1 := ((s.setBit (F.LMB_PORT_STAT_VISOR m.port) m.pin true).bump (F.LMB_PORT_VISOR_CNT_MISMATCH_COUNT m.port)).event
    F.LMB_EVT_VISOR_MISMATCH
  let s2 := if was then s1 else
    ((s1.setFld (F.LMB_PORT_VISOR_CNT_FIRST_VISIT m.port) visit).setFld (F.LMB_PORT_VISOR_FIRST_PIN m.port) m.pin).setFld
      (F.LMB_PORT_VISOR_FIRST_CYCLE m.port) m.cycle
  let s3 := s2.fault 2 1 (leBytes 4 (s2.flip.last.getD 0 % 2 ^ 32) ++ leBytes 1 m.port ++ leBytes 1 m.pin ++ leBytes 2 visit)
  if s3.flag F.LMB_CTL_VISOR_ACT then
    { s3 with lamp := { s3.lamp with visorDark := s3.lamp.visorDark.filter (· != m.port) ++ [m.port] } }
  else s3

/-- The bits of word `i` of a data line that read back wrong. -/
def missMask (ms : List VisorMiss) (line i : Nat) : Nat :=
  ((ms.filter (fun m => 8 * m.port + m.pin == line && decide (m.pin < 8) && m.word == i)).map (·.mask)).foldl Nat.xor 0

/-- A 16-bit word into a check, as two bytes, the low one first (R359). -/
def checkWord (acc w : Nat) : Nat := crc32cMore acc (leBytes 2 w)

/-- R337, R350, R359: the grey transfers of a visit: what the echo checks and the Visor's checks take of them. -/
def State.greyTransfers (s : State) (k : Nat) (ms : List VisorMiss) : State :=
  let line := (k + 1) % s.scanLines
  ((List.range 512).filter (fun l => !s.portDark (l / 8))).foldl (fun t l =>
    let xs := t.lineCtxs l 0
    let ws := xs.flatMap (fun x => t.greyWords x line)
    let t1 := xs.foldl (fun u x => u.coverWords x (u.greyWords x line)) t
    match t1.lamp.visor with
    | some v =>
      let got := (ws.zipIdx).foldl (fun a (p : Nat × Nat) => checkWord a (p.1 ^^^ missMask ms l p.2)) v.got
      { t1 with lamp := { t1.lamp with visor := some { v with got := got, want := ws.foldl checkWord v.want } } }
    | none => t1) s

/-- R359: the Visor's check is complete after the last visit of the refresh. -/
def State.visorEnds (s : State) (k : Nat) : State :=
  match s.lamp.visor with
  | none => s
  | some v =>
    if k + 1 < s.scanLines then s
    else
      let done (a : Nat) (ws : List Nat) : Nat := (crc32cDone (ws.foldl checkWord a)).toNat
      let s1 := (s.setFld F.LMB_VISOR_FLIP_FLIP_LO (v.flip % 2 ^ 32)).setFld F.LMB_VISOR_CHECK_CHECK (done v.got v.upGot)
      let s2 := s1.setFld F.LMB_VISOR_EXPECT_CHECK (done v.want v.upWant)
      { s2 with lamp := { s2.lamp with visor := none } }

/-! Visits (R341, R342) -/

/-- A visit begins: its LINE latch, its grey transfers, and what the Visor reads back wrong in it. -/
def State.beginVisit (s : State) (k : Nat) (ms : List VisorMiss) : State :=
  let s1 := (s.setFld F.LMB_STAT_VISIT k).pairsAtVisit k
  let up := ms.filter (fun m => decide (m.pin < 8) && s1.uploadHolds (8 * m.port + m.pin))
  let s2 : State := { s1 with lamp := { s1.lamp with
    upMiss := s1.lamp.upMiss ++ up.map (fun (m : VisorMiss) => (8 * m.port + m.pin, m.word, m.mask)) } }
  let s3 := (s2.greyTransfers k ms).visorEnds k
  (ms.filter (fun m => decide (m.port < 64 ∧ m.pin < 10))).foldl State.visorMiss s3

/-- VISIT_START (R341): the visit in progress ends with its housekeeping slots, and the next one begins at its E_k. -/
def execVisitStart (misses : List VisorMiss) (s : State) : Host.Outcome State Fault Refusal :=
  .next (match s.lamp.e0 with
    | none => s
    | some e =>
      let k := s.fld F.LMB_STAT_VISIT + 1
      if s.tileRole ∧ k < s.visitCount then
        ((s.untilWall (e + ofNs (10 * s.visitCycle k))).housekeeping).beginVisit k misses
      else s)

/-! Uploads (R344, R345) -/

/-- R345: the words of an upload on a data line that fit a number of cycles, with the context of each FRAME_DATA. -/
def State.uploadWords (s : State) : List Nat → Nat → List (Nat × List Nat)
  | [], _ => []
  | x :: xs, cycles =>
    let ws := s.bankWords x
    if cycles < 33 then []
    else (x, ws.take ((cycles - 33) / 16)) :: (if 33 + 16 * ws.length ≤ cycles then s.uploadWords xs (cycles - 33 - 16 * ws.length) else [])

/-- R345: the cycles that a data line's upload needs. -/
def State.uploadNeed (s : State) (line : Nat) : Nat :=
  ((s.lineCtxs line 1).map (fun x => 33 + 16 * (s.chans x * s.scanLines))).sum

/-- R336, R345: the cycles that a line has between two wall times: each LINE latch between them takes two. -/
def State.uploadRoom (s : State) (from_ upTo : Nat) : Nat :=
  let e := s.lamp.e0.getD 0
  let runs := ((List.range s.visitCount).filter (fun k =>
    let x := e + ofNs (10 * s.visitCycle k)
    decide (from_ < x ∧ x < upTo))).length
  (upTo - from_) / ofNs 10 - 2 * runs

/-- R342: E_0 of a flip: the first CLK_LB edge at or after its time. -/
def edgeFrom (w : Nat) : Nat := (w + ofNs 10 - 1) / ofNs 10 * ofNs 10

/-- R345, R350: the upload of a flip ends at a wall time: the checks take what was sent, and the Visor's words are kept.
True for a port whose upload is unfinished. -/
def State.endUpload (s : State) (from_ upTo : Nat) : State × List Nat × List Nat × List Nat :=
  let room := s.uploadRoom from_ upTo
  let (s1, cut, got, want) := ((List.range 512).filter (fun l => !s.portDark (l / 8) && !(s.lineCtxs l 1).isEmpty)).foldl
    (fun (acc : State × List Nat × List Nat × List Nat) l =>
      let (t, cut, got, want) := acc
      let sent := t.uploadWords (t.lineCtxs l 1) room
      let t1 := sent.foldl (fun (u : State) (q : Nat × List Nat) =>
        u.coverWords q.1 (halves (hkWord 4 (q.1 % 8) false ((u.chans q.1 * u.scanLines - 1) * 4)) ++ q.2)) t
      let ws := sent.flatMap (·.2)
      let miss (i : Nat) : Nat := ((t1.lamp.upMiss.filter (fun (m : Nat × Nat × Nat) => m.1 == l && m.2.1 == i)).map (·.2.2)).foldl Nat.xor 0
      (t1, if room < t.uploadNeed l then cut ++ [l / 8] else cut,
        got ++ (ws.zipIdx).map (fun (p : Nat × Nat) => p.1 ^^^ miss p.2), want ++ ws)) (s, [], [], [])
  ({ s1 with lamp := { s1.lamp with upload := none, upMiss := [] } }, cut.dedup, got, want)

/-- R345: the ports whose upload is unfinished get FRAME_DARK. -/
def State.cutPorts (s : State) (flip : Nat) (ps : List Nat) : State :=
  ps.foldl (fun t p =>
    let u := ((t.setFlag (F.LMB_PORT_STAT_UPLOAD_LATE p) true).event F.LMB_EVT_UPLOAD_LATE).bump F.LMB_CNT_UPLOAD_LATE_COUNT
    u.fault 2 5 (leBytes 4 (flip % 2 ^ 32) ++ leBytes 1 p)) { s with lamp := { s.lamp with cut := ps } }

/-- R345, R359: the upload of a flip ends; its words wait for the Visor's check. -/
def State.closeUpload (s : State) (flip upTo : Nat) : State :=
  match s.lamp.upload with
  | none => s
  | some from_ =>
    let (s1, cut, got, want) := s.endUpload from_ upTo
    let s2 : State := { s1 with lamp := { s1.lamp with visor := some ⟨flip, 0, 0, got, want⟩ } }
    s2.cutPorts flip cut

/-- UPLOAD_DEADLINE (R345): 2 cycles before the run at E_0 must begin. -/
def execUploadDeadline (s : State) : Host.Outcome State Fault Refusal :=
  .next (match s.lamp.upload, s.tile.next with
    | some _, some n =>
      let len := if s.lamp.latch = [] then 4 else 8
      let at_ := edgeFrom (s.flipTime n) - ofNs (10 * (len + 2))
      (s.untilWall at_).closeUpload n at_
    | _, _ => s)

/-! The latch at a flip (R342, R354) -/

/-- R342: a flip falls off the expected visit grid. -/
def State.judgeSlip (s : State) (n e : Nat) : State :=
  match s.lamp.e0 with
  | none => s
  | some e0 =>
    let d := (e - e0) / ofNs 10
    let num := max 1 (s.fld F.LMB_SCAN_RATE_NUM)
    let p := s.fld F.LMB_SCAN_RATE_DEN * 10 ^ 8
    if d < p / num ∨ (p + num - 1) / num < d then
      ((s.event F.LMB_EVT_SCAN_SLIP).bump F.LMB_CNT_SLIP_COUNT).fault 2 6
        (leBytes 4 (n % 2 ^ 32) ++ [0, 0] ++ leBytes 2 (s.fld F.LMB_STAT_VISIT + 1))
    else s

/-- R342, R344, R359: FRAME, FRAME and CONFIG, or FRAME_DARK on every port; the Visor's check of the refresh begins. -/
def State.frameRun (s : State) (n : Nat) : State :=
  let s1 := (List.range 64).foldl (fun t p =>
    (t.setFlag (F.LMB_PORT_STAT_UPLOAD_LATE p) (t.lamp.cut.contains p)).configLatch p) s
  let up := s1.lamp.visor.elim ([], []) (fun v => if v.flip = n then (v.upGot, v.upWant) else ([], []))
  { s1 with lamp := { s1.lamp with cut := [], visor := some ⟨n, crc32cInit, crc32cInit, up.1, up.2⟩ } }

/-- R354, R358: the bus first runs, or ports that the Visor held dark run again: their drivers are initialised. -/
def State.busStarts (s : State) : State :=
  let s1 := s.lamp.visorDark.foldl (fun t p => t.initPort p) { s with lamp := { s.lamp with visorDark := [] } }
  if !s1.lamp.started && s1.mode == .tile && s1.flag F.LMB_CTL_EN && s1.tile.built then
    ({ s1 with lamp := { s1.lamp with started := true } } : State).initBus
  else s1

/-- R342: E_0 of flip n at a tile, once its uploads have ended. `built` says that a build was made for it. -/
def State.lampFlip (s : State) (n : Nat) (built : Bool) (misses : List VisorMiss) : State :=
  let e := edgeFrom s.wall
  let s1 := (s.judgeSlip n e).housekeeping.busStarts
  let s2 := if built then s1.frameRun n else s1
  ({ s2 with lamp := { s2.lamp with e0 := some e } } : State).beginVisit 0 misses

end Sys2Proof.Machine
end

