-- ==== Sys2Proof/Machine/Lanes.lean ====
section
/-! DEFINITION. Serial lanes: training, transmit sets, KNUCKLE, lane loss, adaptation, recalibration, eye figures and PRBS
tests (R272 to R300). -/

namespace Sys2Proof.Machine

/-! Lanes and ports (R272, R280) -/

/-- R272: the chain port of a lane of this device, where it has one. -/
def State.laneOfPort (s : State) (n : Nat) : Option Nat :=
  if n < (if s.tileRole then 8 else 32) then some (n / 4) else none

/-- R296: the lanes that the device has: on a tile those of its two ports. -/
def State.hasLane (s : State) (n : Nat) : Bool := decide (n < (if s.tileRole then 8 else 52))

/-- R269: whether a port is enabled; a tile's always are. -/
def State.portOn (s : State) (p : Nat) : Bool := s.tileRole || s.flag (F.MLK_PORT_CTL_EN p)

/-- The lanes of a port that are configured, as a mask. -/
def State.configured (s : State) (p : Nat) : Nat := if s.portOn p then 2 ^ s.fld (F.MLK_PORT_CTL_LANES p) - 1 else 0

/-- A lane of a mask. -/
def laneIn (mask l : Nat) : Bool := mask / 2 ^ l % 2 == 1

/-- The count of lanes in a mask of four bits. -/
def maskCount (m : Nat) : Nat := ((List.range 4).map (fun l => m / 2 ^ l % 2)).sum

/-- The lanes that a predicate selects, as a mask. -/
def laneMask (p : Nat → Bool) : Nat := ((List.range 4).map (fun l => (p l).toNat * 2 ^ l)).sum

/-- R280: the state of a lane: 0 OFF, 1 TRAIN, 2 READY, 3 IN_SET, 4 LOST. -/
def State.laneMode (s : State) (n : Nat) : Nat := s.fld (F.SER_LANE_STAT_STATE n)

/-- R280: a lane begins to train; its pass time starts. -/
def State.trainLane (s : State) (n : Nat) : State :=
  { s.setFld (F.SER_LANE_STAT_STATE n) 1 with
    lanes := { s.lanes with since := s.lanes.since.filter (fun x => x.1 != n) ++ [(n, s.cycles)] } }

/-- R280: the lanes of an enabled port begin to train. -/
def State.portLanesOn (s : State) (p : Nat) : State :=
  ((List.range 4).filter (laneIn (s.configured p))).foldl (fun t l => t.trainLane (4 * p + l)) s

/-- R272, R280: the lanes of a disabled port are off, and its segment DOWN. -/
def State.portLanesOff (s : State) (p : Nat) : State :=
  let s1 := (List.range 4).foldl (fun t l => t.setReg (F.SER_LANE_STAT_STATE (4 * p + l)).addr 0) s
  let s2 := (s1.setFld (F.SER_PORT_STAT_TX_SET p) 0).setFld (F.SER_PORT_STAT_RX_SET p) 0
  ((s2.setFld (F.MLK_PORT_STAT_LANES_UP p) 0).setFld (F.SER_PORT_STAT_PRESENT p) 0).portDown p

/-- R298: the quad registers as the settings make them. -/
def State.quads (s : State) : State :=
  (List.range 13).foldl (fun t q =>
    let func := if t.tileRole then (if q < 2 then 1 else 0)
      else if q < 8 then 1 else if q < 10 then 2 else if q < 12 then 3 else 4
    let on := if t.tileRole then decide (q < 2)
      else if q < 8 then t.portOn q
      else if q = 8 then t.flag (F.NET_CTL_EN 0)
      else if q = 9 then t.flag (F.NET_CTL_EN 1)
      else true
    ((t.setFld (F.SER_QUAD_STAT_FUNC q) func).setFlag (F.SER_QUAD_STAT_POWERED q) on).setFlag (F.SER_QUAD_STAT_PLL_LOCK q) on) s

/-! Widths (R284, R285) -/

/-- R284: the WMIN that a device puts into the KNUCKLEs of a port. -/
def State.wminOut (s : State) (p : Nat) : Nat :=
  if s.tileRole then
    let q := otherPort p
    let w := maskCount (s.fld (F.SER_PORT_STAT_TX_SET q))
    if w = 0 then (let own := maskCount (s.fld (F.SER_PORT_STAT_TX_SET p)); if own = 0 then 4 else own)
    else min w (s.fld (F.SER_PORT_STAT_WMIN_RX q))
  else 4

/-- R284, R285: a port's width after its set or its WMIN has changed; a sender's present width acts at the next latch. -/
def State.updateWidth (s : State) (p : Nat) : State :=
  let w := maskCount (s.fld (F.SER_PORT_STAT_TX_SET p))
  let s1 := s.setFld (F.MLK_PORT_STAT_LANES_UP p) w
  if s1.tileRole then s1
  else
    let now := min w (s1.fld (F.SER_PORT_STAT_WMIN_RX p))
    if now = s1.fld (F.SER_PORT_STAT_PRESENT p) then s1
    else { s1.setFld (F.SER_PORT_STAT_PRESENT p) now with scan := { s1.scan with widthChanged := true } }

/-- R233, R281, R300: a segment whose two directions both have a set has trained; one without a lane is DOWN. -/
def State.checkTrained (s : State) (p : Nat) : State :=
  let tx := s.fld (F.SER_PORT_STAT_TX_SET p)
  let rx := s.fld (F.SER_PORT_STAT_RX_SET p)
  if tx ≠ 0 ∧ rx ≠ 0 then (if s.fld (F.MLK_PORT_STAT_STATE p) = 0 then s.setPortMode p 1 else s)
  else if s.fld (F.MLK_PORT_STAT_STATE p) = 0 then s
  else s.portDown p

/-- R283, R298: a set that changes counts as a re-striping. -/
def State.setLaneSet (s : State) (p : Nat) (f : Fld) (v : Nat) : State :=
  if s.fld f = v then s
  else (((s.setFld f v).bump (F.SER_PORT_CNT_RESTRIPE_COUNT p)).event F.SER_EVT_RESTRIPE)

/-- R233: the lanes of a port train again, and it has no sets until they have. -/
def State.retrainPort (s : State) (p : Nat) : State :=
  let s1 := (s.setLaneSet p (F.SER_PORT_STAT_TX_SET p) 0).setLaneSet p (F.SER_PORT_STAT_RX_SET p) 0
  ({ s1 with lanes := { s1.lanes with rxOk := s1.lanes.rxOk.filter (fun (x : Nat × Nat × Nat) => x.1 != p) } }.updateWidth p).portLanesOn p

/-- HELLO_TIMEOUT (R233): 10 ms with no HELLO; the segment is DOWN and its lanes retrain. -/
def execHelloTimeout (port : Nat) (s : State) : Host.Outcome State Fault Refusal :=
  .next (if s.portList.contains port ∧ s.fld (F.MLK_PORT_STAT_STATE port) = 1 then
    ((s.untilCycle ((s.port port).lastHello + msCycles 10)).portDown port).retrainPort port
  else s)

/-! Losing a lane (R282, R283) -/

/-- R280, R282: a lane is lost. One that is IN_SET is LOST; one in TRAIN or READY trains again. -/
def State.loseLane (s : State) (n : Nat) : State :=
  match s.laneMode n with
  | 3 =>
    let s1 := ((s.setFld (F.SER_LANE_STAT_STATE n) 4).event (F.SER_LANE_EVT_LOST n)).event F.SER_EVT_LANE_LOST
    { s1 with lanes := { s1.lanes with lost := n :: s1.lanes.lost.filter (· != n) } }
  | 1 | 2 => s.trainLane n
  | _ => s

/-- R282, R283: from the detection on the receiver treats the stream as broken: the unit in progress is abandoned. A port
that receives on no lane any more is DOWN. -/
def State.laneLost (s : State) (n : Nat) (hiBer skewed relayed : Bool) : State :=
  match s.laneOfPort n with
  | none => s
  | some p =>
    let was := s.laneMode n = 3
    let s1 := if hiBer then s.event (F.SER_LANE_EVT_HI_BER n) else s
    let s2 := if skewed then (s1.event (F.SER_LANE_EVT_DESKEW_ERR n)).event F.SER_EVT_DESKEW_ERR else s1
    let s3 := ((s2.setFlag (F.SER_LANE_STAT_CDR_LOCK n) (hiBer || skewed)).setFlag (F.SER_LANE_STAT_BLOCK_LOCK n) skewed).loseLane n
    if was then
      let s4 := if relayed then s3.relayAbort p else s3
      if (List.range 4).all (fun l => s4.laneMode (4 * p + l) != 3) then (s4.setLaneSet p (F.SER_PORT_STAT_RX_SET p) 0).checkTrained p
      else s4
    else s3

/-- LANE_LOST (R282). `hiBer` marks a loss by sync headers or BIP, `skewed` one by skew, and `relayed` that a unit was
being relayed. -/
def execLaneLost (lane : Nat) (hiBer skewed relayed : Bool) (s : State) : Host.Outcome State Fault Refusal :=
  .next (if s.hasLane lane then s.laneLost lane hiBer skewed relayed else s)

/-! Training (R280, R281) -/

/-- R280: the PRBS31 pass that a lane needs, in CLK_TIME cycles. -/
def State.passTime (s : State) (p : Nat) : Nat :=
  if s.portUp p then msCycles (10 * s.fld F.SER_CTL_REJOIN_10MS) else msCycles 1

/-- LANE_TRAINED (R280): a lane has passed its PRBS31 period. One whose skew exceeds the range stays in TRAIN (R300). -/
def execLaneTrained (lane skew : Nat) (s : State) : Host.Outcome State Fault Refusal :=
  .next (match s.laneOfPort lane with
    | none => s
    | some p =>
      if s.laneMode lane = 1 ∧ s.flag (F.SER_LANE_CTL_PRBS_EN lane) = false ∧ s.flag (F.SER_LANE_CTL_FORCE_OUT lane) = false then
        if skew > 32 then (s.event (F.SER_LANE_EVT_DESKEW_ERR lane)).event F.SER_EVT_DESKEW_ERR
        else
          let from_ := ((s.lanes.since.find? (fun x => x.1 == lane)).map (·.2)).getD 0
          let s1 := (s.untilCycle (from_ + s.passTime p)).setFld (F.SER_LANE_STAT_STATE lane) 2
          ((s1.setFlag (F.SER_LANE_STAT_CDR_LOCK lane) true).setFlag (F.SER_LANE_STAT_BLOCK_LOCK lane) true).setFlag
            (F.SER_LANE_STAT_PRBS_LOCK lane) true
      else s)

/-- The partner's last RX_OK on a port, and the cycle in which it first named a lane. -/
def State.partnerOk (s : State) (p : Nat) : Nat × Nat :=
  ((s.lanes.rxOk.find? (fun x => x.1 == p)).map (·.2)).getD (0, 0)

/-- R281: the lanes that this end can send on. -/
def State.sendable (s : State) (p : Nat) : Nat :=
  laneMask (fun l => laneIn (s.configured p) l && !s.flag (F.SER_LANE_CTL_PRBS_EN (4 * p + l)))

/-- The lanes of both masks. -/
def maskAnd (a b : Nat) : Nat := laneMask (fun l => laneIn a l && laneIn b l)

/-- TX_SET_FORM (R281): the transmit set forms 20 ms after the partner's first lane is READY, or when all are. -/
def execTxSetForm (port : Nat) (s : State) : Host.Outcome State Fault Refusal :=
  .next (if s.portList.contains port ∧ s.fld (F.SER_PORT_STAT_TX_SET port) = 0 ∧ (s.partnerOk port).1 ≠ 0 then
    let ok := s.partnerOk port
    let all := maskAnd ok.1 (s.configured port) = s.configured port
    let s1 := if all then s else s.untilCycle (ok.2 + msCycles 20)
    ((s1.setLaneSet port (F.SER_PORT_STAT_TX_SET port) (maskAnd ok.1 (s1.sendable port))).updateWidth port).checkTrained port
  else s)

/-! KNUCKLE (R275 to R287) -/

/-- R280, R287: what a received TX_SET makes of a lane. -/
def State.knuckleLane (s : State) (p txSet l : Nat) : State :=
  let n := 4 * p + l
  match s.laneMode n with
  | 4 => s.trainLane n
  | 2 =>
    if laneIn txSet l then
      let s1 := s.setFld (F.SER_LANE_STAT_STATE n) 3
      if s1.lanes.lost.contains n then
        let s2 := (s1.event (F.SER_LANE_EVT_REJOIN n)).event F.SER_EVT_LANE_REJOIN
        { s2 with lanes := { s2.lanes with lost := s2.lanes.lost.filter (· != n) } }
      else s1
    else s
  | 3 => if laneIn txSet l then s else s.setFld (F.SER_LANE_STAT_STATE n) 2
  | _ => s

/-- R276, R282: the BIP errors of a lane in the period. -/
def State.bipErrors (s : State) (p l e : Nat) : State :=
  let n := 4 * p + l
  let s1 := s.bumpBy (F.SER_LANE_CNT_BIP_ERR_COUNT n) e
  if 32 ≤ e ∧ s1.laneMode n = 3 then s1.laneLost n true false false else s1

/-- R278, R282: the skew of a lane. -/
def State.laneSkew (s : State) (p l k : Nat) : State :=
  let n := 4 * p + l
  let s1 := s.setFld ⟨(F.SER_PORT_SKEW_SKEW p).addr, 8 * l + 7, 8 * l⟩ k
  if 32 < k ∧ s1.laneMode n = 3 then s1.laneLost n false true false else s1

/-- R276: the KNUCKLE that a device sends on a port. -/
def State.ownKnuckle (s : State) (p : Nat) : LinkUnit :=
  .knuckle (s.fld (F.SER_PORT_STAT_TX_SET p))
    (laneMask (fun l => s.laneMode (4 * p + l) == 2 || s.laneMode (4 * p + l) == 3)) (s.wminOut p)

/-- R283, R284, R287: the KNUCKLE of a period: the partner's TX_SET, RX_OK and WMIN, and for each lane its skew in slots and
its BIP errors. The device answers with its own. -/
def State.knuckle (s : State) (p txSet rxOk wmin : Nat) (skew bip : List Nat) : State :=
  let s1 := (List.range 4).foldl (fun t l => (t.bipErrors p l (bip.getD l 0)).laneSkew p l (skew.getD l 0)) (s.blockSeen p)
  let s2 := (List.range 4).foldl (fun t l => t.knuckleLane p txSet l) s1
  let s3 := s2.setLaneSet p (F.SER_PORT_STAT_RX_SET p) (laneMask (fun l => s2.laneMode (4 * p + l) == 3))
  let first := if (s3.partnerOk p).1 = 0 then s3.cycles else (s3.partnerOk p).2
  let s4 : State := { s3 with lanes := { s3.lanes with
    rxOk := s3.lanes.rxOk.filter (fun (x : Nat × Nat × Nat) => x.1 != p) ++ [(p, rxOk, first)] } }
  let s5 := s4.setFld (F.SER_PORT_STAT_WMIN_RX p) wmin
  let s6 := if s5.fld (F.SER_PORT_STAT_TX_SET p) = 0 then s5
    else s5.setLaneSet p (F.SER_PORT_STAT_TX_SET p) (maskAnd rxOk (s5.sendable p))
  let s7 := (s6.updateWidth p).checkTrained p
  s7.send (.link p (s7.ownKnuckle p))

/-- KNUCKLE (R283). -/
def execKnuckle (port txSet rxOk wmin : Nat) (skew bip : List Nat) (s : State) : Host.Outcome State Fault Refusal :=
  .next (if s.portList.contains port ∧ s.portOn port = true then s.knuckle port txSet rxOk wmin skew bip else s)

/-! Adaptation and eyes (R289, R292) -/

/-- ADAPT_FREEZE (R289): a window of 65,536 UI ends with a count of transitions; `codes` is what the adaptation codes have
reached where they are not frozen. -/
def execAdaptFreeze (lane transitions : Nat) (codes : Word) (s : State) : Host.Outcome State Fault Refusal :=
  .next (if s.hasLane lane then
    if transitions * 256 < s.fld F.SER_CTL_ADAPT_MIN * 65536 then
      if s.flag (F.SER_LANE_STAT_ADAPT_FROZEN lane) then s
      else ((((s.setFlag (F.SER_LANE_STAT_ADAPT_FROZEN lane) true).event (F.SER_LANE_EVT_ADAPT_FREEZE lane)).event
        F.SER_EVT_ADAPT_FREEZE).bump (F.SER_LANE_CNT_FREEZE_COUNT lane))
    else
      let s1 := s.setFlag (F.SER_LANE_STAT_ADAPT_FROZEN lane) false
      let keep := s1.fld (F.SER_LANE_ADAPT_OFFSET lane)
      (s1.setReg (F.SER_LANE_ADAPT_OFFSET lane).addr codes).setFld (F.SER_LANE_ADAPT_OFFSET lane) keep
  else s)

/-- EYE_SCAN (R292): a scan of a lane's eye ends, with its width in mUI and its height in mV. -/
def execEyeScan (lane w h : Nat) (s : State) : Host.Outcome State Fault Refusal :=
  .next (if s.hasLane lane then
    let s1 := (s.setFld (F.SER_LANE_EYE_EYE_W_MUI lane) w).setFld (F.SER_LANE_EYE_EYE_H_MV lane) h
    if w < s1.fld (F.SER_LANE_EYE_MIN_W_MIN_MUI lane) ∨ h < s1.fld (F.SER_LANE_EYE_MIN_H_MIN_MV lane) then
      (s1.event (F.SER_LANE_EVT_EYE_LOW lane)).event F.SER_EVT_EYE_LOW
    else s1
  else s)

/-! Recalibration (R290, R291) -/

/-- R290: the lanes whose receivers a run measures: those in use that receive. -/
def State.recalLanes (s : State) : List Nat :=
  (List.range 50).filter (fun n => s.hasLane n && s.flag (F.SER_QUAD_STAT_POWERED (n / 4)) &&
    (s.laneOfPort n).elim true (fun _ => s.laneMode n != 0))

/-- R290: a recalibration run starts. -/
def State.startRecal (s : State) : State :=
  let t := s.fld F.THM_STAT_HOTTEST
  let s1 := (s.setFld F.SER_STAT_RECAL_TEMP t).wrapInc F.SER_STAT_RECAL_COUNT
  { s1 with lanes := { s1.lanes with recal := s1.recalLanes.map (fun n => (n, none)) } }

/-- RECAL_TRIGGER (R290, R300): the temperature has moved by more than RECAL_DT_C, or a training has ended. A trigger during
a run waits for its end. -/
def execRecalTrigger (training : Bool) (s : State) : Host.Outcome State Fault Refusal :=
  let now := s.fld F.THM_STAT_HOTTEST
  let last := s.fld F.SER_STAT_RECAL_TEMP
  let moved := decide (s.fld F.SER_CTL_RECAL_DT_C < (if now ≤ last then last - now else now - last))
  .next (if s.lanes.recal = [] ∧ (training = true ∨ (s.flag F.SER_CTL_RECAL_EN = true ∧ moved = true)) then s.startRecal else s)

/-- RECAL_APPLY (R291): a measurement of a lane in a gap. The second of a pair that agrees within one code is accepted and
takes effect; one that does not is discarded, and the pair begins again. -/
def execRecalApply (lane : Nat) (offset : Int) (s : State) : Host.Outcome State Fault Refusal :=
  .next (match s.lanes.recal.find? (fun x => x.1 == lane) with
    | none => s
    | some (_, none) =>
      { s with lanes := { s.lanes with recal := s.lanes.recal.map (fun x => if x.1 = lane then (lane, some offset) else x) } }
    | some (_, some a) =>
      if (a - offset).natAbs ≤ 1 then
        let s1 := { s with lanes := { s.lanes with recal := s.lanes.recal.filter (fun x => x.1 != lane) } }
        (s1.setFld (F.SER_LANE_ADAPT_OFFSET lane) (unsigned 8 offset)).setFld (F.SER_LANE_RECAL_LAST_TEMP lane)
          (s1.fld F.SER_STAT_RECAL_TEMP)
      else
        let s1 := { s with lanes := { s.lanes with recal := s.lanes.recal.map (fun (x : Nat × Option Int) => if x.1 = lane then (lane, none) else x) } }
        ((s1.bump (F.SER_LANE_RECAL_RECAL_REJ_COUNT lane)).event (F.SER_LANE_EVT_RECAL_REJ lane)).event F.SER_EVT_RECAL_REJ)

/-! PRBS tests (R294, R295) -/

/-- R295: what a lane does once PRBS_EN or FORCE_OUT has changed: set, a loss; both clear, TRAIN. -/
def State.laneForced (s : State) (n : Nat) : State :=
  match s.laneOfPort n with
  | some p =>
    if s.flag (F.SER_LANE_CTL_PRBS_EN n) || s.flag (F.SER_LANE_CTL_FORCE_OUT n) then
      (if s.laneMode n = 3 then s.laneLost n false false false else s)
    else if s.laneMode n = 0 ∨ laneIn (s.configured p) (n % 4) = false then s
    else s.trainLane n
  | none => s

/-- R295: a test on a network or SDI lane takes its port or input out of service. -/
def State.outOfService (s : State) (n : Nat) : State :=
  if 40 ≤ n ∧ n < 48 then s.lockLost (n - 40)
  else if 32 ≤ n ∧ n < 40 then s.netDown ((n - 32) / 4) 0
  else s

/-- R294, R295, R299: what follows once PRBS_EN of a lane has been written. Setting it clears the counts. -/
def State.prbsChanged (s : State) (n : Nat) (on : Bool) : State :=
  let s1 := if on then (s.setReg (F.SER_LANE_PRBS_ERR_ERR_BITS n).addr 0).setReg (F.SER_LANE_PRBS_BITS_BITS_2E20 n).addr 0 else s
  let s2 := s1.laneForced n
  if on then s2.outOfService n else s2

/-- R294, R295, R299: PRBS_EN of a lane is written. -/
def State.writePrbs (s : State) (n : Nat) (on : Bool) : State := (s.setFlag (F.SER_LANE_CTL_PRBS_EN n) on).prbsChanged n on

/-- PRBS_EN_WRITE (R295). -/
def execPrbsEnWrite (lane : Nat) (on : Bool) (s : State) : Host.Outcome State Fault Refusal :=
  .next (if s.hasLane lane then s.writePrbs lane on else s)

/-- FORCE_OUT_WRITE (R295). -/
def execForceOutWrite (lane : Nat) (on : Bool) (s : State) : Host.Outcome State Fault Refusal :=
  .next (if s.hasLane lane then (s.setFlag (F.SER_LANE_CTL_FORCE_OUT lane) on).laneForced lane else s)

/-! Settings -/

/-- R294, R295: the lanes follow their test controls. -/
def State.reactTests (before s : State) : State :=
  ((List.range 52).filter s.hasLane).foldl (fun t n =>
    let on := t.flag (F.SER_LANE_CTL_PRBS_EN n)
    if before.flag (F.SER_LANE_CTL_PRBS_EN n) ≠ on then t.prbsChanged n on
    else if before.flag (F.SER_LANE_CTL_FORCE_OUT n) ≠ t.flag (F.SER_LANE_CTL_FORCE_OUT n) then t.laneForced n
    else t) s

/-- R272, R280: a sender's chain ports follow their enables and widths; the quads follow the ports. -/
def State.reactLanes (before s : State) : State :=
  let s1 := State.reactTests before s
  if s1.tileRole then s1
  else
    ((List.range 8).foldl (fun t p =>
      if before.flag (F.MLK_PORT_CTL_EN p) = t.flag (F.MLK_PORT_CTL_EN p) then t
      else if t.flag (F.MLK_PORT_CTL_EN p) then t.portLanesOn p else t.portLanesOff p) s1).quads

end Sys2Proof.Machine
end

