-- ==== Sys2Proof/Machine/React.lean ====
section
/-! DEFINITION. What follows a change of settings in force, block by block (R65, R67, R73, R185). -/

namespace Sys2Proof.Machine

/-- R73: SHADOW_EN at 0 discards the shadow set. -/
def State.reactShadow (s : State) : State :=
  if s.flag F.SYS_COMPAT_SHADOW_EN then s else { s with txn := { s.txn with shadow := ⟨[], 0⟩ } }

/-- R67: a new Cuff length applies to the Cuffs after the first flip at which tiles apply the commit: the flip after the
commit's on a sender, the present one on a tile. Without a sequence it applies at once. -/
def State.reactCuff (before s : State) : State :=
  let c := s.fld F.SYS_CUFF_CUFF_US
  if before.fld F.SYS_CUFF_CUFF_US = c then s
  else if before.sequenceRuns then
    let n := s.flip.last.getD 0
    let used := match s.flip.cuffNext with
      | some (f, d) => if f < n + 1 then d else s.flip.cuffUs
      | none => s.flip.cuffUs
    { s with flip := { s.flip with cuffUs := used, cuffNext := some (if s.tileRole then n else n + 1, c) } }
  else { s with flip := { s.flip with cuffUs := c, cuffNext := none } }

/-- R185: a new cadence keeps the flip numbers rising by one. -/
def State.reactCadence (before s : State) : State :=
  if s.tileRole || (before.reg F.CMP_FLIP_RATE_NUM.addr == s.reg F.CMP_FLIP_RATE_NUM.addr && before.flipOffset == s.flipOffset) ||
      !before.sequenceRuns then s
  else
    let n := s.flip.last.getD 0
    let period := (s.flipDen * 10 ^ 9 * nsUnit + s.flipNum - 1) / max 1 s.flipNum
    let m := gridFrom (max 1 s.flipNum) s.flipDen s.flipOffset (before.senderFlipTime n + period)
    let base := (n + 1 + 2 ^ 64 - m % 2 ^ 64) % 2 ^ 64
    (s.setFld F.CMP_FLIP_BASE_LO_BASE (base % 2 ^ 32)).setFld F.CMP_FLIP_BASE_HI_BASE (base / 2 ^ 32)

/-- R393, R410, R412: the time source and the event outputs. -/
def State.reactTime (before s : State) : State :=
  let s1 := if before.fld F.PTP_CTL_SOURCE = s.fld F.PTP_CTL_SOURCE ∧ before.fld F.PTP_CTL_SELECT = s.fld F.PTP_CTL_SELECT then s
    else s.sourceChanged
  (List.range 8).foldl (fun t n =>
    if (List.range 8).any (fun i => before.reg (0x140200 + 0x20 * n + 4 * i) != t.reg (0x140200 + 0x20 * n + 4 * i)) then t.evtChanged n
    else t) s1

/-- R125, R137: the receive filters of the network ports follow the flows, and a write of TX_START loads CUR_THRESH. -/
def State.reactNet (before s : State) (chs : List Change) : State :=
  if s.senderRole then
    let s1 := [0, 1].foldl (fun t p =>
      let a := (F.NET_CTL_TX_START p).addr
      if before.reg a != t.reg a || (ownChanges chs).any (touches a (a + 4)) then t.txStart p (t.fld (F.NET_CTL_TX_START p)) else t) s
    (s1.writeFilters 0).writeFilters 1
  else s

/-- R320, R325: what a tile's pipeline does after changes. -/
def State.reactTile (before s : State) (chs : List Change) : State :=
  if s.tileRole then
    let s1 := if before.reg F.TIL_GEOM_W.addr = s.reg F.TIL_GEOM_W.addr then s else s.geomReset
    let s2 := if chs.any (touches 0x280040 0x280044) ∧ s1.fld F.TIL_LINING_CTL_GEN ≠ s1.fld F.TIL_LINING_STAT_ACTIVE_GEN then
      s1.publishLining.1 else s1
    if s2.flag F.LMB_DIAG_CTL_EN then s2
    else
      ({ s2 with diag := { s2.diag with round := none, pairs := s2.diag.pairs.filter (·.snap) } } : State).roundEnds
  else s

/-- What follows when changes have taken effect, from the state before them to the state with the new words. -/
def State.react (before s : State) (chs : List Change) : State :=
  let s1 := State.reactCadence before (State.reactCuff before s.reactShadow)
  let s2 := State.reactTime before (State.reactThermal before s1)
  let s3 := State.reactLanes before (State.reactNet before (State.reactSources before s2) chs)
  State.reactLamp before (State.reactTile before (State.reactCompositor before s3 chs) chs)

end Sys2Proof.Machine
end

