-- ==== Sys2Proof/Machine/Txn.lean ====
section
/-! DEFINITION. Transactions (R42 to R76): the checks of WRITE, the journal, commits from validation to their effective
flip, and what a repeated number answers. -/

namespace Sys2Proof.Machine

/-- R49: what a WRITE of a transaction does: an answer with no change, or the change accepted. -/
inductive WriteResult where
  | answer (x : Status)
  | accept
  deriving DecidableEq, Repr

/-- R49: the checks of a WRITE in their order. -/
def State.judgeWrite (s : State) (auth : Auth) (t : OpenTxn) (c : Change) : WriteResult :=
  if c.words.length = 0 ∨ c.words.length > 16384 then .answer .errLen
  else
    match t.changes.find? (fun x => x.index == c.index) with
    | some x => if x = c then .answer .ok else .answer .errConflict
    | none =>
      if c.index ≠ t.changes.length then .answer .errSeq
      else
        match s.changeFails auth c with
        | some e => .answer e
        | none => if limitFails t.changes.length t.bytes c then .answer .errCap else .accept

/-! BEGIN, WRITE and ROLLBACK -/

/-- The state with one authority's open transaction replaced. -/
def State.setOpen (s : State) (a : Auth) (t : Option OpenTxn) : State :=
  s.setAuth a { s.auth a with opened := t }

/-- R45, R47, R52, R76: what BEGIN answers where it does not open a transaction. -/
def State.beginFails (s : State) (h : Hdr) : Option Status :=
  if (s.auth h.auth).opened.isSome then some .errState
  else if h.seq = 0 ∨ h.seq ≤ (s.auth h.auth).lastSeq then some .errSeq
  else if h.auth = .general ∧ s.txn.shadow.changes ≠ [] then some .errConflict
  else none

/-- R45: BEGIN. -/
def State.doBegin (s : State) (h : Hdr) : State :=
  match s.beginFails h with
  | some e => s.refuse h 0x0010 e
  | none =>
    let t : OpenTxn := ⟨h.seq, secOf s.wall, nsOf s.wall, s.cycles, [], 60⟩
    ((s.setOpen h.auth (some t)).record (.opened h.auth h.seq false t.sec t.ns)).refuse h 0x0010 .ok

/-- R51: a command of an open transaction restarts its idle time. -/
def State.touchTxn (s : State) (a : Auth) : State :=
  match (s.auth a).opened with
  | some t => s.setOpen a (some { t with lastCmd := s.cycles })
  | none => s

/-- R49: WRITE in an open transaction whose number it carries. -/
def State.doTxnWrite (s : State) (h : Hdr) (t : OpenTxn) (c : Change) : State :=
  match s.judgeWrite h.auth t c with
  | .answer e => (s.touchTxn h.auth).refuse h 0x0011 e
  | .accept =>
    let t' := { t with changes := t.changes ++ [c], bytes := t.bytes + changeBytes c, lastCmd := s.cycles }
    ((s.setOpen h.auth (some t')).record (.change h.auth h.seq false c)).refuse h 0x0011 .ok

/-- R52: the outcomes kept, with one more; 64 stand. -/
def keepOutcome (o : TxnOutcome) (l : List TxnOutcome) : List TxnOutcome := (o :: l).take 64

/-- R83: LAST_RES after a completed number. -/
def State.setLastRes (s : State) (a : Auth) (x : Status) (late repl : Bool) (fi : Nat) : State :=
  (((s.setFld (F.SYS_TXN_LAST_RES_STATUS (authIdx a)) x.code).setFlag (F.SYS_TXN_LAST_RES_LATE (authIdx a)) late).setFlag
    (F.SYS_TXN_LAST_RES_REPLICATED (authIdx a)) repl).setFld (F.SYS_TXN_LAST_RES_FAIL_INDEX (authIdx a))
      (if fi = 0xFFFF then 0x1FFF else fi)

/-- R52: a number is completed with its outcome. -/
def State.finishSeq (s : State) (a : Auth) (o : TxnOutcome) : State :=
  let x := s.auth a
  s.setAuth a { x with lastSeq := max x.lastSeq o.seq, outcomes := keepOutcome o x.outcomes }

/-- R51, R59: an open transaction is closed with a ROLLBACK record, and its number completed. -/
def State.rollBack (s : State) (a : Auth) (t : OpenTxn) (x : Status) (fi : Nat) (byHost : Bool) : State :=
  (((s.setOpen a none).record (.rollback a t.seq false x fi)).finishSeq a
    ⟨t.seq, x, byHost, 0, 0, fi, false, false⟩).setLastRes a x false false fi

/-- R51: ROLLBACK. -/
def State.doRollback (s : State) (h : Hdr) : State :=
  match (s.auth h.auth).opened with
  | some t => if t.seq = h.seq then (s.rollBack h.auth t .ok 0xFFFF true).refuse h 0x0013 .ok else s.refuse h 0x0013 .errSeq
  | none => s.refuse h 0x0013 .errSeq

/-! Commits -/

/-- R60, R64, R66: where a commit that completes now takes effect. -/
def State.effectNow (s : State) : Effect :=
  if s.sequenceRuns then
    let f := s.nextFlip
    let g := if s.cuffIsOpen f then f + 1 else f
    let t := s.flipTime g
    if s.tileRole && (s.knownFlip g).isNone then
      ⟨some g, s.freeValue.toNat, (Config.freeWord (s.fresh + 1)).toNat % 10 ^ 9, s.cuffIsOpen f, false⟩
    else ⟨some g, secOf t, nsOf t, s.cuffIsOpen f, false⟩
  else ⟨none, secOf (s.wall + s.tickStep), nsOf (s.wall + s.tickStep), false, true⟩

/-- R516: the body of a COMMIT response. -/
def commitReplyBody (sec ns fi : Nat) : List Byte := leBytes 8 sec ++ leBytes 4 ns ++ leBytes 2 fi ++ [0, 0]

/-- R63: the response of a successful commit. -/
def commitReply (e : Effect) (replay : Bool) : Reply :=
  ⟨.ok, { RFlags.none with replay := replay, late := e.late, immediate := e.immediate }, commitReplyBody e.sec e.ns 0xFFFF⟩

/-- R52: the response of a repeated COMMIT. -/
def outcomeReply (o : TxnOutcome) : Reply :=
  if o.rolledBack then ⟨.errState, { RFlags.none with replay := true }, []⟩
  else if o.status = .ok then commitReply ⟨none, o.sec, o.ns, o.late, o.immediate⟩ true
  else ⟨o.status, { RFlags.none with replay := true }, commitReplyBody 0 0 o.failIndex⟩

/-- R62, R65: changes take effect, in their order, and the blocks follow them. -/
def State.applyChanges (s : State) (chs : List Change) : State :=
  State.react s ((ownChanges chs).foldl State.applyChange s) (ownChanges chs)

/-- R44: a word with the RWS bits of a register replaced. -/
def mergeRws (a : Nat) (old new : Word) : Word :=
  match findReg a with
  | some (r, _) =>
    let m := BitVec.ofNat 32 (r.mask (· == .rws))
    (old &&& ~~~m) ||| (new &&& m)
  | none => old

/-- R44: a local write takes effect: its RWS fields, since its RW fields acted at once. -/
def State.applyLocal (s : State) (chs : List Change) : State :=
  State.react s (chs.foldl (fun t c => (c.words.zipIdx).foldl (fun u (x : Word × Nat) =>
    u.setReg (c.addr + 4 * x.2) (mergeRws (c.addr + 4 * x.2) (u.reg (c.addr + 4 * x.2)) x.1)) t) s) []

/-- R65, R244: the changes addressed to tiles go down the chain. -/
def State.sendSets (s : State) (auth : Auth) (seq : Nat) (e : Effect) (chs : List Change) : State :=
  (chs.filter (fun c => c.scope != 0)).foldl (fun t c =>
    (setMsgs auth e.immediate seq (e.flip.elim 0 (· + 1)) c).foldl (fun u m =>
      if c.scope = 2 then u.sendAll (.set m) else u.sendTile c.target (.set m)) t) s

/-- R197, R243: a publication goes to the tiles: the generation to all, a table to each whose modules change. -/
def State.sendMap (s : State) (gen : Nat) (e : Effect) : State :=
  let s1 := s.sendAll (.mapGen gen (e.flip.getD 0))
  s1.openTiles.foldl (fun t tile =>
    if tileTable t.map.active tile = tileTable t.map.staging tile then t
    else (tableMsgs gen (tileTable t.map.staging tile)).foldl (fun u m => u.sendTile tile m) t) s1

/-- R197: the generation a commit publishes. -/
def State.publishedGen (s : State) (chs : List Change) : Nat := vf (overlay s.reg (ownChanges chs)) F.CMP_MAP_CTL_GEN

/-- R64: the events and the count of a commit that missed its Cuff. -/
def State.noteLate (s : State) (auth : Auth) (shadow late : Bool) : State :=
  if late then
    let s1 := (s.event (if auth = .general then F.SYS_FLIP_EVT_LATE_GEN else F.SYS_FLIP_EVT_LATE_GNT)).bump F.SYS_FLIP_CNT_LATE_COUNT
    if shadow then s1.event F.SYS_FLIP_EVT_SHADOW_LATE else s1
  else s

/-- R60 to R66: a commit completes now. Its outcome is recorded, its changes wait for its flip or take effect at once,
and what concerns the tiles is sent. -/
def State.completeCommit (s : State) (c : CommitInfo) (e : Effect) (replicated : Bool) : State :=
  let s0 := if e.flip.isSome && s.tileRole then { s with fresh := s.fresh + 2 } else s
  let s1 := s0.finishSeq c.auth ⟨c.seq, .ok, false, e.sec, e.ns, 0xFFFF, e.late, e.immediate⟩
  let s2 := (s1.setLastRes c.auth .ok e.late replicated 0xFFFF).noteLate c.auth c.shadow e.late
  let sent : List (Auth × Nat × Change) := (c.changes.filter (fun x => x.scope != 0)).map (fun x => (c.auth, c.seq, x))
  let s3 : State := { s2 with txn := { s2.txn with tileSettings := s2.txn.tileSettings ++ sent } }
  let s4 := if s3.mode == .sender then s3.sendSets c.auth c.seq e c.changes else s3
  let s5 := if publishesMap c.changes && s4.mode == .sender then s4.sendMap (s4.publishedGen c.changes) e else s4
  match e.flip with
  | some f =>
    let w : Accepted := ⟨c.auth, c.seq, false, f, c.changes⟩
    { s5 with txn := { s5.txn with accepted := s5.txn.accepted ++ [w] } }
  | none => s5.applyChanges c.changes

/-- R60: the acknowledged COMMIT record completes the commit. Where the cycle of completion chooses another flip, time
or flags than the record holds, a RETIME record follows, and on a sender with a standby OK waits for it too. -/
def State.finishCommit (s : State) (c : CommitInfo) (replicated : Bool) : State :=
  let e := s.effectNow
  let s1 := s.completeCommit c e replicated
  if e = c.written then s1.respond c.hdr (if c.shadow then 0x0014 else 0x0012) (commitReply e false)
  else
    let s2 := s1.record (.retime c.auth c.seq c.shadow e.sec e.ns c.changes.length e.late e.immediate)
    if s2.hasStandby && replicated then s2.await (.retimed c e)
    else s2.respond c.hdr (if c.shadow then 0x0014 else 0x0012) (commitReply e false)

/-- R57, R60: a validated commit writes its COMMIT record. It completes at once, or waits for the standby. -/
def State.launchCommit (s : State) (c : CommitInfo) : State :=
  let s1 := s.record (.commit c.auth c.seq c.shadow c.written.sec c.written.ns c.changes.length c.written.late c.written.immediate)
  let s2 := if publishesMap c.changes then s1.setFlag F.CMP_MAP_STAT_PENDING true else s1
  if s2.hasStandby then s2.await (.commit c) else s2.finishCommit c false

/-- R59: a commit that fails validation. -/
def State.failCommit (s : State) (h : Hdr) (t : OpenTxn) (x : Status) (fi : Nat) : State :=
  ((s.rollBack h.auth t x fi false).event F.SYS_FLIP_EVT_COMMIT_FAIL).respond h 0x0012
    ⟨x, .none, commitReplyBody 0 0 fi⟩

/-- A map bank's 2,097,152 bytes in address order (R194). -/
def bankBytes (bank : List (Nat × Word)) : List Byte := wordBytes (Sparse.getRun mapReset bank 0 524288)

/-- R194: the staging bank's check. -/
def State.stageCheck (s : State) : Word := crc32c (bankBytes s.map.staging)

/-- R194: a publishing commit whose check differs is refused before any check of R57; its computed check stands in
CMP_MAP_STAGE_CHECK. -/
def State.judgeMap (s : State) (chs : List Change) : State × Bool :=
  if publishesMap chs && !s.tileRole then
    let k := s.stageCheck
    (s.setFld F.CMP_MAP_STAGE_CHECK_CHECK k.toNat, k.toNat != vf (s.validated chs) F.CMP_MAP_CHECK_CHECK)
  else (s, false)

/-- R195: CMP_MAP_FAIL reports the lowest-numbered failing entry of a commit judged. -/
def State.noteMapFail (s : State) (chs : List Change) : State :=
  if s.tileRole then s
  else
    match mapRules s (s.validated chs) (ownChanges chs) with
    | [] => s
    | (e, _) :: _ => (s.setFlag F.CMP_MAP_FAIL_VALID true).setFld F.CMP_MAP_FAIL_ENTRY e

/-- R46, R52, R57: COMMIT. -/
def State.doCommit (s : State) (h : Hdr) : State :=
  match (s.auth h.auth).outcomes.find? (fun o => o.seq == h.seq) with
  | some o => s.respond h 0x0012 (outcomeReply o)
  | none =>
    match (s.auth h.auth).opened with
    | none => s.refuse h 0x0012 .errSeq
    | some t =>
      if t.seq ≠ h.seq then s.refuse h 0x0012 .errSeq
      else
        let (s1, bad) := s.judgeMap t.changes
        if bad then s1.failCommit h t .errConflict ((least ((t.changes.filter (touches 0x180048 0x18004C)).map (·.index))).getD 0xFFFF)
        else
          let s2 := s1.noteMapFail t.changes
          match s2.validate t.changes with
          | some (x, fi) => s2.failCommit h t x fi
          | none => (s2.setOpen h.auth none).launchCommit ⟨h.auth, h.seq, false, t.changes, h, s2.effectNow⟩

/-- R60, R428: what completes when its acknowledgement has come, or after 2 ms without it. -/
def State.complete (s : State) (replicated : Bool) : Completion → State
  | .commit c => s.finishCommit c replicated
  | .retimed c e => s.respond c.hdr (if c.shadow then 0x0014 else 0x0012) (commitReply e false)
  | .reply h op r => s.respond h op r
  | .faultAck p tile n => s.sendMsg p tile (.faultAck n) []
  | .ownFault n => { s with faults := { s.faults with unacked := s.faults.unacked.filter (· != n) } }
  | .quiet => s

/-- R428: an item is written to the stream, and its command completes once the standby holds it, or at once on a sender
without one. -/
def State.completeAfter (s : State) (i : ReplItem) (w : Completion) : State :=
  let s1 := s.append i
  if s1.hasStandby then s1.await w else s1.complete false w

/-- R62: whether a commit of either authority is still waiting for its completion. -/
def State.commitRuns (s : State) : Bool :=
  s.repl.waiting.any (fun w => match w.what with | .commit _ => true | .retimed _ _ => true | _ => false)

end Sys2Proof.Machine
end

