-- ==== Sys2Proof/Machine/Sets.lean ====
section
/-! DEFINITION. SET messages at a tile: what it holds, what it refuses, and what it applies at a flip (R244, R245, R325,
R440). -/

namespace Sys2Proof.Machine

/-- R440: what a tile keeps of the SETs of an authority. -/
def State.appliedOf (s : State) (a : Auth) : AppliedSets :=
  (s.tile.applied.find? (fun x => x.auth == authCode a)).getD ⟨authCode a, 0, []⟩

/-- R440: a SET that was applied before, or that a later transaction has overtaken. -/
def State.alreadySet (s : State) (m : SetMsg) : Bool :=
  let x := s.appliedOf m.auth
  decide (m.txnSeq < x.seq) || (m.txnSeq == x.seq && x.pairs.contains (m.index, m.first))

/-- R440: a SET is noted as applied. -/
def State.noteSet (s : State) (m : SetMsg) : State :=
  let x := s.appliedOf m.auth
  let y : AppliedSets :=
    if m.txnSeq = x.seq then { x with pairs := x.pairs ++ [(m.index, m.first)] } else ⟨x.auth, m.txnSeq, [(m.index, m.first)]⟩
  { s with tile := { s.tile with applied := s.tile.applied.filter (fun z => z.auth != x.auth) ++ [y] } }

/-- A SET as a change of the tile's own words. -/
def setChange (m : SetMsg) : Change := ⟨m.index, m.addr, 0, 0, m.words⟩

/-- R245: the status of a SET that a tile cannot apply. A count of words outside 1 to 1,018 is refused too
(notes/assumptions/12.md). -/
def setStatus (m : SetMsg) : Option Status :=
  let c := setChange m
  if c.words.length = 0 ∨ 1018 < c.words.length then some .errLen
  else if c.addr % 4 ≠ 0 ∨ leavesRegion true c = true then some .errAddr
  else if inWindow true c || anyWord c (accessFails true) then some .errAccess
  else none

/-- R325: the status and change index of the first rule that changes break at the tile. -/
def State.setRule (s : State) (chs : List Change) : Option (Status × Nat) :=
  let v := overlay s.reg chs
  match least (rangeRule v chs ++ tileRangeRules (fun a => some (v a)) chs) with
  | some i => some (.errRange, i)
  | none =>
    if tileCapFails (fun a => some (v a)) chs then some (.errCap, ((chs.head?).map (·.index)).getD 0xFFFF) else none

/-- R320: changes that would publish a Lining whose check does not hold. -/
def State.liningConflict (s : State) (chs : List Change) : Bool :=
  let v := overlay s.reg chs
  chs.any (touches 0x280040 0x280044) && vf v F.TIL_LINING_CTL_GEN != s.fld F.TIL_LINING_STAT_ACTIVE_GEN &&
    (s.flag F.TIL_LINING_STAT_STAGE_BUSY || s.stageCheckNow.toNat != vf v F.TIL_LINING_CHECK_CHECK)

/-- R326: a transaction's changes are refused at the tile. -/
def State.setRejected (s : State) (m : SetMsg) (x : Status) (i : Nat) : State :=
  s.fault 3 6 (leBytes 4 m.txnSeq ++ leBytes 1 (authCode m.auth) ++ [0] ++ leBytes 2 x.code ++ leBytes 2 i)

/-- R320, R325, R440: SETs of one transaction take effect together, or none does. Each answers with its status. -/
def State.applySets (s : State) (ms : List SetMsg) : State × (SetMsg → Status) :=
  let new := ms.filter (fun m => !s.alreadySet m)
  match new with
  | [] => (s, fun _ => .ok)
  | m :: _ =>
    let chs := new.map setChange
    match s.setRule chs with
    | some (x, i) => (s.setRejected m x i, fun _ => x)
    | none =>
      let bad := s.liningConflict chs
      ((new.foldl State.noteSet s).applyChanges chs,
        fun u => if bad && touches 0x280040 0x280044 (setChange u) then .errConflict else .ok)

/-- R403: whether the schedule of a device has no place left. The SETs that wait take entries. -/
def State.schedFull (s : State) : Bool :=
  decide ((if s.tileRole then 256 else 512) ≤ s.sched.length + s.link.heldSets.length)

/-- R245: a tile takes a SET. -/
def State.takeSet (s : State) (m : MsgHdr) (b : SetMsg) : State × Status :=
  match setStatus b with
  | some x => (s, x)
  | none =>
    if s.alreadySet b then (s, .ok)
    else if b.immediate then
      let (s1, st) := s.applySets [b]
      (s1, st b)
    else if s.schedFull then (s, .errCap)
    else
      let late := match s.flip.last with
        | some n => decide (b.dueFlip ≤ n)
        | none => false
      let s1 : State := { s with link := { s.link with heldSets := s.link.heldSets ++ [⟨m.seq, m.port, m.src, b⟩] } }
      if late then ((s1.event F.MLK_EVT_LATE_SET).fault 1 2 [], .errLate) else (s1, .ok)

/-- SET (R245). -/
def execSetMsg (m : MsgHdr) (b : SetMsg) (s : State) : Host.Outcome State Fault Refusal :=
  .next (s.receive m (.set b) false (fun t => if t.tileRole then t.takeSet m b else (t, .ok)))

/-- R245: held SETs in ascending SEQ as serial numbers. -/
def insertSet (x : HeldSet) : List HeldSet → List HeldSet
  | [] => [x]
  | y :: ys => if laterSerial y.seq x.seq then x :: y :: ys else y :: insertSet x ys

/-- Two held SETs of one transaction. -/
def sameTxn (a b : HeldSet) : Bool := a.msg.auth == b.msg.auth && a.msg.txnSeq == b.msg.txnSeq

/-- Held SETs by transaction, in the order of their first messages. -/
def groupSets : Nat → List HeldSet → List (List HeldSet)
  | 0, _ => []
  | _ + 1, [] => []
  | k + 1, x :: xs => (x :: xs.filter (sameTxn x)) :: groupSets k (xs.filter (fun y => !sameTxn x y))

/-- R325: the SETs of one transaction at their flip. Those that fail answer again, with the status. -/
def State.applyHeld (s : State) (g : List HeldSet) : State :=
  let (s1, st) := s.applySets (g.map (·.msg))
  g.foldl (fun t x => if st x.msg = .ok then t else t.sendMsg x.port x.src (.ack x.seq (st x.msg).code) []) s1

/-- R245: the SETs due at flip n. -/
def State.dueSets (s : State) (n : Nat) : State :=
  let due := (s.link.heldSets.filter (fun x => decide (x.msg.dueFlip ≤ n))).foldr insertSet []
  let s1 : State := { s with link := { s.link with heldSets := s.link.heldSets.filter (fun x => !decide (x.msg.dueFlip ≤ n)) } }
  (groupSets due.length due).foldl State.applyHeld s1

/-- R44, R65: the commits and local writes that take effect at flip n, in the order of their completion. -/
def State.dueCommits (s : State) (n : Nat) : State :=
  (s.txn.accepted.filter (fun x => decide (x.flip ≤ n))).foldl (fun t x => if x.isLocal then t.applyLocal x.changes else t.applyChanges x.changes)
    { s with txn := { s.txn with accepted := s.txn.accepted.filter (fun x => !decide (x.flip ≤ n)) } }

end Sys2Proof.Machine
end

