-- ==== Sys2Proof/Machine/Settings.lean ====
section
/-! DEFINITION. Settings as sections of bytes: the bodies of snapshots and of settings records (R433, R493), and what a reader
takes from them. The layouts inside the sections that the spec does not fix are notes/assumptions/40.md. -/

namespace Sys2Proof.Machine

/-! Sections -/

/-- R433: a section: TYPE, LEN and data padded to a multiple of 4. -/
def section_ (ty : Nat) (bs : List Byte) : List Byte := leBytes 4 ty ++ leBytes 4 bs.length ++ pad4 bs

/-- R433: the sections of a body, as TYPE and data. `fuel` bounds them. -/
def sectionsOf : Nat → List Byte → List (Nat × List Byte)
  | 0, _ => []
  | fuel + 1, bs =>
    if bs.length < 8 then []
    else
      let n := leAt bs 4 4
      (leAt bs 0 4, (bs.drop 8).take n) :: sectionsOf fuel (bs.drop (8 + (n + 3) / 4 * 4))

/-- The sections of a body. -/
def sections (bs : List Byte) : List (Nat × List Byte) := sectionsOf (bs.length / 8 + 1) bs

/-- Bytes in records of `n` bytes. -/
def recordsOf (n : Nat) (bs : List Byte) : List (List Byte) := (List.range (bs.length / n)).map (fun i => (bs.drop (n * i)).take n)

/-! Address and value pairs -/

/-- The addresses of every copy of a register. -/
def RegDef.copies (r : RegDef) : List Nat :=
  r.dims.foldl (fun (l : List Nat) d => l.flatMap (fun a => (List.range d.1).map (fun i => a + d.2 * i))) [r.base]

/-- The writable words of the blocks that begin at the addresses named, as far as they are wanted. -/
def settingAddrs (blocks : List Nat) (wanted : Nat → Bool) : List Nat :=
  ((regBlocks.filter (fun b => blocks.contains b.1)).flatMap (fun b =>
    (b.2.2.filter (fun r => r.mask (fun x => x == .rw || x == .rws) != 0)).flatMap RegDef.copies)).filter wanted

/-- R433: the coefficient sets, warp profiles and SDI custom tables. -/
def inTables (a : Nat) : Bool :=
  decide (0x108000 ≤ a ∧ a < 0x110000) || decide (0x190000 ≤ a ∧ a < 0x1E0000)

/-- R433: the words of section 0x01: the settings of the SYS, RST, CLK, THM, CHK, SDI, PTP, CMP, MLK, SER and DRC blocks,
and CMP_FLIP_BASE. -/
def senderWords : List Nat :=
  settingAddrs [0x0, 0x10000, 0x20000, 0x30000, 0x80000, 0x100000, 0x140000, 0x180000, 0x200000, 0x240000, 0x300000]
    (fun a => !inTables a) ++ [F.CMP_FLIP_BASE_LO_BASE.addr, F.CMP_FLIP_BASE_HI_BASE.addr]

/-- R433: the words of section 0x03. -/
def tableWords : List Nat := settingAddrs [0x100000, 0x180000] inTables

/-- R493: the words of section 0x10. -/
def tileWords : List Nat := settingAddrs [0x280000, 0x2C0000] (fun _ => true)

/-- R493: the words of section 0x21. -/
def localWords : List Nat := settingAddrs [0x110000, 0x340000] (fun _ => true)

/-- Address and value pairs as bytes. -/
def State.pairBytes (s : State) (as : List Nat) : List Byte := as.flatMap (fun a => leBytes 4 a ++ leBytes 4 (s.reg a).toNat)

/-- Address and value pairs from bytes. -/
def pairsOf (bs : List Byte) : List (Nat × Word) := (recordsOf 8 bs).map (fun r => (leAt r 0 4, BitVec.ofNat 32 (leAt r 4 4)))

/-- Words put into the registers: their writable fields, and CMP_FLIP_BASE whole. -/
def State.loadPairs (s : State) (ps : List (Nat × Word)) : State :=
  ps.foldl (fun t p =>
    if p.1 = F.CMP_FLIP_BASE_LO_BASE.addr ∨ p.1 = F.CMP_FLIP_BASE_HI_BASE.addr then t.setReg p.1 p.2
    else t.setReg p.1 (mergeWritable p.1 (t.reg p.1) p.2)) s

/-! The Module Map, the tile settings and the sequence numbers -/

/-- R433: section 0x02: ACTIVE_GEN, GEN, and both banks. -/
def State.mapBytes (s : State) : List Byte :=
  leBytes 4 (s.fld F.CMP_MAP_STAT_ACTIVE_GEN) ++ leBytes 4 (s.fld F.CMP_MAP_CTL_GEN) ++ bankBytes s.map.active ++
    bankBytes s.map.staging

/-- A map bank from its bytes. -/
def bankOf (bs : List Byte) : List (Nat × Word) := Sparse.putRun mapReset [] 0 (bytesWords bs (bs.length / 4))

/-- R433: the map from section 0x02. -/
def State.loadMap (s : State) (bs : List Byte) : State :=
  let size := (bs.length - 8) / 2
  let s1 : State := { s with map := ⟨bankOf ((bs.drop 8).take size), bankOf (bs.drop (8 + size))⟩ }
  (s1.setFld F.CMP_MAP_STAT_ACTIVE_GEN (leAt bs 0 4)).setFld F.CMP_MAP_CTL_GEN (leAt bs 4 4)

/-- R433: section 0x04: each change sent to tiles, with its AUTH and TXN_SEQ, in the order sent. -/
def State.tileImage (s : State) : List Byte :=
  s.txn.tileSettings.flatMap (fun x =>
    leBytes 1 (authCode x.1) ++ leBytes 1 x.2.2.scope ++ leBytes 2 x.2.2.target ++ leBytes 4 x.2.1 ++
    leBytes 2 x.2.2.index ++ leBytes 2 x.2.2.words.length ++ leBytes 4 x.2.2.addr ++ wordBytes x.2.2.words)

/-- R433: the tile settings from section 0x04. `fuel` bounds them. -/
def tileImageOf : Nat → List Byte → List (Auth × Nat × Change)
  | 0, _ => []
  | fuel + 1, bs =>
    if bs.length < 16 then []
    else
      let n := leAt bs 10 2
      (if leAt bs 0 1 = 2 then .gauntlet else .general, leAt bs 4 4,
        ⟨leAt bs 8 2, leAt bs 12 4, leAt bs 2 2, leAt bs 1 1, bytesWords (bs.drop 16) n⟩) ::
      tileImageOf fuel (bs.drop (16 + 4 * n))

/-- R52: an outcome as 24 bytes. -/
def outcomeBytes (o : TxnOutcome) : List Byte :=
  leBytes 4 o.seq ++ leBytes 2 o.status.code ++ leBytes 1 (o.rolledBack.toNat + 2 * o.late.toNat + 4 * o.immediate.toNat) ++
    [0] ++ leBytes 8 o.sec ++ leBytes 4 o.ns ++ leBytes 4 o.failIndex

/-- R52: an outcome from its bytes. -/
def outcomeOf (r : List Byte) : TxnOutcome :=
  let f := leAt r 6 1
  ⟨leAt r 0 4, (Status.ofCode (leAt r 4 2)).getD .ok, f % 2 == 1, leAt r 8 8, leAt r 16 4, leAt r 20 4, f / 2 % 2 == 1, f / 4 % 2 == 1⟩

/-- R433: section 0x05 of one authority: the highest completed number, the count of outcomes, and the outcomes. -/
def seqBytes (x : AuthState) : List Byte :=
  leBytes 4 x.lastSeq ++ leBytes 4 x.outcomes.length ++ x.outcomes.flatMap outcomeBytes

/-- R433: an authority's numbers from the bytes of section 0x05. -/
def loadSeq (x : AuthState) (bs : List Byte) : AuthState :=
  { x with
    lastSeq := leAt bs 0 4
    outcomes := (recordsOf 24 ((bs.drop 8).take (24 * leAt bs 4 4))).map outcomeOf }

/-- R433: section 0x05. -/
def State.seqsBytes (s : State) : List Byte := seqBytes s.gen ++ seqBytes s.gnt

/-- R433, R493: each authority's numbers and outcomes from section 0x05. -/
def State.loadSeqs (s : State) (bs : List Byte) : State :=
  { s with
    gen := loadSeq s.gen bs
    gnt := loadSeq s.gnt (bs.drop (8 + 24 * leAt bs 4 4)) }

/-- R433: a section of a snapshot is applied. -/
def State.loadSection (s : State) (x : Nat × List Byte) : State :=
  match x.1 with
  | 1 | 3 => s.loadPairs (pairsOf x.2)
  | 2 => s.loadMap x.2
  | 4 => { s with txn := { s.txn with tileSettings := tileImageOf (x.2.length / 16 + 1) x.2 } }
  | 5 => s.loadSeqs x.2
  | _ => s

/-- R433: the sections of a sender's settings. -/
def State.senderSections (s : State) : List Byte :=
  section_ 1 (s.pairBytes senderWords) ++ section_ 2 s.mapBytes ++ section_ 3 (s.pairBytes tableWords) ++
    section_ 4 s.tileImage ++ section_ 5 s.seqsBytes

/-- The CRC-32C of bytes as a number. -/
def checkOf (bs : List Byte) : Nat := (crc32c bs).toNat

end Sys2Proof.Machine
end

