-- ==== Sys2Proof/Machine/Red.lean ====
section
/-! DEFINITION. Active and standby senders: heartbeats and claims, the replication stream, snapshots and restores, takeover
and role swaps (R418 to R450). -/

namespace Sys2Proof.Machine

/-! Slots and eligibility (R433 to R436) -/

/-- A snapshot slot. -/
def State.slot (s : State) (k : Nat) : Slot := if k = 0 then s.red.slot0 else s.red.slot1

/-- The state with a snapshot slot replaced. -/
def State.setSlot (s : State) (k : Nat) (x : Slot) : State :=
  if k = 0 then { s with red := { s.red with slot0 := x } } else { s with red := { s.red with slot1 := x } }

/-- R434: the newest complete slot. -/
def State.newestSlot (s : State) : Option Slot :=
  let x := s.slot (s.fld F.RED_SNAP_STAT_NEWEST)
  if x.complete then some x else none

/-- R436: a standby that could take over. -/
def State.eligible (s : State) : Bool :=
  s.mode == .standby && s.partnered && s.flag F.PTP_STAT_STEPPED && !s.red.gap &&
  s.newestSlot.any (fun x => decide (s.red.heldFrom ≤ x.pos ∧ x.pos ≤ s.repl.held))

/-- R434: a slot is complete and the newest; stream bytes before its STREAM_POS are dropped. -/
def State.slotDone (s : State) (k : Nat) : State :=
  let x := { s.slot k with complete := true }
  let s1 := ((s.setSlot k x).setFld F.RED_SNAP_STAT_NEWEST k).setFld F.RED_SNAP_STAT_NEWEST_GEN x.gen
  let s2 := (s1.setBit F.RED_SNAP_STAT_COMPLETE k true).setFlag F.RED_SNAP_STAT_COPYING false
  { s2 with repl := { s2.repl with
    items := s2.repl.items.filter (fun i => decide (x.pos ≤ i.1))
    heldItems := s2.repl.heldItems.filter (fun i => decide (x.pos ≤ i.1)) } }

/-! Claims and entering SENDER (R33, R437, R438, R441) -/

/-- R437: the highest epoch this sender has seen. -/
def State.highestEpoch (s : State) : Nat :=
  max (max (s.fld F.RED_EPOCH_EPOCH) s.red.seenEpoch) (max (s.red.partner.elim 0 (·.epoch))
    (if s.flag F.MLK_CLAIM_SEEN then s.claim.epoch else 0))

/-- R438: F1, the first flip whose Cuff opens at least L(H) from now. -/
def State.firstClaimed (s : State) : Nat :=
  (gridFrom s.flipNum s.flipDen s.flipOffset (s.wall + ofUs s.flip.cuffUs + s.leadTime) + s.flipBase) % 2 ^ 64

/-- R239, R438: both copies of a FLIP with SENT 0. -/
def State.sendHeldFlip (s : State) (n : Nat) : State :=
  (s.sendAll (.flip (s.shedFlip n))).repeatAll (.flip (s.shedFlip n))

/-- R437: an entry to SENDER takes a new epoch, which is this sender's claim. A stream that it held goes on from its end. -/
def State.becomeActive (s : State) : State :=
  let e := s.highestEpoch + 1
  let s1 := ((s.setMode .sender).setFld F.RED_EPOCH_EPOCH e).setFld F.MLK_CLAIM_EPOCH_EPOCH e
  let s2 := (s1.setFld F.MLK_CLAIM_RANK (s1.fld F.RED_STAT_RANK)).setFlag F.MLK_CLAIM_SEEN true
  let pos := max s2.repl.pos s2.repl.held
  { s2 with
    red := { s2.red with standbyAt := none, seenEpoch := e, snapAt := s2.cycles, snapPos := s2.newestSlot.elim pos (·.pos), resentAt := s2.cycles }
    repl := { s2.repl with pos := pos, acked := pos, items := s2.repl.heldItems, waiting := [] } }

/-- R235, R438: the new active numbers the chains that its partner has not numbered, and claims flips from F1. -/
def State.enterSender (s : State) : State :=
  let s1 := s.becomeActive
  let s2 := (List.range 8).foldl (fun t p => if t.portUp p && !(t.port p).far then t.numberChain p else t) s1
  if s2.sequenceRuns then
    let n := s2.firstClaimed
    ({ s2 with flip := { s2.flip with next := some n }, red := { s2.red with f1 := some n } } : State).sendHeldFlip n
  else s2

/-- R441: an active that sees an outranking claim moves to STANDBY. What waited for its own standby was never
acknowledged. -/
def State.handover (s : State) : State :=
  let s1 := (((s.abandonSwap 6 true).setMode .standby).event F.RED_EVT_HANDOVER).setFlag F.RED_STAT_PARTNER_PRESENT false
  let s2 := (s1.setFlag F.RED_STAT_RESTORING false).setFlag F.CMP_STAT_BUSY false
  { s2 with
    scan := { s2.scan with frame := none }
    red := { s2.red with gap := true, snapOut := none, restore := none, f1 := none }
    repl := { s2.repl with waiting := [] } }

/-- R33, R437, R441: a sender sees a claim. -/
def State.senderClaim (s : State) (c : Claim) : State :=
  let s0 : State := { s with red := { s.red with seenEpoch := max s.red.seenEpoch c.epoch } }
  if !s0.flag F.MLK_CLAIM_SEEN || outranks c s0.claim then
    let s1 := ((s0.setFld F.MLK_CLAIM_EPOCH_EPOCH c.epoch).setFld F.MLK_CLAIM_RANK c.rank).setFlag F.MLK_CLAIM_SEEN true
    if s1.mode = .sender then s1.handover else s1
  else s0

/-! Heartbeats and the two paths (R421 to R424) -/

/-- R421: a counted heartbeat on a path, 0 the chain path and 1 the network path. -/
def State.countHeartbeat (s : State) (path : Nat) (h : Heartbeat) : State :=
  if h.rank = s.fld F.RED_STAT_RANK ∨ h.domain ≠ s.fld F.MLK_CTL_DOMAIN then s
  else
    let r := { s.red with
      partner := some h
      silent := s.red.silent.filter (· != path)
      lost := false
      seenEpoch := max s.red.seenEpoch h.epoch
      standbyAt := if h.claim then none else s.red.standbyAt }
    let s1 : State := { s with red := if path = 0 then { r with chainAt := some s.cycles } else { r with netAt := some s.cycles } }
    let s2 := s1.setFlag (if path = 0 then F.RED_STAT_CHAIN_ALIVE else F.RED_STAT_NET_ALIVE) true
    if h.claim then s2.senderClaim ⟨h.epoch, h.rank⟩ else s2

/-- A sender that runs: SENDER or STANDBY. -/
def State.senderRuns (s : State) : Bool := s.mode == .sender || s.mode == .standby

/-- R426: a datagram from the partner counts: its trailer is valid, and it names the other rank and this domain. One whose
trailer fails is counted as an authentication failure (notes/assumptions/41.md). -/
def State.fromPartner (s : State) (d : Dgram) (act : State → State) : State :=
  if !(s.senderRuns && s.partnered) then s
  else if !d.good then s.eventCount F.SYS_CMD_EVT_AUTH_FAIL F.SYS_CMD_CNT0_AUTH_FAIL_COUNT
  else if d.rank = s.fld F.RED_STAT_RANK ∨ d.domain ≠ s.fld F.MLK_CTL_DOMAIN then s
  else act s

/-- HEARTBEAT_DATAGRAM (R421). -/
def execHeartbeatDatagram (d : Dgram) (b : Heartbeat) (s : State) : Host.Outcome State Fault Refusal :=
  .next (s.fromPartner d (fun t => t.countHeartbeat 1 b))

/-- R252: the heartbeat of a sender. -/
def State.ownHeartbeat (s : State) (chain : Nat) : Heartbeat :=
  ⟨s.fld F.RED_EPOCH_EPOCH, s.fld F.RED_STAT_RANK, s.mode.code, s.fld F.MLK_CTL_DOMAIN, s.mode == .sender, s.red.hbSeq,
    secOf s.wall, nsOf s.wall, s.gen.lastSeq, s.gnt.lastSeq, chain, s.timeMode == .locked, s.flag F.RED_STAT_WARM,
    s.rst.restarts⟩

/-- HEARTBEAT_SEND (R252, R421): every 1 ms on each chain port in UP, and on each port of NET_PATH whose link is up. -/
def execHeartbeatSend (s : State) : Host.Outcome State Fault Refusal :=
  .next (if s.senderRuns then
    let s0 := s.untilCycle (s.red.hbSent + msCycles 1)
    let s1 : State := { s0 with red := { s0.red with hbSent := s0.cycles, hbSeq := (s0.red.hbSeq + 1) % 2 ^ 32 } }
    let s2 := ((List.range 8).filter s1.portUp).foldl (fun t c => t.sendMsg c 0x8003 (.heartbeat (s1.ownHeartbeat c)) []) s1
    if s2.partnered then
      ([0, 1].filter (fun p => s2.fld F.RED_CTL_NET_PATH / 2 ^ p % 2 == 1 && s2.fld (F.NET_STAT_LINK p) != 0)).foldl
        (fun t p => t.sendOn p (.heartbeat (s1.ownHeartbeat 0xFF))) s2
    else s2
  else s)

/-- The cycle from which a path has been silent. -/
def State.pathSince (s : State) (path : Nat) : Nat := ((if path = 0 then s.red.chainAt else s.red.netAt).getD 0) |> max s.red.hbBase

/-- PATH_SILENT (R422): a path has been silent for ALARM_MS. -/
def execPathSilent (path : Nat) (s : State) : Host.Outcome State Fault Refusal :=
  .next (if s.senderRuns && s.partnered && decide (path < 2) && !s.red.silent.contains path then
    let s1 := s.untilCycle (s.pathSince path + msCycles (s.fld F.RED_TMO_ALARM_MS))
    let s2 := (s1.setFlag (if path = 0 then F.RED_STAT_CHAIN_ALIVE else F.RED_STAT_NET_ALIVE) false).event
      (if path = 0 then F.RED_EVT_CHAIN_SILENT else F.RED_EVT_NET_SILENT)
    (({ s2 with red := { s2.red with silent := s2.red.silent ++ [path] } } : State).abandonSwap 6 true).redFault 4
  else s)

/-- R439: the sessions that stand open are marked for resynchronisation. -/
def State.markResync (s : State) : State :=
  (List.range 512).foldl (fun t n => if t.flag (F.MLK_SESS_STAT_OPEN n) then t.setFlag (F.MLK_SESS_STAT_RESYNC n) true else t) s

/-- R435: the stream held from the newest slot's STREAM_POS, in KiB. -/
def State.replayKib (s : State) : Nat := s.newestSlot.elim 0 (fun x => (s.repl.held - x.pos + 1023) / 1024)

/-- R435: a restore begins. -/
def State.startRestore (s : State) (takeover : Bool) : State :=
  ({ s with red := { s.red with restore := some ⟨s.cycles, takeover, s.replayKib⟩ } } : State).setFlag F.RED_STAT_RESTORING true

/-- R437 to R439: the takeover. -/
def State.takeover (s : State) : State :=
  let s1 := (s.startRestore true).enterSender
  let s2 := ((s1.event F.RED_EVT_TAKEOVER).bump F.RED_CNT0_TAKEOVERS).redFault 1
  ({ s2 with red := { s2.red with swapAt := s2.cycles } } : State).markResync

/-- PARTNER_LOST (R422, R423): both paths have been silent for TAKEOVER_MS. -/
def execPartnerLost (s : State) : Host.Outcome State Fault Refusal :=
  .next (if s.senderRuns && s.partnered && !s.red.lost then
    let s1 := s.untilCycle (max (s.pathSince 0) (s.pathSince 1) + msCycles (s.fld F.RED_TMO_TAKEOVER_MS))
    let s2 := (({ s1 with red := { s1.red with lost := true } } : State).event F.RED_EVT_PARTNER_LOST).abandonSwap 6 false
    if s2.mode = .sender then s2
    else if s2.eligible then s2.takeover
    else (s2.event F.RED_EVT_NO_TAKEOVER).redFault 5
  else s)

/-- PREFERRED_CLAIM (R32): 3 ms after entering STANDBY without a claim heard. A sender with no partner is its own preferred
active. -/
def execPreferredClaim (s : State) : Host.Outcome State Fault Refusal :=
  .next (match s.red.standbyAt with
    | some c =>
      if s.mode = .standby ∧ (s.flag F.RED_CTL_PREFERRED = true ∨ s.partnered = false) then
        (s.untilCycle (c + msCycles 3)).enterSender
      else s
    | none => s)

/-! The schedule (R403, R430) -/

/-- R440: two actions of the same type, ID and due time. -/
def sameAction (a b : SchedEntry) : Bool :=
  a.due == b.due &&
  match a.act, b.act with
  | .hatband _ i _, .hatband _ j _ => i == j
  | .snapshot i _, .snapshot j _ => i == j
  | .reset _ c i, .reset _ d j => c == d && i == j
  | .step _, .step _ => true
  | .swapAt _ m, .swapAt _ n => m == n
  | _, _ => false

/-- An action enters the schedule, once. -/
def State.addAction (s : State) (e : SchedEntry) : State :=
  if s.sched.any (sameAction e) then s else { s with sched := s.sched ++ [e] }

/-- R425: the scheduled action of a command. A FRAME latch takes no entry (R403). -/
def State.actionOf (s : State) (h : Hdr) (c : HostCmd) (chosen : Option Chosen) : Option SchedEntry :=
  match c, chosen with
  | .hatband t k i m, _ => if k = 2 then none else some ⟨timeWall t, h.seq, .hatband k i m, false⟩
  | .snapshot t i k, _ => some ⟨timeWall t, h.seq, .snapshot i k, false⟩
  | .wallReset t l i, _ => some ⟨timeWall t, h.seq, .reset l 0 i, false⟩
  | .activate t i, _ => some ⟨timeWall t, h.seq, .reset 2 1 i, false⟩
  | .restep, some x => some ⟨s.senderFlipTime x.flip, h.seq, .step x.delta, false⟩
  | _, _ => none

/-! What the standby keeps (R425, R430) -/

/-- R430: a word that the standby keeps in step. -/
def inStep (a : Nat) : Bool :=
  decide (a < 0x10000) || decide (0x100000 ≤ a ∧ a < 0x110000) || decide (0x140000 ≤ a ∧ a < 0x180000) ||
  decide (0x180020 ≤ a ∧ a < 0x180038) || (decide (0x180100 ≤ a ∧ a < 0x180200) && a % 0x20 == 0x10) || gauntletOwned a

/-- R430: a word of the blocks that are local to a sender. -/
def localWord (a : Nat) : Bool := decide (0x110000 ≤ a ∧ a < 0x140000) || decide (0x340000 ≤ a ∧ a < 0x380000)

/-- The words of changes of the sender's own that are wanted, each as a change. -/
def wordsWhere (p : Nat → Bool) (chs : List Change) : List Change :=
  (ownChanges chs).flatMap (fun c => ((List.range c.words.length).filter (fun i => p (c.addr + 4 * i))).map (fun i =>
    ⟨c.index, c.addr + 4 * i, c.target, c.scope, [c.words.getD i 0]⟩))

/-- R180: the number of the flip at a time of a journal record. -/
def State.flipAt (s : State) (sec ns : Nat) : Nat :=
  (gridFrom s.flipNum s.flipDen s.flipOffset ((sec * 10 ^ 9 + ns) * nsUnit) + s.flipBase) % 2 ^ 64

/-- A journal record belongs to a transaction. -/
def ofTxn (a : Auth) (q : Nat) (sh : Bool) : JournalRec → Option Change
  | .change b r h c => if a = b ∧ q = r ∧ sh = h then some c else none
  | _ => none

/-- R430: the journal records of a stream. -/
def journalOf (items : List (Nat × ReplItem)) : List JournalRec :=
  items.filterMap (fun i => match i.2 with | .journal r => some r | _ => none)

/-- R430: a COMMIT or RETIME record at the standby: the words kept in step take effect at its flip. -/
def State.stepCommit (s : State) (a : Auth) (q : Nat) (sh : Bool) (sec ns : Nat) (immediate : Bool) : State :=
  let chs := wordsWhere inStep (s.txn.journal.filterMap (ofTxn a q sh))
  let s1 : State := { s with txn := { s.txn with accepted := s.txn.accepted.filter (fun x => !(x.auth == a && x.seq == q)) } }
  if immediate then s1.applyChanges chs
  else { s1 with txn := { s1.txn with accepted := s1.txn.accepted ++ [⟨a, q, false, s1.flipAt sec ns, chs⟩] } }

/-- R425, R430: what the standby does with an item on its arrival. -/
def State.takeItem (s : State) (i : ReplItem) : State :=
  match i with
  | .journal r =>
    let s1 : State := { s with txn := { s.txn with journal := s.txn.journal ++ [r] } }
    match r with
    | .commit a q sh sec ns _ _ im => s1.stepCommit a q sh sec ns im
    | .retime a q sh sec ns _ _ im => s1.stepCommit a q sh sec ns im
    | _ => s1
  | .memw addr data => (s.writeMem addr data).1
  | .fence n v => s.signalFence n v
  | .sched h c x => (s.actionOf h c x).elim s s.addAction
  | .fault f => if s.faults.recs.any (fun g => g.addr == f.addr && g.record == f.record) then s else s.logFault f
  | .mapw e ws => { s with map := { s.map with staging := Sparse.putRun mapReset s.map.staging (8 * e) ws } }
  | .session n on info => if on then (s.sessionRegs n info).setFlag (F.MLK_SESS_STAT_OPEN n) true else s.setFlag (F.MLK_SESS_STAT_OPEN n) false

/-- R427: the answer to a REPL. -/
def State.replAck (s : State) : State := s.sendPartner (.replAck s.repl.held s.eligible)

/-- R427: the standby takes items that begin at the end of what it holds. -/
def State.takeItems (s : State) (pos : Nat) (items : List ReplItem) : State :=
  if s.mode != .standby then s
  else if s.red.gap || pos != s.repl.held then s.replAck
  else
    (items.foldl (fun (t : State) i =>
      ({ t with repl := { t.repl with
        held := t.repl.held + itemLen t.tagLen i
        heldItems := t.repl.heldItems ++ [(t.repl.held, i)] } } : State).takeItem i) s).replAck

/-- REPL (R427). -/
def execRepl (d : Dgram) (pos : Nat) (items : List ReplItem) (s : State) : Host.Outcome State Fault Refusal :=
  .next (s.fromPartner d (fun t => t.takeItems pos items))

/-! The active's side of the stream (R427 to R429) -/

/-- R428: what the acknowledgement covers completes, in its order. -/
def State.settle (s : State) : State :=
  (s.repl.waiting.filter (fun w => decide (w.pos ≤ s.repl.acked))).foldl (fun t w => t.complete true w.what)
    { s with repl := { s.repl with waiting := s.repl.waiting.filter (fun w => !decide (w.pos ≤ s.repl.acked)) } }

/-- R428, R429: a REPL_ACK at the active. -/
def State.takeReplAck (s : State) (pos : Nat) (ok : Bool) : State :=
  if s.mode != .sender || decide (s.repl.pos < pos) then s
  else
    let moved := decide (s.repl.acked < pos)
    let s1 : State := { s with
      repl := { s.repl with acked := pos }
      red := { s.red with resentAt := if moved then s.cycles else s.red.resentAt } }
    if ok then (s1.setFlag F.RED_STAT_PARTNER_PRESENT true).settle
    else
      let s2 := s1.setFlag F.RED_STAT_PARTNER_PRESENT false
      if s2.red.snapWanted || s2.red.snapOut.isSome then s2
      else ({ s2 with red := { s2.red with snapWanted := true } } : State).event F.RED_EVT_REPL_RESYNC

/-- REPL_ACK (R428, R429). -/
def execReplAck (d : Dgram) (pos : Nat) (eligible : Bool) (s : State) : Host.Outcome State Fault Refusal :=
  .next (s.fromPartner d (fun t => t.takeReplAck pos eligible))

/-- The stream from a position goes again. -/
def State.resendFrom (s : State) (pos : Nat) : State :=
  (s.repl.items.filter (fun i => decide (pos ≤ i.1))).foldl (fun t i => t.sendPartner (.repl i.1 [i.2])) s

/-- REPL_RESEND (R427): no REPL_ACK has advanced for 200 µs. -/
def execReplResend (s : State) : Host.Outcome State Fault Refusal :=
  .next (if s.mode = .sender ∧ s.partnered = true ∧ s.repl.acked < s.repl.pos then
    let s1 := s.untilCycle (s.red.resentAt + usCycles 200)
    ({ s1 with red := { s1.red with resentAt := s1.cycles } } : State).resendFrom s1.repl.acked
  else s)

/-- REPL_TIMEOUT (R61, R428): an item has waited 2 ms. It completes on the active alone, which counts no standby from
then on. -/
def execReplTimeout (s : State) : Host.Outcome State Fault Refusal :=
  .next (match s.repl.waiting with
    | [] => s
    | w :: rest =>
      let s1 := s.untilCycle (w.since + msCycles 2)
      let s2 := ({ s1 with repl := { s1.repl with waiting := rest } } : State).event F.SYS_FLIP_EVT_REPL_TMO
      (s2.setFlag F.RED_STAT_PARTNER_PRESENT false).complete false w.what)

/-! Snapshots (R432 to R434) -/

/-- R432: STREAM_POS: the earliest OPEN record of a transaction that is open at flip n, or takes effect after it. -/
def State.streamPos (s : State) (n : Nat) : Nat :=
  let live (a : Auth) (q : Nat) : Bool :=
    (s.auth a).opened.any (fun t => t.seq == q) ||
    s.txn.accepted.any (fun x => x.auth == a && x.seq == q && decide (n < x.flip)) ||
    s.repl.waiting.any (fun w => match w.what with | .commit c => c.auth == a && c.seq == q | .retimed c _ => c.auth == a && c.seq == q | _ => false)
  ((s.repl.items.find? (fun i => match i.2 with
    | .journal (.opened a q _ _ _) => live a q
    | _ => false)).map (·.1)).getD s.repl.pos

/-- R433: a snapshot at flip n, header and body. -/
def State.snapBytes (s : State) (gen n pos : Nat) : List Byte :=
  let body := s.senderSections
  let h := leBytes 4 1 ++ leBytes 4 gen ++ leBytes 8 n ++ leBytes 8 pos ++ leBytes 8 body.length ++ leBytes 4 (checkOf body) ++
    leBytes 4 (s.fld F.RED_EPOCH_EPOCH) ++ List.replicate 20 0
  h ++ leBytes 4 (checkOf h) ++ body

/-- R432: the active takes a snapshot at flip n. -/
def State.takeSnapshot (s : State) (n : Nat) : State :=
  let gen := s.red.snapGen + 1
  let pos := s.streamPos n
  let k := if s.newestSlot.isSome then 1 - s.fld F.RED_SNAP_STAT_NEWEST else 0
  let bs := s.snapBytes gen n pos
  let s1 : State := { s with red := { s.red with
    snapOut := some ⟨k, bs, 0, 0, s.cycles⟩
    snapGen := gen
    snapAt := s.cycles
    snapPos := pos
    snapWanted := false } }
  ((s1.setSlot k ⟨gen, n, pos, false, bs⟩).setBit F.RED_SNAP_STAT_COMPLETE k false).setFlag F.RED_SNAP_STAT_COPYING true

/-- R432: whether the active takes a snapshot at this flip. -/
def State.snapDue (s : State) : Bool :=
  s.mode == .sender && s.partnered && s.red.restore.isNone &&
  (s.red.snapWanted || (s.red.snapOut.isNone &&
    (decide (s.red.snapAt + msCycles (1000 * s.fld F.RED_SNAP_CTL_PERIOD_S) ≤ s.cycles) ||
     decide (s.fld F.RED_SNAP_CTL_JOURNAL_MIB * 2 ^ 20 < s.repl.pos - s.red.snapPos))))

/-- SNAP_SEND (R432): the next SNAP datagram, no sooner than SNAP_CTL.RATE allows after the last. Once all have gone, the
sending starts again from what the standby holds (notes/assumptions/42.md). -/
def execSnapSend (s : State) : Host.Outcome State Fault Refusal :=
  .next (match s.red.snapOut with
    | none => s
    | some o =>
      if s.mode = .sender then
        let from_ := if o.at_ < o.bytes.length then o.at_ else o.acked
        let part := (o.bytes.drop from_).take 8192
        let s1 := s.untilCycle o.last
        let next := s1.cycles + part.length * 40 / max 1 (s1.fld F.RED_SNAP_CTL_RATE)
        ({ s1 with red := { s1.red with snapOut := some { o with at_ := from_ + part.length, last := next } } } : State).sendPartner
          (.snap o.slot from_ part)
      else s)

/-- R434: a slot that holds all its bytes is judged. -/
def State.judgeSlot (s : State) (k : Nat) : State :=
  let bs := (s.slot k).bytes
  if bs.length < 64 ∨ bs.length < 64 + leAt bs 24 8 then s
  else
    let body := (bs.drop 64).take (leAt bs 24 8)
    if leAt bs 60 4 = checkOf (bs.take 60) ∧ leAt bs 32 4 = checkOf body ∧ leAt bs 0 4 = 1 then
      let pos := leAt bs 16 8
      let s1 := ((s.setSlot k ⟨leAt bs 4 4, leAt bs 8 8, pos, false, bs⟩).slotDone k).event F.RED_EVT_SNAP_DONE
      if s1.red.gap || decide (s1.repl.held < pos) || decide (pos < s1.red.heldFrom) then
        { s1 with
          red := { s1.red with gap := false, heldFrom := pos }
          repl := { s1.repl with held := pos, heldItems := [] } }
      else s1
    else (s.setSlot k ⟨0, 0, 0, false, []⟩).setFlag F.RED_SNAP_STAT_COPYING false

/-- R434: snapshot data at the standby. Data at offset 0 begin a new copy into the slot. -/
def State.takeSnap (s : State) (k offset : Nat) (data : List Byte) : State :=
  if s.mode != .standby || decide (1 < k) then s
  else
    let s0 := if offset = 0 then ((s.setSlot k ⟨0, 0, 0, false, []⟩).setBit F.RED_SNAP_STAT_COMPLETE k false).setFlag
      F.RED_SNAP_STAT_COPYING true else s
    let x := s0.slot k
    let s1 := if offset = x.bytes.length ∧ x.complete = false then (s0.setSlot k { x with bytes := x.bytes ++ data }).judgeSlot k else s0
    s1.sendPartner (.snapAck k (s1.slot k).bytes.length)

/-- SNAP (R434). -/
def execSnapData (d : Dgram) (slot offset : Nat) (data : List Byte) (s : State) : Host.Outcome State Fault Refusal :=
  .next (s.fromPartner d (fun t => t.takeSnap slot offset data))

/-- R426, R429, R434: the active learns what the standby holds of the snapshot. Once it holds all, the stream goes from the
snapshot's STREAM_POS to a standby that is not counted. -/
def State.takeSnapAck (s : State) (k offset : Nat) : State :=
  match s.red.snapOut with
  | none => s
  | some o =>
    if s.mode != .sender || o.slot != k then s
    else if offset < o.bytes.length then { s with red := { s.red with snapOut := some { o with acked := offset } } }
    else
      let s1 := ({ s with red := { s.red with snapOut := none } } : State).slotDone k
      if s1.flag F.RED_STAT_PARTNER_PRESENT then s1
      else
        ({ s1 with
          repl := { s1.repl with acked := s1.red.snapPos }
          red := { s1.red with resentAt := s1.cycles } } : State).resendFrom s1.red.snapPos |>.sendPartner (.repl s1.repl.pos [])

/-- SNAP_ACK (R426). -/
def execSnapAck (d : Dgram) (slot offset : Nat) (s : State) : Host.Outcome State Fault Refusal :=
  .next (s.fromPartner d (fun t => t.takeSnapAck slot offset))

/-! Restores (R435, R439) -/

/-- R56: the effect of a commit of the stream, a RETIME record after it included. -/
def finalEffect (js : List JournalRec) (a : Auth) (q : Nat) (sh : Bool) (sec ns : Nat) (late im : Bool) : Nat × Nat × Bool × Bool :=
  js.foldl (fun e r => match r with
    | .retime b r' h s' n' _ l i => if a = b ∧ q = r' ∧ sh = h then (s', n', l, i) else e
    | _ => e) (sec, ns, late, im)

/-- R435: a transaction of the stream with a complete COMMIT record takes effect, or waits for its flip. -/
def State.replayCommit (s : State) (js : List JournalRec) (a : Auth) (q : Nat) (sh : Bool) (sec ns : Nat) (late im : Bool)
    (after : Nat) : State :=
  let e := finalEffect js a q sh sec ns late im
  let chs := js.filterMap (ofTxn a q sh)
  let g := s.flipAt e.1 e.2.1
  let s1 := s.finishSeq a ⟨q, .ok, false, e.1, e.2.1, 0xFFFF, e.2.2.1, e.2.2.2⟩
  if g ≤ after ∧ e.2.2.2 = false then s1
  else
    let mine := wordsWhere (fun x => !localWord x) chs
    let sent : List (Auth × Nat × Change) := (chs.filter (fun x => x.scope != 0)).map (fun x => (a, q, x))
    let s2 : State := { s1 with txn := { s1.txn with tileSettings := s1.txn.tileSettings ++ sent } }
    if e.2.2.2 = false ∧ s2.flip.last.getD 0 < g then
      { s2 with txn := { s2.txn with accepted := s2.txn.accepted ++ [⟨a, q, false, g, mine⟩] } }
    else s2.applyChanges mine

/-- R435: one item of the stream after the snapshot. What the standby mirrors on arrival is in force already. -/
def State.replayItem (s : State) (js : List JournalRec) (after : Nat) (i : Nat × ReplItem) : State :=
  match i.2 with
  | .journal (.commit a q sh sec ns _ l im) => s.replayCommit js a q sh sec ns l im after
  | .journal (.rollback a q _ st fi) => s.finishSeq a ⟨q, st, st == .ok, 0, 0, fi, false, false⟩
  | .mapw e ws => { s with map := { s.map with staging := Sparse.putRun mapReset s.map.staging (8 * e) ws } }
  | _ => s

/-- R435: the newest complete slot is applied, and the stream from its STREAM_POS. -/
def State.restoreNow (s : State) : State :=
  match s.newestSlot with
  | none => s
  | some x =>
    let body := (x.bytes.drop 64).take (leAt x.bytes 24 8)
    let loaded := (sections body).foldl State.loadSection s
    let s1 := State.react s loaded []
    let items := s.repl.heldItems.filter (fun i => decide (x.pos ≤ i.1))
    let s2 : State := { s1 with txn := { s1.txn with accepted := s1.txn.accepted.filter (fun (x : Accepted) => x.isLocal), waits := [] } }
    items.foldl (fun t i => t.replayItem (journalOf items) x.flip i) s2

/-- R400: the CMD that carries a step to the tiles: a RESTEP packet with Δ and T, laid out as in the response of R516
(notes/assumptions/43.md). -/
def State.stepPacket (s : State) (seq : Nat) (delta : Int) (due : Nat) : List Byte :=
  let d := leBytes 8 (unsigned 64 (delta / 65536)) ++ leBytes 2 (delta % 65536).toNat ++ [0, 0] ++ timeBytes (timeField due)
  let m := headerBytes 0x0034 0 1 seq d.length ++ d
  let c := m ++ leBytes 4 (crc32c m).toNat
  c ++ tagOf (s.keyOf .general) c s.tagLen

/-- A packet goes to every tile as CMD segments (R246). -/
def State.sendCmdAll (s : State) (bs : List Byte) : State :=
  (withMore 4096 bs).foldl (fun t g => t.sendAll (.cmd g.1 g.2)) s

/-- R439: a scheduled action goes to the tiles, with its ID and due time. -/
def State.sendAction (s : State) (e : SchedEntry) : State :=
  match e.act with
  | .hatband k i m => s.sendAll (.hatband (timeField e.due) k i m)
  | .snapshot i k => s.sendAll (.snapshot (timeField e.due) i k)
  | .reset l c i => s.sendAll (.reset (timeField e.due) l c i)
  | .step d => s.sendCmdAll (s.stepPacket e.seq d e.due)
  | .swapAt _ _ => s

/-- R439: what the new active sends its tiles: the settings of its image, the changes that wait for a flip, and the pending
actions. -/
def State.resyncTiles (s : State) : State :=
  let s1 := s.openTiles.foldl State.resync s
  s1.sched.foldl State.sendAction s1

/-- RESTORE_DONE (R435, R439, R443). -/
def execRestoreDone (s : State) : Host.Outcome State Fault Refusal :=
  .next (match s.red.restore with
    | none => s
    | some r =>
      let s1 : State := { s.restoreNow with red := { s.red with restore := none } }
      let ms := (s.cycles - r.since + 499999) / 500000
      let s2 := ((s1.setFlag F.RED_STAT_RESTORING false).setFld F.RED_RESTORE_LAST_MS (min ms 0xFFFF)).setFld
        F.RED_RESTORE_REPLAY_KIB (min r.kib 0xFFFF)
      let s3 := s2.event F.RED_EVT_RESTORE_DONE
      if r.takeover then s3.resyncTiles else s3)

/-! Role swaps (R442 to R446) -/

/-- VFCHECK (R431, R444). -/
def execVfcheck (d : Dgram) (b : VfBody) (s : State) : Host.Outcome State Fault Refusal :=
  .next (s.fromPartner d (fun t =>
    if t.mode != .standby then t
    else
      let t1 := if t.flag F.RED_STAT_CHAIN_ALIVE then t else t.gntCompare b.view b.rcheck
      match t1.red.swap with
      | some r => ({ t1 with red := { t1.red with swap := some { r with theirs := r.theirs ++ [b] } } } : State).pairVf
      | none => t1))

/-- R442: the active asks for a swap. -/
def State.startSwap (s : State) : State :=
  let s1 := (s.setFld F.RED_SWAP_STAT_STATE 1).setFld F.RED_SWAP_STAT_AGREED 0
  (({ s1 with red := { s1.red with swapAt := s1.cycles } } : State).setFld F.RED_SWAP_STAT_MISMATCH_CHAINS 0).sendPartner (.swap 1 0 0)

/-- SWAP_PERIOD (R442): PERIOD_H hours have passed since the last swap or takeover. -/
def execSwapPeriod (s : State) : Host.Outcome State Fault Refusal :=
  .next (if s.mode = .sender ∧ s.partnered = true ∧ s.fld F.RED_SWAP_CTL_PERIOD_H ≠ 0 ∧ s.fld F.RED_SWAP_STAT_STATE = 0 then
    (s.untilCycle (s.red.swapAt + msCycles (3600000 * s.fld F.RED_SWAP_CTL_PERIOD_H))).startSwap
  else s)

/-- R442: the standby refuses a swap. -/
def State.swapRefused (s : State) : Bool :=
  !s.eligible || s.flag F.RED_STAT_STANDBY_FAULT || !s.flag F.RED_STAT_CHAIN_ALIVE || !s.flag F.RED_STAT_NET_ALIVE ||
  s.timeMode != .locked || !s.red.partner.any (·.timeLocked) || s.fld F.RED_SWAP_STAT_STATE != 0

/-- R442, R443: a REQUEST at the standby. -/
def State.swapRequest (s : State) : State :=
  if s.swapRefused then
    let s1 := if s.fld F.RED_SWAP_STAT_STATE = 0 then (s.setFld F.RED_SWAP_STAT_RESULT 3).bump F.RED_CNT1_SWAP_FAIL_COUNT else s
    s1.sendPartner (.swap 4 0 3)
  else
    let s1 := ((s.setFld F.RED_SWAP_STAT_STATE 1).setFld F.RED_SWAP_STAT_AGREED 0).setFld F.RED_SWAP_STAT_MISMATCH_CHAINS 0
    ({ s1 with red := { s1.red with swap := some ⟨0, 0, 0, [], []⟩ } } : State).setFlag F.RED_STAT_WARM true |>.startRestore false

/-- R445: a READY at the active: it journals S as a scheduled action and answers COMMIT. -/
def State.swapCommit (s : State) (n : Nat) : State :=
  let e : SchedEntry := ⟨s.senderFlipTime n, s.gen.maxAction, .swapAt (s.fld F.RED_EPOCH_EPOCH) n, false⟩
  let s1 := ((s.addAction e).append (.sched ⟨.general, s.gen.maxAction, 0, false, .hspi⟩ .swap (some ⟨0, n⟩))).setFld F.RED_SWAP_STAT_STATE 3
  s1.sendPartner (.swap 3 n 0)

/-- R445: a COMMIT at the standby. -/
def State.swapAgreed (s : State) (n : Nat) : State :=
  (s.addAction ⟨s.senderFlipTime n, s.gen.maxAction, .swapAt (s.fld F.RED_EPOCH_EPOCH) n, false⟩).setFld F.RED_SWAP_STAT_STATE 3

/-- R442, R446: an ABORT: the partner has refused or abandoned the swap. -/
def State.swapAborted (s : State) (reason : Nat) : State :=
  if reason = 3 ∧ s.fld F.RED_SWAP_STAT_STATE ≠ 0 then
    ((s.setFld F.RED_SWAP_STAT_STATE 0).setFld F.RED_SWAP_STAT_RESULT 3).bump F.RED_CNT1_SWAP_FAIL_COUNT
  else s.abandonSwap reason false

/-- SWAP datagrams (R442 to R446): OP 1 REQUEST, 2 READY, 3 COMMIT, 4 ABORT. -/
def execSwapDatagram (d : Dgram) (op flip reason : Nat) (s : State) : Host.Outcome State Fault Refusal :=
  .next (s.fromPartner d (fun t =>
    let st := t.fld F.RED_SWAP_STAT_STATE
    if op = 1 ∧ t.mode = .standby then t.swapRequest
    else if op = 2 ∧ t.mode = .sender ∧ st = 1 then t.swapCommit flip
    else if op = 3 ∧ t.mode = .standby ∧ st = 2 ∧ t.red.swap.any (fun r => r.s == flip) = true then t.swapAgreed flip
    else if op = 4 then t.swapAborted reason
    else t))

/-- SWAP_COMMIT_TIMEOUT (R445): no COMMIT by t(S) − 1 ms. -/
def execSwapCommitTimeout (s : State) : Host.Outcome State Fault Refusal :=
  .next (match s.red.swap with
    | some r =>
      if s.fld F.RED_SWAP_STAT_STATE = 2 then (s.untilWall (s.senderFlipTime r.s - ofMs 1)).abandonSwap 4 true else s
    | none => s)

/-- R445: whether a swap is due at flip n. -/
def State.swapDue (s : State) (n : Nat) : Bool :=
  s.sched.any (fun e => match e.act with | .swapAt _ f => f == n | _ => false)

/-- R445: both senders have swapped. -/
def State.swapEnds (s : State) : State :=
  let s1 : State := { s with
    sched := s.sched.filter (fun e => match e.act with | .swapAt _ _ => false | _ => true)
    red := { s.red with swap := none, swapAt := s.cycles, f1 := none } }
  let s2 := ((s1.setFld F.RED_SWAP_STAT_STATE 0).setFld F.RED_SWAP_STAT_RESULT 1).setFlag F.RED_STAT_WARM false
  (s2.event F.RED_EVT_SWAP_DONE).bump F.RED_CNT0_SWAPS

/-- R445: t(S): in place of the latch, the standby enters SENDER and latches for S + 1; the old active enters STANDBY, cold
but ELIGIBLE. -/
def State.swapAtFlip (s : State) (n : Nat) : State :=
  if s.mode = .standby then
    let s1 := s.becomeActive.swapEnds.setFlag F.RED_STAT_PARTNER_PRESENT true
    s1.senderLatch n
  else
    let s1 := ((s.setMode .standby).swapEnds.setFlag F.RED_STAT_PARTNER_PRESENT false).setFlag F.CMP_STAT_BUSY false
    { s1 with
      scan := { s1.scan with frame := none }
      red := { s1.red with gap := false, heldFrom := s1.newestSlot.elim s1.repl.pos (·.pos), standbyAt := none, snapOut := none }
      repl := { s1.repl with held := s1.repl.pos, heldItems := s1.repl.items, waiting := [] } }

end Sys2Proof.Machine
end

