-- ==== Sys2Proof/Machine/Flip.lean ====
section
/-! DEFINITION. The Cuff and the flip (R64, R65, R180 to R185, R239, R245, R311, R342, R432). -/

namespace Sys2Proof.Machine

/-- A device that flips: a running sender, or a tile whose pipeline runs. -/
def State.flips (s : State) : Bool := s.sequenceRuns && (s.senderRuns || s.tileRuns)

/-- R64, R187, R306, R311: the Cuff of flip n opens. -/
def State.openCuff (s : State) (n : Nat) : State :=
  let s1 := s.untilWall (s.cuffOpens n)
  let s2 : State := { s1 with flip := { s1.flip with cuffed := some n, next := some n } }
  if s2.tileRole then s2.tileCuff n else s2.scanLate n

/-- CUFF_OPEN (R64). -/
def execCuffOpen (s : State) : Host.Outcome State Fault Refusal :=
  .next (if s.flips ∧ s.flip.cuffed ≠ some s.nextFlip then s.openCuff s.nextFlip else s)

/-- R67: the Cuff length that flip n ends, and the one that follows it. -/
def State.cuffFollows (s : State) (n : Nat) : State :=
  match s.flip.cuffNext with
  | some (f, c) => if f < n then { s with flip := { s.flip with cuffUs := c, cuffNext := none } } else s
  | none => s

/-- The flip has come: it is the last one, and the next number follows (R181, R211). -/
def State.flipPassed (s : State) (n : Nat) : State :=
  let s1 := s.cuffFollows n
  let s2 : State := { s1 with flip := { s1.flip with last := some n, lastAt := s1.wall, next := some ((n + 1) % 2 ^ 64) } }
  if s2.tileRole then s2
  else (s2.setFld F.CMP_FLIP_NUM_LO_N (n % 2 ^ 32)).setFld F.CMP_FLIP_NUM_HI_N (n / 2 ^ 32)

/-- R430: a standby renders the Gauntlet pass at every latch, and whole view-frames only while WARM (R443). -/
def State.standbyLatch (s : State) (n : Nat) : State :=
  let s1 := s.senderLatch n
  if s1.flag F.RED_STAT_WARM && s1.red.restore.isNone then s1
  else ({ s1 with scan := { s1.scan with frame := none } } : State).setFlag F.CMP_STAT_BUSY false

/-- R183, R438, R439, R445: the latch of flip n, or what takes its place: the hand-over of a swap, a FLIP with SENT 0 while
a restore runs, or nothing before the first flip that this active claims, or while the compositor is held in reset. -/
def State.latchAt (s : State) (n : Nat) : State :=
  if s.blockHeld 4 then s
  else if s.swapDue n then s.swapAtFlip n
  else if s.mode = .standby then s.standbyLatch n
  else if s.red.f1.any (fun f => decide (n + 1 < f)) then s
  else if s.red.restore.isSome then s.sendHeldFlip (n + 1)
  else s.senderLatch n

/-- R65, R205, R432: a sender's flip. -/
def State.senderFlip (s : State) (n : Nat) : State :=
  let s0 := ((s.untilWall (s.senderFlipTime n)).flipPassed n).dueCommits n
  let s1 := if s0.blockHeld 4 then s0 else s0.tapFlips n
  let s2 := s1.latchAt n
  let s3 := if s2.snapDue then s2.takeSnapshot n else s2
  if s3.enabledViews.isEmpty then { s3 with flip := { s3.flip with next := none } } else s3

/-- R239, R245, R306, R311, R342: a tile's flip. Without a checked FLIP it does not flip: it goes on showing what is on its
lamps, and what was due waits for the next flip (notes/assumptions/11.md). -/
def State.tileFlip (s : State) (n : Nat) (misses : List VisorMiss) : State :=
  let t := s.flipTime n
  if (s.knownFlip n).isNone then
    (((s.untilWall t).flipPassed n).lampFlip n false misses)
  else
    let s1 := (s.closeUpload n (edgeFrom t)).untilWall t
    let s2 := match s1.tile.build with
      | some b => if b.flip.num = n then s1.buildStop b else s1
      | none => s1
    let built := s2.tile.next == some n
    let s3 := ((s2.showFrames n).swapGrey n).flipPassed n
    ((s3.dueCommits n).dueSets n).lampFlip n built misses

/-- FLIP (R65, R239, R245): wall time reaches the next flip; its Cuff has opened before. -/
def execFlip (misses : List VisorMiss) (s : State) : Host.Outcome State Fault Refusal :=
  .next (if s.flips then
    let n := s.nextFlip
    let s1 := if s.flip.cuffed = some n then s else s.openCuff n
    if s1.tileRole then s1.tileFlip n misses else s1.senderFlip n
  else s)

end Sys2Proof.Machine
end

