-- ==== Sys2Proof/Machine/LinkMsgs.lean ====
section
/-! DEFINITION. Link messages that act on flips, schedules, redundancy and snapshots (R239, R247, R252 to R256, R265, R355,
R356, R386). -/

namespace Sys2Proof.Machine

/-! FLIP (R239, R253, R306, R430, R431) -/

/-- R253, R306: FLIP at a tile: a claim first, and then a flip that it knows. -/
def State.tileFlipMsg (s : State) (m : MsgHdr) (f : FlipMsg) : State :=
  let s1 := s.tileClaim ⟨f.epoch, f.rank⟩ m.port
  if s1.wrongClaim m.src m.claimTag then s1.claimDiscard
  else if s1.seenSeq m.src m.seq then s1
  else (s1.keepSeq m.src m.seq).takeFlip f

/-- R430: a standby takes ALIVE of a view from the active's FLIP. -/
def State.takeAlive (s : State) (f : FlipMsg) : State :=
  { s with scan := { s.scan with views := s.scan.views.map (fun (x : Nat × ViewSeq) =>
      if x.1 = f.view then (x.1, { x.2 with alive := f.alive }) else x) } }

/-- R33, R430, R431: FLIP at the other sender of a ring. -/
def State.senderFlipMsg (s : State) (m : MsgHdr) (f : FlipMsg) : State :=
  if s.seenSeq m.src m.seq then s
  else
    let s1 := (s.keepSeq m.src m.seq).senderClaim ⟨f.epoch, f.rank⟩
    if s1.mode = .standby then
      let s2 := s1.takeAlive f
      if f.sent && s2.partnered then s2.gntCompare f.view f.rcheck else s2
    else s1

/-- A unit that every device reads, and that a tile relays: a HEARTBEAT or a FLIP (R253, R257). -/
def State.readUnit (s : State) (m : MsgHdr) (b : LinkMsg) (act : State → State) : State :=
  if !(s.portList.contains m.port && s.portUp m.port) then s
  else
    let s1 := s.blockSeen m.port
    if !m.checkOk then s1.eventCount F.MLK_EVT_CRC_ERR F.MLK_DISC_CNT_CRC_ERR_COUNT
    else act (if s1.relays m.dst then s1.relayMsg m b else s1)

/-- FLIP (R253, R306). -/
def execFlipMessage (m : MsgHdr) (f : FlipMsg) (s : State) : Host.Outcome State Fault Refusal :=
  .next (s.readUnit m (.flip f) (fun t => if t.tileRole then t.tileFlipMsg m f else t.senderFlipMsg m f))

/-! HEARTBEAT (R252, R253, R259, R421) -/

/-- R259: the port on which a sender's HEARTBEAT last arrived. -/
def State.noteHeartbeat (s : State) (src port : Nat) : State :=
  { s with link := { s.link with hbPort := s.link.hbPort.filter (fun x => x.1 != src) ++ [(src, port)] } }

/-- HEARTBEAT (R253). -/
def execHeartbeat (m : MsgHdr) (b : Heartbeat) (s : State) : Host.Outcome State Fault Refusal :=
  .next (s.readUnit m (.heartbeat b) (fun t =>
    let t1 := (t.noteRestarts m.src b.restarts).noteHeartbeat m.src m.port
    if t1.seenSeq m.src m.seq then t1
    else
      let t2 := t1.keepSeq m.src m.seq
      if t2.tileRole then (if b.claim then t2.tileClaim ⟨b.epoch, b.rank⟩ m.port else t2)
      else if t2.senderRuns && t2.partnered then t2.countHeartbeat 0 b
      else t2))

/-! TILE_STATUS (R254) -/

/-- R254: what a tile says of its state. -/
def State.tileStatus (s : State) : TileStatus :=
  ⟨s.ownAddr, s.mode.code, s.timeMode == .locked, (List.range 64).any (fun p => !s.portDark p), s.flag F.THM_STAT_THROTTLE,
    !s.faults.unacked.isEmpty, s.tile.last.1 % 2 ^ 32, s.tile.last.2, s.fld F.THM_STAT_HOTTEST, s.faults.unacked.length,
    s.fld F.MLK_CLAIM_EPOCH_EPOCH, signed 32 (s.fld (F.MLK_PORT_OFFSET_OFFSET_PS s.activePort)), s.rst.restarts,
    min s.link.discSince 0xFFFF⟩

/-- TILE_STATUS_SEND (R254): every TSTAT_MS. -/
def execTileStatusSend (s : State) : Host.Outcome State Fault Refusal :=
  .next (if s.tileRole then
    let s1 := s.untilCycle (s.link.tstatAt + msCycles (s.fld F.MLK_TMO_TSTAT_MS))
    let s2 := s1.sendActive (.tileStatus s1.tileStatus)
    { s2 with link := { s2.link with tstatAt := s2.cycles, discSince := 0 } }
  else s)

/-! FAULT (R255) -/

/-- R255: FAULT at the active sender: the record is logged once, and acknowledged once it is recorded under R37. -/
def State.faultMsg (s : State) (p : Nat) (f : FaultRec) : State :=
  if s.mode == .sender then
    if s.faults.recs.any (fun g => g.addr == f.addr && g.record == f.record) then s.sendMsg p f.addr (.faultAck f.record) []
    else (s.logFault f).completeAfter (.fault f) (.faultAck p f.addr f.record)
  else s

/-- FAULT (R255). -/
def execFaultMsg (m : MsgHdr) (f : FaultRec) (s : State) : Host.Outcome State Fault Refusal :=
  .next (s.receiveOk m (.fault f) false (fun t => if t.senderRole then t.faultMsg m.port f else t))

/-! Scheduled actions at a tile (R265, R355, R356, R403) -/

/-- R403, R440: an action enters a tile's schedule. -/
def State.scheduleHere (s : State) (e : SchedEntry) : State × Status :=
  if s.sched.any (sameAction e) then (s, .ok)
  else if s.wall + 86400 * 10 ^ 9 * nsUnit < e.due then (s, .errRange)
  else if s.schedFull then (s, .errCap)
  else (s.addAction e, .ok)

/-- R356: a time that is the flip time of a flip the tile knows or expects. -/
def State.isFlipTime (s : State) (w : Nat) : Bool :=
  s.flip.known.any (fun f => timeWall f.time == w) ||
  (s.flip.next.isSome && (List.range 16).any (fun d => s.flipTime (s.nextFlip + d) == w))

/-- R356: HATBAND at a tile. -/
def State.takeHatband (s : State) (seq : Nat) (t : TimeField) (kind id mask : Nat) : State × Status :=
  let w := timeWall t
  if kind = 2 then
    if s.isFlipTime w then (s, .ok) else (s.event F.LMB_EVT_HATBAND_REJ, .errRange)
  else if kind ≠ 1 ∨ timeOk t = false then (s, .errRange)
  else
    let (s1, x) := s.scheduleHere ⟨w, seq, .hatband kind id mask, false⟩
    (s1, if x = .ok ∧ w < s.wall then .errLate else x)

/-- HATBAND (R356). -/
def execHatbandMessage (m : MsgHdr) (t : TimeField) (kind id portMask : Nat) (s : State) : Host.Outcome State Fault Refusal :=
  .next (s.receive m (.hatband t kind id portMask) false (fun u =>
    if u.tileRole then u.takeHatband m.seq t kind id portMask else (u, .ok)))

/-- An action of the sender that comes too late is not taken (notes/assumptions/44.md). -/
def State.takeAction (s : State) (t : TimeField) (e : SchedEntry) : State × Status :=
  if timeOk t = false then (s, .errRange)
  else if e.due < s.wall ∧ s.sched.any (sameAction e) = false then (s, .errLate)
  else s.scheduleHere e

/-- SNAPSHOT (R265). -/
def execSnapshotMessage (m : MsgHdr) (t : TimeField) (id content : Nat) (s : State) : Host.Outcome State Fault Refusal :=
  .next (s.receive m (.snapshot t id content) false (fun u =>
    if u.tileRole then u.takeAction t ⟨timeWall t, m.seq, .snapshot id content, false⟩ else (u, .ok)))

/-- RESET (R265). -/
def execResetMessage (m : MsgHdr) (t : TimeField) (level cause id : Nat) (s : State) : Host.Outcome State Fault Refusal :=
  .next (s.receive m (.reset t level cause id) false (fun u =>
    if u.tileRole then
      if level = 1 ∨ level = 2 then u.takeAction t ⟨timeWall t, m.seq, .reset level cause id, false⟩ else (u, .errRange)
    else (u, .ok)))

/-! Barriers (R265, R517) -/

/-- BARRIER (R265): what came before has been applied or scheduled as it came. -/
def execBarrierMessage (m : MsgHdr) (id : Nat) (s : State) : Host.Outcome State Fault Refusal :=
  .next (s.receiveOk m (.barrier id) false (fun t =>
    if t.tileRole then t.sendActive (.barrierDone id t.ownAddr) else t))

/-- BARRIER_DONE (R265). -/
def execBarrierDone (m : MsgHdr) (id addr : Nat) (s : State) : Host.Outcome State Fault Refusal :=
  .next (s.receiveOk m (.barrierDone id addr) false (fun t => if t.senderRole then t.barrierDone id addr else t))

/-! Snapshots (R265, R386, R517) -/

/-- R517: part 0, the frame on the lamps: FLIP_NUM, view and checks. -/
def State.snapFrame (s : State) : List Byte :=
  let view := (s.flip.last.bind s.knownFlip).map (·.view)
  match (view.bind s.areaOf).bind (fun x => x.2.shown) with
  | some h => leBytes 8 h.flip ++ leBytes 4 (view.getD 0) ++ leBytes 4 h.check.toNat ++ h.gnt.flatMap (fun w => leBytes 4 w.toNat)
  | none => List.replicate 32 0

/-- Registers as bytes. -/
def State.wordsAt (s : State) (as : List Nat) : List Byte := as.flatMap (fun a => leBytes 4 (s.reg a).toNat)

/-- R517: part 1, the temperatures: the 12 die sensors and the remote inputs. -/
def State.snapTemps (s : State) : List Byte :=
  s.wordsAt ((List.range 12).map (fun i => (F.THM_DIE_TEMP i).addr) ++ (List.range 16).map (fun i => (F.THM_TEMP_STAT_TEMP i).addr))

/-- R517: part 4, the counters of the tile's link, pipeline and Lamp Bus. -/
def State.snapCounters (s : State) : List Byte :=
  s.wordsAt ([F.MLK_DISC_CNT_CLAIM_DISC_COUNT, F.TIL_CNT0_REJ_COUNT, F.TIL_CNT1_GUARD_COUNT, F.TIL_CNT2_STALE_COUNT,
    F.LMB_CNT_UPLOAD_LATE_COUNT].map (·.addr))

/-- R265, R386, R517: a tile captures a snapshot; it keeps its last two. The layouts of the parts are
notes/assumptions/45.md. -/
def State.captureSnapshot (s : State) (id content : Nat) : State :=
  let lamps := s.tileW * s.tileH * s.lampsPer
  let part (k : Nat) (bs : List Byte) : List (Nat × List Byte) := if content / 2 ^ k % 2 = 1 then [(k, bs)] else []
  let parts := part 0 s.snapFrame ++ part 1 s.snapTemps ++ part 2 (s.faultMapBytes 0 ((lamps + 3) / 4)) ++
    part 3 (List.replicate ((lamps + 3) / 4) 0) ++ part 4 s.snapCounters
  let kept := s.snaps.filter (fun x => x.id != id)
  let s1 : State := { s with snaps := kept.drop (kept.length - 1) ++ [⟨id, parts⟩] }
  let s2 := if content / 8 % 2 = 1 then s1.startSnapPass id else s1
  s2.sendActive (.snapshotDone id s2.ownAddr 0)

/-- SNAPSHOT_DONE (R265): the sender notes the tile. -/
def execSnapshotDone (m : MsgHdr) (id addr status : Nat) (s : State) : Host.Outcome State Fault Refusal :=
  .next (s.receiveOk m (.snapshotDone id addr status) false (fun t =>
    if t.senderRole then
      { t with link := { t.link with snapDone := t.link.snapDone.filter (fun x => !(x.1 == id && x.2.1 == addr)) ++ [(id, addr, status)] } }
    else t))

end Sys2Proof.Machine
end

