-- ==== Sys2Proof/Machine/Boot.lean ====
section
/-! DEFINITION. What a start reads: the boot header, images, slots and settings records; failed starts and Mitten mode
(R482 to R500, R522). -/

namespace Sys2Proof.Machine

/-! The boot header (R484) -/

/-- R484: a valid copy of the boot header. -/
def hdrValid (bs : List Byte) : Bool :=
  bs.length == 4096 && leAt bs 0 4 == 0x42484D54 && leAt bs 4092 4 == checkOf (bs.take 4092)

/-- R482, R484: the valid copy with the higher HDR_GEN, with its number. -/
def State.chosenHdr (s : State) : Option (Nat × List Byte) :=
  if !s.nvm.present then none
  else if hdrValid s.nvm.hdr0 then
    if hdrValid s.nvm.hdr1 && decide (leAt s.nvm.hdr0 4 4 < leAt s.nvm.hdr1 4 4) then some (1, s.nvm.hdr1) else some (0, s.nvm.hdr0)
  else if hdrValid s.nvm.hdr1 then some (1, s.nvm.hdr1)
  else none

/-- A byte of a header. -/
def hdrByte (h : List Byte) (i : Nat) : Nat := leAt h i 1

/-- A header with a byte replaced. -/
def setHdr (h : List Byte) (i v : Nat) : List Byte := putAt h i (leBytes 1 v)

/-- R484: a header as a copy of a generation. -/
def hdrCopy (h : List Byte) (gen : Nat) : List Byte :=
  let m := putAt (putAt (h.take 4092) 0 (leBytes 4 0x42484D54)) 4 (leBytes 4 gen)
  m ++ leBytes 4 (checkOf m)

/-- The header where none is valid: all zeros but for TRIAL (notes/assumptions/47.md). -/
def blankHdr : List Byte := setHdr (List.replicate 4096 0) 29 0xFF

/-- R488: the state of a slot, 0 for A and 1 for B. -/
def slotState (h : List Byte) (k : Nat) : Nat := hdrByte h (32 + k)

/-- A header with the state and the reason of a slot. -/
def setSlotState (h : List Byte) (k st reason : Nat) : List Byte := setHdr (setHdr h (32 + k) st) (34 + k) reason

/-- The bytes of a slot. -/
def State.slotBytes (s : State) (k : Nat) : List Byte := if k = 0 then s.nvm.slotA else s.nvm.slotB

/-- The state with the bytes of a slot replaced. -/
def State.setSlotBytes (s : State) (k : Nat) (bs : List Byte) : State :=
  if k = 0 then { s with nvm := { s.nvm with slotA := bs } } else { s with nvm := { s.nvm with slotB := bs } }

/-- R485: FW_VER of an image. -/
def imageFw (bs : List Byte) : Nat := leAt bs 12 4

/-- R502: SYS_SLOT_STAT and SYS_FW_STAGED as the header in force makes them. -/
def State.showSlots (s : State) : State :=
  let h := s.boot.hdr
  let s1 := (s.setFld F.SYS_SLOT_STAT_STATE_A (slotState h 0)).setFld F.SYS_SLOT_STAT_STATE_B (slotState h 1)
  let staged := [0, 1].find? (fun k => slotState h k == 1)
  s1.setFld F.SYS_FW_STAGED_FW_VER (staged.elim 0 (fun k => imageFw (s.slotBytes k)))

/-- The header as the device goes on with it. -/
def State.useHdr (s : State) (h : List Byte) : State := ({ s with boot := { s.boot with hdr := h } } : State).showSlots

/-- R484: a changed header goes into the other copy, with HDR_GEN one higher. -/
def State.writeHdr (s : State) (h : List Byte) : State :=
  let s1 : State := match s.chosenHdr with
    | some (0, c) => { s with nvm := { s.nvm with hdr1 := hdrCopy h (leAt c 4 4 + 1) } }
    | some (_, c) => { s with nvm := { s.nvm with hdr0 := hdrCopy h (leAt c 4 4 + 1) } }
    | none => { s with nvm := { s.nvm with hdr0 := hdrCopy h 1 } }
  s1.useHdr ((s1.chosenHdr).elim h (·.2))

/-- The header in force, or a blank one. -/
def State.hdrNow (s : State) : List Byte := s.chosenHdr.elim blankHdr (·.2)

/-! Images (R485, R486) -/

/-- R485: the sections of an image that it uses, as processor, offset and length; an entry of length 0 is unused
(notes/assumptions/47.md). -/
def imageSections (bs : List Byte) : List (Nat × Nat × Nat) :=
  ((List.range 4).map (fun i => (leAt bs (64 + 16 * i) 1, leAt bs (68 + 16 * i) 4, leAt bs (72 + 16 * i) 4))).filter
    (fun x => x.2.2 != 0)

/-- R486, check 6: the sections lie within the body, no two overlap, and one is the MCP's. -/
def sectionsOk (bs : List Byte) : Bool :=
  let xs := imageSections bs
  xs.all (fun x => decide (x.2.1 + x.2.2 ≤ leAt bs 28 4)) && xs.any (fun x => x.1 == 0) &&
  xs.zipIdx.all (fun (p : (Nat × Nat × Nat) × Nat) => (xs.drop (p.2 + 1)).all (fun y =>
    decide (p.1.2.1 + p.1.2.2 ≤ y.2.1 ∨ y.2.1 + y.2.2 ≤ p.1.2.1)))

/-- R486: the reason for which an image is INVALID: the first check of six that fails. -/
def State.imageFails (s : State) (bs : List Byte) : Option Nat :=
  let n := leAt bs 28 4
  let k := leAt bs 9 1
  let pub := (bs.drop 128).take 97
  let body := (bs.drop 1024).take n
  if bs.length < 1024 + n ∨ leAt bs 0 4 ≠ 0x474D4946 ∨ leAt bs 4 2 ≠ 1 ∨ leAt bs 6 2 ≠ 0x9720 ∨ leAt bs 8 1 > 0xB1 ∨ n % 16 ≠ 0 ∨
      n > 16776192 then some 0x14
  else if k > 1 ∨ s.fuses.revoked / 2 ^ k % 2 = 1 ∨
      (Config.sha384 pub).toNat ≠ (if k = 0 then s.fuses.pkHash0 else s.fuses.pkHash1) then some 0x15
  else if !Config.ecdsaP384Verify (leNat pub) (Config.sha384 (bs.take 232 ++ body)) ((bs.drop 232).take 96) then some 0x15
  else if leAt bs 16 4 < s.fuses.rollback then some 0x12
  else if !Config.gcmVerify [if k = 0 then s.fuses.fwKey0 else s.fuses.fwKey1, (bs.drop 32).take 12, bs.take 232, body,
      (bs.drop 44).take 16] then some 0x16
  else if !sectionsOk bs then some 0x16
  else none

/-! Settings records (R492 to R494, R522) -/

/-- R492: a settings record copy that holds MAGIC. -/
def setMagic (bs : List Byte) : Bool := decide (64 ≤ bs.length) && leAt bs 0 4 == 0x53455452

/-- R492: the body of a settings record. -/
def setBody (bs : List Byte) : List Byte := (bs.drop 64).take (leAt bs 12 4)

/-- R492: a valid copy for a role. -/
def setValid (role : Nat) (bs : List Byte) : Bool :=
  setMagic bs && leAt bs 60 4 == checkOf (bs.take 60) && leAt bs 16 4 == checkOf (setBody bs) && leAt bs 6 1 == role

/-- R492: the valid copy with the higher SET_GEN, with its number. -/
def State.chosenSet (s : State) : Option (Nat × List Byte) :=
  let role := s.fld F.SYS_STRAP_ROLE
  let ok (bs : List Byte) : Bool := s.nvm.present && setValid role bs
  if ok s.nvm.set0 then
    if ok s.nvm.set1 && decide (leAt s.nvm.set0 8 4 < leAt s.nvm.set1 8 4) then some (1, s.nvm.set1) else some (0, s.nvm.set0)
  else if ok s.nvm.set1 then some (1, s.nvm.set1)
  else none

/-- R522: the plaintext of the commissioning section as 136 bytes. -/
def commissionBytes (c : Commission) : List Byte :=
  (c.keyGen ++ List.replicate 32 0).take 32 ++ (c.keyGnt ++ List.replicate 32 0).take 32 ++ leBytes 1 c.tagLen ++
    leBytes 1 c.transports ++ leBytes 1 c.allowN ++ [0] ++ leBytes 4 c.commGen ++
    ((c.allow ++ List.replicate 8 (⟨0, 0⟩ : AllowEntry)).take 8).flatMap (fun (a : AllowEntry) => leBytes 4 a.ip ++ leBytes 1 a.prefixLen ++ [0, 0, 0])

/-- R522: the commissioning section from its plaintext. -/
def commissionOf (bs : List Byte) : Commission :=
  ⟨bs.take 32, (bs.drop 32).take 32, leAt bs 64 1, leAt bs 65 1, leAt bs 66 1, leAt bs 68 4,
    (List.range 8).map (fun i => ⟨leAt bs (72 + 8 * i) 4, leAt bs (76 + 8 * i) 1⟩)⟩

/-- R506, R522, R526: a commissioning section is in force. -/
def State.useCommission (s : State) (c : Commission) : State := { s with cmd := { s.cmd with comm := some c } }

/-- R493: the active Lining bank with its generation. -/
def State.loadLining (s : State) (bs : List Byte) : State :=
  let halves := (List.range ((bs.length - 4) / 2)).map (fun i => leAt bs (4 + 2 * i) 2)
  let s1 := (s.setHalves (storeAt (liningBase 0)) halves).setHalves (storeAt (liningBase 1)) halves
  ({ s1 with tile := { s1.tile with check := none } } : State).setFld F.TIL_LINING_STAT_ACTIVE_GEN (leAt bs 0 2)

/-- R493: the Guard Images with VALID. -/
def State.loadGuards (s : State) (bs : List Byte) : State :=
  (s.setHalves (storeAt (guardBase 0)) ((List.range ((bs.length - 4) / 2)).map (fun i => leAt bs (4 + 2 * i) 2))).setFld
    F.TIL_GUARD_CTL_VALID (leAt bs 0 1)

/-- R493: the masked lamps. -/
def State.loadMasked (s : State) (bs : List Byte) : State :=
  (recordsOf 4 bs).foldl (fun t r => t.setLampState (leAt r 0 4) 3) s

/-- R493: a section of a settings record. A type that is not defined is skipped. -/
def State.loadRecord (s : State) (x : Nat × List Byte) : State :=
  match x.1 with
  | 0x10 => s.loadPairs (pairsOf x.2)
  | 0x11 => s.loadLining x.2
  | 0x12 => s.loadGuards x.2
  | 0x13 => s.loadMasked x.2
  | 0x20 => s.useCommission (commissionOf x.2)
  | 0x21 => s.loadPairs (pairsOf x.2)
  | _ => s.loadSection x

/-- R493, R500: the commissioning section of a readable record. -/
def State.loadCommission (s : State) : State :=
  match s.chosenSet with
  | some x => ((sections (setBody x.2)).filter (fun (y : Nat × List Byte) => y.1 == 0x20)).foldl State.loadRecord s
  | none => s

/-- R493: the sections of a settings record of this device, without the commissioning section. -/
def State.recordSections (s : State) : List Byte :=
  if s.tileRole then
    section_ 0x10 (s.pairBytes tileWords) ++
    section_ 0x11 (leBytes 4 (s.fld F.TIL_LINING_STAT_ACTIVE_GEN) ++ s.storeBytes (liningBase s.tile.bank) 0x300000) ++
    section_ 0x12 (leBytes 4 (s.fld F.TIL_GUARD_CTL_VALID) ++ s.storeBytes (guardBase 0) 0x300000) ++
    section_ 0x13 (((List.range (s.tileW * s.tileH * s.lampsPer)).filter (fun l => s.lampState l == 3)).flatMap (leBytes 4))
  else s.senderSections ++ section_ 0x21 (s.pairBytes localWords)

/-- R485: the header of the image that runs. -/
def State.runningImage (s : State) : List Byte := s.slotBytes (s.fld F.SYS_BOOT_STAT_SLOT)

/-- R492: a settings record is written into the copy that is not the chosen one, with SET_GEN one higher; the answer is
SET_GEN and the copy. -/
def State.saveRecord (s : State) (comm : Option Commission) : State × Nat × Nat :=
  let (copy, gen) : Nat × Nat := match s.chosenSet with
    | some (0, bs) => (1, (leAt bs 8 4 + 1) % 2 ^ 32)
    | some (_, bs) => (0, (leAt bs 8 4 + 1) % 2 ^ 32)
    | none => (0, 1)
  let body := s.recordSections ++ comm.elim [] (fun c => section_ 0x20 (commissionBytes c))
  let m := leBytes 4 0x53455452 ++ leBytes 2 (leAt s.runningImage 24 2) ++ leBytes 1 (s.fld F.SYS_STRAP_ROLE) ++ [0] ++
    leBytes 4 gen ++ leBytes 4 body.length ++ leBytes 4 (checkOf body) ++ List.replicate 40 0
  let rec_ := m ++ leBytes 4 (checkOf m) ++ body
  let n := if copy = 0 then { s.nvm with set0 := rec_ } else { s.nvm with set1 := rec_ }
  ({ s with nvm := n }, gen, copy)

/-! Mitten mode and failed starts (R490, R499, R500) -/

/-- R490, R501: a start has failed: LAST_FAIL, and a record that waits until the device can log. -/
def State.noteFail (s : State) (code slot : Nat) : State :=
  (s.setFld F.SYS_BOOT_STAT_LAST_FAIL code).faultLater 6 1
    (leBytes 4 (imageFw (s.slotBytes slot)) ++ leBytes 1 code ++ leBytes 1 slot)

/-- R280, R478: the lanes of every port in use that is off begin to train, and the quads of the device are on. -/
def State.lanesOn (s : State) : State :=
  (s.portList.foldl (fun t p =>
    ((List.range 4).filter (fun l => laneIn (t.configured p) l && t.laneMode (4 * p + l) == 0)).foldl
      (fun u l => u.trainLane (4 * p + l)) t) s).quads

/-- R499, R500: the device enters MITTEN with a reason. A tile relays (R29). A sender keeps its chain ports DOWN; its network settings are those of a
readable record. -/
def State.enterMitten (s : State) (reason : Nat) : State :=
  let s1 := if s.mode = .boot then s else s.setMode .boot
  let s2 := ((s1.setMode .mitten).setFld F.SYS_MODE_MITTEN_REASON reason).setFld F.SYS_BOOT_STAT_LAST_FAIL reason
  let s3 := ({ s2 with boot := { s2.boot with phase := .done, entered := none } } : State).setFld F.SYS_FW_VER_FW_VER 0
  let s4 := s3.loadCommission
  let s5 := s4.setFlag F.SYS_BOOT_STAT_KEYLESS s4.cmd.comm.isNone
  let s6 := if s5.tileRole then s5.lanesOn
    else
      let t := match s5.chosenSet with
        | some x => ((sections (setBody x.2)).filter (fun (y : Nat × List Byte) => y.1 == 0x21)).foldl State.loadRecord s5
        | none => s5
      (List.range 8).foldl State.portLanesOff { t with scan := { t.scan with frame := none } }
  s6.flushFaults.sendTileInfo

end Sys2Proof.Machine
end

