-- ==== Sys2Proof/Machine/Reset.lean ====
section
/-! DEFINITION. The reset controller: sources and levels, what each level keeps and clears, block resets, PLLs and
references (R539 to R550, R576). -/

namespace Sys2Proof.Machine

/-! Levels (R539) -/

/-- R539: the levels that a source may take. -/
def permittedLevels (src : Nat) : List Nat :=
  if src = 0 then [0] else if src = 9 ∨ src = 0x0A ∨ src = 0x0C then [2] else if src = 0x0D then [3] else [0, 1]

/-- R539: the level of a source: its fuse value, or the default where that is not permitted. -/
def State.levelOf (s : State) (src : Nat) : Nat :=
  let v := s.fuses.levels / 4 ^ src % 4
  if (permittedLevels src).contains v then v else defaultLevels / 4 ^ src % 4

/-- R541: the level of the reset that the device is in, an L2 warm restart included. -/
def State.resetNow (s : State) : Option Nat :=
  match s.rst.held with
  | some h => some h.level
  | none => if s.warmRestart then some 2 else none

/-- R542, R480, R576: RSTOUT_N is driven low. -/
def State.rstoutLow (s : State) : Bool :=
  s.rst.fuseFault || s.rst.testMode || s.rst.held.any (fun h => decide (h.level < 2) || s.flag F.RST_CTL_OUT_L2) ||
  (!s.rst.blocks.isEmpty && s.flag F.RST_CTL_OUT_L3)

/-! L0 and L1 (R540) -/

/-- Fields of a state carried over into another. -/
def State.keepFields (old s : State) (fs : List Fld) : State := fs.foldl (fun t f => t.setFld f (old.fld f)) s

/-- R551: what the die sensors report; they run during every reset. -/
def dieFields : List Fld :=
  [F.THM_STAT_HOTTEST, F.THM_STAT_HOT_SENSOR] ++
    (List.range 12).flatMap (fun i => [F.THM_DIE_VALID i, F.THM_DIE_TEMP i])

/-- R540, R562: what only a power-on clears. -/
def causeFields : List Fld := [F.RST_CAUSE_SRC, F.RST_CNT_WDT_COUNT, F.RST_CNT_BLK_COUNT]

/-- R26, R35, R502, R503, R540: what an L1 reset keeps and an L0 reset clears. -/
def l1Fields : List Fld :=
  [F.SYS_STRAP_FACTORY_DENIED, F.SYS_STRAP_FACTORY_EN, F.SYS_STRAP_FACTORY_FUSE, F.SYS_STRAP_ROLE, F.SYS_MODE_MITTEN_REASON,
   F.SYS_MODE_MODE_CHANGES, F.SYS_MODE_PREV_MODE, F.SYS_MODE_MODE, F.SYS_BOOT_STAT_LAST_FAIL, F.SYS_BOOT_STAT_FAIL_COUNT,
   F.SYS_BOOT_STAT_FALLBACK, F.SYS_BOOT_STAT_STARTS, F.FUS_STAT_LOAD_COUNT, F.SER_STAT_RECAL_COUNT]

/-- R34, R540: an L0 or L1 reset: every field at its reset value but what the level keeps. -/
def State.hardReset (s : State) (level : Nat) (power : Bool) : State :=
  let z : State := { State.reset with
    pending := s.pending
    fresh := s.fresh
    cycles := s.cycles
    sent := s.sent
    fuses := s.fuses
    nvm := s.nvm
    thm := { State.reset.thm with hottest := s.thm.hottest, peak := s.thm.peak }
    faults := if level = 1 then s.faults else State.reset.faults
    boot := { State.reset.boot with phase := .reset, mitten := s.boot.mitten && !power, faults := if power then [] else s.boot.faults }
    rst := { State.reset.rst with
      testMode := s.rst.testMode
      restarts := if level = 1 then (s.rst.restarts + 1) % 65536 else 0 } }
  let z1 := State.keepFields s z (dieFields ++ (if power then [] else causeFields) ++ (if level = 1 then l1Fields else []))
  if level = 1 ∧ s.mode ≠ .boot then z1.setMode .boot else z1

/-! L2: the warm restart begins (R496, R497, R540) -/

/-- What waited for the standby completes on this device alone, with no response. -/
def State.finishWaiting (s : State) : State :=
  s.repl.waiting.foldl (fun t w => match w.what with
    | .commit c => t.completeCommit c t.effectNow false
    | _ => t) { s with repl := { s.repl with waiting := [] } }

/-- R228: each message series starts at 1. Messages that still wait for an acknowledgement are numbered again. -/
def State.restartSeries (s : State) : State :=
  s.portList.foldl (fun t p =>
    let mine := t.link.unacked.filter (fun u => u.port == p)
    let again := mine.zipIdx.map (fun (x : Unacked × Nat) => { x.1 with seq := x.2 + 1 })
    let t1 : State := { t with link := { t.link with unacked := t.link.unacked.filter (fun u => u.port != p) ++ again } }
    t1.setPort p { t1.port p with nextSeq := again.length + 1 }) s

/-- R51, R511, R513: what an authority loses in a warm restart: its open transaction, the commands that waited, and the
actions that have no response. -/
def AuthState.restarted (a : AuthState) : AuthState :=
  { a with opened := none, queue := [], actions := a.actions.filter (fun (x : ActionRec) => x.reply.isSome) }

/-- R497, R540: external memory goes into self-refresh. -/
def State.memoryAsleep (s : State) : State :=
  (List.range s.dramChannels).foldl (fun t c =>
    if t.channelOn c then
      ((t.setFld (F.DRC_CH_STAT_STATE c) 3).setFld (F.DRC_CH_STAT_DEBT c) 0).setBit F.DRC_STAT_IN_SR c true
    else t) s

/-- R424, R446: a sender's side of redundancy after any start. -/
def State.senderRestarted (s : State) : State :=
  let s1 := ((s.setFlag F.RED_STAT_PARTNER_PRESENT false).setFlag F.RED_STAT_RESTORING false).setFlag F.CMP_STAT_BUSY false
  { s1 with
    scan := { s1.scan with frame := none }
    red := { s1.red with gap := true, restore := none, snapOut := none, f1 := none, standbyAt := none } }

/-- R312, R361: a tile's builds, uploads and rounds end; what is on the lamps stays. -/
def State.tileRestarted (s : State) : State :=
  let s1 := s.setFlag F.TIL_STAT_BUILD_BUSY false
  { s1 with
    tile := { s1.tile with build := none, slewed := false }
    lamp := { s1.lamp with upload := none, awaits := [] }
    diag := { s1.diag with round := none } }

/-- R34, R394, R497: an L2 warm restart begins. -/
def State.beginWarm (s : State) : State :=
  let s1 := (s.finishWaiting.abandonSwap 6 true).setMode .boot
  let s2 : State := { s1 with
    gen := s1.gen.restarted
    gnt := s1.gnt.restarted
    cmd := { s1.cmd with
      assemblies := []
      forwards := []
      tileCmds := []
      barriers := []
      staging := none
      pushes := [] }
    link := { s1.link with gathers := [], rspGathers := [] }
    boot := { s1.boot with phase := .warm, since := s1.cycles, hdr := [], entered := none }
    rst := { s1.rst with restarts := (s1.rst.restarts + 1) % 65536 } }
  let s3 := (s2.setFld F.SYS_FW_PUSH_BUSY 0).setFld F.SYS_FW_VER_FW_VER 0
  let s4 := if s3.timeMode = .freerun then s3 else s3.setTimeMode .holdover
  let s5 := s4.restartSeries.memoryAsleep
  if s5.tileRole then s5.tileRestarted else s5.senderRestarted

/-! Taking a reset (R541, R542) -/

/-- R541: a reset of a level begins, is reported, and is held until a cycle. -/
def State.startReset (s : State) (src level upTo : Nat) (straps : Option (Nat × Bool)) (hot : Bool) : State :=
  let s0 := if level < 2 then s.abandonSwap 6 true else s
  let s1 := if level < 2 then s0.hardReset level false else s0.beginWarm
  let s2 := ((s1.setFld F.RST_STAT_LAST_LEVEL level).setFld F.RST_STAT_LAST_SRC src).setFld F.SYS_BOOT_STAT_LAST_LEVEL level
  { s2 with rst := { s2.rst with held := some ⟨level, src, s2.cycles, upTo, straps, hot⟩ } }

/-- R480, R541: a source asserts: it is recorded, and makes its reset unless one of the same or a lower-numbered level runs.
A fuse-load fault ends with RESET_N or power alone. -/
def State.resetSource (s : State) (src upTo : Nat) (straps : Option (Nat × Bool)) (hot : Bool) : State :=
  let s1 := s.setBit F.RST_CAUSE_SRC src true
  let level := s1.levelOf src
  if s1.rst.fuseFault then (if src = 1 then s1.startReset src level upTo straps hot else s1)
  else if s1.resetNow.any (fun l => decide (l ≤ level)) then s1
  else s1.startReset src level upTo straps hot

/-- R490: a counted failed start. A trial slot is FAILED with it; after a fallback the device enters MITTEN in place of the
L1 reset. -/
def State.countedFailure (s : State) (code : Nat) : State :=
  let k := s.fld F.SYS_BOOT_STAT_SLOT
  let s1 := s.noteFail code k
  let s2 := s1.setFld F.SYS_BOOT_STAT_FAIL_COUNT (min 3 (s1.fld F.SYS_BOOT_STAT_FAIL_COUNT + 1))
  let h := s2.boot.hdr
  let s3 := if h.isEmpty = false ∧ (slotState h k = 2 ∨ code = 0x21) then
      let h1 := setSlotState h k 4 code
      s2.writeHdr (if hdrByte h1 29 = k then setHdr h1 29 0xFF else h1)
    else s2
  if s3.flag F.SYS_BOOT_STAT_FALLBACK then s3.enterMitten 0x22
  else s3.startReset (s3.fld F.RST_STAT_LAST_SRC) 1 (s3.cycles + msCycles 1) none false

/-- POWER_ON (R542, R543): the rails settle for 1 ms, and the hold of R542 follows. Nothing but the fuses and the NVM is
kept. -/
def execPowerOn (s : State) : Host.Outcome State Fault Refusal :=
  let s1 := s.hardReset 0 true
  .next { s1 with rst := { s1.rst with held := some ⟨0, 0, s1.cycles, s1.cycles + msCycles 2, none, false⟩ } }

/-- RESET_N (R23, R543): a low of `lowNs` ns; the straps are those of its rising edge. A low below 1 µs is ignored
(notes/assumptions/48.md). -/
def execResetN (lowNs role : Nat) (factoryEn : Bool) (s : State) : Host.Outcome State Fault Refusal :=
  .next (if lowNs < 1000 then s
  else s.resetSource 1 (s.cycles + (lowNs + 1) / 2 + msCycles 1)
    (if s.levelOf 1 = 0 then some (role % 4, factoryEn) else none) false)

/-- R543, R550: the supply-fault source; the rails are good again after `goodNs` ns. -/
def State.supplyFault (s : State) (goodNs : Nat) : State :=
  let taken := !s.rst.fuseFault && !s.resetNow.any (fun l => decide (l ≤ s.levelOf 7))
  let s1 := s.resetSource 7 (s.cycles + (goodNs + 1) / 2 + msCycles 2) none false
  if taken then s1.faultLater 5 5 [] else s1

/-- SUPPLY_FAULT (R543). -/
def execSupplyFault (goodNs : Nat) (s : State) : Host.Outcome State Fault Refusal := .next (s.supplyFault goodNs)

/-- R544: a processor's watchdog runs: from its loading on, and on ROM code in MITTEN and FACTORY. -/
def State.watchdogRuns (s : State) : Bool :=
  s.rst.held.isNone && !s.rst.fuseFault && (s.mode != .boot || s.boot.phase == .processors || (s.boot.phase == .warm && !s.boot.hdr.isEmpty))

/-- WATCHDOG_EXPIRY (R490, R544): before the start is proven it is a counted failure too. -/
def execWatchdogExpiry (proc : Nat) (s : State) : Host.Outcome State Fault Refusal :=
  .next (if proc < 4 ∧ s.watchdogRuns = true then
    let s1 := s.bump F.RST_CNT_WDT_COUNT
    if s1.boot.entered.isSome ∨ s1.mode = .boot then
      let s2 := s1.setBit F.RST_CAUSE_SRC (2 + proc) true
      let s3 := s2.countedFailure 0x25
      if s3.mode = .mitten then s3
      else if s2.levelOf (2 + proc) = 0 then s3.startReset (2 + proc) 0 (s3.cycles + msCycles 1) none false
      else s3.setFld F.RST_STAT_LAST_SRC (2 + proc)
    else s1.resetSource (2 + proc) (s1.cycles + msCycles 1) none false
  else s)

/-- TEST_MODE (R576): while it is high the device is held in reset. What it keeps is that of an L0 reset
(notes/assumptions/48.md). -/
def execTestMode (high : Bool) (s : State) : Host.Outcome State Fault Refusal :=
  .next (
    let s1 : State := { s with rst := { s.rst with testMode := high } }
    if high || s.rst.testMode then
      let s2 := s1.hardReset 0 false
      { s2 with rst := { s2.rst with held := some ⟨0, s2.fld F.RST_STAT_LAST_SRC, s2.cycles, s2.cycles + msCycles 1, none, false⟩ } }
    else s1)

/-- R23, R478, R542: a held reset ends. After L0 the straps are sampled; L0 and L1 begin phase 1, and L2 its phases. -/
def State.releaseReset (s : State) (h : HeldReset) (role : Nat) (factoryEn : Bool) : State :=
  let s1 := s.untilCycle h.until_
  let s2 : State := { s1 with rst := { s1.rst with held := none }, boot := { s1.boot with since := s1.cycles } }
  if h.level = 2 then s2.wrapInc F.SYS_BOOT_STAT_STARTS
  else
    let (r, f) := h.straps.getD (role % 4, factoryEn)
    let s3 := if h.level = 0 then (s2.setFld F.SYS_STRAP_ROLE r).setFlag F.SYS_STRAP_FACTORY_EN f else s2
    ({ s3 with boot := { s3.boot with phase := .fuses } } : State).setFld F.FUS_STAT_MISMATCH 0

/-- RESET_RELEASE (R542): not while TEST_MODE is high or the die is too hot (R554). -/
def execResetRelease (role : Nat) (factoryEn : Bool) (s : State) : Host.Outcome State Fault Refusal :=
  .next (match s.rst.held with
    | some h => if s.rst.testMode || h.hot then s else s.releaseReset h role factoryEn
    | none => s)

/-! The fuse load (R480, R481, R503) -/

/-- R121, R480, R503: the fuse registers. -/
def State.loadFuses (s : State) : State :=
  let x := s.fuses
  let s1 := ((s.setFlag F.FUS_PERM_FACTORY_PERM x.factoryPerm).setFld F.FUS_PERM_KEY_REVOKED x.revoked).setFld
    F.FUS_ROLLBACK_MIN x.rollback
  let s2 := (((s1.setFld F.FUS_UID_LO_UID x.uid).setFld F.FUS_UID_HI_UID (x.uid / 2 ^ 32)).setFld F.FUS_MAC_LO_MAC x.macBase).setFld
    F.FUS_MAC_HI_MAC (x.macBase / 2 ^ 32)
  s2.setFlag F.SYS_STRAP_FACTORY_FUSE x.factoryPerm

/-- R121: NET_MAC of a port from the fuses. -/
def State.loadMac (s : State) (p : Nat) : State :=
  let m := s.fuses.macBase + 4 * p
  (s.setFld (F.NET_MAC_LO_ADDR_LO p) m).setFld (F.NET_MAC_HI_ADDR_HI p) (m / 2 ^ 32)

/-- FUSE_PASS_DONE (R480): two passes of 150 µs have been compared. -/
def execFusePassDone (same : Bool) (s : State) : Host.Outcome State Fault Refusal :=
  .next (if s.boot.phase = .fuses ∧ s.rst.held = none ∧ s.rst.fuseFault = false then
    let s1 := s.ticks (usCycles 300)
    if same then
      let s2 := (s1.loadFuses.loadMac 0).loadMac 1
      let s3 := (s2.bump F.FUS_STAT_LOAD_COUNT).wrapInc F.SYS_BOOT_STAT_STARTS
      { s3 with boot := { s3.boot with phase := .clocks, since := s3.cycles } }
    else if s1.fld F.FUS_STAT_MISMATCH = 2 then { s1 with rst := { s1.rst with fuseFault := true } }
    else s1.setFld F.FUS_STAT_MISMATCH (s1.fld F.FUS_STAT_MISMATCH + 1)
  else s)

/-! Block resets (R545 to R547) -/

/-- R545: the registers of a block. -/
def blockRange (b : Nat) : Nat × Nat :=
  match b with
  | 0 => (0x80000, 0x100000) | 1 => (0x100000, 0x110000) | 2 => (0x110000, 0x120000) | 3 => (0x120000, 0x130000)
  | 4 => (0x180000, 0x200000) | 5 => (0x280000, 0x2C0000) | 6 => (0x2C0000, 0x300000) | _ => (0x300000, 0x340000)

/-- R546: what software does not write goes back to its reset values. -/
def State.clearReadOnly (s : State) (lo hi : Nat) : State :=
  (s.regs.filter (fun p => decide (lo ≤ p.1 ∧ p.1 < hi))).foldl (fun t p => t.setReg p.1 (mergeWritable p.1 (regReset p.1) p.2)) s

/-- R457, R474: DRC_CFG and DRC_TOP from the option bytes of a header. -/
def State.memoryOptions (s : State) (h : List Byte) : State :=
  let s1 := ((s.setFld F.DRC_CFG_CH_MASK (leAt h 36 2)).setFld F.DRC_CFG_DENSITY (hdrByte h 38)).setFld F.DRC_CFG_RATE (hdrByte h 39)
  (s1.setFld F.DRC_CFG_MAP_ORDER (hdrByte h 40)).setFld F.DRC_TOP_TOP_MIB
    ((((List.range 16).map (fun c => leAt h 36 2 / 2 ^ c % 2)).sum) * 2 ^ (hdrByte h 38) * 896)

/-- R546: a block's state other than its registers. -/
def State.clearBlock (s : State) (b : Nat) : State :=
  match b with
  | 0 => { s with chk := [] }
  | 1 => { s with video := State.reset.video }
  | 2 => { s with net0 := .fresh }
  | 3 => { s with net1 := .fresh }
  | 4 => { s with
      scan := { State.reset.scan with widthChanged := true }
      map := ⟨[], []⟩
      txn := { s.txn with waits := [] } }
  | 5 =>
    let keep := s.tile.store.filter (fun p => decide (storeAt faultMapBase ≤ p.1))
    { s with tile := { State.reset.tile with store := keep, applied := s.tile.applied, gens := s.tile.gens } }
  | 6 => ({ s with lamp := State.reset.lamp, diag := State.reset.diag } : State).clearStore faultMapBase (faultMapBase + 0x100000)
  | _ => { s with dram := { State.reset.dram with mem := s.dram.mem, bad := s.dram.bad } }

/-- R545, R546: block b goes into reset. Flip numbers never go back, so CMP_FLIP_BASE stands (notes/assumptions/49.md); what
the fuses and the boot header give is loaded again. -/
def State.resetBlock (s : State) (b : Nat) : State :=
  let base := [F.CMP_FLIP_BASE_LO_BASE, F.CMP_FLIP_BASE_HI_BASE]
  let s1 := (s.clearReadOnly (blockRange b).1 (blockRange b).2).clearBlock b
  let s2 := match b with
    | 2 => s1.loadMac 0
    | 3 => s1.loadMac 1
    | 4 => State.keepFields s s1 base
    | 7 => s1.memoryOptions s1.hdrNow
    | _ => s1
  { s2 with rst := { s2.rst with
    blocks := s2.rst.blocks.filter (fun x => x.block != b) ++ [⟨b, s2.cycles⟩]
    restarts := (s2.rst.restarts + 1) % 65536 } }

/-- R545: a block is idle. -/
def State.blockIdle (s : State) (b : Nat) : Bool :=
  match b with
  | 0 => (List.range 8).all (fun n => !s.flag (F.CHK_U_STAT_OPEN n))
  | 1 => (List.range 16).all (fun i => s.fld (F.SDI_SRC_STAT_STATE i) == 0)
  | 2 => !s.flag (F.NET_CTL_EN 0) && s.net0.leaving.isNone && s.net0.sendQ.isEmpty && s.net0.monQ.isEmpty
  | 3 => !s.flag (F.NET_CTL_EN 1) && s.net1.leaving.isNone && s.net1.sendQ.isEmpty && s.net1.monQ.isEmpty
  | 4 => s.enabledViews.isEmpty && !s.flag F.CMP_STAT_BUSY
  | 5 => !s.flag F.LMB_CTL_EN && !s.flag F.TIL_STAT_BUILD_BUSY
  | 6 => !s.flag F.LMB_CTL_EN
  | _ => (List.range s.dramChannels).all (fun c => s.fld (F.DRC_CH_STAT_STATE c) == 0 || s.fld (F.DRC_CH_STAT_STATE c) == 3 ||
      s.fld (F.DRC_CH_STAT_STATE c) == 5)

/-- R118, R454, R545: a block that the device's role holds in reset. -/
def State.roleHeld (s : State) (b : Nat) : Bool :=
  if s.tileRole then b == 2 || b == 3 || b == 4 || (b == 7 && s.fld F.DRC_CFG_CH_MASK == 0)
  else b == 5 || b == 6

/-- R545: a request for a block. -/
def State.requestBlock (s : State) (b : Nat) : State :=
  if s.blockHeld b then s
  else if s.roleHeld b || !s.blockIdle b then s.event F.RST_EVT_BLK_NOT_IDLE
  else (s.setBit F.RST_CAUSE_SRC 0x0D true).resetBlock b

/-- R545: the PLLs that a block's release waits for: 0 core, 1 control, 3 DRAM, 4 lamp. -/
def blockPlls (b : Nat) : List Nat :=
  match b with | 0 => [1] | 4 => [0, 3] | 6 => [4] | 7 => [3] | _ => [0]

/-- R545: the quads whose lock a block's release waits for. -/
def blockQuads (b : Nat) : List Nat := match b with | 1 => [10, 11] | 2 => [8] | 3 => [9] | _ => []

/-- R563: the lock bit of a PLL. -/
def pllLock (p : Nat) : Fld :=
  match p with
  | 0 => F.CLK_STAT_CORE_LOCK | 1 => F.CLK_STAT_CTL_LOCK | 2 => F.CLK_STAT_TIME_LOCK | 3 => F.CLK_STAT_DRAM_LOCK | _ => F.CLK_STAT_LB_LOCK

/-- R563: the unlock event of a PLL. -/
def pllEvent (p : Nat) : Fld :=
  match p with
  | 0 => F.CLK_EVT_CORE_UNLOCK | 1 => F.CLK_EVT_CTL_UNLOCK | 2 => F.CLK_EVT_TIME_UNLOCK | 3 => F.CLK_EVT_DRAM_UNLOCK | _ => F.CLK_EVT_LB_UNLOCK

/-- The cycle from which a PLL has been locked. -/
def State.pllSince (s : State) (p : Nat) : Nat := ((s.rst.pllSince.find? (fun x => x.1 == p)).map (·.2)).getD 0

/-- R547: every clock that a block waits for is locked. -/
def State.blockClocked (s : State) (b : Nat) : Bool :=
  (blockPlls b).all (fun p => s.flag (pllLock p)) && (blockQuads b).all (fun q => !s.flag (F.SER_QUAD_STAT_POWERED q) || s.flag (F.SER_QUAD_STAT_PLL_LOCK q))

/-- R547: the cycle at which its clocks have been locked for 10 µs. -/
def State.blockReady (s : State) (b : Nat) : Nat := ((blockPlls b).map (fun p => s.pllSince p + usCycles 10)).foldl max 0

/-- R547: a release that is due and must wait. -/
def State.holdRelease (s : State) (b : Nat) : State := (s.event F.RST_EVT_RELEASE_HELD).setBit F.RST_BLK_STAT_HELD b true

/-- R546: a block that has left reset goes on with the settings in force. A DRC trains its channels first. -/
def State.restartBlock (s : State) (b : Nat) : State :=
  match b with
  | 1 => (List.range 16).foldl (fun t i => if t.flag (F.SDI_SRC_CTL_EN i) then t.setSrcMode i .seek else t.srcOff i) s
  | 2 => s.writeFilters 0
  | 3 => s.writeFilters 1
  | 4 => s.reactViews.reactReads
  | 6 => (List.range 8).foldl State.judgeBank s
  | 7 => (List.range s.dramChannels).foldl (fun t c =>
      if t.bit F.DRC_CFG_CH_MASK c then t.setFld (F.DRC_CH_STAT_STATE c) 1 else t) s
  | _ => s

/-- R547: a block is released. -/
def State.releaseBlock (s : State) (b : Nat) : State :=
  let s1 : State := { s with rst := { s.rst with blocks := s.rst.blocks.filter (fun x => x.block != b) } }
  (((s1.setBit F.RST_BLK_STAT_HELD b false).event F.RST_EVT_BLK_DONE).bump F.RST_CNT_BLK_COUNT).restartBlock b

/-- BLOCK_RELEASE (R542, R547): at least 1 ms after its reset, and once its clocks have been locked for 10 µs. -/
def execBlockRelease (block : Nat) (s : State) : Host.Outcome State Fault Refusal :=
  .next (match s.rst.blocks.find? (fun x => x.block == block) with
    | none => s
    | some x =>
      let s1 := s.untilCycle (x.since + msCycles 1)
      if !s1.blockClocked block then s1.holdRelease block
      else if s1.cycles < s1.blockReady block then ((s1.holdRelease block).untilCycle (s1.blockReady block)).releaseBlock block
      else s1.releaseBlock block)

/-! PLLs and references (R550) -/

/-- R550: the blocks that a PLL gates and that the role does not hold. -/
def State.pllBlocks (s : State) (p : Nat) : List Nat :=
  (List.range 8).filter (fun b => b != 0 && (blockPlls b).contains p && !s.roleHeld b)

/-- PLL_UNLOCK (R550): 0 core, 1 control, 2 time, 3 DRAM, 4 lamp. -/
def execPllUnlock (pll : Nat) (s : State) : Host.Outcome State Fault Refusal :=
  .next (if pll < 5 then
    let s1 := (s.setFlag (pllLock pll) false).event (pllEvent pll)
    if pll = 1 ∨ pll = 2 then s1.supplyFault 0
    else (s1.pllBlocks pll).foldl (fun t b => if t.blockHeld b then t else t.resetBlock b) s1
  else s)

/-- PLL_RELOCK (R547, R550). -/
def execPllRelock (pll : Nat) (s : State) : Host.Outcome State Fault Refusal :=
  .next (if pll < 5 ∧ s.flag (pllLock pll) = false ∧ s.rst.held = none then
    ({ s with rst := { s.rst with pllSince := s.rst.pllSince.filter (fun x => x.1 != pll) ++ [(pll, s.cycles)] } } : State).setFlag
      (pllLock pll) true
  else s)

/-- R550: the OK bit of a reference: 0 REFCLK_SYS, 1 REFCLK_SD, 2 REF10M, 3 REF1PPS. -/
def refOk (n : Nat) : Fld :=
  match n with | 0 => F.CLK_STAT_REFCLK_SYS_OK | 1 => F.CLK_STAT_REFCLK_SD_OK | 2 => F.CLK_STAT_REF10M_OK | _ => F.CLK_STAT_REF1PPS_OK

/-- REF_LOST (R550). -/
def execRefLost (ref : Nat) (s : State) : Host.Outcome State Fault Refusal :=
  .next (if ref < 4 then (s.setFlag (refOk ref) false).event F.CLK_EVT_REF_LOST else s)

/-- REFERENCE_RETURN (R550). -/
def execReferenceReturn (ref : Nat) (s : State) : Host.Outcome State Fault Refusal :=
  .next (if ref < 4 then s.setFlag (refOk ref) true else s)

end Sys2Proof.Machine
end

