-- ==== Sys2Proof/Machine/Thermal.lean ====
section
/-! DEFINITION. Die temperature, throttling, thermal shutdown, and the mains supervisor (R551 to R554, R559 to R561). -/

namespace Sys2Proof.Machine

/-- A fault is recorded at once, or in BOOT once the device can log. -/
def State.faultSoon (s : State) (cls code : Nat) (detail : List Byte) : State :=
  if s.mode = .boot then s.faultLater cls code detail else s.fault cls code detail

/-! Conversions and thresholds (R551, R552, R554) -/

/-- R551: the hottest of the readings, with its sensor; of equal ones the lower. -/
def hottestOf (temps : List Int) : Option (Int × Nat) :=
  temps.zipIdx.foldl (fun (a : Option (Int × Nat)) (x : Int × Nat) => match a with
    | none => some x
    | some y => if y.1 < x.1 then some x else some y) none

/-- R564: HOTTEST: °C + 64, rounded down, as its eight bits hold it. -/
def hottestCode (t : Int) : Nat := ((t / 16 + 64).toNat) |> min 255

/-- R551, R565: the readings in their registers. -/
def State.storeTemps (s : State) (temps : List Int) : State :=
  temps.zipIdx.foldl (fun t (x : Int × Nat) =>
    (t.setFld (F.THM_DIE_TEMP x.2) (unsigned 16 x.1)).setFlag (F.THM_DIE_VALID x.2) true) s

/-- R561: the DETAIL of a thermal fault. -/
def thermDetail (t : Int) (sensor level : Nat) : List Byte := leBytes 2 (unsigned 16 t) ++ leBytes 1 sensor ++ leBytes 1 level

/-- R552: a threshold of `c` °C judged against the hottest: its state bit, its event and its fault. -/
def State.judgeThreshold (s : State) (bit evt : Fld) (c code : Nat) (t : Int) (sensor : Nat) : State :=
  if s.flag bit then
    (if t < ((c : Int) - s.fld F.THM_THRESH_HYST_C) * 16 then s.setFlag bit false else s)
  else if (c : Int) * 16 ≤ t then
    ((s.setFlag bit true).event evt).faultSoon 4 code (thermDetail t sensor (s.fld F.THM_STAT_LEVEL))
  else s

/-- R554: a device held hot: the highest temperature it reaches, until the hottest crosses SHUT_C downward. -/
def State.hotHold (s : State) (t : Int) (sensor : Nat) : State :=
  match s.rst.held with
  | some h =>
    if h.hot then
      let peak : Int × Nat := match s.thm.peak with
        | some p => if p.1 < t then (t, sensor) else p
        | none => (t, sensor)
      let s1 : State := { s with thm := { s.thm with peak := some peak } }
      if t < ((s.fld F.THM_THRESH_SHUT_C : Int) - s.fld F.THM_THRESH_HYST_C) * 16 then
        ({ s1 with
          rst := { s1.rst with held := some { h with hot := false, until_ := s1.cycles + msCycles 1 } }
          thm := { s1.thm with peak := none } } : State).faultLater 4 3 (thermDetail peak.1 peak.2 0)
      else s1
    else s
  | none => s

/-- R554: the second conversion in a row at or above SHUT_C. -/
def State.judgeShutdown (s : State) (t : Int) (sensor : Nat) : State :=
  let n := if (s.fld F.THM_THRESH_SHUT_C : Int) * 16 ≤ t then s.thm.shut + 1 else 0
  let s1 : State := { s with thm := { s.thm with shut := min n 2 } }
  if n = 2 then
    let s2 : State := { s1 with thm := { s1.thm with peak := some (t, sensor) } }
    s2.resetSource 6 (s2.cycles + msCycles 1) none true
  else s1

/-- DIE_CONVERSION (R551, R552, R554): the twelve sensors convert, in units of 1/16 °C. In a reset they only report. -/
def execDieConversion (temps : List Int) (s : State) : Host.Outcome State Fault Refusal :=
  .next (match hottestOf (temps.take 12) with
    | none => s
    | some (t, k) =>
      let s1 : State := { s with thm := { s.thm with hottest := t } }
      let s2 := ((s1.storeTemps (temps.take 12)).setFld F.THM_STAT_HOTTEST (hottestCode t)).setFld F.THM_STAT_HOT_SENSOR k
      if s2.rst.held.isSome || s2.rst.fuseFault then s2.hotHold t k
      else
        let s3 := s2.judgeThreshold F.THM_STAT_WARN F.THM_EVT_WARN (s2.fld F.THM_THRESH_WARN_C) 1 t k
        let s4 := s3.judgeThreshold F.THM_STAT_THROTTLE F.THM_EVT_THROTTLE (s3.fld F.THM_THRESH_THROTTLE_C) 2 t k
        s4.retrainTriggers.judgeShutdown t k)

/-! Throttling (R553) -/

/-- R553: the levels of the Skip stage. -/
def State.skipLevels (s : State) : Nat := if s.flag F.THM_THROTTLE_CTL_SKIP_EN then 2 else 0

/-- R553: the levels of the Divide stage. -/
def State.divLevels (s : State) : Nat := if s.flag F.THM_THROTTLE_CTL_DIV_EN then 3 else 0

/-- The views that a sender sends, and does not shed for temperature. -/
def State.sentViews (s : State) : List Nat :=
  s.enabledViews.filter (fun v => !s.shed v && !s.thm.shedViews.contains v)

/-- R553: the levels of the Shed stage: one for each sent view beyond the last, as the level first enters it. -/
def State.shedLevels (s : State) : Nat :=
  if s.senderRole && s.flag F.THM_THROTTLE_CTL_SHED_EN then s.thm.shedLevels.getD (s.sentViews.length - 1) else 0

/-- R553: the level rises by one. -/
def State.levelUp (s : State) : State :=
  let k := s.fld F.THM_STAT_LEVEL + 1
  let a := s.skipLevels
  let b := s.shedLevels
  if a + b + s.divLevels < k then s
  else
    let s1 := (s.setFld F.THM_STAT_LEVEL k).event F.THM_EVT_LEVEL_UP
    if k ≤ a then s1.setFld F.CLK_THROTTLE_CTL_SKIP k
    else if k ≤ a + b then
      { s1 with thm := { s1.thm with shedLevels := some b, shedViews := s1.thm.shedViews ++ (s1.sentViews.max?).toList } }
    else { s1 with thm := { s1.thm with wantDiv := k - a - b } }

/-- R553: the level falls by one. Views return in ascending number; below the Shed stage its number of levels is open
again. -/
def State.levelDown (s : State) : State :=
  let k := s.fld F.THM_STAT_LEVEL
  if k = 0 then s
  else
    let a := s.skipLevels
    let b := s.shedLevels
    let s1 := (s.setFld F.THM_STAT_LEVEL (k - 1)).event F.THM_EVT_LEVEL_DOWN
    if k ≤ a then s1.setFld F.CLK_THROTTLE_CTL_SKIP (k - 1)
    else if k ≤ a + b then
      let back := s1.thm.shedViews.min?
      { s1 with thm := { s1.thm with
        shedViews := s1.thm.shedViews.filter (fun v => some v != back)
        shedLevels := if k = a + 1 then none else s1.thm.shedLevels } }
    else { s1 with thm := { s1.thm with wantDiv := k - a - b - 1 } }

/-- THROTTLE_STEP (R553): every STEP_MS. -/
def execThrottleStep (s : State) : Host.Outcome State Fault Refusal :=
  .next (if s.rst.held.isSome || s.rst.fuseFault then s
  else if (s.fld F.THM_THRESH_THROTTLE_C : Int) * 16 ≤ s.thm.hottest then s.levelUp
  else if !s.flag F.THM_STAT_THROTTLE then s.levelDown
  else s)

/-! AC_FAIL_N (R559, R560) -/

/-- R560: a sender writes its fault log into the persistent log. -/
def State.persistLog (s : State) : State :=
  (s.faults.recs.filter (fun f => !s.nvm.log.contains f)).foldl State.persist s

/-- AC_FAIL (R559, R560): AC_FAIL_N has been low for its debounce time. A tile's FAULT goes before its other own units. -/
def execAcFail (s : State) : Host.Outcome State Fault Refusal :=
  .next (if s.flag F.THM_STAT_AC_FAIL || s.rst.held.isSome || s.rst.fuseFault then s
  else
    let s1 := (s.setFlag F.THM_STAT_AC_FAIL true).event F.THM_EVT_AC_FAIL
    let s2 : State := { s1 with thm := { s1.thm with acSince := some s1.wall } }
    let before := s2.link.own
    let s3 := s2.faultSoon 5 4 []
    if s3.tileRole then
      { s3 with link := { s3.link with own := s3.link.own.drop before.length ++ before } }
    else s3.persistLog)

/-- AC_DARK (R559): DARK_MS after the assertion, on a tile. -/
def execAcDark (s : State) : Host.Outcome State Fault Refusal :=
  .next (match s.thm.acSince with
    | some w =>
      let ms := s.fld F.THM_AC_CTL_DARK_MS
      if s.tileRole && s.flag F.THM_STAT_AC_FAIL && !s.flag F.THM_STAT_AC_DARK && ms != 0 then
        (s.untilWall (w + ofMs ms)).setFlag F.THM_STAT_AC_DARK true
      else s
    | none => s)

/-- AC_CLEAR (R559): AC_FAIL_N has been high for CLEAR_10MS × 10 ms. A bus that was dark is initialised again. -/
def execAcClear (s : State) : Host.Outcome State Fault Refusal :=
  .next (if s.flag F.THM_STAT_AC_FAIL then
    let dark := s.flag F.THM_STAT_AC_DARK
    let s1 := ((s.setFlag F.THM_STAT_AC_FAIL false).setFlag F.THM_STAT_AC_DARK false).event F.THM_EVT_AC_CLEAR
    let s2 : State := { s1 with thm := { s1.thm with acSince := none } }
    if dark && s2.tileRole then s2.initBus else s2
  else s)

end Sys2Proof.Machine
end

