-- ==== Sys2Proof/Machine/Start.lean ====
section
/-! DEFINITION. A start, from its stable clocks to its proof: straps, slot selection, memory training, settings and mode
entry, and the end of a warm restart (R24, R25, R34, R453, R478, R489 to R497). -/

namespace Sys2Proof.Machine

/-! Clocks and straps (R24, R25, R478) -/

/-- R478, R563: at the end of phase 2 every PLL has locked, and the clocks that a board must bring run
(notes/assumptions/50.md). -/
def State.clocksRun (s : State) : State :=
  let s1 := [F.CLK_STAT_CORE_LOCK, F.CLK_STAT_CTL_LOCK, F.CLK_STAT_TIME_LOCK, F.CLK_STAT_DRAM_LOCK, F.CLK_STAT_LB_LOCK,
    F.CLK_STAT_REFCLK_SYS_OK, F.CLK_STAT_REFCLK_SD_OK].foldl (fun t f => t.setFlag f true) s
  { s1 with rst := { s1.rst with pllSince := (List.range 5).map (fun p => (p, s1.cycles)) } }

/-- R25, R34, R506: FACTORY is entered, with the keys of a readable commissioning section. A tile relays. -/
def State.enterFactory (s : State) : State :=
  let s1 := s.setMode .factory
  let s2 := ({ s1 with boot := { s1.boot with phase := .done } } : State).loadCommission
  if s2.tileRole then s2.lanesOn else s2

/-- START_CLOCKS_STABLE (R24, R25, R478, R531): the self-test runs, and the straps are judged: FACTORY before ROLE. `bad` holds the
check units whose hardware fails. -/
def execStartClocksStable (bad : Nat) (s : State) : Host.Outcome State Fault Refusal :=
  .next (if s.boot.phase = .clocks ∧ s.rst.held = none then
    let s1 := s.clocksRun.selfTest bad
    let wants := s1.flag F.SYS_STRAP_FACTORY_EN
    if wants && s1.fuses.factoryPerm then s1.enterFactory
    else
      let s2 := if wants then s1.setFlag F.SYS_STRAP_FACTORY_DENIED true else s1
      if 2 ≤ s2.fld F.SYS_STRAP_ROLE then s2.enterMitten 0x01
      else if s2.boot.mitten then ({ s2 with boot := { s2.boot with mitten := false } } : State).enterMitten 0x02
      else { s2 with boot := { s2.boot with phase := .nvm, since := s2.cycles } }
  else s)

/-! Slot selection (R489) -/

/-- R484: the trial slot that a header names. -/
def trialOf (h : List Byte) : Option Nat := if hdrByte h 29 < 2 then some (hdrByte h 29) else none

/-- R489: a start of a trial slot is counted; after three the slot is FAILED. -/
def State.countTrial (s : State) : State :=
  let h := s.boot.hdr
  match trialOf h with
  | none => s
  | some k =>
    if hdrByte h 30 = 3 then s.writeHdr (setHdr (setSlotState h k 4 0x26) 29 0xFF)
    else s.writeHdr (setHdr h 30 (hdrByte h 30 + 1))

/-- R486, R489: slot k may run; one that fails its checks is INVALID from then on. -/
def State.trySlot (s : State) (k : Nat) : State × Bool :=
  let h := s.boot.hdr
  if slotState h k = 2 ∨ slotState h k = 3 then
    match s.imageFails (s.slotBytes k) with
    | none => (s, true)
    | some r => (s.writeHdr (setSlotState h k 5 r), false)
  else (s, false)

/-- R453: the option bytes of a header that a role cannot use. -/
def memoryRefused (tile : Bool) (h : List Byte) : Bool :=
  let mask := leAt h 36 2
  (if tile then mask != 0 && mask != 3 else mask != 0xFFFF) || decide (2 < hdrByte h 38) || decide (3 < hdrByte h 39) ||
    decide (3 < hdrByte h 40)

/-- R453, R469: the populated channels begin their training as soon as a header is chosen. A tile whose options are wrong runs
without memory. -/
def State.startMemory (s : State) (h : List Byte) : State :=
  if memoryRefused s.tileRole h then
    (if s.tileRole then
      ((s.memoryOptions h).setFld F.DRC_CFG_CH_MASK 0).setFld F.DRC_TOP_TOP_MIB 0 |>.faultLater 8 3 []
     else s.memoryOptions h)
  else
    (List.range s.dramChannels).foldl (fun t c =>
      if t.bit F.DRC_CFG_CH_MASK c then t.setFld (F.DRC_CH_STAT_STATE c) 1 else t) (s.memoryOptions h)

/-- R478, R489: the image of slot k is verified and loaded. -/
def State.runSlot (s : State) (k first : Nat) : State :=
  let s1 := if k = first then s else (s.setFlag F.SYS_BOOT_STAT_FALLBACK true).event F.SYS_BOOT_EVT_FALLBACK_EVT
  let s2 := ((s1.setFld F.SYS_BOOT_STAT_SLOT k).setFlag F.SYS_BOOT_STAT_TRIAL (slotState s1.boot.hdr k == 2)).setFld
    F.SYS_FW_VER_FW_VER (imageFw (s1.slotBytes k))
  { s2 with boot := { s2.boot with phase := if s2.boot.phase = .warm then .warm else .processors, since := s2.cycles } }

/-- R489: the slot to run, or MITTEN. -/
def State.selectSlot (s : State) : State :=
  if s.fld F.SYS_BOOT_STAT_FAIL_COUNT = 3 then s.enterMitten 0x20
  else
    let s1 := s.countTrial
    let first := (trialOf s1.boot.hdr).getD (hdrByte s1.boot.hdr 28 % 2)
    let (s2, a) := s1.trySlot first
    if a then s2.runSlot first first
    else
      let (s3, b) := s2.trySlot (1 - first)
      if b then s3.runSlot (1 - first) first
      else if s3.flag F.SYS_BOOT_STAT_FALLBACK then s3.enterMitten 0x22
      else s3.enterMitten 0x11

/-- R482, R489: phases 4 and 5. A warm restart keeps its memory as it is. -/
def State.readHeader (s : State) : State :=
  if s.boot.mitten then ({ s with boot := { s.boot with mitten := false } } : State).enterMitten 0x02
  else match s.chosenHdr with
  | none => s.enterMitten 0x10
  | some (_, h) =>
    let warm := s.boot.phase == .warm
    let s1 := if warm then s.useHdr h else (s.useHdr h).startMemory h
    let s2 := s1.selectSlot
    if s2.boot.phase = .processors ∧ s2.tileRole = false ∧ memoryRefused false h = true then s2.countedFailure 0x24 else s2

/-- SLOT_SELECTION (R453, R489). -/
def execSlotSelection (s : State) : Host.Outcome State Fault Refusal :=
  .next (if s.rst.held = none ∧ (s.boot.phase = .nvm ∨ (s.boot.phase = .warm ∧ s.boot.hdr = [])) then s.readHeader else s)

/-! Memory training and processors (R453, R469, R472, R490) -/

/-- R469, R472, R475: channel c has trained: it is in service, and reports its eye. -/
def State.channelTrained (s : State) (c : Nat) (r : Nat × Nat × Nat) : State :=
  let s1 := ((s.setFld (F.DRC_CH_STAT_STATE c) 2).setBit F.DRC_STAT_TRAINED c true).reportEye c r.1 r.2.1 r.2.2
  s1.setFld (F.DRC_CH_STAT_LAST_TEMP c) (s1.fld F.THM_STAT_HOTTEST)

/-- R453: channel c has failed its training. A tile runs without memory and records it. -/
def State.channelFailed (s : State) (c : Nat) : State :=
  let s1 := ((s.setFld (F.DRC_CH_STAT_STATE c) 5).setBit F.DRC_STAT_TRAINED c false).event F.DRC_EVT_TRAIN_FAIL
  if s1.tileRole then s1.faultSoon 8 3 (leBytes 1 c) else s1

/-- R469: the channels in training end it, as the mask of failures and the eye and skew of each say. -/
def State.endTraining (s : State) (failed : Nat) (results : List (Nat × Nat × Nat)) : State :=
  let cs := (List.range s.dramChannels).filter (fun c => s.fld (F.DRC_CH_STAT_STATE c) == 1)
  let s1 := cs.foldl (fun t c =>
    if failed / 2 ^ c % 2 = 1 then t.channelFailed c else t.channelTrained c (results.getD c (0, 0, 0))) s
  let ok := cs.all (fun c => failed / 2 ^ c % 2 == 0)
  let s2 : State := { s1 with boot := { s1.boot with dram := some ok } }
  if !ok && !s2.tileRole && s2.mode == .boot then s2.countedFailure 0x24 else s2

/-- DRAM_TRAINING_DONE (R453, R469): `results` holds the eye width and height and the skew of every channel in order. -/
def execDramTrainingDone (failed : Nat) (results : List (Nat × Nat × Nat)) (s : State) : Host.Outcome State Fault Refusal :=
  .next (if s.rst.held = none ∧ (List.range s.dramChannels).any (fun c => s.fld (F.DRC_CH_STAT_STATE c) == 1) = true then
    s.endTraining failed results
  else s)

/-- The processors are being loaded. -/
def State.loading (s : State) : Bool :=
  s.rst.held.isNone && (s.boot.phase == .processors || (s.boot.phase == .warm && !s.boot.hdr.isEmpty))

/-- PROCESSOR_READY_TIMEOUT (R490): 100 ms after loading. -/
def execProcessorReadyTimeout (s : State) : Host.Outcome State Fault Refusal :=
  .next (if s.loading then (s.untilCycle (s.boot.since + msCycles 100)).countedFailure 0x30 else s)

/-! Settings and mode entry (R493, R494, R418) -/

/-- R494: a schema that the running image cannot read. -/
def State.schemaRefused (s : State) (schema : Nat) : Bool :=
  decide (schema < leAt s.runningImage 20 2) || decide (leAt s.runningImage 22 2 < schema)

/-- R492: the two copies of the settings record. -/
def State.setCopy (s : State) (k : Nat) : List Byte := if k = 0 then s.nvm.set0 else s.nvm.set1

/-- R494: either copy holds MAGIC. -/
def State.anyMagic (s : State) : Bool := setMagic s.nvm.set0 || setMagic s.nvm.set1

/-- R494: the newest copy is not valid, and an older one is. -/
def State.olderCopy (s : State) (k : Nat) : Bool :=
  setMagic (s.setCopy (1 - k)) && decide (leAt (s.setCopy k) 8 4 < leAt (s.setCopy (1 - k)) 8 4)

/-- R493: the sections of a record, and what follows each in the blocks. -/
def State.loadSettings (s : State) (bs : List Byte) : State :=
  (sections (setBody bs)).foldl (fun t x =>
    let u := t.loadRecord x
    if u.tileRole then State.reactLamp t u else State.react t u []) s

/-- R493, R494: the settings of a cold start. -/
def State.readSettings (s : State) : State :=
  match s.chosenSet with
  | some (k, bs) =>
    let schema := leAt bs 4 2
    let s1 := (((s.loadSettings bs).setFld F.SYS_SCHEMA_LIVE schema).setFld F.SYS_SCHEMA_RECORD schema).setFld F.SYS_BOOT_STAT_SET_COPY k
    if s1.olderCopy k then
      (s1.event F.SYS_BOOT_EVT_SETTINGS_COPY).faultLater 6 2 (leBytes 4 (leAt bs 8 4) ++ [0] ++ leBytes 1 k)
    else s1
  | none =>
    let s1 := (s.setFlag F.SYS_BOOT_STAT_SETTINGS_DEFAULT true).setFld F.SYS_SCHEMA_LIVE (leAt s.runningImage 24 2)
    if s1.anyMagic then s1.faultLater 6 3 [] else s1

/-- R490, R494: the reason for which the settings end a cold start. -/
def State.settingsFail (s : State) : Option Nat :=
  match s.chosenSet with
  | some (_, bs) => if s.schemaRefused (leAt bs 4 2) then some 0x21 else none
  | none => if s.anyMagic && !s.tileRole then some 0x23 else none

/-- R418: RED_CTL and the rank of a sender, from RED_FLAGS. -/
def State.redOptions (s : State) : State :=
  if s.tileRole then s
  else
    let f := hdrByte s.boot.hdr 41
    ((s.setFlag F.RED_CTL_PARTNER_EN (f % 2 == 1)).setFlag F.RED_CTL_PREFERRED (f / 2 % 2 == 1)).setFld F.RED_STAT_RANK
      (1 - f / 2 % 2)

/-- R32, R34, R237, R394, R491, R501: TILE or STANDBY is entered. -/
def State.enterRunning (s : State) : State :=
  let s1 := s.setMode (if s.tileRole then .tile else .standby)
  let s2 : State := { s1 with
    boot := { s1.boot with phase := .done, entered := some s1.cycles }
    red := if s1.tileRole then s1.red else { s1.red with
      standbyAt := some s1.cycles
      hbBase := s1.cycles
      gap := true } }
  let s3 := if s2.tileRole = false ∧ s2.fld F.PTP_CTL_SOURCE = 2 ∧ s2.timeMode ≠ .locked then s2.setTimeMode .locked else s2
  s3.lanesOn.sendTileInfo.flushFaults

/-- MODE_ENTRY (R478, R493, R494): phases 6 to 9. A sender waits for its memory. -/
def execModeEntry (s : State) : Host.Outcome State Fault Refusal :=
  .next (if s.rst.held = none ∧ s.boot.phase = .processors ∧ (s.tileRole = true ∨ s.boot.dram = some true) then
    match s.settingsFail with
    | some r => s.countedFailure r
    | none => s.redOptions.readSettings.enterRunning
  else s)

/-! The proof of a start (R491) -/

/-- R491: a trial slot becomes PROVEN and PREFERRED. -/
def State.proveSlot (s : State) : State :=
  let k := s.fld F.SYS_BOOT_STAT_SLOT
  let h := s.boot.hdr
  if slotState h k = 2 then s.writeHdr (setHdr (setHdr (setHdr (setSlotState h k 3 0) 28 k) 29 0xFF) 30 0) else s

/-- R491: ADVANCE_ROLLBACK burns the ROLLBACK fuses up to SECURITY_VER. -/
def State.advanceRollback (s : State) : State :=
  let bs := s.runningImage
  if leAt bs 60 4 % 2 = 1 then { s with fuses := { s.fuses with rollback := max s.fuses.rollback (min 64 (leAt bs 16 4)) } } else s

/-- START_PROVEN (R491): 10 s after mode entry. -/
def execStartProven (s : State) : Host.Outcome State Fault Refusal :=
  .next (match s.boot.entered with
    | some c =>
      let s1 := s.untilCycle (c + msCycles 10000)
      let s2 := (s1.setFld F.SYS_BOOT_STAT_FAIL_COUNT 0).setFlag F.SYS_BOOT_STAT_FALLBACK false
      let s3 := (s2.proveSlot.advanceRollback.setFlag F.SYS_BOOT_STAT_TRIAL false).event F.SYS_BOOT_EVT_PROVEN_EVT
      { s3 with boot := { s3.boot with entered := none } }
    | none => s)

/-! The end of a warm restart (R405, R494, R497) -/

/-- R405: actions that fell due in the restart run late. -/
def State.markLate (s : State) : State :=
  { s with sched := s.sched.map (fun (e : SchedEntry) => match e.act with
    | .swapAt _ _ => e
    | _ => if e.due ≤ s.wall then { e with late := true } else e) }

/-- WARM_RESTART_DONE (R494, R497): the device enters its mode again with its settings as they were. -/
def execWarmRestartDone (s : State) : Host.Outcome State Fault Refusal :=
  .next (if s.rst.held = none ∧ s.boot.phase = .warm then
    let s1 := if s.boot.hdr = [] then s.readHeader else s
    if s1.boot.phase = .warm then
      (if s1.schemaRefused (s1.fld F.SYS_SCHEMA_LIVE) then s1.countedFailure 0x21 else s1.markLate.enterRunning)
    else s1
  else s)

end Sys2Proof.Machine
end

