-- ==== Sys2Proof/Machine/Schedule.lean ====
section
/-! DEFINITION. Scheduled actions at their due time (R400 to R405, R496, R539). -/

namespace Sys2Proof.Machine

/-- R404: the order of work due together: other actions, then steps, then resets and activations. -/
def schedClass : SchedAct → Nat
  | .step _ => 1
  | .reset _ _ _ => 2
  | _ => 0

/-- R402, R404, R405: which of two actions runs first: one that is late, then by wall time, by class and by sequence
number. -/
def runsBefore (a b : SchedEntry) : Bool :=
  if a.late != b.late then a.late
  else if a.due ≠ b.due then decide (a.due < b.due)
  else if schedClass a.act ≠ schedClass b.act then decide (schedClass a.act < schedClass b.act)
  else decide (a.seq ≤ b.seq)

/-- R404: a role swap is the work of its flip (R445). -/
def flipWork : SchedAct → Bool
  | .swapAt _ _ => true
  | _ => false

/-- The action that runs next. -/
def State.nextAction (s : State) : Option SchedEntry :=
  (s.sched.filter (fun (e : SchedEntry) => !flipWork e.act)).foldl (fun (o : Option SchedEntry) e => match o with
    | none => some e
    | some x => if runsBefore x e then some x else some e) none

/-- R402: the latch for the first flip after a step, where flips have been skipped. -/
def State.stepLatch (s : State) (m : Nat) : State :=
  let skip := s.blockHeld 4 || s.red.restore.isSome || s.red.f1.any (fun f => decide (m < f))
  if skip then s
  else
    let t := s.latchDiv.latchShed
    let u := (t.nextSent (m - 1)).elim t t.latchFrame
    if u.mode = .standby ∧ u.flag F.RED_STAT_WARM = false then
      ({ u with scan := { u.scan with frame := none } } : State).setFlag F.CMP_STAT_BUSY false
    else u

/-- R402: after a step at its flip, the latch for the next one where flips have been skipped. -/
def State.latchSkipped (s : State) : State :=
  match s.flip.last, s.flip.next with
  | some n, some m => if s.senderRuns && s.sequenceRuns && m != (n + 1) % 2 ^ 64 then s.stepLatch m else s
  | _, _ => s

/-- R400, R402: a step at its flip. -/
def State.runStep (s : State) (delta : Int) : State := (s.applyStep delta true).latchSkipped

/-- R496: the slot that holds a STAGED image, as the trial slot. -/
def State.stagedToTrial (s : State) : Option State :=
  ([0, 1].find? (fun k => slotState s.hdrNow k == 1)).map (fun k =>
    s.writeHdr (setHdr (setHdr (setSlotState s.hdrNow k 2 0) 29 k) 30 0))

/-- R541, R542: a reset asked for by software or by a message begins now, and is held for 1 ms. -/
def State.softReset (s : State) (src : Nat) : State := s.resetSource src (s.cycles + msCycles 1) none false

/-- R496, R539: a scheduled reset or firmware activation. -/
def State.runReset (s : State) (level cause : Nat) : State :=
  if cause = 1 then (s.stagedToTrial).elim s (fun t => t.softReset 0x0A)
  else if s.tileRole then s.softReset (if level = 1 then 0x0B else 0x0C)
  else s.softReset (if level = 1 then 0x08 else 0x09)

/-- R355, R386, R402, R404: what an action does at its time. A standby runs steps alone (R425, notes/assumptions/53.md); HATBAND
and SNAPSHOT act on tiles. -/
def State.runAction (s : State) (e : SchedEntry) : State :=
  match e.act with
  | .step d => s.runStep d
  | .reset l c _ => if s.mode = .standby then s else s.runReset l c
  | .hatband _ _ mask => if s.tileRole then s.hatbandLatch mask else s
  | .snapshot id content => if s.tileRole then s.captureSnapshot id content else s
  | .swapAt _ _ => s

/-- SCHEDULED_ACTION_DUE (R402, R404, R405). -/
def execScheduledActionDue (s : State) : Host.Outcome State Fault Refusal :=
  .next (match s.nextAction with
    | some e =>
      if s.senderRuns || s.mode == .tile then
        let s0 : State := { s with sched := s.sched.filter (fun (x : SchedEntry) => x != e) }
        let s1 := if e.late then s0.eventCount F.PTP_EVT_LATE_RUN F.PTP_SCHED_LATE_RUN_COUNT else s0.untilWall e.due
        s1.runAction e
      else s
    | none => s)

end Sys2Proof.Machine
end

