-- ==== Sys2Proof/Machine/Shadow.lean ====
section
/-! DEFINITION. COMMIT_ALL (R75): the outcomes of values that COMMIT would reject, and the shadow set as a transaction
(R89, R135, R158, R172, R199, R325, R363, R374, R411, R552, R557). The order in which the outcomes are taken is
notes/assumptions/54.md. -/

namespace Sys2Proof.Machine

/-- Changes being made fit: the words that they and the outcomes give, newest first, and the events to be set. -/
structure Fix where
  ovr : List (Nat × Word)
  evs : List Fld
  deriving DecidableEq, Repr

/-- The word that stands at an address, over the words `v` of the changes as written. -/
def Fix.word (v : Nat → Word) (f : Fix) (a : Nat) : Word := ((f.ovr.find? (fun x => x.1 == a)).map (·.2)).getD (v a)

/-- A field replaced. -/
def Fix.set (v : Nat → Word) (f : Fix) (x : Fld) (n : Nat) : Fix := { f with ovr := (x.addr, x.into n (f.word v x.addr)) :: f.ovr }

/-- An event to be set. -/
def Fix.note (f : Fix) (x : Fld) : Fix := { f with evs := f.evs ++ [x] }

/-- The addresses of the words that changes write, in their order. -/
def writtenAddrs (chs : List Change) : List Nat := chs.flatMap (fun c => runAddrs c.addr c.words.length)

/-- R75: every word of a range that the COMMIT_ALL writes keeps its previous value. -/
def Fix.keep (prev : Nat → Word) (chs : List Change) (f : Fix) (r : Nat × Nat) : Fix :=
  { f with ovr := ((writtenAddrs chs).filter (fun a => decide (r.1 ≤ a ∧ a < r.2))).map (fun a => (a, prev a)) ++ f.ovr }

/-- R75: a rule over several fields: while it fails, the words that it concerns keep their previous values, range by range. -/
def Fix.keepRule (prev v : Nat → Word) (chs : List Change) (f : Fix) (rs : List (Nat × Nat)) (fails : (Nat → Word) → Bool) : Fix :=
  rs.foldl (fun g r => if fails (g.word v) then g.keep prev chs r else g) f

/-- R75: the fields of one word that are out of their range keep their previous values. -/
def Fix.fitFields (prev v : Nat → Word) (f : Fix) (a : Nat) (r : RegDef) (only : Option Nat) : Fix :=
  r.fields.foldl (fun g x =>
    let y : Fld := ⟨a, x.hi, x.lo⟩
    if (x.acc == .rw || x.acc == .rws) && (only.isNone || only == some x.lo) && !x.ok (y.of (g.word v a)) then
      g.set v y (y.of (prev a))
    else g) f

/-- R57, R75: a word that the COMMIT_ALL writes, judged as check 2 judges it. -/
def Fix.fitWord (prev v : Nat → Word) (f : Fix) (a : Nat) : Fix :=
  match findReg a with
  | none => f
  | some (r, ix) =>
    match r.enableAt ix with
    | none => f.fitFields prev v a r none
    | some (ea, bit) =>
      if (f.word v ea).toNat / 2 ^ bit % 2 = 1 then f.fitFields prev v a r none
      else if a = ea then f.fitFields prev v a r (some bit) else f

/-- R57, R75: an enable under which a field of the descriptor is out of its range keeps its previous value. -/
def Fix.fitEnable (prev v : Nat → Word) (f : Fix) (a : Nat) : Fix :=
  match findReg a with
  | none => f
  | some (r, ix) =>
    match r.enableAt ix with
    | none => f
    | some (ea, bit) =>
      if a = ea ∧ rangeFails (f.word v) a = true then
        let y : Fld := ⟨a, bit, bit⟩
        f.set v y (y.of (prev a))
      else f

/-- R75: the field ranges of every word written. -/
def Fix.fitRanges (prev v : Nat → Word) (chs : List Change) (f : Fix) : Fix :=
  (writtenAddrs chs).foldl (Fix.fitEnable prev v) ((writtenAddrs chs).foldl (Fix.fitWord prev v) f)

/-! A sender's settings -/

/-- R75: SYS_CUFF out of its range is used as the nearer limit. -/
def Fix.cuff (v : Nat → Word) (chs : List Change) (f : Fix) : Fix :=
  let c := vf (f.word v) F.SYS_CUFF_CUFF_US
  if chs.any (touches 0x200 0x204) ∧ (c < 100 ∨ 2000 < c) then
    (f.set v F.SYS_CUFF_CUFF_US (if c < 100 then 100 else 2000)).note F.SYS_FLIP_EVT_CUFF_CLAMP
  else f

/-- R89: descriptors that fail a check are disabled, and then the highest until the write budget holds. -/
def Fix.sources (top : Nat) (v : Nat → Word) (chs : List Change) (f : Fix) : Fix :=
  if chs.any (touches 0x100100 0x100500) then
    let w := f.word v
    let bad := (enabledSrcs w).filter (fun i => rangeFails w (srcRegion i).1 || srcFails top w i)
    let g := bad.foldl (fun g i => (g.set v (F.SDI_SRC_CTL_EN i) 0).note (F.SDI_SRC_EVT_CFG_REJ i)) f
    (List.range 16).foldr (fun i h =>
      if vb (h.word v) (F.SDI_SRC_CTL_EN i) && decide (writeRate (h.word v) > writeBudget) then h.set v (F.SDI_SRC_CTL_EN i) 0 else h) g
  else f

/-- R172: a General layer is disabled. -/
def Fix.layerOff (v : Nat → Word) (f : Fix) (w k : Nat) : Fix := (f.set v (F.CMP_LAYER_CTL_EN w k) 0).note F.CMP_EVT_LAYER_DIS

/-- R172: the crop of a layer is cut to fit. One that starts outside disables the layer. -/
def Fix.crop (v : Nat → Word) (f : Fix) (w k : Nat) : Fix :=
  let u := f.word v
  if layerCropFails u w k then
    let b := layerBounds u w k
    let x := vf u (F.CMP_LAYER_CROP_POS_SRC_X w k)
    let y := vf u (F.CMP_LAYER_CROP_POS_SRC_Y w k)
    if b.1 ≤ x ∨ b.2 ≤ y then f.layerOff v w k
    else
      ((f.set v (F.CMP_LAYER_CROP_SIZE_SRC_W w k) (min (vf u (F.CMP_LAYER_CROP_SIZE_SRC_W w k)) (b.1 - x))).set v
        (F.CMP_LAYER_CROP_SIZE_SRC_H w k) (min (vf u (F.CMP_LAYER_CROP_SIZE_SRC_H w k)) (b.2 - y))).note F.CMP_EVT_CROP_CLAMP
  else f

/-- R172: what disables a layer, crops apart. -/
def layerUnfit (top : Nat) (v : Nat → Word) (w k : Nat) : Bool :=
  layerKindFails v w k || vf v (F.CMP_LAYER_CTL_BLEND w k) == 3 ||
  vf v (F.CMP_LAYER_CROP_SIZE_SRC_W w k) == 0 || vf v (F.CMP_LAYER_CROP_SIZE_SRC_H w k) == 0 ||
  (vf v (F.CMP_LAYER_CTL_KIND w k) == 1 && layerBufFails top v w k) ||
  (vb v (F.CMP_LAYER_CTL_SCALE_EN w k) &&
    (ratioFails (vf v (F.CMP_LAYER_CROP_SIZE_SRC_W w k)) (vf v (F.CMP_LAYER_DST_SIZE_DST_W w k)) ||
     ratioFails (vf v (F.CMP_LAYER_CROP_SIZE_SRC_H w k)) (vf v (F.CMP_LAYER_DST_SIZE_DST_H w k))))

/-- R158, R172: a General layer that is enabled. -/
def Fix.layer (top : Nat) (v : Nat → Word) (f : Fix) (w k : Nat) : Fix :=
  let g := if layerUnfit top (f.word v) w k then f.layerOff v w k else f.crop v w k
  let u := g.word v
  if vb u (F.CMP_LAYER_CTL_EN w k) && vb u (F.CMP_LAYER_CTL_SCALE_EN w k) then
    let g1 := if layerLineFails u w k then
        (g.note F.CMP_EVT_LINEBUF_CLAMP).note
          ⟨F.CMP_LINEBUF_EVT_SCALER.addr, vf u (F.CMP_LAYER_CTL_SCALER w k) % 16, vf u (F.CMP_LAYER_CTL_SCALER w k) % 16⟩
      else g
    if coefHFails u (vf u (F.CMP_LAYER_ALPHA_COEF_H w k)) || coefVFails u (vf u (F.CMP_LAYER_ALPHA_COEF_V w k)) then
      g1.note F.CMP_EVT_COEF_UNNORM
    else g1
  else g

/-- R172: an enabled scaled layer of a view, other than k and before it or of the Gauntlet, names its scaler. -/
def scalerTaken (v : Nat → Word) (w k : Nat) : Bool :=
  vb v (F.CMP_LAYER_CTL_SCALE_EN w k) &&
  (layersOf v w).any (fun j => j != k && (decide (j < k) || decide (60 ≤ j)) && vb v (F.CMP_LAYER_CTL_SCALE_EN w j) &&
    vf v (F.CMP_LAYER_CTL_SCALER w j) == vf v (F.CMP_LAYER_CTL_SCALER w k))

/-- R172: the layers of every view, where a word that their rules involve is written. -/
def Fix.layers (top : Nat) (v : Nat → Word) (chs : List Change) (f : Fix) : Fix :=
  if chs.any (fun c => touches 0x180020 0x180038 c || touches 0x188000 0x1A0000 c || touches 0x100100 0x100500 c) then
    let general : List (Nat × Nat) := (List.range 8).flatMap (fun w => (List.range 60).map (fun k => (w, k)))
    let on (g : Fix) (x : Nat × Nat) : Bool := vb (g.word v) (F.CMP_LAYER_CTL_EN x.1 x.2)
    let g1 := general.foldl (fun g x => if on g x then g.layer top v x.1 x.2 else g) f
    let g2 := general.foldl (fun g x => if on g x && scalerTaken (g.word v) x.1 x.2 then g.layerOff v x.1 x.2 else g) g1
    general.foldr (fun x g =>
      if on g x && layerBpp (g.word v) x.1 x.2 != 0 && ratesFail (g.word v) then g.layerOff v x.1 x.2 else g) g2
  else f

/-- R411: the settings of PTP. -/
def Fix.ptp (s : State) (v : Nat → Word) (chs : List Change) (prev : Nat → Word) (f : Fix) : Fix :=
  if chs.any (touches 0x140000 0x140300) then
    let u := f.word v
    let same := vb u (F.PTP_DOM_CFG_EN 0) && vb u (F.PTP_DOM_CFG_EN 1) && vf u (F.PTP_DOM_CFG_DOMAIN 0) == vf u (F.PTP_DOM_CFG_DOMAIN 1)
    let names := (vf u F.PTP_CTL_SELECT == 2 && !vb u (F.PTP_DOM_CFG_EN 0)) || (vf u F.PTP_CTL_SELECT == 3 && !vb u (F.PTP_DOM_CFG_EN 1))
    let g := if same || names then (f.set v (F.PTP_DOM_CFG_EN 1) 0).set v F.PTP_CTL_SELECT 0 else f
    let g1 := if vf u F.PTP_CTL_SOURCE == 2 && s.partnered then g.set v F.PTP_CTL_SOURCE (F.PTP_CTL_SOURCE.of (prev F.PTP_CTL_SOURCE.addr)) else g
    (List.range 8).foldl (fun h n =>
      let x := h.word v
      let width := vf x (F.PTP_EVT_WIDTH_WIDTH_NS n)
      let num := vf x (F.PTP_EVT_RATE_NUM n)
      let den := vf x (F.PTP_EVT_RATE_DEN n)
      if vb x (F.PTP_EVT_CTL_EN n) &&
          (decide (width < 10) || (vf x (F.PTP_EVT_CTL_MODE n) == 1 && decide (width * num ≥ den * 10 ^ 9)) ||
           (vf x (F.PTP_EVT_CTL_MODE n) == 2 && decide (width ≥ 10 ^ 9)) || decide (num > 1000000 * den)) then
        h.set v (F.PTP_EVT_CTL_EN n) 0
      else h) g1
  else f

/-- R135: the monitoring flows that are disabled, from the highest down. -/
def Fix.flows (v : Nat → Word) (chs : List Change) (f : Fix) : Fix :=
  if chs.any (fun c => touches 0x110000 0x130000 c || touches 0x180024 0x180038 c || touches 0x180600 0x1806C0 c) then
    [(1, 1), (1, 0), (0, 1), (0, 0)].foldl (fun g (x : Nat × Nat) =>
      if flowsFail (g.word v) x.1 then g.set v (F.NET_MON_CTL_EN x.1 x.2) 0 else g) f
  else f

/-- R552, R557: the thresholds of temperature and rails. -/
def Fix.thresholds (prev v : Nat → Word) (chs : List Change) (f : Fix) : Fix :=
  (List.range 8).foldl (fun g n =>
    if chs.any (touches (0x030400 + 16 * n) (0x030410 + 16 * n)) && (thmRules (g.word v) [⟨0, 0x030400 + 16 * n, 0, 0, [0, 0, 0, 0]⟩] != []) then
      ((g.keep prev chs (F.THM_SUPV_LEVELS_MIN_MV n |>.addr, (F.THM_SUPV_LEVELS_MIN_MV n).addr + 4)).keep prev chs
        ((F.THM_SUPV_MAX_MAX_MV n).addr, (F.THM_SUPV_MAX_MAX_MV n).addr + 4))
    else g)
    (f.keepRule prev v chs [(0x030000, 0x030004)] (fun w => thmRules w [⟨0, 0x030000, 0, 0, [0]⟩] != []))

/-- R75, R180, R182, R188, R206, R139: the rules for which no chapter gives an outcome. -/
def Fix.others (s : State) (prev v : Nat → Word) (chs : List Change) (f : Fix) : Fix :=
  let g := f.keepRule prev v chs [(0x180024, 0x18002C)] cadenceFails
  let g1 := g.keepRule prev v chs [(0x18002C, 0x180038), (0x180100, 0x180200)] sequenceFails
  let g2 := (List.range 8).foldl (fun h w =>
    h.keepRule prev v chs [(0x180110 + 0x20 * w, 0x180118 + 0x20 * w), (0x180024, 0x180028)] (fun x => shutterFails x w)) g1
  let g3 := (List.range 6).foldl (fun h t =>
    h.keepRule prev v chs [(0x180600 + 0x20 * t, 0x180620 + 0x20 * t), (0x180020, 0x180038), (0x100100, 0x100500)]
      (fun x => tapFails s.bufferTop x t)) g2
  (List.range 2).foldl (fun h p =>
    h.keepRule prev v chs [(0x110028 + 0x10000 * p, 0x11002C + 0x10000 * p)]
      (fun x => vf x (F.NET_UDP_CMD_PORT p) == vf x (F.NET_UDP_HB_PORT p))) g3

/-- R194, R215: a publication whose check differs, or whose GEN is the active one, does not take place. -/
def State.publishFails (s : State) (u : Nat → Word) : Bool :=
  s.stageCheck.toNat != vf u F.CMP_MAP_CHECK_CHECK || vf u F.CMP_MAP_CTL_GEN == s.fld F.CMP_MAP_STAT_ACTIVE_GEN

/-- R199: MAP_REJ where the check differs. -/
def Fix.publish (s : State) (prev v : Nat → Word) (chs : List Change) (f : Fix) : Fix :=
  if publishesMap chs && s.publishFails (f.word v) then
    let g := f.keep prev chs (0x180048, 0x18004C)
    if s.stageCheck.toNat ≠ vf (f.word v) F.CMP_MAP_CHECK_CHECK then g.note F.CMP_SCAN_EVT_MAP_REJ else g
  else f

/-- R75: a sender's own changes, made fit. -/
def fixSender (s : State) (prev v : Nat → Word) (chs : List Change) : Fix :=
  let f := (Fix.sources s.bufferTop v chs (Fix.cuff v chs ⟨[], []⟩)) |> Fix.layers s.bufferTop v chs
  let g := (f.fitRanges prev v chs) |> Fix.thresholds prev v chs |> Fix.ptp s v chs prev
  Fix.flows v chs (Fix.publish s prev v chs (Fix.others s prev v chs g))

/-! A tile's settings (R325, R363, R374) -/

/-- R325: W or H out of range, or W × H above 131,072: the geometry stays. -/
def Fix.geometry (prev v : Nat → Word) (chs : List Change) (f : Fix) : Fix :=
  f.keepRule prev v chs [(0x280000, 0x280004)] (fun w => rangeFails w 0x280000 || geomFails (fun a => some (w a)))

/-- R325, R363: the single values that are taken as others. -/
def Fix.values (v : Nat → Word) (chs : List Change) (f : Fix) : Fix :=
  let g := if chs.any (touches 0x280020 0x280024) ∧ vf (f.word v) F.TIL_DITHER_MODE = 3 then f.set v F.TIL_DITHER_MODE 2 else f
  let g1 := if chs.any (touches 0x280024 0x280028) ∧ 0x8000 < vf (g.word v) F.TIL_BRIGHT_HOST_GAIN then g.set v F.TIL_BRIGHT_HOST_GAIN 0x8000 else g
  if chs.any (touches 0x2C0010 0x2C0014) ∧ vf (g1.word v) F.LMB_SCAN_REFRESH = 0 then g1.set v F.LMB_SCAN_REFRESH 1 else g1

/-- R363: contexts that are disabled: of a wrong shape, on a line that breaks its rules, or mapping a lamp that a lower
context maps. -/
def Fix.contexts (v : Nat → Word) (chs : List Change) (f : Fix) : Fix :=
  if chs.any (fun c => touches 0x280000 0x280004 c || touches 0x2C0010 0x2C0018 c || touches 0x2D0000 0x2F0000 c) then
    let off (g : Fix) (x : Nat) : Fix := g.set v (F.LMB_CTX_CTL_EN x) 0
    let o (g : Fix) : Nat → Option Word := fun a => some (g.word v a)
    let g1 := (ctxsOn (o f)).foldl (fun g x => if ctxShapeFails (o g) x then off g x else g) f
    let lines := (ctxsOn (o g1)).filter (lineFails (o g1))
    let g2 := lines.foldl off g1
    (ctxsOn (o g2)).foldl (fun g x =>
      let lower := (ctxsOn (o g)).filter (fun y => decide (y < x))
      let mine := (ctxLamps (o g) x).getD []
      if lower.any (fun y => mine.any (((ctxLamps (o g) y).getD []).contains ·)) then off g x else g) g2
  else f

/-- R374: diagnostics whose MIN_WIDTH breaks a condition are applied with EN 0. -/
def Fix.diag (v : Nat → Word) (chs : List Change) (f : Fix) : Fix :=
  if chs.any (fun c => touches 0x2C0010 0x2C0018 c || touches 0x2C0060 0x2C006C c) ∧ diagFails (fun a => some (f.word v a)) = true then
    (f.set v F.LMB_DIAG_CTL_EN 0).note F.LMB_DIAG_EVT_CFG_REJ
  else f

/-- R75: changes of a tile's words, made fit. -/
def fixTile (prev v : Nat → Word) (chs : List Change) : Fix :=
  let f := Fix.values v chs (Fix.geometry prev v chs (Fix.cuff v chs ⟨[], []⟩))
  let g := Fix.diag v chs (Fix.contexts v chs f)
  (g.fitRanges prev v chs).keepRule prev v chs [(0x2C0064, 0x2C0068)] (fun w => roundFails (fun a => some (w a)))

/-- R411: on a tile the settings of PTP are ignored. -/
def fixOwnTile (prev v : Nat → Word) (chs : List Change) : Fix :=
  let f := Fix.thresholds prev v chs (fixTile prev v chs)
  (((f.keep prev chs (0x140000, 0x140004)).keep prev chs (0x140030, 0x140038)).keep prev chs (0x140100, 0x140300))

/-! The changes as they take effect -/

/-- A change with the words that stand after the outcomes. -/
def fixChange (f : Fix) (v : Nat → Word) (c : Change) : Change :=
  { c with words := (runAddrs c.addr c.words.length).zipWith (fun a w => if f.ovr.any (fun x => x.1 == a) then f.word v a else w) c.words }

/-- The words that an outcome sets and no change writes, as changes of their own. -/
def extraChanges (f : Fix) (v : Nat → Word) (chs : List Change) : List Change :=
  (((f.ovr.map (·.1)).dedup).filter (fun a => !(writtenAddrs chs).contains a)).map (fun a => ⟨0, a, 0, 0, [f.word v a]⟩)

/-- The changes numbered from 0 (R74). -/
def numbered (chs : List Change) : List Change := chs.zipIdx.map (fun (x : Change × Nat) => { x.1 with index := x.2 })

/-- R75, R325: the words of the tiles that a change addresses, as the sender last sent them. -/
def State.imageWord (s : State) (c : Change) (a : Nat) : Word :=
  let sent := (s.txn.tileSettings.map (fun (x : Auth × Nat × Change) => x.2.2)).filter (fun d => d.scope == 2 || (d.scope == c.scope && d.target == c.target))
  overlay regReset sent a

/-- R75, R325: a change addressed to tiles, made fit as far as the sender knows the tiles; it is judged by itself. -/
def State.fixForTiles (s : State) (c : Change) : Change :=
  let v := overlay (s.imageWord c) [c]
  fixChange (fixTile (s.imageWord c) v [c]) v c

/-- R75: the shadow set as the changes of a transaction, with the outcomes of values that COMMIT would reject and the
events that they set. -/
def State.fixShadow (s : State) : List Change × List Fld :=
  let chs := s.txn.shadow.changes
  let own := ownChanges chs
  let v := s.validated chs
  let prev := s.validated []
  let f := if s.tileRole then fixOwnTile prev v own else fixSender s prev v own
  let fixed := chs.map (fun c => if c.scope = 0 then fixChange f v c else s.fixForTiles c)
  let dropsGen := publishesMap own && s.publishFails v
  (numbered ((if dropsGen then fixed.flatMap splitGen else fixed) ++ extraChanges f v own), f.evs)
where
  /-- R199: a publication that does not take place leaves CMP_MAP_CTL unwritten. -/
  splitGen (c : Change) : List Change :=
    if touches 0x180048 0x18004C c && c.scope == 0 then
      let n := (0x180048 - c.addr) / 4
      [{ c with words := c.words.take n }, { c with addr := 0x18004C, words := c.words.drop (n + 1) }].filter (fun d => !d.words.isEmpty)
    else [c]

/-! COMMIT_ALL (R75, R76) -/

/-- R45, R47, R52, R73, R76: what COMMIT_ALL answers where it publishes nothing. -/
def State.commitAllFails (s : State) (h : Hdr) : Option Status :=
  if h.auth = .gauntlet then some .errAuth
  else if h.seq = 0 ∨ h.seq ≤ s.gen.lastSeq then some .errSeq
  else if s.gen.opened.isSome then some .errConflict
  else none

/-- COMMIT_ALL (R75): the shadow set is journalled as a transaction with SHADOW, completes as a commit, and is empty. -/
def State.doCommitAll (s : State) (h : Hdr) : State :=
  match s.gen.outcomes.find? (fun o => o.seq == h.seq) with
  | some o => s.respond h 0x0014 (outcomeReply o)
  | none =>
    match s.commitAllFails h with
    | some e => s.refuse h 0x0014 e
    | none =>
      let (chs, evs) := s.fixShadow
      let s1 : State := { s with txn := { s.txn with shadow := ⟨[], 0⟩ } }
      let s2 := evs.foldl State.event s1
      let s3 := if publishesMap s.txn.shadow.changes && !s2.tileRole then s2.setFld F.CMP_MAP_STAGE_CHECK_CHECK s2.stageCheck.toNat else s2
      let s4 := s3.record (.opened .general h.seq true (secOf s3.wall) (nsOf s3.wall))
      let s5 := chs.foldl (fun t c => t.record (.change .general h.seq true c)) s4
      s5.launchCommit ⟨.general, h.seq, true, chs, h, s5.effectNow⟩

end Sys2Proof.Machine
end

