-- ==== Sys2Proof/Machine/Windows.lean ====
section
/-! DEFINITION. The windows and memories that host software reaches by address: the Lining, the Guard Images and the fault map
of a tile, the Module Map window and the external memory of a sender (R193, R318 to R321, R382, R454, R456, R460, R517). -/

namespace Sys2Proof.Machine

/-! The windows of a tile -/

/-- R318, R321, R382: the windows of a tile. -/
inductive Window where
  | lining | guard | faultMap
  deriving DecidableEq, Repr

/-- The window in which a run of bytes lies wholly. -/
def windowOf (addr n : Nat) : Option Window :=
  if 0x800000 ≤ addr ∧ addr + n ≤ 0xB00000 then some .lining
  else if 0xC00000 ≤ addr ∧ addr + n ≤ 0xF00000 then some .guard
  else if 0xF00000 ≤ addr ∧ addr + n ≤ 0xF20000 then some .faultMap
  else none

/-- Where a byte of a window stands in the pixel store: the Lining window is its staging bank (R319). -/
def State.windowAt (s : State) (w : Window) (addr : Nat) : Nat :=
  match w with
  | .lining => liningBase (1 - s.tile.bank) + (addr - 0x800000)
  | .guard => guardBase 0 + (addr - 0xC00000)
  | .faultMap => faultMapBase + (addr - 0xF00000)

/-- R319, R321, R382: bytes read from a window. -/
def State.readWindow (s : State) (w : Window) (addr n : Nat) : List Byte := s.storeBytes (s.windowAt w addr) n

/-- R321: a Guard Image that is VALID stands in a run of bytes. -/
def State.guardValid (s : State) (addr n : Nat) : Bool :=
  (List.range 4).any (fun k => s.bit F.TIL_GUARD_CTL_VALID k &&
    decide (addr < 0xC00000 + 0xC0000 * (k + 1) ∧ 0xC00000 + 0xC0000 * k < addr + n))

/-- R321: bits 15:12 of every word of a Guard Image are 0 (notes/assumptions/55.md). -/
def guardBytes (bs : List Byte) : List Byte := (bs.zipIdx).map (fun (x : Byte × Nat) => if x.2 % 2 = 1 then x.1 &&& 0x0F else x.1)

/-- R319: the staging bank of the Lining is written, and its check is computed again. -/
def State.writeLining (s : State) (addr : Nat) (bs : List Byte) : State :=
  let old := s.stageCheckNow
  let s1 := s.setStoreBytes (s.windowAt .lining addr) bs
  ({ s1 with tile := { s1.tile with check := some old } } : State).setFlag F.TIL_LINING_STAT_STAGE_BUSY true

/-- R319, R321, R382: bytes written to a window by an authority. -/
def State.writeWindow (s : State) (auth : Auth) (w : Window) (addr : Nat) (bs : List Byte) : State × Status :=
  match w with
  | .lining =>
    if auth = .gauntlet then (s, .errAuth)
    else if s.flag F.TIL_LINING_STAT_PENDING || s.flag F.TIL_LINING_STAT_COPY_BUSY then (s, .errState)
    else (s.writeLining addr bs, .ok)
  | .guard =>
    if auth = .general then (s, .errAuth)
    else if s.guardValid addr bs.length then (s, .errState)
    else (s.setStoreBytes (s.windowAt .guard addr) (guardBytes bs), .ok)
  | .faultMap =>
    if auth = .gauntlet then (s, .errAuth) else (s.hostFaultMap (addr - 0xF00000) bs, .ok)

/-! The Module Map window (R189, R193) -/

/-- R189: the bits of a word of an entry that are not reserved. -/
def mapMask (i : Nat) : Word :=
  match i % 8 with
  | 0 => 0xFFC0FFFF
  | 1 => 0xFF000000
  | 5 => 0x0000FFFF
  | 7 => 0
  | _ => 0xFFFFFFFF

/-- R193: words of the Module Map window. -/
def State.writeMap (s : State) (addr : Nat) (ws : List Word) : State :=
  let i := (addr - 0x400000) / 4
  let kept := ws.zipIdx.map (fun (x : Word × Nat) => x.1 &&& mapMask (i + x.2))
  { s with map := { s.map with staging := Sparse.putRun mapReset s.map.staging i kept } }

/-- R425: the replication item of a write of `n` words of the window: whole entries of the staging bank. -/
def State.mapItem (s : State) (addr n : Nat) : ReplItem :=
  let i := (addr - 0x400000) / 4
  let e := i / 8
  .mapw e (Sparse.getRun mapReset s.map.staging (8 * e) (8 * ((i + n + 7) / 8 - e)))

/-- R193, R215, R428: a direct WRITE to the Module Map window. -/
def State.mapWrite (s : State) (h : Hdr) (addr : Nat) (ws : List Word) : State :=
  if h.auth = .gauntlet then s.refuse h 0x0011 .errAuth
  else if s.flag F.CMP_MAP_STAT_PENDING || s.flag F.CMP_MAP_STAT_COPY_BUSY then s.refuse h 0x0011 .errState
  else
    let s1 := s.writeMap addr ws
    s1.completeAfter (s1.mapItem addr ws.length) (.reply h 0x0011 (bareReply .ok))

/-! External memory (R454, R456, R460, R517) -/

/-- R517: the buffer of a Gauntlet layer that is enabled, with settings `v`, meets a run of bytes. -/
def gauntletBuffer (v : Nat → Word) (addr n : Nat) : Bool :=
  (List.range 8).any (fun w => ((List.range 4).map (60 + ·)).any (fun k =>
    vb v (F.CMP_LAYER_CTL_EN w k) && vf v (F.CMP_LAYER_CTL_KIND w k) == 1 &&
    decide (addr < (layerBuf v w k).2 ∧ (layerBuf v w k).1 < addr + n)))

/-- R517: what stops a memory-write command: a space that does not exist, a length, an address, or a Gauntlet buffer. -/
def State.memWriteFails (s : State) (auth : Auth) (space addr n : Nat) : Option Status :=
  if space = 0 then
    if !s.tileRole then some .errAddr
    else if addr % 4 ≠ 0 ∨ n % 4 ≠ 0 then some .errLen
    else if (windowOf addr n).isNone then some .errAddr
    else none
  else if space = 1 then
    if s.tileRole || decide (s.bufferTop < addr + n) then some .errAddr
    else if auth = .general ∧ (gauntletBuffer s.reg addr n || gauntletBuffer (s.validated []) addr n) = true then some .errAuth
    else none
  else some .errRange

/-- R460: bytes written to external memory; where an uncorrectable error ends the write, nothing of it is written. -/
def State.hostWrite (s : State) (addr : Nat) (bs : List Byte) : State × Bool :=
  let (s1, ok) := s.writeMem addr bs
  if ok then (s1, true)
  else
    let kept := s.dram.bad.filter (fun (x : Nat × Nat) => !s1.dram.bad.any (fun y => y.1 == x.1))
    ({ s1 with dram := { s1.dram with mem := s.dram.mem, bad := s1.dram.bad ++ kept } }, false)

/-- MEM_WRITE (R428, R517). -/
def State.doMemWrite (s : State) (h : Hdr) (space addr : Nat) (data : List Byte) : State :=
  match s.memWriteFails h.auth space addr data.length with
  | some e => s.refuse h 0x0020 e
  | none =>
    if space = 0 then
      match windowOf addr data.length with
      | some w =>
        let (s1, x) := s.writeWindow h.auth w addr data
        s1.refuse h 0x0020 x
      | none => s.refuse h 0x0020 .errAddr
    else
      let (s1, ok) := s.hostWrite addr data
      if ok then s1.completeAfter (.memw addr data) (.reply h 0x0020 (bareReply .ok)) else s1.refuse h 0x0020 .errMem

/-- MEM_READ (R460, R517). -/
def State.doMemRead (s : State) (h : Hdr) (space addr n : Nat) : State :=
  if n = 0 ∨ 65536 < n then s.refuse h 0x0021 .errLen
  else
    match s.memWriteFails .gauntlet space addr n with
    | some e => s.refuse h 0x0021 e
    | none =>
      if space = 0 then
        match windowOf addr n with
        | some w => s.respond h 0x0021 (okReply (s.readWindow w addr n))
        | none => s.refuse h 0x0021 .errAddr
      else
        match s.readMem 3 addr n with
        | (s1, some bs) => s1.respond h 0x0021 (okReply bs)
        | (s1, none) => s1.refuse h 0x0021 .errMem

end Sys2Proof.Machine
end

