-- ==== Sys2Proof/Machine/ReadReg.lean ====
section
/-! DEFINITION. What a read of a register returns: the words that the device computes, the accepted commits that still wait
(R50), and the registers that a role does not have (R12, R13, R118, R296, R413, R448, R454, R545). -/

namespace Sys2Proof.Machine

/-- A register with fields given their values. -/
def State.withFields (s : State) (a : Nat) (l : List (Fld × Nat)) : Word := l.foldl (fun w x => x.1.into x.2 w) (s.reg a)

/-! Interrupts and ALARM_N (R524, R525) -/

/-- R524: an event register holds an event that its enable register lets through. -/
def State.raises (s : State) (evt en : Nat) : Bool := s.reg evt &&& s.reg en != 0

/-- R537: a general unit holds an event whose IRQ_EN bit is 1. -/
def State.unitRaises (s : State) (n : Nat) : Bool := s.raises (0x80130 + 0x40 * n) (0x80134 + 0x40 * n)

/-- R524, R526: the sources of IRQ_N, from bit 0 of SYS_IRQ_SUM up. -/
def State.irqSources (s : State) : List Bool :=
  [s.raises 0x204 0x208, s.raises 0x118 0x11C, s.raises 0x304 0x308, s.raises 0x10010 0x10014, s.raises 0x30008 0x3000C,
   s.raises 0x80000 0x80004 || (List.range 8).any s.unitRaises,
   (List.range 16).any (fun i => s.raises (0x10013C + 0x40 * i) (0x10012C + 0x40 * i)),
   s.raises 0x110008 0x11000C, s.raises 0x120008 0x12000C, s.raises 0x140008 0x14000C, s.raises 0x180004 0x180008,
   s.raises 0x180054 0x180058, s.raises 0x200008 0x20000C,
   s.raises 0x240008 0x24000C || (List.range 52).any (fun i => s.raises (0x241008 + 0x40 * i) (0x24100C + 0x40 * i)),
   s.raises 0x280008 0x28000C, s.raises 0x2C0008 0x2C000C, s.raises 0x2C0084 0x2C0088, s.raises 0x300010 0x300014,
   s.raises 0x340010 0x340014, s.raises 0x20004 0x20008]

/-- R524: SYS_IRQ_SUM. IRQ_N is low while it is not 0. -/
def State.irqSum (s : State) : Nat := ((s.irqSources.zipIdx).map (fun (x : Bool × Nat) => x.1.toNat * 2 ^ x.2)).sum

/-- R524: IRQ_N is asserted. -/
def State.irqLow (s : State) : Bool := s.irqSum != 0

/-- R525: the condition that ALARM_N shows; 0 for none. -/
def State.alarmShown (s : State) : Nat :=
  if s.rst.fuseFault then 1
  else if s.mode = .mitten then 2
  else if s.flag F.SYS_ALARM_EN_THERMAL && s.flag F.THM_STAT_THROTTLE then 3
  else if s.flag F.SYS_ALARM_EN_REDUNDANCY && s.senderRuns && s.partnered &&
      (s.flag F.RED_STAT_STANDBY_FAULT || s.flag F.RED_EVT_NO_TAKEOVER || !s.red.silent.isEmpty) then 4
  else if s.irqSum &&& s.fld F.SYS_ALARM_EN_SUM ≠ 0 then 5
  else 0

/-- R525: the pattern of ALARM_N, 8 slots of 125 ms with the earliest first; a 1 is low. -/
def alarmPattern (c : Nat) : List Bool :=
  (match c with
   | 1 => [1, 0, 1, 0, 1, 0, 0, 0]
   | 2 => [1, 1, 1, 1, 0, 0, 0, 0]
   | 3 => [1, 1, 0, 0, 1, 1, 0, 0]
   | 4 => [1, 1, 1, 0, 1, 1, 1, 0]
   | 5 => [1, 1, 1, 1, 1, 1, 1, 1]
   | _ => [0, 0, 0, 0, 0, 0, 0, 0]).map (fun (n : Nat) => n == 1)

/-- R525: ALARM_N is low: from whole seconds of wall time once it is stepped, otherwise by the device's own clock. -/
def State.alarmLow (s : State) : Bool :=
  let slot := if s.flag F.PTP_STAT_STEPPED then nsOf s.wall / 125000000 else s.cycles / 62500000 % 8
  (alarmPattern s.alarmShown).getD slot false

/-! Registers that the device computes -/

/-- R83: SYS_TXN_GEN_* and SYS_TXN_GNT_*, LAST_RES apart. -/
def State.txnWord (s : State) (a : Nat) : Word :=
  let i := (a - 0x220) / 0x10
  let x := s.auth (if i = 0 then .general else .gauntlet)
  let sh := decide (i = 0) && !s.txn.shadow.changes.isEmpty
  let n := x.opened.elim (if sh then s.txn.shadow.changes.length else 0) (·.changes.length)
  let bytes := x.opened.elim (if sh then s.txn.shadow.bytes else 0) (·.bytes)
  match (a - 0x220) % 0x10 with
  | 0 => s.withFields a [(F.SYS_TXN_STAT_OPEN i, x.opened.isSome.toNat), (F.SYS_TXN_STAT_SHADOW_PENDING i, sh.toNat),
      (F.SYS_TXN_STAT_CHANGES i, n), (F.SYS_TXN_STAT_JOURNAL_16B i, (bytes + 15) / 16)]
  | 4 => BitVec.ofNat 32 (x.opened.elim 0 (·.seq))
  | 8 => BitVec.ofNat 32 x.lastSeq
  | _ => s.reg a

/-- R84: fences with an open wait. -/
def State.fenceWaits (s : State) (n : Nat) : Nat :=
  ((List.range 32).map (fun b => (s.txn.waits.any (fun x => x.fence == 32 * n + b)).toNat * 2 ^ b)).sum

/-- R526: SYS_CMD_STAT. -/
def State.cmdStat (s : State) : Word :=
  s.withFields 0x300 [(F.SYS_CMD_STAT_COMMISSIONED, s.cmd.comm.isSome.toNat), (F.SYS_CMD_STAT_TAG32, (s.tagLen == 32).toNat),
    (F.SYS_CMD_STAT_TRANSPORTS, s.cmd.comm.elim 9 (·.transports)), (F.SYS_CMD_STAT_QUEUE_GEN, s.gen.queue.length),
    (F.SYS_CMD_STAT_QUEUE_GNT, s.gnt.queue.length)]

/-- R545: the blocks in reset, by request or by role, and the blocks that are idle. -/
def State.blockStat (s : State) : Word :=
  let held (b : Nat) : Bool := s.blockHeld b || s.roleHeld b
  s.withFields 0x1001C
    [(F.RST_BLK_STAT_IN_RESET, ((List.range 8).map (fun b => (held b).toNat * 2 ^ b)).sum),
     (F.RST_BLK_STAT_IDLE, ((List.range 8).map (fun b => (!held b && s.blockIdle b).toNat * 2 ^ b)).sum)]

/-- R329: the area registers. -/
def State.areaWord (s : State) (a : Nat) : Word :=
  let i := (a - 0x280100) / 0x10
  match s.tile.areas.find? (fun x => x.1 == i) with
  | none => 0
  | some (_, x) =>
    match (a - 0x280100) % 0x10 with
    | 0 => s.withFields a [(F.TIL_AREA_STAT_ASSIGNED i, 1), (F.TIL_AREA_STAT_VIEW i, x.view),
        (F.TIL_AREA_STAT_HAS_SHOWN i, x.shown.isSome.toNat), (F.TIL_AREA_STAT_HAS_READY i, x.ready.isSome.toNat),
        (F.TIL_AREA_STAT_FILLING i, x.fill.isSome.toNat), (F.TIL_AREA_STAT_GUARDED i, x.shown.elim 0 (·.guard)),
        (F.TIL_AREA_STAT_ALIVE i, x.shown.elim 0 (·.alive))]
    | 4 => BitVec.ofNat 32 (x.shown.elim 0 (·.flip))
    | 8 => BitVec.ofNat 32 (x.ready.elim 0 (·.flip))
    | _ => BitVec.ofNat 32 (x.fill.elim 0 (·.tally.pixels))

/-- R332, R367: LMB_STAT. -/
def State.lampStat (s : State) : Word :=
  s.withFields 0x2C0004 [(F.LMB_STAT_LOCKED, (s.flag F.CLK_STAT_LB_LOCK && s.timeMode == .locked).toNat),
    (F.LMB_STAT_RUNNING, ((List.range 64).any (fun p => !s.portDark p)).toNat)]

/-- R349, R367: LMB_BUDGET. -/
def State.lampBudget (s : State) : Word :=
  let v (a : Nat) : Option Word := some (s.reg a)
  let lines := (ctxsOn v).filter (fun x => of_ v (F.LMB_CTX_CTL_CLASS x) == some 0)
  s.withFields 0x2C0018 [(F.LMB_BUDGET_VMIN, min 0xFFFF s.vMin),
    (F.LMB_BUDGET_SPARE_MIN, min 0xFFFF (((lines.map (fun x => s.vMin - streamedNeed v x)).min?).getD 0))]

/-- R155: the step of a layer on one axis. -/
def stepWord (src dst : Nat) : Word := if dst = 0 then 0x10000 else BitVec.ofNat 32 (max 4096 (min 524288 (stepOf src dst)))

/-- R155: STEP_X and STEP_Y, of the latest accepted values. -/
def layerStep (v : Nat → Word) (a : Nat) : Word :=
  let w := (a - 0x188000) / 0x1000
  let k := (a - 0x188000) % 0x1000 / 0x40
  if a % 0x40 = 0x38 then stepWord (vf v (F.CMP_LAYER_CROP_SIZE_SRC_W w k)) (vf v (F.CMP_LAYER_DST_SIZE_DST_W w k))
  else stepWord (vf v (F.CMP_LAYER_CROP_SIZE_SRC_H w k)) (vf v (F.CMP_LAYER_DST_SIZE_DST_H w k))

/-- R449: the age of a heartbeat path in units of 0.1 ms. -/
def State.hbAge (s : State) (at_ : Option Nat) : Nat := min 0xFFFF (at_.elim 0xFFFF (fun t => (s.cycles - t) / 50000))

/-- R449: the registers of redundancy that are computed. -/
def State.redWord (s : State) (a : Nat) : Word :=
  let pos := if s.mode = .standby then s.repl.held else s.repl.pos
  let ack := if s.mode = .standby then s.newestSlot.elim 0 (·.pos) else s.repl.acked
  match a with
  | 0x34000C => s.withFields a [(F.RED_STAT_ELIGIBLE, s.eligible.toNat)]
  | 0x34001C => s.withFields a [(F.RED_HB_AGE_CHAIN_100US, s.hbAge s.red.chainAt), (F.RED_HB_AGE_NET_100US, s.hbAge s.red.netAt)]
  | 0x340020 => BitVec.ofNat 32 pos
  | 0x340024 => BitVec.ofNat 32 (pos / 2 ^ 32)
  | 0x340028 => BitVec.ofNat 32 ack
  | 0x34002C => BitVec.ofNat 32 (ack / 2 ^ 32)
  | _ => s.reg a

/-- The words of the SYS, RST and CHK blocks that are computed. -/
def State.sysWord (s : State) (a : Nat) : Word :=
  if 0x220 ≤ a ∧ a < 0x240 then s.txnWord a
  else if 0x240 ≤ a ∧ a < 0x250 then BitVec.ofNat 32 (s.fenceWaits ((a - 0x240) / 4))
  else if 0x400 ≤ a ∧ a < 0x600 then s.fence ((a - 0x400) / 4)
  else
    match a with
    | 0x300 => s.cmdStat
    | 0x314 => BitVec.ofNat 32 s.gen.maxAction
    | 0x318 => BitVec.ofNat 32 s.gnt.maxAction
    | 0x31C => BitVec.ofNat 32 (s.cmd.comm.elim 0 (·.commGen))
    | 0x320 => BitVec.ofNat 32 s.irqSum
    | 0x328 => BitVec.ofNat 32 s.alarmShown
    | 0x1000C => BitVec.ofNat 32 (((List.range 14).map (fun c => s.levelOf c * 4 ^ c)).sum)
    | 0x1001C => s.blockStat
    | 0x80000 => s.withFields a [(F.CHK_EVT_UNIT, ((List.range 8).map (fun n => (s.unitRaises n).toNat * 2 ^ n)).sum)]
    | _ => s.reg a

/-- The word of a register as the device computes it now; `v` holds the latest accepted values (R50). -/
def State.shownWord (s : State) (v : Nat → Word) (a : Nat) : Word :=
  if a < 0x100000 then s.sysWord a
  else if a = 0x14002C then s.withFields a [(F.PTP_SCHED_LEVEL, s.sched.length + s.link.heldSets.length)]
  else if a = 0x140104 then s.withFields a [(F.PTP_DOM_STAT_VALID 0, s.validCount 0)]
  else if a = 0x140144 then s.withFields a [(F.PTP_DOM_STAT_VALID 1, s.validCount 1)]
  else if 0x188000 ≤ a ∧ a < 0x190000 ∧ 0x38 ≤ a % 0x40 then layerStep v a
  else if 0x208000 ≤ a ∧ a < 0x20C000 ∧ a % 0x20 = 0x18 then
    let n := (a - 0x208000) / 0x20
    let age := ((s.link.status.find? (fun x => x.1 == n)).map (fun x => (s.cycles - x.2) / 500000)).getD 0
    s.withFields a [(F.MLK_SESS_AGE_STATUS_AGE_MS n, min 0xFFFF age)]
  else if a = 0x280004 then s.withFields a [(F.TIL_STAT_AREAS, s.areaCount)]
  else if a = 0x28004C then s.stageCheckNow
  else if 0x280100 ≤ a ∧ a < 0x280180 then s.areaWord a
  else if a = 0x2C0004 then s.lampStat
  else if a = 0x2C0018 then s.lampBudget
  else if 0x2C0100 ≤ a ∧ a < 0x2C0500 ∧ a % 0x10 = 4 then
    let p := (a - 0x2C0100) / 0x10
    s.withFields a [(F.LMB_PORT_STAT_DARK p, (s.portDark p).toNat)]
  else if 0x340000 ≤ a then s.redWord a
  else s.reg a

/-! Reads -/

/-- A register that the role does not have: it reads 0 (R118, R296, R413, R448, R454, R545). -/
def State.absentReg (s : State) (a : Nat) : Bool :=
  if s.tileRole then
    decide (0x110000 ≤ a ∧ a < 0x140000) || decide (0x180000 ≤ a ∧ a < 0x200000) || decide (0x340000 ≤ a) ||
    (decide (0x140000 ≤ a ∧ a < 0x180000) && (a == 0x140000 || decide (0x140030 ≤ a))) ||
    decide (0x241200 ≤ a ∧ a < 0x242000) || decide (0x240220 ≤ a ∧ a < 0x240280) ||
    (decide (0x300000 ≤ a ∧ a < 0x340000) && s.roleHeld 7)
  else decide (0x280000 ≤ a ∧ a < 0x300000)

/-- R12: WO fields read as 0. -/
def readMask (a : Nat) : Word :=
  match findReg a with
  | some (r, _) => BitVec.ofNat 32 (r.mask (fun x => x != .wo))
  | none => 0

/-- R193, R319, R321, R382: a word of a window; a window that the role does not have reads 0. -/
def State.readWindowWord (s : State) (a : Nat) : Word :=
  if s.tileRole then
    match windowOf a 4 with
    | some w => BitVec.ofNat 32 (leNat (s.readWindow w a 4))
    | none => 0
  else if a < 0x600000 then Sparse.get mapReset s.map.staging ((a - 0x400000) / 4)
  else 0

/-- R10, R13, R50: what a read of an aligned word of the register space and its windows returns. A word that is no register
reads 0. -/
def State.readReg (s : State) (a : Nat) : Word :=
  if 0x400000 ≤ a then s.readWindowWord a
  else if s.absentReg a then 0
  else
    let waiting := s.txn.accepted.flatMap (fun x => ownChanges x.changes)
    let v := overlay s.reg waiting
    let w := s.shownWord v a
    overlay (fun _ => w) waiting a &&& readMask a

end Sys2Proof.Machine
end

