-- ==== Sys2Proof/Machine/DirectWrite.lean ====
section
/-! DEFINITION. Direct writes of registers: what each access type does, local writes, and the shadow set (R12, R43, R44, R73,
R74, R76, R515). -/

namespace Sys2Proof.Machine

/-! Words and their bits -/

/-- The bits of a register that have an access type; none where the role does not have the register. -/
def State.bitsOf (s : State) (p : Access → Bool) (a : Nat) : Word :=
  if s.absentReg a then 0
  else
    match findReg a with
    | some (r, _) => BitVec.ofNat 32 (r.mask p)
    | none => 0

/-- The RW bits of a word. -/
def State.rwBits (s : State) (a : Nat) : Word := s.bitsOf (· == .rw) a &&& writeMask s.tileRole a

/-- The RWS bits of a word. -/
def State.rwsBits (s : State) (a : Nat) : Word := s.bitsOf (· == .rws) a &&& writeMask s.tileRole a

/-- The bits of a word on which a write acts. -/
def State.writable (s : State) (a : Nat) : Word := s.rwBits a ||| s.rwsBits a ||| s.bitsOf (fun x => x == .w1c || x == .wo) a

/-- A change's words with their addresses. -/
def addressed (c : Change) : List (Nat × Word) := c.words.zipIdx.map (fun (x : Word × Nat) => (c.addr + 4 * x.2, x.1))

/-- A word as a change of its own. -/
def wordChange (x : Nat × Word) : Change := ⟨0xFFFF, x.1, 0, 0, [x.2]⟩

/-! What acts at once (R12) -/

/-- R414, R474, R538, R545, R562: a write of a WO field. -/
def State.writeOnly (s : State) (a : Nat) (w : Word) : State :=
  if a = 0x10018 then (List.range 8).foldl (fun t b => if w.toNat / 2 ^ b % 2 = 1 then t.requestBlock b else t) s
  else if a = 0x140018 then (if w.toNat % 2 = 1 then s.capture else s)
  else if a = 0x300020 then (if w.toNat % 2 = 1 then s.clearUeLog else s)
  else if 0x80100 ≤ a ∧ a < 0x80300 then
    match (a - 0x80100) % 0x40 with
    | 0x1C => s.chkData ((a - 0x80100) / 0x40) w
    | 0x20 => s.chkOp ((a - 0x80100) / 0x40) w
    | _ => s
  else s

/-- R12, R13: what a write of a word does at once: its RW bits take their values, a 1 clears a W1C bit, and a WO field acts. -/
def State.writeNow (s : State) (x : Nat × Word) : State :=
  let m := s.rwBits x.1
  let c := s.bitsOf (· == .w1c) x.1 &&& x.2
  let s1 := if m ||| c = 0 then s else s.setReg x.1 (((s.reg x.1 &&& ~~~m) ||| (x.2 &&& m)) &&& ~~~c)
  if s.bitsOf (· == .wo) x.1 = 0 then s1 else s1.writeOnly x.1 x.2

/-- Words act at once, and the blocks follow the RW fields among them. -/
def State.writeWords (s : State) (xs : List (Nat × Word)) : State :=
  let s1 := xs.foldl State.writeNow s
  let rw := xs.filter (fun x => s.rwBits x.1 != 0)
  if rw.isEmpty then s1 else State.react s s1 (rw.map wordChange)

/-! Local writes (R44) -/

/-- R44: a run that a local write may hold. -/
def State.localRun (s : State) (c : Change) : Bool := s.senderRole && (runAddrs c.addr c.words.length).all localWord

/-- R44: a local write: its RWS fields wait for the next flip whose Cuff has not opened, or act at once where no flip sequence
runs. -/
def State.localWrite (s : State) (auth : Auth) (seq : Nat) (c : Change) : State × RFlags :=
  let rws := (addressed c).filter (fun x => s.rwsBits x.1 != 0)
  let s1 := s.writeWords (addressed c)
  if rws.isEmpty then (s1, .none)
  else
    let e := s1.effectNow
    let chs := rws.map (fun x => wordChange (x.1, (s1.reg x.1 &&& s1.rwBits x.1) ||| (x.2 &&& ~~~(s1.rwBits x.1))))
    let s2 := match e.flip with
      | some f => { s1 with txn := { s1.txn with accepted := s1.txn.accepted ++ [⟨auth, seq, true, f, chs⟩] } }
      | none => s1.applyLocal chs
    (s2, { RFlags.none with late := e.late, immediate := e.immediate })

/-! The shadow set (R73, R74, R76) -/

/-- Consecutive words as changes. -/
def runsOf (xs : List (Nat × Word)) : List Change :=
  xs.foldr (fun x l => match l with
    | c :: rest => if c.addr = x.1 + 4 then { c with addr := x.1, words := x.2 :: c.words } :: rest else wordChange x :: c :: rest
    | [] => [wordChange x]) []

/-- R48, R74: changes enter the shadow set; none where a limit would be exceeded. -/
def growShadow (x : ShadowSet) (chs : List Change) : Option ShadowSet :=
  chs.foldl (fun o c => o.bind (fun (y : ShadowSet) =>
    let used := if y.changes = [] then 60 else y.bytes
    if limitFails y.changes.length used c then none else some ⟨y.changes ++ [c], used + changeBytes c⟩)) (some x)

/-- R49, R73, R74, R76: a direct WRITE whose RWS words enter the shadow set. -/
def State.shadowWrite (s : State) (c : Change) : State × Status :=
  let rws := (addressed c).filter (fun x => s.rwsBits x.1 != 0)
  if s.gen.opened.isSome then (s, .errConflict)
  else if rws.any (fun x => accessFails s.tileRole x.1 x.2) then (s, .errAccess)
  else
    match growShadow s.txn.shadow (runsOf rws) with
    | none => (s, .errCap)
    | some y =>
      let s1 := s.writeWords ((addressed c).filter (fun x => s.rwsBits x.1 == 0))
      ({ s1 with txn := { s1.txn with shadow := y } }, .ok)

/-! Direct writes (R43, R44, R515) -/

/-- R11, R49, R515: a direct WRITE that is refused whatever it writes. -/
def State.directFails (s : State) (c : Change) : Option Status :=
  if c.words.length = 0 ∨ 16384 < c.words.length then some .errLen
  else if c.index ≠ 0xFFFF ∨ c.scope ≠ 0 then some .errRange
  else if c.addr % 4 ≠ 0 then some .errLen
  else if leavesRegion s.tileRole c then some .errAddr
  else none

/-- R43, R44, R73: what a direct WRITE to registers does. -/
def State.directRegs (s : State) (auth : Auth) (seq : Nat) (c : Change) : State × Status × RFlags :=
  if (addressed c).any (fun x => notOwner auth x.1 && s.writable x.1 != 0) then (s, .errAuth, .none)
  else if s.localRun c then
    let (s1, f) := s.localWrite auth seq c
    (s1, .ok, f)
  else if (addressed c).all (fun x => s.rwsBits x.1 == 0) then (s.writeWords (addressed c), .ok, .none)
  else if s.flag F.SYS_COMPAT_SHADOW_EN = false then (s, .errState, .none)
  else if auth = .gauntlet then (s, .errAuth, .none)
  else
    let (s1, x) := s.shadowWrite c
    (s1, x, .none)

/-- R515: a direct WRITE. -/
def State.directWrite (s : State) (h : Hdr) (c : Change) : State :=
  match s.directFails c with
  | some e => s.refuse h 0x0011 e
  | none =>
    if inWindow s.tileRole c then
      if s.tileRole then
        match windowOf c.addr (4 * c.words.length) with
        | some w =>
          let (s1, x) := s.writeWindow h.auth w c.addr (wordBytes c.words)
          s1.refuse h 0x0011 x
        | none => s.refuse h 0x0011 .errAddr
      else s.mapWrite h c.addr c.words
    else
      let (s1, x, f) := s.directRegs h.auth h.seq c
      s1.respond h 0x0011 ⟨x, f, []⟩

/-- A mode in which registers are written by command (R516). -/
def State.takesWrites (s : State) : Bool := (s.senderRuns || s.mode == .tile) && s.rst.held.isNone

/-- A write of one register word, without a response. -/
def State.registerWrite (s : State) (auth : Auth) (a : Nat) (w : Word) : State :=
  let c := wordChange (a, w)
  if s.takesWrites && (s.directFails c).isNone && !inWindow s.tileRole c then (s.directRegs auth 0 c).1 else s

/-- REGISTER_WRITE (R12, R44, R73). -/
def execRegisterWrite (auth : Auth) (addr : Nat) (value : Word) (s : State) : Host.Outcome State Fault Refusal :=
  .next (s.registerWrite auth addr value)

/-- BLOCK_RESET_REQUEST (R545): a write of RST_BLK_REQ. -/
def execBlockResetRequest (mask : Nat) (s : State) : Host.Outcome State Fault Refusal :=
  .next (s.registerWrite .general 0x10018 (BitVec.ofNat 32 mask))

/-- SHADOW_EN_CLEAR (R73): a write of 0 to SYS_COMPAT. -/
def execShadowEnClear (s : State) : Host.Outcome State Fault Refusal := .next (s.registerWrite .general 0x210 0)

end Sys2Proof.Machine
end

