-- ==== Sys2Proof/Machine/Maint.lean ====
section
/-! DEFINITION. Firmware staging, settings, commissioning, software resets, and what queries of the device return (R492 to R500,
R514, R516, R517, R522). -/

namespace Sys2Proof.Machine

/-! Staging (R495, R517) -/

/-- R495: where the staging area stands in external memory; none on a tile without it, which uses its pixel store (R362). -/
def State.stagingBase (s : State) : Option Nat :=
  if s.tileRole && s.fld F.DRC_CFG_CH_MASK == 0 then none else some (s.bufferTop + 320 * 2 ^ 20)

/-- R495, R460: bytes written to the staging area. -/
def State.stagePut (s : State) (off : Nat) (bs : List Byte) : State × Bool :=
  match s.stagingBase with
  | some a => s.hostWrite (a + off) bs
  | none => (s.setStoreBytes (0x18A0000 + off) bs, true)

/-- R495, R460: the staged image. -/
def State.stageGet (s : State) (n : Nat) : State × Option (List Byte) :=
  match s.stagingBase with
  | some a => s.readMem 6 a n
  | none => (s, some (s.storeBytes 0x18A0000 n))

/-- STAGE_BEGIN (R495, R517). -/
def State.doStageBegin (s : State) (h : Hdr) (total : Nat) : State :=
  if total < 1024 ∨ 16777216 < total then s.refuse h 0x0040 .errLen
  else if s.cmd.staging.isSome || s.flag F.SYS_BOOT_STAT_TRIAL then s.refuse h 0x0040 .errState
  else ({ s with cmd := { s.cmd with staging := some total } } : State).refuse h 0x0040 .ok

/-- STAGE_WRITE (R517). -/
def State.doStageWrite (s : State) (h : Hdr) (off : Nat) (data : List Byte) : State :=
  match s.cmd.staging with
  | none => s.refuse h 0x0041 .errState
  | some total =>
    if total < off + data.length then s.refuse h 0x0041 .errRange
    else
      let (s1, ok) := s.stagePut off data
      s1.refuse h 0x0041 (if ok then .ok else .errMem)

/-- R495: the slot that a staging writes. In MITTEN with no PROVEN slot either one may be it (notes/assumptions/57.md). -/
def State.targetSlot (s : State) : Nat :=
  if s.mode = .mitten then
    let h := s.hdrNow
    match slotState h 0 != 3, slotState h 1 != 3 with
    | true, true => s.freeValue.toNat % 2
    | true, false => 0
    | false, true => 1
    | false, false => 1 - hdrByte h 28 % 2
  else 1 - s.fld F.SYS_BOOT_STAT_SLOT

/-- R495: a slot is erased. -/
def State.eraseSlot (s : State) (k : Nat) : State := (s.setSlotBytes k []).writeHdr (setSlotState s.hdrNow k 0 0)

/-- R495, R498: the slot that holds an image of a version already, running or STAGED. -/
def State.heldImage (s : State) (fw : Nat) : Option Nat :=
  if s.mode ≠ .mitten ∧ fw = s.fld F.SYS_FW_VER_FW_VER then some (s.fld F.SYS_BOOT_STAT_SLOT)
  else [0, 1].find? (fun k => slotState s.hdrNow k == 1 && imageFw (s.slotBytes k) == fw)

/-- R516: the body of a STAGE_END response. -/
def stageBody (fw k : Nat) : List Byte := leBytes 4 fw ++ leBytes 1 k ++ [0, 0, 0]

/-- R495: a checked image goes into its slot, which is read back: whether the NVM returns what was written is open
(notes/assumptions/57.md). -/
def State.writeSlot (s : State) (h : Hdr) (bs : List Byte) : State :=
  let k := s.targetSlot
  let reason := (Config.freeWord (s.fresh + 2)).toNat
  let s1 : State := { s with fresh := s.fresh + 3 }
  if (Config.freeWord (s.fresh + 1)).toNat % 2 = 1 then
    ((s1.eraseSlot k).fault 6 4 (leBytes 4 (imageFw bs) ++ leBytes 1 reason ++ leBytes 1 k)).refuse h 0x0042 .errImage
  else
    (((s1.setSlotBytes k bs).writeHdr (setSlotState s1.hdrNow k 1 0)).event F.SYS_BOOT_EVT_STAGE_DONE).respond h 0x0042
      (okReply (stageBody (imageFw bs) k))

/-- STAGE_END (R495). -/
def State.doStageEnd (s : State) (h : Hdr) : State :=
  match s.cmd.staging with
  | none => s.refuse h 0x0042 .errState
  | some total =>
    if s.flag F.SYS_BOOT_STAT_TRIAL then s.refuse h 0x0042 .errState
    else
      match ({ s with cmd := { s.cmd with staging := none } } : State).stageGet total with
      | (s1, none) => (({ s1 with fresh := s1.fresh + 1 } : State).eraseSlot s1.targetSlot).refuse h 0x0042 .errMem
      | (s1, some bs) =>
        if (s1.imageFails bs).isSome then (s1.event F.SYS_BOOT_EVT_STAGE_REJ).refuse h 0x0042 .errImage
        else
          match s1.heldImage (imageFw bs) with
          | some k => s1.respond h 0x0042 ⟨.ok, { RFlags.none with already := true }, stageBody (imageFw bs) k⟩
          | none => s1.writeSlot h bs

/-! Settings and commissioning (R492, R522) -/

/-- SAVE_SETTINGS (R492). -/
def State.doSave (s : State) (h : Hdr) : State :=
  if s.flag F.SYS_BOOT_STAT_TRIAL then s.refuse h 0x0044 .errState
  else
    let (s1, gen, copy) := s.saveRecord s.cmd.comm
    s1.respond h 0x0044 (okReply (leBytes 4 gen ++ leBytes 1 copy ++ [0, 0, 0]))

/-- R517, R522: a commissioning section that cannot be. -/
def commissionFails (c : Commission) : Bool :=
  (c.tagLen != 16 && c.tagLen != 32) || c.transports % 2 == 0 || decide (15 < c.transports) || decide (8 < c.allowN) ||
  c.allow.any (fun (a : AllowEntry) => decide (32 < a.prefixLen))

/-- R513, R522: an authority under new keys. -/
def AuthState.rekeyed (a : AuthState) : AuthState := { a with lastSeq := 0, outcomes := [], actions := [], maxAction := 0 }

/-- COMMISSION (R522): the response goes under the old keys. -/
def State.doCommission (s : State) (h : Hdr) (c : Commission) : State :=
  if commissionFails c then s.refuse h 0x0050 .errRange
  else if s.gen.opened.isSome || s.gnt.opened.isSome || !s.txn.shadow.changes.isEmpty || s.flag F.SYS_BOOT_STAT_TRIAL then
    s.refuse h 0x0050 .errState
  else
    let s1 := ((s.saveRecord (some c)).1.respond h 0x0050 (okReply (leBytes 4 c.commGen))).useCommission c
    { s1 with gen := s1.gen.rekeyed, gnt := s1.gnt.rekeyed }

/-! Software resets (R500, R517) -/

/-- R500: a reset command leaves MITTEN through an L1 reset, and clears FAIL_COUNT and FALLBACK. -/
def State.leaveMitten (s : State) : State :=
  let s1 := (s.setFld F.SYS_BOOT_STAT_FAIL_COUNT 0).setFlag F.SYS_BOOT_STAT_FALLBACK false
  (s1.setBit F.RST_CAUSE_SRC 0x08 true).startReset 0x08 1 (s1.cycles + msCycles 1) none false

/-- RESET (R500, R517). -/
def State.doReset (s : State) (h : Hdr) (kind flags : Nat) : State :=
  if 1 < kind ∨ 3 < flags then s.refuse h 0x0045 .errRange
  else if kind = 1 ∧ (s.mode = .mitten ∨ s.mode = .factory) then s.refuse h 0x0045 .errState
  else
    let s1 := s.refuse h 0x0045 .ok
    let s2 := if flags / 2 = 1 then s1.stagedToTrial.getD s1 else s1
    let s3 : State := if flags % 2 = 1 then { s2 with boot := { s2.boot with mitten := true } } else s2
    if s3.mode = .mitten then s3.leaveMitten else s3.softReset (0x08 + kind)

/-! Queries of the device (R514, R516, R517) -/

/-- IDENTIFY (R516). -/
def State.identity (s : State) : List Byte :=
  leBytes 4 (s.readReg 0).toNat ++ leBytes 4 (s.fld F.SYS_FW_VER_FW_VER) ++ leBytes 8 s.fuses.uid ++ leBytes 1 s.mode.code ++
    leBytes 1 (s.fld F.SYS_STRAP_ROLE) ++ leBytes 1 (s.fld F.SYS_MODE_MITTEN_REASON) ++ [0] ++ leBytes 2 s.ownAddr ++ [0, 0]

/-- STATUS (R516): SYS_MODE, SYS_BOOT_STAT, SYS_SLOT_STAT, PTP_STAT, SYS_IRQ_SUM and SYS_ALARM_STAT. -/
def State.statusBody (s : State) : List Byte :=
  wordBytes ([0x8, 0x100, 0x10C, 0x140004, 0x320, 0x328].map s.readReg)

/-- REG_READ (R11, R516). -/
def State.doRegRead (s : State) (h : Hdr) (addr count : Nat) : State :=
  if count = 0 ∨ 16384 < count then s.refuse h 0x0003 (if count < 65536 then .errLen else .errRange)
  else if addr % 4 ≠ 0 then s.refuse h 0x0003 .errLen
  else s.respond h 0x0003 (okReply (wordBytes ((List.range count).map (fun i => s.readReg ((addr + 4 * i) % 2 ^ 32)))))

/-- R255: a fault record as its 32 bytes. -/
def faultBytes (f : FaultRec) : List Byte :=
  leBytes 2 f.addr ++ leBytes 2 f.record ++ leBytes 1 f.cls ++ leBytes 1 f.code ++ leBytes 2 f.count ++ leBytes 6 f.sec ++
    leBytes 4 f.ns ++ detail14 f.detail

/-- LOG_READ (R483, R516): the records of a log are numbered from 0 in the order of their writing
(notes/assumptions/58.md). -/
def State.doLogRead (s : State) (h : Hdr) (log first count : Nat) : State :=
  if 1 < log then s.refuse h 0x0004 .errRange
  else if count = 0 ∨ 256 < count then s.refuse h 0x0004 (if count < 65536 then .errLen else .errRange)
  else
    let recs := if log = 0 then s.faults.recs else s.nvm.log
    let total := if log = 0 then s.faults.total else s.nvm.logTotal
    let oldest := total - recs.length
    let out := (recs.drop (max first oldest - oldest)).take count
    s.respond h 0x0004 (okReply (leBytes 4 total ++ leBytes 4 oldest ++ leBytes 2 out.length ++ [0, 0] ++ out.flatMap faultBytes))

/-- R514: a transaction number whose COMMIT or COMMIT_ALL waits or runs. -/
def State.commitPending (s : State) (a : Auth) (seq : Nat) : Bool :=
  (s.auth a).queue.any (fun x => x.1.seq == seq && (x.2 == .commit || x.2 == .commitAll)) ||
  s.repl.waiting.any (fun w => match w.what with
    | .commit c => c.auth == a && c.seq == seq
    | .retimed c _ => c.auth == a && c.seq == seq
    | _ => false)

/-- R514: an action number that waits or runs. -/
def State.actionPending (s : State) (a : Auth) (seq : Nat) : Bool :=
  (s.auth a).queue.any (fun x => x.1.seq == seq && kindOf false x.2 == .action) ||
  (s.auth a).actions.any (fun x => x.seq == seq && x.reply.isNone)

/-- R514: what QUERY_SEQ of a number that is still running returns. -/
def pendingReply : Reply := ⟨.ok, { RFlags.none with pending := true }, []⟩

/-- QUERY_SEQ (R514). -/
def State.querySeq (s : State) (h : Hdr) (series seq : Nat) : Reply :=
  let a := s.auth h.auth
  if series = 0 then
    if s.commitPending h.auth seq then pendingReply
    else
      match a.outcomes.find? (fun o => o.seq == seq) with
      | some o => outcomeReply o
      | none => bareReply .errSeq
  else if series = 1 then
    if s.actionPending h.auth seq then pendingReply
    else
      match a.actions.find? (fun x => x.seq == seq) with
      | some ⟨_, _, _, some r⟩ => replayed r
      | _ => bareReply .errSeq
  else bareReply .errRange

/-- SNAPSHOT_READ (R517). -/
def State.doSnapshotRead (s : State) (h : Hdr) (id part off n : Nat) : State :=
  if n = 0 ∨ 65536 < n then s.refuse h 0x0036 .errLen
  else
    match (s.snaps.find? (fun x => x.id == id)).bind (fun x => x.parts.find? (fun p => p.1 == part)) with
    | some (_, bs) =>
      if bs.length < off + n then s.refuse h 0x0036 .errRange else s.respond h 0x0036 (okReply ((bs.drop off).take n))
    | none => s.refuse h 0x0036 .errRange

end Sys2Proof.Machine
end

