-- ==== Sys2Proof/Machine/Actions.lean ====
section
/-! DEFINITION. What the actions of host software do: counters, fences, scheduled actions, steps, swaps, and commands relayed
to tiles (R69, R400, R401, R403, R516 to R520). -/

namespace Sys2Proof.Machine

/-! Counters and metadata (R133, R396, R516) -/

/-- COUNTERS_READ (R133, R516). -/
def State.doCountersRead (s : State) (h : Hdr) (port : Nat) : State :=
  if 1 < port then s.refuse h 0x0006 .errRange
  else s.respond h 0x0006 (okReply ((s.net port).counters.flatMap (leBytes 4)))

/-- COUNTERS_CLEAR (R133, R516). -/
def State.doCountersClear (s : State) (h : Hdr) (port : Nat) : State :=
  if 1 < port then s.refuse h 0x0007 .errRange
  else (s.setNet port { s.net port with counters := List.replicate 16 0 }).refuse h 0x0007 .ok

/-- PTP_METADATA (R396, R516). A domain that has received none answers with a length of 0 (notes/assumptions/59.md). -/
def State.doPtpMetadata (s : State) (h : Hdr) (d : Nat) : State :=
  if 1 < d then s.refuse h 0x0008 .errRange
  else
    match (s.dom d).metadata with
    | some (t, bs) => s.respond h 0x0008 (okReply (timeBytes t ++ leBytes 2 bs.length ++ [0, 0] ++ bs))
    | none => s.respond h 0x0008 (okReply (List.replicate 16 0))

/-! Fences (R69, R428, R517) -/

/-- FENCE_SIGNAL (R69, R428, R517). -/
def State.doFenceSignal (s : State) (h : Hdr) (n : Nat) (v : Word) : State :=
  if 127 < n then s.refuse h 0x0022 .errRange
  else if 120 ≤ n ∧ h.auth = .general then s.refuse h 0x0022 .errAuth
  else
    let s1 := s.signalFence n v
    s1.completeAfter (.fence n v) (.reply h 0x0022 (okReply (leBytes 4 (s1.fence n).toNat)))

/-! Scheduled actions (R403, R428, R516, R517) -/

/-- R403: what a command that schedules an action returns; ERR_LATE from the cycle after the one in which its lead time runs
out (R68). -/
def State.scheduleStatus (s : State) (e : SchedEntry) : Status :=
  if s.sched.any (sameAction e) then .ok
  else if e.due + s.tickStep ≤ s.wall + s.leadTime then .errLate
  else if s.wall + 86400 * 10 ^ 9 * nsUnit < e.due then .errRange
  else if s.schedFull then .errCap
  else .ok

/-- R403, R428: an accepted action enters the schedule, goes to the tiles and into the stream, and answers with a body. -/
def State.acceptAction (s : State) (h : Hdr) (op : Nat) (c : HostCmd) (chosen : Option Chosen) (e : SchedEntry) (r : Reply) : State :=
  if s.sched.any (sameAction e) then s.respond h op r
  else
    let s1 := s.addAction e
    let s2 := if s1.tileRole then s1 else s1.sendAction e
    s2.completeAfter (.sched h c chosen) (.reply h op r)

/-- R403: a command that schedules an action at a time it names. -/
def State.scheduleCmd (s : State) (h : Hdr) (op : Nat) (c : HostCmd) (t : TimeField) : State :=
  if timeOk t = false then s.refuse h op .errRange
  else
    match s.actionOf h c none with
    | none => s.refuse h op .ok
    | some e =>
      if s.scheduleStatus e = .ok then s.acceptAction h op c none e (bareReply .ok)
      else s.refuse h op (s.scheduleStatus e)

/-- R247, R403: a FRAME latch takes no entry; it is sent to the tiles if its time is in range. -/
def State.frameLatch (s : State) (h : Hdr) (t : TimeField) (id mask : Nat) : State :=
  if timeOk t = false then s.refuse h 0x0030 .errRange
  else if timeWall t + s.tickStep ≤ s.wall + s.leadTime then s.refuse h 0x0030 .errLate
  else if s.wall + 86400 * 10 ^ 9 * nsUnit < timeWall t then s.refuse h 0x0030 .errRange
  else (s.sendAll (.hatband t 2 id mask)).refuse h 0x0030 .ok

/-- HATBAND (R247, R517). -/
def State.doHatband (s : State) (h : Hdr) (t : TimeField) (kind id mask : Nat) : State :=
  if kind = 1 then s.scheduleCmd h 0x0030 (.hatband t kind id mask) t
  else if kind = 2 then s.frameLatch h t id mask
  else s.refuse h 0x0030 .errRange

/-- SNAPSHOT (R265, R517). -/
def State.doSnapshot (s : State) (h : Hdr) (t : TimeField) (id content : Nat) : State :=
  if 31 < content then s.refuse h 0x0031 .errRange else s.scheduleCmd h 0x0031 (.snapshot t id content) t

/-- WALL_RESET (R517, R539). -/
def State.doWallReset (s : State) (h : Hdr) (t : TimeField) (level id : Nat) : State :=
  if level = 1 ∨ level = 2 then s.scheduleCmd h 0x0033 (.wallReset t level id) t else s.refuse h 0x0033 .errRange

/-! Steps (R400, R401) -/

/-- R516: Δ in whole ns and FRAC, from units of 2^-16 ns. -/
def deltaBytes (d : Int) : List Byte := leBytes 8 (unsigned 64 (d / 65536)) ++ leBytes 2 (d % 65536).toNat

/-- R400, R401: an offset beyond ±1 ms. -/
def beyondMs (d : Int) : Bool := decide (1000000 * 65536 < d.natAbs)

/-- R400: the first flip at least L(H) from now. -/
def State.stepFlip (s : State) : Nat :=
  (gridFrom s.flipNum s.flipDen s.flipOffset (s.wall + s.leadTime) + s.flipBase) % 2 ^ 64

/-- The step that the schedule holds at a time. -/
def State.stepAt (s : State) (due : Nat) : Option Int :=
  (s.sched.find? (fun e => e.due == due && schedClass e.act == 1)).bind (fun e => match e.act with | .step d => some d | _ => none)

/-- R400: RESTEP at a sender. A step already held for the same flip is the one answered (R403). -/
def State.restepSender (s : State) (h : Hdr) : State :=
  if s.flag F.PTP_STAT_STEPPED = false ∨ 1 < s.fld F.PTP_CTL_SOURCE then s.refuse h 0x0034 .errState
  else
    match s.preferredOffset with
    | none => s.refuse h 0x0034 .errState
    | some m =>
      let s0 := s.drawn
      if beyondMs m = false then s0.refuse h 0x0034 .errState
      else
        let n := s0.stepFlip
        let due := s0.senderFlipTime n
        let d := (s0.stepAt due).getD m
        let e : SchedEntry := ⟨due, h.seq, .step d, false⟩
        let x := s0.scheduleStatus e
        if x = .ok then
          (s0.setFlag F.PTP_STAT_RESTEP_PENDING true).acceptAction h 0x0034 .restep (some ⟨d, n⟩) e
            (okReply (deltaBytes d ++ [0, 0] ++ timeBytes (timeField due)))
        else s0.refuse h 0x0034 x

/-- R401: RESTEP at a tile: it steps at once. -/
def State.restepTile (s : State) (h : Hdr) : State :=
  let m := medianOf s.time.samples s.openBit
  let s0 := s.drawn
  if s0.flag F.PTP_STAT_STEPPED && beyondMs m then (s0.applyStep m false).respond h 0x0034 (okReply (deltaBytes m))
  else s0.refuse h 0x0034 .errState

/-- RESTEP (R400, R401). -/
def State.doRestep (s : State) (h : Hdr) : State := if s.tileRole then s.restepTile h else s.restepSender h

/-- SWAP (R442): a swap without a partner, or while one runs, is not started. -/
def State.doSwap (s : State) (h : Hdr) : State :=
  if !s.partnered || s.fld F.RED_SWAP_STAT_STATE != 0 then s.refuse h 0x0035 .errState
  else s.startSwap.refuse h 0x0035 .ok

/-! Commands for tiles (R518 to R520) -/

/-- R518, R519: the sessions that are open, of the chains in a mask. -/
def State.maskTiles (s : State) (mask : Nat) : List Nat :=
  ((List.range 8).filter (fun c => mask / 2 ^ c % 2 == 1)).flatMap s.chainTiles

/-- R519: an address with an open session. -/
def State.sessionOpen (s : State) (tile : Nat) : Bool :=
  decide (tile / 512 = s.fld F.MLK_CTL_DOMAIN) && decide (tile < 0x8000) && s.flag (F.MLK_SESS_STAT_OPEN (sessionOf tile))

/-- R246, R519: a packet goes to one tile as CMD segments. -/
def State.sendCmdTile (s : State) (tile : Nat) (bs : List Byte) : State :=
  (withMore 4096 bs).foldl (fun t g => t.sendTile tile (.cmd g.1 g.2)) s

/-- R246, R519: a packet goes to 0xFFFF of a chain as CMD segments. -/
def State.sendCmdChain (s : State) (c : Nat) (bs : List Byte) : State :=
  (withMore 4096 bs).foldl (fun t g => t.sendMsg c 0xFFFF (.cmd g.1 g.2) (t.chainTiles c)) s

/-- A tile and its status, put into a list in the order of addresses. -/
def insertTile (x : Nat × Nat) : List (Nat × Nat) → List (Nat × Nat)
  | [] => [x]
  | y :: ys => if x.1 ≤ y.1 then x :: y :: ys else y :: insertTile x ys

/-- R520: the response of a broadcast TILE_CMD; its entries stand in the order of addresses (notes/assumptions/60.md). -/
def tileCmdReply (w : TileCmdWait) : Reply :=
  let bad := (w.done.filter (fun x => x.2 != 0) ++ w.tiles.map (fun t => (t, Status.errTimeout.code))).foldr insertTile []
  let good := (w.done.filter (fun x => x.2 == 0)).length
  ⟨.ok, { RFlags.none with part := !bad.isEmpty },
    leBytes 2 good ++ leBytes 2 bad.length ++ bad.flatMap (fun x => leBytes 2 x.1 ++ leBytes 2 x.2)⟩

/-- The state without a TILE_CMD that waits. -/
def State.dropTileCmd (s : State) (w : TileCmdWait) : State :=
  { s with cmd := { s.cmd with tileCmds := s.cmd.tileCmds.filter (fun x => x.hdr != w.hdr) } }

/-- R518: the chains whose segments carry a broadcast. -/
def State.sendCmdMask (s : State) (mask : Nat) (bs : List Byte) : State :=
  ((List.range 8).filter (fun c => mask / 2 ^ c % 2 == 1 && s.portUp c)).foldl (fun t c => t.sendCmdChain c bs) s

/-- TILE_CMD (R518 to R520). -/
def State.doTileCmd (s : State) (h : Hdr) (target mask tmo : Nat) (inner : List Byte) : State :=
  let w (single : Bool) (tiles : List Nat) : TileCmdWait :=
    ⟨h, leAt inner 2 2, leAt inner 6 4, single, tiles, [], s.cycles + msCycles tmo⟩
  let wait (x : TileCmdWait) : State := { s with cmd := { s.cmd with tileCmds := s.cmd.tileCmds ++ [x] } }
  if tmo = 0 ∨ 60000 < tmo then s.refuse h 0x0060 .errRange
  else if leAt inner 5 1 ≠ authCode h.auth then s.refuse h 0x0060 .errAuth
  else if target = 0xFFFF then
    let tiles := s.maskTiles mask
    if tiles.isEmpty then s.respond h 0x0060 (tileCmdReply (w false []))
    else (wait (w false tiles)).sendCmdMask mask inner
  else if s.sessionOpen target then (wait (w true [target])).sendCmdTile target inner
  else s.refuse h 0x0060 .errAddr

/-- R519, R520: a tile's response packet has come whole. -/
def State.tileAnswers (s : State) (tile : Nat) (bs : List Byte) : State :=
  match s.cmd.tileCmds.find? (fun w => w.tiles.contains tile && leAt bs 5 1 == authCode w.hdr.auth &&
      leAt bs 2 2 == w.op + 0x8000 && leAt bs 6 4 == w.seq) with
  | none => s
  | some w =>
    if w.single then (s.dropTileCmd w).respond w.hdr 0x0060 (okReply bs)
    else
      let w' := { w with tiles := w.tiles.filter (· != tile), done := w.done ++ [(tile, leAt bs 16 2)] }
      if w'.tiles.isEmpty then (s.dropTileCmd w).respond w.hdr 0x0060 (tileCmdReply w')
      else { s with cmd := { s.cmd with tileCmds := s.cmd.tileCmds.map (fun x => if x.hdr = w.hdr then w' else x) } }

/-- R520: what a TILE_CMD answers at the end of TMO_MS. -/
def State.tileCmdEnds (s : State) (w : TileCmdWait) : State :=
  let s1 := (s.untilCycle w.due).dropTileCmd w
  if w.single then s1.refuse w.hdr 0x0060 .errTimeout else s1.respond w.hdr 0x0060 (tileCmdReply w)

/-- TILE_CMD_TIMEOUT (R520). -/
def execTileCmdTimeout (auth : Auth) (s : State) : Host.Outcome State Fault Refusal :=
  .next (match s.cmd.tileCmds.find? (fun w => w.hdr.auth == auth) with
    | some w => s.tileCmdEnds w
    | none => s)

/-! Factory commands (R516, R517) -/

/-- A factory command in FACTORY: what it does is set by a specification that this one does not hold, so its status and its
body are open (notes/assumptions/61.md). -/
def State.doFactory (s : State) (h : Hdr) (op : Nat) : State :=
  let x := (Status.ofCode (s.freeValue.toNat % 17)).getD .ok
  let n := (Config.freeWord (s.fresh + 1)).toNat % 1048573
  let body := if x = .ok then freeBytes (s.fresh + 2) n else []
  ({ s with fresh := s.fresh + 2 + n } : State).respond h (0x0070 + op % 16) ⟨x, .none, body⟩

end Sys2Proof.Machine
end

