-- ==== Sys2Proof/Machine/Commands.lean ====
section
/-! DEFINITION. The command engine (R508 to R515, R523): the checks of a command, its queue, its sequence rules, and the
commands of host software. -/

namespace Sys2Proof.Machine

/-! What waits (R508, R511) -/

/-- R510: the command engine runs: not in BOOT, and not under reset. -/
def State.engineRuns (s : State) : Bool :=
  s.mode != .boot && s.rst.held.isNone && !s.rst.fuseFault && !s.rst.testMode

/-- The command that a completion answers. -/
def Completion.hdr : Completion → Option Hdr
  | .commit c => some c.hdr
  | .retimed c _ => some c.hdr
  | .reply h _ _ => some h
  | _ => none

/-- The commands that have started and have not answered. -/
def State.running (s : State) : List Hdr :=
  s.repl.waiting.filterMap (fun w => w.what.hdr) ++ s.cmd.tileCmds.map (·.hdr) ++ s.cmd.barriers.map (·.hdr)

/-- R511: an authority has a command that has not finished. -/
def State.authBusy (s : State) (a : Auth) : Bool := s.running.any (fun h => h.auth == a)

/-- R508: a command of the host SPI port is queued or running. -/
def State.hspiBusy (s : State) : Bool :=
  (s.running ++ s.cmd.forwards.map (·.hdr) ++ (s.gen.queue ++ s.gnt.queue).map (·.1)).any (fun h => h.via == .hspi)

/-! Failures of checks (R510) -/

/-- R508, R510: FRAME_ERR. -/
def State.frameErr (s : State) (spi : Bool) : State :=
  ({ s with cmd := { s.cmd with frameErr := s.cmd.frameErr || spi } } : State).eventCount F.SYS_CMD_EVT_FRAME_ERR
    F.SYS_CMD_CNT0_FRAME_ERR_COUNT

/-- R509: UDP_DROP. -/
def State.udpDrop (s : State) : State := s.eventCount F.SYS_CMD_EVT_UDP_DROP F.SYS_CMD_CNT1_UDP_DROP_COUNT

/-- R510: AUTH_FAIL. -/
def State.authFail (s : State) : State := s.eventCount F.SYS_CMD_EVT_AUTH_FAIL F.SYS_CMD_CNT0_AUTH_FAIL_COUNT

/-- R509, R522: a source address that the allow list admits. -/
def State.allowed (s : State) (ip : Nat) : Bool :=
  match s.cmd.comm with
  | none => true
  | some c => c.allowN == 0 ||
    (c.allow.take c.allowN).any (fun (a : AllowEntry) => ip / 2 ^ (32 - a.prefixLen) == a.ip / 2 ^ (32 - a.prefixLen))

/-- R499, R508, R509, R518: commands reach the device by a transport. In MITTEN a sender has command UDP on NET0 in MODE 0,
with network settings that it can read. -/
def State.reaches (s : State) (via : Transport) : Bool :=
  match via with
  | .hspi => true
  | .udp p _ _ _ =>
    s.netOn p && (s.mode != .mitten || (p == 0 && !s.flag (F.NET_CTL_MODE 0) &&
      (s.chosenSet.any (fun x => (sections (setBody x.2)).any (fun y => y.1 == 0x21)))))
  | .chain _ _ => s.tileRole

/-- R522: TRANSPORTS enables a transport; before commissioning, host SPI and the chain (R526). -/
def State.transportOn (s : State) (via : Transport) : Bool :=
  let t := s.cmd.comm.elim 9 (·.transports)
  match via with
  | .hspi => t % 2 == 1
  | .udp p _ _ _ => t / 2 ^ (1 + p) % 2 == 1
  | .chain _ _ => t / 8 % 2 == 1

/-- R500, R523: what a device without a commissioning section accepts unchecked. -/
def State.keylessTakes (s : State) (via : Transport) (c : Option HostCmd) : Bool :=
  match c with
  | none => false
  | some x =>
    (s.mode == .mitten && answeredIn .mitten x) ||
    match x, via with
    | .identify, _ => true
    | .status, _ => true
    | .commission _, .hspi => true
    | .commission _, .chain _ _ => true
    | _, _ => false

/-- R516: the opcode is defined for the device's role. -/
def State.roleHas (s : State) (c : HostCmd) : Bool := if s.tileRole then tileHas c else senderHas c

/-- R516: the lengths that a payload may have. -/
def lengthOk : HostCmd → Bool
  | .memWrite _ _ d => decide (1 ≤ d.length ∧ d.length ≤ 1048564)
  | .stageWrite _ d => decide (1 ≤ d.length ∧ d.length ≤ 1048572)
  | .tileCmd _ _ _ i => decide (36 ≤ i.length ∧ i.length ≤ 1048568)
  | _ => true

/-! Running (R511 to R516) -/

/-- The queries (R516). -/
def State.runQuery (s : State) (h : Hdr) : HostCmd → State
  | .identify => s.respond h 0x0001 (okReply s.identity)
  | .status => s.respond h 0x0002 (okReply s.statusBody)
  | .regRead a n => s.doRegRead h a n
  | .logRead l f n => s.doLogRead h l f n
  | .querySeq sr q => s.respond h 0x0005 (s.querySeq h sr q)
  | .countersRead p => s.doCountersRead h p
  | .ptpMetadata d => s.doPtpMetadata h d
  | .memRead sp a n => s.doMemRead h sp a n
  | .snapshotRead i p o n => s.doSnapshotRead h i p o n
  | _ => s

/-- The actions (R516), once they have started. -/
def State.runStarted (s : State) (h : Hdr) : HostCmd → State
  | .write c => s.directWrite h c
  | .countersClear p => s.doCountersClear h p
  | .memWrite sp a d => s.doMemWrite h sp a d
  | .fenceSignal n v => s.doFenceSignal h n v
  | .hatband t k i m => s.doHatband h t k i m
  | .snapshot t i k => s.doSnapshot h t i k
  | .barrier i => s.sendBarrier h i
  | .wallReset t l i => s.doWallReset h t l i
  | .restep => s.doRestep h
  | .swap => s.doSwap h
  | .stageBegin n => s.doStageBegin h n
  | .stageWrite o d => s.doStageWrite h o d
  | .stageEnd => s.doStageEnd h
  | .activate t i => s.scheduleCmd h 0x0043 (.activate t i) t
  | .saveSettings => s.doSave h
  | .reset k f => s.doReset h k f
  | .commission c => s.doCommission h c
  | .tileCmd t m o i => s.doTileCmd h t m o i
  | .factory op _ => s.doFactory h op
  | _ => s

/-- R513: an action under its sequence rules. -/
def State.startAction (s : State) (h : Hdr) (c : HostCmd) : State :=
  let a := s.auth h.auth
  match a.actions.find? (fun x => x.seq == h.seq) with
  | some x => s.answer h (opcodeOf c) (if x.crc = h.crc then x.reply.elim pendingReply replayed else bareReply .errConflict)
  | none =>
    if h.seq = 0 ∨ h.seq ≤ a.maxAction then s.answer h (opcodeOf c) (bareReply .errSeq)
    else
      let kept := a.actions ++ [⟨h.seq, h.crc, opcodeOf c, none⟩]
      (s.setAuth h.auth { a with maxAction := h.seq, actions := kept.drop (kept.length - 256) }).runStarted h c

/-- R46, R515: a WRITE belongs to the open transaction of its authority; without one it is a direct write. One that carries
the number of a completed transaction, and an index, is a late part of it. -/
def State.runWrite (s : State) (h : Hdr) (c : Change) : State :=
  match (s.auth h.auth).opened with
  | some t => if t.seq = h.seq then s.doTxnWrite h t c else s.answer h 0x0011 (bareReply .errSeq)
  | none =>
    if c.index ≠ 0xFFFF ∧ (s.auth h.auth).outcomes.any (fun o => o.seq == h.seq) = true then s.answer h 0x0011 (bareReply .errSeq)
    else s.startAction h (.write c)

/-- A command that is not a query runs (R511). -/
def State.runCmd (s : State) (h : Hdr) (c : HostCmd) : State :=
  match c with
  | .beginTxn => s.doBegin h
  | .write x => s.runWrite h x
  | .commit => s.doCommit h
  | .rollback => s.doRollback h
  | .commitAll => s.doCommitAll h
  | _ => s.startAction h c

/-- R512: what a standby runs itself. -/
def standbyOwn : HostCmd → Bool
  | .stageBegin _ | .stageWrite _ _ | .stageEnd | .saveSettings | .reset _ _ | .commission _ => true
  | .write c => decide (c.index = 0xFFFF) && (runAddrs c.addr c.words.length).all localWord
  | _ => false

/-- R512: a standby sends a command to the active. -/
def State.forwardCmd (s : State) (h : Hdr) (c : HostCmd) : State :=
  ({ s with cmd := { s.cmd with forwards := s.cmd.forwards ++ [⟨h, opcodeOf c, s.cycles⟩] } } : State).send
    (.forward (s.fld F.RED_PEER_IPV4) h c)

/-- R62, R511: a command of an authority may run now. -/
def State.mayRun (s : State) (a : Auth) (c : HostCmd) : Bool :=
  !s.authBusy a && !(s.commitRuns && (c == .commit || c == .commitAll))

/-- R511, R512: a command that has passed its checks: a query runs at once; a standby forwards what is the active's; and the
rest run in order of arrival. -/
def State.accept (s : State) (h : Hdr) (c : HostCmd) : State :=
  if kindOf false c = .query then s.runQuery h c
  else if s.mode = .standby ∧ standbyOwn c = false then s.forwardCmd h c
  else
    let a := s.auth h.auth
    if a.queue.isEmpty && s.mayRun h.auth c then s.runCmd h c
    else if 16 ≤ a.queue.length then
      (s.eventCount F.SYS_CMD_EVT_BUSY F.SYS_CMD_CNT1_BUSY_COUNT).answer h (opcodeOf c) (bareReply .errBusy)
    else s.setAuth h.auth { a with queue := a.queue ++ [(h, c)] }

/-- R510: checks 3 to 9 of a packet. `shape` is a command of the packet's opcode, where the opcode is defined at all; `parsed`
is the command with its payload, where LEN agrees with it. -/
def State.judge (s : State) (h : Hdr) (op : Nat) (shape parsed : Option HostCmd) (tagGood fieldsGood : Bool) : State :=
  if !s.transportOn h.via then s.authFail.respondPlain h op (bareReply .errAuth)
  else if !(if s.cmd.comm.isSome then tagGood else s.keylessTakes h.via shape) then s.authFail.respondPlain h op (bareReply .errAuth)
  else if !fieldsGood then s.answer h op (bareReply .errLen)
  else
    match shape with
    | none => s.answer h op (bareReply .errOpcode)
    | some c =>
      if !s.roleHas c then s.answer h op (bareReply .errOpcode)
      else if !answeredIn s.mode c then s.answer h op (bareReply .errState)
      else if h.auth == .gauntlet && generalOnly c then s.answer h op (bareReply .errAuth)
      else
        match parsed with
        | none => s.answer h op (bareReply .errLen)
        | some x => s.accept h x

/-- A command of host software whose packet has passed checks 1 and 2 and whose TAG matches. -/
def State.submit (s : State) (h : Hdr) (c : HostCmd) : State :=
  if !(s.engineRuns && s.reaches h.via) then s
  else
    let parsed := if lengthOk c then some c else none
    match h.via with
    | .hspi => if s.hspiBusy || s.cmd.held.isSome then s.frameErr true else s.judge h (opcodeOf c) (some c) parsed true true
    | .udp _ ip _ _ => if s.allowed ip then s.judge h (opcodeOf c) (some c) parsed true true else s.udpDrop
    | .chain _ _ => s.judge h (opcodeOf c) (some c) parsed true true

/-- COMMAND_DEQUEUE (R511). -/
def State.dequeue (s : State) (a : Auth) : State :=
  match (s.auth a).queue with
  | (h, c) :: rest =>
    if s.engineRuns && s.mayRun a c then
      let s1 := s.setAuth a { s.auth a with queue := rest }
      if s1.mode = .standby ∧ standbyOwn c = false then s1.forwardCmd h c else s1.runCmd h c
    else s
  | [] => s

def execCommandDequeue (auth : Auth) (s : State) : Host.Outcome State Fault Refusal := .next (s.dequeue auth)

/-- TXN_IDLE_TIMEOUT (R51): a transaction whose last command is 10 s old is rolled back. -/
def execTxnIdleTimeout (auth : Auth) (s : State) : Host.Outcome State Fault Refusal :=
  .next (match (s.auth auth).opened with
    | some t =>
      ((s.untilCycle (t.lastCmd + msCycles 10000)).rollBack auth t .errTimeout 0xFFFF true).event F.SYS_FLIP_EVT_TXN_IDLE
    | none => s)

/-! The commands of host software -/

/-- IDENTIFY (R516). -/
def execIdentify (h : Hdr) (s : State) : Host.Outcome State Fault Refusal := .next (s.submit h .identify)

/-- STATUS (R516). -/
def execStatusCmd (h : Hdr) (s : State) : Host.Outcome State Fault Refusal := .next (s.submit h .status)

/-- REG_READ (R11, R516). -/
def execRegRead (h : Hdr) (addr count : Nat) (s : State) : Host.Outcome State Fault Refusal :=
  .next (s.submit h (.regRead addr count))

/-- LOG_READ (R516). -/
def execLogRead (h : Hdr) (log first count : Nat) (s : State) : Host.Outcome State Fault Refusal :=
  .next (s.submit h (.logRead log first count))

/-- QUERY_SEQ (R514). -/
def execQuerySeq (h : Hdr) (series seq : Nat) (s : State) : Host.Outcome State Fault Refusal :=
  .next (s.submit h (.querySeq series seq))

/-- COUNTERS_READ (R516). -/
def execCountersRead (h : Hdr) (port : Nat) (s : State) : Host.Outcome State Fault Refusal :=
  .next (s.submit h (.countersRead port))

/-- COUNTERS_CLEAR (R133). -/
def execCountersClear (h : Hdr) (port : Nat) (s : State) : Host.Outcome State Fault Refusal :=
  .next (s.submit h (.countersClear port))

/-- PTP_METADATA (R396). -/
def execPtpMetadata (h : Hdr) (dom : Nat) (s : State) : Host.Outcome State Fault Refusal :=
  .next (s.submit h (.ptpMetadata dom))

/-- BEGIN (R45). -/
def execBeginTxn (h : Hdr) (s : State) : Host.Outcome State Fault Refusal := .next (s.submit h .beginTxn)

/-- WRITE (R49, R515). -/
def execWriteCmd (h : Hdr) (c : Change) (s : State) : Host.Outcome State Fault Refusal := .next (s.submit h (.write c))

/-- COMMIT (R57, R60). -/
def execCommitCmd (h : Hdr) (s : State) : Host.Outcome State Fault Refusal := .next (s.submit h .commit)

/-- ROLLBACK (R51). -/
def execRollback (h : Hdr) (s : State) : Host.Outcome State Fault Refusal := .next (s.submit h .rollback)

/-- COMMIT_ALL (R75). -/
def execCommitAll (h : Hdr) (s : State) : Host.Outcome State Fault Refusal := .next (s.submit h .commitAll)

/-- MEM_WRITE (R517). -/
def execMemWrite (h : Hdr) (space addr : Nat) (data : List Byte) (s : State) : Host.Outcome State Fault Refusal :=
  .next (s.submit h (.memWrite space addr data))

/-- MEM_READ (R517). -/
def execMemRead (h : Hdr) (space addr bytes : Nat) (s : State) : Host.Outcome State Fault Refusal :=
  .next (s.submit h (.memRead space addr bytes))

/-- FENCE_SIGNAL (R69). -/
def execFenceSignal (h : Hdr) (fence : Nat) (value : Word) (s : State) : Host.Outcome State Fault Refusal :=
  .next (s.submit h (.fenceSignal fence value))

/-- HATBAND (R247). -/
def execHatbandCmd (h : Hdr) (t : TimeField) (kind id portMask : Nat) (s : State) : Host.Outcome State Fault Refusal :=
  .next (s.submit h (.hatband t kind id portMask))

/-- SNAPSHOT (R265). -/
def execSnapshotCmd (h : Hdr) (t : TimeField) (id content : Nat) (s : State) : Host.Outcome State Fault Refusal :=
  .next (s.submit h (.snapshot t id content))

/-- BARRIER (R265, R517). -/
def execBarrierCmd (h : Hdr) (id : Nat) (s : State) : Host.Outcome State Fault Refusal := .next (s.submit h (.barrier id))

/-- WALL_RESET (R539). -/
def execWallReset (h : Hdr) (t : TimeField) (level id : Nat) (s : State) : Host.Outcome State Fault Refusal :=
  .next (s.submit h (.wallReset t level id))

/-- RESTEP (R400, R401). -/
def execRestep (h : Hdr) (s : State) : Host.Outcome State Fault Refusal := .next (s.submit h .restep)

/-- SWAP (R442). -/
def execSwapCmd (h : Hdr) (s : State) : Host.Outcome State Fault Refusal := .next (s.submit h .swap)

/-- SNAPSHOT_READ (R517). -/
def execSnapshotRead (h : Hdr) (id part offset bytes : Nat) (s : State) : Host.Outcome State Fault Refusal :=
  .next (s.submit h (.snapshotRead id part offset bytes))

/-- STAGE_BEGIN (R517). -/
def execStageBegin (h : Hdr) (total : Nat) (s : State) : Host.Outcome State Fault Refusal :=
  .next (s.submit h (.stageBegin total))

/-- STAGE_WRITE (R517). -/
def execStageWrite (h : Hdr) (offset : Nat) (data : List Byte) (s : State) : Host.Outcome State Fault Refusal :=
  .next (s.submit h (.stageWrite offset data))

/-- STAGE_END (R495). -/
def execStageEnd (h : Hdr) (s : State) : Host.Outcome State Fault Refusal := .next (s.submit h .stageEnd)

/-- ACTIVATE (R496). -/
def execActivate (h : Hdr) (t : TimeField) (id : Nat) (s : State) : Host.Outcome State Fault Refusal :=
  .next (s.submit h (.activate t id))

/-- SAVE_SETTINGS (R492). -/
def execSaveSettings (h : Hdr) (s : State) : Host.Outcome State Fault Refusal := .next (s.submit h .saveSettings)

/-- RESET (R517). -/
def execResetCmd (h : Hdr) (kind flags : Nat) (s : State) : Host.Outcome State Fault Refusal :=
  .next (s.submit h (.reset kind flags))

/-- COMMISSION (R522). -/
def execCommission (h : Hdr) (c : Commission) (s : State) : Host.Outcome State Fault Refusal :=
  .next (s.submit h (.commission c))

/-- TILE_CMD (R518). -/
def execTileCmd (h : Hdr) (target chainMask tmoMs : Nat) (inner : List Byte) (s : State) : Host.Outcome State Fault Refusal :=
  .next (s.submit h (.tileCmd target chainMask tmoMs inner))

/-- FACTORY_COMMAND (R517). -/
def execFactoryCommand (h : Hdr) (op : Nat) (payload : List Byte) (s : State) : Host.Outcome State Fault Refusal :=
  .next (s.submit h (.factory op payload))

/-- MAP_WINDOW_WRITE (R193, R515). -/
def execMapWindowWrite (h : Hdr) (addr : Nat) (words : List Word) (s : State) : Host.Outcome State Fault Refusal :=
  .next (s.submit h (.write ⟨0xFFFF, addr, 0, 0, words⟩))

/-- LINING_WINDOW_WRITE (R319, R517). -/
def execLiningWindowWrite (h : Hdr) (addr : Nat) (data : List Byte) (s : State) : Host.Outcome State Fault Refusal :=
  .next (s.submit h (.memWrite 0 addr data))

/-- GUARD_IMAGE_WRITE (R321, R517). -/
def execGuardImageWrite (h : Hdr) (addr : Nat) (data : List Byte) (s : State) : Host.Outcome State Fault Refusal :=
  .next (s.submit h (.memWrite 0 addr data))

/-- FAULT_MAP_WRITE (R382, R517). -/
def execFaultMapWrite (h : Hdr) (addr : Nat) (data : List Byte) (s : State) : Host.Outcome State Fault Refusal :=
  .next (s.submit h (.memWrite 0 addr data))

end Sys2Proof.Machine
end

