-- ==== Sys2Proof/Machine/Parse.lean ====
section
/-! DEFINITION. Command packets as bytes (R505, R515 to R518, R522): the opcode of a packet, and its payload as a command. A
payload byte that is to be 0 and is not gives the command an operand to which the spec gives no meaning, and so ERR_RANGE at
check 11 (R517). -/

namespace Sys2Proof.Machine

/-- R517: a value where the bytes that must be 0 are, and otherwise one without a meaning. -/
def ifZero (bs : List Byte) (v none_ : Nat) : Nat := if bs.all (· == 0) then v else none_

/-- Bytes of a payload from a position. -/
def sub (bs : List Byte) (i n : Nat) : List Byte := (bs.drop i).take n

/-- R516: a time field in a payload. -/
def timeAt (bs : List Byte) (i : Nat) : TimeField := ⟨leAt bs i 6, leAt bs (i + 6) 4, leAt bs (i + 10) 2⟩

/-- R516: a command of an opcode, whatever its payload; none where the opcode is not defined. -/
def shapeOf (op : Nat) : Option HostCmd :=
  match op with
  | 0x0001 => some .identify | 0x0002 => some .status | 0x0003 => some (.regRead 0 1) | 0x0004 => some (.logRead 0 0 1)
  | 0x0005 => some (.querySeq 0 0) | 0x0006 => some (.countersRead 0) | 0x0007 => some (.countersClear 0)
  | 0x0008 => some (.ptpMetadata 0)
  | 0x0010 => some .beginTxn | 0x0011 => some (.write ⟨0xFFFF, 0, 0, 0, []⟩) | 0x0012 => some .commit
  | 0x0013 => some .rollback | 0x0014 => some .commitAll
  | 0x0020 => some (.memWrite 0 0 []) | 0x0021 => some (.memRead 0 0 1) | 0x0022 => some (.fenceSignal 0 0)
  | 0x0030 => some (.hatband ⟨0, 0, 0⟩ 1 0 0) | 0x0031 => some (.snapshot ⟨0, 0, 0⟩ 0 0) | 0x0032 => some (.barrier 0)
  | 0x0033 => some (.wallReset ⟨0, 0, 0⟩ 1 0) | 0x0034 => some .restep | 0x0035 => some .swap
  | 0x0036 => some (.snapshotRead 0 0 0 1)
  | 0x0040 => some (.stageBegin 1024) | 0x0041 => some (.stageWrite 0 []) | 0x0042 => some .stageEnd
  | 0x0043 => some (.activate ⟨0, 0, 0⟩ 0) | 0x0044 => some .saveSettings | 0x0045 => some (.reset 0 0)
  | 0x0050 => some (.commission ⟨[], [], 16, 1, 0, 0, []⟩) | 0x0060 => some (.tileCmd 0 0 1 [])
  | _ => if op / 16 = 7 then some (.factory (op % 16) []) else none

/-- R515: the payload of WRITE. -/
def parseWrite (p : List Byte) : Option HostCmd :=
  if p.length < 16 ∨ p.length ≠ 16 + 4 * leAt p 12 2 then none
  else
    some (.write ⟨leAt p 0 2, leAt p 4 4, leAt p 8 2, ifZero (sub p 2 2 ++ sub p 11 1 ++ sub p 14 2) (leAt p 10 1) 256,
      bytesWords (p.drop 16) (leAt p 12 2)⟩)

/-- R522: the payload of COMMISSION. -/
def parseCommission (p : List Byte) : HostCmd :=
  let c := commissionOf p
  let zeros := sub p 67 1 ++ (List.range 8).flatMap (fun i => sub p (77 + 8 * i) 3)
  .commission { c with allowN := ifZero zeros c.allowN 9 }

/-- R516, R517, R518: a payload as the command of its opcode; none where its length does not agree with the opcode. -/
def parseCmd (op : Nat) (p : List Byte) : Option HostCmd :=
  let exact_ (n : Nat) (c : HostCmd) : Option HostCmd := if p.length = n then some c else none
  let over_ (n : Nat) (c : HostCmd) : Option HostCmd := if n < p.length then some c else none
  match op with
  | 0x0003 => exact_ 8 (.regRead (leAt p 0 4) (ifZero (sub p 6 2) (leAt p 4 2) 65536))
  | 0x0004 => exact_ 12 (.logRead (ifZero (sub p 1 3 ++ sub p 10 2) (leAt p 0 1) 2) (leAt p 4 4) (leAt p 8 2))
  | 0x0005 => exact_ 8 (.querySeq (ifZero (sub p 1 3) (leAt p 0 1) 2) (leAt p 4 4))
  | 0x0006 => exact_ 4 (.countersRead (ifZero (sub p 1 3) (leAt p 0 1) 2))
  | 0x0007 => exact_ 4 (.countersClear (ifZero (sub p 1 3) (leAt p 0 1) 2))
  | 0x0008 => exact_ 4 (.ptpMetadata (ifZero (sub p 1 3) (leAt p 0 1) 2))
  | 0x0011 => parseWrite p
  | 0x0020 => over_ 12 (.memWrite (ifZero (sub p 1 3) (leAt p 0 1) 2) (leAt p 4 8) (p.drop 12))
  | 0x0021 => exact_ 16 (.memRead (ifZero (sub p 1 3) (leAt p 0 1) 2) (leAt p 4 8) (leAt p 12 4))
  | 0x0022 => exact_ 8 (.fenceSignal (ifZero (sub p 1 3) (leAt p 0 1) 256) (BitVec.ofNat 32 (leAt p 4 4)))
  | 0x0030 => exact_ 24 (.hatband (timeAt p 0) (ifZero (sub p 13 1) (leAt p 12 1) 256) (leAt p 14 2) (leAt p 16 8))
  | 0x0031 => exact_ 20 (.snapshot (timeAt p 0) (leAt p 12 4) (leAt p 16 4))
  | 0x0032 => exact_ 4 (.barrier (leAt p 0 4))
  | 0x0033 => exact_ 20 (.wallReset (timeAt p 0) (ifZero (sub p 13 3) (leAt p 12 1) 0) (leAt p 16 4))
  | 0x0036 => exact_ 16 (.snapshotRead (leAt p 0 4) (ifZero (sub p 5 3) (leAt p 4 1) 256) (leAt p 8 4) (leAt p 12 4))
  | 0x0040 => exact_ 4 (.stageBegin (leAt p 0 4))
  | 0x0041 => over_ 4 (.stageWrite (leAt p 0 4) (p.drop 4))
  | 0x0043 => exact_ 16 (.activate (timeAt p 0) (leAt p 12 4))
  | 0x0045 => exact_ 4 (.reset (ifZero (sub p 2 2) (leAt p 0 1) 2) (leAt p 1 1))
  | 0x0050 => exact_ 136 (parseCommission p)
  | 0x0060 => over_ 8 (.tileCmd (leAt p 0 2) (leAt p 2 1) (ifZero (sub p 3 1 ++ sub p 6 2) (leAt p 4 2) 0) (p.drop 8))
  | _ => if op / 16 = 7 then some (.factory (op % 16) p) else if p.isEmpty then shapeOf op else none

/-- The command of a payload, where its length is one that R516 allows (check 9 of R510). -/
def readPayload (op : Nat) (p : List Byte) : Option HostCmd :=
  (parseCmd op p).bind (fun c => if lengthOk c then some c else none)

/-! Packets (R505, R506, R510) -/

/-- R505: the authority byte. -/
def authOf : Nat → Option Auth
  | 1 => some .general
  | 2 => some .gauntlet
  | _ => none

/-- R510, check 1. -/
def State.framed (s : State) (bs : List Byte) : Bool :=
  decide (16 ≤ bs.length) && leAt bs 0 2 == 0x01A9 && leAt bs 4 1 % 2 == 0 && bs.length == 20 + s.tagLen + leAt bs 10 3

/-- R506: the header and payload of a packet. -/
def packetBody (bs : List Byte) : List Byte := bs.take (16 + leAt bs 10 3)

/-- R510, check 2. -/
def crcGood (bs : List Byte) : Bool := leAt bs (16 + leAt bs 10 3) 4 == (crc32c (packetBody bs)).toNat

/-- R510, check 4: the tag of a packet. -/
def State.tagGood (s : State) (a : Auth) (bs : List Byte) : Bool :=
  sub bs (20 + leAt bs 10 3) s.tagLen == tagOf (s.keyOf a) (bs.take (20 + leAt bs 10 3)) s.tagLen

/-- R510, check 5. -/
def fieldsGood (bs : List Byte) : Bool :=
  leAt bs 4 1 / 4 == 0 && leAt bs 13 3 == 0 && decide (leAt bs 10 3 ≤ 1048576)

/-- R507, R510: the response to a packet whose AUTH is neither authority's; it echoes the byte. -/
def State.badAuth (s : State) (via : Transport) (bs : List Byte) : State :=
  let b := leBytes 2 (Status.errAuth).code ++ [0, 0]
  let m := headerBytes (leAt bs 2 2 % 0x8000 + 0x8000) 1 (leAt bs 5 1) (leAt bs 6 4) b.length ++ b
  s.authFail.deliver via (m ++ leBytes 4 (crc32c m).toNat ++ List.replicate s.tagLen 0)

/-- R505, R513: what the header and the trailer of a packet give. -/
def packetHdr (a : Auth) (via : Transport) (bs : List Byte) : Hdr :=
  ⟨a, leAt bs 6 4, BitVec.ofNat 32 (leAt bs (16 + leAt bs 10 3) 4), leAt bs 4 1 / 2 % 2 == 1, via⟩

/-- R400: whether a packet is the step that a sender sends its tiles, a RESTEP with Δ and T (notes/assumptions/43.md). -/
def isStep (via : Transport) (op : Nat) (p : List Byte) : Bool :=
  (match via with | .chain _ _ => true | _ => false) && op == 0x0034 && p.length == 24

/-- R402, R403: a step enters a tile's schedule. -/
def State.stepCmd (s : State) (h : Hdr) (p : List Byte) : State :=
  let t := timeAt p 12
  let d := signed 64 (leAt p 0 8) * 65536 + ((leAt p 8 2 : Nat) : Int)
  let (s1, x) := s.takeAction t ⟨timeWall t, h.seq, .step d, false⟩
  s1.answer h 0x0034 (bareReply x)

/-- R510: a whole packet has come. -/
def State.takePacket (s : State) (via : Transport) (bs : List Byte) : State :=
  if !(s.framed bs && crcGood bs) then s.frameErr (via == .hspi)
  else
    let op := leAt bs 2 2
    let p := sub bs 16 (leAt bs 10 3)
    match authOf (leAt bs 5 1) with
    | none => s.badAuth via bs
    | some a =>
      let h := packetHdr a via bs
      if isStep via op p && s.mode == .tile && a == .general && s.transportOn via && s.cmd.comm.isSome && s.tagGood a bs && fieldsGood bs then
        s.stepCmd h p
      else s.judge h op (shapeOf op) (readPayload op p) (s.tagGood a bs) (fieldsGood bs)

end Sys2Proof.Machine
end

