-- ==== Sys2Proof/Machine/Transports.lean ====
section
/-! DEFINITION. The transports of commands: the host SPI port, command UDP, the chain, and the forwarding of a standby (R246,
R508, R509, R512). -/

namespace Sys2Proof.Machine

/-! Host SPI (R508) -/

/-- PKT_WRITE (R508). -/
def execPktWrite (bytes : List Byte) (s : State) : Host.Outcome State Fault Refusal :=
  .next (if !s.engineRuns then s
    else if s.hspiBusy || s.cmd.held.isSome then s.frameErr true
    else s.takePacket .hspi bytes)

/-- R508: the status byte of the port. -/
def State.spiStatus (s : State) : Nat := s.cmd.held.isSome.toNat + 2 * s.hspiBusy.toNat + 4 * s.cmd.frameErr.toNat

/-- STAT_READ (R508). -/
def execStatRead (s : State) : Host.Outcome State Fault Refusal :=
  .next (if s.engineRuns then
    ({ s with cmd := { s.cmd with frameErr := false } } : State).send (.spi (leBytes 1 s.spiStatus))
  else s)

/-- RSP_READ (R508): `bytes` of the held response are read after its length. -/
def execRspRead (bytes : Nat) (s : State) : Host.Outcome State Fault Refusal :=
  .next (if s.engineRuns then
    match s.cmd.held with
    | none => s.send (.spi (leBytes 4 0))
    | some r =>
      let s1 := s.send (.spi (leBytes 4 r.length ++ r.take bytes))
      if r.length ≤ bytes then { s1 with cmd := { s1.cmd with held := none } } else s1
  else s)

/-- HSPI_BAD_INSTRUCTION (R508). -/
def execHspiBadInstruction (s : State) : Host.Outcome State Fault Refusal := .next (if s.engineRuns then s.frameErr true else s)

/-! Command UDP (R509) -/

/-- R509: a datagram that is dropped. -/
def State.segmentDropped (s : State) (ip : Nat) (bs : List Byte) : Bool :=
  let seg := leAt bs 4 1
  let segs := leAt bs 5 1
  let n := bs.length - 8
  !s.allowed ip || decide (bs.length < 8) || decide (8192 < n) || decide (129 < segs) || decide (segs ≤ seg) ||
    (decide (seg + 1 < segs) && decide (n < 8192))

/-- The packet being assembled from a source. -/
def State.assembly (s : State) (port ip xid : Nat) : Option UdpAssembly :=
  s.cmd.assemblies.find? (fun x => x.port == port && x.ip == ip && x.xid == xid)

/-- The state without an assembly. -/
def State.dropAssembly (s : State) (port ip xid : Nat) : State :=
  { s with cmd := { s.cmd with assemblies := s.cmd.assemblies.filter (fun x => !(x.port == port && x.ip == ip && x.xid == xid)) } }

/-- R509: a segment of a fifth packet of a port discards the oldest. -/
def State.makeRoom (s : State) (port : Nat) : State :=
  let mine := s.cmd.assemblies.filter (fun x => x.port == port)
  match mine with
  | x :: _ => if 4 ≤ mine.length then s.dropAssembly port x.ip x.xid else s
  | [] => s

/-- A packet from its parts, in the order of their numbers. -/
def joinParts (n : Nat) (parts : List (Nat × List Byte)) : List Byte :=
  (List.range n).flatMap (fun i => ((parts.find? (fun x => x.1 == i)).map (·.2)).getD [])

/-- R509: a segment enters its assembly; a whole packet goes to the command engine. -/
def State.addSegment (s : State) (x : UdpAssembly) (seg : Nat) (part : List Byte) (udpPort : Nat) : State :=
  let y := { x with
    parts := x.parts ++ [(seg, part)]
    udpPort := if seg = 0 then udpPort else x.udpPort
    last := s.cycles }
  let s1 := s.dropAssembly x.port x.ip x.xid
  if y.parts.length = y.segs then s1.takePacket (.udp y.port y.ip y.udpPort y.xid) (joinParts y.segs y.parts)
  else { s1 with cmd := { s1.cmd with assemblies := s1.cmd.assemblies ++ [y] } }

/-- R509: a datagram on a sender's CMD_PORT. A segment that names another number of segments than the first of its packet is
ignored (notes/assumptions/62.md). -/
def State.udpSegment (s : State) (port ip udpPort : Nat) (bs : List Byte) : State :=
  let xid := leAt bs 0 4
  if !(s.engineRuns && s.reaches (.udp port ip udpPort xid)) then s
  else if s.segmentDropped ip bs then s.udpDrop
  else
    match s.assembly port ip xid with
    | some x =>
      if x.segs ≠ leAt bs 5 1 ∨ x.parts.any (fun p => p.1 == leAt bs 4 1) = true then s
      else s.addSegment x (leAt bs 4 1) (bs.drop 8) udpPort
    | none => (s.makeRoom port).addSegment ⟨port, ip, udpPort, xid, leAt bs 5 1, [], 0⟩ (leAt bs 4 1) (bs.drop 8) udpPort

/-- UDP_SEGMENT (R509). -/
def execUdpSegment (port ip udpPort : Nat) (payload : List Byte) (s : State) : Host.Outcome State Fault Refusal :=
  .next (s.udpSegment port ip udpPort payload)

/-- UDP_ASSEMBLY_TIMEOUT (R509). -/
def execUdpAssemblyTimeout (port ip xid : Nat) (s : State) : Host.Outcome State Fault Refusal :=
  .next (match s.assembly port ip xid with
    | some x => (s.untilCycle (x.last + msCycles 10)).dropAssembly port ip xid
    | none => s)

/-! A standby's forwarded commands (R512) -/

/-- A forwarded command, by its authority and number. -/
def State.forwardOf (s : State) (a : Auth) (seq : Nat) : Option Forwarded :=
  s.cmd.forwards.find? (fun f => f.hdr.auth == a && f.hdr.seq == seq)

/-- The state without a forwarded command. -/
def State.dropForward (s : State) (f : Forwarded) : State := { s with cmd := { s.cmd with forwards := s.cmd.forwards.erase f } }

/-- STANDBY_FORWARD_TIMEOUT (R512). -/
def execStandbyForwardTimeout (auth : Auth) (seq : Nat) (s : State) : Host.Outcome State Fault Refusal :=
  .next (match s.forwardOf auth seq with
    | some f => ((s.untilCycle (f.since + msCycles 2000)).dropForward f).answer f.hdr f.op (bareReply .errTimeout)
    | none => s)

/-- FORWARD_RESPONSE (R512): the active's response goes back unchanged. -/
def execForwardResponse (auth : Auth) (seq : Nat) (r : Reply) (s : State) : Host.Outcome State Fault Refusal :=
  .next (match s.forwardOf auth seq with
    | some f => ((s.dropForward f).send (.reply f.hdr f.op r)).deliver f.hdr.via (s.responseBytes f.hdr f.op r false)
    | none => s)

/-! The chain (R246, R519) -/

/-- The segments held of a source. -/
def gatherOf (l : List Gather) (src : Nat) : Gather := (l.find? (fun g => g.src == src)).getD ⟨src, [], 0⟩

/-- The segments of a source replaced; none are held where the list is empty. -/
def putGather (l : List Gather) (g : Gather) : List Gather :=
  l.filter (fun x => x.src != g.src) ++ (if g.parts.isEmpty then [] else [g])

/-- R228: the number before a message number. -/
def prevMsgSeq (n : Nat) : Nat := if n ≤ 1 then 0xFFFFFFFF else n - 1

/-- R246: the segments that end in one without MORE: their numbers and bytes, from the first that is held of them. -/
def runTo (parts : List (Nat × Bool × List Byte)) : Nat → Nat → List (Nat × List Byte)
  | 0, _ => []
  | fuel + 1, q =>
    match parts.find? (fun p => p.1 == q && p.2.1) with
    | some p => runTo parts fuel (prevMsgSeq q) ++ [(q, p.2.2)]
    | none => []

/-- R246: a packet whose segments are held: the numbers of its segments, and its bytes. A run of segments is a packet where it
begins one, by the mark of R505 or by the message before it. -/
def State.wholePacket (s : State) (g : Gather) : Option (List Nat × List Byte) :=
  (g.parts.filter (fun p => !p.2.1)).findSome? (fun p =>
    let run := runTo g.parts g.parts.length (prevMsgSeq p.1) ++ [(p.1, p.2.2)]
    let bs := run.flatMap (·.2)
    let first := (run.map (·.1)).headD p.1
    let known := leAt bs 0 2 == 0x01A9 || first == 1 || s.seenSeq g.src (prevMsgSeq first)
    if known then some (run.map (·.1), bs) else none)

/-- R246: a segment of a source joins those held. -/
def addPart (l : List Gather) (m : MsgHdr) (segment : List Byte) (now : Nat) : Gather :=
  let g := gatherOf l m.src
  { g with
    parts := g.parts ++ [(m.seq, m.more, segment)]
    last := now }

/-- The segments held without those of a packet. -/
def without (g : Gather) (ns : List Nat) : Gather := { g with parts := g.parts.filter (fun p => !ns.contains p.1) }

/-- R246: CMD at a tile. -/
def State.cmdSegment (s : State) (m : MsgHdr) (segment : List Byte) : State :=
  let g := addPart s.link.gathers m segment s.cycles
  match s.wholePacket g with
  | some (ns, bs) =>
    let s1 : State := { s with link := { s.link with gathers := putGather s.link.gathers (without g ns) } }
    if s1.engineRuns then s1.takePacket (.chain m.src m.seq) bs else s1
  | none => { s with link := { s.link with gathers := putGather s.link.gathers g } }

/-- CMD (R246). -/
def execCmdMsg (m : MsgHdr) (segment : List Byte) (s : State) : Host.Outcome State Fault Refusal :=
  .next (s.receiveOk m (.cmd segment m.more) false (fun t => if t.tileRole then t.cmdSegment m segment else t))

/-- CMD_PARTIAL_TIMEOUT (R246): what is held of a source is discarded 10 ms after its last segment. -/
def execCmdPartialTimeout (src : Nat) (s : State) : Host.Outcome State Fault Refusal :=
  .next (match (s.link.gathers ++ s.link.rspGathers).find? (fun g => g.src == src) with
    | some g =>
      let s1 := s.untilCycle (g.last + msCycles 10)
      { s1 with link := { s1.link with
        gathers := s1.link.gathers.filter (fun x => x.src != src)
        rspGathers := s1.link.rspGathers.filter (fun x => x.src != src) } }
    | none => s)

end Sys2Proof.Machine
end

