-- ==== Sys2Proof/Machine/Push.lean ====
section
/-! DEFINITION. Responses of tiles, tile sessions as they open and close, and the push of firmware to tiles (R238, R246, R498). -/

namespace Sys2Proof.Machine

/-! The packets of a push (R498) -/

/-- A command packet signed with the General key. -/
def State.signed (s : State) (op seq : Nat) (p : List Byte) : List Byte :=
  let m := headerBytes op 0 1 (seq % 2 ^ 32) p.length ++ p
  let c := m ++ leBytes 4 (crc32c m).toNat
  c ++ tagOf (s.keyOf .general) c s.tagLen

/-- R517: the pieces of an image, each with its offset. -/
def imagePieces (img : List Byte) : List (Nat × List Byte) :=
  (pieces 1048572 (img.length / 1048572 + 1) img).zipIdx.map (fun (x : List Byte × Nat) => (1048572 * x.2, x.1))

/-- R498: a tile to which a session's opening pushes: its TILE_INFO is not that of an AB6400 (notes/assumptions/63.md), and
its FW_VER differs. -/
def State.wantsPush (s : State) (i : TileInfo) : Bool :=
  s.mode == .sender && s.flag F.SYS_FW_PUSH_EN && decide (2 ≤ i.vmax) && i.fwVer != s.fld F.SYS_FW_VER_FW_VER

/-- R498: the running image goes to every tile of a chain by the staging commands. The numbers that they carry are open
(notes/assumptions/64.md). -/
def State.startPush (s : State) (chain : Nat) (tiles : List (Nat × Bool)) : State :=
  let img := s.runningImage
  let parts := imagePieces img
  let n := s.freeValue.toNat
  let s1 := s.drawn.sendCmdChain chain (s.signed 0x0040 n (leBytes 4 img.length))
  let s2 := (parts.zipIdx).foldl (fun t (x : (Nat × List Byte) × Nat) =>
    t.sendCmdChain chain (t.signed 0x0041 (n + 1 + x.2) (leBytes 4 x.1.1 ++ x.1.2))) s1
  let last := (n + 1 + parts.length) % 2 ^ 32
  let s3 := s2.sendCmdChain chain (s2.signed 0x0042 last [])
  ({ s3 with cmd := { s3.cmd with pushes := s3.cmd.pushes ++ [⟨chain, s3.fld F.SYS_FW_VER_FW_VER, last, tiles, [], []⟩] } } : State).setBit
    F.SYS_FW_PUSH_BUSY chain true

/-- R498: a tile joins the pushes of its chain. -/
def State.joinPush (s : State) (i : TileInfo) : State :=
  let c := chainOf i.addr
  let x := (i.addr, i.mode == Mode.mitten.code)
  if s.cmd.pushes.any (fun p => p.chain == c) then
    { s with cmd := { s.cmd with pushes := s.cmd.pushes.map (fun (p : Push) => if p.chain = c then { p with later := p.later ++ [x] } else p) } }
  else s.startPush c [x]

/-- R498: a tile that has staged the image gets the activation command, or a reset with activation in MITTEN. -/
def State.activateTile (s : State) (seq due id : Nat) (x : Nat × Bool) : State :=
  if x.2 then s.sendCmdTile x.1 (s.signed 0x0045 seq [0, 2, 0, 0])
  else s.sendCmdTile x.1 (s.signed 0x0043 seq (timeBytes (timeField due) ++ leBytes 4 id))

/-- R498: a push whose tiles have all answered ends. -/
def State.endPush (s : State) (p : Push) : State :=
  let due := s.senderFlipTime s.stepFlip
  let id := s.freeValue.toNat
  let s1 := p.staged.foldl (fun t x => t.activateTile (p.seq + 1) due id x) s.drawn
  let s2 : State := { s1 with cmd := { s1.cmd with pushes := s1.cmd.pushes.filter (fun q => q.chain != p.chain) } }
  let s3 := s2.setBit F.SYS_FW_PUSH_BUSY p.chain false
  let s4 := if p.staged.isEmpty then s3 else s3.event F.SYS_BOOT_EVT_PUSH_DONE
  if p.later.isEmpty then s4 else s4.startPush p.chain p.later

/-- The state with a push replaced; it ends where no tile is waited for. -/
def State.pushGoesOn (s : State) (p : Push) : State :=
  if p.waiting.isEmpty then s.endPush p
  else { s with cmd := { s.cmd with pushes := s.cmd.pushes.map (fun (q : Push) => if q.chain = p.chain then p else q) } }

/-- R498: a tile's answer to STAGE_END of a push. -/
def State.pushAnswers (s : State) (tile : Nat) (bs : List Byte) : State :=
  match s.cmd.pushes.find? (fun p => p.waiting.any (fun x => x.1 == tile) && leAt bs 2 2 == 0x8042 && leAt bs 5 1 == 1 &&
      leAt bs 6 4 == p.seq) with
  | none => s
  | some p =>
    let mine := p.waiting.filter (fun x => x.1 == tile)
    let rest := p.waiting.filter (fun x => x.1 != tile)
    if leAt bs 16 2 = 0 then
      s.pushGoesOn { p with
        waiting := rest
        staged := p.staged ++ mine }
    else
      ((s.event F.SYS_BOOT_EVT_PUSH_FAIL).fault 6 5 (leBytes 4 p.fwVer ++ leBytes 1 (leAt bs 16 2) ++ [0] ++ leBytes 2 tile)).pushGoesOn
        { p with waiting := rest }

/-- R238, R498: a tile whose session has closed is not waited for. -/
def State.pushLeaves (s : State) (tile : Nat) : State :=
  match s.cmd.pushes.find? (fun p => p.chain == chainOf tile) with
  | none => s
  | some p =>
    let q : Push := { p with
      waiting := p.waiting.filter (fun x => x.1 != tile)
      staged := p.staged.filter (fun x => x.1 != tile)
      later := p.later.filter (fun x => x.1 != tile) }
    s.pushGoesOn q

/-! Sessions (R237, R238) -/

/-- TILE_INFO (R237, R238, R498). -/
def execTileInfo (m : MsgHdr) (i : TileInfo) (s : State) : Host.Outcome State Fault Refusal :=
  .next ((s.tileRestarts m i.addr i.restarts).receiveOk m (.tileInfo i) false (fun t =>
    if t.senderRole then
      let t1 := t.tileInfoMsg m.port i
      let n := sessionOf i.addr
      if !t.flag (F.MLK_SESS_STAT_OPEN n) && t1.flag (F.MLK_SESS_STAT_OPEN n) && t1.wantsPush i then t1.joinPush i else t1
    else t))

/-- SESSION_TIMEOUT (R238): no TILE_STATUS for SESS_TMO_MS. -/
def execSessionTimeout (session : Nat) (s : State) : Host.Outcome State Fault Refusal :=
  .next (if s.senderRole ∧ session < 512 ∧ s.flag (F.MLK_SESS_STAT_OPEN session) = true then
    let last := ((s.link.status.find? (fun x => x.1 == session)).map (·.2)).getD 0
    let s1 := (s.untilCycle (last + msCycles (s.fld F.MLK_TMO_SESS_TMO_MS))).closeSession session
    s1.pushLeaves (s1.fld F.MLK_CTL_DOMAIN * 512 + session)
  else s)

/-! Responses of tiles (R246, R519) -/

/-- R246, R505: a response packet that has come whole. -/
def State.tilePacket (s : State) (tile : Nat) (bs : List Byte) : State :=
  if decide (20 ≤ bs.length) && leAt bs 0 2 == 0x01A9 && bs.length == 20 + s.tagLen + leAt bs 10 3 then
    (s.tileAnswers tile bs).pushAnswers tile bs
  else s

/-- R246: RSP at a sender. -/
def State.rspSegment (s : State) (m : MsgHdr) (segment : List Byte) : State :=
  let g := addPart s.link.rspGathers m segment s.cycles
  match s.wholePacket g with
  | some (ns, bs) =>
    ({ s with link := { s.link with rspGathers := putGather s.link.rspGathers (without g ns) } } : State).tilePacket m.src bs
  | none => { s with link := { s.link with rspGathers := putGather s.link.rspGathers g } }

/-- RSP (R246). -/
def execRspMsg (m : MsgHdr) (segment : List Byte) (s : State) : Host.Outcome State Fault Refusal :=
  .next (s.receiveOk m (.rsp segment m.more) false (fun t => if t.senderRole then t.rspSegment m segment else t))

end Sys2Proof.Machine
end

