-- ==== Sys2Proof/Machine/NetRx.lean ====
section
/-! DEFINITION. Received Ethernet frames to their destinations, firmware's answers to ARP and ICMP, and the monitoring
packetisers (R120 to R124, R134, R204, R205). -/

namespace Sys2Proof.Machine

/-! Frames that firmware makes (R121, R126, R137) -/

/-- R137: an Ethernet header; frames carry the tag of NET_VLAN when VLAN_EN is 1. -/
def State.etherHeader (s : State) (p dst ty : Nat) : List Byte :=
  let tag := if s.flag (F.NET_CTL_VLAN_EN p) then
      beBytes 2 0x8100 ++ beBytes 2 (s.fld (F.NET_VLAN_PCP p) * 8192 + s.fld (F.NET_VLAN_VID p))
    else []
  beBytes 6 dst ++ beBytes 6 (s.netMac p) ++ tag ++ beBytes 2 ty

/-- R126: a frame shorter than 64 bytes with its FCS is padded with zeros. -/
def padFrame (bs : List Byte) : TxFrame := ⟨bs ++ List.replicate (60 - bs.length) 0⟩

/-- An IPv4 header without options, with its checksum. -/
def ipHeader (tos len ident flags ttl proto src dst : Nat) : List Byte :=
  let h := [0x45] ++ beBytes 1 tos ++ beBytes 2 len ++ beBytes 2 ident ++ beBytes 2 flags ++ beBytes 1 ttl ++ beBytes 1 proto ++
    [0, 0] ++ beBytes 4 src ++ beBytes 4 dst
  putAt h 10 (beBytes 2 (inetSum (sum16 h)))

/-- R121: the IPv4 address of a port. -/
def State.netIp (s : State) (p : Nat) : Nat := s.fld (F.NET_IPV4_ADDR_ADDR p)

/-- R121, R139: an ARP request for the port's address is answered; a port without an address answers none. -/
def State.arpReply (s : State) (p op mac ip target : Nat) : State :=
  if op = 1 ∧ target = s.netIp p ∧ s.netIp p ≠ 0 then
    s.queueFrames p [padFrame (s.etherHeader p mac 0x0806 ++ [0, 1, 8, 0, 6, 4, 0, 2] ++ beBytes 6 (s.netMac p) ++
      beBytes 4 (s.netIp p) ++ beBytes 6 mac ++ beBytes 4 ip)]
  else s

/-- R121: an ICMP echo request to the port's address is answered; no other ICMP type is. The service class, the
identification, the DF bit and the TTL of the answer are open. -/
def State.echoReply (s : State) (p mac src dst : Nat) (msg : List Byte) : State :=
  if dst = s.netIp p ∧ s.netIp p ≠ 0 ∧ leAt msg 0 1 = 8 ∧ leAt msg 1 1 = 0 then
    let a := s.freeValue.toNat
    let df := (Config.freeWord (s.fresh + 1)).toNat % 2
    let s1 : State := { s with fresh := s.fresh + 2 }
    let m := [0, 0, 0, 0] ++ msg.drop 4
    let icmp := putAt m 2 (beBytes 2 (inetSum (sum16 m)))
    s1.queueFrames p [padFrame (s1.etherHeader p mac 0x0800 ++
      ipHeader (a % 256) (20 + icmp.length) (a / 256 % 65536) (df * 0x4000) (a / 2 ^ 24) 1 (s1.netIp p) src ++ icmp)]
  else s

/-! Reception (R120, R123, R124) -/

/-- R121, R124, R130: a frame for firmware. -/
def State.toFirmware (s : State) (p : Nat) (c : EthContent) : State :=
  match c with
  | .arp op mac ip target => (s.send (.toReceiver p c)).arpReply p op mac ip target
  | .icmp mac src dst msg => (s.send (.toReceiver p c)).echoReply p mac src dst msg
  | _ => s.send (.toReceiver p c)

/-- R120, R124: a frame that has passed its checks goes on by its content. -/
def State.dispatchFrame (s : State) (p : Nat) (e : EthFrame) : State :=
  match s.netDest p e with
  | .firmware => s.toFirmware p e.content
  | .ptpEvent => (s.stampRx p e).send (.toReceiver p e.content)
  | .command =>
    match e.content with
    | .udp ip _ udpPort _ bs => s.udpSegment p ip udpPort bs
    | _ => s
  | .heartbeat => s.send (.toReceiver p e.content)
  | .flow _ => s.send (.toReceiver p e.content)
  | .unmatched => s.bump F.SDI_RX_DISC_UNMATCHED
  | .drop => s.netEvent p (F.NET_EVT_PROTO_DISC p)

/-- R123: a received frame: the first check that it fails decides. -/
def State.frameRx (s : State) (p : Nat) (e : EthFrame) : State :=
  let s0 := if e.corrected then s.netEvent p (F.NET_EVT_FEC_CORR p) else s
  match s0.netCheck p e with
  | some f => s0.netEvent p f
  | none => s0.dispatchFrame p e

/-- ETH_FRAME_RX (R123, R124): on a sub-port whose link is up. -/
def execEthFrameRx (port : Nat) (e : EthFrame) (s : State) : Host.Outcome State Fault Refusal :=
  .next (if s.netOn port && s.subPortOk port e.sub && s.bit (F.NET_STAT_LINK port) e.sub then s.frameRx port e else s)

/-! Monitoring flows (R134, R204, R205) -/

/-- R204: a tap's stored word of the background colour at a column. -/
def State.tapBackWord (s : State) (t bg x : Nat) : List Byte :=
  leBytes 4 (Config.tapCode [s.fld (F.CMP_MON_CTL_TF t), s.fld F.SDI_WORKSPACE_PEAK_NITS, s.fld F.SDI_WORKSPACE_SDR_WHITE_NITS,
    s.fld F.SDI_WORKSPACE_WORK_PRIM, s.fld (F.CMP_MON_CTL_SAMPLING t), x % 2, bg, bg])

/-- R205, R460: `n` stored pixels of line y of a tap's front buffer, from column x; a burst with an uncorrectable error gives
the background colour of the view. -/
def State.readTap (s : State) (t x y n : Nat) : State × List Byte :=
  let bg := (s.background (s.fld (F.CMP_MON_CTL_VIEW t))).codes
  let addr := s.tapBuffer t (s.tap t).front + (y * (tapRaster s.reg t).1 + x) * 4
  (burstParts (n * 4 / 64 + 2) addr (n * 4)).foldl (fun (r : State × List Byte) q =>
    match r.1.readBurst 2 q.1 with
    | (u, some bs) => (u, r.2 ++ (bs.drop q.2.1).take q.2.2)
    | (u, none) => (u, r.2 ++ (List.range (q.2.2 / 4)).flatMap (fun i => s.tapBackWord t bg (x + r.2.length / 4 + i)))) (s, [])

/-- R99: the 10-bit codes of a stored pixel: two in 4:2:2, luma first, and three in 4:4:4. -/
def tapCodes (rgb : Bool) (w : Nat) : List Nat :=
  if rgb then [w / 2 ^ 20 % 1024, w / 1024 % 1024, w % 1024] else [w / 2 ^ 22 % 1024, w / 1024 % 1024]

/-- Codes of 10 bits as bytes, most significant bit first. -/
def packTen (cs : List Nat) : List Byte := beBytes (cs.length * 10 / 8) (cs.foldl (fun a c => a * 1024 + c) 0)

/-- R134: the samples of stored pixels as pgroups of ST 2110-20: 5 bytes for two pixels in 4:2:2, 15 bytes for four in 4:4:4
(notes/assumptions/65.md). -/
def pgroups (rgb : Bool) (words : List Nat) : List Byte :=
  let n := if rgb then 4 else 2
  (List.range ((words.length + n - 1) / n)).flatMap (fun i =>
    let g := (words.drop (n * i)).take n
    if rgb then packTen ((g ++ List.replicate (4 - g.length) 0).flatMap (tapCodes true))
    else
      let a := tapCodes false (g.getD 0 0)
      let b := tapCodes false (g.getD 1 0)
      packTen [a.getD 1 0, a.getD 0 0, b.getD 1 0, b.getD 0 0])

/-- The Ethernet address of an IPv4 destination: a group address of a multicast one; of a unicast one, what ARP has told
firmware, which is open. -/
def destMac (ip free : Nat) : Nat := if ip / 2 ^ 28 = 14 then groupMac ip else free % 2 ^ 47

/-- R134, R140: a packet of a flow: RTP header, extended sequence number, one sample row data header, and samples
(notes/assumptions/65.md). -/
def State.flowBytes (s : State) (p f : Nat) (last : Bool) (line px ts : Nat) (data : List Byte) : List Byte :=
  let n := (Config.rtpSeq (2 + 2 * p + f) + s.fld (F.NET_MON_CNT_PKT_COUNT p f)) % 2 ^ 32
  [0x80] ++ beBytes 1 (last.toNat * 128 + s.fld (F.NET_MON_CTL_PT p f)) ++ beBytes 2 n ++ beBytes 4 ts ++
    beBytes 4 (s.fld (F.NET_MON_SSRC_SSRC p f)) ++ beBytes 2 (n / 65536) ++ beBytes 2 data.length ++ beBytes 2 line ++ beBytes 2 px ++ data

/-- R134, R140: a packet of a flow as a frame. The identification, the DF bit, the UDP checksum in use or 0, and the
Ethernet address of a unicast destination are open. -/
def State.flowFrame (s : State) (p f : Nat) (rtp : List Byte) : TxFrame :=
  let a := s.freeValue.toNat
  let b := (Config.freeWord (s.fresh + 1)).toNat + 2 ^ 32 * ((Config.freeWord (s.fresh + 2)).toNat % 65536)
  let src := s.netIp p
  let dst := s.fld (F.NET_MON_DST_IPV4_DST p f)
  let n := 8 + rtp.length
  let head := beBytes 2 (s.fld (F.NET_MON_PORTS_UDP_SRC p f)) ++ beBytes 2 (s.fld (F.NET_MON_PORTS_UDP_DST p f)) ++ beBytes 2 n
  let sum := inetSum (sum16 (beBytes 4 src ++ beBytes 4 dst) + 17 + n + sum16 (head ++ [0, 0] ++ rtp))
  let check := if a / 2 ^ 17 % 2 = 1 then (if sum = 0 then 65535 else sum) else 0
  padFrame (s.etherHeader p (destMac dst b) 0x0800 ++
    ipHeader (4 * s.fld (F.NET_MON_CTL_DSCP p f)) (20 + n) (a % 65536) (a / 65536 % 2 * 0x4000) (s.fld (F.NET_MON_CTL_TTL p f)) 17 src dst ++
    head ++ beBytes 2 check ++ rtp)

/-- R134: the next packet of a flow: as many whole pgroups as PKT_BYTES allows, or the rest of the line. -/
def State.monitorPacket (s : State) (p f line px ts : Nat) : State :=
  let t := 2 + 2 * p + f
  let raster := tapRaster s.reg t
  let rgb := s.flag (F.CMP_MON_CTL_SAMPLING t)
  let per := payloadMax s.reg t / (if rgb then 15 else 5) * (if rgb then 4 else 2)
  let n := min per (raster.1 - px)
  let (s1, bs) := s.readTap t px line n
  let words := (List.range n).map (fun i => leAt bs (4 * i) 4)
  let endLine := decide (raster.1 ≤ px + n)
  let last := endLine && decide (raster.2 ≤ line + 1)
  let next := if last then none else if endLine then some (line + 1, 0, ts) else some (line, px + n, ts)
  let s2 := s1.setTap t { s1.tap t with packet := next }
  let frame := s2.flowFrame p f (s2.flowBytes p f last line px ts (pgroups rgb words))
  let s3 : State := { s2 with fresh := s2.fresh + 3 }
  if s3.bit (F.NET_STAT_LINK p) 0 then
    (s3.setNet p { s3.net p with monQ := (s3.net p).monQ ++ [frame] }).wrapInc (F.NET_MON_CNT_PKT_COUNT p f)
  else s3

/-- MONITOR_PACKET (R134). -/
def execMonitorPacket (port flow : Nat) (s : State) : Host.Outcome State Fault Refusal :=
  .next (if s.netOn port && decide (flow < 2) && s.flag (F.NET_MON_CTL_EN port flow) && s.flag (F.CMP_MON_CTL_EN (2 + 2 * port + flow)) then
    match (s.tap (2 + 2 * port + flow)).packet with
    | some (line, px, ts) => s.monitorPacket port flow line px ts
    | none => s
  else s)

end Sys2Proof.Machine
end

