-- ==== Sys2Proof/Machine/Dispatch.lean ====
section
/-! DEFINITION. The meaning of each command: one arm per constructor. -/

namespace Sys2Proof.Machine

def exec (i : Instr) (s : State) : Host.Outcome State Fault Refusal :=
  match i with
  | .identify h => Sys2Proof.Machine.execIdentify h s
  | .statusCmd h => Sys2Proof.Machine.execStatusCmd h s
  | .regRead h addr count => Sys2Proof.Machine.execRegRead h addr count s
  | .logRead h log first count => Sys2Proof.Machine.execLogRead h log first count s
  | .querySeq h series seq => Sys2Proof.Machine.execQuerySeq h series seq s
  | .countersRead h port => Sys2Proof.Machine.execCountersRead h port s
  | .countersClear h port => Sys2Proof.Machine.execCountersClear h port s
  | .ptpMetadata h dom => Sys2Proof.Machine.execPtpMetadata h dom s
  | .beginTxn h => Sys2Proof.Machine.execBeginTxn h s
  | .writeCmd h c => Sys2Proof.Machine.execWriteCmd h c s
  | .commitCmd h => Sys2Proof.Machine.execCommitCmd h s
  | .rollback h => Sys2Proof.Machine.execRollback h s
  | .commitAll h => Sys2Proof.Machine.execCommitAll h s
  | .memWrite h space addr data => Sys2Proof.Machine.execMemWrite h space addr data s
  | .memRead h space addr bytes => Sys2Proof.Machine.execMemRead h space addr bytes s
  | .fenceSignal h fence value => Sys2Proof.Machine.execFenceSignal h fence value s
  | .hatbandCmd h t kind id portMask => Sys2Proof.Machine.execHatbandCmd h t kind id portMask s
  | .snapshotCmd h t id content => Sys2Proof.Machine.execSnapshotCmd h t id content s
  | .barrierCmd h id => Sys2Proof.Machine.execBarrierCmd h id s
  | .wallReset h t level id => Sys2Proof.Machine.execWallReset h t level id s
  | .restep h => Sys2Proof.Machine.execRestep h s
  | .swapCmd h => Sys2Proof.Machine.execSwapCmd h s
  | .snapshotRead h id part offset bytes => Sys2Proof.Machine.execSnapshotRead h id part offset bytes s
  | .stageBegin h total => Sys2Proof.Machine.execStageBegin h total s
  | .stageWrite h offset data => Sys2Proof.Machine.execStageWrite h offset data s
  | .stageEnd h => Sys2Proof.Machine.execStageEnd h s
  | .activate h t id => Sys2Proof.Machine.execActivate h t id s
  | .saveSettings h => Sys2Proof.Machine.execSaveSettings h s
  | .resetCmd h kind flags => Sys2Proof.Machine.execResetCmd h kind flags s
  | .commission h c => Sys2Proof.Machine.execCommission h c s
  | .tileCmd h target chainMask tmoMs inner => Sys2Proof.Machine.execTileCmd h target chainMask tmoMs inner s
  | .factoryCommand h op payload => Sys2Proof.Machine.execFactoryCommand h op payload s
  | .pktWrite bytes => Sys2Proof.Machine.execPktWrite bytes s
  | .statRead => Sys2Proof.Machine.execStatRead s
  | .rspRead bytes => Sys2Proof.Machine.execRspRead bytes s
  | .hspiBadInstruction => Sys2Proof.Machine.execHspiBadInstruction s
  | .udpSegment port ip udpPort payload => Sys2Proof.Machine.execUdpSegment port ip udpPort payload s
  | .udpAssemblyTimeout port ip xid => Sys2Proof.Machine.execUdpAssemblyTimeout port ip xid s
  | .commandDequeue auth => Sys2Proof.Machine.execCommandDequeue auth s
  | .standbyForwardTimeout auth seq => Sys2Proof.Machine.execStandbyForwardTimeout auth seq s
  | .forwardResponse auth seq r => Sys2Proof.Machine.execForwardResponse auth seq r s
  | .tileCmdTimeout auth => Sys2Proof.Machine.execTileCmdTimeout auth s
  | .registerWrite auth addr value => Sys2Proof.Machine.execRegisterWrite auth addr value s
  | .ptpCapture => Sys2Proof.Machine.execPtpCapture s
  | .txStartWrite port value => Sys2Proof.Machine.execTxStartWrite port value s
  | .ueLogClear => Sys2Proof.Machine.execUeLogClear s
  | .blockResetRequest mask => Sys2Proof.Machine.execBlockResetRequest mask s
  | .shadowEnClear => Sys2Proof.Machine.execShadowEnClear s
  | .prbsEnWrite lane on => Sys2Proof.Machine.execPrbsEnWrite lane on s
  | .forceOutWrite lane on => Sys2Proof.Machine.execForceOutWrite lane on s
  | .chkStart unit => Sys2Proof.Machine.execChkStart unit s
  | .chkData unit value => Sys2Proof.Machine.execChkData unit value s
  | .chkFinish unit alive => Sys2Proof.Machine.execChkFinish unit alive s
  | .chkResync unit => Sys2Proof.Machine.execChkResync unit s
  | .mapWindowWrite h addr words => Sys2Proof.Machine.execMapWindowWrite h addr words s
  | .liningWindowWrite h addr data => Sys2Proof.Machine.execLiningWindowWrite h addr data s
  | .guardImageWrite h addr data => Sys2Proof.Machine.execGuardImageWrite h addr data s
  | .faultMapWrite h addr data => Sys2Proof.Machine.execFaultMapWrite h addr data s
  | .txnIdleTimeout auth => Sys2Proof.Machine.execTxnIdleTimeout auth s
  | .replTimeout => Sys2Proof.Machine.execReplTimeout s
  | .fenceTimeout view slot => Sys2Proof.Machine.execFenceTimeout view slot s
  | .cuffOpen => Sys2Proof.Machine.execCuffOpen s
  | .flip misses => Sys2Proof.Machine.execFlip misses s
  | .flipSend => Sys2Proof.Machine.execFlipSend s
  | .flipRepeat => Sys2Proof.Machine.execFlipRepeat s
  | .scanOutBurst stalls => Sys2Proof.Machine.execScanOutBurst stalls s
  | .buildDone => Sys2Proof.Machine.execBuildDone s
  | .uploadDeadline => Sys2Proof.Machine.execUploadDeadline s
  | .sdiFrameStart input m => Sys2Proof.Machine.execSdiFrameStart input m s
  | .sdiLine input field line crcOk codes => Sys2Proof.Machine.execSdiLine input field line crcOk codes s
  | .sdiLock input rate => Sys2Proof.Machine.execSdiLock input rate s
  | .sdiLockLoss input => Sys2Proof.Machine.execSdiLockLoss input s
  | .st2110Packet port p => Sys2Proof.Machine.execSt2110Packet port p s
  | .frameComplete src m => Sys2Proof.Machine.execFrameComplete src m s
  | .sourceLossTimeout src => Sys2Proof.Machine.execSourceLossTimeout src s
  | .holdExpiry src => Sys2Proof.Machine.execHoldExpiry src s
  | .ethFrameRx port e => Sys2Proof.Machine.execEthFrameRx port e s
  | .txFrameStart port stored => Sys2Proof.Machine.execTxFrameStart port stored s
  | .txUnderrun port => Sys2Proof.Machine.execTxUnderrun port s
  | .segmentedSend port t => Sys2Proof.Machine.execSegmentedSend port t s
  | .linkDown port sub => Sys2Proof.Machine.execLinkDown port sub s
  | .linkUp port sub => Sys2Proof.Machine.execLinkUp port sub s
  | .fwEventService port => Sys2Proof.Machine.execFwEventService port s
  | .monitorPacket port flow => Sys2Proof.Machine.execMonitorPacket port flow s
  | .hello m b => Sys2Proof.Machine.execHello m b s
  | .helloAck m version => Sys2Proof.Machine.execHelloAck m version s
  | .helloSend port => Sys2Proof.Machine.execHelloSend port s
  | .helloTimeout port => Sys2Proof.Machine.execHelloTimeout port s
  | .helloFailExpiry port => Sys2Proof.Machine.execHelloFailExpiry port s
  | .segmentSilence port => Sys2Proof.Machine.execSegmentSilence port s
  | .enumerate m domain chain value step => Sys2Proof.Machine.execEnumerate m domain chain value step s
  | .tileInfo m x => Sys2Proof.Machine.execTileInfo m x s
  | .flipMessage m f => Sys2Proof.Machine.execFlipMessage m f s
  | .burstUnit port room b => Sys2Proof.Machine.execBurstUnit port room b s
  | .frameEnd m f => Sys2Proof.Machine.execFrameEnd m f s
  | .moduleTable m gen total first entries => Sys2Proof.Machine.execModuleTable m gen total first entries s
  | .mapGen m gen dueFlip => Sys2Proof.Machine.execMapGen m gen dueFlip s
  | .setMsg m b => Sys2Proof.Machine.execSetMsg m b s
  | .cmdMsg m segment => Sys2Proof.Machine.execCmdMsg m segment s
  | .cmdPartialTimeout src => Sys2Proof.Machine.execCmdPartialTimeout src s
  | .rspMsg m segment => Sys2Proof.Machine.execRspMsg m segment s
  | .ackMsg m seq status => Sys2Proof.Machine.execAckMsg m seq status s
  | .messageResend port seq => Sys2Proof.Machine.execMessageResend port seq s
  | .hatbandMessage m t kind id portMask => Sys2Proof.Machine.execHatbandMessage m t kind id portMask s
  | .timeInfo m tseq t1 t4 locked => Sys2Proof.Machine.execTimeInfo m tseq t1 t4 locked s
  | .timeBlock port tseq dir stamp => Sys2Proof.Machine.execTimeBlock port tseq dir stamp s
  | .timeRequest port => Sys2Proof.Machine.execTimeRequest port s
  | .barrierMessage m id => Sys2Proof.Machine.execBarrierMessage m id s
  | .barrierDone m id addr => Sys2Proof.Machine.execBarrierDone m id addr s
  | .snapshotMessage m t id content => Sys2Proof.Machine.execSnapshotMessage m t id content s
  | .snapshotDone m id addr status => Sys2Proof.Machine.execSnapshotDone m id addr status s
  | .resetMessage m t level cause id => Sys2Proof.Machine.execResetMessage m t level cause id s
  | .heartbeat m b => Sys2Proof.Machine.execHeartbeat m b s
  | .heartbeatSend => Sys2Proof.Machine.execHeartbeatSend s
  | .tileStatus m b => Sys2Proof.Machine.execTileStatus m b s
  | .tileStatusSend => Sys2Proof.Machine.execTileStatusSend s
  | .sessionTimeout session => Sys2Proof.Machine.execSessionTimeout session s
  | .faultMsg m f => Sys2Proof.Machine.execFaultMsg m f s
  | .faultAck m record => Sys2Proof.Machine.execFaultAck m record s
  | .faultResend record => Sys2Proof.Machine.execFaultResend record s
  | .ownUnitSend port => Sys2Proof.Machine.execOwnUnitSend port s
  | .abortBlock port relayed => Sys2Proof.Machine.execAbortBlock port relayed s
  | .blockError port relayed => Sys2Proof.Machine.execBlockError port relayed s
  | .knuckle port txSet rxOk wmin skew bip => Sys2Proof.Machine.execKnuckle port txSet rxOk wmin skew bip s
  | .laneLost lane hiBer skewed relayed => Sys2Proof.Machine.execLaneLost lane hiBer skewed relayed s
  | .laneTrained lane skew => Sys2Proof.Machine.execLaneTrained lane skew s
  | .txSetForm port => Sys2Proof.Machine.execTxSetForm port s
  | .adaptFreeze lane transitions codes => Sys2Proof.Machine.execAdaptFreeze lane transitions codes s
  | .recalTrigger training => Sys2Proof.Machine.execRecalTrigger training s
  | .recalApply lane offset => Sys2Proof.Machine.execRecalApply lane offset s
  | .eyeScan lane w h => Sys2Proof.Machine.execEyeScan lane w h s
  | .liningStageCheckDone => Sys2Proof.Machine.execLiningStageCheckDone s
  | .liningCopyDone => Sys2Proof.Machine.execLiningCopyDone s
  | .mapCopyDone => Sys2Proof.Machine.execMapCopyDone s
  | .visitStart misses => Sys2Proof.Machine.execVisitStart misses s
  | .returnFrame port header words crc => Sys2Proof.Machine.execReturnFrame port header words crc s
  | .returnTimeout port => Sys2Proof.Machine.execReturnTimeout port s
  | .absentPoll ctx => Sys2Proof.Machine.execAbsentPoll ctx s
  | .bankSupplyChange bank sensed => Sys2Proof.Machine.execBankSupplyChange bank sensed s
  | .roundStart => Sys2Proof.Machine.execRoundStart s
  | .probePeriodEnd => Sys2Proof.Machine.execProbePeriodEnd s
  | .sync port h origin => Sys2Proof.Machine.execSync port h origin s
  | .followUp port h origin => Sys2Proof.Machine.execFollowUp port h origin s
  | .delayReqSend dom => Sys2Proof.Machine.execDelayReqSend dom s
  | .delayResp port h receive mine => Sys2Proof.Machine.execDelayResp port h receive mine s
  | .announce port h a => Sys2Proof.Machine.execAnnounce port h a s
  | .announceTimeout dom => Sys2Proof.Machine.execAnnounceTimeout dom s
  | .revertTimer => Sys2Proof.Machine.execRevertTimer s
  | .ref1ppsEdge => Sys2Proof.Machine.execRef1ppsEdge s
  | .refLoss => Sys2Proof.Machine.execRefLoss s
  | .chainTimeLoss => Sys2Proof.Machine.execChainTimeLoss s
  | .scheduledActionDue => Sys2Proof.Machine.execScheduledActionDue s
  | .evtPulseStart out => Sys2Proof.Machine.execEvtPulseStart out s
  | .evtPulseEnd out => Sys2Proof.Machine.execEvtPulseEnd out s
  | .heartbeatDatagram d b => Sys2Proof.Machine.execHeartbeatDatagram d b s
  | .pathSilent path => Sys2Proof.Machine.execPathSilent path s
  | .partnerLost => Sys2Proof.Machine.execPartnerLost s
  | .preferredClaim => Sys2Proof.Machine.execPreferredClaim s
  | .repl d pos items => Sys2Proof.Machine.execRepl d pos items s
  | .replAck d pos eligible => Sys2Proof.Machine.execReplAck d pos eligible s
  | .replResend => Sys2Proof.Machine.execReplResend s
  | .snapData d slot offset data => Sys2Proof.Machine.execSnapData d slot offset data s
  | .snapAck d slot offset => Sys2Proof.Machine.execSnapAck d slot offset s
  | .vfcheck d b => Sys2Proof.Machine.execVfcheck d b s
  | .swapDatagram d op flip reason => Sys2Proof.Machine.execSwapDatagram d op flip reason s
  | .swapCommitTimeout => Sys2Proof.Machine.execSwapCommitTimeout s
  | .swapPeriod => Sys2Proof.Machine.execSwapPeriod s
  | .restoreDone => Sys2Proof.Machine.execRestoreDone s
  | .dramRequest rs => Sys2Proof.Machine.execDramRequest rs s
  | .eccWriteBack channel => Sys2Proof.Machine.execEccWriteBack channel s
  | .refreshDue channel blanking => Sys2Proof.Machine.execRefreshDue channel blanking s
  | .neighbourRefresh channel => Sys2Proof.Machine.execNeighbourRefresh channel s
  | .mr4Read channel rate => Sys2Proof.Machine.execMr4Read channel rate s
  | .driftMeasure channel drift step => Sys2Proof.Machine.execDriftMeasure channel drift step s
  | .retrain channel => Sys2Proof.Machine.execRetrain channel s
  | .retrainLate channel => Sys2Proof.Machine.execRetrainLate channel s
  | .selfRefreshEntry channel => Sys2Proof.Machine.execSelfRefreshEntry channel s
  | .dramTrainingDone failed results => Sys2Proof.Machine.execDramTrainingDone failed results s
  | .powerOn => Sys2Proof.Machine.execPowerOn s
  | .resetN lowNs role factoryEn => Sys2Proof.Machine.execResetN lowNs role factoryEn s
  | .supplyFault goodNs => Sys2Proof.Machine.execSupplyFault goodNs s
  | .watchdogExpiry proc => Sys2Proof.Machine.execWatchdogExpiry proc s
  | .testMode high => Sys2Proof.Machine.execTestMode high s
  | .resetRelease role factoryEn => Sys2Proof.Machine.execResetRelease role factoryEn s
  | .fusePassDone same => Sys2Proof.Machine.execFusePassDone same s
  | .startClocksStable bad => Sys2Proof.Machine.execStartClocksStable bad s
  | .slotSelection => Sys2Proof.Machine.execSlotSelection s
  | .processorReadyTimeout => Sys2Proof.Machine.execProcessorReadyTimeout s
  | .modeEntry => Sys2Proof.Machine.execModeEntry s
  | .startProven => Sys2Proof.Machine.execStartProven s
  | .warmRestartDone => Sys2Proof.Machine.execWarmRestartDone s
  | .blockRelease block => Sys2Proof.Machine.execBlockRelease block s
  | .pllUnlock pll => Sys2Proof.Machine.execPllUnlock pll s
  | .pllRelock pll => Sys2Proof.Machine.execPllRelock pll s
  | .refLost ref => Sys2Proof.Machine.execRefLost ref s
  | .dieConversion temps => Sys2Proof.Machine.execDieConversion temps s
  | .throttleStep => Sys2Proof.Machine.execThrottleStep s
  | .remoteTempConversion input v1 v2 ohms => Sys2Proof.Machine.execRemoteTempConversion input v1 v2 ohms s
  | .supvBlock input codes => Sys2Proof.Machine.execSupvBlock input codes s
  | .acFail => Sys2Proof.Machine.execAcFail s
  | .acDark => Sys2Proof.Machine.execAcDark s
  | .acClear => Sys2Proof.Machine.execAcClear s
  | .validExchangeLapse dom => Sys2Proof.Machine.execValidExchangeLapse dom s
  | .snapSend => Sys2Proof.Machine.execSnapSend s
  | .retrainDone channel delays eyeW eyeH skew => Sys2Proof.Machine.execRetrainDone channel delays eyeW eyeH skew s
  | .referenceReturn ref => Sys2Proof.Machine.execReferenceReturn ref s

end Sys2Proof.Machine
end

