-- ==== Sys2Proof/Machine/Frame.lean ====
section
/-! DEFINITION. Frames and forms: the parts of the state and what stays as it was, register fields that keep their values, and
the canonical form of the tables. -/

namespace Sys2Proof.Machine

/-! Frames -/

/-- The parts of the state, one for each field of State. -/
inductive Part where
  | pending | regs | fresh | cycles | wall | sent | gen | gnt | txn | cmd | flip | sched | link | map | repl | faults | rst
  | thm | fuses | nvm | boot | dram | chk | net0 | net1 | time | video | scan | lanes | tile | lamp | diag | snaps | red
  deriving DecidableEq, Repr

/-- A part of the state is the same before and after. -/
def Part.same (s t : State) : Part → Prop
  | .pending => t.pending = s.pending
  | .regs => t.regs = s.regs
  | .fresh => t.fresh = s.fresh
  | .cycles => t.cycles = s.cycles
  | .wall => t.wall = s.wall
  | .sent => t.sent = s.sent
  | .gen => t.gen = s.gen
  | .gnt => t.gnt = s.gnt
  | .txn => t.txn = s.txn
  | .cmd => t.cmd = s.cmd
  | .flip => t.flip = s.flip
  | .sched => t.sched = s.sched
  | .link => t.link = s.link
  | .map => t.map = s.map
  | .repl => t.repl = s.repl
  | .faults => t.faults = s.faults
  | .rst => t.rst = s.rst
  | .thm => t.thm = s.thm
  | .fuses => t.fuses = s.fuses
  | .nvm => t.nvm = s.nvm
  | .boot => t.boot = s.boot
  | .dram => t.dram = s.dram
  | .chk => t.chk = s.chk
  | .net0 => t.net0 = s.net0
  | .net1 => t.net1 = s.net1
  | .time => t.time = s.time
  | .video => t.video = s.video
  | .scan => t.scan = s.scan
  | .lanes => t.lanes = s.lanes
  | .tile => t.tile = s.tile
  | .lamp => t.lamp = s.lamp
  | .diag => t.diag = s.diag
  | .snaps => t.snaps = s.snaps
  | .red => t.red = s.red

/-- Nothing but the parts listed has changed. -/
def OnlyParts (ps : List Part) (s t : State) : Prop := ∀ p, p ∉ ps → p.same s t

/-- A field of a 32-bit word. -/
def Fld.ok (f : Fld) : Bool := decide (f.lo ≤ f.hi) && decide (f.hi ≤ 31)

/-- Two fields with no bit in common. -/
def Fld.apart (f g : Fld) : Bool := decide (f.addr ≠ g.addr) || decide (f.hi < g.lo) || decide (g.hi < f.lo)

/-- Every register field that has no bit in common with those listed reads as before; so no register bit outside them has
changed. -/
def OnlyFlds (fs : List Fld) (s t : State) : Prop :=
  ∀ g : Fld, g.ok = true → (∀ f ∈ fs, f.apart g = true) → t.fld g = s.fld g

/-! The canonical form -/

/-- Every sparse table of the state is in canonical form: keys strictly rising, and no entry equal to what an unlisted key
reads as. -/
def State.canon (s : State) : Prop :=
  Sparse.wf regReset s.regs = true ∧ Sparse.wf (fun _ => (0 : Word)) s.txn.fences = true ∧
  Sparse.wf mapReset s.map.active = true ∧ Sparse.wf mapReset s.map.staging = true ∧
  Sparse.wf (fun _ => ([] : List Byte)) s.dram.mem = true ∧ Sparse.wf storeReset s.tile.store = true

end Sys2Proof.Machine
end

