-- ==== Sys2Proof/Safety.lean ====
section
/-! DEFINITION. The terms in which claims are stated: when a command of host software passes its checks, and what it answers. -/

namespace Sys2Proof.Machine

/-! Commands of host software (R507, R510 to R513) -/

/-- Whether an output is a response. -/
def Output.isReply : Output → Bool
  | .reply _ _ _ => true
  | _ => false

/-- From `s` to `t` the device gives exactly one response: `r`, for the command of header `h`. -/
def Answers (s t : State) (h : Hdr) (op : Nat) (r : Reply) : Prop :=
  ∃ pre post, t.sent = s.sent ++ pre ++ Output.reply h op r :: post ∧ ∀ o ∈ pre ++ post, o.isReply = false

/-- From `s` to `t` the device gives the response `r`, whatever else it sends. -/
def Gives (s t : State) (h : Hdr) (op : Nat) (r : Reply) : Prop :=
  ∃ pre post, t.sent = s.sent ++ pre ++ Output.reply h op r :: post

/-- From `s` to `t` the device gives no response. -/
def Silent (s t : State) : Prop := ∃ post, t.sent = s.sent ++ post ∧ ∀ o ∈ post, o.isReply = false

/-- R509, R522: the allow list admits the source of a command. -/
def State.sourceOk (s : State) (via : Transport) : Bool :=
  match via with
  | .udp _ ip _ _ => s.allowed ip
  | _ => true

/-- R508 to R510, R516, R523: a command passes every check before its own. -/
def State.takes (s : State) (h : Hdr) (c : HostCmd) : Prop :=
  s.engineRuns = true ∧ s.reaches h.via = true ∧ s.transportOn h.via = true ∧
  (s.cmd.comm.isSome = true ∨ s.keylessTakes h.via (some c) = true) ∧ s.roleHas c = true ∧ answeredIn s.mode c = true ∧
  (h.auth = .gauntlet → generalOnly c = false) ∧ lengthOk c = true ∧
  (h.via = .hspi → s.hspiBusy = false ∧ s.cmd.held = none) ∧ s.sourceOk h.via = true

/-- R511, R512: a command that is no query passes every check, is the device's own to run, and waits for no other. -/
def State.runsNow (s : State) (h : Hdr) (c : HostCmd) : Prop :=
  s.takes h c ∧ (s.mode = .standby → standbyOwn c = true) ∧ (s.auth h.auth).queue = [] ∧ s.mayRun h.auth c = true

/-- R513: an action that runs now and whose number is higher than every action's before. -/
def State.newAction (s : State) (h : Hdr) (c : HostCmd) : Prop :=
  s.runsNow h c ∧ h.seq ≠ 0 ∧ (s.auth h.auth).maxAction < h.seq ∧ ∀ x ∈ (s.auth h.auth).actions, x.seq ≠ h.seq

/-- R513: an action's number and response stand in its authority's record. -/
def Recorded (t : State) (h : Hdr) (op : Nat) (r : Reply) : Prop :=
  (t.auth h.auth).maxAction = h.seq ∧ (⟨h.seq, h.crc, op, some r⟩ : ActionRec) ∈ (t.auth h.auth).actions

/-- The parts of the state that giving a response may change: the event of R508, what is sent or held or queued on a chain,
and the record of R513. -/
def answerParts : List Part := [.regs, .sent, .gen, .gnt, .cmd, .link]

/-- The transactions, the outcomes and the queue of each authority are the same before and after, and all else of the authority
that a header does not name. -/
def AuthsKeep (h : Hdr) (s t : State) : Prop :=
  (∀ a, (t.auth a).opened = (s.auth a).opened ∧ (t.auth a).lastSeq = (s.auth a).lastSeq ∧
    (t.auth a).outcomes = (s.auth a).outcomes ∧ (t.auth a).queue = (s.auth a).queue) ∧
  ∀ a, a ≠ h.auth → t.auth a = s.auth a

/-- R83: the register fields that tell of an authority's last completed number. -/
def lastResFlds (a : Auth) : List Fld :=
  [F.SYS_TXN_LAST_RES_STATUS (authIdx a), F.SYS_TXN_LAST_RES_LATE (authIdx a), F.SYS_TXN_LAST_RES_REPLICATED (authIdx a),
   F.SYS_TXN_LAST_RES_FAIL_INDEX (authIdx a)]

/-- R64: the register fields that tell of a commit that missed its Cuff. -/
def lateFlds : List Fld := [F.SYS_FLIP_EVT_LATE_GEN, F.SYS_FLIP_EVT_LATE_GNT, F.SYS_FLIP_CNT_LATE_COUNT, F.SYS_FLIP_EVT_SHADOW_LATE]

/-- R64, R66: `e` says where a commit that completes at `s` takes effect: at the next flip, or at the one after it where its Cuff has
opened; in the cycle after where no flip sequence runs. A tile that holds no FLIP for the flip does not know its time. -/
def State.takesEffect (s : State) (e : Effect) : Prop :=
  (s.sequenceRuns = true →
    let f := s.nextFlip
    let g := if s.cuffIsOpen f then f + 1 else f
    e.flip = some g ∧ e.late = s.cuffIsOpen f ∧ e.immediate = false ∧
      (s.tileRole = false ∨ (s.knownFlip g).isSome = true → e.sec = secOf (s.flipTime g) ∧ e.ns = nsOf (s.flipTime g))) ∧
  (s.sequenceRuns = false → e = ⟨none, secOf (s.wall + s.tickStep), nsOf (s.wall + s.tickStep), false, true⟩)

/-- From `s` to `t` the device gives exactly the response `r`, and changes nothing but what a response changes, the parts `ps`
and the register fields `fs`. -/
def AnswersOnly (s t : State) (h : Hdr) (op : Nat) (r : Reply) (ps : List Part) (fs : List Fld) : Prop :=
  Answers s t h op r ∧ OnlyParts (answerParts ++ ps) s t ∧ OnlyFlds (F.SYS_CMD_EVT_RSP_READY :: fs) s t

/-- The same, where the transactions and the queues of the authorities keep as they are. -/
def Replies (s t : State) (h : Hdr) (op : Nat) (r : Reply) (ps : List Part) (fs : List Fld) : Prop :=
  AnswersOnly s t h op r ps fs ∧ AuthsKeep h s t

/-- The same of an action, whose number and response are recorded. -/
def Acts (s t : State) (h : Hdr) (op : Nat) (r : Reply) (ps : List Part) (fs : List Fld) : Prop :=
  Replies s t h op r ps fs ∧ Recorded t h op r

/-- R428: from `s` to `t` nothing is answered, and `w` waits until the standby holds the replication stream as it stands at `t`. -/
def Awaits (s t : State) (w : Completion) : Prop :=
  Silent s t ∧ t.repl.waiting = s.repl.waiting ++ [⟨t.repl.pos, t.cycles, w⟩]

/-- The state after commands of which each answers a next state. -/
def State.after (s : State) : List Instr → Option State
  | [] => some s
  | i :: is => match exec i s with
    | .next t => t.after is
    | _ => none

/-! Bytes of the memories -/

/-- A byte of the pixel store (R310). -/
def State.storeByte (s : State) (b : Nat) : Byte := BitVec.ofNat 8 (s.half (storeAt b) / 2 ^ (8 * (b % 2)))

/-- A byte of external memory, by its address (R455, R457). -/
def State.memByte (s : State) (a : Nat) : Byte := (s.burstBytes (a / 64)).getD (a % 64) 0

/-- Every burst that a run of bytes meets has been written and has no latent error. -/
def State.memReady (s : State) (addr n : Nat) : Prop :=
  ∀ b, addr / 64 ≤ b → 64 * b < addr + n → s.badWords b = 0 ∧ (s.burstBytes b).length = 64

/-- The header and the command of the rows that are commands of host software. -/
def hostCmdOf : Instr → Option (Hdr × HostCmd)
  | .identify h => some (h, .identify)
  | .statusCmd h => some (h, .status)
  | .regRead h a n => some (h, .regRead a n)
  | .logRead h l f n => some (h, .logRead l f n)
  | .querySeq h sr q => some (h, .querySeq sr q)
  | .countersRead h p => some (h, .countersRead p)
  | .countersClear h p => some (h, .countersClear p)
  | .ptpMetadata h d => some (h, .ptpMetadata d)
  | .beginTxn h => some (h, .beginTxn)
  | .writeCmd h c => some (h, .write c)
  | .commitCmd h => some (h, .commit)
  | .rollback h => some (h, .rollback)
  | .commitAll h => some (h, .commitAll)
  | .memWrite h sp a d => some (h, .memWrite sp a d)
  | .memRead h sp a n => some (h, .memRead sp a n)
  | .fenceSignal h n v => some (h, .fenceSignal n v)
  | .hatbandCmd h t k i m => some (h, .hatband t k i m)
  | .snapshotCmd h t i k => some (h, .snapshot t i k)
  | .barrierCmd h i => some (h, .barrier i)
  | .wallReset h t l i => some (h, .wallReset t l i)
  | .restep h => some (h, .restep)
  | .swapCmd h => some (h, .swap)
  | .snapshotRead h i p o n => some (h, .snapshotRead i p o n)
  | .stageBegin h n => some (h, .stageBegin n)
  | .stageWrite h o d => some (h, .stageWrite o d)
  | .stageEnd h => some (h, .stageEnd)
  | .activate h t i => some (h, .activate t i)
  | .saveSettings h => some (h, .saveSettings)
  | .resetCmd h k f => some (h, .reset k f)
  | .commission h c => some (h, .commission c)
  | .tileCmd h t m o i => some (h, .tileCmd t m o i)
  | .factoryCommand h op d => some (h, .factory op d)
  | .mapWindowWrite h a ws => some (h, .write ⟨0xFFFF, a, 0, 0, ws⟩)
  | .liningWindowWrite h a d => some (h, .memWrite 0 a d)
  | .guardImageWrite h a d => some (h, .memWrite 0 a d)
  | .faultMapWrite h a d => some (h, .memWrite 0 a d)
  | _ => none

/-- R403: the commands that schedule an action at a time they name: the header, the opcode, the time and the action. -/
def scheduledBy : Instr → Option (Hdr × Nat × TimeField × SchedEntry)
  | .hatbandCmd h t k i m => if k = 1 then some (h, 0x0030, t, ⟨timeWall t, h.seq, .hatband k i m, false⟩) else none
  | .snapshotCmd h t i k => if k ≤ 31 then some (h, 0x0031, t, ⟨timeWall t, h.seq, .snapshot i k, false⟩) else none
  | .wallReset h t l i => if l = 1 ∨ l = 2 then some (h, 0x0033, t, ⟨timeWall t, h.seq, .reset l 0 i, false⟩) else none
  | .activate h t i => some (h, 0x0043, t, ⟨timeWall t, h.seq, .reset 2 1 i, false⟩)
  | _ => none

/-! Messages of Moltin Link (R220, R227, R228, R230, R253, R257) -/

/-- A message arrives on a port of the device whose segment is UP, and its CHECK matches. -/
def State.arrives (s : State) (m : MsgHdr) : Prop :=
  s.portList.contains m.port = true ∧ s.portUp m.port = true ∧ m.checkOk = true

/-- The device acts on a message: it is for the device, comes from no sender that the highest claim has replaced, and has not been
seen before. -/
def State.hears (s : State) (m : MsgHdr) : Prop :=
  s.arrives m ∧ s.isForMe m.dst = true ∧ s.wrongClaim m.src m.claimTag = false ∧ s.seenSeq m.src m.seq = false

/-- R257: what a tile relays of a message that it does not keep for itself alone. -/
def State.relayed (s : State) (m : MsgHdr) (b : LinkMsg) : List Output :=
  if s.relays m.dst && s.portUp (otherPort m.port) then [.relay (otherPort m.port) (.msg m.dst m.ackReq m.retry b)] else []

/-- From `s` to `t` the device posts a message on a port: a tile's waits among its own units, and a sender's leaves. -/
def Posts (s t : State) (p dst : Nat) (b : LinkMsg) : Prop :=
  (s.tileRole = true → ∃ pre tiles post, t.link.own = s.link.own ++ pre ++ (⟨p, dst, b, tiles⟩ : OwnUnit) :: post) ∧
  (s.tileRole = false → ∃ pre post, t.sent = s.sent ++ pre ++ Output.link p (.msg dst (asksAck b) false b) :: post)

/-- R230: from `s` to `t` a message that asks for it is acknowledged with a status. -/
def Acked (s t : State) (m : MsgHdr) (x : Status) : Prop :=
  m.ackReq = true → Posts s t m.port m.src (.ack m.seq x.code)

/-- The header and the payload of the rows that every filter of messages takes. -/
def carriedBy : Instr → Option (MsgHdr × LinkMsg)
  | .frameEnd m f => some (m, .frameEnd f)
  | .moduleTable m g n f es => some (m, .moduleTable g n f es)
  | .mapGen m g d => some (m, .mapGen g d)
  | .setMsg m b => some (m, .set b)
  | .cmdMsg m bs => some (m, .cmd bs m.more)
  | .rspMsg m bs => some (m, .rsp bs m.more)
  | .ackMsg m n x => some (m, .ack n x)
  | .hatbandMessage m t k i ps => some (m, .hatband t k i ps)
  | .barrierMessage m i => some (m, .barrier i)
  | .barrierDone m i a => some (m, .barrierDone i a)
  | .snapshotMessage m t i k => some (m, .snapshot t i k)
  | .snapshotDone m i a x => some (m, .snapshotDone i a x)
  | .resetMessage m t l k i => some (m, .reset t l k i)
  | .faultMsg m f => some (m, .fault f)
  | .faultAck m r => some (m, .faultAck r)
  | _ => none

/-! The partner of a sender (R426, R446) -/

/-- R426: a datagram counts: this sender runs and has a partner, the trailer is valid, and it names the other rank and this domain. -/
def State.pairs (s : State) (d : Dgram) : Prop :=
  s.senderRuns = true ∧ s.partnered = true ∧ d.good = true ∧ d.rank ≠ s.fld F.RED_STAT_RANK ∧ d.domain = s.fld F.MLK_CTL_DOMAIN

/-- R426: from `s` to `t` a datagram leaves on the port on which this sender speaks to its partner. -/
def TellsPartner (s t : State) (m : PartnerMsg) : Prop :=
  ∀ p, s.pathPort = some p → ∃ pre n post, t.sent = s.sent ++ pre ++ Output.partner p n m :: post

/-- R255: at `t` the fault log holds a record of a class and code of the device's own. -/
def State.logged (t : State) (cls code : Nat) : Prop := ∃ f ∈ t.faults.recs, f.addr = t.ownAddr ∧ f.cls = cls ∧ f.code = code

end Sys2Proof.Machine
end

