-- ==== Sys2Proof/Certificates/Slice0/Obligations.lean ====
section
/-! DEFINITION. The statements for the provers. Each names the rules of spec/ that it formalises; its clauses end in the next state
that exec answers, with what it holds and what it leaves unchanged. -/

open Sys2Proof Sys2Proof.Machine

/-- A step takes the command at the front of the queue and runs it on the state with the rest of the queue; on an empty queue one
CLK_TIME cycle passes (R391; the model's choice, notes/assumptions/1.md). -/
def Obligations.StepRunsFrontCommand : Prop :=
  (∀ (c : Instr) (s : State) (rest : List Instr), s.pending = c :: rest → step s = exec c { s with pending := rest }) ∧
  ∀ (s : State), s.pending = [] → ∃ t, step s = .next t ∧ t.cycles = s.cycles + 1 ∧ t.wall = s.wall + s.tickStep ∧ OnlyParts [.cycles, .wall] s t

/-- R31, R69, R478: what reset leaves: every register at its reset value, the mode BOOT, every fence 0, no transaction open, nothing
scheduled or waiting, and every table in canonical form. The straps, fuses, NVM and wall time of the reset state are the model's choice
(notes/assumptions/46.md) and are not claimed here. -/
def Obligations.ResetState : Prop :=
  (∀ a, State.reset.reg a = regReset a) ∧ State.reset.mode = .boot ∧ (∀ n, State.reset.fence n = 0) ∧
  (∀ a, (State.reset.auth a).opened = none ∧ (State.reset.auth a).queue = [] ∧ (State.reset.auth a).outcomes = []) ∧
  State.reset.sched = [] ∧ State.reset.pending = [] ∧ State.reset.sent = [] ∧ State.reset.canon

/-- R592: serial numbers. Value a is later than value b when (a − b) mod 2^32 lies in 1 to 2,147,483,647, and earlier when (b − a) mod
2^32 does; equal values are neither, and two that differ by 2^31 are neither: a fence keeps the value it holds, and a wait is not
satisfied. -/
def Obligations.SerialNumbersCompare : Prop :=
  ∀ a b : Nat, a < 2 ^ 32 → b < 2 ^ 32 →
    (laterSerial a b = true ↔ 1 ≤ (a + 2 ^ 32 - b) % 2 ^ 32 ∧ (a + 2 ^ 32 - b) % 2 ^ 32 ≤ 2147483647) ∧
    laterSerial a a = false ∧ ¬(laterSerial a b = true ∧ laterSerial b a = true) ∧
    ((a + 2147483648) % 2 ^ 32 = b → laterSerial a b = false ∧ laterSerial b a = false ∧
      ∀ (s : State) (n : Nat), s.fence n = BitVec.ofNat 32 a →
        s.signalFence n (BitVec.ofNat 32 b) = s ∧ s.fenceMet n (BitVec.ofNat 32 b) = false) ∧
    (a ≠ b → (a + 2147483648) % 2 ^ 32 ≠ b → laterSerial a b = true ∨ laterSerial b a = true)

/-- R506, R516: no command stops the block: each answers a next state, and leaves the queue of the commands that wait as it is. -/
def Obligations.EveryCommandAnswers : Prop := ∀ (i : Instr) (s : State), ∃ t, exec i s = .next t ∧ t.pending = s.pending

/-- R50, R189, R302, R457: a step keeps every table of the state in canonical form: the registers, the fences, both banks of the Module
Map, external memory and the pixel store hold their keys in rising order, and no entry equal to what an unlisted key reads as. -/
def Obligations.CanonKept : Prop := ∀ s t : State, step s = .next t → s.canon → t.canon

/-- R390, R482, R487: what no step takes back. Cycles are counted up; what the block has sent stays sent; a fuse once burned stays as it is,
but for the rollback count, which never falls. -/
def Obligations.HistoryKept : Prop :=
  ∀ s t : State, step s = .next t →
    s.cycles ≤ t.cycles ∧ (∃ more, t.sent = s.sent ++ more) ∧ s.fuses.rollback ≤ t.fuses.rollback ∧
    t.fuses = { s.fuses with rollback := t.fuses.rollback }

/-- R516, R514, R513: the queries about the device itself answer at once, with the values read, and change nothing else. -/
def Obligations.DeviceQueriesAnswer : Prop :=
  ∀ (s : State) (h : Hdr),
    (s.takes h .identify → ∃ t, exec (.identify h) s = .next t ∧
      Replies s t h 0x0001 (okReply (leBytes 4 (s.readReg 0).toNat ++ leBytes 4 (s.fld F.SYS_FW_VER_FW_VER) ++ leBytes 8 s.fuses.uid ++
        leBytes 1 s.mode.code ++ leBytes 1 (s.fld F.SYS_STRAP_ROLE) ++ leBytes 1 (s.fld F.SYS_MODE_MITTEN_REASON) ++ [0] ++
        leBytes 2 s.ownAddr ++ [0, 0])) [] []) ∧
    (s.takes h .status → ∃ t, exec (.statusCmd h) s = .next t ∧
      Replies s t h 0x0002 (okReply (wordBytes [s.readReg 0x8, s.readReg 0x100, s.readReg 0x10C, s.readReg 0x140004,
        s.readReg 0x320, s.readReg 0x328])) [] []) ∧
    (∀ log first count, s.takes h (.logRead log first count) → log ≤ 1 → 1 ≤ count → count ≤ 256 →
      ∃ t, exec (.logRead h log first count) s = .next t ∧
        ∃ recs total, (log = 0 → recs = s.faults.recs ∧ total = s.faults.total) ∧ (log = 1 → recs = s.nvm.log ∧ total = s.nvm.logTotal) ∧
        ∃ out, out = (recs.drop (max first (total - recs.length) - (total - recs.length))).take count ∧
        Replies s t h 0x0004 (okReply (leBytes 4 total ++ leBytes 4 (total - recs.length) ++ leBytes 2 out.length ++ [0, 0] ++
          out.flatMap faultBytes)) [] []) ∧
    (∀ dom t₀ tlv, s.takes h (.ptpMetadata dom) → dom ≤ 1 → (s.dom dom).metadata = some (t₀, tlv) →
      ∃ t, exec (.ptpMetadata h dom) s = .next t ∧
        Replies s t h 0x0008 (okReply (timeBytes t₀ ++ leBytes 2 tlv.length ++ [0, 0] ++ tlv)) [] []) ∧
    (∀ port, s.takes h (.countersRead port) → port ≤ 1 → ∃ t, exec (.countersRead h port) s = .next t ∧
      Replies s t h 0x0006 (okReply ((if port = 0 then s.net0 else s.net1).counters.flatMap (leBytes 4))) [] [])

/-- R11, R516: a register read answers its words where the address is aligned and the count is one to 16,384, and ERR_LEN with no
effect where the address is not aligned. -/
def Obligations.RegisterReadAnswers : Prop :=
  ∀ (s : State) (h : Hdr) (addr count : Nat), s.takes h (.regRead addr count) → 1 ≤ count → count ≤ 16384 →
    ∃ t, exec (.regRead h addr count) s = .next t ∧
      Replies s t h 0x0003 (if addr % 4 = 0
        then okReply (wordBytes ((List.range count).map (fun i => s.readReg ((addr + 4 * i) % 2 ^ 32))))
        else bareReply .errLen) [] []

/-- R514: QUERY_SEQ returns the outcome of a completed transaction number and the response of a recorded action, marked REPLAY, OK
with PENDING for a number that still runs, and ERR_SEQ for a number that is not held. -/
def Obligations.QuerySeqReturnsRecord : Prop :=
  ∀ (s : State) (h : Hdr) (series seq : Nat), s.takes h (.querySeq series seq) → series ≤ 1 →
    ∃ t r, exec (.querySeq h series seq) s = .next t ∧ Replies s t h 0x0005 r [] [F.SYS_CMD_EVT_SEQ_ERR] ∧
      (series = 0 → s.commitPending h.auth seq = true → r = pendingReply) ∧
      (series = 0 → s.commitPending h.auth seq = false →
        (∀ o ∈ (s.auth h.auth).outcomes, o.seq ≠ seq) → r = bareReply .errSeq) ∧
      (∀ o, series = 0 → s.commitPending h.auth seq = false → (s.auth h.auth).outcomes.find? (fun o => o.seq == seq) = some o →
        r.flags.replay = true ∧ (o.rolledBack = false → r.status = o.status ∧ r.flags.late = (o.late && decide (o.status = .ok))) ∧
        (o.rolledBack = true → r.status = .errState)) ∧
      (series = 1 → s.actionPending h.auth seq = true → r = pendingReply) ∧
      (series = 1 → s.actionPending h.auth seq = false → (∀ a ∈ (s.auth h.auth).actions, a.seq ≠ seq) → r = bareReply .errSeq) ∧
      (∀ a x, series = 1 → s.actionPending h.auth seq = false → (s.auth h.auth).actions.find? (fun a => a.seq == seq) = some a →
        a.reply = some x → r.status = x.status ∧ r.body = x.body ∧ r.flags = { x.flags with replay := true })

/-- R517: the queries of memory answer the bytes that stand there. A tile's window and a snapshot's part are read from what the
tile holds; a read of external memory that meets no uncorrectable error answers its bytes, and one that meets one ERR_MEM. -/
def Obligations.MemoryQueriesAnswer : Prop :=
  ∀ (s : State) (h : Hdr) (addr n : Nat), 1 ≤ n → n ≤ 65536 →
    (∀ w, s.takes h (.memRead 0 addr n) → s.tileRole = true → addr % 4 = 0 → n % 4 = 0 → windowOf addr n = some w →
      ∃ t, exec (.memRead h 0 addr n) s = .next t ∧ Replies s t h 0x0021 (okReply (s.storeBytes (s.windowAt w addr) n)) [] []) ∧
    (s.takes h (.memRead 1 addr n) → s.tileRole = false → addr + n ≤ s.bufferTop →
      s.memReady addr n →
      ∃ t, exec (.memRead h 1 addr n) s = .next t ∧
        Replies s t h 0x0021 (okReply ((List.range n).map (fun i => s.memByte (addr + i)))) [] []) ∧
    (s.takes h (.memRead 1 addr n) → s.tileRole = false → addr + n ≤ s.bufferTop → s.badWords (addr / 64) ≠ 0 →
      ∃ t, exec (.memRead h 1 addr n) s = .next t ∧ Gives s t h 0x0021 (bareReply .errMem)) ∧
    (∀ id part x bs, s.takes h (.snapshotRead id part addr n) → s.snaps.find? (fun y => y.id == id) = some x →
      x.parts.find? (fun p => p.1 == part) = some (part, bs) → addr + n ≤ bs.length →
      ∃ t, exec (.snapshotRead h id part addr n) s = .next t ∧
        Replies s t h 0x0036 (okReply ((bs.drop addr).take n)) [] [])

/-- R45, R48, R49: BEGIN opens a transaction and journals it. A WRITE that passes the checks of R49 within the limits of R48 joins
it and is journalled; one that fails a check leaves the transaction as it was but for its idle time. -/
def Obligations.TransactionOpensAndGrows : Prop :=
  ∀ (s : State) (h : Hdr),
    (s.runsNow h .beginTxn → (s.auth h.auth).opened = none → (s.auth h.auth).lastSeq < h.seq →
      (h.auth = .general → s.txn.shadow.changes = []) →
      ∃ t, exec (.beginTxn h) s = .next t ∧ AnswersOnly s t h 0x0010 (bareReply .ok) [.txn, .repl, .red] [] ∧
        t.auth h.auth = { s.auth h.auth with opened := some ⟨h.seq, secOf s.wall, nsOf s.wall, s.cycles, [], 60⟩, actions := (t.auth h.auth).actions } ∧
        (∀ a, a ≠ h.auth → t.auth a = s.auth a) ∧
        t.txn = { s.txn with journal := s.txn.journal ++ [.opened h.auth h.seq false (secOf s.wall) (nsOf s.wall)] }) ∧
    (∀ c t₀, s.runsNow h (.write c) → (s.auth h.auth).opened = some t₀ → t₀.seq = h.seq → 1 ≤ c.words.length →
      c.words.length ≤ 16384 → c.index = t₀.changes.length → (∀ x ∈ t₀.changes, x.index ≠ c.index) → s.changeFails h.auth c = none →
      t₀.changes.length + 1 ≤ 4096 → t₀.bytes + 28 + 4 * c.words.length ≤ 262144 →
      ∃ t, exec (.writeCmd h c) s = .next t ∧ AnswersOnly s t h 0x0011 (bareReply .ok) [.txn, .repl, .red] [] ∧
        t.auth h.auth = { s.auth h.auth with
          opened := some { t₀ with changes := t₀.changes ++ [c], bytes := t₀.bytes + 28 + 4 * c.words.length, lastCmd := s.cycles },
          actions := (t.auth h.auth).actions } ∧
        (∀ a, a ≠ h.auth → t.auth a = s.auth a) ∧
        t.txn = { s.txn with journal := s.txn.journal ++ [.change h.auth h.seq false c] }) ∧
    (∀ c t₀, s.runsNow h (.write c) → (s.auth h.auth).opened = some t₀ → t₀.seq = h.seq → 1 ≤ c.words.length →
      c.words.length ≤ 16384 → c.index = t₀.changes.length → (∀ x ∈ t₀.changes, x.index ≠ c.index) →
      (∃ e, s.changeFails h.auth c = some e ∨ (s.changeFails h.auth c = none ∧ e = Status.errCap ∧
        (4096 < t₀.changes.length + 1 ∨ 262144 < t₀.bytes + 28 + 4 * c.words.length))) →
      ∃ t e, exec (.writeCmd h c) s = .next t ∧ AnswersOnly s t h 0x0011 (bareReply e) [] [] ∧
        (s.changeFails h.auth c = some e ∨ (s.changeFails h.auth c = none ∧ e = .errCap)) ∧
        t.auth h.auth = { s.auth h.auth with opened := some { t₀ with lastCmd := s.cycles }, actions := (t.auth h.auth).actions } ∧
        (∀ a, a ≠ h.auth → t.auth a = s.auth a))

/-- R51, R52, R59: ROLLBACK, 10 s without a command and a COMMIT that fails validation all close the transaction with a ROLLBACK
record, complete its number with its outcome, and apply nothing. -/
def Obligations.TransactionClosesUnapplied : Prop :=
  ∀ (s : State) (a : Auth) (t₀ : OpenTxn), (s.auth a).opened = some t₀ →
    (∀ h, h.auth = a → s.runsNow h .rollback → t₀.seq = h.seq →
      ∃ t, exec (.rollback h) s = .next t ∧
        AnswersOnly s t h 0x0013 (bareReply .ok) [.txn, .repl, .red] (lastResFlds a) ∧
        t.auth a = { s.auth a with
          opened := none
          lastSeq := max (s.auth a).lastSeq t₀.seq
          outcomes := (⟨t₀.seq, .ok, true, 0, 0, 0xFFFF, false, false⟩ :: (s.auth a).outcomes).take 64
          actions := (t.auth h.auth).actions } ∧
        (∀ b, b ≠ a → t.auth b = s.auth b) ∧
        t.txn = { s.txn with journal := s.txn.journal ++ [.rollback a t₀.seq false .ok 0xFFFF] } ∧
        t.fld (F.SYS_TXN_LAST_RES_STATUS (authIdx a)) = 0) ∧
    (∃ t, exec (.txnIdleTimeout a) s = .next t ∧
        OnlyParts [.regs, .cycles, .wall, .sent, .gen, .gnt, .txn, .repl, .red] s t ∧
        OnlyFlds (lastResFlds a ++ [F.SYS_FLIP_EVT_TXN_IDLE]) s t ∧ Silent s t ∧
        t.cycles = max s.cycles (t₀.lastCmd + 5000000000) ∧
        t.auth a = { s.auth a with
          opened := none
          lastSeq := max (s.auth a).lastSeq t₀.seq
          outcomes := (⟨t₀.seq, .errTimeout, true, 0, 0, 0xFFFF, false, false⟩ :: (s.auth a).outcomes).take 64 } ∧
        (∀ b, b ≠ a → t.auth b = s.auth b) ∧
        t.txn = { s.txn with journal := s.txn.journal ++ [.rollback a t₀.seq false .errTimeout 0xFFFF] } ∧
        t.fld (F.SYS_TXN_LAST_RES_STATUS (authIdx a)) = 0x10 ∧ t.flag F.SYS_FLIP_EVT_TXN_IDLE = true) ∧
    (∀ h x fi u, h.auth = a → s.runsNow h .commit → t₀.seq = h.seq → (∀ o ∈ (s.auth a).outcomes, o.seq ≠ h.seq) →
      (s.judgeMap t₀.changes).2 = false → u = (s.judgeMap t₀.changes).1.noteMapFail t₀.changes → u.validate t₀.changes = some (x, fi) →
      ∃ t, exec (.commitCmd h) s = .next t ∧
        AnswersOnly s t h 0x0012 ⟨x, .none, commitReplyBody 0 0 fi⟩ [.txn, .repl, .red]
          (lastResFlds a ++ [F.SYS_FLIP_EVT_COMMIT_FAIL, F.CMP_MAP_STAGE_CHECK_CHECK, F.CMP_MAP_FAIL_VALID,
            F.CMP_MAP_FAIL_ENTRY]) ∧
        t.auth a = { s.auth a with
          opened := none
          lastSeq := max (s.auth a).lastSeq t₀.seq
          outcomes := (⟨t₀.seq, x, false, 0, 0, fi, false, false⟩ :: (s.auth a).outcomes).take 64
          actions := (t.auth h.auth).actions } ∧
        (∀ b, b ≠ a → t.auth b = s.auth b) ∧
        t.txn = { s.txn with journal := s.txn.journal ++ [.rollback a t₀.seq false x fi] } ∧
        t.flag F.SYS_FLIP_EVT_COMMIT_FAIL = true)

/-- R513: an action of a number that its authority's record holds, with the same CRC, returns the recorded response with REPLAY and has
no effect, and with another CRC ERR_CONFLICT; any other number that is not new returns ERR_SEQ. -/
def Obligations.ActionNumbersAreChecked : Prop :=
  ∀ (s : State) (i : Instr) (h : Hdr) (c : HostCmd), hostCmdOf i = some (h, c) → s.runsNow h c →
    kindOf (s.auth h.auth).opened.isSome c = .action → (∀ x, c = .write x → x.index = 0xFFFF ∧ (s.auth h.auth).opened = none) →
    (∀ x r, (s.auth h.auth).actions.find? (fun y => y.seq == h.seq) = some x → x.crc = h.crc → x.reply = some r → r.status ≠ .errSeq →
      ∃ t, exec i s = .next t ∧ Replies s t h (opcodeOf c) { r with flags := { r.flags with replay := true } } [] [] ∧
        (t.auth h.auth) = (s.auth h.auth)) ∧
    (∀ x, (s.auth h.auth).actions.find? (fun y => y.seq == h.seq) = some x → x.crc ≠ h.crc →
      ∃ t, exec i s = .next t ∧ Replies s t h (opcodeOf c) (bareReply .errConflict) [] [] ∧ t.auth h.auth = s.auth h.auth) ∧
    ((∀ x ∈ (s.auth h.auth).actions, x.seq ≠ h.seq) → h.seq = 0 ∨ h.seq ≤ (s.auth h.auth).maxAction →
      ∃ t, exec i s = .next t ∧ Replies s t h (opcodeOf c) (bareReply .errSeq) [] [F.SYS_CMD_EVT_SEQ_ERR] ∧
        t.auth h.auth = s.auth h.auth ∧ t.flag F.SYS_CMD_EVT_SEQ_ERR = true)

/-- R511, R512: a command that waits runs from the front of its authority's queue once it may, as it would have run on arrival with
nothing queued; a standby forwards what is the active's; and where the next command may not run yet, nothing happens. -/
def Obligations.QueuedCommandRuns : Prop :=
  ∀ (s : State) (a : Auth) (h : Hdr) (c : HostCmd) (rest : List (Hdr × HostCmd)), (s.auth a).queue = (h, c) :: rest →
    (s.engineRuns = true → s.mayRun a c = true → (s.mode = .standby → standbyOwn c = true) →
      exec (.commandDequeue a) s = .next ((s.setAuth a { s.auth a with queue := rest }).runCmd h c)) ∧
    (s.engineRuns = true → s.mayRun a c = true → s.mode = .standby → standbyOwn c = false →
      ∃ t, exec (.commandDequeue a) s = .next t ∧ OnlyParts [.gen, .gnt, .cmd, .sent] s t ∧
        (t.auth a).queue = rest ∧ t.cmd = { s.cmd with forwards := s.cmd.forwards ++ [⟨h, opcodeOf c, s.cycles⟩] } ∧
        t.sent = s.sent ++ [.forward (s.fld F.RED_PEER_IPV4) h c]) ∧
    (s.engineRuns = false ∨ s.mayRun a c = false → exec (.commandDequeue a) s = .next s)

/-- R57, R60, R62 to R66: a COMMIT that passes every check is journalled. On a device without a standby it completes at once: its
number's outcome is recorded and answered, and its changes wait for the flip that its completion chooses, or are applied at once
where no flip sequence runs. On a sender with a standby it waits for the acknowledgement. -/
def Obligations.CommitCompletes : Prop :=
  ∀ (s u : State) (h : Hdr) (t₀ : OpenTxn), (s.auth h.auth).opened = some t₀ → s.runsNow h .commit → t₀.seq = h.seq →
    (∀ o ∈ (s.auth h.auth).outcomes, o.seq ≠ h.seq) → (s.judgeMap t₀.changes).2 = false →
    u = (s.judgeMap t₀.changes).1.noteMapFail t₀.changes → u.validate t₀.changes = none →
    ∃ t e, exec (.commitCmd h) s = .next t ∧ s.takesEffect e ∧ (∀ a, a ≠ h.auth → t.auth a = s.auth a) ∧
      (s.hasStandby = true →
        Awaits s t (.commit ⟨h.auth, h.seq, false, t₀.changes, h, e⟩) ∧
        OnlyParts [.regs, .gen, .gnt, .txn, .repl, .red, .sent] s t ∧
        OnlyFlds [F.CMP_MAP_STAGE_CHECK_CHECK, F.CMP_MAP_FAIL_VALID, F.CMP_MAP_FAIL_ENTRY, F.CMP_MAP_STAT_PENDING] s t ∧
        t.auth h.auth = { s.auth h.auth with opened := none } ∧
        t.txn = { s.txn with journal := s.txn.journal ++ [.commit h.auth h.seq false e.sec e.ns t₀.changes.length e.late e.immediate] }) ∧
      (s.hasStandby = false →
        Gives s t h 0x0012 (commitReply e false) ∧
        t.auth h.auth = { s.auth h.auth with
          opened := none
          lastSeq := max (s.auth h.auth).lastSeq h.seq
          outcomes := (⟨h.seq, .ok, false, e.sec, e.ns, 0xFFFF, e.late, e.immediate⟩ :: (s.auth h.auth).outcomes).take 64
          actions := (t.auth h.auth).actions } ∧
        (∀ g, e.flip = some g →
          AnswersOnly s t h 0x0012 (commitReply e false) [.txn, .repl, .red, .fresh] (lastResFlds h.auth ++ lateFlds ++
            [F.CMP_MAP_STAGE_CHECK_CHECK, F.CMP_MAP_FAIL_VALID, F.CMP_MAP_FAIL_ENTRY, F.CMP_MAP_STAT_PENDING]) ∧
          t.txn = { s.txn with
            journal := s.txn.journal ++ [.commit h.auth h.seq false e.sec e.ns t₀.changes.length e.late e.immediate]
            accepted := s.txn.accepted ++ [⟨h.auth, h.seq, false, g, t₀.changes⟩]
            tileSettings := s.txn.tileSettings ++ (t₀.changes.filter (fun x => x.scope != 0)).map (fun x => (h.auth, h.seq, x)) }) ∧
        (e.flip = none → ∃ v,
          OnlyParts [.regs, .gen, .gnt, .txn, .repl, .red, .sent, .link] s v ∧
          OnlyFlds (lastResFlds h.auth ++ lateFlds ++
            [F.CMP_MAP_STAGE_CHECK_CHECK, F.CMP_MAP_FAIL_VALID, F.CMP_MAP_FAIL_ENTRY, F.CMP_MAP_STAT_PENDING]) s v ∧
          t = (v.applyChanges t₀.changes).respond h 0x0012 (commitReply e false)))

/-- R73, R75: COMMIT_ALL journals the whole shadow set as a transaction with the SHADOW flag, empties it and validates nothing; each
value that R57 would reject is mended as its chapter says; it completes as a commit does. -/
def Obligations.CommitAllPublishesShadow : Prop :=
  ∀ (s u : State) (h : Hdr), s.runsNow h .commitAll → h.auth = .general → s.gen.lastSeq < h.seq → s.gen.opened = none →
    (∀ o ∈ s.gen.outcomes, o.seq ≠ h.seq) → u = s.fixShadow.2.foldl State.event s → u.hasStandby = false →
    ∃ t e, exec (.commitAll h) s = .next t ∧ u.takesEffect e ∧ t.gnt = s.gnt ∧
      Gives s t h 0x0014 (commitReply e false) ∧
      t.gen = { s.gen with
        lastSeq := h.seq
        outcomes := (⟨h.seq, .ok, false, e.sec, e.ns, 0xFFFF, e.late, e.immediate⟩ :: s.gen.outcomes).take 64
        actions := t.gen.actions } ∧
      (∀ g, e.flip = some g →
        OnlyParts (answerParts ++ [.txn, .repl, .red, .fresh]) s t ∧
        t.txn = { s.txn with
          shadow := ⟨[], 0⟩
          journal := s.txn.journal ++ [.opened .general h.seq true (secOf s.wall) (nsOf s.wall)] ++
            s.fixShadow.1.map (fun c => .change .general h.seq true c) ++
            [.commit .general h.seq true e.sec e.ns s.fixShadow.1.length e.late e.immediate]
          accepted := s.txn.accepted ++ [⟨.general, h.seq, false, g, s.fixShadow.1⟩]
          tileSettings := s.txn.tileSettings ++
            (s.fixShadow.1.filter (fun x => x.scope != 0)).map (fun x => (.general, h.seq, x)) })

/-- R52: a COMMIT that repeats a completed number answers the recorded outcome with REPLAY and applies nothing. -/
def Obligations.RepeatedCommitReplays : Prop :=
  ∀ (s : State) (h : Hdr) (o : TxnOutcome), s.runsNow h .commit → (s.auth h.auth).outcomes.find? (fun x => x.seq == h.seq) = some o →
    o.status ≠ .errSeq →
    ∃ t r, exec (.commitCmd h) s = .next t ∧ Replies s t h 0x0012 r [] [] ∧ r.flags.replay = true ∧
      (o.rolledBack = true → r.status = .errState ∧ r.body = []) ∧
      (o.rolledBack = false → r.status = o.status ∧
        (o.status = .ok → r.flags.late = o.late ∧ r.flags.immediate = o.immediate ∧ r.body = commitReplyBody o.sec o.ns 0xFFFF) ∧
        (o.status ≠ .ok → r.body = commitReplyBody 0 0 o.failIndex))

/-- R69, R592: FENCE_SIGNAL moves its fence to a later value and leaves an earlier one; it leaves every other fence. It answers with
the value that the fence holds, on a sender with a standby once that holds the signal. General may not signal a Gauntlet fence. -/
def Obligations.FenceSignalMovesForward : Prop :=
  ∀ (s : State) (h : Hdr) (n : Nat) (v : Word), s.newAction h (.fenceSignal n v) → n ≤ 127 →
    (h.auth = .gauntlet ∨ n < 120 → ∃ t r, exec (.fenceSignal h n v) s = .next t ∧
      r = okReply (leBytes 4 (t.fence n).toNat) ∧
      (1 ≤ (v.toNat + 2 ^ 32 - (s.fence n).toNat) % 2 ^ 32 ∧ (v.toNat + 2 ^ 32 - (s.fence n).toNat) % 2 ^ 32 ≤ 2147483647 →
        t.fence n = v) ∧
      (¬(1 ≤ (v.toNat + 2 ^ 32 - (s.fence n).toNat) % 2 ^ 32 ∧ (v.toNat + 2 ^ 32 - (s.fence n).toNat) % 2 ^ 32 ≤ 2147483647) →
        t.fence n = s.fence n) ∧
      (∀ m, m ≠ n → t.fence m = s.fence m) ∧ t.txn = { s.txn with fences := t.txn.fences } ∧
      (s.hasStandby = false → Acts s t h 0x0022 r [.txn, .repl, .red] []) ∧
      (s.hasStandby = true → Awaits s t (.reply h 0x0022 r) ∧ OnlyParts [.gen, .gnt, .txn, .repl, .red, .sent] s t ∧ AuthsKeep h s t)) ∧
    (h.auth = .general → 120 ≤ n → ∃ t, exec (.fenceSignal h n v) s = .next t ∧ Acts s t h 0x0022 (bareReply .errAuth) [] [])

/-- R71: a fence wait that is still open at T0 plus the timeout ends without its change, and is reported. -/
def Obligations.FenceWaitTimesOut : Prop :=
  ∀ (s : State) (view slot : Nat) (x : FenceWait) (t₀ : Nat),
    s.txn.waits.find? (fun y => y.view == view && y.slot == slot) = some x → x.t0 = some t₀ → 0 < s.tickStep →
    ∃ t, exec (.fenceTimeout view slot) s = .next t ∧ OnlyParts [.regs, .cycles, .wall, .txn] s t ∧
      t₀ + ofUs (s.fld F.SYS_FENCE_TMO_TMO_US) ≤ t.wall ∧ t.flag F.SYS_FLIP_EVT_FENCE_TMO = true ∧
      OnlyFlds [F.SYS_FLIP_EVT_FENCE_TMO, F.SYS_FLIP_CNT_FENCE_TMO_COUNT] s t ∧
      t.fld F.SYS_FLIP_CNT_FENCE_TMO_COUNT = min (s.fld F.SYS_FLIP_CNT_FENCE_TMO_COUNT + 1) (2 ^ 16 - 1) ∧
      t.txn = { s.txn with waits := s.txn.waits.filter (fun y => !(y.view == view && y.slot == slot)) }

/-- R428, R461, R517: MEM_WRITE to external memory stores its bytes and no other; it answers at once on a sender without a standby,
and once the standby holds the bytes on one that has it. A General write that meets a Gauntlet buffer writes nothing. -/
def Obligations.MemoryWriteStoresBytes : Prop :=
  ∀ (s : State) (h : Hdr) (addr : Nat) (data : List Byte), s.newAction h (.memWrite 1 addr data) → s.tileRole = false →
    addr + data.length ≤ s.bufferTop →
    (s.memReady addr data.length → s.memWriteFails h.auth 1 addr data.length = none → ∃ t, exec (.memWrite h 1 addr data) s = .next t ∧
      (∀ a, t.memByte a = if addr ≤ a ∧ a < addr + data.length then data.getD (a - addr) 0 else s.memByte a) ∧
      (s.hasStandby = false → Acts s t h 0x0020 (bareReply .ok) [.dram, .repl, .red] []) ∧
      (s.hasStandby = true → Awaits s t (.reply h 0x0020 (bareReply .ok)) ∧
        OnlyParts [.gen, .gnt, .dram, .repl, .red, .sent] s t ∧ AuthsKeep h s t)) ∧
    (h.auth = .general → gauntletBuffer s.reg addr data.length = true → ∃ t, exec (.memWrite h 1 addr data) s = .next t ∧
      Acts s t h 0x0020 (bareReply .errAuth) [] [])

/-- R319, R321, R382: a write to a window of a tile is the right authority's alone, changes the bytes of its run and no other byte of the
pixel store, and starts the Lining's check again; it is refused while the Lining is being published, or a Guard Image is valid. -/
def Obligations.TileWindowWrites : Prop :=
  ∀ (s : State) (h : Hdr) (addr : Nat) (data : List Byte), s.newAction h (.memWrite 0 addr data) → s.tileRole = true →
    addr % 4 = 0 → data.length % 4 = 0 →
    (windowOf addr data.length = some .lining →
      (h.auth = .general → s.flag F.TIL_LINING_STAT_PENDING = false → s.flag F.TIL_LINING_STAT_COPY_BUSY = false →
        ∃ t, exec (.liningWindowWrite h addr data) s = .next t ∧
          Acts s t h 0x0020 (bareReply .ok) [.tile] [F.TIL_LINING_STAT_STAGE_BUSY] ∧ t.flag F.TIL_LINING_STAT_STAGE_BUSY = true ∧
          ∀ b, t.storeByte b = if s.windowAt .lining addr ≤ b ∧ b < s.windowAt .lining addr + data.length
            then data.getD (b - s.windowAt .lining addr) 0 else s.storeByte b) ∧
      (h.auth = .gauntlet → ∃ t, exec (.liningWindowWrite h addr data) s = .next t ∧ Acts s t h 0x0020 (bareReply .errAuth) [] []) ∧
      (h.auth = .general → s.flag F.TIL_LINING_STAT_PENDING = true ∨ s.flag F.TIL_LINING_STAT_COPY_BUSY = true →
        ∃ t, exec (.liningWindowWrite h addr data) s = .next t ∧ Acts s t h 0x0020 (bareReply .errState) [] [])) ∧
    (windowOf addr data.length = some .guard →
      (h.auth = .gauntlet → s.guardValid addr data.length = false →
        ∃ t, exec (.guardImageWrite h addr data) s = .next t ∧ Acts s t h 0x0020 (bareReply .ok) [.tile] [] ∧
          ∀ b, t.storeByte b = if s.windowAt .guard addr ≤ b ∧ b < s.windowAt .guard addr + data.length
            then (guardBytes data).getD (b - s.windowAt .guard addr) 0 else s.storeByte b) ∧
      (h.auth = .gauntlet → s.guardValid addr data.length = true →
        ∃ t, exec (.guardImageWrite h addr data) s = .next t ∧ Acts s t h 0x0020 (bareReply .errState) [] []) ∧
      (h.auth = .general → ∃ t, exec (.guardImageWrite h addr data) s = .next t ∧ Acts s t h 0x0020 (bareReply .errAuth) [] [])) ∧
    (windowOf addr data.length = some .faultMap → h.auth = .general →
      ∃ t, exec (.faultMapWrite h addr data) s = .next t ∧
        Acts s t h 0x0020 (bareReply .ok) [.tile, .diag] [F.LMB_DIAG_OPEN_LAMPS, F.LMB_DIAG_SHORT_LAMPS, F.LMB_DIAG_MASKED_LAMPS] ∧
        ∀ l, t.lampState l =
          if 4 * (addr - 0xF00000) ≤ l ∧ l < 4 * (addr - 0xF00000 + data.length) then
            (let v := (data.getD (l / 4 - (addr - 0xF00000)) 0).toNat / 4 ^ (l % 4) % 4
             if v = 0 ∨ v = 3 then v else s.lampState l)
          else s.lampState l)

/-- R193, R133, R428: a direct write to the Module Map window replaces the words of the staging bank that it covers, reserved bits at 0,
and no other word of either bank; it is refused while a publication runs. COUNTERS_CLEAR clears the counters of its port alone. -/
def Obligations.MapWindowAndCounters : Prop :=
  ∀ (s : State) (h : Hdr),
    (∀ addr ws, s.newAction h (.write ⟨0xFFFF, addr, 0, 0, ws⟩) → (s.auth h.auth).opened = none → s.tileRole = false → addr % 4 = 0 →
      0x400000 ≤ addr → addr + 4 * ws.length ≤ 0x600000 → 1 ≤ ws.length → ws.length ≤ 16384 → h.auth = .general →
      (s.flag F.CMP_MAP_STAT_PENDING = false → s.flag F.CMP_MAP_STAT_COPY_BUSY = false →
        ∃ t, exec (.mapWindowWrite h addr ws) s = .next t ∧ t.map.active = s.map.active ∧
          (∀ k, Sparse.get mapReset t.map.staging k =
            if (addr - 0x400000) / 4 ≤ k ∧ k < (addr - 0x400000) / 4 + ws.length
            then ws.getD (k - (addr - 0x400000) / 4) 0 &&& mapMask k else Sparse.get mapReset s.map.staging k) ∧
          (s.hasStandby = false → Acts s t h 0x0011 (bareReply .ok) [.map, .repl, .red] []) ∧
          (s.hasStandby = true → Awaits s t (.reply h 0x0011 (bareReply .ok)) ∧
            OnlyParts [.gen, .gnt, .map, .repl, .red, .sent] s t ∧ AuthsKeep h s t)) ∧
      (s.flag F.CMP_MAP_STAT_PENDING = true ∨ s.flag F.CMP_MAP_STAT_COPY_BUSY = true →
        ∃ t, exec (.mapWindowWrite h addr ws) s = .next t ∧ Acts s t h 0x0011 (bareReply .errState) [] [])) ∧
    (∀ port, s.newAction h (.countersClear port) → port ≤ 1 →
      ∃ t, exec (.countersClear h port) s = .next t ∧
        Acts s t h 0x0007 (bareReply .ok) [if port = 0 then .net0 else .net1] [] ∧
        t.net port = { s.net port with counters := List.replicate 16 0 })

/-- R12, R43, R73, R515: a direct WRITE of one register. Bits that belong to the other authority are not written; a 1 clears a W1C bit at
once and changes nothing else of the register; a register of RWS bits enters the shadow set with SHADOW_EN at 1 and is refused with it
at 0. -/
def Obligations.DirectWriteByAccess : Prop :=
  ∀ (s : State) (h : Hdr) (a : Nat) (w : Word), s.newAction h (.write ⟨0xFFFF, a, 0, 0, [w]⟩) → (s.auth h.auth).opened = none →
    s.directFails ⟨0xFFFF, a, 0, 0, [w]⟩ = none → inWindow s.tileRole ⟨0xFFFF, a, 0, 0, [w]⟩ = false →
    (notOwner h.auth a = true → s.writable a ≠ 0 → ∃ t, exec (.writeCmd h ⟨0xFFFF, a, 0, 0, [w]⟩) s = .next t ∧
      Acts s t h 0x0011 (bareReply .errAuth) [] []) ∧
    (notOwner h.auth a = false →
      (s.rwBits a = 0 → s.rwsBits a = 0 → s.bitsOf (· == .wo) a = 0 →
        ∃ t, exec (.writeCmd h ⟨0xFFFF, a, 0, 0, [w]⟩) s = .next t ∧ Acts s t h 0x0011 (bareReply .ok) [] [⟨a, 31, 0⟩] ∧
          (a ≠ F.SYS_CMD_EVT_RSP_READY.addr → t.reg a = s.reg a &&& ~~~(s.bitsOf (· == .w1c) a &&& w))) ∧
      (s.rwsBits a ≠ 0 → s.localRun ⟨0xFFFF, a, 0, 0, [w]⟩ = false → s.flag F.SYS_COMPAT_SHADOW_EN = false →
        ∃ t, exec (.writeCmd h ⟨0xFFFF, a, 0, 0, [w]⟩) s = .next t ∧ Acts s t h 0x0011 (bareReply .errState) [] []) ∧
      (s.rwsBits a ≠ 0 → s.localRun ⟨0xFFFF, a, 0, 0, [w]⟩ = false → s.flag F.SYS_COMPAT_SHADOW_EN = true → h.auth = .general →
        accessFails s.tileRole a w = false →
        limitFails s.txn.shadow.changes.length (if s.txn.shadow.changes = [] then 60 else s.txn.shadow.bytes) ⟨0xFFFF, a, 0, 0, [w]⟩ = false →
        ∃ t, exec (.writeCmd h ⟨0xFFFF, a, 0, 0, [w]⟩) s = .next t ∧ Acts s t h 0x0011 (bareReply .ok) [.txn] [] ∧
          t.txn = { s.txn with shadow := t.txn.shadow } ∧ t.txn.shadow.changes = s.txn.shadow.changes ++ [⟨0xFFFF, a, 0, 0, [w]⟩]))

/-- R12, R73, R74: a write of one register word does what the direct WRITE does, and answers nothing. SHADOW_EN at 0 discards the shadow
set. -/
def Obligations.RegisterWritesByAccess : Prop :=
  ∀ (s : State), s.takesWrites = true →
    (∀ auth a w, s.directFails ⟨0xFFFF, a, 0, 0, [w]⟩ = none → inWindow s.tileRole ⟨0xFFFF, a, 0, 0, [w]⟩ = false →
      (notOwner auth a = true → s.writable a ≠ 0 → exec (.registerWrite auth a w) s = .next s) ∧
      (notOwner auth a = false → s.rwBits a = 0 → s.rwsBits a = 0 → s.bitsOf (· == .wo) a = 0 →
        ∃ t, exec (.registerWrite auth a w) s = .next t ∧ OnlyParts [.regs] s t ∧
          t.reg a = s.reg a &&& ~~~(s.bitsOf (· == .w1c) a &&& w) ∧ ∀ b, b ≠ a → t.reg b = s.reg b)) ∧
    (s.flag F.SYS_COMPAT_SHADOW_EN = true → ∃ t, exec .shadowEnClear s = .next t ∧ t.flag F.SYS_COMPAT_SHADOW_EN = false ∧
      t.txn.shadow = ⟨[], 0⟩ ∧ t.txn.fences = s.txn.fences)

/-- R137, R392, R474, R545: the writes that ask a unit to act. PTP_CAP_CTL captures wall time as it stands 4 cycles on; a clear of the
log of uncorrectable errors empties it; TX_START loads CUR_THRESH too; a reset requested of an idle block holds it in reset and leaves the
registers of other blocks, and one requested of a block that is not idle sets BLK_NOT_IDLE and resets nothing. -/
def Obligations.RequestsAct : Prop :=
  ∀ (s : State),
    (∃ t, exec .ptpCapture s = .next t ∧ OnlyParts [.regs, .cycles, .wall] s t ∧
      OnlyFlds [F.PTP_CAP_SEC_HI_SEC, F.PTP_CAP_SEC_LO_SEC, F.PTP_CAP_NS_NS, F.PTP_CAP_FRAC_FRAC] s t ∧
      t.cycles = s.cycles + 4 ∧ t.wall = s.wall + 4 * s.tickStep ∧ t.fld F.PTP_CAP_SEC_LO_SEC = secOf t.wall % 2 ^ 32 ∧
      t.fld F.PTP_CAP_SEC_HI_SEC = secOf t.wall / 2 ^ 32 % 2 ^ 32 ∧ t.fld F.PTP_CAP_NS_NS = nsOf t.wall ∧
      t.fld F.PTP_CAP_FRAC_FRAC = fracOf t.wall) ∧
    (∃ t, exec .ueLogClear s = .next t ∧ OnlyParts [.regs] s t ∧ t.fld F.DRC_UE_LOG_STAT_LEVEL = 0 ∧
      (∀ a, 0x301000 ≤ a → a < 0x301400 → t.reg a = regReset a) ∧
      ∀ a, a < 0x301000 ∨ 0x301400 ≤ a → a ≠ F.DRC_UE_LOG_STAT_LEVEL.addr → t.reg a = s.reg a) ∧
    (∀ p v, s.senderRole = true → p < 2 → v < 32 → ∃ t, exec (.txStartWrite p v) s = .next t ∧ OnlyParts [.regs] s t ∧
      OnlyFlds [F.NET_CTL_TX_START p, F.NET_STAT_CUR_THRESH p] s t ∧
      t.fld (F.NET_CTL_TX_START p) = clampStart v ∧ t.fld (F.NET_STAT_CUR_THRESH p) = clampStart v) ∧
    (∀ b, b < 8 → s.takesWrites = true → s.blockHeld b = false → s.roleHeld b = true ∨ s.blockIdle b = false →
      ∃ t, exec (.blockResetRequest (2 ^ b)) s = .next t ∧ OnlyParts [.regs] s t ∧ t.flag F.RST_EVT_BLK_NOT_IDLE = true ∧
        OnlyFlds [F.RST_EVT_BLK_NOT_IDLE] s t) ∧
    (∀ b, b < 8 → s.takesWrites = true → s.blockHeld b = false → s.roleHeld b = false → s.blockIdle b = true →
      ∃ t, exec (.blockResetRequest (2 ^ b)) s = .next t ∧ t.rst.restarts = (s.rst.restarts + 1) % 65536 ∧
        t.rst.blocks = s.rst.blocks.filter (fun x => x.block != b) ++ [⟨b, s.cycles⟩] ∧ t.bit F.RST_CAUSE_SRC 0x0D = true ∧
        ∀ a, a < (blockRange b).1 ∨ (blockRange b).2 ≤ a → a ≠ F.RST_CAUSE_SRC.addr → t.reg a = s.reg a)

/-- R533, R534, R535, R536: the operations of a check unit. START latches the configuration and opens the unit, or reports one that it
refuses; DATA feeds its bytes into an open unit; FINISH forms the result, compares it with EXPECT and closes the unit; DATA and FINISH
without START are reported; RESYNC makes the next FINISH report FIRST. -/
def Obligations.CheckUnitOperations : Prop :=
  ∀ (s : State) (n : Nat), n < 8 →
    (s.chkCfgFails n = false → ∃ t, exec (.chkStart n) s = .next t ∧ OnlyParts [.regs, .chk] s t ∧ OnlyFlds [F.CHK_U_STAT_OPEN n] s t ∧
      t.flag (F.CHK_U_STAT_OPEN n) = true ∧ (t.chkUnit n).params = s.chkParams n ∧ (t.chkUnit n).acc = crcStart (s.chkParams n) ∧
      (t.chkUnit n).compare = s.flag (F.CHK_U_CFG_CMP_EN n) ∧ (t.chkUnit n).aliveW = s.fld (F.CHK_U_CFG_ALIVE_W n) ∧
      ∀ m, m ≠ n → t.chkUnit m = s.chkUnit m) ∧
    (s.chkCfgFails n = true → ∃ t, exec (.chkStart n) s = .next t ∧ OnlyParts [.regs] s t ∧
      OnlyFlds [F.CHK_U_STAT_OPEN n, F.CHK_U_EVT_CFG_ERR n] s t ∧ t.flag (F.CHK_U_STAT_OPEN n) = false ∧
      t.flag (F.CHK_U_EVT_CFG_ERR n) = true) ∧
    (∀ v, (s.flag (F.CHK_U_STAT_OPEN n) = true → ∃ t, exec (.chkData n v) s = .next t ∧ OnlyParts [.chk] s t ∧
        t.chkUnit n = { s.chkUnit n with acc := crcFeed (s.chkUnit n).params (s.chkUnit n).acc (leBytes (s.fld (F.CHK_U_CFG_BYTES_M1 n) + 1) v.toNat) } ∧
        ∀ m, m ≠ n → t.chkUnit m = s.chkUnit m) ∧
      (s.flag (F.CHK_U_STAT_OPEN n) = false → ∃ t, exec (.chkData n v) s = .next t ∧ OnlyParts [.regs] s t ∧
        OnlyFlds [F.CHK_U_EVT_NOT_STARTED n] s t ∧ t.flag (F.CHK_U_EVT_NOT_STARTED n) = true)) ∧
    (∀ alive, (s.flag (F.CHK_U_STAT_OPEN n) = false → ∃ t, exec (.chkFinish n alive) s = .next t ∧ OnlyParts [.regs] s t ∧
        OnlyFlds [F.CHK_U_EVT_NOT_STARTED n] s t ∧ t.flag (F.CHK_U_EVT_NOT_STARTED n) = true) ∧
      (s.flag (F.CHK_U_STAT_OPEN n) = true → ∃ t r, exec (.chkFinish n alive) s = .next t ∧ OnlyParts [.regs, .chk] s t ∧
        r = crcFinish (s.chkUnit n).params (s.chkUnit n).acc ∧ t.flag (F.CHK_U_STAT_OPEN n) = false ∧
        t.fld (F.CHK_U_RES_LO_RESULT n) = r % 2 ^ 32 ∧ t.fld (F.CHK_U_RES_HI_RESULT n) = r / 2 ^ 32 % 2 ^ 32 ∧
        t.fld (F.CHK_U_STAT_ALIVE_RES n) =
          (judgeAlive (s.chkUnit n).aliveW (s.chkUnit n).first alive (s.fld (F.CHK_U_STAT_LAST_ALIVE n))).code ∧
        ((s.chkUnit n).compare = true → t.flag (F.CHK_U_STAT_MATCH n) =
          decide (r = (s.fld (F.CHK_U_EXP_LO_EXPECT n) + 2 ^ 32 * s.fld (F.CHK_U_EXP_HI_EXPECT n)) % 2 ^ (s.chkUnit n).params.width)) ∧
        OnlyFlds [F.CHK_U_STAT_OPEN n, F.CHK_U_RES_LO_RESULT n, F.CHK_U_RES_HI_RESULT n, F.CHK_U_STAT_ALIVE_RES n, F.CHK_U_STAT_LAST_ALIVE n,
          F.CHK_U_STAT_MATCH n, F.CHK_U_EVT_MISMATCH n, F.CHK_U_CNT_MISMATCH_COUNT n, F.CHK_U_EVT_REPEAT n, F.CHK_U_EVT_SKIP n,
          F.CHK_U_EVT_STALE n, F.CHK_U_CNT_ALIVE_ERR_COUNT n] s t)) ∧
    (∃ t, exec (.chkResync n) s = .next t ∧ OnlyParts [.chk] s t ∧ t.chkUnit n = { s.chkUnit n with first := true } ∧
      ∀ m, m ≠ n → t.chkUnit m = s.chkUnit m)

/-- R528, R533, R536: a check from START over any DATA words to FINISH gives the check value of all their bytes in order, whatever the unit
held before. -/
def Obligations.CheckCoversAllBytes : Prop :=
  ∀ (s : State) (n alive : Nat) (ws : List Word), n < 8 → s.chkCfgFails n = false →
    ∃ t r, s.after (.chkStart n :: ws.map (.chkData n) ++ [.chkFinish n alive]) = some t ∧
      r = crcFinish (s.chkParams n) (crcFeed (s.chkParams n) (crcStart (s.chkParams n))
        (ws.flatMap (fun w => leBytes (s.fld (F.CHK_U_CFG_BYTES_M1 n) + 1) w.toNat))) ∧
      t.fld (F.CHK_U_RES_LO_RESULT n) = r % 2 ^ 32 ∧ t.fld (F.CHK_U_RES_HI_RESULT n) = r / 2 ^ 32 % 2 ^ 32 ∧
      t.flag (F.CHK_U_STAT_OPEN n) = false

/-- R294, R295, R296: PRBS_EN and FORCE_OUT are written as asked; setting PRBS_EN clears the lane's counts; a lane that is IN_SET is then
lost, and one whose tests are both clear trains again. -/
def Obligations.LaneTestWrites : Prop :=
  ∀ (s : State) (n : Nat), s.hasLane n = true →
    (s.laneOfPort n = none → ∃ t, exec (.prbsEnWrite n false) s = .next t ∧ OnlyParts [.regs] s t ∧
      OnlyFlds [F.SER_LANE_CTL_PRBS_EN n] s t ∧ t.flag (F.SER_LANE_CTL_PRBS_EN n) = false) ∧
    (s.laneOfPort n = none → ∀ on, ∃ t, exec (.forceOutWrite n on) s = .next t ∧ OnlyParts [.regs] s t ∧
      OnlyFlds [F.SER_LANE_CTL_FORCE_OUT n] s t ∧ t.flag (F.SER_LANE_CTL_FORCE_OUT n) = on) ∧
    (∀ p, s.laneOfPort n = some p → s.laneMode n = 3 → (∃ l, l < 4 ∧ 4 * p + l ≠ n ∧ s.laneMode (4 * p + l) = 3) →
      (∃ t, exec (.prbsEnWrite n true) s = .next t ∧ OnlyParts [.regs, .lanes] s t ∧ t.flag (F.SER_LANE_CTL_PRBS_EN n) = true ∧
        t.fld (F.SER_LANE_PRBS_ERR_ERR_BITS n) = 0 ∧ t.fld (F.SER_LANE_PRBS_BITS_BITS_2E20 n) = 0 ∧ t.laneMode n = 4 ∧
        t.flag F.SER_EVT_LANE_LOST = true ∧ t.flag (F.SER_LANE_EVT_LOST n) = true) ∧
      (∃ t, exec (.forceOutWrite n true) s = .next t ∧ OnlyParts [.regs, .lanes] s t ∧ t.flag (F.SER_LANE_CTL_FORCE_OUT n) = true ∧
        t.laneMode n = 4 ∧ t.flag F.SER_EVT_LANE_LOST = true ∧ t.flag (F.SER_LANE_EVT_LOST n) = true)) ∧
    (∀ p, s.laneOfPort n = some p → s.laneMode n ≠ 0 → laneIn (s.configured p) (n % 4) = true →
      (s.flag (F.SER_LANE_CTL_FORCE_OUT n) = false → ∃ t, exec (.prbsEnWrite n false) s = .next t ∧ OnlyParts [.regs, .lanes] s t ∧
        OnlyFlds [F.SER_LANE_CTL_PRBS_EN n, F.SER_LANE_STAT_STATE n] s t ∧ t.flag (F.SER_LANE_CTL_PRBS_EN n) = false ∧ t.laneMode n = 1) ∧
      (s.flag (F.SER_LANE_CTL_PRBS_EN n) = false → ∃ t, exec (.forceOutWrite n false) s = .next t ∧ OnlyParts [.regs, .lanes] s t ∧
        OnlyFlds [F.SER_LANE_CTL_FORCE_OUT n, F.SER_LANE_STAT_STATE n] s t ∧ t.flag (F.SER_LANE_CTL_FORCE_OUT n) = false ∧ t.laneMode n = 1))

/-- R508: the host SPI port. STAT_READ gives the status byte and clears FRAME_ERR; RSP_READ gives the response's length and its bytes, and
frees it once all of them are read; any other instruction, and a packet while a command or a response is there, is FRAME_ERR. -/
def Obligations.HostSpiPort : Prop :=
  ∀ (s : State), s.engineRuns = true →
    (∃ t, exec .statRead s = .next t ∧ OnlyParts [.cmd, .sent] s t ∧ t.cmd = { s.cmd with frameErr := false } ∧
      t.sent = s.sent ++ [.spi [BitVec.ofNat 8 (s.cmd.held.isSome.toNat + 2 * s.hspiBusy.toNat + 4 * s.cmd.frameErr.toNat)]]) ∧
    (∀ n, s.cmd.held = none → ∃ t, exec (.rspRead n) s = .next t ∧ OnlyParts [.sent] s t ∧ t.sent = s.sent ++ [.spi [0, 0, 0, 0]]) ∧
    (∀ n r, s.cmd.held = some r → ∃ t, exec (.rspRead n) s = .next t ∧ OnlyParts [.cmd, .sent] s t ∧
      t.sent = s.sent ++ [.spi (leBytes 4 r.length ++ r.take n)] ∧
      t.cmd = { s.cmd with held := if r.length ≤ n then none else some r }) ∧
    (∃ t, exec .hspiBadInstruction s = .next t ∧ OnlyParts [.regs, .cmd] s t ∧ t.cmd = { s.cmd with frameErr := true } ∧
      OnlyFlds [F.SYS_CMD_EVT_FRAME_ERR, F.SYS_CMD_CNT0_FRAME_ERR_COUNT] s t ∧ t.flag F.SYS_CMD_EVT_FRAME_ERR = true ∧
      t.fld F.SYS_CMD_CNT0_FRAME_ERR_COUNT = min (s.fld F.SYS_CMD_CNT0_FRAME_ERR_COUNT + 1) 65535) ∧
    (∀ bs, s.hspiBusy = true ∨ s.cmd.held.isSome = true ∨ s.framed bs = false ∨ crcGood bs = false →
      ∃ t, exec (.pktWrite bs) s = .next t ∧ OnlyParts [.regs, .cmd] s t ∧ t.cmd = { s.cmd with frameErr := true } ∧
        OnlyFlds [F.SYS_CMD_EVT_FRAME_ERR, F.SYS_CMD_CNT0_FRAME_ERR_COUNT] s t ∧ t.flag F.SYS_CMD_EVT_FRAME_ERR = true ∧
        t.fld F.SYS_CMD_CNT0_FRAME_ERR_COUNT = min (s.fld F.SYS_CMD_CNT0_FRAME_ERR_COUNT + 1) 65535)

/-- R508, R509, R510: a packet that is whole and good does what the command that it spells does, whether it comes over the host SPI port or as
one UDP segment. -/
def Obligations.PacketIsItsCommand : Prop :=
  ∀ (s : State) (a : Auth) (bs : List Byte) (c : HostCmd) (i : Instr), s.framed bs = true → crcGood bs = true → authOf (leAt bs 5 1) = some a →
    s.cmd.comm.isSome = true → s.tagGood a bs = true → fieldsGood bs = true →
    readPayload (leAt bs 2 2) (sub bs 16 (leAt bs 10 3)) = some c →
    (hostCmdOf i = some (packetHdr a .hspi bs, c) → exec (.pktWrite bs) s = exec i s) ∧
    (∀ port ip up xid, hostCmdOf i = some (packetHdr a (.udp port ip up xid) bs, c) → s.allowed ip = true → xid < 2 ^ 32 →
      bs.length ≤ 8192 → s.cmd.assemblies = [] →
      exec (.udpSegment port ip up (leBytes 4 xid ++ [0, 1, 0, 0] ++ bs)) s = exec i s)

/-- R509: segments. One that breaks the rules of a segment is dropped with UDP_DROP; a first segment of several opens an assembly; a segment
that its assembly holds already is ignored; and a partial packet is discarded 10 ms after its last segment. -/
def Obligations.UdpSegmentsAssemble : Prop :=
  ∀ (s : State) (port ip up : Nat) (bs : List Byte), s.engineRuns = true → s.reaches (.udp port ip up (leAt bs 0 4)) = true →
    (s.segmentDropped ip bs = true → ∃ t, exec (.udpSegment port ip up bs) s = .next t ∧ OnlyParts [.regs] s t ∧
      OnlyFlds [F.SYS_CMD_EVT_UDP_DROP, F.SYS_CMD_CNT1_UDP_DROP_COUNT] s t ∧ t.flag F.SYS_CMD_EVT_UDP_DROP = true) ∧
    (s.segmentDropped ip bs = false → s.cmd.assemblies = [] → leAt bs 5 1 ≠ 1 → ∃ t, exec (.udpSegment port ip up bs) s = .next t ∧
      OnlyParts [.cmd] s t ∧ t.cmd = { s.cmd with assemblies := [⟨port, ip, up, leAt bs 0 4, leAt bs 5 1, [(leAt bs 4 1, bs.drop 8)], s.cycles⟩] }) ∧
    (∀ x, s.segmentDropped ip bs = false → s.assembly port ip (leAt bs 0 4) = some x → x.segs = leAt bs 5 1 →
      x.parts.any (fun p => p.1 == leAt bs 4 1) = true → exec (.udpSegment port ip up bs) s = .next s) ∧
    (∀ xid x, s.assembly port ip xid = some x → ∃ t, exec (.udpAssemblyTimeout port ip xid) s = .next t ∧
      OnlyParts [.cycles, .wall, .cmd] s t ∧ t.cycles = max s.cycles (x.last + 5000000) ∧ t.assembly port ip xid = none)

/-- R512: a standby's forwarded command: the active's response goes back as it came, and after 2 s without one the device answers ERR_TIMEOUT.
The device waits for it no longer. -/
def Obligations.ForwardedCommandEnds : Prop :=
  ∀ (s : State) (a : Auth) (n : Nat) (f : Forwarded), s.forwardOf a n = some f →
    (∀ r, ∃ t, exec (.forwardResponse a n r) s = .next t ∧ Answers s t f.hdr f.op r ∧ OnlyParts [.regs, .sent, .cmd, .link] s t ∧
      OnlyFlds [F.SYS_CMD_EVT_RSP_READY] s t ∧ t.cmd.forwards = s.cmd.forwards.erase f) ∧
    (∃ t, exec (.standbyForwardTimeout a n) s = .next t ∧ Answers s t f.hdr f.op (bareReply .errTimeout) ∧
      OnlyParts [.regs, .cycles, .wall, .sent, .cmd, .link] s t ∧ t.cycles = max s.cycles (f.since + 1000000000) ∧
      t.cmd.forwards = s.cmd.forwards.erase f)

/-- R518, R519, R520: TILE_CMD to a tile whose session is open sends the inner packet and waits; to an address without one, or with an inner
packet of another authority, it is refused. At the end of TMO_MS a command to one tile answers ERR_TIMEOUT, and a broadcast answers with
the tiles that have not answered. -/
def Obligations.TileCommandsWaitForTiles : Prop :=
  ∀ (s : State),
    (∀ h target mask tmo inner, s.newAction h (.tileCmd target mask tmo inner) → 1 ≤ tmo → tmo ≤ 60000 → target ≠ 0xFFFF →
      (leAt inner 5 1 ≠ authCode h.auth → ∃ t, exec (.tileCmd h target mask tmo inner) s = .next t ∧
        Acts s t h 0x0060 (bareReply .errAuth) [] []) ∧
      (leAt inner 5 1 = authCode h.auth → s.sessionOpen target = false → ∃ t, exec (.tileCmd h target mask tmo inner) s = .next t ∧
        Acts s t h 0x0060 (bareReply .errAddr) [] []) ∧
      (leAt inner 5 1 = authCode h.auth → s.sessionOpen target = true → ∃ t, exec (.tileCmd h target mask tmo inner) s = .next t ∧
        Silent s t ∧ OnlyParts [.gen, .gnt, .cmd, .sent, .link] s t ∧ AuthsKeep h s t ∧
        t.cmd.tileCmds = s.cmd.tileCmds ++ [⟨h, leAt inner 2 2, leAt inner 6 4, true, [target], [], s.cycles + 500000 * tmo⟩])) ∧
    (∀ a w, s.cmd.tileCmds.find? (fun w => w.hdr.auth == a) = some w →
      ∃ t, exec (.tileCmdTimeout a) s = .next t ∧ t.cycles = max s.cycles w.due ∧
        Answers s t w.hdr 0x0060 (if w.single then bareReply .errTimeout else tileCmdReply w) ∧
        OnlyParts [.regs, .cycles, .wall, .sent, .gen, .gnt, .cmd, .link] s t ∧ AuthsKeep w.hdr s t ∧
        t.cmd.tileCmds = s.cmd.tileCmds.filter (fun x => x.hdr != w.hdr))

/-- R403, R516, R517: a command that schedules an action answers by the first row that applies: OK where the schedule holds the action
already, ERR_LATE below the lead time, ERR_RANGE beyond a day, ERR_CAP with the schedule full; otherwise the action enters the schedule,
and the command answers OK, on a sender with a standby once that holds it. -/
def Obligations.CommandsScheduleActions : Prop :=
  ∀ (s : State) (i : Instr) (h : Hdr) (c : HostCmd) (op : Nat) (tf : TimeField) (e : SchedEntry),
    hostCmdOf i = some (h, c) → scheduledBy i = some (h, op, tf, e) → s.newAction h c →
    (timeOk tf = false → ∃ t, exec i s = .next t ∧ Acts s t h op (bareReply .errRange) [] []) ∧
    (timeOk tf = true →
      (s.sched.any (sameAction e) = true → ∃ t, exec i s = .next t ∧ Acts s t h op (bareReply .ok) [] []) ∧
      (s.sched.any (sameAction e) = false →
        (e.due + s.tickStep ≤ s.wall + s.leadTime → ∃ t, exec i s = .next t ∧ Acts s t h op (bareReply .errLate) [] []) ∧
        (s.wall + s.leadTime < e.due + s.tickStep →
          (s.wall + 86400 * 10 ^ 9 * nsUnit < e.due → ∃ t, exec i s = .next t ∧ Acts s t h op (bareReply .errRange) [] []) ∧
          (e.due ≤ s.wall + 86400 * 10 ^ 9 * nsUnit →
            (s.schedFull = true → ∃ t, exec i s = .next t ∧ Acts s t h op (bareReply .errCap) [] []) ∧
            (s.schedFull = false → ∃ t, exec i s = .next t ∧ t.sched = s.sched ++ [e] ∧
              (s.hasStandby = false → Acts s t h op (bareReply .ok) [.sched, .repl, .red] []) ∧
              (s.hasStandby = true → Awaits s t (.reply h op (bareReply .ok)) ∧ AuthsKeep h s t ∧
                OnlyParts [.gen, .gnt, .sched, .link, .repl, .red, .sent] s t))))))

/-- R400, R401: RESTEP. A sender that has not stepped, or whose source is FREE or offers no offset, and one within 1 ms of its source,
answers ERR_STATE; otherwise the step enters its schedule for the first flip that leaves the lead time, and RESTEP_PENDING is set. A tile
beyond 1 ms steps at once by its median offset, and one within it answers ERR_STATE. -/
def Obligations.RestepStepsByTheOffset : Prop :=
  ∀ (s : State) (h : Hdr), s.newAction h .restep →
    (s.tileRole = false →
      (s.flag F.PTP_STAT_STEPPED = false ∨ 1 < s.fld F.PTP_CTL_SOURCE ∨ s.preferredOffset = none →
        ∃ t, exec (.restep h) s = .next t ∧ Acts s t h 0x0034 (bareReply .errState) [] []) ∧
      (∀ m, s.flag F.PTP_STAT_STEPPED = true → s.fld F.PTP_CTL_SOURCE ≤ 1 → s.preferredOffset = some m → m.natAbs ≤ 1000000 * 65536 →
        ∃ t, exec (.restep h) s = .next t ∧ Acts s t h 0x0034 (bareReply .errState) [.fresh] []) ∧
      (∀ m, s.flag F.PTP_STAT_STEPPED = true → s.fld F.PTP_CTL_SOURCE ≤ 1 → s.preferredOffset = some m → 1000000 * 65536 < m.natAbs →
        s.stepAt (s.senderFlipTime s.stepFlip) = none →
        s.scheduleStatus ⟨s.senderFlipTime s.stepFlip, h.seq, .step m, false⟩ = .ok →
        ∃ t r, exec (.restep h) s = .next t ∧ t.flag F.PTP_STAT_RESTEP_PENDING = true ∧
          t.sched = s.sched ++ [⟨s.senderFlipTime s.stepFlip, h.seq, .step m, false⟩] ∧
          r = okReply (deltaBytes m ++ [0, 0] ++ timeBytes (timeField (s.senderFlipTime s.stepFlip))) ∧
          (s.hasStandby = false → Acts s t h 0x0034 r [.fresh, .sched, .repl, .red] [F.PTP_STAT_RESTEP_PENDING]) ∧
          (s.hasStandby = true → Awaits s t (.reply h 0x0034 r) ∧ AuthsKeep h s t))) ∧
    (s.tileRole = true →
      (s.flag F.PTP_STAT_STEPPED = true → 1000000 * 65536 < (medianOf s.time.samples s.openBit).natAbs →
        ∃ t, exec (.restep h) s = .next t ∧ t.wall = ((s.wall : Int) + medianOf s.time.samples s.openBit * 2 ^ 24).toNat ∧
          Acts s t h 0x0034 (okReply (deltaBytes (medianOf s.time.samples s.openBit))) [.fresh, .wall, .flip, .sched, .time]
            [F.PTP_STAT_STEPS, F.PTP_STAT_STEPPED] ∧
          t.fld F.PTP_STAT_STEPS = min (s.fld F.PTP_STAT_STEPS + 1) 255) ∧
      ((medianOf s.time.samples s.openBit).natAbs ≤ 1000000 * 65536 → ∃ t, exec (.restep h) s = .next t ∧
        Acts s t h 0x0034 (bareReply .errState) [.fresh] []))

/-- R442, R265: SWAP and BARRIER. A swap without a partner, or while one runs, answers ERR_STATE; otherwise it begins: SWAP_STAT.STATE is
1, AGREED and the mismatch are 0, and it answers OK. A barrier waits for every tile of its chains that has a session; with none it
answers OK at once, with no tile left. -/
def Obligations.SwapsAndBarriersBegin : Prop :=
  ∀ (s : State) (h : Hdr) (id : Nat),
    (s.newAction h .swap → (s.partnered = false ∨ s.fld F.RED_SWAP_STAT_STATE ≠ 0) →
      ∃ t, exec (.swapCmd h) s = .next t ∧ Acts s t h 0x0035 (bareReply .errState) [] []) ∧
    (s.newAction h .swap → s.partnered = true → s.fld F.RED_SWAP_STAT_STATE = 0 →
      ∃ t, exec (.swapCmd h) s = .next t ∧ t.fld F.RED_SWAP_STAT_STATE = 1 ∧ t.fld F.RED_SWAP_STAT_AGREED = 0 ∧
        t.fld F.RED_SWAP_STAT_MISMATCH_CHAINS = 0 ∧ t.red.swapAt = s.cycles ∧
        Acts s t h 0x0035 (bareReply .ok) [.red] [F.RED_SWAP_STAT_STATE, F.RED_SWAP_STAT_AGREED, F.RED_SWAP_STAT_MISMATCH_CHAINS]) ∧
    (s.newAction h (.barrier id) → s.cmd.barriers.all (fun b => b.id != id) = true → s.link.unacked.all (fun u => u.msg != .barrier id) = true →
      let ports := ((List.range 8).filter s.portUp).filter (fun p => s.chainTiles p != [])
      (ports = [] → ∃ t, exec (.barrierCmd h id) s = .next t ∧ t.cmd.barriers = s.cmd.barriers ∧
        Acts s t h 0x0032 (okReply (leBytes 2 0 ++ [0, 0])) [] []) ∧
      (ports ≠ [] → ∃ t, exec (.barrierCmd h id) s = .next t ∧ t.cmd.barriers = s.cmd.barriers ++ [⟨h, id, ports.flatMap s.chainTiles⟩] ∧
        t.link.unacked.length = s.link.unacked.length + ports.length ∧ Silent s t ∧ AuthsKeep h s t ∧
        OnlyParts [.gen, .gnt, .cmd, .link, .sent] s t))

/-- R495, R517: staging. STAGE_BEGIN opens the staging area for an image of 1,024 to 16,777,216 bytes, unless one is open or the running
slot is on trial; STAGE_WRITE stores its bytes; STAGE_END checks the image, refuses one that fails, answers ALREADY for one that a slot
holds, and otherwise writes the slot that is not running: the slot then holds the image and STAGE_DONE is set, or, where its read-back
differs (which the spec leaves open, notes/assumptions/57.md), it is erased. -/
def Obligations.StagingWritesASlot : Prop :=
  ∀ (s : State) (h : Hdr),
    (∀ total, s.newAction h (.stageBegin total) →
      (total < 1024 ∨ 16777216 < total → ∃ t, exec (.stageBegin h total) s = .next t ∧ Acts s t h 0x0040 (bareReply .errLen) [] []) ∧
      (1024 ≤ total → total ≤ 16777216 →
        (s.cmd.staging ≠ none ∨ s.flag F.SYS_BOOT_STAT_TRIAL = true →
          ∃ t, exec (.stageBegin h total) s = .next t ∧ Acts s t h 0x0040 (bareReply .errState) [] []) ∧
        (s.cmd.staging = none → s.flag F.SYS_BOOT_STAT_TRIAL = false →
          ∃ t, exec (.stageBegin h total) s = .next t ∧ t.cmd.staging = some total ∧ Acts s t h 0x0040 (bareReply .ok) [] []))) ∧
    (∀ off data, s.newAction h (.stageWrite off data) →
      (s.cmd.staging = none → ∃ t, exec (.stageWrite h off data) s = .next t ∧ Acts s t h 0x0041 (bareReply .errState) [] []) ∧
      (∀ total, s.cmd.staging = some total → total < off + data.length →
        ∃ t, exec (.stageWrite h off data) s = .next t ∧ Acts s t h 0x0041 (bareReply .errRange) [] []) ∧
      (∀ total, s.cmd.staging = some total → off + data.length ≤ total →
        (s.stagingBase = none → ∃ t, exec (.stageWrite h off data) s = .next t ∧ Acts s t h 0x0041 (bareReply .ok) [.tile] [] ∧
          ∀ c, t.storeByte c = if 0x18A0000 + off ≤ c ∧ c < 0x18A0000 + off + data.length
            then data.getD (c - (0x18A0000 + off)) 0 else s.storeByte c) ∧
        (∀ a, s.stagingBase = some a → s.memReady (a + off) data.length → ∃ t, exec (.stageWrite h off data) s = .next t ∧
          Acts s t h 0x0041 (bareReply .ok) [.dram] [] ∧
          ∀ c, t.memByte c = if a + off ≤ c ∧ c < a + off + data.length then data.getD (c - (a + off)) 0 else s.memByte c))) ∧
    (s.newAction h .stageEnd →
      (s.cmd.staging = none ∨ s.flag F.SYS_BOOT_STAT_TRIAL = true →
        ∃ t, exec (.stageEnd h) s = .next t ∧ Acts s t h 0x0042 (bareReply .errState) [] []) ∧
      (∀ total bs, s.cmd.staging = some total → s.flag F.SYS_BOOT_STAT_TRIAL = false →
        (s.stagingBase = none ∧ bs = s.storeBytes 0x18A0000 total ∨
          ∃ a, s.stagingBase = some a ∧ s.memReady a total ∧ bs = (List.range total).map (fun i => s.memByte (a + i))) →
        (s.imageFails bs ≠ none → ∃ t, exec (.stageEnd h) s = .next t ∧ t.cmd.staging = none ∧ t.flag F.SYS_BOOT_EVT_STAGE_REJ = true ∧
          Acts s t h 0x0042 (bareReply .errImage) [] [F.SYS_BOOT_EVT_STAGE_REJ]) ∧
        (∀ k, s.imageFails bs = none → s.heldImage (imageFw bs) = some k → ∃ t, exec (.stageEnd h) s = .next t ∧ t.cmd.staging = none ∧
          Acts s t h 0x0042 ⟨.ok, { RFlags.none with already := true }, stageBody (imageFw bs) k⟩ [] []) ∧
        (s.imageFails bs = none → s.heldImage (imageFw bs) = none → ∃ t, exec (.stageEnd h) s = .next t ∧ t.cmd.staging = none ∧
          (t.slotBytes s.targetSlot = bs ∧ t.flag F.SYS_BOOT_EVT_STAGE_DONE = true ∧
              Acts s t h 0x0042 (okReply (stageBody (imageFw bs) s.targetSlot)) [.fresh, .nvm, .boot]
                [F.SYS_BOOT_EVT_STAGE_DONE, F.SYS_SLOT_STAT_STATE_A, F.SYS_SLOT_STAT_STATE_B, F.SYS_FW_STAGED_FW_VER] ∨
            t.slotBytes s.targetSlot = [] ∧ Gives s t h 0x0042 (bareReply .errImage)))))

/-- R90, R92, R99, R100, R110, R116: SDI inputs. A lock sets LOCK and RATE; a loss of lock clears them, sets LOCK_LOST, and puts a source
that was ACTIVE into LOST. A frame that matches the descriptor takes the oldest free buffer, and with none is dropped and counted. A line
of the frame in progress is stored at its row; a line with a bad CRC sets LINE_CRC. -/
def Obligations.SdiSignalsReachSources : Prop :=
  ∀ (s : State) (n : Nat), n < 8 →
    (∀ rate, rate < 15 → ∃ t, exec (.sdiLock n rate) s = .next t ∧ t.flag (F.SDI_PHY_STAT_LOCK n) = true ∧
      t.fld (F.SDI_PHY_STAT_RATE n) = rate ∧ OnlyParts [.regs] s t ∧ OnlyFlds [F.SDI_PHY_STAT_LOCK n, F.SDI_PHY_STAT_RATE n] s t) ∧
    (s.srcOfInput n = none → ∃ t, exec (.sdiLockLoss n) s = .next t ∧ t.flag (F.SDI_PHY_STAT_LOCK n) = false ∧
      t.fld (F.SDI_PHY_STAT_RATE n) = 0 ∧ t.flag (F.SDI_PHY_STAT_LOCK_LOST n) = true ∧ OnlyParts [.regs] s t ∧
      OnlyFlds [F.SDI_PHY_STAT_LOCK n, F.SDI_PHY_STAT_RATE n, F.SDI_PHY_STAT_LOCK_LOST n, F.SDI_PHY_STAT_PID_SEEN n] s t) ∧
    (∀ i, s.srcOfInput n = some i → s.srcMode i = .active → s.frameDue i = none →
      ∃ t, exec (.sdiLockLoss n) s = .next t ∧ t.flag (F.SDI_PHY_STAT_LOCK n) = false ∧ t.flag (F.SDI_PHY_STAT_LOCK_LOST n) = true ∧
        t.srcMode i = .lost ∧ t.flag (F.SDI_SRC_EVT_LOST i) = true ∧ (t.src i).writing = none ∧ (t.src i).leftAt = some s.cycles ∧
        (∀ j, j ≠ i → t.src j = s.src j) ∧ OnlyParts [.regs, .video] s t ∧
        OnlyFlds [F.SDI_PHY_STAT_LOCK n, F.SDI_PHY_STAT_RATE n, F.SDI_PHY_STAT_LOCK_LOST n, F.SDI_PHY_STAT_PID_SEEN n,
          F.SDI_SRC_STAT_STATE i, F.SDI_SRC_EVT_LOST i] s t) ∧
    (∀ i m, s.srcOfInput n = some i → s.flag (F.SDI_PHY_STAT_LOCK n) = true → (s.src i).writing = none →
      s.formatDiffers i m = false → s.rateHigh i m = false → s.flag (F.SDI_SRC_CTL_TF_FROM_STREAM i) = false →
      ∃ t, exec (.sdiFrameStart n m) s = .next t ∧ t.flag (F.SDI_PHY_STAT_PID_SEEN n) = m.pid ∧ OnlyParts [.regs, .video, .fresh] s t ∧
        (∀ b, s.takeBuffer i = some b → (t.src i).writing = some ⟨some b, s.layoutOf i b none, m, 0, none, [], none, false⟩ ∧
          t.fld (F.SDI_SRC_STAT_WRITING i) = b % 4 ∧ t.flag (F.SDI_SRC_EVT_DROP i) = s.flag (F.SDI_SRC_EVT_DROP i)) ∧
        (s.takeBuffer i = none → t.flag (F.SDI_SRC_EVT_DROP i) = true ∧
          t.fld (F.SDI_SRC_CNT_DROP_COUNT i) = min (s.fld (F.SDI_SRC_CNT_DROP_COUNT i) + 1) 65535) ∧
        OnlyFlds [F.SDI_PHY_STAT_PID_SEEN n, F.SDI_SRC_DET_RASTER_WIDTH i, F.SDI_SRC_DET_RASTER_HEIGHT i, F.SDI_SRC_DET_CODING_RATE_HZ i,
          F.SDI_SRC_DET_CODING_SCAN i, F.SDI_SRC_DET_CODING_SAMPLING i, F.SDI_SRC_DET_CODING_DEPTH i, F.SDI_SRC_DET_CODING_RANGE i,
          F.SDI_SRC_DET_CODING_TF i, F.SDI_SRC_DET_CODING_COLOUR i, F.SDI_SRC_DET_CODING_LINK i, F.SDI_SRC_STAT_WRITING i,
          F.SDI_SRC_EVT_DROP i, F.SDI_SRC_CNT_DROP_COUNT i] s t) ∧
    (∀ field line codes, s.srcOfInput n = none → ∃ t, exec (.sdiLine n field line false codes) s = .next t ∧
      t.flag (F.SDI_PHY_STAT_LINE_CRC n) = true ∧ OnlyParts [.regs] s t ∧ OnlyFlds [F.SDI_PHY_STAT_LINE_CRC n] s t) ∧
    (∀ i f b line codes, s.srcOfInput n = some i → (s.src i).writing = some f → f.buf = some b → f.m.scan = 0 → line < f.lay.h →
      pixelCount f.lay.sampling codes = f.lay.w →
      let at_ := f.lay.addr + line * f.lay.pitch
      let bs := runBytes f.lay.sampling f.lay.depth codes
      s.memReady at_ bs.length → ∃ t, exec (.sdiLine n 0 line true codes) s = .next t ∧ OnlyParts [.dram, .fresh, .video] s t ∧
        (∀ c, t.memByte c = if at_ ≤ c ∧ c < at_ + bs.length then bs.getD (c - at_) 0 else s.memByte c) ∧
        ∀ j, j ≠ i → t.src j = s.src j)

/-- R95 to R101, R110, R111: frames of a source. A packet that no flow matches counts in UNMATCHED, and one whose header is wrong in
BAD_HDR. A frame that is whole and matches becomes the newest 3 cycles after its last write, and makes a source that was not ACTIVE
ACTIVE, with RECOVERED where it had been lost; an ACTIVE source with no frame for LOSS_MS is LOST; and HOLD_MS after it left ACTIVE its
last frame is given up. -/
def Obligations.FramesComplete : Prop :=
  ∀ (s : State),
    (∀ p q, p < 2 → s.srcOfFlow p q.src q.dst q.udpPort = none → ∃ t, exec (.st2110Packet p q) s = .next t ∧
      t.fld F.SDI_RX_DISC_UNMATCHED = min (s.fld F.SDI_RX_DISC_UNMATCHED + 1) 65535 ∧ OnlyParts [.regs] s t ∧
      OnlyFlds [F.SDI_RX_DISC_UNMATCHED] s t) ∧
    (∀ p q i, p < 2 → s.srcOfFlow p q.src q.dst q.udpPort = some i →
      q.payloadType ≠ s.fld (F.SDI_SRC_FLOW_PORT_PT i) ∨ q.version ≠ 2 ∨ q.rows.any (s.outside i) = true →
      ∃ t, exec (.st2110Packet p q) s = .next t ∧
        t.fld F.SDI_RX_DISC_BAD_HDR = min (s.fld F.SDI_RX_DISC_BAD_HDR + 1) 65535 ∧ OnlyParts [.regs] s t ∧
        OnlyFlds [F.SDI_RX_DISC_BAD_HDR] s t) ∧
    (∀ p q i f, p < 2 → s.srcOfFlow p q.src q.dst q.udpPort = some i → q.payloadType = s.fld (F.SDI_SRC_FLOW_PORT_PT i) → q.version = 2 →
      q.rows = [] → s.flag (F.SDI_SRC_CODING_SCAN i) = false → (s.src i).writing = some f → f.ackAt = none → f.ts ≠ q.timestamp →
      laterSerial f.ts q.timestamp = false → ∃ t, exec (.st2110Packet p q) s = .next t ∧ OnlyParts [.regs, .video] s t ∧
        t.flag (F.SDI_SRC_EVT_INCOMPLETE i) = true ∧
        t.fld (F.SDI_SRC_CNT_INCOMPLETE_COUNT i) = min (s.fld (F.SDI_SRC_CNT_INCOMPLETE_COUNT i) + 1) 65535 ∧
        ∃ g, (t.src i).writing = some g ∧ g.ts = q.timestamp ∧ g.got = []) ∧
    (∀ i f m, i < 16 → (s.src i).closing = none → (s.src i).writing = some f → f.ackAt ≠ none → f.done = false →
      s.flag (F.SDI_SRC_CTL_KIND i) = false → s.formatDiffers i f.m = false → s.rateHigh i f.m = false → f.m.mhz % 1000 ≠ 500 →
      ∃ t, exec (.frameComplete i m) s = .next t ∧ t.cycles = max s.cycles (f.ackAt.getD 0 + 3) ∧
        (t.src i).newest = some (f.buf.getD 0, { f.lay with doneAt := t.wall }) ∧ (t.src i).lastFrame = t.cycles ∧
        t.flag (F.SDI_SRC_STAT_HAS_FRAME i) = true ∧ OnlyParts [.regs, .cycles, .wall, .video] s t ∧
        (s.srcMode i = .seek ∨ s.srcMode i = .lost ∨ s.srcMode i = .mismatch → t.srcMode i = .active) ∧
        (s.srcMode i = .lost ∨ s.srcMode i = .mismatch → t.flag (F.SDI_SRC_EVT_RECOVERED i) = true)) ∧
    (∀ i, i < 16 → s.srcMode i = .active → s.frameDue i = none → ∃ t, exec (.sourceLossTimeout i) s = .next t ∧
      t.cycles = max s.cycles ((s.src i).lastFrame + msCycles (s.fld (F.SDI_SRC_LOSS_LOSS_MS i))) ∧ t.srcMode i = .lost ∧
      t.flag (F.SDI_SRC_EVT_LOST i) = true ∧ OnlyParts [.regs, .cycles, .wall, .video] s t ∧
      OnlyFlds [F.SDI_SRC_STAT_STATE i, F.SDI_SRC_EVT_LOST i] s t) ∧
    (∀ i at_, i < 16 → (s.src i).leftAt = some at_ → s.srcMode i = .lost ∨ s.srcMode i = .mismatch → (s.src i).expired = false →
      ∃ t, exec (.holdExpiry i) s = .next t ∧ t.cycles = max s.cycles (at_ + msCycles (s.fld (F.SDI_SRC_CTL_HOLD_MS i))) ∧
        t.src i = { s.src i with expired := true } ∧ (∀ j, j ≠ i → t.src j = s.src j) ∧ OnlyParts [.cycles, .wall, .video] s t)

/-- R118 to R141: the network ports. A received frame sets the event of the first check that it fails, in both copies; one that passes goes to
its receiver, with a stamp where it is a PTP event. A segmented send queues its frames or sets TSO_ERR. A frame starts when enough of it
is stored; a store that runs empty ends it with an inverted FCS, sets TX_UNDERRUN and raises the threshold, up to 19. Links come and go,
firmware's service counts its events, and a monitoring flow queues its next packet. -/
def Obligations.NetworkPorts : Prop :=
  ∀ (s : State) (p : Nat), p < 2 → s.netOn p = true →
    let np : Part := if p = 0 then .net0 else .net1
    (∀ e f, s.subPortOk p e.sub = true → s.bit (F.NET_STAT_LINK p) e.sub = true → e.corrected = false → s.netCheck p e = some f →
      ∃ t, exec (.ethFrameRx p e) s = .next t ∧ t.flag f = true ∧ (t.net p).fwEvents / 2 ^ f.lo % 2 = 1 ∧ OnlyParts [.regs, np] s t ∧
        OnlyFlds [f] s t) ∧
    (∀ e, s.subPortOk p e.sub = true → s.bit (F.NET_STAT_LINK p) e.sub = true → e.corrected = false → s.netCheck p e = none →
      (s.netDest p e = .heartbeat ∨ (∃ i, s.netDest p e = .flow i) → ∃ t, exec (.ethFrameRx p e) s = .next t ∧
        t.sent = s.sent ++ [.toReceiver p e.content] ∧ OnlyParts [.sent] s t) ∧
      (∀ a b c d bs, e.content = .udp a b c d bs → s.netDest p e = .ptpEvent → (s.net p).stamps.length < 64 →
        ∃ t, exec (.ethFrameRx p e) s = .next t ∧ t.sent = s.sent ++ [.toReceiver p e.content] ∧ OnlyParts [.regs, .sent, np] s t ∧
          (t.net p).stamps = (s.net p).stamps ++
            [⟨false, stampTime s.wall (signed 16 (s.fld (F.NET_TS_ADJ_RX_ADJ p))), (ptpId bs).1, (ptpId bs).2.1, (ptpId bs).2.2⟩] ∧
          OnlyFlds [F.NET_TS_STAT_LEVEL p] s t)) ∧
    (∀ x, sendFails x = true → ∃ t, exec (.segmentedSend p x) s = .next t ∧ t.flag (F.NET_EVT_TSO_ERR p) = true ∧
      OnlyParts [.regs, np] s t ∧ OnlyFlds [F.NET_EVT_TSO_ERR p] s t) ∧
    (∀ x, sendFails x = false → s.bit (F.NET_STAT_LINK p) 0 = true → ∃ t, exec (.segmentedSend p x) s = .next t ∧ OnlyParts [np] s t ∧
      (t.net p).sendQ = (s.net p).sendQ ++ (pieces x.size (x.payload.length / x.size + 1) x.payload).mapIdx (fun k seg => ⟨segmentFrame x k seg⟩)) ∧
    (∀ f q stored, s.bit (F.NET_STAT_LINK p) 0 = true → (s.net p).sendQ = f :: q → (s.net p).monQ = [] →
      (f.bytes.length + 4 ≤ stored ∨ s.fld (F.NET_STAT_CUR_THRESH p) * 512 ≤ stored → ∃ t, exec (.txFrameStart p stored) s = .next t ∧
        t.sent = s.sent ++ [.frame p f true] ∧ (t.net p).sendQ = q ∧ (t.net p).leaving = some (f, min stored (f.bytes.length + 4)) ∧
        OnlyParts [.sent, np] s t) ∧
      (stored < f.bytes.length + 4 → stored < s.fld (F.NET_STAT_CUR_THRESH p) * 512 → exec (.txFrameStart p stored) s = .next s)) ∧
    (∀ f stored, (s.net p).leaving = some (f, stored) → stored ≠ f.bytes.length + 4 → ∃ t, exec (.txUnderrun p) s = .next t ∧
      t.sent = s.sent ++ [.frame p f false] ∧ t.flag (F.NET_EVT_TX_UNDERRUN p) = true ∧ (t.net p).leaving = none ∧
      t.fld (F.NET_STAT_CUR_THRESH p) = min 19 (s.fld (F.NET_STAT_CUR_THRESH p) + 1) ∧ OnlyParts [.regs, .sent, np] s t ∧
      OnlyFlds [F.NET_EVT_TX_UNDERRUN p, F.NET_STAT_CUR_THRESH p] s t) ∧
    (∀ q, q < 4 → s.subPortOk p q = true →
      (∃ t, exec (.linkUp p q) s = .next t ∧ t.bit (F.NET_STAT_LINK p) q = true ∧ t.flag (F.NET_EVT_LINK_UP p) = true ∧
        OnlyParts [.regs, np] s t ∧ OnlyFlds [F.NET_STAT_LINK p, F.NET_STAT_FEC_LOCK p, F.NET_EVT_LINK_UP p] s t) ∧
      (∃ t, exec (.linkDown p q) s = .next t ∧ t.bit (F.NET_STAT_LINK p) q = false ∧ t.flag (F.NET_EVT_LINK_DOWN p) = true ∧
        (q = 0 → (t.net p).sendQ = [] ∧ (t.net p).monQ = [] ∧ (t.net p).leaving = none) ∧
        OnlyParts [.regs, np] s t ∧ OnlyFlds [F.NET_STAT_LINK p, F.NET_STAT_FEC_LOCK p, F.NET_EVT_LINK_DOWN p] s t)) ∧
    (∃ t, exec (.fwEventService p) s = .next t ∧ (t.net p).fwEvents = 0 ∧ OnlyParts [np] s t ∧
      ∀ i, i < 16 → (t.net p).counters.getD i 0 = (if (s.net p).fwEvents / 2 ^ i % 2 = 1 then min ((s.net p).counters.getD i 0 + 1) 0xFFFFFFFF
        else (s.net p).counters.getD i 0)) ∧
    (∀ f k, f < 2 → s.flag (F.NET_MON_CTL_EN p f) = true → s.flag (F.CMP_MON_CTL_EN (2 + 2 * p + f)) = true →
      (s.tap (2 + 2 * p + f)).packet = some k → s.bit (F.NET_STAT_LINK p) 0 = true → ∃ t, exec (.monitorPacket p f) s = .next t ∧
        (t.net p).monQ.length = (s.net p).monQ.length + 1 ∧ (t.net p).sendQ = (s.net p).sendQ ∧
        t.fld (F.NET_MON_CNT_PKT_COUNT p f) = (s.fld (F.NET_MON_CNT_PKT_COUNT p f) + 1) % 2 ^ 32)

/-- R231 to R233: a segment's bring-up. In HELLO a port sends HELLO every 100 µs; a valid HELLO is taken and acknowledged, and an invalid one
ends in HELLO_FAIL; with both a valid HELLO and a HELLO_ACK the segment is UP. HELLO_FAIL lasts 100 ms; 1 ms of silence takes an UP
segment DOWN; 10 ms with no HELLO take it DOWN and let its lanes train again. -/
def Obligations.SegmentsComeUp : Prop :=
  ∀ (s : State) (p : Nat), s.portList.contains p = true →
    (s.fld (F.MLK_PORT_STAT_STATE p) = 1 →
      (∃ t, exec (.helloSend p) s = .next t ∧ t.sent = s.sent ++ [.link p (.msg 0xFFFE false false (.hello (s.ownHello p)))] ∧
        (t.port p).sentHello = t.cycles ∧ s.cycles ≤ t.cycles ∧
        ((s.port p).since ≤ (s.port p).sentHello → (s.port p).sentHello + usCycles 100 ≤ t.cycles) ∧
        OnlyParts [.cycles, .wall, .sent, .link] s t) ∧
      (∃ t, exec (.helloTimeout p) s = .next t ∧ (s.port p).lastHello + msCycles 10 ≤ t.cycles ∧ t.fld (F.MLK_PORT_STAT_STATE p) = 0 ∧
        t.fld (F.SER_PORT_STAT_TX_SET p) = 0 ∧ t.fld (F.SER_PORT_STAT_RX_SET p) = 0 ∧ t.sent = s.sent) ∧
      (∀ m h, m.port = p → m.checkOk = true → s.helloValid p h = true → (s.port p).ackOk = false →
        ∃ t, exec (.hello m h) s = .next t ∧ (t.port p).helloOk = true ∧ t.fld (F.MLK_PORT_STAT_STATE p) = 1 ∧
          t.fld (F.MLK_PORT_STAT_VERSION p) = commonVersion s.versions h.versions ∧ t.fld (F.MLK_PORT_PARTNER_ID_ADDR p) = h.addr % 65536 ∧
          t.sent = s.sent ++ [.link p (.msg h.addr false false (.helloAck (commonVersion s.versions h.versions)))] ∧
          OnlyParts [.regs, .sent, .link] s t ∧
          OnlyFlds [F.MLK_PORT_STAT_VERSION p, F.MLK_PORT_STAT_PARTNER p, F.MLK_PORT_PARTNER_ID_PART p, F.MLK_PORT_PARTNER_ID_ADDR p] s t) ∧
      (∀ m h, m.port = p → m.checkOk = true → s.helloValid p h = false → s.tileRole = false →
        ∃ t, exec (.hello m h) s = .next t ∧ t.fld (F.MLK_PORT_STAT_STATE p) = 3 ∧ t.flag F.MLK_EVT_HELLO_FAIL = true ∧
          (t.port p).since = s.cycles ∧ OnlyParts [.regs, .link] s t ∧ OnlyFlds [F.MLK_PORT_STAT_STATE p, F.MLK_EVT_HELLO_FAIL] s t) ∧
      (∀ m v, m.port = p → m.checkOk = true → 1 ≤ v → v ≤ 2 →
        ((s.port p).helloOk = true → ∃ t, exec (.helloAck m v) s = .next t ∧ t.fld (F.MLK_PORT_STAT_STATE p) = 2 ∧ (t.port p).since = s.cycles) ∧
        ((s.port p).helloOk = false → ∃ t, exec (.helloAck m v) s = .next t ∧ (t.port p).ackOk = true ∧ OnlyParts [.link] s t))) ∧
    (∀ m h, m.port = p → m.checkOk = false → ∃ t, exec (.hello m h) s = .next t ∧ t.flag F.MLK_EVT_CRC_ERR = true ∧
      t.fld F.MLK_DISC_CNT_CRC_ERR_COUNT = min (s.fld F.MLK_DISC_CNT_CRC_ERR_COUNT + 1) 65535 ∧ OnlyParts [.regs] s t ∧
      OnlyFlds [F.MLK_EVT_CRC_ERR, F.MLK_DISC_CNT_CRC_ERR_COUNT] s t) ∧
    (s.fld (F.MLK_PORT_STAT_STATE p) = 3 → ∃ t, exec (.helloFailExpiry p) s = .next t ∧ t.fld (F.MLK_PORT_STAT_STATE p) = 1 ∧
      t.cycles = max s.cycles ((s.port p).since + msCycles 100) ∧ OnlyParts [.regs, .cycles, .wall, .link] s t ∧
      OnlyFlds [F.MLK_PORT_STAT_STATE p] s t) ∧
    (s.fld (F.MLK_PORT_STAT_STATE p) = 2 → ∃ t, exec (.segmentSilence p) s = .next t ∧ t.fld (F.MLK_PORT_STAT_STATE p) = 0 ∧
      t.cycles = max s.cycles ((s.port p).lastBlock + msCycles 1) ∧ OnlyParts [.regs, .cycles, .wall, .link] s t ∧
      OnlyFlds [F.MLK_PORT_STAT_STATE p] s t)

/-- R220, R227, R228, R230, R253, R257: how messages are filtered. One on a segment that is not UP changes nothing; one whose CHECK fails
sets CRC_ERR and is counted; a tile relays one that is not for it alone; one that is not for the device ends there; a tile counts and
discards one of a sender whose claim is not the highest; one that has been seen is acknowledged OK and acts no more. -/
def Obligations.MessagesAreFiltered : Prop :=
  ∀ (s : State) (i : Instr) (m : MsgHdr) (b : LinkMsg), carriedBy i = some (m, b) →
    (s.portUp m.port = false → exec i s = .next s) ∧
    (s.portUp m.port = true → m.checkOk = false → ∃ t, exec i s = .next t ∧ t.flag F.MLK_EVT_CRC_ERR = true ∧
      t.fld F.MLK_DISC_CNT_CRC_ERR_COUNT = min (s.fld F.MLK_DISC_CNT_CRC_ERR_COUNT + 1) 65535 ∧ OnlyParts [.regs, .link] s t ∧
      OnlyFlds [F.MLK_EVT_CRC_ERR, F.MLK_DISC_CNT_CRC_ERR_COUNT] s t) ∧
    (s.portUp m.port = true → m.checkOk = true →
      (s.isForMe m.dst = false → ∃ t, exec i s = .next t ∧ t.sent = s.sent ++ s.relayed m b ∧ OnlyParts [.sent, .link] s t) ∧
      (s.isForMe m.dst = true → s.wrongClaim m.src m.claimTag = true → ∃ t, exec i s = .next t ∧ t.sent = s.sent ++ s.relayed m b ∧
        t.flag F.MLK_EVT_CLAIM_DISC = true ∧
        t.fld F.MLK_DISC_CNT_CLAIM_DISC_COUNT = min (s.fld F.MLK_DISC_CNT_CLAIM_DISC_COUNT + 1) 65535 ∧
        t.link.discSince = s.link.discSince + 1 ∧ OnlyParts [.regs, .sent, .link] s t ∧
        OnlyFlds [F.MLK_EVT_CLAIM_DISC, F.MLK_DISC_CNT_CLAIM_DISC_COUNT] s t) ∧
      (s.isForMe m.dst = true → s.wrongClaim m.src m.claimTag = false → s.seenSeq m.src m.seq = true → ∃ t, exec i s = .next t ∧
        (∃ post, t.sent = s.sent ++ s.relayed m b ++ post) ∧ Acked s t m .ok ∧ OnlyParts [.sent, .link] s t))

/-- R228, R235 to R238, R252 to R254: tiles, their sessions and what each end says of itself. ENUMERATE numbers a tile that has no number,
and sets SLOT_MISMATCH where another number is meant; at a sender it ends a pass over a ring. TILE_INFO of the domain opens its session;
with no TILE_STATUS in time the session closes. TILE_STATUS is kept in the session's registers. A claim in a HEARTBEAT that outranks a
tile's highest becomes the highest. -/
def Obligations.SessionsComeAndGo : Prop :=
  ∀ (s : State) (m : MsgHdr),
    (∀ d c v step, s.tileRole = true → s.arrives m → s.seenSeq m.src m.seq = false → ∃ t, exec (.enumerate m d c v step) s = .next t ∧
      (∃ post, t.sent = s.sent ++ (if s.portUp (otherPort m.port) = true then [.relay (otherPort m.port)
        (.msg m.dst m.ackReq m.retry (.enumerate d c ((v + step) % 256) step))] else []) ++ post) ∧
      Posts s t 0 0x8003 (.tileInfo t.tileInfo) ∧ Posts s t 1 0x8003 (.tileInfo t.tileInfo) ∧
      (s.flag F.MLK_STAT_ADDR_VALID = false → v < 64 → t.fld F.MLK_STAT_ADDR = d % 64 * 512 + c % 8 * 64 + v ∧
        t.flag F.MLK_STAT_ADDR_VALID = true ∧ t.fld F.MLK_CTL_DOMAIN = d % 64 ∧ OnlyParts [.regs, .sent, .link] s t ∧
        OnlyFlds [F.MLK_STAT_ADDR, F.MLK_STAT_ADDR_VALID, F.MLK_CTL_DOMAIN] s t) ∧
      (s.flag F.MLK_STAT_ADDR_VALID = false → 64 ≤ v → OnlyParts [.sent, .link] s t) ∧
      (s.flag F.MLK_STAT_ADDR_VALID = true →
        (v < 64 ∧ s.fld F.MLK_STAT_ADDR = d % 64 * 512 + c % 8 * 64 + v → OnlyParts [.sent, .link] s t) ∧
        (¬ (v < 64 ∧ s.fld F.MLK_STAT_ADDR = d % 64 * 512 + c % 8 * 64 + v) → t.flag F.MLK_EVT_SLOT_MISMATCH = true ∧
          t.fld F.MLK_STAT_ADDR = s.fld F.MLK_STAT_ADDR))) ∧
    (∀ d c v, s.tileRole = false → s.arrives m → s.seenSeq m.src m.seq = false → ∃ t, exec (.enumerate m d c v 1) s = .next t ∧
      t.flag (F.MLK_PORT_STAT_RING m.port) = true ∧ t.fld (F.MLK_PORT_STAT_TILES m.port) = min v 64 ∧ (t.port m.port).far = true ∧
      (c ≠ m.port → t.flag F.MLK_EVT_RING_MISCABLE = true) ∧ (64 < v → t.flag F.MLK_EVT_CHAIN_LEN = true) ∧
      t.sent = s.sent ++ [.link m.port (.msg 0xFFFF false false (.enumerate (s.fld F.MLK_CTL_DOMAIN) c ((v + 255) % 256) 0xFF))] ∧
      OnlyParts [.regs, .sent, .link] s t ∧
      OnlyFlds [F.MLK_PORT_STAT_RING m.port, F.MLK_PORT_STAT_TILES m.port, F.MLK_EVT_RING_MISCABLE, F.MLK_EVT_CHAIN_LEN, F.MLK_LEAD_HOPS,
        F.MLK_LEAD_LEAD_100NS] s t) ∧
    (∀ x, s.tileRole = false → s.senderRole = true → s.hears m → x.addr < 0x8000 → x.addr / 512 = s.fld F.MLK_CTL_DOMAIN →
      let n := sessionOf x.addr
      ∃ t, exec (.tileInfo m x) s = .next t ∧ t.flag (F.MLK_SESS_STAT_OPEN n) = true ∧
        t.fld (F.MLK_SESS_STAT_VERSION n) = min x.vmax (s.fld F.MLK_CTL_VMAX) ∧ t.fld (F.MLK_SESS_STAT_MODE n) = x.mode % 8 ∧
        t.fld (F.MLK_SESS_GEOM_W n) = x.w % 65536 ∧ t.fld (F.MLK_SESS_GEOM_H n) = x.h % 65536 ∧
        (s.flag (F.MLK_SESS_STAT_OPEN n) = false → t.flag F.MLK_EVT_SESSION_UP = true) ∧
        (s.mode = .sender → s.red.restore = none → s.flag (F.MLK_SESS_STAT_OPEN n) = false ∨ s.flag (F.MLK_SESS_STAT_RESYNC n) = true →
          t.flag (F.MLK_SESS_STAT_RESYNC n) = false)) ∧
    (∀ n, s.senderRole = true → n < 512 → s.flag (F.MLK_SESS_STAT_OPEN n) = true → s.cmd.pushes = [] →
      ∃ t, exec (.sessionTimeout n) s = .next t ∧ t.flag (F.MLK_SESS_STAT_OPEN n) = false ∧ t.flag F.MLK_EVT_SESSION_DOWN = true ∧
        t.cycles = max s.cycles (((s.link.status.find? (fun x => x.1 == n)).map (·.2)).getD 0 + msCycles (s.fld F.MLK_TMO_SESS_TMO_MS)) ∧
        OnlyParts [.regs, .cycles, .wall, .sent, .repl, .red] s t ∧ OnlyFlds [F.MLK_SESS_STAT_OPEN n, F.MLK_EVT_SESSION_DOWN] s t) ∧
    (∀ b, s.senderRole = true → s.tileRole = false → s.hears m → b.addr < 0x8000 → b.addr / 512 = s.fld F.MLK_CTL_DOMAIN →
      let n := sessionOf b.addr
      s.flag (F.MLK_SESS_STAT_OPEN n) = true →
      ∃ t, exec (.tileStatus m b) s = .next t ∧ t.fld (F.MLK_SESS_STAT_MODE n) = b.mode % 8 ∧
        t.flag (F.MLK_SESS_STAT_TIME_LOCKED n) = b.timeLocked ∧ t.fld (F.MLK_SESS_LAST_FLIP_FLIP_LO n) = b.lastFlipLo % 2 ^ 32 ∧
        t.fld (F.MLK_SESS_AGE_FAULTS_PENDING n) = b.faultsPending % 65536 ∧ (n, s.cycles) ∈ t.link.status ∧
        t.red.seenEpoch = max s.red.seenEpoch b.claimEpoch ∧ OnlyParts [.regs, .sent, .link, .red] s t ∧
        OnlyFlds [F.MLK_SESS_STAT_MODE n, F.MLK_SESS_STAT_TIME_LOCKED n, F.MLK_SESS_LAST_FLIP_FLIP_LO n, F.MLK_SESS_AGE_FAULTS_PENDING n] s t) ∧
    (s.tileRole = true → ∃ t b, exec .tileStatusSend s = .next t ∧
      t.cycles = max s.cycles (s.link.tstatAt + msCycles (s.fld F.MLK_TMO_TSTAT_MS)) ∧
      t.link.own = s.link.own ++ [⟨s.activePort, 0x8002, .tileStatus b, [0x8002]⟩] ∧ b.addr = s.ownAddr ∧ b.mode = s.mode.code ∧
      b.temp = s.fld F.THM_STAT_HOTTEST ∧ b.faultsPending = s.faults.unacked.length ∧ b.disc = min s.link.discSince 0xFFFF ∧
      b.lastView = s.tile.last.2 ∧ t.link.tstatAt = t.cycles ∧ t.link.discSince = 0 ∧ OnlyParts [.cycles, .wall, .link] s t) ∧
    (∀ b, s.tileRole = true → s.arrives m → s.seenSeq m.src m.seq = false → b.claim = true →
      s.flag F.MLK_CLAIM_SEEN = false ∨ outranks ⟨b.epoch, b.rank⟩ s.claim = true → ∃ t, exec (.heartbeat m b) s = .next t ∧
        t.fld F.MLK_CLAIM_EPOCH_EPOCH = b.epoch % 2 ^ 32 ∧ t.fld F.MLK_CLAIM_RANK = b.rank % 2 ∧ t.flag F.MLK_CLAIM_SEEN = true ∧
        t.flag F.MLK_EVT_CLAIM_NEW = true ∧ t.activePort = m.port ∧ (m.src, m.port) ∈ t.link.hbPort ∧
        OnlyParts [.regs, .sent, .link] s t ∧
        OnlyFlds [F.MLK_CLAIM_EPOCH_EPOCH, F.MLK_CLAIM_RANK, F.MLK_CLAIM_SEEN, F.MLK_EVT_CLAIM_NEW, F.MLK_STAT_ACTIVE_PORT] s t) ∧
    (s.senderRuns = true → s.tileRole = false → ∃ t post, exec .heartbeatSend s = .next t ∧ t.cycles = max s.cycles (s.red.hbSent + msCycles 1) ∧
      t.red.hbSent = t.cycles ∧ t.red.hbSeq = (s.red.hbSeq + 1) % 2 ^ 32 ∧
      t.sent = s.sent ++ ((List.range 8).filter s.portUp).map (fun c => Output.link c (.msg 0x8003 false false (.heartbeat (t.ownHeartbeat c)))) ++ post ∧
      (s.partnered = false → post = []) ∧ OnlyParts [.cycles, .wall, .sent, .link, .red] s t)

/-- R225, R303: a burst counts towards the view-frame of its flip; one that counts and whose FLIP_LO is not that of its view's FILL buffer
adds one to STALE_COUNT, which stops at its highest value, and changes nothing of the pipeline. -/
def Obligations.StaleBurstsAreDiscarded : Prop :=
  ∀ (s : State) (p : Nat) (room : Bool) (b : Burst) (a : Nat) (x : Area) (e : ModuleEntry) (f : FillBuf), s.tileRuns = true → p < 2 → s.portUp p = true →
    burstMalformed b = false → b.tile = s.ownAddr → s.flag F.MLK_CLAIM_SEEN = true → b.claimTag = claimTag s.claim →
    s.areaOf b.view = some (a, x) → s.burstEntry b = some e → x.fill = some f → f.flip.num % 2 ^ 32 ≠ b.flipLo →
    ∃ t, exec (.burstUnit p room b) s = .next t ∧
      t.fld F.TIL_CNT2_STALE_COUNT = min (s.fld F.TIL_CNT2_STALE_COUNT + 1) 65535 ∧ t.tile = s.tile ∧
      OnlyParts [.regs, .link] s t ∧ OnlyFlds [F.TIL_CNT2_STALE_COUNT] s t

/-- R225, R301, R302: a burst that counts and whose flip is that of its view's FILL buffer is counted there, and each of its pixels goes to the
tile pixel that its module's entry gives, and no other pixel of the store changes. -/
def Obligations.BurstsFillTheFrame : Prop :=
  ∀ (s : State) (p : Nat) (room : Bool) (b : Burst) (a : Nat) (x : Area) (e : ModuleEntry) (f : FillBuf), s.tileRuns = true → p < 2 →
    s.portUp p = true → burstMalformed b = false → b.tile = s.ownAddr → s.flag F.MLK_CLAIM_SEEN = true → b.claimTag = claimTag s.claim →
    s.areaOf b.view = some (a, x) → s.burstEntry b = some e → x.fill = some f → f.flip.num % 2 ^ 32 = b.flipLo →
    ∃ t, exec (.burstUnit p room b) s = .next t ∧ OnlyParts [.link, .tile] s t ∧
      (a, { x with fill := some { f with tally := f.tally.add b, bad := f.bad || !burstSpansOk b } }) ∈ t.tile.areas ∧
      (∀ i, i < b.count → (entryPlace e i b.row).1 < s.tileW → (entryPlace e i b.row).2 < s.tileH → ∀ k, k < 3 →
        t.half (s.framePixel a f.buf ((entryPlace e i b.row).2 * s.tileW + (entryPlace e i b.row).1) + k) =
          (frameWords b.spans i (b.pixels.getD i 0)).getD k 0 % 65536) ∧
      ∀ h, (∀ i, i < b.count → (entryPlace e i b.row).1 < s.tileW → (entryPlace e i b.row).2 < s.tileH → ∀ k, k < 3 →
        h ≠ s.framePixel a f.buf ((entryPlace e i b.row).2 * s.tileW + (entryPlace e i b.row).1) + k) → t.half h = s.half h

/-- R239 to R245, R253, R257, R260, R286, R303 to R308, R440: what makes a view-frame at a tile. FLIP under the highest claim is known, and with SENT 1
opens a FILL buffer of its view's area; FRAME_END accepts the FILL frame, or drops it with FRAME_LATE once the Cuff is open, or with FRAME_REJ
where a check fails; a burst for another tile is relayed, or abandoned with ABORT; a module table and its generation are kept; and a
SET waits for its flip, takes effect at once with IMMEDIATE, or is refused with the status of its first fault. -/
def Obligations.ViewFramesReachTiles : Prop :=
  ∀ (s : State) (m : MsgHdr),
    (∀ f, s.tileRole = true → s.arrives m → s.flag F.MLK_CLAIM_SEEN = true → s.claim = ⟨f.epoch, f.rank⟩ → m.port = s.activePort →
      s.wrongClaim m.src m.claimTag = false → s.seenSeq m.src m.seq = false →
      ∃ t, exec (.flipMessage m f) s = .next t ∧ t.knownFlip f.num = some f ∧ t.sent = s.sent ++ s.relayed m (.flip f) ∧
        (s.tileRuns = false → OnlyParts [.sent, .link, .flip] s t) ∧
        (∀ a x, s.tileRuns = true → s.areaOf f.view = some (a, x) → f.sent = true → x.fill = none →
          (∀ l, x.last = some l → l.1 < f.num) → OnlyParts [.sent, .link, .flip, .tile] s t ∧
          (a, { x with fill := some ⟨x.spare, f, emptyTally s.ownAddr, false⟩ }) ∈ t.tile.areas) ∧
        (∀ a x, s.tileRuns = true → s.areaOf f.view = some (a, x) → f.sent = false → OnlyParts [.sent, .link, .flip, .tile] s t ∧
          (a, x) ∈ t.tile.areas) ∧
        (∀ a y l, s.tileRuns = true → s.areaOf f.view = none →
          (List.range s.areaCount).all (fun b => s.tile.areas.any (fun x => x.1 == b)) = true → s.tile.areas = (a, y) :: l → f.sent = true →
          t.flag F.TIL_EVT_AREA_RECLAIM = true ∧ (a, { emptyArea f.view with fill := some ⟨0, f, emptyTally s.ownAddr, false⟩ }) ∈ t.tile.areas)) ∧
    (∀ e a x f, s.tileRuns = true → s.hears m → s.areaOf e.view = some (a, x) → x.fill = some f → f.flip.num % 2 ^ 32 = e.flipLo →
      ∃ t, exec (.frameEnd m e) s = .next t ∧
        (s.cuffIsOpen f.flip.num = true → t.flag F.TIL_EVT_FRAME_LATE = true ∧ (a, { x with fill := none }) ∈ t.tile.areas ∧
          t.fld F.TIL_CNT0_REJ_COUNT = min (s.fld F.TIL_CNT0_REJ_COUNT + 1) 65535 ∧ OnlyParts [.regs, .sent, .link, .tile] s t ∧
          OnlyFlds [F.TIL_EVT_FRAME_LATE, F.TIL_CNT0_REJ_COUNT] s t) ∧
        (s.cuffIsOpen f.flip.num = false → frameMatches f e = false ∨ claimTag ⟨f.flip.epoch, f.flip.rank⟩ ≠ claimTag s.claim →
          t.flag F.TIL_EVT_FRAME_REJ = true ∧ (a, { x with fill := none }) ∈ t.tile.areas ∧
          t.fld F.TIL_CNT0_REJ_COUNT = min (s.fld F.TIL_CNT0_REJ_COUNT + 1) 65535 ∧ OnlyParts [.regs, .sent, .link, .tile] s t ∧
          OnlyFlds [F.TIL_EVT_FRAME_REJ, F.TIL_CNT0_REJ_COUNT] s t) ∧
        (s.cuffIsOpen f.flip.num = false → frameMatches f e = true → claimTag ⟨f.flip.epoch, f.flip.rank⟩ = claimTag s.claim →
          t.tile.last = (f.flip.num, f.flip.view) ∧
          (gntDiffers f.tally e = 0 → aliveFails x.last f.flip.alive = false → OnlyParts [.sent, .link, .tile] s t ∧
            (a, { x with
              fill := none
              ready := some ⟨f.buf, f.flip.num, f.flip.gen, f.flip.alive, mask8 (f.flip.guardBits % 16) 0, e.frameCheck, e.gntCheck⟩
              last := some (f.flip.num, f.flip.alive) }) ∈ t.tile.areas) ∧
          (gntDiffers f.tally e ≠ 0 → t.flag F.TIL_EVT_GNT_MISMATCH = true) ∧
          (aliveFails x.last f.flip.alive = true → t.flag F.TIL_EVT_ALIVE_ERR = true ∧
            ∃ y h, (a, y) ∈ t.tile.areas ∧ y.ready = some h ∧ h.guard = 15))) ∧
    (∀ p room b, s.tileRole = true → p < 2 → s.portUp p = true → burstMalformed b = false → b.tile ≠ s.ownAddr → s.portUp (otherPort p) = true →
      ∃ t, exec (.burstUnit p room b) s = .next t ∧
        (room = true → t.sent = s.sent ++ [.relay (otherPort p) (.burst b)] ∧ OnlyParts [.sent, .link] s t) ∧
        (room = false → t.sent = s.sent ++ [.relay (otherPort p) .abort] ∧ t.flag F.SER_EVT_RELAY_OVF = true ∧
          OnlyParts [.regs, .sent, .link] s t ∧ OnlyFlds [F.SER_EVT_RELAY_OVF, F.SER_PORT_CNT_RELAY_OVF_COUNT (otherPort p)] s t)) ∧
    (∀ gen total first es, s.tileRole = true → s.hears m → ∃ t, exec (.moduleTable m gen total first es) s = .next t ∧
      OnlyParts [.sent, .link, .tile] s t ∧
      (255 < es.length ∨ 256 < total → Acked s t m .errLen ∧ t.link.tables = s.link.tables ∧ t.tile = s.tile) ∧
      (es.length ≤ 255 → total ≤ 256 → s.link.tables.find? (fun u => u.gen == gen) = none → Acked s t m .ok ∧
        (⟨gen, total, es.zipIdx.map (fun p => (first + p.2, p.1)), false⟩ : ModuleTable) ∈ t.link.tables)) ∧
    (∀ gen due, s.tileRole = true → s.hears m → ∃ t, exec (.mapGen m gen due) s = .next t ∧ t.tile.gens.getLast? = some (gen, due) ∧
      Acked s t m .ok ∧ OnlyParts [.sent, .link, .tile] s t ∧
      ∀ g u, s.tile.gens.getLast? = some g → s.tableOf g.1 = some u → s.link.tables.any (fun x => x.gen == gen) = false →
        (⟨gen, u.total, u.entries, true⟩ : ModuleTable) ∈ t.link.tables) ∧
    (∀ b, s.tileRole = true → s.hears m → ∃ t, exec (.setMsg m b) s = .next t ∧
      (∀ x, setStatus b = some x → Acked s t m x ∧ OnlyParts [.sent, .link] s t ∧ t.link.heldSets = s.link.heldSets) ∧
      (setStatus b = none → s.alreadySet b = true → Acked s t m .ok ∧ OnlyParts [.sent, .link] s t ∧ t.link.heldSets = s.link.heldSets) ∧
      (setStatus b = none → s.alreadySet b = false → b.immediate = false →
        (s.schedFull = true → Acked s t m .errCap ∧ OnlyParts [.sent, .link] s t ∧ t.link.heldSets = s.link.heldSets) ∧
        (s.schedFull = false → t.link.heldSets = s.link.heldSets ++ [⟨m.seq, m.port, m.src, b⟩] ∧
          ((∀ n, s.flip.last = some n → n < b.dueFlip) → Acked s t m .ok ∧ OnlyParts [.sent, .link] s t) ∧
          (∀ n, s.flip.last = some n → b.dueFlip ≤ n → Acked s t m .errLate ∧ t.flag F.MLK_EVT_LATE_SET = true))) ∧
      (setStatus b = none → s.alreadySet b = false → b.immediate = true → s.liningConflict [setChange b] = false →
        (∀ r, s.setRule [setChange b] = some r → Acked s t m r.1 ∧ t.tile = s.tile) ∧
        (s.setRule [setChange b] = none → Acked s t m .ok ∧ t.alreadySet b = true)))

/-- R246, R261, R265, R356, R386, R403, R517, R519: what messages do. ACK settles what its source owed, and a message that waits too long goes again with RETRY, three
times, and is then given up with NOACK. CMD and RSP segments gather to packets, and a partial packet is discarded after 10 ms. HATBAND,
SNAPSHOT and RESET enter a tile's schedule. A tile answers BARRIER with BARRIER_DONE, and the last of these answers the command. -/
def Obligations.LinkMessagesAct : Prop :=
  ∀ (s : State) (m : MsgHdr),
    (∀ n x, s.tileRole = false → s.hears m → ∃ t, exec (.ackMsg m n x) s = .next t ∧ OnlyParts [.sent, .link] s t ∧
      (∀ u ∈ t.link.unacked, u.port = m.port → u.seq = n → m.src ∉ u.tiles ∧ u.tiles ≠ []) ∧
      (∀ u ∈ s.link.unacked, ¬ (u.port = m.port ∧ u.seq = n) → u.tiles ≠ [] → u ∈ t.link.unacked) ∧
      ∀ u ∈ s.link.unacked, u.tiles.filter (· != m.src) ≠ [] → u.port = m.port → u.seq = n →
        { u with tiles := u.tiles.filter (· != m.src) } ∈ t.link.unacked) ∧
    (∀ p n u, s.link.unacked.find? (fun v => v.port == p && v.seq == n) = some u → ∃ t, exec (.messageResend p n) s = .next t ∧
      t.cycles = max s.cycles (u.sentAt + (usCycles 20 + 400 * s.hops)) ∧
      (u.tries < 3 → t.sent = s.sent ++ [.link u.port (.msg u.dst (asksAck u.msg) true u.msg)] ∧
        { u with tries := u.tries + 1, sentAt := t.cycles } ∈ t.link.unacked ∧ OnlyParts [.cycles, .wall, .sent, .link] s t) ∧
      (3 ≤ u.tries → s.senderRole = true → (∀ i, u.msg ≠ .barrier i) → u ∉ t.link.unacked ∧ t.flag F.MLK_EVT_NOACK = true ∧
        (∀ k ∈ u.tiles, t.flag (F.MLK_SESS_STAT_RESYNC (sessionOf k)) = true) ∧ t.sent = s.sent ∧
        OnlyParts [.regs, .cycles, .wall, .link] s t)) ∧
    (∀ seg, s.tileRole = true → s.hears m → (gatherOf s.link.gathers m.src).parts = [] →
      (m.more = true → ∃ t, exec (.cmdMsg m seg) s = .next t ∧ (gatherOf t.link.gathers m.src).parts = [(m.seq, true, seg)] ∧
        (gatherOf t.link.gathers m.src).last = s.cycles ∧ Acked s t m .ok ∧ OnlyParts [.sent, .link] s t) ∧
      (∀ a c i, m.more = false → s.engineRuns = true → s.framed seg = true → crcGood seg = true → authOf (leAt seg 5 1) = some a →
        s.cmd.comm.isSome = true → s.tagGood a seg = true → fieldsGood seg = true →
        readPayload (leAt seg 2 2) (sub seg 16 (leAt seg 10 3)) = some c →
        isStep (.chain m.src m.seq) (leAt seg 2 2) (sub seg 16 (leAt seg 10 3)) = false →
        hostCmdOf i = some (packetHdr a (.chain m.src m.seq) seg, c) → ∃ u v t, OnlyParts [.sent, .link] s u ∧ exec i u = .next v ∧
          exec (.cmdMsg m seg) s = .next t ∧ OnlyParts [.sent, .link] v t)) ∧
    (∀ src g, (s.link.gathers ++ s.link.rspGathers).find? (fun x => x.src == src) = some g →
      ∃ t, exec (.cmdPartialTimeout src) s = .next t ∧ t.cycles = max s.cycles (g.last + msCycles 10) ∧
        (∀ x ∈ t.link.gathers ++ t.link.rspGathers, x.src ≠ src) ∧ OnlyParts [.cycles, .wall, .link] s t) ∧
    (∀ seg, s.tileRole = false → s.senderRole = true → s.hears m → (gatherOf s.link.rspGathers m.src).parts = [] →
      (m.more = true → ∃ t, exec (.rspMsg m seg) s = .next t ∧ (gatherOf t.link.rspGathers m.src).parts = [(m.seq, true, seg)] ∧
        Acked s t m .ok ∧ OnlyParts [.sent, .link] s t) ∧
      (∀ w, m.more = false → s.framed seg = true → s.cmd.pushes = [] → s.cmd.tileCmds.find? (fun w => w.tiles.contains m.src &&
          leAt seg 5 1 == authCode w.hdr.auth && leAt seg 2 2 == w.op + 0x8000 && leAt seg 6 4 == w.seq) = some w → w.single = true →
        ∃ t, exec (.rspMsg m seg) s = .next t ∧ Answers s t w.hdr 0x0060 (okReply seg) ∧
          OnlyParts [.regs, .sent, .gen, .gnt, .cmd, .link] s t ∧ OnlyFlds [F.SYS_CMD_EVT_RSP_READY] s t)) ∧
    (∀ td kind id mask, s.tileRole = true → s.hears m →
      let e : SchedEntry := ⟨timeWall td, m.seq, .hatband kind id mask, false⟩
      ∃ t, exec (.hatbandMessage m td kind id mask) s = .next t ∧
        (kind = 1 → timeOk td = true → s.sched.any (sameAction e) = false → timeWall td ≤ s.wall + 86400 * 10 ^ 9 * nsUnit → s.schedFull = false →
          t.sched = s.sched ++ [e] ∧ Acked s t m (if timeWall td < s.wall then .errLate else .ok) ∧ OnlyParts [.sent, .link, .sched] s t) ∧
        (kind = 2 → s.isFlipTime (timeWall td) = false → t.flag F.LMB_EVT_HATBAND_REJ = true ∧ Acked s t m .errRange ∧
          OnlyParts [.regs, .sent, .link] s t ∧ OnlyFlds [F.LMB_EVT_HATBAND_REJ] s t) ∧
        (kind = 2 → s.isFlipTime (timeWall td) = true → Acked s t m .ok ∧ OnlyParts [.sent, .link] s t) ∧
        (kind ≠ 1 → kind ≠ 2 → Acked s t m .errRange ∧ OnlyParts [.sent, .link] s t)) ∧
    (∀ td id content, s.tileRole = true → s.hears m → timeOk td = true →
      let e : SchedEntry := ⟨timeWall td, m.seq, .snapshot id content, false⟩
      s.sched.any (sameAction e) = false → ∃ t, exec (.snapshotMessage m td id content) s = .next t ∧ OnlyParts [.sent, .link, .sched] s t ∧
        (timeWall td < s.wall → t.sched = s.sched ∧ Acked s t m .errLate) ∧
        (s.wall ≤ timeWall td → timeWall td ≤ s.wall + 86400 * 10 ^ 9 * nsUnit → s.schedFull = false → t.sched = s.sched ++ [e] ∧ Acked s t m .ok) ∧
        (s.wall + 86400 * 10 ^ 9 * nsUnit < timeWall td → t.sched = s.sched ∧ Acked s t m .errRange)) ∧
    (∀ td level cause id, s.tileRole = true → s.hears m → timeOk td = true →
      let e : SchedEntry := ⟨timeWall td, m.seq, .reset level cause id, false⟩
      s.sched.any (sameAction e) = false → ∃ t, exec (.resetMessage m td level cause id) s = .next t ∧ OnlyParts [.sent, .link, .sched] s t ∧
        (level ≠ 1 → level ≠ 2 → t.sched = s.sched ∧ Acked s t m .errRange) ∧
        (level = 1 ∨ level = 2 → s.wall ≤ timeWall td → timeWall td ≤ s.wall + 86400 * 10 ^ 9 * nsUnit → s.schedFull = false →
          t.sched = s.sched ++ [e] ∧ Acked s t m .ok)) ∧
    (∀ id addr x, s.senderRole = true → s.tileRole = false → s.hears m → ∃ t, exec (.snapshotDone m id addr x) s = .next t ∧
      (id, addr, x) ∈ t.link.snapDone ∧ (∀ y ∈ s.link.snapDone, ¬ (y.1 = id ∧ y.2.1 = addr) → y ∈ t.link.snapDone) ∧ OnlyParts [.sent, .link] s t) ∧
    (∀ id, s.tileRole = true → s.hears m → ∃ t, exec (.barrierMessage m id) s = .next t ∧
      Posts s t s.activePort 0x8002 (.barrierDone id s.ownAddr) ∧ OnlyParts [.sent, .link] s t) ∧
    (∀ id addr b, s.senderRole = true → s.tileRole = false → s.hears m → s.cmd.barriers.find? (fun x => x.id == id) = some b →
      (∃ t, exec (.barrierDone m id addr) s = .next t ∧ (∀ u ∈ t.link.unacked, u.msg = .barrier id → addr ∉ u.tiles)) ∧
      ((∀ u ∈ s.link.unacked, u.msg = .barrier id → ∀ k ∈ u.tiles, k = addr) → ∃ t, exec (.barrierDone m id addr) s = .next t ∧
        (∀ x ∈ t.cmd.barriers, x.id ≠ id) ∧
        Answers s t b.hdr 0x0032 (okReply (leBytes 2 (b.waiting.filter (· != addr)).length ++ [0, 0])) ∧
        OnlyParts [.regs, .sent, .gen, .gnt, .cmd, .link] s t ∧ OnlyFlds [F.SYS_CMD_EVT_RSP_READY] s t))

/-- R246, R248 to R250, R255, R258, R260: time, faults and errors on the link. The master of a segment asks every 250 µs, the slave stamps the request and replies,
and the TIME_INFO that follows gives the slave its delay and a sample. FAULT is logged once and acknowledged; a tile resends it until then.
A tile's own units leave in turn. ABORT and block errors are counted, and a relayed unit ends in ABORT. -/
def Obligations.TimeAndFaultsCrossTheLink : Prop :=
  ∀ (s : State) (p : Nat),
    (s.portList.contains p = true → s.portUp p = true →
      (s.timeMaster p = true → ∃ t, exec (.timeRequest p) s = .next t ∧
        t.cycles = (if (s.port p).reqAt = 0 then s.cycles else max s.cycles ((s.port p).reqAt + usCycles 250)) ∧
        (t.port p).tseq = ((s.port p).tseq + 1) % 65536 ∧ (t.port p).reqAt = t.cycles ∧ (t.port p).sentT1 = stampOf t.wall ∧
        t.sent = s.sent ++ [.link p (.time (((s.port p).tseq + 1) % 65536) 0)] ∧ OnlyParts [.cycles, .wall, .sent, .link] s t) ∧
      (s.timeMaster p = false → exec (.timeRequest p) s = .next s) ∧
      (∀ q stamp, s.timeMaster p = false → ∃ t, exec (.timeBlock p q 0 stamp) s = .next t ∧
        t.sent = s.sent ++ [.link p (.time q 1)] ∧ (⟨p, q, (stamp : Int), ((stampOf s.wall : Nat) : Int)⟩ : TimeExch) ∈ t.time.exch ∧
        (∀ x ∈ t.time.exch, x.port = p → x = ⟨p, q, (stamp : Int), ((stampOf s.wall : Nat) : Int)⟩) ∧ OnlyParts [.sent, .link, .time] s t) ∧
      (∀ q stamp, s.timeMaster p = true → (s.port p).tseq = q → ∃ t, exec (.timeBlock p q 1 stamp) s = .next t ∧
        t.sent = s.sent ++ [.link p (.msg 0xFFFE false false (.timeInfo q (s.port p).sentT1 stamp s.holdsTime))] ∧
        OnlyParts [.sent, .link] s t) ∧
      (∀ m q t1 t4 locked, m.port = p → m.checkOk = true → s.tileRole = true → s.timeMaster p = false →
        (s.time.exch.find? (fun x => x.port == p && x.tseq == q) = none → ∃ t, exec (.timeInfo m q t1 t4 locked) s = .next t ∧
          OnlyParts [.link] s t) ∧
        (∀ e, s.time.exch.find? (fun x => x.port == p && x.tseq == q) = some e → ∃ t, exec (.timeInfo m q t1 t4 locked) s = .next t ∧
          (locked = false → OnlyParts [.link, .time] s t ∧ e ∉ t.time.exch) ∧
          (locked = true → s.timeMode = .locked ∨ s.timeMode = .acquire → ∃ (d : Int) (b : Nat), b < 2 ∧
            (2 * d - (((t4 : Int) - (t1 : Int)) - (e.t3 - e.t2))).natAbs ≤ 1 ∧ t.fld (F.MLK_PORT_DELAY_DELAY_PS p) = psField d b ∧
            t.time.samples = (-((e.t2 - (t1 : Int)) - d) :: s.time.samples).take 8 ∧ t.time.chainAt = some s.cycles ∧
            OnlyParts [.regs, .fresh, .link, .time] s t)))) ∧
    (∀ m f, s.mode = .sender → s.senderRole = true → s.tileRole = false → s.hears m → ∃ t, exec (.faultMsg m f) s = .next t ∧
      (s.faults.recs.any (fun g => g.addr == f.addr && g.record == f.record) = true →
        Posts s t m.port f.addr (.faultAck f.record) ∧ OnlyParts [.sent, .link] s t) ∧
      (s.faults.recs.any (fun g => g.addr == f.addr && g.record == f.record) = false →
        t.faults = { s.faults with recs := s.faults.recs ++ [f], total := s.faults.total + 1 } ∧
        (s.hasStandby = false → Posts s t m.port f.addr (.faultAck f.record)) ∧
        (s.hasStandby = true → ∃ pos, ⟨pos, s.cycles, .faultAck m.port f.addr f.record⟩ ∈ t.repl.waiting) ∧
        OnlyParts [.sent, .link, .faults, .repl, .red] s t)) ∧
    (∀ m r, s.tileRole = true → s.hears m → ∃ t, exec (.faultAck m r) s = .next t ∧ r ∉ t.faults.unacked ∧
      (∀ x ∈ s.faults.unacked, x ≠ r → x ∈ t.faults.unacked) ∧ t.faults.recs = s.faults.recs ∧ OnlyParts [.sent, .link, .faults] s t) ∧
    (∀ r f, s.tileRole = true → s.faults.unacked.contains r = true →
      s.faults.recs.find? (fun f => f.addr == s.ownAddr && f.record == r) = some f → ∃ t, exec (.faultResend r) s = .next t ∧
        t.link.own = s.link.own ++ [⟨0, 0x8003, .fault f, []⟩, ⟨1, 0x8003, .fault f, []⟩] ∧ OnlyParts [.link] s t) ∧
    (∀ u, s.portUp p = true → s.link.own.find? (fun v => v.port == p) = some u → ∃ t, exec (.ownUnitSend p) s = .next t ∧
      t.link.own = s.link.own.erase u ∧ t.sent = s.sent ++ [.link p (.msg u.dst (asksAck u.msg) false u.msg)] ∧
      (t.port p).nextSeq = nextMsgSeq (s.port p).nextSeq ∧
      t.link.unacked = s.link.unacked ++ (if asksAck u.msg = true then [⟨p, (s.port p).nextSeq, u.dst, u.msg, u.tiles, s.cycles, 0⟩] else []) ∧
      OnlyParts [.sent, .link] s t) ∧
    (s.portList.contains p = true → ∀ relayed,
      (∃ t, exec (.abortBlock p relayed) s = .next t ∧ t.flag F.MLK_EVT_ABORT_RX = true ∧
        t.fld (F.MLK_PORT_BLK_CNT_ABORT_COUNT p) = min (s.fld (F.MLK_PORT_BLK_CNT_ABORT_COUNT p) + 1) 65535 ∧
        t.sent = s.sent ++ (if relayed = true ∧ s.tileRole = true ∧ s.portUp (otherPort p) = true then [.relay (otherPort p) .abort] else []) ∧
        OnlyParts [.regs, .sent, .link] s t ∧ OnlyFlds [F.MLK_EVT_ABORT_RX, F.MLK_PORT_BLK_CNT_ABORT_COUNT p] s t) ∧
      (∃ t, exec (.blockError p relayed) s = .next t ∧ t.flag F.MLK_EVT_BLK_ERR = true ∧
        t.fld (F.MLK_PORT_BLK_CNT_BLK_ERR_COUNT p) = min (s.fld (F.MLK_PORT_BLK_CNT_BLK_ERR_COUNT p) + 1) 65535 ∧
        t.sent = s.sent ++ (if relayed = true ∧ s.tileRole = true ∧ s.portUp (otherPort p) = true then [.relay (otherPort p) .abort] else []) ∧
        OnlyParts [.regs, .sent] s t ∧ OnlyFlds [F.MLK_EVT_BLK_ERR, F.MLK_PORT_BLK_CNT_BLK_ERR_COUNT p] s t))

/-- R233, R275 to R292, R300: lanes. A KNUCKLE moves each lane of its port by the received TX_SET, keeps the partner's RX_OK and WMIN, drops from the transmit
set the lanes that RX_OK does not name, and is answered. A lane in the set that fails is LOST and another trains again; with its last
lane a segment is DOWN. A lane that has passed PRBS31 is READY; the transmit set forms 20 ms after the partner's first lane, or when all are
ready. Adaptation freezes on a window with few transitions, an eye below its minimum sets EYE_LOW, and a recalibration takes a
measurement that agrees with the one before within a code. -/
def Obligations.LanesTrainAndFail : Prop :=
  ∀ (s : State) (p : Nat),
    (∀ txSet rxOk wmin skew bip, s.portList.contains p = true → s.portOn p = true → (∀ x ∈ bip, x < 32) → (∀ x ∈ skew, x ≤ 32) →
      ∃ t, exec (.knuckle p txSet rxOk wmin skew bip) s = .next t ∧ t.sent = s.sent ++ [.link p (t.ownKnuckle p)] ∧
        (∀ l, l < 4 → t.laneMode (4 * p + l) = (if s.laneMode (4 * p + l) = 4 then 1
          else if s.laneMode (4 * p + l) = 2 ∨ s.laneMode (4 * p + l) = 3 then (if laneIn txSet l = true then 3 else 2)
          else s.laneMode (4 * p + l))) ∧
        t.fld (F.SER_PORT_STAT_RX_SET p) = laneMask (fun l => t.laneMode (4 * p + l) == 3) ∧
        t.fld (F.SER_PORT_STAT_WMIN_RX p) = wmin % 16 ∧ (t.partnerOk p).1 = rxOk ∧
        t.fld (F.SER_PORT_STAT_TX_SET p) = (if s.fld (F.SER_PORT_STAT_TX_SET p) = 0 then 0 else maskAnd rxOk (s.sendable p)) ∧
        OnlyParts [.regs, .sent, .link, .scan, .lanes] s t) ∧
    (∀ n hiBer skewed relayed, s.laneOfPort n = some p →
      (s.laneMode n = 3 → (∃ l, l < 4 ∧ 4 * p + l ≠ n ∧ s.laneMode (4 * p + l) = 3) →
        ∃ t, exec (.laneLost n hiBer skewed relayed) s = .next t ∧ t.laneMode n = 4 ∧ t.flag (F.SER_LANE_EVT_LOST n) = true ∧
          t.flag F.SER_EVT_LANE_LOST = true ∧ (hiBer = true → t.flag (F.SER_LANE_EVT_HI_BER n) = true) ∧
          t.sent = s.sent ++ (if relayed = true ∧ s.tileRole = true ∧ s.portUp (otherPort p) = true then [.relay (otherPort p) .abort] else []) ∧
          OnlyParts [.regs, .sent, .lanes] s t) ∧
      (s.laneMode n = 3 → (∀ l, l < 4 → 4 * p + l ≠ n → s.laneMode (4 * p + l) ≠ 3) →
        ∃ t, exec (.laneLost n hiBer skewed relayed) s = .next t ∧ t.laneMode n = 4 ∧ t.fld (F.SER_PORT_STAT_RX_SET p) = 0 ∧
          t.fld (F.MLK_PORT_STAT_STATE p) = 0 ∧ OnlyParts [.regs, .sent, .link, .lanes] s t) ∧
      (s.laneMode n = 1 ∨ s.laneMode n = 2 → ∃ t, exec (.laneLost n hiBer skewed relayed) s = .next t ∧ t.laneMode n = 1 ∧
        (n, s.cycles) ∈ t.lanes.since ∧ OnlyParts [.regs, .lanes] s t)) ∧
    (∀ n skew, s.laneOfPort n = some p → s.laneMode n = 1 → s.flag (F.SER_LANE_CTL_PRBS_EN n) = false →
      s.flag (F.SER_LANE_CTL_FORCE_OUT n) = false →
      (32 < skew → ∃ t, exec (.laneTrained n skew) s = .next t ∧ t.laneMode n = 1 ∧ t.flag (F.SER_LANE_EVT_DESKEW_ERR n) = true ∧
        t.flag F.SER_EVT_DESKEW_ERR = true ∧ OnlyParts [.regs] s t ∧ OnlyFlds [F.SER_LANE_EVT_DESKEW_ERR n, F.SER_EVT_DESKEW_ERR] s t) ∧
      (∀ c, skew ≤ 32 → s.lanes.since.find? (fun x => x.1 == n) = some (n, c) → ∃ t, exec (.laneTrained n skew) s = .next t ∧ t.laneMode n = 2 ∧
        t.cycles = max s.cycles (c + (if s.portUp p = true then msCycles (10 * s.fld F.SER_CTL_REJOIN_10MS) else msCycles 1)) ∧
        t.flag (F.SER_LANE_STAT_PRBS_LOCK n) = true ∧ OnlyParts [.regs, .cycles, .wall] s t ∧
        OnlyFlds [F.SER_LANE_STAT_STATE n, F.SER_LANE_STAT_CDR_LOCK n, F.SER_LANE_STAT_BLOCK_LOCK n, F.SER_LANE_STAT_PRBS_LOCK n] s t)) ∧
    (s.portList.contains p = true → s.fld (F.SER_PORT_STAT_TX_SET p) = 0 → (s.partnerOk p).1 ≠ 0 →
      let mask := maskAnd (s.partnerOk p).1 (s.sendable p)
      ∃ t, exec (.txSetForm p) s = .next t ∧ t.fld (F.SER_PORT_STAT_TX_SET p) = mask ∧
        t.fld (F.MLK_PORT_STAT_LANES_UP p) = maskCount mask ∧
        t.cycles = (if maskAnd (s.partnerOk p).1 (s.configured p) = s.configured p then s.cycles else max s.cycles ((s.partnerOk p).2 + msCycles 20)) ∧
        (mask ≠ 0 → t.flag F.SER_EVT_RESTRIPE = true ∧
          (s.fld (F.SER_PORT_STAT_RX_SET p) ≠ 0 → s.fld (F.MLK_PORT_STAT_STATE p) = 0 → t.fld (F.MLK_PORT_STAT_STATE p) = 1)) ∧
        OnlyParts [.regs, .cycles, .wall, .link, .scan] s t) ∧
    (∀ n, s.hasLane n = true →
      (∀ k codes, k * 256 < s.fld F.SER_CTL_ADAPT_MIN * 65536 → s.flag (F.SER_LANE_STAT_ADAPT_FROZEN n) = false →
        ∃ t, exec (.adaptFreeze n k codes) s = .next t ∧ t.flag (F.SER_LANE_STAT_ADAPT_FROZEN n) = true ∧
          t.flag (F.SER_LANE_EVT_ADAPT_FREEZE n) = true ∧ t.flag F.SER_EVT_ADAPT_FREEZE = true ∧
          t.fld (F.SER_LANE_CNT_FREEZE_COUNT n) = min (s.fld (F.SER_LANE_CNT_FREEZE_COUNT n) + 1) 65535 ∧
          t.reg (F.SER_LANE_ADAPT_OFFSET n).addr = s.reg (F.SER_LANE_ADAPT_OFFSET n).addr ∧ OnlyParts [.regs] s t ∧
          OnlyFlds [F.SER_LANE_STAT_ADAPT_FROZEN n, F.SER_LANE_EVT_ADAPT_FREEZE n, F.SER_EVT_ADAPT_FREEZE, F.SER_LANE_CNT_FREEZE_COUNT n] s t) ∧
      (∀ k codes, s.fld F.SER_CTL_ADAPT_MIN * 65536 ≤ k * 256 → ∃ t, exec (.adaptFreeze n k codes) s = .next t ∧
        t.flag (F.SER_LANE_STAT_ADAPT_FROZEN n) = false ∧ t.fld (F.SER_LANE_ADAPT_OFFSET n) = s.fld (F.SER_LANE_ADAPT_OFFSET n) ∧
        (∀ g : Fld, g.ok = true → g.addr = (F.SER_LANE_ADAPT_OFFSET n).addr → (F.SER_LANE_ADAPT_OFFSET n).apart g = true → t.fld g = g.of codes) ∧
        OnlyParts [.regs] s t) ∧
      (∀ w h, w < 65536 → h < 65536 → ∃ t, exec (.eyeScan n w h) s = .next t ∧ t.fld (F.SER_LANE_EYE_EYE_W_MUI n) = w ∧ t.fld (F.SER_LANE_EYE_EYE_H_MV n) = h ∧
        (w < s.fld (F.SER_LANE_EYE_MIN_W_MIN_MUI n) ∨ h < s.fld (F.SER_LANE_EYE_MIN_H_MIN_MV n) →
          t.flag (F.SER_LANE_EVT_EYE_LOW n) = true ∧ t.flag F.SER_EVT_EYE_LOW = true) ∧
        (s.fld (F.SER_LANE_EYE_MIN_W_MIN_MUI n) ≤ w → s.fld (F.SER_LANE_EYE_MIN_H_MIN_MV n) ≤ h →
          t.flag (F.SER_LANE_EVT_EYE_LOW n) = s.flag (F.SER_LANE_EVT_EYE_LOW n)) ∧
        OnlyParts [.regs] s t ∧ OnlyFlds [F.SER_LANE_EYE_EYE_W_MUI n, F.SER_LANE_EYE_EYE_H_MV n, F.SER_LANE_EVT_EYE_LOW n, F.SER_EVT_EYE_LOW] s t)) ∧
    (s.lanes.recal = [] → ∃ t, exec (.recalTrigger true) s = .next t ∧ t.fld F.SER_STAT_RECAL_TEMP = s.fld F.THM_STAT_HOTTEST ∧
      t.lanes.recal = s.recalLanes.map (fun n => (n, none)) ∧ OnlyParts [.regs, .lanes] s t ∧
      OnlyFlds [F.SER_STAT_RECAL_TEMP, F.SER_STAT_RECAL_COUNT] s t) ∧
    (∀ n a, s.hasLane n = true →
      (s.lanes.recal.find? (fun x => x.1 == n) = some (n, none) → ∃ t, exec (.recalApply n a) s = .next t ∧
        t.lanes.recal.find? (fun x => x.1 == n) = some (n, some a) ∧ OnlyParts [.lanes] s t) ∧
      (∀ b, s.lanes.recal.find? (fun x => x.1 == n) = some (n, some b) →
        ((b - a).natAbs ≤ 1 → ∃ t, exec (.recalApply n a) s = .next t ∧ t.fld (F.SER_LANE_ADAPT_OFFSET n) = unsigned 8 a ∧
          t.fld (F.SER_LANE_RECAL_LAST_TEMP n) = s.fld F.SER_STAT_RECAL_TEMP ∧ t.lanes.recal.find? (fun x => x.1 == n) = none ∧
          OnlyParts [.regs, .lanes] s t ∧ OnlyFlds [F.SER_LANE_ADAPT_OFFSET n, F.SER_LANE_RECAL_LAST_TEMP n] s t) ∧
        (1 < (b - a).natAbs → ∃ t, exec (.recalApply n a) s = .next t ∧ t.flag (F.SER_LANE_EVT_RECAL_REJ n) = true ∧
          t.flag F.SER_EVT_RECAL_REJ = true ∧ t.lanes.recal.find? (fun x => x.1 == n) = some (n, none) ∧ OnlyParts [.regs, .lanes] s t ∧
          OnlyFlds [F.SER_LANE_RECAL_RECAL_REJ_COUNT n, F.SER_LANE_EVT_RECAL_REJ n, F.SER_EVT_RECAL_REJ] s t)))

/-- R64, R65, R181, R187, R200, R221, R239, R245, R306, R311, R313, R341, R345, R358: the Cuff, the flip, and what is sent and built for it. The Cuff opens at its wall time; a view-frame not sent whole by then
is late, and a tile builds the flip's frame or sets NO_FLIP. A flip passes to the next number, takes what was due, and shows the READY
frame. FLIP goes twice, the second copy 1 µs after the first; each burst carries one footprint row. A build ends in the grey buffer
that is not on the lamps, an upload ends by its deadline, and a visit begins at its cycle. -/
def Obligations.CuffsAndFlips : Prop :=
  ∀ (s : State),
    (∀ n, s.flips = true → s.nextFlip = n → s.flip.cuffed ≠ some n → ∃ t, exec .cuffOpen s = .next t ∧ t.flip.cuffed = some n ∧
      t.flip.next = some n ∧ s.cuffOpens n ≤ t.wall ∧ (s.cuffOpens n ≤ s.wall → t.wall = s.wall) ∧
      (∀ f, s.tileRole = false → s.mode = .sender → s.scan.frame = some f → f.view < 8 → f.flip = n → f.whole = false → f.late = false →
        t.scan.frame = some { f with late := true } ∧ t.flag F.CMP_SCAN_EVT_SCAN_LATE = true ∧
        t.fld (F.CMP_VIEW_STAT_LATE_COUNT f.view) = min (s.fld (F.CMP_VIEW_STAT_LATE_COUNT f.view) + 1) 65535 ∧
        t.flag (F.CMP_VIEW_STAT_LATE f.view) = true ∧ t.flag (F.CMP_VIEW_STAT_SENT f.view) = false ∧
        OnlyParts [.regs, .cycles, .wall, .flip, .scan, .video] s t) ∧
      (s.tileRole = true → s.mode = .tile → s.knownFlip n = none → t.flag F.TIL_EVT_NO_FLIP = true ∧
        t.fld F.TIL_CNT2_NO_FLIP_COUNT = min (s.fld F.TIL_CNT2_NO_FLIP_COUNT + 1) 65535) ∧
      (∀ f, s.tileRole = true → s.mode = .tile → s.knownFlip n = some f → t.flag F.TIL_STAT_BUILD_BUSY = true ∧
        t.fld F.TIL_STAT_VIEW = f.view % 8 ∧ ∃ b, t.tile.build = some b ∧ b.flip = f)) ∧
    (∀ n misses, s.flips = true → s.nextFlip = n → s.flip.cuffed = some n →
      (s.tileRole = false → ∃ t, exec (.flip misses) s = .next t ∧ t.flip.last = some n ∧ t.flip.lastAt = t.wall ∧
        s.senderFlipTime n ≤ t.wall ∧ (t.flip.next = some ((n + 1) % 2 ^ 64) ∨ t.flip.next = none) ∧ ∀ x ∈ t.txn.accepted, n < x.flip) ∧
      (∀ f, s.tileRole = true → s.knownFlip n = some f → s.tile.build = none → s.txn.accepted = [] → s.link.heldSets = [] →
        ∃ t, exec (.flip misses) s = .next t ∧ t.flip.last = some n ∧ t.flip.next = some ((n + 1) % 2 ^ 64) ∧ timeWall f.time ≤ t.wall ∧
          (s.tile.next = some n → t.tile.front = 1 - s.tile.front ∧ t.tile.next = none) ∧
          (∀ a x h, (a, x) ∈ s.tile.areas → x.ready = some h → h.flip = n → (a, { x with shown := some h, ready := none }) ∈ t.tile.areas) ∧
          ∀ a x, (a, x) ∈ s.tile.areas → (∀ h, x.ready = some h → h.flip ≠ n) → (a, x) ∈ t.tile.areas)) ∧
    (∀ f, s.scan.frame = some f → s.mode = .sender → s.tileRole = false → f.late = false →
      (f.copies = 0 → ∃ t, exec .flipSend s = .next t ∧ t.cycles = max s.cycles f.pass ∧
        t.sent = s.sent ++ ((List.range 8).filter s.portUp).map (fun p => Output.link p (.msg 0xFFFF false false (.flip (s.frameFlip f)))) ∧
        t.scan = { s.scan with frame := some { f with copies := 1, copyAt := t.cycles } } ∧ OnlyParts [.cycles, .wall, .sent, .link, .scan] s t) ∧
      (f.copies = 1 → f.cur = none → (∃ q, pickChain f.queues = some q) → (∀ q ∈ f.queues, q.entries ≠ []) →
        ∃ t, exec .flipRepeat s = .next t ∧ t.cycles = max s.cycles (f.copyAt + usCycles 1) ∧
          t.sent = s.sent ++ ((List.range 8).filter s.portUp).map (fun p => Output.link p (.msg 0xFFFF false false (.flip (s.frameFlip f)))) ∧
          t.scan = { s.scan with frame := some { f with copies := 2 } } ∧ OnlyParts [.cycles, .wall, .sent, .scan] s t) ∧
      (∀ c e row f0 stalls, f.copies = 2 → f.whole = false → s.cuffIsOpen f.flip = false → f.turn = some (c, e, row, f0) →
        ∃ t b pre post, exec (.scanOutBurst stalls) s = .next t ∧ t.sent = s.sent ++ pre ++ Output.link c (.burst b) :: post ∧
          b.view = f.view ∧ b.row = row ∧ b.flipLo = f.flip % 2 ^ 32 ∧ b.tile = mapFld s.map.active e 0 15 0 ∧
          b.module = mapFld s.map.active e 1 31 24 ∧ b.count = (footprint s.map.active e).1 ∧ b.pixels.length = b.count ∧
          (row + 1 < (footprint s.map.active e).2 → ∃ g, t.scan.frame = some g ∧ g.cur = some (c, e, row + 1) ∧
            g.cycles = f0.cycles + (b.count + 15) / 16 + stalls ∧ g.queues = f0.queues))) ∧
    (∀ b, s.tile.build = some b →
      let g := conceal b.conceal b.spread s.lampsPer s.tileW b.hidden b.modules b.lamps
      (s.untilCycle (b.since + b.takes)).wall ≤ (s.untilCycle (b.since + b.takes)).flipTime b.flip.num →
      ∃ t, exec .buildDone s = .next t ∧ t.tile.build = none ∧ t.tile.next = some b.flip.num ∧ t.tile.built = true ∧
        t.flag F.TIL_STAT_BUILD_BUSY = false ∧ t.fld F.TIL_BUILD_LAST_100NS = min (b.takes / 50) 65535 ∧
        t.cycles = max s.cycles (b.since + b.takes) ∧ t.lamp.upload.isSome = true ∧
        (∀ l, l < g.length → t.half (storeAt (greyBase (1 - s.tile.front)) + l) = g.getD l 0 % 65536) ∧
        OnlyParts [.regs, .cycles, .wall, .tile, .lamp] s t ∧
        OnlyFlds [F.TIL_STAT_BUILD_BUSY, F.TIL_BUILD_LAST_100NS, F.TIL_BUILD_MAX_100NS] s t) ∧
    (∀ from_ n, s.lamp.upload = some from_ → s.tile.next = some n → ∃ t, exec .uploadDeadline s = .next t ∧ t.lamp.upload = none ∧
      (∃ v, t.lamp.visor = some v ∧ v.flip = n) ∧
      edgeFrom (s.flipTime n) - ofNs (10 * ((if s.lamp.latch = [] then 4 else 8) + 2)) ≤ t.wall) ∧
    (∀ e misses, s.lamp.e0 = some e → s.tileRole = true → s.fld F.LMB_STAT_VISIT + 1 < s.visitCount →
      ∃ t, exec (.visitStart misses) s = .next t ∧ t.fld F.LMB_STAT_VISIT = (s.fld F.LMB_STAT_VISIT + 1) % 4096 ∧
        e + ofNs (10 * s.visitCycle (s.fld F.LMB_STAT_VISIT + 1)) ≤ t.wall ∧
        ∀ m ∈ misses, m.port < 64 → m.pin < 10 → t.bit (F.LMB_PORT_STAT_VISOR m.port) m.pin = true ∧ t.flag F.LMB_EVT_VISOR_MISMATCH = true)

/-- R196, R319, R320, R333, R351 to R353, R375, R376: the Lining, the map and the drivers. A staging check is held once it is done; a copy makes
the two banks equal. A return frame that is good and awaited gives its context's status and check, and a check that differs is an
ECHO_MISMATCH; a lost one counts NO_ECHO. An absent context is polled every 100 ms. A wrong supply darkens its bank. Diagnostic rounds
and probe periods begin at their times. -/
def Obligations.LiningAndDrivers : Prop :=
  ∀ (s : State),
    (s.tileRole = true → s.flag F.TIL_LINING_STAT_STAGE_BUSY = true → ∃ t, exec .liningStageCheckDone s = .next t ∧
      t.flag F.TIL_LINING_STAT_STAGE_BUSY = false ∧ t.tile = { s.tile with check := some s.stagingCheck } ∧
      OnlyParts [.regs, .tile] s t ∧ OnlyFlds [F.TIL_LINING_STAT_STAGE_BUSY] s t) ∧
    (s.tileRole = true → s.flag F.TIL_LINING_STAT_COPY_BUSY = true → s.tile.bank ≤ 1 → s.canon → ∃ t, exec .liningCopyDone s = .next t ∧
      (∀ h, h < 0x180000 → t.half (storeAt (liningBase (1 - s.tile.bank)) + h) = s.half (storeAt (liningBase s.tile.bank) + h)) ∧
      (∀ h, h < storeAt (liningBase (1 - s.tile.bank)) ∨ storeAt (liningBase (1 - s.tile.bank)) + 0x180000 ≤ h → t.half h = s.half h) ∧
      t.flag F.TIL_LINING_STAT_COPY_BUSY = false ∧ t.flag F.TIL_LINING_STAT_PENDING = s.tile.swap.isSome ∧
      t.flag F.TIL_EVT_LINING_SWAP = true ∧ OnlyParts [.regs, .tile] s t ∧
      OnlyFlds [F.TIL_LINING_STAT_COPY_BUSY, F.TIL_LINING_STAT_PENDING, F.TIL_EVT_LINING_SWAP] s t) ∧
    (s.flag F.CMP_MAP_STAT_COPY_BUSY = true → ∃ t, exec .mapCopyDone s = .next t ∧ t.map = { s.map with staging := s.map.active } ∧
      t.flag F.CMP_MAP_STAT_COPY_BUSY = false ∧ t.flag F.CMP_MAP_STAT_PENDING = false ∧ t.flag F.CMP_SCAN_EVT_MAP_SWAP = true ∧
      OnlyParts [.regs, .map, .scan] s t ∧ OnlyFlds [F.CMP_MAP_STAT_COPY_BUSY, F.CMP_MAP_STAT_PENDING, F.CMP_SCAN_EVT_MAP_SWAP] s t) ∧
    (∀ p a header ws crc, p < 64 → a.ctx < 4096 → s.awaited p = some a →
      (a.kind = 0 → frameGood a header ws crc = true → ∃ t, exec (.returnFrame p header ws crc) s = .next t ∧ t.awaited p = none ∧
        t.fld (F.LMB_CTX_STAT_STATUS a.ctx) = ws.getD 0 0 % 65536 ∧ t.fld (F.LMB_CTX_ECHO_EXPECT a.ctx) = a.expect % 65536 ∧
        t.fld (F.LMB_CTX_ECHO_CHECK a.ctx) = ws.getD 1 0 % 65536 ∧ t.flag (F.LMB_CTX_STAT_ABSENT a.ctx) = false ∧
        (statusFlags (ws.getD 0 0) = true → t.flag F.LMB_EVT_DRV_FLAG = true) ∧
        (ws.getD 1 0 ≠ a.expect → t.flag F.LMB_EVT_ECHO_MISMATCH = true) ∧
        (statusFlags (ws.getD 0 0) = false → ws.getD 1 0 = a.expect → t.flag (F.LMB_CTX_STAT_PRESENT a.ctx) = true ∧
          (t.ctxRun a.ctx).bad = 0 ∧ (t.ctxRun a.ctx).silent = 0 ∧ OnlyParts [.regs, .lamp] s t)) ∧
      (frameGood a header ws crc = false → exec (.returnFrame p header ws crc) s = exec (.returnTimeout p) s) ∧
      (∃ t, exec (.returnTimeout p) s = .next t ∧ t.awaited p = none ∧ t.flag F.LMB_EVT_NO_ECHO = true ∧
        ((s.ctxRun a.ctx).silent = 2 → t.flag (F.LMB_CTX_STAT_ABSENT a.ctx) = true ∧ t.flag F.LMB_EVT_ABSENT = true) ∧
        ((s.ctxRun a.ctx).silent ≠ 2 → (s.ctxRun a.ctx).bad ≠ 2 → a.kind ≠ 2 → OnlyParts [.regs, .lamp] s t ∧
          (t.ctxRun a.ctx).silent = (s.ctxRun a.ctx).silent + 1 ∧ (t.ctxRun a.ctx).bad = (s.ctxRun a.ctx).bad + 1))) ∧
    (∀ x, x < 4096 → s.flag (F.LMB_CTX_STAT_ABSENT x) = true → s.flag (F.LMB_CTX_CTL_EN x) = true → s.portDark (x / 64) = false →
      s.awaited (x / 64) = none → ∃ t, exec (.absentPoll x) s = .next t ∧ t.cycles = max s.cycles ((s.ctxRun x).polled + msCycles 100) ∧
        t.awaited (x / 64) = some ⟨x / 64, x, 0, (s.ctxRun x).crc⟩ ∧ (t.ctxRun x).polled = t.cycles ∧
        t.flag (F.LMB_PORT_STAT_RTN_BUSY (x / 64)) = true ∧ OnlyParts [.regs, .cycles, .wall, .lamp] s t ∧
        OnlyFlds [F.LMB_PORT_STAT_RTN_BUSY (x / 64)] s t) ∧
    (∀ b v, s.tileRole = true → b < 8 → v < 4 → ∃ t, exec (.bankSupplyChange b v) s = .next t ∧ t.fld (F.LMB_BANK_SENSED b) = v ∧
      t.flag (F.LMB_BANK_FAULT b) = ((List.range 8).any (fun i => s.flag (F.LMB_PORT_CTL_EN (8 * b + i))) && v != s.fld (F.LMB_BANK_VOLT b) + 1) ∧
      (s.flag (F.LMB_BANK_FAULT b) = false → t.flag (F.LMB_BANK_FAULT b) = true → t.flag F.LMB_EVT_BANK_FAULT = true) ∧
      (t.flag (F.LMB_BANK_FAULT b) = true → ∀ p, p / 8 = b → t.portDark p = true)) ∧
    (s.mode = .tile → s.flag F.LMB_DIAG_CTL_EN = true → s.diag.round = none → ∃ t, exec .roundStart s = .next t ∧
      t.cycles = max s.cycles (s.diag.lastRound + msCycles (s.fld F.LMB_DIAG_TIME_ROUND_MS)) ∧ t.diag.lastRound = t.cycles ∧ t.diag.due = false ∧
      t.fld F.LMB_DIAG_STAT_ROUNDS = (s.fld F.LMB_DIAG_STAT_ROUNDS + 1) % 65536 ∧
      (s.diag.lastRound + msCycles (s.fld F.LMB_DIAG_TIME_ROUND_MS) < s.cycles → 0 < s.fld F.LMB_DIAG_STAT_ROUNDS →
        t.flag F.LMB_DIAG_EVT_ROUND_SLIP = true) ∧ OnlyParts [.regs, .cycles, .wall, .diag] s t) ∧
    (s.tileRole = true → ∃ t, exec .probePeriodEnd s = .next t ∧ t.diag.due = true ∧ t.diag.before = s.diag.sampled ∧ t.diag.sampled = [] ∧
      (s.wall / ofMs (max 1 (s.fld F.LMB_DIAG_TIME_PROBE_MS)) + 1) * ofMs (max 1 (s.fld F.LMB_DIAG_TIME_PROBE_MS)) ≤ t.wall ∧
      OnlyParts [.cycles, .wall, .diag] s t)
end

