-- ==== Sys2Proof/Laws/Sparse.lean ====
section
/-! SUPPORT. Sparse tables: what a read after a write gives, and that every operation keeps the canonical form. -/

namespace Sys2Proof.Machine.Sparse

variable {α : Type}

/-! Reading -/

theorem find_erase_same (m : List (Nat × α)) (k : Nat) : find (erase m k) k = none := by
  induction m with
  | nil => rfl
  | cons p m ih =>
    obtain ⟨a, v⟩ := p
    by_cases h : a = k
    · simpa [erase, h] using ih
    · simpa [erase, h, find] using ih

theorem find_erase_ne (m : List (Nat × α)) {k j : Nat} (h : j ≠ k) : find (erase m k) j = find m j := by
  induction m with
  | nil => rfl
  | cons p m ih =>
    obtain ⟨a, v⟩ := p
    by_cases ha : a = k
    · subst ha
      simpa [erase, find, Ne.symm h] using ih
    · by_cases hj : a = j
      · subst hj
        simp [erase, h, find]
      · simpa [erase, ha, find, hj] using ih

theorem find_insert_same (m : List (Nat × α)) (k : Nat) (v : α) (h : find m k = none) : find (insert m k v) k = some v := by
  induction m with
  | nil => simp [insert, find]
  | cons p m ih =>
    obtain ⟨a, w⟩ := p
    by_cases ha : a = k
    · simp [find, ha] at h
    · have h' : find m k = none := by simpa [find, ha] using h
      by_cases hl : k < a
      · simp [insert, hl, find]
      · simp [insert, hl, find, ha, ih h']

theorem find_insert_ne (m : List (Nat × α)) {k j : Nat} (v : α) (h : j ≠ k) : find (insert m k v) j = find m j := by
  induction m with
  | nil => simp [insert, find, Ne.symm h]
  | cons p m ih =>
    obtain ⟨a, w⟩ := p
    by_cases hl : k < a
    · simp [insert, hl, find, Ne.symm h]
    · by_cases hj : a = j
      · subst hj
        simp [insert, hl, find]
      · simp [insert, hl, find, hj, ih]

/-- A key read after it was written gives what was written. -/
@[simp] theorem get_put_same [DecidableEq α] (d : Nat → α) (m : List (Nat × α)) (k : Nat) (v : α) : get d (put d m k v) k = v := by
  unfold put get
  split
  · next h => simp [find_erase_same, h]
  · simp [find_insert_same _ _ _ (find_erase_same m k)]

/-- A write leaves every other key as it was. -/
theorem get_put_ne [DecidableEq α] (d : Nat → α) (m : List (Nat × α)) {k j : Nat} (v : α) (h : j ≠ k) :
    get d (put d m k v) j = get d m j := by
  unfold put get
  split
  · simp [find_erase_ne m h]
  · simp [find_insert_ne _ v h, find_erase_ne m h]

/-! The canonical form -/

/-- The canonical form, as two properties of the list. -/
theorem wf_iff [DecidableEq α] (d : Nat → α) (m : List (Nat × α)) :
    wf d m = true ↔ m.Pairwise (fun p q => p.1 < q.1) ∧ ∀ p ∈ m, p.2 ≠ d p.1 := by
  induction m with
  | nil => simp [wf]
  | cons p m ih =>
    obtain ⟨a, v⟩ := p
    cases m with
    | nil => simp [wf]
    | cons q rest =>
      obtain ⟨b, w⟩ := q
      have key : wf d ((a, v) :: (b, w) :: rest) = true ↔ (v ≠ d a ∧ a < b) ∧ wf d ((b, w) :: rest) = true := by
        simp [wf, Bool.and_eq_true, and_assoc]
      rw [key, ih]
      constructor
      · rintro ⟨⟨hv, hab⟩, hp, hd⟩
        refine ⟨List.pairwise_cons.mpr ⟨?_, hp⟩, ?_⟩
        · intro r hr
          rcases List.mem_cons.mp hr with h | h
          · subst h; exact hab
          · exact lt_trans hab ((List.pairwise_cons.mp hp).1 r h)
        · intro r hr
          rcases List.mem_cons.mp hr with h | h
          · subst h; exact hv
          · exact hd r h
      · rintro ⟨hp, hd⟩
        have h1 := List.pairwise_cons.mp hp
        exact ⟨⟨hd (a, v) (by simp), h1.1 (b, w) (by simp)⟩, h1.2, fun r hr => hd r (List.mem_cons_of_mem _ hr)⟩

theorem wf_nil [DecidableEq α] (d : Nat → α) : wf d [] = true := rfl

theorem wf_filter [DecidableEq α] (d : Nat → α) (m : List (Nat × α)) (p : Nat × α → Bool) (h : wf d m = true) :
    wf d (m.filter p) = true := by
  rw [wf_iff] at h ⊢
  exact ⟨h.1.filter p, fun q hq => h.2 q (List.mem_filter.mp hq).1⟩

theorem wf_erase [DecidableEq α] (d : Nat → α) (m : List (Nat × α)) (k : Nat) (h : wf d m = true) : wf d (erase m k) = true :=
  wf_filter d m _ h

theorem wf_eraseRange [DecidableEq α] (d : Nat → α) (m : List (Nat × α)) (lo hi : Nat) (h : wf d m = true) :
    wf d (eraseRange m lo hi) = true := wf_filter d m _ h

theorem mem_insert (m : List (Nat × α)) (k : Nat) (v : α) (p : Nat × α) : p ∈ insert m k v ↔ p = (k, v) ∨ p ∈ m := by
  induction m with
  | nil => simp [insert]
  | cons q m ih =>
    obtain ⟨a, w⟩ := q
    by_cases hl : k < a
    · simp [insert, hl]
    · simp only [insert, hl, if_false, List.mem_cons, ih]
      tauto

theorem pairwise_insert (m : List (Nat × α)) (k : Nat) (v : α) (hp : m.Pairwise (fun p q => p.1 < q.1)) (hk : ∀ p ∈ m, p.1 ≠ k) :
    (insert m k v).Pairwise (fun p q => p.1 < q.1) := by
  induction m with
  | nil => simp [insert]
  | cons q m ih =>
    obtain ⟨a, w⟩ := q
    have h1 := List.pairwise_cons.mp hp
    by_cases hl : k < a
    · simp only [insert, hl, if_true]
      refine List.pairwise_cons.mpr ⟨?_, hp⟩
      intro r hr
      rcases List.mem_cons.mp hr with h | h
      · subst h; exact hl
      · exact lt_trans hl (h1.1 r h)
    · simp only [insert, hl, if_false]
      have hak : a ≠ k := hk (a, w) (by simp)
      refine List.pairwise_cons.mpr ⟨?_, ih h1.2 (fun p hp => hk p (List.mem_cons_of_mem _ hp))⟩
      intro r hr
      rcases (mem_insert m k v r).mp hr with h | h
      · subst h
        show a < k
        omega
      · exact h1.1 r h

/-- Writing a key keeps the canonical form. -/
theorem wf_put [DecidableEq α] (d : Nat → α) (m : List (Nat × α)) (k : Nat) (v : α) (h : wf d m = true) :
    wf d (put d m k v) = true := by
  unfold put
  split
  · exact wf_erase d m k h
  · next hv =>
    have he := wf_erase d m k h
    rw [wf_iff] at he ⊢
    refine ⟨pairwise_insert _ k v he.1 ?_, ?_⟩
    · intro p hp
      have := (List.mem_filter.mp hp).2
      simpa using this
    · intro p hp
      rcases (mem_insert _ k v p).mp hp with h' | h'
      · subst h'; exact hv
      · exact he.2 p h'

/-- Writing consecutive keys keeps the canonical form. -/
theorem wf_putRun [DecidableEq α] (d : Nat → α) (m : List (Nat × α)) (k : Nat) (vs : List α) (h : wf d m = true) :
    wf d (putRun d m k vs) = true := by
  induction vs generalizing m k with
  | nil => exact h
  | cons v vs ih => exact ih _ _ (wf_put d m k v h)

/-- Keys before a run are left as they were. -/
theorem get_putRun_below [DecidableEq α] (d : Nat → α) (vs : List α) (m : List (Nat × α)) {k j : Nat} (h : j < k) :
    get d (putRun d m k vs) j = get d m j := by
  induction vs generalizing m k with
  | nil => rfl
  | cons v vs ih => rw [putRun, ih _ (by omega), get_put_ne d m v (by omega)]

/-- A run leaves every key outside it as it was. -/
theorem get_putRun_outside [DecidableEq α] (d : Nat → α) (vs : List α) (m : List (Nat × α)) {k j : Nat}
    (h : j < k ∨ k + vs.length ≤ j) : get d (putRun d m k vs) j = get d m j := by
  induction vs generalizing m k with
  | nil => rfl
  | cons v vs ih =>
    simp only [List.length_cons] at h
    rw [putRun, ih _ (by omega), get_put_ne d m v (by omega)]

/-- A key of a run reads as the run gave it. -/
theorem get_putRun_inside [DecidableEq α] (d : Nat → α) (vs : List α) (m : List (Nat × α)) (k i : Nat) (h : i < vs.length) :
    get d (putRun d m k vs) (k + i) = vs[i] := by
  induction vs generalizing m k i with
  | nil => simp at h
  | cons v vs ih =>
    cases i with
    | zero => rw [putRun, get_putRun_below d vs _ (by omega)]; simp
    | succ i =>
      have := ih (put d m k v) (k + 1) i (by simpa using h)
      rw [putRun]
      simpa [Nat.add_assoc, Nat.add_comm 1 i] using this

end Sys2Proof.Machine.Sparse
end

