-- ==== Sys2Proof/Laws/Fields.lean ====
section
/-! SUPPORT. Register fields: what a field reads as after it, another field, or another register has been written. -/

namespace Sys2Proof.Machine

/-- The width of a field. -/
def Fld.width (f : Fld) : Nat := f.hi - f.lo + 1

/-- A number split at a place of `b` values above `a`. -/
theorem nat_split (x a b : Nat) : x = x / (a * b) * (a * b) + x / a % b * a + x % a := by
  have h1 := Nat.div_add_mod x a
  have h2 := Nat.div_add_mod (x / a) b
  have h3 : x / a / b = x / (a * b) := Nat.div_div_eq_div_mul x a b
  rw [h3] at h2
  calc x = a * (x / a) + x % a := h1.symm
    _ = a * (b * (x / (a * b)) + x / a % b) + x % a := by rw [h2]
    _ = _ := by ring

/-- The word with a field replaced, as a number. -/
theorem Fld.into_toNat (f : Fld) (v : Nat) (w : Word) (h : f.ok = true) :
    (f.into v w).toNat = w.toNat / 2 ^ (f.hi + 1) * 2 ^ (f.hi + 1) + v % 2 ^ f.width * 2 ^ f.lo + w.toNat % 2 ^ f.lo := by
  obtain ⟨h1, h2⟩ : f.lo ≤ f.hi ∧ f.hi ≤ 31 := by simpa [Fld.ok] using h
  have hab : 2 ^ f.lo * 2 ^ f.width = 2 ^ (f.hi + 1) := by
    rw [← pow_add, Fld.width]; congr 1; omega
  have hs := nat_split w.toNat (2 ^ f.lo) (2 ^ f.width)
  rw [hab] at hs
  have hv : v % 2 ^ f.width < 2 ^ f.width := Nat.mod_lt _ (by positivity)
  have hl : w.toNat % 2 ^ f.lo < 2 ^ f.lo := Nat.mod_lt _ (by positivity)
  have hw : w.toNat < 2 ^ 32 := w.isLt
  have hq : w.toNat / 2 ^ (f.hi + 1) * 2 ^ (f.hi + 1) + 2 ^ (f.hi + 1) ≤ 2 ^ 32 := by
    have : 2 ^ 32 = 2 ^ (31 - f.hi) * 2 ^ (f.hi + 1) := by rw [← pow_add]; congr 1; omega
    have hd : w.toNat / 2 ^ (f.hi + 1) < 2 ^ (31 - f.hi) := by
      rw [Nat.div_lt_iff_lt_mul (by positivity), ← this]; exact hw
    calc _ = (w.toNat / 2 ^ (f.hi + 1) + 1) * 2 ^ (f.hi + 1) := by ring
      _ ≤ 2 ^ (31 - f.hi) * 2 ^ (f.hi + 1) := Nat.mul_le_mul_right _ hd
      _ = 2 ^ 32 := this.symm
  have hm : v % 2 ^ f.width * 2 ^ f.lo + w.toNat % 2 ^ f.lo < 2 ^ (f.hi + 1) := by
    calc _ < v % 2 ^ f.width * 2 ^ f.lo + 2 ^ f.lo := by omega
      _ = (v % 2 ^ f.width + 1) * 2 ^ f.lo := by ring
      _ ≤ 2 ^ f.width * 2 ^ f.lo := Nat.mul_le_mul_right _ hv
      _ = 2 ^ (f.hi + 1) := by rw [mul_comm]; exact hab
  have hof : f.of w = w.toNat / 2 ^ f.lo % 2 ^ f.width := rfl
  have e : w.toNat - f.of w * 2 ^ f.lo + v % 2 ^ (f.hi - f.lo + 1) * 2 ^ f.lo =
      w.toNat / 2 ^ (f.hi + 1) * 2 ^ (f.hi + 1) + v % 2 ^ f.width * 2 ^ f.lo + w.toNat % 2 ^ f.lo := by
    rw [hof]
    have hn : f.hi - f.lo + 1 = f.width := rfl
    rw [hn]
    omega
  unfold Fld.into
  rw [BitVec.toNat_ofNat, e, Nat.mod_eq_of_lt (by omega)]

/-- A field reads as the value written into it, modulo its width. -/
theorem Fld.of_into_same (f : Fld) (v : Nat) (w : Word) (h : f.ok = true) : f.of (f.into v w) = v % 2 ^ f.width := by
  obtain ⟨h1, -⟩ : f.lo ≤ f.hi ∧ f.hi ≤ 31 := by simpa [Fld.ok] using h
  have hab : 2 ^ (f.hi + 1) = 2 ^ f.width * 2 ^ f.lo := by
    rw [← pow_add, Fld.width]; congr 1; omega
  show (f.into v w).toNat / 2 ^ f.lo % 2 ^ f.width = _
  rw [Fld.into_toNat f v w h]
  have hl : w.toNat % 2 ^ f.lo < 2 ^ f.lo := Nat.mod_lt _ (by positivity)
  have e : w.toNat / 2 ^ (f.hi + 1) * 2 ^ (f.hi + 1) + v % 2 ^ f.width * 2 ^ f.lo + w.toNat % 2 ^ f.lo =
      w.toNat % 2 ^ f.lo + (w.toNat / 2 ^ (f.hi + 1) * 2 ^ f.width + v % 2 ^ f.width) * 2 ^ f.lo := by
    conv_lhs => rw [show w.toNat / 2 ^ (f.hi + 1) * 2 ^ (f.hi + 1) = w.toNat / 2 ^ (f.hi + 1) * (2 ^ f.width * 2 ^ f.lo) by rw [hab]]
    ring
  rw [e, Nat.add_mul_div_right _ _ (by positivity), Nat.div_eq_of_lt hl, zero_add, Nat.mul_add_mod_of_lt' ]
  exact Nat.mod_lt _ (by positivity)
where
  /-- A remainder below a multiple. -/
  Nat.mul_add_mod_of_lt' {a b c : Nat} (h : c < b) : (a * b + c) % b = c := by
    rw [mul_comm, Nat.mul_add_mod]; exact Nat.mod_eq_of_lt h

/-- Bits below a place do not depend on what stands above it. -/
theorem low_field (k n r lo hi : Nat) (h : hi < n) (hl : lo ≤ hi) :
    (k * 2 ^ n + r) / 2 ^ lo % 2 ^ (hi - lo + 1) = r / 2 ^ lo % 2 ^ (hi - lo + 1) := by
  obtain ⟨d, rfl⟩ : ∃ d, n = lo + (hi - lo + 1) + d := ⟨n - hi - 1, by omega⟩
  have e : k * 2 ^ (lo + (hi - lo + 1) + d) + r = r + k * 2 ^ d * 2 ^ (hi - lo + 1) * 2 ^ lo := by
    rw [pow_add, pow_add]; ring
  rw [e, Nat.add_mul_div_right _ _ (by positivity), Nat.add_mul_mod_self_right]

/-- Writing a field leaves every field of the word that has no bit in common with it. -/
theorem Fld.of_into_apart (f g : Fld) (v : Nat) (w : Word) (hf : f.ok = true) (hg : g.ok = true)
    (h : f.hi < g.lo ∨ g.hi < f.lo) : g.of (f.into v w) = g.of w := by
  obtain ⟨h1, h2⟩ : f.lo ≤ f.hi ∧ f.hi ≤ 31 := by simpa [Fld.ok] using hf
  obtain ⟨h3, h4⟩ : g.lo ≤ g.hi ∧ g.hi ≤ 31 := by simpa [Fld.ok] using hg
  have hab : 2 ^ (f.hi + 1) = 2 ^ f.width * 2 ^ f.lo := by
    rw [← pow_add, Fld.width]; congr 1; omega
  show (f.into v w).toNat / 2 ^ g.lo % 2 ^ (g.hi - g.lo + 1) = w.toNat / 2 ^ g.lo % 2 ^ (g.hi - g.lo + 1)
  rw [Fld.into_toNat f v w hf]
  have hv : v % 2 ^ f.width < 2 ^ f.width := Nat.mod_lt _ (by positivity)
  have hl : w.toNat % 2 ^ f.lo < 2 ^ f.lo := Nat.mod_lt _ (by positivity)
  rcases h with h | h
  · have hm : v % 2 ^ f.width * 2 ^ f.lo + w.toNat % 2 ^ f.lo < 2 ^ (f.hi + 1) := by
      rw [hab]
      calc _ < v % 2 ^ f.width * 2 ^ f.lo + 2 ^ f.lo := by omega
        _ = (v % 2 ^ f.width + 1) * 2 ^ f.lo := by ring
        _ ≤ 2 ^ f.width * 2 ^ f.lo := Nat.mul_le_mul_right _ hv
    obtain ⟨d, hd⟩ : ∃ d, g.lo = f.hi + 1 + d := ⟨g.lo - (f.hi + 1), by omega⟩
    have hp : 2 ^ g.lo = 2 ^ (f.hi + 1) * 2 ^ d := by rw [hd, pow_add]
    rw [hp, ← Nat.div_div_eq_div_mul, ← Nat.div_div_eq_div_mul, add_assoc, add_comm, Nat.add_mul_div_right _ _ (by positivity),
      Nat.div_eq_of_lt hm, zero_add]
  · have e : w.toNat / 2 ^ (f.hi + 1) * 2 ^ (f.hi + 1) + v % 2 ^ f.width * 2 ^ f.lo + w.toNat % 2 ^ f.lo =
        (w.toNat / 2 ^ (f.hi + 1) * 2 ^ f.width + v % 2 ^ f.width) * 2 ^ f.lo + w.toNat % 2 ^ f.lo := by
      conv_lhs => rw [show w.toNat / 2 ^ (f.hi + 1) * 2 ^ (f.hi + 1) = w.toNat / 2 ^ (f.hi + 1) * (2 ^ f.width * 2 ^ f.lo) by rw [hab]]
      ring
    rw [e, low_field _ _ _ _ _ h h3]
    conv_rhs => rw [show w.toNat = w.toNat / 2 ^ f.lo * 2 ^ f.lo + w.toNat % 2 ^ f.lo by rw [mul_comm]; exact (Nat.div_add_mod _ _).symm]
    rw [low_field _ _ _ _ _ h h3]

/-- A field is below two to its width. -/
theorem Fld.of_lt (f : Fld) (w : Word) : f.of w < 2 ^ f.width := Nat.mod_lt _ (by positivity)

/-- A field of the state is below two to its width. -/
theorem State.fld_lt (s : State) (f : Fld) : s.fld f < 2 ^ f.width := f.of_lt _

/-- A register reads as the word written to it. -/
@[simp] theorem State.reg_setReg_same (s : State) (a : Nat) (w : Word) : (s.setReg a w).reg a = w := by
  simp [State.reg, State.setReg]

/-- Writing a register leaves every other one. -/
theorem State.reg_setReg_ne (s : State) {a b : Nat} (w : Word) (h : b ≠ a) : (s.setReg a w).reg b = s.reg b :=
  Sparse.get_put_ne _ _ _ h

/-- Writing a field leaves every other register. -/
theorem State.reg_setFld_ne (s : State) {f : Fld} {b : Nat} (v : Nat) (h : b ≠ f.addr) : (s.setFld f v).reg b = s.reg b :=
  s.reg_setReg_ne _ h

/-- A field reads as the value written into it, modulo its width. -/
theorem State.fld_setFld_same (s : State) (f : Fld) (v : Nat) (h : f.ok = true) : (s.setFld f v).fld f = v % 2 ^ f.width := by
  simp [State.fld, State.setFld, Fld.of_into_same _ _ _ h]

/-- Writing a field leaves every field that has no bit in common with it. -/
theorem State.fld_setFld_apart (s : State) (f g : Fld) (v : Nat) (hf : f.ok = true) (hg : g.ok = true)
    (h : f.apart g = true) : (s.setFld f v).fld g = s.fld g := by
  by_cases ha : g.addr = f.addr
  · have h' : f.hi < g.lo ∨ g.hi < f.lo := by simpa [Fld.apart, ha] using h
    simp [State.fld, State.setFld, ha, Fld.of_into_apart f g v _ hf hg h']
  · simp only [State.fld, s.reg_setFld_ne v ha]

/-- A sticky event bit reads as 1 once it has been set. -/
theorem State.fld_event_same (s : State) (f : Fld) (h : f.ok = true) : (s.event f).fld f = 1 := by
  rw [State.event, s.fld_setFld_same f 1 h, Nat.mod_eq_of_lt]
  exact Nat.one_lt_two_pow (by simp [Fld.width])

/-- A sticky event bit leaves the fields that have no bit in common with it. -/
theorem State.fld_event_apart (s : State) (f g : Fld) (hf : f.ok = true) (hg : g.ok = true) (h : f.apart g = true) :
    (s.event f).fld g = s.fld g := s.fld_setFld_apart f g 1 hf hg h

/-- A one-bit field reads as the Boolean written into it. -/
theorem State.fld_setFlag_same (s : State) (f : Fld) (b : Bool) (h : f.ok = true) : (s.setFlag f b).fld f = b.toNat := by
  rw [State.setFlag, s.fld_setFld_same f _ h, Nat.mod_eq_of_lt]
  have : 1 < 2 ^ f.width := Nat.one_lt_two_pow (by simp [Fld.width])
  cases b
  · exact Nat.lt_trans Nat.zero_lt_one this
  · exact this

/-- A flag leaves the fields that have no bit in common with it. -/
theorem State.fld_setFlag_apart (s : State) (f g : Fld) (b : Bool) (hf : f.ok = true) (hg : g.ok = true) (h : f.apart g = true) :
    (s.setFlag f b).fld g = s.fld g := s.fld_setFld_apart f g _ hf hg h

/-- A saturating count rises by one up to its highest value. -/
theorem State.fld_bump_same (s : State) (f : Fld) (h : f.ok = true) : (s.bump f).fld f = min (s.fld f + 1) (2 ^ f.width - 1) := by
  have hl := s.fld_lt f
  unfold State.bump
  split
  · next hb =>
    rw [s.fld_setFld_same f _ h]
    have hb' : s.fld f + 1 < 2 ^ f.width := hb
    rw [Nat.mod_eq_of_lt hb']; omega
  · next hb =>
    have hb' : ¬ s.fld f + 1 < 2 ^ f.width := hb
    omega

/-- A saturating count leaves the fields that have no bit in common with it. -/
theorem State.fld_bump_apart (s : State) (f g : Fld) (hf : f.ok = true) (hg : g.ok = true) (h : f.apart g = true) :
    (s.bump f).fld g = s.fld g := by
  unfold State.bump
  split
  · exact s.fld_setFld_apart f g _ hf hg h
  · rfl

/-- A saturating count leaves every other register. -/
theorem State.reg_bump_ne (s : State) {f : Fld} {b : Nat} (h : b ≠ f.addr) : (s.bump f).reg b = s.reg b := by
  unfold State.bump
  split
  · exact s.reg_setFld_ne _ h
  · rfl

/-- A saturating count raised by `n` rises up to its highest value. -/
theorem State.fld_bumpBy_same (s : State) (f : Fld) (n : Nat) (h : f.ok = true) :
    (s.bumpBy f n).fld f = min (s.fld f + n) (2 ^ f.width - 1) := by
  rw [State.bumpBy, s.fld_setFld_same f _ h]
  have hl : 0 < 2 ^ f.width := by positivity
  exact Nat.mod_eq_of_lt (show min (s.fld f + n) (2 ^ f.width - 1) < _ by omega)

/-- A count that wraps rises by one modulo its width. -/
theorem State.fld_wrapInc_same (s : State) (f : Fld) (h : f.ok = true) :
    (s.wrapInc f).fld f = (s.fld f + 1) % 2 ^ f.width := s.fld_setFld_same f _ h

/-- A sticky event leaves every other register. -/
theorem State.reg_event_ne (s : State) {f : Fld} {b : Nat} (h : b ≠ f.addr) : (s.event f).reg b = s.reg b := s.reg_setFld_ne _ h

/-- An event with its count leaves every register but its two. -/
theorem State.reg_eventCount_ne (s : State) {e c : Fld} {b : Nat} (he : b ≠ e.addr) (hc : b ≠ c.addr) :
    (s.eventCount e c).reg b = s.reg b := by
  rw [State.eventCount, State.reg_bump_ne _ hc, s.reg_event_ne he]

/-- An event with its count sets the event bit, where the two have no bit in common. -/
theorem State.fld_eventCount_event (s : State) (e c : Fld) (he : e.ok = true) (hc : c.ok = true) (h : c.apart e = true) :
    (s.eventCount e c).fld e = 1 := by
  rw [State.eventCount, State.fld_bump_apart _ c e hc he h, s.fld_event_same e he]

/-- An event with its count raises the count, where the two have no bit in common. -/
theorem State.fld_eventCount_count (s : State) (e c : Fld) (he : e.ok = true) (hc : c.ok = true) (h : e.apart c = true) :
    (s.eventCount e c).fld c = min (s.fld c + 1) (2 ^ c.width - 1) := by
  rw [State.eventCount, State.fld_bump_same _ c hc, s.fld_event_apart e c he hc h]

end Sys2Proof.Machine
end

