-- ==== Sys2Proof/Laws/Evolve.lean ====
section
/-! SUPPORT. What every operation of the block keeps: the parts of the state it does not name, the count of cycles and the
place in the open values (which only rise), what has been sent, the fuses but for a rollback floor that never falls, and the
canonical form of the tables. -/

namespace Sys2Proof.Machine

/-- From `s` to `t` nothing but the parts listed changes, cycles and open values only go on, what was sent stays sent, the
fuses stay but for a rollback floor that never falls, and canonical tables stay canonical. -/
structure Evolves (ps : List Part) (s t : State) : Prop where
  parts : OnlyParts ps s t
  cycles : s.cycles ≤ t.cycles
  fresh : s.fresh ≤ t.fresh
  sent : s.sent <+: t.sent
  rollback : s.fuses.rollback ≤ t.fuses.rollback
  fuses : t.fuses = { s.fuses with rollback := t.fuses.rollback }
  canon : s.canon → t.canon

theorem Part.same_refl (s : State) (p : Part) : p.same s s := by cases p <;> rfl

theorem Part.same_trans {s t u : State} (p : Part) (h : p.same s t) (k : p.same t u) : p.same s u := by
  cases p <;> exact Eq.trans k h

theorem OnlyParts.refl (ps : List Part) (s : State) : OnlyParts ps s s := fun p _ => p.same_refl s

theorem OnlyParts.trans {ps : List Part} {s t u : State} (h : OnlyParts ps s t) (k : OnlyParts ps t u) : OnlyParts ps s u :=
  fun p hp => p.same_trans (h p hp) (k p hp)

theorem OnlyParts.mono {ps qs : List Part} {s t : State} (hs : ps ⊆ qs) (h : OnlyParts ps s t) : OnlyParts qs s t :=
  fun p hp => h p (fun hm => hp (hs hm))

theorem Evolves.refl (ps : List Part) (s : State) : Evolves ps s s :=
  ⟨.refl ps s, Nat.le_refl _, Nat.le_refl _, List.prefix_rfl, Nat.le_refl _, rfl, id⟩

theorem Evolves.trans {ps : List Part} {s t u : State} (h : Evolves ps s t) (k : Evolves ps t u) : Evolves ps s u :=
  ⟨h.parts.trans k.parts, h.cycles.trans k.cycles, h.fresh.trans k.fresh, h.sent.trans k.sent, h.rollback.trans k.rollback,
   by rw [k.fuses, h.fuses], k.canon ∘ h.canon⟩

theorem Evolves.mono {ps qs : List Part} {s t : State} (hs : ps ⊆ qs) (h : Evolves ps s t) : Evolves qs s t :=
  ⟨h.parts.mono hs, h.cycles, h.fresh, h.sent, h.rollback, h.fuses, h.canon⟩

/-- A fold over operations that evolve evolves. -/
theorem Evolves.foldl {ps : List Part} {b : State} {α : Type} (l : List α) (f : State → α → State) (s : State)
    (hf : ∀ u x, Evolves ps u (f u x)) (h : Evolves ps b s) : Evolves ps b (l.foldl f s) := by
  induction l generalizing s with
  | nil => exact h
  | cons x l ih => exact ih _ (h.trans (hf s x))

/-- A choice of two evolves if both do. -/
theorem Evolves.ite {ps : List Part} {b : State} {c : Prop} [Decidable c] {x y : State} (hx : Evolves ps b x) (hy : Evolves ps b y) :
    Evolves ps b (if c then x else y) := by split <;> assumption

/-- A choice of two results evolves if both do. -/
theorem Evolves.ite_fst {ps : List Part} {b : State} {β : Type} {c : Prop} [Decidable c] {x y : State × β} (hx : Evolves ps b x.1)
    (hy : Evolves ps b y.1) : Evolves ps b (if c then x else y).1 := by split <;> assumption

/-- A choice by an option evolves if both do. -/
theorem Evolves.elim_opt {ps : List Part} {b : State} {α : Type} (o : Option α) (x : State) (f : α → State) (hx : Evolves ps b x)
    (hf : ∀ a, Evolves ps b (f a)) : Evolves ps b (o.elim x f) := by cases o <;> simp_all

/-- A fold over a pair whose state evolves. -/
theorem Evolves.foldl_fst {ps : List Part} {b : State} {α β : Type} (l : List α) (f : State × β → α → State × β) (a : State × β)
    (hf : ∀ u x, Evolves ps u.1 (f u x).1) (h : Evolves ps b a.1) : Evolves ps b (l.foldl f a).1 := by
  induction l generalizing a with
  | nil => exact h
  | cons x l ih => exact ih _ (h.trans (hf a x))

/-! One part replaced -/

theorem Evolves.set_wall {ps : List Part} {b s : State} (x : Nat) (hp : Part.wall ∈ ps) (h : Evolves ps b s) :
    Evolves ps b { s with wall := x } :=
  h.trans ⟨fun p hn => by cases p <;> first | rfl | exact absurd hp hn, Nat.le_refl _, Nat.le_refl _, List.prefix_rfl, Nat.le_refl _,
    rfl, id⟩

theorem Evolves.set_gen {ps : List Part} {b s : State} (x : AuthState) (hp : Part.gen ∈ ps) (h : Evolves ps b s) :
    Evolves ps b { s with gen := x } :=
  h.trans ⟨fun p hn => by cases p <;> first | rfl | exact absurd hp hn, Nat.le_refl _, Nat.le_refl _, List.prefix_rfl, Nat.le_refl _,
    rfl, id⟩

theorem Evolves.set_gnt {ps : List Part} {b s : State} (x : AuthState) (hp : Part.gnt ∈ ps) (h : Evolves ps b s) :
    Evolves ps b { s with gnt := x } :=
  h.trans ⟨fun p hn => by cases p <;> first | rfl | exact absurd hp hn, Nat.le_refl _, Nat.le_refl _, List.prefix_rfl, Nat.le_refl _,
    rfl, id⟩

theorem Evolves.set_cmd {ps : List Part} {b s : State} (x : CmdState) (hp : Part.cmd ∈ ps) (h : Evolves ps b s) :
    Evolves ps b { s with cmd := x } :=
  h.trans ⟨fun p hn => by cases p <;> first | rfl | exact absurd hp hn, Nat.le_refl _, Nat.le_refl _, List.prefix_rfl, Nat.le_refl _,
    rfl, id⟩

theorem Evolves.set_flip {ps : List Part} {b s : State} (x : FlipState) (hp : Part.flip ∈ ps) (h : Evolves ps b s) :
    Evolves ps b { s with flip := x } :=
  h.trans ⟨fun p hn => by cases p <;> first | rfl | exact absurd hp hn, Nat.le_refl _, Nat.le_refl _, List.prefix_rfl, Nat.le_refl _,
    rfl, id⟩

theorem Evolves.set_sched {ps : List Part} {b s : State} (x : List SchedEntry) (hp : Part.sched ∈ ps) (h : Evolves ps b s) :
    Evolves ps b { s with sched := x } :=
  h.trans ⟨fun p hn => by cases p <;> first | rfl | exact absurd hp hn, Nat.le_refl _, Nat.le_refl _, List.prefix_rfl, Nat.le_refl _,
    rfl, id⟩

theorem Evolves.set_link {ps : List Part} {b s : State} (x : LinkState) (hp : Part.link ∈ ps) (h : Evolves ps b s) :
    Evolves ps b { s with link := x } :=
  h.trans ⟨fun p hn => by cases p <;> first | rfl | exact absurd hp hn, Nat.le_refl _, Nat.le_refl _, List.prefix_rfl, Nat.le_refl _,
    rfl, id⟩

theorem Evolves.set_repl {ps : List Part} {b s : State} (x : ReplState) (hp : Part.repl ∈ ps) (h : Evolves ps b s) :
    Evolves ps b { s with repl := x } :=
  h.trans ⟨fun p hn => by cases p <;> first | rfl | exact absurd hp hn, Nat.le_refl _, Nat.le_refl _, List.prefix_rfl, Nat.le_refl _,
    rfl, id⟩

theorem Evolves.set_faults {ps : List Part} {b s : State} (x : FaultLog) (hp : Part.faults ∈ ps) (h : Evolves ps b s) :
    Evolves ps b { s with faults := x } :=
  h.trans ⟨fun p hn => by cases p <;> first | rfl | exact absurd hp hn, Nat.le_refl _, Nat.le_refl _, List.prefix_rfl, Nat.le_refl _,
    rfl, id⟩

theorem Evolves.set_rst {ps : List Part} {b s : State} (x : RstState) (hp : Part.rst ∈ ps) (h : Evolves ps b s) :
    Evolves ps b { s with rst := x } :=
  h.trans ⟨fun p hn => by cases p <;> first | rfl | exact absurd hp hn, Nat.le_refl _, Nat.le_refl _, List.prefix_rfl, Nat.le_refl _,
    rfl, id⟩

theorem Evolves.set_thm {ps : List Part} {b s : State} (x : ThmState) (hp : Part.thm ∈ ps) (h : Evolves ps b s) :
    Evolves ps b { s with thm := x } :=
  h.trans ⟨fun p hn => by cases p <;> first | rfl | exact absurd hp hn, Nat.le_refl _, Nat.le_refl _, List.prefix_rfl, Nat.le_refl _,
    rfl, id⟩

theorem Evolves.set_nvm {ps : List Part} {b s : State} (x : Nvm) (hp : Part.nvm ∈ ps) (h : Evolves ps b s) :
    Evolves ps b { s with nvm := x } :=
  h.trans ⟨fun p hn => by cases p <;> first | rfl | exact absurd hp hn, Nat.le_refl _, Nat.le_refl _, List.prefix_rfl, Nat.le_refl _,
    rfl, id⟩

theorem Evolves.set_boot {ps : List Part} {b s : State} (x : BootState) (hp : Part.boot ∈ ps) (h : Evolves ps b s) :
    Evolves ps b { s with boot := x } :=
  h.trans ⟨fun p hn => by cases p <;> first | rfl | exact absurd hp hn, Nat.le_refl _, Nat.le_refl _, List.prefix_rfl, Nat.le_refl _,
    rfl, id⟩

theorem Evolves.set_chk {ps : List Part} {b s : State} (x : List (Nat × ChkUnit)) (hp : Part.chk ∈ ps) (h : Evolves ps b s) :
    Evolves ps b { s with chk := x } :=
  h.trans ⟨fun p hn => by cases p <;> first | rfl | exact absurd hp hn, Nat.le_refl _, Nat.le_refl _, List.prefix_rfl, Nat.le_refl _,
    rfl, id⟩

theorem Evolves.set_net0 {ps : List Part} {b s : State} (x : NetPort) (hp : Part.net0 ∈ ps) (h : Evolves ps b s) :
    Evolves ps b { s with net0 := x } :=
  h.trans ⟨fun p hn => by cases p <;> first | rfl | exact absurd hp hn, Nat.le_refl _, Nat.le_refl _, List.prefix_rfl, Nat.le_refl _,
    rfl, id⟩

theorem Evolves.set_net1 {ps : List Part} {b s : State} (x : NetPort) (hp : Part.net1 ∈ ps) (h : Evolves ps b s) :
    Evolves ps b { s with net1 := x } :=
  h.trans ⟨fun p hn => by cases p <;> first | rfl | exact absurd hp hn, Nat.le_refl _, Nat.le_refl _, List.prefix_rfl, Nat.le_refl _,
    rfl, id⟩

theorem Evolves.set_time {ps : List Part} {b s : State} (x : TimeState) (hp : Part.time ∈ ps) (h : Evolves ps b s) :
    Evolves ps b { s with time := x } :=
  h.trans ⟨fun p hn => by cases p <;> first | rfl | exact absurd hp hn, Nat.le_refl _, Nat.le_refl _, List.prefix_rfl, Nat.le_refl _,
    rfl, id⟩

theorem Evolves.set_video {ps : List Part} {b s : State} (x : VideoState) (hp : Part.video ∈ ps) (h : Evolves ps b s) :
    Evolves ps b { s with video := x } :=
  h.trans ⟨fun p hn => by cases p <;> first | rfl | exact absurd hp hn, Nat.le_refl _, Nat.le_refl _, List.prefix_rfl, Nat.le_refl _,
    rfl, id⟩

theorem Evolves.set_scan {ps : List Part} {b s : State} (x : ScanState) (hp : Part.scan ∈ ps) (h : Evolves ps b s) :
    Evolves ps b { s with scan := x } :=
  h.trans ⟨fun p hn => by cases p <;> first | rfl | exact absurd hp hn, Nat.le_refl _, Nat.le_refl _, List.prefix_rfl, Nat.le_refl _,
    rfl, id⟩

theorem Evolves.set_lanes {ps : List Part} {b s : State} (x : LaneState) (hp : Part.lanes ∈ ps) (h : Evolves ps b s) :
    Evolves ps b { s with lanes := x } :=
  h.trans ⟨fun p hn => by cases p <;> first | rfl | exact absurd hp hn, Nat.le_refl _, Nat.le_refl _, List.prefix_rfl, Nat.le_refl _,
    rfl, id⟩

theorem Evolves.set_lamp {ps : List Part} {b s : State} (x : LampState) (hp : Part.lamp ∈ ps) (h : Evolves ps b s) :
    Evolves ps b { s with lamp := x } :=
  h.trans ⟨fun p hn => by cases p <;> first | rfl | exact absurd hp hn, Nat.le_refl _, Nat.le_refl _, List.prefix_rfl, Nat.le_refl _,
    rfl, id⟩

theorem Evolves.set_diag {ps : List Part} {b s : State} (x : DiagState) (hp : Part.diag ∈ ps) (h : Evolves ps b s) :
    Evolves ps b { s with diag := x } :=
  h.trans ⟨fun p hn => by cases p <;> first | rfl | exact absurd hp hn, Nat.le_refl _, Nat.le_refl _, List.prefix_rfl, Nat.le_refl _,
    rfl, id⟩

theorem Evolves.set_snaps {ps : List Part} {b s : State} (x : List Snapshot) (hp : Part.snaps ∈ ps) (h : Evolves ps b s) :
    Evolves ps b { s with snaps := x } :=
  h.trans ⟨fun p hn => by cases p <;> first | rfl | exact absurd hp hn, Nat.le_refl _, Nat.le_refl _, List.prefix_rfl, Nat.le_refl _,
    rfl, id⟩

theorem Evolves.set_red {ps : List Part} {b s : State} (x : RedState) (hp : Part.red ∈ ps) (h : Evolves ps b s) :
    Evolves ps b { s with red := x } :=
  h.trans ⟨fun p hn => by cases p <;> first | rfl | exact absurd hp hn, Nat.le_refl _, Nat.le_refl _, List.prefix_rfl, Nat.le_refl _,
    rfl, id⟩

theorem Evolves.set_txn {ps : List Part} {b s : State} (shadow₁ : ShadowSet) (accepted₁ : List Accepted) (journal₁ : List JournalRec) (tileSettings₁ : List (Auth × Nat × Change)) (waits₁ : List FenceWait) (hp : Part.txn ∈ ps)
    (h : Evolves ps b s) : Evolves ps b { s with txn := ⟨shadow₁, accepted₁, journal₁, tileSettings₁, s.txn.fences, waits₁⟩ } :=
  h.trans ⟨fun p hn => by cases p <;> first | rfl | exact absurd hp hn, Nat.le_refl _, Nat.le_refl _, List.prefix_rfl, Nat.le_refl _,
    rfl, id⟩

theorem Evolves.set_dram {ps : List Part} {b s : State} (bad₁ : List (Nat × Nat)) (rows₁ : List (Nat × Nat)) (writeBacks₁ : List Nat) (neighbours₁ : List (Nat × Nat × Nat)) (intervals₁ : List (Nat × Nat)) (chans₁ : List (Nat × DramChannel)) (hp : Part.dram ∈ ps)
    (h : Evolves ps b s) : Evolves ps b { s with dram := ⟨s.dram.mem, bad₁, rows₁, writeBacks₁, neighbours₁, intervals₁, chans₁⟩ } :=
  h.trans ⟨fun p hn => by cases p <;> first | rfl | exact absurd hp hn, Nat.le_refl _, Nat.le_refl _, List.prefix_rfl, Nat.le_refl _,
    rfl, id⟩

theorem Evolves.set_tile {ps : List Part} {b s : State} (areas₁ : List (Nat × Area)) (bank₁ : Nat) (swap₁ : Option Nat) (check₁ : Option Word) (build₁ : Option Build) (front₁ : Nat) (next₁ : Option Nat) (built₁ : Bool) (slewed₁ : Bool) (fallen₁ : List Nat) (last₁ : Nat × Nat) (applied₁ : List AppliedSets) (gens₁ : List (Nat × Nat)) (hp : Part.tile ∈ ps)
    (h : Evolves ps b s) : Evolves ps b { s with tile := ⟨areas₁, s.tile.store, bank₁, swap₁, check₁, build₁, front₁, next₁, built₁, slewed₁, fallen₁, last₁, applied₁, gens₁⟩ } :=
  h.trans ⟨fun p hn => by cases p <;> first | rfl | exact absurd hp hn, Nat.le_refl _, Nat.le_refl _, List.prefix_rfl, Nat.le_refl _,
    rfl, id⟩

theorem Evolves.set_fresh {ps : List Part} {b s : State} (x : Nat) (hx : s.fresh ≤ x) (hp : Part.fresh ∈ ps) (h : Evolves ps b s) :
    Evolves ps b { s with fresh := x } :=
  h.trans ⟨fun p hn => by cases p <;> first | rfl | exact absurd hp hn, Nat.le_refl _, hx, List.prefix_rfl, Nat.le_refl _, rfl, id⟩

theorem Evolves.set_sent {ps : List Part} {b s : State} (x : List Output) (hx : s.sent <+: x) (hp : Part.sent ∈ ps)
    (h : Evolves ps b s) : Evolves ps b { s with sent := x } :=
  h.trans ⟨fun p hn => by cases p <;> first | rfl | exact absurd hp hn, Nat.le_refl _, Nat.le_refl _, hx, Nat.le_refl _, rfl, id⟩

theorem Evolves.set_regs {ps : List Part} {b s : State} (x : List (Nat × Word)) (hx : Sparse.wf regReset s.regs = true → Sparse.wf regReset x = true)
    (hp : Part.regs ∈ ps) (h : Evolves ps b s) : Evolves ps b { s with regs := x } :=
  h.trans ⟨fun p hn => by cases p <;> first | rfl | exact absurd hp hn, Nat.le_refl _, Nat.le_refl _, List.prefix_rfl, Nat.le_refl _,
    rfl, fun hc => ⟨hx hc.1, hc.2⟩⟩

/-! Several parts replaced at once -/

theorem Evolves.set_rst_thm {ps : List Part} {b s : State} (rst₁ : RstState) (thm₁ : ThmState)
    (hrst : Part.rst ∈ ps) (hthm : Part.thm ∈ ps) (h : Evolves ps b s) :
    Evolves ps b { s with
      rst := rst₁
      thm := thm₁ } :=
  h.trans ⟨fun p hn => by cases p <;> first | rfl | exact absurd hrst hn | exact absurd hthm hn, Nat.le_refl _, Nat.le_refl _, List.prefix_rfl, Nat.le_refl _, rfl, id⟩

theorem Evolves.set_gen_gnt {ps : List Part} {b s : State} (gen₁ : AuthState) (gnt₁ : AuthState)
    (hgen : Part.gen ∈ ps) (hgnt : Part.gnt ∈ ps) (h : Evolves ps b s) :
    Evolves ps b { s with
      gen := gen₁
      gnt := gnt₁ } :=
  h.trans ⟨fun p hn => by cases p <;> first | rfl | exact absurd hgen hn | exact absurd hgnt hn, Nat.le_refl _, Nat.le_refl _, List.prefix_rfl, Nat.le_refl _, rfl, id⟩

theorem Evolves.set_flip_red {ps : List Part} {b s : State} (flip₁ : FlipState) (red₁ : RedState)
    (hflip : Part.flip ∈ ps) (hred : Part.red ∈ ps) (h : Evolves ps b s) :
    Evolves ps b { s with
      flip := flip₁
      red := red₁ } :=
  h.trans ⟨fun p hn => by cases p <;> first | rfl | exact absurd hflip hn | exact absurd hred hn, Nat.le_refl _, Nat.le_refl _, List.prefix_rfl, Nat.le_refl _, rfl, id⟩

theorem Evolves.set_repl_red {ps : List Part} {b s : State} (repl₁ : ReplState) (red₁ : RedState)
    (hrepl : Part.repl ∈ ps) (hred : Part.red ∈ ps) (h : Evolves ps b s) :
    Evolves ps b { s with
      repl := repl₁
      red := red₁ } :=
  h.trans ⟨fun p hn => by cases p <;> first | rfl | exact absurd hrepl hn | exact absurd hred hn, Nat.le_refl _, Nat.le_refl _, List.prefix_rfl, Nat.le_refl _, rfl, id⟩

theorem Evolves.set_boot_red {ps : List Part} {b s : State} (boot₁ : BootState) (red₁ : RedState)
    (hboot : Part.boot ∈ ps) (hred : Part.red ∈ ps) (h : Evolves ps b s) :
    Evolves ps b { s with
      boot := boot₁
      red := red₁ } :=
  h.trans ⟨fun p hn => by cases p <;> first | rfl | exact absurd hboot hn | exact absurd hred hn, Nat.le_refl _, Nat.le_refl _, List.prefix_rfl, Nat.le_refl _, rfl, id⟩

theorem Evolves.set_cmd_link {ps : List Part} {b s : State} (cmd₁ : CmdState) (link₁ : LinkState)
    (hcmd : Part.cmd ∈ ps) (hlink : Part.link ∈ ps) (h : Evolves ps b s) :
    Evolves ps b { s with
      cmd := cmd₁
      link := link₁ } :=
  h.trans ⟨fun p hn => by cases p <;> first | rfl | exact absurd hcmd hn | exact absurd hlink hn, Nat.le_refl _, Nat.le_refl _, List.prefix_rfl, Nat.le_refl _, rfl, id⟩

theorem Evolves.set_scan_red {ps : List Part} {b s : State} (scan₁ : ScanState) (red₁ : RedState)
    (hscan : Part.scan ∈ ps) (hred : Part.red ∈ ps) (h : Evolves ps b s) :
    Evolves ps b { s with
      scan := scan₁
      red := red₁ } :=
  h.trans ⟨fun p hn => by cases p <;> first | rfl | exact absurd hscan hn | exact absurd hred hn, Nat.le_refl _, Nat.le_refl _, List.prefix_rfl, Nat.le_refl _, rfl, id⟩

theorem Evolves.set_rst_boot {ps : List Part} {b s : State} (rst₁ : RstState) (boot₁ : BootState)
    (hrst : Part.rst ∈ ps) (hboot : Part.boot ∈ ps) (h : Evolves ps b s) :
    Evolves ps b { s with
      rst := rst₁
      boot := boot₁ } :=
  h.trans ⟨fun p hn => by cases p <;> first | rfl | exact absurd hrst hn | exact absurd hboot hn, Nat.le_refl _, Nat.le_refl _, List.prefix_rfl, Nat.le_refl _, rfl, id⟩

theorem Evolves.set_sched_red {ps : List Part} {b s : State} (sched₁ : List SchedEntry) (red₁ : RedState)
    (hsched : Part.sched ∈ ps) (hred : Part.red ∈ ps) (h : Evolves ps b s) :
    Evolves ps b { s with
      sched := sched₁
      red := red₁ } :=
  h.trans ⟨fun p hn => by cases p <;> first | rfl | exact absurd hsched hn | exact absurd hred hn, Nat.le_refl _, Nat.le_refl _, List.prefix_rfl, Nat.le_refl _, rfl, id⟩

theorem Evolves.set_lamp_diag {ps : List Part} {b s : State} (lamp₁ : LampState) (diag₁ : DiagState)
    (hlamp : Part.lamp ∈ ps) (hdiag : Part.diag ∈ ps) (h : Evolves ps b s) :
    Evolves ps b { s with
      lamp := lamp₁
      diag := diag₁ } :=
  h.trans ⟨fun p hn => by cases p <;> first | rfl | exact absurd hlamp hn | exact absurd hdiag hn, Nat.le_refl _, Nat.le_refl _, List.prefix_rfl, Nat.le_refl _, rfl, id⟩

theorem Evolves.set_wall_time {ps : List Part} {b s : State} (wall₁ : Nat) (time₁ : TimeState)
    (hwall : Part.wall ∈ ps) (htime : Part.time ∈ ps) (h : Evolves ps b s) :
    Evolves ps b { s with
      wall := wall₁
      time := time₁ } :=
  h.trans ⟨fun p hn => by cases p <;> first | rfl | exact absurd hwall hn | exact absurd htime hn, Nat.le_refl _, Nat.le_refl _, List.prefix_rfl, Nat.le_refl _, rfl, id⟩

theorem Evolves.set_repl_scan_red {ps : List Part} {b s : State} (repl₁ : ReplState) (scan₁ : ScanState) (red₁ : RedState)
    (hrepl : Part.repl ∈ ps) (hscan : Part.scan ∈ ps) (hred : Part.red ∈ ps) (h : Evolves ps b s) :
    Evolves ps b { s with
      repl := repl₁
      scan := scan₁
      red := red₁ } :=
  h.trans ⟨fun p hn => by cases p <;> first | rfl | exact absurd hrepl hn | exact absurd hscan hn | exact absurd hred hn, Nat.le_refl _, Nat.le_refl _, List.prefix_rfl, Nat.le_refl _, rfl, id⟩

theorem Evolves.set_sched_scan_red {ps : List Part} {b s : State} (sched₁ : List SchedEntry) (scan₁ : ScanState) (red₁ : RedState)
    (hsched : Part.sched ∈ ps) (hscan : Part.scan ∈ ps) (hred : Part.red ∈ ps) (h : Evolves ps b s) :
    Evolves ps b { s with
      sched := sched₁
      scan := scan₁
      red := red₁ } :=
  h.trans ⟨fun p hn => by cases p <;> first | rfl | exact absurd hsched hn | exact absurd hscan hn | exact absurd hred hn, Nat.le_refl _, Nat.le_refl _, List.prefix_rfl, Nat.le_refl _, rfl, id⟩

theorem Evolves.set_faults_rst_thm_boot {ps : List Part} {b s : State} (faults₁ : FaultLog) (rst₁ : RstState) (thm₁ : ThmState) (boot₁ : BootState)
    (hfaults : Part.faults ∈ ps) (hrst : Part.rst ∈ ps) (hthm : Part.thm ∈ ps) (hboot : Part.boot ∈ ps) (h : Evolves ps b s) :
    Evolves ps b { s with
      faults := faults₁
      rst := rst₁
      thm := thm₁
      boot := boot₁ } :=
  h.trans ⟨fun p hn => by cases p <;> first | rfl | exact absurd hfaults hn | exact absurd hrst hn | exact absurd hthm hn | exact absurd hboot hn, Nat.le_refl _, Nat.le_refl _, List.prefix_rfl, Nat.le_refl _, rfl, id⟩

theorem Evolves.set_wall_flip_sched_time {ps : List Part} {b s : State} (wall₁ : Nat) (flip₁ : FlipState) (sched₁ : List SchedEntry) (time₁ : TimeState)
    (hwall : Part.wall ∈ ps) (hflip : Part.flip ∈ ps) (hsched : Part.sched ∈ ps) (htime : Part.time ∈ ps) (h : Evolves ps b s) :
    Evolves ps b { s with
      wall := wall₁
      flip := flip₁
      sched := sched₁
      time := time₁ } :=
  h.trans ⟨fun p hn => by cases p <;> first | rfl | exact absurd hwall hn | exact absurd hflip hn | exact absurd hsched hn | exact absurd htime hn, Nat.le_refl _, Nat.le_refl _, List.prefix_rfl, Nat.le_refl _, rfl, id⟩

theorem Evolves.set_gen_gnt_cmd_link_rst_boot {ps : List Part} {b s : State} (gen₁ : AuthState) (gnt₁ : AuthState) (cmd₁ : CmdState) (link₁ : LinkState) (rst₁ : RstState) (boot₁ : BootState)
    (hgen : Part.gen ∈ ps) (hgnt : Part.gnt ∈ ps) (hcmd : Part.cmd ∈ ps) (hlink : Part.link ∈ ps) (hrst : Part.rst ∈ ps) (hboot : Part.boot ∈ ps) (h : Evolves ps b s) :
    Evolves ps b { s with
      gen := gen₁
      gnt := gnt₁
      cmd := cmd₁
      link := link₁
      rst := rst₁
      boot := boot₁ } :=
  h.trans ⟨fun p hn => by cases p <;> first | rfl | exact absurd hgen hn | exact absurd hgnt hn | exact absurd hcmd hn | exact absurd hlink hn | exact absurd hrst hn | exact absurd hboot hn, Nat.le_refl _, Nat.le_refl _, List.prefix_rfl, Nat.le_refl _, rfl, id⟩

/-- Words written to the staging bank of the Module Map. -/
theorem Evolves.set_staging {ps : List Part} {b s : State} (k : Nat) (ws : List Word) (hp : Part.map ∈ ps) (h : Evolves ps b s) :
    Evolves ps b { s with map := ⟨s.map.active, Sparse.putRun mapReset s.map.staging k ws⟩ } :=
  h.trans ⟨fun p hn => by cases p <;> first | rfl | exact absurd hp hn, Nat.le_refl _, Nat.le_refl _, List.prefix_rfl, Nat.le_refl _,
    rfl, fun hc => ⟨hc.1, hc.2.1, hc.2.2.1, Sparse.wf_putRun _ _ _ _ hc.2.2.2.1, hc.2.2.2.2⟩⟩

/-- The state after reset is canonical. -/
theorem State.reset_canon : State.reset.canon := ⟨rfl, rfl, rfl, rfl, rfl, rfl⟩

/-- Parts replaced in any way that keeps what Evolves asks. -/
theorem Evolves.change {ps : List Part} {b s : State} (t : State) (hp : OnlyParts ps s t) (hc : t.cycles = s.cycles) (hf : t.fresh = s.fresh)
    (hs : t.sent = s.sent) (hu : t.fuses = s.fuses) (hk : s.canon → t.canon) (h : Evolves ps b s) : Evolves ps b t :=
  h.trans ⟨hp, hc.ge, hf.ge, hs ▸ List.prefix_rfl, hu ▸ Nat.le_refl _, by rw [hu], hk⟩

end Sys2Proof.Machine
end

