-- ==== Sys2Proof/Laws/EvolveOps.lean ====
section
/-! SUPPORT. What the operations of Machine/Ops.lean keep (Evolves). -/

set_option linter.unusedSimpArgs false
set_option linter.unreachableTactic false
set_option linter.unusedTactic false
set_option linter.unusedVariables false

namespace Sys2Proof.Machine

theorem State.setReg_evolves {ps₀ : List Part} {b₀ : State} (s : State) (a : Nat) (w : Word)
    (hp₀ : [.regs] ⊆ ps₀) (hb₀ : Evolves ps₀ b₀ s) :
    Evolves ps₀ b₀ (State.setReg s a w) := by
  simp only [List.cons_subset, List.nil_subset, and_true] at hp₀
  exact hb₀.set_regs _ (Sparse.wf_put regReset s.regs a w) hp₀

theorem State.setFld_evolves {ps₀ : List Part} {b₀ : State} (s : State) (f : Fld) (v : Nat)
    (hp₀ : [.regs] ⊆ ps₀) (hb₀ : Evolves ps₀ b₀ s) :
    Evolves ps₀ b₀ (State.setFld s f v) := by
  simp only [List.cons_subset, List.nil_subset, and_true] at hp₀
  unfold State.setFld
  try dsimp only
  repeat' (first
    | focus (simp (maxDischargeDepth := 60) only [↓State.setReg_evolves, ↓Evolves.foldl, ↓Evolves.foldl_fst, ↓Evolves.ite,
        ↓Evolves.ite_fst, ↓Evolves.elim_opt, Evolves.refl, Nat.le_add_right, implies_true, List.cons_subset, List.nil_subset,
        and_true, hp₀, hb₀];done)
    | (refine Evolves.foldl _ _ _ (fun u x => ?_) ?_ <;> try dsimp only)
    | (refine Evolves.foldl_fst _ _ _ (fun u x => ?_) ?_ <;> try dsimp only)
    | split)

theorem State.setFlag_evolves {ps₀ : List Part} {b₀ : State} (s : State) (f : Fld) (b : Bool)
    (hp₀ : [.regs] ⊆ ps₀) (hb₀ : Evolves ps₀ b₀ s) :
    Evolves ps₀ b₀ (State.setFlag s f b) := by
  simp only [List.cons_subset, List.nil_subset, and_true] at hp₀
  unfold State.setFlag
  try dsimp only
  repeat' (first
    | focus (simp (maxDischargeDepth := 60) only [↓State.setFld_evolves, ↓Evolves.foldl, ↓Evolves.foldl_fst, ↓Evolves.ite,
        ↓Evolves.ite_fst, ↓Evolves.elim_opt, Evolves.refl, Nat.le_add_right, implies_true, List.cons_subset, List.nil_subset,
        and_true, hp₀, hb₀];done)
    | (refine Evolves.foldl _ _ _ (fun u x => ?_) ?_ <;> try dsimp only)
    | (refine Evolves.foldl_fst _ _ _ (fun u x => ?_) ?_ <;> try dsimp only)
    | split)

theorem State.event_evolves {ps₀ : List Part} {b₀ : State} (s : State) (f : Fld)
    (hp₀ : [.regs] ⊆ ps₀) (hb₀ : Evolves ps₀ b₀ s) :
    Evolves ps₀ b₀ (State.event s f) := by
  simp only [List.cons_subset, List.nil_subset, and_true] at hp₀
  unfold State.event
  try dsimp only
  repeat' (first
    | focus (simp (maxDischargeDepth := 60) only [↓State.setFld_evolves, ↓Evolves.foldl, ↓Evolves.foldl_fst, ↓Evolves.ite,
        ↓Evolves.ite_fst, ↓Evolves.elim_opt, Evolves.refl, Nat.le_add_right, implies_true, List.cons_subset, List.nil_subset,
        and_true, hp₀, hb₀];done)
    | (refine Evolves.foldl _ _ _ (fun u x => ?_) ?_ <;> try dsimp only)
    | (refine Evolves.foldl_fst _ _ _ (fun u x => ?_) ?_ <;> try dsimp only)
    | split)

theorem State.bump_evolves {ps₀ : List Part} {b₀ : State} (s : State) (f : Fld)
    (hp₀ : [.regs] ⊆ ps₀) (hb₀ : Evolves ps₀ b₀ s) :
    Evolves ps₀ b₀ (State.bump s f) := by
  simp only [List.cons_subset, List.nil_subset, and_true] at hp₀
  unfold State.bump
  try dsimp only
  repeat' (first
    | focus (simp (maxDischargeDepth := 60) only [↓State.setFld_evolves, ↓Evolves.foldl, ↓Evolves.foldl_fst, ↓Evolves.ite,
        ↓Evolves.ite_fst, ↓Evolves.elim_opt, Evolves.refl, Nat.le_add_right, implies_true, List.cons_subset, List.nil_subset,
        and_true, hp₀, hb₀];done)
    | (refine Evolves.foldl _ _ _ (fun u x => ?_) ?_ <;> try dsimp only)
    | (refine Evolves.foldl_fst _ _ _ (fun u x => ?_) ?_ <;> try dsimp only)
    | split)

theorem State.bumpBy_evolves {ps₀ : List Part} {b₀ : State} (s : State) (f : Fld) (n : Nat)
    (hp₀ : [.regs] ⊆ ps₀) (hb₀ : Evolves ps₀ b₀ s) :
    Evolves ps₀ b₀ (State.bumpBy s f n) := by
  simp only [List.cons_subset, List.nil_subset, and_true] at hp₀
  unfold State.bumpBy
  try dsimp only
  repeat' (first
    | focus (simp (maxDischargeDepth := 60) only [↓State.setFld_evolves, ↓Evolves.foldl, ↓Evolves.foldl_fst, ↓Evolves.ite,
        ↓Evolves.ite_fst, ↓Evolves.elim_opt, Evolves.refl, Nat.le_add_right, implies_true, List.cons_subset, List.nil_subset,
        and_true, hp₀, hb₀];done)
    | (refine Evolves.foldl _ _ _ (fun u x => ?_) ?_ <;> try dsimp only)
    | (refine Evolves.foldl_fst _ _ _ (fun u x => ?_) ?_ <;> try dsimp only)
    | split)

theorem State.wrapInc_evolves {ps₀ : List Part} {b₀ : State} (s : State) (f : Fld)
    (hp₀ : [.regs] ⊆ ps₀) (hb₀ : Evolves ps₀ b₀ s) :
    Evolves ps₀ b₀ (State.wrapInc s f) := by
  simp only [List.cons_subset, List.nil_subset, and_true] at hp₀
  unfold State.wrapInc
  try dsimp only
  repeat' (first
    | focus (simp (maxDischargeDepth := 60) only [↓State.setFld_evolves, ↓Evolves.foldl, ↓Evolves.foldl_fst, ↓Evolves.ite,
        ↓Evolves.ite_fst, ↓Evolves.elim_opt, Evolves.refl, Nat.le_add_right, implies_true, List.cons_subset, List.nil_subset,
        and_true, hp₀, hb₀];done)
    | (refine Evolves.foldl _ _ _ (fun u x => ?_) ?_ <;> try dsimp only)
    | (refine Evolves.foldl_fst _ _ _ (fun u x => ?_) ?_ <;> try dsimp only)
    | split)

theorem State.eventCount_evolves {ps₀ : List Part} {b₀ : State} (s : State) (e c : Fld)
    (hp₀ : [.regs] ⊆ ps₀) (hb₀ : Evolves ps₀ b₀ s) :
    Evolves ps₀ b₀ (State.eventCount s e c) := by
  simp only [List.cons_subset, List.nil_subset, and_true] at hp₀
  unfold State.eventCount
  try dsimp only
  repeat' (first
    | focus (simp (maxDischargeDepth := 60) only [↓State.bump_evolves, ↓State.event_evolves, ↓Evolves.foldl, ↓Evolves.foldl_fst,
        ↓Evolves.ite, ↓Evolves.ite_fst, ↓Evolves.elim_opt, Evolves.refl, Nat.le_add_right, implies_true, List.cons_subset,
        List.nil_subset, and_true, hp₀, hb₀];done)
    | (refine Evolves.foldl _ _ _ (fun u x => ?_) ?_ <;> try dsimp only)
    | (refine Evolves.foldl_fst _ _ _ (fun u x => ?_) ?_ <;> try dsimp only)
    | split)

theorem State.clearRegs_evolves {ps₀ : List Part} {b₀ : State} (s : State) (lo hi : Nat)
    (hp₀ : [.regs] ⊆ ps₀) (hb₀ : Evolves ps₀ b₀ s) :
    Evolves ps₀ b₀ (State.clearRegs s lo hi) := by
  simp only [List.cons_subset, List.nil_subset, and_true] at hp₀
  exact hb₀.set_regs _ (Sparse.wf_eraseRange regReset s.regs lo hi) hp₀

theorem State.setBit_evolves {ps₀ : List Part} {b₀ : State} (s : State) (f : Fld) (i : Nat) (b : Bool)
    (hp₀ : [.regs] ⊆ ps₀) (hb₀ : Evolves ps₀ b₀ s) :
    Evolves ps₀ b₀ (State.setBit s f i b) := by
  simp only [List.cons_subset, List.nil_subset, and_true] at hp₀
  unfold State.setBit
  try dsimp only
  repeat' (first
    | focus (simp (maxDischargeDepth := 60) only [↓State.setFld_evolves, ↓Evolves.foldl, ↓Evolves.foldl_fst, ↓Evolves.ite,
        ↓Evolves.ite_fst, ↓Evolves.elim_opt, Evolves.refl, Nat.le_add_right, implies_true, List.cons_subset, List.nil_subset,
        and_true, hp₀, hb₀];done)
    | (refine Evolves.foldl _ _ _ (fun u x => ?_) ?_ <;> try dsimp only)
    | (refine Evolves.foldl_fst _ _ _ (fun u x => ?_) ?_ <;> try dsimp only)
    | split)

theorem State.setMode_evolves {ps₀ : List Part} {b₀ : State} (s : State) (m : Mode)
    (hp₀ : [.regs] ⊆ ps₀) (hb₀ : Evolves ps₀ b₀ s) :
    Evolves ps₀ b₀ (State.setMode s m) := by
  simp only [List.cons_subset, List.nil_subset, and_true] at hp₀
  unfold State.setMode
  try dsimp only
  repeat' (first
    | focus (simp (maxDischargeDepth := 60) only [↓State.wrapInc_evolves, ↓State.setFld_evolves, ↓Evolves.foldl,
        ↓Evolves.foldl_fst, ↓Evolves.ite, ↓Evolves.ite_fst, ↓Evolves.elim_opt, Evolves.refl, Nat.le_add_right, implies_true,
        List.cons_subset, List.nil_subset, and_true, hp₀, hb₀];done)
    | (refine Evolves.foldl _ _ _ (fun u x => ?_) ?_ <;> try dsimp only)
    | (refine Evolves.foldl_fst _ _ _ (fun u x => ?_) ?_ <;> try dsimp only)
    | split)

theorem State.drawn_evolves {ps₀ : List Part} {b₀ : State} (s : State)
    (hp₀ : [.fresh] ⊆ ps₀) (hb₀ : Evolves ps₀ b₀ s) :
    Evolves ps₀ b₀ (State.drawn s) := by
  simp only [List.cons_subset, List.nil_subset, and_true] at hp₀
  exact hb₀.set_fresh _ (Nat.le_add_right _ _) hp₀

theorem State.ticks_evolves {ps₀ : List Part} {b₀ : State} (s : State) (n : Nat)
    (hp₀ : [.cycles, .wall] ⊆ ps₀) (hb₀ : Evolves ps₀ b₀ s) :
    Evolves ps₀ b₀ (State.ticks s n) := by
  simp only [List.cons_subset, List.nil_subset, and_true] at hp₀
  exact hb₀.trans ⟨fun p hn => by cases p <;> first | rfl | exact absurd hp₀.1 hn | exact absurd hp₀.2 hn, Nat.le_add_right _ _,
    Nat.le_refl _, List.prefix_rfl, Nat.le_refl _, rfl, id⟩

theorem State.untilWall_evolves {ps₀ : List Part} {b₀ : State} (s : State) (due : Nat)
    (hp₀ : [.cycles, .wall] ⊆ ps₀) (hb₀ : Evolves ps₀ b₀ s) :
    Evolves ps₀ b₀ (State.untilWall s due) := by
  simp only [List.cons_subset, List.nil_subset, and_true] at hp₀
  unfold State.untilWall
  try dsimp only
  repeat' (first
    | focus (simp (maxDischargeDepth := 60) only [↓State.ticks_evolves, ↓Evolves.foldl, ↓Evolves.foldl_fst, ↓Evolves.ite,
        ↓Evolves.ite_fst, ↓Evolves.elim_opt, Evolves.refl, Nat.le_add_right, implies_true, List.cons_subset, List.nil_subset,
        and_true, hp₀, hb₀];done)
    | (refine Evolves.foldl _ _ _ (fun u x => ?_) ?_ <;> try dsimp only)
    | (refine Evolves.foldl_fst _ _ _ (fun u x => ?_) ?_ <;> try dsimp only)
    | split)

theorem State.untilCycle_evolves {ps₀ : List Part} {b₀ : State} (s : State) (due : Nat)
    (hp₀ : [.cycles, .wall] ⊆ ps₀) (hb₀ : Evolves ps₀ b₀ s) :
    Evolves ps₀ b₀ (State.untilCycle s due) := by
  simp only [List.cons_subset, List.nil_subset, and_true] at hp₀
  unfold State.untilCycle
  try dsimp only
  repeat' (first
    | focus (simp (maxDischargeDepth := 60) only [↓State.ticks_evolves, ↓Evolves.foldl, ↓Evolves.foldl_fst, ↓Evolves.ite,
        ↓Evolves.ite_fst, ↓Evolves.elim_opt, Evolves.refl, Nat.le_add_right, implies_true, List.cons_subset, List.nil_subset,
        and_true, hp₀, hb₀];done)
    | (refine Evolves.foldl _ _ _ (fun u x => ?_) ?_ <;> try dsimp only)
    | (refine Evolves.foldl_fst _ _ _ (fun u x => ?_) ?_ <;> try dsimp only)
    | split)

theorem State.latchDiv_evolves {ps₀ : List Part} {b₀ : State} (s : State)
    (hp₀ : [.regs] ⊆ ps₀) (hb₀ : Evolves ps₀ b₀ s) :
    Evolves ps₀ b₀ (State.latchDiv s) := by
  simp only [List.cons_subset, List.nil_subset, and_true] at hp₀
  unfold State.latchDiv
  try dsimp only
  repeat' (first
    | focus (simp (maxDischargeDepth := 60) only [↓State.setFld_evolves, ↓Evolves.foldl, ↓Evolves.foldl_fst, ↓Evolves.ite,
        ↓Evolves.ite_fst, ↓Evolves.elim_opt, Evolves.refl, Nat.le_add_right, implies_true, List.cons_subset, List.nil_subset,
        and_true, hp₀, hb₀];done)
    | (refine Evolves.foldl _ _ _ (fun u x => ?_) ?_ <;> try dsimp only)
    | (refine Evolves.foldl_fst _ _ _ (fun u x => ?_) ?_ <;> try dsimp only)
    | split)

theorem State.setAuth_evolves {ps₀ : List Part} {b₀ : State} (s : State) (a : Auth) (x : AuthState)
    (hp₀ : [.gen, .gnt] ⊆ ps₀) (hb₀ : Evolves ps₀ b₀ s) :
    Evolves ps₀ b₀ (State.setAuth s a x) := by
  simp only [List.cons_subset, List.nil_subset, and_true] at hp₀
  cases a
  · exact hb₀.set_gen _ hp₀.1
  · exact hb₀.set_gnt _ hp₀.2

theorem State.send_evolves {ps₀ : List Part} {b₀ : State} (s : State) (o : Output)
    (hp₀ : [.sent] ⊆ ps₀) (hb₀ : Evolves ps₀ b₀ s) :
    Evolves ps₀ b₀ (State.send s o) := by
  simp only [List.cons_subset, List.nil_subset, and_true] at hp₀
  exact hb₀.set_sent _ (List.prefix_append _ _) hp₀

end Sys2Proof.Machine
end

