-- ==== Sys2Proof/Laws/EvolveLinkOps.lean ====
section
/-! SUPPORT. What the operations of Machine/LinkOps.lean keep (Evolves). -/

set_option linter.unusedSimpArgs false
set_option linter.unreachableTactic false
set_option linter.unusedTactic false
set_option linter.unusedVariables false

namespace Sys2Proof.Machine

theorem State.setPort_evolves {ps₀ : List Part} {b₀ : State} (s : State) (p : Nat) (x : PortState)
    (hp₀ : [.link] ⊆ ps₀) (hb₀ : Evolves ps₀ b₀ s) :
    Evolves ps₀ b₀ (State.setPort s p x) := by
  simp only [List.cons_subset, List.nil_subset, and_true] at hp₀
  unfold State.setPort
  try dsimp only
  repeat' (first
    | focus (simp (maxDischargeDepth := 60) only [↓Evolves.set_link, ↓Evolves.foldl, ↓Evolves.foldl_fst, ↓Evolves.ite,
        ↓Evolves.ite_fst, ↓Evolves.elim_opt, Evolves.refl, Nat.le_add_right, implies_true, List.cons_subset, List.nil_subset,
        and_true, hp₀, hb₀];done)
    | (refine Evolves.foldl _ _ _ (fun u x => ?_) ?_ <;> try dsimp only)
    | (refine Evolves.foldl_fst _ _ _ (fun u x => ?_) ?_ <;> try dsimp only)
    | split)

theorem State.emitMsg_evolves {ps₀ : List Part} {b₀ : State} (s : State) (p dst : Nat) (m : LinkMsg) (tiles : List Nat)
    (hp₀ : [.sent, .link] ⊆ ps₀) (hb₀ : Evolves ps₀ b₀ s) :
    Evolves ps₀ b₀ (State.emitMsg s p dst m tiles) := by
  simp only [List.cons_subset, List.nil_subset, and_true] at hp₀
  unfold State.emitMsg
  try dsimp only
  repeat' (first
    | focus (simp (maxDischargeDepth := 60) only [↓State.send_evolves, ↓State.setPort_evolves, ↓Evolves.set_link, ↓Evolves.foldl,
        ↓Evolves.foldl_fst, ↓Evolves.ite, ↓Evolves.ite_fst, ↓Evolves.elim_opt, Evolves.refl, Nat.le_add_right, implies_true,
        List.cons_subset, List.nil_subset, and_true, hp₀, hb₀];done)
    | (refine Evolves.foldl _ _ _ (fun u x => ?_) ?_ <;> try dsimp only)
    | (refine Evolves.foldl_fst _ _ _ (fun u x => ?_) ?_ <;> try dsimp only)
    | split)

theorem State.sendMsg_evolves {ps₀ : List Part} {b₀ : State} (s : State) (p dst : Nat) (m : LinkMsg) (tiles : List Nat)
    (hp₀ : [.sent, .link] ⊆ ps₀) (hb₀ : Evolves ps₀ b₀ s) :
    Evolves ps₀ b₀ (State.sendMsg s p dst m tiles) := by
  simp only [List.cons_subset, List.nil_subset, and_true] at hp₀
  unfold State.sendMsg
  try dsimp only
  repeat' (first
    | focus (simp (maxDischargeDepth := 60) only [↓State.emitMsg_evolves, ↓Evolves.set_link, ↓Evolves.foldl, ↓Evolves.foldl_fst,
        ↓Evolves.ite, ↓Evolves.ite_fst, ↓Evolves.elim_opt, Evolves.refl, Nat.le_add_right, implies_true, List.cons_subset,
        List.nil_subset, and_true, hp₀, hb₀];done)
    | (refine Evolves.foldl _ _ _ (fun u x => ?_) ?_ <;> try dsimp only)
    | (refine Evolves.foldl_fst _ _ _ (fun u x => ?_) ?_ <;> try dsimp only)
    | split)

theorem State.sendTile_evolves {ps₀ : List Part} {b₀ : State} (s : State) (tile : Nat) (m : LinkMsg)
    (hp₀ : [.sent, .link] ⊆ ps₀) (hb₀ : Evolves ps₀ b₀ s) :
    Evolves ps₀ b₀ (State.sendTile s tile m) := by
  simp only [List.cons_subset, List.nil_subset, and_true] at hp₀
  unfold State.sendTile
  try dsimp only
  repeat' (first
    | focus (simp (maxDischargeDepth := 60) only [↓State.sendMsg_evolves, ↓Evolves.foldl, ↓Evolves.foldl_fst, ↓Evolves.ite,
        ↓Evolves.ite_fst, ↓Evolves.elim_opt, Evolves.refl, Nat.le_add_right, implies_true, List.cons_subset, List.nil_subset,
        and_true, hp₀, hb₀];done)
    | (refine Evolves.foldl _ _ _ (fun u x => ?_) ?_ <;> try dsimp only)
    | (refine Evolves.foldl_fst _ _ _ (fun u x => ?_) ?_ <;> try dsimp only)
    | split)

theorem State.sendAll_evolves {ps₀ : List Part} {b₀ : State} (s : State) (m : LinkMsg)
    (hp₀ : [.sent, .link] ⊆ ps₀) (hb₀ : Evolves ps₀ b₀ s) :
    Evolves ps₀ b₀ (State.sendAll s m) := by
  simp only [List.cons_subset, List.nil_subset, and_true] at hp₀
  unfold State.sendAll
  try dsimp only
  repeat' (first
    | focus (simp (maxDischargeDepth := 60) only [↓State.sendMsg_evolves, ↓Evolves.foldl, ↓Evolves.foldl_fst, ↓Evolves.ite,
        ↓Evolves.ite_fst, ↓Evolves.elim_opt, Evolves.refl, Nat.le_add_right, implies_true, List.cons_subset, List.nil_subset,
        and_true, hp₀, hb₀];done)
    | (refine Evolves.foldl _ _ _ (fun u x => ?_) ?_ <;> try dsimp only)
    | (refine Evolves.foldl_fst _ _ _ (fun u x => ?_) ?_ <;> try dsimp only)
    | split)

theorem State.sendActive_evolves {ps₀ : List Part} {b₀ : State} (s : State) (m : LinkMsg)
    (hp₀ : [.sent, .link] ⊆ ps₀) (hb₀ : Evolves ps₀ b₀ s) :
    Evolves ps₀ b₀ (State.sendActive s m) := by
  simp only [List.cons_subset, List.nil_subset, and_true] at hp₀
  unfold State.sendActive
  try dsimp only
  repeat' (first
    | focus (simp (maxDischargeDepth := 60) only [↓State.sendMsg_evolves, ↓Evolves.foldl, ↓Evolves.foldl_fst, ↓Evolves.ite,
        ↓Evolves.ite_fst, ↓Evolves.elim_opt, Evolves.refl, Nat.le_add_right, implies_true, List.cons_subset, List.nil_subset,
        and_true, hp₀, hb₀];done)
    | (refine Evolves.foldl _ _ _ (fun u x => ?_) ?_ <;> try dsimp only)
    | (refine Evolves.foldl_fst _ _ _ (fun u x => ?_) ?_ <;> try dsimp only)
    | split)

theorem State.sendBoth_evolves {ps₀ : List Part} {b₀ : State} (s : State) (m : LinkMsg)
    (hp₀ : [.sent, .link] ⊆ ps₀) (hb₀ : Evolves ps₀ b₀ s) :
    Evolves ps₀ b₀ (State.sendBoth s m) := by
  simp only [List.cons_subset, List.nil_subset, and_true] at hp₀
  unfold State.sendBoth
  try dsimp only
  repeat' (first
    | focus (simp (maxDischargeDepth := 60) only [↓State.sendMsg_evolves, ↓Evolves.foldl, ↓Evolves.foldl_fst, ↓Evolves.ite,
        ↓Evolves.ite_fst, ↓Evolves.elim_opt, Evolves.refl, Nat.le_add_right, implies_true, List.cons_subset, List.nil_subset,
        and_true, hp₀, hb₀];done)
    | (refine Evolves.foldl _ _ _ (fun u x => ?_) ?_ <;> try dsimp only)
    | (refine Evolves.foldl_fst _ _ _ (fun u x => ?_) ?_ <;> try dsimp only)
    | split)

end Sys2Proof.Machine
end

