-- ==== Sys2Proof/Laws/EvolvePacket.lean ====
section
/-! SUPPORT. What the operations of Machine/Packet.lean keep (Evolves). -/

set_option linter.unusedSimpArgs false
set_option linter.unreachableTactic false
set_option linter.unusedTactic false
set_option linter.unusedVariables false

namespace Sys2Proof.Machine

theorem State.deliver_evolves {ps₀ : List Part} {b₀ : State} (s : State) (via : Transport) (bs : List Byte)
    (hp₀ : [.regs, .sent, .cmd, .link] ⊆ ps₀) (hb₀ : Evolves ps₀ b₀ s) :
    Evolves ps₀ b₀ (State.deliver s via bs) := by
  simp only [List.cons_subset, List.nil_subset, and_true] at hp₀
  unfold State.deliver
  try dsimp only
  repeat' (first
    | focus (simp (maxDischargeDepth := 60) only [↓State.event_evolves, ↓State.send_evolves, ↓State.sendActive_evolves,
        ↓Evolves.set_cmd, ↓Evolves.foldl, ↓Evolves.foldl_fst, ↓Evolves.ite, ↓Evolves.ite_fst, ↓Evolves.elim_opt, Evolves.refl,
        Nat.le_add_right, implies_true, List.cons_subset, List.nil_subset, and_true, hp₀, hb₀];done)
    | (refine Evolves.foldl _ _ _ (fun u x => ?_) ?_ <;> try dsimp only)
    | (refine Evolves.foldl_fst _ _ _ (fun u x => ?_) ?_ <;> try dsimp only)
    | split)

theorem State.answer_evolves {ps₀ : List Part} {b₀ : State} (s : State) (h : Hdr) (op : Nat) (r : Reply)
    (hp₀ : [.regs, .sent, .cmd, .link] ⊆ ps₀) (hb₀ : Evolves ps₀ b₀ s) :
    Evolves ps₀ b₀ (State.answer s h op r) := by
  simp only [List.cons_subset, List.nil_subset, and_true] at hp₀
  unfold State.answer
  try dsimp only
  repeat' (first
    | focus (simp (maxDischargeDepth := 60) only [↓State.event_evolves, ↓State.deliver_evolves, ↓State.send_evolves,
        ↓Evolves.foldl, ↓Evolves.foldl_fst, ↓Evolves.ite, ↓Evolves.ite_fst, ↓Evolves.elim_opt, Evolves.refl, Nat.le_add_right,
        implies_true, List.cons_subset, List.nil_subset, and_true, hp₀, hb₀];done)
    | (refine Evolves.foldl _ _ _ (fun u x => ?_) ?_ <;> try dsimp only)
    | (refine Evolves.foldl_fst _ _ _ (fun u x => ?_) ?_ <;> try dsimp only)
    | split)

theorem State.respond_evolves {ps₀ : List Part} {b₀ : State} (s : State) (h : Hdr) (op : Nat) (r : Reply)
    (hp₀ : [.regs, .sent, .gen, .gnt, .cmd, .link] ⊆ ps₀) (hb₀ : Evolves ps₀ b₀ s) :
    Evolves ps₀ b₀ (State.respond s h op r) := by
  simp only [List.cons_subset, List.nil_subset, and_true] at hp₀
  unfold State.respond
  try dsimp only
  repeat' (first
    | focus (simp (maxDischargeDepth := 60) only [↓State.answer_evolves, ↓State.setAuth_evolves, ↓Evolves.foldl,
        ↓Evolves.foldl_fst, ↓Evolves.ite, ↓Evolves.ite_fst, ↓Evolves.elim_opt, Evolves.refl, Nat.le_add_right, implies_true,
        List.cons_subset, List.nil_subset, and_true, hp₀, hb₀];done)
    | (refine Evolves.foldl _ _ _ (fun u x => ?_) ?_ <;> try dsimp only)
    | (refine Evolves.foldl_fst _ _ _ (fun u x => ?_) ?_ <;> try dsimp only)
    | split)

theorem State.respondPlain_evolves {ps₀ : List Part} {b₀ : State} (s : State) (h : Hdr) (op : Nat) (r : Reply)
    (hp₀ : [.regs, .sent, .cmd, .link] ⊆ ps₀) (hb₀ : Evolves ps₀ b₀ s) :
    Evolves ps₀ b₀ (State.respondPlain s h op r) := by
  simp only [List.cons_subset, List.nil_subset, and_true] at hp₀
  unfold State.respondPlain
  try dsimp only
  repeat' (first
    | focus (simp (maxDischargeDepth := 60) only [↓State.deliver_evolves, ↓State.send_evolves, ↓Evolves.foldl, ↓Evolves.foldl_fst,
        ↓Evolves.ite, ↓Evolves.ite_fst, ↓Evolves.elim_opt, Evolves.refl, Nat.le_add_right, implies_true, List.cons_subset,
        List.nil_subset, and_true, hp₀, hb₀];done)
    | (refine Evolves.foldl _ _ _ (fun u x => ?_) ?_ <;> try dsimp only)
    | (refine Evolves.foldl_fst _ _ _ (fun u x => ?_) ?_ <;> try dsimp only)
    | split)

theorem State.refuse_evolves {ps₀ : List Part} {b₀ : State} (s : State) (h : Hdr) (op : Nat) (x : Status)
    (hp₀ : [.regs, .sent, .gen, .gnt, .cmd, .link] ⊆ ps₀) (hb₀ : Evolves ps₀ b₀ s) :
    Evolves ps₀ b₀ (State.refuse s h op x) := by
  simp only [List.cons_subset, List.nil_subset, and_true] at hp₀
  unfold State.refuse
  try dsimp only
  repeat' (first
    | focus (simp (maxDischargeDepth := 60) only [↓State.respond_evolves, ↓Evolves.foldl, ↓Evolves.foldl_fst, ↓Evolves.ite,
        ↓Evolves.ite_fst, ↓Evolves.elim_opt, Evolves.refl, Nat.le_add_right, implies_true, List.cons_subset, List.nil_subset,
        and_true, hp₀, hb₀];done)
    | (refine Evolves.foldl _ _ _ (fun u x => ?_) ?_ <;> try dsimp only)
    | (refine Evolves.foldl_fst _ _ _ (fun u x => ?_) ?_ <;> try dsimp only)
    | split)

end Sys2Proof.Machine
end

