-- ==== Sys2Proof/Laws/EvolveJournal.lean ====
section
/-! SUPPORT. What the operations of Machine/Journal.lean keep (Evolves). -/

set_option linter.unusedSimpArgs false
set_option linter.unreachableTactic false
set_option linter.unusedTactic false
set_option linter.unusedVariables false

namespace Sys2Proof.Machine

theorem State.sendOn_evolves {ps₀ : List Part} {b₀ : State} (s : State) (p : Nat) (m : PartnerMsg)
    (hp₀ : [.sent, .red] ⊆ ps₀) (hb₀ : Evolves ps₀ b₀ s) :
    Evolves ps₀ b₀ (State.sendOn s p m) := by
  simp only [List.cons_subset, List.nil_subset, and_true] at hp₀
  unfold State.sendOn
  try dsimp only
  repeat' (first
    | focus (simp (maxDischargeDepth := 60) only [↓State.send_evolves, ↓Evolves.set_red, ↓Evolves.foldl, ↓Evolves.foldl_fst,
        ↓Evolves.ite, ↓Evolves.ite_fst, ↓Evolves.elim_opt, Evolves.refl, Nat.le_add_right, implies_true, List.cons_subset,
        List.nil_subset, and_true, hp₀, hb₀];done)
    | (refine Evolves.foldl _ _ _ (fun u x => ?_) ?_ <;> try dsimp only)
    | (refine Evolves.foldl_fst _ _ _ (fun u x => ?_) ?_ <;> try dsimp only)
    | split)

theorem State.sendPartner_evolves {ps₀ : List Part} {b₀ : State} (s : State) (m : PartnerMsg)
    (hp₀ : [.sent, .red] ⊆ ps₀) (hb₀ : Evolves ps₀ b₀ s) :
    Evolves ps₀ b₀ (State.sendPartner s m) := by
  simp only [List.cons_subset, List.nil_subset, and_true] at hp₀
  unfold State.sendPartner
  try dsimp only
  repeat' (first
    | focus (simp (maxDischargeDepth := 60) only [↓State.sendOn_evolves, ↓Evolves.foldl, ↓Evolves.foldl_fst, ↓Evolves.ite,
        ↓Evolves.ite_fst, ↓Evolves.elim_opt, Evolves.refl, Nat.le_add_right, implies_true, List.cons_subset, List.nil_subset,
        and_true, hp₀, hb₀];done)
    | (refine Evolves.foldl _ _ _ (fun u x => ?_) ?_ <;> try dsimp only)
    | (refine Evolves.foldl_fst _ _ _ (fun u x => ?_) ?_ <;> try dsimp only)
    | split)

theorem State.append_evolves {ps₀ : List Part} {b₀ : State} (s : State) (i : ReplItem)
    (hp₀ : [.sent, .repl, .red] ⊆ ps₀) (hb₀ : Evolves ps₀ b₀ s) :
    Evolves ps₀ b₀ (State.append s i) := by
  simp only [List.cons_subset, List.nil_subset, and_true] at hp₀
  unfold State.append
  try dsimp only
  repeat' (first
    | focus (simp (maxDischargeDepth := 60) only [↓State.sendPartner_evolves, ↓Evolves.set_repl, ↓Evolves.foldl,
        ↓Evolves.foldl_fst, ↓Evolves.ite, ↓Evolves.ite_fst, ↓Evolves.elim_opt, Evolves.refl, Nat.le_add_right, implies_true,
        List.cons_subset, List.nil_subset, and_true, hp₀, hb₀];done)
    | (refine Evolves.foldl _ _ _ (fun u x => ?_) ?_ <;> try dsimp only)
    | (refine Evolves.foldl_fst _ _ _ (fun u x => ?_) ?_ <;> try dsimp only)
    | split)

theorem State.record_evolves {ps₀ : List Part} {b₀ : State} (s : State) (r : JournalRec)
    (hp₀ : [.sent, .txn, .repl, .red] ⊆ ps₀) (hb₀ : Evolves ps₀ b₀ s) :
    Evolves ps₀ b₀ (State.record s r) := by
  simp only [List.cons_subset, List.nil_subset, and_true] at hp₀
  unfold State.record
  try dsimp only
  repeat' (first
    | focus (simp (maxDischargeDepth := 60) only [↓State.append_evolves, ↓Evolves.set_txn, ↓Evolves.foldl, ↓Evolves.foldl_fst,
        ↓Evolves.ite, ↓Evolves.ite_fst, ↓Evolves.elim_opt, Evolves.refl, Nat.le_add_right, implies_true, List.cons_subset,
        List.nil_subset, and_true, hp₀, hb₀];done)
    | (refine Evolves.foldl _ _ _ (fun u x => ?_) ?_ <;> try dsimp only)
    | (refine Evolves.foldl_fst _ _ _ (fun u x => ?_) ?_ <;> try dsimp only)
    | split)

theorem State.await_evolves {ps₀ : List Part} {b₀ : State} (s : State) (w : Completion)
    (hp₀ : [.repl] ⊆ ps₀) (hb₀ : Evolves ps₀ b₀ s) :
    Evolves ps₀ b₀ (State.await s w) := by
  simp only [List.cons_subset, List.nil_subset, and_true] at hp₀
  unfold State.await
  try dsimp only
  repeat' (first
    | focus (simp (maxDischargeDepth := 60) only [↓Evolves.set_repl, ↓Evolves.foldl, ↓Evolves.foldl_fst, ↓Evolves.ite,
        ↓Evolves.ite_fst, ↓Evolves.elim_opt, Evolves.refl, Nat.le_add_right, implies_true, List.cons_subset, List.nil_subset,
        and_true, hp₀, hb₀];done)
    | (refine Evolves.foldl _ _ _ (fun u x => ?_) ?_ <;> try dsimp only)
    | (refine Evolves.foldl_fst _ _ _ (fun u x => ?_) ?_ <;> try dsimp only)
    | split)

end Sys2Proof.Machine
end

