-- ==== Sys2Proof/Laws/EvolveAccess.lean ====
section
/-! SUPPORT. What the operations of Machine/Access.lean keep (Evolves). -/

set_option linter.unusedSimpArgs false
set_option linter.unreachableTactic false
set_option linter.unusedTactic false
set_option linter.unusedVariables false

namespace Sys2Proof.Machine

theorem State.applyChange_evolves {ps₀ : List Part} {b₀ : State} (s : State) (c : Change)
    (hp₀ : [.regs] ⊆ ps₀) (hb₀ : Evolves ps₀ b₀ s) :
    Evolves ps₀ b₀ (State.applyChange s c) := by
  simp only [List.cons_subset, List.nil_subset, and_true] at hp₀
  unfold State.applyChange
  try dsimp only
  repeat' (first
    | focus (simp (maxDischargeDepth := 60) only [↓State.setReg_evolves, ↓Evolves.foldl, ↓Evolves.foldl_fst, ↓Evolves.ite,
        ↓Evolves.ite_fst, ↓Evolves.elim_opt, Evolves.refl, Nat.le_add_right, implies_true, List.cons_subset, List.nil_subset,
        and_true, hp₀, hb₀];done)
    | (refine Evolves.foldl _ _ _ (fun u x => ?_) ?_ <;> try dsimp only)
    | (refine Evolves.foldl_fst _ _ _ (fun u x => ?_) ?_ <;> try dsimp only)
    | split)

end Sys2Proof.Machine
end

