-- ==== Sys2Proof/Laws/EvolveFaults.lean ====
section
/-! SUPPORT. What the operations of Machine/Faults.lean keep (Evolves). -/

set_option linter.unusedSimpArgs false
set_option linter.unreachableTactic false
set_option linter.unusedTactic false
set_option linter.unusedVariables false

namespace Sys2Proof.Machine

theorem State.persist_evolves {ps₀ : List Part} {b₀ : State} (s : State) (f : FaultRec)
    (hp₀ : [.nvm] ⊆ ps₀) (hb₀ : Evolves ps₀ b₀ s) :
    Evolves ps₀ b₀ (State.persist s f) := by
  simp only [List.cons_subset, List.nil_subset, and_true] at hp₀
  unfold State.persist
  try dsimp only
  repeat' (first
    | focus (simp (maxDischargeDepth := 60) only [↓Evolves.set_nvm, ↓Evolves.foldl, ↓Evolves.foldl_fst, ↓Evolves.ite,
        ↓Evolves.ite_fst, ↓Evolves.elim_opt, Evolves.refl, Nat.le_add_right, implies_true, List.cons_subset, List.nil_subset,
        and_true, hp₀, hb₀];done)
    | (refine Evolves.foldl _ _ _ (fun u x => ?_) ?_ <;> try dsimp only)
    | (refine Evolves.foldl_fst _ _ _ (fun u x => ?_) ?_ <;> try dsimp only)
    | split)

theorem State.logFault_evolves {ps₀ : List Part} {b₀ : State} (s : State) (f : FaultRec)
    (hp₀ : [.faults] ⊆ ps₀) (hb₀ : Evolves ps₀ b₀ s) :
    Evolves ps₀ b₀ (State.logFault s f) := by
  simp only [List.cons_subset, List.nil_subset, and_true] at hp₀
  unfold State.logFault
  try dsimp only
  repeat' (first
    | focus (simp (maxDischargeDepth := 60) only [↓Evolves.set_faults, ↓Evolves.foldl, ↓Evolves.foldl_fst, ↓Evolves.ite,
        ↓Evolves.ite_fst, ↓Evolves.elim_opt, Evolves.refl, Nat.le_add_right, implies_true, List.cons_subset, List.nil_subset,
        and_true, hp₀, hb₀];done)
    | (refine Evolves.foldl _ _ _ (fun u x => ?_) ?_ <;> try dsimp only)
    | (refine Evolves.foldl_fst _ _ _ (fun u x => ?_) ?_ <;> try dsimp only)
    | split)

theorem State.newFault_evolves {ps₀ : List Part} {b₀ : State} (s : State) (cls code : Nat) (detail : List Byte)
    (hp₀ : [.sent, .link, .repl, .faults, .nvm, .red] ⊆ ps₀) (hb₀ : Evolves ps₀ b₀ s) :
    Evolves ps₀ b₀ (State.newFault s cls code detail) := by
  simp only [List.cons_subset, List.nil_subset, and_true] at hp₀
  unfold State.newFault
  try dsimp only
  repeat' (first
    | focus (simp (maxDischargeDepth := 60) only [↓State.logFault_evolves, ↓State.persist_evolves, ↓State.sendBoth_evolves,
        ↓State.append_evolves, ↓State.await_evolves, ↓Evolves.set_faults, ↓Evolves.foldl, ↓Evolves.foldl_fst, ↓Evolves.ite,
        ↓Evolves.ite_fst, ↓Evolves.elim_opt, Evolves.refl, Nat.le_add_right, implies_true, List.cons_subset, List.nil_subset,
        and_true, hp₀, hb₀];done)
    | (refine Evolves.foldl _ _ _ (fun u x => ?_) ?_ <;> try dsimp only)
    | (refine Evolves.foldl_fst _ _ _ (fun u x => ?_) ?_ <;> try dsimp only)
    | split)

theorem State.foldInto_evolves {ps₀ : List Part} {b₀ : State} (s : State) (cls code : Nat)
    (hp₀ : [.faults] ⊆ ps₀) (hb₀ : Evolves ps₀ b₀ s) :
    Evolves ps₀ b₀ (State.foldInto s cls code) := by
  simp only [List.cons_subset, List.nil_subset, and_true] at hp₀
  unfold State.foldInto
  try dsimp only
  repeat' (first
    | focus (simp (maxDischargeDepth := 60) only [↓Evolves.set_faults, ↓Evolves.foldl, ↓Evolves.foldl_fst, ↓Evolves.ite,
        ↓Evolves.ite_fst, ↓Evolves.elim_opt, Evolves.refl, Nat.le_add_right, implies_true, List.cons_subset, List.nil_subset,
        and_true, hp₀, hb₀];done)
    | (refine Evolves.foldl _ _ _ (fun u x => ?_) ?_ <;> try dsimp only)
    | (refine Evolves.foldl_fst _ _ _ (fun u x => ?_) ?_ <;> try dsimp only)
    | split)

theorem State.fault_evolves {ps₀ : List Part} {b₀ : State} (s : State) (cls code : Nat) (detail : List Byte)
    (hp₀ : [.regs, .sent, .link, .repl, .faults, .nvm, .red] ⊆ ps₀) (hb₀ : Evolves ps₀ b₀ s) :
    Evolves ps₀ b₀ (State.fault s cls code detail) := by
  simp only [List.cons_subset, List.nil_subset, and_true] at hp₀
  unfold State.fault
  try dsimp only
  repeat' (first
    | focus (simp (maxDischargeDepth := 60) only [↓State.foldInto_evolves, ↓State.event_evolves, ↓State.newFault_evolves,
        ↓Evolves.foldl, ↓Evolves.foldl_fst, ↓Evolves.ite, ↓Evolves.ite_fst, ↓Evolves.elim_opt, Evolves.refl, Nat.le_add_right,
        implies_true, List.cons_subset, List.nil_subset, and_true, hp₀, hb₀];done)
    | (refine Evolves.foldl _ _ _ (fun u x => ?_) ?_ <;> try dsimp only)
    | (refine Evolves.foldl_fst _ _ _ (fun u x => ?_) ?_ <;> try dsimp only)
    | split)

theorem State.faultLater_evolves {ps₀ : List Part} {b₀ : State} (s : State) (cls code : Nat) (detail : List Byte)
    (hp₀ : [.boot] ⊆ ps₀) (hb₀ : Evolves ps₀ b₀ s) :
    Evolves ps₀ b₀ (State.faultLater s cls code detail) := by
  simp only [List.cons_subset, List.nil_subset, and_true] at hp₀
  unfold State.faultLater
  try dsimp only
  repeat' (first
    | focus (simp (maxDischargeDepth := 60) only [↓Evolves.set_boot, ↓Evolves.foldl, ↓Evolves.foldl_fst, ↓Evolves.ite,
        ↓Evolves.ite_fst, ↓Evolves.elim_opt, Evolves.refl, Nat.le_add_right, implies_true, List.cons_subset, List.nil_subset,
        and_true, hp₀, hb₀];done)
    | (refine Evolves.foldl _ _ _ (fun u x => ?_) ?_ <;> try dsimp only)
    | (refine Evolves.foldl_fst _ _ _ (fun u x => ?_) ?_ <;> try dsimp only)
    | split)

theorem State.flushFaults_evolves {ps₀ : List Part} {b₀ : State} (s : State)
    (hp₀ : [.regs, .sent, .link, .repl, .faults, .nvm, .boot, .red] ⊆ ps₀) (hb₀ : Evolves ps₀ b₀ s) :
    Evolves ps₀ b₀ (State.flushFaults s) := by
  simp only [List.cons_subset, List.nil_subset, and_true] at hp₀
  unfold State.flushFaults
  try dsimp only
  repeat' (first
    | focus (simp (maxDischargeDepth := 60) only [↓State.fault_evolves, ↓Evolves.set_boot, ↓Evolves.foldl, ↓Evolves.foldl_fst,
        ↓Evolves.ite, ↓Evolves.ite_fst, ↓Evolves.elim_opt, Evolves.refl, Nat.le_add_right, implies_true, List.cons_subset,
        List.nil_subset, and_true, hp₀, hb₀];done)
    | (refine Evolves.foldl _ _ _ (fun u x => ?_) ?_ <;> try dsimp only)
    | (refine Evolves.foldl_fst _ _ _ (fun u x => ?_) ?_ <;> try dsimp only)
    | split)

end Sys2Proof.Machine
end

