-- ==== Sys2Proof/Laws/EvolveVf.lean ====
section
/-! SUPPORT. What the operations of Machine/Vf.lean keep (Evolves). -/

set_option linter.unusedSimpArgs false
set_option linter.unreachableTactic false
set_option linter.unusedTactic false
set_option linter.unusedVariables false

namespace Sys2Proof.Machine

theorem State.redFault_evolves {ps₀ : List Part} {b₀ : State} (s : State) (code : Nat)
    (hp₀ : [.regs, .sent, .link, .repl, .faults, .nvm, .red] ⊆ ps₀) (hb₀ : Evolves ps₀ b₀ s) :
    Evolves ps₀ b₀ (State.redFault s code) := by
  simp only [List.cons_subset, List.nil_subset, and_true] at hp₀
  unfold State.redFault
  try dsimp only
  repeat' (first
    | focus (simp (maxDischargeDepth := 60) only [↓State.fault_evolves, ↓Evolves.foldl, ↓Evolves.foldl_fst, ↓Evolves.ite,
        ↓Evolves.ite_fst, ↓Evolves.elim_opt, Evolves.refl, Nat.le_add_right, implies_true, List.cons_subset, List.nil_subset,
        and_true, hp₀, hb₀];done)
    | (refine Evolves.foldl _ _ _ (fun u x => ?_) ?_ <;> try dsimp only)
    | (refine Evolves.foldl_fst _ _ _ (fun u x => ?_) ?_ <;> try dsimp only)
    | split)

theorem State.standbyFault_evolves {ps₀ : List Part} {b₀ : State} (s : State)
    (hp₀ : [.regs, .sent, .link, .repl, .faults, .nvm, .red] ⊆ ps₀) (hb₀ : Evolves ps₀ b₀ s) :
    Evolves ps₀ b₀ (State.standbyFault s) := by
  simp only [List.cons_subset, List.nil_subset, and_true] at hp₀
  unfold State.standbyFault
  try dsimp only
  repeat' (first
    | focus (simp (maxDischargeDepth := 60) only [↓State.redFault_evolves, ↓State.event_evolves, ↓State.setFlag_evolves,
        ↓Evolves.foldl, ↓Evolves.foldl_fst, ↓Evolves.ite, ↓Evolves.ite_fst, ↓Evolves.elim_opt, Evolves.refl, Nat.le_add_right,
        implies_true, List.cons_subset, List.nil_subset, and_true, hp₀, hb₀];done)
    | (refine Evolves.foldl _ _ _ (fun u x => ?_) ?_ <;> try dsimp only)
    | (refine Evolves.foldl_fst _ _ _ (fun u x => ?_) ?_ <;> try dsimp only)
    | split)

theorem State.abandonSwap_evolves {ps₀ : List Part} {b₀ : State} (s : State) (result : Nat) (tell : Bool)
    (hp₀ : [.regs, .sent, .sched, .link, .repl, .faults, .nvm, .scan, .red] ⊆ ps₀) (hb₀ : Evolves ps₀ b₀ s) :
    Evolves ps₀ b₀ (State.abandonSwap s result tell) := by
  simp only [List.cons_subset, List.nil_subset, and_true] at hp₀
  unfold State.abandonSwap
  try dsimp only
  repeat' (first
    | focus (simp (maxDischargeDepth := 60) only [↓State.setFlag_evolves, ↓State.setFld_evolves, ↓State.redFault_evolves,
        ↓State.bump_evolves, ↓State.event_evolves, ↓State.sendPartner_evolves, ↓Evolves.set_sched, ↓Evolves.set_scan,
        ↓Evolves.set_red, ↓Evolves.set_scan_red, ↓Evolves.set_sched_red, ↓Evolves.set_sched_scan_red, ↓Evolves.foldl,
        ↓Evolves.foldl_fst, ↓Evolves.ite, ↓Evolves.ite_fst, ↓Evolves.elim_opt, Evolves.refl, Nat.le_add_right, implies_true,
        List.cons_subset, List.nil_subset, and_true, hp₀, hb₀];done)
    | (refine Evolves.foldl _ _ _ (fun u x => ?_) ?_ <;> try dsimp only)
    | (refine Evolves.foldl_fst _ _ _ (fun u x => ?_) ?_ <;> try dsimp only)
    | split)

theorem State.gntCompare_evolves {ps₀ : List Part} {b₀ : State} (s : State) (view : Nat) (rcheck : List Word)
    (hp₀ : [.regs, .sent, .link, .repl, .faults, .nvm, .red] ⊆ ps₀) (hb₀ : Evolves ps₀ b₀ s) :
    Evolves ps₀ b₀ (State.gntCompare s view rcheck) := by
  simp only [List.cons_subset, List.nil_subset, and_true] at hp₀
  unfold State.gntCompare
  try dsimp only
  repeat' (first
    | focus (simp (maxDischargeDepth := 60) only [↓State.eventCount_evolves, ↓State.standbyFault_evolves, ↓Evolves.set_red,
        ↓Evolves.foldl, ↓Evolves.foldl_fst, ↓Evolves.ite, ↓Evolves.ite_fst, ↓Evolves.elim_opt, Evolves.refl, Nat.le_add_right,
        implies_true, List.cons_subset, List.nil_subset, and_true, hp₀, hb₀];done)
    | (refine Evolves.foldl _ _ _ (fun u x => ?_) ?_ <;> try dsimp only)
    | (refine Evolves.foldl_fst _ _ _ (fun u x => ?_) ?_ <;> try dsimp only)
    | split)

theorem State.swapReady_evolves {ps₀ : List Part} {b₀ : State} (s : State) (r : SwapRun)
    (hp₀ : [.regs, .sent, .red] ⊆ ps₀) (hb₀ : Evolves ps₀ b₀ s) :
    Evolves ps₀ b₀ (State.swapReady s r) := by
  simp only [List.cons_subset, List.nil_subset, and_true] at hp₀
  unfold State.swapReady
  try dsimp only
  repeat' (first
    | focus (simp (maxDischargeDepth := 60) only [↓State.sendPartner_evolves, ↓State.setFld_evolves, ↓Evolves.set_red,
        ↓Evolves.foldl, ↓Evolves.foldl_fst, ↓Evolves.ite, ↓Evolves.ite_fst, ↓Evolves.elim_opt, Evolves.refl, Nat.le_add_right,
        implies_true, List.cons_subset, List.nil_subset, and_true, hp₀, hb₀];done)
    | (refine Evolves.foldl _ _ _ (fun u x => ?_) ?_ <;> try dsimp only)
    | (refine Evolves.foldl_fst _ _ _ (fun u x => ?_) ?_ <;> try dsimp only)
    | split)

theorem State.judgeVf_evolves {ps₀ : List Part} {b₀ : State} (s : State) (r : SwapRun) (a b : VfBody)
    (hp₀ : [.regs, .sent, .sched, .link, .repl, .faults, .nvm, .scan, .red] ⊆ ps₀) (hb₀ : Evolves ps₀ b₀ s) :
    Evolves ps₀ b₀ (State.judgeVf s r a b) := by
  simp only [List.cons_subset, List.nil_subset, and_true] at hp₀
  unfold State.judgeVf
  try dsimp only
  repeat' (first
    | focus (simp (maxDischargeDepth := 60) only [↓State.bump_evolves, ↓State.swapReady_evolves, ↓State.abandonSwap_evolves,
        ↓State.standbyFault_evolves, ↓State.setFld_evolves, ↓Evolves.set_red, ↓Evolves.foldl, ↓Evolves.foldl_fst, ↓Evolves.ite,
        ↓Evolves.ite_fst, ↓Evolves.elim_opt, Evolves.refl, Nat.le_add_right, implies_true, List.cons_subset, List.nil_subset,
        and_true, hp₀, hb₀];done)
    | (refine Evolves.foldl _ _ _ (fun u x => ?_) ?_ <;> try dsimp only)
    | (refine Evolves.foldl_fst _ _ _ (fun u x => ?_) ?_ <;> try dsimp only)
    | split)

theorem State.pairVf_evolves {ps₀ : List Part} {b₀ : State} (s : State)
    (hp₀ : [.regs, .sent, .sched, .link, .repl, .faults, .nvm, .scan, .red] ⊆ ps₀) (hb₀ : Evolves ps₀ b₀ s) :
    Evolves ps₀ b₀ (State.pairVf s) := by
  simp only [List.cons_subset, List.nil_subset, and_true] at hp₀
  unfold State.pairVf
  try dsimp only
  repeat' (first
    | focus (simp (maxDischargeDepth := 60) only [↓State.judgeVf_evolves, ↓Evolves.foldl, ↓Evolves.foldl_fst, ↓Evolves.ite,
        ↓Evolves.ite_fst, ↓Evolves.elim_opt, Evolves.refl, Nat.le_add_right, implies_true, List.cons_subset, List.nil_subset,
        and_true, hp₀, hb₀];done)
    | (refine Evolves.foldl _ _ _ (fun u x => ?_) ?_ <;> try dsimp only)
    | (refine Evolves.foldl_fst _ _ _ (fun u x => ?_) ?_ <;> try dsimp only)
    | split)

theorem State.vfEnds_evolves {ps₀ : List Part} {b₀ : State} (s : State) (f : ScanFrame)
    (hp₀ : [.regs, .sent, .sched, .link, .repl, .faults, .nvm, .scan, .red] ⊆ ps₀) (hb₀ : Evolves ps₀ b₀ s) :
    Evolves ps₀ b₀ (State.vfEnds s f) := by
  simp only [List.cons_subset, List.nil_subset, and_true] at hp₀
  unfold State.vfEnds
  try dsimp only
  repeat' (first
    | focus (simp (maxDischargeDepth := 60) only [↓State.sendPartner_evolves, ↓State.pairVf_evolves, ↓Evolves.set_red,
        ↓Evolves.foldl, ↓Evolves.foldl_fst, ↓Evolves.ite, ↓Evolves.ite_fst, ↓Evolves.elim_opt, Evolves.refl, Nat.le_add_right,
        implies_true, List.cons_subset, List.nil_subset, and_true, hp₀, hb₀];done)
    | (refine Evolves.foldl _ _ _ (fun u x => ?_) ?_ <;> try dsimp only)
    | (refine Evolves.foldl_fst _ _ _ (fun u x => ?_) ?_ <;> try dsimp only)
    | split)

end Sys2Proof.Machine
end

