-- ==== Sys2Proof/Laws/EvolveDram.lean ====
section
/-! SUPPORT. What the operations of Machine/Dram.lean keep (Evolves). -/

set_option linter.unusedSimpArgs false
set_option linter.unreachableTactic false
set_option linter.unusedTactic false
set_option linter.unusedVariables false

namespace Sys2Proof.Machine

theorem State.setChan_evolves {ps₀ : List Part} {b₀ : State} (s : State) (c : Nat) (x : DramChannel)
    (hp₀ : [.dram] ⊆ ps₀) (hb₀ : Evolves ps₀ b₀ s) :
    Evolves ps₀ b₀ (State.setChan s c x) := by
  simp only [List.cons_subset, List.nil_subset, and_true] at hp₀
  unfold State.setChan
  try dsimp only
  repeat' (first
    | focus (simp (maxDischargeDepth := 60) only [↓Evolves.set_dram, ↓Evolves.foldl, ↓Evolves.foldl_fst, ↓Evolves.ite,
        ↓Evolves.ite_fst, ↓Evolves.elim_opt, Evolves.refl, Nat.le_add_right, implies_true, List.cons_subset, List.nil_subset,
        and_true, hp₀, hb₀];done)
    | (refine Evolves.foldl _ _ _ (fun u x => ?_) ?_ <;> try dsimp only)
    | (refine Evolves.foldl_fst _ _ _ (fun u x => ?_) ?_ <;> try dsimp only)
    | split)

theorem State.correctedError_evolves {ps₀ : List Part} {b₀ : State} (s : State) (burst : Nat)
    (hp₀ : [.regs, .dram] ⊆ ps₀) (hb₀ : Evolves ps₀ b₀ s) :
    Evolves ps₀ b₀ (State.correctedError s burst) := by
  simp only [List.cons_subset, List.nil_subset, and_true] at hp₀
  unfold State.correctedError
  try dsimp only
  repeat' (first
    | focus (simp (maxDischargeDepth := 60) only [↓State.eventCount_evolves, ↓Evolves.set_dram, ↓Evolves.foldl,
        ↓Evolves.foldl_fst, ↓Evolves.ite, ↓Evolves.ite_fst, ↓Evolves.elim_opt, Evolves.refl, Nat.le_add_right, implies_true,
        List.cons_subset, List.nil_subset, and_true, hp₀, hb₀];done)
    | (refine Evolves.foldl _ _ _ (fun u x => ?_) ?_ <;> try dsimp only)
    | (refine Evolves.foldl_fst _ _ _ (fun u x => ?_) ?_ <;> try dsimp only)
    | split)

theorem State.uncorrectable_evolves {ps₀ : List Part} {b₀ : State} (s : State) (requester burst words : Nat)
    (hp₀ : [.regs, .sent, .link, .repl, .faults, .nvm, .red] ⊆ ps₀) (hb₀ : Evolves ps₀ b₀ s) :
    Evolves ps₀ b₀ (State.uncorrectable s requester burst words) := by
  simp only [List.cons_subset, List.nil_subset, and_true] at hp₀
  unfold State.uncorrectable
  try dsimp only
  repeat' (first
    | focus (simp (maxDischargeDepth := 60) only [↓State.eventCount_evolves, ↓State.setFld_evolves, ↓State.setReg_evolves,
        ↓State.fault_evolves, ↓Evolves.foldl, ↓Evolves.foldl_fst, ↓Evolves.ite, ↓Evolves.ite_fst, ↓Evolves.elim_opt, Evolves.refl,
        Nat.le_add_right, implies_true, List.cons_subset, List.nil_subset, and_true, hp₀, hb₀];done)
    | (refine Evolves.foldl _ _ _ (fun u x => ?_) ?_ <;> try dsimp only)
    | (refine Evolves.foldl_fst _ _ _ (fun u x => ?_) ?_ <;> try dsimp only)
    | split)

theorem State.putBurst_evolves {ps₀ : List Part} {b₀ : State} (s : State) (burst : Nat) (bs : List Byte)
    (hp₀ : [.dram] ⊆ ps₀) (hb₀ : Evolves ps₀ b₀ s) :
    Evolves ps₀ b₀ (State.putBurst s burst bs) := by
  simp only [List.cons_subset, List.nil_subset, and_true] at hp₀
  unfold State.putBurst
  exact Evolves.change (s := s) (h := hb₀) _ (fun p hn => by cases p <;> first | rfl | exact absurd hp₀ hn) rfl rfl rfl rfl
    (fun hc => ⟨hc.1, hc.2.1, hc.2.2.1, hc.2.2.2.1, Sparse.wf_put _ _ _ _ hc.2.2.2.2.1, hc.2.2.2.2.2⟩)

theorem State.readBurst_evolves {ps₀ : List Part} {b₀ : State} (s : State) (requester burst : Nat)
    (hp₀ : [.regs, .fresh, .sent, .link, .repl, .faults, .nvm, .dram, .red] ⊆ ps₀) (hb₀ : Evolves ps₀ b₀ s) :
    Evolves ps₀ b₀ (State.readBurst s requester burst).1 := by
  simp only [List.cons_subset, List.nil_subset, and_true] at hp₀
  unfold State.readBurst
  try dsimp only
  repeat' (first
    | focus (simp (maxDischargeDepth := 60) only [↓State.uncorrectable_evolves, ↓State.correctedError_evolves, ↓Evolves.set_fresh,
        ↓Evolves.foldl, ↓Evolves.foldl_fst, ↓Evolves.ite, ↓Evolves.ite_fst, ↓Evolves.elim_opt, Evolves.refl, Nat.le_add_right,
        implies_true, List.cons_subset, List.nil_subset, and_true, hp₀, hb₀];done)
    | (refine Evolves.foldl _ _ _ (fun u x => ?_) ?_ <;> try dsimp only)
    | (refine Evolves.foldl_fst _ _ _ (fun u x => ?_) ?_ <;> try dsimp only)
    | split)

theorem State.writeIn_evolves {ps₀ : List Part} {b₀ : State} (s : State) (burst off : Nat) (bs : List Byte)
    (hp₀ : [.regs, .fresh, .sent, .link, .repl, .faults, .nvm, .dram, .red] ⊆ ps₀) (hb₀ : Evolves ps₀ b₀ s) :
    Evolves ps₀ b₀ (State.writeIn s burst off bs).1 := by
  have hr := State.readBurst_evolves s 3 burst hp₀ hb₀
  simp only [List.cons_subset, List.nil_subset, and_true] at hp₀
  unfold State.writeIn
  split
  · exact State.putBurst_evolves _ _ _ (by simp [hp₀]) hb₀
  · split
    · next heq => rw [heq] at hr; exact State.putBurst_evolves _ _ _ (by simp [hp₀]) hr
    · next heq => rw [heq] at hr; exact hr

theorem State.readMem_evolves {ps₀ : List Part} {b₀ : State} (s : State) (requester addr n : Nat)
    (hp₀ : [.regs, .fresh, .sent, .link, .repl, .faults, .nvm, .dram, .red] ⊆ ps₀) (hb₀ : Evolves ps₀ b₀ s) :
    Evolves ps₀ b₀ (State.readMem s requester addr n).1 := by
  unfold State.readMem
  refine Evolves.foldl_fst _ _ _ (fun u x => ?_) hb₀
  have hr := State.readBurst_evolves u.1 requester x.1 hp₀ (Evolves.refl ps₀ u.1)
  split
  · exact Evolves.refl _ _
  · split
    · next heq => rw [heq] at hr; exact hr
    · next heq => rw [heq] at hr; exact hr

theorem State.writeMem_evolves {ps₀ : List Part} {b₀ : State} (s : State) (addr : Nat) (bs : List Byte)
    (hp₀ : [.regs, .fresh, .sent, .link, .repl, .faults, .nvm, .dram, .red] ⊆ ps₀) (hb₀ : Evolves ps₀ b₀ s) :
    Evolves ps₀ b₀ (State.writeMem s addr bs).1 := by
  unfold State.writeMem
  refine Evolves.foldl_fst _ _ _ (fun u x => ?_) hb₀
  dsimp only
  split
  · exact State.writeIn_evolves _ _ _ _ hp₀ (Evolves.refl _ _)
  · exact Evolves.refl _ _

theorem State.pourMem_evolves {ps₀ : List Part} {b₀ : State} (s : State) (addr : Nat) (bs : List Byte)
    (hp₀ : [.fresh, .dram] ⊆ ps₀) (hb₀ : Evolves ps₀ b₀ s) :
    Evolves ps₀ b₀ (State.pourMem s addr bs) := by
  simp only [List.cons_subset, List.nil_subset, and_true] at hp₀
  unfold State.pourMem
  try dsimp only
  repeat' (first
    | focus (simp (maxDischargeDepth := 60) only [↓State.putBurst_evolves, ↓Evolves.set_fresh, ↓Evolves.foldl, ↓Evolves.foldl_fst,
        ↓Evolves.ite, ↓Evolves.ite_fst, ↓Evolves.elim_opt, Evolves.refl, Nat.le_add_right, implies_true, List.cons_subset,
        List.nil_subset, and_true, hp₀, hb₀];done)
    | (refine Evolves.foldl _ _ _ (fun u x => ?_) ?_ <;> try dsimp only)
    | (refine Evolves.foldl_fst _ _ _ (fun u x => ?_) ?_ <;> try dsimp only)
    | split)

theorem State.queueNeighbour_evolves {ps₀ : List Part} {b₀ : State} (s : State) (p : DramPlace)
    (hp₀ : [.regs, .dram] ⊆ ps₀) (hb₀ : Evolves ps₀ b₀ s) :
    Evolves ps₀ b₀ (State.queueNeighbour s p) := by
  simp only [List.cons_subset, List.nil_subset, and_true] at hp₀
  unfold State.queueNeighbour
  try dsimp only
  repeat' (first
    | focus (simp (maxDischargeDepth := 60) only [↓State.wrapInc_evolves, ↓State.bump_evolves, ↓State.event_evolves,
        ↓Evolves.set_dram, ↓Evolves.foldl, ↓Evolves.foldl_fst, ↓Evolves.ite, ↓Evolves.ite_fst, ↓Evolves.elim_opt, Evolves.refl,
        Nat.le_add_right, implies_true, List.cons_subset, List.nil_subset, and_true, hp₀, hb₀];done)
    | (refine Evolves.foldl _ _ _ (fun u x => ?_) ?_ <;> try dsimp only)
    | (refine Evolves.foldl_fst _ _ _ (fun u x => ?_) ?_ <;> try dsimp only)
    | split)

theorem State.activate_evolves {ps₀ : List Part} {b₀ : State} (s : State) (p : DramPlace)
    (hp₀ : [.regs, .fresh, .dram] ⊆ ps₀) (hb₀ : Evolves ps₀ b₀ s) :
    Evolves ps₀ b₀ (State.activate s p) := by
  simp only [List.cons_subset, List.nil_subset, and_true] at hp₀
  unfold State.activate
  try dsimp only
  repeat' (first
    | focus (simp (maxDischargeDepth := 60) only [↓State.queueNeighbour_evolves, ↓State.drawn_evolves, ↓Evolves.set_dram,
        ↓Evolves.foldl, ↓Evolves.foldl_fst, ↓Evolves.ite, ↓Evolves.ite_fst, ↓Evolves.elim_opt, Evolves.refl, Nat.le_add_right,
        implies_true, List.cons_subset, List.nil_subset, and_true, hp₀, hb₀];done)
    | (refine Evolves.foldl _ _ _ (fun u x => ?_) ?_ <;> try dsimp only)
    | (refine Evolves.foldl_fst _ _ _ (fun u x => ?_) ?_ <;> try dsimp only)
    | split)

theorem State.wakeChannel_evolves {ps₀ : List Part} {b₀ : State} (s : State) (c : Nat)
    (hp₀ : [.regs, .dram] ⊆ ps₀) (hb₀ : Evolves ps₀ b₀ s) :
    Evolves ps₀ b₀ (State.wakeChannel s c) := by
  simp only [List.cons_subset, List.nil_subset, and_true] at hp₀
  unfold State.wakeChannel
  try dsimp only
  repeat' (first
    | focus (simp (maxDischargeDepth := 60) only [↓State.setChan_evolves, ↓State.setBit_evolves, ↓State.setFld_evolves,
        ↓Evolves.foldl, ↓Evolves.foldl_fst, ↓Evolves.ite, ↓Evolves.ite_fst, ↓Evolves.elim_opt, Evolves.refl, Nat.le_add_right,
        implies_true, List.cons_subset, List.nil_subset, and_true, hp₀, hb₀];done)
    | (refine Evolves.foldl _ _ _ (fun u x => ?_) ?_ <;> try dsimp only)
    | (refine Evolves.foldl_fst _ _ _ (fun u x => ?_) ?_ <;> try dsimp only)
    | split)

theorem State.serve_evolves {ps₀ : List Part} {b₀ : State} (s : State) (q : Queued)
    (hp₀ : [.regs, .fresh, .sent, .link, .repl, .faults, .nvm, .dram, .red] ⊆ ps₀) (hb₀ : Evolves ps₀ b₀ s) :
    Evolves ps₀ b₀ (State.serve s q) := by
  simp only [List.cons_subset, List.nil_subset, and_true] at hp₀
  unfold State.serve
  try dsimp only
  repeat' (first
    | focus (simp (maxDischargeDepth := 60) only [↓State.activate_evolves, ↓State.wakeChannel_evolves, ↓State.writeIn_evolves,
        ↓State.send_evolves, ↓State.correctedError_evolves, ↓State.readBurst_evolves, ↓Evolves.set_dram, ↓Evolves.foldl,
        ↓Evolves.foldl_fst, ↓Evolves.ite, ↓Evolves.ite_fst, ↓Evolves.elim_opt, Evolves.refl, Nat.le_add_right, implies_true,
        List.cons_subset, List.nil_subset, and_true, hp₀, hb₀];done)
    | (refine Evolves.foldl _ _ _ (fun u x => ?_) ?_ <;> try dsimp only)
    | (refine Evolves.foldl_fst _ _ _ (fun u x => ?_) ?_ <;> try dsimp only)
    | split)

theorem State.serveAll_evolves {ps₀ : List Part} {b₀ : State} (n : Nat) (q : List Queued) (s : State)
    (hp₀ : [.regs, .fresh, .sent, .link, .repl, .faults, .nvm, .dram, .red] ⊆ ps₀) (hb₀ : Evolves ps₀ b₀ s) :
    Evolves ps₀ b₀ (State.serveAll n q s) := by
  simp only [List.cons_subset, List.nil_subset, and_true] at hp₀
  induction n generalizing q s with
  | zero => exact hb₀
  | succ n ih =>
    unfold State.serveAll
    repeat' (first | focus (simp (maxDischargeDepth := 60) only [↓ih, ↓State.serve_evolves, Evolves.refl, implies_true,
        List.cons_subset, List.nil_subset, and_true, hp₀, hb₀];done) | split)

theorem State.dramRequests_evolves {ps₀ : List Part} {b₀ : State} (s : State) (rs : List DramReq)
    (hp₀ : [.regs, .fresh, .sent, .link, .repl, .faults, .nvm, .dram, .red] ⊆ ps₀) (hb₀ : Evolves ps₀ b₀ s) :
    Evolves ps₀ b₀ (State.dramRequests s rs) := by
  simp only [List.cons_subset, List.nil_subset, and_true] at hp₀
  unfold State.dramRequests
  dsimp only
  simp (maxDischargeDepth := 60) only [↓State.serveAll_evolves, ↓State.send_evolves, ↓Evolves.foldl, Evolves.refl, implies_true,
      List.cons_subset, List.nil_subset, and_true, hp₀, hb₀]

theorem execDramRequest_evolves (rs : List DramReq) (s : State) :
    ∃ t₁, execDramRequest rs s = .next t₁ ∧ Evolves [.regs, .fresh, .sent, .link, .repl, .faults, .nvm, .dram, .red] s t₁ := by
  have hb₀ := Evolves.refl [.regs, .fresh, .sent, .link, .repl, .faults, .nvm, .dram, .red] s
  unfold execDramRequest
  refine ⟨_, rfl, ?_⟩
  try dsimp only
  repeat' (first
    | focus (simp (maxDischargeDepth := 60) only [↓State.dramRequests_evolves, ↓Evolves.foldl, ↓Evolves.foldl_fst, ↓Evolves.ite,
        ↓Evolves.ite_fst, ↓Evolves.elim_opt, Evolves.refl, Nat.le_add_right, implies_true, List.cons_subset, List.nil_subset,
        and_true, List.mem_cons, reduceCtorEq, true_or, or_true, false_or, or_false, hb₀];done)
    | (refine Evolves.foldl _ _ _ (fun u x => ?_) ?_ <;> try dsimp only)
    | (refine Evolves.foldl_fst _ _ _ (fun u x => ?_) ?_ <;> try dsimp only)
    | split)

theorem State.writeBack_evolves {ps₀ : List Part} {b₀ : State} (s : State) (channel : Nat)
    (hp₀ : [.dram] ⊆ ps₀) (hb₀ : Evolves ps₀ b₀ s) :
    Evolves ps₀ b₀ (State.writeBack s channel) := by
  simp only [List.cons_subset, List.nil_subset, and_true] at hp₀
  unfold State.writeBack
  try dsimp only
  repeat' (first
    | focus (simp (maxDischargeDepth := 60) only [↓Evolves.set_dram, ↓Evolves.foldl, ↓Evolves.foldl_fst, ↓Evolves.ite,
        ↓Evolves.ite_fst, ↓Evolves.elim_opt, Evolves.refl, Nat.le_add_right, implies_true, List.cons_subset, List.nil_subset,
        and_true, hp₀, hb₀];done)
    | (refine Evolves.foldl _ _ _ (fun u x => ?_) ?_ <;> try dsimp only)
    | (refine Evolves.foldl_fst _ _ _ (fun u x => ?_) ?_ <;> try dsimp only)
    | split)

theorem execEccWriteBack_evolves (channel : Nat) (s : State) :
    ∃ t₁, execEccWriteBack channel s = .next t₁ ∧ Evolves [.dram] s t₁ := by
  have hb₀ := Evolves.refl [.dram] s
  unfold execEccWriteBack
  refine ⟨_, rfl, ?_⟩
  try dsimp only
  repeat' (first
    | focus (simp (maxDischargeDepth := 60) only [↓State.writeBack_evolves, ↓Evolves.foldl, ↓Evolves.foldl_fst, ↓Evolves.ite,
        ↓Evolves.ite_fst, ↓Evolves.elim_opt, Evolves.refl, Nat.le_add_right, implies_true, List.cons_subset, List.nil_subset,
        and_true, List.mem_cons, reduceCtorEq, true_or, or_true, false_or, or_false, hb₀];done)
    | (refine Evolves.foldl _ _ _ (fun u x => ?_) ?_ <;> try dsimp only)
    | (refine Evolves.foldl_fst _ _ _ (fun u x => ?_) ?_ <;> try dsimp only)
    | split)

theorem State.refreshDue_evolves {ps₀ : List Part} {b₀ : State} (s : State) (c : Nat) (blanking : Bool)
    (hp₀ : [.regs, .dram] ⊆ ps₀) (hb₀ : Evolves ps₀ b₀ s) :
    Evolves ps₀ b₀ (State.refreshDue s c blanking) := by
  simp only [List.cons_subset, List.nil_subset, and_true] at hp₀
  unfold State.refreshDue
  try dsimp only
  repeat' (first
    | focus (simp (maxDischargeDepth := 60) only [↓State.setChan_evolves, ↓State.setFld_evolves, ↓State.bump_evolves,
        ↓State.event_evolves, ↓Evolves.foldl, ↓Evolves.foldl_fst, ↓Evolves.ite, ↓Evolves.ite_fst, ↓Evolves.elim_opt, Evolves.refl,
        Nat.le_add_right, implies_true, List.cons_subset, List.nil_subset, and_true, hp₀, hb₀];done)
    | (refine Evolves.foldl _ _ _ (fun u x => ?_) ?_ <;> try dsimp only)
    | (refine Evolves.foldl_fst _ _ _ (fun u x => ?_) ?_ <;> try dsimp only)
    | split)

theorem execRefreshDue_evolves (channel : Nat) (blanking : Bool) (s : State) :
    ∃ t₁, execRefreshDue channel blanking s = .next t₁ ∧ Evolves [.regs, .dram] s t₁ := by
  have hb₀ := Evolves.refl [.regs, .dram] s
  unfold execRefreshDue
  refine ⟨_, rfl, ?_⟩
  try dsimp only
  repeat' (first
    | focus (simp (maxDischargeDepth := 60) only [↓State.refreshDue_evolves, ↓Evolves.foldl, ↓Evolves.foldl_fst, ↓Evolves.ite,
        ↓Evolves.ite_fst, ↓Evolves.elim_opt, Evolves.refl, Nat.le_add_right, implies_true, List.cons_subset, List.nil_subset,
        and_true, List.mem_cons, reduceCtorEq, true_or, or_true, false_or, or_false, hb₀];done)
    | (refine Evolves.foldl _ _ _ (fun u x => ?_) ?_ <;> try dsimp only)
    | (refine Evolves.foldl_fst _ _ _ (fun u x => ?_) ?_ <;> try dsimp only)
    | split)

theorem State.issueNeighbour_evolves {ps₀ : List Part} {b₀ : State} (s : State) (c : Nat)
    (hp₀ : [.regs, .dram] ⊆ ps₀) (hb₀ : Evolves ps₀ b₀ s) :
    Evolves ps₀ b₀ (State.issueNeighbour s c) := by
  simp only [List.cons_subset, List.nil_subset, and_true] at hp₀
  unfold State.issueNeighbour
  try dsimp only
  repeat' (first
    | focus (simp (maxDischargeDepth := 60) only [↓State.wrapInc_evolves, ↓Evolves.set_dram, ↓Evolves.foldl, ↓Evolves.foldl_fst,
        ↓Evolves.ite, ↓Evolves.ite_fst, ↓Evolves.elim_opt, Evolves.refl, Nat.le_add_right, implies_true, List.cons_subset,
        List.nil_subset, and_true, hp₀, hb₀];done)
    | (refine Evolves.foldl _ _ _ (fun u x => ?_) ?_ <;> try dsimp only)
    | (refine Evolves.foldl_fst _ _ _ (fun u x => ?_) ?_ <;> try dsimp only)
    | split)

theorem execNeighbourRefresh_evolves (channel : Nat) (s : State) :
    ∃ t₁, execNeighbourRefresh channel s = .next t₁ ∧ Evolves [.regs, .dram] s t₁ := by
  have hb₀ := Evolves.refl [.regs, .dram] s
  unfold execNeighbourRefresh
  refine ⟨_, rfl, ?_⟩
  try dsimp only
  repeat' (first
    | focus (simp (maxDischargeDepth := 60) only [↓State.issueNeighbour_evolves, ↓Evolves.foldl, ↓Evolves.foldl_fst, ↓Evolves.ite,
        ↓Evolves.ite_fst, ↓Evolves.elim_opt, Evolves.refl, Nat.le_add_right, implies_true, List.cons_subset, List.nil_subset,
        and_true, List.mem_cons, reduceCtorEq, true_or, or_true, false_or, or_false, hb₀];done)
    | (refine Evolves.foldl _ _ _ (fun u x => ?_) ?_ <;> try dsimp only)
    | (refine Evolves.foldl_fst _ _ _ (fun u x => ?_) ?_ <;> try dsimp only)
    | split)

theorem State.readMr4_evolves {ps₀ : List Part} {b₀ : State} (s : State) (c rate : Nat)
    (hp₀ : [.dram] ⊆ ps₀) (hb₀ : Evolves ps₀ b₀ s) :
    Evolves ps₀ b₀ (State.readMr4 s c rate) := by
  simp only [List.cons_subset, List.nil_subset, and_true] at hp₀
  unfold State.readMr4
  try dsimp only
  repeat' (first
    | focus (simp (maxDischargeDepth := 60) only [↓Evolves.set_dram, ↓Evolves.foldl, ↓Evolves.foldl_fst, ↓Evolves.ite,
        ↓Evolves.ite_fst, ↓Evolves.elim_opt, Evolves.refl, Nat.le_add_right, implies_true, List.cons_subset, List.nil_subset,
        and_true, hp₀, hb₀];done)
    | (refine Evolves.foldl _ _ _ (fun u x => ?_) ?_ <;> try dsimp only)
    | (refine Evolves.foldl_fst _ _ _ (fun u x => ?_) ?_ <;> try dsimp only)
    | split)

theorem execMr4Read_evolves (channel rate : Nat) (s : State) :
    ∃ t₁, execMr4Read channel rate s = .next t₁ ∧ Evolves [.dram] s t₁ := by
  have hb₀ := Evolves.refl [.dram] s
  unfold execMr4Read
  refine ⟨_, rfl, ?_⟩
  try dsimp only
  repeat' (first
    | focus (simp (maxDischargeDepth := 60) only [↓State.readMr4_evolves, ↓Evolves.foldl, ↓Evolves.foldl_fst, ↓Evolves.ite,
        ↓Evolves.ite_fst, ↓Evolves.elim_opt, Evolves.refl, Nat.le_add_right, implies_true, List.cons_subset, List.nil_subset,
        and_true, List.mem_cons, reduceCtorEq, true_or, or_true, false_or, or_false, hb₀];done)
    | (refine Evolves.foldl _ _ _ (fun u x => ?_) ?_ <;> try dsimp only)
    | (refine Evolves.foldl_fst _ _ _ (fun u x => ?_) ?_ <;> try dsimp only)
    | split)

theorem State.enterSelfRefresh_evolves {ps₀ : List Part} {b₀ : State} (s : State) (c : Nat)
    (hp₀ : [.regs, .cycles, .wall] ⊆ ps₀) (hb₀ : Evolves ps₀ b₀ s) :
    Evolves ps₀ b₀ (State.enterSelfRefresh s c) := by
  simp only [List.cons_subset, List.nil_subset, and_true] at hp₀
  unfold State.enterSelfRefresh
  try dsimp only
  repeat' (first
    | focus (simp (maxDischargeDepth := 60) only [↓State.untilCycle_evolves, ↓State.setBit_evolves, ↓State.setFld_evolves,
        ↓Evolves.foldl, ↓Evolves.foldl_fst, ↓Evolves.ite, ↓Evolves.ite_fst, ↓Evolves.elim_opt, Evolves.refl, Nat.le_add_right,
        implies_true, List.cons_subset, List.nil_subset, and_true, hp₀, hb₀];done)
    | (refine Evolves.foldl _ _ _ (fun u x => ?_) ?_ <;> try dsimp only)
    | (refine Evolves.foldl_fst _ _ _ (fun u x => ?_) ?_ <;> try dsimp only)
    | split)

theorem execSelfRefreshEntry_evolves (channel : Nat) (s : State) :
    ∃ t₁, execSelfRefreshEntry channel s = .next t₁ ∧ Evolves [.regs, .cycles, .wall] s t₁ := by
  have hb₀ := Evolves.refl [.regs, .cycles, .wall] s
  unfold execSelfRefreshEntry
  refine ⟨_, rfl, ?_⟩
  try dsimp only
  repeat' (first
    | focus (simp (maxDischargeDepth := 60) only [↓State.enterSelfRefresh_evolves, ↓Evolves.foldl, ↓Evolves.foldl_fst,
        ↓Evolves.ite, ↓Evolves.ite_fst, ↓Evolves.elim_opt, Evolves.refl, Nat.le_add_right, implies_true, List.cons_subset,
        List.nil_subset, and_true, List.mem_cons, reduceCtorEq, true_or, or_true, false_or, or_false, hb₀];done)
    | (refine Evolves.foldl _ _ _ (fun u x => ?_) ?_ <;> try dsimp only)
    | (refine Evolves.foldl_fst _ _ _ (fun u x => ?_) ?_ <;> try dsimp only)
    | split)

theorem State.driftMeasured_evolves {ps₀ : List Part} {b₀ : State} (s : State) (c : Nat) (drift : Int) (step : Nat)
    (hp₀ : [.regs, .dram] ⊆ ps₀) (hb₀ : Evolves ps₀ b₀ s) :
    Evolves ps₀ b₀ (State.driftMeasured s c drift step) := by
  simp only [List.cons_subset, List.nil_subset, and_true] at hp₀
  unfold State.driftMeasured
  try dsimp only
  repeat' (first
    | focus (simp (maxDischargeDepth := 60) only [↓State.setChan_evolves, ↓State.bump_evolves, ↓State.event_evolves,
        ↓Evolves.foldl, ↓Evolves.foldl_fst, ↓Evolves.ite, ↓Evolves.ite_fst, ↓Evolves.elim_opt, Evolves.refl, Nat.le_add_right,
        implies_true, List.cons_subset, List.nil_subset, and_true, hp₀, hb₀];done)
    | (refine Evolves.foldl _ _ _ (fun u x => ?_) ?_ <;> try dsimp only)
    | (refine Evolves.foldl_fst _ _ _ (fun u x => ?_) ?_ <;> try dsimp only)
    | split)

theorem execDriftMeasure_evolves (channel : Nat) (drift : Int) (step : Nat) (s : State) :
    ∃ t₁, execDriftMeasure channel drift step s = .next t₁ ∧ Evolves [.regs, .dram] s t₁ := by
  have hb₀ := Evolves.refl [.regs, .dram] s
  unfold execDriftMeasure
  refine ⟨_, rfl, ?_⟩
  try dsimp only
  repeat' (first
    | focus (simp (maxDischargeDepth := 60) only [↓State.driftMeasured_evolves, ↓Evolves.foldl, ↓Evolves.foldl_fst, ↓Evolves.ite,
        ↓Evolves.ite_fst, ↓Evolves.elim_opt, Evolves.refl, Nat.le_add_right, implies_true, List.cons_subset, List.nil_subset,
        and_true, List.mem_cons, reduceCtorEq, true_or, or_true, false_or, or_false, hb₀];done)
    | (refine Evolves.foldl _ _ _ (fun u x => ?_) ?_ <;> try dsimp only)
    | (refine Evolves.foldl_fst _ _ _ (fun u x => ?_) ?_ <;> try dsimp only)
    | split)

theorem State.retrainTriggers_evolves {ps₀ : List Part} {b₀ : State} (s : State)
    (hp₀ : [.dram] ⊆ ps₀) (hb₀ : Evolves ps₀ b₀ s) :
    Evolves ps₀ b₀ (State.retrainTriggers s) := by
  simp only [List.cons_subset, List.nil_subset, and_true] at hp₀
  unfold State.retrainTriggers
  try dsimp only
  repeat' (first
    | focus (simp (maxDischargeDepth := 60) only [↓State.setChan_evolves, ↓Evolves.foldl, ↓Evolves.foldl_fst, ↓Evolves.ite,
        ↓Evolves.ite_fst, ↓Evolves.elim_opt, Evolves.refl, Nat.le_add_right, implies_true, List.cons_subset, List.nil_subset,
        and_true, hp₀, hb₀];done)
    | (refine Evolves.foldl _ _ _ (fun u x => ?_) ?_ <;> try dsimp only)
    | (refine Evolves.foldl_fst _ _ _ (fun u x => ?_) ?_ <;> try dsimp only)
    | split)

theorem State.startRetrain_evolves {ps₀ : List Part} {b₀ : State} (s : State) (c : Nat)
    (hp₀ : [.regs] ⊆ ps₀) (hb₀ : Evolves ps₀ b₀ s) :
    Evolves ps₀ b₀ (State.startRetrain s c) := by
  simp only [List.cons_subset, List.nil_subset, and_true] at hp₀
  unfold State.startRetrain
  try dsimp only
  repeat' (first
    | focus (simp (maxDischargeDepth := 60) only [↓State.setFld_evolves, ↓Evolves.foldl, ↓Evolves.foldl_fst, ↓Evolves.ite,
        ↓Evolves.ite_fst, ↓Evolves.elim_opt, Evolves.refl, Nat.le_add_right, implies_true, List.cons_subset, List.nil_subset,
        and_true, hp₀, hb₀];done)
    | (refine Evolves.foldl _ _ _ (fun u x => ?_) ?_ <;> try dsimp only)
    | (refine Evolves.foldl_fst _ _ _ (fun u x => ?_) ?_ <;> try dsimp only)
    | split)

theorem State.reportEye_evolves {ps₀ : List Part} {b₀ : State} (s : State) (c eyeW eyeH skew : Nat)
    (hp₀ : [.regs] ⊆ ps₀) (hb₀ : Evolves ps₀ b₀ s) :
    Evolves ps₀ b₀ (State.reportEye s c eyeW eyeH skew) := by
  simp only [List.cons_subset, List.nil_subset, and_true] at hp₀
  unfold State.reportEye
  try dsimp only
  repeat' (first
    | focus (simp (maxDischargeDepth := 60) only [↓State.setFld_evolves, ↓Evolves.foldl, ↓Evolves.foldl_fst, ↓Evolves.ite,
        ↓Evolves.ite_fst, ↓Evolves.elim_opt, Evolves.refl, Nat.le_add_right, implies_true, List.cons_subset, List.nil_subset,
        and_true, hp₀, hb₀];done)
    | (refine Evolves.foldl _ _ _ (fun u x => ?_) ?_ <;> try dsimp only)
    | (refine Evolves.foldl_fst _ _ _ (fun u x => ?_) ?_ <;> try dsimp only)
    | split)

theorem State.endRetrain_evolves {ps₀ : List Part} {b₀ : State} (s : State) (c : Nat) (delays : List Int) (eyeW eyeH skew : Nat)
    (hp₀ : [.regs, .dram] ⊆ ps₀) (hb₀ : Evolves ps₀ b₀ s) :
    Evolves ps₀ b₀ (State.endRetrain s c delays eyeW eyeH skew) := by
  simp only [List.cons_subset, List.nil_subset, and_true] at hp₀
  unfold State.endRetrain
  try dsimp only
  repeat' (first
    | focus (simp (maxDischargeDepth := 60) only [↓State.reportEye_evolves, ↓State.bump_evolves, ↓State.setFld_evolves,
        ↓State.setChan_evolves, ↓State.event_evolves, ↓Evolves.foldl, ↓Evolves.foldl_fst, ↓Evolves.ite, ↓Evolves.ite_fst,
        ↓Evolves.elim_opt, Evolves.refl, Nat.le_add_right, implies_true, List.cons_subset, List.nil_subset, and_true, hp₀,
        hb₀];done)
    | (refine Evolves.foldl _ _ _ (fun u x => ?_) ?_ <;> try dsimp only)
    | (refine Evolves.foldl_fst _ _ _ (fun u x => ?_) ?_ <;> try dsimp only)
    | split)

theorem execRetrainDone_evolves (channel : Nat) (delays : List Int) (eyeW eyeH skew : Nat) (s : State) :
    ∃ t₁, execRetrainDone channel delays eyeW eyeH skew s = .next t₁ ∧ Evolves [.regs, .dram] s t₁ := by
  have hb₀ := Evolves.refl [.regs, .dram] s
  unfold execRetrainDone
  refine ⟨_, rfl, ?_⟩
  try dsimp only
  repeat' (first
    | focus (simp (maxDischargeDepth := 60) only [↓State.endRetrain_evolves, ↓Evolves.foldl, ↓Evolves.foldl_fst, ↓Evolves.ite,
        ↓Evolves.ite_fst, ↓Evolves.elim_opt, Evolves.refl, Nat.le_add_right, implies_true, List.cons_subset, List.nil_subset,
        and_true, List.mem_cons, reduceCtorEq, true_or, or_true, false_or, or_false, hb₀];done)
    | (refine Evolves.foldl _ _ _ (fun u x => ?_) ?_ <;> try dsimp only)
    | (refine Evolves.foldl_fst _ _ _ (fun u x => ?_) ?_ <;> try dsimp only)
    | split)

theorem State.retrainLate_evolves {ps₀ : List Part} {b₀ : State} (s : State) (c : Nat)
    (hp₀ : [.regs, .cycles, .wall, .sent, .link, .repl, .faults, .nvm, .dram, .red] ⊆ ps₀) (hb₀ : Evolves ps₀ b₀ s) :
    Evolves ps₀ b₀ (State.retrainLate s c) := by
  simp only [List.cons_subset, List.nil_subset, and_true] at hp₀
  unfold State.retrainLate
  try dsimp only
  repeat' (first
    | focus (simp (maxDischargeDepth := 60) only [↓State.untilCycle_evolves, ↓State.fault_evolves, ↓State.event_evolves,
        ↓State.setChan_evolves, ↓Evolves.foldl, ↓Evolves.foldl_fst, ↓Evolves.ite, ↓Evolves.ite_fst, ↓Evolves.elim_opt,
        Evolves.refl, Nat.le_add_right, implies_true, List.cons_subset, List.nil_subset, and_true, hp₀, hb₀];done)
    | (refine Evolves.foldl _ _ _ (fun u x => ?_) ?_ <;> try dsimp only)
    | (refine Evolves.foldl_fst _ _ _ (fun u x => ?_) ?_ <;> try dsimp only)
    | split)

theorem execRetrainLate_evolves (channel : Nat) (s : State) :
    ∃ t₁, execRetrainLate channel s = .next t₁ ∧ Evolves [.regs, .cycles, .wall, .sent, .link, .repl, .faults, .nvm, .dram, .red] s t₁ := by
  have hb₀ := Evolves.refl [.regs, .cycles, .wall, .sent, .link, .repl, .faults, .nvm, .dram, .red] s
  unfold execRetrainLate
  refine ⟨_, rfl, ?_⟩
  try dsimp only
  repeat' (first
    | focus (simp (maxDischargeDepth := 60) only [↓State.retrainLate_evolves, ↓Evolves.foldl, ↓Evolves.foldl_fst, ↓Evolves.ite,
        ↓Evolves.ite_fst, ↓Evolves.elim_opt, Evolves.refl, Nat.le_add_right, implies_true, List.cons_subset, List.nil_subset,
        and_true, List.mem_cons, reduceCtorEq, true_or, or_true, false_or, or_false, hb₀];done)
    | (refine Evolves.foldl _ _ _ (fun u x => ?_) ?_ <;> try dsimp only)
    | (refine Evolves.foldl_fst _ _ _ (fun u x => ?_) ?_ <;> try dsimp only)
    | split)

theorem State.clearUeLog_evolves {ps₀ : List Part} {b₀ : State} (s : State)
    (hp₀ : [.regs] ⊆ ps₀) (hb₀ : Evolves ps₀ b₀ s) :
    Evolves ps₀ b₀ (State.clearUeLog s) := by
  simp only [List.cons_subset, List.nil_subset, and_true] at hp₀
  unfold State.clearUeLog
  try dsimp only
  repeat' (first
    | focus (simp (maxDischargeDepth := 60) only [↓State.setFld_evolves, ↓State.clearRegs_evolves, ↓Evolves.foldl,
        ↓Evolves.foldl_fst, ↓Evolves.ite, ↓Evolves.ite_fst, ↓Evolves.elim_opt, Evolves.refl, Nat.le_add_right, implies_true,
        List.cons_subset, List.nil_subset, and_true, hp₀, hb₀];done)
    | (refine Evolves.foldl _ _ _ (fun u x => ?_) ?_ <;> try dsimp only)
    | (refine Evolves.foldl_fst _ _ _ (fun u x => ?_) ?_ <;> try dsimp only)
    | split)

theorem execUeLogClear_evolves (s : State) :
    ∃ t₁, execUeLogClear s = .next t₁ ∧ Evolves [.regs] s t₁ := by
  have hb₀ := Evolves.refl [.regs] s
  unfold execUeLogClear
  refine ⟨_, rfl, ?_⟩
  try dsimp only
  repeat' (first
    | focus (simp (maxDischargeDepth := 60) only [↓State.clearUeLog_evolves, ↓Evolves.foldl, ↓Evolves.foldl_fst, ↓Evolves.ite,
        ↓Evolves.ite_fst, ↓Evolves.elim_opt, Evolves.refl, Nat.le_add_right, implies_true, List.cons_subset, List.nil_subset,
        and_true, List.mem_cons, reduceCtorEq, true_or, or_true, false_or, or_false, hb₀];done)
    | (refine Evolves.foldl _ _ _ (fun u x => ?_) ?_ <;> try dsimp only)
    | (refine Evolves.foldl_fst _ _ _ (fun u x => ?_) ?_ <;> try dsimp only)
    | split)

end Sys2Proof.Machine
end

