-- ==== Sys2Proof/Laws/EvolveCheck.lean ====
section
/-! SUPPORT. What the operations of Machine/Check.lean keep (Evolves). -/

set_option linter.unusedSimpArgs false
set_option linter.unreachableTactic false
set_option linter.unusedTactic false
set_option linter.unusedVariables false

namespace Sys2Proof.Machine

theorem State.setChkUnit_evolves {ps₀ : List Part} {b₀ : State} (s : State) (n : Nat) (u : ChkUnit)
    (hp₀ : [.chk] ⊆ ps₀) (hb₀ : Evolves ps₀ b₀ s) :
    Evolves ps₀ b₀ (State.setChkUnit s n u) := by
  simp only [List.cons_subset, List.nil_subset, and_true] at hp₀
  unfold State.setChkUnit
  try dsimp only
  repeat' (first
    | focus (simp (maxDischargeDepth := 60) only [↓Evolves.set_chk, ↓Evolves.foldl, ↓Evolves.foldl_fst, ↓Evolves.ite,
        ↓Evolves.ite_fst, ↓Evolves.elim_opt, Evolves.refl, Nat.le_add_right, implies_true, List.cons_subset, List.nil_subset,
        and_true, hp₀, hb₀];done)
    | (refine Evolves.foldl _ _ _ (fun u x => ?_) ?_ <;> try dsimp only)
    | (refine Evolves.foldl_fst _ _ _ (fun u x => ?_) ?_ <;> try dsimp only)
    | split)

theorem State.chkStart_evolves {ps₀ : List Part} {b₀ : State} (s : State) (n : Nat)
    (hp₀ : [.regs, .chk] ⊆ ps₀) (hb₀ : Evolves ps₀ b₀ s) :
    Evolves ps₀ b₀ (State.chkStart s n) := by
  simp only [List.cons_subset, List.nil_subset, and_true] at hp₀
  unfold State.chkStart
  try dsimp only
  repeat' (first
    | focus (simp (maxDischargeDepth := 60) only [↓State.event_evolves, ↓State.setFlag_evolves, ↓State.setChkUnit_evolves,
        ↓Evolves.foldl, ↓Evolves.foldl_fst, ↓Evolves.ite, ↓Evolves.ite_fst, ↓Evolves.elim_opt, Evolves.refl, Nat.le_add_right,
        implies_true, List.cons_subset, List.nil_subset, and_true, hp₀, hb₀];done)
    | (refine Evolves.foldl _ _ _ (fun u x => ?_) ?_ <;> try dsimp only)
    | (refine Evolves.foldl_fst _ _ _ (fun u x => ?_) ?_ <;> try dsimp only)
    | split)

theorem State.chkData_evolves {ps₀ : List Part} {b₀ : State} (s : State) (n : Nat) (v : Word)
    (hp₀ : [.regs, .chk] ⊆ ps₀) (hb₀ : Evolves ps₀ b₀ s) :
    Evolves ps₀ b₀ (State.chkData s n v) := by
  simp only [List.cons_subset, List.nil_subset, and_true] at hp₀
  unfold State.chkData
  try dsimp only
  repeat' (first
    | focus (simp (maxDischargeDepth := 60) only [↓State.setChkUnit_evolves, ↓State.event_evolves, ↓Evolves.foldl,
        ↓Evolves.foldl_fst, ↓Evolves.ite, ↓Evolves.ite_fst, ↓Evolves.elim_opt, Evolves.refl, Nat.le_add_right, implies_true,
        List.cons_subset, List.nil_subset, and_true, hp₀, hb₀];done)
    | (refine Evolves.foldl _ _ _ (fun u x => ?_) ?_ <;> try dsimp only)
    | (refine Evolves.foldl_fst _ _ _ (fun u x => ?_) ?_ <;> try dsimp only)
    | split)

theorem State.chkAlive_evolves {ps₀ : List Part} {b₀ : State} (s : State) (n : Nat) (x : Alive) (alive : Nat)
    (hp₀ : [.regs] ⊆ ps₀) (hb₀ : Evolves ps₀ b₀ s) :
    Evolves ps₀ b₀ (State.chkAlive s n x alive) := by
  simp only [List.cons_subset, List.nil_subset, and_true] at hp₀
  unfold State.chkAlive
  try dsimp only
  repeat' (first
    | focus (simp (maxDischargeDepth := 60) only [↓State.setFld_evolves, ↓State.bump_evolves, ↓State.event_evolves,
        ↓Evolves.foldl, ↓Evolves.foldl_fst, ↓Evolves.ite, ↓Evolves.ite_fst, ↓Evolves.elim_opt, Evolves.refl, Nat.le_add_right,
        implies_true, List.cons_subset, List.nil_subset, and_true, hp₀, hb₀];done)
    | (refine Evolves.foldl _ _ _ (fun u x => ?_) ?_ <;> try dsimp only)
    | (refine Evolves.foldl_fst _ _ _ (fun u x => ?_) ?_ <;> try dsimp only)
    | split)

theorem State.chkCompare_evolves {ps₀ : List Part} {b₀ : State} (s : State) (n : Nat) (u : ChkUnit) (r : Nat)
    (hp₀ : [.regs] ⊆ ps₀) (hb₀ : Evolves ps₀ b₀ s) :
    Evolves ps₀ b₀ (State.chkCompare s n u r) := by
  simp only [List.cons_subset, List.nil_subset, and_true] at hp₀
  unfold State.chkCompare
  try dsimp only
  repeat' (first
    | focus (simp (maxDischargeDepth := 60) only [↓State.setFlag_evolves, ↓State.bump_evolves, ↓State.event_evolves,
        ↓Evolves.foldl, ↓Evolves.foldl_fst, ↓Evolves.ite, ↓Evolves.ite_fst, ↓Evolves.elim_opt, Evolves.refl, Nat.le_add_right,
        implies_true, List.cons_subset, List.nil_subset, and_true, hp₀, hb₀];done)
    | (refine Evolves.foldl _ _ _ (fun u x => ?_) ?_ <;> try dsimp only)
    | (refine Evolves.foldl_fst _ _ _ (fun u x => ?_) ?_ <;> try dsimp only)
    | split)

theorem State.chkFinish_evolves {ps₀ : List Part} {b₀ : State} (s : State) (n alive : Nat)
    (hp₀ : [.regs, .chk] ⊆ ps₀) (hb₀ : Evolves ps₀ b₀ s) :
    Evolves ps₀ b₀ (State.chkFinish s n alive) := by
  simp only [List.cons_subset, List.nil_subset, and_true] at hp₀
  unfold State.chkFinish
  try dsimp only
  repeat' (first
    | focus (simp (maxDischargeDepth := 60) only [↓State.setFld_evolves, ↓State.chkCompare_evolves, ↓State.setChkUnit_evolves,
        ↓State.setFlag_evolves, ↓State.chkAlive_evolves, ↓State.event_evolves, ↓Evolves.foldl, ↓Evolves.foldl_fst, ↓Evolves.ite,
        ↓Evolves.ite_fst, ↓Evolves.elim_opt, Evolves.refl, Nat.le_add_right, implies_true, List.cons_subset, List.nil_subset,
        and_true, hp₀, hb₀];done)
    | (refine Evolves.foldl _ _ _ (fun u x => ?_) ?_ <;> try dsimp only)
    | (refine Evolves.foldl_fst _ _ _ (fun u x => ?_) ?_ <;> try dsimp only)
    | split)

theorem State.chkResync_evolves {ps₀ : List Part} {b₀ : State} (s : State) (n : Nat)
    (hp₀ : [.chk] ⊆ ps₀) (hb₀ : Evolves ps₀ b₀ s) :
    Evolves ps₀ b₀ (State.chkResync s n) := by
  simp only [List.cons_subset, List.nil_subset, and_true] at hp₀
  unfold State.chkResync
  try dsimp only
  repeat' (first
    | focus (simp (maxDischargeDepth := 60) only [↓State.setChkUnit_evolves, ↓Evolves.foldl, ↓Evolves.foldl_fst, ↓Evolves.ite,
        ↓Evolves.ite_fst, ↓Evolves.elim_opt, Evolves.refl, Nat.le_add_right, implies_true, List.cons_subset, List.nil_subset,
        and_true, hp₀, hb₀];done)
    | (refine Evolves.foldl _ _ _ (fun u x => ?_) ?_ <;> try dsimp only)
    | (refine Evolves.foldl_fst _ _ _ (fun u x => ?_) ?_ <;> try dsimp only)
    | split)

theorem State.chkOp_evolves {ps₀ : List Part} {b₀ : State} (s : State) (n : Nat) (v : Word)
    (hp₀ : [.regs, .chk] ⊆ ps₀) (hb₀ : Evolves ps₀ b₀ s) :
    Evolves ps₀ b₀ (State.chkOp s n v) := by
  simp only [List.cons_subset, List.nil_subset, and_true] at hp₀
  unfold State.chkOp
  try dsimp only
  repeat' (first
    | focus (simp (maxDischargeDepth := 60) only [↓State.chkStart_evolves, ↓State.chkFinish_evolves, ↓State.chkResync_evolves,
        ↓Evolves.foldl, ↓Evolves.foldl_fst, ↓Evolves.ite, ↓Evolves.ite_fst, ↓Evolves.elim_opt, Evolves.refl, Nat.le_add_right,
        implies_true, List.cons_subset, List.nil_subset, and_true, hp₀, hb₀];done)
    | (refine Evolves.foldl _ _ _ (fun u x => ?_) ?_ <;> try dsimp only)
    | (refine Evolves.foldl_fst _ _ _ (fun u x => ?_) ?_ <;> try dsimp only)
    | split)

theorem execChkStart_evolves (unit : Nat) (s : State) :
    ∃ t₁, execChkStart unit s = .next t₁ ∧ Evolves [.regs, .chk] s t₁ := by
  have hb₀ := Evolves.refl [.regs, .chk] s
  unfold execChkStart
  refine ⟨_, rfl, ?_⟩
  try dsimp only
  repeat' (first
    | focus (simp (maxDischargeDepth := 60) only [↓State.chkStart_evolves, ↓Evolves.foldl, ↓Evolves.foldl_fst, ↓Evolves.ite,
        ↓Evolves.ite_fst, ↓Evolves.elim_opt, Evolves.refl, Nat.le_add_right, implies_true, List.cons_subset, List.nil_subset,
        and_true, List.mem_cons, reduceCtorEq, true_or, or_true, false_or, or_false, hb₀];done)
    | (refine Evolves.foldl _ _ _ (fun u x => ?_) ?_ <;> try dsimp only)
    | (refine Evolves.foldl_fst _ _ _ (fun u x => ?_) ?_ <;> try dsimp only)
    | split)

theorem execChkData_evolves (unit : Nat) (value : Word) (s : State) :
    ∃ t₁, execChkData unit value s = .next t₁ ∧ Evolves [.regs, .chk] s t₁ := by
  have hb₀ := Evolves.refl [.regs, .chk] s
  unfold execChkData
  refine ⟨_, rfl, ?_⟩
  try dsimp only
  repeat' (first
    | focus (simp (maxDischargeDepth := 60) only [↓State.chkData_evolves, ↓Evolves.foldl, ↓Evolves.foldl_fst, ↓Evolves.ite,
        ↓Evolves.ite_fst, ↓Evolves.elim_opt, Evolves.refl, Nat.le_add_right, implies_true, List.cons_subset, List.nil_subset,
        and_true, List.mem_cons, reduceCtorEq, true_or, or_true, false_or, or_false, hb₀];done)
    | (refine Evolves.foldl _ _ _ (fun u x => ?_) ?_ <;> try dsimp only)
    | (refine Evolves.foldl_fst _ _ _ (fun u x => ?_) ?_ <;> try dsimp only)
    | split)

theorem execChkFinish_evolves (unit alive : Nat) (s : State) :
    ∃ t₁, execChkFinish unit alive s = .next t₁ ∧ Evolves [.regs, .chk] s t₁ := by
  have hb₀ := Evolves.refl [.regs, .chk] s
  unfold execChkFinish
  refine ⟨_, rfl, ?_⟩
  try dsimp only
  repeat' (first
    | focus (simp (maxDischargeDepth := 60) only [↓State.chkFinish_evolves, ↓Evolves.foldl, ↓Evolves.foldl_fst, ↓Evolves.ite,
        ↓Evolves.ite_fst, ↓Evolves.elim_opt, Evolves.refl, Nat.le_add_right, implies_true, List.cons_subset, List.nil_subset,
        and_true, List.mem_cons, reduceCtorEq, true_or, or_true, false_or, or_false, hb₀];done)
    | (refine Evolves.foldl _ _ _ (fun u x => ?_) ?_ <;> try dsimp only)
    | (refine Evolves.foldl_fst _ _ _ (fun u x => ?_) ?_ <;> try dsimp only)
    | split)

theorem execChkResync_evolves (unit : Nat) (s : State) :
    ∃ t₁, execChkResync unit s = .next t₁ ∧ Evolves [.chk] s t₁ := by
  have hb₀ := Evolves.refl [.chk] s
  unfold execChkResync
  refine ⟨_, rfl, ?_⟩
  try dsimp only
  repeat' (first
    | focus (simp (maxDischargeDepth := 60) only [↓State.chkResync_evolves, ↓Evolves.foldl, ↓Evolves.foldl_fst, ↓Evolves.ite,
        ↓Evolves.ite_fst, ↓Evolves.elim_opt, Evolves.refl, Nat.le_add_right, implies_true, List.cons_subset, List.nil_subset,
        and_true, List.mem_cons, reduceCtorEq, true_or, or_true, false_or, or_false, hb₀];done)
    | (refine Evolves.foldl _ _ _ (fun u x => ?_) ?_ <;> try dsimp only)
    | (refine Evolves.foldl_fst _ _ _ (fun u x => ?_) ?_ <;> try dsimp only)
    | split)

theorem State.selfTest_evolves {ps₀ : List Part} {b₀ : State} (s : State) (bad : Nat)
    (hp₀ : [.regs, .boot] ⊆ ps₀) (hb₀ : Evolves ps₀ b₀ s) :
    Evolves ps₀ b₀ (State.selfTest s bad) := by
  simp only [List.cons_subset, List.nil_subset, and_true] at hp₀
  unfold State.selfTest
  try dsimp only
  repeat' (first
    | focus (simp (maxDischargeDepth := 60) only [↓State.setReg_evolves, ↓State.faultLater_evolves, ↓State.event_evolves,
        ↓Evolves.foldl, ↓Evolves.foldl_fst, ↓Evolves.ite, ↓Evolves.ite_fst, ↓Evolves.elim_opt, Evolves.refl, Nat.le_add_right,
        implies_true, List.cons_subset, List.nil_subset, and_true, hp₀, hb₀];done)
    | (refine Evolves.foldl _ _ _ (fun u x => ?_) ?_ <;> try dsimp only)
    | (refine Evolves.foldl_fst _ _ _ (fun u x => ?_) ?_ <;> try dsimp only)
    | split)

end Sys2Proof.Machine
end

