-- ==== Sys2Proof/Laws/EvolveNet.lean ====
section
/-! SUPPORT. What the operations of Machine/Net.lean keep (Evolves). -/

set_option linter.unusedSimpArgs false
set_option linter.unreachableTactic false
set_option linter.unusedTactic false
set_option linter.unusedVariables false

namespace Sys2Proof.Machine

theorem State.setNet_evolves {ps₀ : List Part} {b₀ : State} (s : State) (p : Nat) (x : NetPort)
    (hp₀ : [.net0, .net1] ⊆ ps₀) (hb₀ : Evolves ps₀ b₀ s) :
    Evolves ps₀ b₀ (State.setNet s p x) := by
  simp only [List.cons_subset, List.nil_subset, and_true] at hp₀
  unfold State.setNet
  try dsimp only
  repeat' (first
    | focus (simp (maxDischargeDepth := 60) only [↓Evolves.set_net0, ↓Evolves.set_net1, ↓Evolves.foldl, ↓Evolves.foldl_fst,
        ↓Evolves.ite, ↓Evolves.ite_fst, ↓Evolves.elim_opt, Evolves.refl, Nat.le_add_right, implies_true, List.cons_subset,
        List.nil_subset, and_true, hp₀, hb₀];done)
    | (refine Evolves.foldl _ _ _ (fun u x => ?_) ?_ <;> try dsimp only)
    | (refine Evolves.foldl_fst _ _ _ (fun u x => ?_) ?_ <;> try dsimp only)
    | split)

theorem State.netEvent_evolves {ps₀ : List Part} {b₀ : State} (s : State) (p : Nat) (f : Fld)
    (hp₀ : [.regs, .net0, .net1] ⊆ ps₀) (hb₀ : Evolves ps₀ b₀ s) :
    Evolves ps₀ b₀ (State.netEvent s p f) := by
  simp only [List.cons_subset, List.nil_subset, and_true] at hp₀
  unfold State.netEvent
  try dsimp only
  repeat' (first
    | focus (simp (maxDischargeDepth := 60) only [↓State.event_evolves, ↓State.setNet_evolves, ↓Evolves.foldl, ↓Evolves.foldl_fst,
        ↓Evolves.ite, ↓Evolves.ite_fst, ↓Evolves.elim_opt, Evolves.refl, Nat.le_add_right, implies_true, List.cons_subset,
        List.nil_subset, and_true, hp₀, hb₀];done)
    | (refine Evolves.foldl _ _ _ (fun u x => ?_) ?_ <;> try dsimp only)
    | (refine Evolves.foldl_fst _ _ _ (fun u x => ?_) ?_ <;> try dsimp only)
    | split)

theorem State.addStamp_evolves {ps₀ : List Part} {b₀ : State} (s : State) (p : Nat) (t : Stamp)
    (hp₀ : [.regs, .net0, .net1] ⊆ ps₀) (hb₀ : Evolves ps₀ b₀ s) :
    Evolves ps₀ b₀ (State.addStamp s p t) := by
  simp only [List.cons_subset, List.nil_subset, and_true] at hp₀
  unfold State.addStamp
  try dsimp only
  repeat' (first
    | focus (simp (maxDischargeDepth := 60) only [↓State.setFld_evolves, ↓State.setNet_evolves, ↓State.bump_evolves,
        ↓State.netEvent_evolves, ↓Evolves.foldl, ↓Evolves.foldl_fst, ↓Evolves.ite, ↓Evolves.ite_fst, ↓Evolves.elim_opt,
        Evolves.refl, Nat.le_add_right, implies_true, List.cons_subset, List.nil_subset, and_true, hp₀, hb₀];done)
    | (refine Evolves.foldl _ _ _ (fun u x => ?_) ?_ <;> try dsimp only)
    | (refine Evolves.foldl_fst _ _ _ (fun u x => ?_) ?_ <;> try dsimp only)
    | split)

theorem State.takeStamp_evolves {ps₀ : List Part} {b₀ : State} (s : State) (p : Nat) (tx : Bool) (domain kind seq : Nat)
    (hp₀ : [.regs, .net0, .net1] ⊆ ps₀) (hb₀ : Evolves ps₀ b₀ s) :
    Evolves ps₀ b₀ (State.takeStamp s p tx domain kind seq).1 := by
  simp only [List.cons_subset, List.nil_subset, and_true] at hp₀
  unfold State.takeStamp
  try dsimp only
  repeat' (first
    | focus (simp (maxDischargeDepth := 60) only [↓State.setFld_evolves, ↓State.setNet_evolves, ↓Evolves.foldl,
        ↓Evolves.foldl_fst, ↓Evolves.ite, ↓Evolves.ite_fst, ↓Evolves.elim_opt, Evolves.refl, Nat.le_add_right, implies_true,
        List.cons_subset, List.nil_subset, and_true, hp₀, hb₀];done)
    | (refine Evolves.foldl _ _ _ (fun u x => ?_) ?_ <;> try dsimp only)
    | (refine Evolves.foldl_fst _ _ _ (fun u x => ?_) ?_ <;> try dsimp only)
    | split)

theorem State.stampRx_evolves {ps₀ : List Part} {b₀ : State} (s : State) (p : Nat) (e : EthFrame)
    (hp₀ : [.regs, .net0, .net1] ⊆ ps₀) (hb₀ : Evolves ps₀ b₀ s) :
    Evolves ps₀ b₀ (State.stampRx s p e) := by
  simp only [List.cons_subset, List.nil_subset, and_true] at hp₀
  unfold State.stampRx
  try dsimp only
  repeat' (first
    | focus (simp (maxDischargeDepth := 60) only [↓State.addStamp_evolves, ↓Evolves.foldl, ↓Evolves.foldl_fst, ↓Evolves.ite,
        ↓Evolves.ite_fst, ↓Evolves.elim_opt, Evolves.refl, Nat.le_add_right, implies_true, List.cons_subset, List.nil_subset,
        and_true, hp₀, hb₀];done)
    | (refine Evolves.foldl _ _ _ (fun u x => ?_) ?_ <;> try dsimp only)
    | (refine Evolves.foldl_fst _ _ _ (fun u x => ?_) ?_ <;> try dsimp only)
    | split)

theorem State.txStart_evolves {ps₀ : List Part} {b₀ : State} (s : State) (p v : Nat)
    (hp₀ : [.regs] ⊆ ps₀) (hb₀ : Evolves ps₀ b₀ s) :
    Evolves ps₀ b₀ (State.txStart s p v) := by
  simp only [List.cons_subset, List.nil_subset, and_true] at hp₀
  unfold State.txStart
  try dsimp only
  repeat' (first
    | focus (simp (maxDischargeDepth := 60) only [↓State.setFld_evolves, ↓Evolves.foldl, ↓Evolves.foldl_fst, ↓Evolves.ite,
        ↓Evolves.ite_fst, ↓Evolves.elim_opt, Evolves.refl, Nat.le_add_right, implies_true, List.cons_subset, List.nil_subset,
        and_true, hp₀, hb₀];done)
    | (refine Evolves.foldl _ _ _ (fun u x => ?_) ?_ <;> try dsimp only)
    | (refine Evolves.foldl_fst _ _ _ (fun u x => ?_) ?_ <;> try dsimp only)
    | split)

theorem execTxStartWrite_evolves (port value : Nat) (s : State) :
    ∃ t₁, execTxStartWrite port value s = .next t₁ ∧ Evolves [.regs] s t₁ := by
  have hb₀ := Evolves.refl [.regs] s
  unfold execTxStartWrite
  refine ⟨_, rfl, ?_⟩
  try dsimp only
  repeat' (first
    | focus (simp (maxDischargeDepth := 60) only [↓State.txStart_evolves, ↓Evolves.foldl, ↓Evolves.foldl_fst, ↓Evolves.ite,
        ↓Evolves.ite_fst, ↓Evolves.elim_opt, Evolves.refl, Nat.le_add_right, implies_true, List.cons_subset, List.nil_subset,
        and_true, List.mem_cons, reduceCtorEq, true_or, or_true, false_or, or_false, hb₀];done)
    | (refine Evolves.foldl _ _ _ (fun u x => ?_) ?_ <;> try dsimp only)
    | (refine Evolves.foldl_fst _ _ _ (fun u x => ?_) ?_ <;> try dsimp only)
    | split)

theorem State.queueFrames_evolves {ps₀ : List Part} {b₀ : State} (s : State) (p : Nat) (fs : List TxFrame)
    (hp₀ : [.net0, .net1] ⊆ ps₀) (hb₀ : Evolves ps₀ b₀ s) :
    Evolves ps₀ b₀ (State.queueFrames s p fs) := by
  simp only [List.cons_subset, List.nil_subset, and_true] at hp₀
  unfold State.queueFrames
  try dsimp only
  repeat' (first
    | focus (simp (maxDischargeDepth := 60) only [↓State.setNet_evolves, ↓Evolves.foldl, ↓Evolves.foldl_fst, ↓Evolves.ite,
        ↓Evolves.ite_fst, ↓Evolves.elim_opt, Evolves.refl, Nat.le_add_right, implies_true, List.cons_subset, List.nil_subset,
        and_true, hp₀, hb₀];done)
    | (refine Evolves.foldl _ _ _ (fun u x => ?_) ?_ <;> try dsimp only)
    | (refine Evolves.foldl_fst _ _ _ (fun u x => ?_) ?_ <;> try dsimp only)
    | split)

theorem State.segmentedSend_evolves {ps₀ : List Part} {b₀ : State} (s : State) (p : Nat) (t : SegSend)
    (hp₀ : [.regs, .net0, .net1] ⊆ ps₀) (hb₀ : Evolves ps₀ b₀ s) :
    Evolves ps₀ b₀ (State.segmentedSend s p t) := by
  simp only [List.cons_subset, List.nil_subset, and_true] at hp₀
  unfold State.segmentedSend
  try dsimp only
  repeat' (first
    | focus (simp (maxDischargeDepth := 60) only [↓State.netEvent_evolves, ↓State.queueFrames_evolves, ↓Evolves.foldl,
        ↓Evolves.foldl_fst, ↓Evolves.ite, ↓Evolves.ite_fst, ↓Evolves.elim_opt, Evolves.refl, Nat.le_add_right, implies_true,
        List.cons_subset, List.nil_subset, and_true, hp₀, hb₀];done)
    | (refine Evolves.foldl _ _ _ (fun u x => ?_) ?_ <;> try dsimp only)
    | (refine Evolves.foldl_fst _ _ _ (fun u x => ?_) ?_ <;> try dsimp only)
    | split)

theorem execSegmentedSend_evolves (port : Nat) (t : SegSend) (s : State) :
    ∃ t₁, execSegmentedSend port t s = .next t₁ ∧ Evolves [.regs, .net0, .net1] s t₁ := by
  have hb₀ := Evolves.refl [.regs, .net0, .net1] s
  unfold execSegmentedSend
  refine ⟨_, rfl, ?_⟩
  try dsimp only
  repeat' (first
    | focus (simp (maxDischargeDepth := 60) only [↓State.segmentedSend_evolves, ↓Evolves.foldl, ↓Evolves.foldl_fst, ↓Evolves.ite,
        ↓Evolves.ite_fst, ↓Evolves.elim_opt, Evolves.refl, Nat.le_add_right, implies_true, List.cons_subset, List.nil_subset,
        and_true, List.mem_cons, reduceCtorEq, true_or, or_true, false_or, or_false, hb₀];done)
    | (refine Evolves.foldl _ _ _ (fun u x => ?_) ?_ <;> try dsimp only)
    | (refine Evolves.foldl_fst _ _ _ (fun u x => ?_) ?_ <;> try dsimp only)
    | split)

theorem State.startFrame_evolves {ps₀ : List Part} {b₀ : State} (s : State) (p stored : Nat)
    (hp₀ : [.sent, .net0, .net1] ⊆ ps₀) (hb₀ : Evolves ps₀ b₀ s) :
    Evolves ps₀ b₀ (State.startFrame s p stored) := by
  simp only [List.cons_subset, List.nil_subset, and_true] at hp₀
  unfold State.startFrame
  try dsimp only
  repeat' (first
    | focus (simp (maxDischargeDepth := 60) only [↓State.send_evolves, ↓State.setNet_evolves, ↓Evolves.foldl, ↓Evolves.foldl_fst,
        ↓Evolves.ite, ↓Evolves.ite_fst, ↓Evolves.elim_opt, Evolves.refl, Nat.le_add_right, implies_true, List.cons_subset,
        List.nil_subset, and_true, hp₀, hb₀];done)
    | (refine Evolves.foldl _ _ _ (fun u x => ?_) ?_ <;> try dsimp only)
    | (refine Evolves.foldl_fst _ _ _ (fun u x => ?_) ?_ <;> try dsimp only)
    | split)

theorem execTxFrameStart_evolves (port stored : Nat) (s : State) :
    ∃ t₁, execTxFrameStart port stored s = .next t₁ ∧ Evolves [.sent, .net0, .net1] s t₁ := by
  have hb₀ := Evolves.refl [.sent, .net0, .net1] s
  unfold execTxFrameStart
  refine ⟨_, rfl, ?_⟩
  try dsimp only
  repeat' (first
    | focus (simp (maxDischargeDepth := 60) only [↓State.startFrame_evolves, ↓Evolves.foldl, ↓Evolves.foldl_fst, ↓Evolves.ite,
        ↓Evolves.ite_fst, ↓Evolves.elim_opt, Evolves.refl, Nat.le_add_right, implies_true, List.cons_subset, List.nil_subset,
        and_true, List.mem_cons, reduceCtorEq, true_or, or_true, false_or, or_false, hb₀];done)
    | (refine Evolves.foldl _ _ _ (fun u x => ?_) ?_ <;> try dsimp only)
    | (refine Evolves.foldl_fst _ _ _ (fun u x => ?_) ?_ <;> try dsimp only)
    | split)

theorem State.underrun_evolves {ps₀ : List Part} {b₀ : State} (s : State) (p : Nat)
    (hp₀ : [.regs, .sent, .net0, .net1] ⊆ ps₀) (hb₀ : Evolves ps₀ b₀ s) :
    Evolves ps₀ b₀ (State.underrun s p) := by
  simp only [List.cons_subset, List.nil_subset, and_true] at hp₀
  unfold State.underrun
  try dsimp only
  repeat' (first
    | focus (simp (maxDischargeDepth := 60) only [↓State.send_evolves, ↓State.setNet_evolves, ↓State.setFld_evolves,
        ↓State.netEvent_evolves, ↓Evolves.foldl, ↓Evolves.foldl_fst, ↓Evolves.ite, ↓Evolves.ite_fst, ↓Evolves.elim_opt,
        Evolves.refl, Nat.le_add_right, implies_true, List.cons_subset, List.nil_subset, and_true, hp₀, hb₀];done)
    | (refine Evolves.foldl _ _ _ (fun u x => ?_) ?_ <;> try dsimp only)
    | (refine Evolves.foldl_fst _ _ _ (fun u x => ?_) ?_ <;> try dsimp only)
    | split)

theorem execTxUnderrun_evolves (port : Nat) (s : State) :
    ∃ t₁, execTxUnderrun port s = .next t₁ ∧ Evolves [.regs, .sent, .net0, .net1] s t₁ := by
  have hb₀ := Evolves.refl [.regs, .sent, .net0, .net1] s
  unfold execTxUnderrun
  refine ⟨_, rfl, ?_⟩
  try dsimp only
  repeat' (first
    | focus (simp (maxDischargeDepth := 60) only [↓State.underrun_evolves, ↓Evolves.foldl, ↓Evolves.foldl_fst, ↓Evolves.ite,
        ↓Evolves.ite_fst, ↓Evolves.elim_opt, Evolves.refl, Nat.le_add_right, implies_true, List.cons_subset, List.nil_subset,
        and_true, List.mem_cons, reduceCtorEq, true_or, or_true, false_or, or_false, hb₀];done)
    | (refine Evolves.foldl _ _ _ (fun u x => ?_) ?_ <;> try dsimp only)
    | (refine Evolves.foldl_fst _ _ _ (fun u x => ?_) ?_ <;> try dsimp only)
    | split)

theorem State.netUp_evolves {ps₀ : List Part} {b₀ : State} (s : State) (p q : Nat)
    (hp₀ : [.regs, .net0, .net1] ⊆ ps₀) (hb₀ : Evolves ps₀ b₀ s) :
    Evolves ps₀ b₀ (State.netUp s p q) := by
  simp only [List.cons_subset, List.nil_subset, and_true] at hp₀
  unfold State.netUp
  try dsimp only
  repeat' (first
    | focus (simp (maxDischargeDepth := 60) only [↓State.netEvent_evolves, ↓State.setBit_evolves, ↓Evolves.foldl,
        ↓Evolves.foldl_fst, ↓Evolves.ite, ↓Evolves.ite_fst, ↓Evolves.elim_opt, Evolves.refl, Nat.le_add_right, implies_true,
        List.cons_subset, List.nil_subset, and_true, hp₀, hb₀];done)
    | (refine Evolves.foldl _ _ _ (fun u x => ?_) ?_ <;> try dsimp only)
    | (refine Evolves.foldl_fst _ _ _ (fun u x => ?_) ?_ <;> try dsimp only)
    | split)

theorem State.netDown_evolves {ps₀ : List Part} {b₀ : State} (s : State) (p q : Nat)
    (hp₀ : [.regs, .net0, .net1] ⊆ ps₀) (hb₀ : Evolves ps₀ b₀ s) :
    Evolves ps₀ b₀ (State.netDown s p q) := by
  simp only [List.cons_subset, List.nil_subset, and_true] at hp₀
  unfold State.netDown
  try dsimp only
  repeat' (first
    | focus (simp (maxDischargeDepth := 60) only [↓State.netEvent_evolves, ↓State.setBit_evolves, ↓State.setNet_evolves,
        ↓Evolves.foldl, ↓Evolves.foldl_fst, ↓Evolves.ite, ↓Evolves.ite_fst, ↓Evolves.elim_opt, Evolves.refl, Nat.le_add_right,
        implies_true, List.cons_subset, List.nil_subset, and_true, hp₀, hb₀];done)
    | (refine Evolves.foldl _ _ _ (fun u x => ?_) ?_ <;> try dsimp only)
    | (refine Evolves.foldl_fst _ _ _ (fun u x => ?_) ?_ <;> try dsimp only)
    | split)

theorem execLinkUp_evolves (port sub : Nat) (s : State) :
    ∃ t₁, execLinkUp port sub s = .next t₁ ∧ Evolves [.regs, .net0, .net1] s t₁ := by
  have hb₀ := Evolves.refl [.regs, .net0, .net1] s
  unfold execLinkUp
  refine ⟨_, rfl, ?_⟩
  try dsimp only
  repeat' (first
    | focus (simp (maxDischargeDepth := 60) only [↓State.netUp_evolves, ↓Evolves.foldl, ↓Evolves.foldl_fst, ↓Evolves.ite,
        ↓Evolves.ite_fst, ↓Evolves.elim_opt, Evolves.refl, Nat.le_add_right, implies_true, List.cons_subset, List.nil_subset,
        and_true, List.mem_cons, reduceCtorEq, true_or, or_true, false_or, or_false, hb₀];done)
    | (refine Evolves.foldl _ _ _ (fun u x => ?_) ?_ <;> try dsimp only)
    | (refine Evolves.foldl_fst _ _ _ (fun u x => ?_) ?_ <;> try dsimp only)
    | split)

theorem execLinkDown_evolves (port sub : Nat) (s : State) :
    ∃ t₁, execLinkDown port sub s = .next t₁ ∧ Evolves [.regs, .net0, .net1] s t₁ := by
  have hb₀ := Evolves.refl [.regs, .net0, .net1] s
  unfold execLinkDown
  refine ⟨_, rfl, ?_⟩
  try dsimp only
  repeat' (first
    | focus (simp (maxDischargeDepth := 60) only [↓State.netDown_evolves, ↓Evolves.foldl, ↓Evolves.foldl_fst, ↓Evolves.ite,
        ↓Evolves.ite_fst, ↓Evolves.elim_opt, Evolves.refl, Nat.le_add_right, implies_true, List.cons_subset, List.nil_subset,
        and_true, List.mem_cons, reduceCtorEq, true_or, or_true, false_or, or_false, hb₀];done)
    | (refine Evolves.foldl _ _ _ (fun u x => ?_) ?_ <;> try dsimp only)
    | (refine Evolves.foldl_fst _ _ _ (fun u x => ?_) ?_ <;> try dsimp only)
    | split)

theorem State.serviceEvents_evolves {ps₀ : List Part} {b₀ : State} (s : State) (p : Nat)
    (hp₀ : [.net0, .net1] ⊆ ps₀) (hb₀ : Evolves ps₀ b₀ s) :
    Evolves ps₀ b₀ (State.serviceEvents s p) := by
  simp only [List.cons_subset, List.nil_subset, and_true] at hp₀
  unfold State.serviceEvents
  try dsimp only
  repeat' (first
    | focus (simp (maxDischargeDepth := 60) only [↓State.setNet_evolves, ↓Evolves.foldl, ↓Evolves.foldl_fst, ↓Evolves.ite,
        ↓Evolves.ite_fst, ↓Evolves.elim_opt, Evolves.refl, Nat.le_add_right, implies_true, List.cons_subset, List.nil_subset,
        and_true, hp₀, hb₀];done)
    | (refine Evolves.foldl _ _ _ (fun u x => ?_) ?_ <;> try dsimp only)
    | (refine Evolves.foldl_fst _ _ _ (fun u x => ?_) ?_ <;> try dsimp only)
    | split)

theorem execFwEventService_evolves (port : Nat) (s : State) :
    ∃ t₁, execFwEventService port s = .next t₁ ∧ Evolves [.net0, .net1] s t₁ := by
  have hb₀ := Evolves.refl [.net0, .net1] s
  unfold execFwEventService
  refine ⟨_, rfl, ?_⟩
  try dsimp only
  repeat' (first
    | focus (simp (maxDischargeDepth := 60) only [↓State.serviceEvents_evolves, ↓Evolves.foldl, ↓Evolves.foldl_fst, ↓Evolves.ite,
        ↓Evolves.ite_fst, ↓Evolves.elim_opt, Evolves.refl, Nat.le_add_right, implies_true, List.cons_subset, List.nil_subset,
        and_true, List.mem_cons, reduceCtorEq, true_or, or_true, false_or, or_false, hb₀];done)
    | (refine Evolves.foldl _ _ _ (fun u x => ?_) ?_ <;> try dsimp only)
    | (refine Evolves.foldl_fst _ _ _ (fun u x => ?_) ?_ <;> try dsimp only)
    | split)

theorem State.writeFilters_evolves {ps₀ : List Part} {b₀ : State} (s : State) (p : Nat)
    (hp₀ : [.regs] ⊆ ps₀) (hb₀ : Evolves ps₀ b₀ s) :
    Evolves ps₀ b₀ (State.writeFilters s p) := by
  simp only [List.cons_subset, List.nil_subset, and_true] at hp₀
  unfold State.writeFilters
  try dsimp only
  repeat' (first
    | focus (simp (maxDischargeDepth := 60) only [↓State.setFlag_evolves, ↓State.setFld_evolves, ↓Evolves.foldl,
        ↓Evolves.foldl_fst, ↓Evolves.ite, ↓Evolves.ite_fst, ↓Evolves.elim_opt, Evolves.refl, Nat.le_add_right, implies_true,
        List.cons_subset, List.nil_subset, and_true, hp₀, hb₀];done)
    | (refine Evolves.foldl _ _ _ (fun u x => ?_) ?_ <;> try dsimp only)
    | (refine Evolves.foldl_fst _ _ _ (fun u x => ?_) ?_ <;> try dsimp only)
    | split)

end Sys2Proof.Machine
end

