-- ==== Sys2Proof/Laws/EvolveTime.lean ====
section
/-! SUPPORT. What the operations of Machine/Time.lean keep (Evolves). -/

set_option linter.unusedSimpArgs false
set_option linter.unreachableTactic false
set_option linter.unusedTactic false
set_option linter.unusedVariables false

namespace Sys2Proof.Machine

theorem State.setTimeMode_evolves {ps₀ : List Part} {b₀ : State} (s : State) (m : TimeMode)
    (hp₀ : [.regs, .time] ⊆ ps₀) (hb₀ : Evolves ps₀ b₀ s) :
    Evolves ps₀ b₀ (State.setTimeMode s m) := by
  simp only [List.cons_subset, List.nil_subset, and_true] at hp₀
  unfold State.setTimeMode
  try dsimp only
  repeat' (first
    | focus (simp (maxDischargeDepth := 60) only [↓State.setFlag_evolves, ↓State.setFld_evolves, ↓State.event_evolves,
        ↓Evolves.set_time, ↓Evolves.foldl, ↓Evolves.foldl_fst, ↓Evolves.ite, ↓Evolves.ite_fst, ↓Evolves.elim_opt, Evolves.refl,
        Nat.le_add_right, implies_true, List.cons_subset, List.nil_subset, and_true, hp₀, hb₀];done)
    | (refine Evolves.foldl _ _ _ (fun u x => ?_) ?_ <;> try dsimp only)
    | (refine Evolves.foldl_fst _ _ _ (fun u x => ?_) ?_ <;> try dsimp only)
    | split)

theorem State.sourceLost_evolves {ps₀ : List Part} {b₀ : State} (s : State)
    (hp₀ : [.regs, .time] ⊆ ps₀) (hb₀ : Evolves ps₀ b₀ s) :
    Evolves ps₀ b₀ (State.sourceLost s) := by
  simp only [List.cons_subset, List.nil_subset, and_true] at hp₀
  unfold State.sourceLost
  try dsimp only
  repeat' (first
    | focus (simp (maxDischargeDepth := 60) only [↓State.setTimeMode_evolves, ↓Evolves.set_time, ↓Evolves.foldl,
        ↓Evolves.foldl_fst, ↓Evolves.ite, ↓Evolves.ite_fst, ↓Evolves.elim_opt, Evolves.refl, Nat.le_add_right, implies_true,
        List.cons_subset, List.nil_subset, and_true, hp₀, hb₀];done)
    | (refine Evolves.foldl _ _ _ (fun u x => ?_) ?_ <;> try dsimp only)
    | (refine Evolves.foldl_fst _ _ _ (fun u x => ?_) ?_ <;> try dsimp only)
    | split)

theorem State.applyStep_evolves {ps₀ : List Part} {b₀ : State} (s : State) (delta : Int) (again : Bool)
    (hp₀ : [.regs, .wall, .flip, .sched, .time] ⊆ ps₀) (hb₀ : Evolves ps₀ b₀ s) :
    Evolves ps₀ b₀ (State.applyStep s delta again) := by
  simp only [List.cons_subset, List.nil_subset, and_true] at hp₀
  unfold State.applyStep
  try dsimp only
  repeat' (first
    | focus (simp (maxDischargeDepth := 60) only [↓State.setFlag_evolves, ↓State.bump_evolves, ↓State.event_evolves,
        ↓Evolves.set_wall, ↓Evolves.set_flip, ↓Evolves.set_sched, ↓Evolves.set_time, ↓Evolves.set_wall_time,
        ↓Evolves.set_wall_flip_sched_time, ↓Evolves.foldl, ↓Evolves.foldl_fst, ↓Evolves.ite, ↓Evolves.ite_fst, ↓Evolves.elim_opt,
        Evolves.refl, Nat.le_add_right, implies_true, List.cons_subset, List.nil_subset, and_true, hp₀, hb₀];done)
    | (refine Evolves.foldl _ _ _ (fun u x => ?_) ?_ <;> try dsimp only)
    | (refine Evolves.foldl_fst _ _ _ (fun u x => ?_) ?_ <;> try dsimp only)
    | split)

theorem State.enterAcquire_evolves {ps₀ : List Part} {b₀ : State} (s : State) (m : Int)
    (hp₀ : [.regs, .cycles, .wall, .flip, .sched, .time] ⊆ ps₀) (hb₀ : Evolves ps₀ b₀ s) :
    Evolves ps₀ b₀ (State.enterAcquire s m) := by
  simp only [List.cons_subset, List.nil_subset, and_true] at hp₀
  unfold State.enterAcquire
  try dsimp only
  repeat' (first
    | focus (simp (maxDischargeDepth := 60) only [↓State.setTimeMode_evolves, ↓State.applyStep_evolves, ↓State.ticks_evolves,
        ↓Evolves.foldl, ↓Evolves.foldl_fst, ↓Evolves.ite, ↓Evolves.ite_fst, ↓Evolves.elim_opt, Evolves.refl, Nat.le_add_right,
        implies_true, List.cons_subset, List.nil_subset, and_true, hp₀, hb₀];done)
    | (refine Evolves.foldl _ _ _ (fun u x => ?_) ?_ <;> try dsimp only)
    | (refine Evolves.foldl_fst _ _ _ (fun u x => ?_) ?_ <;> try dsimp only)
    | split)

theorem State.steer_evolves {ps₀ : List Part} {b₀ : State} (s : State)
    (hp₀ : [.regs, .fresh] ⊆ ps₀) (hb₀ : Evolves ps₀ b₀ s) :
    Evolves ps₀ b₀ (State.steer s) := by
  simp only [List.cons_subset, List.nil_subset, and_true] at hp₀
  unfold State.steer
  try dsimp only
  repeat' (first
    | focus (simp (maxDischargeDepth := 60) only [↓State.drawn_evolves, ↓State.setReg_evolves, ↓Evolves.foldl, ↓Evolves.foldl_fst,
        ↓Evolves.ite, ↓Evolves.ite_fst, ↓Evolves.elim_opt, Evolves.refl, Nat.le_add_right, implies_true, List.cons_subset,
        List.nil_subset, and_true, hp₀, hb₀];done)
    | (refine Evolves.foldl _ _ _ (fun u x => ?_) ?_ <;> try dsimp only)
    | (refine Evolves.foldl_fst _ _ _ (fun u x => ?_) ?_ <;> try dsimp only)
    | split)

theorem State.servoSample_evolves {ps₀ : List Part} {b₀ : State} (s : State) (off : Int)
    (hp₀ : [.regs, .fresh, .cycles, .wall, .flip, .sched, .time] ⊆ ps₀) (hb₀ : Evolves ps₀ b₀ s) :
    Evolves ps₀ b₀ (State.servoSample s off) := by
  simp only [List.cons_subset, List.nil_subset, and_true] at hp₀
  unfold State.servoSample
  try dsimp only
  repeat' (first
    | focus (simp (maxDischargeDepth := 60) only [↓State.drawn_evolves, ↓State.enterAcquire_evolves, ↓State.steer_evolves,
        ↓State.setTimeMode_evolves, ↓Evolves.set_time, ↓Evolves.foldl, ↓Evolves.foldl_fst, ↓Evolves.ite, ↓Evolves.ite_fst,
        ↓Evolves.elim_opt, Evolves.refl, Nat.le_add_right, implies_true, List.cons_subset, List.nil_subset, and_true, hp₀,
        hb₀];done)
    | (refine Evolves.foldl _ _ _ (fun u x => ?_) ?_ <;> try dsimp only)
    | (refine Evolves.foldl_fst _ _ _ (fun u x => ?_) ?_ <;> try dsimp only)
    | split)

theorem State.setDom_evolves {ps₀ : List Part} {b₀ : State} (s : State) (d : Nat) (x : PtpDomain)
    (hp₀ : [.time] ⊆ ps₀) (hb₀ : Evolves ps₀ b₀ s) :
    Evolves ps₀ b₀ (State.setDom s d x) := by
  simp only [List.cons_subset, List.nil_subset, and_true] at hp₀
  unfold State.setDom
  try dsimp only
  repeat' (first
    | focus (simp (maxDischargeDepth := 60) only [↓Evolves.set_time, ↓Evolves.foldl, ↓Evolves.foldl_fst, ↓Evolves.ite,
        ↓Evolves.ite_fst, ↓Evolves.elim_opt, Evolves.refl, Nat.le_add_right, implies_true, List.cons_subset, List.nil_subset,
        and_true, hp₀, hb₀];done)
    | (refine Evolves.foldl _ _ _ (fun u x => ?_) ?_ <;> try dsimp only)
    | (refine Evolves.foldl_fst _ _ _ (fun u x => ?_) ?_ <;> try dsimp only)
    | split)

theorem State.noteRestep_evolves {ps₀ : List Part} {b₀ : State} (s : State)
    (hp₀ : [.regs] ⊆ ps₀) (hb₀ : Evolves ps₀ b₀ s) :
    Evolves ps₀ b₀ (State.noteRestep s) := by
  simp only [List.cons_subset, List.nil_subset, and_true] at hp₀
  unfold State.noteRestep
  try dsimp only
  repeat' (first
    | focus (simp (maxDischargeDepth := 60) only [↓State.setFlag_evolves, ↓Evolves.foldl, ↓Evolves.foldl_fst, ↓Evolves.ite,
        ↓Evolves.ite_fst, ↓Evolves.elim_opt, Evolves.refl, Nat.le_add_right, implies_true, List.cons_subset, List.nil_subset,
        and_true, hp₀, hb₀];done)
    | (refine Evolves.foldl _ _ _ (fun u x => ?_) ?_ <;> try dsimp only)
    | (refine Evolves.foldl_fst _ _ _ (fun u x => ?_) ?_ <;> try dsimp only)
    | split)

theorem State.useDom_evolves {ps₀ : List Part} {b₀ : State} (s : State) (d : Nat)
    (hp₀ : [.regs, .time] ⊆ ps₀) (hb₀ : Evolves ps₀ b₀ s) :
    Evolves ps₀ b₀ (State.useDom s d) := by
  simp only [List.cons_subset, List.nil_subset, and_true] at hp₀
  unfold State.useDom
  try dsimp only
  repeat' (first
    | focus (simp (maxDischargeDepth := 60) only [↓State.setFld_evolves, ↓State.event_evolves, ↓Evolves.set_time, ↓Evolves.foldl,
        ↓Evolves.foldl_fst, ↓Evolves.ite, ↓Evolves.ite_fst, ↓Evolves.elim_opt, Evolves.refl, Nat.le_add_right, implies_true,
        List.cons_subset, List.nil_subset, and_true, hp₀, hb₀];done)
    | (refine Evolves.foldl _ _ _ (fun u x => ?_) ?_ <;> try dsimp only)
    | (refine Evolves.foldl_fst _ _ _ (fun u x => ?_) ?_ <;> try dsimp only)
    | split)

theorem State.chooseDom_evolves {ps₀ : List Part} {b₀ : State} (s : State)
    (hp₀ : [.regs, .time] ⊆ ps₀) (hb₀ : Evolves ps₀ b₀ s) :
    Evolves ps₀ b₀ (State.chooseDom s) := by
  simp only [List.cons_subset, List.nil_subset, and_true] at hp₀
  unfold State.chooseDom
  try dsimp only
  repeat' (first
    | focus (simp (maxDischargeDepth := 60) only [↓State.useDom_evolves, ↓State.sourceLost_evolves, ↓State.setFld_evolves,
        ↓Evolves.foldl, ↓Evolves.foldl_fst, ↓Evolves.ite, ↓Evolves.ite_fst, ↓Evolves.elim_opt, Evolves.refl, Nat.le_add_right,
        implies_true, List.cons_subset, List.nil_subset, and_true, hp₀, hb₀];done)
    | (refine Evolves.foldl _ _ _ (fun u x => ?_) ?_ <;> try dsimp only)
    | (refine Evolves.foldl_fst _ _ _ (fun u x => ?_) ?_ <;> try dsimp only)
    | split)

theorem State.updateDom_evolves {ps₀ : List Part} {b₀ : State} (s : State) (d : Nat)
    (hp₀ : [.regs, .time] ⊆ ps₀) (hb₀ : Evolves ps₀ b₀ s) :
    Evolves ps₀ b₀ (State.updateDom s d) := by
  simp only [List.cons_subset, List.nil_subset, and_true] at hp₀
  unfold State.updateDom
  try dsimp only
  repeat' (first
    | focus (simp (maxDischargeDepth := 60) only [↓State.setDom_evolves, ↓State.setFlag_evolves, ↓State.setFld_evolves,
        ↓State.event_evolves, ↓State.noteRestep_evolves, ↓State.chooseDom_evolves, ↓Evolves.foldl, ↓Evolves.foldl_fst,
        ↓Evolves.ite, ↓Evolves.ite_fst, ↓Evolves.elim_opt, Evolves.refl, Nat.le_add_right, implies_true, List.cons_subset,
        List.nil_subset, and_true, hp₀, hb₀];done)
    | (refine Evolves.foldl _ _ _ (fun u x => ?_) ?_ <;> try dsimp only)
    | (refine Evolves.foldl_fst _ _ _ (fun u x => ?_) ?_ <;> try dsimp only)
    | split)

theorem State.announce_evolves {ps₀ : List Part} {b₀ : State} (s : State) (p : Nat) (h : PtpHdr) (a : AnnounceMsg)
    (hp₀ : [.regs, .time] ⊆ ps₀) (hb₀ : Evolves ps₀ b₀ s) :
    Evolves ps₀ b₀ (State.announce s p h a) := by
  simp only [List.cons_subset, List.nil_subset, and_true] at hp₀
  unfold State.announce
  try dsimp only
  repeat' (first
    | focus (simp (maxDischargeDepth := 60) only [↓State.updateDom_evolves, ↓State.setDom_evolves, ↓Evolves.foldl,
        ↓Evolves.foldl_fst, ↓Evolves.ite, ↓Evolves.ite_fst, ↓Evolves.elim_opt, Evolves.refl, Nat.le_add_right, implies_true,
        List.cons_subset, List.nil_subset, and_true, hp₀, hb₀];done)
    | (refine Evolves.foldl _ _ _ (fun u x => ?_) ?_ <;> try dsimp only)
    | (refine Evolves.foldl_fst _ _ _ (fun u x => ?_) ?_ <;> try dsimp only)
    | split)

theorem execAnnounce_evolves (port : Nat) (h : PtpHdr) (a : AnnounceMsg) (s : State) :
    ∃ t₁, execAnnounce port h a s = .next t₁ ∧ Evolves [.regs, .time] s t₁ := by
  have hb₀ := Evolves.refl [.regs, .time] s
  unfold execAnnounce
  refine ⟨_, rfl, ?_⟩
  try dsimp only
  repeat' (first
    | focus (simp (maxDischargeDepth := 60) only [↓State.announce_evolves, ↓Evolves.foldl, ↓Evolves.foldl_fst, ↓Evolves.ite,
        ↓Evolves.ite_fst, ↓Evolves.elim_opt, Evolves.refl, Nat.le_add_right, implies_true, List.cons_subset, List.nil_subset,
        and_true, List.mem_cons, reduceCtorEq, true_or, or_true, false_or, or_false, hb₀];done)
    | (refine Evolves.foldl _ _ _ (fun u x => ?_) ?_ <;> try dsimp only)
    | (refine Evolves.foldl_fst _ _ _ (fun u x => ?_) ?_ <;> try dsimp only)
    | split)

theorem State.discardExchange_evolves {ps₀ : List Part} {b₀ : State} (s : State) (d : Nat) (lost : Bool)
    (hp₀ : [.regs, .time] ⊆ ps₀) (hb₀ : Evolves ps₀ b₀ s) :
    Evolves ps₀ b₀ (State.discardExchange s d lost) := by
  simp only [List.cons_subset, List.nil_subset, and_true] at hp₀
  unfold State.discardExchange
  try dsimp only
  repeat' (first
    | focus (simp (maxDischargeDepth := 60) only [↓State.bump_evolves, ↓State.setDom_evolves, ↓State.event_evolves,
        ↓Evolves.foldl, ↓Evolves.foldl_fst, ↓Evolves.ite, ↓Evolves.ite_fst, ↓Evolves.elim_opt, Evolves.refl, Nat.le_add_right,
        implies_true, List.cons_subset, List.nil_subset, and_true, hp₀, hb₀];done)
    | (refine Evolves.foldl _ _ _ (fun u x => ?_) ?_ <;> try dsimp only)
    | (refine Evolves.foldl_fst _ _ _ (fun u x => ?_) ?_ <;> try dsimp only)
    | split)

theorem State.sync_evolves {ps₀ : List Part} {b₀ : State} (s : State) (p : Nat) (h : PtpHdr) (origin : TimeField)
    (hp₀ : [.regs, .net0, .net1, .time] ⊆ ps₀) (hb₀ : Evolves ps₀ b₀ s) :
    Evolves ps₀ b₀ (State.sync s p h origin) := by
  simp only [List.cons_subset, List.nil_subset, and_true] at hp₀
  unfold State.sync
  try dsimp only
  repeat' (first
    | focus (simp (maxDischargeDepth := 60) only [↓State.takeStamp_evolves, ↓State.setDom_evolves, ↓State.discardExchange_evolves,
        ↓Evolves.foldl, ↓Evolves.foldl_fst, ↓Evolves.ite, ↓Evolves.ite_fst, ↓Evolves.elim_opt, Evolves.refl, Nat.le_add_right,
        implies_true, List.cons_subset, List.nil_subset, and_true, hp₀, hb₀];done)
    | (refine Evolves.foldl _ _ _ (fun u x => ?_) ?_ <;> try dsimp only)
    | (refine Evolves.foldl_fst _ _ _ (fun u x => ?_) ?_ <;> try dsimp only)
    | split)

theorem execSync_evolves (port : Nat) (h : PtpHdr) (origin : TimeField) (s : State) :
    ∃ t₁, execSync port h origin s = .next t₁ ∧ Evolves [.regs, .net0, .net1, .time] s t₁ := by
  have hb₀ := Evolves.refl [.regs, .net0, .net1, .time] s
  unfold execSync
  refine ⟨_, rfl, ?_⟩
  try dsimp only
  repeat' (first
    | focus (simp (maxDischargeDepth := 60) only [↓State.sync_evolves, ↓Evolves.foldl, ↓Evolves.foldl_fst, ↓Evolves.ite,
        ↓Evolves.ite_fst, ↓Evolves.elim_opt, Evolves.refl, Nat.le_add_right, implies_true, List.cons_subset, List.nil_subset,
        and_true, List.mem_cons, reduceCtorEq, true_or, or_true, false_or, or_false, hb₀];done)
    | (refine Evolves.foldl _ _ _ (fun u x => ?_) ?_ <;> try dsimp only)
    | (refine Evolves.foldl_fst _ _ _ (fun u x => ?_) ?_ <;> try dsimp only)
    | split)

theorem State.followUp_evolves {ps₀ : List Part} {b₀ : State} (s : State) (p : Nat) (h : PtpHdr) (origin : TimeField)
    (hp₀ : [.time] ⊆ ps₀) (hb₀ : Evolves ps₀ b₀ s) :
    Evolves ps₀ b₀ (State.followUp s p h origin) := by
  simp only [List.cons_subset, List.nil_subset, and_true] at hp₀
  unfold State.followUp
  try dsimp only
  repeat' (first
    | focus (simp (maxDischargeDepth := 60) only [↓State.setDom_evolves, ↓Evolves.foldl, ↓Evolves.foldl_fst, ↓Evolves.ite,
        ↓Evolves.ite_fst, ↓Evolves.elim_opt, Evolves.refl, Nat.le_add_right, implies_true, List.cons_subset, List.nil_subset,
        and_true, hp₀, hb₀];done)
    | (refine Evolves.foldl _ _ _ (fun u x => ?_) ?_ <;> try dsimp only)
    | (refine Evolves.foldl_fst _ _ _ (fun u x => ?_) ?_ <;> try dsimp only)
    | split)

theorem execFollowUp_evolves (port : Nat) (h : PtpHdr) (origin : TimeField) (s : State) :
    ∃ t₁, execFollowUp port h origin s = .next t₁ ∧ Evolves [.time] s t₁ := by
  have hb₀ := Evolves.refl [.time] s
  unfold execFollowUp
  refine ⟨_, rfl, ?_⟩
  try dsimp only
  repeat' (first
    | focus (simp (maxDischargeDepth := 60) only [↓State.followUp_evolves, ↓Evolves.foldl, ↓Evolves.foldl_fst, ↓Evolves.ite,
        ↓Evolves.ite_fst, ↓Evolves.elim_opt, Evolves.refl, Nat.le_add_right, implies_true, List.cons_subset, List.nil_subset,
        and_true, List.mem_cons, reduceCtorEq, true_or, or_true, false_or, or_false, hb₀];done)
    | (refine Evolves.foldl _ _ _ (fun u x => ?_) ?_ <;> try dsimp only)
    | (refine Evolves.foldl_fst _ _ _ (fun u x => ?_) ?_ <;> try dsimp only)
    | split)

theorem State.delayReqSend_evolves {ps₀ : List Part} {b₀ : State} (s : State) (d : Nat)
    (hp₀ : [.regs, .cycles, .wall, .sent, .net0, .net1, .time] ⊆ ps₀) (hb₀ : Evolves ps₀ b₀ s) :
    Evolves ps₀ b₀ (State.delayReqSend s d) := by
  simp only [List.cons_subset, List.nil_subset, and_true] at hp₀
  unfold State.delayReqSend
  try dsimp only
  repeat' (first
    | focus (simp (maxDischargeDepth := 60) only [↓State.untilCycle_evolves, ↓State.setDom_evolves, ↓State.send_evolves,
        ↓State.addStamp_evolves, ↓Evolves.foldl, ↓Evolves.foldl_fst, ↓Evolves.ite, ↓Evolves.ite_fst, ↓Evolves.elim_opt,
        Evolves.refl, Nat.le_add_right, implies_true, List.cons_subset, List.nil_subset, and_true, hp₀, hb₀];done)
    | (refine Evolves.foldl _ _ _ (fun u x => ?_) ?_ <;> try dsimp only)
    | (refine Evolves.foldl_fst _ _ _ (fun u x => ?_) ?_ <;> try dsimp only)
    | split)

theorem execDelayReqSend_evolves (dom : Nat) (s : State) :
    ∃ t₁, execDelayReqSend dom s = .next t₁ ∧ Evolves [.regs, .cycles, .wall, .sent, .net0, .net1, .time] s t₁ := by
  have hb₀ := Evolves.refl [.regs, .cycles, .wall, .sent, .net0, .net1, .time] s
  unfold execDelayReqSend
  refine ⟨_, rfl, ?_⟩
  try dsimp only
  repeat' (first
    | focus (simp (maxDischargeDepth := 60) only [↓State.delayReqSend_evolves, ↓Evolves.foldl, ↓Evolves.foldl_fst, ↓Evolves.ite,
        ↓Evolves.ite_fst, ↓Evolves.elim_opt, Evolves.refl, Nat.le_add_right, implies_true, List.cons_subset, List.nil_subset,
        and_true, List.mem_cons, reduceCtorEq, true_or, or_true, false_or, or_false, hb₀];done)
    | (refine Evolves.foldl _ _ _ (fun u x => ?_) ?_ <;> try dsimp only)
    | (refine Evolves.foldl_fst _ _ _ (fun u x => ?_) ?_ <;> try dsimp only)
    | split)

theorem State.exchange_evolves {ps₀ : List Part} {b₀ : State} (s : State) (d : Nat) (offset delay : Int)
    (hp₀ : [.regs, .fresh, .cycles, .wall, .flip, .sched, .time] ⊆ ps₀) (hb₀ : Evolves ps₀ b₀ s) :
    Evolves ps₀ b₀ (State.exchange s d offset delay) := by
  simp only [List.cons_subset, List.nil_subset, and_true] at hp₀
  unfold State.exchange
  try dsimp only
  repeat' (first
    | focus (simp (maxDischargeDepth := 60) only [↓State.wrapInc_evolves, ↓State.setDom_evolves, ↓State.drawn_evolves,
        ↓State.setFld_evolves, ↓State.updateDom_evolves, ↓State.noteRestep_evolves, ↓State.servoSample_evolves, ↓Evolves.set_time,
        ↓Evolves.foldl, ↓Evolves.foldl_fst, ↓Evolves.ite, ↓Evolves.ite_fst, ↓Evolves.elim_opt, Evolves.refl, Nat.le_add_right,
        implies_true, List.cons_subset, List.nil_subset, and_true, hp₀, hb₀];done)
    | (refine Evolves.foldl _ _ _ (fun u x => ?_) ?_ <;> try dsimp only)
    | (refine Evolves.foldl_fst _ _ _ (fun u x => ?_) ?_ <;> try dsimp only)
    | split)

theorem State.delayResp_evolves {ps₀ : List Part} {b₀ : State} (s : State) (p : Nat) (h : PtpHdr) (receive : TimeField)
    (hp₀ : [.regs, .fresh, .cycles, .wall, .flip, .sched, .net0, .net1, .time] ⊆ ps₀) (hb₀ : Evolves ps₀ b₀ s) :
    Evolves ps₀ b₀ (State.delayResp s p h receive) := by
  simp only [List.cons_subset, List.nil_subset, and_true] at hp₀
  unfold State.delayResp
  try dsimp only
  repeat' (first
    | focus (simp (maxDischargeDepth := 60) only [↓State.takeStamp_evolves, ↓State.setDom_evolves, ↓State.drawn_evolves,
        ↓State.discardExchange_evolves, ↓State.exchange_evolves, ↓Evolves.foldl, ↓Evolves.foldl_fst, ↓Evolves.ite,
        ↓Evolves.ite_fst, ↓Evolves.elim_opt, Evolves.refl, Nat.le_add_right, implies_true, List.cons_subset, List.nil_subset,
        and_true, hp₀, hb₀];done)
    | (refine Evolves.foldl _ _ _ (fun u x => ?_) ?_ <;> try dsimp only)
    | (refine Evolves.foldl_fst _ _ _ (fun u x => ?_) ?_ <;> try dsimp only)
    | split)

theorem execDelayResp_evolves (port : Nat) (h : PtpHdr) (receive : TimeField) (mine : Bool) (s : State) :
    ∃ t₁, execDelayResp port h receive mine s = .next t₁ ∧ Evolves [.regs, .fresh, .cycles, .wall, .flip, .sched, .net0, .net1, .time] s t₁ := by
  have hb₀ := Evolves.refl [.regs, .fresh, .cycles, .wall, .flip, .sched, .net0, .net1, .time] s
  unfold execDelayResp
  refine ⟨_, rfl, ?_⟩
  try dsimp only
  repeat' (first
    | focus (simp (maxDischargeDepth := 60) only [↓State.delayResp_evolves, ↓Evolves.foldl, ↓Evolves.foldl_fst, ↓Evolves.ite,
        ↓Evolves.ite_fst, ↓Evolves.elim_opt, Evolves.refl, Nat.le_add_right, implies_true, List.cons_subset, List.nil_subset,
        and_true, List.mem_cons, reduceCtorEq, true_or, or_true, false_or, or_false, hb₀];done)
    | (refine Evolves.foldl _ _ _ (fun u x => ?_) ?_ <;> try dsimp only)
    | (refine Evolves.foldl_fst _ _ _ (fun u x => ?_) ?_ <;> try dsimp only)
    | split)

theorem State.announceTimeout_evolves {ps₀ : List Part} {b₀ : State} (s : State) (d : Nat)
    (hp₀ : [.regs, .cycles, .wall, .time] ⊆ ps₀) (hb₀ : Evolves ps₀ b₀ s) :
    Evolves ps₀ b₀ (State.announceTimeout s d) := by
  simp only [List.cons_subset, List.nil_subset, and_true] at hp₀
  unfold State.announceTimeout
  try dsimp only
  repeat' (first
    | focus (simp (maxDischargeDepth := 60) only [↓State.untilCycle_evolves, ↓State.updateDom_evolves, ↓State.setDom_evolves,
        ↓Evolves.foldl, ↓Evolves.foldl_fst, ↓Evolves.ite, ↓Evolves.ite_fst, ↓Evolves.elim_opt, Evolves.refl, Nat.le_add_right,
        implies_true, List.cons_subset, List.nil_subset, and_true, hp₀, hb₀];done)
    | (refine Evolves.foldl _ _ _ (fun u x => ?_) ?_ <;> try dsimp only)
    | (refine Evolves.foldl_fst _ _ _ (fun u x => ?_) ?_ <;> try dsimp only)
    | split)

theorem execAnnounceTimeout_evolves (dom : Nat) (s : State) :
    ∃ t₁, execAnnounceTimeout dom s = .next t₁ ∧ Evolves [.regs, .cycles, .wall, .time] s t₁ := by
  have hb₀ := Evolves.refl [.regs, .cycles, .wall, .time] s
  unfold execAnnounceTimeout
  refine ⟨_, rfl, ?_⟩
  try dsimp only
  repeat' (first
    | focus (simp (maxDischargeDepth := 60) only [↓State.announceTimeout_evolves, ↓Evolves.foldl, ↓Evolves.foldl_fst,
        ↓Evolves.ite, ↓Evolves.ite_fst, ↓Evolves.elim_opt, Evolves.refl, Nat.le_add_right, implies_true, List.cons_subset,
        List.nil_subset, and_true, List.mem_cons, reduceCtorEq, true_or, or_true, false_or, or_false, hb₀];done)
    | (refine Evolves.foldl _ _ _ (fun u x => ?_) ?_ <;> try dsimp only)
    | (refine Evolves.foldl_fst _ _ _ (fun u x => ?_) ?_ <;> try dsimp only)
    | split)

theorem State.exchangeLapse_evolves {ps₀ : List Part} {b₀ : State} (s : State) (d : Nat)
    (hp₀ : [.regs, .cycles, .wall, .time] ⊆ ps₀) (hb₀ : Evolves ps₀ b₀ s) :
    Evolves ps₀ b₀ (State.exchangeLapse s d) := by
  simp only [List.cons_subset, List.nil_subset, and_true] at hp₀
  unfold State.exchangeLapse
  try dsimp only
  repeat' (first
    | focus (simp (maxDischargeDepth := 60) only [↓State.updateDom_evolves, ↓State.untilCycle_evolves, ↓Evolves.foldl,
        ↓Evolves.foldl_fst, ↓Evolves.ite, ↓Evolves.ite_fst, ↓Evolves.elim_opt, Evolves.refl, Nat.le_add_right, implies_true,
        List.cons_subset, List.nil_subset, and_true, hp₀, hb₀];done)
    | (refine Evolves.foldl _ _ _ (fun u x => ?_) ?_ <;> try dsimp only)
    | (refine Evolves.foldl_fst _ _ _ (fun u x => ?_) ?_ <;> try dsimp only)
    | split)

theorem execValidExchangeLapse_evolves (dom : Nat) (s : State) :
    ∃ t₁, execValidExchangeLapse dom s = .next t₁ ∧ Evolves [.regs, .cycles, .wall, .time] s t₁ := by
  have hb₀ := Evolves.refl [.regs, .cycles, .wall, .time] s
  unfold execValidExchangeLapse
  refine ⟨_, rfl, ?_⟩
  try dsimp only
  repeat' (first
    | focus (simp (maxDischargeDepth := 60) only [↓State.exchangeLapse_evolves, ↓Evolves.foldl, ↓Evolves.foldl_fst, ↓Evolves.ite,
        ↓Evolves.ite_fst, ↓Evolves.elim_opt, Evolves.refl, Nat.le_add_right, implies_true, List.cons_subset, List.nil_subset,
        and_true, List.mem_cons, reduceCtorEq, true_or, or_true, false_or, or_false, hb₀];done)
    | (refine Evolves.foldl _ _ _ (fun u x => ?_) ?_ <;> try dsimp only)
    | (refine Evolves.foldl_fst _ _ _ (fun u x => ?_) ?_ <;> try dsimp only)
    | split)

theorem State.revert_evolves {ps₀ : List Part} {b₀ : State} (s : State)
    (hp₀ : [.regs, .cycles, .wall, .time] ⊆ ps₀) (hb₀ : Evolves ps₀ b₀ s) :
    Evolves ps₀ b₀ (State.revert s) := by
  simp only [List.cons_subset, List.nil_subset, and_true] at hp₀
  unfold State.revert
  try dsimp only
  repeat' (first
    | focus (simp (maxDischargeDepth := 60) only [↓State.untilCycle_evolves, ↓State.useDom_evolves, ↓Evolves.foldl,
        ↓Evolves.foldl_fst, ↓Evolves.ite, ↓Evolves.ite_fst, ↓Evolves.elim_opt, Evolves.refl, Nat.le_add_right, implies_true,
        List.cons_subset, List.nil_subset, and_true, hp₀, hb₀];done)
    | (refine Evolves.foldl _ _ _ (fun u x => ?_) ?_ <;> try dsimp only)
    | (refine Evolves.foldl_fst _ _ _ (fun u x => ?_) ?_ <;> try dsimp only)
    | split)

theorem execRevertTimer_evolves (s : State) :
    ∃ t₁, execRevertTimer s = .next t₁ ∧ Evolves [.regs, .cycles, .wall, .time] s t₁ := by
  have hb₀ := Evolves.refl [.regs, .cycles, .wall, .time] s
  unfold execRevertTimer
  refine ⟨_, rfl, ?_⟩
  try dsimp only
  repeat' (first
    | focus (simp (maxDischargeDepth := 60) only [↓State.revert_evolves, ↓Evolves.foldl, ↓Evolves.foldl_fst, ↓Evolves.ite,
        ↓Evolves.ite_fst, ↓Evolves.elim_opt, Evolves.refl, Nat.le_add_right, implies_true, List.cons_subset, List.nil_subset,
        and_true, List.mem_cons, reduceCtorEq, true_or, or_true, false_or, or_false, hb₀];done)
    | (refine Evolves.foldl _ _ _ (fun u x => ?_) ?_ <;> try dsimp only)
    | (refine Evolves.foldl_fst _ _ _ (fun u x => ?_) ?_ <;> try dsimp only)
    | split)

theorem State.refEdge_evolves {ps₀ : List Part} {b₀ : State} (s : State)
    (hp₀ : [.regs, .fresh, .cycles, .wall, .flip, .sched, .time] ⊆ ps₀) (hb₀ : Evolves ps₀ b₀ s) :
    Evolves ps₀ b₀ (State.refEdge s) := by
  simp only [List.cons_subset, List.nil_subset, and_true] at hp₀
  unfold State.refEdge
  try dsimp only
  repeat' (first
    | focus (simp (maxDischargeDepth := 60) only [↓State.setTimeMode_evolves, ↓State.setFld_evolves, ↓State.applyStep_evolves,
        ↓State.noteRestep_evolves, ↓State.servoSample_evolves, ↓Evolves.set_wall, ↓Evolves.set_time, ↓Evolves.set_wall_time,
        ↓Evolves.foldl, ↓Evolves.foldl_fst, ↓Evolves.ite, ↓Evolves.ite_fst, ↓Evolves.elim_opt, Evolves.refl, Nat.le_add_right,
        implies_true, List.cons_subset, List.nil_subset, and_true, hp₀, hb₀];done)
    | (refine Evolves.foldl _ _ _ (fun u x => ?_) ?_ <;> try dsimp only)
    | (refine Evolves.foldl_fst _ _ _ (fun u x => ?_) ?_ <;> try dsimp only)
    | split)

theorem execRef1ppsEdge_evolves (s : State) :
    ∃ t₁, execRef1ppsEdge s = .next t₁ ∧ Evolves [.regs, .fresh, .cycles, .wall, .flip, .sched, .time] s t₁ := by
  have hb₀ := Evolves.refl [.regs, .fresh, .cycles, .wall, .flip, .sched, .time] s
  unfold execRef1ppsEdge
  refine ⟨_, rfl, ?_⟩
  try dsimp only
  repeat' (first
    | focus (simp (maxDischargeDepth := 60) only [↓State.refEdge_evolves, ↓Evolves.foldl, ↓Evolves.foldl_fst, ↓Evolves.ite,
        ↓Evolves.ite_fst, ↓Evolves.elim_opt, Evolves.refl, Nat.le_add_right, implies_true, List.cons_subset, List.nil_subset,
        and_true, List.mem_cons, reduceCtorEq, true_or, or_true, false_or, or_false, hb₀];done)
    | (refine Evolves.foldl _ _ _ (fun u x => ?_) ?_ <;> try dsimp only)
    | (refine Evolves.foldl_fst _ _ _ (fun u x => ?_) ?_ <;> try dsimp only)
    | split)

theorem State.refLoss_evolves {ps₀ : List Part} {b₀ : State} (s : State)
    (hp₀ : [.regs, .cycles, .wall, .time] ⊆ ps₀) (hb₀ : Evolves ps₀ b₀ s) :
    Evolves ps₀ b₀ (State.refLoss s) := by
  simp only [List.cons_subset, List.nil_subset, and_true] at hp₀
  unfold State.refLoss
  try dsimp only
  repeat' (first
    | focus (simp (maxDischargeDepth := 60) only [↓State.untilCycle_evolves, ↓State.sourceLost_evolves, ↓State.event_evolves,
        ↓Evolves.foldl, ↓Evolves.foldl_fst, ↓Evolves.ite, ↓Evolves.ite_fst, ↓Evolves.elim_opt, Evolves.refl, Nat.le_add_right,
        implies_true, List.cons_subset, List.nil_subset, and_true, hp₀, hb₀];done)
    | (refine Evolves.foldl _ _ _ (fun u x => ?_) ?_ <;> try dsimp only)
    | (refine Evolves.foldl_fst _ _ _ (fun u x => ?_) ?_ <;> try dsimp only)
    | split)

theorem execRefLoss_evolves (s : State) :
    ∃ t₁, execRefLoss s = .next t₁ ∧ Evolves [.regs, .cycles, .wall, .time] s t₁ := by
  have hb₀ := Evolves.refl [.regs, .cycles, .wall, .time] s
  unfold execRefLoss
  refine ⟨_, rfl, ?_⟩
  try dsimp only
  repeat' (first
    | focus (simp (maxDischargeDepth := 60) only [↓State.refLoss_evolves, ↓Evolves.foldl, ↓Evolves.foldl_fst, ↓Evolves.ite,
        ↓Evolves.ite_fst, ↓Evolves.elim_opt, Evolves.refl, Nat.le_add_right, implies_true, List.cons_subset, List.nil_subset,
        and_true, List.mem_cons, reduceCtorEq, true_or, or_true, false_or, or_false, hb₀];done)
    | (refine Evolves.foldl _ _ _ (fun u x => ?_) ?_ <;> try dsimp only)
    | (refine Evolves.foldl_fst _ _ _ (fun u x => ?_) ?_ <;> try dsimp only)
    | split)

theorem State.chainLoss_evolves {ps₀ : List Part} {b₀ : State} (s : State)
    (hp₀ : [.regs, .cycles, .wall, .time] ⊆ ps₀) (hb₀ : Evolves ps₀ b₀ s) :
    Evolves ps₀ b₀ (State.chainLoss s) := by
  simp only [List.cons_subset, List.nil_subset, and_true] at hp₀
  unfold State.chainLoss
  try dsimp only
  repeat' (first
    | focus (simp (maxDischargeDepth := 60) only [↓State.sourceLost_evolves, ↓State.untilCycle_evolves, ↓Evolves.foldl,
        ↓Evolves.foldl_fst, ↓Evolves.ite, ↓Evolves.ite_fst, ↓Evolves.elim_opt, Evolves.refl, Nat.le_add_right, implies_true,
        List.cons_subset, List.nil_subset, and_true, hp₀, hb₀];done)
    | (refine Evolves.foldl _ _ _ (fun u x => ?_) ?_ <;> try dsimp only)
    | (refine Evolves.foldl_fst _ _ _ (fun u x => ?_) ?_ <;> try dsimp only)
    | split)

theorem execChainTimeLoss_evolves (s : State) :
    ∃ t₁, execChainTimeLoss s = .next t₁ ∧ Evolves [.regs, .cycles, .wall, .time] s t₁ := by
  have hb₀ := Evolves.refl [.regs, .cycles, .wall, .time] s
  unfold execChainTimeLoss
  refine ⟨_, rfl, ?_⟩
  try dsimp only
  repeat' (first
    | focus (simp (maxDischargeDepth := 60) only [↓State.chainLoss_evolves, ↓Evolves.foldl, ↓Evolves.foldl_fst, ↓Evolves.ite,
        ↓Evolves.ite_fst, ↓Evolves.elim_opt, Evolves.refl, Nat.le_add_right, implies_true, List.cons_subset, List.nil_subset,
        and_true, List.mem_cons, reduceCtorEq, true_or, or_true, false_or, or_false, hb₀];done)
    | (refine Evolves.foldl _ _ _ (fun u x => ?_) ?_ <;> try dsimp only)
    | (refine Evolves.foldl_fst _ _ _ (fun u x => ?_) ?_ <;> try dsimp only)
    | split)

theorem State.capture_evolves {ps₀ : List Part} {b₀ : State} (s : State)
    (hp₀ : [.regs, .cycles, .wall] ⊆ ps₀) (hb₀ : Evolves ps₀ b₀ s) :
    Evolves ps₀ b₀ (State.capture s) := by
  simp only [List.cons_subset, List.nil_subset, and_true] at hp₀
  unfold State.capture
  try dsimp only
  repeat' (first
    | focus (simp (maxDischargeDepth := 60) only [↓State.ticks_evolves, ↓State.setFld_evolves, ↓Evolves.foldl, ↓Evolves.foldl_fst,
        ↓Evolves.ite, ↓Evolves.ite_fst, ↓Evolves.elim_opt, Evolves.refl, Nat.le_add_right, implies_true, List.cons_subset,
        List.nil_subset, and_true, hp₀, hb₀];done)
    | (refine Evolves.foldl _ _ _ (fun u x => ?_) ?_ <;> try dsimp only)
    | (refine Evolves.foldl_fst _ _ _ (fun u x => ?_) ?_ <;> try dsimp only)
    | split)

theorem execPtpCapture_evolves (s : State) :
    ∃ t₁, execPtpCapture s = .next t₁ ∧ Evolves [.regs, .cycles, .wall] s t₁ := by
  have hb₀ := Evolves.refl [.regs, .cycles, .wall] s
  unfold execPtpCapture
  refine ⟨_, rfl, ?_⟩
  try dsimp only
  repeat' (first
    | focus (simp (maxDischargeDepth := 60) only [↓State.capture_evolves, ↓Evolves.foldl, ↓Evolves.foldl_fst, ↓Evolves.ite,
        ↓Evolves.ite_fst, ↓Evolves.elim_opt, Evolves.refl, Nat.le_add_right, implies_true, List.cons_subset, List.nil_subset,
        and_true, List.mem_cons, reduceCtorEq, true_or, or_true, false_or, or_false, hb₀];done)
    | (refine Evolves.foldl _ _ _ (fun u x => ?_) ?_ <;> try dsimp only)
    | (refine Evolves.foldl_fst _ _ _ (fun u x => ?_) ?_ <;> try dsimp only)
    | split)

theorem State.setEvtOut_evolves {ps₀ : List Part} {b₀ : State} (s : State) (n : Nat) (o : EvtOut)
    (hp₀ : [.time] ⊆ ps₀) (hb₀ : Evolves ps₀ b₀ s) :
    Evolves ps₀ b₀ (State.setEvtOut s n o) := by
  simp only [List.cons_subset, List.nil_subset, and_true] at hp₀
  unfold State.setEvtOut
  try dsimp only
  repeat' (first
    | focus (simp (maxDischargeDepth := 60) only [↓Evolves.set_time, ↓Evolves.foldl, ↓Evolves.foldl_fst, ↓Evolves.ite,
        ↓Evolves.ite_fst, ↓Evolves.elim_opt, Evolves.refl, Nat.le_add_right, implies_true, List.cons_subset, List.nil_subset,
        and_true, hp₀, hb₀];done)
    | (refine Evolves.foldl _ _ _ (fun u x => ?_) ?_ <;> try dsimp only)
    | (refine Evolves.foldl_fst _ _ _ (fun u x => ?_) ?_ <;> try dsimp only)
    | split)

theorem State.pulseStart_evolves {ps₀ : List Part} {b₀ : State} (s : State) (n : Nat)
    (hp₀ : [.regs, .cycles, .wall, .time] ⊆ ps₀) (hb₀ : Evolves ps₀ b₀ s) :
    Evolves ps₀ b₀ (State.pulseStart s n) := by
  simp only [List.cons_subset, List.nil_subset, and_true] at hp₀
  unfold State.pulseStart
  try dsimp only
  repeat' (first
    | focus (simp (maxDischargeDepth := 60) only [↓State.untilWall_evolves, ↓State.wrapInc_evolves, ↓State.setEvtOut_evolves,
        ↓Evolves.foldl, ↓Evolves.foldl_fst, ↓Evolves.ite, ↓Evolves.ite_fst, ↓Evolves.elim_opt, Evolves.refl, Nat.le_add_right,
        implies_true, List.cons_subset, List.nil_subset, and_true, hp₀, hb₀];done)
    | (refine Evolves.foldl _ _ _ (fun u x => ?_) ?_ <;> try dsimp only)
    | (refine Evolves.foldl_fst _ _ _ (fun u x => ?_) ?_ <;> try dsimp only)
    | split)

theorem execEvtPulseStart_evolves (out : Nat) (s : State) :
    ∃ t₁, execEvtPulseStart out s = .next t₁ ∧ Evolves [.regs, .cycles, .wall, .time] s t₁ := by
  have hb₀ := Evolves.refl [.regs, .cycles, .wall, .time] s
  unfold execEvtPulseStart
  refine ⟨_, rfl, ?_⟩
  try dsimp only
  repeat' (first
    | focus (simp (maxDischargeDepth := 60) only [↓State.pulseStart_evolves, ↓Evolves.foldl, ↓Evolves.foldl_fst, ↓Evolves.ite,
        ↓Evolves.ite_fst, ↓Evolves.elim_opt, Evolves.refl, Nat.le_add_right, implies_true, List.cons_subset, List.nil_subset,
        and_true, List.mem_cons, reduceCtorEq, true_or, or_true, false_or, or_false, hb₀];done)
    | (refine Evolves.foldl _ _ _ (fun u x => ?_) ?_ <;> try dsimp only)
    | (refine Evolves.foldl_fst _ _ _ (fun u x => ?_) ?_ <;> try dsimp only)
    | split)

theorem State.pulseEnd_evolves {ps₀ : List Part} {b₀ : State} (s : State) (n : Nat)
    (hp₀ : [.cycles, .wall, .time] ⊆ ps₀) (hb₀ : Evolves ps₀ b₀ s) :
    Evolves ps₀ b₀ (State.pulseEnd s n) := by
  simp only [List.cons_subset, List.nil_subset, and_true] at hp₀
  unfold State.pulseEnd
  try dsimp only
  repeat' (first
    | focus (simp (maxDischargeDepth := 60) only [↓State.setEvtOut_evolves, ↓State.untilWall_evolves, ↓Evolves.foldl,
        ↓Evolves.foldl_fst, ↓Evolves.ite, ↓Evolves.ite_fst, ↓Evolves.elim_opt, Evolves.refl, Nat.le_add_right, implies_true,
        List.cons_subset, List.nil_subset, and_true, hp₀, hb₀];done)
    | (refine Evolves.foldl _ _ _ (fun u x => ?_) ?_ <;> try dsimp only)
    | (refine Evolves.foldl_fst _ _ _ (fun u x => ?_) ?_ <;> try dsimp only)
    | split)

theorem execEvtPulseEnd_evolves (out : Nat) (s : State) :
    ∃ t₁, execEvtPulseEnd out s = .next t₁ ∧ Evolves [.cycles, .wall, .time] s t₁ := by
  have hb₀ := Evolves.refl [.cycles, .wall, .time] s
  unfold execEvtPulseEnd
  refine ⟨_, rfl, ?_⟩
  try dsimp only
  repeat' (first
    | focus (simp (maxDischargeDepth := 60) only [↓State.pulseEnd_evolves, ↓Evolves.foldl, ↓Evolves.foldl_fst, ↓Evolves.ite,
        ↓Evolves.ite_fst, ↓Evolves.elim_opt, Evolves.refl, Nat.le_add_right, implies_true, List.cons_subset, List.nil_subset,
        and_true, List.mem_cons, reduceCtorEq, true_or, or_true, false_or, or_false, hb₀];done)
    | (refine Evolves.foldl _ _ _ (fun u x => ?_) ?_ <;> try dsimp only)
    | (refine Evolves.foldl_fst _ _ _ (fun u x => ?_) ?_ <;> try dsimp only)
    | split)

theorem State.evtChanged_evolves {ps₀ : List Part} {b₀ : State} (s : State) (n : Nat)
    (hp₀ : [.regs, .time] ⊆ ps₀) (hb₀ : Evolves ps₀ b₀ s) :
    Evolves ps₀ b₀ (State.evtChanged s n) := by
  simp only [List.cons_subset, List.nil_subset, and_true] at hp₀
  unfold State.evtChanged
  try dsimp only
  repeat' (first
    | focus (simp (maxDischargeDepth := 60) only [↓State.setEvtOut_evolves, ↓State.event_evolves, ↓Evolves.foldl,
        ↓Evolves.foldl_fst, ↓Evolves.ite, ↓Evolves.ite_fst, ↓Evolves.elim_opt, Evolves.refl, Nat.le_add_right, implies_true,
        List.cons_subset, List.nil_subset, and_true, hp₀, hb₀];done)
    | (refine Evolves.foldl _ _ _ (fun u x => ?_) ?_ <;> try dsimp only)
    | (refine Evolves.foldl_fst _ _ _ (fun u x => ?_) ?_ <;> try dsimp only)
    | split)

theorem State.sourceChanged_evolves {ps₀ : List Part} {b₀ : State} (s : State)
    (hp₀ : [.regs, .time] ⊆ ps₀) (hb₀ : Evolves ps₀ b₀ s) :
    Evolves ps₀ b₀ (State.sourceChanged s) := by
  simp only [List.cons_subset, List.nil_subset, and_true] at hp₀
  unfold State.sourceChanged
  try dsimp only
  repeat' (first
    | focus (simp (maxDischargeDepth := 60) only [↓State.chooseDom_evolves, ↓State.setFld_evolves, ↓Evolves.set_time,
        ↓Evolves.foldl, ↓Evolves.foldl_fst, ↓Evolves.ite, ↓Evolves.ite_fst, ↓Evolves.elim_opt, Evolves.refl, Nat.le_add_right,
        implies_true, List.cons_subset, List.nil_subset, and_true, hp₀, hb₀];done)
    | (refine Evolves.foldl _ _ _ (fun u x => ?_) ?_ <;> try dsimp only)
    | (refine Evolves.foldl_fst _ _ _ (fun u x => ?_) ?_ <;> try dsimp only)
    | split)

end Sys2Proof.Machine
end

