-- ==== Sys2Proof/Laws/EvolveVideo.lean ====
section
/-! SUPPORT. What the operations of Machine/Video.lean keep (Evolves). -/

set_option linter.unusedSimpArgs false
set_option linter.unreachableTactic false
set_option linter.unusedTactic false
set_option linter.unusedVariables false

namespace Sys2Proof.Machine

theorem State.setSrc_evolves {ps₀ : List Part} {b₀ : State} (s : State) (i : Nat) (x : SrcState)
    (hp₀ : [.video] ⊆ ps₀) (hb₀ : Evolves ps₀ b₀ s) :
    Evolves ps₀ b₀ (State.setSrc s i x) := by
  simp only [List.cons_subset, List.nil_subset, and_true] at hp₀
  unfold State.setSrc
  try dsimp only
  repeat' (first
    | focus (simp (maxDischargeDepth := 60) only [↓Evolves.set_video, ↓Evolves.foldl, ↓Evolves.foldl_fst, ↓Evolves.ite,
        ↓Evolves.ite_fst, ↓Evolves.elim_opt, Evolves.refl, Nat.le_add_right, implies_true, List.cons_subset, List.nil_subset,
        and_true, hp₀, hb₀];done)
    | (refine Evolves.foldl _ _ _ (fun u x => ?_) ?_ <;> try dsimp only)
    | (refine Evolves.foldl_fst _ _ _ (fun u x => ?_) ?_ <;> try dsimp only)
    | split)

theorem State.setSrcMode_evolves {ps₀ : List Part} {b₀ : State} (s : State) (i : Nat) (m : SrcMode)
    (hp₀ : [.regs, .video] ⊆ ps₀) (hb₀ : Evolves ps₀ b₀ s) :
    Evolves ps₀ b₀ (State.setSrcMode s i m) := by
  simp only [List.cons_subset, List.nil_subset, and_true] at hp₀
  unfold State.setSrcMode
  try dsimp only
  repeat' (first
    | focus (simp (maxDischargeDepth := 60) only [↓State.setSrc_evolves, ↓State.setFld_evolves, ↓Evolves.foldl,
        ↓Evolves.foldl_fst, ↓Evolves.ite, ↓Evolves.ite_fst, ↓Evolves.elim_opt, Evolves.refl, Nat.le_add_right, implies_true,
        List.cons_subset, List.nil_subset, and_true, hp₀, hb₀];done)
    | (refine Evolves.foldl _ _ _ (fun u x => ?_) ?_ <;> try dsimp only)
    | (refine Evolves.foldl_fst _ _ _ (fun u x => ?_) ?_ <;> try dsimp only)
    | split)

theorem State.placeRun_evolves {ps₀ : List Part} {b₀ : State} (s : State) (i row x : Nat) (cs : List Nat)
    (hp₀ : [.fresh, .dram, .video] ⊆ ps₀) (hb₀ : Evolves ps₀ b₀ s) :
    Evolves ps₀ b₀ (State.placeRun s i row x cs) := by
  simp only [List.cons_subset, List.nil_subset, and_true] at hp₀
  unfold State.placeRun
  try dsimp only
  repeat' (first
    | focus (simp (maxDischargeDepth := 60) only [↓State.pourMem_evolves, ↓State.setSrc_evolves, ↓Evolves.foldl,
        ↓Evolves.foldl_fst, ↓Evolves.ite, ↓Evolves.ite_fst, ↓Evolves.elim_opt, Evolves.refl, Nat.le_add_right, implies_true,
        List.cons_subset, List.nil_subset, and_true, hp₀, hb₀];done)
    | (refine Evolves.foldl _ _ _ (fun u x => ?_) ?_ <;> try dsimp only)
    | (refine Evolves.foldl_fst _ _ _ (fun u x => ?_) ?_ <;> try dsimp only)
    | split)

theorem State.enterMismatch_evolves {ps₀ : List Part} {b₀ : State} (s : State) (i : Nat) (fmt rate : Bool)
    (hp₀ : [.regs, .video] ⊆ ps₀) (hb₀ : Evolves ps₀ b₀ s) :
    Evolves ps₀ b₀ (State.enterMismatch s i fmt rate) := by
  simp only [List.cons_subset, List.nil_subset, and_true] at hp₀
  unfold State.enterMismatch
  try dsimp only
  repeat' (first
    | focus (simp (maxDischargeDepth := 60) only [↓State.event_evolves, ↓State.setSrcMode_evolves, ↓Evolves.foldl,
        ↓Evolves.foldl_fst, ↓Evolves.ite, ↓Evolves.ite_fst, ↓Evolves.elim_opt, Evolves.refl, Nat.le_add_right, implies_true,
        List.cons_subset, List.nil_subset, and_true, hp₀, hb₀];done)
    | (refine Evolves.foldl _ _ _ (fun u x => ?_) ?_ <;> try dsimp only)
    | (refine Evolves.foldl_fst _ _ _ (fun u x => ?_) ?_ <;> try dsimp only)
    | split)

theorem State.noteMeasured_evolves {ps₀ : List Part} {b₀ : State} (s : State) (i : Nat) (m : Measured)
    (hp₀ : [.regs, .fresh] ⊆ ps₀) (hb₀ : Evolves ps₀ b₀ s) :
    Evolves ps₀ b₀ (State.noteMeasured s i m) := by
  simp only [List.cons_subset, List.nil_subset, and_true] at hp₀
  unfold State.noteMeasured
  try dsimp only
  repeat' (first
    | focus (simp (maxDischargeDepth := 60) only [↓State.drawn_evolves, ↓State.setFld_evolves, ↓Evolves.foldl, ↓Evolves.foldl_fst,
        ↓Evolves.ite, ↓Evolves.ite_fst, ↓Evolves.elim_opt, Evolves.refl, Nat.le_add_right, implies_true, List.cons_subset,
        List.nil_subset, and_true, hp₀, hb₀];done)
    | (refine Evolves.foldl _ _ _ (fun u x => ?_) ?_ <;> try dsimp only)
    | (refine Evolves.foldl_fst _ _ _ (fun u x => ?_) ?_ <;> try dsimp only)
    | split)

theorem State.endFrame_evolves {ps₀ : List Part} {b₀ : State} (s : State) (i : Nat) (count : Bool)
    (hp₀ : [.regs, .video] ⊆ ps₀) (hb₀ : Evolves ps₀ b₀ s) :
    Evolves ps₀ b₀ (State.endFrame s i count) := by
  simp only [List.cons_subset, List.nil_subset, and_true] at hp₀
  unfold State.endFrame
  try dsimp only
  repeat' (first
    | focus (simp (maxDischargeDepth := 60) only [↓State.setSrc_evolves, ↓State.eventCount_evolves, ↓Evolves.foldl,
        ↓Evolves.foldl_fst, ↓Evolves.ite, ↓Evolves.ite_fst, ↓Evolves.elim_opt, Evolves.refl, Nat.le_add_right, implies_true,
        List.cons_subset, List.nil_subset, and_true, hp₀, hb₀];done)
    | (refine Evolves.foldl _ _ _ (fun u x => ?_) ?_ <;> try dsimp only)
    | (refine Evolves.foldl_fst _ _ _ (fun u x => ?_) ?_ <;> try dsimp only)
    | split)

theorem State.beginFrame_evolves {ps₀ : List Part} {b₀ : State} (s : State) (i ts : Nat) (m : Measured) (tf : Option Nat)
    (hp₀ : [.regs, .video] ⊆ ps₀) (hb₀ : Evolves ps₀ b₀ s) :
    Evolves ps₀ b₀ (State.beginFrame s i ts m tf) := by
  simp only [List.cons_subset, List.nil_subset, and_true] at hp₀
  unfold State.beginFrame
  try dsimp only
  repeat' (first
    | focus (simp (maxDischargeDepth := 60) only [↓State.setFld_evolves, ↓State.setSrc_evolves, ↓State.eventCount_evolves,
        ↓Evolves.foldl, ↓Evolves.foldl_fst, ↓Evolves.ite, ↓Evolves.ite_fst, ↓Evolves.elim_opt, Evolves.refl, Nat.le_add_right,
        implies_true, List.cons_subset, List.nil_subset, and_true, hp₀, hb₀];done)
    | (refine Evolves.foldl _ _ _ (fun u x => ?_) ?_ <;> try dsimp only)
    | (refine Evolves.foldl_fst _ _ _ (fun u x => ?_) ?_ <;> try dsimp only)
    | split)

theorem State.keepFrame_evolves {ps₀ : List Part} {b₀ : State} (s : State) (i : Nat) (f : FrameIn)
    (hp₀ : [.regs, .video] ⊆ ps₀) (hb₀ : Evolves ps₀ b₀ s) :
    Evolves ps₀ b₀ (State.keepFrame s i f) := by
  simp only [List.cons_subset, List.nil_subset, and_true] at hp₀
  unfold State.keepFrame
  try dsimp only
  repeat' (first
    | focus (simp (maxDischargeDepth := 60) only [↓State.setSrc_evolves, ↓State.setFld_evolves, ↓State.setFlag_evolves,
        ↓State.event_evolves, ↓State.setSrcMode_evolves, ↓Evolves.foldl, ↓Evolves.foldl_fst, ↓Evolves.ite, ↓Evolves.ite_fst,
        ↓Evolves.elim_opt, Evolves.refl, Nat.le_add_right, implies_true, List.cons_subset, List.nil_subset, and_true, hp₀,
        hb₀];done)
    | (refine Evolves.foldl _ _ _ (fun u x => ?_) ?_ <;> try dsimp only)
    | (refine Evolves.foldl_fst _ _ _ (fun u x => ?_) ?_ <;> try dsimp only)
    | split)

theorem State.completeFrame_evolves {ps₀ : List Part} {b₀ : State} (s : State) (i : Nat) (f : FrameIn) (m : Measured)
    (hp₀ : [.regs, .fresh, .video] ⊆ ps₀) (hb₀ : Evolves ps₀ b₀ s) :
    Evolves ps₀ b₀ (State.completeFrame s i f m) := by
  simp only [List.cons_subset, List.nil_subset, and_true] at hp₀
  unfold State.completeFrame
  try dsimp only
  repeat' (first
    | focus (simp (maxDischargeDepth := 60) only [↓State.noteMeasured_evolves, ↓State.enterMismatch_evolves,
        ↓State.keepFrame_evolves, ↓Evolves.foldl, ↓Evolves.foldl_fst, ↓Evolves.ite, ↓Evolves.ite_fst, ↓Evolves.elim_opt,
        Evolves.refl, Nat.le_add_right, implies_true, List.cons_subset, List.nil_subset, and_true, hp₀, hb₀];done)
    | (refine Evolves.foldl _ _ _ (fun u x => ?_) ?_ <;> try dsimp only)
    | (refine Evolves.foldl_fst _ _ _ (fun u x => ?_) ?_ <;> try dsimp only)
    | split)

theorem State.frameDone_evolves {ps₀ : List Part} {b₀ : State} (s : State) (i : Nat) (m : Measured)
    (hp₀ : [.regs, .fresh, .cycles, .wall, .video] ⊆ ps₀) (hb₀ : Evolves ps₀ b₀ s) :
    Evolves ps₀ b₀ (State.frameDone s i m) := by
  simp only [List.cons_subset, List.nil_subset, and_true] at hp₀
  unfold State.frameDone
  try dsimp only
  repeat' (first
    | focus (simp (maxDischargeDepth := 60) only [↓State.untilCycle_evolves, ↓State.setSrc_evolves, ↓State.completeFrame_evolves,
        ↓Evolves.foldl, ↓Evolves.foldl_fst, ↓Evolves.ite, ↓Evolves.ite_fst, ↓Evolves.elim_opt, Evolves.refl, Nat.le_add_right,
        implies_true, List.cons_subset, List.nil_subset, and_true, hp₀, hb₀];done)
    | (refine Evolves.foldl _ _ _ (fun u x => ?_) ?_ <;> try dsimp only)
    | (refine Evolves.foldl_fst _ _ _ (fun u x => ?_) ?_ <;> try dsimp only)
    | split)

theorem execFrameComplete_evolves (src : Nat) (m : Measured) (s : State) :
    ∃ t₁, execFrameComplete src m s = .next t₁ ∧ Evolves [.regs, .fresh, .cycles, .wall, .video] s t₁ := by
  have hb₀ := Evolves.refl [.regs, .fresh, .cycles, .wall, .video] s
  unfold execFrameComplete
  refine ⟨_, rfl, ?_⟩
  try dsimp only
  repeat' (first
    | focus (simp (maxDischargeDepth := 60) only [↓State.frameDone_evolves, ↓Evolves.foldl, ↓Evolves.foldl_fst, ↓Evolves.ite,
        ↓Evolves.ite_fst, ↓Evolves.elim_opt, Evolves.refl, Nat.le_add_right, implies_true, List.cons_subset, List.nil_subset,
        and_true, List.mem_cons, reduceCtorEq, true_or, or_true, false_or, or_false, hb₀];done)
    | (refine Evolves.foldl _ _ _ (fun u x => ?_) ?_ <;> try dsimp only)
    | (refine Evolves.foldl_fst _ _ _ (fun u x => ?_) ?_ <;> try dsimp only)
    | split)

theorem execSdiLock_evolves (input rate : Nat) (s : State) :
    ∃ t₁, execSdiLock input rate s = .next t₁ ∧ Evolves [.regs, .video] s t₁ := by
  have hb₀ := Evolves.refl [.regs, .video] s
  unfold execSdiLock
  refine ⟨_, rfl, ?_⟩
  try dsimp only
  repeat' (first
    | focus (simp (maxDischargeDepth := 60) only [↓State.setFld_evolves, ↓State.setFlag_evolves, ↓State.enterMismatch_evolves,
        ↓Evolves.foldl, ↓Evolves.foldl_fst, ↓Evolves.ite, ↓Evolves.ite_fst, ↓Evolves.elim_opt, Evolves.refl, Nat.le_add_right,
        implies_true, List.cons_subset, List.nil_subset, and_true, List.mem_cons, reduceCtorEq, true_or, or_true, false_or,
        or_false, hb₀];done)
    | (refine Evolves.foldl _ _ _ (fun u x => ?_) ?_ <;> try dsimp only)
    | (refine Evolves.foldl_fst _ _ _ (fun u x => ?_) ?_ <;> try dsimp only)
    | split)

theorem State.lockLost_evolves {ps₀ : List Part} {b₀ : State} (s : State) (n : Nat)
    (hp₀ : [.regs, .fresh, .cycles, .wall, .video] ⊆ ps₀) (hb₀ : Evolves ps₀ b₀ s) :
    Evolves ps₀ b₀ (State.lockLost s n) := by
  simp only [List.cons_subset, List.nil_subset, and_true] at hp₀
  unfold State.lockLost
  try dsimp only
  repeat' (first
    | focus (simp (maxDischargeDepth := 60) only [↓State.event_evolves, ↓State.setFld_evolves, ↓State.setFlag_evolves,
        ↓State.frameDone_evolves, ↓State.setSrc_evolves, ↓State.setSrcMode_evolves, ↓Evolves.foldl, ↓Evolves.foldl_fst,
        ↓Evolves.ite, ↓Evolves.ite_fst, ↓Evolves.elim_opt, Evolves.refl, Nat.le_add_right, implies_true, List.cons_subset,
        List.nil_subset, and_true, hp₀, hb₀];done)
    | (refine Evolves.foldl _ _ _ (fun u x => ?_) ?_ <;> try dsimp only)
    | (refine Evolves.foldl_fst _ _ _ (fun u x => ?_) ?_ <;> try dsimp only)
    | split)

theorem execSdiLockLoss_evolves (input : Nat) (s : State) :
    ∃ t₁, execSdiLockLoss input s = .next t₁ ∧ Evolves [.regs, .fresh, .cycles, .wall, .video] s t₁ := by
  have hb₀ := Evolves.refl [.regs, .fresh, .cycles, .wall, .video] s
  unfold execSdiLockLoss
  refine ⟨_, rfl, ?_⟩
  try dsimp only
  repeat' (first
    | focus (simp (maxDischargeDepth := 60) only [↓State.lockLost_evolves, ↓Evolves.foldl, ↓Evolves.foldl_fst, ↓Evolves.ite,
        ↓Evolves.ite_fst, ↓Evolves.elim_opt, Evolves.refl, Nat.le_add_right, implies_true, List.cons_subset, List.nil_subset,
        and_true, List.mem_cons, reduceCtorEq, true_or, or_true, false_or, or_false, hb₀];done)
    | (refine Evolves.foldl _ _ _ (fun u x => ?_) ?_ <;> try dsimp only)
    | (refine Evolves.foldl_fst _ _ _ (fun u x => ?_) ?_ <;> try dsimp only)
    | split)

theorem State.frameTf_evolves {ps₀ : List Part} {b₀ : State} (s : State) (i : Nat) (m : Measured)
    (hp₀ : [.regs, .video] ⊆ ps₀) (hb₀ : Evolves ps₀ b₀ s) :
    Evolves ps₀ b₀ (State.frameTf s i m).1 := by
  simp only [List.cons_subset, List.nil_subset, and_true] at hp₀
  unfold State.frameTf
  try dsimp only
  repeat' (first
    | focus (simp (maxDischargeDepth := 60) only [↓State.setSrc_evolves, ↓State.event_evolves, ↓Evolves.foldl, ↓Evolves.foldl_fst,
        ↓Evolves.ite, ↓Evolves.ite_fst, ↓Evolves.elim_opt, Evolves.refl, Nat.le_add_right, implies_true, List.cons_subset,
        List.nil_subset, and_true, hp₀, hb₀];done)
    | (refine Evolves.foldl _ _ _ (fun u x => ?_) ?_ <;> try dsimp only)
    | (refine Evolves.foldl_fst _ _ _ (fun u x => ?_) ?_ <;> try dsimp only)
    | split)

theorem State.sdiTake_evolves {ps₀ : List Part} {b₀ : State} (s : State) (i : Nat) (m : Measured)
    (hp₀ : [.regs, .video] ⊆ ps₀) (hb₀ : Evolves ps₀ b₀ s) :
    Evolves ps₀ b₀ (State.sdiTake s i m) := by
  simp only [List.cons_subset, List.nil_subset, and_true] at hp₀
  unfold State.sdiTake
  try dsimp only
  repeat' (first
    | focus (simp (maxDischargeDepth := 60) only [↓State.enterMismatch_evolves, ↓State.beginFrame_evolves, ↓State.frameTf_evolves,
        ↓Evolves.foldl, ↓Evolves.foldl_fst, ↓Evolves.ite, ↓Evolves.ite_fst, ↓Evolves.elim_opt, Evolves.refl, Nat.le_add_right,
        implies_true, List.cons_subset, List.nil_subset, and_true, hp₀, hb₀];done)
    | (refine Evolves.foldl _ _ _ (fun u x => ?_) ?_ <;> try dsimp only)
    | (refine Evolves.foldl_fst _ _ _ (fun u x => ?_) ?_ <;> try dsimp only)
    | split)

theorem State.sdiStart_evolves {ps₀ : List Part} {b₀ : State} (s : State) (n : Nat) (m : Measured)
    (hp₀ : [.regs, .fresh, .video] ⊆ ps₀) (hb₀ : Evolves ps₀ b₀ s) :
    Evolves ps₀ b₀ (State.sdiStart s n m) := by
  simp only [List.cons_subset, List.nil_subset, and_true] at hp₀
  unfold State.sdiStart
  try dsimp only
  repeat' (first
    | focus (simp (maxDischargeDepth := 60) only [↓State.setFlag_evolves, ↓State.sdiTake_evolves, ↓State.noteMeasured_evolves,
        ↓State.endFrame_evolves, ↓Evolves.foldl, ↓Evolves.foldl_fst, ↓Evolves.ite, ↓Evolves.ite_fst, ↓Evolves.elim_opt,
        Evolves.refl, Nat.le_add_right, implies_true, List.cons_subset, List.nil_subset, and_true, hp₀, hb₀];done)
    | (refine Evolves.foldl _ _ _ (fun u x => ?_) ?_ <;> try dsimp only)
    | (refine Evolves.foldl_fst _ _ _ (fun u x => ?_) ?_ <;> try dsimp only)
    | split)

theorem execSdiFrameStart_evolves (input : Nat) (m : Measured) (s : State) :
    ∃ t₁, execSdiFrameStart input m s = .next t₁ ∧ Evolves [.regs, .fresh, .video] s t₁ := by
  have hb₀ := Evolves.refl [.regs, .fresh, .video] s
  unfold execSdiFrameStart
  refine ⟨_, rfl, ?_⟩
  try dsimp only
  repeat' (first
    | focus (simp (maxDischargeDepth := 60) only [↓State.sdiStart_evolves, ↓Evolves.foldl, ↓Evolves.foldl_fst, ↓Evolves.ite,
        ↓Evolves.ite_fst, ↓Evolves.elim_opt, Evolves.refl, Nat.le_add_right, implies_true, List.cons_subset, List.nil_subset,
        and_true, List.mem_cons, reduceCtorEq, true_or, or_true, false_or, or_false, hb₀];done)
    | (refine Evolves.foldl _ _ _ (fun u x => ?_) ?_ <;> try dsimp only)
    | (refine Evolves.foldl_fst _ _ _ (fun u x => ?_) ?_ <;> try dsimp only)
    | split)

theorem State.sdiLine_evolves {ps₀ : List Part} {b₀ : State} (s : State) (n field line : Nat) (crcOk : Bool) (codes : List Nat)
    (hp₀ : [.regs, .fresh, .dram, .video] ⊆ ps₀) (hb₀ : Evolves ps₀ b₀ s) :
    Evolves ps₀ b₀ (State.sdiLine s n field line crcOk codes) := by
  simp only [List.cons_subset, List.nil_subset, and_true] at hp₀
  unfold State.sdiLine
  try dsimp only
  repeat' (first
    | focus (simp (maxDischargeDepth := 60) only [↓State.event_evolves, ↓State.enterMismatch_evolves, ↓State.setSrc_evolves,
        ↓State.placeRun_evolves, ↓Evolves.foldl, ↓Evolves.foldl_fst, ↓Evolves.ite, ↓Evolves.ite_fst, ↓Evolves.elim_opt,
        Evolves.refl, Nat.le_add_right, implies_true, List.cons_subset, List.nil_subset, and_true, hp₀, hb₀];done)
    | (refine Evolves.foldl _ _ _ (fun u x => ?_) ?_ <;> try dsimp only)
    | (refine Evolves.foldl_fst _ _ _ (fun u x => ?_) ?_ <;> try dsimp only)
    | split)

theorem execSdiLine_evolves (input field line : Nat) (crcOk : Bool) (codes : List Nat) (s : State) :
    ∃ t₁, execSdiLine input field line crcOk codes s = .next t₁ ∧ Evolves [.regs, .fresh, .dram, .video] s t₁ := by
  have hb₀ := Evolves.refl [.regs, .fresh, .dram, .video] s
  unfold execSdiLine
  refine ⟨_, rfl, ?_⟩
  try dsimp only
  repeat' (first
    | focus (simp (maxDischargeDepth := 60) only [↓State.sdiLine_evolves, ↓Evolves.foldl, ↓Evolves.foldl_fst, ↓Evolves.ite,
        ↓Evolves.ite_fst, ↓Evolves.elim_opt, Evolves.refl, Nat.le_add_right, implies_true, List.cons_subset, List.nil_subset,
        and_true, List.mem_cons, reduceCtorEq, true_or, or_true, false_or, or_false, hb₀];done)
    | (refine Evolves.foldl _ _ _ (fun u x => ?_) ?_ <;> try dsimp only)
    | (refine Evolves.foldl_fst _ _ _ (fun u x => ?_) ?_ <;> try dsimp only)
    | split)

theorem State.flowPacket_evolves {ps₀ : List Part} {b₀ : State} (s : State) (port : Nat) (p : FlowPacket)
    (hp₀ : [.regs, .fresh, .dram, .video] ⊆ ps₀) (hb₀ : Evolves ps₀ b₀ s) :
    Evolves ps₀ b₀ (State.flowPacket s port p) := by
  simp only [List.cons_subset, List.nil_subset, and_true] at hp₀
  unfold State.flowPacket
  try dsimp only
  repeat' (first
    | focus (simp (maxDischargeDepth := 60) only [↓State.bump_evolves, ↓State.placeRun_evolves, ↓State.beginFrame_evolves,
        ↓State.endFrame_evolves, ↓State.setSrc_evolves, ↓Evolves.foldl, ↓Evolves.foldl_fst, ↓Evolves.ite, ↓Evolves.ite_fst,
        ↓Evolves.elim_opt, Evolves.refl, Nat.le_add_right, implies_true, List.cons_subset, List.nil_subset, and_true, hp₀,
        hb₀];done)
    | (refine Evolves.foldl _ _ _ (fun u x => ?_) ?_ <;> try dsimp only)
    | (refine Evolves.foldl_fst _ _ _ (fun u x => ?_) ?_ <;> try dsimp only)
    | split)

theorem execSt2110Packet_evolves (port : Nat) (p : FlowPacket) (s : State) :
    ∃ t₁, execSt2110Packet port p s = .next t₁ ∧ Evolves [.regs, .fresh, .dram, .video] s t₁ := by
  have hb₀ := Evolves.refl [.regs, .fresh, .dram, .video] s
  unfold execSt2110Packet
  refine ⟨_, rfl, ?_⟩
  try dsimp only
  repeat' (first
    | focus (simp (maxDischargeDepth := 60) only [↓State.flowPacket_evolves, ↓Evolves.foldl, ↓Evolves.foldl_fst, ↓Evolves.ite,
        ↓Evolves.ite_fst, ↓Evolves.elim_opt, Evolves.refl, Nat.le_add_right, implies_true, List.cons_subset, List.nil_subset,
        and_true, List.mem_cons, reduceCtorEq, true_or, or_true, false_or, or_false, hb₀];done)
    | (refine Evolves.foldl _ _ _ (fun u x => ?_) ?_ <;> try dsimp only)
    | (refine Evolves.foldl_fst _ _ _ (fun u x => ?_) ?_ <;> try dsimp only)
    | split)

theorem State.sourceTimeout_evolves {ps₀ : List Part} {b₀ : State} (s : State) (i : Nat)
    (hp₀ : [.regs, .cycles, .wall, .video] ⊆ ps₀) (hb₀ : Evolves ps₀ b₀ s) :
    Evolves ps₀ b₀ (State.sourceTimeout s i) := by
  simp only [List.cons_subset, List.nil_subset, and_true] at hp₀
  unfold State.sourceTimeout
  try dsimp only
  repeat' (first
    | focus (simp (maxDischargeDepth := 60) only [↓State.event_evolves, ↓State.setSrcMode_evolves, ↓State.untilCycle_evolves,
        ↓Evolves.foldl, ↓Evolves.foldl_fst, ↓Evolves.ite, ↓Evolves.ite_fst, ↓Evolves.elim_opt, Evolves.refl, Nat.le_add_right,
        implies_true, List.cons_subset, List.nil_subset, and_true, hp₀, hb₀];done)
    | (refine Evolves.foldl _ _ _ (fun u x => ?_) ?_ <;> try dsimp only)
    | (refine Evolves.foldl_fst _ _ _ (fun u x => ?_) ?_ <;> try dsimp only)
    | split)

theorem execSourceLossTimeout_evolves (src : Nat) (s : State) :
    ∃ t₁, execSourceLossTimeout src s = .next t₁ ∧ Evolves [.regs, .cycles, .wall, .video] s t₁ := by
  have hb₀ := Evolves.refl [.regs, .cycles, .wall, .video] s
  unfold execSourceLossTimeout
  refine ⟨_, rfl, ?_⟩
  try dsimp only
  repeat' (first
    | focus (simp (maxDischargeDepth := 60) only [↓State.sourceTimeout_evolves, ↓Evolves.foldl, ↓Evolves.foldl_fst, ↓Evolves.ite,
        ↓Evolves.ite_fst, ↓Evolves.elim_opt, Evolves.refl, Nat.le_add_right, implies_true, List.cons_subset, List.nil_subset,
        and_true, List.mem_cons, reduceCtorEq, true_or, or_true, false_or, or_false, hb₀];done)
    | (refine Evolves.foldl _ _ _ (fun u x => ?_) ?_ <;> try dsimp only)
    | (refine Evolves.foldl_fst _ _ _ (fun u x => ?_) ?_ <;> try dsimp only)
    | split)

theorem State.holdEnds_evolves {ps₀ : List Part} {b₀ : State} (s : State) (i : Nat)
    (hp₀ : [.cycles, .wall, .video] ⊆ ps₀) (hb₀ : Evolves ps₀ b₀ s) :
    Evolves ps₀ b₀ (State.holdEnds s i) := by
  simp only [List.cons_subset, List.nil_subset, and_true] at hp₀
  unfold State.holdEnds
  try dsimp only
  repeat' (first
    | focus (simp (maxDischargeDepth := 60) only [↓State.untilCycle_evolves, ↓State.setSrc_evolves, ↓Evolves.foldl,
        ↓Evolves.foldl_fst, ↓Evolves.ite, ↓Evolves.ite_fst, ↓Evolves.elim_opt, Evolves.refl, Nat.le_add_right, implies_true,
        List.cons_subset, List.nil_subset, and_true, hp₀, hb₀];done)
    | (refine Evolves.foldl _ _ _ (fun u x => ?_) ?_ <;> try dsimp only)
    | (refine Evolves.foldl_fst _ _ _ (fun u x => ?_) ?_ <;> try dsimp only)
    | split)

theorem execHoldExpiry_evolves (src : Nat) (s : State) :
    ∃ t₁, execHoldExpiry src s = .next t₁ ∧ Evolves [.cycles, .wall, .video] s t₁ := by
  have hb₀ := Evolves.refl [.cycles, .wall, .video] s
  unfold execHoldExpiry
  refine ⟨_, rfl, ?_⟩
  try dsimp only
  repeat' (first
    | focus (simp (maxDischargeDepth := 60) only [↓State.holdEnds_evolves, ↓Evolves.foldl, ↓Evolves.foldl_fst, ↓Evolves.ite,
        ↓Evolves.ite_fst, ↓Evolves.elim_opt, Evolves.refl, Nat.le_add_right, implies_true, List.cons_subset, List.nil_subset,
        and_true, List.mem_cons, reduceCtorEq, true_or, or_true, false_or, or_false, hb₀];done)
    | (refine Evolves.foldl _ _ _ (fun u x => ?_) ?_ <;> try dsimp only)
    | (refine Evolves.foldl_fst _ _ _ (fun u x => ?_) ?_ <;> try dsimp only)
    | split)

theorem State.srcOff_evolves {ps₀ : List Part} {b₀ : State} (s : State) (i : Nat)
    (hp₀ : [.regs, .video] ⊆ ps₀) (hb₀ : Evolves ps₀ b₀ s) :
    Evolves ps₀ b₀ (State.srcOff s i) := by
  simp only [List.cons_subset, List.nil_subset, and_true] at hp₀
  unfold State.srcOff
  try dsimp only
  repeat' (first
    | focus (simp (maxDischargeDepth := 60) only [↓State.setSrc_evolves, ↓State.setFlag_evolves, ↓State.setFld_evolves,
        ↓Evolves.foldl, ↓Evolves.foldl_fst, ↓Evolves.ite, ↓Evolves.ite_fst, ↓Evolves.elim_opt, Evolves.refl, Nat.le_add_right,
        implies_true, List.cons_subset, List.nil_subset, and_true, hp₀, hb₀];done)
    | (refine Evolves.foldl _ _ _ (fun u x => ?_) ?_ <;> try dsimp only)
    | (refine Evolves.foldl_fst _ _ _ (fun u x => ?_) ?_ <;> try dsimp only)
    | split)

theorem State.srcReconfig_evolves {ps₀ : List Part} {b₀ : State} (s : State) (i : Nat)
    (hp₀ : [.regs, .video] ⊆ ps₀) (hb₀ : Evolves ps₀ b₀ s) :
    Evolves ps₀ b₀ (State.srcReconfig s i) := by
  simp only [List.cons_subset, List.nil_subset, and_true] at hp₀
  unfold State.srcReconfig
  try dsimp only
  repeat' (first
    | focus (simp (maxDischargeDepth := 60) only [↓State.setSrcMode_evolves, ↓State.setSrc_evolves, ↓State.setFlag_evolves,
        ↓Evolves.foldl, ↓Evolves.foldl_fst, ↓Evolves.ite, ↓Evolves.ite_fst, ↓Evolves.elim_opt, Evolves.refl, Nat.le_add_right,
        implies_true, List.cons_subset, List.nil_subset, and_true, hp₀, hb₀];done)
    | (refine Evolves.foldl _ _ _ (fun u x => ?_) ?_ <;> try dsimp only)
    | (refine Evolves.foldl_fst _ _ _ (fun u x => ?_) ?_ <;> try dsimp only)
    | split)

theorem State.reactSource_evolves {ps₀ : List Part} {b₀ : State} (before s : State) (i : Nat)
    (hp₀ : [.regs, .video] ⊆ ps₀) (hb₀ : Evolves ps₀ b₀ s) :
    Evolves ps₀ b₀ (State.reactSource before s i) := by
  simp only [List.cons_subset, List.nil_subset, and_true] at hp₀
  unfold State.reactSource
  try dsimp only
  repeat' (first
    | focus (simp (maxDischargeDepth := 60) only [↓State.srcOff_evolves, ↓State.setSrcMode_evolves, ↓State.srcReconfig_evolves,
        ↓Evolves.foldl, ↓Evolves.foldl_fst, ↓Evolves.ite, ↓Evolves.ite_fst, ↓Evolves.elim_opt, Evolves.refl, Nat.le_add_right,
        implies_true, List.cons_subset, List.nil_subset, and_true, hp₀, hb₀];done)
    | (refine Evolves.foldl _ _ _ (fun u x => ?_) ?_ <;> try dsimp only)
    | (refine Evolves.foldl_fst _ _ _ (fun u x => ?_) ?_ <;> try dsimp only)
    | split)

theorem State.reactSources_evolves {ps₀ : List Part} {b₀ : State} (before s : State)
    (hp₀ : [.regs, .video] ⊆ ps₀) (hb₀ : Evolves ps₀ b₀ s) :
    Evolves ps₀ b₀ (State.reactSources before s) := by
  simp only [List.cons_subset, List.nil_subset, and_true] at hp₀
  unfold State.reactSources
  try dsimp only
  repeat' (first
    | focus (simp (maxDischargeDepth := 60) only [↓State.reactSource_evolves, ↓State.setFld_evolves, ↓Evolves.foldl,
        ↓Evolves.foldl_fst, ↓Evolves.ite, ↓Evolves.ite_fst, ↓Evolves.elim_opt, Evolves.refl, Nat.le_add_right, implies_true,
        List.cons_subset, List.nil_subset, and_true, hp₀, hb₀];done)
    | (refine Evolves.foldl _ _ _ (fun u x => ?_) ?_ <;> try dsimp only)
    | (refine Evolves.foldl_fst _ _ _ (fun u x => ?_) ?_ <;> try dsimp only)
    | split)

end Sys2Proof.Machine
end

