-- ==== Sys2Proof/Laws/EvolveCompose.lean ====
section
/-! SUPPORT. What the operations of Machine/Compose.lean keep (Evolves). -/

set_option linter.unusedSimpArgs false
set_option linter.unreachableTactic false
set_option linter.unusedTactic false
set_option linter.unusedVariables false

namespace Sys2Proof.Machine

/-- A fold over a fetch with something else evolves. -/
theorem Evolves.foldl_fetch {ps : List Part} {b : State} {α β : Type} (l : List α) (f : Fetch × β → α → Fetch × β) (a : Fetch × β)
    (hf : ∀ u x, Evolves ps u.1.s (f u x).1.s) (h : Evolves ps b a.1.s) : Evolves ps b (l.foldl f a).1.s := by
  induction l generalizing a with
  | nil => exact h
  | cons x l ih => exact ih _ (h.trans (hf a x))

/-- A choice of two fetches evolves if both do. -/
theorem Evolves.ite_fetch {ps : List Part} {b : State} {c : Prop} [Decidable c] {x y : Fetch} (hx : Evolves ps b x.s)
    (hy : Evolves ps b y.s) : Evolves ps b (if c then x else y).s := by split <;> assumption


theorem Fetch.burst_evolves {ps₀ : List Part} {b₀ : State} (f : Fetch) (b : Nat)
    (hp₀ : [.regs, .fresh, .sent, .link, .repl, .faults, .nvm, .dram, .red] ⊆ ps₀) (hb₀ : Evolves ps₀ b₀ f.s) :
    Evolves ps₀ b₀ (Fetch.burst f b).1.s := by
  simp only [List.cons_subset, List.nil_subset, and_true] at hp₀
  unfold Fetch.burst
  try dsimp only
  repeat' (first
    | focus (simp (maxDischargeDepth := 60) only [↓State.readBurst_evolves, ↓State.event_evolves, ↓State.bump_evolves,
        ↓Evolves.foldl, ↓Evolves.foldl_fst, ↓Evolves.foldl_fetch, ↓Evolves.ite_fetch, ↓Evolves.ite, ↓Evolves.ite_fst,
        ↓Evolves.elim_opt, Evolves.refl, Nat.le_add_right, implies_true, List.cons_subset, List.nil_subset, and_true, hp₀,
        hb₀];done)
    | (refine Evolves.foldl_fetch _ _ _ (fun u x => ?_) ?_ <;> try dsimp only)
    | (refine Evolves.foldl _ _ _ (fun u x => ?_) ?_ <;> try dsimp only)
    | (refine Evolves.foldl_fst _ _ _ (fun u x => ?_) ?_ <;> try dsimp only)
    | split)

theorem Fetch.bytes_evolves {ps₀ : List Part} {b₀ : State} (f : Fetch) (addr n : Nat)
    (hp₀ : [.regs, .fresh, .sent, .link, .repl, .faults, .nvm, .dram, .red] ⊆ ps₀) (hb₀ : Evolves ps₀ b₀ f.s) :
    Evolves ps₀ b₀ (Fetch.bytes f addr n).1.s := by
  simp only [List.cons_subset, List.nil_subset, and_true] at hp₀
  unfold Fetch.bytes
  try dsimp only
  repeat' (first
    | focus (simp (maxDischargeDepth := 60) only [↓Fetch.burst_evolves, ↓Evolves.foldl, ↓Evolves.foldl_fst, ↓Evolves.foldl_fetch,
        ↓Evolves.ite_fetch, ↓Evolves.ite, ↓Evolves.ite_fst, ↓Evolves.elim_opt, Evolves.refl, Nat.le_add_right, implies_true,
        List.cons_subset, List.nil_subset, and_true, hp₀, hb₀];done)
    | (refine Evolves.foldl_fetch _ _ _ (fun u x => ?_) ?_ <;> try dsimp only)
    | (refine Evolves.foldl _ _ _ (fun u x => ?_) ?_ <;> try dsimp only)
    | (refine Evolves.foldl_fst _ _ _ (fun u x => ?_) ?_ <;> try dsimp only)
    | split)

theorem Fetch.num_evolves {ps₀ : List Part} {b₀ : State} (f : Fetch) (addr n : Nat)
    (hp₀ : [.regs, .fresh, .sent, .link, .repl, .faults, .nvm, .dram, .red] ⊆ ps₀) (hb₀ : Evolves ps₀ b₀ f.s) :
    Evolves ps₀ b₀ (Fetch.num f addr n).1.s := by
  simp only [List.cons_subset, List.nil_subset, and_true] at hp₀
  unfold Fetch.num
  try dsimp only
  repeat' (first
    | focus (simp (maxDischargeDepth := 60) only [↓Fetch.bytes_evolves, ↓Evolves.foldl, ↓Evolves.foldl_fst, ↓Evolves.foldl_fetch,
        ↓Evolves.ite_fetch, ↓Evolves.ite, ↓Evolves.ite_fst, ↓Evolves.elim_opt, Evolves.refl, Nat.le_add_right, implies_true,
        List.cons_subset, List.nil_subset, and_true, hp₀, hb₀];done)
    | (refine Evolves.foldl_fetch _ _ _ (fun u x => ?_) ?_ <;> try dsimp only)
    | (refine Evolves.foldl _ _ _ (fun u x => ?_) ?_ <;> try dsimp only)
    | (refine Evolves.foldl_fst _ _ _ (fun u x => ?_) ?_ <;> try dsimp only)
    | split)

theorem Fetch.chroma_evolves {ps₀ : List Part} {b₀ : State} (f : Fetch) (l : Layout) (x y : Nat) (cr : Bool)
    (hp₀ : [.regs, .fresh, .sent, .link, .repl, .faults, .nvm, .dram, .red] ⊆ ps₀) (hb₀ : Evolves ps₀ b₀ f.s) :
    Evolves ps₀ b₀ (Fetch.chroma f l x y cr).1.s := by
  simp only [List.cons_subset, List.nil_subset, and_true] at hp₀
  unfold Fetch.chroma
  try dsimp only
  repeat' (first
    | focus (simp (maxDischargeDepth := 60) only [↓State.drawn_evolves, ↓Fetch.num_evolves, ↓Evolves.foldl, ↓Evolves.foldl_fst,
        ↓Evolves.foldl_fetch, ↓Evolves.ite_fetch, ↓Evolves.ite, ↓Evolves.ite_fst, ↓Evolves.elim_opt, Evolves.refl,
        Nat.le_add_right, implies_true, List.cons_subset, List.nil_subset, and_true, hp₀, hb₀];done)
    | (refine Evolves.foldl_fetch _ _ _ (fun u x => ?_) ?_ <;> try dsimp only)
    | (refine Evolves.foldl _ _ _ (fun u x => ?_) ?_ <;> try dsimp only)
    | (refine Evolves.foldl_fst _ _ _ (fun u x => ?_) ?_ <;> try dsimp only)
    | split)

theorem Fetch.chromaAt_evolves {ps₀ : List Part} {b₀ : State} (f : Fetch) (l : Layout) (x y : Nat) (cr : Bool)
    (hp₀ : [.regs, .fresh, .sent, .link, .repl, .faults, .nvm, .dram, .red] ⊆ ps₀) (hb₀ : Evolves ps₀ b₀ f.s) :
    Evolves ps₀ b₀ (Fetch.chromaAt f l x y cr).1.s := by
  simp only [List.cons_subset, List.nil_subset, and_true] at hp₀
  unfold Fetch.chromaAt
  try dsimp only
  repeat' (first
    | focus (simp (maxDischargeDepth := 60) only [↓Fetch.chroma_evolves, ↓Evolves.foldl, ↓Evolves.foldl_fst, ↓Evolves.foldl_fetch,
        ↓Evolves.ite_fetch, ↓Evolves.ite, ↓Evolves.ite_fst, ↓Evolves.elim_opt, Evolves.refl, Nat.le_add_right, implies_true,
        List.cons_subset, List.nil_subset, and_true, hp₀, hb₀];done)
    | (refine Evolves.foldl_fetch _ _ _ (fun u x => ?_) ?_ <;> try dsimp only)
    | (refine Evolves.foldl _ _ _ (fun u x => ?_) ?_ <;> try dsimp only)
    | (refine Evolves.foldl_fst _ _ _ (fun u x => ?_) ?_ <;> try dsimp only)
    | split)

theorem Fetch.codes_evolves {ps₀ : List Part} {b₀ : State} (f : Fetch) (l : Layout) (x y : Nat)
    (hp₀ : [.regs, .fresh, .sent, .link, .repl, .faults, .nvm, .dram, .red] ⊆ ps₀) (hb₀ : Evolves ps₀ b₀ f.s) :
    Evolves ps₀ b₀ (Fetch.codes f l x y).1.s := by
  simp only [List.cons_subset, List.nil_subset, and_true] at hp₀
  unfold Fetch.codes
  try dsimp only
  repeat' (first
    | focus (simp (maxDischargeDepth := 60) only [↓Fetch.num_evolves, ↓Fetch.chromaAt_evolves, ↓Evolves.foldl, ↓Evolves.foldl_fst,
        ↓Evolves.foldl_fetch, ↓Evolves.ite_fetch, ↓Evolves.ite, ↓Evolves.ite_fst, ↓Evolves.elim_opt, Evolves.refl,
        Nat.le_add_right, implies_true, List.cons_subset, List.nil_subset, and_true, hp₀, hb₀];done)
    | (refine Evolves.foldl_fetch _ _ _ (fun u x => ?_) ?_ <;> try dsimp only)
    | (refine Evolves.foldl _ _ _ (fun u x => ?_) ?_ <;> try dsimp only)
    | (refine Evolves.foldl_fst _ _ _ (fun u x => ?_) ?_ <;> try dsimp only)
    | split)

theorem Fetch.live_evolves {ps₀ : List Part} {b₀ : State} (f : Fetch) (i : Nat) (l : Layout) (x y : Int)
    (hp₀ : [.regs, .fresh, .sent, .link, .repl, .faults, .nvm, .dram, .red] ⊆ ps₀) (hb₀ : Evolves ps₀ b₀ f.s) :
    Evolves ps₀ b₀ (Fetch.live f i l x y).1.s := by
  simp only [List.cons_subset, List.nil_subset, and_true] at hp₀
  unfold Fetch.live
  try dsimp only
  repeat' (first
    | focus (simp (maxDischargeDepth := 60) only [↓Fetch.codes_evolves, ↓Evolves.foldl, ↓Evolves.foldl_fst, ↓Evolves.foldl_fetch,
        ↓Evolves.ite_fetch, ↓Evolves.ite, ↓Evolves.ite_fst, ↓Evolves.elim_opt, Evolves.refl, Nat.le_add_right, implies_true,
        List.cons_subset, List.nil_subset, and_true, hp₀, hb₀];done)
    | (refine Evolves.foldl_fetch _ _ _ (fun u x => ?_) ?_ <;> try dsimp only)
    | (refine Evolves.foldl _ _ _ (fun u x => ?_) ?_ <;> try dsimp only)
    | (refine Evolves.foldl_fst _ _ _ (fun u x => ?_) ?_ <;> try dsimp only)
    | split)

theorem Fetch.mem_evolves {ps₀ : List Part} {b₀ : State} (f : Fetch) (w k : Nat) (x y : Int)
    (hp₀ : [.regs, .fresh, .sent, .link, .repl, .faults, .nvm, .dram, .red] ⊆ ps₀) (hb₀ : Evolves ps₀ b₀ f.s) :
    Evolves ps₀ b₀ (Fetch.mem f w k x y).1.s := by
  have h := fun a n => Fetch.num_evolves f a n hp₀ hb₀
  unfold Fetch.mem
  dsimp only
  split
  · split <;> (dsimp only; exact h _ _)
  · split
    · dsimp only; exact h _ _
    · split <;> (dsimp only; exact h _ _)

theorem Fetch.source_evolves {ps₀ : List Part} {b₀ : State} (f : Fetch) (w k : Nat) (x y : Int)
    (hp₀ : [.regs, .fresh, .sent, .link, .repl, .faults, .nvm, .dram, .red] ⊆ ps₀) (hb₀ : Evolves ps₀ b₀ f.s) :
    Evolves ps₀ b₀ (Fetch.source f w k x y).1.s := by
  simp only [List.cons_subset, List.nil_subset, and_true] at hp₀
  unfold Fetch.source
  try dsimp only
  repeat' (first
    | focus (simp (maxDischargeDepth := 60) only [↓Fetch.live_evolves, ↓Fetch.mem_evolves, ↓Evolves.foldl, ↓Evolves.foldl_fst,
        ↓Evolves.foldl_fetch, ↓Evolves.ite_fetch, ↓Evolves.ite, ↓Evolves.ite_fst, ↓Evolves.elim_opt, Evolves.refl,
        Nat.le_add_right, implies_true, List.cons_subset, List.nil_subset, and_true, hp₀, hb₀];done)
    | (refine Evolves.foldl_fetch _ _ _ (fun u x => ?_) ?_ <;> try dsimp only)
    | (refine Evolves.foldl _ _ _ (fun u x => ?_) ?_ <;> try dsimp only)
    | (refine Evolves.foldl_fst _ _ _ (fun u x => ?_) ?_ <;> try dsimp only)
    | split)

theorem Fetch.many_evolves {ps₀ : List Part} {b₀ : State} (f : Fetch) (w k : Nat) (ps : List (Int × Int))
    (hp₀ : [.regs, .fresh, .sent, .link, .repl, .faults, .nvm, .dram, .red] ⊆ ps₀) (hb₀ : Evolves ps₀ b₀ f.s) :
    Evolves ps₀ b₀ (Fetch.many f w k ps).1.s := by
  simp only [List.cons_subset, List.nil_subset, and_true] at hp₀
  unfold Fetch.many
  try dsimp only
  repeat' (first
    | focus (simp (maxDischargeDepth := 60) only [↓Fetch.source_evolves, ↓Evolves.foldl, ↓Evolves.foldl_fst, ↓Evolves.foldl_fetch,
        ↓Evolves.ite_fetch, ↓Evolves.ite, ↓Evolves.ite_fst, ↓Evolves.elim_opt, Evolves.refl, Nat.le_add_right, implies_true,
        List.cons_subset, List.nil_subset, and_true, hp₀, hb₀];done)
    | (refine Evolves.foldl_fetch _ _ _ (fun u x => ?_) ?_ <;> try dsimp only)
    | (refine Evolves.foldl _ _ _ (fun u x => ?_) ?_ <;> try dsimp only)
    | (refine Evolves.foldl_fst _ _ _ (fun u x => ?_) ?_ <;> try dsimp only)
    | split)

theorem Fetch.scaled_evolves {ps₀ : List Part} {b₀ : State} (f : Fetch) (w k i j : Nat)
    (hp₀ : [.regs, .fresh, .sent, .link, .repl, .faults, .nvm, .dram, .red] ⊆ ps₀) (hb₀ : Evolves ps₀ b₀ f.s) :
    Evolves ps₀ b₀ (Fetch.scaled f w k i j).1.s := by
  simp only [List.cons_subset, List.nil_subset, and_true] at hp₀
  unfold Fetch.scaled
  try dsimp only
  repeat' (first
    | focus (simp (maxDischargeDepth := 60) only [↓Fetch.many_evolves, ↓State.setBit_evolves, ↓State.event_evolves,
        ↓Evolves.foldl, ↓Evolves.foldl_fst, ↓Evolves.foldl_fetch, ↓Evolves.ite_fetch, ↓Evolves.ite, ↓Evolves.ite_fst,
        ↓Evolves.elim_opt, Evolves.refl, Nat.le_add_right, implies_true, List.cons_subset, List.nil_subset, and_true, hp₀,
        hb₀];done)
    | (refine Evolves.foldl_fetch _ _ _ (fun u x => ?_) ?_ <;> try dsimp only)
    | (refine Evolves.foldl _ _ _ (fun u x => ?_) ?_ <;> try dsimp only)
    | (refine Evolves.foldl_fst _ _ _ (fun u x => ?_) ?_ <;> try dsimp only)
    | split)

theorem Fetch.layer_evolves {ps₀ : List Part} {b₀ : State} (f : Fetch) (w k i j : Nat)
    (hp₀ : [.regs, .fresh, .sent, .link, .repl, .faults, .nvm, .dram, .red] ⊆ ps₀) (hb₀ : Evolves ps₀ b₀ f.s) :
    Evolves ps₀ b₀ (Fetch.layer f w k i j).1.s := by
  simp only [List.cons_subset, List.nil_subset, and_true] at hp₀
  unfold Fetch.layer
  try dsimp only
  repeat' (first
    | focus (simp (maxDischargeDepth := 60) only [↓Fetch.scaled_evolves, ↓Fetch.source_evolves, ↓Evolves.foldl,
        ↓Evolves.foldl_fst, ↓Evolves.foldl_fetch, ↓Evolves.ite_fetch, ↓Evolves.ite, ↓Evolves.ite_fst, ↓Evolves.elim_opt,
        Evolves.refl, Nat.le_add_right, implies_true, List.cons_subset, List.nil_subset, and_true, hp₀, hb₀];done)
    | (refine Evolves.foldl_fetch _ _ _ (fun u x => ?_) ?_ <;> try dsimp only)
    | (refine Evolves.foldl _ _ _ (fun u x => ?_) ?_ <;> try dsimp only)
    | (refine Evolves.foldl_fst _ _ _ (fun u x => ?_) ?_ <;> try dsimp only)
    | split)

theorem Fetch.pixel_evolves {ps₀ : List Part} {b₀ : State} (f : Fetch) (w : Nat) (rs : List GntRegion) (x y : Nat)
    (hp₀ : [.regs, .fresh, .sent, .link, .repl, .faults, .nvm, .dram, .red] ⊆ ps₀) (hb₀ : Evolves ps₀ b₀ f.s) :
    Evolves ps₀ b₀ (Fetch.pixel f w rs x y).1.s := by
  simp only [List.cons_subset, List.nil_subset, and_true] at hp₀
  unfold Fetch.pixel
  try dsimp only
  repeat' (first
    | focus (simp (maxDischargeDepth := 60) only [↓Fetch.layer_evolves, ↓Evolves.foldl, ↓Evolves.foldl_fst, ↓Evolves.foldl_fetch,
        ↓Evolves.ite_fetch, ↓Evolves.ite, ↓Evolves.ite_fst, ↓Evolves.elim_opt, Evolves.refl, Nat.le_add_right, implies_true,
        List.cons_subset, List.nil_subset, and_true, hp₀, hb₀];done)
    | (refine Evolves.foldl_fetch _ _ _ (fun u x => ?_) ?_ <;> try dsimp only)
    | (refine Evolves.foldl _ _ _ (fun u x => ?_) ?_ <;> try dsimp only)
    | (refine Evolves.foldl_fst _ _ _ (fun u x => ?_) ?_ <;> try dsimp only)
    | split)

theorem Fetch.region_evolves {ps₀ : List Part} {b₀ : State} (f : Fetch) (w k : Nat)
    (hp₀ : [.regs, .fresh, .sent, .link, .repl, .faults, .nvm, .dram, .red] ⊆ ps₀) (hb₀ : Evolves ps₀ b₀ f.s) :
    Evolves ps₀ b₀ (Fetch.region f w k).1.s := by
  simp only [List.cons_subset, List.nil_subset, and_true] at hp₀
  unfold Fetch.region
  try dsimp only
  repeat' (first
    | focus (simp (maxDischargeDepth := 60) only [↓Fetch.layer_evolves, ↓Evolves.foldl, ↓Evolves.foldl_fst, ↓Evolves.foldl_fetch,
        ↓Evolves.ite_fetch, ↓Evolves.ite, ↓Evolves.ite_fst, ↓Evolves.elim_opt, Evolves.refl, Nat.le_add_right, implies_true,
        List.cons_subset, List.nil_subset, and_true, hp₀, hb₀];done)
    | (refine Evolves.foldl_fetch _ _ _ (fun u x => ?_) ?_ <;> try dsimp only)
    | (refine Evolves.foldl _ _ _ (fun u x => ?_) ?_ <;> try dsimp only)
    | (refine Evolves.foldl_fst _ _ _ (fun u x => ?_) ?_ <;> try dsimp only)
    | split)

theorem State.judgeRegion_evolves {ps₀ : List Part} {b₀ : State} (s : State) (w k : Nat) (check : Word) (filled : Bool)
    (hp₀ : [.regs] ⊆ ps₀) (hb₀ : Evolves ps₀ b₀ s) :
    Evolves ps₀ b₀ (State.judgeRegion s w k check filled).1 := by
  simp only [List.cons_subset, List.nil_subset, and_true] at hp₀
  unfold State.judgeRegion
  try dsimp only
  repeat' (first
    | focus (simp (maxDischargeDepth := 60) only [↓State.setReg_evolves, ↓State.event_evolves, ↓State.bump_evolves,
        ↓State.setFlag_evolves, ↓Evolves.foldl, ↓Evolves.foldl_fst, ↓Evolves.foldl_fetch, ↓Evolves.ite_fetch, ↓Evolves.ite,
        ↓Evolves.ite_fst, ↓Evolves.elim_opt, Evolves.refl, Nat.le_add_right, implies_true, List.cons_subset, List.nil_subset,
        and_true, hp₀, hb₀];done)
    | (refine Evolves.foldl_fetch _ _ _ (fun u x => ?_) ?_ <;> try dsimp only)
    | (refine Evolves.foldl _ _ _ (fun u x => ?_) ?_ <;> try dsimp only)
    | (refine Evolves.foldl_fst _ _ _ (fun u x => ?_) ?_ <;> try dsimp only)
    | split)

theorem State.gauntletPass_evolves {ps₀ : List Part} {b₀ : State} (s : State) (w : Nat)
    (hp₀ : [.regs, .fresh, .sent, .link, .repl, .faults, .nvm, .dram, .red] ⊆ ps₀) (hb₀ : Evolves ps₀ b₀ s) :
    Evolves ps₀ b₀ (State.gauntletPass s w).1 := by
  simp only [List.cons_subset, List.nil_subset, and_true] at hp₀
  unfold State.gauntletPass
  try dsimp only
  repeat' (first
    | focus (simp (maxDischargeDepth := 60) only [↓Fetch.region_evolves, ↓State.judgeRegion_evolves, ↓Evolves.foldl,
        ↓Evolves.foldl_fst, ↓Evolves.foldl_fetch, ↓Evolves.ite_fetch, ↓Evolves.ite, ↓Evolves.ite_fst, ↓Evolves.elim_opt,
        Evolves.refl, Nat.le_add_right, implies_true, List.cons_subset, List.nil_subset, and_true, hp₀, hb₀];done)
    | (refine Evolves.foldl_fetch _ _ _ (fun u x => ?_) ?_ <;> try dsimp only)
    | (refine Evolves.foldl _ _ _ (fun u x => ?_) ?_ <;> try dsimp only)
    | (refine Evolves.foldl_fst _ _ _ (fun u x => ?_) ?_ <;> try dsimp only)
    | split)

end Sys2Proof.Machine
end

