-- ==== Sys2Proof/Laws/EvolveFences.lean ====
section
/-! SUPPORT. What the operations of Machine/Fences.lean keep (Evolves). -/

set_option linter.unusedSimpArgs false
set_option linter.unreachableTactic false
set_option linter.unusedTactic false
set_option linter.unusedVariables false

namespace Sys2Proof.Machine

theorem State.signalFence_evolves {ps₀ : List Part} {b₀ : State} (s : State) (n : Nat) (v : Word)
    (hp₀ : [.txn] ⊆ ps₀) (hb₀ : Evolves ps₀ b₀ s) :
    Evolves ps₀ b₀ (State.signalFence s n v) := by
  simp only [List.cons_subset, List.nil_subset, and_true] at hp₀
  unfold State.signalFence
  split
  · exact Evolves.change (s := s) (h := hb₀) _ (fun p hn => by cases p <;> first | rfl | exact absurd hp₀ hn) rfl rfl rfl rfl
      (fun hc => ⟨hc.1, Sparse.wf_put _ _ _ _ hc.2.1, hc.2.2⟩)
  · exact hb₀

theorem State.armFence_evolves {ps₀ : List Part} {b₀ : State} (before s : State) (w k : Nat)
    (hp₀ : [.regs, .txn] ⊆ ps₀) (hb₀ : Evolves ps₀ b₀ s) :
    Evolves ps₀ b₀ (State.armFence before s w k) := by
  simp only [List.cons_subset, List.nil_subset, and_true] at hp₀
  unfold State.armFence
  try dsimp only
  repeat' (first
    | focus (simp (maxDischargeDepth := 60) only [↓State.setReg_evolves, ↓Evolves.set_txn, ↓Evolves.foldl, ↓Evolves.foldl_fst,
        ↓Evolves.ite, ↓Evolves.ite_fst, ↓Evolves.elim_opt, Evolves.refl, Nat.le_add_right, implies_true, List.cons_subset,
        List.nil_subset, and_true, hp₀, hb₀];done)
    | (refine Evolves.foldl _ _ _ (fun u x => ?_) ?_ <;> try dsimp only)
    | (refine Evolves.foldl_fst _ _ _ (fun u x => ?_) ?_ <;> try dsimp only)
    | split)

theorem State.reactFences_evolves {ps₀ : List Part} {b₀ : State} (before s : State)
    (hp₀ : [.regs, .txn] ⊆ ps₀) (hb₀ : Evolves ps₀ b₀ s) :
    Evolves ps₀ b₀ (State.reactFences before s) := by
  simp only [List.cons_subset, List.nil_subset, and_true] at hp₀
  unfold State.reactFences
  try dsimp only
  repeat' (first
    | focus (simp (maxDischargeDepth := 60) only [↓State.armFence_evolves, ↓Evolves.foldl, ↓Evolves.foldl_fst, ↓Evolves.ite,
        ↓Evolves.ite_fst, ↓Evolves.elim_opt, Evolves.refl, Nat.le_add_right, implies_true, List.cons_subset, List.nil_subset,
        and_true, hp₀, hb₀];done)
    | (refine Evolves.foldl _ _ _ (fun u x => ?_) ?_ <;> try dsimp only)
    | (refine Evolves.foldl_fst _ _ _ (fun u x => ?_) ?_ <;> try dsimp only)
    | split)

theorem State.dropWait_evolves {ps₀ : List Part} {b₀ : State} (s : State) (x : FenceWait)
    (hp₀ : [.txn] ⊆ ps₀) (hb₀ : Evolves ps₀ b₀ s) :
    Evolves ps₀ b₀ (State.dropWait s x) := by
  simp only [List.cons_subset, List.nil_subset, and_true] at hp₀
  unfold State.dropWait
  try dsimp only
  repeat' (first
    | focus (simp (maxDischargeDepth := 60) only [↓Evolves.set_txn, ↓Evolves.foldl, ↓Evolves.foldl_fst, ↓Evolves.ite,
        ↓Evolves.ite_fst, ↓Evolves.elim_opt, Evolves.refl, Nat.le_add_right, implies_true, List.cons_subset, List.nil_subset,
        and_true, hp₀, hb₀];done)
    | (refine Evolves.foldl _ _ _ (fun u x => ?_) ?_ <;> try dsimp only)
    | (refine Evolves.foldl_fst _ _ _ (fun u x => ?_) ?_ <;> try dsimp only)
    | split)

theorem State.fenceTimeout_evolves {ps₀ : List Part} {b₀ : State} (s : State) (x : FenceWait)
    (hp₀ : [.regs, .txn] ⊆ ps₀) (hb₀ : Evolves ps₀ b₀ s) :
    Evolves ps₀ b₀ (State.fenceTimeout s x) := by
  simp only [List.cons_subset, List.nil_subset, and_true] at hp₀
  unfold State.fenceTimeout
  try dsimp only
  repeat' (first
    | focus (simp (maxDischargeDepth := 60) only [↓State.eventCount_evolves, ↓State.dropWait_evolves, ↓Evolves.foldl,
        ↓Evolves.foldl_fst, ↓Evolves.ite, ↓Evolves.ite_fst, ↓Evolves.elim_opt, Evolves.refl, Nat.le_add_right, implies_true,
        List.cons_subset, List.nil_subset, and_true, hp₀, hb₀];done)
    | (refine Evolves.foldl _ _ _ (fun u x => ?_) ?_ <;> try dsimp only)
    | (refine Evolves.foldl_fst _ _ _ (fun u x => ?_) ?_ <;> try dsimp only)
    | split)

theorem State.fenceAtLatch_evolves {ps₀ : List Part} {b₀ : State} (s : State) (x : FenceWait)
    (hp₀ : [.regs, .txn] ⊆ ps₀) (hb₀ : Evolves ps₀ b₀ s) :
    Evolves ps₀ b₀ (State.fenceAtLatch s x) := by
  simp only [List.cons_subset, List.nil_subset, and_true] at hp₀
  unfold State.fenceAtLatch
  try dsimp only
  repeat' (first
    | focus (simp (maxDischargeDepth := 60) only [↓State.dropWait_evolves, ↓State.setReg_evolves, ↓State.fenceTimeout_evolves,
        ↓Evolves.set_txn, ↓Evolves.foldl, ↓Evolves.foldl_fst, ↓Evolves.ite, ↓Evolves.ite_fst, ↓Evolves.elim_opt, Evolves.refl,
        Nat.le_add_right, implies_true, List.cons_subset, List.nil_subset, and_true, hp₀, hb₀];done)
    | (refine Evolves.foldl _ _ _ (fun u x => ?_) ?_ <;> try dsimp only)
    | (refine Evolves.foldl_fst _ _ _ (fun u x => ?_) ?_ <;> try dsimp only)
    | split)

theorem State.latchFences_evolves {ps₀ : List Part} {b₀ : State} (s : State) (w : Nat)
    (hp₀ : [.regs, .txn] ⊆ ps₀) (hb₀ : Evolves ps₀ b₀ s) :
    Evolves ps₀ b₀ (State.latchFences s w) := by
  simp only [List.cons_subset, List.nil_subset, and_true] at hp₀
  unfold State.latchFences
  try dsimp only
  repeat' (first
    | focus (simp (maxDischargeDepth := 60) only [↓State.fenceAtLatch_evolves, ↓Evolves.foldl, ↓Evolves.foldl_fst, ↓Evolves.ite,
        ↓Evolves.ite_fst, ↓Evolves.elim_opt, Evolves.refl, Nat.le_add_right, implies_true, List.cons_subset, List.nil_subset,
        and_true, hp₀, hb₀];done)
    | (refine Evolves.foldl _ _ _ (fun u x => ?_) ?_ <;> try dsimp only)
    | (refine Evolves.foldl_fst _ _ _ (fun u x => ?_) ?_ <;> try dsimp only)
    | split)

theorem execFenceTimeout_evolves (view slot : Nat) (s : State) :
    ∃ t₁, execFenceTimeout view slot s = .next t₁ ∧ Evolves [.regs, .cycles, .wall, .txn] s t₁ := by
  have hb₀ := Evolves.refl [.regs, .cycles, .wall, .txn] s
  unfold execFenceTimeout
  refine ⟨_, rfl, ?_⟩
  try dsimp only
  repeat' (first
    | focus (simp (maxDischargeDepth := 60) only [↓State.fenceTimeout_evolves, ↓State.untilWall_evolves, ↓Evolves.foldl,
        ↓Evolves.foldl_fst, ↓Evolves.ite, ↓Evolves.ite_fst, ↓Evolves.elim_opt, Evolves.refl, Nat.le_add_right, implies_true,
        List.cons_subset, List.nil_subset, and_true, List.mem_cons, reduceCtorEq, true_or, or_true, false_or, or_false, hb₀];done)
    | (refine Evolves.foldl _ _ _ (fun u x => ?_) ?_ <;> try dsimp only)
    | (refine Evolves.foldl_fst _ _ _ (fun u x => ?_) ?_ <;> try dsimp only)
    | split)

end Sys2Proof.Machine
end

