-- ==== Sys2Proof/Laws/EvolveScan.lean ====
section
/-! SUPPORT. What the operations of Machine/Scan.lean keep (Evolves). -/

set_option linter.unusedSimpArgs false
set_option linter.unreachableTactic false
set_option linter.unusedTactic false
set_option linter.unusedVariables false

namespace Sys2Proof.Machine

theorem State.latchShed_evolves {ps₀ : List Part} {b₀ : State} (s : State)
    (hp₀ : [.regs, .scan] ⊆ ps₀) (hb₀ : Evolves ps₀ b₀ s) :
    Evolves ps₀ b₀ (State.latchShed s) := by
  simp only [List.cons_subset, List.nil_subset, and_true] at hp₀
  unfold State.latchShed
  try dsimp only
  repeat' (first
    | focus (simp (maxDischargeDepth := 60) only [↓State.setFld_evolves, ↓State.event_evolves, ↓Evolves.set_scan, ↓Evolves.foldl,
        ↓Evolves.foldl_fst, ↓Evolves.foldl_fetch, ↓Evolves.ite_fetch, ↓Evolves.ite, ↓Evolves.ite_fst, ↓Evolves.elim_opt,
        Evolves.refl, Nat.le_add_right, implies_true, List.cons_subset, List.nil_subset, and_true, hp₀, hb₀];done)
    | (refine Evolves.foldl_fetch _ _ _ (fun u x => ?_) ?_ <;> try dsimp only)
    | (refine Evolves.foldl _ _ _ (fun u x => ?_) ?_ <;> try dsimp only)
    | (refine Evolves.foldl_fst _ _ _ (fun u x => ?_) ?_ <;> try dsimp only)
    | split)

theorem State.repeatAll_evolves {ps₀ : List Part} {b₀ : State} (s : State) (m : LinkMsg)
    (hp₀ : [.sent] ⊆ ps₀) (hb₀ : Evolves ps₀ b₀ s) :
    Evolves ps₀ b₀ (State.repeatAll s m) := by
  simp only [List.cons_subset, List.nil_subset, and_true] at hp₀
  unfold State.repeatAll
  try dsimp only
  repeat' (first
    | focus (simp (maxDischargeDepth := 60) only [↓State.send_evolves, ↓Evolves.foldl, ↓Evolves.foldl_fst, ↓Evolves.foldl_fetch,
        ↓Evolves.ite_fetch, ↓Evolves.ite, ↓Evolves.ite_fst, ↓Evolves.elim_opt, Evolves.refl, Nat.le_add_right, implies_true,
        List.cons_subset, List.nil_subset, and_true, hp₀, hb₀];done)
    | (refine Evolves.foldl_fetch _ _ _ (fun u x => ?_) ?_ <;> try dsimp only)
    | (refine Evolves.foldl _ _ _ (fun u x => ?_) ?_ <;> try dsimp only)
    | (refine Evolves.foldl_fst _ _ _ (fun u x => ?_) ?_ <;> try dsimp only)
    | split)

theorem State.sendShedFlip_evolves {ps₀ : List Part} {b₀ : State} (s : State) (n : Nat)
    (hp₀ : [.sent, .link] ⊆ ps₀) (hb₀ : Evolves ps₀ b₀ s) :
    Evolves ps₀ b₀ (State.sendShedFlip s n) := by
  simp only [List.cons_subset, List.nil_subset, and_true] at hp₀
  unfold State.sendShedFlip
  try dsimp only
  repeat' (first
    | focus (simp (maxDischargeDepth := 60) only [↓State.repeatAll_evolves, ↓State.sendAll_evolves, ↓Evolves.foldl,
        ↓Evolves.foldl_fst, ↓Evolves.foldl_fetch, ↓Evolves.ite_fetch, ↓Evolves.ite, ↓Evolves.ite_fst, ↓Evolves.elim_opt,
        Evolves.refl, Nat.le_add_right, implies_true, List.cons_subset, List.nil_subset, and_true, hp₀, hb₀];done)
    | (refine Evolves.foldl_fetch _ _ _ (fun u x => ?_) ?_ <;> try dsimp only)
    | (refine Evolves.foldl _ _ _ (fun u x => ?_) ?_ <;> try dsimp only)
    | (refine Evolves.foldl_fst _ _ _ (fun u x => ?_) ?_ <;> try dsimp only)
    | split)

theorem State.setFrame_evolves {ps₀ : List Part} {b₀ : State} (s : State) (f : Option ScanFrame)
    (hp₀ : [.scan] ⊆ ps₀) (hb₀ : Evolves ps₀ b₀ s) :
    Evolves ps₀ b₀ (State.setFrame s f) := by
  simp only [List.cons_subset, List.nil_subset, and_true] at hp₀
  unfold State.setFrame
  try dsimp only
  repeat' (first
    | focus (simp (maxDischargeDepth := 60) only [↓Evolves.set_scan, ↓Evolves.foldl, ↓Evolves.foldl_fst, ↓Evolves.foldl_fetch,
        ↓Evolves.ite_fetch, ↓Evolves.ite, ↓Evolves.ite_fst, ↓Evolves.elim_opt, Evolves.refl, Nat.le_add_right, implies_true,
        List.cons_subset, List.nil_subset, and_true, hp₀, hb₀];done)
    | (refine Evolves.foldl_fetch _ _ _ (fun u x => ?_) ?_ <;> try dsimp only)
    | (refine Evolves.foldl _ _ _ (fun u x => ?_) ?_ <;> try dsimp only)
    | (refine Evolves.foldl_fst _ _ _ (fun u x => ?_) ?_ <;> try dsimp only)
    | split)

theorem execFlipSend_evolves (s : State) :
    ∃ t₁, execFlipSend s = .next t₁ ∧ Evolves [.cycles, .wall, .sent, .link, .scan] s t₁ := by
  have hb₀ := Evolves.refl [.cycles, .wall, .sent, .link, .scan] s
  unfold execFlipSend
  refine ⟨_, rfl, ?_⟩
  try dsimp only
  repeat' (first
    | focus (simp (maxDischargeDepth := 60) only [↓State.untilCycle_evolves, ↓State.setFrame_evolves, ↓State.sendAll_evolves,
        ↓Evolves.foldl, ↓Evolves.foldl_fst, ↓Evolves.foldl_fetch, ↓Evolves.ite_fetch, ↓Evolves.ite, ↓Evolves.ite_fst,
        ↓Evolves.elim_opt, Evolves.refl, Nat.le_add_right, implies_true, List.cons_subset, List.nil_subset, and_true,
        List.mem_cons, reduceCtorEq, true_or, or_true, false_or, or_false, hb₀];done)
    | (refine Evolves.foldl_fetch _ _ _ (fun u x => ?_) ?_ <;> try dsimp only)
    | (refine Evolves.foldl _ _ _ (fun u x => ?_) ?_ <;> try dsimp only)
    | (refine Evolves.foldl_fst _ _ _ (fun u x => ?_) ?_ <;> try dsimp only)
    | split)

theorem State.sendIfActive_evolves {ps₀ : List Part} {b₀ : State} (s : State) (p : Nat) (u : LinkUnit)
    (hp₀ : [.sent] ⊆ ps₀) (hb₀ : Evolves ps₀ b₀ s) :
    Evolves ps₀ b₀ (State.sendIfActive s p u) := by
  simp only [List.cons_subset, List.nil_subset, and_true] at hp₀
  unfold State.sendIfActive
  try dsimp only
  repeat' (first
    | focus (simp (maxDischargeDepth := 60) only [↓State.send_evolves, ↓Evolves.foldl, ↓Evolves.foldl_fst, ↓Evolves.foldl_fetch,
        ↓Evolves.ite_fetch, ↓Evolves.ite, ↓Evolves.ite_fst, ↓Evolves.elim_opt, Evolves.refl, Nat.le_add_right, implies_true,
        List.cons_subset, List.nil_subset, and_true, hp₀, hb₀];done)
    | (refine Evolves.foldl_fetch _ _ _ (fun u x => ?_) ?_ <;> try dsimp only)
    | (refine Evolves.foldl _ _ _ (fun u x => ?_) ?_ <;> try dsimp only)
    | (refine Evolves.foldl_fst _ _ _ (fun u x => ?_) ?_ <;> try dsimp only)
    | split)

theorem State.endTile_evolves {ps₀ : List Part} {b₀ : State} (s : State) (f : ScanFrame) (tile : Nat)
    (hp₀ : [.sent, .link] ⊆ ps₀) (hb₀ : Evolves ps₀ b₀ s) :
    Evolves ps₀ b₀ (State.endTile s f tile) := by
  simp only [List.cons_subset, List.nil_subset, and_true] at hp₀
  unfold State.endTile
  try dsimp only
  repeat' (first
    | focus (simp (maxDischargeDepth := 60) only [↓State.sendMsg_evolves, ↓Evolves.foldl, ↓Evolves.foldl_fst,
        ↓Evolves.foldl_fetch, ↓Evolves.ite_fetch, ↓Evolves.ite, ↓Evolves.ite_fst, ↓Evolves.elim_opt, Evolves.refl,
        Nat.le_add_right, implies_true, List.cons_subset, List.nil_subset, and_true, hp₀, hb₀];done)
    | (refine Evolves.foldl_fetch _ _ _ (fun u x => ?_) ?_ <;> try dsimp only)
    | (refine Evolves.foldl _ _ _ (fun u x => ?_) ?_ <;> try dsimp only)
    | (refine Evolves.foldl_fst _ _ _ (fun u x => ?_) ?_ <;> try dsimp only)
    | split)

theorem State.endChain_evolves {ps₀ : List Part} {b₀ : State} (s : State) (f : ScanFrame) (c : Nat)
    (hp₀ : [.sent, .link] ⊆ ps₀) (hb₀ : Evolves ps₀ b₀ s) :
    Evolves ps₀ b₀ (State.endChain s f c) := by
  simp only [List.cons_subset, List.nil_subset, and_true] at hp₀
  unfold State.endChain
  try dsimp only
  repeat' (first
    | focus (simp (maxDischargeDepth := 60) only [↓State.endTile_evolves, ↓Evolves.foldl, ↓Evolves.foldl_fst,
        ↓Evolves.foldl_fetch, ↓Evolves.ite_fetch, ↓Evolves.ite, ↓Evolves.ite_fst, ↓Evolves.elim_opt, Evolves.refl,
        Nat.le_add_right, implies_true, List.cons_subset, List.nil_subset, and_true, hp₀, hb₀];done)
    | (refine Evolves.foldl_fetch _ _ _ (fun u x => ?_) ?_ <;> try dsimp only)
    | (refine Evolves.foldl _ _ _ (fun u x => ?_) ?_ <;> try dsimp only)
    | (refine Evolves.foldl_fst _ _ _ (fun u x => ?_) ?_ <;> try dsimp only)
    | split)

theorem State.setTap_evolves {ps₀ : List Part} {b₀ : State} (s : State) (t : Nat) (x : TapState)
    (hp₀ : [.scan] ⊆ ps₀) (hb₀ : Evolves ps₀ b₀ s) :
    Evolves ps₀ b₀ (State.setTap s t x) := by
  simp only [List.cons_subset, List.nil_subset, and_true] at hp₀
  unfold State.setTap
  try dsimp only
  repeat' (first
    | focus (simp (maxDischargeDepth := 60) only [↓Evolves.set_scan, ↓Evolves.foldl, ↓Evolves.foldl_fst, ↓Evolves.foldl_fetch,
        ↓Evolves.ite_fetch, ↓Evolves.ite, ↓Evolves.ite_fst, ↓Evolves.elim_opt, Evolves.refl, Nat.le_add_right, implies_true,
        List.cons_subset, List.nil_subset, and_true, hp₀, hb₀];done)
    | (refine Evolves.foldl_fetch _ _ _ (fun u x => ?_) ?_ <;> try dsimp only)
    | (refine Evolves.foldl _ _ _ (fun u x => ?_) ?_ <;> try dsimp only)
    | (refine Evolves.foldl_fst _ _ _ (fun u x => ?_) ?_ <;> try dsimp only)
    | split)

theorem State.tapStore_evolves {ps₀ : List Part} {b₀ : State} (s : State) (f : ScanFrame) (t : Nat)
    (hp₀ : [.fresh, .dram, .scan] ⊆ ps₀) (hb₀ : Evolves ps₀ b₀ s) :
    Evolves ps₀ b₀ (State.tapStore s f t) := by
  simp only [List.cons_subset, List.nil_subset, and_true] at hp₀
  unfold State.tapStore
  try dsimp only
  repeat' (first
    | focus (simp (maxDischargeDepth := 60) only [↓State.pourMem_evolves, ↓State.setTap_evolves, ↓Evolves.foldl,
        ↓Evolves.foldl_fst, ↓Evolves.foldl_fetch, ↓Evolves.ite_fetch, ↓Evolves.ite, ↓Evolves.ite_fst, ↓Evolves.elim_opt,
        Evolves.refl, Nat.le_add_right, implies_true, List.cons_subset, List.nil_subset, and_true, hp₀, hb₀];done)
    | (refine Evolves.foldl_fetch _ _ _ (fun u x => ?_) ?_ <;> try dsimp only)
    | (refine Evolves.foldl _ _ _ (fun u x => ?_) ?_ <;> try dsimp only)
    | (refine Evolves.foldl_fst _ _ _ (fun u x => ?_) ?_ <;> try dsimp only)
    | split)

theorem State.scanEnds_evolves {ps₀ : List Part} {b₀ : State} (s : State) (f : ScanFrame)
    (hp₀ : [.regs, .fresh, .sent, .sched, .link, .repl, .faults, .nvm, .dram, .video, .scan, .red] ⊆ ps₀) (hb₀ : Evolves ps₀ b₀ s) :
    Evolves ps₀ b₀ (State.scanEnds s f) := by
  simp only [List.cons_subset, List.nil_subset, and_true] at hp₀
  unfold State.scanEnds
  try dsimp only
  repeat' (first
    | focus (simp (maxDischargeDepth := 60) only [↓State.setFlag_evolves, ↓State.setFld_evolves, ↓State.setFrame_evolves,
        ↓State.tapStore_evolves, ↓State.vfEnds_evolves, ↓Evolves.set_video, ↓Evolves.foldl, ↓Evolves.foldl_fst,
        ↓Evolves.foldl_fetch, ↓Evolves.ite_fetch, ↓Evolves.ite, ↓Evolves.ite_fst, ↓Evolves.elim_opt, Evolves.refl,
        Nat.le_add_right, implies_true, List.cons_subset, List.nil_subset, and_true, hp₀, hb₀];done)
    | (refine Evolves.foldl_fetch _ _ _ (fun u x => ?_) ?_ <;> try dsimp only)
    | (refine Evolves.foldl _ _ _ (fun u x => ?_) ?_ <;> try dsimp only)
    | (refine Evolves.foldl_fst _ _ _ (fun u x => ?_) ?_ <;> try dsimp only)
    | split)

theorem State.checkEnd_evolves {ps₀ : List Part} {b₀ : State} (s : State) (f : ScanFrame)
    (hp₀ : [.regs, .fresh, .sent, .sched, .link, .repl, .faults, .nvm, .dram, .video, .scan, .red] ⊆ ps₀) (hb₀ : Evolves ps₀ b₀ s) :
    Evolves ps₀ b₀ (State.checkEnd s f) := by
  simp only [List.cons_subset, List.nil_subset, and_true] at hp₀
  unfold State.checkEnd
  try dsimp only
  repeat' (first
    | focus (simp (maxDischargeDepth := 60) only [↓State.scanEnds_evolves, ↓State.setFrame_evolves, ↓Evolves.foldl,
        ↓Evolves.foldl_fst, ↓Evolves.foldl_fetch, ↓Evolves.ite_fetch, ↓Evolves.ite, ↓Evolves.ite_fst, ↓Evolves.elim_opt,
        Evolves.refl, Nat.le_add_right, implies_true, List.cons_subset, List.nil_subset, and_true, hp₀, hb₀];done)
    | (refine Evolves.foldl_fetch _ _ _ (fun u x => ?_) ?_ <;> try dsimp only)
    | (refine Evolves.foldl _ _ _ (fun u x => ?_) ?_ <;> try dsimp only)
    | (refine Evolves.foldl_fst _ _ _ (fun u x => ?_) ?_ <;> try dsimp only)
    | split)

theorem execFlipRepeat_evolves (s : State) :
    ∃ t₁, execFlipRepeat s = .next t₁ ∧ Evolves [.regs, .fresh, .cycles, .wall, .sent, .sched, .link, .repl, .faults, .nvm, .dram, .video, .scan, .red] s t₁ := by
  have hb₀ := Evolves.refl [.regs, .fresh, .cycles, .wall, .sent, .sched, .link, .repl, .faults, .nvm, .dram, .video, .scan, .red] s
  unfold execFlipRepeat
  refine ⟨_, rfl, ?_⟩
  try dsimp only
  repeat' (first
    | focus (simp (maxDischargeDepth := 60) only [↓State.untilCycle_evolves, ↓State.repeatAll_evolves, ↓State.endChain_evolves,
        ↓State.checkEnd_evolves, ↓Evolves.foldl, ↓Evolves.foldl_fst, ↓Evolves.foldl_fetch, ↓Evolves.ite_fetch, ↓Evolves.ite,
        ↓Evolves.ite_fst, ↓Evolves.elim_opt, Evolves.refl, Nat.le_add_right, implies_true, List.cons_subset, List.nil_subset,
        and_true, List.mem_cons, reduceCtorEq, true_or, or_true, false_or, or_false, hb₀];done)
    | (refine Evolves.foldl_fetch _ _ _ (fun u x => ?_) ?_ <;> try dsimp only)
    | (refine Evolves.foldl _ _ _ (fun u x => ?_) ?_ <;> try dsimp only)
    | (refine Evolves.foldl_fst _ _ _ (fun u x => ?_) ?_ <;> try dsimp only)
    | split)

theorem State.renderRun_evolves {ps₀ : List Part} {b₀ : State} (s : State) (view : Nat) (rs : List GntRegion) (ps : List (Nat × Nat))
    (hp₀ : [.regs, .fresh, .sent, .link, .repl, .faults, .nvm, .dram, .red] ⊆ ps₀) (hb₀ : Evolves ps₀ b₀ s) :
    Evolves ps₀ b₀ (State.renderRun s view rs ps).1 := by
  simp only [List.cons_subset, List.nil_subset, and_true] at hp₀
  unfold State.renderRun
  try dsimp only
  repeat' (first
    | focus (simp (maxDischargeDepth := 60) only [↓Fetch.pixel_evolves, ↓Evolves.foldl, ↓Evolves.foldl_fst, ↓Evolves.foldl_fetch,
        ↓Evolves.ite_fetch, ↓Evolves.ite, ↓Evolves.ite_fst, ↓Evolves.elim_opt, Evolves.refl, Nat.le_add_right, implies_true,
        List.cons_subset, List.nil_subset, and_true, hp₀, hb₀];done)
    | (refine Evolves.foldl_fetch _ _ _ (fun u x => ?_) ?_ <;> try dsimp only)
    | (refine Evolves.foldl _ _ _ (fun u x => ?_) ?_ <;> try dsimp only)
    | (refine Evolves.foldl_fst _ _ _ (fun u x => ?_) ?_ <;> try dsimp only)
    | split)

theorem State.tapRun_evolves {ps₀ : List Part} {b₀ : State} (s : State) (view : Nat) (ps : List (Nat × Nat)) (codes : List Nat)
    (hp₀ : [.scan] ⊆ ps₀) (hb₀ : Evolves ps₀ b₀ s) :
    Evolves ps₀ b₀ (State.tapRun s view ps codes) := by
  simp only [List.cons_subset, List.nil_subset, and_true] at hp₀
  unfold State.tapRun
  try dsimp only
  repeat' (first
    | focus (simp (maxDischargeDepth := 60) only [↓State.setTap_evolves, ↓Evolves.foldl, ↓Evolves.foldl_fst, ↓Evolves.foldl_fetch,
        ↓Evolves.ite_fetch, ↓Evolves.ite, ↓Evolves.ite_fst, ↓Evolves.elim_opt, Evolves.refl, Nat.le_add_right, implies_true,
        List.cons_subset, List.nil_subset, and_true, hp₀, hb₀];done)
    | (refine Evolves.foldl_fetch _ _ _ (fun u x => ?_) ?_ <;> try dsimp only)
    | (refine Evolves.foldl _ _ _ (fun u x => ?_) ?_ <;> try dsimp only)
    | (refine Evolves.foldl_fst _ _ _ (fun u x => ?_) ?_ <;> try dsimp only)
    | split)

theorem State.moduleSent_evolves {ps₀ : List Part} {b₀ : State} (s : State) (f : ScanFrame) (c e : Nat)
    (hp₀ : [.regs, .fresh, .sent, .sched, .link, .repl, .faults, .nvm, .dram, .video, .scan, .red] ⊆ ps₀) (hb₀ : Evolves ps₀ b₀ s) :
    Evolves ps₀ b₀ (State.moduleSent s f c e) := by
  simp only [List.cons_subset, List.nil_subset, and_true] at hp₀
  unfold State.moduleSent
  try dsimp only
  repeat' (first
    | focus (simp (maxDischargeDepth := 60) only [↓State.endTile_evolves, ↓State.endChain_evolves, ↓State.checkEnd_evolves,
        ↓Evolves.foldl, ↓Evolves.foldl_fst, ↓Evolves.foldl_fetch, ↓Evolves.ite_fetch, ↓Evolves.ite, ↓Evolves.ite_fst,
        ↓Evolves.elim_opt, Evolves.refl, Nat.le_add_right, implies_true, List.cons_subset, List.nil_subset, and_true, hp₀,
        hb₀];done)
    | (refine Evolves.foldl_fetch _ _ _ (fun u x => ?_) ?_ <;> try dsimp only)
    | (refine Evolves.foldl _ _ _ (fun u x => ?_) ?_ <;> try dsimp only)
    | (refine Evolves.foldl_fst _ _ _ (fun u x => ?_) ?_ <;> try dsimp only)
    | split)

theorem State.scanBurst_evolves {ps₀ : List Part} {b₀ : State} (s : State) (f : ScanFrame) (stalls : Nat)
    (hp₀ : [.regs, .fresh, .sent, .sched, .link, .repl, .faults, .nvm, .dram, .video, .scan, .red] ⊆ ps₀) (hb₀ : Evolves ps₀ b₀ s) :
    Evolves ps₀ b₀ (State.scanBurst s f stalls) := by
  simp only [List.cons_subset, List.nil_subset, and_true] at hp₀
  unfold State.scanBurst
  try dsimp only
  repeat' (first
    | focus (simp (maxDischargeDepth := 60) only [↓State.renderRun_evolves, ↓State.bumpBy_evolves, ↓State.tapRun_evolves,
        ↓State.sendIfActive_evolves, ↓State.setFld_evolves, ↓State.setFrame_evolves, ↓State.moduleSent_evolves, ↓Evolves.foldl,
        ↓Evolves.foldl_fst, ↓Evolves.foldl_fetch, ↓Evolves.ite_fetch, ↓Evolves.ite, ↓Evolves.ite_fst, ↓Evolves.elim_opt,
        Evolves.refl, Nat.le_add_right, implies_true, List.cons_subset, List.nil_subset, and_true, hp₀, hb₀];done)
    | (refine Evolves.foldl_fetch _ _ _ (fun u x => ?_) ?_ <;> try dsimp only)
    | (refine Evolves.foldl _ _ _ (fun u x => ?_) ?_ <;> try dsimp only)
    | (refine Evolves.foldl_fst _ _ _ (fun u x => ?_) ?_ <;> try dsimp only)
    | split)

theorem execScanOutBurst_evolves (stalls : Nat) (s : State) :
    ∃ t₁, execScanOutBurst stalls s = .next t₁ ∧ Evolves [.regs, .fresh, .sent, .sched, .link, .repl, .faults, .nvm, .dram, .video, .scan, .red] s t₁ := by
  have hb₀ := Evolves.refl [.regs, .fresh, .sent, .sched, .link, .repl, .faults, .nvm, .dram, .video, .scan, .red] s
  unfold execScanOutBurst
  refine ⟨_, rfl, ?_⟩
  try dsimp only
  repeat' (first
    | focus (simp (maxDischargeDepth := 60) only [↓State.scanBurst_evolves, ↓Evolves.foldl, ↓Evolves.foldl_fst,
        ↓Evolves.foldl_fetch, ↓Evolves.ite_fetch, ↓Evolves.ite, ↓Evolves.ite_fst, ↓Evolves.elim_opt, Evolves.refl,
        Nat.le_add_right, implies_true, List.cons_subset, List.nil_subset, and_true, List.mem_cons, reduceCtorEq, true_or,
        or_true, false_or, or_false, hb₀];done)
    | (refine Evolves.foldl_fetch _ _ _ (fun u x => ?_) ?_ <;> try dsimp only)
    | (refine Evolves.foldl _ _ _ (fun u x => ?_) ?_ <;> try dsimp only)
    | (refine Evolves.foldl_fst _ _ _ (fun u x => ?_) ?_ <;> try dsimp only)
    | split)

theorem State.scanLate_evolves {ps₀ : List Part} {b₀ : State} (s : State) (n : Nat)
    (hp₀ : [.regs, .video, .scan] ⊆ ps₀) (hb₀ : Evolves ps₀ b₀ s) :
    Evolves ps₀ b₀ (State.scanLate s n) := by
  simp only [List.cons_subset, List.nil_subset, and_true] at hp₀
  unfold State.scanLate
  try dsimp only
  repeat' (first
    | focus (simp (maxDischargeDepth := 60) only [↓State.event_evolves, ↓State.bump_evolves, ↓State.setFrame_evolves,
        ↓State.setFlag_evolves, ↓State.setFld_evolves, ↓Evolves.set_video, ↓Evolves.foldl, ↓Evolves.foldl_fst,
        ↓Evolves.foldl_fetch, ↓Evolves.ite_fetch, ↓Evolves.ite, ↓Evolves.ite_fst, ↓Evolves.elim_opt, Evolves.refl,
        Nat.le_add_right, implies_true, List.cons_subset, List.nil_subset, and_true, hp₀, hb₀];done)
    | (refine Evolves.foldl_fetch _ _ _ (fun u x => ?_) ?_ <;> try dsimp only)
    | (refine Evolves.foldl _ _ _ (fun u x => ?_) ?_ <;> try dsimp only)
    | (refine Evolves.foldl_fst _ _ _ (fun u x => ?_) ?_ <;> try dsimp only)
    | split)

theorem State.holdSources_evolves {ps₀ : List Part} {b₀ : State} (s : State)
    (hp₀ : [.video] ⊆ ps₀) (hb₀ : Evolves ps₀ b₀ s) :
    Evolves ps₀ b₀ (State.holdSources s) := by
  simp only [List.cons_subset, List.nil_subset, and_true] at hp₀
  unfold State.holdSources
  try dsimp only
  repeat' (first
    | focus (simp (maxDischargeDepth := 60) only [↓Evolves.set_video, ↓Evolves.foldl, ↓Evolves.foldl_fst, ↓Evolves.foldl_fetch,
        ↓Evolves.ite_fetch, ↓Evolves.ite, ↓Evolves.ite_fst, ↓Evolves.elim_opt, Evolves.refl, Nat.le_add_right, implies_true,
        List.cons_subset, List.nil_subset, and_true, hp₀, hb₀];done)
    | (refine Evolves.foldl_fetch _ _ _ (fun u x => ?_) ?_ <;> try dsimp only)
    | (refine Evolves.foldl _ _ _ (fun u x => ?_) ?_ <;> try dsimp only)
    | (refine Evolves.foldl_fst _ _ _ (fun u x => ?_) ?_ <;> try dsimp only)
    | split)

theorem State.latchFrame_evolves {ps₀ : List Part} {b₀ : State} (s : State) (m : Nat)
    (hp₀ : [.regs, .fresh, .sent, .txn, .link, .repl, .faults, .nvm, .dram, .video, .scan, .red] ⊆ ps₀) (hb₀ : Evolves ps₀ b₀ s) :
    Evolves ps₀ b₀ (State.latchFrame s m) := by
  simp only [List.cons_subset, List.nil_subset, and_true] at hp₀
  unfold State.latchFrame
  try dsimp only
  repeat' (first
    | focus (simp (maxDischargeDepth := 60) only [↓State.holdSources_evolves, ↓State.latchFences_evolves,
        ↓State.gauntletPass_evolves, ↓State.setFld_evolves, ↓State.setFrame_evolves, ↓State.setFlag_evolves, ↓Evolves.set_scan,
        ↓Evolves.foldl, ↓Evolves.foldl_fst, ↓Evolves.foldl_fetch, ↓Evolves.ite_fetch, ↓Evolves.ite, ↓Evolves.ite_fst,
        ↓Evolves.elim_opt, Evolves.refl, Nat.le_add_right, implies_true, List.cons_subset, List.nil_subset, and_true, hp₀,
        hb₀];done)
    | (refine Evolves.foldl_fetch _ _ _ (fun u x => ?_) ?_ <;> try dsimp only)
    | (refine Evolves.foldl _ _ _ (fun u x => ?_) ?_ <;> try dsimp only)
    | (refine Evolves.foldl_fst _ _ _ (fun u x => ?_) ?_ <;> try dsimp only)
    | split)

theorem State.senderLatch_evolves {ps₀ : List Part} {b₀ : State} (s : State) (n : Nat)
    (hp₀ : [.regs, .fresh, .sent, .txn, .link, .repl, .faults, .nvm, .dram, .video, .scan, .red] ⊆ ps₀) (hb₀ : Evolves ps₀ b₀ s) :
    Evolves ps₀ b₀ (State.senderLatch s n) := by
  simp only [List.cons_subset, List.nil_subset, and_true] at hp₀
  unfold State.senderLatch
  try dsimp only
  repeat' (first
    | focus (simp (maxDischargeDepth := 60) only [↓State.latchShed_evolves, ↓State.latchDiv_evolves, ↓State.latchFrame_evolves,
        ↓State.sendShedFlip_evolves, ↓Evolves.foldl, ↓Evolves.foldl_fst, ↓Evolves.foldl_fetch, ↓Evolves.ite_fetch, ↓Evolves.ite,
        ↓Evolves.ite_fst, ↓Evolves.elim_opt, Evolves.refl, Nat.le_add_right, implies_true, List.cons_subset, List.nil_subset,
        and_true, hp₀, hb₀];done)
    | (refine Evolves.foldl_fetch _ _ _ (fun u x => ?_) ?_ <;> try dsimp only)
    | (refine Evolves.foldl _ _ _ (fun u x => ?_) ?_ <;> try dsimp only)
    | (refine Evolves.foldl_fst _ _ _ (fun u x => ?_) ?_ <;> try dsimp only)
    | split)

theorem State.tapFlip_evolves {ps₀ : List Part} {b₀ : State} (s : State) (n t : Nat)
    (hp₀ : [.regs, .sent, .scan] ⊆ ps₀) (hb₀ : Evolves ps₀ b₀ s) :
    Evolves ps₀ b₀ (State.tapFlip s n t) := by
  simp only [List.cons_subset, List.nil_subset, and_true] at hp₀
  unfold State.tapFlip
  try dsimp only
  repeat' (first
    | focus (simp (maxDischargeDepth := 60) only [↓State.send_evolves, ↓State.wrapInc_evolves, ↓State.setTap_evolves,
        ↓State.event_evolves, ↓State.bump_evolves, ↓Evolves.foldl, ↓Evolves.foldl_fst, ↓Evolves.foldl_fetch, ↓Evolves.ite_fetch,
        ↓Evolves.ite, ↓Evolves.ite_fst, ↓Evolves.elim_opt, Evolves.refl, Nat.le_add_right, implies_true, List.cons_subset,
        List.nil_subset, and_true, hp₀, hb₀];done)
    | (refine Evolves.foldl_fetch _ _ _ (fun u x => ?_) ?_ <;> try dsimp only)
    | (refine Evolves.foldl _ _ _ (fun u x => ?_) ?_ <;> try dsimp only)
    | (refine Evolves.foldl_fst _ _ _ (fun u x => ?_) ?_ <;> try dsimp only)
    | split)

theorem State.startFlow_evolves {ps₀ : List Part} {b₀ : State} (s : State) (n t : Nat)
    (hp₀ : [.scan] ⊆ ps₀) (hb₀ : Evolves ps₀ b₀ s) :
    Evolves ps₀ b₀ (State.startFlow s n t) := by
  simp only [List.cons_subset, List.nil_subset, and_true] at hp₀
  unfold State.startFlow
  try dsimp only
  repeat' (first
    | focus (simp (maxDischargeDepth := 60) only [↓State.setTap_evolves, ↓Evolves.foldl, ↓Evolves.foldl_fst, ↓Evolves.foldl_fetch,
        ↓Evolves.ite_fetch, ↓Evolves.ite, ↓Evolves.ite_fst, ↓Evolves.elim_opt, Evolves.refl, Nat.le_add_right, implies_true,
        List.cons_subset, List.nil_subset, and_true, hp₀, hb₀];done)
    | (refine Evolves.foldl_fetch _ _ _ (fun u x => ?_) ?_ <;> try dsimp only)
    | (refine Evolves.foldl _ _ _ (fun u x => ?_) ?_ <;> try dsimp only)
    | (refine Evolves.foldl_fst _ _ _ (fun u x => ?_) ?_ <;> try dsimp only)
    | split)

theorem State.tapFlips_evolves {ps₀ : List Part} {b₀ : State} (s : State) (n : Nat)
    (hp₀ : [.regs, .sent, .scan] ⊆ ps₀) (hb₀ : Evolves ps₀ b₀ s) :
    Evolves ps₀ b₀ (State.tapFlips s n) := by
  simp only [List.cons_subset, List.nil_subset, and_true] at hp₀
  unfold State.tapFlips
  try dsimp only
  repeat' (first
    | focus (simp (maxDischargeDepth := 60) only [↓State.tapFlip_evolves, ↓State.startFlow_evolves, ↓Evolves.foldl,
        ↓Evolves.foldl_fst, ↓Evolves.foldl_fetch, ↓Evolves.ite_fetch, ↓Evolves.ite, ↓Evolves.ite_fst, ↓Evolves.elim_opt,
        Evolves.refl, Nat.le_add_right, implies_true, List.cons_subset, List.nil_subset, and_true, hp₀, hb₀];done)
    | (refine Evolves.foldl_fetch _ _ _ (fun u x => ?_) ?_ <;> try dsimp only)
    | (refine Evolves.foldl _ _ _ (fun u x => ?_) ?_ <;> try dsimp only)
    | (refine Evolves.foldl_fst _ _ _ (fun u x => ?_) ?_ <;> try dsimp only)
    | split)

theorem State.swapMap_evolves {ps₀ : List Part} {b₀ : State} (s : State)
    (hp₀ : [.regs, .map, .scan] ⊆ ps₀) (hb₀ : Evolves ps₀ b₀ s) :
    Evolves ps₀ b₀ (State.swapMap s) := by
  simp only [List.cons_subset, List.nil_subset, and_true] at hp₀
  have step : ∀ u : State, Evolves ps₀ b₀ u → ∀ x : ScanState,
      Evolves ps₀ b₀ { u with map := { active := u.map.staging, staging := u.map.active }, scan := x } := fun u hu x =>
    Evolves.change (s := u) (h := hu) _ (fun p hn => by cases p <;> first | rfl | simp_all) rfl rfl rfl rfl
      (fun hc => ⟨hc.1, hc.2.1, hc.2.2.2.1, hc.2.2.1, hc.2.2.2.2⟩)
  unfold State.swapMap
  dsimp only
  refine State.setFlag_evolves _ _ _ (by simp [hp₀]) (State.setFld_evolves _ _ _ (by simp [hp₀]) (step _ ?_ _))
  split
  · exact hb₀
  · exact State.event_evolves _ _ (by simp [hp₀]) hb₀

theorem execMapCopyDone_evolves (s : State) :
    ∃ t₁, execMapCopyDone s = .next t₁ ∧ Evolves [.regs, .map, .scan] s t₁ := by
  refine ⟨_, rfl, ?_⟩
  dsimp only
  split
  · refine State.event_evolves _ _ (by simp) (State.setFlag_evolves _ _ _ (by simp) (State.setFlag_evolves _ _ _ (by simp) ?_))
    exact Evolves.change (s := s) (h := Evolves.refl _ s) _ (fun p hn => by cases p <;> first | rfl | simp_all) rfl rfl rfl rfl
      (fun hc => ⟨hc.1, hc.2.1, hc.2.2.1, hc.2.2.1, hc.2.2.2.2⟩)
  · exact Evolves.refl _ s

theorem State.reactViews_evolves {ps₀ : List Part} {b₀ : State} (s : State)
    (hp₀ : [.scan] ⊆ ps₀) (hb₀ : Evolves ps₀ b₀ s) :
    Evolves ps₀ b₀ (State.reactViews s) := by
  simp only [List.cons_subset, List.nil_subset, and_true] at hp₀
  unfold State.reactViews
  try dsimp only
  repeat' (first
    | focus (simp (maxDischargeDepth := 60) only [↓Evolves.set_scan, ↓Evolves.foldl, ↓Evolves.foldl_fst, ↓Evolves.foldl_fetch,
        ↓Evolves.ite_fetch, ↓Evolves.ite, ↓Evolves.ite_fst, ↓Evolves.elim_opt, Evolves.refl, Nat.le_add_right, implies_true,
        List.cons_subset, List.nil_subset, and_true, hp₀, hb₀];done)
    | (refine Evolves.foldl_fetch _ _ _ (fun u x => ?_) ?_ <;> try dsimp only)
    | (refine Evolves.foldl _ _ _ (fun u x => ?_) ?_ <;> try dsimp only)
    | (refine Evolves.foldl_fst _ _ _ (fun u x => ?_) ?_ <;> try dsimp only)
    | split)

theorem State.reactReads_evolves {ps₀ : List Part} {b₀ : State} (s : State)
    (hp₀ : [.regs] ⊆ ps₀) (hb₀ : Evolves ps₀ b₀ s) :
    Evolves ps₀ b₀ (State.reactReads s) := by
  simp only [List.cons_subset, List.nil_subset, and_true] at hp₀
  unfold State.reactReads
  try dsimp only
  repeat' (first
    | focus (simp (maxDischargeDepth := 60) only [↓State.setFld_evolves, ↓Evolves.foldl, ↓Evolves.foldl_fst, ↓Evolves.foldl_fetch,
        ↓Evolves.ite_fetch, ↓Evolves.ite, ↓Evolves.ite_fst, ↓Evolves.elim_opt, Evolves.refl, Nat.le_add_right, implies_true,
        List.cons_subset, List.nil_subset, and_true, hp₀, hb₀];done)
    | (refine Evolves.foldl_fetch _ _ _ (fun u x => ?_) ?_ <;> try dsimp only)
    | (refine Evolves.foldl _ _ _ (fun u x => ?_) ?_ <;> try dsimp only)
    | (refine Evolves.foldl_fst _ _ _ (fun u x => ?_) ?_ <;> try dsimp only)
    | split)

theorem State.reactCompositor_evolves {ps₀ : List Part} {b₀ : State} (before s : State) (chs : List Change)
    (hp₀ : [.regs, .txn, .map, .scan] ⊆ ps₀) (hb₀ : Evolves ps₀ b₀ s) :
    Evolves ps₀ b₀ (State.reactCompositor before s chs) := by
  simp only [List.cons_subset, List.nil_subset, and_true] at hp₀
  unfold State.reactCompositor
  try dsimp only
  repeat' (first
    | focus (simp (maxDischargeDepth := 60) only [↓State.reactFences_evolves, ↓State.reactReads_evolves,
        ↓State.reactViews_evolves, ↓State.swapMap_evolves, ↓Evolves.foldl, ↓Evolves.foldl_fst, ↓Evolves.foldl_fetch,
        ↓Evolves.ite_fetch, ↓Evolves.ite, ↓Evolves.ite_fst, ↓Evolves.elim_opt, Evolves.refl, Nat.le_add_right, implies_true,
        List.cons_subset, List.nil_subset, and_true, hp₀, hb₀];done)
    | (refine Evolves.foldl_fetch _ _ _ (fun u x => ?_) ?_ <;> try dsimp only)
    | (refine Evolves.foldl _ _ _ (fun u x => ?_) ?_ <;> try dsimp only)
    | (refine Evolves.foldl_fst _ _ _ (fun u x => ?_) ?_ <;> try dsimp only)
    | split)

theorem execRetrain_evolves (channel : Nat) (s : State) :
    ∃ t₁, execRetrain channel s = .next t₁ ∧ Evolves [.regs] s t₁ := by
  have hb₀ := Evolves.refl [.regs] s
  unfold execRetrain
  refine ⟨_, rfl, ?_⟩
  try dsimp only
  repeat' (first
    | focus (simp (maxDischargeDepth := 60) only [↓State.startRetrain_evolves, ↓Evolves.foldl, ↓Evolves.foldl_fst,
        ↓Evolves.foldl_fetch, ↓Evolves.ite_fetch, ↓Evolves.ite, ↓Evolves.ite_fst, ↓Evolves.elim_opt, Evolves.refl,
        Nat.le_add_right, implies_true, List.cons_subset, List.nil_subset, and_true, List.mem_cons, reduceCtorEq, true_or,
        or_true, false_or, or_false, hb₀];done)
    | (refine Evolves.foldl_fetch _ _ _ (fun u x => ?_) ?_ <;> try dsimp only)
    | (refine Evolves.foldl _ _ _ (fun u x => ?_) ?_ <;> try dsimp only)
    | (refine Evolves.foldl_fst _ _ _ (fun u x => ?_) ?_ <;> try dsimp only)
    | split)

end Sys2Proof.Machine
end

