-- ==== Sys2Proof/Laws/EvolveLink.lean ====
section
/-! SUPPORT. What the operations of Machine/Link.lean keep (Evolves). -/

set_option linter.unusedSimpArgs false
set_option linter.unreachableTactic false
set_option linter.unusedTactic false
set_option linter.unusedVariables false

namespace Sys2Proof.Machine

theorem State.relayMsg_evolves {ps₀ : List Part} {b₀ : State} (s : State) (m : MsgHdr) (b : LinkMsg)
    (hp₀ : [.sent] ⊆ ps₀) (hb₀ : Evolves ps₀ b₀ s) :
    Evolves ps₀ b₀ (State.relayMsg s m b) := by
  simp only [List.cons_subset, List.nil_subset, and_true] at hp₀
  unfold State.relayMsg
  try dsimp only
  repeat' (first
    | focus (simp (maxDischargeDepth := 60) only [↓State.send_evolves, ↓Evolves.foldl, ↓Evolves.foldl_fst, ↓Evolves.ite,
        ↓Evolves.ite_fst, ↓Evolves.elim_opt, Evolves.refl, Nat.le_add_right, implies_true, List.cons_subset, List.nil_subset,
        and_true, hp₀, hb₀];done)
    | (refine Evolves.foldl _ _ _ (fun u x => ?_) ?_ <;> try dsimp only)
    | (refine Evolves.foldl_fst _ _ _ (fun u x => ?_) ?_ <;> try dsimp only)
    | split)

theorem State.claimDiscard_evolves {ps₀ : List Part} {b₀ : State} (s : State)
    (hp₀ : [.regs, .link] ⊆ ps₀) (hb₀ : Evolves ps₀ b₀ s) :
    Evolves ps₀ b₀ (State.claimDiscard s) := by
  simp only [List.cons_subset, List.nil_subset, and_true] at hp₀
  unfold State.claimDiscard
  try dsimp only
  repeat' (first
    | focus (simp (maxDischargeDepth := 60) only [↓State.eventCount_evolves, ↓Evolves.set_link, ↓Evolves.foldl,
        ↓Evolves.foldl_fst, ↓Evolves.ite, ↓Evolves.ite_fst, ↓Evolves.elim_opt, Evolves.refl, Nat.le_add_right, implies_true,
        List.cons_subset, List.nil_subset, and_true, hp₀, hb₀];done)
    | (refine Evolves.foldl _ _ _ (fun u x => ?_) ?_ <;> try dsimp only)
    | (refine Evolves.foldl_fst _ _ _ (fun u x => ?_) ?_ <;> try dsimp only)
    | split)

theorem State.keepSeq_evolves {ps₀ : List Part} {b₀ : State} (s : State) (src n : Nat)
    (hp₀ : [.link] ⊆ ps₀) (hb₀ : Evolves ps₀ b₀ s) :
    Evolves ps₀ b₀ (State.keepSeq s src n) := by
  simp only [List.cons_subset, List.nil_subset, and_true] at hp₀
  unfold State.keepSeq
  try dsimp only
  repeat' (first
    | focus (simp (maxDischargeDepth := 60) only [↓Evolves.set_link, ↓Evolves.foldl, ↓Evolves.foldl_fst, ↓Evolves.ite,
        ↓Evolves.ite_fst, ↓Evolves.elim_opt, Evolves.refl, Nat.le_add_right, implies_true, List.cons_subset, List.nil_subset,
        and_true, hp₀, hb₀];done)
    | (refine Evolves.foldl _ _ _ (fun u x => ?_) ?_ <;> try dsimp only)
    | (refine Evolves.foldl_fst _ _ _ (fun u x => ?_) ?_ <;> try dsimp only)
    | split)

theorem State.noteRestarts_evolves {ps₀ : List Part} {b₀ : State} (s : State) (src n : Nat)
    (hp₀ : [.link] ⊆ ps₀) (hb₀ : Evolves ps₀ b₀ s) :
    Evolves ps₀ b₀ (State.noteRestarts s src n) := by
  simp only [List.cons_subset, List.nil_subset, and_true] at hp₀
  unfold State.noteRestarts
  try dsimp only
  repeat' (first
    | focus (simp (maxDischargeDepth := 60) only [↓Evolves.set_link, ↓Evolves.foldl, ↓Evolves.foldl_fst, ↓Evolves.ite,
        ↓Evolves.ite_fst, ↓Evolves.elim_opt, Evolves.refl, Nat.le_add_right, implies_true, List.cons_subset, List.nil_subset,
        and_true, hp₀, hb₀];done)
    | (refine Evolves.foldl _ _ _ (fun u x => ?_) ?_ <;> try dsimp only)
    | (refine Evolves.foldl_fst _ _ _ (fun u x => ?_) ?_ <;> try dsimp only)
    | split)

theorem State.tileRestarts_evolves {ps₀ : List Part} {b₀ : State} (s : State) (m : MsgHdr) (tile n : Nat)
    (hp₀ : [.link] ⊆ ps₀) (hb₀ : Evolves ps₀ b₀ s) :
    Evolves ps₀ b₀ (State.tileRestarts s m tile n) := by
  simp only [List.cons_subset, List.nil_subset, and_true] at hp₀
  unfold State.tileRestarts
  try dsimp only
  repeat' (first
    | focus (simp (maxDischargeDepth := 60) only [↓State.noteRestarts_evolves, ↓Evolves.foldl, ↓Evolves.foldl_fst, ↓Evolves.ite,
        ↓Evolves.ite_fst, ↓Evolves.elim_opt, Evolves.refl, Nat.le_add_right, implies_true, List.cons_subset, List.nil_subset,
        and_true, hp₀, hb₀];done)
    | (refine Evolves.foldl _ _ _ (fun u x => ?_) ?_ <;> try dsimp only)
    | (refine Evolves.foldl_fst _ _ _ (fun u x => ?_) ?_ <;> try dsimp only)
    | split)

theorem State.ackMsg_evolves {ps₀ : List Part} {b₀ : State} (s : State) (m : MsgHdr) (x : Status)
    (hp₀ : [.sent, .link] ⊆ ps₀) (hb₀ : Evolves ps₀ b₀ s) :
    Evolves ps₀ b₀ (State.ackMsg s m x) := by
  simp only [List.cons_subset, List.nil_subset, and_true] at hp₀
  unfold State.ackMsg
  try dsimp only
  repeat' (first
    | focus (simp (maxDischargeDepth := 60) only [↓State.sendMsg_evolves, ↓Evolves.foldl, ↓Evolves.foldl_fst, ↓Evolves.ite,
        ↓Evolves.ite_fst, ↓Evolves.elim_opt, Evolves.refl, Nat.le_add_right, implies_true, List.cons_subset, List.nil_subset,
        and_true, hp₀, hb₀];done)
    | (refine Evolves.foldl _ _ _ (fun u x => ?_) ?_ <;> try dsimp only)
    | (refine Evolves.foldl_fst _ _ _ (fun u x => ?_) ?_ <;> try dsimp only)
    | split)

theorem State.blockSeen_evolves {ps₀ : List Part} {b₀ : State} (s : State) (p : Nat)
    (hp₀ : [.link] ⊆ ps₀) (hb₀ : Evolves ps₀ b₀ s) :
    Evolves ps₀ b₀ (State.blockSeen s p) := by
  simp only [List.cons_subset, List.nil_subset, and_true] at hp₀
  unfold State.blockSeen
  try dsimp only
  repeat' (first
    | focus (simp (maxDischargeDepth := 60) only [↓State.setPort_evolves, ↓Evolves.foldl, ↓Evolves.foldl_fst, ↓Evolves.ite,
        ↓Evolves.ite_fst, ↓Evolves.elim_opt, Evolves.refl, Nat.le_add_right, implies_true, List.cons_subset, List.nil_subset,
        and_true, hp₀, hb₀];done)
    | (refine Evolves.foldl _ _ _ (fun u x => ?_) ?_ <;> try dsimp only)
    | (refine Evolves.foldl_fst _ _ _ (fun u x => ?_) ?_ <;> try dsimp only)
    | split)

theorem State.receive_evolves {ps₀ : List Part} {b₀ : State} (s : State) (m : MsgHdr) (b : LinkMsg) (exempt : Bool) (act : State → State × Status)
    (hp₀ : [.regs, .sent, .link] ⊆ ps₀) (ha₀ : ∀ u, Evolves ps₀ u (act u).1) (hb₀ : Evolves ps₀ b₀ s) :
    Evolves ps₀ b₀ (State.receive s m b exempt act) := by
  simp only [List.cons_subset, List.nil_subset, and_true] at hp₀
  have ha : ∀ b u, Evolves ps₀ b u → Evolves ps₀ b (act u).1 := fun b u h => h.trans (ha₀ u)
  unfold State.receive
  dsimp only
  repeat' (first | focus (simp (maxDischargeDepth := 60) only [↓State.blockSeen_evolves, ↓State.eventCount_evolves,
      ↓State.relayMsg_evolves, ↓State.claimDiscard_evolves, ↓State.ackMsg_evolves, ↓State.keepSeq_evolves, ↓Evolves.ite, ↓ha,
      Evolves.refl, List.cons_subset, List.nil_subset, and_true, hp₀, hb₀];done) | split)

theorem State.receiveOk_evolves {ps₀ : List Part} {b₀ : State} (s : State) (m : MsgHdr) (b : LinkMsg) (exempt : Bool) (act : State → State)
    (hp₀ : [.regs, .sent, .link] ⊆ ps₀) (ha₀ : ∀ u, Evolves ps₀ u (act u)) (hb₀ : Evolves ps₀ b₀ s) :
    Evolves ps₀ b₀ (State.receiveOk s m b exempt act) := State.receive_evolves s m b exempt _ hp₀ ha₀ hb₀

theorem State.sendTileInfo_evolves {ps₀ : List Part} {b₀ : State} (s : State)
    (hp₀ : [.sent, .link] ⊆ ps₀) (hb₀ : Evolves ps₀ b₀ s) :
    Evolves ps₀ b₀ (State.sendTileInfo s) := by
  simp only [List.cons_subset, List.nil_subset, and_true] at hp₀
  unfold State.sendTileInfo
  try dsimp only
  repeat' (first
    | focus (simp (maxDischargeDepth := 60) only [↓State.sendBoth_evolves, ↓Evolves.foldl, ↓Evolves.foldl_fst, ↓Evolves.ite,
        ↓Evolves.ite_fst, ↓Evolves.elim_opt, Evolves.refl, Nat.le_add_right, implies_true, List.cons_subset, List.nil_subset,
        and_true, hp₀, hb₀];done)
    | (refine Evolves.foldl _ _ _ (fun u x => ?_) ?_ <;> try dsimp only)
    | (refine Evolves.foldl_fst _ _ _ (fun u x => ?_) ?_ <;> try dsimp only)
    | split)

theorem State.tileClaim_evolves {ps₀ : List Part} {b₀ : State} (s : State) (c : Claim) (port : Nat)
    (hp₀ : [.regs, .sent, .link] ⊆ ps₀) (hb₀ : Evolves ps₀ b₀ s) :
    Evolves ps₀ b₀ (State.tileClaim s c port) := by
  simp only [List.cons_subset, List.nil_subset, and_true] at hp₀
  unfold State.tileClaim
  try dsimp only
  repeat' (first
    | focus (simp (maxDischargeDepth := 60) only [↓State.setFlag_evolves, ↓State.setFld_evolves, ↓State.event_evolves,
        ↓State.sendTileInfo_evolves, ↓Evolves.foldl, ↓Evolves.foldl_fst, ↓Evolves.ite, ↓Evolves.ite_fst, ↓Evolves.elim_opt,
        Evolves.refl, Nat.le_add_right, implies_true, List.cons_subset, List.nil_subset, and_true, hp₀, hb₀];done)
    | (refine Evolves.foldl _ _ _ (fun u x => ?_) ?_ <;> try dsimp only)
    | (refine Evolves.foldl_fst _ _ _ (fun u x => ?_) ?_ <;> try dsimp only)
    | split)

theorem State.setPortMode_evolves {ps₀ : List Part} {b₀ : State} (s : State) (p v : Nat)
    (hp₀ : [.regs, .link] ⊆ ps₀) (hb₀ : Evolves ps₀ b₀ s) :
    Evolves ps₀ b₀ (State.setPortMode s p v) := by
  simp only [List.cons_subset, List.nil_subset, and_true] at hp₀
  unfold State.setPortMode
  try dsimp only
  repeat' (first
    | focus (simp (maxDischargeDepth := 60) only [↓State.setPort_evolves, ↓State.setFld_evolves, ↓Evolves.foldl,
        ↓Evolves.foldl_fst, ↓Evolves.ite, ↓Evolves.ite_fst, ↓Evolves.elim_opt, Evolves.refl, Nat.le_add_right, implies_true,
        List.cons_subset, List.nil_subset, and_true, hp₀, hb₀];done)
    | (refine Evolves.foldl _ _ _ (fun u x => ?_) ?_ <;> try dsimp only)
    | (refine Evolves.foldl_fst _ _ _ (fun u x => ?_) ?_ <;> try dsimp only)
    | split)

theorem State.numberChain_evolves {ps₀ : List Part} {b₀ : State} (s : State) (p : Nat)
    (hp₀ : [.regs, .sent, .link] ⊆ ps₀) (hb₀ : Evolves ps₀ b₀ s) :
    Evolves ps₀ b₀ (State.numberChain s p) := by
  simp only [List.cons_subset, List.nil_subset, and_true] at hp₀
  unfold State.numberChain
  try dsimp only
  repeat' (first
    | focus (simp (maxDischargeDepth := 60) only [↓State.setPort_evolves, ↓State.setFld_evolves, ↓State.sendMsg_evolves,
        ↓Evolves.foldl, ↓Evolves.foldl_fst, ↓Evolves.ite, ↓Evolves.ite_fst, ↓Evolves.elim_opt, Evolves.refl, Nat.le_add_right,
        implies_true, List.cons_subset, List.nil_subset, and_true, hp₀, hb₀];done)
    | (refine Evolves.foldl _ _ _ (fun u x => ?_) ?_ <;> try dsimp only)
    | (refine Evolves.foldl_fst _ _ _ (fun u x => ?_) ?_ <;> try dsimp only)
    | split)

theorem State.portComesUp_evolves {ps₀ : List Part} {b₀ : State} (s : State) (p : Nat)
    (hp₀ : [.regs, .sent, .link] ⊆ ps₀) (hb₀ : Evolves ps₀ b₀ s) :
    Evolves ps₀ b₀ (State.portComesUp s p) := by
  simp only [List.cons_subset, List.nil_subset, and_true] at hp₀
  unfold State.portComesUp
  try dsimp only
  repeat' (first
    | focus (simp (maxDischargeDepth := 60) only [↓State.setPort_evolves, ↓State.setFld_evolves, ↓State.sendMsg_evolves,
        ↓State.numberChain_evolves, ↓Evolves.foldl, ↓Evolves.foldl_fst, ↓Evolves.ite, ↓Evolves.ite_fst, ↓Evolves.elim_opt,
        Evolves.refl, Nat.le_add_right, implies_true, List.cons_subset, List.nil_subset, and_true, hp₀, hb₀];done)
    | (refine Evolves.foldl _ _ _ (fun u x => ?_) ?_ <;> try dsimp only)
    | (refine Evolves.foldl_fst _ _ _ (fun u x => ?_) ?_ <;> try dsimp only)
    | split)

theorem State.portDown_evolves {ps₀ : List Part} {b₀ : State} (s : State) (p : Nat)
    (hp₀ : [.regs, .link] ⊆ ps₀) (hb₀ : Evolves ps₀ b₀ s) :
    Evolves ps₀ b₀ (State.portDown s p) := by
  simp only [List.cons_subset, List.nil_subset, and_true] at hp₀
  unfold State.portDown
  try dsimp only
  repeat' (first
    | focus (simp (maxDischargeDepth := 60) only [↓State.setPortMode_evolves, ↓Evolves.foldl, ↓Evolves.foldl_fst, ↓Evolves.ite,
        ↓Evolves.ite_fst, ↓Evolves.elim_opt, Evolves.refl, Nat.le_add_right, implies_true, List.cons_subset, List.nil_subset,
        and_true, hp₀, hb₀];done)
    | (refine Evolves.foldl _ _ _ (fun u x => ?_) ?_ <;> try dsimp only)
    | (refine Evolves.foldl_fst _ _ _ (fun u x => ?_) ?_ <;> try dsimp only)
    | split)

theorem State.checkHello_evolves {ps₀ : List Part} {b₀ : State} (s : State) (p : Nat)
    (hp₀ : [.regs, .sent, .link] ⊆ ps₀) (hb₀ : Evolves ps₀ b₀ s) :
    Evolves ps₀ b₀ (State.checkHello s p) := by
  simp only [List.cons_subset, List.nil_subset, and_true] at hp₀
  unfold State.checkHello
  try dsimp only
  repeat' (first
    | focus (simp (maxDischargeDepth := 60) only [↓State.portComesUp_evolves, ↓Evolves.foldl, ↓Evolves.foldl_fst, ↓Evolves.ite,
        ↓Evolves.ite_fst, ↓Evolves.elim_opt, Evolves.refl, Nat.le_add_right, implies_true, List.cons_subset, List.nil_subset,
        and_true, hp₀, hb₀];done)
    | (refine Evolves.foldl _ _ _ (fun u x => ?_) ?_ <;> try dsimp only)
    | (refine Evolves.foldl_fst _ _ _ (fun u x => ?_) ?_ <;> try dsimp only)
    | split)

theorem State.takeHello_evolves {ps₀ : List Part} {b₀ : State} (s : State) (p : Nat) (h : Hello)
    (hp₀ : [.regs, .sent, .link, .repl, .faults, .nvm, .red] ⊆ ps₀) (hb₀ : Evolves ps₀ b₀ s) :
    Evolves ps₀ b₀ (State.takeHello s p h) := by
  simp only [List.cons_subset, List.nil_subset, and_true] at hp₀
  unfold State.takeHello
  try dsimp only
  repeat' (first
    | focus (simp (maxDischargeDepth := 60) only [↓State.setPort_evolves, ↓State.setFld_evolves, ↓State.send_evolves,
        ↓State.checkHello_evolves, ↓State.event_evolves, ↓State.setPortMode_evolves, ↓State.fault_evolves, ↓Evolves.foldl,
        ↓Evolves.foldl_fst, ↓Evolves.ite, ↓Evolves.ite_fst, ↓Evolves.elim_opt, Evolves.refl, Nat.le_add_right, implies_true,
        List.cons_subset, List.nil_subset, and_true, hp₀, hb₀];done)
    | (refine Evolves.foldl _ _ _ (fun u x => ?_) ?_ <;> try dsimp only)
    | (refine Evolves.foldl_fst _ _ _ (fun u x => ?_) ?_ <;> try dsimp only)
    | split)

theorem State.hello_evolves {ps₀ : List Part} {b₀ : State} (s : State) (m : MsgHdr) (h : Hello)
    (hp₀ : [.regs, .sent, .link, .repl, .faults, .nvm, .red] ⊆ ps₀) (hb₀ : Evolves ps₀ b₀ s) :
    Evolves ps₀ b₀ (State.hello s m h) := by
  simp only [List.cons_subset, List.nil_subset, and_true] at hp₀
  unfold State.hello
  try dsimp only
  repeat' (first
    | focus (simp (maxDischargeDepth := 60) only [↓State.takeHello_evolves, ↓State.blockSeen_evolves, ↓State.setPortMode_evolves,
        ↓State.eventCount_evolves, ↓Evolves.foldl, ↓Evolves.foldl_fst, ↓Evolves.ite, ↓Evolves.ite_fst, ↓Evolves.elim_opt,
        Evolves.refl, Nat.le_add_right, implies_true, List.cons_subset, List.nil_subset, and_true, hp₀, hb₀];done)
    | (refine Evolves.foldl _ _ _ (fun u x => ?_) ?_ <;> try dsimp only)
    | (refine Evolves.foldl_fst _ _ _ (fun u x => ?_) ?_ <;> try dsimp only)
    | split)

theorem execHello_evolves (m : MsgHdr) (b : Hello) (s : State) :
    ∃ t₁, execHello m b s = .next t₁ ∧ Evolves [.regs, .sent, .link, .repl, .faults, .nvm, .red] s t₁ := by
  have hb₀ := Evolves.refl [.regs, .sent, .link, .repl, .faults, .nvm, .red] s
  unfold execHello
  refine ⟨_, rfl, ?_⟩
  try dsimp only
  repeat' (first
    | focus (simp (maxDischargeDepth := 60) only [↓State.hello_evolves, ↓Evolves.foldl, ↓Evolves.foldl_fst, ↓Evolves.ite,
        ↓Evolves.ite_fst, ↓Evolves.elim_opt, Evolves.refl, Nat.le_add_right, implies_true, List.cons_subset, List.nil_subset,
        and_true, List.mem_cons, reduceCtorEq, true_or, or_true, false_or, or_false, hb₀];done)
    | (refine Evolves.foldl _ _ _ (fun u x => ?_) ?_ <;> try dsimp only)
    | (refine Evolves.foldl_fst _ _ _ (fun u x => ?_) ?_ <;> try dsimp only)
    | split)

theorem execHelloAck_evolves (m : MsgHdr) (version : Nat) (s : State) :
    ∃ t₁, execHelloAck m version s = .next t₁ ∧ Evolves [.regs, .sent, .link] s t₁ := by
  have hb₀ := Evolves.refl [.regs, .sent, .link] s
  unfold execHelloAck
  refine ⟨_, rfl, ?_⟩
  try dsimp only
  repeat' (first
    | focus (simp (maxDischargeDepth := 60) only [↓State.checkHello_evolves, ↓State.setPort_evolves, ↓State.blockSeen_evolves,
        ↓State.eventCount_evolves, ↓Evolves.foldl, ↓Evolves.foldl_fst, ↓Evolves.ite, ↓Evolves.ite_fst, ↓Evolves.elim_opt,
        Evolves.refl, Nat.le_add_right, implies_true, List.cons_subset, List.nil_subset, and_true, List.mem_cons, reduceCtorEq,
        true_or, or_true, false_or, or_false, hb₀];done)
    | (refine Evolves.foldl _ _ _ (fun u x => ?_) ?_ <;> try dsimp only)
    | (refine Evolves.foldl_fst _ _ _ (fun u x => ?_) ?_ <;> try dsimp only)
    | split)

theorem execHelloSend_evolves (port : Nat) (s : State) :
    ∃ t₁, execHelloSend port s = .next t₁ ∧ Evolves [.cycles, .wall, .sent, .link] s t₁ := by
  have hb₀ := Evolves.refl [.cycles, .wall, .sent, .link] s
  unfold execHelloSend
  refine ⟨_, rfl, ?_⟩
  try dsimp only
  repeat' (first
    | focus (simp (maxDischargeDepth := 60) only [↓State.untilCycle_evolves, ↓State.send_evolves, ↓State.setPort_evolves,
        ↓Evolves.foldl, ↓Evolves.foldl_fst, ↓Evolves.ite, ↓Evolves.ite_fst, ↓Evolves.elim_opt, Evolves.refl, Nat.le_add_right,
        implies_true, List.cons_subset, List.nil_subset, and_true, List.mem_cons, reduceCtorEq, true_or, or_true, false_or,
        or_false, hb₀];done)
    | (refine Evolves.foldl _ _ _ (fun u x => ?_) ?_ <;> try dsimp only)
    | (refine Evolves.foldl_fst _ _ _ (fun u x => ?_) ?_ <;> try dsimp only)
    | split)

theorem execHelloFailExpiry_evolves (port : Nat) (s : State) :
    ∃ t₁, execHelloFailExpiry port s = .next t₁ ∧ Evolves [.regs, .cycles, .wall, .link] s t₁ := by
  have hb₀ := Evolves.refl [.regs, .cycles, .wall, .link] s
  unfold execHelloFailExpiry
  refine ⟨_, rfl, ?_⟩
  try dsimp only
  repeat' (first
    | focus (simp (maxDischargeDepth := 60) only [↓State.setPortMode_evolves, ↓State.untilCycle_evolves, ↓Evolves.foldl,
        ↓Evolves.foldl_fst, ↓Evolves.ite, ↓Evolves.ite_fst, ↓Evolves.elim_opt, Evolves.refl, Nat.le_add_right, implies_true,
        List.cons_subset, List.nil_subset, and_true, List.mem_cons, reduceCtorEq, true_or, or_true, false_or, or_false, hb₀];done)
    | (refine Evolves.foldl _ _ _ (fun u x => ?_) ?_ <;> try dsimp only)
    | (refine Evolves.foldl_fst _ _ _ (fun u x => ?_) ?_ <;> try dsimp only)
    | split)

theorem execSegmentSilence_evolves (port : Nat) (s : State) :
    ∃ t₁, execSegmentSilence port s = .next t₁ ∧ Evolves [.regs, .cycles, .wall, .link] s t₁ := by
  have hb₀ := Evolves.refl [.regs, .cycles, .wall, .link] s
  unfold execSegmentSilence
  refine ⟨_, rfl, ?_⟩
  try dsimp only
  repeat' (first
    | focus (simp (maxDischargeDepth := 60) only [↓State.portDown_evolves, ↓State.untilCycle_evolves, ↓Evolves.foldl,
        ↓Evolves.foldl_fst, ↓Evolves.ite, ↓Evolves.ite_fst, ↓Evolves.elim_opt, Evolves.refl, Nat.le_add_right, implies_true,
        List.cons_subset, List.nil_subset, and_true, List.mem_cons, reduceCtorEq, true_or, or_true, false_or, or_false, hb₀];done)
    | (refine Evolves.foldl _ _ _ (fun u x => ?_) ?_ <;> try dsimp only)
    | (refine Evolves.foldl_fst _ _ _ (fun u x => ?_) ?_ <;> try dsimp only)
    | split)

theorem State.updateLead_evolves {ps₀ : List Part} {b₀ : State} (s : State)
    (hp₀ : [.regs] ⊆ ps₀) (hb₀ : Evolves ps₀ b₀ s) :
    Evolves ps₀ b₀ (State.updateLead s) := by
  simp only [List.cons_subset, List.nil_subset, and_true] at hp₀
  unfold State.updateLead
  try dsimp only
  repeat' (first
    | focus (simp (maxDischargeDepth := 60) only [↓State.setFld_evolves, ↓Evolves.foldl, ↓Evolves.foldl_fst, ↓Evolves.ite,
        ↓Evolves.ite_fst, ↓Evolves.elim_opt, Evolves.refl, Nat.le_add_right, implies_true, List.cons_subset, List.nil_subset,
        and_true, hp₀, hb₀];done)
    | (refine Evolves.foldl _ _ _ (fun u x => ?_) ?_ <;> try dsimp only)
    | (refine Evolves.foldl_fst _ _ _ (fun u x => ?_) ?_ <;> try dsimp only)
    | split)

theorem State.tileEnumerate_evolves {ps₀ : List Part} {b₀ : State} (s : State) (domain chain value : Nat)
    (hp₀ : [.regs, .sent, .link, .repl, .faults, .nvm, .red] ⊆ ps₀) (hb₀ : Evolves ps₀ b₀ s) :
    Evolves ps₀ b₀ (State.tileEnumerate s domain chain value) := by
  simp only [List.cons_subset, List.nil_subset, and_true] at hp₀
  unfold State.tileEnumerate
  try dsimp only
  repeat' (first
    | focus (simp (maxDischargeDepth := 60) only [↓State.fault_evolves, ↓State.event_evolves, ↓State.setFld_evolves,
        ↓State.setFlag_evolves, ↓Evolves.foldl, ↓Evolves.foldl_fst, ↓Evolves.ite, ↓Evolves.ite_fst, ↓Evolves.elim_opt,
        Evolves.refl, Nat.le_add_right, implies_true, List.cons_subset, List.nil_subset, and_true, hp₀, hb₀];done)
    | (refine Evolves.foldl _ _ _ (fun u x => ?_) ?_ <;> try dsimp only)
    | (refine Evolves.foldl_fst _ _ _ (fun u x => ?_) ?_ <;> try dsimp only)
    | split)

theorem State.senderEnumerate_evolves {ps₀ : List Part} {b₀ : State} (s : State) (p chain value step : Nat)
    (hp₀ : [.regs, .sent, .link] ⊆ ps₀) (hb₀ : Evolves ps₀ b₀ s) :
    Evolves ps₀ b₀ (State.senderEnumerate s p chain value step) := by
  simp only [List.cons_subset, List.nil_subset, and_true] at hp₀
  unfold State.senderEnumerate
  try dsimp only
  repeat' (first
    | focus (simp (maxDischargeDepth := 60) only [↓State.setFlag_evolves, ↓State.event_evolves, ↓State.updateLead_evolves,
        ↓State.setPort_evolves, ↓State.setFld_evolves, ↓State.sendMsg_evolves, ↓Evolves.foldl, ↓Evolves.foldl_fst, ↓Evolves.ite,
        ↓Evolves.ite_fst, ↓Evolves.elim_opt, Evolves.refl, Nat.le_add_right, implies_true, List.cons_subset, List.nil_subset,
        and_true, hp₀, hb₀];done)
    | (refine Evolves.foldl _ _ _ (fun u x => ?_) ?_ <;> try dsimp only)
    | (refine Evolves.foldl_fst _ _ _ (fun u x => ?_) ?_ <;> try dsimp only)
    | split)

theorem State.enumerateMsg_evolves {ps₀ : List Part} {b₀ : State} (s : State) (m : MsgHdr) (domain chain value step : Nat)
    (hp₀ : [.regs, .sent, .link, .repl, .faults, .nvm, .red] ⊆ ps₀) (hb₀ : Evolves ps₀ b₀ s) :
    Evolves ps₀ b₀ (State.enumerateMsg s m domain chain value step) := by
  simp only [List.cons_subset, List.nil_subset, and_true] at hp₀
  unfold State.enumerateMsg
  try dsimp only
  repeat' (first
    | focus (simp (maxDischargeDepth := 60) only [↓State.eventCount_evolves, ↓State.blockSeen_evolves, ↓State.keepSeq_evolves,
        ↓State.relayMsg_evolves, ↓State.tileEnumerate_evolves, ↓State.sendTileInfo_evolves, ↓State.senderEnumerate_evolves,
        ↓Evolves.foldl, ↓Evolves.foldl_fst, ↓Evolves.ite, ↓Evolves.ite_fst, ↓Evolves.elim_opt, Evolves.refl, Nat.le_add_right,
        implies_true, List.cons_subset, List.nil_subset, and_true, hp₀, hb₀];done)
    | (refine Evolves.foldl _ _ _ (fun u x => ?_) ?_ <;> try dsimp only)
    | (refine Evolves.foldl_fst _ _ _ (fun u x => ?_) ?_ <;> try dsimp only)
    | split)

theorem execEnumerate_evolves (m : MsgHdr) (domain chain value step : Nat) (s : State) :
    ∃ t₁, execEnumerate m domain chain value step s = .next t₁ ∧ Evolves [.regs, .sent, .link, .repl, .faults, .nvm, .red] s t₁ := by
  have hb₀ := Evolves.refl [.regs, .sent, .link, .repl, .faults, .nvm, .red] s
  unfold execEnumerate
  refine ⟨_, rfl, ?_⟩
  try dsimp only
  repeat' (first
    | focus (simp (maxDischargeDepth := 60) only [↓State.enumerateMsg_evolves, ↓Evolves.foldl, ↓Evolves.foldl_fst, ↓Evolves.ite,
        ↓Evolves.ite_fst, ↓Evolves.elim_opt, Evolves.refl, Nat.le_add_right, implies_true, List.cons_subset, List.nil_subset,
        and_true, List.mem_cons, reduceCtorEq, true_or, or_true, false_or, or_false, hb₀];done)
    | (refine Evolves.foldl _ _ _ (fun u x => ?_) ?_ <;> try dsimp only)
    | (refine Evolves.foldl_fst _ _ _ (fun u x => ?_) ?_ <;> try dsimp only)
    | split)

theorem State.resync_evolves {ps₀ : List Part} {b₀ : State} (s : State) (tile : Nat)
    (hp₀ : [.regs, .sent, .link] ⊆ ps₀) (hb₀ : Evolves ps₀ b₀ s) :
    Evolves ps₀ b₀ (State.resync s tile) := by
  simp only [List.cons_subset, List.nil_subset, and_true] at hp₀
  unfold State.resync
  try dsimp only
  repeat' (first
    | focus (simp (maxDischargeDepth := 60) only [↓State.sendTile_evolves, ↓State.setFlag_evolves, ↓Evolves.foldl,
        ↓Evolves.foldl_fst, ↓Evolves.ite, ↓Evolves.ite_fst, ↓Evolves.elim_opt, Evolves.refl, Nat.le_add_right, implies_true,
        List.cons_subset, List.nil_subset, and_true, hp₀, hb₀];done)
    | (refine Evolves.foldl _ _ _ (fun u x => ?_) ?_ <;> try dsimp only)
    | (refine Evolves.foldl_fst _ _ _ (fun u x => ?_) ?_ <;> try dsimp only)
    | split)

theorem State.noteSkips_evolves {ps₀ : List Part} {b₀ : State} (s : State) (tile : Nat)
    (hp₀ : [.regs] ⊆ ps₀) (hb₀ : Evolves ps₀ b₀ s) :
    Evolves ps₀ b₀ (State.noteSkips s tile) := by
  simp only [List.cons_subset, List.nil_subset, and_true] at hp₀
  unfold State.noteSkips
  try dsimp only
  repeat' (first
    | focus (simp (maxDischargeDepth := 60) only [↓State.event_evolves, ↓Evolves.foldl, ↓Evolves.foldl_fst, ↓Evolves.ite,
        ↓Evolves.ite_fst, ↓Evolves.elim_opt, Evolves.refl, Nat.le_add_right, implies_true, List.cons_subset, List.nil_subset,
        and_true, hp₀, hb₀];done)
    | (refine Evolves.foldl _ _ _ (fun u x => ?_) ?_ <;> try dsimp only)
    | (refine Evolves.foldl_fst _ _ _ (fun u x => ?_) ?_ <;> try dsimp only)
    | split)

theorem State.sessionRegs_evolves {ps₀ : List Part} {b₀ : State} (s : State) (n : Nat) (i : TileInfo)
    (hp₀ : [.regs] ⊆ ps₀) (hb₀ : Evolves ps₀ b₀ s) :
    Evolves ps₀ b₀ (State.sessionRegs s n i) := by
  simp only [List.cons_subset, List.nil_subset, and_true] at hp₀
  unfold State.sessionRegs
  try dsimp only
  repeat' (first
    | focus (simp (maxDischargeDepth := 60) only [↓State.setFld_evolves, ↓Evolves.foldl, ↓Evolves.foldl_fst, ↓Evolves.ite,
        ↓Evolves.ite_fst, ↓Evolves.elim_opt, Evolves.refl, Nat.le_add_right, implies_true, List.cons_subset, List.nil_subset,
        and_true, hp₀, hb₀];done)
    | (refine Evolves.foldl _ _ _ (fun u x => ?_) ?_ <;> try dsimp only)
    | (refine Evolves.foldl_fst _ _ _ (fun u x => ?_) ?_ <;> try dsimp only)
    | split)

theorem State.statusNow_evolves {ps₀ : List Part} {b₀ : State} (s : State) (n : Nat)
    (hp₀ : [.link] ⊆ ps₀) (hb₀ : Evolves ps₀ b₀ s) :
    Evolves ps₀ b₀ (State.statusNow s n) := by
  simp only [List.cons_subset, List.nil_subset, and_true] at hp₀
  unfold State.statusNow
  try dsimp only
  repeat' (first
    | focus (simp (maxDischargeDepth := 60) only [↓Evolves.set_link, ↓Evolves.foldl, ↓Evolves.foldl_fst, ↓Evolves.ite,
        ↓Evolves.ite_fst, ↓Evolves.elim_opt, Evolves.refl, Nat.le_add_right, implies_true, List.cons_subset, List.nil_subset,
        and_true, hp₀, hb₀];done)
    | (refine Evolves.foldl _ _ _ (fun u x => ?_) ?_ <;> try dsimp only)
    | (refine Evolves.foldl_fst _ _ _ (fun u x => ?_) ?_ <;> try dsimp only)
    | split)

theorem State.openSession_evolves {ps₀ : List Part} {b₀ : State} (s : State) (p : Nat) (i : TileInfo)
    (hp₀ : [.regs, .sent, .link, .repl, .red] ⊆ ps₀) (hb₀ : Evolves ps₀ b₀ s) :
    Evolves ps₀ b₀ (State.openSession s p i) := by
  simp only [List.cons_subset, List.nil_subset, and_true] at hp₀
  unfold State.openSession
  try dsimp only
  repeat' (first
    | focus (simp (maxDischargeDepth := 60) only [↓State.setFlag_evolves, ↓State.sessionRegs_evolves,
        ↓State.updateLead_evolves, ↓State.setFld_evolves, ↓State.resync_evolves, ↓State.noteSkips_evolves,
        ↓State.statusNow_evolves, ↓State.event_evolves, ↓State.append_evolves, ↓Evolves.foldl, ↓Evolves.foldl_fst, ↓Evolves.ite,
        ↓Evolves.ite_fst, ↓Evolves.elim_opt, Evolves.refl, Nat.le_add_right, implies_true, List.cons_subset, List.nil_subset,
        and_true, hp₀, hb₀];done)
    | (refine Evolves.foldl _ _ _ (fun u x => ?_) ?_ <;> try dsimp only)
    | (refine Evolves.foldl_fst _ _ _ (fun u x => ?_) ?_ <;> try dsimp only)
    | split)

theorem State.tileInfoMsg_evolves {ps₀ : List Part} {b₀ : State} (s : State) (p : Nat) (i : TileInfo)
    (hp₀ : [.regs, .sent, .link, .repl, .red] ⊆ ps₀) (hb₀ : Evolves ps₀ b₀ s) :
    Evolves ps₀ b₀ (State.tileInfoMsg s p i) := by
  simp only [List.cons_subset, List.nil_subset, and_true] at hp₀
  unfold State.tileInfoMsg
  try dsimp only
  repeat' (first
    | focus (simp (maxDischargeDepth := 60) only [↓State.openSession_evolves, ↓State.event_evolves, ↓Evolves.foldl,
        ↓Evolves.foldl_fst, ↓Evolves.ite, ↓Evolves.ite_fst, ↓Evolves.elim_opt, Evolves.refl, Nat.le_add_right, implies_true,
        List.cons_subset, List.nil_subset, and_true, hp₀, hb₀];done)
    | (refine Evolves.foldl _ _ _ (fun u x => ?_) ?_ <;> try dsimp only)
    | (refine Evolves.foldl_fst _ _ _ (fun u x => ?_) ?_ <;> try dsimp only)
    | split)

theorem State.closeSession_evolves {ps₀ : List Part} {b₀ : State} (s : State) (n : Nat)
    (hp₀ : [.regs, .sent, .repl, .red] ⊆ ps₀) (hb₀ : Evolves ps₀ b₀ s) :
    Evolves ps₀ b₀ (State.closeSession s n) := by
  simp only [List.cons_subset, List.nil_subset, and_true] at hp₀
  unfold State.closeSession
  try dsimp only
  repeat' (first
    | focus (simp (maxDischargeDepth := 60) only [↓State.event_evolves, ↓State.setFlag_evolves, ↓State.append_evolves,
        ↓Evolves.foldl, ↓Evolves.foldl_fst, ↓Evolves.ite, ↓Evolves.ite_fst, ↓Evolves.elim_opt, Evolves.refl, Nat.le_add_right,
        implies_true, List.cons_subset, List.nil_subset, and_true, hp₀, hb₀];done)
    | (refine Evolves.foldl _ _ _ (fun u x => ?_) ?_ <;> try dsimp only)
    | (refine Evolves.foldl_fst _ _ _ (fun u x => ?_) ?_ <;> try dsimp only)
    | split)

theorem State.takeAck_evolves {ps₀ : List Part} {b₀ : State} (s : State) (p src n : Nat)
    (hp₀ : [.link] ⊆ ps₀) (hb₀ : Evolves ps₀ b₀ s) :
    Evolves ps₀ b₀ (State.takeAck s p src n) := by
  simp only [List.cons_subset, List.nil_subset, and_true] at hp₀
  unfold State.takeAck
  try dsimp only
  repeat' (first
    | focus (simp (maxDischargeDepth := 60) only [↓Evolves.set_link, ↓Evolves.foldl, ↓Evolves.foldl_fst, ↓Evolves.ite,
        ↓Evolves.ite_fst, ↓Evolves.elim_opt, Evolves.refl, Nat.le_add_right, implies_true, List.cons_subset, List.nil_subset,
        and_true, hp₀, hb₀];done)
    | (refine Evolves.foldl _ _ _ (fun u x => ?_) ?_ <;> try dsimp only)
    | (refine Evolves.foldl_fst _ _ _ (fun u x => ?_) ?_ <;> try dsimp only)
    | split)

theorem execAckMsg_evolves (m : MsgHdr) (seq status : Nat) (s : State) :
    ∃ t₁, execAckMsg m seq status s = .next t₁ ∧ Evolves [.regs, .sent, .link] s t₁ := by
  have hb₀ := Evolves.refl [.regs, .sent, .link] s
  unfold execAckMsg
  refine ⟨_, rfl, ?_⟩
  try dsimp only
  repeat' (first
    | focus (simp (maxDischargeDepth := 60) only [↓State.receiveOk_evolves, ↓State.takeAck_evolves, ↓Evolves.foldl,
        ↓Evolves.foldl_fst, ↓Evolves.ite, ↓Evolves.ite_fst, ↓Evolves.elim_opt, Evolves.refl, Nat.le_add_right, implies_true,
        List.cons_subset, List.nil_subset, and_true, List.mem_cons, reduceCtorEq, true_or, or_true, false_or, or_false, hb₀];done)
    | (refine Evolves.foldl _ _ _ (fun u x => ?_) ?_ <;> try dsimp only)
    | (refine Evolves.foldl_fst _ _ _ (fun u x => ?_) ?_ <;> try dsimp only)
    | split)

theorem State.barrierEnds_evolves {ps₀ : List Part} {b₀ : State} (s : State) (id : Nat)
    (hp₀ : [.regs, .sent, .gen, .gnt, .cmd, .link] ⊆ ps₀) (hb₀ : Evolves ps₀ b₀ s) :
    Evolves ps₀ b₀ (State.barrierEnds s id) := by
  simp only [List.cons_subset, List.nil_subset, and_true] at hp₀
  unfold State.barrierEnds
  try dsimp only
  repeat' (first
    | focus (simp (maxDischargeDepth := 60) only [↓State.respond_evolves, ↓Evolves.set_cmd, ↓Evolves.foldl, ↓Evolves.foldl_fst,
        ↓Evolves.ite, ↓Evolves.ite_fst, ↓Evolves.elim_opt, Evolves.refl, Nat.le_add_right, implies_true, List.cons_subset,
        List.nil_subset, and_true, hp₀, hb₀];done)
    | (refine Evolves.foldl _ _ _ (fun u x => ?_) ?_ <;> try dsimp only)
    | (refine Evolves.foldl_fst _ _ _ (fun u x => ?_) ?_ <;> try dsimp only)
    | split)

theorem State.barrierDone_evolves {ps₀ : List Part} {b₀ : State} (s : State) (id tile : Nat)
    (hp₀ : [.regs, .sent, .gen, .gnt, .cmd, .link] ⊆ ps₀) (hb₀ : Evolves ps₀ b₀ s) :
    Evolves ps₀ b₀ (State.barrierDone s id tile) := by
  simp only [List.cons_subset, List.nil_subset, and_true] at hp₀
  unfold State.barrierDone
  try dsimp only
  repeat' (first
    | focus (simp (maxDischargeDepth := 60) only [↓State.barrierEnds_evolves, ↓Evolves.set_cmd, ↓Evolves.set_link,
        ↓Evolves.set_cmd_link, ↓Evolves.foldl, ↓Evolves.foldl_fst, ↓Evolves.ite, ↓Evolves.ite_fst, ↓Evolves.elim_opt,
        Evolves.refl, Nat.le_add_right, implies_true, List.cons_subset, List.nil_subset, and_true, hp₀, hb₀];done)
    | (refine Evolves.foldl _ _ _ (fun u x => ?_) ?_ <;> try dsimp only)
    | (refine Evolves.foldl_fst _ _ _ (fun u x => ?_) ?_ <;> try dsimp only)
    | split)

theorem State.sendBarrier_evolves {ps₀ : List Part} {b₀ : State} (s : State) (h : Hdr) (id : Nat)
    (hp₀ : [.regs, .sent, .gen, .gnt, .cmd, .link] ⊆ ps₀) (hb₀ : Evolves ps₀ b₀ s) :
    Evolves ps₀ b₀ (State.sendBarrier s h id) := by
  simp only [List.cons_subset, List.nil_subset, and_true] at hp₀
  unfold State.sendBarrier
  try dsimp only
  repeat' (first
    | focus (simp (maxDischargeDepth := 60) only [↓State.emitMsg_evolves, ↓State.barrierEnds_evolves, ↓Evolves.set_cmd,
        ↓Evolves.set_link, ↓Evolves.set_cmd_link, ↓Evolves.foldl, ↓Evolves.foldl_fst, ↓Evolves.ite, ↓Evolves.ite_fst,
        ↓Evolves.elim_opt, Evolves.refl, Nat.le_add_right, implies_true, List.cons_subset, List.nil_subset, and_true, hp₀,
        hb₀];done)
    | (refine Evolves.foldl _ _ _ (fun u x => ?_) ?_ <;> try dsimp only)
    | (refine Evolves.foldl_fst _ _ _ (fun u x => ?_) ?_ <;> try dsimp only)
    | split)

theorem State.resendMsg_evolves {ps₀ : List Part} {b₀ : State} (s : State) (u : Unacked)
    (hp₀ : [.regs, .cycles, .wall, .sent, .gen, .gnt, .cmd, .link] ⊆ ps₀) (hb₀ : Evolves ps₀ b₀ s) :
    Evolves ps₀ b₀ (State.resendMsg s u) := by
  simp only [List.cons_subset, List.nil_subset, and_true] at hp₀
  unfold State.resendMsg
  try dsimp only
  repeat' (first
    | focus (simp (maxDischargeDepth := 60) only [↓State.untilCycle_evolves, ↓State.send_evolves, ↓State.setFlag_evolves,
        ↓State.event_evolves, ↓State.barrierEnds_evolves, ↓Evolves.set_link, ↓Evolves.foldl, ↓Evolves.foldl_fst, ↓Evolves.ite,
        ↓Evolves.ite_fst, ↓Evolves.elim_opt, Evolves.refl, Nat.le_add_right, implies_true, List.cons_subset, List.nil_subset,
        and_true, hp₀, hb₀];done)
    | (refine Evolves.foldl _ _ _ (fun u x => ?_) ?_ <;> try dsimp only)
    | (refine Evolves.foldl_fst _ _ _ (fun u x => ?_) ?_ <;> try dsimp only)
    | split)

theorem execMessageResend_evolves (port seq : Nat) (s : State) :
    ∃ t₁, execMessageResend port seq s = .next t₁ ∧ Evolves [.regs, .cycles, .wall, .sent, .gen, .gnt, .cmd, .link] s t₁ := by
  have hb₀ := Evolves.refl [.regs, .cycles, .wall, .sent, .gen, .gnt, .cmd, .link] s
  unfold execMessageResend
  refine ⟨_, rfl, ?_⟩
  try dsimp only
  repeat' (first
    | focus (simp (maxDischargeDepth := 60) only [↓State.resendMsg_evolves, ↓Evolves.foldl, ↓Evolves.foldl_fst, ↓Evolves.ite,
        ↓Evolves.ite_fst, ↓Evolves.elim_opt, Evolves.refl, Nat.le_add_right, implies_true, List.cons_subset, List.nil_subset,
        and_true, List.mem_cons, reduceCtorEq, true_or, or_true, false_or, or_false, hb₀];done)
    | (refine Evolves.foldl _ _ _ (fun u x => ?_) ?_ <;> try dsimp only)
    | (refine Evolves.foldl_fst _ _ _ (fun u x => ?_) ?_ <;> try dsimp only)
    | split)

theorem State.tileStatusMsg_evolves {ps₀ : List Part} {b₀ : State} (s : State) (b : TileStatus)
    (hp₀ : [.regs, .link] ⊆ ps₀) (hb₀ : Evolves ps₀ b₀ s) :
    Evolves ps₀ b₀ (State.tileStatusMsg s b) := by
  simp only [List.cons_subset, List.nil_subset, and_true] at hp₀
  unfold State.tileStatusMsg
  try dsimp only
  repeat' (first
    | focus (simp (maxDischargeDepth := 60) only [↓State.setFld_evolves, ↓State.setFlag_evolves,
        ↓State.statusNow_evolves, ↓Evolves.foldl, ↓Evolves.foldl_fst, ↓Evolves.ite, ↓Evolves.ite_fst, ↓Evolves.elim_opt,
        Evolves.refl, Nat.le_add_right, implies_true, List.cons_subset, List.nil_subset, and_true, hp₀, hb₀];done)
    | (refine Evolves.foldl _ _ _ (fun u x => ?_) ?_ <;> try dsimp only)
    | (refine Evolves.foldl_fst _ _ _ (fun u x => ?_) ?_ <;> try dsimp only)
    | split)

theorem execTileStatus_evolves (m : MsgHdr) (b : TileStatus) (s : State) :
    ∃ t₁, execTileStatus m b s = .next t₁ ∧ Evolves [.regs, .sent, .link, .red] s t₁ := by
  have hb₀ := Evolves.refl [.regs, .sent, .link, .red] s
  unfold execTileStatus
  refine ⟨_, rfl, ?_⟩
  try dsimp only
  repeat' (first
    | focus (simp (maxDischargeDepth := 60) only [↓State.receiveOk_evolves, ↓State.tileRestarts_evolves, ↓State.tileStatusMsg_evolves, ↓Evolves.set_red,
        ↓Evolves.foldl, ↓Evolves.foldl_fst, ↓Evolves.ite, ↓Evolves.ite_fst, ↓Evolves.elim_opt, Evolves.refl, Nat.le_add_right,
        implies_true, List.cons_subset, List.nil_subset, and_true, List.mem_cons, reduceCtorEq, true_or, or_true, false_or,
        or_false, hb₀];done)
    | (refine Evolves.foldl _ _ _ (fun u x => ?_) ?_ <;> try dsimp only)
    | (refine Evolves.foldl_fst _ _ _ (fun u x => ?_) ?_ <;> try dsimp only)
    | split)

theorem execFaultAck_evolves (m : MsgHdr) (record : Nat) (s : State) :
    ∃ t₁, execFaultAck m record s = .next t₁ ∧ Evolves [.regs, .sent, .link, .faults] s t₁ := by
  have hb₀ := Evolves.refl [.regs, .sent, .link, .faults] s
  unfold execFaultAck
  refine ⟨_, rfl, ?_⟩
  try dsimp only
  repeat' (first
    | focus (simp (maxDischargeDepth := 60) only [↓State.receiveOk_evolves, ↓Evolves.set_faults, ↓Evolves.foldl,
        ↓Evolves.foldl_fst, ↓Evolves.ite, ↓Evolves.ite_fst, ↓Evolves.elim_opt, Evolves.refl, Nat.le_add_right, implies_true,
        List.cons_subset, List.nil_subset, and_true, List.mem_cons, reduceCtorEq, true_or, or_true, false_or, or_false, hb₀];done)
    | (refine Evolves.foldl _ _ _ (fun u x => ?_) ?_ <;> try dsimp only)
    | (refine Evolves.foldl_fst _ _ _ (fun u x => ?_) ?_ <;> try dsimp only)
    | split)

theorem execFaultResend_evolves (record : Nat) (s : State) :
    ∃ t₁, execFaultResend record s = .next t₁ ∧ Evolves [.sent, .link] s t₁ := by
  have hb₀ := Evolves.refl [.sent, .link] s
  unfold execFaultResend
  refine ⟨_, rfl, ?_⟩
  try dsimp only
  repeat' (first
    | focus (simp (maxDischargeDepth := 60) only [↓State.sendBoth_evolves, ↓Evolves.foldl, ↓Evolves.foldl_fst, ↓Evolves.ite,
        ↓Evolves.ite_fst, ↓Evolves.elim_opt, Evolves.refl, Nat.le_add_right, implies_true, List.cons_subset, List.nil_subset,
        and_true, List.mem_cons, reduceCtorEq, true_or, or_true, false_or, or_false, hb₀];done)
    | (refine Evolves.foldl _ _ _ (fun u x => ?_) ?_ <;> try dsimp only)
    | (refine Evolves.foldl_fst _ _ _ (fun u x => ?_) ?_ <;> try dsimp only)
    | split)

theorem execOwnUnitSend_evolves (port : Nat) (s : State) :
    ∃ t₁, execOwnUnitSend port s = .next t₁ ∧ Evolves [.sent, .link] s t₁ := by
  have hb₀ := Evolves.refl [.sent, .link] s
  unfold execOwnUnitSend
  refine ⟨_, rfl, ?_⟩
  try dsimp only
  repeat' (first
    | focus (simp (maxDischargeDepth := 60) only [↓State.emitMsg_evolves, ↓Evolves.set_link, ↓Evolves.foldl, ↓Evolves.foldl_fst,
        ↓Evolves.ite, ↓Evolves.ite_fst, ↓Evolves.elim_opt, Evolves.refl, Nat.le_add_right, implies_true, List.cons_subset,
        List.nil_subset, and_true, List.mem_cons, reduceCtorEq, true_or, or_true, false_or, or_false, hb₀];done)
    | (refine Evolves.foldl _ _ _ (fun u x => ?_) ?_ <;> try dsimp only)
    | (refine Evolves.foldl_fst _ _ _ (fun u x => ?_) ?_ <;> try dsimp only)
    | split)

theorem State.relayAbort_evolves {ps₀ : List Part} {b₀ : State} (s : State) (p : Nat)
    (hp₀ : [.sent] ⊆ ps₀) (hb₀ : Evolves ps₀ b₀ s) :
    Evolves ps₀ b₀ (State.relayAbort s p) := by
  simp only [List.cons_subset, List.nil_subset, and_true] at hp₀
  unfold State.relayAbort
  try dsimp only
  repeat' (first
    | focus (simp (maxDischargeDepth := 60) only [↓State.send_evolves, ↓Evolves.foldl, ↓Evolves.foldl_fst, ↓Evolves.ite,
        ↓Evolves.ite_fst, ↓Evolves.elim_opt, Evolves.refl, Nat.le_add_right, implies_true, List.cons_subset, List.nil_subset,
        and_true, hp₀, hb₀];done)
    | (refine Evolves.foldl _ _ _ (fun u x => ?_) ?_ <;> try dsimp only)
    | (refine Evolves.foldl_fst _ _ _ (fun u x => ?_) ?_ <;> try dsimp only)
    | split)

theorem execAbortBlock_evolves (port : Nat) (relayed : Bool) (s : State) :
    ∃ t₁, execAbortBlock port relayed s = .next t₁ ∧ Evolves [.regs, .sent, .link] s t₁ := by
  have hb₀ := Evolves.refl [.regs, .sent, .link] s
  unfold execAbortBlock
  refine ⟨_, rfl, ?_⟩
  try dsimp only
  repeat' (first
    | focus (simp (maxDischargeDepth := 60) only [↓State.bump_evolves, ↓State.event_evolves, ↓State.blockSeen_evolves,
        ↓State.relayAbort_evolves, ↓Evolves.foldl, ↓Evolves.foldl_fst, ↓Evolves.ite, ↓Evolves.ite_fst, ↓Evolves.elim_opt,
        Evolves.refl, Nat.le_add_right, implies_true, List.cons_subset, List.nil_subset, and_true, List.mem_cons, reduceCtorEq,
        true_or, or_true, false_or, or_false, hb₀];done)
    | (refine Evolves.foldl _ _ _ (fun u x => ?_) ?_ <;> try dsimp only)
    | (refine Evolves.foldl_fst _ _ _ (fun u x => ?_) ?_ <;> try dsimp only)
    | split)

theorem State.blockError_evolves {ps₀ : List Part} {b₀ : State} (s : State) (p : Nat) (relayed : Bool)
    (hp₀ : [.regs, .sent] ⊆ ps₀) (hb₀ : Evolves ps₀ b₀ s) :
    Evolves ps₀ b₀ (State.blockError s p relayed) := by
  simp only [List.cons_subset, List.nil_subset, and_true] at hp₀
  unfold State.blockError
  try dsimp only
  repeat' (first
    | focus (simp (maxDischargeDepth := 60) only [↓State.bump_evolves, ↓State.event_evolves, ↓State.relayAbort_evolves,
        ↓Evolves.foldl, ↓Evolves.foldl_fst, ↓Evolves.ite, ↓Evolves.ite_fst, ↓Evolves.elim_opt, Evolves.refl, Nat.le_add_right,
        implies_true, List.cons_subset, List.nil_subset, and_true, hp₀, hb₀];done)
    | (refine Evolves.foldl _ _ _ (fun u x => ?_) ?_ <;> try dsimp only)
    | (refine Evolves.foldl_fst _ _ _ (fun u x => ?_) ?_ <;> try dsimp only)
    | split)

theorem execBlockError_evolves (port : Nat) (relayed : Bool) (s : State) :
    ∃ t₁, execBlockError port relayed s = .next t₁ ∧ Evolves [.regs, .sent] s t₁ := by
  have hb₀ := Evolves.refl [.regs, .sent] s
  unfold execBlockError
  refine ⟨_, rfl, ?_⟩
  try dsimp only
  repeat' (first
    | focus (simp (maxDischargeDepth := 60) only [↓State.blockError_evolves, ↓Evolves.foldl, ↓Evolves.foldl_fst, ↓Evolves.ite,
        ↓Evolves.ite_fst, ↓Evolves.elim_opt, Evolves.refl, Nat.le_add_right, implies_true, List.cons_subset, List.nil_subset,
        and_true, List.mem_cons, reduceCtorEq, true_or, or_true, false_or, or_false, hb₀];done)
    | (refine Evolves.foldl _ _ _ (fun u x => ?_) ?_ <;> try dsimp only)
    | (refine Evolves.foldl_fst _ _ _ (fun u x => ?_) ?_ <;> try dsimp only)
    | split)

theorem execTimeRequest_evolves (port : Nat) (s : State) :
    ∃ t₁, execTimeRequest port s = .next t₁ ∧ Evolves [.cycles, .wall, .sent, .link] s t₁ := by
  have hb₀ := Evolves.refl [.cycles, .wall, .sent, .link] s
  unfold execTimeRequest
  refine ⟨_, rfl, ?_⟩
  try dsimp only
  repeat' (first
    | focus (simp (maxDischargeDepth := 60) only [↓State.untilCycle_evolves, ↓State.send_evolves, ↓State.setPort_evolves,
        ↓Evolves.foldl, ↓Evolves.foldl_fst, ↓Evolves.ite, ↓Evolves.ite_fst, ↓Evolves.elim_opt, Evolves.refl, Nat.le_add_right,
        implies_true, List.cons_subset, List.nil_subset, and_true, List.mem_cons, reduceCtorEq, true_or, or_true, false_or,
        or_false, hb₀];done)
    | (refine Evolves.foldl _ _ _ (fun u x => ?_) ?_ <;> try dsimp only)
    | (refine Evolves.foldl_fst _ _ _ (fun u x => ?_) ?_ <;> try dsimp only)
    | split)

theorem State.timeBlock_evolves {ps₀ : List Part} {b₀ : State} (s : State) (p tseq dir stamp : Nat)
    (hp₀ : [.sent, .link, .time] ⊆ ps₀) (hb₀ : Evolves ps₀ b₀ s) :
    Evolves ps₀ b₀ (State.timeBlock s p tseq dir stamp) := by
  simp only [List.cons_subset, List.nil_subset, and_true] at hp₀
  unfold State.timeBlock
  try dsimp only
  repeat' (first
    | focus (simp (maxDischargeDepth := 60) only [↓State.blockSeen_evolves, ↓State.send_evolves, ↓Evolves.set_time,
        ↓Evolves.foldl, ↓Evolves.foldl_fst, ↓Evolves.ite, ↓Evolves.ite_fst, ↓Evolves.elim_opt, Evolves.refl, Nat.le_add_right,
        implies_true, List.cons_subset, List.nil_subset, and_true, hp₀, hb₀];done)
    | (refine Evolves.foldl _ _ _ (fun u x => ?_) ?_ <;> try dsimp only)
    | (refine Evolves.foldl_fst _ _ _ (fun u x => ?_) ?_ <;> try dsimp only)
    | split)

theorem execTimeBlock_evolves (port tseq dir stamp : Nat) (s : State) :
    ∃ t₁, execTimeBlock port tseq dir stamp s = .next t₁ ∧ Evolves [.sent, .link, .time] s t₁ := by
  have hb₀ := Evolves.refl [.sent, .link, .time] s
  unfold execTimeBlock
  refine ⟨_, rfl, ?_⟩
  try dsimp only
  repeat' (first
    | focus (simp (maxDischargeDepth := 60) only [↓State.timeBlock_evolves, ↓Evolves.foldl, ↓Evolves.foldl_fst, ↓Evolves.ite,
        ↓Evolves.ite_fst, ↓Evolves.elim_opt, Evolves.refl, Nat.le_add_right, implies_true, List.cons_subset, List.nil_subset,
        and_true, List.mem_cons, reduceCtorEq, true_or, or_true, false_or, or_false, hb₀];done)
    | (refine Evolves.foldl _ _ _ (fun u x => ?_) ?_ <;> try dsimp only)
    | (refine Evolves.foldl_fst _ _ _ (fun u x => ?_) ?_ <;> try dsimp only)
    | split)

theorem State.timeInfo_evolves {ps₀ : List Part} {b₀ : State} (s : State) (p tseq : Nat) (t1 t4 : Int) (locked : Bool)
    (hp₀ : [.regs, .fresh, .cycles, .wall, .flip, .sched, .time] ⊆ ps₀) (hb₀ : Evolves ps₀ b₀ s) :
    Evolves ps₀ b₀ (State.timeInfo s p tseq t1 t4 locked) := by
  simp only [List.cons_subset, List.nil_subset, and_true] at hp₀
  unfold State.timeInfo
  try dsimp only
  repeat' (first
    | focus (simp (maxDischargeDepth := 60) only [↓State.drawn_evolves, ↓State.servoSample_evolves, ↓State.setFld_evolves,
        ↓Evolves.set_time, ↓Evolves.foldl, ↓Evolves.foldl_fst, ↓Evolves.ite, ↓Evolves.ite_fst, ↓Evolves.elim_opt, Evolves.refl,
        Nat.le_add_right, implies_true, List.cons_subset, List.nil_subset, and_true, hp₀, hb₀];done)
    | (refine Evolves.foldl _ _ _ (fun u x => ?_) ?_ <;> try dsimp only)
    | (refine Evolves.foldl_fst _ _ _ (fun u x => ?_) ?_ <;> try dsimp only)
    | split)

theorem execTimeInfo_evolves (m : MsgHdr) (tseq t1 t4 : Nat) (locked : Bool) (s : State) :
    ∃ t₁, execTimeInfo m tseq t1 t4 locked s = .next t₁ ∧ Evolves [.regs, .fresh, .cycles, .wall, .flip, .sched, .link, .time] s t₁ := by
  have hb₀ := Evolves.refl [.regs, .fresh, .cycles, .wall, .flip, .sched, .link, .time] s
  unfold execTimeInfo
  refine ⟨_, rfl, ?_⟩
  try dsimp only
  repeat' (first
    | focus (simp (maxDischargeDepth := 60) only [↓State.blockSeen_evolves, ↓State.timeInfo_evolves, ↓State.eventCount_evolves,
        ↓Evolves.foldl, ↓Evolves.foldl_fst, ↓Evolves.ite, ↓Evolves.ite_fst, ↓Evolves.elim_opt, Evolves.refl, Nat.le_add_right,
        implies_true, List.cons_subset, List.nil_subset, and_true, List.mem_cons, reduceCtorEq, true_or, or_true, false_or,
        or_false, hb₀];done)
    | (refine Evolves.foldl _ _ _ (fun u x => ?_) ?_ <;> try dsimp only)
    | (refine Evolves.foldl_fst _ _ _ (fun u x => ?_) ?_ <;> try dsimp only)
    | split)

end Sys2Proof.Machine
end

