-- ==== Sys2Proof/Laws/EvolveLanes.lean ====
section
/-! SUPPORT. What the operations of Machine/Lanes.lean keep (Evolves). -/

set_option linter.unusedSimpArgs false
set_option linter.unreachableTactic false
set_option linter.unusedTactic false
set_option linter.unusedVariables false

namespace Sys2Proof.Machine

theorem State.trainLane_evolves {ps₀ : List Part} {b₀ : State} (s : State) (n : Nat)
    (hp₀ : [.regs, .lanes] ⊆ ps₀) (hb₀ : Evolves ps₀ b₀ s) :
    Evolves ps₀ b₀ (State.trainLane s n) := by
  simp only [List.cons_subset, List.nil_subset, and_true] at hp₀
  unfold State.trainLane
  try dsimp only
  repeat' (first
    | focus (simp (maxDischargeDepth := 60) only [↓State.setFld_evolves, ↓Evolves.set_lanes, ↓Evolves.foldl, ↓Evolves.foldl_fst,
        ↓Evolves.ite, ↓Evolves.ite_fst, ↓Evolves.elim_opt, Evolves.refl, Nat.le_add_right, implies_true, List.cons_subset,
        List.nil_subset, and_true, hp₀, hb₀];done)
    | (refine Evolves.foldl _ _ _ (fun u x => ?_) ?_ <;> try dsimp only)
    | (refine Evolves.foldl_fst _ _ _ (fun u x => ?_) ?_ <;> try dsimp only)
    | split)

theorem State.portLanesOn_evolves {ps₀ : List Part} {b₀ : State} (s : State) (p : Nat)
    (hp₀ : [.regs, .lanes] ⊆ ps₀) (hb₀ : Evolves ps₀ b₀ s) :
    Evolves ps₀ b₀ (State.portLanesOn s p) := by
  simp only [List.cons_subset, List.nil_subset, and_true] at hp₀
  unfold State.portLanesOn
  try dsimp only
  repeat' (first
    | focus (simp (maxDischargeDepth := 60) only [↓State.trainLane_evolves, ↓Evolves.foldl, ↓Evolves.foldl_fst, ↓Evolves.ite,
        ↓Evolves.ite_fst, ↓Evolves.elim_opt, Evolves.refl, Nat.le_add_right, implies_true, List.cons_subset, List.nil_subset,
        and_true, hp₀, hb₀];done)
    | (refine Evolves.foldl _ _ _ (fun u x => ?_) ?_ <;> try dsimp only)
    | (refine Evolves.foldl_fst _ _ _ (fun u x => ?_) ?_ <;> try dsimp only)
    | split)

theorem State.portLanesOff_evolves {ps₀ : List Part} {b₀ : State} (s : State) (p : Nat)
    (hp₀ : [.regs, .link] ⊆ ps₀) (hb₀ : Evolves ps₀ b₀ s) :
    Evolves ps₀ b₀ (State.portLanesOff s p) := by
  simp only [List.cons_subset, List.nil_subset, and_true] at hp₀
  unfold State.portLanesOff
  try dsimp only
  repeat' (first
    | focus (simp (maxDischargeDepth := 60) only [↓State.setReg_evolves, ↓State.setFld_evolves, ↓State.portDown_evolves,
        ↓Evolves.foldl, ↓Evolves.foldl_fst, ↓Evolves.ite, ↓Evolves.ite_fst, ↓Evolves.elim_opt, Evolves.refl, Nat.le_add_right,
        implies_true, List.cons_subset, List.nil_subset, and_true, hp₀, hb₀];done)
    | (refine Evolves.foldl _ _ _ (fun u x => ?_) ?_ <;> try dsimp only)
    | (refine Evolves.foldl_fst _ _ _ (fun u x => ?_) ?_ <;> try dsimp only)
    | split)

theorem State.quads_evolves {ps₀ : List Part} {b₀ : State} (s : State)
    (hp₀ : [.regs] ⊆ ps₀) (hb₀ : Evolves ps₀ b₀ s) :
    Evolves ps₀ b₀ (State.quads s) := by
  simp only [List.cons_subset, List.nil_subset, and_true] at hp₀
  unfold State.quads
  try dsimp only
  repeat' (first
    | focus (simp (maxDischargeDepth := 60) only [↓State.setFlag_evolves, ↓State.setFld_evolves, ↓Evolves.foldl,
        ↓Evolves.foldl_fst, ↓Evolves.ite, ↓Evolves.ite_fst, ↓Evolves.elim_opt, Evolves.refl, Nat.le_add_right, implies_true,
        List.cons_subset, List.nil_subset, and_true, hp₀, hb₀];done)
    | (refine Evolves.foldl _ _ _ (fun u x => ?_) ?_ <;> try dsimp only)
    | (refine Evolves.foldl_fst _ _ _ (fun u x => ?_) ?_ <;> try dsimp only)
    | split)

theorem State.updateWidth_evolves {ps₀ : List Part} {b₀ : State} (s : State) (p : Nat)
    (hp₀ : [.regs, .scan] ⊆ ps₀) (hb₀ : Evolves ps₀ b₀ s) :
    Evolves ps₀ b₀ (State.updateWidth s p) := by
  simp only [List.cons_subset, List.nil_subset, and_true] at hp₀
  unfold State.updateWidth
  try dsimp only
  repeat' (first
    | focus (simp (maxDischargeDepth := 60) only [↓State.setFld_evolves, ↓Evolves.set_scan, ↓Evolves.foldl, ↓Evolves.foldl_fst,
        ↓Evolves.ite, ↓Evolves.ite_fst, ↓Evolves.elim_opt, Evolves.refl, Nat.le_add_right, implies_true, List.cons_subset,
        List.nil_subset, and_true, hp₀, hb₀];done)
    | (refine Evolves.foldl _ _ _ (fun u x => ?_) ?_ <;> try dsimp only)
    | (refine Evolves.foldl_fst _ _ _ (fun u x => ?_) ?_ <;> try dsimp only)
    | split)

theorem State.checkTrained_evolves {ps₀ : List Part} {b₀ : State} (s : State) (p : Nat)
    (hp₀ : [.regs, .link] ⊆ ps₀) (hb₀ : Evolves ps₀ b₀ s) :
    Evolves ps₀ b₀ (State.checkTrained s p) := by
  simp only [List.cons_subset, List.nil_subset, and_true] at hp₀
  unfold State.checkTrained
  try dsimp only
  repeat' (first
    | focus (simp (maxDischargeDepth := 60) only [↓State.setPortMode_evolves, ↓State.portDown_evolves, ↓Evolves.foldl,
        ↓Evolves.foldl_fst, ↓Evolves.ite, ↓Evolves.ite_fst, ↓Evolves.elim_opt, Evolves.refl, Nat.le_add_right, implies_true,
        List.cons_subset, List.nil_subset, and_true, hp₀, hb₀];done)
    | (refine Evolves.foldl _ _ _ (fun u x => ?_) ?_ <;> try dsimp only)
    | (refine Evolves.foldl_fst _ _ _ (fun u x => ?_) ?_ <;> try dsimp only)
    | split)

theorem State.setLaneSet_evolves {ps₀ : List Part} {b₀ : State} (s : State) (p : Nat) (f : Fld) (v : Nat)
    (hp₀ : [.regs] ⊆ ps₀) (hb₀ : Evolves ps₀ b₀ s) :
    Evolves ps₀ b₀ (State.setLaneSet s p f v) := by
  simp only [List.cons_subset, List.nil_subset, and_true] at hp₀
  unfold State.setLaneSet
  try dsimp only
  repeat' (first
    | focus (simp (maxDischargeDepth := 60) only [↓State.event_evolves, ↓State.bump_evolves, ↓State.setFld_evolves,
        ↓Evolves.foldl, ↓Evolves.foldl_fst, ↓Evolves.ite, ↓Evolves.ite_fst, ↓Evolves.elim_opt, Evolves.refl, Nat.le_add_right,
        implies_true, List.cons_subset, List.nil_subset, and_true, hp₀, hb₀];done)
    | (refine Evolves.foldl _ _ _ (fun u x => ?_) ?_ <;> try dsimp only)
    | (refine Evolves.foldl_fst _ _ _ (fun u x => ?_) ?_ <;> try dsimp only)
    | split)

theorem State.retrainPort_evolves {ps₀ : List Part} {b₀ : State} (s : State) (p : Nat)
    (hp₀ : [.regs, .scan, .lanes] ⊆ ps₀) (hb₀ : Evolves ps₀ b₀ s) :
    Evolves ps₀ b₀ (State.retrainPort s p) := by
  simp only [List.cons_subset, List.nil_subset, and_true] at hp₀
  unfold State.retrainPort
  try dsimp only
  repeat' (first
    | focus (simp (maxDischargeDepth := 60) only [↓State.setLaneSet_evolves, ↓State.portLanesOn_evolves,
        ↓State.updateWidth_evolves, ↓Evolves.set_lanes, ↓Evolves.foldl, ↓Evolves.foldl_fst, ↓Evolves.ite, ↓Evolves.ite_fst,
        ↓Evolves.elim_opt, Evolves.refl, Nat.le_add_right, implies_true, List.cons_subset, List.nil_subset, and_true, hp₀,
        hb₀];done)
    | (refine Evolves.foldl _ _ _ (fun u x => ?_) ?_ <;> try dsimp only)
    | (refine Evolves.foldl_fst _ _ _ (fun u x => ?_) ?_ <;> try dsimp only)
    | split)

theorem execHelloTimeout_evolves (port : Nat) (s : State) :
    ∃ t₁, execHelloTimeout port s = .next t₁ ∧ Evolves [.regs, .cycles, .wall, .link, .scan, .lanes] s t₁ := by
  have hb₀ := Evolves.refl [.regs, .cycles, .wall, .link, .scan, .lanes] s
  unfold execHelloTimeout
  refine ⟨_, rfl, ?_⟩
  try dsimp only
  repeat' (first
    | focus (simp (maxDischargeDepth := 60) only [↓State.retrainPort_evolves, ↓State.portDown_evolves, ↓State.untilCycle_evolves,
        ↓Evolves.foldl, ↓Evolves.foldl_fst, ↓Evolves.ite, ↓Evolves.ite_fst, ↓Evolves.elim_opt, Evolves.refl, Nat.le_add_right,
        implies_true, List.cons_subset, List.nil_subset, and_true, List.mem_cons, reduceCtorEq, true_or, or_true, false_or,
        or_false, hb₀];done)
    | (refine Evolves.foldl _ _ _ (fun u x => ?_) ?_ <;> try dsimp only)
    | (refine Evolves.foldl_fst _ _ _ (fun u x => ?_) ?_ <;> try dsimp only)
    | split)

theorem State.loseLane_evolves {ps₀ : List Part} {b₀ : State} (s : State) (n : Nat)
    (hp₀ : [.regs, .lanes] ⊆ ps₀) (hb₀ : Evolves ps₀ b₀ s) :
    Evolves ps₀ b₀ (State.loseLane s n) := by
  simp only [List.cons_subset, List.nil_subset, and_true] at hp₀
  unfold State.loseLane
  try dsimp only
  repeat' (first
    | focus (simp (maxDischargeDepth := 60) only [↓State.event_evolves, ↓State.setFld_evolves, ↓State.trainLane_evolves,
        ↓Evolves.set_lanes, ↓Evolves.foldl, ↓Evolves.foldl_fst, ↓Evolves.ite, ↓Evolves.ite_fst, ↓Evolves.elim_opt, Evolves.refl,
        Nat.le_add_right, implies_true, List.cons_subset, List.nil_subset, and_true, hp₀, hb₀];done)
    | (refine Evolves.foldl _ _ _ (fun u x => ?_) ?_ <;> try dsimp only)
    | (refine Evolves.foldl_fst _ _ _ (fun u x => ?_) ?_ <;> try dsimp only)
    | split)

theorem State.laneLost_evolves {ps₀ : List Part} {b₀ : State} (s : State) (n : Nat) (hiBer skewed relayed : Bool)
    (hp₀ : [.regs, .sent, .link, .lanes] ⊆ ps₀) (hb₀ : Evolves ps₀ b₀ s) :
    Evolves ps₀ b₀ (State.laneLost s n hiBer skewed relayed) := by
  simp only [List.cons_subset, List.nil_subset, and_true] at hp₀
  unfold State.laneLost
  try dsimp only
  repeat' (first
    | focus (simp (maxDischargeDepth := 60) only [↓State.event_evolves, ↓State.loseLane_evolves, ↓State.setFlag_evolves,
        ↓State.relayAbort_evolves, ↓State.checkTrained_evolves, ↓State.setLaneSet_evolves, ↓Evolves.foldl, ↓Evolves.foldl_fst,
        ↓Evolves.ite, ↓Evolves.ite_fst, ↓Evolves.elim_opt, Evolves.refl, Nat.le_add_right, implies_true, List.cons_subset,
        List.nil_subset, and_true, hp₀, hb₀];done)
    | (refine Evolves.foldl _ _ _ (fun u x => ?_) ?_ <;> try dsimp only)
    | (refine Evolves.foldl_fst _ _ _ (fun u x => ?_) ?_ <;> try dsimp only)
    | split)

theorem execLaneLost_evolves (lane : Nat) (hiBer skewed relayed : Bool) (s : State) :
    ∃ t₁, execLaneLost lane hiBer skewed relayed s = .next t₁ ∧ Evolves [.regs, .sent, .link, .lanes] s t₁ := by
  have hb₀ := Evolves.refl [.regs, .sent, .link, .lanes] s
  unfold execLaneLost
  refine ⟨_, rfl, ?_⟩
  try dsimp only
  repeat' (first
    | focus (simp (maxDischargeDepth := 60) only [↓State.laneLost_evolves, ↓Evolves.foldl, ↓Evolves.foldl_fst, ↓Evolves.ite,
        ↓Evolves.ite_fst, ↓Evolves.elim_opt, Evolves.refl, Nat.le_add_right, implies_true, List.cons_subset, List.nil_subset,
        and_true, List.mem_cons, reduceCtorEq, true_or, or_true, false_or, or_false, hb₀];done)
    | (refine Evolves.foldl _ _ _ (fun u x => ?_) ?_ <;> try dsimp only)
    | (refine Evolves.foldl_fst _ _ _ (fun u x => ?_) ?_ <;> try dsimp only)
    | split)

theorem execLaneTrained_evolves (lane skew : Nat) (s : State) :
    ∃ t₁, execLaneTrained lane skew s = .next t₁ ∧ Evolves [.regs, .cycles, .wall] s t₁ := by
  have hb₀ := Evolves.refl [.regs, .cycles, .wall] s
  unfold execLaneTrained
  refine ⟨_, rfl, ?_⟩
  try dsimp only
  repeat' (first
    | focus (simp (maxDischargeDepth := 60) only [↓State.event_evolves, ↓State.setFld_evolves, ↓State.untilCycle_evolves,
        ↓State.setFlag_evolves, ↓Evolves.foldl, ↓Evolves.foldl_fst, ↓Evolves.ite, ↓Evolves.ite_fst, ↓Evolves.elim_opt,
        Evolves.refl, Nat.le_add_right, implies_true, List.cons_subset, List.nil_subset, and_true, List.mem_cons, reduceCtorEq,
        true_or, or_true, false_or, or_false, hb₀];done)
    | (refine Evolves.foldl _ _ _ (fun u x => ?_) ?_ <;> try dsimp only)
    | (refine Evolves.foldl_fst _ _ _ (fun u x => ?_) ?_ <;> try dsimp only)
    | split)

theorem execTxSetForm_evolves (port : Nat) (s : State) :
    ∃ t₁, execTxSetForm port s = .next t₁ ∧ Evolves [.regs, .cycles, .wall, .link, .scan] s t₁ := by
  have hb₀ := Evolves.refl [.regs, .cycles, .wall, .link, .scan] s
  unfold execTxSetForm
  refine ⟨_, rfl, ?_⟩
  try dsimp only
  repeat' (first
    | focus (simp (maxDischargeDepth := 60) only [↓State.untilCycle_evolves, ↓State.checkTrained_evolves,
        ↓State.updateWidth_evolves, ↓State.setLaneSet_evolves, ↓Evolves.foldl, ↓Evolves.foldl_fst, ↓Evolves.ite, ↓Evolves.ite_fst,
        ↓Evolves.elim_opt, Evolves.refl, Nat.le_add_right, implies_true, List.cons_subset, List.nil_subset, and_true,
        List.mem_cons, reduceCtorEq, true_or, or_true, false_or, or_false, hb₀];done)
    | (refine Evolves.foldl _ _ _ (fun u x => ?_) ?_ <;> try dsimp only)
    | (refine Evolves.foldl_fst _ _ _ (fun u x => ?_) ?_ <;> try dsimp only)
    | split)

theorem State.knuckleLane_evolves {ps₀ : List Part} {b₀ : State} (s : State) (p txSet l : Nat)
    (hp₀ : [.regs, .lanes] ⊆ ps₀) (hb₀ : Evolves ps₀ b₀ s) :
    Evolves ps₀ b₀ (State.knuckleLane s p txSet l) := by
  simp only [List.cons_subset, List.nil_subset, and_true] at hp₀
  unfold State.knuckleLane
  try dsimp only
  repeat' (first
    | focus (simp (maxDischargeDepth := 60) only [↓State.trainLane_evolves, ↓State.setFld_evolves, ↓State.event_evolves,
        ↓Evolves.set_lanes, ↓Evolves.foldl, ↓Evolves.foldl_fst, ↓Evolves.ite, ↓Evolves.ite_fst, ↓Evolves.elim_opt, Evolves.refl,
        Nat.le_add_right, implies_true, List.cons_subset, List.nil_subset, and_true, hp₀, hb₀];done)
    | (refine Evolves.foldl _ _ _ (fun u x => ?_) ?_ <;> try dsimp only)
    | (refine Evolves.foldl_fst _ _ _ (fun u x => ?_) ?_ <;> try dsimp only)
    | split)

theorem State.bipErrors_evolves {ps₀ : List Part} {b₀ : State} (s : State) (p l e : Nat)
    (hp₀ : [.regs, .sent, .link, .lanes] ⊆ ps₀) (hb₀ : Evolves ps₀ b₀ s) :
    Evolves ps₀ b₀ (State.bipErrors s p l e) := by
  simp only [List.cons_subset, List.nil_subset, and_true] at hp₀
  unfold State.bipErrors
  try dsimp only
  repeat' (first
    | focus (simp (maxDischargeDepth := 60) only [↓State.bumpBy_evolves, ↓State.laneLost_evolves, ↓Evolves.foldl,
        ↓Evolves.foldl_fst, ↓Evolves.ite, ↓Evolves.ite_fst, ↓Evolves.elim_opt, Evolves.refl, Nat.le_add_right, implies_true,
        List.cons_subset, List.nil_subset, and_true, hp₀, hb₀];done)
    | (refine Evolves.foldl _ _ _ (fun u x => ?_) ?_ <;> try dsimp only)
    | (refine Evolves.foldl_fst _ _ _ (fun u x => ?_) ?_ <;> try dsimp only)
    | split)

theorem State.laneSkew_evolves {ps₀ : List Part} {b₀ : State} (s : State) (p l k : Nat)
    (hp₀ : [.regs, .sent, .link, .lanes] ⊆ ps₀) (hb₀ : Evolves ps₀ b₀ s) :
    Evolves ps₀ b₀ (State.laneSkew s p l k) := by
  simp only [List.cons_subset, List.nil_subset, and_true] at hp₀
  unfold State.laneSkew
  try dsimp only
  repeat' (first
    | focus (simp (maxDischargeDepth := 60) only [↓State.setFld_evolves, ↓State.laneLost_evolves, ↓Evolves.foldl,
        ↓Evolves.foldl_fst, ↓Evolves.ite, ↓Evolves.ite_fst, ↓Evolves.elim_opt, Evolves.refl, Nat.le_add_right, implies_true,
        List.cons_subset, List.nil_subset, and_true, hp₀, hb₀];done)
    | (refine Evolves.foldl _ _ _ (fun u x => ?_) ?_ <;> try dsimp only)
    | (refine Evolves.foldl_fst _ _ _ (fun u x => ?_) ?_ <;> try dsimp only)
    | split)

theorem State.knuckle_evolves {ps₀ : List Part} {b₀ : State} (s : State) (p txSet rxOk wmin : Nat) (skew bip : List Nat)
    (hp₀ : [.regs, .sent, .link, .scan, .lanes] ⊆ ps₀) (hb₀ : Evolves ps₀ b₀ s) :
    Evolves ps₀ b₀ (State.knuckle s p txSet rxOk wmin skew bip) := by
  simp only [List.cons_subset, List.nil_subset, and_true] at hp₀
  unfold State.knuckle
  try dsimp only
  repeat' (first
    | focus (simp (maxDischargeDepth := 60) only [↓State.laneSkew_evolves, ↓State.bipErrors_evolves, ↓State.blockSeen_evolves,
        ↓State.knuckleLane_evolves, ↓State.setLaneSet_evolves, ↓State.setFld_evolves, ↓State.checkTrained_evolves,
        ↓State.updateWidth_evolves, ↓State.send_evolves, ↓Evolves.set_lanes, ↓Evolves.foldl, ↓Evolves.foldl_fst, ↓Evolves.ite,
        ↓Evolves.ite_fst, ↓Evolves.elim_opt, Evolves.refl, Nat.le_add_right, implies_true, List.cons_subset, List.nil_subset,
        and_true, hp₀, hb₀];done)
    | (refine Evolves.foldl _ _ _ (fun u x => ?_) ?_ <;> try dsimp only)
    | (refine Evolves.foldl_fst _ _ _ (fun u x => ?_) ?_ <;> try dsimp only)
    | split)

theorem execKnuckle_evolves (port txSet rxOk wmin : Nat) (skew bip : List Nat) (s : State) :
    ∃ t₁, execKnuckle port txSet rxOk wmin skew bip s = .next t₁ ∧ Evolves [.regs, .sent, .link, .scan, .lanes] s t₁ := by
  have hb₀ := Evolves.refl [.regs, .sent, .link, .scan, .lanes] s
  unfold execKnuckle
  refine ⟨_, rfl, ?_⟩
  try dsimp only
  repeat' (first
    | focus (simp (maxDischargeDepth := 60) only [↓State.knuckle_evolves, ↓Evolves.foldl, ↓Evolves.foldl_fst, ↓Evolves.ite,
        ↓Evolves.ite_fst, ↓Evolves.elim_opt, Evolves.refl, Nat.le_add_right, implies_true, List.cons_subset, List.nil_subset,
        and_true, List.mem_cons, reduceCtorEq, true_or, or_true, false_or, or_false, hb₀];done)
    | (refine Evolves.foldl _ _ _ (fun u x => ?_) ?_ <;> try dsimp only)
    | (refine Evolves.foldl_fst _ _ _ (fun u x => ?_) ?_ <;> try dsimp only)
    | split)

theorem execAdaptFreeze_evolves (lane transitions : Nat) (codes : Word) (s : State) :
    ∃ t₁, execAdaptFreeze lane transitions codes s = .next t₁ ∧ Evolves [.regs] s t₁ := by
  have hb₀ := Evolves.refl [.regs] s
  unfold execAdaptFreeze
  refine ⟨_, rfl, ?_⟩
  try dsimp only
  repeat' (first
    | focus (simp (maxDischargeDepth := 60) only [↓State.bump_evolves, ↓State.event_evolves, ↓State.setFlag_evolves,
        ↓State.setFld_evolves, ↓State.setReg_evolves, ↓Evolves.foldl, ↓Evolves.foldl_fst, ↓Evolves.ite, ↓Evolves.ite_fst,
        ↓Evolves.elim_opt, Evolves.refl, Nat.le_add_right, implies_true, List.cons_subset, List.nil_subset, and_true,
        List.mem_cons, reduceCtorEq, true_or, or_true, false_or, or_false, hb₀];done)
    | (refine Evolves.foldl _ _ _ (fun u x => ?_) ?_ <;> try dsimp only)
    | (refine Evolves.foldl_fst _ _ _ (fun u x => ?_) ?_ <;> try dsimp only)
    | split)

theorem execEyeScan_evolves (lane w h : Nat) (s : State) :
    ∃ t₁, execEyeScan lane w h s = .next t₁ ∧ Evolves [.regs] s t₁ := by
  have hb₀ := Evolves.refl [.regs] s
  unfold execEyeScan
  refine ⟨_, rfl, ?_⟩
  try dsimp only
  repeat' (first
    | focus (simp (maxDischargeDepth := 60) only [↓State.setFld_evolves, ↓State.event_evolves, ↓Evolves.foldl, ↓Evolves.foldl_fst,
        ↓Evolves.ite, ↓Evolves.ite_fst, ↓Evolves.elim_opt, Evolves.refl, Nat.le_add_right, implies_true, List.cons_subset,
        List.nil_subset, and_true, List.mem_cons, reduceCtorEq, true_or, or_true, false_or, or_false, hb₀];done)
    | (refine Evolves.foldl _ _ _ (fun u x => ?_) ?_ <;> try dsimp only)
    | (refine Evolves.foldl_fst _ _ _ (fun u x => ?_) ?_ <;> try dsimp only)
    | split)

theorem State.startRecal_evolves {ps₀ : List Part} {b₀ : State} (s : State)
    (hp₀ : [.regs, .lanes] ⊆ ps₀) (hb₀ : Evolves ps₀ b₀ s) :
    Evolves ps₀ b₀ (State.startRecal s) := by
  simp only [List.cons_subset, List.nil_subset, and_true] at hp₀
  unfold State.startRecal
  try dsimp only
  repeat' (first
    | focus (simp (maxDischargeDepth := 60) only [↓State.wrapInc_evolves, ↓State.setFld_evolves, ↓Evolves.set_lanes,
        ↓Evolves.foldl, ↓Evolves.foldl_fst, ↓Evolves.ite, ↓Evolves.ite_fst, ↓Evolves.elim_opt, Evolves.refl, Nat.le_add_right,
        implies_true, List.cons_subset, List.nil_subset, and_true, hp₀, hb₀];done)
    | (refine Evolves.foldl _ _ _ (fun u x => ?_) ?_ <;> try dsimp only)
    | (refine Evolves.foldl_fst _ _ _ (fun u x => ?_) ?_ <;> try dsimp only)
    | split)

theorem execRecalTrigger_evolves (training : Bool) (s : State) :
    ∃ t₁, execRecalTrigger training s = .next t₁ ∧ Evolves [.regs, .lanes] s t₁ := by
  have hb₀ := Evolves.refl [.regs, .lanes] s
  unfold execRecalTrigger
  refine ⟨_, rfl, ?_⟩
  try dsimp only
  repeat' (first
    | focus (simp (maxDischargeDepth := 60) only [↓State.startRecal_evolves, ↓Evolves.foldl, ↓Evolves.foldl_fst, ↓Evolves.ite,
        ↓Evolves.ite_fst, ↓Evolves.elim_opt, Evolves.refl, Nat.le_add_right, implies_true, List.cons_subset, List.nil_subset,
        and_true, List.mem_cons, reduceCtorEq, true_or, or_true, false_or, or_false, hb₀];done)
    | (refine Evolves.foldl _ _ _ (fun u x => ?_) ?_ <;> try dsimp only)
    | (refine Evolves.foldl_fst _ _ _ (fun u x => ?_) ?_ <;> try dsimp only)
    | split)

theorem execRecalApply_evolves (lane : Nat) (offset : Int) (s : State) :
    ∃ t₁, execRecalApply lane offset s = .next t₁ ∧ Evolves [.regs, .lanes] s t₁ := by
  have hb₀ := Evolves.refl [.regs, .lanes] s
  unfold execRecalApply
  refine ⟨_, rfl, ?_⟩
  try dsimp only
  repeat' (first
    | focus (simp (maxDischargeDepth := 60) only [↓State.setFld_evolves, ↓State.event_evolves, ↓State.bump_evolves,
        ↓Evolves.set_lanes, ↓Evolves.foldl, ↓Evolves.foldl_fst, ↓Evolves.ite, ↓Evolves.ite_fst, ↓Evolves.elim_opt, Evolves.refl,
        Nat.le_add_right, implies_true, List.cons_subset, List.nil_subset, and_true, List.mem_cons, reduceCtorEq, true_or,
        or_true, false_or, or_false, hb₀];done)
    | (refine Evolves.foldl _ _ _ (fun u x => ?_) ?_ <;> try dsimp only)
    | (refine Evolves.foldl_fst _ _ _ (fun u x => ?_) ?_ <;> try dsimp only)
    | split)

theorem State.laneForced_evolves {ps₀ : List Part} {b₀ : State} (s : State) (n : Nat)
    (hp₀ : [.regs, .sent, .link, .lanes] ⊆ ps₀) (hb₀ : Evolves ps₀ b₀ s) :
    Evolves ps₀ b₀ (State.laneForced s n) := by
  simp only [List.cons_subset, List.nil_subset, and_true] at hp₀
  unfold State.laneForced
  try dsimp only
  repeat' (first
    | focus (simp (maxDischargeDepth := 60) only [↓State.laneLost_evolves, ↓State.trainLane_evolves, ↓Evolves.foldl,
        ↓Evolves.foldl_fst, ↓Evolves.ite, ↓Evolves.ite_fst, ↓Evolves.elim_opt, Evolves.refl, Nat.le_add_right, implies_true,
        List.cons_subset, List.nil_subset, and_true, hp₀, hb₀];done)
    | (refine Evolves.foldl _ _ _ (fun u x => ?_) ?_ <;> try dsimp only)
    | (refine Evolves.foldl_fst _ _ _ (fun u x => ?_) ?_ <;> try dsimp only)
    | split)

theorem State.outOfService_evolves {ps₀ : List Part} {b₀ : State} (s : State) (n : Nat)
    (hp₀ : [.regs, .fresh, .cycles, .wall, .net0, .net1, .video] ⊆ ps₀) (hb₀ : Evolves ps₀ b₀ s) :
    Evolves ps₀ b₀ (State.outOfService s n) := by
  simp only [List.cons_subset, List.nil_subset, and_true] at hp₀
  unfold State.outOfService
  try dsimp only
  repeat' (first
    | focus (simp (maxDischargeDepth := 60) only [↓State.lockLost_evolves, ↓State.netDown_evolves, ↓Evolves.foldl,
        ↓Evolves.foldl_fst, ↓Evolves.ite, ↓Evolves.ite_fst, ↓Evolves.elim_opt, Evolves.refl, Nat.le_add_right, implies_true,
        List.cons_subset, List.nil_subset, and_true, hp₀, hb₀];done)
    | (refine Evolves.foldl _ _ _ (fun u x => ?_) ?_ <;> try dsimp only)
    | (refine Evolves.foldl_fst _ _ _ (fun u x => ?_) ?_ <;> try dsimp only)
    | split)

theorem State.prbsChanged_evolves {ps₀ : List Part} {b₀ : State} (s : State) (n : Nat) (on : Bool)
    (hp₀ : [.regs, .fresh, .cycles, .wall, .sent, .link, .net0, .net1, .video, .lanes] ⊆ ps₀) (hb₀ : Evolves ps₀ b₀ s) :
    Evolves ps₀ b₀ (State.prbsChanged s n on) := by
  simp only [List.cons_subset, List.nil_subset, and_true] at hp₀
  unfold State.prbsChanged
  try dsimp only
  repeat' (first
    | focus (simp (maxDischargeDepth := 60) only [↓State.setReg_evolves, ↓State.laneForced_evolves, ↓State.outOfService_evolves,
        ↓Evolves.foldl, ↓Evolves.foldl_fst, ↓Evolves.ite, ↓Evolves.ite_fst, ↓Evolves.elim_opt, Evolves.refl, Nat.le_add_right,
        implies_true, List.cons_subset, List.nil_subset, and_true, hp₀, hb₀];done)
    | (refine Evolves.foldl _ _ _ (fun u x => ?_) ?_ <;> try dsimp only)
    | (refine Evolves.foldl_fst _ _ _ (fun u x => ?_) ?_ <;> try dsimp only)
    | split)

theorem State.writePrbs_evolves {ps₀ : List Part} {b₀ : State} (s : State) (n : Nat) (on : Bool)
    (hp₀ : [.regs, .fresh, .cycles, .wall, .sent, .link, .net0, .net1, .video, .lanes] ⊆ ps₀) (hb₀ : Evolves ps₀ b₀ s) :
    Evolves ps₀ b₀ (State.writePrbs s n on) := by
  simp only [List.cons_subset, List.nil_subset, and_true] at hp₀
  unfold State.writePrbs
  try dsimp only
  repeat' (first
    | focus (simp (maxDischargeDepth := 60) only [↓State.prbsChanged_evolves, ↓State.setFlag_evolves, ↓Evolves.foldl,
        ↓Evolves.foldl_fst, ↓Evolves.ite, ↓Evolves.ite_fst, ↓Evolves.elim_opt, Evolves.refl, Nat.le_add_right, implies_true,
        List.cons_subset, List.nil_subset, and_true, hp₀, hb₀];done)
    | (refine Evolves.foldl _ _ _ (fun u x => ?_) ?_ <;> try dsimp only)
    | (refine Evolves.foldl_fst _ _ _ (fun u x => ?_) ?_ <;> try dsimp only)
    | split)

theorem execPrbsEnWrite_evolves (lane : Nat) (on : Bool) (s : State) :
    ∃ t₁, execPrbsEnWrite lane on s = .next t₁ ∧ Evolves [.regs, .fresh, .cycles, .wall, .sent, .link, .net0, .net1, .video, .lanes] s t₁ := by
  have hb₀ := Evolves.refl [.regs, .fresh, .cycles, .wall, .sent, .link, .net0, .net1, .video, .lanes] s
  unfold execPrbsEnWrite
  refine ⟨_, rfl, ?_⟩
  try dsimp only
  repeat' (first
    | focus (simp (maxDischargeDepth := 60) only [↓State.writePrbs_evolves, ↓Evolves.foldl, ↓Evolves.foldl_fst, ↓Evolves.ite,
        ↓Evolves.ite_fst, ↓Evolves.elim_opt, Evolves.refl, Nat.le_add_right, implies_true, List.cons_subset, List.nil_subset,
        and_true, List.mem_cons, reduceCtorEq, true_or, or_true, false_or, or_false, hb₀];done)
    | (refine Evolves.foldl _ _ _ (fun u x => ?_) ?_ <;> try dsimp only)
    | (refine Evolves.foldl_fst _ _ _ (fun u x => ?_) ?_ <;> try dsimp only)
    | split)

theorem execForceOutWrite_evolves (lane : Nat) (on : Bool) (s : State) :
    ∃ t₁, execForceOutWrite lane on s = .next t₁ ∧ Evolves [.regs, .sent, .link, .lanes] s t₁ := by
  have hb₀ := Evolves.refl [.regs, .sent, .link, .lanes] s
  unfold execForceOutWrite
  refine ⟨_, rfl, ?_⟩
  try dsimp only
  repeat' (first
    | focus (simp (maxDischargeDepth := 60) only [↓State.laneForced_evolves, ↓State.setFlag_evolves, ↓Evolves.foldl,
        ↓Evolves.foldl_fst, ↓Evolves.ite, ↓Evolves.ite_fst, ↓Evolves.elim_opt, Evolves.refl, Nat.le_add_right, implies_true,
        List.cons_subset, List.nil_subset, and_true, List.mem_cons, reduceCtorEq, true_or, or_true, false_or, or_false, hb₀];done)
    | (refine Evolves.foldl _ _ _ (fun u x => ?_) ?_ <;> try dsimp only)
    | (refine Evolves.foldl_fst _ _ _ (fun u x => ?_) ?_ <;> try dsimp only)
    | split)

theorem State.reactTests_evolves {ps₀ : List Part} {b₀ : State} (before s : State)
    (hp₀ : [.regs, .fresh, .cycles, .wall, .sent, .link, .net0, .net1, .video, .lanes] ⊆ ps₀) (hb₀ : Evolves ps₀ b₀ s) :
    Evolves ps₀ b₀ (State.reactTests before s) := by
  simp only [List.cons_subset, List.nil_subset, and_true] at hp₀
  unfold State.reactTests
  try dsimp only
  repeat' (first
    | focus (simp (maxDischargeDepth := 60) only [↓State.prbsChanged_evolves, ↓State.laneForced_evolves, ↓Evolves.foldl,
        ↓Evolves.foldl_fst, ↓Evolves.ite, ↓Evolves.ite_fst, ↓Evolves.elim_opt, Evolves.refl, Nat.le_add_right, implies_true,
        List.cons_subset, List.nil_subset, and_true, hp₀, hb₀];done)
    | (refine Evolves.foldl _ _ _ (fun u x => ?_) ?_ <;> try dsimp only)
    | (refine Evolves.foldl_fst _ _ _ (fun u x => ?_) ?_ <;> try dsimp only)
    | split)

theorem State.reactLanes_evolves {ps₀ : List Part} {b₀ : State} (before s : State)
    (hp₀ : [.regs, .fresh, .cycles, .wall, .sent, .link, .net0, .net1, .video, .lanes] ⊆ ps₀) (hb₀ : Evolves ps₀ b₀ s) :
    Evolves ps₀ b₀ (State.reactLanes before s) := by
  simp only [List.cons_subset, List.nil_subset, and_true] at hp₀
  unfold State.reactLanes
  try dsimp only
  repeat' (first
    | focus (simp (maxDischargeDepth := 60) only [↓State.reactTests_evolves, ↓State.quads_evolves, ↓State.portLanesOn_evolves,
        ↓State.portLanesOff_evolves, ↓Evolves.foldl, ↓Evolves.foldl_fst, ↓Evolves.ite, ↓Evolves.ite_fst, ↓Evolves.elim_opt,
        Evolves.refl, Nat.le_add_right, implies_true, List.cons_subset, List.nil_subset, and_true, hp₀, hb₀];done)
    | (refine Evolves.foldl _ _ _ (fun u x => ?_) ?_ <;> try dsimp only)
    | (refine Evolves.foldl_fst _ _ _ (fun u x => ?_) ?_ <;> try dsimp only)
    | split)

end Sys2Proof.Machine
end

