-- ==== Sys2Proof/Laws/EvolveSupply.lean ====
section
/-! SUPPORT. What the operations of Machine/Supply.lean keep (Evolves). -/

set_option linter.unusedSimpArgs false
set_option linter.unreachableTactic false
set_option linter.unusedTactic false
set_option linter.unusedVariables false

namespace Sys2Proof.Machine

theorem State.setRemote_evolves {ps₀ : List Part} {b₀ : State} (s : State) (n : Nat) (x : RemoteIn)
    (hp₀ : [.thm] ⊆ ps₀) (hb₀ : Evolves ps₀ b₀ s) :
    Evolves ps₀ b₀ (State.setRemote s n x) := by
  simp only [List.cons_subset, List.nil_subset, and_true] at hp₀
  unfold State.setRemote
  try dsimp only
  repeat' (first
    | focus (simp (maxDischargeDepth := 60) only [↓Evolves.set_thm, ↓Evolves.foldl, ↓Evolves.foldl_fst, ↓Evolves.ite,
        ↓Evolves.ite_fst, ↓Evolves.elim_opt, Evolves.refl, Nat.le_add_right, implies_true, List.cons_subset, List.nil_subset,
        and_true, hp₀, hb₀];done)
    | (refine Evolves.foldl _ _ _ (fun u x => ?_) ?_ <;> try dsimp only)
    | (refine Evolves.foldl_fst _ _ _ (fun u x => ?_) ?_ <;> try dsimp only)
    | split)

theorem State.remoteFails_evolves {ps₀ : List Part} {b₀ : State} (s : State) (n : Nat)
    (hp₀ : [.regs, .sent, .link, .repl, .faults, .thm, .nvm, .red] ⊆ ps₀) (hb₀ : Evolves ps₀ b₀ s) :
    Evolves ps₀ b₀ (State.remoteFails s n) := by
  simp only [List.cons_subset, List.nil_subset, and_true] at hp₀
  unfold State.remoteFails
  try dsimp only
  repeat' (first
    | focus (simp (maxDischargeDepth := 60) only [↓State.setRemote_evolves, ↓State.fault_evolves, ↓State.event_evolves,
        ↓State.setFlag_evolves, ↓Evolves.foldl, ↓Evolves.foldl_fst, ↓Evolves.ite, ↓Evolves.ite_fst, ↓Evolves.elim_opt,
        Evolves.refl, Nat.le_add_right, implies_true, List.cons_subset, List.nil_subset, and_true, hp₀, hb₀];done)
    | (refine Evolves.foldl _ _ _ (fun u x => ?_) ?_ <;> try dsimp only)
    | (refine Evolves.foldl_fst _ _ _ (fun u x => ?_) ?_ <;> try dsimp only)
    | split)

theorem State.remoteGood_evolves {ps₀ : List Part} {b₀ : State} (s : State) (n : Nat) (r : Int)
    (hp₀ : [.regs, .thm] ⊆ ps₀) (hb₀ : Evolves ps₀ b₀ s) :
    Evolves ps₀ b₀ (State.remoteGood s n r) := by
  simp only [List.cons_subset, List.nil_subset, and_true] at hp₀
  unfold State.remoteGood
  try dsimp only
  repeat' (first
    | focus (simp (maxDischargeDepth := 60) only [↓State.setRemote_evolves, ↓State.setFlag_evolves, ↓State.setFld_evolves,
        ↓Evolves.foldl, ↓Evolves.foldl_fst, ↓Evolves.ite, ↓Evolves.ite_fst, ↓Evolves.elim_opt, Evolves.refl, Nat.le_add_right,
        implies_true, List.cons_subset, List.nil_subset, and_true, hp₀, hb₀];done)
    | (refine Evolves.foldl _ _ _ (fun u x => ?_) ?_ <;> try dsimp only)
    | (refine Evolves.foldl_fst _ _ _ (fun u x => ?_) ?_ <;> try dsimp only)
    | split)

theorem execRemoteTempConversion_evolves (input v1 v2 ohms : Nat) (s : State) :
    ∃ t₁, execRemoteTempConversion input v1 v2 ohms s = .next t₁ ∧ Evolves [.regs, .sent, .link, .repl, .faults, .thm, .nvm, .red] s t₁ := by
  have hb₀ := Evolves.refl [.regs, .sent, .link, .repl, .faults, .thm, .nvm, .red] s
  unfold execRemoteTempConversion
  refine ⟨_, rfl, ?_⟩
  try dsimp only
  repeat' (first
    | focus (simp (maxDischargeDepth := 60) only [↓State.remoteFails_evolves, ↓State.remoteGood_evolves, ↓Evolves.foldl,
        ↓Evolves.foldl_fst, ↓Evolves.ite, ↓Evolves.ite_fst, ↓Evolves.elim_opt, Evolves.refl, Nat.le_add_right, implies_true,
        List.cons_subset, List.nil_subset, and_true, List.mem_cons, reduceCtorEq, true_or, or_true, false_or, or_false, hb₀];done)
    | (refine Evolves.foldl _ _ _ (fun u x => ?_) ?_ <;> try dsimp only)
    | (refine Evolves.foldl_fst _ _ _ (fun u x => ?_) ?_ <;> try dsimp only)
    | split)

theorem State.reactThermal_evolves {ps₀ : List Part} {b₀ : State} (before s : State)
    (hp₀ : [.regs, .thm] ⊆ ps₀) (hb₀ : Evolves ps₀ b₀ s) :
    Evolves ps₀ b₀ (State.reactThermal before s) := by
  simp only [List.cons_subset, List.nil_subset, and_true] at hp₀
  unfold State.reactThermal
  try dsimp only
  repeat' (first
    | focus (simp (maxDischargeDepth := 60) only [↓State.setFlag_evolves, ↓State.setRemote_evolves, ↓Evolves.foldl,
        ↓Evolves.foldl_fst, ↓Evolves.ite, ↓Evolves.ite_fst, ↓Evolves.elim_opt, Evolves.refl, Nat.le_add_right, implies_true,
        List.cons_subset, List.nil_subset, and_true, hp₀, hb₀];done)
    | (refine Evolves.foldl _ _ _ (fun u x => ?_) ?_ <;> try dsimp only)
    | (refine Evolves.foldl_fst _ _ _ (fun u x => ?_) ?_ <;> try dsimp only)
    | split)

theorem execSupvBlock_evolves (input : Nat) (codes : List Nat) (s : State) :
    ∃ t₁, execSupvBlock input codes s = .next t₁ ∧ Evolves [.regs, .fresh, .sent, .link, .repl, .faults, .thm, .nvm, .red] s t₁ := by
  have hb₀ := Evolves.refl [.regs, .fresh, .sent, .link, .repl, .faults, .thm, .nvm, .red] s
  unfold execSupvBlock
  refine ⟨_, rfl, ?_⟩
  try dsimp only
  repeat' (first
    | focus (simp (maxDischargeDepth := 60) only [↓State.setFld_evolves, ↓State.drawn_evolves, ↓State.fault_evolves,
        ↓State.event_evolves, ↓Evolves.set_thm, ↓Evolves.foldl, ↓Evolves.foldl_fst, ↓Evolves.ite, ↓Evolves.ite_fst,
        ↓Evolves.elim_opt, Evolves.refl, Nat.le_add_right, implies_true, List.cons_subset, List.nil_subset, and_true,
        List.mem_cons, reduceCtorEq, true_or, or_true, false_or, or_false, hb₀];done)
    | (refine Evolves.foldl _ _ _ (fun u x => ?_) ?_ <;> try dsimp only)
    | (refine Evolves.foldl_fst _ _ _ (fun u x => ?_) ?_ <;> try dsimp only)
    | split)

theorem State.judgeRail_evolves {ps₀ : List Part} {b₀ : State} (s : State) (n : Nat)
    (hp₀ : [.regs, .sent, .link, .repl, .faults, .nvm, .red] ⊆ ps₀) (hb₀ : Evolves ps₀ b₀ s) :
    Evolves ps₀ b₀ (State.judgeRail s n) := by
  simp only [List.cons_subset, List.nil_subset, and_true] at hp₀
  unfold State.judgeRail
  try dsimp only
  repeat' (first
    | focus (simp (maxDischargeDepth := 60) only [↓State.setFld_evolves, ↓State.fault_evolves, ↓State.event_evolves,
        ↓Evolves.foldl, ↓Evolves.foldl_fst, ↓Evolves.ite, ↓Evolves.ite_fst, ↓Evolves.elim_opt, Evolves.refl, Nat.le_add_right,
        implies_true, List.cons_subset, List.nil_subset, and_true, hp₀, hb₀];done)
    | (refine Evolves.foldl _ _ _ (fun u x => ?_) ?_ <;> try dsimp only)
    | (refine Evolves.foldl_fst _ _ _ (fun u x => ?_) ?_ <;> try dsimp only)
    | split)

theorem State.supplyTarget_evolves {ps₀ : List Part} {b₀ : State} (s : State)
    (hp₀ : [.regs, .sent, .link, .repl, .faults, .thm, .nvm, .red] ⊆ ps₀) (hb₀ : Evolves ps₀ b₀ s) :
    Evolves ps₀ b₀ (State.supplyTarget s) := by
  simp only [List.cons_subset, List.nil_subset, and_true] at hp₀
  unfold State.supplyTarget
  try dsimp only
  repeat' (first
    | focus (simp (maxDischargeDepth := 60) only [↓State.judgeRail_evolves, ↓State.setFld_evolves, ↓Evolves.set_thm,
        ↓Evolves.foldl, ↓Evolves.foldl_fst, ↓Evolves.ite, ↓Evolves.ite_fst, ↓Evolves.elim_opt, Evolves.refl, Nat.le_add_right,
        implies_true, List.cons_subset, List.nil_subset, and_true, hp₀, hb₀];done)
    | (refine Evolves.foldl _ _ _ (fun u x => ?_) ?_ <;> try dsimp only)
    | (refine Evolves.foldl_fst _ _ _ (fun u x => ?_) ?_ <;> try dsimp only)
    | split)

end Sys2Proof.Machine
end

