-- ==== Sys2Proof/Laws/EvolveTile.lean ====
section
/-! SUPPORT. What the operations of Machine/Tile.lean keep (Evolves). -/

set_option linter.unusedSimpArgs false
set_option linter.unreachableTactic false
set_option linter.unusedTactic false
set_option linter.unusedVariables false

namespace Sys2Proof.Machine

theorem State.setHalf_evolves {ps₀ : List Part} {b₀ : State} (s : State) (h v : Nat)
    (hp₀ : [.tile] ⊆ ps₀) (hb₀ : Evolves ps₀ b₀ s) :
    Evolves ps₀ b₀ (State.setHalf s h v) := by
  simp only [List.cons_subset, List.nil_subset, and_true] at hp₀
  unfold State.setHalf
  exact Evolves.change (s := s) (h := hb₀) _ (fun p hn => by cases p <;> first | rfl | exact absurd hp₀ hn) rfl rfl rfl rfl
    (fun hc => ⟨hc.1, hc.2.1, hc.2.2.1, hc.2.2.2.1, hc.2.2.2.2.1, Sparse.wf_put _ _ _ _ hc.2.2.2.2.2⟩)

theorem State.setHalves_evolves {ps₀ : List Part} {b₀ : State} (s : State) (h : Nat) (vs : List Nat)
    (hp₀ : [.tile] ⊆ ps₀) (hb₀ : Evolves ps₀ b₀ s) :
    Evolves ps₀ b₀ (State.setHalves s h vs) := by
  simp only [List.cons_subset, List.nil_subset, and_true] at hp₀
  unfold State.setHalves
  exact Evolves.change (s := s) (h := hb₀) _ (fun p hn => by cases p <;> first | rfl | exact absurd hp₀ hn) rfl rfl rfl rfl
    (fun hc => ⟨hc.1, hc.2.1, hc.2.2.1, hc.2.2.2.1, hc.2.2.2.2.1, Sparse.wf_putRun _ _ _ _ hc.2.2.2.2.2⟩)

theorem State.clearStore_evolves {ps₀ : List Part} {b₀ : State} (s : State) (lo hi : Nat)
    (hp₀ : [.tile] ⊆ ps₀) (hb₀ : Evolves ps₀ b₀ s) :
    Evolves ps₀ b₀ (State.clearStore s lo hi) := by
  simp only [List.cons_subset, List.nil_subset, and_true] at hp₀
  unfold State.clearStore
  exact Evolves.change (s := s) (h := hb₀) _ (fun p hn => by cases p <;> first | rfl | exact absurd hp₀ hn) rfl rfl rfl rfl
    (fun hc => ⟨hc.1, hc.2.1, hc.2.2.1, hc.2.2.2.1, hc.2.2.2.2.1, Sparse.wf_eraseRange _ _ _ _ hc.2.2.2.2.2⟩)

theorem State.setStoreByte_evolves {ps₀ : List Part} {b₀ : State} (s : State) (byte : Nat) (b : Byte)
    (hp₀ : [.tile] ⊆ ps₀) (hb₀ : Evolves ps₀ b₀ s) :
    Evolves ps₀ b₀ (State.setStoreByte s byte b) := by
  simp only [List.cons_subset, List.nil_subset, and_true] at hp₀
  unfold State.setStoreByte
  try dsimp only
  repeat' (first
    | focus (simp (maxDischargeDepth := 60) only [↓State.setHalf_evolves, ↓Evolves.foldl, ↓Evolves.foldl_fst, ↓Evolves.ite,
        ↓Evolves.ite_fst, ↓Evolves.elim_opt, Evolves.refl, Nat.le_add_right, implies_true, List.cons_subset, List.nil_subset,
        and_true, hp₀, hb₀];done)
    | (refine Evolves.foldl _ _ _ (fun u x => ?_) ?_ <;> try dsimp only)
    | (refine Evolves.foldl_fst _ _ _ (fun u x => ?_) ?_ <;> try dsimp only)
    | split)

theorem State.setStoreBytes_evolves {ps₀ : List Part} {b₀ : State} (s : State) (byte : Nat) (bs : List Byte)
    (hp₀ : [.tile] ⊆ ps₀) (hb₀ : Evolves ps₀ b₀ s) :
    Evolves ps₀ b₀ (State.setStoreBytes s byte bs) := by
  simp only [List.cons_subset, List.nil_subset, and_true] at hp₀
  unfold State.setStoreBytes
  try dsimp only
  repeat' (first
    | focus (simp (maxDischargeDepth := 60) only [↓State.setStoreByte_evolves, ↓Evolves.foldl, ↓Evolves.foldl_fst, ↓Evolves.ite,
        ↓Evolves.ite_fst, ↓Evolves.elim_opt, Evolves.refl, Nat.le_add_right, implies_true, List.cons_subset, List.nil_subset,
        and_true, hp₀, hb₀];done)
    | (refine Evolves.foldl _ _ _ (fun u x => ?_) ?_ <;> try dsimp only)
    | (refine Evolves.foldl_fst _ _ _ (fun u x => ?_) ?_ <;> try dsimp only)
    | split)

theorem State.setArea_evolves {ps₀ : List Part} {b₀ : State} (s : State) (a : Nat) (x : Area)
    (hp₀ : [.tile] ⊆ ps₀) (hb₀ : Evolves ps₀ b₀ s) :
    Evolves ps₀ b₀ (State.setArea s a x) := by
  simp only [List.cons_subset, List.nil_subset, and_true] at hp₀
  unfold State.setArea
  try dsimp only
  repeat' (first
    | focus (simp (maxDischargeDepth := 60) only [↓Evolves.set_tile, ↓Evolves.foldl, ↓Evolves.foldl_fst, ↓Evolves.ite,
        ↓Evolves.ite_fst, ↓Evolves.elim_opt, Evolves.refl, Nat.le_add_right, implies_true, List.cons_subset, List.nil_subset,
        and_true, hp₀, hb₀];done)
    | (refine Evolves.foldl _ _ _ (fun u x => ?_) ?_ <;> try dsimp only)
    | (refine Evolves.foldl_fst _ _ _ (fun u x => ?_) ?_ <;> try dsimp only)
    | split)

theorem State.touchArea_evolves {ps₀ : List Part} {b₀ : State} (s : State) (a : Nat) (x : Area)
    (hp₀ : [.tile] ⊆ ps₀) (hb₀ : Evolves ps₀ b₀ s) :
    Evolves ps₀ b₀ (State.touchArea s a x) := by
  simp only [List.cons_subset, List.nil_subset, and_true] at hp₀
  unfold State.touchArea
  try dsimp only
  repeat' (first
    | focus (simp (maxDischargeDepth := 60) only [↓Evolves.set_tile, ↓Evolves.foldl, ↓Evolves.foldl_fst, ↓Evolves.ite,
        ↓Evolves.ite_fst, ↓Evolves.elim_opt, Evolves.refl, Nat.le_add_right, implies_true, List.cons_subset, List.nil_subset,
        and_true, hp₀, hb₀];done)
    | (refine Evolves.foldl _ _ _ (fun u x => ?_) ?_ <;> try dsimp only)
    | (refine Evolves.foldl_fst _ _ _ (fun u x => ?_) ?_ <;> try dsimp only)
    | split)

theorem State.areaFor_evolves {ps₀ : List Part} {b₀ : State} (s : State) (view : Nat)
    (hp₀ : [.regs] ⊆ ps₀) (hb₀ : Evolves ps₀ b₀ s) :
    Evolves ps₀ b₀ (State.areaFor s view).1 := by
  simp only [List.cons_subset, List.nil_subset, and_true] at hp₀
  unfold State.areaFor
  try dsimp only
  repeat' (first
    | focus (simp (maxDischargeDepth := 60) only [↓State.event_evolves, ↓Evolves.foldl, ↓Evolves.foldl_fst, ↓Evolves.ite,
        ↓Evolves.ite_fst, ↓Evolves.elim_opt, Evolves.refl, Nat.le_add_right, implies_true, List.cons_subset, List.nil_subset,
        and_true, hp₀, hb₀];done)
    | (refine Evolves.foldl _ _ _ (fun u x => ?_) ?_ <;> try dsimp only)
    | (refine Evolves.foldl_fst _ _ _ (fun u x => ?_) ?_ <;> try dsimp only)
    | split)

theorem State.freeAreas_evolves {ps₀ : List Part} {b₀ : State} (s : State)
    (hp₀ : [.tile] ⊆ ps₀) (hb₀ : Evolves ps₀ b₀ s) :
    Evolves ps₀ b₀ (State.freeAreas s) := by
  simp only [List.cons_subset, List.nil_subset, and_true] at hp₀
  unfold State.freeAreas
  try dsimp only
  repeat' (first
    | focus (simp (maxDischargeDepth := 60) only [↓Evolves.set_tile, ↓Evolves.foldl, ↓Evolves.foldl_fst, ↓Evolves.ite,
        ↓Evolves.ite_fst, ↓Evolves.elim_opt, Evolves.refl, Nat.le_add_right, implies_true, List.cons_subset, List.nil_subset,
        and_true, hp₀, hb₀];done)
    | (refine Evolves.foldl _ _ _ (fun u x => ?_) ?_ <;> try dsimp only)
    | (refine Evolves.foldl_fst _ _ _ (fun u x => ?_) ?_ <;> try dsimp only)
    | split)

theorem State.frameLost_evolves {ps₀ : List Part} {b₀ : State} (s : State)
    (hp₀ : [.regs] ⊆ ps₀) (hb₀ : Evolves ps₀ b₀ s) :
    Evolves ps₀ b₀ (State.frameLost s) := by
  simp only [List.cons_subset, List.nil_subset, and_true] at hp₀
  unfold State.frameLost
  try dsimp only
  repeat' (first
    | focus (simp (maxDischargeDepth := 60) only [↓State.bump_evolves, ↓Evolves.foldl, ↓Evolves.foldl_fst, ↓Evolves.ite,
        ↓Evolves.ite_fst, ↓Evolves.elim_opt, Evolves.refl, Nat.le_add_right, implies_true, List.cons_subset, List.nil_subset,
        and_true, hp₀, hb₀];done)
    | (refine Evolves.foldl _ _ _ (fun u x => ?_) ?_ <;> try dsimp only)
    | (refine Evolves.foldl_fst _ _ _ (fun u x => ?_) ?_ <;> try dsimp only)
    | split)

theorem State.openFill_evolves {ps₀ : List Part} {b₀ : State} (s : State) (a : Nat) (x : Area) (f : FlipMsg)
    (hp₀ : [.regs, .tile] ⊆ ps₀) (hb₀ : Evolves ps₀ b₀ s) :
    Evolves ps₀ b₀ (State.openFill s a x f) := by
  simp only [List.cons_subset, List.nil_subset, and_true] at hp₀
  unfold State.openFill
  try dsimp only
  repeat' (first
    | focus (simp (maxDischargeDepth := 60) only [↓State.frameLost_evolves, ↓State.touchArea_evolves, ↓Evolves.foldl,
        ↓Evolves.foldl_fst, ↓Evolves.ite, ↓Evolves.ite_fst, ↓Evolves.elim_opt, Evolves.refl, Nat.le_add_right, implies_true,
        List.cons_subset, List.nil_subset, and_true, hp₀, hb₀];done)
    | (refine Evolves.foldl _ _ _ (fun u x => ?_) ?_ <;> try dsimp only)
    | (refine Evolves.foldl_fst _ _ _ (fun u x => ?_) ?_ <;> try dsimp only)
    | split)

theorem State.takeFlip_evolves {ps₀ : List Part} {b₀ : State} (s : State) (f : FlipMsg)
    (hp₀ : [.regs, .flip, .tile] ⊆ ps₀) (hb₀ : Evolves ps₀ b₀ s) :
    Evolves ps₀ b₀ (State.takeFlip s f) := by
  simp only [List.cons_subset, List.nil_subset, and_true] at hp₀
  unfold State.takeFlip
  try dsimp only
  repeat' (first
    | focus (simp (maxDischargeDepth := 60) only [↓State.areaFor_evolves, ↓State.openFill_evolves, ↓Evolves.set_flip,
        ↓Evolves.foldl, ↓Evolves.foldl_fst, ↓Evolves.ite, ↓Evolves.ite_fst, ↓Evolves.elim_opt, Evolves.refl, Nat.le_add_right,
        implies_true, List.cons_subset, List.nil_subset, and_true, hp₀, hb₀];done)
    | (refine Evolves.foldl _ _ _ (fun u x => ?_) ?_ <;> try dsimp only)
    | (refine Evolves.foldl_fst _ _ _ (fun u x => ?_) ?_ <;> try dsimp only)
    | split)

theorem State.pruneTables_evolves {ps₀ : List Part} {b₀ : State} (s : State)
    (hp₀ : [.link] ⊆ ps₀) (hb₀ : Evolves ps₀ b₀ s) :
    Evolves ps₀ b₀ (State.pruneTables s) := by
  simp only [List.cons_subset, List.nil_subset, and_true] at hp₀
  unfold State.pruneTables
  try dsimp only
  repeat' (first
    | focus (simp (maxDischargeDepth := 60) only [↓Evolves.set_link, ↓Evolves.foldl, ↓Evolves.foldl_fst, ↓Evolves.ite,
        ↓Evolves.ite_fst, ↓Evolves.elim_opt, Evolves.refl, Nat.le_add_right, implies_true, List.cons_subset, List.nil_subset,
        and_true, hp₀, hb₀];done)
    | (refine Evolves.foldl _ _ _ (fun u x => ?_) ?_ <;> try dsimp only)
    | (refine Evolves.foldl_fst _ _ _ (fun u x => ?_) ?_ <;> try dsimp only)
    | split)

theorem State.noteGen_evolves {ps₀ : List Part} {b₀ : State} (s : State) (gen due : Nat)
    (hp₀ : [.tile] ⊆ ps₀) (hb₀ : Evolves ps₀ b₀ s) :
    Evolves ps₀ b₀ (State.noteGen s gen due) := by
  simp only [List.cons_subset, List.nil_subset, and_true] at hp₀
  unfold State.noteGen
  try dsimp only
  repeat' (first
    | focus (simp (maxDischargeDepth := 60) only [↓Evolves.set_tile, ↓Evolves.foldl, ↓Evolves.foldl_fst, ↓Evolves.ite,
        ↓Evolves.ite_fst, ↓Evolves.elim_opt, Evolves.refl, Nat.le_add_right, implies_true, List.cons_subset, List.nil_subset,
        and_true, hp₀, hb₀];done)
    | (refine Evolves.foldl _ _ _ (fun u x => ?_) ?_ <;> try dsimp only)
    | (refine Evolves.foldl_fst _ _ _ (fun u x => ?_) ?_ <;> try dsimp only)
    | split)

theorem State.takeMapGen_evolves {ps₀ : List Part} {b₀ : State} (s : State) (gen due : Nat)
    (hp₀ : [.link, .tile] ⊆ ps₀) (hb₀ : Evolves ps₀ b₀ s) :
    Evolves ps₀ b₀ (State.takeMapGen s gen due) := by
  simp only [List.cons_subset, List.nil_subset, and_true] at hp₀
  unfold State.takeMapGen
  try dsimp only
  repeat' (first
    | focus (simp (maxDischargeDepth := 60) only [↓State.noteGen_evolves, ↓State.pruneTables_evolves, ↓Evolves.set_link,
        ↓Evolves.foldl, ↓Evolves.foldl_fst, ↓Evolves.ite, ↓Evolves.ite_fst, ↓Evolves.elim_opt, Evolves.refl, Nat.le_add_right,
        implies_true, List.cons_subset, List.nil_subset, and_true, hp₀, hb₀];done)
    | (refine Evolves.foldl _ _ _ (fun u x => ?_) ?_ <;> try dsimp only)
    | (refine Evolves.foldl_fst _ _ _ (fun u x => ?_) ?_ <;> try dsimp only)
    | split)

theorem State.takeTable_evolves {ps₀ : List Part} {b₀ : State} (s : State) (gen total first : Nat) (es : List ModuleEntry)
    (hp₀ : [.link, .tile] ⊆ ps₀) (hb₀ : Evolves ps₀ b₀ s) :
    Evolves ps₀ b₀ (State.takeTable s gen total first es) := by
  simp only [List.cons_subset, List.nil_subset, and_true] at hp₀
  unfold State.takeTable
  try dsimp only
  repeat' (first
    | focus (simp (maxDischargeDepth := 60) only [↓State.noteGen_evolves, ↓State.pruneTables_evolves, ↓Evolves.set_link,
        ↓Evolves.foldl, ↓Evolves.foldl_fst, ↓Evolves.ite, ↓Evolves.ite_fst, ↓Evolves.elim_opt, Evolves.refl, Nat.le_add_right,
        implies_true, List.cons_subset, List.nil_subset, and_true, hp₀, hb₀];done)
    | (refine Evolves.foldl _ _ _ (fun u x => ?_) ?_ <;> try dsimp only)
    | (refine Evolves.foldl_fst _ _ _ (fun u x => ?_) ?_ <;> try dsimp only)
    | split)

theorem State.placeBurst_evolves {ps₀ : List Part} {b₀ : State} (s : State) (a b : Nat) (e : ModuleEntry) (u : Burst)
    (hp₀ : [.tile] ⊆ ps₀) (hb₀ : Evolves ps₀ b₀ s) :
    Evolves ps₀ b₀ (State.placeBurst s a b e u) := by
  simp only [List.cons_subset, List.nil_subset, and_true] at hp₀
  unfold State.placeBurst
  try dsimp only
  repeat' (first
    | focus (simp (maxDischargeDepth := 60) only [↓State.setHalves_evolves, ↓Evolves.foldl, ↓Evolves.foldl_fst, ↓Evolves.ite,
        ↓Evolves.ite_fst, ↓Evolves.elim_opt, Evolves.refl, Nat.le_add_right, implies_true, List.cons_subset, List.nil_subset,
        and_true, hp₀, hb₀];done)
    | (refine Evolves.foldl _ _ _ (fun u x => ?_) ?_ <;> try dsimp only)
    | (refine Evolves.foldl_fst _ _ _ (fun u x => ?_) ?_ <;> try dsimp only)
    | split)

theorem State.takeBurst_evolves {ps₀ : List Part} {b₀ : State} (s : State) (u : Burst)
    (hp₀ : [.regs, .tile] ⊆ ps₀) (hb₀ : Evolves ps₀ b₀ s) :
    Evolves ps₀ b₀ (State.takeBurst s u) := by
  simp only [List.cons_subset, List.nil_subset, and_true] at hp₀
  unfold State.takeBurst
  try dsimp only
  repeat' (first
    | focus (simp (maxDischargeDepth := 60) only [↓State.setArea_evolves, ↓State.placeBurst_evolves, ↓State.bump_evolves,
        ↓Evolves.foldl, ↓Evolves.foldl_fst, ↓Evolves.ite, ↓Evolves.ite_fst, ↓Evolves.elim_opt, Evolves.refl, Nat.le_add_right,
        implies_true, List.cons_subset, List.nil_subset, and_true, hp₀, hb₀];done)
    | (refine Evolves.foldl _ _ _ (fun u x => ?_) ?_ <;> try dsimp only)
    | (refine Evolves.foldl_fst _ _ _ (fun u x => ?_) ?_ <;> try dsimp only)
    | split)

theorem State.relayBurst_evolves {ps₀ : List Part} {b₀ : State} (s : State) (p : Nat) (room : Bool) (u : Burst)
    (hp₀ : [.regs, .sent] ⊆ ps₀) (hb₀ : Evolves ps₀ b₀ s) :
    Evolves ps₀ b₀ (State.relayBurst s p room u) := by
  simp only [List.cons_subset, List.nil_subset, and_true] at hp₀
  unfold State.relayBurst
  try dsimp only
  repeat' (first
    | focus (simp (maxDischargeDepth := 60) only [↓State.send_evolves, ↓State.bump_evolves, ↓State.event_evolves, ↓Evolves.foldl,
        ↓Evolves.foldl_fst, ↓Evolves.ite, ↓Evolves.ite_fst, ↓Evolves.elim_opt, Evolves.refl, Nat.le_add_right, implies_true,
        List.cons_subset, List.nil_subset, and_true, hp₀, hb₀];done)
    | (refine Evolves.foldl _ _ _ (fun u x => ?_) ?_ <;> try dsimp only)
    | (refine Evolves.foldl_fst _ _ _ (fun u x => ?_) ?_ <;> try dsimp only)
    | split)

theorem execBurstUnit_evolves (port : Nat) (room : Bool) (b : Burst) (s : State) :
    ∃ t₁, execBurstUnit port room b s = .next t₁ ∧ Evolves [.regs, .sent, .link, .tile] s t₁ := by
  have hb₀ := Evolves.refl [.regs, .sent, .link, .tile] s
  unfold execBurstUnit
  refine ⟨_, rfl, ?_⟩
  try dsimp only
  repeat' (first
    | focus (simp (maxDischargeDepth := 60) only [↓State.blockSeen_evolves, ↓State.blockError_evolves, ↓State.relayBurst_evolves,
        ↓State.claimDiscard_evolves, ↓State.takeBurst_evolves, ↓Evolves.foldl, ↓Evolves.foldl_fst, ↓Evolves.ite, ↓Evolves.ite_fst,
        ↓Evolves.elim_opt, Evolves.refl, Nat.le_add_right, implies_true, List.cons_subset, List.nil_subset, and_true,
        List.mem_cons, reduceCtorEq, true_or, or_true, false_or, or_false, hb₀];done)
    | (refine Evolves.foldl _ _ _ (fun u x => ?_) ?_ <;> try dsimp only)
    | (refine Evolves.foldl_fst _ _ _ (fun u x => ?_) ?_ <;> try dsimp only)
    | split)

theorem State.acceptFrame_evolves {ps₀ : List Part} {b₀ : State} (s : State) (a : Nat) (x : Area) (f : FillBuf) (e : FrameEnd)
    (hp₀ : [.regs, .sent, .link, .repl, .faults, .nvm, .tile, .red] ⊆ ps₀) (hb₀ : Evolves ps₀ b₀ s) :
    Evolves ps₀ b₀ (State.acceptFrame s a x f e) := by
  simp only [List.cons_subset, List.nil_subset, and_true] at hp₀
  unfold State.acceptFrame
  try dsimp only
  repeat' (first
    | focus (simp (maxDischargeDepth := 60) only [↓State.fault_evolves, ↓State.event_evolves, ↓State.setArea_evolves,
        ↓Evolves.set_tile, ↓Evolves.foldl, ↓Evolves.foldl_fst, ↓Evolves.ite, ↓Evolves.ite_fst, ↓Evolves.elim_opt, Evolves.refl,
        Nat.le_add_right, implies_true, List.cons_subset, List.nil_subset, and_true, hp₀, hb₀];done)
    | (refine Evolves.foldl _ _ _ (fun u x => ?_) ?_ <;> try dsimp only)
    | (refine Evolves.foldl_fst _ _ _ (fun u x => ?_) ?_ <;> try dsimp only)
    | split)

theorem State.dropFill_evolves {ps₀ : List Part} {b₀ : State} (s : State) (a : Nat) (x : Area)
    (hp₀ : [.regs, .tile] ⊆ ps₀) (hb₀ : Evolves ps₀ b₀ s) :
    Evolves ps₀ b₀ (State.dropFill s a x) := by
  simp only [List.cons_subset, List.nil_subset, and_true] at hp₀
  unfold State.dropFill
  try dsimp only
  repeat' (first
    | focus (simp (maxDischargeDepth := 60) only [↓State.frameLost_evolves, ↓State.setArea_evolves, ↓Evolves.foldl,
        ↓Evolves.foldl_fst, ↓Evolves.ite, ↓Evolves.ite_fst, ↓Evolves.elim_opt, Evolves.refl, Nat.le_add_right, implies_true,
        List.cons_subset, List.nil_subset, and_true, hp₀, hb₀];done)
    | (refine Evolves.foldl _ _ _ (fun u x => ?_) ?_ <;> try dsimp only)
    | (refine Evolves.foldl_fst _ _ _ (fun u x => ?_) ?_ <;> try dsimp only)
    | split)

theorem State.takeFrameEnd_evolves {ps₀ : List Part} {b₀ : State} (s : State) (e : FrameEnd)
    (hp₀ : [.regs, .sent, .link, .repl, .faults, .nvm, .tile, .red] ⊆ ps₀) (hb₀ : Evolves ps₀ b₀ s) :
    Evolves ps₀ b₀ (State.takeFrameEnd s e) := by
  simp only [List.cons_subset, List.nil_subset, and_true] at hp₀
  unfold State.takeFrameEnd
  try dsimp only
  repeat' (first
    | focus (simp (maxDischargeDepth := 60) only [↓State.event_evolves, ↓State.dropFill_evolves, ↓State.acceptFrame_evolves,
        ↓Evolves.foldl, ↓Evolves.foldl_fst, ↓Evolves.ite, ↓Evolves.ite_fst, ↓Evolves.elim_opt, Evolves.refl, Nat.le_add_right,
        implies_true, List.cons_subset, List.nil_subset, and_true, hp₀, hb₀];done)
    | (refine Evolves.foldl _ _ _ (fun u x => ?_) ?_ <;> try dsimp only)
    | (refine Evolves.foldl_fst _ _ _ (fun u x => ?_) ?_ <;> try dsimp only)
    | split)

theorem execFrameEnd_evolves (m : MsgHdr) (f : FrameEnd) (s : State) :
    ∃ t₁, execFrameEnd m f s = .next t₁ ∧ Evolves [.regs, .sent, .link, .repl, .faults, .nvm, .tile, .red] s t₁ := by
  have hb₀ := Evolves.refl [.regs, .sent, .link, .repl, .faults, .nvm, .tile, .red] s
  unfold execFrameEnd
  refine ⟨_, rfl, ?_⟩
  try dsimp only
  repeat' (first
    | focus (simp (maxDischargeDepth := 60) only [↓State.receiveOk_evolves, ↓State.takeFrameEnd_evolves, ↓Evolves.foldl,
        ↓Evolves.foldl_fst, ↓Evolves.ite, ↓Evolves.ite_fst, ↓Evolves.elim_opt, Evolves.refl, Nat.le_add_right, implies_true,
        List.cons_subset, List.nil_subset, and_true, List.mem_cons, reduceCtorEq, true_or, or_true, false_or, or_false, hb₀];done)
    | (refine Evolves.foldl _ _ _ (fun u x => ?_) ?_ <;> try dsimp only)
    | (refine Evolves.foldl_fst _ _ _ (fun u x => ?_) ?_ <;> try dsimp only)
    | split)

theorem execModuleTable_evolves (m : MsgHdr) (gen total first : Nat) (entries : List ModuleEntry) (s : State) :
    ∃ t₁, execModuleTable m gen total first entries s = .next t₁ ∧ Evolves [.regs, .sent, .link, .tile] s t₁ := by
  have hb₀ := Evolves.refl [.regs, .sent, .link, .tile] s
  unfold execModuleTable
  refine ⟨_, rfl, ?_⟩
  try dsimp only
  repeat' (first
    | focus (simp (maxDischargeDepth := 60) only [↓State.receive_evolves, ↓State.takeTable_evolves, ↓Evolves.foldl,
        ↓Evolves.foldl_fst, ↓Evolves.ite, ↓Evolves.ite_fst, ↓Evolves.elim_opt, Evolves.refl, Nat.le_add_right, implies_true,
        List.cons_subset, List.nil_subset, and_true, List.mem_cons, reduceCtorEq, true_or, or_true, false_or, or_false, hb₀];done)
    | (refine Evolves.foldl _ _ _ (fun u x => ?_) ?_ <;> try dsimp only)
    | (refine Evolves.foldl_fst _ _ _ (fun u x => ?_) ?_ <;> try dsimp only)
    | split)

theorem execMapGen_evolves (m : MsgHdr) (gen dueFlip : Nat) (s : State) :
    ∃ t₁, execMapGen m gen dueFlip s = .next t₁ ∧ Evolves [.regs, .sent, .link, .tile] s t₁ := by
  have hb₀ := Evolves.refl [.regs, .sent, .link, .tile] s
  unfold execMapGen
  refine ⟨_, rfl, ?_⟩
  try dsimp only
  repeat' (first
    | focus (simp (maxDischargeDepth := 60) only [↓State.receiveOk_evolves, ↓State.takeMapGen_evolves, ↓Evolves.foldl,
        ↓Evolves.foldl_fst, ↓Evolves.ite, ↓Evolves.ite_fst, ↓Evolves.elim_opt, Evolves.refl, Nat.le_add_right, implies_true,
        List.cons_subset, List.nil_subset, and_true, List.mem_cons, reduceCtorEq, true_or, or_true, false_or, or_false, hb₀];done)
    | (refine Evolves.foldl _ _ _ (fun u x => ?_) ?_ <;> try dsimp only)
    | (refine Evolves.foldl_fst _ _ _ (fun u x => ?_) ?_ <;> try dsimp only)
    | split)

theorem State.zoneTemp_evolves {ps₀ : List Part} {b₀ : State} (s : State) (used : List Nat) (z : Nat)
    (hp₀ : [.regs, .tile] ⊆ ps₀) (hb₀ : Evolves ps₀ b₀ s) :
    Evolves ps₀ b₀ (State.zoneTemp s used z) := by
  simp only [List.cons_subset, List.nil_subset, and_true] at hp₀
  unfold State.zoneTemp
  dsimp only
  have hs : ∀ t : State, Evolves ps₀ b₀ t → ∀ x, Evolves ps₀ b₀ { t.event F.TIL_EVT_TEMP_FALLBACK with tile := { t.tile with fallen := x } } :=
    fun t ht x => Evolves.set_tile (s := t.event F.TIL_EVT_TEMP_FALLBACK) t.tile.areas t.tile.bank t.tile.swap t.tile.check t.tile.build t.tile.front t.tile.next t.tile.built t.tile.slewed
      x t.tile.last t.tile.applied t.tile.gens hp₀.2 (State.event_evolves _ _ (by simp [hp₀]) ht)
  repeat' (first | focus (simp (maxDischargeDepth := 60) only [↓hs, ↓State.setFld_evolves, ↓State.setFlag_evolves,
      ↓State.event_evolves, ↓Evolves.set_tile, List.cons_subset, List.nil_subset, and_true, hp₀, hb₀];done) | split)

theorem State.zoneGains_evolves {ps₀ : List Part} {b₀ : State} (s : State) (z : Nat)
    (hp₀ : [.regs] ⊆ ps₀) (hb₀ : Evolves ps₀ b₀ s) :
    Evolves ps₀ b₀ (State.zoneGains s z) := by
  simp only [List.cons_subset, List.nil_subset, and_true] at hp₀
  unfold State.zoneGains
  try dsimp only
  repeat' (first
    | focus (simp (maxDischargeDepth := 60) only [↓State.setFld_evolves, ↓Evolves.foldl, ↓Evolves.foldl_fst, ↓Evolves.ite,
        ↓Evolves.ite_fst, ↓Evolves.elim_opt, Evolves.refl, Nat.le_add_right, implies_true, List.cons_subset, List.nil_subset,
        and_true, hp₀, hb₀];done)
    | (refine Evolves.foldl _ _ _ (fun u x => ?_) ?_ <;> try dsimp only)
    | (refine Evolves.foldl_fst _ _ _ (fun u x => ?_) ?_ <;> try dsimp only)
    | split)

theorem State.buildZones_evolves {ps₀ : List Part} {b₀ : State} (s : State) (t : Option ModuleTable)
    (hp₀ : [.regs, .tile] ⊆ ps₀) (hb₀ : Evolves ps₀ b₀ s) :
    Evolves ps₀ b₀ (State.buildZones s t) := by
  simp only [List.cons_subset, List.nil_subset, and_true] at hp₀
  unfold State.buildZones
  try dsimp only
  repeat' (first
    | focus (simp (maxDischargeDepth := 60) only [↓State.zoneGains_evolves, ↓State.zoneTemp_evolves, ↓Evolves.set_tile,
        ↓Evolves.foldl, ↓Evolves.foldl_fst, ↓Evolves.ite, ↓Evolves.ite_fst, ↓Evolves.elim_opt, Evolves.refl, Nat.le_add_right,
        implies_true, List.cons_subset, List.nil_subset, and_true, hp₀, hb₀];done)
    | (refine Evolves.foldl _ _ _ (fun u x => ?_) ?_ <;> try dsimp only)
    | (refine Evolves.foldl_fst _ _ _ (fun u x => ?_) ?_ <;> try dsimp only)
    | split)

theorem State.liningSwap_evolves {ps₀ : List Part} {b₀ : State} (s : State)
    (hp₀ : [.regs, .tile] ⊆ ps₀) (hb₀ : Evolves ps₀ b₀ s) :
    Evolves ps₀ b₀ (State.liningSwap s) := by
  simp only [List.cons_subset, List.nil_subset, and_true] at hp₀
  unfold State.liningSwap
  try dsimp only
  repeat' (first
    | focus (simp (maxDischargeDepth := 60) only [↓State.setFlag_evolves, ↓State.setFld_evolves, ↓Evolves.set_tile,
        ↓Evolves.foldl, ↓Evolves.foldl_fst, ↓Evolves.ite, ↓Evolves.ite_fst, ↓Evolves.elim_opt, Evolves.refl, Nat.le_add_right,
        implies_true, List.cons_subset, List.nil_subset, and_true, hp₀, hb₀];done)
    | (refine Evolves.foldl _ _ _ (fun u x => ?_) ?_ <;> try dsimp only)
    | (refine Evolves.foldl_fst _ _ _ (fun u x => ?_) ?_ <;> try dsimp only)
    | split)

theorem State.buildStart_evolves {ps₀ : List Part} {b₀ : State} (s : State) (f : FlipMsg)
    (hp₀ : [.regs, .sent, .link, .repl, .faults, .thm, .nvm, .tile, .red] ⊆ ps₀) (hb₀ : Evolves ps₀ b₀ s) :
    Evolves ps₀ b₀ (State.buildStart s f) := by
  simp only [List.cons_subset, List.nil_subset, and_true] at hp₀
  unfold State.buildStart
  try dsimp only
  repeat' (first
    | focus (simp (maxDischargeDepth := 60) only [↓State.supplyTarget_evolves, ↓State.liningSwap_evolves, ↓State.latchDiv_evolves,
        ↓State.setFld_evolves, ↓State.buildZones_evolves, ↓State.bump_evolves, ↓State.event_evolves, ↓State.setFlag_evolves,
        ↓Evolves.set_tile, ↓Evolves.foldl, ↓Evolves.foldl_fst, ↓Evolves.ite, ↓Evolves.ite_fst, ↓Evolves.elim_opt, Evolves.refl,
        Nat.le_add_right, implies_true, List.cons_subset, List.nil_subset, and_true, hp₀, hb₀];done)
    | (refine Evolves.foldl _ _ _ (fun u x => ?_) ?_ <;> try dsimp only)
    | (refine Evolves.foldl_fst _ _ _ (fun u x => ?_) ?_ <;> try dsimp only)
    | split)

theorem State.buildEnds_evolves {ps₀ : List Part} {b₀ : State} (s : State) (b : Build) (greys : List Nat) (took : Nat)
    (hp₀ : [.regs, .tile] ⊆ ps₀) (hb₀ : Evolves ps₀ b₀ s) :
    Evolves ps₀ b₀ (State.buildEnds s b greys took) := by
  simp only [List.cons_subset, List.nil_subset, and_true] at hp₀
  unfold State.buildEnds
  try dsimp only
  repeat' (first
    | focus (simp (maxDischargeDepth := 60) only [↓State.setHalves_evolves, ↓State.setFld_evolves, ↓State.setFlag_evolves,
        ↓Evolves.set_tile, ↓Evolves.foldl, ↓Evolves.foldl_fst, ↓Evolves.ite, ↓Evolves.ite_fst, ↓Evolves.elim_opt, Evolves.refl,
        Nat.le_add_right, implies_true, List.cons_subset, List.nil_subset, and_true, hp₀, hb₀];done)
    | (refine Evolves.foldl _ _ _ (fun u x => ?_) ?_ <;> try dsimp only)
    | (refine Evolves.foldl_fst _ _ _ (fun u x => ?_) ?_ <;> try dsimp only)
    | split)

theorem State.buildStop_evolves {ps₀ : List Part} {b₀ : State} (s : State) (b : Build)
    (hp₀ : [.regs, .sent, .link, .repl, .faults, .nvm, .tile, .red] ⊆ ps₀) (hb₀ : Evolves ps₀ b₀ s) :
    Evolves ps₀ b₀ (State.buildStop s b) := by
  simp only [List.cons_subset, List.nil_subset, and_true] at hp₀
  unfold State.buildStop
  try dsimp only
  repeat' (first
    | focus (simp (maxDischargeDepth := 60) only [↓State.buildEnds_evolves, ↓State.fault_evolves, ↓State.bump_evolves,
        ↓State.event_evolves, ↓Evolves.foldl, ↓Evolves.foldl_fst, ↓Evolves.ite, ↓Evolves.ite_fst, ↓Evolves.elim_opt, Evolves.refl,
        Nat.le_add_right, implies_true, List.cons_subset, List.nil_subset, and_true, hp₀, hb₀];done)
    | (refine Evolves.foldl _ _ _ (fun u x => ?_) ?_ <;> try dsimp only)
    | (refine Evolves.foldl_fst _ _ _ (fun u x => ?_) ?_ <;> try dsimp only)
    | split)

theorem State.lateFrames_evolves {ps₀ : List Part} {b₀ : State} (s : State) (n : Nat)
    (hp₀ : [.regs, .tile] ⊆ ps₀) (hb₀ : Evolves ps₀ b₀ s) :
    Evolves ps₀ b₀ (State.lateFrames s n) := by
  simp only [List.cons_subset, List.nil_subset, and_true] at hp₀
  unfold State.lateFrames
  try dsimp only
  repeat' (first
    | focus (simp (maxDischargeDepth := 60) only [↓State.event_evolves, ↓State.dropFill_evolves, ↓Evolves.foldl,
        ↓Evolves.foldl_fst, ↓Evolves.ite, ↓Evolves.ite_fst, ↓Evolves.elim_opt, Evolves.refl, Nat.le_add_right, implies_true,
        List.cons_subset, List.nil_subset, and_true, hp₀, hb₀];done)
    | (refine Evolves.foldl _ _ _ (fun u x => ?_) ?_ <;> try dsimp only)
    | (refine Evolves.foldl_fst _ _ _ (fun u x => ?_) ?_ <;> try dsimp only)
    | split)

theorem State.tileCuff_evolves {ps₀ : List Part} {b₀ : State} (s : State) (n : Nat)
    (hp₀ : [.regs, .sent, .link, .repl, .faults, .thm, .nvm, .tile, .red] ⊆ ps₀) (hb₀ : Evolves ps₀ b₀ s) :
    Evolves ps₀ b₀ (State.tileCuff s n) := by
  simp only [List.cons_subset, List.nil_subset, and_true] at hp₀
  unfold State.tileCuff
  try dsimp only
  repeat' (first
    | focus (simp (maxDischargeDepth := 60) only [↓State.lateFrames_evolves, ↓State.buildStart_evolves, ↓State.fault_evolves,
        ↓State.bump_evolves, ↓State.event_evolves, ↓Evolves.foldl, ↓Evolves.foldl_fst, ↓Evolves.ite, ↓Evolves.ite_fst,
        ↓Evolves.elim_opt, Evolves.refl, Nat.le_add_right, implies_true, List.cons_subset, List.nil_subset, and_true, hp₀,
        hb₀];done)
    | (refine Evolves.foldl _ _ _ (fun u x => ?_) ?_ <;> try dsimp only)
    | (refine Evolves.foldl_fst _ _ _ (fun u x => ?_) ?_ <;> try dsimp only)
    | split)

theorem State.showFrames_evolves {ps₀ : List Part} {b₀ : State} (s : State) (n : Nat)
    (hp₀ : [.tile] ⊆ ps₀) (hb₀ : Evolves ps₀ b₀ s) :
    Evolves ps₀ b₀ (State.showFrames s n) := by
  simp only [List.cons_subset, List.nil_subset, and_true] at hp₀
  unfold State.showFrames
  try dsimp only
  repeat' (first
    | focus (simp (maxDischargeDepth := 60) only [↓Evolves.set_tile, ↓Evolves.foldl, ↓Evolves.foldl_fst, ↓Evolves.ite,
        ↓Evolves.ite_fst, ↓Evolves.elim_opt, Evolves.refl, Nat.le_add_right, implies_true, List.cons_subset, List.nil_subset,
        and_true, hp₀, hb₀];done)
    | (refine Evolves.foldl _ _ _ (fun u x => ?_) ?_ <;> try dsimp only)
    | (refine Evolves.foldl_fst _ _ _ (fun u x => ?_) ?_ <;> try dsimp only)
    | split)

theorem State.swapGrey_evolves {ps₀ : List Part} {b₀ : State} (s : State) (n : Nat)
    (hp₀ : [.tile] ⊆ ps₀) (hb₀ : Evolves ps₀ b₀ s) :
    Evolves ps₀ b₀ (State.swapGrey s n) := by
  simp only [List.cons_subset, List.nil_subset, and_true] at hp₀
  unfold State.swapGrey
  try dsimp only
  repeat' (first
    | focus (simp (maxDischargeDepth := 60) only [↓Evolves.set_tile, ↓Evolves.foldl, ↓Evolves.foldl_fst, ↓Evolves.ite,
        ↓Evolves.ite_fst, ↓Evolves.elim_opt, Evolves.refl, Nat.le_add_right, implies_true, List.cons_subset, List.nil_subset,
        and_true, hp₀, hb₀];done)
    | (refine Evolves.foldl _ _ _ (fun u x => ?_) ?_ <;> try dsimp only)
    | (refine Evolves.foldl_fst _ _ _ (fun u x => ?_) ?_ <;> try dsimp only)
    | split)

theorem State.geomReset_evolves {ps₀ : List Part} {b₀ : State} (s : State)
    (hp₀ : [.regs, .sent, .link, .tile] ⊆ ps₀) (hb₀ : Evolves ps₀ b₀ s) :
    Evolves ps₀ b₀ (State.geomReset s) := by
  simp only [List.cons_subset, List.nil_subset, and_true] at hp₀
  unfold State.geomReset
  try dsimp only
  repeat' (first
    | focus (simp (maxDischargeDepth := 60) only [↓State.pruneTables_evolves, ↓State.clearStore_evolves, ↓State.event_evolves,
        ↓State.freeAreas_evolves, ↓State.sendTileInfo_evolves, ↓State.setFlag_evolves, ↓Evolves.set_tile, ↓Evolves.foldl,
        ↓Evolves.foldl_fst, ↓Evolves.ite, ↓Evolves.ite_fst, ↓Evolves.elim_opt, Evolves.refl, Nat.le_add_right, implies_true,
        List.cons_subset, List.nil_subset, and_true, hp₀, hb₀];done)
    | (refine Evolves.foldl _ _ _ (fun u x => ?_) ?_ <;> try dsimp only)
    | (refine Evolves.foldl_fst _ _ _ (fun u x => ?_) ?_ <;> try dsimp only)
    | split)

theorem State.publishLining_evolves {ps₀ : List Part} {b₀ : State} (s : State)
    (hp₀ : [.regs, .sent, .link, .repl, .faults, .nvm, .tile, .red] ⊆ ps₀) (hb₀ : Evolves ps₀ b₀ s) :
    Evolves ps₀ b₀ (State.publishLining s).1 := by
  simp only [List.cons_subset, List.nil_subset, and_true] at hp₀
  unfold State.publishLining
  try dsimp only
  repeat' (first
    | focus (simp (maxDischargeDepth := 60) only [↓State.setFlag_evolves, ↓State.fault_evolves, ↓State.event_evolves,
        ↓Evolves.set_tile, ↓Evolves.foldl, ↓Evolves.foldl_fst, ↓Evolves.ite, ↓Evolves.ite_fst, ↓Evolves.elim_opt, Evolves.refl,
        Nat.le_add_right, implies_true, List.cons_subset, List.nil_subset, and_true, hp₀, hb₀];done)
    | (refine Evolves.foldl _ _ _ (fun u x => ?_) ?_ <;> try dsimp only)
    | (refine Evolves.foldl_fst _ _ _ (fun u x => ?_) ?_ <;> try dsimp only)
    | split)

theorem execLiningStageCheckDone_evolves (s : State) :
    ∃ t₁, execLiningStageCheckDone s = .next t₁ ∧ Evolves [.regs, .tile] s t₁ := by
  have hb₀ := Evolves.refl [.regs, .tile] s
  unfold execLiningStageCheckDone
  refine ⟨_, rfl, ?_⟩
  try dsimp only
  repeat' (first
    | focus (simp (maxDischargeDepth := 60) only [↓State.setFlag_evolves, ↓Evolves.set_tile, ↓Evolves.foldl, ↓Evolves.foldl_fst,
        ↓Evolves.ite, ↓Evolves.ite_fst, ↓Evolves.elim_opt, Evolves.refl, Nat.le_add_right, implies_true, List.cons_subset,
        List.nil_subset, and_true, List.mem_cons, reduceCtorEq, true_or, or_true, false_or, or_false, hb₀];done)
    | (refine Evolves.foldl _ _ _ (fun u x => ?_) ?_ <;> try dsimp only)
    | (refine Evolves.foldl_fst _ _ _ (fun u x => ?_) ?_ <;> try dsimp only)
    | split)

theorem execLiningCopyDone_evolves (s : State) :
    ∃ t₁, execLiningCopyDone s = .next t₁ ∧ Evolves [.regs, .tile] s t₁ := by
  refine ⟨_, rfl, ?_⟩
  split
  · refine State.event_evolves _ _ (by simp) (State.setFlag_evolves _ _ _ (by simp) (State.setFlag_evolves _ _ _ (by simp) ?_))
    refine Evolves.change (s := s) (h := Evolves.refl _ s) _ (fun p hn => by cases p <;> first | rfl | simp_all) rfl rfl rfl rfl
      (fun hc => ⟨hc.1, hc.2.1, hc.2.2.1, hc.2.2.2.1, hc.2.2.2.2.1, ?_⟩)
    exact List.foldlRecOn _ _ (motive := fun l => Sparse.wf storeReset l = true)
      (Sparse.wf_eraseRange _ _ _ _ hc.2.2.2.2.2) (fun l hl p _ => Sparse.wf_put _ _ _ _ hl)
  · exact Evolves.refl _ s

theorem execBuildDone_evolves (s : State) :
    ∃ t₁, execBuildDone s = .next t₁ ∧ Evolves [.regs, .cycles, .wall, .tile, .lamp] s t₁ := by
  have hb₀ := Evolves.refl [.regs, .cycles, .wall, .tile, .lamp] s
  unfold execBuildDone
  refine ⟨_, rfl, ?_⟩
  try dsimp only
  repeat' (first
    | focus (simp (maxDischargeDepth := 60) only [↓State.untilCycle_evolves, ↓State.buildEnds_evolves, ↓Evolves.set_lamp,
        ↓Evolves.foldl, ↓Evolves.foldl_fst, ↓Evolves.ite, ↓Evolves.ite_fst, ↓Evolves.elim_opt, Evolves.refl, Nat.le_add_right,
        implies_true, List.cons_subset, List.nil_subset, and_true, List.mem_cons, reduceCtorEq, true_or, or_true, false_or,
        or_false, hb₀];done)
    | (refine Evolves.foldl _ _ _ (fun u x => ?_) ?_ <;> try dsimp only)
    | (refine Evolves.foldl_fst _ _ _ (fun u x => ?_) ?_ <;> try dsimp only)
    | split)

end Sys2Proof.Machine
end

