-- ==== Sys2Proof/Laws/EvolveLampBase.lean ====
section
/-! SUPPORT. What the operations of Machine/LampBase.lean keep (Evolves). -/

set_option linter.unusedSimpArgs false
set_option linter.unreachableTactic false
set_option linter.unusedTactic false
set_option linter.unusedVariables false

namespace Sys2Proof.Machine

theorem State.judgeBank_evolves {ps₀ : List Part} {b₀ : State} (s : State) (b : Nat)
    (hp₀ : [.regs, .sent, .link, .repl, .faults, .nvm, .red] ⊆ ps₀) (hb₀ : Evolves ps₀ b₀ s) :
    Evolves ps₀ b₀ (State.judgeBank s b) := by
  simp only [List.cons_subset, List.nil_subset, and_true] at hp₀
  unfold State.judgeBank
  try dsimp only
  repeat' (first
    | focus (simp (maxDischargeDepth := 60) only [↓State.setFlag_evolves, ↓State.fault_evolves, ↓State.event_evolves,
        ↓Evolves.foldl, ↓Evolves.foldl_fst, ↓Evolves.ite, ↓Evolves.ite_fst, ↓Evolves.elim_opt, Evolves.refl, Nat.le_add_right,
        implies_true, List.cons_subset, List.nil_subset, and_true, hp₀, hb₀];done)
    | (refine Evolves.foldl _ _ _ (fun u x => ?_) ?_ <;> try dsimp only)
    | (refine Evolves.foldl_fst _ _ _ (fun u x => ?_) ?_ <;> try dsimp only)
    | split)

theorem execBankSupplyChange_evolves (bank sensed : Nat) (s : State) :
    ∃ t₁, execBankSupplyChange bank sensed s = .next t₁ ∧ Evolves [.regs, .sent, .link, .repl, .faults, .nvm, .red] s t₁ := by
  have hb₀ := Evolves.refl [.regs, .sent, .link, .repl, .faults, .nvm, .red] s
  unfold execBankSupplyChange
  refine ⟨_, rfl, ?_⟩
  try dsimp only
  repeat' (first
    | focus (simp (maxDischargeDepth := 60) only [↓State.judgeBank_evolves, ↓State.setFld_evolves, ↓Evolves.foldl,
        ↓Evolves.foldl_fst, ↓Evolves.ite, ↓Evolves.ite_fst, ↓Evolves.elim_opt, Evolves.refl, Nat.le_add_right, implies_true,
        List.cons_subset, List.nil_subset, and_true, List.mem_cons, reduceCtorEq, true_or, or_true, false_or, or_false, hb₀];done)
    | (refine Evolves.foldl _ _ _ (fun u x => ?_) ?_ <;> try dsimp only)
    | (refine Evolves.foldl_fst _ _ _ (fun u x => ?_) ?_ <;> try dsimp only)
    | split)

theorem State.setCtxRun_evolves {ps₀ : List Part} {b₀ : State} (s : State) (r : CtxRun)
    (hp₀ : [.lamp] ⊆ ps₀) (hb₀ : Evolves ps₀ b₀ s) :
    Evolves ps₀ b₀ (State.setCtxRun s r) := by
  simp only [List.cons_subset, List.nil_subset, and_true] at hp₀
  unfold State.setCtxRun
  try dsimp only
  repeat' (first
    | focus (simp (maxDischargeDepth := 60) only [↓Evolves.set_lamp, ↓Evolves.foldl, ↓Evolves.foldl_fst, ↓Evolves.ite,
        ↓Evolves.ite_fst, ↓Evolves.elim_opt, Evolves.refl, Nat.le_add_right, implies_true, List.cons_subset, List.nil_subset,
        and_true, hp₀, hb₀];done)
    | (refine Evolves.foldl _ _ _ (fun u x => ?_) ?_ <;> try dsimp only)
    | (refine Evolves.foldl_fst _ _ _ (fun u x => ?_) ?_ <;> try dsimp only)
    | split)

theorem State.coverWords_evolves {ps₀ : List Part} {b₀ : State} (s : State) (x : Nat) (ws : List Nat)
    (hp₀ : [.lamp] ⊆ ps₀) (hb₀ : Evolves ps₀ b₀ s) :
    Evolves ps₀ b₀ (State.coverWords s x ws) := by
  simp only [List.cons_subset, List.nil_subset, and_true] at hp₀
  unfold State.coverWords
  try dsimp only
  repeat' (first
    | focus (simp (maxDischargeDepth := 60) only [↓State.setCtxRun_evolves, ↓Evolves.foldl, ↓Evolves.foldl_fst, ↓Evolves.ite,
        ↓Evolves.ite_fst, ↓Evolves.elim_opt, Evolves.refl, Nat.le_add_right, implies_true, List.cons_subset, List.nil_subset,
        and_true, hp₀, hb₀];done)
    | (refine Evolves.foldl _ _ _ (fun u x => ?_) ?_ <;> try dsimp only)
    | (refine Evolves.foldl_fst _ _ _ (fun u x => ?_) ?_ <;> try dsimp only)
    | split)

theorem State.sendHk_evolves {ps₀ : List Part} {b₀ : State} (s : State) (line : Nat) (w : Word)
    (hp₀ : [.lamp] ⊆ ps₀) (hb₀ : Evolves ps₀ b₀ s) :
    Evolves ps₀ b₀ (State.sendHk s line w) := by
  simp only [List.cons_subset, List.nil_subset, and_true] at hp₀
  unfold State.sendHk
  try dsimp only
  repeat' (first
    | focus (simp (maxDischargeDepth := 60) only [↓State.setCtxRun_evolves, ↓State.coverWords_evolves, ↓Evolves.foldl,
        ↓Evolves.foldl_fst, ↓Evolves.ite, ↓Evolves.ite_fst, ↓Evolves.elim_opt, Evolves.refl, Nat.le_add_right, implies_true,
        List.cons_subset, List.nil_subset, and_true, hp₀, hb₀];done)
    | (refine Evolves.foldl _ _ _ (fun u x => ?_) ?_ <;> try dsimp only)
    | (refine Evolves.foldl_fst _ _ _ (fun u x => ?_) ?_ <;> try dsimp only)
    | split)

theorem State.queueCfg_evolves {ps₀ : List Part} {b₀ : State} (s : State) (line : Nat) (ws : List Word)
    (hp₀ : [.lamp] ⊆ ps₀) (hb₀ : Evolves ps₀ b₀ s) :
    Evolves ps₀ b₀ (State.queueCfg s line ws) := by
  simp only [List.cons_subset, List.nil_subset, and_true] at hp₀
  unfold State.queueCfg
  try dsimp only
  repeat' (first
    | focus (simp (maxDischargeDepth := 60) only [↓Evolves.set_lamp, ↓Evolves.foldl, ↓Evolves.foldl_fst, ↓Evolves.ite,
        ↓Evolves.ite_fst, ↓Evolves.elim_opt, Evolves.refl, Nat.le_add_right, implies_true, List.cons_subset, List.nil_subset,
        and_true, hp₀, hb₀];done)
    | (refine Evolves.foldl _ _ _ (fun u x => ?_) ?_ <;> try dsimp only)
    | (refine Evolves.foldl_fst _ _ _ (fun u x => ?_) ?_ <;> try dsimp only)
    | split)

theorem State.configure_evolves {ps₀ : List Part} {b₀ : State} (s : State) (x : Nat)
    (hp₀ : [.regs, .lamp] ⊆ ps₀) (hb₀ : Evolves ps₀ b₀ s) :
    Evolves ps₀ b₀ (State.configure s x) := by
  simp only [List.cons_subset, List.nil_subset, and_true] at hp₀
  unfold State.configure
  try dsimp only
  repeat' (first
    | focus (simp (maxDischargeDepth := 60) only [↓State.setFlag_evolves, ↓State.queueCfg_evolves, ↓Evolves.foldl,
        ↓Evolves.foldl_fst, ↓Evolves.ite, ↓Evolves.ite_fst, ↓Evolves.elim_opt, Evolves.refl, Nat.le_add_right, implies_true,
        List.cons_subset, List.nil_subset, and_true, hp₀, hb₀];done)
    | (refine Evolves.foldl _ _ _ (fun u x => ?_) ?_ <;> try dsimp only)
    | (refine Evolves.foldl_fst _ _ _ (fun u x => ?_) ?_ <;> try dsimp only)
    | split)

theorem State.initCtx_evolves {ps₀ : List Part} {b₀ : State} (s : State) (x : Nat)
    (hp₀ : [.regs, .lamp] ⊆ ps₀) (hb₀ : Evolves ps₀ b₀ s) :
    Evolves ps₀ b₀ (State.initCtx s x) := by
  simp only [List.cons_subset, List.nil_subset, and_true] at hp₀
  unfold State.initCtx
  try dsimp only
  repeat' (first
    | focus (simp (maxDischargeDepth := 60) only [↓State.setFlag_evolves, ↓State.configure_evolves, ↓State.queueCfg_evolves,
        ↓Evolves.foldl, ↓Evolves.foldl_fst, ↓Evolves.ite, ↓Evolves.ite_fst, ↓Evolves.elim_opt, Evolves.refl, Nat.le_add_right,
        implies_true, List.cons_subset, List.nil_subset, and_true, hp₀, hb₀];done)
    | (refine Evolves.foldl _ _ _ (fun u x => ?_) ?_ <;> try dsimp only)
    | (refine Evolves.foldl_fst _ _ _ (fun u x => ?_) ?_ <;> try dsimp only)
    | split)

theorem State.initPort_evolves {ps₀ : List Part} {b₀ : State} (s : State) (p : Nat)
    (hp₀ : [.regs, .lamp] ⊆ ps₀) (hb₀ : Evolves ps₀ b₀ s) :
    Evolves ps₀ b₀ (State.initPort s p) := by
  simp only [List.cons_subset, List.nil_subset, and_true] at hp₀
  unfold State.initPort
  try dsimp only
  repeat' (first
    | focus (simp (maxDischargeDepth := 60) only [↓State.queueCfg_evolves, ↓State.setFlag_evolves, ↓State.configure_evolves,
        ↓Evolves.foldl, ↓Evolves.foldl_fst, ↓Evolves.ite, ↓Evolves.ite_fst, ↓Evolves.elim_opt, Evolves.refl, Nat.le_add_right,
        implies_true, List.cons_subset, List.nil_subset, and_true, hp₀, hb₀];done)
    | (refine Evolves.foldl _ _ _ (fun u x => ?_) ?_ <;> try dsimp only)
    | (refine Evolves.foldl_fst _ _ _ (fun u x => ?_) ?_ <;> try dsimp only)
    | split)

theorem State.initBus_evolves {ps₀ : List Part} {b₀ : State} (s : State)
    (hp₀ : [.regs, .lamp] ⊆ ps₀) (hb₀ : Evolves ps₀ b₀ s) :
    Evolves ps₀ b₀ (State.initBus s) := by
  simp only [List.cons_subset, List.nil_subset, and_true] at hp₀
  unfold State.initBus
  try dsimp only
  repeat' (first
    | focus (simp (maxDischargeDepth := 60) only [↓State.initPort_evolves, ↓Evolves.foldl, ↓Evolves.foldl_fst, ↓Evolves.ite,
        ↓Evolves.ite_fst, ↓Evolves.elim_opt, Evolves.refl, Nat.le_add_right, implies_true, List.cons_subset, List.nil_subset,
        and_true, hp₀, hb₀];done)
    | (refine Evolves.foldl _ _ _ (fun u x => ?_) ?_ <;> try dsimp only)
    | (refine Evolves.foldl_fst _ _ _ (fun u x => ?_) ?_ <;> try dsimp only)
    | split)

theorem State.configLatch_evolves {ps₀ : List Part} {b₀ : State} (s : State) (p : Nat)
    (hp₀ : [.regs, .lamp] ⊆ ps₀) (hb₀ : Evolves ps₀ b₀ s) :
    Evolves ps₀ b₀ (State.configLatch s p) := by
  simp only [List.cons_subset, List.nil_subset, and_true] at hp₀
  unfold State.configLatch
  try dsimp only
  repeat' (first
    | focus (simp (maxDischargeDepth := 60) only [↓State.setFlag_evolves, ↓Evolves.set_lamp, ↓Evolves.foldl, ↓Evolves.foldl_fst,
        ↓Evolves.ite, ↓Evolves.ite_fst, ↓Evolves.elim_opt, Evolves.refl, Nat.le_add_right, implies_true, List.cons_subset,
        List.nil_subset, and_true, hp₀, hb₀];done)
    | (refine Evolves.foldl _ _ _ (fun u x => ?_) ?_ <;> try dsimp only)
    | (refine Evolves.foldl_fst _ _ _ (fun u x => ?_) ?_ <;> try dsimp only)
    | split)

theorem State.hatbandLatch_evolves {ps₀ : List Part} {b₀ : State} (s : State) (mask : Nat)
    (hp₀ : [.regs, .lamp] ⊆ ps₀) (hb₀ : Evolves ps₀ b₀ s) :
    Evolves ps₀ b₀ (State.hatbandLatch s mask) := by
  simp only [List.cons_subset, List.nil_subset, and_true] at hp₀
  unfold State.hatbandLatch
  try dsimp only
  repeat' (first
    | focus (simp (maxDischargeDepth := 60) only [↓State.configLatch_evolves, ↓Evolves.set_lamp, ↓Evolves.foldl,
        ↓Evolves.foldl_fst, ↓Evolves.ite, ↓Evolves.ite_fst, ↓Evolves.elim_opt, Evolves.refl, Nat.le_add_right, implies_true,
        List.cons_subset, List.nil_subset, and_true, hp₀, hb₀];done)
    | (refine Evolves.foldl _ _ _ (fun u x => ?_) ?_ <;> try dsimp only)
    | (refine Evolves.foldl_fst _ _ _ (fun u x => ?_) ?_ <;> try dsimp only)
    | split)

theorem State.reactLamp_evolves {ps₀ : List Part} {b₀ : State} (before s : State)
    (hp₀ : [.regs, .sent, .link, .repl, .faults, .nvm, .lamp, .red] ⊆ ps₀) (hb₀ : Evolves ps₀ b₀ s) :
    Evolves ps₀ b₀ (State.reactLamp before s) := by
  simp only [List.cons_subset, List.nil_subset, and_true] at hp₀
  unfold State.reactLamp
  try dsimp only
  repeat' (first
    | focus (simp (maxDischargeDepth := 60) only [↓State.judgeBank_evolves, ↓State.initPort_evolves, ↓State.configure_evolves,
        ↓State.initCtx_evolves, ↓Evolves.foldl, ↓Evolves.foldl_fst, ↓Evolves.ite, ↓Evolves.ite_fst, ↓Evolves.elim_opt,
        Evolves.refl, Nat.le_add_right, implies_true, List.cons_subset, List.nil_subset, and_true, hp₀, hb₀];done)
    | (refine Evolves.foldl _ _ _ (fun u x => ?_) ?_ <;> try dsimp only)
    | (refine Evolves.foldl_fst _ _ _ (fun u x => ?_) ?_ <;> try dsimp only)
    | split)

end Sys2Proof.Machine
end

