-- ==== Sys2Proof/Laws/EvolveDiag.lean ====
section
/-! SUPPORT. What the operations of Machine/Diag.lean keep (Evolves). -/

set_option linter.unusedSimpArgs false
set_option linter.unreachableTactic false
set_option linter.unusedTactic false
set_option linter.unusedVariables false

namespace Sys2Proof.Machine

theorem State.clearLampCounts_evolves {ps₀ : List Part} {b₀ : State} (s : State) (l : Nat)
    (hp₀ : [.diag] ⊆ ps₀) (hb₀ : Evolves ps₀ b₀ s) :
    Evolves ps₀ b₀ (State.clearLampCounts s l) := by
  simp only [List.cons_subset, List.nil_subset, and_true] at hp₀
  unfold State.clearLampCounts
  try dsimp only
  repeat' (first
    | focus (simp (maxDischargeDepth := 60) only [↓Evolves.set_diag, ↓Evolves.foldl, ↓Evolves.foldl_fst, ↓Evolves.ite,
        ↓Evolves.ite_fst, ↓Evolves.elim_opt, Evolves.refl, Nat.le_add_right, implies_true, List.cons_subset, List.nil_subset,
        and_true, hp₀, hb₀];done)
    | (refine Evolves.foldl _ _ _ (fun u x => ?_) ?_ <;> try dsimp only)
    | (refine Evolves.foldl_fst _ _ _ (fun u x => ?_) ?_ <;> try dsimp only)
    | split)

theorem State.setLampState_evolves {ps₀ : List Part} {b₀ : State} (s : State) (l st : Nat)
    (hp₀ : [.regs, .tile, .diag] ⊆ ps₀) (hb₀ : Evolves ps₀ b₀ s) :
    Evolves ps₀ b₀ (State.setLampState s l st) := by
  simp only [List.cons_subset, List.nil_subset, and_true] at hp₀
  unfold State.setLampState
  try dsimp only
  repeat' (first
    | focus (simp (maxDischargeDepth := 60) only [↓State.clearLampCounts_evolves, ↓State.setHalf_evolves, ↓State.setFld_evolves,
        ↓Evolves.foldl, ↓Evolves.foldl_fst, ↓Evolves.ite, ↓Evolves.ite_fst, ↓Evolves.elim_opt, Evolves.refl, Nat.le_add_right,
        implies_true, List.cons_subset, List.nil_subset, and_true, hp₀, hb₀];done)
    | (refine Evolves.foldl _ _ _ (fun u x => ?_) ?_ <;> try dsimp only)
    | (refine Evolves.foldl_fst _ _ _ (fun u x => ?_) ?_ <;> try dsimp only)
    | split)

theorem State.hostLamp_evolves {ps₀ : List Part} {b₀ : State} (s : State) (l v : Nat)
    (hp₀ : [.regs, .tile, .diag] ⊆ ps₀) (hb₀ : Evolves ps₀ b₀ s) :
    Evolves ps₀ b₀ (State.hostLamp s l v) := by
  simp only [List.cons_subset, List.nil_subset, and_true] at hp₀
  unfold State.hostLamp
  try dsimp only
  repeat' (first
    | focus (simp (maxDischargeDepth := 60) only [↓State.setLampState_evolves, ↓State.clearLampCounts_evolves, ↓Evolves.foldl,
        ↓Evolves.foldl_fst, ↓Evolves.ite, ↓Evolves.ite_fst, ↓Evolves.elim_opt, Evolves.refl, Nat.le_add_right, implies_true,
        List.cons_subset, List.nil_subset, and_true, hp₀, hb₀];done)
    | (refine Evolves.foldl _ _ _ (fun u x => ?_) ?_ <;> try dsimp only)
    | (refine Evolves.foldl_fst _ _ _ (fun u x => ?_) ?_ <;> try dsimp only)
    | split)

theorem State.hostFaultMap_evolves {ps₀ : List Part} {b₀ : State} (s : State) (off : Nat) (bs : List Byte)
    (hp₀ : [.regs, .tile, .diag] ⊆ ps₀) (hb₀ : Evolves ps₀ b₀ s) :
    Evolves ps₀ b₀ (State.hostFaultMap s off bs) := by
  simp only [List.cons_subset, List.nil_subset, and_true] at hp₀
  unfold State.hostFaultMap
  try dsimp only
  repeat' (first
    | focus (simp (maxDischargeDepth := 60) only [↓State.hostLamp_evolves, ↓Evolves.foldl, ↓Evolves.foldl_fst, ↓Evolves.ite,
        ↓Evolves.ite_fst, ↓Evolves.elim_opt, Evolves.refl, Nat.le_add_right, implies_true, List.cons_subset, List.nil_subset,
        and_true, hp₀, hb₀];done)
    | (refine Evolves.foldl _ _ _ (fun u x => ?_) ?_ <;> try dsimp only)
    | (refine Evolves.foldl_fst _ _ _ (fun u x => ?_) ?_ <;> try dsimp only)
    | split)

theorem State.setLampCounts_evolves {ps₀ : List Part} {b₀ : State} (s : State) (l : Nat) (c : Nat × Nat × Nat)
    (hp₀ : [.diag] ⊆ ps₀) (hb₀ : Evolves ps₀ b₀ s) :
    Evolves ps₀ b₀ (State.setLampCounts s l c) := by
  simp only [List.cons_subset, List.nil_subset, and_true] at hp₀
  unfold State.setLampCounts
  try dsimp only
  repeat' (first
    | focus (simp (maxDischargeDepth := 60) only [↓Evolves.set_diag, ↓Evolves.foldl, ↓Evolves.foldl_fst, ↓Evolves.ite,
        ↓Evolves.ite_fst, ↓Evolves.elim_opt, Evolves.refl, Nat.le_add_right, implies_true, List.cons_subset, List.nil_subset,
        and_true, hp₀, hb₀];done)
    | (refine Evolves.foldl _ _ _ (fun u x => ?_) ?_ <;> try dsimp only)
    | (refine Evolves.foldl_fst _ _ _ (fun u x => ?_) ?_ <;> try dsimp only)
    | split)

theorem State.lampFails_evolves {ps₀ : List Part} {b₀ : State} (s : State) (st l x line c : Nat)
    (hp₀ : [.regs, .sent, .link, .repl, .faults, .nvm, .tile, .diag, .red] ⊆ ps₀) (hb₀ : Evolves ps₀ b₀ s) :
    Evolves ps₀ b₀ (State.lampFails s st l x line c) := by
  simp only [List.cons_subset, List.nil_subset, and_true] at hp₀
  unfold State.lampFails
  try dsimp only
  repeat' (first
    | focus (simp (maxDischargeDepth := 60) only [↓State.event_evolves, ↓State.setLampState_evolves, ↓State.fault_evolves,
        ↓Evolves.foldl, ↓Evolves.foldl_fst, ↓Evolves.ite, ↓Evolves.ite_fst, ↓Evolves.elim_opt, Evolves.refl, Nat.le_add_right,
        implies_true, List.cons_subset, List.nil_subset, and_true, hp₀, hb₀];done)
    | (refine Evolves.foldl _ _ _ (fun u x => ?_) ?_ <;> try dsimp only)
    | (refine Evolves.foldl_fst _ _ _ (fun u x => ?_) ?_ <;> try dsimp only)
    | split)

theorem State.lampRecovers_evolves {ps₀ : List Part} {b₀ : State} (s : State) (l x line c : Nat)
    (hp₀ : [.regs, .sent, .link, .repl, .faults, .nvm, .tile, .diag, .red] ⊆ ps₀) (hb₀ : Evolves ps₀ b₀ s) :
    Evolves ps₀ b₀ (State.lampRecovers s l x line c) := by
  simp only [List.cons_subset, List.nil_subset, and_true] at hp₀
  unfold State.lampRecovers
  try dsimp only
  repeat' (first
    | focus (simp (maxDischargeDepth := 60) only [↓State.fault_evolves, ↓State.event_evolves, ↓State.setLampState_evolves,
        ↓Evolves.foldl, ↓Evolves.foldl_fst, ↓Evolves.ite, ↓Evolves.ite_fst, ↓Evolves.elim_opt, Evolves.refl, Nat.le_add_right,
        implies_true, List.cons_subset, List.nil_subset, and_true, hp₀, hb₀];done)
    | (refine Evolves.foldl _ _ _ (fun u x => ?_) ?_ <;> try dsimp only)
    | (refine Evolves.foldl_fst _ _ _ (fun u x => ?_) ?_ <;> try dsimp only)
    | split)

theorem State.shortSample_evolves {ps₀ : List Part} {b₀ : State} (s : State) (l x line c : Nat) (fails : Bool)
    (hp₀ : [.regs, .sent, .link, .repl, .faults, .nvm, .tile, .diag, .red] ⊆ ps₀) (hb₀ : Evolves ps₀ b₀ s) :
    Evolves ps₀ b₀ (State.shortSample s l x line c fails) := by
  simp only [List.cons_subset, List.nil_subset, and_true] at hp₀
  unfold State.shortSample
  try dsimp only
  repeat' (first
    | focus (simp (maxDischargeDepth := 60) only [↓State.setLampCounts_evolves, ↓State.lampRecovers_evolves,
        ↓State.lampFails_evolves, ↓Evolves.foldl, ↓Evolves.foldl_fst, ↓Evolves.ite, ↓Evolves.ite_fst, ↓Evolves.elim_opt,
        Evolves.refl, Nat.le_add_right, implies_true, List.cons_subset, List.nil_subset, and_true, hp₀, hb₀];done)
    | (refine Evolves.foldl _ _ _ (fun u x => ?_) ?_ <;> try dsimp only)
    | (refine Evolves.foldl_fst _ _ _ (fun u x => ?_) ?_ <;> try dsimp only)
    | split)

theorem State.openSample_evolves {ps₀ : List Part} {b₀ : State} (s : State) (l x line c : Nat) (fails : Bool)
    (hp₀ : [.regs, .sent, .link, .repl, .faults, .nvm, .tile, .diag, .red] ⊆ ps₀) (hb₀ : Evolves ps₀ b₀ s) :
    Evolves ps₀ b₀ (State.openSample s l x line c fails) := by
  simp only [List.cons_subset, List.nil_subset, and_true] at hp₀
  unfold State.openSample
  try dsimp only
  repeat' (first
    | focus (simp (maxDischargeDepth := 60) only [↓State.lampFails_evolves, ↓State.setLampCounts_evolves,
        ↓State.lampRecovers_evolves, ↓Evolves.foldl, ↓Evolves.foldl_fst, ↓Evolves.ite, ↓Evolves.ite_fst, ↓Evolves.elim_opt,
        Evolves.refl, Nat.le_add_right, implies_true, List.cons_subset, List.nil_subset, and_true, hp₀, hb₀];done)
    | (refine Evolves.foldl _ _ _ (fun u x => ?_) ?_ <;> try dsimp only)
    | (refine Evolves.foldl_fst _ _ _ (fun u x => ?_) ?_ <;> try dsimp only)
    | split)

theorem State.noteSampled_evolves {ps₀ : List Part} {b₀ : State} (s : State) (l : Nat)
    (hp₀ : [.diag] ⊆ ps₀) (hb₀ : Evolves ps₀ b₀ s) :
    Evolves ps₀ b₀ (State.noteSampled s l) := by
  simp only [List.cons_subset, List.nil_subset, and_true] at hp₀
  unfold State.noteSampled
  try dsimp only
  repeat' (first
    | focus (simp (maxDischargeDepth := 60) only [↓Evolves.set_diag, ↓Evolves.foldl, ↓Evolves.foldl_fst, ↓Evolves.ite,
        ↓Evolves.ite_fst, ↓Evolves.elim_opt, Evolves.refl, Nat.le_add_right, implies_true, List.cons_subset, List.nil_subset,
        and_true, hp₀, hb₀];done)
    | (refine Evolves.foldl _ _ _ (fun u x => ?_) ?_ <;> try dsimp only)
    | (refine Evolves.foldl_fst _ _ _ (fun u x => ?_) ?_ <;> try dsimp only)
    | split)

theorem State.chanResult_evolves {ps₀ : List Part} {b₀ : State} (s : State) (d : DiagPair) (opens shorts c : Nat)
    (hp₀ : [.regs, .sent, .link, .repl, .faults, .nvm, .tile, .diag, .red] ⊆ ps₀) (hb₀ : Evolves ps₀ b₀ s) :
    Evolves ps₀ b₀ (State.chanResult s d opens shorts c) := by
  simp only [List.cons_subset, List.nil_subset, and_true] at hp₀
  unfold State.chanResult
  try dsimp only
  repeat' (first
    | focus (simp (maxDischargeDepth := 60) only [↓State.shortSample_evolves, ↓State.openSample_evolves,
        ↓State.noteSampled_evolves, ↓Evolves.foldl, ↓Evolves.foldl_fst, ↓Evolves.ite, ↓Evolves.ite_fst, ↓Evolves.elim_opt,
        Evolves.refl, Nat.le_add_right, implies_true, List.cons_subset, List.nil_subset, and_true, hp₀, hb₀];done)
    | (refine Evolves.foldl _ _ _ (fun u x => ?_) ?_ <;> try dsimp only)
    | (refine Evolves.foldl_fst _ _ _ (fun u x => ?_) ?_ <;> try dsimp only)
    | split)

theorem State.mapProbe_evolves {ps₀ : List Part} {b₀ : State} (s : State) (id x line opens shorts : Nat)
    (hp₀ : [.snaps] ⊆ ps₀) (hb₀ : Evolves ps₀ b₀ s) :
    Evolves ps₀ b₀ (State.mapProbe s id x line opens shorts) := by
  simp only [List.cons_subset, List.nil_subset, and_true] at hp₀
  unfold State.mapProbe
  try dsimp only
  repeat' (first
    | focus (simp (maxDischargeDepth := 60) only [↓Evolves.set_snaps, ↓Evolves.foldl, ↓Evolves.foldl_fst, ↓Evolves.ite,
        ↓Evolves.ite_fst, ↓Evolves.elim_opt, Evolves.refl, Nat.le_add_right, implies_true, List.cons_subset, List.nil_subset,
        and_true, hp₀, hb₀];done)
    | (refine Evolves.foldl _ _ _ (fun u x => ?_) ?_ <;> try dsimp only)
    | (refine Evolves.foldl_fst _ _ _ (fun u x => ?_) ?_ <;> try dsimp only)
    | split)

theorem State.snapPassEnds_evolves {ps₀ : List Part} {b₀ : State} (s : State)
    (hp₀ : [.regs, .diag] ⊆ ps₀) (hb₀ : Evolves ps₀ b₀ s) :
    Evolves ps₀ b₀ (State.snapPassEnds s) := by
  simp only [List.cons_subset, List.nil_subset, and_true] at hp₀
  unfold State.snapPassEnds
  try dsimp only
  repeat' (first
    | focus (simp (maxDischargeDepth := 60) only [↓State.event_evolves, ↓State.setFlag_evolves, ↓Evolves.set_diag, ↓Evolves.foldl,
        ↓Evolves.foldl_fst, ↓Evolves.ite, ↓Evolves.ite_fst, ↓Evolves.elim_opt, Evolves.refl, Nat.le_add_right, implies_true,
        List.cons_subset, List.nil_subset, and_true, hp₀, hb₀];done)
    | (refine Evolves.foldl _ _ _ (fun u x => ?_) ?_ <;> try dsimp only)
    | (refine Evolves.foldl_fst _ _ _ (fun u x => ?_) ?_ <;> try dsimp only)
    | split)

theorem State.startPairs_evolves {ps₀ : List Part} {b₀ : State} (s : State)
    (hp₀ : [.diag] ⊆ ps₀) (hb₀ : Evolves ps₀ b₀ s) :
    Evolves ps₀ b₀ (State.startPairs s) := by
  simp only [List.cons_subset, List.nil_subset, and_true] at hp₀
  unfold State.startPairs
  try dsimp only
  repeat' (first
    | focus (simp (maxDischargeDepth := 60) only [↓Evolves.set_diag, ↓Evolves.foldl, ↓Evolves.foldl_fst, ↓Evolves.ite,
        ↓Evolves.ite_fst, ↓Evolves.elim_opt, Evolves.refl, Nat.le_add_right, implies_true, List.cons_subset, List.nil_subset,
        and_true, hp₀, hb₀];done)
    | (refine Evolves.foldl _ _ _ (fun u x => ?_) ?_ <;> try dsimp only)
    | (refine Evolves.foldl_fst _ _ _ (fun u x => ?_) ?_ <;> try dsimp only)
    | split)

theorem State.setPair_evolves {ps₀ : List Part} {b₀ : State} (s : State) (d : DiagPair)
    (hp₀ : [.diag] ⊆ ps₀) (hb₀ : Evolves ps₀ b₀ s) :
    Evolves ps₀ b₀ (State.setPair s d) := by
  simp only [List.cons_subset, List.nil_subset, and_true] at hp₀
  unfold State.setPair
  try dsimp only
  repeat' (first
    | focus (simp (maxDischargeDepth := 60) only [↓Evolves.set_diag, ↓Evolves.foldl, ↓Evolves.foldl_fst, ↓Evolves.ite,
        ↓Evolves.ite_fst, ↓Evolves.elim_opt, Evolves.refl, Nat.le_add_right, implies_true, List.cons_subset, List.nil_subset,
        and_true, hp₀, hb₀];done)
    | (refine Evolves.foldl _ _ _ (fun u x => ?_) ?_ <;> try dsimp only)
    | (refine Evolves.foldl_fst _ _ _ (fun u x => ?_) ?_ <;> try dsimp only)
    | split)

theorem State.dropPair_evolves {ps₀ : List Part} {b₀ : State} (s : State) (x : Nat)
    (hp₀ : [.diag] ⊆ ps₀) (hb₀ : Evolves ps₀ b₀ s) :
    Evolves ps₀ b₀ (State.dropPair s x) := by
  simp only [List.cons_subset, List.nil_subset, and_true] at hp₀
  unfold State.dropPair
  try dsimp only
  repeat' (first
    | focus (simp (maxDischargeDepth := 60) only [↓Evolves.set_diag, ↓Evolves.foldl, ↓Evolves.foldl_fst, ↓Evolves.ite,
        ↓Evolves.ite_fst, ↓Evolves.elim_opt, Evolves.refl, Nat.le_add_right, implies_true, List.cons_subset, List.nil_subset,
        and_true, hp₀, hb₀];done)
    | (refine Evolves.foldl _ _ _ (fun u x => ?_) ?_ <;> try dsimp only)
    | (refine Evolves.foldl_fst _ _ _ (fun u x => ?_) ?_ <;> try dsimp only)
    | split)

theorem State.roundEnds_evolves {ps₀ : List Part} {b₀ : State} (s : State)
    (hp₀ : [.regs, .diag] ⊆ ps₀) (hb₀ : Evolves ps₀ b₀ s) :
    Evolves ps₀ b₀ (State.roundEnds s) := by
  simp only [List.cons_subset, List.nil_subset, and_true] at hp₀
  unfold State.roundEnds
  try dsimp only
  repeat' (first
    | focus (simp (maxDischargeDepth := 60) only [↓State.setFlag_evolves, ↓Evolves.set_diag, ↓Evolves.foldl, ↓Evolves.foldl_fst,
        ↓Evolves.ite, ↓Evolves.ite_fst, ↓Evolves.elim_opt, Evolves.refl, Nat.le_add_right, implies_true, List.cons_subset,
        List.nil_subset, and_true, hp₀, hb₀];done)
    | (refine Evolves.foldl _ _ _ (fun u x => ?_) ?_ <;> try dsimp only)
    | (refine Evolves.foldl_fst _ _ _ (fun u x => ?_) ?_ <;> try dsimp only)
    | split)

theorem State.pairsAtVisit_evolves {ps₀ : List Part} {b₀ : State} (s : State) (k : Nat)
    (hp₀ : [.diag] ⊆ ps₀) (hb₀ : Evolves ps₀ b₀ s) :
    Evolves ps₀ b₀ (State.pairsAtVisit s k) := by
  simp only [List.cons_subset, List.nil_subset, and_true] at hp₀
  unfold State.pairsAtVisit
  try dsimp only
  repeat' (first
    | focus (simp (maxDischargeDepth := 60) only [↓State.setPair_evolves, ↓Evolves.set_diag, ↓Evolves.foldl, ↓Evolves.foldl_fst,
        ↓Evolves.ite, ↓Evolves.ite_fst, ↓Evolves.elim_opt, Evolves.refl, Nat.le_add_right, implies_true, List.cons_subset,
        List.nil_subset, and_true, hp₀, hb₀];done)
    | (refine Evolves.foldl _ _ _ (fun u x => ?_) ?_ <;> try dsimp only)
    | (refine Evolves.foldl_fst _ _ _ (fun u x => ?_) ?_ <;> try dsimp only)
    | split)

theorem State.sendDiag_evolves {ps₀ : List Part} {b₀ : State} {t₀ : State} (s : State) (line : Nat)
    (hp₀ : [.lamp, .diag] ⊆ ps₀) (hb₀ : Evolves ps₀ b₀ s) (hr₀ : State.sendDiag s line = some t₀) :
    Evolves ps₀ b₀ t₀ := by
  simp only [List.cons_subset, List.nil_subset, and_true] at hp₀
  unfold State.sendDiag at hr₀
  split at hr₀
  · cases hr₀
  · cases hr₀
    exact State.setPair_evolves _ _ (by simp [hp₀]) (State.sendHk_evolves _ _ _ (by simp [hp₀]) hb₀)

theorem State.diagResult_evolves {ps₀ : List Part} {b₀ : State} (s : State) (x opens shorts : Nat)
    (hp₀ : [.regs, .sent, .link, .repl, .faults, .nvm, .tile, .diag, .snaps, .red] ⊆ ps₀) (hb₀ : Evolves ps₀ b₀ s) :
    Evolves ps₀ b₀ (State.diagResult s x opens shorts) := by
  simp only [List.cons_subset, List.nil_subset, and_true] at hp₀
  unfold State.diagResult
  try dsimp only
  repeat' (first
    | focus (simp (maxDischargeDepth := 60) only [↓State.chanResult_evolves, ↓State.mapProbe_evolves, ↓State.snapPassEnds_evolves,
        ↓State.roundEnds_evolves, ↓State.dropPair_evolves, ↓Evolves.set_diag, ↓Evolves.foldl, ↓Evolves.foldl_fst, ↓Evolves.ite,
        ↓Evolves.ite_fst, ↓Evolves.elim_opt, Evolves.refl, Nat.le_add_right, implies_true, List.cons_subset, List.nil_subset,
        and_true, hp₀, hb₀];done)
    | (refine Evolves.foldl _ _ _ (fun u x => ?_) ?_ <;> try dsimp only)
    | (refine Evolves.foldl_fst _ _ _ (fun u x => ?_) ?_ <;> try dsimp only)
    | split)

theorem State.diagLost_evolves {ps₀ : List Part} {b₀ : State} (s : State) (x : Nat)
    (hp₀ : [.regs, .diag] ⊆ ps₀) (hb₀ : Evolves ps₀ b₀ s) :
    Evolves ps₀ b₀ (State.diagLost s x) := by
  simp only [List.cons_subset, List.nil_subset, and_true] at hp₀
  unfold State.diagLost
  try dsimp only
  repeat' (first
    | focus (simp (maxDischargeDepth := 60) only [↓State.snapPassEnds_evolves, ↓State.roundEnds_evolves, ↓State.dropPair_evolves,
        ↓State.event_evolves, ↓Evolves.foldl, ↓Evolves.foldl_fst, ↓Evolves.ite, ↓Evolves.ite_fst, ↓Evolves.elim_opt, Evolves.refl,
        Nat.le_add_right, implies_true, List.cons_subset, List.nil_subset, and_true, hp₀, hb₀];done)
    | (refine Evolves.foldl _ _ _ (fun u x => ?_) ?_ <;> try dsimp only)
    | (refine Evolves.foldl_fst _ _ _ (fun u x => ?_) ?_ <;> try dsimp only)
    | split)

theorem State.startRound_evolves {ps₀ : List Part} {b₀ : State} (s : State) (slip : Bool)
    (hp₀ : [.regs, .diag] ⊆ ps₀) (hb₀ : Evolves ps₀ b₀ s) :
    Evolves ps₀ b₀ (State.startRound s slip) := by
  simp only [List.cons_subset, List.nil_subset, and_true] at hp₀
  unfold State.startRound
  try dsimp only
  repeat' (first
    | focus (simp (maxDischargeDepth := 60) only [↓State.event_evolves, ↓State.roundEnds_evolves, ↓State.startPairs_evolves,
        ↓State.wrapInc_evolves, ↓State.setFlag_evolves, ↓Evolves.set_diag, ↓Evolves.foldl, ↓Evolves.foldl_fst, ↓Evolves.ite,
        ↓Evolves.ite_fst, ↓Evolves.elim_opt, Evolves.refl, Nat.le_add_right, implies_true, List.cons_subset, List.nil_subset,
        and_true, hp₀, hb₀];done)
    | (refine Evolves.foldl _ _ _ (fun u x => ?_) ?_ <;> try dsimp only)
    | (refine Evolves.foldl_fst _ _ _ (fun u x => ?_) ?_ <;> try dsimp only)
    | split)

theorem execRoundStart_evolves (s : State) :
    ∃ t₁, execRoundStart s = .next t₁ ∧ Evolves [.regs, .cycles, .wall, .diag] s t₁ := by
  have hb₀ := Evolves.refl [.regs, .cycles, .wall, .diag] s
  unfold execRoundStart
  refine ⟨_, rfl, ?_⟩
  try dsimp only
  repeat' (first
    | focus (simp (maxDischargeDepth := 60) only [↓State.startRound_evolves, ↓State.untilCycle_evolves, ↓Evolves.foldl,
        ↓Evolves.foldl_fst, ↓Evolves.ite, ↓Evolves.ite_fst, ↓Evolves.elim_opt, Evolves.refl, Nat.le_add_right, implies_true,
        List.cons_subset, List.nil_subset, and_true, List.mem_cons, reduceCtorEq, true_or, or_true, false_or, or_false, hb₀];done)
    | (refine Evolves.foldl _ _ _ (fun u x => ?_) ?_ <;> try dsimp only)
    | (refine Evolves.foldl_fst _ _ _ (fun u x => ?_) ?_ <;> try dsimp only)
    | split)

theorem execProbePeriodEnd_evolves (s : State) :
    ∃ t₁, execProbePeriodEnd s = .next t₁ ∧ Evolves [.cycles, .wall, .diag] s t₁ := by
  have hb₀ := Evolves.refl [.cycles, .wall, .diag] s
  unfold execProbePeriodEnd
  refine ⟨_, rfl, ?_⟩
  try dsimp only
  repeat' (first
    | focus (simp (maxDischargeDepth := 60) only [↓State.untilWall_evolves, ↓Evolves.set_diag, ↓Evolves.foldl, ↓Evolves.foldl_fst,
        ↓Evolves.ite, ↓Evolves.ite_fst, ↓Evolves.elim_opt, Evolves.refl, Nat.le_add_right, implies_true, List.cons_subset,
        List.nil_subset, and_true, List.mem_cons, reduceCtorEq, true_or, or_true, false_or, or_false, hb₀];done)
    | (refine Evolves.foldl _ _ _ (fun u x => ?_) ?_ <;> try dsimp only)
    | (refine Evolves.foldl_fst _ _ _ (fun u x => ?_) ?_ <;> try dsimp only)
    | split)

theorem State.startSnapPass_evolves {ps₀ : List Part} {b₀ : State} (s : State) (id : Nat)
    (hp₀ : [.regs, .diag, .snaps] ⊆ ps₀) (hb₀ : Evolves ps₀ b₀ s) :
    Evolves ps₀ b₀ (State.startSnapPass s id) := by
  simp only [List.cons_subset, List.nil_subset, and_true] at hp₀
  unfold State.startSnapPass
  dsimp only
  refine State.snapPassEnds_evolves _ (by simp [hp₀]) (Evolves.set_diag _ (by simp [hp₀]) (Evolves.foldl _ _ _ (fun u x => ?_) ?_))
  · split
    · exact State.mapProbe_evolves _ _ _ _ _ _ (by simp [hp₀]) (Evolves.refl _ _)
    · exact Evolves.refl _ _
  · exact State.setFld_evolves _ _ _ (by simp [hp₀]) (State.setFlag_evolves _ _ _ (by simp [hp₀]) (State.setFld_evolves _ _ _ (by simp [hp₀]) hb₀))

end Sys2Proof.Machine
end

