-- ==== Sys2Proof/Laws/EvolveLamp.lean ====
section
/-! SUPPORT. What the operations of Machine/Lamp.lean keep (Evolves). -/

set_option linter.unusedSimpArgs false
set_option linter.unreachableTactic false
set_option linter.unusedTactic false
set_option linter.unusedVariables false

namespace Sys2Proof.Machine

theorem State.endAwait_evolves {ps₀ : List Part} {b₀ : State} (s : State) (p : Nat)
    (hp₀ : [.regs, .lamp] ⊆ ps₀) (hb₀ : Evolves ps₀ b₀ s) :
    Evolves ps₀ b₀ (State.endAwait s p) := by
  simp only [List.cons_subset, List.nil_subset, and_true] at hp₀
  unfold State.endAwait
  try dsimp only
  repeat' (first
    | focus (simp (maxDischargeDepth := 60) only [↓State.setFlag_evolves, ↓Evolves.set_lamp, ↓Evolves.foldl, ↓Evolves.foldl_fst,
        ↓Evolves.ite, ↓Evolves.ite_fst, ↓Evolves.elim_opt, Evolves.refl, Nat.le_add_right, implies_true, List.cons_subset,
        List.nil_subset, and_true, hp₀, hb₀];done)
    | (refine Evolves.foldl _ _ _ (fun u x => ?_) ?_ <;> try dsimp only)
    | (refine Evolves.foldl_fst _ _ _ (fun u x => ?_) ?_ <;> try dsimp only)
    | split)

theorem State.startAwait_evolves {ps₀ : List Part} {b₀ : State} (s : State) (a : Await)
    (hp₀ : [.regs, .lamp] ⊆ ps₀) (hb₀ : Evolves ps₀ b₀ s) :
    Evolves ps₀ b₀ (State.startAwait s a) := by
  simp only [List.cons_subset, List.nil_subset, and_true] at hp₀
  unfold State.startAwait
  try dsimp only
  repeat' (first
    | focus (simp (maxDischargeDepth := 60) only [↓State.setFlag_evolves, ↓Evolves.set_lamp, ↓Evolves.foldl, ↓Evolves.foldl_fst,
        ↓Evolves.ite, ↓Evolves.ite_fst, ↓Evolves.elim_opt, Evolves.refl, Nat.le_add_right, implies_true, List.cons_subset,
        List.nil_subset, and_true, hp₀, hb₀];done)
    | (refine Evolves.foldl _ _ _ (fun u x => ?_) ?_ <;> try dsimp only)
    | (refine Evolves.foldl_fst _ _ _ (fun u x => ?_) ?_ <;> try dsimp only)
    | split)

theorem State.sendEcho_evolves {ps₀ : List Part} {b₀ : State} (s : State) (x : Nat)
    (hp₀ : [.regs, .lamp] ⊆ ps₀) (hb₀ : Evolves ps₀ b₀ s) :
    Evolves ps₀ b₀ (State.sendEcho s x) := by
  simp only [List.cons_subset, List.nil_subset, and_true] at hp₀
  unfold State.sendEcho
  try dsimp only
  repeat' (first
    | focus (simp (maxDischargeDepth := 60) only [↓State.setCtxRun_evolves, ↓State.sendHk_evolves, ↓State.startAwait_evolves,
        ↓Evolves.set_lamp, ↓Evolves.foldl, ↓Evolves.foldl_fst, ↓Evolves.ite, ↓Evolves.ite_fst, ↓Evolves.elim_opt, Evolves.refl,
        Nat.le_add_right, implies_true, List.cons_subset, List.nil_subset, and_true, hp₀, hb₀];done)
    | (refine Evolves.foldl _ _ _ (fun u x => ?_) ?_ <;> try dsimp only)
    | (refine Evolves.foldl_fst _ _ _ (fun u x => ?_) ?_ <;> try dsimp only)
    | split)

theorem State.noteBad_evolves {ps₀ : List Part} {b₀ : State} (s : State) (r : CtxRun)
    (hp₀ : [.regs, .lamp] ⊆ ps₀) (hb₀ : Evolves ps₀ b₀ s) :
    Evolves ps₀ b₀ (State.noteBad s r) := by
  simp only [List.cons_subset, List.nil_subset, and_true] at hp₀
  unfold State.noteBad
  try dsimp only
  repeat' (first
    | focus (simp (maxDischargeDepth := 60) only [↓State.initCtx_evolves, ↓State.setCtxRun_evolves, ↓Evolves.foldl,
        ↓Evolves.foldl_fst, ↓Evolves.ite, ↓Evolves.ite_fst, ↓Evolves.elim_opt, Evolves.refl, Nat.le_add_right, implies_true,
        List.cons_subset, List.nil_subset, and_true, hp₀, hb₀];done)
    | (refine Evolves.foldl _ _ _ (fun u x => ?_) ?_ <;> try dsimp only)
    | (refine Evolves.foldl_fst _ _ _ (fun u x => ?_) ?_ <;> try dsimp only)
    | split)

theorem State.noEcho_evolves {ps₀ : List Part} {b₀ : State} (s : State) (x : Nat)
    (hp₀ : [.regs, .sent, .link, .repl, .faults, .nvm, .lamp, .red] ⊆ ps₀) (hb₀ : Evolves ps₀ b₀ s) :
    Evolves ps₀ b₀ (State.noEcho s x) := by
  simp only [List.cons_subset, List.nil_subset, and_true] at hp₀
  unfold State.noEcho
  try dsimp only
  repeat' (first
    | focus (simp (maxDischargeDepth := 60) only [↓State.noteBad_evolves, ↓State.eventCount_evolves, ↓State.fault_evolves,
        ↓State.event_evolves, ↓State.setFlag_evolves, ↓Evolves.foldl, ↓Evolves.foldl_fst, ↓Evolves.ite, ↓Evolves.ite_fst,
        ↓Evolves.elim_opt, Evolves.refl, Nat.le_add_right, implies_true, List.cons_subset, List.nil_subset, and_true, hp₀,
        hb₀];done)
    | (refine Evolves.foldl _ _ _ (fun u x => ?_) ?_ <;> try dsimp only)
    | (refine Evolves.foldl_fst _ _ _ (fun u x => ?_) ?_ <;> try dsimp only)
    | split)

theorem State.echoReturn_evolves {ps₀ : List Part} {b₀ : State} (s : State) (a : Await) (status check : Nat)
    (hp₀ : [.regs, .sent, .link, .repl, .faults, .nvm, .lamp, .red] ⊆ ps₀) (hb₀ : Evolves ps₀ b₀ s) :
    Evolves ps₀ b₀ (State.echoReturn s a status check) := by
  simp only [List.cons_subset, List.nil_subset, and_true] at hp₀
  unfold State.echoReturn
  try dsimp only
  repeat' (first
    | focus (simp (maxDischargeDepth := 60) only [↓State.setFlag_evolves, ↓State.setFld_evolves, ↓State.fault_evolves,
        ↓State.event_evolves, ↓State.setCtxRun_evolves, ↓State.noteBad_evolves, ↓State.eventCount_evolves, ↓Evolves.foldl,
        ↓Evolves.foldl_fst, ↓Evolves.ite, ↓Evolves.ite_fst, ↓Evolves.elim_opt, Evolves.refl, Nat.le_add_right, implies_true,
        List.cons_subset, List.nil_subset, and_true, hp₀, hb₀];done)
    | (refine Evolves.foldl _ _ _ (fun u x => ?_) ?_ <;> try dsimp only)
    | (refine Evolves.foldl_fst _ _ _ (fun u x => ?_) ?_ <;> try dsimp only)
    | split)

theorem State.returnLost_evolves {ps₀ : List Part} {b₀ : State} (s : State) (a : Await)
    (hp₀ : [.regs, .sent, .link, .repl, .faults, .nvm, .lamp, .diag, .red] ⊆ ps₀) (hb₀ : Evolves ps₀ b₀ s) :
    Evolves ps₀ b₀ (State.returnLost s a) := by
  simp only [List.cons_subset, List.nil_subset, and_true] at hp₀
  unfold State.returnLost
  try dsimp only
  repeat' (first
    | focus (simp (maxDischargeDepth := 60) only [↓State.noEcho_evolves, ↓State.endAwait_evolves, ↓State.diagLost_evolves,
        ↓Evolves.foldl, ↓Evolves.foldl_fst, ↓Evolves.ite, ↓Evolves.ite_fst, ↓Evolves.elim_opt, Evolves.refl, Nat.le_add_right,
        implies_true, List.cons_subset, List.nil_subset, and_true, hp₀, hb₀];done)
    | (refine Evolves.foldl _ _ _ (fun u x => ?_) ?_ <;> try dsimp only)
    | (refine Evolves.foldl_fst _ _ _ (fun u x => ?_) ?_ <;> try dsimp only)
    | split)

theorem execReturnFrame_evolves (port header : Nat) (words : List Nat) (crc : Nat) (s : State) :
    ∃ t₁, execReturnFrame port header words crc s = .next t₁ ∧ Evolves [.regs, .sent, .link, .repl, .faults, .nvm, .tile, .lamp, .diag, .snaps, .red] s t₁ := by
  have hb₀ := Evolves.refl [.regs, .sent, .link, .repl, .faults, .nvm, .tile, .lamp, .diag, .snaps, .red] s
  unfold execReturnFrame
  refine ⟨_, rfl, ?_⟩
  try dsimp only
  repeat' (first
    | focus (simp (maxDischargeDepth := 60) only [↓State.endAwait_evolves, ↓State.echoReturn_evolves, ↓State.diagResult_evolves,
        ↓State.setCtxRun_evolves, ↓State.returnLost_evolves, ↓Evolves.foldl, ↓Evolves.foldl_fst, ↓Evolves.ite, ↓Evolves.ite_fst,
        ↓Evolves.elim_opt, Evolves.refl, Nat.le_add_right, implies_true, List.cons_subset, List.nil_subset, and_true,
        List.mem_cons, reduceCtorEq, true_or, or_true, false_or, or_false, hb₀];done)
    | (refine Evolves.foldl _ _ _ (fun u x => ?_) ?_ <;> try dsimp only)
    | (refine Evolves.foldl_fst _ _ _ (fun u x => ?_) ?_ <;> try dsimp only)
    | split)

theorem execReturnTimeout_evolves (port : Nat) (s : State) :
    ∃ t₁, execReturnTimeout port s = .next t₁ ∧ Evolves [.regs, .sent, .link, .repl, .faults, .nvm, .lamp, .diag, .red] s t₁ := by
  have hb₀ := Evolves.refl [.regs, .sent, .link, .repl, .faults, .nvm, .lamp, .diag, .red] s
  unfold execReturnTimeout
  refine ⟨_, rfl, ?_⟩
  try dsimp only
  repeat' (first
    | focus (simp (maxDischargeDepth := 60) only [↓State.returnLost_evolves, ↓Evolves.foldl, ↓Evolves.foldl_fst, ↓Evolves.ite,
        ↓Evolves.ite_fst, ↓Evolves.elim_opt, Evolves.refl, Nat.le_add_right, implies_true, List.cons_subset, List.nil_subset,
        and_true, List.mem_cons, reduceCtorEq, true_or, or_true, false_or, or_false, hb₀];done)
    | (refine Evolves.foldl _ _ _ (fun u x => ?_) ?_ <;> try dsimp only)
    | (refine Evolves.foldl_fst _ _ _ (fun u x => ?_) ?_ <;> try dsimp only)
    | split)

theorem execAbsentPoll_evolves (ctx : Nat) (s : State) :
    ∃ t₁, execAbsentPoll ctx s = .next t₁ ∧ Evolves [.regs, .cycles, .wall, .lamp] s t₁ := by
  have hb₀ := Evolves.refl [.regs, .cycles, .wall, .lamp] s
  unfold execAbsentPoll
  refine ⟨_, rfl, ?_⟩
  try dsimp only
  repeat' (first
    | focus (simp (maxDischargeDepth := 60) only [↓State.sendEcho_evolves, ↓State.untilCycle_evolves, ↓Evolves.foldl,
        ↓Evolves.foldl_fst, ↓Evolves.ite, ↓Evolves.ite_fst, ↓Evolves.elim_opt, Evolves.refl, Nat.le_add_right, implies_true,
        List.cons_subset, List.nil_subset, and_true, List.mem_cons, reduceCtorEq, true_or, or_true, false_or, or_false, hb₀];done)
    | (refine Evolves.foldl _ _ _ (fun u x => ?_) ?_ <;> try dsimp only)
    | (refine Evolves.foldl_fst _ _ _ (fun u x => ?_) ?_ <;> try dsimp only)
    | split)

theorem State.sendRead_evolves {ps₀ : List Part} {b₀ : State} (s : State) (d : DiagPair)
    (hp₀ : [.regs, .lamp, .diag] ⊆ ps₀) (hb₀ : Evolves ps₀ b₀ s) :
    Evolves ps₀ b₀ (State.sendRead s d) := by
  simp only [List.cons_subset, List.nil_subset, and_true] at hp₀
  unfold State.sendRead
  try dsimp only
  repeat' (first
    | focus (simp (maxDischargeDepth := 60) only [↓State.setPair_evolves, ↓State.sendHk_evolves, ↓State.startAwait_evolves,
        ↓Evolves.set_lamp, ↓Evolves.foldl, ↓Evolves.foldl_fst, ↓Evolves.ite, ↓Evolves.ite_fst, ↓Evolves.elim_opt, Evolves.refl,
        Nat.le_add_right, implies_true, List.cons_subset, List.nil_subset, and_true, hp₀, hb₀];done)
    | (refine Evolves.foldl _ _ _ (fun u x => ?_) ?_ <;> try dsimp only)
    | (refine Evolves.foldl_fst _ _ _ (fun u x => ?_) ?_ <;> try dsimp only)
    | split)

theorem State.askReturn_evolves {ps₀ : List Part} {b₀ : State} (s : State) (p : Nat)
    (hp₀ : [.regs, .lamp, .diag] ⊆ ps₀) (hb₀ : Evolves ps₀ b₀ s) :
    Evolves ps₀ b₀ (State.askReturn s p).1 := by
  simp only [List.cons_subset, List.nil_subset, and_true] at hp₀
  unfold State.askReturn
  try dsimp only
  repeat' (first
    | focus (simp (maxDischargeDepth := 60) only [↓State.sendEcho_evolves, ↓State.sendRead_evolves, ↓Evolves.foldl,
        ↓Evolves.foldl_fst, ↓Evolves.ite, ↓Evolves.ite_fst, ↓Evolves.elim_opt, Evolves.refl, Nat.le_add_right, implies_true,
        List.cons_subset, List.nil_subset, and_true, hp₀, hb₀];done)
    | (refine Evolves.foldl _ _ _ (fun u x => ?_) ?_ <;> try dsimp only)
    | (refine Evolves.foldl_fst _ _ _ (fun u x => ?_) ?_ <;> try dsimp only)
    | split)

theorem State.useSlot_evolves {ps₀ : List Part} {b₀ : State} (s : State) (line : Nat)
    (hp₀ : [.lamp, .diag] ⊆ ps₀) (hb₀ : Evolves ps₀ b₀ s) :
    Evolves ps₀ b₀ (State.useSlot s line).1 := by
  have hs : ∀ t, s.sendDiag line = some t → Evolves ps₀ b₀ t := fun t ht => State.sendDiag_evolves _ _ (fun p h => hp₀ (by revert p; decide)) hb₀ ht
  simp only [List.cons_subset, List.nil_subset, and_true] at hp₀
  unfold State.useSlot
  split
  · exact State.sendHk_evolves _ _ _ (by simp [hp₀]) (Evolves.set_lamp _ (by simp [hp₀]) hb₀)
  · split
    · next h => exact hs _ h
    · exact hb₀

theorem State.portSlots_evolves {ps₀ : List Part} {b₀ : State} (s : State) (p : Nat)
    (hp₀ : [.regs, .lamp, .diag] ⊆ ps₀) (hb₀ : Evolves ps₀ b₀ s) :
    Evolves ps₀ b₀ (State.portSlots s p).1 := by
  simp only [List.cons_subset, List.nil_subset, and_true] at hp₀
  unfold State.portSlots
  try dsimp only
  repeat' (first
    | focus (simp (maxDischargeDepth := 60) only [↓State.askReturn_evolves, ↓State.useSlot_evolves, ↓Evolves.foldl,
        ↓Evolves.foldl_fst, ↓Evolves.ite, ↓Evolves.ite_fst, ↓Evolves.elim_opt, Evolves.refl, Nat.le_add_right, implies_true,
        List.cons_subset, List.nil_subset, and_true, hp₀, hb₀];done)
    | (refine Evolves.foldl _ _ _ (fun u x => ?_) ?_ <;> try dsimp only)
    | (refine Evolves.foldl_fst _ _ _ (fun u x => ?_) ?_ <;> try dsimp only)
    | split)

theorem State.housekeeping_evolves {ps₀ : List Part} {b₀ : State} (s : State)
    (hp₀ : [.regs, .lamp, .diag] ⊆ ps₀) (hb₀ : Evolves ps₀ b₀ s) :
    Evolves ps₀ b₀ (State.housekeeping s) := by
  simp only [List.cons_subset, List.nil_subset, and_true] at hp₀
  unfold State.housekeeping
  try dsimp only
  repeat' (first
    | focus (simp (maxDischargeDepth := 60) only [↓State.startPairs_evolves, ↓State.portSlots_evolves, ↓State.setFld_evolves,
        ↓Evolves.set_lamp, ↓Evolves.foldl, ↓Evolves.foldl_fst, ↓Evolves.ite, ↓Evolves.ite_fst, ↓Evolves.elim_opt, Evolves.refl,
        Nat.le_add_right, implies_true, List.cons_subset, List.nil_subset, and_true, hp₀, hb₀];done)
    | (refine Evolves.foldl _ _ _ (fun u x => ?_) ?_ <;> try dsimp only)
    | (refine Evolves.foldl_fst _ _ _ (fun u x => ?_) ?_ <;> try dsimp only)
    | split)

theorem State.visorMiss_evolves {ps₀ : List Part} {b₀ : State} (s : State) (m : VisorMiss)
    (hp₀ : [.regs, .sent, .link, .repl, .faults, .nvm, .lamp, .red] ⊆ ps₀) (hb₀ : Evolves ps₀ b₀ s) :
    Evolves ps₀ b₀ (State.visorMiss s m) := by
  simp only [List.cons_subset, List.nil_subset, and_true] at hp₀
  unfold State.visorMiss
  try dsimp only
  repeat' (first
    | focus (simp (maxDischargeDepth := 60) only [↓State.event_evolves, ↓State.bump_evolves, ↓State.setBit_evolves,
        ↓State.setFld_evolves, ↓State.fault_evolves, ↓Evolves.set_lamp, ↓Evolves.foldl, ↓Evolves.foldl_fst, ↓Evolves.ite,
        ↓Evolves.ite_fst, ↓Evolves.elim_opt, Evolves.refl, Nat.le_add_right, implies_true, List.cons_subset, List.nil_subset,
        and_true, hp₀, hb₀];done)
    | (refine Evolves.foldl _ _ _ (fun u x => ?_) ?_ <;> try dsimp only)
    | (refine Evolves.foldl_fst _ _ _ (fun u x => ?_) ?_ <;> try dsimp only)
    | split)

theorem State.greyTransfers_evolves {ps₀ : List Part} {b₀ : State} (s : State) (k : Nat) (ms : List VisorMiss)
    (hp₀ : [.lamp] ⊆ ps₀) (hb₀ : Evolves ps₀ b₀ s) :
    Evolves ps₀ b₀ (State.greyTransfers s k ms) := by
  simp only [List.cons_subset, List.nil_subset, and_true] at hp₀
  unfold State.greyTransfers
  try dsimp only
  repeat' (first
    | focus (simp (maxDischargeDepth := 60) only [↓State.coverWords_evolves, ↓Evolves.set_lamp, ↓Evolves.foldl,
        ↓Evolves.foldl_fst, ↓Evolves.ite, ↓Evolves.ite_fst, ↓Evolves.elim_opt, Evolves.refl, Nat.le_add_right, implies_true,
        List.cons_subset, List.nil_subset, and_true, hp₀, hb₀];done)
    | (refine Evolves.foldl _ _ _ (fun u x => ?_) ?_ <;> try dsimp only)
    | (refine Evolves.foldl_fst _ _ _ (fun u x => ?_) ?_ <;> try dsimp only)
    | split)

theorem State.visorEnds_evolves {ps₀ : List Part} {b₀ : State} (s : State) (k : Nat)
    (hp₀ : [.regs, .lamp] ⊆ ps₀) (hb₀ : Evolves ps₀ b₀ s) :
    Evolves ps₀ b₀ (State.visorEnds s k) := by
  simp only [List.cons_subset, List.nil_subset, and_true] at hp₀
  unfold State.visorEnds
  try dsimp only
  repeat' (first
    | focus (simp (maxDischargeDepth := 60) only [↓State.setFld_evolves, ↓Evolves.set_lamp, ↓Evolves.foldl, ↓Evolves.foldl_fst,
        ↓Evolves.ite, ↓Evolves.ite_fst, ↓Evolves.elim_opt, Evolves.refl, Nat.le_add_right, implies_true, List.cons_subset,
        List.nil_subset, and_true, hp₀, hb₀];done)
    | (refine Evolves.foldl _ _ _ (fun u x => ?_) ?_ <;> try dsimp only)
    | (refine Evolves.foldl_fst _ _ _ (fun u x => ?_) ?_ <;> try dsimp only)
    | split)

theorem State.beginVisit_evolves {ps₀ : List Part} {b₀ : State} (s : State) (k : Nat) (ms : List VisorMiss)
    (hp₀ : [.regs, .sent, .link, .repl, .faults, .nvm, .lamp, .diag, .red] ⊆ ps₀) (hb₀ : Evolves ps₀ b₀ s) :
    Evolves ps₀ b₀ (State.beginVisit s k ms) := by
  simp only [List.cons_subset, List.nil_subset, and_true] at hp₀
  unfold State.beginVisit
  try dsimp only
  repeat' (first
    | focus (simp (maxDischargeDepth := 60) only [↓State.pairsAtVisit_evolves, ↓State.setFld_evolves, ↓State.visorEnds_evolves,
        ↓State.greyTransfers_evolves, ↓State.visorMiss_evolves, ↓Evolves.set_lamp, ↓Evolves.foldl, ↓Evolves.foldl_fst,
        ↓Evolves.ite, ↓Evolves.ite_fst, ↓Evolves.elim_opt, Evolves.refl, Nat.le_add_right, implies_true, List.cons_subset,
        List.nil_subset, and_true, hp₀, hb₀];done)
    | (refine Evolves.foldl _ _ _ (fun u x => ?_) ?_ <;> try dsimp only)
    | (refine Evolves.foldl_fst _ _ _ (fun u x => ?_) ?_ <;> try dsimp only)
    | split)

theorem execVisitStart_evolves (misses : List VisorMiss) (s : State) :
    ∃ t₁, execVisitStart misses s = .next t₁ ∧ Evolves [.regs, .cycles, .wall, .sent, .link, .repl, .faults, .nvm, .lamp, .diag, .red] s t₁ := by
  have hb₀ := Evolves.refl [.regs, .cycles, .wall, .sent, .link, .repl, .faults, .nvm, .lamp, .diag, .red] s
  unfold execVisitStart
  refine ⟨_, rfl, ?_⟩
  try dsimp only
  repeat' (first
    | focus (simp (maxDischargeDepth := 60) only [↓State.beginVisit_evolves, ↓State.housekeeping_evolves,
        ↓State.untilWall_evolves, ↓Evolves.foldl, ↓Evolves.foldl_fst, ↓Evolves.ite, ↓Evolves.ite_fst, ↓Evolves.elim_opt,
        Evolves.refl, Nat.le_add_right, implies_true, List.cons_subset, List.nil_subset, and_true, List.mem_cons, reduceCtorEq,
        true_or, or_true, false_or, or_false, hb₀];done)
    | (refine Evolves.foldl _ _ _ (fun u x => ?_) ?_ <;> try dsimp only)
    | (refine Evolves.foldl_fst _ _ _ (fun u x => ?_) ?_ <;> try dsimp only)
    | split)

theorem State.endUpload_evolves {ps₀ : List Part} {b₀ : State} (s : State) (from_ upTo : Nat)
    (hp₀ : [.lamp] ⊆ ps₀) (hb₀ : Evolves ps₀ b₀ s) :
    Evolves ps₀ b₀ (State.endUpload s from_ upTo).1 := by
  simp only [List.cons_subset, List.nil_subset, and_true] at hp₀
  unfold State.endUpload
  try dsimp only
  repeat' (first
    | focus (simp (maxDischargeDepth := 60) only [↓State.coverWords_evolves, ↓Evolves.set_lamp, ↓Evolves.foldl,
        ↓Evolves.foldl_fst, ↓Evolves.ite, ↓Evolves.ite_fst, ↓Evolves.elim_opt, Evolves.refl, Nat.le_add_right, implies_true,
        List.cons_subset, List.nil_subset, and_true, hp₀, hb₀];done)
    | (refine Evolves.foldl _ _ _ (fun u x => ?_) ?_ <;> try dsimp only)
    | (refine Evolves.foldl_fst _ _ _ (fun u x => ?_) ?_ <;> try dsimp only)
    | split)

theorem State.cutPorts_evolves {ps₀ : List Part} {b₀ : State} (s : State) (flip : Nat) (ps : List Nat)
    (hp₀ : [.regs, .sent, .link, .repl, .faults, .nvm, .lamp, .red] ⊆ ps₀) (hb₀ : Evolves ps₀ b₀ s) :
    Evolves ps₀ b₀ (State.cutPorts s flip ps) := by
  simp only [List.cons_subset, List.nil_subset, and_true] at hp₀
  unfold State.cutPorts
  try dsimp only
  repeat' (first
    | focus (simp (maxDischargeDepth := 60) only [↓State.bump_evolves, ↓State.event_evolves, ↓State.setFlag_evolves,
        ↓State.fault_evolves, ↓Evolves.set_lamp, ↓Evolves.foldl, ↓Evolves.foldl_fst, ↓Evolves.ite, ↓Evolves.ite_fst,
        ↓Evolves.elim_opt, Evolves.refl, Nat.le_add_right, implies_true, List.cons_subset, List.nil_subset, and_true, hp₀,
        hb₀];done)
    | (refine Evolves.foldl _ _ _ (fun u x => ?_) ?_ <;> try dsimp only)
    | (refine Evolves.foldl_fst _ _ _ (fun u x => ?_) ?_ <;> try dsimp only)
    | split)

theorem State.closeUpload_evolves {ps₀ : List Part} {b₀ : State} (s : State) (flip upTo : Nat)
    (hp₀ : [.regs, .sent, .link, .repl, .faults, .nvm, .lamp, .red] ⊆ ps₀) (hb₀ : Evolves ps₀ b₀ s) :
    Evolves ps₀ b₀ (State.closeUpload s flip upTo) := by
  simp only [List.cons_subset, List.nil_subset, and_true] at hp₀
  unfold State.closeUpload
  try dsimp only
  repeat' (first
    | focus (simp (maxDischargeDepth := 60) only [↓State.endUpload_evolves, ↓State.cutPorts_evolves, ↓Evolves.set_lamp,
        ↓Evolves.foldl, ↓Evolves.foldl_fst, ↓Evolves.ite, ↓Evolves.ite_fst, ↓Evolves.elim_opt, Evolves.refl, Nat.le_add_right,
        implies_true, List.cons_subset, List.nil_subset, and_true, hp₀, hb₀];done)
    | (refine Evolves.foldl _ _ _ (fun u x => ?_) ?_ <;> try dsimp only)
    | (refine Evolves.foldl_fst _ _ _ (fun u x => ?_) ?_ <;> try dsimp only)
    | split)

theorem execUploadDeadline_evolves (s : State) :
    ∃ t₁, execUploadDeadline s = .next t₁ ∧ Evolves [.regs, .cycles, .wall, .sent, .link, .repl, .faults, .nvm, .lamp, .red] s t₁ := by
  have hb₀ := Evolves.refl [.regs, .cycles, .wall, .sent, .link, .repl, .faults, .nvm, .lamp, .red] s
  unfold execUploadDeadline
  refine ⟨_, rfl, ?_⟩
  try dsimp only
  repeat' (first
    | focus (simp (maxDischargeDepth := 60) only [↓State.closeUpload_evolves, ↓State.untilWall_evolves, ↓Evolves.foldl,
        ↓Evolves.foldl_fst, ↓Evolves.ite, ↓Evolves.ite_fst, ↓Evolves.elim_opt, Evolves.refl, Nat.le_add_right, implies_true,
        List.cons_subset, List.nil_subset, and_true, List.mem_cons, reduceCtorEq, true_or, or_true, false_or, or_false, hb₀];done)
    | (refine Evolves.foldl _ _ _ (fun u x => ?_) ?_ <;> try dsimp only)
    | (refine Evolves.foldl_fst _ _ _ (fun u x => ?_) ?_ <;> try dsimp only)
    | split)

theorem State.judgeSlip_evolves {ps₀ : List Part} {b₀ : State} (s : State) (n e : Nat)
    (hp₀ : [.regs, .sent, .link, .repl, .faults, .nvm, .red] ⊆ ps₀) (hb₀ : Evolves ps₀ b₀ s) :
    Evolves ps₀ b₀ (State.judgeSlip s n e) := by
  simp only [List.cons_subset, List.nil_subset, and_true] at hp₀
  unfold State.judgeSlip
  try dsimp only
  repeat' (first
    | focus (simp (maxDischargeDepth := 60) only [↓State.fault_evolves, ↓State.bump_evolves, ↓State.event_evolves, ↓Evolves.foldl,
        ↓Evolves.foldl_fst, ↓Evolves.ite, ↓Evolves.ite_fst, ↓Evolves.elim_opt, Evolves.refl, Nat.le_add_right, implies_true,
        List.cons_subset, List.nil_subset, and_true, hp₀, hb₀];done)
    | (refine Evolves.foldl _ _ _ (fun u x => ?_) ?_ <;> try dsimp only)
    | (refine Evolves.foldl_fst _ _ _ (fun u x => ?_) ?_ <;> try dsimp only)
    | split)

theorem State.frameRun_evolves {ps₀ : List Part} {b₀ : State} (s : State) (n : Nat)
    (hp₀ : [.regs, .lamp] ⊆ ps₀) (hb₀ : Evolves ps₀ b₀ s) :
    Evolves ps₀ b₀ (State.frameRun s n) := by
  simp only [List.cons_subset, List.nil_subset, and_true] at hp₀
  unfold State.frameRun
  try dsimp only
  repeat' (first
    | focus (simp (maxDischargeDepth := 60) only [↓State.configLatch_evolves, ↓State.setFlag_evolves, ↓Evolves.set_lamp,
        ↓Evolves.foldl, ↓Evolves.foldl_fst, ↓Evolves.ite, ↓Evolves.ite_fst, ↓Evolves.elim_opt, Evolves.refl, Nat.le_add_right,
        implies_true, List.cons_subset, List.nil_subset, and_true, hp₀, hb₀];done)
    | (refine Evolves.foldl _ _ _ (fun u x => ?_) ?_ <;> try dsimp only)
    | (refine Evolves.foldl_fst _ _ _ (fun u x => ?_) ?_ <;> try dsimp only)
    | split)

theorem State.busStarts_evolves {ps₀ : List Part} {b₀ : State} (s : State)
    (hp₀ : [.regs, .lamp] ⊆ ps₀) (hb₀ : Evolves ps₀ b₀ s) :
    Evolves ps₀ b₀ (State.busStarts s) := by
  simp only [List.cons_subset, List.nil_subset, and_true] at hp₀
  unfold State.busStarts
  try dsimp only
  repeat' (first
    | focus (simp (maxDischargeDepth := 60) only [↓State.initPort_evolves, ↓State.initBus_evolves, ↓Evolves.set_lamp,
        ↓Evolves.foldl, ↓Evolves.foldl_fst, ↓Evolves.ite, ↓Evolves.ite_fst, ↓Evolves.elim_opt, Evolves.refl, Nat.le_add_right,
        implies_true, List.cons_subset, List.nil_subset, and_true, hp₀, hb₀];done)
    | (refine Evolves.foldl _ _ _ (fun u x => ?_) ?_ <;> try dsimp only)
    | (refine Evolves.foldl_fst _ _ _ (fun u x => ?_) ?_ <;> try dsimp only)
    | split)

theorem State.lampFlip_evolves {ps₀ : List Part} {b₀ : State} (s : State) (n : Nat) (built : Bool) (misses : List VisorMiss)
    (hp₀ : [.regs, .sent, .link, .repl, .faults, .nvm, .lamp, .diag, .red] ⊆ ps₀) (hb₀ : Evolves ps₀ b₀ s) :
    Evolves ps₀ b₀ (State.lampFlip s n built misses) := by
  simp only [List.cons_subset, List.nil_subset, and_true] at hp₀
  unfold State.lampFlip
  try dsimp only
  repeat' (first
    | focus (simp (maxDischargeDepth := 60) only [↓State.busStarts_evolves, ↓State.housekeeping_evolves, ↓State.judgeSlip_evolves,
        ↓State.frameRun_evolves, ↓State.beginVisit_evolves, ↓Evolves.set_lamp, ↓Evolves.foldl, ↓Evolves.foldl_fst, ↓Evolves.ite,
        ↓Evolves.ite_fst, ↓Evolves.elim_opt, Evolves.refl, Nat.le_add_right, implies_true, List.cons_subset, List.nil_subset,
        and_true, hp₀, hb₀];done)
    | (refine Evolves.foldl _ _ _ (fun u x => ?_) ?_ <;> try dsimp only)
    | (refine Evolves.foldl_fst _ _ _ (fun u x => ?_) ?_ <;> try dsimp only)
    | split)

end Sys2Proof.Machine
end

