-- ==== Sys2Proof/Laws/EvolveReact.lean ====
section
/-! SUPPORT. What the operations of Machine/React.lean keep (Evolves). -/

set_option linter.unusedSimpArgs false
set_option linter.unreachableTactic false
set_option linter.unusedTactic false
set_option linter.unusedVariables false

namespace Sys2Proof.Machine

theorem State.reactShadow_evolves {ps₀ : List Part} {b₀ : State} (s : State)
    (hp₀ : [.txn] ⊆ ps₀) (hb₀ : Evolves ps₀ b₀ s) :
    Evolves ps₀ b₀ (State.reactShadow s) := by
  simp only [List.cons_subset, List.nil_subset, and_true] at hp₀
  unfold State.reactShadow
  try dsimp only
  repeat' (first
    | focus (simp (maxDischargeDepth := 60) only [↓Evolves.set_txn, ↓Evolves.foldl, ↓Evolves.foldl_fst, ↓Evolves.ite,
        ↓Evolves.ite_fst, ↓Evolves.elim_opt, Evolves.refl, Nat.le_add_right, implies_true, List.cons_subset, List.nil_subset,
        and_true, hp₀, hb₀];done)
    | (refine Evolves.foldl _ _ _ (fun u x => ?_) ?_ <;> try dsimp only)
    | (refine Evolves.foldl_fst _ _ _ (fun u x => ?_) ?_ <;> try dsimp only)
    | split)

theorem State.reactCuff_evolves {ps₀ : List Part} {b₀ : State} (before s : State)
    (hp₀ : [.flip] ⊆ ps₀) (hb₀ : Evolves ps₀ b₀ s) :
    Evolves ps₀ b₀ (State.reactCuff before s) := by
  simp only [List.cons_subset, List.nil_subset, and_true] at hp₀
  unfold State.reactCuff
  try dsimp only
  repeat' (first
    | focus (simp (maxDischargeDepth := 60) only [↓Evolves.set_flip, ↓Evolves.foldl, ↓Evolves.foldl_fst, ↓Evolves.ite,
        ↓Evolves.ite_fst, ↓Evolves.elim_opt, Evolves.refl, Nat.le_add_right, implies_true, List.cons_subset, List.nil_subset,
        and_true, hp₀, hb₀];done)
    | (refine Evolves.foldl _ _ _ (fun u x => ?_) ?_ <;> try dsimp only)
    | (refine Evolves.foldl_fst _ _ _ (fun u x => ?_) ?_ <;> try dsimp only)
    | split)

theorem State.reactCadence_evolves {ps₀ : List Part} {b₀ : State} (before s : State)
    (hp₀ : [.regs] ⊆ ps₀) (hb₀ : Evolves ps₀ b₀ s) :
    Evolves ps₀ b₀ (State.reactCadence before s) := by
  simp only [List.cons_subset, List.nil_subset, and_true] at hp₀
  unfold State.reactCadence
  try dsimp only
  repeat' (first
    | focus (simp (maxDischargeDepth := 60) only [↓State.setFld_evolves, ↓Evolves.foldl, ↓Evolves.foldl_fst, ↓Evolves.ite,
        ↓Evolves.ite_fst, ↓Evolves.elim_opt, Evolves.refl, Nat.le_add_right, implies_true, List.cons_subset, List.nil_subset,
        and_true, hp₀, hb₀];done)
    | (refine Evolves.foldl _ _ _ (fun u x => ?_) ?_ <;> try dsimp only)
    | (refine Evolves.foldl_fst _ _ _ (fun u x => ?_) ?_ <;> try dsimp only)
    | split)

theorem State.reactTime_evolves {ps₀ : List Part} {b₀ : State} (before s : State)
    (hp₀ : [.regs, .time] ⊆ ps₀) (hb₀ : Evolves ps₀ b₀ s) :
    Evolves ps₀ b₀ (State.reactTime before s) := by
  simp only [List.cons_subset, List.nil_subset, and_true] at hp₀
  unfold State.reactTime
  try dsimp only
  repeat' (first
    | focus (simp (maxDischargeDepth := 60) only [↓State.sourceChanged_evolves, ↓State.evtChanged_evolves, ↓Evolves.foldl,
        ↓Evolves.foldl_fst, ↓Evolves.ite, ↓Evolves.ite_fst, ↓Evolves.elim_opt, Evolves.refl, Nat.le_add_right, implies_true,
        List.cons_subset, List.nil_subset, and_true, hp₀, hb₀];done)
    | (refine Evolves.foldl _ _ _ (fun u x => ?_) ?_ <;> try dsimp only)
    | (refine Evolves.foldl_fst _ _ _ (fun u x => ?_) ?_ <;> try dsimp only)
    | split)

theorem State.reactNet_evolves {ps₀ : List Part} {b₀ : State} (before s : State) (chs : List Change)
    (hp₀ : [.regs] ⊆ ps₀) (hb₀ : Evolves ps₀ b₀ s) :
    Evolves ps₀ b₀ (State.reactNet before s chs) := by
  simp only [List.cons_subset, List.nil_subset, and_true] at hp₀
  unfold State.reactNet
  try dsimp only
  repeat' (first
    | focus (simp (maxDischargeDepth := 60) only [↓State.txStart_evolves, ↓State.writeFilters_evolves, ↓Evolves.foldl,
        ↓Evolves.foldl_fst, ↓Evolves.ite, ↓Evolves.ite_fst, ↓Evolves.elim_opt, Evolves.refl, Nat.le_add_right, implies_true,
        List.cons_subset, List.nil_subset, and_true, hp₀, hb₀];done)
    | (refine Evolves.foldl _ _ _ (fun u x => ?_) ?_ <;> try dsimp only)
    | (refine Evolves.foldl_fst _ _ _ (fun u x => ?_) ?_ <;> try dsimp only)
    | split)

theorem State.reactTile_evolves {ps₀ : List Part} {b₀ : State} (before s : State) (chs : List Change)
    (hp₀ : [.regs, .sent, .link, .repl, .faults, .nvm, .tile, .diag, .red] ⊆ ps₀) (hb₀ : Evolves ps₀ b₀ s) :
    Evolves ps₀ b₀ (State.reactTile before s chs) := by
  simp only [List.cons_subset, List.nil_subset, and_true] at hp₀
  unfold State.reactTile
  try dsimp only
  repeat' (first
    | focus (simp (maxDischargeDepth := 60) only [↓State.geomReset_evolves, ↓State.publishLining_evolves,
        ↓State.roundEnds_evolves, ↓Evolves.set_diag, ↓Evolves.foldl, ↓Evolves.foldl_fst, ↓Evolves.ite, ↓Evolves.ite_fst,
        ↓Evolves.elim_opt, Evolves.refl, Nat.le_add_right, implies_true, List.cons_subset, List.nil_subset, and_true, hp₀,
        hb₀];done)
    | (refine Evolves.foldl _ _ _ (fun u x => ?_) ?_ <;> try dsimp only)
    | (refine Evolves.foldl_fst _ _ _ (fun u x => ?_) ?_ <;> try dsimp only)
    | split)

theorem State.react_evolves {ps₀ : List Part} {b₀ : State} (before s : State) (chs : List Change)
    (hp₀ : [.regs, .fresh, .cycles, .wall, .sent, .txn, .flip, .link, .map, .repl, .faults, .thm, .nvm, .net0, .net1, .time, .video, .scan, .lanes, .tile, .lamp, .diag, .red] ⊆ ps₀) (hb₀ : Evolves ps₀ b₀ s) :
    Evolves ps₀ b₀ (State.react before s chs) := by
  simp only [List.cons_subset, List.nil_subset, and_true] at hp₀
  unfold State.react
  try dsimp only
  repeat' (first
    | focus (simp (maxDischargeDepth := 60) only [↓State.reactCadence_evolves, ↓State.reactCuff_evolves,
        ↓State.reactShadow_evolves, ↓State.reactTime_evolves, ↓State.reactThermal_evolves, ↓State.reactLanes_evolves,
        ↓State.reactNet_evolves, ↓State.reactSources_evolves, ↓State.reactLamp_evolves, ↓State.reactTile_evolves,
        ↓State.reactCompositor_evolves, ↓Evolves.foldl, ↓Evolves.foldl_fst, ↓Evolves.ite, ↓Evolves.ite_fst, ↓Evolves.elim_opt,
        Evolves.refl, Nat.le_add_right, implies_true, List.cons_subset, List.nil_subset, and_true, hp₀, hb₀];done)
    | (refine Evolves.foldl _ _ _ (fun u x => ?_) ?_ <;> try dsimp only)
    | (refine Evolves.foldl_fst _ _ _ (fun u x => ?_) ?_ <;> try dsimp only)
    | split)

end Sys2Proof.Machine
end

