-- ==== Sys2Proof/Laws/EvolveTxn.lean ====
section
/-! SUPPORT. What the operations of Machine/Txn.lean keep (Evolves). -/

set_option linter.unusedSimpArgs false
set_option linter.unreachableTactic false
set_option linter.unusedTactic false
set_option linter.unusedVariables false

namespace Sys2Proof.Machine

theorem State.setOpen_evolves {ps₀ : List Part} {b₀ : State} (s : State) (a : Auth) (t : Option OpenTxn)
    (hp₀ : [.gen, .gnt] ⊆ ps₀) (hb₀ : Evolves ps₀ b₀ s) :
    Evolves ps₀ b₀ (State.setOpen s a t) := by
  simp only [List.cons_subset, List.nil_subset, and_true] at hp₀
  unfold State.setOpen
  try dsimp only
  repeat' (first
    | focus (simp (maxDischargeDepth := 60) only [↓State.setAuth_evolves, ↓Evolves.foldl, ↓Evolves.foldl_fst, ↓Evolves.ite,
        ↓Evolves.ite_fst, ↓Evolves.elim_opt, Evolves.refl, Nat.le_add_right, implies_true, List.cons_subset, List.nil_subset,
        and_true, hp₀, hb₀];done)
    | (refine Evolves.foldl _ _ _ (fun u x => ?_) ?_ <;> try dsimp only)
    | (refine Evolves.foldl_fst _ _ _ (fun u x => ?_) ?_ <;> try dsimp only)
    | split)

theorem State.doBegin_evolves {ps₀ : List Part} {b₀ : State} (s : State) (h : Hdr)
    (hp₀ : [.regs, .sent, .gen, .gnt, .txn, .cmd, .link, .repl, .red] ⊆ ps₀) (hb₀ : Evolves ps₀ b₀ s) :
    Evolves ps₀ b₀ (State.doBegin s h) := by
  simp only [List.cons_subset, List.nil_subset, and_true] at hp₀
  unfold State.doBegin
  try dsimp only
  repeat' (first
    | focus (simp (maxDischargeDepth := 60) only [↓State.refuse_evolves, ↓State.record_evolves, ↓State.setOpen_evolves,
        ↓Evolves.foldl, ↓Evolves.foldl_fst, ↓Evolves.ite, ↓Evolves.ite_fst, ↓Evolves.elim_opt, Evolves.refl, Nat.le_add_right,
        implies_true, List.cons_subset, List.nil_subset, and_true, hp₀, hb₀];done)
    | (refine Evolves.foldl _ _ _ (fun u x => ?_) ?_ <;> try dsimp only)
    | (refine Evolves.foldl_fst _ _ _ (fun u x => ?_) ?_ <;> try dsimp only)
    | split)

theorem State.touchTxn_evolves {ps₀ : List Part} {b₀ : State} (s : State) (a : Auth)
    (hp₀ : [.gen, .gnt] ⊆ ps₀) (hb₀ : Evolves ps₀ b₀ s) :
    Evolves ps₀ b₀ (State.touchTxn s a) := by
  simp only [List.cons_subset, List.nil_subset, and_true] at hp₀
  unfold State.touchTxn
  try dsimp only
  repeat' (first
    | focus (simp (maxDischargeDepth := 60) only [↓State.setOpen_evolves, ↓Evolves.foldl, ↓Evolves.foldl_fst, ↓Evolves.ite,
        ↓Evolves.ite_fst, ↓Evolves.elim_opt, Evolves.refl, Nat.le_add_right, implies_true, List.cons_subset, List.nil_subset,
        and_true, hp₀, hb₀];done)
    | (refine Evolves.foldl _ _ _ (fun u x => ?_) ?_ <;> try dsimp only)
    | (refine Evolves.foldl_fst _ _ _ (fun u x => ?_) ?_ <;> try dsimp only)
    | split)

theorem State.doTxnWrite_evolves {ps₀ : List Part} {b₀ : State} (s : State) (h : Hdr) (t : OpenTxn) (c : Change)
    (hp₀ : [.regs, .sent, .gen, .gnt, .txn, .cmd, .link, .repl, .red] ⊆ ps₀) (hb₀ : Evolves ps₀ b₀ s) :
    Evolves ps₀ b₀ (State.doTxnWrite s h t c) := by
  simp only [List.cons_subset, List.nil_subset, and_true] at hp₀
  unfold State.doTxnWrite
  try dsimp only
  repeat' (first
    | focus (simp (maxDischargeDepth := 60) only [↓State.refuse_evolves, ↓State.touchTxn_evolves, ↓State.record_evolves,
        ↓State.setOpen_evolves, ↓Evolves.foldl, ↓Evolves.foldl_fst, ↓Evolves.ite, ↓Evolves.ite_fst, ↓Evolves.elim_opt,
        Evolves.refl, Nat.le_add_right, implies_true, List.cons_subset, List.nil_subset, and_true, hp₀, hb₀];done)
    | (refine Evolves.foldl _ _ _ (fun u x => ?_) ?_ <;> try dsimp only)
    | (refine Evolves.foldl_fst _ _ _ (fun u x => ?_) ?_ <;> try dsimp only)
    | split)

theorem State.setLastRes_evolves {ps₀ : List Part} {b₀ : State} (s : State) (a : Auth) (x : Status) (late repl : Bool) (fi : Nat)
    (hp₀ : [.regs] ⊆ ps₀) (hb₀ : Evolves ps₀ b₀ s) :
    Evolves ps₀ b₀ (State.setLastRes s a x late repl fi) := by
  simp only [List.cons_subset, List.nil_subset, and_true] at hp₀
  unfold State.setLastRes
  try dsimp only
  repeat' (first
    | focus (simp (maxDischargeDepth := 60) only [↓State.setFld_evolves, ↓State.setFlag_evolves, ↓Evolves.foldl,
        ↓Evolves.foldl_fst, ↓Evolves.ite, ↓Evolves.ite_fst, ↓Evolves.elim_opt, Evolves.refl, Nat.le_add_right, implies_true,
        List.cons_subset, List.nil_subset, and_true, hp₀, hb₀];done)
    | (refine Evolves.foldl _ _ _ (fun u x => ?_) ?_ <;> try dsimp only)
    | (refine Evolves.foldl_fst _ _ _ (fun u x => ?_) ?_ <;> try dsimp only)
    | split)

theorem State.finishSeq_evolves {ps₀ : List Part} {b₀ : State} (s : State) (a : Auth) (o : TxnOutcome)
    (hp₀ : [.gen, .gnt] ⊆ ps₀) (hb₀ : Evolves ps₀ b₀ s) :
    Evolves ps₀ b₀ (State.finishSeq s a o) := by
  simp only [List.cons_subset, List.nil_subset, and_true] at hp₀
  unfold State.finishSeq
  try dsimp only
  repeat' (first
    | focus (simp (maxDischargeDepth := 60) only [↓State.setAuth_evolves, ↓Evolves.foldl, ↓Evolves.foldl_fst, ↓Evolves.ite,
        ↓Evolves.ite_fst, ↓Evolves.elim_opt, Evolves.refl, Nat.le_add_right, implies_true, List.cons_subset, List.nil_subset,
        and_true, hp₀, hb₀];done)
    | (refine Evolves.foldl _ _ _ (fun u x => ?_) ?_ <;> try dsimp only)
    | (refine Evolves.foldl_fst _ _ _ (fun u x => ?_) ?_ <;> try dsimp only)
    | split)

theorem State.rollBack_evolves {ps₀ : List Part} {b₀ : State} (s : State) (a : Auth) (t : OpenTxn) (x : Status) (fi : Nat) (byHost : Bool)
    (hp₀ : [.regs, .sent, .gen, .gnt, .txn, .repl, .red] ⊆ ps₀) (hb₀ : Evolves ps₀ b₀ s) :
    Evolves ps₀ b₀ (State.rollBack s a t x fi byHost) := by
  simp only [List.cons_subset, List.nil_subset, and_true] at hp₀
  unfold State.rollBack
  try dsimp only
  repeat' (first
    | focus (simp (maxDischargeDepth := 60) only [↓State.setLastRes_evolves, ↓State.finishSeq_evolves, ↓State.record_evolves,
        ↓State.setOpen_evolves, ↓Evolves.foldl, ↓Evolves.foldl_fst, ↓Evolves.ite, ↓Evolves.ite_fst, ↓Evolves.elim_opt,
        Evolves.refl, Nat.le_add_right, implies_true, List.cons_subset, List.nil_subset, and_true, hp₀, hb₀];done)
    | (refine Evolves.foldl _ _ _ (fun u x => ?_) ?_ <;> try dsimp only)
    | (refine Evolves.foldl_fst _ _ _ (fun u x => ?_) ?_ <;> try dsimp only)
    | split)

theorem State.doRollback_evolves {ps₀ : List Part} {b₀ : State} (s : State) (h : Hdr)
    (hp₀ : [.regs, .sent, .gen, .gnt, .txn, .cmd, .link, .repl, .red] ⊆ ps₀) (hb₀ : Evolves ps₀ b₀ s) :
    Evolves ps₀ b₀ (State.doRollback s h) := by
  simp only [List.cons_subset, List.nil_subset, and_true] at hp₀
  unfold State.doRollback
  try dsimp only
  repeat' (first
    | focus (simp (maxDischargeDepth := 60) only [↓State.refuse_evolves, ↓State.rollBack_evolves, ↓Evolves.foldl,
        ↓Evolves.foldl_fst, ↓Evolves.ite, ↓Evolves.ite_fst, ↓Evolves.elim_opt, Evolves.refl, Nat.le_add_right, implies_true,
        List.cons_subset, List.nil_subset, and_true, hp₀, hb₀];done)
    | (refine Evolves.foldl _ _ _ (fun u x => ?_) ?_ <;> try dsimp only)
    | (refine Evolves.foldl_fst _ _ _ (fun u x => ?_) ?_ <;> try dsimp only)
    | split)

theorem State.applyChanges_evolves {ps₀ : List Part} {b₀ : State} (s : State) (chs : List Change)
    (hp₀ : [.regs, .fresh, .cycles, .wall, .sent, .txn, .flip, .link, .map, .repl, .faults, .thm, .nvm, .net0, .net1, .time, .video, .scan, .lanes, .tile, .lamp, .diag, .red] ⊆ ps₀) (hb₀ : Evolves ps₀ b₀ s) :
    Evolves ps₀ b₀ (State.applyChanges s chs) := by
  simp only [List.cons_subset, List.nil_subset, and_true] at hp₀
  unfold State.applyChanges
  try dsimp only
  repeat' (first
    | focus (simp (maxDischargeDepth := 60) only [↓State.react_evolves, ↓State.applyChange_evolves, ↓Evolves.foldl,
        ↓Evolves.foldl_fst, ↓Evolves.ite, ↓Evolves.ite_fst, ↓Evolves.elim_opt, Evolves.refl, Nat.le_add_right, implies_true,
        List.cons_subset, List.nil_subset, and_true, hp₀, hb₀];done)
    | (refine Evolves.foldl _ _ _ (fun u x => ?_) ?_ <;> try dsimp only)
    | (refine Evolves.foldl_fst _ _ _ (fun u x => ?_) ?_ <;> try dsimp only)
    | split)

theorem State.applyLocal_evolves {ps₀ : List Part} {b₀ : State} (s : State) (chs : List Change)
    (hp₀ : [.regs, .fresh, .cycles, .wall, .sent, .txn, .flip, .link, .map, .repl, .faults, .thm, .nvm, .net0, .net1, .time, .video, .scan, .lanes, .tile, .lamp, .diag, .red] ⊆ ps₀) (hb₀ : Evolves ps₀ b₀ s) :
    Evolves ps₀ b₀ (State.applyLocal s chs) := by
  simp only [List.cons_subset, List.nil_subset, and_true] at hp₀
  unfold State.applyLocal
  try dsimp only
  repeat' (first
    | focus (simp (maxDischargeDepth := 60) only [↓State.react_evolves, ↓State.setReg_evolves, ↓Evolves.foldl, ↓Evolves.foldl_fst,
        ↓Evolves.ite, ↓Evolves.ite_fst, ↓Evolves.elim_opt, Evolves.refl, Nat.le_add_right, implies_true, List.cons_subset,
        List.nil_subset, and_true, hp₀, hb₀];done)
    | (refine Evolves.foldl _ _ _ (fun u x => ?_) ?_ <;> try dsimp only)
    | (refine Evolves.foldl_fst _ _ _ (fun u x => ?_) ?_ <;> try dsimp only)
    | split)

theorem State.sendSets_evolves {ps₀ : List Part} {b₀ : State} (s : State) (auth : Auth) (seq : Nat) (e : Effect) (chs : List Change)
    (hp₀ : [.sent, .link] ⊆ ps₀) (hb₀ : Evolves ps₀ b₀ s) :
    Evolves ps₀ b₀ (State.sendSets s auth seq e chs) := by
  simp only [List.cons_subset, List.nil_subset, and_true] at hp₀
  unfold State.sendSets
  try dsimp only
  repeat' (first
    | focus (simp (maxDischargeDepth := 60) only [↓State.sendAll_evolves, ↓State.sendTile_evolves, ↓Evolves.foldl,
        ↓Evolves.foldl_fst, ↓Evolves.ite, ↓Evolves.ite_fst, ↓Evolves.elim_opt, Evolves.refl, Nat.le_add_right, implies_true,
        List.cons_subset, List.nil_subset, and_true, hp₀, hb₀];done)
    | (refine Evolves.foldl _ _ _ (fun u x => ?_) ?_ <;> try dsimp only)
    | (refine Evolves.foldl_fst _ _ _ (fun u x => ?_) ?_ <;> try dsimp only)
    | split)

theorem State.sendMap_evolves {ps₀ : List Part} {b₀ : State} (s : State) (gen : Nat) (e : Effect)
    (hp₀ : [.sent, .link] ⊆ ps₀) (hb₀ : Evolves ps₀ b₀ s) :
    Evolves ps₀ b₀ (State.sendMap s gen e) := by
  simp only [List.cons_subset, List.nil_subset, and_true] at hp₀
  unfold State.sendMap
  try dsimp only
  repeat' (first
    | focus (simp (maxDischargeDepth := 60) only [↓State.sendAll_evolves, ↓State.sendTile_evolves, ↓Evolves.foldl,
        ↓Evolves.foldl_fst, ↓Evolves.ite, ↓Evolves.ite_fst, ↓Evolves.elim_opt, Evolves.refl, Nat.le_add_right, implies_true,
        List.cons_subset, List.nil_subset, and_true, hp₀, hb₀];done)
    | (refine Evolves.foldl _ _ _ (fun u x => ?_) ?_ <;> try dsimp only)
    | (refine Evolves.foldl_fst _ _ _ (fun u x => ?_) ?_ <;> try dsimp only)
    | split)

theorem State.noteLate_evolves {ps₀ : List Part} {b₀ : State} (s : State) (auth : Auth) (shadow late : Bool)
    (hp₀ : [.regs] ⊆ ps₀) (hb₀ : Evolves ps₀ b₀ s) :
    Evolves ps₀ b₀ (State.noteLate s auth shadow late) := by
  simp only [List.cons_subset, List.nil_subset, and_true] at hp₀
  unfold State.noteLate
  try dsimp only
  repeat' (first
    | focus (simp (maxDischargeDepth := 60) only [↓State.bump_evolves, ↓State.event_evolves, ↓Evolves.foldl, ↓Evolves.foldl_fst,
        ↓Evolves.ite, ↓Evolves.ite_fst, ↓Evolves.elim_opt, Evolves.refl, Nat.le_add_right, implies_true, List.cons_subset,
        List.nil_subset, and_true, hp₀, hb₀];done)
    | (refine Evolves.foldl _ _ _ (fun u x => ?_) ?_ <;> try dsimp only)
    | (refine Evolves.foldl_fst _ _ _ (fun u x => ?_) ?_ <;> try dsimp only)
    | split)

theorem State.completeCommit_evolves {ps₀ : List Part} {b₀ : State} (s : State) (c : CommitInfo) (e : Effect) (replicated : Bool)
    (hp₀ : [.regs, .fresh, .cycles, .wall, .sent, .gen, .gnt, .txn, .flip, .link, .map, .repl, .faults, .thm, .nvm, .net0, .net1, .time, .video, .scan, .lanes, .tile, .lamp, .diag, .red] ⊆ ps₀) (hb₀ : Evolves ps₀ b₀ s) :
    Evolves ps₀ b₀ (State.completeCommit s c e replicated) := by
  simp only [List.cons_subset, List.nil_subset, and_true] at hp₀
  unfold State.completeCommit
  try dsimp only
  repeat' (first
    | focus (simp (maxDischargeDepth := 60) only [↓State.finishSeq_evolves, ↓State.noteLate_evolves, ↓State.setLastRes_evolves,
        ↓State.sendSets_evolves, ↓State.sendMap_evolves, ↓State.applyChanges_evolves, ↓Evolves.set_fresh, ↓Evolves.set_txn,
        ↓Evolves.foldl, ↓Evolves.foldl_fst, ↓Evolves.ite, ↓Evolves.ite_fst, ↓Evolves.elim_opt, Evolves.refl, Nat.le_add_right,
        implies_true, List.cons_subset, List.nil_subset, and_true, hp₀, hb₀];done)
    | (refine Evolves.foldl _ _ _ (fun u x => ?_) ?_ <;> try dsimp only)
    | (refine Evolves.foldl_fst _ _ _ (fun u x => ?_) ?_ <;> try dsimp only)
    | split)

theorem State.finishCommit_evolves {ps₀ : List Part} {b₀ : State} (s : State) (c : CommitInfo) (replicated : Bool)
    (hp₀ : [.regs, .fresh, .cycles, .wall, .sent, .gen, .gnt, .txn, .cmd, .flip, .link, .map, .repl, .faults, .thm, .nvm, .net0, .net1, .time, .video, .scan, .lanes, .tile, .lamp, .diag, .red] ⊆ ps₀) (hb₀ : Evolves ps₀ b₀ s) :
    Evolves ps₀ b₀ (State.finishCommit s c replicated) := by
  simp only [List.cons_subset, List.nil_subset, and_true] at hp₀
  unfold State.finishCommit
  try dsimp only
  repeat' (first
    | focus (simp (maxDischargeDepth := 60) only [↓State.completeCommit_evolves, ↓State.respond_evolves, ↓State.record_evolves,
        ↓State.await_evolves, ↓Evolves.foldl, ↓Evolves.foldl_fst, ↓Evolves.ite, ↓Evolves.ite_fst, ↓Evolves.elim_opt, Evolves.refl,
        Nat.le_add_right, implies_true, List.cons_subset, List.nil_subset, and_true, hp₀, hb₀];done)
    | (refine Evolves.foldl _ _ _ (fun u x => ?_) ?_ <;> try dsimp only)
    | (refine Evolves.foldl_fst _ _ _ (fun u x => ?_) ?_ <;> try dsimp only)
    | split)

theorem State.launchCommit_evolves {ps₀ : List Part} {b₀ : State} (s : State) (c : CommitInfo)
    (hp₀ : [.regs, .fresh, .cycles, .wall, .sent, .gen, .gnt, .txn, .cmd, .flip, .link, .map, .repl, .faults, .thm, .nvm, .net0, .net1, .time, .video, .scan, .lanes, .tile, .lamp, .diag, .red] ⊆ ps₀) (hb₀ : Evolves ps₀ b₀ s) :
    Evolves ps₀ b₀ (State.launchCommit s c) := by
  simp only [List.cons_subset, List.nil_subset, and_true] at hp₀
  unfold State.launchCommit
  try dsimp only
  repeat' (first
    | focus (simp (maxDischargeDepth := 60) only [↓State.record_evolves, ↓State.setFlag_evolves, ↓State.await_evolves,
        ↓State.finishCommit_evolves, ↓Evolves.foldl, ↓Evolves.foldl_fst, ↓Evolves.ite, ↓Evolves.ite_fst, ↓Evolves.elim_opt,
        Evolves.refl, Nat.le_add_right, implies_true, List.cons_subset, List.nil_subset, and_true, hp₀, hb₀];done)
    | (refine Evolves.foldl _ _ _ (fun u x => ?_) ?_ <;> try dsimp only)
    | (refine Evolves.foldl_fst _ _ _ (fun u x => ?_) ?_ <;> try dsimp only)
    | split)

theorem State.failCommit_evolves {ps₀ : List Part} {b₀ : State} (s : State) (h : Hdr) (t : OpenTxn) (x : Status) (fi : Nat)
    (hp₀ : [.regs, .sent, .gen, .gnt, .txn, .cmd, .link, .repl, .red] ⊆ ps₀) (hb₀ : Evolves ps₀ b₀ s) :
    Evolves ps₀ b₀ (State.failCommit s h t x fi) := by
  simp only [List.cons_subset, List.nil_subset, and_true] at hp₀
  unfold State.failCommit
  try dsimp only
  repeat' (first
    | focus (simp (maxDischargeDepth := 60) only [↓State.respond_evolves, ↓State.event_evolves, ↓State.rollBack_evolves,
        ↓Evolves.foldl, ↓Evolves.foldl_fst, ↓Evolves.ite, ↓Evolves.ite_fst, ↓Evolves.elim_opt, Evolves.refl, Nat.le_add_right,
        implies_true, List.cons_subset, List.nil_subset, and_true, hp₀, hb₀];done)
    | (refine Evolves.foldl _ _ _ (fun u x => ?_) ?_ <;> try dsimp only)
    | (refine Evolves.foldl_fst _ _ _ (fun u x => ?_) ?_ <;> try dsimp only)
    | split)

theorem State.judgeMap_evolves {ps₀ : List Part} {b₀ : State} (s : State) (chs : List Change)
    (hp₀ : [.regs] ⊆ ps₀) (hb₀ : Evolves ps₀ b₀ s) :
    Evolves ps₀ b₀ (State.judgeMap s chs).1 := by
  simp only [List.cons_subset, List.nil_subset, and_true] at hp₀
  unfold State.judgeMap
  try dsimp only
  repeat' (first
    | focus (simp (maxDischargeDepth := 60) only [↓State.setFld_evolves, ↓Evolves.foldl, ↓Evolves.foldl_fst, ↓Evolves.ite,
        ↓Evolves.ite_fst, ↓Evolves.elim_opt, Evolves.refl, Nat.le_add_right, implies_true, List.cons_subset, List.nil_subset,
        and_true, hp₀, hb₀];done)
    | (refine Evolves.foldl _ _ _ (fun u x => ?_) ?_ <;> try dsimp only)
    | (refine Evolves.foldl_fst _ _ _ (fun u x => ?_) ?_ <;> try dsimp only)
    | split)

theorem State.noteMapFail_evolves {ps₀ : List Part} {b₀ : State} (s : State) (chs : List Change)
    (hp₀ : [.regs] ⊆ ps₀) (hb₀ : Evolves ps₀ b₀ s) :
    Evolves ps₀ b₀ (State.noteMapFail s chs) := by
  simp only [List.cons_subset, List.nil_subset, and_true] at hp₀
  unfold State.noteMapFail
  try dsimp only
  repeat' (first
    | focus (simp (maxDischargeDepth := 60) only [↓State.setFld_evolves, ↓State.setFlag_evolves, ↓Evolves.foldl,
        ↓Evolves.foldl_fst, ↓Evolves.ite, ↓Evolves.ite_fst, ↓Evolves.elim_opt, Evolves.refl, Nat.le_add_right, implies_true,
        List.cons_subset, List.nil_subset, and_true, hp₀, hb₀];done)
    | (refine Evolves.foldl _ _ _ (fun u x => ?_) ?_ <;> try dsimp only)
    | (refine Evolves.foldl_fst _ _ _ (fun u x => ?_) ?_ <;> try dsimp only)
    | split)

theorem State.doCommit_evolves {ps₀ : List Part} {b₀ : State} (s : State) (h : Hdr)
    (hp₀ : [.regs, .fresh, .cycles, .wall, .sent, .gen, .gnt, .txn, .cmd, .flip, .link, .map, .repl, .faults, .thm, .nvm, .net0, .net1, .time, .video, .scan, .lanes, .tile, .lamp, .diag, .red] ⊆ ps₀) (hb₀ : Evolves ps₀ b₀ s) :
    Evolves ps₀ b₀ (State.doCommit s h) := by
  simp only [List.cons_subset, List.nil_subset, and_true] at hp₀
  unfold State.doCommit
  try dsimp only
  repeat' (first
    | focus (simp (maxDischargeDepth := 60) only [↓State.respond_evolves, ↓State.refuse_evolves, ↓State.judgeMap_evolves,
        ↓State.failCommit_evolves, ↓State.noteMapFail_evolves, ↓State.launchCommit_evolves, ↓State.setOpen_evolves,
        ↓Evolves.foldl, ↓Evolves.foldl_fst, ↓Evolves.ite, ↓Evolves.ite_fst, ↓Evolves.elim_opt, Evolves.refl, Nat.le_add_right,
        implies_true, List.cons_subset, List.nil_subset, and_true, hp₀, hb₀];done)
    | (refine Evolves.foldl _ _ _ (fun u x => ?_) ?_ <;> try dsimp only)
    | (refine Evolves.foldl_fst _ _ _ (fun u x => ?_) ?_ <;> try dsimp only)
    | split)

theorem State.complete_evolves {ps₀ : List Part} {b₀ : State} (s : State) (replicated : Bool) (w : Completion)
    (hp₀ : [.regs, .fresh, .cycles, .wall, .sent, .gen, .gnt, .txn, .cmd, .flip, .link, .map, .repl, .faults, .thm, .nvm, .net0, .net1, .time, .video, .scan, .lanes, .tile, .lamp, .diag, .red] ⊆ ps₀) (hb₀ : Evolves ps₀ b₀ s) :
    Evolves ps₀ b₀ (State.complete s replicated w) := by
  simp only [List.cons_subset, List.nil_subset, and_true] at hp₀
  cases w <;> unfold State.complete <;> dsimp only <;>
    simp (maxDischargeDepth := 60) only [↓State.finishCommit_evolves, ↓State.respond_evolves, ↓State.sendMsg_evolves,
        ↓Evolves.set_faults, ↓Evolves.foldl, ↓Evolves.foldl_fst, ↓Evolves.ite, ↓Evolves.ite_fst, ↓Evolves.elim_opt, Evolves.refl,
        Nat.le_add_right, implies_true, List.cons_subset, List.nil_subset, and_true, hp₀, hb₀]

theorem State.completeAfter_evolves {ps₀ : List Part} {b₀ : State} (s : State) (i : ReplItem) (w : Completion)
    (hp₀ : [.regs, .fresh, .cycles, .wall, .sent, .gen, .gnt, .txn, .cmd, .flip, .link, .map, .repl, .faults, .thm, .nvm, .net0, .net1, .time, .video, .scan, .lanes, .tile, .lamp, .diag, .red] ⊆ ps₀) (hb₀ : Evolves ps₀ b₀ s) :
    Evolves ps₀ b₀ (State.completeAfter s i w) := by
  simp only [List.cons_subset, List.nil_subset, and_true] at hp₀
  unfold State.completeAfter
  try dsimp only
  repeat' (first
    | focus (simp (maxDischargeDepth := 60) only [↓State.append_evolves, ↓State.await_evolves, ↓State.complete_evolves,
        ↓Evolves.foldl, ↓Evolves.foldl_fst, ↓Evolves.ite, ↓Evolves.ite_fst, ↓Evolves.elim_opt, Evolves.refl, Nat.le_add_right,
        implies_true, List.cons_subset, List.nil_subset, and_true, hp₀, hb₀];done)
    | (refine Evolves.foldl _ _ _ (fun u x => ?_) ?_ <;> try dsimp only)
    | (refine Evolves.foldl_fst _ _ _ (fun u x => ?_) ?_ <;> try dsimp only)
    | split)

end Sys2Proof.Machine
end

