-- ==== Sys2Proof/Laws/EvolveSets.lean ====
section
/-! SUPPORT. What the operations of Machine/Sets.lean keep (Evolves). -/

set_option linter.unusedSimpArgs false
set_option linter.unreachableTactic false
set_option linter.unusedTactic false
set_option linter.unusedVariables false

namespace Sys2Proof.Machine

theorem State.noteSet_evolves {ps₀ : List Part} {b₀ : State} (s : State) (m : SetMsg)
    (hp₀ : [.tile] ⊆ ps₀) (hb₀ : Evolves ps₀ b₀ s) :
    Evolves ps₀ b₀ (State.noteSet s m) := by
  simp only [List.cons_subset, List.nil_subset, and_true] at hp₀
  unfold State.noteSet
  try dsimp only
  repeat' (first
    | focus (simp (maxDischargeDepth := 60) only [↓Evolves.set_tile, ↓Evolves.foldl, ↓Evolves.foldl_fst, ↓Evolves.ite,
        ↓Evolves.ite_fst, ↓Evolves.elim_opt, Evolves.refl, Nat.le_add_right, implies_true, List.cons_subset, List.nil_subset,
        and_true, hp₀, hb₀];done)
    | (refine Evolves.foldl _ _ _ (fun u x => ?_) ?_ <;> try dsimp only)
    | (refine Evolves.foldl_fst _ _ _ (fun u x => ?_) ?_ <;> try dsimp only)
    | split)

theorem State.setRejected_evolves {ps₀ : List Part} {b₀ : State} (s : State) (m : SetMsg) (x : Status) (i : Nat)
    (hp₀ : [.regs, .sent, .link, .repl, .faults, .nvm, .red] ⊆ ps₀) (hb₀ : Evolves ps₀ b₀ s) :
    Evolves ps₀ b₀ (State.setRejected s m x i) := by
  simp only [List.cons_subset, List.nil_subset, and_true] at hp₀
  unfold State.setRejected
  try dsimp only
  repeat' (first
    | focus (simp (maxDischargeDepth := 60) only [↓State.fault_evolves, ↓Evolves.foldl, ↓Evolves.foldl_fst, ↓Evolves.ite,
        ↓Evolves.ite_fst, ↓Evolves.elim_opt, Evolves.refl, Nat.le_add_right, implies_true, List.cons_subset, List.nil_subset,
        and_true, hp₀, hb₀];done)
    | (refine Evolves.foldl _ _ _ (fun u x => ?_) ?_ <;> try dsimp only)
    | (refine Evolves.foldl_fst _ _ _ (fun u x => ?_) ?_ <;> try dsimp only)
    | split)

theorem State.applySets_evolves {ps₀ : List Part} {b₀ : State} (s : State) (ms : List SetMsg)
    (hp₀ : [.regs, .fresh, .cycles, .wall, .sent, .txn, .flip, .link, .map, .repl, .faults, .thm, .nvm, .net0, .net1, .time, .video, .scan, .lanes, .tile, .lamp, .diag, .red] ⊆ ps₀) (hb₀ : Evolves ps₀ b₀ s) :
    Evolves ps₀ b₀ (State.applySets s ms).1 := by
  simp only [List.cons_subset, List.nil_subset, and_true] at hp₀
  unfold State.applySets
  try dsimp only
  repeat' (first
    | focus (simp (maxDischargeDepth := 60) only [↓State.setRejected_evolves, ↓State.applyChanges_evolves, ↓State.noteSet_evolves,
        ↓Evolves.foldl, ↓Evolves.foldl_fst, ↓Evolves.ite, ↓Evolves.ite_fst, ↓Evolves.elim_opt, Evolves.refl, Nat.le_add_right,
        implies_true, List.cons_subset, List.nil_subset, and_true, hp₀, hb₀];done)
    | (refine Evolves.foldl _ _ _ (fun u x => ?_) ?_ <;> try dsimp only)
    | (refine Evolves.foldl_fst _ _ _ (fun u x => ?_) ?_ <;> try dsimp only)
    | split)

theorem State.takeSet_evolves {ps₀ : List Part} {b₀ : State} (s : State) (m : MsgHdr) (b : SetMsg)
    (hp₀ : [.regs, .fresh, .cycles, .wall, .sent, .txn, .flip, .link, .map, .repl, .faults, .thm, .nvm, .net0, .net1, .time, .video, .scan, .lanes, .tile, .lamp, .diag, .red] ⊆ ps₀) (hb₀ : Evolves ps₀ b₀ s) :
    Evolves ps₀ b₀ (State.takeSet s m b).1 := by
  simp only [List.cons_subset, List.nil_subset, and_true] at hp₀
  unfold State.takeSet
  try dsimp only
  repeat' (first
    | focus (simp (maxDischargeDepth := 60) only [↓State.applySets_evolves, ↓State.fault_evolves, ↓State.event_evolves,
        ↓Evolves.set_link, ↓Evolves.foldl, ↓Evolves.foldl_fst, ↓Evolves.ite, ↓Evolves.ite_fst, ↓Evolves.elim_opt, Evolves.refl,
        Nat.le_add_right, implies_true, List.cons_subset, List.nil_subset, and_true, hp₀, hb₀];done)
    | (refine Evolves.foldl _ _ _ (fun u x => ?_) ?_ <;> try dsimp only)
    | (refine Evolves.foldl_fst _ _ _ (fun u x => ?_) ?_ <;> try dsimp only)
    | split)

theorem execSetMsg_evolves (m : MsgHdr) (b : SetMsg) (s : State) :
    ∃ t₁, execSetMsg m b s = .next t₁ ∧ Evolves [.regs, .fresh, .cycles, .wall, .sent, .txn, .flip, .link, .map, .repl, .faults, .thm, .nvm, .net0, .net1, .time, .video, .scan, .lanes, .tile, .lamp, .diag, .red] s t₁ := by
  have hb₀ := Evolves.refl [.regs, .fresh, .cycles, .wall, .sent, .txn, .flip, .link, .map, .repl, .faults, .thm, .nvm, .net0, .net1, .time, .video, .scan, .lanes, .tile, .lamp, .diag, .red] s
  unfold execSetMsg
  refine ⟨_, rfl, ?_⟩
  try dsimp only
  repeat' (first
    | focus (simp (maxDischargeDepth := 60) only [↓State.receive_evolves, ↓State.takeSet_evolves, ↓Evolves.foldl,
        ↓Evolves.foldl_fst, ↓Evolves.ite, ↓Evolves.ite_fst, ↓Evolves.elim_opt, Evolves.refl, Nat.le_add_right, implies_true,
        List.cons_subset, List.nil_subset, and_true, List.mem_cons, reduceCtorEq, true_or, or_true, false_or, or_false, hb₀];done)
    | (refine Evolves.foldl _ _ _ (fun u x => ?_) ?_ <;> try dsimp only)
    | (refine Evolves.foldl_fst _ _ _ (fun u x => ?_) ?_ <;> try dsimp only)
    | split)

theorem State.applyHeld_evolves {ps₀ : List Part} {b₀ : State} (s : State) (g : List HeldSet)
    (hp₀ : [.regs, .fresh, .cycles, .wall, .sent, .txn, .flip, .link, .map, .repl, .faults, .thm, .nvm, .net0, .net1, .time, .video, .scan, .lanes, .tile, .lamp, .diag, .red] ⊆ ps₀) (hb₀ : Evolves ps₀ b₀ s) :
    Evolves ps₀ b₀ (State.applyHeld s g) := by
  simp only [List.cons_subset, List.nil_subset, and_true] at hp₀
  unfold State.applyHeld
  try dsimp only
  repeat' (first
    | focus (simp (maxDischargeDepth := 60) only [↓State.applySets_evolves, ↓State.sendMsg_evolves, ↓Evolves.foldl,
        ↓Evolves.foldl_fst, ↓Evolves.ite, ↓Evolves.ite_fst, ↓Evolves.elim_opt, Evolves.refl, Nat.le_add_right, implies_true,
        List.cons_subset, List.nil_subset, and_true, hp₀, hb₀];done)
    | (refine Evolves.foldl _ _ _ (fun u x => ?_) ?_ <;> try dsimp only)
    | (refine Evolves.foldl_fst _ _ _ (fun u x => ?_) ?_ <;> try dsimp only)
    | split)

theorem State.dueSets_evolves {ps₀ : List Part} {b₀ : State} (s : State) (n : Nat)
    (hp₀ : [.regs, .fresh, .cycles, .wall, .sent, .txn, .flip, .link, .map, .repl, .faults, .thm, .nvm, .net0, .net1, .time, .video, .scan, .lanes, .tile, .lamp, .diag, .red] ⊆ ps₀) (hb₀ : Evolves ps₀ b₀ s) :
    Evolves ps₀ b₀ (State.dueSets s n) := by
  simp only [List.cons_subset, List.nil_subset, and_true] at hp₀
  unfold State.dueSets
  try dsimp only
  repeat' (first
    | focus (simp (maxDischargeDepth := 60) only [↓State.applyHeld_evolves, ↓Evolves.set_link, ↓Evolves.foldl, ↓Evolves.foldl_fst,
        ↓Evolves.ite, ↓Evolves.ite_fst, ↓Evolves.elim_opt, Evolves.refl, Nat.le_add_right, implies_true, List.cons_subset,
        List.nil_subset, and_true, hp₀, hb₀];done)
    | (refine Evolves.foldl _ _ _ (fun u x => ?_) ?_ <;> try dsimp only)
    | (refine Evolves.foldl_fst _ _ _ (fun u x => ?_) ?_ <;> try dsimp only)
    | split)

theorem State.dueCommits_evolves {ps₀ : List Part} {b₀ : State} (s : State) (n : Nat)
    (hp₀ : [.regs, .fresh, .cycles, .wall, .sent, .txn, .flip, .link, .map, .repl, .faults, .thm, .nvm, .net0, .net1, .time, .video, .scan, .lanes, .tile, .lamp, .diag, .red] ⊆ ps₀) (hb₀ : Evolves ps₀ b₀ s) :
    Evolves ps₀ b₀ (State.dueCommits s n) := by
  simp only [List.cons_subset, List.nil_subset, and_true] at hp₀
  unfold State.dueCommits
  try dsimp only
  repeat' (first
    | focus (simp (maxDischargeDepth := 60) only [↓State.applyLocal_evolves, ↓State.applyChanges_evolves, ↓Evolves.set_txn,
        ↓Evolves.foldl, ↓Evolves.foldl_fst, ↓Evolves.ite, ↓Evolves.ite_fst, ↓Evolves.elim_opt, Evolves.refl, Nat.le_add_right,
        implies_true, List.cons_subset, List.nil_subset, and_true, hp₀, hb₀];done)
    | (refine Evolves.foldl _ _ _ (fun u x => ?_) ?_ <;> try dsimp only)
    | (refine Evolves.foldl_fst _ _ _ (fun u x => ?_) ?_ <;> try dsimp only)
    | split)

end Sys2Proof.Machine
end

