-- ==== Sys2Proof/Laws/EvolveSettings.lean ====
section
/-! SUPPORT. What the operations of Machine/Settings.lean keep (Evolves). -/

set_option linter.unusedSimpArgs false
set_option linter.unreachableTactic false
set_option linter.unusedTactic false
set_option linter.unusedVariables false

namespace Sys2Proof.Machine

theorem State.loadPairs_evolves {ps₀ : List Part} {b₀ : State} (s : State) (ps : List (Nat × Word))
    (hp₀ : [.regs] ⊆ ps₀) (hb₀ : Evolves ps₀ b₀ s) :
    Evolves ps₀ b₀ (State.loadPairs s ps) := by
  simp only [List.cons_subset, List.nil_subset, and_true] at hp₀
  unfold State.loadPairs
  try dsimp only
  repeat' (first
    | focus (simp (maxDischargeDepth := 60) only [↓State.setReg_evolves, ↓Evolves.foldl, ↓Evolves.foldl_fst, ↓Evolves.ite,
        ↓Evolves.ite_fst, ↓Evolves.elim_opt, Evolves.refl, Nat.le_add_right, implies_true, List.cons_subset, List.nil_subset,
        and_true, hp₀, hb₀];done)
    | (refine Evolves.foldl _ _ _ (fun u x => ?_) ?_ <;> try dsimp only)
    | (refine Evolves.foldl_fst _ _ _ (fun u x => ?_) ?_ <;> try dsimp only)
    | split)

theorem State.loadMap_evolves {ps₀ : List Part} {b₀ : State} (s : State) (bs : List Byte)
    (hp₀ : [.regs, .map] ⊆ ps₀) (hb₀ : Evolves ps₀ b₀ s) :
    Evolves ps₀ b₀ (State.loadMap s bs) := by
  simp only [List.cons_subset, List.nil_subset, and_true] at hp₀
  unfold State.loadMap
  dsimp only
  refine State.setFld_evolves _ _ _ (by simp [hp₀]) (State.setFld_evolves _ _ _ (by simp [hp₀]) ?_)
  exact Evolves.change (s := s) (h := hb₀) _ (fun p hn => by cases p <;> first | rfl | simp_all) rfl rfl rfl rfl
    (fun hc => ⟨hc.1, hc.2.1, Sparse.wf_putRun _ _ _ _ rfl, Sparse.wf_putRun _ _ _ _ rfl, hc.2.2.2.2⟩)

theorem State.loadSeqs_evolves {ps₀ : List Part} {b₀ : State} (s : State) (bs : List Byte)
    (hp₀ : [.gen, .gnt] ⊆ ps₀) (hb₀ : Evolves ps₀ b₀ s) :
    Evolves ps₀ b₀ (State.loadSeqs s bs) := by
  simp only [List.cons_subset, List.nil_subset, and_true] at hp₀
  unfold State.loadSeqs
  try dsimp only
  repeat' (first
    | focus (simp (maxDischargeDepth := 60) only [↓Evolves.set_gen, ↓Evolves.set_gnt, ↓Evolves.set_gen_gnt, ↓Evolves.foldl,
        ↓Evolves.foldl_fst, ↓Evolves.ite, ↓Evolves.ite_fst, ↓Evolves.elim_opt, Evolves.refl, Nat.le_add_right, implies_true,
        List.cons_subset, List.nil_subset, and_true, hp₀, hb₀];done)
    | (refine Evolves.foldl _ _ _ (fun u x => ?_) ?_ <;> try dsimp only)
    | (refine Evolves.foldl_fst _ _ _ (fun u x => ?_) ?_ <;> try dsimp only)
    | split)

theorem State.loadSection_evolves {ps₀ : List Part} {b₀ : State} (s : State) (x : Nat × List Byte)
    (hp₀ : [.regs, .gen, .gnt, .txn, .map] ⊆ ps₀) (hb₀ : Evolves ps₀ b₀ s) :
    Evolves ps₀ b₀ (State.loadSection s x) := by
  simp only [List.cons_subset, List.nil_subset, and_true] at hp₀
  unfold State.loadSection
  try dsimp only
  repeat' (first
    | focus (simp (maxDischargeDepth := 60) only [↓State.loadPairs_evolves, ↓State.loadMap_evolves, ↓State.loadSeqs_evolves,
        ↓Evolves.set_txn, ↓Evolves.foldl, ↓Evolves.foldl_fst, ↓Evolves.ite, ↓Evolves.ite_fst, ↓Evolves.elim_opt, Evolves.refl,
        Nat.le_add_right, implies_true, List.cons_subset, List.nil_subset, and_true, hp₀, hb₀];done)
    | (refine Evolves.foldl _ _ _ (fun u x => ?_) ?_ <;> try dsimp only)
    | (refine Evolves.foldl_fst _ _ _ (fun u x => ?_) ?_ <;> try dsimp only)
    | split)

end Sys2Proof.Machine
end

