-- ==== Sys2Proof/Laws/EvolveRed.lean ====
section
/-! SUPPORT. What the operations of Machine/Red.lean keep (Evolves). -/

set_option linter.unusedSimpArgs false
set_option linter.unreachableTactic false
set_option linter.unusedTactic false
set_option linter.unusedVariables false

namespace Sys2Proof.Machine

theorem State.setSlot_evolves {ps₀ : List Part} {b₀ : State} (s : State) (k : Nat) (x : Slot)
    (hp₀ : [.red] ⊆ ps₀) (hb₀ : Evolves ps₀ b₀ s) :
    Evolves ps₀ b₀ (State.setSlot s k x) := by
  simp only [List.cons_subset, List.nil_subset, and_true] at hp₀
  unfold State.setSlot
  try dsimp only
  repeat' (first
    | focus (simp (maxDischargeDepth := 60) only [↓Evolves.set_red, ↓Evolves.foldl, ↓Evolves.foldl_fst, ↓Evolves.ite,
        ↓Evolves.ite_fst, ↓Evolves.elim_opt, Evolves.refl, Nat.le_add_right, implies_true, List.cons_subset, List.nil_subset,
        and_true, hp₀, hb₀];done)
    | (refine Evolves.foldl _ _ _ (fun u x => ?_) ?_ <;> try dsimp only)
    | (refine Evolves.foldl_fst _ _ _ (fun u x => ?_) ?_ <;> try dsimp only)
    | split)

theorem State.slotDone_evolves {ps₀ : List Part} {b₀ : State} (s : State) (k : Nat)
    (hp₀ : [.regs, .repl, .red] ⊆ ps₀) (hb₀ : Evolves ps₀ b₀ s) :
    Evolves ps₀ b₀ (State.slotDone s k) := by
  simp only [List.cons_subset, List.nil_subset, and_true] at hp₀
  unfold State.slotDone
  try dsimp only
  repeat' (first
    | focus (simp (maxDischargeDepth := 60) only [↓State.setFld_evolves, ↓State.setSlot_evolves, ↓State.setFlag_evolves,
        ↓State.setBit_evolves, ↓Evolves.set_repl, ↓Evolves.foldl, ↓Evolves.foldl_fst, ↓Evolves.ite, ↓Evolves.ite_fst,
        ↓Evolves.elim_opt, Evolves.refl, Nat.le_add_right, implies_true, List.cons_subset, List.nil_subset, and_true, hp₀,
        hb₀];done)
    | (refine Evolves.foldl _ _ _ (fun u x => ?_) ?_ <;> try dsimp only)
    | (refine Evolves.foldl_fst _ _ _ (fun u x => ?_) ?_ <;> try dsimp only)
    | split)

theorem State.sendHeldFlip_evolves {ps₀ : List Part} {b₀ : State} (s : State) (n : Nat)
    (hp₀ : [.sent, .link] ⊆ ps₀) (hb₀ : Evolves ps₀ b₀ s) :
    Evolves ps₀ b₀ (State.sendHeldFlip s n) := by
  simp only [List.cons_subset, List.nil_subset, and_true] at hp₀
  unfold State.sendHeldFlip
  try dsimp only
  repeat' (first
    | focus (simp (maxDischargeDepth := 60) only [↓State.repeatAll_evolves, ↓State.sendAll_evolves, ↓Evolves.foldl,
        ↓Evolves.foldl_fst, ↓Evolves.ite, ↓Evolves.ite_fst, ↓Evolves.elim_opt, Evolves.refl, Nat.le_add_right, implies_true,
        List.cons_subset, List.nil_subset, and_true, hp₀, hb₀];done)
    | (refine Evolves.foldl _ _ _ (fun u x => ?_) ?_ <;> try dsimp only)
    | (refine Evolves.foldl_fst _ _ _ (fun u x => ?_) ?_ <;> try dsimp only)
    | split)

theorem State.becomeActive_evolves {ps₀ : List Part} {b₀ : State} (s : State)
    (hp₀ : [.regs, .repl, .red] ⊆ ps₀) (hb₀ : Evolves ps₀ b₀ s) :
    Evolves ps₀ b₀ (State.becomeActive s) := by
  simp only [List.cons_subset, List.nil_subset, and_true] at hp₀
  unfold State.becomeActive
  try dsimp only
  repeat' (first
    | focus (simp (maxDischargeDepth := 60) only [↓State.setFld_evolves, ↓State.setMode_evolves, ↓State.setFlag_evolves,
        ↓Evolves.set_repl, ↓Evolves.set_red, ↓Evolves.set_repl_red, ↓Evolves.foldl, ↓Evolves.foldl_fst, ↓Evolves.ite,
        ↓Evolves.ite_fst, ↓Evolves.elim_opt, Evolves.refl, Nat.le_add_right, implies_true, List.cons_subset, List.nil_subset,
        and_true, hp₀, hb₀];done)
    | (refine Evolves.foldl _ _ _ (fun u x => ?_) ?_ <;> try dsimp only)
    | (refine Evolves.foldl_fst _ _ _ (fun u x => ?_) ?_ <;> try dsimp only)
    | split)

theorem State.enterSender_evolves {ps₀ : List Part} {b₀ : State} (s : State)
    (hp₀ : [.regs, .sent, .flip, .link, .repl, .red] ⊆ ps₀) (hb₀ : Evolves ps₀ b₀ s) :
    Evolves ps₀ b₀ (State.enterSender s) := by
  simp only [List.cons_subset, List.nil_subset, and_true] at hp₀
  unfold State.enterSender
  try dsimp only
  repeat' (first
    | focus (simp (maxDischargeDepth := 60) only [↓State.becomeActive_evolves, ↓State.numberChain_evolves,
        ↓State.sendHeldFlip_evolves, ↓Evolves.set_flip, ↓Evolves.set_red, ↓Evolves.set_flip_red, ↓Evolves.foldl,
        ↓Evolves.foldl_fst, ↓Evolves.ite, ↓Evolves.ite_fst, ↓Evolves.elim_opt, Evolves.refl, Nat.le_add_right, implies_true,
        List.cons_subset, List.nil_subset, and_true, hp₀, hb₀];done)
    | (refine Evolves.foldl _ _ _ (fun u x => ?_) ?_ <;> try dsimp only)
    | (refine Evolves.foldl_fst _ _ _ (fun u x => ?_) ?_ <;> try dsimp only)
    | split)

theorem State.handover_evolves {ps₀ : List Part} {b₀ : State} (s : State)
    (hp₀ : [.regs, .sent, .sched, .link, .repl, .faults, .nvm, .scan, .red] ⊆ ps₀) (hb₀ : Evolves ps₀ b₀ s) :
    Evolves ps₀ b₀ (State.handover s) := by
  simp only [List.cons_subset, List.nil_subset, and_true] at hp₀
  unfold State.handover
  try dsimp only
  repeat' (first
    | focus (simp (maxDischargeDepth := 60) only [↓State.setFlag_evolves, ↓State.event_evolves, ↓State.setMode_evolves,
        ↓State.abandonSwap_evolves, ↓Evolves.set_repl, ↓Evolves.set_scan, ↓Evolves.set_red, ↓Evolves.set_repl_red,
        ↓Evolves.set_scan_red, ↓Evolves.set_repl_scan_red, ↓Evolves.foldl, ↓Evolves.foldl_fst, ↓Evolves.ite, ↓Evolves.ite_fst,
        ↓Evolves.elim_opt, Evolves.refl, Nat.le_add_right, implies_true, List.cons_subset, List.nil_subset, and_true, hp₀,
        hb₀];done)
    | (refine Evolves.foldl _ _ _ (fun u x => ?_) ?_ <;> try dsimp only)
    | (refine Evolves.foldl_fst _ _ _ (fun u x => ?_) ?_ <;> try dsimp only)
    | split)

theorem State.senderClaim_evolves {ps₀ : List Part} {b₀ : State} (s : State) (c : Claim)
    (hp₀ : [.regs, .sent, .sched, .link, .repl, .faults, .nvm, .scan, .red] ⊆ ps₀) (hb₀ : Evolves ps₀ b₀ s) :
    Evolves ps₀ b₀ (State.senderClaim s c) := by
  simp only [List.cons_subset, List.nil_subset, and_true] at hp₀
  unfold State.senderClaim
  try dsimp only
  repeat' (first
    | focus (simp (maxDischargeDepth := 60) only [↓State.setFlag_evolves, ↓State.setFld_evolves, ↓State.handover_evolves,
        ↓Evolves.set_red, ↓Evolves.foldl, ↓Evolves.foldl_fst, ↓Evolves.ite, ↓Evolves.ite_fst, ↓Evolves.elim_opt, Evolves.refl,
        Nat.le_add_right, implies_true, List.cons_subset, List.nil_subset, and_true, hp₀, hb₀];done)
    | (refine Evolves.foldl _ _ _ (fun u x => ?_) ?_ <;> try dsimp only)
    | (refine Evolves.foldl_fst _ _ _ (fun u x => ?_) ?_ <;> try dsimp only)
    | split)

theorem State.countHeartbeat_evolves {ps₀ : List Part} {b₀ : State} (s : State) (path : Nat) (h : Heartbeat)
    (hp₀ : [.regs, .sent, .sched, .link, .repl, .faults, .nvm, .scan, .red] ⊆ ps₀) (hb₀ : Evolves ps₀ b₀ s) :
    Evolves ps₀ b₀ (State.countHeartbeat s path h) := by
  simp only [List.cons_subset, List.nil_subset, and_true] at hp₀
  unfold State.countHeartbeat
  try dsimp only
  repeat' (first
    | focus (simp (maxDischargeDepth := 60) only [↓State.setFlag_evolves, ↓State.senderClaim_evolves, ↓Evolves.set_red,
        ↓Evolves.foldl, ↓Evolves.foldl_fst, ↓Evolves.ite, ↓Evolves.ite_fst, ↓Evolves.elim_opt, Evolves.refl, Nat.le_add_right,
        implies_true, List.cons_subset, List.nil_subset, and_true, hp₀, hb₀];done)
    | (refine Evolves.foldl _ _ _ (fun u x => ?_) ?_ <;> try dsimp only)
    | (refine Evolves.foldl_fst _ _ _ (fun u x => ?_) ?_ <;> try dsimp only)
    | split)

theorem State.fromPartner_evolves {ps₀ : List Part} {b₀ : State} (s : State) (d : Dgram) (act : State → State)
    (hp₀ : [.regs] ⊆ ps₀) (ha₀ : ∀ u, Evolves ps₀ u (act u)) (hb₀ : Evolves ps₀ b₀ s) :
    Evolves ps₀ b₀ (State.fromPartner s d act) := by
  simp only [List.cons_subset, List.nil_subset, and_true] at hp₀
  have ha : ∀ b u, Evolves ps₀ b u → Evolves ps₀ b (act u) := fun b u h => h.trans (ha₀ u)
  unfold State.fromPartner
  repeat' (first | focus (simp (maxDischargeDepth := 60) only [↓State.eventCount_evolves, ↓ha, Evolves.refl, List.cons_subset,
      List.nil_subset, and_true, hp₀, hb₀];done) | split)

theorem execHeartbeatDatagram_evolves (d : Dgram) (b : Heartbeat) (s : State) :
    ∃ t₁, execHeartbeatDatagram d b s = .next t₁ ∧ Evolves [.regs, .sent, .sched, .link, .repl, .faults, .nvm, .scan, .red] s t₁ := by
  have hb₀ := Evolves.refl [.regs, .sent, .sched, .link, .repl, .faults, .nvm, .scan, .red] s
  unfold execHeartbeatDatagram
  refine ⟨_, rfl, ?_⟩
  try dsimp only
  repeat' (first
    | focus (simp (maxDischargeDepth := 60) only [↓State.fromPartner_evolves, ↓State.countHeartbeat_evolves, ↓Evolves.foldl,
        ↓Evolves.foldl_fst, ↓Evolves.ite, ↓Evolves.ite_fst, ↓Evolves.elim_opt, Evolves.refl, Nat.le_add_right, implies_true,
        List.cons_subset, List.nil_subset, and_true, List.mem_cons, reduceCtorEq, true_or, or_true, false_or, or_false, hb₀];done)
    | (refine Evolves.foldl _ _ _ (fun u x => ?_) ?_ <;> try dsimp only)
    | (refine Evolves.foldl_fst _ _ _ (fun u x => ?_) ?_ <;> try dsimp only)
    | split)

theorem execHeartbeatSend_evolves (s : State) :
    ∃ t₁, execHeartbeatSend s = .next t₁ ∧ Evolves [.cycles, .wall, .sent, .link, .red] s t₁ := by
  have hb₀ := Evolves.refl [.cycles, .wall, .sent, .link, .red] s
  unfold execHeartbeatSend
  refine ⟨_, rfl, ?_⟩
  try dsimp only
  repeat' (first
    | focus (simp (maxDischargeDepth := 60) only [↓State.untilCycle_evolves, ↓State.sendMsg_evolves, ↓State.sendOn_evolves,
        ↓Evolves.set_red, ↓Evolves.foldl, ↓Evolves.foldl_fst, ↓Evolves.ite, ↓Evolves.ite_fst, ↓Evolves.elim_opt, Evolves.refl,
        Nat.le_add_right, implies_true, List.cons_subset, List.nil_subset, and_true, List.mem_cons, reduceCtorEq, true_or,
        or_true, false_or, or_false, hb₀];done)
    | (refine Evolves.foldl _ _ _ (fun u x => ?_) ?_ <;> try dsimp only)
    | (refine Evolves.foldl_fst _ _ _ (fun u x => ?_) ?_ <;> try dsimp only)
    | split)

theorem execPathSilent_evolves (path : Nat) (s : State) :
    ∃ t₁, execPathSilent path s = .next t₁ ∧ Evolves [.regs, .cycles, .wall, .sent, .sched, .link, .repl, .faults, .nvm, .scan, .red] s t₁ := by
  have hb₀ := Evolves.refl [.regs, .cycles, .wall, .sent, .sched, .link, .repl, .faults, .nvm, .scan, .red] s
  unfold execPathSilent
  refine ⟨_, rfl, ?_⟩
  try dsimp only
  repeat' (first
    | focus (simp (maxDischargeDepth := 60) only [↓State.untilCycle_evolves, ↓State.event_evolves, ↓State.setFlag_evolves,
        ↓State.redFault_evolves, ↓State.abandonSwap_evolves, ↓Evolves.set_red, ↓Evolves.foldl, ↓Evolves.foldl_fst, ↓Evolves.ite,
        ↓Evolves.ite_fst, ↓Evolves.elim_opt, Evolves.refl, Nat.le_add_right, implies_true, List.cons_subset, List.nil_subset,
        and_true, List.mem_cons, reduceCtorEq, true_or, or_true, false_or, or_false, hb₀];done)
    | (refine Evolves.foldl _ _ _ (fun u x => ?_) ?_ <;> try dsimp only)
    | (refine Evolves.foldl_fst _ _ _ (fun u x => ?_) ?_ <;> try dsimp only)
    | split)

theorem State.markResync_evolves {ps₀ : List Part} {b₀ : State} (s : State)
    (hp₀ : [.regs] ⊆ ps₀) (hb₀ : Evolves ps₀ b₀ s) :
    Evolves ps₀ b₀ (State.markResync s) := by
  simp only [List.cons_subset, List.nil_subset, and_true] at hp₀
  unfold State.markResync
  try dsimp only
  repeat' (first
    | focus (simp (maxDischargeDepth := 60) only [↓State.setFlag_evolves, ↓Evolves.foldl, ↓Evolves.foldl_fst, ↓Evolves.ite,
        ↓Evolves.ite_fst, ↓Evolves.elim_opt, Evolves.refl, Nat.le_add_right, implies_true, List.cons_subset, List.nil_subset,
        and_true, hp₀, hb₀];done)
    | (refine Evolves.foldl _ _ _ (fun u x => ?_) ?_ <;> try dsimp only)
    | (refine Evolves.foldl_fst _ _ _ (fun u x => ?_) ?_ <;> try dsimp only)
    | split)

theorem State.startRestore_evolves {ps₀ : List Part} {b₀ : State} (s : State) (takeover : Bool)
    (hp₀ : [.regs, .red] ⊆ ps₀) (hb₀ : Evolves ps₀ b₀ s) :
    Evolves ps₀ b₀ (State.startRestore s takeover) := by
  simp only [List.cons_subset, List.nil_subset, and_true] at hp₀
  unfold State.startRestore
  try dsimp only
  repeat' (first
    | focus (simp (maxDischargeDepth := 60) only [↓State.setFlag_evolves, ↓Evolves.set_red, ↓Evolves.foldl, ↓Evolves.foldl_fst,
        ↓Evolves.ite, ↓Evolves.ite_fst, ↓Evolves.elim_opt, Evolves.refl, Nat.le_add_right, implies_true, List.cons_subset,
        List.nil_subset, and_true, hp₀, hb₀];done)
    | (refine Evolves.foldl _ _ _ (fun u x => ?_) ?_ <;> try dsimp only)
    | (refine Evolves.foldl_fst _ _ _ (fun u x => ?_) ?_ <;> try dsimp only)
    | split)

theorem State.takeover_evolves {ps₀ : List Part} {b₀ : State} (s : State)
    (hp₀ : [.regs, .sent, .flip, .link, .repl, .faults, .nvm, .red] ⊆ ps₀) (hb₀ : Evolves ps₀ b₀ s) :
    Evolves ps₀ b₀ (State.takeover s) := by
  simp only [List.cons_subset, List.nil_subset, and_true] at hp₀
  unfold State.takeover
  try dsimp only
  repeat' (first
    | focus (simp (maxDischargeDepth := 60) only [↓State.enterSender_evolves, ↓State.startRestore_evolves,
        ↓State.redFault_evolves, ↓State.bump_evolves, ↓State.event_evolves, ↓State.markResync_evolves, ↓Evolves.set_red,
        ↓Evolves.foldl, ↓Evolves.foldl_fst, ↓Evolves.ite, ↓Evolves.ite_fst, ↓Evolves.elim_opt, Evolves.refl, Nat.le_add_right,
        implies_true, List.cons_subset, List.nil_subset, and_true, hp₀, hb₀];done)
    | (refine Evolves.foldl _ _ _ (fun u x => ?_) ?_ <;> try dsimp only)
    | (refine Evolves.foldl_fst _ _ _ (fun u x => ?_) ?_ <;> try dsimp only)
    | split)

theorem execPartnerLost_evolves (s : State) :
    ∃ t₁, execPartnerLost s = .next t₁ ∧ Evolves [.regs, .cycles, .wall, .sent, .flip, .sched, .link, .repl, .faults, .nvm, .scan, .red] s t₁ := by
  have hb₀ := Evolves.refl [.regs, .cycles, .wall, .sent, .flip, .sched, .link, .repl, .faults, .nvm, .scan, .red] s
  unfold execPartnerLost
  refine ⟨_, rfl, ?_⟩
  try dsimp only
  repeat' (first
    | focus (simp (maxDischargeDepth := 60) only [↓State.untilCycle_evolves, ↓State.abandonSwap_evolves, ↓State.event_evolves,
        ↓State.takeover_evolves, ↓State.redFault_evolves, ↓Evolves.set_red, ↓Evolves.foldl, ↓Evolves.foldl_fst, ↓Evolves.ite,
        ↓Evolves.ite_fst, ↓Evolves.elim_opt, Evolves.refl, Nat.le_add_right, implies_true, List.cons_subset, List.nil_subset,
        and_true, List.mem_cons, reduceCtorEq, true_or, or_true, false_or, or_false, hb₀];done)
    | (refine Evolves.foldl _ _ _ (fun u x => ?_) ?_ <;> try dsimp only)
    | (refine Evolves.foldl_fst _ _ _ (fun u x => ?_) ?_ <;> try dsimp only)
    | split)

theorem execPreferredClaim_evolves (s : State) :
    ∃ t₁, execPreferredClaim s = .next t₁ ∧ Evolves [.regs, .cycles, .wall, .sent, .flip, .link, .repl, .red] s t₁ := by
  have hb₀ := Evolves.refl [.regs, .cycles, .wall, .sent, .flip, .link, .repl, .red] s
  unfold execPreferredClaim
  refine ⟨_, rfl, ?_⟩
  try dsimp only
  repeat' (first
    | focus (simp (maxDischargeDepth := 60) only [↓State.enterSender_evolves, ↓State.untilCycle_evolves, ↓Evolves.foldl,
        ↓Evolves.foldl_fst, ↓Evolves.ite, ↓Evolves.ite_fst, ↓Evolves.elim_opt, Evolves.refl, Nat.le_add_right, implies_true,
        List.cons_subset, List.nil_subset, and_true, List.mem_cons, reduceCtorEq, true_or, or_true, false_or, or_false, hb₀];done)
    | (refine Evolves.foldl _ _ _ (fun u x => ?_) ?_ <;> try dsimp only)
    | (refine Evolves.foldl_fst _ _ _ (fun u x => ?_) ?_ <;> try dsimp only)
    | split)

theorem State.addAction_evolves {ps₀ : List Part} {b₀ : State} (s : State) (e : SchedEntry)
    (hp₀ : [.sched] ⊆ ps₀) (hb₀ : Evolves ps₀ b₀ s) :
    Evolves ps₀ b₀ (State.addAction s e) := by
  simp only [List.cons_subset, List.nil_subset, and_true] at hp₀
  unfold State.addAction
  try dsimp only
  repeat' (first
    | focus (simp (maxDischargeDepth := 60) only [↓Evolves.set_sched, ↓Evolves.foldl, ↓Evolves.foldl_fst, ↓Evolves.ite,
        ↓Evolves.ite_fst, ↓Evolves.elim_opt, Evolves.refl, Nat.le_add_right, implies_true, List.cons_subset, List.nil_subset,
        and_true, hp₀, hb₀];done)
    | (refine Evolves.foldl _ _ _ (fun u x => ?_) ?_ <;> try dsimp only)
    | (refine Evolves.foldl_fst _ _ _ (fun u x => ?_) ?_ <;> try dsimp only)
    | split)

theorem State.stepCommit_evolves {ps₀ : List Part} {b₀ : State} (s : State) (a : Auth) (q : Nat) (sh : Bool) (sec ns : Nat) (immediate : Bool)
    (hp₀ : [.regs, .fresh, .cycles, .wall, .sent, .txn, .flip, .link, .map, .repl, .faults, .thm, .nvm, .net0, .net1, .time, .video, .scan, .lanes, .tile, .lamp, .diag, .red] ⊆ ps₀) (hb₀ : Evolves ps₀ b₀ s) :
    Evolves ps₀ b₀ (State.stepCommit s a q sh sec ns immediate) := by
  simp only [List.cons_subset, List.nil_subset, and_true] at hp₀
  unfold State.stepCommit
  try dsimp only
  repeat' (first
    | focus (simp (maxDischargeDepth := 60) only [↓State.applyChanges_evolves, ↓Evolves.set_txn, ↓Evolves.foldl,
        ↓Evolves.foldl_fst, ↓Evolves.ite, ↓Evolves.ite_fst, ↓Evolves.elim_opt, Evolves.refl, Nat.le_add_right, implies_true,
        List.cons_subset, List.nil_subset, and_true, hp₀, hb₀];done)
    | (refine Evolves.foldl _ _ _ (fun u x => ?_) ?_ <;> try dsimp only)
    | (refine Evolves.foldl_fst _ _ _ (fun u x => ?_) ?_ <;> try dsimp only)
    | split)

theorem State.takeItem_evolves {ps₀ : List Part} {b₀ : State} (s : State) (i : ReplItem)
    (hp₀ : [.regs, .fresh, .cycles, .wall, .sent, .txn, .flip, .sched, .link, .map, .repl, .faults, .thm, .nvm, .dram, .net0, .net1, .time, .video, .scan, .lanes, .tile, .lamp, .diag, .red] ⊆ ps₀) (hb₀ : Evolves ps₀ b₀ s) :
    Evolves ps₀ b₀ (State.takeItem s i) := by
  simp only [List.cons_subset, List.nil_subset, and_true] at hp₀
  unfold State.takeItem
  try dsimp only
  repeat' (first
    | focus (simp (maxDischargeDepth := 60) only [↓State.stepCommit_evolves, ↓State.writeMem_evolves, ↓State.signalFence_evolves,
        ↓State.addAction_evolves, ↓State.logFault_evolves, ↓State.setFlag_evolves, ↓State.sessionRegs_evolves, ↓Evolves.set_txn,
        ↓Evolves.foldl, ↓Evolves.foldl_fst, ↓Evolves.ite, ↓Evolves.ite_fst, ↓Evolves.set_staging, ↓Evolves.elim_opt, Evolves.refl,
        Nat.le_add_right, implies_true, List.cons_subset, List.nil_subset, and_true, hp₀, hb₀];done)
    | (refine Evolves.foldl _ _ _ (fun u x => ?_) ?_ <;> try dsimp only)
    | (refine Evolves.foldl_fst _ _ _ (fun u x => ?_) ?_ <;> try dsimp only)
    | split)

theorem State.replAck_evolves {ps₀ : List Part} {b₀ : State} (s : State)
    (hp₀ : [.sent, .red] ⊆ ps₀) (hb₀ : Evolves ps₀ b₀ s) :
    Evolves ps₀ b₀ (State.replAck s) := by
  simp only [List.cons_subset, List.nil_subset, and_true] at hp₀
  unfold State.replAck
  try dsimp only
  repeat' (first
    | focus (simp (maxDischargeDepth := 60) only [↓State.sendPartner_evolves, ↓Evolves.foldl, ↓Evolves.foldl_fst, ↓Evolves.ite,
        ↓Evolves.ite_fst, ↓Evolves.elim_opt, Evolves.refl, Nat.le_add_right, implies_true, List.cons_subset, List.nil_subset,
        and_true, hp₀, hb₀];done)
    | (refine Evolves.foldl _ _ _ (fun u x => ?_) ?_ <;> try dsimp only)
    | (refine Evolves.foldl_fst _ _ _ (fun u x => ?_) ?_ <;> try dsimp only)
    | split)

theorem State.takeItems_evolves {ps₀ : List Part} {b₀ : State} (s : State) (pos : Nat) (items : List ReplItem)
    (hp₀ : [.regs, .fresh, .cycles, .wall, .sent, .txn, .flip, .sched, .link, .map, .repl, .faults, .thm, .nvm, .dram, .net0, .net1, .time, .video, .scan, .lanes, .tile, .lamp, .diag, .red] ⊆ ps₀) (hb₀ : Evolves ps₀ b₀ s) :
    Evolves ps₀ b₀ (State.takeItems s pos items) := by
  simp only [List.cons_subset, List.nil_subset, and_true] at hp₀
  unfold State.takeItems
  try dsimp only
  repeat' (first
    | focus (simp (maxDischargeDepth := 60) only [↓State.replAck_evolves, ↓State.takeItem_evolves, ↓Evolves.set_repl,
        ↓Evolves.foldl, ↓Evolves.foldl_fst, ↓Evolves.ite, ↓Evolves.ite_fst, ↓Evolves.elim_opt, Evolves.refl, Nat.le_add_right,
        implies_true, List.cons_subset, List.nil_subset, and_true, hp₀, hb₀];done)
    | (refine Evolves.foldl _ _ _ (fun u x => ?_) ?_ <;> try dsimp only)
    | (refine Evolves.foldl_fst _ _ _ (fun u x => ?_) ?_ <;> try dsimp only)
    | split)

theorem execRepl_evolves (d : Dgram) (pos : Nat) (items : List ReplItem) (s : State) :
    ∃ t₁, execRepl d pos items s = .next t₁ ∧ Evolves [.regs, .fresh, .cycles, .wall, .sent, .txn, .flip, .sched, .link, .map, .repl, .faults, .thm, .nvm, .dram, .net0, .net1, .time, .video, .scan, .lanes, .tile, .lamp, .diag, .red] s t₁ := by
  have hb₀ := Evolves.refl [.regs, .fresh, .cycles, .wall, .sent, .txn, .flip, .sched, .link, .map, .repl, .faults, .thm, .nvm, .dram, .net0, .net1, .time, .video, .scan, .lanes, .tile, .lamp, .diag, .red] s
  unfold execRepl
  refine ⟨_, rfl, ?_⟩
  try dsimp only
  repeat' (first
    | focus (simp (maxDischargeDepth := 60) only [↓State.fromPartner_evolves, ↓State.takeItems_evolves, ↓Evolves.foldl,
        ↓Evolves.foldl_fst, ↓Evolves.ite, ↓Evolves.ite_fst, ↓Evolves.elim_opt, Evolves.refl, Nat.le_add_right, implies_true,
        List.cons_subset, List.nil_subset, and_true, List.mem_cons, reduceCtorEq, true_or, or_true, false_or, or_false, hb₀];done)
    | (refine Evolves.foldl _ _ _ (fun u x => ?_) ?_ <;> try dsimp only)
    | (refine Evolves.foldl_fst _ _ _ (fun u x => ?_) ?_ <;> try dsimp only)
    | split)

theorem State.settle_evolves {ps₀ : List Part} {b₀ : State} (s : State)
    (hp₀ : [.regs, .fresh, .cycles, .wall, .sent, .gen, .gnt, .txn, .cmd, .flip, .link, .map, .repl, .faults, .thm, .nvm, .net0, .net1, .time, .video, .scan, .lanes, .tile, .lamp, .diag, .red] ⊆ ps₀) (hb₀ : Evolves ps₀ b₀ s) :
    Evolves ps₀ b₀ (State.settle s) := by
  simp only [List.cons_subset, List.nil_subset, and_true] at hp₀
  unfold State.settle
  try dsimp only
  repeat' (first
    | focus (simp (maxDischargeDepth := 60) only [↓State.complete_evolves, ↓Evolves.set_repl, ↓Evolves.foldl, ↓Evolves.foldl_fst,
        ↓Evolves.ite, ↓Evolves.ite_fst, ↓Evolves.elim_opt, Evolves.refl, Nat.le_add_right, implies_true, List.cons_subset,
        List.nil_subset, and_true, hp₀, hb₀];done)
    | (refine Evolves.foldl _ _ _ (fun u x => ?_) ?_ <;> try dsimp only)
    | (refine Evolves.foldl_fst _ _ _ (fun u x => ?_) ?_ <;> try dsimp only)
    | split)

theorem State.takeReplAck_evolves {ps₀ : List Part} {b₀ : State} (s : State) (pos : Nat) (ok : Bool)
    (hp₀ : [.regs, .fresh, .cycles, .wall, .sent, .gen, .gnt, .txn, .cmd, .flip, .link, .map, .repl, .faults, .thm, .nvm, .net0, .net1, .time, .video, .scan, .lanes, .tile, .lamp, .diag, .red] ⊆ ps₀) (hb₀ : Evolves ps₀ b₀ s) :
    Evolves ps₀ b₀ (State.takeReplAck s pos ok) := by
  simp only [List.cons_subset, List.nil_subset, and_true] at hp₀
  unfold State.takeReplAck
  try dsimp only
  repeat' (first
    | focus (simp (maxDischargeDepth := 60) only [↓State.settle_evolves, ↓State.setFlag_evolves, ↓State.event_evolves,
        ↓Evolves.set_repl, ↓Evolves.set_red, ↓Evolves.set_repl_red, ↓Evolves.foldl, ↓Evolves.foldl_fst, ↓Evolves.ite,
        ↓Evolves.ite_fst, ↓Evolves.elim_opt, Evolves.refl, Nat.le_add_right, implies_true, List.cons_subset, List.nil_subset,
        and_true, hp₀, hb₀];done)
    | (refine Evolves.foldl _ _ _ (fun u x => ?_) ?_ <;> try dsimp only)
    | (refine Evolves.foldl_fst _ _ _ (fun u x => ?_) ?_ <;> try dsimp only)
    | split)

theorem execReplAck_evolves (d : Dgram) (pos : Nat) (eligible : Bool) (s : State) :
    ∃ t₁, execReplAck d pos eligible s = .next t₁ ∧ Evolves [.regs, .fresh, .cycles, .wall, .sent, .gen, .gnt, .txn, .cmd, .flip, .link, .map, .repl, .faults, .thm, .nvm, .net0, .net1, .time, .video, .scan, .lanes, .tile, .lamp, .diag, .red] s t₁ := by
  have hb₀ := Evolves.refl [.regs, .fresh, .cycles, .wall, .sent, .gen, .gnt, .txn, .cmd, .flip, .link, .map, .repl, .faults, .thm, .nvm, .net0, .net1, .time, .video, .scan, .lanes, .tile, .lamp, .diag, .red] s
  unfold execReplAck
  refine ⟨_, rfl, ?_⟩
  try dsimp only
  repeat' (first
    | focus (simp (maxDischargeDepth := 60) only [↓State.fromPartner_evolves, ↓State.takeReplAck_evolves, ↓Evolves.foldl,
        ↓Evolves.foldl_fst, ↓Evolves.ite, ↓Evolves.ite_fst, ↓Evolves.elim_opt, Evolves.refl, Nat.le_add_right, implies_true,
        List.cons_subset, List.nil_subset, and_true, List.mem_cons, reduceCtorEq, true_or, or_true, false_or, or_false, hb₀];done)
    | (refine Evolves.foldl _ _ _ (fun u x => ?_) ?_ <;> try dsimp only)
    | (refine Evolves.foldl_fst _ _ _ (fun u x => ?_) ?_ <;> try dsimp only)
    | split)

theorem State.resendFrom_evolves {ps₀ : List Part} {b₀ : State} (s : State) (pos : Nat)
    (hp₀ : [.sent, .red] ⊆ ps₀) (hb₀ : Evolves ps₀ b₀ s) :
    Evolves ps₀ b₀ (State.resendFrom s pos) := by
  simp only [List.cons_subset, List.nil_subset, and_true] at hp₀
  unfold State.resendFrom
  try dsimp only
  repeat' (first
    | focus (simp (maxDischargeDepth := 60) only [↓State.sendPartner_evolves, ↓Evolves.foldl, ↓Evolves.foldl_fst, ↓Evolves.ite,
        ↓Evolves.ite_fst, ↓Evolves.elim_opt, Evolves.refl, Nat.le_add_right, implies_true, List.cons_subset, List.nil_subset,
        and_true, hp₀, hb₀];done)
    | (refine Evolves.foldl _ _ _ (fun u x => ?_) ?_ <;> try dsimp only)
    | (refine Evolves.foldl_fst _ _ _ (fun u x => ?_) ?_ <;> try dsimp only)
    | split)

theorem execReplResend_evolves (s : State) :
    ∃ t₁, execReplResend s = .next t₁ ∧ Evolves [.cycles, .wall, .sent, .red] s t₁ := by
  have hb₀ := Evolves.refl [.cycles, .wall, .sent, .red] s
  unfold execReplResend
  refine ⟨_, rfl, ?_⟩
  try dsimp only
  repeat' (first
    | focus (simp (maxDischargeDepth := 60) only [↓State.untilCycle_evolves, ↓State.resendFrom_evolves, ↓Evolves.set_red,
        ↓Evolves.foldl, ↓Evolves.foldl_fst, ↓Evolves.ite, ↓Evolves.ite_fst, ↓Evolves.elim_opt, Evolves.refl, Nat.le_add_right,
        implies_true, List.cons_subset, List.nil_subset, and_true, List.mem_cons, reduceCtorEq, true_or, or_true, false_or,
        or_false, hb₀];done)
    | (refine Evolves.foldl _ _ _ (fun u x => ?_) ?_ <;> try dsimp only)
    | (refine Evolves.foldl_fst _ _ _ (fun u x => ?_) ?_ <;> try dsimp only)
    | split)

theorem execReplTimeout_evolves (s : State) :
    ∃ t₁, execReplTimeout s = .next t₁ ∧ Evolves [.regs, .fresh, .cycles, .wall, .sent, .gen, .gnt, .txn, .cmd, .flip, .link, .map, .repl, .faults, .thm, .nvm, .net0, .net1, .time, .video, .scan, .lanes, .tile, .lamp, .diag, .red] s t₁ := by
  have hb₀ := Evolves.refl [.regs, .fresh, .cycles, .wall, .sent, .gen, .gnt, .txn, .cmd, .flip, .link, .map, .repl, .faults, .thm, .nvm, .net0, .net1, .time, .video, .scan, .lanes, .tile, .lamp, .diag, .red] s
  unfold execReplTimeout
  refine ⟨_, rfl, ?_⟩
  try dsimp only
  repeat' (first
    | focus (simp (maxDischargeDepth := 60) only [↓State.untilCycle_evolves, ↓State.event_evolves, ↓State.complete_evolves,
        ↓State.setFlag_evolves, ↓Evolves.set_repl, ↓Evolves.foldl, ↓Evolves.foldl_fst, ↓Evolves.ite, ↓Evolves.ite_fst,
        ↓Evolves.elim_opt, Evolves.refl, Nat.le_add_right, implies_true, List.cons_subset, List.nil_subset, and_true,
        List.mem_cons, reduceCtorEq, true_or, or_true, false_or, or_false, hb₀];done)
    | (refine Evolves.foldl _ _ _ (fun u x => ?_) ?_ <;> try dsimp only)
    | (refine Evolves.foldl_fst _ _ _ (fun u x => ?_) ?_ <;> try dsimp only)
    | split)

theorem State.takeSnapshot_evolves {ps₀ : List Part} {b₀ : State} (s : State) (n : Nat)
    (hp₀ : [.regs, .red] ⊆ ps₀) (hb₀ : Evolves ps₀ b₀ s) :
    Evolves ps₀ b₀ (State.takeSnapshot s n) := by
  simp only [List.cons_subset, List.nil_subset, and_true] at hp₀
  unfold State.takeSnapshot
  try dsimp only
  repeat' (first
    | focus (simp (maxDischargeDepth := 60) only [↓State.setFlag_evolves, ↓State.setBit_evolves, ↓State.setSlot_evolves,
        ↓Evolves.set_red, ↓Evolves.foldl, ↓Evolves.foldl_fst, ↓Evolves.ite, ↓Evolves.ite_fst, ↓Evolves.elim_opt, Evolves.refl,
        Nat.le_add_right, implies_true, List.cons_subset, List.nil_subset, and_true, hp₀, hb₀];done)
    | (refine Evolves.foldl _ _ _ (fun u x => ?_) ?_ <;> try dsimp only)
    | (refine Evolves.foldl_fst _ _ _ (fun u x => ?_) ?_ <;> try dsimp only)
    | split)

theorem execSnapSend_evolves (s : State) :
    ∃ t₁, execSnapSend s = .next t₁ ∧ Evolves [.cycles, .wall, .sent, .red] s t₁ := by
  have hb₀ := Evolves.refl [.cycles, .wall, .sent, .red] s
  unfold execSnapSend
  refine ⟨_, rfl, ?_⟩
  try dsimp only
  repeat' (first
    | focus (simp (maxDischargeDepth := 60) only [↓State.untilCycle_evolves, ↓State.sendPartner_evolves, ↓Evolves.set_red,
        ↓Evolves.foldl, ↓Evolves.foldl_fst, ↓Evolves.ite, ↓Evolves.ite_fst, ↓Evolves.elim_opt, Evolves.refl, Nat.le_add_right,
        implies_true, List.cons_subset, List.nil_subset, and_true, List.mem_cons, reduceCtorEq, true_or, or_true, false_or,
        or_false, hb₀];done)
    | (refine Evolves.foldl _ _ _ (fun u x => ?_) ?_ <;> try dsimp only)
    | (refine Evolves.foldl_fst _ _ _ (fun u x => ?_) ?_ <;> try dsimp only)
    | split)

theorem State.judgeSlot_evolves {ps₀ : List Part} {b₀ : State} (s : State) (k : Nat)
    (hp₀ : [.regs, .repl, .red] ⊆ ps₀) (hb₀ : Evolves ps₀ b₀ s) :
    Evolves ps₀ b₀ (State.judgeSlot s k) := by
  simp only [List.cons_subset, List.nil_subset, and_true] at hp₀
  unfold State.judgeSlot
  try dsimp only
  repeat' (first
    | focus (simp (maxDischargeDepth := 60) only [↓State.event_evolves, ↓State.slotDone_evolves, ↓State.setSlot_evolves,
        ↓State.setFlag_evolves, ↓Evolves.set_repl, ↓Evolves.set_red, ↓Evolves.set_repl_red, ↓Evolves.foldl, ↓Evolves.foldl_fst,
        ↓Evolves.ite, ↓Evolves.ite_fst, ↓Evolves.elim_opt, Evolves.refl, Nat.le_add_right, implies_true, List.cons_subset,
        List.nil_subset, and_true, hp₀, hb₀];done)
    | (refine Evolves.foldl _ _ _ (fun u x => ?_) ?_ <;> try dsimp only)
    | (refine Evolves.foldl_fst _ _ _ (fun u x => ?_) ?_ <;> try dsimp only)
    | split)

theorem State.takeSnap_evolves {ps₀ : List Part} {b₀ : State} (s : State) (k offset : Nat) (data : List Byte)
    (hp₀ : [.regs, .sent, .repl, .red] ⊆ ps₀) (hb₀ : Evolves ps₀ b₀ s) :
    Evolves ps₀ b₀ (State.takeSnap s k offset data) := by
  simp only [List.cons_subset, List.nil_subset, and_true] at hp₀
  unfold State.takeSnap
  try dsimp only
  repeat' (first
    | focus (simp (maxDischargeDepth := 60) only [↓State.setFlag_evolves, ↓State.setBit_evolves, ↓State.setSlot_evolves,
        ↓State.judgeSlot_evolves, ↓State.sendPartner_evolves, ↓Evolves.foldl, ↓Evolves.foldl_fst, ↓Evolves.ite, ↓Evolves.ite_fst,
        ↓Evolves.elim_opt, Evolves.refl, Nat.le_add_right, implies_true, List.cons_subset, List.nil_subset, and_true, hp₀,
        hb₀];done)
    | (refine Evolves.foldl _ _ _ (fun u x => ?_) ?_ <;> try dsimp only)
    | (refine Evolves.foldl_fst _ _ _ (fun u x => ?_) ?_ <;> try dsimp only)
    | split)

theorem execSnapData_evolves (d : Dgram) (slot offset : Nat) (data : List Byte) (s : State) :
    ∃ t₁, execSnapData d slot offset data s = .next t₁ ∧ Evolves [.regs, .sent, .repl, .red] s t₁ := by
  have hb₀ := Evolves.refl [.regs, .sent, .repl, .red] s
  unfold execSnapData
  refine ⟨_, rfl, ?_⟩
  try dsimp only
  repeat' (first
    | focus (simp (maxDischargeDepth := 60) only [↓State.fromPartner_evolves, ↓State.takeSnap_evolves, ↓Evolves.foldl,
        ↓Evolves.foldl_fst, ↓Evolves.ite, ↓Evolves.ite_fst, ↓Evolves.elim_opt, Evolves.refl, Nat.le_add_right, implies_true,
        List.cons_subset, List.nil_subset, and_true, List.mem_cons, reduceCtorEq, true_or, or_true, false_or, or_false, hb₀];done)
    | (refine Evolves.foldl _ _ _ (fun u x => ?_) ?_ <;> try dsimp only)
    | (refine Evolves.foldl_fst _ _ _ (fun u x => ?_) ?_ <;> try dsimp only)
    | split)

theorem State.takeSnapAck_evolves {ps₀ : List Part} {b₀ : State} (s : State) (k offset : Nat)
    (hp₀ : [.regs, .sent, .repl, .red] ⊆ ps₀) (hb₀ : Evolves ps₀ b₀ s) :
    Evolves ps₀ b₀ (State.takeSnapAck s k offset) := by
  simp only [List.cons_subset, List.nil_subset, and_true] at hp₀
  unfold State.takeSnapAck
  try dsimp only
  repeat' (first
    | focus (simp (maxDischargeDepth := 60) only [↓State.slotDone_evolves, ↓State.sendPartner_evolves, ↓State.resendFrom_evolves,
        ↓Evolves.set_repl, ↓Evolves.set_red, ↓Evolves.set_repl_red, ↓Evolves.foldl, ↓Evolves.foldl_fst, ↓Evolves.ite,
        ↓Evolves.ite_fst, ↓Evolves.elim_opt, Evolves.refl, Nat.le_add_right, implies_true, List.cons_subset, List.nil_subset,
        and_true, hp₀, hb₀];done)
    | (refine Evolves.foldl _ _ _ (fun u x => ?_) ?_ <;> try dsimp only)
    | (refine Evolves.foldl_fst _ _ _ (fun u x => ?_) ?_ <;> try dsimp only)
    | split)

theorem execSnapAck_evolves (d : Dgram) (slot offset : Nat) (s : State) :
    ∃ t₁, execSnapAck d slot offset s = .next t₁ ∧ Evolves [.regs, .sent, .repl, .red] s t₁ := by
  have hb₀ := Evolves.refl [.regs, .sent, .repl, .red] s
  unfold execSnapAck
  refine ⟨_, rfl, ?_⟩
  try dsimp only
  repeat' (first
    | focus (simp (maxDischargeDepth := 60) only [↓State.fromPartner_evolves, ↓State.takeSnapAck_evolves, ↓Evolves.foldl,
        ↓Evolves.foldl_fst, ↓Evolves.ite, ↓Evolves.ite_fst, ↓Evolves.elim_opt, Evolves.refl, Nat.le_add_right, implies_true,
        List.cons_subset, List.nil_subset, and_true, List.mem_cons, reduceCtorEq, true_or, or_true, false_or, or_false, hb₀];done)
    | (refine Evolves.foldl _ _ _ (fun u x => ?_) ?_ <;> try dsimp only)
    | (refine Evolves.foldl_fst _ _ _ (fun u x => ?_) ?_ <;> try dsimp only)
    | split)

theorem State.replayCommit_evolves {ps₀ : List Part} {b₀ : State} (s : State) (js : List JournalRec) (a : Auth) (q : Nat) (sh : Bool) (sec ns : Nat) (late im : Bool) (after : Nat)
    (hp₀ : [.regs, .fresh, .cycles, .wall, .sent, .gen, .gnt, .txn, .flip, .link, .map, .repl, .faults, .thm, .nvm, .net0, .net1, .time, .video, .scan, .lanes, .tile, .lamp, .diag, .red] ⊆ ps₀) (hb₀ : Evolves ps₀ b₀ s) :
    Evolves ps₀ b₀ (State.replayCommit s js a q sh sec ns late im after) := by
  simp only [List.cons_subset, List.nil_subset, and_true] at hp₀
  unfold State.replayCommit
  try dsimp only
  repeat' (first
    | focus (simp (maxDischargeDepth := 60) only [↓State.finishSeq_evolves, ↓State.applyChanges_evolves, ↓Evolves.set_txn,
        ↓Evolves.foldl, ↓Evolves.foldl_fst, ↓Evolves.ite, ↓Evolves.ite_fst, ↓Evolves.elim_opt, Evolves.refl, Nat.le_add_right,
        implies_true, List.cons_subset, List.nil_subset, and_true, hp₀, hb₀];done)
    | (refine Evolves.foldl _ _ _ (fun u x => ?_) ?_ <;> try dsimp only)
    | (refine Evolves.foldl_fst _ _ _ (fun u x => ?_) ?_ <;> try dsimp only)
    | split)

theorem State.replayItem_evolves {ps₀ : List Part} {b₀ : State} (s : State) (js : List JournalRec) (after : Nat) (i : Nat × ReplItem)
    (hp₀ : [.regs, .fresh, .cycles, .wall, .sent, .gen, .gnt, .txn, .flip, .link, .map, .repl, .faults, .thm, .nvm, .net0, .net1, .time, .video, .scan, .lanes, .tile, .lamp, .diag, .red] ⊆ ps₀) (hb₀ : Evolves ps₀ b₀ s) :
    Evolves ps₀ b₀ (State.replayItem s js after i) := by
  simp only [List.cons_subset, List.nil_subset, and_true] at hp₀
  unfold State.replayItem
  try dsimp only
  repeat' (first
    | focus (simp (maxDischargeDepth := 60) only [↓State.replayCommit_evolves, ↓State.finishSeq_evolves, ↓Evolves.foldl,
        ↓Evolves.foldl_fst, ↓Evolves.ite, ↓Evolves.ite_fst, ↓Evolves.set_staging, ↓Evolves.elim_opt, Evolves.refl,
        Nat.le_add_right, implies_true, List.cons_subset, List.nil_subset, and_true, hp₀, hb₀];done)
    | (refine Evolves.foldl _ _ _ (fun u x => ?_) ?_ <;> try dsimp only)
    | (refine Evolves.foldl_fst _ _ _ (fun u x => ?_) ?_ <;> try dsimp only)
    | split)

theorem State.restoreNow_evolves {ps₀ : List Part} {b₀ : State} (s : State)
    (hp₀ : [.regs, .fresh, .cycles, .wall, .sent, .gen, .gnt, .txn, .flip, .link, .map, .repl, .faults, .thm, .nvm, .net0, .net1, .time, .video, .scan, .lanes, .tile, .lamp, .diag, .red] ⊆ ps₀) (hb₀ : Evolves ps₀ b₀ s) :
    Evolves ps₀ b₀ (State.restoreNow s) := by
  simp only [List.cons_subset, List.nil_subset, and_true] at hp₀
  unfold State.restoreNow
  try dsimp only
  repeat' (first
    | focus (simp (maxDischargeDepth := 60) only [↓State.loadSection_evolves, ↓State.react_evolves, ↓State.replayItem_evolves,
        ↓Evolves.set_txn, ↓Evolves.foldl, ↓Evolves.foldl_fst, ↓Evolves.ite, ↓Evolves.ite_fst, ↓Evolves.elim_opt, Evolves.refl,
        Nat.le_add_right, implies_true, List.cons_subset, List.nil_subset, and_true, hp₀, hb₀];done)
    | (refine Evolves.foldl _ _ _ (fun u x => ?_) ?_ <;> try dsimp only)
    | (refine Evolves.foldl_fst _ _ _ (fun u x => ?_) ?_ <;> try dsimp only)
    | split)

theorem State.sendCmdAll_evolves {ps₀ : List Part} {b₀ : State} (s : State) (bs : List Byte)
    (hp₀ : [.sent, .link] ⊆ ps₀) (hb₀ : Evolves ps₀ b₀ s) :
    Evolves ps₀ b₀ (State.sendCmdAll s bs) := by
  simp only [List.cons_subset, List.nil_subset, and_true] at hp₀
  unfold State.sendCmdAll
  try dsimp only
  repeat' (first
    | focus (simp (maxDischargeDepth := 60) only [↓State.sendAll_evolves, ↓Evolves.foldl, ↓Evolves.foldl_fst, ↓Evolves.ite,
        ↓Evolves.ite_fst, ↓Evolves.elim_opt, Evolves.refl, Nat.le_add_right, implies_true, List.cons_subset, List.nil_subset,
        and_true, hp₀, hb₀];done)
    | (refine Evolves.foldl _ _ _ (fun u x => ?_) ?_ <;> try dsimp only)
    | (refine Evolves.foldl_fst _ _ _ (fun u x => ?_) ?_ <;> try dsimp only)
    | split)

theorem State.sendAction_evolves {ps₀ : List Part} {b₀ : State} (s : State) (e : SchedEntry)
    (hp₀ : [.sent, .link] ⊆ ps₀) (hb₀ : Evolves ps₀ b₀ s) :
    Evolves ps₀ b₀ (State.sendAction s e) := by
  simp only [List.cons_subset, List.nil_subset, and_true] at hp₀
  unfold State.sendAction
  try dsimp only
  repeat' (first
    | focus (simp (maxDischargeDepth := 60) only [↓State.sendAll_evolves, ↓State.sendCmdAll_evolves, ↓Evolves.foldl,
        ↓Evolves.foldl_fst, ↓Evolves.ite, ↓Evolves.ite_fst, ↓Evolves.elim_opt, Evolves.refl, Nat.le_add_right, implies_true,
        List.cons_subset, List.nil_subset, and_true, hp₀, hb₀];done)
    | (refine Evolves.foldl _ _ _ (fun u x => ?_) ?_ <;> try dsimp only)
    | (refine Evolves.foldl_fst _ _ _ (fun u x => ?_) ?_ <;> try dsimp only)
    | split)

theorem State.resyncTiles_evolves {ps₀ : List Part} {b₀ : State} (s : State)
    (hp₀ : [.regs, .sent, .link] ⊆ ps₀) (hb₀ : Evolves ps₀ b₀ s) :
    Evolves ps₀ b₀ (State.resyncTiles s) := by
  simp only [List.cons_subset, List.nil_subset, and_true] at hp₀
  unfold State.resyncTiles
  try dsimp only
  repeat' (first
    | focus (simp (maxDischargeDepth := 60) only [↓State.resync_evolves, ↓State.sendAction_evolves, ↓Evolves.foldl,
        ↓Evolves.foldl_fst, ↓Evolves.ite, ↓Evolves.ite_fst, ↓Evolves.elim_opt, Evolves.refl, Nat.le_add_right, implies_true,
        List.cons_subset, List.nil_subset, and_true, hp₀, hb₀];done)
    | (refine Evolves.foldl _ _ _ (fun u x => ?_) ?_ <;> try dsimp only)
    | (refine Evolves.foldl_fst _ _ _ (fun u x => ?_) ?_ <;> try dsimp only)
    | split)

theorem execRestoreDone_evolves (s : State) :
    ∃ t₁, execRestoreDone s = .next t₁ ∧ Evolves [.regs, .fresh, .cycles, .wall, .sent, .gen, .gnt, .txn, .flip, .link, .map, .repl, .faults, .thm, .nvm, .net0, .net1, .time, .video, .scan, .lanes, .tile, .lamp, .diag, .red] s t₁ := by
  have hb₀ := Evolves.refl [.regs, .fresh, .cycles, .wall, .sent, .gen, .gnt, .txn, .flip, .link, .map, .repl, .faults, .thm, .nvm, .net0, .net1, .time, .video, .scan, .lanes, .tile, .lamp, .diag, .red] s
  unfold execRestoreDone
  refine ⟨_, rfl, ?_⟩
  try dsimp only
  repeat' (first
    | focus (simp (maxDischargeDepth := 60) only [↓State.restoreNow_evolves, ↓State.setFld_evolves, ↓State.setFlag_evolves,
        ↓State.event_evolves, ↓State.resyncTiles_evolves, ↓Evolves.set_red, ↓Evolves.foldl, ↓Evolves.foldl_fst, ↓Evolves.ite,
        ↓Evolves.ite_fst, ↓Evolves.elim_opt, Evolves.refl, Nat.le_add_right, implies_true, List.cons_subset, List.nil_subset,
        and_true, List.mem_cons, reduceCtorEq, true_or, or_true, false_or, or_false, hb₀];done)
    | (refine Evolves.foldl _ _ _ (fun u x => ?_) ?_ <;> try dsimp only)
    | (refine Evolves.foldl_fst _ _ _ (fun u x => ?_) ?_ <;> try dsimp only)
    | split)

theorem execVfcheck_evolves (d : Dgram) (b : VfBody) (s : State) :
    ∃ t₁, execVfcheck d b s = .next t₁ ∧ Evolves [.regs, .sent, .sched, .link, .repl, .faults, .nvm, .scan, .red] s t₁ := by
  refine ⟨_, rfl, State.fromPartner_evolves _ _ _ (by simp) (fun t => ?_) (Evolves.refl _ _)⟩
  split
  · exact Evolves.refl _ _
  · have h1 : Evolves [.regs, .sent, .sched, .link, .repl, .faults, .nvm, .scan, .red] t (if t.flag F.RED_STAT_CHAIN_ALIVE then t else t.gntCompare b.view b.rcheck) :=
      Evolves.ite (Evolves.refl _ _) (State.gntCompare_evolves _ _ _ (by simp) (Evolves.refl _ _))
    dsimp only
    generalize (if t.flag F.RED_STAT_CHAIN_ALIVE then t else t.gntCompare b.view b.rcheck) = t1 at *
    split
    · exact State.pairVf_evolves _ (by simp) (Evolves.set_red _ (by simp) h1)
    · exact h1

theorem State.startSwap_evolves {ps₀ : List Part} {b₀ : State} (s : State)
    (hp₀ : [.regs, .sent, .red] ⊆ ps₀) (hb₀ : Evolves ps₀ b₀ s) :
    Evolves ps₀ b₀ (State.startSwap s) := by
  simp only [List.cons_subset, List.nil_subset, and_true] at hp₀
  unfold State.startSwap
  try dsimp only
  repeat' (first
    | focus (simp (maxDischargeDepth := 60) only [↓State.setFld_evolves, ↓State.sendPartner_evolves, ↓Evolves.set_red,
        ↓Evolves.foldl, ↓Evolves.foldl_fst, ↓Evolves.ite, ↓Evolves.ite_fst, ↓Evolves.elim_opt, Evolves.refl, Nat.le_add_right,
        implies_true, List.cons_subset, List.nil_subset, and_true, hp₀, hb₀];done)
    | (refine Evolves.foldl _ _ _ (fun u x => ?_) ?_ <;> try dsimp only)
    | (refine Evolves.foldl_fst _ _ _ (fun u x => ?_) ?_ <;> try dsimp only)
    | split)

theorem execSwapPeriod_evolves (s : State) :
    ∃ t₁, execSwapPeriod s = .next t₁ ∧ Evolves [.regs, .cycles, .wall, .sent, .red] s t₁ := by
  have hb₀ := Evolves.refl [.regs, .cycles, .wall, .sent, .red] s
  unfold execSwapPeriod
  refine ⟨_, rfl, ?_⟩
  try dsimp only
  repeat' (first
    | focus (simp (maxDischargeDepth := 60) only [↓State.startSwap_evolves, ↓State.untilCycle_evolves, ↓Evolves.foldl,
        ↓Evolves.foldl_fst, ↓Evolves.ite, ↓Evolves.ite_fst, ↓Evolves.elim_opt, Evolves.refl, Nat.le_add_right, implies_true,
        List.cons_subset, List.nil_subset, and_true, List.mem_cons, reduceCtorEq, true_or, or_true, false_or, or_false, hb₀];done)
    | (refine Evolves.foldl _ _ _ (fun u x => ?_) ?_ <;> try dsimp only)
    | (refine Evolves.foldl_fst _ _ _ (fun u x => ?_) ?_ <;> try dsimp only)
    | split)

theorem State.swapRequest_evolves {ps₀ : List Part} {b₀ : State} (s : State)
    (hp₀ : [.regs, .sent, .red] ⊆ ps₀) (hb₀ : Evolves ps₀ b₀ s) :
    Evolves ps₀ b₀ (State.swapRequest s) := by
  simp only [List.cons_subset, List.nil_subset, and_true] at hp₀
  unfold State.swapRequest
  try dsimp only
  repeat' (first
    | focus (simp (maxDischargeDepth := 60) only [↓State.bump_evolves, ↓State.setFld_evolves, ↓State.sendPartner_evolves,
        ↓State.startRestore_evolves, ↓State.setFlag_evolves, ↓Evolves.set_red, ↓Evolves.foldl, ↓Evolves.foldl_fst, ↓Evolves.ite,
        ↓Evolves.ite_fst, ↓Evolves.elim_opt, Evolves.refl, Nat.le_add_right, implies_true, List.cons_subset, List.nil_subset,
        and_true, hp₀, hb₀];done)
    | (refine Evolves.foldl _ _ _ (fun u x => ?_) ?_ <;> try dsimp only)
    | (refine Evolves.foldl_fst _ _ _ (fun u x => ?_) ?_ <;> try dsimp only)
    | split)

theorem State.swapCommit_evolves {ps₀ : List Part} {b₀ : State} (s : State) (n : Nat)
    (hp₀ : [.regs, .sent, .sched, .repl, .red] ⊆ ps₀) (hb₀ : Evolves ps₀ b₀ s) :
    Evolves ps₀ b₀ (State.swapCommit s n) := by
  simp only [List.cons_subset, List.nil_subset, and_true] at hp₀
  unfold State.swapCommit
  try dsimp only
  repeat' (first
    | focus (simp (maxDischargeDepth := 60) only [↓State.setFld_evolves, ↓State.append_evolves, ↓State.addAction_evolves,
        ↓State.sendPartner_evolves, ↓Evolves.foldl, ↓Evolves.foldl_fst, ↓Evolves.ite, ↓Evolves.ite_fst, ↓Evolves.elim_opt,
        Evolves.refl, Nat.le_add_right, implies_true, List.cons_subset, List.nil_subset, and_true, hp₀, hb₀];done)
    | (refine Evolves.foldl _ _ _ (fun u x => ?_) ?_ <;> try dsimp only)
    | (refine Evolves.foldl_fst _ _ _ (fun u x => ?_) ?_ <;> try dsimp only)
    | split)

theorem State.swapAgreed_evolves {ps₀ : List Part} {b₀ : State} (s : State) (n : Nat)
    (hp₀ : [.regs, .sched] ⊆ ps₀) (hb₀ : Evolves ps₀ b₀ s) :
    Evolves ps₀ b₀ (State.swapAgreed s n) := by
  simp only [List.cons_subset, List.nil_subset, and_true] at hp₀
  unfold State.swapAgreed
  try dsimp only
  repeat' (first
    | focus (simp (maxDischargeDepth := 60) only [↓State.setFld_evolves, ↓State.addAction_evolves, ↓Evolves.foldl,
        ↓Evolves.foldl_fst, ↓Evolves.ite, ↓Evolves.ite_fst, ↓Evolves.elim_opt, Evolves.refl, Nat.le_add_right, implies_true,
        List.cons_subset, List.nil_subset, and_true, hp₀, hb₀];done)
    | (refine Evolves.foldl _ _ _ (fun u x => ?_) ?_ <;> try dsimp only)
    | (refine Evolves.foldl_fst _ _ _ (fun u x => ?_) ?_ <;> try dsimp only)
    | split)

theorem State.swapAborted_evolves {ps₀ : List Part} {b₀ : State} (s : State) (reason : Nat)
    (hp₀ : [.regs, .sent, .sched, .link, .repl, .faults, .nvm, .scan, .red] ⊆ ps₀) (hb₀ : Evolves ps₀ b₀ s) :
    Evolves ps₀ b₀ (State.swapAborted s reason) := by
  simp only [List.cons_subset, List.nil_subset, and_true] at hp₀
  unfold State.swapAborted
  try dsimp only
  repeat' (first
    | focus (simp (maxDischargeDepth := 60) only [↓State.bump_evolves, ↓State.setFld_evolves, ↓State.abandonSwap_evolves,
        ↓Evolves.foldl, ↓Evolves.foldl_fst, ↓Evolves.ite, ↓Evolves.ite_fst, ↓Evolves.elim_opt, Evolves.refl, Nat.le_add_right,
        implies_true, List.cons_subset, List.nil_subset, and_true, hp₀, hb₀];done)
    | (refine Evolves.foldl _ _ _ (fun u x => ?_) ?_ <;> try dsimp only)
    | (refine Evolves.foldl_fst _ _ _ (fun u x => ?_) ?_ <;> try dsimp only)
    | split)

theorem execSwapDatagram_evolves (d : Dgram) (op flip reason : Nat) (s : State) :
    ∃ t₁, execSwapDatagram d op flip reason s = .next t₁ ∧ Evolves [.regs, .sent, .sched, .link, .repl, .faults, .nvm, .scan, .red] s t₁ := by
  have hb₀ := Evolves.refl [.regs, .sent, .sched, .link, .repl, .faults, .nvm, .scan, .red] s
  unfold execSwapDatagram
  refine ⟨_, rfl, ?_⟩
  try dsimp only
  repeat' (first
    | focus (simp (maxDischargeDepth := 60) only [↓State.fromPartner_evolves, ↓State.swapRequest_evolves,
        ↓State.swapCommit_evolves, ↓State.swapAgreed_evolves, ↓State.swapAborted_evolves, ↓Evolves.foldl, ↓Evolves.foldl_fst,
        ↓Evolves.ite, ↓Evolves.ite_fst, ↓Evolves.elim_opt, Evolves.refl, Nat.le_add_right, implies_true, List.cons_subset,
        List.nil_subset, and_true, List.mem_cons, reduceCtorEq, true_or, or_true, false_or, or_false, hb₀];done)
    | (refine Evolves.foldl _ _ _ (fun u x => ?_) ?_ <;> try dsimp only)
    | (refine Evolves.foldl_fst _ _ _ (fun u x => ?_) ?_ <;> try dsimp only)
    | split)

theorem execSwapCommitTimeout_evolves (s : State) :
    ∃ t₁, execSwapCommitTimeout s = .next t₁ ∧ Evolves [.regs, .cycles, .wall, .sent, .sched, .link, .repl, .faults, .nvm, .scan, .red] s t₁ := by
  have hb₀ := Evolves.refl [.regs, .cycles, .wall, .sent, .sched, .link, .repl, .faults, .nvm, .scan, .red] s
  unfold execSwapCommitTimeout
  refine ⟨_, rfl, ?_⟩
  try dsimp only
  repeat' (first
    | focus (simp (maxDischargeDepth := 60) only [↓State.abandonSwap_evolves, ↓State.untilWall_evolves, ↓Evolves.foldl,
        ↓Evolves.foldl_fst, ↓Evolves.ite, ↓Evolves.ite_fst, ↓Evolves.elim_opt, Evolves.refl, Nat.le_add_right, implies_true,
        List.cons_subset, List.nil_subset, and_true, List.mem_cons, reduceCtorEq, true_or, or_true, false_or, or_false, hb₀];done)
    | (refine Evolves.foldl _ _ _ (fun u x => ?_) ?_ <;> try dsimp only)
    | (refine Evolves.foldl_fst _ _ _ (fun u x => ?_) ?_ <;> try dsimp only)
    | split)

theorem State.swapEnds_evolves {ps₀ : List Part} {b₀ : State} (s : State)
    (hp₀ : [.regs, .sched, .red] ⊆ ps₀) (hb₀ : Evolves ps₀ b₀ s) :
    Evolves ps₀ b₀ (State.swapEnds s) := by
  simp only [List.cons_subset, List.nil_subset, and_true] at hp₀
  unfold State.swapEnds
  try dsimp only
  repeat' (first
    | focus (simp (maxDischargeDepth := 60) only [↓State.setFlag_evolves, ↓State.setFld_evolves, ↓State.bump_evolves,
        ↓State.event_evolves, ↓Evolves.set_sched, ↓Evolves.set_red, ↓Evolves.set_sched_red, ↓Evolves.foldl, ↓Evolves.foldl_fst,
        ↓Evolves.ite, ↓Evolves.ite_fst, ↓Evolves.elim_opt, Evolves.refl, Nat.le_add_right, implies_true, List.cons_subset,
        List.nil_subset, and_true, hp₀, hb₀];done)
    | (refine Evolves.foldl _ _ _ (fun u x => ?_) ?_ <;> try dsimp only)
    | (refine Evolves.foldl_fst _ _ _ (fun u x => ?_) ?_ <;> try dsimp only)
    | split)

theorem State.swapAtFlip_evolves {ps₀ : List Part} {b₀ : State} (s : State) (n : Nat)
    (hp₀ : [.regs, .fresh, .sent, .txn, .sched, .link, .repl, .faults, .nvm, .dram, .video, .scan, .red] ⊆ ps₀) (hb₀ : Evolves ps₀ b₀ s) :
    Evolves ps₀ b₀ (State.swapAtFlip s n) := by
  simp only [List.cons_subset, List.nil_subset, and_true] at hp₀
  unfold State.swapAtFlip
  try dsimp only
  repeat' (first
    | focus (simp (maxDischargeDepth := 60) only [↓State.setFlag_evolves, ↓State.swapEnds_evolves, ↓State.becomeActive_evolves,
        ↓State.senderLatch_evolves, ↓State.setMode_evolves, ↓Evolves.set_repl, ↓Evolves.set_scan, ↓Evolves.set_red,
        ↓Evolves.set_repl_red, ↓Evolves.set_scan_red, ↓Evolves.set_repl_scan_red, ↓Evolves.foldl, ↓Evolves.foldl_fst,
        ↓Evolves.ite, ↓Evolves.ite_fst, ↓Evolves.elim_opt, Evolves.refl, Nat.le_add_right, implies_true, List.cons_subset,
        List.nil_subset, and_true, hp₀, hb₀];done)
    | (refine Evolves.foldl _ _ _ (fun u x => ?_) ?_ <;> try dsimp only)
    | (refine Evolves.foldl_fst _ _ _ (fun u x => ?_) ?_ <;> try dsimp only)
    | split)

end Sys2Proof.Machine
end

