-- ==== Sys2Proof/Laws/EvolveFlip.lean ====
section
/-! SUPPORT. What the operations of Machine/Flip.lean keep (Evolves). -/

set_option linter.unusedSimpArgs false
set_option linter.unreachableTactic false
set_option linter.unusedTactic false
set_option linter.unusedVariables false

namespace Sys2Proof.Machine

theorem State.openCuff_evolves {ps₀ : List Part} {b₀ : State} (s : State) (n : Nat)
    (hp₀ : [.regs, .cycles, .wall, .sent, .flip, .link, .repl, .faults, .thm, .nvm, .video, .scan, .tile, .red] ⊆ ps₀) (hb₀ : Evolves ps₀ b₀ s) :
    Evolves ps₀ b₀ (State.openCuff s n) := by
  simp only [List.cons_subset, List.nil_subset, and_true] at hp₀
  unfold State.openCuff
  try dsimp only
  repeat' (first
    | focus (simp (maxDischargeDepth := 60) only [↓State.untilWall_evolves, ↓State.tileCuff_evolves, ↓State.scanLate_evolves,
        ↓Evolves.set_flip, ↓Evolves.foldl, ↓Evolves.foldl_fst, ↓Evolves.ite, ↓Evolves.ite_fst, ↓Evolves.elim_opt, Evolves.refl,
        Nat.le_add_right, implies_true, List.cons_subset, List.nil_subset, and_true, hp₀, hb₀];done)
    | (refine Evolves.foldl _ _ _ (fun u x => ?_) ?_ <;> try dsimp only)
    | (refine Evolves.foldl_fst _ _ _ (fun u x => ?_) ?_ <;> try dsimp only)
    | split)

theorem execCuffOpen_evolves (s : State) :
    ∃ t₁, execCuffOpen s = .next t₁ ∧ Evolves [.regs, .cycles, .wall, .sent, .flip, .link, .repl, .faults, .thm, .nvm, .video, .scan, .tile, .red] s t₁ := by
  have hb₀ := Evolves.refl [.regs, .cycles, .wall, .sent, .flip, .link, .repl, .faults, .thm, .nvm, .video, .scan, .tile, .red] s
  unfold execCuffOpen
  refine ⟨_, rfl, ?_⟩
  try dsimp only
  repeat' (first
    | focus (simp (maxDischargeDepth := 60) only [↓State.openCuff_evolves, ↓Evolves.foldl, ↓Evolves.foldl_fst, ↓Evolves.ite,
        ↓Evolves.ite_fst, ↓Evolves.elim_opt, Evolves.refl, Nat.le_add_right, implies_true, List.cons_subset, List.nil_subset,
        and_true, List.mem_cons, reduceCtorEq, true_or, or_true, false_or, or_false, hb₀];done)
    | (refine Evolves.foldl _ _ _ (fun u x => ?_) ?_ <;> try dsimp only)
    | (refine Evolves.foldl_fst _ _ _ (fun u x => ?_) ?_ <;> try dsimp only)
    | split)

theorem State.cuffFollows_evolves {ps₀ : List Part} {b₀ : State} (s : State) (n : Nat)
    (hp₀ : [.flip] ⊆ ps₀) (hb₀ : Evolves ps₀ b₀ s) :
    Evolves ps₀ b₀ (State.cuffFollows s n) := by
  simp only [List.cons_subset, List.nil_subset, and_true] at hp₀
  unfold State.cuffFollows
  try dsimp only
  repeat' (first
    | focus (simp (maxDischargeDepth := 60) only [↓Evolves.set_flip, ↓Evolves.foldl, ↓Evolves.foldl_fst, ↓Evolves.ite,
        ↓Evolves.ite_fst, ↓Evolves.elim_opt, Evolves.refl, Nat.le_add_right, implies_true, List.cons_subset, List.nil_subset,
        and_true, hp₀, hb₀];done)
    | (refine Evolves.foldl _ _ _ (fun u x => ?_) ?_ <;> try dsimp only)
    | (refine Evolves.foldl_fst _ _ _ (fun u x => ?_) ?_ <;> try dsimp only)
    | split)

theorem State.flipPassed_evolves {ps₀ : List Part} {b₀ : State} (s : State) (n : Nat)
    (hp₀ : [.regs, .flip] ⊆ ps₀) (hb₀ : Evolves ps₀ b₀ s) :
    Evolves ps₀ b₀ (State.flipPassed s n) := by
  simp only [List.cons_subset, List.nil_subset, and_true] at hp₀
  unfold State.flipPassed
  try dsimp only
  repeat' (first
    | focus (simp (maxDischargeDepth := 60) only [↓State.cuffFollows_evolves, ↓State.setFld_evolves, ↓Evolves.set_flip,
        ↓Evolves.foldl, ↓Evolves.foldl_fst, ↓Evolves.ite, ↓Evolves.ite_fst, ↓Evolves.elim_opt, Evolves.refl, Nat.le_add_right,
        implies_true, List.cons_subset, List.nil_subset, and_true, hp₀, hb₀];done)
    | (refine Evolves.foldl _ _ _ (fun u x => ?_) ?_ <;> try dsimp only)
    | (refine Evolves.foldl_fst _ _ _ (fun u x => ?_) ?_ <;> try dsimp only)
    | split)

theorem State.standbyLatch_evolves {ps₀ : List Part} {b₀ : State} (s : State) (n : Nat)
    (hp₀ : [.regs, .fresh, .sent, .txn, .link, .repl, .faults, .nvm, .dram, .video, .scan, .red] ⊆ ps₀) (hb₀ : Evolves ps₀ b₀ s) :
    Evolves ps₀ b₀ (State.standbyLatch s n) := by
  simp only [List.cons_subset, List.nil_subset, and_true] at hp₀
  unfold State.standbyLatch
  try dsimp only
  repeat' (first
    | focus (simp (maxDischargeDepth := 60) only [↓State.senderLatch_evolves, ↓State.setFlag_evolves, ↓Evolves.set_scan,
        ↓Evolves.foldl, ↓Evolves.foldl_fst, ↓Evolves.ite, ↓Evolves.ite_fst, ↓Evolves.elim_opt, Evolves.refl, Nat.le_add_right,
        implies_true, List.cons_subset, List.nil_subset, and_true, hp₀, hb₀];done)
    | (refine Evolves.foldl _ _ _ (fun u x => ?_) ?_ <;> try dsimp only)
    | (refine Evolves.foldl_fst _ _ _ (fun u x => ?_) ?_ <;> try dsimp only)
    | split)

theorem State.latchAt_evolves {ps₀ : List Part} {b₀ : State} (s : State) (n : Nat)
    (hp₀ : [.regs, .fresh, .sent, .txn, .sched, .link, .repl, .faults, .nvm, .dram, .video, .scan, .red] ⊆ ps₀) (hb₀ : Evolves ps₀ b₀ s) :
    Evolves ps₀ b₀ (State.latchAt s n) := by
  simp only [List.cons_subset, List.nil_subset, and_true] at hp₀
  unfold State.latchAt
  try dsimp only
  repeat' (first
    | focus (simp (maxDischargeDepth := 60) only [↓State.swapAtFlip_evolves, ↓State.standbyLatch_evolves,
        ↓State.sendHeldFlip_evolves, ↓State.senderLatch_evolves, ↓Evolves.foldl, ↓Evolves.foldl_fst, ↓Evolves.ite,
        ↓Evolves.ite_fst, ↓Evolves.elim_opt, Evolves.refl, Nat.le_add_right, implies_true, List.cons_subset, List.nil_subset,
        and_true, hp₀, hb₀];done)
    | (refine Evolves.foldl _ _ _ (fun u x => ?_) ?_ <;> try dsimp only)
    | (refine Evolves.foldl_fst _ _ _ (fun u x => ?_) ?_ <;> try dsimp only)
    | split)

theorem State.senderFlip_evolves {ps₀ : List Part} {b₀ : State} (s : State) (n : Nat)
    (hp₀ : [.regs, .fresh, .cycles, .wall, .sent, .txn, .flip, .sched, .link, .map, .repl, .faults, .thm, .nvm, .dram, .net0, .net1, .time, .video, .scan, .lanes, .tile, .lamp, .diag, .red] ⊆ ps₀) (hb₀ : Evolves ps₀ b₀ s) :
    Evolves ps₀ b₀ (State.senderFlip s n) := by
  simp only [List.cons_subset, List.nil_subset, and_true] at hp₀
  unfold State.senderFlip
  try dsimp only
  repeat' (first
    | focus (simp (maxDischargeDepth := 60) only [↓State.dueCommits_evolves, ↓State.flipPassed_evolves, ↓State.untilWall_evolves,
        ↓State.tapFlips_evolves, ↓State.latchAt_evolves, ↓State.takeSnapshot_evolves, ↓Evolves.set_flip, ↓Evolves.foldl,
        ↓Evolves.foldl_fst, ↓Evolves.ite, ↓Evolves.ite_fst, ↓Evolves.elim_opt, Evolves.refl, Nat.le_add_right, implies_true,
        List.cons_subset, List.nil_subset, and_true, hp₀, hb₀];done)
    | (refine Evolves.foldl _ _ _ (fun u x => ?_) ?_ <;> try dsimp only)
    | (refine Evolves.foldl_fst _ _ _ (fun u x => ?_) ?_ <;> try dsimp only)
    | split)

theorem State.tileFlip_evolves {ps₀ : List Part} {b₀ : State} (s : State) (n : Nat) (misses : List VisorMiss)
    (hp₀ : [.regs, .fresh, .cycles, .wall, .sent, .txn, .flip, .link, .map, .repl, .faults, .thm, .nvm, .net0, .net1, .time, .video, .scan, .lanes, .tile, .lamp, .diag, .red] ⊆ ps₀) (hb₀ : Evolves ps₀ b₀ s) :
    Evolves ps₀ b₀ (State.tileFlip s n misses) := by
  unfold State.tileFlip
  dsimp only
  split
  · exact State.lampFlip_evolves _ _ _ _ (fun p h => hp₀ (by revert p; decide)) (State.flipPassed_evolves _ _ (fun p h => hp₀ (by revert p; decide))
      (State.untilWall_evolves _ _ (fun p h => hp₀ (by revert p; decide)) hb₀))
  · have h1 : Evolves ps₀ b₀ ((s.closeUpload n (edgeFrom (s.flipTime n))).untilWall (s.flipTime n)) :=
      State.untilWall_evolves _ _ (fun p h => hp₀ (by revert p; decide)) (State.closeUpload_evolves _ _ _ (fun p h => hp₀ (by revert p; decide)) hb₀)
    generalize (s.closeUpload n (edgeFrom (s.flipTime n))).untilWall (s.flipTime n) = s1 at *
    have h2 : ∀ s2, Evolves ps₀ b₀ s2 → ∀ bu, Evolves ps₀ b₀ ((((((s2.showFrames n).swapGrey n).flipPassed n).dueCommits n).dueSets n).lampFlip n bu misses) :=
      fun s2 h bu => State.lampFlip_evolves _ _ _ _ (fun p h => hp₀ (by revert p; decide)) (State.dueSets_evolves _ _ (fun p h => hp₀ (by revert p; decide))
        (State.dueCommits_evolves _ _ (fun p h => hp₀ (by revert p; decide)) (State.flipPassed_evolves _ _ (fun p h => hp₀ (by revert p; decide))
          (State.swapGrey_evolves _ _ (fun p h => hp₀ (by revert p; decide)) (State.showFrames_evolves _ _ (fun p h => hp₀ (by revert p; decide)) h)))))
    split
    · exact h2 _ (Evolves.ite (State.buildStop_evolves _ _ (fun p h => hp₀ (by revert p; decide)) h1) h1) _
    · exact h2 _ h1 _

theorem execFlip_evolves (misses : List VisorMiss) (s : State) :
    ∃ t₁, execFlip misses s = .next t₁ ∧ Evolves [.regs, .fresh, .cycles, .wall, .sent, .txn, .flip, .sched, .link, .map, .repl, .faults, .thm, .nvm, .dram, .net0, .net1, .time, .video, .scan, .lanes, .tile, .lamp, .diag, .red] s t₁ := by
  have hb₀ := Evolves.refl [.regs, .fresh, .cycles, .wall, .sent, .txn, .flip, .sched, .link, .map, .repl, .faults, .thm, .nvm, .dram, .net0, .net1, .time, .video, .scan, .lanes, .tile, .lamp, .diag, .red] s
  unfold execFlip
  refine ⟨_, rfl, ?_⟩
  try dsimp only
  repeat' (first
    | focus (simp (maxDischargeDepth := 60) only [↓State.openCuff_evolves, ↓State.tileFlip_evolves, ↓State.senderFlip_evolves,
        ↓Evolves.foldl, ↓Evolves.foldl_fst, ↓Evolves.ite, ↓Evolves.ite_fst, ↓Evolves.elim_opt, Evolves.refl, Nat.le_add_right,
        implies_true, List.cons_subset, List.nil_subset, and_true, List.mem_cons, reduceCtorEq, true_or, or_true, false_or,
        or_false, hb₀];done)
    | (refine Evolves.foldl _ _ _ (fun u x => ?_) ?_ <;> try dsimp only)
    | (refine Evolves.foldl_fst _ _ _ (fun u x => ?_) ?_ <;> try dsimp only)
    | split)

end Sys2Proof.Machine
end

