-- ==== Sys2Proof/Laws/EvolveLinkMsgs.lean ====
section
/-! SUPPORT. What the operations of Machine/LinkMsgs.lean keep (Evolves). -/

set_option linter.unusedSimpArgs false
set_option linter.unreachableTactic false
set_option linter.unusedTactic false
set_option linter.unusedVariables false

namespace Sys2Proof.Machine

theorem State.tileFlipMsg_evolves {ps₀ : List Part} {b₀ : State} (s : State) (m : MsgHdr) (f : FlipMsg)
    (hp₀ : [.regs, .sent, .flip, .link, .tile] ⊆ ps₀) (hb₀ : Evolves ps₀ b₀ s) :
    Evolves ps₀ b₀ (State.tileFlipMsg s m f) := by
  simp only [List.cons_subset, List.nil_subset, and_true] at hp₀
  unfold State.tileFlipMsg
  try dsimp only
  repeat' (first
    | focus (simp (maxDischargeDepth := 60) only [↓State.tileClaim_evolves, ↓State.claimDiscard_evolves, ↓State.takeFlip_evolves,
        ↓State.keepSeq_evolves, ↓Evolves.foldl, ↓Evolves.foldl_fst, ↓Evolves.ite, ↓Evolves.ite_fst, ↓Evolves.elim_opt,
        Evolves.refl, Nat.le_add_right, implies_true, List.cons_subset, List.nil_subset, and_true, hp₀, hb₀];done)
    | (refine Evolves.foldl _ _ _ (fun u x => ?_) ?_ <;> try dsimp only)
    | (refine Evolves.foldl_fst _ _ _ (fun u x => ?_) ?_ <;> try dsimp only)
    | split)

theorem State.takeAlive_evolves {ps₀ : List Part} {b₀ : State} (s : State) (f : FlipMsg)
    (hp₀ : [.scan] ⊆ ps₀) (hb₀ : Evolves ps₀ b₀ s) :
    Evolves ps₀ b₀ (State.takeAlive s f) := by
  simp only [List.cons_subset, List.nil_subset, and_true] at hp₀
  unfold State.takeAlive
  try dsimp only
  repeat' (first
    | focus (simp (maxDischargeDepth := 60) only [↓Evolves.set_scan, ↓Evolves.foldl, ↓Evolves.foldl_fst, ↓Evolves.ite,
        ↓Evolves.ite_fst, ↓Evolves.elim_opt, Evolves.refl, Nat.le_add_right, implies_true, List.cons_subset, List.nil_subset,
        and_true, hp₀, hb₀];done)
    | (refine Evolves.foldl _ _ _ (fun u x => ?_) ?_ <;> try dsimp only)
    | (refine Evolves.foldl_fst _ _ _ (fun u x => ?_) ?_ <;> try dsimp only)
    | split)

theorem State.senderFlipMsg_evolves {ps₀ : List Part} {b₀ : State} (s : State) (m : MsgHdr) (f : FlipMsg)
    (hp₀ : [.regs, .sent, .sched, .link, .repl, .faults, .nvm, .scan, .red] ⊆ ps₀) (hb₀ : Evolves ps₀ b₀ s) :
    Evolves ps₀ b₀ (State.senderFlipMsg s m f) := by
  simp only [List.cons_subset, List.nil_subset, and_true] at hp₀
  unfold State.senderFlipMsg
  try dsimp only
  repeat' (first
    | focus (simp (maxDischargeDepth := 60) only [↓State.senderClaim_evolves, ↓State.keepSeq_evolves, ↓State.takeAlive_evolves,
        ↓State.gntCompare_evolves, ↓Evolves.foldl, ↓Evolves.foldl_fst, ↓Evolves.ite, ↓Evolves.ite_fst, ↓Evolves.elim_opt,
        Evolves.refl, Nat.le_add_right, implies_true, List.cons_subset, List.nil_subset, and_true, hp₀, hb₀];done)
    | (refine Evolves.foldl _ _ _ (fun u x => ?_) ?_ <;> try dsimp only)
    | (refine Evolves.foldl_fst _ _ _ (fun u x => ?_) ?_ <;> try dsimp only)
    | split)

theorem State.readUnit_evolves {ps₀ : List Part} {b₀ : State} (s : State) (m : MsgHdr) (b : LinkMsg) (act : State → State)
    (hp₀ : [.regs, .sent, .link] ⊆ ps₀) (ha₀ : ∀ u, Evolves ps₀ u (act u)) (hb₀ : Evolves ps₀ b₀ s) :
    Evolves ps₀ b₀ (State.readUnit s m b act) := by
  simp only [List.cons_subset, List.nil_subset, and_true] at hp₀
  have ha : ∀ b u, Evolves ps₀ b u → Evolves ps₀ b (act u) := fun b u h => h.trans (ha₀ u)
  unfold State.readUnit
  dsimp only
  repeat' (first | focus (simp (maxDischargeDepth := 60) only [↓State.blockSeen_evolves, ↓State.eventCount_evolves,
      ↓State.relayMsg_evolves, ↓Evolves.ite, ↓ha, Evolves.refl, List.cons_subset, List.nil_subset, and_true, hp₀, hb₀];done) |
      split)

theorem execFlipMessage_evolves (m : MsgHdr) (f : FlipMsg) (s : State) :
    ∃ t₁, execFlipMessage m f s = .next t₁ ∧ Evolves [.regs, .sent, .flip, .sched, .link, .repl, .faults, .nvm, .scan, .tile, .red] s t₁ := by
  have hb₀ := Evolves.refl [.regs, .sent, .flip, .sched, .link, .repl, .faults, .nvm, .scan, .tile, .red] s
  unfold execFlipMessage
  refine ⟨_, rfl, ?_⟩
  try dsimp only
  repeat' (first
    | focus (simp (maxDischargeDepth := 60) only [↓State.readUnit_evolves, ↓State.tileFlipMsg_evolves,
        ↓State.senderFlipMsg_evolves, ↓Evolves.foldl, ↓Evolves.foldl_fst, ↓Evolves.ite, ↓Evolves.ite_fst, ↓Evolves.elim_opt,
        Evolves.refl, Nat.le_add_right, implies_true, List.cons_subset, List.nil_subset, and_true, List.mem_cons, reduceCtorEq,
        true_or, or_true, false_or, or_false, hb₀];done)
    | (refine Evolves.foldl _ _ _ (fun u x => ?_) ?_ <;> try dsimp only)
    | (refine Evolves.foldl_fst _ _ _ (fun u x => ?_) ?_ <;> try dsimp only)
    | split)

theorem State.noteHeartbeat_evolves {ps₀ : List Part} {b₀ : State} (s : State) (src port : Nat)
    (hp₀ : [.link] ⊆ ps₀) (hb₀ : Evolves ps₀ b₀ s) :
    Evolves ps₀ b₀ (State.noteHeartbeat s src port) := by
  simp only [List.cons_subset, List.nil_subset, and_true] at hp₀
  unfold State.noteHeartbeat
  try dsimp only
  repeat' (first
    | focus (simp (maxDischargeDepth := 60) only [↓Evolves.set_link, ↓Evolves.foldl, ↓Evolves.foldl_fst, ↓Evolves.ite,
        ↓Evolves.ite_fst, ↓Evolves.elim_opt, Evolves.refl, Nat.le_add_right, implies_true, List.cons_subset, List.nil_subset,
        and_true, hp₀, hb₀];done)
    | (refine Evolves.foldl _ _ _ (fun u x => ?_) ?_ <;> try dsimp only)
    | (refine Evolves.foldl_fst _ _ _ (fun u x => ?_) ?_ <;> try dsimp only)
    | split)

theorem execHeartbeat_evolves (m : MsgHdr) (b : Heartbeat) (s : State) :
    ∃ t₁, execHeartbeat m b s = .next t₁ ∧ Evolves [.regs, .sent, .sched, .link, .repl, .faults, .nvm, .scan, .red] s t₁ := by
  have hb₀ := Evolves.refl [.regs, .sent, .sched, .link, .repl, .faults, .nvm, .scan, .red] s
  unfold execHeartbeat
  refine ⟨_, rfl, ?_⟩
  try dsimp only
  repeat' (first
    | focus (simp (maxDischargeDepth := 60) only [↓State.readUnit_evolves, ↓State.noteHeartbeat_evolves,
        ↓State.noteRestarts_evolves, ↓State.keepSeq_evolves, ↓State.tileClaim_evolves, ↓State.countHeartbeat_evolves,
        ↓Evolves.foldl, ↓Evolves.foldl_fst, ↓Evolves.ite, ↓Evolves.ite_fst, ↓Evolves.elim_opt, Evolves.refl, Nat.le_add_right,
        implies_true, List.cons_subset, List.nil_subset, and_true, List.mem_cons, reduceCtorEq, true_or, or_true, false_or,
        or_false, hb₀];done)
    | (refine Evolves.foldl _ _ _ (fun u x => ?_) ?_ <;> try dsimp only)
    | (refine Evolves.foldl_fst _ _ _ (fun u x => ?_) ?_ <;> try dsimp only)
    | split)

theorem execTileStatusSend_evolves (s : State) :
    ∃ t₁, execTileStatusSend s = .next t₁ ∧ Evolves [.cycles, .wall, .sent, .link] s t₁ := by
  have hb₀ := Evolves.refl [.cycles, .wall, .sent, .link] s
  unfold execTileStatusSend
  refine ⟨_, rfl, ?_⟩
  try dsimp only
  repeat' (first
    | focus (simp (maxDischargeDepth := 60) only [↓State.untilCycle_evolves, ↓State.sendActive_evolves, ↓Evolves.set_link,
        ↓Evolves.foldl, ↓Evolves.foldl_fst, ↓Evolves.ite, ↓Evolves.ite_fst, ↓Evolves.elim_opt, Evolves.refl, Nat.le_add_right,
        implies_true, List.cons_subset, List.nil_subset, and_true, List.mem_cons, reduceCtorEq, true_or, or_true, false_or,
        or_false, hb₀];done)
    | (refine Evolves.foldl _ _ _ (fun u x => ?_) ?_ <;> try dsimp only)
    | (refine Evolves.foldl_fst _ _ _ (fun u x => ?_) ?_ <;> try dsimp only)
    | split)

theorem State.faultMsg_evolves {ps₀ : List Part} {b₀ : State} (s : State) (p : Nat) (f : FaultRec)
    (hp₀ : [.regs, .fresh, .cycles, .wall, .sent, .gen, .gnt, .txn, .cmd, .flip, .link, .map, .repl, .faults, .thm, .nvm, .net0, .net1, .time, .video, .scan, .lanes, .tile, .lamp, .diag, .red] ⊆ ps₀) (hb₀ : Evolves ps₀ b₀ s) :
    Evolves ps₀ b₀ (State.faultMsg s p f) := by
  simp only [List.cons_subset, List.nil_subset, and_true] at hp₀
  unfold State.faultMsg
  try dsimp only
  repeat' (first
    | focus (simp (maxDischargeDepth := 60) only [↓State.sendMsg_evolves, ↓State.completeAfter_evolves, ↓State.logFault_evolves,
        ↓Evolves.foldl, ↓Evolves.foldl_fst, ↓Evolves.ite, ↓Evolves.ite_fst, ↓Evolves.elim_opt, Evolves.refl, Nat.le_add_right,
        implies_true, List.cons_subset, List.nil_subset, and_true, hp₀, hb₀];done)
    | (refine Evolves.foldl _ _ _ (fun u x => ?_) ?_ <;> try dsimp only)
    | (refine Evolves.foldl_fst _ _ _ (fun u x => ?_) ?_ <;> try dsimp only)
    | split)

theorem execFaultMsg_evolves (m : MsgHdr) (f : FaultRec) (s : State) :
    ∃ t₁, execFaultMsg m f s = .next t₁ ∧ Evolves [.regs, .fresh, .cycles, .wall, .sent, .gen, .gnt, .txn, .cmd, .flip, .link, .map, .repl, .faults, .thm, .nvm, .net0, .net1, .time, .video, .scan, .lanes, .tile, .lamp, .diag, .red] s t₁ := by
  have hb₀ := Evolves.refl [.regs, .fresh, .cycles, .wall, .sent, .gen, .gnt, .txn, .cmd, .flip, .link, .map, .repl, .faults, .thm, .nvm, .net0, .net1, .time, .video, .scan, .lanes, .tile, .lamp, .diag, .red] s
  unfold execFaultMsg
  refine ⟨_, rfl, ?_⟩
  try dsimp only
  repeat' (first
    | focus (simp (maxDischargeDepth := 60) only [↓State.receiveOk_evolves, ↓State.faultMsg_evolves, ↓Evolves.foldl,
        ↓Evolves.foldl_fst, ↓Evolves.ite, ↓Evolves.ite_fst, ↓Evolves.elim_opt, Evolves.refl, Nat.le_add_right, implies_true,
        List.cons_subset, List.nil_subset, and_true, List.mem_cons, reduceCtorEq, true_or, or_true, false_or, or_false, hb₀];done)
    | (refine Evolves.foldl _ _ _ (fun u x => ?_) ?_ <;> try dsimp only)
    | (refine Evolves.foldl_fst _ _ _ (fun u x => ?_) ?_ <;> try dsimp only)
    | split)

theorem State.scheduleHere_evolves {ps₀ : List Part} {b₀ : State} (s : State) (e : SchedEntry)
    (hp₀ : [.sched] ⊆ ps₀) (hb₀ : Evolves ps₀ b₀ s) :
    Evolves ps₀ b₀ (State.scheduleHere s e).1 := by
  simp only [List.cons_subset, List.nil_subset, and_true] at hp₀
  unfold State.scheduleHere
  try dsimp only
  repeat' (first
    | focus (simp (maxDischargeDepth := 60) only [↓State.addAction_evolves, ↓Evolves.foldl, ↓Evolves.foldl_fst, ↓Evolves.ite,
        ↓Evolves.ite_fst, ↓Evolves.elim_opt, Evolves.refl, Nat.le_add_right, implies_true, List.cons_subset, List.nil_subset,
        and_true, hp₀, hb₀];done)
    | (refine Evolves.foldl _ _ _ (fun u x => ?_) ?_ <;> try dsimp only)
    | (refine Evolves.foldl_fst _ _ _ (fun u x => ?_) ?_ <;> try dsimp only)
    | split)

theorem State.takeHatband_evolves {ps₀ : List Part} {b₀ : State} (s : State) (seq : Nat) (t : TimeField) (kind id mask : Nat)
    (hp₀ : [.regs, .sched] ⊆ ps₀) (hb₀ : Evolves ps₀ b₀ s) :
    Evolves ps₀ b₀ (State.takeHatband s seq t kind id mask).1 := by
  simp only [List.cons_subset, List.nil_subset, and_true] at hp₀
  unfold State.takeHatband
  try dsimp only
  repeat' (first
    | focus (simp (maxDischargeDepth := 60) only [↓State.event_evolves, ↓State.scheduleHere_evolves, ↓Evolves.foldl,
        ↓Evolves.foldl_fst, ↓Evolves.ite, ↓Evolves.ite_fst, ↓Evolves.elim_opt, Evolves.refl, Nat.le_add_right, implies_true,
        List.cons_subset, List.nil_subset, and_true, hp₀, hb₀];done)
    | (refine Evolves.foldl _ _ _ (fun u x => ?_) ?_ <;> try dsimp only)
    | (refine Evolves.foldl_fst _ _ _ (fun u x => ?_) ?_ <;> try dsimp only)
    | split)

theorem execHatbandMessage_evolves (m : MsgHdr) (t : TimeField) (kind id portMask : Nat) (s : State) :
    ∃ t₁, execHatbandMessage m t kind id portMask s = .next t₁ ∧ Evolves [.regs, .sent, .sched, .link] s t₁ := by
  have hb₀ := Evolves.refl [.regs, .sent, .sched, .link] s
  unfold execHatbandMessage
  refine ⟨_, rfl, ?_⟩
  try dsimp only
  repeat' (first
    | focus (simp (maxDischargeDepth := 60) only [↓State.receive_evolves, ↓State.takeHatband_evolves, ↓Evolves.foldl,
        ↓Evolves.foldl_fst, ↓Evolves.ite, ↓Evolves.ite_fst, ↓Evolves.elim_opt, Evolves.refl, Nat.le_add_right, implies_true,
        List.cons_subset, List.nil_subset, and_true, List.mem_cons, reduceCtorEq, true_or, or_true, false_or, or_false, hb₀];done)
    | (refine Evolves.foldl _ _ _ (fun u x => ?_) ?_ <;> try dsimp only)
    | (refine Evolves.foldl_fst _ _ _ (fun u x => ?_) ?_ <;> try dsimp only)
    | split)

theorem State.takeAction_evolves {ps₀ : List Part} {b₀ : State} (s : State) (t : TimeField) (e : SchedEntry)
    (hp₀ : [.sched] ⊆ ps₀) (hb₀ : Evolves ps₀ b₀ s) :
    Evolves ps₀ b₀ (State.takeAction s t e).1 := by
  simp only [List.cons_subset, List.nil_subset, and_true] at hp₀
  unfold State.takeAction
  try dsimp only
  repeat' (first
    | focus (simp (maxDischargeDepth := 60) only [↓State.scheduleHere_evolves, ↓Evolves.foldl, ↓Evolves.foldl_fst, ↓Evolves.ite,
        ↓Evolves.ite_fst, ↓Evolves.elim_opt, Evolves.refl, Nat.le_add_right, implies_true, List.cons_subset, List.nil_subset,
        and_true, hp₀, hb₀];done)
    | (refine Evolves.foldl _ _ _ (fun u x => ?_) ?_ <;> try dsimp only)
    | (refine Evolves.foldl_fst _ _ _ (fun u x => ?_) ?_ <;> try dsimp only)
    | split)

theorem execSnapshotMessage_evolves (m : MsgHdr) (t : TimeField) (id content : Nat) (s : State) :
    ∃ t₁, execSnapshotMessage m t id content s = .next t₁ ∧ Evolves [.regs, .sent, .sched, .link] s t₁ := by
  have hb₀ := Evolves.refl [.regs, .sent, .sched, .link] s
  unfold execSnapshotMessage
  refine ⟨_, rfl, ?_⟩
  try dsimp only
  repeat' (first
    | focus (simp (maxDischargeDepth := 60) only [↓State.receive_evolves, ↓State.takeAction_evolves, ↓Evolves.foldl,
        ↓Evolves.foldl_fst, ↓Evolves.ite, ↓Evolves.ite_fst, ↓Evolves.elim_opt, Evolves.refl, Nat.le_add_right, implies_true,
        List.cons_subset, List.nil_subset, and_true, List.mem_cons, reduceCtorEq, true_or, or_true, false_or, or_false, hb₀];done)
    | (refine Evolves.foldl _ _ _ (fun u x => ?_) ?_ <;> try dsimp only)
    | (refine Evolves.foldl_fst _ _ _ (fun u x => ?_) ?_ <;> try dsimp only)
    | split)

theorem execResetMessage_evolves (m : MsgHdr) (t : TimeField) (level cause id : Nat) (s : State) :
    ∃ t₁, execResetMessage m t level cause id s = .next t₁ ∧ Evolves [.regs, .sent, .sched, .link] s t₁ := by
  have hb₀ := Evolves.refl [.regs, .sent, .sched, .link] s
  unfold execResetMessage
  refine ⟨_, rfl, ?_⟩
  try dsimp only
  repeat' (first
    | focus (simp (maxDischargeDepth := 60) only [↓State.receive_evolves, ↓State.takeAction_evolves, ↓Evolves.foldl,
        ↓Evolves.foldl_fst, ↓Evolves.ite, ↓Evolves.ite_fst, ↓Evolves.elim_opt, Evolves.refl, Nat.le_add_right, implies_true,
        List.cons_subset, List.nil_subset, and_true, List.mem_cons, reduceCtorEq, true_or, or_true, false_or, or_false, hb₀];done)
    | (refine Evolves.foldl _ _ _ (fun u x => ?_) ?_ <;> try dsimp only)
    | (refine Evolves.foldl_fst _ _ _ (fun u x => ?_) ?_ <;> try dsimp only)
    | split)

theorem execBarrierMessage_evolves (m : MsgHdr) (id : Nat) (s : State) :
    ∃ t₁, execBarrierMessage m id s = .next t₁ ∧ Evolves [.regs, .sent, .link] s t₁ := by
  have hb₀ := Evolves.refl [.regs, .sent, .link] s
  unfold execBarrierMessage
  refine ⟨_, rfl, ?_⟩
  try dsimp only
  repeat' (first
    | focus (simp (maxDischargeDepth := 60) only [↓State.receiveOk_evolves, ↓State.sendActive_evolves, ↓Evolves.foldl,
        ↓Evolves.foldl_fst, ↓Evolves.ite, ↓Evolves.ite_fst, ↓Evolves.elim_opt, Evolves.refl, Nat.le_add_right, implies_true,
        List.cons_subset, List.nil_subset, and_true, List.mem_cons, reduceCtorEq, true_or, or_true, false_or, or_false, hb₀];done)
    | (refine Evolves.foldl _ _ _ (fun u x => ?_) ?_ <;> try dsimp only)
    | (refine Evolves.foldl_fst _ _ _ (fun u x => ?_) ?_ <;> try dsimp only)
    | split)

theorem execBarrierDone_evolves (m : MsgHdr) (id addr : Nat) (s : State) :
    ∃ t₁, execBarrierDone m id addr s = .next t₁ ∧ Evolves [.regs, .sent, .gen, .gnt, .cmd, .link] s t₁ := by
  have hb₀ := Evolves.refl [.regs, .sent, .gen, .gnt, .cmd, .link] s
  unfold execBarrierDone
  refine ⟨_, rfl, ?_⟩
  try dsimp only
  repeat' (first
    | focus (simp (maxDischargeDepth := 60) only [↓State.receiveOk_evolves, ↓State.barrierDone_evolves, ↓Evolves.foldl,
        ↓Evolves.foldl_fst, ↓Evolves.ite, ↓Evolves.ite_fst, ↓Evolves.elim_opt, Evolves.refl, Nat.le_add_right, implies_true,
        List.cons_subset, List.nil_subset, and_true, List.mem_cons, reduceCtorEq, true_or, or_true, false_or, or_false, hb₀];done)
    | (refine Evolves.foldl _ _ _ (fun u x => ?_) ?_ <;> try dsimp only)
    | (refine Evolves.foldl_fst _ _ _ (fun u x => ?_) ?_ <;> try dsimp only)
    | split)

theorem State.captureSnapshot_evolves {ps₀ : List Part} {b₀ : State} (s : State) (id content : Nat)
    (hp₀ : [.regs, .sent, .link, .diag, .snaps] ⊆ ps₀) (hb₀ : Evolves ps₀ b₀ s) :
    Evolves ps₀ b₀ (State.captureSnapshot s id content) := by
  simp only [List.cons_subset, List.nil_subset, and_true] at hp₀
  unfold State.captureSnapshot
  try dsimp only
  repeat' (first
    | focus (simp (maxDischargeDepth := 60) only [↓State.startSnapPass_evolves, ↓State.sendActive_evolves, ↓Evolves.set_snaps,
        ↓Evolves.foldl, ↓Evolves.foldl_fst, ↓Evolves.ite, ↓Evolves.ite_fst, ↓Evolves.elim_opt, Evolves.refl, Nat.le_add_right,
        implies_true, List.cons_subset, List.nil_subset, and_true, hp₀, hb₀];done)
    | (refine Evolves.foldl _ _ _ (fun u x => ?_) ?_ <;> try dsimp only)
    | (refine Evolves.foldl_fst _ _ _ (fun u x => ?_) ?_ <;> try dsimp only)
    | split)

theorem execSnapshotDone_evolves (m : MsgHdr) (id addr status : Nat) (s : State) :
    ∃ t₁, execSnapshotDone m id addr status s = .next t₁ ∧ Evolves [.regs, .sent, .link] s t₁ := by
  have hb₀ := Evolves.refl [.regs, .sent, .link] s
  unfold execSnapshotDone
  refine ⟨_, rfl, ?_⟩
  try dsimp only
  repeat' (first
    | focus (simp (maxDischargeDepth := 60) only [↓State.receiveOk_evolves, ↓Evolves.set_link, ↓Evolves.foldl, ↓Evolves.foldl_fst,
        ↓Evolves.ite, ↓Evolves.ite_fst, ↓Evolves.elim_opt, Evolves.refl, Nat.le_add_right, implies_true, List.cons_subset,
        List.nil_subset, and_true, List.mem_cons, reduceCtorEq, true_or, or_true, false_or, or_false, hb₀];done)
    | (refine Evolves.foldl _ _ _ (fun u x => ?_) ?_ <;> try dsimp only)
    | (refine Evolves.foldl_fst _ _ _ (fun u x => ?_) ?_ <;> try dsimp only)
    | split)

end Sys2Proof.Machine
end

