-- ==== Sys2Proof/Laws/EvolveBoot.lean ====
section
/-! SUPPORT. What the operations of Machine/Boot.lean keep (Evolves). -/

set_option linter.unusedSimpArgs false
set_option linter.unreachableTactic false
set_option linter.unusedTactic false
set_option linter.unusedVariables false

namespace Sys2Proof.Machine

theorem State.setSlotBytes_evolves {ps₀ : List Part} {b₀ : State} (s : State) (k : Nat) (bs : List Byte)
    (hp₀ : [.nvm] ⊆ ps₀) (hb₀ : Evolves ps₀ b₀ s) :
    Evolves ps₀ b₀ (State.setSlotBytes s k bs) := by
  simp only [List.cons_subset, List.nil_subset, and_true] at hp₀
  unfold State.setSlotBytes
  try dsimp only
  repeat' (first
    | focus (simp (maxDischargeDepth := 60) only [↓Evolves.set_nvm, ↓Evolves.foldl, ↓Evolves.foldl_fst, ↓Evolves.ite,
        ↓Evolves.ite_fst, ↓Evolves.elim_opt, Evolves.refl, Nat.le_add_right, implies_true, List.cons_subset, List.nil_subset,
        and_true, hp₀, hb₀];done)
    | (refine Evolves.foldl _ _ _ (fun u x => ?_) ?_ <;> try dsimp only)
    | (refine Evolves.foldl_fst _ _ _ (fun u x => ?_) ?_ <;> try dsimp only)
    | split)

theorem State.showSlots_evolves {ps₀ : List Part} {b₀ : State} (s : State)
    (hp₀ : [.regs] ⊆ ps₀) (hb₀ : Evolves ps₀ b₀ s) :
    Evolves ps₀ b₀ (State.showSlots s) := by
  simp only [List.cons_subset, List.nil_subset, and_true] at hp₀
  unfold State.showSlots
  try dsimp only
  repeat' (first
    | focus (simp (maxDischargeDepth := 60) only [↓State.setFld_evolves, ↓Evolves.foldl, ↓Evolves.foldl_fst, ↓Evolves.ite,
        ↓Evolves.ite_fst, ↓Evolves.elim_opt, Evolves.refl, Nat.le_add_right, implies_true, List.cons_subset, List.nil_subset,
        and_true, hp₀, hb₀];done)
    | (refine Evolves.foldl _ _ _ (fun u x => ?_) ?_ <;> try dsimp only)
    | (refine Evolves.foldl_fst _ _ _ (fun u x => ?_) ?_ <;> try dsimp only)
    | split)

theorem State.useHdr_evolves {ps₀ : List Part} {b₀ : State} (s : State) (h : List Byte)
    (hp₀ : [.regs, .boot] ⊆ ps₀) (hb₀ : Evolves ps₀ b₀ s) :
    Evolves ps₀ b₀ (State.useHdr s h) := by
  simp only [List.cons_subset, List.nil_subset, and_true] at hp₀
  unfold State.useHdr
  try dsimp only
  repeat' (first
    | focus (simp (maxDischargeDepth := 60) only [↓State.showSlots_evolves, ↓Evolves.set_boot, ↓Evolves.foldl, ↓Evolves.foldl_fst,
        ↓Evolves.ite, ↓Evolves.ite_fst, ↓Evolves.elim_opt, Evolves.refl, Nat.le_add_right, implies_true, List.cons_subset,
        List.nil_subset, and_true, hp₀, hb₀];done)
    | (refine Evolves.foldl _ _ _ (fun u x => ?_) ?_ <;> try dsimp only)
    | (refine Evolves.foldl_fst _ _ _ (fun u x => ?_) ?_ <;> try dsimp only)
    | split)

theorem State.writeHdr_evolves {ps₀ : List Part} {b₀ : State} (s : State) (h : List Byte)
    (hp₀ : [.regs, .nvm, .boot] ⊆ ps₀) (hb₀ : Evolves ps₀ b₀ s) :
    Evolves ps₀ b₀ (State.writeHdr s h) := by
  simp only [List.cons_subset, List.nil_subset, and_true] at hp₀
  unfold State.writeHdr
  try dsimp only
  repeat' (first
    | focus (simp (maxDischargeDepth := 60) only [↓State.useHdr_evolves, ↓Evolves.set_nvm, ↓Evolves.foldl, ↓Evolves.foldl_fst,
        ↓Evolves.ite, ↓Evolves.ite_fst, ↓Evolves.elim_opt, Evolves.refl, Nat.le_add_right, implies_true, List.cons_subset,
        List.nil_subset, and_true, hp₀, hb₀];done)
    | (refine Evolves.foldl _ _ _ (fun u x => ?_) ?_ <;> try dsimp only)
    | (refine Evolves.foldl_fst _ _ _ (fun u x => ?_) ?_ <;> try dsimp only)
    | split)

theorem State.useCommission_evolves {ps₀ : List Part} {b₀ : State} (s : State) (c : Commission)
    (hp₀ : [.cmd] ⊆ ps₀) (hb₀ : Evolves ps₀ b₀ s) :
    Evolves ps₀ b₀ (State.useCommission s c) := by
  simp only [List.cons_subset, List.nil_subset, and_true] at hp₀
  unfold State.useCommission
  try dsimp only
  repeat' (first
    | focus (simp (maxDischargeDepth := 60) only [↓Evolves.set_cmd, ↓Evolves.foldl, ↓Evolves.foldl_fst, ↓Evolves.ite,
        ↓Evolves.ite_fst, ↓Evolves.elim_opt, Evolves.refl, Nat.le_add_right, implies_true, List.cons_subset, List.nil_subset,
        and_true, hp₀, hb₀];done)
    | (refine Evolves.foldl _ _ _ (fun u x => ?_) ?_ <;> try dsimp only)
    | (refine Evolves.foldl_fst _ _ _ (fun u x => ?_) ?_ <;> try dsimp only)
    | split)

theorem State.loadLining_evolves {ps₀ : List Part} {b₀ : State} (s : State) (bs : List Byte)
    (hp₀ : [.regs, .tile] ⊆ ps₀) (hb₀ : Evolves ps₀ b₀ s) :
    Evolves ps₀ b₀ (State.loadLining s bs) := by
  simp only [List.cons_subset, List.nil_subset, and_true] at hp₀
  unfold State.loadLining
  try dsimp only
  repeat' (first
    | focus (simp (maxDischargeDepth := 60) only [↓State.setHalves_evolves, ↓State.setFld_evolves, ↓Evolves.set_tile,
        ↓Evolves.foldl, ↓Evolves.foldl_fst, ↓Evolves.ite, ↓Evolves.ite_fst, ↓Evolves.elim_opt, Evolves.refl, Nat.le_add_right,
        implies_true, List.cons_subset, List.nil_subset, and_true, hp₀, hb₀];done)
    | (refine Evolves.foldl _ _ _ (fun u x => ?_) ?_ <;> try dsimp only)
    | (refine Evolves.foldl_fst _ _ _ (fun u x => ?_) ?_ <;> try dsimp only)
    | split)

theorem State.loadGuards_evolves {ps₀ : List Part} {b₀ : State} (s : State) (bs : List Byte)
    (hp₀ : [.regs, .tile] ⊆ ps₀) (hb₀ : Evolves ps₀ b₀ s) :
    Evolves ps₀ b₀ (State.loadGuards s bs) := by
  simp only [List.cons_subset, List.nil_subset, and_true] at hp₀
  unfold State.loadGuards
  try dsimp only
  repeat' (first
    | focus (simp (maxDischargeDepth := 60) only [↓State.setFld_evolves, ↓State.setHalves_evolves, ↓Evolves.foldl,
        ↓Evolves.foldl_fst, ↓Evolves.ite, ↓Evolves.ite_fst, ↓Evolves.elim_opt, Evolves.refl, Nat.le_add_right, implies_true,
        List.cons_subset, List.nil_subset, and_true, hp₀, hb₀];done)
    | (refine Evolves.foldl _ _ _ (fun u x => ?_) ?_ <;> try dsimp only)
    | (refine Evolves.foldl_fst _ _ _ (fun u x => ?_) ?_ <;> try dsimp only)
    | split)

theorem State.loadMasked_evolves {ps₀ : List Part} {b₀ : State} (s : State) (bs : List Byte)
    (hp₀ : [.regs, .tile, .diag] ⊆ ps₀) (hb₀ : Evolves ps₀ b₀ s) :
    Evolves ps₀ b₀ (State.loadMasked s bs) := by
  simp only [List.cons_subset, List.nil_subset, and_true] at hp₀
  unfold State.loadMasked
  try dsimp only
  repeat' (first
    | focus (simp (maxDischargeDepth := 60) only [↓State.setLampState_evolves, ↓Evolves.foldl, ↓Evolves.foldl_fst, ↓Evolves.ite,
        ↓Evolves.ite_fst, ↓Evolves.elim_opt, Evolves.refl, Nat.le_add_right, implies_true, List.cons_subset, List.nil_subset,
        and_true, hp₀, hb₀];done)
    | (refine Evolves.foldl _ _ _ (fun u x => ?_) ?_ <;> try dsimp only)
    | (refine Evolves.foldl_fst _ _ _ (fun u x => ?_) ?_ <;> try dsimp only)
    | split)

theorem State.loadRecord_evolves {ps₀ : List Part} {b₀ : State} (s : State) (x : Nat × List Byte)
    (hp₀ : [.regs, .gen, .gnt, .txn, .cmd, .map, .tile, .diag] ⊆ ps₀) (hb₀ : Evolves ps₀ b₀ s) :
    Evolves ps₀ b₀ (State.loadRecord s x) := by
  simp only [List.cons_subset, List.nil_subset, and_true] at hp₀
  unfold State.loadRecord
  try dsimp only
  repeat' (first
    | focus (simp (maxDischargeDepth := 60) only [↓State.loadPairs_evolves, ↓State.loadLining_evolves, ↓State.loadGuards_evolves,
        ↓State.loadMasked_evolves, ↓State.useCommission_evolves, ↓State.loadSection_evolves, ↓Evolves.foldl, ↓Evolves.foldl_fst,
        ↓Evolves.ite, ↓Evolves.ite_fst, ↓Evolves.elim_opt, Evolves.refl, Nat.le_add_right, implies_true, List.cons_subset,
        List.nil_subset, and_true, hp₀, hb₀];done)
    | (refine Evolves.foldl _ _ _ (fun u x => ?_) ?_ <;> try dsimp only)
    | (refine Evolves.foldl_fst _ _ _ (fun u x => ?_) ?_ <;> try dsimp only)
    | split)

theorem State.loadCommission_evolves {ps₀ : List Part} {b₀ : State} (s : State)
    (hp₀ : [.regs, .gen, .gnt, .txn, .cmd, .map, .tile, .diag] ⊆ ps₀) (hb₀ : Evolves ps₀ b₀ s) :
    Evolves ps₀ b₀ (State.loadCommission s) := by
  simp only [List.cons_subset, List.nil_subset, and_true] at hp₀
  unfold State.loadCommission
  try dsimp only
  repeat' (first
    | focus (simp (maxDischargeDepth := 60) only [↓State.loadRecord_evolves, ↓Evolves.foldl, ↓Evolves.foldl_fst, ↓Evolves.ite,
        ↓Evolves.ite_fst, ↓Evolves.elim_opt, Evolves.refl, Nat.le_add_right, implies_true, List.cons_subset, List.nil_subset,
        and_true, hp₀, hb₀];done)
    | (refine Evolves.foldl _ _ _ (fun u x => ?_) ?_ <;> try dsimp only)
    | (refine Evolves.foldl_fst _ _ _ (fun u x => ?_) ?_ <;> try dsimp only)
    | split)

theorem State.saveRecord_evolves {ps₀ : List Part} {b₀ : State} (s : State) (comm : Option Commission)
    (hp₀ : [.nvm] ⊆ ps₀) (hb₀ : Evolves ps₀ b₀ s) :
    Evolves ps₀ b₀ (State.saveRecord s comm).1 := by
  simp only [List.cons_subset, List.nil_subset, and_true] at hp₀
  unfold State.saveRecord
  try dsimp only
  repeat' (first
    | focus (simp (maxDischargeDepth := 60) only [↓Evolves.set_nvm, ↓Evolves.foldl, ↓Evolves.foldl_fst, ↓Evolves.ite,
        ↓Evolves.ite_fst, ↓Evolves.elim_opt, Evolves.refl, Nat.le_add_right, implies_true, List.cons_subset, List.nil_subset,
        and_true, hp₀, hb₀];done)
    | (refine Evolves.foldl _ _ _ (fun u x => ?_) ?_ <;> try dsimp only)
    | (refine Evolves.foldl_fst _ _ _ (fun u x => ?_) ?_ <;> try dsimp only)
    | split)

theorem State.noteFail_evolves {ps₀ : List Part} {b₀ : State} (s : State) (code slot : Nat)
    (hp₀ : [.regs, .boot] ⊆ ps₀) (hb₀ : Evolves ps₀ b₀ s) :
    Evolves ps₀ b₀ (State.noteFail s code slot) := by
  simp only [List.cons_subset, List.nil_subset, and_true] at hp₀
  unfold State.noteFail
  try dsimp only
  repeat' (first
    | focus (simp (maxDischargeDepth := 60) only [↓State.faultLater_evolves, ↓State.setFld_evolves, ↓Evolves.foldl,
        ↓Evolves.foldl_fst, ↓Evolves.ite, ↓Evolves.ite_fst, ↓Evolves.elim_opt, Evolves.refl, Nat.le_add_right, implies_true,
        List.cons_subset, List.nil_subset, and_true, hp₀, hb₀];done)
    | (refine Evolves.foldl _ _ _ (fun u x => ?_) ?_ <;> try dsimp only)
    | (refine Evolves.foldl_fst _ _ _ (fun u x => ?_) ?_ <;> try dsimp only)
    | split)

theorem State.lanesOn_evolves {ps₀ : List Part} {b₀ : State} (s : State)
    (hp₀ : [.regs, .lanes] ⊆ ps₀) (hb₀ : Evolves ps₀ b₀ s) :
    Evolves ps₀ b₀ (State.lanesOn s) := by
  simp only [List.cons_subset, List.nil_subset, and_true] at hp₀
  unfold State.lanesOn
  try dsimp only
  repeat' (first
    | focus (simp (maxDischargeDepth := 60) only [↓State.quads_evolves, ↓State.trainLane_evolves, ↓Evolves.foldl,
        ↓Evolves.foldl_fst, ↓Evolves.ite, ↓Evolves.ite_fst, ↓Evolves.elim_opt, Evolves.refl, Nat.le_add_right, implies_true,
        List.cons_subset, List.nil_subset, and_true, hp₀, hb₀];done)
    | (refine Evolves.foldl _ _ _ (fun u x => ?_) ?_ <;> try dsimp only)
    | (refine Evolves.foldl_fst _ _ _ (fun u x => ?_) ?_ <;> try dsimp only)
    | split)

theorem State.enterMitten_evolves {ps₀ : List Part} {b₀ : State} (s : State) (reason : Nat)
    (hp₀ : [.regs, .sent, .gen, .gnt, .txn, .cmd, .link, .map, .repl, .faults, .nvm, .boot, .scan, .lanes, .tile, .diag, .red] ⊆ ps₀) (hb₀ : Evolves ps₀ b₀ s) :
    Evolves ps₀ b₀ (State.enterMitten s reason) := by
  simp only [List.cons_subset, List.nil_subset, and_true] at hp₀
  unfold State.enterMitten
  try dsimp only
  repeat' (first
    | focus (simp (maxDischargeDepth := 60) only [↓State.setMode_evolves, ↓State.setFld_evolves, ↓State.loadCommission_evolves,
        ↓State.setFlag_evolves, ↓State.lanesOn_evolves, ↓State.loadRecord_evolves, ↓State.portLanesOff_evolves,
        ↓State.sendTileInfo_evolves, ↓State.flushFaults_evolves, ↓Evolves.set_boot, ↓Evolves.set_scan, ↓Evolves.foldl,
        ↓Evolves.foldl_fst, ↓Evolves.ite, ↓Evolves.ite_fst, ↓Evolves.elim_opt, Evolves.refl, Nat.le_add_right, implies_true,
        List.cons_subset, List.nil_subset, and_true, hp₀, hb₀];done)
    | (refine Evolves.foldl _ _ _ (fun u x => ?_) ?_ <;> try dsimp only)
    | (refine Evolves.foldl_fst _ _ _ (fun u x => ?_) ?_ <;> try dsimp only)
    | split)

end Sys2Proof.Machine
end

