-- ==== Sys2Proof/Laws/EvolveReset.lean ====
section
/-! SUPPORT. What the operations of Machine/Reset.lean keep (Evolves). -/

set_option linter.unusedSimpArgs false
set_option linter.unreachableTactic false
set_option linter.unusedTactic false
set_option linter.unusedVariables false

namespace Sys2Proof.Machine

theorem State.keepFields_evolves {ps₀ : List Part} {b₀ : State} (old s : State) (fs : List Fld)
    (hp₀ : [.regs] ⊆ ps₀) (hb₀ : Evolves ps₀ b₀ s) :
    Evolves ps₀ b₀ (State.keepFields old s fs) := by
  simp only [List.cons_subset, List.nil_subset, and_true] at hp₀
  unfold State.keepFields
  try dsimp only
  repeat' (first
    | focus (simp (maxDischargeDepth := 60) only [↓State.setFld_evolves, ↓Evolves.foldl, ↓Evolves.foldl_fst, ↓Evolves.ite,
        ↓Evolves.ite_fst, ↓Evolves.elim_opt, Evolves.refl, Nat.le_add_right, implies_true, List.cons_subset, List.nil_subset,
        and_true, hp₀, hb₀];done)
    | (refine Evolves.foldl _ _ _ (fun u x => ?_) ?_ <;> try dsimp only)
    | (refine Evolves.foldl_fst _ _ _ (fun u x => ?_) ?_ <;> try dsimp only)
    | split)

theorem State.hardReset_evolves {ps₀ : List Part} {b₀ : State} (s : State) (level : Nat) (power : Bool)
    (hp₀ : [.regs, .wall, .gen, .gnt, .txn, .cmd, .flip, .sched, .link, .map, .repl, .faults, .rst, .thm, .boot, .dram, .chk, .net0, .net1, .time, .video, .scan, .lanes, .tile, .lamp, .diag, .snaps, .red] ⊆ ps₀) (hb₀ : Evolves ps₀ b₀ s) :
    Evolves ps₀ b₀ (State.hardReset s level power) := by
  unfold State.hardReset
  have hz : ∀ (f : FaultLog) (r : RstState) (t : ThmState) (bo : BootState), Evolves ps₀ b₀ { State.reset with
      pending := s.pending
      fresh := s.fresh
      cycles := s.cycles
      sent := s.sent
      fuses := s.fuses
      nvm := s.nvm
      thm := t
      faults := f
      boot := bo
      rst := r } := fun f r t bo =>
    Evolves.change (s := s) (h := hb₀) _ (fun p hn => by cases p <;> first | rfl | exact absurd (hp₀ (by simp)) hn) rfl rfl rfl rfl
      (fun _ => State.reset_canon)
  simp only [List.cons_subset, List.nil_subset, and_true] at hp₀
  dsimp only
  exact Evolves.ite (State.setMode_evolves _ _ (by simp [hp₀]) (State.keepFields_evolves _ _ _ (by simp [hp₀]) (hz _ _ _ _)))
    (State.keepFields_evolves _ _ _ (by simp [hp₀]) (hz _ _ _ _))

theorem State.finishWaiting_evolves {ps₀ : List Part} {b₀ : State} (s : State)
    (hp₀ : [.regs, .fresh, .cycles, .wall, .sent, .gen, .gnt, .txn, .flip, .link, .map, .repl, .faults, .thm, .nvm, .net0, .net1, .time, .video, .scan, .lanes, .tile, .lamp, .diag, .red] ⊆ ps₀) (hb₀ : Evolves ps₀ b₀ s) :
    Evolves ps₀ b₀ (State.finishWaiting s) := by
  simp only [List.cons_subset, List.nil_subset, and_true] at hp₀
  unfold State.finishWaiting
  try dsimp only
  repeat' (first
    | focus (simp (maxDischargeDepth := 60) only [↓State.completeCommit_evolves, ↓Evolves.set_repl, ↓Evolves.foldl,
        ↓Evolves.foldl_fst, ↓Evolves.ite, ↓Evolves.ite_fst, ↓Evolves.elim_opt, Evolves.refl, Nat.le_add_right, implies_true,
        List.cons_subset, List.nil_subset, and_true, hp₀, hb₀];done)
    | (refine Evolves.foldl _ _ _ (fun u x => ?_) ?_ <;> try dsimp only)
    | (refine Evolves.foldl_fst _ _ _ (fun u x => ?_) ?_ <;> try dsimp only)
    | split)

theorem State.restartSeries_evolves {ps₀ : List Part} {b₀ : State} (s : State)
    (hp₀ : [.link] ⊆ ps₀) (hb₀ : Evolves ps₀ b₀ s) :
    Evolves ps₀ b₀ (State.restartSeries s) := by
  simp only [List.cons_subset, List.nil_subset, and_true] at hp₀
  unfold State.restartSeries
  try dsimp only
  repeat' (first
    | focus (simp (maxDischargeDepth := 60) only [↓State.setPort_evolves, ↓Evolves.set_link, ↓Evolves.foldl, ↓Evolves.foldl_fst,
        ↓Evolves.ite, ↓Evolves.ite_fst, ↓Evolves.elim_opt, Evolves.refl, Nat.le_add_right, implies_true, List.cons_subset,
        List.nil_subset, and_true, hp₀, hb₀];done)
    | (refine Evolves.foldl _ _ _ (fun u x => ?_) ?_ <;> try dsimp only)
    | (refine Evolves.foldl_fst _ _ _ (fun u x => ?_) ?_ <;> try dsimp only)
    | split)

theorem State.memoryAsleep_evolves {ps₀ : List Part} {b₀ : State} (s : State)
    (hp₀ : [.regs] ⊆ ps₀) (hb₀ : Evolves ps₀ b₀ s) :
    Evolves ps₀ b₀ (State.memoryAsleep s) := by
  simp only [List.cons_subset, List.nil_subset, and_true] at hp₀
  unfold State.memoryAsleep
  try dsimp only
  repeat' (first
    | focus (simp (maxDischargeDepth := 60) only [↓State.setBit_evolves, ↓State.setFld_evolves, ↓Evolves.foldl,
        ↓Evolves.foldl_fst, ↓Evolves.ite, ↓Evolves.ite_fst, ↓Evolves.elim_opt, Evolves.refl, Nat.le_add_right, implies_true,
        List.cons_subset, List.nil_subset, and_true, hp₀, hb₀];done)
    | (refine Evolves.foldl _ _ _ (fun u x => ?_) ?_ <;> try dsimp only)
    | (refine Evolves.foldl_fst _ _ _ (fun u x => ?_) ?_ <;> try dsimp only)
    | split)

theorem State.senderRestarted_evolves {ps₀ : List Part} {b₀ : State} (s : State)
    (hp₀ : [.regs, .scan, .red] ⊆ ps₀) (hb₀ : Evolves ps₀ b₀ s) :
    Evolves ps₀ b₀ (State.senderRestarted s) := by
  simp only [List.cons_subset, List.nil_subset, and_true] at hp₀
  unfold State.senderRestarted
  try dsimp only
  repeat' (first
    | focus (simp (maxDischargeDepth := 60) only [↓State.setFlag_evolves, ↓Evolves.set_scan, ↓Evolves.set_red,
        ↓Evolves.set_scan_red, ↓Evolves.foldl, ↓Evolves.foldl_fst, ↓Evolves.ite, ↓Evolves.ite_fst, ↓Evolves.elim_opt,
        Evolves.refl, Nat.le_add_right, implies_true, List.cons_subset, List.nil_subset, and_true, hp₀, hb₀];done)
    | (refine Evolves.foldl _ _ _ (fun u x => ?_) ?_ <;> try dsimp only)
    | (refine Evolves.foldl_fst _ _ _ (fun u x => ?_) ?_ <;> try dsimp only)
    | split)

theorem State.tileRestarted_evolves {ps₀ : List Part} {b₀ : State} (s : State)
    (hp₀ : [.regs, .tile, .lamp, .diag] ⊆ ps₀) (hb₀ : Evolves ps₀ b₀ s) :
    Evolves ps₀ b₀ (State.tileRestarted s) := by
  simp only [List.cons_subset, List.nil_subset, and_true] at hp₀
  unfold State.tileRestarted
  have h1 : Evolves ps₀ b₀ (s.setFlag F.TIL_STAT_BUILD_BUSY false) := State.setFlag_evolves _ _ _ (by simp [hp₀]) hb₀
  exact Evolves.change (s := s.setFlag F.TIL_STAT_BUILD_BUSY false) (h := h1) _
    (fun p hn => by cases p <;> first | rfl | simp_all) rfl rfl rfl rfl id

theorem State.beginWarm_evolves {ps₀ : List Part} {b₀ : State} (s : State)
    (hp₀ : [.regs, .fresh, .cycles, .wall, .sent, .gen, .gnt, .txn, .cmd, .flip, .sched, .link, .map, .repl, .faults, .rst, .thm, .nvm, .boot, .net0, .net1, .time, .video, .scan, .lanes, .tile, .lamp, .diag, .red] ⊆ ps₀) (hb₀ : Evolves ps₀ b₀ s) :
    Evolves ps₀ b₀ (State.beginWarm s) := by
  simp only [List.cons_subset, List.nil_subset, and_true] at hp₀
  unfold State.beginWarm
  try dsimp only
  repeat' (first
    | focus (simp (maxDischargeDepth := 60) only [↓State.setMode_evolves, ↓State.abandonSwap_evolves,
        ↓State.finishWaiting_evolves, ↓State.setFld_evolves, ↓State.setTimeMode_evolves, ↓State.memoryAsleep_evolves,
        ↓State.restartSeries_evolves, ↓State.tileRestarted_evolves, ↓State.senderRestarted_evolves, ↓Evolves.set_gen,
        ↓Evolves.set_gnt, ↓Evolves.set_cmd, ↓Evolves.set_link, ↓Evolves.set_rst, ↓Evolves.set_boot, ↓Evolves.set_gen_gnt,
        ↓Evolves.set_cmd_link, ↓Evolves.set_rst_boot, ↓Evolves.set_gen_gnt_cmd_link_rst_boot, ↓Evolves.foldl, ↓Evolves.foldl_fst,
        ↓Evolves.ite, ↓Evolves.ite_fst, ↓Evolves.elim_opt, Evolves.refl, Nat.le_add_right, implies_true, List.cons_subset,
        List.nil_subset, and_true, hp₀, hb₀];done)
    | (refine Evolves.foldl _ _ _ (fun u x => ?_) ?_ <;> try dsimp only)
    | (refine Evolves.foldl_fst _ _ _ (fun u x => ?_) ?_ <;> try dsimp only)
    | split)

theorem State.startReset_evolves {ps₀ : List Part} {b₀ : State} (s : State) (src level upTo : Nat) (straps : Option (Nat × Bool)) (hot : Bool)
    (hp₀ : [.regs, .fresh, .cycles, .wall, .sent, .gen, .gnt, .txn, .cmd, .flip, .sched, .link, .map, .repl, .faults, .rst, .thm, .nvm, .boot, .dram, .chk, .net0, .net1, .time, .video, .scan, .lanes, .tile, .lamp, .diag, .snaps, .red] ⊆ ps₀) (hb₀ : Evolves ps₀ b₀ s) :
    Evolves ps₀ b₀ (State.startReset s src level upTo straps hot) := by
  have h0 : Evolves ps₀ b₀ (if level < 2 then s.abandonSwap 6 true else s) :=
    Evolves.ite (State.abandonSwap_evolves _ _ _ (fun p h => hp₀ (by revert p; decide)) hb₀) hb₀
  unfold State.startReset
  dsimp only
  generalize (if level < 2 then s.abandonSwap 6 true else s) = s0 at *
  have h1 : Evolves ps₀ b₀ (if level < 2 then s0.hardReset level false else s0.beginWarm) :=
    Evolves.ite (State.hardReset_evolves _ _ _ (fun p h => hp₀ (by revert p; decide)) h0)
      (State.beginWarm_evolves _ (fun p h => hp₀ (by revert p; decide)) h0)
  generalize (if level < 2 then s0.hardReset level false else s0.beginWarm) = s1 at *
  simp only [List.cons_subset, List.nil_subset, and_true] at hp₀
  simp (maxDischargeDepth := 60) only [↓Evolves.set_rst, ↓State.setFld_evolves, List.cons_subset, List.nil_subset, and_true, hp₀,
      h1]

theorem State.resetSource_evolves {ps₀ : List Part} {b₀ : State} (s : State) (src upTo : Nat) (straps : Option (Nat × Bool)) (hot : Bool)
    (hp₀ : [.regs, .fresh, .cycles, .wall, .sent, .gen, .gnt, .txn, .cmd, .flip, .sched, .link, .map, .repl, .faults, .rst, .thm, .nvm, .boot, .dram, .chk, .net0, .net1, .time, .video, .scan, .lanes, .tile, .lamp, .diag, .snaps, .red] ⊆ ps₀) (hb₀ : Evolves ps₀ b₀ s) :
    Evolves ps₀ b₀ (State.resetSource s src upTo straps hot) := by
  simp only [List.cons_subset, List.nil_subset, and_true] at hp₀
  unfold State.resetSource
  try dsimp only
  repeat' (first
    | focus (simp (maxDischargeDepth := 60) only [↓State.setBit_evolves, ↓State.startReset_evolves, ↓Evolves.foldl,
        ↓Evolves.foldl_fst, ↓Evolves.ite, ↓Evolves.ite_fst, ↓Evolves.elim_opt, Evolves.refl, Nat.le_add_right, implies_true,
        List.cons_subset, List.nil_subset, and_true, hp₀, hb₀];done)
    | (refine Evolves.foldl _ _ _ (fun u x => ?_) ?_ <;> try dsimp only)
    | (refine Evolves.foldl_fst _ _ _ (fun u x => ?_) ?_ <;> try dsimp only)
    | split)

theorem State.countedFailure_evolves {ps₀ : List Part} {b₀ : State} (s : State) (code : Nat)
    (hp₀ : [.regs, .fresh, .cycles, .wall, .sent, .gen, .gnt, .txn, .cmd, .flip, .sched, .link, .map, .repl, .faults, .rst, .thm, .nvm, .boot, .dram, .chk, .net0, .net1, .time, .video, .scan, .lanes, .tile, .lamp, .diag, .snaps, .red] ⊆ ps₀) (hb₀ : Evolves ps₀ b₀ s) :
    Evolves ps₀ b₀ (State.countedFailure s code) := by
  simp only [List.cons_subset, List.nil_subset, and_true] at hp₀
  unfold State.countedFailure
  try dsimp only
  repeat' (first
    | focus (simp (maxDischargeDepth := 60) only [↓State.noteFail_evolves, ↓State.setFld_evolves, ↓State.writeHdr_evolves,
        ↓State.enterMitten_evolves, ↓State.startReset_evolves, ↓Evolves.foldl, ↓Evolves.foldl_fst, ↓Evolves.ite, ↓Evolves.ite_fst,
        ↓Evolves.elim_opt, Evolves.refl, Nat.le_add_right, implies_true, List.cons_subset, List.nil_subset, and_true, hp₀,
        hb₀];done)
    | (refine Evolves.foldl _ _ _ (fun u x => ?_) ?_ <;> try dsimp only)
    | (refine Evolves.foldl_fst _ _ _ (fun u x => ?_) ?_ <;> try dsimp only)
    | split)

theorem execPowerOn_evolves (s : State) :
    ∃ t₁, execPowerOn s = .next t₁ ∧ Evolves [.regs, .wall, .gen, .gnt, .txn, .cmd, .flip, .sched, .link, .map, .repl, .faults, .rst, .thm, .boot, .dram, .chk, .net0, .net1, .time, .video, .scan, .lanes, .tile, .lamp, .diag, .snaps, .red] s t₁ := by
  refine ⟨_, rfl, ?_⟩
  exact Evolves.set_rst _ (by simp) (State.hardReset_evolves _ _ _ (by simp) (Evolves.refl _ _))

theorem execResetN_evolves (lowNs role : Nat) (factoryEn : Bool) (s : State) :
    ∃ t₁, execResetN lowNs role factoryEn s = .next t₁ ∧ Evolves [.regs, .fresh, .cycles, .wall, .sent, .gen, .gnt, .txn, .cmd, .flip, .sched, .link, .map, .repl, .faults, .rst, .thm, .nvm, .boot, .dram, .chk, .net0, .net1, .time, .video, .scan, .lanes, .tile, .lamp, .diag, .snaps, .red] s t₁ := by
  have hb₀ := Evolves.refl [.regs, .fresh, .cycles, .wall, .sent, .gen, .gnt, .txn, .cmd, .flip, .sched, .link, .map, .repl, .faults, .rst, .thm, .nvm, .boot, .dram, .chk, .net0, .net1, .time, .video, .scan, .lanes, .tile, .lamp, .diag, .snaps, .red] s
  unfold execResetN
  refine ⟨_, rfl, ?_⟩
  try dsimp only
  repeat' (first
    | focus (simp (maxDischargeDepth := 60) only [↓State.resetSource_evolves, ↓Evolves.foldl, ↓Evolves.foldl_fst, ↓Evolves.ite,
        ↓Evolves.ite_fst, ↓Evolves.elim_opt, Evolves.refl, Nat.le_add_right, implies_true, List.cons_subset, List.nil_subset,
        and_true, List.mem_cons, reduceCtorEq, true_or, or_true, false_or, or_false, hb₀];done)
    | (refine Evolves.foldl _ _ _ (fun u x => ?_) ?_ <;> try dsimp only)
    | (refine Evolves.foldl_fst _ _ _ (fun u x => ?_) ?_ <;> try dsimp only)
    | split)

theorem State.supplyFault_evolves {ps₀ : List Part} {b₀ : State} (s : State) (goodNs : Nat)
    (hp₀ : [.regs, .fresh, .cycles, .wall, .sent, .gen, .gnt, .txn, .cmd, .flip, .sched, .link, .map, .repl, .faults, .rst, .thm, .nvm, .boot, .dram, .chk, .net0, .net1, .time, .video, .scan, .lanes, .tile, .lamp, .diag, .snaps, .red] ⊆ ps₀) (hb₀ : Evolves ps₀ b₀ s) :
    Evolves ps₀ b₀ (State.supplyFault s goodNs) := by
  simp only [List.cons_subset, List.nil_subset, and_true] at hp₀
  unfold State.supplyFault
  try dsimp only
  repeat' (first
    | focus (simp (maxDischargeDepth := 60) only [↓State.resetSource_evolves, ↓State.faultLater_evolves, ↓Evolves.foldl,
        ↓Evolves.foldl_fst, ↓Evolves.ite, ↓Evolves.ite_fst, ↓Evolves.elim_opt, Evolves.refl, Nat.le_add_right, implies_true,
        List.cons_subset, List.nil_subset, and_true, hp₀, hb₀];done)
    | (refine Evolves.foldl _ _ _ (fun u x => ?_) ?_ <;> try dsimp only)
    | (refine Evolves.foldl_fst _ _ _ (fun u x => ?_) ?_ <;> try dsimp only)
    | split)

theorem execSupplyFault_evolves (goodNs : Nat) (s : State) :
    ∃ t₁, execSupplyFault goodNs s = .next t₁ ∧ Evolves [.regs, .fresh, .cycles, .wall, .sent, .gen, .gnt, .txn, .cmd, .flip, .sched, .link, .map, .repl, .faults, .rst, .thm, .nvm, .boot, .dram, .chk, .net0, .net1, .time, .video, .scan, .lanes, .tile, .lamp, .diag, .snaps, .red] s t₁ := by
  have hb₀ := Evolves.refl [.regs, .fresh, .cycles, .wall, .sent, .gen, .gnt, .txn, .cmd, .flip, .sched, .link, .map, .repl, .faults, .rst, .thm, .nvm, .boot, .dram, .chk, .net0, .net1, .time, .video, .scan, .lanes, .tile, .lamp, .diag, .snaps, .red] s
  unfold execSupplyFault
  refine ⟨_, rfl, ?_⟩
  try dsimp only
  repeat' (first
    | focus (simp (maxDischargeDepth := 60) only [↓State.supplyFault_evolves, ↓Evolves.foldl, ↓Evolves.foldl_fst, ↓Evolves.ite,
        ↓Evolves.ite_fst, ↓Evolves.elim_opt, Evolves.refl, Nat.le_add_right, implies_true, List.cons_subset, List.nil_subset,
        and_true, List.mem_cons, reduceCtorEq, true_or, or_true, false_or, or_false, hb₀];done)
    | (refine Evolves.foldl _ _ _ (fun u x => ?_) ?_ <;> try dsimp only)
    | (refine Evolves.foldl_fst _ _ _ (fun u x => ?_) ?_ <;> try dsimp only)
    | split)

theorem execWatchdogExpiry_evolves (proc : Nat) (s : State) :
    ∃ t₁, execWatchdogExpiry proc s = .next t₁ ∧ Evolves [.regs, .fresh, .cycles, .wall, .sent, .gen, .gnt, .txn, .cmd, .flip, .sched, .link, .map, .repl, .faults, .rst, .thm, .nvm, .boot, .dram, .chk, .net0, .net1, .time, .video, .scan, .lanes, .tile, .lamp, .diag, .snaps, .red] s t₁ := by
  have hb₀ := Evolves.refl [.regs, .fresh, .cycles, .wall, .sent, .gen, .gnt, .txn, .cmd, .flip, .sched, .link, .map, .repl, .faults, .rst, .thm, .nvm, .boot, .dram, .chk, .net0, .net1, .time, .video, .scan, .lanes, .tile, .lamp, .diag, .snaps, .red] s
  unfold execWatchdogExpiry
  refine ⟨_, rfl, ?_⟩
  try dsimp only
  repeat' (first
    | focus (simp (maxDischargeDepth := 60) only [↓State.bump_evolves, ↓State.setBit_evolves, ↓State.countedFailure_evolves,
        ↓State.startReset_evolves, ↓State.setFld_evolves, ↓State.resetSource_evolves, ↓Evolves.foldl, ↓Evolves.foldl_fst,
        ↓Evolves.ite, ↓Evolves.ite_fst, ↓Evolves.elim_opt, Evolves.refl, Nat.le_add_right, implies_true, List.cons_subset,
        List.nil_subset, and_true, List.mem_cons, reduceCtorEq, true_or, or_true, false_or, or_false, hb₀];done)
    | (refine Evolves.foldl _ _ _ (fun u x => ?_) ?_ <;> try dsimp only)
    | (refine Evolves.foldl_fst _ _ _ (fun u x => ?_) ?_ <;> try dsimp only)
    | split)

theorem execTestMode_evolves (high : Bool) (s : State) :
    ∃ t₁, execTestMode high s = .next t₁ ∧ Evolves [.regs, .wall, .gen, .gnt, .txn, .cmd, .flip, .sched, .link, .map, .repl, .faults, .rst, .thm, .boot, .dram, .chk, .net0, .net1, .time, .video, .scan, .lanes, .tile, .lamp, .diag, .snaps, .red] s t₁ := by
  refine ⟨_, rfl, ?_⟩
  have h1 : Evolves [.regs, .wall, .gen, .gnt, .txn, .cmd, .flip, .sched, .link, .map, .repl, .faults, .rst, .thm, .boot, .dram, .chk, .net0, .net1, .time, .video, .scan, .lanes, .tile, .lamp, .diag, .snaps, .red] s { s with rst := { s.rst with testMode := high } } := Evolves.set_rst _ (by simp) (Evolves.refl _ _)
  dsimp only
  split
  · exact Evolves.set_rst _ (by simp) (State.hardReset_evolves _ _ _ (by simp) h1)
  · exact h1

theorem State.releaseReset_evolves {ps₀ : List Part} {b₀ : State} (s : State) (h : HeldReset) (role : Nat) (factoryEn : Bool)
    (hp₀ : [.regs, .cycles, .wall, .rst, .boot] ⊆ ps₀) (hb₀ : Evolves ps₀ b₀ s) :
    Evolves ps₀ b₀ (State.releaseReset s h role factoryEn) := by
  simp only [List.cons_subset, List.nil_subset, and_true] at hp₀
  unfold State.releaseReset
  try dsimp only
  repeat' (first
    | focus (simp (maxDischargeDepth := 60) only [↓State.untilCycle_evolves, ↓State.wrapInc_evolves, ↓State.setFlag_evolves,
        ↓State.setFld_evolves, ↓Evolves.set_rst, ↓Evolves.set_boot, ↓Evolves.set_rst_boot, ↓Evolves.foldl, ↓Evolves.foldl_fst,
        ↓Evolves.ite, ↓Evolves.ite_fst, ↓Evolves.elim_opt, Evolves.refl, Nat.le_add_right, implies_true, List.cons_subset,
        List.nil_subset, and_true, hp₀, hb₀];done)
    | (refine Evolves.foldl _ _ _ (fun u x => ?_) ?_ <;> try dsimp only)
    | (refine Evolves.foldl_fst _ _ _ (fun u x => ?_) ?_ <;> try dsimp only)
    | split)

theorem execResetRelease_evolves (role : Nat) (factoryEn : Bool) (s : State) :
    ∃ t₁, execResetRelease role factoryEn s = .next t₁ ∧ Evolves [.regs, .cycles, .wall, .rst, .boot] s t₁ := by
  have hb₀ := Evolves.refl [.regs, .cycles, .wall, .rst, .boot] s
  unfold execResetRelease
  refine ⟨_, rfl, ?_⟩
  try dsimp only
  repeat' (first
    | focus (simp (maxDischargeDepth := 60) only [↓State.releaseReset_evolves, ↓Evolves.foldl, ↓Evolves.foldl_fst, ↓Evolves.ite,
        ↓Evolves.ite_fst, ↓Evolves.elim_opt, Evolves.refl, Nat.le_add_right, implies_true, List.cons_subset, List.nil_subset,
        and_true, List.mem_cons, reduceCtorEq, true_or, or_true, false_or, or_false, hb₀];done)
    | (refine Evolves.foldl _ _ _ (fun u x => ?_) ?_ <;> try dsimp only)
    | (refine Evolves.foldl_fst _ _ _ (fun u x => ?_) ?_ <;> try dsimp only)
    | split)

theorem State.loadFuses_evolves {ps₀ : List Part} {b₀ : State} (s : State)
    (hp₀ : [.regs] ⊆ ps₀) (hb₀ : Evolves ps₀ b₀ s) :
    Evolves ps₀ b₀ (State.loadFuses s) := by
  simp only [List.cons_subset, List.nil_subset, and_true] at hp₀
  unfold State.loadFuses
  try dsimp only
  repeat' (first
    | focus (simp (maxDischargeDepth := 60) only [↓State.setFld_evolves, ↓State.setFlag_evolves, ↓Evolves.foldl,
        ↓Evolves.foldl_fst, ↓Evolves.ite, ↓Evolves.ite_fst, ↓Evolves.elim_opt, Evolves.refl, Nat.le_add_right, implies_true,
        List.cons_subset, List.nil_subset, and_true, hp₀, hb₀];done)
    | (refine Evolves.foldl _ _ _ (fun u x => ?_) ?_ <;> try dsimp only)
    | (refine Evolves.foldl_fst _ _ _ (fun u x => ?_) ?_ <;> try dsimp only)
    | split)

theorem State.loadMac_evolves {ps₀ : List Part} {b₀ : State} (s : State) (p : Nat)
    (hp₀ : [.regs] ⊆ ps₀) (hb₀ : Evolves ps₀ b₀ s) :
    Evolves ps₀ b₀ (State.loadMac s p) := by
  simp only [List.cons_subset, List.nil_subset, and_true] at hp₀
  unfold State.loadMac
  try dsimp only
  repeat' (first
    | focus (simp (maxDischargeDepth := 60) only [↓State.setFld_evolves, ↓Evolves.foldl, ↓Evolves.foldl_fst, ↓Evolves.ite,
        ↓Evolves.ite_fst, ↓Evolves.elim_opt, Evolves.refl, Nat.le_add_right, implies_true, List.cons_subset, List.nil_subset,
        and_true, hp₀, hb₀];done)
    | (refine Evolves.foldl _ _ _ (fun u x => ?_) ?_ <;> try dsimp only)
    | (refine Evolves.foldl_fst _ _ _ (fun u x => ?_) ?_ <;> try dsimp only)
    | split)

theorem execFusePassDone_evolves (same : Bool) (s : State) :
    ∃ t₁, execFusePassDone same s = .next t₁ ∧ Evolves [.regs, .cycles, .wall, .rst, .boot] s t₁ := by
  have hb₀ := Evolves.refl [.regs, .cycles, .wall, .rst, .boot] s
  unfold execFusePassDone
  refine ⟨_, rfl, ?_⟩
  try dsimp only
  repeat' (first
    | focus (simp (maxDischargeDepth := 60) only [↓State.ticks_evolves, ↓State.loadMac_evolves, ↓State.loadFuses_evolves,
        ↓State.wrapInc_evolves, ↓State.bump_evolves, ↓State.setFld_evolves, ↓Evolves.set_rst, ↓Evolves.set_boot,
        ↓Evolves.set_rst_boot, ↓Evolves.foldl, ↓Evolves.foldl_fst, ↓Evolves.ite, ↓Evolves.ite_fst, ↓Evolves.elim_opt,
        Evolves.refl, Nat.le_add_right, implies_true, List.cons_subset, List.nil_subset, and_true, List.mem_cons, reduceCtorEq,
        true_or, or_true, false_or, or_false, hb₀];done)
    | (refine Evolves.foldl _ _ _ (fun u x => ?_) ?_ <;> try dsimp only)
    | (refine Evolves.foldl_fst _ _ _ (fun u x => ?_) ?_ <;> try dsimp only)
    | split)

theorem State.clearReadOnly_evolves {ps₀ : List Part} {b₀ : State} (s : State) (lo hi : Nat)
    (hp₀ : [.regs] ⊆ ps₀) (hb₀ : Evolves ps₀ b₀ s) :
    Evolves ps₀ b₀ (State.clearReadOnly s lo hi) := by
  simp only [List.cons_subset, List.nil_subset, and_true] at hp₀
  unfold State.clearReadOnly
  try dsimp only
  repeat' (first
    | focus (simp (maxDischargeDepth := 60) only [↓State.setReg_evolves, ↓Evolves.foldl, ↓Evolves.foldl_fst, ↓Evolves.ite,
        ↓Evolves.ite_fst, ↓Evolves.elim_opt, Evolves.refl, Nat.le_add_right, implies_true, List.cons_subset, List.nil_subset,
        and_true, hp₀, hb₀];done)
    | (refine Evolves.foldl _ _ _ (fun u x => ?_) ?_ <;> try dsimp only)
    | (refine Evolves.foldl_fst _ _ _ (fun u x => ?_) ?_ <;> try dsimp only)
    | split)

theorem State.memoryOptions_evolves {ps₀ : List Part} {b₀ : State} (s : State) (h : List Byte)
    (hp₀ : [.regs] ⊆ ps₀) (hb₀ : Evolves ps₀ b₀ s) :
    Evolves ps₀ b₀ (State.memoryOptions s h) := by
  simp only [List.cons_subset, List.nil_subset, and_true] at hp₀
  unfold State.memoryOptions
  try dsimp only
  repeat' (first
    | focus (simp (maxDischargeDepth := 60) only [↓State.setFld_evolves, ↓Evolves.foldl, ↓Evolves.foldl_fst, ↓Evolves.ite,
        ↓Evolves.ite_fst, ↓Evolves.elim_opt, Evolves.refl, Nat.le_add_right, implies_true, List.cons_subset, List.nil_subset,
        and_true, hp₀, hb₀];done)
    | (refine Evolves.foldl _ _ _ (fun u x => ?_) ?_ <;> try dsimp only)
    | (refine Evolves.foldl_fst _ _ _ (fun u x => ?_) ?_ <;> try dsimp only)
    | split)

theorem State.clearBlock_evolves {ps₀ : List Part} {b₀ : State} (s : State) (b : Nat)
    (hp₀ : [.txn, .map, .dram, .chk, .net0, .net1, .video, .scan, .tile, .lamp, .diag] ⊆ ps₀) (hb₀ : Evolves ps₀ b₀ s) :
    Evolves ps₀ b₀ (State.clearBlock s b) := by
  have hp₁ := hp₀
  simp only [List.cons_subset, List.nil_subset, and_true] at hp₀
  unfold State.clearBlock
  split
  · exact Evolves.set_chk _ (by simp [hp₀]) hb₀
  · exact Evolves.set_video _ (by simp [hp₀]) hb₀
  · exact Evolves.set_net0 _ (by simp [hp₀]) hb₀
  · exact Evolves.set_net1 _ (by simp [hp₀]) hb₀
  · exact Evolves.change (s := s) (h := hb₀) _ (fun p hn => by cases p <;> first | rfl | exact absurd (hp₁ (by simp)) hn) rfl rfl rfl rfl
      (fun hc => ⟨hc.1, hc.2.1, rfl, rfl, hc.2.2.2.2⟩)
  · exact Evolves.change (s := s) (h := hb₀) _ (fun p hn => by cases p <;> first | rfl | exact absurd (hp₁ (by simp)) hn) rfl rfl rfl rfl
      (fun hc => ⟨hc.1, hc.2.1, hc.2.2.1, hc.2.2.2.1, hc.2.2.2.2.1, Sparse.wf_filter _ _ _ hc.2.2.2.2.2⟩)
  · exact State.clearStore_evolves _ _ _ (by simp [hp₀]) (Evolves.set_lamp_diag _ _ (by simp [hp₀]) (by simp [hp₀]) hb₀)
  · exact Evolves.change (s := s) (h := hb₀) _ (fun p hn => by cases p <;> first | rfl | exact absurd (hp₁ (by simp)) hn) rfl rfl rfl rfl
      (fun hc => hc)

theorem State.resetBlock_evolves {ps₀ : List Part} {b₀ : State} (s : State) (b : Nat)
    (hp₀ : [.regs, .txn, .map, .rst, .dram, .chk, .net0, .net1, .video, .scan, .tile, .lamp, .diag] ⊆ ps₀) (hb₀ : Evolves ps₀ b₀ s) :
    Evolves ps₀ b₀ (State.resetBlock s b) := by
  simp only [List.cons_subset, List.nil_subset, and_true] at hp₀
  unfold State.resetBlock
  try dsimp only
  repeat' (first
    | focus (simp (maxDischargeDepth := 60) only [↓State.clearBlock_evolves, ↓State.clearReadOnly_evolves, ↓State.loadMac_evolves,
        ↓State.keepFields_evolves, ↓State.memoryOptions_evolves, ↓Evolves.set_rst, ↓Evolves.foldl, ↓Evolves.foldl_fst,
        ↓Evolves.ite, ↓Evolves.ite_fst, ↓Evolves.elim_opt, Evolves.refl, Nat.le_add_right, implies_true, List.cons_subset,
        List.nil_subset, and_true, hp₀, hb₀];done)
    | (refine Evolves.foldl _ _ _ (fun u x => ?_) ?_ <;> try dsimp only)
    | (refine Evolves.foldl_fst _ _ _ (fun u x => ?_) ?_ <;> try dsimp only)
    | split)

theorem State.requestBlock_evolves {ps₀ : List Part} {b₀ : State} (s : State) (b : Nat)
    (hp₀ : [.regs, .txn, .map, .rst, .dram, .chk, .net0, .net1, .video, .scan, .tile, .lamp, .diag] ⊆ ps₀) (hb₀ : Evolves ps₀ b₀ s) :
    Evolves ps₀ b₀ (State.requestBlock s b) := by
  simp only [List.cons_subset, List.nil_subset, and_true] at hp₀
  unfold State.requestBlock
  try dsimp only
  repeat' (first
    | focus (simp (maxDischargeDepth := 60) only [↓State.event_evolves, ↓State.resetBlock_evolves, ↓State.setBit_evolves,
        ↓Evolves.foldl, ↓Evolves.foldl_fst, ↓Evolves.ite, ↓Evolves.ite_fst, ↓Evolves.elim_opt, Evolves.refl, Nat.le_add_right,
        implies_true, List.cons_subset, List.nil_subset, and_true, hp₀, hb₀];done)
    | (refine Evolves.foldl _ _ _ (fun u x => ?_) ?_ <;> try dsimp only)
    | (refine Evolves.foldl_fst _ _ _ (fun u x => ?_) ?_ <;> try dsimp only)
    | split)

theorem State.holdRelease_evolves {ps₀ : List Part} {b₀ : State} (s : State) (b : Nat)
    (hp₀ : [.regs] ⊆ ps₀) (hb₀ : Evolves ps₀ b₀ s) :
    Evolves ps₀ b₀ (State.holdRelease s b) := by
  simp only [List.cons_subset, List.nil_subset, and_true] at hp₀
  unfold State.holdRelease
  try dsimp only
  repeat' (first
    | focus (simp (maxDischargeDepth := 60) only [↓State.setBit_evolves, ↓State.event_evolves, ↓Evolves.foldl, ↓Evolves.foldl_fst,
        ↓Evolves.ite, ↓Evolves.ite_fst, ↓Evolves.elim_opt, Evolves.refl, Nat.le_add_right, implies_true, List.cons_subset,
        List.nil_subset, and_true, hp₀, hb₀];done)
    | (refine Evolves.foldl _ _ _ (fun u x => ?_) ?_ <;> try dsimp only)
    | (refine Evolves.foldl_fst _ _ _ (fun u x => ?_) ?_ <;> try dsimp only)
    | split)

theorem State.restartBlock_evolves {ps₀ : List Part} {b₀ : State} (s : State) (b : Nat)
    (hp₀ : [.regs, .sent, .link, .repl, .faults, .nvm, .video, .scan, .red] ⊆ ps₀) (hb₀ : Evolves ps₀ b₀ s) :
    Evolves ps₀ b₀ (State.restartBlock s b) := by
  simp only [List.cons_subset, List.nil_subset, and_true] at hp₀
  unfold State.restartBlock
  try dsimp only
  repeat' (first
    | focus (simp (maxDischargeDepth := 60) only [↓State.setSrcMode_evolves, ↓State.srcOff_evolves, ↓State.writeFilters_evolves,
        ↓State.reactReads_evolves, ↓State.reactViews_evolves, ↓State.judgeBank_evolves, ↓State.setFld_evolves, ↓Evolves.foldl,
        ↓Evolves.foldl_fst, ↓Evolves.ite, ↓Evolves.ite_fst, ↓Evolves.elim_opt, Evolves.refl, Nat.le_add_right, implies_true,
        List.cons_subset, List.nil_subset, and_true, hp₀, hb₀];done)
    | (refine Evolves.foldl _ _ _ (fun u x => ?_) ?_ <;> try dsimp only)
    | (refine Evolves.foldl_fst _ _ _ (fun u x => ?_) ?_ <;> try dsimp only)
    | split)

theorem State.releaseBlock_evolves {ps₀ : List Part} {b₀ : State} (s : State) (b : Nat)
    (hp₀ : [.regs, .sent, .link, .repl, .faults, .rst, .nvm, .video, .scan, .red] ⊆ ps₀) (hb₀ : Evolves ps₀ b₀ s) :
    Evolves ps₀ b₀ (State.releaseBlock s b) := by
  simp only [List.cons_subset, List.nil_subset, and_true] at hp₀
  unfold State.releaseBlock
  try dsimp only
  repeat' (first
    | focus (simp (maxDischargeDepth := 60) only [↓State.restartBlock_evolves, ↓State.bump_evolves, ↓State.event_evolves,
        ↓State.setBit_evolves, ↓Evolves.set_rst, ↓Evolves.foldl, ↓Evolves.foldl_fst, ↓Evolves.ite, ↓Evolves.ite_fst,
        ↓Evolves.elim_opt, Evolves.refl, Nat.le_add_right, implies_true, List.cons_subset, List.nil_subset, and_true, hp₀,
        hb₀];done)
    | (refine Evolves.foldl _ _ _ (fun u x => ?_) ?_ <;> try dsimp only)
    | (refine Evolves.foldl_fst _ _ _ (fun u x => ?_) ?_ <;> try dsimp only)
    | split)

theorem execBlockRelease_evolves (block : Nat) (s : State) :
    ∃ t₁, execBlockRelease block s = .next t₁ ∧ Evolves [.regs, .cycles, .wall, .sent, .link, .repl, .faults, .rst, .nvm, .video, .scan, .red] s t₁ := by
  have hb₀ := Evolves.refl [.regs, .cycles, .wall, .sent, .link, .repl, .faults, .rst, .nvm, .video, .scan, .red] s
  unfold execBlockRelease
  refine ⟨_, rfl, ?_⟩
  try dsimp only
  repeat' (first
    | focus (simp (maxDischargeDepth := 60) only [↓State.untilCycle_evolves, ↓State.holdRelease_evolves,
        ↓State.releaseBlock_evolves, ↓Evolves.foldl, ↓Evolves.foldl_fst, ↓Evolves.ite, ↓Evolves.ite_fst, ↓Evolves.elim_opt,
        Evolves.refl, Nat.le_add_right, implies_true, List.cons_subset, List.nil_subset, and_true, List.mem_cons, reduceCtorEq,
        true_or, or_true, false_or, or_false, hb₀];done)
    | (refine Evolves.foldl _ _ _ (fun u x => ?_) ?_ <;> try dsimp only)
    | (refine Evolves.foldl_fst _ _ _ (fun u x => ?_) ?_ <;> try dsimp only)
    | split)

theorem execPllUnlock_evolves (pll : Nat) (s : State) :
    ∃ t₁, execPllUnlock pll s = .next t₁ ∧ Evolves [.regs, .fresh, .cycles, .wall, .sent, .gen, .gnt, .txn, .cmd, .flip, .sched, .link, .map, .repl, .faults, .rst, .thm, .nvm, .boot, .dram, .chk, .net0, .net1, .time, .video, .scan, .lanes, .tile, .lamp, .diag, .snaps, .red] s t₁ := by
  have hb₀ := Evolves.refl [.regs, .fresh, .cycles, .wall, .sent, .gen, .gnt, .txn, .cmd, .flip, .sched, .link, .map, .repl, .faults, .rst, .thm, .nvm, .boot, .dram, .chk, .net0, .net1, .time, .video, .scan, .lanes, .tile, .lamp, .diag, .snaps, .red] s
  unfold execPllUnlock
  refine ⟨_, rfl, ?_⟩
  try dsimp only
  repeat' (first
    | focus (simp (maxDischargeDepth := 60) only [↓State.event_evolves, ↓State.setFlag_evolves, ↓State.supplyFault_evolves,
        ↓State.resetBlock_evolves, ↓Evolves.foldl, ↓Evolves.foldl_fst, ↓Evolves.ite, ↓Evolves.ite_fst, ↓Evolves.elim_opt,
        Evolves.refl, Nat.le_add_right, implies_true, List.cons_subset, List.nil_subset, and_true, List.mem_cons, reduceCtorEq,
        true_or, or_true, false_or, or_false, hb₀];done)
    | (refine Evolves.foldl _ _ _ (fun u x => ?_) ?_ <;> try dsimp only)
    | (refine Evolves.foldl_fst _ _ _ (fun u x => ?_) ?_ <;> try dsimp only)
    | split)

theorem execPllRelock_evolves (pll : Nat) (s : State) :
    ∃ t₁, execPllRelock pll s = .next t₁ ∧ Evolves [.regs, .rst] s t₁ := by
  have hb₀ := Evolves.refl [.regs, .rst] s
  unfold execPllRelock
  refine ⟨_, rfl, ?_⟩
  try dsimp only
  repeat' (first
    | focus (simp (maxDischargeDepth := 60) only [↓State.setFlag_evolves, ↓Evolves.set_rst, ↓Evolves.foldl, ↓Evolves.foldl_fst,
        ↓Evolves.ite, ↓Evolves.ite_fst, ↓Evolves.elim_opt, Evolves.refl, Nat.le_add_right, implies_true, List.cons_subset,
        List.nil_subset, and_true, List.mem_cons, reduceCtorEq, true_or, or_true, false_or, or_false, hb₀];done)
    | (refine Evolves.foldl _ _ _ (fun u x => ?_) ?_ <;> try dsimp only)
    | (refine Evolves.foldl_fst _ _ _ (fun u x => ?_) ?_ <;> try dsimp only)
    | split)

theorem execRefLost_evolves (ref : Nat) (s : State) :
    ∃ t₁, execRefLost ref s = .next t₁ ∧ Evolves [.regs] s t₁ := by
  have hb₀ := Evolves.refl [.regs] s
  unfold execRefLost
  refine ⟨_, rfl, ?_⟩
  try dsimp only
  repeat' (first
    | focus (simp (maxDischargeDepth := 60) only [↓State.event_evolves, ↓State.setFlag_evolves, ↓Evolves.foldl,
        ↓Evolves.foldl_fst, ↓Evolves.ite, ↓Evolves.ite_fst, ↓Evolves.elim_opt, Evolves.refl, Nat.le_add_right, implies_true,
        List.cons_subset, List.nil_subset, and_true, List.mem_cons, reduceCtorEq, true_or, or_true, false_or, or_false, hb₀];done)
    | (refine Evolves.foldl _ _ _ (fun u x => ?_) ?_ <;> try dsimp only)
    | (refine Evolves.foldl_fst _ _ _ (fun u x => ?_) ?_ <;> try dsimp only)
    | split)

theorem execReferenceReturn_evolves (ref : Nat) (s : State) :
    ∃ t₁, execReferenceReturn ref s = .next t₁ ∧ Evolves [.regs] s t₁ := by
  have hb₀ := Evolves.refl [.regs] s
  unfold execReferenceReturn
  refine ⟨_, rfl, ?_⟩
  try dsimp only
  repeat' (first
    | focus (simp (maxDischargeDepth := 60) only [↓State.setFlag_evolves, ↓Evolves.foldl, ↓Evolves.foldl_fst, ↓Evolves.ite,
        ↓Evolves.ite_fst, ↓Evolves.elim_opt, Evolves.refl, Nat.le_add_right, implies_true, List.cons_subset, List.nil_subset,
        and_true, List.mem_cons, reduceCtorEq, true_or, or_true, false_or, or_false, hb₀];done)
    | (refine Evolves.foldl _ _ _ (fun u x => ?_) ?_ <;> try dsimp only)
    | (refine Evolves.foldl_fst _ _ _ (fun u x => ?_) ?_ <;> try dsimp only)
    | split)

end Sys2Proof.Machine
end

