-- ==== Sys2Proof/Laws/EvolveThermal.lean ====
section
/-! SUPPORT. What the operations of Machine/Thermal.lean keep (Evolves). -/

set_option linter.unusedSimpArgs false
set_option linter.unreachableTactic false
set_option linter.unusedTactic false
set_option linter.unusedVariables false

namespace Sys2Proof.Machine

theorem State.faultSoon_evolves {ps₀ : List Part} {b₀ : State} (s : State) (cls code : Nat) (detail : List Byte)
    (hp₀ : [.regs, .sent, .link, .repl, .faults, .nvm, .boot, .red] ⊆ ps₀) (hb₀ : Evolves ps₀ b₀ s) :
    Evolves ps₀ b₀ (State.faultSoon s cls code detail) := by
  simp only [List.cons_subset, List.nil_subset, and_true] at hp₀
  unfold State.faultSoon
  try dsimp only
  repeat' (first
    | focus (simp (maxDischargeDepth := 60) only [↓State.faultLater_evolves, ↓State.fault_evolves, ↓Evolves.foldl,
        ↓Evolves.foldl_fst, ↓Evolves.ite, ↓Evolves.ite_fst, ↓Evolves.elim_opt, Evolves.refl, Nat.le_add_right, implies_true,
        List.cons_subset, List.nil_subset, and_true, hp₀, hb₀];done)
    | (refine Evolves.foldl _ _ _ (fun u x => ?_) ?_ <;> try dsimp only)
    | (refine Evolves.foldl_fst _ _ _ (fun u x => ?_) ?_ <;> try dsimp only)
    | split)

theorem State.storeTemps_evolves {ps₀ : List Part} {b₀ : State} (s : State) (temps : List Int)
    (hp₀ : [.regs] ⊆ ps₀) (hb₀ : Evolves ps₀ b₀ s) :
    Evolves ps₀ b₀ (State.storeTemps s temps) := by
  simp only [List.cons_subset, List.nil_subset, and_true] at hp₀
  unfold State.storeTemps
  try dsimp only
  repeat' (first
    | focus (simp (maxDischargeDepth := 60) only [↓State.setFlag_evolves, ↓State.setFld_evolves, ↓Evolves.foldl,
        ↓Evolves.foldl_fst, ↓Evolves.ite, ↓Evolves.ite_fst, ↓Evolves.elim_opt, Evolves.refl, Nat.le_add_right, implies_true,
        List.cons_subset, List.nil_subset, and_true, hp₀, hb₀];done)
    | (refine Evolves.foldl _ _ _ (fun u x => ?_) ?_ <;> try dsimp only)
    | (refine Evolves.foldl_fst _ _ _ (fun u x => ?_) ?_ <;> try dsimp only)
    | split)

theorem State.judgeThreshold_evolves {ps₀ : List Part} {b₀ : State} (s : State) (bit evt : Fld) (c code : Nat) (t : Int) (sensor : Nat)
    (hp₀ : [.regs, .sent, .link, .repl, .faults, .nvm, .boot, .red] ⊆ ps₀) (hb₀ : Evolves ps₀ b₀ s) :
    Evolves ps₀ b₀ (State.judgeThreshold s bit evt c code t sensor) := by
  simp only [List.cons_subset, List.nil_subset, and_true] at hp₀
  unfold State.judgeThreshold
  try dsimp only
  repeat' (first
    | focus (simp (maxDischargeDepth := 60) only [↓State.setFlag_evolves, ↓State.faultSoon_evolves, ↓State.event_evolves,
        ↓Evolves.foldl, ↓Evolves.foldl_fst, ↓Evolves.ite, ↓Evolves.ite_fst, ↓Evolves.elim_opt, Evolves.refl, Nat.le_add_right,
        implies_true, List.cons_subset, List.nil_subset, and_true, hp₀, hb₀];done)
    | (refine Evolves.foldl _ _ _ (fun u x => ?_) ?_ <;> try dsimp only)
    | (refine Evolves.foldl_fst _ _ _ (fun u x => ?_) ?_ <;> try dsimp only)
    | split)

theorem State.hotHold_evolves {ps₀ : List Part} {b₀ : State} (s : State) (t : Int) (sensor : Nat)
    (hp₀ : [.rst, .thm, .boot] ⊆ ps₀) (hb₀ : Evolves ps₀ b₀ s) :
    Evolves ps₀ b₀ (State.hotHold s t sensor) := by
  simp only [List.cons_subset, List.nil_subset, and_true] at hp₀
  unfold State.hotHold
  try dsimp only
  repeat' (first
    | focus (simp (maxDischargeDepth := 60) only [↓State.faultLater_evolves, ↓Evolves.set_rst, ↓Evolves.set_thm,
        ↓Evolves.set_rst_thm, ↓Evolves.foldl, ↓Evolves.foldl_fst, ↓Evolves.ite, ↓Evolves.ite_fst, ↓Evolves.elim_opt, Evolves.refl,
        Nat.le_add_right, implies_true, List.cons_subset, List.nil_subset, and_true, hp₀, hb₀];done)
    | (refine Evolves.foldl _ _ _ (fun u x => ?_) ?_ <;> try dsimp only)
    | (refine Evolves.foldl_fst _ _ _ (fun u x => ?_) ?_ <;> try dsimp only)
    | split)

theorem State.judgeShutdown_evolves {ps₀ : List Part} {b₀ : State} (s : State) (t : Int) (sensor : Nat)
    (hp₀ : [.regs, .fresh, .cycles, .wall, .sent, .gen, .gnt, .txn, .cmd, .flip, .sched, .link, .map, .repl, .faults, .rst, .thm, .nvm, .boot, .dram, .chk, .net0, .net1, .time, .video, .scan, .lanes, .tile, .lamp, .diag, .snaps, .red] ⊆ ps₀) (hb₀ : Evolves ps₀ b₀ s) :
    Evolves ps₀ b₀ (State.judgeShutdown s t sensor) := by
  simp only [List.cons_subset, List.nil_subset, and_true] at hp₀
  unfold State.judgeShutdown
  try dsimp only
  repeat' (first
    | focus (simp (maxDischargeDepth := 60) only [↓State.resetSource_evolves, ↓Evolves.set_thm, ↓Evolves.foldl,
        ↓Evolves.foldl_fst, ↓Evolves.ite, ↓Evolves.ite_fst, ↓Evolves.elim_opt, Evolves.refl, Nat.le_add_right, implies_true,
        List.cons_subset, List.nil_subset, and_true, hp₀, hb₀];done)
    | (refine Evolves.foldl _ _ _ (fun u x => ?_) ?_ <;> try dsimp only)
    | (refine Evolves.foldl_fst _ _ _ (fun u x => ?_) ?_ <;> try dsimp only)
    | split)

theorem execDieConversion_evolves (temps : List Int) (s : State) :
    ∃ t₁, execDieConversion temps s = .next t₁ ∧ Evolves [.regs, .fresh, .cycles, .wall, .sent, .gen, .gnt, .txn, .cmd, .flip, .sched, .link, .map, .repl, .faults, .rst, .thm, .nvm, .boot, .dram, .chk, .net0, .net1, .time, .video, .scan, .lanes, .tile, .lamp, .diag, .snaps, .red] s t₁ := by
  have hb₀ := Evolves.refl [.regs, .fresh, .cycles, .wall, .sent, .gen, .gnt, .txn, .cmd, .flip, .sched, .link, .map, .repl, .faults, .rst, .thm, .nvm, .boot, .dram, .chk, .net0, .net1, .time, .video, .scan, .lanes, .tile, .lamp, .diag, .snaps, .red] s
  unfold execDieConversion
  refine ⟨_, rfl, ?_⟩
  try dsimp only
  repeat' (first
    | focus (simp (maxDischargeDepth := 60) only [↓State.setFld_evolves, ↓State.storeTemps_evolves, ↓State.hotHold_evolves,
        ↓State.judgeThreshold_evolves, ↓State.judgeShutdown_evolves, ↓State.retrainTriggers_evolves, ↓Evolves.set_thm,
        ↓Evolves.foldl, ↓Evolves.foldl_fst, ↓Evolves.ite, ↓Evolves.ite_fst, ↓Evolves.elim_opt, Evolves.refl, Nat.le_add_right,
        implies_true, List.cons_subset, List.nil_subset, and_true, List.mem_cons, reduceCtorEq, true_or, or_true, false_or,
        or_false, hb₀];done)
    | (refine Evolves.foldl _ _ _ (fun u x => ?_) ?_ <;> try dsimp only)
    | (refine Evolves.foldl_fst _ _ _ (fun u x => ?_) ?_ <;> try dsimp only)
    | split)

theorem State.levelUp_evolves {ps₀ : List Part} {b₀ : State} (s : State)
    (hp₀ : [.regs, .thm] ⊆ ps₀) (hb₀ : Evolves ps₀ b₀ s) :
    Evolves ps₀ b₀ (State.levelUp s) := by
  simp only [List.cons_subset, List.nil_subset, and_true] at hp₀
  unfold State.levelUp
  try dsimp only
  repeat' (first
    | focus (simp (maxDischargeDepth := 60) only [↓State.event_evolves, ↓State.setFld_evolves, ↓Evolves.set_thm, ↓Evolves.foldl,
        ↓Evolves.foldl_fst, ↓Evolves.ite, ↓Evolves.ite_fst, ↓Evolves.elim_opt, Evolves.refl, Nat.le_add_right, implies_true,
        List.cons_subset, List.nil_subset, and_true, hp₀, hb₀];done)
    | (refine Evolves.foldl _ _ _ (fun u x => ?_) ?_ <;> try dsimp only)
    | (refine Evolves.foldl_fst _ _ _ (fun u x => ?_) ?_ <;> try dsimp only)
    | split)

theorem State.levelDown_evolves {ps₀ : List Part} {b₀ : State} (s : State)
    (hp₀ : [.regs, .thm] ⊆ ps₀) (hb₀ : Evolves ps₀ b₀ s) :
    Evolves ps₀ b₀ (State.levelDown s) := by
  simp only [List.cons_subset, List.nil_subset, and_true] at hp₀
  unfold State.levelDown
  try dsimp only
  repeat' (first
    | focus (simp (maxDischargeDepth := 60) only [↓State.event_evolves, ↓State.setFld_evolves, ↓Evolves.set_thm, ↓Evolves.foldl,
        ↓Evolves.foldl_fst, ↓Evolves.ite, ↓Evolves.ite_fst, ↓Evolves.elim_opt, Evolves.refl, Nat.le_add_right, implies_true,
        List.cons_subset, List.nil_subset, and_true, hp₀, hb₀];done)
    | (refine Evolves.foldl _ _ _ (fun u x => ?_) ?_ <;> try dsimp only)
    | (refine Evolves.foldl_fst _ _ _ (fun u x => ?_) ?_ <;> try dsimp only)
    | split)

theorem execThrottleStep_evolves (s : State) :
    ∃ t₁, execThrottleStep s = .next t₁ ∧ Evolves [.regs, .thm] s t₁ := by
  have hb₀ := Evolves.refl [.regs, .thm] s
  unfold execThrottleStep
  refine ⟨_, rfl, ?_⟩
  try dsimp only
  repeat' (first
    | focus (simp (maxDischargeDepth := 60) only [↓State.levelUp_evolves, ↓State.levelDown_evolves, ↓Evolves.foldl,
        ↓Evolves.foldl_fst, ↓Evolves.ite, ↓Evolves.ite_fst, ↓Evolves.elim_opt, Evolves.refl, Nat.le_add_right, implies_true,
        List.cons_subset, List.nil_subset, and_true, List.mem_cons, reduceCtorEq, true_or, or_true, false_or, or_false, hb₀];done)
    | (refine Evolves.foldl _ _ _ (fun u x => ?_) ?_ <;> try dsimp only)
    | (refine Evolves.foldl_fst _ _ _ (fun u x => ?_) ?_ <;> try dsimp only)
    | split)

theorem State.persistLog_evolves {ps₀ : List Part} {b₀ : State} (s : State)
    (hp₀ : [.nvm] ⊆ ps₀) (hb₀ : Evolves ps₀ b₀ s) :
    Evolves ps₀ b₀ (State.persistLog s) := by
  simp only [List.cons_subset, List.nil_subset, and_true] at hp₀
  unfold State.persistLog
  try dsimp only
  repeat' (first
    | focus (simp (maxDischargeDepth := 60) only [↓State.persist_evolves, ↓Evolves.foldl, ↓Evolves.foldl_fst, ↓Evolves.ite,
        ↓Evolves.ite_fst, ↓Evolves.elim_opt, Evolves.refl, Nat.le_add_right, implies_true, List.cons_subset, List.nil_subset,
        and_true, hp₀, hb₀];done)
    | (refine Evolves.foldl _ _ _ (fun u x => ?_) ?_ <;> try dsimp only)
    | (refine Evolves.foldl_fst _ _ _ (fun u x => ?_) ?_ <;> try dsimp only)
    | split)

theorem execAcFail_evolves (s : State) :
    ∃ t₁, execAcFail s = .next t₁ ∧ Evolves [.regs, .sent, .link, .repl, .faults, .thm, .nvm, .boot, .red] s t₁ := by
  have hb₀ := Evolves.refl [.regs, .sent, .link, .repl, .faults, .thm, .nvm, .boot, .red] s
  unfold execAcFail
  refine ⟨_, rfl, ?_⟩
  try dsimp only
  repeat' (first
    | focus (simp (maxDischargeDepth := 60) only [↓State.event_evolves, ↓State.setFlag_evolves, ↓State.faultSoon_evolves,
        ↓State.persistLog_evolves, ↓Evolves.set_link, ↓Evolves.set_thm, ↓Evolves.foldl, ↓Evolves.foldl_fst, ↓Evolves.ite,
        ↓Evolves.ite_fst, ↓Evolves.elim_opt, Evolves.refl, Nat.le_add_right, implies_true, List.cons_subset, List.nil_subset,
        and_true, List.mem_cons, reduceCtorEq, true_or, or_true, false_or, or_false, hb₀];done)
    | (refine Evolves.foldl _ _ _ (fun u x => ?_) ?_ <;> try dsimp only)
    | (refine Evolves.foldl_fst _ _ _ (fun u x => ?_) ?_ <;> try dsimp only)
    | split)

theorem execAcDark_evolves (s : State) :
    ∃ t₁, execAcDark s = .next t₁ ∧ Evolves [.regs, .cycles, .wall] s t₁ := by
  have hb₀ := Evolves.refl [.regs, .cycles, .wall] s
  unfold execAcDark
  refine ⟨_, rfl, ?_⟩
  try dsimp only
  repeat' (first
    | focus (simp (maxDischargeDepth := 60) only [↓State.setFlag_evolves, ↓State.untilWall_evolves, ↓Evolves.foldl,
        ↓Evolves.foldl_fst, ↓Evolves.ite, ↓Evolves.ite_fst, ↓Evolves.elim_opt, Evolves.refl, Nat.le_add_right, implies_true,
        List.cons_subset, List.nil_subset, and_true, List.mem_cons, reduceCtorEq, true_or, or_true, false_or, or_false, hb₀];done)
    | (refine Evolves.foldl _ _ _ (fun u x => ?_) ?_ <;> try dsimp only)
    | (refine Evolves.foldl_fst _ _ _ (fun u x => ?_) ?_ <;> try dsimp only)
    | split)

theorem execAcClear_evolves (s : State) :
    ∃ t₁, execAcClear s = .next t₁ ∧ Evolves [.regs, .thm, .lamp] s t₁ := by
  have hb₀ := Evolves.refl [.regs, .thm, .lamp] s
  unfold execAcClear
  refine ⟨_, rfl, ?_⟩
  try dsimp only
  repeat' (first
    | focus (simp (maxDischargeDepth := 60) only [↓State.event_evolves, ↓State.setFlag_evolves, ↓State.initBus_evolves,
        ↓Evolves.set_thm, ↓Evolves.foldl, ↓Evolves.foldl_fst, ↓Evolves.ite, ↓Evolves.ite_fst, ↓Evolves.elim_opt, Evolves.refl,
        Nat.le_add_right, implies_true, List.cons_subset, List.nil_subset, and_true, List.mem_cons, reduceCtorEq, true_or,
        or_true, false_or, or_false, hb₀];done)
    | (refine Evolves.foldl _ _ _ (fun u x => ?_) ?_ <;> try dsimp only)
    | (refine Evolves.foldl_fst _ _ _ (fun u x => ?_) ?_ <;> try dsimp only)
    | split)

end Sys2Proof.Machine
end

