-- ==== Sys2Proof/Laws/EvolveStart.lean ====
section
/-! SUPPORT. What the operations of Machine/Start.lean keep (Evolves). -/

set_option linter.unusedSimpArgs false
set_option linter.unreachableTactic false
set_option linter.unusedTactic false
set_option linter.unusedVariables false

namespace Sys2Proof.Machine

theorem State.clocksRun_evolves {ps₀ : List Part} {b₀ : State} (s : State)
    (hp₀ : [.regs, .rst] ⊆ ps₀) (hb₀ : Evolves ps₀ b₀ s) :
    Evolves ps₀ b₀ (State.clocksRun s) := by
  simp only [List.cons_subset, List.nil_subset, and_true] at hp₀
  unfold State.clocksRun
  try dsimp only
  repeat' (first
    | focus (simp (maxDischargeDepth := 60) only [↓State.setFlag_evolves, ↓Evolves.set_rst, ↓Evolves.foldl, ↓Evolves.foldl_fst,
        ↓Evolves.ite, ↓Evolves.ite_fst, ↓Evolves.elim_opt, Evolves.refl, Nat.le_add_right, implies_true, List.cons_subset,
        List.nil_subset, and_true, hp₀, hb₀];done)
    | (refine Evolves.foldl _ _ _ (fun u x => ?_) ?_ <;> try dsimp only)
    | (refine Evolves.foldl_fst _ _ _ (fun u x => ?_) ?_ <;> try dsimp only)
    | split)

theorem State.enterFactory_evolves {ps₀ : List Part} {b₀ : State} (s : State)
    (hp₀ : [.regs, .gen, .gnt, .txn, .cmd, .map, .boot, .lanes, .tile, .diag] ⊆ ps₀) (hb₀ : Evolves ps₀ b₀ s) :
    Evolves ps₀ b₀ (State.enterFactory s) := by
  simp only [List.cons_subset, List.nil_subset, and_true] at hp₀
  unfold State.enterFactory
  try dsimp only
  repeat' (first
    | focus (simp (maxDischargeDepth := 60) only [↓State.setMode_evolves, ↓State.loadCommission_evolves, ↓State.lanesOn_evolves,
        ↓Evolves.set_boot, ↓Evolves.foldl, ↓Evolves.foldl_fst, ↓Evolves.ite, ↓Evolves.ite_fst, ↓Evolves.elim_opt, Evolves.refl,
        Nat.le_add_right, implies_true, List.cons_subset, List.nil_subset, and_true, hp₀, hb₀];done)
    | (refine Evolves.foldl _ _ _ (fun u x => ?_) ?_ <;> try dsimp only)
    | (refine Evolves.foldl_fst _ _ _ (fun u x => ?_) ?_ <;> try dsimp only)
    | split)

theorem execStartClocksStable_evolves (bad : Nat) (s : State) :
    ∃ t₁, execStartClocksStable bad s = .next t₁ ∧ Evolves [.regs, .sent, .gen, .gnt, .txn, .cmd, .link, .map, .repl, .faults, .rst, .nvm, .boot, .scan, .lanes, .tile, .diag, .red] s t₁ := by
  have hb₀ := Evolves.refl [.regs, .sent, .gen, .gnt, .txn, .cmd, .link, .map, .repl, .faults, .rst, .nvm, .boot, .scan, .lanes, .tile, .diag, .red] s
  unfold execStartClocksStable
  refine ⟨_, rfl, ?_⟩
  try dsimp only
  repeat' (first
    | focus (simp (maxDischargeDepth := 60) only [↓State.selfTest_evolves, ↓State.clocksRun_evolves, ↓State.enterFactory_evolves,
        ↓State.setFlag_evolves, ↓State.enterMitten_evolves, ↓Evolves.set_boot, ↓Evolves.foldl, ↓Evolves.foldl_fst, ↓Evolves.ite,
        ↓Evolves.ite_fst, ↓Evolves.elim_opt, Evolves.refl, Nat.le_add_right, implies_true, List.cons_subset, List.nil_subset,
        and_true, List.mem_cons, reduceCtorEq, true_or, or_true, false_or, or_false, hb₀];done)
    | (refine Evolves.foldl _ _ _ (fun u x => ?_) ?_ <;> try dsimp only)
    | (refine Evolves.foldl_fst _ _ _ (fun u x => ?_) ?_ <;> try dsimp only)
    | split)

theorem State.countTrial_evolves {ps₀ : List Part} {b₀ : State} (s : State)
    (hp₀ : [.regs, .nvm, .boot] ⊆ ps₀) (hb₀ : Evolves ps₀ b₀ s) :
    Evolves ps₀ b₀ (State.countTrial s) := by
  simp only [List.cons_subset, List.nil_subset, and_true] at hp₀
  unfold State.countTrial
  try dsimp only
  repeat' (first
    | focus (simp (maxDischargeDepth := 60) only [↓State.writeHdr_evolves, ↓Evolves.foldl, ↓Evolves.foldl_fst, ↓Evolves.ite,
        ↓Evolves.ite_fst, ↓Evolves.elim_opt, Evolves.refl, Nat.le_add_right, implies_true, List.cons_subset, List.nil_subset,
        and_true, hp₀, hb₀];done)
    | (refine Evolves.foldl _ _ _ (fun u x => ?_) ?_ <;> try dsimp only)
    | (refine Evolves.foldl_fst _ _ _ (fun u x => ?_) ?_ <;> try dsimp only)
    | split)

theorem State.trySlot_evolves {ps₀ : List Part} {b₀ : State} (s : State) (k : Nat)
    (hp₀ : [.regs, .nvm, .boot] ⊆ ps₀) (hb₀ : Evolves ps₀ b₀ s) :
    Evolves ps₀ b₀ (State.trySlot s k).1 := by
  simp only [List.cons_subset, List.nil_subset, and_true] at hp₀
  unfold State.trySlot
  try dsimp only
  repeat' (first
    | focus (simp (maxDischargeDepth := 60) only [↓State.writeHdr_evolves, ↓Evolves.foldl, ↓Evolves.foldl_fst, ↓Evolves.ite,
        ↓Evolves.ite_fst, ↓Evolves.elim_opt, Evolves.refl, Nat.le_add_right, implies_true, List.cons_subset, List.nil_subset,
        and_true, hp₀, hb₀];done)
    | (refine Evolves.foldl _ _ _ (fun u x => ?_) ?_ <;> try dsimp only)
    | (refine Evolves.foldl_fst _ _ _ (fun u x => ?_) ?_ <;> try dsimp only)
    | split)

theorem State.startMemory_evolves {ps₀ : List Part} {b₀ : State} (s : State) (h : List Byte)
    (hp₀ : [.regs, .boot] ⊆ ps₀) (hb₀ : Evolves ps₀ b₀ s) :
    Evolves ps₀ b₀ (State.startMemory s h) := by
  simp only [List.cons_subset, List.nil_subset, and_true] at hp₀
  unfold State.startMemory
  try dsimp only
  repeat' (first
    | focus (simp (maxDischargeDepth := 60) only [↓State.faultLater_evolves, ↓State.setFld_evolves, ↓State.memoryOptions_evolves,
        ↓Evolves.foldl, ↓Evolves.foldl_fst, ↓Evolves.ite, ↓Evolves.ite_fst, ↓Evolves.elim_opt, Evolves.refl, Nat.le_add_right,
        implies_true, List.cons_subset, List.nil_subset, and_true, hp₀, hb₀];done)
    | (refine Evolves.foldl _ _ _ (fun u x => ?_) ?_ <;> try dsimp only)
    | (refine Evolves.foldl_fst _ _ _ (fun u x => ?_) ?_ <;> try dsimp only)
    | split)

theorem State.runSlot_evolves {ps₀ : List Part} {b₀ : State} (s : State) (k first : Nat)
    (hp₀ : [.regs, .boot] ⊆ ps₀) (hb₀ : Evolves ps₀ b₀ s) :
    Evolves ps₀ b₀ (State.runSlot s k first) := by
  simp only [List.cons_subset, List.nil_subset, and_true] at hp₀
  unfold State.runSlot
  try dsimp only
  repeat' (first
    | focus (simp (maxDischargeDepth := 60) only [↓State.event_evolves, ↓State.setFlag_evolves, ↓State.setFld_evolves,
        ↓Evolves.set_boot, ↓Evolves.foldl, ↓Evolves.foldl_fst, ↓Evolves.ite, ↓Evolves.ite_fst, ↓Evolves.elim_opt, Evolves.refl,
        Nat.le_add_right, implies_true, List.cons_subset, List.nil_subset, and_true, hp₀, hb₀];done)
    | (refine Evolves.foldl _ _ _ (fun u x => ?_) ?_ <;> try dsimp only)
    | (refine Evolves.foldl_fst _ _ _ (fun u x => ?_) ?_ <;> try dsimp only)
    | split)

theorem State.selectSlot_evolves {ps₀ : List Part} {b₀ : State} (s : State)
    (hp₀ : [.regs, .sent, .gen, .gnt, .txn, .cmd, .link, .map, .repl, .faults, .nvm, .boot, .scan, .lanes, .tile, .diag, .red] ⊆ ps₀) (hb₀ : Evolves ps₀ b₀ s) :
    Evolves ps₀ b₀ (State.selectSlot s) := by
  simp only [List.cons_subset, List.nil_subset, and_true] at hp₀
  unfold State.selectSlot
  try dsimp only
  repeat' (first
    | focus (simp (maxDischargeDepth := 60) only [↓State.enterMitten_evolves, ↓State.countTrial_evolves, ↓State.trySlot_evolves,
        ↓State.runSlot_evolves, ↓Evolves.foldl, ↓Evolves.foldl_fst, ↓Evolves.ite, ↓Evolves.ite_fst, ↓Evolves.elim_opt,
        Evolves.refl, Nat.le_add_right, implies_true, List.cons_subset, List.nil_subset, and_true, hp₀, hb₀];done)
    | (refine Evolves.foldl _ _ _ (fun u x => ?_) ?_ <;> try dsimp only)
    | (refine Evolves.foldl_fst _ _ _ (fun u x => ?_) ?_ <;> try dsimp only)
    | split)

theorem State.readHeader_evolves {ps₀ : List Part} {b₀ : State} (s : State)
    (hp₀ : [.regs, .fresh, .cycles, .wall, .sent, .gen, .gnt, .txn, .cmd, .flip, .sched, .link, .map, .repl, .faults, .rst, .thm, .nvm, .boot, .dram, .chk, .net0, .net1, .time, .video, .scan, .lanes, .tile, .lamp, .diag, .snaps, .red] ⊆ ps₀) (hb₀ : Evolves ps₀ b₀ s) :
    Evolves ps₀ b₀ (State.readHeader s) := by
  simp only [List.cons_subset, List.nil_subset, and_true] at hp₀
  unfold State.readHeader
  try dsimp only
  repeat' (first
    | focus (simp (maxDischargeDepth := 60) only [↓State.enterMitten_evolves, ↓State.useHdr_evolves, ↓State.startMemory_evolves,
        ↓State.selectSlot_evolves, ↓State.countedFailure_evolves, ↓Evolves.set_boot, ↓Evolves.foldl, ↓Evolves.foldl_fst,
        ↓Evolves.ite, ↓Evolves.ite_fst, ↓Evolves.elim_opt, Evolves.refl, Nat.le_add_right, implies_true, List.cons_subset,
        List.nil_subset, and_true, hp₀, hb₀];done)
    | (refine Evolves.foldl _ _ _ (fun u x => ?_) ?_ <;> try dsimp only)
    | (refine Evolves.foldl_fst _ _ _ (fun u x => ?_) ?_ <;> try dsimp only)
    | split)

theorem execSlotSelection_evolves (s : State) :
    ∃ t₁, execSlotSelection s = .next t₁ ∧ Evolves [.regs, .fresh, .cycles, .wall, .sent, .gen, .gnt, .txn, .cmd, .flip, .sched, .link, .map, .repl, .faults, .rst, .thm, .nvm, .boot, .dram, .chk, .net0, .net1, .time, .video, .scan, .lanes, .tile, .lamp, .diag, .snaps, .red] s t₁ := by
  have hb₀ := Evolves.refl [.regs, .fresh, .cycles, .wall, .sent, .gen, .gnt, .txn, .cmd, .flip, .sched, .link, .map, .repl, .faults, .rst, .thm, .nvm, .boot, .dram, .chk, .net0, .net1, .time, .video, .scan, .lanes, .tile, .lamp, .diag, .snaps, .red] s
  unfold execSlotSelection
  refine ⟨_, rfl, ?_⟩
  try dsimp only
  repeat' (first
    | focus (simp (maxDischargeDepth := 60) only [↓State.readHeader_evolves, ↓Evolves.foldl, ↓Evolves.foldl_fst, ↓Evolves.ite,
        ↓Evolves.ite_fst, ↓Evolves.elim_opt, Evolves.refl, Nat.le_add_right, implies_true, List.cons_subset, List.nil_subset,
        and_true, List.mem_cons, reduceCtorEq, true_or, or_true, false_or, or_false, hb₀];done)
    | (refine Evolves.foldl _ _ _ (fun u x => ?_) ?_ <;> try dsimp only)
    | (refine Evolves.foldl_fst _ _ _ (fun u x => ?_) ?_ <;> try dsimp only)
    | split)

theorem State.channelTrained_evolves {ps₀ : List Part} {b₀ : State} (s : State) (c : Nat) (r : Nat × Nat × Nat)
    (hp₀ : [.regs] ⊆ ps₀) (hb₀ : Evolves ps₀ b₀ s) :
    Evolves ps₀ b₀ (State.channelTrained s c r) := by
  simp only [List.cons_subset, List.nil_subset, and_true] at hp₀
  unfold State.channelTrained
  try dsimp only
  repeat' (first
    | focus (simp (maxDischargeDepth := 60) only [↓State.reportEye_evolves, ↓State.setBit_evolves, ↓State.setFld_evolves,
        ↓Evolves.foldl, ↓Evolves.foldl_fst, ↓Evolves.ite, ↓Evolves.ite_fst, ↓Evolves.elim_opt, Evolves.refl, Nat.le_add_right,
        implies_true, List.cons_subset, List.nil_subset, and_true, hp₀, hb₀];done)
    | (refine Evolves.foldl _ _ _ (fun u x => ?_) ?_ <;> try dsimp only)
    | (refine Evolves.foldl_fst _ _ _ (fun u x => ?_) ?_ <;> try dsimp only)
    | split)

theorem State.channelFailed_evolves {ps₀ : List Part} {b₀ : State} (s : State) (c : Nat)
    (hp₀ : [.regs, .sent, .link, .repl, .faults, .nvm, .boot, .red] ⊆ ps₀) (hb₀ : Evolves ps₀ b₀ s) :
    Evolves ps₀ b₀ (State.channelFailed s c) := by
  simp only [List.cons_subset, List.nil_subset, and_true] at hp₀
  unfold State.channelFailed
  try dsimp only
  repeat' (first
    | focus (simp (maxDischargeDepth := 60) only [↓State.event_evolves, ↓State.setBit_evolves, ↓State.setFld_evolves,
        ↓State.faultSoon_evolves, ↓Evolves.foldl, ↓Evolves.foldl_fst, ↓Evolves.ite, ↓Evolves.ite_fst, ↓Evolves.elim_opt,
        Evolves.refl, Nat.le_add_right, implies_true, List.cons_subset, List.nil_subset, and_true, hp₀, hb₀];done)
    | (refine Evolves.foldl _ _ _ (fun u x => ?_) ?_ <;> try dsimp only)
    | (refine Evolves.foldl_fst _ _ _ (fun u x => ?_) ?_ <;> try dsimp only)
    | split)

theorem State.endTraining_evolves {ps₀ : List Part} {b₀ : State} (s : State) (failed : Nat) (results : List (Nat × Nat × Nat))
    (hp₀ : [.regs, .fresh, .cycles, .wall, .sent, .gen, .gnt, .txn, .cmd, .flip, .sched, .link, .map, .repl, .faults, .rst, .thm, .nvm, .boot, .dram, .chk, .net0, .net1, .time, .video, .scan, .lanes, .tile, .lamp, .diag, .snaps, .red] ⊆ ps₀) (hb₀ : Evolves ps₀ b₀ s) :
    Evolves ps₀ b₀ (State.endTraining s failed results) := by
  simp only [List.cons_subset, List.nil_subset, and_true] at hp₀
  unfold State.endTraining
  try dsimp only
  repeat' (first
    | focus (simp (maxDischargeDepth := 60) only [↓State.channelFailed_evolves, ↓State.channelTrained_evolves,
        ↓State.countedFailure_evolves, ↓Evolves.set_boot, ↓Evolves.foldl, ↓Evolves.foldl_fst, ↓Evolves.ite, ↓Evolves.ite_fst,
        ↓Evolves.elim_opt, Evolves.refl, Nat.le_add_right, implies_true, List.cons_subset, List.nil_subset, and_true, hp₀,
        hb₀];done)
    | (refine Evolves.foldl _ _ _ (fun u x => ?_) ?_ <;> try dsimp only)
    | (refine Evolves.foldl_fst _ _ _ (fun u x => ?_) ?_ <;> try dsimp only)
    | split)

theorem execDramTrainingDone_evolves (failed : Nat) (results : List (Nat × Nat × Nat)) (s : State) :
    ∃ t₁, execDramTrainingDone failed results s = .next t₁ ∧ Evolves [.regs, .fresh, .cycles, .wall, .sent, .gen, .gnt, .txn, .cmd, .flip, .sched, .link, .map, .repl, .faults, .rst, .thm, .nvm, .boot, .dram, .chk, .net0, .net1, .time, .video, .scan, .lanes, .tile, .lamp, .diag, .snaps, .red] s t₁ := by
  have hb₀ := Evolves.refl [.regs, .fresh, .cycles, .wall, .sent, .gen, .gnt, .txn, .cmd, .flip, .sched, .link, .map, .repl, .faults, .rst, .thm, .nvm, .boot, .dram, .chk, .net0, .net1, .time, .video, .scan, .lanes, .tile, .lamp, .diag, .snaps, .red] s
  unfold execDramTrainingDone
  refine ⟨_, rfl, ?_⟩
  try dsimp only
  repeat' (first
    | focus (simp (maxDischargeDepth := 60) only [↓State.endTraining_evolves, ↓Evolves.foldl, ↓Evolves.foldl_fst, ↓Evolves.ite,
        ↓Evolves.ite_fst, ↓Evolves.elim_opt, Evolves.refl, Nat.le_add_right, implies_true, List.cons_subset, List.nil_subset,
        and_true, List.mem_cons, reduceCtorEq, true_or, or_true, false_or, or_false, hb₀];done)
    | (refine Evolves.foldl _ _ _ (fun u x => ?_) ?_ <;> try dsimp only)
    | (refine Evolves.foldl_fst _ _ _ (fun u x => ?_) ?_ <;> try dsimp only)
    | split)

theorem execProcessorReadyTimeout_evolves (s : State) :
    ∃ t₁, execProcessorReadyTimeout s = .next t₁ ∧ Evolves [.regs, .fresh, .cycles, .wall, .sent, .gen, .gnt, .txn, .cmd, .flip, .sched, .link, .map, .repl, .faults, .rst, .thm, .nvm, .boot, .dram, .chk, .net0, .net1, .time, .video, .scan, .lanes, .tile, .lamp, .diag, .snaps, .red] s t₁ := by
  have hb₀ := Evolves.refl [.regs, .fresh, .cycles, .wall, .sent, .gen, .gnt, .txn, .cmd, .flip, .sched, .link, .map, .repl, .faults, .rst, .thm, .nvm, .boot, .dram, .chk, .net0, .net1, .time, .video, .scan, .lanes, .tile, .lamp, .diag, .snaps, .red] s
  unfold execProcessorReadyTimeout
  refine ⟨_, rfl, ?_⟩
  try dsimp only
  repeat' (first
    | focus (simp (maxDischargeDepth := 60) only [↓State.countedFailure_evolves, ↓State.untilCycle_evolves, ↓Evolves.foldl,
        ↓Evolves.foldl_fst, ↓Evolves.ite, ↓Evolves.ite_fst, ↓Evolves.elim_opt, Evolves.refl, Nat.le_add_right, implies_true,
        List.cons_subset, List.nil_subset, and_true, List.mem_cons, reduceCtorEq, true_or, or_true, false_or, or_false, hb₀];done)
    | (refine Evolves.foldl _ _ _ (fun u x => ?_) ?_ <;> try dsimp only)
    | (refine Evolves.foldl_fst _ _ _ (fun u x => ?_) ?_ <;> try dsimp only)
    | split)

theorem State.loadSettings_evolves {ps₀ : List Part} {b₀ : State} (s : State) (bs : List Byte)
    (hp₀ : [.regs, .fresh, .cycles, .wall, .sent, .gen, .gnt, .txn, .cmd, .flip, .link, .map, .repl, .faults, .thm, .nvm, .net0, .net1, .time, .video, .scan, .lanes, .tile, .lamp, .diag, .red] ⊆ ps₀) (hb₀ : Evolves ps₀ b₀ s) :
    Evolves ps₀ b₀ (State.loadSettings s bs) := by
  simp only [List.cons_subset, List.nil_subset, and_true] at hp₀
  unfold State.loadSettings
  try dsimp only
  repeat' (first
    | focus (simp (maxDischargeDepth := 60) only [↓State.loadRecord_evolves, ↓State.reactLamp_evolves, ↓State.react_evolves,
        ↓Evolves.foldl, ↓Evolves.foldl_fst, ↓Evolves.ite, ↓Evolves.ite_fst, ↓Evolves.elim_opt, Evolves.refl, Nat.le_add_right,
        implies_true, List.cons_subset, List.nil_subset, and_true, hp₀, hb₀];done)
    | (refine Evolves.foldl _ _ _ (fun u x => ?_) ?_ <;> try dsimp only)
    | (refine Evolves.foldl_fst _ _ _ (fun u x => ?_) ?_ <;> try dsimp only)
    | split)

theorem State.readSettings_evolves {ps₀ : List Part} {b₀ : State} (s : State)
    (hp₀ : [.regs, .fresh, .cycles, .wall, .sent, .gen, .gnt, .txn, .cmd, .flip, .link, .map, .repl, .faults, .thm, .nvm, .boot, .net0, .net1, .time, .video, .scan, .lanes, .tile, .lamp, .diag, .red] ⊆ ps₀) (hb₀ : Evolves ps₀ b₀ s) :
    Evolves ps₀ b₀ (State.readSettings s) := by
  simp only [List.cons_subset, List.nil_subset, and_true] at hp₀
  unfold State.readSettings
  try dsimp only
  repeat' (first
    | focus (simp (maxDischargeDepth := 60) only [↓State.setFld_evolves, ↓State.loadSettings_evolves, ↓State.faultLater_evolves,
        ↓State.event_evolves, ↓State.setFlag_evolves, ↓Evolves.foldl, ↓Evolves.foldl_fst, ↓Evolves.ite, ↓Evolves.ite_fst,
        ↓Evolves.elim_opt, Evolves.refl, Nat.le_add_right, implies_true, List.cons_subset, List.nil_subset, and_true, hp₀,
        hb₀];done)
    | (refine Evolves.foldl _ _ _ (fun u x => ?_) ?_ <;> try dsimp only)
    | (refine Evolves.foldl_fst _ _ _ (fun u x => ?_) ?_ <;> try dsimp only)
    | split)

theorem State.redOptions_evolves {ps₀ : List Part} {b₀ : State} (s : State)
    (hp₀ : [.regs] ⊆ ps₀) (hb₀ : Evolves ps₀ b₀ s) :
    Evolves ps₀ b₀ (State.redOptions s) := by
  simp only [List.cons_subset, List.nil_subset, and_true] at hp₀
  unfold State.redOptions
  try dsimp only
  repeat' (first
    | focus (simp (maxDischargeDepth := 60) only [↓State.setFld_evolves, ↓State.setFlag_evolves, ↓Evolves.foldl,
        ↓Evolves.foldl_fst, ↓Evolves.ite, ↓Evolves.ite_fst, ↓Evolves.elim_opt, Evolves.refl, Nat.le_add_right, implies_true,
        List.cons_subset, List.nil_subset, and_true, hp₀, hb₀];done)
    | (refine Evolves.foldl _ _ _ (fun u x => ?_) ?_ <;> try dsimp only)
    | (refine Evolves.foldl_fst _ _ _ (fun u x => ?_) ?_ <;> try dsimp only)
    | split)

theorem State.enterRunning_evolves {ps₀ : List Part} {b₀ : State} (s : State)
    (hp₀ : [.regs, .sent, .link, .repl, .faults, .nvm, .boot, .time, .lanes, .red] ⊆ ps₀) (hb₀ : Evolves ps₀ b₀ s) :
    Evolves ps₀ b₀ (State.enterRunning s) := by
  simp only [List.cons_subset, List.nil_subset, and_true] at hp₀
  unfold State.enterRunning
  try dsimp only
  repeat' (first
    | focus (simp (maxDischargeDepth := 60) only [↓State.setMode_evolves, ↓State.setTimeMode_evolves, ↓State.flushFaults_evolves,
        ↓State.sendTileInfo_evolves, ↓State.lanesOn_evolves, ↓Evolves.set_boot, ↓Evolves.set_red, ↓Evolves.set_boot_red,
        ↓Evolves.foldl, ↓Evolves.foldl_fst, ↓Evolves.ite, ↓Evolves.ite_fst, ↓Evolves.elim_opt, Evolves.refl, Nat.le_add_right,
        implies_true, List.cons_subset, List.nil_subset, and_true, hp₀, hb₀];done)
    | (refine Evolves.foldl _ _ _ (fun u x => ?_) ?_ <;> try dsimp only)
    | (refine Evolves.foldl_fst _ _ _ (fun u x => ?_) ?_ <;> try dsimp only)
    | split)

theorem execModeEntry_evolves (s : State) :
    ∃ t₁, execModeEntry s = .next t₁ ∧ Evolves [.regs, .fresh, .cycles, .wall, .sent, .gen, .gnt, .txn, .cmd, .flip, .sched, .link, .map, .repl, .faults, .rst, .thm, .nvm, .boot, .dram, .chk, .net0, .net1, .time, .video, .scan, .lanes, .tile, .lamp, .diag, .snaps, .red] s t₁ := by
  have hb₀ := Evolves.refl [.regs, .fresh, .cycles, .wall, .sent, .gen, .gnt, .txn, .cmd, .flip, .sched, .link, .map, .repl, .faults, .rst, .thm, .nvm, .boot, .dram, .chk, .net0, .net1, .time, .video, .scan, .lanes, .tile, .lamp, .diag, .snaps, .red] s
  unfold execModeEntry
  refine ⟨_, rfl, ?_⟩
  try dsimp only
  repeat' (first
    | focus (simp (maxDischargeDepth := 60) only [↓State.countedFailure_evolves, ↓State.enterRunning_evolves,
        ↓State.readSettings_evolves, ↓State.redOptions_evolves, ↓Evolves.foldl, ↓Evolves.foldl_fst, ↓Evolves.ite,
        ↓Evolves.ite_fst, ↓Evolves.elim_opt, Evolves.refl, Nat.le_add_right, implies_true, List.cons_subset, List.nil_subset,
        and_true, List.mem_cons, reduceCtorEq, true_or, or_true, false_or, or_false, hb₀];done)
    | (refine Evolves.foldl _ _ _ (fun u x => ?_) ?_ <;> try dsimp only)
    | (refine Evolves.foldl_fst _ _ _ (fun u x => ?_) ?_ <;> try dsimp only)
    | split)

theorem State.proveSlot_evolves {ps₀ : List Part} {b₀ : State} (s : State)
    (hp₀ : [.regs, .nvm, .boot] ⊆ ps₀) (hb₀ : Evolves ps₀ b₀ s) :
    Evolves ps₀ b₀ (State.proveSlot s) := by
  simp only [List.cons_subset, List.nil_subset, and_true] at hp₀
  unfold State.proveSlot
  try dsimp only
  repeat' (first
    | focus (simp (maxDischargeDepth := 60) only [↓State.writeHdr_evolves, ↓Evolves.foldl, ↓Evolves.foldl_fst, ↓Evolves.ite,
        ↓Evolves.ite_fst, ↓Evolves.elim_opt, Evolves.refl, Nat.le_add_right, implies_true, List.cons_subset, List.nil_subset,
        and_true, hp₀, hb₀];done)
    | (refine Evolves.foldl _ _ _ (fun u x => ?_) ?_ <;> try dsimp only)
    | (refine Evolves.foldl_fst _ _ _ (fun u x => ?_) ?_ <;> try dsimp only)
    | split)

theorem State.advanceRollback_evolves {ps₀ : List Part} {b₀ : State} (s : State)
    (hp₀ : [.fuses] ⊆ ps₀) (hb₀ : Evolves ps₀ b₀ s) :
    Evolves ps₀ b₀ (State.advanceRollback s) := by
  simp only [List.cons_subset, List.nil_subset, and_true] at hp₀
  unfold State.advanceRollback
  dsimp only
  split
  · exact hb₀.trans ⟨fun p hn => by cases p <;> first | rfl | exact absurd hp₀ hn, Nat.le_refl _, Nat.le_refl _, List.prefix_rfl,
      Nat.le_max_left _ _, rfl, id⟩
  · exact hb₀

theorem execStartProven_evolves (s : State) :
    ∃ t₁, execStartProven s = .next t₁ ∧ Evolves [.regs, .cycles, .wall, .fuses, .nvm, .boot] s t₁ := by
  have hb₀ := Evolves.refl [.regs, .cycles, .wall, .fuses, .nvm, .boot] s
  unfold execStartProven
  refine ⟨_, rfl, ?_⟩
  try dsimp only
  repeat' (first
    | focus (simp (maxDischargeDepth := 60) only [↓State.untilCycle_evolves, ↓State.setFlag_evolves, ↓State.setFld_evolves,
        ↓State.event_evolves, ↓State.advanceRollback_evolves, ↓State.proveSlot_evolves, ↓Evolves.set_boot, ↓Evolves.foldl,
        ↓Evolves.foldl_fst, ↓Evolves.ite, ↓Evolves.ite_fst, ↓Evolves.elim_opt, Evolves.refl, Nat.le_add_right, implies_true,
        List.cons_subset, List.nil_subset, and_true, List.mem_cons, reduceCtorEq, true_or, or_true, false_or, or_false, hb₀];done)
    | (refine Evolves.foldl _ _ _ (fun u x => ?_) ?_ <;> try dsimp only)
    | (refine Evolves.foldl_fst _ _ _ (fun u x => ?_) ?_ <;> try dsimp only)
    | split)

theorem State.markLate_evolves {ps₀ : List Part} {b₀ : State} (s : State)
    (hp₀ : [.sched] ⊆ ps₀) (hb₀ : Evolves ps₀ b₀ s) :
    Evolves ps₀ b₀ (State.markLate s) := by
  simp only [List.cons_subset, List.nil_subset, and_true] at hp₀
  unfold State.markLate
  try dsimp only
  repeat' (first
    | focus (simp (maxDischargeDepth := 60) only [↓Evolves.set_sched, ↓Evolves.foldl, ↓Evolves.foldl_fst, ↓Evolves.ite,
        ↓Evolves.ite_fst, ↓Evolves.elim_opt, Evolves.refl, Nat.le_add_right, implies_true, List.cons_subset, List.nil_subset,
        and_true, hp₀, hb₀];done)
    | (refine Evolves.foldl _ _ _ (fun u x => ?_) ?_ <;> try dsimp only)
    | (refine Evolves.foldl_fst _ _ _ (fun u x => ?_) ?_ <;> try dsimp only)
    | split)

theorem execWarmRestartDone_evolves (s : State) :
    ∃ t₁, execWarmRestartDone s = .next t₁ ∧ Evolves [.regs, .fresh, .cycles, .wall, .sent, .gen, .gnt, .txn, .cmd, .flip, .sched, .link, .map, .repl, .faults, .rst, .thm, .nvm, .boot, .dram, .chk, .net0, .net1, .time, .video, .scan, .lanes, .tile, .lamp, .diag, .snaps, .red] s t₁ := by
  have hb₀ := Evolves.refl [.regs, .fresh, .cycles, .wall, .sent, .gen, .gnt, .txn, .cmd, .flip, .sched, .link, .map, .repl, .faults, .rst, .thm, .nvm, .boot, .dram, .chk, .net0, .net1, .time, .video, .scan, .lanes, .tile, .lamp, .diag, .snaps, .red] s
  unfold execWarmRestartDone
  refine ⟨_, rfl, ?_⟩
  try dsimp only
  repeat' (first
    | focus (simp (maxDischargeDepth := 60) only [↓State.readHeader_evolves, ↓State.countedFailure_evolves,
        ↓State.enterRunning_evolves, ↓State.markLate_evolves, ↓Evolves.foldl, ↓Evolves.foldl_fst, ↓Evolves.ite, ↓Evolves.ite_fst,
        ↓Evolves.elim_opt, Evolves.refl, Nat.le_add_right, implies_true, List.cons_subset, List.nil_subset, and_true,
        List.mem_cons, reduceCtorEq, true_or, or_true, false_or, or_false, hb₀];done)
    | (refine Evolves.foldl _ _ _ (fun u x => ?_) ?_ <;> try dsimp only)
    | (refine Evolves.foldl_fst _ _ _ (fun u x => ?_) ?_ <;> try dsimp only)
    | split)

end Sys2Proof.Machine
end

