-- ==== Sys2Proof/Laws/EvolveSchedule.lean ====
section
/-! SUPPORT. What the operations of Machine/Schedule.lean keep (Evolves). -/

set_option linter.unusedSimpArgs false
set_option linter.unreachableTactic false
set_option linter.unusedTactic false
set_option linter.unusedVariables false

namespace Sys2Proof.Machine

theorem State.stepLatch_evolves {ps₀ : List Part} {b₀ : State} (s : State) (m : Nat)
    (hp₀ : [.regs, .fresh, .sent, .txn, .link, .repl, .faults, .nvm, .dram, .video, .scan, .red] ⊆ ps₀) (hb₀ : Evolves ps₀ b₀ s) :
    Evolves ps₀ b₀ (State.stepLatch s m) := by
  simp only [List.cons_subset, List.nil_subset, and_true] at hp₀
  unfold State.stepLatch
  try dsimp only
  repeat' (first
    | focus (simp (maxDischargeDepth := 60) only [↓State.latchShed_evolves, ↓State.latchDiv_evolves, ↓State.latchFrame_evolves,
        ↓State.setFlag_evolves, ↓Evolves.set_scan, ↓Evolves.foldl, ↓Evolves.foldl_fst, ↓Evolves.ite, ↓Evolves.ite_fst,
        ↓Evolves.elim_opt, Evolves.refl, Nat.le_add_right, implies_true, List.cons_subset, List.nil_subset, and_true, hp₀,
        hb₀];done)
    | (refine Evolves.foldl _ _ _ (fun u x => ?_) ?_ <;> try dsimp only)
    | (refine Evolves.foldl_fst _ _ _ (fun u x => ?_) ?_ <;> try dsimp only)
    | split)

theorem State.latchSkipped_evolves {ps₀ : List Part} {b₀ : State} (s : State)
    (hp₀ : [.regs, .fresh, .sent, .txn, .link, .repl, .faults, .nvm, .dram, .video, .scan, .red] ⊆ ps₀) (hb₀ : Evolves ps₀ b₀ s) :
    Evolves ps₀ b₀ (State.latchSkipped s) := by
  simp only [List.cons_subset, List.nil_subset, and_true] at hp₀
  unfold State.latchSkipped
  try dsimp only
  repeat' (first
    | focus (simp (maxDischargeDepth := 60) only [↓State.stepLatch_evolves, ↓Evolves.foldl, ↓Evolves.foldl_fst, ↓Evolves.ite,
        ↓Evolves.ite_fst, ↓Evolves.elim_opt, Evolves.refl, Nat.le_add_right, implies_true, List.cons_subset, List.nil_subset,
        and_true, hp₀, hb₀];done)
    | (refine Evolves.foldl _ _ _ (fun u x => ?_) ?_ <;> try dsimp only)
    | (refine Evolves.foldl_fst _ _ _ (fun u x => ?_) ?_ <;> try dsimp only)
    | split)

theorem State.runStep_evolves {ps₀ : List Part} {b₀ : State} (s : State) (delta : Int)
    (hp₀ : [.regs, .fresh, .wall, .sent, .txn, .flip, .sched, .link, .repl, .faults, .nvm, .dram, .time, .video, .scan, .red] ⊆ ps₀) (hb₀ : Evolves ps₀ b₀ s) :
    Evolves ps₀ b₀ (State.runStep s delta) := by
  simp only [List.cons_subset, List.nil_subset, and_true] at hp₀
  unfold State.runStep
  try dsimp only
  repeat' (first
    | focus (simp (maxDischargeDepth := 60) only [↓State.latchSkipped_evolves, ↓State.applyStep_evolves, ↓Evolves.foldl,
        ↓Evolves.foldl_fst, ↓Evolves.ite, ↓Evolves.ite_fst, ↓Evolves.elim_opt, Evolves.refl, Nat.le_add_right, implies_true,
        List.cons_subset, List.nil_subset, and_true, hp₀, hb₀];done)
    | (refine Evolves.foldl _ _ _ (fun u x => ?_) ?_ <;> try dsimp only)
    | (refine Evolves.foldl_fst _ _ _ (fun u x => ?_) ?_ <;> try dsimp only)
    | split)

theorem State.stagedToTrial_evolves {ps₀ : List Part} {b₀ : State} {t₀ : State} (s : State)
    (hp₀ : [.regs, .nvm, .boot] ⊆ ps₀) (hb₀ : Evolves ps₀ b₀ s) (hr₀ : State.stagedToTrial s = some t₀) :
    Evolves ps₀ b₀ t₀ := by
  simp only [List.cons_subset, List.nil_subset, and_true] at hp₀
  unfold State.stagedToTrial at hr₀
  simp only [Option.map_eq_some_iff] at hr₀
  obtain ⟨k, -, rfl⟩ := hr₀
  exact State.writeHdr_evolves _ _ (by simp [hp₀]) hb₀

theorem State.softReset_evolves {ps₀ : List Part} {b₀ : State} (s : State) (src : Nat)
    (hp₀ : [.regs, .fresh, .cycles, .wall, .sent, .gen, .gnt, .txn, .cmd, .flip, .sched, .link, .map, .repl, .faults, .rst, .thm, .nvm, .boot, .dram, .chk, .net0, .net1, .time, .video, .scan, .lanes, .tile, .lamp, .diag, .snaps, .red] ⊆ ps₀) (hb₀ : Evolves ps₀ b₀ s) :
    Evolves ps₀ b₀ (State.softReset s src) := by
  simp only [List.cons_subset, List.nil_subset, and_true] at hp₀
  unfold State.softReset
  try dsimp only
  repeat' (first
    | focus (simp (maxDischargeDepth := 60) only [↓State.resetSource_evolves, ↓Evolves.foldl, ↓Evolves.foldl_fst, ↓Evolves.ite,
        ↓Evolves.ite_fst, ↓Evolves.elim_opt, Evolves.refl, Nat.le_add_right, implies_true, List.cons_subset, List.nil_subset,
        and_true, hp₀, hb₀];done)
    | (refine Evolves.foldl _ _ _ (fun u x => ?_) ?_ <;> try dsimp only)
    | (refine Evolves.foldl_fst _ _ _ (fun u x => ?_) ?_ <;> try dsimp only)
    | split)

theorem State.runReset_evolves {ps₀ : List Part} {b₀ : State} (s : State) (level cause : Nat)
    (hp₀ : [.regs, .fresh, .cycles, .wall, .sent, .gen, .gnt, .txn, .cmd, .flip, .sched, .link, .map, .repl, .faults, .rst, .thm, .nvm, .boot, .dram, .chk, .net0, .net1, .time, .video, .scan, .lanes, .tile, .lamp, .diag, .snaps, .red] ⊆ ps₀) (hb₀ : Evolves ps₀ b₀ s) :
    Evolves ps₀ b₀ (State.runReset s level cause) := by
  have ht : ∀ t, s.stagedToTrial = some t → Evolves ps₀ b₀ t := fun t h => State.stagedToTrial_evolves _ (fun p hp => hp₀ (by revert p; decide)) hb₀ h
  have hs : ∀ t, Evolves ps₀ b₀ t → ∀ k, Evolves ps₀ b₀ (t.softReset k) := fun t h k => State.softReset_evolves _ _ (fun p hp => hp₀ (by revert p; decide)) h
  unfold State.runReset
  split
  · cases h : s.stagedToTrial with
    | none => exact hb₀
    | some t => exact hs _ (ht t h) _
  · split <;> exact hs _ hb₀ _

theorem State.runAction_evolves {ps₀ : List Part} {b₀ : State} (s : State) (e : SchedEntry)
    (hp₀ : [.regs, .fresh, .cycles, .wall, .sent, .gen, .gnt, .txn, .cmd, .flip, .sched, .link, .map, .repl, .faults, .rst, .thm, .nvm, .boot, .dram, .chk, .net0, .net1, .time, .video, .scan, .lanes, .tile, .lamp, .diag, .snaps, .red] ⊆ ps₀) (hb₀ : Evolves ps₀ b₀ s) :
    Evolves ps₀ b₀ (State.runAction s e) := by
  simp only [List.cons_subset, List.nil_subset, and_true] at hp₀
  unfold State.runAction
  try dsimp only
  repeat' (first
    | focus (simp (maxDischargeDepth := 60) only [↓State.runStep_evolves, ↓State.runReset_evolves, ↓State.hatbandLatch_evolves,
        ↓State.captureSnapshot_evolves, ↓Evolves.foldl, ↓Evolves.foldl_fst, ↓Evolves.ite, ↓Evolves.ite_fst, ↓Evolves.elim_opt,
        Evolves.refl, Nat.le_add_right, implies_true, List.cons_subset, List.nil_subset, and_true, hp₀, hb₀];done)
    | (refine Evolves.foldl _ _ _ (fun u x => ?_) ?_ <;> try dsimp only)
    | (refine Evolves.foldl_fst _ _ _ (fun u x => ?_) ?_ <;> try dsimp only)
    | split)

theorem execScheduledActionDue_evolves (s : State) :
    ∃ t₁, execScheduledActionDue s = .next t₁ ∧ Evolves [.regs, .fresh, .cycles, .wall, .sent, .gen, .gnt, .txn, .cmd, .flip, .sched, .link, .map, .repl, .faults, .rst, .thm, .nvm, .boot, .dram, .chk, .net0, .net1, .time, .video, .scan, .lanes, .tile, .lamp, .diag, .snaps, .red] s t₁ := by
  have hb₀ := Evolves.refl [.regs, .fresh, .cycles, .wall, .sent, .gen, .gnt, .txn, .cmd, .flip, .sched, .link, .map, .repl, .faults, .rst, .thm, .nvm, .boot, .dram, .chk, .net0, .net1, .time, .video, .scan, .lanes, .tile, .lamp, .diag, .snaps, .red] s
  unfold execScheduledActionDue
  refine ⟨_, rfl, ?_⟩
  try dsimp only
  repeat' (first
    | focus (simp (maxDischargeDepth := 60) only [↓State.eventCount_evolves, ↓State.untilWall_evolves, ↓State.runAction_evolves,
        ↓Evolves.set_sched, ↓Evolves.foldl, ↓Evolves.foldl_fst, ↓Evolves.ite, ↓Evolves.ite_fst, ↓Evolves.elim_opt, Evolves.refl,
        Nat.le_add_right, implies_true, List.cons_subset, List.nil_subset, and_true, List.mem_cons, reduceCtorEq, true_or,
        or_true, false_or, or_false, hb₀];done)
    | (refine Evolves.foldl _ _ _ (fun u x => ?_) ?_ <;> try dsimp only)
    | (refine Evolves.foldl_fst _ _ _ (fun u x => ?_) ?_ <;> try dsimp only)
    | split)

end Sys2Proof.Machine
end

