-- ==== Sys2Proof/Laws/EvolveShadow.lean ====
section
/-! SUPPORT. What the operations of Machine/Shadow.lean keep (Evolves). -/

set_option linter.unusedSimpArgs false
set_option linter.unreachableTactic false
set_option linter.unusedTactic false
set_option linter.unusedVariables false

namespace Sys2Proof.Machine

theorem State.doCommitAll_evolves {ps₀ : List Part} {b₀ : State} (s : State) (h : Hdr)
    (hp₀ : [.regs, .fresh, .cycles, .wall, .sent, .gen, .gnt, .txn, .cmd, .flip, .link, .map, .repl, .faults, .thm, .nvm, .net0, .net1, .time, .video, .scan, .lanes, .tile, .lamp, .diag, .red] ⊆ ps₀) (hb₀ : Evolves ps₀ b₀ s) :
    Evolves ps₀ b₀ (State.doCommitAll s h) := by
  simp only [List.cons_subset, List.nil_subset, and_true] at hp₀
  unfold State.doCommitAll
  try dsimp only
  repeat' (first
    | focus (simp (maxDischargeDepth := 60) only [↓State.respond_evolves, ↓State.refuse_evolves, ↓State.event_evolves,
        ↓State.setFld_evolves, ↓State.record_evolves, ↓State.launchCommit_evolves, ↓Evolves.set_txn, ↓Evolves.foldl,
        ↓Evolves.foldl_fst, ↓Evolves.ite, ↓Evolves.ite_fst, ↓Evolves.elim_opt, Evolves.refl, Nat.le_add_right, implies_true,
        List.cons_subset, List.nil_subset, and_true, hp₀, hb₀];done)
    | (refine Evolves.foldl _ _ _ (fun u x => ?_) ?_ <;> try dsimp only)
    | (refine Evolves.foldl_fst _ _ _ (fun u x => ?_) ?_ <;> try dsimp only)
    | split)

end Sys2Proof.Machine
end

