-- ==== Sys2Proof/Laws/EvolveWindows.lean ====
section
/-! SUPPORT. What the operations of Machine/Windows.lean keep (Evolves). -/

set_option linter.unusedSimpArgs false
set_option linter.unreachableTactic false
set_option linter.unusedTactic false
set_option linter.unusedVariables false

namespace Sys2Proof.Machine

theorem State.writeLining_evolves {ps₀ : List Part} {b₀ : State} (s : State) (addr : Nat) (bs : List Byte)
    (hp₀ : [.regs, .tile] ⊆ ps₀) (hb₀ : Evolves ps₀ b₀ s) :
    Evolves ps₀ b₀ (State.writeLining s addr bs) := by
  simp only [List.cons_subset, List.nil_subset, and_true] at hp₀
  unfold State.writeLining
  try dsimp only
  repeat' (first
    | focus (simp (maxDischargeDepth := 60) only [↓State.setStoreBytes_evolves, ↓State.setFlag_evolves, ↓Evolves.set_tile,
        ↓Evolves.foldl, ↓Evolves.foldl_fst, ↓Evolves.ite, ↓Evolves.ite_fst, ↓Evolves.elim_opt, Evolves.refl, Nat.le_add_right,
        implies_true, List.cons_subset, List.nil_subset, and_true, hp₀, hb₀];done)
    | (refine Evolves.foldl _ _ _ (fun u x => ?_) ?_ <;> try dsimp only)
    | (refine Evolves.foldl_fst _ _ _ (fun u x => ?_) ?_ <;> try dsimp only)
    | split)

theorem State.writeWindow_evolves {ps₀ : List Part} {b₀ : State} (s : State) (auth : Auth) (w : Window) (addr : Nat) (bs : List Byte)
    (hp₀ : [.regs, .tile, .diag] ⊆ ps₀) (hb₀ : Evolves ps₀ b₀ s) :
    Evolves ps₀ b₀ (State.writeWindow s auth w addr bs).1 := by
  simp only [List.cons_subset, List.nil_subset, and_true] at hp₀
  unfold State.writeWindow
  try dsimp only
  repeat' (first
    | focus (simp (maxDischargeDepth := 60) only [↓State.writeLining_evolves, ↓State.setStoreBytes_evolves,
        ↓State.hostFaultMap_evolves, ↓Evolves.foldl, ↓Evolves.foldl_fst, ↓Evolves.ite, ↓Evolves.ite_fst, ↓Evolves.elim_opt,
        Evolves.refl, Nat.le_add_right, implies_true, List.cons_subset, List.nil_subset, and_true, hp₀, hb₀];done)
    | (refine Evolves.foldl _ _ _ (fun u x => ?_) ?_ <;> try dsimp only)
    | (refine Evolves.foldl_fst _ _ _ (fun u x => ?_) ?_ <;> try dsimp only)
    | split)

theorem State.writeMap_evolves {ps₀ : List Part} {b₀ : State} (s : State) (addr : Nat) (ws : List Word)
    (hp₀ : [.map] ⊆ ps₀) (hb₀ : Evolves ps₀ b₀ s) :
    Evolves ps₀ b₀ (State.writeMap s addr ws) := by
  simp only [List.cons_subset, List.nil_subset, and_true] at hp₀
  unfold State.writeMap
  try dsimp only
  repeat' (first
    | focus (simp (maxDischargeDepth := 60) only [↓Evolves.foldl, ↓Evolves.foldl_fst, ↓Evolves.ite, ↓Evolves.ite_fst,
        ↓Evolves.set_staging, ↓Evolves.elim_opt, Evolves.refl, Nat.le_add_right, implies_true, List.cons_subset, List.nil_subset,
        and_true, hp₀, hb₀];done)
    | (refine Evolves.foldl _ _ _ (fun u x => ?_) ?_ <;> try dsimp only)
    | (refine Evolves.foldl_fst _ _ _ (fun u x => ?_) ?_ <;> try dsimp only)
    | split)

theorem State.mapWrite_evolves {ps₀ : List Part} {b₀ : State} (s : State) (h : Hdr) (addr : Nat) (ws : List Word)
    (hp₀ : [.regs, .fresh, .cycles, .wall, .sent, .gen, .gnt, .txn, .cmd, .flip, .link, .map, .repl, .faults, .thm, .nvm, .net0, .net1, .time, .video, .scan, .lanes, .tile, .lamp, .diag, .red] ⊆ ps₀) (hb₀ : Evolves ps₀ b₀ s) :
    Evolves ps₀ b₀ (State.mapWrite s h addr ws) := by
  simp only [List.cons_subset, List.nil_subset, and_true] at hp₀
  unfold State.mapWrite
  try dsimp only
  repeat' (first
    | focus (simp (maxDischargeDepth := 60) only [↓State.refuse_evolves, ↓State.writeMap_evolves, ↓State.completeAfter_evolves,
        ↓Evolves.foldl, ↓Evolves.foldl_fst, ↓Evolves.ite, ↓Evolves.ite_fst, ↓Evolves.elim_opt, Evolves.refl, Nat.le_add_right,
        implies_true, List.cons_subset, List.nil_subset, and_true, hp₀, hb₀];done)
    | (refine Evolves.foldl _ _ _ (fun u x => ?_) ?_ <;> try dsimp only)
    | (refine Evolves.foldl_fst _ _ _ (fun u x => ?_) ?_ <;> try dsimp only)
    | split)

theorem State.hostWrite_evolves {ps₀ : List Part} {b₀ : State} (s : State) (addr : Nat) (bs : List Byte)
    (hp₀ : [.regs, .fresh, .sent, .link, .repl, .faults, .nvm, .dram, .red] ⊆ ps₀) (hb₀ : Evolves ps₀ b₀ s) :
    Evolves ps₀ b₀ (State.hostWrite s addr bs).1 := by
  have h1 := State.writeMem_evolves s addr bs (fun p hp => hp₀ (by revert p; decide)) hb₀
  have hb : Evolves ps₀ s (s.writeMem addr bs).1 := State.writeMem_evolves s addr bs (fun p hp => hp₀ (by revert p; decide)) (Evolves.refl _ _)
  have hd : Part.dram ∈ ps₀ := hp₀ (by decide)
  unfold State.hostWrite
  dsimp only
  generalize (s.writeMem addr bs) = r at *
  split
  · exact h1
  · refine hb₀.trans ⟨fun p hn => ?_, hb.cycles, hb.fresh, hb.sent, hb.rollback, hb.fuses, fun hc => ?_⟩
    · refine Part.same_trans p (hb.parts p hn) ?_
      cases p <;> first | rfl | exact absurd hd hn
    · have k := hb.canon hc
      exact ⟨k.1, k.2.1, k.2.2.1, k.2.2.2.1, hc.2.2.2.2.1, k.2.2.2.2.2⟩

theorem State.doMemWrite_evolves {ps₀ : List Part} {b₀ : State} (s : State) (h : Hdr) (space addr : Nat) (data : List Byte)
    (hp₀ : [.regs, .fresh, .cycles, .wall, .sent, .gen, .gnt, .txn, .cmd, .flip, .link, .map, .repl, .faults, .thm, .nvm, .dram, .net0, .net1, .time, .video, .scan, .lanes, .tile, .lamp, .diag, .red] ⊆ ps₀) (hb₀ : Evolves ps₀ b₀ s) :
    Evolves ps₀ b₀ (State.doMemWrite s h space addr data) := by
  simp only [List.cons_subset, List.nil_subset, and_true] at hp₀
  unfold State.doMemWrite
  try dsimp only
  repeat' (first
    | focus (simp (maxDischargeDepth := 60) only [↓State.refuse_evolves, ↓State.writeWindow_evolves, ↓State.hostWrite_evolves,
        ↓State.completeAfter_evolves, ↓Evolves.foldl, ↓Evolves.foldl_fst, ↓Evolves.ite, ↓Evolves.ite_fst, ↓Evolves.elim_opt,
        Evolves.refl, Nat.le_add_right, implies_true, List.cons_subset, List.nil_subset, and_true, hp₀, hb₀];done)
    | (refine Evolves.foldl _ _ _ (fun u x => ?_) ?_ <;> try dsimp only)
    | (refine Evolves.foldl_fst _ _ _ (fun u x => ?_) ?_ <;> try dsimp only)
    | split)

theorem State.doMemRead_evolves {ps₀ : List Part} {b₀ : State} (s : State) (h : Hdr) (space addr n : Nat)
    (hp₀ : [.regs, .fresh, .sent, .gen, .gnt, .cmd, .link, .repl, .faults, .nvm, .dram, .red] ⊆ ps₀) (hb₀ : Evolves ps₀ b₀ s) :
    Evolves ps₀ b₀ (State.doMemRead s h space addr n) := by
  have hf : ∀ t, Evolves ps₀ b₀ t → ∀ o x, Evolves ps₀ b₀ (t.refuse h o x) := fun t ht o x => State.refuse_evolves _ _ _ _ (fun p hp => hp₀ (by revert p; decide)) ht
  have hr : ∀ t, Evolves ps₀ b₀ t → ∀ o x, Evolves ps₀ b₀ (t.respond h o x) := fun t ht o x => State.respond_evolves _ _ _ _ (fun p hp => hp₀ (by revert p; decide)) ht
  have hm := State.readMem_evolves s 3 addr n (fun p hp => hp₀ (by revert p; decide)) hb₀
  unfold State.doMemRead
  split
  · exact hf _ hb₀ _ _
  · split
    · exact hf _ hb₀ _ _
    · split
      · split
        · exact hr _ hb₀ _ _
        · exact hf _ hb₀ _ _
      · split
        · next heq => rw [heq] at hm; exact hr _ hm _ _
        · next heq => rw [heq] at hm; exact hf _ hm _ _

end Sys2Proof.Machine
end

