-- ==== Sys2Proof/Laws/EvolveDirectWrite.lean ====
section
/-! SUPPORT. What the operations of Machine/DirectWrite.lean keep (Evolves). -/

set_option linter.unusedSimpArgs false
set_option linter.unreachableTactic false
set_option linter.unusedTactic false
set_option linter.unusedVariables false

namespace Sys2Proof.Machine

theorem State.writeOnly_evolves {ps₀ : List Part} {b₀ : State} (s : State) (a : Nat) (w : Word)
    (hp₀ : [.regs, .cycles, .wall, .txn, .map, .rst, .dram, .chk, .net0, .net1, .video, .scan, .tile, .lamp, .diag] ⊆ ps₀) (hb₀ : Evolves ps₀ b₀ s) :
    Evolves ps₀ b₀ (State.writeOnly s a w) := by
  have hr : ∀ t, Evolves ps₀ t t := Evolves.refl ps₀
  unfold State.writeOnly
  refine Evolves.ite ?_ (Evolves.ite (Evolves.ite ?_ hb₀) (Evolves.ite (Evolves.ite ?_ hb₀) (Evolves.ite ?_ hb₀)))
  · exact Evolves.foldl _ _ _ (fun u x => Evolves.ite (State.requestBlock_evolves _ _ (fun p hp => hp₀ (by revert p; decide)) (hr u)) (hr u)) hb₀
  · exact State.capture_evolves _ (fun p hp => hp₀ (by revert p; decide)) hb₀
  · exact State.clearUeLog_evolves _ (fun p hp => hp₀ (by revert p; decide)) hb₀
  · split
    · exact State.chkData_evolves _ _ _ (fun p hp => hp₀ (by revert p; decide)) hb₀
    · exact State.chkOp_evolves _ _ _ (fun p hp => hp₀ (by revert p; decide)) hb₀
    · exact hb₀

theorem State.writeNow_evolves {ps₀ : List Part} {b₀ : State} (s : State) (x : Nat × Word)
    (hp₀ : [.regs, .cycles, .wall, .txn, .map, .rst, .dram, .chk, .net0, .net1, .video, .scan, .tile, .lamp, .diag] ⊆ ps₀) (hb₀ : Evolves ps₀ b₀ s) :
    Evolves ps₀ b₀ (State.writeNow s x) := by
  simp only [List.cons_subset, List.nil_subset, and_true] at hp₀
  unfold State.writeNow
  try dsimp only
  repeat' (first
    | focus (simp (maxDischargeDepth := 60) only [↓State.setReg_evolves, ↓State.writeOnly_evolves, ↓Evolves.foldl,
        ↓Evolves.foldl_fst, ↓Evolves.ite, ↓Evolves.ite_fst, ↓Evolves.elim_opt, Evolves.refl, Nat.le_add_right, implies_true,
        List.cons_subset, List.nil_subset, and_true, hp₀, hb₀];done)
    | (refine Evolves.foldl _ _ _ (fun u x => ?_) ?_ <;> try dsimp only)
    | (refine Evolves.foldl_fst _ _ _ (fun u x => ?_) ?_ <;> try dsimp only)
    | split)

theorem State.writeWords_evolves {ps₀ : List Part} {b₀ : State} (s : State) (xs : List (Nat × Word))
    (hp₀ : [.regs, .fresh, .cycles, .wall, .sent, .txn, .flip, .link, .map, .repl, .faults, .rst, .thm, .nvm, .dram, .chk, .net0, .net1, .time, .video, .scan, .lanes, .tile, .lamp, .diag, .red] ⊆ ps₀) (hb₀ : Evolves ps₀ b₀ s) :
    Evolves ps₀ b₀ (State.writeWords s xs) := by
  simp only [List.cons_subset, List.nil_subset, and_true] at hp₀
  unfold State.writeWords
  try dsimp only
  repeat' (first
    | focus (simp (maxDischargeDepth := 60) only [↓State.writeNow_evolves, ↓State.react_evolves, ↓Evolves.foldl,
        ↓Evolves.foldl_fst, ↓Evolves.ite, ↓Evolves.ite_fst, ↓Evolves.elim_opt, Evolves.refl, Nat.le_add_right, implies_true,
        List.cons_subset, List.nil_subset, and_true, hp₀, hb₀];done)
    | (refine Evolves.foldl _ _ _ (fun u x => ?_) ?_ <;> try dsimp only)
    | (refine Evolves.foldl_fst _ _ _ (fun u x => ?_) ?_ <;> try dsimp only)
    | split)

theorem State.localWrite_evolves {ps₀ : List Part} {b₀ : State} (s : State) (auth : Auth) (seq : Nat) (c : Change)
    (hp₀ : [.regs, .fresh, .cycles, .wall, .sent, .txn, .flip, .link, .map, .repl, .faults, .rst, .thm, .nvm, .dram, .chk, .net0, .net1, .time, .video, .scan, .lanes, .tile, .lamp, .diag, .red] ⊆ ps₀) (hb₀ : Evolves ps₀ b₀ s) :
    Evolves ps₀ b₀ (State.localWrite s auth seq c).1 := by
  simp only [List.cons_subset, List.nil_subset, and_true] at hp₀
  unfold State.localWrite
  try dsimp only
  repeat' (first
    | focus (simp (maxDischargeDepth := 60) only [↓State.writeWords_evolves, ↓State.applyLocal_evolves, ↓Evolves.set_txn,
        ↓Evolves.foldl, ↓Evolves.foldl_fst, ↓Evolves.ite, ↓Evolves.ite_fst, ↓Evolves.elim_opt, Evolves.refl, Nat.le_add_right,
        implies_true, List.cons_subset, List.nil_subset, and_true, hp₀, hb₀];done)
    | (refine Evolves.foldl _ _ _ (fun u x => ?_) ?_ <;> try dsimp only)
    | (refine Evolves.foldl_fst _ _ _ (fun u x => ?_) ?_ <;> try dsimp only)
    | split)

theorem State.shadowWrite_evolves {ps₀ : List Part} {b₀ : State} (s : State) (c : Change)
    (hp₀ : [.regs, .fresh, .cycles, .wall, .sent, .txn, .flip, .link, .map, .repl, .faults, .rst, .thm, .nvm, .dram, .chk, .net0, .net1, .time, .video, .scan, .lanes, .tile, .lamp, .diag, .red] ⊆ ps₀) (hb₀ : Evolves ps₀ b₀ s) :
    Evolves ps₀ b₀ (State.shadowWrite s c).1 := by
  simp only [List.cons_subset, List.nil_subset, and_true] at hp₀
  unfold State.shadowWrite
  try dsimp only
  repeat' (first
    | focus (simp (maxDischargeDepth := 60) only [↓State.writeWords_evolves, ↓Evolves.set_txn, ↓Evolves.foldl, ↓Evolves.foldl_fst,
        ↓Evolves.ite, ↓Evolves.ite_fst, ↓Evolves.elim_opt, Evolves.refl, Nat.le_add_right, implies_true, List.cons_subset,
        List.nil_subset, and_true, hp₀, hb₀];done)
    | (refine Evolves.foldl _ _ _ (fun u x => ?_) ?_ <;> try dsimp only)
    | (refine Evolves.foldl_fst _ _ _ (fun u x => ?_) ?_ <;> try dsimp only)
    | split)

theorem State.directRegs_evolves {ps₀ : List Part} {b₀ : State} (s : State) (auth : Auth) (seq : Nat) (c : Change)
    (hp₀ : [.regs, .fresh, .cycles, .wall, .sent, .txn, .flip, .link, .map, .repl, .faults, .rst, .thm, .nvm, .dram, .chk, .net0, .net1, .time, .video, .scan, .lanes, .tile, .lamp, .diag, .red] ⊆ ps₀) (hb₀ : Evolves ps₀ b₀ s) :
    Evolves ps₀ b₀ (State.directRegs s auth seq c).1 := by
  simp only [List.cons_subset, List.nil_subset, and_true] at hp₀
  unfold State.directRegs
  try dsimp only
  repeat' (first
    | focus (simp (maxDischargeDepth := 60) only [↓State.localWrite_evolves, ↓State.writeWords_evolves,
        ↓State.shadowWrite_evolves, ↓Evolves.foldl, ↓Evolves.foldl_fst, ↓Evolves.ite, ↓Evolves.ite_fst, ↓Evolves.elim_opt,
        Evolves.refl, Nat.le_add_right, implies_true, List.cons_subset, List.nil_subset, and_true, hp₀, hb₀];done)
    | (refine Evolves.foldl _ _ _ (fun u x => ?_) ?_ <;> try dsimp only)
    | (refine Evolves.foldl_fst _ _ _ (fun u x => ?_) ?_ <;> try dsimp only)
    | split)

theorem State.directWrite_evolves {ps₀ : List Part} {b₀ : State} (s : State) (h : Hdr) (c : Change)
    (hp₀ : [.regs, .fresh, .cycles, .wall, .sent, .gen, .gnt, .txn, .cmd, .flip, .link, .map, .repl, .faults, .rst, .thm, .nvm, .dram, .chk, .net0, .net1, .time, .video, .scan, .lanes, .tile, .lamp, .diag, .red] ⊆ ps₀) (hb₀ : Evolves ps₀ b₀ s) :
    Evolves ps₀ b₀ (State.directWrite s h c) := by
  simp only [List.cons_subset, List.nil_subset, and_true] at hp₀
  unfold State.directWrite
  try dsimp only
  repeat' (first
    | focus (simp (maxDischargeDepth := 60) only [↓State.refuse_evolves, ↓State.writeWindow_evolves, ↓State.mapWrite_evolves,
        ↓State.directRegs_evolves, ↓State.respond_evolves, ↓Evolves.foldl, ↓Evolves.foldl_fst, ↓Evolves.ite, ↓Evolves.ite_fst,
        ↓Evolves.elim_opt, Evolves.refl, Nat.le_add_right, implies_true, List.cons_subset, List.nil_subset, and_true, hp₀,
        hb₀];done)
    | (refine Evolves.foldl _ _ _ (fun u x => ?_) ?_ <;> try dsimp only)
    | (refine Evolves.foldl_fst _ _ _ (fun u x => ?_) ?_ <;> try dsimp only)
    | split)

theorem State.registerWrite_evolves {ps₀ : List Part} {b₀ : State} (s : State) (auth : Auth) (a : Nat) (w : Word)
    (hp₀ : [.regs, .fresh, .cycles, .wall, .sent, .txn, .flip, .link, .map, .repl, .faults, .rst, .thm, .nvm, .dram, .chk, .net0, .net1, .time, .video, .scan, .lanes, .tile, .lamp, .diag, .red] ⊆ ps₀) (hb₀ : Evolves ps₀ b₀ s) :
    Evolves ps₀ b₀ (State.registerWrite s auth a w) := by
  simp only [List.cons_subset, List.nil_subset, and_true] at hp₀
  unfold State.registerWrite
  try dsimp only
  repeat' (first
    | focus (simp (maxDischargeDepth := 60) only [↓State.directRegs_evolves, ↓Evolves.foldl, ↓Evolves.foldl_fst, ↓Evolves.ite,
        ↓Evolves.ite_fst, ↓Evolves.elim_opt, Evolves.refl, Nat.le_add_right, implies_true, List.cons_subset, List.nil_subset,
        and_true, hp₀, hb₀];done)
    | (refine Evolves.foldl _ _ _ (fun u x => ?_) ?_ <;> try dsimp only)
    | (refine Evolves.foldl_fst _ _ _ (fun u x => ?_) ?_ <;> try dsimp only)
    | split)

theorem execRegisterWrite_evolves (auth : Auth) (addr : Nat) (value : Word) (s : State) :
    ∃ t₁, execRegisterWrite auth addr value s = .next t₁ ∧ Evolves [.regs, .fresh, .cycles, .wall, .sent, .txn, .flip, .link, .map, .repl, .faults, .rst, .thm, .nvm, .dram, .chk, .net0, .net1, .time, .video, .scan, .lanes, .tile, .lamp, .diag, .red] s t₁ := by
  have hb₀ := Evolves.refl [.regs, .fresh, .cycles, .wall, .sent, .txn, .flip, .link, .map, .repl, .faults, .rst, .thm, .nvm, .dram, .chk, .net0, .net1, .time, .video, .scan, .lanes, .tile, .lamp, .diag, .red] s
  unfold execRegisterWrite
  refine ⟨_, rfl, ?_⟩
  try dsimp only
  repeat' (first
    | focus (simp (maxDischargeDepth := 60) only [↓State.registerWrite_evolves, ↓Evolves.foldl, ↓Evolves.foldl_fst, ↓Evolves.ite,
        ↓Evolves.ite_fst, ↓Evolves.elim_opt, Evolves.refl, Nat.le_add_right, implies_true, List.cons_subset, List.nil_subset,
        and_true, List.mem_cons, reduceCtorEq, true_or, or_true, false_or, or_false, hb₀];done)
    | (refine Evolves.foldl _ _ _ (fun u x => ?_) ?_ <;> try dsimp only)
    | (refine Evolves.foldl_fst _ _ _ (fun u x => ?_) ?_ <;> try dsimp only)
    | split)

theorem execBlockResetRequest_evolves (mask : Nat) (s : State) :
    ∃ t₁, execBlockResetRequest mask s = .next t₁ ∧ Evolves [.regs, .fresh, .cycles, .wall, .sent, .txn, .flip, .link, .map, .repl, .faults, .rst, .thm, .nvm, .dram, .chk, .net0, .net1, .time, .video, .scan, .lanes, .tile, .lamp, .diag, .red] s t₁ := by
  have hb₀ := Evolves.refl [.regs, .fresh, .cycles, .wall, .sent, .txn, .flip, .link, .map, .repl, .faults, .rst, .thm, .nvm, .dram, .chk, .net0, .net1, .time, .video, .scan, .lanes, .tile, .lamp, .diag, .red] s
  unfold execBlockResetRequest
  refine ⟨_, rfl, ?_⟩
  try dsimp only
  repeat' (first
    | focus (simp (maxDischargeDepth := 60) only [↓State.registerWrite_evolves, ↓Evolves.foldl, ↓Evolves.foldl_fst, ↓Evolves.ite,
        ↓Evolves.ite_fst, ↓Evolves.elim_opt, Evolves.refl, Nat.le_add_right, implies_true, List.cons_subset, List.nil_subset,
        and_true, List.mem_cons, reduceCtorEq, true_or, or_true, false_or, or_false, hb₀];done)
    | (refine Evolves.foldl _ _ _ (fun u x => ?_) ?_ <;> try dsimp only)
    | (refine Evolves.foldl_fst _ _ _ (fun u x => ?_) ?_ <;> try dsimp only)
    | split)

theorem execShadowEnClear_evolves (s : State) :
    ∃ t₁, execShadowEnClear s = .next t₁ ∧ Evolves [.regs, .fresh, .cycles, .wall, .sent, .txn, .flip, .link, .map, .repl, .faults, .rst, .thm, .nvm, .dram, .chk, .net0, .net1, .time, .video, .scan, .lanes, .tile, .lamp, .diag, .red] s t₁ := by
  have hb₀ := Evolves.refl [.regs, .fresh, .cycles, .wall, .sent, .txn, .flip, .link, .map, .repl, .faults, .rst, .thm, .nvm, .dram, .chk, .net0, .net1, .time, .video, .scan, .lanes, .tile, .lamp, .diag, .red] s
  unfold execShadowEnClear
  refine ⟨_, rfl, ?_⟩
  try dsimp only
  repeat' (first
    | focus (simp (maxDischargeDepth := 60) only [↓State.registerWrite_evolves, ↓Evolves.foldl, ↓Evolves.foldl_fst, ↓Evolves.ite,
        ↓Evolves.ite_fst, ↓Evolves.elim_opt, Evolves.refl, Nat.le_add_right, implies_true, List.cons_subset, List.nil_subset,
        and_true, List.mem_cons, reduceCtorEq, true_or, or_true, false_or, or_false, hb₀];done)
    | (refine Evolves.foldl _ _ _ (fun u x => ?_) ?_ <;> try dsimp only)
    | (refine Evolves.foldl_fst _ _ _ (fun u x => ?_) ?_ <;> try dsimp only)
    | split)

end Sys2Proof.Machine
end

