-- ==== Sys2Proof/Laws/EvolveMaint.lean ====
section
/-! SUPPORT. What the operations of Machine/Maint.lean keep (Evolves). -/

set_option linter.unusedSimpArgs false
set_option linter.unreachableTactic false
set_option linter.unusedTactic false
set_option linter.unusedVariables false

namespace Sys2Proof.Machine

theorem State.stagePut_evolves {ps₀ : List Part} {b₀ : State} (s : State) (off : Nat) (bs : List Byte)
    (hp₀ : [.regs, .fresh, .sent, .link, .repl, .faults, .nvm, .dram, .tile, .red] ⊆ ps₀) (hb₀ : Evolves ps₀ b₀ s) :
    Evolves ps₀ b₀ (State.stagePut s off bs).1 := by
  simp only [List.cons_subset, List.nil_subset, and_true] at hp₀
  unfold State.stagePut
  try dsimp only
  repeat' (first
    | focus (simp (maxDischargeDepth := 60) only [↓State.hostWrite_evolves, ↓State.setStoreBytes_evolves, ↓Evolves.foldl,
        ↓Evolves.foldl_fst, ↓Evolves.ite, ↓Evolves.ite_fst, ↓Evolves.elim_opt, Evolves.refl, Nat.le_add_right, implies_true,
        List.cons_subset, List.nil_subset, and_true, hp₀, hb₀];done)
    | (refine Evolves.foldl _ _ _ (fun u x => ?_) ?_ <;> try dsimp only)
    | (refine Evolves.foldl_fst _ _ _ (fun u x => ?_) ?_ <;> try dsimp only)
    | split)

theorem State.stageGet_evolves {ps₀ : List Part} {b₀ : State} (s : State) (n : Nat)
    (hp₀ : [.regs, .fresh, .sent, .link, .repl, .faults, .nvm, .dram, .red] ⊆ ps₀) (hb₀ : Evolves ps₀ b₀ s) :
    Evolves ps₀ b₀ (State.stageGet s n).1 := by
  simp only [List.cons_subset, List.nil_subset, and_true] at hp₀
  unfold State.stageGet
  try dsimp only
  repeat' (first
    | focus (simp (maxDischargeDepth := 60) only [↓State.readMem_evolves, ↓Evolves.foldl, ↓Evolves.foldl_fst, ↓Evolves.ite,
        ↓Evolves.ite_fst, ↓Evolves.elim_opt, Evolves.refl, Nat.le_add_right, implies_true, List.cons_subset, List.nil_subset,
        and_true, hp₀, hb₀];done)
    | (refine Evolves.foldl _ _ _ (fun u x => ?_) ?_ <;> try dsimp only)
    | (refine Evolves.foldl_fst _ _ _ (fun u x => ?_) ?_ <;> try dsimp only)
    | split)

theorem State.doStageBegin_evolves {ps₀ : List Part} {b₀ : State} (s : State) (h : Hdr) (total : Nat)
    (hp₀ : [.regs, .sent, .gen, .gnt, .cmd, .link] ⊆ ps₀) (hb₀ : Evolves ps₀ b₀ s) :
    Evolves ps₀ b₀ (State.doStageBegin s h total) := by
  simp only [List.cons_subset, List.nil_subset, and_true] at hp₀
  unfold State.doStageBegin
  try dsimp only
  repeat' (first
    | focus (simp (maxDischargeDepth := 60) only [↓State.refuse_evolves, ↓Evolves.set_cmd, ↓Evolves.foldl, ↓Evolves.foldl_fst,
        ↓Evolves.ite, ↓Evolves.ite_fst, ↓Evolves.elim_opt, Evolves.refl, Nat.le_add_right, implies_true, List.cons_subset,
        List.nil_subset, and_true, hp₀, hb₀];done)
    | (refine Evolves.foldl _ _ _ (fun u x => ?_) ?_ <;> try dsimp only)
    | (refine Evolves.foldl_fst _ _ _ (fun u x => ?_) ?_ <;> try dsimp only)
    | split)

theorem State.doStageWrite_evolves {ps₀ : List Part} {b₀ : State} (s : State) (h : Hdr) (off : Nat) (data : List Byte)
    (hp₀ : [.regs, .fresh, .sent, .gen, .gnt, .cmd, .link, .repl, .faults, .nvm, .dram, .tile, .red] ⊆ ps₀) (hb₀ : Evolves ps₀ b₀ s) :
    Evolves ps₀ b₀ (State.doStageWrite s h off data) := by
  simp only [List.cons_subset, List.nil_subset, and_true] at hp₀
  unfold State.doStageWrite
  try dsimp only
  repeat' (first
    | focus (simp (maxDischargeDepth := 60) only [↓State.refuse_evolves, ↓State.stagePut_evolves, ↓Evolves.foldl,
        ↓Evolves.foldl_fst, ↓Evolves.ite, ↓Evolves.ite_fst, ↓Evolves.elim_opt, Evolves.refl, Nat.le_add_right, implies_true,
        List.cons_subset, List.nil_subset, and_true, hp₀, hb₀];done)
    | (refine Evolves.foldl _ _ _ (fun u x => ?_) ?_ <;> try dsimp only)
    | (refine Evolves.foldl_fst _ _ _ (fun u x => ?_) ?_ <;> try dsimp only)
    | split)

theorem State.eraseSlot_evolves {ps₀ : List Part} {b₀ : State} (s : State) (k : Nat)
    (hp₀ : [.regs, .nvm, .boot] ⊆ ps₀) (hb₀ : Evolves ps₀ b₀ s) :
    Evolves ps₀ b₀ (State.eraseSlot s k) := by
  simp only [List.cons_subset, List.nil_subset, and_true] at hp₀
  unfold State.eraseSlot
  try dsimp only
  repeat' (first
    | focus (simp (maxDischargeDepth := 60) only [↓State.writeHdr_evolves, ↓State.setSlotBytes_evolves, ↓Evolves.foldl,
        ↓Evolves.foldl_fst, ↓Evolves.ite, ↓Evolves.ite_fst, ↓Evolves.elim_opt, Evolves.refl, Nat.le_add_right, implies_true,
        List.cons_subset, List.nil_subset, and_true, hp₀, hb₀];done)
    | (refine Evolves.foldl _ _ _ (fun u x => ?_) ?_ <;> try dsimp only)
    | (refine Evolves.foldl_fst _ _ _ (fun u x => ?_) ?_ <;> try dsimp only)
    | split)

theorem State.writeSlot_evolves {ps₀ : List Part} {b₀ : State} (s : State) (h : Hdr) (bs : List Byte)
    (hp₀ : [.regs, .fresh, .sent, .gen, .gnt, .cmd, .link, .repl, .faults, .nvm, .boot, .red] ⊆ ps₀) (hb₀ : Evolves ps₀ b₀ s) :
    Evolves ps₀ b₀ (State.writeSlot s h bs) := by
  simp only [List.cons_subset, List.nil_subset, and_true] at hp₀
  unfold State.writeSlot
  try dsimp only
  repeat' (first
    | focus (simp (maxDischargeDepth := 60) only [↓State.refuse_evolves, ↓State.fault_evolves, ↓State.eraseSlot_evolves,
        ↓State.respond_evolves, ↓State.event_evolves, ↓State.writeHdr_evolves, ↓State.setSlotBytes_evolves, ↓Evolves.set_fresh,
        ↓Evolves.foldl, ↓Evolves.foldl_fst, ↓Evolves.ite, ↓Evolves.ite_fst, ↓Evolves.elim_opt, Evolves.refl, Nat.le_add_right,
        implies_true, List.cons_subset, List.nil_subset, and_true, hp₀, hb₀];done)
    | (refine Evolves.foldl _ _ _ (fun u x => ?_) ?_ <;> try dsimp only)
    | (refine Evolves.foldl_fst _ _ _ (fun u x => ?_) ?_ <;> try dsimp only)
    | split)

theorem State.doStageEnd_evolves {ps₀ : List Part} {b₀ : State} (s : State) (h : Hdr)
    (hp₀ : [.regs, .fresh, .sent, .gen, .gnt, .cmd, .link, .repl, .faults, .nvm, .boot, .dram, .red] ⊆ ps₀) (hb₀ : Evolves ps₀ b₀ s) :
    Evolves ps₀ b₀ (State.doStageEnd s h) := by
  have hf : ∀ t, Evolves ps₀ b₀ t → ∀ o x, Evolves ps₀ b₀ (t.refuse h o x) := fun t ht o x => State.refuse_evolves _ _ _ _ (fun p hp => hp₀ (by revert p; decide)) ht
  have hg : ∀ total, Evolves ps₀ b₀ (State.stageGet { s with cmd := { s.cmd with staging := none } } total).1 := fun total =>
    State.stageGet_evolves _ _ (fun p hp => hp₀ (by revert p; decide)) (Evolves.set_cmd _ (hp₀ (by decide)) hb₀)
  unfold State.doStageEnd
  split
  · exact hf _ hb₀ _ _
  · next total _ =>
    split
    · exact hf _ hb₀ _ _
    · have hg1 := hg total
      split
      · next heq =>
        rw [heq] at hg1
        exact hf _ (State.eraseSlot_evolves _ _ (fun p hp => hp₀ (by revert p; decide)) (Evolves.set_fresh _ (Nat.le_add_right _ _) (hp₀ (by decide)) hg1)) _ _
      · next heq =>
        rw [heq] at hg1
        split
        · exact hf _ (State.event_evolves _ _ (fun p hp => hp₀ (by revert p; decide)) hg1) _ _
        · split
          · exact State.respond_evolves _ _ _ _ (fun p hp => hp₀ (by revert p; decide)) hg1
          · exact State.writeSlot_evolves _ _ _ (fun p hp => hp₀ (by revert p; decide)) hg1

theorem State.doSave_evolves {ps₀ : List Part} {b₀ : State} (s : State) (h : Hdr)
    (hp₀ : [.regs, .sent, .gen, .gnt, .cmd, .link, .nvm] ⊆ ps₀) (hb₀ : Evolves ps₀ b₀ s) :
    Evolves ps₀ b₀ (State.doSave s h) := by
  simp only [List.cons_subset, List.nil_subset, and_true] at hp₀
  unfold State.doSave
  try dsimp only
  repeat' (first
    | focus (simp (maxDischargeDepth := 60) only [↓State.refuse_evolves, ↓State.saveRecord_evolves, ↓State.respond_evolves,
        ↓Evolves.foldl, ↓Evolves.foldl_fst, ↓Evolves.ite, ↓Evolves.ite_fst, ↓Evolves.elim_opt, Evolves.refl, Nat.le_add_right,
        implies_true, List.cons_subset, List.nil_subset, and_true, hp₀, hb₀];done)
    | (refine Evolves.foldl _ _ _ (fun u x => ?_) ?_ <;> try dsimp only)
    | (refine Evolves.foldl_fst _ _ _ (fun u x => ?_) ?_ <;> try dsimp only)
    | split)

theorem State.doCommission_evolves {ps₀ : List Part} {b₀ : State} (s : State) (h : Hdr) (c : Commission)
    (hp₀ : [.regs, .sent, .gen, .gnt, .cmd, .link, .nvm] ⊆ ps₀) (hb₀ : Evolves ps₀ b₀ s) :
    Evolves ps₀ b₀ (State.doCommission s h c) := by
  simp only [List.cons_subset, List.nil_subset, and_true] at hp₀
  unfold State.doCommission
  try dsimp only
  repeat' (first
    | focus (simp (maxDischargeDepth := 60) only [↓State.refuse_evolves, ↓State.useCommission_evolves, ↓State.respond_evolves,
        ↓State.saveRecord_evolves, ↓Evolves.set_gen, ↓Evolves.set_gnt, ↓Evolves.set_gen_gnt, ↓Evolves.foldl, ↓Evolves.foldl_fst,
        ↓Evolves.ite, ↓Evolves.ite_fst, ↓Evolves.elim_opt, Evolves.refl, Nat.le_add_right, implies_true, List.cons_subset,
        List.nil_subset, and_true, hp₀, hb₀];done)
    | (refine Evolves.foldl _ _ _ (fun u x => ?_) ?_ <;> try dsimp only)
    | (refine Evolves.foldl_fst _ _ _ (fun u x => ?_) ?_ <;> try dsimp only)
    | split)

theorem State.leaveMitten_evolves {ps₀ : List Part} {b₀ : State} (s : State)
    (hp₀ : [.regs, .fresh, .cycles, .wall, .sent, .gen, .gnt, .txn, .cmd, .flip, .sched, .link, .map, .repl, .faults, .rst, .thm, .nvm, .boot, .dram, .chk, .net0, .net1, .time, .video, .scan, .lanes, .tile, .lamp, .diag, .snaps, .red] ⊆ ps₀) (hb₀ : Evolves ps₀ b₀ s) :
    Evolves ps₀ b₀ (State.leaveMitten s) := by
  simp only [List.cons_subset, List.nil_subset, and_true] at hp₀
  unfold State.leaveMitten
  try dsimp only
  repeat' (first
    | focus (simp (maxDischargeDepth := 60) only [↓State.setFlag_evolves, ↓State.setFld_evolves, ↓State.startReset_evolves,
        ↓State.setBit_evolves, ↓Evolves.foldl, ↓Evolves.foldl_fst, ↓Evolves.ite, ↓Evolves.ite_fst, ↓Evolves.elim_opt,
        Evolves.refl, Nat.le_add_right, implies_true, List.cons_subset, List.nil_subset, and_true, hp₀, hb₀];done)
    | (refine Evolves.foldl _ _ _ (fun u x => ?_) ?_ <;> try dsimp only)
    | (refine Evolves.foldl_fst _ _ _ (fun u x => ?_) ?_ <;> try dsimp only)
    | split)

theorem State.doReset_evolves {ps₀ : List Part} {b₀ : State} (s : State) (h : Hdr) (kind flags : Nat)
    (hp₀ : [.regs, .fresh, .cycles, .wall, .sent, .gen, .gnt, .txn, .cmd, .flip, .sched, .link, .map, .repl, .faults, .rst, .thm, .nvm, .boot, .dram, .chk, .net0, .net1, .time, .video, .scan, .lanes, .tile, .lamp, .diag, .snaps, .red] ⊆ ps₀) (hb₀ : Evolves ps₀ b₀ s) :
    Evolves ps₀ b₀ (State.doReset s h kind flags) := by
  have hf : ∀ t, Evolves ps₀ b₀ t → ∀ o x, Evolves ps₀ b₀ (t.refuse h o x) := fun t ht o x => State.refuse_evolves _ _ _ _ (fun p hp => hp₀ (by revert p; decide)) ht
  have ht : ∀ t, Evolves ps₀ b₀ t → Evolves ps₀ b₀ (t.stagedToTrial.getD t) := fun t h => by
    cases hs : t.stagedToTrial with
    | none => exact h
    | some u => exact State.stagedToTrial_evolves _ (fun p hp => hp₀ (by revert p; decide)) h hs
  have hend : ∀ t, Evolves ps₀ b₀ t → Evolves ps₀ b₀ (if t.mode = .mitten then t.leaveMitten else t.softReset (0x08 + kind)) := fun t h =>
    Evolves.ite (State.leaveMitten_evolves _ (fun p hp => hp₀ (by revert p; decide)) h) (State.softReset_evolves _ _ (fun p hp => hp₀ (by revert p; decide)) h)
  unfold State.doReset
  split
  · exact hf _ hb₀ _ _
  · split
    · exact hf _ hb₀ _ _
    · extract_lets s1 s2 s3
      have h1 : Evolves ps₀ b₀ s1 := hf _ hb₀ _ _
      have h2 : Evolves ps₀ b₀ s2 := Evolves.ite (ht _ h1) h1
      exact hend _ (Evolves.ite (Evolves.set_boot _ (hp₀ (by decide)) h2) h2)

theorem State.doRegRead_evolves {ps₀ : List Part} {b₀ : State} (s : State) (h : Hdr) (addr count : Nat)
    (hp₀ : [.regs, .sent, .gen, .gnt, .cmd, .link] ⊆ ps₀) (hb₀ : Evolves ps₀ b₀ s) :
    Evolves ps₀ b₀ (State.doRegRead s h addr count) := by
  simp only [List.cons_subset, List.nil_subset, and_true] at hp₀
  unfold State.doRegRead
  try dsimp only
  repeat' (first
    | focus (simp (maxDischargeDepth := 60) only [↓State.refuse_evolves, ↓State.respond_evolves, ↓Evolves.foldl,
        ↓Evolves.foldl_fst, ↓Evolves.ite, ↓Evolves.ite_fst, ↓Evolves.elim_opt, Evolves.refl, Nat.le_add_right, implies_true,
        List.cons_subset, List.nil_subset, and_true, hp₀, hb₀];done)
    | (refine Evolves.foldl _ _ _ (fun u x => ?_) ?_ <;> try dsimp only)
    | (refine Evolves.foldl_fst _ _ _ (fun u x => ?_) ?_ <;> try dsimp only)
    | split)

theorem State.doLogRead_evolves {ps₀ : List Part} {b₀ : State} (s : State) (h : Hdr) (log first count : Nat)
    (hp₀ : [.regs, .sent, .gen, .gnt, .cmd, .link] ⊆ ps₀) (hb₀ : Evolves ps₀ b₀ s) :
    Evolves ps₀ b₀ (State.doLogRead s h log first count) := by
  simp only [List.cons_subset, List.nil_subset, and_true] at hp₀
  unfold State.doLogRead
  try dsimp only
  repeat' (first
    | focus (simp (maxDischargeDepth := 60) only [↓State.refuse_evolves, ↓State.respond_evolves, ↓Evolves.foldl,
        ↓Evolves.foldl_fst, ↓Evolves.ite, ↓Evolves.ite_fst, ↓Evolves.elim_opt, Evolves.refl, Nat.le_add_right, implies_true,
        List.cons_subset, List.nil_subset, and_true, hp₀, hb₀];done)
    | (refine Evolves.foldl _ _ _ (fun u x => ?_) ?_ <;> try dsimp only)
    | (refine Evolves.foldl_fst _ _ _ (fun u x => ?_) ?_ <;> try dsimp only)
    | split)

theorem State.doSnapshotRead_evolves {ps₀ : List Part} {b₀ : State} (s : State) (h : Hdr) (id part off n : Nat)
    (hp₀ : [.regs, .sent, .gen, .gnt, .cmd, .link] ⊆ ps₀) (hb₀ : Evolves ps₀ b₀ s) :
    Evolves ps₀ b₀ (State.doSnapshotRead s h id part off n) := by
  simp only [List.cons_subset, List.nil_subset, and_true] at hp₀
  unfold State.doSnapshotRead
  try dsimp only
  repeat' (first
    | focus (simp (maxDischargeDepth := 60) only [↓State.refuse_evolves, ↓State.respond_evolves, ↓Evolves.foldl,
        ↓Evolves.foldl_fst, ↓Evolves.ite, ↓Evolves.ite_fst, ↓Evolves.elim_opt, Evolves.refl, Nat.le_add_right, implies_true,
        List.cons_subset, List.nil_subset, and_true, hp₀, hb₀];done)
    | (refine Evolves.foldl _ _ _ (fun u x => ?_) ?_ <;> try dsimp only)
    | (refine Evolves.foldl_fst _ _ _ (fun u x => ?_) ?_ <;> try dsimp only)
    | split)

end Sys2Proof.Machine
end

