-- ==== Sys2Proof/Laws/EvolveActions.lean ====
section
/-! SUPPORT. What the operations of Machine/Actions.lean keep (Evolves). -/

set_option linter.unusedSimpArgs false
set_option linter.unreachableTactic false
set_option linter.unusedTactic false
set_option linter.unusedVariables false

namespace Sys2Proof.Machine

theorem State.doCountersRead_evolves {ps₀ : List Part} {b₀ : State} (s : State) (h : Hdr) (port : Nat)
    (hp₀ : [.regs, .sent, .gen, .gnt, .cmd, .link] ⊆ ps₀) (hb₀ : Evolves ps₀ b₀ s) :
    Evolves ps₀ b₀ (State.doCountersRead s h port) := by
  simp only [List.cons_subset, List.nil_subset, and_true] at hp₀
  unfold State.doCountersRead
  try dsimp only
  repeat' (first
    | focus (simp (maxDischargeDepth := 60) only [↓State.refuse_evolves, ↓State.respond_evolves, ↓Evolves.foldl,
        ↓Evolves.foldl_fst, ↓Evolves.ite, ↓Evolves.ite_fst, ↓Evolves.elim_opt, Evolves.refl, Nat.le_add_right, implies_true,
        List.cons_subset, List.nil_subset, and_true, hp₀, hb₀];done)
    | (refine Evolves.foldl _ _ _ (fun u x => ?_) ?_ <;> try dsimp only)
    | (refine Evolves.foldl_fst _ _ _ (fun u x => ?_) ?_ <;> try dsimp only)
    | split)

theorem State.doCountersClear_evolves {ps₀ : List Part} {b₀ : State} (s : State) (h : Hdr) (port : Nat)
    (hp₀ : [.regs, .sent, .gen, .gnt, .cmd, .link, .net0, .net1] ⊆ ps₀) (hb₀ : Evolves ps₀ b₀ s) :
    Evolves ps₀ b₀ (State.doCountersClear s h port) := by
  simp only [List.cons_subset, List.nil_subset, and_true] at hp₀
  unfold State.doCountersClear
  try dsimp only
  repeat' (first
    | focus (simp (maxDischargeDepth := 60) only [↓State.refuse_evolves, ↓State.setNet_evolves, ↓Evolves.foldl,
        ↓Evolves.foldl_fst, ↓Evolves.ite, ↓Evolves.ite_fst, ↓Evolves.elim_opt, Evolves.refl, Nat.le_add_right, implies_true,
        List.cons_subset, List.nil_subset, and_true, hp₀, hb₀];done)
    | (refine Evolves.foldl _ _ _ (fun u x => ?_) ?_ <;> try dsimp only)
    | (refine Evolves.foldl_fst _ _ _ (fun u x => ?_) ?_ <;> try dsimp only)
    | split)

theorem State.doPtpMetadata_evolves {ps₀ : List Part} {b₀ : State} (s : State) (h : Hdr) (d : Nat)
    (hp₀ : [.regs, .sent, .gen, .gnt, .cmd, .link] ⊆ ps₀) (hb₀ : Evolves ps₀ b₀ s) :
    Evolves ps₀ b₀ (State.doPtpMetadata s h d) := by
  simp only [List.cons_subset, List.nil_subset, and_true] at hp₀
  unfold State.doPtpMetadata
  try dsimp only
  repeat' (first
    | focus (simp (maxDischargeDepth := 60) only [↓State.refuse_evolves, ↓State.respond_evolves, ↓Evolves.foldl,
        ↓Evolves.foldl_fst, ↓Evolves.ite, ↓Evolves.ite_fst, ↓Evolves.elim_opt, Evolves.refl, Nat.le_add_right, implies_true,
        List.cons_subset, List.nil_subset, and_true, hp₀, hb₀];done)
    | (refine Evolves.foldl _ _ _ (fun u x => ?_) ?_ <;> try dsimp only)
    | (refine Evolves.foldl_fst _ _ _ (fun u x => ?_) ?_ <;> try dsimp only)
    | split)

theorem State.doFenceSignal_evolves {ps₀ : List Part} {b₀ : State} (s : State) (h : Hdr) (n : Nat) (v : Word)
    (hp₀ : [.regs, .fresh, .cycles, .wall, .sent, .gen, .gnt, .txn, .cmd, .flip, .link, .map, .repl, .faults, .thm, .nvm, .net0, .net1, .time, .video, .scan, .lanes, .tile, .lamp, .diag, .red] ⊆ ps₀) (hb₀ : Evolves ps₀ b₀ s) :
    Evolves ps₀ b₀ (State.doFenceSignal s h n v) := by
  simp only [List.cons_subset, List.nil_subset, and_true] at hp₀
  unfold State.doFenceSignal
  try dsimp only
  repeat' (first
    | focus (simp (maxDischargeDepth := 60) only [↓State.refuse_evolves, ↓State.signalFence_evolves, ↓State.completeAfter_evolves,
        ↓Evolves.foldl, ↓Evolves.foldl_fst, ↓Evolves.ite, ↓Evolves.ite_fst, ↓Evolves.elim_opt, Evolves.refl, Nat.le_add_right,
        implies_true, List.cons_subset, List.nil_subset, and_true, hp₀, hb₀];done)
    | (refine Evolves.foldl _ _ _ (fun u x => ?_) ?_ <;> try dsimp only)
    | (refine Evolves.foldl_fst _ _ _ (fun u x => ?_) ?_ <;> try dsimp only)
    | split)

theorem State.acceptAction_evolves {ps₀ : List Part} {b₀ : State} (s : State) (h : Hdr) (op : Nat) (c : HostCmd) (chosen : Option Chosen) (e : SchedEntry) (r : Reply)
    (hp₀ : [.regs, .fresh, .cycles, .wall, .sent, .gen, .gnt, .txn, .cmd, .flip, .sched, .link, .map, .repl, .faults, .thm, .nvm, .net0, .net1, .time, .video, .scan, .lanes, .tile, .lamp, .diag, .red] ⊆ ps₀) (hb₀ : Evolves ps₀ b₀ s) :
    Evolves ps₀ b₀ (State.acceptAction s h op c chosen e r) := by
  simp only [List.cons_subset, List.nil_subset, and_true] at hp₀
  unfold State.acceptAction
  try dsimp only
  repeat' (first
    | focus (simp (maxDischargeDepth := 60) only [↓State.respond_evolves, ↓State.addAction_evolves, ↓State.sendAction_evolves,
        ↓State.completeAfter_evolves, ↓Evolves.foldl, ↓Evolves.foldl_fst, ↓Evolves.ite, ↓Evolves.ite_fst, ↓Evolves.elim_opt,
        Evolves.refl, Nat.le_add_right, implies_true, List.cons_subset, List.nil_subset, and_true, hp₀, hb₀];done)
    | (refine Evolves.foldl _ _ _ (fun u x => ?_) ?_ <;> try dsimp only)
    | (refine Evolves.foldl_fst _ _ _ (fun u x => ?_) ?_ <;> try dsimp only)
    | split)

theorem State.scheduleCmd_evolves {ps₀ : List Part} {b₀ : State} (s : State) (h : Hdr) (op : Nat) (c : HostCmd) (t : TimeField)
    (hp₀ : [.regs, .fresh, .cycles, .wall, .sent, .gen, .gnt, .txn, .cmd, .flip, .sched, .link, .map, .repl, .faults, .thm, .nvm, .net0, .net1, .time, .video, .scan, .lanes, .tile, .lamp, .diag, .red] ⊆ ps₀) (hb₀ : Evolves ps₀ b₀ s) :
    Evolves ps₀ b₀ (State.scheduleCmd s h op c t) := by
  simp only [List.cons_subset, List.nil_subset, and_true] at hp₀
  unfold State.scheduleCmd
  try dsimp only
  repeat' (first
    | focus (simp (maxDischargeDepth := 60) only [↓State.refuse_evolves, ↓State.acceptAction_evolves, ↓Evolves.foldl,
        ↓Evolves.foldl_fst, ↓Evolves.ite, ↓Evolves.ite_fst, ↓Evolves.elim_opt, Evolves.refl, Nat.le_add_right, implies_true,
        List.cons_subset, List.nil_subset, and_true, hp₀, hb₀];done)
    | (refine Evolves.foldl _ _ _ (fun u x => ?_) ?_ <;> try dsimp only)
    | (refine Evolves.foldl_fst _ _ _ (fun u x => ?_) ?_ <;> try dsimp only)
    | split)

theorem State.frameLatch_evolves {ps₀ : List Part} {b₀ : State} (s : State) (h : Hdr) (t : TimeField) (id mask : Nat)
    (hp₀ : [.regs, .sent, .gen, .gnt, .cmd, .link] ⊆ ps₀) (hb₀ : Evolves ps₀ b₀ s) :
    Evolves ps₀ b₀ (State.frameLatch s h t id mask) := by
  simp only [List.cons_subset, List.nil_subset, and_true] at hp₀
  unfold State.frameLatch
  try dsimp only
  repeat' (first
    | focus (simp (maxDischargeDepth := 60) only [↓State.refuse_evolves, ↓State.sendAll_evolves, ↓Evolves.foldl,
        ↓Evolves.foldl_fst, ↓Evolves.ite, ↓Evolves.ite_fst, ↓Evolves.elim_opt, Evolves.refl, Nat.le_add_right, implies_true,
        List.cons_subset, List.nil_subset, and_true, hp₀, hb₀];done)
    | (refine Evolves.foldl _ _ _ (fun u x => ?_) ?_ <;> try dsimp only)
    | (refine Evolves.foldl_fst _ _ _ (fun u x => ?_) ?_ <;> try dsimp only)
    | split)

theorem State.doHatband_evolves {ps₀ : List Part} {b₀ : State} (s : State) (h : Hdr) (t : TimeField) (kind id mask : Nat)
    (hp₀ : [.regs, .fresh, .cycles, .wall, .sent, .gen, .gnt, .txn, .cmd, .flip, .sched, .link, .map, .repl, .faults, .thm, .nvm, .net0, .net1, .time, .video, .scan, .lanes, .tile, .lamp, .diag, .red] ⊆ ps₀) (hb₀ : Evolves ps₀ b₀ s) :
    Evolves ps₀ b₀ (State.doHatband s h t kind id mask) := by
  simp only [List.cons_subset, List.nil_subset, and_true] at hp₀
  unfold State.doHatband
  try dsimp only
  repeat' (first
    | focus (simp (maxDischargeDepth := 60) only [↓State.scheduleCmd_evolves, ↓State.frameLatch_evolves, ↓State.refuse_evolves,
        ↓Evolves.foldl, ↓Evolves.foldl_fst, ↓Evolves.ite, ↓Evolves.ite_fst, ↓Evolves.elim_opt, Evolves.refl, Nat.le_add_right,
        implies_true, List.cons_subset, List.nil_subset, and_true, hp₀, hb₀];done)
    | (refine Evolves.foldl _ _ _ (fun u x => ?_) ?_ <;> try dsimp only)
    | (refine Evolves.foldl_fst _ _ _ (fun u x => ?_) ?_ <;> try dsimp only)
    | split)

theorem State.doSnapshot_evolves {ps₀ : List Part} {b₀ : State} (s : State) (h : Hdr) (t : TimeField) (id content : Nat)
    (hp₀ : [.regs, .fresh, .cycles, .wall, .sent, .gen, .gnt, .txn, .cmd, .flip, .sched, .link, .map, .repl, .faults, .thm, .nvm, .net0, .net1, .time, .video, .scan, .lanes, .tile, .lamp, .diag, .red] ⊆ ps₀) (hb₀ : Evolves ps₀ b₀ s) :
    Evolves ps₀ b₀ (State.doSnapshot s h t id content) := by
  simp only [List.cons_subset, List.nil_subset, and_true] at hp₀
  unfold State.doSnapshot
  try dsimp only
  repeat' (first
    | focus (simp (maxDischargeDepth := 60) only [↓State.refuse_evolves, ↓State.scheduleCmd_evolves, ↓Evolves.foldl,
        ↓Evolves.foldl_fst, ↓Evolves.ite, ↓Evolves.ite_fst, ↓Evolves.elim_opt, Evolves.refl, Nat.le_add_right, implies_true,
        List.cons_subset, List.nil_subset, and_true, hp₀, hb₀];done)
    | (refine Evolves.foldl _ _ _ (fun u x => ?_) ?_ <;> try dsimp only)
    | (refine Evolves.foldl_fst _ _ _ (fun u x => ?_) ?_ <;> try dsimp only)
    | split)

theorem State.doWallReset_evolves {ps₀ : List Part} {b₀ : State} (s : State) (h : Hdr) (t : TimeField) (level id : Nat)
    (hp₀ : [.regs, .fresh, .cycles, .wall, .sent, .gen, .gnt, .txn, .cmd, .flip, .sched, .link, .map, .repl, .faults, .thm, .nvm, .net0, .net1, .time, .video, .scan, .lanes, .tile, .lamp, .diag, .red] ⊆ ps₀) (hb₀ : Evolves ps₀ b₀ s) :
    Evolves ps₀ b₀ (State.doWallReset s h t level id) := by
  simp only [List.cons_subset, List.nil_subset, and_true] at hp₀
  unfold State.doWallReset
  try dsimp only
  repeat' (first
    | focus (simp (maxDischargeDepth := 60) only [↓State.scheduleCmd_evolves, ↓State.refuse_evolves, ↓Evolves.foldl,
        ↓Evolves.foldl_fst, ↓Evolves.ite, ↓Evolves.ite_fst, ↓Evolves.elim_opt, Evolves.refl, Nat.le_add_right, implies_true,
        List.cons_subset, List.nil_subset, and_true, hp₀, hb₀];done)
    | (refine Evolves.foldl _ _ _ (fun u x => ?_) ?_ <;> try dsimp only)
    | (refine Evolves.foldl_fst _ _ _ (fun u x => ?_) ?_ <;> try dsimp only)
    | split)

theorem State.restepSender_evolves {ps₀ : List Part} {b₀ : State} (s : State) (h : Hdr)
    (hp₀ : [.regs, .fresh, .cycles, .wall, .sent, .gen, .gnt, .txn, .cmd, .flip, .sched, .link, .map, .repl, .faults, .thm, .nvm, .net0, .net1, .time, .video, .scan, .lanes, .tile, .lamp, .diag, .red] ⊆ ps₀) (hb₀ : Evolves ps₀ b₀ s) :
    Evolves ps₀ b₀ (State.restepSender s h) := by
  simp only [List.cons_subset, List.nil_subset, and_true] at hp₀
  unfold State.restepSender
  try dsimp only
  repeat' (first
    | focus (simp (maxDischargeDepth := 60) only [↓State.refuse_evolves, ↓State.drawn_evolves, ↓State.acceptAction_evolves,
        ↓State.setFlag_evolves, ↓Evolves.foldl, ↓Evolves.foldl_fst, ↓Evolves.ite, ↓Evolves.ite_fst, ↓Evolves.elim_opt,
        Evolves.refl, Nat.le_add_right, implies_true, List.cons_subset, List.nil_subset, and_true, hp₀, hb₀];done)
    | (refine Evolves.foldl _ _ _ (fun u x => ?_) ?_ <;> try dsimp only)
    | (refine Evolves.foldl_fst _ _ _ (fun u x => ?_) ?_ <;> try dsimp only)
    | split)

theorem State.restepTile_evolves {ps₀ : List Part} {b₀ : State} (s : State) (h : Hdr)
    (hp₀ : [.regs, .fresh, .wall, .sent, .gen, .gnt, .cmd, .flip, .sched, .link, .time] ⊆ ps₀) (hb₀ : Evolves ps₀ b₀ s) :
    Evolves ps₀ b₀ (State.restepTile s h) := by
  simp only [List.cons_subset, List.nil_subset, and_true] at hp₀
  unfold State.restepTile
  try dsimp only
  repeat' (first
    | focus (simp (maxDischargeDepth := 60) only [↓State.drawn_evolves, ↓State.respond_evolves, ↓State.applyStep_evolves,
        ↓State.refuse_evolves, ↓Evolves.foldl, ↓Evolves.foldl_fst, ↓Evolves.ite, ↓Evolves.ite_fst, ↓Evolves.elim_opt,
        Evolves.refl, Nat.le_add_right, implies_true, List.cons_subset, List.nil_subset, and_true, hp₀, hb₀];done)
    | (refine Evolves.foldl _ _ _ (fun u x => ?_) ?_ <;> try dsimp only)
    | (refine Evolves.foldl_fst _ _ _ (fun u x => ?_) ?_ <;> try dsimp only)
    | split)

theorem State.doRestep_evolves {ps₀ : List Part} {b₀ : State} (s : State) (h : Hdr)
    (hp₀ : [.regs, .fresh, .cycles, .wall, .sent, .gen, .gnt, .txn, .cmd, .flip, .sched, .link, .map, .repl, .faults, .thm, .nvm, .net0, .net1, .time, .video, .scan, .lanes, .tile, .lamp, .diag, .red] ⊆ ps₀) (hb₀ : Evolves ps₀ b₀ s) :
    Evolves ps₀ b₀ (State.doRestep s h) := by
  simp only [List.cons_subset, List.nil_subset, and_true] at hp₀
  unfold State.doRestep
  try dsimp only
  repeat' (first
    | focus (simp (maxDischargeDepth := 60) only [↓State.restepTile_evolves, ↓State.restepSender_evolves, ↓Evolves.foldl,
        ↓Evolves.foldl_fst, ↓Evolves.ite, ↓Evolves.ite_fst, ↓Evolves.elim_opt, Evolves.refl, Nat.le_add_right, implies_true,
        List.cons_subset, List.nil_subset, and_true, hp₀, hb₀];done)
    | (refine Evolves.foldl _ _ _ (fun u x => ?_) ?_ <;> try dsimp only)
    | (refine Evolves.foldl_fst _ _ _ (fun u x => ?_) ?_ <;> try dsimp only)
    | split)

theorem State.doSwap_evolves {ps₀ : List Part} {b₀ : State} (s : State) (h : Hdr)
    (hp₀ : [.regs, .sent, .gen, .gnt, .cmd, .link, .red] ⊆ ps₀) (hb₀ : Evolves ps₀ b₀ s) :
    Evolves ps₀ b₀ (State.doSwap s h) := by
  simp only [List.cons_subset, List.nil_subset, and_true] at hp₀
  unfold State.doSwap
  try dsimp only
  repeat' (first
    | focus (simp (maxDischargeDepth := 60) only [↓State.refuse_evolves, ↓State.startSwap_evolves, ↓Evolves.foldl,
        ↓Evolves.foldl_fst, ↓Evolves.ite, ↓Evolves.ite_fst, ↓Evolves.elim_opt, Evolves.refl, Nat.le_add_right, implies_true,
        List.cons_subset, List.nil_subset, and_true, hp₀, hb₀];done)
    | (refine Evolves.foldl _ _ _ (fun u x => ?_) ?_ <;> try dsimp only)
    | (refine Evolves.foldl_fst _ _ _ (fun u x => ?_) ?_ <;> try dsimp only)
    | split)

theorem State.sendCmdTile_evolves {ps₀ : List Part} {b₀ : State} (s : State) (tile : Nat) (bs : List Byte)
    (hp₀ : [.sent, .link] ⊆ ps₀) (hb₀ : Evolves ps₀ b₀ s) :
    Evolves ps₀ b₀ (State.sendCmdTile s tile bs) := by
  simp only [List.cons_subset, List.nil_subset, and_true] at hp₀
  unfold State.sendCmdTile
  try dsimp only
  repeat' (first
    | focus (simp (maxDischargeDepth := 60) only [↓State.sendTile_evolves, ↓Evolves.foldl, ↓Evolves.foldl_fst, ↓Evolves.ite,
        ↓Evolves.ite_fst, ↓Evolves.elim_opt, Evolves.refl, Nat.le_add_right, implies_true, List.cons_subset, List.nil_subset,
        and_true, hp₀, hb₀];done)
    | (refine Evolves.foldl _ _ _ (fun u x => ?_) ?_ <;> try dsimp only)
    | (refine Evolves.foldl_fst _ _ _ (fun u x => ?_) ?_ <;> try dsimp only)
    | split)

theorem State.sendCmdChain_evolves {ps₀ : List Part} {b₀ : State} (s : State) (c : Nat) (bs : List Byte)
    (hp₀ : [.sent, .link] ⊆ ps₀) (hb₀ : Evolves ps₀ b₀ s) :
    Evolves ps₀ b₀ (State.sendCmdChain s c bs) := by
  simp only [List.cons_subset, List.nil_subset, and_true] at hp₀
  unfold State.sendCmdChain
  try dsimp only
  repeat' (first
    | focus (simp (maxDischargeDepth := 60) only [↓State.sendMsg_evolves, ↓Evolves.foldl, ↓Evolves.foldl_fst, ↓Evolves.ite,
        ↓Evolves.ite_fst, ↓Evolves.elim_opt, Evolves.refl, Nat.le_add_right, implies_true, List.cons_subset, List.nil_subset,
        and_true, hp₀, hb₀];done)
    | (refine Evolves.foldl _ _ _ (fun u x => ?_) ?_ <;> try dsimp only)
    | (refine Evolves.foldl_fst _ _ _ (fun u x => ?_) ?_ <;> try dsimp only)
    | split)

theorem State.dropTileCmd_evolves {ps₀ : List Part} {b₀ : State} (s : State) (w : TileCmdWait)
    (hp₀ : [.cmd] ⊆ ps₀) (hb₀ : Evolves ps₀ b₀ s) :
    Evolves ps₀ b₀ (State.dropTileCmd s w) := by
  simp only [List.cons_subset, List.nil_subset, and_true] at hp₀
  unfold State.dropTileCmd
  try dsimp only
  repeat' (first
    | focus (simp (maxDischargeDepth := 60) only [↓Evolves.set_cmd, ↓Evolves.foldl, ↓Evolves.foldl_fst, ↓Evolves.ite,
        ↓Evolves.ite_fst, ↓Evolves.elim_opt, Evolves.refl, Nat.le_add_right, implies_true, List.cons_subset, List.nil_subset,
        and_true, hp₀, hb₀];done)
    | (refine Evolves.foldl _ _ _ (fun u x => ?_) ?_ <;> try dsimp only)
    | (refine Evolves.foldl_fst _ _ _ (fun u x => ?_) ?_ <;> try dsimp only)
    | split)

theorem State.sendCmdMask_evolves {ps₀ : List Part} {b₀ : State} (s : State) (mask : Nat) (bs : List Byte)
    (hp₀ : [.sent, .link] ⊆ ps₀) (hb₀ : Evolves ps₀ b₀ s) :
    Evolves ps₀ b₀ (State.sendCmdMask s mask bs) := by
  simp only [List.cons_subset, List.nil_subset, and_true] at hp₀
  unfold State.sendCmdMask
  try dsimp only
  repeat' (first
    | focus (simp (maxDischargeDepth := 60) only [↓State.sendCmdChain_evolves, ↓Evolves.foldl, ↓Evolves.foldl_fst, ↓Evolves.ite,
        ↓Evolves.ite_fst, ↓Evolves.elim_opt, Evolves.refl, Nat.le_add_right, implies_true, List.cons_subset, List.nil_subset,
        and_true, hp₀, hb₀];done)
    | (refine Evolves.foldl _ _ _ (fun u x => ?_) ?_ <;> try dsimp only)
    | (refine Evolves.foldl_fst _ _ _ (fun u x => ?_) ?_ <;> try dsimp only)
    | split)

theorem State.doTileCmd_evolves {ps₀ : List Part} {b₀ : State} (s : State) (h : Hdr) (target mask tmo : Nat) (inner : List Byte)
    (hp₀ : [.regs, .sent, .gen, .gnt, .cmd, .link] ⊆ ps₀) (hb₀ : Evolves ps₀ b₀ s) :
    Evolves ps₀ b₀ (State.doTileCmd s h target mask tmo inner) := by
  simp only [List.cons_subset, List.nil_subset, and_true] at hp₀
  unfold State.doTileCmd
  try dsimp only
  repeat' (first
    | focus (simp (maxDischargeDepth := 60) only [↓State.refuse_evolves, ↓State.respond_evolves, ↓State.sendCmdMask_evolves,
        ↓State.sendCmdTile_evolves, ↓Evolves.set_cmd, ↓Evolves.foldl, ↓Evolves.foldl_fst, ↓Evolves.ite, ↓Evolves.ite_fst,
        ↓Evolves.elim_opt, Evolves.refl, Nat.le_add_right, implies_true, List.cons_subset, List.nil_subset, and_true, hp₀,
        hb₀];done)
    | (refine Evolves.foldl _ _ _ (fun u x => ?_) ?_ <;> try dsimp only)
    | (refine Evolves.foldl_fst _ _ _ (fun u x => ?_) ?_ <;> try dsimp only)
    | split)

theorem State.tileAnswers_evolves {ps₀ : List Part} {b₀ : State} (s : State) (tile : Nat) (bs : List Byte)
    (hp₀ : [.regs, .sent, .gen, .gnt, .cmd, .link] ⊆ ps₀) (hb₀ : Evolves ps₀ b₀ s) :
    Evolves ps₀ b₀ (State.tileAnswers s tile bs) := by
  simp only [List.cons_subset, List.nil_subset, and_true] at hp₀
  unfold State.tileAnswers
  try dsimp only
  repeat' (first
    | focus (simp (maxDischargeDepth := 60) only [↓State.respond_evolves, ↓State.dropTileCmd_evolves, ↓Evolves.set_cmd,
        ↓Evolves.foldl, ↓Evolves.foldl_fst, ↓Evolves.ite, ↓Evolves.ite_fst, ↓Evolves.elim_opt, Evolves.refl, Nat.le_add_right,
        implies_true, List.cons_subset, List.nil_subset, and_true, hp₀, hb₀];done)
    | (refine Evolves.foldl _ _ _ (fun u x => ?_) ?_ <;> try dsimp only)
    | (refine Evolves.foldl_fst _ _ _ (fun u x => ?_) ?_ <;> try dsimp only)
    | split)

theorem State.tileCmdEnds_evolves {ps₀ : List Part} {b₀ : State} (s : State) (w : TileCmdWait)
    (hp₀ : [.regs, .cycles, .wall, .sent, .gen, .gnt, .cmd, .link] ⊆ ps₀) (hb₀ : Evolves ps₀ b₀ s) :
    Evolves ps₀ b₀ (State.tileCmdEnds s w) := by
  simp only [List.cons_subset, List.nil_subset, and_true] at hp₀
  unfold State.tileCmdEnds
  try dsimp only
  repeat' (first
    | focus (simp (maxDischargeDepth := 60) only [↓State.dropTileCmd_evolves, ↓State.untilCycle_evolves, ↓State.refuse_evolves,
        ↓State.respond_evolves, ↓Evolves.foldl, ↓Evolves.foldl_fst, ↓Evolves.ite, ↓Evolves.ite_fst, ↓Evolves.elim_opt,
        Evolves.refl, Nat.le_add_right, implies_true, List.cons_subset, List.nil_subset, and_true, hp₀, hb₀];done)
    | (refine Evolves.foldl _ _ _ (fun u x => ?_) ?_ <;> try dsimp only)
    | (refine Evolves.foldl_fst _ _ _ (fun u x => ?_) ?_ <;> try dsimp only)
    | split)

theorem execTileCmdTimeout_evolves (auth : Auth) (s : State) :
    ∃ t₁, execTileCmdTimeout auth s = .next t₁ ∧ Evolves [.regs, .cycles, .wall, .sent, .gen, .gnt, .cmd, .link] s t₁ := by
  have hb₀ := Evolves.refl [.regs, .cycles, .wall, .sent, .gen, .gnt, .cmd, .link] s
  unfold execTileCmdTimeout
  refine ⟨_, rfl, ?_⟩
  try dsimp only
  repeat' (first
    | focus (simp (maxDischargeDepth := 60) only [↓State.tileCmdEnds_evolves, ↓Evolves.foldl, ↓Evolves.foldl_fst, ↓Evolves.ite,
        ↓Evolves.ite_fst, ↓Evolves.elim_opt, Evolves.refl, Nat.le_add_right, implies_true, List.cons_subset, List.nil_subset,
        and_true, List.mem_cons, reduceCtorEq, true_or, or_true, false_or, or_false, hb₀];done)
    | (refine Evolves.foldl _ _ _ (fun u x => ?_) ?_ <;> try dsimp only)
    | (refine Evolves.foldl_fst _ _ _ (fun u x => ?_) ?_ <;> try dsimp only)
    | split)

theorem State.doFactory_evolves {ps₀ : List Part} {b₀ : State} (s : State) (h : Hdr) (op : Nat)
    (hp₀ : [.regs, .fresh, .sent, .gen, .gnt, .cmd, .link] ⊆ ps₀) (hb₀ : Evolves ps₀ b₀ s) :
    Evolves ps₀ b₀ (State.doFactory s h op) := by
  simp only [List.cons_subset, List.nil_subset, and_true] at hp₀
  unfold State.doFactory
  dsimp only
  exact State.respond_evolves _ _ _ _ (by simp [hp₀]) (Evolves.set_fresh _ (by omega) (by simp [hp₀]) hb₀)

end Sys2Proof.Machine
end

