-- ==== Sys2Proof/Laws/EvolveParse.lean ====
section
/-! SUPPORT. What the operations of Machine/Parse.lean keep (Evolves). -/

set_option linter.unusedSimpArgs false
set_option linter.unreachableTactic false
set_option linter.unusedTactic false
set_option linter.unusedVariables false

namespace Sys2Proof.Machine

theorem State.badAuth_evolves {ps₀ : List Part} {b₀ : State} (s : State) (via : Transport) (bs : List Byte)
    (hp₀ : [.regs, .sent, .cmd, .link] ⊆ ps₀) (hb₀ : Evolves ps₀ b₀ s) :
    Evolves ps₀ b₀ (State.badAuth s via bs) := by
  simp only [List.cons_subset, List.nil_subset, and_true] at hp₀
  unfold State.badAuth
  try dsimp only
  repeat' (first
    | focus (simp (maxDischargeDepth := 60) only [↓State.deliver_evolves, ↓State.authFail_evolves, ↓Evolves.foldl,
        ↓Evolves.foldl_fst, ↓Evolves.ite, ↓Evolves.ite_fst, ↓Evolves.elim_opt, Evolves.refl, Nat.le_add_right, implies_true,
        List.cons_subset, List.nil_subset, and_true, hp₀, hb₀];done)
    | (refine Evolves.foldl _ _ _ (fun u x => ?_) ?_ <;> try dsimp only)
    | (refine Evolves.foldl_fst _ _ _ (fun u x => ?_) ?_ <;> try dsimp only)
    | split)

theorem State.stepCmd_evolves {ps₀ : List Part} {b₀ : State} (s : State) (h : Hdr) (p : List Byte)
    (hp₀ : [.regs, .sent, .cmd, .sched, .link] ⊆ ps₀) (hb₀ : Evolves ps₀ b₀ s) :
    Evolves ps₀ b₀ (State.stepCmd s h p) := by
  simp only [List.cons_subset, List.nil_subset, and_true] at hp₀
  unfold State.stepCmd
  try dsimp only
  repeat' (first
    | focus (simp (maxDischargeDepth := 60) only [↓State.takeAction_evolves, ↓State.answer_evolves, ↓Evolves.foldl,
        ↓Evolves.foldl_fst, ↓Evolves.ite, ↓Evolves.ite_fst, ↓Evolves.elim_opt, Evolves.refl, Nat.le_add_right, implies_true,
        List.cons_subset, List.nil_subset, and_true, hp₀, hb₀];done)
    | (refine Evolves.foldl _ _ _ (fun u x => ?_) ?_ <;> try dsimp only)
    | (refine Evolves.foldl_fst _ _ _ (fun u x => ?_) ?_ <;> try dsimp only)
    | split)

theorem State.takePacket_evolves {ps₀ : List Part} {b₀ : State} (s : State) (via : Transport) (bs : List Byte)
    (hp₀ : [.regs, .fresh, .cycles, .wall, .sent, .gen, .gnt, .txn, .cmd, .flip, .sched, .link, .map, .repl, .faults, .rst, .thm, .nvm, .boot, .dram, .chk, .net0, .net1, .time, .video, .scan, .lanes, .tile, .lamp, .diag, .snaps, .red] ⊆ ps₀) (hb₀ : Evolves ps₀ b₀ s) :
    Evolves ps₀ b₀ (State.takePacket s via bs) := by
  simp only [List.cons_subset, List.nil_subset, and_true] at hp₀
  unfold State.takePacket
  try dsimp only
  repeat' (first
    | focus (simp (maxDischargeDepth := 60) only [↓State.frameErr_evolves, ↓State.badAuth_evolves, ↓State.stepCmd_evolves,
        ↓State.judge_evolves, ↓Evolves.foldl, ↓Evolves.foldl_fst, ↓Evolves.ite, ↓Evolves.ite_fst, ↓Evolves.elim_opt, Evolves.refl,
        Nat.le_add_right, implies_true, List.cons_subset, List.nil_subset, and_true, hp₀, hb₀];done)
    | (refine Evolves.foldl _ _ _ (fun u x => ?_) ?_ <;> try dsimp only)
    | (refine Evolves.foldl_fst _ _ _ (fun u x => ?_) ?_ <;> try dsimp only)
    | split)

end Sys2Proof.Machine
end

