-- ==== Sys2Proof/Laws/EvolvePush.lean ====
section
/-! SUPPORT. What the operations of Machine/Push.lean keep (Evolves). -/

set_option linter.unusedSimpArgs false
set_option linter.unreachableTactic false
set_option linter.unusedTactic false
set_option linter.unusedVariables false

namespace Sys2Proof.Machine

theorem State.startPush_evolves {ps₀ : List Part} {b₀ : State} (s : State) (chain : Nat) (tiles : List (Nat × Bool))
    (hp₀ : [.regs, .fresh, .sent, .cmd, .link] ⊆ ps₀) (hb₀ : Evolves ps₀ b₀ s) :
    Evolves ps₀ b₀ (State.startPush s chain tiles) := by
  simp only [List.cons_subset, List.nil_subset, and_true] at hp₀
  unfold State.startPush
  try dsimp only
  repeat' (first
    | focus (simp (maxDischargeDepth := 60) only [↓State.sendCmdChain_evolves, ↓State.drawn_evolves, ↓State.setBit_evolves,
        ↓Evolves.set_cmd, ↓Evolves.foldl, ↓Evolves.foldl_fst, ↓Evolves.ite, ↓Evolves.ite_fst, ↓Evolves.elim_opt, Evolves.refl,
        Nat.le_add_right, implies_true, List.cons_subset, List.nil_subset, and_true, hp₀, hb₀];done)
    | (refine Evolves.foldl _ _ _ (fun u x => ?_) ?_ <;> try dsimp only)
    | (refine Evolves.foldl_fst _ _ _ (fun u x => ?_) ?_ <;> try dsimp only)
    | split)

theorem State.joinPush_evolves {ps₀ : List Part} {b₀ : State} (s : State) (i : TileInfo)
    (hp₀ : [.regs, .fresh, .sent, .cmd, .link] ⊆ ps₀) (hb₀ : Evolves ps₀ b₀ s) :
    Evolves ps₀ b₀ (State.joinPush s i) := by
  simp only [List.cons_subset, List.nil_subset, and_true] at hp₀
  unfold State.joinPush
  try dsimp only
  repeat' (first
    | focus (simp (maxDischargeDepth := 60) only [↓State.startPush_evolves, ↓Evolves.set_cmd, ↓Evolves.foldl, ↓Evolves.foldl_fst,
        ↓Evolves.ite, ↓Evolves.ite_fst, ↓Evolves.elim_opt, Evolves.refl, Nat.le_add_right, implies_true, List.cons_subset,
        List.nil_subset, and_true, hp₀, hb₀];done)
    | (refine Evolves.foldl _ _ _ (fun u x => ?_) ?_ <;> try dsimp only)
    | (refine Evolves.foldl_fst _ _ _ (fun u x => ?_) ?_ <;> try dsimp only)
    | split)

theorem State.activateTile_evolves {ps₀ : List Part} {b₀ : State} (s : State) (seq due id : Nat) (x : Nat × Bool)
    (hp₀ : [.sent, .link] ⊆ ps₀) (hb₀ : Evolves ps₀ b₀ s) :
    Evolves ps₀ b₀ (State.activateTile s seq due id x) := by
  simp only [List.cons_subset, List.nil_subset, and_true] at hp₀
  unfold State.activateTile
  try dsimp only
  repeat' (first
    | focus (simp (maxDischargeDepth := 60) only [↓State.sendCmdTile_evolves, ↓Evolves.foldl, ↓Evolves.foldl_fst, ↓Evolves.ite,
        ↓Evolves.ite_fst, ↓Evolves.elim_opt, Evolves.refl, Nat.le_add_right, implies_true, List.cons_subset, List.nil_subset,
        and_true, hp₀, hb₀];done)
    | (refine Evolves.foldl _ _ _ (fun u x => ?_) ?_ <;> try dsimp only)
    | (refine Evolves.foldl_fst _ _ _ (fun u x => ?_) ?_ <;> try dsimp only)
    | split)

theorem State.endPush_evolves {ps₀ : List Part} {b₀ : State} (s : State) (p : Push)
    (hp₀ : [.regs, .fresh, .sent, .cmd, .link] ⊆ ps₀) (hb₀ : Evolves ps₀ b₀ s) :
    Evolves ps₀ b₀ (State.endPush s p) := by
  simp only [List.cons_subset, List.nil_subset, and_true] at hp₀
  unfold State.endPush
  try dsimp only
  repeat' (first
    | focus (simp (maxDischargeDepth := 60) only [↓State.activateTile_evolves, ↓State.drawn_evolves, ↓State.setBit_evolves,
        ↓State.event_evolves, ↓State.startPush_evolves, ↓Evolves.set_cmd, ↓Evolves.foldl, ↓Evolves.foldl_fst, ↓Evolves.ite,
        ↓Evolves.ite_fst, ↓Evolves.elim_opt, Evolves.refl, Nat.le_add_right, implies_true, List.cons_subset, List.nil_subset,
        and_true, hp₀, hb₀];done)
    | (refine Evolves.foldl _ _ _ (fun u x => ?_) ?_ <;> try dsimp only)
    | (refine Evolves.foldl_fst _ _ _ (fun u x => ?_) ?_ <;> try dsimp only)
    | split)

theorem State.pushGoesOn_evolves {ps₀ : List Part} {b₀ : State} (s : State) (p : Push)
    (hp₀ : [.regs, .fresh, .sent, .cmd, .link] ⊆ ps₀) (hb₀ : Evolves ps₀ b₀ s) :
    Evolves ps₀ b₀ (State.pushGoesOn s p) := by
  simp only [List.cons_subset, List.nil_subset, and_true] at hp₀
  unfold State.pushGoesOn
  try dsimp only
  repeat' (first
    | focus (simp (maxDischargeDepth := 60) only [↓State.endPush_evolves, ↓Evolves.set_cmd, ↓Evolves.foldl, ↓Evolves.foldl_fst,
        ↓Evolves.ite, ↓Evolves.ite_fst, ↓Evolves.elim_opt, Evolves.refl, Nat.le_add_right, implies_true, List.cons_subset,
        List.nil_subset, and_true, hp₀, hb₀];done)
    | (refine Evolves.foldl _ _ _ (fun u x => ?_) ?_ <;> try dsimp only)
    | (refine Evolves.foldl_fst _ _ _ (fun u x => ?_) ?_ <;> try dsimp only)
    | split)

theorem State.pushAnswers_evolves {ps₀ : List Part} {b₀ : State} (s : State) (tile : Nat) (bs : List Byte)
    (hp₀ : [.regs, .fresh, .sent, .cmd, .link, .repl, .faults, .nvm, .red] ⊆ ps₀) (hb₀ : Evolves ps₀ b₀ s) :
    Evolves ps₀ b₀ (State.pushAnswers s tile bs) := by
  simp only [List.cons_subset, List.nil_subset, and_true] at hp₀
  unfold State.pushAnswers
  try dsimp only
  repeat' (first
    | focus (simp (maxDischargeDepth := 60) only [↓State.pushGoesOn_evolves, ↓State.fault_evolves, ↓State.event_evolves,
        ↓Evolves.foldl, ↓Evolves.foldl_fst, ↓Evolves.ite, ↓Evolves.ite_fst, ↓Evolves.elim_opt, Evolves.refl, Nat.le_add_right,
        implies_true, List.cons_subset, List.nil_subset, and_true, hp₀, hb₀];done)
    | (refine Evolves.foldl _ _ _ (fun u x => ?_) ?_ <;> try dsimp only)
    | (refine Evolves.foldl_fst _ _ _ (fun u x => ?_) ?_ <;> try dsimp only)
    | split)

theorem State.pushLeaves_evolves {ps₀ : List Part} {b₀ : State} (s : State) (tile : Nat)
    (hp₀ : [.regs, .fresh, .sent, .cmd, .link] ⊆ ps₀) (hb₀ : Evolves ps₀ b₀ s) :
    Evolves ps₀ b₀ (State.pushLeaves s tile) := by
  simp only [List.cons_subset, List.nil_subset, and_true] at hp₀
  unfold State.pushLeaves
  try dsimp only
  repeat' (first
    | focus (simp (maxDischargeDepth := 60) only [↓State.pushGoesOn_evolves, ↓Evolves.foldl, ↓Evolves.foldl_fst, ↓Evolves.ite,
        ↓Evolves.ite_fst, ↓Evolves.elim_opt, Evolves.refl, Nat.le_add_right, implies_true, List.cons_subset, List.nil_subset,
        and_true, hp₀, hb₀];done)
    | (refine Evolves.foldl _ _ _ (fun u x => ?_) ?_ <;> try dsimp only)
    | (refine Evolves.foldl_fst _ _ _ (fun u x => ?_) ?_ <;> try dsimp only)
    | split)

theorem execTileInfo_evolves (m : MsgHdr) (i : TileInfo) (s : State) :
    ∃ t₁, execTileInfo m i s = .next t₁ ∧ Evolves [.regs, .fresh, .sent, .cmd, .link, .repl, .red] s t₁ := by
  have hb₀ := Evolves.refl [.regs, .fresh, .sent, .cmd, .link, .repl, .red] s
  unfold execTileInfo
  refine ⟨_, rfl, ?_⟩
  try dsimp only
  repeat' (first
    | focus (simp (maxDischargeDepth := 60) only [↓State.receiveOk_evolves, ↓State.tileRestarts_evolves, ↓State.tileInfoMsg_evolves, ↓State.joinPush_evolves,
        ↓Evolves.foldl, ↓Evolves.foldl_fst, ↓Evolves.ite, ↓Evolves.ite_fst, ↓Evolves.elim_opt, Evolves.refl, Nat.le_add_right,
        implies_true, List.cons_subset, List.nil_subset, and_true, List.mem_cons, reduceCtorEq, true_or, or_true, false_or,
        or_false, hb₀];done)
    | (refine Evolves.foldl _ _ _ (fun u x => ?_) ?_ <;> try dsimp only)
    | (refine Evolves.foldl_fst _ _ _ (fun u x => ?_) ?_ <;> try dsimp only)
    | split)

theorem execSessionTimeout_evolves (session : Nat) (s : State) :
    ∃ t₁, execSessionTimeout session s = .next t₁ ∧ Evolves [.regs, .fresh, .cycles, .wall, .sent, .cmd, .link, .repl, .red] s t₁ := by
  have hb₀ := Evolves.refl [.regs, .fresh, .cycles, .wall, .sent, .cmd, .link, .repl, .red] s
  unfold execSessionTimeout
  refine ⟨_, rfl, ?_⟩
  try dsimp only
  repeat' (first
    | focus (simp (maxDischargeDepth := 60) only [↓State.closeSession_evolves, ↓State.untilCycle_evolves,
        ↓State.pushLeaves_evolves, ↓Evolves.foldl, ↓Evolves.foldl_fst, ↓Evolves.ite, ↓Evolves.ite_fst, ↓Evolves.elim_opt,
        Evolves.refl, Nat.le_add_right, implies_true, List.cons_subset, List.nil_subset, and_true, List.mem_cons, reduceCtorEq,
        true_or, or_true, false_or, or_false, hb₀];done)
    | (refine Evolves.foldl _ _ _ (fun u x => ?_) ?_ <;> try dsimp only)
    | (refine Evolves.foldl_fst _ _ _ (fun u x => ?_) ?_ <;> try dsimp only)
    | split)

theorem State.tilePacket_evolves {ps₀ : List Part} {b₀ : State} (s : State) (tile : Nat) (bs : List Byte)
    (hp₀ : [.regs, .fresh, .sent, .gen, .gnt, .cmd, .link, .repl, .faults, .nvm, .red] ⊆ ps₀) (hb₀ : Evolves ps₀ b₀ s) :
    Evolves ps₀ b₀ (State.tilePacket s tile bs) := by
  simp only [List.cons_subset, List.nil_subset, and_true] at hp₀
  unfold State.tilePacket
  try dsimp only
  repeat' (first
    | focus (simp (maxDischargeDepth := 60) only [↓State.pushAnswers_evolves, ↓State.tileAnswers_evolves, ↓Evolves.foldl,
        ↓Evolves.foldl_fst, ↓Evolves.ite, ↓Evolves.ite_fst, ↓Evolves.elim_opt, Evolves.refl, Nat.le_add_right, implies_true,
        List.cons_subset, List.nil_subset, and_true, hp₀, hb₀];done)
    | (refine Evolves.foldl _ _ _ (fun u x => ?_) ?_ <;> try dsimp only)
    | (refine Evolves.foldl_fst _ _ _ (fun u x => ?_) ?_ <;> try dsimp only)
    | split)

theorem State.rspSegment_evolves {ps₀ : List Part} {b₀ : State} (s : State) (m : MsgHdr) (segment : List Byte)
    (hp₀ : [.regs, .fresh, .sent, .gen, .gnt, .cmd, .link, .repl, .faults, .nvm, .red] ⊆ ps₀) (hb₀ : Evolves ps₀ b₀ s) :
    Evolves ps₀ b₀ (State.rspSegment s m segment) := by
  simp only [List.cons_subset, List.nil_subset, and_true] at hp₀
  unfold State.rspSegment
  try dsimp only
  repeat' (first
    | focus (simp (maxDischargeDepth := 60) only [↓State.tilePacket_evolves, ↓Evolves.set_link, ↓Evolves.foldl,
        ↓Evolves.foldl_fst, ↓Evolves.ite, ↓Evolves.ite_fst, ↓Evolves.elim_opt, Evolves.refl, Nat.le_add_right, implies_true,
        List.cons_subset, List.nil_subset, and_true, hp₀, hb₀];done)
    | (refine Evolves.foldl _ _ _ (fun u x => ?_) ?_ <;> try dsimp only)
    | (refine Evolves.foldl_fst _ _ _ (fun u x => ?_) ?_ <;> try dsimp only)
    | split)

theorem execRspMsg_evolves (m : MsgHdr) (segment : List Byte) (s : State) :
    ∃ t₁, execRspMsg m segment s = .next t₁ ∧ Evolves [.regs, .fresh, .sent, .gen, .gnt, .cmd, .link, .repl, .faults, .nvm, .red] s t₁ := by
  have hb₀ := Evolves.refl [.regs, .fresh, .sent, .gen, .gnt, .cmd, .link, .repl, .faults, .nvm, .red] s
  unfold execRspMsg
  refine ⟨_, rfl, ?_⟩
  try dsimp only
  repeat' (first
    | focus (simp (maxDischargeDepth := 60) only [↓State.receiveOk_evolves, ↓State.rspSegment_evolves, ↓Evolves.foldl,
        ↓Evolves.foldl_fst, ↓Evolves.ite, ↓Evolves.ite_fst, ↓Evolves.elim_opt, Evolves.refl, Nat.le_add_right, implies_true,
        List.cons_subset, List.nil_subset, and_true, List.mem_cons, reduceCtorEq, true_or, or_true, false_or, or_false, hb₀];done)
    | (refine Evolves.foldl _ _ _ (fun u x => ?_) ?_ <;> try dsimp only)
    | (refine Evolves.foldl_fst _ _ _ (fun u x => ?_) ?_ <;> try dsimp only)
    | split)

end Sys2Proof.Machine
end

