-- ==== Sys2Proof/Laws/EvolveNetRx.lean ====
section
/-! SUPPORT. What the operations of Machine/NetRx.lean keep (Evolves). -/

set_option linter.unusedSimpArgs false
set_option linter.unreachableTactic false
set_option linter.unusedTactic false
set_option linter.unusedVariables false

namespace Sys2Proof.Machine

theorem State.arpReply_evolves {ps₀ : List Part} {b₀ : State} (s : State) (p op mac ip target : Nat)
    (hp₀ : [.net0, .net1] ⊆ ps₀) (hb₀ : Evolves ps₀ b₀ s) :
    Evolves ps₀ b₀ (State.arpReply s p op mac ip target) := by
  simp only [List.cons_subset, List.nil_subset, and_true] at hp₀
  unfold State.arpReply
  try dsimp only
  repeat' (first
    | focus (simp (maxDischargeDepth := 60) only [↓State.queueFrames_evolves, ↓Evolves.foldl, ↓Evolves.foldl_fst, ↓Evolves.ite,
        ↓Evolves.ite_fst, ↓Evolves.elim_opt, Evolves.refl, Nat.le_add_right, implies_true, List.cons_subset, List.nil_subset,
        and_true, hp₀, hb₀];done)
    | (refine Evolves.foldl _ _ _ (fun u x => ?_) ?_ <;> try dsimp only)
    | (refine Evolves.foldl_fst _ _ _ (fun u x => ?_) ?_ <;> try dsimp only)
    | split)

theorem State.echoReply_evolves {ps₀ : List Part} {b₀ : State} (s : State) (p mac src dst : Nat) (msg : List Byte)
    (hp₀ : [.fresh, .net0, .net1] ⊆ ps₀) (hb₀ : Evolves ps₀ b₀ s) :
    Evolves ps₀ b₀ (State.echoReply s p mac src dst msg) := by
  simp only [List.cons_subset, List.nil_subset, and_true] at hp₀
  unfold State.echoReply
  try dsimp only
  repeat' (first
    | focus (simp (maxDischargeDepth := 60) only [↓State.queueFrames_evolves, ↓Evolves.set_fresh, ↓Evolves.foldl,
        ↓Evolves.foldl_fst, ↓Evolves.ite, ↓Evolves.ite_fst, ↓Evolves.elim_opt, Evolves.refl, Nat.le_add_right, implies_true,
        List.cons_subset, List.nil_subset, and_true, hp₀, hb₀];done)
    | (refine Evolves.foldl _ _ _ (fun u x => ?_) ?_ <;> try dsimp only)
    | (refine Evolves.foldl_fst _ _ _ (fun u x => ?_) ?_ <;> try dsimp only)
    | split)

theorem State.toFirmware_evolves {ps₀ : List Part} {b₀ : State} (s : State) (p : Nat) (c : EthContent)
    (hp₀ : [.fresh, .sent, .net0, .net1] ⊆ ps₀) (hb₀ : Evolves ps₀ b₀ s) :
    Evolves ps₀ b₀ (State.toFirmware s p c) := by
  simp only [List.cons_subset, List.nil_subset, and_true] at hp₀
  unfold State.toFirmware
  try dsimp only
  repeat' (first
    | focus (simp (maxDischargeDepth := 60) only [↓State.arpReply_evolves, ↓State.send_evolves, ↓State.echoReply_evolves,
        ↓Evolves.foldl, ↓Evolves.foldl_fst, ↓Evolves.ite, ↓Evolves.ite_fst, ↓Evolves.elim_opt, Evolves.refl, Nat.le_add_right,
        implies_true, List.cons_subset, List.nil_subset, and_true, hp₀, hb₀];done)
    | (refine Evolves.foldl _ _ _ (fun u x => ?_) ?_ <;> try dsimp only)
    | (refine Evolves.foldl_fst _ _ _ (fun u x => ?_) ?_ <;> try dsimp only)
    | split)

theorem State.dispatchFrame_evolves {ps₀ : List Part} {b₀ : State} (s : State) (p : Nat) (e : EthFrame)
    (hp₀ : [.regs, .fresh, .cycles, .wall, .sent, .gen, .gnt, .txn, .cmd, .flip, .sched, .link, .map, .repl, .faults, .rst, .thm, .nvm, .boot, .dram, .chk, .net0, .net1, .time, .video, .scan, .lanes, .tile, .lamp, .diag, .snaps, .red] ⊆ ps₀) (hb₀ : Evolves ps₀ b₀ s) :
    Evolves ps₀ b₀ (State.dispatchFrame s p e) := by
  simp only [List.cons_subset, List.nil_subset, and_true] at hp₀
  unfold State.dispatchFrame
  try dsimp only
  repeat' (first
    | focus (simp (maxDischargeDepth := 60) only [↓State.toFirmware_evolves, ↓State.send_evolves, ↓State.stampRx_evolves,
        ↓State.udpSegment_evolves, ↓State.bump_evolves, ↓State.netEvent_evolves, ↓Evolves.foldl, ↓Evolves.foldl_fst, ↓Evolves.ite,
        ↓Evolves.ite_fst, ↓Evolves.elim_opt, Evolves.refl, Nat.le_add_right, implies_true, List.cons_subset, List.nil_subset,
        and_true, hp₀, hb₀];done)
    | (refine Evolves.foldl _ _ _ (fun u x => ?_) ?_ <;> try dsimp only)
    | (refine Evolves.foldl_fst _ _ _ (fun u x => ?_) ?_ <;> try dsimp only)
    | split)

theorem State.frameRx_evolves {ps₀ : List Part} {b₀ : State} (s : State) (p : Nat) (e : EthFrame)
    (hp₀ : [.regs, .fresh, .cycles, .wall, .sent, .gen, .gnt, .txn, .cmd, .flip, .sched, .link, .map, .repl, .faults, .rst, .thm, .nvm, .boot, .dram, .chk, .net0, .net1, .time, .video, .scan, .lanes, .tile, .lamp, .diag, .snaps, .red] ⊆ ps₀) (hb₀ : Evolves ps₀ b₀ s) :
    Evolves ps₀ b₀ (State.frameRx s p e) := by
  simp only [List.cons_subset, List.nil_subset, and_true] at hp₀
  unfold State.frameRx
  try dsimp only
  repeat' (first
    | focus (simp (maxDischargeDepth := 60) only [↓State.netEvent_evolves, ↓State.dispatchFrame_evolves, ↓Evolves.foldl,
        ↓Evolves.foldl_fst, ↓Evolves.ite, ↓Evolves.ite_fst, ↓Evolves.elim_opt, Evolves.refl, Nat.le_add_right, implies_true,
        List.cons_subset, List.nil_subset, and_true, hp₀, hb₀];done)
    | (refine Evolves.foldl _ _ _ (fun u x => ?_) ?_ <;> try dsimp only)
    | (refine Evolves.foldl_fst _ _ _ (fun u x => ?_) ?_ <;> try dsimp only)
    | split)

theorem execEthFrameRx_evolves (port : Nat) (e : EthFrame) (s : State) :
    ∃ t₁, execEthFrameRx port e s = .next t₁ ∧ Evolves [.regs, .fresh, .cycles, .wall, .sent, .gen, .gnt, .txn, .cmd, .flip, .sched, .link, .map, .repl, .faults, .rst, .thm, .nvm, .boot, .dram, .chk, .net0, .net1, .time, .video, .scan, .lanes, .tile, .lamp, .diag, .snaps, .red] s t₁ := by
  have hb₀ := Evolves.refl [.regs, .fresh, .cycles, .wall, .sent, .gen, .gnt, .txn, .cmd, .flip, .sched, .link, .map, .repl, .faults, .rst, .thm, .nvm, .boot, .dram, .chk, .net0, .net1, .time, .video, .scan, .lanes, .tile, .lamp, .diag, .snaps, .red] s
  unfold execEthFrameRx
  refine ⟨_, rfl, ?_⟩
  try dsimp only
  repeat' (first
    | focus (simp (maxDischargeDepth := 60) only [↓State.frameRx_evolves, ↓Evolves.foldl, ↓Evolves.foldl_fst, ↓Evolves.ite,
        ↓Evolves.ite_fst, ↓Evolves.elim_opt, Evolves.refl, Nat.le_add_right, implies_true, List.cons_subset, List.nil_subset,
        and_true, List.mem_cons, reduceCtorEq, true_or, or_true, false_or, or_false, hb₀];done)
    | (refine Evolves.foldl _ _ _ (fun u x => ?_) ?_ <;> try dsimp only)
    | (refine Evolves.foldl_fst _ _ _ (fun u x => ?_) ?_ <;> try dsimp only)
    | split)

theorem State.readTap_evolves {ps₀ : List Part} {b₀ : State} (s : State) (t x y n : Nat)
    (hp₀ : [.regs, .fresh, .sent, .link, .repl, .faults, .nvm, .dram, .red] ⊆ ps₀) (hb₀ : Evolves ps₀ b₀ s) :
    Evolves ps₀ b₀ (State.readTap s t x y n).1 := by
  unfold State.readTap
  dsimp only
  refine Evolves.foldl_fst _ _ _ (fun u q => ?_) hb₀
  have hr := State.readBurst_evolves u.1 2 q.1 hp₀ (Evolves.refl ps₀ u.1)
  split
  · next heq => rw [heq] at hr; exact hr
  · next heq => rw [heq] at hr; exact hr

theorem State.monitorPacket_evolves {ps₀ : List Part} {b₀ : State} (s : State) (p f line px ts : Nat)
    (hp₀ : [.regs, .fresh, .sent, .link, .repl, .faults, .nvm, .dram, .net0, .net1, .scan, .red] ⊆ ps₀) (hb₀ : Evolves ps₀ b₀ s) :
    Evolves ps₀ b₀ (State.monitorPacket s p f line px ts) := by
  simp only [List.cons_subset, List.nil_subset, and_true] at hp₀
  unfold State.monitorPacket
  try dsimp only
  repeat' (first
    | focus (simp (maxDischargeDepth := 60) only [↓State.readTap_evolves, ↓State.setTap_evolves, ↓State.wrapInc_evolves,
        ↓State.setNet_evolves, ↓Evolves.set_fresh, ↓Evolves.foldl, ↓Evolves.foldl_fst, ↓Evolves.ite, ↓Evolves.ite_fst,
        ↓Evolves.elim_opt, Evolves.refl, Nat.le_add_right, implies_true, List.cons_subset, List.nil_subset, and_true, hp₀,
        hb₀];done)
    | (refine Evolves.foldl _ _ _ (fun u x => ?_) ?_ <;> try dsimp only)
    | (refine Evolves.foldl_fst _ _ _ (fun u x => ?_) ?_ <;> try dsimp only)
    | split)

theorem execMonitorPacket_evolves (port flow : Nat) (s : State) :
    ∃ t₁, execMonitorPacket port flow s = .next t₁ ∧ Evolves [.regs, .fresh, .sent, .link, .repl, .faults, .nvm, .dram, .net0, .net1, .scan, .red] s t₁ := by
  have hb₀ := Evolves.refl [.regs, .fresh, .sent, .link, .repl, .faults, .nvm, .dram, .net0, .net1, .scan, .red] s
  unfold execMonitorPacket
  refine ⟨_, rfl, ?_⟩
  try dsimp only
  repeat' (first
    | focus (simp (maxDischargeDepth := 60) only [↓State.monitorPacket_evolves, ↓Evolves.foldl, ↓Evolves.foldl_fst, ↓Evolves.ite,
        ↓Evolves.ite_fst, ↓Evolves.elim_opt, Evolves.refl, Nat.le_add_right, implies_true, List.cons_subset, List.nil_subset,
        and_true, List.mem_cons, reduceCtorEq, true_or, or_true, false_or, or_false, hb₀];done)
    | (refine Evolves.foldl _ _ _ (fun u x => ?_) ?_ <;> try dsimp only)
    | (refine Evolves.foldl_fst _ _ _ (fun u x => ?_) ?_ <;> try dsimp only)
    | split)

end Sys2Proof.Machine
end

