-- ==== Sys2Proof/Laws/Commands.lean ====
section
/-! SUPPORT. Host commands: what the checks let through, and what giving a response does. -/

namespace Sys2Proof.Machine

/-! Frames of register fields -/

theorem OnlyFlds.refl (fs : List Fld) (s : State) : OnlyFlds fs s s := fun _ _ _ => rfl

theorem OnlyFlds.trans {fs : List Fld} {s t u : State} (h : OnlyFlds fs s t) (k : OnlyFlds fs t u) : OnlyFlds fs s u :=
  fun g hg ha => (k g hg ha).trans (h g hg ha)

theorem OnlyFlds.mono {fs gs : List Fld} {s t : State} (hs : fs ⊆ gs) (h : OnlyFlds fs s t) : OnlyFlds gs s t :=
  fun g hg ha => h g hg (fun f hf => ha f (hs hf))

/-- A state with the same registers. -/
theorem OnlyFlds.of_regs {fs : List Fld} {s t : State} (h : t.regs = s.regs) : OnlyFlds fs s t :=
  fun g _ _ => by simp only [State.fld, State.reg, h]

theorem OnlyFlds.setFld {fs : List Fld} {b s : State} (f : Fld) (v : Nat) (hf : f.ok = true) (hm : f ∈ fs) (h : OnlyFlds fs b s) :
    OnlyFlds fs b (s.setFld f v) := h.trans (fun g hg ha => s.fld_setFld_apart f g v hf hg (ha f hm))

theorem OnlyFlds.event {fs : List Fld} {b s : State} (f : Fld) (hf : f.ok = true) (hm : f ∈ fs) (h : OnlyFlds fs b s) :
    OnlyFlds fs b (s.event f) := h.setFld f 1 hf hm

theorem OnlyFlds.setFlag {fs : List Fld} {b s : State} (f : Fld) (x : Bool) (hf : f.ok = true) (hm : f ∈ fs) (h : OnlyFlds fs b s) :
    OnlyFlds fs b (s.setFlag f x) := h.setFld f _ hf hm

theorem OnlyFlds.bump {fs : List Fld} {b s : State} (f : Fld) (hf : f.ok = true) (hm : f ∈ fs) (h : OnlyFlds fs b s) :
    OnlyFlds fs b (s.bump f) := by
  unfold State.bump
  split
  · exact h.setFld f _ hf hm
  · exact h

theorem OnlyFlds.eventCount {fs : List Fld} {b s : State} (e c : Fld) (he : e.ok = true) (hc : c.ok = true) (hme : e ∈ fs)
    (hmc : c ∈ fs) (h : OnlyFlds fs b s) : OnlyFlds fs b (s.eventCount e c) := (h.event e he hme).bump c hc hmc

/-! Responses -/

/-- A message of a device leaves its registers, and answers nothing. -/
theorem State.sendMsg_regs (s : State) (p dst : Nat) (m : LinkMsg) (tiles : List Nat) :
    (s.sendMsg p dst m tiles).regs = s.regs ∧ Silent s (s.sendMsg p dst m tiles) := by
  unfold State.sendMsg State.emitMsg
  dsimp only
  split
  · exact ⟨rfl, [], by simp, by simp⟩
  · split <;> exact ⟨rfl, [_], rfl, by simp [Output.isReply]⟩

theorem Silent.refl (s : State) : Silent s s := ⟨[], by simp, by simp⟩

theorem Silent.trans {s t u : State} (h : Silent s t) (k : Silent t u) : Silent s u := by
  obtain ⟨a, ha, ha'⟩ := h
  obtain ⟨b, hb, hb'⟩ := k
  exact ⟨a ++ b, by rw [hb, ha, List.append_assoc], fun o ho => (List.mem_append.mp ho).elim (ha' o) (hb' o)⟩

/-- A state that has sent nothing more. -/
theorem Silent.of_sent {s t : State} (h : t.sent = s.sent) : Silent s t := ⟨[], by simp [h], by simp⟩

/-- A fold of silent operations is silent. -/
theorem Silent.foldl {α : Type} (l : List α) (f : State → α → State) (s : State) (hf : ∀ u x, Silent u (f u x)) :
    Silent s (l.foldl f s) := by
  induction l generalizing s with
  | nil => exact .refl s
  | cons x l ih => exact (hf s x).trans (ih _)

/-- A fold that keeps registers keeps them. -/
theorem foldl_regs {α : Type} (l : List α) (f : State → α → State) (s : State) (hf : ∀ u x, (f u x).regs = u.regs) :
    (l.foldl f s).regs = s.regs := by
  induction l generalizing s with
  | nil => rfl
  | cons x l ih => exact (ih _).trans (hf s x)

/-- Delivering a response sets at most RSP_READY. -/
theorem State.deliver_flds (s : State) (via : Transport) (bs : List Byte) : OnlyFlds [F.SYS_CMD_EVT_RSP_READY] s (s.deliver via bs) := by
  unfold State.deliver
  split
  · exact (OnlyFlds.of_regs rfl : OnlyFlds _ s _).event _ (by decide) (by simp)
  · exact .of_regs (foldl_regs _ _ _ (fun _ _ => rfl))
  · exact .of_regs (foldl_regs _ _ _ (fun u x => (u.sendMsg_regs _ _ _ _).1))

/-- Delivering a response gives no other. -/
theorem State.deliver_silent (s : State) (via : Transport) (bs : List Byte) : Silent s (s.deliver via bs) := by
  unfold State.deliver
  split
  · exact .of_sent rfl
  · exact Silent.foldl _ _ _ (fun u x => ⟨[_], rfl, by simp [Output.isReply]⟩)
  · exact Silent.foldl _ _ _ (fun u x => (u.sendMsg_regs _ _ _ _).2)

/-- A silent change before a response. -/
theorem Answers.after {s t u : State} {h : Hdr} {op : Nat} {r : Reply} (hs : Silent s t) (k : Answers t u h op r) : Answers s u h op r := by
  obtain ⟨a, ha, ha'⟩ := hs
  obtain ⟨p, q, hq, hq'⟩ := k
  refine ⟨a ++ p, q, by rw [hq, ha]; simp, fun o ho => ?_⟩
  simp only [List.append_assoc, List.mem_append] at ho
  rcases ho with ho | ho
  · exact ha' o ho
  · exact hq' o (List.mem_append.mpr ho)

/-- A silent change after a response. -/
theorem Answers.before {s t u : State} {h : Hdr} {op : Nat} {r : Reply} (k : Answers s t h op r) (hs : Silent t u) : Answers s u h op r := by
  obtain ⟨a, ha, ha'⟩ := hs
  obtain ⟨p, q, hq, hq'⟩ := k
  refine ⟨p, q ++ a, by rw [ha, hq]; simp, fun o ho => ?_⟩
  simp only [List.mem_append] at ho
  rcases ho with ho | ho | ho
  · exact hq' o (List.mem_append.mpr (.inl ho))
  · exact hq' o (List.mem_append.mpr (.inr ho))
  · exact ha' o ho

/-- `answer` gives its response. -/
theorem State.answer_answers (s : State) (h : Hdr) (op : Nat) (r : Reply) : Answers s (s.answer h op r) h op r := by
  unfold State.answer
  dsimp only
  refine Answers.before (t := (if r.status = .errSeq then s.event F.SYS_CMD_EVT_SEQ_ERR else s).send (.reply h op r)) ?_ (State.deliver_silent _ _ _)
  refine ⟨[], [], ?_, by simp⟩
  split <;> simp [State.send, State.event, State.setFld, State.setReg]

/-- `respond` gives its response. -/
theorem State.respond_answers (s : State) (h : Hdr) (op : Nat) (r : Reply) : Answers s (s.respond h op r) h op r := by
  unfold State.respond
  refine Answers.after (t := s.setAuth h.auth { s.auth h.auth with actions := recordReply h op r (s.auth h.auth).actions }) ?_ (State.answer_answers _ _ _ _)
  cases h.auth <;> exact .of_sent rfl

/-- A response sets at most RSP_READY and SEQ_ERR. -/
theorem State.respond_flds (s : State) (h : Hdr) (op : Nat) (r : Reply) :
    OnlyFlds [F.SYS_CMD_EVT_RSP_READY, F.SYS_CMD_EVT_SEQ_ERR] s (s.respond h op r) := by
  unfold State.respond State.answer
  dsimp only
  refine OnlyFlds.trans ?_ ((State.deliver_flds _ _ _).mono (by simp))
  split
  · refine OnlyFlds.trans (t := (s.setAuth h.auth { s.auth h.auth with actions := recordReply h op r (s.auth h.auth).actions }).event F.SYS_CMD_EVT_SEQ_ERR) ?_ (.of_regs rfl)
    refine OnlyFlds.event _ (by decide) (by simp) (.of_regs ?_)
    cases h.auth <;> rfl
  · refine .of_regs ?_
    cases h.auth <;> rfl

/-- A response other than ERR_SEQ sets at most RSP_READY. -/
theorem State.respond_flds_ok (s : State) (h : Hdr) (op : Nat) (r : Reply) (hr : r.status ≠ .errSeq) :
    OnlyFlds [F.SYS_CMD_EVT_RSP_READY] s (s.respond h op r) := by
  unfold State.respond State.answer
  dsimp only
  refine OnlyFlds.trans ?_ (State.deliver_flds _ _ _)
  rw [if_neg hr]
  refine .of_regs ?_
  cases h.auth <;> rfl

/-- A response changes no part of the state but those of a response. -/
theorem State.respond_parts (s : State) (h : Hdr) (op : Nat) (r : Reply) : OnlyParts answerParts s (s.respond h op r) :=
  (State.respond_evolves s h op r (by simp [answerParts]) (Evolves.refl answerParts s)).parts

/-! What the checks let through -/

/-- A command that passes every check before its own is accepted. -/
theorem State.submit_takes (s : State) (h : Hdr) (c : HostCmd) (k : s.takes h c) : s.submit h c = s.accept h c := by
  obtain ⟨k1, k2, k3, k4, k5, k6, k7, k8, k9, k10⟩ := k
  have ha : s.judge h (opcodeOf c) (some c) (some c) true true = s.accept h c := by
    have kg : (h.auth == .gauntlet && generalOnly c) = false := by
      cases hh : h.auth
      · rfl
      · simpa using k7 hh
    have kc : (if s.cmd.comm.isSome = true then true else s.keylessTakes h.via (some c)) = true := by
      rcases k4 with k4 | k4 <;> simp [k4]
    simp [State.judge, k3, kc, k5, k6, kg]
  unfold State.submit
  simp only [k1, k2, k8, Bool.and_self, Bool.not_true, Bool.false_eq_true, if_false, if_true]
  split
  · next hv => simp [k9 hv, ha]
  · next hv => simp [State.sourceOk, hv] at k10; simp [k10, ha]
  · exact ha

/-- A query that passes its checks runs at once. -/
theorem State.submit_query (s : State) (h : Hdr) (c : HostCmd) (k : s.takes h c) (hq : kindOf false c = .query) :
    s.submit h c = s.runQuery h c := by
  rw [s.submit_takes h c k, State.accept, if_pos hq]

/-- A command that runs now. -/
theorem State.submit_runs (s : State) (h : Hdr) (c : HostCmd) (k : s.runsNow h c) (hq : kindOf false c ≠ .query) :
    s.submit h c = s.runCmd h c := by
  obtain ⟨k1, k2, k3, k4⟩ := k
  rw [s.submit_takes h c k1, State.accept, if_neg hq, if_neg (by rintro ⟨a, b⟩; simp [k2 a] at b)]
  simp [k3, k4]

/-- The state in which a new action starts: its number is noted and its record opened. -/
def State.started (s : State) (h : Hdr) (op : Nat) : State :=
  s.setAuth h.auth { s.auth h.auth with
    maxAction := h.seq
    actions := ((s.auth h.auth).actions ++ [(⟨h.seq, h.crc, op, none⟩ : ActionRec)]).drop
      (((s.auth h.auth).actions ++ [(⟨h.seq, h.crc, op, none⟩ : ActionRec)]).length - 256) }

/-- A new action starts. -/
theorem State.startAction_new (s : State) (h : Hdr) (c : HostCmd) (k : s.newAction h c) :
    s.startAction h c = (s.started h (opcodeOf c)).runStarted h c := by
  obtain ⟨-, k2, k3, k4⟩ := k
  unfold State.startAction
  have hf : (s.auth h.auth).actions.find? (fun x => x.seq == h.seq) = none := by
    simpa [List.find?_eq_none] using k4
  have hn : ¬(h.seq = 0 ∨ h.seq ≤ (s.auth h.auth).maxAction) := by omega
  simp only [hf, hn, if_false]
  rfl

/-- A response to the action that is newest in the record is recorded. -/
theorem State.respond_recorded (s t : State) (h : Hdr) (op : Nat) (r : Reply) (hs : t.auth h.auth = (s.started h op).auth h.auth) :
    Recorded (t.respond h op r) h op r := by
  have key : ((t.respond h op r).auth h.auth) = { t.auth h.auth with actions := recordReply h op r (t.auth h.auth).actions } := by
    unfold State.respond State.answer
    dsimp only
    have hd : ∀ (u : State) (v : Transport) (bs : List Byte), (u.deliver v bs).auth h.auth = u.auth h.auth := by
      intro u v bs
      have hp := (State.deliver_evolves u v bs (ps₀ := [.regs, .sent, .cmd, .link]) (by simp) (Evolves.refl _ u)).parts
      have h1 := hp .gen (by simp)
      have h2 := hp .gnt (by simp)
      simp only [Part.same] at h1 h2
      cases h.auth <;> simp [State.auth, h1, h2]
    rw [hd]
    cases hh : h.auth <;> simp only [State.auth, State.setAuth, State.send] <;> split <;> rfl
  refine ⟨?_, ?_⟩
  · rw [key, hs]
    unfold State.started
    cases hh : h.auth <;> simp [State.auth, State.setAuth]
  · rw [key, hs]
    simp only [recordReply, List.mem_map]
    refine ⟨⟨h.seq, h.crc, op, none⟩, ?_, by simp⟩
    unfold State.started
    have hl : ∀ l : List ActionRec, (⟨h.seq, h.crc, op, none⟩ : ActionRec) ∈ (l ++ [(⟨h.seq, h.crc, op, none⟩ : ActionRec)]).drop
        ((l ++ [(⟨h.seq, h.crc, op, none⟩ : ActionRec)]).length - 256) := by
      intro l
      rw [List.drop_append]
      refine List.mem_append.mpr (.inr ?_)
      simp
    cases hh : h.auth <;> simpa [State.auth, State.setAuth, hh] using hl _

/-! Commands as wholes -/

theorem AuthsKeep.refl (h : Hdr) (s : State) : AuthsKeep h s s := ⟨fun _ => ⟨rfl, rfl, rfl, rfl⟩, fun _ _ => rfl⟩

theorem AuthsKeep.trans {h : Hdr} {s t u : State} (a : AuthsKeep h s t) (b : AuthsKeep h t u) : AuthsKeep h s u :=
  ⟨fun x => ⟨(b.1 x).1.trans (a.1 x).1, (b.1 x).2.1.trans (a.1 x).2.1, (b.1 x).2.2.1.trans (a.1 x).2.2.1,
    (b.1 x).2.2.2.trans (a.1 x).2.2.2⟩, fun x hx => (b.2 x hx).trans (a.2 x hx)⟩

/-- A change that leaves both authorities. -/
theorem AuthsKeep.of_same {h : Hdr} {s t : State} (hg : t.gen = s.gen) (hn : t.gnt = s.gnt) : AuthsKeep h s t := by
  have ha : ∀ a, t.auth a = s.auth a := fun a => by cases a <;> simp [State.auth, hg, hn]
  exact ⟨fun x => by simp [ha x], fun x _ => ha x⟩

@[simp] theorem State.setAuth_sent (s : State) (a : Auth) (x : AuthState) : (s.setAuth a x).sent = s.sent := by cases a <;> rfl

theorem State.setAuth_parts (s : State) (a : Auth) (x : AuthState) : OnlyParts [.gen, .gnt] s (s.setAuth a x) := by
  intro p hp
  cases a <;> cases p <;> first | rfl | exact absurd (by simp) hp

/-- The authorities after one of them is replaced by another with the same transactions and queue. -/
theorem State.setAuth_keeps (s : State) (h : Hdr) (x : AuthState) (ho : x.opened = (s.auth h.auth).opened)
    (hl : x.lastSeq = (s.auth h.auth).lastSeq) (hc : x.outcomes = (s.auth h.auth).outcomes) (hq : x.queue = (s.auth h.auth).queue) :
    AuthsKeep h s (s.setAuth h.auth x) := by
  constructor
  · intro a
    cases hh : h.auth <;> cases a <;> simp_all [State.auth, State.setAuth]
  · intro a ha
    cases hh : h.auth <;> cases a <;> simp_all [State.auth, State.setAuth]

/-- A response leaves the authorities but for the record of actions. -/
theorem State.answer_auths (s : State) (h : Hdr) (op : Nat) (r : Reply) : (s.answer h op r).gen = s.gen ∧ (s.answer h op r).gnt = s.gnt := by
  have hp := (State.answer_evolves s h op r (ps₀ := [.regs, .sent, .cmd, .link]) (by simp) (Evolves.refl _ s)).parts
  exact ⟨hp .gen (by simp), hp .gnt (by simp)⟩

theorem State.respond_auths (s : State) (h : Hdr) (op : Nat) (r : Reply) : AuthsKeep h s (s.respond h op r) := by
  unfold State.respond
  have k : ∀ (u : State), AuthsKeep h u (u.answer h op r) := fun u => .of_same (u.answer_auths h op r).1 (u.answer_auths h op r).2
  refine AuthsKeep.trans ?_ (k _)
  exact s.setAuth_keeps h _ rfl rfl rfl rfl

/-- A response after a silent change, with the parts and fields changed. -/
theorem State.respond_only (u s : State) (h : Hdr) (op : Nat) (r : Reply) (ps : List Part) (fs : List Fld) (hr : r.status ≠ .errSeq)
    (h1 : Silent s u) (h2 : OnlyParts (answerParts ++ ps) s u) (h3 : OnlyFlds (F.SYS_CMD_EVT_RSP_READY :: fs) s u) :
    AnswersOnly s (u.respond h op r) h op r ps fs :=
  ⟨.after h1 (u.respond_answers h op r),
    h2.trans (fun p hp => u.respond_parts h op r p (fun hm => hp (List.mem_append.mpr (.inl hm)))),
    h3.trans ((u.respond_flds_ok h op r hr).mono (by simp))⟩

/-- A response after a silent change, with what has changed. -/
theorem State.respond_replies (s u : State) (h : Hdr) (op : Nat) (r : Reply) (ps : List Part) (fs : List Fld) (hr : r.status ≠ .errSeq)
    (h1 : Silent s u) (h2 : OnlyParts (answerParts ++ ps) s u) (h3 : OnlyFlds (F.SYS_CMD_EVT_RSP_READY :: fs) s u) (h4 : AuthsKeep h s u) :
    Replies s (u.respond h op r) h op r ps fs :=
  ⟨u.respond_only s h op r ps fs hr h1 h2 h3, h4.trans (u.respond_auths h op r)⟩

/-- A response at once, of any status. -/
theorem State.respond_replies_seq (s : State) (h : Hdr) (op : Nat) (r : Reply) :
    Replies s (s.respond h op r) h op r [] [F.SYS_CMD_EVT_SEQ_ERR] :=
  ⟨⟨s.respond_answers h op r, (s.respond_parts h op r).mono (by simp), s.respond_flds h op r⟩, s.respond_auths h op r⟩

/-- A response after whatever evolves. -/
theorem Evolves.respond_gives {ps : List Part} {s u : State} (e : Evolves ps s u) (h : Hdr) (op : Nat) (r : Reply) :
    Gives s (u.respond h op r) h op r := by
  obtain ⟨a, ha⟩ := e.sent
  obtain ⟨p, q, hq, -⟩ := u.respond_answers h op r
  exact ⟨a ++ p, q, by rw [hq, ← ha]; simp⟩

/-- A response at once. -/
theorem State.respond_replies_here (s : State) (h : Hdr) (op : Nat) (r : Reply) (hr : r.status ≠ .errSeq) :
    Replies s (s.respond h op r) h op r [] [] :=
  s.respond_replies s h op r [] [] hr (.refl s) (fun p _ => p.same_refl s) (.refl _ s) (.refl h s)

/-- What the start of an action leaves. -/
theorem State.started_silent (s : State) (h : Hdr) (op : Nat) : Silent s (s.started h op) :=
  .of_sent (s.setAuth_sent _ _)

theorem State.started_parts (s : State) (h : Hdr) (op : Nat) : OnlyParts [.gen, .gnt] s (s.started h op) := s.setAuth_parts _ _

@[simp] theorem State.started_regs (s : State) (h : Hdr) (op : Nat) : (s.started h op).regs = s.regs :=
  s.started_parts h op .regs (by simp)

theorem State.started_auths (s : State) (h : Hdr) (op : Nat) : AuthsKeep h s (s.started h op) :=
  s.setAuth_keeps h _ rfl rfl rfl rfl

/-- The response of a new action, after what it does from its start. -/
theorem State.respond_acts (s u : State) (h : Hdr) (op : Nat) (r : Reply) (ps : List Part) (fs : List Fld) (hr : r.status ≠ .errSeq)
    (h1 : Silent (s.started h op) u) (h2 : OnlyParts (answerParts ++ ps) (s.started h op) u)
    (h3 : OnlyFlds (F.SYS_CMD_EVT_RSP_READY :: fs) (s.started h op) u)
    (hg : u.gen = (s.started h op).gen) (hn : u.gnt = (s.started h op).gnt) : Acts s (u.respond h op r) h op r ps fs :=
  ⟨s.respond_replies u h op r ps fs hr ((s.started_silent h op).trans h1)
      (OnlyParts.trans (fun p hp => s.started_parts h op p (fun hm => hp (by revert hm; cases p <;> simp [answerParts]))) h2)
      ((OnlyFlds.of_regs (s.started_regs h op)).trans h3) ((s.started_auths h op).trans (.of_same hg hn)),
    s.respond_recorded u h op r (by cases h.auth <;> simp [State.auth, hg, hn])⟩

/-- The response of a new action that does nothing more. -/
theorem State.respond_acts_here (s : State) (h : Hdr) (op : Nat) (r : Reply) (hr : r.status ≠ .errSeq) :
    Acts s ((s.started h op).respond h op r) h op r [] [] :=
  s.respond_acts _ h op r [] [] hr (.refl _) (fun p _ => p.same_refl _) (.refl _ _) rfl rfl

/-! What answers nothing -/

theorem State.event_silent (s : State) (f : Fld) : Silent s (s.event f) := .of_sent rfl

theorem State.sendOn_silent (s : State) (p : Nat) (m : PartnerMsg) : Silent s (s.sendOn p m) := ⟨[_], rfl, by simp [Output.isReply]⟩

theorem State.sendPartner_silent (s : State) (m : PartnerMsg) : Silent s (s.sendPartner m) := by
  unfold State.sendPartner
  cases s.pathPort <;> [exact .refl s; exact s.sendOn_silent _ m]

theorem State.append_silent (s : State) (i : ReplItem) : Silent s (s.append i) := by
  unfold State.append
  split
  · exact Silent.trans (.of_sent rfl) (State.sendPartner_silent _ _)
  · exact .refl s

theorem State.record_silent (s : State) (r : JournalRec) : Silent s (s.record r) :=
  Silent.trans (.of_sent rfl) (State.append_silent _ _)

theorem State.sendTile_silent (s : State) (tile : Nat) (m : LinkMsg) : Silent s (s.sendTile tile m) := (s.sendMsg_regs _ _ _ _).2

theorem State.sendAll_silent (s : State) (m : LinkMsg) : Silent s (s.sendAll m) := Silent.foldl _ _ _ (fun u _ => (u.sendMsg_regs _ _ _ _).2)

theorem State.sendActive_silent (s : State) (m : LinkMsg) : Silent s (s.sendActive m) := (s.sendMsg_regs _ _ _ _).2

theorem State.sendBoth_silent (s : State) (m : LinkMsg) : Silent s (s.sendBoth m) :=
  (s.sendMsg_regs _ _ _ _).2.trans (State.sendMsg_regs _ _ _ _ _).2

/-! What writes a journal record leaves -/

theorem State.record_keeps (s : State) (r : JournalRec) : OnlyParts [.sent, .txn, .repl, .red] s (s.record r) :=
  (State.record_evolves s r (by simp) (Evolves.refl _ s)).parts

theorem State.append_keeps (s : State) (i : ReplItem) : OnlyParts [.sent, .repl, .red] s (s.append i) :=
  (State.append_evolves s i (by simp) (Evolves.refl _ s)).parts

@[simp] theorem State.record_regs (s : State) (r : JournalRec) : (s.record r).regs = s.regs := s.record_keeps r .regs (by simp)
@[simp] theorem State.record_gen (s : State) (r : JournalRec) : (s.record r).gen = s.gen := s.record_keeps r .gen (by simp)
@[simp] theorem State.record_gnt (s : State) (r : JournalRec) : (s.record r).gnt = s.gnt := s.record_keeps r .gnt (by simp)
@[simp] theorem State.append_txn (s : State) (i : ReplItem) : (s.append i).txn = s.txn := s.append_keeps i .txn (by simp)
@[simp] theorem State.append_regs (s : State) (i : ReplItem) : (s.append i).regs = s.regs := s.append_keeps i .regs (by simp)
@[simp] theorem State.append_gen (s : State) (i : ReplItem) : (s.append i).gen = s.gen := s.append_keeps i .gen (by simp)
@[simp] theorem State.append_gnt (s : State) (i : ReplItem) : (s.append i).gnt = s.gnt := s.append_keeps i .gnt (by simp)
@[simp] theorem State.record_txn (s : State) (r : JournalRec) : (s.record r).txn = { s.txn with journal := s.txn.journal ++ [r] } := by
  unfold State.record; simp

@[simp] theorem State.setAuth_txn (s : State) (a : Auth) (x : AuthState) : (s.setAuth a x).txn = s.txn := by cases a <;> rfl
@[simp] theorem State.setAuth_regs (s : State) (a : Auth) (x : AuthState) : (s.setAuth a x).regs = s.regs := by cases a <;> rfl
@[simp] theorem State.setAuth_auth (s : State) (a : Auth) (x : AuthState) : (s.setAuth a x).auth a = x := by cases a <;> rfl
theorem State.setAuth_auth_ne (s : State) {a b : Auth} (x : AuthState) (h : b ≠ a) : (s.setAuth a x).auth b = s.auth b := by
  cases a <;> cases b <;> simp_all [State.setAuth, State.auth]
@[simp] theorem State.record_auth (s : State) (r : JournalRec) (a : Auth) : (s.record r).auth a = s.auth a := by
  cases a <;> simp [State.auth]
@[simp] theorem State.append_auth (s : State) (i : ReplItem) (a : Auth) : (s.append i).auth a = s.auth a := by
  cases a <;> simp [State.auth]

/-- A response leaves the transactions of the authorities as they are, and each part that it does not name. -/
theorem State.respond_auth (s : State) (h : Hdr) (op : Nat) (r : Reply) (a : Auth) :
    (s.respond h op r).auth a = if a = h.auth then { s.auth a with actions := recordReply h op r (s.auth a).actions } else s.auth a := by
  have k : ∀ u : State, (u.answer h op r).auth a = u.auth a := fun u => by
    cases a <;> simp [State.auth, (u.answer_auths h op r).1, (u.answer_auths h op r).2]
  unfold State.respond
  rw [k]
  split
  · next he => subst he; simp
  · next he => exact s.setAuth_auth_ne _ he

@[simp] theorem State.respond_txn (s : State) (h : Hdr) (op : Nat) (r : Reply) : (s.respond h op r).txn = s.txn :=
  s.respond_parts h op r .txn (by simp [answerParts])

end Sys2Proof.Machine
end

