-- ==== Sys2Proof/Laws/State.lean ====
section
/-! SUPPORT. What each update of the state leaves: one lemma for each part of the state that an operation does not change, and
register reads past an update of another part. -/

namespace Sys2Proof.Machine

/-! setReg -/

@[simp] theorem State.setReg_pending (s : State) (a : Nat) (w : Word) : (s.setReg a w).pending = s.pending := rfl
@[simp] theorem State.setReg_fresh (s : State) (a : Nat) (w : Word) : (s.setReg a w).fresh = s.fresh := rfl
@[simp] theorem State.setReg_cycles (s : State) (a : Nat) (w : Word) : (s.setReg a w).cycles = s.cycles := rfl
@[simp] theorem State.setReg_wall (s : State) (a : Nat) (w : Word) : (s.setReg a w).wall = s.wall := rfl
@[simp] theorem State.setReg_sent (s : State) (a : Nat) (w : Word) : (s.setReg a w).sent = s.sent := rfl
@[simp] theorem State.setReg_gen (s : State) (a : Nat) (w : Word) : (s.setReg a w).gen = s.gen := rfl
@[simp] theorem State.setReg_gnt (s : State) (a : Nat) (w : Word) : (s.setReg a w).gnt = s.gnt := rfl
@[simp] theorem State.setReg_txn (s : State) (a : Nat) (w : Word) : (s.setReg a w).txn = s.txn := rfl
@[simp] theorem State.setReg_cmd (s : State) (a : Nat) (w : Word) : (s.setReg a w).cmd = s.cmd := rfl
@[simp] theorem State.setReg_flip (s : State) (a : Nat) (w : Word) : (s.setReg a w).flip = s.flip := rfl
@[simp] theorem State.setReg_sched (s : State) (a : Nat) (w : Word) : (s.setReg a w).sched = s.sched := rfl
@[simp] theorem State.setReg_link (s : State) (a : Nat) (w : Word) : (s.setReg a w).link = s.link := rfl
@[simp] theorem State.setReg_map (s : State) (a : Nat) (w : Word) : (s.setReg a w).map = s.map := rfl
@[simp] theorem State.setReg_repl (s : State) (a : Nat) (w : Word) : (s.setReg a w).repl = s.repl := rfl
@[simp] theorem State.setReg_faults (s : State) (a : Nat) (w : Word) : (s.setReg a w).faults = s.faults := rfl
@[simp] theorem State.setReg_rst (s : State) (a : Nat) (w : Word) : (s.setReg a w).rst = s.rst := rfl
@[simp] theorem State.setReg_thm (s : State) (a : Nat) (w : Word) : (s.setReg a w).thm = s.thm := rfl
@[simp] theorem State.setReg_fuses (s : State) (a : Nat) (w : Word) : (s.setReg a w).fuses = s.fuses := rfl
@[simp] theorem State.setReg_nvm (s : State) (a : Nat) (w : Word) : (s.setReg a w).nvm = s.nvm := rfl
@[simp] theorem State.setReg_boot (s : State) (a : Nat) (w : Word) : (s.setReg a w).boot = s.boot := rfl
@[simp] theorem State.setReg_dram (s : State) (a : Nat) (w : Word) : (s.setReg a w).dram = s.dram := rfl
@[simp] theorem State.setReg_chk (s : State) (a : Nat) (w : Word) : (s.setReg a w).chk = s.chk := rfl
@[simp] theorem State.setReg_net0 (s : State) (a : Nat) (w : Word) : (s.setReg a w).net0 = s.net0 := rfl
@[simp] theorem State.setReg_net1 (s : State) (a : Nat) (w : Word) : (s.setReg a w).net1 = s.net1 := rfl
@[simp] theorem State.setReg_time (s : State) (a : Nat) (w : Word) : (s.setReg a w).time = s.time := rfl
@[simp] theorem State.setReg_video (s : State) (a : Nat) (w : Word) : (s.setReg a w).video = s.video := rfl
@[simp] theorem State.setReg_scan (s : State) (a : Nat) (w : Word) : (s.setReg a w).scan = s.scan := rfl
@[simp] theorem State.setReg_lanes (s : State) (a : Nat) (w : Word) : (s.setReg a w).lanes = s.lanes := rfl
@[simp] theorem State.setReg_tile (s : State) (a : Nat) (w : Word) : (s.setReg a w).tile = s.tile := rfl
@[simp] theorem State.setReg_lamp (s : State) (a : Nat) (w : Word) : (s.setReg a w).lamp = s.lamp := rfl
@[simp] theorem State.setReg_diag (s : State) (a : Nat) (w : Word) : (s.setReg a w).diag = s.diag := rfl
@[simp] theorem State.setReg_snaps (s : State) (a : Nat) (w : Word) : (s.setReg a w).snaps = s.snaps := rfl
@[simp] theorem State.setReg_red (s : State) (a : Nat) (w : Word) : (s.setReg a w).red = s.red := rfl

/-! setFld -/

@[simp] theorem State.setFld_pending (s : State) (f : Fld) (v : Nat) : (s.setFld f v).pending = s.pending := s.setReg_pending _ _
@[simp] theorem State.setFld_fresh (s : State) (f : Fld) (v : Nat) : (s.setFld f v).fresh = s.fresh := s.setReg_fresh _ _
@[simp] theorem State.setFld_cycles (s : State) (f : Fld) (v : Nat) : (s.setFld f v).cycles = s.cycles := s.setReg_cycles _ _
@[simp] theorem State.setFld_wall (s : State) (f : Fld) (v : Nat) : (s.setFld f v).wall = s.wall := s.setReg_wall _ _
@[simp] theorem State.setFld_sent (s : State) (f : Fld) (v : Nat) : (s.setFld f v).sent = s.sent := s.setReg_sent _ _
@[simp] theorem State.setFld_gen (s : State) (f : Fld) (v : Nat) : (s.setFld f v).gen = s.gen := s.setReg_gen _ _
@[simp] theorem State.setFld_gnt (s : State) (f : Fld) (v : Nat) : (s.setFld f v).gnt = s.gnt := s.setReg_gnt _ _
@[simp] theorem State.setFld_txn (s : State) (f : Fld) (v : Nat) : (s.setFld f v).txn = s.txn := s.setReg_txn _ _
@[simp] theorem State.setFld_cmd (s : State) (f : Fld) (v : Nat) : (s.setFld f v).cmd = s.cmd := s.setReg_cmd _ _
@[simp] theorem State.setFld_flip (s : State) (f : Fld) (v : Nat) : (s.setFld f v).flip = s.flip := s.setReg_flip _ _
@[simp] theorem State.setFld_sched (s : State) (f : Fld) (v : Nat) : (s.setFld f v).sched = s.sched := s.setReg_sched _ _
@[simp] theorem State.setFld_link (s : State) (f : Fld) (v : Nat) : (s.setFld f v).link = s.link := s.setReg_link _ _
@[simp] theorem State.setFld_map (s : State) (f : Fld) (v : Nat) : (s.setFld f v).map = s.map := s.setReg_map _ _
@[simp] theorem State.setFld_repl (s : State) (f : Fld) (v : Nat) : (s.setFld f v).repl = s.repl := s.setReg_repl _ _
@[simp] theorem State.setFld_faults (s : State) (f : Fld) (v : Nat) : (s.setFld f v).faults = s.faults := s.setReg_faults _ _
@[simp] theorem State.setFld_rst (s : State) (f : Fld) (v : Nat) : (s.setFld f v).rst = s.rst := s.setReg_rst _ _
@[simp] theorem State.setFld_thm (s : State) (f : Fld) (v : Nat) : (s.setFld f v).thm = s.thm := s.setReg_thm _ _
@[simp] theorem State.setFld_fuses (s : State) (f : Fld) (v : Nat) : (s.setFld f v).fuses = s.fuses := s.setReg_fuses _ _
@[simp] theorem State.setFld_nvm (s : State) (f : Fld) (v : Nat) : (s.setFld f v).nvm = s.nvm := s.setReg_nvm _ _
@[simp] theorem State.setFld_boot (s : State) (f : Fld) (v : Nat) : (s.setFld f v).boot = s.boot := s.setReg_boot _ _
@[simp] theorem State.setFld_dram (s : State) (f : Fld) (v : Nat) : (s.setFld f v).dram = s.dram := s.setReg_dram _ _
@[simp] theorem State.setFld_chk (s : State) (f : Fld) (v : Nat) : (s.setFld f v).chk = s.chk := s.setReg_chk _ _
@[simp] theorem State.setFld_net0 (s : State) (f : Fld) (v : Nat) : (s.setFld f v).net0 = s.net0 := s.setReg_net0 _ _
@[simp] theorem State.setFld_net1 (s : State) (f : Fld) (v : Nat) : (s.setFld f v).net1 = s.net1 := s.setReg_net1 _ _
@[simp] theorem State.setFld_time (s : State) (f : Fld) (v : Nat) : (s.setFld f v).time = s.time := s.setReg_time _ _
@[simp] theorem State.setFld_video (s : State) (f : Fld) (v : Nat) : (s.setFld f v).video = s.video := s.setReg_video _ _
@[simp] theorem State.setFld_scan (s : State) (f : Fld) (v : Nat) : (s.setFld f v).scan = s.scan := s.setReg_scan _ _
@[simp] theorem State.setFld_lanes (s : State) (f : Fld) (v : Nat) : (s.setFld f v).lanes = s.lanes := s.setReg_lanes _ _
@[simp] theorem State.setFld_tile (s : State) (f : Fld) (v : Nat) : (s.setFld f v).tile = s.tile := s.setReg_tile _ _
@[simp] theorem State.setFld_lamp (s : State) (f : Fld) (v : Nat) : (s.setFld f v).lamp = s.lamp := s.setReg_lamp _ _
@[simp] theorem State.setFld_diag (s : State) (f : Fld) (v : Nat) : (s.setFld f v).diag = s.diag := s.setReg_diag _ _
@[simp] theorem State.setFld_snaps (s : State) (f : Fld) (v : Nat) : (s.setFld f v).snaps = s.snaps := s.setReg_snaps _ _
@[simp] theorem State.setFld_red (s : State) (f : Fld) (v : Nat) : (s.setFld f v).red = s.red := s.setReg_red _ _

/-! setFlag -/

@[simp] theorem State.setFlag_pending (s : State) (f : Fld) (b : Bool) : (s.setFlag f b).pending = s.pending := s.setFld_pending _ _
@[simp] theorem State.setFlag_fresh (s : State) (f : Fld) (b : Bool) : (s.setFlag f b).fresh = s.fresh := s.setFld_fresh _ _
@[simp] theorem State.setFlag_cycles (s : State) (f : Fld) (b : Bool) : (s.setFlag f b).cycles = s.cycles := s.setFld_cycles _ _
@[simp] theorem State.setFlag_wall (s : State) (f : Fld) (b : Bool) : (s.setFlag f b).wall = s.wall := s.setFld_wall _ _
@[simp] theorem State.setFlag_sent (s : State) (f : Fld) (b : Bool) : (s.setFlag f b).sent = s.sent := s.setFld_sent _ _
@[simp] theorem State.setFlag_gen (s : State) (f : Fld) (b : Bool) : (s.setFlag f b).gen = s.gen := s.setFld_gen _ _
@[simp] theorem State.setFlag_gnt (s : State) (f : Fld) (b : Bool) : (s.setFlag f b).gnt = s.gnt := s.setFld_gnt _ _
@[simp] theorem State.setFlag_txn (s : State) (f : Fld) (b : Bool) : (s.setFlag f b).txn = s.txn := s.setFld_txn _ _
@[simp] theorem State.setFlag_cmd (s : State) (f : Fld) (b : Bool) : (s.setFlag f b).cmd = s.cmd := s.setFld_cmd _ _
@[simp] theorem State.setFlag_flip (s : State) (f : Fld) (b : Bool) : (s.setFlag f b).flip = s.flip := s.setFld_flip _ _
@[simp] theorem State.setFlag_sched (s : State) (f : Fld) (b : Bool) : (s.setFlag f b).sched = s.sched := s.setFld_sched _ _
@[simp] theorem State.setFlag_link (s : State) (f : Fld) (b : Bool) : (s.setFlag f b).link = s.link := s.setFld_link _ _
@[simp] theorem State.setFlag_map (s : State) (f : Fld) (b : Bool) : (s.setFlag f b).map = s.map := s.setFld_map _ _
@[simp] theorem State.setFlag_repl (s : State) (f : Fld) (b : Bool) : (s.setFlag f b).repl = s.repl := s.setFld_repl _ _
@[simp] theorem State.setFlag_faults (s : State) (f : Fld) (b : Bool) : (s.setFlag f b).faults = s.faults := s.setFld_faults _ _
@[simp] theorem State.setFlag_rst (s : State) (f : Fld) (b : Bool) : (s.setFlag f b).rst = s.rst := s.setFld_rst _ _
@[simp] theorem State.setFlag_thm (s : State) (f : Fld) (b : Bool) : (s.setFlag f b).thm = s.thm := s.setFld_thm _ _
@[simp] theorem State.setFlag_fuses (s : State) (f : Fld) (b : Bool) : (s.setFlag f b).fuses = s.fuses := s.setFld_fuses _ _
@[simp] theorem State.setFlag_nvm (s : State) (f : Fld) (b : Bool) : (s.setFlag f b).nvm = s.nvm := s.setFld_nvm _ _
@[simp] theorem State.setFlag_boot (s : State) (f : Fld) (b : Bool) : (s.setFlag f b).boot = s.boot := s.setFld_boot _ _
@[simp] theorem State.setFlag_dram (s : State) (f : Fld) (b : Bool) : (s.setFlag f b).dram = s.dram := s.setFld_dram _ _
@[simp] theorem State.setFlag_chk (s : State) (f : Fld) (b : Bool) : (s.setFlag f b).chk = s.chk := s.setFld_chk _ _
@[simp] theorem State.setFlag_net0 (s : State) (f : Fld) (b : Bool) : (s.setFlag f b).net0 = s.net0 := s.setFld_net0 _ _
@[simp] theorem State.setFlag_net1 (s : State) (f : Fld) (b : Bool) : (s.setFlag f b).net1 = s.net1 := s.setFld_net1 _ _
@[simp] theorem State.setFlag_time (s : State) (f : Fld) (b : Bool) : (s.setFlag f b).time = s.time := s.setFld_time _ _
@[simp] theorem State.setFlag_video (s : State) (f : Fld) (b : Bool) : (s.setFlag f b).video = s.video := s.setFld_video _ _
@[simp] theorem State.setFlag_scan (s : State) (f : Fld) (b : Bool) : (s.setFlag f b).scan = s.scan := s.setFld_scan _ _
@[simp] theorem State.setFlag_lanes (s : State) (f : Fld) (b : Bool) : (s.setFlag f b).lanes = s.lanes := s.setFld_lanes _ _
@[simp] theorem State.setFlag_tile (s : State) (f : Fld) (b : Bool) : (s.setFlag f b).tile = s.tile := s.setFld_tile _ _
@[simp] theorem State.setFlag_lamp (s : State) (f : Fld) (b : Bool) : (s.setFlag f b).lamp = s.lamp := s.setFld_lamp _ _
@[simp] theorem State.setFlag_diag (s : State) (f : Fld) (b : Bool) : (s.setFlag f b).diag = s.diag := s.setFld_diag _ _
@[simp] theorem State.setFlag_snaps (s : State) (f : Fld) (b : Bool) : (s.setFlag f b).snaps = s.snaps := s.setFld_snaps _ _
@[simp] theorem State.setFlag_red (s : State) (f : Fld) (b : Bool) : (s.setFlag f b).red = s.red := s.setFld_red _ _

/-! event -/

@[simp] theorem State.event_pending (s : State) (f : Fld) : (s.event f).pending = s.pending := s.setFld_pending _ _
@[simp] theorem State.event_fresh (s : State) (f : Fld) : (s.event f).fresh = s.fresh := s.setFld_fresh _ _
@[simp] theorem State.event_cycles (s : State) (f : Fld) : (s.event f).cycles = s.cycles := s.setFld_cycles _ _
@[simp] theorem State.event_wall (s : State) (f : Fld) : (s.event f).wall = s.wall := s.setFld_wall _ _
@[simp] theorem State.event_sent (s : State) (f : Fld) : (s.event f).sent = s.sent := s.setFld_sent _ _
@[simp] theorem State.event_gen (s : State) (f : Fld) : (s.event f).gen = s.gen := s.setFld_gen _ _
@[simp] theorem State.event_gnt (s : State) (f : Fld) : (s.event f).gnt = s.gnt := s.setFld_gnt _ _
@[simp] theorem State.event_txn (s : State) (f : Fld) : (s.event f).txn = s.txn := s.setFld_txn _ _
@[simp] theorem State.event_cmd (s : State) (f : Fld) : (s.event f).cmd = s.cmd := s.setFld_cmd _ _
@[simp] theorem State.event_flip (s : State) (f : Fld) : (s.event f).flip = s.flip := s.setFld_flip _ _
@[simp] theorem State.event_sched (s : State) (f : Fld) : (s.event f).sched = s.sched := s.setFld_sched _ _
@[simp] theorem State.event_link (s : State) (f : Fld) : (s.event f).link = s.link := s.setFld_link _ _
@[simp] theorem State.event_map (s : State) (f : Fld) : (s.event f).map = s.map := s.setFld_map _ _
@[simp] theorem State.event_repl (s : State) (f : Fld) : (s.event f).repl = s.repl := s.setFld_repl _ _
@[simp] theorem State.event_faults (s : State) (f : Fld) : (s.event f).faults = s.faults := s.setFld_faults _ _
@[simp] theorem State.event_rst (s : State) (f : Fld) : (s.event f).rst = s.rst := s.setFld_rst _ _
@[simp] theorem State.event_thm (s : State) (f : Fld) : (s.event f).thm = s.thm := s.setFld_thm _ _
@[simp] theorem State.event_fuses (s : State) (f : Fld) : (s.event f).fuses = s.fuses := s.setFld_fuses _ _
@[simp] theorem State.event_nvm (s : State) (f : Fld) : (s.event f).nvm = s.nvm := s.setFld_nvm _ _
@[simp] theorem State.event_boot (s : State) (f : Fld) : (s.event f).boot = s.boot := s.setFld_boot _ _
@[simp] theorem State.event_dram (s : State) (f : Fld) : (s.event f).dram = s.dram := s.setFld_dram _ _
@[simp] theorem State.event_chk (s : State) (f : Fld) : (s.event f).chk = s.chk := s.setFld_chk _ _
@[simp] theorem State.event_net0 (s : State) (f : Fld) : (s.event f).net0 = s.net0 := s.setFld_net0 _ _
@[simp] theorem State.event_net1 (s : State) (f : Fld) : (s.event f).net1 = s.net1 := s.setFld_net1 _ _
@[simp] theorem State.event_time (s : State) (f : Fld) : (s.event f).time = s.time := s.setFld_time _ _
@[simp] theorem State.event_video (s : State) (f : Fld) : (s.event f).video = s.video := s.setFld_video _ _
@[simp] theorem State.event_scan (s : State) (f : Fld) : (s.event f).scan = s.scan := s.setFld_scan _ _
@[simp] theorem State.event_lanes (s : State) (f : Fld) : (s.event f).lanes = s.lanes := s.setFld_lanes _ _
@[simp] theorem State.event_tile (s : State) (f : Fld) : (s.event f).tile = s.tile := s.setFld_tile _ _
@[simp] theorem State.event_lamp (s : State) (f : Fld) : (s.event f).lamp = s.lamp := s.setFld_lamp _ _
@[simp] theorem State.event_diag (s : State) (f : Fld) : (s.event f).diag = s.diag := s.setFld_diag _ _
@[simp] theorem State.event_snaps (s : State) (f : Fld) : (s.event f).snaps = s.snaps := s.setFld_snaps _ _
@[simp] theorem State.event_red (s : State) (f : Fld) : (s.event f).red = s.red := s.setFld_red _ _

/-! wrapInc -/

@[simp] theorem State.wrapInc_pending (s : State) (f : Fld) : (s.wrapInc f).pending = s.pending := s.setFld_pending _ _
@[simp] theorem State.wrapInc_fresh (s : State) (f : Fld) : (s.wrapInc f).fresh = s.fresh := s.setFld_fresh _ _
@[simp] theorem State.wrapInc_cycles (s : State) (f : Fld) : (s.wrapInc f).cycles = s.cycles := s.setFld_cycles _ _
@[simp] theorem State.wrapInc_wall (s : State) (f : Fld) : (s.wrapInc f).wall = s.wall := s.setFld_wall _ _
@[simp] theorem State.wrapInc_sent (s : State) (f : Fld) : (s.wrapInc f).sent = s.sent := s.setFld_sent _ _
@[simp] theorem State.wrapInc_gen (s : State) (f : Fld) : (s.wrapInc f).gen = s.gen := s.setFld_gen _ _
@[simp] theorem State.wrapInc_gnt (s : State) (f : Fld) : (s.wrapInc f).gnt = s.gnt := s.setFld_gnt _ _
@[simp] theorem State.wrapInc_txn (s : State) (f : Fld) : (s.wrapInc f).txn = s.txn := s.setFld_txn _ _
@[simp] theorem State.wrapInc_cmd (s : State) (f : Fld) : (s.wrapInc f).cmd = s.cmd := s.setFld_cmd _ _
@[simp] theorem State.wrapInc_flip (s : State) (f : Fld) : (s.wrapInc f).flip = s.flip := s.setFld_flip _ _
@[simp] theorem State.wrapInc_sched (s : State) (f : Fld) : (s.wrapInc f).sched = s.sched := s.setFld_sched _ _
@[simp] theorem State.wrapInc_link (s : State) (f : Fld) : (s.wrapInc f).link = s.link := s.setFld_link _ _
@[simp] theorem State.wrapInc_map (s : State) (f : Fld) : (s.wrapInc f).map = s.map := s.setFld_map _ _
@[simp] theorem State.wrapInc_repl (s : State) (f : Fld) : (s.wrapInc f).repl = s.repl := s.setFld_repl _ _
@[simp] theorem State.wrapInc_faults (s : State) (f : Fld) : (s.wrapInc f).faults = s.faults := s.setFld_faults _ _
@[simp] theorem State.wrapInc_rst (s : State) (f : Fld) : (s.wrapInc f).rst = s.rst := s.setFld_rst _ _
@[simp] theorem State.wrapInc_thm (s : State) (f : Fld) : (s.wrapInc f).thm = s.thm := s.setFld_thm _ _
@[simp] theorem State.wrapInc_fuses (s : State) (f : Fld) : (s.wrapInc f).fuses = s.fuses := s.setFld_fuses _ _
@[simp] theorem State.wrapInc_nvm (s : State) (f : Fld) : (s.wrapInc f).nvm = s.nvm := s.setFld_nvm _ _
@[simp] theorem State.wrapInc_boot (s : State) (f : Fld) : (s.wrapInc f).boot = s.boot := s.setFld_boot _ _
@[simp] theorem State.wrapInc_dram (s : State) (f : Fld) : (s.wrapInc f).dram = s.dram := s.setFld_dram _ _
@[simp] theorem State.wrapInc_chk (s : State) (f : Fld) : (s.wrapInc f).chk = s.chk := s.setFld_chk _ _
@[simp] theorem State.wrapInc_net0 (s : State) (f : Fld) : (s.wrapInc f).net0 = s.net0 := s.setFld_net0 _ _
@[simp] theorem State.wrapInc_net1 (s : State) (f : Fld) : (s.wrapInc f).net1 = s.net1 := s.setFld_net1 _ _
@[simp] theorem State.wrapInc_time (s : State) (f : Fld) : (s.wrapInc f).time = s.time := s.setFld_time _ _
@[simp] theorem State.wrapInc_video (s : State) (f : Fld) : (s.wrapInc f).video = s.video := s.setFld_video _ _
@[simp] theorem State.wrapInc_scan (s : State) (f : Fld) : (s.wrapInc f).scan = s.scan := s.setFld_scan _ _
@[simp] theorem State.wrapInc_lanes (s : State) (f : Fld) : (s.wrapInc f).lanes = s.lanes := s.setFld_lanes _ _
@[simp] theorem State.wrapInc_tile (s : State) (f : Fld) : (s.wrapInc f).tile = s.tile := s.setFld_tile _ _
@[simp] theorem State.wrapInc_lamp (s : State) (f : Fld) : (s.wrapInc f).lamp = s.lamp := s.setFld_lamp _ _
@[simp] theorem State.wrapInc_diag (s : State) (f : Fld) : (s.wrapInc f).diag = s.diag := s.setFld_diag _ _
@[simp] theorem State.wrapInc_snaps (s : State) (f : Fld) : (s.wrapInc f).snaps = s.snaps := s.setFld_snaps _ _
@[simp] theorem State.wrapInc_red (s : State) (f : Fld) : (s.wrapInc f).red = s.red := s.setFld_red _ _

/-! bumpBy -/

@[simp] theorem State.bumpBy_pending (s : State) (f : Fld) (n : Nat) : (s.bumpBy f n).pending = s.pending := s.setFld_pending _ _
@[simp] theorem State.bumpBy_fresh (s : State) (f : Fld) (n : Nat) : (s.bumpBy f n).fresh = s.fresh := s.setFld_fresh _ _
@[simp] theorem State.bumpBy_cycles (s : State) (f : Fld) (n : Nat) : (s.bumpBy f n).cycles = s.cycles := s.setFld_cycles _ _
@[simp] theorem State.bumpBy_wall (s : State) (f : Fld) (n : Nat) : (s.bumpBy f n).wall = s.wall := s.setFld_wall _ _
@[simp] theorem State.bumpBy_sent (s : State) (f : Fld) (n : Nat) : (s.bumpBy f n).sent = s.sent := s.setFld_sent _ _
@[simp] theorem State.bumpBy_gen (s : State) (f : Fld) (n : Nat) : (s.bumpBy f n).gen = s.gen := s.setFld_gen _ _
@[simp] theorem State.bumpBy_gnt (s : State) (f : Fld) (n : Nat) : (s.bumpBy f n).gnt = s.gnt := s.setFld_gnt _ _
@[simp] theorem State.bumpBy_txn (s : State) (f : Fld) (n : Nat) : (s.bumpBy f n).txn = s.txn := s.setFld_txn _ _
@[simp] theorem State.bumpBy_cmd (s : State) (f : Fld) (n : Nat) : (s.bumpBy f n).cmd = s.cmd := s.setFld_cmd _ _
@[simp] theorem State.bumpBy_flip (s : State) (f : Fld) (n : Nat) : (s.bumpBy f n).flip = s.flip := s.setFld_flip _ _
@[simp] theorem State.bumpBy_sched (s : State) (f : Fld) (n : Nat) : (s.bumpBy f n).sched = s.sched := s.setFld_sched _ _
@[simp] theorem State.bumpBy_link (s : State) (f : Fld) (n : Nat) : (s.bumpBy f n).link = s.link := s.setFld_link _ _
@[simp] theorem State.bumpBy_map (s : State) (f : Fld) (n : Nat) : (s.bumpBy f n).map = s.map := s.setFld_map _ _
@[simp] theorem State.bumpBy_repl (s : State) (f : Fld) (n : Nat) : (s.bumpBy f n).repl = s.repl := s.setFld_repl _ _
@[simp] theorem State.bumpBy_faults (s : State) (f : Fld) (n : Nat) : (s.bumpBy f n).faults = s.faults := s.setFld_faults _ _
@[simp] theorem State.bumpBy_rst (s : State) (f : Fld) (n : Nat) : (s.bumpBy f n).rst = s.rst := s.setFld_rst _ _
@[simp] theorem State.bumpBy_thm (s : State) (f : Fld) (n : Nat) : (s.bumpBy f n).thm = s.thm := s.setFld_thm _ _
@[simp] theorem State.bumpBy_fuses (s : State) (f : Fld) (n : Nat) : (s.bumpBy f n).fuses = s.fuses := s.setFld_fuses _ _
@[simp] theorem State.bumpBy_nvm (s : State) (f : Fld) (n : Nat) : (s.bumpBy f n).nvm = s.nvm := s.setFld_nvm _ _
@[simp] theorem State.bumpBy_boot (s : State) (f : Fld) (n : Nat) : (s.bumpBy f n).boot = s.boot := s.setFld_boot _ _
@[simp] theorem State.bumpBy_dram (s : State) (f : Fld) (n : Nat) : (s.bumpBy f n).dram = s.dram := s.setFld_dram _ _
@[simp] theorem State.bumpBy_chk (s : State) (f : Fld) (n : Nat) : (s.bumpBy f n).chk = s.chk := s.setFld_chk _ _
@[simp] theorem State.bumpBy_net0 (s : State) (f : Fld) (n : Nat) : (s.bumpBy f n).net0 = s.net0 := s.setFld_net0 _ _
@[simp] theorem State.bumpBy_net1 (s : State) (f : Fld) (n : Nat) : (s.bumpBy f n).net1 = s.net1 := s.setFld_net1 _ _
@[simp] theorem State.bumpBy_time (s : State) (f : Fld) (n : Nat) : (s.bumpBy f n).time = s.time := s.setFld_time _ _
@[simp] theorem State.bumpBy_video (s : State) (f : Fld) (n : Nat) : (s.bumpBy f n).video = s.video := s.setFld_video _ _
@[simp] theorem State.bumpBy_scan (s : State) (f : Fld) (n : Nat) : (s.bumpBy f n).scan = s.scan := s.setFld_scan _ _
@[simp] theorem State.bumpBy_lanes (s : State) (f : Fld) (n : Nat) : (s.bumpBy f n).lanes = s.lanes := s.setFld_lanes _ _
@[simp] theorem State.bumpBy_tile (s : State) (f : Fld) (n : Nat) : (s.bumpBy f n).tile = s.tile := s.setFld_tile _ _
@[simp] theorem State.bumpBy_lamp (s : State) (f : Fld) (n : Nat) : (s.bumpBy f n).lamp = s.lamp := s.setFld_lamp _ _
@[simp] theorem State.bumpBy_diag (s : State) (f : Fld) (n : Nat) : (s.bumpBy f n).diag = s.diag := s.setFld_diag _ _
@[simp] theorem State.bumpBy_snaps (s : State) (f : Fld) (n : Nat) : (s.bumpBy f n).snaps = s.snaps := s.setFld_snaps _ _
@[simp] theorem State.bumpBy_red (s : State) (f : Fld) (n : Nat) : (s.bumpBy f n).red = s.red := s.setFld_red _ _

/-! bump -/

@[simp] theorem State.bump_pending (s : State) (f : Fld) : (s.bump f).pending = s.pending := by unfold State.bump; split <;> [exact s.setFld_pending _ _; rfl]
@[simp] theorem State.bump_fresh (s : State) (f : Fld) : (s.bump f).fresh = s.fresh := by unfold State.bump; split <;> [exact s.setFld_fresh _ _; rfl]
@[simp] theorem State.bump_cycles (s : State) (f : Fld) : (s.bump f).cycles = s.cycles := by unfold State.bump; split <;> [exact s.setFld_cycles _ _; rfl]
@[simp] theorem State.bump_wall (s : State) (f : Fld) : (s.bump f).wall = s.wall := by unfold State.bump; split <;> [exact s.setFld_wall _ _; rfl]
@[simp] theorem State.bump_sent (s : State) (f : Fld) : (s.bump f).sent = s.sent := by unfold State.bump; split <;> [exact s.setFld_sent _ _; rfl]
@[simp] theorem State.bump_gen (s : State) (f : Fld) : (s.bump f).gen = s.gen := by unfold State.bump; split <;> [exact s.setFld_gen _ _; rfl]
@[simp] theorem State.bump_gnt (s : State) (f : Fld) : (s.bump f).gnt = s.gnt := by unfold State.bump; split <;> [exact s.setFld_gnt _ _; rfl]
@[simp] theorem State.bump_txn (s : State) (f : Fld) : (s.bump f).txn = s.txn := by unfold State.bump; split <;> [exact s.setFld_txn _ _; rfl]
@[simp] theorem State.bump_cmd (s : State) (f : Fld) : (s.bump f).cmd = s.cmd := by unfold State.bump; split <;> [exact s.setFld_cmd _ _; rfl]
@[simp] theorem State.bump_flip (s : State) (f : Fld) : (s.bump f).flip = s.flip := by unfold State.bump; split <;> [exact s.setFld_flip _ _; rfl]
@[simp] theorem State.bump_sched (s : State) (f : Fld) : (s.bump f).sched = s.sched := by unfold State.bump; split <;> [exact s.setFld_sched _ _; rfl]
@[simp] theorem State.bump_link (s : State) (f : Fld) : (s.bump f).link = s.link := by unfold State.bump; split <;> [exact s.setFld_link _ _; rfl]
@[simp] theorem State.bump_map (s : State) (f : Fld) : (s.bump f).map = s.map := by unfold State.bump; split <;> [exact s.setFld_map _ _; rfl]
@[simp] theorem State.bump_repl (s : State) (f : Fld) : (s.bump f).repl = s.repl := by unfold State.bump; split <;> [exact s.setFld_repl _ _; rfl]
@[simp] theorem State.bump_faults (s : State) (f : Fld) : (s.bump f).faults = s.faults := by unfold State.bump; split <;> [exact s.setFld_faults _ _; rfl]
@[simp] theorem State.bump_rst (s : State) (f : Fld) : (s.bump f).rst = s.rst := by unfold State.bump; split <;> [exact s.setFld_rst _ _; rfl]
@[simp] theorem State.bump_thm (s : State) (f : Fld) : (s.bump f).thm = s.thm := by unfold State.bump; split <;> [exact s.setFld_thm _ _; rfl]
@[simp] theorem State.bump_fuses (s : State) (f : Fld) : (s.bump f).fuses = s.fuses := by unfold State.bump; split <;> [exact s.setFld_fuses _ _; rfl]
@[simp] theorem State.bump_nvm (s : State) (f : Fld) : (s.bump f).nvm = s.nvm := by unfold State.bump; split <;> [exact s.setFld_nvm _ _; rfl]
@[simp] theorem State.bump_boot (s : State) (f : Fld) : (s.bump f).boot = s.boot := by unfold State.bump; split <;> [exact s.setFld_boot _ _; rfl]
@[simp] theorem State.bump_dram (s : State) (f : Fld) : (s.bump f).dram = s.dram := by unfold State.bump; split <;> [exact s.setFld_dram _ _; rfl]
@[simp] theorem State.bump_chk (s : State) (f : Fld) : (s.bump f).chk = s.chk := by unfold State.bump; split <;> [exact s.setFld_chk _ _; rfl]
@[simp] theorem State.bump_net0 (s : State) (f : Fld) : (s.bump f).net0 = s.net0 := by unfold State.bump; split <;> [exact s.setFld_net0 _ _; rfl]
@[simp] theorem State.bump_net1 (s : State) (f : Fld) : (s.bump f).net1 = s.net1 := by unfold State.bump; split <;> [exact s.setFld_net1 _ _; rfl]
@[simp] theorem State.bump_time (s : State) (f : Fld) : (s.bump f).time = s.time := by unfold State.bump; split <;> [exact s.setFld_time _ _; rfl]
@[simp] theorem State.bump_video (s : State) (f : Fld) : (s.bump f).video = s.video := by unfold State.bump; split <;> [exact s.setFld_video _ _; rfl]
@[simp] theorem State.bump_scan (s : State) (f : Fld) : (s.bump f).scan = s.scan := by unfold State.bump; split <;> [exact s.setFld_scan _ _; rfl]
@[simp] theorem State.bump_lanes (s : State) (f : Fld) : (s.bump f).lanes = s.lanes := by unfold State.bump; split <;> [exact s.setFld_lanes _ _; rfl]
@[simp] theorem State.bump_tile (s : State) (f : Fld) : (s.bump f).tile = s.tile := by unfold State.bump; split <;> [exact s.setFld_tile _ _; rfl]
@[simp] theorem State.bump_lamp (s : State) (f : Fld) : (s.bump f).lamp = s.lamp := by unfold State.bump; split <;> [exact s.setFld_lamp _ _; rfl]
@[simp] theorem State.bump_diag (s : State) (f : Fld) : (s.bump f).diag = s.diag := by unfold State.bump; split <;> [exact s.setFld_diag _ _; rfl]
@[simp] theorem State.bump_snaps (s : State) (f : Fld) : (s.bump f).snaps = s.snaps := by unfold State.bump; split <;> [exact s.setFld_snaps _ _; rfl]
@[simp] theorem State.bump_red (s : State) (f : Fld) : (s.bump f).red = s.red := by unfold State.bump; split <;> [exact s.setFld_red _ _; rfl]

/-! eventCount -/

@[simp] theorem State.eventCount_pending (s : State) (e c : Fld) : (s.eventCount e c).pending = s.pending := ((s.event e).bump_pending c).trans (s.event_pending e)
@[simp] theorem State.eventCount_fresh (s : State) (e c : Fld) : (s.eventCount e c).fresh = s.fresh := ((s.event e).bump_fresh c).trans (s.event_fresh e)
@[simp] theorem State.eventCount_cycles (s : State) (e c : Fld) : (s.eventCount e c).cycles = s.cycles := ((s.event e).bump_cycles c).trans (s.event_cycles e)
@[simp] theorem State.eventCount_wall (s : State) (e c : Fld) : (s.eventCount e c).wall = s.wall := ((s.event e).bump_wall c).trans (s.event_wall e)
@[simp] theorem State.eventCount_sent (s : State) (e c : Fld) : (s.eventCount e c).sent = s.sent := ((s.event e).bump_sent c).trans (s.event_sent e)
@[simp] theorem State.eventCount_gen (s : State) (e c : Fld) : (s.eventCount e c).gen = s.gen := ((s.event e).bump_gen c).trans (s.event_gen e)
@[simp] theorem State.eventCount_gnt (s : State) (e c : Fld) : (s.eventCount e c).gnt = s.gnt := ((s.event e).bump_gnt c).trans (s.event_gnt e)
@[simp] theorem State.eventCount_txn (s : State) (e c : Fld) : (s.eventCount e c).txn = s.txn := ((s.event e).bump_txn c).trans (s.event_txn e)
@[simp] theorem State.eventCount_cmd (s : State) (e c : Fld) : (s.eventCount e c).cmd = s.cmd := ((s.event e).bump_cmd c).trans (s.event_cmd e)
@[simp] theorem State.eventCount_flip (s : State) (e c : Fld) : (s.eventCount e c).flip = s.flip := ((s.event e).bump_flip c).trans (s.event_flip e)
@[simp] theorem State.eventCount_sched (s : State) (e c : Fld) : (s.eventCount e c).sched = s.sched := ((s.event e).bump_sched c).trans (s.event_sched e)
@[simp] theorem State.eventCount_link (s : State) (e c : Fld) : (s.eventCount e c).link = s.link := ((s.event e).bump_link c).trans (s.event_link e)
@[simp] theorem State.eventCount_map (s : State) (e c : Fld) : (s.eventCount e c).map = s.map := ((s.event e).bump_map c).trans (s.event_map e)
@[simp] theorem State.eventCount_repl (s : State) (e c : Fld) : (s.eventCount e c).repl = s.repl := ((s.event e).bump_repl c).trans (s.event_repl e)
@[simp] theorem State.eventCount_faults (s : State) (e c : Fld) : (s.eventCount e c).faults = s.faults := ((s.event e).bump_faults c).trans (s.event_faults e)
@[simp] theorem State.eventCount_rst (s : State) (e c : Fld) : (s.eventCount e c).rst = s.rst := ((s.event e).bump_rst c).trans (s.event_rst e)
@[simp] theorem State.eventCount_thm (s : State) (e c : Fld) : (s.eventCount e c).thm = s.thm := ((s.event e).bump_thm c).trans (s.event_thm e)
@[simp] theorem State.eventCount_fuses (s : State) (e c : Fld) : (s.eventCount e c).fuses = s.fuses := ((s.event e).bump_fuses c).trans (s.event_fuses e)
@[simp] theorem State.eventCount_nvm (s : State) (e c : Fld) : (s.eventCount e c).nvm = s.nvm := ((s.event e).bump_nvm c).trans (s.event_nvm e)
@[simp] theorem State.eventCount_boot (s : State) (e c : Fld) : (s.eventCount e c).boot = s.boot := ((s.event e).bump_boot c).trans (s.event_boot e)
@[simp] theorem State.eventCount_dram (s : State) (e c : Fld) : (s.eventCount e c).dram = s.dram := ((s.event e).bump_dram c).trans (s.event_dram e)
@[simp] theorem State.eventCount_chk (s : State) (e c : Fld) : (s.eventCount e c).chk = s.chk := ((s.event e).bump_chk c).trans (s.event_chk e)
@[simp] theorem State.eventCount_net0 (s : State) (e c : Fld) : (s.eventCount e c).net0 = s.net0 := ((s.event e).bump_net0 c).trans (s.event_net0 e)
@[simp] theorem State.eventCount_net1 (s : State) (e c : Fld) : (s.eventCount e c).net1 = s.net1 := ((s.event e).bump_net1 c).trans (s.event_net1 e)
@[simp] theorem State.eventCount_time (s : State) (e c : Fld) : (s.eventCount e c).time = s.time := ((s.event e).bump_time c).trans (s.event_time e)
@[simp] theorem State.eventCount_video (s : State) (e c : Fld) : (s.eventCount e c).video = s.video := ((s.event e).bump_video c).trans (s.event_video e)
@[simp] theorem State.eventCount_scan (s : State) (e c : Fld) : (s.eventCount e c).scan = s.scan := ((s.event e).bump_scan c).trans (s.event_scan e)
@[simp] theorem State.eventCount_lanes (s : State) (e c : Fld) : (s.eventCount e c).lanes = s.lanes := ((s.event e).bump_lanes c).trans (s.event_lanes e)
@[simp] theorem State.eventCount_tile (s : State) (e c : Fld) : (s.eventCount e c).tile = s.tile := ((s.event e).bump_tile c).trans (s.event_tile e)
@[simp] theorem State.eventCount_lamp (s : State) (e c : Fld) : (s.eventCount e c).lamp = s.lamp := ((s.event e).bump_lamp c).trans (s.event_lamp e)
@[simp] theorem State.eventCount_diag (s : State) (e c : Fld) : (s.eventCount e c).diag = s.diag := ((s.event e).bump_diag c).trans (s.event_diag e)
@[simp] theorem State.eventCount_snaps (s : State) (e c : Fld) : (s.eventCount e c).snaps = s.snaps := ((s.event e).bump_snaps c).trans (s.event_snaps e)
@[simp] theorem State.eventCount_red (s : State) (e c : Fld) : (s.eventCount e c).red = s.red := ((s.event e).bump_red c).trans (s.event_red e)

/-! setBit -/

@[simp] theorem State.setBit_pending (s : State) (f : Fld) (i : Nat) (b : Bool) : (s.setBit f i b).pending = s.pending := s.setFld_pending _ _
@[simp] theorem State.setBit_fresh (s : State) (f : Fld) (i : Nat) (b : Bool) : (s.setBit f i b).fresh = s.fresh := s.setFld_fresh _ _
@[simp] theorem State.setBit_cycles (s : State) (f : Fld) (i : Nat) (b : Bool) : (s.setBit f i b).cycles = s.cycles := s.setFld_cycles _ _
@[simp] theorem State.setBit_wall (s : State) (f : Fld) (i : Nat) (b : Bool) : (s.setBit f i b).wall = s.wall := s.setFld_wall _ _
@[simp] theorem State.setBit_sent (s : State) (f : Fld) (i : Nat) (b : Bool) : (s.setBit f i b).sent = s.sent := s.setFld_sent _ _
@[simp] theorem State.setBit_gen (s : State) (f : Fld) (i : Nat) (b : Bool) : (s.setBit f i b).gen = s.gen := s.setFld_gen _ _
@[simp] theorem State.setBit_gnt (s : State) (f : Fld) (i : Nat) (b : Bool) : (s.setBit f i b).gnt = s.gnt := s.setFld_gnt _ _
@[simp] theorem State.setBit_txn (s : State) (f : Fld) (i : Nat) (b : Bool) : (s.setBit f i b).txn = s.txn := s.setFld_txn _ _
@[simp] theorem State.setBit_cmd (s : State) (f : Fld) (i : Nat) (b : Bool) : (s.setBit f i b).cmd = s.cmd := s.setFld_cmd _ _
@[simp] theorem State.setBit_flip (s : State) (f : Fld) (i : Nat) (b : Bool) : (s.setBit f i b).flip = s.flip := s.setFld_flip _ _
@[simp] theorem State.setBit_sched (s : State) (f : Fld) (i : Nat) (b : Bool) : (s.setBit f i b).sched = s.sched := s.setFld_sched _ _
@[simp] theorem State.setBit_link (s : State) (f : Fld) (i : Nat) (b : Bool) : (s.setBit f i b).link = s.link := s.setFld_link _ _
@[simp] theorem State.setBit_map (s : State) (f : Fld) (i : Nat) (b : Bool) : (s.setBit f i b).map = s.map := s.setFld_map _ _
@[simp] theorem State.setBit_repl (s : State) (f : Fld) (i : Nat) (b : Bool) : (s.setBit f i b).repl = s.repl := s.setFld_repl _ _
@[simp] theorem State.setBit_faults (s : State) (f : Fld) (i : Nat) (b : Bool) : (s.setBit f i b).faults = s.faults := s.setFld_faults _ _
@[simp] theorem State.setBit_rst (s : State) (f : Fld) (i : Nat) (b : Bool) : (s.setBit f i b).rst = s.rst := s.setFld_rst _ _
@[simp] theorem State.setBit_thm (s : State) (f : Fld) (i : Nat) (b : Bool) : (s.setBit f i b).thm = s.thm := s.setFld_thm _ _
@[simp] theorem State.setBit_fuses (s : State) (f : Fld) (i : Nat) (b : Bool) : (s.setBit f i b).fuses = s.fuses := s.setFld_fuses _ _
@[simp] theorem State.setBit_nvm (s : State) (f : Fld) (i : Nat) (b : Bool) : (s.setBit f i b).nvm = s.nvm := s.setFld_nvm _ _
@[simp] theorem State.setBit_boot (s : State) (f : Fld) (i : Nat) (b : Bool) : (s.setBit f i b).boot = s.boot := s.setFld_boot _ _
@[simp] theorem State.setBit_dram (s : State) (f : Fld) (i : Nat) (b : Bool) : (s.setBit f i b).dram = s.dram := s.setFld_dram _ _
@[simp] theorem State.setBit_chk (s : State) (f : Fld) (i : Nat) (b : Bool) : (s.setBit f i b).chk = s.chk := s.setFld_chk _ _
@[simp] theorem State.setBit_net0 (s : State) (f : Fld) (i : Nat) (b : Bool) : (s.setBit f i b).net0 = s.net0 := s.setFld_net0 _ _
@[simp] theorem State.setBit_net1 (s : State) (f : Fld) (i : Nat) (b : Bool) : (s.setBit f i b).net1 = s.net1 := s.setFld_net1 _ _
@[simp] theorem State.setBit_time (s : State) (f : Fld) (i : Nat) (b : Bool) : (s.setBit f i b).time = s.time := s.setFld_time _ _
@[simp] theorem State.setBit_video (s : State) (f : Fld) (i : Nat) (b : Bool) : (s.setBit f i b).video = s.video := s.setFld_video _ _
@[simp] theorem State.setBit_scan (s : State) (f : Fld) (i : Nat) (b : Bool) : (s.setBit f i b).scan = s.scan := s.setFld_scan _ _
@[simp] theorem State.setBit_lanes (s : State) (f : Fld) (i : Nat) (b : Bool) : (s.setBit f i b).lanes = s.lanes := s.setFld_lanes _ _
@[simp] theorem State.setBit_tile (s : State) (f : Fld) (i : Nat) (b : Bool) : (s.setBit f i b).tile = s.tile := s.setFld_tile _ _
@[simp] theorem State.setBit_lamp (s : State) (f : Fld) (i : Nat) (b : Bool) : (s.setBit f i b).lamp = s.lamp := s.setFld_lamp _ _
@[simp] theorem State.setBit_diag (s : State) (f : Fld) (i : Nat) (b : Bool) : (s.setBit f i b).diag = s.diag := s.setFld_diag _ _
@[simp] theorem State.setBit_snaps (s : State) (f : Fld) (i : Nat) (b : Bool) : (s.setBit f i b).snaps = s.snaps := s.setFld_snaps _ _
@[simp] theorem State.setBit_red (s : State) (f : Fld) (i : Nat) (b : Bool) : (s.setBit f i b).red = s.red := s.setFld_red _ _

/-! clearRegs -/

@[simp] theorem State.clearRegs_pending (s : State) (lo hi : Nat) : (s.clearRegs lo hi).pending = s.pending := rfl
@[simp] theorem State.clearRegs_fresh (s : State) (lo hi : Nat) : (s.clearRegs lo hi).fresh = s.fresh := rfl
@[simp] theorem State.clearRegs_cycles (s : State) (lo hi : Nat) : (s.clearRegs lo hi).cycles = s.cycles := rfl
@[simp] theorem State.clearRegs_wall (s : State) (lo hi : Nat) : (s.clearRegs lo hi).wall = s.wall := rfl
@[simp] theorem State.clearRegs_sent (s : State) (lo hi : Nat) : (s.clearRegs lo hi).sent = s.sent := rfl
@[simp] theorem State.clearRegs_gen (s : State) (lo hi : Nat) : (s.clearRegs lo hi).gen = s.gen := rfl
@[simp] theorem State.clearRegs_gnt (s : State) (lo hi : Nat) : (s.clearRegs lo hi).gnt = s.gnt := rfl
@[simp] theorem State.clearRegs_txn (s : State) (lo hi : Nat) : (s.clearRegs lo hi).txn = s.txn := rfl
@[simp] theorem State.clearRegs_cmd (s : State) (lo hi : Nat) : (s.clearRegs lo hi).cmd = s.cmd := rfl
@[simp] theorem State.clearRegs_flip (s : State) (lo hi : Nat) : (s.clearRegs lo hi).flip = s.flip := rfl
@[simp] theorem State.clearRegs_sched (s : State) (lo hi : Nat) : (s.clearRegs lo hi).sched = s.sched := rfl
@[simp] theorem State.clearRegs_link (s : State) (lo hi : Nat) : (s.clearRegs lo hi).link = s.link := rfl
@[simp] theorem State.clearRegs_map (s : State) (lo hi : Nat) : (s.clearRegs lo hi).map = s.map := rfl
@[simp] theorem State.clearRegs_repl (s : State) (lo hi : Nat) : (s.clearRegs lo hi).repl = s.repl := rfl
@[simp] theorem State.clearRegs_faults (s : State) (lo hi : Nat) : (s.clearRegs lo hi).faults = s.faults := rfl
@[simp] theorem State.clearRegs_rst (s : State) (lo hi : Nat) : (s.clearRegs lo hi).rst = s.rst := rfl
@[simp] theorem State.clearRegs_thm (s : State) (lo hi : Nat) : (s.clearRegs lo hi).thm = s.thm := rfl
@[simp] theorem State.clearRegs_fuses (s : State) (lo hi : Nat) : (s.clearRegs lo hi).fuses = s.fuses := rfl
@[simp] theorem State.clearRegs_nvm (s : State) (lo hi : Nat) : (s.clearRegs lo hi).nvm = s.nvm := rfl
@[simp] theorem State.clearRegs_boot (s : State) (lo hi : Nat) : (s.clearRegs lo hi).boot = s.boot := rfl
@[simp] theorem State.clearRegs_dram (s : State) (lo hi : Nat) : (s.clearRegs lo hi).dram = s.dram := rfl
@[simp] theorem State.clearRegs_chk (s : State) (lo hi : Nat) : (s.clearRegs lo hi).chk = s.chk := rfl
@[simp] theorem State.clearRegs_net0 (s : State) (lo hi : Nat) : (s.clearRegs lo hi).net0 = s.net0 := rfl
@[simp] theorem State.clearRegs_net1 (s : State) (lo hi : Nat) : (s.clearRegs lo hi).net1 = s.net1 := rfl
@[simp] theorem State.clearRegs_time (s : State) (lo hi : Nat) : (s.clearRegs lo hi).time = s.time := rfl
@[simp] theorem State.clearRegs_video (s : State) (lo hi : Nat) : (s.clearRegs lo hi).video = s.video := rfl
@[simp] theorem State.clearRegs_scan (s : State) (lo hi : Nat) : (s.clearRegs lo hi).scan = s.scan := rfl
@[simp] theorem State.clearRegs_lanes (s : State) (lo hi : Nat) : (s.clearRegs lo hi).lanes = s.lanes := rfl
@[simp] theorem State.clearRegs_tile (s : State) (lo hi : Nat) : (s.clearRegs lo hi).tile = s.tile := rfl
@[simp] theorem State.clearRegs_lamp (s : State) (lo hi : Nat) : (s.clearRegs lo hi).lamp = s.lamp := rfl
@[simp] theorem State.clearRegs_diag (s : State) (lo hi : Nat) : (s.clearRegs lo hi).diag = s.diag := rfl
@[simp] theorem State.clearRegs_snaps (s : State) (lo hi : Nat) : (s.clearRegs lo hi).snaps = s.snaps := rfl
@[simp] theorem State.clearRegs_red (s : State) (lo hi : Nat) : (s.clearRegs lo hi).red = s.red := rfl

/-! setMode -/

@[simp] theorem State.setMode_pending (s : State) (m : Mode) : (s.setMode m).pending = s.pending := (State.wrapInc_pending _ _).trans ((State.setFld_pending _ _ _).trans (s.setFld_pending _ _))
@[simp] theorem State.setMode_fresh (s : State) (m : Mode) : (s.setMode m).fresh = s.fresh := (State.wrapInc_fresh _ _).trans ((State.setFld_fresh _ _ _).trans (s.setFld_fresh _ _))
@[simp] theorem State.setMode_cycles (s : State) (m : Mode) : (s.setMode m).cycles = s.cycles := (State.wrapInc_cycles _ _).trans ((State.setFld_cycles _ _ _).trans (s.setFld_cycles _ _))
@[simp] theorem State.setMode_wall (s : State) (m : Mode) : (s.setMode m).wall = s.wall := (State.wrapInc_wall _ _).trans ((State.setFld_wall _ _ _).trans (s.setFld_wall _ _))
@[simp] theorem State.setMode_sent (s : State) (m : Mode) : (s.setMode m).sent = s.sent := (State.wrapInc_sent _ _).trans ((State.setFld_sent _ _ _).trans (s.setFld_sent _ _))
@[simp] theorem State.setMode_gen (s : State) (m : Mode) : (s.setMode m).gen = s.gen := (State.wrapInc_gen _ _).trans ((State.setFld_gen _ _ _).trans (s.setFld_gen _ _))
@[simp] theorem State.setMode_gnt (s : State) (m : Mode) : (s.setMode m).gnt = s.gnt := (State.wrapInc_gnt _ _).trans ((State.setFld_gnt _ _ _).trans (s.setFld_gnt _ _))
@[simp] theorem State.setMode_txn (s : State) (m : Mode) : (s.setMode m).txn = s.txn := (State.wrapInc_txn _ _).trans ((State.setFld_txn _ _ _).trans (s.setFld_txn _ _))
@[simp] theorem State.setMode_cmd (s : State) (m : Mode) : (s.setMode m).cmd = s.cmd := (State.wrapInc_cmd _ _).trans ((State.setFld_cmd _ _ _).trans (s.setFld_cmd _ _))
@[simp] theorem State.setMode_flip (s : State) (m : Mode) : (s.setMode m).flip = s.flip := (State.wrapInc_flip _ _).trans ((State.setFld_flip _ _ _).trans (s.setFld_flip _ _))
@[simp] theorem State.setMode_sched (s : State) (m : Mode) : (s.setMode m).sched = s.sched := (State.wrapInc_sched _ _).trans ((State.setFld_sched _ _ _).trans (s.setFld_sched _ _))
@[simp] theorem State.setMode_link (s : State) (m : Mode) : (s.setMode m).link = s.link := (State.wrapInc_link _ _).trans ((State.setFld_link _ _ _).trans (s.setFld_link _ _))
@[simp] theorem State.setMode_map (s : State) (m : Mode) : (s.setMode m).map = s.map := (State.wrapInc_map _ _).trans ((State.setFld_map _ _ _).trans (s.setFld_map _ _))
@[simp] theorem State.setMode_repl (s : State) (m : Mode) : (s.setMode m).repl = s.repl := (State.wrapInc_repl _ _).trans ((State.setFld_repl _ _ _).trans (s.setFld_repl _ _))
@[simp] theorem State.setMode_faults (s : State) (m : Mode) : (s.setMode m).faults = s.faults := (State.wrapInc_faults _ _).trans ((State.setFld_faults _ _ _).trans (s.setFld_faults _ _))
@[simp] theorem State.setMode_rst (s : State) (m : Mode) : (s.setMode m).rst = s.rst := (State.wrapInc_rst _ _).trans ((State.setFld_rst _ _ _).trans (s.setFld_rst _ _))
@[simp] theorem State.setMode_thm (s : State) (m : Mode) : (s.setMode m).thm = s.thm := (State.wrapInc_thm _ _).trans ((State.setFld_thm _ _ _).trans (s.setFld_thm _ _))
@[simp] theorem State.setMode_fuses (s : State) (m : Mode) : (s.setMode m).fuses = s.fuses := (State.wrapInc_fuses _ _).trans ((State.setFld_fuses _ _ _).trans (s.setFld_fuses _ _))
@[simp] theorem State.setMode_nvm (s : State) (m : Mode) : (s.setMode m).nvm = s.nvm := (State.wrapInc_nvm _ _).trans ((State.setFld_nvm _ _ _).trans (s.setFld_nvm _ _))
@[simp] theorem State.setMode_boot (s : State) (m : Mode) : (s.setMode m).boot = s.boot := (State.wrapInc_boot _ _).trans ((State.setFld_boot _ _ _).trans (s.setFld_boot _ _))
@[simp] theorem State.setMode_dram (s : State) (m : Mode) : (s.setMode m).dram = s.dram := (State.wrapInc_dram _ _).trans ((State.setFld_dram _ _ _).trans (s.setFld_dram _ _))
@[simp] theorem State.setMode_chk (s : State) (m : Mode) : (s.setMode m).chk = s.chk := (State.wrapInc_chk _ _).trans ((State.setFld_chk _ _ _).trans (s.setFld_chk _ _))
@[simp] theorem State.setMode_net0 (s : State) (m : Mode) : (s.setMode m).net0 = s.net0 := (State.wrapInc_net0 _ _).trans ((State.setFld_net0 _ _ _).trans (s.setFld_net0 _ _))
@[simp] theorem State.setMode_net1 (s : State) (m : Mode) : (s.setMode m).net1 = s.net1 := (State.wrapInc_net1 _ _).trans ((State.setFld_net1 _ _ _).trans (s.setFld_net1 _ _))
@[simp] theorem State.setMode_time (s : State) (m : Mode) : (s.setMode m).time = s.time := (State.wrapInc_time _ _).trans ((State.setFld_time _ _ _).trans (s.setFld_time _ _))
@[simp] theorem State.setMode_video (s : State) (m : Mode) : (s.setMode m).video = s.video := (State.wrapInc_video _ _).trans ((State.setFld_video _ _ _).trans (s.setFld_video _ _))
@[simp] theorem State.setMode_scan (s : State) (m : Mode) : (s.setMode m).scan = s.scan := (State.wrapInc_scan _ _).trans ((State.setFld_scan _ _ _).trans (s.setFld_scan _ _))
@[simp] theorem State.setMode_lanes (s : State) (m : Mode) : (s.setMode m).lanes = s.lanes := (State.wrapInc_lanes _ _).trans ((State.setFld_lanes _ _ _).trans (s.setFld_lanes _ _))
@[simp] theorem State.setMode_tile (s : State) (m : Mode) : (s.setMode m).tile = s.tile := (State.wrapInc_tile _ _).trans ((State.setFld_tile _ _ _).trans (s.setFld_tile _ _))
@[simp] theorem State.setMode_lamp (s : State) (m : Mode) : (s.setMode m).lamp = s.lamp := (State.wrapInc_lamp _ _).trans ((State.setFld_lamp _ _ _).trans (s.setFld_lamp _ _))
@[simp] theorem State.setMode_diag (s : State) (m : Mode) : (s.setMode m).diag = s.diag := (State.wrapInc_diag _ _).trans ((State.setFld_diag _ _ _).trans (s.setFld_diag _ _))
@[simp] theorem State.setMode_snaps (s : State) (m : Mode) : (s.setMode m).snaps = s.snaps := (State.wrapInc_snaps _ _).trans ((State.setFld_snaps _ _ _).trans (s.setFld_snaps _ _))
@[simp] theorem State.setMode_red (s : State) (m : Mode) : (s.setMode m).red = s.red := (State.wrapInc_red _ _).trans ((State.setFld_red _ _ _).trans (s.setFld_red _ _))

/-! ticks -/

@[simp] theorem State.ticks_pending (s : State) (n : Nat) : (s.ticks n).pending = s.pending := rfl
@[simp] theorem State.ticks_regs (s : State) (n : Nat) : (s.ticks n).regs = s.regs := rfl
@[simp] theorem State.ticks_fresh (s : State) (n : Nat) : (s.ticks n).fresh = s.fresh := rfl
@[simp] theorem State.ticks_sent (s : State) (n : Nat) : (s.ticks n).sent = s.sent := rfl
@[simp] theorem State.ticks_gen (s : State) (n : Nat) : (s.ticks n).gen = s.gen := rfl
@[simp] theorem State.ticks_gnt (s : State) (n : Nat) : (s.ticks n).gnt = s.gnt := rfl
@[simp] theorem State.ticks_txn (s : State) (n : Nat) : (s.ticks n).txn = s.txn := rfl
@[simp] theorem State.ticks_cmd (s : State) (n : Nat) : (s.ticks n).cmd = s.cmd := rfl
@[simp] theorem State.ticks_flip (s : State) (n : Nat) : (s.ticks n).flip = s.flip := rfl
@[simp] theorem State.ticks_sched (s : State) (n : Nat) : (s.ticks n).sched = s.sched := rfl
@[simp] theorem State.ticks_link (s : State) (n : Nat) : (s.ticks n).link = s.link := rfl
@[simp] theorem State.ticks_map (s : State) (n : Nat) : (s.ticks n).map = s.map := rfl
@[simp] theorem State.ticks_repl (s : State) (n : Nat) : (s.ticks n).repl = s.repl := rfl
@[simp] theorem State.ticks_faults (s : State) (n : Nat) : (s.ticks n).faults = s.faults := rfl
@[simp] theorem State.ticks_rst (s : State) (n : Nat) : (s.ticks n).rst = s.rst := rfl
@[simp] theorem State.ticks_thm (s : State) (n : Nat) : (s.ticks n).thm = s.thm := rfl
@[simp] theorem State.ticks_fuses (s : State) (n : Nat) : (s.ticks n).fuses = s.fuses := rfl
@[simp] theorem State.ticks_nvm (s : State) (n : Nat) : (s.ticks n).nvm = s.nvm := rfl
@[simp] theorem State.ticks_boot (s : State) (n : Nat) : (s.ticks n).boot = s.boot := rfl
@[simp] theorem State.ticks_dram (s : State) (n : Nat) : (s.ticks n).dram = s.dram := rfl
@[simp] theorem State.ticks_chk (s : State) (n : Nat) : (s.ticks n).chk = s.chk := rfl
@[simp] theorem State.ticks_net0 (s : State) (n : Nat) : (s.ticks n).net0 = s.net0 := rfl
@[simp] theorem State.ticks_net1 (s : State) (n : Nat) : (s.ticks n).net1 = s.net1 := rfl
@[simp] theorem State.ticks_time (s : State) (n : Nat) : (s.ticks n).time = s.time := rfl
@[simp] theorem State.ticks_video (s : State) (n : Nat) : (s.ticks n).video = s.video := rfl
@[simp] theorem State.ticks_scan (s : State) (n : Nat) : (s.ticks n).scan = s.scan := rfl
@[simp] theorem State.ticks_lanes (s : State) (n : Nat) : (s.ticks n).lanes = s.lanes := rfl
@[simp] theorem State.ticks_tile (s : State) (n : Nat) : (s.ticks n).tile = s.tile := rfl
@[simp] theorem State.ticks_lamp (s : State) (n : Nat) : (s.ticks n).lamp = s.lamp := rfl
@[simp] theorem State.ticks_diag (s : State) (n : Nat) : (s.ticks n).diag = s.diag := rfl
@[simp] theorem State.ticks_snaps (s : State) (n : Nat) : (s.ticks n).snaps = s.snaps := rfl
@[simp] theorem State.ticks_red (s : State) (n : Nat) : (s.ticks n).red = s.red := rfl

/-! untilCycle -/

@[simp] theorem State.untilCycle_pending (s : State) (n : Nat) : (s.untilCycle n).pending = s.pending := s.ticks_pending _
@[simp] theorem State.untilCycle_regs (s : State) (n : Nat) : (s.untilCycle n).regs = s.regs := s.ticks_regs _
@[simp] theorem State.untilCycle_fresh (s : State) (n : Nat) : (s.untilCycle n).fresh = s.fresh := s.ticks_fresh _
@[simp] theorem State.untilCycle_sent (s : State) (n : Nat) : (s.untilCycle n).sent = s.sent := s.ticks_sent _
@[simp] theorem State.untilCycle_gen (s : State) (n : Nat) : (s.untilCycle n).gen = s.gen := s.ticks_gen _
@[simp] theorem State.untilCycle_gnt (s : State) (n : Nat) : (s.untilCycle n).gnt = s.gnt := s.ticks_gnt _
@[simp] theorem State.untilCycle_cmd (s : State) (n : Nat) : (s.untilCycle n).cmd = s.cmd := s.ticks_cmd _
@[simp] theorem State.untilCycle_flip (s : State) (n : Nat) : (s.untilCycle n).flip = s.flip := s.ticks_flip _
@[simp] theorem State.untilCycle_sched (s : State) (n : Nat) : (s.untilCycle n).sched = s.sched := s.ticks_sched _
@[simp] theorem State.untilCycle_link (s : State) (n : Nat) : (s.untilCycle n).link = s.link := s.ticks_link _
@[simp] theorem State.untilCycle_map (s : State) (n : Nat) : (s.untilCycle n).map = s.map := s.ticks_map _
@[simp] theorem State.untilCycle_repl (s : State) (n : Nat) : (s.untilCycle n).repl = s.repl := s.ticks_repl _
@[simp] theorem State.untilCycle_faults (s : State) (n : Nat) : (s.untilCycle n).faults = s.faults := s.ticks_faults _
@[simp] theorem State.untilCycle_rst (s : State) (n : Nat) : (s.untilCycle n).rst = s.rst := s.ticks_rst _
@[simp] theorem State.untilCycle_thm (s : State) (n : Nat) : (s.untilCycle n).thm = s.thm := s.ticks_thm _
@[simp] theorem State.untilCycle_fuses (s : State) (n : Nat) : (s.untilCycle n).fuses = s.fuses := s.ticks_fuses _
@[simp] theorem State.untilCycle_nvm (s : State) (n : Nat) : (s.untilCycle n).nvm = s.nvm := s.ticks_nvm _
@[simp] theorem State.untilCycle_boot (s : State) (n : Nat) : (s.untilCycle n).boot = s.boot := s.ticks_boot _
@[simp] theorem State.untilCycle_dram (s : State) (n : Nat) : (s.untilCycle n).dram = s.dram := s.ticks_dram _
@[simp] theorem State.untilCycle_chk (s : State) (n : Nat) : (s.untilCycle n).chk = s.chk := s.ticks_chk _
@[simp] theorem State.untilCycle_net0 (s : State) (n : Nat) : (s.untilCycle n).net0 = s.net0 := s.ticks_net0 _
@[simp] theorem State.untilCycle_net1 (s : State) (n : Nat) : (s.untilCycle n).net1 = s.net1 := s.ticks_net1 _
@[simp] theorem State.untilCycle_time (s : State) (n : Nat) : (s.untilCycle n).time = s.time := s.ticks_time _
@[simp] theorem State.untilCycle_video (s : State) (n : Nat) : (s.untilCycle n).video = s.video := s.ticks_video _
@[simp] theorem State.untilCycle_scan (s : State) (n : Nat) : (s.untilCycle n).scan = s.scan := s.ticks_scan _
@[simp] theorem State.untilCycle_lanes (s : State) (n : Nat) : (s.untilCycle n).lanes = s.lanes := s.ticks_lanes _
@[simp] theorem State.untilCycle_tile (s : State) (n : Nat) : (s.untilCycle n).tile = s.tile := s.ticks_tile _
@[simp] theorem State.untilCycle_lamp (s : State) (n : Nat) : (s.untilCycle n).lamp = s.lamp := s.ticks_lamp _
@[simp] theorem State.untilCycle_diag (s : State) (n : Nat) : (s.untilCycle n).diag = s.diag := s.ticks_diag _
@[simp] theorem State.untilCycle_snaps (s : State) (n : Nat) : (s.untilCycle n).snaps = s.snaps := s.ticks_snaps _
@[simp] theorem State.untilCycle_red (s : State) (n : Nat) : (s.untilCycle n).red = s.red := s.ticks_red _

/-! untilWall -/

@[simp] theorem State.untilWall_pending (s : State) (n : Nat) : (s.untilWall n).pending = s.pending := s.ticks_pending _
@[simp] theorem State.untilWall_regs (s : State) (n : Nat) : (s.untilWall n).regs = s.regs := s.ticks_regs _
@[simp] theorem State.untilWall_fresh (s : State) (n : Nat) : (s.untilWall n).fresh = s.fresh := s.ticks_fresh _
@[simp] theorem State.untilWall_sent (s : State) (n : Nat) : (s.untilWall n).sent = s.sent := s.ticks_sent _
@[simp] theorem State.untilWall_gen (s : State) (n : Nat) : (s.untilWall n).gen = s.gen := s.ticks_gen _
@[simp] theorem State.untilWall_gnt (s : State) (n : Nat) : (s.untilWall n).gnt = s.gnt := s.ticks_gnt _
@[simp] theorem State.untilWall_txn (s : State) (n : Nat) : (s.untilWall n).txn = s.txn := s.ticks_txn _
@[simp] theorem State.untilWall_cmd (s : State) (n : Nat) : (s.untilWall n).cmd = s.cmd := s.ticks_cmd _
@[simp] theorem State.untilWall_flip (s : State) (n : Nat) : (s.untilWall n).flip = s.flip := s.ticks_flip _
@[simp] theorem State.untilWall_sched (s : State) (n : Nat) : (s.untilWall n).sched = s.sched := s.ticks_sched _
@[simp] theorem State.untilWall_link (s : State) (n : Nat) : (s.untilWall n).link = s.link := s.ticks_link _
@[simp] theorem State.untilWall_map (s : State) (n : Nat) : (s.untilWall n).map = s.map := s.ticks_map _
@[simp] theorem State.untilWall_repl (s : State) (n : Nat) : (s.untilWall n).repl = s.repl := s.ticks_repl _
@[simp] theorem State.untilWall_faults (s : State) (n : Nat) : (s.untilWall n).faults = s.faults := s.ticks_faults _
@[simp] theorem State.untilWall_rst (s : State) (n : Nat) : (s.untilWall n).rst = s.rst := s.ticks_rst _
@[simp] theorem State.untilWall_thm (s : State) (n : Nat) : (s.untilWall n).thm = s.thm := s.ticks_thm _
@[simp] theorem State.untilWall_fuses (s : State) (n : Nat) : (s.untilWall n).fuses = s.fuses := s.ticks_fuses _
@[simp] theorem State.untilWall_nvm (s : State) (n : Nat) : (s.untilWall n).nvm = s.nvm := s.ticks_nvm _
@[simp] theorem State.untilWall_boot (s : State) (n : Nat) : (s.untilWall n).boot = s.boot := s.ticks_boot _
@[simp] theorem State.untilWall_dram (s : State) (n : Nat) : (s.untilWall n).dram = s.dram := s.ticks_dram _
@[simp] theorem State.untilWall_chk (s : State) (n : Nat) : (s.untilWall n).chk = s.chk := s.ticks_chk _
@[simp] theorem State.untilWall_net0 (s : State) (n : Nat) : (s.untilWall n).net0 = s.net0 := s.ticks_net0 _
@[simp] theorem State.untilWall_net1 (s : State) (n : Nat) : (s.untilWall n).net1 = s.net1 := s.ticks_net1 _
@[simp] theorem State.untilWall_time (s : State) (n : Nat) : (s.untilWall n).time = s.time := s.ticks_time _
@[simp] theorem State.untilWall_video (s : State) (n : Nat) : (s.untilWall n).video = s.video := s.ticks_video _
@[simp] theorem State.untilWall_scan (s : State) (n : Nat) : (s.untilWall n).scan = s.scan := s.ticks_scan _
@[simp] theorem State.untilWall_lanes (s : State) (n : Nat) : (s.untilWall n).lanes = s.lanes := s.ticks_lanes _
@[simp] theorem State.untilWall_tile (s : State) (n : Nat) : (s.untilWall n).tile = s.tile := s.ticks_tile _
@[simp] theorem State.untilWall_lamp (s : State) (n : Nat) : (s.untilWall n).lamp = s.lamp := s.ticks_lamp _
@[simp] theorem State.untilWall_diag (s : State) (n : Nat) : (s.untilWall n).diag = s.diag := s.ticks_diag _
@[simp] theorem State.untilWall_snaps (s : State) (n : Nat) : (s.untilWall n).snaps = s.snaps := s.ticks_snaps _
@[simp] theorem State.untilWall_red (s : State) (n : Nat) : (s.untilWall n).red = s.red := s.ticks_red _

/-! send -/

@[simp] theorem State.send_pending (s : State) (o : Output) : (s.send o).pending = s.pending := rfl
@[simp] theorem State.send_regs (s : State) (o : Output) : (s.send o).regs = s.regs := rfl
@[simp] theorem State.send_fresh (s : State) (o : Output) : (s.send o).fresh = s.fresh := rfl
@[simp] theorem State.send_cycles (s : State) (o : Output) : (s.send o).cycles = s.cycles := rfl
@[simp] theorem State.send_wall (s : State) (o : Output) : (s.send o).wall = s.wall := rfl
@[simp] theorem State.send_gen (s : State) (o : Output) : (s.send o).gen = s.gen := rfl
@[simp] theorem State.send_gnt (s : State) (o : Output) : (s.send o).gnt = s.gnt := rfl
@[simp] theorem State.send_txn (s : State) (o : Output) : (s.send o).txn = s.txn := rfl
@[simp] theorem State.send_cmd (s : State) (o : Output) : (s.send o).cmd = s.cmd := rfl
@[simp] theorem State.send_flip (s : State) (o : Output) : (s.send o).flip = s.flip := rfl
@[simp] theorem State.send_sched (s : State) (o : Output) : (s.send o).sched = s.sched := rfl
@[simp] theorem State.send_link (s : State) (o : Output) : (s.send o).link = s.link := rfl
@[simp] theorem State.send_map (s : State) (o : Output) : (s.send o).map = s.map := rfl
@[simp] theorem State.send_repl (s : State) (o : Output) : (s.send o).repl = s.repl := rfl
@[simp] theorem State.send_faults (s : State) (o : Output) : (s.send o).faults = s.faults := rfl
@[simp] theorem State.send_rst (s : State) (o : Output) : (s.send o).rst = s.rst := rfl
@[simp] theorem State.send_thm (s : State) (o : Output) : (s.send o).thm = s.thm := rfl
@[simp] theorem State.send_fuses (s : State) (o : Output) : (s.send o).fuses = s.fuses := rfl
@[simp] theorem State.send_nvm (s : State) (o : Output) : (s.send o).nvm = s.nvm := rfl
@[simp] theorem State.send_boot (s : State) (o : Output) : (s.send o).boot = s.boot := rfl
@[simp] theorem State.send_dram (s : State) (o : Output) : (s.send o).dram = s.dram := rfl
@[simp] theorem State.send_chk (s : State) (o : Output) : (s.send o).chk = s.chk := rfl
@[simp] theorem State.send_net0 (s : State) (o : Output) : (s.send o).net0 = s.net0 := rfl
@[simp] theorem State.send_net1 (s : State) (o : Output) : (s.send o).net1 = s.net1 := rfl
@[simp] theorem State.send_time (s : State) (o : Output) : (s.send o).time = s.time := rfl
@[simp] theorem State.send_video (s : State) (o : Output) : (s.send o).video = s.video := rfl
@[simp] theorem State.send_scan (s : State) (o : Output) : (s.send o).scan = s.scan := rfl
@[simp] theorem State.send_lanes (s : State) (o : Output) : (s.send o).lanes = s.lanes := rfl
@[simp] theorem State.send_tile (s : State) (o : Output) : (s.send o).tile = s.tile := rfl
@[simp] theorem State.send_lamp (s : State) (o : Output) : (s.send o).lamp = s.lamp := rfl
@[simp] theorem State.send_diag (s : State) (o : Output) : (s.send o).diag = s.diag := rfl
@[simp] theorem State.send_snaps (s : State) (o : Output) : (s.send o).snaps = s.snaps := rfl
@[simp] theorem State.send_red (s : State) (o : Output) : (s.send o).red = s.red := rfl

/-! drawn -/

@[simp] theorem State.drawn_pending (s : State) : (s.drawn).pending = s.pending := rfl
@[simp] theorem State.drawn_regs (s : State) : (s.drawn).regs = s.regs := rfl
@[simp] theorem State.drawn_cycles (s : State) : (s.drawn).cycles = s.cycles := rfl
@[simp] theorem State.drawn_wall (s : State) : (s.drawn).wall = s.wall := rfl
@[simp] theorem State.drawn_sent (s : State) : (s.drawn).sent = s.sent := rfl
@[simp] theorem State.drawn_gen (s : State) : (s.drawn).gen = s.gen := rfl
@[simp] theorem State.drawn_gnt (s : State) : (s.drawn).gnt = s.gnt := rfl
@[simp] theorem State.drawn_txn (s : State) : (s.drawn).txn = s.txn := rfl
@[simp] theorem State.drawn_cmd (s : State) : (s.drawn).cmd = s.cmd := rfl
@[simp] theorem State.drawn_flip (s : State) : (s.drawn).flip = s.flip := rfl
@[simp] theorem State.drawn_sched (s : State) : (s.drawn).sched = s.sched := rfl
@[simp] theorem State.drawn_link (s : State) : (s.drawn).link = s.link := rfl
@[simp] theorem State.drawn_map (s : State) : (s.drawn).map = s.map := rfl
@[simp] theorem State.drawn_repl (s : State) : (s.drawn).repl = s.repl := rfl
@[simp] theorem State.drawn_faults (s : State) : (s.drawn).faults = s.faults := rfl
@[simp] theorem State.drawn_rst (s : State) : (s.drawn).rst = s.rst := rfl
@[simp] theorem State.drawn_thm (s : State) : (s.drawn).thm = s.thm := rfl
@[simp] theorem State.drawn_fuses (s : State) : (s.drawn).fuses = s.fuses := rfl
@[simp] theorem State.drawn_nvm (s : State) : (s.drawn).nvm = s.nvm := rfl
@[simp] theorem State.drawn_boot (s : State) : (s.drawn).boot = s.boot := rfl
@[simp] theorem State.drawn_dram (s : State) : (s.drawn).dram = s.dram := rfl
@[simp] theorem State.drawn_chk (s : State) : (s.drawn).chk = s.chk := rfl
@[simp] theorem State.drawn_net0 (s : State) : (s.drawn).net0 = s.net0 := rfl
@[simp] theorem State.drawn_net1 (s : State) : (s.drawn).net1 = s.net1 := rfl
@[simp] theorem State.drawn_time (s : State) : (s.drawn).time = s.time := rfl
@[simp] theorem State.drawn_video (s : State) : (s.drawn).video = s.video := rfl
@[simp] theorem State.drawn_scan (s : State) : (s.drawn).scan = s.scan := rfl
@[simp] theorem State.drawn_lanes (s : State) : (s.drawn).lanes = s.lanes := rfl
@[simp] theorem State.drawn_tile (s : State) : (s.drawn).tile = s.tile := rfl
@[simp] theorem State.drawn_lamp (s : State) : (s.drawn).lamp = s.lamp := rfl
@[simp] theorem State.drawn_diag (s : State) : (s.drawn).diag = s.diag := rfl
@[simp] theorem State.drawn_snaps (s : State) : (s.drawn).snaps = s.snaps := rfl
@[simp] theorem State.drawn_red (s : State) : (s.drawn).red = s.red := rfl

/-! Registers past other parts -/

@[simp] theorem State.fld_with_pending (s : State) (x : List Instr) (f : Fld) : ({ s with pending := x } : State).fld f = s.fld f := rfl
@[simp] theorem State.flag_with_pending (s : State) (x : List Instr) (f : Fld) : ({ s with pending := x } : State).flag f = s.flag f := rfl
@[simp] theorem State.fld_with_fresh (s : State) (x : Nat) (f : Fld) : ({ s with fresh := x } : State).fld f = s.fld f := rfl
@[simp] theorem State.flag_with_fresh (s : State) (x : Nat) (f : Fld) : ({ s with fresh := x } : State).flag f = s.flag f := rfl
@[simp] theorem State.fld_with_cycles (s : State) (x : Nat) (f : Fld) : ({ s with cycles := x } : State).fld f = s.fld f := rfl
@[simp] theorem State.flag_with_cycles (s : State) (x : Nat) (f : Fld) : ({ s with cycles := x } : State).flag f = s.flag f := rfl
@[simp] theorem State.fld_with_wall (s : State) (x : Nat) (f : Fld) : ({ s with wall := x } : State).fld f = s.fld f := rfl
@[simp] theorem State.flag_with_wall (s : State) (x : Nat) (f : Fld) : ({ s with wall := x } : State).flag f = s.flag f := rfl
@[simp] theorem State.fld_with_sent (s : State) (x : List Output) (f : Fld) : ({ s with sent := x } : State).fld f = s.fld f := rfl
@[simp] theorem State.flag_with_sent (s : State) (x : List Output) (f : Fld) : ({ s with sent := x } : State).flag f = s.flag f := rfl
@[simp] theorem State.fld_with_gen (s : State) (x : AuthState) (f : Fld) : ({ s with gen := x } : State).fld f = s.fld f := rfl
@[simp] theorem State.flag_with_gen (s : State) (x : AuthState) (f : Fld) : ({ s with gen := x } : State).flag f = s.flag f := rfl
@[simp] theorem State.fld_with_gnt (s : State) (x : AuthState) (f : Fld) : ({ s with gnt := x } : State).fld f = s.fld f := rfl
@[simp] theorem State.flag_with_gnt (s : State) (x : AuthState) (f : Fld) : ({ s with gnt := x } : State).flag f = s.flag f := rfl
@[simp] theorem State.fld_with_txn (s : State) (x : TxnState) (f : Fld) : ({ s with txn := x } : State).fld f = s.fld f := rfl
@[simp] theorem State.flag_with_txn (s : State) (x : TxnState) (f : Fld) : ({ s with txn := x } : State).flag f = s.flag f := rfl
@[simp] theorem State.fld_with_cmd (s : State) (x : CmdState) (f : Fld) : ({ s with cmd := x } : State).fld f = s.fld f := rfl
@[simp] theorem State.flag_with_cmd (s : State) (x : CmdState) (f : Fld) : ({ s with cmd := x } : State).flag f = s.flag f := rfl
@[simp] theorem State.fld_with_flip (s : State) (x : FlipState) (f : Fld) : ({ s with flip := x } : State).fld f = s.fld f := rfl
@[simp] theorem State.flag_with_flip (s : State) (x : FlipState) (f : Fld) : ({ s with flip := x } : State).flag f = s.flag f := rfl
@[simp] theorem State.fld_with_sched (s : State) (x : List SchedEntry) (f : Fld) : ({ s with sched := x } : State).fld f = s.fld f := rfl
@[simp] theorem State.flag_with_sched (s : State) (x : List SchedEntry) (f : Fld) : ({ s with sched := x } : State).flag f = s.flag f := rfl
@[simp] theorem State.fld_with_link (s : State) (x : LinkState) (f : Fld) : ({ s with link := x } : State).fld f = s.fld f := rfl
@[simp] theorem State.flag_with_link (s : State) (x : LinkState) (f : Fld) : ({ s with link := x } : State).flag f = s.flag f := rfl
@[simp] theorem State.fld_with_map (s : State) (x : MapState) (f : Fld) : ({ s with map := x } : State).fld f = s.fld f := rfl
@[simp] theorem State.flag_with_map (s : State) (x : MapState) (f : Fld) : ({ s with map := x } : State).flag f = s.flag f := rfl
@[simp] theorem State.fld_with_repl (s : State) (x : ReplState) (f : Fld) : ({ s with repl := x } : State).fld f = s.fld f := rfl
@[simp] theorem State.flag_with_repl (s : State) (x : ReplState) (f : Fld) : ({ s with repl := x } : State).flag f = s.flag f := rfl
@[simp] theorem State.fld_with_faults (s : State) (x : FaultLog) (f : Fld) : ({ s with faults := x } : State).fld f = s.fld f := rfl
@[simp] theorem State.flag_with_faults (s : State) (x : FaultLog) (f : Fld) : ({ s with faults := x } : State).flag f = s.flag f := rfl
@[simp] theorem State.fld_with_rst (s : State) (x : RstState) (f : Fld) : ({ s with rst := x } : State).fld f = s.fld f := rfl
@[simp] theorem State.flag_with_rst (s : State) (x : RstState) (f : Fld) : ({ s with rst := x } : State).flag f = s.flag f := rfl
@[simp] theorem State.fld_with_thm (s : State) (x : ThmState) (f : Fld) : ({ s with thm := x } : State).fld f = s.fld f := rfl
@[simp] theorem State.flag_with_thm (s : State) (x : ThmState) (f : Fld) : ({ s with thm := x } : State).flag f = s.flag f := rfl
@[simp] theorem State.fld_with_fuses (s : State) (x : Fuses) (f : Fld) : ({ s with fuses := x } : State).fld f = s.fld f := rfl
@[simp] theorem State.flag_with_fuses (s : State) (x : Fuses) (f : Fld) : ({ s with fuses := x } : State).flag f = s.flag f := rfl
@[simp] theorem State.fld_with_nvm (s : State) (x : Nvm) (f : Fld) : ({ s with nvm := x } : State).fld f = s.fld f := rfl
@[simp] theorem State.flag_with_nvm (s : State) (x : Nvm) (f : Fld) : ({ s with nvm := x } : State).flag f = s.flag f := rfl
@[simp] theorem State.fld_with_boot (s : State) (x : BootState) (f : Fld) : ({ s with boot := x } : State).fld f = s.fld f := rfl
@[simp] theorem State.flag_with_boot (s : State) (x : BootState) (f : Fld) : ({ s with boot := x } : State).flag f = s.flag f := rfl
@[simp] theorem State.fld_with_dram (s : State) (x : DramState) (f : Fld) : ({ s with dram := x } : State).fld f = s.fld f := rfl
@[simp] theorem State.flag_with_dram (s : State) (x : DramState) (f : Fld) : ({ s with dram := x } : State).flag f = s.flag f := rfl
@[simp] theorem State.fld_with_chk (s : State) (x : List (Nat × ChkUnit)) (f : Fld) : ({ s with chk := x } : State).fld f = s.fld f := rfl
@[simp] theorem State.flag_with_chk (s : State) (x : List (Nat × ChkUnit)) (f : Fld) : ({ s with chk := x } : State).flag f = s.flag f := rfl
@[simp] theorem State.fld_with_net0 (s : State) (x : NetPort) (f : Fld) : ({ s with net0 := x } : State).fld f = s.fld f := rfl
@[simp] theorem State.flag_with_net0 (s : State) (x : NetPort) (f : Fld) : ({ s with net0 := x } : State).flag f = s.flag f := rfl
@[simp] theorem State.fld_with_net1 (s : State) (x : NetPort) (f : Fld) : ({ s with net1 := x } : State).fld f = s.fld f := rfl
@[simp] theorem State.flag_with_net1 (s : State) (x : NetPort) (f : Fld) : ({ s with net1 := x } : State).flag f = s.flag f := rfl
@[simp] theorem State.fld_with_time (s : State) (x : TimeState) (f : Fld) : ({ s with time := x } : State).fld f = s.fld f := rfl
@[simp] theorem State.flag_with_time (s : State) (x : TimeState) (f : Fld) : ({ s with time := x } : State).flag f = s.flag f := rfl
@[simp] theorem State.fld_with_video (s : State) (x : VideoState) (f : Fld) : ({ s with video := x } : State).fld f = s.fld f := rfl
@[simp] theorem State.flag_with_video (s : State) (x : VideoState) (f : Fld) : ({ s with video := x } : State).flag f = s.flag f := rfl
@[simp] theorem State.fld_with_scan (s : State) (x : ScanState) (f : Fld) : ({ s with scan := x } : State).fld f = s.fld f := rfl
@[simp] theorem State.flag_with_scan (s : State) (x : ScanState) (f : Fld) : ({ s with scan := x } : State).flag f = s.flag f := rfl
@[simp] theorem State.fld_with_lanes (s : State) (x : LaneState) (f : Fld) : ({ s with lanes := x } : State).fld f = s.fld f := rfl
@[simp] theorem State.flag_with_lanes (s : State) (x : LaneState) (f : Fld) : ({ s with lanes := x } : State).flag f = s.flag f := rfl
@[simp] theorem State.fld_with_tile (s : State) (x : TileState) (f : Fld) : ({ s with tile := x } : State).fld f = s.fld f := rfl
@[simp] theorem State.flag_with_tile (s : State) (x : TileState) (f : Fld) : ({ s with tile := x } : State).flag f = s.flag f := rfl
@[simp] theorem State.fld_with_lamp (s : State) (x : LampState) (f : Fld) : ({ s with lamp := x } : State).fld f = s.fld f := rfl
@[simp] theorem State.flag_with_lamp (s : State) (x : LampState) (f : Fld) : ({ s with lamp := x } : State).flag f = s.flag f := rfl
@[simp] theorem State.fld_with_diag (s : State) (x : DiagState) (f : Fld) : ({ s with diag := x } : State).fld f = s.fld f := rfl
@[simp] theorem State.flag_with_diag (s : State) (x : DiagState) (f : Fld) : ({ s with diag := x } : State).flag f = s.flag f := rfl
@[simp] theorem State.fld_with_snaps (s : State) (x : List Snapshot) (f : Fld) : ({ s with snaps := x } : State).fld f = s.fld f := rfl
@[simp] theorem State.flag_with_snaps (s : State) (x : List Snapshot) (f : Fld) : ({ s with snaps := x } : State).flag f = s.flag f := rfl
@[simp] theorem State.fld_with_red (s : State) (x : RedState) (f : Fld) : ({ s with red := x } : State).fld f = s.fld f := rfl
@[simp] theorem State.flag_with_red (s : State) (x : RedState) (f : Fld) : ({ s with red := x } : State).flag f = s.flag f := rfl

@[simp] theorem State.fld_ticks (s : State) (n : Nat) (g : Fld) : (s.ticks n).fld g = s.fld g := rfl
@[simp] theorem State.flag_ticks (s : State) (n : Nat) (g : Fld) : (s.ticks n).flag g = s.flag g := rfl
@[simp] theorem State.fld_untilCycle (s : State) (n : Nat) (g : Fld) : (s.untilCycle n).fld g = s.fld g := rfl
@[simp] theorem State.flag_untilCycle (s : State) (n : Nat) (g : Fld) : (s.untilCycle n).flag g = s.flag g := rfl
@[simp] theorem State.fld_untilWall (s : State) (n : Nat) (g : Fld) : (s.untilWall n).fld g = s.fld g := rfl
@[simp] theorem State.flag_untilWall (s : State) (n : Nat) (g : Fld) : (s.untilWall n).flag g = s.flag g := rfl
@[simp] theorem State.fld_send (s : State) (o : Output) (g : Fld) : (s.send o).fld g = s.fld g := rfl
@[simp] theorem State.flag_send (s : State) (o : Output) (g : Fld) : (s.send o).flag g = s.flag g := rfl
@[simp] theorem State.fld_drawn (s : State) (g : Fld) : (s.drawn).fld g = s.fld g := rfl
@[simp] theorem State.flag_drawn (s : State) (g : Fld) : (s.drawn).flag g = s.flag g := rfl

end Sys2Proof.Machine
end

