-- ==== Sys2Proof/Laws/Ops.lean ====
section
/-! SUPPORT. Shared operations: what each of them leaves, says and does. -/

namespace Sys2Proof.Machine

/-- A response leaves what another authority held. -/
theorem State.keep_other {h : Hdr} {s : State} {u : State} {op : Nat} {r : Reply} {a : Auth} (ha : a ≠ h.auth) (k : u.auth a = s.auth a) :
    (u.respond h op r).auth a = s.auth a := by rw [State.respond_auth, if_neg ha, k]

/-- An event leaves the authorities. -/
@[simp] theorem State.event_auth (s : State) (f : Fld) (b : Auth) : (s.event f).auth b = s.auth b := by cases b <;> rfl

/-- Time that passes answers nothing. -/
theorem State.untilCycle_silent (s : State) (n : Nat) : Silent s (s.untilCycle n) := .of_sent rfl

/-- Time that passes changes no register. -/
theorem State.untilCycle_flds (s : State) (fs : List Fld) (n : Nat) : OnlyFlds fs s (s.untilCycle n) := .of_regs rfl

/-- Time that passes leaves the authorities. -/
theorem State.untilCycle_auth (s : State) (n : Nat) (b : Auth) : (s.untilCycle n).auth b = s.auth b := by cases b <;> rfl

/-- Time that passes leaves the transactions. -/
theorem State.untilCycle_txn (s : State) (n : Nat) : (s.untilCycle n).txn = s.txn := rfl

/-- Time passes up to a cycle, or not at all. -/
theorem State.untilCycle_cycles (s : State) (n : Nat) : (s.untilCycle n).cycles = max s.cycles n := by
  show s.cycles + (n - s.cycles) = _
  omega

/-- An event stands in its field. -/
theorem State.flag_event (s : State) (f : Fld) (hf : f.ok = true) : (s.event f).flag f = true := by
  unfold State.flag State.event
  rw [State.fld_setFld_same _ _ _ hf]
  have : 1 % 2 ^ (f.hi - f.lo + 1) = 1 := Nat.mod_eq_of_lt (Nat.one_lt_two_pow (by omega))
  show (1 % 2 ^ f.width == 1) = true
  rw [Fld.width, this]; rfl

/-- A row of host software is the submission of its command. -/
theorem exec_hostCmd (s : State) (i : Instr) (h : Hdr) (c : HostCmd) (k : hostCmdOf i = some (h, c)) : exec i s = .next (s.submit h c) := by
  cases i <;> simp only [hostCmdOf, Option.some.injEq, Prod.mk.injEq, reduceCtorEq] at k <;> obtain ⟨rfl, rfl⟩ := k <;> rfl

/-- `answer` of a status other than ERR_SEQ. -/
theorem State.answer_replies (s : State) (h : Hdr) (op : Nat) (r : Reply) (hr : r.status ≠ .errSeq) :
    Replies s (s.answer h op r) h op r [] [] ∧ ∀ a, (s.answer h op r).auth a = s.auth a := by
  have hg := s.answer_auths h op r
  refine ⟨⟨⟨s.answer_answers h op r, ?_, ?_⟩, .of_same hg.1 hg.2⟩, fun a => by cases a <;> simp [State.auth, hg.1, hg.2]⟩
  · exact (State.answer_evolves s h op r (by simp [answerParts]) (Evolves.refl _ s)).parts
  · unfold State.answer
    dsimp only
    rw [if_neg hr]
    exact OnlyFlds.trans (.of_regs rfl) ((State.deliver_flds _ _ _).mono (by simp))

/-- `answer` of ERR_SEQ sets SEQ_ERR (R526). -/
theorem State.answer_replies_seq (s : State) (h : Hdr) (op : Nat) (r : Reply) (hr : r.status = .errSeq) :
    Replies s (s.answer h op r) h op r [] [F.SYS_CMD_EVT_SEQ_ERR] ∧ (∀ a, (s.answer h op r).auth a = s.auth a) ∧ (s.answer h op r).flag F.SYS_CMD_EVT_SEQ_ERR = true := by
  have hg := s.answer_auths h op r
  refine ⟨⟨⟨s.answer_answers h op r, ?_, ?_⟩, .of_same hg.1 hg.2⟩, fun a => by cases a <;> simp [State.auth, hg.1, hg.2], ?_⟩
  · exact (State.answer_evolves s h op r (by simp [answerParts]) (Evolves.refl _ s)).parts
  · unfold State.answer
    dsimp only
    rw [if_pos hr]
    exact OnlyFlds.trans (OnlyFlds.trans (((OnlyFlds.refl _ s).event _ (by decide) (by simp))) (.of_regs rfl)) ((State.deliver_flds _ _ _).mono (by simp))
  · unfold State.answer State.flag
    dsimp only
    rw [if_pos hr, State.deliver_flds _ _ _ _ (by decide) (by decide)]
    exact State.flag_event s _ rfl

/-- The fields of LAST_RES. -/
theorem State.setLastRes_flds (s : State) (a : Auth) (x : Status) (l r : Bool) (fi : Nat) :
    OnlyFlds (lastResFlds a) s (s.setLastRes a x l r fi) := by
  unfold State.setLastRes
  have h := fun i (_ : i < 2) => (show (F.SYS_TXN_LAST_RES_STATUS i).ok = true ∧ (F.SYS_TXN_LAST_RES_LATE i).ok = true ∧ (F.SYS_TXN_LAST_RES_REPLICATED i).ok = true ∧ (F.SYS_TXN_LAST_RES_FAIL_INDEX i).ok = true from ⟨rfl, rfl, rfl, rfl⟩)
  obtain ⟨h1, h2, h3, h4⟩ := h (authIdx a) (by cases a <;> decide)
  exact ((((OnlyFlds.refl _ s).setFld _ _ h1 (by simp [lastResFlds])).setFlag _ _ h2 (by simp [lastResFlds])).setFlag _ _ h3
    (by simp [lastResFlds])).setFld _ _ h4 (by simp [lastResFlds])

/-- The status in LAST_RES. -/
theorem State.setLastRes_status (s : State) (a : Auth) (x : Status) (l r : Bool) (fi : Nat) :
    (s.setLastRes a x l r fi).fld (F.SYS_TXN_LAST_RES_STATUS (authIdx a)) = x.code := by
  unfold State.setLastRes State.setFlag
  rw [State.fld_setFld_apart, State.fld_setFld_apart, State.fld_setFld_apart, State.fld_setFld_same]
  · cases a <;> cases x <;> decide
  all_goals cases a <;> decide

/-- LAST_RES leaves the authorities. -/
@[simp] theorem State.setLastRes_auth (s : State) (a : Auth) (x : Status) (l r : Bool) (fi : Nat) (b : Auth) :
    (s.setLastRes a x l r fi).auth b = s.auth b := by cases b <;> rfl

/-- LAST_RES leaves the transactions. -/
@[simp] theorem State.setLastRes_txn (s : State) (a : Auth) (x : Status) (l r : Bool) (fi : Nat) :
    (s.setLastRes a x l r fi).txn = s.txn := rfl

/-- R51, R59: all that closing a transaction does. -/
theorem State.rollBack_spec (s : State) (a : Auth) (t₀ : OpenTxn) (x : Status) (fi : Nat) (b : Bool) :
    Silent s (s.rollBack a t₀ x fi b) ∧ OnlyParts [.regs, .sent, .gen, .gnt, .txn, .repl, .red] s (s.rollBack a t₀ x fi b) ∧
    OnlyFlds (lastResFlds a) s (s.rollBack a t₀ x fi b) ∧
    (s.rollBack a t₀ x fi b).auth a = { s.auth a with
          opened := none
          lastSeq := max (s.auth a).lastSeq t₀.seq
          outcomes := (⟨t₀.seq, x, b, 0, 0, fi, false, false⟩ :: (s.auth a).outcomes).take 64 } ∧
    (∀ c, c ≠ a → (s.rollBack a t₀ x fi b).auth c = s.auth c) ∧
    (s.rollBack a t₀ x fi b).txn = { s.txn with journal := s.txn.journal ++ [.rollback a t₀.seq false x fi] } ∧
    (s.rollBack a t₀ x fi b).fld (F.SYS_TXN_LAST_RES_STATUS (authIdx a)) = x.code := by
  refine ⟨?_, (State.rollBack_evolves s a t₀ x fi b (by simp) (Evolves.refl _ s)).parts, ?_, ?_, ?_, ?_, ?_⟩
  · unfold State.rollBack
    refine Silent.trans ?_ (.of_sent ((State.setLastRes_evolves _ _ _ _ _ _ (ps₀ := [.regs]) (by simp) (Evolves.refl _ _)).parts .sent (by simp)))
    exact Silent.trans (.of_sent (s.setAuth_sent _ _)) (Silent.trans (State.record_silent _ _) (.of_sent (State.setAuth_sent _ _ _)))
  · unfold State.rollBack
    refine OnlyFlds.trans (.of_regs ?_) (State.setLastRes_flds _ _ _ _ _ _)
    simp [State.finishSeq, State.setOpen]
  · simp [State.rollBack, State.finishSeq, State.setOpen, keepOutcome]
  · intro c hc
    simp [State.rollBack, State.finishSeq, State.setOpen, State.setAuth_auth_ne _ _ hc]
  · simp [State.rollBack, State.finishSeq, State.setOpen]
  · exact State.setLastRes_status _ _ _ _ _ _

/-! New actions -/

/-- A new action that is no WRITE starts, and does what it does. -/
theorem State.submit_action (s : State) (h : Hdr) (c : HostCmd) (k : s.newAction h c) (hk : kindOf true c = .action) :
    s.submit h c = (s.started h (opcodeOf c)).runStarted h c := by
  have hq : kindOf false c ≠ .query := by intro hh; cases c <;> simp [kindOf] at hh hk
  rw [s.submit_runs h c k.1 hq, ← s.startAction_new h c k]
  cases c <;> first | rfl | simp [kindOf] at hk

/-- A new direct WRITE. -/
theorem State.submit_direct (s : State) (h : Hdr) (x : Change) (k : s.newAction h (.write x)) (hi : x.index = 0xFFFF)
    (ho : (s.auth h.auth).opened = none) : s.submit h (.write x) = (s.started h 0x0011).directWrite h x := by
  rw [s.submit_runs h _ k.1 (by simp [kindOf])]
  show s.runWrite h x = _
  simp only [State.runWrite, ho, hi]
  exact s.startAction_new h (.write x) k

theorem State.started_fld (s : State) (h : Hdr) (op : Nat) (f : Fld) : (s.started h op).fld f = s.fld f := by
  simp [State.fld, State.reg]

theorem State.started_same (s : State) (h : Hdr) (op : Nat) (p : Part) (hg : p ≠ .gen) (hn : p ≠ .gnt) : p.same s (s.started h op) :=
  s.started_parts h op p (by simp [hg, hn])

/-- A writing to the stream leaves what waits. -/
theorem State.append_waiting (s : State) (i : ReplItem) : (s.append i).repl.waiting = s.repl.waiting := by
  unfold State.append
  split
  · unfold State.sendPartner
    cases State.pathPort _ <;> rfl
  · rfl

theorem State.append_hasStandby (s : State) (i : ReplItem) : (s.append i).hasStandby = s.hasStandby := by
  simp [State.hasStandby, State.partnered, State.mode, State.flag, State.fld, State.reg]

/-- R428: a new action that completes with the stream: at once without a standby, and otherwise once it is acknowledged. -/
theorem State.completeAfter_acts (s u : State) (i : ReplItem) (h : Hdr) (op : Nat) (r : Reply) (ps : List Part) (fs : List Fld)
    (hr : r.status ≠ .errSeq) (h1 : Silent (s.started h op) u) (h2 : OnlyParts ps (s.started h op) u)
    (h3 : OnlyFlds fs (s.started h op) u) (hg : u.gen = (s.started h op).gen) (hn : u.gnt = (s.started h op).gnt)
    (hp : Part.repl ∉ ps) :
    (u.hasStandby = false → Acts s (u.completeAfter i (.reply h op r)) h op r (ps ++ [.repl, .red]) fs) ∧
    (u.hasStandby = true → Awaits s (u.completeAfter i (.reply h op r)) (.reply h op r) ∧
      OnlyParts (ps ++ [.gen, .gnt, .repl, .red, .sent]) s (u.completeAfter i (.reply h op r)) ∧
      AuthsKeep h s (u.completeAfter i (.reply h op r))) := by
  unfold State.completeAfter
  dsimp only
  have ha := u.append_hasStandby i
  have hk := u.append_keeps i
  have hs := u.append_silent i
  have hw := u.append_waiting i
  have h2w : u.repl = s.repl := (h2 .repl hp).trans (s.started_same h op .repl (by simp) (by simp))
  generalize u.append i = v at *
  refine ⟨fun hb => ?_, fun hb => ?_⟩
  · rw [ha, hb]
    simp only [Bool.false_eq_true, if_false]
    show Acts s (v.respond h op r) h op r _ _
    refine s.respond_acts v h op r _ _ hr (h1.trans hs) ?_ ?_ ((hk .gen (by simp)).trans hg) ((hk .gnt (by simp)).trans hn)
    · exact (h2.mono (by simp)).trans (hk.mono (by simp [answerParts]))
    · exact (h3.mono (by simp)).trans (.of_regs (hk .regs (by simp)))
  · rw [ha, hb]
    simp only [if_true]
    refine ⟨⟨((s.started_silent h op).trans (h1.trans hs)).trans (.of_sent rfl), ?_⟩, ?_, ?_⟩
    · show v.repl.waiting ++ _ = _
      rw [hw, h2w]; rfl
    · refine OnlyParts.trans ((s.started_parts h op).mono (by simp)) (OnlyParts.trans (h2.mono (by simp)) (OnlyParts.trans (hk.mono (by simp)) ?_))
      exact (State.await_evolves v _ (by simp) (Evolves.refl _ _)).parts
    · refine (s.started_auths h op).trans (.of_same ?_ ?_)
      · exact (hk .gen (by simp)).trans hg
      · exact (hk .gnt (by simp)).trans hn

end Sys2Proof.Machine
end

