-- ==== Sys2Proof/Laws/Store.lean ====
section
/-! SUPPORT. Bytes of the pixel store and of external memory: what a write leaves and what a read gives back. -/

namespace Sys2Proof.Machine

/-! The pixel store (R310) -/

theorem State.storeBytes_eq (s : State) (b n : Nat) : s.storeBytes b n = (List.range n).map (fun i => s.storeByte (b + i)) := rfl

theorem State.half_setHalf_same (s : State) (h v : Nat) : (s.setHalf h v).half h = v % 65536 := by
  unfold State.half State.setHalf
  simp

theorem State.half_setHalf_ne (s : State) {h g : Nat} (v : Nat) (hg : g ≠ h) : (s.setHalf h v).half g = s.half g := by
  unfold State.half State.setHalf
  simp only
  rw [Sparse.get_put_ne _ _ _ hg]

/-- A byte written is read back, and no other byte changes. -/
theorem State.storeByte_setStoreByte (s : State) (b c : Nat) (v : Byte) :
    (s.setStoreByte b v).storeByte c = if c = b then v else s.storeByte c := by
  have hv : v.toNat < 256 := v.isLt
  have ho : s.half (storeAt b) < 65536 := by unfold State.half; exact BitVec.isLt _
  unfold State.setStoreByte State.storeByte
  by_cases hh : storeAt c = storeAt b
  · rw [hh, State.half_setHalf_same]
    have hcb : c / 2 = b / 2 := hh
    apply BitVec.eq_of_toNat_eq
    generalize s.half (storeAt b) = o at *
    rcases Nat.mod_two_eq_zero_or_one b with hb | hb <;> rcases Nat.mod_two_eq_zero_or_one c with hc | hc
    · have : c = b := by omega
      subst this
      simp only [hb, if_true, BitVec.toNat_ofNat, Nat.mul_zero, Nat.pow_zero, Nat.div_one]
      omega
    · have : c ≠ b := by omega
      simp only [this, hb, hc, if_true, if_false, BitVec.toNat_ofNat, Nat.mul_one, Nat.reducePow]
      omega
    · have : c ≠ b := by omega
      simp only [this, hb, hc, if_false, BitVec.toNat_ofNat, Nat.mul_zero, Nat.pow_zero, Nat.div_one, Nat.reducePow, Nat.one_ne_zero]
      omega
    · have : c = b := by omega
      subst this
      simp only [hb, if_true, if_false, BitVec.toNat_ofNat, Nat.mul_one, Nat.reducePow, Nat.one_ne_zero]
      omega
  · rw [State.half_setHalf_ne _ _ hh, if_neg (by rintro rfl; exact hh rfl)]

/-- Bytes written are read back, and no other byte changes. -/
theorem State.storeByte_setStoreBytes (bs : List Byte) (s : State) (b c : Nat) :
    (s.setStoreBytes b bs).storeByte c = if b ≤ c ∧ c < b + bs.length then bs.getD (c - b) 0 else s.storeByte c := by
  unfold State.setStoreBytes
  have key : ∀ (bs : List Byte) (k : Nat) (s : State), ((bs.zipIdx k).foldl (fun t (p : Byte × Nat) => t.setStoreByte (b + p.2) p.1) s).storeByte c =
      if b + k ≤ c ∧ c < b + k + bs.length then bs.getD (c - (b + k)) 0 else s.storeByte c := by
    intro bs
    induction bs with
    | nil => intro k s; simp; try omega
    | cons x xs ih =>
      intro k s
      simp only [List.zipIdx_cons, List.foldl_cons]
      rw [ih, State.storeByte_setStoreByte]
      by_cases h1 : c = b + k
      · subst h1
        rw [if_neg (by omega), if_pos rfl, if_pos (by simp)]
        simp
      · by_cases h2 : b + k ≤ c ∧ c < b + k + (x :: xs).length
        · rw [if_pos (by simp at h2 ⊢; omega), if_pos h2]
          have : c - (b + k) = (c - (b + (k + 1))) + 1 := by omega
          rw [this]; simp
        · rw [if_neg (by simp at h2 ⊢; omega), if_neg h1, if_neg h2]
  simpa using key bs 0 s

/-! External memory (R455 to R461) -/

theorem State.burstBytes_putBurst (s : State) (b c : Nat) (bs : List Byte) :
    (s.putBurst b bs).burstBytes c = if c = b then bs else s.burstBytes c := by
  unfold State.burstBytes State.putBurst
  simp only
  split
  · next h => rw [h]; simp
  · next h => exact Sparse.get_put_ne _ _ _ h

theorem State.badWords_putBurst (s : State) (b c : Nat) (bs : List Byte) (h : s.badWords c = 0) : (s.putBurst b bs).badWords c = 0 := by
  unfold State.badWords State.putBurst at *
  simp only
  by_cases hc : c = b
  · subst hc
    have : (s.dram.bad.filter (fun x => x.1 != c)).find? (fun x => x.1 == c) = none := by simp
    rw [this]; rfl
  · have : (s.dram.bad.filter (fun x => x.1 != b)).find? (fun x => x.1 == c) = s.dram.bad.find? (fun x => x.1 == c) := by
      rw [List.find?_filter]
      congr 1
      funext x
      by_cases hx : x.1 = c <;> simp [hx, hc]
    rw [this]; exact h

/-- A part of a burst written where the burst is ready. -/
theorem State.writeIn_ready (s : State) (b off : Nat) (bs : List Byte) (hb : s.badWords b = 0) (hl : (s.burstBytes b).length = 64) :
    s.writeIn b off bs = (s.putBurst b (patch (s.burstBytes b) off bs), true) := by
  unfold State.writeIn
  split
  · next h =>
    have : patch (s.burstBytes b) off bs = bs := by
      unfold patch
      rw [h.1, h.2]
      simp; omega
    rw [this]
  · have hr : s.readBurst 3 b = (s, some (s.burstBytes b)) := by
      unfold State.readBurst
      rw [if_neg (by simpa using hb)]
      split
      · next hz => rw [hz] at hl; simp at hl
      · rfl
    rw [hr]

theorem patch_length (old bs : List Byte) (i : Nat) (h : i + bs.length ≤ old.length) : (patch old i bs).length = old.length := by
  unfold patch; simp; omega

theorem patch_getD (old bs : List Byte) (i j : Nat) (h : i + bs.length ≤ old.length) :
    (patch old i bs).getD j 0 = if i ≤ j ∧ j < i + bs.length then bs.getD (j - i) 0 else old.getD j 0 := by
  unfold patch
  simp only [List.getD_eq_getElem?_getD]
  by_cases h1 : j < i
  · rw [List.getElem?_append_left (by simp; omega), List.getElem?_append_left (by simp; omega), if_neg (by omega),
      List.getElem?_take_of_lt h1]
  · by_cases h2 : j < i + bs.length
    · rw [List.getElem?_append_left (by simp; omega), List.getElem?_append_right (by simp; omega), if_pos (by omega)]
      simp only [List.length_take]
      congr 2; omega
    · rw [List.getElem?_append_right (by simp; omega), if_neg (by omega)]
      simp only [List.length_append, List.length_take, List.getElem?_drop]
      congr 2; omega

/-- R461: bytes written to external memory that is ready are read back, and no other byte changes. -/
theorem State.writeMem_ready (s : State) (addr : Nat) (bs : List Byte) (h : s.memReady addr bs.length) :
    ∃ t, s.writeMem addr bs = (t, true) ∧ OnlyParts [.dram] s t ∧
      ∀ c, t.memByte c = if addr ≤ c ∧ c < addr + bs.length then bs.getD (c - addr) 0 else s.memByte c := by
  have key : ∀ (fuel addr : Nat) (bs : List Byte) (s : State),
      bs.length / 64 + 2 ≤ fuel ∨ (addr % 64 = 0 ∧ bs.length / 64 + 1 ≤ fuel) → s.memReady addr bs.length →
      ∃ t, (burstParts fuel addr bs.length).foldl (fun (x : State × Bool × List Byte) (p : Nat × Nat × Nat) =>
          if x.2.1 then
            let r := x.1.writeIn p.1 p.2.1 (x.2.2.take p.2.2)
            (r.1, r.2, x.2.2.drop p.2.2)
          else x) (s, true, bs) = (t, true, []) ∧ OnlyParts [.dram] s t ∧
        ∀ c, t.memByte c = if addr ≤ c ∧ c < addr + bs.length then bs.getD (c - addr) 0 else s.memByte c := by
    intro fuel
    induction fuel with
    | zero => intro addr bs s hf; omega
    | succ fuel ih =>
      intro addr bs s hf hr
      unfold burstParts
      by_cases hn : bs.length = 0
      · rw [if_pos hn]
        have : bs = [] := List.eq_nil_of_length_eq_zero hn
        subst this
        refine ⟨s, rfl, .refl _ s, fun c => ?_⟩
        rw [if_neg (by simp; try omega)]
      · rw [if_neg hn]
        simp only [List.foldl_cons, if_true]
        obtain ⟨h1, h2⟩ := hr (addr / 64) (Nat.le_refl _) (by omega)
        generalize hk : min bs.length (64 - addr % 64) = k
        have hkl : (bs.take k).length = k := by simp; omega
        rw [s.writeIn_ready _ _ _ h1 h2]
        simp only
        generalize hu : s.putBurst (addr / 64) (patch (s.burstBytes (addr / 64)) (addr % 64) (bs.take k)) = u
        have hup : OnlyParts [.dram] s u := by
          subst hu; intro p hp; cases p <;> first | rfl | exact absurd (by simp) hp
        have hlen : bs.length - k = (bs.drop k).length := by simp
        have hpl : (patch (s.burstBytes (addr / 64)) (addr % 64) (bs.take k)).length = 64 := by
          rw [patch_length _ _ _ (by rw [hkl, h2]; omega), h2]
        have hru : u.memReady (addr + k) (bs.drop k).length := by
          intro b hb1 hb2
          simp only [List.length_drop] at hb2
          subst hu
          obtain ⟨g1, g2⟩ := hr b (by omega) (by omega)
          refine ⟨s.badWords_putBurst _ _ _ g1, ?_⟩
          rw [State.burstBytes_putBurst]
          split
          · exact hpl
          · exact g2
        obtain ⟨t, t1, t2, t3⟩ : ∃ t, (burstParts fuel (addr + k) (bs.drop k).length).foldl _ (u, true, bs.drop k) = (t, true, []) ∧ OnlyParts [.dram] u t ∧
            ∀ c, t.memByte c = if addr + k ≤ c ∧ c < addr + k + (bs.drop k).length then (bs.drop k).getD (c - (addr + k)) 0 else u.memByte c := by
          by_cases hlast : bs.length ≤ 64 - addr % 64
          · have hkb : k = bs.length := by omega
            subst hkb
            have e1 : bs.drop bs.length = [] := by simp
            rw [e1]
            have : burstParts fuel (addr + bs.length) ([] : List Byte).length = [] := by cases fuel <;> simp [burstParts]
            rw [this]
            exact ⟨u, rfl, .refl _ u, fun c => by rw [if_neg (by simp; try omega)]⟩
          · have hkb : k = 64 - addr % 64 := by omega
            refine ih (addr + k) (bs.drop k) u (.inr ⟨by omega, ?_⟩) hru
            simp only [List.length_drop]
            rcases hf with hf | ⟨ha, hf⟩ <;> omega
        rw [hlen]
        refine ⟨t, t1, hup.trans t2, fun c => ?_⟩
        rw [t3 c]
        have huc : u.memByte c = if c / 64 = addr / 64 ∧ addr % 64 ≤ c % 64 ∧ c % 64 < addr % 64 + k then bs.getD (c % 64 - addr % 64) 0 else s.memByte c := by
          subst hu
          unfold State.memByte
          rw [State.burstBytes_putBurst]
          by_cases hcb : c / 64 = addr / 64
          · rw [if_pos hcb, patch_getD _ _ _ _ (by rw [hkl, h2]; omega), hkl]
            by_cases hcr : addr % 64 ≤ c % 64 ∧ c % 64 < addr % 64 + k
            · rw [if_pos hcr, if_pos ⟨hcb, hcr⟩]
              simp only [List.getD_eq_getElem?_getD]
              rw [List.getElem?_take_of_lt (by omega)]
            · rw [if_neg hcr, if_neg (by tauto), hcb]
          · rw [if_neg hcb, if_neg (by tauto)]
        simp only [List.length_drop]
        by_cases hc1 : addr + k ≤ c ∧ c < addr + bs.length
        · rw [if_pos (by omega), if_pos (by omega)]
          simp only [List.getD_eq_getElem?_getD, List.getElem?_drop]
          congr 2; omega
        · rw [if_neg (by omega), huc]
          by_cases hc2 : addr ≤ c ∧ c < addr + bs.length
          · rw [if_pos (by omega), if_pos hc2]
            congr 1; omega
          · rw [if_neg (by omega), if_neg hc2]
  obtain ⟨t, t1, t2, t3⟩ := key (bs.length / 64 + 2) addr bs s (.inl (Nat.le_refl _)) h
  refine ⟨t, ?_, t2, t3⟩
  unfold State.writeMem
  dsimp only at t1 ⊢
  rw [t1]

end Sys2Proof.Machine
end

