-- ==== Sys2Proof/WellFormed.lean ====
section
/-! DEFINITION. Well-formed commands: every operand within the width that its packet, message or pin gives it. The check of a
command's meaning is not here: an operand that the spec answers with a status is well formed. -/

namespace Sys2Proof

/-- A value of `n` bits. -/
def fits (n v : Nat) : Bool := decide (v < 2 ^ n)

/-- An index below a count. -/
def below (n v : Nat) : Bool := decide (v < n)

/-- A signed value of `n` bits. -/
def fitsInt (n : Nat) (v : Int) : Bool := decide (-(2 ^ (n - 1) : Int) ≤ v ∧ v < 2 ^ (n - 1))

/-- R509, R518: a transport. -/
def Transport.wf : Transport → Bool
  | .hspi => true
  | .udp p ip up x => below 2 p && fits 32 ip && fits 16 up && fits 32 x
  | .chain src seq => fits 16 src && fits 32 seq

/-- R505: a header. -/
def Hdr.wf (h : Hdr) : Bool := fits 32 h.seq && h.via.wf

/-- R516: a time field. -/
def TimeField.wf (t : TimeField) : Bool := fits 48 t.sec && fits 32 t.ns && fits 16 t.frac

/-- R515: a change. -/
def Change.wf (c : Change) : Bool :=
  fits 16 c.index && fits 32 c.addr && fits 16 c.target && fits 8 c.scope && fits 16 c.words.length

/-- R522: a commissioning section. -/
def Commission.wf (c : Commission) : Bool :=
  c.keyGen.length == 32 && c.keyGnt.length == 32 && fits 8 c.tagLen && fits 8 c.transports && fits 8 c.allowN && fits 32 c.commGen &&
  c.allow.length == 8 && c.allow.all (fun (a : AllowEntry) => fits 32 a.ip && fits 8 a.prefixLen)

/-- R226: a message header. -/
def MsgHdr.wf (m : MsgHdr) : Bool := below 8 m.port && fits 16 m.dst && fits 16 m.src && fits 32 m.seq && fits 16 m.claimTag

/-- R231: HELLO. -/
def Hello.wf (h : Hello) : Bool :=
  fits 16 h.part && fits 8 h.stepping && fits 8 h.kind && fits 8 h.versions && fits 8 h.port && fits 8 h.rate && fits 8 h.lanes &&
  fits 8 h.mode && fits 16 h.addr && fits 16 h.maxLen && fits 32 h.fwVer && fits 32 h.caps && fits 32 h.epoch && fits 8 h.rank

/-- R237: TILE_INFO. -/
def TileInfo.wf (i : TileInfo) : Bool :=
  fits 16 i.addr && fits 16 i.w && fits 16 i.h && fits 8 i.lamps && fits 8 i.viewsHeld && fits 32 i.fwVer && fits 32 i.caps &&
  fits 8 i.mode && fits 8 i.vmax && fits 16 i.drivers && fits 16 i.restarts

/-- R239: FLIP. -/
def FlipMsg.wf (f : FlipMsg) : Bool :=
  fits 64 f.num && f.time.wf && fits 32 f.epoch && fits 8 f.rank && below 8 f.view && fits 4 f.guardBits && fits 32 f.alive &&
  fits 16 f.gen && f.rcheck.length == 4

/-- R240: FRAME_END. -/
def FrameEnd.wf (f : FrameEnd) : Bool :=
  fits 32 f.flipLo && below 8 f.view && fits 32 f.bursts && fits 32 f.pixels && fits 4 f.gntMask && f.gntCheck.length == 4

/-- R243: an entry of a module table. -/
def ModuleEntry.wf (e : ModuleEntry) : Bool :=
  fits 8 e.module && fits 3 e.orient && fits 16 e.u0 && fits 16 e.v0 && fits 16 e.mw && fits 16 e.mh && fits 16 e.gain &&
  fits 8 e.top && fits 8 e.bottom && fits 8 e.left && fits 8 e.right

/-- R244: SET. -/
def SetMsg.wf (m : SetMsg) : Bool :=
  fits 16 m.index && fits 32 m.txnSeq && fits 64 m.dueFlip && fits 32 m.addr && fits 16 m.first && decide (m.words.length ≤ 1018)

/-- R252: HEARTBEAT. -/
def Heartbeat.wf (h : Heartbeat) : Bool :=
  fits 32 h.epoch && below 2 h.rank && fits 8 h.mode && below 64 h.domain && fits 32 h.hbSeq && fits 48 h.sec && fits 32 h.ns &&
  fits 32 h.genSeq && fits 32 h.gntSeq && fits 8 h.chain && fits 16 h.restarts

/-- R254: TILE_STATUS. -/
def TileStatus.wf (t : TileStatus) : Bool :=
  fits 16 t.addr && fits 8 t.mode && fits 32 t.lastFlipLo && fits 8 t.lastView && fits 16 t.temp && fits 16 t.faultsPending &&
  fits 32 t.claimEpoch && fitsInt 32 t.offsetPs && fits 16 t.restarts && fits 16 t.disc

/-- R255: a fault record. -/
def FaultRec.wf (f : FaultRec) : Bool :=
  fits 16 f.addr && fits 16 f.record && fits 8 f.cls && fits 8 f.code && fits 16 f.count && fits 48 f.sec && fits 32 f.ns &&
  f.detail.length == 14

/-- R221 to R224: a pixel burst. -/
def Burst.wf (b : Burst) : Bool :=
  below 8 b.view && fits 16 b.count && fits 16 b.row && fits 8 b.module && fits 16 b.tile && fits 16 b.flipLo && fits 16 b.gen &&
  fits 16 b.claimTag && b.spans.all (fun l => l.length == 4 && l.all (fun (x : Span) => fits 16 x.start && fits 16 x.len)) &&
  b.pixels.length == b.count && b.pixels.all (fits 36)

/-- R124: the content of a frame. -/
def EthContent.wf : EthContent → Bool
  | .arp op mac ip target => fits 16 op && fits 48 mac && fits 32 ip && fits 32 target
  | .icmp mac src dst _ => fits 48 mac && fits 32 src && fits 32 dst
  | .udp a b p q _ => fits 32 a && fits 32 b && fits 16 p && fits 16 q
  | .pause => true
  | .igmp => true
  | .other => true

/-- R122: a received frame. -/
def EthFrame.wf (e : EthFrame) : Bool := below 4 e.sub && fits 48 e.dst && e.vid.all (fits 12) && e.content.wf

/-- R128: a segmented send. -/
def SegSend.wf (t : SegSend) : Bool := fits 32 t.size && fits 32 t.payload.length && fits 16 t.template.length

/-- R396: the header of a PTP message. -/
def PtpHdr.wf (h : PtpHdr) : Bool :=
  fits 8 h.domain && fits 80 h.source && fits 16 h.seq && fitsInt 64 h.correction && fitsInt 8 h.interval

/-- R397: an Announce. -/
def AnnounceMsg.wf (a : AnnounceMsg) : Bool :=
  fits 8 a.priority1 && fits 8 a.cls && fits 8 a.accuracy && fits 16 a.variance && fits 8 a.priority2 && fits 64 a.gm &&
  fits 16 a.steps && fits 16 a.utcOffset && a.metadata.all (fun bs => fits 16 bs.length)

/-- R117: a measured format. -/
def Measured.wf (m : Measured) : Bool :=
  fits 16 m.w && fits 16 m.h && below 3 m.scan && below 4 m.sampling && below 4 m.depth && below 2 m.range && below 8 m.colour &&
  fits 32 m.mhz && below 4 m.link && m.tf.all (below 8)

/-- R95, R97: a packet of a flow. -/
def FlowPacket.wf (p : FlowPacket) : Bool :=
  fits 32 p.src && fits 32 p.dst && fits 16 p.udpPort && fits 2 p.version && fits 7 p.payloadType && fits 32 p.timestamp &&
  p.rows.all (fun (r : RowSegment) => fits 1 r.field && fits 15 r.line && fits 15 r.x && r.codes.all (fits 12))

/-- R463: a request within one burst. -/
def DramReq.wf (r : DramReq) : Bool :=
  fits 8 r.requester && fits 36 r.addr && decide (r.addr % 64 + (if r.write then r.data.length else r.bytes) ≤ 64) && fits 8 r.bad1 &&
  fits 8 r.bad2

/-- R358: a pin that reads back wrong. -/
def VisorMiss.wf (v : VisorMiss) : Bool := below 64 v.port && fits 8 v.pin

/-- R426: the header of a datagram. -/
def Dgram.wf (d : Dgram) : Bool := below 2 d.rank && below 64 d.domain && fits 32 d.epoch

/-- R443: VFCHECK. -/
def VfBody.wf (b : VfBody) : Bool :=
  fits 64 b.flip && below 8 b.view && fits 8 b.chains && fits 32 b.alive && b.rcheck.length == 4 && b.chainCheck.length == 8 &&
  b.srcs.length == 16 && b.srcs.all (fun x => fits 32 x.1 && fits 32 x.2)

/-- R507: a response. -/
def Reply.wf (r : Reply) : Bool := fits 24 r.body.length

/-- A command whose operands fit. -/
def Instr.wf : Instr → Bool
  | .identify h => h.wf
  | .statusCmd h => h.wf
  | .regRead h addr count => h.wf && fits 32 addr && fits 16 count
  | .logRead h log first count => h.wf && fits 8 log && fits 32 first && fits 16 count
  | .querySeq h series seq => h.wf && fits 8 series && fits 32 seq
  | .countersRead h port => h.wf && fits 8 port
  | .countersClear h port => h.wf && fits 8 port
  | .ptpMetadata h dom => h.wf && fits 8 dom
  | .beginTxn h => h.wf
  | .writeCmd h c => h.wf && c.wf
  | .commitCmd h => h.wf
  | .rollback h => h.wf
  | .commitAll h => h.wf
  | .memWrite h space addr _ => h.wf && fits 8 space && fits 64 addr
  | .memRead h space addr bytes => h.wf && fits 8 space && fits 64 addr && fits 32 bytes
  | .fenceSignal h fence _ => h.wf && fits 8 fence
  | .hatbandCmd h t kind id portMask => h.wf && t.wf && fits 8 kind && fits 16 id && fits 64 portMask
  | .snapshotCmd h t id content => h.wf && t.wf && fits 32 id && fits 32 content
  | .barrierCmd h id => h.wf && fits 32 id
  | .wallReset h t level id => h.wf && t.wf && fits 8 level && fits 32 id
  | .restep h => h.wf
  | .swapCmd h => h.wf
  | .snapshotRead h id part offset bytes => h.wf && fits 32 id && fits 8 part && fits 32 offset && fits 32 bytes
  | .stageBegin h total => h.wf && fits 32 total
  | .stageWrite h offset _ => h.wf && fits 32 offset
  | .stageEnd h => h.wf
  | .activate h t id => h.wf && t.wf && fits 32 id
  | .saveSettings h => h.wf
  | .resetCmd h kind flags => h.wf && fits 8 kind && fits 8 flags
  | .commission h c => h.wf && c.wf
  | .tileCmd h target chainMask tmoMs _ => h.wf && fits 16 target && fits 8 chainMask && fits 16 tmoMs
  | .factoryCommand h op _ => h.wf && fits 4 op
  | .pktWrite _ => true
  | .statRead => true
  | .rspRead bytes => fits 32 bytes
  | .hspiBadInstruction => true
  | .udpSegment port ip udpPort _ => below 2 port && fits 32 ip && fits 16 udpPort
  | .udpAssemblyTimeout port ip xid => below 2 port && fits 32 ip && fits 32 xid
  | .commandDequeue _ => true
  | .standbyForwardTimeout _ seq => fits 32 seq
  | .forwardResponse _ seq r => fits 32 seq && r.wf
  | .tileCmdTimeout _ => true
  | .registerWrite _ addr _ => fits 32 addr
  | .ptpCapture => true
  | .txStartWrite port value => below 2 port && fits 5 value
  | .ueLogClear => true
  | .blockResetRequest mask => fits 8 mask
  | .shadowEnClear => true
  | .prbsEnWrite lane _ => below 32 lane
  | .forceOutWrite lane _ => below 32 lane
  | .chkStart unit => below 8 unit
  | .chkData unit _ => below 8 unit
  | .chkFinish unit alive => below 8 unit && fits 32 alive
  | .chkResync unit => below 8 unit
  | .mapWindowWrite h addr _ => h.wf && fits 32 addr
  | .liningWindowWrite h addr _ => h.wf && fits 32 addr
  | .guardImageWrite h addr _ => h.wf && fits 32 addr
  | .faultMapWrite h addr _ => h.wf && fits 32 addr
  | .txnIdleTimeout _ => true
  | .replTimeout => true
  | .fenceTimeout view slot => below 8 view && below 64 slot
  | .cuffOpen => true
  | .flip misses => misses.all VisorMiss.wf
  | .flipSend => true
  | .flipRepeat => true
  | .scanOutBurst stalls => fits 32 stalls
  | .buildDone => true
  | .uploadDeadline => true
  | .sdiFrameStart input m => below 8 input && m.wf
  | .sdiLine input field line _ codes => below 8 input && below 2 field && fits 16 line && codes.all (fits 64)
  | .sdiLock input rate => below 8 input && fits 8 rate
  | .sdiLockLoss input => below 8 input
  | .st2110Packet port p => below 2 port && p.wf
  | .frameComplete src m => below 16 src && m.wf
  | .sourceLossTimeout src => below 16 src
  | .holdExpiry src => below 16 src
  | .ethFrameRx port e => below 2 port && e.wf
  | .txFrameStart port stored => below 2 port && fits 16 stored
  | .txUnderrun port => below 2 port
  | .segmentedSend port t => below 2 port && t.wf
  | .linkDown port sub => below 2 port && below 4 sub
  | .linkUp port sub => below 2 port && below 4 sub
  | .fwEventService port => below 2 port
  | .monitorPacket port flow => below 2 port && below 2 flow
  | .hello m b => m.wf && b.wf
  | .helloAck m version => m.wf && fits 8 version
  | .helloSend port => below 8 port
  | .helloTimeout port => below 8 port
  | .helloFailExpiry port => below 8 port
  | .segmentSilence port => below 8 port
  | .enumerate m domain chain value step => m.wf && fits 8 domain && fits 8 chain && fits 8 value && fits 8 step
  | .tileInfo m i => m.wf && i.wf
  | .flipMessage m f => m.wf && f.wf
  | .burstUnit port _ b => below 8 port && b.wf
  | .frameEnd m f => m.wf && f.wf
  | .moduleTable m gen total first entries => m.wf && fits 16 gen && fits 16 total && fits 16 first && entries.all ModuleEntry.wf
  | .mapGen m gen dueFlip => m.wf && fits 16 gen && fits 64 dueFlip
  | .setMsg m b => m.wf && b.wf
  | .cmdMsg m _ => m.wf
  | .cmdPartialTimeout src => fits 16 src
  | .rspMsg m _ => m.wf
  | .ackMsg m seq status => m.wf && fits 32 seq && fits 16 status
  | .messageResend port seq => below 8 port && fits 32 seq
  | .hatbandMessage m t kind id portMask => m.wf && t.wf && fits 8 kind && fits 16 id && fits 64 portMask
  | .timeInfo m tseq t1 t4 _ => m.wf && fits 16 tseq && fits 96 t1 && fits 96 t4
  | .timeBlock port tseq dir stamp => below 8 port && fits 16 tseq && below 2 dir && fits 96 stamp
  | .timeRequest port => below 8 port
  | .barrierMessage m id => m.wf && fits 32 id
  | .barrierDone m id addr => m.wf && fits 32 id && fits 16 addr
  | .snapshotMessage m t id content => m.wf && t.wf && fits 32 id && fits 32 content
  | .snapshotDone m id addr status => m.wf && fits 32 id && fits 16 addr && fits 16 status
  | .resetMessage m t level cause id => m.wf && t.wf && fits 8 level && fits 8 cause && fits 32 id
  | .heartbeat m b => m.wf && b.wf
  | .heartbeatSend => true
  | .tileStatus m b => m.wf && b.wf
  | .tileStatusSend => true
  | .sessionTimeout session => below 512 session
  | .faultMsg m f => m.wf && f.wf
  | .faultAck m record => m.wf && fits 16 record
  | .faultResend record => fits 16 record
  | .ownUnitSend port => below 2 port
  | .abortBlock port _ => below 8 port
  | .blockError port _ => below 8 port
  | .knuckle port txSet rxOk wmin skew bip => below 8 port && fits 4 txSet && fits 4 rxOk && fits 3 wmin && skew.all (fits 64) && bip.all (fits 64)
  | .laneLost lane _ _ _ => below 32 lane
  | .laneTrained lane skew => below 32 lane && fits 16 skew
  | .txSetForm port => below 8 port
  | .adaptFreeze lane transitions _ => below 32 lane && fits 32 transitions
  | .recalTrigger _ => true
  | .recalApply lane offset => below 32 lane && fitsInt 64 offset
  | .eyeScan lane w h => below 32 lane && fits 8 w && fits 8 h
  | .liningStageCheckDone => true
  | .liningCopyDone => true
  | .mapCopyDone => true
  | .visitStart misses => misses.all VisorMiss.wf
  | .returnFrame port header words crc => below 64 port && fits 32 header && words.all (fits 64) && fits 32 crc
  | .returnTimeout port => below 64 port
  | .absentPoll ctx => below 4096 ctx
  | .bankSupplyChange bank sensed => below 16 bank && fits 32 sensed
  | .roundStart => true
  | .probePeriodEnd => true
  | .sync port h origin => below 2 port && h.wf && origin.wf
  | .followUp port h origin => below 2 port && h.wf && origin.wf
  | .delayReqSend dom => below 2 dom
  | .delayResp port h receive _ => below 2 port && h.wf && receive.wf
  | .announce port h a => below 2 port && h.wf && a.wf
  | .announceTimeout dom => below 2 dom
  | .revertTimer => true
  | .ref1ppsEdge => true
  | .refLoss => true
  | .chainTimeLoss => true
  | .scheduledActionDue => true
  | .evtPulseStart out => below 8 out
  | .evtPulseEnd out => below 8 out
  | .heartbeatDatagram d b => d.wf && b.wf
  | .pathSilent path => below 2 path
  | .partnerLost => true
  | .preferredClaim => true
  | .repl d pos _ => d.wf && fits 64 pos
  | .replAck d pos _ => d.wf && fits 64 pos
  | .replResend => true
  | .snapData d slot offset _ => d.wf && below 2 slot && fits 64 offset
  | .snapAck d slot offset => d.wf && below 2 slot && fits 64 offset
  | .vfcheck d b => d.wf && b.wf
  | .swapDatagram d op n reason => d.wf && fits 8 op && fits 64 n && fits 8 reason
  | .swapCommitTimeout => true
  | .swapPeriod => true
  | .restoreDone => true
  | .dramRequest rs => rs.all DramReq.wf
  | .eccWriteBack channel => below 16 channel
  | .refreshDue channel _ => below 16 channel
  | .neighbourRefresh channel => below 16 channel
  | .mr4Read channel rate => below 16 channel && fits 3 rate
  | .driftMeasure channel drift step => below 16 channel && fitsInt 64 drift && fits 32 step
  | .retrain channel => below 16 channel
  | .retrainLate channel => below 16 channel
  | .selfRefreshEntry channel => below 16 channel
  | .dramTrainingDone failed results => fits 16 failed && results.all (fun x => fits 16 x.1 && fits 16 x.2.1 && fits 16 x.2.2)
  | .powerOn => true
  | .resetN lowNs role _ => fits 64 lowNs && below 2 role
  | .supplyFault goodNs => fits 64 goodNs
  | .watchdogExpiry proc => below 4 proc
  | .testMode _ => true
  | .resetRelease role _ => below 2 role
  | .fusePassDone _ => true
  | .startClocksStable bad => fits 5 bad
  | .slotSelection => true
  | .processorReadyTimeout => true
  | .modeEntry => true
  | .startProven => true
  | .warmRestartDone => true
  | .blockRelease block => below 8 block
  | .pllUnlock pll => below 5 pll
  | .pllRelock pll => below 5 pll
  | .refLost ref => below 4 ref
  | .dieConversion temps => temps.all (fitsInt 64)
  | .throttleStep => true
  | .remoteTempConversion input v1 v2 ohms => below 16 input && fits 32 v1 && fits 32 v2 && fits 32 ohms
  | .supvBlock input codes => below 16 input && codes.all (fits 64)
  | .acFail => true
  | .acDark => true
  | .acClear => true
  | .validExchangeLapse dom => below 2 dom
  | .snapSend => true
  | .retrainDone channel delays eyeW eyeH skew => below 16 channel && delays.all (fitsInt 64) && fits 8 eyeW && fits 8 eyeH && fits 16 skew
  | .referenceReturn ref => below 4 ref

end Sys2Proof
end

