-- ==== Sys2Proof/Tests/Slice0.lean ====
section
/-! SUPPORT. Tests: the checks of WellFormed, one step of commands on small states, and states that meet the hypotheses of the statements. -/

open Sys2Proof Sys2Proof.Machine

/-! Well-formed terms, and for each check a term that it refuses -/

/-- A well-formed record. -/
def goodHdr : Hdr := { auth := .general, seq := 0, crc := 0, retry := false, via := .hspi }

/-- A well-formed record. -/
def goodTimeField : TimeField := { sec := 0, ns := 0, frac := 0 }

/-- A well-formed record. -/
def goodChange : Change := { index := 0, addr := 0, target := 0, scope := 0, words := [] }

/-- A well-formed record. -/
def goodCommission : Commission := { keyGen := List.replicate 32 0, keyGnt := List.replicate 32 0, tagLen := 0, transports := 0, allowN := 0, commGen := 0, allow := List.replicate 8 ⟨0, 0⟩ }

/-- A well-formed record. -/
def goodMsgHdr : MsgHdr := { port := 0, dst := 0, src := 0, seq := 0, retry := false, ackReq := false, more := false, claimTag := 0, checkOk := false }

/-- A well-formed record. -/
def goodHello : Hello := { part := 0, stepping := 0, kind := 0, versions := 0, port := 0, rate := 0, lanes := 0, mode := 0, addr := 0, maxLen := 0, fwVer := 0, caps := 0, epoch := 0, rank := 0 }

/-- A well-formed record. -/
def goodTileInfo : TileInfo := { addr := 0, w := 0, h := 0, lamps := 0, viewsHeld := 0, fwVer := 0, caps := 0, mode := 0, vmax := 0, drivers := 0, restarts := 0 }

/-- A well-formed record. -/
def goodFlipMsg : FlipMsg := { num := 0, time := goodTimeField, epoch := 0, rank := 0, view := 0, sent := false, guardBits := 0, alive := 0, gen := 0, rcheck := List.replicate 4 0 }

/-- A well-formed record. -/
def goodFrameEnd : FrameEnd := { flipLo := 0, view := 0, bursts := 0, pixels := 0, frameCheck := 0, gntMask := 0, gntCheck := List.replicate 4 0 }

/-- A well-formed record. -/
def goodModuleEntry : ModuleEntry := { module := 0, orient := 0, u0 := 0, v0 := 0, mw := 0, mh := 0, gain := 0, top := 0, bottom := 0, left := 0, right := 0 }

/-- A well-formed record. -/
def goodSetMsg : SetMsg := { auth := .general, immediate := false, index := 0, txnSeq := 0, dueFlip := 0, addr := 0, first := 0, words := [] }

/-- A well-formed record. -/
def goodHeartbeat : Heartbeat := { epoch := 0, rank := 0, mode := 0, domain := 0, claim := false, hbSeq := 0, sec := 0, ns := 0, genSeq := 0, gntSeq := 0, chain := 0, timeLocked := false, swapWarm := false, restarts := 0 }

/-- A well-formed record. -/
def goodTileStatus : TileStatus := { addr := 0, mode := 0, timeLocked := false, lit := false, throttled := false, faultPending := false, lastFlipLo := 0, lastView := 0, temp := 0, faultsPending := 0, claimEpoch := 0, offsetPs := 0, restarts := 0, disc := 0 }

/-- A well-formed record. -/
def goodFaultRec : FaultRec := { addr := 0, record := 0, cls := 0, code := 0, count := 0, sec := 0, ns := 0, detail := List.replicate 14 0 }

/-- A well-formed record. -/
def goodBurst : Burst := { view := 0, count := 0, row := 0, module := 0, tile := 0, flipLo := 0, gen := 0, claimTag := 0, spans := none, pixels := [] }

/-- A well-formed record. -/
def goodSpan : Span := { valid := false, start := 0, len := 0 }

/-- A well-formed record. -/
def goodEthFrame : EthFrame := { sub := 0, len := 0, codeOk := false, corrected := false, fcsOk := false, dst := 0, vid := none, content := .igmp, room := false }

/-- A well-formed record. -/
def goodSegSend : SegSend := { template := [], tagged := false, payload := [], size := 0, counter := none }

/-- A well-formed record. -/
def goodPtpHdr : PtpHdr := { domain := 0, source := 0, seq := 0, correction := 0, interval := 0, twoStep := false }

/-- A well-formed record. -/
def goodAnnounceMsg : AnnounceMsg := { priority1 := 0, cls := 0, accuracy := 0, variance := 0, priority2 := 0, gm := 0, steps := 0, utcOffset := 0, utcValid := false, leap61 := false, leap59 := false, metadata := none }

/-- A well-formed record. -/
def goodMeasured : Measured := { w := 0, h := 0, scan := 0, sampling := 0, depth := 0, range := 0, colour := 0, mhz := 0, link := 0, pid := false, tf := none }

/-- A well-formed record. -/
def goodFlowPacket : FlowPacket := { src := 0, dst := 0, udpPort := 0, version := 0, payloadType := 0, timestamp := 0, rows := [] }

/-- A well-formed record. -/
def goodRowSegment : RowSegment := { field := 0, line := 0, x := 0, codes := [] }

/-- A well-formed record. -/
def goodDramReq : DramReq := { requester := 0, write := false, addr := 0, data := [], bytes := 0, bad1 := 0, bad2 := 0 }

/-- A well-formed record. -/
def goodVisorMiss : VisorMiss := { port := 0, pin := 0, cycle := 0, word := 0, mask := 0 }

/-- A well-formed record. -/
def goodDgram : Dgram := { rank := 0, domain := 0, epoch := 0, good := false }

/-- A well-formed record. -/
def goodVfBody : VfBody := { flip := 0, view := 0, chains := 0, alive := 0, rcheck := List.replicate 4 0, chainCheck := List.replicate 8 0, srcs := List.replicate 16 (0, 0) }

/-- A well-formed record. -/
def goodReply : Reply := { status := .ok, flags := RFlags.none, body := [] }

theorem test_wf_Change_words (l : List Word) (h : l.length = 2 ^ 16) :
    ({ goodChange with words := l } : Change).wf = false := by
  simp [Change.wf, goodChange, fits, h]

theorem test_wf_SetMsg_words (l : List Word) (h : l.length = 1019) :
    ({ goodSetMsg with words := l } : SetMsg).wf = false := by
  simp [SetMsg.wf, goodSetMsg, fits, h]

theorem test_wf_SegSend_payload (l : List Byte) (h : l.length = 2 ^ 32) :
    ({ goodSegSend with payload := l } : SegSend).wf = false := by
  simp [SegSend.wf, goodSegSend, fits, h]

theorem test_wf_SegSend_template (l : List Byte) (h : l.length = 2 ^ 16) :
    ({ goodSegSend with template := l } : SegSend).wf = false := by
  simp [SegSend.wf, goodSegSend, fits, h]

theorem test_wf_AnnounceMsg_metadata (l : List Byte) (h : l.length = 2 ^ 16) :
    ({ goodAnnounceMsg with metadata := some l } : AnnounceMsg).wf = false := by
  simp [AnnounceMsg.wf, goodAnnounceMsg, fits, h]

theorem test_wf_Reply_body (l : List Byte) (h : l.length = 2 ^ 24) :
    ({ goodReply with body := l } : Reply).wf = false := by
  simp [Reply.wf, fits, h]

theorem test_wf_forwardResponse_body (auth : Auth) (seq : Nat) (l : List Byte) (h : l.length = 2 ^ 24) :
    (.forwardResponse auth seq { goodReply with body := l } : Instr).wf = false := by
  simp [Instr.wf, Reply.wf, fits, h]

theorem test_wf_Hdr : goodHdr.wf = true ∧
    (({ goodHdr with seq := 2 ^ 32 } : Hdr).wf = false ∧
     ({ goodHdr with via := .udp 2 0 0 0 } : Hdr).wf = false ∧
     ({ goodHdr with via := .udp 0 (2 ^ 32) 0 0 } : Hdr).wf = false ∧
     ({ goodHdr with via := .udp 0 0 (2 ^ 16) 0 } : Hdr).wf = false ∧
     ({ goodHdr with via := .udp 0 0 0 (2 ^ 32) } : Hdr).wf = false ∧
     ({ goodHdr with via := .chain (2 ^ 16) 0 } : Hdr).wf = false ∧
     ({ goodHdr with via := .chain 0 (2 ^ 32) } : Hdr).wf = false) := by decide

theorem test_wf_TimeField : goodTimeField.wf = true ∧
    (({ goodTimeField with sec := 2 ^ 48 } : TimeField).wf = false ∧
     ({ goodTimeField with ns := 2 ^ 32 } : TimeField).wf = false ∧
     ({ goodTimeField with frac := 2 ^ 16 } : TimeField).wf = false) := by decide

theorem test_wf_Change : goodChange.wf = true ∧
    (({ goodChange with index := 2 ^ 16 } : Change).wf = false ∧
     ({ goodChange with addr := 2 ^ 32 } : Change).wf = false ∧
     ({ goodChange with target := 2 ^ 16 } : Change).wf = false ∧
     ({ goodChange with scope := 2 ^ 8 } : Change).wf = false) := by decide

theorem test_wf_Commission : goodCommission.wf = true ∧
    (({ goodCommission with keyGen := [] } : Commission).wf = false ∧
     ({ goodCommission with keyGnt := [] } : Commission).wf = false ∧
     ({ goodCommission with tagLen := 2 ^ 8 } : Commission).wf = false ∧
     ({ goodCommission with transports := 2 ^ 8 } : Commission).wf = false ∧
     ({ goodCommission with allowN := 2 ^ 8 } : Commission).wf = false ∧
     ({ goodCommission with commGen := 2 ^ 32 } : Commission).wf = false ∧
     ({ goodCommission with allow := [] } : Commission).wf = false ∧
     ({ goodCommission with allow := ⟨2 ^ 32, 0⟩ :: List.replicate 7 ⟨0, 0⟩ } : Commission).wf = false ∧
     ({ goodCommission with allow := ⟨0, 2 ^ 8⟩ :: List.replicate 7 ⟨0, 0⟩ } : Commission).wf = false) := by decide

theorem test_wf_MsgHdr : goodMsgHdr.wf = true ∧
    (({ goodMsgHdr with port := 8 } : MsgHdr).wf = false ∧
     ({ goodMsgHdr with dst := 2 ^ 16 } : MsgHdr).wf = false ∧
     ({ goodMsgHdr with src := 2 ^ 16 } : MsgHdr).wf = false ∧
     ({ goodMsgHdr with seq := 2 ^ 32 } : MsgHdr).wf = false ∧
     ({ goodMsgHdr with claimTag := 2 ^ 16 } : MsgHdr).wf = false) := by decide

theorem test_wf_Hello : goodHello.wf = true ∧
    (({ goodHello with part := 2 ^ 16 } : Hello).wf = false ∧
     ({ goodHello with stepping := 2 ^ 8 } : Hello).wf = false ∧
     ({ goodHello with kind := 2 ^ 8 } : Hello).wf = false ∧
     ({ goodHello with versions := 2 ^ 8 } : Hello).wf = false ∧
     ({ goodHello with port := 2 ^ 8 } : Hello).wf = false ∧
     ({ goodHello with rate := 2 ^ 8 } : Hello).wf = false ∧
     ({ goodHello with lanes := 2 ^ 8 } : Hello).wf = false ∧
     ({ goodHello with mode := 2 ^ 8 } : Hello).wf = false ∧
     ({ goodHello with addr := 2 ^ 16 } : Hello).wf = false ∧
     ({ goodHello with maxLen := 2 ^ 16 } : Hello).wf = false ∧
     ({ goodHello with fwVer := 2 ^ 32 } : Hello).wf = false ∧
     ({ goodHello with caps := 2 ^ 32 } : Hello).wf = false ∧
     ({ goodHello with epoch := 2 ^ 32 } : Hello).wf = false ∧
     ({ goodHello with rank := 2 ^ 8 } : Hello).wf = false) := by decide

theorem test_wf_TileInfo : goodTileInfo.wf = true ∧
    (({ goodTileInfo with addr := 2 ^ 16 } : TileInfo).wf = false ∧
     ({ goodTileInfo with w := 2 ^ 16 } : TileInfo).wf = false ∧
     ({ goodTileInfo with h := 2 ^ 16 } : TileInfo).wf = false ∧
     ({ goodTileInfo with lamps := 2 ^ 8 } : TileInfo).wf = false ∧
     ({ goodTileInfo with viewsHeld := 2 ^ 8 } : TileInfo).wf = false ∧
     ({ goodTileInfo with fwVer := 2 ^ 32 } : TileInfo).wf = false ∧
     ({ goodTileInfo with caps := 2 ^ 32 } : TileInfo).wf = false ∧
     ({ goodTileInfo with mode := 2 ^ 8 } : TileInfo).wf = false ∧
     ({ goodTileInfo with vmax := 2 ^ 8 } : TileInfo).wf = false ∧
     ({ goodTileInfo with drivers := 2 ^ 16 } : TileInfo).wf = false ∧
     ({ goodTileInfo with restarts := 2 ^ 16 } : TileInfo).wf = false) := by decide

theorem test_wf_FlipMsg : goodFlipMsg.wf = true ∧
    (({ goodFlipMsg with num := 2 ^ 64 } : FlipMsg).wf = false ∧
     ({ goodFlipMsg with time := { goodTimeField with ns := 2 ^ 32 } } : FlipMsg).wf = false ∧
     ({ goodFlipMsg with epoch := 2 ^ 32 } : FlipMsg).wf = false ∧
     ({ goodFlipMsg with rank := 2 ^ 8 } : FlipMsg).wf = false ∧
     ({ goodFlipMsg with view := 8 } : FlipMsg).wf = false ∧
     ({ goodFlipMsg with guardBits := 2 ^ 4 } : FlipMsg).wf = false ∧
     ({ goodFlipMsg with alive := 2 ^ 32 } : FlipMsg).wf = false ∧
     ({ goodFlipMsg with gen := 2 ^ 16 } : FlipMsg).wf = false ∧
     ({ goodFlipMsg with rcheck := [] } : FlipMsg).wf = false) := by decide

theorem test_wf_FrameEnd : goodFrameEnd.wf = true ∧
    (({ goodFrameEnd with flipLo := 2 ^ 32 } : FrameEnd).wf = false ∧
     ({ goodFrameEnd with view := 8 } : FrameEnd).wf = false ∧
     ({ goodFrameEnd with bursts := 2 ^ 32 } : FrameEnd).wf = false ∧
     ({ goodFrameEnd with pixels := 2 ^ 32 } : FrameEnd).wf = false ∧
     ({ goodFrameEnd with gntMask := 2 ^ 4 } : FrameEnd).wf = false ∧
     ({ goodFrameEnd with gntCheck := [] } : FrameEnd).wf = false) := by decide

theorem test_wf_ModuleEntry : goodModuleEntry.wf = true ∧
    (({ goodModuleEntry with module := 2 ^ 8 } : ModuleEntry).wf = false ∧
     ({ goodModuleEntry with orient := 2 ^ 3 } : ModuleEntry).wf = false ∧
     ({ goodModuleEntry with u0 := 2 ^ 16 } : ModuleEntry).wf = false ∧
     ({ goodModuleEntry with v0 := 2 ^ 16 } : ModuleEntry).wf = false ∧
     ({ goodModuleEntry with mw := 2 ^ 16 } : ModuleEntry).wf = false ∧
     ({ goodModuleEntry with mh := 2 ^ 16 } : ModuleEntry).wf = false ∧
     ({ goodModuleEntry with gain := 2 ^ 16 } : ModuleEntry).wf = false ∧
     ({ goodModuleEntry with top := 2 ^ 8 } : ModuleEntry).wf = false ∧
     ({ goodModuleEntry with bottom := 2 ^ 8 } : ModuleEntry).wf = false ∧
     ({ goodModuleEntry with left := 2 ^ 8 } : ModuleEntry).wf = false ∧
     ({ goodModuleEntry with right := 2 ^ 8 } : ModuleEntry).wf = false) := by decide

theorem test_wf_SetMsg : goodSetMsg.wf = true ∧
    (({ goodSetMsg with index := 2 ^ 16 } : SetMsg).wf = false ∧
     ({ goodSetMsg with txnSeq := 2 ^ 32 } : SetMsg).wf = false ∧
     ({ goodSetMsg with dueFlip := 2 ^ 64 } : SetMsg).wf = false ∧
     ({ goodSetMsg with addr := 2 ^ 32 } : SetMsg).wf = false ∧
     ({ goodSetMsg with first := 2 ^ 16 } : SetMsg).wf = false) := by decide

theorem test_wf_Heartbeat : goodHeartbeat.wf = true ∧
    (({ goodHeartbeat with epoch := 2 ^ 32 } : Heartbeat).wf = false ∧
     ({ goodHeartbeat with rank := 2 } : Heartbeat).wf = false ∧
     ({ goodHeartbeat with mode := 2 ^ 8 } : Heartbeat).wf = false ∧
     ({ goodHeartbeat with domain := 64 } : Heartbeat).wf = false ∧
     ({ goodHeartbeat with hbSeq := 2 ^ 32 } : Heartbeat).wf = false ∧
     ({ goodHeartbeat with sec := 2 ^ 48 } : Heartbeat).wf = false ∧
     ({ goodHeartbeat with ns := 2 ^ 32 } : Heartbeat).wf = false ∧
     ({ goodHeartbeat with genSeq := 2 ^ 32 } : Heartbeat).wf = false ∧
     ({ goodHeartbeat with gntSeq := 2 ^ 32 } : Heartbeat).wf = false ∧
     ({ goodHeartbeat with chain := 2 ^ 8 } : Heartbeat).wf = false ∧
     ({ goodHeartbeat with restarts := 2 ^ 16 } : Heartbeat).wf = false) := by decide

theorem test_wf_TileStatus : goodTileStatus.wf = true ∧
    (({ goodTileStatus with addr := 2 ^ 16 } : TileStatus).wf = false ∧
     ({ goodTileStatus with mode := 2 ^ 8 } : TileStatus).wf = false ∧
     ({ goodTileStatus with lastFlipLo := 2 ^ 32 } : TileStatus).wf = false ∧
     ({ goodTileStatus with lastView := 2 ^ 8 } : TileStatus).wf = false ∧
     ({ goodTileStatus with temp := 2 ^ 16 } : TileStatus).wf = false ∧
     ({ goodTileStatus with faultsPending := 2 ^ 16 } : TileStatus).wf = false ∧
     ({ goodTileStatus with claimEpoch := 2 ^ 32 } : TileStatus).wf = false ∧
     ({ goodTileStatus with offsetPs := 2 ^ 31 } : TileStatus).wf = false ∧
     ({ goodTileStatus with restarts := 2 ^ 16 } : TileStatus).wf = false ∧
     ({ goodTileStatus with disc := 2 ^ 16 } : TileStatus).wf = false) := by decide

theorem test_wf_FaultRec : goodFaultRec.wf = true ∧
    (({ goodFaultRec with addr := 2 ^ 16 } : FaultRec).wf = false ∧
     ({ goodFaultRec with record := 2 ^ 16 } : FaultRec).wf = false ∧
     ({ goodFaultRec with cls := 2 ^ 8 } : FaultRec).wf = false ∧
     ({ goodFaultRec with code := 2 ^ 8 } : FaultRec).wf = false ∧
     ({ goodFaultRec with count := 2 ^ 16 } : FaultRec).wf = false ∧
     ({ goodFaultRec with sec := 2 ^ 48 } : FaultRec).wf = false ∧
     ({ goodFaultRec with ns := 2 ^ 32 } : FaultRec).wf = false ∧
     ({ goodFaultRec with detail := [] } : FaultRec).wf = false) := by decide

theorem test_wf_Burst : goodBurst.wf = true ∧
    (({ goodBurst with view := 8 } : Burst).wf = false ∧
     ({ goodBurst with count := 2 ^ 16 } : Burst).wf = false ∧
     ({ goodBurst with row := 2 ^ 16 } : Burst).wf = false ∧
     ({ goodBurst with module := 2 ^ 8 } : Burst).wf = false ∧
     ({ goodBurst with tile := 2 ^ 16 } : Burst).wf = false ∧
     ({ goodBurst with flipLo := 2 ^ 16 } : Burst).wf = false ∧
     ({ goodBurst with gen := 2 ^ 16 } : Burst).wf = false ∧
     ({ goodBurst with claimTag := 2 ^ 16 } : Burst).wf = false ∧
     ({ goodBurst with spans := some [] } : Burst).wf = false ∧
     ({ goodBurst with spans := some (List.replicate 4 { goodSpan with start := 2 ^ 16 }) } : Burst).wf = false ∧
     ({ goodBurst with spans := some (List.replicate 4 { goodSpan with len := 2 ^ 16 }) } : Burst).wf = false ∧
     ({ goodBurst with count := 1 } : Burst).wf = false ∧
     ({ goodBurst with count := 1, pixels := [2 ^ 36] } : Burst).wf = false) := by decide

theorem test_wf_EthFrame : goodEthFrame.wf = true ∧
    (({ goodEthFrame with sub := 4 } : EthFrame).wf = false ∧
     ({ goodEthFrame with dst := 2 ^ 48 } : EthFrame).wf = false ∧
     ({ goodEthFrame with vid := some (2 ^ 12) } : EthFrame).wf = false ∧
     ({ goodEthFrame with content := .arp (2 ^ 16) 0 0 0 } : EthFrame).wf = false ∧
     ({ goodEthFrame with content := .arp 0 (2 ^ 48) 0 0 } : EthFrame).wf = false ∧
     ({ goodEthFrame with content := .arp 0 0 (2 ^ 32) 0 } : EthFrame).wf = false ∧
     ({ goodEthFrame with content := .arp 0 0 0 (2 ^ 32) } : EthFrame).wf = false ∧
     ({ goodEthFrame with content := .icmp (2 ^ 48) 0 0 [] } : EthFrame).wf = false ∧
     ({ goodEthFrame with content := .icmp 0 (2 ^ 32) 0 [] } : EthFrame).wf = false ∧
     ({ goodEthFrame with content := .icmp 0 0 (2 ^ 32) [] } : EthFrame).wf = false ∧
     ({ goodEthFrame with content := .udp (2 ^ 32) 0 0 0 [] } : EthFrame).wf = false ∧
     ({ goodEthFrame with content := .udp 0 (2 ^ 32) 0 0 [] } : EthFrame).wf = false ∧
     ({ goodEthFrame with content := .udp 0 0 (2 ^ 16) 0 [] } : EthFrame).wf = false ∧
     ({ goodEthFrame with content := .udp 0 0 0 (2 ^ 16) [] } : EthFrame).wf = false) := by decide

theorem test_wf_SegSend : goodSegSend.wf = true ∧
    (({ goodSegSend with size := 2 ^ 32 } : SegSend).wf = false) := by decide

theorem test_wf_PtpHdr : goodPtpHdr.wf = true ∧
    (({ goodPtpHdr with domain := 2 ^ 8 } : PtpHdr).wf = false ∧
     ({ goodPtpHdr with source := 2 ^ 80 } : PtpHdr).wf = false ∧
     ({ goodPtpHdr with seq := 2 ^ 16 } : PtpHdr).wf = false ∧
     ({ goodPtpHdr with correction := 2 ^ 63 } : PtpHdr).wf = false ∧
     ({ goodPtpHdr with interval := 2 ^ 7 } : PtpHdr).wf = false) := by decide

theorem test_wf_AnnounceMsg : goodAnnounceMsg.wf = true ∧
    (({ goodAnnounceMsg with priority1 := 2 ^ 8 } : AnnounceMsg).wf = false ∧
     ({ goodAnnounceMsg with cls := 2 ^ 8 } : AnnounceMsg).wf = false ∧
     ({ goodAnnounceMsg with accuracy := 2 ^ 8 } : AnnounceMsg).wf = false ∧
     ({ goodAnnounceMsg with variance := 2 ^ 16 } : AnnounceMsg).wf = false ∧
     ({ goodAnnounceMsg with priority2 := 2 ^ 8 } : AnnounceMsg).wf = false ∧
     ({ goodAnnounceMsg with gm := 2 ^ 64 } : AnnounceMsg).wf = false ∧
     ({ goodAnnounceMsg with steps := 2 ^ 16 } : AnnounceMsg).wf = false ∧
     ({ goodAnnounceMsg with utcOffset := 2 ^ 16 } : AnnounceMsg).wf = false) := by decide

theorem test_wf_Measured : goodMeasured.wf = true ∧
    (({ goodMeasured with w := 2 ^ 16 } : Measured).wf = false ∧
     ({ goodMeasured with h := 2 ^ 16 } : Measured).wf = false ∧
     ({ goodMeasured with scan := 3 } : Measured).wf = false ∧
     ({ goodMeasured with sampling := 4 } : Measured).wf = false ∧
     ({ goodMeasured with depth := 4 } : Measured).wf = false ∧
     ({ goodMeasured with range := 2 } : Measured).wf = false ∧
     ({ goodMeasured with colour := 8 } : Measured).wf = false ∧
     ({ goodMeasured with mhz := 2 ^ 32 } : Measured).wf = false ∧
     ({ goodMeasured with link := 4 } : Measured).wf = false ∧
     ({ goodMeasured with tf := some 8 } : Measured).wf = false) := by decide

theorem test_wf_FlowPacket : goodFlowPacket.wf = true ∧
    (({ goodFlowPacket with src := 2 ^ 32 } : FlowPacket).wf = false ∧
     ({ goodFlowPacket with dst := 2 ^ 32 } : FlowPacket).wf = false ∧
     ({ goodFlowPacket with udpPort := 2 ^ 16 } : FlowPacket).wf = false ∧
     ({ goodFlowPacket with version := 2 ^ 2 } : FlowPacket).wf = false ∧
     ({ goodFlowPacket with payloadType := 2 ^ 7 } : FlowPacket).wf = false ∧
     ({ goodFlowPacket with timestamp := 2 ^ 32 } : FlowPacket).wf = false ∧
     ({ goodFlowPacket with rows := [{ goodRowSegment with field := 2 }] } : FlowPacket).wf = false ∧
     ({ goodFlowPacket with rows := [{ goodRowSegment with line := 2 ^ 15 }] } : FlowPacket).wf = false ∧
     ({ goodFlowPacket with rows := [{ goodRowSegment with x := 2 ^ 15 }] } : FlowPacket).wf = false ∧
     ({ goodFlowPacket with rows := [{ goodRowSegment with codes := [2 ^ 12] }] } : FlowPacket).wf = false) := by decide

theorem test_wf_DramReq : goodDramReq.wf = true ∧
    (({ goodDramReq with requester := 2 ^ 8 } : DramReq).wf = false ∧
     ({ goodDramReq with addr := 2 ^ 36 } : DramReq).wf = false ∧
     ({ goodDramReq with addr := 1, bytes := 64 } : DramReq).wf = false ∧
     ({ goodDramReq with bad1 := 2 ^ 8 } : DramReq).wf = false ∧
     ({ goodDramReq with bad2 := 2 ^ 8 } : DramReq).wf = false) := by decide

theorem test_wf_VisorMiss : goodVisorMiss.wf = true ∧
    (({ goodVisorMiss with port := 64 } : VisorMiss).wf = false ∧
     ({ goodVisorMiss with pin := 2 ^ 8 } : VisorMiss).wf = false) := by decide

theorem test_wf_Dgram : goodDgram.wf = true ∧
    (({ goodDgram with rank := 2 } : Dgram).wf = false ∧
     ({ goodDgram with domain := 64 } : Dgram).wf = false ∧
     ({ goodDgram with epoch := 2 ^ 32 } : Dgram).wf = false) := by decide

theorem test_wf_VfBody : goodVfBody.wf = true ∧
    (({ goodVfBody with flip := 2 ^ 64 } : VfBody).wf = false ∧
     ({ goodVfBody with view := 8 } : VfBody).wf = false ∧
     ({ goodVfBody with chains := 2 ^ 8 } : VfBody).wf = false ∧
     ({ goodVfBody with alive := 2 ^ 32 } : VfBody).wf = false ∧
     ({ goodVfBody with rcheck := [] } : VfBody).wf = false ∧
     ({ goodVfBody with chainCheck := [] } : VfBody).wf = false ∧
     ({ goodVfBody with srcs := [] } : VfBody).wf = false ∧
     ({ goodVfBody with srcs := (2 ^ 32, 0) :: List.replicate 15 (0, 0) } : VfBody).wf = false ∧
     ({ goodVfBody with srcs := (0, 2 ^ 32) :: List.replicate 15 (0, 0) } : VfBody).wf = false) := by decide

theorem test_wf_identify : (.identify goodHdr : Instr).wf = true ∧
    ([(.identify { goodHdr with seq := 2 ^ 32 })] : List Instr).all (fun i => !i.wf) = true := by decide

theorem test_wf_statusCmd : (.statusCmd goodHdr : Instr).wf = true ∧
    ([(.statusCmd { goodHdr with seq := 2 ^ 32 })] : List Instr).all (fun i => !i.wf) = true := by decide

theorem test_wf_regRead : (.regRead goodHdr 0 0 : Instr).wf = true ∧
    ([(.regRead { goodHdr with seq := 2 ^ 32 } 0 0), (.regRead goodHdr (2 ^ 32) 0), (.regRead goodHdr 0 (2 ^ 16))] : List Instr).all (fun i => !i.wf) = true := by decide

theorem test_wf_logRead : (.logRead goodHdr 0 0 0 : Instr).wf = true ∧
    ([(.logRead { goodHdr with seq := 2 ^ 32 } 0 0 0), (.logRead goodHdr (2 ^ 8) 0 0), (.logRead goodHdr 0 (2 ^ 32) 0), (.logRead goodHdr 0 0 (2 ^ 16))] : List Instr).all (fun i => !i.wf) = true := by decide

theorem test_wf_querySeq : (.querySeq goodHdr 0 0 : Instr).wf = true ∧
    ([(.querySeq { goodHdr with seq := 2 ^ 32 } 0 0), (.querySeq goodHdr (2 ^ 8) 0), (.querySeq goodHdr 0 (2 ^ 32))] : List Instr).all (fun i => !i.wf) = true := by decide

theorem test_wf_countersRead : (.countersRead goodHdr 0 : Instr).wf = true ∧
    ([(.countersRead { goodHdr with seq := 2 ^ 32 } 0), (.countersRead goodHdr (2 ^ 8))] : List Instr).all (fun i => !i.wf) = true := by decide

theorem test_wf_countersClear : (.countersClear goodHdr 0 : Instr).wf = true ∧
    ([(.countersClear { goodHdr with seq := 2 ^ 32 } 0), (.countersClear goodHdr (2 ^ 8))] : List Instr).all (fun i => !i.wf) = true := by decide

theorem test_wf_ptpMetadata : (.ptpMetadata goodHdr 0 : Instr).wf = true ∧
    ([(.ptpMetadata { goodHdr with seq := 2 ^ 32 } 0), (.ptpMetadata goodHdr (2 ^ 8))] : List Instr).all (fun i => !i.wf) = true := by decide

theorem test_wf_beginTxn : (.beginTxn goodHdr : Instr).wf = true ∧
    ([(.beginTxn { goodHdr with seq := 2 ^ 32 })] : List Instr).all (fun i => !i.wf) = true := by decide

theorem test_wf_writeCmd : (.writeCmd goodHdr goodChange : Instr).wf = true ∧
    ([(.writeCmd { goodHdr with seq := 2 ^ 32 } goodChange), (.writeCmd goodHdr { goodChange with index := 2 ^ 16 })] : List Instr).all (fun i => !i.wf) = true := by decide

theorem test_wf_commitCmd : (.commitCmd goodHdr : Instr).wf = true ∧
    ([(.commitCmd { goodHdr with seq := 2 ^ 32 })] : List Instr).all (fun i => !i.wf) = true := by decide

theorem test_wf_rollback : (.rollback goodHdr : Instr).wf = true ∧
    ([(.rollback { goodHdr with seq := 2 ^ 32 })] : List Instr).all (fun i => !i.wf) = true := by decide

theorem test_wf_commitAll : (.commitAll goodHdr : Instr).wf = true ∧
    ([(.commitAll { goodHdr with seq := 2 ^ 32 })] : List Instr).all (fun i => !i.wf) = true := by decide

theorem test_wf_memWrite : (.memWrite goodHdr 0 0 [] : Instr).wf = true ∧
    ([(.memWrite { goodHdr with seq := 2 ^ 32 } 0 0 []), (.memWrite goodHdr (2 ^ 8) 0 []), (.memWrite goodHdr 0 (2 ^ 64) [])] : List Instr).all (fun i => !i.wf) = true := by decide

theorem test_wf_memRead : (.memRead goodHdr 0 0 0 : Instr).wf = true ∧
    ([(.memRead { goodHdr with seq := 2 ^ 32 } 0 0 0), (.memRead goodHdr (2 ^ 8) 0 0), (.memRead goodHdr 0 (2 ^ 64) 0), (.memRead goodHdr 0 0 (2 ^ 32))] : List Instr).all (fun i => !i.wf) = true := by decide

theorem test_wf_fenceSignal : (.fenceSignal goodHdr 0 0 : Instr).wf = true ∧
    ([(.fenceSignal { goodHdr with seq := 2 ^ 32 } 0 0), (.fenceSignal goodHdr (2 ^ 8) 0)] : List Instr).all (fun i => !i.wf) = true := by decide

theorem test_wf_hatbandCmd : (.hatbandCmd goodHdr goodTimeField 0 0 0 : Instr).wf = true ∧
    ([(.hatbandCmd { goodHdr with seq := 2 ^ 32 } goodTimeField 0 0 0), (.hatbandCmd goodHdr { goodTimeField with ns := 2 ^ 32 } 0 0 0), (.hatbandCmd goodHdr goodTimeField (2 ^ 8) 0 0), (.hatbandCmd goodHdr goodTimeField 0 (2 ^ 16) 0), (.hatbandCmd goodHdr goodTimeField 0 0 (2 ^ 64))] : List Instr).all (fun i => !i.wf) = true := by decide

theorem test_wf_snapshotCmd : (.snapshotCmd goodHdr goodTimeField 0 0 : Instr).wf = true ∧
    ([(.snapshotCmd { goodHdr with seq := 2 ^ 32 } goodTimeField 0 0), (.snapshotCmd goodHdr { goodTimeField with ns := 2 ^ 32 } 0 0), (.snapshotCmd goodHdr goodTimeField (2 ^ 32) 0), (.snapshotCmd goodHdr goodTimeField 0 (2 ^ 32))] : List Instr).all (fun i => !i.wf) = true := by decide

theorem test_wf_barrierCmd : (.barrierCmd goodHdr 0 : Instr).wf = true ∧
    ([(.barrierCmd { goodHdr with seq := 2 ^ 32 } 0), (.barrierCmd goodHdr (2 ^ 32))] : List Instr).all (fun i => !i.wf) = true := by decide

theorem test_wf_wallReset : (.wallReset goodHdr goodTimeField 0 0 : Instr).wf = true ∧
    ([(.wallReset { goodHdr with seq := 2 ^ 32 } goodTimeField 0 0), (.wallReset goodHdr { goodTimeField with ns := 2 ^ 32 } 0 0), (.wallReset goodHdr goodTimeField (2 ^ 8) 0), (.wallReset goodHdr goodTimeField 0 (2 ^ 32))] : List Instr).all (fun i => !i.wf) = true := by decide

theorem test_wf_restep : (.restep goodHdr : Instr).wf = true ∧
    ([(.restep { goodHdr with seq := 2 ^ 32 })] : List Instr).all (fun i => !i.wf) = true := by decide

theorem test_wf_swapCmd : (.swapCmd goodHdr : Instr).wf = true ∧
    ([(.swapCmd { goodHdr with seq := 2 ^ 32 })] : List Instr).all (fun i => !i.wf) = true := by decide

theorem test_wf_snapshotRead : (.snapshotRead goodHdr 0 0 0 0 : Instr).wf = true ∧
    ([(.snapshotRead { goodHdr with seq := 2 ^ 32 } 0 0 0 0), (.snapshotRead goodHdr (2 ^ 32) 0 0 0), (.snapshotRead goodHdr 0 (2 ^ 8) 0 0), (.snapshotRead goodHdr 0 0 (2 ^ 32) 0), (.snapshotRead goodHdr 0 0 0 (2 ^ 32))] : List Instr).all (fun i => !i.wf) = true := by decide

theorem test_wf_stageBegin : (.stageBegin goodHdr 0 : Instr).wf = true ∧
    ([(.stageBegin { goodHdr with seq := 2 ^ 32 } 0), (.stageBegin goodHdr (2 ^ 32))] : List Instr).all (fun i => !i.wf) = true := by decide

theorem test_wf_stageWrite : (.stageWrite goodHdr 0 [] : Instr).wf = true ∧
    ([(.stageWrite { goodHdr with seq := 2 ^ 32 } 0 []), (.stageWrite goodHdr (2 ^ 32) [])] : List Instr).all (fun i => !i.wf) = true := by decide

theorem test_wf_stageEnd : (.stageEnd goodHdr : Instr).wf = true ∧
    ([(.stageEnd { goodHdr with seq := 2 ^ 32 })] : List Instr).all (fun i => !i.wf) = true := by decide

theorem test_wf_activate : (.activate goodHdr goodTimeField 0 : Instr).wf = true ∧
    ([(.activate { goodHdr with seq := 2 ^ 32 } goodTimeField 0), (.activate goodHdr { goodTimeField with ns := 2 ^ 32 } 0), (.activate goodHdr goodTimeField (2 ^ 32))] : List Instr).all (fun i => !i.wf) = true := by decide

theorem test_wf_saveSettings : (.saveSettings goodHdr : Instr).wf = true ∧
    ([(.saveSettings { goodHdr with seq := 2 ^ 32 })] : List Instr).all (fun i => !i.wf) = true := by decide

theorem test_wf_resetCmd : (.resetCmd goodHdr 0 0 : Instr).wf = true ∧
    ([(.resetCmd { goodHdr with seq := 2 ^ 32 } 0 0), (.resetCmd goodHdr (2 ^ 8) 0), (.resetCmd goodHdr 0 (2 ^ 8))] : List Instr).all (fun i => !i.wf) = true := by decide

theorem test_wf_commission : (.commission goodHdr goodCommission : Instr).wf = true ∧
    ([(.commission { goodHdr with seq := 2 ^ 32 } goodCommission), (.commission goodHdr { goodCommission with tagLen := 2 ^ 8 })] : List Instr).all (fun i => !i.wf) = true := by decide

theorem test_wf_tileCmd : (.tileCmd goodHdr 0 0 0 [] : Instr).wf = true ∧
    ([(.tileCmd { goodHdr with seq := 2 ^ 32 } 0 0 0 []), (.tileCmd goodHdr (2 ^ 16) 0 0 []), (.tileCmd goodHdr 0 (2 ^ 8) 0 []), (.tileCmd goodHdr 0 0 (2 ^ 16) [])] : List Instr).all (fun i => !i.wf) = true := by decide

theorem test_wf_factoryCommand : (.factoryCommand goodHdr 0 [] : Instr).wf = true ∧
    ([(.factoryCommand { goodHdr with seq := 2 ^ 32 } 0 []), (.factoryCommand goodHdr (2 ^ 4) [])] : List Instr).all (fun i => !i.wf) = true := by decide

theorem test_wf_rspRead : (.rspRead 0 : Instr).wf = true ∧
    ([(.rspRead (2 ^ 32))] : List Instr).all (fun i => !i.wf) = true := by decide

theorem test_wf_udpSegment : (.udpSegment 0 0 0 [] : Instr).wf = true ∧
    ([(.udpSegment 2 0 0 []), (.udpSegment 0 (2 ^ 32) 0 []), (.udpSegment 0 0 (2 ^ 16) [])] : List Instr).all (fun i => !i.wf) = true := by decide

theorem test_wf_udpAssemblyTimeout : (.udpAssemblyTimeout 0 0 0 : Instr).wf = true ∧
    ([(.udpAssemblyTimeout 2 0 0), (.udpAssemblyTimeout 0 (2 ^ 32) 0), (.udpAssemblyTimeout 0 0 (2 ^ 32))] : List Instr).all (fun i => !i.wf) = true := by decide

theorem test_wf_standbyForwardTimeout : (.standbyForwardTimeout .general 0 : Instr).wf = true ∧
    ([(.standbyForwardTimeout .general (2 ^ 32))] : List Instr).all (fun i => !i.wf) = true := by decide

theorem test_wf_forwardResponse : (.forwardResponse .general 0 goodReply : Instr).wf = true ∧
    ([(.forwardResponse .general (2 ^ 32) goodReply)] : List Instr).all (fun i => !i.wf) = true := by decide

theorem test_wf_registerWrite : (.registerWrite .general 0 0 : Instr).wf = true ∧
    ([(.registerWrite .general (2 ^ 32) 0)] : List Instr).all (fun i => !i.wf) = true := by decide

theorem test_wf_txStartWrite : (.txStartWrite 0 0 : Instr).wf = true ∧
    ([(.txStartWrite 2 0), (.txStartWrite 0 (2 ^ 5))] : List Instr).all (fun i => !i.wf) = true := by decide

theorem test_wf_blockResetRequest : (.blockResetRequest 0 : Instr).wf = true ∧
    ([(.blockResetRequest (2 ^ 8))] : List Instr).all (fun i => !i.wf) = true := by decide

theorem test_wf_prbsEnWrite : (.prbsEnWrite 0 false : Instr).wf = true ∧
    ([(.prbsEnWrite 32 false)] : List Instr).all (fun i => !i.wf) = true := by decide

theorem test_wf_forceOutWrite : (.forceOutWrite 0 false : Instr).wf = true ∧
    ([(.forceOutWrite 32 false)] : List Instr).all (fun i => !i.wf) = true := by decide

theorem test_wf_chkStart : (.chkStart 0 : Instr).wf = true ∧
    ([(.chkStart 8)] : List Instr).all (fun i => !i.wf) = true := by decide

theorem test_wf_chkData : (.chkData 0 0 : Instr).wf = true ∧
    ([(.chkData 8 0)] : List Instr).all (fun i => !i.wf) = true := by decide

theorem test_wf_chkFinish : (.chkFinish 0 0 : Instr).wf = true ∧
    ([(.chkFinish 8 0), (.chkFinish 0 (2 ^ 32))] : List Instr).all (fun i => !i.wf) = true := by decide

theorem test_wf_chkResync : (.chkResync 0 : Instr).wf = true ∧
    ([(.chkResync 8)] : List Instr).all (fun i => !i.wf) = true := by decide

theorem test_wf_mapWindowWrite : (.mapWindowWrite goodHdr 0 [] : Instr).wf = true ∧
    ([(.mapWindowWrite { goodHdr with seq := 2 ^ 32 } 0 []), (.mapWindowWrite goodHdr (2 ^ 32) [])] : List Instr).all (fun i => !i.wf) = true := by decide

theorem test_wf_liningWindowWrite : (.liningWindowWrite goodHdr 0 [] : Instr).wf = true ∧
    ([(.liningWindowWrite { goodHdr with seq := 2 ^ 32 } 0 []), (.liningWindowWrite goodHdr (2 ^ 32) [])] : List Instr).all (fun i => !i.wf) = true := by decide

theorem test_wf_guardImageWrite : (.guardImageWrite goodHdr 0 [] : Instr).wf = true ∧
    ([(.guardImageWrite { goodHdr with seq := 2 ^ 32 } 0 []), (.guardImageWrite goodHdr (2 ^ 32) [])] : List Instr).all (fun i => !i.wf) = true := by decide

theorem test_wf_faultMapWrite : (.faultMapWrite goodHdr 0 [] : Instr).wf = true ∧
    ([(.faultMapWrite { goodHdr with seq := 2 ^ 32 } 0 []), (.faultMapWrite goodHdr (2 ^ 32) [])] : List Instr).all (fun i => !i.wf) = true := by decide

theorem test_wf_fenceTimeout : (.fenceTimeout 0 0 : Instr).wf = true ∧
    ([(.fenceTimeout 8 0), (.fenceTimeout 0 64)] : List Instr).all (fun i => !i.wf) = true := by decide

theorem test_wf_flip : (.flip [] : Instr).wf = true ∧
    ([(.flip [{ goodVisorMiss with pin := 2 ^ 8 }])] : List Instr).all (fun i => !i.wf) = true := by decide

theorem test_wf_scanOutBurst : (.scanOutBurst 0 : Instr).wf = true ∧
    ([(.scanOutBurst (2 ^ 32))] : List Instr).all (fun i => !i.wf) = true := by decide

theorem test_wf_sdiFrameStart : (.sdiFrameStart 0 goodMeasured : Instr).wf = true ∧
    ([(.sdiFrameStart 8 goodMeasured), (.sdiFrameStart 0 { goodMeasured with w := 2 ^ 16 })] : List Instr).all (fun i => !i.wf) = true := by decide

theorem test_wf_sdiLine : (.sdiLine 0 0 0 false [] : Instr).wf = true ∧
    ([(.sdiLine 8 0 0 false []), (.sdiLine 0 2 0 false []), (.sdiLine 0 0 (2 ^ 16) false []), (.sdiLine 0 0 0 false [2 ^ 64])] : List Instr).all (fun i => !i.wf) = true := by decide

theorem test_wf_sdiLock : (.sdiLock 0 0 : Instr).wf = true ∧
    ([(.sdiLock 8 0), (.sdiLock 0 (2 ^ 8))] : List Instr).all (fun i => !i.wf) = true := by decide

theorem test_wf_sdiLockLoss : (.sdiLockLoss 0 : Instr).wf = true ∧
    ([(.sdiLockLoss 8)] : List Instr).all (fun i => !i.wf) = true := by decide

theorem test_wf_st2110Packet : (.st2110Packet 0 goodFlowPacket : Instr).wf = true ∧
    ([(.st2110Packet 2 goodFlowPacket), (.st2110Packet 0 { goodFlowPacket with version := 4 })] : List Instr).all (fun i => !i.wf) = true := by decide

theorem test_wf_frameComplete : (.frameComplete 0 goodMeasured : Instr).wf = true ∧
    ([(.frameComplete 16 goodMeasured), (.frameComplete 0 { goodMeasured with w := 2 ^ 16 })] : List Instr).all (fun i => !i.wf) = true := by decide

theorem test_wf_sourceLossTimeout : (.sourceLossTimeout 0 : Instr).wf = true ∧
    ([(.sourceLossTimeout 16)] : List Instr).all (fun i => !i.wf) = true := by decide

theorem test_wf_holdExpiry : (.holdExpiry 0 : Instr).wf = true ∧
    ([(.holdExpiry 16)] : List Instr).all (fun i => !i.wf) = true := by decide

theorem test_wf_ethFrameRx : (.ethFrameRx 0 goodEthFrame : Instr).wf = true ∧
    ([(.ethFrameRx 2 goodEthFrame), (.ethFrameRx 0 { goodEthFrame with sub := 4 })] : List Instr).all (fun i => !i.wf) = true := by decide

theorem test_wf_txFrameStart : (.txFrameStart 0 0 : Instr).wf = true ∧
    ([(.txFrameStart 2 0), (.txFrameStart 0 (2 ^ 16))] : List Instr).all (fun i => !i.wf) = true := by decide

theorem test_wf_txUnderrun : (.txUnderrun 0 : Instr).wf = true ∧
    ([(.txUnderrun 2)] : List Instr).all (fun i => !i.wf) = true := by decide

theorem test_wf_segmentedSend : (.segmentedSend 0 goodSegSend : Instr).wf = true ∧
    ([(.segmentedSend 2 goodSegSend), (.segmentedSend 0 { goodSegSend with size := 2 ^ 32 })] : List Instr).all (fun i => !i.wf) = true := by decide

theorem test_wf_linkDown : (.linkDown 0 0 : Instr).wf = true ∧
    ([(.linkDown 2 0), (.linkDown 0 4)] : List Instr).all (fun i => !i.wf) = true := by decide

theorem test_wf_linkUp : (.linkUp 0 0 : Instr).wf = true ∧
    ([(.linkUp 2 0), (.linkUp 0 4)] : List Instr).all (fun i => !i.wf) = true := by decide

theorem test_wf_fwEventService : (.fwEventService 0 : Instr).wf = true ∧
    ([(.fwEventService 2)] : List Instr).all (fun i => !i.wf) = true := by decide

theorem test_wf_monitorPacket : (.monitorPacket 0 0 : Instr).wf = true ∧
    ([(.monitorPacket 2 0), (.monitorPacket 0 2)] : List Instr).all (fun i => !i.wf) = true := by decide

theorem test_wf_hello : (.hello goodMsgHdr goodHello : Instr).wf = true ∧
    ([(.hello { goodMsgHdr with port := 8 } goodHello), (.hello goodMsgHdr { goodHello with part := 2 ^ 16 })] : List Instr).all (fun i => !i.wf) = true := by decide

theorem test_wf_helloAck : (.helloAck goodMsgHdr 0 : Instr).wf = true ∧
    ([(.helloAck { goodMsgHdr with port := 8 } 0), (.helloAck goodMsgHdr (2 ^ 8))] : List Instr).all (fun i => !i.wf) = true := by decide

theorem test_wf_helloSend : (.helloSend 0 : Instr).wf = true ∧
    ([(.helloSend 8)] : List Instr).all (fun i => !i.wf) = true := by decide

theorem test_wf_helloTimeout : (.helloTimeout 0 : Instr).wf = true ∧
    ([(.helloTimeout 8)] : List Instr).all (fun i => !i.wf) = true := by decide

theorem test_wf_helloFailExpiry : (.helloFailExpiry 0 : Instr).wf = true ∧
    ([(.helloFailExpiry 8)] : List Instr).all (fun i => !i.wf) = true := by decide

theorem test_wf_segmentSilence : (.segmentSilence 0 : Instr).wf = true ∧
    ([(.segmentSilence 8)] : List Instr).all (fun i => !i.wf) = true := by decide

theorem test_wf_enumerate : (.enumerate goodMsgHdr 0 0 0 0 : Instr).wf = true ∧
    ([(.enumerate { goodMsgHdr with port := 8 } 0 0 0 0), (.enumerate goodMsgHdr (2 ^ 8) 0 0 0), (.enumerate goodMsgHdr 0 (2 ^ 8) 0 0), (.enumerate goodMsgHdr 0 0 (2 ^ 8) 0), (.enumerate goodMsgHdr 0 0 0 (2 ^ 8))] : List Instr).all (fun i => !i.wf) = true := by decide

theorem test_wf_tileInfo : (.tileInfo goodMsgHdr goodTileInfo : Instr).wf = true ∧
    ([(.tileInfo { goodMsgHdr with port := 8 } goodTileInfo), (.tileInfo goodMsgHdr { goodTileInfo with w := 2 ^ 16 })] : List Instr).all (fun i => !i.wf) = true := by decide

theorem test_wf_flipMessage : (.flipMessage goodMsgHdr goodFlipMsg : Instr).wf = true ∧
    ([(.flipMessage { goodMsgHdr with port := 8 } goodFlipMsg), (.flipMessage goodMsgHdr { goodFlipMsg with num := 2 ^ 64 })] : List Instr).all (fun i => !i.wf) = true := by decide

theorem test_wf_burstUnit : (.burstUnit 0 false goodBurst : Instr).wf = true ∧
    ([(.burstUnit 8 false goodBurst), (.burstUnit 0 false { goodBurst with view := 8 })] : List Instr).all (fun i => !i.wf) = true := by decide

theorem test_wf_frameEnd : (.frameEnd goodMsgHdr goodFrameEnd : Instr).wf = true ∧
    ([(.frameEnd { goodMsgHdr with port := 8 } goodFrameEnd), (.frameEnd goodMsgHdr { goodFrameEnd with bursts := 2 ^ 32 })] : List Instr).all (fun i => !i.wf) = true := by decide

theorem test_wf_moduleTable : (.moduleTable goodMsgHdr 0 0 0 [] : Instr).wf = true ∧
    ([(.moduleTable { goodMsgHdr with port := 8 } 0 0 0 []), (.moduleTable goodMsgHdr (2 ^ 16) 0 0 []), (.moduleTable goodMsgHdr 0 (2 ^ 16) 0 []), (.moduleTable goodMsgHdr 0 0 (2 ^ 16) []), (.moduleTable goodMsgHdr 0 0 0 [{ goodModuleEntry with orient := 2 ^ 3 }])] : List Instr).all (fun i => !i.wf) = true := by decide

theorem test_wf_mapGen : (.mapGen goodMsgHdr 0 0 : Instr).wf = true ∧
    ([(.mapGen { goodMsgHdr with port := 8 } 0 0), (.mapGen goodMsgHdr (2 ^ 16) 0), (.mapGen goodMsgHdr 0 (2 ^ 64))] : List Instr).all (fun i => !i.wf) = true := by decide

theorem test_wf_setMsg : (.setMsg goodMsgHdr goodSetMsg : Instr).wf = true ∧
    ([(.setMsg { goodMsgHdr with port := 8 } goodSetMsg), (.setMsg goodMsgHdr { goodSetMsg with addr := 2 ^ 32 })] : List Instr).all (fun i => !i.wf) = true := by decide

theorem test_wf_cmdMsg : (.cmdMsg goodMsgHdr [] : Instr).wf = true ∧
    ([(.cmdMsg { goodMsgHdr with port := 8 } [])] : List Instr).all (fun i => !i.wf) = true := by decide

theorem test_wf_cmdPartialTimeout : (.cmdPartialTimeout 0 : Instr).wf = true ∧
    ([(.cmdPartialTimeout (2 ^ 16))] : List Instr).all (fun i => !i.wf) = true := by decide

theorem test_wf_rspMsg : (.rspMsg goodMsgHdr [] : Instr).wf = true ∧
    ([(.rspMsg { goodMsgHdr with port := 8 } [])] : List Instr).all (fun i => !i.wf) = true := by decide

theorem test_wf_ackMsg : (.ackMsg goodMsgHdr 0 0 : Instr).wf = true ∧
    ([(.ackMsg { goodMsgHdr with port := 8 } 0 0), (.ackMsg goodMsgHdr (2 ^ 32) 0), (.ackMsg goodMsgHdr 0 (2 ^ 16))] : List Instr).all (fun i => !i.wf) = true := by decide

theorem test_wf_messageResend : (.messageResend 0 0 : Instr).wf = true ∧
    ([(.messageResend 8 0), (.messageResend 0 (2 ^ 32))] : List Instr).all (fun i => !i.wf) = true := by decide

theorem test_wf_hatbandMessage : (.hatbandMessage goodMsgHdr goodTimeField 0 0 0 : Instr).wf = true ∧
    ([(.hatbandMessage { goodMsgHdr with port := 8 } goodTimeField 0 0 0), (.hatbandMessage goodMsgHdr { goodTimeField with ns := 2 ^ 32 } 0 0 0), (.hatbandMessage goodMsgHdr goodTimeField (2 ^ 8) 0 0), (.hatbandMessage goodMsgHdr goodTimeField 0 (2 ^ 16) 0), (.hatbandMessage goodMsgHdr goodTimeField 0 0 (2 ^ 64))] : List Instr).all (fun i => !i.wf) = true := by decide

theorem test_wf_timeInfo : (.timeInfo goodMsgHdr 0 0 0 false : Instr).wf = true ∧
    ([(.timeInfo { goodMsgHdr with port := 8 } 0 0 0 false), (.timeInfo goodMsgHdr (2 ^ 16) 0 0 false), (.timeInfo goodMsgHdr 0 (2 ^ 96) 0 false), (.timeInfo goodMsgHdr 0 0 (2 ^ 96) false)] : List Instr).all (fun i => !i.wf) = true := by decide

theorem test_wf_timeBlock : (.timeBlock 0 0 0 0 : Instr).wf = true ∧
    ([(.timeBlock 8 0 0 0), (.timeBlock 0 (2 ^ 16) 0 0), (.timeBlock 0 0 2 0), (.timeBlock 0 0 0 (2 ^ 96))] : List Instr).all (fun i => !i.wf) = true := by decide

theorem test_wf_timeRequest : (.timeRequest 0 : Instr).wf = true ∧
    ([(.timeRequest 8)] : List Instr).all (fun i => !i.wf) = true := by decide

theorem test_wf_barrierMessage : (.barrierMessage goodMsgHdr 0 : Instr).wf = true ∧
    ([(.barrierMessage { goodMsgHdr with port := 8 } 0), (.barrierMessage goodMsgHdr (2 ^ 32))] : List Instr).all (fun i => !i.wf) = true := by decide

theorem test_wf_barrierDone : (.barrierDone goodMsgHdr 0 0 : Instr).wf = true ∧
    ([(.barrierDone { goodMsgHdr with port := 8 } 0 0), (.barrierDone goodMsgHdr (2 ^ 32) 0), (.barrierDone goodMsgHdr 0 (2 ^ 16))] : List Instr).all (fun i => !i.wf) = true := by decide

theorem test_wf_snapshotMessage : (.snapshotMessage goodMsgHdr goodTimeField 0 0 : Instr).wf = true ∧
    ([(.snapshotMessage { goodMsgHdr with port := 8 } goodTimeField 0 0), (.snapshotMessage goodMsgHdr { goodTimeField with ns := 2 ^ 32 } 0 0), (.snapshotMessage goodMsgHdr goodTimeField (2 ^ 32) 0), (.snapshotMessage goodMsgHdr goodTimeField 0 (2 ^ 32))] : List Instr).all (fun i => !i.wf) = true := by decide

theorem test_wf_snapshotDone : (.snapshotDone goodMsgHdr 0 0 0 : Instr).wf = true ∧
    ([(.snapshotDone { goodMsgHdr with port := 8 } 0 0 0), (.snapshotDone goodMsgHdr (2 ^ 32) 0 0), (.snapshotDone goodMsgHdr 0 (2 ^ 16) 0), (.snapshotDone goodMsgHdr 0 0 (2 ^ 16))] : List Instr).all (fun i => !i.wf) = true := by decide

theorem test_wf_resetMessage : (.resetMessage goodMsgHdr goodTimeField 0 0 0 : Instr).wf = true ∧
    ([(.resetMessage { goodMsgHdr with port := 8 } goodTimeField 0 0 0), (.resetMessage goodMsgHdr { goodTimeField with ns := 2 ^ 32 } 0 0 0), (.resetMessage goodMsgHdr goodTimeField (2 ^ 8) 0 0), (.resetMessage goodMsgHdr goodTimeField 0 (2 ^ 8) 0), (.resetMessage goodMsgHdr goodTimeField 0 0 (2 ^ 32))] : List Instr).all (fun i => !i.wf) = true := by decide

theorem test_wf_heartbeat : (.heartbeat goodMsgHdr goodHeartbeat : Instr).wf = true ∧
    ([(.heartbeat { goodMsgHdr with port := 8 } goodHeartbeat), (.heartbeat goodMsgHdr { goodHeartbeat with rank := 2 })] : List Instr).all (fun i => !i.wf) = true := by decide

theorem test_wf_tileStatus : (.tileStatus goodMsgHdr goodTileStatus : Instr).wf = true ∧
    ([(.tileStatus { goodMsgHdr with port := 8 } goodTileStatus), (.tileStatus goodMsgHdr { goodTileStatus with temp := 2 ^ 16 })] : List Instr).all (fun i => !i.wf) = true := by decide

theorem test_wf_sessionTimeout : (.sessionTimeout 0 : Instr).wf = true ∧
    ([(.sessionTimeout 512)] : List Instr).all (fun i => !i.wf) = true := by decide

theorem test_wf_faultMsg : (.faultMsg goodMsgHdr goodFaultRec : Instr).wf = true ∧
    ([(.faultMsg { goodMsgHdr with port := 8 } goodFaultRec), (.faultMsg goodMsgHdr { goodFaultRec with cls := 2 ^ 8 })] : List Instr).all (fun i => !i.wf) = true := by decide

theorem test_wf_faultAck : (.faultAck goodMsgHdr 0 : Instr).wf = true ∧
    ([(.faultAck { goodMsgHdr with port := 8 } 0), (.faultAck goodMsgHdr (2 ^ 16))] : List Instr).all (fun i => !i.wf) = true := by decide

theorem test_wf_faultResend : (.faultResend 0 : Instr).wf = true ∧
    ([(.faultResend (2 ^ 16))] : List Instr).all (fun i => !i.wf) = true := by decide

theorem test_wf_ownUnitSend : (.ownUnitSend 0 : Instr).wf = true ∧
    ([(.ownUnitSend 2)] : List Instr).all (fun i => !i.wf) = true := by decide

theorem test_wf_abortBlock : (.abortBlock 0 false : Instr).wf = true ∧
    ([(.abortBlock 8 false)] : List Instr).all (fun i => !i.wf) = true := by decide

theorem test_wf_blockError : (.blockError 0 false : Instr).wf = true ∧
    ([(.blockError 8 false)] : List Instr).all (fun i => !i.wf) = true := by decide

theorem test_wf_knuckle : (.knuckle 0 0 0 0 [] [] : Instr).wf = true ∧
    ([(.knuckle 8 0 0 0 [] []), (.knuckle 0 (2 ^ 4) 0 0 [] []), (.knuckle 0 0 (2 ^ 4) 0 [] []), (.knuckle 0 0 0 (2 ^ 3) [] []), (.knuckle 0 0 0 0 [2 ^ 64] []), (.knuckle 0 0 0 0 [] [2 ^ 64])] : List Instr).all (fun i => !i.wf) = true := by decide

theorem test_wf_laneLost : (.laneLost 0 false false false : Instr).wf = true ∧
    ([(.laneLost 32 false false false)] : List Instr).all (fun i => !i.wf) = true := by decide

theorem test_wf_laneTrained : (.laneTrained 0 0 : Instr).wf = true ∧
    ([(.laneTrained 32 0), (.laneTrained 0 (2 ^ 16))] : List Instr).all (fun i => !i.wf) = true := by decide

theorem test_wf_txSetForm : (.txSetForm 0 : Instr).wf = true ∧
    ([(.txSetForm 8)] : List Instr).all (fun i => !i.wf) = true := by decide

theorem test_wf_adaptFreeze : (.adaptFreeze 0 0 0 : Instr).wf = true ∧
    ([(.adaptFreeze 32 0 0), (.adaptFreeze 0 (2 ^ 32) 0)] : List Instr).all (fun i => !i.wf) = true := by decide

theorem test_wf_recalApply : (.recalApply 0 0 : Instr).wf = true ∧
    ([(.recalApply 32 0), (.recalApply 0 (2 ^ 63))] : List Instr).all (fun i => !i.wf) = true := by decide

theorem test_wf_eyeScan : (.eyeScan 0 0 0 : Instr).wf = true ∧
    ([(.eyeScan 32 0 0), (.eyeScan 0 (2 ^ 8) 0), (.eyeScan 0 0 (2 ^ 8))] : List Instr).all (fun i => !i.wf) = true := by decide

theorem test_wf_visitStart : (.visitStart [] : Instr).wf = true ∧
    ([(.visitStart [{ goodVisorMiss with pin := 2 ^ 8 }])] : List Instr).all (fun i => !i.wf) = true := by decide

theorem test_wf_returnFrame : (.returnFrame 0 0 [] 0 : Instr).wf = true ∧
    ([(.returnFrame 64 0 [] 0), (.returnFrame 0 (2 ^ 32) [] 0), (.returnFrame 0 0 [2 ^ 64] 0), (.returnFrame 0 0 [] (2 ^ 32))] : List Instr).all (fun i => !i.wf) = true := by decide

theorem test_wf_returnTimeout : (.returnTimeout 0 : Instr).wf = true ∧
    ([(.returnTimeout 64)] : List Instr).all (fun i => !i.wf) = true := by decide

theorem test_wf_absentPoll : (.absentPoll 0 : Instr).wf = true ∧
    ([(.absentPoll 4096)] : List Instr).all (fun i => !i.wf) = true := by decide

theorem test_wf_bankSupplyChange : (.bankSupplyChange 0 0 : Instr).wf = true ∧
    ([(.bankSupplyChange 16 0), (.bankSupplyChange 0 (2 ^ 32))] : List Instr).all (fun i => !i.wf) = true := by decide

theorem test_wf_sync : (.sync 0 goodPtpHdr goodTimeField : Instr).wf = true ∧
    ([(.sync 2 goodPtpHdr goodTimeField), (.sync 0 { goodPtpHdr with domain := 2 ^ 8 } goodTimeField), (.sync 0 goodPtpHdr { goodTimeField with ns := 2 ^ 32 })] : List Instr).all (fun i => !i.wf) = true := by decide

theorem test_wf_followUp : (.followUp 0 goodPtpHdr goodTimeField : Instr).wf = true ∧
    ([(.followUp 2 goodPtpHdr goodTimeField), (.followUp 0 { goodPtpHdr with domain := 2 ^ 8 } goodTimeField), (.followUp 0 goodPtpHdr { goodTimeField with ns := 2 ^ 32 })] : List Instr).all (fun i => !i.wf) = true := by decide

theorem test_wf_delayReqSend : (.delayReqSend 0 : Instr).wf = true ∧
    ([(.delayReqSend 2)] : List Instr).all (fun i => !i.wf) = true := by decide

theorem test_wf_delayResp : (.delayResp 0 goodPtpHdr goodTimeField false : Instr).wf = true ∧
    ([(.delayResp 2 goodPtpHdr goodTimeField false), (.delayResp 0 { goodPtpHdr with domain := 2 ^ 8 } goodTimeField false), (.delayResp 0 goodPtpHdr { goodTimeField with ns := 2 ^ 32 } false)] : List Instr).all (fun i => !i.wf) = true := by decide

theorem test_wf_announce : (.announce 0 goodPtpHdr goodAnnounceMsg : Instr).wf = true ∧
    ([(.announce 2 goodPtpHdr goodAnnounceMsg), (.announce 0 { goodPtpHdr with domain := 2 ^ 8 } goodAnnounceMsg), (.announce 0 goodPtpHdr { goodAnnounceMsg with gm := 2 ^ 64 })] : List Instr).all (fun i => !i.wf) = true := by decide

theorem test_wf_announceTimeout : (.announceTimeout 0 : Instr).wf = true ∧
    ([(.announceTimeout 2)] : List Instr).all (fun i => !i.wf) = true := by decide

theorem test_wf_evtPulseStart : (.evtPulseStart 0 : Instr).wf = true ∧
    ([(.evtPulseStart 8)] : List Instr).all (fun i => !i.wf) = true := by decide

theorem test_wf_evtPulseEnd : (.evtPulseEnd 0 : Instr).wf = true ∧
    ([(.evtPulseEnd 8)] : List Instr).all (fun i => !i.wf) = true := by decide

theorem test_wf_heartbeatDatagram : (.heartbeatDatagram goodDgram goodHeartbeat : Instr).wf = true ∧
    ([(.heartbeatDatagram { goodDgram with rank := 2 } goodHeartbeat), (.heartbeatDatagram goodDgram { goodHeartbeat with rank := 2 })] : List Instr).all (fun i => !i.wf) = true := by decide

theorem test_wf_pathSilent : (.pathSilent 0 : Instr).wf = true ∧
    ([(.pathSilent 2)] : List Instr).all (fun i => !i.wf) = true := by decide

theorem test_wf_repl : (.repl goodDgram 0 [] : Instr).wf = true ∧
    ([(.repl { goodDgram with rank := 2 } 0 []), (.repl goodDgram (2 ^ 64) [])] : List Instr).all (fun i => !i.wf) = true := by decide

theorem test_wf_replAck : (.replAck goodDgram 0 false : Instr).wf = true ∧
    ([(.replAck { goodDgram with rank := 2 } 0 false), (.replAck goodDgram (2 ^ 64) false)] : List Instr).all (fun i => !i.wf) = true := by decide

theorem test_wf_snapData : (.snapData goodDgram 0 0 [] : Instr).wf = true ∧
    ([(.snapData { goodDgram with rank := 2 } 0 0 []), (.snapData goodDgram 2 0 []), (.snapData goodDgram 0 (2 ^ 64) [])] : List Instr).all (fun i => !i.wf) = true := by decide

theorem test_wf_snapAck : (.snapAck goodDgram 0 0 : Instr).wf = true ∧
    ([(.snapAck { goodDgram with rank := 2 } 0 0), (.snapAck goodDgram 2 0), (.snapAck goodDgram 0 (2 ^ 64))] : List Instr).all (fun i => !i.wf) = true := by decide

theorem test_wf_vfcheck : (.vfcheck goodDgram goodVfBody : Instr).wf = true ∧
    ([(.vfcheck { goodDgram with rank := 2 } goodVfBody), (.vfcheck goodDgram { goodVfBody with view := 8 })] : List Instr).all (fun i => !i.wf) = true := by decide

theorem test_wf_swapDatagram : (.swapDatagram goodDgram 0 0 0 : Instr).wf = true ∧
    ([(.swapDatagram { goodDgram with rank := 2 } 0 0 0), (.swapDatagram goodDgram (2 ^ 8) 0 0), (.swapDatagram goodDgram 0 (2 ^ 64) 0), (.swapDatagram goodDgram 0 0 (2 ^ 8))] : List Instr).all (fun i => !i.wf) = true := by decide

theorem test_wf_dramRequest : (.dramRequest [] : Instr).wf = true ∧
    ([(.dramRequest [{ goodDramReq with bad1 := 2 ^ 8 }])] : List Instr).all (fun i => !i.wf) = true := by decide

theorem test_wf_eccWriteBack : (.eccWriteBack 0 : Instr).wf = true ∧
    ([(.eccWriteBack 16)] : List Instr).all (fun i => !i.wf) = true := by decide

theorem test_wf_refreshDue : (.refreshDue 0 false : Instr).wf = true ∧
    ([(.refreshDue 16 false)] : List Instr).all (fun i => !i.wf) = true := by decide

theorem test_wf_neighbourRefresh : (.neighbourRefresh 0 : Instr).wf = true ∧
    ([(.neighbourRefresh 16)] : List Instr).all (fun i => !i.wf) = true := by decide

theorem test_wf_mr4Read : (.mr4Read 0 0 : Instr).wf = true ∧
    ([(.mr4Read 16 0), (.mr4Read 0 (2 ^ 3))] : List Instr).all (fun i => !i.wf) = true := by decide

theorem test_wf_driftMeasure : (.driftMeasure 0 0 0 : Instr).wf = true ∧
    ([(.driftMeasure 16 0 0), (.driftMeasure 0 (2 ^ 63) 0), (.driftMeasure 0 0 (2 ^ 32))] : List Instr).all (fun i => !i.wf) = true := by decide

theorem test_wf_retrain : (.retrain 0 : Instr).wf = true ∧
    ([(.retrain 16)] : List Instr).all (fun i => !i.wf) = true := by decide

theorem test_wf_retrainLate : (.retrainLate 0 : Instr).wf = true ∧
    ([(.retrainLate 16)] : List Instr).all (fun i => !i.wf) = true := by decide

theorem test_wf_selfRefreshEntry : (.selfRefreshEntry 0 : Instr).wf = true ∧
    ([(.selfRefreshEntry 16)] : List Instr).all (fun i => !i.wf) = true := by decide

theorem test_wf_dramTrainingDone : (.dramTrainingDone 0 [] : Instr).wf = true ∧
    ([(.dramTrainingDone (2 ^ 16) []), (.dramTrainingDone 0 [(2 ^ 16, 0, 0)])] : List Instr).all (fun i => !i.wf) = true := by decide

theorem test_wf_resetN : (.resetN 0 0 false : Instr).wf = true ∧
    ([(.resetN (2 ^ 64) 0 false), (.resetN 0 2 false)] : List Instr).all (fun i => !i.wf) = true := by decide

theorem test_wf_supplyFault : (.supplyFault 0 : Instr).wf = true ∧
    ([(.supplyFault (2 ^ 64))] : List Instr).all (fun i => !i.wf) = true := by decide

theorem test_wf_watchdogExpiry : (.watchdogExpiry 0 : Instr).wf = true ∧
    ([(.watchdogExpiry 4)] : List Instr).all (fun i => !i.wf) = true := by decide

theorem test_wf_resetRelease : (.resetRelease 0 false : Instr).wf = true ∧
    ([(.resetRelease 2 false)] : List Instr).all (fun i => !i.wf) = true := by decide

theorem test_wf_startClocksStable : (.startClocksStable 0 : Instr).wf = true ∧
    ([(.startClocksStable (2 ^ 5))] : List Instr).all (fun i => !i.wf) = true := by decide

theorem test_wf_blockRelease : (.blockRelease 0 : Instr).wf = true ∧
    ([(.blockRelease 8)] : List Instr).all (fun i => !i.wf) = true := by decide

theorem test_wf_pllUnlock : (.pllUnlock 0 : Instr).wf = true ∧
    ([(.pllUnlock 5)] : List Instr).all (fun i => !i.wf) = true := by decide

theorem test_wf_pllRelock : (.pllRelock 0 : Instr).wf = true ∧
    ([(.pllRelock 5)] : List Instr).all (fun i => !i.wf) = true := by decide

theorem test_wf_refLost : (.refLost 0 : Instr).wf = true ∧
    ([(.refLost 4)] : List Instr).all (fun i => !i.wf) = true := by decide

theorem test_wf_dieConversion : (.dieConversion [] : Instr).wf = true ∧
    ([(.dieConversion [2 ^ 63])] : List Instr).all (fun i => !i.wf) = true := by decide

theorem test_wf_remoteTempConversion : (.remoteTempConversion 0 0 0 0 : Instr).wf = true ∧
    ([(.remoteTempConversion 16 0 0 0), (.remoteTempConversion 0 (2 ^ 32) 0 0), (.remoteTempConversion 0 0 (2 ^ 32) 0), (.remoteTempConversion 0 0 0 (2 ^ 32))] : List Instr).all (fun i => !i.wf) = true := by decide

theorem test_wf_supvBlock : (.supvBlock 0 [] : Instr).wf = true ∧
    ([(.supvBlock 16 []), (.supvBlock 0 [2 ^ 64])] : List Instr).all (fun i => !i.wf) = true := by decide

theorem test_wf_validExchangeLapse : (.validExchangeLapse 0 : Instr).wf = true ∧
    ([(.validExchangeLapse 2)] : List Instr).all (fun i => !i.wf) = true := by decide

theorem test_wf_retrainDone : (.retrainDone 0 [] 0 0 0 : Instr).wf = true ∧
    ([(.retrainDone 16 [] 0 0 0), (.retrainDone 0 [2 ^ 63] 0 0 0), (.retrainDone 0 [] (2 ^ 8) 0 0), (.retrainDone 0 [] 0 (2 ^ 8) 0), (.retrainDone 0 [] 0 0 (2 ^ 16))] : List Instr).all (fun i => !i.wf) = true := by decide

theorem test_wf_referenceReturn : (.referenceReturn 0 : Instr).wf = true ∧
    ([(.referenceReturn 4)] : List Instr).all (fun i => !i.wf) = true := by decide
end

section
/-! SUPPORT. Serial numbers and register reads (R11, R592). -/

namespace Sys2Proof.Machine

/-! Serial numbers (R592) -/

/-- R592: `laterSerial` of two 32-bit values, without its own reductions modulo 2^32. -/
theorem laterSerial_iff {a b : Nat} (ha : a < 2 ^ 32) (hb : b < 2 ^ 32) :
    laterSerial a b = true ↔ 1 ≤ (a + 2 ^ 32 - b) % 2 ^ 32 ∧ (a + 2 ^ 32 - b) % 2 ^ 32 ≤ 2147483647 := by
  simp only [laterSerial, Nat.mod_eq_of_lt ha, Nat.mod_eq_of_lt hb, decide_eq_true_eq]

/-- A value is not later than itself. -/
theorem laterSerial_self {a : Nat} (ha : a < 2 ^ 32) : laterSerial a a = false := by
  rw [← Bool.not_eq_true, laterSerial_iff ha ha]
  omega

/-- Of two values at most one is later than the other. -/
theorem not_laterSerial_both {a b : Nat} (ha : a < 2 ^ 32) (hb : b < 2 ^ 32) :
    ¬(laterSerial a b = true ∧ laterSerial b a = true) := by
  rw [laterSerial_iff ha hb, laterSerial_iff hb ha]
  omega

/-- Of two values that differ by 2^31 neither is later. -/
theorem laterSerial_opposite {a b : Nat} (ha : a < 2 ^ 32) (hb : b < 2 ^ 32) (h : (a + 2147483648) % 2 ^ 32 = b) :
    laterSerial a b = false ∧ laterSerial b a = false := by
  rw [← Bool.not_eq_true, ← Bool.not_eq_true, laterSerial_iff ha hb, laterSerial_iff hb ha]
  omega

/-- Of two other values that differ one is later. -/
theorem laterSerial_or {a b : Nat} (ha : a < 2 ^ 32) (hb : b < 2 ^ 32) (hne : a ≠ b) (h : (a + 2147483648) % 2 ^ 32 ≠ b) :
    laterSerial a b = true ∨ laterSerial b a = true := by
  rw [laterSerial_iff ha hb, laterSerial_iff hb ha]
  omega

/-- A signal that is not later than the fence changes nothing. -/
theorem State.signalFence_not_later (s : State) (n : Nat) (v : Word) (h : laterSerial v.toNat (s.fence n).toNat = false) :
    s.signalFence n v = s := by
  simp [State.signalFence, h]

/-- A fence of another value that is not later than its target does not satisfy it. -/
theorem State.fenceMet_not_later (s : State) (n : Nat) (v : Word) (hne : s.fence n ≠ v)
    (h : laterSerial (s.fence n).toNat v.toNat = false) : s.fenceMet n v = false := by
  simp [State.fenceMet, h, hne]

/-! Register reads (R11, R516) -/

/-- R11, R516: what REG_READ of a count in range answers. -/
theorem State.doRegRead_eq (s : State) (h : Hdr) (addr count : Nat) (h1 : 1 ≤ count) (h2 : count ≤ 16384) :
    s.doRegRead h addr count = s.respond h 0x0003 (if addr % 4 = 0
      then okReply (wordBytes ((List.range count).map (fun i => s.readReg ((addr + 4 * i) % 2 ^ 32))))
      else bareReply .errLen) := by
  unfold State.doRegRead
  rw [if_neg (by omega)]
  by_cases ha : addr % 4 = 0
  · rw [if_neg (not_not.mpr ha), if_pos ha]
  · rw [if_pos ha, if_neg ha]; rfl

end Sys2Proof.Machine
end

section
/-! SUPPORT. One register word written: what each access type does, and what is answered (R12, R43, R73, R515). -/

namespace Sys2Proof.Machine

/-! Registers and fields -/

/-- A field of all 32 bits is the word. -/
theorem Fld.of_whole (a : Nat) (w : Word) : (⟨a, 31, 0⟩ : Fld).of w = w.toNat := by
  have := w.isLt
  simp only [Fld.of, Nat.pow_zero, Nat.div_one, Nat.sub_zero]
  omega

/-- A register that holds none of the fields listed is as it was. -/
theorem OnlyFlds.reg {fs : List Fld} {s t : State} (h : OnlyFlds fs s t) {a : Nat} (ha : ∀ f ∈ fs, a ≠ f.addr) :
    t.reg a = s.reg a := by
  have hw := h ⟨a, 31, 0⟩ rfl (fun f hf => by simp [Fld.apart, Ne.symm (ha f hf)])
  simp only [State.fld, Fld.of_whole] at hw
  exact BitVec.eq_of_toNat_eq hw

/-- A change of one register alone. -/
theorem OnlyFlds.of_reg {fs : List Fld} {s t : State} {a : Nat} (hm : (⟨a, 31, 0⟩ : Fld) ∈ fs)
    (h : ∀ b, b ≠ a → t.reg b = s.reg b) : OnlyFlds fs s t := by
  intro g hg ha
  obtain ⟨h1, h2⟩ : g.lo ≤ g.hi ∧ g.hi ≤ 31 := by simpa [Fld.ok] using hg
  have hb : g.addr ≠ a := by
    have hap := ha _ hm
    simp only [Fld.apart, Bool.or_eq_true, decide_eq_true_eq] at hap
    omega
  simp only [State.fld, h _ hb]

/-! What reads registers and not the authorities -/

theorem State.setAuth_bitsOf (s : State) (x : Auth) (y : AuthState) (p : Access → Bool) (a : Nat) :
    (s.setAuth x y).bitsOf p a = s.bitsOf p a := by cases x <;> rfl

theorem State.setAuth_tileRole (s : State) (x : Auth) (y : AuthState) : (s.setAuth x y).tileRole = s.tileRole := by cases x <;> rfl

theorem State.setAuth_localRun (s : State) (x : Auth) (y : AuthState) (c : Change) :
    (s.setAuth x y).localRun c = s.localRun c := by cases x <;> rfl

/-- The start of an action leaves the role. -/
@[simp] theorem State.started_tileRole (s : State) (h : Hdr) (op : Nat) : (s.started h op).tileRole = s.tileRole :=
  s.setAuth_tileRole _ _

/-- The start of an action leaves what may be written where. -/
@[simp] theorem State.started_bitsOf (s : State) (h : Hdr) (op : Nat) (p : Access → Bool) (a : Nat) :
    (s.started h op).bitsOf p a = s.bitsOf p a := s.setAuth_bitsOf _ _ p a

@[simp] theorem State.started_rwBits (s : State) (h : Hdr) (op a : Nat) : (s.started h op).rwBits a = s.rwBits a := by
  simp [State.rwBits]

@[simp] theorem State.started_rwsBits (s : State) (h : Hdr) (op a : Nat) : (s.started h op).rwsBits a = s.rwsBits a := by
  simp [State.rwsBits]

@[simp] theorem State.started_writable (s : State) (h : Hdr) (op a : Nat) : (s.started h op).writable a = s.writable a := by
  simp [State.writable]

@[simp] theorem State.started_localRun (s : State) (h : Hdr) (op : Nat) (c : Change) : (s.started h op).localRun c = s.localRun c :=
  s.setAuth_localRun _ _ c

@[simp] theorem State.started_directFails (s : State) (h : Hdr) (op : Nat) (c : Change) :
    (s.started h op).directFails c = s.directFails c := by
  simp [State.directFails]

@[simp] theorem State.started_reg (s : State) (h : Hdr) (op a : Nat) : (s.started h op).reg a = s.reg a := by
  simp [State.reg]

@[simp] theorem State.started_txn (s : State) (h : Hdr) (op : Nat) : (s.started h op).txn = s.txn := s.setAuth_txn _ _

/-- The start of an action opens no transaction. -/
@[simp] theorem State.started_opened (s : State) (h : Hdr) (op : Nat) (a : Auth) : ((s.started h op).auth a).opened = (s.auth a).opened :=
  ((s.started_auths h op).1 a).1

@[simp] theorem State.started_flag (s : State) (h : Hdr) (op : Nat) (f : Fld) : (s.started h op).flag f = s.flag f := by
  simp [State.flag, s.started_fld]

/-! One word written (R12, R43, R73) -/

/-- No word written changes nothing. -/
theorem State.writeWords_nil (s : State) : s.writeWords [] = s := rfl

/-- A word without RW bits: no block follows it. -/
theorem State.writeWords_noRw (s : State) (a : Nat) (w : Word) (h : s.rwBits a = 0) : s.writeWords [(a, w)] = s.writeNow (a, w) := by
  simp [State.writeWords, h]

/-- R12: a write of a word of W1C and RO bits: each 1 clears its W1C bit, and nothing else changes. -/
theorem State.writeNow_w1c (s : State) (a : Nat) (w : Word) (hrw : s.rwBits a = 0) (hwo : s.bitsOf (· == .wo) a = 0) :
    OnlyParts [.regs] s (s.writeNow (a, w)) ∧ (s.writeNow (a, w)).reg a = s.reg a &&& ~~~(s.bitsOf (· == .w1c) a &&& w) ∧
    ∀ b, b ≠ a → (s.writeNow (a, w)).reg b = s.reg b := by
  have he : s.writeNow (a, w) = if s.bitsOf (· == .w1c) a &&& w = 0 then s
      else s.setReg a (s.reg a &&& ~~~(s.bitsOf (· == .w1c) a &&& w)) := by
    simp only [State.writeNow, hrw, hwo, BitVec.ofNat_eq_ofNat, BitVec.not_zero, BitVec.and_allOnes, BitVec.and_zero,
      BitVec.or_zero, BitVec.zero_or, if_true]
  rw [he]
  split
  · next hc =>
    refine ⟨.refl _ s, ?_, fun _ _ => rfl⟩
    rw [hc, BitVec.ofNat_eq_ofNat, BitVec.not_zero, BitVec.and_allOnes]
  · exact ⟨(State.setReg_evolves s a _ (List.Subset.refl _) (.refl _ s)).parts, by simp, fun b hb => s.reg_setReg_ne _ hb⟩

theorem addressed_wordChange (a : Nat) (w : Word) : addressed (wordChange (a, w)) = [(a, w)] := rfl

/-- R43: a word with bits of the other authority is refused. -/
theorem State.directRegs_notOwner (s : State) (auth : Auth) (seq a : Nat) (w : Word) (ho : notOwner auth a = true)
    (hw : s.writable a ≠ 0) : s.directRegs auth seq (wordChange (a, w)) = (s, .errAuth, .none) := by
  simp [State.directRegs, addressed_wordChange, ho, show s.writable a ≠ 0#32 from hw]

/-- R12, R44: a word of an authority's own without RWS bits is written at once, by a local write or by another. -/
theorem State.directRegs_atOnce (s : State) (auth : Auth) (seq a : Nat) (w : Word) (ho : notOwner auth a = false)
    (hr : s.rwsBits a = 0) : s.directRegs auth seq (wordChange (a, w)) = (s.writeWords [(a, w)], .ok, .none) := by
  simp [State.directRegs, State.localWrite, addressed_wordChange, ho, hr]

/-- R73: with SHADOW_EN at 0 a word of RWS bits is refused. -/
theorem State.directRegs_shadowOff (s : State) (auth : Auth) (seq a : Nat) (w : Word) (ho : notOwner auth a = false)
    (hr : s.rwsBits a ≠ 0) (hl : s.localRun (wordChange (a, w)) = false) (he : s.flag F.SYS_COMPAT_SHADOW_EN = false) :
    s.directRegs auth seq (wordChange (a, w)) = (s, .errState, .none) := by
  simp [State.directRegs, addressed_wordChange, ho, show s.rwsBits a ≠ 0#32 from hr, hl, he]

/-- R48, R74: one change within the limits joins the shadow set. -/
theorem growShadow_one (x : ShadowSet) (c : Change)
    (h : limitFails x.changes.length (if x.changes = [] then 60 else x.bytes) c = false) :
    ∃ n, growShadow x [c] = some ⟨x.changes ++ [c], n⟩ := by
  simp [growShadow, h]

/-- R73, R74: with SHADOW_EN at 1 a word of RWS bits of General's joins the shadow set, and nothing else changes. -/
theorem State.directRegs_shadowOn (s : State) (seq a : Nat) (w : Word) (ho : notOwner .general a = false)
    (hr : s.rwsBits a ≠ 0) (hl : s.localRun (wordChange (a, w)) = false) (he : s.flag F.SYS_COMPAT_SHADOW_EN = true)
    (hn : s.gen.opened = none) (ha : accessFails s.tileRole a w = false)
    (hm : limitFails s.txn.shadow.changes.length (if s.txn.shadow.changes = [] then 60 else s.txn.shadow.bytes)
      (wordChange (a, w)) = false) :
    ∃ n, s.directRegs .general seq (wordChange (a, w)) =
      ({ s with txn := { s.txn with shadow := ⟨s.txn.shadow.changes ++ [wordChange (a, w)], n⟩ } }, .ok, .none) := by
  obtain ⟨n, hg⟩ := growShadow_one _ _ hm
  have hr : s.rwsBits a ≠ 0#32 := hr
  refine ⟨n, ?_⟩
  have hs : s.shadowWrite (wordChange (a, w)) =
      ({ s with txn := { s.txn with shadow := ⟨s.txn.shadow.changes ++ [wordChange (a, w)], n⟩ } }, .ok) := by
    simp [State.shadowWrite, addressed_wordChange, hr, hn, ha, runsOf, hg, State.writeWords_nil]
  simp [State.directRegs, addressed_wordChange, ho, hr, hl, he, hs]

/-- R515: a direct WRITE to registers that is not refused at once answers what its words do. -/
theorem State.directWrite_regs {s u : State} {h : Hdr} {c : Change} {x : Status} {f : RFlags} (hf : s.directFails c = none)
    (hw : inWindow s.tileRole c = false) (hd : s.directRegs h.auth h.seq c = (u, x, f)) :
    s.directWrite h c = u.respond h 0x0011 ⟨x, f, []⟩ := by
  simp [State.directWrite, hf, hw, hd]

/-- R513, R515: a new direct WRITE of one register word answers what the word does. -/
theorem exec_directWord {s u : State} {h : Hdr} {a : Nat} {w : Word} {x : Status} {f : RFlags}
    (k : s.newAction h (.write (wordChange (a, w)))) (ho : (s.auth h.auth).opened = none)
    (hf : s.directFails (wordChange (a, w)) = none) (hw : inWindow s.tileRole (wordChange (a, w)) = false)
    (hd : (s.started h 0x0011).directRegs h.auth h.seq (wordChange (a, w)) = (u, x, f)) :
    exec (.writeCmd h (wordChange (a, w))) s = .next (u.respond h 0x0011 ⟨x, f, []⟩) := by
  rw [exec_hostCmd s _ h _ rfl, s.submit_direct h _ k rfl ho,
    State.directWrite_regs (by simpa using hf) (by simpa using hw) hd]

/-- A direct WRITE of a word of W1C and RO bits answers OK, and its 1s have cleared their bits. -/
theorem State.respond_clears (s : State) (h : Hdr) (a : Nat) (w : Word) (hrw : s.rwBits a = 0) (hwo : s.bitsOf (· == .wo) a = 0) :
    Acts s (((s.started h 0x0011).writeNow (a, w)).respond h 0x0011 (bareReply .ok)) h 0x0011 (bareReply .ok) [] [⟨a, 31, 0⟩] ∧
    (a ≠ F.SYS_CMD_EVT_RSP_READY.addr → (((s.started h 0x0011).writeNow (a, w)).respond h 0x0011 (bareReply .ok)).reg a =
      s.reg a &&& ~~~(s.bitsOf (· == .w1c) a &&& w)) := by
  obtain ⟨hp, hsame, hother⟩ := (s.started h 0x0011).writeNow_w1c a w (by simpa using hrw) (by simpa using hwo)
  refine ⟨s.respond_acts _ h 0x0011 _ [] _ (by simp [bareReply]) (.of_sent (hp .sent (by simp)))
    (hp.mono (by simp [answerParts])) (.of_reg (by simp) hother) (hp .gen (by simp)) (hp .gnt (by simp)), fun ha => ?_⟩
  rw [(State.respond_flds_ok _ h 0x0011 _ (by simp [bareReply])).reg (by simpa using ha), hsame, State.started_reg,
    State.started_bitsOf]

/-- The shadow set replaced, and OK answered. -/
theorem State.respond_shadow (s : State) (h : Hdr) (y : ShadowSet) :
    Acts s (({ s.started h 0x0011 with txn := { (s.started h 0x0011).txn with shadow := y } } : State).respond h 0x0011 (bareReply .ok))
      h 0x0011 (bareReply .ok) [.txn] [] :=
  s.respond_acts _ h 0x0011 _ [.txn] [] (by simp [bareReply]) (.of_sent rfl)
    ((Evolves.set_txn y _ _ _ _ (List.mem_singleton.mpr rfl) (.refl [.txn] _)).parts.mono (by simp)) (.of_regs rfl) rfl rfl

end Sys2Proof.Machine
end

section
/-! SUPPORT. What follows a write of SYS_COMPAT (R73): every block compares its settings with those before, finds them as they were,
and at most reports; so the discard of the shadow set is all that the write brings about. -/

namespace Sys2Proof.Machine

/-! What a settled change keeps -/

/-- The registers that a block writes even where no setting of its own has changed: SDI_BUDGET, the receive filters of both network
ports, CMP_BUDGET, MLK_EVT, the quads' status, LMB_EVT, LMB_BANK and LMB_DIAG_STAT. -/
abbrev Reports (a : Nat) : Prop :=
  a = 0x100004 ∨ (0x110100 ≤ a ∧ a < 0x110200) ∨ (0x120100 ≤ a ∧ a < 0x120200) ∨ a = 0x18000C ∨ a = 0x200008 ∨
  (0x240100 ≤ a ∧ a < 0x240134) ∨ a = 0x2C0008 ∨ (0x2C0040 ≤ a ∧ a < 0x2C0060) ∨ a = 0x2C0078

/-- From `s` to `t` no register changes but those that report, and no transaction. -/
structure Settled (s t : State) : Prop where
  reg : ∀ a, ¬Reports a → t.reg a = s.reg a
  txn : t.txn = s.txn

theorem Settled.refl (s : State) : Settled s s := ⟨fun _ _ => rfl, rfl⟩

theorem Settled.trans {s t u : State} (h : Settled s t) (k : Settled t u) : Settled s u :=
  ⟨fun a ha => (k.reg a ha).trans (h.reg a ha), k.txn.trans h.txn⟩

/-- A change of parts other than registers and transactions. -/
theorem Settled.of_evolves {ps : List Part} {s t : State} (h : Evolves ps s t) (hr : Part.regs ∉ ps) (ht : Part.txn ∉ ps) :
    Settled s t :=
  ⟨fun a _ => by simp only [State.reg, show t.regs = s.regs from h.parts .regs hr], h.parts .txn ht⟩

theorem Settled.setFld {b s : State} {a hi lo : Nat} (v : Nat) (hf : Reports a) (h : Settled b s) :
    Settled b (s.setFld ⟨a, hi, lo⟩ v) :=
  h.trans ⟨fun _ ha => s.reg_setFld_ne v (fun he => ha (he ▸ hf)), rfl⟩

theorem Settled.setFlag {b s : State} {a hi lo : Nat} (x : Bool) (hf : Reports a) (h : Settled b s) :
    Settled b (s.setFlag ⟨a, hi, lo⟩ x) :=
  h.setFld _ hf

theorem Settled.event {b s : State} {a hi lo : Nat} (hf : Reports a) (h : Settled b s) : Settled b (s.event ⟨a, hi, lo⟩) :=
  h.setFld 1 hf

theorem Settled.foldl {α : Type} {b s : State} (l : List α) (f : State → α → State) (hf : ∀ u, ∀ x ∈ l, Settled u (f u x))
    (h : Settled b s) : Settled b (l.foldl f s) := by
  induction l generalizing s with
  | nil => exact h
  | cons x l ih => exact ih (fun u y hy => hf u y (List.mem_cons_of_mem _ hy)) (h.trans (hf s x List.mem_cons_self))

/-- The registers of `s` and `t` are the same but for SYS_COMPAT and those that report. -/
def SameSettings (s t : State) : Prop := ∀ a, a ≠ 0x210 → ¬Reports a → t.reg a = s.reg a

theorem SameSettings.settled {b s t : State} (h : SameSettings b s) (k : Settled s t) : SameSettings b t :=
  fun a hc hr => (k.reg a hr).trans (h a hc hr)

theorem SameSettings.fld {s t : State} (h : SameSettings s t) {a hi lo : Nat} (hc : a ≠ 0x210) (hr : ¬Reports a) :
    t.fld ⟨a, hi, lo⟩ = s.fld ⟨a, hi, lo⟩ := by
  simp only [State.fld, h a hc hr]

theorem SameSettings.flag {s t : State} (h : SameSettings s t) {a hi lo : Nat} (hc : a ≠ 0x210) (hr : ¬Reports a) :
    t.flag ⟨a, hi, lo⟩ = s.flag ⟨a, hi, lo⟩ := by
  simp only [State.flag, h.fld hc hr]

/-- A fold whose steps leave its start as it is. -/
theorem foldl_fixed_mem {α β : Type} {f : β → α → β} {s : β} {l : List α} (h : ∀ x ∈ l, f s x = s) : l.foldl f s = s := by
  induction l with
  | nil => rfl
  | cons x l ih =>
    rw [List.foldl_cons, h x List.mem_cons_self]
    exact ih (fun y hy => h y (List.mem_cons_of_mem _ hy))

/-! Block by block: where the settings are the same, nothing follows but reports -/

theorem SameSettings.reactCuff {before s : State} (h : SameSettings before s) : State.reactCuff before s = s := by
  unfold State.reactCuff
  exact if_pos (h.fld (by omega) (by omega)).symm

theorem SameSettings.reactCadence {before s : State} (h : SameSettings before s) : State.reactCadence before s = s := by
  have hr : s.reg 0x180024 = before.reg 0x180024 := h _ (by omega) (by omega)
  have ho : s.flipOffset = before.flipOffset := by
    unfold State.flipOffset
    rw [h.fld (by omega) (by omega)]
  unfold State.reactCadence
  exact if_pos (by simp [hr, ho])

theorem SameSettings.reactThermal {before s : State} (h : SameSettings before s) : State.reactThermal before s = s := by
  unfold State.reactThermal
  refine foldl_fixed_mem fun n hn => ?_
  have hn := List.mem_range.mp hn
  have he : s.flag (F.THM_TEMP_CFG_EN n) = before.flag (F.THM_TEMP_CFG_EN n) := h.flag (by omega) (by omega)
  simp [he]

theorem SameSettings.reactTime {before s : State} (h : SameSettings before s) : State.reactTime before s = s := by
  have h0 : s.fld F.PTP_CTL_SOURCE = before.fld F.PTP_CTL_SOURCE := h.fld (by omega) (by omega)
  have h1 : s.fld F.PTP_CTL_SELECT = before.fld F.PTP_CTL_SELECT := h.fld (by omega) (by omega)
  unfold State.reactTime
  rw [if_pos ⟨h0.symm, h1.symm⟩]
  refine foldl_fixed_mem fun n hn => if_neg ?_
  have hn := List.mem_range.mp hn
  simp only [List.any_eq_true, List.mem_range, bne_iff_ne, not_exists, not_and, not_not]
  exact fun i hi => (h _ (by omega) (by omega)).symm

/-- The words of a source's descriptor are all that its configuration reads. -/
theorem sourceConfig_congr {u v : Nat → Word} (i : Nat) (h : ∀ a, 0x100100 + 0x40 * i ≤ a → a < 0x100128 + 0x40 * i → u a = v a) :
    sourceConfig u i = sourceConfig v i := by
  have hf : ∀ k hi lo, k < 0x28 → vf u ⟨0x100100 + k + 0x40 * i, hi, lo⟩ = vf v ⟨0x100100 + k + 0x40 * i, hi, lo⟩ :=
    fun k hi lo hk => congrArg (Fld.of _) (h _ (by simp only; omega) (by simp only; omega))
  have h00 := fun hi lo => hf 0x00 hi lo (by omega)
  have h04 := fun hi lo => hf 0x04 hi lo (by omega)
  have h08 := fun hi lo => hf 0x08 hi lo (by omega)
  have h10 := hf 0x10 31 12 (by omega)
  have h14 := hf 0x14 3 0 (by omega)
  have h18 := hf 0x18 10 0 (by omega)
  have h1c := hf 0x1C 31 0 (by omega)
  have h20 := fun hi lo => hf 0x20 hi lo (by omega)
  have h24 := hf 0x24 31 0 (by omega)
  simp only [sourceConfig, srcBase, srcPitch, h00, h04, h08, h10, h14, h18, h1c, h20, h24]

theorem SameSettings.reactSource {before s : State} (h : SameSettings before s) {i : Nat} (hi : i < 16) :
    State.reactSource before s i = s := by
  have he : s.flag (F.SDI_SRC_CTL_EN i) = before.flag (F.SDI_SRC_CTL_EN i) := h.flag (by omega) (by omega)
  have hc : sourceConfig s.reg i = sourceConfig before.reg i :=
    sourceConfig_congr i fun a _ _ => h a (by omega) (by omega)
  unfold State.reactSource
  cases hb : before.flag (F.SDI_SRC_CTL_EN i) <;> simp [he, hb, hc]

theorem SameSettings.reactSources {before s : State} (h : SameSettings before s) : Settled s (State.reactSources before s) := by
  unfold State.reactSources
  rw [foldl_fixed_mem fun i hi => h.reactSource (List.mem_range.mp hi)]
  exact (Settled.refl s).setFld _ (by omega)

/-- R125: the receive filters of a port. -/
theorem State.writeFilters_settled (s : State) {p : Nat} (hp : p < 2) : Settled s (s.writeFilters p) := by
  unfold State.writeFilters
  refine Settled.foldl _ _ (fun u f hf => ?_) (.refl s)
  have hf := List.mem_range.mp hf
  have hlo : Reports (0x110100 + 0x10000 * p + 0x8 * f) := by omega
  have hhi : Reports (0x110104 + 0x10000 * p + 0x8 * f) := by omega
  split <;> exact (((Settled.refl u).setFld _ hlo).setFld _ hhi).setFlag _ hhi

/-- A write of SYS_COMPAT touches no run of words above it. -/
theorem touches_compat {lo : Nat} (hi : Nat) (w : Word) (h : 0x214 ≤ lo) : touches lo hi (wordChange (0x210, w)) = false := by
  refine decide_eq_false ?_
  simp only [wordChange, List.length_singleton]
  omega

/-- A word written is a change of the device's own. -/
theorem ownChanges_wordChange (x : Nat × Word) : ownChanges [wordChange x] = [wordChange x] := rfl

theorem SameSettings.reactNet {before s : State} (h : SameSettings before s) (w : Word) :
    Settled s (State.reactNet before s [wordChange (0x210, w)]) := by
  unfold State.reactNet
  split
  · have hp : ∀ p ∈ [0, 1], before.reg (0x110000 + 0x10000 * p) = s.reg (0x110000 + 0x10000 * p) := fun p hp => by
      have hp : p = 0 ∨ p = 1 := by simpa using hp
      exact (h _ (by omega) (by omega)).symm
    dsimp only
    have ht (p : Nat) := touches_compat (0x110000 + 0x10000 * p + 4) w (show 0x214 ≤ 0x110000 + 0x10000 * p by omega)
    rw [foldl_fixed_mem fun p hm => if_neg (by simp [hp p hm, ownChanges_wordChange, ht p])]
    exact (s.writeFilters_settled (by omega)).trans (State.writeFilters_settled _ (by omega))
  · exact .refl s

/-- R298: the quad registers. -/
theorem State.quads_settled (s : State) : Settled s s.quads := by
  unfold State.quads
  refine Settled.foldl _ _ (fun u q hq => ?_) (.refl s)
  have hq := List.mem_range.mp hq
  have hr : Reports (0x240100 + 0x4 * q) := by omega
  exact (((Settled.refl u).setFld _ hr).setFlag _ hr).setFlag _ hr

theorem SameSettings.reactTests {before s : State} (h : SameSettings before s) : State.reactTests before s = s := by
  unfold State.reactTests
  refine foldl_fixed_mem fun n hn => ?_
  have hn := List.mem_range.mp (List.mem_filter.mp hn).1
  have hb : s.flag (F.SER_LANE_CTL_PRBS_EN n) = before.flag (F.SER_LANE_CTL_PRBS_EN n) := h.flag (by omega) (by omega)
  have hf : s.flag (F.SER_LANE_CTL_FORCE_OUT n) = before.flag (F.SER_LANE_CTL_FORCE_OUT n) :=
    h.flag (by omega) (by omega)
  simp [hb, hf]

theorem SameSettings.reactLanes {before s : State} (h : SameSettings before s) : Settled s (State.reactLanes before s) := by
  unfold State.reactLanes
  rw [h.reactTests]
  dsimp only
  split
  · exact .refl s
  · rw [foldl_fixed_mem]
    · exact s.quads_settled
    · intro p hp
      have hp := List.mem_range.mp hp
      exact if_pos (h.flag (by omega) (by omega)).symm

/-- R70: a fence is armed by a buffer that has changed. -/
theorem SameSettings.armFence {before s : State} (h : SameSettings before s) {v k : Nat} (hv : v < 8) (hk : k < 64) :
    State.armFence before s v k = s := by
  have hb : (bufWords v k).any (fun a => before.reg a != s.reg a) = false := by
    simp only [bufWords, List.any_map, List.any_eq_false, List.mem_range, Function.comp_apply, bne_iff_ne, not_not]
    exact fun i hi => (h _ (by omega) (by omega)).symm
  unfold State.armFence
  simp [hb]

theorem SameSettings.reactCompositor {before s : State} (h : SameSettings before s) (w : Word) :
    Settled s (State.reactCompositor before s [wordChange (0x210, w)]) := by
  have hf : State.reactFences before s = s :=
    foldl_fixed_mem fun i hi => h.armFence (by have := List.mem_range.mp hi; omega) (Nat.mod_lt _ (by omega))
  have hm : publishesMap [wordChange (0x210, w)] = false := by
    simp [publishesMap, ownChanges_wordChange, touches_compat]
  have hs : Settled s s.reactViews.reactReads :=
    (Settled.of_evolves (ps := [.scan]) (State.reactViews_evolves s (List.Subset.refl _) (.refl _ s)) (by simp) (by simp)).setFld
      _ (by omega)
  unfold State.reactCompositor
  rw [hf, hm]
  split
  · exact .refl s
  · simpa using hs

/-- What diagnostics hold is no register. -/
theorem State.diag_settled (s : State) (x : DiagState) : Settled s { s with diag := x } := ⟨fun _ _ => rfl, rfl⟩

/-- R375: the end of a round of diagnostics. -/
theorem State.roundEnds_settled (s : State) : Settled s s.roundEnds := by
  have hr : Reports 0x2C0078 := by omega
  unfold State.roundEnds
  split
  · exact .refl s
  · split
    · exact ((s.diag_settled _).setFlag _ hr).setFlag _ hr
    · exact .refl s

theorem SameSettings.reactTile {before s : State} (h : SameSettings before s) (w : Word) :
    Settled s (State.reactTile before s [wordChange (0x210, w)]) := by
  have hg : before.reg 0x280000 = s.reg 0x280000 := (h _ (by omega) (by omega)).symm
  have hl : [wordChange (0x210, w)].any (touches 0x280040 0x280044) = false := by simp [touches_compat]
  unfold State.reactTile
  rw [if_pos hg, hl]
  dsimp only
  simp only [Bool.false_eq_true, false_and, if_false]
  split
  · split
    · exact .refl s
    · exact (s.diag_settled _).trans (State.roundEnds_settled _)
  · exact .refl s

/-- R255: a fault record leaves the registers but FAULT_OVF, and the transactions. -/
theorem State.fault_settled (s : State) (cls code : Nat) (detail : List Byte) : Settled s (s.fault cls code detail) := by
  have hn : ∀ c d bs, Settled s (s.newFault c d bs) := fun c d bs => Settled.of_evolves
    (ps := [.sent, .link, .repl, .faults, .nvm, .red]) (State.newFault_evolves s c d bs (List.Subset.refl _) (.refl _ s))
    (by simp) (by simp)
  have hf : ∀ c d, Settled s (s.foldInto c d) := fun c d => ⟨fun _ _ => rfl, rfl⟩
  have hr : Reports 0x200008 := by omega
  unfold State.fault
  split
  · exact hf _ _
  · split
    · split
      · exact (hf _ _).event hr
      · exact (hn _ _ _).event hr
    · exact hn _ _ _

/-- R333: a bank of supplies is judged. -/
theorem State.judgeBank_settled (s : State) {b : Nat} (hb : b < 8) : Settled s (s.judgeBank b) := by
  have hs (x : Bool) : Settled s (s.setFlag (F.LMB_BANK_FAULT b) x) := (Settled.refl s).setFlag x (by omega)
  unfold State.judgeBank
  dsimp only
  split
  · exact ((hs _).event (by omega)).trans (State.fault_settled _ _ _ _)
  · exact hs _

theorem SameSettings.reactLamp {before s : State} (h : SameSettings before s) : Settled s (State.reactLamp before s) := by
  unfold State.reactLamp
  split
  · have hj : Settled s ((List.range 8).foldl State.judgeBank s) :=
      Settled.foldl _ _ (fun u b hb => u.judgeBank_settled (List.mem_range.mp hb)) (.refl s)
    dsimp only
    generalize (List.range 8).foldl State.judgeBank s = t at *
    have k := h.settled hj
    have hon : (List.range 64).filter (fun p => !before.flag (F.LMB_PORT_CTL_EN p) && t.flag (F.LMB_PORT_CTL_EN p)) = [] := by
      refine List.filter_eq_nil_iff.mpr fun p hp => ?_
      have hp := List.mem_range.mp hp
      have he : t.flag (F.LMB_PORT_CTL_EN p) = before.flag (F.LMB_PORT_CTL_EN p) := k.flag (by omega) (by omega)
      simp [he]
    have h10 : t.reg 0x2C0010 = before.reg 0x2C0010 := k _ (by omega) (by omega)
    have h14 : t.reg 0x2C0014 = before.reg 0x2C0014 := k _ (by omega) (by omega)
    have hx : ∀ x, t.reg (0x2D0000 + 0x20 * x) = before.reg (0x2D0000 + 0x20 * x) ∧
        t.reg (0x2D0008 + 0x20 * x) = before.reg (0x2D0008 + 0x20 * x) := fun x =>
      ⟨k _ (by omega) (by omega), k _ (by omega) (by omega)⟩
    simpa [hon, h10, h14, hx] using hj
  · exact .refl s

/-- The discard of the shadow set leaves the registers. -/
theorem State.reactShadow_reg (s : State) (a : Nat) : s.reactShadow.reg a = s.reg a := by
  unfold State.reactShadow
  split <;> rfl

/-- R73: with SHADOW_EN at 0 the shadow set is discarded. -/
theorem State.reactShadow_off (s : State) (h : s.flag F.SYS_COMPAT_SHADOW_EN = false) :
    s.reactShadow = { s with txn := { s.txn with shadow := ⟨[], 0⟩ } } := by
  unfold State.reactShadow
  rw [h, if_neg Bool.false_ne_true]

/-- R73: once SYS_COMPAT alone has been written, what follows is the discard of the shadow set, and reports. -/
theorem SameSettings.react {before s : State} (h : SameSettings before s) (w : Word) :
    Settled s.reactShadow (State.react before s [wordChange (0x210, w)]) := by
  have h1 : SameSettings before s.reactShadow := fun a hc hr => by
    rw [State.reactShadow_reg, h a hc hr]
  unfold State.react
  dsimp only
  rw [h1.reactCuff, h1.reactCadence, h1.reactThermal, h1.reactTime]
  have k1 := h1.reactSources
  have k2 := k1.trans ((h1.settled k1).reactNet w)
  have k3 := k2.trans (h1.settled k2).reactLanes
  have k4 := k3.trans ((h1.settled k3).reactCompositor w)
  have k5 := k4.trans ((h1.settled k4).reactTile w)
  exact k5.trans (h1.settled k5).reactLamp

/-! SYS_COMPAT and its writes (R12, R73, R74) -/

theorem findReg_compat : findReg 0x210 = some (⟨0x210, [], none, [Row.rw 0 0 0]⟩, []) := by decide

theorem leavesRegion_compat (tile : Bool) (w : Word) : leavesRegion tile (wordChange (0x210, w)) = false := by
  cases tile <;> rfl

theorem inWindow_compat (tile : Bool) (w : Word) : inWindow tile (wordChange (0x210, w)) = false := by
  cases tile <;> simp [inWindow, windows, touches_compat]

/-- R515: a write of SYS_COMPAT is not refused at once. -/
theorem State.directFails_compat (s : State) (w : Word) : s.directFails (wordChange (0x210, w)) = none := by
  unfold State.directFails
  rw [leavesRegion_compat]
  simp [wordChange]

theorem writeMask_compat (tile : Bool) : writeMask tile 0x210 = 1 := by cases tile <;> decide

/-- The bits of SYS_COMPAT: SHADOW_EN alone, of type RW, in both roles. -/
theorem State.bitsOf_compat (s : State) (p : Access → Bool) : s.bitsOf p 0x210 = if p .rw then 1 else 0 := by
  have ha : s.absentReg 0x210 = false := by simp [State.absentReg]
  unfold State.bitsOf
  rw [ha, findReg_compat]
  cases hp : p .rw <;> simp [RegDef.mask, Row.rw, hp]

theorem State.rwBits_compat (s : State) : s.rwBits 0x210 = 1 := by
  rw [State.rwBits, State.bitsOf_compat, writeMask_compat]; rfl

theorem State.rwsBits_compat (s : State) : s.rwsBits 0x210 = 0 := by
  rw [State.rwsBits, State.bitsOf_compat, writeMask_compat]; rfl

/-- R12: a write of 0 to SYS_COMPAT clears SHADOW_EN alone. -/
theorem State.writeNow_compat (s : State) : s.writeNow (0x210, 0) = s.setReg 0x210 (s.reg 0x210 &&& ~~~1) := by
  have hc : s.bitsOf (· == .w1c) 0x210 = 0 := s.bitsOf_compat _
  have hwo : s.bitsOf (· == .wo) 0x210 = 0 := s.bitsOf_compat _
  simp only [State.writeNow, s.rwBits_compat, hc, hwo, BitVec.ofNat_eq_ofNat, BitVec.zero_and, BitVec.or_zero, BitVec.not_zero,
    BitVec.and_allOnes, if_true]
  rfl

/-- A word with RW bits: the blocks follow it. -/
theorem State.writeWords_rw (s : State) (a : Nat) (w : Word) (h : s.rwBits a ≠ 0) :
    s.writeWords [(a, w)] = State.react s (s.writeNow (a, w)) [wordChange (a, w)] := by
  simp [State.writeWords, show s.rwBits a ≠ 0#32 from h]

/-- R73: a write of 0 to SYS_COMPAT, with what follows it. -/
theorem State.writeWords_compat (s : State) :
    s.writeWords [(0x210, 0)] = State.react s (s.setReg 0x210 (s.reg 0x210 &&& ~~~1)) [wordChange (0x210, 0)] := by
  rw [s.writeWords_rw 0x210 0 (by rw [s.rwBits_compat]; decide), s.writeNow_compat]

/-- A one-bit field at bit 0 is 0 in a word whose bit 0 has been cleared. -/
theorem Fld.of_bit0_clear (a : Nat) (w : Word) : (⟨a, 0, 0⟩ : Fld).of (w &&& ~~~1) = 0 := by
  have hb : (w &&& ~~~1).toNat.testBit 0 = false := by rw [BitVec.testBit_toNat]; simp
  rw [Nat.testBit_zero, decide_eq_false_iff_not] at hb
  simp only [Fld.of, Nat.pow_zero, Nat.div_one, Nat.sub_self, Nat.zero_add, Nat.pow_one]
  exact Nat.mod_two_ne_one.mp hb

/-- R73: a write of 0 to SYS_COMPAT leaves SHADOW_EN at 0 and the shadow set empty, and keeps the fences. -/
theorem State.writeWords_compat_discards (s : State) :
    (s.writeWords [(0x210, 0)]).flag F.SYS_COMPAT_SHADOW_EN = false ∧
    (s.writeWords [(0x210, 0)]).txn = { s.txn with shadow := ⟨[], 0⟩ } := by
  rw [s.writeWords_compat]
  generalize hu : s.setReg 0x210 (s.reg 0x210 &&& ~~~1) = u
  have hsame : SameSettings s u := fun a ha _ => by rw [← hu]; exact s.reg_setReg_ne _ ha
  have hoff : u.flag F.SYS_COMPAT_SHADOW_EN = false := by
    rw [← hu]
    simp only [State.flag, State.fld, State.reg_setReg_same, Fld.of_bit0_clear]; rfl
  obtain ⟨hreg, htxn⟩ := hsame.react 0
  constructor
  · rw [← hoff]
    simp only [State.flag, State.fld, hreg 0x210 (by omega), State.reactShadow_reg]
  · rw [htxn, u.reactShadow_off hoff, ← hu]; rfl

/-- A register word that is not refused at once is written as a direct WRITE writes it. -/
theorem State.registerWrite_regs (s : State) (auth : Auth) (a : Nat) (w : Word) (ht : s.takesWrites = true)
    (hf : s.directFails (wordChange (a, w)) = none) (hw : inWindow s.tileRole (wordChange (a, w)) = false) :
    s.registerWrite auth a w = (s.directRegs auth 0 (wordChange (a, w))).1 := by
  simp [State.registerWrite, ht, hf, hw]

end Sys2Proof.Machine
end

section
/-! SUPPORT. A state that meets the conditions which O8, O23 and O24 ask. -/

namespace Sys2Proof.Machine

/-- A tile that runs and takes commands at its host SPI port, with a value in SYS_COMPAT. -/
def runningTile (compat : Word) : State :=
  { State.reset with
    regs := [(F.SYS_MODE_MODE.addr, 4), (F.SYS_COMPAT_SHADOW_EN.addr, compat)]
    cmd := { State.reset.cmd with comm := some ⟨[], [], 16, 1, 0, 0, []⟩ } }

/-- General's first command, at the host SPI port. -/
def firstHdr : Hdr := ⟨.general, 1, 0, false, .hspi⟩

/-- O8 is about commands that there are. -/
theorem runningTile_takes_regRead : (runningTile 0).takes firstHdr (.regRead 0x200 4) := by
  unfold State.takes
  decide

theorem runningTile_mode (compat : Word) : (runningTile compat).mode = .tile := by
  have hr : (runningTile compat).reg 0x8 = 4 := rfl
  simp only [State.mode, State.fld, hr]
  decide

theorem runningTile_tileRole (compat : Word) : (runningTile compat).tileRole = true := by
  have hr : (runningTile compat).reg 0x4 = regReset 0x4 := rfl
  simp only [State.tileRole, State.fld, hr]
  decide

/-- O23 is about direct WRITEs that there are. -/
theorem runningTile_newAction (compat : Word) (x : Nat × Word) :
    (runningTile compat).newAction firstHdr (.write (wordChange x)) ∧ ((runningTile compat).auth firstHdr.auth).opened = none := by
  have hm := runningTile_mode compat
  have ht : (runningTile compat).takes firstHdr (.write (wordChange x)) := by
    refine ⟨?_, rfl, rfl, .inl rfl, ?_, ?_, nofun, rfl, fun _ => ⟨rfl, rfl⟩, rfl⟩
    · simp only [State.engineRuns, hm]; rfl
    · rw [State.roleHas, if_pos (runningTile_tileRole compat)]; rfl
    · rw [hm]; rfl
  have hn : (runningTile compat).auth .general = .fresh := rfl
  have hb : (runningTile compat).mayRun .general (.write (wordChange x)) = true := by
    simp [State.mayRun, State.authBusy, State.running, State.commitRuns, runningTile, State.reset]
  refine ⟨⟨⟨ht, by rw [hm]; nofun, ?_, hb⟩, Nat.one_ne_zero, ?_, ?_⟩, ?_⟩ <;> simp [firstHdr, hn, AuthState.fresh]

/-- The cases of O23 on that tile: a word of the Gauntlet's, an event register, and a word of RWS bits. -/
theorem runningTile_words :
    (∀ a ∈ [0x280050, 0x304, 0x214], (runningTile 0).directFails (wordChange (a, 1)) = none ∧
      inWindow (runningTile 0).tileRole (wordChange (a, 1)) = false) ∧
    (notOwner .general 0x280050 = true ∧ (runningTile 0).writable 0x280050 ≠ 0) ∧
    (notOwner .general 0x304 = false ∧ (runningTile 0).rwBits 0x304 = 0 ∧ (runningTile 0).rwsBits 0x304 = 0 ∧
      (runningTile 0).bitsOf (· == .wo) 0x304 = 0) ∧
    (notOwner .general 0x214 = false ∧ (runningTile 0).rwsBits 0x214 ≠ 0 ∧
      (runningTile 0).localRun (wordChange (0x214, 1)) = false ∧ accessFails (runningTile 1).tileRole 0x214 1 = false ∧
      limitFails (runningTile 1).txn.shadow.changes.length 60 (wordChange (0x214, 1)) = false) := by
  decide

/-- O24 is about states that there are, and SHADOW_EN may be at 1 or at 0 in them. -/
theorem runningTile_takesWrites :
    (runningTile 1).takesWrites = true ∧ (runningTile 1).flag F.SYS_COMPAT_SHADOW_EN = true ∧
    (runningTile 0).flag F.SYS_COMPAT_SHADOW_EN = false := by
  decide

end Sys2Proof.Machine
end

section
/-! CERTIFICATES. Serial numbers, register reads and register writes (O3, O8, O23, O24). -/

namespace Sys2Proof.Machine

/-- Settles O3: the comparison is the one of R592, and a fence at 2^31 from a value neither moves to it nor satisfies it. -/
theorem serialNumbersCompare : Obligations.SerialNumbersCompare := by
  intro a b ha hb
  refine ⟨laterSerial_iff ha hb, laterSerial_self ha, not_laterSerial_both ha hb, fun hopp => ?_, laterSerial_or ha hb⟩
  obtain ⟨hab, hba⟩ := laterSerial_opposite ha hb hopp
  refine ⟨hab, hba, fun s n hf => ?_⟩
  have hfa : (s.fence n).toNat = a := by rw [hf, BitVec.toNat_ofNat, Nat.mod_eq_of_lt ha]
  have hvb : (BitVec.ofNat 32 b).toNat = b := by rw [BitVec.toNat_ofNat, Nat.mod_eq_of_lt hb]
  have hne : s.fence n ≠ BitVec.ofNat 32 b := by
    intro he
    rw [← hfa, ← hvb, he] at hopp
    omega
  exact ⟨s.signalFence_not_later n _ (by rw [hfa, hvb, hba]), s.fenceMet_not_later n _ hne (by rw [hfa, hvb, hab])⟩

/-- Settles O8: REG_READ is a query, so it runs at once and its response is all that changes. -/
theorem registerReadAnswers : Obligations.RegisterReadAnswers := by
  intro s h addr count ht h1 h2
  refine ⟨_, exec_hostCmd s _ h _ rfl, ?_⟩
  rw [s.submit_query h _ ht rfl]
  show Replies s (s.doRegRead h addr count) h 0x0003 _ [] []
  rw [s.doRegRead_eq h addr count h1 h2]
  refine s.respond_replies_here h _ _ ?_
  split <;> simp [okReply, bareReply]

/-- Settles O23: `exec_directWord` gives the response, and a `directRegs` lemma for each access type says what is done before it. -/
theorem directWriteByAccess : Obligations.DirectWriteByAccess := by
  intro s h a w k ho hf hw
  refine ⟨fun hn hwr => ?notOwner, fun hn => ⟨fun hrw hrws hwo => ?atOnce, fun hrws hl he => ?shadowOff,
    fun hrws hl he hg ha hm => ?shadowOn⟩⟩
  case notOwner =>
    exact ⟨_, exec_directWord k ho hf hw (State.directRegs_notOwner _ _ _ _ _ hn (by simpa using hwr)),
      s.respond_acts_here h _ _ (by simp)⟩
  case atOnce =>
    have hd := State.directRegs_atOnce (s.started h 0x0011) h.auth h.seq a w hn (by simpa using hrws)
    rw [State.writeWords_noRw _ _ _ (by simpa using hrw)] at hd
    exact ⟨_, exec_directWord k ho hf hw hd, s.respond_clears h a w hrw hwo⟩
  case shadowOff =>
    exact ⟨_, exec_directWord k ho hf hw (State.directRegs_shadowOff _ _ _ _ _ hn (by simpa using hrws)
      ((s.started_localRun _ _ _).trans hl) ((s.started_flag _ _ _).trans he)), s.respond_acts_here h _ _ (by simp)⟩
  case shadowOn =>
    have hgen : s.gen.opened = none := by rw [hg] at ho; exact ho
    obtain ⟨n, hd⟩ := State.directRegs_shadowOn (s.started h 0x0011) h.seq a w (hg ▸ hn) (by simpa using hrws)
      ((s.started_localRun _ _ _).trans hl) ((s.started_flag _ _ _).trans he) ((s.started_opened h _ .general).trans hgen)
      (by simpa using ha) (by rw [s.started_txn]; exact hm)
    refine ⟨_, exec_directWord k ho hf hw (hg ▸ hd), s.respond_shadow h _, ?_, ?_⟩ <;> simp [wordChange]

/-- Settles O24: a word acts by the `directRegs` lemma of its access type; what follows a write of SYS_COMPAT discards the shadow
set and changes no other setting, so no block but the shadow set's acts on it. -/
theorem registerWritesByAccess : Obligations.RegisterWritesByAccess := by
  intro s ht
  refine ⟨fun auth a w hf hw => ⟨fun ho hwr => ?notOwner, fun ho hrw hrws hwo => ?atOnce⟩, fun _ => ?compat⟩
  case notOwner =>
    show Host.Outcome.next (s.registerWrite auth a w) = _
    rw [s.registerWrite_regs auth a w ht hf hw, s.directRegs_notOwner auth 0 a w ho hwr]
  case atOnce =>
    refine ⟨s.registerWrite auth a w, rfl, ?_⟩
    rw [s.registerWrite_regs auth a w ht hf hw, s.directRegs_atOnce auth 0 a w ho hrws, s.writeWords_noRw a w hrw]
    exact s.writeNow_w1c a w hrw hwo
  case compat =>
    refine ⟨s.registerWrite .general 0x210 0, rfl, ?_⟩
    rw [s.registerWrite_regs .general 0x210 0 ht (s.directFails_compat 0) (inWindow_compat _ _),
      s.directRegs_atOnce _ _ _ _ (by decide) s.rwsBits_compat]
    obtain ⟨hoff, htxn⟩ := s.writeWords_compat_discards
    exact ⟨hoff, by rw [htxn], by rw [htxn]⟩

end Sys2Proof.Machine
end

section
/-! SUPPORT. The reset state: what its registers, fences, authorities and mode read as (R31, R69, R478). -/

namespace Sys2Proof.Machine

/-- No register is listed after reset, so each reads as its reset word. -/
@[simp] theorem State.reset_reg (a : Nat) : State.reset.reg a = regReset a := rfl

/-- R69: no fence is listed after reset, so each reads as 0. -/
@[simp] theorem State.reset_fence (n : Nat) : State.reset.fence n = 0 := rfl

/-- Both authorities begin afresh. -/
@[simp] theorem State.reset_auth (a : Auth) : State.reset.auth a = .fresh := by
  cases a <;> rfl

/-- R31: the reset word of SYS_MODE names BOOT. -/
theorem State.reset_mode : State.reset.mode = .boot := by
  rw [State.mode, State.fld, State.reset_reg]
  decide

end Sys2Proof.Machine
end

section
/-! CERTIFICATES. The reset state (O2). -/

namespace Sys2Proof.Machine

/-- Settles O2: every table of the reset state is empty, so a read gives its default; the mode is read from the reset word of SYS_MODE. -/
theorem resetState : Obligations.ResetState := by
  refine ⟨State.reset_reg, State.reset_mode, State.reset_fence, fun a => ?authority, rfl, rfl, rfl, State.reset_canon⟩
  case authority =>
    rw [State.reset_auth]
    exact ⟨rfl, rfl, rfl⟩

end Sys2Proof.Machine
end

section
/-! SUPPORT. What every command keeps: the lemmas of the commands' own rows, brought together. -/

namespace Sys2Proof.Machine

/-- A meaning answers a next state, to which `s` evolves with its queue of commands as it is. -/
def EvolvesTo (s : State) (o : Host.Outcome State Fault Refusal) : Prop :=
  ∃ ps t, o = .next t ∧ Evolves ps s t ∧ Part.pending ∉ ps

theorem EvolvesTo.of_exec {ps : List Part} {s : State} {o : Host.Outcome State Fault Refusal} (h : ∃ t, o = .next t ∧ Evolves ps s t)
    (hp : Part.pending ∉ ps := by decide) : EvolvesTo s o :=
  let ⟨t, ho, he⟩ := h
  ⟨ps, t, ho, he, hp⟩

/-- Every command of the table answers a next state, and evolves. -/
theorem exec_evolvesTo (i : Instr) (s : State) : EvolvesTo s (exec i s) := by
  cases i with
  | identify h => exact .of_exec (execIdentify_evolves h s)
  | statusCmd h => exact .of_exec (execStatusCmd_evolves h s)
  | regRead h addr count => exact .of_exec (execRegRead_evolves h addr count s)
  | logRead h log first count => exact .of_exec (execLogRead_evolves h log first count s)
  | querySeq h series seq => exact .of_exec (execQuerySeq_evolves h series seq s)
  | countersRead h port => exact .of_exec (execCountersRead_evolves h port s)
  | countersClear h port => exact .of_exec (execCountersClear_evolves h port s)
  | ptpMetadata h dom => exact .of_exec (execPtpMetadata_evolves h dom s)
  | beginTxn h => exact .of_exec (execBeginTxn_evolves h s)
  | writeCmd h c => exact .of_exec (execWriteCmd_evolves h c s)
  | commitCmd h => exact .of_exec (execCommitCmd_evolves h s)
  | rollback h => exact .of_exec (execRollback_evolves h s)
  | commitAll h => exact .of_exec (execCommitAll_evolves h s)
  | memWrite h space addr data => exact .of_exec (execMemWrite_evolves h space addr data s)
  | memRead h space addr bytes => exact .of_exec (execMemRead_evolves h space addr bytes s)
  | fenceSignal h fence value => exact .of_exec (execFenceSignal_evolves h fence value s)
  | hatbandCmd h t kind id portMask => exact .of_exec (execHatbandCmd_evolves h t kind id portMask s)
  | snapshotCmd h t id content => exact .of_exec (execSnapshotCmd_evolves h t id content s)
  | barrierCmd h id => exact .of_exec (execBarrierCmd_evolves h id s)
  | wallReset h t level id => exact .of_exec (execWallReset_evolves h t level id s)
  | restep h => exact .of_exec (execRestep_evolves h s)
  | swapCmd h => exact .of_exec (execSwapCmd_evolves h s)
  | snapshotRead h id part offset bytes => exact .of_exec (execSnapshotRead_evolves h id part offset bytes s)
  | stageBegin h total => exact .of_exec (execStageBegin_evolves h total s)
  | stageWrite h offset data => exact .of_exec (execStageWrite_evolves h offset data s)
  | stageEnd h => exact .of_exec (execStageEnd_evolves h s)
  | activate h t id => exact .of_exec (execActivate_evolves h t id s)
  | saveSettings h => exact .of_exec (execSaveSettings_evolves h s)
  | resetCmd h kind flags => exact .of_exec (execResetCmd_evolves h kind flags s)
  | commission h c => exact .of_exec (execCommission_evolves h c s)
  | tileCmd h target chainMask tmoMs inner => exact .of_exec (execTileCmd_evolves h target chainMask tmoMs inner s)
  | factoryCommand h op payload => exact .of_exec (execFactoryCommand_evolves h op payload s)
  | pktWrite bytes => exact .of_exec (execPktWrite_evolves bytes s)
  | statRead => exact .of_exec (execStatRead_evolves s)
  | rspRead bytes => exact .of_exec (execRspRead_evolves bytes s)
  | hspiBadInstruction => exact .of_exec (execHspiBadInstruction_evolves s)
  | udpSegment port ip udpPort payload => exact .of_exec (execUdpSegment_evolves port ip udpPort payload s)
  | udpAssemblyTimeout port ip xid => exact .of_exec (execUdpAssemblyTimeout_evolves port ip xid s)
  | commandDequeue auth => exact .of_exec (execCommandDequeue_evolves auth s)
  | standbyForwardTimeout auth seq => exact .of_exec (execStandbyForwardTimeout_evolves auth seq s)
  | forwardResponse auth seq r => exact .of_exec (execForwardResponse_evolves auth seq r s)
  | tileCmdTimeout auth => exact .of_exec (execTileCmdTimeout_evolves auth s)
  | registerWrite auth addr value => exact .of_exec (execRegisterWrite_evolves auth addr value s)
  | ptpCapture => exact .of_exec (execPtpCapture_evolves s)
  | txStartWrite port value => exact .of_exec (execTxStartWrite_evolves port value s)
  | ueLogClear => exact .of_exec (execUeLogClear_evolves s)
  | blockResetRequest mask => exact .of_exec (execBlockResetRequest_evolves mask s)
  | shadowEnClear => exact .of_exec (execShadowEnClear_evolves s)
  | prbsEnWrite lane on => exact .of_exec (execPrbsEnWrite_evolves lane on s)
  | forceOutWrite lane on => exact .of_exec (execForceOutWrite_evolves lane on s)
  | chkStart unit => exact .of_exec (execChkStart_evolves unit s)
  | chkData unit value => exact .of_exec (execChkData_evolves unit value s)
  | chkFinish unit alive => exact .of_exec (execChkFinish_evolves unit alive s)
  | chkResync unit => exact .of_exec (execChkResync_evolves unit s)
  | mapWindowWrite h addr words => exact .of_exec (execMapWindowWrite_evolves h addr words s)
  | liningWindowWrite h addr data => exact .of_exec (execLiningWindowWrite_evolves h addr data s)
  | guardImageWrite h addr data => exact .of_exec (execGuardImageWrite_evolves h addr data s)
  | faultMapWrite h addr data => exact .of_exec (execFaultMapWrite_evolves h addr data s)
  | txnIdleTimeout auth => exact .of_exec (execTxnIdleTimeout_evolves auth s)
  | replTimeout => exact .of_exec (execReplTimeout_evolves s)
  | fenceTimeout view slot => exact .of_exec (execFenceTimeout_evolves view slot s)
  | cuffOpen => exact .of_exec (execCuffOpen_evolves s)
  | flip misses => exact .of_exec (execFlip_evolves misses s)
  | flipSend => exact .of_exec (execFlipSend_evolves s)
  | flipRepeat => exact .of_exec (execFlipRepeat_evolves s)
  | scanOutBurst stalls => exact .of_exec (execScanOutBurst_evolves stalls s)
  | buildDone => exact .of_exec (execBuildDone_evolves s)
  | uploadDeadline => exact .of_exec (execUploadDeadline_evolves s)
  | sdiFrameStart input m => exact .of_exec (execSdiFrameStart_evolves input m s)
  | sdiLine input field line crcOk codes => exact .of_exec (execSdiLine_evolves input field line crcOk codes s)
  | sdiLock input rate => exact .of_exec (execSdiLock_evolves input rate s)
  | sdiLockLoss input => exact .of_exec (execSdiLockLoss_evolves input s)
  | st2110Packet port p => exact .of_exec (execSt2110Packet_evolves port p s)
  | frameComplete src m => exact .of_exec (execFrameComplete_evolves src m s)
  | sourceLossTimeout src => exact .of_exec (execSourceLossTimeout_evolves src s)
  | holdExpiry src => exact .of_exec (execHoldExpiry_evolves src s)
  | ethFrameRx port e => exact .of_exec (execEthFrameRx_evolves port e s)
  | txFrameStart port stored => exact .of_exec (execTxFrameStart_evolves port stored s)
  | txUnderrun port => exact .of_exec (execTxUnderrun_evolves port s)
  | segmentedSend port t => exact .of_exec (execSegmentedSend_evolves port t s)
  | linkDown port sub => exact .of_exec (execLinkDown_evolves port sub s)
  | linkUp port sub => exact .of_exec (execLinkUp_evolves port sub s)
  | fwEventService port => exact .of_exec (execFwEventService_evolves port s)
  | monitorPacket port flow => exact .of_exec (execMonitorPacket_evolves port flow s)
  | hello m b => exact .of_exec (execHello_evolves m b s)
  | helloAck m version => exact .of_exec (execHelloAck_evolves m version s)
  | helloSend port => exact .of_exec (execHelloSend_evolves port s)
  | helloTimeout port => exact .of_exec (execHelloTimeout_evolves port s)
  | helloFailExpiry port => exact .of_exec (execHelloFailExpiry_evolves port s)
  | segmentSilence port => exact .of_exec (execSegmentSilence_evolves port s)
  | enumerate m domain chain value step => exact .of_exec (execEnumerate_evolves m domain chain value step s)
  | tileInfo m x => exact .of_exec (execTileInfo_evolves m x s)
  | flipMessage m f => exact .of_exec (execFlipMessage_evolves m f s)
  | burstUnit port room b => exact .of_exec (execBurstUnit_evolves port room b s)
  | frameEnd m f => exact .of_exec (execFrameEnd_evolves m f s)
  | moduleTable m gen total first entries => exact .of_exec (execModuleTable_evolves m gen total first entries s)
  | mapGen m gen dueFlip => exact .of_exec (execMapGen_evolves m gen dueFlip s)
  | setMsg m b => exact .of_exec (execSetMsg_evolves m b s)
  | cmdMsg m segment => exact .of_exec (execCmdMsg_evolves m segment s)
  | cmdPartialTimeout src => exact .of_exec (execCmdPartialTimeout_evolves src s)
  | rspMsg m segment => exact .of_exec (execRspMsg_evolves m segment s)
  | ackMsg m seq status => exact .of_exec (execAckMsg_evolves m seq status s)
  | messageResend port seq => exact .of_exec (execMessageResend_evolves port seq s)
  | hatbandMessage m t kind id portMask => exact .of_exec (execHatbandMessage_evolves m t kind id portMask s)
  | timeInfo m tseq t1 t4 locked => exact .of_exec (execTimeInfo_evolves m tseq t1 t4 locked s)
  | timeBlock port tseq dir stamp => exact .of_exec (execTimeBlock_evolves port tseq dir stamp s)
  | timeRequest port => exact .of_exec (execTimeRequest_evolves port s)
  | barrierMessage m id => exact .of_exec (execBarrierMessage_evolves m id s)
  | barrierDone m id addr => exact .of_exec (execBarrierDone_evolves m id addr s)
  | snapshotMessage m t id content => exact .of_exec (execSnapshotMessage_evolves m t id content s)
  | snapshotDone m id addr status => exact .of_exec (execSnapshotDone_evolves m id addr status s)
  | resetMessage m t level cause id => exact .of_exec (execResetMessage_evolves m t level cause id s)
  | heartbeat m b => exact .of_exec (execHeartbeat_evolves m b s)
  | heartbeatSend => exact .of_exec (execHeartbeatSend_evolves s)
  | tileStatus m b => exact .of_exec (execTileStatus_evolves m b s)
  | tileStatusSend => exact .of_exec (execTileStatusSend_evolves s)
  | sessionTimeout session => exact .of_exec (execSessionTimeout_evolves session s)
  | faultMsg m f => exact .of_exec (execFaultMsg_evolves m f s)
  | faultAck m record => exact .of_exec (execFaultAck_evolves m record s)
  | faultResend record => exact .of_exec (execFaultResend_evolves record s)
  | ownUnitSend port => exact .of_exec (execOwnUnitSend_evolves port s)
  | abortBlock port relayed => exact .of_exec (execAbortBlock_evolves port relayed s)
  | blockError port relayed => exact .of_exec (execBlockError_evolves port relayed s)
  | knuckle port txSet rxOk wmin skew bip => exact .of_exec (execKnuckle_evolves port txSet rxOk wmin skew bip s)
  | laneLost lane hiBer skewed relayed => exact .of_exec (execLaneLost_evolves lane hiBer skewed relayed s)
  | laneTrained lane skew => exact .of_exec (execLaneTrained_evolves lane skew s)
  | txSetForm port => exact .of_exec (execTxSetForm_evolves port s)
  | adaptFreeze lane transitions codes => exact .of_exec (execAdaptFreeze_evolves lane transitions codes s)
  | recalTrigger training => exact .of_exec (execRecalTrigger_evolves training s)
  | recalApply lane offset => exact .of_exec (execRecalApply_evolves lane offset s)
  | eyeScan lane w h => exact .of_exec (execEyeScan_evolves lane w h s)
  | liningStageCheckDone => exact .of_exec (execLiningStageCheckDone_evolves s)
  | liningCopyDone => exact .of_exec (execLiningCopyDone_evolves s)
  | mapCopyDone => exact .of_exec (execMapCopyDone_evolves s)
  | visitStart misses => exact .of_exec (execVisitStart_evolves misses s)
  | returnFrame port header words crc => exact .of_exec (execReturnFrame_evolves port header words crc s)
  | returnTimeout port => exact .of_exec (execReturnTimeout_evolves port s)
  | absentPoll ctx => exact .of_exec (execAbsentPoll_evolves ctx s)
  | bankSupplyChange bank sensed => exact .of_exec (execBankSupplyChange_evolves bank sensed s)
  | roundStart => exact .of_exec (execRoundStart_evolves s)
  | probePeriodEnd => exact .of_exec (execProbePeriodEnd_evolves s)
  | sync port h origin => exact .of_exec (execSync_evolves port h origin s)
  | followUp port h origin => exact .of_exec (execFollowUp_evolves port h origin s)
  | delayReqSend dom => exact .of_exec (execDelayReqSend_evolves dom s)
  | delayResp port h receive mine => exact .of_exec (execDelayResp_evolves port h receive mine s)
  | announce port h a => exact .of_exec (execAnnounce_evolves port h a s)
  | announceTimeout dom => exact .of_exec (execAnnounceTimeout_evolves dom s)
  | revertTimer => exact .of_exec (execRevertTimer_evolves s)
  | ref1ppsEdge => exact .of_exec (execRef1ppsEdge_evolves s)
  | refLoss => exact .of_exec (execRefLoss_evolves s)
  | chainTimeLoss => exact .of_exec (execChainTimeLoss_evolves s)
  | scheduledActionDue => exact .of_exec (execScheduledActionDue_evolves s)
  | evtPulseStart out => exact .of_exec (execEvtPulseStart_evolves out s)
  | evtPulseEnd out => exact .of_exec (execEvtPulseEnd_evolves out s)
  | heartbeatDatagram d b => exact .of_exec (execHeartbeatDatagram_evolves d b s)
  | pathSilent path => exact .of_exec (execPathSilent_evolves path s)
  | partnerLost => exact .of_exec (execPartnerLost_evolves s)
  | preferredClaim => exact .of_exec (execPreferredClaim_evolves s)
  | repl d pos items => exact .of_exec (execRepl_evolves d pos items s)
  | replAck d pos eligible => exact .of_exec (execReplAck_evolves d pos eligible s)
  | replResend => exact .of_exec (execReplResend_evolves s)
  | snapData d slot offset data => exact .of_exec (execSnapData_evolves d slot offset data s)
  | snapAck d slot offset => exact .of_exec (execSnapAck_evolves d slot offset s)
  | vfcheck d b => exact .of_exec (execVfcheck_evolves d b s)
  | swapDatagram d op flip reason => exact .of_exec (execSwapDatagram_evolves d op flip reason s)
  | swapCommitTimeout => exact .of_exec (execSwapCommitTimeout_evolves s)
  | swapPeriod => exact .of_exec (execSwapPeriod_evolves s)
  | restoreDone => exact .of_exec (execRestoreDone_evolves s)
  | dramRequest rs => exact .of_exec (execDramRequest_evolves rs s)
  | eccWriteBack channel => exact .of_exec (execEccWriteBack_evolves channel s)
  | refreshDue channel blanking => exact .of_exec (execRefreshDue_evolves channel blanking s)
  | neighbourRefresh channel => exact .of_exec (execNeighbourRefresh_evolves channel s)
  | mr4Read channel rate => exact .of_exec (execMr4Read_evolves channel rate s)
  | driftMeasure channel drift step => exact .of_exec (execDriftMeasure_evolves channel drift step s)
  | retrain channel => exact .of_exec (execRetrain_evolves channel s)
  | retrainLate channel => exact .of_exec (execRetrainLate_evolves channel s)
  | selfRefreshEntry channel => exact .of_exec (execSelfRefreshEntry_evolves channel s)
  | dramTrainingDone failed results => exact .of_exec (execDramTrainingDone_evolves failed results s)
  | powerOn => exact .of_exec (execPowerOn_evolves s)
  | resetN lowNs role factoryEn => exact .of_exec (execResetN_evolves lowNs role factoryEn s)
  | supplyFault goodNs => exact .of_exec (execSupplyFault_evolves goodNs s)
  | watchdogExpiry proc => exact .of_exec (execWatchdogExpiry_evolves proc s)
  | testMode high => exact .of_exec (execTestMode_evolves high s)
  | resetRelease role factoryEn => exact .of_exec (execResetRelease_evolves role factoryEn s)
  | fusePassDone same => exact .of_exec (execFusePassDone_evolves same s)
  | startClocksStable bad => exact .of_exec (execStartClocksStable_evolves bad s)
  | slotSelection => exact .of_exec (execSlotSelection_evolves s)
  | processorReadyTimeout => exact .of_exec (execProcessorReadyTimeout_evolves s)
  | modeEntry => exact .of_exec (execModeEntry_evolves s)
  | startProven => exact .of_exec (execStartProven_evolves s)
  | warmRestartDone => exact .of_exec (execWarmRestartDone_evolves s)
  | blockRelease block => exact .of_exec (execBlockRelease_evolves block s)
  | pllUnlock pll => exact .of_exec (execPllUnlock_evolves pll s)
  | pllRelock pll => exact .of_exec (execPllRelock_evolves pll s)
  | refLost ref => exact .of_exec (execRefLost_evolves ref s)
  | dieConversion temps => exact .of_exec (execDieConversion_evolves temps s)
  | throttleStep => exact .of_exec (execThrottleStep_evolves s)
  | remoteTempConversion input v1 v2 ohms => exact .of_exec (execRemoteTempConversion_evolves input v1 v2 ohms s)
  | supvBlock input codes => exact .of_exec (execSupvBlock_evolves input codes s)
  | acFail => exact .of_exec (execAcFail_evolves s)
  | acDark => exact .of_exec (execAcDark_evolves s)
  | acClear => exact .of_exec (execAcClear_evolves s)
  | validExchangeLapse dom => exact .of_exec (execValidExchangeLapse_evolves dom s)
  | snapSend => exact .of_exec (execSnapSend_evolves s)
  | retrainDone channel delays eyeW eyeH skew => exact .of_exec (execRetrainDone_evolves channel delays eyeW eyeH skew s)
  | referenceReturn ref => exact .of_exec (execReferenceReturn_evolves ref s)

/-- A step that answers `t` only moves time, or is the command at the front of the queue. -/
theorem step_eq_next {s t : State} (h : step s = .next t) :
    t = s.ticks 1 ∨ ∃ c rest, s.pending = c :: rest ∧ exec c { s with pending := rest } = .next t := by
  unfold step at h
  split at h
  next => exact .inl (Host.Outcome.next.inj h).symm
  next c rest hp => exact .inr ⟨c, rest, hp, h⟩

end Sys2Proof.Machine
end

section
/-! CERTIFICATES. The canonical form of the tables (O5). -/

namespace Sys2Proof.Machine

/-- Settles O5: time that passes touches no table, and a command that runs evolves, which keeps the canonical form. -/
theorem canonKept : Obligations.CanonKept := by
  intro s t hst hc
  obtain rfl | ⟨c, rest, -, hx⟩ := step_eq_next hst
  · exact hc
  · obtain ⟨ps, u, hu, he, -⟩ := exec_evolvesTo c { s with pending := rest }
    obtain rfl := Host.Outcome.next.inj (hx.symm.trans hu)
    exact he.canon hc

end Sys2Proof.Machine
end

section
/-! SUPPORT. Transactions: commands that run on arrival, and what each operation of Machine/Txn.lean leaves, says and does. -/

namespace Sys2Proof.Machine

/-! Running (R511) -/

/-- A row of host software whose command runs now and is no query. -/
theorem exec_runsNow {s : State} {i : Instr} {h : Hdr} {c : HostCmd} (hi : hostCmdOf i = some (h, c)) (k : s.runsNow h c)
    (hq : kindOf false c ≠ .query) : exec i s = .next (s.runCmd h c) := by
  rw [exec_hostCmd s i h c hi, s.submit_runs h c k hq]

/-- A row of host software whose command is a new action, other than a WRITE. -/
theorem exec_newAction {s : State} {i : Instr} {h : Hdr} {c : HostCmd} (hi : hostCmdOf i = some (h, c)) (k : s.newAction h c)
    (hk : kindOf true c = .action) : exec i s = .next ((s.started h (opcodeOf c)).runStarted h c) := by
  rw [exec_hostCmd s i h c hi, s.submit_action h c k hk]

/-- A response leaves its authority as it was, but for the record of actions. -/
theorem State.respond_auth_self (s : State) (h : Hdr) (op : Nat) (r : Reply) :
    (s.respond h op r).auth h.auth = { s.auth h.auth with actions := ((s.respond h op r).auth h.auth).actions } := by
  rw [State.respond_auth, if_pos rfl]

/-- Two states with the same authorities. -/
theorem State.auth_congr {s t : State} (hg : t.gen = s.gen) (hn : t.gnt = s.gnt) (a : Auth) : t.auth a = s.auth a := by
  cases a <;> simp only [State.auth, hg, hn]

/-- What changes neither authority. -/
theorem OnlyParts.auth {ps : List Part} {s t : State} (h : OnlyParts ps s t) (hg : Part.gen ∉ ps) (hn : Part.gnt ∉ ps) (a : Auth) :
    t.auth a = s.auth a := State.auth_congr (h .gen hg) (h .gnt hn) a

/-! The parts of an authority (R45, R51) -/

@[simp] theorem State.setOpen_auth (s : State) (a : Auth) (t : Option OpenTxn) :
    (s.setOpen a t).auth a = { s.auth a with opened := t } := s.setAuth_auth a _

theorem State.setOpen_auth_ne (s : State) {a b : Auth} (t : Option OpenTxn) (h : b ≠ a) : (s.setOpen a t).auth b = s.auth b :=
  s.setAuth_auth_ne _ h

@[simp] theorem State.setOpen_txn (s : State) (a : Auth) (t : Option OpenTxn) : (s.setOpen a t).txn = s.txn := s.setAuth_txn a _

@[simp] theorem State.setOpen_regs (s : State) (a : Auth) (t : Option OpenTxn) : (s.setOpen a t).regs = s.regs := s.setAuth_regs a _

theorem State.setOpen_silent (s : State) (a : Auth) (t : Option OpenTxn) : Silent s (s.setOpen a t) := .of_sent (s.setAuth_sent a _)

theorem State.setOpen_parts (s : State) (a : Auth) (t : Option OpenTxn) : OnlyParts [.gen, .gnt] s (s.setOpen a t) := s.setAuth_parts a _

end Sys2Proof.Machine
end

section
/-! SUPPORT. Opening a transaction and adding to it (R45, R48, R49). -/

namespace Sys2Proof.Machine

/-- An open transaction replaced and a record written: the answer and all that changes. -/
theorem State.reopen_answers (s : State) (h : Hdr) (op : Nat) (t₀ : OpenTxn) (r : JournalRec) :
    let t := ((s.setOpen h.auth (some t₀)).record r).refuse h op .ok
    AnswersOnly s t h op (bareReply .ok) [.txn, .repl, .red] [] ∧
    t.auth h.auth = { s.auth h.auth with opened := some t₀, actions := (t.auth h.auth).actions } ∧
    (∀ a, a ≠ h.auth → t.auth a = s.auth a) ∧ t.txn = { s.txn with journal := s.txn.journal ++ [r] } := by
  refine ⟨?_, ?_, fun a ha => State.keep_other ha ?_, ?_⟩
  · refine State.respond_only _ s h op _ _ _ (by simp [bareReply]) ((s.setOpen_silent _ _).trans (State.record_silent _ _)) ?_
      (.of_regs (by simp))
    exact ((s.setOpen_parts _ _).mono (by simp [answerParts])).trans ((State.record_keeps _ _).mono (by simp [answerParts]))
  · rw [State.refuse, State.respond_auth_self]
    simp
  · rw [State.record_auth, s.setOpen_auth_ne _ ha]
  · simp [State.refuse]

/-- R45: BEGIN opens a transaction where none is open, its number is new, and General's shadow set is empty. -/
theorem State.doBegin_eq {s : State} {h : Hdr} (ho : (s.auth h.auth).opened = none) (hs : (s.auth h.auth).lastSeq < h.seq)
    (hg : h.auth = .general → s.txn.shadow.changes = []) :
    s.doBegin h = ((s.setOpen h.auth (some ⟨h.seq, secOf s.wall, nsOf s.wall, s.cycles, [], 60⟩)).record
      (.opened h.auth h.seq false (secOf s.wall) (nsOf s.wall))).refuse h 0x0010 .ok := by
  have hn : ¬(h.seq = 0 ∨ h.seq ≤ (s.auth h.auth).lastSeq) := by omega
  have hf : s.beginFails h = none := by
    unfold State.beginFails
    rw [ho, if_neg (by simp), if_neg hn, if_neg (fun k => k.2 (hg k.1))]
  unfold State.doBegin
  rw [hf]

/-- R49: the checks of a WRITE after those of its number, its length and its index. -/
theorem State.judgeWrite_eq {s : State} {a : Auth} {t₀ : OpenTxn} {c : Change} (h1 : 1 ≤ c.words.length) (h2 : c.words.length ≤ 16384)
    (hi : c.index = t₀.changes.length) (hx : ∀ x ∈ t₀.changes, x.index ≠ c.index) :
    s.judgeWrite a t₀ c = match s.changeFails a c with
      | some e => .answer e
      | none => if limitFails t₀.changes.length t₀.bytes c then .answer .errCap else .accept := by
  have hf : t₀.changes.find? (fun x => x.index == c.index) = none := by
    simpa [List.find?_eq_none] using hx
  unfold State.judgeWrite
  rw [if_neg (by omega), hf]
  exact if_neg (not_not.mpr hi)

/-- R48: the two limits. -/
theorem limitFails_iff (n b : Nat) (c : Change) :
    limitFails n b c = true ↔ 4096 < n + 1 ∨ 262144 < b + 28 + 4 * c.words.length := by
  simp only [limitFails, changeBytes, Bool.or_eq_true, decide_eq_true_eq, Nat.add_assoc, gt_iff_lt]

/-- R49: no check of a change answers ERR_SEQ. -/
theorem State.changeFails_ne_errSeq {s : State} {a : Auth} {c : Change} {e : Status} (h : s.changeFails a c = some e) : e ≠ .errSeq := by
  unfold State.changeFails at h
  dsimp only at h
  split_ifs at h <;> cases h <;> decide

/-- R49, R51: a WRITE that a check refuses leaves the transaction as it was, but for its idle time. -/
theorem State.touchTxn_answers {s : State} {h : Hdr} {t₀ : OpenTxn} (ho : (s.auth h.auth).opened = some t₀) (op : Nat) {e : Status}
    (he : e ≠ .errSeq) :
    let t := (s.touchTxn h.auth).refuse h op e
    AnswersOnly s t h op (bareReply e) [] [] ∧
    t.auth h.auth = { s.auth h.auth with opened := some { t₀ with lastCmd := s.cycles }, actions := (t.auth h.auth).actions } ∧
    ∀ a, a ≠ h.auth → t.auth a = s.auth a := by
  have ht : s.touchTxn h.auth = s.setOpen h.auth (some { t₀ with lastCmd := s.cycles }) := by simp [State.touchTxn, ho]
  rw [ht]
  refine ⟨?_, ?_, fun a ha => State.keep_other ha (s.setOpen_auth_ne _ ha)⟩
  · exact State.respond_only _ s h op _ _ _ (by simpa [bareReply] using he) (s.setOpen_silent _ _)
      ((s.setOpen_parts _ _).mono (by simp [answerParts])) (.of_regs (by simp))
  · rw [State.refuse, State.respond_auth_self]
    simp

/-- R46, R49: a WRITE that carries the number of its authority's open transaction. -/
theorem exec_txnWrite {s : State} {h : Hdr} {c : Change} {t₀ : OpenTxn} (k : s.runsNow h (.write c))
    (ho : (s.auth h.auth).opened = some t₀) (hs : t₀.seq = h.seq) : exec (.writeCmd h c) s = .next (s.doTxnWrite h t₀ c) := by
  rw [exec_runsNow rfl k (by simp [kindOf])]
  simp [State.runCmd, State.runWrite, ho, hs]

end Sys2Proof.Machine
end

section
/-! CERTIFICATES. Transactions open and grow (O11). -/

namespace Sys2Proof.Machine

/-- Settles O11: each command is the state operation that its checks choose, and `reopen_answers` or `touchTxn_answers` says what that
operation does. -/
theorem transactionOpensAndGrows : Obligations.TransactionOpensAndGrows := by
  intro s h
  refine ⟨fun k ho hs hg => ?begin, fun c t₀ k ho hs h1 h2 hi hx hf hn hb => ?accepted,
    fun c t₀ k ho hs h1 h2 hi hx ⟨e, he⟩ => ?refused⟩
  case begin =>
    refine ⟨_, exec_runsNow rfl k (by decide), ?_⟩
    rw [State.runCmd, State.doBegin_eq ho hs hg]
    exact s.reopen_answers h _ _ _
  case accepted =>
    have hl : limitFails t₀.changes.length t₀.bytes c = false := by
      rw [← Bool.not_eq_true, limitFails_iff]
      omega
    refine ⟨_, exec_txnWrite k ho hs, ?_⟩
    rw [State.doTxnWrite, State.judgeWrite_eq h1 h2 hi hx, hf, hl]
    simpa [changeBytes, Nat.add_assoc] using s.reopen_answers h 0x0011 _ _
  case refused =>
    have hj : s.judgeWrite h.auth t₀ c = .answer e := by
      rw [State.judgeWrite_eq h1 h2 hi hx]
      rcases he with he | ⟨he, rfl, hl⟩
      · rw [he]
      · rw [he]
        exact if_pos ((limitFails_iff _ _ _).mpr hl)
    have hne : e ≠ .errSeq := by
      rcases he with he | ⟨-, rfl, -⟩
      · exact State.changeFails_ne_errSeq he
      · decide
    obtain ⟨hans, hauth, hother⟩ := State.touchTxn_answers ho 0x0011 hne
    refine ⟨_, e, exec_txnWrite k ho hs, ?_⟩
    rw [State.doTxnWrite, hj]
    exact ⟨hans, he.imp_right fun x => ⟨x.1, x.2.1⟩, hauth, hother⟩

end Sys2Proof.Machine
end

section
/-! SUPPORT. Closing a transaction (R51, R52, R57, R59), and what a commit is judged by (R194, R195). -/

namespace Sys2Proof.Machine

/-- R59: no check of R57 answers ERR_SEQ. -/
theorem State.validate_ne_errSeq {s : State} {chs : List Change} {x : Status} {fi : Nat} (h : s.validate chs = some (x, fi)) :
    x ≠ .errSeq := by
  unfold State.validate at h
  dsimp only at h
  split at h
  · cases h; decide
  · split at h
    · cases h; decide
    · split at h
      · cases h; decide
      · split_ifs at h <;> cases h <;> decide

/-- The register fields that tell how a publication was judged. -/
def mapJudgeFlds : List Fld := [F.CMP_MAP_STAGE_CHECK_CHECK, F.CMP_MAP_FAIL_VALID, F.CMP_MAP_FAIL_ENTRY]

/-- R194, R195: judging a publication changes no more than what tells of it. -/
theorem State.judgeMap_noteMapFail_keeps (s : State) (chs : List Change) :
    OnlyParts [.regs] s ((s.judgeMap chs).1.noteMapFail chs) ∧ OnlyFlds mapJudgeFlds s ((s.judgeMap chs).1.noteMapFail chs) := by
  have hj : OnlyFlds mapJudgeFlds s (s.judgeMap chs).1 := by
    unfold State.judgeMap
    split
    · exact (OnlyFlds.refl _ s).setFld _ _ rfl (by simp [mapJudgeFlds])
    · exact .refl _ s
  constructor
  · exact (State.noteMapFail_evolves _ _ (by simp) (State.judgeMap_evolves s chs (by simp) (.refl [.regs] s))).parts
  · refine hj.trans ?_
    unfold State.noteMapFail
    split
    · exact .refl _ _
    · split
      · exact .refl _ _
      · exact ((OnlyFlds.refl _ _).setFlag _ _ rfl (by simp [mapJudgeFlds])).setFld _ _ rfl (by simp [mapJudgeFlds])

/-- R59: a commit that fails validation, from any state that differs from `s` in registers alone. -/
theorem State.failCommit_answers {s u : State} {h : Hdr} (t₀ : OpenTxn) {x : Status} {fi : Nat} {fs : List Fld} (hx : x ≠ .errSeq)
    (hp : OnlyParts [.regs] s u) (hf : OnlyFlds fs s u) :
    let t := u.failCommit h t₀ x fi
    AnswersOnly s t h 0x0012 ⟨x, .none, commitReplyBody 0 0 fi⟩ [.txn, .repl, .red]
      (lastResFlds h.auth ++ [F.SYS_FLIP_EVT_COMMIT_FAIL] ++ fs) ∧
    t.auth h.auth = { s.auth h.auth with
      opened := none
      lastSeq := max (s.auth h.auth).lastSeq t₀.seq
      outcomes := (⟨t₀.seq, x, false, 0, 0, fi, false, false⟩ :: (s.auth h.auth).outcomes).take 64
      actions := (t.auth h.auth).actions } ∧
    (∀ b, b ≠ h.auth → t.auth b = s.auth b) ∧
    t.txn = { s.txn with journal := s.txn.journal ++ [.rollback h.auth t₀.seq false x fi] } ∧
    t.flag F.SYS_FLIP_EVT_COMMIT_FAIL = true := by
  obtain ⟨hsilent, hparts, hflds, hauth, hother, htxn, -⟩ := u.rollBack_spec h.auth t₀ x fi false
  have ha := hp.auth (by decide) (by decide)
  refine ⟨?_, ?_, fun b hb => State.keep_other hb ?_, ?_, ?_⟩
  · refine State.respond_only _ s h 0x0012 _ _ _ hx ?_ ?_ ?_
    · exact ((Silent.of_sent (hp .sent (by simp))).trans hsilent).trans (State.event_silent _ _)
    · refine (hp.mono (by simp [answerParts])).trans ((hparts.mono (by simp [answerParts])).trans ?_)
      exact (State.event_evolves _ _ (by simp [answerParts]) (.refl _ _)).parts
    · exact ((hf.mono (fun f hm => by simp [hm])).trans (hflds.mono (by simp))).event _ rfl (by simp)
  · rw [State.failCommit, State.respond_auth_self, State.event_auth, hauth, ha]
  · rw [State.event_auth, hother b hb, ha]
  · rw [State.failCommit, State.respond_txn, State.event_txn, htxn, show u.txn = s.txn from hp .txn (by simp)]
  · unfold State.failCommit State.flag
    rw [State.respond_flds_ok _ h 0x0012 _ hx _ (by decide) (by decide)]
    exact State.flag_event _ _ rfl

/-- R46, R52: a COMMIT that repeats no number, in its authority's open transaction. -/
theorem State.doCommit_open {s : State} {h : Hdr} {t₀ : OpenTxn} (ho : (s.auth h.auth).opened = some t₀) (hs : t₀.seq = h.seq)
    (hn : ∀ o ∈ (s.auth h.auth).outcomes, o.seq ≠ h.seq) (hj : (s.judgeMap t₀.changes).2 = false) :
    s.doCommit h = match ((s.judgeMap t₀.changes).1.noteMapFail t₀.changes).validate t₀.changes with
      | some (x, fi) => ((s.judgeMap t₀.changes).1.noteMapFail t₀.changes).failCommit h t₀ x fi
      | none => (((s.judgeMap t₀.changes).1.noteMapFail t₀.changes).setOpen h.auth none).launchCommit
          ⟨h.auth, h.seq, false, t₀.changes, h, ((s.judgeMap t₀.changes).1.noteMapFail t₀.changes).effectNow⟩ := by
  have hf : (s.auth h.auth).outcomes.find? (fun o => o.seq == h.seq) = none := by simpa [List.find?_eq_none] using hn
  unfold State.doCommit
  rw [hf, ho]
  simp only [hs, ne_eq, not_true_eq_false, if_false, hj, Bool.false_eq_true] <;> rfl

/-- R51: ROLLBACK of its authority's open transaction. -/
theorem State.doRollback_open {s : State} {h : Hdr} {t₀ : OpenTxn} (ho : (s.auth h.auth).opened = some t₀) (hs : t₀.seq = h.seq) :
    s.doRollback h = (s.rollBack h.auth t₀ .ok 0xFFFF true).refuse h 0x0013 .ok := by
  rw [State.doRollback, ho]
  exact if_pos hs

end Sys2Proof.Machine
end

section
/-! CERTIFICATES. Transactions that close with nothing applied (O12), and repeated commits (O17). -/

namespace Sys2Proof.Machine

/-- Settles O12: all three ways of closing go through `rollBack`, of which `rollBack_spec` says all that it does. -/
theorem transactionClosesUnapplied : Obligations.TransactionClosesUnapplied := by
  intro s a t₀ ho
  refine ⟨?rollback, ?timeout, ?commitFails⟩
  case rollback =>
    rintro h rfl k hs
    obtain ⟨hsilent, hparts, hflds, hauth, hother, htxn, hres⟩ := s.rollBack_spec h.auth t₀ .ok 0xFFFF true
    refine ⟨_, exec_runsNow rfl k (by decide), ?_⟩
    rw [State.runCmd, State.doRollback_open ho hs, State.refuse]
    refine ⟨?_, ?_, fun b hb => State.keep_other hb (hother b hb), by rw [State.respond_txn, htxn], ?_⟩
    · exact State.respond_only _ s h 0x0013 _ _ _ (by decide) hsilent (hparts.mono (by simp [answerParts])) (hflds.mono (by simp))
    · rw [State.respond_auth_self, hauth]
    · rw [State.respond_flds_ok _ h 0x0013 _ (by decide) _ (by cases h.auth <;> decide) (by cases h.auth <;> decide), hres]
      rfl
  case timeout =>
    obtain ⟨hsilent, hparts, hflds, hauth, hother, htxn, hres⟩ :=
      (s.untilCycle (t₀.lastCmd + msCycles 10000)).rollBack_spec a t₀ .errTimeout 0xFFFF true
    have hx : execTxnIdleTimeout a s = .next (((s.untilCycle (t₀.lastCmd + msCycles 10000)).rollBack a t₀ .errTimeout 0xFFFF true).event
        F.SYS_FLIP_EVT_TXN_IDLE) := by rw [execTxnIdleTimeout, ho]
    refine ⟨_, hx, ?_, ?_, ?_, ?_, ?_, fun b hb => ?_, ?_, ?_, State.flag_event _ _ rfl⟩
    · refine OnlyParts.trans ?_ ((hparts.mono (by simp)).trans ?_)
      · exact (State.untilCycle_evolves s _ (by simp) (.refl _ s)).parts
      · exact (State.event_evolves _ _ (by simp) (.refl _ _)).parts
    · exact ((s.untilCycle_flds _ _).trans (hflds.mono (by simp))).event _ rfl (by simp)
    · exact ((s.untilCycle_silent _).trans hsilent).trans (State.event_silent _ _)
    · rw [State.event_cycles, show (State.rollBack _ a t₀ .errTimeout 0xFFFF true).cycles = _ from hparts .cycles (by simp),
        s.untilCycle_cycles]
      rfl
    · rw [State.event_auth, hauth, s.untilCycle_auth]
    · rw [State.event_auth, hother b hb, s.untilCycle_auth]
    · rw [State.event_txn, htxn, s.untilCycle_txn]
    · rw [State.fld_event_apart _ _ _ rfl (by cases a <;> decide) (by cases a <;> decide), hres]
      rfl
  case commitFails =>
    rintro h x fi u rfl k hs hn hj rfl hv
    obtain ⟨hp, hf⟩ := s.judgeMap_noteMapFail_keeps t₀.changes
    refine ⟨_, exec_runsNow rfl k (by decide), ?_⟩
    rw [State.runCmd, State.doCommit_open ho hs hn hj, hv]
    simpa [mapJudgeFlds] using State.failCommit_answers (h := h) t₀ (fi := fi) (State.validate_ne_errSeq hv) hp hf

/-- Settles O17: a recorded number is answered from its outcome alone. -/
theorem repeatedCommitReplays : Obligations.RepeatedCommitReplays := by
  intro s h o k hf hne
  have hr : (outcomeReply o).status ≠ .errSeq := by
    unfold outcomeReply
    split_ifs
    · decide
    · exact Status.noConfusion
    · exact hne
  refine ⟨_, outcomeReply o, exec_runsNow rfl k (by decide), ?_, ?_, fun hb => ?rolledBack, fun hb => ?committed⟩
  · rw [State.runCmd, State.doCommit, hf]
    exact s.respond_replies_here h 0x0012 _ hr
  · unfold outcomeReply
    split_ifs <;> rfl
  case rolledBack =>
    rw [outcomeReply, if_pos hb]
    exact ⟨rfl, rfl⟩
  case committed =>
    rw [outcomeReply, if_neg (by simp [hb])]
    by_cases hok : o.status = .ok
    · rw [if_pos hok]
      exact ⟨hok.symm, fun _ => ⟨rfl, rfl, rfl⟩, fun hn => absurd hok hn⟩
    · rw [if_neg hok]
      exact ⟨rfl, fun hn => absurd hn hok, fun _ => rfl⟩

end Sys2Proof.Machine
end

section
/-! SUPPORT. Fences and their signals (R69, R592). -/

namespace Sys2Proof.Machine

/-- R69: a signal changes its own fence alone, and that only for a later value. -/
theorem State.signalFence_fence (s : State) (n m : Nat) (v : Word) :
    (s.signalFence n v).fence m = if m = n ∧ laterSerial v.toNat (s.fence n).toNat = true then v else s.fence m := by
  unfold State.signalFence
  by_cases hl : laterSerial v.toNat (s.fence n).toNat = true
  · rw [if_pos hl]
    by_cases hm : m = n
    · subst hm
      rw [if_pos ⟨rfl, hl⟩]
      exact Sparse.get_put_same _ _ _ _
    · rw [if_neg (fun k => hm k.1)]
      exact Sparse.get_put_ne _ _ _ hm
  · rw [if_neg hl, if_neg (fun k => hl k.2)]

/-- A signal changes the fences alone. -/
theorem State.signalFence_txn (s : State) (n : Nat) (v : Word) :
    (s.signalFence n v).txn = { s.txn with fences := (s.signalFence n v).txn.fences } := by
  unfold State.signalFence
  split <;> rfl

theorem State.signalFence_parts (s : State) (n : Nat) (v : Word) : OnlyParts [.txn] s (s.signalFence n v) :=
  (State.signalFence_evolves s n v (List.Subset.refl _) (.refl _ s)).parts

/-- R428: completing with a response leaves the transactions. -/
theorem State.completeAfter_reply_txn (s : State) (i : ReplItem) (h : Hdr) (op : Nat) (r : Reply) :
    (s.completeAfter i (.reply h op r)).txn = s.txn := by
  unfold State.completeAfter
  dsimp only
  split
  · exact s.append_txn i
  · exact ((s.append i).respond_txn h op r).trans (s.append_txn i)

/-- Two states with the same transactions have the same fences. -/
theorem State.fence_congr {s t : State} (h : t.txn = s.txn) (n : Nat) : t.fence n = s.fence n := by
  simp only [State.fence, h]

/-- What reads registers alone tells whether an item waits. -/
theorem State.hasStandby_congr {s t : State} (h : t.regs = s.regs) : t.hasStandby = s.hasStandby := by
  simp only [State.hasStandby, State.partnered, State.mode, State.flag, State.fld, State.reg, h]

end Sys2Proof.Machine
end

section
/-! CERTIFICATES. Fences move forward only (O18). -/

namespace Sys2Proof.Machine

/-- Settles O18: the signal is stored by `signalFence_fence`, and `completeAfter_acts` says how it is answered. -/
theorem fenceSignalMovesForward : Obligations.FenceSignalMovesForward := by
  intro s h n v k hn
  have hx : exec (.fenceSignal h n v) s = .next ((s.started h 0x0022).doFenceSignal h n v) := exec_newAction rfl k rfl
  refine ⟨fun hauth => ?signalled, fun hgen hn2 => ?refused⟩
  case refused =>
    refine ⟨_, hx, ?_⟩
    rw [State.doFenceSignal, if_neg (by omega), if_pos ⟨hn2, hgen⟩]
    exact s.respond_acts_here h _ _ (by decide)
  case signalled =>
    have hfree : ¬(120 ≤ n ∧ h.auth = .general) := by
      rintro ⟨h1, h2⟩
      rcases hauth with h3 | h3
      · simp [h2] at h3
      · omega
    rw [State.doFenceSignal, if_neg (by omega), if_neg hfree] at hx
    have hfence : ∀ m, (s.started h 0x0022).fence m = s.fence m := State.fence_congr (s.started_txn h 0x0022)
    have hstored := (s.started h 0x0022).signalFence_fence n (v := v)
    have hparts := (s.started h 0x0022).signalFence_parts n v
    have htxn := (s.started h 0x0022).signalFence_txn n v
    rw [s.started_txn] at htxn
    simp only [hfence] at hstored
    generalize (s.started h 0x0022).signalFence n v = u at *
    have hregs : u.regs = s.regs := (hparts .regs (by decide)).trans (s.started_regs h _)
    have hdone := u.completeAfter_reply_txn (.fence n v) h 0x0022 (okReply (leBytes 4 (u.fence n).toNat))
    have hlater := laterSerial_iff v.isLt (s.fence n).isLt
    obtain ⟨hnow, hwait⟩ := s.completeAfter_acts u (.fence n v) h 0x0022 (okReply (leBytes 4 (u.fence n).toNat)) [.txn] []
      (by simp [okReply]) (.of_sent (hparts .sent (by decide))) hparts (.of_regs (hparts .regs (by decide)))
      (hparts .gen (by decide)) (hparts .gnt (by decide)) (by decide)
    rw [State.hasStandby_congr hregs] at hnow hwait
    refine ⟨_, okReply (leBytes 4 (u.fence n).toNat), hx, by rw [State.fence_congr hdone], fun hl => ?_, fun hl => ?_, fun m hm => ?_, ?_, hnow, fun hb => ?_⟩
    · rw [State.fence_congr hdone, hstored, if_pos ⟨rfl, hlater.mpr hl⟩]
    · rw [State.fence_congr hdone, hstored, if_neg (fun hc => hl (hlater.mp hc.2))]
    · rw [State.fence_congr hdone, hstored, if_neg (fun hc => hm hc.1)]
    · rw [hdone]; exact htxn
    · obtain ⟨hawaits, honly, hkeep⟩ := hwait hb
      exact ⟨hawaits, honly.mono (by simp), hkeep⟩

end Sys2Proof.Machine
end

section
/-! SUPPORT. Commits (R57, R60, R62 to R66): where a commit takes effect, and what launching and completing it does. -/

namespace Sys2Proof.Machine

/-! Where a commit takes effect (R64, R66) -/

/-- The register fields that choose where a commit takes effect. -/
def effectFlds : List Fld :=
  [F.SYS_STRAP_ROLE, F.PTP_STAT_STEPPED, F.PTP_CTL_SOURCE, F.CMP_FLIP_RATE_NUM, F.CMP_FLIP_RATE_DEN, F.CMP_FLIP_OFFSET_OFFSET_NS,
   F.CMP_FLIP_BASE_LO_BASE, F.CMP_FLIP_BASE_HI_BASE, F.LMB_SCAN_RATE_NUM, F.LMB_SCAN_RATE_DEN, F.PTP_RATE_RATE] ++
  (List.range 8).map F.CMP_VIEW_CTL_EN

/-- The register fields that tell whether an item must wait for a standby. -/
def standbyFlds : List Fld := [F.RED_CTL_PARTNER_EN, F.SYS_MODE_MODE, F.RED_STAT_PARTNER_PRESENT]

/-- Every field of `gs` has no bit in common with a field of `fs`. -/
def allApart (fs gs : List Fld) : Bool := gs.all (fun g => g.ok && fs.all (fun f => f.apart g))

/-- Fields away from those that change keep their values. -/
theorem OnlyFlds.fld_of_allApart {fs gs : List Fld} {s t : State} (h : OnlyFlds fs s t) (ha : allApart fs gs = true) {g : Fld}
    (hg : g ∈ gs) : t.fld g = s.fld g := by
  obtain ⟨hok, hap⟩ : g.ok = true ∧ ∀ f ∈ fs, f.apart g = true := by simpa using List.all_eq_true.mp ha g hg
  exact h g hok hap

/-- Two states alike in all that chooses where a commit takes effect: those fields, the flips, wall time and the next open values. -/
structure SameEffect (s t : State) : Prop where
  fld : ∀ g ∈ effectFlds, t.fld g = s.fld g
  flip : t.flip = s.flip
  wall : t.wall = s.wall
  fresh : t.fresh = s.fresh

theorem SameEffect.tileRole {s t : State} (h : SameEffect s t) : t.tileRole = s.tileRole := by
  simp only [State.tileRole, h.fld F.SYS_STRAP_ROLE (by simp [effectFlds])]

theorem SameEffect.tickStep {s t : State} (h : SameEffect s t) : t.tickStep = s.tickStep := by
  simp only [State.tickStep, h.fld F.PTP_RATE_RATE (by simp [effectFlds])]

theorem SameEffect.knownFlip {s t : State} (h : SameEffect s t) (n : Nat) : t.knownFlip n = s.knownFlip n := by
  simp only [State.knownFlip, h.flip]

/-- The cadence of R180. -/
theorem SameEffect.cadence {s t : State} (h : SameEffect s t) :
    t.flipNum = s.flipNum ∧ t.flipDen = s.flipDen ∧ t.flipOffset = s.flipOffset ∧ t.flipBase = s.flipBase := by
  simp only [State.flipNum, State.flipDen, State.flipOffset, State.flipBase, h.fld F.CMP_FLIP_RATE_NUM (by simp [effectFlds]),
    h.fld F.CMP_FLIP_RATE_DEN (by simp [effectFlds]), h.fld F.CMP_FLIP_OFFSET_OFFSET_NS (by simp [effectFlds]),
    h.fld F.CMP_FLIP_BASE_LO_BASE (by simp [effectFlds]), h.fld F.CMP_FLIP_BASE_HI_BASE (by simp [effectFlds]), and_self]

theorem SameEffect.nextFlip {s t : State} (h : SameEffect s t) : t.nextFlip = s.nextFlip := by
  obtain ⟨hnum, hden, hoff, hbase⟩ := h.cadence
  simp only [State.nextFlip, hnum, hden, hoff, hbase, h.flip, h.wall]

theorem SameEffect.flipTime {s t : State} (h : SameEffect s t) (n : Nat) : t.flipTime n = s.flipTime n := by
  obtain ⟨hnum, hden, hoff, hbase⟩ := h.cadence
  simp only [State.flipTime, State.senderFlipTime, State.lampPeriod, hnum, hden, hoff, hbase, h.flip, h.tileRole, h.knownFlip,
    h.fld F.LMB_SCAN_RATE_NUM (by simp [effectFlds]), h.fld F.LMB_SCAN_RATE_DEN (by simp [effectFlds])]

theorem SameEffect.cuffIsOpen {s t : State} (h : SameEffect s t) (n : Nat) : t.cuffIsOpen n = s.cuffIsOpen n := by
  have hc : t.cuffOf n = s.cuffOf n := by rw [State.cuffOf, State.cuffOf, h.flip]
  unfold State.cuffIsOpen State.cuffOpens
  rw [hc, h.flipTime, h.tickStep, h.wall]

theorem SameEffect.sequenceRuns {s t : State} (h : SameEffect s t) : t.sequenceRuns = s.sequenceRuns := by
  have hviews : t.enabledViews = s.enabledViews := List.filter_congr fun v hv => by
    have hm : F.CMP_VIEW_CTL_EN v ∈ effectFlds := List.mem_append_right _ (List.mem_map_of_mem hv)
    rw [State.flag, State.flag, h.fld _ hm]
  simp only [State.sequenceRuns, State.flag, hviews, h.tileRole, h.flip, h.fld F.PTP_STAT_STEPPED (by simp [effectFlds]),
    h.fld F.PTP_CTL_SOURCE (by simp [effectFlds])]

theorem SameEffect.effectNow {s t : State} (h : SameEffect s t) : t.effectNow = s.effectNow := by
  simp only [State.effectNow, State.freeValue, h.sequenceRuns, h.nextFlip, h.cuffIsOpen, h.flipTime, h.tileRole, h.knownFlip,
    h.tickStep, h.wall, h.fresh]

/-- The model's choice is the one of R64 and R66. -/
theorem State.takesEffect_effectNow (s : State) : s.takesEffect s.effectNow := by
  unfold State.effectNow
  constructor
  · intro hr
    rw [if_pos hr]
    dsimp only
    generalize (if s.cuffIsOpen s.nextFlip = true then s.nextFlip + 1 else s.nextFlip) = g
    by_cases hk : (s.tileRole && (s.knownFlip g).isNone) = true
    · rw [if_pos hk]
      obtain ⟨ht, hn⟩ : s.tileRole = true ∧ s.knownFlip g = none := by simpa using hk
      exact ⟨rfl, rfl, rfl, by simp [ht, hn]⟩
    · rw [if_neg hk]
      exact ⟨rfl, rfl, rfl, fun _ => ⟨rfl, rfl⟩⟩
  · intro hr
    rw [hr, if_neg Bool.false_ne_true]

/-- Whether an item waits is told by its fields. -/
theorem OnlyFlds.hasStandby {fs : List Fld} {s t : State} (h : OnlyFlds fs s t) (ha : allApart fs standbyFlds = true) :
    t.hasStandby = s.hasStandby := by
  have hp := h.fld_of_allApart ha (g := F.RED_CTL_PARTNER_EN) (by simp [standbyFlds])
  have hm := h.fld_of_allApart ha (g := F.SYS_MODE_MODE) (by simp [standbyFlds])
  have hq := h.fld_of_allApart ha (g := F.RED_STAT_PARTNER_PRESENT) (by simp [standbyFlds])
  simp only [State.hasStandby, State.partnered, State.mode, State.flag, hp, hm, hq]

/-! A commit completes (R60 to R66) -/

/-- R60 to R64: a commit's number is completed with its outcome, and its changes for tiles are noted. -/
def State.markCommitted (s : State) (c : CommitInfo) (e : Effect) (replicated : Bool) : State :=
  let s0 := if e.flip.isSome && s.tileRole then { s with fresh := s.fresh + 2 } else s
  let s1 := s0.finishSeq c.auth ⟨c.seq, .ok, false, e.sec, e.ns, 0xFFFF, e.late, e.immediate⟩
  let s2 := (s1.setLastRes c.auth .ok e.late replicated 0xFFFF).noteLate c.auth c.shadow e.late
  { s2 with txn := { s2.txn with tileSettings := s2.txn.tileSettings ++
    (c.changes.filter (fun x => x.scope != 0)).map (fun x => (c.auth, c.seq, x)) } }

/-- R65, R197, R243, R244: a sender sends its tiles what a commit holds for them. -/
def State.tellTiles (s : State) (c : CommitInfo) (e : Effect) : State :=
  let s4 := if s.mode == .sender then s.sendSets c.auth c.seq e c.changes else s
  if publishesMap c.changes && s4.mode == .sender then s4.sendMap (s4.publishedGen c.changes) e else s4

/-- R65, R66: the changes wait for the commit's flip, or take effect at once. -/
theorem State.completeCommit_eq (s : State) (c : CommitInfo) (e : Effect) (replicated : Bool) :
    s.completeCommit c e replicated = match e.flip with
      | some f => { (s.markCommitted c e replicated).tellTiles c e with txn := { ((s.markCommitted c e replicated).tellTiles c e).txn with
          accepted := ((s.markCommitted c e replicated).tellTiles c e).txn.accepted ++ [⟨c.auth, c.seq, false, f, c.changes⟩] } }
      | none => ((s.markCommitted c e replicated).tellTiles c e).applyChanges c.changes := rfl

theorem State.sendSets_silent (s : State) (auth : Auth) (seq : Nat) (e : Effect) (chs : List Change) :
    Silent s (s.sendSets auth seq e chs) := by
  refine Silent.foldl _ _ _ fun u c => Silent.foldl _ _ _ fun v m => ?_
  split
  · exact v.sendAll_silent _
  · exact v.sendTile_silent _ _

theorem State.sendMap_silent (s : State) (gen : Nat) (e : Effect) : Silent s (s.sendMap gen e) := by
  refine (s.sendAll_silent _).trans (Silent.foldl _ _ _ fun u tile => ?_)
  split
  · exact .refl u
  · exact Silent.foldl _ _ _ fun v m => v.sendTile_silent _ _

/-- R64: the fields of a commit that missed its Cuff. -/
theorem State.noteLate_flds (s : State) (auth : Auth) (shadow late : Bool) : OnlyFlds lateFlds s (s.noteLate auth shadow late) := by
  unfold State.noteLate
  cases late
  · exact .refl _ s
  · have hev : (if auth = .general then F.SYS_FLIP_EVT_LATE_GEN else F.SYS_FLIP_EVT_LATE_GNT).ok = true ∧
        (if auth = .general then F.SYS_FLIP_EVT_LATE_GEN else F.SYS_FLIP_EVT_LATE_GNT) ∈ lateFlds := by cases auth <;> decide
    have h1 := ((OnlyFlds.refl lateFlds s).event _ hev.1 hev.2).bump F.SYS_FLIP_CNT_LATE_COUNT rfl (by simp [lateFlds])
    cases shadow
    · exact h1
    · exact h1.event _ rfl (by simp [lateFlds])

theorem State.finishSeq_auth (s : State) (a : Auth) (o : TxnOutcome) :
    (s.finishSeq a o).auth a = { s.auth a with lastSeq := max (s.auth a).lastSeq o.seq, outcomes := keepOutcome o (s.auth a).outcomes } :=
  s.setAuth_auth a _

theorem State.finishSeq_auth_ne (s : State) {a b : Auth} (o : TxnOutcome) (h : b ≠ a) : (s.finishSeq a o).auth b = s.auth b :=
  s.setAuth_auth_ne _ h

/-- Telling the tiles answers nothing, and changes nothing but what is sent. -/
theorem State.tellTiles_spec (s : State) (c : CommitInfo) (e : Effect) :
    Silent s (s.tellTiles c e) ∧ OnlyParts [.sent, .link] s (s.tellTiles c e) := by
  have hsets : Silent s (if s.mode == .sender then s.sendSets c.auth c.seq e c.changes else s) ∧
      OnlyParts [.sent, .link] s (if s.mode == .sender then s.sendSets c.auth c.seq e c.changes else s) := by
    split
    · exact ⟨s.sendSets_silent _ _ _ _, (State.sendSets_evolves s _ _ _ _ (List.Subset.refl _) (.refl _ s)).parts⟩
    · exact ⟨.refl s, .refl _ s⟩
  unfold State.tellTiles
  dsimp only
  generalize (if s.mode == .sender then s.sendSets c.auth c.seq e c.changes else s) = u at *
  split
  · exact ⟨hsets.1.trans (u.sendMap_silent _ _), hsets.2.trans (State.sendMap_evolves u _ _ (List.Subset.refl _) (.refl _ u)).parts⟩
  · exact hsets

/-- R60 to R64: what completing a commit's number changes. -/
theorem State.markCommitted_spec (s : State) (c : CommitInfo) (e : Effect) (replicated : Bool) :
    let t := s.markCommitted c e replicated
    OnlyParts [.regs, .gen, .gnt, .txn, .fresh] s t ∧ OnlyFlds (lastResFlds c.auth ++ lateFlds) s t ∧
    t.auth c.auth = { s.auth c.auth with
      lastSeq := max (s.auth c.auth).lastSeq c.seq
      outcomes := (⟨c.seq, .ok, false, e.sec, e.ns, 0xFFFF, e.late, e.immediate⟩ :: (s.auth c.auth).outcomes).take 64 } ∧
    (∀ a, a ≠ c.auth → t.auth a = s.auth a) ∧
    t.txn = { s.txn with tileSettings := s.txn.tileSettings ++
      (c.changes.filter (fun x => x.scope != 0)).map (fun x => (c.auth, c.seq, x)) } ∧
    (e.flip = none → t.fresh = s.fresh) := by
  unfold State.markCommitted
  dsimp only
  have hfresh : e.flip = none → (if e.flip.isSome && s.tileRole then { s with fresh := s.fresh + 2 } else s).fresh = s.fresh :=
    fun he => by rw [he]; rfl
  have hdraw : OnlyParts [.fresh] s (if e.flip.isSome && s.tileRole then { s with fresh := s.fresh + 2 } else s) := by
    split
    · exact (Evolves.set_fresh (s.fresh + 2) (Nat.le_add_right _ _) (List.mem_singleton.mpr rfl) (.refl [.fresh] s)).parts
    · exact .refl _ s
  generalize (if e.flip.isSome && s.tileRole then { s with fresh := s.fresh + 2 } else s) = s0 at *
  have hdone : OnlyParts [.gen, .gnt] s0 (s0.finishSeq c.auth ⟨c.seq, .ok, false, e.sec, e.ns, 0xFFFF, e.late, e.immediate⟩) :=
    s0.setAuth_parts _ _
  have hmine := s0.finishSeq_auth c.auth ⟨c.seq, .ok, false, e.sec, e.ns, 0xFFFF, e.late, e.immediate⟩
  have hothers := fun a (ha : a ≠ c.auth) => s0.finishSeq_auth_ne ⟨c.seq, .ok, false, e.sec, e.ns, 0xFFFF, e.late, e.immediate⟩ ha
  generalize s0.finishSeq c.auth ⟨c.seq, .ok, false, e.sec, e.ns, 0xFFFF, e.late, e.immediate⟩ = s1 at *
  have hres : OnlyParts [.regs] s1 ((s1.setLastRes c.auth .ok e.late replicated 0xFFFF).noteLate c.auth c.shadow e.late) :=
    (State.noteLate_evolves _ _ _ _ (by simp) (State.setLastRes_evolves s1 _ _ _ _ _ (by simp) (.refl [.regs] s1))).parts
  have hflds := (s1.setLastRes_flds c.auth .ok e.late replicated 0xFFFF).mono (List.subset_append_left _ lateFlds) |>.trans
    (((s1.setLastRes c.auth .ok e.late replicated 0xFFFF).noteLate_flds c.auth c.shadow e.late).mono (List.subset_append_right _ _))
  generalize (s1.setLastRes c.auth .ok e.late replicated 0xFFFF).noteLate c.auth c.shadow e.late = s2 at *
  have hparts : OnlyParts [.regs, .gen, .gnt, .fresh] s s2 :=
    (hdraw.mono (by simp)).trans ((hdone.mono (by simp)).trans (hres.mono (by simp)))
  have hsame : ∀ a, s2.auth a = s1.auth a := hres.auth (by decide) (by decide)
  have hstart : ∀ a, s0.auth a = s.auth a := hdraw.auth (by decide) (by decide)
  refine ⟨?_, ?_, ?_, fun a ha => ?_, ?_, fun he => ?_⟩
  · exact (Evolves.set_txn _ _ _ _ _ (by simp) (.refl [.txn] s2)).parts.mono (by simp) |>
      (hparts.mono (by simp)).trans
  · refine (OnlyFlds.of_regs ?_).trans (hflds.trans (.of_regs rfl))
    exact (hdone .regs (by simp)).trans (hdraw .regs (by simp))
  · calc s2.auth c.auth = s1.auth c.auth := hsame _
      _ = _ := by rw [hmine, hstart]; rfl
  · exact (hsame a).trans ((hothers a ha).trans (hstart a))
  · rw [show s2.txn = s.txn from hparts .txn (by simp)]
  · exact (hres .fresh (by simp)).trans ((hdone .fresh (by simp)).trans (hfresh he))

end Sys2Proof.Machine
end

section
/-! SUPPORT. Launching a commit (R57, R60): its record, and what follows with and without a standby. -/

namespace Sys2Proof.Machine

/-! Composition of what is sent and left -/

/-- What is sent before a response. -/
theorem Gives.after {s t u : State} {h : Hdr} {op : Nat} {r : Reply} (hs : s.sent <+: t.sent) (k : Gives t u h op r) : Gives s u h op r := by
  obtain ⟨a, ha⟩ := hs
  obtain ⟨p, q, hq⟩ := k
  exact ⟨a ++ p, q, by rw [hq, ← ha]; simp⟩

theorem State.respond_gives (s : State) (h : Hdr) (op : Nat) (r : Reply) : Gives s (s.respond h op r) h op r :=
  (Evolves.refl [] s).respond_gives h op r

theorem Silent.sent_isPrefix {s t : State} (h : Silent s t) : s.sent <+: t.sent :=
  let ⟨post, hpost, _⟩ := h
  ⟨post, hpost.symm⟩

/-- A silent change before a response, with the parts and fields that it changes. -/
theorem AnswersOnly.after {s t u : State} {h : Hdr} {op : Nat} {r : Reply} {ps : List Part} {fs : List Fld} (hs : Silent s t)
    (hp : OnlyParts (answerParts ++ ps) s t) (hf : OnlyFlds (F.SYS_CMD_EVT_RSP_READY :: fs) s t) (k : AnswersOnly t u h op r ps fs) :
    AnswersOnly s u h op r ps fs :=
  ⟨k.1.after hs, hp.trans k.2.1, hf.trans k.2.2⟩

theorem AnswersOnly.mono {s t : State} {h : Hdr} {op : Nat} {r : Reply} {ps qs : List Part} {fs gs : List Fld} (hp : ps ⊆ qs)
    (hf : fs ⊆ gs) (k : AnswersOnly s t h op r ps fs) : AnswersOnly s t h op r qs gs :=
  ⟨k.1, k.2.1.mono (List.append_subset.mpr ⟨List.subset_append_left _ _, List.Subset.trans hp (List.subset_append_right _ _)⟩),
    k.2.2.mono (List.cons_subset_cons _ hf)⟩

/-! The record of a commit -/

/-- The COMMIT record of a commit. -/
def CommitInfo.journalRec (c : CommitInfo) : JournalRec :=
  .commit c.auth c.seq c.shadow c.written.sec c.written.ns c.changes.length c.written.late c.written.immediate

/-- R57, R197: a commit's record is written, and a publication is pending. -/
def State.journalCommit (s : State) (c : CommitInfo) : State :=
  let s1 := s.record c.journalRec
  if publishesMap c.changes then s1.setFlag F.CMP_MAP_STAT_PENDING true else s1

theorem State.launchCommit_eq (s : State) (c : CommitInfo) :
    s.launchCommit c = if (s.journalCommit c).hasStandby then (s.journalCommit c).await (.commit c) else (s.journalCommit c).finishCommit c false :=
  rfl

theorem State.record_waiting (s : State) (r : JournalRec) : (s.record r).repl.waiting = s.repl.waiting := State.append_waiting _ _

/-- What writing a commit's record changes. -/
theorem State.journalCommit_spec (s : State) (c : CommitInfo) :
    let t := s.journalCommit c
    Silent s t ∧ OnlyParts [.regs, .txn, .repl, .red, .sent] s t ∧ OnlyFlds [F.CMP_MAP_STAT_PENDING] s t ∧
    t.txn = { s.txn with journal := s.txn.journal ++ [c.journalRec] } ∧ t.repl.waiting = s.repl.waiting := by
  have hs := s.record_silent c.journalRec
  have hp := (s.record_keeps c.journalRec).mono (qs := [.regs, .txn, .repl, .red, .sent]) (by simp)
  have hf : OnlyFlds [F.CMP_MAP_STAT_PENDING] s (s.record c.journalRec) := .of_regs (s.record_regs _)
  have htxn := s.record_txn c.journalRec
  have hwait := s.record_waiting c.journalRec
  unfold State.journalCommit
  dsimp only
  generalize s.record c.journalRec = u at *
  split
  · exact ⟨hs.trans (.of_sent (u.setFlag_sent _ _)), hp.trans (State.setFlag_evolves u _ _ (by simp) (.refl _ u)).parts,
      hf.setFlag _ _ rfl (by simp), (u.setFlag_txn _ _).trans htxn, by rw [u.setFlag_repl, hwait]⟩
  · exact ⟨hs, hp, hf, htxn, hwait⟩

theorem State.journalCommit_hasStandby (s : State) (c : CommitInfo) : (s.journalCommit c).hasStandby = s.hasStandby :=
  (s.journalCommit_spec c).2.2.1.hasStandby (by decide)

/-- Changes of other fields, and of parts that choose no flip. -/
theorem SameEffect.of_keeps {fs : List Fld} {ps : List Part} {s t : State} (hf : OnlyFlds fs s t) (hp : OnlyParts ps s t)
    (ha : allApart fs effectFlds = true) (hflip : Part.flip ∉ ps) (hwall : Part.wall ∉ ps) (hfresh : Part.fresh ∉ ps) : SameEffect s t :=
  ⟨fun _ hg => hf.fld_of_allApart ha hg, hp .flip hflip, hp .wall hwall, hp .fresh hfresh⟩

theorem State.journalCommit_effectNow (s : State) (c : CommitInfo) : (s.journalCommit c).effectNow = s.effectNow := by
  obtain ⟨-, hp, hf, -, -⟩ := s.journalCommit_spec c
  exact (SameEffect.of_keeps hf hp (by decide) (by decide) (by decide) (by decide)).effectNow

/-! With a standby, and without -/

/-- R60: on a sender with a standby a commit waits for the acknowledgement of its record. -/
theorem State.launchCommit_standby {s : State} (c : CommitInfo) (hb : s.hasStandby = true) :
    let t := s.launchCommit c
    Awaits s t (.commit c) ∧ OnlyParts [.regs, .txn, .repl, .red, .sent] s t ∧ OnlyFlds [F.CMP_MAP_STAT_PENDING] s t ∧
    t.txn = { s.txn with journal := s.txn.journal ++ [c.journalRec] } := by
  obtain ⟨hs, hp, hf, htxn, hwait⟩ := s.journalCommit_spec c
  rw [s.launchCommit_eq, s.journalCommit_hasStandby, if_pos hb]
  refine ⟨⟨hs.trans (.of_sent rfl), ?_⟩, hp.trans (State.await_evolves _ _ (by simp) (.refl _ _)).parts, hf.trans (.of_regs rfl), htxn⟩
  show (s.journalCommit c).repl.waiting ++ _ = _
  rw [hwait]
  rfl

/-- The opcode of the command that a commit answers. -/
def CommitInfo.opcode (c : CommitInfo) : Nat := if c.shadow then 0x0014 else 0x0012

/-- R60: without a standby a commit completes at once, with the effect that its record holds. -/
theorem State.launchCommit_complete {s : State} {c : CommitInfo} (hb : s.hasStandby = false) (hw : c.written = s.effectNow) :
    s.launchCommit c = ((s.journalCommit c).completeCommit c c.written false).respond c.hdr c.opcode (commitReply c.written false) := by
  rw [s.launchCommit_eq, s.journalCommit_hasStandby, hb, if_neg Bool.false_ne_true]
  unfold State.finishCommit
  dsimp only
  rw [s.journalCommit_effectNow, ← hw, if_pos rfl]
  rfl

/-- The fields that a commit which completes may change. -/
def commitFlds (a : Auth) : List Fld := lastResFlds a ++ lateFlds ++ [F.CMP_MAP_STAT_PENDING]

/-- R60 to R65: a commit that completes at once, up to the changes that wait for its flip or take effect. -/
def State.settleCommit (s : State) (c : CommitInfo) : State := ((s.journalCommit c).markCommitted c c.written false).tellTiles c c.written

theorem State.settleCommit_spec (s : State) (c : CommitInfo) :
    let t := s.settleCommit c
    Silent s t ∧ OnlyParts [.regs, .gen, .gnt, .txn, .repl, .red, .sent, .link, .fresh] s t ∧ OnlyFlds (commitFlds c.auth) s t ∧
    t.auth c.auth = { s.auth c.auth with
      lastSeq := max (s.auth c.auth).lastSeq c.seq
      outcomes := (⟨c.seq, .ok, false, c.written.sec, c.written.ns, 0xFFFF, c.written.late, c.written.immediate⟩ ::
        (s.auth c.auth).outcomes).take 64 } ∧
    (∀ a, a ≠ c.auth → t.auth a = s.auth a) ∧
    t.txn = { s.txn with
      journal := s.txn.journal ++ [c.journalRec]
      tileSettings := s.txn.tileSettings ++ (c.changes.filter (fun x => x.scope != 0)).map (fun x => (c.auth, c.seq, x)) } ∧
    (c.written.flip = none → t.fresh = s.fresh) := by
  unfold State.settleCommit
  dsimp only
  obtain ⟨js, jp, jf, jtxn, -⟩ := s.journalCommit_spec c
  have jauth := jp.auth (by decide) (by decide)
  have jfresh : (s.journalCommit c).fresh = s.fresh := jp .fresh (by decide)
  generalize s.journalCommit c = u at *
  obtain ⟨mp, mf, mmine, mothers, mtxn, mfresh⟩ := u.markCommitted_spec c c.written false
  generalize u.markCommitted c c.written false = v at *
  obtain ⟨ts, tp⟩ := v.tellTiles_spec c c.written
  have tauth := tp.auth (by decide) (by decide)
  have ttxn : (v.tellTiles c c.written).txn = v.txn := tp .txn (by decide)
  have tfresh : (v.tellTiles c c.written).fresh = v.fresh := tp .fresh (by decide)
  refine ⟨?_, ?_, ?_, ?_, fun a ha => ?_, ?_, fun he => ?_⟩
  · exact js.trans ((Silent.of_sent (mp .sent (by decide))).trans ts)
  · exact (jp.mono (by simp)).trans ((mp.mono (by simp)).trans (tp.mono (by simp)))
  · exact (jf.mono (by simp [commitFlds])).trans ((mf.mono (by simp [commitFlds])).trans (.of_regs (tp .regs (by decide))))
  · rw [tauth, mmine, jauth]
  · rw [tauth, mothers a ha, jauth]
  · rw [ttxn, mtxn, jtxn]
  · rw [tfresh, mfresh he, jfresh]

/-- A response from a state that keeps the other authorities. -/
theorem State.respond_gives_auths {s u : State} {h : Hdr} {x : AuthState} (op : Nat) (r : Reply) (hs : s.sent <+: u.sent)
    (hmine : u.auth h.auth = x) (hothers : ∀ a, a ≠ h.auth → u.auth a = s.auth a) :
    let t := u.respond h op r
    Gives s t h op r ∧ t.auth h.auth = { x with actions := (t.auth h.auth).actions } ∧ ∀ a, a ≠ h.auth → t.auth a = s.auth a :=
  ⟨.after hs (u.respond_gives h op r), by rw [State.respond_auth_self, hmine], fun a ha => State.keep_other ha (hothers a ha)⟩

/-- A change that takes effect goes on sending, and leaves the authorities. -/
theorem State.applyChanges_keeps (s : State) (chs : List Change) :
    s.sent <+: (s.applyChanges chs).sent ∧ ∀ a, (s.applyChanges chs).auth a = s.auth a :=
  have he := State.applyChanges_evolves s chs (List.Subset.refl _) (.refl _ s)
  ⟨he.sent, he.parts.auth (by decide) (by decide)⟩

/-- The commit waits for its flip. -/
def State.acceptCommit (s : State) (c : CommitInfo) (g : Nat) : State :=
  { s with txn := { s.txn with accepted := s.txn.accepted ++ [⟨c.auth, c.seq, false, g, c.changes⟩] } }

theorem State.acceptCommit_parts (s : State) (c : CommitInfo) (g : Nat) : OnlyParts [.txn] s (s.acceptCommit c g) :=
  (Evolves.set_txn _ _ _ _ _ (List.mem_singleton.mpr rfl) (.refl [.txn] s)).parts

/-- R60, R65: a commit that completes at once and has a flip waits for it. -/
theorem State.launchCommit_flip {s : State} {c : CommitInfo} {g : Nat} (hb : s.hasStandby = false) (hw : c.written = s.effectNow)
    (he : c.written.flip = some g) :
    s.launchCommit c = ((s.settleCommit c).acceptCommit c g).respond c.hdr c.opcode (commitReply c.written false) := by
  rw [State.launchCommit_complete hb hw, State.completeCommit_eq, he]
  rfl

/-- R60, R66: a commit that completes at once without a flip takes effect. -/
theorem State.launchCommit_immediate {s : State} {c : CommitInfo} (hb : s.hasStandby = false) (hw : c.written = s.effectNow)
    (he : c.written.flip = none) :
    s.launchCommit c = ((s.settleCommit c).applyChanges c.changes).respond c.hdr c.opcode (commitReply c.written false) := by
  rw [State.launchCommit_complete hb hw, State.completeCommit_eq, he]
  rfl

/-- R60 to R64: what is answered and recorded of a commit that completes at once. -/
theorem State.launchCommit_now {s : State} {c : CommitInfo} (hb : s.hasStandby = false) (hw : c.written = s.effectNow)
    (ha : c.hdr.auth = c.auth) :
    let t := s.launchCommit c
    Gives s t c.hdr c.opcode (commitReply c.written false) ∧
    t.auth c.auth = { s.auth c.auth with
      lastSeq := max (s.auth c.auth).lastSeq c.seq
      outcomes := (⟨c.seq, .ok, false, c.written.sec, c.written.ns, 0xFFFF, c.written.late, c.written.immediate⟩ ::
        (s.auth c.auth).outcomes).take 64
      actions := (t.auth c.auth).actions } ∧
    ∀ a, a ≠ c.auth → t.auth a = s.auth a := by
  obtain ⟨hs, -, -, hmine, hothers, -, -⟩ := s.settleCommit_spec c
  rw [← ha] at hmine hothers ⊢
  cases he : c.written.flip with
  | some g =>
    have hp := (s.settleCommit c).acceptCommit_parts c g
    have hauth := hp.auth (by decide) (by decide)
    rw [State.launchCommit_flip hb hw he]
    exact State.respond_gives_auths _ _ (hs.trans (.of_sent (hp .sent (by decide)))).sent_isPrefix ((hauth _).trans hmine)
      fun a hne => (hauth a).trans (hothers a hne)
  | none =>
    obtain ⟨hsent, hauth⟩ := (s.settleCommit c).applyChanges_keeps c.changes
    rw [State.launchCommit_immediate hb hw he]
    exact State.respond_gives_auths _ _ (hs.sent_isPrefix.trans hsent) ((hauth _).trans hmine) fun a hne => (hauth a).trans (hothers a hne)

/-- A commit leaves the other authority, whether it waits for a standby or not. -/
theorem State.launchCommit_others {s : State} {c : CommitInfo} (hw : c.written = s.effectNow) (ha : c.hdr.auth = c.auth) (a : Auth)
    (hne : a ≠ c.auth) : (s.launchCommit c).auth a = s.auth a := by
  cases hb : s.hasStandby with
  | true => exact (State.launchCommit_standby c hb).2.1.auth (by decide) (by decide) a
  | false => exact (State.launchCommit_now hb hw ha).2.2 a hne

/-- R60, R65: what changes where the commit waits for its flip. -/
theorem State.launchCommit_flip_only {s : State} {c : CommitInfo} {g : Nat} (hb : s.hasStandby = false) (hw : c.written = s.effectNow)
    (he : c.written.flip = some g) :
    let t := s.launchCommit c
    AnswersOnly s t c.hdr c.opcode (commitReply c.written false) [.txn, .repl, .red, .fresh] (commitFlds c.auth) ∧
    t.txn = { s.txn with
      journal := s.txn.journal ++ [c.journalRec]
      accepted := s.txn.accepted ++ [⟨c.auth, c.seq, false, g, c.changes⟩]
      tileSettings := s.txn.tileSettings ++ (c.changes.filter (fun x => x.scope != 0)).map (fun x => (c.auth, c.seq, x)) } := by
  obtain ⟨hs, hp, hf, -, -, htxn, -⟩ := s.settleCommit_spec c
  have hpa := (s.settleCommit c).acceptCommit_parts c g
  rw [State.launchCommit_flip hb hw he]
  constructor
  · exact State.respond_only _ s _ _ _ _ _ (by simp [commitReply]) (hs.trans (.of_sent (hpa .sent (by decide))))
      ((hp.mono (by simp [answerParts])).trans (hpa.mono (by simp))) ((hf.mono (List.subset_cons_self _ _)).trans (.of_regs (hpa .regs (by decide))))
  · rw [State.respond_txn, State.acceptCommit, htxn]

/-- R60, R66: what has changed before the changes of a commit take effect at once. -/
theorem State.settleCommit_immediate (s : State) {c : CommitInfo} (he : c.written.flip = none) :
    OnlyParts [.regs, .gen, .gnt, .txn, .repl, .red, .sent, .link] s (s.settleCommit c) := by
  obtain ⟨-, hp, -, -, -, -, hfresh⟩ := s.settleCommit_spec c
  intro p hn
  by_cases hpf : p = .fresh
  · rw [hpf]
    exact hfresh he
  · exact hp p (by simpa [hpf] using hn)

end Sys2Proof.Machine
end

section
/-! CERTIFICATES. Commits (O15, O16). -/

namespace Sys2Proof.Machine

/-- Settles O15: judging the changes and closing the transaction leave where a commit takes effect; the rest is `launchCommit`, with a
standby and without. -/
theorem commitCompletes : Obligations.CommitCompletes := by
  rintro s u h t₀ ho k hs hn hj rfl hv
  obtain ⟨hjp, hjf⟩ := s.judgeMap_noteMapFail_keeps t₀.changes
  have hx : exec (.commitCmd h) s = _ := exec_runsNow rfl k (by decide)
  rw [State.runCmd, State.doCommit_open ho hs hn hj, hv] at hx
  dsimp only at hx
  generalize (s.judgeMap t₀.changes).1.noteMapFail t₀.changes = u at *
  have hp : OnlyParts [.regs, .gen, .gnt] s (u.setOpen h.auth none) := (hjp.mono (by simp)).trans ((u.setOpen_parts _ _).mono (by simp))
  have hf : OnlyFlds mapJudgeFlds s (u.setOpen h.auth none) := hjf.trans (.of_regs (u.setOpen_regs _ _))
  have hsilent : Silent s (u.setOpen h.auth none) := .of_sent (hp .sent (by decide))
  have hmine : (u.setOpen h.auth none).auth h.auth = { s.auth h.auth with opened := none } := by
    rw [u.setOpen_auth, hjp.auth (by decide) (by decide)]
  have hothers : ∀ a, a ≠ h.auth → (u.setOpen h.auth none).auth a = s.auth a := fun a ha =>
    (u.setOpen_auth_ne _ ha).trans (hjp.auth (by decide) (by decide) a)
  have htxn : (u.setOpen h.auth none).txn = s.txn := hp .txn (by decide)
  have hstandby := hf.hasStandby (by decide)
  have heffect : u.effectNow = s.effectNow :=
    (SameEffect.of_keeps hjf hjp (by decide) (by decide) (by decide) (by decide)).effectNow
  have hwritten : u.effectNow = (u.setOpen h.auth none).effectNow :=
    heffect.trans (SameEffect.of_keeps hf hp (by decide) (by decide) (by decide) (by decide)).effectNow.symm
  generalize u.setOpen h.auth none = v at *
  refine ⟨_, u.effectNow, hx, heffect ▸ s.takesEffect_effectNow,
    fun a ha => (State.launchCommit_others hwritten rfl a ha).trans (hothers a ha), fun hb => ?standby, fun hb => ?alone⟩
  case standby =>
    obtain ⟨⟨hquiet, hwait⟩, hlp, hlf, hltxn⟩ := State.launchCommit_standby (s := v)
      ⟨h.auth, h.seq, false, t₀.changes, h, u.effectNow⟩ (hstandby.trans hb)
    refine ⟨⟨hsilent.trans hquiet, ?_⟩, (hp.mono (by simp)).trans (hlp.mono (by simp)),
      (hf.mono (by simp [mapJudgeFlds])).trans (hlf.mono (by simp)), ?_, ?_⟩
    · rw [hwait, show v.repl = s.repl from hp .repl (by decide)]
    · rw [hlp.auth (by decide) (by decide), hmine]
    · rw [hltxn, htxn]
      rfl
  case alone =>
    have hb' := hstandby.trans hb
    obtain ⟨hgives, hlmine, -⟩ := State.launchCommit_now (c := ⟨h.auth, h.seq, false, t₀.changes, h, u.effectNow⟩) hb' hwritten rfl
    refine ⟨hgives.after hsilent.sent_isPrefix, ?_, fun g he => ?_, fun he => ?_⟩
    · rw [hlmine, hmine]
    · obtain ⟨hans, hltxn⟩ := State.launchCommit_flip_only (c := ⟨h.auth, h.seq, false, t₀.changes, h, u.effectNow⟩) hb' hwritten he
      refine ⟨.after hsilent (hp.mono (by simp [answerParts])) (hf.mono (by simp [mapJudgeFlds])) (hans.mono (by simp) ?_), ?_⟩
      · simp [commitFlds]
      · rw [hltxn, htxn]
        rfl
    · obtain ⟨-, -, hsf, -, -, -, -⟩ := v.settleCommit_spec ⟨h.auth, h.seq, false, t₀.changes, h, u.effectNow⟩
      refine ⟨_, (hp.mono (by simp)).trans (v.settleCommit_immediate he), ?_, State.launchCommit_immediate hb' hwritten he⟩
      exact (hf.mono (by simp [mapJudgeFlds])).trans (hsf.mono (by simp [commitFlds]))

end Sys2Proof.Machine
end

section
/-! SUPPORT. COMMIT_ALL (R73, R75): the shadow set journalled as a transaction. -/

namespace Sys2Proof.Machine

/-- Events change registers alone. -/
theorem State.events_parts (evs : List Fld) (s : State) : OnlyParts [.regs] s (evs.foldl State.event s) :=
  (Evolves.foldl evs State.event s (fun u f => State.event_evolves u f (List.Subset.refl _) (.refl _ u)) (.refl _ s)).parts

/-- R73: the shadow set is empty. -/
def State.clearShadow (s : State) : State := { s with txn := { s.txn with shadow := ⟨[], 0⟩ } }

theorem State.clearShadow_parts (s : State) : OnlyParts [.txn] s s.clearShadow :=
  (Evolves.set_txn _ _ _ _ _ (List.mem_singleton.mpr rfl) (.refl [.txn] s)).parts

/-- Events do not look at the shadow set. -/
theorem State.events_clearShadow (evs : List Fld) (s : State) :
    evs.foldl State.event s.clearShadow = (evs.foldl State.event s).clearShadow := by
  induction evs generalizing s with
  | nil => rfl
  | cons f evs ih => exact ih (s.event f)

/-- R194: the computed check of a publication. -/
def State.noteStageCheck (s : State) (chs : List Change) : State :=
  if publishesMap chs && !s.tileRole then s.setFld F.CMP_MAP_STAGE_CHECK_CHECK s.stageCheck.toNat else s

theorem State.noteStageCheck_keeps (s : State) (chs : List Change) :
    OnlyParts [.regs] s (s.noteStageCheck chs) ∧ OnlyFlds [F.CMP_MAP_STAGE_CHECK_CHECK] s (s.noteStageCheck chs) := by
  unfold State.noteStageCheck
  split
  · exact ⟨(State.setFld_evolves s _ _ (List.Subset.refl _) (.refl _ s)).parts, (OnlyFlds.refl _ s).setFld _ _ rfl (by simp)⟩
  · exact ⟨.refl _ s, .refl _ s⟩

/-- Records of a list of changes. -/
theorem State.recordAll_spec (f : Change → JournalRec) (chs : List Change) (s : State) :
    let t := chs.foldl (fun u c => u.record (f c)) s
    Silent s t ∧ OnlyParts [.sent, .txn, .repl, .red] s t ∧ t.txn = { s.txn with journal := s.txn.journal ++ chs.map f } := by
  induction chs generalizing s with
  | nil => exact ⟨.refl s, .refl _ s, by simp⟩
  | cons c chs ih =>
    obtain ⟨hs, hp, htxn⟩ := ih (s.record (f c))
    refine ⟨(s.record_silent _).trans hs, (s.record_keeps _).trans hp, ?_⟩
    rw [List.foldl_cons, htxn]
    simp

/-- R73, R75: the shadow set is empty, its events are set, and its transaction is journalled, but for the COMMIT record. -/
def State.publishShadow (s : State) (h : Hdr) : State :=
  let s3 := (s.fixShadow.2.foldl State.event s.clearShadow).noteStageCheck s.txn.shadow.changes
  s.fixShadow.1.foldl (fun t c => t.record (.change .general h.seq true c))
    (s3.record (.opened .general h.seq true (secOf s3.wall) (nsOf s3.wall)))

/-- The commit of the shadow set. -/
def State.shadowCommit (s : State) (h : Hdr) : CommitInfo :=
  ⟨.general, h.seq, true, s.fixShadow.1, h, (s.publishShadow h).effectNow⟩

/-- R75: a COMMIT_ALL of General with a new number and no open transaction. -/
theorem State.doCommitAll_eq {s : State} {h : Hdr} (hg : h.auth = .general) (hs : s.gen.lastSeq < h.seq) (ho : s.gen.opened = none)
    (hn : ∀ o ∈ s.gen.outcomes, o.seq ≠ h.seq) : s.doCommitAll h = (s.publishShadow h).launchCommit (s.shadowCommit h) := by
  have hf : s.gen.outcomes.find? (fun o => o.seq == h.seq) = none := by simpa [List.find?_eq_none] using hn
  have hc : s.commitAllFails h = none := by
    unfold State.commitAllFails
    rw [hg, ho, if_neg (by decide), if_neg (by omega), if_neg (by decide)]
  unfold State.doCommitAll
  rw [hf]
  dsimp only
  rw [hc]
  rfl

/-- What has changed before the commit of the shadow set is launched; from the state with the events set, no field but the check. -/
theorem State.publishShadow_spec (s : State) (h : Hdr) :
    let u := s.fixShadow.2.foldl State.event s
    let t := s.publishShadow h
    Silent s t ∧ OnlyParts [.regs, .txn, .repl, .red, .sent] s t ∧ OnlyParts [.regs, .txn, .repl, .red, .sent] u t ∧
    OnlyFlds [F.CMP_MAP_STAGE_CHECK_CHECK] u t ∧
    t.txn = { s.txn with
      shadow := ⟨[], 0⟩
      journal := s.txn.journal ++ [.opened .general h.seq true (secOf s.wall) (nsOf s.wall)] ++
        s.fixShadow.1.map (fun c => .change .general h.seq true c) } := by
  have hev := State.events_parts s.fixShadow.2 s
  unfold State.publishShadow
  rw [State.events_clearShadow]
  dsimp only
  generalize s.fixShadow.2.foldl State.event s = u at *
  have hclear := u.clearShadow_parts
  obtain ⟨hcheck, hflds⟩ := u.clearShadow.noteStageCheck_keeps s.txn.shadow.changes
  have htxn : (u.clearShadow.noteStageCheck s.txn.shadow.changes).txn = { s.txn with shadow := ⟨[], 0⟩ } := by
    rw [show (u.clearShadow.noteStageCheck s.txn.shadow.changes).txn = u.clearShadow.txn from hcheck .txn (by decide),
      State.clearShadow, show u.txn = s.txn from hev .txn (by decide)]
  have hsame := (hclear.mono (qs := [.regs, .txn]) (by simp)).trans (hcheck.mono (by simp))
  have hreg : OnlyFlds [F.CMP_MAP_STAGE_CHECK_CHECK] u (u.clearShadow.noteStageCheck s.txn.shadow.changes) :=
    (OnlyFlds.of_regs (hclear .regs (by decide))).trans hflds
  generalize u.clearShadow.noteStageCheck s.txn.shadow.changes = v at *
  have hall : OnlyParts [.regs, .txn] s v := (hev.mono (by simp)).trans hsame
  have hrec := v.record_keeps (.opened .general h.seq true (secOf v.wall) (nsOf v.wall))
  obtain ⟨hasil, hap, hatxn⟩ := State.recordAll_spec (.change .general h.seq true) s.fixShadow.1
    (v.record (.opened .general h.seq true (secOf v.wall) (nsOf v.wall)))
  refine ⟨?_, ?_, ?_, ?_, ?_⟩
  · exact (Silent.of_sent (hall .sent (by decide))).trans ((v.record_silent _).trans hasil)
  · exact (hall.mono (by simp)).trans ((hrec.mono (by simp)).trans (hap.mono (by simp)))
  · exact (hsame.mono (by simp)).trans ((hrec.mono (by simp)).trans (hap.mono (by simp)))
  · exact hreg.trans ((OnlyFlds.of_regs (v.record_regs _)).trans (.of_regs (hap .regs (by decide))))
  · rw [hatxn, State.record_txn, htxn, show v.wall = s.wall from hall .wall (by decide)]

end Sys2Proof.Machine
end

section
/-! CERTIFICATES. COMMIT_ALL (O16). -/

namespace Sys2Proof.Machine

/-- Settles O16: `publishShadow_spec` says what is journalled before the commit, and `launchCommit_now` how it completes. -/
theorem commitAllPublishesShadow : Obligations.CommitAllPublishesShadow := by
  rintro s u h k hg hs ho hn rfl hb
  obtain ⟨hquiet, hp, hup, huf, htxn⟩ := s.publishShadow_spec h
  have heffect := (SameEffect.of_keeps huf hup (by decide) (by decide) (by decide) (by decide)).effectNow
  have hb' := (huf.hasStandby (by decide)).trans hb
  have hx : exec (.commitAll h) s = _ := exec_runsNow rfl k (by decide)
  rw [State.runCmd, State.doCommitAll_eq hg hs ho hn] at hx
  obtain ⟨hgives, hmine, hothers⟩ := State.launchCommit_now (c := s.shadowCommit h) hb' rfl hg
  have hgen : (s.publishShadow h).gen = s.gen := hp .gen (by decide)
  have hmax : max s.gen.lastSeq h.seq = h.seq := Nat.max_eq_right hs.le
  refine ⟨_, (s.publishShadow h).effectNow, hx, heffect ▸ State.takesEffect_effectNow _, ?_, hgives.after hquiet.sent_isPrefix, ?_, fun g he => ?_⟩
  · exact (hothers .gauntlet nofun).trans (hp .gnt (by decide))
  · have hm : (s.publishShadow h).auth (s.shadowCommit h).auth = s.gen := hgen
    rw [hm, show max s.gen.lastSeq (s.shadowCommit h).seq = h.seq from hmax] at hmine
    exact hmine
  · obtain ⟨hans, hltxn⟩ := State.launchCommit_flip_only (c := s.shadowCommit h) hb' rfl he
    refine ⟨(hp.mono (by simp [answerParts])).trans hans.2.1, ?_⟩
    rw [hltxn, htxn]
    rfl

end Sys2Proof.Machine
end

section
/-! SUPPORT. The course of a flip sequence (R65, R180): what takes effect leaves the wall time, the place in the sequence and the
commits still to come as they are. -/

namespace Sys2Proof.Machine

/-- From `s` to `t` no wall time passes, the place in the flip sequence stays, and the same commits wait for their flips. -/
structure KeepsCourse (s t : State) : Prop where
  wall : t.wall = s.wall
  last : t.flip.last = s.flip.last
  lastAt : t.flip.lastAt = s.flip.lastAt
  next : t.flip.next = s.flip.next
  accepted : t.txn.accepted = s.txn.accepted

namespace KeepsCourse

theorem refl (s : State) : KeepsCourse s s := ⟨rfl, rfl, rfl, rfl, rfl⟩

theorem trans {s t u : State} (h : KeepsCourse s t) (k : KeepsCourse t u) : KeepsCourse s u :=
  ⟨k.wall.trans h.wall, k.last.trans h.last, k.lastAt.trans h.lastAt, k.next.trans h.next, k.accepted.trans h.accepted⟩

/-- A change of parts other than wall time and flips that keeps the commits. -/
theorem of_parts {ps : List Part} {s t : State} (h : OnlyParts ps s t) (hw : Part.wall ∉ ps) (hf : Part.flip ∉ ps)
    (ha : t.txn.accepted = s.txn.accepted) : KeepsCourse s t := by
  have hflip : t.flip = s.flip := h .flip hf
  exact ⟨h .wall hw, by rw [hflip], by rw [hflip], by rw [hflip], ha⟩

theorem of_same {s t : State} (hw : t.wall = s.wall) (hf : t.flip = s.flip) (ha : t.txn = s.txn) : KeepsCourse s t :=
  ⟨hw, by rw [hf], by rw [hf], by rw [hf], by rw [ha]⟩

/-- A change of parts other than wall time, flips and transactions. -/
theorem of_evolves {ps : List Part} {s t : State} (h : Evolves ps s t) (hp : ∀ p ∈ [Part.wall, .flip, .txn], p ∉ ps) :
    KeepsCourse s t :=
  of_parts h.parts (hp _ (by simp)) (hp _ (by simp)) (congrArg TxnState.accepted (h.parts .txn (hp _ (by simp))))

theorem foldl {α : Type} {f : State → α → State} (hf : ∀ u x, KeepsCourse u (f u x)) (l : List α) (s : State) :
    KeepsCourse s (l.foldl f s) := by
  induction l generalizing s with
  | nil => exact .refl s
  | cons x l ih => exact (hf s x).trans (ih _)

end KeepsCourse

/-! A lost lock (R110) -/

/-- A frame that is due already becomes complete in the present cycle. -/
theorem State.frameDone_keepsCourse (s : State) {i : Nat} {f : FrameIn} (m : Measured) (hd : s.frameDue i = some f)
    (hc : f.ackAt.getD 0 + 3 ≤ s.cycles) : KeepsCourse s (s.frameDone i m) := by
  have htime : s.untilCycle (f.ackAt.getD 0 + 3) = s := by
    simp [State.untilCycle, State.ticks, Nat.sub_eq_zero_of_le hc]
  have hset : ∀ (u : State) (x : SrcState), Evolves [.regs, .fresh, .video] u (u.setSrc i x) :=
    fun u x => State.setSrc_evolves u i x (by simp) (.refl _ u)
  have hdone : ∀ (u : State) (m' : Measured), Evolves [.regs, .fresh, .video] u (u.completeFrame i f m') :=
    fun u m' => State.completeFrame_evolves u i f m' (List.Subset.refl _) (.refl _ u)
  simp only [State.frameDone, hd]
  rw [htime]
  split
  · exact .of_evolves ((hset _ _).trans (hdone _ _)) (by simp)
  · exact .of_evolves ((hset _ _).trans (hdone _ _)) (by simp)

/-- R110: the loss of lock takes no time. -/
theorem State.lockLost_keepsCourse (s : State) (n : Nat) : KeepsCourse s (s.lockLost n) := by
  have hlose : ∀ (u : State) (i : Nat), Evolves [.regs, .fresh, .video] u
      (let v := u.setSrc i { u.src i with writing := none }
       if v.srcMode i = .active then (v.setSrcMode i .lost).event (F.SDI_SRC_EVT_LOST i) else v) := by
    intro u i
    have hset := State.setSrc_evolves u i { u.src i with writing := none } (ps₀ := [.regs, .fresh, .video]) (by simp) (.refl _ u)
    exact Evolves.ite (State.event_evolves _ _ (by simp) (State.setSrcMode_evolves _ _ _ (by simp) hset)) hset
  unfold State.lockLost
  dsimp only
  refine KeepsCourse.trans (t := (((s.setFlag (F.SDI_PHY_STAT_LOCK n) false).setFld (F.SDI_PHY_STAT_RATE n) 0).event
    (F.SDI_PHY_STAT_LOCK_LOST n)).setFlag (F.SDI_PHY_STAT_PID_SEEN n) false) (.of_same (by simp) (by simp) (by simp)) ?_
  split
  · exact .refl _
  · refine KeepsCourse.trans ?_ (.of_evolves (hlose _ _) (by simp))
    split
    · split
      · exact State.frameDone_keepsCourse _ _ ‹_› ‹_›
      · exact .refl _
    · exact .refl _

/-! Lanes under test (R294, R295) -/

theorem State.outOfService_keepsCourse (s : State) (n : Nat) : KeepsCourse s (s.outOfService n) := by
  unfold State.outOfService
  split
  · exact s.lockLost_keepsCourse _
  · split
    · exact .of_evolves (State.netDown_evolves s _ _ (List.Subset.refl _) (.refl _ s)) (by simp)
    · exact .refl s

theorem State.laneForced_keepsCourse (s : State) (n : Nat) : KeepsCourse s (s.laneForced n) :=
  .of_evolves (State.laneForced_evolves s n (List.Subset.refl _) (.refl _ s)) (by simp)

theorem State.prbsChanged_keepsCourse (s : State) (n : Nat) (on : Bool) : KeepsCourse s (s.prbsChanged n on) := by
  cases on
  · simpa [State.prbsChanged] using s.laneForced_keepsCourse n
  · refine KeepsCourse.trans (t := (s.setReg (F.SER_LANE_PRBS_ERR_ERR_BITS n).addr 0).setReg (F.SER_LANE_PRBS_BITS_BITS_2E20 n).addr 0)
      (.of_same rfl rfl rfl) ?_
    simpa [State.prbsChanged] using (State.laneForced_keepsCourse _ n).trans (State.outOfService_keepsCourse _ n)

theorem State.reactTests_keepsCourse (before s : State) : KeepsCourse s (State.reactTests before s) := by
  refine KeepsCourse.foldl (fun u n => ?_) _ s
  dsimp only
  split
  · exact u.prbsChanged_keepsCourse n _
  · split
    · exact u.laneForced_keepsCourse n
    · exact .refl u

theorem State.reactLanes_keepsCourse (before s : State) : KeepsCourse s (State.reactLanes before s) := by
  have hport : ∀ (u : State) (p : Nat), KeepsCourse u
      (if before.flag (F.MLK_PORT_CTL_EN p) = u.flag (F.MLK_PORT_CTL_EN p) then u
       else if u.flag (F.MLK_PORT_CTL_EN p) then u.portLanesOn p else u.portLanesOff p) := by
    intro u p
    split
    · exact .refl u
    · split
      · exact .of_evolves (State.portLanesOn_evolves u p (List.Subset.refl _) (.refl _ u)) (by simp)
      · exact .of_evolves (State.portLanesOff_evolves u p (List.Subset.refl _) (.refl _ u)) (by simp)
  unfold State.reactLanes
  dsimp only
  split
  · exact State.reactTests_keepsCourse before s
  · exact ((State.reactTests_keepsCourse before s).trans (.foldl hport _ _)).trans
      (.of_evolves (State.quads_evolves _ (List.Subset.refl _) (.refl _ _)) (by simp))

/-! Fences and the compositor (R70) -/

/-- A fold whose steps keep what a function reads. -/
theorem foldl_keeps {α β : Type} (g : State → β) {f : State → α → State} (hf : ∀ u x, g (f u x) = g u) (l : List α) (s : State) :
    g (l.foldl f s) = g s := by
  induction l generalizing s with
  | nil => rfl
  | cons x l ih => exact (ih _).trans (hf s x)

theorem foldl_setReg_txn {α : Type} (a : α → Nat) (w : α → Word) (l : List α) (s : State) :
    (l.foldl (fun t x => t.setReg (a x) (w x)) s).txn = s.txn :=
  foldl_keeps (fun u => u.txn) (fun u _ => u.setReg_txn _ _) l s

theorem State.armFence_accepted (before s : State) (w k : Nat) : (State.armFence before s w k).txn.accepted = s.txn.accepted := by
  unfold State.armFence
  split
  · show ((heldWords w k).foldl (fun t a => t.setReg a (before.reg a)) s).txn.accepted = s.txn.accepted
    exact congrArg TxnState.accepted (foldl_setReg_txn id before.reg (heldWords w k) s)
  · rfl

theorem State.fenceAtLatch_accepted (s : State) (x : FenceWait) : (s.fenceAtLatch x).txn.accepted = s.txn.accepted := by
  unfold State.fenceAtLatch
  split
  · show (x.words.foldl (fun t p => t.setReg p.1 p.2) s).txn.accepted = s.txn.accepted
    exact congrArg TxnState.accepted (foldl_setReg_txn Prod.fst Prod.snd x.words s)
  · split
    · rfl
    · split
      · simp [State.fenceTimeout, State.dropWait]
      · rfl

theorem foldl_accepted {α : Type} {f : State → α → State} (hf : ∀ u x, (f u x).txn.accepted = u.txn.accepted) (l : List α) (s : State) :
    (l.foldl f s).txn.accepted = s.txn.accepted :=
  foldl_keeps (fun u => u.txn.accepted) hf l s

/-- R70: the fences that a commit arms leave the commits that wait. -/
theorem State.reactFences_accepted (before s : State) : (State.reactFences before s).txn.accepted = s.txn.accepted := by
  have hall := foldl_accepted (fun u i => State.armFence_accepted before u (i / 64) (i % 64))
  rw [State.reactFences, hall]

theorem State.reactFences_keepsCourse (before s : State) : KeepsCourse s (State.reactFences before s) :=
  .of_parts (State.reactFences_evolves before s (List.Subset.refl _) (.refl _ s)).parts (by simp) (by simp)
    (State.reactFences_accepted before s)

theorem State.reactReads_keepsCourse (s : State) : KeepsCourse s s.reactViews.reactReads :=
  .of_same (by simp [State.reactReads, State.reactViews]) (by simp [State.reactReads, State.reactViews])
    (by simp [State.reactReads, State.reactViews])

theorem State.reactCompositor_keepsCourse (before s : State) (chs : List Change) :
    KeepsCourse s (State.reactCompositor before s chs) := by
  have hreads := (State.reactFences_keepsCourse before s).trans (State.reactReads_keepsCourse _)
  rw [State.reactCompositor]
  dsimp only
  generalize (State.reactFences before s).reactViews.reactReads = u at hreads ⊢
  split
  · exact .refl s
  · split
    · exact hreads.trans (.of_evolves (State.swapMap_evolves u (List.Subset.refl _) (.refl _ u)) (by simp))
    · exact hreads

/-! The blocks together (R65) -/

theorem State.reactShadow_keepsCourse (s : State) : KeepsCourse s s.reactShadow := by
  unfold State.reactShadow
  split
  · exact .refl s
  · exact ⟨rfl, rfl, rfl, rfl, rfl⟩

/-- R67: a new Cuff length moves no flip. -/
theorem State.reactCuff_keepsCourse (before s : State) : KeepsCourse s (State.reactCuff before s) := by
  unfold State.reactCuff
  dsimp only
  split
  · exact .refl s
  · split
    · exact ⟨rfl, rfl, rfl, rfl, rfl⟩
    · exact ⟨rfl, rfl, rfl, rfl, rfl⟩

/-- R65: what follows a change of settings takes no time and moves no flip. -/
theorem State.react_keepsCourse (before s : State) (chs : List Change) : KeepsCourse s (State.react before s chs) := by
  have hcadence : ∀ u, KeepsCourse u (State.reactCadence before u) := fun u =>
    .of_evolves (State.reactCadence_evolves before u (List.Subset.refl _) (.refl _ u)) (by simp)
  have hthermal : ∀ u, KeepsCourse u (State.reactThermal before u) := fun u =>
    .of_evolves (State.reactThermal_evolves before u (List.Subset.refl _) (.refl _ u)) (by simp)
  have htime : ∀ u, KeepsCourse u (State.reactTime before u) := fun u =>
    .of_evolves (State.reactTime_evolves before u (List.Subset.refl _) (.refl _ u)) (by simp)
  have hsources : ∀ u, KeepsCourse u (State.reactSources before u) := fun u =>
    .of_evolves (State.reactSources_evolves before u (List.Subset.refl _) (.refl _ u)) (by simp)
  have hnet : ∀ u, KeepsCourse u (State.reactNet before u chs) := fun u =>
    .of_evolves (State.reactNet_evolves before u chs (List.Subset.refl _) (.refl _ u)) (by simp)
  have htile : ∀ u, KeepsCourse u (State.reactTile before u chs) := fun u =>
    .of_evolves (State.reactTile_evolves before u chs (List.Subset.refl _) (.refl _ u)) (by simp)
  have hlamp : ∀ u, KeepsCourse u (State.reactLamp before u) := fun u =>
    .of_evolves (State.reactLamp_evolves before u (List.Subset.refl _) (.refl _ u)) (by simp)
  unfold State.react
  exact s.reactShadow_keepsCourse.trans <| (State.reactCuff_keepsCourse before _).trans <| (hcadence _).trans <| (hthermal _).trans <|
    (htime _).trans <| (hsources _).trans <| (hnet _).trans <| (State.reactLanes_keepsCourse before _).trans <|
    (State.reactCompositor_keepsCourse before _ chs).trans <| (htile _).trans (hlamp _)

theorem State.applyChanges_keepsCourse (s : State) (chs : List Change) : KeepsCourse s (s.applyChanges chs) := by
  have happly : KeepsCourse s ((ownChanges chs).foldl State.applyChange s) := .foldl (fun u c =>
    .of_evolves (State.applyChange_evolves u c (List.Subset.refl _) (.refl _ u)) (by simp)) _ s
  exact happly.trans (State.react_keepsCourse s _ _)

theorem State.applyLocal_keepsCourse (s : State) (chs : List Change) : KeepsCourse s (s.applyLocal chs) := by
  unfold State.applyLocal
  refine KeepsCourse.trans ?_ (State.react_keepsCourse s _ _)
  exact .foldl (fun u c => .foldl (fun v x => .of_same (State.setReg_wall ..) (State.setReg_flip ..) (State.setReg_txn ..)) _ u) chs s

/-- R65: the commits due at a flip leave the queue, and nothing of the course changes besides. -/
theorem State.dueCommits_keepsCourse (s : State) (n : Nat) :
    KeepsCourse { s with txn := { s.txn with accepted := s.txn.accepted.filter (fun x => !decide (x.flip ≤ n)) } } (s.dueCommits n) := by
  refine .foldl (fun u x => ?_) _ _
  split
  · exact u.applyLocal_keepsCourse _
  · exact u.applyChanges_keepsCourse _

/-- R65: every commit that still waits is due at a later flip. -/
theorem State.dueCommits_later (s : State) (n : Nat) : ∀ x ∈ (s.dueCommits n).txn.accepted, n < x.flip := by
  intro x hx
  rw [(s.dueCommits_keepsCourse n).accepted] at hx
  simpa using (List.mem_filter.mp hx).2

end Sys2Proof.Machine
end

section
/-! SUPPORT. Time, faults and the flip (R65, R342, R404): how far wall time goes, what a fault record leaves, and where a sender's
and a tile's flip end. -/

namespace Sys2Proof.Machine

/-! Wall time (R391, R404) -/

/-- R391: every cycle adds to wall time, whatever the rate. -/
theorem State.tickStep_pos (s : State) : 0 < s.tickStep := by
  have hrate : -(2 ^ 32 : Int) ≤ Machine.signed 32 (s.fld F.PTP_RATE_RATE) := by unfold Machine.signed; split <;> omega
  unfold State.tickStep
  omega

/-- R404: time passes up to the time that is awaited. -/
theorem State.le_untilWall (s : State) (due : Nat) : due ≤ (s.untilWall due).wall := by
  have hpos := s.tickStep_pos
  have hdiv := Nat.div_add_mod (due - s.wall + s.tickStep - 1) s.tickStep
  have hmod := Nat.mod_lt (due - s.wall + s.tickStep - 1) hpos
  rw [Nat.mul_comm] at hdiv
  show due ≤ s.wall + (due - s.wall + s.tickStep - 1) / s.tickStep * s.tickStep
  omega

/-- R404: none passes where that time has come. -/
theorem State.untilWall_past (s : State) {due : Nat} (h : due ≤ s.wall) : (s.untilWall due).wall = s.wall := by
  have hzero : (due - s.wall + s.tickStep - 1) / s.tickStep = 0 :=
    Nat.div_eq_of_lt (by have := s.tickStep_pos; omega)
  show s.wall + (due - s.wall + s.tickStep - 1) / s.tickStep * s.tickStep = s.wall
  rw [hzero, Nat.zero_mul, Nat.add_zero]

/-! Faults (R255, R360) -/

/-- R255: a fault record sets no register but FAULT_OVF. -/
theorem State.fault_flds (s : State) (cls code : Nat) (detail : List Byte) : OnlyFlds [F.MLK_EVT_FAULT_OVF] s (s.fault cls code detail) := by
  have hnew : ∀ c d bs, OnlyFlds [F.MLK_EVT_FAULT_OVF] s (s.newFault c d bs) := fun c d bs =>
    .of_regs ((State.newFault_evolves s c d bs (List.Subset.refl _) (.refl _ s)).parts .regs (by simp))
  have hfold : ∀ c d, OnlyFlds [F.MLK_EVT_FAULT_OVF] s (s.foldInto c d) := fun c d => .of_regs rfl
  unfold State.fault
  split
  · exact hfold _ _
  · split
    · split
      · exact (hfold _ _).event _ rfl (by simp)
      · exact (hnew _ _ _).event _ rfl (by simp)
    · exact hnew _ _ _

theorem State.sendMsg_heldSets (s : State) (p dst : Nat) (m : LinkMsg) (tiles : List Nat) :
    (s.sendMsg p dst m tiles).link.heldSets = s.link.heldSets := by
  unfold State.sendMsg
  split
  · rfl
  · unfold State.emitMsg
    dsimp only
    split <;> rfl

theorem State.newFault_heldSets (s : State) (cls code : Nat) (detail : List Byte) :
    (s.newFault cls code detail).link.heldSets = s.link.heldSets := by
  have hlogged : ∀ u : State, u.link = s.link → ∀ (n : Nat) (f : FaultRec),
      (if u.tileRole then ({ u with faults := { u.faults with unacked := u.faults.unacked ++ [n] } } : State).sendBoth (.fault f)
       else
        let v := u.append (.fault f)
        if v.hasStandby then ({ v with faults := { v.faults with unacked := v.faults.unacked ++ [n] } } : State).await (.ownFault n)
        else v).link.heldSets = s.link.heldSets := by
    intro u hu n f
    split
    · exact (State.sendMsg_heldSets _ _ _ _ _).trans ((State.sendMsg_heldSets _ _ _ _ _).trans (by rw [hu]))
    · have happend : (u.append (.fault f)).link = s.link := ((u.append_keeps _) .link (by simp)).trans hu
      dsimp only
      split
      · exact congrArg LinkState.heldSets happend
      · exact congrArg LinkState.heldSets happend
  unfold State.newFault
  exact hlogged _ (by split <;> rfl) _ _

/-- A fault record leaves the SETs that a tile holds. -/
theorem State.fault_heldSets (s : State) (cls code : Nat) (detail : List Byte) :
    (s.fault cls code detail).link.heldSets = s.link.heldSets := by
  unfold State.fault
  split
  · rfl
  · split
    · split
      · exact congrArg LinkState.heldSets (State.event_link _ _)
      · rw [State.event_link]; exact s.newFault_heldSets _ _ _
    · exact s.newFault_heldSets _ _ _

/-! The flip of a sender (R65, R205, R432) -/

/-- The flip has come: its number is the last, and the next follows. -/
theorem State.flipPassed_spec (s : State) (n : Nat) :
    let t := s.flipPassed n
    OnlyParts [.regs, .flip] s t ∧ t.flip.last = some n ∧ t.flip.lastAt = s.wall ∧ t.flip.next = some ((n + 1) % 2 ^ 64) := by
  have hwall : (s.cuffFollows n).wall = s.wall :=
    (State.cuffFollows_evolves s n (List.Subset.refl _) (.refl _ s)).parts .wall (by simp)
  refine ⟨(State.flipPassed_evolves s n (List.Subset.refl _) (.refl _ s)).parts, ?_⟩
  unfold State.flipPassed
  dsimp only
  split
  · exact ⟨rfl, hwall, rfl⟩
  · simp [hwall]

theorem State.latchFences_accepted (s : State) (w : Nat) : (s.latchFences w).txn.accepted = s.txn.accepted :=
  foldl_accepted (fun u x => u.fenceAtLatch_accepted x) _ s

/-- R183: a latch takes no time, moves no flip and leaves the commits that wait. -/
theorem State.latchFrame_keepsCourse (s : State) (m : Nat) : KeepsCourse s (s.latchFrame m) := by
  have hfences : KeepsCourse s (s.latchFences (s.viewOfFlip m)) :=
    .of_parts (State.latchFences_evolves s _ (List.Subset.refl _) (.refl _ s)).parts (by simp) (by simp) (s.latchFences_accepted _)
  rw [State.latchFrame]
  dsimp only
  generalize s.latchFences (s.viewOfFlip m) = u at hfences ⊢
  have hpass : Evolves [.regs, .fresh, .sent, .link, .repl, .faults, .nvm, .dram, .video, .scan, .red] u
      (u.holdSources.gauntletPass (s.viewOfFlip m)).1 :=
    State.gauntletPass_evolves _ _ (by simp) (State.holdSources_evolves u (by simp) (.refl _ u))
  refine hfences.trans (.of_evolves (State.setFrame_evolves _ _ ?_ (State.setFlag_evolves _ _ _ ?_ (State.setFld_evolves _ _ _ ?_
    (State.setFld_evolves _ _ _ ?_ (State.setFld_evolves _ _ _ ?_ (Evolves.set_scan _ ?_ hpass)))))) ?_) <;> simp

theorem State.senderLatch_keepsCourse (s : State) (n : Nat) : KeepsCourse s (s.senderLatch n) := by
  have hshed : KeepsCourse s s.latchDiv.latchShed :=
    .of_evolves (State.latchShed_evolves _ (by simp) (State.latchDiv_evolves s (ps₀ := [.regs, .scan]) (by simp) (.refl _ s))) (by simp)
  have hsend : ∀ u : State, KeepsCourse u (u.sendShedFlip (n + 1)) := fun u =>
    .of_evolves (State.sendShedFlip_evolves u (n + 1) (List.Subset.refl _) (.refl _ u)) (by simp)
  unfold State.senderLatch
  refine KeepsCourse.trans ?_ (hsend _)
  split
  · exact .refl s
  · dsimp only
    split
    · exact hshed.trans (State.latchFrame_keepsCourse _ _)
    · exact hshed

theorem State.swapAtFlip_keepsCourse (s : State) (n : Nat) : KeepsCourse s (s.swapAtFlip n) := by
  have hends : ∀ u : State, Evolves [.regs, .sched, .red] u u.swapEnds := fun u => State.swapEnds_evolves u (List.Subset.refl _) (.refl _ u)
  unfold State.swapAtFlip
  split
  · have hactive := State.becomeActive_evolves s (ps₀ := [.regs, .sched, .repl, .red]) (by simp) (.refl _ s)
    have hboth := hactive.trans ((hends _).mono (qs := [.regs, .sched, .repl, .red]) (by simp))
    exact (KeepsCourse.of_evolves (State.setFlag_evolves _ _ _ (by simp) hboth) (by simp)).trans (State.senderLatch_keepsCourse _ n)
  · have hmode := State.setMode_evolves s .standby (ps₀ := [.regs, .sched, .scan, .repl, .red]) (by simp) (.refl _ s)
    have hboth := State.setFlag_evolves _ F.CMP_STAT_BUSY false (by simp) (State.setFlag_evolves _ F.RED_STAT_PARTNER_PRESENT false
      (by simp) (hmode.trans ((hends _).mono (qs := [.regs, .sched, .scan, .repl, .red]) (by simp))))
    exact .of_evolves (Evolves.set_repl_scan_red _ _ _ (by simp) (by simp) (by simp) hboth) (by simp)

theorem State.latchAt_keepsCourse (s : State) (n : Nat) : KeepsCourse s (s.latchAt n) := by
  unfold State.latchAt
  split
  · exact .refl s
  split
  · exact s.swapAtFlip_keepsCourse n
  split
  · unfold State.standbyLatch
    dsimp only
    split
    · exact s.senderLatch_keepsCourse n
    · exact (s.senderLatch_keepsCourse n).trans (.of_same (by simp) (by simp) (by simp))
  split
  · exact .refl s
  split
  · exact .of_evolves (State.sendHeldFlip_evolves s (n + 1) (List.Subset.refl _) (.refl _ s)) (by simp)
  · exact s.senderLatch_keepsCourse n

/-- R65: where a sender's flip ends. -/
theorem State.senderFlip_spec (s : State) (n : Nat) :
    let t := s.senderFlip n
    t.flip.last = some n ∧ t.flip.lastAt = t.wall ∧ s.senderFlipTime n ≤ t.wall ∧
      (t.flip.next = some ((n + 1) % 2 ^ 64) ∨ t.flip.next = none) ∧ ∀ x ∈ t.txn.accepted, n < x.flip := by
  obtain ⟨hparts, hlast, hat, hnext⟩ := (s.untilWall (s.senderFlipTime n)).flipPassed_spec n
  generalize hp : (s.untilWall (s.senderFlipTime n)).flipPassed n = p at hparts hlast hat hnext
  have hwall : p.wall = (s.untilWall (s.senderFlipTime n)).wall := hparts .wall (by simp)
  have hlater := p.dueCommits_later n
  have hdue := p.dueCommits_keepsCourse n
  have htap : ∀ u : State, KeepsCourse u (if u.blockHeld 4 then u else u.tapFlips n) := by
    intro u
    split
    · exact .refl u
    · exact .of_evolves (State.tapFlips_evolves u n (List.Subset.refl _) (.refl _ u)) (by simp)
  have hsnap : ∀ u : State, KeepsCourse u (if u.snapDue then u.takeSnapshot n else u) := by
    intro u
    split
    · exact .of_evolves (State.takeSnapshot_evolves u n (List.Subset.refl _) (.refl _ u)) (by simp)
    · exact .refl u
  unfold State.senderFlip
  rw [hp]
  dsimp only
  generalize p.dueCommits n = u at hlater hdue ⊢
  have hall := ((htap u).trans (State.latchAt_keepsCourse _ n)).trans (hsnap _)
  generalize (if u.blockHeld 4 then u else u.tapFlips n).latchAt n = v at hall ⊢
  generalize (if v.snapDue then v.takeSnapshot n else v) = w at hall ⊢
  have hw : w.flip.last = some n ∧ w.flip.lastAt = w.wall ∧ s.senderFlipTime n ≤ w.wall ∧
      w.flip.next = some ((n + 1) % 2 ^ 64) ∧ ∀ x ∈ w.txn.accepted, n < x.flip := by
    refine ⟨?_, ?_, ?_, ?_, ?_⟩
    · rw [hall.last, hdue.last]; exact hlast
    · rw [hall.lastAt, hdue.lastAt, hall.wall, hdue.wall]; exact hat.trans hwall.symm
    · rw [hall.wall, hdue.wall]; exact hwall ▸ s.le_untilWall _
    · rw [hall.next, hdue.next]; exact hnext
    · rw [hall.accepted]; exact hlater
  obtain ⟨h1, h2, h3, h4, h5⟩ := hw
  split
  · exact ⟨h1, h2, h3, .inr rfl, h5⟩
  · exact ⟨h1, h2, h3, .inl h4, h5⟩

end Sys2Proof.Machine
end

section
/-! SUPPORT. Uploads and a tile's flip (R239, R245, R306, R342, R345). -/

namespace Sys2Proof.Machine

/-! Uploads (R345) -/

/-- R345: an upload that is cut leaves the held SETs, and on the lamps nothing but which ports are cut. -/
theorem State.cutPorts_spec (s : State) (flip : Nat) (ps : List Nat) :
    (s.cutPorts flip ps).link.heldSets = s.link.heldSets ∧ (s.cutPorts flip ps).lamp = { s.lamp with cut := ps } := by
  have hstep : ∀ (t : State) (p : Nat),
      let u := ((t.setFlag (F.LMB_PORT_STAT_UPLOAD_LATE p) true).event F.LMB_EVT_UPLOAD_LATE).bump F.LMB_CNT_UPLOAD_LATE_COUNT
      let v := u.fault 2 5 (leBytes 4 (flip % 2 ^ 32) ++ leBytes 1 p)
      v.link.heldSets = t.link.heldSets ∧ v.lamp = t.lamp := by
    intro t p
    have hfault := State.fault_evolves (((t.setFlag (F.LMB_PORT_STAT_UPLOAD_LATE p) true).event F.LMB_EVT_UPLOAD_LATE).bump
      F.LMB_CNT_UPLOAD_LATE_COUNT) 2 5 (leBytes 4 (flip % 2 ^ 32) ++ leBytes 1 p) (List.Subset.refl _) (.refl _ _)
    exact ⟨(State.fault_heldSets _ _ _ _).trans (by simp), (hfault.parts .lamp (by simp)).trans (by simp)⟩
  unfold State.cutPorts
  exact ⟨foldl_keeps (fun t => t.link.heldSets) (fun t p => (hstep t p).1) ps _, foldl_keeps (fun t => t.lamp) (fun t p => (hstep t p).2) ps _⟩

theorem State.closeUpload_heldSets (s : State) (flip upTo : Nat) : (s.closeUpload flip upTo).link.heldSets = s.link.heldSets := by
  unfold State.closeUpload
  split
  · rfl
  next from_ _ =>
    have hend := (State.endUpload_evolves s from_ upTo (List.Subset.refl _) (.refl _ s)).parts .link (by simp)
    generalize s.endUpload from_ upTo = e at hend ⊢
    obtain ⟨t, cut, got, want⟩ := e
    exact (State.cutPorts_spec _ flip cut).1.trans (congrArg LinkState.heldSets hend)

theorem State.endUpload_upload (s : State) (from_ upTo : Nat) : (s.endUpload from_ upTo).1.lamp.upload = none := by
  unfold State.endUpload
  dsimp only

/-- R345, R359: an upload that was running has ended, and its words wait for the flip's check. -/
theorem State.closeUpload_lamp {s : State} {from_ : Nat} (flip upTo : Nat) (h : s.lamp.upload = some from_) :
    (s.closeUpload flip upTo).lamp.upload = none ∧ ∃ v, (s.closeUpload flip upTo).lamp.visor = some v ∧ v.flip = flip := by
  have hend := s.endUpload_upload from_ upTo
  unfold State.closeUpload
  rw [h]
  dsimp only
  generalize s.endUpload from_ upTo = e at hend ⊢
  obtain ⟨t, cut, got, want⟩ := e
  dsimp only at hend ⊢
  rw [(State.cutPorts_spec _ flip cut).2]
  exact ⟨hend, _, rfl, rfl⟩

/-! The flip of a tile -/

/-- Nothing is due where no commit waits. -/
theorem State.dueCommits_none {s : State} (n : Nat) (h : s.txn.accepted = []) : s.dueCommits n = s := by
  have htxn : ({ s.txn with accepted := [] } : TxnState) = s.txn := by rw [← h]
  unfold State.dueCommits
  rw [h]
  simp only [List.filter_nil, List.foldl_nil]
  rw [htxn]

/-- Nothing is due where no SET is held. -/
theorem State.dueSets_none {s : State} (n : Nat) (h : s.link.heldSets = []) : s.dueSets n = s := by
  have hlink : ({ s.link with heldSets := [] } : LinkState) = s.link := by rw [← h]
  unfold State.dueSets
  rw [h]
  simp only [List.filter_nil, List.foldr_nil, List.length_nil, groupSets, List.foldl_nil]
  rw [hlink]

/-- R306: where the READY frame of the flip is shown. -/
theorem State.mem_showFrames {s : State} (n a : Nat) (x : Area) (h : (a, x) ∈ s.tile.areas) :
    (∀ f, x.ready = some f → f.flip = n → (a, { x with shown := some f, ready := none }) ∈ (s.showFrames n).tile.areas) ∧
    ((∀ f, x.ready = some f → f.flip ≠ n) → (a, x) ∈ (s.showFrames n).tile.areas) := by
  constructor
  · intro f hf hn
    refine List.mem_map.mpr ⟨(a, x), h, ?_⟩
    simp [hf, hn]
  · intro hn
    refine List.mem_map.mpr ⟨(a, x), h, ?_⟩
    cases hr : x.ready with
    | none => simp
    | some f => simp [hn f hr]

theorem State.swapGrey_areas (s : State) (n : Nat) : (s.swapGrey n).tile.areas = s.tile.areas := by
  unfold State.swapGrey
  split <;> rfl

theorem State.swapGrey_next {s : State} {n : Nat} (h : s.tile.next = some n) :
    (s.swapGrey n).tile.front = 1 - s.tile.front ∧ (s.swapGrey n).tile.next = none := by
  rw [State.swapGrey, if_pos h]
  exact ⟨rfl, rfl⟩

theorem State.swapGrey_showFrames_tile {s u : State} (n : Nat) (h : u.tile = s.tile) :
    ((u.showFrames n).swapGrey n).tile = ((s.showFrames n).swapGrey n).tile := by
  have hshow : (u.showFrames n).tile = (s.showFrames n).tile := by rw [State.showFrames, State.showFrames, h]
  generalize u.showFrames n = v at hshow ⊢
  generalize s.showFrames n = w at hshow ⊢
  rw [State.swapGrey, State.swapGrey, hshow]
  split
  · rfl
  · exact hshow

/-- R306, R342: what follows on a tile once its upload has ended and the time of its flip has come, with nothing else due. -/
theorem State.flipShown_spec (u : State) (n : Nat) (built : Bool) (misses : List VisorMiss) (ha : u.txn.accepted = [])
    (hh : u.link.heldSets = []) :
    let t := (((((u.showFrames n).swapGrey n).flipPassed n).dueCommits n).dueSets n).lampFlip n built misses
    t.flip.last = some n ∧ t.flip.next = some ((n + 1) % 2 ^ 64) ∧ t.wall = u.wall ∧ t.tile = ((u.showFrames n).swapGrey n).tile := by
  have hshow : OnlyParts [.tile] u ((u.showFrames n).swapGrey n) :=
    (State.swapGrey_evolves _ n (by simp) (State.showFrames_evolves u n (by simp) (.refl [.tile] u))).parts
  generalize (u.showFrames n).swapGrey n = v at hshow ⊢
  obtain ⟨hparts, hlast, -, hnext⟩ := v.flipPassed_spec n
  generalize v.flipPassed n = w at hparts hlast hnext ⊢
  have hw : OnlyParts [.regs, .flip, .tile] u w := (hshow.mono (by simp)).trans (hparts.mono (by simp))
  rw [State.dueCommits_none n (show w.txn.accepted = [] by rw [show w.txn = u.txn from hw .txn (by simp), ha]),
    State.dueSets_none n (show w.link.heldSets = [] by rw [show w.link = u.link from hw .link (by simp), hh])]
  have hlamp := (State.lampFlip_evolves w n built misses (List.Subset.refl _) (.refl _ w)).parts
  generalize w.lampFlip n built misses = z at hlamp ⊢
  have hflip : z.flip = w.flip := hlamp .flip (by simp)
  exact ⟨by rw [hflip, hlast], by rw [hflip, hnext], (hlamp .wall (by simp)).trans (hw .wall (by simp)),
    (hlamp .tile (by simp)).trans (hparts .tile (by simp))⟩

/-- R239, R245: a tile's flip, when it holds the FLIP and no build runs. -/
theorem State.tileFlip_eq {s : State} {n : Nat} {f : FlipMsg} (misses : List VisorMiss) (hr : s.tileRole = true)
    (hk : s.knownFlip n = some f) (hb : s.tile.build = none) :
    let u := (s.closeUpload n (edgeFrom (timeWall f.time))).untilWall (timeWall f.time)
    s.tileFlip n misses =
      (((((u.showFrames n).swapGrey n).flipPassed n).dueCommits n).dueSets n).lampFlip n (u.tile.next == some n) misses := by
  have htime : s.flipTime n = timeWall f.time := by rw [State.flipTime, if_pos hr, hk, Option.elim_some]
  have hclose := (State.closeUpload_evolves s n (edgeFrom (timeWall f.time)) (List.Subset.refl _) (.refl _ s)).parts .tile (by simp)
  have hbuild : ((s.closeUpload n (edgeFrom (timeWall f.time))).untilWall (timeWall f.time)).tile.build = none := by
    rw [State.untilWall_tile, show (s.closeUpload n (edgeFrom (timeWall f.time))).tile = s.tile from hclose, hb]
  have hknown : ¬(s.knownFlip n).isNone = true := by rw [hk]; exact Bool.false_ne_true
  unfold State.tileFlip
  rw [htime, if_neg hknown]
  dsimp only
  generalize (s.closeUpload n (edgeFrom (timeWall f.time))).untilWall (timeWall f.time) = u at hbuild ⊢
  rw [hbuild]

/-- R342: where a tile's flip ends, when it holds the FLIP, no build runs and nothing else is due. -/
theorem State.tileFlip_spec {s : State} {n : Nat} {f : FlipMsg} (misses : List VisorMiss) (hr : s.tileRole = true)
    (hk : s.knownFlip n = some f) (hb : s.tile.build = none) (ha : s.txn.accepted = []) (hh : s.link.heldSets = []) :
    let t := s.tileFlip n misses
    t.flip.last = some n ∧ t.flip.next = some ((n + 1) % 2 ^ 64) ∧ timeWall f.time ≤ t.wall ∧
      t.tile = ((s.showFrames n).swapGrey n).tile := by
  have hclose := (State.closeUpload_evolves s n (edgeFrom (timeWall f.time)) (List.Subset.refl _) (.refl _ s)).parts
  have hheld := s.closeUpload_heldSets n (edgeFrom (timeWall f.time))
  have heq := State.tileFlip_eq misses hr hk hb
  generalize s.closeUpload n (edgeFrom (timeWall f.time)) = c at hclose hheld heq
  have hwall := c.le_untilWall (timeWall f.time)
  have htile := State.swapGrey_showFrames_tile n ((c.untilWall_tile (timeWall f.time)).trans (hclose .tile (by simp)))
  obtain ⟨hlast, hnext, hw, ht⟩ := (c.untilWall (timeWall f.time)).flipShown_spec n
    ((c.untilWall (timeWall f.time)).tile.next == some n) misses
    (by rw [State.untilWall_txn, show c.txn = s.txn from hclose .txn (by simp), ha]) (by rw [State.untilWall_link, hheld, hh])
  rw [← heq] at hlast hnext hw ht
  exact ⟨hlast, hnext, hw ▸ hwall, ht.trans htile⟩

end Sys2Proof.Machine
end

section
/-! SUPPORT. The Cuff (R64, R187, R306, R311): what its opening does on a sender and on a tile. -/

namespace Sys2Proof.Machine

/-! Fields -/

theorem Fld.apart_of_addr {f g : Fld} (h : f.addr ≠ g.addr) : f.apart g = true := by simp [Fld.apart, h]

theorem OnlyFlds.flag {fs : List Fld} {s t : State} (h : OnlyFlds fs s t) {g : Fld} (hg : g.ok = true) (ha : ∀ f ∈ fs, f.apart g = true) :
    t.flag g = s.flag g := by
  rw [State.flag, State.flag, h g hg ha]

theorem State.flag_of_fld {s : State} {f : Fld} {b : Bool} (h : s.fld f = b.toNat) : s.flag f = b := by
  rw [State.flag, h]
  cases b <;> rfl

theorem State.flag_setFlag (s : State) (f : Fld) (b : Bool) (h : f.ok = true) : (s.setFlag f b).flag f = b :=
  State.flag_of_fld (s.fld_setFlag_same f b h)

theorem State.mode_congr {s t : State} (h : t.fld F.SYS_MODE_MODE = s.fld F.SYS_MODE_MODE) : t.mode = s.mode := by
  rw [State.mode, State.mode, h]

/-! A sender (R187) -/

/-- R187: what is set for a view-frame that is late. -/
theorem State.lateMarked_spec (u : State) (view cycles : Nat) :
    let t := (((((u.bump (F.CMP_VIEW_STAT_LATE_COUNT view)).event F.CMP_SCAN_EVT_SCAN_LATE).setFlag (F.CMP_VIEW_STAT_LATE view)
      true).setFlag (F.CMP_VIEW_STAT_SENT view) false).setFlag F.CMP_STAT_BUSY false).setFld F.CMP_RENDER_CYCLES cycles
    t.scan = u.scan ∧ t.flag F.CMP_SCAN_EVT_SCAN_LATE = true ∧
      t.fld (F.CMP_VIEW_STAT_LATE_COUNT view) = min (u.fld (F.CMP_VIEW_STAT_LATE_COUNT view) + 1) 65535 ∧
      t.flag (F.CMP_VIEW_STAT_LATE view) = true ∧ t.flag (F.CMP_VIEW_STAT_SENT view) = false := by
  have hbusy : ∀ (v : State) (g : Fld), g.ok = true → F.CMP_STAT_BUSY.apart g = true → F.CMP_RENDER_CYCLES.apart g = true →
      ((v.setFlag F.CMP_STAT_BUSY false).setFld F.CMP_RENDER_CYCLES cycles).fld g = v.fld g := by
    intro v g hg hb hc
    rw [State.fld_setFld_apart _ _ _ _ rfl hg hc, State.fld_setFlag_apart _ _ _ _ rfl hg hb]
  have hview : ∀ (v : State) (g : Fld), g.ok = true → (F.CMP_VIEW_STAT_LATE view).apart g = true →
      (F.CMP_VIEW_STAT_SENT view).apart g = true →
      ((v.setFlag (F.CMP_VIEW_STAT_LATE view) true).setFlag (F.CMP_VIEW_STAT_SENT view) false).fld g = v.fld g := by
    intro v g hg ha hb
    rw [State.fld_setFlag_apart _ _ _ _ rfl hg hb, State.fld_setFlag_apart _ _ _ _ rfl hg ha]
  refine ⟨by simp, State.flag_of_fld ?_, ?_, State.flag_of_fld ?_, State.flag_of_fld ?_⟩
  · rw [hbusy _ _ rfl rfl rfl, hview _ _ rfl (Fld.apart_of_addr (by dsimp only; omega)) (Fld.apart_of_addr (by dsimp only; omega))]
    exact State.fld_event_same _ _ rfl
  · rw [hbusy _ _ rfl (Fld.apart_of_addr (by dsimp only; omega)) (Fld.apart_of_addr (by dsimp only; omega)),
      hview _ _ rfl (by simp [Fld.apart]) (by simp [Fld.apart]), State.fld_event_apart _ _ _ rfl rfl
      (Fld.apart_of_addr (by dsimp only; omega)), State.fld_bump_same _ _ rfl]
    rfl
  · rw [hbusy _ _ rfl (Fld.apart_of_addr (by dsimp only; omega)) (Fld.apart_of_addr (by dsimp only; omega)),
      State.fld_setFlag_apart _ _ _ _ rfl rfl (by simp [Fld.apart])]
    exact State.fld_setFlag_same _ _ true rfl
  · rw [hbusy _ _ rfl (Fld.apart_of_addr (by dsimp only; omega)) (Fld.apart_of_addr (by dsimp only; omega))]
    exact State.fld_setFlag_same _ _ false rfl

/-- R187: a view-frame that has not been sent whole when its Cuff opens is late. -/
theorem State.scanLate_spec {s : State} {f : ScanFrame} (hm : s.mode = .sender) (hf : s.scan.frame = some f) (hw : f.whole = false)
    (hl : f.late = false) :
    let t := s.scanLate f.flip
    t.scan.frame = some { f with late := true } ∧ t.flag F.CMP_SCAN_EVT_SCAN_LATE = true ∧
      t.fld (F.CMP_VIEW_STAT_LATE_COUNT f.view) = min (s.fld (F.CMP_VIEW_STAT_LATE_COUNT f.view) + 1) 65535 ∧
      t.flag (F.CMP_VIEW_STAT_LATE f.view) = true ∧ t.flag (F.CMP_VIEW_STAT_SENT f.view) = false ∧
      OnlyParts [.regs, .video, .scan] s t := by
  have hparts := (State.scanLate_evolves s f.flip (List.Subset.refl _) (.refl _ s)).parts
  generalize ht : s.scanLate f.flip = t at hparts
  rw [State.scanLate, hf] at ht
  dsimp only at ht
  rw [if_pos ⟨rfl, hw, hl, hm⟩] at ht
  obtain ⟨hscan, hevent, hcount, hlate, hsent⟩ := (s.setFrame (some { f with late := true })).lateMarked_spec f.view f.cycles
  generalize State.setFld _ F.CMP_RENDER_CYCLES f.cycles = u at ht hscan hevent hcount hlate hsent
  subst ht
  exact ⟨by rw [hscan]; rfl, hevent, hcount, hlate, hsent, hparts⟩

/-! A tile (R306, R311, R312) -/

/-- R306: frames that come too late are freed, counted and reported. -/
theorem State.lateFrames_flds (s : State) (n : Nat) : OnlyFlds [F.TIL_CNT0_REJ_COUNT, F.TIL_EVT_FRAME_LATE] s (s.lateFrames n) := by
  have hstep : ∀ (u : State) (x : Nat × Area), OnlyFlds [F.TIL_CNT0_REJ_COUNT, F.TIL_EVT_FRAME_LATE] u
      (match x.2.fill with
        | some f => if f.flip.num ≤ n then (u.dropFill x.1 x.2).event F.TIL_EVT_FRAME_LATE else u
        | none => u) := by
    intro u x
    split
    · split
      · exact ((OnlyFlds.of_regs (t := u.setArea x.1 { x.2 with fill := none }) rfl).bump _ rfl (by simp)).event _ rfl (by simp)
      · exact .refl _ u
    · exact .refl _ u
  unfold State.lateFrames
  generalize s.tile.areas = l
  induction l generalizing s with
  | nil => exact .refl _ s
  | cons x l ih => exact (hstep s x).trans (ih _)

/-- R311: what is set for a build. -/
theorem State.buildBegun_spec (u : State) (b : Build) :
    let t := (({ u with tile := { u.tile with build := some b } } : State).setFlag F.TIL_STAT_BUILD_BUSY true).setFld
      F.TIL_STAT_VIEW b.flip.view
    t.flag F.TIL_STAT_BUILD_BUSY = true ∧ t.fld F.TIL_STAT_VIEW = b.flip.view % 8 ∧ t.tile.build = some b := by
  refine ⟨State.flag_of_fld ?_, State.fld_setFld_same _ _ _ rfl, by simp⟩
  rw [State.fld_setFld_apart _ _ _ _ rfl rfl rfl]
  exact State.fld_setFlag_same _ _ true rfl

/-- R311: a build that starts is the flip's. -/
theorem State.buildStart_spec (s : State) (f : FlipMsg) :
    (s.buildStart f).flag F.TIL_STAT_BUILD_BUSY = true ∧ (s.buildStart f).fld F.TIL_STAT_VIEW = f.view % 8 ∧
      ∃ b, (s.buildStart f).tile.build = some b ∧ b.flip = f := by
  unfold State.buildStart
  extract_lets s1 s2 src s3 px n rows inM fill guarded s4 s5 hidden b s6
  obtain ⟨hbusy, hview, hbuild⟩ := s5.buildBegun_spec b
  exact ⟨hbusy, hview, b, hbuild, rfl⟩

/-- R312: without a FLIP for it, a Cuff counts NO_FLIP. -/
theorem State.tileCuff_noFlip {s : State} {n : Nat} (hm : s.mode = .tile) (hk : s.knownFlip n = none) :
    (s.tileCuff n).flag F.TIL_EVT_NO_FLIP = true ∧
      (s.tileCuff n).fld F.TIL_CNT2_NO_FLIP_COUNT = min (s.fld F.TIL_CNT2_NO_FLIP_COUNT + 1) 65535 := by
  have hlate := s.lateFrames_flds n
  have hflip := (State.lateFrames_evolves s n (List.Subset.refl _) (.refl _ s)).parts .flip (by simp)
  unfold State.tileCuff
  generalize s.lateFrames n = u at hlate hflip ⊢
  have hum : u.mode = .tile := (State.mode_congr (hlate _ rfl (by decide))).trans hm
  have huk : u.knownFlip n = none := by rw [State.knownFlip, show u.flip = s.flip from hflip]; exact hk
  have hfault := State.fault_flds ((u.event F.TIL_EVT_NO_FLIP).bump F.TIL_CNT2_NO_FLIP_COUNT) 3 5 (leBytes 4 (n % 2 ^ 32))
  dsimp only
  rw [if_pos hum, huk]
  refine ⟨State.flag_of_fld ?_, ?_⟩
  · rw [hfault _ rfl (by decide), State.fld_bump_apart _ _ _ rfl rfl rfl]
    exact State.fld_event_same _ _ rfl
  · rw [hfault _ rfl (by decide), State.fld_bump_same _ _ rfl, State.fld_event_apart _ _ _ rfl rfl rfl, hlate _ rfl (by decide)]
    rfl

/-- R311: with a FLIP for it, a Cuff starts its build. -/
theorem State.tileCuff_build {s : State} {n : Nat} {f : FlipMsg} (hm : s.mode = .tile) (hk : s.knownFlip n = some f) :
    (s.tileCuff n).flag F.TIL_STAT_BUILD_BUSY = true ∧ (s.tileCuff n).fld F.TIL_STAT_VIEW = f.view % 8 ∧
      ∃ b, (s.tileCuff n).tile.build = some b ∧ b.flip = f := by
  have hlate := s.lateFrames_flds n
  have hflip := (State.lateFrames_evolves s n (List.Subset.refl _) (.refl _ s)).parts .flip (by simp)
  unfold State.tileCuff
  generalize s.lateFrames n = u at hlate hflip ⊢
  have hum : u.mode = .tile := (State.mode_congr (hlate _ rfl (by decide))).trans hm
  have huk : u.knownFlip n = some f := by rw [State.knownFlip, show u.flip = s.flip from hflip]; exact hk
  dsimp only
  rw [if_pos hum, huk]
  exact u.buildStart_spec f

/-! The Cuff opens (R64) -/

/-- R64: the time of a Cuff has come, and it is the one that has opened. -/
def State.cuffTime (s : State) (n : Nat) : State :=
  let u := s.untilWall (s.cuffOpens n)
  { u with flip := { u.flip with cuffed := some n, next := some n } }

theorem State.openCuff_eq (s : State) (n : Nat) :
    s.openCuff n = if s.tileRole then (s.cuffTime n).tileCuff n else (s.cuffTime n).scanLate n := rfl

theorem State.cuffTime_parts (s : State) (n : Nat) : OnlyParts [.cycles, .wall, .flip] s (s.cuffTime n) :=
  (Evolves.set_flip _ (by simp) (State.untilWall_evolves s _ (by simp) (.refl _ s))).parts

/-- R64: what the opening of a Cuff gives on every device. -/
theorem State.openCuff_flip (s : State) (n : Nat) :
    (s.openCuff n).flip = (s.cuffTime n).flip ∧ (s.openCuff n).wall = (s.untilWall (s.cuffOpens n)).wall := by
  have htile := (State.tileCuff_evolves (s.cuffTime n) n (List.Subset.refl _) (.refl _ _)).parts
  have hsender := (State.scanLate_evolves (s.cuffTime n) n (List.Subset.refl _) (.refl _ _)).parts
  rw [State.openCuff_eq]
  split
  · exact ⟨htile .flip (by simp), htile .wall (by simp)⟩
  · exact ⟨hsender .flip (by simp), hsender .wall (by simp)⟩

theorem execCuffOpen_opens {s : State} (hf : s.flips = true) (hc : s.flip.cuffed ≠ some s.nextFlip) :
    exec .cuffOpen s = .next (s.openCuff s.nextFlip) := by
  show execCuffOpen s = _
  rw [execCuffOpen, if_pos ⟨hf, hc⟩]

end Sys2Proof.Machine
end

section
/-! SUPPORT. Rendering and the mode (R31, R142, R459, R460): reading external memory for a pixel counts and reports errors, and
never changes the device's mode. -/

namespace Sys2Proof.Machine

/-! Reading a burst (R459, R460) -/

theorem State.mode_of_reg {s t : State} (h : t.reg 8 = s.reg 8) : t.mode = s.mode :=
  State.mode_congr (by rw [State.fld, State.fld, h])

theorem State.fault_reg {s : State} (cls code : Nat) (detail : List Byte) {a : Nat} (ha : a ≠ F.MLK_EVT_FAULT_OVF.addr) :
    (s.fault cls code detail).reg a = s.reg a :=
  (s.fault_flds cls code detail).reg (fun f hf => by rw [List.mem_singleton.mp hf]; exact ha)

theorem State.correctedError_mode (s : State) (b : Nat) : (s.correctedError b).mode = s.mode := by
  have hcount : (s.eventCount F.DRC_EVT_CE F.DRC_ECC_CNT_CE_COUNT).reg 8 = s.reg 8 := s.reg_eventCount_ne (by decide) (by decide)
  unfold State.correctedError
  dsimp only
  split
  · exact State.mode_of_reg hcount
  · exact State.mode_of_reg hcount

/-- R476: the words of a log entry go into the log. -/
theorem foldl_log_reg (n : Nat) (ws : List Nat) (l : List Nat) (s : State) :
    (l.foldl (fun t i => t.setReg (0x301000 + 0x10 * n + 4 * i) (BitVec.ofNat 32 (ws.getD i 0))) s).reg 8 = s.reg 8 := by
  induction l generalizing s with
  | nil => rfl
  | cons i l ih => exact (ih _).trans (s.reg_setReg_ne _ (by omega))

theorem State.uncorrectable_mode (s : State) (requester b words : Nat) : (s.uncorrectable requester b words).mode = s.mode := by
  have hcount : (s.eventCount F.DRC_EVT_UE F.DRC_ECC_CNT_UE_COUNT).reg 8 = s.reg 8 := s.reg_eventCount_ne (by decide) (by decide)
  refine State.mode_of_reg ?_
  unfold State.uncorrectable
  dsimp only
  rw [State.fault_reg _ _ _ (by decide)]
  generalize s.eventCount F.DRC_EVT_UE F.DRC_ECC_CNT_UE_COUNT = u at hcount ⊢
  split
  · rw [State.reg_setFld_ne _ _ (by decide), foldl_log_reg, hcount]
  · rw [State.reg_eventCount_ne _ (by decide) (by decide), hcount]

theorem State.readBurst_mode (s : State) (requester b : Nat) : (s.readBurst requester b).1.mode = s.mode := by
  unfold State.readBurst
  split
  · exact s.uncorrectable_mode _ _ _
  split
  · dsimp only
    split
    · rfl
    · exact State.correctedError_mode _ _
    · exact State.uncorrectable_mode _ _ _ _
  · rfl

/-! Reading a pixel (R142 to R159) -/

namespace Fetch

theorem foldl_mode {α β : Type} {step : Fetch × β → α → Fetch × β} (h : ∀ x a, (step x a).1.s.mode = x.1.s.mode) (l : List α)
    (x : Fetch × β) : (l.foldl step x).1.s.mode = x.1.s.mode := by
  induction l generalizing x with
  | nil => rfl
  | cons a l ih => exact (ih _).trans (h x a)

theorem burst_mode (f : Fetch) (b : Nat) : (f.burst b).1.s.mode = f.s.mode := by
  have hread := f.s.readBurst_mode 1 b
  unfold Fetch.burst
  split
  · rfl
  generalize f.s.readBurst 1 b = p at hread ⊢
  obtain ⟨t, r⟩ := p
  dsimp only at hread ⊢
  split
  · refine (State.mode_of_reg ?_).trans hread
    rw [State.reg_event_ne _ (by decide), State.reg_bump_ne _ (by decide)]
  · exact hread

theorem bytes_mode (f : Fetch) (addr n : Nat) : (f.bytes addr n).1.s.mode = f.s.mode := by
  have hstep : ∀ (x : Fetch × Option (List Byte)) (p : Nat × Nat × Nat),
      (let q := x.1.burst p.1
       (q.1, x.2.bind (fun acc => q.2.map (fun bs => acc ++ (bs.drop p.2.1).take p.2.2)))).1.s.mode = x.1.s.mode :=
    fun x p => x.1.burst_mode p.1
  rw [Fetch.bytes]
  exact foldl_mode hstep _ _

theorem num_mode (f : Fetch) (addr n : Nat) : (f.num addr n).1.s.mode = f.s.mode := by
  rw [Fetch.num]
  dsimp only
  exact f.bytes_mode addr n

theorem chroma_mode (f : Fetch) (l : Layout) (x y : Nat) (cr : Bool) : (f.chroma l x y cr).1.s.mode = f.s.mode := by
  rw [Fetch.chroma]
  generalize (if cr = true then x + 1 else x) = c
  split
  · rfl
  · dsimp only
    exact f.num_mode _ _

theorem chromaAt_mode (f : Fetch) (l : Layout) (x y : Nat) (cr : Bool) : (f.chromaAt l x y cr).1.s.mode = f.s.mode := by
  rw [Fetch.chromaAt]
  split
  · exact f.chroma_mode l x y cr
  dsimp only
  split
  · dsimp only
    exact f.chroma_mode l (x - 1) y cr
  · dsimp only
    rw [Fetch.chroma_mode, Fetch.chroma_mode]

theorem codes_mode (f : Fetch) (l : Layout) (x y : Nat) : (f.codes l x y).1.s.mode = f.s.mode := by
  rw [Fetch.codes]
  split
  · dsimp only
    rw [Fetch.chromaAt_mode, Fetch.chromaAt_mode, Fetch.num_mode]
  split
  · dsimp only
    rw [Fetch.num_mode]
  · dsimp only
    rw [Fetch.num_mode]

theorem live_mode (f : Fetch) (i : Nat) (l : Layout) (x y : Int) : (f.live i l x y).1.s.mode = f.s.mode := by
  rw [Fetch.live]
  dsimp only
  split
  · dsimp only
    rw [Fetch.codes_mode]
  · dsimp only
    rw [Fetch.codes_mode]

theorem mem_mode (f : Fetch) (w k : Nat) (x y : Int) : (f.mem w k x y).1.s.mode = f.s.mode := by
  rw [Fetch.mem]
  split
  · dsimp only
    split
    · dsimp only
      rw [Fetch.num_mode]
    · dsimp only
      rw [Fetch.num_mode]
  · dsimp only
    split
    · dsimp only
      rw [Fetch.num_mode]
    split
    · dsimp only
      rw [Fetch.num_mode]
    · dsimp only
      rw [Fetch.num_mode]

theorem source_mode (f : Fetch) (w k : Nat) (x y : Int) : (f.source w k x y).1.s.mode = f.s.mode := by
  rw [Fetch.source]
  dsimp only
  split
  · split
    · dsimp only
      rw [Fetch.live_mode]
    · rfl
    · rfl
  · dsimp only
    rw [Fetch.mem_mode]
  · rfl

theorem many_mode (f : Fetch) (w k : Nat) (ps : List (Int × Int)) : (f.many w k ps).1.s.mode = f.s.mode := by
  have hstep : ∀ (x : Fetch × List Pix) (p : Int × Int),
      (let q := x.1.source w k p.1 p.2
       (q.1, x.2 ++ [q.2.getD clearPix])).1.s.mode = x.1.s.mode :=
    fun x p => x.1.source_mode w k p.1 p.2
  rw [Fetch.many]
  exact foldl_mode hstep _ _

/-- R156: a clamped line buffer is reported. -/
theorem clamp_mode {f g : Fetch} (c : Prop) [Decidable c] (v : Nat) (h : g.s.mode = f.s.mode) :
    (if c then (⟨(g.s.event F.CMP_EVT_LINEBUF_CLAMP).setBit F.CMP_LINEBUF_EVT_SCALER v true, g.cache⟩ : Fetch) else g).s.mode =
      f.s.mode := by
  split
  · refine (State.mode_of_reg ?_).trans h
    rw [State.setBit, State.reg_setFld_ne _ _ (by decide), State.reg_event_ne _ (by decide)]
  · exact h

theorem scaled_mode (f : Fetch) (w k i j : Nat) : (f.scaled w k i j).1.s.mode = f.s.mode := by
  rw [Fetch.scaled]
  dsimp only
  refine clamp_mode _ _ (foldl_mode (fun acc t => ?_) _ _)
  dsimp only
  rw [Fetch.many_mode]

theorem layer_mode (f : Fetch) (w k i j : Nat) : (f.layer w k i j).1.s.mode = f.s.mode := by
  rw [Fetch.layer]
  dsimp only
  split
  · rfl
  split
  · dsimp only
    rw [Fetch.scaled_mode]
  · rw [Fetch.source_mode]

theorem pixel_mode (f : Fetch) (w : Nat) (rs : List GntRegion) (x y : Nat) : (f.pixel w rs x y).1.s.mode = f.s.mode := by
  rw [Fetch.pixel]
  dsimp only
  split
  all_goals
    refine foldl_mode (fun acc k => ?_) _ _
    split
    · split
      · rfl
      · dsimp only
        rw [Fetch.layer_mode]
    · rfl

end Fetch

/-- R142: a run is rendered in the mode in which it began, a code for each of its pixels. -/
theorem State.renderRun_spec (s : State) (view : Nat) (rs : List GntRegion) (ps : List (Nat × Nat)) :
    (s.renderRun view rs ps).1.mode = s.mode ∧ (s.renderRun view rs ps).2.1.length = ps.length := by
  constructor
  · rw [State.renderRun]
    dsimp only
    refine Fetch.foldl_mode (fun acc p => ?_) ps (Fetch.mk s [], [], 0)
    dsimp only
    rw [Fetch.pixel_mode]
  · have hlen : ∀ (l : List (Nat × Nat)) (acc : Fetch × List Nat × Nat),
        (l.foldl (fun (acc : Fetch × List Nat × Nat) p =>
          let q := acc.1.pixel view rs p.1 p.2
          (q.1, acc.2.1 ++ [q.2.1], acc.2.2 + q.2.2.toNat)) acc).2.1.length = acc.2.1.length + l.length := by
      intro l
      induction l with
      | nil => exact fun _ => rfl
      | cons p l ih => intro acc; rw [List.foldl_cons, ih]; simp; omega
    rw [State.renderRun]
    exact (hlen ps (Fetch.mk s [], [], 0)).trans (Nat.zero_add _)

end Sys2Proof.Machine
end

section
/-! SUPPORT. The scan-out (R200, R221, R239, R240): FLIP on every chain port, its second copy, and a burst for each footprint row. -/

namespace Sys2Proof.Machine

/-! FLIP (R239) -/

/-- R239: one FLIP for each chain port whose segment is UP. -/
def State.flipOutputs (s : State) (f : ScanFrame) : List Output :=
  ((List.range 8).filter s.portUp).map (fun p => Output.link p (.msg 0xFFFF false false (.flip (s.frameFlip f))))

/-- A message that asks for no acknowledgement leaves a sender at once. -/
theorem State.sendMsg_sent {s : State} (p dst : Nat) {m : LinkMsg} (tiles : List Nat) (hr : s.tileRole = false) (hm : asksAck m = false) :
    (s.sendMsg p dst m tiles).sent = s.sent ++ [.link p (.msg dst false false m)] ∧ (s.sendMsg p dst m tiles).regs = s.regs := by
  unfold State.sendMsg State.emitMsg
  rw [hr, hm]
  exact ⟨rfl, rfl⟩

theorem State.sendAll_sent {s : State} {m : LinkMsg} (hr : s.tileRole = false) (hm : asksAck m = false) :
    (s.sendAll m).sent = s.sent ++ ((List.range 8).filter s.portUp).map (fun p => Output.link p (.msg 0xFFFF false false m)) := by
  unfold State.sendAll
  generalize (List.range 8).filter s.portUp = l
  induction l generalizing s with
  | nil => simp
  | cons p l ih =>
    obtain ⟨hsent, hregs⟩ := State.sendMsg_sent (s := s) p 0xFFFF (s.chainTiles p) hr hm
    have hrole : (s.sendMsg p 0xFFFF m (s.chainTiles p)).tileRole = false := by
      rw [← hr, State.tileRole, State.tileRole, State.fld, State.fld, State.reg, State.reg, hregs]
    rw [List.foldl_cons, ih hrole, hsent]
    simp

theorem State.repeatAll_sent (s : State) (m : LinkMsg) :
    (s.repeatAll m).sent = s.sent ++ ((List.range 8).filter s.portUp).map (fun p => Output.link p (.msg 0xFFFF false false m)) := by
  unfold State.repeatAll
  generalize (List.range 8).filter s.portUp = l
  induction l generalizing s with
  | nil => simp
  | cons p l ih => rw [List.foldl_cons, ih]; simp [State.send]

theorem State.setFrame_scan (s : State) (f : Option ScanFrame) : (s.setFrame f).scan = { s.scan with frame := f } := rfl

theorem State.setFrame_cycles (s : State) (f : Option ScanFrame) : (s.setFrame f).cycles = s.cycles := rfl

/-- R239: the first copy of FLIP goes once the Gauntlet pass has ended. -/
theorem execFlipSend_sends {s : State} {f : ScanFrame} (hf : s.scan.frame = some f) (hm : s.mode = .sender) (hr : s.tileRole = false)
    (hl : f.late = false) (hc : f.copies = 0) :
    ∃ t, exec .flipSend s = .next t ∧ t.cycles = max s.cycles f.pass ∧ t.sent = s.sent ++ s.flipOutputs f ∧
      t.scan = { s.scan with frame := some { f with copies := 1, copyAt := t.cycles } } ∧
      OnlyParts [.cycles, .wall, .sent, .link, .scan] s t := by
  let u := s.untilCycle f.pass
  let v := u.sendAll (.flip (u.frameFlip f))
  have hu : Evolves [.cycles, .wall, .sent, .link, .scan] s u := State.untilCycle_evolves s f.pass (by simp) (.refl _ s)
  have hv : OnlyParts [.sent, .link] u v := (State.sendAll_evolves u _ (List.Subset.refl _) (.refl _ u)).parts
  have hsent : v.sent = s.sent ++ s.flipOutputs f := State.sendAll_sent (s := u) hr rfl
  have hcycles : v.cycles = u.cycles := hv .cycles (by simp)
  have hscan : v.scan = s.scan := hv .scan (by simp)
  refine ⟨v.setFrame (some { f with copies := 1, copyAt := u.cycles }), ?_, ?_, hsent, ?_, ?_⟩
  · show execFlipSend s = _
    rw [execFlipSend, hf]
    exact congrArg Host.Outcome.next (if_pos ⟨hc, hl, hm⟩)
  · exact hcycles.trans (s.untilCycle_cycles f.pass)
  · rw [State.setFrame_scan, State.setFrame_cycles, hscan, hcycles]
  · exact (hu.parts.trans (hv.mono (by simp))).trans (State.setFrame_evolves v _ (by simp) (.refl _ v)).parts

/-- R239: the second copy of FLIP goes 1 µs after the first. -/
theorem execFlipRepeat_sends {s : State} {f : ScanFrame} (hf : s.scan.frame = some f) (hm : s.mode = .sender)
    (hl : f.late = false) (hc : f.copies = 1) (hp : ∃ q, pickChain f.queues = some q)
    (hq : ∀ q ∈ f.queues, q.entries ≠ []) :
    ∃ t, exec .flipRepeat s = .next t ∧ t.cycles = max s.cycles (f.copyAt + usCycles 1) ∧ t.sent = s.sent ++ s.flipOutputs f ∧
      t.scan = { s.scan with frame := some { f with copies := 2 } } ∧ OnlyParts [.cycles, .wall, .sent, .scan] s t := by
  let u := s.untilCycle (f.copyAt + usCycles 1)
  let v := u.repeatAll (.flip (u.frameFlip f))
  have hu : Evolves [.cycles, .wall, .sent, .scan] s u := State.untilCycle_evolves s _ (by simp) (.refl _ s)
  have hv : OnlyParts [.sent] u v := (State.repeatAll_evolves u _ (List.Subset.refl _) (.refl _ u)).parts
  have hidle : f.queues.filter (fun q => q.entries == []) = [] := by
    rw [List.filter_eq_nil_iff]
    intro q hm
    simpa using hq q hm
  have hend : v.checkEnd { f with copies := 2 } = v.setFrame (some { f with copies := 2 }) := by
    obtain ⟨q, hpick⟩ := hp
    unfold State.checkEnd
    rw [show (pickChain ({ f with copies := 2 } : ScanFrame).queues) = some q from hpick]
    simp
  refine ⟨v.setFrame (some { f with copies := 2 }), ?_, ?_, u.repeatAll_sent _, ?_, ?_⟩
  · show execFlipRepeat s = _
    rw [execFlipRepeat, hf]
    refine congrArg Host.Outcome.next ((if_pos ⟨hc, hl, hm⟩).trans ?_)
    rw [hidle]
    exact hend
  · exact (hv .cycles (by simp)).trans (s.untilCycle_cycles _)
  · rw [State.setFrame_scan, show v.scan = s.scan from hv .scan (by simp)]
  · exact (hu.parts.trans (hv.mono (by simp))).trans (State.setFrame_evolves v _ (by simp) (.refl _ v)).parts

/-! Bursts (R200, R221) -/

/-- R221: the burst of a footprint row, from its rendered codes. -/
def State.rowBurst (s : State) (f : ScanFrame) (e row : Nat) (codes : List Nat) : Burst :=
  let b := s.map.active
  let ps := s.rowPixels e row
  ⟨f.view, ps.length, row, mapFld b e 1 31 24, mapFld b e 0 15 0, f.flip % 2 ^ 32, f.gen, claimTag s.claim,
    if s.v1Tile (mapFld b e 0 15 0) then none else spansOf f.regions ps, codes⟩

theorem State.rowPixels_length (s : State) (e row : Nat) : (s.rowPixels e row).length = (footprint s.map.active e).1 := by
  simp [State.rowPixels]

/-- R200: a turn sends one burst, and what it sends besides follows it. -/
theorem State.scanBurst_sends {s : State} {f f0 : ScanFrame} {c e row : Nat} (stalls : Nat) (hm : s.mode = .sender)
    (ht : f.turn = some (c, e, row, f0)) :
    ∃ pre post, (s.scanBurst f stalls).sent = s.sent ++ pre ++
      Output.link c (.burst (s.rowBurst f e row (s.renderRun f.view f.regions (s.rowPixels e row)).2.1)) :: post := by
  have hmode := (s.renderRun_spec f.view f.regions (s.rowPixels e row)).1
  obtain ⟨pre, hpre⟩ := (State.renderRun_evolves s f.view f.regions (s.rowPixels e row) (List.Subset.refl _) (.refl _ s)).sent
  have hrest : ∀ (u : State) (codes : List Nat) (fill : Nat) (g : ScanFrame),
      let v := ((u.tapRun f.view (s.rowPixels e row) codes).bumpBy F.CMP_STALL_CNT_CYCLES stalls).setFld
        (F.CMP_VIEW_FILL_PIXELS f.view) fill
      u.sent <+: (if row + 1 < (footprint s.map.active e).2 then v.setFrame (some g) else v.moduleSent g c e).sent := by
    intro u codes fill g
    have hv := State.setFld_evolves _ (F.CMP_VIEW_FILL_PIXELS f.view) fill (ps₀ := [.regs, .fresh, .sent, .sched, .link, .repl,
      .faults, .nvm, .dram, .video, .scan, .red]) (by simp) (State.bumpBy_evolves _ F.CMP_STALL_CNT_CYCLES stalls (by simp)
      (State.tapRun_evolves u f.view (s.rowPixels e row) codes (by simp) (.refl _ u)))
    dsimp only
    split
    · exact (State.setFrame_evolves _ (some g) (by simp) hv).sent
    · exact (State.moduleSent_evolves _ g c e (by simp) hv).sent
  rw [State.scanBurst, ht]
  dsimp only
  generalize s.renderRun f.view f.regions (s.rowPixels e row) = p at hmode hpre ⊢
  obtain ⟨u, codes, fill⟩ := p
  dsimp only at hmode hpre ⊢
  obtain ⟨post, hpost⟩ := hrest (u.sendIfActive c (.burst (s.rowBurst f e row codes))) codes (f0.fill + fill) _
  refine ⟨pre, post, hpost.symm.trans ?_⟩
  rw [State.sendIfActive, if_pos (hmode.trans hm)]
  show u.sent ++ [_] ++ post = _
  rw [← hpre]
  simp

/-- R200: after a burst that is not a module's last, its next row is to come. -/
theorem State.scanBurst_frame {s : State} {f f0 : ScanFrame} {c e row : Nat} (stalls : Nat) (ht : f.turn = some (c, e, row, f0))
    (hr : row + 1 < (footprint s.map.active e).2) :
    ∃ g, (s.scanBurst f stalls).scan.frame = some g ∧ g.cur = some (c, e, row + 1) ∧
      g.cycles = f0.cycles + ((footprint s.map.active e).1 + 15) / 16 + stalls ∧ g.queues = f0.queues := by
  rw [State.scanBurst, ht]
  dsimp only
  rw [if_pos hr]
  exact ⟨_, rfl, rfl, by rw [s.rowPixels_length], rfl⟩

/-- R200, R221: SCAN_OUT_BURST sends one footprint row. -/
theorem execScanOutBurst_sends {s : State} {f f0 : ScanFrame} {c e row : Nat} (stalls : Nat) (hf : s.scan.frame = some f)
    (hm : s.mode = .sender) (hl : f.late = false) (hc : f.copies = 2) (hw : f.whole = false) (ho : s.cuffIsOpen f.flip = false)
    (ht : f.turn = some (c, e, row, f0)) :
    ∃ t b pre post, exec (.scanOutBurst stalls) s = .next t ∧ t.sent = s.sent ++ pre ++ Output.link c (.burst b) :: post ∧
      b.view = f.view ∧ b.row = row ∧ b.flipLo = f.flip % 2 ^ 32 ∧ b.tile = mapFld s.map.active e 0 15 0 ∧
      b.module = mapFld s.map.active e 1 31 24 ∧ b.count = (footprint s.map.active e).1 ∧ b.pixels.length = b.count ∧
      (row + 1 < (footprint s.map.active e).2 → ∃ g, t.scan.frame = some g ∧ g.cur = some (c, e, row + 1) ∧
        g.cycles = f0.cycles + (b.count + 15) / 16 + stalls ∧ g.queues = f0.queues) := by
  have hexec : exec (.scanOutBurst stalls) s = .next (s.scanBurst f stalls) := by
    show execScanOutBurst stalls s = _
    rw [execScanOutBurst, hf]
    dsimp only
    rw [if_neg (by simp [hw, hl, ho]), if_pos ⟨hm, hc⟩]
  obtain ⟨pre, post, hsent⟩ := State.scanBurst_sends stalls hm ht
  have hcount := s.rowPixels_length e row
  have hcodes := (s.renderRun_spec f.view f.regions (s.rowPixels e row)).2
  refine ⟨_, _, pre, post, hexec, hsent, rfl, rfl, rfl, rfl, rfl, hcount, hcodes, fun hr => ?_⟩
  obtain ⟨g, hg, hcur, hcycles, hqueues⟩ := State.scanBurst_frame stalls ht hr
  exact ⟨g, hg, hcur, hcycles.trans (by rw [← hcount]; rfl), hqueues⟩

end Sys2Proof.Machine
end

section
/-! SUPPORT. Builds that end, and visits (R310, R313, R341, R345, R358). -/

namespace Sys2Proof.Machine

/-! Builds (R310, R313, R383) -/

/-- R313: when the build of a flip ends. -/
def State.buildTime (s : State) (b : Build) : State := s.untilCycle (b.since + b.takes)

/-- R383: the grey of a build, with what is concealed. -/
def State.builtGrey (s : State) (b : Build) : List Nat := conceal b.conceal b.spread s.lampsPer s.tileW b.hidden b.modules b.lamps

/-- The fields of a build that ends. -/
def buildFlds : List Fld := [F.TIL_STAT_BUILD_BUSY, F.TIL_BUILD_LAST_100NS, F.TIL_BUILD_MAX_100NS]

/-- R313: what is set at the end of a build. -/
theorem State.buildTimed_spec (u : State) (took longest : Nat) :
    let t := ((u.setFlag F.TIL_STAT_BUILD_BUSY false).setFld F.TIL_BUILD_LAST_100NS (min took 0xFFFF)).setFld F.TIL_BUILD_MAX_100NS longest
    t.tile = u.tile ∧ t.flag F.TIL_STAT_BUILD_BUSY = false ∧ t.fld F.TIL_BUILD_LAST_100NS = min took 65535 ∧ OnlyFlds buildFlds u t := by
  refine ⟨by simp, State.flag_of_fld ?_, ?_, ?_⟩
  · rw [State.fld_setFld_apart _ _ _ _ rfl rfl rfl, State.fld_setFld_apart _ _ _ _ rfl rfl rfl]
    exact State.fld_setFlag_same _ _ false rfl
  · rw [State.fld_setFld_apart _ _ _ _ rfl rfl rfl, State.fld_setFld_same _ _ _ rfl]
    exact Nat.mod_eq_of_lt (Nat.lt_of_le_of_lt (Nat.min_le_right _ _) (by decide))
  · exact (((OnlyFlds.refl _ u).setFlag _ _ rfl (by simp [buildFlds])).setFld _ _ rfl (by simp [buildFlds])).setFld _ _ rfl
      (by simp [buildFlds])

/-- R313: what the end of a build leaves behind. -/
theorem State.buildEnds_spec (s : State) (b : Build) (greys : List Nat) (took : Nat) :
    let t := s.buildEnds b greys took
    t.tile.build = none ∧ t.tile.next = some b.flip.num ∧ t.tile.built = true ∧ t.tile.store = Sparse.putRun storeReset s.tile.store
        (storeAt (greyBase (1 - s.tile.front)))
        ((conceal b.conceal b.spread s.lampsPer s.tileW b.hidden b.modules greys).map (BitVec.ofNat 16)) ∧
      t.flag F.TIL_STAT_BUILD_BUSY = false ∧ t.fld F.TIL_BUILD_LAST_100NS = min took 65535 ∧ OnlyParts [.regs, .tile] s t ∧
      OnlyFlds buildFlds s t := by
  have hparts := (State.buildEnds_evolves s b greys took (List.Subset.refl _) (.refl _ s)).parts
  generalize hw : s.buildEnds b greys took = w at hparts
  unfold State.buildEnds at hw
  extract_lets g s1 store s2 t at hw
  obtain ⟨htile, hbusy, hlast, hflds⟩ := s2.buildTimed_spec took (max t (s2.fld F.TIL_BUILD_MAX_100NS))
  rw [hw] at htile hbusy hlast hflds
  exact ⟨by rw [htile], by rw [htile], by rw [htile], by rw [htile]; rfl, hbusy, hlast, hparts, (OnlyFlds.of_regs rfl).trans hflds⟩

/-- R310: the built grey stands in the buffer that is not on the lamps. -/
theorem State.buildEnds_half (s : State) (b : Build) (took l : Nat) (h : l < (s.builtGrey b).length) :
    (s.buildEnds b b.lamps took).half (storeAt (greyBase (1 - s.tile.front)) + l) = (s.builtGrey b).getD l 0 % 65536 := by
  obtain ⟨-, -, -, hstore, -⟩ := s.buildEnds_spec b b.lamps took
  rw [State.half, hstore, ← State.builtGrey, Sparse.get_putRun_inside storeReset _ _ _ l (by simpa using h),
    List.getD_eq_getElem _ _ h]
  simp

/-- R313: BUILD_DONE before its flip. -/
theorem execBuildDone_ends {s : State} {b : Build} (hb : s.tile.build = some b)
    (hw : (s.buildTime b).wall ≤ (s.buildTime b).flipTime b.flip.num) :
    ∃ t, exec .buildDone s = .next t ∧ t.tile.build = none ∧ t.tile.next = some b.flip.num ∧ t.tile.built = true ∧
      t.flag F.TIL_STAT_BUILD_BUSY = false ∧ t.fld F.TIL_BUILD_LAST_100NS = min (b.takes / 50) 65535 ∧
      t.cycles = max s.cycles (b.since + b.takes) ∧ t.lamp.upload.isSome = true ∧
      (∀ l, l < (s.builtGrey b).length → t.half (storeAt (greyBase (1 - s.tile.front)) + l) = (s.builtGrey b).getD l 0 % 65536) ∧
      OnlyParts [.regs, .cycles, .wall, .tile, .lamp] s t ∧
      OnlyFlds buildFlds s t := by
  have hexec : exec .buildDone s = .next
      (let v := (s.buildTime b).buildEnds b b.lamps (b.takes / 50)
       { v with lamp := { v.lamp with upload := some ((v.wall / ofNs 10 + 1) * ofNs 10) } }) := by
    show execBuildDone s = _
    rw [execBuildDone, hb]
    exact congrArg Host.Outcome.next (if_neg (Nat.not_lt.mpr hw))
  have hhalf := (s.buildTime b).buildEnds_half b (b.takes / 50)
  have htime : Evolves [.regs, .cycles, .wall, .tile, .lamp] s (s.buildTime b) := State.untilCycle_evolves s _ (by simp) (.refl _ s)
  have hcycles : (s.buildTime b).cycles = max s.cycles (b.since + b.takes) := s.untilCycle_cycles _
  obtain ⟨hbuild, hnext, hbuilt, -, hbusy, hlast, hparts, hflds⟩ := (s.buildTime b).buildEnds_spec b b.lamps (b.takes / 50)
  generalize (s.buildTime b).buildEnds b b.lamps (b.takes / 50) = v at hexec hhalf hbuild hnext hbuilt hbusy hlast hparts hflds
  refine ⟨_, hexec, hbuild, hnext, hbuilt, hbusy, hlast, (hparts .cycles (by simp)).trans hcycles, rfl, hhalf, ?_, ?_⟩
  · exact (htime.parts.trans (hparts.mono (by simp))).trans (Evolves.set_lamp _ (by simp) (.refl _ v)).parts
  · exact (OnlyFlds.of_regs (t := s.buildTime b) rfl).trans (hflds.trans (.of_regs rfl))

/-- R345: the wall time at which the upload of flip n must end: 2 cycles before the run at its E_0. -/
def State.uploadEnd (s : State) (n : Nat) : Nat :=
  edgeFrom (s.flipTime n) - ofNs (10 * ((if s.lamp.latch = [] then 4 else 8) + 2))

/-- R345: UPLOAD_DEADLINE. -/
theorem execUploadDeadline_ends {s : State} {from_ n : Nat} (hu : s.lamp.upload = some from_) (hn : s.tile.next = some n) :
    ∃ t, exec .uploadDeadline s = .next t ∧ t.lamp.upload = none ∧ (∃ v, t.lamp.visor = some v ∧ v.flip = n) ∧
      s.uploadEnd n ≤ t.wall := by
  have hexec : execUploadDeadline s = .next ((s.untilWall (s.uploadEnd n)).closeUpload n (s.uploadEnd n)) := by
    rw [execUploadDeadline, hu, hn, State.uploadEnd]
  have hwall := s.le_untilWall (s.uploadEnd n)
  obtain ⟨hupload, hvisor⟩ := State.closeUpload_lamp n (s.uploadEnd n)
    (show (s.untilWall (s.uploadEnd n)).lamp.upload = some from_ by rw [State.untilWall_lamp, hu])
  generalize s.untilWall (s.uploadEnd n) = u at hexec hwall hupload hvisor
  have hclose : (u.closeUpload n (s.uploadEnd n)).wall = u.wall :=
    (State.closeUpload_evolves u n (s.uploadEnd n) (List.Subset.refl _) (.refl _ u)).parts .wall (by simp)
  exact ⟨_, hexec, hupload, hvisor, hclose ▸ hwall⟩

/-! Bits of a field -/

theorem testBit_add_two_pow {v i : Nat} (j : Nat) (h : v / 2 ^ i % 2 = 0) :
    (v + 2 ^ i).testBit j = (decide (j = i) || v.testBit j) := by
  obtain ⟨a, ha⟩ : ∃ a, v / 2 ^ i = 2 * a := ⟨v / 2 ^ i / 2, by omega⟩
  have hlt : v % 2 ^ i < 2 ^ i := Nat.mod_lt _ (by positivity)
  have hv : v = 2 ^ i * (2 * a) + v % 2 ^ i := by rw [← ha]; exact (Nat.div_add_mod v (2 ^ i)).symm
  have hsum : v + 2 ^ i = 2 ^ i * (2 * a + 1) + v % 2 ^ i := by rw [Nat.mul_add, Nat.mul_one]; omega
  rw [hsum, Nat.two_pow_add_eq_or_of_lt hlt]
  conv_rhs => rw [hv, Nat.two_pow_add_eq_or_of_lt hlt]
  rw [Nat.testBit_or, Nat.testBit_or, Nat.testBit_two_pow_mul, Nat.testBit_two_pow_mul]
  rcases Nat.lt_trichotomy j i with hj | hj | hj
  · simp [Nat.not_le.mpr hj, Nat.ne_of_lt hj]
  · simp [hj]
  · obtain ⟨k, hk⟩ : ∃ k, j - i = k + 1 := ⟨j - i - 1, by omega⟩
    rw [hk, Nat.testBit_succ, Nat.testBit_succ]
    have hhalf : (2 * a + 1) / 2 = 2 * a / 2 := by omega
    simp [hhalf, Nat.ne_of_gt hj]

theorem State.bit_eq_testBit (s : State) (f : Fld) (i : Nat) : s.bit f i = (s.fld f).testBit i := by
  rw [State.bit, Nat.testBit_eq_decide_div_mod_eq]
  exact beq_eq_decide _ _

/-- A bit that is set leaves the others as they were. -/
theorem State.bit_setBit_true (s : State) {f : Fld} {i j : Nat} (hf : f.ok = true) (hj : j < f.width) :
    (s.setBit f i true).bit f j = (decide (j = i) || s.bit f j) := by
  rw [State.bit_eq_testBit, State.bit_eq_testBit, State.setBit, State.fld_setFld_same _ _ _ hf, Nat.testBit_mod_two_pow]
  simp only [hj, decide_true, Bool.true_and, Bool.toNat_true, Nat.one_mul]
  rcases Nat.mod_two_eq_zero_or_one (s.fld f / 2 ^ i) with h | h
  · rw [h, Nat.zero_mul, Nat.sub_zero]
    exact testBit_add_two_pow j h
  · have hle : 2 ^ i ≤ s.fld f := by
      by_contra hlt
      rw [Nat.div_eq_of_lt (Nat.not_le.mp hlt)] at h
      exact absurd h (by decide)
    rw [h, Nat.one_mul, Nat.sub_add_cancel hle]
    by_cases he : j = i
    · subst he
      simp [Nat.testBit_eq_decide_div_mod_eq, h]
    · simp [he]

/-! The Visor (R358) -/

/-- The fields that a pin that reads back wrong sets at its port. -/
def missFlds (p : Nat) : List Fld :=
  [F.LMB_PORT_VISOR_CNT_MISMATCH_COUNT p, F.LMB_EVT_VISOR_MISMATCH, F.LMB_PORT_VISOR_CNT_FIRST_VISIT p, F.LMB_PORT_VISOR_FIRST_PIN p,
    F.LMB_PORT_VISOR_FIRST_CYCLE p, F.MLK_EVT_FAULT_OVF]

/-- The state with the bit of a pin that reads back wrong. -/
def State.missBit (s : State) (m : VisorMiss) : State := s.setBit (F.LMB_PORT_STAT_VISOR m.port) m.pin true

/-- R358: a pin that reads back wrong has its bit set, and is counted and reported. -/
theorem State.visorMiss_spec (s : State) (m : VisorMiss) :
    OnlyFlds (missFlds m.port) (s.missBit m) (s.visorMiss m) ∧ (s.visorMiss m).flag F.LMB_EVT_VISOR_MISMATCH = true := by
  have hfirst : ∀ (u : State) (was : Bool) (k : Nat), OnlyFlds [F.LMB_PORT_VISOR_CNT_FIRST_VISIT m.port, F.LMB_PORT_VISOR_FIRST_PIN m.port,
      F.LMB_PORT_VISOR_FIRST_CYCLE m.port] u
      (if was then u else ((u.setFld (F.LMB_PORT_VISOR_CNT_FIRST_VISIT m.port) k).setFld (F.LMB_PORT_VISOR_FIRST_PIN m.port) m.pin).setFld
        (F.LMB_PORT_VISOR_FIRST_CYCLE m.port) m.cycle) := by
    intro u was k
    split
    · exact .refl _ u
    · exact (((OnlyFlds.refl _ u).setFld _ _ rfl (by simp)).setFld _ _ rfl (by simp)).setFld _ _ rfl (by simp)
  have hdark : ∀ u : State, OnlyFlds [] u (if u.flag F.LMB_CTL_VISOR_ACT then
      { u with lamp := { u.lamp with visorDark := u.lamp.visorDark.filter (· != m.port) ++ [m.port] } } else u) := by
    intro u
    split
    · exact .of_regs rfl
    · exact .refl _ u
  have hevent : OnlyFlds (missFlds m.port) (s.missBit m)
      (((s.missBit m).bump (F.LMB_PORT_VISOR_CNT_MISMATCH_COUNT m.port)).event F.LMB_EVT_VISOR_MISMATCH) :=
    ((OnlyFlds.refl _ _).bump _ rfl (by simp [missFlds])).event _ rfl (by simp [missFlds])
  have hset := State.flag_event ((s.missBit m).bump (F.LMB_PORT_VISOR_CNT_MISMATCH_COUNT m.port)) F.LMB_EVT_VISOR_MISMATCH rfl
  unfold State.visorMiss
  rw [show s.setBit (F.LMB_PORT_STAT_VISOR m.port) m.pin true = s.missBit m from rfl]
  dsimp only
  generalize ((s.missBit m).bump (F.LMB_PORT_VISOR_CNT_MISMATCH_COUNT m.port)).event F.LMB_EVT_VISOR_MISMATCH = u at hevent hset ⊢
  have hvisit := hfirst u (s.bit (F.LMB_PORT_STAT_VISOR m.port) m.pin) (s.fld F.LMB_STAT_VISIT)
  generalize (if s.bit (F.LMB_PORT_STAT_VISOR m.port) m.pin = true then u else _ : State) = v at hvisit ⊢
  have hfault := v.fault_flds 2 1 (leBytes 4 (v.flip.last.getD 0 % 2 ^ 32) ++ leBytes 1 m.port ++ leBytes 1 m.pin ++
    leBytes 2 (s.fld F.LMB_STAT_VISIT))
  generalize v.fault 2 1 _ = w at hfault ⊢
  constructor
  · exact hevent.trans ((hvisit.mono (by simp [missFlds])).trans ((hfault.mono (by simp [missFlds])).trans ((hdark w).mono (by simp))))
  · rw [(hdark w).flag rfl (by simp), hfault.flag rfl (by decide), hvisit.flag rfl ?_, hset]
    simp only [List.mem_cons, List.not_mem_nil, or_false, forall_eq_or_imp, forall_eq]
    exact ⟨Fld.apart_of_addr (by dsimp only; omega), Fld.apart_of_addr (by dsimp only; omega), Fld.apart_of_addr (by dsimp only; omega)⟩

/-- The fields of a port that reads back wrong lie beside a field at none of their addresses. -/
theorem missFlds_apart {p : Nat} {g : Fld} (hc : g.addr ≠ 0x2C0108 + 0x10 * p) (hf : g.addr ≠ 0x2C010C + 0x10 * p)
    (he : g.addr ≠ 0x2C0008) (ho : g.addr ≠ 0x200008) : ∀ f ∈ missFlds p, f.apart g = true := by
  simp only [missFlds, List.mem_cons, List.not_mem_nil, or_false, forall_eq_or_imp, forall_eq]
  exact ⟨Fld.apart_of_addr hc.symm, Fld.apart_of_addr he.symm, Fld.apart_of_addr hc.symm, Fld.apart_of_addr hf.symm,
    Fld.apart_of_addr hf.symm, Fld.apart_of_addr ho.symm⟩

theorem State.visorMiss_visit (s : State) (m : VisorMiss) : (s.visorMiss m).fld F.LMB_STAT_VISIT = s.fld F.LMB_STAT_VISIT := by
  rw [s.visorMiss_spec m |>.1 _ rfl (missFlds_apart (by dsimp only; omega) (by dsimp only; omega) (by decide) (by decide)), State.missBit,
    State.setBit]
  exact State.fld_setFld_apart _ _ _ _ rfl rfl (Fld.apart_of_addr (by dsimp only; omega))

/-- R358: the bits of the ports after a pin has read back wrong. -/
theorem State.visorMiss_bit (s : State) (m : VisorMiss) {p i : Nat} (hi : i < 10) :
    (s.visorMiss m).bit (F.LMB_PORT_STAT_VISOR p) i = (decide (p = m.port ∧ i = m.pin) || s.bit (F.LMB_PORT_STAT_VISOR p) i) := by
  have hkeep := s.visorMiss_spec m |>.1 (F.LMB_PORT_STAT_VISOR p) rfl
    (missFlds_apart (by dsimp only; omega) (by dsimp only; omega) (by dsimp only; omega) (by dsimp only; omega))
  have hbit : (s.visorMiss m).bit (F.LMB_PORT_STAT_VISOR p) i = (s.missBit m).bit (F.LMB_PORT_STAT_VISOR p) i := by
    rw [State.bit, hkeep, State.bit]
  rw [hbit, State.missBit]
  by_cases hp : p = m.port
  · subst hp
    rw [State.bit_setBit_true s (f := F.LMB_PORT_STAT_VISOR m.port) rfl hi]
    simp
  · have hother : (s.setBit (F.LMB_PORT_STAT_VISOR m.port) m.pin true).fld (F.LMB_PORT_STAT_VISOR p) = s.fld (F.LMB_PORT_STAT_VISOR p) :=
      State.fld_setFld_apart _ _ _ _ rfl rfl (Fld.apart_of_addr (by dsimp only; omega))
    rw [State.bit, hother, ← State.bit]
    simp [hp]

/-- R358: what all the pins that read back wrong in a visit leave behind. -/
theorem State.visorMisses_spec (ms : List VisorMiss) (s : State) :
    let t := ms.foldl State.visorMiss s
    t.fld F.LMB_STAT_VISIT = s.fld F.LMB_STAT_VISIT ∧
      (∀ p i, i < 10 → s.bit (F.LMB_PORT_STAT_VISOR p) i = true → t.bit (F.LMB_PORT_STAT_VISOR p) i = true) ∧
      (s.flag F.LMB_EVT_VISOR_MISMATCH = true → t.flag F.LMB_EVT_VISOR_MISMATCH = true) ∧
      ∀ m ∈ ms, m.pin < 10 → t.bit (F.LMB_PORT_STAT_VISOR m.port) m.pin = true ∧ t.flag F.LMB_EVT_VISOR_MISMATCH = true := by
  induction ms generalizing s with
  | nil => exact ⟨rfl, fun _ _ _ h => h, id, fun _ h => absurd h List.not_mem_nil⟩
  | cons m ms ih =>
    obtain ⟨hvisit, hbits, hflag, hall⟩ := ih (s.visorMiss m)
    have hset := (s.visorMiss_spec m).2
    refine ⟨hvisit.trans (s.visorMiss_visit m), fun p i hi h => hbits p i hi ?_, fun _ => hflag hset, fun k hk hi => ?_⟩
    · rw [s.visorMiss_bit m hi, h, Bool.or_true]
    · rcases List.mem_cons.mp hk with rfl | hk
      · refine ⟨hbits _ _ hi ?_, hflag hset⟩
        rw [s.visorMiss_bit k hi]
        simp
      · exact hall k hk hi

/-! Visits (R341) -/

theorem State.visorEnds_visit (s : State) (k : Nat) : (s.visorEnds k).fld F.LMB_STAT_VISIT = s.fld F.LMB_STAT_VISIT := by
  unfold State.visorEnds
  split
  · rfl
  split
  · rfl
  · dsimp only
    rw [State.fld_with_lamp, State.fld_setFld_apart _ _ _ _ rfl rfl rfl, State.fld_setFld_apart _ _ _ _ rfl rfl rfl,
      State.fld_setFld_apart _ _ _ _ rfl rfl rfl]

/-- R341, R358: a visit that begins, with what reads back wrong in it. -/
theorem State.beginVisit_spec (s : State) (k : Nat) (ms : List VisorMiss) :
    let t := s.beginVisit k ms
    t.fld F.LMB_STAT_VISIT = k % 4096 ∧
      ∀ m ∈ ms, m.port < 64 → m.pin < 10 → t.bit (F.LMB_PORT_STAT_VISOR m.port) m.pin = true ∧ t.flag F.LMB_EVT_VISOR_MISMATCH = true := by
  have hregs : ∀ u : State, u.regs = (s.setFld F.LMB_STAT_VISIT k).regs →
      ((u.greyTransfers k ms).visorEnds k).fld F.LMB_STAT_VISIT = k % 4096 := by
    intro u hu
    have hgrey : (u.greyTransfers k ms).regs = u.regs :=
      (State.greyTransfers_evolves u k ms (List.Subset.refl _) (.refl _ u)).parts .regs (by simp)
    rw [State.visorEnds_visit, State.fld, State.reg, hgrey, hu]
    exact State.fld_setFld_same s F.LMB_STAT_VISIT k rfl
  have hpairs : ((s.setFld F.LMB_STAT_VISIT k).pairsAtVisit k).regs = (s.setFld F.LMB_STAT_VISIT k).regs :=
    (State.pairsAtVisit_evolves _ k (List.Subset.refl _) (.refl _ _)).parts .regs (by simp)
  unfold State.beginVisit
  dsimp only
  generalize (s.setFld F.LMB_STAT_VISIT k).pairsAtVisit k = u at hpairs ⊢
  obtain ⟨hvisit, -, -, hall⟩ := State.visorMisses_spec (ms.filter (fun m => decide (m.port < 64 ∧ m.pin < 10)))
    ((({ u with lamp := { u.lamp with
      upMiss := u.lamp.upMiss ++ (ms.filter (fun m => decide (m.pin < 8) && u.uploadHolds (8 * m.port + m.pin))).map
        (fun (m : VisorMiss) => (8 * m.port + m.pin, m.word, m.mask)) } } : State).greyTransfers k ms).visorEnds k)
  refine ⟨hvisit.trans (hregs _ hpairs), fun m hm hp hi => hall m (List.mem_filter.mpr ⟨hm, ?_⟩) hi⟩
  simp [hp, hi]

/-- R341: VISIT_START. -/
theorem execVisitStart_begins {s : State} {e : Nat} (misses : List VisorMiss) (he : s.lamp.e0 = some e) (hr : s.tileRole = true)
    (hk : s.fld F.LMB_STAT_VISIT + 1 < s.visitCount) :
    ∃ t, exec (.visitStart misses) s = .next t ∧ t.fld F.LMB_STAT_VISIT = (s.fld F.LMB_STAT_VISIT + 1) % 4096 ∧
      e + ofNs (10 * s.visitCycle (s.fld F.LMB_STAT_VISIT + 1)) ≤ t.wall ∧
      ∀ m ∈ misses, m.port < 64 → m.pin < 10 → t.bit (F.LMB_PORT_STAT_VISOR m.port) m.pin = true ∧
        t.flag F.LMB_EVT_VISOR_MISMATCH = true := by
  generalize hkk : s.fld F.LMB_STAT_VISIT + 1 = k at hk ⊢
  have hexec : exec (.visitStart misses) s = .next
      (((s.untilWall (e + ofNs (10 * s.visitCycle k))).housekeeping).beginVisit k misses) := by
    show execVisitStart misses s = _
    rw [execVisitStart, he]
    subst hkk
    exact congrArg Host.Outcome.next (if_pos ⟨hr, hk⟩)
  have hwall := s.le_untilWall (e + ofNs (10 * s.visitCycle k))
  generalize s.untilWall (e + ofNs (10 * s.visitCycle k)) = u at hexec hwall
  have hhouse := (State.housekeeping_evolves u (List.Subset.refl _) (.refl _ u)).parts .wall (by simp)
  have hbegin := (State.beginVisit_evolves u.housekeeping k misses (List.Subset.refl _) (.refl _ _)).parts .wall (by simp)
  obtain ⟨hvisit, hmiss⟩ := u.housekeeping.beginVisit_spec k misses
  exact ⟨_, hexec, hvisit, le_of_le_of_eq hwall (Eq.trans hbegin hhouse).symm, hmiss⟩

end Sys2Proof.Machine
end

section
/-! CERTIFICATES. Cuffs, flips and the scan-out (O50). -/

namespace Sys2Proof.Machine

/-- R64, R187, R306, R311: the opening of a Cuff. -/
theorem cuffOpen_opens {s : State} {n : Nat} (hf : s.flips = true) (hn : s.nextFlip = n) (hc : s.flip.cuffed ≠ some n) :
    ∃ t, exec .cuffOpen s = .next t ∧ t.flip.cuffed = some n ∧ t.flip.next = some n ∧ s.cuffOpens n ≤ t.wall ∧
      (s.cuffOpens n ≤ s.wall → t.wall = s.wall) ∧
      (∀ f, s.tileRole = false → s.mode = .sender → s.scan.frame = some f → f.view < 8 → f.flip = n → f.whole = false → f.late = false →
        t.scan.frame = some { f with late := true } ∧ t.flag F.CMP_SCAN_EVT_SCAN_LATE = true ∧
        t.fld (F.CMP_VIEW_STAT_LATE_COUNT f.view) = min (s.fld (F.CMP_VIEW_STAT_LATE_COUNT f.view) + 1) 65535 ∧
        t.flag (F.CMP_VIEW_STAT_LATE f.view) = true ∧ t.flag (F.CMP_VIEW_STAT_SENT f.view) = false ∧
        OnlyParts [.regs, .cycles, .wall, .flip, .scan, .video] s t) ∧
      (s.tileRole = true → s.mode = .tile → s.knownFlip n = none → t.flag F.TIL_EVT_NO_FLIP = true ∧
        t.fld F.TIL_CNT2_NO_FLIP_COUNT = min (s.fld F.TIL_CNT2_NO_FLIP_COUNT + 1) 65535) ∧
      (∀ f, s.tileRole = true → s.mode = .tile → s.knownFlip n = some f → t.flag F.TIL_STAT_BUILD_BUSY = true ∧
        t.fld F.TIL_STAT_VIEW = f.view % 8 ∧ ∃ b, t.tile.build = some b ∧ b.flip = f) := by
  subst hn
  obtain ⟨hflip, hwall⟩ := s.openCuff_flip s.nextFlip
  have htime := s.cuffTime_parts s.nextFlip
  have hopens := s.le_untilWall (s.cuffOpens s.nextFlip)
  refine ⟨_, execCuffOpen_opens hf hc, by rw [hflip]; rfl, by rw [hflip]; rfl, hwall ▸ hopens,
    fun h => hwall.trans (s.untilWall_past h), ?_, ?_, ?_⟩
  · intro f hr hm hs _ hn hw hl
    rw [State.openCuff_eq, hr, if_neg Bool.false_ne_true, ← hn]
    obtain ⟨hframe, hevent, hcount, hlate, hsent, hparts⟩ := State.scanLate_spec (s := s.cuffTime f.flip) hm hs hw hl
    exact ⟨hframe, hevent, hcount, hlate, hsent, ((s.cuffTime_parts f.flip).mono (by simp)).trans (hparts.mono (by simp))⟩
  · intro hr hm hk
    rw [State.openCuff_eq, hr, if_pos rfl]
    exact State.tileCuff_noFlip (s := s.cuffTime s.nextFlip) hm hk
  · intro f hr hm hk
    rw [State.openCuff_eq, hr, if_pos rfl]
    exact State.tileCuff_build (s := s.cuffTime s.nextFlip) hm hk

/-- R65, R239: FLIP, once its Cuff has opened. -/
theorem execFlip_flips {s : State} (misses : List VisorMiss) (hf : s.flips = true) (hc : s.flip.cuffed = some s.nextFlip) :
    exec (.flip misses) s = .next (if s.tileRole then s.tileFlip s.nextFlip misses else s.senderFlip s.nextFlip) := by
  show execFlip misses s = _
  rw [execFlip, if_pos hf]
  dsimp only
  rw [if_pos hc]

/-- Settles O50: each instruction's row first lets time pass to its moment, and then does one operation of which the lemmas before
say what it sets and what it leaves; a flip takes no time beyond its own, since no change that takes effect does (`KeepsCourse`). -/
theorem cuffsAndFlips : Obligations.CuffsAndFlips := by
  unfold Obligations.CuffsAndFlips
  intro s
  refine ⟨fun n hf hn hc => cuffOpen_opens hf hn hc, ?_, ?_, ?_, ?_, ?_⟩
  · intro n misses hf hn hc
    subst hn
    have hexec := execFlip_flips misses hf hc
    constructor
    · intro hr
      rw [hr, if_neg Bool.false_ne_true] at hexec
      exact ⟨_, hexec, s.senderFlip_spec s.nextFlip⟩
    · intro f hr hk hb ha hh
      rw [hr, if_pos rfl] at hexec
      obtain ⟨hlast, hnext, hwall, htile⟩ := State.tileFlip_spec misses hr hk hb ha hh
      refine ⟨_, hexec, hlast, hnext, hwall, fun hg => ?_, fun a x h hx hready hflip => ?_, fun a x hx hnot => ?_⟩
      · rw [htile]
        exact State.swapGrey_next (s := s.showFrames s.nextFlip) hg
      · rw [htile, State.swapGrey_areas]
        exact (State.mem_showFrames s.nextFlip a x hx).1 h hready hflip
      · rw [htile, State.swapGrey_areas]
        exact (State.mem_showFrames s.nextFlip a x hx).2 hnot
  · intro f hf hm hr hl
    exact ⟨execFlipSend_sends hf hm hr hl, fun hc _ => execFlipRepeat_sends hf hm hl hc,
      fun c e row f0 stalls hc hw ho ht => execScanOutBurst_sends stalls hf hm hl hc hw ho ht⟩
  · exact fun b hb hw => execBuildDone_ends hb hw
  · exact fun from_ n hu hn => execUploadDeadline_ends hu hn
  · exact fun e misses he hr hk => execVisitStart_begins misses he hr hk

end Sys2Proof.Machine
end

section
/-! SUPPORT. Bytes that an input writer pours into external memory (R461): where every burst that they meet is ready, they read back
as they do after a write of the host. -/

namespace Sys2Proof.Machine

/-- The parts of a run lie in the bursts that the run meets, each within its burst. -/
theorem burstParts_within (fuel addr n : Nat) :
    ∀ p ∈ burstParts fuel addr n, addr / 64 ≤ p.1 ∧ 64 * p.1 < addr + n ∧ p.2.1 + p.2.2 ≤ 64 := by
  induction fuel generalizing addr n with
  | zero => simp [burstParts]
  | succ fuel ih =>
    unfold burstParts
    split
    · simp
    · intro p hp
      rcases List.mem_cons.mp hp with rfl | hp
      · exact ⟨Nat.le_refl _, by dsimp only; omega, by dsimp only; omega⟩
      · obtain ⟨hlow, hhigh, hin⟩ := ih _ _ p hp
        exact ⟨by omega, by omega, hin⟩

/-- A burst of external memory that has been written and has no latent error. -/
def State.burstReady (s : State) (b : Nat) : Prop := s.badWords b = 0 ∧ (s.burstBytes b).length = 64

theorem State.burstReady_congr {s t : State} (h : t.dram = s.dram) (b : Nat) : t.burstReady b ↔ s.burstReady b := by
  simp only [State.burstReady, State.badWords, State.burstBytes, h]

/-- A ready burst stays ready when a whole burst is written, there or elsewhere. -/
theorem State.burstReady_putBurst {s : State} {b : Nat} (c : Nat) {bs : List Byte} (hl : bs.length = 64) (h : s.burstReady b) :
    (s.putBurst c bs).burstReady b := by
  obtain ⟨hbad, hlen⟩ := h
  refine ⟨s.badWords_putBurst c b bs hbad, ?_⟩
  rw [State.burstBytes_putBurst]
  split
  · exact hl
  · exact hlen

/-- One part of a run, as an input writer pours it. -/
def pourPart (x : State × List Byte) (p : Nat × Nat × Nat) : State × List Byte :=
  let old := if x.1.badWords p.1 = 0 ∧ x.1.burstBytes p.1 ≠ [] then x.1.burstBytes p.1 else freeBytes x.1.fresh 64
  (({ x.1 with fresh := x.1.fresh + 64 }).putBurst p.1 (patch old p.2.1 (x.2.take p.2.2)), x.2.drop p.2.2)

/-- One part of a run, as a write of the host writes it. -/
def writePart (x : State × Bool × List Byte) (p : Nat × Nat × Nat) : State × Bool × List Byte :=
  if x.2.1 then
    let r := x.1.writeIn p.1 p.2.1 (x.2.2.take p.2.2)
    (r.1, r.2, x.2.2.drop p.2.2)
  else x

theorem State.pourMem_eq (s : State) (addr : Nat) (bs : List Byte) :
    s.pourMem addr bs = ((burstParts (bs.length / 64 + 2) addr bs.length).foldl pourPart (s, bs)).1 := rfl

theorem State.writeMem_eq (s : State) (addr : Nat) (bs : List Byte) :
    (s.writeMem addr bs).1 = ((burstParts (bs.length / 64 + 2) addr bs.length).foldl writePart (s, true, bs)).1 := rfl

/-- One part poured into a ready burst leaves the memory that a write of it leaves, and every ready burst ready. -/
theorem pourPart_writePart {u v : State} (bs : List Byte) {p : Nat × Nat × Nat} (hd : u.dram = v.dram) (hr : v.burstReady p.1)
    (hp : p.2.1 + p.2.2 ≤ 64) :
    ∃ u' v', pourPart (u, bs) p = (u', bs.drop p.2.2) ∧ writePart (v, true, bs) p = (v', true, bs.drop p.2.2) ∧
      u'.dram = v'.dram ∧ ∀ b, v.burstReady b → v'.burstReady b := by
  have hlen : (patch (v.burstBytes p.1) p.2.1 (bs.take p.2.2)).length = 64 := by
    rw [patch_length _ _ _ (by rw [hr.2, List.length_take]; omega), hr.2]
  obtain ⟨hbad, hbytes⟩ := (State.burstReady_congr hd p.1).mpr hr
  have hne : u.burstBytes p.1 ≠ [] := fun h => by simp [h] at hbytes
  have hold : u.burstBytes p.1 = v.burstBytes p.1 := by simp only [State.burstBytes, hd]
  have hwrite := v.writeIn_ready p.1 p.2.1 (bs.take p.2.2) hr.1 hr.2
  refine ⟨_, v.putBurst p.1 (patch (v.burstBytes p.1) p.2.1 (bs.take p.2.2)), rfl, by simp only [writePart, if_true, hwrite], ?_,
    fun b hb => State.burstReady_putBurst _ hlen hb⟩
  dsimp only
  rw [if_pos ⟨hbad, hne⟩, hold]
  simp only [State.putBurst, hd]

/-- Where every burst met is ready, pouring leaves the memory that a write of the host leaves. -/
theorem foldl_pourPart_dram (ps : List (Nat × Nat × Nat)) {u v : State} (bs : List Byte) (hd : u.dram = v.dram)
    (hps : ∀ p ∈ ps, v.burstReady p.1 ∧ p.2.1 + p.2.2 ≤ 64) :
    (ps.foldl pourPart (u, bs)).1.dram = (ps.foldl writePart (v, true, bs)).1.dram := by
  induction ps generalizing u v bs with
  | nil => exact hd
  | cons p ps ih =>
    obtain ⟨hready, hin⟩ := hps p (by simp)
    obtain ⟨u', v', hpour, hwrite, hdram, hkeeps⟩ := pourPart_writePart bs hd hready hin
    rw [List.foldl_cons, List.foldl_cons, hpour, hwrite]
    exact ih _ hdram fun q hq => ⟨hkeeps _ (hps q (by simp [hq])).1, (hps q (by simp [hq])).2⟩

theorem State.memByte_congr {s t : State} (h : t.dram = s.dram) (a : Nat) : t.memByte a = s.memByte a := by
  simp only [State.memByte, State.burstBytes, h]

/-- R461: bytes poured into external memory that is ready are read back, and no other byte changes. -/
theorem State.memByte_pourMem (s : State) (addr : Nat) (bs : List Byte) (h : s.memReady addr bs.length) (c : Nat) :
    (s.pourMem addr bs).memByte c = if addr ≤ c ∧ c < addr + bs.length then bs.getD (c - addr) 0 else s.memByte c := by
  obtain ⟨t, hwrite, -, hbytes⟩ := s.writeMem_ready addr bs h
  have hdram : (s.pourMem addr bs).dram = (s.writeMem addr bs).1.dram := by
    rw [State.pourMem_eq, State.writeMem_eq]
    refine foldl_pourPart_dram _ bs rfl fun p hp => ?_
    obtain ⟨hlow, hhigh, hin⟩ := burstParts_within _ _ _ p hp
    exact ⟨h p.1 hlow hhigh, hin⟩
  rw [State.memByte_congr hdram, hwrite, hbytes]

end Sys2Proof.Machine
end

section
/-! SUPPORT. Sources (R99, R110, R117): their records, states, descriptors and measurements under each update. -/

namespace Sys2Proof.Machine

/-! Records -/

@[simp] theorem State.src_setSrc_same (s : State) (i : Nat) (x : SrcState) : (s.setSrc i x).src i = x := by
  have hnone : (s.video.srcs.filter (fun y => y.1 != i)).find? (fun y => y.1 == i) = none := by simp
  simp [State.src, State.setSrc, List.find?_append, hnone]

theorem State.src_setSrc_ne (s : State) {i j : Nat} (x : SrcState) (h : j ≠ i) : (s.setSrc i x).src j = s.src j := by
  have hfind : (s.video.srcs.filter (fun y => y.1 != i)).find? (fun y => y.1 == j) = s.video.srcs.find? (fun y => y.1 == j) := by
    rw [List.find?_filter]
    congr 1
    funext y
    by_cases hy : y.1 = j <;> simp [hy, h]
  simp [State.src, State.setSrc, List.find?_append, hfind, Ne.symm h]

theorem State.src_congr {s t : State} (h : t.video = s.video) (i : Nat) : t.src i = s.src i := by rw [State.src, State.src, h]

@[simp] theorem State.src_setFld (s : State) (f : Fld) (v i : Nat) : (s.setFld f v).src i = s.src i := rfl
@[simp] theorem State.src_setFlag (s : State) (f : Fld) (b : Bool) (i : Nat) : (s.setFlag f b).src i = s.src i := rfl
@[simp] theorem State.src_event (s : State) (f : Fld) (i : Nat) : (s.event f).src i = s.src i := rfl
@[simp] theorem State.src_eventCount (s : State) (e c : Fld) (i : Nat) : (s.eventCount e c).src i = s.src i :=
  State.src_congr (by simp) i
@[simp] theorem State.src_untilCycle (s : State) (due i : Nat) : (s.untilCycle due).src i = s.src i := rfl

@[simp] theorem State.setSrc_regs (s : State) (i : Nat) (x : SrcState) : (s.setSrc i x).regs = s.regs := rfl
@[simp] theorem State.setSrc_cycles (s : State) (i : Nat) (x : SrcState) : (s.setSrc i x).cycles = s.cycles := rfl
@[simp] theorem State.setSrc_wall (s : State) (i : Nat) (x : SrcState) : (s.setSrc i x).wall = s.wall := rfl
@[simp] theorem State.setSrc_dram (s : State) (i : Nat) (x : SrcState) : (s.setSrc i x).dram = s.dram := rfl
@[simp] theorem State.fld_setSrc (s : State) (i : Nat) (x : SrcState) (f : Fld) : (s.setSrc i x).fld f = s.fld f := rfl
@[simp] theorem State.flag_setSrc (s : State) (i : Nat) (x : SrcState) (f : Fld) : (s.setSrc i x).flag f = s.flag f := rfl
@[simp] theorem State.srcMode_setSrc (s : State) (i j : Nat) (x : SrcState) : (s.setSrc i x).srcMode j = s.srcMode j := rfl

theorem State.setSrc_parts (s : State) (i : Nat) (x : SrcState) : OnlyParts [.video] s (s.setSrc i x) :=
  (State.setSrc_evolves s i x (List.Subset.refl _) (.refl _ s)).parts

/-! States (R110) -/

theorem State.srcMode_of_code {s : State} {i : Nat} {m : SrcMode} (h : s.fld (F.SDI_SRC_STAT_STATE i) = m.code) : s.srcMode i = m := by
  rw [State.srcMode, h]
  cases m <;> rfl

theorem State.srcMode_congr {s t : State} {i : Nat} (h : t.fld (F.SDI_SRC_STAT_STATE i) = s.fld (F.SDI_SRC_STAT_STATE i)) :
    t.srcMode i = s.srcMode i := by
  rw [State.srcMode, State.srcMode, h]

@[simp] theorem State.srcMode_untilCycle (s : State) (due i : Nat) : (s.untilCycle due).srcMode i = s.srcMode i := rfl

/-- A field other than STAT.STATE leaves the state of a source. -/
theorem State.srcMode_event (s : State) {i : Nat} {f : Fld} (hf : f.ok = true) (h : f.apart (F.SDI_SRC_STAT_STATE i) = true) :
    (s.event f).srcMode i = s.srcMode i := State.srcMode_congr (s.fld_event_apart _ _ hf rfl h)

theorem State.setSrcMode_srcMode (s : State) (i : Nat) (m : SrcMode) : (s.setSrcMode i m).srcMode i = m :=
  State.srcMode_of_code ((State.fld_setFld_same _ _ _ rfl).trans (by cases m <;> rfl))

theorem State.setSrcMode_flds (s : State) (i : Nat) (m : SrcMode) : OnlyFlds [F.SDI_SRC_STAT_STATE i] s (s.setSrcMode i m) := by
  unfold State.setSrcMode
  dsimp only
  refine OnlyFlds.setFld _ _ rfl (by simp) ?_
  split
  · exact .of_regs rfl
  · exact .refl _ s

/-- R111: leaving ACTIVE starts HOLD_MS. -/
theorem State.setSrcMode_leaves {s : State} {i : Nat} {m : SrcMode} (ha : s.srcMode i = .active) (hm : m ≠ .active) :
    (s.setSrcMode i m).video = (s.setSrc i { s.src i with leftAt := some s.cycles, expired := false }).video := by
  unfold State.setSrcMode
  dsimp only
  rw [if_pos ⟨ha, hm⟩, State.setFld_video]

/-- A source that enters ACTIVE keeps its record. -/
theorem State.setSrcMode_active_video (s : State) (i : Nat) : (s.setSrcMode i .active).video = s.video := by
  unfold State.setSrcMode
  dsimp only
  rw [if_neg (fun h => h.2 rfl), State.setFld_video]

/-- R110: a source that was ACTIVE is lost. -/
def State.loseSource (s : State) (i : Nat) : State := (s.setSrcMode i .lost).event (F.SDI_SRC_EVT_LOST i)

theorem State.loseSource_spec {s : State} {i : Nat} (ha : s.srcMode i = .active) :
    (s.loseSource i).srcMode i = .lost ∧ (s.loseSource i).flag (F.SDI_SRC_EVT_LOST i) = true ∧
      (s.loseSource i).src i = { s.src i with leftAt := some s.cycles, expired := false } ∧
      (∀ j, j ≠ i → (s.loseSource i).src j = s.src j) ∧ OnlyParts [.regs, .video] s (s.loseSource i) ∧
      OnlyFlds [F.SDI_SRC_STAT_STATE i, F.SDI_SRC_EVT_LOST i] s (s.loseSource i) := by
  have hvideo : (s.loseSource i).video = (s.setSrc i { s.src i with leftAt := some s.cycles, expired := false }).video :=
    (State.event_video _ _).trans (State.setSrcMode_leaves ha (by decide))
  refine ⟨?_, State.flag_event _ _ rfl, ?_, fun j hj => ?_, ?_, ?_⟩
  · rw [State.loseSource, State.srcMode_event _ rfl (Fld.apart_of_addr (by dsimp only; omega)), State.setSrcMode_srcMode]
  · rw [State.src_congr hvideo, State.src_setSrc_same]
  · rw [State.src_congr hvideo, State.src_setSrc_ne _ _ hj]
  · exact (State.event_evolves _ _ (by simp) (State.setSrcMode_evolves s i .lost (List.Subset.refl _) (.refl _ s))).parts
  · exact ((s.setSrcMode_flds i .lost).mono (by simp)).event _ rfl (by simp)

/-! Descriptors (R99, R117) -/

/-- The words of a source's descriptor, which software writes and the device reads. -/
def InDescriptor (a : Nat) : Prop := 0x100100 ≤ a ∧ (a - 0x100100) % 0x40 < 0x28

/-- Every descriptor reads as before. -/
def SameDescriptors (s t : State) : Prop := ∀ a, InDescriptor a → t.reg a = s.reg a

theorem OnlyFlds.sameDescriptors {fs : List Fld} {s t : State} (h : OnlyFlds fs s t) (hf : ∀ f ∈ fs, ¬ InDescriptor f.addr) :
    SameDescriptors s t := fun _ ha => h.reg fun f hm he => hf f hm (he ▸ ha)

theorem SameDescriptors.trans {s t u : State} (h : SameDescriptors s t) (k : SameDescriptors t u) : SameDescriptors s u :=
  fun a ha => (k a ha).trans (h a ha)

section
variable {s t : State} (h : SameDescriptors s t)
include h

theorem SameDescriptors.fld {f : Fld} (hf : InDescriptor f.addr := by constructor <;> dsimp only <;> omega) : t.fld f = s.fld f := by
  rw [State.fld, State.fld, h _ hf]

theorem SameDescriptors.flag {f : Fld} (hf : InDescriptor f.addr := by constructor <;> dsimp only <;> omega) : t.flag f = s.flag f := by
  rw [State.flag, State.flag, h.fld hf]

theorem SameDescriptors.srcOfInput (hr : t.rst = s.rst) (n : Nat) : t.srcOfInput n = s.srcOfInput n := by
  unfold State.srcOfInput
  congr 1
  funext i
  have hen : t.flag (F.SDI_SRC_CTL_EN i) = s.flag (F.SDI_SRC_CTL_EN i) := h.flag
  have hkind : t.flag (F.SDI_SRC_CTL_KIND i) = s.flag (F.SDI_SRC_CTL_KIND i) := h.flag
  have hinput : t.fld (F.SDI_SRC_CTL_INPUT i) = s.fld (F.SDI_SRC_CTL_INPUT i) := h.fld
  rw [State.blockHeld, State.blockHeld, hr, hen, hkind, hinput]

theorem SameDescriptors.layoutOf (i b : Nat) (tf : Option Nat) : t.layoutOf i b tf = s.layoutOf i b tf := by
  have hlo : vf t.reg (F.SDI_SRC_BASE_LO_ADDR_LO i) = vf s.reg (F.SDI_SRC_BASE_LO_ADDR_LO i) := h.fld
  have hhi : vf t.reg (F.SDI_SRC_BASE_HI_ADDR_HI i) = vf s.reg (F.SDI_SRC_BASE_HI_ADDR_HI i) := h.fld
  have hpitch : vf t.reg (F.SDI_SRC_PITCH_PITCH_64B i) = vf s.reg (F.SDI_SRC_PITCH_PITCH_64B i) := h.fld
  have hrows : vf t.reg (F.SDI_SRC_RASTER_HEIGHT i) = vf s.reg (F.SDI_SRC_RASTER_HEIGHT i) := h.fld
  have hwidth : t.fld (F.SDI_SRC_RASTER_WIDTH i) = s.fld (F.SDI_SRC_RASTER_WIDTH i) := h.fld
  have hheight : t.fld (F.SDI_SRC_RASTER_HEIGHT i) = s.fld (F.SDI_SRC_RASTER_HEIGHT i) := h.fld
  have hsampling : t.fld (F.SDI_SRC_CODING_SAMPLING i) = s.fld (F.SDI_SRC_CODING_SAMPLING i) := h.fld
  have hdepth : t.fld (F.SDI_SRC_CODING_DEPTH i) = s.fld (F.SDI_SRC_CODING_DEPTH i) := h.fld
  have hrange : t.fld (F.SDI_SRC_CODING_RANGE i) = s.fld (F.SDI_SRC_CODING_RANGE i) := h.fld
  simp only [State.layoutOf, srcBase, srcStride, srcPitch, hlo, hhi, hpitch, hrows, hwidth, hheight, hsampling, hdepth, hrange]

theorem SameDescriptors.takeBuffer (hv : t.video = s.video) (i : Nat) : t.takeBuffer i = s.takeBuffer i := by
  have hnbuf : t.fld (F.SDI_SRC_CTL_NBUF i) = s.fld (F.SDI_SRC_CTL_NBUF i) := h.fld
  simp only [State.takeBuffer, State.src_congr hv, h.layoutOf, hnbuf, hv]

theorem SameDescriptors.rateHigh (i : Nat) (m : Measured) : t.rateHigh i m = s.rateHigh i m := by
  have hrate : t.fld (F.SDI_SRC_CODING_RATE_HZ i) = s.fld (F.SDI_SRC_CODING_RATE_HZ i) := h.fld
  rw [State.rateHigh, State.rateHigh, hrate]

/-- R91, R110: the format is judged by the descriptor and by the rate at which its input has locked. -/
theorem SameDescriptors.formatDiffers (hr : ∀ n, n < 8 → t.fld (F.SDI_PHY_STAT_RATE n) = s.fld (F.SDI_PHY_STAT_RATE n)) (i : Nat)
    (m : Measured) : t.formatDiffers i m = s.formatDiffers i m := by
  have hinput : t.fld (F.SDI_SRC_CTL_INPUT i) = s.fld (F.SDI_SRC_CTL_INPUT i) := h.fld
  have hkind : t.flag (F.SDI_SRC_CTL_KIND i) = s.flag (F.SDI_SRC_CTL_KIND i) := h.flag
  have hwidth : t.fld (F.SDI_SRC_RASTER_WIDTH i) = s.fld (F.SDI_SRC_RASTER_WIDTH i) := h.fld
  have hheight : t.fld (F.SDI_SRC_RASTER_HEIGHT i) = s.fld (F.SDI_SRC_RASTER_HEIGHT i) := h.fld
  have hscan : t.flag (F.SDI_SRC_CODING_SCAN i) = s.flag (F.SDI_SRC_CODING_SCAN i) := h.flag
  have hsampling : t.fld (F.SDI_SRC_CODING_SAMPLING i) = s.fld (F.SDI_SRC_CODING_SAMPLING i) := h.fld
  have hdepth : t.fld (F.SDI_SRC_CODING_DEPTH i) = s.fld (F.SDI_SRC_CODING_DEPTH i) := h.fld
  have hrate := hr _ (s.fld_lt (F.SDI_SRC_CTL_INPUT i))
  simp only [State.formatDiffers, hinput, hkind, hwidth, hheight, hscan, hsampling, hdepth, hrate]

end

/-! Measurements (R117) -/

/-- The fields that report what was measured of a source. -/
def detFlds (i : Nat) : List Fld :=
  [F.SDI_SRC_DET_RASTER_WIDTH i, F.SDI_SRC_DET_RASTER_HEIGHT i, F.SDI_SRC_DET_CODING_RATE_HZ i, F.SDI_SRC_DET_CODING_SCAN i,
    F.SDI_SRC_DET_CODING_SAMPLING i, F.SDI_SRC_DET_CODING_DEPTH i, F.SDI_SRC_DET_CODING_RANGE i, F.SDI_SRC_DET_CODING_TF i,
    F.SDI_SRC_DET_CODING_COLOUR i, F.SDI_SRC_DET_CODING_LINK i]

theorem detFlds_addr {i : Nat} {f : Fld} (h : f ∈ detFlds i) : f.addr = 0x100134 + 0x40 * i ∨ f.addr = 0x100138 + 0x40 * i := by
  simp only [detFlds, List.mem_cons, List.not_mem_nil, or_false] at h
  rcases h with rfl | rfl | rfl | rfl | rfl | rfl | rfl | rfl | rfl | rfl <;> simp

theorem State.noteMeasured_flds (s : State) (i : Nat) (m : Measured) : OnlyFlds (detFlds i) s (s.noteMeasured i m) := by
  unfold State.noteMeasured
  extract_lets flow pick odd s0 s1 s2 s3 s4
  have h0 : OnlyFlds (detFlds i) s s0 := by
    unfold s0
    split
    · exact .of_regs rfl
    · exact .refl _ s
  have h1 : OnlyFlds (detFlds i) s s1 := (h0.setFld _ _ rfl (by simp [detFlds])).setFld _ _ rfl (by simp [detFlds])
  have h2 : OnlyFlds (detFlds i) s s2 := (h1.setFld _ _ rfl (by simp [detFlds])).setFld _ _ rfl (by simp [detFlds])
  have h3 : OnlyFlds (detFlds i) s s3 := (h2.setFld _ _ rfl (by simp [detFlds])).setFld _ _ rfl (by simp [detFlds])
  have h4 : OnlyFlds (detFlds i) s s4 := (h3.setFld _ _ rfl (by simp [detFlds])).setFld _ _ rfl (by simp [detFlds])
  exact (h4.setFld _ _ rfl (by simp [detFlds])).setFld _ _ rfl (by simp [detFlds])

theorem State.noteMeasured_parts (s : State) (i : Nat) (m : Measured) : OnlyParts [.regs, .fresh] s (s.noteMeasured i m) :=
  (State.noteMeasured_evolves s i m (List.Subset.refl _) (.refl _ s)).parts

/-- A rate that is not halfway between two is rounded without an open value. -/
theorem State.noteMeasured_fresh (s : State) (i : Nat) {m : Measured} (h : m.mhz % 1000 ≠ 500) :
    (s.noteMeasured i m).fresh = s.fresh := by
  simp [State.noteMeasured, h]

theorem State.noteMeasured_only_regs (s : State) (i : Nat) {m : Measured} (h : m.mhz % 1000 ≠ 500) :
    OnlyParts [.regs] s (s.noteMeasured i m) := by
  intro p hp
  by_cases hf : p = .fresh
  · subst hf
    exact s.noteMeasured_fresh i h
  · exact s.noteMeasured_parts i m p (by simp_all)

theorem State.noteMeasured_sameDescriptors (s : State) (i : Nat) (m : Measured) : SameDescriptors s (s.noteMeasured i m) := by
  refine (s.noteMeasured_flds i m).sameDescriptors fun f hf hd => ?_
  obtain ⟨hlow, hplace⟩ := hd
  rcases detFlds_addr hf with ha | ha <;> rw [ha] at hplace <;> omega

/-- What is measured of a source leaves every other field. -/
theorem State.fld_noteMeasured (s : State) (i : Nat) (m : Measured) {g : Fld} (hg : g.ok = true)
    (ha : g.addr ≠ 0x100134 + 0x40 * i ∧ g.addr ≠ 0x100138 + 0x40 * i) : (s.noteMeasured i m).fld g = s.fld g := by
  refine s.noteMeasured_flds i m g hg fun f hf => Fld.apart_of_addr fun he => ?_
  rcases detFlds_addr hf with h | h
  · exact ha.1 (he.symm.trans h)
  · exact ha.2 (he.symm.trans h)

/-- A frame is judged as before by what is measured of it. -/
theorem State.formatDiffers_noteMeasured (s : State) (i : Nat) (m : Measured) (m' : Measured) :
    (s.noteMeasured i m).formatDiffers i m' = s.formatDiffers i m' :=
  (s.noteMeasured_sameDescriptors i m).formatDiffers
    (fun n hn => s.fld_noteMeasured i m rfl ⟨by dsimp only; omega, by dsimp only; omega⟩) i m'

/-! Frames (R98 to R101) -/

/-- R100: a frame that takes a buffer is written there. -/
theorem State.beginFrame_takes {s : State} {i b : Nat} (ts : Nat) (m : Measured) (tf : Option Nat) (h : s.takeBuffer i = some b) :
    ((s.beginFrame i ts m tf).src i).writing = some ⟨some b, s.layoutOf i b tf, m, ts, none, [], none, false⟩ ∧
      (s.beginFrame i ts m tf).fld (F.SDI_SRC_STAT_WRITING i) = b % 4 ∧
      OnlyFlds [F.SDI_SRC_STAT_WRITING i] s (s.beginFrame i ts m tf) := by
  simp only [State.beginFrame, h]
  refine ⟨by simp, State.fld_setFld_same _ _ _ rfl, ?_⟩
  exact (OnlyFlds.of_regs rfl).setFld _ _ rfl (by simp)

/-- R100: a frame without a free buffer is not stored, and counted. -/
theorem State.beginFrame_drops {s : State} {i : Nat} (ts : Nat) (m : Measured) (tf : Option Nat) (h : s.takeBuffer i = none) :
    ((s.beginFrame i ts m tf).src i).writing = some ⟨none, s.layoutOf i 0 tf, m, ts, none, [], none, false⟩ ∧
      (s.beginFrame i ts m tf).flag (F.SDI_SRC_EVT_DROP i) = true ∧
      (s.beginFrame i ts m tf).fld (F.SDI_SRC_CNT_DROP_COUNT i) = min (s.fld (F.SDI_SRC_CNT_DROP_COUNT i) + 1) 65535 ∧
      OnlyFlds [F.SDI_SRC_EVT_DROP i, F.SDI_SRC_CNT_DROP_COUNT i] s (s.beginFrame i ts m tf) := by
  have hevt : (F.SDI_SRC_CNT_DROP_COUNT i).apart (F.SDI_SRC_EVT_DROP i) = true := Fld.apart_of_addr (by dsimp only; omega)
  have hcnt : (F.SDI_SRC_EVT_DROP i).apart (F.SDI_SRC_CNT_DROP_COUNT i) = true := Fld.apart_of_addr (by dsimp only; omega)
  simp only [State.beginFrame, h]
  refine ⟨by simp, State.flag_of_fld (State.fld_eventCount_event _ _ _ rfl rfl hevt), ?_, ?_⟩
  · exact State.fld_eventCount_count _ _ _ rfl rfl hcnt
  · exact (OnlyFlds.of_regs rfl).eventCount _ _ rfl rfl (by simp) (by simp)

theorem State.beginFrame_flds (s : State) (i ts : Nat) (m : Measured) (tf : Option Nat) :
    OnlyFlds [F.SDI_SRC_STAT_WRITING i, F.SDI_SRC_EVT_DROP i, F.SDI_SRC_CNT_DROP_COUNT i] s (s.beginFrame i ts m tf) := by
  cases h : s.takeBuffer i with
  | some b => exact (State.beginFrame_takes ts m tf h).2.2.mono (by simp)
  | none => exact (State.beginFrame_drops ts m tf h).2.2.2.mono (by simp)

theorem State.beginFrame_parts (s : State) (i ts : Nat) (m : Measured) (tf : Option Nat) :
    OnlyParts [.regs, .video] s (s.beginFrame i ts m tf) :=
  (State.beginFrame_evolves s i ts m tf (List.Subset.refl _) (.refl _ s)).parts

end Sys2Proof.Machine
end

section
/-! SUPPORT. SDI inputs (R90, R92, R99, R100, R110, R116): a lock, its loss, and the frames and lines of an input. -/

namespace Sys2Proof.Machine

/-- What the word of an SDI input reports is in no descriptor. -/
theorem OnlyFlds.sameDescriptors_of_phy {fs : List Fld} {s t : State} {n : Nat} (h : OnlyFlds fs s t) (hn : n < 8)
    (hf : ∀ f ∈ fs, f.addr = 0x100010 + 0x4 * n) : SameDescriptors s t :=
  h.sameDescriptors fun f hm hd => by
    rw [hf f hm] at hd
    obtain ⟨hlow, -⟩ := hd
    omega

/-! Locks (R90, R110, R116) -/

/-- R116: what the loss of its lock sets of an input. -/
def State.lockCleared (s : State) (n : Nat) : State :=
  (((s.setFlag (F.SDI_PHY_STAT_LOCK n) false).setFld (F.SDI_PHY_STAT_RATE n) 0).event (F.SDI_PHY_STAT_LOCK_LOST n)).setFlag
    (F.SDI_PHY_STAT_PID_SEEN n) false

/-- The fields that the loss of its lock sets of an input. -/
def lockFlds (n : Nat) : List Fld :=
  [F.SDI_PHY_STAT_LOCK n, F.SDI_PHY_STAT_RATE n, F.SDI_PHY_STAT_LOCK_LOST n, F.SDI_PHY_STAT_PID_SEEN n]

theorem lockFlds_addr {n : Nat} {f : Fld} (h : f ∈ lockFlds n) : f.addr = 0x100010 + 0x4 * n := by
  simp only [lockFlds, List.mem_cons, List.not_mem_nil, or_false] at h
  rcases h with rfl | rfl | rfl | rfl <;> rfl

theorem State.lockCleared_flds (s : State) (n : Nat) : OnlyFlds (lockFlds n) s (s.lockCleared n) :=
  ((((OnlyFlds.refl _ s).setFlag _ _ rfl (by simp [lockFlds])).setFld _ _ rfl (by simp [lockFlds])).event _ rfl
    (by simp [lockFlds])).setFlag _ _ rfl (by simp [lockFlds])

theorem State.lockCleared_parts (s : State) (n : Nat) : OnlyParts [.regs] s (s.lockCleared n) :=
  (State.setFlag_evolves _ _ _ (by simp) (State.event_evolves _ _ (by simp) (State.setFld_evolves _ _ _ (by simp)
    (State.setFlag_evolves s _ _ (by simp) (.refl [.regs] s))))).parts

theorem State.lockCleared_spec (s : State) (n : Nat) :
    (s.lockCleared n).flag (F.SDI_PHY_STAT_LOCK n) = false ∧ (s.lockCleared n).fld (F.SDI_PHY_STAT_RATE n) = 0 ∧
      (s.lockCleared n).flag (F.SDI_PHY_STAT_LOCK_LOST n) = true := by
  refine ⟨State.flag_of_fld ?_, ?_, State.flag_of_fld ?_⟩
  · rw [State.lockCleared, State.fld_setFlag_apart _ _ _ _ rfl rfl (by simp [Fld.apart]),
      State.fld_event_apart _ _ _ rfl rfl (by simp [Fld.apart]), State.fld_setFld_apart _ _ _ _ rfl rfl (by simp [Fld.apart])]
    exact State.fld_setFlag_same _ _ _ rfl
  · rw [State.lockCleared, State.fld_setFlag_apart _ _ _ _ rfl rfl (by simp [Fld.apart]),
      State.fld_event_apart _ _ _ rfl rfl (by simp [Fld.apart])]
    exact State.fld_setFld_same _ _ _ rfl
  · rw [State.lockCleared, State.fld_setFlag_apart _ _ _ _ rfl rfl (by simp [Fld.apart])]
    exact State.fld_event_same _ _ rfl

theorem State.lockCleared_srcOfInput (s : State) {n : Nat} (hn : n < 8) : (s.lockCleared n).srcOfInput n = s.srcOfInput n :=
  ((s.lockCleared_flds n).sameDescriptors_of_phy hn fun _ hf => lockFlds_addr hf).srcOfInput (s.lockCleared_parts n .rst (by simp)) n

theorem State.lockCleared_src (s : State) (n i : Nat) : (s.lockCleared n).src i = s.src i :=
  State.src_congr (s.lockCleared_parts n .video (by simp)) i

theorem State.lockCleared_srcMode (s : State) {n : Nat} (hn : n < 8) (i : Nat) : (s.lockCleared n).srcMode i = s.srcMode i :=
  State.srcMode_congr (s.lockCleared_flds n _ rfl fun f hf => Fld.apart_of_addr (by
    rw [lockFlds_addr hf]
    dsimp only
    omega))

theorem State.frameDue_congr {s t : State} {i : Nat} (h : t.src i = s.src i) : t.frameDue i = s.frameDue i := by
  rw [State.frameDue, State.frameDue, h]

/-- R110: an input that no source uses loses its lock. -/
theorem State.lockLost_unused {s : State} {n : Nat} (hn : n < 8) (hi : s.srcOfInput n = none) : s.lockLost n = s.lockCleared n := by
  have h := (s.lockCleared_srcOfInput hn).trans hi
  unfold State.lockLost
  dsimp only
  rw [← State.lockCleared, h]

/-- R110: a source that was ACTIVE is lost with the lock of its input, and with it the frame in progress. -/
theorem State.lockLost_active {s : State} {n i : Nat} (hn : n < 8) (hi : s.srcOfInput n = some i) (ha : s.srcMode i = .active)
    (hd : s.frameDue i = none) :
    s.lockLost n = ((s.lockCleared n).setSrc i { s.src i with writing := none }).loseSource i := by
  have h := (s.lockCleared_srcOfInput hn).trans hi
  have hdue : (s.lockCleared n).frameDue i = none := (State.frameDue_congr (s.lockCleared_src n i)).trans hd
  unfold State.lockLost
  dsimp only
  rw [← State.lockCleared, h]
  dsimp only
  rw [hdue]
  dsimp only
  rw [s.lockCleared_src, if_pos (by rw [State.srcMode_setSrc, s.lockCleared_srcMode hn, ha]), State.loseSource]

/-- R90: SDI_LOCK at a rate that the device supports. -/
theorem execSdiLock_locks (s : State) {n rate : Nat} (hn : n < 8) (hr : rate < 15) :
    ∃ t, exec (.sdiLock n rate) s = .next t ∧ t.flag (F.SDI_PHY_STAT_LOCK n) = true ∧
      t.fld (F.SDI_PHY_STAT_RATE n) = rate ∧ OnlyParts [.regs] s t ∧
      OnlyFlds [F.SDI_PHY_STAT_LOCK n, F.SDI_PHY_STAT_RATE n] s t := by
  have hexec : exec (.sdiLock n rate) s =
      .next ((s.setFlag (F.SDI_PHY_STAT_LOCK n) true).setFld (F.SDI_PHY_STAT_RATE n) rate) := by
    show execSdiLock n rate s = _
    rw [execSdiLock, Nat.mod_eq_of_lt hn, if_neg (by omega)]
  refine ⟨_, hexec, State.flag_of_fld ?_, ?_, ?_, ?_⟩
  · rw [State.fld_setFld_apart _ _ _ _ rfl rfl (by simp [Fld.apart])]
    exact State.fld_setFlag_same _ _ _ rfl
  · exact (State.fld_setFld_same _ _ _ rfl).trans (Nat.mod_eq_of_lt (lt_trans hr (Nat.lt_succ_self 15)))
  · exact (State.setFld_evolves _ _ _ (by simp) (State.setFlag_evolves s _ _ (by simp) (.refl [.regs] s))).parts
  · exact ((OnlyFlds.refl _ s).setFlag _ _ rfl (by simp)).setFld _ _ rfl (by simp)

theorem execSdiLockLoss_eq (s : State) {n : Nat} (hn : n < 8) : exec (.sdiLockLoss n) s = .next (s.lockLost n) := by
  show execSdiLockLoss n s = _
  rw [execSdiLockLoss, Nat.mod_eq_of_lt hn]

/-- R110: SDI_LOCK_LOSS of an input that no source uses. -/
theorem execSdiLockLoss_unused {s : State} {n : Nat} (hn : n < 8) (hi : s.srcOfInput n = none) :
    ∃ t, exec (.sdiLockLoss n) s = .next t ∧ t.flag (F.SDI_PHY_STAT_LOCK n) = false ∧
      t.fld (F.SDI_PHY_STAT_RATE n) = 0 ∧ t.flag (F.SDI_PHY_STAT_LOCK_LOST n) = true ∧ OnlyParts [.regs] s t ∧
      OnlyFlds (lockFlds n) s t := by
  obtain ⟨hlock, hrate, hlost⟩ := s.lockCleared_spec n
  refine ⟨s.lockCleared n, ?_, hlock, hrate, hlost, s.lockCleared_parts n, s.lockCleared_flds n⟩
  rw [execSdiLockLoss_eq s hn, State.lockLost_unused hn hi]

/-- R110: SDI_LOCK_LOSS of an input whose source was ACTIVE. -/
theorem execSdiLockLoss_active {s : State} {n i : Nat} (hn : n < 8) (hi : s.srcOfInput n = some i) (ha : s.srcMode i = .active)
    (hd : s.frameDue i = none) :
    ∃ t, exec (.sdiLockLoss n) s = .next t ∧ t.flag (F.SDI_PHY_STAT_LOCK n) = false ∧ t.flag (F.SDI_PHY_STAT_LOCK_LOST n) = true ∧
      t.srcMode i = .lost ∧ t.flag (F.SDI_SRC_EVT_LOST i) = true ∧ (t.src i).writing = none ∧ (t.src i).leftAt = some s.cycles ∧
      (∀ j, j ≠ i → t.src j = s.src j) ∧ OnlyParts [.regs, .video] s t ∧
      OnlyFlds (lockFlds n ++ [F.SDI_SRC_STAT_STATE i, F.SDI_SRC_EVT_LOST i]) s t := by
  obtain ⟨hlock, -, hlost⟩ := s.lockCleared_spec n
  have hexec := execSdiLockLoss_eq s hn
  rw [State.lockLost_active hn hi ha hd] at hexec
  have hu : OnlyParts [.regs, .video] s ((s.lockCleared n).setSrc i { s.src i with writing := none }) :=
    ((s.lockCleared_parts n).mono (by simp)).trans ((State.setSrc_parts _ i _).mono (by simp))
  have hf : OnlyFlds (lockFlds n) s ((s.lockCleared n).setSrc i { s.src i with writing := none }) :=
    (s.lockCleared_flds n).trans (.of_regs (State.setSrc_regs _ _ _))
  obtain ⟨hgone, hevent, hsrc, hothers, hparts, hflds⟩ :=
    State.loseSource_spec (s := (s.lockCleared n).setSrc i { s.src i with writing := none }) (i := i)
      (by rw [State.srcMode_setSrc, s.lockCleared_srcMode hn, ha])
  have hphy : ∀ g : Fld, g.addr = 0x100010 + 0x4 * n → ∀ f ∈ [F.SDI_SRC_STAT_STATE i, F.SDI_SRC_EVT_LOST i], f.apart g = true := by
    intro g hg f hf
    have hf : f.addr = 0x100130 + 0x40 * i ∨ f.addr = 0x10013C + 0x40 * i := by
      rcases List.mem_pair.mp hf with rfl | rfl <;> simp
    exact Fld.apart_of_addr (by omega)
  refine ⟨_, hexec, ?_, ?_, hgone, hevent, ?_, ?_, fun j hj => ?_, hu.trans hparts,
    (hf.mono (by simp)).trans (hflds.mono (by simp))⟩
  · rw [hflds.flag rfl (hphy _ rfl), State.flag_setSrc, hlock]
  · rw [hflds.flag rfl (hphy _ rfl), State.flag_setSrc, hlost]
  · rw [hsrc, State.src_setSrc_same]
  · have hcycles : (s.lockCleared n).cycles = s.cycles := s.lockCleared_parts n .cycles (by simp)
    rw [hsrc, State.setSrc_cycles, hcycles]
  · rw [hothers j hj, State.src_setSrc_ne _ _ hj, s.lockCleared_src]

/-! Frames (R92, R99, R100) -/

/-- R92, R117: what is measured of a frame of an input has been noted. -/
def State.sdiNoted (s : State) (n i : Nat) (m : Measured) : State := (s.setFlag (F.SDI_PHY_STAT_PID_SEEN n) m.pid).noteMeasured i m

theorem State.endFrame_none {s : State} {i : Nat} (count : Bool) (h : (s.src i).writing = none) : s.endFrame i count = s := by
  rw [State.endFrame, h]

section
variable (s : State) {n : Nat} (i : Nat) (m : Measured)

theorem State.sdiNoted_parts : OnlyParts [.regs, .fresh] s (s.sdiNoted n i m) :=
  (State.noteMeasured_evolves _ i m (List.Subset.refl _)
    (State.setFlag_evolves s _ _ (by simp) (.refl [.regs, .fresh] s))).parts

theorem State.sdiNoted_flds : OnlyFlds (F.SDI_PHY_STAT_PID_SEEN n :: detFlds i) s (s.sdiNoted n i m) :=
  ((OnlyFlds.refl _ s).setFlag _ m.pid rfl (by simp)).trans ((State.noteMeasured_flds _ i m).mono (by simp))

theorem State.sdiNoted_pidSeen (hn : n < 8) : (s.sdiNoted n i m).flag (F.SDI_PHY_STAT_PID_SEEN n) = m.pid := by
  refine State.flag_of_fld ?_
  rw [State.sdiNoted, State.fld_noteMeasured _ _ _ rfl ⟨by dsimp only; omega, by dsimp only; omega⟩]
  exact State.fld_setFlag_same _ _ _ rfl

/-- What is noted of a frame is in the words of the input and of what is measured. -/
theorem State.fld_sdiNoted {g : Fld} (hg : g.ok = true) (hp : g.addr ≠ 0x100010 + 0x4 * n)
    (hd : g.addr ≠ 0x100134 + 0x40 * i ∧ g.addr ≠ 0x100138 + 0x40 * i) : (s.sdiNoted n i m).fld g = s.fld g := by
  rw [State.sdiNoted, State.fld_noteMeasured _ _ _ hg hd]
  exact s.fld_setFlag_apart _ _ _ rfl hg (Fld.apart_of_addr (Ne.symm hp))

theorem State.setPid_sameDescriptors (hn : n < 8) : SameDescriptors s (s.setFlag (F.SDI_PHY_STAT_PID_SEEN n) m.pid) :=
  ((OnlyFlds.refl [F.SDI_PHY_STAT_PID_SEEN n] s).setFlag _ m.pid rfl (by simp)).sameDescriptors_of_phy hn
    fun _ hf => congrArg Fld.addr (List.mem_singleton.mp hf)

theorem State.sdiNoted_sameDescriptors (hn : n < 8) : SameDescriptors s (s.sdiNoted n i m) :=
  (s.setPid_sameDescriptors m hn).trans (State.noteMeasured_sameDescriptors _ i m)

theorem State.sdiNoted_formatDiffers (hn : n < 8) : (s.sdiNoted n i m).formatDiffers i m = s.formatDiffers i m := by
  rw [State.sdiNoted, State.formatDiffers_noteMeasured]
  exact (s.setPid_sameDescriptors m hn).formatDiffers (fun k _ => s.fld_setFlag_apart _ _ _ rfl rfl (by simp [Fld.apart])) i m

end

/-- R100: a frame that matches the descriptor of its source begins, where none is in progress. -/
theorem State.sdiStart_begins {s : State} {n i : Nat} {m : Measured} (hn : n < 8) (hi : s.srcOfInput n = some i)
    (hl : s.flag (F.SDI_PHY_STAT_LOCK n) = true) (hw : (s.src i).writing = none) (hf : s.formatDiffers i m = false)
    (hr : s.rateHigh i m = false) (htf : s.flag (F.SDI_SRC_CTL_TF_FROM_STREAM i) = false) :
    s.sdiStart n m = (s.sdiNoted n i m).beginFrame i 0 m none := by
  have hdesc := s.sdiNoted_sameDescriptors i m hn
  have hsrc : (s.setFlag (F.SDI_PHY_STAT_PID_SEEN n) m.pid).srcOfInput n = some i :=
    ((s.setPid_sameDescriptors m hn).srcOfInput (State.setFlag_rst _ _ _) n).trans hi
  have hend : (s.setFlag (F.SDI_PHY_STAT_PID_SEEN n) m.pid).endFrame i false = s.setFlag (F.SDI_PHY_STAT_PID_SEEN n) m.pid :=
    State.endFrame_none false hw
  have hmatch : ((s.sdiNoted n i m).formatDiffers i m || (s.sdiNoted n i m).rateHigh i m) = false := by
    rw [s.sdiNoted_formatDiffers i m hn, hdesc.rateHigh, hf, hr, Bool.or_false]
  have htf' : (s.sdiNoted n i m).flag (F.SDI_SRC_CTL_TF_FROM_STREAM i) = false := hdesc.flag.trans htf
  unfold State.sdiStart
  dsimp only
  rw [if_pos hl, hsrc]
  dsimp only
  rw [hend, ← State.sdiNoted, State.sdiTake, hmatch, if_neg Bool.false_ne_true, State.frameTf, htf', if_neg Bool.false_ne_true]

/-- R100: SDI_FRAME_START of a frame that matches. -/
theorem execSdiFrameStart_begins {s : State} {n i : Nat} {m : Measured} (hn : n < 8) (hi : s.srcOfInput n = some i)
    (hl : s.flag (F.SDI_PHY_STAT_LOCK n) = true) (hw : (s.src i).writing = none) (hf : s.formatDiffers i m = false)
    (hr : s.rateHigh i m = false) (htf : s.flag (F.SDI_SRC_CTL_TF_FROM_STREAM i) = false) :
    ∃ t, exec (.sdiFrameStart n m) s = .next t ∧ t.flag (F.SDI_PHY_STAT_PID_SEEN n) = m.pid ∧ OnlyParts [.regs, .video, .fresh] s t ∧
      (∀ b, s.takeBuffer i = some b → (t.src i).writing = some ⟨some b, s.layoutOf i b none, m, 0, none, [], none, false⟩ ∧
        t.fld (F.SDI_SRC_STAT_WRITING i) = b % 4 ∧ t.flag (F.SDI_SRC_EVT_DROP i) = s.flag (F.SDI_SRC_EVT_DROP i)) ∧
      (s.takeBuffer i = none → t.flag (F.SDI_SRC_EVT_DROP i) = true ∧
        t.fld (F.SDI_SRC_CNT_DROP_COUNT i) = min (s.fld (F.SDI_SRC_CNT_DROP_COUNT i) + 1) 65535) ∧
      OnlyFlds (F.SDI_PHY_STAT_PID_SEEN n :: detFlds i ++
        [F.SDI_SRC_STAT_WRITING i, F.SDI_SRC_EVT_DROP i, F.SDI_SRC_CNT_DROP_COUNT i]) s t := by
  have hexec : exec (.sdiFrameStart n m) s = .next ((s.sdiNoted n i m).beginFrame i 0 m none) := by
    show execSdiFrameStart n m s = _
    rw [execSdiFrameStart, Nat.mod_eq_of_lt hn, State.sdiStart_begins hn hi hl hw hf hr htf]
  have hdesc := s.sdiNoted_sameDescriptors i m hn
  have hpid := s.sdiNoted_pidSeen i m hn
  have hparts := s.sdiNoted_parts (n := n) i m
  have hflds := s.sdiNoted_flds (n := n) i m
  have hbuf := hdesc.takeBuffer (hparts .video (by simp)) i
  have hevt : (s.sdiNoted n i m).flag (F.SDI_SRC_EVT_DROP i) = s.flag (F.SDI_SRC_EVT_DROP i) := by
    rw [State.flag, State.flag, s.fld_sdiNoted i m rfl (by dsimp only; omega) ⟨by dsimp only; omega, by dsimp only; omega⟩]
  have hcnt : (s.sdiNoted n i m).fld (F.SDI_SRC_CNT_DROP_COUNT i) = s.fld (F.SDI_SRC_CNT_DROP_COUNT i) :=
    s.fld_sdiNoted i m rfl (by dsimp only; omega) ⟨by dsimp only; omega, by dsimp only; omega⟩
  generalize s.sdiNoted n i m = u at hexec hdesc hpid hparts hflds hbuf hevt hcnt
  refine ⟨_, hexec, ?_, (hparts.mono (by simp)).trans ((u.beginFrame_parts i 0 m none).mono (by simp)), fun b hb => ?_, fun hb => ?_,
    (hflds.mono (by simp)).trans ((u.beginFrame_flds i 0 m none).mono (by simp))⟩
  · rw [(u.beginFrame_flds i 0 m none).flag rfl fun f hf => Fld.apart_of_addr ?_, hpid]
    have hf : f.addr = 0x100130 + 0x40 * i ∨ f.addr = 0x10013C + 0x40 * i ∨ f.addr = 0x100128 + 0x40 * i := by
      simp only [List.mem_cons, List.not_mem_nil, or_false] at hf
      rcases hf with rfl | rfl | rfl <;> simp
    dsimp only
    omega
  · obtain ⟨hwriting, hnumber, htake⟩ := State.beginFrame_takes 0 m none (hbuf.trans hb)
    refine ⟨by rw [hwriting, hdesc.layoutOf], hnumber, (htake.flag rfl fun f hf => ?_).trans hevt⟩
    rw [List.mem_singleton.mp hf]
    exact Fld.apart_of_addr (by dsimp only; omega)
  · obtain ⟨-, hdrop, hcount, -⟩ := State.beginFrame_drops 0 m none (hbuf.trans hb)
    exact ⟨hdrop, by rw [hcount, hcnt]⟩

/-! Lines (R92, R99) -/

/-- R92: SDI_LINE with a bad CRC, of an input that no source uses. -/
theorem execSdiLine_badCrc {s : State} {n : Nat} (field line : Nat) (codes : List Nat) (hn : n < 8) (hi : s.srcOfInput n = none) :
    ∃ t, exec (.sdiLine n field line false codes) s = .next t ∧
      t.flag (F.SDI_PHY_STAT_LINE_CRC n) = true ∧ OnlyParts [.regs] s t ∧ OnlyFlds [F.SDI_PHY_STAT_LINE_CRC n] s t := by
  have hflds : OnlyFlds [F.SDI_PHY_STAT_LINE_CRC n] s (s.event (F.SDI_PHY_STAT_LINE_CRC n)) :=
    (OnlyFlds.refl _ s).event _ rfl (by simp)
  have hsrc : (s.event (F.SDI_PHY_STAT_LINE_CRC n)).srcOfInput n = none :=
    ((hflds.sameDescriptors_of_phy hn fun _ hf => congrArg Fld.addr (List.mem_singleton.mp hf)).srcOfInput
      (State.event_rst _ _) n).trans hi
  refine ⟨s.event (F.SDI_PHY_STAT_LINE_CRC n), ?_, State.flag_event _ _ rfl,
    (State.event_evolves s _ (by simp) (.refl [.regs] s)).parts, hflds⟩
  show execSdiLine n field line false codes s = _
  rw [execSdiLine, Nat.mod_eq_of_lt hn, State.sdiLine, if_neg Bool.false_ne_true]
  dsimp only
  rw [hsrc]

theorem State.placeRun_parts (s : State) (i row x : Nat) (cs : List Nat) :
    OnlyParts [.fresh, .dram, .video] s (s.placeRun i row x cs) :=
  (State.placeRun_evolves s i row x cs (List.Subset.refl _) (.refl _ s)).parts

/-- R97, R99: a run of pixels of a frame in progress is stored at its row and first pixel. -/
theorem State.placeRun_spec {s : State} {i b : Nat} {f : FrameIn} (row x : Nat) (cs : List Nat) (hw : (s.src i).writing = some f)
    (hb : f.buf = some b) :
    (s.placeRun i row x cs).dram =
        (s.pourMem (f.lay.addr + row * f.lay.pitch + x * f.lay.bpp) (runBytes f.lay.sampling f.lay.depth cs)).dram ∧
      ∀ j, j ≠ i → (s.placeRun i row x cs).src j = s.src j := by
  have hpour := (State.pourMem_evolves s (f.lay.addr + row * f.lay.pitch + x * f.lay.bpp) (runBytes f.lay.sampling f.lay.depth cs)
    (List.Subset.refl _) (.refl _ s)).parts .video (by simp)
  unfold State.placeRun
  rw [hw]
  dsimp only
  rw [hb]
  exact ⟨State.setSrc_dram _ _ _, fun j hj => (State.src_setSrc_ne _ _ hj).trans (State.src_congr hpour j)⟩

/-- R92, R99: SDI_LINE of a progressive frame in progress that has a buffer. -/
theorem execSdiLine_stores {s : State} {n i b line : Nat} {f : FrameIn} {codes : List Nat} (hn : n < 8)
    (hi : s.srcOfInput n = some i) (hw : (s.src i).writing = some f) (hb : f.buf = some b) (hs : f.m.scan = 0) (hl : line < f.lay.h)
    (hc : pixelCount f.lay.sampling codes = f.lay.w)
    (hr : s.memReady (f.lay.addr + line * f.lay.pitch) (runBytes f.lay.sampling f.lay.depth codes).length) :
    let at_ := f.lay.addr + line * f.lay.pitch
    let bs := runBytes f.lay.sampling f.lay.depth codes
    ∃ t, exec (.sdiLine n 0 line true codes) s = .next t ∧ OnlyParts [.dram, .fresh, .video] s t ∧
      (∀ c, t.memByte c = if at_ ≤ c ∧ c < at_ + bs.length then bs.getD (c - at_) 0 else s.memByte c) ∧
      ∀ j, j ≠ i → t.src j = s.src j := by
  have hexec : exec (.sdiLine n 0 line true codes) s = .next (s.placeRun i line 0 codes) := by
    show execSdiLine n 0 line true codes s = _
    rw [execSdiLine, Nat.mod_eq_of_lt hn, State.sdiLine, if_pos rfl]
    dsimp only
    rw [hi]
    dsimp only
    rw [hw]
    dsimp only
    rw [if_pos hs, if_neg (by omega)]
  obtain ⟨hdram, hothers⟩ := State.placeRun_spec line 0 codes hw hb
  rw [Nat.zero_mul, Nat.add_zero] at hdram
  refine ⟨_, hexec, (s.placeRun_parts i line 0 codes).mono (by simp), fun c => ?_, hothers⟩
  rw [State.memByte_congr hdram, State.memByte_pourMem _ _ _ hr]

end Sys2Proof.Machine
end

section
/-! CERTIFICATES. SDI inputs (O38). -/

namespace Sys2Proof.Machine

/-- Settles O38: a lock and its loss set the fields of their input, and the loss goes on to the source; a frame that matches begins as
`beginFrame` does, and a line is poured into memory that is ready. -/
theorem sdiSignalsReachSources : Obligations.SdiSignalsReachSources := by
  unfold Obligations.SdiSignalsReachSources
  intro s n hn
  refine ⟨fun rate hr => execSdiLock_locks s hn hr, fun hi => execSdiLockLoss_unused hn hi,
    fun i hi ha hd => execSdiLockLoss_active hn hi ha hd, fun i m hi hl hw hf hr htf => execSdiFrameStart_begins hn hi hl hw hf hr htf,
    fun field line codes hi => execSdiLine_badCrc field line codes hn hi,
    fun i f b line codes hi hw hb hs hl hc => execSdiLine_stores hn hi hw hb hs hl hc⟩

end Sys2Proof.Machine
end

section
/-! SUPPORT. Frames of a source (R95 to R101, R110, R111): packets of a flow, frames that become complete, and what ends without them. -/

namespace Sys2Proof.Machine

/-! Packets (R95, R98) -/

theorem execSt2110Packet_eq (s : State) {p : Nat} (q : FlowPacket) (hp : p < 2) :
    exec (.st2110Packet p q) s = .next (s.flowPacket p q) := by
  show execSt2110Packet p q s = _
  rw [execSt2110Packet, Nat.mod_eq_of_lt hp]

theorem State.bump_parts (s : State) (f : Fld) : OnlyParts [.regs] s (s.bump f) :=
  (State.bump_evolves s f (List.Subset.refl _) (.refl _ s)).parts

/-- R95: a packet that no flow matches is counted. -/
theorem execSt2110Packet_unmatched {s : State} {p : Nat} {q : FlowPacket} (hp : p < 2)
    (hi : s.srcOfFlow p q.src q.dst q.udpPort = none) :
    ∃ t, exec (.st2110Packet p q) s = .next t ∧
      t.fld F.SDI_RX_DISC_UNMATCHED = min (s.fld F.SDI_RX_DISC_UNMATCHED + 1) 65535 ∧ OnlyParts [.regs] s t ∧
      OnlyFlds [F.SDI_RX_DISC_UNMATCHED] s t := by
  refine ⟨_, execSt2110Packet_eq s q hp, ?_⟩
  rw [State.flowPacket, hi]
  exact ⟨State.fld_bump_same _ _ rfl, s.bump_parts _, (OnlyFlds.refl _ s).bump _ rfl (by simp)⟩

/-- R95: a packet of a flow whose header is wrong is counted. -/
theorem execSt2110Packet_badHeader {s : State} {p i : Nat} {q : FlowPacket} (hp : p < 2)
    (hi : s.srcOfFlow p q.src q.dst q.udpPort = some i)
    (hq : q.payloadType ≠ s.fld (F.SDI_SRC_FLOW_PORT_PT i) ∨ q.version ≠ 2 ∨ q.rows.any (s.outside i) = true) :
    ∃ t, exec (.st2110Packet p q) s = .next t ∧
      t.fld F.SDI_RX_DISC_BAD_HDR = min (s.fld F.SDI_RX_DISC_BAD_HDR + 1) 65535 ∧ OnlyParts [.regs] s t ∧
      OnlyFlds [F.SDI_RX_DISC_BAD_HDR] s t := by
  refine ⟨_, execSt2110Packet_eq s q hp, ?_⟩
  rw [State.flowPacket, hi]
  dsimp only
  rw [if_pos hq]
  exact ⟨State.fld_bump_same _ _ rfl, s.bump_parts _, (OnlyFlds.refl _ s).bump _ rfl (by simp)⟩

/-- R98: a progressive frame of another time stamp that is not older is a new one. -/
theorem flowStep_fresh {f : FrameIn} {ts : Nat} (field : Nat) (hne : f.ts ≠ ts) (hl : laterSerial f.ts ts = false) :
    flowStep false (some f) ts field = .fresh := by
  rw [flowStep, hl, if_neg Bool.false_ne_true, if_neg Bool.false_ne_true, if_neg (Ne.symm hne)]

/-- R98: a frame that ends before it is whole is discarded, and counted. -/
theorem State.endFrame_incomplete {s : State} {i : Nat} {f : FrameIn} (hw : (s.src i).writing = some f) (ha : f.ackAt = none) :
    (s.endFrame i true).flag (F.SDI_SRC_EVT_INCOMPLETE i) = true ∧
      (s.endFrame i true).fld (F.SDI_SRC_CNT_INCOMPLETE_COUNT i) = min (s.fld (F.SDI_SRC_CNT_INCOMPLETE_COUNT i) + 1) 65535 := by
  have hexec : s.endFrame i true = (s.setSrc i { s.src i with writing := none }).eventCount (F.SDI_SRC_EVT_INCOMPLETE i)
      (F.SDI_SRC_CNT_INCOMPLETE_COUNT i) := by
    simp [State.endFrame, hw, ha]
  have hevt : (F.SDI_SRC_CNT_INCOMPLETE_COUNT i).apart (F.SDI_SRC_EVT_INCOMPLETE i) = true := Fld.apart_of_addr (by dsimp only; omega)
  have hcnt : (F.SDI_SRC_EVT_INCOMPLETE i).apart (F.SDI_SRC_CNT_INCOMPLETE_COUNT i) = true := Fld.apart_of_addr (by dsimp only; omega)
  rw [hexec]
  exact ⟨State.flag_of_fld (State.fld_eventCount_event _ _ _ rfl rfl hevt), State.fld_eventCount_count _ _ _ rfl rfl hcnt⟩

/-- R98, R100: a frame that begins is in progress with nothing received, stored or not. -/
theorem State.beginFrame_writing (s : State) (i ts : Nat) (m : Measured) (tf : Option Nat) :
    ∃ g, ((s.beginFrame i ts m tf).src i).writing = some g ∧ g.ts = ts ∧ g.got = [] := by
  cases h : s.takeBuffer i with
  | some b => exact ⟨_, (State.beginFrame_takes ts m tf h).1, rfl, rfl⟩
  | none => exact ⟨_, (State.beginFrame_drops ts m tf h).1, rfl, rfl⟩

/-- R98: a packet of a new frame ends the frame in progress. -/
theorem State.flowPacket_begins {s : State} {p i : Nat} {q : FlowPacket} {f : FrameIn}
    (hi : s.srcOfFlow p q.src q.dst q.udpPort = some i) (ht : q.payloadType = s.fld (F.SDI_SRC_FLOW_PORT_PT i)) (hv : q.version = 2)
    (hr : q.rows = []) (hs : s.flag (F.SDI_SRC_CODING_SCAN i) = false) (hw : (s.src i).writing = some f) (hne : f.ts ≠ q.timestamp)
    (hl : laterSerial f.ts q.timestamp = false) :
    s.flowPacket p q = (s.endFrame i true).beginFrame i q.timestamp (s.flowFormat i) none := by
  have hok : ¬ (q.payloadType ≠ s.fld (F.SDI_SRC_FLOW_PORT_PT i) ∨ q.version ≠ 2 ∨ q.rows.any (s.outside i) = true) := by
    simp [ht, hv, hr]
  rw [State.flowPacket, hi]
  dsimp only
  rw [if_neg hok, hs, hw, flowStep_fresh _ hne hl, hr]
  rfl

/-- R98: ST2110_PACKET that begins a frame before the one in progress is whole. -/
theorem execSt2110Packet_begins {s : State} {p i : Nat} {q : FlowPacket} {f : FrameIn} (hp : p < 2)
    (hi : s.srcOfFlow p q.src q.dst q.udpPort = some i) (ht : q.payloadType = s.fld (F.SDI_SRC_FLOW_PORT_PT i)) (hv : q.version = 2)
    (hr : q.rows = []) (hs : s.flag (F.SDI_SRC_CODING_SCAN i) = false) (hw : (s.src i).writing = some f) (ha : f.ackAt = none)
    (hne : f.ts ≠ q.timestamp) (hl : laterSerial f.ts q.timestamp = false) :
    ∃ t, exec (.st2110Packet p q) s = .next t ∧ OnlyParts [.regs, .video] s t ∧ t.flag (F.SDI_SRC_EVT_INCOMPLETE i) = true ∧
      t.fld (F.SDI_SRC_CNT_INCOMPLETE_COUNT i) = min (s.fld (F.SDI_SRC_CNT_INCOMPLETE_COUNT i) + 1) 65535 ∧
      ∃ g, (t.src i).writing = some g ∧ g.ts = q.timestamp ∧ g.got = [] := by
  have hexec := execSt2110Packet_eq s q hp
  rw [State.flowPacket_begins hi ht hv hr hs hw hne hl] at hexec
  have hend := (State.endFrame_evolves s i true (List.Subset.refl _) (.refl _ s)).parts
  obtain ⟨hevent, hcount⟩ := State.endFrame_incomplete hw ha
  have hflds := (s.endFrame i true).beginFrame_flds i q.timestamp (s.flowFormat i) none
  have hevt : ∀ g ∈ [F.SDI_SRC_STAT_WRITING i, F.SDI_SRC_EVT_DROP i, F.SDI_SRC_CNT_DROP_COUNT i],
      g.apart (F.SDI_SRC_EVT_INCOMPLETE i) = true := by
    simp [Fld.apart]
  have hcnt : ∀ g ∈ [F.SDI_SRC_STAT_WRITING i, F.SDI_SRC_EVT_DROP i, F.SDI_SRC_CNT_DROP_COUNT i],
      g.apart (F.SDI_SRC_CNT_INCOMPLETE_COUNT i) = true := by
    simp [Fld.apart]
  exact ⟨_, hexec, hend.trans (State.beginFrame_parts _ _ _ _ _), (hflds.flag rfl hevt).trans hevent, (hflds _ rfl hcnt).trans hcount,
    State.beginFrame_writing _ _ _ _ _⟩

/-! Whole frames (R101, R110) -/

/-- R101: a source's newest frame, before the state of the source follows. -/
def State.storeNewest (s : State) (i : Nat) (f : FrameIn) : State :=
  let b := f.buf.getD 0
  let x := s.src i
  ((s.setSrc i { x with newest := some (b, { f.lay with doneAt := s.wall }), lastFrame := s.cycles,
                        order := x.order.filter (· != b) ++ [b] }).setFlag (F.SDI_SRC_STAT_HAS_FRAME i) true).setFld
    (F.SDI_SRC_STAT_NEWEST i) b

theorem State.storeNewest_spec (s : State) (i : Nat) (f : FrameIn) :
    (((s.storeNewest i f).src i).newest = some (f.buf.getD 0, { f.lay with doneAt := s.wall }) ∧
      ((s.storeNewest i f).src i).lastFrame = s.cycles) ∧
      (s.storeNewest i f).flag (F.SDI_SRC_STAT_HAS_FRAME i) = true ∧ (s.storeNewest i f).srcMode i = s.srcMode i := by
  refine ⟨by simp [State.storeNewest], State.flag_of_fld ?_, State.srcMode_congr ?_⟩
  · rw [State.storeNewest, State.fld_setFld_apart _ _ _ _ rfl rfl (by simp [Fld.apart])]
    exact State.fld_setFlag_same _ _ true rfl
  · rw [State.storeNewest, State.fld_setFld_apart _ _ _ _ rfl rfl (by simp [Fld.apart]),
      State.fld_setFlag_apart _ _ _ _ rfl rfl (by simp [Fld.apart]), State.fld_setSrc]

/-- R110: a source that has its newest frame is ACTIVE, recovered where it had been lost. -/
theorem State.keepFrame_eq (s : State) (i : Nat) (f : FrameIn) :
    s.keepFrame i f =
      if s.srcMode i = .lost ∨ s.srcMode i = .mismatch then
        ((s.storeNewest i f).setSrcMode i .active).event (F.SDI_SRC_EVT_RECOVERED i)
      else if s.srcMode i = .seek then (s.storeNewest i f).setSrcMode i .active
      else s.storeNewest i f := by
  have hmode := (s.storeNewest_spec i f).2.2
  unfold State.keepFrame
  dsimp only
  rw [← State.storeNewest, hmode]
  cases s.srcMode i <;> simp

/-- What follows of a source's newest frame for the state of the source. -/
theorem State.keepFrame_flds (s : State) (i : Nat) (f : FrameIn) :
    (s.keepFrame i f).video = (s.storeNewest i f).video ∧
      OnlyFlds [F.SDI_SRC_STAT_STATE i, F.SDI_SRC_EVT_RECOVERED i] (s.storeNewest i f) (s.keepFrame i f) := by
  have hvideo := (s.storeNewest i f).setSrcMode_active_video i
  have hflds : OnlyFlds [F.SDI_SRC_STAT_STATE i, F.SDI_SRC_EVT_RECOVERED i] (s.storeNewest i f) ((s.storeNewest i f).setSrcMode i .active) :=
    (State.setSrcMode_flds _ i .active).mono (by simp)
  rw [State.keepFrame_eq]
  split
  · exact ⟨(State.event_video _ _).trans hvideo, hflds.event _ rfl (by simp)⟩
  · split
    · exact ⟨hvideo, hflds⟩
    · exact ⟨rfl, .refl _ _⟩

theorem State.keepFrame_spec (s : State) (i : Nat) (f : FrameIn) :
    ((s.keepFrame i f).src i).newest = some (f.buf.getD 0, { f.lay with doneAt := s.wall }) ∧
      ((s.keepFrame i f).src i).lastFrame = s.cycles ∧ (s.keepFrame i f).flag (F.SDI_SRC_STAT_HAS_FRAME i) = true ∧
      (s.srcMode i = .seek ∨ s.srcMode i = .lost ∨ s.srcMode i = .mismatch → (s.keepFrame i f).srcMode i = .active) ∧
      (s.srcMode i = .lost ∨ s.srcMode i = .mismatch → (s.keepFrame i f).flag (F.SDI_SRC_EVT_RECOVERED i) = true) := by
  obtain ⟨⟨hnewest, hlast⟩, hhas, -⟩ := s.storeNewest_spec i f
  obtain ⟨hvideo, hflds⟩ := s.keepFrame_flds i f
  have hsrc := State.src_congr hvideo i
  refine ⟨by rw [hsrc, hnewest], by rw [hsrc, hlast], (hflds.flag rfl (by simp [Fld.apart])).trans hhas, fun h => ?_, fun h => ?_⟩
  · rw [State.keepFrame_eq]
    split
    · rw [State.srcMode_event _ rfl (Fld.apart_of_addr (by dsimp only; omega)), State.setSrcMode_srcMode]
    · rw [if_pos (by tauto), State.setSrcMode_srcMode]
  · rw [State.keepFrame_eq, if_pos h]
    exact State.flag_event _ _ rfl

/-- R101: the frame in progress is whole and its completion is due. -/
theorem State.frameDue_writing {s : State} {i : Nat} {f : FrameIn} (hc : (s.src i).closing = none) (hw : (s.src i).writing = some f)
    (ha : f.ackAt ≠ none) (hd : f.done = false) : s.frameDue i = some f := by
  have hsome : f.ackAt.isSome = true := Option.isSome_iff_ne_none.mpr ha
  simp [State.frameDue, hc, hw, hsome, hd]

/-- R101: the cycle of its completion has come, and the frame in progress is marked complete. -/
def State.markDone (s : State) (i : Nat) (f : FrameIn) : State :=
  (s.untilCycle (f.ackAt.getD 0 + 3)).setSrc i { s.src i with writing := some { f with done := true } }

theorem State.markDone_parts (s : State) (i : Nat) (f : FrameIn) : OnlyParts [.cycles, .wall, .video] s (s.markDone i f) :=
  (State.setSrc_evolves _ i _ (by simp) (State.untilCycle_evolves s _ (by simp) (.refl [.cycles, .wall, .video] s))).parts

/-- R101, R110: a whole SDI frame in progress that matches the descriptor is kept. -/
theorem State.frameDone_keeps {s : State} {i : Nat} {f : FrameIn} (m : Measured) (hc : (s.src i).closing = none)
    (hw : (s.src i).writing = some f) (ha : f.ackAt ≠ none) (hd : f.done = false) (hk : s.flag (F.SDI_SRC_CTL_KIND i) = false)
    (hf : s.formatDiffers i f.m = false) (hr : s.rateHigh i f.m = false) :
    s.frameDone i m = ((s.markDone i f).noteMeasured i f.m).keepFrame i f := by
  have hdesc := (s.markDone i f).noteMeasured_sameDescriptors i f.m
  have hmatch : (((s.markDone i f).noteMeasured i f.m).formatDiffers i f.m ||
      ((s.markDone i f).noteMeasured i f.m).rateHigh i f.m) = false := by
    rw [State.formatDiffers_noteMeasured, hdesc.rateHigh]
    exact congrArg₂ or hf hr
  have hclosing : (s.src i).closing.isSome = false := by rw [hc]; rfl
  have hkind : (s.markDone i f).flag (F.SDI_SRC_CTL_KIND i) = false := hk
  simp only [State.frameDone, State.frameDue_writing hc hw ha hd, State.src_untilCycle, hclosing, Bool.false_eq_true, if_false]
  rw [← State.markDone, hkind, if_neg Bool.false_ne_true, State.completeFrame, hmatch,
    if_neg Bool.false_ne_true]

/-- R101, R110: FRAME_COMPLETE of a whole SDI frame that matches the descriptor. -/
theorem execFrameComplete_keeps {s : State} {i : Nat} {f : FrameIn} (m : Measured) (hi : i < 16) (hc : (s.src i).closing = none)
    (hw : (s.src i).writing = some f) (ha : f.ackAt ≠ none) (hd : f.done = false) (hk : s.flag (F.SDI_SRC_CTL_KIND i) = false)
    (hf : s.formatDiffers i f.m = false) (hr : s.rateHigh i f.m = false) (hm : f.m.mhz % 1000 ≠ 500) :
    ∃ t, exec (.frameComplete i m) s = .next t ∧ t.cycles = max s.cycles (f.ackAt.getD 0 + 3) ∧
      (t.src i).newest = some (f.buf.getD 0, { f.lay with doneAt := t.wall }) ∧ (t.src i).lastFrame = t.cycles ∧
      t.flag (F.SDI_SRC_STAT_HAS_FRAME i) = true ∧ OnlyParts [.regs, .cycles, .wall, .video] s t ∧
      (s.srcMode i = .seek ∨ s.srcMode i = .lost ∨ s.srcMode i = .mismatch → t.srcMode i = .active) ∧
      (s.srcMode i = .lost ∨ s.srcMode i = .mismatch → t.flag (F.SDI_SRC_EVT_RECOVERED i) = true) := by
  have hexec : exec (.frameComplete i m) s = .next (((s.markDone i f).noteMeasured i f.m).keepFrame i f) := by
    show execFrameComplete i m s = _
    rw [execFrameComplete, Nat.mod_eq_of_lt hi, State.frameDone_keeps m hc hw ha hd hk hf hr]
  have hcycles : (s.markDone i f).cycles = max s.cycles (f.ackAt.getD 0 + 3) := s.untilCycle_cycles _
  have hnoted : OnlyParts [.regs] (s.markDone i f) ((s.markDone i f).noteMeasured i f.m) :=
    State.noteMeasured_only_regs _ i hm
  have hmode : ((s.markDone i f).noteMeasured i f.m).srcMode i = s.srcMode i :=
    State.srcMode_congr (State.fld_noteMeasured _ i f.m rfl ⟨by dsimp only; omega, by dsimp only; omega⟩)
  have hmark := s.markDone_parts i f
  generalize (s.markDone i f).noteMeasured i f.m = u at hexec hnoted hmode
  obtain ⟨hnewest, hlast, hhas, hactive, hrecovered⟩ := u.keepFrame_spec i f
  have hkeep := (State.keepFrame_evolves u i f (List.Subset.refl _) (.refl _ u)).parts
  have hkwall : (u.keepFrame i f).wall = u.wall := hkeep .wall (by simp)
  have hkcycles : (u.keepFrame i f).cycles = u.cycles := hkeep .cycles (by simp)
  rw [hmode] at hactive hrecovered
  exact ⟨_, hexec, hkcycles.trans ((hnoted .cycles (by simp)).trans hcycles), by rw [hnewest, hkwall], by rw [hlast, hkcycles], hhas,
    ((hmark.mono (by simp)).trans (hnoted.mono (by simp))).trans (hkeep.mono (by simp)), hactive, hrecovered⟩

/-! Loss (R110, R111) -/

/-- R110: SOURCE_LOSS_TIMEOUT of an ACTIVE source that has no frame due. -/
theorem execSourceLossTimeout_loses {s : State} {i : Nat} (hi : i < 16) (ha : s.srcMode i = .active) (hd : s.frameDue i = none) :
    ∃ t, exec (.sourceLossTimeout i) s = .next t ∧
      t.cycles = max s.cycles ((s.src i).lastFrame + msCycles (s.fld (F.SDI_SRC_LOSS_LOSS_MS i))) ∧ t.srcMode i = .lost ∧
      t.flag (F.SDI_SRC_EVT_LOST i) = true ∧ OnlyParts [.regs, .cycles, .wall, .video] s t ∧
      OnlyFlds [F.SDI_SRC_STAT_STATE i, F.SDI_SRC_EVT_LOST i] s t := by
  have hexec : exec (.sourceLossTimeout i) s =
      .next ((s.untilCycle ((s.src i).lastFrame + msCycles (s.fld (F.SDI_SRC_LOSS_LOSS_MS i)))).loseSource i) := by
    show execSourceLossTimeout i s = _
    rw [execSourceLossTimeout, Nat.mod_eq_of_lt hi, State.sourceTimeout, hd]
    exact congrArg Host.Outcome.next (if_pos ⟨ha, rfl⟩)
  generalize (s.src i).lastFrame + msCycles (s.fld (F.SDI_SRC_LOSS_LOSS_MS i)) = due at hexec ⊢
  obtain ⟨hlost, hevent, -, -, hparts, hflds⟩ := State.loseSource_spec (s := s.untilCycle due) (i := i) ha
  have htime : OnlyParts [.regs, .cycles, .wall, .video] s (s.untilCycle due) :=
    (State.untilCycle_evolves s due (by simp) (.refl _ s)).parts
  exact ⟨_, hexec, (hparts .cycles (by simp)).trans (s.untilCycle_cycles due), hlost, hevent, htime.trans (hparts.mono (by simp)),
    (s.untilCycle_flds _ due).trans hflds⟩

/-- R111: HOLD_EXPIRY of a source that left ACTIVE. -/
theorem execHoldExpiry_expires {s : State} {i at_ : Nat} (hi : i < 16) (hl : (s.src i).leftAt = some at_)
    (hm : s.srcMode i = .lost ∨ s.srcMode i = .mismatch) (he : (s.src i).expired = false) :
    ∃ t, exec (.holdExpiry i) s = .next t ∧ t.cycles = max s.cycles (at_ + msCycles (s.fld (F.SDI_SRC_CTL_HOLD_MS i))) ∧
      t.src i = { s.src i with expired := true } ∧ (∀ j, j ≠ i → t.src j = s.src j) ∧ OnlyParts [.cycles, .wall, .video] s t := by
  have hexec : exec (.holdExpiry i) s =
      .next ((s.untilCycle (at_ + msCycles (s.fld (F.SDI_SRC_CTL_HOLD_MS i)))).setSrc i { s.src i with expired := true }) := by
    show execHoldExpiry i s = _
    rw [execHoldExpiry, Nat.mod_eq_of_lt hi, State.holdEnds, hl]
    exact congrArg Host.Outcome.next (if_pos ⟨hm, he⟩)
  refine ⟨_, hexec, s.untilCycle_cycles _, State.src_setSrc_same _ _ _, fun j hj => State.src_setSrc_ne _ _ hj, ?_⟩
  exact (State.setSrc_evolves _ i _ (by simp) (State.untilCycle_evolves s _ (by simp) (.refl [.cycles, .wall, .video] s))).parts

end Sys2Proof.Machine
end

section
/-! CERTIFICATES. Frames of a source (O39). -/

namespace Sys2Proof.Machine

/-- Settles O39: a packet is counted or begins a frame by the checks of R95 and R98; a whole frame that matches is kept, by
`keepFrame_spec`, and the two timeouts let their time pass and act on the record of the source. -/
theorem framesComplete : Obligations.FramesComplete := by
  unfold Obligations.FramesComplete
  intro s
  exact ⟨fun p q hp hi => execSt2110Packet_unmatched hp hi, fun p q i hp hi hq => execSt2110Packet_badHeader hp hi hq,
    fun p q i f hp hi ht hv hr hs hw ha hne hl => execSt2110Packet_begins hp hi ht hv hr hs hw ha hne hl,
    fun i f m hi hc hw ha hd hk hf hr hm => execFrameComplete_keeps m hi hc hw ha hd hk hf hr hm,
    fun i hi ha hd => execSourceLossTimeout_loses hi ha hd, fun i at_ hi hl hm he => execHoldExpiry_expires hi hl hm he⟩

end Sys2Proof.Machine
end

section
/-! SUPPORT. States that meet the conditions which O38 and O39 ask. -/

namespace Sys2Proof.Machine

/-- A device with source 0 enabled: an input locked to 1080p59.94 or 60, or a flow at port 5000 of payload type 96, as `ctl` says, with
the state `stat` and the record `x`; the first burst of its memory has been written. -/
def oneSource (ctl stat : Word) (x : SrcState) : State :=
  { State.reset with
    regs := [(0x100010, 0x101), (0x100100, ctl), (0x100104, 0x07800438), (0x100108, 0x3C010000), (0x10011C, 0xEF000001),
      (0x100120, 0x30001388), (0x100130, stat)]
    video := ⟨[(0, x)], []⟩
    dram := { State.reset.dram with mem := [(0, List.replicate 64 1)] } }

/-- A source that has received nothing. -/
def idleSrc : SrcState := ⟨[0, 1, 2, 3], none, none, none, 0, none, true, none⟩

/-- A 1080p60 signal of YCbCr 4:2:2 and 10 bits. -/
def fullHd : Measured := ⟨1920, 1080, 0, 0, 1, 0, 0, 60000, 0, true, none⟩

/-- The codes of two of its pixels. -/
def twoPixels : List Nat := [0x40, 0x200, 0x3AC, 0x200]

/-- A frame of that signal in progress, of one line of two pixels, whose last write was acknowledged as `ackAt` says. -/
def frameInProgress (ackAt : Option Nat) : FrameIn := ⟨some 0, ⟨0, 2, 1, 64, 0, 1, 0, none, 0⟩, fullHd, 0, none, [], ackAt, false⟩

/-- A packet of the flow that carries no rows. -/
def emptyPacket (ts : Nat) : FlowPacket := ⟨0, 0xEF000001, 5000, 2, 96, ts, []⟩

/-- O38 is about locked inputs, and about frames that begin, that there are. -/
theorem oneSource_input :
    (oneSource 0x80800000 0x200 idleSrc).srcOfInput 0 = some 0 ∧ (oneSource 0x80800000 0x200 idleSrc).srcOfInput 1 = none ∧
      (oneSource 0x80800000 0x200 idleSrc).srcMode 0 = .active ∧ (oneSource 0x80800000 0x200 idleSrc).frameDue 0 = none ∧
      (oneSource 0x80800000 0x200 idleSrc).flag (F.SDI_PHY_STAT_LOCK 0) = true ∧
      (oneSource 0x80800000 0x200 idleSrc).formatDiffers 0 fullHd = false ∧
      (oneSource 0x80800000 0x200 idleSrc).rateHigh 0 fullHd = false ∧
      (oneSource 0x80800000 0x200 idleSrc).flag (F.SDI_SRC_CTL_TF_FROM_STREAM 0) = false ∧
      (oneSource 0x80800000 0x200 idleSrc).takeBuffer 0 = some 0 := by
  decide

/-- O38 is about lines of a frame in progress, and memory for them, that there are. -/
theorem oneSource_line :
    let s := oneSource 0x80800000 0x200 { idleSrc with writing := some (frameInProgress none) }
    let f := frameInProgress none
    s.srcOfInput 0 = some 0 ∧ (s.src 0).writing = some f ∧ pixelCount f.lay.sampling twoPixels = f.lay.w ∧
      s.memReady (f.lay.addr + 0 * f.lay.pitch) (runBytes f.lay.sampling f.lay.depth twoPixels).length := by
  refine ⟨by decide, by decide, by decide, fun b _ hb => ?_⟩
  have hlength : (runBytes 0 1 twoPixels).length = 8 := by decide
  have hb0 : b = 0 := by
    have : 64 * b < 8 := by simpa [frameInProgress, hlength] using hb
    omega
  subst hb0
  decide

/-- O39 is about packets of a flow, without a match, with a wrong header and of a new frame, that there are. -/
theorem oneSource_flow :
    let s := oneSource 0xC0800000 0x200 { idleSrc with writing := some (frameInProgress none) }
    s.srcOfFlow 0 0 0xEF000001 5000 = some 0 ∧ s.srcOfFlow 1 0 0xEF000001 5000 = none ∧
      s.fld (F.SDI_SRC_FLOW_PORT_PT 0) = (emptyPacket 1).payloadType ∧ s.flag (F.SDI_SRC_CODING_SCAN 0) = false ∧
      laterSerial (frameInProgress none).ts (emptyPacket 1).timestamp = false := by
  decide

/-- O39 is about whole frames of a lost source, an ACTIVE source with no frame due and a lost source that holds its last frame that
there are. -/
theorem oneSource_whole :
    let s := oneSource 0x80800000 0x300 { idleSrc with writing := some (frameInProgress (some 7)), leftAt := some 5, expired := false }
    (s.src 0).closing = none ∧ (s.src 0).writing = some (frameInProgress (some 7)) ∧ s.flag (F.SDI_SRC_CTL_KIND 0) = false ∧
      s.formatDiffers 0 fullHd = false ∧ s.rateHigh 0 fullHd = false ∧ fullHd.mhz % 1000 ≠ 500 ∧ s.srcMode 0 = .lost ∧
      (s.src 0).leftAt = some 5 ∧ (s.src 0).expired = false := by
  decide

end Sys2Proof.Machine
end

section
/-! SUPPORT. Network ports (R118, R132): their records, and one bit of a field, under each update. -/

namespace Sys2Proof.Machine

/-! Records -/

/-- The part of the state that holds the record of a port. -/
def netPart (p : Nat) : Part := if p = 0 then .net0 else .net1

@[simp] theorem State.net_setNet (s : State) (p : Nat) (x : NetPort) : (s.setNet p x).net p = x := by
  unfold State.setNet State.net
  split <;> rfl

theorem State.net_congr {s t : State} (h0 : t.net0 = s.net0) (h1 : t.net1 = s.net1) (p : Nat) : t.net p = s.net p := by
  rw [State.net, State.net, h0, h1]

@[simp] theorem State.net_setFld (s : State) (f : Fld) (v p : Nat) : (s.setFld f v).net p = s.net p := rfl
@[simp] theorem State.net_event (s : State) (f : Fld) (p : Nat) : (s.event f).net p = s.net p := rfl
@[simp] theorem State.net_setBit (s : State) (f : Fld) (i : Nat) (b : Bool) (p : Nat) : (s.setBit f i b).net p = s.net p := rfl
@[simp] theorem State.net_send (s : State) (o : Output) (p : Nat) : (s.send o).net p = s.net p := rfl

@[simp] theorem State.setNet_regs (s : State) (p : Nat) (x : NetPort) : (s.setNet p x).regs = s.regs := by
  unfold State.setNet
  split <;> rfl

@[simp] theorem State.setNet_sent (s : State) (p : Nat) (x : NetPort) : (s.setNet p x).sent = s.sent := by
  unfold State.setNet
  split <;> rfl

@[simp] theorem State.fld_setNet (s : State) (p : Nat) (x : NetPort) (f : Fld) : (s.setNet p x).fld f = s.fld f := by
  simp only [State.fld, State.reg, State.setNet_regs]

theorem State.setNet_flds (s : State) (p : Nat) (x : NetPort) (fs : List Fld) : OnlyFlds fs s (s.setNet p x) :=
  .of_regs (s.setNet_regs p x)

theorem State.setNet_parts (s : State) (p : Nat) (x : NetPort) : OnlyParts [netPart p] s (s.setNet p x) := by
  unfold State.setNet netPart
  split
  · exact (Evolves.set_net0 x (List.mem_singleton.mpr rfl) (.refl _ s)).parts
  · exact (Evolves.set_net1 x (List.mem_singleton.mpr rfl) (.refl _ s)).parts

/-! Parts -/

theorem State.setFld_parts (s : State) (f : Fld) (v : Nat) : OnlyParts [.regs] s (s.setFld f v) :=
  (State.setFld_evolves s f v (List.Subset.refl _) (.refl _ s)).parts

theorem State.setBit_parts (s : State) (f : Fld) (i : Nat) (b : Bool) : OnlyParts [.regs] s (s.setBit f i b) :=
  (State.setBit_evolves s f i b (List.Subset.refl _) (.refl _ s)).parts

theorem State.send_parts (s : State) (o : Output) : OnlyParts [.sent] s (s.send o) :=
  (State.send_evolves s o (List.Subset.refl _) (.refl _ s)).parts

/-! Bits of a field -/

theorem State.bit_of_fld {s t : State} {f : Fld} (h : t.fld f = s.fld f) (i : Nat) : t.bit f i = s.bit f i := by
  rw [State.bit, State.bit, h]

theorem OnlyFlds.setBit {fs : List Fld} {b s : State} (f : Fld) (i : Nat) (x : Bool) (hf : f.ok = true) (hm : f ∈ fs)
    (h : OnlyFlds fs b s) : OnlyFlds fs b (s.setBit f i x) := h.setFld f _ hf hm

theorem State.bit_setBit_same_true (s : State) {f : Fld} {i : Nat} (hf : f.ok = true) (hi : i < f.width) :
    (s.setBit f i true).bit f i = true := by
  rw [s.bit_setBit_true hf hi, decide_eq_true rfl, Bool.true_or]

theorem State.bit_setBit_same_false (s : State) {f : Fld} (i : Nat) (hf : f.ok = true) : (s.setBit f i false).bit f i = false := by
  have hclear : (s.fld f - s.fld f / 2 ^ i % 2 * 2 ^ i).testBit i = false := by
    rw [Nat.testBit_eq_decide_div_mod_eq, decide_eq_false_iff_not, Nat.mul_comm, Nat.sub_mul_div]
    omega
  rw [State.bit_eq_testBit, State.setBit, State.fld_setFld_same _ _ _ hf, Nat.testBit_mod_two_pow, Bool.toNat_false, Nat.zero_mul,
    Nat.add_zero, hclear, Bool.and_false]

/-! Events (R132) -/

/-- R132: firmware's copy of the event bits with bit `i` at 1. -/
def withBit (v i : Nat) : Nat := if v / 2 ^ i % 2 = 1 then v else v + 2 ^ i

theorem withBit_bit (v i : Nat) : withBit v i / 2 ^ i % 2 = 1 := by
  unfold withBit
  split
  · assumption
  · rw [Nat.add_div_right _ (by positivity)]
    omega

theorem State.netEvent_eq (s : State) (p : Nat) (f : Fld) :
    s.netEvent p f = (s.setNet p { s.net p with fwEvents := withBit (s.net p).fwEvents f.lo }).event f := rfl

@[simp] theorem State.net_netEvent (s : State) (p : Nat) (f : Fld) :
    (s.netEvent p f).net p = { s.net p with fwEvents := withBit (s.net p).fwEvents f.lo } := by
  rw [State.netEvent_eq, State.net_event, State.net_setNet]

@[simp] theorem State.netEvent_sent (s : State) (p : Nat) (f : Fld) : (s.netEvent p f).sent = s.sent := by
  rw [State.netEvent_eq, State.event_sent, State.setNet_sent]

theorem State.flag_netEvent (s : State) (p : Nat) {f : Fld} (hf : f.ok = true) : (s.netEvent p f).flag f = true :=
  State.flag_event _ _ hf

theorem State.netEvent_parts (s : State) (p : Nat) (f : Fld) : OnlyParts [.regs, netPart p] s (s.netEvent p f) :=
  ((s.setNet_parts p _).mono (by simp)).trans ((State.setFld_parts _ f 1).mono (by simp))

theorem State.netEvent_flds (s : State) (p : Nat) {f : Fld} (hf : f.ok = true) : OnlyFlds [f] s (s.netEvent p f) :=
  (s.setNet_flds p _ _).event f hf (by simp)

theorem State.fld_netEvent_apart (s : State) (p : Nat) {f g : Fld} (hf : f.ok = true) (hg : g.ok = true) (h : f.addr ≠ g.addr) :
    (s.netEvent p f).fld g = s.fld g :=
  s.netEvent_flds p hf g hg fun _ hm => List.mem_singleton.mp hm ▸ Fld.apart_of_addr h

end Sys2Proof.Machine
end

section
/-! SUPPORT. Reception (R120, R123, R124, R130): a frame that fails a check, and one that goes to its receiver. -/

namespace Sys2Proof.Machine

/-- R118, R123: a frame at a sub-port whose link is up is received. -/
theorem exec_ethFrameRx {s : State} {p : Nat} {e : EthFrame} (hon : s.netOn p = true) (hsub : s.subPortOk p e.sub = true)
    (hlink : s.bit (F.NET_STAT_LINK p) e.sub = true) : exec (.ethFrameRx p e) s = .next (s.frameRx p e) := by
  show execEthFrameRx p e s = _
  rw [execEthFrameRx, hon, hsub, hlink, Bool.and_self, Bool.and_self, if_pos rfl]

/-- R123: the first check that a frame fails decides. -/
theorem State.frameRx_fails {s : State} {p : Nat} {e : EthFrame} {f : Fld} (hc : e.corrected = false) (hf : s.netCheck p e = some f) :
    s.frameRx p e = s.netEvent p f := by
  simp only [State.frameRx, hc, Bool.false_eq_true, if_false, hf]

/-- R124: a frame that fails no check goes on by its content. -/
theorem State.frameRx_passes {s : State} {p : Nat} {e : EthFrame} (hc : e.corrected = false) (hf : s.netCheck p e = none) :
    s.frameRx p e = s.dispatchFrame p e := by
  simp only [State.frameRx, hc, Bool.false_eq_true, if_false, hf]

theorem State.netCheck_ok {s : State} {p : Nat} {e : EthFrame} {f : Fld} (h : s.netCheck p e = some f) : f.ok = true := by
  unfold State.netCheck at h
  generalize (if s.flag (F.NET_CTL_VLAN_EN p) = true then some (s.fld (F.NET_VLAN_VID p)) else none) = vid at h
  repeat' split at h
  all_goals cases h
  all_goals rfl

/-- R132: a frame that fails a check sets the event of that check in both copies. -/
theorem execEthFrameRx_fails {s : State} {p : Nat} {e : EthFrame} {f : Fld} (hon : s.netOn p = true)
    (hsub : s.subPortOk p e.sub = true) (hlink : s.bit (F.NET_STAT_LINK p) e.sub = true) (hc : e.corrected = false)
    (hf : s.netCheck p e = some f) :
    ∃ t, exec (.ethFrameRx p e) s = .next t ∧ t.flag f = true ∧ (t.net p).fwEvents / 2 ^ f.lo % 2 = 1 ∧
      OnlyParts [.regs, netPart p] s t ∧ OnlyFlds [f] s t := by
  have hok := State.netCheck_ok hf
  refine ⟨s.netEvent p f, ?_, s.flag_netEvent p hok, ?_, s.netEvent_parts p f, s.netEvent_flds p hok⟩
  · rw [exec_ethFrameRx hon hsub hlink, State.frameRx_fails hc hf]
  · rw [State.net_netEvent]
    exact withBit_bit _ _

/-- R124: a frame for the heartbeat receiver or for a flow is handed over, and changes nothing else. -/
theorem execEthFrameRx_hands {s : State} {p : Nat} {e : EthFrame} (hon : s.netOn p = true) (hsub : s.subPortOk p e.sub = true)
    (hlink : s.bit (F.NET_STAT_LINK p) e.sub = true) (hc : e.corrected = false) (hf : s.netCheck p e = none)
    (hd : s.netDest p e = .heartbeat ∨ ∃ i, s.netDest p e = .flow i) :
    ∃ t, exec (.ethFrameRx p e) s = .next t ∧ t.sent = s.sent ++ [.toReceiver p e.content] ∧ OnlyParts [.sent] s t := by
  refine ⟨s.send (.toReceiver p e.content), ?_, rfl, s.send_parts _⟩
  rw [exec_ethFrameRx hon hsub hlink, State.frameRx_passes hc hf]
  rcases hd with hd | ⟨i, hd⟩ <;> simp only [State.dispatchFrame, hd]

/-- R131: a stamp that finds room enters the queue. -/
theorem State.addStamp_room {s : State} {p : Nat} (x : Stamp) (h : (s.net p).stamps.length < 64) :
    s.addStamp p x = (s.setNet p { s.net p with stamps := (s.net p).stamps ++ [x] }).setFld (F.NET_TS_STAT_LEVEL p)
      ((s.net p).stamps.length + 1) := if_pos h

/-- R130, R131: a PTP event message is handed over, and its stamp enters the queue. -/
theorem execEthFrameRx_stamps {s : State} {p : Nat} {e : EthFrame} {srcIp dstIp srcPort dstPort : Nat} {bs : List Byte}
    (hon : s.netOn p = true) (hsub : s.subPortOk p e.sub = true) (hlink : s.bit (F.NET_STAT_LINK p) e.sub = true)
    (hc : e.corrected = false) (hf : s.netCheck p e = none) (hu : e.content = .udp srcIp dstIp srcPort dstPort bs)
    (hd : s.netDest p e = .ptpEvent) (hroom : (s.net p).stamps.length < 64) :
    ∃ t, exec (.ethFrameRx p e) s = .next t ∧ t.sent = s.sent ++ [.toReceiver p e.content] ∧
      OnlyParts [.regs, .sent, netPart p] s t ∧
      (t.net p).stamps = (s.net p).stamps ++
        [⟨false, stampTime s.wall (signed 16 (s.fld (F.NET_TS_ADJ_RX_ADJ p))), (ptpId bs).1, (ptpId bs).2.1, (ptpId bs).2.2⟩] ∧
      OnlyFlds [F.NET_TS_STAT_LEVEL p] s t := by
  have hexec : exec (.ethFrameRx p e) s = .next ((s.stampRx p e).send (.toReceiver p e.content)) := by
    rw [exec_ethFrameRx hon hsub hlink, State.frameRx_passes hc hf]
    simp only [State.dispatchFrame, hd]
  have hstamp : s.stampRx p e = s.addStamp p
      ⟨false, stampTime s.wall (signed 16 (s.fld (F.NET_TS_ADJ_RX_ADJ p))), (ptpId bs).1, (ptpId bs).2.1, (ptpId bs).2.2⟩ := by
    simp only [State.stampRx, hu]
  rw [hstamp, State.addStamp_room _ hroom] at hexec
  refine ⟨_, hexec, ?_, ?_, ?_, ?_⟩
  · simp [State.send]
  · exact (((s.setNet_parts p _).mono (by simp)).trans ((State.setFld_parts _ _ _).mono (by simp))).trans
      ((State.send_parts _ _).mono (by simp))
  · simp
  · exact ((s.setNet_flds p _ _).setFld _ _ rfl (by simp)).trans (.of_regs rfl)

end Sys2Proof.Machine
end

section
/-! SUPPORT. Transmission (R127 to R129): segmented sends, frames that start, and a store that runs empty. -/

namespace Sys2Proof.Machine

theorem exec_segmentedSend {s : State} {p : Nat} (x : SegSend) (hon : s.netOn p = true) :
    exec (.segmentedSend p x) s = .next (s.segmentedSend p x) := by
  show execSegmentedSend p x s = _
  rw [execSegmentedSend, hon, if_pos rfl]

/-- R128: a segmented send that the port rejects sets TSO_ERR. -/
theorem execSegmentedSend_rejects {s : State} {p : Nat} {x : SegSend} (hon : s.netOn p = true) (hx : sendFails x = true) :
    ∃ t, exec (.segmentedSend p x) s = .next t ∧ t.flag (F.NET_EVT_TSO_ERR p) = true ∧ OnlyParts [.regs, netPart p] s t ∧
      OnlyFlds [F.NET_EVT_TSO_ERR p] s t := by
  refine ⟨s.netEvent p (F.NET_EVT_TSO_ERR p), ?_, s.flag_netEvent p rfl, s.netEvent_parts p _, s.netEvent_flds p rfl⟩
  rw [exec_segmentedSend x hon, State.segmentedSend, if_pos hx]

/-- R127, R128: a segmented send at a port whose link is up enters the send queue as its frames. -/
theorem execSegmentedSend_queues {s : State} {p : Nat} {x : SegSend} (hon : s.netOn p = true) (hx : sendFails x = false)
    (hlink : s.bit (F.NET_STAT_LINK p) 0 = true) :
    ∃ t, exec (.segmentedSend p x) s = .next t ∧ OnlyParts [netPart p] s t ∧ (t.net p).sendQ = (s.net p).sendQ ++
      (pieces x.size (x.payload.length / x.size + 1) x.payload).mapIdx (fun k seg => ⟨segmentFrame x k seg⟩) := by
  have hexec := exec_segmentedSend x hon
  rw [State.segmentedSend, if_neg (by rw [hx]; exact Bool.false_ne_true), State.queueFrames, if_pos hlink] at hexec
  exact ⟨_, hexec, s.setNet_parts p _, by rw [State.net_setNet]⟩

/-- R127: with no monitoring packet queued, the first of the send queue is next. -/
theorem nextFrame_sendQ {x : NetPort} {f : TxFrame} {q : List TxFrame} (hq : x.sendQ = f :: q) (hm : x.monQ = []) :
    nextFrame x = some (f, { x with sendQ := q, monLast := false }) := by
  simp only [nextFrame, hq, hm]

/-- R129: TX_FRAME_START of the first frame of the send queue, by what is stored of it. -/
theorem exec_txFrameStart {s : State} {p : Nat} {f : TxFrame} {q : List TxFrame} (stored : Nat) (hon : s.netOn p = true)
    (hlink : s.bit (F.NET_STAT_LINK p) 0 = true) (hq : (s.net p).sendQ = f :: q) (hm : (s.net p).monQ = []) :
    exec (.txFrameStart p stored) s = .next
      (if stored < f.bytes.length + 4 ∧ stored < s.fld (F.NET_STAT_CUR_THRESH p) * 512 then s
      else (s.setNet p { s.net p with
        sendQ := q, monLast := false, leaving := some (f, min stored (f.bytes.length + 4)) }).send (.frame p f true)) := by
  show execTxFrameStart p stored s = _
  rw [execTxFrameStart, hon, hlink, Bool.and_self, if_pos rfl, State.startFrame, nextFrame_sendQ hq hm]

/-- R129: a frame that is wholly stored, or as far as the threshold asks, leaves. -/
theorem execTxFrameStart_leaves {s : State} {p stored : Nat} {f : TxFrame} {q : List TxFrame} (hon : s.netOn p = true)
    (hlink : s.bit (F.NET_STAT_LINK p) 0 = true) (hq : (s.net p).sendQ = f :: q) (hm : (s.net p).monQ = [])
    (hs : f.bytes.length + 4 ≤ stored ∨ s.fld (F.NET_STAT_CUR_THRESH p) * 512 ≤ stored) :
    ∃ t, exec (.txFrameStart p stored) s = .next t ∧ t.sent = s.sent ++ [.frame p f true] ∧ (t.net p).sendQ = q ∧
      (t.net p).leaving = some (f, min stored (f.bytes.length + 4)) ∧ OnlyParts [.sent, netPart p] s t := by
  have hexec := exec_txFrameStart stored hon hlink hq hm
  rw [if_neg (by omega)] at hexec
  refine ⟨_, hexec, ?_, ?_, ?_, ((s.setNet_parts p _).mono (by simp)).trans ((State.send_parts _ _).mono (by simp))⟩
  · simp [State.send]
  · simp
  · simp

/-- R129: a store that runs empty ends the frame that is leaving, and raises the threshold. -/
theorem execTxUnderrun_ends {s : State} {p stored : Nat} {f : TxFrame} (hon : s.netOn p = true)
    (hl : (s.net p).leaving = some (f, stored)) (hs : stored ≠ f.bytes.length + 4) :
    ∃ t, exec (.txUnderrun p) s = .next t ∧ t.sent = s.sent ++ [.frame p f false] ∧ t.flag (F.NET_EVT_TX_UNDERRUN p) = true ∧
      (t.net p).leaving = none ∧ t.fld (F.NET_STAT_CUR_THRESH p) = min 19 (s.fld (F.NET_STAT_CUR_THRESH p) + 1) ∧
      OnlyParts [.regs, .sent, netPart p] s t ∧ OnlyFlds [F.NET_EVT_TX_UNDERRUN p, F.NET_STAT_CUR_THRESH p] s t := by
  let u := (s.setNet p { s.net p with leaving := none }).send (.frame p f false)
  have hthresh : u.fld (F.NET_STAT_CUR_THRESH p) = s.fld (F.NET_STAT_CUR_THRESH p) := s.fld_setNet p _ _
  have hexec : exec (.txUnderrun p) s = .next ((u.netEvent p (F.NET_EVT_TX_UNDERRUN p)).setFld (F.NET_STAT_CUR_THRESH p)
      (min 19 (s.fld (F.NET_STAT_CUR_THRESH p) + 1))) := by
    show execTxUnderrun p s = _
    rw [execTxUnderrun, hon, if_pos rfl, State.underrun, hl]
    dsimp only
    rw [if_neg hs, ← hthresh]
  have hu : OnlyParts [.regs, .sent, netPart p] s u :=
    ((s.setNet_parts p _).mono (by simp)).trans ((State.send_parts _ _).mono (by simp))
  refine ⟨_, hexec, ?_, ?_, ?_, ?_, ?_, ?_⟩
  · simp [u, State.send]
  · rw [State.flag, State.fld_setFld_apart _ _ _ _ rfl rfl (Fld.apart_of_addr (by dsimp only; omega))]
    exact u.flag_netEvent p rfl
  · simp [u]
  · exact (State.fld_setFld_same _ _ _ rfl).trans (Nat.mod_eq_of_lt (lt_of_le_of_lt (Nat.min_le_left _ _) (by decide : 19 < 2 ^ 5)))
  · exact (hu.trans ((u.netEvent_parts p _).mono (by simp))).trans ((State.setFld_parts _ _ _).mono (by simp))
  · refine OnlyFlds.setFld _ _ rfl (by simp) (OnlyFlds.trans ?_ ((u.netEvent_flds p rfl).mono (by simp)))
    exact (s.setNet_flds p _ _).trans (.of_regs rfl)

end Sys2Proof.Machine
end

section
/-! SUPPORT. Links and firmware's service (R133, R138, R141). -/

namespace Sys2Proof.Machine

/-- R119, R138: the state of a sub-port as its link comes up or goes: LINK, FEC_LOCK and the event. -/
def State.linkChanged (s : State) (p q : Nat) (up fec : Bool) (f : Fld) : State :=
  ((s.setBit (F.NET_STAT_LINK p) q up).setBit (F.NET_STAT_FEC_LOCK p) q fec).netEvent p f

section
variable (s : State) (p : Nat) {q : Nat} (up fec : Bool) {f : Fld}

theorem State.linkChanged_parts : OnlyParts [.regs, netPart p] s (s.linkChanged p q up fec f) :=
  (((s.setBit_parts _ _ _).mono (by simp)).trans ((State.setBit_parts _ _ _ _).mono (by simp))).trans (State.netEvent_parts _ p f)

theorem State.linkChanged_flds (hf : f.ok = true) :
    OnlyFlds [F.NET_STAT_LINK p, F.NET_STAT_FEC_LOCK p, f] s (s.linkChanged p q up fec f) :=
  (((OnlyFlds.refl _ s).setBit _ _ _ rfl (by simp)).setBit _ _ _ rfl (by simp)).trans ((State.netEvent_flds _ p hf).mono (by simp))

theorem State.linkChanged_link (hq : q < 4) (hf : f.ok = true) (ha : f.addr = 0x110008 + 0x10000 * p) :
    (s.linkChanged p q up fec f).bit (F.NET_STAT_LINK p) q = up := by
  have hevent := State.fld_netEvent_apart ((s.setBit (F.NET_STAT_LINK p) q up).setBit (F.NET_STAT_FEC_LOCK p) q fec) p hf
    (g := F.NET_STAT_LINK p) rfl (by dsimp only; omega)
  have hfec : ((s.setBit (F.NET_STAT_LINK p) q up).setBit (F.NET_STAT_FEC_LOCK p) q fec).fld (F.NET_STAT_LINK p) =
      (s.setBit (F.NET_STAT_LINK p) q up).fld (F.NET_STAT_LINK p) :=
    State.fld_setFld_apart _ _ _ _ rfl rfl (by simp [Fld.apart])
  rw [State.linkChanged, State.bit_of_fld (hevent.trans hfec)]
  cases up
  · exact s.bit_setBit_same_false q rfl
  · exact s.bit_setBit_same_true rfl hq

end

/-- R138: a sub-port whose link comes up. -/
theorem execLinkUp_sets {s : State} {p q : Nat} (hon : s.netOn p = true) (hq : q < 4) (hsub : s.subPortOk p q = true) :
    ∃ t, exec (.linkUp p q) s = .next t ∧ t.bit (F.NET_STAT_LINK p) q = true ∧ t.flag (F.NET_EVT_LINK_UP p) = true ∧
      OnlyParts [.regs, netPart p] s t ∧ OnlyFlds [F.NET_STAT_LINK p, F.NET_STAT_FEC_LOCK p, F.NET_EVT_LINK_UP p] s t := by
  refine ⟨s.linkChanged p q true (!s.flag (F.NET_CTL_MODE p) || s.fld (F.NET_CTL_FEC25 p) / 2 ^ q % 2 == 1) (F.NET_EVT_LINK_UP p),
    ?_, s.linkChanged_link p true _ hq rfl rfl, State.flag_netEvent _ p rfl, s.linkChanged_parts p true _,
    s.linkChanged_flds p true _ rfl⟩
  show execLinkUp p q s = _
  rw [execLinkUp, hon, hsub, Bool.and_self, if_pos rfl]
  rfl

/-- R141: what is leaving on sub-port 0 is abandoned with its link, and what is queued for it is discarded. -/
def State.queuesCleared (s : State) (p q : Nat) : State :=
  if q = 0 then s.setNet p { s.net p with leaving := none, sendQ := [], monQ := [] } else s

theorem State.queuesCleared_parts (s : State) (p q : Nat) : OnlyParts [netPart p] s (s.queuesCleared p q) := by
  unfold State.queuesCleared
  split
  · exact s.setNet_parts p _
  · exact .refl _ s

@[simp] theorem State.queuesCleared_regs (s : State) (p q : Nat) : (s.queuesCleared p q).regs = s.regs := by
  unfold State.queuesCleared
  split
  · exact s.setNet_regs p _
  · rfl

/-- R138, R141: a sub-port that loses its link. -/
theorem execLinkDown_sets {s : State} {p q : Nat} (hon : s.netOn p = true) (hq : q < 4) (hsub : s.subPortOk p q = true) :
    ∃ t, exec (.linkDown p q) s = .next t ∧ t.bit (F.NET_STAT_LINK p) q = false ∧ t.flag (F.NET_EVT_LINK_DOWN p) = true ∧
      (q = 0 → (t.net p).sendQ = [] ∧ (t.net p).monQ = [] ∧ (t.net p).leaving = none) ∧
      OnlyParts [.regs, netPart p] s t ∧ OnlyFlds [F.NET_STAT_LINK p, F.NET_STAT_FEC_LOCK p, F.NET_EVT_LINK_DOWN p] s t := by
  let u := s.linkChanged p q false false (F.NET_EVT_LINK_DOWN p)
  have hexec : exec (.linkDown p q) s = .next (u.queuesCleared p q) := by
    show execLinkDown p q s = _
    rw [execLinkDown, hon, hsub, Bool.and_self, if_pos rfl]
    rfl
  have hfld : ∀ g, (u.queuesCleared p q).fld g = u.fld g := fun g => by simp only [State.fld, State.reg, State.queuesCleared_regs]
  refine ⟨_, hexec, ?_, ?_, fun h0 => ?_, ?_, ?_⟩
  · exact (State.bit_of_fld (hfld _) q).trans (s.linkChanged_link p false false hq rfl rfl)
  · rw [State.flag, hfld]
    exact State.flag_netEvent _ p rfl
  · simp [State.queuesCleared, h0]
  · exact (s.linkChanged_parts p false false).trans ((u.queuesCleared_parts p q).mono (by simp))
  · exact (s.linkChanged_flds p false false rfl).trans (.of_regs (u.queuesCleared_regs p q))

/-- R133: firmware's service counts each event of its copy, and clears the copy. -/
theorem execFwEventService_counts {s : State} {p : Nat} (hon : s.netOn p = true) :
    ∃ t, exec (.fwEventService p) s = .next t ∧ (t.net p).fwEvents = 0 ∧ OnlyParts [netPart p] s t ∧
      ∀ i, i < 16 → (t.net p).counters.getD i 0 = (if (s.net p).fwEvents / 2 ^ i % 2 = 1
        then min ((s.net p).counters.getD i 0 + 1) 0xFFFFFFFF else (s.net p).counters.getD i 0) := by
  have hexec : exec (.fwEventService p) s = .next (s.serviceEvents p) := by
    show execFwEventService p s = _
    rw [execFwEventService, hon, if_pos rfl]
  refine ⟨_, hexec, ?_, s.setNet_parts p _, fun i hi => ?_⟩
  · simp [State.serviceEvents]
  · simp [State.serviceEvents, List.getD, hi]

end Sys2Proof.Machine
end

section
/-! SUPPORT. Monitoring flows (R134, R459, R460): what a read of external memory leaves of the registers, and the packet queued. -/

namespace Sys2Proof.Machine

/-! Reading external memory changes registers of the link and of the memory controller alone -/

theorem foldl_fst_reg {a : Nat} {α β : Type} {step : State × β → α → State × β} (h : ∀ x i, (step x i).1.reg a = x.1.reg a) (l : List α)
    (x : State × β) : (l.foldl step x).1.reg a = x.1.reg a := by
  induction l generalizing x with
  | nil => rfl
  | cons i l ih => exact (ih _).trans (h x i)

section
variable {a : Nat} (ha : a < 0x200000)
include ha

theorem State.correctedError_reg (s : State) (b : Nat) : (s.correctedError b).reg a = s.reg a := by
  have hcount : (s.eventCount F.DRC_EVT_CE F.DRC_ECC_CNT_CE_COUNT).reg a = s.reg a :=
    s.reg_eventCount_ne (by dsimp only; omega) (by dsimp only; omega)
  unfold State.correctedError
  dsimp only
  split
  · exact hcount
  · exact hcount

theorem State.logged_reg (n : Nat) (ws l : List Nat) (s : State) :
    (l.foldl (fun t i => t.setReg (0x301000 + 0x10 * n + 4 * i) (BitVec.ofNat 32 (ws.getD i 0))) s).reg a = s.reg a := by
  induction l generalizing s with
  | nil => rfl
  | cons i l ih => exact (ih _).trans (s.reg_setReg_ne _ (by omega))

theorem State.uncorrectable_reg (s : State) (requester b words : Nat) : (s.uncorrectable requester b words).reg a = s.reg a := by
  have hcount : (s.eventCount F.DRC_EVT_UE F.DRC_ECC_CNT_UE_COUNT).reg a = s.reg a :=
    s.reg_eventCount_ne (by dsimp only; omega) (by dsimp only; omega)
  unfold State.uncorrectable
  dsimp only
  rw [State.fault_reg _ _ _ (by dsimp only; omega)]
  generalize s.eventCount F.DRC_EVT_UE F.DRC_ECC_CNT_UE_COUNT = u at hcount ⊢
  split
  · rw [State.reg_setFld_ne _ _ (by dsimp only; omega), State.logged_reg ha, hcount]
  · rw [State.reg_eventCount_ne _ (by dsimp only; omega) (by dsimp only; omega), hcount]

theorem State.readBurst_reg (s : State) (requester b : Nat) : (s.readBurst requester b).1.reg a = s.reg a := by
  unfold State.readBurst
  split
  · exact s.uncorrectable_reg ha _ _ _
  split
  · dsimp only
    split
    · rfl
    · exact State.correctedError_reg ha _ _
    · exact State.uncorrectable_reg ha _ _ _ _
  · rfl

theorem State.readTap_reg (s : State) (t x y n : Nat) : (s.readTap t x y n).1.reg a = s.reg a := by
  unfold State.readTap
  dsimp only
  refine foldl_fst_reg (fun r q => ?_) _ (s, [])
  have hread := r.1.readBurst_reg ha 2 q.1
  split
  · next heq => rw [heq] at hread; exact hread
  · next heq => rw [heq] at hread; exact hread

end

theorem State.readTap_net (s : State) (t x y n p : Nat) : (s.readTap t x y n).1.net p = s.net p := by
  have hparts := (State.readTap_evolves s t x y n (List.Subset.refl _) (.refl _ s)).parts
  exact State.net_congr (hparts .net0 (by simp)) (hparts .net1 (by simp)) p

/-! The packet queued (R134) -/

/-- R134: with the link up, a packet joins the monitoring queue of its port, which is otherwise as it was, and is counted. -/
theorem State.monitorPacket_queues {s : State} {p : Nat} (f line px ts : Nat) (hp : p < 2) (hlink : s.bit (F.NET_STAT_LINK p) 0 = true) :
    ∃ (u : State) (frame : TxFrame), s.monitorPacket p f line px ts =
        (u.setNet p { u.net p with monQ := (u.net p).monQ ++ [frame] }).wrapInc (F.NET_MON_CNT_PKT_COUNT p f) ∧
      u.net p = s.net p ∧ ∀ a, a < 0x200000 → u.reg a = s.reg a := by
  unfold State.monitorPacket
  extract_lets t raster rgb per n endLine last next
  split
  next s1 bs heq =>
  have hreg : ∀ a, a < 0x200000 → s1.reg a = s.reg a := by
    rw [show s1 = (s.readTap t px line n).1 by rw [heq]]
    exact fun a ha => s.readTap_reg ha t px line n
  have hnet : s1.net p = s.net p := by
    rw [show s1 = (s.readTap t px line n).1 by rw [heq]]
    exact s.readTap_net t px line n p
  extract_lets words tap s2 frame s3 port
  have hlink3 : s3.bit (F.NET_STAT_LINK p) 0 = true := by
    rw [← hlink]
    exact State.bit_of_fld (congrArg (Fld.of _) (hreg _ (by dsimp only; omega))) 0
  rw [if_pos hlink3]
  exact ⟨s3, frame, rfl, hnet, hreg⟩

/-- R134: MONITOR_PACKET of a flow that runs. -/
theorem execMonitorPacket_queues {s : State} {p f : Nat} {k : Nat × Nat × Nat} (hon : s.netOn p = true) (hp : p < 2) (hf : f < 2)
    (hen : s.flag (F.NET_MON_CTL_EN p f) = true) (htap : s.flag (F.CMP_MON_CTL_EN (2 + 2 * p + f)) = true)
    (hk : (s.tap (2 + 2 * p + f)).packet = some k) (hlink : s.bit (F.NET_STAT_LINK p) 0 = true) :
    ∃ t, exec (.monitorPacket p f) s = .next t ∧ (t.net p).monQ.length = (s.net p).monQ.length + 1 ∧
      (t.net p).sendQ = (s.net p).sendQ ∧
      t.fld (F.NET_MON_CNT_PKT_COUNT p f) = (s.fld (F.NET_MON_CNT_PKT_COUNT p f) + 1) % 2 ^ 32 := by
  obtain ⟨u, frame, heq, hnet, hreg⟩ := State.monitorPacket_queues f k.1 k.2.1 k.2.2 hp hlink
  have hexec : exec (.monitorPacket p f) s = .next (s.monitorPacket p f k.1 k.2.1 k.2.2) := by
    show execMonitorPacket p f s = _
    simp only [execMonitorPacket, hon, hf, hen, htap, hk, decide_true, Bool.and_self, if_true]
  have hcount : u.fld (F.NET_MON_CNT_PKT_COUNT p f) = s.fld (F.NET_MON_CNT_PKT_COUNT p f) :=
    congrArg (Fld.of _) (hreg _ (by dsimp only; omega))
  rw [heq] at hexec
  refine ⟨_, hexec, ?_, ?_, ?_⟩
  · simp [State.wrapInc, hnet]
  · simp [State.wrapInc, hnet]
  · rw [State.fld_wrapInc_same _ _ rfl, State.fld_setNet, hcount]
    rfl

end Sys2Proof.Machine
end

section
/-! CERTIFICATES. The network ports (O40). -/

namespace Sys2Proof.Machine

/-- Settles O40: each command of a port that runs does one operation on the port's record, its words and what the device sends. -/
theorem networkPorts : Obligations.NetworkPorts := by
  unfold Obligations.NetworkPorts
  intro s p hp hon
  refine ⟨fun e f hsub hlink hc hf => execEthFrameRx_fails hon hsub hlink hc hf, fun e hsub hlink hc hf => ⟨?_, ?_⟩,
    fun x hx => execSegmentedSend_rejects hon hx, fun x hx hlink => execSegmentedSend_queues hon hx hlink,
    fun f q stored hlink hq hm => ⟨?_, ?_⟩, fun f stored hl hs => execTxUnderrun_ends hon hl hs,
    fun q hq hsub => ⟨execLinkUp_sets hon hq hsub, execLinkDown_sets hon hq hsub⟩, execFwEventService_counts hon,
    fun f k hf hen htap hk hlink => execMonitorPacket_queues hon hp hf hen htap hk hlink⟩
  · exact execEthFrameRx_hands hon hsub hlink hc hf
  · exact fun _ _ _ _ _ hu hd hroom => execEthFrameRx_stamps hon hsub hlink hc hf hu hd hroom
  · exact execTxFrameStart_leaves hon hlink hq hm
  · exact fun h1 h2 => (exec_txFrameStart stored hon hlink hq hm).trans (by rw [if_pos ⟨h1, h2⟩])

end Sys2Proof.Machine
end

section
/-! SUPPORT. Writes that ask a unit to act (R137, R392, R462): what each of them sets. -/

namespace Sys2Proof.Machine

/-! Registers back at their reset words -/

theorem Sparse.find_eraseRange {α : Type} (m : List (Nat × α)) (lo hi k : Nat) :
    Sparse.find (Sparse.eraseRange m lo hi) k = if lo ≤ k ∧ k < hi then none else Sparse.find m k := by
  unfold Sparse.eraseRange
  induction m with
  | nil => simp [Sparse.find]
  | cons x m ih =>
    obtain ⟨a, v⟩ := x
    by_cases hin : lo ≤ a ∧ a < hi
    · rw [List.filter_cons_of_neg (by simp [hin]), ih]
      split
      · rfl
      · rw [Sparse.find, if_neg (by rintro rfl; contradiction)]
    · rw [List.filter_cons_of_pos (by simpa [Nat.not_lt, imp_iff_not_or] using hin), Sparse.find, ih, Sparse.find]
      split
      · next heq => rw [if_neg (heq ▸ hin)]
      · rfl

theorem State.reg_clearRegs (s : State) (lo hi a : Nat) :
    (s.clearRegs lo hi).reg a = if lo ≤ a ∧ a < hi then regReset a else s.reg a := by
  rw [State.reg, State.clearRegs, Sparse.get, Sparse.find_eraseRange]
  split <;> rfl

/-! The capture of wall time (R392) -/

/-- R392: the capture of the wall time of the present cycle. -/
def State.captured (s : State) : State :=
  (((s.setFld F.PTP_CAP_SEC_HI_SEC (secOf s.wall / 2 ^ 32)).setFld F.PTP_CAP_SEC_LO_SEC (secOf s.wall)).setFld
    F.PTP_CAP_NS_NS (nsOf s.wall)).setFld F.PTP_CAP_FRAC_FRAC (fracOf s.wall)

/-- The fields of a capture. -/
def captureFlds : List Fld := [F.PTP_CAP_SEC_HI_SEC, F.PTP_CAP_SEC_LO_SEC, F.PTP_CAP_NS_NS, F.PTP_CAP_FRAC_FRAC]

theorem State.captured_flds (s : State) : OnlyFlds captureFlds s s.captured :=
  ((((OnlyFlds.refl _ s).setFld _ _ rfl (by simp [captureFlds])).setFld _ _ rfl (by simp [captureFlds])).setFld _ _ rfl
    (by simp [captureFlds])).setFld _ _ rfl (by simp [captureFlds])

theorem State.captured_secHi (s : State) : s.captured.fld F.PTP_CAP_SEC_HI_SEC = secOf s.wall / 2 ^ 32 % 2 ^ 32 := by
  rw [State.captured, State.fld_setFld_apart _ _ _ _ rfl rfl rfl, State.fld_setFld_apart _ _ _ _ rfl rfl rfl,
    State.fld_setFld_apart _ _ _ _ rfl rfl rfl, State.fld_setFld_same _ _ _ rfl]
  rfl

theorem State.captured_secLo (s : State) : s.captured.fld F.PTP_CAP_SEC_LO_SEC = secOf s.wall % 2 ^ 32 := by
  rw [State.captured, State.fld_setFld_apart _ _ _ _ rfl rfl rfl, State.fld_setFld_apart _ _ _ _ rfl rfl rfl,
    State.fld_setFld_same _ _ _ rfl]
  rfl

theorem State.captured_ns (s : State) : s.captured.fld F.PTP_CAP_NS_NS = nsOf s.wall := by
  rw [State.captured, State.fld_setFld_apart _ _ _ _ rfl rfl rfl, State.fld_setFld_same _ _ _ rfl]
  exact Nat.mod_eq_of_lt (lt_trans (Nat.mod_lt _ (by decide) : nsOf s.wall < 10 ^ 9) (by decide))

theorem State.captured_frac (s : State) : s.captured.fld F.PTP_CAP_FRAC_FRAC = fracOf s.wall := by
  rw [State.captured, State.fld_setFld_same _ _ _ rfl]
  exact Nat.mod_mod _ _

/-- R392: PTP_CAPTURE. -/
theorem execPtpCapture_captures (s : State) :
    ∃ t, exec .ptpCapture s = .next t ∧ OnlyParts [.regs, .cycles, .wall] s t ∧
      OnlyFlds [F.PTP_CAP_SEC_HI_SEC, F.PTP_CAP_SEC_LO_SEC, F.PTP_CAP_NS_NS, F.PTP_CAP_FRAC_FRAC] s t ∧
      t.cycles = s.cycles + 4 ∧ t.wall = s.wall + 4 * s.tickStep ∧ t.fld F.PTP_CAP_SEC_LO_SEC = secOf t.wall % 2 ^ 32 ∧
      t.fld F.PTP_CAP_SEC_HI_SEC = secOf t.wall / 2 ^ 32 % 2 ^ 32 ∧ t.fld F.PTP_CAP_NS_NS = nsOf t.wall ∧
      t.fld F.PTP_CAP_FRAC_FRAC = fracOf t.wall :=
  ⟨(s.ticks 4).captured, rfl, (State.capture_evolves s (List.Subset.refl _) (.refl _ s)).parts,
    OnlyFlds.trans (.of_regs rfl) (s.ticks 4).captured_flds, rfl, rfl, State.captured_secLo _, State.captured_secHi _,
    State.captured_ns _, State.captured_frac _⟩

/-! The log of uncorrectable errors (R462) -/

/-- R462: UE_LOG_CLEAR. -/
theorem execUeLogClear_empties (s : State) :
    ∃ t, exec .ueLogClear s = .next t ∧ OnlyParts [.regs] s t ∧ t.fld F.DRC_UE_LOG_STAT_LEVEL = 0 ∧
      (∀ a, 0x301000 ≤ a → a < 0x301400 → t.reg a = regReset a) ∧
      ∀ a, a < 0x301000 ∨ 0x301400 ≤ a → a ≠ F.DRC_UE_LOG_STAT_LEVEL.addr → t.reg a = s.reg a := by
  refine ⟨s.clearUeLog, rfl, (State.clearUeLog_evolves s (List.Subset.refl _) (.refl _ s)).parts,
    State.fld_setFld_same _ _ _ rfl, fun a hlo hhi => ?_, fun a ha hne => ?_⟩
  · rw [State.clearUeLog, State.reg_setFld_ne _ _ (by dsimp only; omega), State.reg_clearRegs, if_pos ⟨hlo, hhi⟩]
  · rw [State.clearUeLog, State.reg_setFld_ne _ _ hne, State.reg_clearRegs, if_neg (by omega)]

/-! TX_START (R129, R137) -/

theorem clampStart_lt (v : Nat) : clampStart v < 2 ^ 5 := by
  unfold clampStart
  split
  · decide
  · split <;> omega

/-- R137: a write of TX_START. -/
theorem execTxStartWrite_loads {s : State} {p v : Nat} (hs : s.senderRole = true) (hp : p < 2) (hv : v < 32) :
    ∃ t, exec (.txStartWrite p v) s = .next t ∧ OnlyParts [.regs] s t ∧
      OnlyFlds [F.NET_CTL_TX_START p, F.NET_STAT_CUR_THRESH p] s t ∧
      t.fld (F.NET_CTL_TX_START p) = clampStart v ∧ t.fld (F.NET_STAT_CUR_THRESH p) = clampStart v := by
  have hexec : exec (.txStartWrite p v) s =
      .next ((s.setFld (F.NET_CTL_TX_START p) (clampStart v)).setFld (F.NET_STAT_CUR_THRESH p) (clampStart v)) := by
    show execTxStartWrite p v s = _
    rw [execTxStartWrite, if_pos ⟨hs, hp⟩, State.txStart, Nat.mod_eq_of_lt hv]
  have hclamp : clampStart v % 2 ^ 5 = clampStart v := Nat.mod_eq_of_lt (clampStart_lt v)
  refine ⟨_, hexec, ?_, ((OnlyFlds.refl _ s).setFld _ _ rfl (by simp)).setFld _ _ rfl (by simp), ?_, ?_⟩
  · exact (State.setFld_evolves _ _ _ (by simp) (State.setFld_evolves s _ _ (by simp) (.refl [.regs] s))).parts
  · rw [State.fld_setFld_apart _ _ _ _ rfl rfl (Fld.apart_of_addr (by dsimp only; omega))]
    exact (State.fld_setFld_same _ _ _ rfl).trans hclamp
  · exact (State.fld_setFld_same _ _ _ rfl).trans hclamp

end Sys2Proof.Machine
end

section
/-! SUPPORT. Block resets (R545, R546): what a reset of a block leaves, and a write of RST_BLK_REQ. -/

namespace Sys2Proof.Machine

/-! What a block's reset leaves -/

/-- R546: what software does not write goes back in the range alone. -/
theorem State.clearReadOnly_reg (s : State) {lo hi a : Nat} (h : a < lo ∨ hi ≤ a) : (s.clearReadOnly lo hi).reg a = s.reg a := by
  have hfold : ∀ (l : List (Nat × Word)) (t : State), (∀ x ∈ l, lo ≤ x.1 ∧ x.1 < hi) →
      (l.foldl (fun t x => t.setReg x.1 (mergeWritable x.1 (regReset x.1) x.2)) t).reg a = t.reg a := by
    intro l
    induction l with
    | nil => exact fun _ _ => rfl
    | cons x l ih =>
      intro t hl
      obtain ⟨hx, hl⟩ := List.forall_mem_cons.mp hl
      exact (ih _ hl).trans (t.reg_setReg_ne _ (by omega))
  exact hfold _ s fun x hx => by simpa using (List.mem_filter.mp hx).2

theorem State.keepFields_reg (old s : State) {fs : List Fld} {a : Nat} (h : ∀ f ∈ fs, a ≠ f.addr) :
    (State.keepFields old s fs).reg a = s.reg a := by
  unfold State.keepFields
  induction fs generalizing s with
  | nil => rfl
  | cons f fs ih =>
    obtain ⟨hf, hfs⟩ := List.forall_mem_cons.mp h
    exact (ih _ hfs).trans (s.reg_setFld_ne _ hf)

theorem State.loadMac_reg (s : State) (p : Nat) {a : Nat} (hlo : a ≠ 0x110010 + 0x10000 * p) (hhi : a ≠ 0x110014 + 0x10000 * p) :
    (s.loadMac p).reg a = s.reg a := (State.reg_setFld_ne _ _ hhi).trans (State.reg_setFld_ne _ _ hlo)

theorem State.memoryOptions_reg (s : State) (h : List Byte) {a : Nat} (hcfg : a ≠ 0x300000) (htop : a ≠ 0x300004) :
    (s.memoryOptions h).reg a = s.reg a := by
  unfold State.memoryOptions
  dsimp only
  rw [State.reg_setFld_ne _ _ htop, State.reg_setFld_ne _ _ hcfg, State.reg_setFld_ne _ _ hcfg, State.reg_setFld_ne _ _ hcfg,
    State.reg_setFld_ne _ _ hcfg]

/-- R545: no block that can be reset holds the registers of the reset controller. -/
theorem le_blockRange (b : Nat) : 0x80000 ≤ (blockRange b).1 := by
  unfold blockRange
  split <;> simp

/-- R546: block b as it goes into reset, before what the fuses and the boot header give is loaded again. -/
def State.blockCleared (s : State) (b : Nat) : State := (s.clearReadOnly (blockRange b).1 (blockRange b).2).clearBlock b

theorem State.blockCleared_reg (s : State) {b a : Nat} (h : a < (blockRange b).1 ∨ (blockRange b).2 ≤ a) :
    (s.blockCleared b).reg a = s.reg a := by
  have hregs := (State.clearBlock_evolves (s.clearReadOnly (blockRange b).1 (blockRange b).2) b (List.Subset.refl _) (.refl _ _)).parts
    .regs (by simp)
  rw [State.blockCleared, State.reg, show State.regs _ = _ from hregs]
  exact s.clearReadOnly_reg h

/-- R546: block b with what stands through its reset, or is loaded again. -/
def State.blockReloaded (s : State) (b : Nat) : State :=
  match b with
  | 2 => (s.blockCleared b).loadMac 0
  | 3 => (s.blockCleared b).loadMac 1
  | 4 => State.keepFields s (s.blockCleared b) [F.CMP_FLIP_BASE_LO_BASE, F.CMP_FLIP_BASE_HI_BASE]
  | 7 => (s.blockCleared b).memoryOptions (s.blockCleared b).hdrNow
  | _ => s.blockCleared b

theorem State.resetBlock_eq (s : State) (b : Nat) : s.resetBlock b =
    { s.blockReloaded b with rst := { (s.blockReloaded b).rst with
        blocks := (s.blockReloaded b).rst.blocks.filter (fun x => x.block != b) ++ [⟨b, (s.blockReloaded b).cycles⟩]
        restarts := ((s.blockReloaded b).rst.restarts + 1) % 65536 } } := rfl

theorem State.blockReloaded_reg (s : State) {b a : Nat} (h : a < (blockRange b).1 ∨ (blockRange b).2 ≤ a) :
    (s.blockReloaded b).reg a = s.reg a := by
  refine Eq.trans ?_ (s.blockCleared_reg h)
  unfold State.blockReloaded
  split
  · simp only [blockRange] at h
    exact State.loadMac_reg _ _ (by omega) (by omega)
  · simp only [blockRange] at h
    exact State.loadMac_reg _ _ (by omega) (by omega)
  · simp only [blockRange] at h
    refine State.keepFields_reg _ _ fun f hf => ?_
    rcases List.mem_pair.mp hf with rfl | rfl <;> dsimp only <;> omega
  · simp only [blockRange] at h
    exact State.memoryOptions_reg _ _ (by omega) (by omega)
  · rfl

theorem State.blockReloaded_parts (s : State) (b : Nat) :
    OnlyParts [.regs, .txn, .map, .dram, .chk, .net0, .net1, .video, .scan, .tile, .lamp, .diag] s (s.blockReloaded b) := by
  have hcleared : Evolves [.regs, .txn, .map, .dram, .chk, .net0, .net1, .video, .scan, .tile, .lamp, .diag] s (s.blockCleared b) :=
    State.clearBlock_evolves _ b (by simp) (State.clearReadOnly_evolves s _ _ (by simp) (.refl _ s))
  unfold State.blockReloaded
  split
  · exact (State.loadMac_evolves _ _ (by simp) hcleared).parts
  · exact (State.loadMac_evolves _ _ (by simp) hcleared).parts
  · exact (State.keepFields_evolves _ _ _ (by simp) hcleared).parts
  · exact (State.memoryOptions_evolves _ _ (by simp) hcleared).parts
  · exact hcleared.parts

/-- R545, R546: a block that goes into reset is held, its reset is counted, and the registers of other blocks stand. -/
theorem State.resetBlock_spec (s : State) (b : Nat) :
    (s.resetBlock b).rst.restarts = (s.rst.restarts + 1) % 65536 ∧
      (s.resetBlock b).rst.blocks = s.rst.blocks.filter (fun x => x.block != b) ++ [⟨b, s.cycles⟩] ∧
      ∀ a, a < (blockRange b).1 ∨ (blockRange b).2 ≤ a → (s.resetBlock b).reg a = s.reg a := by
  have hrst : (s.blockReloaded b).rst = s.rst := s.blockReloaded_parts b .rst (by simp)
  have hcycles : (s.blockReloaded b).cycles = s.cycles := s.blockReloaded_parts b .cycles (by simp)
  refine ⟨?_, ?_, fun a ha => s.blockReloaded_reg ha⟩
  · rw [State.resetBlock_eq, hrst]
  · rw [State.resetBlock_eq, hrst, hcycles]

/-! A write of RST_BLK_REQ (R545) -/

/-- The bits of RST_BLK_REQ: of type WO alone, in both roles. -/
theorem State.bitsOf_blockReq (s : State) (p : Access → Bool) : s.bitsOf p 0x10018 = if p .wo then 0xFF else 0 := by
  have ha : s.absentReg 0x10018 = false := by simp [State.absentReg]
  have hfind : findReg 0x10018 = some (⟨0x10018, [], none, [Row.wo 7 0 0]⟩, []) := by decide
  unfold State.bitsOf
  rw [ha, hfind]
  cases hp : p .wo <;> simp [RegDef.mask, Row.wo, hp]

theorem leavesRegion_blockReq (tile : Bool) (w : Word) : leavesRegion tile (wordChange (0x10018, w)) = false := by
  cases tile <;> rfl

theorem inWindow_blockReq (tile : Bool) (w : Word) : inWindow tile (wordChange (0x10018, w)) = false := by
  cases tile <;> rfl

theorem State.directFails_blockReq (s : State) (w : Word) : s.directFails (wordChange (0x10018, w)) = none := by
  unfold State.directFails
  rw [leavesRegion_blockReq]
  simp [wordChange]

/-- R12, R545: a write of RST_BLK_REQ asks for the blocks of its bits, and changes no register itself. -/
theorem State.writeWords_blockReq (s : State) (w : Word) : s.writeWords [(0x10018, w)] = s.writeOnly 0x10018 w := by
  have hrw : s.rwBits 0x10018 = 0 := by
    rw [State.rwBits, s.bitsOf_blockReq]
    exact BitVec.zero_and
  have hw1c : s.bitsOf (· == .w1c) 0x10018 = 0 := s.bitsOf_blockReq _
  have hwo : s.bitsOf (· == .wo) 0x10018 = 0xFF := s.bitsOf_blockReq _
  rw [s.writeWords_noRw _ _ hrw]
  simp [State.writeNow, hrw, hw1c, hwo]

/-- R545: one bit asks for one block. -/
theorem State.writeOnly_block (s : State) {b : Nat} (hb : b < 8) :
    s.writeOnly 0x10018 (BitVec.ofNat 32 (2 ^ b)) = s.requestBlock b := by
  interval_cases b <;> rfl

/-- R545: BLOCK_RESET_REQUEST of one block. -/
theorem exec_blockResetRequest {s : State} {b : Nat} (hb : b < 8) (ht : s.takesWrites = true) :
    exec (.blockResetRequest (2 ^ b)) s = .next (s.requestBlock b) := by
  have hrws : s.rwsBits 0x10018 = 0 := by
    rw [State.rwsBits, s.bitsOf_blockReq]
    exact BitVec.zero_and
  show Host.Outcome.next (s.registerWrite .general 0x10018 _) = _
  rw [s.registerWrite_regs .general 0x10018 _ ht (s.directFails_blockReq _) (inWindow_blockReq _ _),
    s.directRegs_atOnce _ _ _ _ (by decide) hrws, s.writeWords_blockReq, s.writeOnly_block hb]

/-- R545: a reset requested of a block that is not idle, or that the role holds in reset, resets nothing. -/
theorem execBlockResetRequest_busy {s : State} {b : Nat} (hb : b < 8) (ht : s.takesWrites = true) (hh : s.blockHeld b = false)
    (hbusy : s.roleHeld b = true ∨ s.blockIdle b = false) :
    ∃ t, exec (.blockResetRequest (2 ^ b)) s = .next t ∧ OnlyParts [.regs] s t ∧ t.flag F.RST_EVT_BLK_NOT_IDLE = true ∧
      OnlyFlds [F.RST_EVT_BLK_NOT_IDLE] s t := by
  refine ⟨s.event F.RST_EVT_BLK_NOT_IDLE, ?_, (State.event_evolves s _ (List.Subset.refl _) (.refl _ s)).parts,
    s.flag_event _ rfl, (OnlyFlds.refl _ s).event _ rfl (by simp)⟩
  rw [exec_blockResetRequest hb ht, State.requestBlock, hh, if_neg Bool.false_ne_true, if_pos (by simpa using hbusy)]

/-- R545: a reset requested of an idle block. -/
theorem execBlockResetRequest_resets {s : State} {b : Nat} (hb : b < 8) (ht : s.takesWrites = true) (hh : s.blockHeld b = false)
    (hr : s.roleHeld b = false) (hi : s.blockIdle b = true) :
    ∃ t, exec (.blockResetRequest (2 ^ b)) s = .next t ∧ t.rst.restarts = (s.rst.restarts + 1) % 65536 ∧
      t.rst.blocks = s.rst.blocks.filter (fun x => x.block != b) ++ [⟨b, s.cycles⟩] ∧ t.bit F.RST_CAUSE_SRC 0x0D = true ∧
      ∀ a, a < (blockRange b).1 ∨ (blockRange b).2 ≤ a → a ≠ F.RST_CAUSE_SRC.addr → t.reg a = s.reg a := by
  have hexec : exec (.blockResetRequest (2 ^ b)) s = .next ((s.setBit F.RST_CAUSE_SRC 0x0D true).resetBlock b) := by
    rw [exec_blockResetRequest hb ht, State.requestBlock, hh, if_neg Bool.false_ne_true, hr, hi, Bool.not_true, Bool.or_false,
      if_neg Bool.false_ne_true]
  obtain ⟨hrestarts, hblocks, hregs⟩ := (s.setBit F.RST_CAUSE_SRC 0x0D true).resetBlock_spec b
  rw [State.setBit_rst] at hrestarts
  rw [State.setBit_rst, State.setBit_cycles] at hblocks
  have hcause : F.RST_CAUSE_SRC.addr < (blockRange b).1 := lt_of_lt_of_le (by simp) (le_blockRange b)
  refine ⟨_, hexec, hrestarts, hblocks, ?_, fun a ha hne => (hregs a ha).trans (s.reg_setFld_ne _ hne)⟩
  rw [State.bit_of_fld (congrArg (Fld.of _) (hregs _ (.inl hcause)))]
  exact s.bit_setBit_same_true rfl (by decide)

end Sys2Proof.Machine
end

section
/-! CERTIFICATES. Writes that ask a unit to act (O25). -/

namespace Sys2Proof.Machine

/-- Settles O25: each request is one operation on the registers, but for the capture, which waits 4 cycles, and the reset of an idle
block, whose registers alone go back. -/
theorem requestsAct : Obligations.RequestsAct := fun s =>
  ⟨execPtpCapture_captures s, execUeLogClear_empties s, fun _ _ hs hp hv => execTxStartWrite_loads hs hp hv,
    fun _ hb ht hh hbusy => execBlockResetRequest_busy hb ht hh hbusy,
    fun _ hb ht hh hr hi => execBlockResetRequest_resets hb ht hh hr hi⟩

end Sys2Proof.Machine
end

section
/-! SUPPORT. States that meet the conditions which O25 and O40 ask. -/

namespace Sys2Proof.Machine

/-- A sender with network port 0 enabled and its link up, the address 02:00:00:00:00:01, and a monitoring flow whose tap holds a
view-frame to send; the record of the port is `x`. -/
def netSender (x : NetPort) : State :=
  { State.reset with
    regs := [(F.SYS_STRAP_ROLE.addr, 1), ((F.NET_CTL_EN 0).addr, 0x80000000), ((F.NET_STAT_LINK 0).addr, 0x00020001),
      ((F.NET_MAC_LO_ADDR_LO 0).addr, 1), ((F.NET_MAC_HI_ADDR_HI 0).addr, 0x200), ((F.NET_UDP_HB_PORT 0).addr, 0x12345678),
      ((F.NET_MON_CTL_EN 0 0).addr, 0x80000000), ((F.CMP_MON_CTL_EN 2).addr, 0x80000000)]
    net0 := x
    scan := { State.reset.scan with taps := [(2, ⟨[], 0, none, none, some (0, 0, 0)⟩)] } }

/-- A good frame of 100 bytes for that port, to a UDP port. -/
def goodFrame (udpPort : Nat) : EthFrame := ⟨0, 100, true, false, true, 0x020000000001, none, .udp 1 2 3 udpPort [], true⟩

/-- A segmented send of one byte of payload in each frame. -/
def byteSend (payload : List Byte) : SegSend := ⟨List.replicate 42 0, false, payload, 1, none⟩

/-- O40 is about ports that run, and about sub-ports whose link is up, that there are. -/
theorem netSender_runs (x : NetPort) :
    (netSender x).netOn 0 = true ∧ (netSender x).subPortOk 0 0 = true ∧ (netSender x).bit (F.NET_STAT_LINK 0) 0 = true := by
  have hon : (netSender .fresh).netOn 0 = true ∧ (netSender .fresh).subPortOk 0 0 = true ∧
      (netSender .fresh).bit (F.NET_STAT_LINK 0) 0 = true := by decide
  exact hon

/-- O40 is about frames that fail a check, that the heartbeat receiver takes, and that are stamped, that there are. -/
theorem netSender_receives :
    (netSender .fresh).netCheck 0 { goodFrame 319 with len := 63 } = some (F.NET_EVT_RUNT 0) ∧
      (netSender .fresh).netCheck 0 (goodFrame 0x5678) = none ∧ (netSender .fresh).netDest 0 (goodFrame 0x5678) = .heartbeat ∧
      (netSender .fresh).netCheck 0 (goodFrame 319) = none ∧ (netSender .fresh).netDest 0 (goodFrame 319) = .ptpEvent ∧
      ((netSender .fresh).net 0).stamps.length < 64 := by
  decide

/-- O40 is about segmented sends that are rejected and that are queued, frames that start and that wait, and a frame that a store runs
empty in, that there are. -/
theorem netSender_sends :
    let f : TxFrame := ⟨List.replicate 2000 0⟩
    let s := netSender { NetPort.fresh with sendQ := [f], leaving := some (f, 1024) }
    sendFails (byteSend []) = true ∧ sendFails (byteSend [1, 2]) = false ∧ (s.net 0).sendQ = [f] ∧ (s.net 0).monQ = [] ∧
      s.fld (F.NET_STAT_CUR_THRESH 0) * 512 = 1024 ∧ f.bytes.length + 4 = 2004 ∧ (s.net 0).leaving = some (f, 1024) := by
  exact ⟨by decide, by decide, rfl, rfl, by decide, congrArg (· + 4) List.length_replicate, rfl⟩

/-- O40 is about monitoring flows with a packet to send that there are. -/
theorem netSender_monitors :
    (netSender .fresh).flag (F.NET_MON_CTL_EN 0 0) = true ∧ (netSender .fresh).flag (F.CMP_MON_CTL_EN (2 + 2 * 0 + 0)) = true ∧
      ((netSender .fresh).tap (2 + 2 * 0 + 0)).packet = some (0, 0, 0) := by
  decide

/-- O25 is about ports of a sender, and about blocks that the role holds in reset and that are idle, that there are. -/
theorem runningTile_blocks :
    (netSender .fresh).senderRole = true ∧ (runningTile 0).takesWrites = true ∧ (runningTile 0).blockHeld 2 = false ∧
      (runningTile 0).roleHeld 2 = true ∧ (runningTile 0).blockHeld 5 = false ∧ (runningTile 0).roleHeld 5 = false ∧
      (runningTile 0).blockIdle 5 = true := by
  decide

end Sys2Proof.Machine
end

section
/-! SUPPORT. The Module Map window (R189, R193, R428) and the counters of a network port (R133). -/

namespace Sys2Proof.Machine

/-! The Module Map window -/

/-- R49: the Module Map window is one region of a sender. -/
theorem regionOf_mapWindow {a : Nat} (h1 : 0x400000 ≤ a) (h2 : a < 0x600000) : regionOf false a = some (0x400000, 0x600000) := by
  simp [regionOf, windows, h1, h2]

/-- R49: a run of words of the Module Map window stays in it. -/
theorem leavesRegion_mapWindow {c : Change} (h1 : 0x400000 ≤ c.addr) (h2 : c.addr + 4 * c.words.length ≤ 0x600000)
    (h3 : 1 ≤ c.words.length) : leavesRegion false c = false := by
  rw [leavesRegion, regionOf_mapWindow h1 (by omega), List.any_eq_false]
  intro a ha
  obtain ⟨i, hi, rfl⟩ := List.mem_map.mp ha
  have hi := List.mem_range.mp hi
  rw [regionOf_mapWindow (by omega) (by omega)]
  simp

/-- R49: a run of words of the Module Map window is in a window. -/
theorem inWindow_mapWindow {c : Change} (h1 : 0x400000 ≤ c.addr) (h2 : c.addr + 4 * c.words.length ≤ 0x600000)
    (h3 : 1 ≤ c.words.length) : inWindow false c = true := by
  simp only [inWindow, windows, Bool.false_eq_true, if_false, List.any_cons, List.any_nil, Bool.or_false, touches, decide_eq_true_eq]
  omega

/-- R193, R515: a direct WRITE of words of the Module Map window writes the map. -/
theorem State.directWrite_map {s : State} {addr : Nat} {ws : List Word} (h : Hdr) (ht : s.tileRole = false) (ha : addr % 4 = 0)
    (h1 : 0x400000 ≤ addr) (h2 : addr + 4 * ws.length ≤ 0x600000) (h3 : 1 ≤ ws.length) (h4 : ws.length ≤ 16384) :
    s.directWrite h ⟨0xFFFF, addr, 0, 0, ws⟩ = s.mapWrite h addr ws := by
  have hf : s.directFails ⟨0xFFFF, addr, 0, 0, ws⟩ = none := by
    have hl : leavesRegion s.tileRole ⟨0xFFFF, addr, 0, 0, ws⟩ = false := ht ▸ leavesRegion_mapWindow h1 h2 h3
    rw [State.directFails, if_neg (by dsimp only; omega), if_neg (by simp), if_neg (by simpa using ha), hl, if_neg Bool.false_ne_true]
  have hw : inWindow false ⟨0xFFFF, addr, 0, 0, ws⟩ = true := inWindow_mapWindow h1 h2 h3
  simp only [State.directWrite, hf, hw, ht, if_true, Bool.false_eq_true, if_false]

/-- R189, R193: words written replace those words of the staging bank, reserved bits at 0, and no other. -/
theorem State.writeMap_staging (s : State) (addr : Nat) (ws : List Word) (k : Nat) :
    Sparse.get mapReset (s.writeMap addr ws).map.staging k =
      if (addr - 0x400000) / 4 ≤ k ∧ k < (addr - 0x400000) / 4 + ws.length
      then ws.getD (k - (addr - 0x400000) / 4) 0 &&& mapMask k else Sparse.get mapReset s.map.staging k := by
  show Sparse.get mapReset (Sparse.putRun mapReset s.map.staging _ _) k = _
  generalize (addr - 0x400000) / 4 = i
  split
  · next hk =>
    obtain ⟨j, rfl⟩ := Nat.exists_eq_add_of_le hk.1
    rw [Sparse.get_putRun_inside _ _ _ _ j (by simp; omega)]
    simp [List.getElem?_eq_getElem (show j < ws.length by omega)]
  · next hk => exact Sparse.get_putRun_outside _ _ _ (by simp; omega)

theorem State.writeMap_parts (s : State) (addr : Nat) (ws : List Word) : OnlyParts [.map] s (s.writeMap addr ws) :=
  (State.writeMap_evolves s addr ws (List.Subset.refl _) (.refl _ s)).parts

/-- R428: completing with a response leaves the Module Map. -/
theorem State.completeAfter_reply_map (s : State) (i : ReplItem) (h : Hdr) (op : Nat) (r : Reply) :
    (s.completeAfter i (.reply h op r)).map = s.map := by
  have ha : (s.append i).map = s.map := s.append_keeps i .map (by decide)
  unfold State.completeAfter
  dsimp only
  split
  · exact ha
  · exact (State.respond_parts _ h op r .map (by decide)).trans ha

/-- R193, R428: what a write of the Module Map window by General writes, and how it completes. -/
theorem State.mapWrite_writes {s : State} {h : Hdr} (addr : Nat) (ws : List Word) (hg : h.auth = .general)
    (hp : s.flag F.CMP_MAP_STAT_PENDING = false) (hb : s.flag F.CMP_MAP_STAT_COPY_BUSY = false) :
    let t := (s.started h 0x0011).mapWrite h addr ws
    t.map.active = s.map.active ∧
    (∀ k, Sparse.get mapReset t.map.staging k =
      if (addr - 0x400000) / 4 ≤ k ∧ k < (addr - 0x400000) / 4 + ws.length
      then ws.getD (k - (addr - 0x400000) / 4) 0 &&& mapMask k else Sparse.get mapReset s.map.staging k) ∧
    (s.hasStandby = false → Acts s t h 0x0011 (bareReply .ok) [.map, .repl, .red] []) ∧
    (s.hasStandby = true → Awaits s t (.reply h 0x0011 (bareReply .ok)) ∧
      OnlyParts [.gen, .gnt, .map, .repl, .red, .sent] s t ∧ AuthsKeep h s t) := by
  intro t
  have hmap : (s.started h 0x0011).map = s.map := s.started_parts h _ .map (by decide)
  have hstaged := (s.started h 0x0011).writeMap_staging addr ws
  have hparts := (s.started h 0x0011).writeMap_parts addr ws
  have hactive : ((s.started h 0x0011).writeMap addr ws).map.active = (s.started h 0x0011).map.active := rfl
  have ht : t = ((s.started h 0x0011).writeMap addr ws).completeAfter (((s.started h 0x0011).writeMap addr ws).mapItem addr ws.length)
      (.reply h 0x0011 (bareReply .ok)) := by
    simp [t, State.mapWrite, hg, hp, hb]
  rw [ht]
  rw [hmap] at hstaged hactive
  generalize (s.started h 0x0011).writeMap addr ws = u at *
  have hregs : u.regs = s.regs := (hparts .regs (by decide)).trans (s.started_regs h _)
  obtain ⟨hnow, hwait⟩ := s.completeAfter_acts u (u.mapItem addr ws.length) h 0x0011 (bareReply .ok) [.map] [] (by decide)
    (.of_sent (hparts .sent (by decide))) hparts (.of_regs (hparts .regs (by decide))) (hparts .gen (by decide))
    (hparts .gnt (by decide)) (by decide)
  rw [State.hasStandby_congr hregs] at hnow hwait
  rw [u.completeAfter_reply_map]
  refine ⟨hactive, hstaged, hnow, fun hs => ?_⟩
  obtain ⟨hawaits, honly, hkeep⟩ := hwait hs
  exact ⟨hawaits, honly.mono (by simp), hkeep⟩

/-- R193: a write of the Module Map window while a publication runs is refused. -/
theorem State.mapWrite_publishing {s : State} {h : Hdr} (addr : Nat) (ws : List Word) (hg : h.auth = .general)
    (hb : s.flag F.CMP_MAP_STAT_PENDING = true ∨ s.flag F.CMP_MAP_STAT_COPY_BUSY = true) :
    s.mapWrite h addr ws = s.respond h 0x0011 (bareReply .errState) := by
  rw [State.mapWrite, hg, if_neg (by simp), if_pos (by simpa using hb)]
  rfl

/-! Counters (R133) -/

/-- R133: the counters of one port cleared, and answered. -/
theorem State.doCountersClear_acts (s : State) (h : Hdr) {port : Nat} (hp : port ≤ 1) :
    Acts s ((s.started h 0x0007).doCountersClear h port) h 0x0007 (bareReply .ok) [netPart port] [] ∧
      ((s.started h 0x0007).doCountersClear h port).net port = { s.net port with counters := List.replicate 16 0 } := by
  have hsame := s.started_parts h 0x0007
  have hnet : (s.started h 0x0007).net port = s.net port := State.net_congr (hsame .net0 (by decide)) (hsame .net1 (by decide)) port
  rw [State.doCountersClear, if_neg (by omega), hnet]
  have hparts := (s.started h 0x0007).setNet_parts port { s.net port with counters := List.replicate 16 0 }
  have hset := (s.started h 0x0007).net_setNet port { s.net port with counters := List.replicate 16 0 }
  have hflds := (s.started h 0x0007).setNet_flds port { s.net port with counters := List.replicate 16 0 } []
  generalize (s.started h 0x0007).setNet port _ = u at *
  have hkeeps : ∀ p, p ≠ .net0 → p ≠ .net1 → Part.same (s.started h 0x0007) u p := fun p h0 h1 => hparts p (by
    rw [List.mem_singleton, netPart]; split <;> assumption)
  have hanswer := u.respond_parts h 0x0007 (bareReply .ok)
  refine ⟨s.respond_acts u h 0x0007 (bareReply .ok) [netPart port] [] (by decide) (.of_sent (hkeeps .sent nofun nofun))
    (hparts.mono (by simp)) (hflds.mono (by simp)) (hkeeps .gen nofun nofun) (hkeeps .gnt nofun nofun), ?_⟩
  exact (State.net_congr (hanswer .net0 (by decide)) (hanswer .net1 (by decide)) port).trans hset

end Sys2Proof.Machine
end

section
/-! CERTIFICATES. The Module Map window and the counters of a port (O22). -/

namespace Sys2Proof.Machine

/-- Settles O22: a direct WRITE in the window is `mapWrite`, whose words are stored by `writeMap_staging` and whose completion is that of
every replicated action; COUNTERS_CLEAR replaces the record of one port. -/
theorem mapWindowAndCounters : Obligations.MapWindowAndCounters := by
  intro s h
  refine ⟨fun addr ws k ho ht ha h1 h2 h3 h4 hg => ?window, fun port k hp => ?counters⟩
  case window =>
    have hx : exec (.mapWindowWrite h addr ws) s = .next ((s.started h 0x0011).mapWrite h addr ws) := by
      rw [exec_hostCmd s _ h _ rfl, s.submit_direct h _ k rfl ho,
        State.directWrite_map h ((s.started_tileRole h _).trans ht) ha h1 h2 h3 h4]
    refine ⟨fun hp hb => ⟨_, hx, State.mapWrite_writes addr ws hg hp hb⟩, fun hb => ⟨_, hx, ?_⟩⟩
    rw [State.mapWrite_publishing addr ws hg (by simpa using hb)]
    exact s.respond_acts_here h _ _ (by decide)
  case counters =>
    exact ⟨_, exec_newAction rfl k rfl, s.doCountersClear_acts h hp⟩

end Sys2Proof.Machine
end

section
/-! SUPPORT. The banks of the Lining and of the Module Map (R196, R318 to R320): a copy moves the words of one bank into the other. -/

namespace Sys2Proof.Machine

/-! Part of a table -/

/-- A table cut down to some of its keys gives those as before, and no other. -/
theorem Sparse.find_filter_key {α : Type} (P : Nat → Bool) (m : List (Nat × α)) (k : Nat) :
    Sparse.find (m.filter (fun p => P p.1)) k = if P k then Sparse.find m k else none := by
  induction m with
  | nil => simp [Sparse.find]
  | cons x m ih =>
    obtain ⟨a, v⟩ := x
    by_cases hk : a = k
    · subst hk
      by_cases hP : P a = true
      · simp [hP, Sparse.find]
      · simpa [hP] using ih
    · by_cases hP : P a = true
      · simpa [hP, Sparse.find, hk] using ih
      · simpa [hP, Sparse.find, hk] using ih

/-- A key that a table with rising keys has already passed is not listed. -/
theorem Sparse.find_none_of_lt {α : Type} {m : List (Nat × α)} {k : Nat} (h : ∀ p ∈ m, k < p.1) : Sparse.find m k = none := by
  induction m with
  | nil => rfl
  | cons x m ih =>
    rw [Sparse.find, if_neg (h x List.mem_cons_self).ne', ih fun p hp => h p (List.mem_cons_of_mem _ hp)]

section

variable {α : Type} [DecidableEq α]

/-- The entries of a list put into a table, each moved from a place counted from `lo` to the same place counted from `dest`. -/
def Sparse.putMoved (d : Nat → α) (lo dest : Nat) (l m : List (Nat × α)) : List (Nat × α) :=
  l.foldl (fun m p => Sparse.put d m (p.1 - lo + dest) p.2) m

/-- A place that an entry is moved to reads as the entry, and one that none is moved to as before. -/
theorem Sparse.get_putMoved (d : Nat → α) {lo : Nat} (dest h : Nat) {l : List (Nat × α)} (m : List (Nat × α))
    (hlo : ∀ p ∈ l, lo ≤ p.1) (hl : l.Pairwise (fun p q => p.1 < q.1)) :
    Sparse.get d (Sparse.putMoved d lo dest l m) (dest + h) = (Sparse.find l (lo + h)).getD (Sparse.get d m (dest + h)) := by
  induction l generalizing m with
  | nil => rfl
  | cons x l ih =>
    obtain ⟨a, v⟩ := x
    obtain ⟨hafter, hrest⟩ := List.pairwise_cons.mp hl
    have ha : lo ≤ a := hlo (a, v) List.mem_cons_self
    rw [show Sparse.putMoved d lo dest ((a, v) :: l) m = Sparse.putMoved d lo dest l (Sparse.put d m (a - lo + dest) v) from rfl,
      ih _ (fun p hp => hlo p (List.mem_cons_of_mem _ hp)) hrest, Sparse.find]
    by_cases hk : a = lo + h
    · subst hk
      rw [if_pos rfl, Sparse.find_none_of_lt hafter, show lo + h - lo + dest = dest + h by omega]
      exact Sparse.get_put_same d m _ v
    · rw [if_neg hk, Sparse.get_put_ne d m v (by omega)]

/-- A place that none of the entries is moved to reads as before. -/
theorem Sparse.get_putMoved_outside (d : Nat → α) {lo dest n j : Nat} {l : List (Nat × α)} (m : List (Nat × α))
    (hl : ∀ p ∈ l, lo ≤ p.1 ∧ p.1 < lo + n) (hj : j < dest ∨ dest + n ≤ j) :
    Sparse.get d (Sparse.putMoved d lo dest l m) j = Sparse.get d m j := by
  induction l generalizing m with
  | nil => rfl
  | cons x l ih =>
    have hx := hl x List.mem_cons_self
    rw [show Sparse.putMoved d lo dest (x :: l) m = Sparse.putMoved d lo dest l (Sparse.put d m (x.1 - lo + dest) x.2) from rfl,
      ih _ fun p hp => hl p (List.mem_cons_of_mem _ hp), Sparse.get_put_ne d m x.2 (by omega)]

end

/-! The Lining (R318 to R320) -/

/-- R318: the halfwords of a Lining bank. -/
def liningHalves : Nat := 0x180000

/-- R318: a Lining bank begins at a whole number of banks from the first. -/
theorem storeAt_liningBase (b : Nat) : storeAt (liningBase b) = 0x480000 + liningHalves * b := by
  unfold storeAt liningBase liningHalves
  omega

/-- R318: both banks read alike where nothing has been written. -/
theorem storeReset_lining {b c h : Nat} (hb : b ≤ 1) (hc : c ≤ 1) (hh : h < liningHalves) :
    storeReset (storeAt (liningBase b) + h) = storeReset (storeAt (liningBase c) + h) := by
  have hbank : ∀ b ≤ 1, storeReset (storeAt (liningBase b) + h) = if h < storeAt 0x240000 ∧ (h % 9) % 4 = 0 then 16384 else 0 := by
    intro b hb
    have hplace : (storeAt (liningBase b) + h - storeAt 0x900000) % storeAt 0x300000 = h := by
      rw [storeAt_liningBase]
      unfold storeAt liningHalves at *
      omega
    have hin : storeAt 0x900000 ≤ storeAt (liningBase b) + h ∧ storeAt (liningBase b) + h < storeAt 0xF00000 := by
      rw [storeAt_liningBase]
      unfold storeAt liningHalves at *
      omega
    unfold storeReset
    rw [hplace]
    simp only [hin, true_and]
  rw [hbank b hb, hbank c hc]

/-- R320: the pixel store with one Lining bank copied into the other. -/
def State.liningCopied (s : State) : List (Nat × BitVec 16) :=
  let lo := storeAt (liningBase s.tile.bank)
  let dest := storeAt (liningBase (1 - s.tile.bank))
  Sparse.putMoved storeReset lo dest
    (s.tile.store.filter (fun p => decide (lo ≤ p.1 ∧ p.1 < lo + liningHalves)))
    (Sparse.eraseRange s.tile.store dest (dest + liningHalves))

/-- R320: after a copy the two banks are equal. -/
theorem State.liningCopied_get (s : State) {h : Nat} (hb : s.tile.bank ≤ 1) (hc : s.canon) (hh : h < liningHalves) :
    Sparse.get storeReset s.liningCopied (storeAt (liningBase (1 - s.tile.bank)) + h) =
      Sparse.get storeReset s.tile.store (storeAt (liningBase s.tile.bank) + h) := by
  obtain ⟨-, -, -, -, -, hstore⟩ := hc
  have hsorted := ((Sparse.wf_iff _ _).mp hstore).1
  unfold State.liningCopied
  dsimp only
  rw [Sparse.get_putMoved _ _ _ _ (fun p hp => (of_decide_eq_true (List.mem_filter.mp hp).2).1) (hsorted.filter _),
    Sparse.find_filter_key
      (fun k => decide (storeAt (liningBase s.tile.bank) ≤ k ∧ k < storeAt (liningBase s.tile.bank) + liningHalves)),
    if_pos (decide_eq_true ⟨Nat.le_add_right _ _, Nat.add_lt_add_left hh _⟩), Sparse.get, Sparse.find_eraseRange,
    if_pos ⟨Nat.le_add_right _ _, Nat.add_lt_add_left hh _⟩, Option.getD_none,
    storeReset_lining (Nat.sub_le 1 s.tile.bank) hb hh]
  rfl

/-- R320: a copy leaves what is outside the bank that it fills. -/
theorem State.liningCopied_outside (s : State) {h : Nat}
    (hh : h < storeAt (liningBase (1 - s.tile.bank)) ∨ storeAt (liningBase (1 - s.tile.bank)) + liningHalves ≤ h) :
    Sparse.get storeReset s.liningCopied h = Sparse.get storeReset s.tile.store h := by
  unfold State.liningCopied
  dsimp only
  rw [Sparse.get_putMoved_outside _ _ (fun p hp => of_decide_eq_true (List.mem_filter.mp hp).2) hh, Sparse.get, Sparse.find_eraseRange,
    if_neg (by omega)]
  rfl

/-- R196, R320: what the end of a copy of a bank reports. -/
theorem State.copyReported_spec (u : State) (pending : Bool) {busy pend swapped : Fld} (hb : busy.ok = true) (hp : pend.ok = true)
    (hs : swapped.ok = true) (hpb : pend.apart busy = true) (hsb : swapped.apart busy = true) (hsp : swapped.apart pend = true) :
    let t := ((u.setFlag busy false).setFlag pend pending).event swapped
    t.flag busy = false ∧ t.flag pend = pending ∧ t.flag swapped = true ∧ OnlyFlds [busy, pend, swapped] u t := by
  refine ⟨?_, ?_, State.flag_event _ _ hs, ?_⟩
  · rw [State.flag, State.fld_event_apart _ _ _ hs hb hsb, State.fld_setFlag_apart _ _ _ _ hp hb hpb]
    exact u.flag_setFlag busy false hb
  · rw [State.flag, State.fld_event_apart _ _ _ hs hp hsp]
    exact State.flag_setFlag _ pend pending hp
  · exact (((OnlyFlds.refl _ u).setFlag _ _ hb (by simp)).setFlag _ _ hp (by simp)).event _ hs (by simp)

/-- R320: LINING_COPY_DONE. -/
theorem execLiningCopyDone_copies {s : State} (ht : s.tileRole = true) (hf : s.flag F.TIL_LINING_STAT_COPY_BUSY = true)
    (hb : s.tile.bank ≤ 1) (hc : s.canon) :
    ∃ t, exec .liningCopyDone s = .next t ∧
      (∀ h, h < liningHalves → t.half (storeAt (liningBase (1 - s.tile.bank)) + h) = s.half (storeAt (liningBase s.tile.bank) + h)) ∧
      (∀ h, h < storeAt (liningBase (1 - s.tile.bank)) ∨ storeAt (liningBase (1 - s.tile.bank)) + liningHalves ≤ h →
        t.half h = s.half h) ∧
      t.flag F.TIL_LINING_STAT_COPY_BUSY = false ∧ t.flag F.TIL_LINING_STAT_PENDING = s.tile.swap.isSome ∧
      t.flag F.TIL_EVT_LINING_SWAP = true ∧ OnlyParts [.regs, .tile] s t ∧
      OnlyFlds [F.TIL_LINING_STAT_COPY_BUSY, F.TIL_LINING_STAT_PENDING, F.TIL_EVT_LINING_SWAP] s t := by
  obtain ⟨t, hexec, hevolves⟩ := execLiningCopyDone_evolves s
  have ht : t = ((({ s with tile := { s.tile with store := s.liningCopied } } : State).setFlag F.TIL_LINING_STAT_COPY_BUSY false).setFlag
      F.TIL_LINING_STAT_PENDING s.tile.swap.isSome).event F.TIL_EVT_LINING_SWAP := by
    rw [execLiningCopyDone, if_pos ⟨ht, hf⟩] at hexec
    exact (Host.Outcome.next.inj hexec).symm
  obtain ⟨hbusy, hpending, hswapped, hflds⟩ :=
    State.copyReported_spec ({ s with tile := { s.tile with store := s.liningCopied } } : State) s.tile.swap.isSome
      (busy := F.TIL_LINING_STAT_COPY_BUSY) (pend := F.TIL_LINING_STAT_PENDING) (swapped := F.TIL_EVT_LINING_SWAP) rfl rfl rfl rfl rfl rfl
  rw [← ht] at hbusy hpending hswapped hflds
  have hstore : t.tile.store = s.liningCopied := by simp [ht]
  refine ⟨t, hexec, fun h hh => ?_, fun h hh => ?_, hbusy, hpending, hswapped, hevolves.parts, (OnlyFlds.of_regs rfl).trans hflds⟩
  · rw [State.half, hstore, s.liningCopied_get hb hc hh, State.half]
  · rw [State.half, hstore, s.liningCopied_outside hh, State.half]

/-- R319: LINING_STAGE_CHECK_DONE. -/
theorem execLiningStageCheckDone_holds {s : State} (ht : s.tileRole = true) (hf : s.flag F.TIL_LINING_STAT_STAGE_BUSY = true) :
    ∃ t, exec .liningStageCheckDone s = .next t ∧ t.flag F.TIL_LINING_STAT_STAGE_BUSY = false ∧
      t.tile = { s.tile with check := some s.stagingCheck } ∧ OnlyParts [.regs, .tile] s t ∧
      OnlyFlds [F.TIL_LINING_STAT_STAGE_BUSY] s t := by
  obtain ⟨t, hexec, hevolves⟩ := execLiningStageCheckDone_evolves s
  have ht : t = ({ s with tile := { s.tile with check := some s.stagingCheck } } : State).setFlag F.TIL_LINING_STAT_STAGE_BUSY false := by
    rw [execLiningStageCheckDone, if_pos ⟨ht, hf⟩] at hexec
    exact (Host.Outcome.next.inj hexec).symm
  refine ⟨t, hexec, ?_, by simp [ht], hevolves.parts, ?_⟩
  · rw [ht]
    exact State.flag_setFlag _ _ false rfl
  · rw [ht]
    exact (OnlyFlds.of_regs rfl).setFlag _ _ rfl (by simp)

/-- R196: MAP_COPY_DONE. -/
theorem execMapCopyDone_copies {s : State} (hf : s.flag F.CMP_MAP_STAT_COPY_BUSY = true) :
    ∃ t, exec .mapCopyDone s = .next t ∧ t.map = { s.map with staging := s.map.active } ∧
      t.flag F.CMP_MAP_STAT_COPY_BUSY = false ∧ t.flag F.CMP_MAP_STAT_PENDING = false ∧ t.flag F.CMP_SCAN_EVT_MAP_SWAP = true ∧
      OnlyParts [.regs, .map, .scan] s t ∧
      OnlyFlds [F.CMP_MAP_STAT_COPY_BUSY, F.CMP_MAP_STAT_PENDING, F.CMP_SCAN_EVT_MAP_SWAP] s t := by
  obtain ⟨t, hexec, hevolves⟩ := execMapCopyDone_evolves s
  have ht : t = ((({ s with map := { s.map with staging := s.map.active }, scan := { s.scan with copyFrom := none } } : State).setFlag
      F.CMP_MAP_STAT_COPY_BUSY false).setFlag F.CMP_MAP_STAT_PENDING false).event F.CMP_SCAN_EVT_MAP_SWAP := by
    rw [execMapCopyDone, if_pos hf] at hexec
    exact (Host.Outcome.next.inj hexec).symm
  obtain ⟨hbusy, hpending, hswapped, hflds⟩ :=
    State.copyReported_spec ({ s with map := { s.map with staging := s.map.active }, scan := { s.scan with copyFrom := none } } : State)
      false (busy := F.CMP_MAP_STAT_COPY_BUSY) (pend := F.CMP_MAP_STAT_PENDING) (swapped := F.CMP_SCAN_EVT_MAP_SWAP) rfl rfl rfl rfl rfl rfl
  rw [← ht] at hbusy hpending hswapped hflds
  exact ⟨t, hexec, by simp [ht], hbusy, hpending, hswapped, hevolves.parts, (OnlyFlds.of_regs rfl).trans hflds⟩

end Sys2Proof.Machine
end

section
/-! SUPPORT. Return frames (R351 to R353, R376): what a driver's return, or its loss, sets and leaves. -/

namespace Sys2Proof.Machine

/-! Fields, and records of contexts -/

theorem Fld.apart_iff {f g : Fld} : f.apart g = true ↔ f.addr ≠ g.addr ∨ f.hi < g.lo ∨ g.hi < f.lo := by
  simp [Fld.apart, or_assoc]

/-- The record of a context is about it. -/
theorem State.ctxRun_ctx (s : State) (x : Nat) : (s.ctxRun x).ctx = x := by
  unfold State.ctxRun
  cases h : s.lamp.runs.find? (fun r => r.ctx == x) with
  | none => rfl
  | some r => simpa using List.find?_some h

/-- A record reads back as it was set. -/
theorem State.ctxRun_setCtxRun (s : State) {r : CtxRun} {x : Nat} (hr : r.ctx = x) : (s.setCtxRun r).ctxRun x = r := by
  subst hr
  have hnone : (s.lamp.runs.filter (fun q => q.ctx != r.ctx)).find? (fun q => q.ctx == r.ctx) = none := by simp
  simp only [State.ctxRun, State.setCtxRun, List.find?_append, hnone, Option.none_or, List.find?_cons, beq_self_eq_true,
    Option.getD_some]

/-- Records and what ports await are told by the Lamp Bus's part of the state. -/
theorem State.ctxRun_congr {s t : State} (h : t.lamp = s.lamp) (x : Nat) : t.ctxRun x = s.ctxRun x := by
  rw [State.ctxRun, State.ctxRun, h]

theorem State.awaited_congr {s t : State} (h : t.lamp.awaits = s.lamp.awaits) (p : Nat) : t.awaited p = s.awaited p := by
  rw [State.awaited, State.awaited, h]

theorem State.flag_setCtxRun (s : State) (r : CtxRun) (f : Fld) : (s.setCtxRun r).flag f = s.flag f := s.flag_with_lamp _ f

theorem State.fault_lamp (s : State) (cls code : Nat) (detail : List Byte) : (s.fault cls code detail).lamp = s.lamp :=
  (State.fault_evolves s cls code detail (List.Subset.refl _) (.refl _ s)).parts .lamp (by decide)

/-! What a port awaits (R352) -/

/-- What a port awaits is of that port. -/
theorem State.awaited_port {s : State} {p : Nat} {a : Await} (h : s.awaited p = some a) : a.port = p := by
  simpa using List.find?_some h

/-- A port that has ended its wait awaits nothing. -/
theorem State.awaited_endAwait (s : State) (p : Nat) : (s.endAwait p).awaited p = none := by
  simp [State.awaited, State.endAwait]

/-- A free port awaits the frame that it is asked to. -/
theorem State.awaited_startAwait {s : State} {a : Await} (h : s.awaited a.port = none) : (s.startAwait a).awaited a.port = some a := by
  rw [State.awaited] at h
  simp [State.awaited, State.startAwait, List.find?_append, h]

/-- The end of a wait leaves the records of contexts. -/
theorem State.ctxRun_endAwait (s : State) (p x : Nat) : (s.endAwait p).ctxRun x = s.ctxRun x := rfl

theorem State.endAwait_parts (s : State) (p : Nat) : OnlyParts [.regs, .lamp] s (s.endAwait p) :=
  (State.endAwait_evolves s p (List.Subset.refl _) (.refl _ s)).parts

/-! Failures in a row (R353) -/

/-- The fields that the initialisation of a driver sets. -/
def initFlds (x : Nat) : List Fld := [F.LMB_CTX_STAT_INIT_PENDING x, F.LMB_CTX_STAT_PRESENT x]

/-- R353, R354: noting a failure sets no more than what the initialisation of the driver sets, and leaves what ports await. -/
theorem State.noteBad_spec (s : State) {r : CtxRun} {x : Nat} (hr : r.ctx = x) :
    OnlyFlds (initFlds x) s (s.noteBad r) ∧ (s.noteBad r).lamp.awaits = s.lamp.awaits := by
  have hinit : ∀ (u : State) (x : Nat), OnlyFlds (initFlds x) u (u.initCtx x) ∧ (u.initCtx x).lamp.awaits = u.lamp.awaits := by
    intro u x
    unfold State.initCtx State.configure
    refine ⟨OnlyFlds.setFlag _ _ rfl (by simp [initFlds]) (OnlyFlds.setFlag _ _ rfl (by simp [initFlds]) (.of_regs rfl)), ?_⟩
    rw [State.setFlag_lamp, State.setFlag_lamp]
    rfl
  subst hr
  unfold State.noteBad
  split
  · exact hinit (s.setCtxRun { r with bad := 0 }) r.ctx
  · exact ⟨.of_regs rfl, rfl⟩

/-- R353: a failure that is not the third in a row is counted in the record. -/
theorem State.noteBad_of_ne {s : State} {r : CtxRun} (h : r.bad ≠ 3) : s.noteBad r = s.setCtxRun r := if_neg h

/-! An ECHO return (R350, R353) -/

/-- R350, R353: what an ECHO return says of its context. -/
def State.echoSet (s : State) (x status expect check : Nat) : State :=
  ((((s.setFld (F.LMB_CTX_STAT_STATUS x) status).setFlag (F.LMB_CTX_STAT_PRESENT x) true).setFlag (F.LMB_CTX_STAT_ABSENT x) false).setFld
    (F.LMB_CTX_ECHO_EXPECT x) expect).setFld (F.LMB_CTX_ECHO_CHECK x) check

/-- R353: the flags of a status word are reported. -/
def State.echoFlagged (s : State) (x status : Nat) : State :=
  if statusFlags status then (s.event F.LMB_EVT_DRV_FLAG).fault 2 7 (leBytes 2 x ++ [0, 0, 0, 0] ++ leBytes 2 status) else s

/-- R353: an echo check that differs is reported. -/
def State.echoDiffers (s : State) (a : Await) (status check : Nat) : State :=
  (s.eventCount F.LMB_EVT_ECHO_MISMATCH (F.LMB_CTX_CNT_ECHO_ERR_COUNT a.ctx)).fault 2 2
    (leBytes 2 a.ctx ++ leBytes 2 a.expect ++ [0, 0] ++ leBytes 2 check ++ leBytes 2 status)

/-- R353: an ECHO return whose check agrees. -/
theorem State.echoReturn_agrees (s : State) (a : Await) (status : Nat) :
    s.echoReturn a status a.expect =
      ((s.echoSet a.ctx status a.expect a.expect).echoFlagged a.ctx status).setCtxRun { s.ctxRun a.ctx with bad := 0, silent := 0 } :=
  if_pos rfl

/-- R353: an ECHO return whose check differs. -/
theorem State.echoReturn_differs (s : State) (a : Await) (status : Nat) {check : Nat} (h : check ≠ a.expect) :
    s.echoReturn a status check =
      (((s.echoSet a.ctx status a.expect check).echoFlagged a.ctx status).echoDiffers a status check).noteBad
        { s.ctxRun a.ctx with bad := (s.ctxRun a.ctx).bad + 1, silent := 0 } :=
  if_neg h

/-- R350, R353: the fields of a context after an ECHO return. -/
theorem State.echoSet_spec (s : State) (x status expect check : Nat) :
    let t := s.echoSet x status expect check
    t.fld (F.LMB_CTX_STAT_STATUS x) = status % 65536 ∧ t.flag (F.LMB_CTX_STAT_PRESENT x) = true ∧
      t.flag (F.LMB_CTX_STAT_ABSENT x) = false ∧ t.fld (F.LMB_CTX_ECHO_EXPECT x) = expect % 65536 ∧
      t.fld (F.LMB_CTX_ECHO_CHECK x) = check % 65536 ∧ t.lamp = s.lamp ∧ OnlyParts [.regs] s t := by
  have hregs : OnlyParts [.regs] s (s.echoSet x status expect check) :=
    ((((s.setFld_parts _ _).trans (State.setFld_parts _ _ _)).trans (State.setFld_parts _ _ _)).trans (State.setFld_parts _ _ _)).trans
      (State.setFld_parts _ _ _)
  have hstat : (F.LMB_CTX_STAT_ABSENT x).apart (F.LMB_CTX_STAT_PRESENT x) = true ∧
      (F.LMB_CTX_STAT_ABSENT x).apart (F.LMB_CTX_STAT_STATUS x) = true ∧
      (F.LMB_CTX_STAT_PRESENT x).apart (F.LMB_CTX_STAT_STATUS x) = true ∧
      (F.LMB_CTX_ECHO_CHECK x).apart (F.LMB_CTX_ECHO_EXPECT x) = true := by simp [Fld.apart_iff]
  obtain ⟨hap, has, hps, hce⟩ := hstat
  have hecho : ∀ (u : State) (g : Fld), g.ok = true → g.addr = 0x2D0010 + 0x20 * x →
      ((u.setFld (F.LMB_CTX_ECHO_EXPECT x) expect).setFld (F.LMB_CTX_ECHO_CHECK x) check).fld g = u.fld g := by
    intro u g hg ha
    rw [State.fld_setFld_apart _ _ _ _ rfl hg (Fld.apart_of_addr (by dsimp only; omega)),
      State.fld_setFld_apart _ _ _ _ rfl hg (Fld.apart_of_addr (by dsimp only; omega))]
  refine ⟨?_, ?_, ?_, ?_, State.fld_setFld_same _ _ _ rfl, hregs .lamp (by decide), hregs⟩
  · rw [State.echoSet, hecho _ _ rfl rfl, State.fld_setFlag_apart _ _ _ _ rfl rfl has, State.fld_setFlag_apart _ _ _ _ rfl rfl hps]
    exact State.fld_setFld_same _ _ _ rfl
  · rw [State.flag, State.echoSet, hecho _ _ rfl rfl, State.fld_setFlag_apart _ _ _ _ rfl rfl hap]
    exact State.flag_setFlag _ _ true rfl
  · rw [State.flag, State.echoSet, hecho _ _ rfl rfl]
    exact State.flag_setFlag _ _ false rfl
  · rw [State.echoSet, State.fld_setFld_apart _ _ _ _ rfl rfl hce]
    exact State.fld_setFld_same _ _ _ rfl

/-- R353: what is set where a status word has flags to report. -/
theorem State.echoFlagged_spec (s : State) (x status : Nat) :
    OnlyFlds [F.LMB_EVT_DRV_FLAG, F.MLK_EVT_FAULT_OVF] s (s.echoFlagged x status) ∧ (s.echoFlagged x status).lamp = s.lamp ∧
      (statusFlags status = true → (s.echoFlagged x status).flag F.LMB_EVT_DRV_FLAG = true) := by
  unfold State.echoFlagged
  split
  · have hfault := (s.event F.LMB_EVT_DRV_FLAG).fault_flds 2 7 (leBytes 2 x ++ [0, 0, 0, 0] ++ leBytes 2 status)
    refine ⟨((OnlyFlds.refl _ s).event _ rfl (by simp)).trans (hfault.mono (by simp)), ?_, fun _ => ?_⟩
    · rw [State.fault_lamp, State.event_lamp]
    · rw [hfault.flag rfl (by decide)]
      exact State.flag_event _ _ rfl
  · next h => exact ⟨.refl _ s, rfl, fun hs => absurd hs h⟩

/-- R353: what is set where an echo check differs. -/
theorem State.echoDiffers_spec (s : State) (a : Await) (status check : Nat) :
    OnlyFlds [F.LMB_EVT_ECHO_MISMATCH, F.LMB_CTX_CNT_ECHO_ERR_COUNT a.ctx, F.MLK_EVT_FAULT_OVF] s (s.echoDiffers a status check) ∧
      (s.echoDiffers a status check).lamp = s.lamp ∧ (s.echoDiffers a status check).flag F.LMB_EVT_ECHO_MISMATCH = true := by
  have hcount : (F.LMB_CTX_CNT_ECHO_ERR_COUNT a.ctx).apart F.LMB_EVT_ECHO_MISMATCH = true :=
    Fld.apart_of_addr (by dsimp only; omega)
  have hfault := (s.eventCount F.LMB_EVT_ECHO_MISMATCH (F.LMB_CTX_CNT_ECHO_ERR_COUNT a.ctx)).fault_flds 2 2
    (leBytes 2 a.ctx ++ leBytes 2 a.expect ++ [0, 0] ++ leBytes 2 check ++ leBytes 2 status)
  unfold State.echoDiffers
  refine ⟨((OnlyFlds.refl _ s).eventCount _ _ rfl rfl (by simp) (by simp)).trans (hfault.mono (by simp)), ?_, ?_⟩
  · rw [State.fault_lamp, State.eventCount_lamp]
  · rw [hfault.flag rfl (by decide), State.flag, State.fld_eventCount_event _ _ _ rfl rfl hcount]
    rfl

/-- The fields that an ECHO return's reports may set. -/
def echoReports (x : Nat) : List Fld :=
  [F.LMB_EVT_DRV_FLAG, F.MLK_EVT_FAULT_OVF, F.LMB_EVT_ECHO_MISMATCH, F.LMB_CTX_CNT_ECHO_ERR_COUNT x] ++ initFlds x

/-- The status and the checks of a context are none of them. -/
theorem echoReports_apart (x : Nat) {g : Fld} (hg : g ∈ [F.LMB_CTX_STAT_STATUS x, F.LMB_CTX_STAT_ABSENT x, F.LMB_CTX_ECHO_EXPECT x,
    F.LMB_CTX_ECHO_CHECK x]) : g.ok = true ∧ ∀ f ∈ echoReports x, f.apart g = true := by
  simp only [List.mem_cons, List.not_mem_nil, or_false] at hg
  have hreports : ∀ g : Fld, g.addr = 0x2D0010 + 0x20 * x ∧ (g.hi < 29 ∨ g.lo = 30 ∧ g.hi = 30) ∨
      g.addr = 0x2D0014 + 0x20 * x → ∀ f ∈ echoReports x, f.apart g = true := by
    intro g hg
    simp only [echoReports, initFlds, List.cons_append, List.nil_append, List.forall_mem_cons, List.not_mem_nil,
      false_implies, implies_true, and_true, Fld.apart_iff]
    omega
  rcases hg with rfl | rfl | rfl | rfl
  · exact ⟨rfl, hreports _ (by simp)⟩
  · exact ⟨rfl, hreports _ (by simp)⟩
  · exact ⟨rfl, hreports _ (by simp)⟩
  · exact ⟨rfl, hreports _ (by simp)⟩

/-- R353: an ECHO return whose check agrees sets no more than its reports, and leaves what ports await. -/
theorem State.echoAgrees_spec (s : State) (x status : Nat) (r : CtxRun) :
    OnlyFlds (echoReports x) s ((s.echoFlagged x status).setCtxRun r) ∧
      ((s.echoFlagged x status).setCtxRun r).lamp.awaits = s.lamp.awaits ∧
      (statusFlags status = true → ((s.echoFlagged x status).setCtxRun r).flag F.LMB_EVT_DRV_FLAG = true) := by
  obtain ⟨hflds, hlamp, hflag⟩ := s.echoFlagged_spec x status
  generalize s.echoFlagged x status = u at hflds hlamp hflag ⊢
  exact ⟨(hflds.mono (by simp [echoReports])).trans (.of_regs rfl), (show u.lamp.awaits = _ by rw [hlamp]), hflag⟩

/-- R353: so does one whose check differs, which is reported. -/
theorem State.echoDiffers_noteBad_spec (s : State) (a : Await) (status check : Nat) {r : CtxRun} (hr : r.ctx = a.ctx) :
    let t := ((s.echoFlagged a.ctx status).echoDiffers a status check).noteBad r
    OnlyFlds (echoReports a.ctx) s t ∧ t.lamp.awaits = s.lamp.awaits ∧
      (statusFlags status = true → t.flag F.LMB_EVT_DRV_FLAG = true) ∧ t.flag F.LMB_EVT_ECHO_MISMATCH = true := by
  obtain ⟨hflds, hlamp, hflag⟩ := s.echoFlagged_spec a.ctx status
  generalize s.echoFlagged a.ctx status = u at hflds hlamp hflag ⊢
  obtain ⟨hdflds, hdlamp, hdflag⟩ := u.echoDiffers_spec a status check
  generalize u.echoDiffers a status check = v at hdflds hdlamp hdflag ⊢
  obtain ⟨hbflds, hbawaits⟩ := v.noteBad_spec hr
  generalize v.noteBad r = w at hbflds hbawaits ⊢
  have hinit : ∀ g : Fld, g.addr = 0x2C0008 → g.ok = true → w.flag g = v.flag g := by
    intro g hg hok
    refine hbflds.flag hok ?_
    simp only [initFlds, List.forall_mem_cons, List.not_mem_nil, false_implies, implies_true, and_true, Fld.apart_iff, hg]
    omega
  refine ⟨(hflds.mono (by simp [echoReports])).trans
      ((hdflds.mono (by simp [echoReports])).trans (hbflds.mono (List.subset_append_right _ _))),
    by rw [hbawaits, hdlamp, hlamp], fun h => ?_, ?_⟩
  · rw [hinit F.LMB_EVT_DRV_FLAG rfl rfl, hdflds.flag (g := F.LMB_EVT_DRV_FLAG) rfl (by simp [Fld.apart_iff]), hflag h]
  · rw [hinit F.LMB_EVT_ECHO_MISMATCH rfl rfl, hdflag]

/-- R353: what an ECHO return sets. -/
theorem State.echoReturn_spec (s : State) (a : Await) (status check : Nat) :
    OnlyFlds (echoReports a.ctx) (s.echoSet a.ctx status a.expect check) (s.echoReturn a status check) ∧
      (s.echoReturn a status check).lamp.awaits = s.lamp.awaits ∧
      (statusFlags status = true → (s.echoReturn a status check).flag F.LMB_EVT_DRV_FLAG = true) ∧
      (check ≠ a.expect → (s.echoReturn a status check).flag F.LMB_EVT_ECHO_MISMATCH = true) := by
  obtain ⟨-, -, -, -, -, hlamp, -⟩ := s.echoSet_spec a.ctx status a.expect check
  rw [← hlamp]
  by_cases hc : check = a.expect
  · subst hc
    rw [s.echoReturn_agrees]
    obtain ⟨hflds, hawaits, hflag⟩ := (s.echoSet a.ctx status a.expect a.expect).echoAgrees_spec a.ctx status
      { s.ctxRun a.ctx with bad := 0, silent := 0 }
    exact ⟨hflds, hawaits, hflag, fun h => absurd rfl h⟩
  · rw [s.echoReturn_differs a status hc]
    obtain ⟨hflds, hawaits, hflag, hdiffers⟩ := (s.echoSet a.ctx status a.expect check).echoDiffers_noteBad_spec a status check
      (r := { s.ctxRun a.ctx with bad := (s.ctxRun a.ctx).bad + 1, silent := 0 }) (s.ctxRun_ctx a.ctx)
    exact ⟨hflds, hawaits, hflag, fun _ => hdiffers⟩

/-- R353: a return without flags whose check agrees changes the registers and the record of its context alone. -/
theorem State.echoReturn_clean (s : State) (a : Await) {status : Nat} (hs : statusFlags status = false) :
    (s.echoReturn a status a.expect).flag (F.LMB_CTX_STAT_PRESENT a.ctx) = true ∧
      ((s.echoReturn a status a.expect).ctxRun a.ctx).bad = 0 ∧ ((s.echoReturn a status a.expect).ctxRun a.ctx).silent = 0 ∧
      OnlyParts [.regs, .lamp] s (s.echoReturn a status a.expect) := by
  obtain ⟨-, hpresent, -, -, -, -, hparts⟩ := s.echoSet_spec a.ctx status a.expect a.expect
  rw [s.echoReturn_agrees, State.echoFlagged, hs, if_neg Bool.false_ne_true]
  generalize s.echoSet a.ctx status a.expect a.expect = u at hpresent hparts ⊢
  rw [u.ctxRun_setCtxRun (r := { s.ctxRun a.ctx with bad := 0, silent := 0 }) (s.ctxRun_ctx a.ctx),
    u.flag_setCtxRun]
  exact ⟨hpresent, rfl, rfl, (hparts.mono (by simp)).trans (State.setCtxRun_evolves u _ (by simp) (.refl _ u)).parts⟩

end Sys2Proof.Machine
end

section
/-! SUPPORT. Return frames that are awaited, and those that are lost (R351 to R353, R376). -/

namespace Sys2Proof.Machine

/-! NO_ECHO (R352, R353) -/

/-- R352, R353: a NO_ECHO counted, and noted in the record of its context. -/
def State.echoMissed (s : State) (x : Nat) : State :=
  (s.eventCount F.LMB_EVT_NO_ECHO (F.LMB_CTX_CNT_NO_ECHO_COUNT x)).noteBad
    { s.ctxRun x with bad := (s.ctxRun x).bad + 1, silent := (s.ctxRun x).silent + 1 }

/-- R353: a context has become absent. -/
def State.ctxAbsent (s : State) (x : Nat) : State :=
  ((s.setFlag (F.LMB_CTX_STAT_ABSENT x) true).event F.LMB_EVT_ABSENT).fault 2 3 (leBytes 2 x)

/-- R353: the third NO_ECHO in a row makes a context absent. -/
theorem State.noEcho_eq (s : State) (x : Nat) :
    s.noEcho x = if (s.ctxRun x).silent = 2 then (s.echoMissed x).ctxAbsent x else s.echoMissed x := by
  show (if (s.ctxRun x).silent + 1 = 3 then (s.echoMissed x).ctxAbsent x else s.echoMissed x) = _
  simp only [Nat.reduceEqDiff]

theorem State.echoMissed_spec (s : State) (x : Nat) :
    (s.echoMissed x).lamp.awaits = s.lamp.awaits ∧ (s.echoMissed x).flag F.LMB_EVT_NO_ECHO = true := by
  have hcount : (F.LMB_CTX_CNT_NO_ECHO_COUNT x).apart F.LMB_EVT_NO_ECHO = true := Fld.apart_of_addr (by dsimp only; omega)
  have hevent : (s.eventCount F.LMB_EVT_NO_ECHO (F.LMB_CTX_CNT_NO_ECHO_COUNT x)).flag F.LMB_EVT_NO_ECHO = true := by
    rw [State.flag, s.fld_eventCount_event _ _ rfl rfl hcount]
    rfl
  have hlamp := s.eventCount_lamp F.LMB_EVT_NO_ECHO (F.LMB_CTX_CNT_NO_ECHO_COUNT x)
  have hinit : ∀ f ∈ initFlds x, f.apart F.LMB_EVT_NO_ECHO = true := by
    simp only [initFlds, List.forall_mem_cons, List.not_mem_nil, false_implies, implies_true, and_true, Fld.apart_iff]
    omega
  unfold State.echoMissed
  generalize s.eventCount F.LMB_EVT_NO_ECHO (F.LMB_CTX_CNT_NO_ECHO_COUNT x) = u at hevent hlamp ⊢
  obtain ⟨hflds, hawaits⟩ := u.noteBad_spec (r := { s.ctxRun x with bad := (s.ctxRun x).bad + 1, silent := (s.ctxRun x).silent + 1 })
    (s.ctxRun_ctx x)
  exact ⟨by rw [hawaits, hlamp], by rw [hflds.flag (g := F.LMB_EVT_NO_ECHO) rfl hinit, hevent]⟩

/-- R353: a NO_ECHO that is the third failure of neither kind is counted, and nothing more. -/
theorem State.echoMissed_counts (s : State) {x : Nat} (hb : (s.ctxRun x).bad ≠ 2) :
    OnlyParts [.regs, .lamp] s (s.echoMissed x) ∧ ((s.echoMissed x).ctxRun x).silent = (s.ctxRun x).silent + 1 ∧
      ((s.echoMissed x).ctxRun x).bad = (s.ctxRun x).bad + 1 := by
  have hparts : OnlyParts [.regs] s (s.eventCount F.LMB_EVT_NO_ECHO (F.LMB_CTX_CNT_NO_ECHO_COUNT x)) :=
    (State.eventCount_evolves s _ _ (List.Subset.refl _) (.refl _ s)).parts
  rw [State.echoMissed, State.noteBad_of_ne (by dsimp only; omega)]
  generalize s.eventCount F.LMB_EVT_NO_ECHO (F.LMB_CTX_CNT_NO_ECHO_COUNT x) = u at hparts ⊢
  rw [u.ctxRun_setCtxRun (r := { s.ctxRun x with bad := (s.ctxRun x).bad + 1, silent := (s.ctxRun x).silent + 1 }) (s.ctxRun_ctx x)]
  exact ⟨(hparts.mono (by simp)).trans (State.setCtxRun_evolves u _ (by simp) (.refl _ u)).parts, rfl, rfl⟩

/-- R353: what is set where a context becomes absent. -/
theorem State.ctxAbsent_spec (s : State) (x : Nat) :
    (s.ctxAbsent x).lamp = s.lamp ∧ (s.ctxAbsent x).flag F.LMB_EVT_NO_ECHO = s.flag F.LMB_EVT_NO_ECHO ∧
      (s.ctxAbsent x).flag (F.LMB_CTX_STAT_ABSENT x) = true ∧ (s.ctxAbsent x).flag F.LMB_EVT_ABSENT = true := by
  have hfault := ((s.setFlag (F.LMB_CTX_STAT_ABSENT x) true).event F.LMB_EVT_ABSENT).fault_flds 2 3 (leBytes 2 x)
  have habsent : F.LMB_EVT_ABSENT.apart (F.LMB_CTX_STAT_ABSENT x) = true := Fld.apart_of_addr (by dsimp only; omega)
  have hecho : (F.LMB_CTX_STAT_ABSENT x).apart F.LMB_EVT_NO_ECHO = true := Fld.apart_of_addr (by dsimp only; omega)
  have hovf : ∀ f ∈ [F.MLK_EVT_FAULT_OVF], f.apart (F.LMB_CTX_STAT_ABSENT x) = true := by
    intro f hf
    rw [List.mem_singleton.mp hf]
    exact Fld.apart_of_addr (by dsimp only; omega)
  unfold State.ctxAbsent
  refine ⟨by rw [State.fault_lamp, State.event_lamp, State.setFlag_lamp], ?_, ?_, ?_⟩
  · rw [hfault.flag (g := F.LMB_EVT_NO_ECHO) rfl (by decide), State.flag, State.fld_event_apart _ _ _ rfl rfl rfl,
      State.fld_setFlag_apart _ _ _ _ rfl rfl hecho, State.flag]
  · rw [hfault.flag rfl hovf, State.flag, State.fld_event_apart _ _ _ rfl rfl habsent]
    exact State.flag_setFlag _ _ true rfl
  · rw [hfault.flag (g := F.LMB_EVT_ABSENT) rfl (by decide)]
    exact State.flag_event _ _ rfl

/-- R352, R353: what a NO_ECHO sets. -/
theorem State.noEcho_spec (s : State) (x : Nat) :
    (s.noEcho x).lamp.awaits = s.lamp.awaits ∧ (s.noEcho x).flag F.LMB_EVT_NO_ECHO = true ∧
      ((s.ctxRun x).silent = 2 → (s.noEcho x).flag (F.LMB_CTX_STAT_ABSENT x) = true ∧ (s.noEcho x).flag F.LMB_EVT_ABSENT = true) := by
  obtain ⟨hawaits, hecho⟩ := s.echoMissed_spec x
  rw [s.noEcho_eq]
  split
  · obtain ⟨hlamp, hkeep, habsent, hevent⟩ := (s.echoMissed x).ctxAbsent_spec x
    exact ⟨by rw [hlamp, hawaits], by rw [hkeep, hecho], fun _ => ⟨habsent, hevent⟩⟩
  · next h => exact ⟨hawaits, hecho, fun hs => absurd hs h⟩

/-! A lost frame (R352, R376) -/

/-- The fields that the end of a pair's test may set. -/
def pairEndFlds : List Fld :=
  [F.LMB_DIAG_EVT_DIAG_LOST, F.LMB_DIAG_STAT_ROUND_BUSY, F.LMB_DIAG_STAT_PROBE_PASS, F.LMB_DIAG_SNAP_STAT_DONE, F.LMB_DIAG_EVT_SNAP_DONE]

theorem State.roundEnds_flds (s : State) : OnlyFlds [F.LMB_DIAG_STAT_ROUND_BUSY, F.LMB_DIAG_STAT_PROBE_PASS] s s.roundEnds := by
  unfold State.roundEnds
  split
  · exact .refl _ s
  split
  · exact ((OnlyFlds.of_regs rfl).setFlag _ false rfl (by simp)).setFlag _ false rfl (by simp)
  · exact .refl _ s

theorem State.snapPassEnds_flds (s : State) : OnlyFlds [F.LMB_DIAG_SNAP_STAT_DONE, F.LMB_DIAG_EVT_SNAP_DONE] s s.snapPassEnds := by
  unfold State.snapPassEnds
  split
  · exact .refl _ s
  split
  · exact ((OnlyFlds.of_regs rfl).setFlag _ true rfl (by simp)).event _ rfl (by simp)
  · exact .refl _ s

/-- R376: a DIAG_READ without a return ends its pair, and leaves the Lamp Bus. -/
theorem State.diagLost_spec (s : State) (x : Nat) : OnlyFlds pairEndFlds s (s.diagLost x) ∧ (s.diagLost x).lamp = s.lamp := by
  refine ⟨?_, (State.diagLost_evolves s x (List.Subset.refl _) (.refl _ s)).parts .lamp (by decide)⟩
  unfold State.diagLost
  have hlost : OnlyFlds pairEndFlds s (s.event F.LMB_DIAG_EVT_DIAG_LOST) := (OnlyFlds.refl _ s).event _ rfl (by simp [pairEndFlds])
  generalize s.event F.LMB_DIAG_EVT_DIAG_LOST = u at hlost ⊢
  have hdrop : OnlyFlds pairEndFlds u (u.dropPair x) := .of_regs rfl
  generalize u.dropPair x = v at hdrop ⊢
  exact hlost.trans (hdrop.trans ((v.roundEnds_flds.mono (by simp [pairEndFlds])).trans
    (v.roundEnds.snapPassEnds_flds.mono (by simp [pairEndFlds]))))

/-- R352, R353: what a lost frame sets. -/
theorem State.returnLost_spec (s : State) (a : Await) :
    (s.returnLost a).awaited a.port = none ∧ (s.returnLost a).flag F.LMB_EVT_NO_ECHO = true ∧
      ((s.ctxRun a.ctx).silent = 2 →
        (s.returnLost a).flag (F.LMB_CTX_STAT_ABSENT a.ctx) = true ∧ (s.returnLost a).flag F.LMB_EVT_ABSENT = true) := by
  obtain ⟨hawaits, hecho, habsent⟩ := (s.endAwait a.port).noEcho_spec a.ctx
  have hfree := s.awaited_endAwait a.port
  rw [s.ctxRun_endAwait] at habsent
  unfold State.returnLost
  dsimp only
  generalize (s.endAwait a.port).noEcho a.ctx = u at hawaits hecho habsent ⊢
  have hport := (State.awaited_congr hawaits a.port).trans hfree
  split
  · obtain ⟨hflds, hlamp⟩ := u.diagLost_spec a.ctx
    have hctx : ∀ f ∈ pairEndFlds, f.apart (F.LMB_CTX_STAT_ABSENT a.ctx) = true := by
      simp only [pairEndFlds, List.forall_mem_cons, List.not_mem_nil, false_implies, implies_true, and_true, Fld.apart_iff]
      omega
    rw [hflds.flag (g := F.LMB_EVT_NO_ECHO) rfl (by decide), hflds.flag rfl hctx, hflds.flag (g := F.LMB_EVT_ABSENT) rfl (by decide)]
    exact ⟨(State.awaited_congr (congrArg LampState.awaits hlamp) _).trans hport, hecho, habsent⟩
  · exact ⟨hport, hecho, habsent⟩

/-- R352, R353: a lost frame that is no DIAG_READ's, and the third failure of neither kind, is counted, and nothing more. -/
theorem State.returnLost_counts {s : State} {a : Await} (hs : (s.ctxRun a.ctx).silent ≠ 2) (hb : (s.ctxRun a.ctx).bad ≠ 2)
    (hk : a.kind ≠ 2) :
    OnlyParts [.regs, .lamp] s (s.returnLost a) ∧ ((s.returnLost a).ctxRun a.ctx).silent = (s.ctxRun a.ctx).silent + 1 ∧
      ((s.returnLost a).ctxRun a.ctx).bad = (s.ctxRun a.ctx).bad + 1 := by
  have hlost : s.returnLost a = (s.endAwait a.port).echoMissed a.ctx := by
    rw [State.returnLost, if_neg hk, State.noEcho_eq, s.ctxRun_endAwait, if_neg hs]
  rw [hlost]
  obtain ⟨hparts, hsilent, hbad⟩ := (s.endAwait a.port).echoMissed_counts (x := a.ctx) (by rwa [s.ctxRun_endAwait])
  rw [s.ctxRun_endAwait] at hsilent hbad
  exact ⟨(s.endAwait_parts a.port).trans hparts, hsilent, hbad⟩

/-! The rows (R351 to R353) -/

/-- R352: RETURN_TIMEOUT at a port that awaits a frame. -/
theorem exec_returnTimeout {s : State} {p : Nat} {a : Await} (ha : s.awaited p = some a) :
    exec (.returnTimeout p) s = .next (s.returnLost a) := by
  show execReturnTimeout p s = _
  rw [execReturnTimeout, ha]

/-- R352: a frame that is not the one awaited, or is not good, is lost. -/
theorem exec_returnFrame_bad {s : State} {p header crc : Nat} {ws : List Nat} {a : Await} (ha : s.awaited p = some a)
    (hg : frameGood a header ws crc = false) : exec (.returnFrame p header ws crc) s = .next (s.returnLost a) := by
  show execReturnFrame p header ws crc s = _
  rw [execReturnFrame, ha]
  dsimp only
  rw [hg, if_neg Bool.false_ne_true]

/-- R351, R353: a good ECHO return. -/
theorem exec_returnFrame_echo {s : State} {p header crc : Nat} {ws : List Nat} {a : Await} (ha : s.awaited p = some a)
    (hk : a.kind = 0) (hg : frameGood a header ws crc = true) :
    exec (.returnFrame p header ws crc) s = .next ((s.endAwait p).echoReturn a (ws.getD 0 0) (ws.getD 1 0)) := by
  show execReturnFrame p header ws crc s = _
  simp only [execReturnFrame, ha, hg, hk, if_true]

/-- R353: what a good ECHO return gives. -/
theorem execReturnFrame_echoes {s : State} {p header crc : Nat} {ws : List Nat} {a : Await} (ha : s.awaited p = some a)
    (hk : a.kind = 0) (hg : frameGood a header ws crc = true) :
    ∃ t, exec (.returnFrame p header ws crc) s = .next t ∧ t.awaited p = none ∧
      t.fld (F.LMB_CTX_STAT_STATUS a.ctx) = ws.getD 0 0 % 65536 ∧ t.fld (F.LMB_CTX_ECHO_EXPECT a.ctx) = a.expect % 65536 ∧
      t.fld (F.LMB_CTX_ECHO_CHECK a.ctx) = ws.getD 1 0 % 65536 ∧ t.flag (F.LMB_CTX_STAT_ABSENT a.ctx) = false ∧
      (statusFlags (ws.getD 0 0) = true → t.flag F.LMB_EVT_DRV_FLAG = true) ∧
      (ws.getD 1 0 ≠ a.expect → t.flag F.LMB_EVT_ECHO_MISMATCH = true) ∧
      (statusFlags (ws.getD 0 0) = false → ws.getD 1 0 = a.expect → t.flag (F.LMB_CTX_STAT_PRESENT a.ctx) = true ∧
        (t.ctxRun a.ctx).bad = 0 ∧ (t.ctxRun a.ctx).silent = 0 ∧ OnlyParts [.regs, .lamp] s t) := by
  have hexec := exec_returnFrame_echo ha hk hg
  have hfree := s.awaited_endAwait p
  have hend := s.endAwait_parts p
  generalize ws.getD 0 0 = status at hexec ⊢
  generalize ws.getD 1 0 = check at hexec ⊢
  generalize s.endAwait p = u at hexec hfree hend
  obtain ⟨hstatus, -, habsent, hexpect, hcheck, -, -⟩ := u.echoSet_spec a.ctx status a.expect check
  obtain ⟨hflds, hawaits, hflag, hdiffers⟩ := u.echoReturn_spec a status check
  have hkeep : ∀ g ∈ [F.LMB_CTX_STAT_STATUS a.ctx, F.LMB_CTX_STAT_ABSENT a.ctx, F.LMB_CTX_ECHO_EXPECT a.ctx,
      F.LMB_CTX_ECHO_CHECK a.ctx], (u.echoReturn a status check).fld g = (u.echoSet a.ctx status a.expect check).fld g :=
    fun g hm => hflds g (echoReports_apart a.ctx hm).1 (echoReports_apart a.ctx hm).2
  refine ⟨_, hexec, (State.awaited_congr hawaits p).trans hfree, (hkeep _ (by simp)).trans hstatus, (hkeep _ (by simp)).trans hexpect,
    (hkeep _ (by simp)).trans hcheck, ?_, hflag, hdiffers, fun hs hc => ?_⟩
  · rw [State.flag, hkeep _ (by simp)]
    exact habsent
  · subst hc
    obtain ⟨hpresent, hbad, hsilent, hparts⟩ := u.echoReturn_clean a hs
    exact ⟨hpresent, hbad, hsilent, hend.trans hparts⟩

/-- R352, R353: what a frame that does not come gives. -/
theorem execReturnTimeout_loses {s : State} {p : Nat} {a : Await} (ha : s.awaited p = some a) :
    ∃ t, exec (.returnTimeout p) s = .next t ∧ t.awaited p = none ∧ t.flag F.LMB_EVT_NO_ECHO = true ∧
      ((s.ctxRun a.ctx).silent = 2 → t.flag (F.LMB_CTX_STAT_ABSENT a.ctx) = true ∧ t.flag F.LMB_EVT_ABSENT = true) ∧
      ((s.ctxRun a.ctx).silent ≠ 2 → (s.ctxRun a.ctx).bad ≠ 2 → a.kind ≠ 2 → OnlyParts [.regs, .lamp] s t ∧
        (t.ctxRun a.ctx).silent = (s.ctxRun a.ctx).silent + 1 ∧ (t.ctxRun a.ctx).bad = (s.ctxRun a.ctx).bad + 1) := by
  obtain ⟨hfree, hecho, habsent⟩ := s.returnLost_spec a
  rw [State.awaited_port ha] at hfree
  exact ⟨_, exec_returnTimeout ha, hfree, hecho, habsent, fun hs hb hk => State.returnLost_counts hs hb hk⟩

end Sys2Proof.Machine
end

section
/-! SUPPORT. Polls of absent contexts, bank supplies, diagnostic rounds and probe periods (R333, R353, R375). -/

namespace Sys2Proof.Machine

/-! Polls (R353) -/

/-- R350: an ECHO itself is covered by no echo check. -/
theorem State.sendHk_echo (s : State) (line addr : Nat) : s.sendHk line (hkWord 1 addr false 0) = s := by
  have hop : (hkWord 1 addr false 0).toNat / 2 ^ 28 = 1 := by
    simp only [hkWord, BitVec.toNat_ofNat, Bool.toNat_false]
    omega
  unfold State.sendHk
  dsimp only
  rw [hop]
  exact List.foldl_fixed' (fun _ => rfl) _

/-- R350, R353: what an ECHO to a context of a free port does. -/
theorem State.sendEcho_spec {s : State} {x : Nat} (ha : s.awaited (x / 64) = none) :
    (s.sendEcho x).awaited (x / 64) = some ⟨x / 64, x, 0, (s.ctxRun x).crc⟩ ∧ ((s.sendEcho x).ctxRun x).polled = s.cycles ∧
      (s.sendEcho x).flag (F.LMB_PORT_STAT_RTN_BUSY (x / 64)) = true ∧ OnlyParts [.regs, .lamp] s (s.sendEcho x) ∧
      OnlyFlds [F.LMB_PORT_STAT_RTN_BUSY (x / 64)] s (s.sendEcho x) := by
  have hparts := (State.sendEcho_evolves s x (List.Subset.refl _) (.refl _ s)).parts
  have hrun := s.ctxRun_setCtxRun (r := { s.ctxRun x with crc := 0xFFFF, polled := s.cycles }) (s.ctxRun_ctx x)
  unfold State.sendEcho at hparts ⊢
  dsimp only at hparts ⊢
  rw [s.sendHk_echo] at hparts ⊢
  generalize hu : s.setCtxRun { s.ctxRun x with crc := 0xFFFF, polled := s.cycles } = u at hparts hrun ⊢
  have hawaits : u.awaited (x / 64) = none := by rw [← hu]; exact ha
  have hregs : u.regs = s.regs := by rw [← hu]; rfl
  generalize hv : ({ u with lamp := { u.lamp with
    polls := u.lamp.polls.filter (fun (q : Nat × Nat) => q.1 != x / 64) ++ [(x / 64, x)]
    diagTurn := u.lamp.diagTurn.filter (· != x / 64) } } : State) = v at hparts ⊢
  have hvawaits : v.awaited (x / 64) = none := by rw [← hv]; exact hawaits
  have hvregs : v.regs = s.regs := by rw [← hv]; exact hregs
  have hvrun : v.ctxRun x = u.ctxRun x := by rw [← hv]; rfl
  refine ⟨State.awaited_startAwait (a := ⟨x / 64, x, 0, (s.ctxRun x).crc⟩) hvawaits, ?_, State.flag_setFlag _ _ true rfl, hparts,
    (OnlyFlds.of_regs hvregs).setFlag _ true rfl (by simp)⟩
  show (v.ctxRun x).polled = _
  rw [hvrun, hrun]

/-- R353: ABSENT_POLL. -/
theorem execAbsentPoll_asks {s : State} {x : Nat} (hab : s.flag (F.LMB_CTX_STAT_ABSENT x) = true) (hen : s.flag (F.LMB_CTX_CTL_EN x) = true)
    (hd : s.portDark (x / 64) = false) (ha : s.awaited (x / 64) = none) :
    ∃ t, exec (.absentPoll x) s = .next t ∧ t.cycles = max s.cycles ((s.ctxRun x).polled + msCycles 100) ∧
      t.awaited (x / 64) = some ⟨x / 64, x, 0, (s.ctxRun x).crc⟩ ∧ (t.ctxRun x).polled = t.cycles ∧
      t.flag (F.LMB_PORT_STAT_RTN_BUSY (x / 64)) = true ∧ OnlyParts [.regs, .cycles, .wall, .lamp] s t ∧
      OnlyFlds [F.LMB_PORT_STAT_RTN_BUSY (x / 64)] s t := by
  have hexec : exec (.absentPoll x) s = .next ((s.untilCycle ((s.ctxRun x).polled + msCycles 100)).sendEcho x) :=
    congrArg Host.Outcome.next (if_pos ⟨hab, hen, hd, ha⟩)
  have hcycles := s.untilCycle_cycles ((s.ctxRun x).polled + msCycles 100)
  have htime := s.untilCycle_flds [F.LMB_PORT_STAT_RTN_BUSY (x / 64)] ((s.ctxRun x).polled + msCycles 100)
  have hpass : OnlyParts [.cycles, .wall] s (s.untilCycle ((s.ctxRun x).polled + msCycles 100)) :=
    (State.untilCycle_evolves s _ (List.Subset.refl _) (.refl _ s)).parts
  have hrun : (s.untilCycle ((s.ctxRun x).polled + msCycles 100)).ctxRun x = s.ctxRun x := State.ctxRun_congr (hpass .lamp (by decide)) x
  have hfree : (s.untilCycle ((s.ctxRun x).polled + msCycles 100)).awaited (x / 64) = none :=
    (State.awaited_congr (congrArg LampState.awaits (hpass .lamp (by decide))) _).trans ha
  generalize s.untilCycle ((s.ctxRun x).polled + msCycles 100) = u at hexec hcycles htime hpass hrun hfree
  obtain ⟨hasked, hpolled, hbusy, hparts, hflds⟩ := State.sendEcho_spec hfree
  have hstays : (u.sendEcho x).cycles = u.cycles := hparts .cycles (by decide)
  rw [hrun] at hasked
  exact ⟨_, hexec, hstays.trans hcycles, hasked, hpolled.trans hstays.symm, hbusy, (hpass.mono (by simp)).trans (hparts.mono (by simp)),
    htime.trans hflds⟩

/-! Bank supplies (R333) -/

/-- R333: what judging a bank sets. -/
theorem State.judgeBank_spec (s : State) {b : Nat} (hb : b < 8) :
    (s.judgeBank b).flag (F.LMB_BANK_FAULT b) = s.bankWrong b ∧
      (s.judgeBank b).fld (F.LMB_BANK_SENSED b) = s.fld (F.LMB_BANK_SENSED b) ∧
      (s.flag (F.LMB_BANK_FAULT b) = false → s.bankWrong b = true → (s.judgeBank b).flag F.LMB_EVT_BANK_FAULT = true) := by
  have hset := s.flag_setFlag (F.LMB_BANK_FAULT b) (s.bankWrong b) rfl
  have hsensed : (s.setFlag (F.LMB_BANK_FAULT b) (s.bankWrong b)).fld (F.LMB_BANK_SENSED b) = s.fld (F.LMB_BANK_SENSED b) :=
    s.fld_setFlag_apart _ _ _ rfl rfl (by simp [Fld.apart_iff])
  unfold State.judgeBank
  dsimp only
  generalize s.setFlag (F.LMB_BANK_FAULT b) (s.bankWrong b) = u at hset hsensed ⊢
  rw [hset]
  split
  · generalize [0, 0, 0, 0] ++ leBytes 1 b ++ leBytes 1 (u.fld (F.LMB_BANK_SENSED b)) = detail
    have hfault := (u.event F.LMB_EVT_BANK_FAULT).fault_flds 2 4 detail
    have hkeep : ∀ g : Fld, g.ok = true → g.addr = 0x2C0040 + 0x4 * b →
        ((u.event F.LMB_EVT_BANK_FAULT).fault 2 4 detail).fld g = u.fld g := by
      intro g hg ha
      rw [hfault g hg fun f hf => by rw [List.mem_singleton.mp hf]; exact Fld.apart_of_addr (by dsimp only; omega),
        State.fld_event_apart _ _ _ rfl hg (Fld.apart_of_addr (by dsimp only; omega))]
    refine ⟨?_, (hkeep _ rfl rfl).trans hsensed, fun _ _ => ?_⟩
    · rw [State.flag, hkeep _ rfl rfl]
      exact hset
    · rw [hfault.flag (g := F.LMB_EVT_BANK_FAULT) rfl (by decide)]
      exact State.flag_event _ _ rfl
  · next h => exact ⟨hset, hsensed, fun hold hwrong => absurd (by rw [hwrong, hold]; rfl) h⟩

/-- R333: BANK_SUPPLY_CHANGE. -/
theorem execBankSupplyChange_judges {s : State} {b v : Nat} (ht : s.tileRole = true) (hb : b < 8) (hv : v < 4) :
    ∃ t, exec (.bankSupplyChange b v) s = .next t ∧ t.fld (F.LMB_BANK_SENSED b) = v ∧
      t.flag (F.LMB_BANK_FAULT b) = ((List.range 8).any (fun i => s.flag (F.LMB_PORT_CTL_EN (8 * b + i))) &&
        v != s.fld (F.LMB_BANK_VOLT b) + 1) ∧
      (s.flag (F.LMB_BANK_FAULT b) = false → t.flag (F.LMB_BANK_FAULT b) = true → t.flag F.LMB_EVT_BANK_FAULT = true) ∧
      (t.flag (F.LMB_BANK_FAULT b) = true → ∀ p, p / 8 = b → t.portDark p = true) := by
  have hexec : exec (.bankSupplyChange b v) s = .next ((s.setFld (F.LMB_BANK_SENSED b) v).judgeBank b) :=
    congrArg Host.Outcome.next (if_pos ⟨ht, hb, hv⟩)
  have hsensed : (s.setFld (F.LMB_BANK_SENSED b) v).fld (F.LMB_BANK_SENSED b) = v :=
    (s.fld_setFld_same _ v rfl).trans (Nat.mod_eq_of_lt hv)
  have hvolt : (s.setFld (F.LMB_BANK_SENSED b) v).fld (F.LMB_BANK_VOLT b) = s.fld (F.LMB_BANK_VOLT b) :=
    s.fld_setFld_apart _ _ _ rfl rfl (by simp [Fld.apart_iff])
  have hfault : (s.setFld (F.LMB_BANK_SENSED b) v).flag (F.LMB_BANK_FAULT b) = s.flag (F.LMB_BANK_FAULT b) := by
    rw [State.flag, s.fld_setFld_apart _ _ _ rfl rfl (by simp [Fld.apart_iff]), State.flag]
  have hports : ∀ i, (s.setFld (F.LMB_BANK_SENSED b) v).flag (F.LMB_PORT_CTL_EN (8 * b + i)) =
      s.flag (F.LMB_PORT_CTL_EN (8 * b + i)) := by
    intro i
    rw [State.flag, s.fld_setFld_apart _ _ _ rfl rfl (Fld.apart_of_addr (by dsimp only; omega)), State.flag]
  generalize s.setFld (F.LMB_BANK_SENSED b) v = u at hexec hsensed hvolt hfault hports
  have hwrong : u.bankWrong b =
      ((List.range 8).any (fun i => s.flag (F.LMB_PORT_CTL_EN (8 * b + i))) && v != s.fld (F.LMB_BANK_VOLT b) + 1) := by
    simp only [State.bankWrong, hsensed, hvolt, hports]
  obtain ⟨hjudged, hkept, hevent⟩ := u.judgeBank_spec hb
  refine ⟨_, hexec, hkept.trans hsensed, hjudged.trans hwrong, fun hold hnew => ?_, fun hnew p hp => ?_⟩
  · exact hevent (hfault.trans hold) (hjudged.symm.trans hnew)
  · simp [State.portDark, hp, hnew]

/-! Rounds (R375) -/

/-- When the last round began, and whether the next carries the probe pass. -/
def State.roundMarks (s : State) : Nat × Bool := (s.diag.lastRound, s.diag.due)

/-- R375: pairs that start leave the marks of the rounds. -/
theorem State.startPairs_marks (s : State) : s.startPairs.roundMarks = s.roundMarks := by
  unfold State.startPairs
  refine foldl_keeps State.roundMarks (fun u x => ?_) _ s
  dsimp only
  split
  · rfl
  split
  · split <;> rfl
  split
  · rfl
  · split <;> rfl

theorem State.roundEnds_marks (s : State) : s.roundEnds.roundMarks = s.roundMarks := by
  unfold State.roundEnds
  split
  · rfl
  split
  · rw [State.roundMarks, State.setFlag_diag, State.setFlag_diag, State.roundMarks]
  · rfl

/-- R375: what the start of a round sets. -/
theorem State.startRound_spec (s : State) (slip : Bool) :
    (s.startRound slip).diag.lastRound = s.cycles ∧ (s.startRound slip).diag.due = false ∧
      (s.startRound slip).fld F.LMB_DIAG_STAT_ROUNDS = (s.fld F.LMB_DIAG_STAT_ROUNDS + 1) % 65536 ∧
      (slip = true → (s.startRound slip).flag F.LMB_DIAG_EVT_ROUND_SLIP = true) := by
  have hslip : ∀ u : State, u = (if slip then s.event F.LMB_DIAG_EVT_ROUND_SLIP else s) →
      u.cycles = s.cycles ∧ u.fld F.LMB_DIAG_STAT_ROUNDS = s.fld F.LMB_DIAG_STAT_ROUNDS ∧
        (slip = true → u.flag F.LMB_DIAG_EVT_ROUND_SLIP = true) := by
    rintro u rfl
    split
    · exact ⟨s.event_cycles _, s.fld_event_apart _ _ rfl rfl rfl, fun _ => State.flag_event _ _ rfl⟩
    · next h => exact ⟨rfl, rfl, fun h' => absurd h' h⟩
  unfold State.startRound
  dsimp only
  generalize (if slip = true then s.event F.LMB_DIAG_EVT_ROUND_SLIP else s) = u at hslip ⊢
  obtain ⟨hcycles, hrounds, hevent⟩ := hslip u rfl
  generalize hv : ({ u with diag := { u.diag with
    lastRound := u.cycles
    due := false
    round := some ⟨u.diag.due, u.allPairs.filter (fun p => !u.portDark (p.1 / 64))⟩ } } : State) = v
  have hmarks : v.roundMarks = (s.cycles, false) := by rw [← hv, ← hcycles]; rfl
  have hregs : v.regs = u.regs := by rw [← hv]
  have hset : (((v.setFlag F.LMB_DIAG_STAT_ROUND_BUSY true).setFlag F.LMB_DIAG_STAT_PROBE_PASS u.diag.due).wrapInc
      F.LMB_DIAG_STAT_ROUNDS).fld F.LMB_DIAG_STAT_ROUNDS = (s.fld F.LMB_DIAG_STAT_ROUNDS + 1) % 65536 := by
    have hv' : v.fld F.LMB_DIAG_STAT_ROUNDS = s.fld F.LMB_DIAG_STAT_ROUNDS := by rw [State.fld, State.reg, hregs]; exact hrounds
    rw [State.fld_wrapInc_same _ _ rfl, State.fld_setFlag_apart _ _ _ _ rfl rfl rfl, State.fld_setFlag_apart _ _ _ _ rfl rfl rfl, hv']
    rfl
  have hflds : OnlyFlds [F.LMB_DIAG_STAT_ROUND_BUSY, F.LMB_DIAG_STAT_PROBE_PASS, F.LMB_DIAG_STAT_ROUNDS] u
      (((v.setFlag F.LMB_DIAG_STAT_ROUND_BUSY true).setFlag F.LMB_DIAG_STAT_PROBE_PASS u.diag.due).wrapInc F.LMB_DIAG_STAT_ROUNDS) :=
    (((OnlyFlds.of_regs hregs).setFlag _ _ rfl (by simp)).setFlag _ _ rfl (by simp)).setFld _ _ rfl (by simp)
  have hdiag : (((v.setFlag F.LMB_DIAG_STAT_ROUND_BUSY true).setFlag F.LMB_DIAG_STAT_PROBE_PASS u.diag.due).wrapInc
      F.LMB_DIAG_STAT_ROUNDS).roundMarks = v.roundMarks := by
    rw [State.roundMarks, State.wrapInc, State.setFld_diag, State.setFlag_diag, State.setFlag_diag, State.roundMarks]
  generalize ((v.setFlag F.LMB_DIAG_STAT_ROUND_BUSY true).setFlag F.LMB_DIAG_STAT_PROBE_PASS u.diag.due).wrapInc
    F.LMB_DIAG_STAT_ROUNDS = w at hset hflds hdiag ⊢
  have hends : OnlyFlds [F.LMB_DIAG_STAT_ROUND_BUSY, F.LMB_DIAG_STAT_PROBE_PASS] w w.startPairs.roundEnds :=
    (OnlyFlds.of_regs ((State.startPairs_evolves w (List.Subset.refl _) (.refl _ w)).parts .regs (by decide))).trans
      w.startPairs.roundEnds_flds
  have hall : w.startPairs.roundEnds.roundMarks = (s.cycles, false) := by
    rw [State.roundEnds_marks, State.startPairs_marks, hdiag, hmarks]
  refine ⟨congrArg Prod.fst hall, congrArg Prod.snd hall, (hends F.LMB_DIAG_STAT_ROUNDS rfl (by decide)).trans hset, fun h => ?_⟩
  rw [hends.flag (g := F.LMB_DIAG_EVT_ROUND_SLIP) rfl (by decide), hflds.flag (g := F.LMB_DIAG_EVT_ROUND_SLIP) rfl (by decide), hevent h]

/-- R375: ROUND_START. -/
theorem execRoundStart_starts {s : State} (hm : s.mode = .tile) (he : s.flag F.LMB_DIAG_CTL_EN = true) (hr : s.diag.round = none) :
    ∃ t, exec .roundStart s = .next t ∧ t.cycles = max s.cycles (s.diag.lastRound + msCycles (s.fld F.LMB_DIAG_TIME_ROUND_MS)) ∧
      t.diag.lastRound = t.cycles ∧ t.diag.due = false ∧
      t.fld F.LMB_DIAG_STAT_ROUNDS = (s.fld F.LMB_DIAG_STAT_ROUNDS + 1) % 65536 ∧
      (s.diag.lastRound + msCycles (s.fld F.LMB_DIAG_TIME_ROUND_MS) < s.cycles → 0 < s.fld F.LMB_DIAG_STAT_ROUNDS →
        t.flag F.LMB_DIAG_EVT_ROUND_SLIP = true) ∧ OnlyParts [.regs, .cycles, .wall, .diag] s t := by
  generalize hat : s.diag.lastRound + msCycles (s.fld F.LMB_DIAG_TIME_ROUND_MS) = at_
  have hexec : exec .roundStart s = .next
      ((s.untilCycle at_).startRound (decide (at_ < s.cycles ∧ 0 < s.fld F.LMB_DIAG_STAT_ROUNDS))) := by
    show execRoundStart s = _
    rw [execRoundStart, if_pos ⟨hm, he, hr⟩, hat]
  have hcycles := s.untilCycle_cycles at_
  have hpass : OnlyParts [.cycles, .wall] s (s.untilCycle at_) := (State.untilCycle_evolves s _ (List.Subset.refl _) (.refl _ s)).parts
  have hkept := s.fld_untilCycle at_ F.LMB_DIAG_STAT_ROUNDS
  generalize s.untilCycle at_ = u at hexec hcycles hpass hkept
  generalize hs : decide (at_ < s.cycles ∧ 0 < s.fld F.LMB_DIAG_STAT_ROUNDS) = slip at hexec
  obtain ⟨hlast, hdue, hrounds, hslip⟩ := u.startRound_spec slip
  have hparts : OnlyParts [.regs, .diag] u (u.startRound slip) := (State.startRound_evolves u slip (List.Subset.refl _) (.refl _ u)).parts
  have hstays : (u.startRound slip).cycles = u.cycles := hparts .cycles (by decide)
  rw [hkept] at hrounds
  exact ⟨_, hexec, hstays.trans hcycles, hlast.trans hstays.symm, hdue, hrounds, fun h1 h2 => hslip (hs ▸ decide_eq_true ⟨h1, h2⟩),
    (hpass.mono (by simp)).trans (hparts.mono (by simp))⟩

/-! Probe periods (R375) -/

/-- R375: PROBE_PERIOD_END. -/
theorem execProbePeriodEnd_ends {s : State} (ht : s.tileRole = true) :
    ∃ t, exec .probePeriodEnd s = .next t ∧ t.diag.due = true ∧ t.diag.before = s.diag.sampled ∧ t.diag.sampled = [] ∧
      (s.wall / ofMs (max 1 (s.fld F.LMB_DIAG_TIME_PROBE_MS)) + 1) * ofMs (max 1 (s.fld F.LMB_DIAG_TIME_PROBE_MS)) ≤ t.wall ∧
      OnlyParts [.cycles, .wall, .diag] s t := by
  generalize hper : ofMs (max 1 (s.fld F.LMB_DIAG_TIME_PROBE_MS)) = period
  have hexec : exec .probePeriodEnd s = .next
      { s.untilWall ((s.wall / period + 1) * period) with
        diag := { (s.untilWall ((s.wall / period + 1) * period)).diag with
          due := true, before := (s.untilWall ((s.wall / period + 1) * period)).diag.sampled, sampled := [] } } := by
    show execProbePeriodEnd s = _
    rw [execProbePeriodEnd, if_pos ht, hper]
  have hwall := s.le_untilWall ((s.wall / period + 1) * period)
  have hpass : Evolves [.cycles, .wall, .diag] s (s.untilWall ((s.wall / period + 1) * period)) :=
    State.untilWall_evolves s _ (by simp) (.refl _ s)
  have hdiag : (s.untilWall ((s.wall / period + 1) * period)).diag = s.diag :=
    s.untilWall_diag _
  generalize s.untilWall ((s.wall / period + 1) * period) = u at hexec hwall hpass hdiag
  exact ⟨_, hexec, rfl, congrArg DiagState.sampled hdiag, rfl, hwall, (Evolves.set_diag _ (by simp) hpass).parts⟩

end Sys2Proof.Machine
end

section
/-! CERTIFICATES. The Lining, the map and the lamp drivers (O51). -/

namespace Sys2Proof.Machine

/-- Settles O51: a lemma for each row says what it sets; a return frame that is not the one awaited, or not good, is the same loss as
none. -/
theorem liningAndDrivers : Obligations.LiningAndDrivers := by
  intro s
  refine ⟨fun ht hf => execLiningStageCheckDone_holds ht hf, fun ht hf hb hc => execLiningCopyDone_copies ht hf hb hc,
    fun hf => execMapCopyDone_copies hf, fun p a header ws crc _ _ ha => ⟨?good, ?bad, execReturnTimeout_loses ha⟩,
    fun x _ hab hen hd ha => execAbsentPoll_asks hab hen hd ha, fun b v ht hb hv => execBankSupplyChange_judges ht hb hv,
    fun hm he hr => execRoundStart_starts hm he hr, fun ht => execProbePeriodEnd_ends ht⟩
  case good => exact fun hk hg => execReturnFrame_echoes ha hk hg
  case bad => exact fun hg => (exec_returnFrame_bad ha hg).trans (exec_returnTimeout ha).symm

end Sys2Proof.Machine
end

section
/-! SUPPORT. States that meet the conditions which O22 and O51 ask. -/

namespace Sys2Proof.Machine

/-- A sender that takes commands at its host SPI port, with a value in CMP_MAP_STAT. -/
def mapSender (stat : Word) : State :=
  { State.reset with
    regs := [(F.SYS_STRAP_ROLE.addr, 1), (F.SYS_MODE_MODE.addr, 2), (F.CMP_MAP_STAT_COPY_BUSY.addr, stat)]
    cmd := { State.reset.cmd with comm := some ⟨[], [], 16, 1, 0, 0, []⟩ } }

/-- O22 is about direct WRITEs in the Module Map window, and about COUNTERS_CLEAR, that there are. -/
theorem mapSender_newAction :
    (mapSender 0).newAction firstHdr (.write ⟨0xFFFF, 0x400020, 0, 0, [1, 2]⟩) ∧
      (mapSender 0).newAction firstHdr (.countersClear 1) ∧ ((mapSender 0).auth firstHdr.auth).opened = none ∧
      (mapSender 0).tileRole = false := by
  unfold State.newAction State.runsNow State.takes
  decide

/-- O22 is about maps with no publication, and with one that runs. -/
theorem mapSender_publishes :
    (mapSender 0).flag F.CMP_MAP_STAT_PENDING = false ∧ (mapSender 0).flag F.CMP_MAP_STAT_COPY_BUSY = false ∧
      (mapSender 0x8000).flag F.CMP_MAP_STAT_COPY_BUSY = true := by
  decide

/-- A tile that runs its Lamp Bus, with context 0 enabled on port 0 and absent, its record `r`, the frames `awaits` awaited, and a Lining
whose staging check and copy run. -/
def lampTile (r : CtxRun) (awaits : List Await) : State :=
  { State.reset with
    regs := [(F.SYS_MODE_MODE.addr, 4), (F.TIL_LINING_STAT_COPY_BUSY.addr, 0xA000), (F.LMB_CTL_EN.addr, 0x80000000),
      (F.LMB_DIAG_CTL_EN.addr, 0x80000000), ((F.LMB_PORT_CTL_EN 0).addr, 0x80000000), ((F.LMB_CTX_CTL_EN 0).addr, 0x80000000),
      ((F.LMB_CTX_STAT_ABSENT 0).addr, 0x40000000)]
    tile := { State.reset.tile with built := true }
    lamp := { State.reset.lamp with runs := [r], awaits := awaits } }

/-- O51 is about tiles whose Lining is checked and copied, and about copies of the map, that there are. -/
theorem lampTile_copies :
    let s := lampTile ⟨0, 0xFFFF, 0, 0, 0⟩ []
    s.tileRole = true ∧ s.flag F.TIL_LINING_STAT_STAGE_BUSY = true ∧ s.flag F.TIL_LINING_STAT_COPY_BUSY = true ∧ s.tile.bank ≤ 1 ∧
      s.canon ∧ (mapSender 0x8000).flag F.CMP_MAP_STAT_COPY_BUSY = true := by
  unfold State.canon
  decide

/-- O51 is about frames that are awaited and good, with and without a check that agrees, that are not good, and that are the first and
the third in a row to be lost. -/
theorem lampTile_returns :
    let a : Await := ⟨0, 0, 0, 0x1234⟩
    (∀ r, (lampTile r [a]).awaited 0 = some a) ∧ frameGood a 0 [0, 0x1234] (returnCrc 0 [0, 0x1234]) = true ∧
      frameGood a 0 [0, 0x4321] (returnCrc 0 [0, 0x4321]) = true ∧ frameGood a 1 [] 0 = false ∧
      ((lampTile ⟨0, 0xFFFF, 0, 0, 0⟩ [a]).ctxRun 0).silent ≠ 2 ∧ ((lampTile ⟨0, 0xFFFF, 0, 0, 0⟩ [a]).ctxRun 0).bad ≠ 2 ∧
      ((lampTile ⟨0, 0xFFFF, 2, 2, 0⟩ [a]).ctxRun 0).silent = 2 := by
  exact ⟨fun _ => rfl, by simp [frameGood, returnLen], by simp [frameGood, returnLen], by decide, by decide, by decide, by decide⟩

/-- O51 is about absent contexts that are polled, and about rounds that start, that there are. -/
theorem lampTile_polls :
    let s := lampTile ⟨0, 0xFFFF, 0, 3, 0⟩ []
    s.flag (F.LMB_CTX_STAT_ABSENT 0) = true ∧ s.flag (F.LMB_CTX_CTL_EN 0) = true ∧ s.portDark 0 = false ∧ s.awaited 0 = none ∧
      s.mode = .tile ∧ s.flag F.LMB_DIAG_CTL_EN = true ∧ s.diag.round = none := by
  decide

end Sys2Proof.Machine
end

section
/-! SUPPORT. Ports and queues of the link (R216, R228, R230, R233, R258): their records under each update, and what is posted on them. -/

namespace Sys2Proof.Machine

/-! Predicates that registers alone decide -/

theorem State.reg_congr {s t : State} (h : t.regs = s.regs) (a : Nat) : t.reg a = s.reg a := by rw [State.reg, State.reg, h]

theorem State.fld_congr {s t : State} (h : t.regs = s.regs) (f : Fld) : t.fld f = s.fld f := by
  rw [State.fld, State.fld, State.reg_congr h]

theorem State.flag_congr {s t : State} (h : t.regs = s.regs) (f : Fld) : t.flag f = s.flag f := by
  rw [State.flag, State.flag, State.fld_congr h]

theorem State.tileRole_congr {s t : State} (h : t.regs = s.regs) : t.tileRole = s.tileRole := by
  rw [State.tileRole, State.tileRole, State.fld_congr h]

theorem State.senderRole_congr {s t : State} (h : t.regs = s.regs) : t.senderRole = s.senderRole := by
  rw [State.senderRole, State.senderRole, State.fld_congr h]

theorem State.mode_of_regs {s t : State} (h : t.regs = s.regs) : t.mode = s.mode := State.mode_congr (State.fld_congr h _)

theorem State.portUp_congr {s t : State} (h : t.regs = s.regs) (p : Nat) : t.portUp p = s.portUp p := by
  rw [State.portUp, State.portUp, State.fld_congr h]

theorem State.portList_congr {s t : State} (h : t.regs = s.regs) : t.portList = s.portList := by
  rw [State.portList, State.portList, State.tileRole_congr h]

theorem State.ownAddr_congr {s t : State} (h : t.regs = s.regs) : t.ownAddr = s.ownAddr := by
  rw [State.ownAddr, State.ownAddr, State.senderRole_congr h, State.fld_congr h, State.fld_congr h]

theorem State.activePort_congr {s t : State} (h : t.regs = s.regs) : t.activePort = s.activePort := State.fld_congr h _

theorem State.claim_congr {s t : State} (h : t.regs = s.regs) : t.claim = s.claim := by
  rw [State.claim, State.claim, State.fld_congr h, State.fld_congr h]

theorem State.isForMe_congr {s t : State} (h : t.regs = s.regs) (dst : Nat) : t.isForMe dst = s.isForMe dst := by
  rw [State.isForMe, State.isForMe, State.tileRole_congr h, State.ownAddr_congr h, State.fld_congr h, State.mode_of_regs h]

theorem State.relays_congr {s t : State} (h : t.regs = s.regs) (dst : Nat) : t.relays dst = s.relays dst := by
  rw [State.relays, State.relays, State.tileRole_congr h, State.ownAddr_congr h]

theorem State.wrongClaim_congr {s t : State} (h : t.regs = s.regs) (src tag : Nat) : t.wrongClaim src tag = s.wrongClaim src tag := by
  rw [State.wrongClaim, State.wrongClaim, State.tileRole_congr h, State.flag_congr h, State.claim_congr h]

/-- The register fields that tell a device's role and address (R24, R220). -/
def addrFlds : List Fld := [F.SYS_STRAP_ROLE, F.RED_STAT_RANK, F.MLK_STAT_ADDR]

theorem OnlyFlds.roles {fs : List Fld} {s t : State} (h : OnlyFlds fs s t) (ha : allApart fs addrFlds = true) :
    t.tileRole = s.tileRole ∧ t.senderRole = s.senderRole := by
  have hrole := h.fld_of_allApart ha (g := F.SYS_STRAP_ROLE) (by simp [addrFlds])
  simp only [State.tileRole, State.senderRole, hrole, and_self]

theorem OnlyFlds.ownAddr {fs : List Fld} {s t : State} (h : OnlyFlds fs s t) (ha : allApart fs addrFlds = true) :
    t.ownAddr = s.ownAddr := by
  have hrank := h.fld_of_allApart ha (g := F.RED_STAT_RANK) (by simp [addrFlds])
  have haddr := h.fld_of_allApart ha (g := F.MLK_STAT_ADDR) (by simp [addrFlds])
  simp only [State.ownAddr, (h.roles ha).2, hrank, haddr]

/-! Records of ports -/

@[simp] theorem State.port_setPort_same (s : State) (p : Nat) (x : PortState) : (s.setPort p x).port p = x := by
  have hother : (s.link.ports.filter (fun y => y.1 != p)).find? (fun y => y.1 == p) = none :=
    List.find?_eq_none.mpr (fun y hy => by simpa using (List.mem_filter.mp hy).2)
  rw [State.port, State.setPort, List.find?_append, hother]
  simp

theorem State.port_congr {s t : State} (h : t.link.ports = s.link.ports) (p : Nat) : t.port p = s.port p := by
  rw [State.port, State.port, h]

@[simp] theorem State.setPort_regs (s : State) (p : Nat) (x : PortState) : (s.setPort p x).regs = s.regs := rfl
@[simp] theorem State.setPort_sent (s : State) (p : Nat) (x : PortState) : (s.setPort p x).sent = s.sent := rfl
@[simp] theorem State.setPort_cycles (s : State) (p : Nat) (x : PortState) : (s.setPort p x).cycles = s.cycles := rfl
@[simp] theorem State.setPort_wall (s : State) (p : Nat) (x : PortState) : (s.setPort p x).wall = s.wall := rfl
@[simp] theorem State.fld_setPort (s : State) (p : Nat) (x : PortState) (f : Fld) : (s.setPort p x).fld f = s.fld f := rfl
@[simp] theorem State.flag_setPort (s : State) (p : Nat) (x : PortState) (f : Fld) : (s.setPort p x).flag f = s.flag f := rfl

theorem State.setPort_parts (s : State) (p : Nat) (x : PortState) : OnlyParts [.link] s (s.setPort p x) :=
  (State.setPort_evolves s p x (List.Subset.refl _) (.refl _ s)).parts

/-- A port's record in a state that differs in registers alone. -/
@[simp] theorem State.port_setFld (s : State) (f : Fld) (v p : Nat) : (s.setFld f v).port p = s.port p := rfl
@[simp] theorem State.port_event (s : State) (f : Fld) (p : Nat) : (s.event f).port p = s.port p := rfl
@[simp] theorem State.port_send (s : State) (o : Output) (p : Nat) : (s.send o).port p = s.port p := rfl
@[simp] theorem State.port_untilCycle (s : State) (n p : Nat) : (s.untilCycle n).port p = s.port p := rfl

/-! Messages that leave, and those that wait (R228, R258) -/

/-- A tile's message waits among its own units. -/
theorem State.sendMsg_tile {s : State} (h : s.tileRole = true) (p dst : Nat) (m : LinkMsg) (tiles : List Nat) :
    s.sendMsg p dst m tiles = { s with link := { s.link with own := s.link.own ++ [⟨p, dst, m, tiles⟩] } } := by
  rw [State.sendMsg, if_pos h]

/-- A message that asks for no acknowledgement leaves a sender, and its port's series goes on. -/
theorem State.sendMsg_sender {s : State} (h : s.tileRole = false) (p dst : Nat) {m : LinkMsg} (tiles : List Nat) (hm : asksAck m = false) :
    s.sendMsg p dst m tiles =
      (s.setPort p { s.port p with nextSeq := nextMsgSeq (s.port p).nextSeq }).send (.link p (.msg dst false false m)) := by
  rw [State.sendMsg, if_neg (by simp [h]), State.emitMsg]
  simp [hm]

theorem State.sendMsg_parts (s : State) (p dst : Nat) (m : LinkMsg) (tiles : List Nat) : OnlyParts [.sent, .link] s (s.sendMsg p dst m tiles) :=
  (State.sendMsg_evolves s p dst m tiles (List.Subset.refl _) (.refl _ s)).parts

/-- A message that asks for no acknowledgement changes the ports' records and the tile's own units, and no other part of the link. -/
theorem State.sendMsg_link (s : State) (p dst : Nat) {m : LinkMsg} (tiles : List Nat) (hm : asksAck m = false) :
    ∃ ports own, (s.sendMsg p dst m tiles).link = { s.link with ports := ports, own := own } := by
  by_cases h : s.tileRole = true
  · exact ⟨s.link.ports, _, by rw [State.sendMsg_tile h]⟩
  · exact ⟨_, s.link.own, by rw [State.sendMsg_sender (by simpa using h) _ _ _ hm]; rfl⟩

/-- What was posted before stays posted: outputs are only added to, and so are a tile's own units. -/
structure Grows (s t : State) : Prop where
  role : t.tileRole = s.tileRole
  sent : s.sent <+: t.sent
  own : s.link.own <+: t.link.own

theorem Grows.refl (s : State) : Grows s s := ⟨rfl, List.prefix_rfl, List.prefix_rfl⟩

theorem Grows.trans {s t u : State} (h : Grows s t) (k : Grows t u) : Grows s u :=
  ⟨k.role.trans h.role, h.sent.trans k.sent, h.own.trans k.own⟩

/-- An operation that leaves the link leaves what waits there. -/
theorem Grows.of_parts {ps : List Part} {s t : State} (h : OnlyParts ps s t) (hrole : t.tileRole = s.tileRole) (hsent : s.sent <+: t.sent)
    (hl : Part.link ∉ ps) : Grows s t :=
  ⟨hrole, hsent, by rw [h .link hl]⟩

theorem Grows.of_evolves {ps : List Part} {s t : State} (h : Evolves ps s t) (hrole : t.tileRole = s.tileRole) (hl : Part.link ∉ ps) :
    Grows s t := .of_parts h.parts hrole h.sent hl

theorem Grows.sendMsg (s : State) (p dst : Nat) (m : LinkMsg) (tiles : List Nat) : Grows s (s.sendMsg p dst m tiles) := by
  have h := State.sendMsg_evolves s p dst m tiles (List.Subset.refl _) (.refl _ s)
  refine ⟨State.tileRole_congr (h.parts .regs (by simp)), h.sent, ?_⟩
  unfold State.sendMsg
  split
  · exact List.prefix_append _ _
  · unfold State.emitMsg
    dsimp only
    split <;> exact List.prefix_rfl

/-- A message sent is posted. -/
theorem State.sendMsg_posts (s : State) (p dst : Nat) (m : LinkMsg) (tiles : List Nat) : Posts s (s.sendMsg p dst m tiles) p dst m := by
  refine ⟨fun h => ⟨[], tiles, [], ?_⟩, fun h => ⟨[], [], ?_⟩⟩
  · rw [State.sendMsg_tile h]
    simp
  · rw [State.sendMsg, if_neg (by simp [h]), State.emitMsg]
    dsimp only
    split <;> simp [State.send, *]

theorem Posts.after {s u t : State} {p dst : Nat} {b : LinkMsg} (h : Grows s u) (k : Posts u t p dst b) : Posts s t p dst b := by
  obtain ⟨hrole, ⟨sent, hsent⟩, ⟨own, hown⟩⟩ := h
  refine ⟨fun hr => ?_, fun hr => ?_⟩
  · obtain ⟨pre, tiles, post, h⟩ := k.1 (hrole.trans hr)
    exact ⟨own ++ pre, tiles, post, by rw [h, ← hown]; simp⟩
  · obtain ⟨pre, post, h⟩ := k.2 (hrole.trans hr)
    exact ⟨sent ++ pre, post, by rw [h, ← hsent]; simp⟩

theorem Posts.before {s u t : State} {p dst : Nat} {b : LinkMsg} (k : Posts s u p dst b) (h : Grows u t) : Posts s t p dst b := by
  obtain ⟨-, ⟨sent, hsent⟩, ⟨own, hown⟩⟩ := h
  refine ⟨fun hr => ?_, fun hr => ?_⟩
  · obtain ⟨pre, tiles, post, h⟩ := k.1 hr
    exact ⟨pre, tiles, post ++ own, by rw [← hown, h]; simp⟩
  · obtain ⟨pre, post, h⟩ := k.2 hr
    exact ⟨pre, post ++ sent, by rw [← hsent, h]; simp⟩

/-! Acknowledgements (R230) -/

theorem Acked.after {s u t : State} {m : MsgHdr} {x : Status} (h : Grows s u) (k : Acked u t m x) : Acked s t m x :=
  fun hm => (k hm).after h

theorem State.ackMsg_acked (s : State) (m : MsgHdr) (x : Status) : Acked s (s.ackMsg m x) m x := by
  intro h
  rw [State.ackMsg, if_pos h]
  exact s.sendMsg_posts _ _ _ _

theorem State.ackMsg_parts (s : State) (m : MsgHdr) (x : Status) : OnlyParts [.sent, .link] s (s.ackMsg m x) :=
  (State.ackMsg_evolves s m x (List.Subset.refl _) (.refl _ s)).parts

@[simp] theorem State.ackMsg_regs (s : State) (m : MsgHdr) (x : Status) : (s.ackMsg m x).regs = s.regs := s.ackMsg_parts m x .regs (by simp)
@[simp] theorem State.ackMsg_tile (s : State) (m : MsgHdr) (x : Status) : (s.ackMsg m x).tile = s.tile := s.ackMsg_parts m x .tile (by simp)
@[simp] theorem State.fld_ackMsg (s : State) (m : MsgHdr) (x : Status) (f : Fld) : (s.ackMsg m x).fld f = s.fld f :=
  State.fld_congr (s.ackMsg_regs m x) f
@[simp] theorem State.flag_ackMsg (s : State) (m : MsgHdr) (x : Status) (f : Fld) : (s.ackMsg m x).flag f = s.flag f :=
  State.flag_congr (s.ackMsg_regs m x) f

/-- An acknowledgement changes the ports' records and a tile's own units, and no other part of the link. -/
theorem State.ackMsg_link (s : State) (m : MsgHdr) (x : Status) : ∃ ports own, (s.ackMsg m x).link = { s.link with ports := ports, own := own } := by
  rw [State.ackMsg]
  split
  · exact s.sendMsg_link _ _ _ rfl
  · exact ⟨s.link.ports, s.link.own, rfl⟩

theorem Grows.ackMsg (s : State) (m : MsgHdr) (x : Status) : Grows s (s.ackMsg m x) := by
  unfold State.ackMsg
  split
  · exact .sendMsg _ _ _ _ _
  · exact .refl s

/-- An acknowledgement of a tile waits among its own units, so that nothing is sent. -/
theorem State.ackMsg_sent_tile {s : State} (h : s.tileRole = true) (m : MsgHdr) (x : Status) : (s.ackMsg m x).sent = s.sent := by
  unfold State.ackMsg
  split
  · rw [State.sendMsg_tile h]
  · rfl

end Sys2Proof.Machine
end

section
/-! SUPPORT. Reception (R220, R227, R228, R253, R257): each outcome of a message, and the state in which a device acts on one that it
hears. -/

namespace Sys2Proof.Machine

/-- R233, R257: a message whose CHECK matches has arrived: its block counts, and a tile passes it on. -/
def State.passed (s : State) (m : MsgHdr) (b : LinkMsg) : State :=
  if (s.blockSeen m.port).relays m.dst then (s.blockSeen m.port).relayMsg m b else s.blockSeen m.port

/-- R228: a message that is heard: its number is kept. -/
def State.heard (s : State) (m : MsgHdr) (b : LinkMsg) : State := (s.passed m b).keepSeq m.src m.seq

theorem State.blockSeen_parts (s : State) (p : Nat) : OnlyParts [.link] s (s.blockSeen p) := s.setPort_parts _ _

@[simp] theorem State.blockSeen_regs (s : State) (p : Nat) : (s.blockSeen p).regs = s.regs := rfl
@[simp] theorem State.blockSeen_sent (s : State) (p : Nat) : (s.blockSeen p).sent = s.sent := rfl
@[simp] theorem State.blockSeen_tile (s : State) (p : Nat) : (s.blockSeen p).tile = s.tile := rfl
@[simp] theorem State.fld_blockSeen (s : State) (p : Nat) (f : Fld) : (s.blockSeen p).fld f = s.fld f := rfl
@[simp] theorem State.flag_blockSeen (s : State) (p : Nat) (f : Fld) : (s.blockSeen p).flag f = s.flag f := rfl

theorem State.passed_parts (s : State) (m : MsgHdr) (b : LinkMsg) : OnlyParts [.sent, .link] s (s.passed m b) := by
  unfold State.passed
  exact (Evolves.ite (State.relayMsg_evolves _ m b (by simp) (State.blockSeen_evolves s m.port (by simp) (.refl _ s)))
    (State.blockSeen_evolves s m.port (by simp) (.refl _ s))).parts

@[simp] theorem State.passed_regs (s : State) (m : MsgHdr) (b : LinkMsg) : (s.passed m b).regs = s.regs := s.passed_parts m b .regs (by simp)

theorem State.passed_sent (s : State) (m : MsgHdr) (b : LinkMsg) : (s.passed m b).sent = s.sent ++ s.relayed m b := by
  unfold State.passed State.relayed State.relayMsg
  rw [State.relays_congr (s.blockSeen_regs m.port), State.portUp_congr (s.blockSeen_regs m.port)]
  by_cases hr : s.relays m.dst = true <;> by_cases hp : s.portUp (otherPort m.port) = true <;> simp [hr, hp, State.send]

theorem State.passed_link (s : State) (m : MsgHdr) (b : LinkMsg) : (s.passed m b).link = (s.blockSeen m.port).link := by
  unfold State.passed State.relayMsg
  split
  · split <;> rfl
  · rfl

theorem State.heard_parts (s : State) (m : MsgHdr) (b : LinkMsg) : OnlyParts [.sent, .link] s (s.heard m b) :=
  (s.passed_parts m b).trans (State.keepSeq_evolves (s.passed m b) m.src m.seq (by simp) (.refl _ _)).parts

@[simp] theorem State.heard_regs (s : State) (m : MsgHdr) (b : LinkMsg) : (s.heard m b).regs = s.regs := s.heard_parts m b .regs (by simp)
@[simp] theorem State.heard_tile (s : State) (m : MsgHdr) (b : LinkMsg) : (s.heard m b).tile = s.tile := s.heard_parts m b .tile (by simp)
@[simp] theorem State.heard_cycles (s : State) (m : MsgHdr) (b : LinkMsg) : (s.heard m b).cycles = s.cycles := s.heard_parts m b .cycles (by simp)
@[simp] theorem State.heard_wall (s : State) (m : MsgHdr) (b : LinkMsg) : (s.heard m b).wall = s.wall := s.heard_parts m b .wall (by simp)
@[simp] theorem State.heard_flip (s : State) (m : MsgHdr) (b : LinkMsg) : (s.heard m b).flip = s.flip := s.heard_parts m b .flip (by simp)
@[simp] theorem State.heard_sched (s : State) (m : MsgHdr) (b : LinkMsg) : (s.heard m b).sched = s.sched := s.heard_parts m b .sched (by simp)
@[simp] theorem State.fld_heard (s : State) (m : MsgHdr) (b : LinkMsg) (f : Fld) : (s.heard m b).fld f = s.fld f := State.fld_congr (s.heard_regs m b) f
@[simp] theorem State.flag_heard (s : State) (m : MsgHdr) (b : LinkMsg) (f : Fld) : (s.heard m b).flag f = s.flag f :=
  State.flag_congr (s.heard_regs m b) f
@[simp] theorem State.heard_tileRole (s : State) (m : MsgHdr) (b : LinkMsg) : (s.heard m b).tileRole = s.tileRole :=
  State.tileRole_congr (s.heard_regs m b)
@[simp] theorem State.heard_senderRole (s : State) (m : MsgHdr) (b : LinkMsg) : (s.heard m b).senderRole = s.senderRole :=
  State.senderRole_congr (s.heard_regs m b)

theorem State.heard_sent (s : State) (m : MsgHdr) (b : LinkMsg) : (s.heard m b).sent = s.sent ++ s.relayed m b := s.passed_sent m b

/-- A message that is heard changes the ports' records and the numbers seen, and no other part of the link. -/
theorem State.heard_link (s : State) (m : MsgHdr) (b : LinkMsg) :
    ∃ ports seen, (s.heard m b).link = { s.link with ports := ports, seen := seen } :=
  ⟨_, _, by rw [State.heard, State.keepSeq, s.passed_link m b]; rfl⟩

theorem Grows.heard (s : State) (m : MsgHdr) (b : LinkMsg) : Grows s (s.heard m b) := by
  obtain ⟨ports, seen, h⟩ := s.heard_link m b
  exact ⟨by simp, by rw [s.heard_sent]; exact List.prefix_append _ _, by rw [h]⟩

/-! What is counted and discarded -/

/-- R220: a CHECK that fails sets CRC_ERR and is counted. -/
theorem State.crcError_spec (s : State) :
    let t := s.eventCount F.MLK_EVT_CRC_ERR F.MLK_DISC_CNT_CRC_ERR_COUNT
    t.flag F.MLK_EVT_CRC_ERR = true ∧ t.fld F.MLK_DISC_CNT_CRC_ERR_COUNT = min (s.fld F.MLK_DISC_CNT_CRC_ERR_COUNT + 1) 65535 ∧
      OnlyParts [.regs] s t ∧ OnlyFlds [F.MLK_EVT_CRC_ERR, F.MLK_DISC_CNT_CRC_ERR_COUNT] s t :=
  ⟨State.flag_of_fld (b := true) (s.fld_eventCount_event _ _ rfl rfl rfl), s.fld_eventCount_count _ _ rfl rfl rfl,
    (State.eventCount_evolves s _ _ (List.Subset.refl _) (.refl _ s)).parts, (OnlyFlds.refl _ s).eventCount _ _ rfl rfl (by simp) (by simp)⟩

/-- R253: a unit under another claim sets CLAIM_DISC and is counted. -/
theorem State.claimDiscard_spec (s : State) :
    s.claimDiscard.flag F.MLK_EVT_CLAIM_DISC = true ∧
      s.claimDiscard.fld F.MLK_DISC_CNT_CLAIM_DISC_COUNT = min (s.fld F.MLK_DISC_CNT_CLAIM_DISC_COUNT + 1) 65535 ∧
      s.claimDiscard.link.discSince = s.link.discSince + 1 ∧ s.claimDiscard.sent = s.sent ∧ OnlyParts [.regs, .link] s s.claimDiscard ∧
      OnlyFlds [F.MLK_EVT_CLAIM_DISC, F.MLK_DISC_CNT_CLAIM_DISC_COUNT] s s.claimDiscard :=
  ⟨State.flag_of_fld (b := true) (s.fld_eventCount_event _ _ rfl rfl rfl), s.fld_eventCount_count _ _ rfl rfl rfl,
    congrArg (·.discSince + 1) (s.eventCount_link _ _), s.eventCount_sent _ _,
    (State.claimDiscard_evolves s (List.Subset.refl _) (.refl _ s)).parts,
    ((OnlyFlds.refl _ s).eventCount F.MLK_EVT_CLAIM_DISC F.MLK_DISC_CNT_CLAIM_DISC_COUNT rfl rfl (by simp) (by simp)).trans (.of_regs rfl)⟩

/-! The outcomes -/

section
variable {s : State} {m : MsgHdr} (b : LinkMsg) (exempt : Bool) (act : State → State × Status)

theorem State.receive_down (hu : s.portUp m.port = false) : s.receive m b exempt act = s := by
  rw [State.receive, hu]; rfl

theorem State.receive_badCheck (hu : s.portUp m.port = true) (hc : m.checkOk = false) :
    s.receive m b exempt act = (s.blockSeen m.port).eventCount F.MLK_EVT_CRC_ERR F.MLK_DISC_CNT_CRC_ERR_COUNT := by
  rw [State.receive, hu, hc]; rfl

theorem State.receive_eq (hu : s.portUp m.port = true) (hc : m.checkOk = true) :
    s.receive m b exempt act =
      if !s.isForMe m.dst then s.passed m b
      else if !exempt && s.wrongClaim m.src m.claimTag then (s.passed m b).claimDiscard
      else if s.seenSeq m.src m.seq then (s.passed m b).ackMsg m .ok
      else (act (s.heard m b)).1.ackMsg m (act (s.heard m b)).2 := by
  have hseen : (s.passed m b).seenSeq m.src m.seq = s.seenSeq m.src m.seq := by
    rw [State.seenSeq, s.passed_link]; rfl
  rw [State.receive, hu, hc]
  simp only [Bool.not_true, Bool.false_eq_true, if_false]
  rw [← State.passed, State.isForMe_congr (s.passed_regs m b), State.wrongClaim_congr (s.passed_regs m b), hseen]
  rfl

theorem State.receive_other (hu : s.portUp m.port = true) (hc : m.checkOk = true) (hd : s.isForMe m.dst = false) :
    s.receive m b exempt act = s.passed m b := by
  rw [State.receive_eq b exempt act hu hc, hd]; rfl

theorem State.receive_wrongClaim (hu : s.portUp m.port = true) (hc : m.checkOk = true) (hd : s.isForMe m.dst = true)
    (hw : s.wrongClaim m.src m.claimTag = true) : s.receive m b false act = (s.passed m b).claimDiscard := by
  rw [State.receive_eq b false act hu hc, hd, hw]; rfl

theorem State.receive_seen (hu : s.portUp m.port = true) (hc : m.checkOk = true) (hd : s.isForMe m.dst = true)
    (hw : s.wrongClaim m.src m.claimTag = false) (hs : s.seenSeq m.src m.seq = true) :
    s.receive m b exempt act = (s.passed m b).ackMsg m .ok := by
  rw [State.receive_eq b exempt act hu hc, hd, hw, hs]; simp

/-- R227: a message that is heard acts, and is acknowledged with the status that it gives. -/
theorem State.receive_hears (h : s.hears m) :
    s.receive m b exempt act = (act (s.heard m b)).1.ackMsg m (act (s.heard m b)).2 := by
  obtain ⟨⟨-, hu, hc⟩, hd, hw, hs⟩ := h
  rw [State.receive_eq b exempt act hu hc, hd, hw, hs]; simp

/-- A message whose effect has no status of its own. -/
theorem State.receiveOk_hears (g : State → State) (h : s.hears m) : s.receiveOk m b exempt g = (g (s.heard m b)).ackMsg m .ok :=
  State.receive_hears b exempt _ h

end

/-- Each message that the filters take is received, with what it does. -/
theorem exec_carriedBy {i : Instr} {m : MsgHdr} {b : LinkMsg} (h : carriedBy i = some (m, b)) :
    ∃ act : State → State × Status, ∀ s, exec i s = .next (s.receive m b false act) := by
  cases i <;> simp only [carriedBy, Option.some.injEq, Prod.mk.injEq, reduceCtorEq] at h <;> obtain ⟨rfl, rfl⟩ := h <;>
    exact ⟨_, fun _ => rfl⟩

end Sys2Proof.Machine
end

section
/-! CERTIFICATES. Which messages a device acts on (O42). -/

namespace Sys2Proof.Machine

/-- Settles O42: by the outcomes of reception, which are the same for each message that the filters take. -/
theorem messagesAreFiltered : Obligations.MessagesAreFiltered := by
  intro s i m b hi
  obtain ⟨act, hexec⟩ := exec_carriedBy hi
  refine ⟨fun hu => ?down, fun hu hc => ?badCheck, fun hu hc => ⟨fun hd => ?other, fun hd hw => ?claim, fun hd hw hs => ?seen⟩⟩
  case down => rw [hexec, State.receive_down _ _ _ hu]
  case badCheck =>
    obtain ⟨hflag, hcount, hparts, hflds⟩ := (s.blockSeen m.port).crcError_spec
    exact ⟨_, by rw [hexec, State.receive_badCheck _ _ _ hu hc], hflag, hcount,
      ((s.blockSeen_parts m.port).mono (by simp)).trans (hparts.mono (by simp)), (OnlyFlds.of_regs rfl).trans hflds⟩
  case other => exact ⟨_, by rw [hexec, State.receive_other _ _ _ hu hc hd], s.passed_sent m b, s.passed_parts m b⟩
  case claim =>
    obtain ⟨hflag, hcount, hdisc, hsent, hparts, hflds⟩ := (s.passed m b).claimDiscard_spec
    refine ⟨_, by rw [hexec, State.receive_wrongClaim _ _ hu hc hd hw], hsent.trans (s.passed_sent m b), hflag, ?_, ?_,
      ((s.passed_parts m b).mono (by simp)).trans (hparts.mono (by simp)), (OnlyFlds.of_regs (s.passed_regs m b)).trans hflds⟩
    · rw [hcount, State.fld_congr (s.passed_regs m b)]
    · rw [hdisc, s.passed_link m b]
      rfl
  case seen =>
    have hgrows : Grows s (s.passed m b) :=
      ⟨State.tileRole_congr (s.passed_regs m b), by rw [s.passed_sent]; exact List.prefix_append _ _, by rw [s.passed_link]; exact List.prefix_rfl⟩
    obtain ⟨post, hpost⟩ := (Grows.ackMsg (s.passed m b) m .ok).sent
    exact ⟨_, by rw [hexec, State.receive_seen _ _ _ hu hc hd hw hs], ⟨post, by rw [← hpost, s.passed_sent]⟩,
      ((s.passed m b).ackMsg_acked m .ok).after hgrows, (s.passed_parts m b).trans ((s.passed m b).ackMsg_parts m .ok)⟩

end Sys2Proof.Machine
end

section
/-! SUPPORT. Bursts in the pixel store (R225, R301, R302): where a module's pixels go, and what a burst leaves. -/

namespace Sys2Proof.Machine

/-! Places (R301, R302) -/

theorem State.half_setHalves_inside (s : State) (h : Nat) (vs : List Nat) {k : Nat} (hk : k < vs.length) :
    (s.setHalves h vs).half (h + k) = vs.getD k 0 % 65536 := by
  rw [State.half, State.setHalves, Sparse.get_putRun_inside storeReset _ _ _ k (by simpa using hk), List.getD_eq_getElem _ _ hk]
  simp

theorem State.half_setHalves_outside (s : State) {h g : Nat} (vs : List Nat) (hg : g < h ∨ h + vs.length ≤ g) :
    (s.setHalves h vs).half g = s.half g :=
  congrArg BitVec.toNat (Sparse.get_putRun_outside _ _ _ (by simpa using hg))

/-- R301: two pixels of a footprint row go to two tile pixels. -/
theorem entryPlace_ne (e : ModuleEntry) {i j : Nat} (row : Nat) (hi : i < (entryFoot e).1) (hj : j < (entryFoot e).1) (hne : i ≠ j) :
    entryPlace e i row ≠ entryPlace e j row := by
  have halong : (if e.orient / 2 % 2 = 1 then (entryFoot e).1 - 1 - i else i) ≠ (if e.orient / 2 % 2 = 1 then (entryFoot e).1 - 1 - j else j) := by
    split <;> omega
  unfold entryPlace
  dsimp only
  intro h
  split at h
  · exact halong (Nat.add_left_cancel (congrArg Prod.snd h))
  · exact halong (Nat.add_left_cancel (congrArg Prod.fst h))

/-- A place lies within the tile. -/
def State.inTile (s : State) (q : Nat × Nat) : Prop := q.1 < s.tileW ∧ q.2 < s.tileH

/-- R302: the first halfword of a tile pixel in buffer b of area a. -/
def State.pixelHalf (s : State) (a b : Nat) (q : Nat × Nat) : Nat := s.framePixel a b (q.2 * s.tileW + q.1)

theorem State.inTile_congr {s t : State} (h : t.regs = s.regs) (q : Nat × Nat) : t.inTile q ↔ s.inTile q := by
  simp only [State.inTile, State.tileW, State.tileH, State.fld_congr h]

theorem State.pixelHalf_congr {s t : State} (h : t.regs = s.regs) (a b : Nat) (q : Nat × Nat) : t.pixelHalf a b q = s.pixelHalf a b q := by
  simp only [State.pixelHalf, State.framePixel, State.tileW, State.tileH, State.fld_congr h]

/-- R302: the three halfwords of a tile pixel are no other pixel's. -/
theorem State.pixelHalf_apart (s : State) (a b : Nat) {q r : Nat × Nat} (hq : s.inTile q) (hr : s.inTile r) (hne : q ≠ r) {k l : Nat}
    (hk : k < 3) (hl : l < 3) : s.pixelHalf a b q + k ≠ s.pixelHalf a b r + l := by
  obtain ⟨qx, qy⟩ := q
  obtain ⟨rx, ry⟩ := r
  obtain ⟨hqx, -⟩ := hq
  obtain ⟨hrx, -⟩ := hr
  dsimp only at hqx hrx
  have hpixel : qy * s.tileW + qx ≠ ry * s.tileW + rx := by
    intro h
    have hx : qx = rx := by
      have := congrArg (· % s.tileW) h
      simpa [Nat.mod_eq_of_lt hqx, Nat.mod_eq_of_lt hrx] using this
    have hy : qy = ry := Nat.eq_of_mul_eq_mul_right (Nat.zero_lt_of_lt hqx) (by omega)
    exact hne (by rw [hx, hy])
  have hbase : ∀ n, s.framePixel a b n = (3 * a + b) * (3 * s.tileW * s.tileH) + 3 * n := by
    intro n
    have : (3 * a + b) * (6 * s.tileW * s.tileH) + 6 * n = 2 * ((3 * a + b) * (3 * s.tileW * s.tileH) + 3 * n) := by ring
    rw [State.framePixel, storeAt, this, Nat.mul_div_cancel_left _ (by decide)]
  rw [State.pixelHalf, State.pixelHalf, hbase, hbase]
  dsimp only
  omega

/-! Pixels one after another -/

section
variable (a b : Nat) (e : ModuleEntry) (row : Nat) (spans : Option (List Span))

/-- R301, R302: pixel number `p.2` of a burst, of value `p.1`, goes into buffer b of area a. -/
def State.placePixel (s : State) (p : Nat × Nat) : State :=
  if (entryPlace e p.2 row).1 < s.tileW ∧ (entryPlace e p.2 row).2 < s.tileH then
    s.setHalves (s.pixelHalf a b (entryPlace e p.2 row)) (frameWords spans p.2 p.1) else s

theorem State.placePixel_regs (s : State) (p : Nat × Nat) : (s.placePixel a b e row spans p).regs = s.regs := by
  unfold State.placePixel
  split <;> rfl

theorem State.placePixel_areas (s : State) (p : Nat × Nat) : (s.placePixel a b e row spans p).tile.areas = s.tile.areas := by
  unfold State.placePixel
  split <;> rfl

theorem State.placePixel_other (s : State) (p : Nat × Nat) {h : Nat}
    (hh : s.inTile (entryPlace e p.2 row) → ∀ k, k < 3 → h ≠ s.pixelHalf a b (entryPlace e p.2 row) + k) :
    (s.placePixel a b e row spans p).half h = s.half h := by
  unfold State.placePixel
  split
  · next hin =>
    refine s.half_setHalves_outside _ ?_
    have h0 := hh hin 0
    have h1 := hh hin 1
    have h2 := hh hin 2
    simp only [frameWords, List.length_cons, List.length_nil]
    omega
  · rfl

/-- A halfword of no pixel of a run keeps its value. -/
theorem State.placePixels_other (us : List Nat) (n : Nat) (s : State) {h : Nat}
    (hh : ∀ i, i < us.length → s.inTile (entryPlace e (n + i) row) → ∀ k, k < 3 → h ≠ s.pixelHalf a b (entryPlace e (n + i) row) + k) :
    ((us.zipIdx n).foldl (State.placePixel a b e row spans) s).half h = s.half h := by
  induction us generalizing n s with
  | nil => rfl
  | cons u us ih =>
    have hregs := s.placePixel_regs a b e row spans (u, n)
    rw [List.zipIdx_cons, List.foldl_cons, ih (n + 1) _ (fun i hi hin k hk => ?_)]
    · exact s.placePixel_other a b e row spans (u, n) (hh 0 (by simp))
    · rw [State.inTile_congr hregs, Nat.add_assoc, Nat.add_comm 1] at hin
      rw [State.pixelHalf_congr hregs, Nat.add_assoc, Nat.add_comm 1]
      exact hh (i + 1) (by simpa using hi) hin k hk

/-- Each pixel of a run within a footprint row stands where its place is. -/
theorem State.placePixels_at (us : List Nat) (n : Nat) (s : State) (hn : n + us.length ≤ (entryFoot e).1) {i k : Nat} (hi : i < us.length)
    (hin : s.inTile (entryPlace e (n + i) row)) (hk : k < 3) :
    ((us.zipIdx n).foldl (State.placePixel a b e row spans) s).half (s.pixelHalf a b (entryPlace e (n + i) row) + k) =
      (frameWords spans (n + i) (us.getD i 0)).getD k 0 % 65536 := by
  induction us generalizing n s i with
  | nil => simp at hi
  | cons u us ih =>
    have hregs := s.placePixel_regs a b e row spans (u, n)
    simp only [List.length_cons] at hn hi
    rw [List.zipIdx_cons, List.foldl_cons]
    cases i with
    | zero =>
      rw [State.placePixels_other _ _ _ _ _ _ _ _ (fun j hj hout l hl => ?_)]
      · have hset : s.placePixel a b e row spans (u, n) = s.setHalves (s.pixelHalf a b (entryPlace e n row)) (frameWords spans n u) := if_pos hin
        rw [hset]
        exact s.half_setHalves_inside _ _ (by simpa [frameWords] using hk)
      · rw [State.inTile_congr hregs] at hout
        rw [State.pixelHalf_congr hregs]
        exact s.pixelHalf_apart a b hin hout (entryPlace_ne e row (by omega) (by omega) (by omega)) hk hl
    | succ i =>
      have h := ih (n + 1) (s.placePixel a b e row spans (u, n)) (by omega) (i := i) (by omega)
        (by rwa [State.inTile_congr hregs, Nat.add_assoc, Nat.add_comm 1])
      rwa [State.pixelHalf_congr hregs, Nat.add_assoc, Nat.add_comm 1] at h

end

theorem State.placeBurst_eq (s : State) (a b : Nat) (e : ModuleEntry) (u : Burst) :
    s.placeBurst a b e u = u.pixels.zipIdx.foldl (State.placePixel a b e u.row u.spans) s := rfl

theorem State.placeBurst_areas (s : State) (a b : Nat) (e : ModuleEntry) (u : Burst) : (s.placeBurst a b e u).tile.areas = s.tile.areas := by
  rw [s.placeBurst_eq]
  exact foldl_keeps (fun t => t.tile.areas) (fun t p => t.placePixel_areas a b e u.row u.spans p) _ s

/-! Areas (R304 to R306) -/

/-- The area that a view has stands in the list. -/
theorem State.areaOf_mem {s : State} {view a : Nat} {x : Area} (h : s.areaOf view = some (a, x)) : (a, x) ∈ s.tile.areas :=
  List.mem_of_find?_eq_some h

/-- An area's record, replaced where it stands. -/
theorem State.mem_setArea {s : State} {a : Nat} {x : Area} (y : Area) (h : (a, x) ∈ s.tile.areas) : (a, y) ∈ (s.setArea a y).tile.areas :=
  List.mem_map.mpr ⟨(a, x), h, if_pos rfl⟩

theorem State.tileRuns_tileRole {s : State} (h : s.tileRuns = true) : s.tileRole = true := by
  simp only [State.tileRuns, Bool.and_eq_true] at h
  exact h.1.1

/-! The unit (R225, R253) -/

/-- R225, R303: a burst that is for the tile, under the highest claim, is taken. -/
theorem exec_burstUnit_own {s : State} {p : Nat} (room : Bool) {b : Burst} (hr : s.tileRuns = true) (hp : p < 2) (hu : s.portUp p = true)
    (hm : burstMalformed b = false) (ht : b.tile = s.ownAddr) (hs : s.flag F.MLK_CLAIM_SEEN = true) (hc : b.claimTag = claimTag s.claim) :
    exec (.burstUnit p room b) s = .next ((s.blockSeen p).takeBurst b) := by
  show execBurstUnit p room b s = _
  have hown : (s.blockSeen p).ownAddr = s.ownAddr := rfl
  have hclaim : (s.blockSeen p).claim = s.claim := rfl
  have hruns : (s.blockSeen p).tileRuns = true := hr
  rw [execBurstUnit, if_pos ⟨State.tileRuns_tileRole hr, hp, hu⟩]
  simp [hm, hown, ht, hs, hclaim, hc, hruns]

/-- R225: a burst of the flip that fills its view's buffer is placed there and counted. -/
theorem State.takeBurst_fills {s : State} {u : Burst} {a : Nat} {x : Area} {e : ModuleEntry} {f : FillBuf} (ha : s.areaOf u.view = some (a, x))
    (he : s.burstEntry u = some e) (hf : x.fill = some f) (hl : f.flip.num % 2 ^ 32 = u.flipLo) :
    s.takeBurst u = (s.placeBurst a f.buf e u).setArea a
      { x with fill := some { f with tally := f.tally.add u, bad := f.bad || !burstSpansOk u } } := by
  simp only [State.takeBurst, ha, he, hf, if_pos hl]

/-- R225: a burst that counts has the width of its module's footprint row. -/
theorem State.burstEntry_count {s : State} {u : Burst} {e : ModuleEntry} (h : s.burstEntry u = some e) : u.count = (entryFoot e).1 := by
  unfold State.burstEntry at h
  split at h
  · split at h
    · next e' _ =>
      split at h
      · next hfits => exact Option.some.inj h ▸ hfits.2
      · cases h
    · cases h
  · cases h

end Sys2Proof.Machine
end

section
/-! CERTIFICATES. Bursts fill the frame (O45). -/

namespace Sys2Proof.Machine

/-- Settles O45: a module's pixels go to tile pixels of their own, so that placing one leaves those placed before. -/
theorem burstsFillTheFrame : Obligations.BurstsFillTheFrame := by
  intro s p room b a x e f hr hp hu hm ht hs hc ha he hf hl
  have hcount := State.burstEntry_count he
  have hlen : b.pixels.length = b.count := by
    by_contra hne
    simp [burstMalformed, hne] at hm
  refine ⟨_, exec_burstUnit_own room hr hp hu hm ht hs hc, ?_⟩
  rw [State.takeBurst_fills (s := s.blockSeen p) ha he hf hl]
  refine ⟨?parts, ?area, fun i hi hx hy k hk => ?pixel, fun h hh => ?other⟩
  case parts =>
    exact (State.setArea_evolves _ a _ (by simp) (State.placeBurst_evolves _ a f.buf e b (by simp)
      (State.blockSeen_evolves s p (by simp) (.refl _ s)))).parts
  case area =>
    refine State.mem_setArea (x := x) _ ?_
    rw [State.placeBurst_areas]
    exact State.areaOf_mem ha
  case pixel =>
    have hplaced := (s.blockSeen p).placePixels_at a f.buf e b.row b.spans b.pixels 0 (i := i) (k := k) (by omega) (by omega)
      (by rw [Nat.zero_add]; exact ⟨hx, hy⟩) hk
    rw [Nat.zero_add] at hplaced
    exact hplaced
  case other =>
    refine State.placePixels_other a f.buf e b.row b.spans b.pixels 0 (s.blockSeen p) (fun i hi hin k hk => ?_)
    rw [Nat.zero_add] at hin ⊢
    exact hh i (by omega) hin.1 hin.2 k hk

end Sys2Proof.Machine
end

section
/-! SUPPORT. FLIP at a tile (R239, R253, R305, R306): the flip becomes known, and its view's area opens a buffer for it. -/

namespace Sys2Proof.Machine

/-! Units that every device reads (R253, R257) -/

theorem State.readUnit_arrives {s : State} {m : MsgHdr} (b : LinkMsg) (act : State → State) (h : s.arrives m) :
    s.readUnit m b act = act (s.passed m b) := by
  obtain ⟨hp, hu, hc⟩ := h
  rw [State.readUnit, hp, hu, hc]
  rfl

/-- A claim does not outrank itself (R33). -/
theorem outranks_self (c : Claim) : outranks c c = false := by simp [outranks]

/-- R253: the highest claim on the active port is no news. -/
theorem State.tileClaim_known {s : State} {c : Claim} {port : Nat} (hs : s.flag F.MLK_CLAIM_SEEN = true) (hc : s.claim = c)
    (hp : port = s.activePort) : s.tileClaim c port = s := by
  unfold State.tileClaim
  rw [hs, hc, outranks_self, hp]
  simp

/-! The flip becomes known (R239) -/

/-- R239: a tile knows a flip, and has a next one where the flip is still to come. -/
def State.noteFlip (s : State) (f : FlipMsg) : State :=
  { s with flip := { s.flip with
      known := s.flip.known.filter (fun g => g.num != f.num && decide (s.flip.last.getD 0 ≤ g.num + 16)) ++ [f]
      next := match s.flip.next with
        | some n => some n
        | none => if (match s.flip.last with
            | some n => decide (f.num ≤ n)
            | none => false) then none else some f.num } }

theorem State.takeFlip_eq (s : State) (f : FlipMsg) :
    s.takeFlip f = if s.tileRuns then
      ((s.noteFlip f).areaFor f.view).1.openFill ((s.noteFlip f).areaFor f.view).2.1 ((s.noteFlip f).areaFor f.view).2.2 f
    else s.noteFlip f := rfl

theorem State.noteFlip_parts (s : State) (f : FlipMsg) : OnlyParts [.flip] s (s.noteFlip f) :=
  (Evolves.set_flip _ (by simp) (.refl _ s)).parts

theorem State.noteFlip_known (s : State) (f : FlipMsg) : (s.noteFlip f).knownFlip f.num = some f := by
  have hother : (s.flip.known.filter (fun g => g.num != f.num && decide (s.flip.last.getD 0 ≤ g.num + 16))).find?
      (fun g => g.num == f.num) = none :=
    List.find?_eq_none.mpr fun g hg => by
      have := (List.mem_filter.mp hg).2
      simp only [Bool.and_eq_true, bne_iff_ne] at this
      simpa using this.1
  rw [State.knownFlip, State.noteFlip, List.find?_append, hother]
  simp

/-- What follows at the areas leaves the flips known and what was sent. -/
theorem State.takeFlip_flip (s : State) (f : FlipMsg) : (s.takeFlip f).flip = (s.noteFlip f).flip ∧ (s.takeFlip f).sent = s.sent := by
  rw [s.takeFlip_eq]
  split
  · have h : OnlyParts [.regs, .tile] (s.noteFlip f) _ :=
      (State.openFill_evolves _ ((s.noteFlip f).areaFor f.view).2.1 ((s.noteFlip f).areaFor f.view).2.2 f (by simp)
        (State.areaFor_evolves (s.noteFlip f) f.view (by simp) (.refl _ _))).parts
    exact ⟨h .flip (by simp), h .sent (by simp)⟩
  · exact ⟨rfl, rfl⟩

/-! The area of its view (R305, R306) -/

theorem State.areaFor_own {s : State} {view a : Nat} {x : Area} (h : s.areaOf view = some (a, x)) : s.areaFor view = (s, a, x) := by
  rw [State.areaFor, h]

/-- R305: with no area left, the one whose FLIP is oldest is taken. -/
theorem State.areaFor_oldest {s : State} {view a : Nat} {y : Area} {l : List (Nat × Area)} (h : s.areaOf view = none)
    (hf : (List.range s.areaCount).all (fun b => s.tile.areas.any (fun x => x.1 == b)) = true) (hl : s.tile.areas = (a, y) :: l) :
    s.areaFor view = (s.event F.TIL_EVT_AREA_RECLAIM, a, emptyArea view) := by
  have hfree : (List.range s.areaCount).find? (fun b => !s.tile.areas.any (fun x => x.1 == b)) = none :=
    List.find?_eq_none.mpr fun b hb => by simpa using List.all_eq_true.mp hf b hb
  rw [State.areaFor, h]
  dsimp only
  rw [hfree]
  dsimp only
  rw [hl]

theorem State.touchArea_parts (s : State) (a : Nat) (x : Area) : OnlyParts [.tile] s (s.touchArea a x) :=
  (State.touchArea_evolves s a x (List.Subset.refl _) (.refl _ s)).parts

theorem State.mem_touchArea (s : State) (a : Nat) (x : Area) : (a, x) ∈ (s.touchArea a x).tile.areas :=
  List.mem_append_right _ (List.mem_singleton.mpr rfl)

/-- R306: FLIP with SENT 0 opens nothing. -/
theorem State.openFill_unsent (s : State) (a : Nat) (x : Area) {f : FlipMsg} (h : f.sent = false) : s.openFill a x f = s.touchArea a x := by
  simp [State.openFill, h]

/-- R306: FLIP with SENT 1, later than what the area last accepted, opens a buffer where none is open. -/
theorem State.openFill_opens (s : State) (a : Nat) {x : Area} {f : FlipMsg} (h : f.sent = true) (hx : x.fill = none)
    (hl : ∀ l, x.last = some l → l.1 < f.num) :
    s.openFill a x f = s.touchArea a { x with fill := some ⟨x.spare, f, emptyTally s.ownAddr, false⟩ } := by
  unfold State.openFill
  cases hlast : x.last with
  | none => simp [h, hx]
  | some l => simp [h, hx, hl l hlast]

/-! The message (R253) -/

/-- R253, R306: FLIP under the highest claim, on the active port and not seen before, is taken. -/
theorem exec_flipMessage_taken {s : State} {m : MsgHdr} {f : FlipMsg} (hr : s.tileRole = true) (ha : s.arrives m)
    (hs : s.flag F.MLK_CLAIM_SEEN = true) (hc : s.claim = ⟨f.epoch, f.rank⟩) (hp : m.port = s.activePort)
    (hw : s.wrongClaim m.src m.claimTag = false) (hn : s.seenSeq m.src m.seq = false) :
    exec (.flipMessage m f) s = .next ((s.heard m (.flip f)).takeFlip f) := by
  have hregs := s.passed_regs m (.flip f)
  have hseen : (s.passed m (.flip f)).seenSeq m.src m.seq = false := by
    rw [State.seenSeq, s.passed_link]; exact hn
  show execFlipMessage m f s = _
  rw [execFlipMessage, State.readUnit_arrives _ _ ha, State.tileRole_congr hregs, hr, if_pos rfl, State.tileFlipMsg,
    State.tileClaim_known ((State.flag_congr hregs _).trans hs) ((State.claim_congr hregs).trans hc)
      (hp.trans (State.activePort_congr hregs).symm)]
  rw [State.wrongClaim_congr hregs, hw, hseen]
  rfl

theorem State.tileRuns_congr {s t : State} (h : t.regs = s.regs) (hr : t.rst = s.rst) (hb : t.boot = s.boot) : t.tileRuns = s.tileRuns := by
  rw [State.tileRuns, State.tileRuns, State.tileRole_congr h, State.mode_of_regs h, State.blockHeld, State.blockHeld, hr, hb]

@[simp] theorem State.heard_tileRuns (s : State) (m : MsgHdr) (b : LinkMsg) : (s.heard m b).tileRuns = s.tileRuns :=
  State.tileRuns_congr (s.heard_regs m b) (s.heard_parts m b .rst (by simp)) (s.heard_parts m b .boot (by simp))

@[simp] theorem State.heard_areaOf (s : State) (m : MsgHdr) (b : LinkMsg) (view : Nat) : (s.heard m b).areaOf view = s.areaOf view := by
  rw [State.areaOf, State.areaOf, s.heard_tile]

@[simp] theorem State.heard_ownAddr (s : State) (m : MsgHdr) (b : LinkMsg) : (s.heard m b).ownAddr = s.ownAddr :=
  State.ownAddr_congr (s.heard_regs m b)

/-- R305, R306: a tile that takes frames takes FLIP at the area that its view has. -/
theorem State.takeFlip_area {s : State} {f : FlipMsg} {a : Nat} {x : Area} (hr : s.tileRuns = true) (h : s.areaOf f.view = some (a, x)) :
    s.takeFlip f = (s.noteFlip f).openFill a x f := by
  have harea : (s.noteFlip f).areaFor f.view = (s.noteFlip f, a, x) := State.areaFor_own h
  rw [s.takeFlip_eq, if_pos hr, harea]

/-- R305: a tile that takes frames takes FLIP at the oldest area where none is left for its view. -/
theorem State.takeFlip_oldest {s : State} {f : FlipMsg} {a : Nat} {y : Area} {l : List (Nat × Area)} (hr : s.tileRuns = true)
    (h : s.areaOf f.view = none) (hf : (List.range s.areaCount).all (fun b => s.tile.areas.any (fun x => x.1 == b)) = true)
    (hl : s.tile.areas = (a, y) :: l) :
    s.takeFlip f = ((s.noteFlip f).event F.TIL_EVT_AREA_RECLAIM).openFill a (emptyArea f.view) f := by
  have harea : (s.noteFlip f).areaFor f.view = ((s.noteFlip f).event F.TIL_EVT_AREA_RECLAIM, a, emptyArea f.view) :=
    State.areaFor_oldest h hf hl
  rw [s.takeFlip_eq, if_pos hr, harea]

/-- R239, R253, R305, R306: what FLIP under the highest claim does at a tile. -/
theorem execFlipMessage_known {s : State} {m : MsgHdr} {f : FlipMsg} (hr : s.tileRole = true) (ha : s.arrives m)
    (hs : s.flag F.MLK_CLAIM_SEEN = true) (hc : s.claim = ⟨f.epoch, f.rank⟩) (hp : m.port = s.activePort)
    (hw : s.wrongClaim m.src m.claimTag = false) (hn : s.seenSeq m.src m.seq = false) :
    ∃ t, exec (.flipMessage m f) s = .next t ∧ t.knownFlip f.num = some f ∧ t.sent = s.sent ++ s.relayed m (.flip f) ∧
      (s.tileRuns = false → OnlyParts [.sent, .link, .flip] s t) ∧
      (∀ a x, s.tileRuns = true → s.areaOf f.view = some (a, x) → f.sent = true → x.fill = none →
        (∀ l, x.last = some l → l.1 < f.num) → OnlyParts [.sent, .link, .flip, .tile] s t ∧
        (a, { x with fill := some ⟨x.spare, f, emptyTally s.ownAddr, false⟩ }) ∈ t.tile.areas) ∧
      (∀ a x, s.tileRuns = true → s.areaOf f.view = some (a, x) → f.sent = false → OnlyParts [.sent, .link, .flip, .tile] s t ∧
        (a, x) ∈ t.tile.areas) ∧
      (∀ a y l, s.tileRuns = true → s.areaOf f.view = none →
        (List.range s.areaCount).all (fun b => s.tile.areas.any (fun x => x.1 == b)) = true → s.tile.areas = (a, y) :: l → f.sent = true →
        t.flag F.TIL_EVT_AREA_RECLAIM = true ∧ (a, { emptyArea f.view with fill := some ⟨0, f, emptyTally s.ownAddr, false⟩ }) ∈ t.tile.areas) := by
  have hexec := exec_flipMessage_taken hr ha hs hc hp hw hn
  have hsent := s.heard_sent m (.flip f)
  have hparts := s.heard_parts m (.flip f)
  have hruns := s.heard_tileRuns m (.flip f)
  have harea := s.heard_areaOf m (.flip f) f.view
  have hown : ((s.heard m (.flip f)).noteFlip f).ownAddr = s.ownAddr := s.heard_ownAddr m (.flip f)
  have hcount : (s.heard m (.flip f)).areaCount = s.areaCount := by
    simp only [State.areaCount, State.tileW, State.tileH, State.fld_heard]
  have htile := s.heard_tile m (.flip f)
  generalize s.heard m (.flip f) = u at hexec hsent hparts hruns harea hown hcount htile
  obtain ⟨hflip, hkeep⟩ := u.takeFlip_flip f
  have hnoted : OnlyParts [.sent, .link, .flip] s (u.noteFlip f) := (hparts.mono (by simp)).trans ((u.noteFlip_parts f).mono (by simp))
  refine ⟨_, hexec, ?_, hkeep.trans hsent, fun hrun => ?idle, fun a x hrun hx hf hfill hlast => ?opens, fun a x hrun hx hf => ?unsent,
    fun a y l hrun hx hfull hl hf => ?oldest⟩
  · rw [State.knownFlip, hflip]
    exact u.noteFlip_known f
  case idle =>
    rw [u.takeFlip_eq, hruns, hrun]
    exact hnoted
  case opens =>
    rw [State.takeFlip_area (hruns.trans hrun) (harea.trans hx), State.openFill_opens _ a hf hfill hlast, hown]
    exact ⟨(hnoted.mono (by simp)).trans ((State.touchArea_parts _ _ _).mono (by simp)), State.mem_touchArea _ _ _⟩
  case unsent =>
    rw [State.takeFlip_area (hruns.trans hrun) (harea.trans hx), State.openFill_unsent _ a x hf]
    exact ⟨(hnoted.mono (by simp)).trans ((State.touchArea_parts _ _ _).mono (by simp)), State.mem_touchArea _ _ _⟩
  case oldest =>
    have hevent := (OnlyFlds.refl [F.TIL_EVT_AREA_RECLAIM] (u.noteFlip f)).event F.TIL_EVT_AREA_RECLAIM rfl (by simp)
    have hown' := (hevent.ownAddr (by decide)).trans hown
    rw [State.takeFlip_oldest (hruns.trans hrun) (harea.trans hx) (by rw [hcount, htile]; exact hfull) (by rw [htile]; exact hl),
      State.openFill_opens _ a hf rfl (fun l hl => by cases hl), hown']
    exact ⟨(State.flag_congr (State.touchArea_parts _ _ _ .regs (by simp)) _).trans (State.flag_event _ _ rfl), State.mem_touchArea _ _ _⟩

end Sys2Proof.Machine
end

section
/-! SUPPORT. FRAME_END at a tile (R241, R306 to R308): a frame that is accepted, and one that is dropped. -/

namespace Sys2Proof.Machine

/-! Faults leave what is posted (R255) -/

theorem Grows.sendBoth (s : State) (m : LinkMsg) : Grows s (s.sendBoth m) :=
  (Grows.sendMsg s 0 0x8003 m []).trans (Grows.sendMsg _ 1 0x8003 m [])

/-- R255, R256: a new fault as it is numbered and logged, before it goes to others. -/
def State.loggedFault (s : State) (f : FaultRec) : State :=
  let u : State := { s.logFault f with faults := { (s.logFault f).faults with lastRec := f.record } }
  if f.cls = 6 then u.persist f else u

theorem State.loggedFault_link (s : State) (f : FaultRec) : (s.loggedFault f).link = s.link := by
  unfold State.loggedFault
  dsimp only
  split <;> rfl

/-- R255: a fault that has been sent and is not yet acknowledged. -/
def State.owesFault (s : State) (n : Nat) : State := { s with faults := { s.faults with unacked := s.faults.unacked ++ [n] } }

/-- R255: a tile's FAULT goes both ways; a sender's goes to its standby. -/
def State.postFault (s : State) (f : FaultRec) : State :=
  if s.tileRole then (s.owesFault f.record).sendBoth (.fault f)
  else if (s.append (.fault f)).hasStandby then ((s.append (.fault f)).owesFault f.record).await (.ownFault f.record)
  else s.append (.fault f)

theorem State.newFault_eq (s : State) (cls code : Nat) (detail : List Byte) :
    s.newFault cls code detail = (s.loggedFault ⟨s.ownAddr, nextRec s.faults.lastRec, cls, code, 1, secOf s.wall, nsOf s.wall,
      detail14 detail⟩).postFault ⟨s.ownAddr, nextRec s.faults.lastRec, cls, code, 1, secOf s.wall, nsOf s.wall, detail14 detail⟩ := rfl

theorem State.postFault_own (s : State) (f : FaultRec) : s.link.own <+: (s.postFault f).link.own := by
  have happend : (s.append (.fault f)).link = s.link := (s.append_keeps _) .link (by simp)
  unfold State.postFault
  split
  · exact (Grows.sendBoth (s.owesFault f.record) (.fault f)).own
  · split
    · show s.link.own <+: (s.append (.fault f)).link.own
      rw [happend]
    · rw [happend]

theorem State.newFault_own (s : State) (cls code : Nat) (detail : List Byte) : s.link.own <+: (s.newFault cls code detail).link.own := by
  rw [s.newFault_eq, ← s.loggedFault_link ⟨s.ownAddr, nextRec s.faults.lastRec, cls, code, 1, secOf s.wall, nsOf s.wall, detail14 detail⟩]
  exact State.postFault_own _ _

theorem Grows.fault (s : State) (cls code : Nat) (detail : List Byte) : Grows s (s.fault cls code detail) := by
  refine ⟨((s.fault_flds cls code detail).roles (by decide)).1,
    (State.fault_evolves s cls code detail (List.Subset.refl _) (.refl _ s)).sent, ?_⟩
  unfold State.fault
  split
  · exact List.prefix_rfl
  · split
    · split
      · rw [State.event_link]; exact List.prefix_rfl
      · rw [State.event_link]; exact s.newFault_own _ _ _
    · exact s.newFault_own _ _ _

theorem State.fault_tile (s : State) (cls code : Nat) (detail : List Byte) : (s.fault cls code detail).tile = s.tile :=
  (State.fault_evolves s cls code detail (List.Subset.refl _) (.refl _ s)).parts .tile (by simp)

/-- An event that tells of no role and no address leaves what is posted. -/
theorem Grows.event (s : State) {f : Fld} (hf : f.ok = true) (ha : allApart [f] addrFlds = true) : Grows s (s.event f) :=
  .of_evolves (State.event_evolves s f (List.Subset.refl _) (.refl [.regs] s))
    (((OnlyFlds.refl [f] s).event f hf (by simp)).roles ha).1 (by simp)

/-! A frame that is dropped (R306) -/

/-- R306: a FILL buffer that becomes FREE, with its event and its count. -/
theorem State.dropFill_spec {s : State} {a : Nat} {x : Area} {f : Fld} (hx : (a, x) ∈ s.tile.areas) (hf : f.ok = true)
    (ha : f.apart F.TIL_CNT0_REJ_COUNT = true) :
    let t := (s.dropFill a x).event f
    t.flag f = true ∧ (a, { x with fill := none }) ∈ t.tile.areas ∧
      t.fld F.TIL_CNT0_REJ_COUNT = min (s.fld F.TIL_CNT0_REJ_COUNT + 1) 65535 ∧ OnlyParts [.regs, .tile] s t ∧
      OnlyFlds [f, F.TIL_CNT0_REJ_COUNT] s t := by
  refine ⟨State.flag_event _ f hf, ?_, ?_, ?_, ?_⟩
  · rw [State.event_tile, State.dropFill, State.frameLost, State.bump_tile]
    exact State.mem_setArea _ hx
  · rw [State.fld_event_apart _ _ _ hf rfl ha]
    exact State.fld_bump_same _ _ rfl
  · exact (State.event_evolves _ f (by simp) (State.dropFill_evolves s a x (List.Subset.refl _) (.refl _ s))).parts
  · exact ((OnlyFlds.of_regs (s := s) (t := s.setArea a { x with fill := none }) rfl).bump _ rfl (by simp)).event f hf (by simp)

/-! A frame that is accepted (R307, R308) -/

/-- R308: what an accepted frame reports whose GNT_CHECKs differ or whose ALIVE fails. -/
def State.frameReports (s : State) (x : Area) (f : FillBuf) (e : FrameEnd) : State :=
  let lo := f.flip.num % 2 ^ 32
  let s1 := if gntDiffers f.tally e = 0 then s else (s.event F.TIL_EVT_GNT_MISMATCH).fault 3 2
    (leBytes 4 lo ++ leBytes 1 f.flip.view ++ leBytes 1 (gntDiffers f.tally e))
  if aliveFails x.last f.flip.alive then (s1.event F.TIL_EVT_ALIVE_ERR).fault 3 3
    (leBytes 4 lo ++ leBytes 1 f.flip.view ++ [0] ++ leBytes 2 f.flip.alive) else s1

/-- R307, R308: the area of an accepted frame. -/
def acceptedArea (x : Area) (f : FillBuf) (e : FrameEnd) : Area :=
  { x with
    fill := none
    ready := some ⟨f.buf, f.flip.num, f.flip.gen, f.flip.alive,
      if aliveFails x.last f.flip.alive then 15 else mask8 (f.flip.guardBits % 16) (gntDiffers f.tally e), e.frameCheck, e.gntCheck⟩
    last := some (f.flip.num, f.flip.alive) }

theorem State.acceptFrame_eq (s : State) (a : Nat) (x : Area) (f : FillBuf) (e : FrameEnd) :
    s.acceptFrame a x f e =
      { (s.frameReports x f e).setArea a (acceptedArea x f e) with
        tile := { ((s.frameReports x f e).setArea a (acceptedArea x f e)).tile with last := (f.flip.num, f.flip.view) } } := rfl

theorem State.frameReports_quiet (s : State) {x : Area} {f : FillBuf} {e : FrameEnd} (hg : gntDiffers f.tally e = 0)
    (ha : aliveFails x.last f.flip.alive = false) : s.frameReports x f e = s := by
  simp [State.frameReports, hg, ha]

theorem State.frameReports_spec (s : State) (x : Area) (f : FillBuf) (e : FrameEnd) :
    (s.frameReports x f e).tile = s.tile ∧ Grows s (s.frameReports x f e) ∧
      (gntDiffers f.tally e ≠ 0 → (s.frameReports x f e).flag F.TIL_EVT_GNT_MISMATCH = true) ∧
      (aliveFails x.last f.flip.alive = true → (s.frameReports x f e).flag F.TIL_EVT_ALIVE_ERR = true) := by
  have hreport : ∀ (u : State) (g : Fld) (code : Nat) (bs : List Byte), g.ok = true → allApart [g] addrFlds = true →
      F.MLK_EVT_FAULT_OVF.apart g = true →
      ((u.event g).fault 3 code bs).tile = u.tile ∧ Grows u ((u.event g).fault 3 code bs) ∧ ((u.event g).fault 3 code bs).flag g = true ∧
        OnlyFlds [g, F.MLK_EVT_FAULT_OVF] u ((u.event g).fault 3 code bs) := by
    intro u g code bs hg ha hf
    refine ⟨(State.fault_tile _ _ _ _).trans (State.event_tile _ _), (Grows.event u hg ha).trans (.fault _ _ _ _), ?_, ?_⟩
    · rw [((u.event g).fault_flds 3 code bs).flag hg (by simpa using hf)]
      exact State.flag_event u g hg
    · exact ((OnlyFlds.refl _ u).event g hg (by simp)).trans (((u.event g).fault_flds 3 code bs).mono (by simp))
  unfold State.frameReports
  dsimp only
  generalize hs1 : (if gntDiffers f.tally e = 0 then s else _) = s1
  have h1 : s1.tile = s.tile ∧ Grows s s1 ∧ (gntDiffers f.tally e ≠ 0 → s1.flag F.TIL_EVT_GNT_MISMATCH = true) := by
    rw [← hs1]
    split
    · next h => exact ⟨rfl, .refl s, fun hne => absurd h hne⟩
    · obtain ⟨htile, hgrows, hflag, -⟩ := hreport s F.TIL_EVT_GNT_MISMATCH 2
        (leBytes 4 (f.flip.num % 2 ^ 32) ++ leBytes 1 f.flip.view ++ leBytes 1 (gntDiffers f.tally e)) rfl (by decide) rfl
      exact ⟨htile, hgrows, fun _ => hflag⟩
  obtain ⟨htile, hgrows, hgnt⟩ := h1
  split
  · obtain ⟨ht, hg, ha, hflds⟩ := hreport s1 F.TIL_EVT_ALIVE_ERR 3
      (leBytes 4 (f.flip.num % 2 ^ 32) ++ leBytes 1 f.flip.view ++ [0] ++ leBytes 2 f.flip.alive) rfl (by decide) rfl
    exact ⟨ht.trans htile, hgrows.trans hg, fun h => (hflds.flag rfl (by decide)).trans (hgnt h), fun _ => ha⟩
  · next hd => exact ⟨htile, hgrows, hgnt, fun h => absurd h hd⟩

/-! The message (R241) -/

theorem State.heard_cuffIsOpen (s : State) (m : MsgHdr) (b : LinkMsg) (n : Nat) : (s.heard m b).cuffIsOpen n = s.cuffIsOpen n :=
  (SameEffect.of_keeps (fs := []) (.of_regs (s.heard_regs m b)) (s.heard_parts m b) rfl (by simp) (by simp) (by simp)).cuffIsOpen n

/-- R241: FRAME_END for the flip that fills the buffer of its view. -/
theorem State.takeFrameEnd_eq {s : State} {e : FrameEnd} {a : Nat} {x : Area} {f : FillBuf} (ha : s.areaOf e.view = some (a, x))
    (hf : x.fill = some f) (hl : f.flip.num % 2 ^ 32 = e.flipLo) :
    s.takeFrameEnd e = if s.cuffIsOpen f.flip.num then (s.dropFill a x).event F.TIL_EVT_FRAME_LATE
      else if frameMatches f e && claimTag ⟨f.flip.epoch, f.flip.rank⟩ == claimTag s.claim then s.acceptFrame a x f e
      else (s.dropFill a x).event F.TIL_EVT_FRAME_REJ := by
  simp only [State.takeFrameEnd, ha, hf]
  rw [if_neg (not_not.mpr hl)]

theorem exec_frameEnd_hears {s : State} {m : MsgHdr} {e : FrameEnd} (hr : s.tileRuns = true) (hh : s.hears m) :
    exec (.frameEnd m e) s = .next (((s.heard m (.frameEnd e)).takeFrameEnd e).ackMsg m .ok) := by
  show Host.Outcome.next _ = _
  rw [State.receiveOk_hears _ _ _ hh, s.heard_tileRuns, hr, if_pos rfl]

/-- R306: FRAME_END that drops its frame. -/
theorem execFrameEnd_drops {s : State} {m : MsgHdr} {e : FrameEnd} {a : Nat} {x : Area} {f : Fld}
    (ha : s.areaOf e.view = some (a, x)) (hf : f.ok = true) (hap : f.apart F.TIL_CNT0_REJ_COUNT = true)
    (ht : (s.heard m (.frameEnd e)).takeFrameEnd e = ((s.heard m (.frameEnd e)).dropFill a x).event f) :
    let t := ((s.heard m (.frameEnd e)).takeFrameEnd e).ackMsg m .ok
    t.flag f = true ∧ (a, { x with fill := none }) ∈ t.tile.areas ∧
      t.fld F.TIL_CNT0_REJ_COUNT = min (s.fld F.TIL_CNT0_REJ_COUNT + 1) 65535 ∧ OnlyParts [.regs, .sent, .link, .tile] s t ∧
      OnlyFlds [f, F.TIL_CNT0_REJ_COUNT] s t := by
  have harea : (a, x) ∈ (s.heard m (.frameEnd e)).tile.areas := by rw [s.heard_tile]; exact State.areaOf_mem ha
  obtain ⟨hflag, hmem, hcount, hparts, hflds⟩ := State.dropFill_spec harea hf hap
  rw [ht]
  refine ⟨by rw [State.flag_ackMsg]; exact hflag, by rw [State.ackMsg_tile]; exact hmem, ?_, ?_, ?_⟩
  · rw [State.fld_ackMsg, hcount, State.fld_heard]
  · exact ((s.heard_parts m (.frameEnd e)).mono (by simp)).trans ((hparts.mono (by simp)).trans ((State.ackMsg_parts _ m .ok).mono (by simp)))
  · exact (OnlyFlds.of_regs (s.heard_regs _ _)).trans (hflds.trans (.of_regs (State.ackMsg_regs _ _ _)))

/-- R307, R308: FRAME_END that accepts its frame. -/
theorem execFrameEnd_accepts {s : State} {m : MsgHdr} {e : FrameEnd} {a : Nat} {x : Area} {f : FillBuf}
    (ha : s.areaOf e.view = some (a, x))
    (ht : (s.heard m (.frameEnd e)).takeFrameEnd e = (s.heard m (.frameEnd e)).acceptFrame a x f e) :
    let t := ((s.heard m (.frameEnd e)).takeFrameEnd e).ackMsg m .ok
    t.tile.last = (f.flip.num, f.flip.view) ∧ (a, acceptedArea x f e) ∈ t.tile.areas ∧
      (gntDiffers f.tally e = 0 → aliveFails x.last f.flip.alive = false → OnlyParts [.sent, .link, .tile] s t) ∧
      (gntDiffers f.tally e ≠ 0 → t.flag F.TIL_EVT_GNT_MISMATCH = true) ∧
      (aliveFails x.last f.flip.alive = true → t.flag F.TIL_EVT_ALIVE_ERR = true) := by
  obtain ⟨htile, -, hgnt, halive⟩ := (s.heard m (.frameEnd e)).frameReports_spec x f e
  have hquiet := (s.heard m (.frameEnd e)).frameReports_quiet (x := x) (f := f) (e := e)
  rw [ht, State.acceptFrame_eq]
  refine ⟨by rw [State.ackMsg_tile], ?_, fun hg hl => ?_, fun hg => ?_, fun hl => ?_⟩
  · rw [State.ackMsg_tile]
    refine State.mem_setArea (x := x) _ ?_
    rw [htile, s.heard_tile]
    exact State.areaOf_mem ha
  · rw [hquiet hg hl]
    refine ((s.heard_parts m (.frameEnd e)).mono (by simp)).trans (OnlyParts.trans ?_ ((State.ackMsg_parts _ m .ok).mono (by simp)))
    intro p hp
    cases p <;> first | rfl | exact absurd (by simp) hp
  · rw [State.flag_ackMsg]
    exact hgnt hg
  · rw [State.flag_ackMsg]
    exact halive hl

/-- R241, R306 to R308: FRAME_END for the flip that fills the buffer of its view. -/
theorem execFrameEnd_judges {s : State} {m : MsgHdr} {e : FrameEnd} {a : Nat} {x : Area} {f : FillBuf} (hr : s.tileRuns = true)
    (hh : s.hears m) (ha : s.areaOf e.view = some (a, x)) (hf : x.fill = some f) (hl : f.flip.num % 2 ^ 32 = e.flipLo) :
    ∃ t, exec (.frameEnd m e) s = .next t ∧
      (s.cuffIsOpen f.flip.num = true → t.flag F.TIL_EVT_FRAME_LATE = true ∧ (a, { x with fill := none }) ∈ t.tile.areas ∧
        t.fld F.TIL_CNT0_REJ_COUNT = min (s.fld F.TIL_CNT0_REJ_COUNT + 1) 65535 ∧ OnlyParts [.regs, .sent, .link, .tile] s t ∧
        OnlyFlds [F.TIL_EVT_FRAME_LATE, F.TIL_CNT0_REJ_COUNT] s t) ∧
      (s.cuffIsOpen f.flip.num = false → frameMatches f e = false ∨ claimTag ⟨f.flip.epoch, f.flip.rank⟩ ≠ claimTag s.claim →
        t.flag F.TIL_EVT_FRAME_REJ = true ∧ (a, { x with fill := none }) ∈ t.tile.areas ∧
        t.fld F.TIL_CNT0_REJ_COUNT = min (s.fld F.TIL_CNT0_REJ_COUNT + 1) 65535 ∧ OnlyParts [.regs, .sent, .link, .tile] s t ∧
        OnlyFlds [F.TIL_EVT_FRAME_REJ, F.TIL_CNT0_REJ_COUNT] s t) ∧
      (s.cuffIsOpen f.flip.num = false → frameMatches f e = true → claimTag ⟨f.flip.epoch, f.flip.rank⟩ = claimTag s.claim →
        t.tile.last = (f.flip.num, f.flip.view) ∧
        (gntDiffers f.tally e = 0 → aliveFails x.last f.flip.alive = false → OnlyParts [.sent, .link, .tile] s t ∧
          (a, { x with
            fill := none
            ready := some ⟨f.buf, f.flip.num, f.flip.gen, f.flip.alive, mask8 (f.flip.guardBits % 16) 0, e.frameCheck, e.gntCheck⟩
            last := some (f.flip.num, f.flip.alive) }) ∈ t.tile.areas) ∧
        (gntDiffers f.tally e ≠ 0 → t.flag F.TIL_EVT_GNT_MISMATCH = true) ∧
        (aliveFails x.last f.flip.alive = true → t.flag F.TIL_EVT_ALIVE_ERR = true ∧
          ∃ y h, (a, y) ∈ t.tile.areas ∧ y.ready = some h ∧ h.guard = 15)) := by
  have heq := State.takeFrameEnd_eq (s := s.heard m (.frameEnd e)) ((s.heard_areaOf m _ _).trans ha) hf hl
  rw [s.heard_cuffIsOpen, State.claim_congr (s.heard_regs m _)] at heq
  refine ⟨_, exec_frameEnd_hears hr hh, fun hopen => ?late, fun hopen hbad => ?rejected, fun hopen hmatch hclaim => ?accepted⟩
  case late =>
    rw [if_pos hopen] at heq
    exact execFrameEnd_drops ha rfl rfl heq
  case rejected =>
    rw [if_neg (by simp [hopen]), if_neg (by simpa using fun h => hbad.resolve_left (by simp [h]))] at heq
    exact execFrameEnd_drops ha rfl rfl heq
  case accepted =>
    rw [if_neg (by simp [hopen]), if_pos (by simp [hmatch, hclaim])] at heq
    obtain ⟨hlast, hmem, hparts, hgnt, halive⟩ := execFrameEnd_accepts ha heq
    refine ⟨hlast, fun hg hl => ⟨hparts hg hl, ?_⟩, hgnt, fun hl => ⟨halive hl, _, _, hmem, rfl, ?_⟩⟩
    · rw [acceptedArea, hl, hg] at hmem
      exact hmem
    · rw [hl]
      rfl

end Sys2Proof.Machine
end

section
/-! SUPPORT. What else makes a view-frame at a tile (R243, R257, R286): bursts that are relayed, and module tables. -/

namespace Sys2Proof.Machine

/-! Bursts of other tiles (R257, R286) -/

/-- R257, R286: a burst of another tile is relayed, or abandoned with ABORT where the relay store has no room. -/
theorem exec_burstUnit_relays {s : State} {p : Nat} {b : Burst} (hr : s.tileRole = true) (hp : p < 2) (hu : s.portUp p = true)
    (hm : burstMalformed b = false) (ht : b.tile ≠ s.ownAddr) (ho : s.portUp (otherPort p) = true) (room : Bool) :
    exec (.burstUnit p room b) s = .next (if room then (s.blockSeen p).send (.relay (otherPort p) (.burst b))
      else (((s.blockSeen p).event F.SER_EVT_RELAY_OVF).bump (F.SER_PORT_CNT_RELAY_OVF_COUNT (otherPort p))).send
        (.relay (otherPort p) .abort)) := by
  have hown : (s.blockSeen p).ownAddr = s.ownAddr := State.ownAddr_congr (s.blockSeen_regs p)
  have hother : (s.blockSeen p).portUp (otherPort p) = true := (State.portUp_congr (s.blockSeen_regs p) _).trans ho
  show execBurstUnit p room b s = _
  rw [execBurstUnit, if_pos ⟨hr, hp, hu⟩]
  dsimp only
  rw [hm, hown, if_pos ht, State.relayBurst, if_pos hother]
  rfl

theorem State.relayOverflow_ok (p : Nat) (hp : p < 2) : (F.SER_PORT_CNT_RELAY_OVF_COUNT p).ok = true ∧
    (F.SER_PORT_CNT_RELAY_OVF_COUNT p).apart F.SER_EVT_RELAY_OVF = true := by
  interval_cases p <;> exact ⟨rfl, rfl⟩

/-- R257, R286: what a burst of another tile leaves. -/
theorem execBurstUnit_relays {s : State} {p : Nat} {b : Burst} (hr : s.tileRole = true) (hp : p < 2) (hu : s.portUp p = true)
    (hm : burstMalformed b = false) (ht : b.tile ≠ s.ownAddr) (ho : s.portUp (otherPort p) = true) (room : Bool) :
    ∃ t, exec (.burstUnit p room b) s = .next t ∧
      (room = true → t.sent = s.sent ++ [.relay (otherPort p) (.burst b)] ∧ OnlyParts [.sent, .link] s t) ∧
      (room = false → t.sent = s.sent ++ [.relay (otherPort p) .abort] ∧ t.flag F.SER_EVT_RELAY_OVF = true ∧
        OnlyParts [.regs, .sent, .link] s t ∧ OnlyFlds [F.SER_EVT_RELAY_OVF, F.SER_PORT_CNT_RELAY_OVF_COUNT (otherPort p)] s t) := by
  refine ⟨_, exec_burstUnit_relays hr hp hu hm ht ho room, ?relayed, ?aborted⟩
  case relayed =>
    rintro rfl
    exact ⟨rfl, (s.blockSeen_parts p |>.mono (by simp)).trans (State.send_evolves _ _ (by simp) (.refl _ _)).parts⟩
  case aborted =>
    rintro rfl
    obtain ⟨hok, hap⟩ := State.relayOverflow_ok (otherPort p) (by unfold otherPort; omega)
    refine ⟨?_, ?_, ?_, ?_⟩
    · show (State.bump _ _).sent ++ _ = _
      rw [State.bump_sent]
      rfl
    · show (State.bump _ _).flag F.SER_EVT_RELAY_OVF = true
      rw [((OnlyFlds.refl [F.SER_PORT_CNT_RELAY_OVF_COUNT (otherPort p)] _).bump _ hok (by simp)).flag rfl (by simpa using hap)]
      exact State.flag_event _ _ rfl
    · exact (s.blockSeen_parts p |>.mono (by simp)).trans (State.send_evolves _ _ (by simp)
        (State.bump_evolves _ _ (by simp) (State.event_evolves _ _ (by simp) (.refl _ _)))).parts
    · exact (((OnlyFlds.of_regs (s.blockSeen_regs p)).event _ rfl (by simp)).bump _ hok (by simp)).trans (.of_regs rfl)

/-! Module tables (R243) -/

@[simp] theorem State.heard_tables (s : State) (m : MsgHdr) (b : LinkMsg) : (s.heard m b).link.tables = s.link.tables := by
  obtain ⟨ports, seen, h⟩ := s.heard_link m b
  rw [h]

@[simp] theorem State.ackMsg_tables (s : State) (m : MsgHdr) (x : Status) : (s.ackMsg m x).link.tables = s.link.tables := by
  obtain ⟨ports, own, h⟩ := s.ackMsg_link m x
  rw [h]

/-- Two generations stand: one that is announced is the last of them. -/
theorem State.noteGen_last (s : State) (gen due : Nat) : (s.noteGen gen due).tile.gens.getLast? = some (gen, due) := by
  unfold State.noteGen
  dsimp only
  rw [List.getLast?_drop, if_neg (by simp only [List.length_append, List.length_singleton]; omega), List.getLast?_concat]

theorem State.noteGen_kept (s : State) (gen due : Nat) : gen ∈ (s.noteGen gen due).keptGens :=
  List.mem_append_left _ (List.mem_map.mpr ⟨_, List.mem_of_getLast? (s.noteGen_last gen due), rfl⟩)

/-- A table whose generation is kept stays. -/
theorem State.mem_pruneTables {s : State} {t : ModuleTable} (ht : t ∈ s.link.tables) (hg : t.gen ∈ s.keptGens) :
    t ∈ s.pruneTables.link.tables :=
  List.mem_filter.mpr ⟨ht, List.contains_iff_mem.mpr hg⟩

/-- R243: the first entries of a table begin it. -/
theorem State.mem_takeTable (s : State) {gen total : Nat} (first : Nat) (es : List ModuleEntry)
    (h : s.link.tables.find? (fun u => u.gen == gen) = none) :
    (⟨gen, total, es.zipIdx.map (fun p => (first + p.2, p.1)), false⟩ : ModuleTable) ∈ (s.takeTable gen total first es).link.tables := by
  have hkept : gen ∈ (if s.tile.gens.any (fun g => g.1 == gen) then s else s.noteGen gen 0).keptGens := by
    split
    · next hg =>
      obtain ⟨g, hg, he⟩ := List.any_eq_true.mp hg
      exact List.mem_append_left _ (List.mem_map.mpr ⟨g, hg, by simpa using he⟩)
    · exact s.noteGen_kept gen 0
  have hlink : (if s.tile.gens.any (fun g => g.1 == gen) then s else s.noteGen gen 0).link = s.link := by split <;> rfl
  have hnone : s.link.tables.find? (fun t => t.gen == gen && !t.kept && t.total == total) = none :=
    List.find?_eq_none.mpr fun u hu => by simpa [Bool.and_assoc] using fun hg => absurd hg (by simpa using List.find?_eq_none.mp h u hu)
  unfold State.takeTable
  dsimp only
  generalize (if s.tile.gens.any (fun g => g.1 == gen) then s else s.noteGen gen 0) = u at hkept hlink ⊢
  refine State.mem_pruneTables (List.mem_append_right _ ?_) hkept
  rw [hlink, hnone]
  exact List.mem_singleton.mpr rfl

/-- R243: what MODULE_TABLE does at a tile, by the sizes that it tells. -/
def State.tableTaken (s : State) (gen total first : Nat) (es : List ModuleEntry) : State × Status :=
  if 255 < es.length ∨ 256 < total then (s, .errLen) else (s.takeTable gen total first es, .ok)

theorem exec_moduleTable_hears {s : State} {m : MsgHdr} (hr : s.tileRole = true) (hh : s.hears m) (gen total first : Nat)
    (es : List ModuleEntry) :
    exec (.moduleTable m gen total first es) s =
      .next ((((s.heard m (.moduleTable gen total first es)).tableTaken gen total first es).1).ackMsg m
        ((s.heard m (.moduleTable gen total first es)).tableTaken gen total first es).2) := by
  show Host.Outcome.next _ = _
  rw [State.receive_hears _ _ _ hh, s.heard_tileRole, hr]
  rfl

/-- What a table does keeps what is posted. -/
theorem Grows.takeTable (s : State) (gen total first : Nat) (es : List ModuleEntry) : Grows s (s.takeTable gen total first es) := by
  have h := State.takeTable_evolves s gen total first es (List.Subset.refl _) (.refl _ s)
  refine ⟨State.tileRole_congr (h.parts .regs (by simp)), h.sent, ?_⟩
  unfold State.takeTable State.pruneTables
  dsimp only
  split <;> exact List.prefix_rfl

/-- R243: MODULE_TABLE at a tile. -/
theorem execModuleTable_keeps {s : State} {m : MsgHdr} (hr : s.tileRole = true) (hh : s.hears m) (gen total first : Nat)
    (es : List ModuleEntry) : ∃ t, exec (.moduleTable m gen total first es) s = .next t ∧
      OnlyParts [.sent, .link, .tile] s t ∧
      (255 < es.length ∨ 256 < total → Acked s t m .errLen ∧ t.link.tables = s.link.tables ∧ t.tile = s.tile) ∧
      (es.length ≤ 255 → total ≤ 256 → s.link.tables.find? (fun u => u.gen == gen) = none → Acked s t m .ok ∧
        (⟨gen, total, es.zipIdx.map (fun p => (first + p.2, p.1)), false⟩ : ModuleTable) ∈ t.link.tables) := by
  have hgrows := Grows.heard s m (.moduleTable gen total first es)
  have hparts := s.heard_parts m (.moduleTable gen total first es)
  have htables := s.heard_tables m (.moduleTable gen total first es)
  have htile := s.heard_tile m (.moduleTable gen total first es)
  refine ⟨_, exec_moduleTable_hears hr hh gen total first es, ?_⟩
  generalize s.heard m (.moduleTable gen total first es) = u at hgrows hparts htables htile ⊢
  by_cases hl : 255 < es.length ∨ 256 < total
  · rw [State.tableTaken, if_pos hl]
    exact ⟨(hparts.trans (u.ackMsg_parts m .errLen)).mono (by simp),
      fun _ => ⟨(u.ackMsg_acked m .errLen).after hgrows, (u.ackMsg_tables m .errLen).trans htables, (u.ackMsg_tile m .errLen).trans htile⟩,
      fun he ht => absurd hl (by omega)⟩
  · rw [State.tableTaken, if_neg hl]
    refine ⟨(hparts.mono (by simp)).trans (OnlyParts.trans ?_ ((State.ackMsg_parts _ m .ok).mono (by simp))), fun h => absurd h hl, fun _ _ hn => ?_⟩
    · exact (State.takeTable_evolves u gen total first es (by simp) (.refl _ u)).parts
    · exact ⟨(State.ackMsg_acked _ m .ok).after (hgrows.trans (.takeTable u gen total first es)), by
        rw [State.ackMsg_tables]; exact u.mem_takeTable first es (htables ▸ hn)⟩

/-- R243: the table that stands under a new number until its own comes. -/
theorem State.takeMapGen_spec (s : State) (gen due : Nat) :
    (s.takeMapGen gen due).tile.gens.getLast? = some (gen, due) ∧ Grows s (s.takeMapGen gen due) ∧
      ∀ g u, s.tile.gens.getLast? = some g → s.tableOf g.1 = some u → s.link.tables.any (fun x => x.gen == gen) = false →
        (⟨gen, u.total, u.entries, true⟩ : ModuleTable) ∈ (s.takeMapGen gen due).link.tables := by
  have h := State.takeMapGen_evolves s gen due (List.Subset.refl _) (.refl _ s)
  have hrole : (s.takeMapGen gen due).tileRole = s.tileRole := State.tileRole_congr (h.parts .regs (by simp))
  have hlast := s.noteGen_last gen due
  refine ⟨?_, ⟨hrole, h.sent, ?_⟩, fun g u hg hu hn => ?_⟩
  · unfold State.takeMapGen State.pruneTables
    dsimp only
    split
    · split <;> exact hlast
    · exact hlast
  · unfold State.takeMapGen State.pruneTables
    dsimp only
    split
    · split <;> exact List.prefix_rfl
    · exact List.prefix_rfl
  · have hany : (s.noteGen gen due).link.tables.any (fun x => x.gen == gen) = false := hn
    unfold State.takeMapGen
    dsimp only
    rw [hg, Option.bind_some, hu]
    dsimp only
    rw [hany]
    exact State.mem_pruneTables (List.mem_append_right _ (List.mem_singleton.mpr rfl)) (s.noteGen_kept gen due)

theorem exec_mapGen_hears {s : State} {m : MsgHdr} (hr : s.tileRole = true) (hh : s.hears m) (gen due : Nat) :
    exec (.mapGen m gen due) s = .next (((s.heard m (.mapGen gen due)).takeMapGen gen due).ackMsg m .ok) := by
  show Host.Outcome.next _ = _
  rw [State.receiveOk_hears _ _ _ hh, s.heard_tileRole, hr, if_pos rfl]

/-- R243: MAP_GEN at a tile. -/
theorem execMapGen_keeps {s : State} {m : MsgHdr} (hr : s.tileRole = true) (hh : s.hears m) (gen due : Nat) :
    ∃ t, exec (.mapGen m gen due) s = .next t ∧ t.tile.gens.getLast? = some (gen, due) ∧
      Acked s t m .ok ∧ OnlyParts [.sent, .link, .tile] s t ∧
      ∀ g u, s.tile.gens.getLast? = some g → s.tableOf g.1 = some u → s.link.tables.any (fun x => x.gen == gen) = false →
        (⟨gen, u.total, u.entries, true⟩ : ModuleTable) ∈ t.link.tables := by
  obtain ⟨hlast, hgrows, hold⟩ := (s.heard m (.mapGen gen due)).takeMapGen_spec gen due
  refine ⟨_, exec_mapGen_hears hr hh gen due, by rw [State.ackMsg_tile]; exact hlast,
    (State.ackMsg_acked _ m .ok).after ((Grows.heard s m _).trans hgrows), ?_, fun g u hg hu hn => ?_⟩
  · exact ((s.heard_parts m _).mono (by simp)).trans ((State.takeMapGen_evolves _ gen due (by simp) (.refl _ _)).parts.trans
      ((State.ackMsg_parts _ m .ok).mono (by simp)))
  · rw [State.ackMsg_tables]
    refine hold g u (by rw [s.heard_tile]; exact hg) ?_ (by rw [s.heard_tables]; exact hn)
    rw [State.tableOf, s.heard_tables]
    exact hu

end Sys2Proof.Machine
end

section
/-! SUPPORT. What a change of a tile's settings leaves (R65, R325): its role, what is posted, and the SETs that it has applied. -/

namespace Sys2Proof.Machine

/-- A tile stays a tile, keeps its own units posted, and keeps the SETs that it has applied. -/
def TileKeeps (s t : State) : Prop :=
  s.tileRole = true → t.tileRole = true ∧ s.link.own <+: t.link.own ∧ t.tile.applied = s.tile.applied

namespace TileKeeps

theorem refl (s : State) : TileKeeps s s := fun h => ⟨h, List.prefix_rfl, rfl⟩

theorem trans {s t u : State} (h : TileKeeps s t) (k : TileKeeps t u) : TileKeeps s u := fun hr => by
  obtain ⟨htr, htl, hta⟩ := h hr
  obtain ⟨hur, hul, hua⟩ := k htr
  exact ⟨hur, htl.trans hul, hua.trans hta⟩

theorem foldl {α : Type} {f : State → α → State} (l : List α) (hf : ∀ u, ∀ x ∈ l, TileKeeps u (f u x)) (s : State) :
    TileKeeps s (l.foldl f s) := by
  induction l generalizing s with
  | nil => exact .refl s
  | cons x l ih =>
    exact (hf s x List.mem_cons_self).trans (ih (fun u y hy => hf u y (List.mem_cons_of_mem x hy)) (f s x))

/-- An operation on a tile need only be judged there. -/
theorem of_tile {s t : State} (h : s.tileRole = true → TileKeeps s t) : TileKeeps s t := fun hr => h hr hr

theorem of_same {s t : State} (hr : t.regs = s.regs) (hl : t.link = s.link) (ht : t.tile = s.tile) : TileKeeps s t := fun h =>
  ⟨(State.tileRole_congr hr).trans h, by rw [hl], by rw [ht]⟩

/-- An operation that evolves parts other than the registers, the link and the tile. -/
theorem of_evolves {ps : List Part} {s t : State} (h : Evolves ps s t) (hp : ∀ p ∈ [Part.regs, .link, .tile], p ∉ ps) : TileKeeps s t :=
  of_same (h.parts .regs (hp _ (by simp))) (h.parts .link (hp _ (by simp))) (h.parts .tile (hp _ (by simp)))

theorem of_grows {s t : State} (h : Grows s t) (ht : t.tile = s.tile) : TileKeeps s t := fun hr =>
  ⟨h.role.trans hr, h.own, by rw [ht]⟩

/-- A register other than the one that tells the role. -/
theorem setReg (s : State) {a : Nat} (w : Word) (ha : 4 < a) : TileKeeps s (s.setReg a w) := fun h =>
  ⟨by rw [State.tileRole, State.fld, s.reg_setReg_ne w (Nat.ne_of_lt ha)]; exact h, List.prefix_rfl, rfl⟩

theorem setFld (s : State) {f : Fld} (v : Nat) (hf : 4 < f.addr) : TileKeeps s (s.setFld f v) := .setReg s _ hf

theorem setFlag (s : State) {f : Fld} (b : Bool) (hf : 4 < f.addr) : TileKeeps s (s.setFlag f b) := .setFld s _ hf

theorem event (s : State) {f : Fld} (hf : 4 < f.addr) : TileKeeps s (s.event f) := .setFld s _ hf

theorem bump (s : State) {f : Fld} (hf : 4 < f.addr) : TileKeeps s (s.bump f) := by
  unfold State.bump
  split
  · exact .setFld s _ hf
  · exact .refl s

theorem fault (s : State) (cls code : Nat) (detail : List Byte) : TileKeeps s (s.fault cls code detail) :=
  .of_grows (.fault s cls code detail) (s.fault_tile cls code detail)

end TileKeeps

/-- The address of a register with copies lies past that of its first copy. -/
theorem four_lt_copy {b : Nat} (hb : 4 < b) (k : Nat) : 4 < b + k := Nat.lt_of_lt_of_le hb (Nat.le_add_right b k)

/-! The words themselves (R65) -/

/-- R25, R49: the register that tells the role has no bit that a change could write. -/
theorem mergeWritable_strap (old new : Word) : mergeWritable 4 old new = old := by
  have hmask : (findReg 4).map (fun x => BitVec.ofNat 32 (x.1.mask (fun y => y == .rw || y == .rws))) = some 0#32 := by decide
  unfold mergeWritable
  cases hf : findReg 4 with
  | none => rfl
  | some x =>
    rw [hf] at hmask
    simp only [Option.map_some, Option.some.injEq] at hmask
    dsimp only
    rw [hmask, show ~~~0#32 = BitVec.allOnes 32 from rfl, BitVec.and_allOnes, BitVec.and_zero, BitVec.or_zero]

theorem State.applyChange_tileKeeps (s : State) (c : Change) : TileKeeps s (s.applyChange c) := by
  refine TileKeeps.foldl _ (fun u i _ => ?_) s
  dsimp only
  refine TileKeeps.of_tile fun hr => ?_
  by_cases ha : c.addr + 4 * i = 4
  · rw [ha, mergeWritable_strap]
    exact fun _ => ⟨by rw [State.tileRole, State.fld, u.reg_setReg_same]; exact hr, List.prefix_rfl, rfl⟩
  · exact fun _ => ⟨by rw [State.tileRole, State.fld, u.reg_setReg_ne _ (Ne.symm ha)]; exact hr, List.prefix_rfl, rfl⟩

/-! Sources and time (R73, R110, R393, R410) -/

theorem State.setSrcMode_tileKeeps (s : State) (i : Nat) (m : SrcMode) : TileKeeps s (s.setSrcMode i m) := by
  have hset : TileKeeps s (if s.srcMode i = .active ∧ m ≠ .active then
      s.setSrc i { s.src i with leftAt := some s.cycles, expired := false } else s) := by
    split
    · exact .of_same rfl rfl rfl
    · exact .refl s
  exact hset.trans (.setFld _ _ (four_lt_copy (by decide) _))

theorem State.srcOff_tileKeeps (s : State) (i : Nat) : TileKeeps s (s.srcOff i) := by
  have hset : TileKeeps s (s.setSrc i ⟨[0, 1, 2, 3], none, none, none, 0, none, true, none⟩) := .of_same rfl rfl rfl
  exact (hset.trans (.setFld _ _ (four_lt_copy (by decide) _))).trans (.setFlag _ _ (four_lt_copy (by decide) _))

theorem State.srcReconfig_tileKeeps (s : State) (i : Nat) : TileKeeps s (s.srcReconfig i) := by
  have hset : ∀ (u : State) (x : SrcState), TileKeeps u (u.setSrc i x) := fun u x => .of_same rfl rfl rfl
  exact ((s.setSrcMode_tileKeeps i .seek).trans (hset _ _)).trans (.setFlag _ _ (four_lt_copy (by decide) _))

theorem State.reactSources_tileKeeps (before s : State) : TileKeeps s (State.reactSources before s) := by
  have hsource : ∀ (u : State) (i : Nat), TileKeeps u (State.reactSource before u i) := by
    intro u i
    unfold State.reactSource
    split
    · split
      · exact u.srcOff_tileKeeps i
      · exact .refl u
    · exact u.setSrcMode_tileKeeps i .seek
    · split
      · exact .refl u
      · exact u.srcReconfig_tileKeeps i
  exact (TileKeeps.foldl _ (fun u i _ => hsource u i) s).trans (.setFld _ _ (by decide))

theorem State.sourceChanged_tileKeeps (s : State) : TileKeeps s s.sourceChanged := by
  have hclear : TileKeeps s { s with time := { s.time with samples := [], refEdge := none } } := .of_same rfl rfl rfl
  have hchoose : ∀ u : State, TileKeeps u u.chooseDom := fun u => .of_tile fun hr => by
    rw [State.chooseDom, hr]
    exact .refl u
  unfold State.sourceChanged
  dsimp only
  refine hclear.trans ?_
  split
  · refine TileKeeps.trans ?_ (hchoose _)
    split
    · exact .refl _
    · exact .setFld _ _ (by decide)
  · exact .setFld _ _ (by decide)
  · exact .setFld _ _ (by decide)

theorem State.evtChanged_tileKeeps (s : State) (n : Nat) : TileKeeps s (s.evtChanged n) := by
  have hset : ∀ o : EvtOut, TileKeeps s (s.setEvtOut n o) := fun o => .of_same rfl rfl rfl
  unfold State.evtChanged
  dsimp only
  split
  · exact (hset _).trans (.event _ (by decide))
  · exact hset _

theorem State.reactTime_tileKeeps (before s : State) : TileKeeps s (State.reactTime before s) := by
  unfold State.reactTime
  refine TileKeeps.trans (t := if before.fld F.PTP_CTL_SOURCE = s.fld F.PTP_CTL_SOURCE ∧ before.fld F.PTP_CTL_SELECT = s.fld F.PTP_CTL_SELECT
    then s else s.sourceChanged) ?_ (.foldl _ (fun u n _ => ?_) _)
  · split
    · exact .refl s
    · exact s.sourceChanged_tileKeeps
  · split
    · exact u.evtChanged_tileKeeps n
    · exact .refl u

theorem State.reactThermal_tileKeeps (before s : State) : TileKeeps s (State.reactThermal before s) := by
  refine TileKeeps.foldl _ (fun u n _ => ?_) s
  have hset : TileKeeps u (u.setRemote n ⟨[], 0, 0⟩) := .of_same rfl rfl rfl
  split
  · exact hset.trans (.setFlag _ _ (four_lt_copy (by decide) _))
  · exact .refl u

/-! Lanes under test (R282, R295) -/

theorem State.trainLane_tileKeeps (s : State) (n : Nat) : TileKeeps s (s.trainLane n) := by
  have hlanes : ∀ (u : State) (x : LaneState), TileKeeps u { u with lanes := x } := fun u x => .of_same rfl rfl rfl
  exact (TileKeeps.setFld s 1 (four_lt_copy (by decide) _)).trans (hlanes _ _)

theorem State.loseLane_tileKeeps (s : State) (n : Nat) : TileKeeps s (s.loseLane n) := by
  have hlost : ∀ u : State, TileKeeps u { u with lanes := { u.lanes with lost := n :: u.lanes.lost.filter (· != n) } } :=
    fun u => .of_same rfl rfl rfl
  unfold State.loseLane
  split
  · exact (((TileKeeps.setFld s 4 (four_lt_copy (by decide) _)).trans (.event _ (four_lt_copy (by decide) _))).trans
      (.event _ (by decide))).trans (hlost _)
  · exact s.trainLane_tileKeeps n
  · exact s.trainLane_tileKeeps n
  · exact .refl s

theorem State.setPortMode_tileKeeps (s : State) (p v : Nat) : TileKeeps s (s.setPortMode p v) := by
  have hset : ∀ (u : State) (x : PortState), TileKeeps u (u.setPort p x) := fun u x h => ⟨h, List.prefix_rfl, rfl⟩
  exact (TileKeeps.setFld s v (four_lt_copy (by decide) _)).trans (hset _ _)

theorem State.checkTrained_tileKeeps (s : State) (p : Nat) : TileKeeps s (s.checkTrained p) := by
  unfold State.checkTrained
  dsimp only
  split
  · split
    · exact s.setPortMode_tileKeeps p 1
    · exact .refl s
  · split
    · exact .refl s
    · exact s.setPortMode_tileKeeps p 0

theorem State.setLaneSet_tileKeeps (s : State) (p v : Nat) {f : Fld} (hf : 4 < f.addr) : TileKeeps s (s.setLaneSet p f v) := by
  unfold State.setLaneSet
  split
  · exact .refl s
  · exact ((TileKeeps.setFld s v hf).trans (.bump _ (four_lt_copy (by decide) _))).trans (.event _ (by decide))

theorem State.laneLost_tileKeeps (s : State) (n : Nat) : TileKeeps s (s.laneLost n false false false) := by
  unfold State.laneLost
  split
  · exact .refl s
  · next p _ =>
    have hlose := ((TileKeeps.setFlag s (f := F.SER_LANE_STAT_CDR_LOCK n) (false || false) (four_lt_copy (by decide) _)).trans
      (.setFlag _ (f := F.SER_LANE_STAT_BLOCK_LOCK n) false (four_lt_copy (by decide) _))).trans (State.loseLane_tileKeeps _ n)
    simp only [Bool.false_eq_true, if_false]
    split
    · split
      · exact hlose.trans ((State.setLaneSet_tileKeeps _ p 0 (four_lt_copy (by decide) _)).trans (State.checkTrained_tileKeeps _ p))
      · exact hlose
    · exact hlose

theorem State.laneForced_tileKeeps (s : State) (n : Nat) : TileKeeps s (s.laneForced n) := by
  unfold State.laneForced
  split
  · split
    · split
      · exact s.laneLost_tileKeeps n
      · exact .refl s
    · split
      · exact .refl s
      · exact s.trainLane_tileKeeps n
  · exact .refl s

/-- R295: a lane of a tile's ports is in no network port and at no SDI input. -/
theorem State.prbsChanged_tileKeeps (s : State) {n : Nat} (hn : n < 8) (on : Bool) : TileKeeps s (s.prbsChanged n on) := by
  have hservice : ∀ u : State, u.outOfService n = u := fun u => by
    rw [State.outOfService, if_neg (by omega), if_neg (by omega)]
  unfold State.prbsChanged
  cases on
  · exact s.laneForced_tileKeeps n
  · simp only [if_true]
    rw [hservice]
    exact ((TileKeeps.setReg s _ (four_lt_copy (by decide) _)).trans (.setReg _ _ (four_lt_copy (by decide) _))).trans
      (State.laneForced_tileKeeps _ n)

theorem State.reactLanes_tileKeeps (before s : State) : TileKeeps s (State.reactLanes before s) := by
  refine TileKeeps.of_tile fun hr => ?_
  have htests : TileKeeps s (State.reactTests before s) := by
    refine TileKeeps.foldl _ (fun u n hn => ?_) s
    have hlane : n < 8 := by simpa [State.hasLane, hr] using (List.mem_filter.mp hn).2
    dsimp only
    split
    · exact u.prbsChanged_tileKeeps hlane _
    · split
      · exact u.laneForced_tileKeeps n
      · exact .refl u
  unfold State.reactLanes
  rw [if_pos (htests hr).1]
  exact htests

/-! The pipeline and the drivers (R320, R325, R354, R356) -/

theorem State.sendTileInfo_grows (s : State) : Grows s s.sendTileInfo := by
  unfold State.sendTileInfo
  split
  · exact .sendBoth _ _
  · exact .refl s

theorem State.geomReset_tileKeeps (s : State) : TileKeeps s s.geomReset := by
  have hfree : TileKeeps s s.freeAreas := fun h => ⟨h, List.prefix_rfl, rfl⟩
  have hstore : ∀ u : State, TileKeeps u ((u.clearStore (greyBase 0) (greyBase 2)).pruneTables) := fun u h => ⟨h, List.prefix_rfl, rfl⟩
  have hbuild : ∀ u : State, TileKeeps u { u with tile := { u.tile with build := none, next := none } } := fun u h => ⟨h, List.prefix_rfl, rfl⟩
  have hinfo : ∀ u : State, TileKeeps u u.sendTileInfo := fun u =>
    .of_grows u.sendTileInfo_grows ((State.sendTileInfo_evolves u (List.Subset.refl _) (.refl _ u)).parts .tile (by simp))
  exact ((((hfree.trans (.event _ (by decide))).trans (hstore _)).trans (hbuild _)).trans (.setFlag _ _ (by decide))).trans (hinfo _)

theorem State.publishLining_tileKeeps (s : State) : TileKeeps s s.publishLining.1 := by
  have hswap : ∀ g, TileKeeps s { s with tile := { s.tile with swap := some g } } := fun g h => ⟨h, List.prefix_rfl, rfl⟩
  unfold State.publishLining
  dsimp only
  split
  · exact (hswap _).trans (.setFlag _ _ (by decide))
  · exact (TileKeeps.event s (by decide)).trans (.fault _ _ _ _)

theorem State.roundEnds_tileKeeps (s : State) : TileKeeps s s.roundEnds := by
  have hround : TileKeeps s { s with diag := { s.diag with round := none } } := .of_same rfl rfl rfl
  unfold State.roundEnds
  split
  · exact .refl s
  · split
    · exact (hround.trans (.setFlag _ _ (by decide))).trans (.setFlag _ _ (by decide))
    · exact .refl s

theorem State.reactTile_tileKeeps (before s : State) (chs : List Change) : TileKeeps s (State.reactTile before s chs) := by
  have hround : ∀ u : State, TileKeeps u { u with diag := { u.diag with round := none, pairs := u.diag.pairs.filter (·.snap) } } :=
    fun u => .of_same rfl rfl rfl
  have hgeom : TileKeeps s (if before.reg F.TIL_GEOM_W.addr = s.reg F.TIL_GEOM_W.addr then s else s.geomReset) := by
    split
    · exact .refl s
    · exact s.geomReset_tileKeeps
  unfold State.reactTile
  dsimp only
  generalize (if before.reg F.TIL_GEOM_W.addr = s.reg F.TIL_GEOM_W.addr then s else s.geomReset) = u at hgeom ⊢
  have hlining : TileKeeps s (if chs.any (touches 0x280040 0x280044) ∧ u.fld F.TIL_LINING_CTL_GEN ≠ u.fld F.TIL_LINING_STAT_ACTIVE_GEN then
      u.publishLining.1 else u) := by
    split
    · exact hgeom.trans u.publishLining_tileKeeps
    · exact hgeom
  generalize (if chs.any (touches 0x280040 0x280044) ∧ u.fld F.TIL_LINING_CTL_GEN ≠ u.fld F.TIL_LINING_STAT_ACTIVE_GEN then
      u.publishLining.1 else u) = v at hlining ⊢
  split
  · split
    · exact hlining
    · exact hlining.trans ((hround v).trans (State.roundEnds_tileKeeps _))
  · exact .refl s

theorem State.judgeBank_tileKeeps (s : State) (b : Nat) : TileKeeps s (s.judgeBank b) := by
  have hflag := TileKeeps.setFlag s (f := F.LMB_BANK_FAULT b) (s.bankWrong b) (four_lt_copy (by decide) _)
  unfold State.judgeBank
  dsimp only
  split
  · exact hflag.trans ((TileKeeps.event _ (by decide)).trans (.fault _ _ _ _))
  · exact hflag

theorem State.configure_tileKeeps (s : State) (x : Nat) : TileKeeps s (s.configure x) := by
  have hqueue : TileKeeps s (s.queueCfg (x / 8) (s.cfgWords x)) := .of_same rfl rfl rfl
  exact hqueue.trans (.setFlag _ _ (four_lt_copy (by decide) _))

theorem State.initCtx_tileKeeps (s : State) (x : Nat) : TileKeeps s (s.initCtx x) := by
  have hqueue : TileKeeps s (s.queueCfg (x / 8) [hkWord 7 (x % 8) false 0]) := .of_same rfl rfl rfl
  exact (hqueue.trans (State.configure_tileKeeps _ x)).trans (.setFlag _ _ (four_lt_copy (by decide) _))

theorem State.initPort_tileKeeps (s : State) (p : Nat) : TileKeeps s (s.initPort p) := by
  have hqueue : ∀ (u : State) (l : Nat), TileKeeps u (u.queueCfg (8 * p + l) [hkWord 7 0 true 0]) := fun u l => .of_same rfl rfl rfl
  exact (TileKeeps.foldl _ (fun u l _ => hqueue u l) s).trans
    (.foldl _ (fun u x _ => (u.configure_tileKeeps x).trans (.setFlag _ _ (four_lt_copy (by decide) _))) _)

/-- R354: the ports that have been enabled are initialised. -/
theorem State.initPorts_tileKeeps (s : State) (on : Bool) (ps : List Nat) :
    TileKeeps s (if on then ps.foldl State.initPort s else s) := by
  split
  · exact .foldl _ (fun u p _ => u.initPort_tileKeeps p) s
  · exact .refl s

/-- R356: the contexts whose settings have changed are configured. -/
theorem State.initCtxs_tileKeeps (before s : State) (on : Bool) (xs : List Nat) :
    TileKeeps s (if on then xs.foldl (fun t x => if before.flag (F.LMB_CTX_CTL_EN x) then t.configure x else t.initCtx x) s else s) := by
  split
  · refine .foldl _ (fun u x _ => ?_) s
    split
    · exact u.configure_tileKeeps x
    · exact u.initCtx_tileKeeps x
  · exact .refl s

theorem State.reactLamp_tileKeeps (before s : State) : TileKeeps s (State.reactLamp before s) := by
  have hbanks : TileKeeps s ((List.range 8).foldl State.judgeBank s) := .foldl _ (fun u b _ => u.judgeBank_tileKeeps b) s
  unfold State.reactLamp
  dsimp only
  generalize (List.range 8).foldl State.judgeBank s = u at hbanks ⊢
  split
  · exact (hbanks.trans (u.initPorts_tileKeeps _ _)).trans (State.initCtxs_tileKeeps before _ _ _)
  · exact .refl s

/-! The blocks together (R65) -/

theorem State.react_tileKeeps (before s : State) (chs : List Change) : TileKeeps s (State.react before s chs) := by
  have hshadow : TileKeeps s s.reactShadow := .of_evolves (State.reactShadow_evolves s (List.Subset.refl _) (.refl _ s)) (by simp)
  have hcuff : ∀ u, TileKeeps u (State.reactCuff before u) := fun u =>
    .of_evolves (State.reactCuff_evolves before u (List.Subset.refl _) (.refl _ u)) (by simp)
  have hcadence : ∀ u, TileKeeps u (State.reactCadence before u) := fun u => .of_tile fun hr => by
    rw [State.reactCadence, hr]
    exact .refl u
  have hnet : ∀ u, TileKeeps u (State.reactNet before u chs) := fun u => .of_tile fun hr => by
    have hsender : u.senderRole = false := by
      rw [State.tileRole, beq_iff_eq] at hr
      rw [State.senderRole, hr]
      rfl
    rw [State.reactNet, hsender]
    exact .refl u
  have hcompositor : ∀ u, TileKeeps u (State.reactCompositor before u chs) := fun u => .of_tile fun hr => by
    rw [State.reactCompositor, if_pos hr]
    exact .refl u
  unfold State.react
  exact hshadow.trans <| (hcuff _).trans <| (hcadence _).trans <| (State.reactThermal_tileKeeps before _).trans <|
    (State.reactTime_tileKeeps before _).trans <| (State.reactSources_tileKeeps before _).trans <| (hnet _).trans <|
    (State.reactLanes_tileKeeps before _).trans <| (hcompositor _).trans <| (State.reactTile_tileKeeps before _ chs).trans <|
    State.reactLamp_tileKeeps before _

theorem State.applyChanges_tileKeeps (s : State) (chs : List Change) : TileKeeps s (s.applyChanges chs) :=
  (TileKeeps.foldl _ (fun u c _ => u.applyChange_tileKeeps c) s).trans (State.react_tileKeeps s _ _)

end Sys2Proof.Machine
end

section
/-! SUPPORT. SET at a tile (R245, R325, R440): what it answers, and when it takes effect. -/

namespace Sys2Proof.Machine

/-! SETs that have been applied (R440) -/

theorem State.appliedOf_auth (s : State) (a : Auth) : (s.appliedOf a).auth = authCode a := by
  unfold State.appliedOf
  cases h : s.tile.applied.find? (fun x => x.auth == authCode a) with
  | none => rfl
  | some x => simpa using List.find?_some h

theorem State.appliedOf_congr {s t : State} (h : t.tile.applied = s.tile.applied) (a : Auth) : t.appliedOf a = s.appliedOf a := by
  rw [State.appliedOf, State.appliedOf, h]

theorem State.alreadySet_congr {s t : State} (h : t.tile.applied = s.tile.applied) (b : SetMsg) : t.alreadySet b = s.alreadySet b := by
  rw [State.alreadySet, State.alreadySet, State.appliedOf_congr h]

/-- R440: the SETs of one authority with one more. -/
def AppliedSets.noted (x : AppliedSets) (m : SetMsg) : AppliedSets :=
  if m.txnSeq = x.seq then { x with pairs := x.pairs ++ [(m.index, m.first)] } else ⟨x.auth, m.txnSeq, [(m.index, m.first)]⟩

theorem AppliedSets.noted_spec (x : AppliedSets) (m : SetMsg) :
    (x.noted m).auth = x.auth ∧ (x.noted m).seq = m.txnSeq ∧ (x.noted m).pairs.contains (m.index, m.first) = true := by
  unfold AppliedSets.noted
  split
  · next h => exact ⟨rfl, h.symm, by simp⟩
  · exact ⟨rfl, rfl, by simp⟩

theorem State.noteSet_appliedOf (s : State) (m : SetMsg) : (s.noteSet m).appliedOf m.auth = (s.appliedOf m.auth).noted m := by
  obtain ⟨hauth, -, -⟩ := (s.appliedOf m.auth).noted_spec m
  have hother : (s.tile.applied.filter (fun z => z.auth != (s.appliedOf m.auth).auth)).find? (fun x => x.auth == authCode m.auth) = none :=
    List.find?_eq_none.mpr fun x hx => by simpa [s.appliedOf_auth] using (List.mem_filter.mp hx).2
  have happlied : (s.noteSet m).tile.applied =
      s.tile.applied.filter (fun z => z.auth != (s.appliedOf m.auth).auth) ++ [(s.appliedOf m.auth).noted m] := rfl
  rw [State.appliedOf, happlied, List.find?_append, hother]
  simp [hauth, s.appliedOf_auth]

/-- R440: a SET that is noted counts as applied. -/
theorem State.noteSet_alreadySet (s : State) (m : SetMsg) : (s.noteSet m).alreadySet m = true := by
  obtain ⟨-, hseq, hpairs⟩ := (s.appliedOf m.auth).noted_spec m
  rw [State.alreadySet, s.noteSet_appliedOf]
  simp only [hseq, hpairs]
  simp

/-! The rules at the tile (R325) -/

theorem State.setRule_congr {s t : State} (h : t.regs = s.regs) (chs : List Change) : t.setRule chs = s.setRule chs := by
  have hreg : t.reg = s.reg := funext (State.reg_congr h)
  rw [State.setRule, State.setRule, hreg]

theorem State.liningConflict_congr {s t : State} (h : t.regs = s.regs) (ht : t.tile = s.tile) (chs : List Change) :
    t.liningConflict chs = s.liningConflict chs := by
  have hreg : t.reg = s.reg := funext (State.reg_congr h)
  simp only [State.liningConflict, State.fld, State.flag, State.stageCheckNow, State.stagingCheck, State.storeBytes, State.half, hreg, ht]

theorem State.schedFull_congr {s t : State} (hr : t.regs = s.regs) (hs : t.sched = s.sched) (hh : t.link.heldSets = s.link.heldSets) :
    t.schedFull = s.schedFull := by
  rw [State.schedFull, State.schedFull, State.tileRole_congr hr, hs, hh]

/-! SETs that take effect at once (R325, R440) -/

theorem State.applySets_refused {s : State} {b : SetMsg} {r : Status × Nat} (hn : s.alreadySet b = false)
    (hr : s.setRule [setChange b] = some r) : (s.applySets [b]).1 = s.setRejected b r.1 r.2 ∧ (s.applySets [b]).2 b = r.1 := by
  obtain ⟨x, i⟩ := r
  simp [State.applySets, hn, hr]

theorem State.applySets_applied {s : State} {b : SetMsg} (hn : s.alreadySet b = false) (hr : s.setRule [setChange b] = none)
    (hl : s.liningConflict [setChange b] = false) :
    (s.applySets [b]).1 = (s.noteSet b).applyChanges [setChange b] ∧ (s.applySets [b]).2 b = .ok := by
  simp [State.applySets, hn, hr, hl]

/-- R440: a SET that is applied is noted, and what follows its change leaves the note. -/
theorem State.setApplied_spec {s : State} (hr : s.tileRole = true) (b : SetMsg) :
    Grows s ((s.noteSet b).applyChanges [setChange b]) ∧ ((s.noteSet b).applyChanges [setChange b]).alreadySet b = true := by
  have hrole : (s.noteSet b).tileRole = true := hr
  obtain ⟨hkeep, hown, happlied⟩ := (s.noteSet b).applyChanges_tileKeeps [setChange b] hrole
  have hsent := ((s.noteSet b).applyChanges_keeps [setChange b]).1
  exact ⟨⟨hkeep.trans hr.symm, hsent, hown⟩, (State.alreadySet_congr happlied b).trans (s.noteSet_alreadySet b)⟩

/-! SETs that wait (R245) -/

/-- R245: a SET that waits for its flip. -/
def State.holdSet (s : State) (m : MsgHdr) (b : SetMsg) : State :=
  { s with link := { s.link with heldSets := s.link.heldSets ++ [⟨m.seq, m.port, m.src, b⟩] } }

theorem State.holdSet_grows (s : State) (m : MsgHdr) (b : SetMsg) : Grows s (s.holdSet m b) := ⟨rfl, List.prefix_rfl, List.prefix_rfl⟩

/-- R245: what a SET that passes its checks does, where it is not to take effect at once. -/
theorem State.takeSet_held {s : State} {m : MsgHdr} {b : SetMsg} (hs : setStatus b = none) (hn : s.alreadySet b = false)
    (hi : b.immediate = false) (hf : s.schedFull = false) :
    s.takeSet m b = if s.flip.last.elim false (fun n => decide (b.dueFlip ≤ n))
      then (((s.holdSet m b).event F.MLK_EVT_LATE_SET).fault 1 2 [], .errLate) else (s.holdSet m b, .ok) := by
  unfold State.takeSet
  rw [hs]
  dsimp only
  rw [hn, hi, hf]
  cases s.flip.last <;> rfl

/-! The message (R245) -/

@[simp] theorem State.heard_heldSets (s : State) (m : MsgHdr) (b : LinkMsg) : (s.heard m b).link.heldSets = s.link.heldSets := by
  obtain ⟨ports, seen, h⟩ := s.heard_link m b
  rw [h]

@[simp] theorem State.ackMsg_heldSets (s : State) (m : MsgHdr) (x : Status) : (s.ackMsg m x).link.heldSets = s.link.heldSets := by
  obtain ⟨ports, own, h⟩ := s.ackMsg_link m x
  rw [h]

theorem exec_setMsg_hears {s : State} {m : MsgHdr} (hr : s.tileRole = true) (hh : s.hears m) (b : SetMsg) :
    exec (.setMsg m b) s = .next (((s.heard m (.set b)).takeSet m b).1.ackMsg m ((s.heard m (.set b)).takeSet m b).2) := by
  show Host.Outcome.next _ = _
  rw [State.receive_hears _ _ _ hh, s.heard_tileRole, hr]
  rfl

/-- R245: a SET that changes nothing answers with its status. -/
theorem execSetMsg_answers {s : State} {m : MsgHdr} {b : SetMsg} {x : Status}
    (ht : (s.heard m (.set b)).takeSet m b = (s.heard m (.set b), x)) :
    let t := ((s.heard m (.set b)).takeSet m b).1.ackMsg m ((s.heard m (.set b)).takeSet m b).2
    Acked s t m x ∧ OnlyParts [.sent, .link] s t ∧ t.link.heldSets = s.link.heldSets := by
  rw [ht]
  exact ⟨(State.ackMsg_acked _ m x).after (.heard s m _), (s.heard_parts m _).trans (State.ackMsg_parts _ m x), by simp⟩

/-- R245: a SET that waits for its flip, on time and late. -/
theorem execSetMsg_holds {s : State} {m : MsgHdr} {b : SetMsg} (hs : setStatus b = none) (hn : s.alreadySet b = false)
    (hi : b.immediate = false) (hf : s.schedFull = false) :
    let t := ((s.heard m (.set b)).takeSet m b).1.ackMsg m ((s.heard m (.set b)).takeSet m b).2
    t.link.heldSets = s.link.heldSets ++ [⟨m.seq, m.port, m.src, b⟩] ∧
      ((∀ n, s.flip.last = some n → n < b.dueFlip) → Acked s t m .ok ∧ OnlyParts [.sent, .link] s t) ∧
      (∀ n, s.flip.last = some n → b.dueFlip ≤ n → Acked s t m .errLate ∧ t.flag F.MLK_EVT_LATE_SET = true) := by
  have hfull : (s.heard m (.set b)).schedFull = false := (State.schedFull_congr (s.heard_regs m _) (s.heard_sched m _) (by simp)).trans hf
  have hnew : (s.heard m (.set b)).alreadySet b = false := (State.alreadySet_congr (congrArg TileState.applied (s.heard_tile m _)) b).trans hn
  have hheld : ((s.heard m (.set b)).holdSet m b).link.heldSets = s.link.heldSets ++ [⟨m.seq, m.port, m.src, b⟩] :=
    congrArg (· ++ _) (s.heard_heldSets m _)
  have hgrows := (Grows.heard s m (.set b)).trans ((s.heard m (.set b)).holdSet_grows m b)
  have hparts : OnlyParts [.sent, .link] s ((s.heard m (.set b)).holdSet m b) :=
    (s.heard_parts m _).trans (Evolves.set_link (ps := [.sent, .link]) _ (by simp) (.refl _ _)).parts
  have htake := State.takeSet_held (m := m) hs hnew hi hfull
  rw [s.heard_flip] at htake
  rw [htake]
  generalize (s.heard m (.set b)).holdSet m b = u at hheld hgrows hparts
  by_cases hlate : s.flip.last.elim false (fun n => decide (b.dueFlip ≤ n)) = true
  · rw [if_pos hlate]
    refine ⟨?_, fun hall => ?_, fun n _ _ => ⟨?_, ?_⟩⟩
    · rw [State.ackMsg_heldSets, State.fault_heldSets, State.event_link]
      exact hheld
    · cases hl : s.flip.last with
      | none => simp [hl] at hlate
      | some n => exact absurd (hall n hl) (by simpa [hl] using hlate)
    · exact (State.ackMsg_acked _ m .errLate).after (hgrows.trans ((Grows.event u rfl (by decide)).trans (.fault _ _ _ _)))
    · rw [State.flag_ackMsg, ((u.event F.MLK_EVT_LATE_SET).fault_flds 1 2 []).flag rfl (by decide)]
      exact State.flag_event u _ rfl
  · rw [if_neg hlate]
    refine ⟨(State.ackMsg_heldSets _ _ _).trans hheld, fun _ => ⟨(State.ackMsg_acked _ m .ok).after hgrows,
      hparts.trans (State.ackMsg_parts _ m .ok)⟩, fun n hl hle => absurd ?_ hlate⟩
    simpa [hl] using hle

/-- R325, R440: a SET that takes effect at once. -/
theorem execSetMsg_applies {s : State} {m : MsgHdr} {b : SetMsg} (hr : s.tileRole = true) (hs : setStatus b = none)
    (hn : s.alreadySet b = false) (hi : b.immediate = true) (hl : s.liningConflict [setChange b] = false) :
    let t := ((s.heard m (.set b)).takeSet m b).1.ackMsg m ((s.heard m (.set b)).takeSet m b).2
    (∀ r, s.setRule [setChange b] = some r → Acked s t m r.1 ∧ t.tile = s.tile) ∧
      (s.setRule [setChange b] = none → Acked s t m .ok ∧ t.alreadySet b = true) := by
  have hrole := (s.heard_tileRole m (.set b)).trans hr
  have hgrows := Grows.heard s m (.set b)
  have htile := s.heard_tile m (.set b)
  have hnew : (s.heard m (.set b)).alreadySet b = false := (State.alreadySet_congr (congrArg TileState.applied htile) b).trans hn
  have hlining := (State.liningConflict_congr (s.heard_regs m (.set b)) htile [setChange b]).trans hl
  have hrule := State.setRule_congr (s.heard_regs m (.set b)) [setChange b]
  have htake : (s.heard m (.set b)).takeSet m b =
      (((s.heard m (.set b)).applySets [b]).1, ((s.heard m (.set b)).applySets [b]).2 b) := by
    unfold State.takeSet
    rw [hs]
    dsimp only
    rw [hnew, hi]
    rfl
  rw [htake]
  generalize s.heard m (.set b) = u at hrole hgrows htile hnew hlining hrule
  refine ⟨fun r h => ?refused, fun h => ?applied⟩
  case refused =>
    obtain ⟨hstate, hstatus⟩ := State.applySets_refused hnew (hrule.trans h)
    rw [hstate, hstatus]
    exact ⟨(State.ackMsg_acked _ m r.1).after (hgrows.trans (.fault _ _ _ _)),
      (State.ackMsg_tile _ m r.1).trans ((u.fault_tile _ _ _).trans htile)⟩
  case applied =>
    obtain ⟨hstate, hstatus⟩ := State.applySets_applied hnew (hrule.trans h) hlining
    obtain ⟨hgrows', halready⟩ := State.setApplied_spec hrole b
    rw [hstate, hstatus]
    exact ⟨(State.ackMsg_acked _ m .ok).after (hgrows.trans hgrows'),
      (State.alreadySet_congr (congrArg TileState.applied (State.ackMsg_tile _ m .ok)) b).trans halready⟩

/-- R245, R325, R440: SET at a tile. -/
theorem execSetMsg_spec {s : State} {m : MsgHdr} (hr : s.tileRole = true) (hh : s.hears m) (b : SetMsg) :
    ∃ t, exec (.setMsg m b) s = .next t ∧
      (∀ x, setStatus b = some x → Acked s t m x ∧ OnlyParts [.sent, .link] s t ∧ t.link.heldSets = s.link.heldSets) ∧
      (setStatus b = none → s.alreadySet b = true → Acked s t m .ok ∧ OnlyParts [.sent, .link] s t ∧ t.link.heldSets = s.link.heldSets) ∧
      (setStatus b = none → s.alreadySet b = false → b.immediate = false →
        (s.schedFull = true → Acked s t m .errCap ∧ OnlyParts [.sent, .link] s t ∧ t.link.heldSets = s.link.heldSets) ∧
        (s.schedFull = false → t.link.heldSets = s.link.heldSets ++ [⟨m.seq, m.port, m.src, b⟩] ∧
          ((∀ n, s.flip.last = some n → n < b.dueFlip) → Acked s t m .ok ∧ OnlyParts [.sent, .link] s t) ∧
          (∀ n, s.flip.last = some n → b.dueFlip ≤ n → Acked s t m .errLate ∧ t.flag F.MLK_EVT_LATE_SET = true))) ∧
      (setStatus b = none → s.alreadySet b = false → b.immediate = true → s.liningConflict [setChange b] = false →
        (∀ r, s.setRule [setChange b] = some r → Acked s t m r.1 ∧ t.tile = s.tile) ∧
        (s.setRule [setChange b] = none → Acked s t m .ok ∧ t.alreadySet b = true)) := by
  have happlied := State.alreadySet_congr (congrArg TileState.applied (s.heard_tile m (.set b))) b
  refine ⟨_, exec_setMsg_hears hr hh b, fun x hs => execSetMsg_answers ?wrong, fun hs ha => execSetMsg_answers ?again,
    fun hs ha hi => ⟨fun hf => execSetMsg_answers ?full, execSetMsg_holds hs ha hi⟩, fun hs ha hi hl => execSetMsg_applies hr hs ha hi hl⟩
  case wrong => rw [State.takeSet, hs]
  case again => rw [State.takeSet, hs, happlied, ha]; rfl
  case full =>
    rw [State.takeSet, hs, happlied, ha, hi, State.schedFull_congr (s.heard_regs m _) (s.heard_sched m _) (by simp), hf]
    rfl

end Sys2Proof.Machine
end

section
/-! CERTIFICATES. What makes a view-frame at a tile (O46). -/

namespace Sys2Proof.Machine

/-- Settles O46: each message is heard and does one operation on the tile, for which a lemma before says what it leaves; what follows a
SET that takes effect keeps the note of it, and what was posted (`applyChanges_tileKeeps`). -/
theorem viewFramesReachTiles : Obligations.ViewFramesReachTiles := by
  intro s m
  exact ⟨fun f hr ha hs hc hp hw hn => execFlipMessage_known hr ha hs hc hp hw hn,
    fun e a x f hr hh ha hf hl => execFrameEnd_judges hr hh ha hf hl,
    fun p room b hr hp hu hm ht ho => execBurstUnit_relays hr hp hu hm ht ho room,
    fun gen total first es hr hh => execModuleTable_keeps hr hh gen total first es,
    fun gen due hr hh => execMapGen_keeps hr hh gen due,
    fun b hr hh => execSetMsg_spec hr hh b⟩

end Sys2Proof.Machine
end

section
/-! SUPPORT. Operations on lanes and on the modes of ports (R233, R280 to R285): what each sets, and the fields and parts that it changes. -/

namespace Sys2Proof.Machine

/-! Modes of ports (R231, R233) -/

theorem State.setPortMode_parts (s : State) (p v : Nat) : OnlyParts [.regs, .link] s (s.setPortMode p v) :=
  (State.setPortMode_evolves s p v (List.Subset.refl _) (.refl _ s)).parts

theorem State.setPortMode_flds (s : State) (p v : Nat) : OnlyFlds [F.MLK_PORT_STAT_STATE p] s (s.setPortMode p v) :=
  ((OnlyFlds.refl _ s).setFld _ v rfl (by simp)).trans (.of_regs rfl)

theorem State.setPortMode_mode (s : State) (p v : Nat) : (s.setPortMode p v).fld (F.MLK_PORT_STAT_STATE p) = v % 8 :=
  s.fld_setFld_same (F.MLK_PORT_STAT_STATE p) v rfl

theorem State.setPortMode_port (s : State) (p v : Nat) : (s.setPortMode p v).port p =
    { s.port p with since := s.cycles, lastHello := s.cycles, helloOk := false, ackOk := false } :=
  State.port_setPort_same _ _ _

@[simp] theorem State.setPortMode_sent (s : State) (p v : Nat) : (s.setPortMode p v).sent = s.sent := rfl
@[simp] theorem State.setPortMode_cycles (s : State) (p v : Nat) : (s.setPortMode p v).cycles = s.cycles := rfl
@[simp] theorem State.setPortMode_lanes (s : State) (p v : Nat) : (s.setPortMode p v).lanes = s.lanes := rfl

/-! Sets of lanes (R283) -/

theorem State.setLaneSet_flds (s : State) (p v : Nat) {f : Fld} (hf : f.ok = true) :
    OnlyFlds [f, F.SER_PORT_CNT_RESTRIPE_COUNT p, F.SER_EVT_RESTRIPE] s (s.setLaneSet p f v) := by
  unfold State.setLaneSet
  split
  · exact .refl _ s
  · exact (((OnlyFlds.refl _ s).setFld f v hf (by simp)).bump _ rfl (by simp)).event _ rfl (by simp)

theorem State.setLaneSet_parts (s : State) (p v : Nat) (f : Fld) : OnlyParts [.regs] s (s.setLaneSet p f v) :=
  (State.setLaneSet_evolves s p f v (List.Subset.refl _) (.refl _ s)).parts

/-- A set that is written reads as written, whether or not it has changed. -/
theorem State.setLaneSet_fld (s : State) {p v : Nat} {f : Fld} (hf : f.ok = true) (hv : v < 2 ^ f.width)
    (hc : (F.SER_PORT_CNT_RESTRIPE_COUNT p).apart f = true) (he : F.SER_EVT_RESTRIPE.apart f = true) :
    (s.setLaneSet p f v).fld f = v := by
  unfold State.setLaneSet
  split
  · next h => exact h
  · rw [State.fld_event_apart _ _ _ rfl hf he, State.fld_bump_apart _ _ _ rfl hf hc, s.fld_setFld_same f v hf, Nat.mod_eq_of_lt hv]

/-- R283: a set that changes is a re-striping. -/
theorem State.setLaneSet_event (s : State) {p v : Nat} {f : Fld} (h : s.fld f ≠ v) : (s.setLaneSet p f v).flag F.SER_EVT_RESTRIPE = true := by
  rw [State.setLaneSet, if_neg h]
  exact State.flag_event _ _ rfl

theorem State.txSet_apart (p : Nat) : (F.SER_PORT_CNT_RESTRIPE_COUNT p).apart (F.SER_PORT_STAT_TX_SET p) = true ∧
    F.SER_EVT_RESTRIPE.apart (F.SER_PORT_STAT_TX_SET p) = true :=
  ⟨Fld.apart_of_addr (by dsimp only; omega), Fld.apart_of_addr (by dsimp only; omega)⟩

theorem State.setTxSet_fld (s : State) {p v : Nat} (hv : v < 16) :
    (s.setLaneSet p (F.SER_PORT_STAT_TX_SET p) v).fld (F.SER_PORT_STAT_TX_SET p) = v :=
  s.setLaneSet_fld rfl hv (State.txSet_apart p).1 (State.txSet_apart p).2

theorem State.setRxSet_fld (s : State) {p v : Nat} (hv : v < 16) :
    (s.setLaneSet p (F.SER_PORT_STAT_RX_SET p) v).fld (F.SER_PORT_STAT_RX_SET p) = v :=
  s.setLaneSet_fld rfl hv (Fld.apart_of_addr (by dsimp only; omega)) (Fld.apart_of_addr (by dsimp only; omega))

/-! Parts other than the registers -/

theorem OnlyFlds.lanes (fs : List Fld) (s : State) (x : LaneState) : OnlyFlds fs s { s with lanes := x } := .of_regs rfl

theorem OnlyFlds.scan (fs : List Fld) (s : State) (x : ScanState) : OnlyFlds fs s { s with scan := x } := .of_regs rfl

theorem State.fld_lanes (s : State) (x : LaneState) (f : Fld) : ({ s with lanes := x } : State).fld f = s.fld f := rfl

theorem State.fld_scan (s : State) (x : ScanState) (f : Fld) : ({ s with scan := x } : State).fld f = s.fld f := rfl

/-! Widths (R284, R285) -/

theorem State.updateWidth_flds (s : State) (p : Nat) : OnlyFlds [F.MLK_PORT_STAT_LANES_UP p, F.SER_PORT_STAT_PRESENT p] s (s.updateWidth p) := by
  have hup := (OnlyFlds.refl [F.MLK_PORT_STAT_LANES_UP p, F.SER_PORT_STAT_PRESENT p] s).setFld (F.MLK_PORT_STAT_LANES_UP p)
    (maskCount (s.fld (F.SER_PORT_STAT_TX_SET p))) rfl (by simp)
  unfold State.updateWidth
  dsimp only
  split
  · exact hup
  · split
    · exact hup
    · exact (hup.setFld (F.SER_PORT_STAT_PRESENT p) _ rfl (by simp)).trans (.scan _ _ _)

theorem State.updateWidth_parts (s : State) (p : Nat) : OnlyParts [.regs, .scan] s (s.updateWidth p) :=
  (State.updateWidth_evolves s p (List.Subset.refl _) (.refl _ s)).parts

theorem maskCount_le (m : Nat) : maskCount m ≤ 4 := by
  simp only [maskCount, List.range_succ, List.range_zero, List.nil_append, List.cons_append, List.map_cons, List.map_nil, List.sum_cons,
    List.sum_nil]
  omega

theorem laneMask_lt (q : Nat → Bool) : laneMask q < 16 := by
  have hbit : ∀ b : Bool, b.toNat ≤ 1 := fun b => b.toNat_le
  have h0 := hbit (q 0)
  have h1 := hbit (q 1)
  have h2 := hbit (q 2)
  have h3 := hbit (q 3)
  simp only [laneMask, List.range_succ, List.range_zero, List.nil_append, List.cons_append, List.map_cons, List.map_nil, List.sum_cons,
    List.sum_nil]
  omega

/-- R285: the width of a port is that of its transmit set. -/
theorem State.updateWidth_lanesUp (s : State) (p : Nat) :
    (s.updateWidth p).fld (F.MLK_PORT_STAT_LANES_UP p) = maskCount (s.fld (F.SER_PORT_STAT_TX_SET p)) := by
  have hup : (s.setFld (F.MLK_PORT_STAT_LANES_UP p) (maskCount (s.fld (F.SER_PORT_STAT_TX_SET p)))).fld (F.MLK_PORT_STAT_LANES_UP p) =
      maskCount (s.fld (F.SER_PORT_STAT_TX_SET p)) := by
    rw [s.fld_setFld_same _ _ rfl]
    exact Nat.mod_eq_of_lt (Nat.lt_of_le_of_lt (maskCount_le _) (by decide : 4 < 2 ^ 4))
  have happ : (F.SER_PORT_STAT_PRESENT p).apart (F.MLK_PORT_STAT_LANES_UP p) = true := Fld.apart_of_addr (by dsimp only; omega)
  unfold State.updateWidth
  dsimp only
  split
  · exact hup
  · split
    · exact hup
    · exact (State.fld_scan _ _ _).trans ((State.fld_setFld_apart _ _ _ _ rfl rfl happ).trans hup)

/-! Lanes (R280) -/

theorem State.trainLane_flds (s : State) (n : Nat) : OnlyFlds [F.SER_LANE_STAT_STATE n] s (s.trainLane n) :=
  ((OnlyFlds.refl _ s).setFld (F.SER_LANE_STAT_STATE n) 1 rfl (by simp)).trans (.lanes _ _ _)

theorem State.trainLane_parts (s : State) (n : Nat) : OnlyParts [.regs, .lanes] s (s.trainLane n) :=
  (State.trainLane_evolves s n (List.Subset.refl _) (.refl _ s)).parts

theorem State.trainLane_mode (s : State) (n : Nat) : (s.trainLane n).laneMode n = 1 :=
  (State.fld_lanes _ _ _).trans (s.fld_setFld_same (F.SER_LANE_STAT_STATE n) 1 rfl)

theorem State.trainLane_since (s : State) (n : Nat) : (n, s.cycles) ∈ (s.trainLane n).lanes.since :=
  List.mem_append_right (s.lanes.since.filter (fun x => x.1 != n)) (List.mem_singleton.mpr rfl)

/-- The state fields of the lanes of a port. -/
def laneStates (p : Nat) : List Fld := (List.range 4).map (fun l => F.SER_LANE_STAT_STATE (4 * p + l))

theorem OnlyFlds.foldl {α : Type} {fs : List Fld} {f : State → α → State} (l : List α) (hf : ∀ u, ∀ x ∈ l, OnlyFlds fs u (f u x)) (s : State) :
    OnlyFlds fs s (l.foldl f s) := by
  induction l generalizing s with
  | nil => exact .refl fs s
  | cons x l ih => exact (hf s x List.mem_cons_self).trans (ih (fun u y hy => hf u y (List.mem_cons_of_mem x hy)) _)

theorem State.portLanesOn_flds (s : State) (p : Nat) : OnlyFlds (laneStates p) s (s.portLanesOn p) := by
  refine OnlyFlds.foldl _ (fun u l hl => (u.trainLane_flds _).mono ?_) s
  have hlane := (List.mem_filter.mp hl).1
  exact List.cons_subset.mpr ⟨List.mem_map.mpr ⟨l, hlane, rfl⟩, List.nil_subset _⟩

/-! Segments with and without sets (R233, R281, R300) -/

theorem State.checkTrained_flds (s : State) (p : Nat) : OnlyFlds [F.MLK_PORT_STAT_STATE p] s (s.checkTrained p) := by
  unfold State.checkTrained State.portDown
  dsimp only
  split
  · split
    · exact s.setPortMode_flds p 1
    · exact .refl _ s
  · split
    · exact .refl _ s
    · exact s.setPortMode_flds p 0

theorem State.checkTrained_parts (s : State) (p : Nat) : OnlyParts [.regs, .link] s (s.checkTrained p) :=
  (State.checkTrained_evolves s p (List.Subset.refl _) (.refl _ s)).parts

/-- R233: a segment whose two directions both have a set begins its bring-up. -/
theorem State.checkTrained_begins {s : State} {p : Nat} (ht : s.fld (F.SER_PORT_STAT_TX_SET p) ≠ 0)
    (hr : s.fld (F.SER_PORT_STAT_RX_SET p) ≠ 0) (hm : s.fld (F.MLK_PORT_STAT_STATE p) = 0) :
    (s.checkTrained p).fld (F.MLK_PORT_STAT_STATE p) = 1 := by
  rw [State.checkTrained, if_pos ⟨ht, hr⟩, if_pos hm]
  exact s.setPortMode_mode p 1

/-- R300: a segment that has no set to receive on is DOWN. -/
theorem State.checkTrained_down {s : State} {p : Nat} (hr : s.fld (F.SER_PORT_STAT_RX_SET p) = 0) :
    (s.checkTrained p).fld (F.MLK_PORT_STAT_STATE p) = 0 := by
  rw [State.checkTrained, if_neg (by simp [hr])]
  split
  · assumption
  · exact s.setPortMode_mode p 0

/-! Retraining (R233) -/

/-- The fields that a port's retraining changes. -/
def retrainFlds (p : Nat) : List Fld :=
  [F.SER_PORT_STAT_TX_SET p, F.SER_PORT_STAT_RX_SET p, F.SER_PORT_CNT_RESTRIPE_COUNT p, F.SER_EVT_RESTRIPE,
    F.MLK_PORT_STAT_LANES_UP p, F.SER_PORT_STAT_PRESENT p] ++ laneStates p

/-- R233: a port that trains again has no sets. -/
theorem State.retrainPort_spec (s : State) {p : Nat} (hp : p < 8) :
    (s.retrainPort p).fld (F.SER_PORT_STAT_TX_SET p) = 0 ∧ (s.retrainPort p).fld (F.SER_PORT_STAT_RX_SET p) = 0 ∧
      OnlyFlds (retrainFlds p) s (s.retrainPort p) ∧ (s.retrainPort p).sent = s.sent ∧ (s.retrainPort p).cycles = s.cycles := by
  have hparts := (State.retrainPort_evolves s p (List.Subset.refl _) (.refl _ s)).parts
  unfold State.retrainPort at hparts ⊢
  dsimp only at hparts ⊢
  set s1 := s.setLaneSet p (F.SER_PORT_STAT_TX_SET p) 0
  set s2 := s1.setLaneSet p (F.SER_PORT_STAT_RX_SET p) 0
  have h1 := s.setLaneSet_flds p 0 (f := F.SER_PORT_STAT_TX_SET p) rfl
  have h2 := s1.setLaneSet_flds p 0 (f := F.SER_PORT_STAT_RX_SET p) rfl
  have h3 : OnlyFlds ([F.MLK_PORT_STAT_LANES_UP p, F.SER_PORT_STAT_PRESENT p] ++ laneStates p) s2 _ :=
    ((OnlyFlds.lanes _ s2 { s2.lanes with rxOk := s2.lanes.rxOk.filter (fun (x : Nat × Nat × Nat) => x.1 != p) }).trans
      ((State.updateWidth_flds _ p).mono (by simp))).trans ((State.portLanesOn_flds _ p).mono (by simp))
  refine ⟨?_, ?_, ((h1.mono ?_).trans (h2.mono ?_)).trans (h3.mono ?_), hparts .sent (by simp), hparts .cycles (by simp)⟩
  · rw [h3 _ rfl (by interval_cases p <;> decide), h2 _ rfl (by interval_cases p <;> decide)]
    exact s.setTxSet_fld (by decide)
  · rw [h3 _ rfl (by interval_cases p <;> decide)]
    exact s1.setRxSet_fld (by decide)
  · simp [retrainFlds]
  · simp [retrainFlds]
  · exact List.append_subset.mpr ⟨by simp [retrainFlds], List.subset_append_right _ _⟩

end Sys2Proof.Machine
end

section
/-! SUPPORT. The bring-up of a segment (R231 to R233). -/

namespace Sys2Proof.Machine

theorem State.lt_of_portList {s : State} {p : Nat} (h : s.portList.contains p = true) : p < 8 := by
  have hmem := List.contains_iff_mem.mp h
  unfold State.portList at hmem
  split at hmem
  · simp only [List.mem_cons, List.not_mem_nil, or_false] at hmem
    omega
  · exact List.mem_range.mp hmem

/-! HELLO sent, and what ends a mode -/

/-- R231: the next HELLO of a port leaves when it is due. -/
theorem exec_helloSend_due {s : State} {p : Nat} (hp : s.portList.contains p = true) (hm : s.fld (F.MLK_PORT_STAT_STATE p) = 1) :
    ∃ t, exec (.helloSend p) s = .next t ∧ t.sent = s.sent ++ [.link p (.msg 0xFFFE false false (.hello (s.ownHello p)))] ∧
      (t.port p).sentHello = t.cycles ∧ s.cycles ≤ t.cycles ∧
      ((s.port p).since ≤ (s.port p).sentHello → (s.port p).sentHello + usCycles 100 ≤ t.cycles) ∧
      OnlyParts [.cycles, .wall, .sent, .link] s t := by
  have hexec : exec (.helloSend p) s = .next
      (((s.untilCycle (if (s.port p).sentHello < (s.port p).since then (s.port p).since else (s.port p).sentHello + usCycles 100)).setPort p
        { s.port p with sentHello := (s.untilCycle (if (s.port p).sentHello < (s.port p).since then (s.port p).since
          else (s.port p).sentHello + usCycles 100)).cycles }).send (.link p (.msg 0xFFFE false false (.hello (s.ownHello p))))) := by
    show execHelloSend p s = _
    rw [execHelloSend, if_pos ⟨hp, hm⟩]
    rfl
  refine ⟨_, hexec, ?_, ?_, ?_, fun hsent => ?_, ?_⟩
  · rfl
  · rw [State.port_send, State.port_setPort_same]
    rfl
  · exact Nat.le_add_right _ _
  · show _ ≤ (s.untilCycle _).cycles
    rw [if_neg (Nat.not_lt.mpr hsent), State.untilCycle_cycles]
    exact Nat.le_max_right _ _
  · exact (State.send_evolves _ _ (by simp) (State.setPort_evolves _ _ _ (by simp) (State.untilCycle_evolves s _ (by simp) (.refl _ s)))).parts

/-- R233: a port whose partner says nothing is DOWN, and its lanes train again. -/
theorem exec_helloTimeout_down {s : State} {p : Nat} (hp : s.portList.contains p = true) (hm : s.fld (F.MLK_PORT_STAT_STATE p) = 1) :
    ∃ t, exec (.helloTimeout p) s = .next t ∧ (s.port p).lastHello + msCycles 10 ≤ t.cycles ∧ t.fld (F.MLK_PORT_STAT_STATE p) = 0 ∧
      t.fld (F.SER_PORT_STAT_TX_SET p) = 0 ∧ t.fld (F.SER_PORT_STAT_RX_SET p) = 0 ∧ t.sent = s.sent := by
  have hp8 := State.lt_of_portList hp
  obtain ⟨htx, hrx, hflds, hsent, hcycles⟩ :=
    ((s.untilCycle ((s.port p).lastHello + msCycles 10)).portDown p).retrainPort_spec hp8
  refine ⟨_, by show execHelloTimeout p s = _; rw [execHelloTimeout, if_pos ⟨hp, hm⟩], ?_, ?_, htx, hrx,
    hsent.trans (by rw [State.portDown, State.setPortMode_sent, State.untilCycle_sent])⟩
  · rw [hcycles, State.portDown, State.setPortMode_cycles, State.untilCycle_cycles]
    exact Nat.le_max_right _ _
  · rw [hflds (F.MLK_PORT_STAT_STATE p) rfl (by interval_cases p <;> decide), State.portDown, State.setPortMode_mode]

/-- A port's mode that ends when its time comes. -/
theorem State.modeEnds_spec (s : State) (p n : Nat) {v : Nat} (hv : v < 8) :
    let t := (s.untilCycle n).setPortMode p v
    t.fld (F.MLK_PORT_STAT_STATE p) = v ∧ t.cycles = max s.cycles n ∧ OnlyParts [.regs, .cycles, .wall, .link] s t ∧
      OnlyFlds [F.MLK_PORT_STAT_STATE p] s t :=
  ⟨(State.setPortMode_mode _ p v).trans (Nat.mod_eq_of_lt hv), s.untilCycle_cycles n,
    (State.setPortMode_evolves _ p v (by simp) (State.untilCycle_evolves s n (by simp) (.refl _ s))).parts,
    (s.untilCycle_flds _ n).trans (State.setPortMode_flds _ p v)⟩

/-- R232: after HELLO_FAIL a port tries again. -/
theorem exec_helloFailExpiry_hello {s : State} {p : Nat} (hp : s.portList.contains p = true) (hm : s.fld (F.MLK_PORT_STAT_STATE p) = 3) :
    ∃ t, exec (.helloFailExpiry p) s = .next t ∧ t.fld (F.MLK_PORT_STAT_STATE p) = 1 ∧
      t.cycles = max s.cycles ((s.port p).since + msCycles 100) ∧ OnlyParts [.regs, .cycles, .wall, .link] s t ∧
      OnlyFlds [F.MLK_PORT_STAT_STATE p] s t :=
  ⟨_, congrArg Host.Outcome.next (if_pos ⟨hp, hm⟩), s.modeEnds_spec p _ (by decide)⟩

/-- R233: a segment that is UP and falls silent is DOWN. -/
theorem exec_segmentSilence_down {s : State} {p : Nat} (hp : s.portList.contains p = true) (hm : s.fld (F.MLK_PORT_STAT_STATE p) = 2) :
    ∃ t, exec (.segmentSilence p) s = .next t ∧ t.fld (F.MLK_PORT_STAT_STATE p) = 0 ∧
      t.cycles = max s.cycles ((s.port p).lastBlock + msCycles 1) ∧ OnlyParts [.regs, .cycles, .wall, .link] s t ∧
      OnlyFlds [F.MLK_PORT_STAT_STATE p] s t :=
  ⟨_, congrArg Host.Outcome.next (if_pos ⟨hp, by rw [State.portUp, hm]; rfl⟩), s.modeEnds_spec p _ (by decide)⟩

/-! HELLO received -/

/-- R231: what a port keeps of its partner, with the version of their segment. -/
def State.notePartner (s : State) (p v : Nat) (h : Hello) : State :=
  (((s.setFld (F.MLK_PORT_STAT_VERSION p) v).setFld (F.MLK_PORT_STAT_PARTNER p) (partnerCode h)).setFld (F.MLK_PORT_PARTNER_ID_PART p)
    h.part).setFld (F.MLK_PORT_PARTNER_ID_ADDR p) h.addr

/-- The fields that a valid HELLO changes. -/
def partnerFlds (p : Nat) : List Fld :=
  [F.MLK_PORT_STAT_VERSION p, F.MLK_PORT_STAT_PARTNER p, F.MLK_PORT_PARTNER_ID_PART p, F.MLK_PORT_PARTNER_ID_ADDR p]

theorem State.notePartner_flds (s : State) (p v : Nat) (h : Hello) : OnlyFlds (partnerFlds p) s (s.notePartner p v h) :=
  ((((OnlyFlds.refl _ s).setFld (F.MLK_PORT_STAT_VERSION p) v rfl (by simp [partnerFlds])).setFld (F.MLK_PORT_STAT_PARTNER p)
    (partnerCode h) rfl (by simp [partnerFlds])).setFld (F.MLK_PORT_PARTNER_ID_PART p) h.part rfl (by simp [partnerFlds])).setFld
    (F.MLK_PORT_PARTNER_ID_ADDR p) h.addr rfl (by simp [partnerFlds])

theorem State.notePartner_version (s : State) {p v : Nat} (h : Hello) (hv : v < 16) :
    (s.notePartner p v h).fld (F.MLK_PORT_STAT_VERSION p) = v := by
  unfold State.notePartner
  rw [State.fld_setFld_apart _ _ _ _ rfl rfl (Fld.apart_of_addr (by dsimp only; omega)),
    State.fld_setFld_apart _ _ _ _ rfl rfl (Fld.apart_of_addr (by dsimp only; omega)),
    State.fld_setFld_apart _ _ _ _ rfl rfl (Fld.apart_iff.mpr (by simp)), State.fld_setFld_same _ _ _ rfl]
  exact Nat.mod_eq_of_lt hv

theorem State.notePartner_addr (s : State) (p v : Nat) (h : Hello) :
    (s.notePartner p v h).fld (F.MLK_PORT_PARTNER_ID_ADDR p) = h.addr % 65536 :=
  State.fld_setFld_same _ (F.MLK_PORT_PARTNER_ID_ADDR p) h.addr rfl

theorem State.notePartner_parts (s : State) (p v : Nat) (h : Hello) : OnlyParts [.regs] s (s.notePartner p v h) :=
  (State.setFld_evolves _ _ _ (by simp) (State.setFld_evolves _ _ _ (by simp) (State.setFld_evolves _ _ _ (by simp)
    (State.setFld_evolves s _ _ (by simp) (.refl _ s))))).parts

theorem commonVersion_le (a b : Nat) : commonVersion a b ≤ 2 := by
  unfold commonVersion
  split
  · exact Nat.le_refl 2
  · split <;> decide

/-- R231: what a valid HELLO leaves, before the port asks whether it comes up. -/
def State.greeted (s : State) (p : Nat) (h : Hello) : State :=
  ((s.setPort p { s.port p with helloOk := true, lastHello := s.cycles }).notePartner p (commonVersion s.versions h.versions) h).send
    (.link p (.msg h.addr false false (.helloAck (commonVersion s.versions h.versions))))

theorem State.takeHello_valid {s : State} {p : Nat} {h : Hello} (hv : s.helloValid p h = true) :
    s.takeHello p h = (s.greeted p h).checkHello p := by
  rw [State.takeHello, if_pos hv]
  rfl

theorem State.greeted_port (s : State) (p : Nat) (h : Hello) :
    (s.greeted p h).port p = { s.port p with helloOk := true, lastHello := s.cycles } := by
  rw [State.greeted, State.port_send, State.port_congr (congrArg LinkState.ports (State.notePartner_parts _ p _ h .link (by simp))),
    State.port_setPort_same]

theorem State.sent_send (s : State) (o : Output) : (s.send o).sent = s.sent ++ [o] := rfl

theorem State.greeted_sent (s : State) (p : Nat) (h : Hello) : (s.greeted p h).sent =
    s.sent ++ [.link p (.msg h.addr false false (.helloAck (commonVersion s.versions h.versions)))] := by
  rw [State.greeted, State.sent_send, (State.notePartner_parts _ p _ h) .sent (by simp), State.setPort_sent]

theorem State.greeted_fld (s : State) (p : Nat) (h : Hello) (f : Fld) : (s.greeted p h).fld f =
    ((s.setPort p { s.port p with helloOk := true, lastHello := s.cycles }).notePartner p (commonVersion s.versions h.versions) h).fld f :=
  State.fld_send _ _ f

theorem State.greeted_flds (s : State) (p : Nat) (h : Hello) : OnlyFlds (partnerFlds p) s (s.greeted p h) := fun g hg ha => by
  rw [s.greeted_fld, State.notePartner_flds _ p _ h g hg ha, State.fld_setPort]

theorem State.greeted_parts (s : State) (p : Nat) (h : Hello) : OnlyParts [.regs, .sent, .link] s (s.greeted p h) :=
  ((s.setPort_parts p _).mono (by simp)).trans (((State.notePartner_parts _ p _ h).mono (by simp)).trans
    (State.send_evolves _ _ (by simp) (.refl _ _)).parts)

/-- A port that waits for its HELLO_ACK stays as it is. -/
theorem State.checkHello_waits {s : State} {p : Nat} (h : (s.port p).ackOk = false) : s.checkHello p = s := by
  rw [State.checkHello, if_neg (by simp [h])]

theorem State.versions_congr {s t : State} (h : t.regs = s.regs) : t.versions = s.versions := by
  rw [State.versions, State.versions, State.fld_congr h]

theorem State.helloValid_congr {s t : State} (h : t.regs = s.regs) (p : Nat) (b : Hello) : t.helloValid p b = s.helloValid p b := by
  simp only [State.helloValid, State.pairingOk, State.versions_congr h, State.fld_congr h, State.tileRole_congr h]

theorem exec_hello_taken {s : State} {m : MsgHdr} (hp : s.portList.contains m.port = true) (hc : m.checkOk = true)
    (hm : s.fld (F.MLK_PORT_STAT_STATE m.port) = 1) (h : Hello) : exec (.hello m h) s = .next ((s.blockSeen m.port).takeHello m.port h) := by
  show execHello m h s = _
  rw [execHello, if_pos hp, State.hello, if_pos hc, hm]
  rfl

/-- R231: a valid HELLO is kept and acknowledged. -/
theorem exec_hello_valid {s : State} {m : MsgHdr} {h : Hello} (hp : s.portList.contains m.port = true) (hc : m.checkOk = true)
    (hm : s.fld (F.MLK_PORT_STAT_STATE m.port) = 1) (hv : s.helloValid m.port h = true) (ha : (s.port m.port).ackOk = false) :
    ∃ t, exec (.hello m h) s = .next t ∧ (t.port m.port).helloOk = true ∧ t.fld (F.MLK_PORT_STAT_STATE m.port) = 1 ∧
      t.fld (F.MLK_PORT_STAT_VERSION m.port) = commonVersion s.versions h.versions ∧
      t.fld (F.MLK_PORT_PARTNER_ID_ADDR m.port) = h.addr % 65536 ∧
      t.sent = s.sent ++ [.link m.port (.msg h.addr false false (.helloAck (commonVersion s.versions h.versions)))] ∧
      OnlyParts [.regs, .sent, .link] s t ∧ OnlyFlds (partnerFlds m.port) s t := by
  have hport : (s.blockSeen m.port).port m.port = { s.port m.port with lastBlock := s.cycles } := State.port_setPort_same _ _ _
  have hwaits : (((s.blockSeen m.port).greeted m.port h).port m.port).ackOk = false := by
    rw [State.greeted_port, hport]
    exact ha
  have hflds := (OnlyFlds.of_regs (s.blockSeen_regs m.port)).trans ((s.blockSeen m.port).greeted_flds m.port h)
  have hlt : commonVersion s.versions h.versions < 16 := Nat.lt_of_le_of_lt (commonVersion_le _ _) (by decide)
  have hversions := State.versions_congr (s.blockSeen_regs m.port)
  have hvalid := (State.helloValid_congr (s.blockSeen_regs m.port) m.port h).trans hv
  refine ⟨_, by rw [exec_hello_taken hp hc hm, State.takeHello_valid hvalid, State.checkHello_waits hwaits], ?_, ?_, ?_, ?_,
    by rw [State.greeted_sent, hversions, State.blockSeen_sent],
    ((s.blockSeen_parts m.port).mono (by simp)).trans ((s.blockSeen m.port).greeted_parts m.port h), hflds⟩
  · rw [State.greeted_port]
  · rw [hflds _ rfl ?_, hm]
    simp [partnerFlds, Fld.apart]
  · rw [State.greeted_fld, hversions, State.notePartner_version _ h hlt]
  · rw [State.greeted_fld, State.notePartner_addr]

/-- R232: an invalid HELLO ends the bring-up. -/
theorem exec_hello_invalid {s : State} {m : MsgHdr} {h : Hello} (hp : s.portList.contains m.port = true) (hc : m.checkOk = true)
    (hm : s.fld (F.MLK_PORT_STAT_STATE m.port) = 1) (hv : s.helloValid m.port h = false) (hr : s.tileRole = false) :
    ∃ t, exec (.hello m h) s = .next t ∧ t.fld (F.MLK_PORT_STAT_STATE m.port) = 3 ∧ t.flag F.MLK_EVT_HELLO_FAIL = true ∧
      (t.port m.port).since = s.cycles ∧ OnlyParts [.regs, .link] s t ∧ OnlyFlds [F.MLK_PORT_STAT_STATE m.port, F.MLK_EVT_HELLO_FAIL] s t := by
  have hmode := ((s.blockSeen m.port).setPortMode_flds m.port 3).mono (gs := [F.MLK_PORT_STAT_STATE m.port, F.MLK_EVT_HELLO_FAIL]) (by simp)
  have hflds := (OnlyFlds.of_regs (s.blockSeen_regs m.port)).trans (hmode.event F.MLK_EVT_HELLO_FAIL rfl (by simp))
  have hsender : (((s.blockSeen m.port).setPortMode m.port 3).event F.MLK_EVT_HELLO_FAIL).tileRole = false :=
    (hflds.roles (by simp [allApart, addrFlds, Fld.apart, Fld.ok]; omega)).1.trans hr
  have htake : (s.blockSeen m.port).takeHello m.port h = ((s.blockSeen m.port).setPortMode m.port 3).event F.MLK_EVT_HELLO_FAIL := by
    rw [State.takeHello, if_neg (by rw [State.helloValid_congr (s.blockSeen_regs m.port), hv]; decide)]
    dsimp only
    rw [if_neg (by rw [hsender]; decide)]
  refine ⟨_, by rw [exec_hello_taken hp hc hm, htake], ?_, State.flag_event _ _ rfl, ?_, ?_, hflds⟩
  · rw [State.fld_event_apart _ _ _ rfl rfl (Fld.apart_of_addr (by dsimp only; omega))]
    exact State.setPortMode_mode _ _ 3
  · rw [State.port_event, State.setPortMode_port]
    rfl
  · exact ((s.blockSeen_parts m.port).mono (by simp)).trans (((State.setPortMode_parts _ _ 3).mono (by simp)).trans
      (State.event_evolves _ _ (by simp) (.refl _ _)).parts)

/-! HELLO_ACK -/

@[simp] theorem State.sendMsg_since (s : State) (q dst : Nat) (m : LinkMsg) (tiles : List Nat) :
    ((s.sendMsg q dst m tiles).port q).since = (s.port q).since := by
  unfold State.sendMsg
  split
  · rfl
  · have hport : ∀ u : State, u.link.ports = (s.setPort q { s.port q with nextSeq := nextMsgSeq (s.port q).nextSeq }).link.ports →
        (u.port q).since = (s.port q).since := fun u hu => by rw [State.port_congr hu, State.port_setPort_same]
    unfold State.emitMsg
    dsimp only
    split <;> exact hport _ rfl

/-- R234, R235: a segment that comes up is UP from now on. -/
theorem State.portComesUp_spec (s : State) (p : Nat) :
    (s.portComesUp p).fld (F.MLK_PORT_STAT_STATE p) = 2 ∧ ((s.portComesUp p).port p).since = s.cycles := by
  have hfld : (s.setFld (F.MLK_PORT_STAT_STATE p) 2).fld (F.MLK_PORT_STAT_STATE p) = 2 := s.fld_setFld_same (F.MLK_PORT_STAT_STATE p) 2 rfl
  have hsent : ∀ (u : State) (dst : Nat) (b : LinkMsg), u.fld (F.MLK_PORT_STAT_STATE p) = 2 → (u.port p).since = s.cycles →
      (u.sendMsg p dst b []).fld (F.MLK_PORT_STAT_STATE p) = 2 ∧ ((u.sendMsg p dst b []).port p).since = s.cycles := fun u dst b hf hs =>
    ⟨(State.fld_congr (u.sendMsg_regs p dst b []).1 _).trans hf, (u.sendMsg_since p dst b []).trans hs⟩
  have hport : ((((s.setFld (F.MLK_PORT_STAT_STATE p) 2).setPort p { s.port p with since := s.cycles, lastBlock := s.cycles })).port p).since =
      s.cycles := by rw [State.port_setPort_same]
  unfold State.portComesUp
  dsimp only
  generalize hu : (s.setFld (F.MLK_PORT_STAT_STATE p) 2).setPort p { s.port p with since := s.cycles, lastBlock := s.cycles } = u at hport
  have hmode : u.fld (F.MLK_PORT_STAT_STATE p) = 2 := by rw [← hu]; exact hfld
  split
  · split
    · exact hsent u _ _ hmode hport
    · refine hsent _ _ _ ?_ ?_
      · rw [State.fld_setPort, State.fld_setFld_apart _ _ _ _ rfl rfl (Fld.apart_iff.mpr (by simp)), hmode]
      · rw [State.port_setPort_same]
        exact hport
  · exact ⟨hmode, hport⟩

/-- R232: HELLO_ACK of a version that the device can speak. -/
theorem exec_helloAck_taken {s : State} {m : MsgHdr} {v : Nat} (hp : s.portList.contains m.port = true) (hc : m.checkOk = true)
    (hm : s.fld (F.MLK_PORT_STAT_STATE m.port) = 1) (h1 : 1 ≤ v) (h2 : v ≤ 2) :
    exec (.helloAck m v) s = .next (((s.blockSeen m.port).setPort m.port { s.port m.port with ackOk := true }).checkHello m.port) := by
  show execHelloAck m v s = _
  rw [execHelloAck, if_pos hp, if_pos hc, if_pos ⟨hm, h1, h2⟩]

/-- R232: with HELLO and HELLO_ACK the segment is UP; with HELLO_ACK alone the port waits. -/
theorem exec_helloAck_spec {s : State} {m : MsgHdr} {v : Nat} (hp : s.portList.contains m.port = true) (hc : m.checkOk = true)
    (hm : s.fld (F.MLK_PORT_STAT_STATE m.port) = 1) (h1 : 1 ≤ v) (h2 : v ≤ 2) :
    ((s.port m.port).helloOk = true → ∃ t, exec (.helloAck m v) s = .next t ∧ t.fld (F.MLK_PORT_STAT_STATE m.port) = 2 ∧
      (t.port m.port).since = s.cycles) ∧
    ((s.port m.port).helloOk = false → ∃ t, exec (.helloAck m v) s = .next t ∧ (t.port m.port).ackOk = true ∧ OnlyParts [.link] s t) := by
  have hexec := exec_helloAck_taken hp hc hm h1 h2
  have hparts : OnlyParts [.link] s ((s.blockSeen m.port).setPort m.port { s.port m.port with ackOk := true }) :=
    (s.blockSeen_parts m.port).trans (State.setPort_parts _ _ _)
  have hport := State.port_setPort_same (s.blockSeen m.port) m.port { s.port m.port with ackOk := true }
  have hmode : ((s.blockSeen m.port).setPort m.port { s.port m.port with ackOk := true }).fld (F.MLK_PORT_STAT_STATE m.port) = 1 := hm
  have hcycles : ((s.blockSeen m.port).setPort m.port { s.port m.port with ackOk := true }).cycles = s.cycles := rfl
  generalize (s.blockSeen m.port).setPort m.port { s.port m.port with ackOk := true } = u at hexec hparts hport hmode hcycles
  refine ⟨fun hh => ?up, fun hh => ?waits⟩
  case up =>
    obtain ⟨hup, hsince⟩ := u.portComesUp_spec m.port
    exact ⟨_, by rw [hexec, State.checkHello, if_pos ⟨hmode, by rw [hport]; exact hh, by rw [hport]⟩], hup, hsince.trans hcycles⟩
  case waits =>
    exact ⟨_, by rw [hexec, State.checkHello, if_neg (by rw [hport]; simp [hh])], by rw [hport], hparts⟩

/-- R220: HELLO whose CHECK fails is counted. -/
theorem exec_hello_badCheck {s : State} {m : MsgHdr} (hp : s.portList.contains m.port = true) (hc : m.checkOk = false) (h : Hello) :
    exec (.hello m h) s = .next (s.eventCount F.MLK_EVT_CRC_ERR F.MLK_DISC_CNT_CRC_ERR_COUNT) := by
  show execHello m h s = _
  rw [execHello, if_pos hp, State.hello, hc]
  rfl

end Sys2Proof.Machine
end

section
/-! CERTIFICATES. The bring-up of a segment (O41). -/

namespace Sys2Proof.Machine

/-- Settles O41: a lemma for each command and message of the bring-up says what it leaves. -/
theorem segmentsComeUp : Obligations.SegmentsComeUp := by
  intro s p hp
  refine ⟨fun hm => ⟨exec_helloSend_due hp hm, exec_helloTimeout_down hp hm, ?_, ?_, ?_⟩, ?_, exec_helloFailExpiry_hello hp,
    exec_segmentSilence_down hp⟩
  · rintro m h rfl hc hv ha
    exact exec_hello_valid hp hc hm hv ha
  · rintro m h rfl hc hv hr
    exact exec_hello_invalid hp hc hm hv hr
  · rintro m v rfl hc h1 h2
    exact exec_helloAck_spec hp hc hm h1 h2
  · rintro m h rfl hc
    exact ⟨_, exec_hello_badCheck hp hc h, s.crcError_spec⟩

end Sys2Proof.Machine
end

section
/-! SUPPORT. ENUMERATE (R235 to R237): the numbers of tiles, and the end of a pass over a ring. -/

namespace Sys2Proof.Machine

theorem State.keepSeq_parts (s : State) (src n : Nat) : OnlyParts [.link] s (s.keepSeq src n) :=
  (State.keepSeq_evolves s src n (List.Subset.refl _) (.refl _ s)).parts

@[simp] theorem State.keepSeq_regs (s : State) (src n : Nat) : (s.keepSeq src n).regs = s.regs := rfl
@[simp] theorem State.keepSeq_sent (s : State) (src n : Nat) : (s.keepSeq src n).sent = s.sent := rfl

/-! What a tile says of itself (R237) -/

/-- R237: a tile's TILE_INFO goes both ways. -/
theorem State.sendTileInfo_spec {s : State} (hr : s.tileRole = true) :
    let t := s.sendTileInfo
    Posts s t 0 0x8003 (.tileInfo t.tileInfo) ∧ Posts s t 1 0x8003 (.tileInfo t.tileInfo) ∧ t.sent = s.sent ∧ OnlyParts [.link] s t := by
  have hsend : s.sendTileInfo = (s.sendMsg 0 0x8003 (.tileInfo s.tileInfo) []).sendMsg 1 0x8003 (.tileInfo s.tileInfo) [] := by
    rw [State.sendTileInfo, if_pos hr, State.sendBoth]
  have hrole : (s.sendMsg 0 0x8003 (.tileInfo s.tileInfo) []).tileRole = true := (Grows.sendMsg s 0 0x8003 (.tileInfo s.tileInfo) []).role.trans hr
  have hinfo : s.sendTileInfo.tileInfo = s.tileInfo := by
    rw [hsend, State.sendMsg_tile hrole, State.sendMsg_tile hr]
    rfl
  have hparts : OnlyParts [.link] s s.sendTileInfo := by
    have h := fun (u : State) (p : Nat) (b : LinkMsg) => (Evolves.set_link (ps := [.link]) (b := u)
      (x := { u.link with own := u.link.own ++ [⟨p, 0x8003, b, []⟩] }) (by simp) (.refl _ u)).parts
    rw [hsend, State.sendMsg_tile hrole, State.sendMsg_tile hr]
    exact (h _ _ _).trans (h _ _ _)
  refine ⟨?_, ?_, hparts .sent (by simp), hparts⟩
  · rw [hinfo, hsend]
    exact (s.sendMsg_posts _ _ _ _).before (.sendMsg _ _ _ _ _)
  · rw [hinfo, hsend]
    exact (State.sendMsg_posts _ _ _ _ _).after (.sendMsg _ _ _ _ _)

/-! Faults at a tile (R255) -/

theorem State.sendBoth_sent_tile {s : State} (hr : s.tileRole = true) (m : LinkMsg) : (s.sendBoth m).sent = s.sent := by
  have hrole := (Grows.sendMsg s 0 0x8003 m []).role.trans hr
  rw [State.sendBoth, State.sendMsg_tile hrole, State.sendMsg_tile hr]

theorem State.loggedFault_keeps (s : State) (f : FaultRec) : (s.loggedFault f).regs = s.regs ∧ (s.loggedFault f).sent = s.sent := by
  unfold State.loggedFault
  dsimp only
  split <;> exact ⟨rfl, rfl⟩

/-- R255: a fault of a tile waits among its own units, so that nothing is sent. -/
theorem State.fault_sent_tile {s : State} (hr : s.tileRole = true) (cls code : Nat) (detail : List Byte) :
    (s.fault cls code detail).sent = s.sent := by
  have hnew : ∀ (c n : Nat) (bs : List Byte), (s.newFault c n bs).sent = s.sent := by
    intro c n bs
    rw [s.newFault_eq]
    obtain ⟨hregs, hsent⟩ := s.loggedFault_keeps ⟨s.ownAddr, nextRec s.faults.lastRec, c, n, 1, secOf s.wall, nsOf s.wall, detail14 bs⟩
    have hrole := (State.tileRole_congr hregs).trans hr
    rw [State.postFault, if_pos hrole]
    exact (State.sendBoth_sent_tile (s := State.owesFault _ _) hrole _).trans hsent
  unfold State.fault
  split
  · rfl
  · split
    · split
      · rw [State.event_sent]
        rfl
      · rw [State.event_sent]
        exact hnew 1 4 []
    · exact hnew cls code detail

/-! ENUMERATE at a tile (R235) -/

/-- R235: the address of a number on a chain of a domain. -/
def numberAddr (d c v : Nat) : Nat := d % 64 * 512 + c % 8 * 64 + v

/-- R235: a tile that has no number takes a good one. -/
theorem State.tileEnumerate_takes {s : State} (hv : s.flag F.MLK_STAT_ADDR_VALID = false) {d c v : Nat} (h : v < 64) :
    let t := s.tileEnumerate d c v
    t.fld F.MLK_STAT_ADDR = numberAddr d c v ∧ t.flag F.MLK_STAT_ADDR_VALID = true ∧ t.fld F.MLK_CTL_DOMAIN = d % 64 ∧
      OnlyParts [.regs] s t ∧ OnlyFlds [F.MLK_STAT_ADDR, F.MLK_STAT_ADDR_VALID, F.MLK_CTL_DOMAIN] s t := by
  have hlt : numberAddr d c v < 2 ^ 16 := by
    unfold numberAddr
    omega
  have htake : s.tileEnumerate d c v = ((s.setFld F.MLK_STAT_ADDR (numberAddr d c v)).setFlag F.MLK_STAT_ADDR_VALID true).setFld F.MLK_CTL_DOMAIN d := by
    rw [State.tileEnumerate, hv]
    exact if_pos h
  rw [htake]
  refine ⟨?_, ?_, State.fld_setFld_same _ F.MLK_CTL_DOMAIN d rfl, ?_, ?_⟩
  · rw [State.fld_setFld_apart _ _ _ _ rfl rfl rfl, State.fld_setFlag_apart _ _ _ _ rfl rfl rfl, State.fld_setFld_same _ _ _ rfl]
    exact Nat.mod_eq_of_lt hlt
  · rw [State.flag, State.fld_setFld_apart _ _ _ _ rfl rfl rfl]
    exact State.flag_setFlag _ F.MLK_STAT_ADDR_VALID true rfl
  · exact (State.setFld_evolves _ _ _ (by simp) (State.setFlag_evolves _ _ _ (by simp) (State.setFld_evolves s _ _ (by simp) (.refl _ s)))).parts
  · exact (((OnlyFlds.refl _ s).setFld F.MLK_STAT_ADDR _ rfl (by simp)).setFlag F.MLK_STAT_ADDR_VALID true rfl (by simp)).setFld
      F.MLK_CTL_DOMAIN d rfl (by simp)

/-- R235: a tile that has no number leaves one that is none. -/
theorem State.tileEnumerate_leaves {s : State} (hv : s.flag F.MLK_STAT_ADDR_VALID = false) {d c v : Nat} (h : 64 ≤ v) :
    s.tileEnumerate d c v = s := by
  rw [State.tileEnumerate, hv]
  exact if_neg (Nat.not_lt.mpr h)

/-- R235: a tile that has the number already keeps it. -/
theorem State.tileEnumerate_agrees {s : State} (hv : s.flag F.MLK_STAT_ADDR_VALID = true) {d c v : Nat}
    (h : v < 64 ∧ s.fld F.MLK_STAT_ADDR = numberAddr d c v) : s.tileEnumerate d c v = s := by
  rw [State.tileEnumerate, hv]
  exact if_pos h

/-- R236: a tile that has another number keeps it, and reports the mismatch. -/
theorem State.tileEnumerate_mismatch {s : State} (hv : s.flag F.MLK_STAT_ADDR_VALID = true) {d c v : Nat}
    (h : ¬ (v < 64 ∧ s.fld F.MLK_STAT_ADDR = numberAddr d c v)) :
    s.tileEnumerate d c v = (s.event F.MLK_EVT_SLOT_MISMATCH).fault 1 1 [] := by
  rw [State.tileEnumerate, hv]
  exact if_neg h

/-- The fields that ENUMERATE changes at a tile. -/
def numberFlds : List Fld := [F.MLK_STAT_ADDR, F.MLK_STAT_ADDR_VALID, F.MLK_CTL_DOMAIN, F.MLK_EVT_SLOT_MISMATCH, F.MLK_EVT_FAULT_OVF]

theorem OnlyFlds.tileRole {fs : List Fld} {s t : State} (h : OnlyFlds fs s t) (ha : ∀ f ∈ fs, f.apart F.SYS_STRAP_ROLE = true) :
    t.tileRole = s.tileRole := by
  rw [State.tileRole, State.tileRole, h F.SYS_STRAP_ROLE rfl ha]

theorem OnlyFlds.portUp {fs : List Fld} {s t : State} (h : OnlyFlds fs s t) {p : Nat} (ha : ∀ f ∈ fs, f.apart (F.MLK_PORT_STAT_STATE p) = true) :
    t.portUp p = s.portUp p := by
  rw [State.portUp, State.portUp, h (F.MLK_PORT_STAT_STATE p) rfl ha]

/-- A tile that takes a number sends nothing, and keeps what is posted. -/
theorem State.tileEnumerate_grows {s : State} (hr : s.tileRole = true) (d c v : Nat) :
    Grows s (s.tileEnumerate d c v) ∧ (s.tileEnumerate d c v).sent = s.sent ∧ OnlyFlds numberFlds s (s.tileEnumerate d c v) := by
  cases hv : s.flag F.MLK_STAT_ADDR_VALID with
  | false =>
    rcases Nat.lt_or_ge v 64 with h | h
    · obtain ⟨-, -, -, hparts, hflds⟩ := State.tileEnumerate_takes (d := d) (c := c) hv h
      have hsent := hparts .sent (by simp)
      exact ⟨.of_parts hparts (hflds.tileRole (by decide)) (hsent ▸ List.prefix_rfl) (by simp), hsent, hflds.mono (by simp [numberFlds])⟩
    · rw [State.tileEnumerate_leaves hv h]
      exact ⟨.refl s, rfl, .refl _ s⟩
  | true =>
    by_cases h : v < 64 ∧ s.fld F.MLK_STAT_ADDR = numberAddr d c v
    · rw [State.tileEnumerate_agrees hv h]
      exact ⟨.refl s, rfl, .refl _ s⟩
    · have hevent := Grows.event s (f := F.MLK_EVT_SLOT_MISMATCH) rfl (by decide)
      rw [State.tileEnumerate_mismatch hv h]
      exact ⟨hevent.trans (.fault _ 1 1 []), (State.fault_sent_tile (hevent.role.trans hr) 1 1 []).trans (s.event_sent _),
        ((OnlyFlds.refl _ s).event _ rfl (by simp [numberFlds])).trans ((State.fault_flds _ 1 1 []).mono (by simp [numberFlds]))⟩

/-- R236: ENUMERATE that arrives and is new at a tile. -/
theorem exec_enumerate_tile {s : State} {m : MsgHdr} (hr : s.tileRole = true) (ha : s.arrives m) (hn : s.seenSeq m.src m.seq = false)
    (d c v step : Nat) : exec (.enumerate m d c v step) s =
      .next (((((s.blockSeen m.port).keepSeq m.src m.seq).tileEnumerate d c v).relayMsg m (.enumerate d c ((v + step) % 256) step)).sendTileInfo) := by
  obtain ⟨hp, hu, hc⟩ := ha
  have hrole : ((s.blockSeen m.port).keepSeq m.src m.seq).tileRole = true := hr
  show execEnumerate m d c v step s = _
  rw [execEnumerate, if_pos hp, State.enumerateMsg, hu, hc, hn]
  exact congrArg Host.Outcome.next (if_pos hrole)

theorem State.relayMsg_spec (s : State) (m : MsgHdr) (b : LinkMsg) :
    (s.relayMsg m b).sent = s.sent ++ (if s.portUp (otherPort m.port) = true then
      [.relay (otherPort m.port) (.msg m.dst m.ackReq m.retry b)] else []) ∧ OnlyParts [.sent] s (s.relayMsg m b) := by
  refine ⟨?_, (State.relayMsg_evolves s m b (List.Subset.refl _) (.refl _ s)).parts⟩
  unfold State.relayMsg
  split
  · rfl
  · exact (List.append_nil _).symm

/-- R235 to R237: ENUMERATE at a tile. -/
theorem exec_enumerate_numbers {s : State} {m : MsgHdr} (hr : s.tileRole = true) (ha : s.arrives m) (hn : s.seenSeq m.src m.seq = false)
    (d c v step : Nat) : ∃ t, exec (.enumerate m d c v step) s = .next t ∧
      (∃ post, t.sent = s.sent ++ (if s.portUp (otherPort m.port) = true then [.relay (otherPort m.port)
        (.msg m.dst m.ackReq m.retry (.enumerate d c ((v + step) % 256) step))] else []) ++ post) ∧
      Posts s t 0 0x8003 (.tileInfo t.tileInfo) ∧ Posts s t 1 0x8003 (.tileInfo t.tileInfo) ∧
      (s.flag F.MLK_STAT_ADDR_VALID = false → v < 64 → t.fld F.MLK_STAT_ADDR = d % 64 * 512 + c % 8 * 64 + v ∧
        t.flag F.MLK_STAT_ADDR_VALID = true ∧ t.fld F.MLK_CTL_DOMAIN = d % 64 ∧ OnlyParts [.regs, .sent, .link] s t ∧
        OnlyFlds [F.MLK_STAT_ADDR, F.MLK_STAT_ADDR_VALID, F.MLK_CTL_DOMAIN] s t) ∧
      (s.flag F.MLK_STAT_ADDR_VALID = false → 64 ≤ v → OnlyParts [.sent, .link] s t) ∧
      (s.flag F.MLK_STAT_ADDR_VALID = true →
        (v < 64 ∧ s.fld F.MLK_STAT_ADDR = d % 64 * 512 + c % 8 * 64 + v → OnlyParts [.sent, .link] s t) ∧
        (¬ (v < 64 ∧ s.fld F.MLK_STAT_ADDR = d % 64 * 512 + c % 8 * 64 + v) → t.flag F.MLK_EVT_SLOT_MISMATCH = true ∧
          t.fld F.MLK_STAT_ADDR = s.fld F.MLK_STAT_ADDR)) := by
  have hexec := exec_enumerate_tile hr ha hn d c v step
  have hheard : OnlyParts [.link] s ((s.blockSeen m.port).keepSeq m.src m.seq) := (s.blockSeen_parts m.port).trans (State.keepSeq_parts _ _ _)
  have hregs : ((s.blockSeen m.port).keepSeq m.src m.seq).regs = s.regs := rfl
  have hgrows : Grows s ((s.blockSeen m.port).keepSeq m.src m.seq) := ⟨rfl, List.prefix_rfl, List.prefix_rfl⟩
  generalize (s.blockSeen m.port).keepSeq m.src m.seq = u at hexec hheard hregs hgrows
  have hrole := hgrows.role.trans hr
  obtain ⟨hnumber, hsilent, hnumbered⟩ := State.tileEnumerate_grows hrole d c v
  have hup : (u.tileEnumerate d c v).portUp (otherPort m.port) = s.portUp (otherPort m.port) :=
    (hnumbered.portUp (by simp [numberFlds, Fld.apart]; omega)).trans (State.portUp_congr hregs _)
  obtain ⟨hrelay, hrelayed⟩ := (u.tileEnumerate d c v).relayMsg_spec m (.enumerate d c ((v + step) % 256) step)
  rw [hup, hsilent, hheard .sent (by simp)] at hrelay
  have hregs' := hrelayed .regs (by simp)
  have hgrows' : Grows s ((u.tileEnumerate d c v).relayMsg m (.enumerate d c ((v + step) % 256) step)) :=
    (hgrows.trans hnumber).trans (.of_parts hrelayed (State.tileRole_congr hregs')
      (by rw [hrelay, hsilent, hheard .sent (by simp)]; exact List.prefix_append _ _) (by simp))
  obtain ⟨hinfo0, hinfo1, hsent, hinfo⟩ := State.sendTileInfo_spec (hgrows'.role.trans hr)
  have hregs2 := (hinfo .regs (by simp)).trans hregs'
  have hstate : u.fld F.MLK_STAT_ADDR = s.fld F.MLK_STAT_ADDR := State.fld_congr hregs _
  have hfinal : OnlyParts [.sent, .link] (u.tileEnumerate d c v) _ := (hrelayed.mono (by simp)).trans (hinfo.mono (by simp))
  refine ⟨_, hexec, ⟨[], by rw [List.append_nil, hsent, hrelay]⟩, hinfo0.after hgrows', hinfo1.after hgrows', fun hv h => ?takes,
    fun hv h => ?leaves, fun hv => ⟨fun h => ?agrees, fun h => ?mismatch⟩⟩
  case takes =>
    obtain ⟨haddr, hvalid, hdomain, hparts, hflds⟩ := State.tileEnumerate_takes (d := d) (c := c) ((State.flag_congr hregs _).trans hv) h
    exact ⟨(State.fld_congr hregs2 _).trans haddr, (State.flag_congr hregs2 _).trans hvalid, (State.fld_congr hregs2 _).trans hdomain,
      (hheard.mono (by simp)).trans ((hparts.mono (by simp)).trans (hfinal.mono (by simp))),
      (OnlyFlds.of_regs hregs).trans (hflds.trans (.of_regs hregs2))⟩
  case leaves =>
    rw [State.tileEnumerate_leaves ((State.flag_congr hregs _).trans hv) h] at hfinal ⊢
    exact (hheard.mono (by simp)).trans hfinal
  case agrees =>
    rw [State.tileEnumerate_agrees ((State.flag_congr hregs _).trans hv) (hstate ▸ h)] at hfinal ⊢
    exact (hheard.mono (by simp)).trans hfinal
  case mismatch =>
    have hmismatch := State.tileEnumerate_mismatch (d := d) (c := c) ((State.flag_congr hregs _).trans hv) (v := v) (hstate ▸ h)
    have hfault := State.fault_flds (u.event F.MLK_EVT_SLOT_MISMATCH) 1 1 []
    refine ⟨(State.flag_congr hregs2 _).trans ?_, (State.fld_congr hregs2 _).trans ?_⟩
    · rw [hmismatch, hfault.flag rfl (by decide)]
      exact State.flag_event u _ rfl
    · rw [hmismatch, hfault _ rfl (by decide), State.fld_event_apart _ _ _ rfl rfl rfl, hstate]

/-! ENUMERATE that returns to a sender (R236) -/

theorem State.updateLead_flds (s : State) : OnlyFlds [F.MLK_LEAD_HOPS, F.MLK_LEAD_LEAD_100NS] s s.updateLead :=
  ((OnlyFlds.refl _ s).setFld F.MLK_LEAD_HOPS _ rfl (by simp)).setFld F.MLK_LEAD_LEAD_100NS _ rfl (by simp)

theorem State.updateLead_parts (s : State) : OnlyParts [.regs] s s.updateLead :=
  (State.updateLead_evolves s (List.Subset.refl _) (.refl _ s)).parts

/-- An event that is reported where a condition holds. -/
def State.eventIf (s : State) (b : Bool) (f : Fld) : State := if b then s.event f else s

theorem State.eventIf_flag (s : State) {b : Bool} {f : Fld} (hf : f.ok = true) (h : b = true) : (s.eventIf b f).flag f = true := by
  rw [State.eventIf, if_pos h]
  exact s.flag_event f hf

theorem State.eventIf_flds (s : State) (b : Bool) {f : Fld} (hf : f.ok = true) : OnlyFlds [f] s (s.eventIf b f) := by
  unfold State.eventIf
  split
  · exact (OnlyFlds.refl _ s).event f hf (by simp)
  · exact .refl _ s

theorem State.eventIf_parts (s : State) (b : Bool) (f : Fld) : OnlyParts [.regs] s (s.eventIf b f) := by
  unfold State.eventIf
  split
  · exact (State.event_evolves s f (by simp) (.refl _ s)).parts
  · exact fun _ _ => Part.same_refl s _

/-- R236: a sender sees that a chain is a ring; one that ends at another port, or is too long, is reported. -/
def State.ringSeen (s : State) (p c v : Nat) : State :=
  ((s.setFlag (F.MLK_PORT_STAT_RING p) true).eventIf (c != p) F.MLK_EVT_RING_MISCABLE).eventIf (decide (64 < v)) F.MLK_EVT_CHAIN_LEN

theorem State.ringSeen_spec (s : State) (p c v : Nat) :
    let t := s.ringSeen p c v
    t.flag (F.MLK_PORT_STAT_RING p) = true ∧ (c ≠ p → t.flag F.MLK_EVT_RING_MISCABLE = true) ∧ (64 < v → t.flag F.MLK_EVT_CHAIN_LEN = true) ∧
      OnlyParts [.regs] s t ∧ OnlyFlds [F.MLK_PORT_STAT_RING p, F.MLK_EVT_RING_MISCABLE, F.MLK_EVT_CHAIN_LEN] s t := by
  have hring := s.flag_setFlag (F.MLK_PORT_STAT_RING p) true rfl
  have hringFlds := (OnlyFlds.refl [F.MLK_PORT_STAT_RING p] s).setFlag (F.MLK_PORT_STAT_RING p) true rfl (by simp)
  have hringParts : OnlyParts [.regs] s (s.setFlag (F.MLK_PORT_STAT_RING p) true) := (State.setFlag_evolves s _ _ (by simp) (.refl _ s)).parts
  unfold State.ringSeen
  generalize s.setFlag (F.MLK_PORT_STAT_RING p) true = u at hring hringFlds hringParts
  have hcable := u.eventIf_flds (c != p) (f := F.MLK_EVT_RING_MISCABLE) rfl
  have hlong := (u.eventIf (c != p) F.MLK_EVT_RING_MISCABLE).eventIf_flds (decide (64 < v)) (f := F.MLK_EVT_CHAIN_LEN) rfl
  refine ⟨?_, fun h => ?_, fun h => State.eventIf_flag _ rfl (by simpa using h),
    hringParts.trans ((u.eventIf_parts _ _).trans (State.eventIf_parts _ _ _)),
    (hringFlds.mono (by simp)).trans ((hcable.mono (by simp)).trans (hlong.mono (by simp)))⟩
  · rw [hlong.flag rfl (by simp [Fld.apart]), hcable.flag rfl (by simp [Fld.apart]), hring]
  · rw [hlong.flag rfl (by decide)]
    exact u.eventIf_flag rfl (by simpa using h)

/-- R236: a ring is counted, and its far end is known. -/
def State.ringCounted (s : State) (p v : Nat) : State :=
  ((s.setFld (F.MLK_PORT_STAT_TILES p) (min v 64)).setPort p { s.port p with far := true }).updateLead

theorem State.ringCounted_spec (s : State) (p v : Nat) :
    let t := s.ringCounted p v
    t.fld (F.MLK_PORT_STAT_TILES p) = min v 64 ∧ (t.port p).far = true ∧ t.sent = s.sent ∧ OnlyParts [.regs, .link] s t ∧
      OnlyFlds [F.MLK_PORT_STAT_TILES p, F.MLK_LEAD_HOPS, F.MLK_LEAD_LEAD_100NS] s t := by
  have htiles : (s.setFld (F.MLK_PORT_STAT_TILES p) (min v 64)).fld (F.MLK_PORT_STAT_TILES p) = min v 64 := by
    rw [s.fld_setFld_same _ _ rfl]
    exact Nat.mod_eq_of_lt (Nat.lt_of_le_of_lt (Nat.min_le_right v 64) (by decide : 64 < 2 ^ 7))
  have hflds := (OnlyFlds.refl [F.MLK_PORT_STAT_TILES p, F.MLK_LEAD_HOPS, F.MLK_LEAD_LEAD_100NS] s).setFld
    (F.MLK_PORT_STAT_TILES p) (min v 64) rfl (by simp)
  have hparts : OnlyParts [.regs, .link] s (s.setFld (F.MLK_PORT_STAT_TILES p) (min v 64)) := (State.setFld_evolves s _ _ (by simp) (.refl _ s)).parts
  unfold State.ringCounted
  generalize s.setFld (F.MLK_PORT_STAT_TILES p) (min v 64) = u at htiles hflds hparts
  have hport := u.setPort_parts p { s.port p with far := true }
  have hlead := (u.setPort p { s.port p with far := true }).updateLead_parts
  have hleadFlds := (u.setPort p { s.port p with far := true }).updateLead_flds
  have hall : OnlyParts [.regs, .link] s _ := hparts.trans ((hport.mono (by simp)).trans (hlead.mono (by simp)))
  refine ⟨?_, ?_, ?_, hall, ?_⟩
  · rw [hleadFlds _ rfl (by simp [Fld.apart]), State.fld_setPort, htiles]
  · rw [State.port_congr (congrArg LinkState.ports (hlead .link (by simp))), State.port_setPort_same]
  · exact hall .sent (by simp)
  · exact (hflds.trans (.of_regs (u.setPort_regs p _))).trans (hleadFlds.mono (by simp))

/-- R236: ENUMERATE that arrives and is new at a sender. -/
theorem exec_enumerate_sender {s : State} {m : MsgHdr} (hr : s.tileRole = false) (ha : s.arrives m) (hn : s.seenSeq m.src m.seq = false)
    (d c v : Nat) : exec (.enumerate m d c v 1) s =
      .next (((((s.blockSeen m.port).keepSeq m.src m.seq).ringSeen m.port c v).ringCounted m.port v).sendMsg m.port 0xFFFF
        (.enumerate (((((s.blockSeen m.port).keepSeq m.src m.seq).ringSeen m.port c v).ringCounted m.port v).fld F.MLK_CTL_DOMAIN) c
          ((v + 255) % 256) 0xFF) []) := by
  obtain ⟨hp, hu, hc⟩ := ha
  have hrole : ((s.blockSeen m.port).keepSeq m.src m.seq).tileRole = false := hr
  have hring : ∀ u : State, u.senderEnumerate m.port c v 1 = ((u.ringSeen m.port c v).ringCounted m.port v).sendMsg m.port 0xFFFF
      (.enumerate (((u.ringSeen m.port c v).ringCounted m.port v).fld F.MLK_CTL_DOMAIN) c ((v + 255) % 256) 0xFF) [] := fun u => by
    have hseen : u.ringSeen m.port c v = if v > 64 then
        (if c = m.port then u.setFlag (F.MLK_PORT_STAT_RING m.port) true
          else (u.setFlag (F.MLK_PORT_STAT_RING m.port) true).event F.MLK_EVT_RING_MISCABLE).event F.MLK_EVT_CHAIN_LEN
        else if c = m.port then u.setFlag (F.MLK_PORT_STAT_RING m.port) true
          else (u.setFlag (F.MLK_PORT_STAT_RING m.port) true).event F.MLK_EVT_RING_MISCABLE := by
      by_cases h : c = m.port <;> by_cases hv : 64 < v <;> simp [State.ringSeen, State.eventIf, h, hv]
    rw [State.senderEnumerate, if_pos rfl, State.ringCounted, hseen]
  rw [← hring]
  show execEnumerate m d c v 1 s = _
  rw [execEnumerate, if_pos hp, State.enumerateMsg, hu, hc, hn]
  simp only [Bool.not_true, Bool.false_eq_true, if_false]
  rw [if_neg (ne_true_of_eq_false hrole)]

theorem State.sendMsg_far (s : State) (q dst : Nat) (m : LinkMsg) (tiles : List Nat) :
    ((s.sendMsg q dst m tiles).port q).far = (s.port q).far := by
  unfold State.sendMsg
  split
  · rfl
  · have hport : ∀ u : State, u.link.ports = (s.setPort q { s.port q with nextSeq := nextMsgSeq (s.port q).nextSeq }).link.ports →
        (u.port q).far = (s.port q).far := fun u hu => by rw [State.port_congr hu, State.port_setPort_same]
    unfold State.emitMsg
    dsimp only
    split <;> exact hport _ rfl

/-- R236: ENUMERATE that returns to a sender ends the pass over its ring, and another begins the other way. -/
theorem exec_enumerate_ring {s : State} {m : MsgHdr} (hr : s.tileRole = false) (ha : s.arrives m) (hn : s.seenSeq m.src m.seq = false)
    (d c v : Nat) : ∃ t, exec (.enumerate m d c v 1) s = .next t ∧
      t.flag (F.MLK_PORT_STAT_RING m.port) = true ∧ t.fld (F.MLK_PORT_STAT_TILES m.port) = min v 64 ∧ (t.port m.port).far = true ∧
      (c ≠ m.port → t.flag F.MLK_EVT_RING_MISCABLE = true) ∧ (64 < v → t.flag F.MLK_EVT_CHAIN_LEN = true) ∧
      t.sent = s.sent ++ [.link m.port (.msg 0xFFFF false false (.enumerate (s.fld F.MLK_CTL_DOMAIN) c ((v + 255) % 256) 0xFF))] ∧
      OnlyParts [.regs, .sent, .link] s t ∧
      OnlyFlds [F.MLK_PORT_STAT_RING m.port, F.MLK_PORT_STAT_TILES m.port, F.MLK_EVT_RING_MISCABLE, F.MLK_EVT_CHAIN_LEN, F.MLK_LEAD_HOPS,
        F.MLK_LEAD_LEAD_100NS] s t := by
  have hp8 := State.lt_of_portList ha.1
  have hexec := exec_enumerate_sender hr ha hn d c v
  have hheard : OnlyParts [.link] s ((s.blockSeen m.port).keepSeq m.src m.seq) := (s.blockSeen_parts m.port).trans (State.keepSeq_parts _ _ _)
  generalize (s.blockSeen m.port).keepSeq m.src m.seq = u at hexec hheard
  obtain ⟨hring, hcable, hlong, hringParts, hringFlds⟩ := u.ringSeen_spec m.port c v
  obtain ⟨htiles, hfar, hsent, hcountParts, hcountFlds⟩ := (u.ringSeen m.port c v).ringCounted_spec m.port v
  have hflds : OnlyFlds [F.MLK_PORT_STAT_RING m.port, F.MLK_PORT_STAT_TILES m.port, F.MLK_EVT_RING_MISCABLE, F.MLK_EVT_CHAIN_LEN,
      F.MLK_LEAD_HOPS, F.MLK_LEAD_LEAD_100NS] s ((u.ringSeen m.port c v).ringCounted m.port v) :=
    (OnlyFlds.of_regs (hheard .regs (by simp))).trans ((hringFlds.mono (by simp)).trans (hcountFlds.mono (by simp)))
  have hparts : OnlyParts [.regs, .sent, .link] s ((u.ringSeen m.port c v).ringCounted m.port v) :=
    (hheard.mono (by simp)).trans ((hringParts.mono (by simp)).trans (hcountParts.mono (by simp)))
  have hdomain : ((u.ringSeen m.port c v).ringCounted m.port v).fld F.MLK_CTL_DOMAIN = s.fld F.MLK_CTL_DOMAIN :=
    hflds _ rfl (by simp [Fld.apart])
  have hrole := (hflds.tileRole (by simp [Fld.apart])).trans hr
  have hbefore : ((u.ringSeen m.port c v).ringCounted m.port v).sent = s.sent := by
    rw [hsent, hringParts .sent (by simp), hheard .sent (by simp)]
  have hkeeps : ∀ g ∈ [F.MLK_PORT_STAT_RING m.port, F.MLK_EVT_RING_MISCABLE, F.MLK_EVT_CHAIN_LEN],
      ((u.ringSeen m.port c v).ringCounted m.port v).flag g = (u.ringSeen m.port c v).flag g := by
    intro g hg
    simp only [List.mem_cons, List.not_mem_nil, or_false] at hg
    rcases hg with rfl | rfl | rfl <;> exact hcountFlds.flag rfl (by simp [Fld.apart]; try omega)
  rw [hdomain] at hexec
  generalize (u.ringSeen m.port c v).ringCounted m.port v = w at hexec hflds hparts hrole hbefore hkeeps htiles hfar
  have hregs := (w.sendMsg_regs m.port 0xFFFF (.enumerate (s.fld F.MLK_CTL_DOMAIN) c ((v + 255) % 256) 0xFF) []).1
  refine ⟨_, hexec, ?_, ?_, ?_, fun h => ?_, fun h => ?_, ?_, ?_, hflds.trans (.of_regs hregs)⟩
  · rw [State.flag_congr hregs, hkeeps _ (by simp), hring]
  · rw [State.fld_congr hregs, htiles]
  · rw [State.sendMsg_far, hfar]
  · rw [State.flag_congr hregs, hkeeps _ (by simp), hcable h]
  · rw [State.flag_congr hregs, hkeeps _ (by simp), hlong h]
  · rw [State.sendMsg_sender hrole _ _ _ rfl, State.sent_send, State.setPort_sent, hbefore]
  · exact hparts.trans ((w.sendMsg_parts _ _ _ _).mono (by simp))

end Sys2Proof.Machine
end

section
/-! SUPPORT. Sessions of tiles at a sender (R237, R238, R252). -/

namespace Sys2Proof.Machine

/-! Restarts of a tile (R228) -/

theorem State.tileRestarts_parts (s : State) (m : MsgHdr) (tile n : Nat) : OnlyParts [.link] s (s.tileRestarts m tile n) :=
  (State.tileRestarts_evolves s m tile n (List.Subset.refl _) (.refl _ s)).parts

theorem State.noteRestarts_unseen {s : State} {src n : Nat} (h : s.seenSeq src n = false) (tile k : Nat) :
    (s.noteRestarts tile k).seenSeq src n = false := by
  unfold State.noteRestarts
  split
  · exact h
  · unfold State.seenSeq at h ⊢
    dsimp only
    split
    · refine List.any_eq_false.mpr fun x hx => ?_
      exact List.any_eq_false.mp h x (List.mem_filter.mp hx).1
    · exact h

theorem State.arrives_congr {s t : State} (h : t.regs = s.regs) {m : MsgHdr} (ha : s.arrives m) : t.arrives m := by
  obtain ⟨hp, hu, hc⟩ := ha
  exact ⟨by rw [State.portList_congr h]; exact hp, (State.portUp_congr h _).trans hu, hc⟩

/-- R228: a message that a device would hear is heard after its source's restarts have been noted. -/
theorem State.tileRestarts_hears {s : State} {m : MsgHdr} (h : s.hears m) (tile n : Nat) : (s.tileRestarts m tile n).hears m := by
  have hregs : (s.tileRestarts m tile n).regs = s.regs := s.tileRestarts_parts m tile n .regs (by simp)
  obtain ⟨ha, hd, hw, hs⟩ := h
  refine ⟨State.arrives_congr hregs ha, (State.isForMe_congr hregs _).trans hd, (State.wrongClaim_congr hregs _ _).trans hw, ?_⟩
  unfold State.tileRestarts
  split
  · exact State.noteRestarts_unseen hs tile n
  · exact hs

/-! The registers of a session (R237) -/

/-- The fields of a session that TILE_INFO tells. -/
def sessionFlds (n : Nat) : List Fld :=
  [F.MLK_SESS_STAT_MODE n, F.MLK_SESS_STAT_VERSION n, F.MLK_SESS_STAT_VIEWS_HELD n, F.MLK_SESS_GEOM_W n, F.MLK_SESS_GEOM_H n,
    F.MLK_SESS_INFO_LAMPS n, F.MLK_SESS_INFO_DRIVERS n, F.MLK_SESS_FW_VER_FW_VER n, F.MLK_SESS_CAPS_CAPS n]

theorem State.sessionRegs_flds (s : State) (n : Nat) (i : TileInfo) : OnlyFlds (sessionFlds n) s (s.sessionRegs n i) := by
  unfold State.sessionRegs
  dsimp only
  refine OnlyFlds.setFld _ _ rfl (by simp [sessionFlds]) (OnlyFlds.setFld _ _ rfl (by simp [sessionFlds]) (OnlyFlds.setFld _ _ rfl
    (by simp [sessionFlds]) (OnlyFlds.setFld _ _ rfl (by simp [sessionFlds]) (OnlyFlds.setFld _ _ rfl (by simp [sessionFlds])
    (OnlyFlds.setFld _ _ rfl (by simp [sessionFlds]) (OnlyFlds.setFld _ _ rfl (by simp [sessionFlds]) (OnlyFlds.setFld _ _ rfl
    (by simp [sessionFlds]) (OnlyFlds.setFld _ _ rfl (by simp [sessionFlds]) (.refl _ s)))))))))

/-- R237: what a session tells of its tile. -/
theorem State.sessionRegs_spec (s : State) (n : Nat) (i : TileInfo) :
    let t := s.sessionRegs n i
    t.fld (F.MLK_SESS_STAT_VERSION n) = min i.vmax (s.fld F.MLK_CTL_VMAX) ∧ t.fld (F.MLK_SESS_STAT_MODE n) = i.mode % 8 ∧
      t.fld (F.MLK_SESS_GEOM_W n) = i.w % 65536 ∧ t.fld (F.MLK_SESS_GEOM_H n) = i.h % 65536 := by
  have hvmax : min i.vmax (s.fld F.MLK_CTL_VMAX) % 16 = min i.vmax (s.fld F.MLK_CTL_VMAX) :=
    Nat.mod_eq_of_lt (Nat.lt_of_le_of_lt (Nat.min_le_right _ _) (Nat.lt_trans (s.fld_lt F.MLK_CTL_VMAX) (by decide)))
  simp [State.sessionRegs, State.fld_setFld_apart, State.fld_setFld_same, Fld.apart, Fld.ok, Fld.width, hvmax]

/-! A session opens (R237, R238) -/

/-- R237: the registers of a session that is open, and the lead of the chain that it is on. -/
def State.sessionOpens (s : State) (p : Nat) (i : TileInfo) : State :=
  (((s.sessionRegs (sessionOf i.addr) i).setFlag (F.MLK_SESS_STAT_OPEN (sessionOf i.addr)) true).setFld (F.MLK_PORT_STAT_TILES p)
    (max (((s.sessionRegs (sessionOf i.addr) i).setFlag (F.MLK_SESS_STAT_OPEN (sessionOf i.addr)) true).fld (F.MLK_PORT_STAT_TILES p))
      (i.addr % 64 + 1))).updateLead

/-- R238: a session that was not open is reported, to the standby too. -/
def State.sessionUp (s : State) (i : TileInfo) : State :=
  (((s.event F.MLK_EVT_SESSION_UP).statusNow (sessionOf i.addr)).noteSkips i.addr).append (.session (sessionOf i.addr) true i)

theorem State.openSession_eq (s : State) (p : Nat) (i : TileInfo) :
    s.openSession p i = if s.flag (F.MLK_SESS_STAT_OPEN (sessionOf i.addr)) then
        if (s.mode == .sender && s.red.restore.isNone) && (s.sessionOpens p i).flag (F.MLK_SESS_STAT_RESYNC (sessionOf i.addr)) then
          (s.sessionOpens p i).resync i.addr else s.sessionOpens p i
      else if s.mode == .sender && s.red.restore.isNone then ((s.sessionOpens p i).sessionUp i).resync i.addr
        else (s.sessionOpens p i).sessionUp i := rfl

theorem State.sessionOpens_spec (s : State) {p : Nat} (hp : p < 8) (i : TileInfo) :
    let n := sessionOf i.addr
    let t := s.sessionOpens p i
    t.flag (F.MLK_SESS_STAT_OPEN n) = true ∧ t.fld (F.MLK_SESS_STAT_VERSION n) = min i.vmax (s.fld F.MLK_CTL_VMAX) ∧
      t.fld (F.MLK_SESS_STAT_MODE n) = i.mode % 8 ∧ t.fld (F.MLK_SESS_GEOM_W n) = i.w % 65536 ∧
      t.fld (F.MLK_SESS_GEOM_H n) = i.h % 65536 ∧ t.flag (F.MLK_SESS_STAT_RESYNC n) = s.flag (F.MLK_SESS_STAT_RESYNC n) := by
  dsimp only
  unfold State.sessionOpens
  generalize sessionOf i.addr = n
  obtain ⟨hversion, hmode, hw, hh⟩ := s.sessionRegs_spec n i
  have hregs := s.sessionRegs_flds n i
  generalize s.sessionRegs n i = u at hversion hmode hw hh hregs
  have hopen := u.flag_setFlag (F.MLK_SESS_STAT_OPEN n) true rfl
  have hopenFlds := (OnlyFlds.refl [F.MLK_SESS_STAT_OPEN n] u).setFlag (F.MLK_SESS_STAT_OPEN n) true rfl (by simp)
  generalize u.setFlag (F.MLK_SESS_STAT_OPEN n) true = v at hopen hopenFlds
  have htiles := (OnlyFlds.refl [F.MLK_PORT_STAT_TILES p] v).setFld (F.MLK_PORT_STAT_TILES p)
    (max (v.fld (F.MLK_PORT_STAT_TILES p)) (i.addr % 64 + 1)) rfl (by simp)
  generalize v.setFld (F.MLK_PORT_STAT_TILES p) (max (v.fld (F.MLK_PORT_STAT_TILES p)) (i.addr % 64 + 1)) = w at htiles
  have hlead := w.updateLead_flds
  have hafter : OnlyFlds [F.MLK_PORT_STAT_TILES p, F.MLK_LEAD_HOPS, F.MLK_LEAD_LEAD_100NS] v w.updateLead :=
    (htiles.mono (by simp)).trans (hlead.mono (by simp))
  have hfrom : OnlyFlds [F.MLK_SESS_STAT_OPEN n, F.MLK_PORT_STAT_TILES p, F.MLK_LEAD_HOPS, F.MLK_LEAD_LEAD_100NS] u w.updateLead :=
    (hopenFlds.mono (by simp)).trans (hafter.mono (by simp))
  refine ⟨?_, ?_, ?_, ?_, ?_, ?_⟩
  · rw [hafter.flag rfl (by simp [Fld.apart]), hopen]
  · rw [hfrom _ rfl (by simp [Fld.apart]; omega), hversion]
  · rw [hfrom _ rfl (by simp [Fld.apart]; omega), hmode]
  · rw [hfrom _ rfl (by simp [Fld.apart]; omega), hw]
  · rw [hfrom _ rfl (by simp [Fld.apart]; omega), hh]
  · rw [hfrom.flag rfl (by simp [Fld.apart]; omega), hregs.flag rfl (by simp [sessionFlds, Fld.apart])]

theorem State.statusNow_regs (s : State) (n : Nat) : (s.statusNow n).regs = s.regs := rfl

theorem State.sessionUp_spec (s : State) (i : TileInfo) :
    (s.sessionUp i).flag F.MLK_EVT_SESSION_UP = true ∧ OnlyFlds [F.MLK_EVT_SESSION_UP, F.CMP_SCAN_EVT_MAP_SKIP] s (s.sessionUp i) := by
  have hskips : ∀ (u : State) (tile : Nat), OnlyFlds [F.CMP_SCAN_EVT_MAP_SKIP] u (u.noteSkips tile) := fun u tile => by
    unfold State.noteSkips
    dsimp only
    split
    · exact (OnlyFlds.refl _ u).event _ rfl (by simp)
    · exact .refl _ u
  have hafter : ∀ u : State, OnlyFlds [F.CMP_SCAN_EVT_MAP_SKIP] u
      (((u.statusNow (sessionOf i.addr)).noteSkips i.addr).append (.session (sessionOf i.addr) true i)) := fun u =>
    ((OnlyFlds.of_regs (u.statusNow_regs _)).trans (hskips _ _)).trans (.of_regs (State.append_keeps _ _ .regs (by simp)))
  refine ⟨?_, (((OnlyFlds.refl [F.MLK_EVT_SESSION_UP, F.CMP_SCAN_EVT_MAP_SKIP] s).event _ rfl (by simp))).trans ((hafter _).mono (by simp))⟩
  rw [State.sessionUp, (hafter _).flag rfl (by decide)]
  exact s.flag_event _ rfl

theorem State.sendTile_regs (s : State) (tile : Nat) (m : LinkMsg) : (s.sendTile tile m).regs = s.regs := (s.sendMsg_regs _ _ _ _).1

/-- R252: a tile that has been sent what it needs owes nothing more. -/
theorem State.resync_spec (s : State) (tile : Nat) :
    (s.resync tile).flag (F.MLK_SESS_STAT_RESYNC (sessionOf tile)) = false ∧
      OnlyFlds [F.MLK_SESS_STAT_RESYNC (sessionOf tile)] s (s.resync tile) := by
  have hsends : ∀ (u : State) (l : List LinkMsg), (l.foldl (fun t m => t.sendTile tile m) u).regs = u.regs := fun u l =>
    foldl_regs l _ u (fun v m => v.sendTile_regs tile m)
  have hsets : ∀ (u : State) (l : List SetMsg), (l.foldl (fun t m => t.sendTile tile (.set m)) u).regs = u.regs := fun u l =>
    foldl_regs l _ u (fun v m => v.sendTile_regs tile (.set m))
  unfold State.resync
  dsimp only
  refine ⟨State.flag_setFlag _ _ false rfl, OnlyFlds.setFlag _ _ rfl (by simp) (.of_regs ?_)⟩
  exact (foldl_regs _ _ _ (fun u x => hsets u _)).trans (hsends s _)

/-- R237, R238, R252: TILE_INFO of the domain opens its session. -/
theorem State.openSession_spec (s : State) (p : Nat) (i : TileInfo) :
    let n := sessionOf i.addr
    let t := s.openSession p i
    (s.flag (F.MLK_SESS_STAT_OPEN n) = false → t.flag F.MLK_EVT_SESSION_UP = true) ∧
      (s.mode = .sender → s.red.restore = none → s.flag (F.MLK_SESS_STAT_OPEN n) = false ∨
        (s.sessionOpens p i).flag (F.MLK_SESS_STAT_RESYNC n) = true → t.flag (F.MLK_SESS_STAT_RESYNC n) = false) ∧
      OnlyFlds [F.MLK_EVT_SESSION_UP, F.CMP_SCAN_EVT_MAP_SKIP, F.MLK_SESS_STAT_RESYNC n] (s.sessionOpens p i) t := by
  dsimp only
  rw [s.openSession_eq]
  generalize s.sessionOpens p i = u
  obtain ⟨hup, hupFlds⟩ := u.sessionUp_spec i
  cases hwas : s.flag (F.MLK_SESS_STAT_OPEN (sessionOf i.addr)) with
  | true =>
    rw [if_pos rfl]
    obtain ⟨hsync, hflds⟩ := u.resync_spec i.addr
    refine ⟨fun h => by simp at h, fun hmode hrest h => ?_, ?_⟩
    · rw [if_pos (by simp [hmode, hrest, h.resolve_left (by simp)])]
      exact hsync
    · split
      · exact hflds.mono (by simp)
      · exact .refl _ u
  | false =>
    obtain ⟨hsync, hflds⟩ := (u.sessionUp i).resync_spec i.addr
    rw [if_neg (by simp)]
    refine ⟨fun _ => ?_, fun hmode hrest _ => ?_, ?_⟩
    · split
      · rw [hflds.flag rfl (by simp [Fld.apart])]
        exact hup
      · exact hup
    · rw [if_pos (by simp [hmode, hrest])]
      exact hsync
    · split
      · exact (hupFlds.mono (by simp)).trans (hflds.mono (by simp))
      · exact hupFlds.mono (by simp)

/-! A push that a tile joins (R496) -/

theorem State.sendCmdChain_regs (s : State) (c : Nat) (bs : List Byte) : (s.sendCmdChain c bs).regs = s.regs :=
  (State.sendCmdChain_evolves s c bs (List.Subset.refl _) (.refl _ s)).parts .regs (by simp)

theorem State.joinPush_flds (s : State) (i : TileInfo) : OnlyFlds [F.SYS_FW_PUSH_BUSY] s (s.joinPush i) := by
  have hpieces : ∀ (u : State) (c : Nat) (l : List ((Nat × List Byte) × Nat)) (g : State → (Nat × List Byte) × Nat → List Byte),
      (l.foldl (fun t x => t.sendCmdChain c (g t x)) u).regs = u.regs := fun u c l g =>
    foldl_regs l _ u (fun v x => v.sendCmdChain_regs c (g v x))
  unfold State.joinPush
  dsimp only
  split
  · exact .of_regs rfl
  · unfold State.startPush
    dsimp only
    refine OnlyFlds.setBit _ _ _ rfl (by simp) (.of_regs ?_)
    exact (State.sendCmdChain_regs _ _ _).trans ((hpieces _ _ _ _).trans ((State.sendCmdChain_regs _ _ _).trans s.drawn_regs))

/-! TILE_INFO (R237, R238) -/

/-- R237, R496: what a sender does with a TILE_INFO. -/
def State.tileTold (s : State) (p : Nat) (i : TileInfo) : State :=
  if !s.flag (F.MLK_SESS_STAT_OPEN (sessionOf i.addr)) && (s.tileInfoMsg p i).flag (F.MLK_SESS_STAT_OPEN (sessionOf i.addr)) &&
    (s.tileInfoMsg p i).wantsPush i then (s.tileInfoMsg p i).joinPush i else s.tileInfoMsg p i

theorem exec_tileInfo_hears {s : State} {m : MsgHdr} {i : TileInfo} (hs : s.senderRole = true) (hh : s.hears m) :
    exec (.tileInfo m i) s = .next ((((s.tileRestarts m i.addr i.restarts).heard m (.tileInfo i)).tileTold m.port i).ackMsg m .ok) := by
  have hregs : (s.tileRestarts m i.addr i.restarts).regs = s.regs := s.tileRestarts_parts m i.addr i.restarts .regs (by simp)
  have hrole : ((s.tileRestarts m i.addr i.restarts).heard m (.tileInfo i)).senderRole = true := by
    rw [State.heard_senderRole, State.senderRole_congr hregs, hs]
  show Host.Outcome.next _ = _
  rw [State.receiveOk_hears _ _ _ (State.tileRestarts_hears hh i.addr i.restarts), if_pos hrole]
  rfl

/-- R237, R238, R252: TILE_INFO of a tile of the domain. -/
theorem exec_tileInfo_opens {s : State} {m : MsgHdr} {i : TileInfo} (hs : s.senderRole = true) (hh : s.hears m) (ha : i.addr < 0x8000)
    (hd : i.addr / 512 = s.fld F.MLK_CTL_DOMAIN) :
    let n := sessionOf i.addr
    ∃ t, exec (.tileInfo m i) s = .next t ∧ t.flag (F.MLK_SESS_STAT_OPEN n) = true ∧
      t.fld (F.MLK_SESS_STAT_VERSION n) = min i.vmax (s.fld F.MLK_CTL_VMAX) ∧ t.fld (F.MLK_SESS_STAT_MODE n) = i.mode % 8 ∧
      t.fld (F.MLK_SESS_GEOM_W n) = i.w % 65536 ∧ t.fld (F.MLK_SESS_GEOM_H n) = i.h % 65536 ∧
      (s.flag (F.MLK_SESS_STAT_OPEN n) = false → t.flag F.MLK_EVT_SESSION_UP = true) ∧
      (s.mode = .sender → s.red.restore = none → s.flag (F.MLK_SESS_STAT_OPEN n) = false ∨ s.flag (F.MLK_SESS_STAT_RESYNC n) = true →
        t.flag (F.MLK_SESS_STAT_RESYNC n) = false) := by
  have hp8 := State.lt_of_portList hh.1.1
  have hlt : sessionOf i.addr < 512 := Nat.mod_lt _ (by decide)
  have hparts : OnlyParts [.sent, .link] s ((s.tileRestarts m i.addr i.restarts).heard m (.tileInfo i)) :=
    ((s.tileRestarts_parts m i.addr i.restarts).mono (by simp)).trans (State.heard_parts _ m _)
  have hexec := exec_tileInfo_hears (i := i) hs hh
  generalize (s.tileRestarts m i.addr i.restarts).heard m (.tileInfo i) = u at hparts hexec
  have hregs := hparts .regs (by simp)
  have hmsg : u.tileInfoMsg m.port i = u.openSession m.port i := by
    rw [State.tileInfoMsg, if_pos ha, if_pos (by rw [State.fld_congr hregs]; exact hd)]
  obtain ⟨hopen, hversion, hmode, hw, hh', hsync⟩ := u.sessionOpens_spec hp8 i
  obtain ⟨hup, hsynced, hflds⟩ := u.openSession_spec m.port i
  have hpush : OnlyFlds [F.SYS_FW_PUSH_BUSY] (u.openSession m.port i) (u.tileTold m.port i) := by
    unfold State.tileTold
    rw [hmsg]
    split
    · exact State.joinPush_flds _ i
    · exact .refl _ _
  have hack : ((u.tileTold m.port i).ackMsg m .ok).regs = (u.tileTold m.port i).regs := State.ackMsg_regs _ m .ok
  have hfinal : OnlyFlds [F.SYS_FW_PUSH_BUSY] (u.openSession m.port i) ((u.tileTold m.port i).ackMsg m .ok) := hpush.trans (.of_regs hack)
  have hfrom : OnlyFlds [F.MLK_EVT_SESSION_UP, F.CMP_SCAN_EVT_MAP_SKIP, F.MLK_SESS_STAT_RESYNC (sessionOf i.addr), F.SYS_FW_PUSH_BUSY]
      (u.sessionOpens m.port i) ((u.tileTold m.port i).ackMsg m .ok) := (hflds.mono (by simp)).trans (hfinal.mono (by simp))
  rw [State.mode_of_regs hregs, hparts .red (by simp), State.flag_congr hregs, hsync, State.flag_congr hregs] at hsynced
  rw [State.flag_congr hregs] at hup
  refine ⟨_, hexec, ?_, ?_, ?_, ?_, ?_, fun h => ?_, fun hsender hrest h => ?_⟩
  · rw [hfrom.flag rfl (by simp [Fld.apart]), hopen]
  · rw [hfrom _ rfl (by simp [Fld.apart]), hversion, State.fld_congr hregs]
  · rw [hfrom _ rfl (by simp [Fld.apart]), hmode]
  · rw [hfrom _ rfl (by simp [Fld.apart]; omega), hw]
  · rw [hfrom _ rfl (by simp [Fld.apart]; omega), hh']
  · rw [hfinal.flag rfl (by decide), hup h]
  · rw [hfinal.flag rfl (by simp [Fld.apart]), hsynced hsender hrest h]

/-! Sessions that time out (R238) -/

/-- R238: a session whose tile says nothing is closed. -/
theorem exec_sessionTimeout_closes {s : State} {n : Nat} (hs : s.senderRole = true) (hn : n < 512)
    (ho : s.flag (F.MLK_SESS_STAT_OPEN n) = true) (hp : s.cmd.pushes = []) :
    ∃ t, exec (.sessionTimeout n) s = .next t ∧ t.flag (F.MLK_SESS_STAT_OPEN n) = false ∧ t.flag F.MLK_EVT_SESSION_DOWN = true ∧
      t.cycles = max s.cycles (((s.link.status.find? (fun x => x.1 == n)).map (·.2)).getD 0 + msCycles (s.fld F.MLK_TMO_SESS_TMO_MS)) ∧
      OnlyParts [.regs, .cycles, .wall, .sent, .repl, .red] s t ∧ OnlyFlds [F.MLK_SESS_STAT_OPEN n, F.MLK_EVT_SESSION_DOWN] s t := by
  have hcloses : ∀ u : State, (u.closeSession n).flag (F.MLK_SESS_STAT_OPEN n) = false ∧ (u.closeSession n).flag F.MLK_EVT_SESSION_DOWN = true ∧
      OnlyParts [.regs, .sent, .repl, .red] u (u.closeSession n) ∧
      OnlyFlds [F.MLK_SESS_STAT_OPEN n, F.MLK_EVT_SESSION_DOWN] u (u.closeSession n) := by
    intro u
    have happend := ((u.setFlag (F.MLK_SESS_STAT_OPEN n) false).event F.MLK_EVT_SESSION_DOWN).append_keeps
      (.session n false ⟨n, 0, 0, 0, 0, 0, 0, 0, 0, 0, 0⟩) .regs (by simp)
    have hevent := (OnlyFlds.refl [F.MLK_EVT_SESSION_DOWN] (u.setFlag (F.MLK_SESS_STAT_OPEN n) false)).event F.MLK_EVT_SESSION_DOWN rfl (by simp)
    refine ⟨?_, ?_, (State.closeSession_evolves u n (by simp) (.refl _ u)).parts, ?_⟩
    · rw [State.closeSession, State.flag_congr happend, hevent.flag rfl (by simp [Fld.apart])]
      exact u.flag_setFlag _ false rfl
    · rw [State.closeSession, State.flag_congr happend]
      exact State.flag_event _ _ rfl
    · exact (((OnlyFlds.refl _ u).setFlag (F.MLK_SESS_STAT_OPEN n) false rfl (by simp)).trans (hevent.mono (by simp))).trans (.of_regs happend)
  obtain ⟨hopen, hdown, hparts, hflds⟩ := hcloses
    (s.untilCycle (((s.link.status.find? (fun x => x.1 == n)).map (·.2)).getD 0 + msCycles (s.fld F.MLK_TMO_SESS_TMO_MS)))
  have htime := (State.untilCycle_evolves s (((s.link.status.find? (fun x => x.1 == n)).map (·.2)).getD 0 +
    msCycles (s.fld F.MLK_TMO_SESS_TMO_MS)) (List.Subset.refl _) (.refl _ s)).parts
  have hpushes : ∀ (u : State) (tile : Nat), u.cmd.pushes = [] → u.pushLeaves tile = u := fun u tile hu => by
    rw [State.pushLeaves, hu]
    rfl
  refine ⟨_, ?_, hopen, hdown, ?_, (htime.mono (by simp)).trans (hparts.mono (by simp)), (s.untilCycle_flds _ _).trans hflds⟩
  · show execSessionTimeout n s = _
    rw [execSessionTimeout, if_pos ⟨hs, hn, ho⟩]
    dsimp only
    rw [hpushes _ _ (by rw [hparts .cmd (by simp), htime .cmd (by simp), hp])]
  · rw [hparts .cycles (by simp), State.untilCycle_cycles]

/-! TILE_STATUS (R252) -/

/-- The fields of a session that TILE_STATUS tells. -/
def statusFlds (n : Nat) : List Fld :=
  [F.MLK_SESS_STAT_MODE n, F.MLK_SESS_STAT_TIME_LOCKED n, F.MLK_SESS_LAST_FLIP_FLIP_LO n, F.MLK_SESS_AGE_FAULTS_PENDING n]

/-- R252: the registers of a session as TILE_STATUS tells them. -/
def State.statusRegs (s : State) (n : Nat) (b : TileStatus) : State :=
  (((s.setFld (F.MLK_SESS_STAT_MODE n) b.mode).setFlag (F.MLK_SESS_STAT_TIME_LOCKED n) b.timeLocked).setFld
    (F.MLK_SESS_LAST_FLIP_FLIP_LO n) b.lastFlipLo).setFld (F.MLK_SESS_AGE_FAULTS_PENDING n) b.faultsPending

theorem State.statusRegs_spec (s : State) (n : Nat) (b : TileStatus) :
    let t := s.statusRegs n b
    t.fld (F.MLK_SESS_STAT_MODE n) = b.mode % 8 ∧ t.fld (F.MLK_SESS_STAT_TIME_LOCKED n) = b.timeLocked.toNat ∧
      t.fld (F.MLK_SESS_LAST_FLIP_FLIP_LO n) = b.lastFlipLo % 2 ^ 32 ∧ t.fld (F.MLK_SESS_AGE_FAULTS_PENDING n) = b.faultsPending % 65536 := by
  simp [State.statusRegs, State.fld_setFld_apart, State.fld_setFlag_apart, State.fld_setFld_same, State.fld_setFlag_same, Fld.apart, Fld.ok,
    Fld.width]

theorem State.statusRegs_flds (s : State) (n : Nat) (b : TileStatus) : OnlyFlds (statusFlds n) s (s.statusRegs n b) :=
  OnlyFlds.setFld _ _ rfl (by simp [statusFlds]) (OnlyFlds.setFld _ _ rfl (by simp [statusFlds]) (OnlyFlds.setFlag _ _ rfl
    (by simp [statusFlds]) (OnlyFlds.setFld _ _ rfl (by simp [statusFlds]) (.refl _ s))))

theorem State.statusRegs_parts (s : State) (n : Nat) (b : TileStatus) : OnlyParts [.regs] s (s.statusRegs n b) :=
  (State.setFld_evolves _ _ _ (by simp) (State.setFld_evolves _ _ _ (by simp) (State.setFlag_evolves _ _ _ (by simp)
    (State.setFld_evolves s _ _ (by simp) (.refl _ s))))).parts

theorem State.statusNow_mem (s : State) (n : Nat) : (n, s.cycles) ∈ (s.statusNow n).link.status :=
  List.mem_append_right _ (List.mem_singleton.mpr rfl)

theorem State.statusNow_parts (s : State) (n : Nat) : OnlyParts [.link] s (s.statusNow n) :=
  (State.statusNow_evolves s n (List.Subset.refl _) (.refl _ s)).parts

theorem State.tileStatusMsg_open {s : State} {b : TileStatus} (ha : b.addr < 0x8000) (hd : b.addr / 512 = s.fld F.MLK_CTL_DOMAIN)
    (ho : s.flag (F.MLK_SESS_STAT_OPEN (sessionOf b.addr)) = true) :
    s.tileStatusMsg b = (s.statusRegs (sessionOf b.addr) b).statusNow (sessionOf b.addr) := by
  rw [State.tileStatusMsg, if_pos ⟨ha, hd, ho⟩]
  rfl

/-- R252: what TILE_STATUS of an open session leaves. -/
theorem State.tileStatusMsg_spec {s : State} {b : TileStatus} (ha : b.addr < 0x8000) (hd : b.addr / 512 = s.fld F.MLK_CTL_DOMAIN)
    (ho : s.flag (F.MLK_SESS_STAT_OPEN (sessionOf b.addr)) = true) :
    let n := sessionOf b.addr
    let t := s.tileStatusMsg b
    t.fld (F.MLK_SESS_STAT_MODE n) = b.mode % 8 ∧ t.flag (F.MLK_SESS_STAT_TIME_LOCKED n) = b.timeLocked ∧
      t.fld (F.MLK_SESS_LAST_FLIP_FLIP_LO n) = b.lastFlipLo % 2 ^ 32 ∧ t.fld (F.MLK_SESS_AGE_FAULTS_PENDING n) = b.faultsPending % 65536 ∧
      (n, s.cycles) ∈ t.link.status ∧ OnlyParts [.regs, .link] s t ∧ OnlyFlds (statusFlds n) s t := by
  rw [State.tileStatusMsg_open ha hd ho]
  generalize sessionOf b.addr = n
  obtain ⟨hmode, hlocked, hlast, hfaults⟩ := s.statusRegs_spec n b
  have hflds := s.statusRegs_flds n b
  have hparts := s.statusRegs_parts n b
  generalize s.statusRegs n b = u at hmode hlocked hlast hfaults hflds hparts
  have hregs := u.statusNow_regs n
  have hmem := u.statusNow_mem n
  rw [hparts .cycles (by simp)] at hmem
  exact ⟨(State.fld_congr hregs _).trans hmode, State.flag_of_fld ((State.fld_congr hregs _).trans hlocked),
    (State.fld_congr hregs _).trans hlast, (State.fld_congr hregs _).trans hfaults, hmem,
    (hparts.mono (by simp)).trans ((u.statusNow_parts n).mono (by simp)), hflds.trans (.of_regs hregs)⟩

@[simp] theorem State.ackMsg_status (s : State) (m : MsgHdr) (x : Status) : (s.ackMsg m x).link.status = s.link.status := by
  obtain ⟨ports, own, h⟩ := s.ackMsg_link m x
  rw [h]

/-- R33: a sender remembers the highest epoch that a tile has seen. -/
def State.epochSeen (s : State) (n : Nat) : State := { s with red := { s.red with seenEpoch := max s.red.seenEpoch n } }

theorem State.epochSeen_parts (s : State) (n : Nat) : OnlyParts [.red] s (s.epochSeen n) :=
  (Evolves.set_red (ps := [.red]) _ (by simp) (.refl _ s)).parts

theorem State.hears_congr {s t : State} (hr : t.regs = s.regs) (hl : t.link = s.link) {m : MsgHdr} (h : s.hears m) : t.hears m := by
  obtain ⟨ha, hd, hw, hs⟩ := h
  exact ⟨State.arrives_congr hr ha, (State.isForMe_congr hr _).trans hd, (State.wrongClaim_congr hr _ _).trans hw, by
    rw [State.seenSeq, hl]; exact hs⟩

theorem exec_tileStatus_hears {s : State} {m : MsgHdr} {b : TileStatus} (hs : s.senderRole = true) (hh : s.hears m) :
    exec (.tileStatus m b) s = .next (((((s.epochSeen b.claimEpoch).tileRestarts m b.addr b.restarts).heard m (.tileStatus b)).tileStatusMsg b).ackMsg m
      .ok) := by
  have hfirst : (if s.senderRole && s.portUp m.port && m.checkOk then s.epochSeen b.claimEpoch else s) = s.epochSeen b.claimEpoch := by
    obtain ⟨⟨-, hu, hc⟩, -, -, -⟩ := hh
    rw [hs, hu, hc]
    rfl
  have hregs : ((s.epochSeen b.claimEpoch).tileRestarts m b.addr b.restarts).regs = s.regs :=
    (State.tileRestarts_parts _ m b.addr b.restarts) .regs (by simp)
  have hrole : (((s.epochSeen b.claimEpoch).tileRestarts m b.addr b.restarts).heard m (.tileStatus b)).senderRole = true := by
    rw [State.heard_senderRole, State.senderRole_congr hregs, hs]
  show Host.Outcome.next ((((if s.senderRole && s.portUp m.port && m.checkOk then s.epochSeen b.claimEpoch else s)).tileRestarts m b.addr
    b.restarts).receiveOk m (.tileStatus b) false _) = _
  rw [hfirst, State.receiveOk_hears _ _ _ (State.tileRestarts_hears (State.hears_congr (t := s.epochSeen b.claimEpoch) rfl rfl hh) _ _),
    if_pos hrole]

/-- R252: TILE_STATUS of a session that is open. -/
theorem exec_tileStatus_keeps {s : State} {m : MsgHdr} {b : TileStatus} (hs : s.senderRole = true) (hh : s.hears m) (ha : b.addr < 0x8000)
    (hd : b.addr / 512 = s.fld F.MLK_CTL_DOMAIN) (ho : s.flag (F.MLK_SESS_STAT_OPEN (sessionOf b.addr)) = true) :
    let n := sessionOf b.addr
    ∃ t, exec (.tileStatus m b) s = .next t ∧ t.fld (F.MLK_SESS_STAT_MODE n) = b.mode % 8 ∧
      t.flag (F.MLK_SESS_STAT_TIME_LOCKED n) = b.timeLocked ∧ t.fld (F.MLK_SESS_LAST_FLIP_FLIP_LO n) = b.lastFlipLo % 2 ^ 32 ∧
      t.fld (F.MLK_SESS_AGE_FAULTS_PENDING n) = b.faultsPending % 65536 ∧ (n, s.cycles) ∈ t.link.status ∧
      t.red.seenEpoch = max s.red.seenEpoch b.claimEpoch ∧ OnlyParts [.regs, .sent, .link, .red] s t ∧ OnlyFlds (statusFlds n) s t := by
  have hexec := exec_tileStatus_hears (b := b) hs hh
  have hepoch := s.epochSeen_parts b.claimEpoch
  have hheard : OnlyParts [.sent, .link] (s.epochSeen b.claimEpoch)
      (((s.epochSeen b.claimEpoch).tileRestarts m b.addr b.restarts).heard m (.tileStatus b)) :=
    ((State.tileRestarts_parts _ m b.addr b.restarts).mono (by simp)).trans (State.heard_parts _ m _)
  generalize ((s.epochSeen b.claimEpoch).tileRestarts m b.addr b.restarts).heard m (.tileStatus b) = u at hexec hheard
  have hregs : u.regs = s.regs := (hheard .regs (by simp)).trans (hepoch .regs (by simp))
  have hred : u.red = (s.epochSeen b.claimEpoch).red := hheard .red (by simp)
  have hcycles : u.cycles = s.cycles := (hheard .cycles (by simp)).trans (hepoch .cycles (by simp))
  obtain ⟨hmode, hlocked, hlast, hfaults, hstatus, hparts, hflds⟩ := State.tileStatusMsg_spec (s := u) ha
    (by rw [State.fld_congr hregs]; exact hd) ((State.flag_congr hregs _).trans ho)
  have hack := State.ackMsg_parts (u.tileStatusMsg b) m .ok
  refine ⟨_, hexec, by rw [State.fld_ackMsg, hmode], by rw [State.flag_ackMsg, hlocked], by rw [State.fld_ackMsg, hlast],
    by rw [State.fld_ackMsg, hfaults], by rw [State.ackMsg_status, ← hcycles]; exact hstatus, ?_, ?_, ?_⟩
  · rw [hack .red (by simp), hparts .red (by simp), hred]
    rfl
  · exact (hepoch.mono (by simp)).trans ((hheard.mono (by simp)).trans ((hparts.mono (by simp)).trans (hack.mono (by simp))))
  · exact (OnlyFlds.of_regs hregs).trans (hflds.trans (.of_regs (State.ackMsg_regs _ m .ok)))

/-- R252: a tile says of itself what it is. -/
theorem exec_tileStatusSend_tells {s : State} (hr : s.tileRole = true) : ∃ t b, exec .tileStatusSend s = .next t ∧
    t.cycles = max s.cycles (s.link.tstatAt + msCycles (s.fld F.MLK_TMO_TSTAT_MS)) ∧
    t.link.own = s.link.own ++ [⟨s.activePort, 0x8002, .tileStatus b, [0x8002]⟩] ∧ b.addr = s.ownAddr ∧ b.mode = s.mode.code ∧
    b.temp = s.fld F.THM_STAT_HOTTEST ∧ b.faultsPending = s.faults.unacked.length ∧ b.disc = min s.link.discSince 0xFFFF ∧
    b.lastView = s.tile.last.2 ∧ t.link.tstatAt = t.cycles ∧ t.link.discSince = 0 ∧ OnlyParts [.cycles, .wall, .link] s t := by
  have htime := (State.untilCycle_evolves s (s.link.tstatAt + msCycles (s.fld F.MLK_TMO_TSTAT_MS)) (List.Subset.refl _) (.refl _ s)).parts
  have hcycles := s.untilCycle_cycles (s.link.tstatAt + msCycles (s.fld F.MLK_TMO_TSTAT_MS))
  have hexec : exec .tileStatusSend s = .next (
      let u := s.untilCycle (s.link.tstatAt + msCycles (s.fld F.MLK_TMO_TSTAT_MS))
      { u with link := { u.link with own := u.link.own ++ [⟨u.activePort, 0x8002, .tileStatus u.tileStatus, [0x8002]⟩], tstatAt := u.cycles,
                                     discSince := 0 } }) := by
    show execTileStatusSend s = _
    rw [execTileStatusSend, if_pos hr]
    dsimp only
    rw [State.sendActive, State.sendMsg_tile ((State.tileRole_congr (htime .regs (by simp))).trans hr)]
  refine ⟨_, (s.untilCycle (s.link.tstatAt + msCycles (s.fld F.MLK_TMO_TSTAT_MS))).tileStatus, hexec, hcycles, rfl, rfl, rfl, rfl, rfl, rfl, rfl,
    rfl, rfl, ?_⟩
  exact (htime.mono (by simp)).trans (Evolves.set_link (ps := [.cycles, .wall, .link]) _ (by simp) (.refl _ _)).parts

end Sys2Proof.Machine
end

section
/-! SUPPORT. HEARTBEAT (R252 to R254): a claim that becomes a tile's highest, and what a sender says of itself. -/

namespace Sys2Proof.Machine

/-! A claim at a tile (R253) -/

/-- R253: a claim becomes the highest, and its port the active one. -/
def State.claimTaken (s : State) (c : Claim) (port : Nat) : State :=
  ((((s.setFld F.MLK_CLAIM_EPOCH_EPOCH c.epoch).setFld F.MLK_CLAIM_RANK c.rank).setFlag F.MLK_CLAIM_SEEN true).event F.MLK_EVT_CLAIM_NEW).setFld
    F.MLK_STAT_ACTIVE_PORT port

/-- The fields that tell the highest claim and its port. -/
def claimFlds : List Fld := [F.MLK_CLAIM_EPOCH_EPOCH, F.MLK_CLAIM_RANK, F.MLK_CLAIM_SEEN, F.MLK_EVT_CLAIM_NEW, F.MLK_STAT_ACTIVE_PORT]

theorem State.claimTaken_spec (s : State) (c : Claim) (port : Nat) :
    let t := s.claimTaken c port
    t.fld F.MLK_CLAIM_EPOCH_EPOCH = c.epoch % 2 ^ 32 ∧ t.fld F.MLK_CLAIM_RANK = c.rank % 2 ∧ t.fld F.MLK_CLAIM_SEEN = 1 ∧
      t.fld F.MLK_EVT_CLAIM_NEW = 1 ∧ t.fld F.MLK_STAT_ACTIVE_PORT = port % 2 := by
  simp [State.claimTaken, State.event, State.fld_setFld_apart, State.fld_setFlag_apart, State.fld_setFld_same, State.fld_setFlag_same,
    Fld.apart, Fld.ok, Fld.width]

theorem State.claimTaken_flds (s : State) (c : Claim) (port : Nat) : OnlyFlds claimFlds s (s.claimTaken c port) :=
  OnlyFlds.setFld _ _ rfl (by simp [claimFlds]) (OnlyFlds.event _ rfl (by simp [claimFlds]) (OnlyFlds.setFlag _ _ rfl (by simp [claimFlds])
    (OnlyFlds.setFld _ _ rfl (by simp [claimFlds]) (OnlyFlds.setFld _ _ rfl (by simp [claimFlds]) (.refl _ s)))))

theorem State.claimTaken_parts (s : State) (c : Claim) (port : Nat) : OnlyParts [.regs] s (s.claimTaken c port) :=
  (State.setFld_evolves _ _ _ (by simp) (State.event_evolves _ _ (by simp) (State.setFlag_evolves _ _ _ (by simp)
    (State.setFld_evolves _ _ _ (by simp) (State.setFld_evolves s _ _ (by simp) (.refl _ s)))))).parts

theorem State.tileClaim_new {s : State} {c : Claim} (h : s.flag F.MLK_CLAIM_SEEN = false ∨ outranks c s.claim = true) (port : Nat) :
    s.tileClaim c port = if s.activePort = port then s.claimTaken c port else (s.claimTaken c port).sendTileInfo := by
  rw [State.tileClaim]
  rcases h with h | h <;> rw [h] <;> simp only [Bool.not_false, Bool.true_or, Bool.or_true, if_true] <;> rfl

theorem State.sendTileInfo_hbPort {s : State} (hr : s.tileRole = true) : s.sendTileInfo.link.hbPort = s.link.hbPort := by
  have hrole := (Grows.sendMsg s 0 0x8003 (.tileInfo s.tileInfo) []).role.trans hr
  rw [State.sendTileInfo, if_pos hr, State.sendBoth, State.sendMsg_tile hrole, State.sendMsg_tile hr]

/-- R253: what a claim that becomes the highest leaves. -/
theorem State.tileClaim_spec {s : State} {c : Claim} {port : Nat} (hr : s.tileRole = true) (hp : port < 2)
    (h : s.flag F.MLK_CLAIM_SEEN = false ∨ outranks c s.claim = true) :
    let t := s.tileClaim c port
    t.fld F.MLK_CLAIM_EPOCH_EPOCH = c.epoch % 2 ^ 32 ∧ t.fld F.MLK_CLAIM_RANK = c.rank % 2 ∧ t.flag F.MLK_CLAIM_SEEN = true ∧
      t.flag F.MLK_EVT_CLAIM_NEW = true ∧ t.activePort = port ∧ t.link.hbPort = s.link.hbPort ∧ OnlyParts [.regs, .link] s t ∧
      OnlyFlds claimFlds s t := by
  obtain ⟨hepoch, hrank, hseen, hnew, hport⟩ := s.claimTaken_spec c port
  have hflds := s.claimTaken_flds c port
  have hparts := s.claimTaken_parts c port
  have hrole : (s.claimTaken c port).tileRole = true := (hflds.tileRole (by decide)).trans hr
  rw [State.tileClaim_new h]
  generalize s.claimTaken c port = u at hepoch hrank hseen hnew hport hflds hparts hrole
  rw [Nat.mod_eq_of_lt hp] at hport
  have hall : ∀ t : State, t.regs = u.regs → t.link.hbPort = s.link.hbPort → OnlyParts [.regs, .link] s t →
      t.fld F.MLK_CLAIM_EPOCH_EPOCH = c.epoch % 2 ^ 32 ∧ t.fld F.MLK_CLAIM_RANK = c.rank % 2 ∧ t.flag F.MLK_CLAIM_SEEN = true ∧
      t.flag F.MLK_EVT_CLAIM_NEW = true ∧ t.activePort = port ∧ t.link.hbPort = s.link.hbPort ∧ OnlyParts [.regs, .link] s t ∧
      OnlyFlds claimFlds s t := fun t ht hl hps =>
    ⟨(State.fld_congr ht _).trans hepoch, (State.fld_congr ht _).trans hrank, (State.flag_congr ht _).trans (State.flag_of_fld (b := true) hseen),
      (State.flag_congr ht _).trans (State.flag_of_fld (b := true) hnew), (State.activePort_congr ht).trans hport, hl, hps, hflds.trans (.of_regs ht)⟩
  split
  · exact hall u rfl (by rw [hparts .link (by simp)]) (hparts.mono (by simp))
  · obtain ⟨-, -, -, hinfo⟩ := State.sendTileInfo_spec hrole
    exact hall _ (hinfo .regs (by simp)) (by rw [State.sendTileInfo_hbPort hrole, hparts .link (by simp)])
      ((hparts.mono (by simp)).trans (hinfo.mono (by simp)))

/-- R228, R254: a HEARTBEAT that is heard: its source's restarts, its port and its number are kept. -/
def State.heartbeatNoted (s : State) (m : MsgHdr) (b : Heartbeat) : State :=
  (((s.passed m (.heartbeat b)).noteRestarts m.src b.restarts).noteHeartbeat m.src m.port).keepSeq m.src m.seq

theorem State.heartbeatNoted_parts (s : State) (m : MsgHdr) (b : Heartbeat) : OnlyParts [.sent, .link] s (s.heartbeatNoted m b) :=
  (s.passed_parts m _).trans (State.keepSeq_evolves _ _ _ (by simp) (State.noteHeartbeat_evolves _ _ _ (by simp)
    (State.noteRestarts_evolves _ _ _ (by simp) (.refl _ _)))).parts

theorem State.noteHeartbeat_mem (s : State) (src port : Nat) : (src, port) ∈ (s.noteHeartbeat src port).link.hbPort :=
  List.mem_append_right _ (List.mem_singleton.mpr rfl)

theorem State.keepSeq_hbPort (s : State) (src n : Nat) : (s.keepSeq src n).link.hbPort = s.link.hbPort := rfl

theorem State.heartbeatNoted_port (s : State) (m : MsgHdr) (b : Heartbeat) : (m.src, m.port) ∈ (s.heartbeatNoted m b).link.hbPort := by
  rw [State.heartbeatNoted, State.keepSeq_hbPort]
  exact State.noteHeartbeat_mem _ _ _

theorem exec_heartbeat_tile {s : State} {m : MsgHdr} {b : Heartbeat} (hr : s.tileRole = true) (ha : s.arrives m)
    (hn : s.seenSeq m.src m.seq = false) (hc : b.claim = true) :
    exec (.heartbeat m b) s = .next ((s.heartbeatNoted m b).tileClaim ⟨b.epoch, b.rank⟩ m.port) := by
  have hpassed : (s.passed m (.heartbeat b)).seenSeq m.src m.seq = false := by
    rw [State.seenSeq, s.passed_link]
    exact hn
  have hnew : (((s.passed m (.heartbeat b)).noteRestarts m.src b.restarts).noteHeartbeat m.src m.port).seenSeq m.src m.seq = false :=
    State.noteRestarts_unseen hpassed m.src b.restarts
  have hrole : (s.heartbeatNoted m b).tileRole = true := (State.tileRole_congr (s.heartbeatNoted_parts m b .regs (by simp))).trans hr
  show Host.Outcome.next _ = _
  rw [State.readUnit_arrives _ _ ha]
  dsimp only
  rw [hnew]
  simp only [Bool.false_eq_true, if_false]
  rw [← State.heartbeatNoted, hrole, hc, if_pos rfl, if_pos rfl]

/-- R253: a claim in a HEARTBEAT that outranks a tile's highest becomes the highest. -/
theorem exec_heartbeat_claims {s : State} {m : MsgHdr} {b : Heartbeat} (hr : s.tileRole = true) (ha : s.arrives m)
    (hn : s.seenSeq m.src m.seq = false) (hc : b.claim = true) (h : s.flag F.MLK_CLAIM_SEEN = false ∨ outranks ⟨b.epoch, b.rank⟩ s.claim = true) :
    ∃ t, exec (.heartbeat m b) s = .next t ∧
      t.fld F.MLK_CLAIM_EPOCH_EPOCH = b.epoch % 2 ^ 32 ∧ t.fld F.MLK_CLAIM_RANK = b.rank % 2 ∧ t.flag F.MLK_CLAIM_SEEN = true ∧
      t.flag F.MLK_EVT_CLAIM_NEW = true ∧ t.activePort = m.port ∧ (m.src, m.port) ∈ t.link.hbPort ∧
      OnlyParts [.regs, .sent, .link] s t ∧ OnlyFlds claimFlds s t := by
  have hport : m.port < 2 := by
    have hmem := List.contains_iff_mem.mp ha.1
    rw [State.portList, if_pos hr] at hmem
    simp only [List.mem_cons, List.not_mem_nil, or_false] at hmem
    omega
  have hexec := exec_heartbeat_tile hr ha hn hc
  have hparts := s.heartbeatNoted_parts m b
  have hmem := s.heartbeatNoted_port m b
  generalize s.heartbeatNoted m b = u at hexec hparts hmem
  have hregs := hparts .regs (by simp)
  obtain ⟨hepoch, hrank, hseen, hnew, hactive, hhb, hclaim, hflds⟩ := State.tileClaim_spec (s := u) (c := ⟨b.epoch, b.rank⟩)
    ((State.tileRole_congr hregs).trans hr) hport (by rw [State.flag_congr hregs, State.claim_congr hregs]; exact h)
  exact ⟨_, hexec, hepoch, hrank, hseen, hnew, hactive, by rw [hhb]; exact hmem, (hparts.mono (by simp)).trans (hclaim.mono (by simp)),
    (OnlyFlds.of_regs hregs).trans hflds⟩

/-! HEARTBEAT of a sender (R252) -/

/-- Messages that ask for no acknowledgement leave a sender in order. -/
theorem State.sendEach_spec {s : State} (hr : s.tileRole = false) (dst : Nat) (g : Nat → LinkMsg) (hg : ∀ c, asksAck (g c) = false) (l : List Nat) :
    let t := l.foldl (fun u c => u.sendMsg c dst (g c) []) s
    t.sent = s.sent ++ l.map (fun c => Output.link c (.msg dst false false (g c))) ∧ OnlyParts [.sent, .link] s t := by
  induction l generalizing s with
  | nil => exact ⟨by simp, fun _ _ => Part.same_refl s _⟩
  | cons c l ih =>
    have hparts := s.sendMsg_parts c dst (g c) []
    obtain ⟨hsent, hrest⟩ := ih ((State.tileRole_congr (hparts .regs (by simp))).trans hr)
    refine ⟨?_, hparts.trans hrest⟩
    rw [List.foldl_cons, hsent, State.sendMsg_sender hr c dst [] (hg c), State.sent_send, State.setPort_sent]
    simp

theorem State.sendOnEach_spec (s : State) (m : PartnerMsg) (l : List Nat) :
    let t := l.foldl (fun u p => u.sendOn p m) s
    (∃ post, t.sent = s.sent ++ post) ∧ t.red.hbSeq = s.red.hbSeq ∧ t.red.hbSent = s.red.hbSent ∧ OnlyParts [.sent, .red] s t := by
  induction l generalizing s with
  | nil => exact ⟨⟨[], by simp⟩, rfl, rfl, fun _ _ => Part.same_refl s _⟩
  | cons p l ih =>
    obtain ⟨⟨post, hsent⟩, hseq, hat, hparts⟩ := ih (s.sendOn p m)
    exact ⟨⟨.partner p s.red.dseq m :: post, by rw [List.foldl_cons, hsent]; simp [State.sendOn, State.send]⟩, hseq, hat,
      (State.sendOn_evolves s p m (by simp) (.refl _ s)).parts.trans hparts⟩

theorem State.ownHeartbeat_congr {s t : State} (hps : OnlyParts [.sent, .link, .red] s t) (hseq : t.red.hbSeq = s.red.hbSeq) (c : Nat) :
    t.ownHeartbeat c = s.ownHeartbeat c := by
  have hregs := hps .regs (by simp)
  have hrst : t.rst = s.rst := hps .rst (by simp)
  have hwall : t.wall = s.wall := hps .wall (by simp)
  have hgen : t.gen = s.gen := hps .gen (by simp)
  have hgnt : t.gnt = s.gnt := hps .gnt (by simp)
  simp only [State.ownHeartbeat, State.timeMode, State.fld_congr hregs, State.flag_congr hregs, State.mode_of_regs hregs, hrst, hwall, hgen, hgnt,
    hseq]

/-- R252: a sender's HEARTBEAT is due, and numbered. -/
def State.heartbeatDue (s : State) : State :=
  { s.untilCycle (s.red.hbSent + msCycles 1) with
    red := { (s.untilCycle (s.red.hbSent + msCycles 1)).red with
      hbSent := (s.untilCycle (s.red.hbSent + msCycles 1)).cycles
      hbSeq := ((s.untilCycle (s.red.hbSent + msCycles 1)).red.hbSeq + 1) % 2 ^ 32 } }

/-- The heartbeats of the chains, and those of the network. -/
def State.heartbeatsSent (s : State) (b : Nat → Heartbeat) : State :=
  ((List.range 8).filter s.portUp).foldl (fun t c => t.sendMsg c 0x8003 (.heartbeat (b c)) []) s

theorem exec_heartbeatSend_due {s : State} (h : s.senderRuns = true) :
    exec .heartbeatSend s = .next (if (s.heartbeatDue.heartbeatsSent s.heartbeatDue.ownHeartbeat).partnered then
      ([0, 1].filter (fun p => (s.heartbeatDue.heartbeatsSent s.heartbeatDue.ownHeartbeat).fld F.RED_CTL_NET_PATH / 2 ^ p % 2 == 1 &&
        (s.heartbeatDue.heartbeatsSent s.heartbeatDue.ownHeartbeat).fld (F.NET_STAT_LINK p) != 0)).foldl
        (fun t p => t.sendOn p (.heartbeat (s.heartbeatDue.ownHeartbeat 0xFF))) (s.heartbeatDue.heartbeatsSent s.heartbeatDue.ownHeartbeat)
      else s.heartbeatDue.heartbeatsSent s.heartbeatDue.ownHeartbeat) := by
  show execHeartbeatSend s = _
  rw [execHeartbeatSend, if_pos h]
  rfl

/-- R252: a sender says of itself what it is, on every chain. -/
theorem exec_heartbeatSend_tells {s : State} (h : s.senderRuns = true) (hr : s.tileRole = false) :
    ∃ t post, exec .heartbeatSend s = .next t ∧ t.cycles = max s.cycles (s.red.hbSent + msCycles 1) ∧
      t.red.hbSent = t.cycles ∧ t.red.hbSeq = (s.red.hbSeq + 1) % 2 ^ 32 ∧
      t.sent = s.sent ++ ((List.range 8).filter s.portUp).map (fun c => Output.link c (.msg 0x8003 false false (.heartbeat (t.ownHeartbeat c)))) ++ post ∧
      (s.partnered = false → post = []) ∧ OnlyParts [.cycles, .wall, .sent, .link, .red] s t := by
  have hexec := exec_heartbeatSend_due h
  have hdue : OnlyParts [.cycles, .wall, .red] s s.heartbeatDue :=
    (Evolves.set_red _ (by simp) (State.untilCycle_evolves s _ (by simp) (.refl _ s))).parts
  have hcycles : s.heartbeatDue.cycles = max s.cycles (s.red.hbSent + msCycles 1) := s.untilCycle_cycles _
  have hat : s.heartbeatDue.red.hbSent = s.heartbeatDue.cycles := rfl
  have hseq : s.heartbeatDue.red.hbSeq = (s.red.hbSeq + 1) % 2 ^ 32 := by
    rw [State.heartbeatDue, State.untilCycle_red]
  generalize s.heartbeatDue = u at hexec hdue hcycles hat hseq
  have hregs := hdue .regs (by simp)
  have hup : u.portUp = s.portUp := funext (State.portUp_congr hregs)
  obtain ⟨hsent, hparts⟩ := State.sendEach_spec (s := u) ((State.tileRole_congr hregs).trans hr) 0x8003 (fun c => .heartbeat (u.ownHeartbeat c))
    (fun _ => rfl) ((List.range 8).filter u.portUp)
  rw [hup, hdue .sent (by simp)] at hsent
  have hchain : (u.heartbeatsSent u.ownHeartbeat).red = u.red := by
    rw [State.heartbeatsSent]
    exact hparts .red (by simp)
  have hchainParts : OnlyParts [.sent, .link] u (u.heartbeatsSent u.ownHeartbeat) := hparts
  have hchainSent : (u.heartbeatsSent u.ownHeartbeat).sent = s.sent ++
      ((List.range 8).filter s.portUp).map (fun c => Output.link c (.msg 0x8003 false false (.heartbeat (u.ownHeartbeat c)))) := by
    rw [State.heartbeatsSent, hup]
    exact hsent
  generalize u.heartbeatsSent u.ownHeartbeat = v at hexec hchain hchainParts hchainSent
  have hpartnered : v.partnered = s.partnered := by
    rw [State.partnered, State.partnered, State.flag_congr ((hchainParts .regs (by simp)).trans hregs)]
  cases hp : s.partnered with
  | false =>
    rw [if_neg (by rw [hpartnered, hp]; decide)] at hexec
    have hown := State.ownHeartbeat_congr (hchainParts.mono (qs := [.sent, .link, .red]) (by simp)) (by rw [hchain])
    exact ⟨v, [], hexec, by rw [hchainParts .cycles (by simp), hcycles], by rw [hchain, hat, hchainParts .cycles (by simp)],
      by rw [hchain, hseq], by rw [hchainSent, List.append_nil]; simp only [hown], fun _ => rfl,
      (hdue.mono (by simp)).trans (hchainParts.mono (by simp))⟩
  | true =>
    rw [if_pos (by rw [hpartnered, hp])] at hexec
    obtain ⟨⟨post, hpost⟩, hseq', hat', hnet⟩ := v.sendOnEach_spec (.heartbeat (u.ownHeartbeat 0xFF))
      ([0, 1].filter (fun p => v.fld F.RED_CTL_NET_PATH / 2 ^ p % 2 == 1 && v.fld (F.NET_STAT_LINK p) != 0))
    have hall : OnlyParts [.sent, .link, .red] u _ := (hchainParts.mono (by simp)).trans (hnet.mono (by simp))
    have hown := State.ownHeartbeat_congr hall (by rw [hseq', hchain])
    refine ⟨_, post, hexec, by rw [hall .cycles (by simp), hcycles], by rw [hat', hchain, hat, hall .cycles (by simp)],
      by rw [hseq', hchain, hseq], ?_, fun hn => by simp at hn, (hdue.mono (by simp)).trans (hall.mono (by simp))⟩
    rw [hpost, hchainSent]
    simp only [hown]

end Sys2Proof.Machine
end

section
/-! CERTIFICATES. Sessions of a chain (O43). -/

namespace Sys2Proof.Machine

/-- Settles O43: a lemma for each message says what it leaves, once it has arrived or is heard. -/
theorem sessionsComeAndGo : Obligations.SessionsComeAndGo := by
  intro s m
  exact ⟨fun d c v step hr ha hn => exec_enumerate_numbers hr ha hn d c v step, fun d c v hr ha hn => exec_enumerate_ring hr ha hn d c v,
    fun x _ hs hh ha hd => exec_tileInfo_opens hs hh ha hd, fun n hs hn ho hp => exec_sessionTimeout_closes hs hn ho hp,
    fun b hs _ hh ha hd ho => exec_tileStatus_keeps hs hh ha hd ho, fun hr => exec_tileStatusSend_tells hr,
    fun b hr ha hn hc h => exec_heartbeat_claims hr ha hn hc h, fun h hr => exec_heartbeatSend_tells h hr⟩

end Sys2Proof.Machine
end

section
/-! SUPPORT. Time over a segment (R246, R248 to R250): requests, replies, and the sample that a TIME_INFO gives. -/

namespace Sys2Proof.Machine

/-! Requests and replies (R248) -/

theorem State.timeMaster_congr {s t : State} (h : t.regs = s.regs) (p : Nat) : t.timeMaster p = s.timeMaster p := by
  rw [State.timeMaster, State.timeMaster, State.tileRole_congr h, State.activePort_congr h, State.mode_of_regs h]

theorem State.holdsTime_congr {s t : State} (h : t.regs = s.regs) : t.holdsTime = s.holdsTime := by
  rw [State.holdsTime, State.holdsTime, State.timeMode, State.timeMode, State.fld_congr h]

/-- R248: the cycle of the next request of a port. -/
def State.requestTime (s : State) (p : Nat) : State :=
  if (s.port p).reqAt = 0 then s else s.untilCycle ((s.port p).reqAt + usCycles 250)

theorem State.requestTime_parts (s : State) (p : Nat) : OnlyParts [.cycles, .wall] s (s.requestTime p) := by
  unfold State.requestTime
  split
  · exact fun _ _ => Part.same_refl s _
  · exact (State.untilCycle_evolves s _ (by simp) (.refl _ s)).parts

theorem State.requestTime_cycles (s : State) (p : Nat) :
    (s.requestTime p).cycles = if (s.port p).reqAt = 0 then s.cycles else max s.cycles ((s.port p).reqAt + usCycles 250) := by
  unfold State.requestTime
  split
  · rfl
  · exact s.untilCycle_cycles _

/-- R248: the master of a segment asks, and keeps when it did. -/
theorem exec_timeRequest_asks {s : State} {p : Nat} (hp : s.portList.contains p = true) (hu : s.portUp p = true) (hm : s.timeMaster p = true) :
    ∃ t, exec (.timeRequest p) s = .next t ∧
      t.cycles = (if (s.port p).reqAt = 0 then s.cycles else max s.cycles ((s.port p).reqAt + usCycles 250)) ∧
      (t.port p).tseq = ((s.port p).tseq + 1) % 65536 ∧ (t.port p).reqAt = t.cycles ∧ (t.port p).sentT1 = stampOf t.wall ∧
      t.sent = s.sent ++ [.link p (.time (((s.port p).tseq + 1) % 65536) 0)] ∧ OnlyParts [.cycles, .wall, .sent, .link] s t := by
  have hexec : exec (.timeRequest p) s = .next (((s.requestTime p).setPort p { (s.requestTime p).port p with
      tseq := ((s.port p).tseq + 1) % 65536, reqAt := (s.requestTime p).cycles, sentT1 := stampOf (s.requestTime p).wall }).send
      (.link p (.time (((s.port p).tseq + 1) % 65536) 0))) := by
    show execTimeRequest p s = _
    rw [execTimeRequest, if_pos ⟨hp, hu, hm⟩]
    rfl
  have hparts := s.requestTime_parts p
  have hcycles := s.requestTime_cycles p
  generalize s.requestTime p = u at hexec hparts hcycles
  refine ⟨_, hexec, hcycles, ?_, ?_, ?_, ?_, ?_⟩
  · rw [State.port_send, State.port_setPort_same]
  · rw [State.port_send, State.port_setPort_same]
    rfl
  · rw [State.port_send, State.port_setPort_same]
    rfl
  · rw [State.sent_send, State.setPort_sent, hparts .sent (by simp)]
  · exact (hparts.mono (by simp)).trans (State.send_evolves _ _ (by simp) (State.setPort_evolves u _ _ (by simp) (.refl _ u))).parts

theorem exec_timeRequest_slave {s : State} {p : Nat} (hm : s.timeMaster p = false) : exec (.timeRequest p) s = .next s := by
  show execTimeRequest p s = _
  rw [execTimeRequest, if_neg (by simp [hm])]

/-- R248: the exchange of a port, as the slave keeps it. -/
def State.noteExchange (s : State) (e : TimeExch) : State :=
  { s with time := { s.time with exch := s.time.exch.filter (fun (x : TimeExch) => x.port != e.port) ++ [e] } }

theorem State.noteExchange_spec (s : State) (e : TimeExch) :
    e ∈ (s.noteExchange e).time.exch ∧ (∀ x ∈ (s.noteExchange e).time.exch, x.port = e.port → x = e) ∧ OnlyParts [.time] s (s.noteExchange e) := by
  refine ⟨List.mem_append_right _ (List.mem_singleton.mpr rfl), fun x hx hp => ?_, (Evolves.set_time _ (by simp) (.refl _ s)).parts⟩
  rcases List.mem_append.mp hx with h | h
  · exact absurd hp (by simpa using (List.mem_filter.mp h).2)
  · exact List.mem_singleton.mp h

/-- R248: the slave of a segment stamps a request and replies. -/
theorem exec_timeBlock_replies {s : State} {p : Nat} (hp : s.portList.contains p = true) (hu : s.portUp p = true) (q stamp : Nat)
    (hm : s.timeMaster p = false) : ∃ t, exec (.timeBlock p q 0 stamp) s = .next t ∧
      t.sent = s.sent ++ [.link p (.time q 1)] ∧ (⟨p, q, (stamp : Int), ((stampOf s.wall : Nat) : Int)⟩ : TimeExch) ∈ t.time.exch ∧
      (∀ x ∈ t.time.exch, x.port = p → x = ⟨p, q, (stamp : Int), ((stampOf s.wall : Nat) : Int)⟩) ∧ OnlyParts [.sent, .link, .time] s t := by
  have hmaster := (State.timeMaster_congr (s.blockSeen_regs p) p).trans hm
  have hwall : (s.blockSeen p).wall = s.wall := s.blockSeen_parts p .wall (by simp)
  have hexec : exec (.timeBlock p q 0 stamp) s =
      .next (((s.blockSeen p).noteExchange ⟨p, q, (stamp : Int), ((stampOf s.wall : Nat) : Int)⟩).send (.link p (.time q 1))) := by
    show execTimeBlock p q 0 stamp s = _
    rw [execTimeBlock, if_pos ⟨hp, hu⟩, State.timeBlock, if_pos rfl, if_neg (by simp [hmaster]), hwall]
    rfl
  obtain ⟨hmem, honly, hparts⟩ := (s.blockSeen p).noteExchange_spec ⟨p, q, (stamp : Int), ((stampOf s.wall : Nat) : Int)⟩
  refine ⟨_, hexec, ?_, hmem, honly, ?_⟩
  · rw [State.sent_send, hparts .sent (by simp), State.blockSeen_sent]
  · exact ((s.blockSeen_parts p).mono (by simp)).trans ((hparts.mono (by simp)).trans (State.send_evolves _ _ (by simp) (.refl _ _)).parts)

/-- R249: the master tells the slave its stamps. -/
theorem exec_timeBlock_tells {s : State} {p : Nat} (hp : s.portList.contains p = true) (hu : s.portUp p = true) (q stamp : Nat)
    (hm : s.timeMaster p = true) (hq : (s.port p).tseq = q) : ∃ t, exec (.timeBlock p q 1 stamp) s = .next t ∧
      t.sent = s.sent ++ [.link p (.msg 0xFFFE false false (.timeInfo q (s.port p).sentT1 stamp s.holdsTime))] ∧
      OnlyParts [.sent, .link] s t := by
  have hmaster := (State.timeMaster_congr (s.blockSeen_regs p) p).trans hm
  have hport : (s.blockSeen p).port p = { s.port p with lastBlock := s.cycles } := State.port_setPort_same _ _ _
  have hexec : exec (.timeBlock p q 1 stamp) s = .next ((s.blockSeen p).send
      (.link p (.msg 0xFFFE false false (.timeInfo q (s.port p).sentT1 stamp s.holdsTime)))) := by
    show execTimeBlock p q 1 stamp s = _
    rw [execTimeBlock, if_pos ⟨hp, hu⟩, State.timeBlock, if_neg (by decide), if_pos ⟨hmaster, by rw [hport]; exact hq⟩, hport,
      State.holdsTime_congr (s.blockSeen_regs p)]
  refine ⟨_, hexec, ?_, ?_⟩
  · rw [State.sent_send, State.blockSeen_sent]
  · exact ((s.blockSeen_parts p).mono (by simp)).trans (State.send_evolves _ _ (by simp) (.refl _ _)).parts

/-! Samples (R250, R394) -/

theorem half_near (x : Int) {b : Nat} (hb : b < 2) : (2 * half x b - x).natAbs ≤ 1 := by
  unfold half
  split <;> omega

theorem State.openBit_lt (s : State) : s.openBit < 2 := Nat.mod_lt _ (by decide)

theorem psField_lt (x : Int) (b : Nat) : psField x b < 2 ^ 32 := by
  have hlt : ∀ y : Int, (y % ((2 ^ 32 : Nat) : Int)).toNat < 2 ^ 32 := fun y => by
    have := Int.emod_lt_of_pos y (by decide : (0 : Int) < ((2 ^ 32 : Nat) : Int))
    omega
  exact hlt _

theorem State.setTimeMode_spec (s : State) (m : TimeMode) :
    (s.setTimeMode m).time.samples = s.time.samples ∧ (s.setTimeMode m).time.chainAt = s.time.chainAt ∧
      OnlyParts [.regs, .time] s (s.setTimeMode m) := by
  have hparts := (State.setTimeMode_evolves s m (List.Subset.refl _) (.refl _ s)).parts
  have htime : (s.setTimeMode m).time = { s.time with near := 0, far := 0 } := by cases m <;> simp [State.setTimeMode]
  exact ⟨by rw [htime], by rw [htime], hparts⟩

theorem State.steer_spec (s : State) : s.steer.time = s.time ∧ OnlyParts [.regs, .fresh] s s.steer := by
  have hparts := (State.steer_evolves s (List.Subset.refl _) (.refl _ s)).parts
  exact ⟨hparts .time (by simp), hparts⟩

/-- R394: a servo that follows its source steers, and may change its mode. -/
theorem State.servoFollows_spec (s : State) {x : TimeState} (hs : x.samples = s.time.samples) (hc : x.chainAt = s.time.chainAt) (q : Prop)
    [Decidable q] (m : TimeMode) :
    let t := if q then ({ s with time := x } : State).steer.setTimeMode m else ({ s with time := x } : State).steer
    t.time.samples = s.time.samples ∧ t.time.chainAt = s.time.chainAt ∧ OnlyParts [.regs, .fresh, .time] s t := by
  have hrun : OnlyParts [.time] s { s with time := x } := (Evolves.set_time _ (by simp) (.refl _ s)).parts
  have hx : ({ s with time := x } : State).time = x := rfl
  generalize ({ s with time := x } : State) = u at hrun hx
  obtain ⟨htime, hsteer⟩ := u.steer_spec
  have hall : OnlyParts [.regs, .fresh, .time] s u.steer := (hrun.mono (by simp)).trans (hsteer.mono (by simp))
  dsimp only
  split
  · obtain ⟨hs', hc', hparts⟩ := u.steer.setTimeMode_spec m
    exact ⟨by rw [hs', htime, hx, hs], by rw [hc', htime, hx, hc], hall.trans (hparts.mono (by simp))⟩
  · exact ⟨by rw [htime, hx, hs], by rw [htime, hx, hc], hall⟩

/-- R394: a sample as it is kept. -/
def State.keepSample (s : State) (off : Int) : State :=
  ({ s with time := { s.time with samples := (off :: s.time.samples).take 8 } } : State).drawn

theorem State.keepSample_parts (s : State) (off : Int) : OnlyParts [.fresh, .time] s (s.keepSample off) :=
  (State.drawn_evolves _ (by simp) (Evolves.set_time _ (by simp) (.refl _ s))).parts

theorem State.keepSample_time (s : State) (off : Int) : (s.keepSample off).time = { s.time with samples := (off :: s.time.samples).take 8 } := rfl

/-- R394: a sample that a servo takes while it follows its source. -/
theorem State.servoSample_spec {s : State} (off : Int) (h : s.timeMode = .locked ∨ s.timeMode = .acquire) :
    (s.servoSample off).time.samples = (off :: s.time.samples).take 8 ∧ (s.servoSample off).time.chainAt = s.time.chainAt ∧
      OnlyParts [.regs, .fresh, .time] s (s.servoSample off) := by
  have hkeep := s.keepSample_parts off
  have htime := s.keepSample_time off
  have hmode : (s.keepSample off).timeMode = s.timeMode := by
    rw [State.timeMode, State.timeMode, State.fld_congr (hkeep .regs (by simp))]
  unfold State.servoSample
  dsimp only
  rw [← State.keepSample]
  generalize s.keepSample off = u at hkeep htime hmode ⊢
  have hall : ∀ t : State, t.time.samples = u.time.samples ∧ t.time.chainAt = u.time.chainAt ∧ OnlyParts [.regs, .fresh, .time] u t →
      t.time.samples = (off :: s.time.samples).take 8 ∧ t.time.chainAt = s.time.chainAt ∧ OnlyParts [.regs, .fresh, .time] s t := by
    rintro t ⟨hs, hc, hparts⟩
    exact ⟨by rw [hs, htime], by rw [hc, htime], (hkeep.mono (by simp)).trans hparts⟩
  rcases h with h | h
  · rw [hmode, h]
    dsimp only
    refine hall _ (u.servoFollows_spec ?_ ?_ _ _) <;> rfl
  · rw [hmode, h]
    dsimp only
    refine hall _ (u.servoFollows_spec ?_ ?_ _ _) <;> rfl

/-! TIME_INFO (R249, R250) -/

/-- R250: an exchange that has been told is over. -/
def State.endExchange (s : State) (e : TimeExch) : State :=
  { s with time := { s.time with exch := s.time.exch.filter (fun (x : TimeExch) => x != e) } }

theorem State.endExchange_parts (s : State) (e : TimeExch) : OnlyParts [.time] s (s.endExchange e) :=
  (Evolves.set_time _ (by simp) (.refl _ s)).parts

theorem State.endExchange_mem (s : State) (e : TimeExch) : e ∉ (s.endExchange e).time.exch := fun h => by
  simpa using (List.mem_filter.mp h).2

/-- R250, R394: the sample of an exchange, taken in the present cycle. -/
def State.chainSample (s : State) (x : Int) : State := ({ s.drawn with time := { s.time with chainAt := some s.cycles } } : State).servoSample (-x)

/-- R249: the delay that an exchange measures. -/
def TimeExch.delay (e : TimeExch) (t1 t4 : Int) (bit : Nat) : Int := half ((t4 - t1) - (e.t3 - e.t2)) bit

/-- R250: the delay and the offset of a port as its registers tell them. -/
def State.noteDelay (s : State) (p : Nat) (d : Int) : State :=
  (s.setFld (F.MLK_PORT_DELAY_DELAY_PS p) (psField d s.openBit)).setFld (F.MLK_PORT_OFFSET_OFFSET_PS p)
    (psField (-(medianOf s.time.samples s.openBit)) s.openBit)

theorem State.noteDelay_spec (s : State) (p : Nat) (d : Int) :
    (s.noteDelay p d).fld (F.MLK_PORT_DELAY_DELAY_PS p) = psField d s.openBit ∧ OnlyParts [.regs] s (s.noteDelay p d) := by
  refine ⟨?_, (State.setFld_evolves _ _ _ (by simp) (State.setFld_evolves s _ _ (by simp) (.refl _ s))).parts⟩
  rw [State.noteDelay, State.fld_setFld_apart _ _ _ _ rfl rfl (Fld.apart_of_addr (by dsimp only; omega)), State.fld_setFld_same _ _ _ rfl]
  exact Nat.mod_eq_of_lt (psField_lt d _)

theorem State.timeInfo_locked {s : State} {p q : Nat} {e : TimeExch} (t1 t4 : Int)
    (h : s.time.exch.find? (fun x => x.port == p && x.tseq == q) = some e) :
    s.timeInfo p q t1 t4 true = ((s.endExchange e).chainSample ((e.t2 - t1) - e.delay t1 t4 (s.endExchange e).openBit)).noteDelay p
      (e.delay t1 t4 (s.endExchange e).openBit) := by
  rw [State.timeInfo, h]
  rfl

theorem State.chainSample_spec {s : State} (x : Int) (h : s.timeMode = .locked ∨ s.timeMode = .acquire) :
    (s.chainSample x).time.samples = (-x :: s.time.samples).take 8 ∧ (s.chainSample x).time.chainAt = some s.cycles ∧
      OnlyParts [.regs, .fresh, .time] s (s.chainSample x) := by
  have hfirst : OnlyParts [.fresh, .time] s { s.drawn with time := { s.time with chainAt := some s.cycles } } :=
    (Evolves.set_time _ (by simp) (State.drawn_evolves s (by simp) (.refl _ s))).parts
  have htime : ({ s.drawn with time := { s.time with chainAt := some s.cycles } } : State).time = { s.time with chainAt := some s.cycles } := rfl
  unfold State.chainSample
  generalize ({ s.drawn with time := { s.time with chainAt := some s.cycles } } : State) = u at hfirst htime
  have hmode : u.timeMode = s.timeMode := by
    rw [State.timeMode, State.timeMode, State.fld_congr (hfirst .regs (by simp))]
  obtain ⟨hsamples, hchain, hparts⟩ := State.servoSample_spec (s := u) (-x) (by rw [hmode]; exact h)
  exact ⟨by rw [hsamples, htime], by rw [hchain, htime], (hfirst.mono (by simp)).trans hparts⟩

theorem State.timeInfo_unlocked {s : State} {p q : Nat} {e : TimeExch} (t1 t4 : Int)
    (h : s.time.exch.find? (fun x => x.port == p && x.tseq == q) = some e) : s.timeInfo p q t1 t4 false = s.endExchange e := by
  rw [State.timeInfo, h]
  rfl

theorem State.timeInfo_unknown {s : State} {p q : Nat} (t1 t4 : Int) (locked : Bool)
    (h : s.time.exch.find? (fun x => x.port == p && x.tseq == q) = none) : s.timeInfo p q t1 t4 locked = s := by
  rw [State.timeInfo, h]

/-- R249, R250: TIME_INFO at the slave of a segment. -/
theorem exec_timeInfo_spec {s : State} {m : MsgHdr} (hp : s.portList.contains m.port = true) (hu : s.portUp m.port = true)
    (hc : m.checkOk = true) (hr : s.tileRole = true) (hm : s.timeMaster m.port = false) (q t1 t4 : Nat) (locked : Bool) :
    (s.time.exch.find? (fun x => x.port == m.port && x.tseq == q) = none → ∃ t, exec (.timeInfo m q t1 t4 locked) s = .next t ∧
      OnlyParts [.link] s t) ∧
    (∀ e, s.time.exch.find? (fun x => x.port == m.port && x.tseq == q) = some e → ∃ t, exec (.timeInfo m q t1 t4 locked) s = .next t ∧
      (locked = false → OnlyParts [.link, .time] s t ∧ e ∉ t.time.exch) ∧
      (locked = true → s.timeMode = .locked ∨ s.timeMode = .acquire → ∃ (d : Int) (b : Nat), b < 2 ∧
        (2 * d - (((t4 : Int) - (t1 : Int)) - (e.t3 - e.t2))).natAbs ≤ 1 ∧ t.fld (F.MLK_PORT_DELAY_DELAY_PS m.port) = psField d b ∧
        t.time.samples = (-((e.t2 - (t1 : Int)) - d) :: s.time.samples).take 8 ∧ t.time.chainAt = some s.cycles ∧
        OnlyParts [.regs, .fresh, .link, .time] s t)) := by
  have hseen := s.blockSeen_parts m.port
  have hexec : exec (.timeInfo m q t1 t4 locked) s = .next ((s.blockSeen m.port).timeInfo m.port q (t1 : Int) (t4 : Int) locked) := by
    show execTimeInfo m q t1 t4 locked s = _
    rw [execTimeInfo, if_pos ⟨hp, hu⟩, if_pos hc]
    dsimp only
    rw [if_pos ⟨(State.tileRole_congr (s.blockSeen_regs _)).trans hr, (State.timeMaster_congr (s.blockSeen_regs _) _).trans hm⟩]
  generalize s.blockSeen m.port = u at hseen hexec
  have htime := hseen .time (by simp)
  have hmode : u.timeMode = s.timeMode := by
    rw [State.timeMode, State.timeMode, State.fld_congr (hseen .regs (by simp))]
  refine ⟨fun h => ⟨_, hexec, ?unknown⟩, fun e h => ⟨_, hexec, ?idle, ?sampled⟩⟩
  case unknown =>
    rw [State.timeInfo_unknown _ _ _ (by rw [htime]; exact h)]
    exact hseen
  case idle =>
    rintro rfl
    rw [State.timeInfo_unlocked _ _ (by rw [htime]; exact h)]
    exact ⟨(hseen.mono (by simp)).trans ((u.endExchange_parts e).mono (by simp)), u.endExchange_mem e⟩
  case sampled =>
    rintro rfl hfollows
    rw [State.timeInfo_locked _ _ (by rw [htime]; exact h)]
    have hend := u.endExchange_parts e
    have hsamples : (u.endExchange e).time.samples = u.time.samples := rfl
    have hbit := (u.endExchange e).openBit_lt
    generalize u.endExchange e = v at hend hsamples hbit
    have hmode' : v.timeMode = s.timeMode := by
      rw [← hmode, State.timeMode, State.timeMode, State.fld_congr (hend .regs (by simp))]
    obtain ⟨hs, hchain, hparts⟩ := State.chainSample_spec (s := v) ((e.t2 - (t1 : Int)) - e.delay t1 t4 v.openBit) (by rw [hmode']; exact hfollows)
    generalize v.chainSample ((e.t2 - (t1 : Int)) - e.delay t1 t4 v.openBit) = w at hs hchain hparts
    obtain ⟨hdelay, hnote⟩ := w.noteDelay_spec m.port (e.delay t1 t4 v.openBit)
    refine ⟨e.delay t1 t4 v.openBit, w.openBit, w.openBit_lt, half_near _ hbit, hdelay, ?_, ?_, ?_⟩
    · rw [hnote .time (by simp), hs, hsamples, htime]
    · rw [hnote .time (by simp), hchain, hend .cycles (by simp), hseen .cycles (by simp)]
    · exact (hseen.mono (by simp)).trans ((hend.mono (by simp)).trans ((hparts.mono (by simp)).trans (hnote.mono (by simp))))

end Sys2Proof.Machine
end

section
/-! SUPPORT. Faults on the link and units that end early (R246, R255, R258, R260). -/

namespace Sys2Proof.Machine

/-! FAULT at a sender (R246) -/

/-- A fault that the sender has not is kept and entered in the replication log, and its acknowledgement waits for a standby. -/
theorem State.faultMsg_new {s : State} (hmode : s.mode = .sender) {p : Nat} {f : FaultRec}
    (h : s.faults.recs.any (fun g => g.addr == f.addr && g.record == f.record) = false) :
    s.faultMsg p f = (s.logFault f).completeAfter (.fault f) (.faultAck p f.addr f.record) := by
  rw [State.faultMsg, if_pos (by simp [hmode]), if_neg (by simp [h])]

/-- R246: a fault that the sender has is acknowledged once more. -/
theorem State.faultMsg_known {s : State} (hmode : s.mode = .sender) {p : Nat} {f : FaultRec}
    (h : s.faults.recs.any (fun g => g.addr == f.addr && g.record == f.record) = true) :
    s.faultMsg p f = s.sendMsg p f.addr (.faultAck f.record) [] := by
  rw [State.faultMsg, if_pos (by simp [hmode]), if_pos h]

theorem State.append_grows (s : State) (i : ReplItem) : Grows s (s.append i) :=
  .of_evolves (State.append_evolves s i (List.Subset.refl _) (.refl _ s)) (State.tileRole_congr (s.append_regs i)) (by simp)

/-- With no standby the acknowledgement is sent at once; with one it waits for the replication log. -/
theorem State.completeAfter_faultAck (s : State) (i : ReplItem) (p a n : Nat) :
    let t := s.completeAfter i (.faultAck p a n)
    (s.hasStandby = false → Posts s t p a (.faultAck n)) ∧
      (s.hasStandby = true → ∃ pos, ⟨pos, s.cycles, .faultAck p a n⟩ ∈ t.repl.waiting) ∧ OnlyParts [.sent, .link, .repl, .red] s t := by
  have hkeeps := s.append_keeps i
  have hgrows := s.append_grows i
  have hstandby := s.append_hasStandby i
  dsimp only
  unfold State.completeAfter
  generalize s.append i = u at hkeeps hgrows hstandby
  dsimp only
  rw [hstandby]
  cases hb : s.hasStandby
  · rw [if_neg (by simp)]
    exact ⟨fun _ => (u.sendMsg_posts p a _ []).after hgrows, by simp, (hkeeps.mono (by simp)).trans ((u.sendMsg_parts p a _ []).mono (by simp))⟩
  · rw [if_pos rfl]
    refine ⟨by simp, fun _ => ⟨u.repl.pos, ?_⟩, (hkeeps.mono (by simp)).trans
      (State.await_evolves u _ (ps₀ := [.sent, .link, .repl, .red]) (by simp) (.refl _ u)).parts⟩
    rw [← hkeeps .cycles (by simp)]
    exact List.mem_append_right _ (List.mem_singleton_self _)

/-- R246: FAULT at the sender in charge. -/
theorem exec_faultMsg_spec {s : State} {m : MsgHdr} {f : FaultRec} (hmode : s.mode = .sender) (hrole : s.senderRole = true) (hh : s.hears m) :
    ∃ t, exec (.faultMsg m f) s = .next t ∧
      (s.faults.recs.any (fun g => g.addr == f.addr && g.record == f.record) = true →
        Posts s t m.port f.addr (.faultAck f.record) ∧ OnlyParts [.sent, .link] s t) ∧
      (s.faults.recs.any (fun g => g.addr == f.addr && g.record == f.record) = false →
        t.faults = { s.faults with recs := s.faults.recs ++ [f], total := s.faults.total + 1 } ∧
        (s.hasStandby = false → Posts s t m.port f.addr (.faultAck f.record)) ∧
        (s.hasStandby = true → ∃ pos, ⟨pos, s.cycles, .faultAck m.port f.addr f.record⟩ ∈ t.repl.waiting) ∧
        OnlyParts [.sent, .link, .faults, .repl, .red] s t) := by
  have hexec : exec (.faultMsg m f) s = .next (((s.heard m (.fault f)).faultMsg m.port f).ackMsg m .ok) := by
    show execFaultMsg m f s = _
    rw [execFaultMsg, State.receiveOk_hears _ _ _ hh, if_pos (by rw [State.heard_senderRole]; exact hrole)]
  have hheard := s.heard_parts m (.fault f)
  have hgrows := Grows.heard s m (.fault f)
  generalize s.heard m (.fault f) = u at hexec hheard hgrows
  have hregs := hheard .regs (by simp)
  have hfaults := hheard .faults (by simp)
  have hmode' : u.mode = .sender := (State.mode_of_regs hregs).trans hmode
  refine ⟨_, hexec, fun h => ?known, fun h => ?new⟩
  case known =>
    rw [State.faultMsg_known hmode' (by rw [hfaults]; exact h)]
    exact ⟨((u.sendMsg_posts _ _ _ _).before (.ackMsg _ m .ok)).after hgrows,
      hheard.trans ((u.sendMsg_parts _ _ _ _).trans (State.ackMsg_parts _ m .ok))⟩
  case new =>
    rw [State.faultMsg_new hmode' (by rw [hfaults]; exact h)]
    have hlogged : OnlyParts [.faults] u (u.logFault f) := (State.logFault_evolves u f (List.Subset.refl _) (.refl _ u)).parts
    have hrecs : (u.logFault f).faults = { s.faults with recs := s.faults.recs ++ [f], total := s.faults.total + 1 } := by
      rw [← hfaults]; rfl
    have hlog : Grows u (u.logFault f) := .of_parts hlogged rfl List.prefix_rfl (by simp)
    generalize u.logFault f = v at hlogged hrecs hlog
    obtain ⟨hnow, hwait, hparts⟩ := v.completeAfter_faultAck (.fault f) m.port f.addr f.record
    have hstandby : v.hasStandby = s.hasStandby := State.hasStandby_congr ((hlogged .regs (by simp)).trans hregs)
    generalize v.completeAfter (.fault f) (.faultAck m.port f.addr f.record) = w at hnow hwait hparts
    rw [hstandby] at hnow hwait
    have hack := w.ackMsg_parts m .ok
    refine ⟨?_, fun hb => ((hnow hb).before (.ackMsg _ m .ok)).after (hgrows.trans hlog), fun hb => ?_,
      (hheard.mono (by simp)).trans ((hlogged.mono (by simp)).trans ((hparts.mono (by simp)).trans (hack.mono (by simp))))⟩
    · rw [hack .faults (by simp), hparts .faults (by simp), hrecs]
    · obtain ⟨pos, hpos⟩ := hwait hb
      rw [hlogged .cycles (by simp), hheard .cycles (by simp)] at hpos
      exact ⟨pos, by rw [hack .repl (by simp)]; exact hpos⟩

/-! FAULT_ACK and the resend at a tile (R246) -/

/-- A fault that is acknowledged is owed no more. -/
def State.settleFault (s : State) (r : Nat) : State :=
  { s with faults := { s.faults with unacked := s.faults.unacked.filter (· != r) } }

theorem State.settleFault_parts (s : State) (r : Nat) : OnlyParts [.faults] s (s.settleFault r) :=
  (Evolves.set_faults (ps := [.faults]) _ (List.mem_singleton_self _) (.refl _ s)).parts

theorem exec_faultAck_spec {s : State} {m : MsgHdr} {r : Nat} (hr : s.tileRole = true) (hh : s.hears m) :
    ∃ t, exec (.faultAck m r) s = .next t ∧ r ∉ t.faults.unacked ∧
      (∀ x ∈ s.faults.unacked, x ≠ r → x ∈ t.faults.unacked) ∧ t.faults.recs = s.faults.recs ∧ OnlyParts [.sent, .link, .faults] s t := by
  have hexec : exec (.faultAck m r) s = .next (((s.heard m (.faultAck r)).settleFault r).ackMsg m .ok) := by
    show execFaultAck m r s = _
    rw [execFaultAck, State.receiveOk_hears _ _ _ hh, if_pos (by rw [State.heard_tileRole]; exact hr)]
    rfl
  have hheard := s.heard_parts m (.faultAck r)
  generalize s.heard m (.faultAck r) = u at hexec hheard
  have hsettled : (u.settleFault r).faults = { s.faults with unacked := s.faults.unacked.filter (· != r) } := by
    rw [← hheard .faults (by simp)]; rfl
  have hset := u.settleFault_parts r
  generalize u.settleFault r = v at hexec hsettled hset
  have hack := v.ackMsg_parts m .ok
  refine ⟨_, hexec, ?_, ?_, ?_, (hheard.mono (by simp)).trans ((hset.mono (by simp)).trans (hack.mono (by simp)))⟩
  all_goals rw [hack .faults (by simp), hsettled]
  · simp
  · exact fun x hx hne => List.mem_filter.mpr ⟨hx, by simpa using hne⟩

/-- A tile's message to both senders' ports waits among its own units. -/
theorem State.sendBoth_tile {s : State} (h : s.tileRole = true) (b : LinkMsg) :
    s.sendBoth b = { s with link := { s.link with own := s.link.own ++ [⟨0, 0x8003, b, []⟩, ⟨1, 0x8003, b, []⟩] } } := by
  have hfirst := State.sendMsg_tile h 0 0x8003 b []
  rw [State.sendBoth, State.sendMsg_tile ((State.tileRole_congr (s.sendMsg_parts 0 0x8003 b [] .regs (by simp))).trans h), hfirst]
  simp

theorem exec_faultResend_spec {s : State} {r : Nat} {f : FaultRec} (hr : s.tileRole = true) (hu : s.faults.unacked.contains r = true)
    (hf : s.faults.recs.find? (fun f => f.addr == s.ownAddr && f.record == r) = some f) :
    ∃ t, exec (.faultResend r) s = .next t ∧
      t.link.own = s.link.own ++ [⟨0, 0x8003, .fault f, []⟩, ⟨1, 0x8003, .fault f, []⟩] ∧ OnlyParts [.link] s t := by
  have hexec : exec (.faultResend r) s = .next (s.sendBoth (.fault f)) := by
    show execFaultResend r s = _
    rw [execFaultResend, if_pos ⟨hr, hu⟩, hf]
  rw [State.sendBoth_tile hr] at hexec
  exact ⟨_, hexec, rfl, (Evolves.set_link (ps := [.link]) _ (List.mem_singleton_self _) (.refl _ s)).parts⟩

/-! A tile's own units (R258) -/

/-- A message put on a segment: its number, and what it owes. -/
theorem State.emitMsg_spec (s : State) (p dst : Nat) (m : LinkMsg) (tiles : List Nat) :
    let t := s.emitMsg p dst m tiles
    t.sent = s.sent ++ [.link p (.msg dst (asksAck m) false m)] ∧ (t.port p).nextSeq = nextMsgSeq (s.port p).nextSeq ∧
      t.link.own = s.link.own ∧
      t.link.unacked = s.link.unacked ++ (if asksAck m = true then [⟨p, (s.port p).nextSeq, dst, m, tiles, s.cycles, 0⟩] else []) ∧
      OnlyParts [.sent, .link] s t := by
  have hparts : OnlyParts [.sent, .link] s (s.emitMsg p dst m tiles) :=
    (State.emitMsg_evolves s p dst m tiles (List.Subset.refl _) (.refl _ s)).parts
  refine ⟨?_, ?_, ?_, ?_, hparts⟩ <;> unfold State.emitMsg <;> cases asksAck m
  · rfl
  · rfl
  · exact congrArg PortState.nextSeq (s.port_setPort_same p _)
  · exact congrArg PortState.nextSeq (s.port_setPort_same p _)
  · rfl
  · rfl
  · exact (List.append_nil _).symm
  · rfl

/-- A unit that a tile has put on a segment waits no more. -/
def State.takeOwn (s : State) (u : OwnUnit) : State := { s with link := { s.link with own := s.link.own.erase u } }

theorem exec_ownUnitSend_spec {s : State} {p : Nat} {u : OwnUnit} (hup : s.portUp p = true)
    (hf : s.link.own.find? (fun v => v.port == p) = some u) :
    ∃ t, exec (.ownUnitSend p) s = .next t ∧
      t.link.own = s.link.own.erase u ∧ t.sent = s.sent ++ [.link p (.msg u.dst (asksAck u.msg) false u.msg)] ∧
      (t.port p).nextSeq = nextMsgSeq (s.port p).nextSeq ∧
      t.link.unacked = s.link.unacked ++ (if asksAck u.msg = true then [⟨p, (s.port p).nextSeq, u.dst, u.msg, u.tiles, s.cycles, 0⟩] else []) ∧
      OnlyParts [.sent, .link] s t := by
  have hport : u.port = p := by simpa using List.find?_some hf
  have hexec : exec (.ownUnitSend p) s = .next ((s.takeOwn u).emitMsg p u.dst u.msg u.tiles) := by
    show execOwnUnitSend p s = _
    rw [execOwnUnitSend, hf]
    dsimp only
    rw [if_pos hup, hport]
    rfl
  obtain ⟨hsent, hseq, hown, hunacked, hparts⟩ := (s.takeOwn u).emitMsg_spec p u.dst u.msg u.tiles
  exact ⟨_, hexec, hown, hsent, hseq, hunacked,
    ((Evolves.set_link (ps := [.link]) _ (List.mem_singleton_self _) (.refl _ s)).parts.mono (by simp)).trans hparts⟩

/-! ABORT and block errors (R260) -/

/-- What a tile sends on when a unit that it was relaying ends early. -/
def State.abortOut (s : State) (p : Nat) (relayed : Bool) : List Output :=
  if relayed = true ∧ s.tileRole = true ∧ s.portUp (otherPort p) = true then [.relay (otherPort p) .abort] else []

/-- A relayed unit ends in ABORT, which is all that this sends. -/
theorem State.endRelay_spec (s : State) (p : Nat) (relayed : Bool) :
    let t := if relayed = true then s.relayAbort p else s
    t.sent = s.sent ++ s.abortOut p relayed ∧ t.regs = s.regs ∧ OnlyParts [.sent] s t := by
  have hparts : OnlyParts [.sent] s (if relayed = true then s.relayAbort p else s) :=
    (Evolves.ite (State.relayAbort_evolves s p (List.Subset.refl _) (.refl _ s)) (.refl _ s)).parts
  refine ⟨?_, hparts .regs (by simp), hparts⟩
  unfold State.abortOut State.relayAbort
  cases relayed <;> cases s.tileRole <;> cases s.portUp (otherPort p) <;> simp [State.send]

section
variable (s : State) (p : Nat) (relayed : Bool) {ev cnt : Fld}

/-- An end of a unit that is counted under an event, and the ABORT that follows on the other port. -/
def State.abortCounted (ev cnt : Fld) : State :=
  if relayed = true then (s.eventCount ev cnt).relayAbort p else s.eventCount ev cnt

theorem State.abortCounted_spec (hev : ev.ok = true) (hcnt : cnt.ok = true) (hap : ev.apart cnt = true) (hpa : cnt.apart ev = true)
    (hwidth : cnt.width = 16) (hrole : ∀ f ∈ [ev, cnt], f.apart F.SYS_STRAP_ROLE = true)
    (hstate : ∀ f ∈ [ev, cnt], f.apart (F.MLK_PORT_STAT_STATE (otherPort p)) = true) :
    let t := s.abortCounted p relayed ev cnt
    t.flag ev = true ∧ t.fld cnt = min (s.fld cnt + 1) 65535 ∧ t.sent = s.sent ++ s.abortOut p relayed ∧ OnlyParts [.regs, .sent] s t ∧
      OnlyFlds [ev, cnt] s t := by
  have hflds : OnlyFlds [ev, cnt] s (s.eventCount ev cnt) := (OnlyFlds.refl _ s).eventCount ev cnt hev hcnt (by simp) (by simp)
  have hparts : OnlyParts [.regs] s (s.eventCount ev cnt) := (State.eventCount_evolves s ev cnt (List.Subset.refl _) (.refl _ s)).parts
  have hflag : (s.eventCount ev cnt).flag ev = true := State.flag_of_fld (b := true) (s.fld_eventCount_event ev cnt hev hcnt hpa)
  have hcount : (s.eventCount ev cnt).fld cnt = min (s.fld cnt + 1) 65535 := by
    rw [s.fld_eventCount_count ev cnt hev hcnt hap, hwidth]; rfl
  unfold State.abortCounted
  generalize s.eventCount ev cnt = u at hflds hparts hflag hcount
  obtain ⟨hsent, hregs, hsends⟩ := u.endRelay_spec p relayed
  refine ⟨(State.flag_congr hregs _).trans hflag, (State.fld_congr hregs _).trans hcount, ?_,
    (hparts.mono (by simp)).trans (hsends.mono (by simp)), hflds.trans (.of_regs hregs)⟩
  rw [hsent, hparts .sent (by simp), State.abortOut, hflds.tileRole hrole, hflds.portUp hstate]
  rfl

end

section
variable {s : State} {p : Nat} (relayed : Bool)

theorem exec_abortBlock_spec (hp : s.portList.contains p = true) :
    ∃ t, exec (.abortBlock p relayed) s = .next t ∧ t.flag F.MLK_EVT_ABORT_RX = true ∧
      t.fld (F.MLK_PORT_BLK_CNT_ABORT_COUNT p) = min (s.fld (F.MLK_PORT_BLK_CNT_ABORT_COUNT p) + 1) 65535 ∧
      t.sent = s.sent ++ s.abortOut p relayed ∧ OnlyParts [.regs, .sent, .link] s t ∧
      OnlyFlds [F.MLK_EVT_ABORT_RX, F.MLK_PORT_BLK_CNT_ABORT_COUNT p] s t := by
  have hlt := State.lt_of_portList hp
  have hexec : exec (.abortBlock p relayed) s =
      .next ((s.blockSeen p).abortCounted p relayed F.MLK_EVT_ABORT_RX (F.MLK_PORT_BLK_CNT_ABORT_COUNT p)) := by
    show execAbortBlock p relayed s = _
    rw [execAbortBlock, if_pos hp]
    rfl
  obtain ⟨hflag, hcount, hsent, hparts, hflds⟩ := (s.blockSeen p).abortCounted_spec p relayed (ev := F.MLK_EVT_ABORT_RX)
    (cnt := F.MLK_PORT_BLK_CNT_ABORT_COUNT p) rfl rfl (by simp [Fld.apart]; omega) (by simp [Fld.apart]; omega) rfl
    (by simp [Fld.apart]; omega) (by simp [Fld.apart]; omega)
  exact ⟨_, hexec, hflag, hcount, hsent, ((s.blockSeen_parts p).mono (by simp)).trans (hparts.mono (by simp)), (OnlyFlds.of_regs rfl).trans hflds⟩

theorem exec_blockError_spec (hp : s.portList.contains p = true) :
    ∃ t, exec (.blockError p relayed) s = .next t ∧ t.flag F.MLK_EVT_BLK_ERR = true ∧
      t.fld (F.MLK_PORT_BLK_CNT_BLK_ERR_COUNT p) = min (s.fld (F.MLK_PORT_BLK_CNT_BLK_ERR_COUNT p) + 1) 65535 ∧
      t.sent = s.sent ++ s.abortOut p relayed ∧ OnlyParts [.regs, .sent] s t ∧
      OnlyFlds [F.MLK_EVT_BLK_ERR, F.MLK_PORT_BLK_CNT_BLK_ERR_COUNT p] s t := by
  have hlt := State.lt_of_portList hp
  have hexec : exec (.blockError p relayed) s =
      .next (s.abortCounted p relayed F.MLK_EVT_BLK_ERR (F.MLK_PORT_BLK_CNT_BLK_ERR_COUNT p)) := by
    show execBlockError p relayed s = _
    rw [execBlockError, if_pos hp]
    rfl
  exact ⟨_, hexec, s.abortCounted_spec p relayed rfl rfl (by simp [Fld.apart]) (by simp [Fld.apart]) rfl
    (by simp [Fld.apart]) (by simp [Fld.apart]; omega)⟩

end

end Sys2Proof.Machine
end

section
/-! CERTIFICATES. Time and faults on the chain (O48). -/

namespace Sys2Proof.Machine

/-- Settles O48: the request and its two replies from the states of a segment's master and slave, the sample from the exchange kept, and each
fault, acknowledgement, own unit and ABORT from its operation. -/
theorem timeAndFaultsCrossTheLink : Obligations.TimeAndFaultsCrossTheLink := by
  intro s p
  refine ⟨fun hp hu => ⟨exec_timeRequest_asks hp hu, exec_timeRequest_slave, exec_timeBlock_replies hp hu, exec_timeBlock_tells hp hu, ?info⟩,
    fun _ _ hmode hrole _ hh => exec_faultMsg_spec hmode hrole hh, fun _ _ hr hh => exec_faultAck_spec hr hh,
    fun _ _ hr hu hf => exec_faultResend_spec hr hu hf, fun _ hup hf => exec_ownUnitSend_spec hup hf,
    fun hp relayed => ⟨exec_abortBlock_spec relayed hp, exec_blockError_spec relayed hp⟩⟩
  case info =>
    rintro m q t1 t4 locked rfl hc hr hm
    exact exec_timeInfo_spec hp hu hc hr hm q t1 t4 locked

end Sys2Proof.Machine
end

section
/-! SUPPORT. Lanes that are lost and lanes that train (R233, R280 to R283, R300). -/

namespace Sys2Proof.Machine

theorem State.setFlag_parts (s : State) (f : Fld) (b : Bool) : OnlyParts [.regs] s (s.setFlag f b) :=
  (State.setFlag_evolves s f b (List.Subset.refl _) (.refl _ s)).parts

theorem State.event_parts (s : State) (f : Fld) : OnlyParts [.regs] s (s.event f) :=
  (State.event_evolves s f (List.Subset.refl _) (.refl _ s)).parts

/-! What a loss notes before the lane moves (R282, R300) -/

/-- R282: the causes of a loss, and the locks that it leaves. -/
def State.noteLoss (s : State) (n : Nat) (hiBer skewed : Bool) : State :=
  let s1 := if hiBer then s.event (F.SER_LANE_EVT_HI_BER n) else s
  let s2 := if skewed then (s1.event (F.SER_LANE_EVT_DESKEW_ERR n)).event F.SER_EVT_DESKEW_ERR else s1
  (s2.setFlag (F.SER_LANE_STAT_CDR_LOCK n) (hiBer || skewed)).setFlag (F.SER_LANE_STAT_BLOCK_LOCK n) skewed

/-- The fields that the causes of a loss change. -/
def lossFlds (n : Nat) : List Fld :=
  [F.SER_LANE_EVT_HI_BER n, F.SER_LANE_EVT_DESKEW_ERR n, F.SER_EVT_DESKEW_ERR, F.SER_LANE_STAT_CDR_LOCK n, F.SER_LANE_STAT_BLOCK_LOCK n]

theorem State.noteLoss_flds (s : State) (n : Nat) (hiBer skewed : Bool) : OnlyFlds (lossFlds n) s (s.noteLoss n hiBer skewed) := by
  unfold State.noteLoss
  refine OnlyFlds.setFlag _ _ rfl (by simp [lossFlds]) (OnlyFlds.setFlag _ _ rfl (by simp [lossFlds]) ?_)
  have hber : OnlyFlds (lossFlds n) s (if hiBer = true then s.event (F.SER_LANE_EVT_HI_BER n) else s) := by
    split
    · exact (OnlyFlds.refl _ s).event _ rfl (by simp [lossFlds])
    · exact .refl _ s
  split
  · exact (hber.event _ rfl (by simp [lossFlds])).event _ rfl (by simp [lossFlds])
  · exact hber

theorem State.noteLoss_parts (s : State) (n : Nat) (hiBer skewed : Bool) : OnlyParts [.regs] s (s.noteLoss n hiBer skewed) := by
  unfold State.noteLoss
  refine OnlyParts.trans (OnlyParts.trans ?_ (State.setFlag_parts _ _ _)) (State.setFlag_parts _ _ _)
  cases hiBer <;> cases skewed
  · exact .refl _ s
  · exact (s.event_parts _).trans (State.event_parts _ _)
  · exact s.event_parts _
  · exact (s.event_parts _).trans ((State.event_parts _ _).trans (State.event_parts _ _))

/-- R282: a loss by sync headers or BIP says so. -/
theorem State.noteLoss_hiBer (s : State) (n : Nat) (skewed : Bool) : (s.noteLoss n true skewed).flag (F.SER_LANE_EVT_HI_BER n) = true := by
  have hflds : OnlyFlds [F.SER_LANE_EVT_DESKEW_ERR n, F.SER_EVT_DESKEW_ERR, F.SER_LANE_STAT_CDR_LOCK n, F.SER_LANE_STAT_BLOCK_LOCK n]
      (s.event (F.SER_LANE_EVT_HI_BER n)) (s.noteLoss n true skewed) := by
    unfold State.noteLoss
    refine OnlyFlds.setFlag _ _ rfl (by simp) (OnlyFlds.setFlag _ _ rfl (by simp) ?_)
    rw [if_pos rfl]
    cases skewed
    · exact .refl _ _
    · exact ((OnlyFlds.refl _ _).event _ rfl (by simp)).event _ rfl (by simp)
  rw [hflds.flag rfl (by simp [Fld.apart])]
  exact State.flag_event _ _ rfl

/-! A lane that moves (R280, R282) -/

/-- R282: a lane of the set is LOST. -/
theorem State.loseLane_inSet {s : State} {n : Nat} (h : s.laneMode n = 3) :
    let t := s.loseLane n
    t.laneMode n = 4 ∧ t.flag (F.SER_LANE_EVT_LOST n) = true ∧ t.flag F.SER_EVT_LANE_LOST = true ∧ OnlyParts [.regs, .lanes] s t ∧
      OnlyFlds [F.SER_LANE_STAT_STATE n, F.SER_LANE_EVT_LOST n, F.SER_EVT_LANE_LOST] s t := by
  have hparts : OnlyParts [.regs, .lanes] s (s.loseLane n) := (State.loseLane_evolves s n (List.Subset.refl _) (.refl _ s)).parts
  have hregs : (s.loseLane n).regs =
      (((s.setFld (F.SER_LANE_STAT_STATE n) 4).event (F.SER_LANE_EVT_LOST n)).event F.SER_EVT_LANE_LOST).regs := by
    rw [State.loseLane, h]
    rfl
  refine ⟨?_, ?_, ?_, hparts, ?_⟩
  · rw [State.laneMode, State.fld_congr hregs, State.fld_event_apart _ _ _ rfl rfl (by simp [Fld.apart]),
      State.fld_event_apart _ _ _ rfl rfl (by simp [Fld.apart]), s.fld_setFld_same _ _ rfl]
    rfl
  · rw [State.flag_congr hregs, State.flag, State.fld_event_apart _ _ _ rfl rfl (by simp [Fld.apart]; omega), State.fld_event_same _ _ rfl]
    rfl
  · rw [State.flag_congr hregs]
    exact State.flag_event _ _ rfl
  · exact ((((OnlyFlds.refl _ s).setFld _ 4 rfl (by simp)).event _ rfl (by simp)).event _ rfl (by simp)).trans (.of_regs hregs)

/-- R280: a lane that is in no set trains again. -/
theorem State.loseLane_training {s : State} {n : Nat} (h : s.laneMode n = 1 ∨ s.laneMode n = 2) : s.loseLane n = s.trainLane n := by
  rcases h with h | h <;> rw [State.loseLane, h] <;> rfl

/-- R282: a lane of a port is lost, and the port's sets have not yet followed. -/
def State.dropLane (s : State) (n : Nat) (hiBer skewed : Bool) : State := (s.noteLoss n hiBer skewed).loseLane n

/-- The fields that the loss of a lane changes. -/
def dropFlds (n : Nat) : List Fld := lossFlds n ++ [F.SER_LANE_STAT_STATE n, F.SER_LANE_EVT_LOST n, F.SER_EVT_LANE_LOST]

theorem State.laneMode_noteLoss (s : State) (n : Nat) (hiBer skewed : Bool) : (s.noteLoss n hiBer skewed).laneMode n = s.laneMode n :=
  s.noteLoss_flds n hiBer skewed _ rfl (by simp [lossFlds, Fld.apart])

theorem State.dropLane_inSet {s : State} {n : Nat} (h : s.laneMode n = 3) (hiBer skewed : Bool) :
    let t := s.dropLane n hiBer skewed
    t.laneMode n = 4 ∧ t.flag (F.SER_LANE_EVT_LOST n) = true ∧ t.flag F.SER_EVT_LANE_LOST = true ∧
      (hiBer = true → t.flag (F.SER_LANE_EVT_HI_BER n) = true) ∧ OnlyParts [.regs, .lanes] s t ∧ OnlyFlds (dropFlds n) s t := by
  obtain ⟨hmode, hlost, hevt, hparts, hflds⟩ := State.loseLane_inSet ((s.laneMode_noteLoss n hiBer skewed).trans h)
  refine ⟨hmode, hlost, hevt, ?_, ((s.noteLoss_parts n hiBer skewed).mono (by simp)).trans hparts,
    ((s.noteLoss_flds n hiBer skewed).mono (by simp [dropFlds])).trans (hflds.mono (by simp [dropFlds]))⟩
  rintro rfl
  exact (hflds.flag rfl (by simp [Fld.apart])).trans (s.noteLoss_hiBer n skewed)

/-! The loss of a lane of a port (R282, R283) -/

section
variable {s : State} {n p : Nat} (hiBer skewed relayed : Bool)

theorem State.laneOfPort_some (h : s.laneOfPort n = some p) : p = n / 4 ∧ n < 32 ∧ s.hasLane n = true := by
  unfold State.laneOfPort at h
  by_cases hn : n < (if s.tileRole = true then 8 else 32)
  · rw [if_pos hn] at h
    refine ⟨(Option.some.inj h).symm, ?_, ?_⟩ <;> cases hr : s.tileRole <;> simp [State.hasLane, hr] at hn ⊢ <;> omega
  · rw [if_neg hn] at h
    exact absurd h (by simp)

/-- A lane of the set that is lost ends the unit in progress. -/
def State.dropRelay (s : State) (n p : Nat) (hiBer skewed relayed : Bool) : State :=
  if relayed = true then (s.dropLane n hiBer skewed).relayAbort p else s.dropLane n hiBer skewed

theorem State.dropRelay_spec (h : s.laneMode n = 3) :
    let t := s.dropRelay n p hiBer skewed relayed
    t.laneMode n = 4 ∧ t.flag (F.SER_LANE_EVT_LOST n) = true ∧ t.flag F.SER_EVT_LANE_LOST = true ∧
      (hiBer = true → t.flag (F.SER_LANE_EVT_HI_BER n) = true) ∧ t.sent = s.sent ++ s.abortOut p relayed ∧
      OnlyParts [.regs, .sent, .lanes] s t ∧ OnlyFlds (dropFlds n) s t := by
  obtain ⟨hmode, hlost, hevt, hber, hparts, hflds⟩ := State.dropLane_inSet h hiBer skewed
  unfold State.dropRelay
  generalize s.dropLane n hiBer skewed = u at hmode hlost hevt hber hparts hflds
  obtain ⟨hsent, hregs, hsends⟩ := u.endRelay_spec p relayed
  have hother : otherPort p ≤ 1 := Nat.sub_le 1 p
  have hrole : u.tileRole = s.tileRole := hflds.tileRole (by simp [dropFlds, lossFlds, Fld.apart]; omega)
  have hup : u.portUp (otherPort p) = s.portUp (otherPort p) := hflds.portUp (by simp [dropFlds, lossFlds, Fld.apart]; omega)
  refine ⟨(State.fld_congr hregs _).trans hmode, (State.flag_congr hregs _).trans hlost, (State.flag_congr hregs _).trans hevt,
    fun hb => (State.flag_congr hregs _).trans (hber hb), ?_, (hparts.mono (by simp)).trans (hsends.mono (by simp)),
    hflds.trans (.of_regs hregs)⟩
  rw [hsent, hparts .sent (by simp), State.abortOut, hrole, hup]
  rfl

theorem State.laneLost_inSet (hp : s.laneOfPort n = some p) (h : s.laneMode n = 3) :
    let t := s.dropRelay n p hiBer skewed relayed
    s.laneLost n hiBer skewed relayed =
      if (List.range 4).all (fun l => t.laneMode (4 * p + l) != 3) = true then (t.setLaneSet p (F.SER_PORT_STAT_RX_SET p) 0).checkTrained p
      else t := by
  dsimp only
  rw [State.laneLost, hp]
  dsimp only
  rw [if_pos h]
  rfl

theorem State.laneLost_training (hp : s.laneOfPort n = some p) (h : s.laneMode n = 1 ∨ s.laneMode n = 2) :
    s.laneLost n hiBer skewed relayed = (s.noteLoss n hiBer skewed).trainLane n := by
  have hnot : ¬ s.laneMode n = 3 := by rcases h with h | h <;> simp [h]
  have hmode := s.laneMode_noteLoss n hiBer skewed
  rw [← State.loseLane_training (by rw [hmode]; exact h), State.laneLost, hp]
  dsimp only
  rw [if_neg hnot]
  rfl

/-- The loss of a lane leaves the state of every other. -/
theorem laneMode_of_drop {t : State} (h : OnlyFlds (dropFlds n) s t) {k : Nat} (hk : k ≠ n) : t.laneMode k = s.laneMode k :=
  h _ rfl (by simp [dropFlds, lossFlds, Fld.apart]; omega)

theorem exec_laneLost_eq (hp : s.laneOfPort n = some p) :
    exec (.laneLost n hiBer skewed relayed) s = .next (s.laneLost n hiBer skewed relayed) := by
  show execLaneLost n hiBer skewed relayed s = _
  rw [execLaneLost, if_pos (State.laneOfPort_some hp).2.2]

theorem exec_laneLost_others (hp : s.laneOfPort n = some p) (h : s.laneMode n = 3)
    (hl : ∃ l, l < 4 ∧ 4 * p + l ≠ n ∧ s.laneMode (4 * p + l) = 3) :
    ∃ t, exec (.laneLost n hiBer skewed relayed) s = .next t ∧ t.laneMode n = 4 ∧ t.flag (F.SER_LANE_EVT_LOST n) = true ∧
      t.flag F.SER_EVT_LANE_LOST = true ∧ (hiBer = true → t.flag (F.SER_LANE_EVT_HI_BER n) = true) ∧
      t.sent = s.sent ++ s.abortOut p relayed ∧ OnlyParts [.regs, .sent, .lanes] s t := by
  obtain ⟨l, hlt, hne, hin⟩ := hl
  obtain ⟨hmode, hlost, hevt, hber, hsent, hparts, hflds⟩ := State.dropRelay_spec (p := p) hiBer skewed relayed h
  have hexec := exec_laneLost_eq hiBer skewed relayed hp
  rw [State.laneLost_inSet hiBer skewed relayed hp h, if_neg] at hexec
  · exact ⟨_, hexec, hmode, hlost, hevt, hber, hsent, hparts⟩
  · intro hall
    have hout := List.all_eq_true.mp hall l (List.mem_range.mpr hlt)
    rw [laneMode_of_drop hflds hne, hin] at hout
    exact absurd hout (by decide)

/-- R283: a port that loses its last lane receives on none, and its segment is DOWN. -/
theorem exec_laneLost_last (hp : s.laneOfPort n = some p) (h : s.laneMode n = 3)
    (hl : ∀ l, l < 4 → 4 * p + l ≠ n → s.laneMode (4 * p + l) ≠ 3) :
    ∃ t, exec (.laneLost n hiBer skewed relayed) s = .next t ∧ t.laneMode n = 4 ∧ t.fld (F.SER_PORT_STAT_RX_SET p) = 0 ∧
      t.fld (F.MLK_PORT_STAT_STATE p) = 0 ∧ OnlyParts [.regs, .sent, .link, .lanes] s t := by
  obtain ⟨hport, hn, -⟩ := State.laneOfPort_some hp
  obtain ⟨hmode, -, -, -, -, hparts, hflds⟩ := State.dropRelay_spec (p := p) hiBer skewed relayed h
  have hexec := exec_laneLost_eq hiBer skewed relayed hp
  rw [State.laneLost_inSet hiBer skewed relayed hp h, if_pos] at hexec
  · generalize s.dropRelay n p hiBer skewed relayed = u at hexec hmode hparts hflds
    have hrx := u.setRxSet_fld (p := p) (v := 0) (by decide)
    have hset := u.setLaneSet_flds p 0 (f := F.SER_PORT_STAT_RX_SET p) rfl
    have hsets := u.setLaneSet_parts p 0 (F.SER_PORT_STAT_RX_SET p)
    generalize u.setLaneSet p (F.SER_PORT_STAT_RX_SET p) 0 = v at hexec hrx hset hsets
    have hcheck := v.checkTrained_flds p
    refine ⟨_, hexec, ?_, ?_, State.checkTrained_down hrx,
      (hparts.mono (by simp)).trans ((hsets.mono (by simp)).trans ((v.checkTrained_parts p).mono (by simp)))⟩
    · rw [State.laneMode, hcheck _ rfl (by simp [Fld.apart]), hset _ rfl (by simp [Fld.apart]; omega)]
      exact hmode
    · rw [hcheck _ rfl (by simp [Fld.apart])]
      exact hrx
  · refine List.all_eq_true.mpr (fun l hmem => ?_)
    have hlt := List.mem_range.mp hmem
    by_cases hne : 4 * p + l = n
    · rw [hne, hmode]
      rfl
    · rw [laneMode_of_drop hflds hne]
      simpa using hl l hlt hne

theorem exec_laneLost_training (hp : s.laneOfPort n = some p) (h : s.laneMode n = 1 ∨ s.laneMode n = 2) :
    ∃ t, exec (.laneLost n hiBer skewed relayed) s = .next t ∧ t.laneMode n = 1 ∧ (n, s.cycles) ∈ t.lanes.since ∧
      OnlyParts [.regs, .lanes] s t := by
  have hexec := exec_laneLost_eq hiBer skewed relayed hp
  rw [State.laneLost_training hiBer skewed relayed hp h] at hexec
  have hnote := s.noteLoss_parts n hiBer skewed
  generalize s.noteLoss n hiBer skewed = u at hexec hnote
  refine ⟨_, hexec, u.trainLane_mode n, ?_, (hnote.mono (by simp)).trans (u.trainLane_parts n)⟩
  rw [← hnote .cycles (by simp)]
  exact u.trainLane_since n

end

/-! A lane that has passed (R280, R300) -/

section
variable {s : State} {n p skew : Nat}

/-- R300: a lane whose skew is out of range says so. -/
theorem exec_laneTrained_skewed (hp : s.laneOfPort n = some p) (h : s.laneMode n = 1) (he : s.flag (F.SER_LANE_CTL_PRBS_EN n) = false)
    (hf : s.flag (F.SER_LANE_CTL_FORCE_OUT n) = false) (hk : 32 < skew) :
    ∃ t, exec (.laneTrained n skew) s = .next t ∧ t.laneMode n = 1 ∧ t.flag (F.SER_LANE_EVT_DESKEW_ERR n) = true ∧
      t.flag F.SER_EVT_DESKEW_ERR = true ∧ OnlyParts [.regs] s t ∧ OnlyFlds [F.SER_LANE_EVT_DESKEW_ERR n, F.SER_EVT_DESKEW_ERR] s t := by
  have hexec : exec (.laneTrained n skew) s = .next ((s.event (F.SER_LANE_EVT_DESKEW_ERR n)).event F.SER_EVT_DESKEW_ERR) := by
    show execLaneTrained n skew s = _
    rw [execLaneTrained, hp]
    dsimp only
    rw [if_pos ⟨h, he, hf⟩, if_pos hk]
  have hflds := ((OnlyFlds.refl [F.SER_LANE_EVT_DESKEW_ERR n, F.SER_EVT_DESKEW_ERR] s).event (F.SER_LANE_EVT_DESKEW_ERR n) rfl
    (by simp)).event F.SER_EVT_DESKEW_ERR rfl (by simp)
  refine ⟨_, hexec, ?_, ?_, State.flag_event _ _ rfl, (State.event_evolves _ _ (List.Subset.refl _) (State.event_evolves s _ (List.Subset.refl _)
    (.refl _ s))).parts, hflds⟩
  · rw [State.laneMode, hflds _ rfl (by simp [Fld.apart])]
    exact h
  · rw [State.flag, State.fld_event_apart _ _ _ rfl rfl (by simp [Fld.apart]; omega), State.fld_event_same _ _ rfl]
    rfl

/-- R280: a lane that has passed is READY, with its locks. -/
def State.readyLane (s : State) (n : Nat) : State :=
  (((s.setFld (F.SER_LANE_STAT_STATE n) 2).setFlag (F.SER_LANE_STAT_CDR_LOCK n) true).setFlag (F.SER_LANE_STAT_BLOCK_LOCK n) true).setFlag
    (F.SER_LANE_STAT_PRBS_LOCK n) true

theorem State.readyLane_spec (s : State) (n : Nat) :
    (s.readyLane n).laneMode n = 2 ∧ (s.readyLane n).flag (F.SER_LANE_STAT_PRBS_LOCK n) = true ∧ OnlyParts [.regs] s (s.readyLane n) ∧
      OnlyFlds [F.SER_LANE_STAT_STATE n, F.SER_LANE_STAT_CDR_LOCK n, F.SER_LANE_STAT_BLOCK_LOCK n, F.SER_LANE_STAT_PRBS_LOCK n] s
        (s.readyLane n) := by
  refine ⟨?_, State.flag_setFlag _ _ _ rfl, (((s.setFld_parts _ 2).trans (State.setFlag_parts _ _ _)).trans
    (State.setFlag_parts _ _ _)).trans (State.setFlag_parts _ _ _), ?_⟩
  · simp [State.readyLane, State.laneMode, State.fld_setFlag_apart, State.fld_setFld_same, Fld.apart, Fld.ok, Fld.width]
  · exact ((((OnlyFlds.refl _ s).setFld _ 2 rfl (by simp)).setFlag _ true rfl (by simp)).setFlag _ true rfl (by simp)).setFlag _ true rfl (by simp)

theorem exec_laneTrained_passes (hp : s.laneOfPort n = some p) (h : s.laneMode n = 1) (he : s.flag (F.SER_LANE_CTL_PRBS_EN n) = false)
    (hf : s.flag (F.SER_LANE_CTL_FORCE_OUT n) = false) {c : Nat} (hk : skew ≤ 32) (hc : s.lanes.since.find? (fun x => x.1 == n) = some (n, c)) :
    ∃ t, exec (.laneTrained n skew) s = .next t ∧ t.laneMode n = 2 ∧
      t.cycles = max s.cycles (c + (if s.portUp p = true then msCycles (10 * s.fld F.SER_CTL_REJOIN_10MS) else msCycles 1)) ∧
      t.flag (F.SER_LANE_STAT_PRBS_LOCK n) = true ∧ OnlyParts [.regs, .cycles, .wall] s t ∧
      OnlyFlds [F.SER_LANE_STAT_STATE n, F.SER_LANE_STAT_CDR_LOCK n, F.SER_LANE_STAT_BLOCK_LOCK n, F.SER_LANE_STAT_PRBS_LOCK n] s t := by
  have hexec : exec (.laneTrained n skew) s = .next ((s.untilCycle (c + s.passTime p)).readyLane n) := by
    show execLaneTrained n skew s = _
    rw [execLaneTrained, hp]
    dsimp only
    rw [if_pos ⟨h, he, hf⟩, if_neg (by omega), hc]
    rfl
  have huntil : OnlyParts [.cycles, .wall] s (s.untilCycle (c + s.passTime p)) :=
    (State.untilCycle_evolves s _ (List.Subset.refl _) (.refl _ s)).parts
  have hcycles := s.untilCycle_cycles (c + s.passTime p)
  have hregs := s.untilCycle_regs (c + s.passTime p)
  generalize s.untilCycle (c + s.passTime p) = u at hexec huntil hcycles hregs
  obtain ⟨hmode, hlock, hparts, hflds⟩ := u.readyLane_spec n
  exact ⟨_, hexec, hmode, (hparts .cycles (by simp)).trans hcycles, hlock, (huntil.mono (by simp)).trans (hparts.mono (by simp)),
    (OnlyFlds.of_regs hregs).trans hflds⟩

end

/-! The transmit set forms (R281) -/

/-- R281: the cycle in which the transmit set forms. -/
def State.formAt (s : State) (p : Nat) : State :=
  if maskAnd (s.partnerOk p).1 (s.configured p) = s.configured p then s else s.untilCycle ((s.partnerOk p).2 + msCycles 20)

theorem State.formAt_spec (s : State) (p : Nat) :
    (s.formAt p).cycles = (if maskAnd (s.partnerOk p).1 (s.configured p) = s.configured p then s.cycles
      else max s.cycles ((s.partnerOk p).2 + msCycles 20)) ∧ OnlyParts [.cycles, .wall] s (s.formAt p) := by
  unfold State.formAt
  split
  · exact ⟨rfl, .refl _ s⟩
  · exact ⟨s.untilCycle_cycles _, (State.untilCycle_evolves s _ (List.Subset.refl _) (.refl _ s)).parts⟩

theorem State.configured_congr {s t : State} (h : t.regs = s.regs) (p : Nat) : t.configured p = s.configured p := by
  rw [State.configured, State.configured, State.portOn, State.portOn, State.tileRole_congr h, State.flag_congr h, State.fld_congr h]

theorem State.sendable_congr {s t : State} (h : t.regs = s.regs) (p : Nat) : t.sendable p = s.sendable p := by
  simp only [State.sendable, State.configured_congr h, State.flag_congr h]

theorem exec_txSetForm_spec {s : State} {p : Nat} (hp : s.portList.contains p = true) (ht : s.fld (F.SER_PORT_STAT_TX_SET p) = 0)
    (hok : (s.partnerOk p).1 ≠ 0) :
    let mask := maskAnd (s.partnerOk p).1 (s.sendable p)
    ∃ t, exec (.txSetForm p) s = .next t ∧ t.fld (F.SER_PORT_STAT_TX_SET p) = mask ∧ t.fld (F.MLK_PORT_STAT_LANES_UP p) = maskCount mask ∧
      t.cycles = (if maskAnd (s.partnerOk p).1 (s.configured p) = s.configured p then s.cycles else max s.cycles ((s.partnerOk p).2 + msCycles 20)) ∧
      (mask ≠ 0 → t.flag F.SER_EVT_RESTRIPE = true ∧
        (s.fld (F.SER_PORT_STAT_RX_SET p) ≠ 0 → s.fld (F.MLK_PORT_STAT_STATE p) = 0 → t.fld (F.MLK_PORT_STAT_STATE p) = 1)) ∧
      OnlyParts [.regs, .cycles, .wall, .link, .scan] s t := by
  have hlt := State.lt_of_portList hp
  dsimp only
  obtain ⟨hcycles, hform⟩ := s.formAt_spec p
  have hexec : exec (.txSetForm p) s = .next ((((s.formAt p).setLaneSet p (F.SER_PORT_STAT_TX_SET p)
      (maskAnd (s.partnerOk p).1 ((s.formAt p).sendable p))).updateWidth p).checkTrained p) := by
    show execTxSetForm p s = _
    rw [execTxSetForm, if_pos ⟨hp, ht, hok⟩]
    rfl
  rw [State.sendable_congr (hform .regs (by simp))] at hexec
  have hmask : maskAnd (s.partnerOk p).1 (s.sendable p) < 16 := laneMask_lt _
  generalize maskAnd (s.partnerOk p).1 (s.sendable p) = mask at hexec hmask
  have hfld (g : Fld) : (s.formAt p).fld g = s.fld g := State.fld_congr (hform .regs (by simp)) g
  generalize s.formAt p = u at hexec hcycles hform hfld
  have hset := u.setTxSet_fld (p := p) hmask
  have hsets := u.setLaneSet_flds p mask (f := F.SER_PORT_STAT_TX_SET p) rfl
  have hsetp := u.setLaneSet_parts p mask (F.SER_PORT_STAT_TX_SET p)
  have hevent : mask ≠ 0 → (u.setLaneSet p (F.SER_PORT_STAT_TX_SET p) mask).flag F.SER_EVT_RESTRIPE = true := fun h =>
    u.setLaneSet_event (by rw [hfld, ht]; exact h.symm)
  generalize u.setLaneSet p (F.SER_PORT_STAT_TX_SET p) mask = v at hexec hset hsets hsetp hevent
  have hwidth := v.updateWidth_flds p
  have hwidthp := v.updateWidth_parts p
  have hlanes := v.updateWidth_lanesUp p
  generalize v.updateWidth p = w at hexec hwidth hwidthp hlanes
  have hcheck := w.checkTrained_flds p
  have hcheckp := w.checkTrained_parts p
  have htx : w.fld (F.SER_PORT_STAT_TX_SET p) = mask := (hwidth _ rfl (by simp [Fld.apart])).trans hset
  refine ⟨_, hexec, (hcheck _ rfl (by simp [Fld.apart])).trans htx, ?_, ?_, fun hm => ⟨?_, fun hr hs => ?_⟩,
    (hform.mono (by simp)).trans ((hsetp.mono (by simp)).trans ((hwidthp.mono (by simp)).trans (hcheckp.mono (by simp))))⟩
  · rw [hcheck _ rfl (by simp [Fld.apart]), hlanes, hset]
  · rw [hcheckp .cycles (by simp), hwidthp .cycles (by simp), hsetp .cycles (by simp), hcycles]
  · rw [hcheck.flag rfl (by simp [Fld.apart]; omega), hwidth.flag rfl (by simp [Fld.apart])]
    exact hevent hm
  · refine State.checkTrained_begins (by rw [htx]; exact hm) ?_ ?_
    · rw [hwidth _ rfl (by simp [Fld.apart]), hsets _ rfl (by simp [Fld.apart]), hfld]
      exact hr
    · rw [hwidth _ rfl (by simp [Fld.apart]), hsets _ rfl (by simp [Fld.apart]; omega), hfld]
      exact hs

end Sys2Proof.Machine
end

section
/-! SUPPORT. KNUCKLE (R275 to R287): what it counts, the lanes that it moves, and the sets that follow. -/

namespace Sys2Proof.Machine

/-- A loop over distinct indices whose step at one index changes what is read there, and nothing that is read at another. -/
theorem foldl_at {α β ι : Type} {step : α → ι → α} {get : α → ι → β} {upd : ι → β → β} (hsame : ∀ s i, get (step s i) i = upd i (get s i))
    (hother : ∀ s i j, j ≠ i → get (step s i) j = get s j) (l : List ι) (hl : l.Nodup) (s : α) :
    (∀ i ∈ l, get (l.foldl step s) i = upd i (get s i)) ∧ (∀ i ∉ l, get (l.foldl step s) i = get s i) := by
  induction l generalizing s with
  | nil => simp
  | cons i l ih =>
    obtain ⟨hi, hl⟩ := List.nodup_cons.mp hl
    obtain ⟨hin, hout⟩ := ih hl (step s i)
    refine ⟨fun j hj => ?_, fun j hj => ?_⟩
    · rcases List.mem_cons.mp hj with rfl | hj
      · exact (hout j hi).trans (hsame s j)
      · exact (hin j hj).trans (congrArg (upd j) (hother s i j (fun h => hi (h ▸ hj))))
    · obtain ⟨hne, hj⟩ := not_or.mp (fun h => hj (List.mem_cons.mpr h))
      exact (hout j hj).trans (hother s i j hne)

/-! Errors and skew of a period (R276, R278) -/

/-- R278: the skew of one lane of a port. -/
abbrev skewFld (p l : Nat) : Fld := ⟨(F.SER_PORT_SKEW_SKEW p).addr, 8 * l + 7, 8 * l⟩

/-- The fields that the errors and the skew of a period change, where no lane is lost by them. -/
def periodFlds (p : Nat) : List Fld :=
  (List.range 4).map (fun l => F.SER_LANE_CNT_BIP_ERR_COUNT (4 * p + l)) ++ (List.range 4).map (skewFld p)

/-- R282: fewer than 32 errors lose no lane. -/
theorem State.bipErrors_few {s : State} {e : Nat} (p l : Nat) (h : e < 32) :
    s.bipErrors p l e = s.bumpBy (F.SER_LANE_CNT_BIP_ERR_COUNT (4 * p + l)) e := by
  rw [State.bipErrors]
  exact if_neg (fun h' => absurd h'.1 (by omega))

/-- R282: a skew in the range loses no lane. -/
theorem State.laneSkew_inRange {s : State} {k : Nat} (p l : Nat) (h : k ≤ 32) : s.laneSkew p l k = s.setFld (skewFld p l) k := by
  rw [State.laneSkew]
  exact if_neg (fun h' => absurd h'.1 (by omega))

/-- The errors and the skew of the lanes of a port in a period. -/
def State.notePeriod (s : State) (p : Nat) (skew bip : List Nat) : State :=
  (List.range 4).foldl (fun t l => (t.bipErrors p l (bip.getD l 0)).laneSkew p l (skew.getD l 0)) s

theorem getD_zero_of_forall {q : Nat → Prop} {l : List Nat} (h : ∀ x ∈ l, q x) (h0 : q 0) (i : Nat) : q (l.getD i 0) := by
  rw [List.getD_eq_getElem?_getD]
  cases hi : l[i]? with
  | none => exact h0
  | some x => exact h x (List.mem_of_getElem? hi)

theorem State.notePeriod_spec (s : State) (p : Nat) {skew bip : List Nat} (hb : ∀ x ∈ bip, x < 32) (hk : ∀ x ∈ skew, x ≤ 32) :
    OnlyParts [.regs] s (s.notePeriod p skew bip) ∧ OnlyFlds (periodFlds p) s (s.notePeriod p skew bip) := by
  have hbip (u : State) (l : Nat) := u.bipErrors_few p l (getD_zero_of_forall hb (by decide) l)
  have hskew (u : State) (l : Nat) := u.laneSkew_inRange p l (getD_zero_of_forall hk (by decide) l)
  simp only [State.notePeriod, hbip, hskew]
  refine ⟨?_, ?_⟩
  · exact (Evolves.foldl _ _ _ (fun u l => State.setFld_evolves _ _ _ (List.Subset.refl _) (State.bumpBy_evolves u _ _ (List.Subset.refl _)
      (.refl _ u))) (.refl _ s)).parts
  · refine OnlyFlds.foldl _ (fun u l hl => ?_) s
    have hl4 := List.mem_range.mp hl
    refine OnlyFlds.setFld _ _ ?_ ?_ (OnlyFlds.setFld _ _ rfl ?_ (.refl _ u))
    · interval_cases l <;> rfl
    · exact List.mem_append_right _ (List.mem_map.mpr ⟨l, hl, rfl⟩)
    · exact List.mem_append_left _ (List.mem_map.mpr ⟨l, hl, rfl⟩)

/-! What TX_SET makes of a lane (R280, R287) -/

/-- The fields that TX_SET changes on a lane. -/
def knuckleFlds (n : Nat) : List Fld := [F.SER_LANE_STAT_STATE n, F.SER_LANE_EVT_REJOIN n, F.SER_EVT_LANE_REJOIN]

/-- R280, R287: the state of a lane after a received TX_SET. -/
def knuckleMode (txSet l m : Nat) : Nat := if m = 4 then 1 else if m = 2 ∨ m = 3 then (if laneIn txSet l = true then 3 else 2) else m

/-- A lane that was lost and is in the set again has rejoined. -/
def State.rejoinLane (s : State) (n : Nat) : State :=
  if s.lanes.lost.contains n then
    let s2 := (s.event (F.SER_LANE_EVT_REJOIN n)).event F.SER_EVT_LANE_REJOIN
    { s2 with lanes := { s2.lanes with lost := s2.lanes.lost.filter (· != n) } }
  else s

theorem State.rejoinLane_flds (s : State) (n : Nat) : OnlyFlds [F.SER_LANE_EVT_REJOIN n, F.SER_EVT_LANE_REJOIN] s (s.rejoinLane n) := by
  have hevents := ((OnlyFlds.refl [F.SER_LANE_EVT_REJOIN n, F.SER_EVT_LANE_REJOIN] s).event (F.SER_LANE_EVT_REJOIN n) rfl (by simp)).event
    F.SER_EVT_LANE_REJOIN rfl (by simp)
  unfold State.rejoinLane
  dsimp only
  split
  · exact hevents.trans (.lanes _ _ _)
  · exact .refl _ s

theorem State.knuckleLane_eq (s : State) (p txSet l : Nat) :
    s.knuckleLane p txSet l =
      if s.laneMode (4 * p + l) = 4 then s.trainLane (4 * p + l)
      else if s.laneMode (4 * p + l) = 2 then
        (if laneIn txSet l = true then (s.setFld (F.SER_LANE_STAT_STATE (4 * p + l)) 3).rejoinLane (4 * p + l) else s)
      else if s.laneMode (4 * p + l) = 3 then
        (if laneIn txSet l = true then s else s.setFld (F.SER_LANE_STAT_STATE (4 * p + l)) 2)
      else s := by
  unfold State.knuckleLane
  dsimp only
  by_cases h4 : s.laneMode (4 * p + l) = 4
  · rw [if_pos h4, h4]
    rfl
  by_cases h2 : s.laneMode (4 * p + l) = 2
  · rw [if_neg h4, if_pos h2, h2]
    rfl
  by_cases h3 : s.laneMode (4 * p + l) = 3
  · rw [if_neg h4, if_neg h2, if_pos h3, h3]
    rfl
  · rw [if_neg h4, if_neg h2, if_neg h3]
    split
    · contradiction
    · contradiction
    · contradiction
    · rfl

theorem State.knuckleLane_flds (s : State) (p txSet l : Nat) : OnlyFlds (knuckleFlds (4 * p + l)) s (s.knuckleLane p txSet l) := by
  rw [s.knuckleLane_eq p txSet l]
  split_ifs
  · exact (s.trainLane_flds _).mono (by simp [knuckleFlds])
  · exact ((OnlyFlds.refl _ s).setFld _ 3 rfl (by simp [knuckleFlds])).trans ((State.rejoinLane_flds _ _).mono (by simp [knuckleFlds]))
  · exact .refl _ s
  · exact .refl _ s
  · exact (OnlyFlds.refl _ s).setFld _ 2 rfl (by simp [knuckleFlds])
  · exact .refl _ s

theorem State.knuckleLane_mode (s : State) (p txSet l : Nat) :
    (s.knuckleLane p txSet l).laneMode (4 * p + l) = knuckleMode txSet l (s.laneMode (4 * p + l)) := by
  have hset (v : Nat) (hv : v < 8) : (s.setFld (F.SER_LANE_STAT_STATE (4 * p + l)) v).laneMode (4 * p + l) = v := by
    rw [State.laneMode, s.fld_setFld_same _ _ rfl]
    exact Nat.mod_eq_of_lt hv
  have hrejoin (u : State) : (u.rejoinLane (4 * p + l)).laneMode (4 * p + l) = u.laneMode (4 * p + l) :=
    u.rejoinLane_flds _ _ rfl (by simp [Fld.apart])
  rw [s.knuckleLane_eq p txSet l]
  by_cases h4 : s.laneMode (4 * p + l) = 4
  · rw [if_pos h4, h4]
    exact s.trainLane_mode _
  by_cases h2 : s.laneMode (4 * p + l) = 2
  · rw [if_neg h4, if_pos h2]
    have hm : knuckleMode txSet l (s.laneMode (4 * p + l)) = if laneIn txSet l = true then 3 else 2 := by rw [h2]; rfl
    rw [hm]
    split
    · rw [hrejoin, hset 3 (by decide)]
    · exact h2
  by_cases h3 : s.laneMode (4 * p + l) = 3
  · rw [if_neg h4, if_neg h2, if_pos h3]
    have hm : knuckleMode txSet l (s.laneMode (4 * p + l)) = if laneIn txSet l = true then 3 else 2 := by rw [h3]; rfl
    rw [hm]
    split
    · exact h3
    · exact hset 2 (by decide)
  · have hm : knuckleMode txSet l (s.laneMode (4 * p + l)) = s.laneMode (4 * p + l) := by
      rw [knuckleMode, if_neg h4, if_neg (not_or.mpr ⟨h2, h3⟩)]
    rw [if_neg h4, if_neg h2, if_neg h3, hm]

/-- R280, R287: the lanes of a port after a received TX_SET. -/
def State.knuckleLanes (s : State) (p txSet : Nat) : State := (List.range 4).foldl (fun t l => t.knuckleLane p txSet l) s

/-- The fields that TX_SET changes on a port. -/
def portKnuckleFlds (p : Nat) : List Fld := (List.range 4).flatMap (fun l => knuckleFlds (4 * p + l))

theorem State.knuckleLanes_spec (s : State) (p txSet : Nat) :
    (∀ l, l < 4 → (s.knuckleLanes p txSet).laneMode (4 * p + l) = knuckleMode txSet l (s.laneMode (4 * p + l))) ∧
      OnlyParts [.regs, .lanes] s (s.knuckleLanes p txSet) ∧ OnlyFlds (portKnuckleFlds p) s (s.knuckleLanes p txSet) := by
  refine ⟨fun l hl => ?_, ?_, ?_⟩
  · refine (foldl_at (get := fun u l => u.laneMode (4 * p + l)) (upd := knuckleMode txSet) (fun u i => u.knuckleLane_mode p txSet i) (fun u i j hne => ?_)
      (List.range 4) (by decide) s).1 l (List.mem_range.mpr hl)
    exact u.knuckleLane_flds p txSet i _ rfl (by simp [knuckleFlds, Fld.apart]; omega)
  · exact (Evolves.foldl _ _ _ (fun u l => State.knuckleLane_evolves u p txSet l (List.Subset.refl _) (.refl _ u)) (.refl _ s)).parts
  · exact OnlyFlds.foldl _ (fun u l hl => (u.knuckleLane_flds p txSet l).mono
      (fun _ hf => List.mem_flatMap.mpr ⟨l, hl, hf⟩)) s

end Sys2Proof.Machine
end

section
/-! SUPPORT. KNUCKLE as a whole (R281, R283, R284, R287). -/

namespace Sys2Proof.Machine

theorem laneMask_congr {q r : Nat → Bool} (h : ∀ l, l < 4 → q l = r l) : laneMask q = laneMask r := by
  rw [laneMask, laneMask, List.map_congr_left (fun l hl => by rw [h l (List.mem_range.mp hl)])]

/-! Fields that a period and TX_SET leave -/

theorem periodFlds_apart {p : Nat} {g : Fld} (hb : ∀ l, l < 4 → g.addr ≠ 0x241020 + 0x40 * (4 * p + l)) (hk : g.addr ≠ 0x240208 + 0x10 * p) :
    ∀ f ∈ periodFlds p, f.apart g = true := by
  intro f hf
  rcases List.mem_append.mp hf with hf | hf <;> obtain ⟨l, hl, rfl⟩ := List.mem_map.mp hf
  · exact Fld.apart_of_addr (hb l (List.mem_range.mp hl)).symm
  · exact Fld.apart_of_addr hk.symm

theorem portKnuckleFlds_apart {p : Nat} {g : Fld} (hs : ∀ l, l < 4 → g.addr ≠ 0x241004 + 0x40 * (4 * p + l))
    (he : ∀ l, l < 4 → g.addr ≠ 0x241008 + 0x40 * (4 * p + l)) (hv : g.addr ≠ 0x240008) : ∀ f ∈ portKnuckleFlds p, f.apart g = true := by
  intro f hf
  obtain ⟨l, hl, hf⟩ := List.mem_flatMap.mp hf
  have hl4 := List.mem_range.mp hl
  simp only [knuckleFlds, List.mem_cons, List.not_mem_nil, or_false] at hf
  rcases hf with rfl | rfl | rfl
  · exact Fld.apart_of_addr (hs l hl4).symm
  · exact Fld.apart_of_addr (he l hl4).symm
  · exact Fld.apart_of_addr hv.symm

/-- The fields that tell on which lanes of a port this end can send. -/
def sendableFlds (p : Nat) : List Fld :=
  [F.SYS_STRAP_ROLE, F.MLK_PORT_CTL_EN p, F.MLK_PORT_CTL_LANES p] ++ (List.range 4).map (fun l => F.SER_LANE_CTL_PRBS_EN (4 * p + l))

theorem OnlyFlds.sendable {fs : List Fld} {s t : State} {p : Nat} (h : OnlyFlds fs s t) (ha : allApart fs (sendableFlds p) = true) :
    t.sendable p = s.sendable p := by
  have hfld {g : Fld} (hg : g ∈ sendableFlds p) : t.fld g = s.fld g := h.fld_of_allApart ha hg
  have hrole : t.tileRole = s.tileRole := by rw [State.tileRole, State.tileRole, hfld (by simp [sendableFlds])]
  have hconf : t.configured p = s.configured p := by
    rw [State.configured, State.configured, State.portOn, State.portOn, hrole, State.flag, State.flag, hfld (g := F.MLK_PORT_CTL_EN p) (by simp [sendableFlds]),
      hfld (g := F.MLK_PORT_CTL_LANES p) (by simp [sendableFlds])]
  refine laneMask_congr (fun l hl => ?_)
  rw [hconf, State.flag, State.flag, hfld (List.mem_append_right _ (List.mem_map.mpr ⟨l, List.mem_range.mpr hl, rfl⟩))]

/-! What the device takes from the KNUCKLE (R281, R283, R284) -/

/-- The partner's last RX_OK, with the cycle in which it first named a lane. -/
def State.takeOk (s : State) (p rxOk : Nat) : State :=
  let first := if (s.partnerOk p).1 = 0 then s.cycles else (s.partnerOk p).2
  { s with lanes := { s.lanes with rxOk := s.lanes.rxOk.filter (fun (x : Nat × Nat × Nat) => x.1 != p) ++ [(p, rxOk, first)] } }

theorem State.takeOk_partner (s : State) (p rxOk : Nat) : ((s.takeOk p rxOk).partnerOk p).1 = rxOk := by
  have hother : (s.lanes.rxOk.filter (fun (x : Nat × Nat × Nat) => x.1 != p)).find? (fun x => x.1 == p) = none :=
    List.find?_eq_none.mpr (fun y hy => by simpa using (List.mem_filter.mp hy).2)
  simp [State.takeOk, State.partnerOk, List.find?_append, hother]

theorem State.takeOk_parts (s : State) (p rxOk : Nat) : OnlyParts [.lanes] s (s.takeOk p rxOk) :=
  (Evolves.set_lanes (ps := [.lanes]) _ (List.mem_singleton_self _) (.refl _ s)).parts

theorem State.partnerOk_congr {s t : State} (h : t.lanes = s.lanes) (p : Nat) : t.partnerOk p = s.partnerOk p := by
  rw [State.partnerOk, State.partnerOk, h]

/-- R283, R284: the receive set of the lanes as they are, the partner's RX_OK and its WMIN. -/
def State.takeKnuckle (s : State) (p rxOk wmin : Nat) : State :=
  ((s.setLaneSet p (F.SER_PORT_STAT_RX_SET p) (laneMask (fun l => s.laneMode (4 * p + l) == 3))).takeOk p rxOk).setFld
    (F.SER_PORT_STAT_WMIN_RX p) wmin

/-- The fields that the device takes from a KNUCKLE. -/
def takenFlds (p : Nat) : List Fld :=
  [F.SER_PORT_STAT_RX_SET p, F.SER_PORT_CNT_RESTRIPE_COUNT p, F.SER_EVT_RESTRIPE, F.SER_PORT_STAT_WMIN_RX p]

theorem State.takeKnuckle_spec (s : State) (p rxOk wmin : Nat) :
    let t := s.takeKnuckle p rxOk wmin
    t.fld (F.SER_PORT_STAT_RX_SET p) = laneMask (fun l => s.laneMode (4 * p + l) == 3) ∧ t.fld (F.SER_PORT_STAT_WMIN_RX p) = wmin % 16 ∧
      (t.partnerOk p).1 = rxOk ∧ OnlyParts [.regs, .lanes] s t ∧ OnlyFlds (takenFlds p) s t := by
  have hmask : laneMask (fun l => s.laneMode (4 * p + l) == 3) < 16 := laneMask_lt _
  unfold State.takeKnuckle
  generalize laneMask (fun l => s.laneMode (4 * p + l) == 3) = mask at hmask
  have hrx := s.setRxSet_fld (p := p) hmask
  have hset := s.setLaneSet_flds p mask (f := F.SER_PORT_STAT_RX_SET p) rfl
  have hsets := s.setLaneSet_parts p mask (F.SER_PORT_STAT_RX_SET p)
  generalize s.setLaneSet p (F.SER_PORT_STAT_RX_SET p) mask = u at hrx hset hsets
  have hok := u.takeOk_partner p rxOk
  have htake := u.takeOk_parts p rxOk
  generalize u.takeOk p rxOk = v at hok htake
  have hregs := htake .regs (by simp)
  have hwmin := v.setFld_parts (F.SER_PORT_STAT_WMIN_RX p) wmin
  refine ⟨?_, v.fld_setFld_same _ _ rfl, ?_, (hsets.mono (by simp)).trans ((htake.mono (by simp)).trans (hwmin.mono (by simp))), ?_⟩
  · rw [v.fld_setFld_apart _ _ _ rfl rfl (by simp [Fld.apart]), State.fld_congr hregs, hrx]
  · rw [State.partnerOk_congr (hwmin .lanes (by simp))]
    exact hok
  · exact ((hset.mono (by simp [takenFlds])).trans (.of_regs hregs)).setFld _ _ rfl (by simp [takenFlds])

/-- R283: a transmit set keeps the lanes that the partner's RX_OK names. -/
def State.followOk (s : State) (p rxOk : Nat) : State :=
  if s.fld (F.SER_PORT_STAT_TX_SET p) = 0 then s else s.setLaneSet p (F.SER_PORT_STAT_TX_SET p) (maskAnd rxOk (s.sendable p))

theorem State.followOk_spec (s : State) (p rxOk : Nat) :
    let t := s.followOk p rxOk
    t.fld (F.SER_PORT_STAT_TX_SET p) = (if s.fld (F.SER_PORT_STAT_TX_SET p) = 0 then 0 else maskAnd rxOk (s.sendable p)) ∧
      OnlyParts [.regs] s t ∧ OnlyFlds [F.SER_PORT_STAT_TX_SET p, F.SER_PORT_CNT_RESTRIPE_COUNT p, F.SER_EVT_RESTRIPE] s t := by
  unfold State.followOk
  by_cases h : s.fld (F.SER_PORT_STAT_TX_SET p) = 0
  · rw [if_pos h, if_pos h]
    exact ⟨h, .refl _ s, .refl _ s⟩
  · rw [if_neg h, if_neg h]
    exact ⟨s.setTxSet_fld (laneMask_lt _), s.setLaneSet_parts p _ _, s.setLaneSet_flds p _ rfl⟩

/-- The width of a port and the mode of its segment after its sets have changed (R233, R285). -/
def State.settlePort (s : State) (p : Nat) : State := (s.updateWidth p).checkTrained p

theorem State.settlePort_spec (s : State) (p : Nat) :
    OnlyParts [.regs, .link, .scan] s (s.settlePort p) ∧
      OnlyFlds [F.MLK_PORT_STAT_LANES_UP p, F.SER_PORT_STAT_PRESENT p, F.MLK_PORT_STAT_STATE p] s (s.settlePort p) :=
  ⟨((s.updateWidth_parts p).mono (by simp)).trans ((State.checkTrained_parts _ p).mono (by simp)),
    ((s.updateWidth_flds p).mono (by simp)).trans ((State.checkTrained_flds _ p).mono (by simp))⟩

/-! The KNUCKLE that answers (R276) -/

theorem State.wminOut_congr {s t : State} (h : t.regs = s.regs) (p : Nat) : t.wminOut p = s.wminOut p := by
  rw [State.wminOut, State.wminOut]
  simp only [State.tileRole_congr h, State.fld_congr h]

theorem State.ownKnuckle_congr {s t : State} (h : t.regs = s.regs) (p : Nat) : t.ownKnuckle p = s.ownKnuckle p := by
  rw [State.ownKnuckle, State.ownKnuckle, State.wminOut_congr h, State.fld_congr h]
  simp only [State.laneMode, State.fld_congr h]

/-- The device as a KNUCKLE leaves its port, before it answers. -/
def State.knuckled (s : State) (p txSet rxOk wmin : Nat) (skew bip : List Nat) : State :=
  (((((s.blockSeen p).notePeriod p skew bip).knuckleLanes p txSet).takeKnuckle p rxOk wmin).followOk p rxOk).settlePort p

theorem State.knuckle_eq (s : State) (p txSet rxOk wmin : Nat) (skew bip : List Nat) :
    s.knuckle p txSet rxOk wmin skew bip = (s.knuckled p txSet rxOk wmin skew bip).send
      (.link p ((s.knuckled p txSet rxOk wmin skew bip).ownKnuckle p)) := rfl

/-- The fields of the sets and the width of a port, which follow its lanes. -/
def setFlds (p : Nat) : List Fld :=
  takenFlds p ++ [F.SER_PORT_STAT_TX_SET p, F.MLK_PORT_STAT_LANES_UP p, F.SER_PORT_STAT_PRESENT p, F.MLK_PORT_STAT_STATE p]

/-- What the sets become from the lanes as they are. -/
theorem State.setsFollow_spec (s : State) {p : Nat} (hp : p < 8) (rxOk wmin : Nat) :
    let t := ((s.takeKnuckle p rxOk wmin).followOk p rxOk).settlePort p
    t.fld (F.SER_PORT_STAT_RX_SET p) = laneMask (fun l => s.laneMode (4 * p + l) == 3) ∧ t.fld (F.SER_PORT_STAT_WMIN_RX p) = wmin % 16 ∧
      (t.partnerOk p).1 = rxOk ∧
      t.fld (F.SER_PORT_STAT_TX_SET p) = (if s.fld (F.SER_PORT_STAT_TX_SET p) = 0 then 0 else maskAnd rxOk (s.sendable p)) ∧
      OnlyParts [.regs, .link, .scan, .lanes] s t ∧ OnlyFlds (setFlds p) s t := by
  obtain ⟨hrx, hwmin, hok, htakeP, htake⟩ := s.takeKnuckle_spec p rxOk wmin
  dsimp only
  generalize s.takeKnuckle p rxOk wmin = u at hrx hwmin hok htakeP htake
  have htx : u.fld (F.SER_PORT_STAT_TX_SET p) = s.fld (F.SER_PORT_STAT_TX_SET p) := htake _ rfl (by simp [takenFlds, Fld.apart])
  have hsend : u.sendable p = s.sendable p := htake.sendable (by interval_cases p <;> decide)
  obtain ⟨hset, hfollowP, hfollow⟩ := u.followOk_spec p rxOk
  generalize u.followOk p rxOk = v at hset hfollowP hfollow
  obtain ⟨hsettleP, hsettle⟩ := v.settlePort_spec p
  refine ⟨?_, ?_, ?_, ?_, (htakeP.mono (by simp)).trans ((hfollowP.mono (by simp)).trans (hsettleP.mono (by simp))), ?_⟩
  · rw [hsettle _ rfl (by simp [Fld.apart]), hfollow _ rfl (by simp [Fld.apart]), hrx]
  · rw [hsettle _ rfl (by simp [Fld.apart]), hfollow _ rfl (by simp [Fld.apart]), hwmin]
  · rw [State.partnerOk_congr (hsettleP .lanes (by simp)), State.partnerOk_congr (hfollowP .lanes (by simp))]
    exact hok
  · rw [hsettle _ rfl (by simp [Fld.apart]), hset, htx, hsend]
  · exact (htake.mono (by simp [setFlds])).trans ((hfollow.mono (by simp [setFlds, takenFlds])).trans (hsettle.mono (by simp [setFlds])))

theorem exec_knuckle_spec {s : State} {p txSet rxOk wmin : Nat} {skew bip : List Nat} (hp : s.portList.contains p = true) (hon : s.portOn p = true)
    (hb : ∀ x ∈ bip, x < 32) (hk : ∀ x ∈ skew, x ≤ 32) :
    ∃ t, exec (.knuckle p txSet rxOk wmin skew bip) s = .next t ∧ t.sent = s.sent ++ [.link p (t.ownKnuckle p)] ∧
      (∀ l, l < 4 → t.laneMode (4 * p + l) = (if s.laneMode (4 * p + l) = 4 then 1
        else if s.laneMode (4 * p + l) = 2 ∨ s.laneMode (4 * p + l) = 3 then (if laneIn txSet l = true then 3 else 2)
        else s.laneMode (4 * p + l))) ∧
      t.fld (F.SER_PORT_STAT_RX_SET p) = laneMask (fun l => t.laneMode (4 * p + l) == 3) ∧
      t.fld (F.SER_PORT_STAT_WMIN_RX p) = wmin % 16 ∧ (t.partnerOk p).1 = rxOk ∧
      t.fld (F.SER_PORT_STAT_TX_SET p) = (if s.fld (F.SER_PORT_STAT_TX_SET p) = 0 then 0 else maskAnd rxOk (s.sendable p)) ∧
      OnlyParts [.regs, .sent, .link, .scan, .lanes] s t := by
  have hlt := State.lt_of_portList hp
  have hexec : exec (.knuckle p txSet rxOk wmin skew bip) s = .next (s.knuckle p txSet rxOk wmin skew bip) := by
    show execKnuckle p txSet rxOk wmin skew bip s = _
    rw [execKnuckle, if_pos ⟨hp, hon⟩]
  rw [State.knuckle_eq, State.knuckled] at hexec
  have hseenP := s.blockSeen_parts p
  have hseen : OnlyFlds (periodFlds p) s (s.blockSeen p) := .of_regs (s.blockSeen_regs p)
  generalize s.blockSeen p = a at hexec hseenP hseen
  obtain ⟨hnoteP, hnote⟩ := a.notePeriod_spec p hb hk
  have hperiod := hseen.trans hnote
  generalize a.notePeriod p skew bip = b at hexec hnoteP hperiod
  obtain ⟨hmodes, hlanesP, hlanes⟩ := b.knuckleLanes_spec p txSet
  generalize b.knuckleLanes p txSet = c at hexec hmodes hlanesP hlanes
  obtain ⟨hrx, hwmin, hok, htx, hsetsP, hsets⟩ := c.setsFollow_spec hlt rxOk wmin
  generalize ((c.takeKnuckle p rxOk wmin).followOk p rxOk).settlePort p = d at hexec hrx hwmin hok htx hsetsP hsets
  have hparts : OnlyParts [.regs, .link, .scan, .lanes] s d :=
    (hseenP.mono (by simp)).trans ((hnoteP.mono (by simp)).trans ((hlanesP.mono (by simp)).trans (hsetsP.mono (by simp))))
  have hmode : ∀ l, l < 4 → d.laneMode (4 * p + l) = c.laneMode (4 * p + l) := fun l hl =>
    hsets _ rfl (by simp [setFlds, takenFlds, Fld.apart]; omega)
  have hbefore : ∀ l, l < 4 → b.laneMode (4 * p + l) = s.laneMode (4 * p + l) := fun l hl =>
    hperiod _ rfl (periodFlds_apart (by intros; dsimp only; omega) (by dsimp only; omega))
  have hsend : c.sendable p = s.sendable p :=
    (hlanes.sendable (by interval_cases p <;> decide)).trans (hperiod.sendable (by interval_cases p <;> decide))
  have hpost : OnlyParts [.sent] d (d.send (.link p (d.ownKnuckle p))) := (State.send_evolves d _ (List.Subset.refl _) (.refl _ d)).parts
  have hsent := d.sent_send (.link p (d.ownKnuckle p))
  generalize d.send (.link p (d.ownKnuckle p)) = e at hexec hpost hsent
  have hregs := hpost .regs (by simp)
  have hfld (g : Fld) : e.fld g = d.fld g := State.fld_congr hregs g
  have hmodes' : ∀ l, l < 4 → e.laneMode (4 * p + l) = c.laneMode (4 * p + l) := fun l hl => (hfld _).trans (hmode l hl)
  refine ⟨e, hexec, ?_, fun l hl => ?_, ?_, (hfld _).trans hwmin, ?_, ?_, (hparts.mono (by simp)).trans (hpost.mono (by simp))⟩
  · rw [hsent, hparts .sent (by simp), State.ownKnuckle_congr hregs]
  · rw [hmodes' l hl, hmodes l hl, hbefore l hl, knuckleMode]
  · rw [hfld, hrx]
    exact laneMask_congr (fun l hl => by rw [hmodes' l hl])
  · rw [State.partnerOk_congr (hpost .lanes (by simp))]
    exact hok
  · have hset : c.fld (F.SER_PORT_STAT_TX_SET p) = s.fld (F.SER_PORT_STAT_TX_SET p) := by
      rw [hlanes _ rfl (portKnuckleFlds_apart (by intros; dsimp only; omega) (by intros; dsimp only; omega) (by dsimp only; omega)),
        hperiod _ rfl (periodFlds_apart (by intros; dsimp only; omega) (by dsimp only; omega))]
    rw [hfld, htx, hset, hsend]

end Sys2Proof.Machine
end

section
/-! SUPPORT. Adaptation, eyes and recalibration of a lane (R289 to R292). -/

namespace Sys2Proof.Machine

/-! Adaptation (R289) -/

section
variable {s : State} {n : Nat}

/-- R289: adaptation freezes. -/
def State.freezeLane (s : State) (n : Nat) : State :=
  (((s.setFlag (F.SER_LANE_STAT_ADAPT_FROZEN n) true).event (F.SER_LANE_EVT_ADAPT_FREEZE n)).event F.SER_EVT_ADAPT_FREEZE).bump
    (F.SER_LANE_CNT_FREEZE_COUNT n)

/-- The fields that a freeze changes. -/
abbrev freezeFlds (n : Nat) : List Fld :=
  [F.SER_LANE_STAT_ADAPT_FROZEN n, F.SER_LANE_EVT_ADAPT_FREEZE n, F.SER_EVT_ADAPT_FREEZE, F.SER_LANE_CNT_FREEZE_COUNT n]

theorem State.freezeLane_spec (s : State) (n : Nat) :
    let t := s.freezeLane n
    t.flag (F.SER_LANE_STAT_ADAPT_FROZEN n) = true ∧ t.flag (F.SER_LANE_EVT_ADAPT_FREEZE n) = true ∧ t.flag F.SER_EVT_ADAPT_FREEZE = true ∧
      t.fld (F.SER_LANE_CNT_FREEZE_COUNT n) = min (s.fld (F.SER_LANE_CNT_FREEZE_COUNT n) + 1) 65535 ∧ OnlyParts [.regs] s t ∧
      OnlyFlds (freezeFlds n) s t := by
  refine ⟨State.flag_of_fld (b := true) ?_, State.flag_of_fld (b := true) ?_, State.flag_of_fld (b := true) ?_, ?_,
    ((((s.setFlag_parts _ _).trans (State.event_parts _ _)).trans (State.event_parts _ _)).trans (State.bump_parts _ _)),
    ((((OnlyFlds.refl _ s).setFlag _ true rfl (by simp)).event _ rfl (by simp)).event _ rfl (by simp)).bump _ rfl (by simp)⟩ <;>
    unfold State.freezeLane
  · rw [State.fld_bump_apart _ _ _ rfl rfl (by simp [Fld.apart]), State.fld_event_apart _ _ _ rfl rfl (by simp [Fld.apart]),
      State.fld_event_apart _ _ _ rfl rfl (by simp [Fld.apart]), s.fld_setFlag_same _ _ rfl]
  · rw [State.fld_bump_apart _ _ _ rfl rfl (by simp [Fld.apart]), State.fld_event_apart _ _ _ rfl rfl (by simp [Fld.apart]),
      State.fld_event_same _ _ rfl]
    rfl
  · rw [State.fld_bump_apart _ _ _ rfl rfl (by simp [Fld.apart]; omega), State.fld_event_same _ _ rfl]
    rfl
  · rw [State.fld_bump_same _ _ rfl, State.fld_event_apart _ _ _ rfl rfl (by simp [Fld.apart]; omega),
      State.fld_event_apart _ _ _ rfl rfl (by simp [Fld.apart]), s.fld_setFlag_apart _ _ _ rfl rfl (by simp [Fld.apart])]
    rfl

theorem exec_adaptFreeze_few (hn : s.hasLane n = true) (k : Nat) (codes : Word) (hk : k * 256 < s.fld F.SER_CTL_ADAPT_MIN * 65536)
    (hf : s.flag (F.SER_LANE_STAT_ADAPT_FROZEN n) = false) :
    ∃ t, exec (.adaptFreeze n k codes) s = .next t ∧ t.flag (F.SER_LANE_STAT_ADAPT_FROZEN n) = true ∧
      t.flag (F.SER_LANE_EVT_ADAPT_FREEZE n) = true ∧ t.flag F.SER_EVT_ADAPT_FREEZE = true ∧
      t.fld (F.SER_LANE_CNT_FREEZE_COUNT n) = min (s.fld (F.SER_LANE_CNT_FREEZE_COUNT n) + 1) 65535 ∧
      t.reg (F.SER_LANE_ADAPT_OFFSET n).addr = s.reg (F.SER_LANE_ADAPT_OFFSET n).addr ∧ OnlyParts [.regs] s t ∧ OnlyFlds (freezeFlds n) s t := by
  have hexec : exec (.adaptFreeze n k codes) s = .next (s.freezeLane n) := by
    show execAdaptFreeze n k codes s = _
    rw [execAdaptFreeze, if_pos hn, if_pos hk, if_neg (by simp [hf])]
    rfl
  obtain ⟨hfrozen, hevt, hsum, hcount, hparts, hflds⟩ := s.freezeLane_spec n
  exact ⟨_, hexec, hfrozen, hevt, hsum, hcount, hflds.reg (by simp; omega), hparts, hflds⟩

/-- R289: adaptation goes on, and only a recalibration moves the offset. -/
def State.adaptLane (s : State) (n : Nat) (codes : Word) : State :=
  ((s.setFlag (F.SER_LANE_STAT_ADAPT_FROZEN n) false).setReg (F.SER_LANE_ADAPT_OFFSET n).addr codes).setFld (F.SER_LANE_ADAPT_OFFSET n)
    ((s.setFlag (F.SER_LANE_STAT_ADAPT_FROZEN n) false).fld (F.SER_LANE_ADAPT_OFFSET n))

theorem exec_adaptFreeze_many (hn : s.hasLane n = true) (k : Nat) (codes : Word) (hk : s.fld F.SER_CTL_ADAPT_MIN * 65536 ≤ k * 256) :
    ∃ t, exec (.adaptFreeze n k codes) s = .next t ∧
      t.flag (F.SER_LANE_STAT_ADAPT_FROZEN n) = false ∧ t.fld (F.SER_LANE_ADAPT_OFFSET n) = s.fld (F.SER_LANE_ADAPT_OFFSET n) ∧
      (∀ g : Fld, g.ok = true → g.addr = (F.SER_LANE_ADAPT_OFFSET n).addr → (F.SER_LANE_ADAPT_OFFSET n).apart g = true → t.fld g = g.of codes) ∧
      OnlyParts [.regs] s t := by
  have hexec : exec (.adaptFreeze n k codes) s = .next (s.adaptLane n codes) := by
    show execAdaptFreeze n k codes s = _
    rw [execAdaptFreeze, if_pos hn, if_neg (by omega)]
    rfl
  rw [State.adaptLane] at hexec
  have hflag := s.flag_setFlag (F.SER_LANE_STAT_ADAPT_FROZEN n) false rfl
  have hkeep := s.fld_setFlag_apart (F.SER_LANE_STAT_ADAPT_FROZEN n) (F.SER_LANE_ADAPT_OFFSET n) false rfl rfl (by simp [Fld.apart])
  have hfrozen := s.setFlag_parts (F.SER_LANE_STAT_ADAPT_FROZEN n) false
  rw [hkeep] at hexec
  generalize s.setFlag (F.SER_LANE_STAT_ADAPT_FROZEN n) false = u at hexec hflag hfrozen
  have hreg (a : Nat) (h : a ≠ (F.SER_LANE_ADAPT_OFFSET n).addr) := u.reg_setReg_ne codes h
  have hcodes := u.reg_setReg_same (F.SER_LANE_ADAPT_OFFSET n).addr codes
  have hwrite : OnlyParts [.regs] u (u.setReg (F.SER_LANE_ADAPT_OFFSET n).addr codes) :=
    (State.setReg_evolves u _ _ (List.Subset.refl _) (.refl _ u)).parts
  generalize u.setReg (F.SER_LANE_ADAPT_OFFSET n).addr codes = v at hexec hreg hcodes hwrite
  refine ⟨_, hexec, ?_, ?_, fun g hg ha hapart => ?_, hfrozen.trans (hwrite.trans (v.setFld_parts _ _))⟩
  · rw [State.flag, v.fld_setFld_apart _ _ _ rfl rfl (by simp [Fld.apart]), State.fld, hreg _ (by dsimp only; omega)]
    exact hflag
  · rw [v.fld_setFld_same _ _ rfl]
    exact Nat.mod_eq_of_lt (s.fld_lt _)
  · rw [v.fld_setFld_apart _ _ _ rfl hg hapart, State.fld, ha, hcodes]

/-! Eyes (R292) -/

/-- R292: the figures of a scan. -/
def State.noteEye (s : State) (n w h : Nat) : State := (s.setFld (F.SER_LANE_EYE_EYE_W_MUI n) w).setFld (F.SER_LANE_EYE_EYE_H_MV n) h

theorem State.noteEye_spec (s : State) (n : Nat) {w h : Nat} (hw : w < 65536) (hh : h < 65536) :
    let t := s.noteEye n w h
    t.fld (F.SER_LANE_EYE_EYE_W_MUI n) = w ∧ t.fld (F.SER_LANE_EYE_EYE_H_MV n) = h ∧ OnlyParts [.regs] s t ∧
      OnlyFlds [F.SER_LANE_EYE_EYE_W_MUI n, F.SER_LANE_EYE_EYE_H_MV n] s t := by
  refine ⟨?_, ?_, (s.setFld_parts _ _).trans (State.setFld_parts _ _ _), ((OnlyFlds.refl _ s).setFld _ w rfl (by simp)).setFld _ h rfl (by simp)⟩ <;>
    unfold State.noteEye
  · rw [State.fld_setFld_apart _ _ _ _ rfl rfl (by simp [Fld.apart]), s.fld_setFld_same _ _ rfl]
    exact Nat.mod_eq_of_lt hw
  · rw [State.fld_setFld_same _ _ _ rfl]
    exact Nat.mod_eq_of_lt hh

/-- R292: an eye below its minimum. -/
def State.eyeLow (s : State) (n : Nat) : State := (s.event (F.SER_LANE_EVT_EYE_LOW n)).event F.SER_EVT_EYE_LOW

/-- The fields that a scan of an eye changes. -/
abbrev eyeFlds (n : Nat) : List Fld := [F.SER_LANE_EYE_EYE_W_MUI n, F.SER_LANE_EYE_EYE_H_MV n, F.SER_LANE_EVT_EYE_LOW n, F.SER_EVT_EYE_LOW]

theorem State.eyeLow_spec (s : State) (n : Nat) :
    let t := s.eyeLow n
    t.flag (F.SER_LANE_EVT_EYE_LOW n) = true ∧ t.flag F.SER_EVT_EYE_LOW = true ∧ OnlyParts [.regs] s t ∧
      OnlyFlds [F.SER_LANE_EVT_EYE_LOW n, F.SER_EVT_EYE_LOW] s t := by
  refine ⟨?_, State.flag_event _ _ rfl, (s.event_parts _).trans (State.event_parts _ _),
    ((OnlyFlds.refl _ s).event _ rfl (by simp)).event _ rfl (by simp)⟩
  rw [State.eyeLow, State.flag, State.fld_event_apart _ _ _ rfl rfl (by simp [Fld.apart]), State.fld_event_same _ _ rfl]
  rfl

theorem exec_eyeScan_spec (hn : s.hasLane n = true) {w h : Nat} (hw : w < 65536) (hh : h < 65536) :
    ∃ t, exec (.eyeScan n w h) s = .next t ∧ t.fld (F.SER_LANE_EYE_EYE_W_MUI n) = w ∧ t.fld (F.SER_LANE_EYE_EYE_H_MV n) = h ∧
      (w < s.fld (F.SER_LANE_EYE_MIN_W_MIN_MUI n) ∨ h < s.fld (F.SER_LANE_EYE_MIN_H_MIN_MV n) →
        t.flag (F.SER_LANE_EVT_EYE_LOW n) = true ∧ t.flag F.SER_EVT_EYE_LOW = true) ∧
      (s.fld (F.SER_LANE_EYE_MIN_W_MIN_MUI n) ≤ w → s.fld (F.SER_LANE_EYE_MIN_H_MIN_MV n) ≤ h →
        t.flag (F.SER_LANE_EVT_EYE_LOW n) = s.flag (F.SER_LANE_EVT_EYE_LOW n)) ∧
      OnlyParts [.regs] s t ∧ OnlyFlds (eyeFlds n) s t := by
  obtain ⟨hwn, hhn, hnoteP, hnote⟩ := s.noteEye_spec n hw hh
  have hexec : exec (.eyeScan n w h) s = .next (if w < (s.noteEye n w h).fld (F.SER_LANE_EYE_MIN_W_MIN_MUI n) ∨
      h < (s.noteEye n w h).fld (F.SER_LANE_EYE_MIN_H_MIN_MV n) then (s.noteEye n w h).eyeLow n else s.noteEye n w h) := by
    show execEyeScan n w h s = _
    rw [execEyeScan, if_pos hn]
    rfl
  rw [hnote (F.SER_LANE_EYE_MIN_W_MIN_MUI n) rfl (by simp [Fld.apart]),
    hnote (F.SER_LANE_EYE_MIN_H_MIN_MV n) rfl (by simp [Fld.apart])] at hexec
  generalize s.noteEye n w h = u at hexec hwn hhn hnoteP hnote
  have hnote' : OnlyFlds (eyeFlds n) s u := hnote.mono (by simp)
  by_cases hlow : w < s.fld (F.SER_LANE_EYE_MIN_W_MIN_MUI n) ∨ h < s.fld (F.SER_LANE_EYE_MIN_H_MIN_MV n)
  · rw [if_pos hlow] at hexec
    obtain ⟨hevt, hsum, hlowP, hflds⟩ := u.eyeLow_spec n
    refine ⟨_, hexec, ?_, ?_, fun _ => ⟨hevt, hsum⟩, fun h1 h2 => absurd hlow (by omega), hnoteP.trans hlowP, hnote'.trans (hflds.mono (by simp))⟩
    · rw [hflds _ rfl (by simp [Fld.apart]), hwn]
    · rw [hflds _ rfl (by simp [Fld.apart]; omega), hhn]
  · rw [if_neg hlow] at hexec
    exact ⟨_, hexec, hwn, hhn, fun h => absurd h hlow, fun _ _ => hnote.flag rfl (by simp [Fld.apart]), hnoteP, hnote'⟩

end

/-! Recalibration (R290, R291) -/

theorem State.recalLanes_congr {s t : State} {fs : List Fld} (h : OnlyFlds fs s t)
    (hrole : ∀ f ∈ fs, f.apart F.SYS_STRAP_ROLE = true) (hquad : ∀ q, ∀ f ∈ fs, f.apart (F.SER_QUAD_STAT_POWERED q) = true)
    (hlane : ∀ n, ∀ f ∈ fs, f.apart (F.SER_LANE_STAT_STATE n) = true) : t.recalLanes = s.recalLanes := by
  have hr := h.tileRole hrole
  have hq (q : Nat) : t.flag (F.SER_QUAD_STAT_POWERED q) = s.flag (F.SER_QUAD_STAT_POWERED q) := h.flag rfl (hquad q)
  have hl (n : Nat) : t.laneMode n = s.laneMode n := h _ rfl (hlane n)
  simp only [State.recalLanes, State.hasLane, State.laneOfPort, hr, hq, hl]

/-- R290: the temperature of a recalibration run, and its number. -/
def State.noteRecal (s : State) : State := (s.setFld F.SER_STAT_RECAL_TEMP (s.fld F.THM_STAT_HOTTEST)).wrapInc F.SER_STAT_RECAL_COUNT

/-- A run of measurements. -/
def State.setRecal (s : State) (x : List (Nat × Option Int)) : State := { s with lanes := { s.lanes with recal := x } }

theorem State.setRecal_parts (s : State) (x : List (Nat × Option Int)) : OnlyParts [.lanes] s (s.setRecal x) :=
  (Evolves.set_lanes (ps := [.lanes]) _ (List.mem_singleton_self _) (.refl _ s)).parts

theorem State.noteRecal_spec (s : State) :
    s.noteRecal.fld F.SER_STAT_RECAL_TEMP = s.fld F.THM_STAT_HOTTEST ∧ OnlyParts [.regs] s s.noteRecal ∧
      OnlyFlds [F.SER_STAT_RECAL_TEMP, F.SER_STAT_RECAL_COUNT] s s.noteRecal := by
  refine ⟨?_, (s.setFld_parts _ _).trans (State.setFld_parts _ _ _), ((OnlyFlds.refl _ s).setFld _ _ rfl (by simp)).setFld _ _ rfl (by simp)⟩
  rw [State.noteRecal, State.wrapInc, State.fld_setFld_apart _ _ _ _ rfl rfl (by decide), s.fld_setFld_same _ _ rfl]
  exact Nat.mod_eq_of_lt (s.fld_lt F.THM_STAT_HOTTEST)

theorem exec_recalTrigger_training {s : State} (h : s.lanes.recal = []) :
    ∃ t, exec (.recalTrigger true) s = .next t ∧ t.fld F.SER_STAT_RECAL_TEMP = s.fld F.THM_STAT_HOTTEST ∧
      t.lanes.recal = s.recalLanes.map (fun n => (n, none)) ∧ OnlyParts [.regs, .lanes] s t ∧
      OnlyFlds [F.SER_STAT_RECAL_TEMP, F.SER_STAT_RECAL_COUNT] s t := by
  obtain ⟨htemp, hparts, hflds⟩ := s.noteRecal_spec
  have hlanes := State.recalLanes_congr hflds (by decide) (by simp [Fld.apart]; omega) (by simp [Fld.apart]; omega)
  have hexec : exec (.recalTrigger true) s = .next (s.noteRecal.setRecal (s.noteRecal.recalLanes.map (fun n => (n, none)))) := by
    show execRecalTrigger true s = _
    rw [execRecalTrigger, if_pos ⟨h, .inl rfl⟩]
    rfl
  rw [hlanes] at hexec
  generalize s.noteRecal = u at hexec htemp hparts hflds
  have hset := u.setRecal_parts (s.recalLanes.map (fun n => (n, none)))
  have hregs := hset .regs (by simp)
  exact ⟨_, hexec, (State.fld_congr hregs _).trans htemp, rfl, (hparts.mono (by simp)).trans (hset.mono (by simp)), hflds.trans (.of_regs hregs)⟩

/-- What a run holds of a lane once its entry is replaced. -/
theorem find?_replaced {n : Nat} {r : List (Nat × Option Int)} {a : Option Int} (x : Option Int)
    (h : r.find? (fun y => y.1 == n) = some (n, a)) :
    (r.map (fun y => if y.1 = n then (n, x) else y)).find? (fun y => y.1 == n) = some (n, x) := by
  rw [List.find?_map]
  have hp : ((fun y : Nat × Option Int => y.1 == n) ∘ fun y => if y.1 = n then (n, x) else y) = fun y => y.1 == n := by
    funext y
    by_cases hy : y.1 = n <;> simp [hy]
  rw [hp, h]
  simp

section
variable {s : State} {n : Nat} {a : Int}

/-- R291: the first measurement of a pair is kept. -/
theorem exec_recalApply_first (h : s.lanes.recal.find? (fun x => x.1 == n) = some (n, none)) :
    ∃ t, exec (.recalApply n a) s = .next t ∧ t.lanes.recal.find? (fun x => x.1 == n) = some (n, some a) ∧ OnlyParts [.lanes] s t := by
  have hexec : exec (.recalApply n a) s =
      .next (s.setRecal (s.lanes.recal.map (fun x => if x.1 = n then (n, some a) else x))) := by
    show execRecalApply n a s = _
    rw [execRecalApply, h]
    rfl
  exact ⟨_, hexec, find?_replaced (some a) h, s.setRecal_parts _⟩

theorem unsigned_lt (w : Nat) (v : Int) : unsigned w v < 2 ^ w := by
  have hlt := Int.emod_lt_of_pos v (show (0 : Int) < (2 ^ w : Nat) by exact_mod_cast Nat.two_pow_pos w)
  have hge := Int.emod_nonneg v (show ((2 ^ w : Nat) : Int) ≠ 0 by exact_mod_cast (Nat.two_pow_pos w).ne')
  unfold unsigned
  omega

/-- R291: an offset that takes effect. -/
def State.setOffset (s : State) (n : Nat) (a : Int) : State :=
  (s.setFld (F.SER_LANE_ADAPT_OFFSET n) (unsigned 8 a)).setFld (F.SER_LANE_RECAL_LAST_TEMP n) (s.fld F.SER_STAT_RECAL_TEMP)

theorem State.setOffset_spec (s : State) (n : Nat) (a : Int) :
    let t := s.setOffset n a
    t.fld (F.SER_LANE_ADAPT_OFFSET n) = unsigned 8 a ∧ t.fld (F.SER_LANE_RECAL_LAST_TEMP n) = s.fld F.SER_STAT_RECAL_TEMP ∧ OnlyParts [.regs] s t ∧
      OnlyFlds [F.SER_LANE_ADAPT_OFFSET n, F.SER_LANE_RECAL_LAST_TEMP n] s t := by
  refine ⟨?_, ?_, (s.setFld_parts _ _).trans (State.setFld_parts _ _ _), ((OnlyFlds.refl _ s).setFld _ _ rfl (by simp)).setFld _ _ rfl (by simp)⟩ <;>
    unfold State.setOffset
  · rw [State.fld_setFld_apart _ _ _ _ rfl rfl (by simp [Fld.apart]), s.fld_setFld_same _ _ rfl]
    exact Nat.mod_eq_of_lt (unsigned_lt 8 a)
  · rw [State.fld_setFld_same _ _ _ rfl]
    exact Nat.mod_eq_of_lt (s.fld_lt F.SER_STAT_RECAL_TEMP)

theorem exec_recalApply_agrees {b : Int} (h : s.lanes.recal.find? (fun x => x.1 == n) = some (n, some b)) (hab : (b - a).natAbs ≤ 1) :
    ∃ t, exec (.recalApply n a) s = .next t ∧ t.fld (F.SER_LANE_ADAPT_OFFSET n) = unsigned 8 a ∧
      t.fld (F.SER_LANE_RECAL_LAST_TEMP n) = s.fld F.SER_STAT_RECAL_TEMP ∧ t.lanes.recal.find? (fun x => x.1 == n) = none ∧
      OnlyParts [.regs, .lanes] s t ∧ OnlyFlds [F.SER_LANE_ADAPT_OFFSET n, F.SER_LANE_RECAL_LAST_TEMP n] s t := by
  have hexec : exec (.recalApply n a) s = .next ((s.setRecal (s.lanes.recal.filter (fun x => x.1 != n))).setOffset n a) := by
    show execRecalApply n a s = _
    rw [execRecalApply, h]
    dsimp only
    rw [if_pos hab]
    rfl
  have hset := s.setRecal_parts (s.lanes.recal.filter (fun x => x.1 != n))
  have hrecal : (s.setRecal (s.lanes.recal.filter (fun x => x.1 != n))).lanes.recal = s.lanes.recal.filter (fun x => x.1 != n) := rfl
  generalize s.setRecal (s.lanes.recal.filter (fun x => x.1 != n)) = u at hexec hset hrecal
  have hregs := hset .regs (by simp)
  obtain ⟨hoffset, htemp, hparts, hflds⟩ := u.setOffset_spec n a
  refine ⟨_, hexec, hoffset, htemp.trans (State.fld_congr hregs _), ?_, (hset.mono (by simp)).trans (hparts.mono (by simp)),
    (OnlyFlds.of_regs hregs).trans hflds⟩
  rw [hparts .lanes (by simp), hrecal]
  exact List.find?_eq_none.mpr (fun y hy => by simpa using (List.mem_filter.mp hy).2)

/-- R291: a measurement that is discarded. -/
def State.rejectOffset (s : State) (n : Nat) : State :=
  ((s.bump (F.SER_LANE_RECAL_RECAL_REJ_COUNT n)).event (F.SER_LANE_EVT_RECAL_REJ n)).event F.SER_EVT_RECAL_REJ

theorem State.rejectOffset_spec (s : State) (n : Nat) :
    let t := s.rejectOffset n
    t.flag (F.SER_LANE_EVT_RECAL_REJ n) = true ∧ t.flag F.SER_EVT_RECAL_REJ = true ∧ OnlyParts [.regs] s t ∧
      OnlyFlds [F.SER_LANE_RECAL_RECAL_REJ_COUNT n, F.SER_LANE_EVT_RECAL_REJ n, F.SER_EVT_RECAL_REJ] s t := by
  refine ⟨?_, State.flag_event _ _ rfl, ((s.bump_parts _).trans (State.event_parts _ _)).trans (State.event_parts _ _),
    (((OnlyFlds.refl _ s).bump _ rfl (by simp)).event _ rfl (by simp)).event _ rfl (by simp)⟩
  rw [State.rejectOffset, State.flag, State.fld_event_apart _ _ _ rfl rfl (by simp [Fld.apart]), State.fld_event_same _ _ rfl]
  rfl

theorem exec_recalApply_differs {b : Int} (h : s.lanes.recal.find? (fun x => x.1 == n) = some (n, some b)) (hab : 1 < (b - a).natAbs) :
    ∃ t, exec (.recalApply n a) s = .next t ∧ t.flag (F.SER_LANE_EVT_RECAL_REJ n) = true ∧
      t.flag F.SER_EVT_RECAL_REJ = true ∧ t.lanes.recal.find? (fun x => x.1 == n) = some (n, none) ∧ OnlyParts [.regs, .lanes] s t ∧
      OnlyFlds [F.SER_LANE_RECAL_RECAL_REJ_COUNT n, F.SER_LANE_EVT_RECAL_REJ n, F.SER_EVT_RECAL_REJ] s t := by
  have hexec : exec (.recalApply n a) s =
      .next ((s.setRecal (s.lanes.recal.map (fun x => if x.1 = n then (n, none) else x))).rejectOffset n) := by
    show execRecalApply n a s = _
    rw [execRecalApply, h]
    dsimp only
    rw [if_neg (by omega)]
    rfl
  have hset := s.setRecal_parts (s.lanes.recal.map (fun x => if x.1 = n then (n, none) else x))
  have hrecal : (s.setRecal (s.lanes.recal.map (fun x => if x.1 = n then (n, none) else x))).lanes.recal.find? (fun x => x.1 == n) = some (n, none) :=
    find?_replaced none h
  generalize s.setRecal (s.lanes.recal.map (fun x => if x.1 = n then (n, none) else x)) = u at hexec hset hrecal
  obtain ⟨hevt, hsum, hparts, hflds⟩ := u.rejectOffset_spec n
  exact ⟨_, hexec, hevt, hsum, by rw [hparts .lanes (by simp)]; exact hrecal, (hset.mono (by simp)).trans (hparts.mono (by simp)),
    (OnlyFlds.of_regs (hset .regs (by simp))).trans hflds⟩

end

end Sys2Proof.Machine
end

section
/-! CERTIFICATES. Lanes (O49). -/

namespace Sys2Proof.Machine

/-- Settles O49: the KNUCKLE by what it makes of each lane and of the sets, each loss by the lane's state, and the rest from its operation. -/
theorem lanesTrainAndFail : Obligations.LanesTrainAndFail := by
  intro s p
  refine ⟨fun _ _ _ _ _ hp hon hb hk => exec_knuckle_spec hp hon hb hk, ?_, ?_, exec_txSetForm_spec, fun n hn => ⟨exec_adaptFreeze_few hn,
    exec_adaptFreeze_many hn, fun _ _ hw hh => exec_eyeScan_spec hn hw hh⟩, exec_recalTrigger_training, fun n a _ => ⟨exec_recalApply_first,
    fun b h => ⟨exec_recalApply_agrees h, exec_recalApply_differs h⟩⟩⟩
  · exact fun n hiBer skewed relayed hp => ⟨exec_laneLost_others hiBer skewed relayed hp, exec_laneLost_last hiBer skewed relayed hp,
      exec_laneLost_training hiBer skewed relayed hp⟩
  · exact fun n skew hp h he hf => ⟨exec_laneTrained_skewed hp h he hf, fun _ hk hc => exec_laneTrained_passes hp h he hf hk hc⟩

end Sys2Proof.Machine
end

section
/-! SUPPORT. Acknowledgements that come, and messages that go again (R230, R261). -/

namespace Sys2Proof.Machine

/-! What reception and acknowledgement leave of what is owed -/

theorem State.ackMsg_unacked (s : State) (m : MsgHdr) (x : Status) : (s.ackMsg m x).link.unacked = s.link.unacked := by
  obtain ⟨ports, own, h⟩ := s.ackMsg_link m x
  rw [h]

theorem State.heard_unacked (s : State) (m : MsgHdr) (b : LinkMsg) : (s.heard m b).link.unacked = s.link.unacked := by
  obtain ⟨ports, seen, h⟩ := s.heard_link m b
  rw [h]

/-! ACK (R230) -/

/-- What an acknowledgement of a source settles of what a message owes. -/
def Unacked.settle (u : Unacked) (p src n : Nat) : Unacked :=
  if u.port = p ∧ u.seq = n then { u with tiles := u.tiles.filter (· != src) } else u

/-- What is owed after an acknowledgement: the messages settled that still wait for a tile. -/
theorem State.mem_takeAck {s : State} {p src n : Nat} {v : Unacked} :
    v ∈ (s.takeAck p src n).link.unacked ↔ (∃ u ∈ s.link.unacked, u.settle p src n = v) ∧ v.tiles ≠ [] := by
  simp only [State.takeAck, List.mem_filter, List.mem_map, bne_iff_ne, ne_eq]
  rfl

theorem State.takeAck_parts (s : State) (p src n : Nat) : OnlyParts [.link] s (s.takeAck p src n) :=
  (Evolves.set_link (ps := [.link]) _ (List.mem_singleton_self _) (.refl _ s)).parts

theorem exec_ackMsg_spec {s : State} {m : MsgHdr} (n x : Nat) (hr : s.tileRole = false) (hh : s.hears m) :
    ∃ t, exec (.ackMsg m n x) s = .next t ∧ OnlyParts [.sent, .link] s t ∧
      (∀ u ∈ t.link.unacked, u.port = m.port → u.seq = n → m.src ∉ u.tiles ∧ u.tiles ≠ []) ∧
      (∀ u ∈ s.link.unacked, ¬ (u.port = m.port ∧ u.seq = n) → u.tiles ≠ [] → u ∈ t.link.unacked) ∧
      ∀ u ∈ s.link.unacked, u.tiles.filter (· != m.src) ≠ [] → u.port = m.port → u.seq = n →
        { u with tiles := u.tiles.filter (· != m.src) } ∈ t.link.unacked := by
  have hexec : exec (.ackMsg m n x) s = .next (((s.heard m (.ack n x)).takeAck m.port m.src n).ackMsg m .ok) := by
    show execAckMsg m n x s = _
    rw [execAckMsg, State.receiveOk_hears _ _ _ hh, if_neg (by simp [hr])]
  have hheard := s.heard_parts m (.ack n x)
  have howed := s.heard_unacked m (.ack n x)
  generalize s.heard m (.ack n x) = a at hexec hheard howed
  have hparts := ((hheard.trans ((a.takeAck_parts m.port m.src n).mono (by simp))).trans
    ((a.takeAck m.port m.src n).ackMsg_parts m .ok))
  refine ⟨_, hexec, hparts, ?_, ?_, ?_⟩ <;> rw [State.ackMsg_unacked]
  · intro v hv hport hseq
    obtain ⟨⟨u, -, rfl⟩, hne⟩ := State.mem_takeAck.mp hv
    refine ⟨?_, hne⟩
    by_cases h : u.port = m.port ∧ u.seq = n
    · rw [Unacked.settle, if_pos h]
      simp
    · rw [Unacked.settle, if_neg h] at hport hseq
      exact absurd ⟨hport, hseq⟩ h
  · intro u hu hother hne
    exact State.mem_takeAck.mpr ⟨⟨u, by rw [howed]; exact hu, if_neg hother⟩, hne⟩
  · intro u hu hne hport hseq
    exact State.mem_takeAck.mpr ⟨⟨u, by rw [howed]; exact hu, if_pos ⟨hport, hseq⟩⟩, hne⟩

/-! A message that waits too long (R261) -/

/-- R261: the cycle in which the wait of a message ends. -/
def State.waited (s : State) (u : Unacked) : State := s.untilCycle (u.sentAt + s.ackWait)

theorem State.waited_parts (s : State) (u : Unacked) : OnlyParts [.cycles, .wall] s (s.waited u) :=
  (State.untilCycle_evolves s _ (List.Subset.refl _) (.refl _ s)).parts

theorem State.waited_cycles (s : State) (u : Unacked) : (s.waited u).cycles = max s.cycles (u.sentAt + (usCycles 20 + 400 * s.hops)) :=
  s.untilCycle_cycles _

/-- R261: what is owed once a message has gone again. -/
def State.sentAgain (s : State) (u : Unacked) : State :=
  { s with link := { s.link with unacked := s.link.unacked.map (fun v =>
      if v = u then { v with tries := v.tries + 1, sentAt := s.cycles } else v) } }

theorem State.sentAgain_parts (s : State) (u : Unacked) : OnlyParts [.link] s (s.sentAgain u) :=
  (Evolves.set_link (ps := [.link]) _ (List.mem_singleton_self _) (.refl _ s)).parts

theorem State.sentAgain_mem {s : State} {u : Unacked} (hu : u ∈ s.link.unacked) :
    { u with tries := u.tries + 1, sentAt := s.cycles } ∈ (s.sentAgain u).link.unacked :=
  List.mem_map.mpr ⟨u, hu, if_pos rfl⟩

theorem State.resendMsg_again {s : State} {u : Unacked} (h : u.tries < 3) :
    s.resendMsg u = ((s.waited u).sentAgain u).send (.link u.port (.msg u.dst (asksAck u.msg) true u.msg)) := by
  rw [State.resendMsg]
  exact if_pos h

/-- A message that is given up is owed no more. -/
def State.givenUp (s : State) (u : Unacked) : State :=
  { s with link := { s.link with unacked := s.link.unacked.filter (fun v => v != u) } }

theorem State.givenUp_parts (s : State) (u : Unacked) : OnlyParts [.link] s (s.givenUp u) :=
  (Evolves.set_link (ps := [.link]) _ (List.mem_singleton_self _) (.refl _ s)).parts

theorem State.givenUp_owed (s : State) (u : Unacked) : u ∉ (s.givenUp u).link.unacked := by
  intro h
  simpa using (List.mem_filter.mp h).2

/-- R261: tiles that are to be brought up to date. -/
def State.markTiles (s : State) (tiles : List Nat) : State :=
  tiles.foldl (fun t n => t.setFlag (F.MLK_SESS_STAT_RESYNC (sessionOf n)) true) s

theorem State.markTiles_cons (s : State) (n : Nat) (l : List Nat) :
    s.markTiles (n :: l) = (s.setFlag (F.MLK_SESS_STAT_RESYNC (sessionOf n)) true).markTiles l := List.foldl_cons ..

/-- Each tile named is marked, and no other field changes. -/
theorem State.markTiles_spec (s : State) (tiles : List Nat) :
    (∀ k ∈ tiles, (s.markTiles tiles).flag (F.MLK_SESS_STAT_RESYNC (sessionOf k)) = true) ∧
      OnlyParts [.regs] s (s.markTiles tiles) ∧
      (∀ g : Fld, g.ok = true → (∀ k ∈ tiles, (F.MLK_SESS_STAT_RESYNC (sessionOf k)).apart g = true) → (s.markTiles tiles).fld g = s.fld g) := by
  have hkeep (u : State) (n k : Nat) (h : u.flag (F.MLK_SESS_STAT_RESYNC (sessionOf k)) = true) :
      (u.setFlag (F.MLK_SESS_STAT_RESYNC (sessionOf n)) true).flag (F.MLK_SESS_STAT_RESYNC (sessionOf k)) = true := by
    by_cases he : sessionOf n = sessionOf k
    · rw [he]
      exact State.flag_setFlag _ _ _ rfl
    · rw [State.flag, u.fld_setFlag_apart _ _ _ rfl rfl (Fld.apart_of_addr (by dsimp only; omega))]
      exact h
  have hmarked (u : State) (l : List Nat) (k : Nat) (h : u.flag (F.MLK_SESS_STAT_RESYNC (sessionOf k)) = true) :
      (u.markTiles l).flag (F.MLK_SESS_STAT_RESYNC (sessionOf k)) = true := by
    induction l generalizing u with
    | nil => exact h
    | cons n l ih =>
      rw [u.markTiles_cons n l]
      exact ih _ (hkeep u n k h)
  induction tiles generalizing s with
  | nil => exact ⟨by simp, .refl _ s, fun _ _ _ => rfl⟩
  | cons n l ih =>
    rw [s.markTiles_cons n l]
    obtain ⟨hflags, hparts, hflds⟩ := ih (s.setFlag (F.MLK_SESS_STAT_RESYNC (sessionOf n)) true)
    refine ⟨fun k hk => ?_, (s.setFlag_parts _ _).trans hparts, fun g hg ha => ?_⟩
    · rcases List.mem_cons.mp hk with rfl | hk
      · exact hmarked _ l k (State.flag_setFlag _ _ _ rfl)
      · exact hflags k hk
    · exact (hflds g hg (fun k hk => ha k (List.mem_cons_of_mem n hk))).trans
        (s.fld_setFlag_apart _ _ _ rfl hg (ha n List.mem_cons_self))

/-- R261: NOACK at a sender, and the tiles that have not answered. -/
def State.noAck (s : State) (tiles : List Nat) : State := if s.senderRole then (s.event F.MLK_EVT_NOACK).markTiles tiles else s

theorem State.noAck_parts (s : State) (tiles : List Nat) : OnlyParts [.regs] s (s.noAck tiles) := by
  unfold State.noAck
  split
  · exact (s.event_parts _).trans (State.markTiles_spec _ tiles).2.1
  · exact .refl _ s

theorem State.noAck_sender {s : State} (hr : s.senderRole = true) (tiles : List Nat) :
    (s.noAck tiles).flag F.MLK_EVT_NOACK = true ∧ ∀ k ∈ tiles, (s.noAck tiles).flag (F.MLK_SESS_STAT_RESYNC (sessionOf k)) = true := by
  rw [State.noAck, if_pos hr]
  have hevent := State.flag_event s F.MLK_EVT_NOACK rfl
  generalize s.event F.MLK_EVT_NOACK = a at hevent
  obtain ⟨hflags, -, hflds⟩ := a.markTiles_spec tiles
  refine ⟨?_, hflags⟩
  rw [State.flag, hflds F.MLK_EVT_NOACK rfl (fun k _ => Fld.apart_of_addr (by dsimp only; omega))]
  exact hevent

/-- R517: what follows for a BARRIER that is given up. -/
def State.lastOf (s : State) : LinkMsg → State
  | .barrier id => s.barrierEnds id
  | _ => s

theorem State.resendMsg_gives {s : State} {u : Unacked} (h : 3 ≤ u.tries) :
    s.resendMsg u = (((s.waited u).givenUp u).noAck u.tiles).lastOf u.msg := by
  rw [State.resendMsg]
  exact if_neg (by omega)

theorem State.lastOf_cycles (s : State) (m : LinkMsg) : (s.lastOf m).cycles = s.cycles := by
  unfold State.lastOf
  split
  · exact (State.barrierEnds_evolves s _ (List.Subset.refl _) (.refl _ s)).parts .cycles (by simp)
  · rfl

theorem State.lastOf_other {m : LinkMsg} (hb : ∀ i, m ≠ .barrier i) (s : State) : s.lastOf m = s := by
  unfold State.lastOf
  split
  · next i => exact absurd rfl (hb i)
  · rfl

theorem State.resendMsg_cycles (s : State) (u : Unacked) : (s.resendMsg u).cycles = (s.waited u).cycles := by
  rcases Nat.lt_or_ge u.tries 3 with h | h
  · rw [State.resendMsg_again h]
    exact (s.waited u).sentAgain_parts u .cycles (by simp)
  · rw [State.resendMsg_gives h, State.lastOf_cycles, State.noAck_parts _ _ .cycles (by simp), State.givenUp_parts _ _ .cycles (by simp)]

theorem exec_messageResend_spec {s : State} {p n : Nat} {u : Unacked}
    (hf : s.link.unacked.find? (fun v => v.port == p && v.seq == n) = some u) :
    ∃ t, exec (.messageResend p n) s = .next t ∧ t.cycles = max s.cycles (u.sentAt + (usCycles 20 + 400 * s.hops)) ∧
      (u.tries < 3 → t.sent = s.sent ++ [.link u.port (.msg u.dst (asksAck u.msg) true u.msg)] ∧
        { u with tries := u.tries + 1, sentAt := t.cycles } ∈ t.link.unacked ∧ OnlyParts [.cycles, .wall, .sent, .link] s t) ∧
      (3 ≤ u.tries → s.senderRole = true → (∀ i, u.msg ≠ .barrier i) → u ∉ t.link.unacked ∧ t.flag F.MLK_EVT_NOACK = true ∧
        (∀ k ∈ u.tiles, t.flag (F.MLK_SESS_STAT_RESYNC (sessionOf k)) = true) ∧ t.sent = s.sent ∧ OnlyParts [.regs, .cycles, .wall, .link] s t) := by
  have hexec : exec (.messageResend p n) s = .next (s.resendMsg u) := by
    show execMessageResend p n s = _
    rw [execMessageResend, hf]
  have hcycles := s.waited_cycles u
  have hwaited := s.waited_parts u
  refine ⟨_, hexec, (s.resendMsg_cycles u).trans hcycles, fun h => ?again, fun h hr hb => ?gives⟩
  case again =>
    rw [State.resendMsg_again h]
    have hu : u ∈ (s.waited u).link.unacked := by
      rw [hwaited .link (by simp)]
      exact List.mem_of_find?_eq_some hf
    generalize s.waited u = a at hwaited hu
    have hmem := State.sentAgain_mem hu
    have hagain := a.sentAgain_parts u
    rw [← hagain .cycles (by simp)] at hmem
    generalize a.sentAgain u = b at hmem hagain
    refine ⟨?_, hmem, (hwaited.mono (by simp)).trans ((hagain.mono (by simp)).trans
      (State.send_evolves (ps₀ := [.cycles, .wall, .sent, .link]) b _ (by simp) (.refl _ b)).parts)⟩
    rw [State.sent_send, hagain .sent (by simp), hwaited .sent (by simp)]
  case gives =>
    rw [State.resendMsg_gives h, State.lastOf_other hb]
    generalize s.waited u = a at hwaited
    have howed := a.givenUp_owed u
    have hgiven := a.givenUp_parts u
    generalize a.givenUp u = b at howed hgiven
    have hrole : b.senderRole = true := (State.senderRole_congr ((hgiven .regs (by simp)).trans (hwaited .regs (by simp)))).trans hr
    obtain ⟨hevt, htiles⟩ := State.noAck_sender hrole u.tiles
    have hnoAck := b.noAck_parts u.tiles
    refine ⟨?_, hevt, htiles, ?_, (hwaited.mono (by simp)).trans ((hgiven.mono (by simp)).trans (hnoAck.mono (by simp)))⟩
    · rw [hnoAck .link (by simp)]
      exact howed
    · rw [hnoAck .sent (by simp), hgiven .sent (by simp), hwaited .sent (by simp)]

end Sys2Proof.Machine
end

section
/-! SUPPORT. A packet and the command that it spells (R505, R510, R516). -/

namespace Sys2Proof.Machine

/-- Two commands that the checks of R510 before their payloads' treat alike. -/
structure SameChecks (x c : HostCmd) : Prop where
  tile : tileHas x = tileHas c
  sender : senderHas x = senderHas c
  answered : ∀ m, answeredIn m x = answeredIn m c
  general : generalOnly x = generalOnly c

theorem SameChecks.refl (c : HostCmd) : SameChecks c c := ⟨rfl, rfl, fun _ => rfl, rfl⟩

/-- The command that stands for an opcode has that opcode. -/
theorem opcodeOf_shapeOf {op : Nat} {c : HostCmd} (h : shapeOf op = some c) : opcodeOf c = op := by
  unfold shapeOf at h
  split at h
  case h_32 =>
    by_cases hop : op / 16 = 7
    · rw [if_pos hop] at h
      obtain rfl := Option.some.inj h
      simp only [opcodeOf]
      omega
    · rw [if_neg hop] at h
      exact absurd h (by simp)
  all_goals
    obtain rfl := Option.some.inj h
    rfl

theorem shapeOf_factory {op : Nat} (h : op / 16 = 7) : shapeOf op = some (.factory (op % 16) []) := by
  obtain ⟨hlo, hhi⟩ : 112 ≤ op ∧ op < 128 := by omega
  interval_cases op <;> rfl

/-- A payload that has been read is of a command of its opcode, which the checks before it treat as they treat the opcode. -/
theorem parseCmd_shapeOf {op : Nat} {p : List Byte} {c : HostCmd} (h : parseCmd op p = some c) :
    ∃ x, shapeOf op = some x ∧ opcodeOf c = op ∧ SameChecks x c := by
  unfold parseCmd at h
  dsimp only at h
  split at h
  case h_22 =>
    split at h
    · next hop =>
      obtain rfl := Option.some.inj h
      refine ⟨_, shapeOf_factory hop, ?_, rfl, rfl, fun _ => rfl, rfl⟩
      simp only [opcodeOf]
      omega
    · split at h
      · exact ⟨c, h, opcodeOf_shapeOf h, .refl c⟩
      · exact absurd h (by simp)
  case h_7 =>
    unfold parseWrite at h
    split at h
    · exact absurd h (by simp)
    · obtain rfl := Option.some.inj h
      exact ⟨_, rfl, rfl, rfl, rfl, fun _ => rfl, rfl⟩
  all_goals
    split at h
    · obtain rfl := Option.some.inj h
      exact ⟨_, rfl, rfl, rfl, rfl, fun _ => rfl, rfl⟩
    · exact absurd h (by simp)

theorem readPayload_spec {op : Nat} {p : List Byte} {c : HostCmd} (h : readPayload op p = some c) : parseCmd op p = some c ∧ lengthOk c = true := by
  obtain ⟨x, hx, hc⟩ := Option.bind_eq_some_iff.mp h
  split at hc
  · next hl =>
    obtain rfl := Option.some.inj hc
    exact ⟨hx, hl⟩
  · exact absurd hc (by simp)

/-- With keys, the checks of a packet are those of the command that it spells. -/
theorem State.judge_sameChecks {s : State} {x c : HostCmd} (hk : s.cmd.comm.isSome = true) (hx : SameChecks x c) (h : Hdr) (op : Nat) :
    s.judge h op (some x) (some c) true true = s.judge h op (some c) (some c) true true := by
  obtain ⟨htile, hsender, hans, hgen⟩ := hx
  simp only [State.judge, State.roleHas, hk, htile, hsender, hans, hgen, if_true]

/-- The engine's answer to a command that comes over the chain. -/
theorem State.submit_chain {s : State} {h : Hdr} {c : HostCmd} {src n : Nat} (hrun : s.engineRuns = true) (hr : s.tileRole = true)
    (hvia : h.via = .chain src n) (hl : lengthOk c = true) : s.submit h c = s.judge h (opcodeOf c) (some c) (some c) true true := by
  have hreach : s.reaches h.via = true := by rw [hvia]; exact hr
  rw [State.submit, hrun, hreach, hl, hvia]
  rfl

/-- A good packet that comes over the chain does what its command does. -/
theorem State.takePacket_chain {s : State} {a : Auth} {src n : Nat} {bs : List Byte} {c : HostCmd} (hrun : s.engineRuns = true)
    (hr : s.tileRole = true) (hf : s.framed bs = true) (hcrc : crcGood bs = true) (ha : authOf (leAt bs 5 1) = some a)
    (hk : s.cmd.comm.isSome = true) (htag : s.tagGood a bs = true) (hfields : fieldsGood bs = true)
    (hp : readPayload (leAt bs 2 2) (sub bs 16 (leAt bs 10 3)) = some c)
    (hstep : isStep (.chain src n) (leAt bs 2 2) (sub bs 16 (leAt bs 10 3)) = false) :
    s.takePacket (.chain src n) bs = s.submit (packetHdr a (.chain src n) bs) c := by
  obtain ⟨hparse, hl⟩ := readPayload_spec hp
  obtain ⟨x, hshape, hop, hsame⟩ := parseCmd_shapeOf hparse
  rw [State.submit_chain hrun hr rfl hl, State.takePacket]
  simp only [hf, hcrc, ha, hstep, hp, htag, hfields, hshape, Bool.and_self, Bool.not_true, Bool.false_and, Bool.false_eq_true, if_false]
  rw [State.judge_sameChecks hk hsame, hop]

end Sys2Proof.Machine
end

section
/-! SUPPORT. Segments that gather to packets (R246, R519). -/

namespace Sys2Proof.Machine

theorem gatherOf_src (l : List Gather) (src : Nat) : (gatherOf l src).src = src := by
  unfold gatherOf
  cases h : l.find? (fun g => g.src == src) with
  | none => rfl
  | some g => simpa using List.find?_some h

/-- The first segment that is held of a source. -/
theorem addPart_first {l : List Gather} {m : MsgHdr} (h : (gatherOf l m.src).parts = []) (seg : List Byte) (now : Nat) :
    addPart l m seg now = ⟨m.src, [(m.seq, m.more, seg)], now⟩ := by
  rw [addPart, h, gatherOf_src, List.nil_append]

/-- What is held of a source reads as it was put. -/
theorem gatherOf_putGather (l : List Gather) {g : Gather} (h : g.parts ≠ []) : gatherOf (putGather l g) g.src = g := by
  have hother : (l.filter (fun x => x.src != g.src)).find? (fun x => x.src == g.src) = none :=
    List.find?_eq_none.mpr (fun y hy => by simpa using (List.mem_filter.mp hy).2)
  rw [gatherOf, putGather, if_neg (by simpa using h), List.find?_append, hother]
  simp

/-- A segment with MORE is no whole packet. -/
theorem State.wholePacket_more (s : State) (src q c : Nat) (seg : List Byte) : s.wholePacket ⟨src, [(q, true, seg)], c⟩ = none := rfl

/-- A segment that ends a packet and begins one is the whole packet. -/
theorem State.wholePacket_single (s : State) (src q c : Nat) {seg : List Byte} (h : leAt seg 0 2 = 0x01A9) :
    s.wholePacket ⟨src, [(q, false, seg)], c⟩ = some ([q], seg) := by
  have hrun : runTo [(q, false, seg)] 1 (prevMsgSeq q) = [] := by simp [runTo]
  simp [State.wholePacket, hrun, h]

theorem State.framed_mark {s : State} {bs : List Byte} (h : s.framed bs = true) : leAt bs 0 2 = 0x01A9 ∧ 20 ≤ bs.length ∧
    bs.length = 20 + s.tagLen + leAt bs 10 3 := by
  simp only [State.framed, Bool.and_eq_true, decide_eq_true_eq, beq_iff_eq] at h
  obtain ⟨⟨⟨-, hmark⟩, -⟩, hlen⟩ := h
  exact ⟨hmark, by omega, hlen⟩

/-- The segments that a tile holds of the senders. -/
def State.setGathers (s : State) (l : List Gather) : State := { s with link := { s.link with gathers := l } }

/-- The segments that a sender holds of the tiles. -/
def State.setRspGathers (s : State) (l : List Gather) : State := { s with link := { s.link with rspGathers := l } }

theorem State.setGathers_parts (s : State) (l : List Gather) : OnlyParts [.link] s (s.setGathers l) :=
  (Evolves.set_link (ps := [.link]) _ (List.mem_singleton_self _) (.refl _ s)).parts

theorem State.setRspGathers_parts (s : State) (l : List Gather) : OnlyParts [.link] s (s.setRspGathers l) :=
  (Evolves.set_link (ps := [.link]) _ (List.mem_singleton_self _) (.refl _ s)).parts

section
variable {s : State} {m : MsgHdr} {seg : List Byte}

theorem State.cmdSegment_more (hg : (gatherOf s.link.gathers m.src).parts = []) (hm : m.more = true) :
    s.cmdSegment m seg = s.setGathers (putGather s.link.gathers ⟨m.src, [(m.seq, true, seg)], s.cycles⟩) := by
  rw [State.cmdSegment, addPart_first hg, hm, State.wholePacket_more]
  rfl

theorem State.cmdSegment_whole (hg : (gatherOf s.link.gathers m.src).parts = []) (hm : m.more = false) (hf : s.framed seg = true) :
    ∃ l, s.cmdSegment m seg =
      if (s.setGathers l).engineRuns = true then (s.setGathers l).takePacket (.chain m.src m.seq) seg else s.setGathers l := by
  rw [State.cmdSegment, addPart_first hg, hm, State.wholePacket_single _ _ _ _ (State.framed_mark hf).1]
  exact ⟨_, rfl⟩

theorem State.rspSegment_more (hg : (gatherOf s.link.rspGathers m.src).parts = []) (hm : m.more = true) :
    s.rspSegment m seg = s.setRspGathers (putGather s.link.rspGathers ⟨m.src, [(m.seq, true, seg)], s.cycles⟩) := by
  rw [State.rspSegment, addPart_first hg, hm, State.wholePacket_more]
  rfl

theorem State.rspSegment_whole (hg : (gatherOf s.link.rspGathers m.src).parts = []) (hm : m.more = false) (hf : s.framed seg = true) :
    ∃ l, s.rspSegment m seg = (s.setRspGathers l).tilePacket m.src seg := by
  rw [State.rspSegment, addPart_first hg, hm, State.wholePacket_single _ _ _ _ (State.framed_mark hf).1]
  exact ⟨_, rfl⟩

end

/-! What a message keeps of the segments held -/

theorem State.heard_gathers (s : State) (m : MsgHdr) (b : LinkMsg) :
    (s.heard m b).link.gathers = s.link.gathers ∧ (s.heard m b).link.rspGathers = s.link.rspGathers := by
  obtain ⟨ports, seen, h⟩ := s.heard_link m b
  rw [h]
  exact ⟨rfl, rfl⟩

theorem State.ackMsg_gathers (s : State) (m : MsgHdr) (x : Status) :
    (s.ackMsg m x).link.gathers = s.link.gathers ∧ (s.ackMsg m x).link.rspGathers = s.link.rspGathers := by
  obtain ⟨ports, own, h⟩ := s.ackMsg_link m x
  rw [h]
  exact ⟨rfl, rfl⟩

theorem Grows.setGathers (s : State) (l : List Gather) : Grows s (s.setGathers l) := ⟨rfl, List.prefix_rfl, List.prefix_rfl⟩

theorem Grows.setRspGathers (s : State) (l : List Gather) : Grows s (s.setRspGathers l) := ⟨rfl, List.prefix_rfl, List.prefix_rfl⟩

end Sys2Proof.Machine
end

section
/-! SUPPORT. CMD and RSP (R246, R519). -/

namespace Sys2Proof.Machine

section
variable {s : State} {m : MsgHdr} {seg : List Byte}

theorem exec_cmdMsg_more (hr : s.tileRole = true) (hh : s.hears m) (hg : (gatherOf s.link.gathers m.src).parts = []) (hm : m.more = true) :
    ∃ t, exec (.cmdMsg m seg) s = .next t ∧ (gatherOf t.link.gathers m.src).parts = [(m.seq, true, seg)] ∧
      (gatherOf t.link.gathers m.src).last = s.cycles ∧ Acked s t m .ok ∧ OnlyParts [.sent, .link] s t := by
  have hexec : exec (.cmdMsg m seg) s = .next (((s.heard m (.cmd seg m.more)).cmdSegment m seg).ackMsg m .ok) := by
    show execCmdMsg m seg s = _
    rw [execCmdMsg, State.receiveOk_hears _ _ _ hh, if_pos (by rw [State.heard_tileRole]; exact hr)]
  have hheard := s.heard_parts m (.cmd seg m.more)
  have hgrows := Grows.heard s m (.cmd seg m.more)
  have hheld := (s.heard_gathers m (.cmd seg m.more)).1
  generalize s.heard m (.cmd seg m.more) = a at hexec hheard hgrows hheld
  rw [State.cmdSegment_more (by rw [hheld]; exact hg) hm] at hexec
  have hput := a.setGathers_parts (putGather a.link.gathers ⟨m.src, [(m.seq, true, seg)], a.cycles⟩)
  have hput' := Grows.setGathers a (putGather a.link.gathers ⟨m.src, [(m.seq, true, seg)], a.cycles⟩)
  have hgather : gatherOf (a.setGathers (putGather a.link.gathers ⟨m.src, [(m.seq, true, seg)], a.cycles⟩)).link.gathers m.src =
      ⟨m.src, [(m.seq, true, seg)], a.cycles⟩ := gatherOf_putGather a.link.gathers (g := ⟨m.src, [(m.seq, true, seg)], a.cycles⟩) (by simp)
  generalize a.setGathers (putGather a.link.gathers ⟨m.src, [(m.seq, true, seg)], a.cycles⟩) = b at hexec hput hput' hgather
  refine ⟨_, hexec, ?_, ?_, (b.ackMsg_acked m .ok).after (hgrows.trans hput'), (hheard.trans (hput.mono (by simp))).trans (b.ackMsg_parts m .ok)⟩
  · rw [(b.ackMsg_gathers m .ok).1, hgather]
  · rw [(b.ackMsg_gathers m .ok).1, hgather, ← hheard .cycles (by simp)]

/-- R246: a packet that is whole and good does at a tile what its command does. -/
theorem exec_cmdMsg_whole {a : Auth} {c : HostCmd} {i : Instr} (hr : s.tileRole = true) (hh : s.hears m)
    (hg : (gatherOf s.link.gathers m.src).parts = []) (hm : m.more = false) (hrun : s.engineRuns = true) (hf : s.framed seg = true)
    (hcrc : crcGood seg = true) (ha : authOf (leAt seg 5 1) = some a) (hk : s.cmd.comm.isSome = true) (htag : s.tagGood a seg = true)
    (hfields : fieldsGood seg = true) (hp : readPayload (leAt seg 2 2) (sub seg 16 (leAt seg 10 3)) = some c)
    (hstep : isStep (.chain m.src m.seq) (leAt seg 2 2) (sub seg 16 (leAt seg 10 3)) = false)
    (hi : hostCmdOf i = some (packetHdr a (.chain m.src m.seq) seg, c)) :
    ∃ u v t, OnlyParts [.sent, .link] s u ∧ exec i u = .next v ∧ exec (.cmdMsg m seg) s = .next t ∧ OnlyParts [.sent, .link] v t := by
  have hexec : exec (.cmdMsg m seg) s = .next (((s.heard m (.cmd seg m.more)).cmdSegment m seg).ackMsg m .ok) := by
    show execCmdMsg m seg s = _
    rw [execCmdMsg, State.receiveOk_hears _ _ _ hh, if_pos (by rw [State.heard_tileRole]; exact hr)]
  have hheard := s.heard_parts m (.cmd seg m.more)
  have hheld := (s.heard_gathers m (.cmd seg m.more)).1
  generalize s.heard m (.cmd seg m.more) = b at hexec hheard hheld
  have hcmdEq : b.cmd = s.cmd := hheard .cmd (by simp)
  have hframed : b.framed seg = true := by
    rw [State.framed, State.tagLen, hcmdEq]
    exact hf
  obtain ⟨l, hwhole⟩ := State.cmdSegment_whole (s := b) (by rw [hheld]; exact hg) hm hframed
  rw [hwhole] at hexec
  have hparts := hheard.trans ((b.setGathers_parts l).mono (qs := [.sent, .link]) (by simp))
  generalize b.setGathers l = u at hexec hparts
  have hregs : u.regs = s.regs := hparts .regs (by simp)
  have hcmd : u.cmd = s.cmd := hparts .cmd (by simp)
  have hrun' : u.engineRuns = true := by
    rw [State.engineRuns, State.mode_of_regs hregs, hparts .rst (by simp)]
    exact hrun
  have htag' : u.tagGood a seg = true := by
    have hkey : u.keyOf a = s.keyOf a := by simp only [State.keyOf, hcmd]
    rw [State.tagGood, hkey, State.tagLen, hcmd]
    exact htag
  rw [if_pos hrun', State.takePacket_chain hrun' ((State.tileRole_congr hregs).trans hr) (by rw [State.framed, State.tagLen, hcmd]; exact hf) hcrc ha
    (by rw [hcmd]; exact hk) htag' hfields hp hstep] at hexec
  exact ⟨u, _, _, hparts, exec_hostCmd u i _ c hi, hexec, State.ackMsg_parts _ m .ok⟩

theorem exec_rspMsg_more (hr : s.senderRole = true) (hh : s.hears m) (hg : (gatherOf s.link.rspGathers m.src).parts = []) (hm : m.more = true) :
    ∃ t, exec (.rspMsg m seg) s = .next t ∧ (gatherOf t.link.rspGathers m.src).parts = [(m.seq, true, seg)] ∧ Acked s t m .ok ∧
      OnlyParts [.sent, .link] s t := by
  have hexec : exec (.rspMsg m seg) s = .next (((s.heard m (.rsp seg m.more)).rspSegment m seg).ackMsg m .ok) := by
    show execRspMsg m seg s = _
    rw [execRspMsg, State.receiveOk_hears _ _ _ hh, if_pos (by rw [State.heard_senderRole]; exact hr)]
  have hheard := s.heard_parts m (.rsp seg m.more)
  have hgrows := Grows.heard s m (.rsp seg m.more)
  have hheld := (s.heard_gathers m (.rsp seg m.more)).2
  generalize s.heard m (.rsp seg m.more) = a at hexec hheard hgrows hheld
  rw [State.rspSegment_more (by rw [hheld]; exact hg) hm] at hexec
  have hput := a.setRspGathers_parts (putGather a.link.rspGathers ⟨m.src, [(m.seq, true, seg)], a.cycles⟩)
  have hput' := Grows.setRspGathers a (putGather a.link.rspGathers ⟨m.src, [(m.seq, true, seg)], a.cycles⟩)
  have hgather : gatherOf (a.setRspGathers (putGather a.link.rspGathers ⟨m.src, [(m.seq, true, seg)], a.cycles⟩)).link.rspGathers m.src =
      ⟨m.src, [(m.seq, true, seg)], a.cycles⟩ := gatherOf_putGather a.link.rspGathers (g := ⟨m.src, [(m.seq, true, seg)], a.cycles⟩) (by simp)
  generalize a.setRspGathers (putGather a.link.rspGathers ⟨m.src, [(m.seq, true, seg)], a.cycles⟩) = b at hexec hput hput' hgather
  refine ⟨_, hexec, ?_, (b.ackMsg_acked m .ok).after (hgrows.trans hput'), (hheard.trans (hput.mono (by simp))).trans (b.ackMsg_parts m .ok)⟩
  rw [(b.ackMsg_gathers m .ok).2, hgather]

end

end Sys2Proof.Machine
end

section
/-! SUPPORT. What a response leaves of the engine and of the messages owed (R507, R246), and a tile's response at a sender (R519). -/

namespace Sys2Proof.Machine

/-- A response that is delivered changes only the one that the host SPI port holds. -/
theorem State.deliver_cmd (s : State) (via : Transport) (bs : List Byte) : ∃ held, (s.deliver via bs).cmd = { s.cmd with held := held } := by
  unfold State.deliver
  split
  · exact ⟨some bs, State.event_parts _ _ .cmd (by simp)⟩
  · next p ip up xid =>
    exact ⟨s.cmd.held, (Evolves.foldl (ps := [.sent]) _ _ _ (fun u x => State.send_evolves u _ (List.Subset.refl _) (.refl _ u))
      (.refl _ s)).parts .cmd (by simp)⟩
  · exact ⟨s.cmd.held, (Evolves.foldl (ps := [.sent, .link]) _ _ _ (fun u x => State.sendMsg_evolves u _ _ _ _ (List.Subset.refl _) (.refl _ u))
      (.refl _ s)).parts .cmd (by simp)⟩

theorem State.answer_cmd (s : State) (h : Hdr) (op : Nat) (r : Reply) : ∃ held, (s.answer h op r).cmd = { s.cmd with held := held } := by
  have hcmd : ((if r.status = .errSeq then s.event F.SYS_CMD_EVT_SEQ_ERR else s).send (.reply h op r)).cmd = s.cmd := by
    split
    · exact s.event_parts F.SYS_CMD_EVT_SEQ_ERR .cmd (by simp)
    · rfl
  rw [State.answer, ← hcmd]
  exact State.deliver_cmd _ _ _

theorem State.respond_cmd (s : State) (h : Hdr) (op : Nat) (r : Reply) : ∃ held, (s.respond h op r).cmd = { s.cmd with held := held } := by
  rw [← s.setAuth_parts h.auth { s.auth h.auth with actions := recordReply h op r (s.auth h.auth).actions } .cmd (by simp)]
  exact State.answer_cmd _ h op r

/-- A message that is sent is all that is owed anew. -/
theorem State.sendMsg_owed {s : State} {p dst : Nat} {m : LinkMsg} {tiles : List Nat} {u : Unacked}
    (h : u ∈ (s.sendMsg p dst m tiles).link.unacked) : u ∈ s.link.unacked ∨ u.msg = m := by
  unfold State.sendMsg at h
  split at h
  · exact .inl h
  · obtain ⟨-, -, -, hunacked, -⟩ := s.emitMsg_spec p dst m tiles
    rw [hunacked] at h
    rcases List.mem_append.mp h with h | h
    · exact .inl h
    · split at h
      · exact .inr (by rw [List.mem_singleton.mp h])
      · exact absurd h (by simp)

/-- What a response owes anew is segments of responses. -/
theorem State.deliver_owed {s : State} {via : Transport} {bs : List Byte} {u : Unacked} (h : u ∈ (s.deliver via bs).link.unacked) :
    u ∈ s.link.unacked ∨ ∃ seg more, u.msg = .rsp seg more := by
  unfold State.deliver at h
  split at h
  · rw [State.event_parts _ _ .link (by simp)] at h
    exact .inl h
  · rw [(Evolves.foldl (ps := [.sent]) _ _ _ (fun u x => State.send_evolves u _ (List.Subset.refl _) (.refl _ u)) (.refl _ s)).parts .link (by simp)] at h
    exact .inl h
  · generalize withMore 256 bs = l at h
    induction l generalizing s with
    | nil => exact .inl h
    | cons g l ih =>
      rcases ih h with h | h
      · rcases State.sendMsg_owed h with h | h
        · exact .inl h
        · exact .inr ⟨_, _, h⟩
      · exact .inr h

theorem State.respond_owed {s : State} {h : Hdr} {op : Nat} {r : Reply} {u : Unacked} (hu : u ∈ (s.respond h op r).link.unacked) :
    u ∈ s.link.unacked ∨ ∃ seg more, u.msg = .rsp seg more := by
  have hlink := s.setAuth_parts h.auth { s.auth h.auth with actions := recordReply h op r (s.auth h.auth).actions } .link (by simp)
  unfold State.respond State.answer at hu
  dsimp only at hu
  generalize s.setAuth h.auth { s.auth h.auth with actions := recordReply h op r (s.auth h.auth).actions } = a at hu hlink
  have hevent : (if r.status = .errSeq then a.event F.SYS_CMD_EVT_SEQ_ERR else a).link = s.link := by
    rw [← hlink]
    split
    · exact a.event_parts _ .link (by simp)
    · rfl
  generalize (if r.status = .errSeq then a.event F.SYS_CMD_EVT_SEQ_ERR else a) = b at hu hevent
  have hsend : (b.send (.reply h op r)).link = s.link := hevent
  rcases State.deliver_owed hu with hu | hu
  · exact .inl (by rwa [hsend] at hu)
  · exact .inr hu

/-! Silence of reception -/

theorem State.heard_silent (s : State) (m : MsgHdr) (b : LinkMsg) : Silent s (s.heard m b) := by
  refine ⟨s.relayed m b, s.heard_sent m b, fun o ho => ?_⟩
  unfold State.relayed at ho
  split at ho
  · rw [List.mem_singleton.mp ho]
    rfl
  · exact absurd ho (by simp)

theorem State.ackMsg_silent (s : State) (m : MsgHdr) (x : Status) : Silent s (s.ackMsg m x) := by
  unfold State.ackMsg
  split
  · exact (s.sendMsg_regs _ _ _ _).2
  · exact .refl s

/-! A tile's response (R519, R520) -/

theorem State.pushAnswers_idle {s : State} (h : s.cmd.pushes = []) (tile : Nat) (bs : List Byte) : s.pushAnswers tile bs = s := by
  rw [State.pushAnswers, h]
  rfl

theorem State.dropTileCmd_parts (s : State) (w : TileCmdWait) : OnlyParts [.cmd] s (s.dropTileCmd w) :=
  (Evolves.set_cmd (ps := [.cmd]) _ (List.mem_singleton_self _) (.refl _ s)).parts

/-- R520: the tile's response answers a TILE_CMD to one tile. -/
theorem State.tilePacket_single {s : State} {tile : Nat} {bs : List Byte} {w : TileCmdWait} (hf : s.framed bs = true) (hp : s.cmd.pushes = [])
    (hw : s.cmd.tileCmds.find? (fun w => w.tiles.contains tile && leAt bs 5 1 == authCode w.hdr.auth && leAt bs 2 2 == w.op + 0x8000 &&
      leAt bs 6 4 == w.seq) = some w) (h1 : w.single = true) :
    s.tilePacket tile bs = (s.dropTileCmd w).respond w.hdr 0x0060 (okReply bs) := by
  obtain ⟨hmark, hlen, hwhole⟩ := State.framed_mark hf
  have hans : s.tileAnswers tile bs = (s.dropTileCmd w).respond w.hdr 0x0060 (okReply bs) := by
    rw [State.tileAnswers, hw]
    exact if_pos h1
  obtain ⟨held, hcmd⟩ := (s.dropTileCmd w).respond_cmd w.hdr 0x0060 (okReply bs)
  rw [State.tilePacket, if_pos (by simp [hmark, hlen, ← hwhole]), hans]
  exact State.pushAnswers_idle (by rw [hcmd]; exact hp) tile bs

theorem exec_rspMsg_whole {s : State} {m : MsgHdr} {seg : List Byte} {w : TileCmdWait} (hr : s.senderRole = true) (hh : s.hears m)
    (hg : (gatherOf s.link.rspGathers m.src).parts = []) (hm : m.more = false) (hf : s.framed seg = true) (hp : s.cmd.pushes = [])
    (hw : s.cmd.tileCmds.find? (fun w => w.tiles.contains m.src && leAt seg 5 1 == authCode w.hdr.auth && leAt seg 2 2 == w.op + 0x8000 &&
      leAt seg 6 4 == w.seq) = some w) (h1 : w.single = true) :
    ∃ t, exec (.rspMsg m seg) s = .next t ∧ Answers s t w.hdr 0x0060 (okReply seg) ∧
      OnlyParts [.regs, .sent, .gen, .gnt, .cmd, .link] s t ∧ OnlyFlds [F.SYS_CMD_EVT_RSP_READY] s t := by
  have hexec : exec (.rspMsg m seg) s = .next (((s.heard m (.rsp seg m.more)).rspSegment m seg).ackMsg m .ok) := by
    show execRspMsg m seg s = _
    rw [execRspMsg, State.receiveOk_hears _ _ _ hh, if_pos (by rw [State.heard_senderRole]; exact hr)]
  have hheard := s.heard_parts m (.rsp seg m.more)
  have hheld := (s.heard_gathers m (.rsp seg m.more)).2
  have hsilent := s.heard_silent m (.rsp seg m.more)
  generalize s.heard m (.rsp seg m.more) = a at hexec hheard hheld hsilent
  have hcmd : a.cmd = s.cmd := hheard .cmd (by simp)
  obtain ⟨l, hwhole⟩ := State.rspSegment_whole (s := a) (by rw [hheld]; exact hg) hm (by rw [State.framed, State.tagLen, hcmd]; exact hf)
  rw [hwhole] at hexec
  have hset := a.setRspGathers_parts l
  have hquiet : Silent a (a.setRspGathers l) := .of_sent rfl
  generalize a.setRspGathers l = b at hexec hset hquiet
  have hcmd' : b.cmd = s.cmd := (hset .cmd (by simp)).trans hcmd
  rw [State.tilePacket_single (by rw [State.framed, State.tagLen, hcmd']; exact hf) (by rw [hcmd']; exact hp) (by rw [hcmd']; exact hw) h1] at hexec
  have hdrop := b.dropTileCmd_parts w
  have hmute : Silent b (b.dropTileCmd w) := .of_sent rfl
  generalize b.dropTileCmd w = c at hexec hdrop hmute
  have hans := c.respond_answers w.hdr 0x0060 (okReply seg)
  have hflds := c.respond_flds_ok w.hdr 0x0060 (okReply seg) (by simp [okReply])
  have hparts := c.respond_parts w.hdr 0x0060 (okReply seg)
  generalize c.respond w.hdr 0x0060 (okReply seg) = d at hexec hans hflds hparts
  have hack := d.ackMsg_parts m .ok
  refine ⟨_, hexec, ((hans.before (d.ackMsg_silent m .ok)).after hmute).after (hsilent.trans hquiet),
    (hheard.mono (by simp)).trans ((hset.mono (by simp)).trans ((hdrop.mono (by simp)).trans ((hparts.mono (by simp [answerParts])).trans
      (hack.mono (by simp))))), ?_⟩
  have hregs : c.regs = s.regs := (hdrop .regs (by simp)).trans ((hset .regs (by simp)).trans (hheard .regs (by simp)))
  exact (OnlyFlds.of_regs hregs).trans (hflds.trans (.of_regs (hack .regs (by simp))))

/-! Partial packets (R246) -/

/-- What is held of a source is held no more. -/
def State.dropGathers (s : State) (src : Nat) : State :=
  { s with link := { s.link with
    gathers := s.link.gathers.filter (fun x => x.src != src)
    rspGathers := s.link.rspGathers.filter (fun x => x.src != src) } }

theorem exec_cmdPartialTimeout_spec {s : State} {src : Nat} {g : Gather}
    (hg : (s.link.gathers ++ s.link.rspGathers).find? (fun x => x.src == src) = some g) :
    ∃ t, exec (.cmdPartialTimeout src) s = .next t ∧ t.cycles = max s.cycles (g.last + msCycles 10) ∧
      (∀ x ∈ t.link.gathers ++ t.link.rspGathers, x.src ≠ src) ∧ OnlyParts [.cycles, .wall, .link] s t := by
  have hexec : exec (.cmdPartialTimeout src) s = .next ((s.untilCycle (g.last + msCycles 10)).dropGathers src) := by
    show execCmdPartialTimeout src s = _
    rw [execCmdPartialTimeout, hg]
    rfl
  have huntil : OnlyParts [.cycles, .wall] s (s.untilCycle (g.last + msCycles 10)) :=
    (State.untilCycle_evolves s _ (List.Subset.refl _) (.refl _ s)).parts
  have hcycles := s.untilCycle_cycles (g.last + msCycles 10)
  generalize s.untilCycle (g.last + msCycles 10) = a at hexec huntil hcycles
  have hdrop : OnlyParts [.link] a (a.dropGathers src) := (Evolves.set_link (ps := [.link]) _ (List.mem_singleton_self _) (.refl _ a)).parts
  refine ⟨_, hexec, (hdrop .cycles (by simp)).trans hcycles, fun x hx => ?_, (huntil.mono (by simp)).trans (hdrop.mono (by simp))⟩
  rcases List.mem_append.mp hx with hx | hx <;> simpa using (List.mem_filter.mp hx).2

end Sys2Proof.Machine
end

section
/-! SUPPORT. HATBAND, SNAPSHOT and RESET at a tile (R356, R386, R403), and SNAPSHOT_DONE. -/

namespace Sys2Proof.Machine

/-- A message whose effect at a tile has a status of its own. -/
theorem State.receive_tile {s : State} {m : MsgHdr} {b : LinkMsg} (f : State → State × Status) (hr : s.tileRole = true) (hh : s.hears m) :
    s.receive m b false (fun u => if u.tileRole = true then f u else (u, .ok)) = (f (s.heard m b)).1.ackMsg m (f (s.heard m b)).2 := by
  rw [State.receive_hears _ _ _ hh, if_pos (by rw [State.heard_tileRole]; exact hr)]

/-- What is acknowledged after a device has acted on a message. -/
theorem Acked.of_act {s u v : State} {m : MsgHdr} {ps : List Part} (x : Status) (hu : OnlyParts [.sent, .link] s u) (hg : Grows s u)
    (hv : OnlyParts ps u v) (hgv : Grows u v) : Acked s (v.ackMsg m x) m x ∧ OnlyParts ([.sent, .link] ++ ps) s (v.ackMsg m x) :=
  ⟨(v.ackMsg_acked m x).after (hg.trans hgv), (hu.mono (List.subset_append_left _ _)).trans ((hv.mono (List.subset_append_right _ _)).trans
    ((v.ackMsg_parts m x).mono (List.subset_append_left _ _)))⟩

/-! Actions that enter the schedule (R403) -/

/-- R403: an action enters the schedule. -/
def State.pushAction (s : State) (e : SchedEntry) : State := { s with sched := s.sched ++ [e] }

theorem State.pushAction_parts (s : State) (e : SchedEntry) : OnlyParts [.sched] s (s.pushAction e) :=
  (Evolves.set_sched (ps := [.sched]) _ (List.mem_singleton_self _) (.refl _ s)).parts

theorem Grows.pushAction (s : State) (e : SchedEntry) : Grows s (s.pushAction e) := ⟨rfl, List.prefix_rfl, List.prefix_rfl⟩

section
variable {s : State} {e : SchedEntry}

theorem State.scheduleHere_new (hn : s.sched.any (sameAction e) = false) (hd : e.due ≤ s.wall + 86400 * 10 ^ 9 * nsUnit) (hf : s.schedFull = false) :
    s.scheduleHere e = (s.pushAction e, .ok) := by
  rw [State.scheduleHere, if_neg (by rw [hn]; decide), if_neg (Nat.not_lt.mpr hd), if_neg (by rw [hf]; decide), State.addAction,
    if_neg (by rw [hn]; decide)]
  rfl

theorem State.scheduleHere_far (hn : s.sched.any (sameAction e) = false) (hd : s.wall + 86400 * 10 ^ 9 * nsUnit < e.due) :
    s.scheduleHere e = (s, .errRange) := by
  rw [State.scheduleHere, if_neg (by rw [hn]; decide), if_pos hd]

theorem State.takeAction_late {t : TimeField} (ht : timeOk t = true) (hn : s.sched.any (sameAction e) = false) (hd : e.due < s.wall) :
    s.takeAction t e = (s, .errLate) := by
  rw [State.takeAction, if_neg (by rw [ht]; decide), if_pos ⟨hd, hn⟩]

theorem State.takeAction_ahead {t : TimeField} (ht : timeOk t = true) (hd : s.wall ≤ e.due) : s.takeAction t e = s.scheduleHere e := by
  rw [State.takeAction, if_neg (by rw [ht]; decide), if_neg (fun h => absurd h.1 (Nat.not_lt.mpr hd))]

end

/-! HATBAND (R356, R386) -/

section
variable {s : State} {q id mask : Nat} {td : TimeField}

theorem State.takeHatband_scheduled (ht : timeOk td = true) (hn : s.sched.any (sameAction ⟨timeWall td, q, .hatband 1 id mask, false⟩) = false)
    (hd : timeWall td ≤ s.wall + 86400 * 10 ^ 9 * nsUnit) (hf : s.schedFull = false) :
    s.takeHatband q td 1 id mask =
      (s.pushAction ⟨timeWall td, q, .hatband 1 id mask, false⟩, if timeWall td < s.wall then .errLate else .ok) := by
  rw [State.takeHatband]
  dsimp only
  rw [if_neg (by decide), if_neg (by simp [ht]), State.scheduleHere_new hn hd hf]
  simp only [true_and]

theorem State.takeHatband_flip (h : s.isFlipTime (timeWall td) = true) : s.takeHatband q td 2 id mask = (s, .ok) := by
  rw [State.takeHatband]
  dsimp only
  rw [if_pos rfl, if_pos h]

theorem State.takeHatband_noFlip (h : s.isFlipTime (timeWall td) = false) :
    s.takeHatband q td 2 id mask = (s.event F.LMB_EVT_HATBAND_REJ, .errRange) := by
  rw [State.takeHatband]
  dsimp only
  rw [if_pos rfl, if_neg (by rw [h]; decide)]

theorem State.takeHatband_badKind {kind : Nat} (h1 : kind ≠ 1) (h2 : kind ≠ 2) : s.takeHatband q td kind id mask = (s, .errRange) := by
  rw [State.takeHatband]
  dsimp only
  rw [if_neg h2, if_pos (.inl h1)]

end

/-- A state that differs from another in what is sent and in the link has the same flips. -/
theorem State.isFlipTime_congr {s t : State} (h : OnlyParts [.sent, .link] s t) (w : Nat) : t.isFlipTime w = s.isFlipTime w := by
  have hsame : SameEffect s t :=
    ⟨fun g _ => State.fld_congr (h .regs (by simp)) g, h .flip (by simp), h .wall (by simp), h .fresh (by simp)⟩
  simp only [State.isFlipTime, hsame.flipTime, hsame.nextFlip, hsame.flip]

section
variable {s : State} {m : MsgHdr}

theorem exec_hatbandMessage_spec (td : TimeField) (kind id mask : Nat) (hr : s.tileRole = true) (hh : s.hears m) :
    let e : SchedEntry := ⟨timeWall td, m.seq, .hatband kind id mask, false⟩
    ∃ t, exec (.hatbandMessage m td kind id mask) s = .next t ∧
      (kind = 1 → timeOk td = true → s.sched.any (sameAction e) = false → timeWall td ≤ s.wall + 86400 * 10 ^ 9 * nsUnit → s.schedFull = false →
        t.sched = s.sched ++ [e] ∧ Acked s t m (if timeWall td < s.wall then .errLate else .ok) ∧ OnlyParts [.sent, .link, .sched] s t) ∧
      (kind = 2 → s.isFlipTime (timeWall td) = false → t.flag F.LMB_EVT_HATBAND_REJ = true ∧ Acked s t m .errRange ∧
        OnlyParts [.regs, .sent, .link] s t ∧ OnlyFlds [F.LMB_EVT_HATBAND_REJ] s t) ∧
      (kind = 2 → s.isFlipTime (timeWall td) = true → Acked s t m .ok ∧ OnlyParts [.sent, .link] s t) ∧
      (kind ≠ 1 → kind ≠ 2 → Acked s t m .errRange ∧ OnlyParts [.sent, .link] s t) := by
  dsimp only
  have hexec : exec (.hatbandMessage m td kind id mask) s = .next (((s.heard m (.hatband td kind id mask)).takeHatband m.seq td kind id mask).1.ackMsg m
      ((s.heard m (.hatband td kind id mask)).takeHatband m.seq td kind id mask).2) :=
    congrArg _ (State.receive_tile (fun u => u.takeHatband m.seq td kind id mask) hr hh)
  have hheard := s.heard_parts m (.hatband td kind id mask)
  have hgrows := Grows.heard s m (.hatband td kind id mask)
  have hheld := s.heard_heldSets m (.hatband td kind id mask)
  generalize s.heard m (.hatband td kind id mask) = u at hexec hheard hgrows hheld
  have hregs := hheard .regs (by simp)
  have hsched := hheard .sched (by simp)
  have hwall := hheard .wall (by simp)
  refine ⟨_, hexec, ?_, ?_, ?_, ?_⟩
  · rintro rfl ht hn hd hf
    rw [State.takeHatband_scheduled ht (by rw [hsched]; exact hn) (by rw [hwall]; exact hd)
      (by rw [State.schedFull_congr hregs hsched hheld]; exact hf), hwall]
    obtain ⟨hack, hparts⟩ := Acked.of_act (m := m) (if timeWall td < s.wall then .errLate else .ok) hheard hgrows
      (u.pushAction_parts ⟨timeWall td, m.seq, .hatband 1 id mask, false⟩) (.pushAction u _)
    refine ⟨?_, hack, hparts⟩
    rw [State.ackMsg_parts _ _ _ .sched (by simp), ← hsched]
    rfl
  · rintro rfl hflip
    rw [State.takeHatband_noFlip (by rw [State.isFlipTime_congr hheard]; exact hflip)]
    obtain ⟨hack, hparts⟩ := Acked.of_act (m := m) .errRange hheard hgrows (u.event_parts F.LMB_EVT_HATBAND_REJ)
      (.event u rfl (by decide))
    refine ⟨?_, hack, hparts.mono (by simp), ?_⟩
    · rw [State.flag_ackMsg]
      exact State.flag_event _ _ rfl
    · exact ((OnlyFlds.of_regs hregs).event _ rfl (by simp)).trans (.of_regs (State.ackMsg_regs _ _ _))
  · rintro rfl hflip
    rw [State.takeHatband_flip (by rw [State.isFlipTime_congr hheard]; exact hflip)]
    exact Acked.of_act (ps := []) .ok hheard hgrows (.refl _ u) (.refl u)
  · intro h1 h2
    rw [State.takeHatband_badKind h1 h2]
    exact Acked.of_act (ps := []) .errRange hheard hgrows (.refl _ u) (.refl u)

/-! SNAPSHOT and RESET (R403) -/

/-- What a timed action of a message does at a tile: it is late, it enters the schedule, or it lies too far ahead. -/
theorem State.actionMessage_spec {b : LinkMsg} {td : TimeField} {e : SchedEntry} (ht : timeOk td = true)
    (hn : s.sched.any (sameAction e) = false) :
    let t := ((s.heard m b).takeAction td e).1.ackMsg m ((s.heard m b).takeAction td e).2
    OnlyParts [.sent, .link, .sched] s t ∧ (e.due < s.wall → t.sched = s.sched ∧ Acked s t m .errLate) ∧
      (s.wall ≤ e.due → e.due ≤ s.wall + 86400 * 10 ^ 9 * nsUnit → s.schedFull = false → t.sched = s.sched ++ [e] ∧ Acked s t m .ok) ∧
      (s.wall + 86400 * 10 ^ 9 * nsUnit < e.due → t.sched = s.sched ∧ Acked s t m .errRange) := by
  have hheard := s.heard_parts m b
  have hgrows := Grows.heard s m b
  have hheld := s.heard_heldSets m b
  dsimp only
  generalize s.heard m b = u at hheard hgrows hheld
  have hsched := hheard .sched (by simp)
  have hwall := hheard .wall (by simp)
  have hn' : u.sched.any (sameAction e) = false := by rw [hsched]; exact hn
  refine ⟨?_, fun hd => ?_, fun hlo hhi hf => ?_, fun hd => ?_⟩
  · exact (hheard.mono (by simp)).trans ((State.takeAction_evolves u td e (ps₀ := [.sent, .link, .sched]) (by simp) (.refl _ u)).parts.trans
      ((State.ackMsg_parts _ m _).mono (by simp)))
  · rw [State.takeAction_late ht hn' (by rw [hwall]; exact hd)]
    exact ⟨(u.ackMsg_parts m _ .sched (by simp)).trans hsched, (Acked.of_act (ps := []) .errLate hheard hgrows (.refl _ u) (.refl u)).1⟩
  · rw [State.takeAction_ahead ht (by rw [hwall]; exact hlo), State.scheduleHere_new hn' (by rw [hwall]; exact hhi)
      (by rw [State.schedFull_congr (hheard .regs (by simp)) hsched hheld]; exact hf)]
    refine ⟨?_, (Acked.of_act .ok hheard hgrows (u.pushAction_parts e) (.pushAction u e)).1⟩
    rw [State.ackMsg_parts _ _ _ .sched (by simp), ← hsched]
    rfl
  · rw [State.takeAction_ahead ht (by rw [hwall]; omega), State.scheduleHere_far hn' (by rw [hwall]; exact hd)]
    exact ⟨(u.ackMsg_parts m _ .sched (by simp)).trans hsched, (Acked.of_act (ps := []) .errRange hheard hgrows (.refl _ u) (.refl u)).1⟩

theorem exec_snapshotMessage_spec (td : TimeField) (id content : Nat) (hr : s.tileRole = true) (hh : s.hears m) (ht : timeOk td = true) :
    let e : SchedEntry := ⟨timeWall td, m.seq, .snapshot id content, false⟩
    s.sched.any (sameAction e) = false → ∃ t, exec (.snapshotMessage m td id content) s = .next t ∧ OnlyParts [.sent, .link, .sched] s t ∧
      (timeWall td < s.wall → t.sched = s.sched ∧ Acked s t m .errLate) ∧
      (s.wall ≤ timeWall td → timeWall td ≤ s.wall + 86400 * 10 ^ 9 * nsUnit → s.schedFull = false → t.sched = s.sched ++ [e] ∧ Acked s t m .ok) ∧
      (s.wall + 86400 * 10 ^ 9 * nsUnit < timeWall td → t.sched = s.sched ∧ Acked s t m .errRange) := by
  intro e hn
  have hexec : exec (.snapshotMessage m td id content) s = .next (((s.heard m (.snapshot td id content)).takeAction td e).1.ackMsg m
      ((s.heard m (.snapshot td id content)).takeAction td e).2) :=
    congrArg Host.Outcome.next (State.receive_tile (fun u => u.takeAction td e) hr hh)
  exact ⟨_, hexec, State.actionMessage_spec ht hn⟩

theorem exec_resetMessage_spec (td : TimeField) (level cause id : Nat) (hr : s.tileRole = true) (hh : s.hears m) (ht : timeOk td = true) :
    let e : SchedEntry := ⟨timeWall td, m.seq, .reset level cause id, false⟩
    s.sched.any (sameAction e) = false → ∃ t, exec (.resetMessage m td level cause id) s = .next t ∧ OnlyParts [.sent, .link, .sched] s t ∧
      (level ≠ 1 → level ≠ 2 → t.sched = s.sched ∧ Acked s t m .errRange) ∧
      (level = 1 ∨ level = 2 → s.wall ≤ timeWall td → timeWall td ≤ s.wall + 86400 * 10 ^ 9 * nsUnit → s.schedFull = false →
        t.sched = s.sched ++ [e] ∧ Acked s t m .ok) := by
  intro e hn
  by_cases hl : level = 1 ∨ level = 2
  · have hexec : exec (.resetMessage m td level cause id) s = .next (((s.heard m (.reset td level cause id)).takeAction td e).1.ackMsg m
        ((s.heard m (.reset td level cause id)).takeAction td e).2) := by
      show execResetMessage m td level cause id s = _
      simp only [execResetMessage, if_pos hl]
      rw [State.receive_tile (fun u => u.takeAction td e) hr hh]
    obtain ⟨hparts, -, hahead, -⟩ := State.actionMessage_spec (m := m) (b := .reset td level cause id) ht hn
    exact ⟨_, hexec, hparts, fun h1 h2 => absurd hl (not_or.mpr ⟨h1, h2⟩), fun _ => hahead⟩
  · have hexec : exec (.resetMessage m td level cause id) s = .next ((s.heard m (.reset td level cause id)).ackMsg m .errRange) := by
      show execResetMessage m td level cause id s = _
      simp only [execResetMessage, if_neg hl]
      rw [State.receive_tile (fun u => (u, .errRange)) hr hh]
    obtain ⟨hack, hparts⟩ := Acked.of_act (m := m) (ps := []) .errRange (s.heard_parts m (.reset td level cause id)) (.heard s m _) (.refl _ _) (.refl _)
    exact ⟨_, hexec, hparts.mono (by simp), fun _ _ => ⟨hparts .sched (by simp), hack⟩, fun h => absurd h hl⟩

/-! SNAPSHOT_DONE -/

/-- A tile's report on a snapshot takes the place of an earlier one. -/
def State.noteSnapshot (s : State) (id addr x : Nat) : State :=
  { s with link := { s.link with snapDone := s.link.snapDone.filter (fun x => !(x.1 == id && x.2.1 == addr)) ++ [(id, addr, x)] } }

theorem State.noteSnapshot_parts (s : State) (id addr x : Nat) : OnlyParts [.link] s (s.noteSnapshot id addr x) :=
  (Evolves.set_link (ps := [.link]) _ (List.mem_singleton_self _) (.refl _ s)).parts

theorem exec_snapshotDone_spec (id addr x : Nat) (hr : s.senderRole = true) (hh : s.hears m) :
    ∃ t, exec (.snapshotDone m id addr x) s = .next t ∧
      (id, addr, x) ∈ t.link.snapDone ∧ (∀ y ∈ s.link.snapDone, ¬ (y.1 = id ∧ y.2.1 = addr) → y ∈ t.link.snapDone) ∧ OnlyParts [.sent, .link] s t := by
  have hexec : exec (.snapshotDone m id addr x) s =
      .next (((s.heard m (.snapshotDone id addr x)).noteSnapshot id addr x).ackMsg m .ok) := by
    show execSnapshotDone m id addr x s = _
    rw [execSnapshotDone, State.receiveOk_hears _ _ _ hh, if_pos (by rw [State.heard_senderRole]; exact hr)]
    rfl
  have hheard := s.heard_parts m (.snapshotDone id addr x)
  obtain ⟨ports, seen, hlink⟩ := s.heard_link m (.snapshotDone id addr x)
  generalize s.heard m (.snapshotDone id addr x) = u at hexec hheard hlink
  have hdone : (u.noteSnapshot id addr x).link.snapDone =
      s.link.snapDone.filter (fun x => !(x.1 == id && x.2.1 == addr)) ++ [(id, addr, x)] := by
    rw [State.noteSnapshot, hlink]
  have hnote := u.noteSnapshot_parts id addr x
  generalize u.noteSnapshot id addr x = v at hexec hdone hnote
  obtain ⟨ports', own, hack⟩ := v.ackMsg_link m .ok
  have hfinal : (v.ackMsg m .ok).link.snapDone = s.link.snapDone.filter (fun x => !(x.1 == id && x.2.1 == addr)) ++ [(id, addr, x)] := by
    rw [hack]
    exact hdone
  refine ⟨_, hexec, ?_, fun y hy hne => ?_, (hheard.trans (hnote.mono (by simp))).trans (v.ackMsg_parts m .ok)⟩ <;> rw [hfinal]
  · simp
  · exact List.mem_append_left _ (List.mem_filter.mpr ⟨hy, by simpa [imp_iff_not_or] using hne⟩)

end

end Sys2Proof.Machine
end

section
/-! SUPPORT. BARRIER and its end (R265, R517). -/

namespace Sys2Proof.Machine

section
variable {s : State} {m : MsgHdr}

/-- R265: a tile answers BARRIER. -/
theorem exec_barrierMessage_spec (id : Nat) (hr : s.tileRole = true) (hh : s.hears m) :
    ∃ t, exec (.barrierMessage m id) s = .next t ∧ Posts s t s.activePort 0x8002 (.barrierDone id s.ownAddr) ∧ OnlyParts [.sent, .link] s t := by
  have hexec : exec (.barrierMessage m id) s = .next (((s.heard m (.barrier id)).sendActive
      (.barrierDone id (s.heard m (.barrier id)).ownAddr)).ackMsg m .ok) := by
    show execBarrierMessage m id s = _
    rw [execBarrierMessage, State.receiveOk_hears _ _ _ hh, if_pos (by rw [State.heard_tileRole]; exact hr)]
  have hheard := s.heard_parts m (.barrier id)
  have hgrows := Grows.heard s m (.barrier id)
  generalize s.heard m (.barrier id) = u at hexec hheard hgrows
  have hregs := hheard .regs (by simp)
  rw [State.sendActive, State.ownAddr_congr hregs, State.activePort_congr hregs] at hexec
  have hpost := u.sendMsg_posts s.activePort 0x8002 (.barrierDone id s.ownAddr) [0x8002]
  have hsend := u.sendMsg_parts s.activePort 0x8002 (.barrierDone id s.ownAddr) [0x8002]
  exact ⟨_, hexec, (hpost.before (.ackMsg _ m .ok)).after hgrows, (hheard.trans hsend).trans (State.ackMsg_parts _ m .ok)⟩

end

/-! What a tile's BARRIER_DONE settles (R265) -/

/-- What a tile's BARRIER_DONE settles of what a message owes. -/
def Unacked.barrierSettle (u : Unacked) (id tile : Nat) : Unacked :=
  if u.msg = .barrier id then { u with tiles := u.tiles.filter (· != tile) } else u

theorem Unacked.barrierSettle_msg (u : Unacked) (id tile : Nat) : (u.barrierSettle id tile).msg = u.msg := by
  unfold Unacked.barrierSettle
  split <;> rfl

/-- A tile that a barrier waits for no more. -/
def BarrierWait.settle (b : BarrierWait) (id tile : Nat) : BarrierWait :=
  if b.id = id then { b with waiting := b.waiting.filter (· != tile) } else b

theorem BarrierWait.settle_id (b : BarrierWait) (id tile : Nat) : (b.settle id tile).id = b.id := by
  unfold BarrierWait.settle
  split <;> rfl

/-- R265: a tile is done for a barrier, which may now end. -/
def State.barrierSettled (s : State) (id tile : Nat) : State :=
  { s with
    link := { s.link with unacked := (s.link.unacked.map (·.barrierSettle id tile)).filter (fun u => u.tiles != []) }
    cmd := { s.cmd with barriers := s.cmd.barriers.map (·.settle id tile) } }

theorem State.barrierDone_eq (s : State) (id tile : Nat) : s.barrierDone id tile = (s.barrierSettled id tile).barrierEnds id := rfl

theorem State.barrierSettled_parts (s : State) (id tile : Nat) : OnlyParts [.cmd, .link] s (s.barrierSettled id tile) :=
  (Evolves.set_cmd_link (ps := [.cmd, .link]) _ _ (by simp) (by simp) (.refl _ s)).parts

theorem State.mem_barrierSettled {s : State} {id tile : Nat} {v : Unacked} :
    v ∈ (s.barrierSettled id tile).link.unacked ↔ (∃ u ∈ s.link.unacked, u.barrierSettle id tile = v) ∧ v.tiles ≠ [] := by
  simp only [State.barrierSettled, List.mem_filter, List.mem_map, bne_iff_ne, ne_eq]

/-- What a barrier still owes does not name the tile that is done. -/
theorem State.barrierSettled_done {s : State} {id tile : Nat} {v : Unacked} (h : v ∈ (s.barrierSettled id tile).link.unacked)
    (hm : v.msg = .barrier id) : tile ∉ v.tiles := by
  obtain ⟨⟨u, -, rfl⟩, -⟩ := State.mem_barrierSettled.mp h
  rw [Unacked.barrierSettle_msg] at hm
  rw [Unacked.barrierSettle, if_pos hm]
  simp

/-- With the last tile done the barrier owes nothing. -/
theorem State.barrierSettled_last {s : State} {id tile : Nat} (h : ∀ u ∈ s.link.unacked, u.msg = .barrier id → ∀ k ∈ u.tiles, k = tile) :
    (s.barrierSettled id tile).link.unacked.any (fun u => u.msg == .barrier id) = false := by
  refine List.any_eq_false.mpr (fun v hv hm => ?_)
  obtain ⟨⟨u, hu, rfl⟩, hne⟩ := State.mem_barrierSettled.mp hv
  rw [beq_iff_eq, Unacked.barrierSettle_msg] at hm
  rw [Unacked.barrierSettle, if_pos hm] at hne
  exact hne (List.filter_eq_nil_iff.mpr (fun k hk => by simp [h u hu hm k hk]))

theorem State.barrierSettled_find {s : State} {id tile : Nat} {b : BarrierWait} (h : s.cmd.barriers.find? (fun x => x.id == id) = some b) :
    (s.barrierSettled id tile).cmd.barriers.find? (fun x => x.id == id) = some { b with waiting := b.waiting.filter (· != tile) } := by
  have hid : b.id = id := by simpa using List.find?_some h
  have hp : ((fun x : BarrierWait => x.id == id) ∘ fun x : BarrierWait => x.settle id tile) = fun x : BarrierWait => x.id == id := by
    funext x
    simp [BarrierWait.settle_id]
  show (s.cmd.barriers.map (·.settle id tile)).find? _ = _
  rw [List.find?_map, hp, h]
  exact congrArg some (if_pos hid)

/-! The end of a barrier (R517) -/

/-- A barrier is waited for no more. -/
def State.dropBarrier (s : State) (id : Nat) : State :=
  { s with cmd := { s.cmd with barriers := s.cmd.barriers.filter (fun c => c.id != id) } }

theorem State.dropBarrier_parts (s : State) (id : Nat) : OnlyParts [.cmd] s (s.dropBarrier id) :=
  (Evolves.set_cmd (ps := [.cmd]) _ (List.mem_singleton_self _) (.refl _ s)).parts

/-- R517: the answer of a barrier. -/
theorem State.barrierEnds_answers {s : State} {id : Nat} {b : BarrierWait} (h : s.cmd.barriers.find? (fun x => x.id == id) = some b)
    (hn : s.link.unacked.any (fun u => u.msg == .barrier id) = false) :
    s.barrierEnds id = (s.dropBarrier id).respond b.hdr 0x0032 (okReply (leBytes 2 b.waiting.length ++ [0, 0])) := by
  rw [State.barrierEnds, h]
  exact if_neg (by rw [hn]; decide)

/-- A barrier's end owes no BARRIER anew. -/
theorem State.barrierEnds_owed {s : State} {id i : Nat} {u : Unacked} (hu : u ∈ (s.barrierEnds id).link.unacked) (hm : u.msg = .barrier i) :
    u ∈ s.link.unacked := by
  unfold State.barrierEnds at hu
  split at hu
  · exact hu
  · split at hu
    · exact hu
    · rcases State.respond_owed hu with h | ⟨seg, more, h⟩
      · exact h
      · rw [h] at hm
        exact absurd hm (by simp)

section
variable {s : State} {m : MsgHdr} {id addr : Nat}

theorem exec_barrierDone_eq (hr : s.senderRole = true) (hh : s.hears m) :
    exec (.barrierDone m id addr) s = .next ((((s.heard m (.barrierDone id addr)).barrierSettled id addr).barrierEnds id).ackMsg m .ok) := by
  show execBarrierDone m id addr s = _
  rw [execBarrierDone, State.receiveOk_hears _ _ _ hh, if_pos (by rw [State.heard_senderRole]; exact hr), State.barrierDone_eq]

theorem exec_barrierDone_settles (hr : s.senderRole = true) (hh : s.hears m) :
    ∃ t, exec (.barrierDone m id addr) s = .next t ∧ ∀ u ∈ t.link.unacked, u.msg = .barrier id → addr ∉ u.tiles := by
  refine ⟨_, exec_barrierDone_eq hr hh, fun u hu hm => ?_⟩
  rw [State.ackMsg_unacked] at hu
  exact State.barrierSettled_done (State.barrierEnds_owed hu hm) hm

theorem exec_barrierDone_answers {b : BarrierWait} (hr : s.senderRole = true) (hh : s.hears m)
    (hb : s.cmd.barriers.find? (fun x => x.id == id) = some b)
    (hlast : ∀ u ∈ s.link.unacked, u.msg = .barrier id → ∀ k ∈ u.tiles, k = addr) :
    ∃ t, exec (.barrierDone m id addr) s = .next t ∧ (∀ x ∈ t.cmd.barriers, x.id ≠ id) ∧
      Answers s t b.hdr 0x0032 (okReply (leBytes 2 (b.waiting.filter (· != addr)).length ++ [0, 0])) ∧
      OnlyParts [.regs, .sent, .gen, .gnt, .cmd, .link] s t ∧ OnlyFlds [F.SYS_CMD_EVT_RSP_READY] s t := by
  have hexec := exec_barrierDone_eq (id := id) (addr := addr) hr hh
  have hheard := s.heard_parts m (.barrierDone id addr)
  have howed := s.heard_unacked m (.barrierDone id addr)
  have hsilent := s.heard_silent m (.barrierDone id addr)
  generalize s.heard m (.barrierDone id addr) = a at hexec hheard howed hsilent
  have hfind := State.barrierSettled_find (s := a) (tile := addr) (by rw [hheard .cmd (by simp)]; exact hb)
  have hnone := State.barrierSettled_last (s := a) (tile := addr) (by rw [howed]; exact hlast)
  have hset := a.barrierSettled_parts id addr
  have hmute : Silent a (a.barrierSettled id addr) := .of_sent rfl
  generalize a.barrierSettled id addr = c at hexec hfind hnone hset hmute
  rw [State.barrierEnds_answers hfind hnone] at hexec
  have hgone : ∀ x ∈ (c.dropBarrier id).cmd.barriers, x.id ≠ id := fun x hx => by simpa using (List.mem_filter.mp hx).2
  have hdrop := c.dropBarrier_parts id
  have hquiet : Silent c (c.dropBarrier id) := .of_sent rfl
  generalize c.dropBarrier id = d at hexec hgone hdrop hquiet
  dsimp only at hexec
  generalize hrep : okReply (leBytes 2 (b.waiting.filter (· != addr)).length ++ [0, 0]) = r at hexec ⊢
  have hans := d.respond_answers b.hdr 0x0032 r
  have hflds := d.respond_flds_ok b.hdr 0x0032 r (by rw [← hrep]; simp [okReply])
  have hparts := d.respond_parts b.hdr 0x0032 r
  obtain ⟨held, hcmd⟩ := d.respond_cmd b.hdr 0x0032 r
  generalize d.respond b.hdr 0x0032 r = e at hexec hans hflds hparts hcmd
  have hack := e.ackMsg_parts m .ok
  refine ⟨_, hexec, ?_, (((hans.before (e.ackMsg_silent m .ok)).after hquiet).after hmute).after hsilent,
    (hheard.mono (by simp)).trans ((hset.mono (by simp)).trans ((hdrop.mono (by simp)).trans ((hparts.mono (by simp [answerParts])).trans
      (hack.mono (by simp))))), ?_⟩
  · rw [hack .cmd (by simp), hcmd]
    exact hgone
  · have hregs : d.regs = s.regs := (hdrop .regs (by simp)).trans ((hset .regs (by simp)).trans (hheard .regs (by simp)))
    exact (OnlyFlds.of_regs hregs).trans (hflds.trans (.of_regs (hack .regs (by simp))))

end

end Sys2Proof.Machine
end

section
/-! CERTIFICATES. What the messages of the chain do (O47). -/

namespace Sys2Proof.Machine

/-- Settles O47: each message by the operation that it asks for, after a reception that leaves what the operation reads. -/
theorem linkMessagesAct : Obligations.LinkMessagesAct := by
  intro s m
  refine ⟨fun n x hr hh => exec_ackMsg_spec n x hr hh, fun _ _ _ hf => exec_messageResend_spec hf,
    fun seg hr hh hg => ⟨exec_cmdMsg_more hr hh hg, fun a c i hm hrun hf hcrc ha hk htag hfields hp hstep hi => ?cmd⟩,
    fun _ _ hg => exec_cmdPartialTimeout_spec hg,
    fun seg _ hr hh hg => ⟨exec_rspMsg_more hr hh hg, fun _ hm hf hp hw h1 => exec_rspMsg_whole hr hh hg hm hf hp hw h1⟩,
    fun td kind id mask hr hh => exec_hatbandMessage_spec td kind id mask hr hh,
    fun td id content hr hh ht => exec_snapshotMessage_spec td id content hr hh ht,
    fun td level cause id hr hh ht => exec_resetMessage_spec td level cause id hr hh ht,
    fun id addr x hr _ hh => exec_snapshotDone_spec id addr x hr hh,
    fun id hr hh => exec_barrierMessage_spec id hr hh,
    fun _ _ _ hr _ hh hb => ⟨exec_barrierDone_settles hr hh, exec_barrierDone_answers hr hh hb⟩⟩
  case cmd => exact exec_cmdMsg_whole hr hh hg hm hrun hf hcrc ha hk htag hfields hp hstep hi

end Sys2Proof.Machine
end

section
/-! SUPPORT. Lane tests (R294, R295). -/

namespace Sys2Proof.Machine

/-! What a test's own registers leave (R295) -/

/-- The fields of a lane's tests: their controls and the counts of its checker. -/
abbrev testFlds (n : Nat) : List Fld :=
  [F.SER_LANE_CTL_PRBS_EN n, F.SER_LANE_CTL_FORCE_OUT n, F.SER_LANE_PRBS_ERR_ERR_BITS n, F.SER_LANE_PRBS_BITS_BITS_2E20 n]

theorem State.setFlag_flds (s : State) {f : Fld} (b : Bool) (h : f.ok = true) : OnlyFlds [f] s (s.setFlag f b) :=
  (OnlyFlds.refl _ s).setFlag f b h (List.mem_singleton_self f)

section
variable {s u : State} {n p : Nat} (hu : OnlyFlds (testFlds n) s u)
include hu

theorem laneOfPort_of_tests (k : Nat) : u.laneOfPort k = s.laneOfPort k := by
  rw [State.laneOfPort, State.laneOfPort, hu.tileRole (by simp [Fld.apart]; omega)]

theorem laneMode_of_tests (k : Nat) : u.laneMode k = s.laneMode k := hu _ rfl (by simp [Fld.apart]; omega)

/-- A lane test leaves which lanes of a port are configured. -/
theorem configured_of_tests (hp : p < 8) : u.configured p = s.configured p := by
  have hrole : u.tileRole = s.tileRole := hu.tileRole (by simp [Fld.apart]; omega)
  have hen : u.flag (F.MLK_PORT_CTL_EN p) = s.flag (F.MLK_PORT_CTL_EN p) := hu.flag rfl (by simp [Fld.apart]; omega)
  have hwidth : u.fld (F.MLK_PORT_CTL_LANES p) = s.fld (F.MLK_PORT_CTL_LANES p) := hu _ rfl (by simp [Fld.apart]; omega)
  rw [State.configured, State.configured, State.portOn, State.portOn, hrole, hen, hwidth]

/-! What a lane does once its tests have been written (R295) -/

theorem laneForced_none (h : s.laneOfPort n = none) : u.laneForced n = u := by
  rw [State.laneForced, laneOfPort_of_tests hu, h]

/-- R295: a lane without a test trains again. -/
theorem laneForced_trains (hp : s.laneOfPort n = some p) (h0 : s.laneMode n ≠ 0) (hin : laneIn (s.configured p) (n % 4) = true)
    (he : u.flag (F.SER_LANE_CTL_PRBS_EN n) = false) (hf : u.flag (F.SER_LANE_CTL_FORCE_OUT n) = false) :
    u.laneForced n = u.trainLane n := by
  obtain ⟨hport, hn, -⟩ := State.laneOfPort_some hp
  have hstays : ¬ (u.laneMode n = 0 ∨ laneIn (u.configured p) (n % 4) = false) := by
    rw [laneMode_of_tests hu, configured_of_tests hu (by omega), hin]
    simp [h0]
  rw [State.laneForced, laneOfPort_of_tests hu, hp, he, hf]
  exact if_neg hstays

/-- R282, R295: a test on a lane of the set drops it; the port goes on with the other lanes of its set. -/
theorem laneForced_drops (hp : s.laneOfPort n = some p) (h : s.laneMode n = 3)
    (hl : ∃ l, l < 4 ∧ 4 * p + l ≠ n ∧ s.laneMode (4 * p + l) = 3)
    (ht : (u.flag (F.SER_LANE_CTL_PRBS_EN n) || u.flag (F.SER_LANE_CTL_FORCE_OUT n)) = true) :
    u.laneForced n = u.dropLane n false false := by
  obtain ⟨l, hlt, hne, hin⟩ := hl
  have hp' : u.laneOfPort n = some p := (laneOfPort_of_tests hu n).trans hp
  have hmode : u.laneMode n = 3 := (laneMode_of_tests hu n).trans h
  have hflds := (State.dropLane_inSet hmode false false).2.2.2.2.2
  have hother : ¬ (List.range 4).all (fun l => (u.dropRelay n p false false false).laneMode (4 * p + l) != 3) = true := by
    intro hall
    have hout := List.all_eq_true.mp hall l (List.mem_range.mpr hlt)
    rw [State.dropRelay, if_neg (by simp), laneMode_of_drop hflds hne, laneMode_of_tests hu, hin] at hout
    exact absurd hout (by decide)
  rw [State.laneForced, hp']
  dsimp only
  rw [if_pos ht, if_pos hmode, State.laneLost_inSet false false false hp' hmode, if_neg hother, State.dropRelay, if_neg (by simp)]

end

/-! A PRBS test begins (R294, R299) -/

/-- R294, R299: PRBS_EN becomes 1, and the counts of the checker 0. -/
def State.startTest (s : State) (n : Nat) : State :=
  ((s.setFlag (F.SER_LANE_CTL_PRBS_EN n) true).setReg (F.SER_LANE_PRBS_ERR_ERR_BITS n).addr 0).setReg
    (F.SER_LANE_PRBS_BITS_BITS_2E20 n).addr 0

theorem State.startTest_spec (s : State) (n : Nat) :
    let t := s.startTest n
    t.flag (F.SER_LANE_CTL_PRBS_EN n) = true ∧ t.fld (F.SER_LANE_PRBS_ERR_ERR_BITS n) = 0 ∧
      t.fld (F.SER_LANE_PRBS_BITS_BITS_2E20 n) = 0 ∧ OnlyParts [.regs] s t ∧ OnlyFlds (testFlds n) s t := by
  have hon := s.flag_setFlag (F.SER_LANE_CTL_PRBS_EN n) true rfl
  have hparts := s.setFlag_parts (F.SER_LANE_CTL_PRBS_EN n) true
  have hflds := s.setFlag_flds (f := F.SER_LANE_CTL_PRBS_EN n) true rfl
  unfold State.startTest
  generalize s.setFlag (F.SER_LANE_CTL_PRBS_EN n) true = u at hon hparts hflds
  have hclear (v : State) (a : Nat) : OnlyParts [.regs] v (v.setReg a 0) :=
    (State.setReg_evolves v a 0 (List.Subset.refl _) (.refl _ v)).parts
  refine ⟨?_, ?_, ?_, hparts.trans ((hclear _ _).trans (hclear _ _)), (hflds.mono (by simp)).trans
    ((OnlyFlds.of_reg (a := (F.SER_LANE_PRBS_ERR_ERR_BITS n).addr) (by simp) fun b hb => State.reg_setReg_ne _ _ hb).trans
      (OnlyFlds.of_reg (a := (F.SER_LANE_PRBS_BITS_BITS_2E20 n).addr) (by simp) fun b hb => State.reg_setReg_ne _ _ hb))⟩
  · rw [State.flag, State.fld, State.reg_setReg_ne _ _ (by simp), State.reg_setReg_ne _ _ (by simp)]
    exact hon
  · rw [State.fld, State.reg_setReg_ne _ _ (by simp), State.reg_setReg_same, Fld.of_whole]
    rfl
  · rw [State.fld, State.reg_setReg_same, Fld.of_whole]
    rfl

/-! The commands (R294, R295) -/

section
variable {s : State} {n p : Nat}

theorem exec_prbsEnWrite_off (hn : s.hasLane n = true) :
    exec (.prbsEnWrite n false) s = .next ((s.setFlag (F.SER_LANE_CTL_PRBS_EN n) false).laneForced n) := by
  show execPrbsEnWrite n false s = _
  rw [execPrbsEnWrite, if_pos hn, State.writePrbs, State.prbsChanged]
  simp only [Bool.false_eq_true, if_false]

/-- R295: a lane of a chain port is in no network port and at no SDI input. -/
theorem exec_prbsEnWrite_on (hp : s.laneOfPort n = some p) :
    exec (.prbsEnWrite n true) s = .next ((s.startTest n).laneForced n) := by
  obtain ⟨-, hlt, hn⟩ := State.laneOfPort_some hp
  show execPrbsEnWrite n true s = _
  rw [execPrbsEnWrite, if_pos hn, State.writePrbs, State.prbsChanged, if_pos rfl, if_pos rfl, State.outOfService, if_neg (by omega),
    if_neg (by omega)]
  rfl

theorem exec_forceOutWrite_eq (hn : s.hasLane n = true) (on : Bool) :
    exec (.forceOutWrite n on) s = .next ((s.setFlag (F.SER_LANE_CTL_FORCE_OUT n) on).laneForced n) := by
  show execForceOutWrite n on s = _
  rw [execForceOutWrite, if_pos hn]

/-! A lane outside the chain ports: the write alone -/

theorem exec_prbsEnWrite_off_portless (hn : s.hasLane n = true) (h : s.laneOfPort n = none) :
    ∃ t, exec (.prbsEnWrite n false) s = .next t ∧ OnlyParts [.regs] s t ∧
      OnlyFlds [F.SER_LANE_CTL_PRBS_EN n] s t ∧ t.flag (F.SER_LANE_CTL_PRBS_EN n) = false := by
  have hflds := s.setFlag_flds (f := F.SER_LANE_CTL_PRBS_EN n) false rfl
  have hexec := exec_prbsEnWrite_off hn
  rw [laneForced_none (hflds.mono (by simp)) h] at hexec
  exact ⟨_, hexec, s.setFlag_parts _ _, hflds, s.flag_setFlag _ _ rfl⟩

theorem exec_forceOutWrite_portless (hn : s.hasLane n = true) (h : s.laneOfPort n = none) (on : Bool) :
    ∃ t, exec (.forceOutWrite n on) s = .next t ∧ OnlyParts [.regs] s t ∧
      OnlyFlds [F.SER_LANE_CTL_FORCE_OUT n] s t ∧ t.flag (F.SER_LANE_CTL_FORCE_OUT n) = on := by
  have hflds := s.setFlag_flds (f := F.SER_LANE_CTL_FORCE_OUT n) on rfl
  have hexec := exec_forceOutWrite_eq hn on
  rw [laneForced_none (hflds.mono (by simp)) h] at hexec
  exact ⟨_, hexec, s.setFlag_parts _ _, hflds, s.flag_setFlag _ _ rfl⟩

/-! A lane of the set: a test drops it -/

/-- What the loss of a lane leaves of its tests. -/
theorem tests_of_drop {u t : State} (h : OnlyFlds (dropFlds n) u t) {g : Fld} (hg : g ∈ testFlds n) : t.fld g = u.fld g := by
  simp only [List.mem_cons, List.not_mem_nil, or_false] at hg
  rcases hg with rfl | rfl | rfl | rfl <;> exact h _ rfl (by simp [dropFlds, lossFlds, Fld.apart] <;> omega)

theorem exec_prbsEnWrite_drops (hp : s.laneOfPort n = some p) (h : s.laneMode n = 3)
    (hl : ∃ l, l < 4 ∧ 4 * p + l ≠ n ∧ s.laneMode (4 * p + l) = 3) :
    ∃ t, exec (.prbsEnWrite n true) s = .next t ∧ OnlyParts [.regs, .lanes] s t ∧ t.flag (F.SER_LANE_CTL_PRBS_EN n) = true ∧
      t.fld (F.SER_LANE_PRBS_ERR_ERR_BITS n) = 0 ∧ t.fld (F.SER_LANE_PRBS_BITS_BITS_2E20 n) = 0 ∧ t.laneMode n = 4 ∧
      t.flag F.SER_EVT_LANE_LOST = true ∧ t.flag (F.SER_LANE_EVT_LOST n) = true := by
  obtain ⟨hon, herr, hbits, hparts, hflds⟩ := s.startTest_spec n
  have hexec := exec_prbsEnWrite_on hp
  rw [laneForced_drops hflds hp h hl (by rw [hon]; rfl)] at hexec
  obtain ⟨hmode, hlost, hevt, -, hdrop, hdrops⟩ := State.dropLane_inSet ((laneMode_of_tests hflds n).trans h) false false
  refine ⟨_, hexec, (hparts.mono (by simp)).trans hdrop, ?_, (tests_of_drop hdrops (by simp)).trans herr,
    (tests_of_drop hdrops (by simp)).trans hbits, hmode, hevt, hlost⟩
  rw [State.flag, tests_of_drop hdrops (by simp)]
  exact hon

theorem exec_forceOutWrite_drops (hp : s.laneOfPort n = some p) (h : s.laneMode n = 3)
    (hl : ∃ l, l < 4 ∧ 4 * p + l ≠ n ∧ s.laneMode (4 * p + l) = 3) :
    ∃ t, exec (.forceOutWrite n true) s = .next t ∧ OnlyParts [.regs, .lanes] s t ∧ t.flag (F.SER_LANE_CTL_FORCE_OUT n) = true ∧
      t.laneMode n = 4 ∧ t.flag F.SER_EVT_LANE_LOST = true ∧ t.flag (F.SER_LANE_EVT_LOST n) = true := by
  have hon := s.flag_setFlag (F.SER_LANE_CTL_FORCE_OUT n) true rfl
  have hparts := s.setFlag_parts (F.SER_LANE_CTL_FORCE_OUT n) true
  have hflds : OnlyFlds (testFlds n) s (s.setFlag (F.SER_LANE_CTL_FORCE_OUT n) true) := (s.setFlag_flds true rfl).mono (by simp)
  have hexec := exec_forceOutWrite_eq (State.laneOfPort_some hp).2.2 true
  rw [laneForced_drops hflds hp h hl (by rw [hon, Bool.or_true])] at hexec
  obtain ⟨hmode, hlost, hevt, -, hdrop, hdrops⟩ := State.dropLane_inSet ((laneMode_of_tests hflds n).trans h) false false
  refine ⟨_, hexec, (hparts.mono (by simp)).trans hdrop, ?_, hmode, hevt, hlost⟩
  rw [State.flag, tests_of_drop hdrops (by simp)]
  exact hon

/-! A lane whose tests are both clear: it trains -/

/-- A lane that trains after the last of its test controls has been cleared. -/
theorem State.clearTest_spec (s : State) (n : Nat) {f : Fld} (hf : f.ok = true) (ha : (F.SER_LANE_STAT_STATE n).apart f = true) :
    let t := (s.setFlag f false).trainLane n
    OnlyParts [.regs, .lanes] s t ∧ OnlyFlds [f, F.SER_LANE_STAT_STATE n] s t ∧ t.flag f = false ∧ t.laneMode n = 1 := by
  have hoff := s.flag_setFlag f false hf
  have hparts := s.setFlag_parts f false
  have hflds := s.setFlag_flds false hf
  dsimp only
  generalize s.setFlag f false = u at hoff hparts hflds
  have htrain := u.trainLane_flds n
  refine ⟨(hparts.mono (by simp)).trans (u.trainLane_parts n), (hflds.mono (by simp)).trans (htrain.mono (by simp)), ?_, u.trainLane_mode n⟩
  rw [htrain.flag hf (by simpa using ha)]
  exact hoff

theorem exec_prbsEnWrite_trains (hp : s.laneOfPort n = some p) (h0 : s.laneMode n ≠ 0) (hin : laneIn (s.configured p) (n % 4) = true)
    (hf : s.flag (F.SER_LANE_CTL_FORCE_OUT n) = false) :
    ∃ t, exec (.prbsEnWrite n false) s = .next t ∧ OnlyParts [.regs, .lanes] s t ∧
      OnlyFlds [F.SER_LANE_CTL_PRBS_EN n, F.SER_LANE_STAT_STATE n] s t ∧ t.flag (F.SER_LANE_CTL_PRBS_EN n) = false ∧ t.laneMode n = 1 := by
  have hflds := s.setFlag_flds (f := F.SER_LANE_CTL_PRBS_EN n) false rfl
  have hexec := exec_prbsEnWrite_off (State.laneOfPort_some hp).2.2
  rw [laneForced_trains (hflds.mono (by simp)) hp h0 hin (s.flag_setFlag _ _ rfl)
    ((hflds.flag rfl (by simp [Fld.apart])).trans hf)] at hexec
  exact ⟨_, hexec, s.clearTest_spec n rfl (by simp [Fld.apart])⟩

theorem exec_forceOutWrite_trains (hp : s.laneOfPort n = some p) (h0 : s.laneMode n ≠ 0) (hin : laneIn (s.configured p) (n % 4) = true)
    (he : s.flag (F.SER_LANE_CTL_PRBS_EN n) = false) :
    ∃ t, exec (.forceOutWrite n false) s = .next t ∧ OnlyParts [.regs, .lanes] s t ∧
      OnlyFlds [F.SER_LANE_CTL_FORCE_OUT n, F.SER_LANE_STAT_STATE n] s t ∧ t.flag (F.SER_LANE_CTL_FORCE_OUT n) = false ∧ t.laneMode n = 1 := by
  have hflds := s.setFlag_flds (f := F.SER_LANE_CTL_FORCE_OUT n) false rfl
  have hexec := exec_forceOutWrite_eq (State.laneOfPort_some hp).2.2 false
  rw [laneForced_trains (hflds.mono (by simp)) hp h0 hin ((hflds.flag rfl (by simp [Fld.apart])).trans he)
    (s.flag_setFlag _ _ rfl)] at hexec
  exact ⟨_, hexec, s.clearTest_spec n rfl (by simp [Fld.apart])⟩

end

end Sys2Proof.Machine
end

section
/-! CERTIFICATES. Lane tests (O28). -/

namespace Sys2Proof.Machine

/-- Settles O28: a lane outside the chain ports by the write alone, one of a set by its loss, and one whose tests are clear by its training. -/
theorem laneTestWrites : Obligations.LaneTestWrites := by
  intro s n hn
  refine ⟨exec_prbsEnWrite_off_portless hn, exec_forceOutWrite_portless hn, ?drops, ?trains⟩
  case drops => exact fun p hp h hl => ⟨exec_prbsEnWrite_drops hp h hl, exec_forceOutWrite_drops hp h hl⟩
  case trains => exact fun p hp h0 hin => ⟨exec_prbsEnWrite_trains hp h0 hin, exec_forceOutWrite_trains hp h0 hin⟩

end Sys2Proof.Machine
end

section
/-! SUPPORT. The lamp fault map (R380 to R382): four-valued fields within halfwords, and what a host write of them leaves. -/

namespace Sys2Proof.Machine

/-! Digits to base 4 -/

/-- A number cut down to its low digits has those digits as before. -/
theorem digit_mod (n : Nat) {j m : Nat} (h : j < m) : n % 4 ^ m / 4 ^ j % 4 = n / 4 ^ j % 4 := by
  have hpow : 4 ^ m = 4 ^ j * 4 ^ (m - j) := by rw [← pow_add, Nat.add_sub_of_le h.le]
  rw [hpow, Nat.mod_mul_right_div_self, Nat.mod_mod_of_dvd _ (dvd_pow_self 4 (by omega))]

/-- A digit replaced: what stands below it, and what stands above it with the new digit. -/
theorem putDigit_eq (n k v : Nat) : n - n / 4 ^ k % 4 * 4 ^ k + v * 4 ^ k = n % 4 ^ k + 4 ^ k * (4 * (n / 4 ^ k / 4) + v) := by
  have hn : n = n % 4 ^ k + 4 ^ k * (4 * (n / 4 ^ k / 4)) + n / 4 ^ k % 4 * 4 ^ k := by
    calc n = n % 4 ^ k + 4 ^ k * (n / 4 ^ k) := (Nat.mod_add_div n (4 ^ k)).symm
      _ = n % 4 ^ k + 4 ^ k * (n / 4 ^ k % 4 + 4 * (n / 4 ^ k / 4)) := by rw [Nat.mod_add_div (n / 4 ^ k) 4]
      _ = _ := by ring
  rw [Nat.sub_eq_of_eq_add hn]
  ring

/-- A digit that is replaced is the new one, and every other digit is as before. -/
theorem digit_putDigit (n j k : Nat) {v : Nat} (hv : v < 4) :
    (n - n / 4 ^ k % 4 * 4 ^ k + v * 4 ^ k) / 4 ^ j % 4 = if j = k then v else n / 4 ^ j % 4 := by
  have hpos : 0 < 4 ^ k := Nat.pow_pos (by decide)
  rw [putDigit_eq]
  rcases lt_trichotomy j k with h | rfl | h
  · rw [if_neg h.ne, ← digit_mod _ h, Nat.add_mul_mod_self_left, Nat.mod_mod, digit_mod n h]
  · rw [if_pos rfl, Nat.add_mul_div_left _ _ hpos, Nat.div_eq_of_lt (Nat.mod_lt _ hpos)]
    omega
  · obtain ⟨i, rfl⟩ := Nat.exists_eq_add_of_lt h
    have hpow : 4 ^ (k + i + 1) = 4 ^ k * 4 * 4 ^ i := by ring
    rw [if_neg h.ne', hpow, ← Nat.div_div_eq_div_mul, ← Nat.div_div_eq_div_mul, ← Nat.div_div_eq_div_mul, ← Nat.div_div_eq_div_mul,
      Nat.add_mul_div_left _ _ hpos, Nat.div_eq_of_lt (Nat.mod_lt _ hpos)]
    congr 2
    omega

/-! A lamp's state (R380) -/

theorem State.lampState_congr {s t : State} (h : t.tile.store = s.tile.store) (l : Nat) : t.lampState l = s.lampState l := by
  simp only [State.lampState, State.half, h]

theorem State.setLampState_store (s : State) (l st : Nat) :
    (s.setLampState l st).tile.store = (s.setHalf (storeAt faultMapBase + l / 8)
      (s.half (storeAt faultMapBase + l / 8) - s.lampState l * 4 ^ (l % 8) + st * 4 ^ (l % 8))).tile.store := by
  unfold State.setLampState
  dsimp only
  split <;> split <;> simp only [State.setFld_tile, State.clearLampCounts]

/-- A lamp whose state is set has that state, and every other lamp has its own as before. -/
theorem State.lampState_setLampState (s : State) (l m : Nat) {st : Nat} (hst : st < 4) :
    (s.setLampState l st).lampState m = if m = l then st else s.lampState m := by
  rw [State.lampState_congr (s.setLampState_store l st)]
  unfold State.lampState
  by_cases hword : m / 8 = l / 8
  · rw [hword, State.half_setHalf_same, show (65536 : Nat) = 4 ^ 8 from rfl, digit_mod _ (Nat.mod_lt m (by decide)),
      digit_putDigit _ _ _ hst]
    exact if_congr (by omega) rfl rfl
  · rw [State.half_setHalf_ne _ _ (by omega), if_neg (by rintro rfl; exact hword rfl)]

/-! Fields that the host writes (R382) -/

/-- R382: what a lamp's field is after the host has written `v` to it, where it was `old`: good or masked as written, and otherwise as
before. -/
def lampWritten (v old : Nat) : Nat := if v = 0 ∨ v = 3 then v else old

/-- R388: the counts of the lamps that are open, short and masked. -/
def lampCountFlds : List Fld := [F.LMB_DIAG_OPEN_LAMPS, F.LMB_DIAG_SHORT_LAMPS, F.LMB_DIAG_MASKED_LAMPS]

theorem lampCount_mem (st : Nat) : lampCount st ∈ lampCountFlds := by
  unfold lampCount
  split <;> simp [lampCountFlds]

theorem lampCount_ok (st : Nat) : (lampCount st).ok = true := by
  unfold lampCount
  split <;> rfl

theorem State.setLampState_flds (s : State) (l st : Nat) : OnlyFlds lampCountFlds s (s.setLampState l st) := by
  have hstep : ∀ (c : Prop) [Decidable c] (u : State) (k v : Nat), OnlyFlds lampCountFlds s u →
      OnlyFlds lampCountFlds s (if c then u else u.setFld (lampCount k) v) := by
    intro c _ u k v hu
    split
    · exact hu
    · exact hu.setFld _ _ (lampCount_ok k) (lampCount_mem k)
  exact hstep _ _ _ _ (hstep _ _ _ _ (.of_regs rfl))

theorem State.hostLamp_flds (s : State) (l v : Nat) : OnlyFlds lampCountFlds s (s.hostLamp l v) := by
  unfold State.hostLamp
  split
  · split
    · exact s.setLampState_flds l v
    · exact .of_regs rfl
  · exact .refl _ s

theorem State.hostFaultMap_flds (s : State) (off : Nat) (bs : List Byte) : OnlyFlds lampCountFlds s (s.hostFaultMap off bs) :=
  .foldl _ (fun u _ _ => .foldl _ (fun w _ _ => w.hostLamp_flds _ _) u) s

theorem State.hostFaultMap_parts (s : State) (off : Nat) (bs : List Byte) : OnlyParts [.regs, .tile, .diag] s (s.hostFaultMap off bs) :=
  (State.hostFaultMap_evolves s off bs (List.Subset.refl _) (.refl _ s)).parts

/-- R382: the host writes the field of one lamp, and of no other. -/
theorem State.lampState_hostLamp (s : State) {l : Nat} (v m : Nat) (hl : l < 524288) :
    (s.hostLamp l v).lampState m = if m = l then lampWritten v (s.lampState l) else s.lampState m := by
  have hsame : s.lampState m = if m = l then s.lampState l else s.lampState m := by
    split
    · next h => rw [h]
    · rfl
  rw [State.hostLamp, if_pos hl, lampWritten]
  by_cases hv : v = 0 ∨ v = 3
  · rw [if_pos hv]
    by_cases hold : s.lampState l ≠ v
    · rw [if_pos ⟨hv, hold⟩]
      exact s.lampState_setLampState l m (by omega)
    · rw [if_neg (fun h => hold h.2), ← not_not.mp hold]
      exact hsame
  · rw [if_neg (fun h => hv h.1), if_neg hv]
    exact hsame

/-- R382: the host writes the fields of consecutive lamps, and of no other. -/
theorem State.lampState_hostLamps (s : State) (l n : Nat) (f : Nat → Nat) (m : Nat) (hl : l + n ≤ 524288) :
    ((List.range n).foldl (fun u i => u.hostLamp (l + i) (f i)) s).lampState m =
      if l ≤ m ∧ m < l + n then lampWritten (f (m - l)) (s.lampState m) else s.lampState m := by
  induction n with
  | zero => rw [if_neg (by omega)]; rfl
  | succ n ih =>
    rw [List.range_succ, List.foldl_append, List.foldl_cons, List.foldl_nil, State.lampState_hostLamp _ _ _ (by omega)]
    by_cases hm : m = l + n
    · subst hm
      rw [if_pos rfl, ih (by omega), if_neg (by omega), if_pos (by omega), Nat.add_sub_cancel_left]
    · rw [if_neg hm, ih (by omega)]
      exact if_congr (by omega) rfl rfl

/-- R382: the value that bytes written from byte `off` of the fault map on give the field of lamp `m`. -/
def lampField (off : Nat) (bs : List Byte) (m : Nat) : Nat := (bs.getD (m / 4 - off) 0).toNat / 4 ^ (m % 4) % 4

/-- R382: the first byte writes the fields of four lamps, and the rest those that follow. -/
theorem State.hostFaultMap_cons (s : State) (off : Nat) (b : Byte) (bs : List Byte) :
    s.hostFaultMap off (b :: bs) =
      ((List.range 4).foldl (fun u i => u.hostLamp (4 * off + i) (b.toNat / 4 ^ i % 4)) s).hostFaultMap (off + 1) bs := by
  simp only [State.hostFaultMap, List.zipIdx_cons', List.foldl_cons, List.foldl_map, Prod.map, Nat.add_zero, id_eq,
    Nat.add_assoc, Nat.add_comm 1]

/-- R382: bytes written to the fault map write the fields of their lamps, and of no other. -/
theorem State.lampState_hostFaultMap (s : State) (off : Nat) (bs : List Byte) (m : Nat) (hl : 4 * (off + bs.length) ≤ 524288) :
    (s.hostFaultMap off bs).lampState m =
      if 4 * off ≤ m ∧ m < 4 * (off + bs.length) then lampWritten (lampField off bs m) (s.lampState m) else s.lampState m := by
  induction bs generalizing off s with
  | nil => rw [if_neg (by simp)]; rfl
  | cons b bs ih =>
    rw [List.length_cons] at hl ⊢
    rw [State.hostFaultMap_cons, ih _ _ (by omega), State.lampState_hostLamps _ _ _ _ _ (by omega)]
    by_cases hfirst : m / 4 = off
    · have hfield : lampField off (b :: bs) m = b.toNat / 4 ^ (m - 4 * off) % 4 := by
        rw [lampField, hfirst, Nat.sub_self, show m % 4 = m - 4 * off by omega, List.getD_cons_zero]
      rw [if_neg (by omega), if_pos (by omega), if_pos (by omega), hfield]
    · rw [if_neg (c := 4 * off ≤ m ∧ _) (by omega)]
      by_cases hrest : 4 * (off + 1) ≤ m
      · have hfield : lampField (off + 1) bs m = lampField off (b :: bs) m := by
          rw [lampField, lampField, show m / 4 - off = m / 4 - (off + 1) + 1 by omega, List.getD_cons_succ]
        rw [hfield]
        exact if_congr (by omega) rfl rfl
      · rw [if_neg (by omega), if_neg (by omega)]

end Sys2Proof.Machine
end

section
/-! SUPPORT. Writes to the windows of a tile (R319, R321, R382, R517): whose they are, what refuses them, and what they leave. -/

namespace Sys2Proof.Machine

/-! The pixel store -/

theorem State.storeByte_congr {s t : State} (h : t.tile.store = s.tile.store) (b : Nat) : t.storeByte b = s.storeByte b := by
  simp only [State.storeByte, State.half, h]

theorem State.setStoreBytes_parts (s : State) (b : Nat) (bs : List Byte) : OnlyParts [.tile] s (s.setStoreBytes b bs) :=
  (State.setStoreBytes_evolves s b bs (List.Subset.refl _) (.refl _ s)).parts

theorem guardBytes_length (bs : List Byte) : (guardBytes bs).length = bs.length := by simp [guardBytes]

/-! The command (R517) -/

section
variable {s : State} {i : Instr} {h : Hdr} {addr : Nat} {data : List Byte} {w : Window}
  (hi : hostCmdOf i = some (h, .memWrite 0 addr data)) (k : s.newAction h (.memWrite 0 addr data)) (ht : s.tileRole = true)
  (ha : addr % 4 = 0) (hd : data.length % 4 = 0) (hw : windowOf addr data.length = some w)
include hi k ht ha hd hw

/-- R517: a new memory write to a run within a window of a tile writes the window, and answers with the status of that. -/
theorem exec_windowWrite : exec i s = .next (((s.started h 0x0020).writeWindow h.auth w addr data).1.respond h 0x0020
    (bareReply ((s.started h 0x0020).writeWindow h.auth w addr data).2)) := by
  have hfails : (s.started h 0x0020).memWriteFails h.auth 0 addr data.length = none := by
    simp [State.memWriteFails, ht, ha, hd, hw]
  rw [exec_newAction hi k rfl]
  show Host.Outcome.next ((s.started h 0x0020).doMemWrite h 0 addr data) = _
  simp only [State.doMemWrite, hfails, hw, if_true, State.refuse]

/-- A write that a window refuses is answered with the refusal, and does nothing more. -/
theorem exec_windowWrite_refused {x : Status} (hx : (s.started h 0x0020).writeWindow h.auth w addr data = (s.started h 0x0020, x))
    (hseq : x ≠ .errSeq) : ∃ t, exec i s = .next t ∧ Acts s t h 0x0020 (bareReply x) [] [] := by
  refine ⟨_, exec_windowWrite hi k ht ha hd hw, ?_⟩
  simp only [hx]
  exact s.respond_acts_here h _ _ hseq

/-- A write that a window takes is answered OK, and what it leaves of the pipeline stands in the state after. -/
theorem exec_windowWrite_taken {u : State} {ps : List Part} {fs : List Fld}
    (hx : (s.started h 0x0020).writeWindow h.auth w addr data = (u, .ok)) (hp : OnlyParts (.regs :: ps) (s.started h 0x0020) u)
    (hf : OnlyFlds fs (s.started h 0x0020) u) (hkept : ∀ p ∈ [Part.sent, .gen, .gnt], p ∉ ps) :
    ∃ t, exec i s = .next t ∧ Acts s t h 0x0020 (bareReply .ok) ps fs ∧ t.tile = u.tile ∧
      OnlyFlds [F.SYS_CMD_EVT_RSP_READY] u t := by
  have hsame : ∀ p ∈ [Part.sent, .gen, .gnt], p.same (s.started h 0x0020) u := fun p hm =>
    hp p (List.not_mem_cons_of_ne_of_not_mem (by rintro rfl; simp at hm) (hkept p hm))
  have hparts : Part.regs :: ps ⊆ answerParts ++ ps :=
    List.cons_subset.mpr ⟨by simp [answerParts], List.subset_append_right _ _⟩
  refine ⟨_, exec_windowWrite hi k ht ha hd hw, ?_⟩
  simp only [hx]
  exact ⟨s.respond_acts u h _ _ ps fs (by decide) (.of_sent (hsame .sent (by simp))) (hp.mono hparts) (hf.mono (by simp))
    (hsame .gen (by simp)) (hsame .gnt (by simp)), u.respond_parts h _ _ .tile (by decide), u.respond_flds_ok h _ _ (by decide)⟩

end

theorem State.started_tile (s : State) (h : Hdr) (op : Nat) : (s.started h op).tile = s.tile := s.started_parts h op .tile (by decide)

theorem State.windowAt_congr {s t : State} (h : t.tile = s.tile) (w : Window) (addr : Nat) : t.windowAt w addr = s.windowAt w addr := by
  unfold State.windowAt
  rw [h]

theorem State.guardValid_congr {s t : State} (h : t.regs = s.regs) (addr n : Nat) : t.guardValid addr n = s.guardValid addr n := by
  simp only [State.guardValid, State.bit, State.fld_congr h]

/-! The Lining (R319) -/

theorem State.writeLining_parts (s : State) (addr : Nat) (bs : List Byte) : OnlyParts [.regs, .tile] s (s.writeLining addr bs) :=
  (State.writeLining_evolves s addr bs (List.Subset.refl _) (.refl _ s)).parts

theorem State.writeLining_flds (s : State) (addr : Nat) (bs : List Byte) :
    OnlyFlds [F.TIL_LINING_STAT_STAGE_BUSY] s (s.writeLining addr bs) :=
  OnlyFlds.setFlag _ _ rfl (by simp) (.of_regs ((s.setStoreBytes_parts _ bs) .regs (by simp)))

theorem State.writeLining_busy (s : State) (addr : Nat) (bs : List Byte) :
    (s.writeLining addr bs).flag F.TIL_LINING_STAT_STAGE_BUSY = true := State.flag_setFlag _ _ _ rfl

theorem State.writeLining_storeByte (s : State) (addr : Nat) (bs : List Byte) (b : Nat) :
    (s.writeLining addr bs).storeByte b = if s.windowAt .lining addr ≤ b ∧ b < s.windowAt .lining addr + bs.length
      then bs.getD (b - s.windowAt .lining addr) 0 else s.storeByte b := by
  rw [← State.storeByte_setStoreBytes]
  exact State.storeByte_congr (by simp only [State.writeLining, State.setFlag_tile]) b

/-! The fault map (R382) -/

/-- R380: the fault map window holds the fields of 524,288 lamps. -/
theorem windowOf_faultMap {addr n : Nat} (h : windowOf addr n = some .faultMap) : 4 * (addr - 0xF00000 + n) ≤ 524288 := by
  unfold windowOf at h
  split at h
  · cases h
  · split at h
    · cases h
    · split at h
      · omega
      · cases h

/-! What each window takes, and what it refuses (R319, R321, R382) -/

section
variable {s : State} {h : Hdr} {addr : Nat} {data : List Byte} (k : s.newAction h (.memWrite 0 addr data)) (ht : s.tileRole = true)
  (ha : addr % 4 = 0) (hd : data.length % 4 = 0)
include k ht ha hd

/-- R319: General writes the staging bank of a Lining that is not being published, and its check begins again. -/
theorem exec_liningWindowWrite_taken (hw : windowOf addr data.length = some .lining) (hg : h.auth = .general)
    (hp : s.flag F.TIL_LINING_STAT_PENDING = false) (hb : s.flag F.TIL_LINING_STAT_COPY_BUSY = false) :
    ∃ t, exec (.liningWindowWrite h addr data) s = .next t ∧
      Acts s t h 0x0020 (bareReply .ok) [.tile] [F.TIL_LINING_STAT_STAGE_BUSY] ∧ t.flag F.TIL_LINING_STAT_STAGE_BUSY = true ∧
      ∀ b, t.storeByte b = if s.windowAt .lining addr ≤ b ∧ b < s.windowAt .lining addr + data.length
        then data.getD (b - s.windowAt .lining addr) 0 else s.storeByte b := by
  have htile := s.started_tile h 0x0020
  have hx : (s.started h 0x0020).writeWindow h.auth .lining addr data = ((s.started h 0x0020).writeLining addr data, .ok) := by
    simp [State.writeWindow, hg, State.flag_congr (s.started_regs h 0x0020), hp, hb]
  obtain ⟨t, hexec, hacts, hleft, hflds⟩ := exec_windowWrite_taken (i := .liningWindowWrite h addr data) rfl k ht ha hd hw hx
    (State.writeLining_parts _ _ _) (State.writeLining_flds _ _ _) (by decide)
  refine ⟨t, hexec, hacts, ?_, fun b => ?_⟩
  · rw [hflds.flag rfl (by decide)]
    exact State.writeLining_busy _ _ _
  · rw [State.storeByte_congr (congrArg _ hleft), State.writeLining_storeByte, State.windowAt_congr htile,
      State.storeByte_congr (congrArg _ htile)]

/-- R319: a Lining is not the Gauntlet's to write. -/
theorem exec_liningWindowWrite_gauntlet (hw : windowOf addr data.length = some .lining) (hg : h.auth = .gauntlet) :
    ∃ t, exec (.liningWindowWrite h addr data) s = .next t ∧ Acts s t h 0x0020 (bareReply .errAuth) [] [] :=
  exec_windowWrite_refused rfl k ht ha hd hw (by simp [State.writeWindow, hg]) (by decide)

/-- R319: a Lining that is being published is not written. -/
theorem exec_liningWindowWrite_publishing (hw : windowOf addr data.length = some .lining) (hg : h.auth = .general)
    (hb : s.flag F.TIL_LINING_STAT_PENDING = true ∨ s.flag F.TIL_LINING_STAT_COPY_BUSY = true) :
    ∃ t, exec (.liningWindowWrite h addr data) s = .next t ∧ Acts s t h 0x0020 (bareReply .errState) [] [] :=
  exec_windowWrite_refused rfl k ht ha hd hw
    (by simp [State.writeWindow, hg, State.flag_congr (s.started_regs h 0x0020), hb]) (by decide)

/-- R321: the Gauntlet writes Guard Images of which none is valid. -/
theorem exec_guardImageWrite_taken (hw : windowOf addr data.length = some .guard) (hg : h.auth = .gauntlet)
    (hv : s.guardValid addr data.length = false) :
    ∃ t, exec (.guardImageWrite h addr data) s = .next t ∧ Acts s t h 0x0020 (bareReply .ok) [.tile] [] ∧
      ∀ b, t.storeByte b = if s.windowAt .guard addr ≤ b ∧ b < s.windowAt .guard addr + data.length
        then (guardBytes data).getD (b - s.windowAt .guard addr) 0 else s.storeByte b := by
  have htile := s.started_tile h 0x0020
  have hx : (s.started h 0x0020).writeWindow h.auth .guard addr data =
      ((s.started h 0x0020).setStoreBytes ((s.started h 0x0020).windowAt .guard addr) (guardBytes data), .ok) := by
    simp [State.writeWindow, hg, State.guardValid_congr (s.started_regs h 0x0020), hv]
  have hparts := (s.started h 0x0020).setStoreBytes_parts ((s.started h 0x0020).windowAt .guard addr) (guardBytes data)
  obtain ⟨t, hexec, hacts, hleft, -⟩ := exec_windowWrite_taken (i := .guardImageWrite h addr data) (ps := [.tile]) rfl k ht ha hd hw hx
    (hparts.mono (by simp)) (.of_regs (hparts .regs (by decide))) (by decide)
  refine ⟨t, hexec, hacts, fun b => ?_⟩
  rw [State.storeByte_congr (congrArg _ hleft), State.storeByte_setStoreBytes, guardBytes_length, State.windowAt_congr htile,
    State.storeByte_congr (congrArg _ htile)]

/-- R321: a Guard Image that is valid is not written. -/
theorem exec_guardImageWrite_valid (hw : windowOf addr data.length = some .guard) (hg : h.auth = .gauntlet)
    (hv : s.guardValid addr data.length = true) :
    ∃ t, exec (.guardImageWrite h addr data) s = .next t ∧ Acts s t h 0x0020 (bareReply .errState) [] [] :=
  exec_windowWrite_refused rfl k ht ha hd hw
    (by simp [State.writeWindow, hg, State.guardValid_congr (s.started_regs h 0x0020), hv]) (by decide)

/-- R321: a Guard Image is not General's to write. -/
theorem exec_guardImageWrite_general (hw : windowOf addr data.length = some .guard) (hg : h.auth = .general) :
    ∃ t, exec (.guardImageWrite h addr data) s = .next t ∧ Acts s t h 0x0020 (bareReply .errAuth) [] [] :=
  exec_windowWrite_refused rfl k ht ha hd hw (by simp [State.writeWindow, hg]) (by decide)

/-- R382: General makes lamps good or masked, and the counts of lamps follow. -/
theorem exec_faultMapWrite_taken (hw : windowOf addr data.length = some .faultMap) (hg : h.auth = .general) :
    ∃ t, exec (.faultMapWrite h addr data) s = .next t ∧ Acts s t h 0x0020 (bareReply .ok) [.tile, .diag] lampCountFlds ∧
      ∀ l, t.lampState l = if 4 * (addr - 0xF00000) ≤ l ∧ l < 4 * (addr - 0xF00000 + data.length)
        then lampWritten (lampField (addr - 0xF00000) data l) (s.lampState l) else s.lampState l := by
  have hx : (s.started h 0x0020).writeWindow h.auth .faultMap addr data =
      ((s.started h 0x0020).hostFaultMap (addr - 0xF00000) data, .ok) := by
    simp [State.writeWindow, hg]
  obtain ⟨t, hexec, hacts, hleft, -⟩ := exec_windowWrite_taken (i := .faultMapWrite h addr data) rfl k ht ha hd hw hx
    (State.hostFaultMap_parts _ _ _) (State.hostFaultMap_flds _ _ _) (by decide)
  refine ⟨t, hexec, hacts, fun l => ?_⟩
  rw [State.lampState_congr (congrArg _ hleft), State.lampState_hostFaultMap _ _ _ _ (windowOf_faultMap hw),
    State.lampState_congr (congrArg _ (s.started_tile h 0x0020))]

end

end Sys2Proof.Machine
end

section
/-! CERTIFICATES. Writes to the windows of a tile (O21). -/

namespace Sys2Proof.Machine

/-- Settles O21: each window takes what its authority writes in a state that allows it, and refuses the rest; bytes and fields written are
those of `storeByte_setStoreBytes` and `lampState_hostFaultMap`. -/
theorem tileWindowWrites : Obligations.TileWindowWrites := by
  intro s h addr data k ht ha hd
  refine ⟨fun hw => ⟨fun hg hp hb => ?lining, fun hg => ?liningGauntlet, fun hg hb => ?liningPublishing⟩,
    fun hw => ⟨fun hg hv => ?guard, fun hg hv => ?guardValid, fun hg => ?guardGeneral⟩, fun hw hg => ?faultMap⟩
  case lining => exact exec_liningWindowWrite_taken k ht ha hd hw hg hp hb
  case liningGauntlet => exact exec_liningWindowWrite_gauntlet k ht ha hd hw hg
  case liningPublishing => exact exec_liningWindowWrite_publishing k ht ha hd hw hg hb
  case guard => exact exec_guardImageWrite_taken k ht ha hd hw hg hv
  case guardValid => exact exec_guardImageWrite_valid k ht ha hd hw hg hv
  case guardGeneral => exact exec_guardImageWrite_general k ht ha hd hw hg
  case faultMap => exact exec_faultMapWrite_taken k ht ha hd hw hg

end Sys2Proof.Machine
end

section
/-! SUPPORT. Bursts of another flip (R303). -/

namespace Sys2Proof.Machine

/-- R303: a burst that counts, of another flip than fills its view's buffer, is counted as stale. -/
theorem State.takeBurst_stale {s : State} {u : Burst} {a : Nat} {x : Area} {e : ModuleEntry} {f : FillBuf}
    (ha : s.areaOf u.view = some (a, x)) (he : s.burstEntry u = some e) (hf : x.fill = some f) (hl : f.flip.num % 2 ^ 32 ≠ u.flipLo) :
    s.takeBurst u = s.bump F.TIL_CNT2_STALE_COUNT := by
  simp only [State.takeBurst, ha, he, hf, if_neg hl]

end Sys2Proof.Machine
end

section
/-! CERTIFICATES. Bursts of another flip (O44). -/

namespace Sys2Proof.Machine

/-- Settles O44: the burst is for this tile and is taken, and taking it counts it as stale, which is all that it does. -/
theorem staleBurstsAreDiscarded : Obligations.StaleBurstsAreDiscarded := by
  intro s p room b a x e f hr hp hu hm ht hs hc ha he hf hl
  refine ⟨_, exec_burstUnit_own room hr hp hu hm ht hs hc, ?_⟩
  rw [State.takeBurst_stale (s := s.blockSeen p) ha he hf hl]
  have hseen := State.blockSeen_regs s p
  refine ⟨?count, State.bump_tile _ _, ?parts, (OnlyFlds.of_regs hseen).bump _ rfl (by simp)⟩
  case count => rw [State.fld_bump_same _ _ rfl, State.fld_congr hseen]; rfl
  case parts => exact ((s.blockSeen_parts p).mono (by simp)).trans ((State.bump_parts _ _).mono (by simp))

end Sys2Proof.Machine
end

section
/-! SUPPORT. States that meet the conditions which O21 and O44 ask. -/

namespace Sys2Proof.Machine

/-- A tile that runs and takes commands at its host SPI port, with values in TIL_LINING_STAT and TIL_GUARD_CTL. -/
def windowTile (lining guard : Word) : State :=
  { runningTile 0 with
    regs := [(F.SYS_MODE_MODE.addr, 4), (F.TIL_LINING_STAT_PENDING.addr, lining), (F.TIL_GUARD_CTL_VALID.addr, guard)] }

/-- O21 is about memory writes in each of the windows, by the authority whose it is and by the other, that there are. -/
theorem windowTile_newAction :
    (windowTile 0 0).tileRole = true ∧ windowOf 0x800004 4 = some .lining ∧ windowOf 0xC00004 4 = some .guard ∧
      windowOf 0xF00004 4 = some .faultMap ∧ ∀ auth : Auth, ∀ addr ∈ [0x800004, 0xC00004, 0xF00004],
        (windowTile 0 0).newAction { firstHdr with auth := auth } (.memWrite 0 addr [1, 2, 3, 4]) := by
  refine ⟨by decide, by decide, by decide, by decide, fun auth => ?_⟩
  unfold State.newAction State.runsNow State.takes
  cases auth <;> decide

/-- O21 is about Linings that are published and that are not, and about Guard Images that are valid and that are not. -/
theorem windowTile_publishes :
    (windowTile 0 0).flag F.TIL_LINING_STAT_PENDING = false ∧ (windowTile 0 0).flag F.TIL_LINING_STAT_COPY_BUSY = false ∧
      (windowTile 0x4000 0).flag F.TIL_LINING_STAT_PENDING = true ∧ (windowTile 0 0).guardValid 0xC00004 4 = false ∧
      (windowTile 0 1).guardValid 0xC00004 4 = true := by
  decide

/-- The FLIP of number `n`, for view 0. -/
def viewFlip (n : Nat) : FlipMsg := ⟨n, ⟨0, 0, 0⟩, 0, 0, 0, true, 0, 1, 1, []⟩

/-- A module of one pixel. -/
def pixelModule : ModuleEntry := ⟨1, 0, 0, 0, 1, 1, 0, 0, 0, 0, 0⟩

/-- The buffer that the view-frame of flip 6 fills. -/
def sixthFill : FillBuf := ⟨0, viewFlip 6, emptyTally 3, false⟩

/-- Tile 3, with its segment up on port 0, which knows flip 5, and whose area of view 0 is filled for flip 6. -/
def fillingTile : State :=
  { State.reset with
    regs := [(F.SYS_MODE_MODE.addr, 4), (F.MLK_STAT_ADDR.addr, 0x1000003), (F.MLK_CLAIM_SEEN.addr, 0x80000000),
      ((F.MLK_PORT_STAT_STATE 0).addr, 2)]
    flip := { State.reset.flip with known := [viewFlip 5] }
    link := { State.reset.link with tables := [⟨1, 1, [(0, pixelModule)], false⟩] }
    tile := { State.reset.tile with areas := [(0, { emptyArea 0 with fill := some sixthFill })] } }

/-- A burst of the pixel for flip 5. -/
def fifthBurst : Burst := ⟨0, 1, 0, 1, 3, 5, 1, 0, none, [7]⟩

/-- O44 is about bursts that count and are of another flip than fills their view's buffer, that there are. -/
theorem fillingTile_stale :
    fillingTile.tileRuns = true ∧ fillingTile.portUp 0 = true ∧ burstMalformed fifthBurst = false ∧
      fifthBurst.tile = fillingTile.ownAddr ∧
      fillingTile.flag F.MLK_CLAIM_SEEN = true ∧ fifthBurst.claimTag = claimTag fillingTile.claim ∧
      fillingTile.areaOf fifthBurst.view = some (0, { emptyArea 0 with fill := some sixthFill }) ∧
      fillingTile.burstEntry fifthBurst = some pixelModule ∧ sixthFill.flip.num % 2 ^ 32 ≠ fifthBurst.flipLo := by
  decide

end Sys2Proof.Machine
end

section
/-! CERTIFICATES. Steps of the block (O1), and what no step takes back (O6). -/

namespace Sys2Proof.Machine

/-- Settles O1: both clauses are the cases of `step`, by whether a command waits. -/
theorem stepRunsFrontCommand : Obligations.StepRunsFrontCommand := by
  refine ⟨fun c s rest hp => ?front, fun s hp => ?idle⟩
  case front => rw [step, hp]
  case idle =>
    refine ⟨s.ticks 1, by rw [step, hp], rfl, ?_, (State.ticks_evolves s 1 (by simp) (.refl _ s)).parts⟩
    show s.wall + 1 * s.tickStep = _
    rw [Nat.one_mul]

/-- A step evolves from the state whose queue has lost its front command: time that passes does, and so does every command. -/
theorem step_evolves {s t : State} (h : step s = .next t) : ∃ ps rest, Evolves ps { s with pending := rest } t := by
  obtain rfl | ⟨c, rest, -, hexec⟩ := step_eq_next h
  · exact ⟨[.cycles, .wall], s.pending, State.ticks_evolves s 1 (by simp) (.refl _ s)⟩
  · obtain ⟨ps, u, hu, hevolves, -⟩ := exec_evolvesTo c { s with pending := rest }
    obtain rfl := Host.Outcome.next.inj (hexec.symm.trans hu)
    exact ⟨ps, rest, hevolves⟩

/-- Settles O6: a step evolves, which counts cycles up, adds to what was sent, and keeps the fuses but for the rollback count. -/
theorem historyKept : Obligations.HistoryKept := by
  intro s t hstep
  obtain ⟨ps, rest, hevolves⟩ := step_evolves hstep
  obtain ⟨more, hmore⟩ := hevolves.sent
  exact ⟨hevolves.cycles, ⟨more, hmore.symm⟩, hevolves.rollback, hevolves.fuses⟩

end Sys2Proof.Machine
end

section
/-! SUPPORT. The schedule (R403): what a command that schedules an action is answered, and the action as it enters. -/

namespace Sys2Proof.Machine

/-! What decides the answer -/

section
variable {s t : State} {e : SchedEntry}

theorem State.tickStep_congr (h : t.regs = s.regs) : t.tickStep = s.tickStep := by
  rw [State.tickStep, State.tickStep, State.fld_congr h]

theorem State.leadTime_congr (h : t.regs = s.regs) : t.leadTime = s.leadTime := by
  rw [State.leadTime, State.leadTime, State.hops, State.hops, State.fld_congr h]

theorem State.scheduleStatus_congr (hr : t.regs = s.regs) (hw : t.wall = s.wall) (hs : t.sched = s.sched)
    (hh : t.link.heldSets = s.link.heldSets) (e : SchedEntry) : t.scheduleStatus e = s.scheduleStatus e := by
  simp only [State.scheduleStatus, hs, hw, State.tickStep_congr hr, State.leadTime_congr hr, State.schedFull_congr hr hs hh]

/-- The start of an action decides nothing of its schedule. -/
@[simp] theorem State.started_scheduleStatus (s : State) (h : Hdr) (op : Nat) (e : SchedEntry) :
    (s.started h op).scheduleStatus e = s.scheduleStatus e :=
  State.scheduleStatus_congr (s.started_regs h op) (s.started_parts h op .wall (by decide)) (s.started_parts h op .sched (by decide))
    (congrArg _ (s.started_parts h op .link (by decide))) e

/-! The rows of R403 -/

theorem State.scheduleStatus_held (hn : s.sched.any (sameAction e) = true) : s.scheduleStatus e = .ok := by
  rw [State.scheduleStatus, if_pos hn]

/-- Where the schedule does not hold the action, the time decides, and then the room. -/
theorem State.scheduleStatus_new (hn : s.sched.any (sameAction e) = false) :
    s.scheduleStatus e = if e.due + s.tickStep ≤ s.wall + s.leadTime then .errLate
      else if s.wall + 86400 * 10 ^ 9 * nsUnit < e.due then .errRange else if s.schedFull then .errCap else .ok := by
  rw [State.scheduleStatus, if_neg (by rw [hn]; decide)]

theorem State.scheduleStatus_late (hn : s.sched.any (sameAction e) = false) (hd : e.due + s.tickStep ≤ s.wall + s.leadTime) :
    s.scheduleStatus e = .errLate := by
  rw [State.scheduleStatus_new hn, if_pos hd]

theorem State.scheduleStatus_far (hn : s.sched.any (sameAction e) = false) (hl : s.wall + s.leadTime < e.due + s.tickStep)
    (hd : s.wall + 86400 * 10 ^ 9 * nsUnit < e.due) : s.scheduleStatus e = .errRange := by
  rw [State.scheduleStatus_new hn, if_neg (Nat.not_le.mpr hl), if_pos hd]

theorem State.scheduleStatus_inTime (hn : s.sched.any (sameAction e) = false) (hl : s.wall + s.leadTime < e.due + s.tickStep)
    (hd : e.due ≤ s.wall + 86400 * 10 ^ 9 * nsUnit) : s.scheduleStatus e = if s.schedFull then .errCap else .ok := by
  rw [State.scheduleStatus_new hn, if_neg (Nat.not_le.mpr hl), if_neg (Nat.not_lt.mpr hd)]

end

/-! The action enters the schedule (R403, R425, R439) -/

/-- R403, R439: an action enters the schedule, and a sender tells its tiles. -/
def State.announced (s : State) (e : SchedEntry) : State :=
  if s.tileRole then s.pushAction e else (s.pushAction e).sendAction e

theorem State.sendCmdAll_silent (s : State) (bs : List Byte) : Silent s (s.sendCmdAll bs) :=
  Silent.foldl _ _ _ fun u _ => u.sendAll_silent _

theorem State.sendAction_silent (s : State) (e : SchedEntry) : Silent s (s.sendAction e) := by
  unfold State.sendAction
  split
  case h_4 => exact s.sendCmdAll_silent _
  case h_5 => exact .refl s
  all_goals exact s.sendAll_silent _

theorem State.sendAction_parts (s : State) (e : SchedEntry) : OnlyParts [.sent, .link] s (s.sendAction e) :=
  (State.sendAction_evolves s e (List.Subset.refl _) (.refl _ s)).parts

theorem State.announced_silent (s : State) (e : SchedEntry) : Silent s (s.announced e) := by
  unfold State.announced
  split
  · exact .of_sent rfl
  · exact Silent.trans (.of_sent rfl) ((s.pushAction e).sendAction_silent e)

theorem State.announced_parts (s : State) (e : SchedEntry) : OnlyParts [.sched, .sent, .link] s (s.announced e) := by
  have hpush : OnlyParts [.sched, .sent, .link] s (s.pushAction e) := (s.pushAction_parts e).mono (by simp)
  unfold State.announced
  split
  · exact hpush
  · exact hpush.trans (((s.pushAction e).sendAction_parts e).mono (by simp))

@[simp] theorem State.announced_sched (s : State) (e : SchedEntry) : (s.announced e).sched = s.sched ++ [e] := by
  unfold State.announced
  split
  · rfl
  · exact (s.pushAction e).sendAction_parts e .sched (by simp)

@[simp] theorem State.announced_regs (s : State) (e : SchedEntry) : (s.announced e).regs = s.regs :=
  s.announced_parts e .regs (by simp)

section
variable {s : State} {e : SchedEntry}

theorem State.acceptAction_held (hn : s.sched.any (sameAction e) = true) (h : Hdr) (op : Nat) (c : HostCmd) (chosen : Option Chosen)
    (r : Reply) : s.acceptAction h op c chosen e r = s.respond h op r := by
  rw [State.acceptAction, if_pos hn]

theorem State.acceptAction_new (hn : s.sched.any (sameAction e) = false) (h : Hdr) (op : Nat) (c : HostCmd) (chosen : Option Chosen)
    (r : Reply) : s.acceptAction h op c chosen e r = (s.announced e).completeAfter (.sched h c chosen) (.reply h op r) := by
  have hneg : ¬ s.sched.any (sameAction e) = true := by rw [hn]; decide
  rw [State.acceptAction, if_neg hneg, State.addAction, if_neg hneg]
  rfl

end

/-! Completing with a response (R428) -/

theorem State.completeAfter_reply_parts (s : State) (i : ReplItem) (h : Hdr) (op : Nat) (r : Reply) :
    OnlyParts (answerParts ++ [.repl, .red]) s (s.completeAfter i (.reply h op r)) := by
  have happend : OnlyParts (answerParts ++ [.repl, .red]) s (s.append i) := (s.append_keeps i).mono (by simp [answerParts])
  unfold State.completeAfter
  dsimp only
  split
  · exact happend.trans (State.await_evolves _ _ (by simp [answerParts]) (.refl _ _)).parts
  · exact happend.trans ((State.respond_parts _ h op r).mono (List.subset_append_left _ _))

theorem State.completeAfter_reply_flds (s : State) (i : ReplItem) (h : Hdr) (op : Nat) {r : Reply} (hr : r.status ≠ .errSeq) :
    OnlyFlds [F.SYS_CMD_EVT_RSP_READY] s (s.completeAfter i (.reply h op r)) := by
  have happend : OnlyFlds [F.SYS_CMD_EVT_RSP_READY] s (s.append i) := .of_regs (s.append_regs i)
  unfold State.completeAfter
  dsimp only
  split
  · exact happend.trans (.of_regs rfl)
  · exact happend.trans (State.respond_flds_ok _ h op r hr)

/-- A new action's response, with more parts. -/
theorem Acts.mono {s t : State} {h : Hdr} {op : Nat} {r : Reply} {ps qs : List Part} {fs : List Fld}
    (hp : answerParts ++ ps ⊆ answerParts ++ qs) (k : Acts s t h op r ps fs) : Acts s t h op r qs fs := by
  obtain ⟨⟨⟨hans, hparts, hflds⟩, hauths⟩, hrec⟩ := k
  exact ⟨⟨⟨hans, hparts.mono hp, hflds⟩, hauths⟩, hrec⟩

/-- R403, R428: a new action that the schedule takes, after what its command has done from its start. -/
theorem State.acceptAction_acts {s u : State} {h : Hdr} {op : Nat} {e : SchedEntry} {r : Reply} {ps : List Part} {fs : List Fld}
    (c : HostCmd) (chosen : Option Chosen) (hn : u.sched.any (sameAction e) = false) (hr : r.status ≠ .errSeq)
    (hs : Silent (s.started h op) u) (hp : OnlyParts ps (s.started h op) u) (hf : OnlyFlds fs (s.started h op) u)
    (hgen : Part.gen ∉ ps) (hgnt : Part.gnt ∉ ps) (hrepl : Part.repl ∉ ps) :
    let t := u.acceptAction h op c chosen e r
    t.sched = u.sched ++ [e] ∧ OnlyFlds [F.SYS_CMD_EVT_RSP_READY] u t ∧
      (u.hasStandby = false → Acts s t h op r (ps ++ [.sched, .repl, .red]) fs) ∧
      (u.hasStandby = true → Awaits s t (.reply h op r) ∧ AuthsKeep h s t ∧
        OnlyParts (ps ++ [.gen, .gnt, .sched, .link, .repl, .red, .sent]) s t) := by
  dsimp only
  rw [State.acceptAction_new hn]
  have hpa : OnlyParts (ps ++ [.sched, .sent, .link]) (s.started h op) (u.announced e) :=
    (hp.mono (List.subset_append_left _ _)).trans ((u.announced_parts e).mono (List.subset_append_right _ _))
  have hra : OnlyFlds fs u (u.announced e) := .of_regs (u.announced_regs e)
  obtain ⟨hnow, hwait⟩ := s.completeAfter_acts (u.announced e) (.sched h c chosen) h op r (ps ++ [.sched, .sent, .link]) fs hr
    (hs.trans (u.announced_silent e)) hpa (hf.trans hra) (hpa .gen (by simp [hgen])) (hpa .gnt (by simp [hgnt])) (by simp [hrepl])
  rw [State.hasStandby_congr (u.announced_regs e)] at hnow hwait
  refine ⟨?_, ?_, fun hb => (hnow hb).mono (fun p hmem => ?_), fun hb => ?_⟩
  · rw [State.completeAfter_reply_parts _ _ h op r .sched (by simp [answerParts]), State.announced_sched]
  · exact OnlyFlds.trans (.of_regs (u.announced_regs e)) (State.completeAfter_reply_flds _ _ h op hr)
  · simp only [answerParts, List.mem_append, List.mem_cons] at hmem ⊢
    tauto
  · obtain ⟨hawaits, honly, hkeep⟩ := hwait hb
    exact ⟨hawaits, hkeep, honly.mono (by simp)⟩

/-! The command (R403, R516, R517) -/

/-- A row that schedules an action runs as R403 says of its time and its action. -/
theorem runStarted_scheduledBy {i : Instr} {h : Hdr} {c : HostCmd} {op : Nat} {tf : TimeField} {e : SchedEntry}
    (hi : hostCmdOf i = some (h, c)) (hs : scheduledBy i = some (h, op, tf, e)) :
    kindOf true c = .action ∧ opcodeOf c = op ∧
      ∀ u : State, u.runStarted h c = u.scheduleCmd h op c tf ∧ u.actionOf h c none = some e := by
  unfold scheduledBy at hs
  split at hs
  case h_1 h' td k id mask =>
    split at hs
    next hk =>
      obtain ⟨rfl, rfl, rfl, rfl⟩ := by simpa using hs
      obtain ⟨-, rfl⟩ := by simpa [hostCmdOf] using hi
      exact ⟨rfl, rfl, fun u => ⟨if_pos hk, by rw [State.actionOf, if_neg (by omega)]⟩⟩
    next => simp at hs
  case h_2 h' td id content =>
    split at hs
    next hc =>
      obtain ⟨rfl, rfl, rfl, rfl⟩ := by simpa using hs
      obtain ⟨-, rfl⟩ := by simpa [hostCmdOf] using hi
      exact ⟨rfl, rfl, fun u => ⟨if_neg (by omega), rfl⟩⟩
    next => simp at hs
  case h_3 h' td level id =>
    split at hs
    next hl =>
      obtain ⟨rfl, rfl, rfl, rfl⟩ := by simpa using hs
      obtain ⟨-, rfl⟩ := by simpa [hostCmdOf] using hi
      exact ⟨rfl, rfl, fun u => ⟨if_pos hl, rfl⟩⟩
    next => simp at hs
  case h_4 h' td id =>
    obtain ⟨rfl, rfl, rfl, rfl⟩ := by simpa using hs
    obtain ⟨-, rfl⟩ := by simpa [hostCmdOf] using hi
    exact ⟨rfl, rfl, fun u => ⟨rfl, rfl⟩⟩
  case h_5 => simp at hs

theorem exec_scheduledBy {s : State} {i : Instr} {h : Hdr} {c : HostCmd} {op : Nat} {tf : TimeField} {e : SchedEntry}
    (hi : hostCmdOf i = some (h, c)) (hs : scheduledBy i = some (h, op, tf, e)) (k : s.newAction h c) :
    exec i s = .next (if timeOk tf = false then (s.started h op).refuse h op .errRange
      else if s.scheduleStatus e = .ok then (s.started h op).acceptAction h op c none e (bareReply .ok)
      else (s.started h op).refuse h op (s.scheduleStatus e)) := by
  obtain ⟨hkind, rfl, hrun⟩ := runStarted_scheduledBy hi hs
  obtain ⟨hcmd, hact⟩ := hrun (s.started h (opcodeOf c))
  rw [exec_newAction hi k hkind, hcmd, State.scheduleCmd, hact]
  dsimp only
  rw [State.started_scheduleStatus]

end Sys2Proof.Machine
end

section
/-! CERTIFICATES. Commands that schedule an action (O34). -/

namespace Sys2Proof.Machine

/-- Settles O34: the status is that of the first row of R403 (`scheduleStatus_late` and its like), and `acceptAction_acts` says how an
accepted action is answered. -/
theorem commandsScheduleActions : Obligations.CommandsScheduleActions := by
  intro s i h c op tf e hi hs k
  have hexec := exec_scheduledBy hi hs k
  have hsched : (s.started h op).sched = s.sched := s.started_parts h op .sched (by decide)
  have hrefused : ∀ x, x ≠ .errSeq → x ≠ .ok → timeOk tf = true → s.scheduleStatus e = x →
      ∃ t, exec i s = .next t ∧ Acts s t h op (bareReply x) [] [] := by
    rintro _ hx hok ht rfl
    rw [if_neg (by rw [ht]; decide), if_neg hok] at hexec
    exact ⟨_, hexec, s.respond_acts_here h op _ hx⟩
  refine ⟨fun ht => ?badTime, fun ht => ⟨fun hn => ?held, fun hn => ⟨fun hd => ?late, fun hl => ⟨fun hd => ?far, fun hd =>
    ⟨fun hf => ?full, fun hf => ?accepted⟩⟩⟩⟩⟩
  case badTime =>
    rw [if_pos ht] at hexec
    exact ⟨_, hexec, s.respond_acts_here h op _ (by decide)⟩
  case held =>
    rw [if_neg (by rw [ht]; decide), if_pos (State.scheduleStatus_held hn), State.acceptAction_held (by rw [hsched]; exact hn)] at hexec
    exact ⟨_, hexec, s.respond_acts_here h op _ (by decide)⟩
  case late => exact hrefused _ (by decide) (by decide) ht (State.scheduleStatus_late hn hd)
  case far => exact hrefused _ (by decide) (by decide) ht (State.scheduleStatus_far hn hl hd)
  case full => exact hrefused _ (by decide) (by decide) ht (by rw [State.scheduleStatus_inTime hn hl hd, if_pos hf])
  case accepted =>
    have hstatus : s.scheduleStatus e = .ok := by rw [State.scheduleStatus_inTime hn hl hd, if_neg (by rw [hf]; decide)]
    rw [if_neg (by rw [ht]; decide), if_pos hstatus] at hexec
    obtain ⟨henters, -, hnow, hwait⟩ := State.acceptAction_acts (ps := []) (fs := []) c none (e := e) (r := bareReply .ok)
      (by rw [hsched]; exact hn) (by decide) (.refl (s.started h op)) (.refl _ _) (.refl _ _) (by simp) (by simp) (by simp)
    rw [State.hasStandby_congr (s.started_regs h op)] at hnow hwait
    exact ⟨_, hexec, by rw [henters, hsched], hnow, hwait⟩

end Sys2Proof.Machine
end

section
/-! SUPPORT. RESTEP (R400 to R402): what decides its answer at a sender and at a tile, and the step that a tile applies. -/

namespace Sys2Proof.Machine

/-! The answer -/

theorem beyondMs_eq_false {m : Int} (h : m.natAbs ≤ 1000000 * 65536) : beyondMs m = false := decide_eq_false (Nat.not_lt.mpr h)

theorem beyondMs_eq_true {m : Int} (h : 1000000 * 65536 < m.natAbs) : beyondMs m = true := decide_eq_true h

/-- R400: the offset is told by the registers, the samples and exchanges, and the time. -/
theorem State.preferredOffset_congr {s t : State} {ps : List Part} (h : OnlyParts ps s t) (hregs : Part.regs ∉ ps) (htime : Part.time ∉ ps)
    (hcycles : Part.cycles ∉ ps) (hfresh : Part.fresh ∉ ps) : t.preferredOffset = s.preferredOffset := by
  have hr : t.regs = s.regs := h .regs hregs
  have ht : t.time = s.time := h .time htime
  have hc : t.cycles = s.cycles := h .cycles hcycles
  have hf : t.fresh = s.fresh := h .fresh hfresh
  have hdom (d : Nat) : t.dom d = s.dom d := by rw [State.dom, State.dom, ht]
  have hmaster (d : Nat) : t.masterOf d = s.masterOf d := by rw [State.masterOf, State.masterOf, hdom]
  have hvalid (d : Nat) : t.validCount d = s.validCount d := by rw [State.validCount, State.validCount, hdom, hc]
  have hbit : t.openBit = s.openBit := by rw [State.openBit, State.openBit, State.freeValue, State.freeValue, hf]
  simp only [State.preferredOffset, State.preferredDom, State.domOffset, State.fld_congr hr, ht, hdom, hmaster, hvalid, hbit] <;> rfl

theorem State.senderFlipTime_congr {s t : State} (h : t.regs = s.regs) (n : Nat) : t.senderFlipTime n = s.senderFlipTime n := by
  simp only [State.senderFlipTime, State.flipNum, State.flipDen, State.flipOffset, State.flipBase, State.fld_congr h]

theorem State.stepFlip_congr {s t : State} (h : t.regs = s.regs) (hw : t.wall = s.wall) : t.stepFlip = s.stepFlip := by
  simp only [State.stepFlip, State.flipNum, State.flipDen, State.flipOffset, State.flipBase, State.leadTime_congr h, State.fld_congr h, hw]

/-- R400: the step by an offset that a RESTEP schedules. -/
def State.stepEntry (s : State) (h : Hdr) (m : Int) : SchedEntry := ⟨s.senderFlipTime s.stepFlip, h.seq, .step m, false⟩

/-- R400, R516: what a RESTEP answers where it schedules a step. -/
def State.stepReply (s : State) (m : Int) : Reply :=
  okReply (deltaBytes m ++ [0, 0] ++ timeBytes (timeField (s.senderFlipTime s.stepFlip)))

theorem State.started_stepTime (s : State) (h : Hdr) (op : Nat) :
    (s.started h op).senderFlipTime (s.started h op).stepFlip = s.senderFlipTime s.stepFlip := by
  rw [State.stepFlip_congr (s.started_regs h op) (s.started_parts h op .wall (by decide)), State.senderFlipTime_congr (s.started_regs h op)]

@[simp] theorem State.started_stepEntry (s : State) (h : Hdr) (op : Nat) (m : Int) : (s.started h op).stepEntry h m = s.stepEntry h m := by
  rw [State.stepEntry, State.stepEntry, State.started_stepTime]

@[simp] theorem State.started_stepReply (s : State) (h : Hdr) (op : Nat) (m : Int) : (s.started h op).stepReply m = s.stepReply m := by
  rw [State.stepReply, State.stepReply, State.started_stepTime]

/-- A schedule without a step at a time does not hold one due then. -/
theorem State.not_held_of_stepAt {s : State} {due : Nat} (h : s.stepAt due = none) (q : Nat) (d : Int) (late : Bool) :
    s.sched.any (sameAction ⟨due, q, .step d, late⟩) = false := by
  rw [List.any_eq_false]
  rintro x hx hsame
  obtain ⟨hdue, d', hact⟩ : due = x.due ∧ ∃ d', x.act = .step d' := by
    cases hact : x.act <;> simp_all [sameAction]
  have hfound : (s.sched.find? (fun e => e.due == due && schedClass e.act == 1)).isSome := by
    rw [List.find?_isSome]
    exact ⟨x, hx, by simp [hdue, hact, schedClass]⟩
  obtain ⟨y, hy⟩ := Option.isSome_iff_exists.mp hfound
  have hclass := List.find?_some hy
  rw [State.stepAt, hy] at h
  cases hact' : y.act <;> simp_all [schedClass]

section
variable {s : State} (h : Hdr)

/-! A sender (R400) -/

theorem State.restepSender_noSource
    (hn : s.flag F.PTP_STAT_STEPPED = false ∨ 1 < s.fld F.PTP_CTL_SOURCE ∨ s.preferredOffset = none) :
    s.restepSender h = s.refuse h 0x0034 .errState := by
  rw [State.restepSender]
  split
  next => rfl
  next hready =>
    obtain ⟨hstepped, hsource⟩ := not_or.mp hready
    rw [(hn.resolve_left hstepped).resolve_left hsource]

section
variable {m : Int} (hstepped : s.flag F.PTP_STAT_STEPPED = true) (hsource : s.fld F.PTP_CTL_SOURCE ≤ 1) (hm : s.preferredOffset = some m)
include hstepped hsource hm

theorem State.restepSender_near (hnear : m.natAbs ≤ 1000000 * 65536) :
    s.restepSender h = s.drawn.refuse h 0x0034 .errState := by
  rw [State.restepSender, if_neg (by simp [hstepped, hsource]), hm]
  dsimp only
  rw [if_pos (beyondMs_eq_false hnear)]

theorem State.restepSender_far (hfar : 1000000 * 65536 < m.natAbs) (hnone : s.stepAt (s.senderFlipTime s.stepFlip) = none)
    (hok : s.scheduleStatus (s.stepEntry h m) = .ok) :
    s.restepSender h = (s.drawn.setFlag F.PTP_STAT_RESTEP_PENDING true).acceptAction h 0x0034 .restep (some ⟨m, s.stepFlip⟩)
      (s.stepEntry h m) (s.stepReply m) := by
  have hfree : s.drawn.stepAt (s.drawn.senderFlipTime s.drawn.stepFlip) = none := hnone
  have hroom : s.drawn.scheduleStatus ⟨s.drawn.senderFlipTime s.drawn.stepFlip, h.seq, .step m, false⟩ = .ok := hok
  rw [State.restepSender, if_neg (by simp [hstepped, hsource]), hm]
  dsimp only
  rw [if_neg (by simp [beyondMs_eq_true hfar]), hfree, Option.getD_none, if_pos hroom]
  rfl

end

/-! A tile (R401) -/

theorem State.restepTile_near (hnear : (medianOf s.time.samples s.openBit).natAbs ≤ 1000000 * 65536) :
    s.restepTile h = s.drawn.refuse h 0x0034 .errState := by
  rw [State.restepTile, if_neg (by simp [beyondMs_eq_false hnear])]

theorem State.restepTile_far (hstepped : s.flag F.PTP_STAT_STEPPED = true)
    (hfar : 1000000 * 65536 < (medianOf s.time.samples s.openBit).natAbs) :
    s.restepTile h = (s.drawn.applyStep (medianOf s.time.samples s.openBit) false).respond h 0x0034
      (okReply (deltaBytes (medianOf s.time.samples s.openBit))) := by
  rw [State.restepTile, if_pos (by simp [hstepped, beyondMs_eq_true hfar])]

end

/-- The start of an action leaves the samples, and the open value that rounds their median. -/
theorem State.started_median (s : State) (h : Hdr) (op : Nat) :
    medianOf (s.started h op).time.samples (s.started h op).openBit = medianOf s.time.samples s.openBit := by
  have htime : (s.started h op).time = s.time := s.started_parts h op .time (by decide)
  have hfresh : (s.started h op).fresh = s.fresh := s.started_parts h op .fresh (by decide)
  rw [State.openBit, State.openBit, State.freeValue, State.freeValue, htime, hfresh]

/-! The step of a tile (R402) -/

theorem State.applyStep_parts (s : State) (delta : Int) (again : Bool) :
    OnlyParts [.regs, .wall, .flip, .sched, .time] s (s.applyStep delta again) :=
  (State.applyStep_evolves s delta again (List.Subset.refl _) (.refl _ s)).parts

/-- R402: wall time as a step leaves it, with the flip to come, the actions passed over, the samples and the pulses. -/
def State.stepClock (s : State) (delta : Int) : State :=
  let w := ((s.wall : Int) + delta * 2 ^ 24).toNat
  { s with
    wall := w
    flip := { s.flip with next := s.flipAfterStep delta w }
    sched := s.sched.map (fun (e : SchedEntry) => if s.wall < e.due ∧ e.due ≤ w then { e with late := true } else e)
    time := { s.time with
      samples := s.time.samples.map (· - delta)
      outs := s.time.outs.map (fun (o : Nat × EvtOut) => (o.1, { o.2 with since := max o.2.since w })) } }

theorem State.stepClock_regs (s : State) (delta : Int) : (s.stepClock delta).regs = s.regs := rfl

/-- What counts a step (R414). -/
theorem State.countStep_flds (s : State) :
    OnlyFlds [F.PTP_STAT_STEPS, F.PTP_STAT_STEPPED] s ((s.bump F.PTP_STAT_STEPS).setFlag F.PTP_STAT_STEPPED true) :=
  ((OnlyFlds.refl _ s).bump _ rfl (by simp)).setFlag _ _ rfl (by simp)

/-- A tile steps its clock and counts the step; the events of R402 are a sender's. -/
theorem State.applyStep_tile {s : State} (hr : s.tileRole = true) (delta : Int) :
    s.applyStep delta false = ((s.stepClock delta).bump F.PTP_STAT_STEPS).setFlag F.PTP_STAT_STEPPED true := by
  have hrole : (((s.stepClock delta).bump F.PTP_STAT_STEPS).setFlag F.PTP_STAT_STEPPED true).tileRole = true := by
    rw [(State.countStep_flds _).tileRole (by decide), State.tileRole_congr (s.stepClock_regs delta), hr]
  simp only [State.applyStep, Bool.false_and, Bool.false_eq_true, if_false]
  exact if_pos hrole

theorem State.applyStep_tile_flds {s : State} (hr : s.tileRole = true) (delta : Int) :
    OnlyFlds [F.PTP_STAT_STEPS, F.PTP_STAT_STEPPED] s (s.applyStep delta false) := by
  rw [State.applyStep_tile hr]
  exact OnlyFlds.trans (.of_regs (s.stepClock_regs delta)) (State.countStep_flds _)

theorem State.applyStep_tile_steps {s : State} (hr : s.tileRole = true) (delta : Int) :
    (s.applyStep delta false).fld F.PTP_STAT_STEPS = min (s.fld F.PTP_STAT_STEPS + 1) 255 := by
  rw [State.applyStep_tile hr, State.setFlag, State.fld_setFld_apart _ _ _ _ rfl rfl rfl, State.fld_bump_same _ _ rfl,
    State.fld_congr (s.stepClock_regs delta)]
  rfl

theorem State.applyStep_tile_wall {s : State} (hr : s.tileRole = true) (delta : Int) :
    (s.applyStep delta false).wall = ((s.wall : Int) + delta * 2 ^ 24).toNat := by
  rw [State.applyStep_tile hr]
  simp only [State.setFlag_wall, State.bump_wall]
  rfl

/-! The command -/

/-- RESTEP runs by the role of the device. -/
theorem exec_restep_sender {s : State} {h : Hdr} (k : s.newAction h .restep) (hr : s.tileRole = false) :
    exec (.restep h) s = .next ((s.started h 0x0034).restepSender h) :=
  (exec_newAction rfl k rfl).trans (congrArg _ (if_neg (by rw [State.started_tileRole, hr]; decide)))

theorem exec_restep_tile {s : State} {h : Hdr} (k : s.newAction h .restep) (hr : s.tileRole = true) :
    exec (.restep h) s = .next ((s.started h 0x0034).restepTile h) :=
  (exec_newAction rfl k rfl).trans (congrArg _ (if_pos (by rw [State.started_tileRole, hr])))

theorem State.drawn_parts (s : State) : OnlyParts [.fresh] s s.drawn := (State.drawn_evolves s (List.Subset.refl _) (.refl _ s)).parts

/-- A refusal that has taken an open value to read the median. -/
theorem State.drawn_refuse_acts (s : State) (h : Hdr) (op : Nat) {x : Status} (hx : x ≠ .errSeq) :
    Acts s ((s.started h op).drawn.refuse h op x) h op (bareReply x) [.fresh] [] :=
  s.respond_acts _ h op _ _ _ hx (.of_sent rfl) ((s.started h op).drawn_parts.mono (by simp)) (.of_regs rfl) rfl rfl

section
variable {s : State} {h : Hdr}

/-- R400: the step enters the schedule of a sender. -/
theorem exec_restep_scheduled (k : s.newAction h .restep) (hr : s.tileRole = false) {m : Int}
    (hstepped : s.flag F.PTP_STAT_STEPPED = true) (hsource : s.fld F.PTP_CTL_SOURCE ≤ 1) (hm : s.preferredOffset = some m)
    (hfar : 1000000 * 65536 < m.natAbs) (hnone : s.stepAt (s.senderFlipTime s.stepFlip) = none)
    (hok : s.scheduleStatus (s.stepEntry h m) = .ok) :
    ∃ t, exec (.restep h) s = .next t ∧ t.flag F.PTP_STAT_RESTEP_PENDING = true ∧ t.sched = s.sched ++ [s.stepEntry h m] ∧
      (s.hasStandby = false → Acts s t h 0x0034 (s.stepReply m) [.fresh, .sched, .repl, .red] [F.PTP_STAT_RESTEP_PENDING]) ∧
      (s.hasStandby = true → Awaits s t (.reply h 0x0034 (s.stepReply m)) ∧ AuthsKeep h s t) := by
  have hparts := s.started_parts h 0x0034
  have hsched : (s.started h 0x0034).sched = s.sched := hparts .sched (by decide)
  have hexec := exec_restep_sender k hr
  rw [State.restepSender_far h (m := m) (by rw [State.started_flag, hstepped]) (by rw [State.started_fld]; exact hsource)
    (by rw [State.preferredOffset_congr hparts (by decide) (by decide) (by decide) (by decide), hm]) hfar
    (by rw [State.started_stepTime, State.stepAt, hsched]; exact hnone)
    (by rw [State.started_scheduleStatus, State.started_stepEntry]; exact hok), State.started_stepEntry, State.started_stepReply] at hexec
  have hpending : OnlyFlds [F.PTP_STAT_RESTEP_PENDING] (s.started h 0x0034)
      ((s.started h 0x0034).drawn.setFlag F.PTP_STAT_RESTEP_PENDING true) := .setFlag _ _ rfl (by simp) (.of_regs rfl)
  have hset : OnlyParts [.fresh, .regs] (s.started h 0x0034) ((s.started h 0x0034).drawn.setFlag F.PTP_STAT_RESTEP_PENDING true) :=
    ((s.started h 0x0034).drawn_parts.mono (by simp)).trans ((State.setFlag_parts _ _ _).mono (by simp))
  have hfree := State.not_held_of_stepAt hnone h.seq m false
  have hflag := (s.started h 0x0034).drawn.flag_setFlag F.PTP_STAT_RESTEP_PENDING true rfl
  generalize (s.started h 0x0034).drawn.setFlag F.PTP_STAT_RESTEP_PENDING true = u at *
  have hus : u.sched = s.sched := (hset .sched (by decide)).trans hsched
  obtain ⟨henters, hflds, hnow, hwait⟩ := State.acceptAction_acts (e := s.stepEntry h m) (r := s.stepReply m) .restep
    (some ⟨m, (s.started h 0x0034).stepFlip⟩) (by rw [hus]; exact hfree) (by simp [State.stepReply, okReply])
    (.of_sent (hset .sent (by decide))) hset hpending (by decide) (by decide) (by decide)
  rw [hpending.hasStandby (by decide), State.hasStandby_congr (s.started_regs h _)] at hnow hwait
  refine ⟨_, hexec, ?_, ?_, fun hb => (hnow hb).mono (by simp [answerParts]), fun hb => ?_⟩
  · rw [hflds.flag rfl (by decide), hflag]
  · rw [henters, hus]
  · obtain ⟨hawaits, hkeep, -⟩ := hwait hb
    exact ⟨hawaits, hkeep⟩

/-- R401, R402: a tile steps at once. -/
theorem exec_restep_steps (k : s.newAction h .restep) (hr : s.tileRole = true) (hstepped : s.flag F.PTP_STAT_STEPPED = true)
    (hfar : 1000000 * 65536 < (medianOf s.time.samples s.openBit).natAbs) :
    ∃ t, exec (.restep h) s = .next t ∧ t.wall = ((s.wall : Int) + medianOf s.time.samples s.openBit * 2 ^ 24).toNat ∧
      Acts s t h 0x0034 (okReply (deltaBytes (medianOf s.time.samples s.openBit))) [.fresh, .wall, .flip, .sched, .time]
        [F.PTP_STAT_STEPS, F.PTP_STAT_STEPPED] ∧
      t.fld F.PTP_STAT_STEPS = min (s.fld F.PTP_STAT_STEPS + 1) 255 := by
  have hexec := exec_restep_tile k hr
  rw [State.restepTile_far h (by rw [State.started_flag, hstepped]) (by rw [State.started_median]; exact hfar), State.started_median] at hexec
  generalize medianOf s.time.samples s.openBit = d at *
  have hrole : (s.started h 0x0034).drawn.tileRole = true := by
    rw [State.tileRole_congr (s.started h 0x0034).drawn_regs, State.started_tileRole, hr]
  have hstep := (s.started h 0x0034).drawn.applyStep_parts d false
  have hreply := State.respond_flds_ok ((s.started h 0x0034).drawn.applyStep d false) h 0x0034 (okReply (deltaBytes d)) (by simp [okReply])
  refine ⟨_, hexec, ?_, ?_, ?_⟩
  · rw [State.respond_parts _ h _ _ .wall (by decide), State.applyStep_tile_wall hrole, State.drawn_wall,
      show (s.started h 0x0034).wall = s.wall from s.started_parts h _ .wall (by decide)]
  · refine s.respond_acts _ h _ _ _ _ (by simp [okReply]) (.of_sent (hstep .sent (by decide))) ?_ ?_ (hstep .gen (by decide))
      (hstep .gnt (by decide))
    · exact ((s.started h 0x0034).drawn_parts.mono (by simp)).trans (hstep.mono (by simp [answerParts]))
    · exact OnlyFlds.trans (.of_regs rfl) ((State.applyStep_tile_flds hrole d).mono (by simp))
  · rw [hreply _ rfl (by decide), State.applyStep_tile_steps hrole, State.fld_drawn, State.started_fld]

end

end Sys2Proof.Machine
end

section
/-! CERTIFICATES. RESTEP (O35). -/

namespace Sys2Proof.Machine

/-- Settles O35: the rows of `restepSender` and `restepTile`, read before the start of the action, which leaves what they ask. -/
theorem restepStepsByTheOffset : Obligations.RestepStepsByTheOffset := by
  intro s h k
  have hoffset : (s.started h 0x0034).preferredOffset = s.preferredOffset :=
    State.preferredOffset_congr (s.started_parts h _) (by decide) (by decide) (by decide) (by decide)
  refine ⟨fun hr => ⟨fun hn => ?noSource, fun m hstepped hsource hm hnear => ?senderNear, fun m hstepped hsource hm hfar hnone hok =>
    ?senderFar⟩, fun hr => ⟨fun hstepped hfar => exec_restep_steps k hr hstepped hfar, fun hnear => ?tileNear⟩⟩
  case noSource =>
    refine ⟨_, exec_restep_sender k hr, ?_⟩
    rw [State.restepSender_noSource h (by rw [State.started_flag, State.started_fld, hoffset]; exact hn)]
    exact s.respond_acts_here h _ _ (by decide)
  case senderNear =>
    refine ⟨_, exec_restep_sender k hr, ?_⟩
    rw [State.restepSender_near h (by rw [State.started_flag, hstepped]) (by rw [State.started_fld]; exact hsource) (by rw [hoffset, hm]) hnear]
    exact s.drawn_refuse_acts h _ (by decide)
  case senderFar =>
    obtain ⟨t, hexec, hpending, hsched, hnow, hwait⟩ := exec_restep_scheduled k hr hstepped hsource hm hfar hnone hok
    exact ⟨t, s.stepReply m, hexec, hpending, hsched, rfl, hnow, hwait⟩
  case tileNear =>
    refine ⟨_, exec_restep_tile k hr, ?_⟩
    rw [State.restepTile_near h (by rw [State.started_median]; exact hnear)]
    exact s.drawn_refuse_acts h _ (by decide)

end Sys2Proof.Machine
end

section
/-! SUPPORT. States that meet the conditions which O34 and O35 ask. -/

namespace Sys2Proof.Machine

/-- A sender that takes commands at its host SPI port, with a schedule. -/
def plannedSender (sched : List SchedEntry) : State := { mapSender 0 with sched := sched }

/-- The Hatband with ID 7 at a time in whole seconds. -/
def hatbandAt (sec : Nat) : SchedEntry := ⟨timeWall ⟨sec, 0, 0⟩, 1, .hatband 1 7 0, false⟩

/-- O34 is about commands of each kind that schedule an action, that there are, with the schedule empty, in use and full. -/
theorem plannedSender_newAction :
    ∀ l ∈ [[], [hatbandAt 1], List.replicate 512 (hatbandAt 1)],
      ∀ c ∈ [HostCmd.hatband ⟨1, 0, 0⟩ 1 7 0, .snapshot ⟨1, 0, 0⟩ 0 1, .wallReset ⟨1, 0, 0⟩ 2 0, .activate ⟨1, 0, 0⟩ 0],
        (plannedSender l).newAction firstHdr c := by
  unfold State.newAction State.runsNow State.takes
  decide

/-- O34 is about actions that are accepted, that the schedule holds, that are late, and that lie too far ahead, and about times of both
kinds. -/
theorem plannedSender_statuses :
    (plannedSender []).scheduleStatus (hatbandAt 1) = .ok ∧ (plannedSender [hatbandAt 1]).sched.any (sameAction (hatbandAt 1)) = true ∧
      (plannedSender []).scheduleStatus (hatbandAt 0) = .errLate ∧ (plannedSender []).scheduleStatus (hatbandAt 86401) = .errRange ∧
      timeOk ⟨1, 0, 0⟩ = true ∧ timeOk ⟨1, 1000000000, 0⟩ = false := by
  decide

/-- O34 is about schedules with no place left, as the one with 512 Hatbands. -/
theorem plannedSender_full {l : List SchedEntry} (h : 512 ≤ l.length) : (plannedSender l).schedFull = true := by
  obtain ⟨-, -, -, hrole⟩ := mapSender_newAction
  have hr : (plannedSender l).tileRole = false := (State.tileRole_congr (s := mapSender 0) rfl).trans hrole
  rw [State.schedFull, if_neg (by rw [hr]; decide)]
  exact decide_eq_true (Nat.le_trans h (Nat.le_add_right _ _))

/-- A device that has stepped, in a role and a mode, which follows REF where it is a sender, with one sample of its source's time. -/
def steppedDevice (role mode : Word) (offset : Int) : State :=
  { mapSender 0 with
    regs := [(F.SYS_STRAP_ROLE.addr, role), (F.SYS_MODE_MODE.addr, mode), (F.PTP_CTL_SOURCE.addr, 0x40000000),
      (F.PTP_STAT_STEPPED.addr, 0x10000000)]
    time := { State.reset.time with samples := [offset] } }

/-- O35 is about RESTEPs at senders and at tiles, that there are, near their source and far from it. -/
theorem steppedDevice_newAction :
    ∀ d ∈ [(65536 : Int), 2000000 * 65536],
      (steppedDevice 1 2 d).newAction firstHdr .restep ∧ (steppedDevice 0 4 d).newAction firstHdr .restep := by
  unfold State.newAction State.runsNow State.takes
  decide

/-- O35 is about senders that have stepped and have an offset, whose schedule takes the step. -/
theorem steppedSender_offset :
    (mapSender 0).flag F.PTP_STAT_STEPPED = false ∧
      ∀ d ∈ [(65536 : Int), 2000000 * 65536], let s := steppedDevice 1 2 d
        s.tileRole = false ∧ s.flag F.PTP_STAT_STEPPED = true ∧ s.fld F.PTP_CTL_SOURCE ≤ 1 ∧ s.preferredOffset = some d ∧
          s.stepAt (s.senderFlipTime s.stepFlip) = none ∧ s.scheduleStatus (s.stepEntry firstHdr d) = .ok := by
  decide

/-- O35 is about tiles that have stepped, within 1 ms of their source and beyond it. -/
theorem steppedTile_offset :
    ∀ d ∈ [(65536 : Int), 2000000 * 65536], let s := steppedDevice 0 4 d
      s.tileRole = true ∧ s.flag F.PTP_STAT_STEPPED = true ∧ medianOf s.time.samples s.openBit = d := by
  decide

end Sys2Proof.Machine
end

section
/-! SUPPORT. Memory writes (R428, R456, R461, R517): what refuses one, what it stores, and how it completes. -/

namespace Sys2Proof.Machine

/-! What refuses a write (R517) -/

theorem State.bufferTop_congr {s t : State} (h : t.regs = s.regs) : t.bufferTop = s.bufferTop := by
  unfold State.bufferTop
  rw [State.fld_congr h]

/-- R57: the state validated reads the registers and the accepted commits. -/
theorem State.validated_congr {s t : State} (hregs : t.regs = s.regs) (htxn : t.txn = s.txn) (chs : List Change) :
    t.validated chs = s.validated chs := by
  rw [State.validated, State.validated, htxn, funext (State.reg_congr hregs)]

/-- What refuses a memory write reads the registers and the accepted commits. -/
theorem State.memWriteFails_congr {s t : State} (hregs : t.regs = s.regs) (htxn : t.txn = s.txn) (auth : Auth) (space addr n : Nat) :
    t.memWriteFails auth space addr n = s.memWriteFails auth space addr n := by
  rw [State.memWriteFails, State.memWriteFails, State.tileRole_congr hregs, State.bufferTop_congr hregs,
    State.validated_congr hregs htxn, funext (State.reg_congr hregs)]

/-- R517: a buffer of the Gauntlet's that is in force refuses a write of General's. -/
theorem State.memWriteFails_gauntletBuffer {s : State} {addr n : Nat} (hr : s.tileRole = false) (ht : addr + n ≤ s.bufferTop)
    (hb : gauntletBuffer s.reg addr n = true) : s.memWriteFails .general 1 addr n = some .errAuth := by
  have hin : ¬ s.bufferTop < addr + n := by omega
  simp [State.memWriteFails, hr, hin, hb]

/-! Bytes of external memory (R461) -/

theorem State.memReady_congr {s t : State} (h : t.dram = s.dram) {addr n : Nat} (hr : s.memReady addr n) : t.memReady addr n :=
  fun b hlow hhigh => (State.burstReady_congr h b).mpr (hr b hlow hhigh)

/-- R461: what the host writes to external memory that is ready is stored, and no other byte changes. -/
theorem State.hostWrite_ready {s : State} {addr : Nat} {bs : List Byte} (h : s.memReady addr bs.length) :
    ∃ t, s.hostWrite addr bs = (t, true) ∧ OnlyParts [.dram] s t ∧
      ∀ a, t.memByte a = if addr ≤ a ∧ a < addr + bs.length then bs.getD (a - addr) 0 else s.memByte a := by
  obtain ⟨t, hwrite, hparts, hbytes⟩ := s.writeMem_ready addr bs h
  exact ⟨t, by simp [State.hostWrite, hwrite], hparts, hbytes⟩

/-! The command (R428, R517) -/

/-- R517: a write to external memory that nothing refuses, and that is stored, completes with the stream. -/
theorem State.doMemWrite_stored {s u : State} {h : Hdr} {addr : Nat} {data : List Byte}
    (hf : s.memWriteFails h.auth 1 addr data.length = none) (hw : s.hostWrite addr data = (u, true)) :
    s.doMemWrite h 1 addr data = u.completeAfter (.memw addr data) (.reply h 0x0020 (bareReply .ok)) := by
  simp [State.doMemWrite, hf, hw]

/-- R517: a write that is refused writes nothing. -/
theorem State.doMemWrite_refused {s : State} {h : Hdr} {space addr : Nat} {data : List Byte} {e : Status}
    (hf : s.memWriteFails h.auth space addr data.length = some e) :
    s.doMemWrite h space addr data = s.respond h 0x0020 (bareReply e) := by
  simp only [State.doMemWrite, hf, State.refuse]

/-- R428, R461: what a new write to external memory that is ready stores, and how it completes. -/
theorem State.doMemWrite_writes {s : State} {h : Hdr} {addr : Nat} {data : List Byte} (hr : s.memReady addr data.length)
    (hf : s.memWriteFails h.auth 1 addr data.length = none) :
    let t := (s.started h 0x0020).doMemWrite h 1 addr data
    (∀ a, t.memByte a = if addr ≤ a ∧ a < addr + data.length then data.getD (a - addr) 0 else s.memByte a) ∧
    (s.hasStandby = false → Acts s t h 0x0020 (bareReply .ok) [.dram, .repl, .red] []) ∧
    (s.hasStandby = true → Awaits s t (.reply h 0x0020 (bareReply .ok)) ∧
      OnlyParts [.gen, .gnt, .dram, .repl, .red, .sent] s t ∧ AuthsKeep h s t) := by
  have hdram : (s.started h 0x0020).dram = s.dram := s.started_parts h _ .dram (by decide)
  have hpass : (s.started h 0x0020).memWriteFails h.auth 1 addr data.length = none := by
    rw [State.memWriteFails_congr (s.started_regs h _) (s.started_txn h _), hf]
  obtain ⟨u, hwrite, hparts, hbytes⟩ := State.hostWrite_ready (State.memReady_congr hdram hr)
  intro t
  have ht : t = u.completeAfter (.memw addr data) (.reply h 0x0020 (bareReply .ok)) := State.doMemWrite_stored hpass hwrite
  have hregs : u.regs = s.regs := (hparts .regs (by decide)).trans (s.started_regs h _)
  obtain ⟨hnow, hwait⟩ := s.completeAfter_acts u (.memw addr data) h 0x0020 (bareReply .ok) [.dram] [] (by decide)
    (.of_sent (hparts .sent (by decide))) hparts (.of_regs (hparts .regs (by decide))) (hparts .gen (by decide))
    (hparts .gnt (by decide)) (by decide)
  rw [State.hasStandby_congr hregs] at hnow hwait
  have hdone := u.completeAfter_reply_parts (.memw addr data) h 0x0020 (bareReply .ok) .dram (by decide)
  rw [ht]
  refine ⟨fun a => ?_, hnow, fun hs => ?_⟩
  · rw [State.memByte_congr hdone, hbytes, State.memByte_congr hdram]
  · obtain ⟨hawaits, honly, hkeep⟩ := hwait hs
    exact ⟨hawaits, honly.mono (by simp), hkeep⟩

end Sys2Proof.Machine
end

section
/-! CERTIFICATES. Memory writes to external memory (O20). -/

namespace Sys2Proof.Machine

/-- Settles O20: the bytes are those of `writeMem_ready`, which `hostWrite` keeps where every burst is ready, and the completion is that of
every replicated action; a Gauntlet buffer in force refuses the command before it writes. -/
theorem memoryWriteStoresBytes : Obligations.MemoryWriteStoresBytes := by
  intro s h addr data k hrole htop
  have hx : exec (.memWrite h 1 addr data) s = .next ((s.started h 0x0020).doMemWrite h 1 addr data) := exec_newAction rfl k rfl
  refine ⟨fun hr hf => ⟨_, hx, State.doMemWrite_writes hr hf⟩, fun hg hb => ⟨_, hx, ?_⟩⟩
  have hf : (s.started h 0x0020).memWriteFails h.auth 1 addr data.length = some .errAuth := by
    rw [State.memWriteFails_congr (s.started_regs h _) (s.started_txn h _), hg, State.memWriteFails_gauntletBuffer hrole htop hb]
  rw [State.doMemWrite_refused hf]
  exact s.respond_acts_here h _ _ (by decide)

end Sys2Proof.Machine
end

section
/-! SUPPORT. SWAP (R442) and BARRIER (R265, R517): what a swap sets as it begins, and what a barrier owes and waits for. -/

namespace Sys2Proof.Machine

/-! The partner (R426) -/

theorem State.sendPartner_parts (s : State) (m : PartnerMsg) : OnlyParts [.sent, .red] s (s.sendPartner m) :=
  (State.sendPartner_evolves s m (List.Subset.refl _) (.refl _ s)).parts

/-- R426: a datagram to the partner takes the next DSEQ, and leaves the time of the last swap. -/
theorem State.sendPartner_swapAt (s : State) (m : PartnerMsg) : (s.sendPartner m).red.swapAt = s.red.swapAt := by
  unfold State.sendPartner
  cases s.pathPort <;> rfl

/-! SWAP (R442) -/

/-- R442: the register fields that tell how a swap stands. -/
def swapFlds : List Fld := [F.RED_SWAP_STAT_STATE, F.RED_SWAP_STAT_AGREED, F.RED_SWAP_STAT_MISMATCH_CHAINS]

/-- R442: what SWAP_STAT tells as a swap begins. -/
def State.swapBegun (s : State) : Prop :=
  s.fld F.RED_SWAP_STAT_STATE = 1 ∧ s.fld F.RED_SWAP_STAT_AGREED = 0 ∧ s.fld F.RED_SWAP_STAT_MISMATCH_CHAINS = 0

/-- What leaves SWAP_STAT leaves how a swap stands. -/
theorem State.swapBegun_of_flds {fs : List Fld} {s t : State} (h : OnlyFlds fs s t) (ha : allApart fs swapFlds = true)
    (hs : s.swapBegun) : t.swapBegun := by
  obtain ⟨hstate, hagreed, hmismatch⟩ := hs
  exact ⟨(h.fld_of_allApart ha (by simp [swapFlds])).trans hstate, (h.fld_of_allApart ha (by simp [swapFlds])).trans hagreed,
    (h.fld_of_allApart ha (by simp [swapFlds])).trans hmismatch⟩

/-- R442: what a swap sets as it begins, before its REQUEST leaves. -/
def State.swapSet (s : State) : State :=
  let u := (s.setFld F.RED_SWAP_STAT_STATE 1).setFld F.RED_SWAP_STAT_AGREED 0
  ({ u with red := { u.red with swapAt := u.cycles } } : State).setFld F.RED_SWAP_STAT_MISMATCH_CHAINS 0

theorem State.startSwap_eq (s : State) : s.startSwap = s.swapSet.sendPartner (.swap 1 0 0) := by
  unfold State.startSwap State.swapSet
  rfl

theorem State.fld_withRed (s : State) (x : RedState) (f : Fld) : ({ s with red := x } : State).fld f = s.fld f := by
  simp only [State.fld, State.reg]

theorem State.swapSet_sent (s : State) : s.swapSet.sent = s.sent := by
  unfold State.swapSet
  simp only [State.setFld_sent]

theorem State.swapSet_swapAt (s : State) : s.swapSet.red.swapAt = s.cycles := by
  unfold State.swapSet
  simp only [State.setFld_red, State.setFld_cycles]

theorem State.swapSet_flds (s : State) : OnlyFlds swapFlds s s.swapSet := by
  unfold State.swapSet
  have hset := ((OnlyFlds.refl swapFlds s).setFld F.RED_SWAP_STAT_STATE 1 rfl (by simp [swapFlds])).setFld
    F.RED_SWAP_STAT_AGREED 0 rfl (by simp [swapFlds])
  refine OnlyFlds.setFld _ _ rfl (by simp [swapFlds]) (hset.trans fun f _ _ => ?_)
  exact State.fld_withRed _ _ f

/-- R442: a swap begins with STATE 1, nothing agreed and no mismatch. -/
theorem State.swapSet_begun (s : State) : s.swapSet.swapBegun := by
  unfold State.swapSet
  refine ⟨?state, ?agreed, ?mismatch⟩
  case state =>
    rw [State.fld_setFld_apart _ _ _ _ rfl rfl rfl, State.fld_withRed, State.fld_setFld_apart _ _ _ _ rfl rfl rfl]
    exact State.fld_setFld_same _ _ _ rfl
  case agreed =>
    rw [State.fld_setFld_apart _ _ _ _ rfl rfl rfl, State.fld_withRed]
    exact State.fld_setFld_same _ _ _ rfl
  case mismatch => exact State.fld_setFld_same _ _ _ rfl

/-- R442: what the start of a swap leaves, says and sets. -/
theorem State.startSwap_spec (s : State) :
    s.startSwap.swapBegun ∧ s.startSwap.red.swapAt = s.cycles ∧ Silent s s.startSwap ∧ OnlyFlds swapFlds s s.startSwap ∧
      OnlyParts [.regs, .sent, .red] s s.startSwap := by
  have hparts := (State.startSwap_evolves s (List.Subset.refl _) (.refl _ s)).parts
  have hat := s.swapSet.sendPartner_swapAt (.swap 1 0 0)
  have hsilent := s.swapSet.sendPartner_silent (.swap 1 0 0)
  have hregs := s.swapSet.sendPartner_parts (.swap 1 0 0) .regs (by decide)
  rw [← State.startSwap_eq] at hat hsilent hregs
  exact ⟨State.swapBegun_of_flds (.of_regs (fs := []) hregs) (by decide) s.swapSet_begun, hat.trans s.swapSet_swapAt,
    Silent.trans (.of_sent s.swapSet_sent) hsilent, s.swapSet_flds.trans (.of_regs hregs), hparts⟩

/-- R442: without a partner, or while a swap runs, SWAP is refused. -/
theorem State.doSwap_refused {s : State} (h : Hdr) (hs : s.partnered = false ∨ s.fld F.RED_SWAP_STAT_STATE ≠ 0) :
    s.doSwap h = s.respond h 0x0035 (bareReply .errState) := by
  rw [State.doSwap, if_pos (by simpa using hs), State.refuse]

/-- R442: with a partner, and while no swap runs, SWAP begins one. -/
theorem State.doSwap_begins {s : State} (h : Hdr) (hp : s.partnered = true) (hs : s.fld F.RED_SWAP_STAT_STATE = 0) :
    s.doSwap h = s.startSwap.respond h 0x0035 (bareReply .ok) := by
  rw [State.doSwap, if_neg (by simp [hp, hs]), State.refuse]

/-- R442: a new SWAP that begins one. -/
theorem State.startSwap_acts (s : State) (h : Hdr) :
    let t := (s.started h 0x0035).startSwap.respond h 0x0035 (bareReply .ok)
    t.swapBegun ∧ t.red.swapAt = s.cycles ∧ Acts s t h 0x0035 (bareReply .ok) [.red] swapFlds := by
  have hcycles : (s.started h 0x0035).cycles = s.cycles := s.started_parts h _ .cycles (by decide)
  obtain ⟨hbegun, hat, hsilent, hflds, hparts⟩ := (s.started h 0x0035).startSwap_spec
  generalize (s.started h 0x0035).startSwap = u at *
  have hred : (u.respond h 0x0035 (bareReply .ok)).red = u.red := u.respond_parts h _ _ .red (by decide)
  exact ⟨State.swapBegun_of_flds (u.respond_flds_ok h _ _ (by decide)) (by decide) hbegun, by rw [hred, hat, hcycles],
    s.respond_acts u h _ _ [.red] swapFlds (by decide) hsilent (hparts.mono (by decide)) (hflds.mono (List.subset_cons_self _ _))
      (hparts .gen (by decide)) (hparts .gnt (by decide))⟩

/-! BARRIER (R265, R517) -/

/-- R265: the chain ports of the tiles that have a session. -/
def State.barrierPorts (s : State) : List Nat := ((List.range 8).filter s.portUp).filter (fun p => s.chainTiles p != [])

/-- R517: a barrier that waits for the tiles of some ports. -/
def State.awaitBarrier (s : State) (h : Hdr) (id : Nat) (ports : List Nat) : State :=
  { s with cmd := { s.cmd with barriers := s.cmd.barriers ++ [⟨h, id, ports.flatMap s.chainTiles⟩] } }

/-- R265: BARRIER leaves on a chain port, and its tiles are owed. -/
def State.barrierOn (id : Nat) (s : State) (p : Nat) : State :=
  let u := s.emitMsg p 0xFFFF (.barrier id) []
  { u with link := { u.link with
      unacked := u.link.unacked ++ [⟨p, (s.port p).nextSeq, 0xFFFF, .barrier id, s.chainTiles p, u.cycles, 0⟩] } }

theorem State.sendBarrier_eq (s : State) (h : Hdr) (id : Nat) :
    s.sendBarrier h id = (s.barrierPorts.foldl (State.barrierOn id) (s.awaitBarrier h id s.barrierPorts)).barrierEnds id := rfl

theorem State.chainTiles_congr {s t : State} (h : t.regs = s.regs) : t.chainTiles = s.chainTiles := by
  funext c
  simp only [State.chainTiles, State.flag_congr h, State.fld_congr h]

theorem State.barrierPorts_congr {s t : State} (h : t.regs = s.regs) : t.barrierPorts = s.barrierPorts := by
  rw [State.barrierPorts, State.barrierPorts, State.chainTiles_congr h, funext (State.portUp_congr h)]

/-- From `s` to `t` a barrier has come to be owed once more for each of `n` ports. -/
def OwesBarrier (id n : Nat) (s t : State) : Prop :=
  ∃ us, t.link.unacked = s.link.unacked ++ us ∧ us.length = n ∧ ∀ u ∈ us, u.msg = .barrier id

/-- R265: BARRIER on one port is owed once, asks for no answer at once, and changes the link alone. -/
theorem State.barrierOn_spec (id : Nat) (s : State) (p : Nat) :
    OwesBarrier id 1 s (s.barrierOn id p) ∧ Silent s (s.barrierOn id p) ∧ OnlyParts [.sent, .link] s (s.barrierOn id p) := by
  obtain ⟨hsent, -, -, hunacked, hparts⟩ := s.emitMsg_spec p 0xFFFF (.barrier id) []
  have howed := congrArg (· ++ [(⟨p, (s.port p).nextSeq, 0xFFFF, .barrier id, s.chainTiles p,
    (s.emitMsg p 0xFFFF (.barrier id) []).cycles, 0⟩ : Unacked)]) (hunacked.trans (List.append_nil _))
  refine ⟨⟨_, howed, rfl, by simp⟩, ⟨_, hsent, by simp [Output.isReply]⟩, hparts.trans ?_⟩
  exact (Evolves.set_link (ps := [.sent, .link]) _ (by decide) (.refl _ _)).parts

/-- R265: BARRIER on several ports. -/
theorem State.foldl_barrierOn_spec (id : Nat) (ports : List Nat) (s : State) :
    let t := ports.foldl (State.barrierOn id) s
    OwesBarrier id ports.length s t ∧ Silent s t ∧ OnlyParts [.sent, .link] s t := by
  induction ports generalizing s with
  | nil => exact ⟨⟨[], by simp, rfl, by simp⟩, .refl s, .refl _ s⟩
  | cons p ports ih =>
    obtain ⟨⟨us, hus, hone, hmsg⟩, hsilent, hparts⟩ := State.barrierOn_spec id s p
    obtain ⟨⟨vs, hvs, hlen, hmsgs⟩, hsilents, hrest⟩ := ih (s.barrierOn id p)
    refine ⟨⟨us ++ vs, ?_, ?_, ?_⟩, hsilent.trans hsilents, hparts.trans hrest⟩
    · rw [List.foldl_cons, hvs, hus, List.append_assoc]
    · rw [List.length_append, hone, hlen, List.length_cons, Nat.add_comm]
    · exact fun u hu => (List.mem_append.mp hu).elim (hmsg u) (hmsgs u)

/-- R517: a barrier that a port still owes does not end. -/
theorem State.barrierEnds_owing {s : State} {id : Nat} {u : Unacked} (hu : u ∈ s.link.unacked) (hm : u.msg = .barrier id) :
    s.barrierEnds id = s := by
  have howes : s.link.unacked.any (fun u => u.msg == .barrier id) = true := List.any_eq_true.mpr ⟨u, hu, by simp [hm]⟩
  unfold State.barrierEnds
  split
  · rfl
  · exact if_pos howes

/-- A barrier with a number of its own is found by that number. -/
theorem State.awaitBarrier_find {s : State} {id : Nat} (hfree : s.cmd.barriers.all (fun b => b.id != id) = true) (h : Hdr)
    (ports : List Nat) :
    (s.awaitBarrier h id ports).cmd.barriers.find? (fun b => b.id == id) = some ⟨h, id, ports.flatMap s.chainTiles⟩ := by
  have hnone : s.cmd.barriers.find? (fun b => b.id == id) = none :=
    List.find?_eq_none.mpr fun b hb => by simpa using List.all_eq_true.mp hfree b hb
  simp [State.awaitBarrier, List.find?_append, hnone]

/-- A barrier with a number of its own, once dropped, leaves the barriers as they were. -/
theorem State.awaitBarrier_drop {s : State} {id : Nat} (hfree : s.cmd.barriers.all (fun b => b.id != id) = true) (h : Hdr)
    (ports : List Nat) : ((s.awaitBarrier h id ports).dropBarrier id).cmd = s.cmd := by
  have hkept : s.cmd.barriers.filter (fun b => b.id != id) = s.cmd.barriers := List.filter_eq_self.mpr (List.all_eq_true.mp hfree)
  simp [State.awaitBarrier, State.dropBarrier, List.filter_append, hkept]

section
variable {s : State} {h : Hdr} {id : Nat}

/-- R265: BARRIER where no tile of the chains has a session ends at once, with no tile left. -/
theorem State.sendBarrier_none (hfree : s.cmd.barriers.all (fun b => b.id != id) = true)
    (howed : s.link.unacked.all (fun u => u.msg != .barrier id) = true) (hp : s.barrierPorts = []) :
    s.sendBarrier h id = ((s.awaitBarrier h id []).dropBarrier id).respond h 0x0032 (okReply (leBytes 2 0 ++ [0, 0])) := by
  have hnone : s.link.unacked.any (fun u => u.msg == .barrier id) = false :=
    List.any_eq_false.mpr fun u hu => by simpa using List.all_eq_true.mp howed u hu
  rw [State.sendBarrier_eq, hp]
  exact State.barrierEnds_answers (State.awaitBarrier_find hfree h []) hnone

/-- R265: BARRIER waits for the tiles of the chains that have a session, and each of their ports owes it. -/
theorem State.sendBarrier_waits (hp : s.barrierPorts ≠ []) :
    (s.sendBarrier h id).cmd.barriers = s.cmd.barriers ++ [⟨h, id, s.barrierPorts.flatMap s.chainTiles⟩] ∧
      (s.sendBarrier h id).link.unacked.length = s.link.unacked.length + s.barrierPorts.length ∧
      Silent s (s.sendBarrier h id) ∧ OnlyParts [.cmd, .sent, .link] s (s.sendBarrier h id) := by
  have hawait : OnlyParts [.cmd, .sent, .link] s (s.awaitBarrier h id s.barrierPorts) :=
    (Evolves.set_cmd (ps := [.cmd, .sent, .link]) _ (by decide) (.refl _ s)).parts
  obtain ⟨⟨us, hus, hlen, hmsg⟩, hsilent, hparts⟩ := State.foldl_barrierOn_spec id s.barrierPorts (s.awaitBarrier h id s.barrierPorts)
  obtain ⟨u, hu⟩ : ∃ u, u ∈ us := List.exists_mem_of_length_pos (hlen ▸ List.length_pos_iff.mpr hp)
  rw [State.sendBarrier_eq, State.barrierEnds_owing (by rw [hus]; exact List.mem_append_right _ hu) (hmsg u hu)]
  refine ⟨?_, ?_, Silent.trans (.of_sent rfl) hsilent, hawait.trans (hparts.mono (by decide))⟩
  · rw [hparts .cmd (by decide)]
    rfl
  · rw [hus, List.length_append, hlen]
    rfl

end

section
variable {s : State} {h : Hdr} {id : Nat} (k : s.newAction h (.barrier id))
include k

/-- R265, R517: a new BARRIER where no tile of the chains has a session. -/
theorem exec_barrierCmd_none (hfree : s.cmd.barriers.all (fun b => b.id != id) = true)
    (howed : s.link.unacked.all (fun u => u.msg != .barrier id) = true) (hp : s.barrierPorts = []) :
    ∃ t, exec (.barrierCmd h id) s = .next t ∧ t.cmd.barriers = s.cmd.barriers ∧
      Acts s t h 0x0032 (okReply (leBytes 2 0 ++ [0, 0])) [] [] := by
  have hcmd : (s.started h 0x0032).cmd = s.cmd := s.started_parts h _ .cmd (by decide)
  have hlink : (s.started h 0x0032).link = s.link := s.started_parts h _ .link (by decide)
  have hexec : exec (.barrierCmd h id) s = .next ((s.started h 0x0032).sendBarrier h id) := exec_newAction rfl k rfl
  rw [State.sendBarrier_none (by rw [hcmd]; exact hfree) (by rw [hlink]; exact howed)
    ((State.barrierPorts_congr (s.started_regs h _)).trans hp)] at hexec
  have hdrop : (((s.started h 0x0032).awaitBarrier h id []).dropBarrier id).cmd = s.cmd := by
    rw [State.awaitBarrier_drop (by rw [hcmd]; exact hfree), hcmd]
  have hparts : OnlyParts [.cmd] (s.started h 0x0032) (((s.started h 0x0032).awaitBarrier h id []).dropBarrier id) :=
    OnlyParts.trans (Evolves.set_cmd (ps := [.cmd]) _ (List.mem_singleton_self _) (.refl _ _)).parts (State.dropBarrier_parts _ id)
  generalize ((s.started h 0x0032).awaitBarrier h id []).dropBarrier id = u at *
  refine ⟨_, hexec, ?_, s.respond_acts u h _ _ [] [] (by simp [okReply]) (.of_sent (hparts .sent (by decide)))
    (hparts.mono (by decide)) (.of_regs (hparts .regs (by decide))) (hparts .gen (by decide)) (hparts .gnt (by decide))⟩
  obtain ⟨held, hheld⟩ := u.respond_cmd h 0x0032 (okReply (leBytes 2 0 ++ [0, 0]))
  rw [hheld, hdrop]

/-- R265, R517: a new BARRIER where tiles of the chains have sessions. -/
theorem exec_barrierCmd_waits (hp : s.barrierPorts ≠ []) :
    ∃ t, exec (.barrierCmd h id) s = .next t ∧ t.cmd.barriers = s.cmd.barriers ++ [⟨h, id, s.barrierPorts.flatMap s.chainTiles⟩] ∧
      t.link.unacked.length = s.link.unacked.length + s.barrierPorts.length ∧ Silent s t ∧ AuthsKeep h s t ∧
      OnlyParts [.gen, .gnt, .cmd, .link, .sent] s t := by
  have hcmd : (s.started h 0x0032).cmd = s.cmd := s.started_parts h _ .cmd (by decide)
  have hlink : (s.started h 0x0032).link = s.link := s.started_parts h _ .link (by decide)
  have hports := State.barrierPorts_congr (s.started_regs h 0x0032)
  obtain ⟨hwaits, howes, hsilent, hparts⟩ := State.sendBarrier_waits (h := h) (id := id) (by rw [hports]; exact hp)
  rw [hports, hcmd, State.chainTiles_congr (s.started_regs h _)] at hwaits
  rw [hports, hlink] at howes
  exact ⟨_, exec_newAction rfl k rfl, hwaits, howes, (s.started_silent h _).trans hsilent,
    (s.started_auths h _).trans (.of_same (hparts .gen (by decide)) (hparts .gnt (by decide))),
    ((s.started_parts h _).mono (by decide)).trans (hparts.mono (by decide))⟩

end

end Sys2Proof.Machine
end

section
/-! CERTIFICATES. SWAP and BARRIER begin (O36). -/

namespace Sys2Proof.Machine

/-- Settles O36: SWAP is what `doSwap_refused` and `doSwap_begins` say of it, and a barrier ends at once just where no port owes it. -/
theorem swapsAndBarriersBegin : Obligations.SwapsAndBarriersBegin := by
  intro s h id
  have hswap : s.newAction h .swap → exec (.swapCmd h) s = .next ((s.started h 0x0035).doSwap h) := fun k => exec_newAction rfl k rfl
  have hpartnered : (s.started h 0x0035).partnered = s.partnered := s.started_flag h _ _
  have hstate := s.started_fld h 0x0035 F.RED_SWAP_STAT_STATE
  refine ⟨fun k hs => ?refused, fun k hp hs => ?begins, fun k hfree howed =>
    ⟨exec_barrierCmd_none k hfree howed, exec_barrierCmd_waits k⟩⟩
  case refused =>
    refine ⟨_, hswap k, ?_⟩
    rw [State.doSwap_refused h (by rwa [hpartnered, hstate])]
    exact s.respond_acts_here h _ _ (by decide)
  case begins =>
    obtain ⟨⟨hone, hagreed, hmismatch⟩, hat, hacts⟩ := s.startSwap_acts h
    refine ⟨_, hswap k, ?_⟩
    rw [State.doSwap_begins h (hpartnered.trans hp) (hstate.trans hs)]
    exact ⟨hone, hagreed, hmismatch, hat, hacts⟩

end Sys2Proof.Machine
end

section
/-! SUPPORT. States that meet the conditions which O20 and O36 ask. -/

namespace Sys2Proof.Machine

/-- A sender that takes commands at its host SPI port, with 1 GiB of memory, of which the first burst has been written, and the register
words `l`. -/
def memorySender (l : List (Nat × Word)) : State :=
  { mapSender 0 with
    regs := [(F.SYS_STRAP_ROLE.addr, 1), (F.SYS_MODE_MODE.addr, 2), (F.DRC_TOP_TOP_MIB.addr, 1024)] ++ l
    dram := { State.reset.dram with mem := [(0, List.replicate 64 0)] } }

/-- A partner that is configured and counts. -/
def partnerWords : List (Nat × Word) := [(F.RED_CTL_PARTNER_EN.addr, 0x80000000), (F.RED_STAT_PARTNER_PRESENT.addr, 0x10000000)]

/-- A layer of the Gauntlet's that is enabled, with its buffer in the first burst of memory. -/
def gauntletLayer : List (Nat × Word) :=
  [((F.CMP_LAYER_CTL_EN 0 60).addr, 0xA0000000), ((F.CMP_LAYER_BUF_FMT_PITCH_64B 0 60).addr, 1),
   ((F.CMP_LAYER_BUF_SIZE_BUF_H 0 60).addr, 1)]

/-- O20 is about memory writes within the memory that buffers may use, that there are, at senders with a standby and without one. -/
theorem memorySender_newAction :
    ∀ l ∈ [[], partnerWords, gauntletLayer],
      (memorySender l).newAction firstHdr (.memWrite 1 4 [1, 2, 3]) ∧ (memorySender l).tileRole = false ∧
        4 + 3 ≤ (memorySender l).bufferTop := by
  unfold State.newAction State.runsNow State.takes
  decide

theorem memorySender_hasStandby : (memorySender []).hasStandby = false ∧ (memorySender partnerWords).hasStandby = true := by decide

/-- O20 is about runs of which every burst is ready. -/
theorem memorySender_ready (l : List (Nat × Word)) : (memorySender l).memReady 4 3 := by
  intro b _ hb
  obtain rfl : b = 0 := by omega
  exact ⟨rfl, rfl⟩

/-- O20 is about writes that nothing refuses, and about writes that meet a buffer of the Gauntlet's. -/
theorem memorySender_buffers :
    (∀ l ∈ [[], partnerWords], (memorySender l).memWriteFails .general 1 4 3 = none) ∧
      gauntletBuffer (memorySender gauntletLayer).reg 4 3 = true := by
  decide

/-- SWAP_STAT as a swap begins. -/
def swapRunning : List (Nat × Word) := [(F.RED_SWAP_STAT_STATE.addr, 0x10000000)]

/-- O36 is about swaps without a partner, with one, and while a swap runs, that there are. -/
theorem memorySender_swaps :
    (∀ l ∈ [[], partnerWords, swapRunning], (memorySender l).newAction firstHdr .swap) ∧ (memorySender []).partnered = false ∧
      (memorySender partnerWords).partnered = true ∧ (memorySender partnerWords).fld F.RED_SWAP_STAT_STATE = 0 ∧
      (memorySender swapRunning).fld F.RED_SWAP_STAT_STATE ≠ 0 := by
  unfold State.newAction State.runsNow State.takes
  decide

/-- The segment of chain port 0 is UP, and tile 3 of it has a session. -/
def openSession : List (Nat × Word) := [((F.MLK_PORT_STAT_STATE 0).addr, 2), ((F.MLK_SESS_STAT_OPEN 3).addr, 0x80000000)]

/-- O36 is about barriers where no tile has a session, and where one has, with no barrier and no message that waits. -/
theorem memorySender_barriers :
    (∀ l ∈ [[], openSession], (memorySender l).newAction firstHdr (.barrier 7) ∧
        (memorySender l).cmd.barriers.all (fun b => b.id != 7) = true ∧
        (memorySender l).link.unacked.all (fun u => u.msg != .barrier 7) = true) ∧
      (memorySender []).barrierPorts = [] ∧ 0 ∈ (memorySender openSession).barrierPorts := by
  unfold State.newAction State.runsNow State.takes
  decide

end Sys2Proof.Machine
end

section
/-! CERTIFICATES. Every command answers (O4). -/

namespace Sys2Proof.Machine

/-- Settles O4: the queue of the commands that wait is none of the parts that a command changes as it evolves to the state it answers. -/
theorem everyCommandAnswers : Obligations.EveryCommandAnswers := by
  intro i s
  obtain ⟨ps, t, hexec, hevolves, hpending⟩ := exec_evolvesTo i s
  exact ⟨t, hexec, hevolves.parts .pending hpending⟩

end Sys2Proof.Machine
end

section
/-! SUPPORT. Queries (R514, R516, R517): a query answers at once, and its response is all that changes. -/

namespace Sys2Proof.Machine

/-- R511: a query that passes its checks runs at once. -/
theorem exec_query {s : State} {i : Instr} {h : Hdr} {c : HostCmd} (hi : hostCmdOf i = some (h, c)) (ht : s.takes h c)
    (hq : kindOf false c = .query) : exec i s = .next (s.runQuery h c) := by
  rw [exec_hostCmd s i h c hi, s.submit_query h c ht hq]

theorem okReply_ne_errSeq (body : List Byte) : (okReply body).status ≠ .errSeq := nofun

/-- A query that answers a body from the state as it stands. -/
theorem exec_query_ok {s : State} {i : Instr} {h : Hdr} {c : HostCmd} {op : Nat} {body : List Byte} (hi : hostCmdOf i = some (h, c))
    (ht : s.takes h c) (hq : kindOf false c = .query) (hrun : s.runQuery h c = s.respond h op (okReply body)) :
    ∃ t, exec i s = .next t ∧ Replies s t h op (okReply body) [] [] :=
  ⟨_, (exec_query hi ht hq).trans (congrArg _ hrun), s.respond_replies_here h op _ (okReply_ne_errSeq body)⟩

/-! The device itself (R483, R516) -/

/-- R516: the body of a LOG_READ response, from a log that holds `recs` of the `total` records written. -/
def logBody (recs : List FaultRec) (total first count : Nat) : List Byte :=
  let out := (recs.drop (max first (total - recs.length) - (total - recs.length))).take count
  leBytes 4 total ++ leBytes 4 (total - recs.length) ++ leBytes 2 out.length ++ [0, 0] ++ out.flatMap faultBytes

/-- R483, R516: what LOG_READ of a log that exists and a count in range answers. -/
theorem State.doLogRead_eq {s : State} {log count : Nat} (h : Hdr) (first : Nat) (hlog : log ≤ 1) (h1 : 1 ≤ count) (h2 : count ≤ 256) :
    s.doLogRead h log first count = s.respond h 0x0004 (okReply (logBody (if log = 0 then s.faults.recs else s.nvm.log)
      (if log = 0 then s.faults.total else s.nvm.logTotal) first count)) := by
  rw [State.doLogRead, if_neg (by omega), if_neg (by omega)]
  rfl

theorem State.doPtpMetadata_eq {s : State} {d : Nat} {t : TimeField} {tlv : List Byte} (h : Hdr) (hd : d ≤ 1)
    (hm : (s.dom d).metadata = some (t, tlv)) :
    s.doPtpMetadata h d = s.respond h 0x0008 (okReply (timeBytes t ++ leBytes 2 tlv.length ++ [0, 0] ++ tlv)) := by
  simp only [State.doPtpMetadata, if_neg (show ¬ 1 < d by omega), hm]

theorem State.doCountersRead_eq {s : State} {port : Nat} (h : Hdr) (hp : port ≤ 1) :
    s.doCountersRead h port = s.respond h 0x0006 (okReply ((s.net port).counters.flatMap (leBytes 4))) := by
  rw [State.doCountersRead, if_neg (by omega)]

/-! Memory (R460, R517) -/

/-- R459: a read of a burst that is ready gives its bytes, and changes nothing. -/
theorem State.readBurst_ready {s : State} {b : Nat} (requester : Nat) (h : s.burstReady b) :
    s.readBurst requester b = (s, some (s.burstBytes b)) := by
  obtain ⟨hbad, hlen⟩ := h
  rw [State.readBurst, if_neg (by simpa using hbad)]
  split
  next hnil => simp [hnil] at hlen
  next => rfl

/-- R460: a read of a burst with an uncorrectable error gives no bytes. -/
theorem State.readBurst_bad {s : State} {b : Nat} (requester : Nat) (h : s.badWords b ≠ 0) : (s.readBurst requester b).2 = none := by
  rw [State.readBurst, if_pos h]

/-- One part of a run, as it is read. -/
def readPart (requester : Nat) (x : State × Option (List Byte)) (p : Nat × Nat × Nat) : State × Option (List Byte) :=
  match x.2 with
  | none => x
  | some acc =>
    match x.1.readBurst requester p.1 with
    | (t, some bs) => (t, some (acc ++ (bs.drop p.2.1).take p.2.2))
    | (t, none) => (t, none)

theorem State.readMem_eq (s : State) (requester addr n : Nat) :
    s.readMem requester addr n = (burstParts (n / 64 + 2) addr n).foldl (readPart requester) (s, some []) := rfl

/-- The bytes of a part of a burst, one by one. -/
theorem State.burstBytes_part {s : State} {addr k : Nat} (hlen : (s.burstBytes (addr / 64)).length = 64) (hk : addr % 64 + k ≤ 64) :
    ((s.burstBytes (addr / 64)).drop (addr % 64)).take k = (List.range k).map (fun i => s.memByte (addr + i)) := by
  refine List.ext_getElem (by simp; omega) fun i hi _ => ?_
  have hik : i < k := by simp at hi; omega
  have hburst : (addr + i) / 64 = addr / 64 := by omega
  have hplace : (addr + i) % 64 = addr % 64 + i := by omega
  simp only [List.getElem_take, List.getElem_drop, List.getElem_map, List.getElem_range, State.memByte, hburst, hplace]
  rw [List.getD_eq_getElem _ _ (by omega)]

/-- Where every burst met is ready, the parts of a run read one after another are its bytes. -/
theorem foldl_readPart_ready {s : State} (requester : Nat) : ∀ (fuel addr n : Nat) (acc : List Byte),
    n = 0 ∨ n + addr % 64 ≤ 64 * fuel → s.memReady addr n →
    (burstParts fuel addr n).foldl (readPart requester) (s, some acc) = (s, some (acc ++ (List.range n).map (fun i => s.memByte (addr + i)))) := by
  intro fuel
  induction fuel with
  | zero =>
    intro addr n acc hfuel _
    obtain rfl : n = 0 := by omega
    simp [burstParts]
  | succ fuel ih =>
    intro addr n acc hfuel hready
    unfold burstParts
    split
    · next hn => simp [hn]
    · next hn =>
      dsimp only
      obtain ⟨k, hk⟩ : ∃ k, min n (64 - addr % 64) = k := ⟨_, rfl⟩
      have hburst : s.burstReady (addr / 64) := hready _ (Nat.le_refl _) (by omega)
      have hpart : readPart requester (s, some acc) (addr / 64, addr % 64, k) =
          (s, some (acc ++ (List.range k).map (fun i => s.memByte (addr + i)))) := by
        simp only [readPart, State.readBurst_ready requester hburst, State.burstBytes_part hburst.2 (show addr % 64 + k ≤ 64 by omega)]
      have hrest : s.memReady (addr + k) (n - k) := fun b hlow hhigh => hready b (by omega) (by omega)
      rw [hk, List.foldl_cons, hpart, ih (addr + k) (n - k) _ (by omega) hrest, List.append_assoc,
        show n = k + (n - k) by omega, List.range_add, List.map_append, List.map_map]
      simp [Function.comp_def, Nat.add_assoc]

/-- R460: a read of memory that is ready gives its bytes, and changes nothing. -/
theorem State.readMem_ready {s : State} {addr n : Nat} (requester : Nat) (h : s.memReady addr n) :
    s.readMem requester addr n = (s, some ((List.range n).map (fun i => s.memByte (addr + i)))) := by
  rw [State.readMem_eq, foldl_readPart_ready requester _ addr n [] (by omega) h, List.nil_append]

/-- Once a part could not be read, nothing is. -/
theorem foldl_readPart_none (requester : Nat) (s : State) (ps : List (Nat × Nat × Nat)) :
    ps.foldl (readPart requester) (s, none) = (s, none) := by
  induction ps with
  | nil => rfl
  | cons p ps ih => exact ih

/-- R460: a read that meets an uncorrectable error in its first burst gives no bytes. -/
theorem State.readMem_bad {s : State} {addr n : Nat} (requester : Nat) (hn : 1 ≤ n) (h : s.badWords (addr / 64) ≠ 0) :
    (s.readMem requester addr n).2 = none := by
  have hfirst := State.readBurst_bad requester h
  have hstop : ∃ u, ∀ off k, readPart requester (s, some []) (addr / 64, off, k) = (u, none) := by
    refine ⟨(s.readBurst requester (addr / 64)).1, fun off k => ?_⟩
    simp only [readPart]
    generalize s.readBurst requester (addr / 64) = r at hfirst ⊢
    obtain ⟨u, bs⟩ := r
    dsimp only at hfirst ⊢
    rw [hfirst]
  obtain ⟨u, hu⟩ := hstop
  rw [State.readMem_eq, burstParts, if_neg (by omega)]
  dsimp only
  rw [List.foldl_cons, hu, foldl_readPart_none]

/-- R517: nothing stops a read of external memory within what buffers may use. -/
theorem State.memWriteFails_read {s : State} {addr n : Nat} (hr : s.tileRole = false) (ht : addr + n ≤ s.bufferTop) :
    s.memWriteFails .gauntlet 1 addr n = none := by
  have hin : ¬ s.bufferTop < addr + n := by omega
  simp [State.memWriteFails, hr, hin]

/-- R517: nothing stops a read of whole words of a tile's window. -/
theorem State.memWriteFails_window {s : State} {auth : Auth} {addr n : Nat} {w : Window} (hr : s.tileRole = true) (ha : addr % 4 = 0)
    (hn : n % 4 = 0) (hw : windowOf addr n = some w) : s.memWriteFails auth 0 addr n = none := by
  simp [State.memWriteFails, hr, ha, hn, hw]

theorem State.doMemRead_window {s : State} {addr n : Nat} {w : Window} (h : Hdr) (h1 : 1 ≤ n) (h2 : n ≤ 65536)
    (hf : s.memWriteFails .gauntlet 0 addr n = none) (hw : windowOf addr n = some w) :
    s.doMemRead h 0 addr n = s.respond h 0x0021 (okReply (s.storeBytes (s.windowAt w addr) n)) := by
  rw [State.doMemRead, if_neg (by omega), hf]
  simp only [if_true, hw]
  rfl

theorem State.doMemRead_bytes {s u : State} {addr n : Nat} {bs : List Byte} (h : Hdr) (h1 : 1 ≤ n) (h2 : n ≤ 65536)
    (hf : s.memWriteFails .gauntlet 1 addr n = none) (hr : s.readMem 3 addr n = (u, some bs)) :
    s.doMemRead h 1 addr n = u.respond h 0x0021 (okReply bs) := by
  rw [State.doMemRead, if_neg (by omega), hf]
  simp only [Nat.one_ne_zero, if_false, hr]

theorem State.doMemRead_none {s u : State} {addr n : Nat} (h : Hdr) (h1 : 1 ≤ n) (h2 : n ≤ 65536)
    (hf : s.memWriteFails .gauntlet 1 addr n = none) (hr : s.readMem 3 addr n = (u, none)) :
    s.doMemRead h 1 addr n = u.respond h 0x0021 (bareReply .errMem) := by
  rw [State.doMemRead, if_neg (by omega), hf]
  simp only [Nat.one_ne_zero, if_false, hr, State.refuse]

/-- R517: a part of a snapshot that the tile holds is answered where the bytes asked lie in it. -/
theorem State.doSnapshotRead_eq {s : State} {id part off n : Nat} {x : Snapshot} {bs : List Byte} (h : Hdr) (h1 : 1 ≤ n) (h2 : n ≤ 65536)
    (hx : s.snaps.find? (fun y => y.id == id) = some x) (hp : x.parts.find? (fun p => p.1 == part) = some (part, bs))
    (hin : off + n ≤ bs.length) : s.doSnapshotRead h id part off n = s.respond h 0x0036 (okReply ((bs.drop off).take n)) := by
  rw [State.doSnapshotRead, if_neg (by omega)]
  simp only [hx, Option.bind_some, hp]
  rw [if_neg (by omega)]

end Sys2Proof.Machine
end

section
/-! CERTIFICATES. Queries (O7, O9, O10). -/

namespace Sys2Proof.Machine

/-- Settles O7: each of these queries is a response of what the state holds. -/
theorem deviceQueriesAnswer : Obligations.DeviceQueriesAnswer := by
  intro s h
  refine ⟨fun ht => ?identify, fun ht => ?status, fun log first count ht hlog h1 h2 => ?log, fun dom t₀ tlv ht hd hm => ?metadata,
    fun port ht hp => ?counters⟩
  case identify => exact exec_query_ok rfl ht rfl rfl
  case status => exact exec_query_ok rfl ht rfl rfl
  case log =>
    obtain ⟨t, hexec, hreplies⟩ := exec_query_ok (i := .logRead h log first count) rfl ht rfl
      (State.doLogRead_eq h first hlog h1 h2)
    refine ⟨t, hexec, _, _, fun hzero => ?_, fun hone => ?_, _, rfl, hreplies⟩
    · exact ⟨if_pos hzero, if_pos hzero⟩
    · exact ⟨if_neg (by omega), if_neg (by omega)⟩
  case metadata => exact exec_query_ok rfl ht rfl (State.doPtpMetadata_eq h hd hm)
  case counters => exact exec_query_ok rfl ht rfl (State.doCountersRead_eq h hp)

/-- Settles O9: the response of QUERY_SEQ is read by its series, and in each by whether the number still runs and by what the record
holds of it. -/
theorem querySeqReturnsRecord : Obligations.QuerySeqReturnsRecord := by
  intro s h series seq ht _
  refine ⟨_, s.querySeq h series seq, exec_query rfl ht rfl, s.respond_replies_seq h _ _, ?_⟩
  refine ⟨fun h0 hp => ?txnPending, fun h0 hp hno => ?txnUnknown, fun o h0 hp ho => ?txnDone, fun h1 hp => ?actionPending,
    fun h1 hp hno => ?actionUnknown, fun a x h1 hp ha hx => ?actionDone⟩
  case txnPending => rw [State.querySeq, if_pos h0, if_pos hp]
  case txnUnknown =>
    have hfind : (s.auth h.auth).outcomes.find? (fun o => o.seq == seq) = none := by simpa [List.find?_eq_none] using hno
    simp [State.querySeq, h0, hp, hfind]
  case txnDone =>
    have hr : s.querySeq h series seq = outcomeReply o := by simp [State.querySeq, h0, hp, ho]
    rw [hr, outcomeReply]
    by_cases hback : o.rolledBack = true
    · simp [hback]
    · by_cases hok : o.status = .ok <;> simp [hback, hok, commitReply, RFlags.none]
  case actionPending =>
    rw [State.querySeq, if_neg (by omega), if_pos h1, if_pos hp]
  case actionUnknown =>
    have hfind : (s.auth h.auth).actions.find? (fun a => a.seq == seq) = none := by simpa [List.find?_eq_none] using hno
    simp [State.querySeq, h1, hp, hfind]
  case actionDone =>
    have hr : s.querySeq h series seq = replayed x := by
      obtain ⟨n, crc, op, reply⟩ := a
      obtain rfl : reply = some x := hx
      simp [State.querySeq, h1, hp, ha]
    rw [hr]
    exact ⟨rfl, rfl, rfl⟩

/-- Settles O10: a read of bursts that are ready leaves the state as it is and gives their bytes (`readMem_ready`), and an uncorrectable
error in the first of them ends it (`readMem_bad`). -/
theorem memoryQueriesAnswer : Obligations.MemoryQueriesAnswer := by
  intro s h addr n h1 h2
  refine ⟨fun w ht hr ha hn hw => ?window, fun ht hr htop hready => ?bytes, fun ht hr htop hbad => ?bad,
    fun id part x bs ht hx hp hin => ?snapshot⟩
  case window =>
    exact exec_query_ok rfl ht rfl (State.doMemRead_window h h1 h2 (State.memWriteFails_window hr ha hn hw) hw)
  case bytes =>
    exact exec_query_ok rfl ht rfl
      (State.doMemRead_bytes h h1 h2 (State.memWriteFails_read hr htop) (State.readMem_ready 3 hready))
  case bad =>
    have hnone := State.readMem_bad 3 h1 hbad
    have hevolves := State.readMem_evolves s 3 addr n (List.Subset.refl _) (.refl _ s)
    obtain ⟨u, hread⟩ : ∃ u, s.readMem 3 addr n = (u, none) := ⟨_, Prod.ext rfl hnone⟩
    rw [hread] at hevolves
    exact ⟨_, (exec_query rfl ht rfl).trans (congrArg _ (State.doMemRead_none h h1 h2 (State.memWriteFails_read hr htop) hread)),
      hevolves.respond_gives h _ _⟩
  case snapshot => exact exec_query_ok rfl ht rfl (State.doSnapshotRead_eq h h1 h2 hx hp hin)

end Sys2Proof.Machine
end

section
/-! SUPPORT. The engine (R511 to R513): actions whose numbers are not new, and commands that leave their queue. -/

namespace Sys2Proof.Machine

/-! Numbers of actions (R513) -/

/-- An action is no query, whether or not its authority has a transaction open. -/
theorem kindOf_ne_query_of_action {b : Bool} {c : HostCmd} (hk : kindOf b c = .action) : kindOf false c ≠ .query := by
  intro hq
  cases c <;> simp [kindOf] at hq hk

/-- R513, R515: an action that runs starts under the sequence rules. -/
theorem State.runCmd_action {s : State} {h : Hdr} {c : HostCmd} (hk : kindOf (s.auth h.auth).opened.isSome c = .action)
    (hw : ∀ x, c = .write x → x.index = 0xFFFF ∧ (s.auth h.auth).opened = none) : s.runCmd h c = s.startAction h c := by
  cases c
  case write x =>
    obtain ⟨hindex, hopened⟩ := hw x rfl
    simp [State.runCmd, State.runWrite, hopened, hindex]
  case beginTxn => simp [kindOf] at hk
  case commit => simp [kindOf] at hk
  case rollback => simp [kindOf] at hk
  case commitAll => simp [kindOf] at hk
  all_goals rfl

/-- R513: a number that the record holds, with the CRC of its action, has the response of that action again. -/
theorem State.startAction_replay {s : State} {h : Hdr} {x : ActionRec} {r : Reply} (c : HostCmd)
    (hx : (s.auth h.auth).actions.find? (fun y => y.seq == h.seq) = some x) (hc : x.crc = h.crc) (hr : x.reply = some r) :
    s.startAction h c = s.answer h (opcodeOf c) (replayed r) := by
  simp [State.startAction, hx, hc, hr]

/-- R513: a number that the record holds, with another CRC, is a conflict. -/
theorem State.startAction_conflict {s : State} {h : Hdr} {x : ActionRec} (c : HostCmd)
    (hx : (s.auth h.auth).actions.find? (fun y => y.seq == h.seq) = some x) (hc : x.crc ≠ h.crc) :
    s.startAction h c = s.answer h (opcodeOf c) (bareReply .errConflict) := by
  simp [State.startAction, hx, hc]

/-- R513: a number that the record does not hold, and that is not above every number before, is refused. -/
theorem State.startAction_old {s : State} {h : Hdr} (c : HostCmd) (hx : ∀ x ∈ (s.auth h.auth).actions, x.seq ≠ h.seq)
    (hn : h.seq = 0 ∨ h.seq ≤ (s.auth h.auth).maxAction) : s.startAction h c = s.answer h (opcodeOf c) (bareReply .errSeq) := by
  have hfind : (s.auth h.auth).actions.find? (fun y => y.seq == h.seq) = none := by simpa [List.find?_eq_none] using hx
  simp only [State.startAction, hfind, if_pos hn]

/-! Commands that wait (R511, R512) -/

/-- R511: a command at the front of its queue that may run, and that the device runs itself. -/
theorem State.dequeue_runs {s : State} {a : Auth} {h : Hdr} {c : HostCmd} {rest : List (Hdr × HostCmd)}
    (hq : (s.auth a).queue = (h, c) :: rest) (he : s.engineRuns = true) (hm : s.mayRun a c = true)
    (ho : s.mode = .standby → standbyOwn c = true) :
    s.dequeue a = (s.setAuth a { s.auth a with queue := rest }).runCmd h c := by
  have hmode : (s.setAuth a { s.auth a with queue := rest }).mode = s.mode := State.mode_of_regs (s.setAuth_regs a _)
  have hown : ¬(s.mode = .standby ∧ standbyOwn c = false) := fun ⟨hs, hf⟩ => by simp [ho hs] at hf
  simp only [State.dequeue, hq, he, hm, hmode, Bool.and_self, if_true, if_neg hown]

/-- R512: a command at the front of its queue that may run, and that a standby forwards. -/
theorem State.dequeue_forwards {s : State} {a : Auth} {h : Hdr} {c : HostCmd} {rest : List (Hdr × HostCmd)}
    (hq : (s.auth a).queue = (h, c) :: rest) (he : s.engineRuns = true) (hm : s.mayRun a c = true) (hs : s.mode = .standby)
    (ho : standbyOwn c = false) : s.dequeue a = (s.setAuth a { s.auth a with queue := rest }).forwardCmd h c := by
  have hmode : (s.setAuth a { s.auth a with queue := rest }).mode = s.mode := State.mode_of_regs (s.setAuth_regs a _)
  simp only [State.dequeue, hq, he, hm, hmode, hs, ho, Bool.and_self, if_true, and_self]

/-- R511: a command that may not run waits on. -/
theorem State.dequeue_waits {s : State} {a : Auth} {h : Hdr} {c : HostCmd} {rest : List (Hdr × HostCmd)}
    (hq : (s.auth a).queue = (h, c) :: rest) (hw : s.engineRuns = false ∨ s.mayRun a c = false) : s.dequeue a = s := by
  rcases hw with hw | hw <;> simp [State.dequeue, hq, hw]

/-- R512: what forwarding a command changes, keeps and sends. -/
theorem State.forwardCmd_spec (s : State) (h : Hdr) (c : HostCmd) :
    OnlyParts [.sent, .cmd] s (s.forwardCmd h c) ∧
      (s.forwardCmd h c).cmd = { s.cmd with forwards := s.cmd.forwards ++ [⟨h, opcodeOf c, s.cycles⟩] } ∧
      (s.forwardCmd h c).sent = s.sent ++ [.forward (s.fld F.RED_PEER_IPV4) h c] :=
  ⟨(State.forwardCmd_evolves s h c (List.Subset.refl _) (.refl _ s)).parts, rfl, rfl⟩

end Sys2Proof.Machine
end

section
/-! CERTIFICATES. The engine (O13, O14). -/

namespace Sys2Proof.Machine

/-- Settles O13: an action that runs is answered by what the record holds of its number, before it starts; the answer leaves the record. -/
theorem actionNumbersAreChecked : Obligations.ActionNumbersAreChecked := by
  intro s i h c hi hruns hk hw
  have hexec : exec i s = .next (s.startAction h c) := by
    rw [exec_runsNow hi hruns (kindOf_ne_query_of_action hk), State.runCmd_action hk hw]
  refine ⟨fun x r hx hc hr hne => ?replay, fun x hx hc => ?conflict, fun hx hn => ?old⟩
  case replay =>
    obtain ⟨hreplies, hauths⟩ := s.answer_replies h (opcodeOf c) (replayed r) hne
    exact ⟨_, hexec.trans (congrArg _ (State.startAction_replay c hx hc hr)), hreplies, hauths h.auth⟩
  case conflict =>
    obtain ⟨hreplies, hauths⟩ := s.answer_replies h (opcodeOf c) (bareReply .errConflict) (by decide)
    exact ⟨_, hexec.trans (congrArg _ (State.startAction_conflict c hx hc)), hreplies, hauths h.auth⟩
  case old =>
    obtain ⟨hreplies, hauths, hevent⟩ := s.answer_replies_seq h (opcodeOf c) (bareReply .errSeq) rfl
    exact ⟨_, hexec.trans (congrArg _ (State.startAction_old c hx hn)), hreplies, hauths h.auth, hevent⟩

/-- Settles O14: the three outcomes of `dequeue`, by whether the command may run and whose it is. -/
theorem queuedCommandRuns : Obligations.QueuedCommandRuns := by
  intro s a h c rest hq
  refine ⟨fun he hm ho => congrArg _ (State.dequeue_runs hq he hm ho), fun he hm hs ho => ?forwards,
    fun hw => congrArg _ (State.dequeue_waits hq hw)⟩
  have hset := s.setAuth_parts a { s.auth a with queue := rest }
  have hauth := s.setAuth_auth a { s.auth a with queue := rest }
  have hexec : exec (.commandDequeue a) s = .next ((s.setAuth a { s.auth a with queue := rest }).forwardCmd h c) :=
    congrArg _ (State.dequeue_forwards hq he hm hs ho)
  generalize s.setAuth a { s.auth a with queue := rest } = u at hset hauth hexec
  obtain ⟨hparts, hcmd, hsent⟩ := u.forwardCmd_spec h c
  have hpeer : u.fld F.RED_PEER_IPV4 = s.fld F.RED_PEER_IPV4 := State.fld_congr (hset .regs (by decide)) _
  refine ⟨_, hexec, (hset.mono (by decide)).trans (hparts.mono (by decide)), ?_, ?_, ?_⟩
  · rw [hparts.auth (by decide) (by decide), hauth]
  · rw [hcmd, hset .cmd (by decide), hset .cycles (by decide)]
  · rw [hsent, hset .sent (by decide), hpeer]

end Sys2Proof.Machine
end

section
/-! SUPPORT. The host SPI port (R508), and whole packets that come over it or as one UDP segment (R509, R510). -/

namespace Sys2Proof.Machine

/-! The host SPI port (R508) -/

/-- R508, R510: what FRAME_ERR at the host SPI port sets, counts and leaves. -/
theorem State.frameErr_spec (s : State) :
    OnlyParts [.regs, .cmd] s (s.frameErr true) ∧ (s.frameErr true).cmd = { s.cmd with frameErr := true } ∧
      OnlyFlds [F.SYS_CMD_EVT_FRAME_ERR, F.SYS_CMD_CNT0_FRAME_ERR_COUNT] s (s.frameErr true) ∧
      (s.frameErr true).flag F.SYS_CMD_EVT_FRAME_ERR = true ∧
      (s.frameErr true).fld F.SYS_CMD_CNT0_FRAME_ERR_COUNT = min (s.fld F.SYS_CMD_CNT0_FRAME_ERR_COUNT + 1) 65535 := by
  have hparts := (State.frameErr_evolves s true (List.Subset.refl _) (.refl _ s)).parts
  have hset : s.frameErr true = ({ s with cmd := { s.cmd with frameErr := true } } : State).eventCount F.SYS_CMD_EVT_FRAME_ERR
      F.SYS_CMD_CNT0_FRAME_ERR_COUNT := by rw [State.frameErr, Bool.or_true]
  have hregs : ({ s with cmd := { s.cmd with frameErr := true } } : State).regs = s.regs := rfl
  have hcmd : ({ s with cmd := { s.cmd with frameErr := true } } : State).cmd = { s.cmd with frameErr := true } := rfl
  rw [hset] at hparts ⊢
  generalize ({ s with cmd := { s.cmd with frameErr := true } } : State) = u at hparts hregs hcmd ⊢
  refine ⟨hparts, ?cmd, ?flds, ?event, ?count⟩
  case cmd => rw [← hcmd]; exact (State.eventCount_evolves u _ _ (List.Subset.refl _) (.refl [.regs] u)).parts .cmd (by decide)
  case flds => exact (OnlyFlds.of_regs hregs).eventCount _ _ rfl rfl (by simp) (by simp)
  case event => simp [State.flag, State.fld_eventCount_event u F.SYS_CMD_EVT_FRAME_ERR F.SYS_CMD_CNT0_FRAME_ERR_COUNT rfl rfl rfl]
  case count =>
    rw [State.fld_eventCount_count u F.SYS_CMD_EVT_FRAME_ERR F.SYS_CMD_CNT0_FRAME_ERR_COUNT rfl rfl rfl, State.fld_congr hregs]
    rfl

/-- What the engine holds replaced, and an output sent. -/
theorem State.send_setCmd_parts (s : State) (x : CmdState) (o : Output) :
    OnlyParts [.cmd, .sent] s (({ s with cmd := x } : State).send o) :=
  (State.send_evolves _ o (by decide) (Evolves.set_cmd x (by decide) (.refl [.cmd, .sent] s))).parts

theorem exec_statRead {s : State} (he : s.engineRuns = true) :
    exec .statRead s = .next (({ s with cmd := { s.cmd with frameErr := false } } : State).send (.spi (leBytes 1 s.spiStatus))) := by
  show execStatRead s = _
  rw [execStatRead, if_pos he]

theorem exec_rspRead_none {s : State} (he : s.engineRuns = true) (hr : s.cmd.held = none) (n : Nat) :
    exec (.rspRead n) s = .next (s.send (.spi [0, 0, 0, 0])) := by
  show execRspRead n s = _
  simp only [execRspRead, if_pos he, hr]
  rfl

/-- R508: the response held is freed once all of its bytes are read. -/
theorem exec_rspRead_some {s : State} {r : List Byte} (he : s.engineRuns = true) (hr : s.cmd.held = some r) (n : Nat) :
    exec (.rspRead n) s = .next (({ s with cmd := { s.cmd with held := if r.length ≤ n then none else some r } } : State).send
      (.spi (leBytes 4 r.length ++ r.take n))) := by
  show execRspRead n s = _
  simp only [execRspRead, if_pos he, hr]
  by_cases hn : r.length ≤ n
  · rw [if_pos hn, if_pos hn]
    rfl
  · rw [if_neg hn, if_neg hn, ← hr]

theorem exec_hspiBadInstruction {s : State} (he : s.engineRuns = true) : exec .hspiBadInstruction s = .next (s.frameErr true) := by
  show execHspiBadInstruction s = _
  rw [execHspiBadInstruction, if_pos he]

/-- R508, R510: a packet while a command or a response is there, and one that checks 1 and 2 refuse, is FRAME_ERR. -/
theorem exec_pktWrite_refused {s : State} {bs : List Byte} (he : s.engineRuns = true)
    (h : s.hspiBusy = true ∨ s.cmd.held.isSome = true ∨ s.framed bs = false ∨ crcGood bs = false) :
    exec (.pktWrite bs) s = .next (s.frameErr true) := by
  show execPktWrite bs s = _
  have hbad (hgood : s.framed bs = false ∨ crcGood bs = false) : s.takePacket .hspi bs = s.frameErr true := by
    rcases hgood with hgood | hgood <;> simp [State.takePacket, hgood]
  rcases h with h | h | h
  · simp [execPktWrite, he, h]
  · simp [execPktWrite, he, h]
  · simp [execPktWrite, he, hbad h]

/-! Whole packets (R510) -/

/-- With keys, a good packet that is no step of a sender's passes on to the checks of the command that it spells. -/
theorem State.takePacket_judge {s : State} {a : Auth} {via : Transport} {bs : List Byte} {c : HostCmd} (hf : s.framed bs = true)
    (hcrc : crcGood bs = true) (ha : authOf (leAt bs 5 1) = some a) (hk : s.cmd.comm.isSome = true) (htag : s.tagGood a bs = true)
    (hfields : fieldsGood bs = true) (hp : readPayload (leAt bs 2 2) (sub bs 16 (leAt bs 10 3)) = some c)
    (hstep : isStep via (leAt bs 2 2) (sub bs 16 (leAt bs 10 3)) = false) :
    s.takePacket via bs = s.judge (packetHdr a via bs) (opcodeOf c) (some c) (some c) true true := by
  obtain ⟨hparse, -⟩ := readPayload_spec hp
  obtain ⟨x, hshape, hop, hsame⟩ := parseCmd_shapeOf hparse
  rw [State.takePacket]
  simp only [hf, hcrc, ha, hstep, hp, htag, hfields, hshape, Bool.and_self, Bool.not_true, Bool.false_and, Bool.false_eq_true, if_false]
  rw [State.judge_sameChecks hk hsame, hop]

/-- R508: a packet over the host SPI port and a command that comes over it meet the same engine. -/
theorem exec_pktWrite_submit {s : State} {h : Hdr} {bs : List Byte} {c : HostCmd} (hvia : h.via = .hspi) (hl : lengthOk c = true)
    (hj : s.takePacket .hspi bs = s.judge h (opcodeOf c) (some c) (some c) true true) :
    exec (.pktWrite bs) s = .next (s.submit h c) := by
  show execPktWrite bs s = _
  have hreach : s.reaches h.via = true := by rw [hvia]; rfl
  rw [execPktWrite, hj, State.submit, hreach, hl, hvia, Bool.and_true]
  rfl

/-! One UDP segment (R509) -/

/-- R509: the header of the only segment of a packet. -/
def onlySegment (xid : Nat) (bs : List Byte) : List Byte := leBytes 4 xid ++ [0, 1, 0, 0] ++ bs

/-- The bytes of a number hold it, as far as they reach. -/
theorem leNat_leBytes (n v : Nat) : leNat (leBytes n v) = v % 256 ^ n := by
  induction n generalizing v with
  | zero => simp [leBytes, leNat, Nat.mod_one]
  | succ n ih => rw [leBytes, leNat, ih, BitVec.toNat_ofNat, Nat.pow_succ' (m := 256), Nat.mod_mul]

/-- R509: what the header of the only segment says: its XID, segment 0, of one. -/
theorem onlySegment_header {xid : Nat} (bs : List Byte) (hx : xid < 2 ^ 32) :
    leAt (onlySegment xid bs) 0 4 = xid ∧ leAt (onlySegment xid bs) 4 1 = 0 ∧ leAt (onlySegment xid bs) 5 1 = 1 ∧
      (onlySegment xid bs).drop 8 = bs ∧ (onlySegment xid bs).length = 8 + bs.length := by
  refine ⟨?_, ?_, ?_, ?_, ?_⟩
  · exact (leNat_leBytes 4 xid).trans (Nat.mod_eq_of_lt (by omega))
  · simp [onlySegment, leAt, leBytes, leNat]
  · simp [onlySegment, leAt, leBytes, leNat]
  · simp [onlySegment, leBytes]
  · simp only [onlySegment, leBytes, List.cons_append, List.nil_append, List.length_cons]
    omega

/-- R509: the only segment of a packet from an admitted source is not dropped. -/
theorem State.segmentDropped_onlySegment {s : State} {ip xid : Nat} {bs : List Byte} (hip : s.allowed ip = true) (hx : xid < 2 ^ 32)
    (hl : bs.length ≤ 8192) : s.segmentDropped ip (onlySegment xid bs) = false := by
  obtain ⟨-, hseg, hsegs, -, hlen⟩ := onlySegment_header bs hx
  simp [State.segmentDropped, hip, hseg, hsegs, hlen, hl]

/-- The parts of a packet of one segment join to that segment. -/
theorem joinParts_one (bs : List Byte) : joinParts 1 [(0, bs)] = bs := by simp [joinParts]

/-- With nothing being assembled, no assembly is dropped. -/
theorem State.dropAssembly_nil {s : State} (h : s.cmd.assemblies = []) (port ip xid : Nat) : s.dropAssembly port ip xid = s := by
  rw [State.dropAssembly, h, List.filter_nil, ← h]

theorem State.makeRoom_nil {s : State} (h : s.cmd.assemblies = []) (port : Nat) : s.makeRoom port = s := by
  simp [State.makeRoom, h]

theorem State.assembly_nil {s : State} (h : s.cmd.assemblies = []) (port ip xid : Nat) : s.assembly port ip xid = none := by
  rw [State.assembly, h, List.find?_nil]

/-- R509: the only segment of a packet is the packet. -/
theorem State.udpSegment_onlySegment {s : State} {port ip up xid : Nat} {bs : List Byte} (hip : s.allowed ip = true) (hx : xid < 2 ^ 32)
    (hl : bs.length ≤ 8192) (hnone : s.cmd.assemblies = []) :
    s.udpSegment port ip up (onlySegment xid bs) =
      if s.engineRuns && s.reaches (.udp port ip up xid) then s.takePacket (.udp port ip up xid) bs else s := by
  obtain ⟨hxid, hseg, hsegs, hrest, -⟩ := onlySegment_header bs hx
  rw [State.udpSegment]
  simp only [hxid, hseg, hsegs, hrest, State.segmentDropped_onlySegment hip hx hl, State.assembly_nil hnone, State.makeRoom_nil hnone,
    State.addSegment, State.dropAssembly_nil hnone, List.nil_append, List.length_singleton, if_true, joinParts_one]
  cases s.engineRuns && s.reaches (.udp port ip up xid) <;> rfl

/-- R509: a packet in one UDP segment and a command that comes over UDP meet the same engine. -/
theorem exec_udpSegment_submit {s : State} {h : Hdr} {port ip up xid : Nat} {bs : List Byte} {c : HostCmd} (hvia : h.via = .udp port ip up xid)
    (hip : s.allowed ip = true) (hx : xid < 2 ^ 32) (hb : bs.length ≤ 8192) (hnone : s.cmd.assemblies = []) (hl : lengthOk c = true)
    (hj : s.takePacket (.udp port ip up xid) bs = s.judge h (opcodeOf c) (some c) (some c) true true) :
    exec (.udpSegment port ip up (onlySegment xid bs)) s = .next (s.submit h c) := by
  show Host.Outcome.next (s.udpSegment port ip up (onlySegment xid bs)) = _
  rw [State.udpSegment_onlySegment hip hx hb hnone, hj, State.submit, hl, hvia]
  simp only [hip, if_true]
  cases s.engineRuns && s.reaches (.udp port ip up xid) <;> rfl

end Sys2Proof.Machine
end

section
/-! CERTIFICATES. The host SPI port (O29), and packets that spell commands (O30). -/

namespace Sys2Proof.Machine

/-- Settles O29: each instruction of the port is one change of what the port holds, with what is sent; whatever the port refuses is the
same FRAME_ERR. -/
theorem hostSpiPort : Obligations.HostSpiPort := by
  intro s he
  exact ⟨⟨_, exec_statRead he, s.send_setCmd_parts _ _, rfl, rfl⟩, fun n hr => ⟨_, exec_rspRead_none he hr n, s.send_parts _, rfl⟩,
    fun n r hr => ⟨_, exec_rspRead_some he hr n, s.send_setCmd_parts _ _, rfl, rfl⟩, ⟨_, exec_hspiBadInstruction he, s.frameErr_spec⟩,
    fun bs h => ⟨_, exec_pktWrite_refused he h, s.frameErr_spec⟩⟩

/-- Settles O30: over either transport the packet and the command come to the same checks (`takePacket_judge`). -/
theorem packetIsItsCommand : Obligations.PacketIsItsCommand := by
  intro s a bs c i hf hcrc ha hk htag hfields hp
  obtain ⟨-, hl⟩ := readPayload_spec hp
  refine ⟨fun hi => ?hspi, fun port ip up xid hi hip hx hb hnone => ?udp⟩
  case hspi =>
    rw [exec_hostCmd s i _ c hi]
    exact exec_pktWrite_submit rfl hl (State.takePacket_judge hf hcrc ha hk htag hfields hp rfl)
  case udp =>
    rw [exec_hostCmd s i _ c hi]
    exact exec_udpSegment_submit rfl hip hx hb hnone hl (State.takePacket_judge hf hcrc ha hk htag hfields hp rfl)

end Sys2Proof.Machine
end

section
/-! SUPPORT. Packets in several segments (R509): segments that are dropped, kept and ignored, and partial packets that time out. -/

namespace Sys2Proof.Machine

/-- R509: a segment that breaks the rules of a segment. -/
theorem exec_udpSegment_dropped {s : State} {port ip up : Nat} {bs : List Byte} (he : s.engineRuns = true)
    (hr : s.reaches (.udp port ip up (leAt bs 0 4)) = true) (hd : s.segmentDropped ip bs = true) :
    exec (.udpSegment port ip up bs) s = .next s.udpDrop := by
  show Host.Outcome.next (s.udpSegment port ip up bs) = _
  simp only [State.udpSegment, he, hr, hd, Bool.and_self, Bool.not_true, Bool.false_eq_true, if_false, if_true]

/-- R509: what UDP_DROP sets and leaves. -/
theorem State.udpDrop_spec (s : State) :
    OnlyParts [.regs] s s.udpDrop ∧ OnlyFlds [F.SYS_CMD_EVT_UDP_DROP, F.SYS_CMD_CNT1_UDP_DROP_COUNT] s s.udpDrop ∧
      s.udpDrop.flag F.SYS_CMD_EVT_UDP_DROP = true :=
  ⟨(State.eventCount_evolves s _ _ (List.Subset.refl _) (.refl _ s)).parts,
    (OnlyFlds.refl _ s).eventCount _ _ rfl rfl (by simp) (by simp),
    by simp [State.flag, State.udpDrop,
      State.fld_eventCount_event s F.SYS_CMD_EVT_UDP_DROP F.SYS_CMD_CNT1_UDP_DROP_COUNT rfl rfl rfl]⟩

/-- R509: the first segment to come of a packet of several opens its assembly. -/
theorem State.addSegment_opens {s : State} {seg segs : Nat} {part : List Byte} (port ip up xid : Nat) (hnone : s.cmd.assemblies = [])
    (hn : segs ≠ 1) : s.addSegment ⟨port, ip, up, xid, segs, [], 0⟩ seg part up =
      { s with cmd := { s.cmd with assemblies := [⟨port, ip, up, xid, segs, [(seg, part)], s.cycles⟩] } } := by
  simp only [State.addSegment, State.dropAssembly_nil hnone, List.nil_append, List.length_singleton, if_neg (Ne.symm hn), hnone, ite_self]

theorem exec_udpSegment_opens {s : State} {port ip up : Nat} {bs : List Byte} (he : s.engineRuns = true)
    (hr : s.reaches (.udp port ip up (leAt bs 0 4)) = true) (hd : s.segmentDropped ip bs = false) (hnone : s.cmd.assemblies = [])
    (hn : leAt bs 5 1 ≠ 1) :
    exec (.udpSegment port ip up bs) s = .next { s with cmd := { s.cmd with
      assemblies := [⟨port, ip, up, leAt bs 0 4, leAt bs 5 1, [(leAt bs 4 1, bs.drop 8)], s.cycles⟩] } } := by
  show Host.Outcome.next (s.udpSegment port ip up bs) = _
  simp only [State.udpSegment, he, hr, hd, Bool.and_self, Bool.not_true, Bool.false_eq_true, if_false, State.assembly_nil hnone,
    State.makeRoom_nil hnone, State.addSegment_opens port ip up _ hnone hn]

/-- R509: a segment that its assembly holds is ignored. -/
theorem exec_udpSegment_held {s : State} {port ip up : Nat} {bs : List Byte} {x : UdpAssembly} (he : s.engineRuns = true)
    (hr : s.reaches (.udp port ip up (leAt bs 0 4)) = true) (hd : s.segmentDropped ip bs = false)
    (hx : s.assembly port ip (leAt bs 0 4) = some x) (hp : x.parts.any (fun p => p.1 == leAt bs 4 1) = true) :
    exec (.udpSegment port ip up bs) s = .next s := by
  show Host.Outcome.next (s.udpSegment port ip up bs) = _
  simp only [State.udpSegment, he, hr, hd, hx, hp, Bool.and_self, Bool.not_true, Bool.false_eq_true, if_false, or_true, if_true]

theorem State.dropAssembly_parts (s : State) (port ip xid : Nat) : OnlyParts [.cmd] s (s.dropAssembly port ip xid) :=
  (State.dropAssembly_evolves s port ip xid (List.Subset.refl _) (.refl _ s)).parts

/-- An assembly that has been dropped is gone. -/
theorem State.assembly_dropAssembly (s : State) (port ip xid : Nat) : (s.dropAssembly port ip xid).assembly port ip xid = none := by
  rw [State.assembly, List.find?_eq_none]
  intro x hx
  have hkept := (List.mem_filter.mp hx).2
  simp only [Bool.not_eq_true'] at hkept
  simp only [hkept, Bool.false_eq_true, not_false_iff]

/-- R509: a partial packet is discarded 10 ms after its last segment. -/
theorem exec_udpAssemblyTimeout {s : State} {port ip xid : Nat} {x : UdpAssembly} (hx : s.assembly port ip xid = some x) :
    exec (.udpAssemblyTimeout port ip xid) s = .next ((s.untilCycle (x.last + msCycles 10)).dropAssembly port ip xid) := by
  show execUdpAssemblyTimeout port ip xid s = _
  rw [execUdpAssemblyTimeout, hx]

theorem State.untilCycle_parts (s : State) (n : Nat) : OnlyParts [.cycles, .wall] s (s.untilCycle n) :=
  (State.untilCycle_evolves s n (List.Subset.refl _) (.refl _ s)).parts

end Sys2Proof.Machine
end

section
/-! SUPPORT. Commands forwarded by a standby (R512), and TILE_CMD (R518 to R520). -/

namespace Sys2Proof.Machine

/-! The end of a forwarded command (R512) -/

theorem State.dropForward_parts (s : State) (f : Forwarded) : OnlyParts [.cmd] s (s.dropForward f) :=
  (State.dropForward_evolves s f (List.Subset.refl _) (.refl _ s)).parts

theorem State.dropForward_silent (s : State) (f : Forwarded) : Silent s (s.dropForward f) := .of_sent rfl

theorem exec_forwardResponse {s : State} {a : Auth} {n : Nat} {f : Forwarded} (hf : s.forwardOf a n = some f) (r : Reply) :
    exec (.forwardResponse a n r) s =
      .next (((s.dropForward f).send (.reply f.hdr f.op r)).deliver f.hdr.via (s.responseBytes f.hdr f.op r false)) := by
  show execForwardResponse a n r s = _
  rw [execForwardResponse, hf]

theorem exec_standbyForwardTimeout {s : State} {a : Auth} {n : Nat} {f : Forwarded} (hf : s.forwardOf a n = some f) :
    exec (.standbyForwardTimeout a n) s =
      .next (((s.untilCycle (f.since + msCycles 2000)).dropForward f).answer f.hdr f.op (bareReply .errTimeout)) := by
  show execStandbyForwardTimeout a n s = _
  rw [execStandbyForwardTimeout, hf]

/-- R507: a response given as it came: what it says and leaves. -/
theorem State.sendReply_spec (s : State) (h : Hdr) (op : Nat) (r : Reply) (bs : List Byte) :
    let t := (s.send (.reply h op r)).deliver h.via bs
    Answers s t h op r ∧ OnlyParts [.regs, .sent, .cmd, .link] s t ∧ OnlyFlds [F.SYS_CMD_EVT_RSP_READY] s t ∧
      ∃ held, t.cmd = { s.cmd with held := held } := by
  intro t
  have hsaid : Answers s (s.send (.reply h op r)) h op r := ⟨[], [], by simp [State.send], by simp⟩
  exact ⟨hsaid.before (State.deliver_silent _ _ _),
    (State.deliver_evolves _ h.via bs (by decide) (State.send_evolves s _ (by decide) (.refl [.regs, .sent, .cmd, .link] s))).parts,
    (OnlyFlds.of_regs rfl).trans (State.deliver_flds _ _ _), State.deliver_cmd _ _ _⟩

/-! TILE_CMD (R518 to R520) -/

/-- A TILE_CMD waits for its tiles. -/
def State.awaitTiles (s : State) (x : TileCmdWait) : State := { s with cmd := { s.cmd with tileCmds := s.cmd.tileCmds ++ [x] } }

theorem State.awaitTiles_parts (s : State) (x : TileCmdWait) : OnlyParts [.cmd] s (s.awaitTiles x) :=
  (Evolves.set_cmd (ps := [.cmd]) _ (by decide) (.refl _ s)).parts

theorem State.awaitTiles_silent (s : State) (x : TileCmdWait) : Silent s (s.awaitTiles x) := .of_sent rfl

/-- R518: an inner packet of another authority is refused. -/
theorem State.doTileCmd_otherAuth {s : State} {h : Hdr} {tmo : Nat} {inner : List Byte} (target mask : Nat) (h1 : 1 ≤ tmo) (h2 : tmo ≤ 60000)
    (ha : leAt inner 5 1 ≠ authCode h.auth) :
    s.doTileCmd h target mask tmo inner = s.respond h 0x0060 (bareReply .errAuth) := by
  rw [State.doTileCmd]
  dsimp only
  rw [if_neg (by omega), if_pos ha, State.refuse]

/-- R519: an address without an open session is refused. -/
theorem State.doTileCmd_noSession {s : State} {h : Hdr} {target tmo : Nat} {inner : List Byte} (mask : Nat) (h1 : 1 ≤ tmo) (h2 : tmo ≤ 60000)
    (ht : target ≠ 0xFFFF) (ha : leAt inner 5 1 = authCode h.auth) (hs : s.sessionOpen target = false) :
    s.doTileCmd h target mask tmo inner = s.respond h 0x0060 (bareReply .errAddr) := by
  rw [State.doTileCmd]
  dsimp only
  rw [if_neg (by omega), if_neg (not_not.mpr ha), if_neg ht, hs, if_neg Bool.false_ne_true, State.refuse]

/-- R518, R519: the inner packet goes to the tile, and the command waits for it up to TMO_MS. -/
theorem State.doTileCmd_single {s : State} {h : Hdr} {target tmo : Nat} {inner : List Byte} (mask : Nat) (h1 : 1 ≤ tmo) (h2 : tmo ≤ 60000)
    (ht : target ≠ 0xFFFF) (ha : leAt inner 5 1 = authCode h.auth) (hs : s.sessionOpen target = true) :
    s.doTileCmd h target mask tmo inner = (s.awaitTiles
      ⟨h, leAt inner 2 2, leAt inner 6 4, true, [target], [], s.cycles + msCycles tmo⟩).sendCmdTile target inner := by
  rw [State.doTileCmd]
  dsimp only
  rw [if_neg (by omega), if_neg (not_not.mpr ha), if_neg ht, if_pos hs]
  rfl

theorem State.sessionOpen_congr {s t : State} (h : t.regs = s.regs) (tile : Nat) : t.sessionOpen tile = s.sessionOpen tile := by
  rw [State.sessionOpen, State.sessionOpen, State.fld_congr h, State.flag_congr h]

/-- R246: the segments of a packet to a tile answer nothing. -/
theorem State.sendCmdTile_silent (s : State) (tile : Nat) (bs : List Byte) : Silent s (s.sendCmdTile tile bs) :=
  Silent.foldl _ _ _ fun u g => u.sendTile_silent tile (.cmd g.1 g.2)

theorem State.sendCmdTile_parts (s : State) (tile : Nat) (bs : List Byte) : OnlyParts [.sent, .link] s (s.sendCmdTile tile bs) :=
  (State.sendCmdTile_evolves s tile bs (List.Subset.refl _) (.refl _ s)).parts

/-- R518, R519: what a new TILE_CMD to one tile leaves, once its inner packet has been sent. -/
theorem State.tileCmd_waits (s : State) (h : Hdr) (op tile : Nat) (x : TileCmdWait) (bs : List Byte) :
    let t := ((s.started h op).awaitTiles x).sendCmdTile tile bs
    Silent s t ∧ OnlyParts [.gen, .gnt, .cmd, .sent, .link] s t ∧ AuthsKeep h s t ∧ t.cmd.tileCmds = s.cmd.tileCmds ++ [x] := by
  intro t
  have hstart := s.started_parts h op
  have hwait := (s.started h op).awaitTiles_parts x
  have hsend := ((s.started h op).awaitTiles x).sendCmdTile_parts tile bs
  refine ⟨(s.started_silent h op).trans (((s.started h op).awaitTiles_silent x).trans (State.sendCmdTile_silent _ _ _)),
    (hstart.mono (by decide)).trans ((hwait.mono (by decide)).trans (hsend.mono (by decide))),
    (s.started_auths h op).trans (.of_same ?_ ?_), ?_⟩
  · exact (hsend .gen (by decide)).trans (hwait .gen (by decide))
  · exact (hsend .gnt (by decide)).trans (hwait .gnt (by decide))
  · rw [hsend .cmd (by decide)]
    show (s.started h op).cmd.tileCmds ++ [x] = _
    rw [hstart .cmd (by decide)]

/-- R520: what a TILE_CMD answers at the end of TMO_MS. -/
def timeoutReply (w : TileCmdWait) : Reply := if w.single then bareReply .errTimeout else tileCmdReply w

theorem State.dropTileCmd_silent (s : State) (w : TileCmdWait) : Silent s (s.dropTileCmd w) := .of_sent rfl

theorem exec_tileCmdTimeout {s : State} {a : Auth} {w : TileCmdWait} (hw : s.cmd.tileCmds.find? (fun w => w.hdr.auth == a) = some w) :
    exec (.tileCmdTimeout a) s = .next (((s.untilCycle w.due).dropTileCmd w).respond w.hdr 0x0060 (timeoutReply w)) := by
  show execTileCmdTimeout a s = _
  rw [execTileCmdTimeout, hw]
  dsimp only
  rw [State.tileCmdEnds, timeoutReply]
  cases w.single <;> rfl

end Sys2Proof.Machine
end

section
/-! CERTIFICATES. Segments (O31), forwarded commands (O32), and TILE_CMD (O33). -/

namespace Sys2Proof.Machine

/-- Settles O31: the four outcomes of a segment and of its timeout, each from the branch of `udpSegment` that it takes. -/
theorem udpSegmentsAssemble : Obligations.UdpSegmentsAssemble := by
  intro s port ip up bs he hr
  refine ⟨fun hd => ⟨_, exec_udpSegment_dropped he hr hd, s.udpDrop_spec⟩,
    fun hd hnone hn => ⟨_, exec_udpSegment_opens he hr hd hnone hn, (Evolves.set_cmd (ps := [.cmd]) _ (by decide) (.refl _ s)).parts, rfl⟩,
    fun x hd hx _ hp => exec_udpSegment_held he hr hd hx hp, fun xid x hx => ⟨_, exec_udpAssemblyTimeout hx, ?_, ?_, ?_⟩⟩
  · exact ((s.untilCycle_parts _).mono (by decide)).trans ((State.dropAssembly_parts _ _ _ _).mono (by decide))
  · rw [State.dropAssembly_parts _ _ _ _ .cycles (by decide)]
    exact s.untilCycle_cycles _
  · exact State.assembly_dropAssembly _ _ _ _

/-- Settles O32: either end takes the command out of those forwarded and gives one response, which leaves the others. -/
theorem forwardedCommandEnds : Obligations.ForwardedCommandEnds := by
  intro s a n f hf
  refine ⟨fun r => ?response, ?timeout⟩
  case response =>
    obtain ⟨hanswers, hparts, hflds, held, hcmd⟩ :=
      (s.dropForward f).sendReply_spec f.hdr f.op r (s.responseBytes f.hdr f.op r false)
    exact ⟨_, exec_forwardResponse hf r, hanswers.after (s.dropForward_silent f), ((s.dropForward_parts f).mono (by decide)).trans hparts,
      (OnlyFlds.of_regs rfl).trans hflds, by rw [hcmd]; rfl⟩
  case timeout =>
    have huntil := s.untilCycle_parts (f.since + msCycles 2000)
    have hcycles := s.untilCycle_cycles (f.since + msCycles 2000)
    have hquiet := s.untilCycle_silent (f.since + msCycles 2000)
    have hexec := exec_standbyForwardTimeout hf
    generalize s.untilCycle (f.since + msCycles 2000) = u at huntil hcycles hquiet hexec
    have hdrop := u.dropForward_parts f
    have hparts := (State.answer_evolves (u.dropForward f) f.hdr f.op (bareReply .errTimeout) (List.Subset.refl _) (.refl _ _)).parts
    obtain ⟨held, hcmd⟩ := (u.dropForward f).answer_cmd f.hdr f.op (bareReply .errTimeout)
    refine ⟨_, hexec, ((State.answer_answers _ _ _ _).after (u.dropForward_silent f)).after hquiet, ?_, ?_, ?_⟩
    · exact (huntil.mono (by decide)).trans ((hdrop.mono (by decide)).trans (hparts.mono (by decide)))
    · rw [hparts .cycles (by decide), hdrop .cycles (by decide), hcycles, show msCycles 2000 = 1000000000 by norm_num [msCycles]]
    · rw [hcmd]
      show u.cmd.forwards.erase f = _
      rw [huntil .cmd (by decide)]

/-- Settles O33: a new TILE_CMD by the first row of `doTileCmd` that applies, and its timeout by what it answers then. -/
theorem tileCommandsWaitForTiles : Obligations.TileCommandsWaitForTiles := by
  intro s
  refine ⟨fun h target mask tmo inner k h1 h2 ht => ?start, fun a w hw => ?timeout⟩
  case start =>
    have hexec : exec (.tileCmd h target mask tmo inner) s = .next ((s.started h 0x0060).doTileCmd h target mask tmo inner) :=
      exec_newAction rfl k rfl
    have hsession := State.sessionOpen_congr (s.started_regs h 0x0060) target
    refine ⟨fun ha => ?otherAuth, fun ha hs => ?noSession, fun ha hs => ?single⟩
    case otherAuth =>
      exact ⟨_, hexec.trans (congrArg _ (State.doTileCmd_otherAuth target mask h1 h2 ha)), s.respond_acts_here h _ _ (by decide)⟩
    case noSession =>
      exact ⟨_, hexec.trans (congrArg _ (State.doTileCmd_noSession mask h1 h2 ht ha (hsession.trans hs))),
        s.respond_acts_here h _ _ (by decide)⟩
    case single =>
      rw [State.doTileCmd_single mask h1 h2 ht ha (hsession.trans hs), s.started_parts h 0x0060 .cycles (by decide)] at hexec
      exact ⟨_, hexec, s.tileCmd_waits h 0x0060 target _ inner⟩
  case timeout =>
    have hexec := exec_tileCmdTimeout hw
    have huntil := s.untilCycle_parts w.due
    have hcycles := s.untilCycle_cycles w.due
    have hquiet := s.untilCycle_silent w.due
    generalize s.untilCycle w.due = u at hexec huntil hcycles hquiet
    have hdrop := u.dropTileCmd_parts w
    have hparts := (u.dropTileCmd w).respond_parts w.hdr 0x0060 (timeoutReply w)
    have hauths := (u.dropTileCmd w).respond_auths w.hdr 0x0060 (timeoutReply w)
    obtain ⟨held, hcmd⟩ := (u.dropTileCmd w).respond_cmd w.hdr 0x0060 (timeoutReply w)
    refine ⟨_, hexec, ?_, ((State.respond_answers _ _ _ _).after (u.dropTileCmd_silent w)).after hquiet, ?_, ?_, ?_⟩
    · rw [hparts .cycles (by decide), hdrop .cycles (by decide), hcycles]
    · exact (huntil.mono (by decide)).trans ((hdrop.mono (by decide)).trans (hparts.mono (by decide)))
    · refine .trans (.of_same ?_ ?_) hauths
      · exact (hdrop .gen (by decide)).trans (huntil .gen (by decide))
      · exact (hdrop .gnt (by decide)).trans (huntil .gnt (by decide))
    · rw [hcmd]
      show u.cmd.tileCmds.filter _ = _
      rw [huntil .cmd (by decide)]

end Sys2Proof.Machine
end

section
/-! SUPPORT. Check units (R528, R533 to R536): the record and the fields of a unit, and what each operation sets and leaves. -/

namespace Sys2Proof.Machine

/-! The record of a unit -/

@[simp] theorem State.chkUnit_setChkUnit (s : State) (n : Nat) (x : ChkUnit) : (s.setChkUnit n x).chkUnit n = x := by
  have hgone : (s.chk.filter (fun y => y.1 != n)).find? (fun y => y.1 == n) = none := by simp
  simp [State.chkUnit, State.setChkUnit, hgone]

theorem State.chkUnit_setChkUnit_ne (s : State) {n m : Nat} (x : ChkUnit) (h : m ≠ n) : (s.setChkUnit n x).chkUnit m = s.chkUnit m := by
  have hkeep : (s.chk.filter (fun y => y.1 != n)).find? (fun y => y.1 == m) = s.chk.find? (fun y => y.1 == m) := by
    rw [List.find?_filter]
    congr 1
    funext y
    by_cases hy : y.1 = m <;> simp [hy, h]
  simp [State.chkUnit, State.setChkUnit, hkeep, Ne.symm h]

theorem State.chkUnit_congr {s t : State} (h : t.chk = s.chk) (n : Nat) : t.chkUnit n = s.chkUnit n := by
  rw [State.chkUnit, State.chkUnit, h]

theorem State.setChkUnit_parts (s : State) (n : Nat) (x : ChkUnit) : OnlyParts [.chk] s (s.setChkUnit n x) :=
  (State.setChkUnit_evolves s n x (List.Subset.refl _) (.refl _ s)).parts

@[simp] theorem State.setChkUnit_regs (s : State) (n : Nat) (x : ChkUnit) : (s.setChkUnit n x).regs = s.regs :=
  s.setChkUnit_parts n x .regs (by decide)

/-! START, DATA and RESYNC (R533, R535, R536) -/

/-- R533: the record that START latches. -/
def State.chkLatched (s : State) (n : Nat) : ChkUnit :=
  ⟨s.chkParams n, s.flag (F.CHK_U_CFG_CMP_EN n), s.fld (F.CHK_U_CFG_ALIVE_W n), crcStart (s.chkParams n),
    (s.chkUnit n).first || (s.chkUnit n).aliveW != s.fld (F.CHK_U_CFG_ALIVE_W n)⟩

theorem exec_chkStart {s : State} {n : Nat} (hn : n < 8) : exec (.chkStart n) s = .next (s.chkStart n) := by
  show execChkStart n s = _
  rw [execChkStart, if_pos hn]

/-- R533: START of a configuration that is accepted. -/
theorem State.chkStart_spec {s : State} {n : Nat} (hc : s.chkCfgFails n = false) :
    OnlyParts [.regs, .chk] s (s.chkStart n) ∧ OnlyFlds [F.CHK_U_STAT_OPEN n] s (s.chkStart n) ∧
      (s.chkStart n).flag (F.CHK_U_STAT_OPEN n) = true ∧ (s.chkStart n).chkUnit n = s.chkLatched n ∧
      ∀ m, m ≠ n → (s.chkStart n).chkUnit m = s.chkUnit m := by
  have hstart : s.chkStart n = (s.setFlag (F.CHK_U_STAT_OPEN n) true).setChkUnit n (s.chkLatched n) := by
    rw [State.chkStart, if_neg (by simp [hc])]
    rfl
  have hparts := (State.chkStart_evolves s n (List.Subset.refl _) (.refl _ s)).parts
  rw [hstart] at hparts ⊢
  refine ⟨hparts, ?flds, ?isOpen, State.chkUnit_setChkUnit _ _ _, fun m hm => ?others⟩
  case flds => exact ((OnlyFlds.refl _ s).setFlag _ true rfl (by simp)).trans (.of_regs (State.setChkUnit_regs _ _ _))
  case isOpen => rw [State.flag_congr (State.setChkUnit_regs _ _ _), State.flag_setFlag _ _ _ rfl]
  case others => rw [State.chkUnit_setChkUnit_ne _ _ hm, State.chkUnit_congr (State.setFlag_chk _ _ _)]

/-- R536: START of a configuration that is refused. -/
theorem State.chkStart_refused {s : State} {n : Nat} (hc : s.chkCfgFails n = true) :
    OnlyParts [.regs] s (s.chkStart n) ∧ OnlyFlds [F.CHK_U_STAT_OPEN n, F.CHK_U_EVT_CFG_ERR n] s (s.chkStart n) ∧
      (s.chkStart n).flag (F.CHK_U_STAT_OPEN n) = false ∧ (s.chkStart n).flag (F.CHK_U_EVT_CFG_ERR n) = true := by
  have hstart : s.chkStart n = (s.setFlag (F.CHK_U_STAT_OPEN n) false).event (F.CHK_U_EVT_CFG_ERR n) := by
    rw [State.chkStart, if_pos hc]
  rw [hstart]
  refine ⟨(s.setFlag_parts _ _).trans (State.event_parts _ _), ?flds, ?isClosed, State.flag_event _ _ rfl⟩
  case flds => exact ((OnlyFlds.refl _ s).setFlag _ false rfl (by simp)).event _ rfl (by simp)
  case isClosed =>
    rw [((OnlyFlds.refl [F.CHK_U_EVT_CFG_ERR n] _).event _ rfl (by simp)).flag rfl (by simp [Fld.apart]), State.flag_setFlag _ _ _ rfl]

/-- R533: the bytes that a DATA write feeds, by BYTES_M1. -/
def State.chkBytes (s : State) (n : Nat) (v : Word) : List Byte := leBytes (s.fld (F.CHK_U_CFG_BYTES_M1 n) + 1) v.toNat

theorem exec_chkData_open {s : State} {n : Nat} (hn : n < 8) (ho : s.flag (F.CHK_U_STAT_OPEN n) = true) (v : Word) :
    exec (.chkData n v) s = .next (s.setChkUnit n
      { s.chkUnit n with acc := crcFeed (s.chkUnit n).params (s.chkUnit n).acc (s.chkBytes n v) }) := by
  show execChkData n v s = _
  rw [execChkData, if_pos hn, State.chkData, if_pos ho]
  rfl

theorem exec_chkData_closed {s : State} {n : Nat} (hn : n < 8) (ho : s.flag (F.CHK_U_STAT_OPEN n) = false) (v : Word) :
    exec (.chkData n v) s = .next (s.event (F.CHK_U_EVT_NOT_STARTED n)) := by
  show execChkData n v s = _
  rw [execChkData, if_pos hn, State.chkData, if_neg (by simp [ho])]

/-- R536: what NOT_STARTED sets and leaves. -/
theorem State.notStarted_spec (s : State) (n : Nat) :
    OnlyParts [.regs] s (s.event (F.CHK_U_EVT_NOT_STARTED n)) ∧
      OnlyFlds [F.CHK_U_EVT_NOT_STARTED n] s (s.event (F.CHK_U_EVT_NOT_STARTED n)) ∧
      (s.event (F.CHK_U_EVT_NOT_STARTED n)).flag (F.CHK_U_EVT_NOT_STARTED n) = true :=
  ⟨s.event_parts _, (OnlyFlds.refl _ s).event _ rfl (by simp), s.flag_event _ rfl⟩

theorem exec_chkResync {s : State} {n : Nat} (hn : n < 8) :
    exec (.chkResync n) s = .next (s.setChkUnit n { s.chkUnit n with first := true }) := by
  show execChkResync n s = _
  rw [execChkResync, if_pos hn, State.chkResync]

/-! FINISH (R533 to R536) -/

/-- R534: the fields that the comparison writes. -/
def compareFlds (n : Nat) : List Fld := [F.CHK_U_STAT_MATCH n, F.CHK_U_EVT_MISMATCH n, F.CHK_U_CNT_MISMATCH_COUNT n]

/-- R535: the fields that the alive check writes. -/
def aliveFlds (n : Nat) : List Fld :=
  [F.CHK_U_STAT_ALIVE_RES n, F.CHK_U_STAT_LAST_ALIVE n, F.CHK_U_EVT_REPEAT n, F.CHK_U_EVT_SKIP n, F.CHK_U_EVT_STALE n,
    F.CHK_U_CNT_ALIVE_ERR_COUNT n]

theorem State.chkCompare_flds (s : State) (n : Nat) (u : ChkUnit) (r : Nat) : OnlyFlds (compareFlds n) s (s.chkCompare n u r) := by
  unfold State.chkCompare
  split
  · dsimp only
    split
    · exact (OnlyFlds.refl _ s).setFlag _ _ rfl (by simp [compareFlds])
    · exact (((OnlyFlds.refl _ s).setFlag _ _ rfl (by simp [compareFlds])).event _ rfl (by simp [compareFlds])).bump _ rfl
        (by simp [compareFlds])
  · exact .refl _ s

/-- R534: the value that EXPECT holds. -/
def State.chkExpect (s : State) (n : Nat) : Nat := s.fld (F.CHK_U_EXP_LO_EXPECT n) + 2 ^ 32 * s.fld (F.CHK_U_EXP_HI_EXPECT n)

/-- R534: MATCH says whether the result is EXPECT in w bits. -/
theorem State.chkCompare_match (s : State) (n : Nat) {u : ChkUnit} (r : Nat) (hu : u.compare = true) :
    (s.chkCompare n u r).flag (F.CHK_U_STAT_MATCH n) = decide (r = s.chkExpect n % 2 ^ u.params.width) := by
  rw [State.chkCompare, if_pos hu]
  change (if r = s.chkExpect n % 2 ^ u.params.width then _ else _ : State).flag _ = _
  by_cases he : r = s.chkExpect n % 2 ^ u.params.width
  · rw [if_pos he, decide_eq_true he, State.flag_setFlag _ _ _ rfl]
  · rw [if_neg he, decide_eq_false he]
    have hafter := ((OnlyFlds.refl [F.CHK_U_EVT_MISMATCH n, F.CHK_U_CNT_MISMATCH_COUNT n]
      (s.setFlag (F.CHK_U_STAT_MATCH n) false)).event (F.CHK_U_EVT_MISMATCH n) rfl (by simp)).bump (F.CHK_U_CNT_MISMATCH_COUNT n) rfl (by simp)
    rw [hafter.flag rfl (by simp [Fld.apart]), State.flag_setFlag _ _ _ rfl]

/-- R535: what an outcome of the alive check leaves besides ALIVE_RES. -/
def State.chkAliveAfter (s : State) (n : Nat) (x : Alive) (alive : Nat) : State :=
  match x with
  | .none => s
  | .first | .ok => s.setFld (F.CHK_U_STAT_LAST_ALIVE n) alive
  | .again => (s.event (F.CHK_U_EVT_REPEAT n)).bump (F.CHK_U_CNT_ALIVE_ERR_COUNT n)
  | .skip => (s.event (F.CHK_U_EVT_SKIP n)).setFld (F.CHK_U_STAT_LAST_ALIVE n) alive
  | .stale => (s.event (F.CHK_U_EVT_STALE n)).bump (F.CHK_U_CNT_ALIVE_ERR_COUNT n)

theorem State.chkAlive_eq (s : State) (n : Nat) (x : Alive) (alive : Nat) :
    s.chkAlive n x alive = (s.setFld (F.CHK_U_STAT_ALIVE_RES n) x.code).chkAliveAfter n x alive := by cases x <;> rfl

theorem State.chkAliveAfter_flds (s : State) (n : Nat) (x : Alive) (alive : Nat) :
    OnlyFlds (aliveFlds n).tail s (s.chkAliveAfter n x alive) := by
  cases x
  case none => exact .refl _ s
  case first => exact (OnlyFlds.refl _ s).setFld _ _ rfl (by simp [aliveFlds])
  case ok => exact (OnlyFlds.refl _ s).setFld _ _ rfl (by simp [aliveFlds])
  case again => exact ((OnlyFlds.refl _ s).event _ rfl (by simp [aliveFlds])).bump _ rfl (by simp [aliveFlds])
  case skip => exact ((OnlyFlds.refl _ s).event _ rfl (by simp [aliveFlds])).setFld _ _ rfl (by simp [aliveFlds])
  case stale => exact ((OnlyFlds.refl _ s).event _ rfl (by simp [aliveFlds])).bump _ rfl (by simp [aliveFlds])

theorem State.chkAlive_flds (s : State) (n : Nat) (x : Alive) (alive : Nat) : OnlyFlds (aliveFlds n) s (s.chkAlive n x alive) := by
  rw [State.chkAlive_eq]
  exact ((OnlyFlds.refl _ s).setFld _ _ rfl (by simp [aliveFlds])).trans ((State.chkAliveAfter_flds _ n x alive).mono (List.tail_subset _))

/-- R535: ALIVE_RES says the outcome. -/
theorem State.chkAlive_res (s : State) (n : Nat) (x : Alive) (alive : Nat) :
    (s.chkAlive n x alive).fld (F.CHK_U_STAT_ALIVE_RES n) = x.code := by
  rw [State.chkAlive_eq, State.chkAliveAfter_flds _ n x alive _ rfl (by simp [aliveFlds, Fld.apart]), State.fld_setFld_same _ _ _ rfl]
  cases x <;> rfl

/-- R533: the result that FINISH forms. -/
def State.chkResult (s : State) (n : Nat) : Nat := crcFinish (s.chkUnit n).params (s.chkUnit n).acc

/-- R535: the outcome of the alive check at FINISH. -/
def State.chkAliveAt (s : State) (n alive : Nat) : Alive :=
  judgeAlive (s.chkUnit n).aliveW (s.chkUnit n).first alive (s.fld (F.CHK_U_STAT_LAST_ALIVE n))

/-- R533: the fields that the result is written to. -/
def resultFlds (n : Nat) : List Fld := [F.CHK_U_RES_LO_RESULT n, F.CHK_U_RES_HI_RESULT n]

/-- R533: the result written. -/
def State.putResult (s : State) (n r : Nat) : State :=
  (s.setFld (F.CHK_U_RES_LO_RESULT n) r).setFld (F.CHK_U_RES_HI_RESULT n) (r / 2 ^ 32)

theorem State.putResult_flds (s : State) (n r : Nat) : OnlyFlds (resultFlds n) s (s.putResult n r) :=
  ((OnlyFlds.refl _ s).setFld _ _ rfl (by simp [resultFlds])).setFld _ _ rfl (by simp [resultFlds])

theorem State.putResult_fld (s : State) (n r : Nat) :
    (s.putResult n r).fld (F.CHK_U_RES_LO_RESULT n) = r % 2 ^ 32 ∧
      (s.putResult n r).fld (F.CHK_U_RES_HI_RESULT n) = r / 2 ^ 32 % 2 ^ 32 := by
  refine ⟨?_, State.fld_setFld_same _ _ _ rfl⟩
  rw [State.putResult, State.fld_setFld_apart _ _ _ _ rfl rfl (by simp [Fld.apart])]
  exact State.fld_setFld_same _ _ _ rfl

/-- R533, R534, R535: FINISH of an open unit, as one operation after another. -/
theorem State.chkFinish_eq {s : State} {n : Nat} (alive : Nat) (ho : s.flag (F.CHK_U_STAT_OPEN n) = true) :
    ∃ last x, s.chkFinish n alive = ((((s.putResult n (s.chkResult n)).chkCompare n (s.chkUnit n) (s.chkResult n)).chkAlive n
      (s.chkAliveAt n alive) last).setFlag (F.CHK_U_STAT_OPEN n) false).setChkUnit n x := by
  have hlast : ((s.putResult n (s.chkResult n)).chkCompare n (s.chkUnit n) (s.chkResult n)).fld (F.CHK_U_STAT_LAST_ALIVE n) =
      s.fld (F.CHK_U_STAT_LAST_ALIVE n) := by
    rw [State.chkCompare_flds _ _ _ _ _ rfl (by simp [compareFlds, Fld.apart]),
      s.putResult_flds n _ _ rfl (by simp [resultFlds, Fld.apart])]
  refine ⟨alive % 2 ^ (s.chkUnit n).aliveW, { s.chkUnit n with first := (s.chkUnit n).first && (s.chkUnit n).aliveW == 0 }, ?_⟩
  rw [State.chkFinish, if_pos ho, State.chkAliveAt, ← hlast]
  rfl

theorem exec_chkFinish {s : State} {n : Nat} (hn : n < 8) (alive : Nat) : exec (.chkFinish n alive) s = .next (s.chkFinish n alive) := by
  show execChkFinish n alive s = _
  rw [execChkFinish, if_pos hn]

theorem State.chkFinish_closed {s : State} {n : Nat} (alive : Nat) (ho : s.flag (F.CHK_U_STAT_OPEN n) = false) :
    s.chkFinish n alive = s.event (F.CHK_U_EVT_NOT_STARTED n) := by
  rw [State.chkFinish, if_neg (by simp [ho])]

/-- R533 to R535: the fields that FINISH of an open unit writes. -/
def finishFlds (n : Nat) : List Fld :=
  [F.CHK_U_STAT_OPEN n, F.CHK_U_RES_LO_RESULT n, F.CHK_U_RES_HI_RESULT n, F.CHK_U_STAT_ALIVE_RES n, F.CHK_U_STAT_LAST_ALIVE n,
    F.CHK_U_STAT_MATCH n, F.CHK_U_EVT_MISMATCH n, F.CHK_U_CNT_MISMATCH_COUNT n, F.CHK_U_EVT_REPEAT n, F.CHK_U_EVT_SKIP n,
    F.CHK_U_EVT_STALE n, F.CHK_U_CNT_ALIVE_ERR_COUNT n]

/-- R533 to R535: what FINISH of an open unit writes, and the fields that it leaves. -/
theorem State.chkFinish_open {s : State} {n : Nat} (alive : Nat) (ho : s.flag (F.CHK_U_STAT_OPEN n) = true) :
    let t := s.chkFinish n alive
    t.flag (F.CHK_U_STAT_OPEN n) = false ∧
    t.fld (F.CHK_U_RES_LO_RESULT n) = s.chkResult n % 2 ^ 32 ∧ t.fld (F.CHK_U_RES_HI_RESULT n) = s.chkResult n / 2 ^ 32 % 2 ^ 32 ∧
    t.fld (F.CHK_U_STAT_ALIVE_RES n) = (s.chkAliveAt n alive).code ∧
    ((s.chkUnit n).compare = true →
      t.flag (F.CHK_U_STAT_MATCH n) = decide (s.chkResult n = s.chkExpect n % 2 ^ (s.chkUnit n).params.width)) ∧
    OnlyFlds (finishFlds n) s t := by
  intro t
  obtain ⟨last, x, ht⟩ := State.chkFinish_eq alive ho
  have hresult := s.putResult_fld n (s.chkResult n)
  have hput := s.putResult_flds n (s.chkResult n)
  have hcompare := (s.putResult n (s.chkResult n)).chkCompare_flds n (s.chkUnit n) (s.chkResult n)
  have hmatch := (s.putResult n (s.chkResult n)).chkCompare_match n (u := s.chkUnit n) (s.chkResult n)
  generalize s.putResult n (s.chkResult n) = a at *
  generalize a.chkCompare n (s.chkUnit n) (s.chkResult n) = b at *
  have halive := b.chkAlive_flds n (s.chkAliveAt n alive) last
  have hres := b.chkAlive_res n (s.chkAliveAt n alive) last
  generalize b.chkAlive n (s.chkAliveAt n alive) last = c at *
  have hclose := (OnlyFlds.refl [F.CHK_U_STAT_OPEN n] c).setFlag (F.CHK_U_STAT_OPEN n) false rfl (by simp)
  have hopen := c.flag_setFlag (F.CHK_U_STAT_OPEN n) false rfl
  generalize c.setFlag (F.CHK_U_STAT_OPEN n) false = d at *
  have hregs : t.regs = d.regs := by rw [show t = _ from ht]; exact State.setChkUnit_regs _ _ _
  have hexpect : a.chkExpect n = s.chkExpect n := by
    rw [State.chkExpect, State.chkExpect, hput _ rfl (by simp [resultFlds, Fld.apart]), hput _ rfl (by simp [resultFlds, Fld.apart])]
  refine ⟨?isClosed, ?low, ?high, ?alive, fun hc => ?matchBit, ?flds⟩
  case isClosed => rw [State.flag_congr hregs, hopen]
  case low =>
    rw [State.fld_congr hregs, hclose _ rfl (by simp [Fld.apart]), halive _ rfl (by simp [aliveFlds, Fld.apart]),
      hcompare _ rfl (by simp [compareFlds, Fld.apart]), hresult.1]
  case high =>
    rw [State.fld_congr hregs, hclose _ rfl (by simp [Fld.apart]), halive _ rfl (by simp [aliveFlds, Fld.apart]),
      hcompare _ rfl (by simp [compareFlds, Fld.apart]), hresult.2]
  case alive => rw [State.fld_congr hregs, hclose _ rfl (by simp [Fld.apart]), hres]
  case matchBit =>
    rw [State.flag_congr hregs, hclose.flag rfl (by simp [Fld.apart]), halive.flag rfl (by simp [aliveFlds, Fld.apart]), hmatch hc, hexpect]
  case flds =>
    exact (hput.mono (by simp [resultFlds, finishFlds])).trans ((hcompare.mono (by simp [compareFlds, finishFlds])).trans
      ((halive.mono (by simp [aliveFlds, finishFlds])).trans ((hclose.mono (by simp [finishFlds])).trans (.of_regs hregs))))

/-! A check from START to FINISH (R528, R533) -/

/-- R528: bytes fed one run after another are fed in order. -/
theorem crcFeed_append (p : CrcParams) (acc : Nat) (as bs : List Byte) : crcFeed p acc (as ++ bs) = crcFeed p (crcFeed p acc as) bs :=
  List.foldl_append

theorem State.after_cons {s t : State} {i : Instr} (h : exec i s = .next t) (is : List Instr) : s.after (i :: is) = t.after is := by
  rw [State.after, h]

/-- R528, R533: DATA words fed to an open unit one after another add the bytes of all of them to its check, and change nothing else. -/
theorem State.after_chkData {n : Nat} (hn : n < 8) (ws : List Word) (is : List Instr) : ∀ s : State, s.flag (F.CHK_U_STAT_OPEN n) = true →
    ∃ t, s.after (ws.map (.chkData n) ++ is) = t.after is ∧ OnlyParts [.chk] s t ∧
      t.chkUnit n = { s.chkUnit n with acc := crcFeed (s.chkUnit n).params (s.chkUnit n).acc (ws.flatMap (s.chkBytes n)) } := by
  induction ws with
  | nil => exact fun s _ => ⟨s, rfl, .refl _ s, rfl⟩
  | cons w ws ih =>
    intro s ho
    have hexec := exec_chkData_open hn ho w
    have hparts := s.setChkUnit_parts n { s.chkUnit n with acc := crcFeed (s.chkUnit n).params (s.chkUnit n).acc (s.chkBytes n w) }
    have hunit := s.chkUnit_setChkUnit n { s.chkUnit n with acc := crcFeed (s.chkUnit n).params (s.chkUnit n).acc (s.chkBytes n w) }
    generalize s.setChkUnit n { s.chkUnit n with acc := crcFeed (s.chkUnit n).params (s.chkUnit n).acc (s.chkBytes n w) } = u at *
    have hregs : u.regs = s.regs := hparts .regs (by decide)
    have hbytes : u.chkBytes n = s.chkBytes n := funext fun v => by rw [State.chkBytes, State.chkBytes, State.fld_congr hregs]
    obtain ⟨t, hafter, hrest, hdone⟩ := ih u ((State.flag_congr hregs _).trans ho)
    refine ⟨t, (State.after_cons hexec _).trans hafter, hparts.trans hrest, ?_⟩
    rw [hdone, hunit, hbytes, List.flatMap_cons, crcFeed_append]

end Sys2Proof.Machine
end

section
/-! CERTIFICATES. Check units (O26, O27). -/

namespace Sys2Proof.Machine

/-- Settles O26: START, DATA and FINISH by whether the configuration is accepted and the unit is open, and RESYNC alike. -/
theorem checkUnitOperations : Obligations.CheckUnitOperations := by
  intro s n hn
  refine ⟨fun hc => ?start, fun hc => ⟨_, exec_chkStart hn, State.chkStart_refused hc⟩, fun v => ⟨fun ho => ?data, fun ho => ?noData⟩,
    fun alive => ⟨fun ho => ?noFinish, fun ho => ?finish⟩, ?resync⟩
  case start =>
    obtain ⟨hparts, hflds, hopen, hunit, hothers⟩ := State.chkStart_spec hc
    refine ⟨_, exec_chkStart hn, hparts, hflds, hopen, ?_, ?_, ?_, ?_, hothers⟩ <;> rw [hunit] <;> rfl
  case data =>
    exact ⟨_, exec_chkData_open hn ho v, s.setChkUnit_parts n _, s.chkUnit_setChkUnit n _, fun m hm => s.chkUnit_setChkUnit_ne _ hm⟩
  case noData => exact ⟨_, exec_chkData_closed hn ho v, s.notStarted_spec n⟩
  case noFinish =>
    rw [exec_chkFinish hn, State.chkFinish_closed alive ho]
    exact ⟨_, rfl, s.notStarted_spec n⟩
  case finish =>
    obtain ⟨hclosed, hlow, hhigh, halive, hmatch, hflds⟩ := State.chkFinish_open alive ho
    exact ⟨_, _, exec_chkFinish hn alive, (State.chkFinish_evolves s n alive (List.Subset.refl _) (.refl _ s)).parts, rfl, hclosed, hlow,
      hhigh, halive, hmatch, hflds⟩
  case resync =>
    exact ⟨_, exec_chkResync hn, s.setChkUnit_parts n _, s.chkUnit_setChkUnit n _, fun m hm => s.chkUnit_setChkUnit_ne _ hm⟩

/-- Settles O27: START latches the parameters and begins a new check, whatever the unit held; DATA adds its words' bytes in order
(`after_chkData`), and FINISH forms the result of what has been fed. -/
theorem checkCoversAllBytes : Obligations.CheckCoversAllBytes := by
  intro s n alive ws hn hc
  obtain ⟨-, hflds, hopen, hunit, -⟩ := State.chkStart_spec hc
  have hstart := exec_chkStart (s := s) hn
  generalize s.chkStart n = u at *
  have hbytes : u.chkBytes n = s.chkBytes n := funext fun v => by
    rw [State.chkBytes, State.chkBytes, hflds _ rfl (by simp [Fld.apart])]
  obtain ⟨v, hafter, hparts, hfed⟩ := State.after_chkData hn ws [.chkFinish n alive] u hopen
  obtain ⟨hclosed, hlow, hhigh, -, -, -⟩ := State.chkFinish_open alive ((State.flag_congr (hparts .regs (by decide)) _).trans hopen)
  have hresult : v.chkResult n = crcFinish (s.chkParams n)
      (crcFeed (s.chkParams n) (crcStart (s.chkParams n)) (ws.flatMap (s.chkBytes n))) := by
    rw [State.chkResult, hfed, hunit, hbytes]
    rfl
  rw [hresult] at hlow hhigh
  refine ⟨v.chkFinish n alive, _, ?_, rfl, hlow, hhigh, hclosed⟩
  calc s.after (.chkStart n :: ws.map (.chkData n) ++ [.chkFinish n alive])
      = u.after (ws.map (.chkData n) ++ [.chkFinish n alive]) := State.after_cons hstart _
    _ = v.after [.chkFinish n alive] := hafter
    _ = some (v.chkFinish n alive) := State.after_cons (exec_chkFinish hn alive) []

end Sys2Proof.Machine
end

section
/-! SUPPORT. Slots and the boot header (R484, R488, R495, R502): what decides where an image goes, and what writing a slot leaves. -/

namespace Sys2Proof.Machine

/-! What decides (R484, R486, R495) -/

theorem State.slotBytes_congr {s t : State} (h : t.nvm = s.nvm) (k : Nat) : t.slotBytes k = s.slotBytes k := by
  rw [State.slotBytes, State.slotBytes, h]

theorem State.hdrNow_congr {s t : State} (h : t.nvm = s.nvm) : t.hdrNow = s.hdrNow := by
  rw [State.hdrNow, State.hdrNow, State.chosenHdr, State.chosenHdr, h]

/-- R486: the checks of an image read the fuses. -/
theorem State.imageFails_congr {s t : State} (h : t.fuses = s.fuses) (bs : List Byte) : t.imageFails bs = s.imageFails bs := by
  simp only [State.imageFails, h]

/-- R495: the slot that holds an image is read from the registers and the NVM. -/
theorem State.heldImage_congr {s t : State} (hr : t.regs = s.regs) (hn : t.nvm = s.nvm) (fw : Nat) : t.heldImage fw = s.heldImage fw := by
  simp only [State.heldImage, State.mode_of_regs hr, State.fld_congr hr, State.hdrNow_congr hn, State.slotBytes_congr hn]

/-- R495: the slot that a staging writes is read from the registers, the NVM and the open values. -/
theorem State.targetSlot_congr {s t : State} (hr : t.regs = s.regs) (hn : t.nvm = s.nvm) (hf : t.fresh = s.fresh) :
    t.targetSlot = s.targetSlot := by
  simp only [State.targetSlot, State.mode_of_regs hr, State.fld_congr hr, State.hdrNow_congr hn, State.freeValue, hf]

/-- R495: where the staging area stands is read from the registers. -/
theorem State.stagingBase_congr {s t : State} (h : t.regs = s.regs) : t.stagingBase = s.stagingBase := by
  rw [State.stagingBase, State.stagingBase, State.tileRole_congr h, State.fld_congr h, State.bufferTop_congr h]

/-! Writing a slot (R484, R488, R495) -/

/-- R502: the register fields that show the slots. -/
def slotFlds : List Fld := [F.SYS_SLOT_STAT_STATE_A, F.SYS_SLOT_STAT_STATE_B, F.SYS_FW_STAGED_FW_VER]

theorem State.useHdr_flds (s : State) (h : List Byte) : OnlyFlds slotFlds s (s.useHdr h) := by
  unfold State.useHdr State.showSlots
  exact (((OnlyFlds.of_regs (s := s) (t := { s with boot := { s.boot with hdr := h } }) rfl).setFld _ _ rfl (by simp [slotFlds])).setFld _ _
    rfl (by simp [slotFlds])).setFld _ _ rfl (by simp [slotFlds])

theorem State.useHdr_slotBytes (s : State) (h : List Byte) (k : Nat) : (s.useHdr h).slotBytes k = s.slotBytes k :=
  State.slotBytes_congr ((State.useHdr_evolves s h (List.Subset.refl _) (.refl _ s)).parts .nvm (by decide)) k

/-- R484: a changed header shows the slots anew, and leaves their bytes. -/
theorem State.writeHdr_spec (s : State) (h : List Byte) :
    OnlyParts [.regs, .nvm, .boot] s (s.writeHdr h) ∧ OnlyFlds slotFlds s (s.writeHdr h) ∧
      ∀ k, (s.writeHdr h).slotBytes k = s.slotBytes k := by
  refine ⟨(State.writeHdr_evolves s h (List.Subset.refl _) (.refl _ s)).parts, ?flds, fun k => ?slots⟩
  case flds =>
    refine .trans (.of_regs ?_) (State.useHdr_flds _ _)
    split <;> rfl
  case slots =>
    refine (State.useHdr_slotBytes _ _ k).trans ?_
    split <;> rfl

theorem State.setSlotBytes_parts (s : State) (k : Nat) (bs : List Byte) : OnlyParts [.nvm] s (s.setSlotBytes k bs) :=
  (State.setSlotBytes_evolves s k bs (List.Subset.refl _) (.refl _ s)).parts

theorem State.slotBytes_setSlotBytes (s : State) (k : Nat) (bs : List Byte) : (s.setSlotBytes k bs).slotBytes k = bs := by
  unfold State.setSlotBytes State.slotBytes
  split <;> rfl

/-- R495, R502: a slot written with the header that shows it. -/
theorem State.fillSlot_spec (s : State) (k : Nat) (bs h : List Byte) :
    OnlyParts [.regs, .nvm, .boot] s ((s.setSlotBytes k bs).writeHdr h) ∧ OnlyFlds slotFlds s ((s.setSlotBytes k bs).writeHdr h) ∧
      ((s.setSlotBytes k bs).writeHdr h).slotBytes k = bs := by
  have hset := s.setSlotBytes_parts k bs
  obtain ⟨hparts, hflds, hslots⟩ := (s.setSlotBytes k bs).writeHdr_spec h
  exact ⟨(hset.mono (by decide)).trans hparts, (OnlyFlds.of_regs (hset .regs (by decide))).trans hflds,
    (hslots k).trans (s.slotBytes_setSlotBytes k bs)⟩

/-! Fault records and slots (R501) -/

theorem State.newFault_slotBytes (s : State) (cls code : Nat) (detail : List Byte) (k : Nat) :
    (s.newFault cls code detail).slotBytes k = s.slotBytes k := by
  have htold : ∀ (u : State) (n : Nat) (f : FaultRec),
      (if u.tileRole then ({ u with faults := { u.faults with unacked := u.faults.unacked ++ [n] } } : State).sendBoth (.fault f)
       else
        let v := u.append (.fault f)
        if v.hasStandby then ({ v with faults := { v.faults with unacked := v.faults.unacked ++ [n] } } : State).await (.ownFault n)
        else v).nvm = u.nvm := by
    intro u n f
    split
    · exact (State.sendBoth_evolves _ _ (List.Subset.refl _) (.refl _ _)).parts .nvm (by decide)
    · have happend : (u.append (.fault f)).nvm = u.nvm := u.append_keeps _ .nvm (by decide)
      dsimp only
      split <;> exact happend
  unfold State.newFault
  refine (State.slotBytes_congr (htold _ _ _) k).trans ?_
  split <;> rfl

/-- R501: a fault record leaves the bytes of the slots. -/
theorem State.fault_slotBytes (s : State) (cls code : Nat) (detail : List Byte) (k : Nat) :
    (s.fault cls code detail).slotBytes k = s.slotBytes k := by
  have hnew (c d : Nat) (bs : List Byte) : ((s.newFault c d bs).event F.MLK_EVT_FAULT_OVF).slotBytes k = s.slotBytes k :=
    (State.slotBytes_congr (State.event_nvm _ _) k).trans (s.newFault_slotBytes c d bs k)
  unfold State.fault
  split
  · rfl
  · split
    · split
      · exact State.slotBytes_congr (State.event_nvm _ _) k
      · exact hnew 1 4 []
    · exact s.newFault_slotBytes _ _ _ k

end Sys2Proof.Machine
end

section
/-! SUPPORT. Staging (R495, R517): STAGE_BEGIN, STAGE_WRITE and STAGE_END, by their rows. -/

namespace Sys2Proof.Machine

/-- The engine's record of the staging area replaced. -/
def State.setStaging (s : State) (x : Option Nat) : State := { s with cmd := { s.cmd with staging := x } }

theorem State.setStaging_parts (s : State) (x : Option Nat) : OnlyParts [.cmd] s (s.setStaging x) :=
  (Evolves.set_cmd (ps := [.cmd]) _ (by decide) (.refl _ s)).parts

theorem State.setStaging_silent (s : State) (x : Option Nat) : Silent s (s.setStaging x) := .of_sent rfl

/-- A response leaves the staging area as it is. -/
theorem State.respond_staging (s : State) (h : Hdr) (op : Nat) (r : Reply) : (s.respond h op r).cmd.staging = s.cmd.staging := by
  obtain ⟨held, hcmd⟩ := s.respond_cmd h op r
  rw [hcmd]

/-- The response of a new action, after a change of parts other than the registers and the authorities that sends nothing. -/
theorem State.respond_acts_parts {s u : State} {h : Hdr} {op : Nat} {r : Reply} {qs : List Part} (ps : List Part) (hr : r.status ≠ .errSeq)
    (hparts : OnlyParts qs (s.started h op) u) (hq : qs ⊆ answerParts ++ ps) (hregs : Part.regs ∉ qs) (hsent : Part.sent ∉ qs)
    (hgen : Part.gen ∉ qs) (hgnt : Part.gnt ∉ qs) : Acts s (u.respond h op r) h op r ps [] :=
  s.respond_acts u h op r ps [] hr (.of_sent (hparts .sent hsent)) (hparts.mono hq) (.of_regs (hparts .regs hregs)) (hparts .gen hgen)
    (hparts .gnt hgnt)

/-! STAGE_BEGIN (R495, R517) -/

theorem State.doStageBegin_length {s : State} {total : Nat} (h : Hdr) (hl : total < 1024 ∨ 16777216 < total) :
    s.doStageBegin h total = s.respond h 0x0040 (bareReply .errLen) := by
  rw [State.doStageBegin, if_pos hl, State.refuse]

theorem State.doStageBegin_state {s : State} {total : Nat} (h : Hdr) (h1 : 1024 ≤ total) (h2 : total ≤ 16777216)
    (hs : s.cmd.staging ≠ none ∨ s.flag F.SYS_BOOT_STAT_TRIAL = true) :
    s.doStageBegin h total = s.respond h 0x0040 (bareReply .errState) := by
  rw [State.doStageBegin, if_neg (by omega), if_pos (by simpa [Option.isSome_iff_ne_none] using hs), State.refuse]

theorem State.doStageBegin_opens {s : State} {total : Nat} (h : Hdr) (h1 : 1024 ≤ total) (h2 : total ≤ 16777216)
    (hs : s.cmd.staging = none) (ht : s.flag F.SYS_BOOT_STAT_TRIAL = false) :
    s.doStageBegin h total = (s.setStaging (some total)).respond h 0x0040 (bareReply .ok) := by
  rw [State.doStageBegin, if_neg (by omega), if_neg (by simp [hs, ht])]
  rfl

/-! STAGE_WRITE (R460, R517) -/

theorem State.doStageWrite_closed {s : State} (h : Hdr) (off : Nat) (data : List Byte) (hs : s.cmd.staging = none) :
    s.doStageWrite h off data = s.respond h 0x0041 (bareReply .errState) := by
  simp only [State.doStageWrite, hs, State.refuse]

theorem State.doStageWrite_range {s : State} {total off : Nat} {data : List Byte} (h : Hdr) (hs : s.cmd.staging = some total)
    (hl : total < off + data.length) : s.doStageWrite h off data = s.respond h 0x0041 (bareReply .errRange) := by
  simp only [State.doStageWrite, hs, if_pos hl, State.refuse]

theorem State.doStageWrite_stored {s u : State} {total off : Nat} {data : List Byte} (h : Hdr) (hs : s.cmd.staging = some total)
    (hl : off + data.length ≤ total) (hp : s.stagePut off data = (u, true)) :
    s.doStageWrite h off data = u.respond h 0x0041 (bareReply .ok) := by
  simp only [State.doStageWrite, hs, if_neg (show ¬ total < off + data.length by omega), hp, State.refuse, if_true]

theorem State.stagePut_store {s : State} (off : Nat) (data : List Byte) (hb : s.stagingBase = none) :
    s.stagePut off data = (s.setStoreBytes (0x18A0000 + off) data, true) := by
  rw [State.stagePut, hb]

theorem State.stagePut_memory {s : State} {a : Nat} (off : Nat) (data : List Byte) (hb : s.stagingBase = some a) :
    s.stagePut off data = s.hostWrite (a + off) data := by
  rw [State.stagePut, hb]

/-- R517: STAGE_WRITE runs from the action's start, where the staging area is as it was. -/
theorem exec_stageWrite_stored {s u : State} {h : Hdr} {total off : Nat} {data : List Byte} (k : s.newAction h (.stageWrite off data))
    (hs : s.cmd.staging = some total) (hl : off + data.length ≤ total) (hp : (s.started h 0x0041).stagePut off data = (u, true)) :
    exec (.stageWrite h off data) s = .next (u.respond h 0x0041 (bareReply .ok)) := by
  have hstart : (s.started h 0x0041).cmd.staging = some total := by rw [s.started_parts h _ .cmd (by decide), hs]
  exact (exec_newAction rfl k rfl).trans (congrArg _ (State.doStageWrite_stored h hstart hl hp))

/-- R517: STAGE_WRITE at a tile stores its bytes in the tile's store. -/
theorem exec_stageWrite_store {s : State} {h : Hdr} {total off : Nat} {data : List Byte} (k : s.newAction h (.stageWrite off data))
    (hs : s.cmd.staging = some total) (hl : off + data.length ≤ total) (hb : s.stagingBase = none) :
    ∃ t, exec (.stageWrite h off data) s = .next t ∧ Acts s t h 0x0041 (bareReply .ok) [.tile] [] ∧
      ∀ c, t.storeByte c = if 0x18A0000 + off ≤ c ∧ c < 0x18A0000 + off + data.length
        then data.getD (c - (0x18A0000 + off)) 0 else s.storeByte c := by
  have hput := State.stagePut_store off data ((State.stagingBase_congr (s.started_regs h 0x0041)).trans hb)
  refine ⟨_, exec_stageWrite_stored k hs hl hput, ?_, fun c => ?_⟩
  · exact State.respond_acts_parts [.tile] (by decide) (State.setStoreBytes_parts _ _ _) (by decide) (by decide) (by decide) (by decide)
      (by decide)
  · rw [State.storeByte_congr (congrArg TileState.store (State.respond_parts _ h _ _ .tile (by decide))), State.storeByte_setStoreBytes,
      State.storeByte_congr (congrArg TileState.store (s.started_parts h 0x0041 .tile (by decide)))]

/-- R460, R517: STAGE_WRITE at a sender stores its bytes in external memory that is ready. -/
theorem exec_stageWrite_memory {s : State} {h : Hdr} {total off a : Nat} {data : List Byte} (k : s.newAction h (.stageWrite off data))
    (hs : s.cmd.staging = some total) (hl : off + data.length ≤ total) (hb : s.stagingBase = some a)
    (hready : s.memReady (a + off) data.length) :
    ∃ t, exec (.stageWrite h off data) s = .next t ∧ Acts s t h 0x0041 (bareReply .ok) [.dram] [] ∧
      ∀ c, t.memByte c = if a + off ≤ c ∧ c < a + off + data.length then data.getD (c - (a + off)) 0 else s.memByte c := by
  have hdram : (s.started h 0x0041).dram = s.dram := s.started_parts h _ .dram (by decide)
  obtain ⟨u, hwrite, hparts, hbytes⟩ := State.hostWrite_ready (State.memReady_congr hdram hready)
  have hput := (State.stagePut_memory off data ((State.stagingBase_congr (s.started_regs h 0x0041)).trans hb)).trans hwrite
  refine ⟨_, exec_stageWrite_stored k hs hl hput, ?_, fun c => ?_⟩
  · exact State.respond_acts_parts [.dram] (by decide) hparts (by decide) (by decide) (by decide) (by decide) (by decide)
  · rw [State.memByte_congr (State.respond_parts _ h _ _ .dram (by decide)), hbytes, State.memByte_congr hdram]

/-! STAGE_END (R495) -/

/-- R495: the bytes `bs` of an image of `total` bytes stand in the staging area. -/
def State.staged (s : State) (total : Nat) (bs : List Byte) : Prop :=
  s.stagingBase = none ∧ bs = s.storeBytes 0x18A0000 total ∨
    ∃ a, s.stagingBase = some a ∧ s.memReady a total ∧ bs = (List.range total).map (fun i => s.memByte (a + i))

/-- R460, R495: an image that stands in the staging area is read from it, and nothing changes. -/
theorem State.stageGet_staged {s : State} {total : Nat} {bs : List Byte} (h : s.staged total bs) : s.stageGet total = (s, some bs) := by
  rcases h with ⟨hb, rfl⟩ | ⟨a, hb, hready, rfl⟩
  · rw [State.stageGet, hb]
  · rw [State.stageGet, hb]
    exact State.readMem_ready 6 hready

theorem State.staged_congr {s t : State} {total : Nat} {bs : List Byte} (hr : t.regs = s.regs) (ht : t.tile = s.tile) (hd : t.dram = s.dram)
    (h : s.staged total bs) : t.staged total bs := by
  have hbase := State.stagingBase_congr hr
  rcases h with ⟨hb, rfl⟩ | ⟨a, hb, hready, rfl⟩
  · refine .inl ⟨hbase.trans hb, ?_⟩
    simp only [State.storeBytes_eq, State.storeByte_congr (congrArg TileState.store ht)]
  · refine .inr ⟨a, hbase.trans hb, State.memReady_congr hd hready, ?_⟩
    simp only [State.memByte_congr hd]

theorem State.doStageEnd_state {s : State} (h : Hdr) (hs : s.cmd.staging = none ∨ s.flag F.SYS_BOOT_STAT_TRIAL = true) :
    s.doStageEnd h = s.respond h 0x0042 (bareReply .errState) := by
  rw [State.doStageEnd]
  split
  · rfl
  · next total hsome =>
    have htrial : s.flag F.SYS_BOOT_STAT_TRIAL = true := hs.resolve_left (by simp [hsome])
    rw [if_pos htrial, State.refuse]

/-- R495: STAGE_END of an image that can be read: the staging area is closed, and the image goes where its checks say. -/
theorem State.doStageEnd_eq {s : State} {total : Nat} {bs : List Byte} (h : Hdr) (hs : s.cmd.staging = some total)
    (ht : s.flag F.SYS_BOOT_STAT_TRIAL = false) (hb : (s.setStaging none).staged total bs) :
    s.doStageEnd h =
      if ((s.setStaging none).imageFails bs).isSome then
        ((s.setStaging none).event F.SYS_BOOT_EVT_STAGE_REJ).respond h 0x0042 (bareReply .errImage)
      else
        match (s.setStaging none).heldImage (imageFw bs) with
        | some k => (s.setStaging none).respond h 0x0042 ⟨.ok, { RFlags.none with already := true }, stageBody (imageFw bs) k⟩
        | none => (s.setStaging none).writeSlot h bs := by
  have hget : ({ s with cmd := { s.cmd with staging := none } } : State).stageGet total = (s.setStaging none, some bs) :=
    State.stageGet_staged hb
  simp only [State.doStageEnd, hs, ht, hget, Bool.false_eq_true, if_false]
  rfl

/-- R495: an image whose read-back differs: its slot is erased, and the image is refused. -/
theorem State.writeSlot_differs {s : State} (h : Hdr) (bs : List Byte) (hd : (Config.freeWord (s.fresh + 1)).toNat % 2 = 1) :
    ∃ u, s.writeSlot h bs = u.respond h 0x0042 (bareReply .errImage) ∧
      Evolves [.fresh, .regs, .sent, .link, .repl, .faults, .nvm, .boot, .red] s u ∧ u.slotBytes s.targetSlot = [] := by
  refine ⟨(({ s with fresh := s.fresh + 3 } : State).eraseSlot s.targetSlot).fault 6 4
    (leBytes 4 (imageFw bs) ++ leBytes 1 (Config.freeWord (s.fresh + 2)).toNat ++ leBytes 1 s.targetSlot), ?_, ?_, ?_⟩
  · simp only [State.writeSlot, if_pos hd, State.refuse]
  · exact State.fault_evolves _ 6 4 _ (by decide) (State.eraseSlot_evolves _ _ (by decide)
      (Evolves.set_fresh _ (Nat.le_add_right _ _) (by decide) (.refl _ s)))
  · rw [State.fault_slotBytes]
    exact (State.fillSlot_spec _ _ _ _).2.2

/-- R495: an image whose read-back agrees: its slot holds it, STAGED, and STAGE_DONE is set. -/
theorem State.writeSlot_agrees {s : State} (h : Hdr) (bs : List Byte) (hd : ¬(Config.freeWord (s.fresh + 1)).toNat % 2 = 1) :
    ∃ u, s.writeSlot h bs = u.respond h 0x0042 (okReply (stageBody (imageFw bs) s.targetSlot)) ∧
      OnlyParts [.fresh, .regs, .nvm, .boot] s u ∧ OnlyFlds (F.SYS_BOOT_EVT_STAGE_DONE :: slotFlds) s u ∧
      u.slotBytes s.targetSlot = bs ∧ u.flag F.SYS_BOOT_EVT_STAGE_DONE = true := by
  have hfresh : OnlyParts [.fresh] s { s with fresh := s.fresh + 3 } :=
    (Evolves.set_fresh (ps := [.fresh]) _ (Nat.le_add_right _ _) (by decide) (.refl _ s)).parts
  obtain ⟨hparts, hflds, hslot⟩ := ({ s with fresh := s.fresh + 3 } : State).fillSlot_spec s.targetSlot bs
    (setSlotState ({ s with fresh := s.fresh + 3 } : State).hdrNow s.targetSlot 1 0)
  refine ⟨((({ s with fresh := s.fresh + 3 } : State).setSlotBytes s.targetSlot bs).writeHdr
    (setSlotState ({ s with fresh := s.fresh + 3 } : State).hdrNow s.targetSlot 1 0)).event F.SYS_BOOT_EVT_STAGE_DONE,
    by simp only [State.writeSlot, if_neg hd, okReply], ?_, ?_, ?_, State.flag_event _ _ rfl⟩
  · exact (hfresh.mono (by decide)).trans ((hparts.mono (by decide)).trans ((State.event_parts _ _).mono (by decide)))
  · exact ((OnlyFlds.of_regs rfl).trans (hflds.mono (List.subset_cons_self _ _))).event _ rfl (by simp)
  · rw [State.slotBytes_congr (State.event_nvm _ _), hslot]

/-! STAGE_END from its start (R495, R517) -/

section
variable {s : State} {h : Hdr} {total : Nat} {bs : List Byte}

/-- STAGE_END as it starts, with the staging area closed. -/
def State.stageEnds (s : State) (h : Hdr) : State := (s.started h 0x0042).setStaging none

theorem State.stageEnds_parts (s : State) (h : Hdr) : OnlyParts [.gen, .gnt, .cmd] s (s.stageEnds h) :=
  ((s.started_parts h _).mono (by decide)).trans ((State.setStaging_parts _ none).mono (by decide))

theorem State.stageEnds_staging (s : State) (h : Hdr) : (s.stageEnds h).cmd.staging = none := rfl

/-- A response after STAGE_END has changed parts other than the engine leaves the staging area closed. -/
theorem State.stageEnds_closed {u : State} {qs : List Part} (hu : OnlyParts qs (s.stageEnds h) u) (hq : Part.cmd ∉ qs) (r : Reply) :
    (u.respond h 0x0042 r).cmd.staging = none := by
  rw [State.respond_staging, hu .cmd hq, State.stageEnds_staging]

/-- The response of STAGE_END, after a change of its own that sends nothing. -/
theorem State.stageEnds_acts {u : State} {r : Reply} {qs : List Part} (ps : List Part) (fs : List Fld) (hr : r.status ≠ .errSeq)
    (hu : OnlyParts qs (s.stageEnds h) u) (hf : OnlyFlds (F.SYS_CMD_EVT_RSP_READY :: fs) (s.stageEnds h) u)
    (hq : qs ⊆ answerParts ++ ps) (hsent : Part.sent ∉ qs) (hgen : Part.gen ∉ qs) (hgnt : Part.gnt ∉ qs) :
    Acts s (u.respond h 0x0042 r) h 0x0042 r ps fs := by
  have hset := (s.started h 0x0042).setStaging_parts none
  exact s.respond_acts u h _ r ps fs hr ((State.setStaging_silent _ none).trans (.of_sent (hu .sent hsent)))
    ((hset.mono (by simp [answerParts])).trans (hu.mono hq)) ((OnlyFlds.of_regs (hset .regs (by decide))).trans hf)
    ((hu .gen hgen).trans (hset .gen (by decide))) ((hu .gnt hgnt).trans (hset .gnt (by decide)))

variable (k : s.newAction h .stageEnd) (hs : s.cmd.staging = some total) (ht : s.flag F.SYS_BOOT_STAT_TRIAL = false)
  (hb : s.staged total bs)
include k hs ht hb

/-- R495: STAGE_END of an image that can be read runs by the checks of the image and by the slots, as they stand. -/
theorem exec_stageEnd_eq :
    exec (.stageEnd h) s = .next
      (if (s.imageFails bs).isSome then ((s.stageEnds h).event F.SYS_BOOT_EVT_STAGE_REJ).respond h 0x0042 (bareReply .errImage)
      else
        match s.heldImage (imageFw bs) with
        | some k => (s.stageEnds h).respond h 0x0042 ⟨.ok, { RFlags.none with already := true }, stageBody (imageFw bs) k⟩
        | none => (s.stageEnds h).writeSlot h bs) := by
  have hends := s.stageEnds_parts h
  have hregs := hends .regs (by decide)
  have hstart : (s.started h 0x0042).cmd.staging = some total := by rw [s.started_parts h _ .cmd (by decide), hs]
  have hread : (s.stageEnds h).staged total bs := State.staged_congr hregs (hends .tile (by decide)) (hends .dram (by decide)) hb
  have hend : (s.started h 0x0042).doStageEnd h = _ := State.doStageEnd_eq h hstart ((s.started_flag h _ _).trans ht) hread
  rw [← State.stageEnds, State.imageFails_congr (hends .fuses (by decide)), State.heldImage_congr hregs (hends .nvm (by decide))] at hend
  exact (exec_newAction rfl k rfl).trans (congrArg _ hend)

/-- R495: an image that fails its checks. -/
theorem exec_stageEnd_fails (hi : s.imageFails bs ≠ none) :
    ∃ t, exec (.stageEnd h) s = .next t ∧ t.cmd.staging = none ∧ t.flag F.SYS_BOOT_EVT_STAGE_REJ = true ∧
      Acts s t h 0x0042 (bareReply .errImage) [] [F.SYS_BOOT_EVT_STAGE_REJ] := by
  have hexec := exec_stageEnd_eq k hs ht hb
  rw [if_pos (Option.isSome_iff_ne_none.mpr hi)] at hexec
  have hparts := (s.stageEnds h).event_parts F.SYS_BOOT_EVT_STAGE_REJ
  refine ⟨_, hexec, State.stageEnds_closed hparts (by decide) _, ?_, ?_⟩
  · exact ((State.respond_flds_ok _ h _ _ (by decide)).flag rfl (by decide)).trans (State.flag_event _ _ rfl)
  · exact State.stageEnds_acts [] _ (by decide) hparts ((OnlyFlds.refl _ _).event _ rfl (by simp)) (by decide) (by decide) (by decide)
      (by decide)

/-- R495: an image that a slot holds. -/
theorem exec_stageEnd_held {n : Nat} (hi : s.imageFails bs = none) (hn : s.heldImage (imageFw bs) = some n) :
    ∃ t, exec (.stageEnd h) s = .next t ∧ t.cmd.staging = none ∧
      Acts s t h 0x0042 ⟨.ok, { RFlags.none with already := true }, stageBody (imageFw bs) n⟩ [] [] := by
  have hexec := exec_stageEnd_eq k hs ht hb
  rw [if_neg (by simp [hi]), hn] at hexec
  have hparts := OnlyParts.refl [] (s.stageEnds h)
  exact ⟨_, hexec, State.stageEnds_closed hparts (by decide) _,
    State.stageEnds_acts [] [] (by simp) hparts (.refl _ _) (by decide) (by decide) (by decide) (by decide)⟩

/-- R495: an image that no slot holds is written, and its read-back agrees or differs. -/
theorem exec_stageEnd_writes (hi : s.imageFails bs = none) (hn : s.heldImage (imageFw bs) = none) :
    ∃ t, exec (.stageEnd h) s = .next t ∧ t.cmd.staging = none ∧
      (t.slotBytes s.targetSlot = bs ∧ t.flag F.SYS_BOOT_EVT_STAGE_DONE = true ∧
          Acts s t h 0x0042 (okReply (stageBody (imageFw bs) s.targetSlot)) [.fresh, .nvm, .boot] (F.SYS_BOOT_EVT_STAGE_DONE :: slotFlds) ∨
        t.slotBytes s.targetSlot = [] ∧ Gives s t h 0x0042 (bareReply .errImage)) := by
  have hexec := exec_stageEnd_eq k hs ht hb
  rw [if_neg (by simp [hi]), hn] at hexec
  have hends := s.stageEnds_parts h
  have htarget : (s.stageEnds h).targetSlot = s.targetSlot :=
    State.targetSlot_congr (hends .regs (by decide)) (hends .nvm (by decide)) (hends .fresh (by decide))
  by_cases hd : (Config.freeWord ((s.stageEnds h).fresh + 1)).toNat % 2 = 1
  case pos =>
    obtain ⟨u, hwrite, hu, hslot⟩ := State.writeSlot_differs h bs hd
    have hslots := State.slotBytes_congr (u.respond_parts h 0x0042 (bareReply .errImage) .nvm (by decide)) s.targetSlot
    refine ⟨_, hexec.trans (congrArg _ hwrite), State.stageEnds_closed hu.parts (by decide) _, .inr ⟨?_, ?_⟩⟩
    · rw [hslots, ← htarget, hslot]
    · exact .after (s.stageEnds_parts h .sent (by decide) ▸ hu.sent) (u.respond_gives h _ _)
  case neg =>
    obtain ⟨u, hwrite, hparts, hflds, hslot, hdone⟩ := State.writeSlot_agrees h bs hd
    rw [htarget] at hwrite hslot
    have hslots := State.slotBytes_congr
      (u.respond_parts h 0x0042 (okReply (stageBody (imageFw bs) s.targetSlot)) .nvm (by decide)) s.targetSlot
    refine ⟨_, hexec.trans (congrArg _ hwrite), State.stageEnds_closed hparts (by decide) _, .inl ⟨hslots.trans hslot, ?_, ?_⟩⟩
    · exact ((State.respond_flds_ok _ h _ _ (by simp [okReply])).flag rfl (by decide)).trans hdone
    · exact State.stageEnds_acts _ _ (by simp [okReply]) hparts (hflds.mono (List.subset_cons_self _ _)) (by decide) (by decide) (by decide)
        (by decide)

end

end Sys2Proof.Machine
end

section
/-! CERTIFICATES. Staging (O37). -/

namespace Sys2Proof.Machine

/-- Settles O37: each row runs by the lemmas of its command, from the action's start, which leaves what they ask of the state. -/
theorem stagingWritesASlot : Obligations.StagingWritesASlot := by
  intro s h
  refine ⟨fun total k => ?begins, fun off data k => ?writes, fun k => ⟨fun hs => ?refused, fun total bs hs ht hb => ?ends⟩⟩
  case begins =>
    have hexec : exec (.stageBegin h total) s = .next ((s.started h 0x0040).doStageBegin h total) := exec_newAction rfl k rfl
    have hcmd : (s.started h 0x0040).cmd = s.cmd := s.started_parts h _ .cmd (by decide)
    have htrial := s.started_flag h 0x0040 F.SYS_BOOT_STAT_TRIAL
    refine ⟨fun hl => ?length, fun h1 h2 => ⟨fun hs => ?state, fun hs ht => ?opens⟩⟩
    case length =>
      exact ⟨_, hexec.trans (congrArg _ (State.doStageBegin_length h hl)), s.respond_acts_here h _ _ (by decide)⟩
    case state =>
      rw [← htrial, ← hcmd] at hs
      exact ⟨_, hexec.trans (congrArg _ (State.doStageBegin_state h h1 h2 hs)), s.respond_acts_here h _ _ (by decide)⟩
    case opens =>
      rw [← hcmd] at hs
      refine ⟨_, hexec.trans (congrArg _ (State.doStageBegin_opens h h1 h2 hs (htrial.trans ht))), State.respond_staging _ _ _ _, ?_⟩
      exact State.respond_acts_parts [] (by decide) (State.setStaging_parts _ _) (by decide) (by decide) (by decide) (by decide) (by decide)
  case writes =>
    have hexec : exec (.stageWrite h off data) s = .next ((s.started h 0x0041).doStageWrite h off data) := exec_newAction rfl k rfl
    have hcmd : (s.started h 0x0041).cmd = s.cmd := s.started_parts h _ .cmd (by decide)
    refine ⟨fun hs => ?closed, fun total hs hl => ?range, fun total hs hl =>
      ⟨exec_stageWrite_store k hs hl, fun a => exec_stageWrite_memory k hs hl⟩⟩
    case closed =>
      rw [← hcmd] at hs
      exact ⟨_, hexec.trans (congrArg _ (State.doStageWrite_closed h off data hs)), s.respond_acts_here h _ _ (by decide)⟩
    case range =>
      rw [← hcmd] at hs
      exact ⟨_, hexec.trans (congrArg _ (State.doStageWrite_range h hs hl)), s.respond_acts_here h _ _ (by decide)⟩
  case refused =>
    have hexec : exec (.stageEnd h) s = .next ((s.started h 0x0042).doStageEnd h) := exec_newAction rfl k rfl
    have hcmd : (s.started h 0x0042).cmd = s.cmd := s.started_parts h _ .cmd (by decide)
    rw [← s.started_flag h 0x0042, ← hcmd] at hs
    exact ⟨_, hexec.trans (congrArg _ (State.doStageEnd_state h hs)), s.respond_acts_here h _ _ (by decide)⟩
  case ends =>
    exact ⟨exec_stageEnd_fails k hs ht hb, fun _ => exec_stageEnd_held k hs ht hb, exec_stageEnd_writes k hs ht hb⟩

end Sys2Proof.Machine
end

section
/-! SUPPORT. States that meet the conditions which O7, O9, O10, O13, O14, O26, O27, O29 to O33 and O37 ask. -/

namespace Sys2Proof.Machine

/-! Queries (O7, O9, O10) -/

/-- A sender whose PTP domain 0 has heard metadata. -/
def metadataSender : State :=
  { mapSender 0 with time := { State.reset.time with domA := { State.reset.time.domA with metadata := some (⟨1, 0, 0⟩, [3, 4]) } } }

/-- O7 is about queries that there are, at tiles and at senders. -/
theorem deviceQueries_taken :
    (runningTile 0).takes firstHdr .identify ∧ (runningTile 0).takes firstHdr .status ∧
      (∀ log ∈ [0, 1], (runningTile 0).takes firstHdr (.logRead log 0 256)) ∧ (mapSender 0).takes firstHdr (.countersRead 1) ∧
      metadataSender.takes firstHdr (.ptpMetadata 0) ∧ (metadataSender.dom 0).metadata = some (⟨1, 0, 0⟩, [3, 4]) := by
  unfold State.takes
  refine ⟨?_, ?_, ?_, ?_, ?_, rfl⟩ <;> decide

/-- A tile that holds the outcomes of General's transactions 4 and 5, of which 5 was rolled back, and the responses of its action 1, to
STAGE_BEGIN; action 2 still runs. -/
def recordedTile : State :=
  { runningTile 0 with
    gen := { AuthState.fresh with
      outcomes := [⟨4, .ok, false, 0, 0, 0, true, false⟩, ⟨5, .ok, true, 0, 0, 0, false, false⟩]
      actions := [⟨1, 0, 0x0040, some (bareReply .ok)⟩, ⟨2, 0, 0x0040, none⟩]
      maxAction := 2 } }

/-- O9 is about numbers of each series that are held, that still run and that are not held. -/
theorem recordedTile_querySeq :
    (∀ series ∈ [0, 1], ∀ seq ∈ [1, 2, 3, 4, 5], recordedTile.takes firstHdr (.querySeq series seq)) ∧
      (∀ seq ∈ [3, 4, 5], recordedTile.commitPending .general seq = false) ∧
      recordedTile.actionPending .general 1 = false ∧ recordedTile.actionPending .general 2 = true ∧
      recordedTile.actionPending .general 3 = false := by
  unfold State.takes
  decide

/-- A sender whose first burst of memory has an uncorrectable error. -/
def badSender : State := { memorySender [] with dram := { State.reset.dram with bad := [(0, 1)] } }

/-- A tile that holds snapshot 7, of one part. -/
def snapshotTile : State := { runningTile 0 with snaps := [⟨7, [(1, [9, 9, 9, 9])]⟩] }

/-- O10 is about reads of windows, of memory and of snapshots that there are; `memorySender_ready` is of bursts that are ready. -/
theorem memoryQueries_taken :
    (windowTile 0 0).takes firstHdr (.memRead 0 0x800004 4) ∧ (memorySender []).takes firstHdr (.memRead 1 4 3) ∧
      badSender.takes firstHdr (.memRead 1 4 3) ∧ badSender.badWords (4 / 64) ≠ 0 ∧ 4 + 3 ≤ badSender.bufferTop ∧
      snapshotTile.takes firstHdr (.snapshotRead 7 1 0 4) := by
  unfold State.takes
  refine ⟨?_, ?_, ?_, ?_, ?_, ?_⟩ <;> decide

/-! The engine (O13, O14) -/

/-- STAGE_BEGIN at a number of General's that the record of `recordedTile` holds, with a CRC, or at one that is old. -/
def stageHdr (seq : Nat) (crc : Word) : Hdr := { firstHdr with seq := seq, crc := crc }

/-- The tile of `recordedTile`, with both of its actions answered. -/
def answeredTile : State :=
  { recordedTile with gen := { recordedTile.gen with actions := [⟨1, 0, 0x0040, some (bareReply .ok)⟩], maxAction := 2 } }

/-- O13 is about actions that run now at numbers that are held, with the CRC of the record and with another, and that are old. -/
theorem answeredTile_runsNow :
    (∀ h ∈ [stageHdr 1 0, stageHdr 1 5, stageHdr 2 0, stageHdr 0 0], answeredTile.runsNow h (.stageBegin 1024)) ∧
      kindOf (answeredTile.auth firstHdr.auth).opened.isSome (.stageBegin 1024) = .action ∧
      (answeredTile.auth .general).maxAction = 2 := by
  unfold State.runsNow State.takes
  decide

/-- A device with a value in SYS_MODE, at which a command of General's waits. -/
def queuedDevice (mode : Word) (c : HostCmd) : State :=
  { State.reset with
    regs := [(F.SYS_STRAP_ROLE.addr, 1), (F.SYS_MODE_MODE.addr, mode)]
    gen := { AuthState.fresh with queue := [(firstHdr, c)] } }

/-- O14 is about commands that wait and that may run, at a sender, and at a standby for itself and for the active; and about the start,
where no command runs. -/
theorem queuedDevice_engineRuns :
    (queuedDevice 2 .swap).engineRuns = true ∧ (queuedDevice 2 .swap).mode = .sender ∧ (queuedDevice 3 .swap).engineRuns = true ∧
      (queuedDevice 3 .swap).mode = .standby ∧ standbyOwn .stageEnd = true ∧ standbyOwn .swap = false ∧
      (queuedDevice 0 .swap).engineRuns = false := by
  decide

theorem queuedDevice_mayRun (mode : Word) (c : HostCmd) : (queuedDevice mode c).mayRun .general c = true := rfl

/-! Check units (O26, O27) -/

/-- A device whose check unit 3 has values in CFG and STAT. -/
def checkDevice (cfg stat : Word) : State :=
  { State.reset with regs := [((F.CHK_U_CFG_WIDTH 3).addr, cfg), ((F.CHK_U_STAT_OPEN 3).addr, stat)] }

/-- O26 and O27 are about configurations that are accepted and, for O26, refused, and about units that are open and closed. -/
theorem checkDevice_starts :
    (checkDevice 0x20 0).chkCfgFails 3 = false ∧ (checkDevice 0 0).chkCfgFails 3 = true ∧
      (checkDevice 0 0x80000000).flag (F.CHK_U_STAT_OPEN 3) = true ∧ (checkDevice 0 0).flag (F.CHK_U_STAT_OPEN 3) = false := by
  decide

/-! Packets (O29, O30, O31) -/

/-- A sender with a response that waits at its host SPI port. -/
def heldSender : State := { mapSender 0 with cmd := { (mapSender 0).cmd with held := some [1, 2, 3] } }

/-- O29 is about ports with a response and without one. -/
theorem heldSender_engineRuns :
    (mapSender 0).engineRuns = true ∧ (mapSender 0).cmd.held = none ∧ heldSender.engineRuns = true ∧ heldSender.cmd.held = some [1, 2, 3] := by
  decide

/-- A sender on both of its network ports, whose commissioning asks for no tag, with the packets that it assembles. -/
def networkSender (l : List UdpAssembly) : State :=
  { State.reset with
    regs := [(F.SYS_STRAP_ROLE.addr, 1), (F.SYS_MODE_MODE.addr, 2), ((F.NET_CTL_EN 0).addr, 0x80000000)]
    cmd := { State.reset.cmd with comm := some ⟨[], [], 0, 3, 0, 0, []⟩, assemblies := l } }

/-- The header of STATUS from General, number 1. -/
def statusHeader : List Byte := [0xA9, 0x01, 0x02, 0x00, 0x00, 0x01, 0x01, 0, 0, 0, 0, 0, 0, 0, 0, 0]

/-- STATUS as a packet. -/
def statusPacket : List Byte := statusHeader ++ leBytes 4 (crc32c statusHeader).toNat

/-- O30 is about packets whose CRC is good. -/
theorem statusPacket_crcGood : crcGood statusPacket = true := by
  have hlen : leAt statusPacket 10 3 = 0 := rfl
  have hbody : statusPacket.take 16 = statusHeader := rfl
  have htrailer : leAt statusPacket 16 4 = (crc32c statusHeader).toNat :=
    (leNat_leBytes 4 _).trans (Nat.mod_eq_of_lt (crc32c statusHeader).isLt)
  rw [crcGood, packetBody, hlen, htrailer, hbody, beq_self_eq_true]

/-- O30 is about packets that are whole and good. -/
theorem statusPacket_good :
    (networkSender []).framed statusPacket = true ∧ authOf (leAt statusPacket 5 1) = some .general ∧
      fieldsGood statusPacket = true ∧ readPayload (leAt statusPacket 2 2) (sub statusPacket 16 (leAt statusPacket 10 3)) = some .status ∧
      (networkSender []).cmd.comm.isSome = true ∧ (networkSender []).allowed 0 = true ∧ statusPacket.length ≤ 8192 := by
  decide

/-- O30 is about packets whose tag is good: where none is asked for, every packet's is. -/
theorem networkSender_tagGood (a : Auth) (bs : List Byte) : (networkSender []).tagGood a bs = true := by
  simp [State.tagGood, sub, tagOf, State.tagLen, networkSender]

/-- The packet 9 from address 5 with its first segment of two. -/
def halfPacket : UdpAssembly := ⟨0, 5, 7, 9, 2, [(0, [])], 0⟩

/-- The last of two segments of packet 9, with one byte. -/
def secondSegment : List Byte := [9, 0, 0, 0, 1, 2, 0, 0, 0xAA]

/-- O31 is about segments that are dropped and that are not, and about packets that are being assembled. -/
theorem networkSender_segments :
    (∀ l ∈ [[], [halfPacket]], (networkSender l).engineRuns = true ∧ (networkSender l).reaches (.udp 0 5 7 9) = true ∧
        (networkSender l).segmentDropped 5 secondSegment = false ∧ (networkSender l).segmentDropped 5 [9] = true) ∧
      (networkSender [halfPacket]).assembly 0 5 9 = some halfPacket ∧ leAt secondSegment 0 4 = 9 ∧ leAt secondSegment 5 1 ≠ 1 := by
  decide

/-! Commands that wait (O32, O33) -/

/-- A standby that has forwarded General's SWAP of number 1. -/
def forwardingStandby : State :=
  { queuedDevice 3 .swap with cmd := { State.reset.cmd with forwards := [⟨firstHdr, 0x0035, 0⟩] } }

/-- O32 is about commands that have been forwarded. -/
theorem forwardingStandby_forwardOf : forwardingStandby.forwardOf .general 1 = some ⟨firstHdr, 0x0035, 0⟩ := by decide

/-- An inner packet of TILE_CMD, of an authority. -/
def innerPacket (auth : Byte) : List Byte := (List.replicate 36 0).set 5 auth

/-- O33 is about TILE_CMDs to a tile with a session and to one without, with an inner packet of each authority. -/
theorem memorySender_tileCmd :
    (∀ l ∈ [[], openSession], ∀ auth ∈ [(1 : Byte), 2],
        (memorySender l).newAction firstHdr (.tileCmd 3 0 100 (innerPacket auth))) ∧
      leAt (innerPacket 1) 5 1 = authCode firstHdr.auth ∧ leAt (innerPacket 2) 5 1 ≠ authCode firstHdr.auth ∧
      (memorySender []).sessionOpen 3 = false ∧ (memorySender openSession).sessionOpen 3 = true := by
  unfold State.newAction State.runsNow State.takes
  decide

/-- A sender at which a TILE_CMD of General's waits for tile 3. -/
def waitingSender (single : Bool) : State :=
  { mapSender 0 with cmd := { (mapSender 0).cmd with tileCmds := [⟨firstHdr, 2, 1, single, [3], [], 500000⟩] } }

/-- O33 is about TILE_CMDs that wait, for one tile and for several. -/
theorem waitingSender_waits (single : Bool) :
    (waitingSender single).cmd.tileCmds.find? (fun w => w.hdr.auth == .general) = some ⟨firstHdr, 2, 1, single, [3], [], 500000⟩ := by
  cases single <;> decide

/-! Staging (O37) -/

/-- A device with its staging area open, for three bytes. -/
def stagingAt (s : State) : State := s.setStaging (some 3)

/-- O37 is about STAGE_BEGIN, STAGE_WRITE and STAGE_END, with the staging area closed and open, at tiles that stage in their store and at
senders that stage in memory. -/
theorem staging_newActions :
    (∀ s ∈ [runningTile 0, memorySender []], ∀ u ∈ [s, stagingAt s], ∀ c ∈ [HostCmd.stageBegin 1024, .stageWrite 0 [1, 2, 3], .stageEnd],
        u.newAction firstHdr c ∧ u.flag F.SYS_BOOT_STAT_TRIAL = false) ∧
      (runningTile 0).stagingBase = none ∧ (memorySender []).stagingBase ≠ none := by
  unfold State.newAction State.runsNow State.takes
  decide

/-- O37 is about staged images, that there are, of which three bytes fail their checks. -/
theorem stagingAt_staged :
    (stagingAt (runningTile 0)).staged 3 ((stagingAt (runningTile 0)).storeBytes 0x18A0000 3) ∧
      (stagingAt (runningTile 0)).imageFails ((stagingAt (runningTile 0)).storeBytes 0x18A0000 3) ≠ none := by
  refine ⟨.inl ⟨rfl, rfl⟩, ?_⟩
  have hlen : ((stagingAt (runningTile 0)).storeBytes 0x18A0000 3).length = 3 := by simp [State.storeBytes_eq]
  rw [State.imageFails, if_pos (.inl (by omega))]
  exact nofun

end Sys2Proof.Machine
end
